-- ==== Sys2Proof/Word.lean ====
section
/-!
DEFINITION. The plain words of the model: a byte, and the numbered things of the package (R10).
-/
namespace Sys2Proof

/-- One byte of an object value, a frame or a record. -/
abbrev Byte := BitVec 8

/-- CH000 to CH511. -/
abbrev Chan := Fin 512
/-- BK00 to BK31. -/
abbrev Bank := Fin 32
/-- CD0 to CD3. -/
abbrev Die := Fin 4
/-- TN00 to TN15. -/
abbrev Tenant := Fin 16
/-- CV0 to CV3. -/
abbrev Conv := Fin 4
/-- L00 to L15. -/
abbrev Lane := Fin 16
/-- Q0000 to Q8191. -/
abbrev RingId := Fin 8192
/-- DS0 to DS31. -/
abbrev StreamId := Fin 32
/-- TG0 to TG63. -/
abbrev TargetId := Fin 64
/-- PR00 to PR63. -/
abbrev Pair := Fin 64
/-- Housekeeping sequences 0 to 3. -/
abbrev Seq := Fin 4
/-- Housekeeping entries 0 to 63. -/
abbrev Entry := Fin 64
/-- TS00 to TS35. -/
abbrev Sensor := Fin 36
/-- CAN0 and CAN1. -/
abbrev CanPort := Fin 2
/-- PCI Express functions 0 to 3. -/
abbrev Func := Fin 4
/-- RSO00 to RSO15. -/
abbrev Rso := Fin 16

end Sys2Proof
end

