-- ==== Sys2Proof/Syntax.lean ====
section
/-!
DEFINITION. The commands and events of the block (spec/opcode_table.json), with the operands that each carries from
outside. A row that reports something physical (a sample, a crossing, a frame that arrives) carries what arrives.
-/
namespace Sys2Proof

/-- R65: a port endpoint. Node IDs, chip selects, functions and target addresses are the ADDRESS field of ENDPOINT. -/
inductive Endpoint where
  | can (port : CanPort) (node : Nat)
  | spi (cs : Nat)
  | pcie (f : Func)
  | twoWire (addr : Nat)
  deriving DecidableEq, Repr

/-- What an opening meets (R268, R275): µs from the start of the oscillator to the lock of the root PLL, whether an
external clock drives XI, the straps as each read finds them, for each die the lanes that train and in how many µs, the µs
that reading the records takes, the µs to the end of step 6 (from the origin of R268 in an opening after a full reset,
otherwise from the release), the µs that bringing up TN00's endpoint alone takes, the regions of the retained SRAM whose
check fails, the step at which the control die hangs, 0 for none, and whether the key store is found bad (R454). -/
structure Opening where
  clockUs : Nat
  external : Bool
  straps : List Nat
  lanes : List (Nat × Nat)
  recordsUs : Nat
  readyUs : Nat
  bringUs : Nat
  lost : Nat
  hang : Nat
  badKeys : Bool := false
  deriving DecidableEq, Repr

/-- What a block hands to the collector that no other command reports (R306, R326): a message whose kind no chapter lists; a
corrected memory error; an uncorrectable one in memory that holds no critical table, with the objects whose values no source
gives back and the records, by their ring and their place in it from 0, that it costs. -/
inductive Report where
  | unknown (code site : Nat)
  | corrected (site addr syndrome : Nat)
  | uncorrectable (site addr words : Nat) (values : List Nat) (records : List (Nat × Nat))
  deriving DecidableEq, Repr

/-- The commands and events of the block: one constructor for each row of spec/opcode_table.json, in its order. -/
inductive Instr where
  /-- FRAME_BOUNDARY (R26): At each 20 µs frame boundary the dies apply the commands and staged sets received, start the frame's rounds and model updates, and the control die runs admission. -/
  | frameBoundary
  /-- MEASUREMENT_ROUND (R97): Each 4 µs round the bank SAR converts the 16 currents and 16 load voltages of its bank, and the calibration converter converts its input. Operands: the sixteen shunt voltages in nV, the sixteen load voltages, VBUS, VCP - VBUS, BSWB, BSWN and ASV, in 0.1 mV. -/
  | measurementRound (k : Bank) (vsh : List Int) (vload : List Int) (vbus : Int) (headroom : Int) (bswb : Int) (bswn : Int) (asv : Int)
  /-- UPLINK_FRAME_RECEIVED (R27): The control die receives and validates an uplink frame of frame summaries, status and event blocks. Operands: the die, whether the frame is valid, its bad blocks, and the channels whose summaries were lost in them. -/
  | uplinkFrameReceived (d : Die) (valid : Bool) (errors : Nat) (lost : List Nat)
  /-- DOWNLINK_FRAME_RECEIVED (R15): A channel die receives a downlink frame, checks it, and acknowledges each command block it accepts. Operands: the die, whether the frame is valid, its bad blocks, and which of the commands that it carries to the die, counted from 0 in order of acceptance, stood in them (none where left out). -/
  | downlinkFrameReceived (d : Die) (valid : Bool) (errors : Nat) (lost : List Nat := [])
  /-- EVENT_BLOCK_RECEIVED (R14): An event block from a detector reaches the control die and is handed to the fault collector. -/
  | eventBlockReceived (d : Die)
  /-- LINK_RETRAIN (R16): After three consecutive invalid frames the control die retrains the Amlor link. -/
  | linkRetrain (d : Die)
  /-- LINK_TRAINED (R17): A link completes training on two lanes, or on one lane with LINK_STATE 3, and the die's standing flags and held records return. Operands: the die, and whether both lanes trained. -/
  | linkTrained (d : Die) (two : Bool)
  /-- LINK_LOSS_STANDING (R16): A channel die that has received no valid downlink frame for 200 µs applies its standing orders with cause 1. -/
  | linkLossStanding (d : Die)
  /-- CONTROL_DIE_RESET_INDICATION (R113): The control-die reset indication makes each channel die apply its standing orders with cause 2 within 4 µs. -/
  | controlDieResetIndication
  /-- STAND_BLOCK (R113): A STAND block from a house stop or Park entry makes the die stand at the next round boundary. -/
  | standBlock (d : Die)
  /-- REFERENCE_EDGE_LOSS (R22): No reference edge for 2 µs switches the root PLL to the internal oscillator and raises CLOCK_FALLBACK. -/
  | referenceEdgeLoss
  /-- REFERENCE_FREQUENCY_CHECK (R22): Every 100 µs the frequency monitor judges the reference and falls back when it is more than 5 % off. Operand: how far the reference is off, in ppm. -/
  | referenceFrequencyCheck (ppm : Int)
  /-- DIE_REFERENCE_LOSS (R23): A channel die that loses its forwarded reference switches to its on-die oscillator within 5 µs. -/
  | dieReferenceLoss (d : Die)
  /-- OBJECT_WRITE (R33): A write to an object without a row of its own is checked for existence, access, size, range and commit class, and is then applied or staged. Operands: the endpoint that writes, the object address and the value bytes. -/
  | objectWrite (ep : Endpoint) (addr : Nat) (data : List Byte)
  /-- LEVEL_VIEW_WRITE (R174): A write to the BN5208 level view is translated into staged window fields. Operands: the endpoint that writes, the channel, which of the four level-view subindexes, and the value. -/
  | levelViewWrite (ep : Endpoint) (n : Chan) (sub : Fin 4) (v : Int)
  /-- COMMIT (R40): A COMMIT write runs checks 1 to 7 and is accepted, rejected or left waiting for staging acknowledgements. Operands: the endpoint that writes, and the value of R39. -/
  | commit (ep : Endpoint) (v : Nat)
  /-- COMMIT_STAGE_ACK (R42): The arrival of the last outstanding staging acknowledgement accepts a waiting commit. -/
  | commitStageAck (t : Tenant)
  /-- COMMIT_STAGE_ACK_TIMEOUT (R42): A staging block still unacknowledged at the end of the wait rejects the commit with STAGE_ACK. -/
  | commitStageAckTimeout (t : Tenant)
  /-- DISCARD (R47): Writing 0xA5 to DISCARD empties the staging copy and cancels an unflagged commit. The operand ep is the endpoint that writes. -/
  | discard (ep : Endpoint)
  /-- SYNC_RECEIVED (R52): A complete SYNC drives synchronous PDOs and judges every pending SYNC-aligned commit of its port. Operands: the port, and the counter if the SYNC carries one. -/
  | syncReceived (p : CanPort) (counter : Option Nat)
  /-- SYNC_TIMEOUT (R52): No SYNC for 1 s on its port rejects a pending SYNC-aligned commit. -/
  | syncTimeout (p : CanPort)
  /-- BARRIER_ID (R55): Writing BARRIER_ID opens a barrier that holds the tenant's later writes back. Operands: the endpoint that writes, and the identifier. -/
  | barrierId (ep : Endpoint) (v : Nat)
  /-- BARRIER_DONE (R55): When every earlier write has taken effect the barrier closes, BARRIER_DONE is set and the queued writes go on. -/
  | barrierDone (t : Tenant)
  /-- AUDIT_SWEEP_START (R62): At a 100 ms point of the tick an audit sweep takes its snapshot frame. -/
  | auditSweepStart
  /-- AUDIT_SWEEP_END (R62): A sweep ends and publishes every digest together. Operand: for each channel die, the bits by which upsets of what it holds change its digest. -/
  | auditSweepEnd (upsets : List Nat)
  /-- DIE_RECHECK (R64): After the resend is acknowledged, the die's digest is computed again and a mismatch raises DRIFT_PERSISTENT. Operands: the die, and the bits by which upsets that remain change its digest. -/
  | dieRecheck (d : Die) (upset : Nat)
  /-- TENANT_RESET (R80): A TENANT_RESET write of 0xA5 puts the tenant in STATE 3 and closes its open barriers. Operands: the endpoint that writes, and the tenant to be reset. -/
  | tenantReset (ep : Endpoint) (t : Tenant)
  /-- TRUMP_RELEASE (R76): A TRUMP_RELEASE write clears the channel's TRUMP_HELD bit at its landing boundary. Operands: the endpoint that writes, the tenant object written, and the channel. -/
  | trumpRelease (ep : Endpoint) (t : Tenant) (n : Nat)
  /-- REQUEST_OFF (R95): REQUEST 0 turns the channel off by its sink stage, withdraws admission or ends retries. The operand ep is the endpoint that writes. -/
  | requestOff (ep : Endpoint) (n : Chan)
  /-- REQUEST_ON (R95): REQUEST 1 asks for admission and a ramp from OFF, or moves a channel in PWM to ON. The operand ep is the endpoint that writes. -/
  | requestOn (ep : Endpoint) (n : Chan)
  /-- REQUEST_PWM (R95): REQUEST 2 starts PWM from OFF after admission and a ramp, or from ON at the next phase instant. The operand ep is the endpoint that writes. -/
  | requestPwm (ep : Endpoint) (n : Chan)
  /-- CLEAR_LOCKOUT (R96): Writing 0xA5 moves a locked-out channel to OFF with REQUEST 0. The operand ep is the endpoint that writes. -/
  | clearLockout (ep : Endpoint) (n : Chan)
  /-- RELEASE_STANDING (R117): Writing 0xA5 releases a standing channel into the state that STANDING_GATE and REQUEST give. The operand ep is the endpoint that writes. -/
  | releaseStanding (ep : Endpoint) (n : Chan)
  /-- RAMP_DONE (R94): A ramp ends in ON after 2 rounds with the drop at most RAMP_DONE_DROP and VGS above 9 V. Operands: VBUS - VLOAD and VGS of the two rounds, 0.1 mV. -/
  | rampDone (n : Chan) (drop1 : Int) (drop2 : Int) (vgs1 : Int) (vgs2 : Int)
  /-- RAMP_TIMEOUT (R94): A ramp not ended within RAMP_TIMEOUT of its start trips the channel with cause 5. Operands: VGS and load voltage, 0.1 mV. -/
  | rampTimeout (n : Chan) (vgs : Int) (vload : Int)
  /-- PUMP_START_TIMEOUT (R92): A pump not ready 200 µs after its start sets PUMP_LOW and raises CHARGE_PUMP_LOW. -/
  | pumpStartTimeout (k : Bank)
  /-- PUMP_HEADROOM_LOW (R92): Headroom below 9.0 V for 20 µs on a ready pump sets PUMP_LOW and raises CHARGE_PUMP_LOW. Operand: VCP - VBUS, 0.1 mV. -/
  | pumpHeadroomLow (k : Bank) (headroom : Int)
  /-- PUMP_STOP (R91): The bank pump stops 1 ms after the last channel that needs it leaves. -/
  | pumpStop (k : Bank)
  /-- BUS_UNDERVOLTAGE (R93): VBUS below BUS_UV_LEVEL for 20 µs sets BUS_UV and pauses ramps and PWM rising edges. Operand: VBUS, 0.1 mV. -/
  | busUndervoltage (k : Bank) (vbus : Int)
  /-- CALIBRATION_POSITION_END (R99): At the end of a 1,024-round calibration position the new coefficients are judged and take effect. Operands: the gains measured, in 0.1 ppm from 1, and the offsets, in nV at the path input. -/
  | calibrationPositionEnd (k : Bank) (gainI : Int) (offsetI : Int) (gainV : Int) (offsetV : Int)
  /-- PWM_PHASE_INSTANT (R107): At a phase instant a PWM period begins and its rising edge is placed. -/
  | pwmPhaseInstant (n : Chan)
  /-- PWM_OFF_EDGE (R106): At the planned off edge of an on-time the gate falls by its sink stage. -/
  | pwmOffEdge (n : Chan)
  /-- CAPTURE_ARM (R110): Writing 0xA5 empties the capture buffer and arms it from the next frame boundary. The operand ep is the endpoint that writes. -/
  | captureArm (ep : Endpoint) (d : Die)
  /-- CAPTURE_TRIGGER (R110): The trigger of the armed capture fires and the buffer fills its post-trigger samples. -/
  | captureTrigger (d : Die)
  /-- CAPTURE_COMPLETE (R111): The capture buffer fills, CAPTURE_STATE becomes 3 and CAPTURE_COMPLETE is raised. -/
  | captureComplete (d : Die)
  /-- LOGIC_DOMAIN_FAIL (R118): A die's logic domain fails while VBUS is present and the anchored latches hold their states. -/
  | logicDomainFail (d : Die)
  /-- ANCHOR_BROWNOUT (R118): On the return of the logic, the die resets its logic, stands with cause 4 and raises ANCHOR_BROWNOUT. -/
  | anchorBrownout (d : Die)
  /-- HARD_SHORT_TRIP (R122): A hard-short crossing of 150 ns or more starts the emergency pull-down and trips the channel. Operands: how long the crossing lasts, in ns, and SRC - LOAD during it, in nV. -/
  | hardShortTrip (n : Chan) (ns : Nat) (vsh : Int := 0)
  /-- LIMIT_ENTERED (R125): A shunt voltage above the effective limit level puts the channel in LIMIT. Operand: the shunt voltage, nV. -/
  | limitEntered (n : Chan) (vsh : Int)
  /-- LIMIT_SATURATED_EXIT (R126): A loop held near VCPk for 2 rounds returns the channel from LIMIT to its former state. Operands: VCP - VGATE in the two rounds, 0.1 mV. -/
  | limitSaturatedExit (n : Chan) (room1 : Int) (room2 : Int)
  /-- LIMIT_TIMEOUT_TRIP (R127): Time in LIMIT within one episode reaching LIMIT_MAX_TIME trips the channel with cause 4. -/
  | limitTimeoutTrip (n : Chan)
  /-- TRIP_SETTLED (R135): Once VGS is below 1 V and the trip frame has ended, the channel moves to RETRY or LOCKOUT. Operand: VGS, 0.1 mV. -/
  | tripSettled (n : Chan) (vgs : Int)
  /-- RETRY_DUE (R136): The retry wait ends with no cooling owed and the channel asks for admission. -/
  | retryDue (n : Chan)
  /-- RETRY_RESET_TIME (R137): RETRY_RESET_TIME in ON or PWM without a trip restores RETRIES_LEFT. -/
  | retryResetTime (n : Chan)
  /-- LAMP_ENVELOPE_END (R146): LAMP_DECAY_TIME after a ramp start or rising edge the lamp envelope ends. -/
  | lampEnvelopeEnd (n : Chan)
  /-- OPEN_LAMP (R148): A lamp current below its open fraction for 50 frames sets OPEN_LAMP. -/
  | openLamp (n : Chan)
  /-- SWAP_REQUEST (R151): A SWAP_REQUEST begins a castling swap when its conditions hold, or ends with result 4. Operands: the endpoint that writes, the pair, and whether channel B comes in. -/
  | swapRequest (ep : Endpoint) (p : Pair) (b : Bool)
  /-- SWAP_OVERLAP_END (R152): At the first boundary OVERLAP after the incoming ON the outgoing channel turns off and SWAP_DONE is raised. -/
  | swapOverlapEnd (p : Pair)
  /-- SWAP_TIMEOUT (R153): An incoming channel not ON by SWAP_TIMEOUT aborts the swap with result 2. -/
  | swapTimeout (p : Pair)
  /-- PLAN_START (R165): A START write begins the plan at its landing boundary. Operands: the endpoint that writes, and the plan: 0 Opening, 1 Endgame. -/
  | planStart (ep : Endpoint) (p : Fin 2)
  /-- PLAN_ABORT (R166): An ABORT write ends the running plan with RESULT 4. Operands: the endpoint that writes, and the plan. -/
  | planAbort (ep : Endpoint) (p : Fin 2)
  /-- RESOLVE_SKIP (R163): A RESOLVE with operation 0 skips a held step. Operands: the endpoint that writes, the plan, and the step. -/
  | resolveSkip (ep : Endpoint) (p : Fin 2) (i : Nat)
  /-- RESOLVE_RETRY (R163): A RESOLVE with operation 1 makes a held step act again with a fresh snapshot. Operands: the endpoint that writes, the plan, and the step. -/
  | resolveRetry (ep : Endpoint) (p : Fin 2) (i : Nat)
  /-- STEP_DELAY_END (R160): A ready step's DELAY passes and it acts at the next evaluation. Operands: the plan (0 Opening, 1 Endgame) and the step, counted from 0. -/
  | stepDelayEnd (p : Fin 2) (i : Fin 128)
  /-- STALEMATE (R162): A step's stalemate timer reaches TIMEOUT and its POLICY applies. Operands as STEP_DELAY_END. -/
  | stalemate (p : Fin 2) (i : Fin 128)
  /-- DISCHARGE_TIMEOUT (R164): DISCHARGE_TIMEOUT ends a WAIT_DISCHARGED step and marks undischarged members. Operands as STEP_DELAY_END. -/
  | dischargeTimeout (p : Fin 2) (i : Fin 128)
  /-- ENDGAME_TRIGGER (R167): A wake input inactive for TRIGGER_DELAY starts Endgame at the next boundary. Operand: how long the selected input has been inactive, in µs. -/
  | endgameTrigger (us : Nat)
  /-- UNDERVOLTAGE (R169): UV_SET_FILTER consecutive values below UV_LEVEL set UNDER. -/
  | undervoltage (n : Chan)
  /-- OVERVOLTAGE (R169): OV_SET_FILTER consecutive values above OV_LEVEL set OVER. -/
  | overvoltage (n : Chan)
  /-- UNDER_CLEARED (R169): UV_CLEAR_FILTER consecutive values at or above the upper hysteresis clear UNDER and NEAR_LOW. -/
  | underCleared (n : Chan)
  /-- OVER_CLEARED (R169): OV_CLEAR_FILTER consecutive values at or below the lower hysteresis clear OVER and NEAR_HIGH. -/
  | overCleared (n : Chan)
  /-- RSO_RELEASE (R176): With FORCE 0 and the source good for STRETCH, the output releases. -/
  | rsoRelease (r : Rso)
  /-- RSO_FORCE_ASSERT (R177): FORCE 1 asserts the reset output at its landing boundary. The operand ep is the endpoint that writes. -/
  | rsoForceAssert (ep : Endpoint) (r : Rso)
  /-- RSO_FORCE_RELEASE (R177): FORCE 0 lets the output follow its source again. The operand ep is the endpoint that writes. -/
  | rsoForceRelease (ep : Endpoint) (r : Rso)
  /-- KEEPER_REPORT_TOGGLE (R178): During a keeper hold each KEEPER_REPORT output changes every 500 ms. -/
  | keeperReportToggle (r : Rso)
  /-- COUNTER_CLEAR (R179): Writing 0xA5 clears a channel's per-rail counters. The operand ep is the endpoint that writes. -/
  | counterClear (ep : Endpoint) (n : Chan)
  /-- RECORD_STORE_PERIODIC_WRITE (R258): Every 10 minutes of powered time LIFETIME_TRIPS and the battery record are written to the record store. -/
  | recordStorePeriodicWrite
  /-- BATTERY_RECORD_WRITTEN (R258): A battery record write completes and its SEQUENCE advances. -/
  | batteryRecordWritten
  /-- ENABLE_ON (R199): ENABLE 1 on an OFF converter starts offset measurement and the start sequence. The operand ep is the endpoint that writes. -/
  | enableOn (ep : Endpoint) (m : Conv)
  /-- CONVERTER_START_CHECK (R199): At +6.4 µs the start checks run and either refuse the start or begin soft start. Operands: the output samples of the measurement in nV at the sense input, newest last, and the offsets of the 16 lanes in µV. -/
  | converterStartCheck (m : Conv) (samples offsets : List Int)
  /-- ENABLE_OFF (R202): ENABLE 0 stops the converter at its landing boundary, or ends LATCHED. The operand ep is the endpoint that writes. -/
  | enableOff (ep : Endpoint) (m : Conv)
  /-- CONVERTER_CYCLE_END (R194): At each cycle end the voltage loop updates when due and the limit cycles are counted. Operand: the output samples of the cycle in nV at the sense input, newest last. -/
  | converterCycleEnd (m : Conv) (samples : List Int)
  /-- LANE_PERIOD_END (R195): At each lane period end the current loop updates the duty of period p + 2. Operands: the mean of the lane's sense input, and the output's sense input at the start of the next period, in nV. -/
  | lanePeriodEnd (l : Lane) (vcs : Int) (vs : Int)
  /-- SHARE_IMBALANCE (R198): A lane outside SHARE_TOLERANCE for 500 boundaries sets SHARE_IMBALANCE. -/
  | shareImbalance (l : Lane)
  /-- TRUNCATION_CROSSING (R205): The truncation comparator ends the PWMH pulses of every lane within 25 ns. Operands: the output's sense input in nV, and how many steps into the period of each of the 16 lanes the crossing lies. -/
  | truncationCrossing (m : Conv) (vs : Int := 0) (steps : List Nat := List.replicate 16 0)
  /-- TRUNCATION_LATCH (R208): An episode lasting TRUNC_LATCH_TIME latches the converter with cause 2. -/
  | truncationLatch (m : Conv)
  /-- PEAK_CUT (R209): A lane's peak comparator ends its PWMH pulse within 40 ns. Operands: how many steps into the pulse the crossing lies, and the lane's sense input in nV. -/
  | peakCut (l : Lane) (step : Nat) (vcs : Int := 0)
  /-- HICCUP_RESUME (R210): At the end of HICCUP_TIME the converter restarts without the checks. Operands as CONVERTER_START_CHECK. -/
  | hiccupResume (m : Conv) (samples offsets : List Int)
  /-- HICCUP_RESET_TIME (R211): HICCUP_RESET_TIME in RUN with no hiccup restores HICCUPS_LEFT. -/
  | hiccupResetTime (m : Conv)
  /-- FAULT_RECORD_WRITTEN (R215): The record-store engine finishes a converter fault record. -/
  | faultRecordWritten (m : Conv)
  /-- CONVERTER_UNDERVOLTAGE (R214): The converter output window sets UNDER. Operand: the output samples of the last rounds, or frames by FILTER_UNIT, newest last, in nV at the sense input. -/
  | converterUndervoltage (m : Conv) (units : List (List Int))
  /-- CONVERTER_OVERVOLTAGE (R214): The converter output window sets OVER. Operand: the output samples of the last rounds, or frames by FILTER_UNIT, newest last, in nV at the sense input. -/
  | converterOvervoltage (m : Conv) (units : List (List Int))
  /-- SWITCH_MODE_OPEN (R223): MODE 0 pulls both battery-switch gates down within 2 µs. The operand ep is the endpoint that writes. -/
  | switchModeOpen (ep : Endpoint)
  /-- SWITCH_MODE_IDEAL_DIODE (R223): MODE 1 puts the battery switch in diode regulation. The operand ep is the endpoint that writes. -/
  | switchModeIdealDiode (ep : Endpoint)
  /-- SWITCH_MODE_CLOSED (R223): MODE 2 enters IDEAL_DIODE and waits to close both gates. The operand ep is the endpoint that writes. -/
  | switchModeClosed (ep : Endpoint)
  /-- SWITCH_CLOSE_DONE (R223): Both gates close at the first round with the switch voltage within 0.5 V. Operand: BSWB - BSWN, 0.1 mV. -/
  | switchCloseDone (diff : Int)
  /-- CLOSE_DEFERRED (R223): After 1 s of waiting to close, CLOSE_DEFERRED is raised once. Operand: BSWB - BSWN, 0.1 mV. -/
  | closeDeferred (diff : Int)
  /-- IDEAL_DIODE_REVERSE (R223): BSWN rising above BSWB pulls the network-side gate to BSWS within 1 µs. Operand: BSWN - BSWB, 0.1 mV. -/
  | idealDiodeReverse (excess : Int)
  /-- SWITCH_SHORT_TRIP (R224): The switch voltage above SHORT_LEVEL for 1 µs latches OPEN with the trip mark set. Operands: BSWB - BSWN in 0.1 mV, and how long it lasts, in µs. -/
  | switchShortTrip (diff : Int) (us : Nat)
  /-- SWITCH_UV_CUTOFF (R225): BSWB below UV_CUTOFF for UV_CUTOFF_TIME latches OPEN. Operands: BSWB in 0.1 mV, and how long it has stayed there, in µs. -/
  | switchUvCutoff (bswb : Int) (us : Nat)
  /-- CLOSED_CHARGE_DROP (R226): Charge current above the limit for 1 ms in CLOSED returns the switch to IDEAL_DIODE. Operand: the four battery current samples of a millisecond, 0.1 mA. -/
  | closedChargeDrop (samples : List Int)
  /-- SWITCH_DRIVER_POWER_UP (R222): BSWB applied to an unpowered driver sets IDEAL_DIODE with the trip mark clear. -/
  | switchDriverPowerUp
  /-- SWITCH_DRIVER_POWER_LOSS (R222): BSWB lost unpowers the driver and loses the mode and trip mark. -/
  | switchDriverPowerLoss
  /-- CHARGE_ENABLE_ON (R227): CHARGE_ENABLE 1 checks the settings and enters QUALIFY or FAULT. The operand ep is the endpoint that writes. -/
  | chargeEnableOn (ep : Endpoint)
  /-- CHARGE_ENABLE_OFF (R227): CHARGE_ENABLE 0 sets PHASE to OFF and returns CV1 to its own objects. The operand ep is the endpoint that writes. -/
  | chargeEnableOff (ep : Endpoint)
  /-- CHARGE_PULSE_END (R232): A charge pulse's on-time ends and a rest begins. -/
  | chargePulseEnd
  /-- CHARGE_REST_END (R229): A rest ends, its rest voltage is judged and the next phase or pulse is decided. Operands over the last millisecond: the mean of BSWB in 0.1 mV, the battery current sample of largest magnitude and the mean of the samples in 0.1 mA. -/
  | chargeRestEnd (v : Int) (imax : Int) (imean : Int)
  /-- PULSE_CUT_DIODE (R228): The ideal diode conducting forward for 1 ms of a pulse ends the pulse. Operand: how long the diode has conducted forward in the pulse, in µs. -/
  | pulseCutDiode (us : Nat)
  /-- HOLD_REST_SAMPLE (R232): In HOLD a rest voltage is taken every 60 s. Operands as CHARGE_REST_END. -/
  | holdRestSample (v : Int) (imax : Int) (imean : Int)
  /-- QUALIFY_TIMEOUT (R232): QUALIFY not left within QUALIFY_TIMEOUT puts the charger in FAULT with cause 1. -/
  | qualifyTimeout
  /-- CHARGE_TIMEOUT (R234): Bulk and taper time above CHARGE_TIMEOUT puts the charger in FAULT with cause 2. -/
  | chargeTimeout
  /-- BTN_PRESS (R236): A press of BTN held 20 ms is recognised. -/
  | btnPress
  /-- BTN_RELEASE (R237): A release of BTN ends a press, and a short press while ship is armed enters ship mode. -/
  | btnRelease
  /-- LONG_PRESS (R236): A press held 10 s stops the converters, releases PON and latches the switch OPEN. -/
  | longPress
  /-- LONG_PRESS_SWITCH_RESTORE (R236): At +12 s the switch driver returns to IDEAL_DIODE and clears the trip mark. -/
  | longPressSwitchRestore
  /-- SHIP_ARM (R237): SHIP_ARM 0xA5 arms ship mode. The operand ep is the endpoint that writes. -/
  | shipArm (ep : Endpoint)
  /-- SHIP_CANCEL (R237): SHIP_ARM 0x5A cancels the arming. The operand ep is the endpoint that writes. -/
  | shipCancel (ep : Endpoint)
  /-- SHIP_WINDOW_END (R237): SHIP_WINDOW passing ends the arming. -/
  | shipWindowEnd
  /-- SHIP_EXIT (R238): A wake in Ship latches IDEAL_DIODE and the device opens. -/
  | shipExit
  /-- ASSIST_START (R239): ASSIST_START 0xA5 begins a session that checks the cable over 10 ms. The operand ep is the endpoint that writes. -/
  | assistStart (ep : Endpoint)
  /-- ASSIST_CHECK (R239): After the 10 ms mean the session is refused or enters PRECHARGE or MATCHING. Operand: the mean of ASV over 10 ms, 0.1 mV. -/
  | assistCheck (asv : Int)
  /-- ASSIST_PRECHARGE_DONE (R240): ASV at 5 V or above for 1 s moves the session to SUPPLYING. Operands: ASV in 0.1 mV, and how long it has stayed at that or above, in µs. -/
  | assistPrechargeDone (asv : Int) (us : Nat)
  /-- ASSIST_PRECHARGE_TIMEOUT (R240): PRECHARGE_TIME passing first ends the session with result 5. -/
  | assistPrechargeTimeout
  /-- ASSIST_MATCH (R240): The output matching ASV closes the assist switch and enters SUPPLYING. Operand: VOUT_INST - ASV, 0.1 mV. -/
  | assistMatch (diff : Int)
  /-- ASSIST_MATCH_TIMEOUT (R240): No match within 100 ms ends the session with result 8. -/
  | assistMatchTimeout
  /-- ASSIST_STOP (R241): ASSIST_STOP 0xA5 ends the session with result 1. The operand ep is the endpoint that writes. -/
  | assistStop (ep : Endpoint)
  /-- ASSIST_SESSION_TIMEOUT (R241): SESSION_TIMEOUT ends the session with result 2. -/
  | assistSessionTimeout
  /-- ASSIST_FOREIGN_OVERVOLTAGE (R241): ASV above the maximum for 10 ms ends the session with result 6. Operands: ASV in 0.1 mV, and how long it has stayed above, in µs. -/
  | assistForeignOvervoltage (asv : Int) (us : Nat)
  /-- ASSIST_SWITCH_OPEN (R241): 10 ms after an ordinary end the assist switch opens and ASSIST_ENDED is raised. -/
  | assistSwitchOpen
  /-- SIGMA_SAMPLE (R248): Every 250 µs a battery sample adds its charge to CHARGE. Operand: the 24-bit sample. -/
  | sigmaSample (code : Int)
  /-- ESTIMATOR_UPDATE (R249): Each second the state of charge is updated from the counted charge. -/
  | estimatorUpdate
  /-- LONG_REST (R250): Current within the rest band for EST_REST_TIME takes a long rest voltage. -/
  | longRest
  /-- RESISTANCE_SAMPLE (R257): At the fourth millisecond of a pulse after a valid rest a resistance sample is taken. Operands: the means of BSWB in 0.1 mV and of the battery current in 0.1 mA over the fourth millisecond. -/
  | resistanceSample (v : Int) (i : Int)
  /-- BATTERY_REPLACED (R261): BATTERY_REPLACED 0xA5 empties the battery record and clears learned values. The operand ep is the endpoint that writes. -/
  | batteryReplaced (ep : Endpoint)
  /-- VBAT_BROWNOUT (R263): VBAT below its falling threshold starts a full reset. -/
  | vbatBrownout
  /-- VH_BROWNOUT (R263): VH below 4.5 V for 2 µs starts a full reset. Operands: VH in 0.1 mV, and how long it has stayed there, in µs. -/
  | vhBrownout (vh : Int) (us : Nat)
  /-- VCORE_BROWNOUT (R263): VCORE 60 mV below its level for 2 µs starts a control-die reset. Operands: VCORE in 0.1 mV, and how long it has stayed there, in µs. -/
  | vcoreBrownout (v : Int) (us : Nat)
  /-- VIO_BROWNOUT (R263): VIO below 2.9 V for 2 µs starts a control-die reset. Operands: VIO in 0.1 mV, and how long it has stayed there, in µs. -/
  | vioBrownout (v : Int) (us : Nat)
  /-- RSTIN_N_LOW (R264): A low pulse on RSTIN_N of 20 µs or more starts a control-die reset. Operand: how long the pulse lasts, in µs. -/
  | rstinNLow (us : Nat)
  /-- LOCKSTEP_MISMATCH (R263): A disagreement of the control cores starts a control-die reset. -/
  | lockstepMismatch
  /-- CRITICAL_MEMORY_ERROR (R263): An uncorrectable error in a critical table resets the control die or the channel die holding it. Operands: the channel die that holds the table, if it is not the control die, and the site of the detector. -/
  | criticalMemoryError (die : Option Die) (site : Nat)
  /-- DEVICE_RESET_CONTROL_DIE (R263): DEVICE_RESET 0xA5 starts a control-die reset. The operand ep is the endpoint that writes. -/
  | deviceResetControlDie (ep : Endpoint)
  /-- DEVICE_RESET_FULL (R263): DEVICE_RESET 0x5A starts a full reset. The operand ep is the endpoint that writes. -/
  | deviceResetFull (ep : Endpoint)
  /-- RESET_RELEASE (R266): When its conditions hold the reset is released and the parts come out in order. Operand: what the opening meets. -/
  | resetRelease (o : Opening)
  /-- PROFILE_CHANNEL_REQUEST (R273): At 3.5 ms plus rank times spacing the REQUEST of a profile channel is set to 1. -/
  | profileChannelRequest
  /-- ARBITER_PORT_RETRY (R278): After a stop at step 6 the arbiter endpoint bring-up is retried every 100 ms. Operand: whether the bring-up succeeds. -/
  | arbiterPortRetry (ok : Bool)
  /-- OPENING_RESUME (R278): OPENING_RESUME 0xA5 tries the stopped step once more by fallback. The operand ep is the endpoint that writes. -/
  | openingResume (ep : Endpoint)
  /-- JOURNAL_ACK (R277): JOURNAL_ACK 0xA5 clears the skip marks from the next opening. The operand ep is the endpoint that writes. -/
  | journalAck (ep : Endpoint)
  /-- VBAT_OVERVOLTAGE (R282): VBAT above the lockout threshold stops HR0. Operand: VBAT, 0.1 mV. -/
  | vbatOvervoltage (vbat : Int)
  /-- VBAT_OVERVOLTAGE_END (R282): VBAT 1.5 V below the threshold restarts HR0. Operand: VBAT, 0.1 mV. -/
  | vbatOvervoltageEnd (vbat : Int)
  /-- HR_CURRENT_LIMIT (R285): A house regulator entering current limit raises HR_CURRENT_LIMIT. Operands: the regulator, whether it enters or leaves the limit, and its output in 0.1 mV. -/
  | hrCurrentLimit (r : Fin 4) (on : Bool) (volts : Int)
  /-- SUPPLY_18_LOW (R286): V18 below 1.62 V for 2 µs raises SUPPLY_18_LOW of class F4. Operands: V18 in 0.1 mV, and how long it has stayed there, in µs; at 1.62 V or above it has recovered. -/
  | supply18Low (v18 : Int) (us : Nat)
  /-- LEVEL_STEP (R289): A change of the level in force moves one performance level, clock and voltage in order. -/
  | levelStep
  /-- POWER_MODE_RUN (R291): POWER_MODE 0 selects Run. The operand ep is the endpoint that writes. -/
  | powerModeRun (ep : Endpoint)
  /-- POWER_MODE_HOLD (R291): POWER_MODE 1 selects Hold. The operand ep is the endpoint that writes. -/
  | powerModeHold (ep : Endpoint)
  /-- PARK (R293): PARK 0xA5 requests Park and starts the entry at its boundary. The operand ep is the endpoint that writes. -/
  | park (ep : Endpoint)
  /-- PARK_POINT_OF_NO_RETURN (R294): After the record store finishes, the STAND block goes to every channel die. -/
  | parkPointOfNoReturn
  /-- PARK_POWER_DOWN (R294): One frame later the ports stop and the core domain and HR1 to HR3 switch off. -/
  | parkPowerDown
  /-- PARK_EXIT (R296): A wake in Park restarts the regulators and releases the control die. Operand: what the opening meets. -/
  | parkExit (o : Opening)
  /-- WAKE_LATCH_SET (R301): A filtered wake input becoming active sets its latch. Operands: the input, its level, and how long it has held it, in µs. -/
  | wakeLatchSet (i : Fin 8) (high : Bool) (us : Nat)
  /-- WAKE_CLEAR (R301): WAKE_CLEAR clears the named wake latches. Operands: the endpoint that writes, and the latches. -/
  | wakeClear (ep : Endpoint) (mask : Nat)
  /-- FAULT_MESSAGE (R306): The collector classifies a fault message and starts its class reaction. Operand: what a block reports just before, if no other command does (nothing where left out). -/
  | faultMessage (r : Option Report := none)
  /-- HOUSE_STOP_RESET (R310): Once frozen fault records are written, the control-die reset with cause 12 begins. -/
  | houseStopReset
  /-- POWER_CYCLE (R311): VBAT absent for 100 ms ends a lockout or hold. -/
  | powerCycle
  /-- SHADOW_CLOSE (R316): A reaction shadow's closing time passes. -/
  | shadowClose
  /-- KEEPER_RETRY (R323): KEEPER_RETRY_TIME ends a hold and releases the control die with cause 9. -/
  | keeperRetry
  /-- KEEPER_FRAME (R324): Each second of a hold the keeper sends its CAN report frame. Operand: how often it is lost or not acknowledged (never where left out). -/
  | keeperFrame (lost : Nat := 0)
  /-- KEEPER_HEARTBEAT (R324): A channel die's 1 ms heartbeat reaches the keeper. -/
  | keeperHeartbeat (d : Die)
  /-- DIE_HEARTBEAT_TIMEOUT (R324): 3 ms without a heartbeat marks a die absent. -/
  | dieHeartbeatTimeout (d : Die)
  /-- QUERY_KIND (R315): A kind written to QUERY_KIND sets QUERY_RESULT. Operands: the endpoint that writes, and the kind code. -/
  | queryKind (ep : Endpoint) (code : Nat)
  /-- RECORD_PLACED (R332): A record is placed in every ring that is directed or whose filter passes it. -/
  | recordPlaced
  /-- TARGET_MODERATION_TIMEOUT (R342): MOD_TIME after an episode began the target raises its interrupt. -/
  | targetModerationTimeout (g : TargetId)
  /-- POP (R339): A read of RECORDS returns and removes the oldest records of a ring. Operands: the endpoint that reads, and the ring. -/
  | pop (ep : Endpoint) (q : RingId)
  /-- FLUSH (R340): FLUSH 0xA5 removes every record of the ring. The operand ep is the endpoint that writes. -/
  | flush (ep : Endpoint) (q : RingId)
  /-- ARM (R342): An ARM write arms the target and raises at once when records are pending. The operand ep is the endpoint that writes. -/
  | arm (ep : Endpoint) (g : TargetId)
  /-- HOLD (R344): HOLD 0xA5 holds delivery on the tenant's targets. The operand ep is the endpoint that writes. -/
  | hold (ep : Endpoint)
  /-- HOLD_RELEASE (R344): HOLD 0x5A releases delivery and raises targets that may raise. The operand ep is the endpoint that writes. -/
  | holdRelease (ep : Endpoint)
  /-- DEVICE_HOLD_SET (R344): DEVICE_HOLD 1 holds every target. The operand ep is the endpoint that writes. -/
  | deviceHoldSet (ep : Endpoint)
  /-- DEVICE_HOLD_CLEAR (R344): DEVICE_HOLD 0 releases every target. The operand ep is the endpoint that writes. -/
  | deviceHoldClear (ep : Endpoint)
  /-- FENCE (R345): A FENCE write takes the fence stamp and holds later records back. Operands: the endpoint that writes, and the value of R345. -/
  | fence (ep : Endpoint) (v : Nat)
  /-- FENCE_PLACED (R346): Once every source has reported up to the stamp, the FENCE record is placed. -/
  | fencePlaced
  /-- ERA_ADVANCED (R329): The tick wraps and ERA increments. -/
  | eraAdvanced
  /-- STREAM_RUN (R351): RUN 1 lets the engine serve the stream. The operand ep is the endpoint that writes. -/
  | streamRun (ep : Endpoint) (d : StreamId)
  /-- STREAM_STOP (R351): RUN 0 stops the stream after the descriptor in progress. The operand ep is the endpoint that writes. -/
  | streamStop (ep : Endpoint) (d : StreamId)
  /-- TAIL_WRITE (R350): A TAIL write or PCIe doorbell hands descriptors to the stream. Operands: the endpoint that writes, the stream, the value, and whether it comes through the doorbell. -/
  | tailWrite (ep : Endpoint) (d : StreamId) (v : Nat) (bell : Bool)
  /-- DESCRIPTOR_START (R351): The engine takes the next pending descriptor of a running stream in its turn. -/
  | descriptorStart (d : StreamId)
  /-- DESCRIPTOR_COMPLETE (R351): A descriptor ends, its STATUS is written and HEAD moves past it. Operands: 0 for an undisturbed transfer, 6 a bus error, 8 a gather that could not finish; and the bytes written before a failure. -/
  | descriptorComplete (d : StreamId) (fail : Nat) (moved : Nat)
  /-- PERIODIC_PASS_START (R358): At a frame number multiple of PERIOD a periodic pass starts or is skipped. -/
  | periodicPassStart (d : StreamId)
  /-- NMT_START (R365): NMT Start puts the node in Operational. Operands: the CAN port, and the node ID, 0 for every node of the port. -/
  | nmtStart (p : CanPort) (node : Nat)
  /-- NMT_STOP (R365): NMT Stop puts the node in Stopped. Operands: the CAN port, and the node ID, 0 for every node of the port. -/
  | nmtStop (p : CanPort) (node : Nat)
  /-- NMT_ENTER_PREOPERATIONAL (R365): NMT Enter pre-operational puts the node in Pre-operational. Operands: the CAN port, and the node ID, 0 for every node of the port. -/
  | nmtEnterPreoperational (p : CanPort) (node : Nat)
  /-- NMT_RESET_NODE (R365): NMT Reset node starts a tenant reset of the node's tenant. Operands: the CAN port, and the node ID, 0 for every node of the port. -/
  | nmtResetNode (p : CanPort) (node : Nat)
  /-- NMT_RESET_COMMUNICATION (R365): NMT Reset communication restarts PDOs and sends a boot-up message. Operands: the CAN port, and the node ID, 0 for every node of the port. -/
  | nmtResetCommunication (p : CanPort) (node : Nat)
  /-- USDO_REQUEST (R367): A USDO request is served as an object access of the node's tenant. Operands: the tenant of the node; whether the request begins a transfer, whether that is a write, whether the transfer is complete with it; the object address of a transfer that begins; and the value bytes that the request brings. -/
  | usdoRequest (t : Tenant) (begins : Bool) (write : Bool) (last : Bool) (addr : Nat) (data : List Byte)
  /-- USDO_SESSION_TIMEOUT (R367): A USDO session idle for 1 s is aborted. -/
  | usdoSessionTimeout (t : Tenant)
  /-- RPDO_RECEIVED (R371): A received RPDO writes its mapped values, at once or at the next SYNC. Operands: the RPDO, 0 to 31 of CAN0 and then those of CAN1, and its data. -/
  | rpdoReceived (x : Fin 64) (data : List Byte)
  /-- TPDO_EVENT_TIMER (R370): A TPDO's EVENT_TIMER running out builds and sends it. Operand: the TPDO, 0 to 63 of CAN0 and then those of CAN1. -/
  | tpdoEventTimer (x : Fin 128)
  /-- TPDO_INHIBIT_END (R370): The end of INHIBIT_TIME sends a delayed TPDO. Operand: the TPDO, 0 to 63 of CAN0 and then those of CAN1. -/
  | tpdoInhibitEnd (x : Fin 128)
  /-- TIME_RECEIVED (R373): A TIME message on an accepting port sets the real-time clock. Operands: m and D of R373. -/
  | timeReceived (p : CanPort) (ms : Nat) (days : Nat)
  /-- HEARTBEAT_SEND (R366): Each PRODUCER_HEARTBEAT_TIME the node sends its heartbeat. -/
  | heartbeatSend (t : Tenant)
  /-- CAN_BUS_OFF (R363): A controller going bus-off discards its transmit queue. Operands: the error counters at bus-off. -/
  | canBusOff (p : CanPort) (tec : Nat) (rec_ : Nat)
  /-- CAN_BUS_RECOVERED (R363): After 128 occurrences of 11 recessive bits the controller rejoins. -/
  | canBusRecovered (p : CanPort)
  /-- CAN_REJOIN (R362): After a rate change and 11 recessive bits the controller joins the bus. -/
  | canRejoin (p : CanPort)
  /-- TRANSFER_READ (R380): A TRANSFER_REQUEST read moves object bytes into the PCIe transfer buffer. Operands: the function, TRANSFER_ADDRESS and its byte offset, and the length. -/
  | transferRead (f : Func) (addr : Nat) (off : Nat) (len : Nat)
  /-- TRANSFER_WRITE (R380): A TRANSFER_REQUEST write writes the value from the transfer buffer. Operands: the function, TRANSFER_ADDRESS, the length, and the bytes that the host has put at the start of the transfer buffer. -/
  | transferWrite (f : Func) (addr : Nat) (len : Nat) (data : List Byte)
  /-- RING_HEAD_POP (R379): A ring-head write pops up to k records into the pop buffer. Operands: the function, the ring head and k. -/
  | ringHeadPop (f : Func) (i : Nat) (k : Nat)
  /-- PCIE_PERST (R382): PCIE_PERST_N low resets the endpoint and holds the link down. Operand: whether the ball goes low. -/
  | pciePerst (low : Bool)
  /-- FUNCTION_LEVEL_RESET (R382): A function level reset clears one function's configuration. -/
  | functionLevelReset (f : Func)
  /-- PCIE_LINK_CHANGED (R376): The PCIe link trains or goes down. Operands: LINK_STATE and LINK_SPEED; with the link up, the Bus Master Enable bits of the functions and the payload size in bytes that the host has set. -/
  | pcieLinkChanged (link : Nat) (speed : Nat) (masters : Nat) (payload : Nat)
  /-- READ (R384): The READ command reads an object from byte 0. Operands: the endpoint, ADDR, LEN and the CRC as received. -/
  | read (ep : Endpoint) (addr : Nat) (len : Nat) (crc : Nat)
  /-- WRITE (R384): The WRITE command writes the data as the whole value. Operands: the endpoint, ADDR, the LEN bytes of data and the CRC as received. -/
  | write (ep : Endpoint) (addr : Nat) (data : List Byte) (crc : Nat)
  /-- READ_AT (R384): The READ_AT command reads an object from OFFSET. Operands: the endpoint, ADDR, LEN, OFFSET and the CRC as received. -/
  | readAt (ep : Endpoint) (addr : Nat) (len : Nat) (off : Nat) (crc : Nat)
  /-- LOAD (R384): The LOAD command copies data into the endpoint's transfer buffer. Operands: the endpoint, the buffer offset, the LEN bytes of data and the CRC as received. -/
  | load (ep : Endpoint) (off : Nat) (data : List Byte) (crc : Nat)
  /-- WRITE_BUFFER (R384): The WRITE_BUFFER command writes the value from the transfer buffer. Operands: the endpoint, ADDR, LEN and the CRC as received. -/
  | writeBuffer (ep : Endpoint) (addr : Nat) (len : Nat) (crc : Nat)
  /-- BROKEN_FRAME (R386): A chip select rising or a STOP before the request CRC discards the request. Operand: the endpoint of SPI or two-wire. -/
  | brokenFrame (ep : Endpoint)
  /-- CS_CONFLICT (R383): Two chip selects low together discard the frames. -/
  | csConflict
  /-- RESPONSE_FETCH (R392): A two-wire read transaction returns the held response or STATUS 0x05. Operand: the 7-bit address. -/
  | responseFetch (a : Nat)
  /-- TRANSFER_START (R396): TRANSFER_START 0xA5 runs a two-wire controller transfer once the bus is free. The operand ep is the endpoint that writes. -/
  | transferStart (ep : Endpoint)
  /-- TRANSFER_DONE (R396): A controller transfer ends and TRANSFER_DONE is raised. Operands: 2 done, 3 address or 4 data byte not acknowledged; the bytes of WRITE_DATA acknowledged; the bytes read. -/
  | transferDone (result : Nat) (written : Nat) (read : List Byte)
  /-- ARBITRATION_LOST (R397): Lost arbitration makes the device a target or retries its transfer. Operands: the address that the winner sends where arbitration is lost within an address byte, and the bytes of WRITE_DATA acknowledged before. -/
  | arbitrationLost (sent : Option Nat) (written : Nat)
  /-- CLOCK_LOW_TIMEOUT (R398): TW_SCL low for CLOCK_LOW_TIMEOUT releases the balls and resets the protocol. Operands: the address of a request being received (0 for none), and the bytes of WRITE_DATA acknowledged in a transfer. -/
  | clockLowTimeout (target : Nat) (written : Nat)
  /-- INBAND_REQUEST (R400): SDA low 20 µs to 1 ms with SCL high raises INBAND_REQUEST and an attention read. Operand: what the attention read returns, 0xFF where it is left unacknowledged. -/
  | inbandRequest (byte : Nat)
  /-- DATA_LOW_TIMEOUT (R401): TW_SDA stuck low for DATA_LOW_TIMEOUT is cleared by up to nine clocks and a STOP. Operands: the clock pulses that free the line (more than 9 where nine do not), and the bytes of WRITE_DATA acknowledged in a transfer. -/
  | dataLowTimeout (pulses : Nat) (written : Nat)
  /-- TRIGGER (R410): TRIGGER 0xA5 starts or latches a run of a housekeeping sequence. The operand ep is the endpoint that writes. -/
  | trigger (ep : Endpoint) (q : Seq)
  /-- HK_PERIOD_TRIGGER (R410): A frame boundary at a multiple of TRIGGER_PERIOD triggers a sequence run. -/
  | hkPeriodTrigger (q : Seq)
  /-- HK_CONVERSION_END (R412): A conversion ends, an entry boundary where urgent or house work may take the converter. Operand: the code of the conversion. -/
  | hkConversionEnd (q : Seq) (code : Nat)
  /-- HK_PASS_END (R404): A pass ends and publishes RAW and VALUE, or judges burnout. -/
  | hkPassEnd (q : Seq)
  /-- HK_RUN_END (R411): A run ends and starts a latched run or a chained sequence. -/
  | hkRunEnd (q : Seq)
  /-- ENTRY_STALE (R407): An entry's last pass older than 1,000 ms makes it stale. -/
  | entryStale (e : Entry)
  /-- HOUSE_CONVERSION (R413): Every 1 ms converter B converts the supply and calibration inputs. Operands: the supplies in 0.1 mV, and the converters whose calibration fails, with the reference code. -/
  | houseConversion (vbat : Int) (vh : Int) (vcore : Int) (vio : Int) (v18 : Int) (vbk : Int) (faults : List (Fin 2 × Nat))
  /-- TEMP_SAMPLE (R419): A temperature sensor sample is judged against the thermal limits. Operand: the result in 0.01 °C. -/
  | tempSample (i : Sensor) (t : Int)
  /-- THERMAL_FLOOR_STEP (R421): Each 10 ms throttled or 100 ms unthrottled the thermal floor moves one level. -/
  | thermalFloorStep
  /-- WATCHDOG_ARM (R426): An ARM write sets SEED and PERIOD and starts the first period. Operands: the endpoint that writes, the watchdog, and the value: SEED above PERIOD. -/
  | watchdogArm (ep : Endpoint) (t : Tenant) (v : Nat)
  /-- ANSWER (R430): An ANSWER write is judged against the token and the half. Operands: the endpoint that writes, the watchdog, and the token. -/
  | answer (ep : Endpoint) (t : Tenant) (token : Nat)
  /-- WATCHDOG_CLOSED_HALF (R427): PERIOD / 2 after a period start the closed half begins. -/
  | watchdogClosedHalf (t : Tenant)
  /-- WATCHDOG_PERIOD_END (R431): A period ends and either starts the next one or expires the watchdog. -/
  | watchdogPeriodEnd (t : Tenant)
  /-- ADJOURN (R433): An ADJOURN write opens a single long answer window. Operands: the endpoint that writes, the watchdog, and the length in ms. -/
  | adjourn (ep : Endpoint) (t : Tenant) (ms : Nat)
  /-- ADJOURN_END (R433): The adjournment window ends without a valid answer and the watchdog expires. -/
  | adjournEnd (t : Tenant)
  /-- WDX_EXPIRY (R434): 10 ms without service expires WDX and resets the control die with cause 6. -/
  | wdxExpiry
  /-- RTC_SET (R443): RTC_SET sets the real-time clock and clears TIME_UNTRUSTED. Operands: the endpoint that writes, and the value: seconds above the 15-bit fraction. -/
  | rtcSet (ep : Endpoint) (v : Nat)
  /-- ALARM_FIRED (R447): The clock reaching ALARM_SECONDS fires the alarm and sets its latch. -/
  | alarmFired
  /-- PON_ASSERT (R448): PON_COMMAND 0xA5 asserts PON. The operand ep is the endpoint that writes. -/
  | ponAssert (ep : Endpoint)
  /-- PON_RELEASE (R448): PON_COMMAND 0x5A releases PON. The operand ep is the endpoint that writes. -/
  | ponRelease (ep : Endpoint)
  /-- RTC_OSC_STOPPED (R445): No 32.768 kHz edge for 1 ms sets OSC_STOPPED and TIME_UNTRUSTED. -/
  | rtcOscStopped
  /-- BACKUP_CELL_LOW (R440): VBK below 2.0 V for 1 ms sets the low-backup flag or VBK_LOW. Operands: VBK in 0.1 mV, and how long it has stayed there, in µs. -/
  | backupCellLow (vbk : Int) (us : Nat)
  /-- BACKUP_SWITCHOVER (R438): VH crossing 4.0 V switches the backup domain between VH and VBK. Operand: VH, 0.1 mV. -/
  | backupSwitchover (vh : Int)
  /-- ATTEST_CHALLENGE (R456): A 32-byte challenge fixes the attestation fields and queues the signature. Operands: the endpoint that writes, and the value bytes. -/
  | attestChallenge (ep : Endpoint) (data : List Byte)
  /-- ATTESTATION_SIGNED (R457): The security engine finishes the attestation signature and publishes it. -/
  | attestationSigned
  /-- SESSION_OPEN (R459): A host ephemeral key starts a session opening. Operands: the endpoint that writes, and the value bytes. -/
  | sessionOpen (ep : Endpoint) (data : List Byte)
  /-- SESSION_OPENED (R459): Key agreement and signature finish and SESSION_REPLY is published. -/
  | sessionOpened
  /-- SESSION_CLOSE (R460): SESSION_CLOSE 0xA5 erases the session keys. The operand ep is the endpoint that writes. -/
  | sessionClose (ep : Endpoint)
  /-- AUTH_WRITE (R462): An AUTH_WRITE envelope is checked and its inner write accepted. Operands: the endpoint that writes, and the value bytes. -/
  | authWrite (ep : Endpoint) (data : List Byte)
  /-- AUTH_READ_REQUEST (R464): An AUTH_READ_REQUEST is checked and its reply set under K_DH. Operands: the endpoint that writes, and the value bytes. -/
  | authReadRequest (ep : Endpoint) (data : List Byte)
  /-- RANDOM_SOURCE_FAULT (R458): A failed random-source self-test raises RANDOM_SOURCE_FAULT of class F4. Operand: the test that failed. -/
  | randomSourceFault (test : Nat)
  /-- LOAD_WINDOW_END (R474): Each 1 ms window publishes the loads and may raise FABRIC_OVERLOAD or ACCESS_SATURATED. -/
  | loadWindowEnd
  /-- VBAT_POWER_UP (R268): VBAT rises through its rising threshold, HR0 starts and the cold-start sequence begins. -/
  | vbatPowerUp
  /-- RSTOUT_N_RELEASE (R265): RSTOUT_N is released 20 ms after the start of a device-level reset, or at port readiness if that comes later. -/
  | rstoutNRelease
  /-- PUMP_READY (R92): The bank pump headroom reaches the 10.0 V ready level, paused ramps and rising edges go on, and PUMP_LOW clears. Operand: VCP - VBUS, 0.1 mV. -/
  | pumpReady (k : Bank) (headroom : Int)
  /-- BUS_UV_CLEARED (R93): VBUSk returns 0.5 V above BUS_UV_LEVEL, BUS_UV clears and paused ramps and PWM edges resume. Operand: VBUS, 0.1 mV. -/
  | busUvCleared (k : Bank) (vbus : Int)
  /-- LIMIT_EPISODE_END (R127): After 1 ms spent outside LIMIT the limit episode ends and its accumulated limit time restarts. -/
  | limitEpisodeEnd (n : Chan)
  /-- CONVERTER_UNDER_CLEARED (R214): UV_CLEAR_FILTER consecutive converter output values at or above the upper hysteresis clear UNDER, and GOOD may become TRUE. Operand: the output samples of the last rounds, or frames by FILTER_UNIT, newest last, in nV at the sense input. -/
  | converterUnderCleared (m : Conv) (units : List (List Int))
  /-- CONVERTER_OVER_CLEARED (R214): OV_CLEAR_FILTER consecutive converter output values at or below the lower hysteresis clear OVER. Operand: the output samples of the last rounds, or frames by FILTER_UNIT, newest last, in nV at the sense input. -/
  | converterOverCleared (m : Conv) (units : List (List Int))
  /-- PEAK_READ (R103): A read of I_PEAK or V_PEAK on a PCIe BAR0 slot returns the tenant's peak and restarts it, and a failed read is recorded in LAST_ACCESS. Operands: the function, the channel, and whether V_PEAK is read. -/
  | peakRead (f : Func) (n : Chan) (volt : Bool)
  /-- MSIX_UNMASK (R343): The host unmasks an MSI-X vector, and the message held for that vector is sent. -/
  | msixUnmask (f : Func) (v : Fin 12)
  /-- RTC_OSC_RESTART (R445): The 32.768 kHz oscillator restarts, and the clock and the monotonic count run again. -/
  | rtcOscRestart
  /-- VBK_LOW_CLEAR (R440): VBK rises to 2.1 V or is applied, VBK_LOW clears, or the backup domain starts from no supply with the low-backup flag set. Operands: VBK in 0.1 mV, and whether the domain starts from no supply. -/
  | vbkLowClear (vbk : Int) (fromNothing : Bool)
  /-- CLOCK_LOW_CLEAR (R398): TW_SCL rises after a clock-low timeout, and CLOCK_LOW clears. -/
  | clockLowClear
  /-- DATA_LOW_CLEAR (R401): TW_SDA rises after a stuck-data episode, and DATA_LOW clears. -/
  | dataLowClear
  deriving DecidableEq, Repr

end Sys2Proof
end

