-- ==== Sys2Proof/Decode.lean ====
section
/-!
DEFINITION. The decoder over the rows of spec/opcode_table.json that give bits. No row does: a command of this block is
an event or an access, not a word, so no word spells one (log entry 4).
-/
namespace Sys2Proof

/-- The command that a word spells by the bits of the table: none, since no row of the table fixes a bit. -/
def decodeTableWord (_nbits _w : Nat) : Option Instr := none

end Sys2Proof
end

