-- ==== Sys2Proof/Config.lean ====
section
/-!
DEFINITION. What one device fixes and what the spec leaves open. No constant of this file has a body: no proof can
see a value of it, so a claim holds whatever the value is. Each is named in the assumption log.
-/
namespace Sys2Proof.Config

/-- The free values: the n-th value the spec leaves open, in the order the machine meets them.
DESIGN CHOICE (log entry 3): one stream of unconstrained integers, read through the counter State.free. -/
opaque freeValue : Nat → Int

/-- The 64-bit serial number of the device (R453); fixed per device. -/
opaque serial : Nat
/-- The silicon revision (R376, object 0x1018:03); fixed per device. -/
opaque siliconRevision : Nat
/-- The device private key (R452), as a number that its scalar comes from; fixed per device. -/
opaque deviceKey : Nat
/-- Of the device certificate (R453): its number; fixed per device. -/
opaque certificateNumber : List Byte
/-- The attributes of its issuer. -/
opaque certificateIssuer : List Byte
/-- The two times of its validity. -/
opaque certificateValidity : List Byte
/-- The attributes of its subject beside the serial number. -/
opaque certificateSubject : List Byte
/-- Its extensions. -/
opaque certificateExtensions : List Byte
/-- Its signature by the certification authority. -/
opaque certificateSignature : List Byte
/-- The factory trim of VCORE in 0.1 mV, from -500 to 500 (object 0x2030:04); fixed per device. -/
opaque vcoreTrim : Int

/-- The overvoltage lockout threshold of VBAT (R282), as a number that the threshold comes from; fixed per device. -/
opaque vbatLockout : Nat

/-- R354: whether a read at a time sees a byte, at an offset of the mailbox of a stream, that the descriptor in progress writes. -/
opaque mailboxMixed (time stream off : Nat) : Bool

/-- The nonce of the n-th signature (R458), as a number that its scalar comes from: the one kept, where FIPS 186-5 draws again. -/
opaque nonce : Nat → Nat
/-- The n-th ephemeral private key that the device draws (R458, R459), as a number that its scalar comes from. -/
opaque ephemeralKey : Nat → Nat

end Sys2Proof.Config
end

