-- ==== Sys2Proof/Machine/Bits.lean ====
section
/-!
DEFINITION. Bit fields, sign, byte order (little-endian throughout), saturation, and the three checksums: CRC-64 (R61),
CRC-32C (R15) and CRC-16/CCITT (R384).
-/
namespace Sys2Proof.Machine

/-- The field of v from bit lo upward, of the given width. -/
def field (v lo width : Nat) : Nat := v / 2 ^ lo % 2 ^ width

/-- v with bit b put to the given state. -/
def putBit (v b : Nat) (on : Bool) : Nat :=
  if v.testBit b then (if on then v else v - 2 ^ b) else (if on then v + 2 ^ b else v)

/-- The bit of a truth value. -/
def bitOf (b : Bool) : Nat := if b then 1 else 0

/-- v held at most at the maximum. -/
def satTo (mx v : Nat) : Nat := min v mx

/-- v held within lo to hi. -/
def clampInt (lo hi v : Int) : Int := max lo (min hi v)

/-- The two's-complement value of the low w bits of v. -/
def signedOf (w v : Nat) : Int :=
  let u := v % 2 ^ w
  if u < 2 ^ (w - 1) then (u : Int) else (u : Int) - (2 : Int) ^ w

/-- The low n bytes of v as a number: two's complement for a negative v. -/
def unsignedOf (n : Nat) (v : Int) : Nat := (v % (256 : Int) ^ n).toNat

/-- v in n bytes, little-endian. -/
def leBytes : Nat → Nat → List Byte
  | 0, _ => []
  | n + 1, v => BitVec.ofNat 8 v :: leBytes n (v / 256)

/-- The number that little-endian bytes spell. -/
def ofLE : List Byte → Nat
  | [] => 0
  | b :: r => b.toNat + 256 * ofLE r

/-- A signed or unsigned value in n little-endian bytes. -/
def leInt (n : Nat) (v : Int) : List Byte := leBytes n (unsignedOf n v)

/-- Division rounded to the nearest, halves away from zero; the divisor is positive. -/
def divNear (a : Int) (b : Nat) : Int :=
  if 0 ≤ a then (2 * a + b) / (2 * b) else -((2 * (-a) + b) / (2 * b))

/-- The largest r with r * r ≤ n, by bisection over the given number of bits. -/
def sqrtBits : Nat → Nat → Nat → Nat
  | 0, _, r => r
  | b + 1, n, r => let c := r + 2 ^ b; sqrtBits b n (if c * c ≤ n then c else r)

/-- The integer square root of a number below 2 ^ 128. -/
def isqrt (n : Nat) : Nat := sqrtBits 64 n 0

/-- The number of bits set among the low n bits of v. -/
def popCount : Nat → Nat → Nat
  | 0, _ => 0
  | n + 1, v => v % 2 + popCount n (v / 2)

/-- One bit of an unreflected CRC of width w and polynomial p. -/
def crcBit (w p c : Nat) : Nat :=
  if c.testBit (w - 1) then (c * 2 % 2 ^ w).xor p else c * 2 % 2 ^ w

/-- One byte of an unreflected CRC. -/
def crcByte (w p c : Nat) (b : Byte) : Nat :=
  (List.range 8).foldl (fun c _ => crcBit w p c) (c.xor (b.toNat * 2 ^ (w - 8)))

/-- R61: CRC-64 with the ECMA-182 polynomial, initial value 0, no reflection, no final XOR. -/
def crc64 (l : List Byte) : Nat := l.foldl (crcByte 64 0x42F0E1EBA9EA3693) 0

/-- R384: CRC-16/CCITT, initial value 0xFFFF, no reflection, no final XOR. -/
def crc16 (l : List Byte) : Nat := l.foldl (crcByte 16 0x1021) 0xFFFF

/-- One bit of a reflected CRC with reflected polynomial p. -/
def crcBitR (p c : Nat) : Nat := if c % 2 = 1 then (c / 2).xor p else c / 2

/-- One byte of a reflected CRC. -/
def crcByteR (p c : Nat) (b : Byte) : Nat :=
  (List.range 8).foldl (fun c _ => crcBitR p c) (c.xor b.toNat)

/-- CRC-32C with the parameters of the chapter Watchdogs: reflected, initial value and final XOR all ones. -/
def crc32c (l : List Byte) : Nat := (l.foldl (crcByteR 0x82F63B78) 0xFFFFFFFF).xor 0xFFFFFFFF

/-- The text as bytes. -/
def asciiBytes (t : String) : List Byte := t.toList.map fun c => BitVec.ofNat 8 c.toNat

/-- The sub-list of n elements from position i. -/
def slice {α : Type} (l : List α) (i n : Nat) : List α := (l.drop i).take n

/-- Bytes cut or filled with zeros to exactly n. -/
def padTo (n : Nat) (l : List Byte) : List Byte := l.take n ++ List.replicate (n - l.length) 0

end Sys2Proof.Machine
end

