-- ==== Sys2Proof/Machine/CatalogTypes.lean ====
section
/-!
DEFINITION. What one row of an object table says: its type (R31), its access form, its commit class (R34), its default
(R502) and the range of the values it takes (R33).
-/
namespace Sys2Proof.Machine

/-- R31: the data types of objects. -/
inductive Ty where
  | bool | u8 | u16 | u32 | u64 | i16 | i32 | i64 | str | octets | domain
  deriving DecidableEq, Repr

/-- The access forms of chapter 2. -/
inductive Acc where
  | const | ro | rw | wo | own | arb
  deriving DecidableEq, Repr

/-- R34: the commit classes; none for an object that no write stores a value in. -/
inductive Cls where
  | none | immediate | staged | locked
  deriving DecidableEq, Repr

/-- R502: a default, or "—" of a value that is measured or computed and has none yet. -/
inductive Dflt where
  | val (v : Int)
  | na
  deriving DecidableEq, Repr

/-- The values that an object takes (R33): everything its type holds; lo to hi; lo to hi or one of some codes
outside; one of an enumerated set; no bit outside a mask; a string length from lo to hi. -/
inductive Range where
  | any
  | span (lo hi : Int)
  | spanOr (codes : List Int) (lo hi : Int)
  | oneOf (codes : List Int)
  | mask (m : Nat)
  | len (lo hi : Nat)
  deriving DecidableEq, Repr

/-- One row of an object table, covering the subindexes lo, lo + stride, … up to hi. rel marks a tenant-relative
object (R30, R501). -/
structure Sub where
  lo : Nat
  hi : Nat
  stride : Nat
  ty : Ty
  acc : Acc
  cls : Cls
  dflt : Dflt
  rng : Range
  rel : Bool
  deriving DecidableEq, Repr

end Sys2Proof.Machine
end

