-- ==== Sys2Proof/Machine/CatalogA.lean ====
section
/-!
DEFINITION. The object tables of the chapters, part A: the communication profile, the device core, the two-wire bus, the ports and the tenants.
One list per object: the rows of its table in spec/, in the order of the table.
-/
namespace Sys2Proof.Machine

/-- Object 0x1000, DEVICE_TYPE: the rows of its object table. -/
def subs_DEVICE_TYPE : List Sub :=
  [{ lo := 0, hi := 0, stride := 1, ty := .u32, acc := .const, cls := .none, dflt := .val 0, rng := .any, rel := false }]

/-- Object 0x1001, ERROR_REGISTER: the rows of its object table. -/
def subs_ERROR_REGISTER : List Sub :=
  [{ lo := 0, hi := 0, stride := 1, ty := .u8, acc := .ro, cls := .none, dflt := .val 0, rng := .any, rel := true }]

/-- Object 0x1005, COB_ID_SYNC: the rows of its object table. -/
def subs_COB_ID_SYNC : List Sub :=
  [{ lo := 0, hi := 0, stride := 1, ty := .u8, acc := .const, cls := .none, dflt := .val 2, rng := .any, rel := false },
   { lo := 1, hi := 2, stride := 1, ty := .u32, acc := .arb, cls := .staged, dflt := .val 128, rng := .any, rel := false }]

/-- Object 0x1008, DEVICE_NAME: the rows of its object table. -/
def subs_DEVICE_NAME : List Sub :=
  [{ lo := 0, hi := 0, stride := 1, ty := .str, acc := .const, cls := .none, dflt := .val 0, rng := (.len 0 6), rel := false }]

/-- Object 0x1012, COB_ID_TIME: the rows of its object table. -/
def subs_COB_ID_TIME : List Sub :=
  [{ lo := 0, hi := 0, stride := 1, ty := .u8, acc := .const, cls := .none, dflt := .val 2, rng := .any, rel := false },
   { lo := 1, hi := 2, stride := 1, ty := .u32, acc := .arb, cls := .staged, dflt := .val 256, rng := .any, rel := false }]

/-- Object 0x1014, COB_ID_EMCY: the rows of its object table. -/
def subs_COB_ID_EMCY : List Sub :=
  [{ lo := 0, hi := 0, stride := 1, ty := .u8, acc := .const, cls := .none, dflt := .val 16, rng := .any, rel := false },
   { lo := 1, hi := 16, stride := 1, ty := .u32, acc := .ro, cls := .none, dflt := .val 2147483648, rng := .any, rel := false }]

/-- Object 0x1017, PRODUCER_HEARTBEAT_TIME: the rows of its object table. -/
def subs_PRODUCER_HEARTBEAT_TIME : List Sub :=
  [{ lo := 0, hi := 0, stride := 1, ty := .u8, acc := .const, cls := .none, dflt := .val 16, rng := .any, rel := false },
   { lo := 1, hi := 16, stride := 1, ty := .u16, acc := .own, cls := .immediate, dflt := .val 0, rng := .any, rel := false }]

/-- Object 0x1018, IDENTITY: the rows of its object table. -/
def subs_IDENTITY : List Sub :=
  [{ lo := 0, hi := 0, stride := 1, ty := .u8, acc := .const, cls := .none, dflt := .val 4, rng := .any, rel := false },
   { lo := 1, hi := 1, stride := 1, ty := .u32, acc := .const, cls := .none, dflt := .val 1747, rng := .any, rel := false },
   { lo := 2, hi := 2, stride := 1, ty := .u32, acc := .const, cls := .none, dflt := .val 29970, rng := .any, rel := false },
   { lo := 3, hi := 3, stride := 1, ty := .u32, acc := .const, cls := .none, dflt := .val 0, rng := .any, rel := false },
   { lo := 4, hi := 4, stride := 1, ty := .u32, acc := .const, cls := .none, dflt := .val 0, rng := .any, rel := false }]

/-- Object 0x1019, SYNC_OVERFLOW: the rows of its object table. -/
def subs_SYNC_OVERFLOW : List Sub :=
  [{ lo := 0, hi := 0, stride := 1, ty := .u8, acc := .const, cls := .none, dflt := .val 2, rng := .any, rel := false },
   { lo := 1, hi := 2, stride := 1, ty := .u8, acc := .arb, cls := .staged, dflt := .val 0, rng := (.spanOr [0] 2 240), rel := false }]

/-- Object 0x1400, RPDO_COMM: the rows of its object table. -/
def subs_RPDO_COMM : List Sub :=
  [{ lo := 0, hi := 0, stride := 1, ty := .u8, acc := .const, cls := .none, dflt := .val 6, rng := .any, rel := false },
   { lo := 1, hi := 1, stride := 1, ty := .u32, acc := .own, cls := .staged, dflt := .val 2147483648, rng := .any, rel := false },
   { lo := 2, hi := 2, stride := 1, ty := .u8, acc := .own, cls := .staged, dflt := .val 255, rng := .any, rel := false },
   { lo := 5, hi := 5, stride := 1, ty := .u16, acc := .own, cls := .staged, dflt := .val 0, rng := .any, rel := false },
   { lo := 6, hi := 6, stride := 1, ty := .u8, acc := .own, cls := .staged, dflt := .val 0, rng := .any, rel := false }]

/-- Object 0x1600, RPDO_MAP: the rows of its object table. -/
def subs_RPDO_MAP : List Sub :=
  [{ lo := 0, hi := 0, stride := 1, ty := .u8, acc := .const, cls := .none, dflt := .val 64, rng := .any, rel := false },
   { lo := 1, hi := 64, stride := 1, ty := .u32, acc := .own, cls := .staged, dflt := .val 0, rng := .any, rel := false }]

/-- Object 0x1800, TPDO_COMM: the rows of its object table. -/
def subs_TPDO_COMM : List Sub :=
  [{ lo := 0, hi := 0, stride := 1, ty := .u8, acc := .const, cls := .none, dflt := .val 6, rng := .any, rel := false },
   { lo := 1, hi := 1, stride := 1, ty := .u32, acc := .own, cls := .staged, dflt := .val 2147483648, rng := .any, rel := false },
   { lo := 2, hi := 2, stride := 1, ty := .u8, acc := .own, cls := .staged, dflt := .val 255, rng := .any, rel := false },
   { lo := 3, hi := 3, stride := 1, ty := .u16, acc := .own, cls := .staged, dflt := .val 0, rng := .any, rel := false },
   { lo := 5, hi := 5, stride := 1, ty := .u16, acc := .own, cls := .staged, dflt := .val 0, rng := .any, rel := false },
   { lo := 6, hi := 6, stride := 1, ty := .u8, acc := .own, cls := .staged, dflt := .val 0, rng := .any, rel := false }]

/-- Object 0x1A00, TPDO_MAP: the rows of its object table. -/
def subs_TPDO_MAP : List Sub :=
  [{ lo := 0, hi := 0, stride := 1, ty := .u8, acc := .const, cls := .none, dflt := .val 64, rng := .any, rel := false },
   { lo := 1, hi := 64, stride := 1, ty := .u32, acc := .own, cls := .staged, dflt := .val 0, rng := .any, rel := false }]

/-- Object 0x2010, CLOCK_STATUS: the rows of its object table. -/
def subs_CLOCK_STATUS : List Sub :=
  [{ lo := 0, hi := 0, stride := 1, ty := .u8, acc := .const, cls := .none, dflt := .val 4, rng := .any, rel := false },
   { lo := 1, hi := 1, stride := 1, ty := .u8, acc := .ro, cls := .none, dflt := .val 0, rng := .any, rel := false },
   { lo := 2, hi := 2, stride := 1, ty := .bool, acc := .ro, cls := .none, dflt := .val 0, rng := .any, rel := false },
   { lo := 3, hi := 3, stride := 1, ty := .u32, acc := .ro, cls := .none, dflt := .val 0, rng := .any, rel := false },
   { lo := 4, hi := 4, stride := 1, ty := .u16, acc := .ro, cls := .none, dflt := .val 0, rng := .any, rel := false }]

/-- Object 0x2011, FRAME_COUNT: the rows of its object table. -/
def subs_FRAME_COUNT : List Sub :=
  [{ lo := 0, hi := 0, stride := 1, ty := .u32, acc := .ro, cls := .none, dflt := .na, rng := .any, rel := false }]

/-- Object 0x2012, AMLOR_LINK: the rows of its object table. -/
def subs_AMLOR_LINK : List Sub :=
  [{ lo := 0, hi := 0, stride := 1, ty := .u8, acc := .const, cls := .none, dflt := .val 6, rng := .any, rel := false },
   { lo := 1, hi := 1, stride := 1, ty := .u8, acc := .ro, cls := .none, dflt := .val 0, rng := .any, rel := false },
   { lo := 2, hi := 2, stride := 1, ty := .u32, acc := .ro, cls := .none, dflt := .val 0, rng := .any, rel := false },
   { lo := 3, hi := 3, stride := 1, ty := .u32, acc := .ro, cls := .none, dflt := .val 0, rng := .any, rel := false },
   { lo := 4, hi := 4, stride := 1, ty := .u16, acc := .ro, cls := .none, dflt := .val 0, rng := .any, rel := false },
   { lo := 5, hi := 5, stride := 1, ty := .u16, acc := .ro, cls := .none, dflt := .val 0, rng := .any, rel := false },
   { lo := 6, hi := 6, stride := 1, ty := .u8, acc := .ro, cls := .none, dflt := .val 0, rng := .any, rel := false }]

/-- Object 0x2020, RESET_CONTROL: the rows of its object table. -/
def subs_RESET_CONTROL : List Sub :=
  [{ lo := 0, hi := 0, stride := 1, ty := .u8, acc := .const, cls := .none, dflt := .val 2, rng := .any, rel := false },
   { lo := 1, hi := 1, stride := 1, ty := .u8, acc := .wo, cls := .none, dflt := .val 0, rng := (.oneOf [165, 90]), rel := false },
   { lo := 2, hi := 2, stride := 1, ty := .u32, acc := .ro, cls := .none, dflt := .val 0, rng := .any, rel := false }]

/-- Object 0x2021, RESET_CAUSE: the rows of its object table. -/
def subs_RESET_CAUSE : List Sub :=
  [{ lo := 0, hi := 0, stride := 1, ty := .u8, acc := .const, cls := .none, dflt := .val 7, rng := .any, rel := false },
   { lo := 1, hi := 1, stride := 1, ty := .u8, acc := .ro, cls := .none, dflt := .val 1, rng := .any, rel := false },
   { lo := 2, hi := 2, stride := 1, ty := .u8, acc := .ro, cls := .none, dflt := .val 1, rng := .any, rel := false },
   { lo := 3, hi := 3, stride := 1, ty := .u16, acc := .ro, cls := .none, dflt := .val 1, rng := .any, rel := false },
   { lo := 4, hi := 4, stride := 1, ty := .u32, acc := .ro, cls := .none, dflt := .val 4026531840, rng := .any, rel := false },
   { lo := 5, hi := 5, stride := 1, ty := .u64, acc := .ro, cls := .none, dflt := .val 0, rng := .any, rel := false },
   { lo := 6, hi := 6, stride := 1, ty := .u32, acc := .ro, cls := .none, dflt := .val 4294967295, rng := .any, rel := false },
   { lo := 7, hi := 7, stride := 1, ty := .u16, acc := .ro, cls := .none, dflt := .val 0, rng := .any, rel := false }]

/-- Object 0x2022, STRAPS: the rows of its object table. -/
def subs_STRAPS : List Sub :=
  [{ lo := 0, hi := 0, stride := 1, ty := .u8, acc := .const, cls := .none, dflt := .val 6, rng := .any, rel := false },
   { lo := 1, hi := 1, stride := 1, ty := .u8, acc := .ro, cls := .none, dflt := .val 0, rng := .any, rel := false },
   { lo := 2, hi := 2, stride := 1, ty := .u8, acc := .ro, cls := .none, dflt := .val 0, rng := .any, rel := false },
   { lo := 3, hi := 3, stride := 1, ty := .u8, acc := .ro, cls := .none, dflt := .val 0, rng := .any, rel := false },
   { lo := 4, hi := 4, stride := 1, ty := .bool, acc := .ro, cls := .none, dflt := .val 0, rng := .any, rel := false },
   { lo := 5, hi := 5, stride := 1, ty := .u8, acc := .ro, cls := .none, dflt := .val 0, rng := .any, rel := false },
   { lo := 6, hi := 6, stride := 1, ty := .bool, acc := .ro, cls := .none, dflt := .val 0, rng := .any, rel := false }]

/-- Object 0x2023, OPENING_STATUS: the rows of its object table. -/
def subs_OPENING_STATUS : List Sub :=
  [{ lo := 0, hi := 0, stride := 1, ty := .u8, acc := .const, cls := .none, dflt := .val 10, rng := .any, rel := false },
   { lo := 1, hi := 1, stride := 1, ty := .u8, acc := .ro, cls := .none, dflt := .val 0, rng := .any, rel := false },
   { lo := 2, hi := 2, stride := 1, ty := .u8, acc := .ro, cls := .none, dflt := .val 0, rng := .any, rel := false },
   { lo := 3, hi := 3, stride := 1, ty := .u8, acc := .ro, cls := .none, dflt := .val 0, rng := .any, rel := false },
   { lo := 4, hi := 4, stride := 1, ty := .u8, acc := .ro, cls := .none, dflt := .val 0, rng := .any, rel := false },
   { lo := 5, hi := 5, stride := 1, ty := .u8, acc := .ro, cls := .none, dflt := .val 0, rng := .any, rel := false },
   { lo := 6, hi := 6, stride := 1, ty := .u16, acc := .ro, cls := .none, dflt := .val 0, rng := .any, rel := false },
   { lo := 7, hi := 7, stride := 1, ty := .u32, acc := .ro, cls := .none, dflt := .val 0, rng := .any, rel := false },
   { lo := 8, hi := 8, stride := 1, ty := .u8, acc := .wo, cls := .none, dflt := .val 0, rng := (.oneOf [165]), rel := false },
   { lo := 9, hi := 9, stride := 1, ty := .u8, acc := .wo, cls := .none, dflt := .val 0, rng := (.oneOf [165]), rel := false },
   { lo := 10, hi := 10, stride := 1, ty := .u32, acc := .ro, cls := .none, dflt := .val 0, rng := .any, rel := false }]

/-- Object 0x2024, OPENING_JOURNAL: the rows of its object table. -/
def subs_OPENING_JOURNAL : List Sub :=
  [{ lo := 0, hi := 0, stride := 1, ty := .u8, acc := .const, cls := .none, dflt := .val 32, rng := .any, rel := false },
   { lo := 1, hi := 16, stride := 1, ty := .u64, acc := .ro, cls := .none, dflt := .val 0, rng := .any, rel := false },
   { lo := 17, hi := 32, stride := 1, ty := .u32, acc := .ro, cls := .none, dflt := .val 0, rng := .any, rel := false }]

/-- Object 0x2030, PERFORMANCE: the rows of its object table. -/
def subs_PERFORMANCE : List Sub :=
  [{ lo := 0, hi := 0, stride := 1, ty := .u8, acc := .const, cls := .none, dflt := .val 5, rng := .any, rel := false },
   { lo := 1, hi := 1, stride := 1, ty := .u8, acc := .arb, cls := .immediate, dflt := .val 0, rng := (.span 0 3), rel := false },
   { lo := 2, hi := 2, stride := 1, ty := .u8, acc := .ro, cls := .none, dflt := .val 0, rng := .any, rel := false },
   { lo := 3, hi := 3, stride := 1, ty := .u8, acc := .ro, cls := .none, dflt := .val 0, rng := .any, rel := false },
   { lo := 4, hi := 4, stride := 1, ty := .i16, acc := .ro, cls := .none, dflt := .val 0, rng := .any, rel := false },
   { lo := 5, hi := 5, stride := 1, ty := .u32, acc := .ro, cls := .none, dflt := .val 0, rng := .any, rel := false }]

/-- Object 0x2031, POWER_STATE: the rows of its object table. -/
def subs_POWER_STATE : List Sub :=
  [{ lo := 0, hi := 0, stride := 1, ty := .u8, acc := .const, cls := .none, dflt := .val 7, rng := .any, rel := false },
   { lo := 1, hi := 1, stride := 1, ty := .u8, acc := .arb, cls := .immediate, dflt := .val 0, rng := (.oneOf [0, 1]), rel := false },
   { lo := 2, hi := 2, stride := 1, ty := .u8, acc := .wo, cls := .none, dflt := .val 0, rng := (.oneOf [165]), rel := false },
   { lo := 3, hi := 3, stride := 1, ty := .u8, acc := .ro, cls := .none, dflt := .val 0, rng := .any, rel := false },
   { lo := 4, hi := 4, stride := 1, ty := .u16, acc := .ro, cls := .none, dflt := .val 0, rng := .any, rel := false },
   { lo := 5, hi := 5, stride := 1, ty := .u16, acc := .ro, cls := .none, dflt := .val 0, rng := .any, rel := false },
   { lo := 6, hi := 6, stride := 1, ty := .u32, acc := .ro, cls := .none, dflt := .val 0, rng := .any, rel := false },
   { lo := 7, hi := 7, stride := 1, ty := .u16, acc := .ro, cls := .none, dflt := .val 0, rng := .any, rel := false }]

/-- Object 0x2032, WAKE_CONFIG: the rows of its object table. -/
def subs_WAKE_CONFIG : List Sub :=
  [{ lo := 0, hi := 0, stride := 1, ty := .u8, acc := .const, cls := .none, dflt := .val 7, rng := .any, rel := false },
   { lo := 1, hi := 1, stride := 1, ty := .u16, acc := .arb, cls := .staged, dflt := .val 0, rng := (.mask 511), rel := false },
   { lo := 2, hi := 2, stride := 1, ty := .u8, acc := .arb, cls := .staged, dflt := .val 255, rng := .any, rel := false },
   { lo := 3, hi := 3, stride := 1, ty := .u8, acc := .arb, cls := .staged, dflt := .val 0, rng := .any, rel := false },
   { lo := 4, hi := 4, stride := 1, ty := .u8, acc := .arb, cls := .staged, dflt := .val 10, rng := (.span 0 255), rel := false },
   { lo := 5, hi := 5, stride := 1, ty := .u8, acc := .ro, cls := .none, dflt := .val 0, rng := .any, rel := false },
   { lo := 6, hi := 6, stride := 1, ty := .u16, acc := .ro, cls := .none, dflt := .val 0, rng := .any, rel := false },
   { lo := 7, hi := 7, stride := 1, ty := .u16, acc := .wo, cls := .none, dflt := .val 0, rng := (.mask 2047), rel := false }]

/-- Object 0x2033, SUPPLY_STATUS: the rows of its object table. -/
def subs_SUPPLY_STATUS : List Sub :=
  [{ lo := 0, hi := 0, stride := 1, ty := .u8, acc := .const, cls := .none, dflt := .val 8, rng := .any, rel := false },
   { lo := 1, hi := 1, stride := 1, ty := .i32, acc := .ro, cls := .none, dflt := .na, rng := .any, rel := false },
   { lo := 2, hi := 2, stride := 1, ty := .i32, acc := .ro, cls := .none, dflt := .na, rng := .any, rel := false },
   { lo := 3, hi := 3, stride := 1, ty := .i32, acc := .ro, cls := .none, dflt := .na, rng := .any, rel := false },
   { lo := 4, hi := 4, stride := 1, ty := .i32, acc := .ro, cls := .none, dflt := .na, rng := .any, rel := false },
   { lo := 5, hi := 5, stride := 1, ty := .i32, acc := .ro, cls := .none, dflt := .na, rng := .any, rel := false },
   { lo := 6, hi := 6, stride := 1, ty := .i32, acc := .ro, cls := .none, dflt := .na, rng := .any, rel := false },
   { lo := 7, hi := 7, stride := 1, ty := .u8, acc := .ro, cls := .none, dflt := .val 0, rng := .any, rel := false },
   { lo := 8, hi := 8, stride := 1, ty := .u32, acc := .ro, cls := .none, dflt := .val 0, rng := .any, rel := false }]

/-- Object 0x2040, LOAD_MONITOR: the rows of its object table. -/
def subs_LOAD_MONITOR : List Sub :=
  [{ lo := 0, hi := 0, stride := 1, ty := .u8, acc := .const, cls := .none, dflt := .val 6, rng := .any, rel := false },
   { lo := 1, hi := 1, stride := 1, ty := .u16, acc := .ro, cls := .none, dflt := .val 0, rng := .any, rel := false },
   { lo := 2, hi := 2, stride := 1, ty := .u16, acc := .ro, cls := .none, dflt := .val 0, rng := .any, rel := false },
   { lo := 3, hi := 3, stride := 1, ty := .u16, acc := .ro, cls := .none, dflt := .val 0, rng := .any, rel := false },
   { lo := 4, hi := 4, stride := 1, ty := .u16, acc := .ro, cls := .none, dflt := .val 0, rng := .any, rel := false },
   { lo := 5, hi := 5, stride := 1, ty := .u32, acc := .ro, cls := .none, dflt := .val 0, rng := .any, rel := false },
   { lo := 6, hi := 6, stride := 1, ty := .u32, acc := .ro, cls := .none, dflt := .val 0, rng := .any, rel := false }]

/-- Object 0x2100, TWO_WIRE_BUS: the rows of its object table. -/
def subs_TWO_WIRE_BUS : List Sub :=
  [{ lo := 0, hi := 0, stride := 1, ty := .u8, acc := .const, cls := .none, dflt := .val 10, rng := .any, rel := false },
   { lo := 1, hi := 1, stride := 1, ty := .u8, acc := .arb, cls := .staged, dflt := .val 0, rng := (.oneOf [0, 1, 2]), rel := false },
   { lo := 2, hi := 2, stride := 1, ty := .u8, acc := .arb, cls := .staged, dflt := .val 1, rng := (.span 0 2), rel := false },
   { lo := 3, hi := 3, stride := 1, ty := .u16, acc := .arb, cls := .staged, dflt := .val 150, rng := (.span 26 10000), rel := false },
   { lo := 4, hi := 4, stride := 1, ty := .u16, acc := .arb, cls := .staged, dflt := .val 100, rng := (.span 26 10000), rel := false },
   { lo := 5, hi := 5, stride := 1, ty := .u16, acc := .arb, cls := .staged, dflt := .val 40, rng := (.span 1 1000), rel := false },
   { lo := 6, hi := 6, stride := 1, ty := .u16, acc := .arb, cls := .staged, dflt := .val 30, rng := (.span 1 1000), rel := false },
   { lo := 7, hi := 7, stride := 1, ty := .u16, acc := .arb, cls := .staged, dflt := .val 25, rng := (.span 1 1000), rel := false },
   { lo := 8, hi := 8, stride := 1, ty := .u16, acc := .arb, cls := .staged, dflt := .val 25, rng := (.span 2 1000), rel := false },
   { lo := 9, hi := 9, stride := 1, ty := .u8, acc := .arb, cls := .staged, dflt := .val 3, rng := (.span 0 255), rel := false },
   { lo := 10, hi := 10, stride := 1, ty := .u8, acc := .arb, cls := .staged, dflt := .val 12, rng := (.spanOr [0] 8 119), rel := false }]

/-- Object 0x2101, TWO_WIRE_STATUS: the rows of its object table. -/
def subs_TWO_WIRE_STATUS : List Sub :=
  [{ lo := 0, hi := 0, stride := 1, ty := .u8, acc := .const, cls := .none, dflt := .val 10, rng := .any, rel := false },
   { lo := 1, hi := 1, stride := 1, ty := .u8, acc := .ro, cls := .none, dflt := .val 1, rng := .any, rel := false },
   { lo := 2, hi := 2, stride := 1, ty := .u8, acc := .ro, cls := .none, dflt := .val 0, rng := .any, rel := false },
   { lo := 3, hi := 3, stride := 1, ty := .u16, acc := .ro, cls := .none, dflt := .val 0, rng := .any, rel := false },
   { lo := 4, hi := 4, stride := 1, ty := .u16, acc := .ro, cls := .none, dflt := .val 0, rng := .any, rel := false },
   { lo := 5, hi := 5, stride := 1, ty := .u16, acc := .ro, cls := .none, dflt := .val 0, rng := .any, rel := false },
   { lo := 6, hi := 6, stride := 1, ty := .u16, acc := .ro, cls := .none, dflt := .val 0, rng := .any, rel := false },
   { lo := 7, hi := 7, stride := 1, ty := .u8, acc := .ro, cls := .none, dflt := .val 255, rng := .any, rel := false },
   { lo := 8, hi := 8, stride := 1, ty := .u32, acc := .ro, cls := .none, dflt := .val 0, rng := .any, rel := false },
   { lo := 9, hi := 9, stride := 1, ty := .u32, acc := .ro, cls := .none, dflt := .val 0, rng := .any, rel := false },
   { lo := 10, hi := 10, stride := 1, ty := .u32, acc := .ro, cls := .none, dflt := .val 0, rng := .any, rel := false }]

/-- Object 0x2102, CONTROLLER_TRANSFER: the rows of its object table. -/
def subs_CONTROLLER_TRANSFER : List Sub :=
  [{ lo := 0, hi := 0, stride := 1, ty := .u8, acc := .const, cls := .none, dflt := .val 7, rng := .any, rel := false },
   { lo := 1, hi := 1, stride := 1, ty := .u16, acc := .arb, cls := .immediate, dflt := .val 80, rng := .any, rel := false },
   { lo := 2, hi := 2, stride := 1, ty := .octets, acc := .arb, cls := .immediate, dflt := .val 0, rng := (.len 0 256), rel := false },
   { lo := 3, hi := 3, stride := 1, ty := .u16, acc := .arb, cls := .immediate, dflt := .val 0, rng := (.span 0 256), rel := false },
   { lo := 4, hi := 4, stride := 1, ty := .u8, acc := .wo, cls := .none, dflt := .val 0, rng := (.oneOf [165]), rel := false },
   { lo := 5, hi := 5, stride := 1, ty := .u8, acc := .ro, cls := .none, dflt := .val 0, rng := .any, rel := false },
   { lo := 6, hi := 6, stride := 1, ty := .u16, acc := .ro, cls := .none, dflt := .val 0, rng := .any, rel := false },
   { lo := 7, hi := 7, stride := 1, ty := .octets, acc := .ro, cls := .none, dflt := .val 0, rng := (.len 0 256), rel := false }]

/-- Object 0x2200, CAN_PORT: the rows of its object table. -/
def subs_CAN_PORT : List Sub :=
  [{ lo := 0, hi := 0, stride := 1, ty := .u8, acc := .const, cls := .none, dflt := .val 15, rng := .any, rel := false },
   { lo := 1, hi := 1, stride := 1, ty := .u16, acc := .arb, cls := .staged, dflt := .val 500, rng := (.oneOf [125, 250, 500, 1000]), rel := false },
   { lo := 2, hi := 2, stride := 1, ty := .u16, acc := .arb, cls := .staged, dflt := .val 875, rng := (.span 600 900), rel := false },
   { lo := 3, hi := 3, stride := 1, ty := .u16, acc := .arb, cls := .staged, dflt := .val 2000, rng := (.oneOf [0, 1000, 2000, 4000, 5000, 8000]), rel := false },
   { lo := 4, hi := 4, stride := 1, ty := .u16, acc := .arb, cls := .staged, dflt := .val 750, rng := (.span 600 900), rel := false },
   { lo := 5, hi := 5, stride := 1, ty := .bool, acc := .arb, cls := .staged, dflt := .val 1, rng := .any, rel := false },
   { lo := 6, hi := 6, stride := 1, ty := .bool, acc := .arb, cls := .staged, dflt := .val 0, rng := .any, rel := false },
   { lo := 7, hi := 7, stride := 1, ty := .u8, acc := .ro, cls := .none, dflt := .val 3, rng := .any, rel := false },
   { lo := 8, hi := 8, stride := 1, ty := .u8, acc := .ro, cls := .none, dflt := .val 0, rng := .any, rel := false },
   { lo := 9, hi := 9, stride := 1, ty := .u8, acc := .ro, cls := .none, dflt := .val 0, rng := .any, rel := false },
   { lo := 10, hi := 10, stride := 1, ty := .u16, acc := .ro, cls := .none, dflt := .val 0, rng := .any, rel := false },
   { lo := 11, hi := 11, stride := 1, ty := .u32, acc := .ro, cls := .none, dflt := .val 0, rng := .any, rel := false },
   { lo := 12, hi := 12, stride := 1, ty := .u32, acc := .ro, cls := .none, dflt := .val 0, rng := .any, rel := false },
   { lo := 13, hi := 13, stride := 1, ty := .u16, acc := .ro, cls := .none, dflt := .val 0, rng := .any, rel := false },
   { lo := 14, hi := 14, stride := 1, ty := .u16, acc := .ro, cls := .none, dflt := .val 0, rng := .any, rel := false },
   { lo := 15, hi := 15, stride := 1, ty := .u8, acc := .ro, cls := .none, dflt := .val 0, rng := .any, rel := false }]

/-- Object 0x2204, PDO_OWNER: the rows of its object table. -/
def subs_PDO_OWNER : List Sub :=
  [{ lo := 0, hi := 0, stride := 1, ty := .u8, acc := .const, cls := .none, dflt := .val 192, rng := .any, rel := false },
   { lo := 1, hi := 64, stride := 1, ty := .u8, acc := .arb, cls := .staged, dflt := .val 0, rng := (.span 0 15), rel := false },
   { lo := 65, hi := 128, stride := 1, ty := .u8, acc := .arb, cls := .staged, dflt := .val 0, rng := (.span 0 15), rel := false },
   { lo := 129, hi := 160, stride := 1, ty := .u8, acc := .arb, cls := .staged, dflt := .val 0, rng := (.span 0 15), rel := false },
   { lo := 161, hi := 192, stride := 1, ty := .u8, acc := .arb, cls := .staged, dflt := .val 0, rng := (.span 0 15), rel := false }]

/-- Object 0x2208, PCIE_PORT: the rows of its object table. -/
def subs_PCIE_PORT : List Sub :=
  [{ lo := 0, hi := 0, stride := 1, ty := .u8, acc := .const, cls := .none, dflt := .val 9, rng := .any, rel := false },
   { lo := 1, hi := 1, stride := 1, ty := .u8, acc := .ro, cls := .none, dflt := .val 0, rng := .any, rel := false },
   { lo := 2, hi := 2, stride := 1, ty := .u8, acc := .ro, cls := .none, dflt := .val 0, rng := .any, rel := false },
   { lo := 3, hi := 3, stride := 1, ty := .u8, acc := .arb, cls := .staged, dflt := .val 3, rng := (.span 1 3), rel := false },
   { lo := 4, hi := 4, stride := 1, ty := .u8, acc := .ro, cls := .none, dflt := .val 0, rng := .any, rel := false },
   { lo := 5, hi := 5, stride := 1, ty := .u16, acc := .ro, cls := .none, dflt := .val 0, rng := .any, rel := false },
   { lo := 6, hi := 6, stride := 1, ty := .u16, acc := .ro, cls := .none, dflt := .val 0, rng := .any, rel := false },
   { lo := 7, hi := 7, stride := 1, ty := .u16, acc := .ro, cls := .none, dflt := .val 0, rng := .any, rel := false },
   { lo := 8, hi := 8, stride := 1, ty := .u16, acc := .const, cls := .none, dflt := .val 8060, rng := .any, rel := false },
   { lo := 9, hi := 9, stride := 1, ty := .u16, acc := .const, cls := .none, dflt := .val 29970, rng := .any, rel := false }]

/-- Object 0x220C, SPI_PORT: the rows of its object table. -/
def subs_SPI_PORT : List Sub :=
  [{ lo := 0, hi := 0, stride := 1, ty := .u8, acc := .const, cls := .none, dflt := .val 5, rng := .any, rel := false },
   { lo := 1, hi := 1, stride := 1, ty := .u32, acc := .ro, cls := .none, dflt := .val 0, rng := .any, rel := false },
   { lo := 2, hi := 2, stride := 1, ty := .u32, acc := .ro, cls := .none, dflt := .val 0, rng := .any, rel := false },
   { lo := 3, hi := 3, stride := 1, ty := .u32, acc := .ro, cls := .none, dflt := .val 0, rng := .any, rel := false },
   { lo := 4, hi := 4, stride := 1, ty := .u32, acc := .ro, cls := .none, dflt := .val 0, rng := .any, rel := false },
   { lo := 5, hi := 5, stride := 1, ty := .u16, acc := .ro, cls := .none, dflt := .val 0, rng := .any, rel := false }]

/-- Object 0x2210, LAST_ACCESS: the rows of its object table. -/
def subs_LAST_ACCESS : List Sub :=
  [{ lo := 0, hi := 0, stride := 1, ty := .u8, acc := .const, cls := .none, dflt := .val 3, rng := .any, rel := true },
   { lo := 1, hi := 1, stride := 1, ty := .u32, acc := .ro, cls := .none, dflt := .val 0, rng := .any, rel := true },
   { lo := 2, hi := 2, stride := 1, ty := .u32, acc := .ro, cls := .none, dflt := .val 0, rng := .any, rel := true },
   { lo := 3, hi := 3, stride := 1, ty := .u32, acc := .ro, cls := .none, dflt := .val 0, rng := .any, rel := true }]

/-- Object 0x2300, TENANT: the rows of its object table. -/
def subs_TENANT : List Sub :=
  [{ lo := 0, hi := 0, stride := 1, ty := .u8, acc := .const, cls := .none, dflt := .val 42, rng := .any, rel := false },
   { lo := 1, hi := 1, stride := 1, ty := .u16, acc := .arb, cls := .staged, dflt := .val 0, rng := .any, rel := false },
   { lo := 2, hi := 2, stride := 1, ty := .bool, acc := .arb, cls := .staged, dflt := .val 0, rng := .any, rel := false },
   { lo := 3, hi := 3, stride := 1, ty := .bool, acc := .arb, cls := .staged, dflt := .val 0, rng := .any, rel := false },
   { lo := 4, hi := 4, stride := 1, ty := .u8, acc := .ro, cls := .none, dflt := .val 0, rng := .any, rel := false },
   { lo := 5, hi := 5, stride := 1, ty := .u8, acc := .wo, cls := .none, dflt := .val 0, rng := (.oneOf [165]), rel := false },
   { lo := 6, hi := 6, stride := 1, ty := .u16, acc := .ro, cls := .none, dflt := .val 0, rng := .any, rel := false },
   { lo := 7, hi := 7, stride := 1, ty := .u8, acc := .ro, cls := .none, dflt := .val 0, rng := .any, rel := false },
   { lo := 8, hi := 8, stride := 1, ty := .u16, acc := .ro, cls := .none, dflt := .val 0, rng := .any, rel := false },
   { lo := 9, hi := 9, stride := 1, ty := .u8, acc := .ro, cls := .none, dflt := .val 0, rng := .any, rel := false },
   { lo := 10, hi := 17, stride := 1, ty := .u64, acc := .arb, cls := .staged, dflt := .val 0, rng := .any, rel := false },
   { lo := 18, hi := 25, stride := 1, ty := .u64, acc := .arb, cls := .staged, dflt := .val 0, rng := .any, rel := false },
   { lo := 26, hi := 26, stride := 1, ty := .u16, acc := .arb, cls := .staged, dflt := .val 0, rng := .any, rel := false },
   { lo := 27, hi := 27, stride := 1, ty := .u64, acc := .arb, cls := .staged, dflt := .val 0, rng := .any, rel := false },
   { lo := 28, hi := 28, stride := 1, ty := .u64, acc := .arb, cls := .staged, dflt := .val 0, rng := .any, rel := false },
   { lo := 29, hi := 29, stride := 1, ty := .u8, acc := .arb, cls := .staged, dflt := .val 0, rng := .any, rel := false },
   { lo := 30, hi := 30, stride := 1, ty := .u32, acc := .arb, cls := .staged, dflt := .val 0, rng := .any, rel := false },
   { lo := 31, hi := 31, stride := 1, ty := .u64, acc := .arb, cls := .staged, dflt := .val 0, rng := .any, rel := false },
   { lo := 32, hi := 32, stride := 1, ty := .u16, acc := .arb, cls := .staged, dflt := .val 0, rng := (.span 0 8191), rel := false },
   { lo := 33, hi := 33, stride := 1, ty := .u16, acc := .arb, cls := .staged, dflt := .val 0, rng := (.span 0 8191), rel := false },
   { lo := 34, hi := 41, stride := 1, ty := .u64, acc := .ro, cls := .none, dflt := .val 0, rng := .any, rel := false },
   { lo := 42, hi := 42, stride := 1, ty := .u16, acc := .wo, cls := .none, dflt := .val 0, rng := (.span 0 511), rel := false }]

/-- Object 0x2310, COMMIT_CONTROL: the rows of its object table. -/
def subs_COMMIT_CONTROL : List Sub :=
  [{ lo := 0, hi := 0, stride := 1, ty := .u8, acc := .const, cls := .none, dflt := .val 8, rng := .any, rel := true },
   { lo := 1, hi := 1, stride := 1, ty := .u32, acc := .wo, cls := .none, dflt := .val 0, rng := (.mask 67108863), rel := true },
   { lo := 2, hi := 2, stride := 1, ty := .u8, acc := .wo, cls := .none, dflt := .val 0, rng := (.oneOf [165]), rel := true },
   { lo := 3, hi := 3, stride := 1, ty := .u8, acc := .ro, cls := .none, dflt := .val 0, rng := .any, rel := true },
   { lo := 4, hi := 4, stride := 1, ty := .u8, acc := .ro, cls := .none, dflt := .val 0, rng := .any, rel := true },
   { lo := 5, hi := 5, stride := 1, ty := .u32, acc := .ro, cls := .none, dflt := .val 0, rng := .any, rel := true },
   { lo := 6, hi := 6, stride := 1, ty := .u32, acc := .ro, cls := .none, dflt := .val 0, rng := .any, rel := true },
   { lo := 7, hi := 7, stride := 1, ty := .u16, acc := .ro, cls := .none, dflt := .val 0, rng := .any, rel := true },
   { lo := 8, hi := 8, stride := 1, ty := .u16, acc := .ro, cls := .none, dflt := .val 0, rng := .any, rel := true }]

/-- Object 0x2312, BARRIER: the rows of its object table. -/
def subs_BARRIER : List Sub :=
  [{ lo := 0, hi := 0, stride := 1, ty := .u8, acc := .const, cls := .none, dflt := .val 2, rng := .any, rel := true },
   { lo := 1, hi := 1, stride := 1, ty := .u32, acc := .wo, cls := .none, dflt := .val 0, rng := (.span 1 4294967295), rel := true },
   { lo := 2, hi := 2, stride := 1, ty := .u32, acc := .ro, cls := .none, dflt := .val 0, rng := .any, rel := true }]

/-- Object 0x2313, FENCE_CONTROL: the rows of its object table. -/
def subs_FENCE_CONTROL : List Sub :=
  [{ lo := 0, hi := 0, stride := 1, ty := .u8, acc := .const, cls := .none, dflt := .val 3, rng := .any, rel := true },
   { lo := 1, hi := 1, stride := 1, ty := .u64, acc := .wo, cls := .none, dflt := .val 0, rng := .any, rel := true },
   { lo := 2, hi := 2, stride := 1, ty := .u32, acc := .ro, cls := .none, dflt := .val 0, rng := .any, rel := true },
   { lo := 3, hi := 3, stride := 1, ty := .u64, acc := .ro, cls := .none, dflt := .val 0, rng := .any, rel := true }]

/-- Object 0x2320, DEVICE_DIGEST: the rows of its object table. -/
def subs_DEVICE_DIGEST : List Sub :=
  [{ lo := 0, hi := 0, stride := 1, ty := .u8, acc := .const, cls := .none, dflt := .val 6, rng := .any, rel := false },
   { lo := 1, hi := 1, stride := 1, ty := .u64, acc := .ro, cls := .none, dflt := .na, rng := .any, rel := false },
   { lo := 2, hi := 2, stride := 1, ty := .u16, acc := .ro, cls := .none, dflt := .val 0, rng := .any, rel := false },
   { lo := 3, hi := 3, stride := 1, ty := .u32, acc := .ro, cls := .none, dflt := .na, rng := .any, rel := false },
   { lo := 4, hi := 4, stride := 1, ty := .u16, acc := .ro, cls := .none, dflt := .na, rng := .any, rel := false },
   { lo := 5, hi := 5, stride := 1, ty := .u32, acc := .ro, cls := .none, dflt := .val 0, rng := .any, rel := false },
   { lo := 6, hi := 6, stride := 1, ty := .u16, acc := .ro, cls := .none, dflt := .val 0, rng := .any, rel := false }]

/-- Object 0x2321, TENANT_DIGEST: the rows of its object table. -/
def subs_TENANT_DIGEST : List Sub :=
  [{ lo := 0, hi := 0, stride := 1, ty := .u8, acc := .const, cls := .none, dflt := .val 16, rng := .any, rel := false },
   { lo := 1, hi := 16, stride := 1, ty := .u64, acc := .ro, cls := .none, dflt := .na, rng := .any, rel := false }]

/-- Object 0x2322, TENANT_GENERATION: the rows of its object table. -/
def subs_TENANT_GENERATION : List Sub :=
  [{ lo := 0, hi := 0, stride := 1, ty := .u8, acc := .const, cls := .none, dflt := .val 32, rng := .any, rel := false },
   { lo := 1, hi := 16, stride := 1, ty := .u16, acc := .ro, cls := .none, dflt := .val 0, rng := .any, rel := false },
   { lo := 17, hi := 32, stride := 1, ty := .u16, acc := .ro, cls := .none, dflt := .na, rng := .any, rel := false }]

/-- Object 0x2323, DIE_DIGEST: the rows of its object table. -/
def subs_DIE_DIGEST : List Sub :=
  [{ lo := 0, hi := 0, stride := 1, ty := .u8, acc := .const, cls := .none, dflt := .val 8, rng := .any, rel := false },
   { lo := 1, hi := 4, stride := 1, ty := .u64, acc := .ro, cls := .none, dflt := .na, rng := .any, rel := false },
   { lo := 5, hi := 8, stride := 1, ty := .u64, acc := .ro, cls := .none, dflt := .na, rng := .any, rel := false }]

end Sys2Proof.Machine
end

