-- ==== Sys2Proof/Machine/CatalogB.lean ====
section
/-!
DEFINITION. The object tables of the chapters, part B: thermal, housekeeping, watchdogs, backup domain, security, event fabric, DMA and faults.
One list per object: the rows of its table in spec/, in the order of the table.
-/
namespace Sys2Proof.Machine

/-- Object 0x2400, THERMAL: the rows of its object table. -/
def subs_THERMAL : List Sub :=
  [{ lo := 0, hi := 0, stride := 1, ty := .u8, acc := .const, cls := .none, dflt := .val 4, rng := .any, rel := false },
   { lo := 1, hi := 1, stride := 1, ty := .i16, acc := .ro, cls := .none, dflt := .na, rng := .any, rel := false },
   { lo := 2, hi := 2, stride := 1, ty := .u8, acc := .ro, cls := .none, dflt := .na, rng := .any, rel := false },
   { lo := 3, hi := 3, stride := 1, ty := .u8, acc := .ro, cls := .none, dflt := .val 0, rng := .any, rel := false },
   { lo := 4, hi := 4, stride := 1, ty := .u16, acc := .ro, cls := .none, dflt := .val 0, rng := .any, rel := false }]

/-- Object 0x2401, THERMAL_DIE: the rows of its object table. -/
def subs_THERMAL_DIE (k : Nat) : List Sub :=
  [{ lo := 0, hi := 0, stride := 1, ty := .u8, acc := .const, cls := .none, dflt := .val (if k = 0 then 13 else 17), rng := .any, rel := false },
   { lo := 1, hi := 1, stride := 1, ty := .i16, acc := .ro, cls := .none, dflt := .na, rng := .any, rel := false },
   { lo := 2, hi := 2, stride := 1, ty := .i16, acc := .ro, cls := .none, dflt := .na, rng := .any, rel := false },
   { lo := 3, hi := 3, stride := 1, ty := .u8, acc := .ro, cls := .none, dflt := .val 0, rng := .any, rel := false },
   { lo := 4, hi := 4, stride := 1, ty := .u8, acc := .ro, cls := .none, dflt := .val 0, rng := .any, rel := false },
   { lo := 5, hi := 5, stride := 1, ty := .i16, acc := .ro, cls := .none, dflt := .na, rng := .any, rel := false },
   { lo := 6, hi := 6, stride := 1, ty := .u32, acc := .ro, cls := .none, dflt := .val 0, rng := .any, rel := false },
   { lo := 7, hi := 7, stride := 1, ty := .u16, acc := .ro, cls := .none, dflt := .val 0, rng := .any, rel := false },
   { lo := 8, hi := 8, stride := 1, ty := .u8, acc := .ro, cls := .none, dflt := .val 0, rng := .any, rel := false },
   { lo := 10, hi := 13, stride := 1, ty := .i16, acc := .ro, cls := .none, dflt := .na, rng := .any, rel := false },
   { lo := 14, hi := 17, stride := 1, ty := .i16, acc := .ro, cls := .none, dflt := .na, rng := .any, rel := false }]

/-- Object 0x2500, HK_ADC: the rows of its object table. -/
def subs_HK_ADC : List Sub :=
  [{ lo := 0, hi := 0, stride := 1, ty := .u8, acc := .const, cls := .none, dflt := .val 4, rng := .any, rel := false },
   { lo := 1, hi := 1, stride := 1, ty := .bool, acc := .arb, cls := .staged, dflt := .val 0, rng := .any, rel := false },
   { lo := 2, hi := 2, stride := 1, ty := .u64, acc := .ro, cls := .none, dflt := .val 0, rng := .any, rel := false },
   { lo := 3, hi := 3, stride := 1, ty := .u64, acc := .ro, cls := .none, dflt := .val 18446744073709551615, rng := .any, rel := false },
   { lo := 4, hi := 4, stride := 1, ty := .u64, acc := .ro, cls := .none, dflt := .val 0, rng := .any, rel := false }]

/-- Object 0x2501, HK_SEQUENCE: the rows of its object table. -/
def subs_HK_SEQUENCE : List Sub :=
  [{ lo := 0, hi := 0, stride := 1, ty := .u8, acc := .const, cls := .none, dflt := .val 11, rng := .any, rel := false },
   { lo := 1, hi := 1, stride := 1, ty := .u8, acc := .arb, cls := .staged, dflt := .val 0, rng := (.oneOf [0, 1, 2]), rel := false },
   { lo := 2, hi := 2, stride := 1, ty := .u8, acc := .arb, cls := .staged, dflt := .val 0, rng := (.span 0 63), rel := false },
   { lo := 3, hi := 3, stride := 1, ty := .u8, acc := .arb, cls := .staged, dflt := .val 0, rng := (.span 0 63), rel := false },
   { lo := 4, hi := 4, stride := 1, ty := .u8, acc := .arb, cls := .staged, dflt := .val 0, rng := (.oneOf [0, 1, 2]), rel := false },
   { lo := 5, hi := 5, stride := 1, ty := .u8, acc := .arb, cls := .staged, dflt := .val 0, rng := (.span 0 2), rel := false },
   { lo := 6, hi := 6, stride := 1, ty := .u16, acc := .arb, cls := .staged, dflt := .val 50, rng := (.span 1 65535), rel := false },
   { lo := 7, hi := 7, stride := 1, ty := .u8, acc := .arb, cls := .staged, dflt := .val 0, rng := (.span 0 3), rel := false },
   { lo := 8, hi := 8, stride := 1, ty := .u8, acc := .wo, cls := .none, dflt := .val 0, rng := (.oneOf [165]), rel := false },
   { lo := 9, hi := 9, stride := 1, ty := .u8, acc := .ro, cls := .none, dflt := .val 0, rng := .any, rel := false },
   { lo := 10, hi := 10, stride := 1, ty := .u32, acc := .ro, cls := .none, dflt := .val 0, rng := .any, rel := false },
   { lo := 11, hi := 11, stride := 1, ty := .u32, acc := .ro, cls := .none, dflt := .val 0, rng := .any, rel := false }]

/-- Object 0x2508, HK_CURVE: the rows of its object table. -/
def subs_HK_CURVE : List Sub :=
  [{ lo := 0, hi := 0, stride := 1, ty := .u8, acc := .const, cls := .none, dflt := .val 33, rng := .any, rel := false },
   { lo := 1, hi := 1, stride := 1, ty := .u8, acc := .arb, cls := .staged, dflt := .val 0, rng := (.spanOr [0] 2 16), rel := false },
   { lo := 2, hi := 17, stride := 1, ty := .i32, acc := .arb, cls := .staged, dflt := .val 0, rng := .any, rel := false },
   { lo := 18, hi := 33, stride := 1, ty := .i32, acc := .arb, cls := .staged, dflt := .val 0, rng := .any, rel := false }]

/-- Object 0x2510, HK_ENTRY: the rows of its object table. -/
def subs_HK_ENTRY : List Sub :=
  [{ lo := 0, hi := 0, stride := 1, ty := .u8, acc := .const, cls := .none, dflt := .val 14, rng := .any, rel := false },
   { lo := 1, hi := 1, stride := 1, ty := .u8, acc := .arb, cls := .staged, dflt := .val 55, rng := (.oneOf [0, 1, 2, 3, 4, 5, 6, 7, 8, 9, 10, 11, 12, 13, 14, 15, 16, 17, 18, 19, 20, 21, 22, 23, 32, 33, 34, 35, 36, 37, 38, 39, 40, 41, 42, 43, 48, 49, 50, 51, 52, 53, 54, 55]), rel := false },
   { lo := 2, hi := 2, stride := 1, ty := .u8, acc := .arb, cls := .staged, dflt := .val 0, rng := (.oneOf [0, 1, 2, 3]), rel := false },
   { lo := 3, hi := 3, stride := 1, ty := .u16, acc := .arb, cls := .staged, dflt := .val 1, rng := (.span 1 256), rel := false },
   { lo := 4, hi := 4, stride := 1, ty := .u16, acc := .arb, cls := .staged, dflt := .val 0, rng := (.span 0 65535), rel := false },
   { lo := 5, hi := 5, stride := 1, ty := .u8, acc := .arb, cls := .staged, dflt := .val 0, rng := (.oneOf [0, 1, 2]), rel := false },
   { lo := 6, hi := 6, stride := 1, ty := .u8, acc := .arb, cls := .staged, dflt := .val 0, rng := (.mask 3), rel := false },
   { lo := 7, hi := 7, stride := 1, ty := .u8, acc := .arb, cls := .staged, dflt := .val 0, rng := (.span 0 5), rel := false },
   { lo := 8, hi := 8, stride := 1, ty := .u8, acc := .arb, cls := .staged, dflt := .val 0, rng := (.oneOf [0, 1, 2]), rel := false },
   { lo := 9, hi := 9, stride := 1, ty := .i32, acc := .arb, cls := .staged, dflt := .val 65536, rng := .any, rel := false },
   { lo := 10, hi := 10, stride := 1, ty := .i32, acc := .arb, cls := .staged, dflt := .val 0, rng := .any, rel := false },
   { lo := 11, hi := 11, stride := 1, ty := .u32, acc := .ro, cls := .none, dflt := .val 0, rng := .any, rel := false },
   { lo := 12, hi := 12, stride := 1, ty := .i32, acc := .ro, cls := .none, dflt := .val 0, rng := .any, rel := false },
   { lo := 13, hi := 13, stride := 1, ty := .u8, acc := .ro, cls := .none, dflt := .val 5, rng := .any, rel := false },
   { lo := 14, hi := 14, stride := 1, ty := .u64, acc := .ro, cls := .none, dflt := .val 0, rng := .any, rel := false }]

/-- Object 0x2600, WATCHDOG: the rows of its object table. -/
def subs_WATCHDOG : List Sub :=
  [{ lo := 0, hi := 0, stride := 1, ty := .u8, acc := .const, cls := .none, dflt := .val 12, rng := .any, rel := false },
   { lo := 1, hi := 1, stride := 1, ty := .u64, acc := .wo, cls := .none, dflt := .val 0, rng := .any, rel := false },
   { lo := 2, hi := 2, stride := 1, ty := .u8, acc := .ro, cls := .none, dflt := .val 0, rng := .any, rel := false },
   { lo := 3, hi := 3, stride := 1, ty := .u32, acc := .ro, cls := .none, dflt := .val 0, rng := .any, rel := false },
   { lo := 4, hi := 4, stride := 1, ty := .u32, acc := .ro, cls := .none, dflt := .val 0, rng := .any, rel := false },
   { lo := 5, hi := 5, stride := 1, ty := .u32, acc := .wo, cls := .none, dflt := .val 0, rng := .any, rel := false },
   { lo := 6, hi := 6, stride := 1, ty := .u32, acc := .ro, cls := .none, dflt := .val 0, rng := .any, rel := false },
   { lo := 7, hi := 7, stride := 1, ty := .u64, acc := .ro, cls := .none, dflt := .val 0, rng := .any, rel := false },
   { lo := 8, hi := 8, stride := 1, ty := .u32, acc := .wo, cls := .none, dflt := .val 0, rng := (.span 1000 60000), rel := false },
   { lo := 9, hi := 9, stride := 1, ty := .bool, acc := .ro, cls := .none, dflt := .val 0, rng := .any, rel := false },
   { lo := 10, hi := 10, stride := 1, ty := .u16, acc := .ro, cls := .none, dflt := .val 0, rng := .any, rel := false },
   { lo := 11, hi := 11, stride := 1, ty := .u16, acc := .ro, cls := .none, dflt := .val 0, rng := .any, rel := false },
   { lo := 12, hi := 12, stride := 1, ty := .u32, acc := .ro, cls := .none, dflt := .val 0, rng := .any, rel := false }]

/-- Object 0x2610, DEVICE_WATCHDOG: the rows of its object table. -/
def subs_DEVICE_WATCHDOG : List Sub :=
  [{ lo := 0, hi := 0, stride := 1, ty := .u8, acc := .const, cls := .none, dflt := .val 4, rng := .any, rel := false },
   { lo := 1, hi := 1, stride := 1, ty := .u32, acc := .const, cls := .none, dflt := .val 10000, rng := .any, rel := false },
   { lo := 2, hi := 2, stride := 1, ty := .u16, acc := .ro, cls := .none, dflt := .val 0, rng := .any, rel := false },
   { lo := 3, hi := 3, stride := 1, ty := .u32, acc := .ro, cls := .none, dflt := .val 0, rng := .any, rel := false },
   { lo := 4, hi := 4, stride := 1, ty := .u64, acc := .ro, cls := .none, dflt := .val 0, rng := .any, rel := false }]

/-- Object 0x2700, RTC: the rows of its object table. -/
def subs_RTC : List Sub :=
  [{ lo := 0, hi := 0, stride := 1, ty := .u8, acc := .const, cls := .none, dflt := .val 7, rng := .any, rel := false },
   { lo := 1, hi := 1, stride := 1, ty := .u64, acc := .ro, cls := .none, dflt := .val 0, rng := .any, rel := false },
   { lo := 2, hi := 2, stride := 1, ty := .u64, acc := .wo, cls := .none, dflt := .val 0, rng := .any, rel := false },
   { lo := 3, hi := 3, stride := 1, ty := .u64, acc := .ro, cls := .none, dflt := .val 0, rng := .any, rel := false },
   { lo := 4, hi := 4, stride := 1, ty := .i16, acc := .arb, cls := .immediate, dflt := .val 0, rng := (.span (-2000) 2000), rel := false },
   { lo := 5, hi := 5, stride := 1, ty := .u8, acc := .ro, cls := .none, dflt := .val 3, rng := .any, rel := false },
   { lo := 6, hi := 6, stride := 1, ty := .u64, acc := .ro, cls := .none, dflt := .val 0, rng := .any, rel := false },
   { lo := 7, hi := 7, stride := 1, ty := .u8, acc := .ro, cls := .none, dflt := .val 0, rng := .any, rel := false }]

/-- Object 0x2701, ALARM: the rows of its object table. -/
def subs_ALARM : List Sub :=
  [{ lo := 0, hi := 0, stride := 1, ty := .u8, acc := .const, cls := .none, dflt := .val 4, rng := .any, rel := false },
   { lo := 1, hi := 1, stride := 1, ty := .u64, acc := .arb, cls := .immediate, dflt := .val 0, rng := (.span 0 12622780799), rel := false },
   { lo := 2, hi := 2, stride := 1, ty := .u32, acc := .arb, cls := .immediate, dflt := .val 0, rng := (.spanOr [0] 60 31536000), rel := false },
   { lo := 3, hi := 3, stride := 1, ty := .u8, acc := .ro, cls := .none, dflt := .val 0, rng := .any, rel := false },
   { lo := 4, hi := 4, stride := 1, ty := .u16, acc := .ro, cls := .none, dflt := .val 0, rng := .any, rel := false }]

/-- Object 0x2702, PON_CONTROL: the rows of its object table. -/
def subs_PON_CONTROL : List Sub :=
  [{ lo := 0, hi := 0, stride := 1, ty := .u8, acc := .const, cls := .none, dflt := .val 5, rng := .any, rel := false },
   { lo := 1, hi := 1, stride := 1, ty := .u8, acc := .wo, cls := .none, dflt := .val 0, rng := (.oneOf [165, 90]), rel := false },
   { lo := 2, hi := 2, stride := 1, ty := .u16, acc := .arb, cls := .immediate, dflt := .val 0, rng := (.mask 2047), rel := false },
   { lo := 3, hi := 3, stride := 1, ty := .bool, acc := .ro, cls := .none, dflt := .val 0, rng := .any, rel := false },
   { lo := 4, hi := 4, stride := 1, ty := .u8, acc := .ro, cls := .none, dflt := .val 8, rng := .any, rel := false },
   { lo := 5, hi := 5, stride := 1, ty := .u16, acc := .ro, cls := .none, dflt := .val 0, rng := .any, rel := false }]

/-- Object 0x2703, RETAINED: the rows of its object table. -/
def subs_RETAINED : List Sub :=
  [{ lo := 0, hi := 0, stride := 1, ty := .u8, acc := .const, cls := .none, dflt := .val 2, rng := .any, rel := false },
   { lo := 1, hi := 1, stride := 1, ty := .domain, acc := .ro, cls := .none, dflt := .val 0, rng := (.len 0 1024), rel := false },
   { lo := 2, hi := 2, stride := 1, ty := .u16, acc := .ro, cls := .none, dflt := .val 0, rng := .any, rel := false }]

/-- Object 0x2800, IDENTITY_DATA: the rows of its object table. -/
def subs_IDENTITY_DATA : List Sub :=
  [{ lo := 0, hi := 0, stride := 1, ty := .u8, acc := .const, cls := .none, dflt := .val 5, rng := .any, rel := false },
   { lo := 1, hi := 1, stride := 1, ty := .u64, acc := .const, cls := .none, dflt := .val 0, rng := .any, rel := false },
   { lo := 2, hi := 2, stride := 1, ty := .octets, acc := .const, cls := .none, dflt := .val 0, rng := (.len 0 64), rel := false },
   { lo := 3, hi := 3, stride := 1, ty := .domain, acc := .const, cls := .none, dflt := .val 0, rng := (.len 0 1024), rel := false },
   { lo := 4, hi := 4, stride := 1, ty := .u32, acc := .const, cls := .none, dflt := .val 0, rng := .any, rel := false },
   { lo := 5, hi := 5, stride := 1, ty := .u8, acc := .ro, cls := .none, dflt := .val 0, rng := .any, rel := false }]

/-- Object 0x2801, ATTEST_CONTROL: the rows of its object table. -/
def subs_ATTEST_CONTROL : List Sub :=
  [{ lo := 0, hi := 0, stride := 1, ty := .u8, acc := .const, cls := .none, dflt := .val 3, rng := .any, rel := true },
   { lo := 1, hi := 1, stride := 1, ty := .octets, acc := .wo, cls := .none, dflt := .val 0, rng := (.len 32 32), rel := true },
   { lo := 2, hi := 2, stride := 1, ty := .u8, acc := .ro, cls := .none, dflt := .val 0, rng := .any, rel := true },
   { lo := 3, hi := 3, stride := 1, ty := .octets, acc := .ro, cls := .none, dflt := .val 0, rng := (.len 0 152), rel := true }]

/-- Object 0x2802, SESSION_CONTROL: the rows of its object table. -/
def subs_SESSION_CONTROL : List Sub :=
  [{ lo := 0, hi := 0, stride := 1, ty := .u8, acc := .const, cls := .none, dflt := .val 9, rng := .any, rel := true },
   { lo := 1, hi := 1, stride := 1, ty := .octets, acc := .wo, cls := .none, dflt := .val 0, rng := (.len 64 64), rel := true },
   { lo := 2, hi := 2, stride := 1, ty := .octets, acc := .ro, cls := .none, dflt := .val 0, rng := (.len 0 132), rel := true },
   { lo := 3, hi := 3, stride := 1, ty := .u8, acc := .ro, cls := .none, dflt := .val 0, rng := .any, rel := true },
   { lo := 4, hi := 4, stride := 1, ty := .u8, acc := .wo, cls := .none, dflt := .val 0, rng := (.oneOf [165]), rel := true },
   { lo := 5, hi := 5, stride := 1, ty := .u32, acc := .ro, cls := .none, dflt := .val 0, rng := .any, rel := true },
   { lo := 6, hi := 6, stride := 1, ty := .u16, acc := .ro, cls := .none, dflt := .val 0, rng := .any, rel := true },
   { lo := 7, hi := 7, stride := 1, ty := .octets, acc := .wo, cls := .none, dflt := .val 0, rng := (.len 18 1041), rel := true },
   { lo := 8, hi := 8, stride := 1, ty := .octets, acc := .wo, cls := .none, dflt := .val 0, rng := (.len 17 17), rel := true },
   { lo := 9, hi := 9, stride := 1, ty := .octets, acc := .ro, cls := .none, dflt := .val 0, rng := (.len 0 1045), rel := true }]

/-- Object 0x2810, AUTH_POLICY: the rows of its object table. -/
def subs_AUTH_POLICY : List Sub :=
  [{ lo := 0, hi := 0, stride := 1, ty := .u8, acc := .const, cls := .none, dflt := .val 16, rng := .any, rel := false },
   { lo := 1, hi := 16, stride := 1, ty := .u8, acc := .arb, cls := .staged, dflt := .val 0, rng := (.span 0 2), rel := false }]

/-- Object 0x2811, SECURITY_STATUS: the rows of its object table. -/
def subs_SECURITY_STATUS : List Sub :=
  [{ lo := 0, hi := 0, stride := 1, ty := .u8, acc := .const, cls := .none, dflt := .val 4, rng := .any, rel := false },
   { lo := 1, hi := 1, stride := 1, ty := .u8, acc := .ro, cls := .none, dflt := .val 0, rng := .any, rel := false },
   { lo := 2, hi := 2, stride := 1, ty := .u32, acc := .ro, cls := .none, dflt := .val 0, rng := .any, rel := false },
   { lo := 3, hi := 3, stride := 1, ty := .u32, acc := .ro, cls := .none, dflt := .val 0, rng := .any, rel := false },
   { lo := 4, hi := 4, stride := 1, ty := .u32, acc := .ro, cls := .none, dflt := .val 0, rng := .any, rel := false }]

/-- Object 0x2900, EVENT_FABRIC: the rows of its object table. -/
def subs_EVENT_FABRIC : List Sub :=
  [{ lo := 0, hi := 0, stride := 1, ty := .u8, acc := .const, cls := .none, dflt := .val 7, rng := .any, rel := false },
   { lo := 1, hi := 1, stride := 1, ty := .u64, acc := .ro, cls := .none, dflt := .val 0, rng := .any, rel := false },
   { lo := 2, hi := 2, stride := 1, ty := .u8, acc := .arb, cls := .immediate, dflt := .val 0, rng := (.oneOf [0, 1]), rel := false },
   { lo := 3, hi := 3, stride := 1, ty := .u32, acc := .ro, cls := .none, dflt := .val 1024, rng := .any, rel := false },
   { lo := 4, hi := 4, stride := 1, ty := .u32, acc := .ro, cls := .none, dflt := .val 0, rng := .any, rel := false },
   { lo := 5, hi := 5, stride := 1, ty := .u32, acc := .ro, cls := .none, dflt := .val 0, rng := .any, rel := false },
   { lo := 6, hi := 6, stride := 1, ty := .bool, acc := .ro, cls := .none, dflt := .val 0, rng := .any, rel := false },
   { lo := 7, hi := 7, stride := 1, ty := .u8, acc := .ro, cls := .none, dflt := .val 0, rng := .any, rel := false }]

/-- Object 0x2901, HOLD_STATE: the rows of its object table. -/
def subs_HOLD_STATE : List Sub :=
  [{ lo := 0, hi := 0, stride := 1, ty := .u8, acc := .const, cls := .none, dflt := .val 16, rng := .any, rel := false },
   { lo := 1, hi := 16, stride := 1, ty := .bool, acc := .ro, cls := .none, dflt := .val 0, rng := .any, rel := false }]

/-- Object 0x2902, HOLD_CONTROL: the rows of its object table. -/
def subs_HOLD_CONTROL : List Sub :=
  [{ lo := 0, hi := 0, stride := 1, ty := .u8, acc := .const, cls := .none, dflt := .val 1, rng := .any, rel := true },
   { lo := 1, hi := 1, stride := 1, ty := .u8, acc := .wo, cls := .none, dflt := .val 0, rng := (.oneOf [165, 90]), rel := true }]

/-- Object 0x2910, TARGET: the rows of its object table. -/
def subs_TARGET : List Sub :=
  [{ lo := 0, hi := 0, stride := 1, ty := .u8, acc := .const, cls := .none, dflt := .val 8, rng := .any, rel := false },
   { lo := 1, hi := 1, stride := 1, ty := .bool, acc := .own, cls := .staged, dflt := .val 0, rng := .any, rel := false },
   { lo := 2, hi := 2, stride := 1, ty := .u16, acc := .own, cls := .staged, dflt := .val 1, rng := (.span 1 4096), rel := false },
   { lo := 3, hi := 3, stride := 1, ty := .u32, acc := .own, cls := .staged, dflt := .val 0, rng := (.spanOr [0] 1 1000000), rel := false },
   { lo := 4, hi := 4, stride := 1, ty := .u8, acc := .wo, cls := .none, dflt := .val 0, rng := (.oneOf [165]), rel := false },
   { lo := 5, hi := 5, stride := 1, ty := .u16, acc := .ro, cls := .none, dflt := .val 65535, rng := .any, rel := false },
   { lo := 6, hi := 6, stride := 1, ty := .u8, acc := .ro, cls := .none, dflt := .val 1, rng := .any, rel := false },
   { lo := 7, hi := 7, stride := 1, ty := .u32, acc := .ro, cls := .none, dflt := .val 0, rng := .any, rel := false },
   { lo := 8, hi := 8, stride := 1, ty := .u32, acc := .ro, cls := .none, dflt := .val 0, rng := .any, rel := false }]

/-- Object 0x2A00, DMA_ENGINE: the rows of its object table. -/
def subs_DMA_ENGINE : List Sub :=
  [{ lo := 0, hi := 0, stride := 1, ty := .u8, acc := .const, cls := .none, dflt := .val 4, rng := .any, rel := false },
   { lo := 1, hi := 1, stride := 1, ty := .u16, acc := .ro, cls := .none, dflt := .val 1024, rng := .any, rel := false },
   { lo := 2, hi := 2, stride := 1, ty := .u64, acc := .ro, cls := .none, dflt := .val 0, rng := .any, rel := false },
   { lo := 3, hi := 3, stride := 1, ty := .u32, acc := .ro, cls := .none, dflt := .val 0, rng := .any, rel := false },
   { lo := 4, hi := 4, stride := 1, ty := .u32, acc := .ro, cls := .none, dflt := .val 0, rng := .any, rel := false }]

/-- Object 0x2A10, STREAM: the rows of its object table. -/
def subs_STREAM : List Sub :=
  [{ lo := 0, hi := 0, stride := 1, ty := .u8, acc := .const, cls := .none, dflt := .val 13, rng := .any, rel := false },
   { lo := 1, hi := 1, stride := 1, ty := .u16, acc := .arb, cls := .staged, dflt := .val 0, rng := (.span 0 1023), rel := false },
   { lo := 2, hi := 2, stride := 1, ty := .u16, acc := .arb, cls := .staged, dflt := .val 0, rng := (.spanOr [0] 2 1024), rel := false },
   { lo := 3, hi := 3, stride := 1, ty := .u8, acc := .own, cls := .immediate, dflt := .val 0, rng := (.oneOf [0, 1]), rel := false },
   { lo := 4, hi := 4, stride := 1, ty := .u8, acc := .own, cls := .staged, dflt := .val 0, rng := (.oneOf [0, 1]), rel := false },
   { lo := 5, hi := 5, stride := 1, ty := .u16, acc := .own, cls := .staged, dflt := .val 50, rng := (.span 1 65535), rel := false },
   { lo := 6, hi := 6, stride := 1, ty := .u16, acc := .own, cls := .immediate, dflt := .val 0, rng := .any, rel := false },
   { lo := 7, hi := 7, stride := 1, ty := .u16, acc := .ro, cls := .none, dflt := .val 0, rng := .any, rel := false },
   { lo := 8, hi := 8, stride := 1, ty := .u8, acc := .ro, cls := .none, dflt := .val 0, rng := .any, rel := false },
   { lo := 9, hi := 9, stride := 1, ty := .u64, acc := .own, cls := .staged, dflt := .val 0, rng := (.mask 281474976710655), rel := false },
   { lo := 10, hi := 10, stride := 1, ty := .u32, acc := .ro, cls := .none, dflt := .val 0, rng := .any, rel := false },
   { lo := 11, hi := 11, stride := 1, ty := .u16, acc := .ro, cls := .none, dflt := .val 0, rng := .any, rel := false },
   { lo := 12, hi := 12, stride := 1, ty := .u16, acc := .ro, cls := .none, dflt := .val 65535, rng := .any, rel := false },
   { lo := 13, hi := 13, stride := 1, ty := .u16, acc := .ro, cls := .none, dflt := .val 0, rng := .any, rel := false }]

/-- Object 0x2A40, DESC_BLOCK: the rows of its object table. -/
def subs_DESC_BLOCK : List Sub :=
  [{ lo := 0, hi := 0, stride := 1, ty := .u8, acc := .const, cls := .none, dflt := .val 128, rng := .any, rel := false },
   { lo := 1, hi := 125, stride := 4, ty := .u64, acc := .own, cls := .immediate, dflt := .val 0, rng := .any, rel := false },
   { lo := 2, hi := 126, stride := 4, ty := .u64, acc := .own, cls := .immediate, dflt := .val 0, rng := .any, rel := false },
   { lo := 3, hi := 127, stride := 4, ty := .u64, acc := .own, cls := .immediate, dflt := .val 0, rng := .any, rel := false },
   { lo := 4, hi := 128, stride := 4, ty := .u64, acc := .ro, cls := .none, dflt := .val 0, rng := .any, rel := false }]

/-- Object 0x2A60, MAILBOX: the rows of its object table. -/
def subs_MAILBOX : List Sub :=
  [{ lo := 0, hi := 0, stride := 1, ty := .u8, acc := .const, cls := .none, dflt := .val 1, rng := .any, rel := false },
   { lo := 1, hi := 1, stride := 1, ty := .domain, acc := .ro, cls := .none, dflt := .val 0, rng := (.len 0 8192), rel := false }]

/-- Object 0x2C00, FAULT_STATUS: the rows of its object table. -/
def subs_FAULT_STATUS : List Sub :=
  [{ lo := 0, hi := 0, stride := 1, ty := .u8, acc := .const, cls := .none, dflt := .val 14, rng := .any, rel := false },
   { lo := 1, hi := 4, stride := 1, ty := .u32, acc := .ro, cls := .none, dflt := .val 0, rng := .any, rel := false },
   { lo := 5, hi := 5, stride := 1, ty := .u32, acc := .ro, cls := .none, dflt := .val 0, rng := .any, rel := false },
   { lo := 6, hi := 6, stride := 1, ty := .u32, acc := .ro, cls := .none, dflt := .val 0, rng := .any, rel := false },
   { lo := 7, hi := 7, stride := 1, ty := .u32, acc := .ro, cls := .none, dflt := .val 0, rng := .any, rel := false },
   { lo := 8, hi := 8, stride := 1, ty := .u16, acc := .ro, cls := .none, dflt := .val 0, rng := .any, rel := false },
   { lo := 9, hi := 9, stride := 1, ty := .u16, acc := .ro, cls := .none, dflt := .val 0, rng := .any, rel := false },
   { lo := 10, hi := 10, stride := 1, ty := .u32, acc := .ro, cls := .none, dflt := .val 0, rng := .any, rel := false },
   { lo := 11, hi := 11, stride := 1, ty := .u16, acc := .ro, cls := .none, dflt := .val 0, rng := .any, rel := false },
   { lo := 12, hi := 12, stride := 1, ty := .u32, acc := .ro, cls := .none, dflt := .val 0, rng := .any, rel := false },
   { lo := 13, hi := 13, stride := 1, ty := .octets, acc := .ro, cls := .none, dflt := .val 0, rng := (.len 0 32), rel := false },
   { lo := 14, hi := 14, stride := 1, ty := .bool, acc := .const, cls := .none, dflt := .val 0, rng := .any, rel := false }]

/-- Object 0x2C01, CLASS_OVERRIDE: the rows of its object table. -/
def subs_CLASS_OVERRIDE : List Sub :=
  [{ lo := 0, hi := 0, stride := 1, ty := .u8, acc := .const, cls := .none, dflt := .val 64, rng := .any, rel := false },
   { lo := 1, hi := 64, stride := 1, ty := .u32, acc := .arb, cls := .staged, dflt := .val 0, rng := .any, rel := false }]

/-- Object 0x2C02, KIND_QUERY: the rows of its object table. -/
def subs_KIND_QUERY : List Sub :=
  [{ lo := 0, hi := 0, stride := 1, ty := .u8, acc := .const, cls := .none, dflt := .val 2, rng := .any, rel := true },
   { lo := 1, hi := 1, stride := 1, ty := .u16, acc := .wo, cls := .none, dflt := .val 0, rng := .any, rel := true },
   { lo := 2, hi := 2, stride := 1, ty := .u32, acc := .ro, cls := .none, dflt := .val 4294967295, rng := .any, rel := true }]

/-- Object 0x2C03, KEEPER: the rows of its object table. -/
def subs_KEEPER : List Sub :=
  [{ lo := 0, hi := 0, stride := 1, ty := .u8, acc := .const, cls := .none, dflt := .val 8, rng := .any, rel := false },
   { lo := 1, hi := 1, stride := 1, ty := .u8, acc := .ro, cls := .none, dflt := .val 0, rng := .any, rel := false },
   { lo := 2, hi := 2, stride := 1, ty := .u16, acc := .ro, cls := .none, dflt := .val 0, rng := .any, rel := false },
   { lo := 3, hi := 3, stride := 1, ty := .u32, acc := .ro, cls := .none, dflt := .val 0, rng := .any, rel := false },
   { lo := 4, hi := 4, stride := 1, ty := .u8, acc := .ro, cls := .none, dflt := .val 0, rng := .any, rel := false },
   { lo := 5, hi := 5, stride := 1, ty := .u8, acc := .ro, cls := .none, dflt := .val 0, rng := .any, rel := false },
   { lo := 6, hi := 6, stride := 1, ty := .u32, acc := .arb, cls := .staged, dflt := .val 600, rng := (.spanOr [0] 60 86400), rel := false },
   { lo := 7, hi := 7, stride := 1, ty := .u8, acc := .arb, cls := .staged, dflt := .val 0, rng := (.oneOf [0, 1, 2]), rel := false },
   { lo := 8, hi := 8, stride := 1, ty := .u16, acc := .arb, cls := .staged, dflt := .val 240, rng := (.span 1 2047), rel := false }]

end Sys2Proof.Machine
end

