-- ==== Sys2Proof/Machine/CatalogC.lean ====
section
/-!
DEFINITION. The object tables of the chapters, part C: converters, battery path, estimator, channels, banks, groups, pairs, plans, outputs and rings.
One list per object: the rows of its table in spec/, in the order of the table.
-/
namespace Sys2Proof.Machine

/-- Object 0x2D00, CONVERTER: the rows of its object table. -/
def subs_CONVERTER : List Sub :=
  [{ lo := 0, hi := 0, stride := 1, ty := .u8, acc := .const, cls := .none, dflt := .val 23, rng := .any, rel := false },
   { lo := 1, hi := 1, stride := 1, ty := .u8, acc := .own, cls := .immediate, dflt := .val 0, rng := (.oneOf [0, 1]), rel := false },
   { lo := 2, hi := 2, stride := 1, ty := .i32, acc := .own, cls := .immediate, dflt := .val 0, rng := (.span 0 650000), rel := false },
   { lo := 3, hi := 3, stride := 1, ty := .u32, acc := .own, cls := .staged, dflt := .val 64000, rng := (.span 6400 128000), rel := false },
   { lo := 4, hi := 4, stride := 1, ty := .u8, acc := .own, cls := .staged, dflt := .val 1, rng := (.span 1 16), rel := false },
   { lo := 5, hi := 5, stride := 1, ty := .u32, acc := .own, cls := .staged, dflt := .val 100000, rng := (.span 100000 20000000), rel := false },
   { lo := 6, hi := 6, stride := 1, ty := .u16, acc := .own, cls := .staged, dflt := .val 100, rng := (.span 1 10000), rel := false },
   { lo := 7, hi := 7, stride := 1, ty := .u32, acc := .own, cls := .staged, dflt := .val 10000, rng := (.span 100 1000000), rel := false },
   { lo := 8, hi := 8, stride := 1, ty := .bool, acc := .own, cls := .staged, dflt := .val 1, rng := .any, rel := false },
   { lo := 9, hi := 9, stride := 1, ty := .i32, acc := .own, cls := .staged, dflt := .val 0, rng := (.span (-2000000000) 2000000000), rel := false },
   { lo := 10, hi := 10, stride := 1, ty := .i32, acc := .own, cls := .staged, dflt := .val 0, rng := (.span (-2000000000) 2000000000), rel := false },
   { lo := 11, hi := 11, stride := 1, ty := .u16, acc := .own, cls := .staged, dflt := .val 0, rng := .any, rel := false },
   { lo := 12, hi := 12, stride := 1, ty := .u16, acc := .own, cls := .staged, dflt := .val 58982, rng := .any, rel := false },
   { lo := 13, hi := 13, stride := 1, ty := .i32, acc := .own, cls := .staged, dflt := .val 12000, rng := (.span 0 650000), rel := false },
   { lo := 14, hi := 14, stride := 1, ty := .i32, acc := .own, cls := .staged, dflt := .val 5000, rng := (.span 1000 100000), rel := false },
   { lo := 15, hi := 15, stride := 1, ty := .u32, acc := .own, cls := .staged, dflt := .val 0, rng := (.spanOr [0] 100 1000000), rel := false },
   { lo := 16, hi := 16, stride := 1, ty := .u16, acc := .own, cls := .staged, dflt := .val 16, rng := (.span 1 1023), rel := false },
   { lo := 17, hi := 17, stride := 1, ty := .u32, acc := .own, cls := .staged, dflt := .val 100000, rng := (.span 1000 2000000), rel := false },
   { lo := 18, hi := 18, stride := 1, ty := .u8, acc := .own, cls := .staged, dflt := .val 5, rng := (.spanOr [0] 1 255), rel := false },
   { lo := 19, hi := 19, stride := 1, ty := .u32, acc := .own, cls := .staged, dflt := .val 1000000, rng := (.span 1000 60000000), rel := false },
   { lo := 20, hi := 20, stride := 1, ty := .bool, acc := .own, cls := .staged, dflt := .val 0, rng := .any, rel := false },
   { lo := 21, hi := 21, stride := 1, ty := .i32, acc := .own, cls := .staged, dflt := .val 0, rng := (.spanOr [0] 1 10000000), rel := false },
   { lo := 22, hi := 22, stride := 1, ty := .u8, acc := .own, cls := .staged, dflt := .val 255, rng := (.spanOr [255] 0 63), rel := false },
   { lo := 23, hi := 23, stride := 1, ty := .u8, acc := .own, cls := .staged, dflt := .val 255, rng := (.spanOr [255] 0 63), rel := false }]

/-- Object 0x2D08, CONVERTER_LOOP: the rows of its object table. -/
def subs_CONVERTER_LOOP : List Sub :=
  [{ lo := 0, hi := 0, stride := 1, ty := .u8, acc := .const, cls := .none, dflt := .val 12, rng := .any, rel := false },
   { lo := 1, hi := 4, stride := 1, ty := .i32, acc := .own, cls := .staged, dflt := .val 0, rng := .any, rel := false },
   { lo := 5, hi := 7, stride := 1, ty := .i32, acc := .own, cls := .staged, dflt := .val 0, rng := .any, rel := false },
   { lo := 8, hi := 10, stride := 1, ty := .i32, acc := .own, cls := .staged, dflt := .val 0, rng := .any, rel := false },
   { lo := 11, hi := 12, stride := 1, ty := .i32, acc := .own, cls := .staged, dflt := .val 0, rng := .any, rel := false }]

/-- Object 0x2D10, LANE: the rows of its object table. -/
def subs_LANE : List Sub :=
  [{ lo := 0, hi := 0, stride := 1, ty := .u8, acc := .const, cls := .none, dflt := .val 7, rng := .any, rel := false },
   { lo := 1, hi := 1, stride := 1, ty := .u8, acc := .arb, cls := .staged, dflt := .val 255, rng := (.spanOr [255] 0 3), rel := false },
   { lo := 2, hi := 2, stride := 1, ty := .u8, acc := .own, cls := .staged, dflt := .val 0, rng := (.oneOf [0, 1, 2]), rel := false },
   { lo := 3, hi := 3, stride := 1, ty := .u16, acc := .own, cls := .staged, dflt := .val 320, rng := (.span 0 1023), rel := false },
   { lo := 4, hi := 4, stride := 1, ty := .u16, acc := .own, cls := .staged, dflt := .val 320, rng := (.span 0 1023), rel := false },
   { lo := 5, hi := 5, stride := 1, ty := .u32, acc := .own, cls := .staged, dflt := .val 1000000, rng := (.span 10000 1000000000), rel := false },
   { lo := 6, hi := 6, stride := 1, ty := .u16, acc := .own, cls := .staged, dflt := .val 500, rng := (.span 1 500), rel := false },
   { lo := 7, hi := 7, stride := 1, ty := .u8, acc := .own, cls := .staged, dflt := .val 16, rng := (.spanOr [0] 1 255), rel := false }]

/-- Object 0x2D20, CONVERTER_STATUS: the rows of its object table. -/
def subs_CONVERTER_STATUS : List Sub :=
  [{ lo := 0, hi := 0, stride := 1, ty := .u8, acc := .const, cls := .none, dflt := .val 14, rng := .any, rel := false },
   { lo := 1, hi := 1, stride := 1, ty := .u8, acc := .ro, cls := .none, dflt := .val 0, rng := .any, rel := false },
   { lo := 2, hi := 2, stride := 1, ty := .i32, acc := .ro, cls := .none, dflt := .na, rng := .any, rel := false },
   { lo := 3, hi := 3, stride := 1, ty := .i32, acc := .ro, cls := .none, dflt := .na, rng := .any, rel := false },
   { lo := 4, hi := 4, stride := 1, ty := .i32, acc := .ro, cls := .none, dflt := .na, rng := .any, rel := false },
   { lo := 5, hi := 5, stride := 1, ty := .i32, acc := .ro, cls := .none, dflt := .val 0, rng := .any, rel := false },
   { lo := 6, hi := 6, stride := 1, ty := .i32, acc := .ro, cls := .none, dflt := .val 0, rng := .any, rel := false },
   { lo := 7, hi := 7, stride := 1, ty := .u8, acc := .ro, cls := .none, dflt := .val 0, rng := .any, rel := false },
   { lo := 8, hi := 8, stride := 1, ty := .u32, acc := .ro, cls := .none, dflt := .val 0, rng := .any, rel := false },
   { lo := 9, hi := 9, stride := 1, ty := .u32, acc := .ro, cls := .none, dflt := .val 0, rng := .any, rel := false },
   { lo := 10, hi := 10, stride := 1, ty := .u16, acc := .ro, cls := .none, dflt := .val 0, rng := .any, rel := false },
   { lo := 11, hi := 11, stride := 1, ty := .u8, acc := .ro, cls := .none, dflt := .val 0, rng := .any, rel := false },
   { lo := 12, hi := 12, stride := 1, ty := .u8, acc := .ro, cls := .none, dflt := .val 0, rng := .any, rel := false },
   { lo := 13, hi := 13, stride := 1, ty := .u32, acc := .ro, cls := .none, dflt := .val 0, rng := .any, rel := false },
   { lo := 14, hi := 14, stride := 1, ty := .u16, acc := .ro, cls := .none, dflt := .val 0, rng := .any, rel := false }]

/-- Object 0x2D28, CONVERTER_WINDOW: the rows of its object table. -/
def subs_CONVERTER_WINDOW : List Sub :=
  [{ lo := 0, hi := 0, stride := 1, ty := .u8, acc := .const, cls := .none, dflt := .val 13, rng := .any, rel := false },
   { lo := 1, hi := 1, stride := 1, ty := .u8, acc := .own, cls := .staged, dflt := .val 0, rng := (.oneOf [0, 1]), rel := false },
   { lo := 2, hi := 2, stride := 1, ty := .i32, acc := .own, cls := .staged, dflt := .val 0, rng := (.span 0 650000), rel := false },
   { lo := 3, hi := 3, stride := 1, ty := .i32, acc := .own, cls := .staged, dflt := .val 2000, rng := (.span 0 650000), rel := false },
   { lo := 4, hi := 4, stride := 1, ty := .i32, acc := .own, cls := .staged, dflt := .val 600000, rng := (.span 0 650000), rel := false },
   { lo := 5, hi := 5, stride := 1, ty := .i32, acc := .own, cls := .staged, dflt := .val 2000, rng := (.span 0 650000), rel := false },
   { lo := 6, hi := 6, stride := 1, ty := .u8, acc := .own, cls := .staged, dflt := .val 0, rng := (.oneOf [0, 1]), rel := false },
   { lo := 7, hi := 7, stride := 1, ty := .u8, acc := .own, cls := .staged, dflt := .val 5, rng := (.span 1 255), rel := false },
   { lo := 8, hi := 8, stride := 1, ty := .u8, acc := .own, cls := .staged, dflt := .val 5, rng := (.span 1 255), rel := false },
   { lo := 9, hi := 9, stride := 1, ty := .u8, acc := .own, cls := .staged, dflt := .val 5, rng := (.span 1 255), rel := false },
   { lo := 10, hi := 10, stride := 1, ty := .u8, acc := .own, cls := .staged, dflt := .val 5, rng := (.span 1 255), rel := false },
   { lo := 11, hi := 11, stride := 1, ty := .u8, acc := .ro, cls := .none, dflt := .val 0, rng := .any, rel := false },
   { lo := 12, hi := 12, stride := 1, ty := .u16, acc := .ro, cls := .none, dflt := .val 0, rng := .any, rel := false },
   { lo := 13, hi := 13, stride := 1, ty := .u16, acc := .ro, cls := .none, dflt := .val 0, rng := .any, rel := false }]

/-- Object 0x2D30, FAULT_RECORD: the rows of its object table. -/
def subs_FAULT_RECORD : List Sub :=
  [{ lo := 0, hi := 0, stride := 1, ty := .u8, acc := .const, cls := .none, dflt := .val 3, rng := .any, rel := false },
   { lo := 1, hi := 1, stride := 1, ty := .domain, acc := .ro, cls := .none, dflt := .val 0, rng := (.len 0 4096), rel := false },
   { lo := 2, hi := 2, stride := 1, ty := .u64, acc := .ro, cls := .none, dflt := .val 0, rng := .any, rel := false },
   { lo := 3, hi := 3, stride := 1, ty := .u8, acc := .ro, cls := .none, dflt := .val 0, rng := .any, rel := false }]

/-- Object 0x2D40, LANE_STATUS: the rows of its object table. -/
def subs_LANE_STATUS : List Sub :=
  [{ lo := 0, hi := 0, stride := 1, ty := .u8, acc := .const, cls := .none, dflt := .val 6, rng := .any, rel := false },
   { lo := 1, hi := 1, stride := 1, ty := .i32, acc := .ro, cls := .none, dflt := .na, rng := .any, rel := false },
   { lo := 2, hi := 2, stride := 1, ty := .i32, acc := .ro, cls := .none, dflt := .val 0, rng := .any, rel := false },
   { lo := 3, hi := 3, stride := 1, ty := .u16, acc := .ro, cls := .none, dflt := .val 0, rng := .any, rel := false },
   { lo := 4, hi := 4, stride := 1, ty := .u32, acc := .ro, cls := .none, dflt := .val 0, rng := .any, rel := false },
   { lo := 5, hi := 5, stride := 1, ty := .i16, acc := .ro, cls := .none, dflt := .val 0, rng := .any, rel := false },
   { lo := 6, hi := 6, stride := 1, ty := .u8, acc := .ro, cls := .none, dflt := .val 0, rng := .any, rel := false }]

/-- Object 0x2E00, BATTERY_SWITCH: the rows of its object table. -/
def subs_BATTERY_SWITCH : List Sub :=
  [{ lo := 0, hi := 0, stride := 1, ty := .u8, acc := .const, cls := .none, dflt := .val 14, rng := .any, rel := false },
   { lo := 1, hi := 1, stride := 1, ty := .u8, acc := .own, cls := .immediate, dflt := .val 1, rng := (.oneOf [0, 1, 2]), rel := false },
   { lo := 2, hi := 2, stride := 1, ty := .u8, acc := .ro, cls := .none, dflt := .val 1, rng := .any, rel := false },
   { lo := 3, hi := 3, stride := 1, ty := .bool, acc := .ro, cls := .none, dflt := .val 0, rng := .any, rel := false },
   { lo := 4, hi := 4, stride := 1, ty := .u8, acc := .ro, cls := .none, dflt := .val 0, rng := .any, rel := false },
   { lo := 5, hi := 5, stride := 1, ty := .i32, acc := .own, cls := .staged, dflt := .val 200, rng := (.span 50 1000), rel := false },
   { lo := 6, hi := 6, stride := 1, ty := .i32, acc := .own, cls := .staged, dflt := .val 3000, rng := (.span 500 20000), rel := false },
   { lo := 7, hi := 7, stride := 1, ty := .u16, acc := .own, cls := .staged, dflt := .val 10, rng := (.span 0 100), rel := false },
   { lo := 8, hi := 8, stride := 1, ty := .i32, acc := .own, cls := .staged, dflt := .val 0, rng := (.spanOr [0] 60000 650000), rel := false },
   { lo := 9, hi := 9, stride := 1, ty := .u32, acc := .own, cls := .staged, dflt := .val 10000000, rng := (.span 1000 600000000), rel := false },
   { lo := 10, hi := 10, stride := 1, ty := .i32, acc := .own, cls := .staged, dflt := .val 500000, rng := (.spanOr [0] 10000 20000000), rel := false },
   { lo := 11, hi := 11, stride := 1, ty := .i32, acc := .ro, cls := .none, dflt := .na, rng := .any, rel := false },
   { lo := 12, hi := 12, stride := 1, ty := .i32, acc := .ro, cls := .none, dflt := .na, rng := .any, rel := false },
   { lo := 13, hi := 13, stride := 1, ty := .u16, acc := .ro, cls := .none, dflt := .val 0, rng := .any, rel := false },
   { lo := 14, hi := 14, stride := 1, ty := .u8, acc := .ro, cls := .none, dflt := .val 0, rng := .any, rel := false }]

/-- Object 0x2E01, SHIP_CONTROL: the rows of its object table. -/
def subs_SHIP_CONTROL : List Sub :=
  [{ lo := 0, hi := 0, stride := 1, ty := .u8, acc := .const, cls := .none, dflt := .val 7, rng := .any, rel := false },
   { lo := 1, hi := 1, stride := 1, ty := .u8, acc := .wo, cls := .none, dflt := .val 0, rng := (.oneOf [165, 90]), rel := false },
   { lo := 2, hi := 2, stride := 1, ty := .u32, acc := .arb, cls := .staged, dflt := .val 30000000, rng := (.span 1000000 600000000), rel := false },
   { lo := 3, hi := 3, stride := 1, ty := .u8, acc := .ro, cls := .none, dflt := .val 0, rng := .any, rel := false },
   { lo := 4, hi := 4, stride := 1, ty := .bool, acc := .ro, cls := .none, dflt := .val 0, rng := .any, rel := false },
   { lo := 5, hi := 5, stride := 1, ty := .u16, acc := .ro, cls := .none, dflt := .val 0, rng := .any, rel := false },
   { lo := 6, hi := 6, stride := 1, ty := .u16, acc := .ro, cls := .none, dflt := .val 0, rng := .any, rel := false },
   { lo := 7, hi := 7, stride := 1, ty := .u32, acc := .ro, cls := .none, dflt := .val 0, rng := .any, rel := false }]

/-- Object 0x2E08, CHARGER: the rows of its object table. -/
def subs_CHARGER : List Sub :=
  [{ lo := 0, hi := 0, stride := 1, ty := .u8, acc := .const, cls := .none, dflt := .val 17, rng := .any, rel := false },
   { lo := 1, hi := 1, stride := 1, ty := .u8, acc := .own, cls := .immediate, dflt := .val 0, rng := (.oneOf [0, 1]), rel := false },
   { lo := 2, hi := 2, stride := 1, ty := .u8, acc := .own, cls := .staged, dflt := .val 255, rng := (.spanOr [255] 0 63), rel := false },
   { lo := 3, hi := 3, stride := 1, ty := .i16, acc := .own, cls := .staged, dflt := .val 0, rng := (.span (-4000) 6000), rel := false },
   { lo := 4, hi := 4, stride := 1, ty := .i16, acc := .own, cls := .staged, dflt := .val 4500, rng := (.span (-4000) 6000), rel := false },
   { lo := 5, hi := 5, stride := 1, ty := .i32, acc := .own, cls := .staged, dflt := .val 0, rng := (.span 0 650000), rel := false },
   { lo := 6, hi := 6, stride := 1, ty := .i32, acc := .own, cls := .staged, dflt := .val 20000, rng := (.span 0 1000000), rel := false },
   { lo := 7, hi := 7, stride := 1, ty := .u32, acc := .own, cls := .staged, dflt := .val 3600, rng := (.span 60 86400), rel := false },
   { lo := 8, hi := 8, stride := 1, ty := .i32, acc := .own, cls := .staged, dflt := .val 0, rng := (.span 0 5000000), rel := false },
   { lo := 9, hi := 9, stride := 1, ty := .u32, acc := .own, cls := .staged, dflt := .val 60000, rng := (.span 1000 600000), rel := false },
   { lo := 10, hi := 10, stride := 1, ty := .u32, acc := .own, cls := .staged, dflt := .val 5000, rng := (.span 500 60000), rel := false },
   { lo := 11, hi := 11, stride := 1, ty := .i32, acc := .own, cls := .staged, dflt := .val 0, rng := (.span 0 650000), rel := false },
   { lo := 12, hi := 12, stride := 1, ty := .i32, acc := .own, cls := .staged, dflt := .val 0, rng := (.span 0 650000), rel := false },
   { lo := 13, hi := 13, stride := 1, ty := .i32, acc := .own, cls := .staged, dflt := .val 0, rng := (.span 0 650000), rel := false },
   { lo := 14, hi := 14, stride := 1, ty := .i32, acc := .own, cls := .staged, dflt := .val 0, rng := (.span 0 650000), rel := false },
   { lo := 15, hi := 15, stride := 1, ty := .u32, acc := .own, cls := .staged, dflt := .val 10000, rng := (.span 1000 600000), rel := false },
   { lo := 16, hi := 16, stride := 1, ty := .u32, acc := .own, cls := .staged, dflt := .val 28800, rng := (.span 600 172800), rel := false },
   { lo := 17, hi := 17, stride := 1, ty := .i32, acc := .own, cls := .staged, dflt := .val 5000, rng := (.span 100 1000000), rel := false }]

/-- Object 0x2E09, CHARGER_STATUS: the rows of its object table. -/
def subs_CHARGER_STATUS : List Sub :=
  [{ lo := 0, hi := 0, stride := 1, ty := .u8, acc := .const, cls := .none, dflt := .val 9, rng := .any, rel := false },
   { lo := 1, hi := 1, stride := 1, ty := .u8, acc := .ro, cls := .none, dflt := .val 0, rng := .any, rel := false },
   { lo := 2, hi := 2, stride := 1, ty := .u8, acc := .ro, cls := .none, dflt := .val 0, rng := .any, rel := false },
   { lo := 3, hi := 3, stride := 1, ty := .u8, acc := .ro, cls := .none, dflt := .val 0, rng := .any, rel := false },
   { lo := 4, hi := 4, stride := 1, ty := .u8, acc := .ro, cls := .none, dflt := .val 0, rng := .any, rel := false },
   { lo := 5, hi := 5, stride := 1, ty := .i32, acc := .ro, cls := .none, dflt := .val 0, rng := .any, rel := false },
   { lo := 6, hi := 6, stride := 1, ty := .u32, acc := .ro, cls := .none, dflt := .val 0, rng := .any, rel := false },
   { lo := 7, hi := 7, stride := 1, ty := .u32, acc := .ro, cls := .none, dflt := .val 0, rng := .any, rel := false },
   { lo := 8, hi := 8, stride := 1, ty := .u16, acc := .ro, cls := .none, dflt := .val 0, rng := .any, rel := false },
   { lo := 9, hi := 9, stride := 1, ty := .u32, acc := .ro, cls := .none, dflt := .val 0, rng := .any, rel := false }]

/-- Object 0x2E10, ASSIST_PORT: the rows of its object table. -/
def subs_ASSIST_PORT : List Sub :=
  [{ lo := 0, hi := 0, stride := 1, ty := .u8, acc := .const, cls := .none, dflt := .val 8, rng := .any, rel := false },
   { lo := 1, hi := 1, stride := 1, ty := .u8, acc := .wo, cls := .none, dflt := .val 0, rng := (.oneOf [165]), rel := false },
   { lo := 2, hi := 2, stride := 1, ty := .u8, acc := .wo, cls := .none, dflt := .val 0, rng := (.oneOf [165]), rel := false },
   { lo := 3, hi := 3, stride := 1, ty := .i32, acc := .own, cls := .staged, dflt := .val 280000, rng := (.span 50000 320000), rel := false },
   { lo := 4, hi := 4, stride := 1, ty := .i32, acc := .own, cls := .staged, dflt := .val 500000, rng := (.span 0 1500000), rel := false },
   { lo := 5, hi := 5, stride := 1, ty := .i32, acc := .own, cls := .staged, dflt := .val 300000, rng := (.span 50000 320000), rel := false },
   { lo := 6, hi := 6, stride := 1, ty := .i32, acc := .own, cls := .staged, dflt := .val 20000, rng := (.span 1000 100000), rel := false },
   { lo := 7, hi := 7, stride := 1, ty := .u32, acc := .own, cls := .staged, dflt := .val 600, rng := (.span 10 7200), rel := false },
   { lo := 8, hi := 8, stride := 1, ty := .u32, acc := .own, cls := .staged, dflt := .val 1800, rng := (.span 10 14400), rel := false }]

/-- Object 0x2E11, ASSIST_STATUS: the rows of its object table. -/
def subs_ASSIST_STATUS : List Sub :=
  [{ lo := 0, hi := 0, stride := 1, ty := .u8, acc := .const, cls := .none, dflt := .val 7, rng := .any, rel := false },
   { lo := 1, hi := 1, stride := 1, ty := .u8, acc := .ro, cls := .none, dflt := .val 0, rng := .any, rel := false },
   { lo := 2, hi := 2, stride := 1, ty := .u8, acc := .ro, cls := .none, dflt := .val 0, rng := .any, rel := false },
   { lo := 3, hi := 3, stride := 1, ty := .i32, acc := .ro, cls := .none, dflt := .na, rng := .any, rel := false },
   { lo := 4, hi := 4, stride := 1, ty := .i32, acc := .ro, cls := .none, dflt := .val 0, rng := .any, rel := false },
   { lo := 5, hi := 5, stride := 1, ty := .i64, acc := .ro, cls := .none, dflt := .val 0, rng := .any, rel := false },
   { lo := 6, hi := 6, stride := 1, ty := .u32, acc := .ro, cls := .none, dflt := .val 0, rng := .any, rel := false },
   { lo := 7, hi := 7, stride := 1, ty := .u16, acc := .ro, cls := .none, dflt := .val 0, rng := .any, rel := false }]

/-- Object 0x2F00, ESTIMATOR: the rows of its object table. -/
def subs_ESTIMATOR : List Sub :=
  [{ lo := 0, hi := 0, stride := 1, ty := .u8, acc := .const, cls := .none, dflt := .val 17, rng := .any, rel := false },
   { lo := 1, hi := 1, stride := 1, ty := .u32, acc := .arb, cls := .staged, dflt := .val 0, rng := (.spanOr [0] 10000 10000000), rel := false },
   { lo := 2, hi := 2, stride := 1, ty := .i16, acc := .arb, cls := .staged, dflt := .val 0, rng := (.span (-5000) 5000), rel := false },
   { lo := 3, hi := 3, stride := 1, ty := .i16, acc := .arb, cls := .staged, dflt := .val 2500, rng := .any, rel := false },
   { lo := 4, hi := 4, stride := 1, ty := .u8, acc := .arb, cls := .staged, dflt := .val 255, rng := (.spanOr [255] 0 63), rel := false },
   { lo := 5, hi := 5, stride := 1, ty := .i16, acc := .arb, cls := .staged, dflt := .val 2500, rng := .any, rel := false },
   { lo := 6, hi := 6, stride := 1, ty := .u8, acc := .arb, cls := .staged, dflt := .val 255, rng := (.spanOr [255] 0 63), rel := false },
   { lo := 7, hi := 7, stride := 1, ty := .u32, acc := .arb, cls := .staged, dflt := .val 0, rng := (.spanOr [0] 1000 4000000), rel := false },
   { lo := 8, hi := 8, stride := 1, ty := .u16, acc := .arb, cls := .staged, dflt := .val 9950, rng := (.span 9000 10000), rel := false },
   { lo := 9, hi := 9, stride := 1, ty := .u16, acc := .arb, cls := .staged, dflt := .val 50, rng := (.span 5 1000), rel := false },
   { lo := 10, hi := 10, stride := 1, ty := .i32, acc := .arb, cls := .staged, dflt := .val 20000, rng := (.span 1000 1000000), rel := false },
   { lo := 11, hi := 11, stride := 1, ty := .u32, acc := .arb, cls := .staged, dflt := .val 1800, rng := (.span 60 86400), rel := false },
   { lo := 12, hi := 12, stride := 1, ty := .u16, acc := .arb, cls := .staged, dflt := .val 2000, rng := (.span 0 10000), rel := false },
   { lo := 13, hi := 13, stride := 1, ty := .u16, acc := .arb, cls := .staged, dflt := .val 8000, rng := (.span 0 10000), rel := false },
   { lo := 14, hi := 14, stride := 1, ty := .u16, acc := .arb, cls := .staged, dflt := .val 200, rng := .any, rel := false },
   { lo := 15, hi := 15, stride := 1, ty := .u16, acc := .arb, cls := .staged, dflt := .val 3000, rng := (.span 0 5000), rel := false },
   { lo := 16, hi := 16, stride := 1, ty := .u16, acc := .arb, cls := .staged, dflt := .val 2500, rng := (.span 100 10000), rel := false },
   { lo := 17, hi := 17, stride := 1, ty := .u32, acc := .arb, cls := .staged, dflt := .val 0, rng := (.spanOr [0] 100000 1000000000), rel := false }]

/-- Object 0x2F01, ESTIMATOR_STATUS: the rows of its object table. -/
def subs_ESTIMATOR_STATUS : List Sub :=
  [{ lo := 0, hi := 0, stride := 1, ty := .u8, acc := .const, cls := .none, dflt := .val 17, rng := .any, rel := false },
   { lo := 1, hi := 1, stride := 1, ty := .i32, acc := .ro, cls := .none, dflt := .na, rng := .any, rel := false },
   { lo := 2, hi := 2, stride := 1, ty := .i32, acc := .ro, cls := .none, dflt := .na, rng := .any, rel := false },
   { lo := 3, hi := 3, stride := 1, ty := .i32, acc := .ro, cls := .none, dflt := .na, rng := .any, rel := false },
   { lo := 4, hi := 4, stride := 1, ty := .i64, acc := .ro, cls := .none, dflt := .val 0, rng := .any, rel := false },
   { lo := 5, hi := 5, stride := 1, ty := .u16, acc := .ro, cls := .none, dflt := .val 65535, rng := .any, rel := false },
   { lo := 6, hi := 6, stride := 1, ty := .i16, acc := .ro, cls := .none, dflt := .val (-32768), rng := .any, rel := false },
   { lo := 7, hi := 7, stride := 1, ty := .u8, acc := .ro, cls := .none, dflt := .val 0, rng := .any, rel := false },
   { lo := 8, hi := 8, stride := 1, ty := .u16, acc := .ro, cls := .none, dflt := .val 33, rng := .any, rel := false },
   { lo := 9, hi := 9, stride := 1, ty := .u32, acc := .ro, cls := .none, dflt := .val 0, rng := .any, rel := false },
   { lo := 10, hi := 10, stride := 1, ty := .u32, acc := .ro, cls := .none, dflt := .val 0, rng := .any, rel := false },
   { lo := 11, hi := 11, stride := 1, ty := .u32, acc := .ro, cls := .none, dflt := .val 0, rng := .any, rel := false },
   { lo := 12, hi := 12, stride := 1, ty := .u16, acc := .ro, cls := .none, dflt := .val 65535, rng := .any, rel := false },
   { lo := 13, hi := 13, stride := 1, ty := .u16, acc := .ro, cls := .none, dflt := .val 65535, rng := .any, rel := false },
   { lo := 14, hi := 14, stride := 1, ty := .i32, acc := .ro, cls := .none, dflt := .val 0, rng := .any, rel := false },
   { lo := 15, hi := 15, stride := 1, ty := .u16, acc := .ro, cls := .none, dflt := .val 0, rng := .any, rel := false },
   { lo := 16, hi := 16, stride := 1, ty := .u16, acc := .ro, cls := .none, dflt := .val 0, rng := .any, rel := false },
   { lo := 17, hi := 17, stride := 1, ty := .i16, acc := .ro, cls := .none, dflt := .na, rng := .any, rel := false }]

/-- Object 0x2F02, OCV_TABLE: the rows of its object table. -/
def subs_OCV_TABLE : List Sub :=
  [{ lo := 0, hi := 0, stride := 1, ty := .u8, acc := .const, cls := .none, dflt := .val 33, rng := .any, rel := false },
   { lo := 1, hi := 1, stride := 1, ty := .u8, acc := .arb, cls := .staged, dflt := .val 0, rng := (.spanOr [0] 2 16), rel := false },
   { lo := 2, hi := 17, stride := 1, ty := .u16, acc := .arb, cls := .staged, dflt := .val 0, rng := (.span 0 10000), rel := false },
   { lo := 18, hi := 33, stride := 1, ty := .i32, acc := .arb, cls := .staged, dflt := .val 0, rng := (.span 0 650000), rel := false }]

/-- Object 0x2F03, BATTERY_RECORD: the rows of its object table. -/
def subs_BATTERY_RECORD : List Sub :=
  [{ lo := 0, hi := 0, stride := 1, ty := .u8, acc := .const, cls := .none, dflt := .val 3, rng := .any, rel := false },
   { lo := 1, hi := 1, stride := 1, ty := .domain, acc := .ro, cls := .none, dflt := .val 0, rng := (.len 0 1236), rel := false },
   { lo := 2, hi := 2, stride := 1, ty := .u32, acc := .ro, cls := .none, dflt := .val 0, rng := .any, rel := false },
   { lo := 3, hi := 3, stride := 1, ty := .u8, acc := .wo, cls := .none, dflt := .val 0, rng := (.oneOf [165]), rel := false }]

/-- Object 0x3000, CHANNEL_CONFIG: the rows of its object table. -/
def subs_CHANNEL_CONFIG : List Sub :=
  [{ lo := 0, hi := 0, stride := 1, ty := .u8, acc := .const, cls := .none, dflt := .val 17, rng := .any, rel := false },
   { lo := 1, hi := 1, stride := 1, ty := .u8, acc := .own, cls := .immediate, dflt := .val 0, rng := (.oneOf [0, 1, 2]), rel := false },
   { lo := 2, hi := 2, stride := 1, ty := .u32, acc := .own, cls := .staged, dflt := .val 0, rng := (.spanOr [0] 50000 100000000), rel := false },
   { lo := 3, hi := 3, stride := 1, ty := .u8, acc := .own, cls := .staged, dflt := .val 255, rng := (.spanOr [255] 0 63), rel := false },
   { lo := 4, hi := 4, stride := 1, ty := .i16, acc := .own, cls := .staged, dflt := .val 0, rng := (.span (-5000) 5000), rel := false },
   { lo := 5, hi := 5, stride := 1, ty := .i16, acc := .own, cls := .staged, dflt := .val 2500, rng := .any, rel := false },
   { lo := 6, hi := 6, stride := 1, ty := .i16, acc := .own, cls := .staged, dflt := .val 2500, rng := .any, rel := false },
   { lo := 7, hi := 7, stride := 1, ty := .u8, acc := .own, cls := .staged, dflt := .val 7, rng := (.span 0 63), rel := false },
   { lo := 8, hi := 8, stride := 1, ty := .u8, acc := .own, cls := .staged, dflt := .val 15, rng := (.span 0 127), rel := false },
   { lo := 9, hi := 9, stride := 1, ty := .i32, acc := .own, cls := .staged, dflt := .val 5000, rng := (.span 1000 50000), rel := false },
   { lo := 10, hi := 10, stride := 1, ty := .u32, acc := .own, cls := .staged, dflt := .val 50000, rng := (.span 1000 2000000), rel := false },
   { lo := 11, hi := 11, stride := 1, ty := .u8, acc := .own, cls := .staged, dflt := .val 0, rng := (.oneOf [0, 1, 2]), rel := false },
   { lo := 12, hi := 12, stride := 1, ty := .u32, acc := .own, cls := .immediate, dflt := .val 10000, rng := (.span 500 10000000), rel := false },
   { lo := 13, hi := 13, stride := 1, ty := .u16, acc := .own, cls := .immediate, dflt := .val 0, rng := .any, rel := false },
   { lo := 14, hi := 14, stride := 1, ty := .u8, acc := .own, cls := .staged, dflt := .val 0, rng := (.oneOf [0, 1]), rel := false },
   { lo := 15, hi := 15, stride := 1, ty := .u16, acc := .own, cls := .staged, dflt := .val 0, rng := .any, rel := false },
   { lo := 16, hi := 16, stride := 1, ty := .u8, acc := .wo, cls := .none, dflt := .val 0, rng := (.oneOf [165]), rel := false },
   { lo := 17, hi := 17, stride := 1, ty := .u8, acc := .wo, cls := .none, dflt := .val 0, rng := (.oneOf [165]), rel := false }]

/-- Object 0x3200, CHANNEL_PROTECTION_0: the rows of its object table. -/
def subs_CHANNEL_PROTECTION_0 : List Sub :=
  [{ lo := 0, hi := 0, stride := 1, ty := .u8, acc := .const, cls := .none, dflt := .val 45, rng := .any, rel := false },
   { lo := 1, hi := 1, stride := 1, ty := .u16, acc := .own, cls := .staged, dflt := .val 200, rng := (.span 8 320), rel := false },
   { lo := 2, hi := 2, stride := 1, ty := .u8, acc := .own, cls := .staged, dflt := .val 2, rng := (.span 0 10), rel := false },
   { lo := 3, hi := 3, stride := 1, ty := .u16, acc := .own, cls := .staged, dflt := .val 160, rng := (.spanOr [0] 4 320), rel := false },
   { lo := 4, hi := 4, stride := 1, ty := .u32, acc := .own, cls := .staged, dflt := .val 2000, rng := (.span 100 1000000), rel := false },
   { lo := 5, hi := 5, stride := 1, ty := .u8, acc := .own, cls := .staged, dflt := .val 0, rng := (.oneOf [0, 1, 2]), rel := false },
   { lo := 6, hi := 6, stride := 1, ty := .u8, acc := .own, cls := .staged, dflt := .val 1, rng := (.oneOf [1, 2, 3, 4, 5, 6, 7, 8, 9, 10, 11, 12, 13, 14]), rel := false },
   { lo := 7, hi := 7, stride := 1, ty := .u32, acc := .own, cls := .staged, dflt := .val 39000000, rng := (.span 100000 100000000), rel := false },
   { lo := 8, hi := 8, stride := 1, ty := .u16, acc := .own, cls := .staged, dflt := .val 3930, rng := (.span 0 6000), rel := false },
   { lo := 9, hi := 9, stride := 1, ty := .u32, acc := .own, cls := .staged, dflt := .val 14000, rng := (.span 100 100000), rel := false },
   { lo := 10, hi := 10, stride := 1, ty := .u32, acc := .own, cls := .staged, dflt := .val 3000000, rng := (.span 1000 4000000000), rel := false },
   { lo := 11, hi := 11, stride := 1, ty := .u32, acc := .own, cls := .staged, dflt := .val 60000000, rng := (.span 1000 4000000000), rel := false },
   { lo := 12, hi := 12, stride := 1, ty := .u16, acc := .own, cls := .staged, dflt := .val 5500, rng := (.span 0 10000), rel := false },
   { lo := 13, hi := 13, stride := 1, ty := .u16, acc := .own, cls := .staged, dflt := .val 3000, rng := .any, rel := false },
   { lo := 14, hi := 14, stride := 1, ty := .u16, acc := .own, cls := .staged, dflt := .val 4000, rng := .any, rel := false },
   { lo := 15, hi := 15, stride := 1, ty := .u16, acc := .own, cls := .staged, dflt := .val 2000, rng := .any, rel := false },
   { lo := 16, hi := 16, stride := 1, ty := .u8, acc := .own, cls := .staged, dflt := .val 255, rng := (.spanOr [255] 0 63), rel := false },
   { lo := 17, hi := 17, stride := 1, ty := .i16, acc := .own, cls := .staged, dflt := .val 8500, rng := .any, rel := false },
   { lo := 18, hi := 18, stride := 1, ty := .u8, acc := .own, cls := .staged, dflt := .val 0, rng := (.oneOf [0, 1]), rel := false },
   { lo := 19, hi := 19, stride := 1, ty := .u32, acc := .own, cls := .staged, dflt := .val 500, rng := (.span 10 1000000), rel := false },
   { lo := 20, hi := 20, stride := 1, ty := .u32, acc := .own, cls := .staged, dflt := .val 5000, rng := (.span 100 4000000000), rel := false },
   { lo := 21, hi := 21, stride := 1, ty := .u32, acc := .own, cls := .staged, dflt := .val 30000, rng := (.span 10 1000000), rel := false },
   { lo := 22, hi := 22, stride := 1, ty := .u32, acc := .own, cls := .staged, dflt := .val 20000000, rng := (.span 100 4000000000), rel := false },
   { lo := 23, hi := 23, stride := 1, ty := .u32, acc := .own, cls := .staged, dflt := .val 5000000, rng := (.span 10000 1000000000), rel := false }]

/-- Object 0x3200, CHANNEL_PROTECTION_1: the rows of its object table. -/
def subs_CHANNEL_PROTECTION_1 : List Sub :=
  [{ lo := 24, hi := 24, stride := 1, ty := .i16, acc := .own, cls := .staged, dflt := .val 15000, rng := .any, rel := false },
   { lo := 25, hi := 25, stride := 1, ty := .i16, acc := .own, cls := .staged, dflt := .val 17000, rng := .any, rel := false },
   { lo := 26, hi := 26, stride := 1, ty := .i16, acc := .own, cls := .staged, dflt := .val 12000, rng := .any, rel := false },
   { lo := 27, hi := 27, stride := 1, ty := .u8, acc := .own, cls := .staged, dflt := .val 255, rng := (.spanOr [255] 0 63), rel := false },
   { lo := 28, hi := 28, stride := 1, ty := .i16, acc := .own, cls := .staged, dflt := .val 10500, rng := .any, rel := false },
   { lo := 29, hi := 29, stride := 1, ty := .u8, acc := .own, cls := .staged, dflt := .val 0, rng := (.spanOr [255] 0 254), rel := false },
   { lo := 30, hi := 30, stride := 1, ty := .u32, acc := .own, cls := .staged, dflt := .val 1000000, rng := (.span 1000 600000000), rel := false },
   { lo := 31, hi := 31, stride := 1, ty := .u32, acc := .own, cls := .staged, dflt := .val 1000000, rng := (.span 1000 600000000), rel := false },
   { lo := 32, hi := 32, stride := 1, ty := .i32, acc := .own, cls := .staged, dflt := .val 0, rng := (.span 0 16000000), rel := false },
   { lo := 33, hi := 33, stride := 1, ty := .u32, acc := .own, cls := .staged, dflt := .val 10000, rng := (.span 0 10000000), rel := false },
   { lo := 34, hi := 34, stride := 1, ty := .u8, acc := .own, cls := .staged, dflt := .val 8, rng := (.span 0 15), rel := false },
   { lo := 35, hi := 35, stride := 1, ty := .u32, acc := .own, cls := .staged, dflt := .val 500000, rng := (.span 1000 10000000), rel := false },
   { lo := 36, hi := 36, stride := 1, ty := .bool, acc := .own, cls := .staged, dflt := .val 0, rng := .any, rel := false },
   { lo := 37, hi := 37, stride := 1, ty := .i32, acc := .own, cls := .staged, dflt := .val 0, rng := (.span 0 16000000), rel := false },
   { lo := 38, hi := 38, stride := 1, ty := .u8, acc := .own, cls := .staged, dflt := .val 32, rng := (.span 4 64), rel := false },
   { lo := 39, hi := 39, stride := 1, ty := .u32, acc := .own, cls := .staged, dflt := .val 100000, rng := (.span 1000 2000000), rel := false },
   { lo := 40, hi := 40, stride := 1, ty := .u16, acc := .own, cls := .staged, dflt := .val 5000, rng := .any, rel := false },
   { lo := 41, hi := 41, stride := 1, ty := .u16, acc := .ro, cls := .none, dflt := .val 0, rng := .any, rel := false },
   { lo := 42, hi := 42, stride := 1, ty := .i16, acc := .ro, cls := .none, dflt := .na, rng := .any, rel := false },
   { lo := 43, hi := 43, stride := 1, ty := .u16, acc := .ro, cls := .none, dflt := .val 0, rng := .any, rel := false },
   { lo := 44, hi := 44, stride := 1, ty := .u8, acc := .ro, cls := .none, dflt := .val 0, rng := .any, rel := false },
   { lo := 45, hi := 45, stride := 1, ty := .u32, acc := .ro, cls := .none, dflt := .val 0, rng := .any, rel := false }]

/-- Object 0x3200, CHANNEL_PROTECTION: the rows of its object table. -/
def subs_CHANNEL_PROTECTION : List Sub := subs_CHANNEL_PROTECTION_0 ++ subs_CHANNEL_PROTECTION_1

/-- Object 0x3400, CHANNEL_STATUS: the rows of its object table. -/
def subs_CHANNEL_STATUS (k : Nat) : List Sub :=
  [{ lo := 0, hi := 0, stride := 1, ty := .u8, acc := .const, cls := .none, dflt := .val 15, rng := .any, rel := false },
   { lo := 1, hi := 1, stride := 1, ty := .u8, acc := .ro, cls := .none, dflt := .val 0, rng := .any, rel := false },
   { lo := 2, hi := 2, stride := 1, ty := .u32, acc := .ro, cls := .none, dflt := .val (if k % 128 < 16 then 0x210 else 0x10), rng := .any, rel := false },
   { lo := 3, hi := 3, stride := 1, ty := .i32, acc := .ro, cls := .none, dflt := .na, rng := .any, rel := false },
   { lo := 4, hi := 4, stride := 1, ty := .i32, acc := .ro, cls := .none, dflt := .na, rng := .any, rel := false },
   { lo := 5, hi := 5, stride := 1, ty := .i32, acc := .ro, cls := .none, dflt := .na, rng := .any, rel := false },
   { lo := 6, hi := 6, stride := 1, ty := .i32, acc := .ro, cls := .none, dflt := .na, rng := .any, rel := false },
   { lo := 7, hi := 7, stride := 1, ty := .i32, acc := .ro, cls := .none, dflt := .na, rng := .any, rel := false },
   { lo := 8, hi := 8, stride := 1, ty := .i32, acc := .ro, cls := .none, dflt := .val (-2147483648), rng := .any, rel := true },
   { lo := 9, hi := 9, stride := 1, ty := .i32, acc := .ro, cls := .none, dflt := .val (-2147483648), rng := .any, rel := true },
   { lo := 10, hi := 10, stride := 1, ty := .u32, acc := .ro, cls := .none, dflt := .na, rng := .any, rel := false },
   { lo := 11, hi := 11, stride := 1, ty := .u8, acc := .ro, cls := .none, dflt := .val 0, rng := .any, rel := false },
   { lo := 12, hi := 12, stride := 1, ty := .u8, acc := .ro, cls := .none, dflt := .val 0, rng := .any, rel := false },
   { lo := 13, hi := 13, stride := 1, ty := .i16, acc := .ro, cls := .none, dflt := .na, rng := .any, rel := false },
   { lo := 14, hi := 14, stride := 1, ty := .u32, acc := .ro, cls := .none, dflt := .val 0, rng := .any, rel := false },
   { lo := 15, hi := 15, stride := 1, ty := .u8, acc := .ro, cls := .none, dflt := .val 0, rng := .any, rel := false }]

/-- Object 0x3600, CHANNEL_SUPERVISION_0: the rows of its object table. -/
def subs_CHANNEL_SUPERVISION_0 : List Sub :=
  [{ lo := 0, hi := 0, stride := 1, ty := .u8, acc := .const, cls := .none, dflt := .val 26, rng := .any, rel := false },
   { lo := 1, hi := 1, stride := 1, ty := .u8, acc := .own, cls := .staged, dflt := .val 0, rng := (.oneOf [0, 1]), rel := false },
   { lo := 2, hi := 2, stride := 1, ty := .i32, acc := .own, cls := .staged, dflt := .val 0, rng := (.span 0 650000), rel := false },
   { lo := 3, hi := 3, stride := 1, ty := .i32, acc := .own, cls := .staged, dflt := .val 2000, rng := (.span 0 650000), rel := false },
   { lo := 4, hi := 4, stride := 1, ty := .i32, acc := .own, cls := .staged, dflt := .val 600000, rng := (.span 0 650000), rel := false },
   { lo := 5, hi := 5, stride := 1, ty := .i32, acc := .own, cls := .staged, dflt := .val 2000, rng := (.span 0 650000), rel := false },
   { lo := 6, hi := 6, stride := 1, ty := .u8, acc := .own, cls := .staged, dflt := .val 0, rng := (.oneOf [0, 1]), rel := false },
   { lo := 7, hi := 7, stride := 1, ty := .u8, acc := .own, cls := .staged, dflt := .val 5, rng := (.span 1 255), rel := false },
   { lo := 8, hi := 8, stride := 1, ty := .u8, acc := .own, cls := .staged, dflt := .val 5, rng := (.span 1 255), rel := false },
   { lo := 9, hi := 9, stride := 1, ty := .u8, acc := .own, cls := .staged, dflt := .val 5, rng := (.span 1 255), rel := false },
   { lo := 10, hi := 10, stride := 1, ty := .u8, acc := .own, cls := .staged, dflt := .val 5, rng := (.span 1 255), rel := false },
   { lo := 11, hi := 11, stride := 1, ty := .u8, acc := .ro, cls := .none, dflt := .val 0, rng := .any, rel := false },
   { lo := 12, hi := 12, stride := 1, ty := .i32, acc := .own, cls := .staged, dflt := .val 2000, rng := .any, rel := false },
   { lo := 13, hi := 13, stride := 1, ty := .i32, acc := .own, cls := .staged, dflt := .val 0, rng := .any, rel := false },
   { lo := 14, hi := 14, stride := 1, ty := .i32, acc := .own, cls := .staged, dflt := .val 598000, rng := .any, rel := false },
   { lo := 15, hi := 15, stride := 1, ty := .i32, acc := .own, cls := .staged, dflt := .val 600000, rng := .any, rel := false },
   { lo := 16, hi := 16, stride := 1, ty := .u16, acc := .ro, cls := .none, dflt := .val 0, rng := .any, rel := false },
   { lo := 17, hi := 17, stride := 1, ty := .u16, acc := .ro, cls := .none, dflt := .val 0, rng := .any, rel := false },
   { lo := 18, hi := 18, stride := 1, ty := .u16, acc := .ro, cls := .none, dflt := .val 0, rng := .any, rel := false },
   { lo := 19, hi := 19, stride := 1, ty := .u16, acc := .ro, cls := .none, dflt := .val 0, rng := .any, rel := false },
   { lo := 20, hi := 20, stride := 1, ty := .u16, acc := .ro, cls := .none, dflt := .val 0, rng := .any, rel := false },
   { lo := 21, hi := 21, stride := 1, ty := .u16, acc := .ro, cls := .none, dflt := .val 0, rng := .any, rel := false },
   { lo := 22, hi := 22, stride := 1, ty := .u16, acc := .ro, cls := .none, dflt := .val 0, rng := .any, rel := false },
   { lo := 23, hi := 23, stride := 1, ty := .u16, acc := .ro, cls := .none, dflt := .val 0, rng := .any, rel := false }]

/-- Object 0x3600, CHANNEL_SUPERVISION_1: the rows of its object table. -/
def subs_CHANNEL_SUPERVISION_1 : List Sub :=
  [{ lo := 24, hi := 24, stride := 1, ty := .u16, acc := .ro, cls := .none, dflt := .val 0, rng := .any, rel := false },
   { lo := 25, hi := 25, stride := 1, ty := .u8, acc := .wo, cls := .none, dflt := .val 0, rng := (.oneOf [165]), rel := false },
   { lo := 26, hi := 26, stride := 1, ty := .u32, acc := .ro, cls := .none, dflt := .val 0, rng := .any, rel := false }]

/-- Object 0x3600, CHANNEL_SUPERVISION: the rows of its object table. -/
def subs_CHANNEL_SUPERVISION : List Sub := subs_CHANNEL_SUPERVISION_0 ++ subs_CHANNEL_SUPERVISION_1

/-- Object 0x3800, BANK: the rows of its object table. -/
def subs_BANK (k : Nat) : List Sub :=
  [{ lo := 0, hi := 0, stride := 1, ty := .u8, acc := .const, cls := .none, dflt := .val (if k % 8 = 0 then 25 else 8), rng := .any, rel := false },
   { lo := 1, hi := 1, stride := 1, ty := .i32, acc := .ro, cls := .none, dflt := .na, rng := .any, rel := false },
   { lo := 2, hi := 2, stride := 1, ty := .i32, acc := .ro, cls := .none, dflt := .na, rng := .any, rel := false },
   { lo := 3, hi := 3, stride := 1, ty := .i32, acc := .ro, cls := .none, dflt := .na, rng := .any, rel := false },
   { lo := 4, hi := 4, stride := 1, ty := .u8, acc := .ro, cls := .none, dflt := .val 0, rng := .any, rel := false },
   { lo := 5, hi := 5, stride := 1, ty := .u8, acc := .arb, cls := .staged, dflt := .val 0, rng := (.oneOf [0, 1]), rel := false },
   { lo := 6, hi := 6, stride := 1, ty := .i32, acc := .arb, cls := .staged, dflt := .val 80000, rng := (.span 60000 400000), rel := false },
   { lo := 7, hi := 7, stride := 1, ty := .i32, acc := .arb, cls := .staged, dflt := .val 10000, rng := (.span 1000 100000), rel := false },
   { lo := 8, hi := 8, stride := 1, ty := .u8, acc := .arb, cls := .staged, dflt := .val ((k / 2 : Nat)), rng := (.span 0 15), rel := false },
   { lo := 9, hi := 9, stride := 1, ty := .u8, acc := .arb, cls := .staged, dflt := .val 0, rng := (.span 0 15), rel := false },
   { lo := 10, hi := 10, stride := 1, ty := .u8, acc := .own, cls := .staged, dflt := .val 1, rng := (.oneOf [1, 2, 4, 8]), rel := false },
   { lo := 11, hi := 18, stride := 1, ty := .u16, acc := .own, cls := .staged, dflt := .val 0, rng := .any, rel := false },
   { lo := 19, hi := 19, stride := 1, ty := .u8, acc := .own, cls := .staged, dflt := .val 0, rng := (.span 0 3), rel := false },
   { lo := 20, hi := 20, stride := 1, ty := .i16, acc := .own, cls := .staged, dflt := .val 0, rng := .any, rel := false },
   { lo := 21, hi := 21, stride := 1, ty := .u16, acc := .own, cls := .staged, dflt := .val 0, rng := .any, rel := false },
   { lo := 22, hi := 22, stride := 1, ty := .u8, acc := .wo, cls := .none, dflt := .val 0, rng := (.oneOf [165]), rel := false },
   { lo := 23, hi := 23, stride := 1, ty := .u8, acc := .ro, cls := .none, dflt := .val 0, rng := .any, rel := false },
   { lo := 24, hi := 24, stride := 1, ty := .u64, acc := .ro, cls := .none, dflt := .val 0, rng := .any, rel := false },
   { lo := 25, hi := 25, stride := 1, ty := .domain, acc := .ro, cls := .none, dflt := .val 0, rng := (.len 0 8192), rel := false }]

/-- Object 0x3820, BUDGET_GROUP: the rows of its object table. -/
def subs_BUDGET_GROUP : List Sub :=
  [{ lo := 0, hi := 0, stride := 1, ty := .u8, acc := .const, cls := .none, dflt := .val 7, rng := .any, rel := false },
   { lo := 1, hi := 1, stride := 1, ty := .i32, acc := .own, cls := .staged, dflt := .val 0, rng := (.spanOr [0] 1 2000000000), rel := false },
   { lo := 2, hi := 2, stride := 1, ty := .u8, acc := .own, cls := .staged, dflt := .val 4, rng := (.span 1 16), rel := false },
   { lo := 3, hi := 3, stride := 1, ty := .i32, acc := .ro, cls := .none, dflt := .val 0, rng := .any, rel := false },
   { lo := 4, hi := 4, stride := 1, ty := .i32, acc := .ro, cls := .none, dflt := .val 0, rng := .any, rel := false },
   { lo := 5, hi := 5, stride := 1, ty := .u16, acc := .ro, cls := .none, dflt := .val 0, rng := .any, rel := false },
   { lo := 6, hi := 6, stride := 1, ty := .u16, acc := .ro, cls := .none, dflt := .val 0, rng := .any, rel := false },
   { lo := 7, hi := 7, stride := 1, ty := .u32, acc := .ro, cls := .none, dflt := .val 0, rng := .any, rel := false }]

/-- Object 0x3830, SEQ_GROUP: the rows of its object table. -/
def subs_SEQ_GROUP : List Sub :=
  [{ lo := 0, hi := 0, stride := 1, ty := .u8, acc := .const, cls := .none, dflt := .val 13, rng := .any, rel := false },
   { lo := 1, hi := 8, stride := 1, ty := .u64, acc := .own, cls := .staged, dflt := .val 0, rng := .any, rel := false },
   { lo := 9, hi := 9, stride := 1, ty := .i32, acc := .own, cls := .staged, dflt := .val 10000, rng := (.span 0 650000), rel := false },
   { lo := 10, hi := 10, stride := 1, ty := .u32, acc := .own, cls := .staged, dflt := .val 2000000, rng := (.span 1000 600000000), rel := false },
   { lo := 11, hi := 11, stride := 1, ty := .u16, acc := .ro, cls := .none, dflt := .val 0, rng := .any, rel := false },
   { lo := 12, hi := 12, stride := 1, ty := .bool, acc := .ro, cls := .none, dflt := .val 0, rng := .any, rel := false },
   { lo := 13, hi := 13, stride := 1, ty := .u16, acc := .ro, cls := .none, dflt := .val 0, rng := .any, rel := false }]

/-- Object 0x3870, CASTLING_PAIR: the rows of its object table. -/
def subs_CASTLING_PAIR : List Sub :=
  [{ lo := 0, hi := 0, stride := 1, ty := .u8, acc := .const, cls := .none, dflt := .val 9, rng := .any, rel := false },
   { lo := 1, hi := 1, stride := 1, ty := .u16, acc := .own, cls := .staged, dflt := .val 65535, rng := .any, rel := false },
   { lo := 2, hi := 2, stride := 1, ty := .u16, acc := .own, cls := .staged, dflt := .val 65535, rng := .any, rel := false },
   { lo := 3, hi := 3, stride := 1, ty := .u32, acc := .own, cls := .staged, dflt := .val 1000, rng := (.span 20 10000), rel := false },
   { lo := 4, hi := 4, stride := 1, ty := .u32, acc := .own, cls := .staged, dflt := .val 100000, rng := (.span 1000 2000000), rel := false },
   { lo := 5, hi := 5, stride := 1, ty := .u8, acc := .wo, cls := .none, dflt := .val 0, rng := (.oneOf [0, 1]), rel := false },
   { lo := 6, hi := 6, stride := 1, ty := .u8, acc := .ro, cls := .none, dflt := .val 255, rng := .any, rel := false },
   { lo := 7, hi := 7, stride := 1, ty := .u8, acc := .ro, cls := .none, dflt := .val 0, rng := .any, rel := false },
   { lo := 8, hi := 8, stride := 1, ty := .u8, acc := .ro, cls := .none, dflt := .val 0, rng := .any, rel := false },
   { lo := 9, hi := 9, stride := 1, ty := .u32, acc := .ro, cls := .none, dflt := .val 0, rng := .any, rel := false }]

/-- Object 0x3900, OPENING_PLAN: the rows of its object table. -/
def subs_OPENING_PLAN : List Sub :=
  [{ lo := 0, hi := 0, stride := 1, ty := .u8, acc := .const, cls := .none, dflt := .val 11, rng := .any, rel := false },
   { lo := 1, hi := 1, stride := 1, ty := .u8, acc := .arb, cls := .staged, dflt := .val 0, rng := (.span 0 128), rel := false },
   { lo := 2, hi := 2, stride := 1, ty := .u8, acc := .wo, cls := .none, dflt := .val 0, rng := (.oneOf [165]), rel := false },
   { lo := 3, hi := 3, stride := 1, ty := .u8, acc := .wo, cls := .none, dflt := .val 0, rng := (.oneOf [165]), rel := false },
   { lo := 4, hi := 4, stride := 1, ty := .u16, acc := .wo, cls := .none, dflt := .val 0, rng := .any, rel := false },
   { lo := 5, hi := 5, stride := 1, ty := .u8, acc := .ro, cls := .none, dflt := .val 0, rng := .any, rel := false },
   { lo := 6, hi := 6, stride := 1, ty := .u8, acc := .ro, cls := .none, dflt := .val 0, rng := .any, rel := false },
   { lo := 7, hi := 7, stride := 1, ty := .u32, acc := .ro, cls := .none, dflt := .val 0, rng := .any, rel := false },
   { lo := 8, hi := 8, stride := 1, ty := .u32, acc := .ro, cls := .none, dflt := .val 0, rng := .any, rel := false },
   { lo := 9, hi := 9, stride := 1, ty := .u16, acc := .ro, cls := .none, dflt := .val 0, rng := .any, rel := false },
   { lo := 10, hi := 10, stride := 1, ty := .u8, acc := .ro, cls := .none, dflt := .val 0, rng := .any, rel := false },
   { lo := 11, hi := 11, stride := 1, ty := .u16, acc := .ro, cls := .none, dflt := .val 0, rng := .any, rel := false }]

/-- Object 0x3901, OPENING_STEPS: the rows of its object table. -/
def subs_OPENING_STEPS : List Sub :=
  [{ lo := 0, hi := 0, stride := 1, ty := .u8, acc := .const, cls := .none, dflt := .val 128, rng := .any, rel := false },
   { lo := 1, hi := 128, stride := 1, ty := .u64, acc := .arb, cls := .staged, dflt := .val 0, rng := .any, rel := false }]

/-- Object 0x3902, OPENING_STEP_STATE: the rows of its object table. -/
def subs_OPENING_STEP_STATE : List Sub :=
  [{ lo := 0, hi := 0, stride := 1, ty := .u8, acc := .const, cls := .none, dflt := .val 128, rng := .any, rel := false },
   { lo := 1, hi := 128, stride := 1, ty := .u8, acc := .ro, cls := .none, dflt := .val 0, rng := .any, rel := false }]

/-- Object 0x3908, ENDGAME_PLAN: the rows of its object table. -/
def subs_ENDGAME_PLAN : List Sub :=
  [{ lo := 0, hi := 0, stride := 1, ty := .u8, acc := .const, cls := .none, dflt := .val 14, rng := .any, rel := false },
   { lo := 1, hi := 1, stride := 1, ty := .u8, acc := .arb, cls := .staged, dflt := .val 0, rng := (.span 0 128), rel := false },
   { lo := 2, hi := 2, stride := 1, ty := .u8, acc := .wo, cls := .none, dflt := .val 0, rng := (.oneOf [165]), rel := false },
   { lo := 3, hi := 3, stride := 1, ty := .u8, acc := .wo, cls := .none, dflt := .val 0, rng := (.oneOf [165]), rel := false },
   { lo := 4, hi := 4, stride := 1, ty := .u16, acc := .wo, cls := .none, dflt := .val 0, rng := .any, rel := false },
   { lo := 5, hi := 5, stride := 1, ty := .u8, acc := .ro, cls := .none, dflt := .val 0, rng := .any, rel := false },
   { lo := 6, hi := 6, stride := 1, ty := .u8, acc := .ro, cls := .none, dflt := .val 0, rng := .any, rel := false },
   { lo := 7, hi := 7, stride := 1, ty := .u32, acc := .ro, cls := .none, dflt := .val 0, rng := .any, rel := false },
   { lo := 8, hi := 8, stride := 1, ty := .u32, acc := .ro, cls := .none, dflt := .val 0, rng := .any, rel := false },
   { lo := 9, hi := 9, stride := 1, ty := .u16, acc := .ro, cls := .none, dflt := .val 0, rng := .any, rel := false },
   { lo := 10, hi := 10, stride := 1, ty := .u8, acc := .ro, cls := .none, dflt := .val 0, rng := .any, rel := false },
   { lo := 11, hi := 11, stride := 1, ty := .u16, acc := .ro, cls := .none, dflt := .val 0, rng := .any, rel := false },
   { lo := 12, hi := 12, stride := 1, ty := .u8, acc := .arb, cls := .staged, dflt := .val 0, rng := (.span 0 8), rel := false },
   { lo := 13, hi := 13, stride := 1, ty := .u32, acc := .arb, cls := .staged, dflt := .val 1000000, rng := (.span 0 60000000), rel := false },
   { lo := 14, hi := 14, stride := 1, ty := .u8, acc := .arb, cls := .staged, dflt := .val 0, rng := (.oneOf [0, 1]), rel := false }]

/-- Object 0x3909, ENDGAME_STEPS: the rows of its object table. -/
def subs_ENDGAME_STEPS : List Sub :=
  [{ lo := 0, hi := 0, stride := 1, ty := .u8, acc := .const, cls := .none, dflt := .val 128, rng := .any, rel := false },
   { lo := 1, hi := 128, stride := 1, ty := .u64, acc := .arb, cls := .staged, dflt := .val 0, rng := .any, rel := false }]

/-- Object 0x390A, ENDGAME_STEP_STATE: the rows of its object table. -/
def subs_ENDGAME_STEP_STATE : List Sub :=
  [{ lo := 0, hi := 0, stride := 1, ty := .u8, acc := .const, cls := .none, dflt := .val 128, rng := .any, rel := false },
   { lo := 1, hi := 128, stride := 1, ty := .u8, acc := .ro, cls := .none, dflt := .val 0, rng := .any, rel := false }]

/-- Object 0x3A00, RESET_OUTPUT: the rows of its object table. -/
def subs_RESET_OUTPUT : List Sub :=
  [{ lo := 0, hi := 0, stride := 1, ty := .u8, acc := .const, cls := .none, dflt := .val 8, rng := .any, rel := false },
   { lo := 1, hi := 1, stride := 1, ty := .u8, acc := .arb, cls := .staged, dflt := .val 0, rng := (.oneOf [0, 1, 2]), rel := false },
   { lo := 2, hi := 2, stride := 1, ty := .u16, acc := .arb, cls := .staged, dflt := .val 0, rng := .any, rel := false },
   { lo := 3, hi := 3, stride := 1, ty := .u16, acc := .arb, cls := .staged, dflt := .val 100, rng := (.span 1 1000), rel := false },
   { lo := 4, hi := 4, stride := 1, ty := .u8, acc := .arb, cls := .immediate, dflt := .val 0, rng := (.oneOf [0, 1]), rel := false },
   { lo := 5, hi := 5, stride := 1, ty := .bool, acc := .arb, cls := .staged, dflt := .val 0, rng := .any, rel := false },
   { lo := 6, hi := 6, stride := 1, ty := .bool, acc := .ro, cls := .none, dflt := .val 1, rng := .any, rel := false },
   { lo := 7, hi := 7, stride := 1, ty := .u16, acc := .ro, cls := .none, dflt := .val 0, rng := .any, rel := false },
   { lo := 8, hi := 8, stride := 1, ty := .u64, acc := .ro, cls := .none, dflt := .val 0, rng := .any, rel := false }]

/-- Object 0x4000, RING: the rows of its object table. -/
def subs_RING (k : Nat) : List Sub :=
  [{ lo := 0, hi := 0, stride := 1, ty := .u8, acc := .const, cls := .none, dflt := .val 15, rng := .any, rel := false },
   { lo := 1, hi := 1, stride := 1, ty := .u16, acc := .own, cls := .staged, dflt := .val (if k = 0 then 1024 else 0), rng := (.spanOr [0] 4 65535), rel := false },
   { lo := 2, hi := 2, stride := 1, ty := .bool, acc := .own, cls := .staged, dflt := .val 0, rng := .any, rel := false },
   { lo := 3, hi := 3, stride := 1, ty := .u32, acc := .own, cls := .staged, dflt := .val 0, rng := .any, rel := false },
   { lo := 4, hi := 4, stride := 1, ty := .u32, acc := .own, cls := .staged, dflt := .val 0, rng := .any, rel := false },
   { lo := 5, hi := 5, stride := 1, ty := .u16, acc := .own, cls := .staged, dflt := .val 0, rng := .any, rel := false },
   { lo := 6, hi := 6, stride := 1, ty := .u16, acc := .own, cls := .staged, dflt := .val 0, rng := .any, rel := false },
   { lo := 7, hi := 7, stride := 1, ty := .u8, acc := .own, cls := .staged, dflt := .val 0, rng := (.span 0 5), rel := false },
   { lo := 8, hi := 8, stride := 1, ty := .u8, acc := .own, cls := .staged, dflt := .val 7, rng := (.mask 7), rel := false },
   { lo := 9, hi := 9, stride := 1, ty := .u64, acc := .own, cls := .staged, dflt := .val 0, rng := .any, rel := false },
   { lo := 10, hi := 10, stride := 1, ty := .u16, acc := .ro, cls := .none, dflt := .val 0, rng := .any, rel := false },
   { lo := 11, hi := 11, stride := 1, ty := .u32, acc := .ro, cls := .none, dflt := .val 0, rng := .any, rel := false },
   { lo := 12, hi := 12, stride := 1, ty := .u32, acc := .ro, cls := .none, dflt := .val 0, rng := .any, rel := false },
   { lo := 13, hi := 13, stride := 1, ty := .domain, acc := .ro, cls := .none, dflt := .val 0, rng := (.len 0 1024), rel := false },
   { lo := 14, hi := 14, stride := 1, ty := .u8, acc := .wo, cls := .none, dflt := .val 0, rng := (.oneOf [165]), rel := false },
   { lo := 15, hi := 15, stride := 1, ty := .u16, acc := .ro, cls := .none, dflt := .val 0, rng := .any, rel := false }]

end Sys2Proof.Machine
end

