-- ==== Sys2Proof/Machine/Catalog.lean ====
section
/-!
DEFINITION. The object index (R29, R499): which indexes the device implements, and the look-up of one subindex.
-/
namespace Sys2Proof.Machine

/-- R499: the rows of the object at index i; the empty list where the device implements no such index.
A binary search over the object index of chapter 25. -/
def objectAt (i : Nat) : List Sub :=
  if i < 0x2702 then
    if i < 0x2100 then
      if i < 0x2010 then
        if i < 0x1017 then
          if i < 0x1008 then
            if i < 0x1001 then
              if 0x1000 ≤ i ∧ i < 0x1001 then subs_DEVICE_TYPE else []
            else
              if i < 0x1005 then
                if 0x1001 ≤ i ∧ i < 0x1002 then subs_ERROR_REGISTER else []
              else
                if 0x1005 ≤ i ∧ i < 0x1006 then subs_COB_ID_SYNC else []
          else
            if i < 0x1012 then
              if 0x1008 ≤ i ∧ i < 0x1009 then subs_DEVICE_NAME else []
            else
              if i < 0x1014 then
                if 0x1012 ≤ i ∧ i < 0x1013 then subs_COB_ID_TIME else []
              else
                if 0x1014 ≤ i ∧ i < 0x1015 then subs_COB_ID_EMCY else []
        else
          if i < 0x1400 then
            if i < 0x1018 then
              if 0x1017 ≤ i ∧ i < 0x1018 then subs_PRODUCER_HEARTBEAT_TIME else []
            else
              if i < 0x1019 then
                if 0x1018 ≤ i ∧ i < 0x1019 then subs_IDENTITY else []
              else
                if 0x1019 ≤ i ∧ i < 0x101A then subs_SYNC_OVERFLOW else []
          else
            if i < 0x1800 then
              if i < 0x1600 then
                if 0x1400 ≤ i ∧ i < 0x1440 then subs_RPDO_COMM else []
              else
                if 0x1600 ≤ i ∧ i < 0x1640 then subs_RPDO_MAP else []
            else
              if i < 0x1A00 then
                if 0x1800 ≤ i ∧ i < 0x1880 then subs_TPDO_COMM else []
              else
                if 0x1A00 ≤ i ∧ i < 0x1A80 then subs_TPDO_MAP else []
      else
        if i < 0x2023 then
          if i < 0x2020 then
            if i < 0x2011 then
              if 0x2010 ≤ i ∧ i < 0x2011 then subs_CLOCK_STATUS else []
            else
              if i < 0x2012 then
                if 0x2011 ≤ i ∧ i < 0x2012 then subs_FRAME_COUNT else []
              else
                if 0x2012 ≤ i ∧ i < 0x2016 then subs_AMLOR_LINK else []
          else
            if i < 0x2021 then
              if 0x2020 ≤ i ∧ i < 0x2021 then subs_RESET_CONTROL else []
            else
              if i < 0x2022 then
                if 0x2021 ≤ i ∧ i < 0x2022 then subs_RESET_CAUSE else []
              else
                if 0x2022 ≤ i ∧ i < 0x2023 then subs_STRAPS else []
        else
          if i < 0x2031 then
            if i < 0x2024 then
              if 0x2023 ≤ i ∧ i < 0x2024 then subs_OPENING_STATUS else []
            else
              if i < 0x2030 then
                if 0x2024 ≤ i ∧ i < 0x2025 then subs_OPENING_JOURNAL else []
              else
                if 0x2030 ≤ i ∧ i < 0x2031 then subs_PERFORMANCE else []
          else
            if i < 0x2033 then
              if i < 0x2032 then
                if 0x2031 ≤ i ∧ i < 0x2032 then subs_POWER_STATE else []
              else
                if 0x2032 ≤ i ∧ i < 0x2033 then subs_WAKE_CONFIG else []
            else
              if i < 0x2040 then
                if 0x2033 ≤ i ∧ i < 0x2034 then subs_SUPPLY_STATUS else []
              else
                if 0x2040 ≤ i ∧ i < 0x2041 then subs_LOAD_MONITOR else []
    else
      if i < 0x2321 then
        if i < 0x220C then
          if i < 0x2200 then
            if i < 0x2101 then
              if 0x2100 ≤ i ∧ i < 0x2101 then subs_TWO_WIRE_BUS else []
            else
              if i < 0x2102 then
                if 0x2101 ≤ i ∧ i < 0x2102 then subs_TWO_WIRE_STATUS else []
              else
                if 0x2102 ≤ i ∧ i < 0x2103 then subs_CONTROLLER_TRANSFER else []
          else
            if i < 0x2204 then
              if 0x2200 ≤ i ∧ i < 0x2202 then subs_CAN_PORT else []
            else
              if i < 0x2208 then
                if 0x2204 ≤ i ∧ i < 0x2205 then subs_PDO_OWNER else []
              else
                if 0x2208 ≤ i ∧ i < 0x2209 then subs_PCIE_PORT else []
        else
          if i < 0x2310 then
            if i < 0x2210 then
              if 0x220C ≤ i ∧ i < 0x220D then subs_SPI_PORT else []
            else
              if i < 0x2300 then
                if 0x2210 ≤ i ∧ i < 0x2211 then subs_LAST_ACCESS else []
              else
                if 0x2300 ≤ i ∧ i < 0x2310 then subs_TENANT else []
          else
            if i < 0x2313 then
              if i < 0x2312 then
                if 0x2310 ≤ i ∧ i < 0x2311 then subs_COMMIT_CONTROL else []
              else
                if 0x2312 ≤ i ∧ i < 0x2313 then subs_BARRIER else []
            else
              if i < 0x2320 then
                if 0x2313 ≤ i ∧ i < 0x2314 then subs_FENCE_CONTROL else []
              else
                if 0x2320 ≤ i ∧ i < 0x2321 then subs_DEVICE_DIGEST else []
      else
        if i < 0x2501 then
          if i < 0x2400 then
            if i < 0x2322 then
              if 0x2321 ≤ i ∧ i < 0x2322 then subs_TENANT_DIGEST else []
            else
              if i < 0x2323 then
                if 0x2322 ≤ i ∧ i < 0x2323 then subs_TENANT_GENERATION else []
              else
                if 0x2323 ≤ i ∧ i < 0x2324 then subs_DIE_DIGEST else []
          else
            if i < 0x2401 then
              if 0x2400 ≤ i ∧ i < 0x2401 then subs_THERMAL else []
            else
              if i < 0x2500 then
                if 0x2401 ≤ i ∧ i < 0x2406 then subs_THERMAL_DIE (i - 0x2401) else []
              else
                if 0x2500 ≤ i ∧ i < 0x2501 then subs_HK_ADC else []
        else
          if i < 0x2600 then
            if i < 0x2508 then
              if 0x2501 ≤ i ∧ i < 0x2505 then subs_HK_SEQUENCE else []
            else
              if i < 0x2510 then
                if 0x2508 ≤ i ∧ i < 0x250C then subs_HK_CURVE else []
              else
                if 0x2510 ≤ i ∧ i < 0x2550 then subs_HK_ENTRY else []
          else
            if i < 0x2700 then
              if i < 0x2610 then
                if 0x2600 ≤ i ∧ i < 0x2610 then subs_WATCHDOG else []
              else
                if 0x2610 ≤ i ∧ i < 0x2611 then subs_DEVICE_WATCHDOG else []
            else
              if i < 0x2701 then
                if 0x2700 ≤ i ∧ i < 0x2701 then subs_RTC else []
              else
                if 0x2701 ≤ i ∧ i < 0x2702 then subs_ALARM else []
  else
    if i < 0x2E00 then
      if i < 0x2A40 then
        if i < 0x2811 then
          if i < 0x2801 then
            if i < 0x2703 then
              if 0x2702 ≤ i ∧ i < 0x2703 then subs_PON_CONTROL else []
            else
              if i < 0x2800 then
                if 0x2703 ≤ i ∧ i < 0x2704 then subs_RETAINED else []
              else
                if 0x2800 ≤ i ∧ i < 0x2801 then subs_IDENTITY_DATA else []
          else
            if i < 0x2802 then
              if 0x2801 ≤ i ∧ i < 0x2802 then subs_ATTEST_CONTROL else []
            else
              if i < 0x2810 then
                if 0x2802 ≤ i ∧ i < 0x2803 then subs_SESSION_CONTROL else []
              else
                if 0x2810 ≤ i ∧ i < 0x2811 then subs_AUTH_POLICY else []
        else
          if i < 0x2902 then
            if i < 0x2900 then
              if 0x2811 ≤ i ∧ i < 0x2812 then subs_SECURITY_STATUS else []
            else
              if i < 0x2901 then
                if 0x2900 ≤ i ∧ i < 0x2901 then subs_EVENT_FABRIC else []
              else
                if 0x2901 ≤ i ∧ i < 0x2902 then subs_HOLD_STATE else []
          else
            if i < 0x2A00 then
              if i < 0x2910 then
                if 0x2902 ≤ i ∧ i < 0x2903 then subs_HOLD_CONTROL else []
              else
                if 0x2910 ≤ i ∧ i < 0x2950 then subs_TARGET else []
            else
              if i < 0x2A10 then
                if 0x2A00 ≤ i ∧ i < 0x2A01 then subs_DMA_ENGINE else []
              else
                if 0x2A10 ≤ i ∧ i < 0x2A30 then subs_STREAM else []
      else
        if i < 0x2D00 then
          if i < 0x2C01 then
            if i < 0x2A60 then
              if 0x2A40 ≤ i ∧ i < 0x2A60 then subs_DESC_BLOCK else []
            else
              if i < 0x2C00 then
                if 0x2A60 ≤ i ∧ i < 0x2A80 then subs_MAILBOX else []
              else
                if 0x2C00 ≤ i ∧ i < 0x2C01 then subs_FAULT_STATUS else []
          else
            if i < 0x2C02 then
              if 0x2C01 ≤ i ∧ i < 0x2C02 then subs_CLASS_OVERRIDE else []
            else
              if i < 0x2C03 then
                if 0x2C02 ≤ i ∧ i < 0x2C03 then subs_KIND_QUERY else []
              else
                if 0x2C03 ≤ i ∧ i < 0x2C04 then subs_KEEPER else []
        else
          if i < 0x2D20 then
            if i < 0x2D08 then
              if 0x2D00 ≤ i ∧ i < 0x2D04 then subs_CONVERTER else []
            else
              if i < 0x2D10 then
                if 0x2D08 ≤ i ∧ i < 0x2D0C then subs_CONVERTER_LOOP else []
              else
                if 0x2D10 ≤ i ∧ i < 0x2D20 then subs_LANE else []
          else
            if i < 0x2D30 then
              if i < 0x2D28 then
                if 0x2D20 ≤ i ∧ i < 0x2D24 then subs_CONVERTER_STATUS else []
              else
                if 0x2D28 ≤ i ∧ i < 0x2D2C then subs_CONVERTER_WINDOW else []
            else
              if i < 0x2D40 then
                if 0x2D30 ≤ i ∧ i < 0x2D34 then subs_FAULT_RECORD else []
              else
                if 0x2D40 ≤ i ∧ i < 0x2D50 then subs_LANE_STATUS else []
    else
      if i < 0x3600 then
        if i < 0x2F00 then
          if i < 0x2E09 then
            if i < 0x2E01 then
              if 0x2E00 ≤ i ∧ i < 0x2E01 then subs_BATTERY_SWITCH else []
            else
              if i < 0x2E08 then
                if 0x2E01 ≤ i ∧ i < 0x2E02 then subs_SHIP_CONTROL else []
              else
                if 0x2E08 ≤ i ∧ i < 0x2E09 then subs_CHARGER else []
          else
            if i < 0x2E10 then
              if 0x2E09 ≤ i ∧ i < 0x2E0A then subs_CHARGER_STATUS else []
            else
              if i < 0x2E11 then
                if 0x2E10 ≤ i ∧ i < 0x2E11 then subs_ASSIST_PORT else []
              else
                if 0x2E11 ≤ i ∧ i < 0x2E12 then subs_ASSIST_STATUS else []
        else
          if i < 0x2F03 then
            if i < 0x2F01 then
              if 0x2F00 ≤ i ∧ i < 0x2F01 then subs_ESTIMATOR else []
            else
              if i < 0x2F02 then
                if 0x2F01 ≤ i ∧ i < 0x2F02 then subs_ESTIMATOR_STATUS else []
              else
                if 0x2F02 ≤ i ∧ i < 0x2F03 then subs_OCV_TABLE else []
          else
            if i < 0x3200 then
              if i < 0x3000 then
                if 0x2F03 ≤ i ∧ i < 0x2F04 then subs_BATTERY_RECORD else []
              else
                if 0x3000 ≤ i ∧ i < 0x3200 then subs_CHANNEL_CONFIG else []
            else
              if i < 0x3400 then
                if 0x3200 ≤ i ∧ i < 0x3400 then subs_CHANNEL_PROTECTION else []
              else
                if 0x3400 ≤ i ∧ i < 0x3600 then subs_CHANNEL_STATUS (i - 0x3400) else []
      else
        if i < 0x3901 then
          if i < 0x3830 then
            if i < 0x3800 then
              if 0x3600 ≤ i ∧ i < 0x3800 then subs_CHANNEL_SUPERVISION else []
            else
              if i < 0x3820 then
                if 0x3800 ≤ i ∧ i < 0x3820 then subs_BANK (i - 0x3800) else []
              else
                if 0x3820 ≤ i ∧ i < 0x3830 then subs_BUDGET_GROUP else []
          else
            if i < 0x3870 then
              if 0x3830 ≤ i ∧ i < 0x3870 then subs_SEQ_GROUP else []
            else
              if i < 0x3900 then
                if 0x3870 ≤ i ∧ i < 0x38B0 then subs_CASTLING_PAIR else []
              else
                if 0x3900 ≤ i ∧ i < 0x3901 then subs_OPENING_PLAN else []
        else
          if i < 0x3909 then
            if i < 0x3902 then
              if 0x3901 ≤ i ∧ i < 0x3902 then subs_OPENING_STEPS else []
            else
              if i < 0x3908 then
                if 0x3902 ≤ i ∧ i < 0x3903 then subs_OPENING_STEP_STATE else []
              else
                if 0x3908 ≤ i ∧ i < 0x3909 then subs_ENDGAME_PLAN else []
          else
            if i < 0x3A00 then
              if i < 0x390A then
                if 0x3909 ≤ i ∧ i < 0x390A then subs_ENDGAME_STEPS else []
              else
                if 0x390A ≤ i ∧ i < 0x390B then subs_ENDGAME_STEP_STATE else []
            else
              if i < 0x4000 then
                if 0x3A00 ≤ i ∧ i < 0x3A10 then subs_RESET_OUTPUT else []
              else
                if 0x4000 ≤ i ∧ i < 0x6000 then subs_RING (i - 0x4000) else []

/-- The value of subindex 0x00 of a record or array: its highest subindex (R29). -/
def highestSub : List Sub → Nat
  | [] => 0
  | r :: _ =>
    match r.dflt with
    | .val v => v.toNat
    | .na => 0

/-- The row of a list that covers subindex j, which must not lie above NUMBER_OF_ENTRIES (R29). -/
def subOf (l : List Sub) (j : Nat) : Option Sub :=
  if j = 0 ∨ j ≤ highestSub l then l.find? fun r => r.lo ≤ j ∧ j ≤ r.hi ∧ (j - r.lo) % r.stride = 0 else none

/-- The row of an object address (R6: index in bits 23:8, subindex in bits 7:0). -/
def subAt (addr : Nat) : Option Sub := subOf (objectAt (addr / 256)) (addr % 256)

/-- The pairs (base index, number of instances) of the objects, in ascending order: what R60 runs over. -/
def objectRanges : List (Nat × Nat) :=
  [(0x1000, 1), (0x1001, 1), (0x1005, 1), (0x1008, 1), (0x1012, 1), (0x1014, 1), (0x1017, 1), (0x1018, 1),
   (0x1019, 1), (0x1400, 64), (0x1600, 64), (0x1800, 128), (0x1A00, 128), (0x2010, 1), (0x2011, 1), (0x2012, 4),
   (0x2020, 1), (0x2021, 1), (0x2022, 1), (0x2023, 1), (0x2024, 1), (0x2030, 1), (0x2031, 1), (0x2032, 1),
   (0x2033, 1), (0x2040, 1), (0x2100, 1), (0x2101, 1), (0x2102, 1), (0x2200, 2), (0x2204, 1), (0x2208, 1),
   (0x220C, 1), (0x2210, 1), (0x2300, 16), (0x2310, 1), (0x2312, 1), (0x2313, 1), (0x2320, 1), (0x2321, 1),
   (0x2322, 1), (0x2323, 1), (0x2400, 1), (0x2401, 5), (0x2500, 1), (0x2501, 4), (0x2508, 4), (0x2510, 64),
   (0x2600, 16), (0x2610, 1), (0x2700, 1), (0x2701, 1), (0x2702, 1), (0x2703, 1), (0x2800, 1), (0x2801, 1),
   (0x2802, 1), (0x2810, 1), (0x2811, 1), (0x2900, 1), (0x2901, 1), (0x2902, 1), (0x2910, 64), (0x2A00, 1),
   (0x2A10, 32), (0x2A40, 32), (0x2A60, 32), (0x2C00, 1), (0x2C01, 1), (0x2C02, 1), (0x2C03, 1), (0x2D00, 4),
   (0x2D08, 4), (0x2D10, 16), (0x2D20, 4), (0x2D28, 4), (0x2D30, 4), (0x2D40, 16), (0x2E00, 1), (0x2E01, 1),
   (0x2E08, 1), (0x2E09, 1), (0x2E10, 1), (0x2E11, 1), (0x2F00, 1), (0x2F01, 1), (0x2F02, 1), (0x2F03, 1),
   (0x3000, 512), (0x3200, 512), (0x3400, 512), (0x3600, 512), (0x3800, 32), (0x3820, 16), (0x3830, 64), (0x3870, 64),
   (0x3900, 1), (0x3901, 1), (0x3902, 1), (0x3908, 1), (0x3909, 1), (0x390A, 1), (0x3A00, 16), (0x4000, 8192)]

end Sys2Proof.Machine
end

