-- ==== Sys2Proof/Machine/Names.lean ====
section
/-!
DEFINITION. The names of the object registers. A register's key is its object address (R6); a tenant-relative
object (R30, R501) has one key for each tenant t, 2 ^ 24 * t above its address. The names are those of the object tables.
-/
namespace Sys2Proof.Machine

/-! ### DEVICE_TYPE (0x1000) -/

abbrev DEVICE_TYPE : Nat := 0x100000

/-! ### ERROR_REGISTER (0x1001) -/

abbrev ERROR_REGISTER (t : Nat) : Nat := 0x100100 + 16777216 * t

/-! ### COB_ID_SYNC (0x1005) -/

abbrev COB_ID_SYNC.COB_ID (i : Nat) : Nat := 0x100500 + 1 + i

/-! ### DEVICE_NAME (0x1008) -/

abbrev DEVICE_NAME : Nat := 0x100800

/-! ### COB_ID_TIME (0x1012) -/

abbrev COB_ID_TIME.COB_ID (i : Nat) : Nat := 0x101200 + 1 + i

/-! ### COB_ID_EMCY (0x1014) -/

abbrev COB_ID_EMCY.COB_ID (i : Nat) : Nat := 0x101400 + 1 + i

/-! ### PRODUCER_HEARTBEAT_TIME (0x1017) -/

abbrev PRODUCER_HEARTBEAT_TIME.TIME (i : Nat) : Nat := 0x101700 + 1 + i

/-! ### IDENTITY (0x1018) -/

abbrev IDENTITY.VENDOR : Nat := 0x101801
abbrev IDENTITY.PRODUCT : Nat := 0x101802
abbrev IDENTITY.REVISION : Nat := 0x101803
abbrev IDENTITY.SERIAL : Nat := 0x101804

/-! ### SYNC_OVERFLOW (0x1019) -/

abbrev SYNC_OVERFLOW.VALUE (i : Nat) : Nat := 0x101900 + 1 + i

/-! ### RPDO_COMM (0x1400) -/

abbrev RPDO_COMM.COB_ID (n : Nat) : Nat := (0x1400 + n) * 256 + 1
abbrev RPDO_COMM.TRANSMISSION_TYPE (n : Nat) : Nat := (0x1400 + n) * 256 + 2
abbrev RPDO_COMM.EVENT_TIMER (n : Nat) : Nat := (0x1400 + n) * 256 + 5
abbrev RPDO_COMM.SYNC_START (n : Nat) : Nat := (0x1400 + n) * 256 + 6

/-! ### RPDO_MAP (0x1600) -/

abbrev RPDO_MAP.ENTRY (n i : Nat) : Nat := (0x1600 + n) * 256 + 1 + i

/-! ### TPDO_COMM (0x1800) -/

abbrev TPDO_COMM.COB_ID (n : Nat) : Nat := (0x1800 + n) * 256 + 1
abbrev TPDO_COMM.TRANSMISSION_TYPE (n : Nat) : Nat := (0x1800 + n) * 256 + 2
abbrev TPDO_COMM.INHIBIT_TIME (n : Nat) : Nat := (0x1800 + n) * 256 + 3
abbrev TPDO_COMM.EVENT_TIMER (n : Nat) : Nat := (0x1800 + n) * 256 + 5
abbrev TPDO_COMM.SYNC_START (n : Nat) : Nat := (0x1800 + n) * 256 + 6

/-! ### TPDO_MAP (0x1A00) -/

abbrev TPDO_MAP.ENTRY (n i : Nat) : Nat := (0x1A00 + n) * 256 + 1 + i

/-! ### CLOCK_STATUS (0x2010) -/

abbrev CLOCK_STATUS.ROOT_SOURCE : Nat := 0x201001
abbrev CLOCK_STATUS.ROOT_LOCKED : Nat := 0x201002
abbrev CLOCK_STATUS.CORE_RATE : Nat := 0x201003
abbrev CLOCK_STATUS.FALLBACK_COUNT : Nat := 0x201004

/-! ### FRAME_COUNT (0x2011) -/

abbrev FRAME_COUNT : Nat := 0x201100

/-! ### AMLOR_LINK (0x2012) -/

abbrev AMLOR_LINK.LINK_STATE (n : Nat) : Nat := (0x2012 + n) * 256 + 1
abbrev AMLOR_LINK.BLOCK_ERRORS (n : Nat) : Nat := (0x2012 + n) * 256 + 2
abbrev AMLOR_LINK.INVALID_FRAMES (n : Nat) : Nat := (0x2012 + n) * 256 + 3
abbrev AMLOR_LINK.RETRAINS (n : Nat) : Nat := (0x2012 + n) * 256 + 4
abbrev AMLOR_LINK.LOSS_EVENTS (n : Nat) : Nat := (0x2012 + n) * 256 + 5
abbrev AMLOR_LINK.DIE_REF_SOURCE (n : Nat) : Nat := (0x2012 + n) * 256 + 6

/-! ### RESET_CONTROL (0x2020) -/

abbrev RESET_CONTROL.DEVICE_RESET : Nat := 0x202001
abbrev RESET_CONTROL.DEVICE_RESETS : Nat := 0x202002

/-! ### RESET_CAUSE (0x2021) -/

abbrev RESET_CAUSE.LAST_CAUSE : Nat := 0x202101
abbrev RESET_CAUSE.LAST_KIND : Nat := 0x202102
abbrev RESET_CAUSE.CAUSES_SEEN : Nat := 0x202103
abbrev RESET_CAUSE.CAUSE_SITE : Nat := 0x202104
abbrev RESET_CAUSE.RESET_TIME : Nat := 0x202105
abbrev RESET_CAUSE.RESET_DURATION : Nat := 0x202106
abbrev RESET_CAUSE.CHANNEL_DIE_RESETS : Nat := 0x202107

/-! ### STRAPS (0x2022) -/

abbrev STRAPS.STRAP_VALUE : Nat := 0x202201
abbrev STRAPS.ARBITER : Nat := 0x202202
abbrev STRAPS.PROFILE : Nat := 0x202203
abbrev STRAPS.PCIE_ENABLE : Nat := 0x202204
abbrev STRAPS.TWO_WIRE_ADDRESS : Nat := 0x202205
abbrev STRAPS.STRAP_UNSTABLE : Nat := 0x202206

/-! ### OPENING_STATUS (0x2023) -/

abbrev OPENING_STATUS.OPENING_STATE : Nat := 0x202301
abbrev OPENING_STATUS.STEP : Nat := 0x202302
abbrev OPENING_STATUS.FAILED_STEP : Nat := 0x202303
abbrev OPENING_STATUS.FALLBACK_MASK : Nat := 0x202304
abbrev OPENING_STATUS.SKIP_MASK : Nat := 0x202305
abbrev OPENING_STATUS.PROFILE_SKIP : Nat := 0x202306
abbrev OPENING_STATUS.PORTS_READY_TIME : Nat := 0x202307
abbrev OPENING_STATUS.OPENING_RESUME : Nat := 0x202308
abbrev OPENING_STATUS.JOURNAL_ACK : Nat := 0x202309
abbrev OPENING_STATUS.OPENINGS : Nat := 0x20230A

/-! ### OPENING_JOURNAL (0x2024) -/

abbrev OPENING_JOURNAL.ENTRY (i : Nat) : Nat := 0x202400 + 1 + i
abbrev OPENING_JOURNAL.ENTRY_TIME (i : Nat) : Nat := 0x202400 + 17 + i

/-! ### PERFORMANCE (0x2030) -/

abbrev PERFORMANCE.LEVEL_REQUEST : Nat := 0x203001
abbrev PERFORMANCE.LEVEL_IN_FORCE : Nat := 0x203002
abbrev PERFORMANCE.THERMAL_FLOOR : Nat := 0x203003
abbrev PERFORMANCE.VCORE_TRIM : Nat := 0x203004
abbrev PERFORMANCE.LEVEL_CHANGES : Nat := 0x203005

/-! ### POWER_STATE (0x2031) -/

abbrev POWER_STATE.POWER_MODE : Nat := 0x203101
abbrev POWER_STATE.PARK : Nat := 0x203102
abbrev POWER_STATE.STATE : Nat := 0x203103
abbrev POWER_STATE.PARK_ENTRIES : Nat := 0x203104
abbrev POWER_STATE.PARK_ABORTS : Nat := 0x203105
abbrev POWER_STATE.LAST_PARK_DURATION : Nat := 0x203106
abbrev POWER_STATE.LAST_WAKE_CAUSE : Nat := 0x203107

/-! ### WAKE_CONFIG (0x2032) -/

abbrev WAKE_CONFIG.WAKE_ENABLE : Nat := 0x203201
abbrev WAKE_CONFIG.WAKE_POLARITY : Nat := 0x203202
abbrev WAKE_CONFIG.WAKE_SENSE : Nat := 0x203203
abbrev WAKE_CONFIG.WAKE_FILTER : Nat := 0x203204
abbrev WAKE_CONFIG.WAKE_LEVEL : Nat := 0x203205
abbrev WAKE_CONFIG.WAKE_LATCHED : Nat := 0x203206
abbrev WAKE_CONFIG.WAKE_CLEAR : Nat := 0x203207

/-! ### SUPPLY_STATUS (0x2033) -/

abbrev SUPPLY_STATUS.VBAT : Nat := 0x203301
abbrev SUPPLY_STATUS.VH : Nat := 0x203302
abbrev SUPPLY_STATUS.VCORE : Nat := 0x203303
abbrev SUPPLY_STATUS.VIO : Nat := 0x203304
abbrev SUPPLY_STATUS.V18 : Nat := 0x203305
abbrev SUPPLY_STATUS.VBK : Nat := 0x203306
abbrev SUPPLY_STATUS.SUPPLY_FLAGS : Nat := 0x203307
abbrev SUPPLY_STATUS.HR_LIMIT_EVENTS : Nat := 0x203308

/-! ### LOAD_MONITOR (0x2040) -/

abbrev LOAD_MONITOR.FABRIC_LOAD : Nat := 0x204001
abbrev LOAD_MONITOR.FABRIC_LOAD_PEAK : Nat := 0x204002
abbrev LOAD_MONITOR.ACCESS_LOAD : Nat := 0x204003
abbrev LOAD_MONITOR.ACCESS_LOAD_PEAK : Nat := 0x204004
abbrev LOAD_MONITOR.LONGEST_DETECTION : Nat := 0x204005
abbrev LOAD_MONITOR.OVERLOAD_WINDOWS : Nat := 0x204006

/-! ### TWO_WIRE_BUS (0x2100) -/

abbrev TWO_WIRE_BUS.ROLE : Nat := 0x210001
abbrev TWO_WIRE_BUS.SPEED_MODE : Nat := 0x210002
abbrev TWO_WIRE_BUS.SCL_LOW : Nat := 0x210003
abbrev TWO_WIRE_BUS.SCL_HIGH : Nat := 0x210004
abbrev TWO_WIRE_BUS.DATA_SETUP : Nat := 0x210005
abbrev TWO_WIRE_BUS.DATA_HOLD : Nat := 0x210006
abbrev TWO_WIRE_BUS.CLOCK_LOW_TIMEOUT : Nat := 0x210007
abbrev TWO_WIRE_BUS.DATA_LOW_TIMEOUT : Nat := 0x210008
abbrev TWO_WIRE_BUS.ARB_RETRIES : Nat := 0x210009
abbrev TWO_WIRE_BUS.ATTENTION_ADDRESS : Nat := 0x21000A

/-! ### TWO_WIRE_STATUS (0x2101) -/

abbrev TWO_WIRE_STATUS.BUS_STATE : Nat := 0x210101
abbrev TWO_WIRE_STATUS.BUS_FLAGS : Nat := 0x210102
abbrev TWO_WIRE_STATUS.CLOCK_LOW_EVENTS : Nat := 0x210103
abbrev TWO_WIRE_STATUS.DATA_LOW_EVENTS : Nat := 0x210104
abbrev TWO_WIRE_STATUS.ARB_LOSSES : Nat := 0x210105
abbrev TWO_WIRE_STATUS.REQUESTS : Nat := 0x210106
abbrev TWO_WIRE_STATUS.LAST_ATTENTION : Nat := 0x210107
abbrev TWO_WIRE_STATUS.CRC_ERRORS : Nat := 0x210108
abbrev TWO_WIRE_STATUS.BUSY_ANSWERS : Nat := 0x210109
abbrev TWO_WIRE_STATUS.BROKEN_FRAMES : Nat := 0x21010A

/-! ### CONTROLLER_TRANSFER (0x2102) -/

abbrev CONTROLLER_TRANSFER.TRANSFER_ADDRESS : Nat := 0x210201
abbrev CONTROLLER_TRANSFER.WRITE_DATA : Nat := 0x210202
abbrev CONTROLLER_TRANSFER.READ_LENGTH : Nat := 0x210203
abbrev CONTROLLER_TRANSFER.TRANSFER_START : Nat := 0x210204
abbrev CONTROLLER_TRANSFER.TRANSFER_RESULT : Nat := 0x210205
abbrev CONTROLLER_TRANSFER.NACK_INDEX : Nat := 0x210206
abbrev CONTROLLER_TRANSFER.READ_DATA : Nat := 0x210207

/-! ### CAN_PORT (0x2200) -/

abbrev CAN_PORT.NOMINAL_RATE (n : Nat) : Nat := (0x2200 + n) * 256 + 1
abbrev CAN_PORT.NOMINAL_SAMPLE (n : Nat) : Nat := (0x2200 + n) * 256 + 2
abbrev CAN_PORT.DATA_RATE (n : Nat) : Nat := (0x2200 + n) * 256 + 3
abbrev CAN_PORT.DATA_SAMPLE (n : Nat) : Nat := (0x2200 + n) * 256 + 4
abbrev CAN_PORT.AUTO_RECOVER (n : Nat) : Nat := (0x2200 + n) * 256 + 5
abbrev CAN_PORT.TIME_ACCEPT (n : Nat) : Nat := (0x2200 + n) * 256 + 6
abbrev CAN_PORT.BUS_STATE (n : Nat) : Nat := (0x2200 + n) * 256 + 7
abbrev CAN_PORT.TEC (n : Nat) : Nat := (0x2200 + n) * 256 + 8
abbrev CAN_PORT.REC (n : Nat) : Nat := (0x2200 + n) * 256 + 9
abbrev CAN_PORT.BUS_OFF_COUNT (n : Nat) : Nat := (0x2200 + n) * 256 + 10
abbrev CAN_PORT.RX_FRAMES (n : Nat) : Nat := (0x2200 + n) * 256 + 11
abbrev CAN_PORT.TX_FRAMES (n : Nat) : Nat := (0x2200 + n) * 256 + 12
abbrev CAN_PORT.EMCY_DROPS (n : Nat) : Nat := (0x2200 + n) * 256 + 13
abbrev CAN_PORT.PDO_ERRORS (n : Nat) : Nat := (0x2200 + n) * 256 + 14
abbrev CAN_PORT.LAST_SYNC_COUNTER (n : Nat) : Nat := (0x2200 + n) * 256 + 15

/-! ### PDO_OWNER (0x2204) -/

abbrev PDO_OWNER.TPDO_CAN0 (i : Nat) : Nat := 0x220400 + 1 + i
abbrev PDO_OWNER.TPDO_CAN1 (i : Nat) : Nat := 0x220400 + 65 + i
abbrev PDO_OWNER.RPDO_CAN0 (i : Nat) : Nat := 0x220400 + 129 + i
abbrev PDO_OWNER.RPDO_CAN1 (i : Nat) : Nat := 0x220400 + 161 + i

/-! ### PCIE_PORT (0x2208) -/

abbrev PCIE_PORT.LINK_STATE : Nat := 0x220801
abbrev PCIE_PORT.LINK_SPEED : Nat := 0x220802
abbrev PCIE_PORT.MAX_SPEED : Nat := 0x220803
abbrev PCIE_PORT.BUS_MASTER : Nat := 0x220804
abbrev PCIE_PORT.LINK_DOWNS : Nat := 0x220805
abbrev PCIE_PORT.PERSTS : Nat := 0x220806
abbrev PCIE_PORT.FLRS : Nat := 0x220807
abbrev PCIE_PORT.VENDOR_ID : Nat := 0x220808
abbrev PCIE_PORT.DEVICE_ID : Nat := 0x220809

/-! ### SPI_PORT (0x220C) -/

abbrev SPI_PORT.FRAMES : Nat := 0x220C01
abbrev SPI_PORT.CRC_ERRORS : Nat := 0x220C02
abbrev SPI_PORT.BUSY_ANSWERS : Nat := 0x220C03
abbrev SPI_PORT.BROKEN_FRAMES : Nat := 0x220C04
abbrev SPI_PORT.CS_CONFLICTS : Nat := 0x220C05

/-! ### LAST_ACCESS (0x2210) -/

abbrev LAST_ACCESS.ABORT_COUNT (t : Nat) : Nat := 0x221001 + 16777216 * t
abbrev LAST_ACCESS.LAST_ABORT (t : Nat) : Nat := 0x221002 + 16777216 * t
abbrev LAST_ACCESS.LAST_ABORT_ADDRESS (t : Nat) : Nat := 0x221003 + 16777216 * t

/-! ### TENANT (0x2300) -/

abbrev TENANT.ENDPOINT (n : Nat) : Nat := (0x2300 + n) * 256 + 1
abbrev TENANT.ADMITTED (n : Nat) : Nat := (0x2300 + n) * 256 + 2
abbrev TENANT.KIBITZER (n : Nat) : Nat := (0x2300 + n) * 256 + 3
abbrev TENANT.STATE (n : Nat) : Nat := (0x2300 + n) * 256 + 4
abbrev TENANT.TENANT_RESET (n : Nat) : Nat := (0x2300 + n) * 256 + 5
abbrev TENANT.RESET_COUNT (n : Nat) : Nat := (0x2300 + n) * 256 + 6
abbrev TENANT.LAST_RESET_SOURCE (n : Nat) : Nat := (0x2300 + n) * 256 + 7
abbrev TENANT.FOLD_COUNT (n : Nat) : Nat := (0x2300 + n) * 256 + 8
abbrev TENANT.LAST_FOLD_CAUSE (n : Nat) : Nat := (0x2300 + n) * 256 + 9
abbrev TENANT.CHANNELS (n i : Nat) : Nat := (0x2300 + n) * 256 + 10 + i
abbrev TENANT.FOLD_HOLD (n i : Nat) : Nat := (0x2300 + n) * 256 + 18 + i
abbrev TENANT.BUDGET_GROUPS (n : Nat) : Nat := (0x2300 + n) * 256 + 26
abbrev TENANT.SEQ_GROUPS (n : Nat) : Nat := (0x2300 + n) * 256 + 27
abbrev TENANT.PAIRS (n : Nat) : Nat := (0x2300 + n) * 256 + 28
abbrev TENANT.CONVERTERS (n : Nat) : Nat := (0x2300 + n) * 256 + 29
abbrev TENANT.STREAMS (n : Nat) : Nat := (0x2300 + n) * 256 + 30
abbrev TENANT.TARGETS (n : Nat) : Nat := (0x2300 + n) * 256 + 31
abbrev TENANT.RING_BASE (n : Nat) : Nat := (0x2300 + n) * 256 + 32
abbrev TENANT.RING_COUNT (n : Nat) : Nat := (0x2300 + n) * 256 + 33
abbrev TENANT.TRUMP_HELD (n i : Nat) : Nat := (0x2300 + n) * 256 + 34 + i
abbrev TENANT.TRUMP_RELEASE (n : Nat) : Nat := (0x2300 + n) * 256 + 42

/-! ### COMMIT_CONTROL (0x2310) -/

abbrev COMMIT_CONTROL.COMMIT (t : Nat) : Nat := 0x231001 + 16777216 * t
abbrev COMMIT_CONTROL.DISCARD (t : Nat) : Nat := 0x231002 + 16777216 * t
abbrev COMMIT_CONTROL.STATUS (t : Nat) : Nat := 0x231003 + 16777216 * t
abbrev COMMIT_CONTROL.LAST_REASON (t : Nat) : Nat := 0x231004 + 16777216 * t
abbrev COMMIT_CONTROL.LAST_OBJECT (t : Nat) : Nat := 0x231005 + 16777216 * t
abbrev COMMIT_CONTROL.APPLY_FRAME (t : Nat) : Nat := 0x231006 + 16777216 * t
abbrev COMMIT_CONTROL.STAGED_COUNT (t : Nat) : Nat := 0x231007 + 16777216 * t
abbrev COMMIT_CONTROL.GENERATION (t : Nat) : Nat := 0x231008 + 16777216 * t

/-! ### BARRIER (0x2312) -/

abbrev BARRIER.BARRIER_ID (t : Nat) : Nat := 0x231201 + 16777216 * t
abbrev BARRIER.BARRIER_DONE (t : Nat) : Nat := 0x231202 + 16777216 * t

/-! ### FENCE_CONTROL (0x2313) -/

abbrev FENCE_CONTROL.FENCE (t : Nat) : Nat := 0x231301 + 16777216 * t
abbrev FENCE_CONTROL.FENCE_DONE (t : Nat) : Nat := 0x231302 + 16777216 * t
abbrev FENCE_CONTROL.FENCE_STAMP (t : Nat) : Nat := 0x231303 + 16777216 * t

/-! ### DEVICE_DIGEST (0x2320) -/

abbrev DEVICE_DIGEST.DIGEST : Nat := 0x232001
abbrev DEVICE_DIGEST.GLOBAL_GENERATION : Nat := 0x232002
abbrev DEVICE_DIGEST.SNAPSHOT_FRAME : Nat := 0x232003
abbrev DEVICE_DIGEST.SNAPSHOT_GENERATION : Nat := 0x232004
abbrev DEVICE_DIGEST.SWEEPS : Nat := 0x232005
abbrev DEVICE_DIGEST.DRIFT_EVENTS : Nat := 0x232006

/-! ### TENANT_DIGEST (0x2321) -/

abbrev TENANT_DIGEST.DIGEST_TN (i : Nat) : Nat := 0x232100 + 1 + i

/-! ### TENANT_GENERATION (0x2322) -/

abbrev TENANT_GENERATION.GEN_TN (i : Nat) : Nat := 0x232200 + 1 + i
abbrev TENANT_GENERATION.SNAP_GEN_TN (i : Nat) : Nat := 0x232200 + 17 + i

/-! ### DIE_DIGEST (0x2323) -/

abbrev DIE_DIGEST.APPLIED_CD (i : Nat) : Nat := 0x232300 + 1 + i
abbrev DIE_DIGEST.EXPECTED_CD (i : Nat) : Nat := 0x232300 + 5 + i

/-! ### THERMAL (0x2400) -/

abbrev THERMAL.GLOBAL_MAX : Nat := 0x240001
abbrev THERMAL.GLOBAL_MAX_SENSOR : Nat := 0x240002
abbrev THERMAL.THERMAL_FLAGS : Nat := 0x240003
abbrev THERMAL.DIE_STATES : Nat := 0x240004

/-! ### THERMAL_DIE (0x2401) -/

abbrev THERMAL_DIE.DIE_MAX (n : Nat) : Nat := (0x2401 + n) * 256 + 1
abbrev THERMAL_DIE.DIE_MIN (n : Nat) : Nat := (0x2401 + n) * 256 + 2
abbrev THERMAL_DIE.DIE_STATE (n : Nat) : Nat := (0x2401 + n) * 256 + 3
abbrev THERMAL_DIE.FAILED_SENSORS (n : Nat) : Nat := (0x2401 + n) * 256 + 4
abbrev THERMAL_DIE.PEAK_SINCE_OPENING (n : Nat) : Nat := (0x2401 + n) * 256 + 5
abbrev THERMAL_DIE.THROTTLE_TIME (n : Nat) : Nat := (0x2401 + n) * 256 + 6
abbrev THERMAL_DIE.SHUTDOWNS (n : Nat) : Nat := (0x2401 + n) * 256 + 7
abbrev THERMAL_DIE.FAST_SAMPLING (n : Nat) : Nat := (0x2401 + n) * 256 + 8
abbrev THERMAL_DIE.SENSOR (n i : Nat) : Nat := (0x2401 + n) * 256 + 10 + i

/-! ### HK_ADC (0x2500) -/

abbrev HK_ADC.LOW_POWER : Nat := 0x250001
abbrev HK_ADC.CONVERSIONS : Nat := 0x250002
abbrev HK_ADC.STALE_ENTRIES : Nat := 0x250003
abbrev HK_ADC.OPEN_ENTRIES : Nat := 0x250004

/-! ### HK_SEQUENCE (0x2501) -/

abbrev HK_SEQUENCE.MODE (n : Nat) : Nat := (0x2501 + n) * 256 + 1
abbrev HK_SEQUENCE.FIRST_ENTRY (n : Nat) : Nat := (0x2501 + n) * 256 + 2
abbrev HK_SEQUENCE.LAST_ENTRY (n : Nat) : Nat := (0x2501 + n) * 256 + 3
abbrev HK_SEQUENCE.CONVERTER (n : Nat) : Nat := (0x2501 + n) * 256 + 4
abbrev HK_SEQUENCE.TRIGGER_SOURCE (n : Nat) : Nat := (0x2501 + n) * 256 + 5
abbrev HK_SEQUENCE.TRIGGER_PERIOD (n : Nat) : Nat := (0x2501 + n) * 256 + 6
abbrev HK_SEQUENCE.TRIGGER_CHAIN (n : Nat) : Nat := (0x2501 + n) * 256 + 7
abbrev HK_SEQUENCE.TRIGGER (n : Nat) : Nat := (0x2501 + n) * 256 + 8
abbrev HK_SEQUENCE.SEQ_STATE (n : Nat) : Nat := (0x2501 + n) * 256 + 9
abbrev HK_SEQUENCE.RUNS (n : Nat) : Nat := (0x2501 + n) * 256 + 10
abbrev HK_SEQUENCE.OVERRUN_COUNT (n : Nat) : Nat := (0x2501 + n) * 256 + 11

/-! ### HK_CURVE (0x2508) -/

abbrev HK_CURVE.POINTS (n : Nat) : Nat := (0x2508 + n) * 256 + 1
abbrev HK_CURVE.CODE (n i : Nat) : Nat := (0x2508 + n) * 256 + 2 + i
abbrev HK_CURVE.VALUE (n i : Nat) : Nat := (0x2508 + n) * 256 + 18 + i

/-! ### HK_ENTRY (0x2510) -/

abbrev HK_ENTRY.INPUT (n : Nat) : Nat := (0x2510 + n) * 256 + 1
abbrev HK_ENTRY.GAIN (n : Nat) : Nat := (0x2510 + n) * 256 + 2
abbrev HK_ENTRY.REPEAT (n : Nat) : Nat := (0x2510 + n) * 256 + 3
abbrev HK_ENTRY.DELAY (n : Nat) : Nat := (0x2510 + n) * 256 + 4
abbrev HK_ENTRY.FORMAT (n : Nat) : Nat := (0x2510 + n) * 256 + 5
abbrev HK_ENTRY.ENTRY_FLAGS (n : Nat) : Nat := (0x2510 + n) * 256 + 6
abbrev HK_ENTRY.SCALE (n : Nat) : Nat := (0x2510 + n) * 256 + 7
abbrev HK_ENTRY.UNIT (n : Nat) : Nat := (0x2510 + n) * 256 + 8
abbrev HK_ENTRY.SCALE_GAIN (n : Nat) : Nat := (0x2510 + n) * 256 + 9
abbrev HK_ENTRY.SCALE_OFFSET (n : Nat) : Nat := (0x2510 + n) * 256 + 10
abbrev HK_ENTRY.RAW (n : Nat) : Nat := (0x2510 + n) * 256 + 11
abbrev HK_ENTRY.VALUE (n : Nat) : Nat := (0x2510 + n) * 256 + 12
abbrev HK_ENTRY.ENTRY_STATUS (n : Nat) : Nat := (0x2510 + n) * 256 + 13
abbrev HK_ENTRY.RESULT_STAMP (n : Nat) : Nat := (0x2510 + n) * 256 + 14

/-! ### WATCHDOG (0x2600) -/

abbrev WATCHDOG.ARM (n : Nat) : Nat := (0x2600 + n) * 256 + 1
abbrev WATCHDOG.WD_STATE (n : Nat) : Nat := (0x2600 + n) * 256 + 2
abbrev WATCHDOG.PERIOD (n : Nat) : Nat := (0x2600 + n) * 256 + 3
abbrev WATCHDOG.QUESTION (n : Nat) : Nat := (0x2600 + n) * 256 + 4
abbrev WATCHDOG.ANSWER (n : Nat) : Nat := (0x2600 + n) * 256 + 5
abbrev WATCHDOG.ANSWER_COUNT (n : Nat) : Nat := (0x2600 + n) * 256 + 6
abbrev WATCHDOG.PERIOD_START (n : Nat) : Nat := (0x2600 + n) * 256 + 7
abbrev WATCHDOG.ADJOURN (n : Nat) : Nat := (0x2600 + n) * 256 + 8
abbrev WATCHDOG.ADJOURN_USED (n : Nat) : Nat := (0x2600 + n) * 256 + 9
abbrev WATCHDOG.WRONG_ANSWERS (n : Nat) : Nat := (0x2600 + n) * 256 + 10
abbrev WATCHDOG.EXPIRY_COUNT (n : Nat) : Nat := (0x2600 + n) * 256 + 11
abbrev WATCHDOG.LIFETIME_EXPIRIES (n : Nat) : Nat := (0x2600 + n) * 256 + 12

/-! ### DEVICE_WATCHDOG (0x2610) -/

abbrev DEVICE_WATCHDOG.WDX_TIMEOUT : Nat := 0x261001
abbrev DEVICE_WATCHDOG.WDX_RESETS : Nat := 0x261002
abbrev DEVICE_WATCHDOG.WDX_LIFETIME : Nat := 0x261003
abbrev DEVICE_WATCHDOG.LAST_WDX_STAMP : Nat := 0x261004

/-! ### RTC (0x2700) -/

abbrev RTC.RTC_TIME : Nat := 0x270001
abbrev RTC.RTC_SET : Nat := 0x270002
abbrev RTC.CALENDAR : Nat := 0x270003
abbrev RTC.RTC_TRIM : Nat := 0x270004
abbrev RTC.RTC_FLAGS : Nat := 0x270005
abbrev RTC.LAST_SET_STAMP : Nat := 0x270006
abbrev RTC.SET_SOURCE : Nat := 0x270007

/-! ### ALARM (0x2701) -/

abbrev ALARM.ALARM_SECONDS : Nat := 0x270101
abbrev ALARM.ALARM_REPEAT : Nat := 0x270102
abbrev ALARM.ALARM_STATE : Nat := 0x270103
abbrev ALARM.ALARMS_FIRED : Nat := 0x270104

/-! ### PON_CONTROL (0x2702) -/

abbrev PON_CONTROL.PON_COMMAND : Nat := 0x270201
abbrev PON_CONTROL.PON_SOURCES : Nat := 0x270202
abbrev PON_CONTROL.PON_STATE : Nat := 0x270203
abbrev PON_CONTROL.PON_LAST_CAUSE : Nat := 0x270204
abbrev PON_CONTROL.PON_CHANGES : Nat := 0x270205

/-! ### RETAINED (0x2703) -/

abbrev RETAINED.RETAINED_DATA : Nat := 0x270301
abbrev RETAINED.REGIONS_LOST : Nat := 0x270302

/-! ### IDENTITY_DATA (0x2800) -/

abbrev IDENTITY_DATA.SERIAL : Nat := 0x280001
abbrev IDENTITY_DATA.DEVICE_PUBLIC_KEY : Nat := 0x280002
abbrev IDENTITY_DATA.CERTIFICATE : Nat := 0x280003
abbrev IDENTITY_DATA.SILICON_REVISION : Nat := 0x280004
abbrev IDENTITY_DATA.IDENTITY_STATE : Nat := 0x280005

/-! ### ATTEST_CONTROL (0x2801) -/

abbrev ATTEST_CONTROL.ATTEST_CHALLENGE (t : Nat) : Nat := 0x280101 + 16777216 * t
abbrev ATTEST_CONTROL.ATTEST_STATE (t : Nat) : Nat := 0x280102 + 16777216 * t
abbrev ATTEST_CONTROL.ATTESTATION (t : Nat) : Nat := 0x280103 + 16777216 * t

/-! ### SESSION_CONTROL (0x2802) -/

abbrev SESSION_CONTROL.SESSION_OPEN (t : Nat) : Nat := 0x280201 + 16777216 * t
abbrev SESSION_CONTROL.SESSION_REPLY (t : Nat) : Nat := 0x280202 + 16777216 * t
abbrev SESSION_CONTROL.SESSION_STATE (t : Nat) : Nat := 0x280203 + 16777216 * t
abbrev SESSION_CONTROL.SESSION_CLOSE (t : Nat) : Nat := 0x280204 + 16777216 * t
abbrev SESSION_CONTROL.LAST_COUNTER (t : Nat) : Nat := 0x280205 + 16777216 * t
abbrev SESSION_CONTROL.AUTH_FAILURES (t : Nat) : Nat := 0x280206 + 16777216 * t
abbrev SESSION_CONTROL.AUTH_WRITE (t : Nat) : Nat := 0x280207 + 16777216 * t
abbrev SESSION_CONTROL.AUTH_READ_REQUEST (t : Nat) : Nat := 0x280208 + 16777216 * t
abbrev SESSION_CONTROL.AUTH_READ_REPLY (t : Nat) : Nat := 0x280209 + 16777216 * t

/-! ### AUTH_POLICY (0x2810) -/

abbrev AUTH_POLICY.AUTH_MODE_TN (i : Nat) : Nat := 0x281000 + 1 + i

/-! ### SECURITY_STATUS (0x2811) -/

abbrev SECURITY_STATUS.RANDOM_STATE : Nat := 0x281101
abbrev SECURITY_STATUS.SIGNATURES : Nat := 0x281102
abbrev SECURITY_STATUS.SESSIONS_OPENED : Nat := 0x281103
abbrev SECURITY_STATUS.AUTH_FAILED_TOTAL : Nat := 0x281104

/-! ### EVENT_FABRIC (0x2900) -/

abbrev EVENT_FABRIC.STAMP_NOW : Nat := 0x290001
abbrev EVENT_FABRIC.DEVICE_HOLD : Nat := 0x290002
abbrev EVENT_FABRIC.POOL_RESERVED : Nat := 0x290003
abbrev EVENT_FABRIC.RECORDS_PLACED : Nat := 0x290004
abbrev EVENT_FABRIC.LATE_RECORDS : Nat := 0x290005
abbrev EVENT_FABRIC.TIME_UNTRUSTED : Nat := 0x290006
abbrev EVENT_FABRIC.TICK_SOURCE : Nat := 0x290007

/-! ### HOLD_STATE (0x2901) -/

abbrev HOLD_STATE.HOLD_TN (i : Nat) : Nat := 0x290100 + 1 + i

/-! ### HOLD_CONTROL (0x2902) -/

abbrev HOLD_CONTROL.HOLD (t : Nat) : Nat := 0x290201 + 16777216 * t

/-! ### TARGET (0x2910) -/

abbrev TARGET.ENABLE (n : Nat) : Nat := (0x2910 + n) * 256 + 1
abbrev TARGET.MOD_COUNT (n : Nat) : Nat := (0x2910 + n) * 256 + 2
abbrev TARGET.MOD_TIME (n : Nat) : Nat := (0x2910 + n) * 256 + 3
abbrev TARGET.ARM (n : Nat) : Nat := (0x2910 + n) * 256 + 4
abbrev TARGET.HEAD (n : Nat) : Nat := (0x2910 + n) * 256 + 5
abbrev TARGET.TARGET_STATE (n : Nat) : Nat := (0x2910 + n) * 256 + 6
abbrev TARGET.RAISES (n : Nat) : Nat := (0x2910 + n) * 256 + 7
abbrev TARGET.PENDING (n : Nat) : Nat := (0x2910 + n) * 256 + 8

/-! ### DMA_ENGINE (0x2A00) -/

abbrev DMA_ENGINE.DESCRIPTORS_FREE : Nat := 0x2A0001
abbrev DMA_ENGINE.BYTES_MOVED : Nat := 0x2A0002
abbrev DMA_ENGINE.BAD_DESCRIPTORS : Nat := 0x2A0003
abbrev DMA_ENGINE.RUNNING_STREAMS : Nat := 0x2A0004

/-! ### STREAM (0x2A10) -/

abbrev STREAM.DESC_BASE (n : Nat) : Nat := (0x2A10 + n) * 256 + 1
abbrev STREAM.DESC_COUNT (n : Nat) : Nat := (0x2A10 + n) * 256 + 2
abbrev STREAM.RUN (n : Nat) : Nat := (0x2A10 + n) * 256 + 3
abbrev STREAM.MODE (n : Nat) : Nat := (0x2A10 + n) * 256 + 4
abbrev STREAM.PERIOD (n : Nat) : Nat := (0x2A10 + n) * 256 + 5
abbrev STREAM.TAIL (n : Nat) : Nat := (0x2A10 + n) * 256 + 6
abbrev STREAM.HEAD (n : Nat) : Nat := (0x2A10 + n) * 256 + 7
abbrev STREAM.STREAM_STATE (n : Nat) : Nat := (0x2A10 + n) * 256 + 8
abbrev STREAM.COMPLETION_ADDRESS (n : Nat) : Nat := (0x2A10 + n) * 256 + 9
abbrev STREAM.COMPLETIONS (n : Nat) : Nat := (0x2A10 + n) * 256 + 10
abbrev STREAM.BAD_COUNT (n : Nat) : Nat := (0x2A10 + n) * 256 + 11
abbrev STREAM.LAST_BAD (n : Nat) : Nat := (0x2A10 + n) * 256 + 12
abbrev STREAM.OVERRUNS (n : Nat) : Nat := (0x2A10 + n) * 256 + 13

/-! ### DESC_BLOCK (0x2A40) -/

abbrev DESC_BLOCK.WORD_0 (n i : Nat) : Nat := (0x2A40 + n) * 256 + 1 + 4 * i
abbrev DESC_BLOCK.WORD_1 (n i : Nat) : Nat := (0x2A40 + n) * 256 + 2 + 4 * i
abbrev DESC_BLOCK.WORD_2 (n i : Nat) : Nat := (0x2A40 + n) * 256 + 3 + 4 * i
abbrev DESC_BLOCK.STATUS (n i : Nat) : Nat := (0x2A40 + n) * 256 + 4 + 4 * i

/-! ### MAILBOX (0x2A60) -/

abbrev MAILBOX.DATA (n : Nat) : Nat := (0x2A60 + n) * 256 + 1

/-! ### FAULT_STATUS (0x2C00) -/

abbrev FAULT_STATUS.COUNT_F (i : Nat) : Nat := 0x2C0000 + 1 + i
abbrev FAULT_STATUS.HOUSE_STOPS : Nat := 0x2C0005
abbrev FAULT_STATUS.LOCKOUTS : Nat := 0x2C0006
abbrev FAULT_STATUS.SHADOWED : Nat := 0x2C0007
abbrev FAULT_STATUS.CASCADES : Nat := 0x2C0008
abbrev FAULT_STATUS.ESCALATIONS : Nat := 0x2C0009
abbrev FAULT_STATUS.COLLECTOR_DROPS : Nat := 0x2C000A
abbrev FAULT_STATUS.LAST_KIND : Nat := 0x2C000B
abbrev FAULT_STATUS.LAST_SITE : Nat := 0x2C000C
abbrev FAULT_STATUS.LAST_STOP : Nat := 0x2C000D
abbrev FAULT_STATUS.INJECTION_AVAILABLE : Nat := 0x2C000E

/-! ### CLASS_OVERRIDE (0x2C01) -/

abbrev CLASS_OVERRIDE.OVERRIDE (i : Nat) : Nat := 0x2C0100 + 1 + i

/-! ### KIND_QUERY (0x2C02) -/

abbrev KIND_QUERY.QUERY_KIND (t : Nat) : Nat := 0x2C0201 + 16777216 * t
abbrev KIND_QUERY.QUERY_RESULT (t : Nat) : Nat := 0x2C0202 + 16777216 * t

/-! ### KEEPER (0x2C03) -/

abbrev KEEPER.FAILED_OPENINGS : Nat := 0x2C0301
abbrev KEEPER.HOLDS : Nat := 0x2C0302
abbrev KEEPER.LAST_HOLD_SECONDS : Nat := 0x2C0303
abbrev KEEPER.RETRY_SERIES : Nat := 0x2C0304
abbrev KEEPER.DIE_HEARTBEAT : Nat := 0x2C0305
abbrev KEEPER.KEEPER_RETRY_TIME : Nat := 0x2C0306
abbrev KEEPER.KEEPER_CAN_PORT : Nat := 0x2C0307
abbrev KEEPER.KEEPER_COB_ID : Nat := 0x2C0308

/-! ### CONVERTER (0x2D00) -/

abbrev CONVERTER.ENABLE (n : Nat) : Nat := (0x2D00 + n) * 256 + 1
abbrev CONVERTER.VOUT_SET (n : Nat) : Nat := (0x2D00 + n) * 256 + 2
abbrev CONVERTER.SWITCH_PERIOD (n : Nat) : Nat := (0x2D00 + n) * 256 + 3
abbrev CONVERTER.VLOOP_DIV (n : Nat) : Nat := (0x2D00 + n) * 256 + 4
abbrev CONVERTER.VS_GAIN (n : Nat) : Nat := (0x2D00 + n) * 256 + 5
abbrev CONVERTER.REF_SLEW (n : Nat) : Nat := (0x2D00 + n) * 256 + 6
abbrev CONVERTER.SOFT_START_TIME (n : Nat) : Nat := (0x2D00 + n) * 256 + 7
abbrev CONVERTER.SOFT_START_SR (n : Nat) : Nat := (0x2D00 + n) * 256 + 8
abbrev CONVERTER.IREF_MAX (n : Nat) : Nat := (0x2D00 + n) * 256 + 9
abbrev CONVERTER.IREF_MIN (n : Nat) : Nat := (0x2D00 + n) * 256 + 10
abbrev CONVERTER.DUTY_MIN (n : Nat) : Nat := (0x2D00 + n) * 256 + 11
abbrev CONVERTER.DUTY_MAX (n : Nat) : Nat := (0x2D00 + n) * 256 + 12
abbrev CONVERTER.TRUNC_LEVEL (n : Nat) : Nat := (0x2D00 + n) * 256 + 13
abbrev CONVERTER.TRUNC_HYST (n : Nat) : Nat := (0x2D00 + n) * 256 + 14
abbrev CONVERTER.TRUNC_LATCH_TIME (n : Nat) : Nat := (0x2D00 + n) * 256 + 15
abbrev CONVERTER.HICCUP_CYCLES (n : Nat) : Nat := (0x2D00 + n) * 256 + 16
abbrev CONVERTER.HICCUP_TIME (n : Nat) : Nat := (0x2D00 + n) * 256 + 17
abbrev CONVERTER.HICCUP_RETRIES (n : Nat) : Nat := (0x2D00 + n) * 256 + 18
abbrev CONVERTER.HICCUP_RESET_TIME (n : Nat) : Nat := (0x2D00 + n) * 256 + 19
abbrev CONVERTER.HICCUP_ON_CLAMP (n : Nat) : Nat := (0x2D00 + n) * 256 + 20
abbrev CONVERTER.SHARE_TOLERANCE (n : Nat) : Nat := (0x2D00 + n) * 256 + 21
abbrev CONVERTER.VIN_ENTRY (n : Nat) : Nat := (0x2D00 + n) * 256 + 22
abbrev CONVERTER.TEMP_ENTRY (n : Nat) : Nat := (0x2D00 + n) * 256 + 23

/-! ### CONVERTER_LOOP (0x2D08) -/

abbrev CONVERTER_LOOP.VB (n i : Nat) : Nat := (0x2D08 + n) * 256 + 1 + i
abbrev CONVERTER_LOOP.VA (n i : Nat) : Nat := (0x2D08 + n) * 256 + 5 + i
abbrev CONVERTER_LOOP.IB (n i : Nat) : Nat := (0x2D08 + n) * 256 + 8 + i
abbrev CONVERTER_LOOP.IA (n i : Nat) : Nat := (0x2D08 + n) * 256 + 11 + i

/-! ### LANE (0x2D10) -/

abbrev LANE.CONVERTER (n : Nat) : Nat := (0x2D10 + n) * 256 + 1
abbrev LANE.LANE_MODE (n : Nat) : Nat := (0x2D10 + n) * 256 + 2
abbrev LANE.DEAD_RISE (n : Nat) : Nat := (0x2D10 + n) * 256 + 3
abbrev LANE.DEAD_FALL (n : Nat) : Nat := (0x2D10 + n) * 256 + 4
abbrev LANE.CS_RESISTANCE (n : Nat) : Nat := (0x2D10 + n) * 256 + 5
abbrev LANE.PEAK_LEVEL (n : Nat) : Nat := (0x2D10 + n) * 256 + 6
abbrev LANE.SHARE_WEIGHT (n : Nat) : Nat := (0x2D10 + n) * 256 + 7

/-! ### CONVERTER_STATUS (0x2D20) -/

abbrev CONVERTER_STATUS.STATE (n : Nat) : Nat := (0x2D20 + n) * 256 + 1
abbrev CONVERTER_STATUS.VOUT (n : Nat) : Nat := (0x2D20 + n) * 256 + 2
abbrev CONVERTER_STATUS.VOUT_INST (n : Nat) : Nat := (0x2D20 + n) * 256 + 3
abbrev CONVERTER_STATUS.IOUT (n : Nat) : Nat := (0x2D20 + n) * 256 + 4
abbrev CONVERTER_STATUS.VREF (n : Nat) : Nat := (0x2D20 + n) * 256 + 5
abbrev CONVERTER_STATUS.IREF (n : Nat) : Nat := (0x2D20 + n) * 256 + 6
abbrev CONVERTER_STATUS.HICCUPS_LEFT (n : Nat) : Nat := (0x2D20 + n) * 256 + 7
abbrev CONVERTER_STATUS.HICCUP_COUNT (n : Nat) : Nat := (0x2D20 + n) * 256 + 8
abbrev CONVERTER_STATUS.TRUNC_EPISODES (n : Nat) : Nat := (0x2D20 + n) * 256 + 9
abbrev CONVERTER_STATUS.CONV_FLAGS (n : Nat) : Nat := (0x2D20 + n) * 256 + 10
abbrev CONVERTER_STATUS.LATCH_CAUSE (n : Nat) : Nat := (0x2D20 + n) * 256 + 11
abbrev CONVERTER_STATUS.START_REFUSE_REASON (n : Nat) : Nat := (0x2D20 + n) * 256 + 12
abbrev CONVERTER_STATUS.LIFETIME_FAULTS (n : Nat) : Nat := (0x2D20 + n) * 256 + 13
abbrev CONVERTER_STATUS.RECORDS_SKIPPED (n : Nat) : Nat := (0x2D20 + n) * 256 + 14

/-! ### CONVERTER_WINDOW (0x2D28) -/

abbrev CONVERTER_WINDOW.WINDOW_MODE (n : Nat) : Nat := (0x2D28 + n) * 256 + 1
abbrev CONVERTER_WINDOW.UV_LEVEL (n : Nat) : Nat := (0x2D28 + n) * 256 + 2
abbrev CONVERTER_WINDOW.UV_HYST (n : Nat) : Nat := (0x2D28 + n) * 256 + 3
abbrev CONVERTER_WINDOW.OV_LEVEL (n : Nat) : Nat := (0x2D28 + n) * 256 + 4
abbrev CONVERTER_WINDOW.OV_HYST (n : Nat) : Nat := (0x2D28 + n) * 256 + 5
abbrev CONVERTER_WINDOW.FILTER_UNIT (n : Nat) : Nat := (0x2D28 + n) * 256 + 6
abbrev CONVERTER_WINDOW.UV_SET_FILTER (n : Nat) : Nat := (0x2D28 + n) * 256 + 7
abbrev CONVERTER_WINDOW.UV_CLEAR_FILTER (n : Nat) : Nat := (0x2D28 + n) * 256 + 8
abbrev CONVERTER_WINDOW.OV_SET_FILTER (n : Nat) : Nat := (0x2D28 + n) * 256 + 9
abbrev CONVERTER_WINDOW.OV_CLEAR_FILTER (n : Nat) : Nat := (0x2D28 + n) * 256 + 10
abbrev CONVERTER_WINDOW.WINDOW_STATUS (n : Nat) : Nat := (0x2D28 + n) * 256 + 11
abbrev CONVERTER_WINDOW.UV_COUNT (n : Nat) : Nat := (0x2D28 + n) * 256 + 12
abbrev CONVERTER_WINDOW.OV_COUNT (n : Nat) : Nat := (0x2D28 + n) * 256 + 13

/-! ### FAULT_RECORD (0x2D30) -/

abbrev FAULT_RECORD.RECORD (n : Nat) : Nat := (0x2D30 + n) * 256 + 1
abbrev FAULT_RECORD.RECORD_STAMP (n : Nat) : Nat := (0x2D30 + n) * 256 + 2
abbrev FAULT_RECORD.RECORD_CAUSE (n : Nat) : Nat := (0x2D30 + n) * 256 + 3

/-! ### LANE_STATUS (0x2D40) -/

abbrev LANE_STATUS.I_MEAN (n : Nat) : Nat := (0x2D40 + n) * 256 + 1
abbrev LANE_STATUS.I_REF (n : Nat) : Nat := (0x2D40 + n) * 256 + 2
abbrev LANE_STATUS.DUTY (n : Nat) : Nat := (0x2D40 + n) * 256 + 3
abbrev LANE_STATUS.PEAK_CUTS (n : Nat) : Nat := (0x2D40 + n) * 256 + 4
abbrev LANE_STATUS.ADC_OFFSET (n : Nat) : Nat := (0x2D40 + n) * 256 + 5
abbrev LANE_STATUS.LANE_STATE (n : Nat) : Nat := (0x2D40 + n) * 256 + 6

/-! ### BATTERY_SWITCH (0x2E00) -/

abbrev BATTERY_SWITCH.MODE : Nat := 0x2E0001
abbrev BATTERY_SWITCH.MODE_IN_EFFECT : Nat := 0x2E0002
abbrev BATTERY_SWITCH.FORWARD : Nat := 0x2E0003
abbrev BATTERY_SWITCH.OPEN_CAUSE : Nat := 0x2E0004
abbrev BATTERY_SWITCH.IDEAL_DROP : Nat := 0x2E0005
abbrev BATTERY_SWITCH.SHORT_LEVEL : Nat := 0x2E0006
abbrev BATTERY_SWITCH.SHORT_BLANK : Nat := 0x2E0007
abbrev BATTERY_SWITCH.UV_CUTOFF : Nat := 0x2E0008
abbrev BATTERY_SWITCH.UV_CUTOFF_TIME : Nat := 0x2E0009
abbrev BATTERY_SWITCH.CLOSED_CHARGE_LIMIT : Nat := 0x2E000A
abbrev BATTERY_SWITCH.V_BATTERY : Nat := 0x2E000B
abbrev BATTERY_SWITCH.V_NETWORK : Nat := 0x2E000C
abbrev BATTERY_SWITCH.SWITCH_TRIPS : Nat := 0x2E000D
abbrev BATTERY_SWITCH.SHIP_STATE : Nat := 0x2E000E

/-! ### SHIP_CONTROL (0x2E01) -/

abbrev SHIP_CONTROL.SHIP_ARM : Nat := 0x2E0101
abbrev SHIP_CONTROL.SHIP_WINDOW : Nat := 0x2E0102
abbrev SHIP_CONTROL.SHIP_STATE : Nat := 0x2E0103
abbrev SHIP_CONTROL.BTN_STATE : Nat := 0x2E0104
abbrev SHIP_CONTROL.LONG_PRESSES : Nat := 0x2E0105
abbrev SHIP_CONTROL.SHIP_ENTRIES : Nat := 0x2E0106
abbrev SHIP_CONTROL.LAST_SHIP_DURATION : Nat := 0x2E0107

/-! ### CHARGER (0x2E08) -/

abbrev CHARGER.CHARGE_ENABLE : Nat := 0x2E0801
abbrev CHARGER.BATT_TEMP_ENTRY : Nat := 0x2E0802
abbrev CHARGER.TEMP_MIN : Nat := 0x2E0803
abbrev CHARGER.TEMP_MAX : Nat := 0x2E0804
abbrev CHARGER.QUALIFY_VOLTAGE : Nat := 0x2E0805
abbrev CHARGER.PRECHARGE_CURRENT : Nat := 0x2E0806
abbrev CHARGER.QUALIFY_TIMEOUT : Nat := 0x2E0807
abbrev CHARGER.BULK_CURRENT : Nat := 0x2E0808
abbrev CHARGER.BULK_ON_TIME : Nat := 0x2E0809
abbrev CHARGER.REST_TIME : Nat := 0x2E080A
abbrev CHARGER.TAPER_START : Nat := 0x2E080B
abbrev CHARGER.TARGET_VOLTAGE : Nat := 0x2E080C
abbrev CHARGER.CHARGE_VOLTAGE_MAX : Nat := 0x2E080D
abbrev CHARGER.MAINTAIN_LEVEL : Nat := 0x2E080E
abbrev CHARGER.MAINTAIN_ON_TIME : Nat := 0x2E080F
abbrev CHARGER.CHARGE_TIMEOUT : Nat := 0x2E0810
abbrev CHARGER.REST_CURRENT_MAX : Nat := 0x2E0811

/-! ### CHARGER_STATUS (0x2E09) -/

abbrev CHARGER_STATUS.PHASE : Nat := 0x2E0901
abbrev CHARGER_STATUS.STAGE : Nat := 0x2E0902
abbrev CHARGER_STATUS.SUSPEND_CAUSE : Nat := 0x2E0903
abbrev CHARGER_STATUS.FAULT_CAUSE : Nat := 0x2E0904
abbrev CHARGER_STATUS.V_REST : Nat := 0x2E0905
abbrev CHARGER_STATUS.ON_TIME : Nat := 0x2E0906
abbrev CHARGER_STATUS.PULSES : Nat := 0x2E0907
abbrev CHARGER_STATUS.REST_INVALID : Nat := 0x2E0908
abbrev CHARGER_STATUS.PHASE_TIME : Nat := 0x2E0909

/-! ### ASSIST_PORT (0x2E10) -/

abbrev ASSIST_PORT.ASSIST_START : Nat := 0x2E1001
abbrev ASSIST_PORT.ASSIST_STOP : Nat := 0x2E1002
abbrev ASSIST_PORT.ASSIST_VOLTAGE : Nat := 0x2E1003
abbrev ASSIST_PORT.ASSIST_CURRENT_LIMIT : Nat := 0x2E1004
abbrev ASSIST_PORT.ASSIST_MAX_VOLTAGE : Nat := 0x2E1005
abbrev ASSIST_PORT.PRECHARGE_CURRENT : Nat := 0x2E1006
abbrev ASSIST_PORT.PRECHARGE_TIME : Nat := 0x2E1007
abbrev ASSIST_PORT.SESSION_TIMEOUT : Nat := 0x2E1008

/-! ### ASSIST_STATUS (0x2E11) -/

abbrev ASSIST_STATUS.ASSIST_STATE : Nat := 0x2E1101
abbrev ASSIST_STATUS.ASSIST_RESULT : Nat := 0x2E1102
abbrev ASSIST_STATUS.ASV : Nat := 0x2E1103
abbrev ASSIST_STATUS.ASSIST_CURRENT : Nat := 0x2E1104
abbrev ASSIST_STATUS.DELIVERED_CHARGE : Nat := 0x2E1105
abbrev ASSIST_STATUS.SESSION_TIME : Nat := 0x2E1106
abbrev ASSIST_STATUS.SESSIONS : Nat := 0x2E1107

/-! ### ESTIMATOR (0x2F00) -/

abbrev ESTIMATOR.BATT_SHUNT_RESISTANCE : Nat := 0x2F0001
abbrev ESTIMATOR.BATT_SHUNT_TEMPCO : Nat := 0x2F0002
abbrev ESTIMATOR.BATT_SHUNT_REF_TEMP : Nat := 0x2F0003
abbrev ESTIMATOR.BATT_SHUNT_TEMP_ENTRY : Nat := 0x2F0004
abbrev ESTIMATOR.BATT_SHUNT_TEMP_FALLBACK : Nat := 0x2F0005
abbrev ESTIMATOR.EST_TEMP_ENTRY : Nat := 0x2F0006
abbrev ESTIMATOR.RATED_CAPACITY : Nat := 0x2F0007
abbrev ESTIMATOR.CHARGE_EFFICIENCY : Nat := 0x2F0008
abbrev ESTIMATOR.CONVERGE_RATE : Nat := 0x2F0009
abbrev ESTIMATOR.EST_REST_CURRENT : Nat := 0x2F000A
abbrev ESTIMATOR.EST_REST_TIME : Nat := 0x2F000B
abbrev ESTIMATOR.SHORT_REST_GAIN : Nat := 0x2F000C
abbrev ESTIMATOR.LONG_REST_GAIN : Nat := 0x2F000D
abbrev ESTIMATOR.OCV_MIN_SLOPE : Nat := 0x2F000E
abbrev ESTIMATOR.LEARN_MAX_SOC : Nat := 0x2F000F
abbrev ESTIMATOR.LEARN_WEIGHT : Nat := 0x2F0010
abbrev ESTIMATOR.RESISTANCE_NEW : Nat := 0x2F0011

/-! ### ESTIMATOR_STATUS (0x2F01) -/

abbrev ESTIMATOR_STATUS.I_BATT_INST : Nat := 0x2F0101
abbrev ESTIMATOR_STATUS.I_BATT : Nat := 0x2F0102
abbrev ESTIMATOR_STATUS.I_BATT_1S : Nat := 0x2F0103
abbrev ESTIMATOR_STATUS.CHARGE : Nat := 0x2F0104
abbrev ESTIMATOR_STATUS.SOC : Nat := 0x2F0105
abbrev ESTIMATOR_STATUS.SOC_INTERNAL : Nat := 0x2F0106
abbrev ESTIMATOR_STATUS.SOC_SOURCE : Nat := 0x2F0107
abbrev ESTIMATOR_STATUS.EST_FLAGS : Nat := 0x2F0108
abbrev ESTIMATOR_STATUS.CAPACITY_IN_USE : Nat := 0x2F0109
abbrev ESTIMATOR_STATUS.LEARNED_CAPACITY : Nat := 0x2F010A
abbrev ESTIMATOR_STATUS.RESISTANCE : Nat := 0x2F010B
abbrev ESTIMATOR_STATUS.SOH_CAPACITY : Nat := 0x2F010C
abbrev ESTIMATOR_STATUS.SOH_RESISTANCE : Nat := 0x2F010D
abbrev ESTIMATOR_STATUS.LAST_REST_VOLTAGE : Nat := 0x2F010E
abbrev ESTIMATOR_STATUS.LAST_REST_SOC : Nat := 0x2F010F
abbrev ESTIMATOR_STATUS.RESTS_UNUSED : Nat := 0x2F0110
abbrev ESTIMATOR_STATUS.BATT_SHUNT_TEMP : Nat := 0x2F0111

/-! ### OCV_TABLE (0x2F02) -/

abbrev OCV_TABLE.OCV_POINTS : Nat := 0x2F0201
abbrev OCV_TABLE.OCV_SOC (i : Nat) : Nat := 0x2F0200 + 2 + i
abbrev OCV_TABLE.OCV_VOLT (i : Nat) : Nat := 0x2F0200 + 18 + i

/-! ### BATTERY_RECORD (0x2F03) -/

abbrev BATTERY_RECORD.RECORD : Nat := 0x2F0301
abbrev BATTERY_RECORD.SEQUENCE : Nat := 0x2F0302
abbrev BATTERY_RECORD.BATTERY_REPLACED : Nat := 0x2F0303

/-! ### CHANNEL_CONFIG (0x3000) -/

abbrev CHANNEL_CONFIG.REQUEST (n : Nat) : Nat := (0x3000 + n) * 256 + 1
abbrev CHANNEL_CONFIG.SHUNT_RESISTANCE (n : Nat) : Nat := (0x3000 + n) * 256 + 2
abbrev CHANNEL_CONFIG.SHUNT_TEMP_ENTRY (n : Nat) : Nat := (0x3000 + n) * 256 + 3
abbrev CHANNEL_CONFIG.SHUNT_TEMPCO (n : Nat) : Nat := (0x3000 + n) * 256 + 4
abbrev CHANNEL_CONFIG.SHUNT_REF_TEMP (n : Nat) : Nat := (0x3000 + n) * 256 + 5
abbrev CHANNEL_CONFIG.SHUNT_TEMP_FALLBACK (n : Nat) : Nat := (0x3000 + n) * 256 + 6
abbrev CHANNEL_CONFIG.GATE_SOURCE (n : Nat) : Nat := (0x3000 + n) * 256 + 7
abbrev CHANNEL_CONFIG.GATE_SINK (n : Nat) : Nat := (0x3000 + n) * 256 + 8
abbrev CHANNEL_CONFIG.RAMP_DONE_DROP (n : Nat) : Nat := (0x3000 + n) * 256 + 9
abbrev CHANNEL_CONFIG.RAMP_TIMEOUT (n : Nat) : Nat := (0x3000 + n) * 256 + 10
abbrev CHANNEL_CONFIG.STANDING_ORDER (n : Nat) : Nat := (0x3000 + n) * 256 + 11
abbrev CHANNEL_CONFIG.PWM_PERIOD (n : Nat) : Nat := (0x3000 + n) * 256 + 12
abbrev CHANNEL_CONFIG.PWM_DUTY (n : Nat) : Nat := (0x3000 + n) * 256 + 13
abbrev CHANNEL_CONFIG.PWM_PHASE_MODE (n : Nat) : Nat := (0x3000 + n) * 256 + 14
abbrev CHANNEL_CONFIG.PWM_PHASE (n : Nat) : Nat := (0x3000 + n) * 256 + 15
abbrev CHANNEL_CONFIG.RELEASE_STANDING (n : Nat) : Nat := (0x3000 + n) * 256 + 16
abbrev CHANNEL_CONFIG.CLEAR_LOCKOUT (n : Nat) : Nat := (0x3000 + n) * 256 + 17

/-! ### CHANNEL_PROTECTION (0x3200) -/

abbrev CHANNEL_PROTECTION.HARD_SHORT_LEVEL (n : Nat) : Nat := (0x3200 + n) * 256 + 1
abbrev CHANNEL_PROTECTION.HARD_SHORT_BLANK (n : Nat) : Nat := (0x3200 + n) * 256 + 2
abbrev CHANNEL_PROTECTION.LIMIT_LEVEL (n : Nat) : Nat := (0x3200 + n) * 256 + 3
abbrev CHANNEL_PROTECTION.LIMIT_MAX_TIME (n : Nat) : Nat := (0x3200 + n) * 256 + 4
abbrev CHANNEL_PROTECTION.WIRE_MODE (n : Nat) : Nat := (0x3200 + n) * 256 + 5
abbrev CHANNEL_PROTECTION.WIRE_PRESET (n : Nat) : Nat := (0x3200 + n) * 256 + 6
abbrev CHANNEL_PROTECTION.WIRE_RESISTANCE (n : Nat) : Nat := (0x3200 + n) * 256 + 7
abbrev CHANNEL_PROTECTION.WIRE_ALPHA (n : Nat) : Nat := (0x3200 + n) * 256 + 8
abbrev CHANNEL_PROTECTION.WIRE_RTH (n : Nat) : Nat := (0x3200 + n) * 256 + 9
abbrev CHANNEL_PROTECTION.WIRE_TAU1 (n : Nat) : Nat := (0x3200 + n) * 256 + 10
abbrev CHANNEL_PROTECTION.WIRE_TAU2 (n : Nat) : Nat := (0x3200 + n) * 256 + 11
abbrev CHANNEL_PROTECTION.WIRE_W1 (n : Nat) : Nat := (0x3200 + n) * 256 + 12
abbrev CHANNEL_PROTECTION.WIRE_WARN_RISE (n : Nat) : Nat := (0x3200 + n) * 256 + 13
abbrev CHANNEL_PROTECTION.WIRE_TRIP_RISE (n : Nat) : Nat := (0x3200 + n) * 256 + 14
abbrev CHANNEL_PROTECTION.WIRE_RESTART_RISE (n : Nat) : Nat := (0x3200 + n) * 256 + 15
abbrev CHANNEL_PROTECTION.WIRE_REF_ENTRY (n : Nat) : Nat := (0x3200 + n) * 256 + 16
abbrev CHANNEL_PROTECTION.WIRE_REF_FALLBACK (n : Nat) : Nat := (0x3200 + n) * 256 + 17
abbrev CHANNEL_PROTECTION.FET_MODE (n : Nat) : Nat := (0x3200 + n) * 256 + 18
abbrev CHANNEL_PROTECTION.FET_RTH1 (n : Nat) : Nat := (0x3200 + n) * 256 + 19
abbrev CHANNEL_PROTECTION.FET_TAU1 (n : Nat) : Nat := (0x3200 + n) * 256 + 20
abbrev CHANNEL_PROTECTION.FET_RTH2 (n : Nat) : Nat := (0x3200 + n) * 256 + 21
abbrev CHANNEL_PROTECTION.FET_TAU2 (n : Nat) : Nat := (0x3200 + n) * 256 + 22
abbrev CHANNEL_PROTECTION.FET_RDS_ON (n : Nat) : Nat := (0x3200 + n) * 256 + 23
abbrev CHANNEL_PROTECTION.FET_WARN_TEMP (n : Nat) : Nat := (0x3200 + n) * 256 + 24
abbrev CHANNEL_PROTECTION.FET_TRIP_TEMP (n : Nat) : Nat := (0x3200 + n) * 256 + 25
abbrev CHANNEL_PROTECTION.FET_RESTART_TEMP (n : Nat) : Nat := (0x3200 + n) * 256 + 26
abbrev CHANNEL_PROTECTION.FET_REF_ENTRY (n : Nat) : Nat := (0x3200 + n) * 256 + 27
abbrev CHANNEL_PROTECTION.FET_REF_FALLBACK (n : Nat) : Nat := (0x3200 + n) * 256 + 28
abbrev CHANNEL_PROTECTION.RETRY_COUNT (n : Nat) : Nat := (0x3200 + n) * 256 + 29
abbrev CHANNEL_PROTECTION.RETRY_WAIT (n : Nat) : Nat := (0x3200 + n) * 256 + 30
abbrev CHANNEL_PROTECTION.RETRY_RESET_TIME (n : Nat) : Nat := (0x3200 + n) * 256 + 31
abbrev CHANNEL_PROTECTION.INRUSH_PEAK (n : Nat) : Nat := (0x3200 + n) * 256 + 32
abbrev CHANNEL_PROTECTION.INRUSH_TIME (n : Nat) : Nat := (0x3200 + n) * 256 + 33
abbrev CHANNEL_PROTECTION.ADMIT_PRIORITY (n : Nat) : Nat := (0x3200 + n) * 256 + 34
abbrev CHANNEL_PROTECTION.ADMIT_MAX_WAIT (n : Nat) : Nat := (0x3200 + n) * 256 + 35
abbrev CHANNEL_PROTECTION.LAMP_MODE (n : Nat) : Nat := (0x3200 + n) * 256 + 36
abbrev CHANNEL_PROTECTION.LAMP_NOMINAL (n : Nat) : Nat := (0x3200 + n) * 256 + 37
abbrev CHANNEL_PROTECTION.LAMP_MULTIPLE (n : Nat) : Nat := (0x3200 + n) * 256 + 38
abbrev CHANNEL_PROTECTION.LAMP_DECAY_TIME (n : Nat) : Nat := (0x3200 + n) * 256 + 39
abbrev CHANNEL_PROTECTION.LAMP_OPEN_FRACTION (n : Nat) : Nat := (0x3200 + n) * 256 + 40
abbrev CHANNEL_PROTECTION.WIRE_RISE (n : Nat) : Nat := (0x3200 + n) * 256 + 41
abbrev CHANNEL_PROTECTION.FET_TEMP (n : Nat) : Nat := (0x3200 + n) * 256 + 42
abbrev CHANNEL_PROTECTION.MODEL_FLAGS (n : Nat) : Nat := (0x3200 + n) * 256 + 43
abbrev CHANNEL_PROTECTION.RETRIES_LEFT (n : Nat) : Nat := (0x3200 + n) * 256 + 44
abbrev CHANNEL_PROTECTION.ADMIT_WAIT (n : Nat) : Nat := (0x3200 + n) * 256 + 45

/-! ### CHANNEL_STATUS (0x3400) -/

abbrev CHANNEL_STATUS.STATE (n : Nat) : Nat := (0x3400 + n) * 256 + 1
abbrev CHANNEL_STATUS.FLAGS (n : Nat) : Nat := (0x3400 + n) * 256 + 2
abbrev CHANNEL_STATUS.I_INST (n : Nat) : Nat := (0x3400 + n) * 256 + 3
abbrev CHANNEL_STATUS.V_INST (n : Nat) : Nat := (0x3400 + n) * 256 + 4
abbrev CHANNEL_STATUS.I_MEAN (n : Nat) : Nat := (0x3400 + n) * 256 + 5
abbrev CHANNEL_STATUS.V_MEAN (n : Nat) : Nat := (0x3400 + n) * 256 + 6
abbrev CHANNEL_STATUS.I_RMS (n : Nat) : Nat := (0x3400 + n) * 256 + 7
abbrev CHANNEL_STATUS.I_PEAK (n t : Nat) : Nat := (0x3400 + n) * 256 + 8 + 16777216 * t
abbrev CHANNEL_STATUS.V_PEAK (n t : Nat) : Nat := (0x3400 + n) * 256 + 9 + 16777216 * t
abbrev CHANNEL_STATUS.MEAS_FRAME (n : Nat) : Nat := (0x3400 + n) * 256 + 10
abbrev CHANNEL_STATUS.STANDING_GATE (n : Nat) : Nat := (0x3400 + n) * 256 + 11
abbrev CHANNEL_STATUS.STANDING_CAUSE (n : Nat) : Nat := (0x3400 + n) * 256 + 12
abbrev CHANNEL_STATUS.SHUNT_TEMP (n : Nat) : Nat := (0x3400 + n) * 256 + 13
abbrev CHANNEL_STATUS.CAL_AGE (n : Nat) : Nat := (0x3400 + n) * 256 + 14
abbrev CHANNEL_STATUS.TRIP_CAUSE (n : Nat) : Nat := (0x3400 + n) * 256 + 15

/-! ### CHANNEL_SUPERVISION (0x3600) -/

abbrev CHANNEL_SUPERVISION.WINDOW_MODE (n : Nat) : Nat := (0x3600 + n) * 256 + 1
abbrev CHANNEL_SUPERVISION.UV_LEVEL (n : Nat) : Nat := (0x3600 + n) * 256 + 2
abbrev CHANNEL_SUPERVISION.UV_HYST (n : Nat) : Nat := (0x3600 + n) * 256 + 3
abbrev CHANNEL_SUPERVISION.OV_LEVEL (n : Nat) : Nat := (0x3600 + n) * 256 + 4
abbrev CHANNEL_SUPERVISION.OV_HYST (n : Nat) : Nat := (0x3600 + n) * 256 + 5
abbrev CHANNEL_SUPERVISION.FILTER_UNIT (n : Nat) : Nat := (0x3600 + n) * 256 + 6
abbrev CHANNEL_SUPERVISION.UV_SET_FILTER (n : Nat) : Nat := (0x3600 + n) * 256 + 7
abbrev CHANNEL_SUPERVISION.UV_CLEAR_FILTER (n : Nat) : Nat := (0x3600 + n) * 256 + 8
abbrev CHANNEL_SUPERVISION.OV_SET_FILTER (n : Nat) : Nat := (0x3600 + n) * 256 + 9
abbrev CHANNEL_SUPERVISION.OV_CLEAR_FILTER (n : Nat) : Nat := (0x3600 + n) * 256 + 10
abbrev CHANNEL_SUPERVISION.WINDOW_STATUS (n : Nat) : Nat := (0x3600 + n) * 256 + 11
abbrev CHANNEL_SUPERVISION.LV_UV_WARN (n : Nat) : Nat := (0x3600 + n) * 256 + 12
abbrev CHANNEL_SUPERVISION.LV_UV_FAULT (n : Nat) : Nat := (0x3600 + n) * 256 + 13
abbrev CHANNEL_SUPERVISION.LV_OV_WARN (n : Nat) : Nat := (0x3600 + n) * 256 + 14
abbrev CHANNEL_SUPERVISION.LV_OV_FAULT (n : Nat) : Nat := (0x3600 + n) * 256 + 15
abbrev CHANNEL_SUPERVISION.UV_COUNT (n : Nat) : Nat := (0x3600 + n) * 256 + 16
abbrev CHANNEL_SUPERVISION.OV_COUNT (n : Nat) : Nat := (0x3600 + n) * 256 + 17
abbrev CHANNEL_SUPERVISION.HARD_TRIPS (n : Nat) : Nat := (0x3600 + n) * 256 + 18
abbrev CHANNEL_SUPERVISION.LIMIT_ENTRIES (n : Nat) : Nat := (0x3600 + n) * 256 + 19
abbrev CHANNEL_SUPERVISION.MODEL_TRIPS (n : Nat) : Nat := (0x3600 + n) * 256 + 20
abbrev CHANNEL_SUPERVISION.TIMEOUT_TRIPS (n : Nat) : Nat := (0x3600 + n) * 256 + 21
abbrev CHANNEL_SUPERVISION.RETRIES (n : Nat) : Nat := (0x3600 + n) * 256 + 22
abbrev CHANNEL_SUPERVISION.STARTS (n : Nat) : Nat := (0x3600 + n) * 256 + 23
abbrev CHANNEL_SUPERVISION.DISCHARGE_TIMEOUTS (n : Nat) : Nat := (0x3600 + n) * 256 + 24
abbrev CHANNEL_SUPERVISION.COUNTER_CLEAR (n : Nat) : Nat := (0x3600 + n) * 256 + 25
abbrev CHANNEL_SUPERVISION.LIFETIME_TRIPS (n : Nat) : Nat := (0x3600 + n) * 256 + 26

/-! ### BANK (0x3800) -/

abbrev BANK.VBUS (n : Nat) : Nat := (0x3800 + n) * 256 + 1
abbrev BANK.VBUS_INST (n : Nat) : Nat := (0x3800 + n) * 256 + 2
abbrev BANK.PUMP_HEADROOM (n : Nat) : Nat := (0x3800 + n) * 256 + 3
abbrev BANK.BANK_FLAGS (n : Nat) : Nat := (0x3800 + n) * 256 + 4
abbrev BANK.PUMP_MODE (n : Nat) : Nat := (0x3800 + n) * 256 + 5
abbrev BANK.BUS_UV_LEVEL (n : Nat) : Nat := (0x3800 + n) * 256 + 6
abbrev BANK.SAG_HOLD_LEVEL (n : Nat) : Nat := (0x3800 + n) * 256 + 7
abbrev BANK.BUDGET_GROUP (n : Nat) : Nat := (0x3800 + n) * 256 + 8
abbrev BANK.CAPTURE_OWNER (n : Nat) : Nat := (0x3800 + n) * 256 + 9
abbrev BANK.CAPTURE_SIGNALS (n : Nat) : Nat := (0x3800 + n) * 256 + 10
abbrev BANK.CAPTURE_SIGNAL (n i : Nat) : Nat := (0x3800 + n) * 256 + 11 + i
abbrev BANK.TRIGGER_MODE (n : Nat) : Nat := (0x3800 + n) * 256 + 19
abbrev BANK.TRIGGER_LEVEL (n : Nat) : Nat := (0x3800 + n) * 256 + 20
abbrev BANK.PRETRIGGER (n : Nat) : Nat := (0x3800 + n) * 256 + 21
abbrev BANK.CAPTURE_ARM (n : Nat) : Nat := (0x3800 + n) * 256 + 22
abbrev BANK.CAPTURE_STATE (n : Nat) : Nat := (0x3800 + n) * 256 + 23
abbrev BANK.TRIGGER_STAMP (n : Nat) : Nat := (0x3800 + n) * 256 + 24
abbrev BANK.CAPTURE_DATA (n : Nat) : Nat := (0x3800 + n) * 256 + 25

/-! ### BUDGET_GROUP (0x3820) -/

abbrev BUDGET_GROUP.BUDGET (n : Nat) : Nat := (0x3820 + n) * 256 + 1
abbrev BUDGET_GROUP.MAX_STARTS (n : Nat) : Nat := (0x3820 + n) * 256 + 2
abbrev BUDGET_GROUP.GROUP_LOAD (n : Nat) : Nat := (0x3820 + n) * 256 + 3
abbrev BUDGET_GROUP.SHARES_HELD (n : Nat) : Nat := (0x3820 + n) * 256 + 4
abbrev BUDGET_GROUP.WAITING (n : Nat) : Nat := (0x3820 + n) * 256 + 5
abbrev BUDGET_GROUP.FORCED_COUNT (n : Nat) : Nat := (0x3820 + n) * 256 + 6
abbrev BUDGET_GROUP.LONGEST_WAIT (n : Nat) : Nat := (0x3820 + n) * 256 + 7

/-! ### SEQ_GROUP (0x3830) -/

abbrev SEQ_GROUP.MEMBERS (n i : Nat) : Nat := (0x3830 + n) * 256 + 1 + i
abbrev SEQ_GROUP.DISCHARGE_LEVEL (n : Nat) : Nat := (0x3830 + n) * 256 + 9
abbrev SEQ_GROUP.DISCHARGE_TIMEOUT (n : Nat) : Nat := (0x3830 + n) * 256 + 10
abbrev SEQ_GROUP.MEMBER_COUNT (n : Nat) : Nat := (0x3830 + n) * 256 + 11
abbrev SEQ_GROUP.GROUP_GOOD (n : Nat) : Nat := (0x3830 + n) * 256 + 12
abbrev SEQ_GROUP.NOT_DISCHARGED (n : Nat) : Nat := (0x3830 + n) * 256 + 13

/-! ### CASTLING_PAIR (0x3870) -/

abbrev CASTLING_PAIR.CHANNEL_A (n : Nat) : Nat := (0x3870 + n) * 256 + 1
abbrev CASTLING_PAIR.CHANNEL_B (n : Nat) : Nat := (0x3870 + n) * 256 + 2
abbrev CASTLING_PAIR.OVERLAP (n : Nat) : Nat := (0x3870 + n) * 256 + 3
abbrev CASTLING_PAIR.SWAP_TIMEOUT (n : Nat) : Nat := (0x3870 + n) * 256 + 4
abbrev CASTLING_PAIR.SWAP_REQUEST (n : Nat) : Nat := (0x3870 + n) * 256 + 5
abbrev CASTLING_PAIR.ACTIVE (n : Nat) : Nat := (0x3870 + n) * 256 + 6
abbrev CASTLING_PAIR.SWAP_STATE (n : Nat) : Nat := (0x3870 + n) * 256 + 7
abbrev CASTLING_PAIR.SWAP_RESULT (n : Nat) : Nat := (0x3870 + n) * 256 + 8
abbrev CASTLING_PAIR.SWAP_COUNT (n : Nat) : Nat := (0x3870 + n) * 256 + 9

/-! ### OPENING_PLAN (0x3900) -/

abbrev OPENING_PLAN.STEP_COUNT : Nat := 0x390001
abbrev OPENING_PLAN.START : Nat := 0x390002
abbrev OPENING_PLAN.ABORT : Nat := 0x390003
abbrev OPENING_PLAN.RESOLVE : Nat := 0x390004
abbrev OPENING_PLAN.PLAN_STATE : Nat := 0x390005
abbrev OPENING_PLAN.RESULT : Nat := 0x390006
abbrev OPENING_PLAN.START_FRAME : Nat := 0x390007
abbrev OPENING_PLAN.END_FRAME : Nat := 0x390008
abbrev OPENING_PLAN.STALEMATES : Nat := 0x390009
abbrev OPENING_PLAN.SKIPPED_STEPS : Nat := 0x39000A
abbrev OPENING_PLAN.RUNS : Nat := 0x39000B

/-! ### OPENING_STEPS (0x3901) -/

abbrev OPENING_STEPS.STEP (i : Nat) : Nat := 0x390100 + 1 + i

/-! ### OPENING_STEP_STATE (0x3902) -/

abbrev OPENING_STEP_STATE.STATE (i : Nat) : Nat := 0x390200 + 1 + i

/-! ### ENDGAME_PLAN (0x3908) -/

abbrev ENDGAME_PLAN.STEP_COUNT : Nat := 0x390801
abbrev ENDGAME_PLAN.START : Nat := 0x390802
abbrev ENDGAME_PLAN.ABORT : Nat := 0x390803
abbrev ENDGAME_PLAN.RESOLVE : Nat := 0x390804
abbrev ENDGAME_PLAN.PLAN_STATE : Nat := 0x390805
abbrev ENDGAME_PLAN.RESULT : Nat := 0x390806
abbrev ENDGAME_PLAN.START_FRAME : Nat := 0x390807
abbrev ENDGAME_PLAN.END_FRAME : Nat := 0x390808
abbrev ENDGAME_PLAN.STALEMATES : Nat := 0x390809
abbrev ENDGAME_PLAN.SKIPPED_STEPS : Nat := 0x39080A
abbrev ENDGAME_PLAN.RUNS : Nat := 0x39080B
abbrev ENDGAME_PLAN.TRIGGER : Nat := 0x39080C
abbrev ENDGAME_PLAN.TRIGGER_DELAY : Nat := 0x39080D
abbrev ENDGAME_PLAN.END_ACTION : Nat := 0x39080E

/-! ### ENDGAME_STEPS (0x3909) -/

abbrev ENDGAME_STEPS.STEP (i : Nat) : Nat := 0x390900 + 1 + i

/-! ### ENDGAME_STEP_STATE (0x390A) -/

abbrev ENDGAME_STEP_STATE.STATE (i : Nat) : Nat := 0x390A00 + 1 + i

/-! ### RESET_OUTPUT (0x3A00) -/

abbrev RESET_OUTPUT.SOURCE_KIND (n : Nat) : Nat := (0x3A00 + n) * 256 + 1
abbrev RESET_OUTPUT.SOURCE_INDEX (n : Nat) : Nat := (0x3A00 + n) * 256 + 2
abbrev RESET_OUTPUT.STRETCH (n : Nat) : Nat := (0x3A00 + n) * 256 + 3
abbrev RESET_OUTPUT.FORCE (n : Nat) : Nat := (0x3A00 + n) * 256 + 4
abbrev RESET_OUTPUT.KEEPER_REPORT (n : Nat) : Nat := (0x3A00 + n) * 256 + 5
abbrev RESET_OUTPUT.OUTPUT (n : Nat) : Nat := (0x3A00 + n) * 256 + 6
abbrev RESET_OUTPUT.ASSERT_COUNT (n : Nat) : Nat := (0x3A00 + n) * 256 + 7
abbrev RESET_OUTPUT.LAST_CHANGE_STAMP (n : Nat) : Nat := (0x3A00 + n) * 256 + 8

/-! ### RING (0x4000) -/

abbrev RING.CAPACITY (n : Nat) : Nat := (0x4000 + n) * 256 + 1
abbrev RING.FILTER_ON (n : Nat) : Nat := (0x4000 + n) * 256 + 2
abbrev RING.SITE_MASK (n : Nat) : Nat := (0x4000 + n) * 256 + 3
abbrev RING.SITE_MATCH (n : Nat) : Nat := (0x4000 + n) * 256 + 4
abbrev RING.KIND_MASK (n : Nat) : Nat := (0x4000 + n) * 256 + 5
abbrev RING.KIND_MATCH (n : Nat) : Nat := (0x4000 + n) * 256 + 6
abbrev RING.MIN_CLASS (n : Nat) : Nat := (0x4000 + n) * 256 + 7
abbrev RING.TYPES (n : Nat) : Nat := (0x4000 + n) * 256 + 8
abbrev RING.TARGETS (n : Nat) : Nat := (0x4000 + n) * 256 + 9
abbrev RING.COUNT (n : Nat) : Nat := (0x4000 + n) * 256 + 10
abbrev RING.SEQUENCE (n : Nat) : Nat := (0x4000 + n) * 256 + 11
abbrev RING.DROPS (n : Nat) : Nat := (0x4000 + n) * 256 + 12
abbrev RING.RECORDS (n : Nat) : Nat := (0x4000 + n) * 256 + 13
abbrev RING.FLUSH (n : Nat) : Nat := (0x4000 + n) * 256 + 14
abbrev RING.HIGH_WATER (n : Nat) : Nat := (0x4000 + n) * 256 + 15

end Sys2Proof.Machine
end

