-- ==== Sys2Proof/Machine/Internal.lean ====
section
/-!
DEFINITION. The internal registers: state that the spec gives the machine and that no object shows, or shows only
through a computed view. Each has a family number f; instance i of it lies under key internal f i. A register whose
accepted value and value in force differ for a while (R35) has its value in force under inForce of its key.
-/
namespace Sys2Proof.Machine

/-- The key of the value in force of a class I object: the register itself holds the value last accepted (R35). -/
abbrev inForce (k : Nat) : Nat := k + 1099511627776

/-- The key of instance i of internal register f. -/
abbrev internal (f i : Nat) : Nat := 562949953421567 + 1048576 * i + 256 * f

/-! ### Time -/

/-- The time of the last frame boundary processed (R24). -/
abbrev LAST_BOUNDARY : Nat := internal 1 0

/-- What the count of tick and era is ahead of the time, in microseconds (R330). -/
abbrev TICK_OFFSET : Nat := internal 2 0

/-- The same of the copy of the tick on channel die d, which each valid downlink frame corrects (R25, R28). -/
abbrev DIE_OFFSET (d : Nat) : Nat := internal 431 d

/-! ### Channels: the cell and its gate (chapter 4) -/

/-- The state of the channel cell of CHn on its die, coded as R88: what STATE reads unless the channel stands (R113). -/
abbrev CELL (n : Nat) : Nat := internal 3 n

/-- What the gate driver of CHn does (R88): 0 static hold, 1 source stage, 2 source stage saturated, 3 limit loop, 4 emergency pull-down, 5 sink stage, 6 source stage paused, 7 floating (R89). -/
abbrev GATE (n : Nat) : Nat := internal 4 n

/-- The state latch of an anchored channel (R118, R119): 1 = on. -/
abbrev LATCH (n : Nat) : Nat := internal 5 n

/-- The bit of an anchored latch that records a hard-short pull-down during a logic outage (R118). -/
abbrev LATCH_PULLED (n : Nat) : Nat := internal 6 n

/-- Why CHn waits for admission (R140): 0 = it does not, 1 = a request from OFF, 2 = a retry, 3 = a castling swap. -/
abbrev ADMIT_KIND (n : Nat) : Nat := internal 7 n

/-- The frame of the boundary where the request of CHn entered its queue (R140). -/
abbrev ADMIT_SINCE (n : Nat) : Nat := internal 8 n

/-- The frame at whose start the admitted ramp of CHn begins (R142); 0 = none. -/
abbrev START_AT (n : Nat) : Nat := internal 9 n

/-- Whether that ramp runs at one quarter of GATE_SOURCE (R142). -/
abbrev START_GENTLE (n : Nat) : Nat := internal 10 n

/-- Whether CHn holds an admission share (R141). -/
abbrev SHARE_HELD (n : Nat) : Nat := internal 11 n

/-- The peak of that share, 0.1 mA (R141). -/
abbrev SHARE_PEAK (n : Nat) : Nat := internal 12 n

/-- The time at which that share ends (R141). -/
abbrev SHARE_END (n : Nat) : Nat := internal 13 n

/-- The time at which the last ramp of CHn started (R94). -/
abbrev RAMP_START (n : Nat) : Nat := internal 14 n

/-- The time until which the hard-short comparator of CHn is blanked (R123). -/
abbrev BLANK_UNTIL (n : Nat) : Nat := internal 15 n

/-- The cell state from which CHn entered LIMIT (R126). -/
abbrev LIMIT_FROM (n : Nat) : Nat := internal 16 n

/-- Whether a limit episode of CHn is open (R127). -/
abbrev LIMIT_EPISODE (n : Nat) : Nat := internal 17 n

/-- The time of the last entry of CHn to LIMIT (R127). -/
abbrev LIMIT_SINCE (n : Nat) : Nat := internal 18 n

/-- Time spent in LIMIT in the open episode before that entry, in microseconds (R127). -/
abbrev LIMIT_SPENT (n : Nat) : Nat := internal 19 n

/-- The time of the last exit of CHn from LIMIT (R127). -/
abbrev LIMIT_LEFT (n : Nat) : Nat := internal 20 n

/-- The frame of the last trip of CHn (R135). -/
abbrev TRIP_FRAME (n : Nat) : Nat := internal 21 n

/-- The cell state in which CHn tripped. -/
abbrev TRIP_STATE (n : Nat) : Nat := internal 22 n

/-- The time at which the retry wait of CHn ends (R136). -/
abbrev WAIT_END (n : Nat) : Nat := internal 23 n

/-- The time since which CHn has been in ON or PWM (R137). -/
abbrev RUN_SINCE (n : Nat) : Nat := internal 24 n

/-- Time in ON or PWM without a trip before that, in microseconds (R137). -/
abbrev RUN_SPENT (n : Nat) : Nat := internal 25 n

/-- A change of CHn that waits for an edge (R95): 0 none, 1 = to ON, 2 = to PWM. -/
abbrev PEND (n : Nat) : Nat := internal 26 n

/-- The phase instant at which the present PWM period of CHn began (R107). -/
abbrev PWM_AT (n : Nat) : Nat := internal 27 n

/-- The next phase instant of CHn (R107, R108). -/
abbrev PWM_NEXT (n : Nat) : Nat := internal 28 n

/-- The planned off edge of the present period, in SARCLK periods of 6.25 ns (R106). -/
abbrev PWM_OFF (n : Nat) : Nat := internal 29 n

/-- Whether the gate of CHn is up in the present on-time (R106). -/
abbrev PWM_HIGH (n : Nat) : Nat := internal 30 n

/-- Whether the rising edge of the present period is held by a pump or bus pause (R106). -/
abbrev PWM_HELD (n : Nat) : Nat := internal 31 n

/-- PWM periods of CHn completed since it entered PWM (R103). -/
abbrev PWM_PERIODS (n : Nat) : Nat := internal 32 n

/-- Sum of squared current samples of the PWM period in progress (R103). -/
abbrev PWM_SQ (n : Nat) : Nat := internal 33 n

/-- Samples in that sum. -/
abbrev PWM_CNT (n : Nat) : Nat := internal 34 n

/-- RMS of the last complete PWM period (R103), 0.1 mA. -/
abbrev PWM_RMS (n : Nat) : Nat := internal 35 n

/-- The time at which the lamp envelope of CHn started (R146). -/
abbrev LAMP_AT (n : Nat) : Nat := internal 36 n

/-- Consecutive published frames or PWM periods below the open fraction (R148). -/
abbrev LAMP_LOW (n : Nat) : Nat := internal 37 n

/-- Whether OPEN_LAMP has been raised in this on-period (R148). -/
abbrev LAMP_TOLD (n : Nat) : Nat := internal 38 n

/-- First pole of the wire model of CHn, in 10^-15 K (R128). -/
abbrev WIRE1 (n : Nat) : Nat := internal 39 n

/-- Second pole of the wire model (R128). -/
abbrev WIRE2 (n : Nat) : Nat := internal 40 n

/-- The rise that the engine computed last, in 10^-15 K, its rounding included (R128). -/
abbrev WIRE_NOW (n : Nat) : Nat := internal 41 n

/-- The T_ref that the wire model used last, 0.01 degC (R130, R133). -/
abbrev WIRE_REF (n : Nat) : Nat := internal 42 n

/-- First pole of the FET model of CHn, in 10^-15 K (R131). -/
abbrev FET1 (n : Nat) : Nat := internal 43 n

/-- Second pole of the FET model (R131). -/
abbrev FET2 (n : Nat) : Nat := internal 44 n

/-- The junction temperature that the engine computed last, in 10^-15 K, its rounding included (R131). -/
abbrev FET_NOW (n : Nat) : Nat := internal 45 n

/-- The T_ref that the FET model used last, 0.01 degC (R133). -/
abbrev FET_REF (n : Nat) : Nat := internal 46 n

/-- STANDING_GATE of CHn at its entry to standing (R115). -/
abbrev STAND_ENTRY (n : Nat) : Nat := internal 47 n

/-- Protection events of CHn while standing (R115). -/
abbrev STAND_EVENTS (n : Nat) : Nat := internal 48 n

/-- The time of the last PWM rising edge of CHn (R106, R168). -/
abbrev RISE_AT (n : Nat) : Nat := internal 49 n

/-- The window flags of CHn in the layout of WINDOW_STATUS, which shows them in mode 1 only (R169, R170). -/
abbrev WIN (n : Nat) : Nat := internal 50 n

/-- Filter count c of CHn (R169): 0 below UV_LEVEL, 1 below the upper hysteresis of it, 2 at or above that, 3 above OV_LEVEL, 4 above its lower hysteresis, 5 at or below that. -/
abbrev WIN_COUNT (n c : Nat) : Nat := internal 51 (8 * n + c)

/-- The eligible samples of the frame of CHn (R168): 0 their count for the upper threshold, 1 their sum, 2 and 3 the same for the lower. -/
abbrev WIN_ACC (n c : Nat) : Nat := internal 52 (4 * n + c)

/-- The value of CHn judged last, 0.1 mV. -/
abbrev WIN_LAST (n : Nat) : Nat := internal 53 n

/-- The sequencing group whose discharge set NOT_DISCHARGED of CHn, plus one (R164). -/
abbrev ND_GROUP (n : Nat) : Nat := internal 54 n

/-- Trips of CHn in the record store (R181). -/
abbrev LIFE_STORED (n : Nat) : Nat := internal 55 n

/-- Trips of CHn since the last write to the record store (R181). -/
abbrev LIFE_NEW (n : Nat) : Nat := internal 56 n

/-- CHn waits for its turn to ramp under SAFE_ON (R114). -/
abbrev SAFE_WAIT (n : Nat) : Nat := internal 57 n

/-- How long past its end the retry wait of CHn was stretched, in microseconds (R136). -/
abbrev RETRY_STRETCH (n : Nat) : Nat := internal 58 n

/-- A request of CHn is stored during a thermal shutdown (R424). -/
abbrev STORED_WAIT (n : Nat) : Nat := internal 59 n

/-! ### Channels: measurement (chapter 4) -/

/-- Current sample r of the frame in progress, 0.1 mA (R97, R101). -/
abbrev SAMPLE_I (n r : Nat) : Nat := internal 60 (8 * n + r)

/-- Load-voltage sample r of the frame in progress, 0.1 mV (R97). -/
abbrev SAMPLE_V (n r : Nat) : Nat := internal 61 (8 * n + r)

/-- Sum of the current samples of a frame, at its number modulo 50 (R103). -/
abbrev SUM_I (n j : Nat) : Nat := internal 62 (64 * n + j)

/-- Sum of the load-voltage samples of a frame, at its number modulo 50 (R103). -/
abbrev SUM_V (n j : Nat) : Nat := internal 63 (64 * n + j)

/-- Sum of the squared current samples of a frame, at its number modulo 50 (R103). -/
abbrev SUM_SQ (n j : Nat) : Nat := internal 64 (64 * n + j)

/-- Current samples in that sum: those of rounds that converted them, with a shunt value set (R102, R422). -/
abbrev SUM_CNT (n j : Nat) : Nat := internal 65 (64 * n + j)

/-- Load-voltage samples of the frame. -/
abbrev SUM_CNTV (n j : Nat) : Nat := internal 66 (64 * n + j)

/-- The rounds of the frame in progress that skipped the slots of CHn, bit r for round r (R422). -/
abbrev SLOT_SKIPPED (n : Nat) : Nat := internal 67 n

/-- Frames measured since the die's logic last reset, held at 50 (R103). -/
abbrev FRAMES_SEEN (n : Nat) : Nat := internal 68 n

/-- Field f of the frame summary of CHn that its die is sending (chapter 1, block allocation). -/
abbrev SUMMARY (n f : Nat) : Nat := internal 69 (16 * n + f)

/-- Field f of the frame summary of CHn that the control die has received (R27). -/
abbrev RECEIVED (n f : Nat) : Nat := internal 70 (16 * n + f)

/-- A current sample of the frame in progress was at full scale (R104). -/
abbrev OVER_NOW (n : Nat) : Nat := internal 71 n

/-- The time after the last overrange frame, plus one; 0 = none (R104). -/
abbrev OVER_AT (n : Nat) : Nat := internal 72 n

/-- The time of the last accepted calibration of CHn, or of its die's last logic reset (CAL_AGE). -/
abbrev CAL_AT (n : Nat) : Nat := internal 73 n

/-- Gain coefficient of path p (0 current, 1 voltage) of channel or relief unit n, in 0.1 ppm from 1 (R99). -/
abbrev CAL_GAIN (n p : Nat) : Nat := internal 74 (2 * n + p)

/-- Offset coefficient of path p, nV at the path's input (R99). -/
abbrev CAL_OFFSET (n p : Nat) : Nat := internal 75 (2 * n + p)

/-- Whether the last calibration of path p lay outside the tolerance of R100. -/
abbrev CAL_DIFF (n p : Nat) : Nat := internal 76 (2 * n + p)

/-- The calibration position of bank k: 0 to 15 its channels, 16 the relief units (R99). -/
abbrev CAL_POS (k : Nat) : Nat := internal 77 k

/-- Rounds that bank k has measured in the frame in progress (R97). -/
abbrev ROUND_NO (k : Nat) : Nat := internal 78 k

/-- The latest VBUS sample of bank k, 0.1 mV (R97). -/
abbrev VBUS_LAST (k : Nat) : Nat := internal 79 k

/-- Sum of the VBUS samples of a frame of bank k, at its number modulo 50. -/
abbrev VBUS_SUM (k j : Nat) : Nat := internal 80 (64 * k + j)

/-- Samples in that sum. -/
abbrev VBUS_CNT (k j : Nat) : Nat := internal 81 (64 * k + j)

/-- Sum of the VCP - VBUS samples of a frame of bank k, at its number modulo 50. -/
abbrev HEAD_SUM (k j : Nat) : Nat := internal 82 (64 * k + j)

/-- Sum of the BSWB (0), BSWN (1) or ASV (2) samples of a frame, at its number modulo 50 (R221). -/
abbrev BSW_SUM (w j : Nat) : Nat := internal 83 (64 * w + j)

/-- Samples in those sums. -/
abbrev BSW_CNT (j : Nat) : Nat := internal 84 j

/-- The time at which the present calibration position of bank k began (R99). -/
abbrev CAL_POS_AT (k : Nat) : Nat := internal 85 k

/-- Whether the calibration rotation of bank k is paused by throttling (R422). -/
abbrev CAL_PAUSED (k : Nat) : Nat := internal 86 k

/-- The frame from which the capture of die d fills (R110). -/
abbrev CAP_FROM (d : Nat) : Nat := internal 87 d

/-- A hard-short, limit-entry or model-trip detection of the channel of signal 1 since arming (R110, mode 1). -/
abbrev CAP_SEEN (d : Nat) : Nat := internal 88 d

/-- Byte string: the samples of capture signal i + 1 of die d, oldest first (R110). -/
abbrev CAP_RING (d i : Nat) : Nat := internal 89 (8 * d + i)

/-- The latest VCP - VBUS of bank k, 0.1 mV. -/
abbrev HEAD_LAST (k : Nat) : Nat := internal 90 k

/-- The time at which the pump of bank k last started (R91). -/
abbrev PUMP_START (k : Nat) : Nat := internal 91 k

/-- The time at which the pump of bank k stops (R91); 0 = it does not. -/
abbrev PUMP_STOP_AT (k : Nat) : Nat := internal 92 k

/-! ### Channel dies and links (chapter 1) -/

/-- Whether the logic domain of die d is off (R118). -/
abbrev LOGIC_OFF (d : Nat) : Nat := internal 93 d

/-- The time at which it failed (R118). -/
abbrev LOGIC_OFF_AT (d : Nat) : Nat := internal 94 d

/-- The time at which the last valid downlink frame of die d ended (R16). -/
abbrev LAST_VALID (d : Nat) : Nat := internal 95 d

/-- Consecutive invalid uplink frames of die d (R16). -/
abbrev BAD_FRAMES (d : Nat) : Nat := internal 96 d

/-- Triggers of standing that met die d while it stood (R113). -/
abbrev STAND_TRIGGERS (d : Nat) : Nat := internal 97 d

/-- Die d has stood for want of valid frames since the last valid one (R16). -/
abbrev LOSS_STOOD (d : Nat) : Nat := internal 98 d

/-- The standing cause that a STAND block brings at the next round boundary, 0 = none (R113). -/
abbrev STAND_DUE (d : Nat) : Nat := internal 99 d

/-- Whether DIE_REF_FALLBACK is still to be raised for die d (R23). -/
abbrev REF_TOLD (d : Nat) : Nat := internal 100 d

/-! ### Castling (chapter 5) -/

/-- The incoming channel of the swap of pair p in progress, plus one (R151). -/
abbrev SWAP_IN (p : Nat) : Nat := internal 101 p

/-- The time of the swap's origin (R152). -/
abbrev SWAP_AT (p : Nat) : Nat := internal 102 p

/-- The end of the round in which the incoming channel met the ON criterion (R152). -/
abbrev SWAP_ON_AT (p : Nat) : Nat := internal 103 p

/-- The outgoing channel of the swap of pair p in progress, plus one; a swap keeps its channels whatever the pair's objects become (R79, R152). -/
abbrev SWAP_OUT (p : Nat) : Nat := internal 104 p

/-- The OVERLAP that the swap of pair p took as its ON criterion was met (R152). -/
abbrev SWAP_OVER (p : Nat) : Nat := internal 105 p

/-- SWAP_RESULT that completion takes: 7 once the outgoing channel was off (R153). -/
abbrev SWAP_SIDE (p : Nat) : Nat := internal 106 p

/-! ### Budget groups (chapter 5) -/

/-- Whether BUDGET_EXCEEDED has been raised in this episode (R145). -/
abbrev BUDGET_OVER (g : Nat) : Nat := internal 107 g

/-! ### Reset outputs (chapter 6) -/

/-- The time since which the source of RSOr has been good, plus one; 0 = it is not (R176). -/
abbrev RSO_GOOD_SINCE (r : Nat) : Nat := internal 108 r

/-- The time at which FORCE = 0 last took effect (R176). -/
abbrev RSO_CLEAR_AT (r : Nat) : Nat := internal 109 r

/-- KEEPER_REPORT of RSOr as copied into the retained SRAM (R178). -/
abbrev RSO_KEEP (r : Nat) : Nat := internal 110 r

/-- The time of the last change of RSOr in a keeper hold, or of its start (R178). -/
abbrev RSO_TOGGLE_AT (r : Nat) : Nat := internal 111 r

/-! ### Plans (chapter 6); plan p is 0 for Opening, 1 for Endgame; instance 128 p + step -/

/-- The time at which a step became ready (R160). -/
abbrev STEP_READY_AT (j : Nat) : Nat := internal 112 j

/-- The time at which a step acted (R161). -/
abbrev STEP_ACT_AT (j : Nat) : Nat := internal 113 j

/-- The members of the snapshot of a step, bit n for CHn (R161). -/
abbrev STEP_SNAP (j : Nat) : Nat := internal 114 j

/-- The members that meet the done condition, bit n for CHn (R162). -/
abbrev STEP_MET (j : Nat) : Nat := internal 115 j

/-- What the stalemate timer of a step has run, in microseconds (R162). -/
abbrev STEP_SPENT (j : Nat) : Nat := internal 116 j

/-- The time of the last evaluation of a step. -/
abbrev STEP_SEEN_AT (j : Nat) : Nat := internal 117 j

/-- Whether the stalemate timer of a step runs since then (R162). -/
abbrev STEP_RUNS (j : Nat) : Nat := internal 118 j

/-- The time of the last evaluation at which a step made progress or ended, plus one (R162). -/
abbrev STEP_MOVED_AT (j : Nat) : Nat := internal 119 j

/-- A held step acts again at the next evaluation (R163). -/
abbrev STEP_AGAIN (j : Nat) : Nat := internal 120 j

/-- What started plan p last: 0 START, 1 to 8 a wake input. -/
abbrev PLAN_TRIGGER (p : Nat) : Nat := internal 121 p

/-- Wake input i has been active since the trigger was last taken (R167). -/
abbrev ENDGAME_ARMED (i : Nat) : Nat := internal 122 i

/-- The trigger was taken: Endgame starts at the next frame boundary (R167); the value is TRIGGER. -/
abbrev ENDGAME_DUE : Nat := internal 123 0

/-! ### Resets and the keeper (chapters 10 and 12) -/

/-- Whether the keeper holds the control die, and why: 1 after three failed openings (R322), 2 a lockout (R311). -/
abbrev KEEPER_HOLDING : Nat := internal 124 0

/-! ### Converters (chapter 7) -/

/-- The start of CVm in progress (R199): 0 = none, 1 = it measures its offsets, 2 = its first cycle begins 10 µs after the origin. -/
abbrev CONV_PHASE (m : Nat) : Nat := internal 125 m

/-- The origin of the start of CVm (R199), or of its restart. -/
abbrev CONV_T0 (m : Nat) : Nat := internal 126 m

/-- v0 of the start of CVm, 0.1 mV (R199). -/
abbrev CONV_V0 (m : Nat) : Nat := internal 127 m

/-- VOUT_SET at the start of the soft start of CVm, 0.1 mV: the slope is this over SOFT_START_TIME (R200). -/
abbrev CONV_SLOPE (m : Nat) : Nat := internal 128 m

/-- SOFT_START_TIME at the start of the soft start of CVm, µs (R200). -/
abbrev CONV_SST (m : Nat) : Nat := internal 129 m

/-- The time to which the reference of CVm has been moved (R200, R201). -/
abbrev CONV_REF_AT (m : Nat) : Nat := internal 130 m

/-- The time at which CVm entered RUN (R211). -/
abbrev CONV_RUN_AT (m : Nat) : Nat := internal 131 m

/-- Sum of the output samples since the last voltage update, sensed, nV (R194). -/
abbrev CONV_SUM (m : Nat) : Nat := internal 132 m

/-- Cycles since the last voltage update (R194). -/
abbrev CONV_CYCLES (m : Nat) : Nat := internal 133 m

/-- Cycles since the last sample of the fault ring. -/
abbrev CONV_CYCLE8 (m : Nat) : Nat := internal 134 m

/-- History of voltage errors e1 to e3 (R194). -/
abbrev CONV_E (m i : Nat) : Nat := internal 135 (4 * m + i)

/-- History of references y1 to y3 (R194). -/
abbrev CONV_Y (m i : Nat) : Nat := internal 136 (4 * m + i)

/-- Whether a peak comparator cut a pulse in the cycle in progress (R210). -/
abbrev CONV_CUT (m : Nat) : Nat := internal 137 m

/-- The lanes that cut since the last cycle not in limit, bit l for Ll (R210). -/
abbrev CONV_CUT_LANES (m : Nat) : Nat := internal 138 m

/-- limit_cycles of R210. -/
abbrev CONV_LIMIT (m : Nat) : Nat := internal 139 m

/-- resume_at of R210. -/
abbrev CONV_RESUME (m : Nat) : Nat := internal 140 m

/-- The time at which the truncation episode of CVm began (R205). -/
abbrev TRUNC_AT (m : Nat) : Nat := internal 141 m

/-- Episodes since the last TRUNCATION record (R207). -/
abbrev TRUNC_SINCE (m : Nat) : Nat := internal 142 m

/-- The longest of them, µs (R207). -/
abbrev TRUNC_LONGEST (m : Nat) : Nat := internal 143 m

/-- The time of the last TRUNCATION record, plus one; 0 = none (R207). -/
abbrev TRUNC_TOLD_AT (m : Nat) : Nat := internal 144 m

/-- Whether the charger or the assist port sets the reference and the clamps of CVm (R204). -/
abbrev OVR_ON (m : Nat) : Nat := internal 145 m

/-- The reference it sets, 0.1 mV. -/
abbrev OVR_REF (m : Nat) : Nat := internal 146 m

/-- The upper current clamp it sets, 0.1 mA. -/
abbrev OVR_MAX (m : Nat) : Nat := internal 147 m

/-- The lower current clamp it sets, 0.1 mA. -/
abbrev OVR_MIN (m : Nat) : Nat := internal 148 m

/-- The window flags of CVm in the layout of WINDOW_STATUS (R214). -/
abbrev CWIN (m : Nat) : Nat := internal 149 m

/-- Byte string: the samples of the last-fault ring of CVm, oldest first (R215). -/
abbrev CONV_RING (m : Nat) : Nat := internal 150 m

/-- Byte string: the record of CVm being written (R215). -/
abbrev CONV_FROZEN (m : Nat) : Nat := internal 151 m

/-- CAUSE of the record of CVm being written; 0 = none (R215). -/
abbrev CONV_WRITING (m : Nat) : Nat := internal 152 m

/-- Records of CVm written since manufacture (R215). -/
abbrev CONV_LIFE (m : Nat) : Nat := internal 153 m

/-- Sum of the output samples of a frame, sensed, nV, at its number modulo 50 (R192). -/
abbrev CONV_VSUM (m j : Nat) : Nat := internal 154 (64 * m + j)

/-- Samples in that sum. -/
abbrev CONV_VCNT (m j : Nat) : Nat := internal 155 (64 * m + j)

/-- History of current errors ei1, ei2 of lane l (R195). -/
abbrev LANE_E (l i : Nat) : Nat := internal 156 (4 * l + i)

/-- History of duties u1, u2 of lane l (R195). -/
abbrev LANE_U (l i : Nat) : Nat := internal 157 (4 * l + i)

/-- u that the period after the present one of lane l takes (R197). -/
abbrev LANE_NEXT (l : Nat) : Nat := internal 158 l

/-- Edges of the present period of lane l in steps (R187): PWMH rises and falls, PWML rises and falls; -1 where the output
stays low, as a pulse is not emitted (R188), and -2 where it is high-impedance (R184). -/
abbrev LANE_EDGE (l i : Nat) : Nat := internal 159 (4 * l + i)

/-- The current of the last period of lane l, 0.1 mA (R191). -/
abbrev LANE_I (l : Nat) : Nat := internal 160 l

/-- Sum of the currents of the periods of a frame, at its number modulo 50. -/
abbrev LANE_ISUM (l j : Nat) : Nat := internal 161 (64 * l + j)

/-- Periods in that sum. -/
abbrev LANE_ICNT (l j : Nat) : Nat := internal 162 (64 * l + j)

/-- Sum of I_REF over those periods (R198). -/
abbrev LANE_RSUM (l j : Nat) : Nat := internal 163 (64 * l + j)

/-- Consecutive boundaries at which lane l lay outside SHARE_TOLERANCE, held at 500 (R198). -/
abbrev SHARE_OUT (l : Nat) : Nat := internal 164 l

/-- Consecutive boundaries at which it lay within (R198). -/
abbrev SHARE_IN (l : Nat) : Nat := internal 165 l

/-- A class F2 reaction has parked lane l until its converter next starts from OFF (R309). -/
abbrev LANE_PARK (l : Nat) : Nat := internal 166 l

/-- Whether an imbalance episode of lane l is open (R198). -/
abbrev SHARE_SET (l : Nat) : Nat := internal 167 l

/-! ### The device and its backup domain (chapters 10, 11 and 20) -/

/-- What the control die does: 0 = held in reset or by the keeper, 1 = running, 2 = core domain off in Park, 3 = unpowered, VBAT absent (R262, R294, R238). -/
abbrev DEV_STATE : Nat := internal 168 0

/-- The time at which the reset in progress started (R265). -/
abbrev RESET_START_AT : Nat := internal 169 0

/-- The time before which it is not released (R265). -/
abbrev RESET_UNTIL : Nat := internal 170 0

/-- The time since which VBAT is below its falling threshold, plus one; 0 = it is not (R311). -/
abbrev VBAT_GONE_AT : Nat := internal 171 0

/-- The reset in progress, or the last, is a full one (R262). -/
abbrev RESET_FULL : Nat := internal 172 0

/-- The time until which RSTIN_N stays low (R264). -/
abbrev RSTIN_UNTIL : Nat := internal 173 0

/-- The time at which VBAT rose through its rising threshold, plus one; 0 = no cold start is in progress (R268). -/
abbrev VBAT_ROSE_AT : Nat := internal 174 0

/-- The backup domain has started from no supply since the last release of the control die (RESET_DURATION). -/
abbrev BACKUP_ANEW : Nat := internal 175 0

/-- The time of the last HR_CURRENT_LIMIT record of HRw, plus one (R285). -/
abbrev HR_TOLD (w : Nat) : Nat := internal 176 w

/-- V18 is below its threshold (R286). -/
abbrev V18_LOW : Nat := internal 177 0

/-- A HOUSE_STOP (1) or LOCKOUT (2) record built from LAST_STOP is due at the next opening (R310, R311). -/
abbrev STOP_MARK : Nat := internal 178 0

/-- A KEEPER_HOLD record is due at the next opening (R323). -/
abbrev KEEPER_TOLD : Nat := internal 179 0

/-- The keeper has ended a hold: the release goes on in spite of the count (R323). -/
abbrev KEEPER_PASS : Nat := internal 180 0

/-- The time at which the hold in progress began (R324). -/
abbrev KEEPER_AT : Nat := internal 181 0

/-- The time of the last report frame of the hold, or of its start (R324). -/
abbrev KEEPER_LAST : Nat := internal 182 0

/-- The step of the opening in progress at which the control die hangs, 0 for none (R321). -/
abbrev HUNG : Nat := internal 183 0

/-- The endpoint of TN00 has not been brought up (R278). -/
abbrev ARB_DOWN : Nat := internal 184 0

/-- The channels of BK00 that the profile of this opening names, bit i for CHi (R272). -/
abbrev PROFILE_NAMED : Nat := internal 185 0

/-- Those that run by fallback (R277). -/
abbrev PROFILE_FB : Nat := internal 186 0

/-- Those skipped in this opening. -/
abbrev PROFILE_SKIPS : Nat := internal 187 0

/-- Those whose REQUEST has been set, or that need none. -/
abbrev PROFILE_DONE : Nat := internal 188 0

/-- Those judged: ON in their time, failed or skipped. -/
abbrev PROFILE_JUDGED : Nat := internal 189 0

/-- Those that failed. -/
abbrev PROFILE_FAILED : Nat := internal 190 0

/-- Kept latches that the profile does not name, still to be turned off (R273). -/
abbrev PROFILE_OFF : Nat := internal 191 0

/-- The step at which the opening stopped, 0 for none (R278). -/
abbrev STOPPED_STEP : Nat := internal 192 0

/-- The time of the last bring-up of the endpoint of TN00 (R278). -/
abbrev ARB_AT : Nat := internal 193 0

/-- The origin of the cold start (R268), from which step 7 is timed. -/
abbrev PROFILE_T0 : Nat := internal 194 0

/-- The time until which RSTOUT_N stays low at least (R265). -/
abbrev RSTOUT_UNTIL : Nat := internal 195 0

/-- Whether RSTOUT_N is released. -/
abbrev RSTOUT_HIGH : Nat := internal 196 0

/-- The real-time clock at RTC_FROM in 1/32,768 s (R442). -/
abbrev RTC_BASE : Nat := internal 197 0

/-- The time from which the clock counts on. -/
abbrev RTC_FROM : Nat := internal 198 0

/-- The monotonic count at MONO_FROM in periods of 32.768 kHz (R330). -/
abbrev MONO_BASE : Nat := internal 199 0

/-- The time from which it counts on. -/
abbrev MONO_FROM : Nat := internal 200 0

/-- The 32.768 kHz oscillator stands still (R445). -/
abbrev OSC_OFF : Nat := internal 201 0

/-- The backup domain draws from VBK (R438). -/
abbrev ON_VBK : Nat := internal 202 0

/-- The last VBK that the domain judged, 0.1 mV (R440). -/
abbrev VBK_LAST : Nat := internal 203 0

/-- The interface into the backup domain is locked (R439). -/
abbrev BACKUP_LOCKED : Nat := internal 204 0

/-- The backup domain's copy of RTC_TRIM (R449). -/
abbrev BACK_TRIM : Nat := internal 205 0

/-- Its copy of ALARM_SECONDS. -/
abbrev BACK_ALARM : Nat := internal 206 0

/-- Its copy of ALARM_REPEAT. -/
abbrev BACK_REPEAT : Nat := internal 207 0

/-- Its copy of PON_SOURCES. -/
abbrev BACK_SOURCES : Nat := internal 208 0

/-- Its copy of WAKE_ENABLE (R302). -/
abbrev BACK_ENABLE : Nat := internal 209 0

/-- Its copy of WAKE_POLARITY. -/
abbrev BACK_POLARITY : Nat := internal 210 0

/-- Its copy of WAKE_SENSE. -/
abbrev BACK_SENSE : Nat := internal 211 0

/-- Its copy of WAKE_FILTER. -/
abbrev BACK_FILTER : Nat := internal 212 0

/-- Wake causes met since the device went to Park or Ship, layout as LAST_WAKE_CAUSE (R295, R296, R238). -/
abbrev WAKE_PENDING : Nat := internal 213 0

/-- Park entry: 0 none, 1 before the point of no return, 2 after it (R294). -/
abbrev PARK_STAGE : Nat := internal 214 0

/-- The frame of the point of no return (R294). -/
abbrev PARK_FRAME : Nat := internal 215 0

/-- Retained region 0: the stamp of the last frame boundary (R330). -/
abbrev RET_STAMP : Nat := internal 216 0

/-- Retained region 1: SOC_INTERNAL (R255). -/
abbrev RET_SOCI : Nat := internal 217 0

/-- Retained region 1: SOC. -/
abbrev RET_SOC : Nat := internal 218 0

/-- Retained region 1: the capacity in use, mAh. -/
abbrev RET_CAPACITY : Nat := internal 219 0

/-- Retained region 2: the newest journal entry (R279). -/
abbrev RET_ENTRY : Nat := internal 220 0

/-- Retained region 2: its ENTRY_TIME. -/
abbrev RET_ENTRY_TIME : Nat := internal 221 0

/-- Retained region 2: SKIP_MASK. -/
abbrev RET_SKIP : Nat := internal 222 0

/-- Retained region 2: PROFILE_SKIP. -/
abbrev RET_PROFILE_SKIP : Nat := internal 223 0

/-- Retained region 3: HOUSE_STOPS not yet copied to the record store. -/
abbrev RET_STOPS : Nat := internal 224 0

/-- Retained region 3: LOCKOUTS not yet copied. -/
abbrev RET_LOCKOUTS : Nat := internal 225 0

/-- Retained region 6: the stamps of the two latest cascades, plus one; 0 = none (R320). -/
abbrev RET_CASCADE (i : Nat) : Nat := internal 226 i

/-- Retained region 6: the cascade count. -/
abbrev RET_CASCADES : Nat := internal 227 0

/-- Retained region 7: KEEPER_RETRY_TIME as applied (R324). -/
abbrev RET_RETRY : Nat := internal 228 0

/-- Retained region 7: KEEPER_CAN_PORT. -/
abbrev RET_PORT : Nat := internal 229 0

/-- Retained region 7: KEEPER_COB_ID. -/
abbrev RET_COB : Nat := internal 230 0

/-- Retained region 7: NOMINAL_RATE of that port. -/
abbrev RET_RATE : Nat := internal 231 0

/-- Retained region 7: NOMINAL_SAMPLE of that port. -/
abbrev RET_SAMPLE : Nat := internal 232 0

/-- Retained region 8: the seconds at the last Park or Ship entry (R450). -/
abbrev RET_ENTERED : Nat := internal 233 0

/-! ### Battery switch, button and ship (chapter 8) -/

/-- The trip mark beside the mode latch (R222). -/
abbrev SW_MARK : Nat := internal 234 0

/-- BSWB is absent and the switch driver unpowered (R222). -/
abbrev SW_UNPOWERED : Nat := internal 235 0

/-- The time since which MODE waits to close (R223). -/
abbrev SW_WAIT_AT : Nat := internal 236 0

/-- Whether CLOSE_DEFERRED has been raised in this wait (R223). -/
abbrev SW_TOLD : Nat := internal 237 0

/-- The time of the last gate turn-on of the switch (R224). -/
abbrev SW_ON_AT : Nat := internal 238 0

/-- A short trip has happened and no MODE write has landed since (R231). -/
abbrev SW_TRIPPED : Nat := internal 239 0

/-- The time at which BTN fell, plus one; 0 = BTN is high (R236). -/
abbrev BTN_FELL : Nat := internal 240 0

/-- The press in progress has become a long press (R236). -/
abbrev BTN_LONG : Nat := internal 241 0

/-- The time of the origin of the long press whose switch restore is due, plus one (R236). -/
abbrev LONG_AT : Nat := internal 242 0

/-- The time at which ship mode was armed (R237). -/
abbrev SHIP_AT : Nat := internal 243 0

/-- The device is in Ship (R238). -/
abbrev SHIP_IN : Nat := internal 244 0

/-! ### Charger (chapter 8) -/

/-- The time at which the phase of the charger began. -/
abbrev CH_PHASE_AT : Nat := internal 245 0

/-- The time at which its pulse or rest began (R232). -/
abbrev CH_STAGE_AT : Nat := internal 246 0

/-- t_prev of R233, ms. -/
abbrev CH_T_PREV : Nat := internal 247 0

/-- The time of the entry to QUALIFY (R232). -/
abbrev CH_QUALIFY_AT : Nat := internal 248 0

/-- The charge clock of R234, µs, at CH_CLOCK_AT. -/
abbrev CH_CLOCK : Nat := internal 249 0

/-- The time from which the charge clock runs on, plus one; 0 = it stands. -/
abbrev CH_CLOCK_AT : Nat := internal 250 0

/-- The time of the last rest voltage in HOLD (R232). -/
abbrev CH_HOLD_AT : Nat := internal 251 0

/-- A full-charge report waits for the estimator (R235). -/
abbrev CH_FULL : Nat := internal 252 0

/-- The voltage of the last valid rest before the pulse in progress (R257). -/
abbrev RS_V : Nat := internal 253 0

/-- The mean current of its last millisecond, 0.1 mA. -/
abbrev RS_I : Nat := internal 254 0

/-- Whether the pulse in progress follows a valid rest and has not been sampled (R257). -/
abbrev RS_OK : Nat := internal 255 0

/-! ### Assist session (chapter 8) -/

/-- The time at which the session started (R239). -/
abbrev AS_AT : Nat := internal 256 0

/-- The time at which its state began. -/
abbrev AS_STATE_AT : Nat := internal 257 0

/-- The ordinary result whose 10 ms run (R241); 0 = none. -/
abbrev AS_END : Nat := internal 258 0

/-- The time from which they run. -/
abbrev AS_END_AT : Nat := internal 259 0

/-- The assist switch is closed (R240). -/
abbrev AS_CLOSED : Nat := internal 260 0

/-- SESSION_TIME of the last session, s. -/
abbrev AS_TIME : Nat := internal 261 0

/-! ### Estimator (chapter 9) -/

/-- The remainder of the accumulator below 1 nC, over EST_DIV (R248). -/
abbrev EST_REM : Nat := internal 262 0

/-- The divisor of that remainder. -/
abbrev EST_DIV : Nat := internal 263 0

/-- Q+ of the second in progress, nC (R249). -/
abbrev EST_QP : Nat := internal 264 0

/-- Q- of the second in progress, nC. -/
abbrev EST_QM : Nat := internal 265 0

/-- Sum of the current samples of the second in progress, 0.1 mA. -/
abbrev EST_SUM : Nat := internal 266 0

/-- Samples in that sum. -/
abbrev EST_CNT : Nat := internal 267 0

/-- Sum of the current samples of the millisecond in progress. -/
abbrev EST_MS_SUM : Nat := internal 268 0

/-- Samples in that sum. -/
abbrev EST_MS_CNT : Nat := internal 269 0

/-- SOC_INTERNAL in units of 2^-16 of 0.01 % (R249). -/
abbrev EST_SOCI : Nat := internal 270 0

/-- SOC in the same unit (R254). -/
abbrev EST_SOC : Nat := internal 271 0

/-- The weighted count Q_E in units of 10^-4 nC (R249). -/
abbrev EST_QE : Nat := internal 272 0

/-- SOC_OCV of the anchor (R252). -/
abbrev EST_ANCHOR : Nat := internal 273 0

/-- Q_E of the anchor, in the same unit. -/
abbrev EST_ANCHOR_QE : Nat := internal 274 0

/-- The time since which the 1 s mean stays within the rest band, plus one (R250). -/
abbrev EST_REST_SINCE : Nat := internal 275 0

/-- The long rest of this episode has been taken (R250). -/
abbrev EST_REST_DONE : Nat := internal 276 0

/-- A charger rest voltage waits for the next update, plus one (R252). -/
abbrev EST_SHORT : Nat := internal 277 0

/-- A long rest voltage waits for the next update, plus one (R252). -/
abbrev EST_LONG : Nat := internal 278 0

/-- A sample of the second in progress was at full scale (R244). -/
abbrev EST_OVER : Nat := internal 279 0

/-- The time of the last BATTERY_OVERRANGE, plus one (R244). -/
abbrev EST_OVER_AT : Nat := internal 280 0

/-- The largest current magnitude in Park, 0.1 mA (R250). -/
abbrev EST_PARK_MAX : Nat := internal 281 0

/-- The time of the last update, plus one (R249). -/
abbrev EST_UPDATED : Nat := internal 282 0

/-- Whole seconds of the last Park stay that go to the bins (R260). -/
abbrev EST_PARK_S : Nat := internal 283 0

/-- The grid bin of the last second, plus one; 0 = unbinned (R260). -/
abbrev EST_BIN : Nat := internal 284 0

/-- The histogram bin of the last second, plus one; 0 = none (R260). -/
abbrev EST_IBIN : Nat := internal 285 0

/-! ### The lifetime battery record (chapter 9) -/

/-- REPLACED_STAMP (R260). -/
abbrev REC_REPLACED : Nat := internal 286 0

/-- CAPACITY_SAMPLES. -/
abbrev REC_CAP_N : Nat := internal 287 0

/-- RESISTANCE_SAMPLES. -/
abbrev REC_RES_N : Nat := internal 288 0

/-- T_MIN (R259). -/
abbrev REC_T_MIN : Nat := internal 289 0

/-- T_MAX. -/
abbrev REC_T_MAX : Nat := internal 290 0

/-- V_MIN. -/
abbrev REC_V_MIN : Nat := internal 291 0

/-- V_MAX. -/
abbrev REC_V_MAX : Nat := internal 292 0

/-- I_CHARGE_MAX. -/
abbrev REC_I_MAX : Nat := internal 293 0

/-- I_DISCHARGE_MAX. -/
abbrev REC_I_MIN : Nat := internal 294 0

/-- Lifetime charge in, nC (R248). -/
abbrev REC_IN : Nat := internal 295 0

/-- Lifetime charge out, nC. -/
abbrev REC_OUT : Nat := internal 296 0

/-- UNBINNED_TIME, s. -/
abbrev REC_UNBINNED : Nat := internal 297 0

/-- STATE_GRID bin 16 t + s, s. -/
abbrev REC_GRID (b : Nat) : Nat := internal 298 b

/-- CURRENT_HISTOGRAM bin b, s. -/
abbrev REC_HIST (b : Nat) : Nat := internal 299 b

/-! ### The record store (R258, R181, R215, R279, R311) -/

/-- Byte string: the battery record in copy i. -/
abbrev STORE_COPY (i : Nat) : Nat := internal 300 i

/-- SEQUENCE of copy i; 0 = never written. -/
abbrev STORE_SEQ (i : Nat) : Nat := internal 301 i

/-- The copy that the next write takes. -/
abbrev STORE_SIDE : Nat := internal 302 0

/-- A battery record write is in progress: its SEQUENCE. -/
abbrev STORE_BUSY : Nat := internal 303 0

/-- Powered time at the last periodic write (R258). -/
abbrev STORE_AT : Nat := internal 304 0

/-- ERA in the record store (R329). -/
abbrev STORE_ERA : Nat := internal 305 0

/-- HOUSE_STOPS in the record store (R311). -/
abbrev STORE_STOPS : Nat := internal 306 0

/-- LOCKOUTS in the record store. -/
abbrev STORE_LOCKOUTS : Nat := internal 307 0

/-- Step 5 was skipped: the record store is neither read nor written (R275). -/
abbrev STORE_OFF : Nat := internal 308 0

/-- A long press has brought about the loss of VBAT that is in progress (R236). -/
abbrev LONG_RESET : Nat := internal 309 0

/-- How long VBAT was below its threshold at its last loss, µs (R236). -/
abbrev VBAT_OUT : Nat := internal 310 0

/-! ### The event fabric (chapter 13) -/

/-- The target that ring q assigned last; 64 = none (R341). -/
abbrev RING_RR (q : Nat) : Nat := internal 311 q

/-- The stamp of the last fence placed in ring q, plus one (R347). -/
abbrev RING_FENCE (q : Nat) : Nat := internal 312 q

/-- Drops of the overflow episode of ring q (R337); 0 = none is open. -/
abbrev OVF_DROPS (q : Nat) : Nat := internal 313 q

/-- The stamp of the first record dropped in it. -/
abbrev OVF_FIRST (q : Nat) : Nat := internal 314 q

/-- The stamp of the last record dropped in it. -/
abbrev OVF_LAST (q : Nat) : Nat := internal 315 q

/-- Records made pending for TGg in its episode (R342). -/
abbrev TG_COUNT (g : Nat) : Nat := internal 316 g

/-- The time at which its episode began. -/
abbrev TG_BEGAN (g : Nat) : Nat := internal 317 g

/-- The IRQ ball of TGg is asserted low (R343). -/
abbrev TG_LOW (g : Nat) : Nat := internal 318 g

/-- The MSI-X vector of TGg is unmasked (R343). -/
abbrev MSIX_OPEN (g : Nat) : Nat := internal 319 g

/-- A message is held for that vector. -/
abbrev MSIX_HELD (g : Nat) : Nat := internal 320 g

/-- The era that ERA_ADVANCED has reported (R329). -/
abbrev ERA_TOLD : Nat := internal 321 0

/-! ### Watchdogs (chapter 19) -/

/-- SEED of WDt (R426). -/
abbrev WD_SEED (t : Nat) : Nat := internal 322 t

/-- The time at which the period or the adjournment of WDt began (R427, R433). -/
abbrev WD_AT (t : Nat) : Nat := internal 323 t

/-- The length of the adjournment of WDt, µs (R433). -/
abbrev WD_LEN (t : Nat) : Nat := internal 324 t

/-- Answers judged in the period in progress (R430). -/
abbrev WD_ANSWERS (t : Nat) : Nat := internal 325 t

/-- Whether the period has its valid answer. -/
abbrev WD_VALID (t : Nat) : Nat := internal 326 t

/-- Whether the period has failed (R430). -/
abbrev WD_FAILED (t : Nat) : Nat := internal 327 t

/-- Whether the closed half of the period has begun (R427). -/
abbrev WD_CLOSED (t : Nat) : Nat := internal 328 t

/-- LIFETIME_EXPIRIES of WDt as the record store holds it (R436). -/
abbrev WD_STORED (t : Nat) : Nat := internal 329 t

/-- Expiries since the last copy to the record store, in the retained SRAM (R436). -/
abbrev WD_GAIN (t : Nat) : Nat := internal 330 t

/-- WDX_LIFETIME as the record store holds it (R436). -/
abbrev WDX_STORED : Nat := internal 331 0

/-- Expiries of WDX since the last copy, in the retained SRAM (R436). -/
abbrev WDX_GAIN : Nat := internal 332 0

/-- The time of the last service of WDX (R434). -/
abbrev WDX_SERVED : Nat := internal 333 0

/-! ### Tenants, commits and digests (chapters 2 and 3) -/

/-- Kept own subindexes of CHn after a tenant reset (R81), bit j for subindex j: 0 CHANNEL_CONFIG, 1 CHANNEL_PROTECTION, 2 CHANNEL_SUPERVISION. -/
abbrev KEPT (n j : Nat) : Nat := internal 334 (4 * n + j)

/-- A fold to OFF of CHn waits for its swap to complete (R79). -/
abbrev FOLD_WAIT (n : Nat) : Nat := internal 335 n

/-- The value of the COMMIT of TNt in progress (R39). -/
abbrev CM_VALUE (t : Nat) : Nat := internal 336 t

/-- The boundary at which the wait of TNt for staging acknowledgements ends (R42). -/
abbrev CM_STAGE_END (t : Nat) : Nat := internal 337 t

/-- The order of the acceptance of the commit of TNt that waits for a SYNC count (R38). -/
abbrev CM_STAMP (t : Nat) : Nat := internal 338 t

/-- The counter of the last SYNC with one received on CAN port p since opening; -1 = none (R49). -/
abbrev SYNC_C (p : Nat) : Nat := internal 339 p

/-- The time of the last SYNC received on CAN port p. -/
abbrev SYNC_AT (p : Nat) : Nat := internal 340 p

/-- The last downlink frame of die d was not valid (R15). -/
abbrev DL_BAD (d : Nat) : Nat := internal 341 d

/-- An audit sweep runs (R62). -/
abbrev SW_RUNS : Nat := internal 342 0

/-- The time of its snapshot. -/
abbrev SW_AT : Nat := internal 343 0

/-- Its device digest. -/
abbrev SW_DEVICE : Nat := internal 344 0

/-- Its digest of TNt. -/
abbrev SW_TENANT (t : Nat) : Nat := internal 345 t

/-- Its expectation for CDd (R63). -/
abbrev SW_EXPECT (d : Nat) : Nat := internal 346 d

/-- The global generation at its snapshot. -/
abbrev SW_GLOBAL : Nat := internal 347 0

/-- The generation of TNt at its snapshot. -/
abbrev SW_GEN (t : Nat) : Nat := internal 348 t

/-- The digest of CDd as it has applied its objects. -/
abbrev SW_APPLIED (d : Nat) : Nat := internal 349 d

/-- The dies that the sweep takes in, bit d for CDd. -/
abbrev SW_DIES : Nat := internal 350 0

/-- The last completed sweep raised DRIFT (R456). -/
abbrev SW_DRIFT : Nat := internal 351 0

/-- The die re-check of CDd is due (R64): 1 = the resend of its configuration has yet to be acknowledged, 2 = it has been. -/
abbrev DRIFT_DUE (d : Nat) : Nat := internal 352 d

/-! ### Fault collector (chapter 12) -/

/-- Byte string: the times of the messages dropped in the last 10 ms (R307), 8 bytes each. -/
abbrev DROP_TIMES : Nat := internal 353 0

/-- The time of the last COLLECTOR_OVERRUN, plus one (R307). -/
abbrev OVERRUN_AT : Nat := internal 354 0

/-- A house stop runs: 1, or a lockout: 2 (R310, R311). -/
abbrev STOP_RUNS : Nat := internal 355 0

/-- The time of its origin. -/
abbrev STOP_AT : Nat := internal 356 0

/-! ### Security (chapter 21) -/

/-- SESSION_ID of the session of TNt (R459). -/
abbrev SESSION_ID (t : Nat) : Nat := internal 357 t

/-- Byte string: K_HD of the session of TNt. -/
abbrev KEY_HD (t : Nat) : Nat := internal 358 t

/-- Byte string: K_DH of the session of TNt. -/
abbrev KEY_DH (t : Nat) : Nat := internal 359 t

/-- The heartbeat of CDd has been missing for 3 ms in the present outage of its logic (R324). -/
abbrev HEART_LOST (d : Nat) : Nat := internal 360 d

/-! ### DMA (chapter 14) -/

/-- The stream whose descriptor the engine runs, plus one; 0 = none (R351). -/
abbrev DMA_BUSY : Nat := internal 361 0

/-- The stream that had the last turn (R351). -/
abbrev DMA_LAST : Nat := internal 362 0

/-- The descriptor being run. -/
abbrev DMA_DESC : Nat := internal 363 0

/-- The slots that it takes with its index table. -/
abbrev DMA_SLOTS : Nat := internal 364 0

/-- Words 0 to 2 of the descriptor being run, as the engine took them. -/
abbrev DMA_WORD (w : Nat) : Nat := internal 365 w

/-- ERROR found before any write of it; 0 = none (R357). -/
abbrev DMA_CHECK : Nat := internal 366 0

/-- Byte string: what it has read from its source. -/
abbrev DMA_DATA : Nat := internal 367 0

/-- COMPLETION_ADDRESS of its stream as the engine took it. -/
abbrev DMA_RECORD_AT : Nat := internal 368 0

/-- The PCIe link was lost during it (R357). -/
abbrev DMA_LOST : Nat := internal 369 0

/-- Why DSd is stopping: the cause of STREAM_STOPPED plus one (R351). -/
abbrev STREAM_CAUSE (d : Nat) : Nat := internal 370 d

/-- A periodic pass of DSd runs (R358). -/
abbrev PASS_RUNS (d : Nat) : Nat := internal 371 d

/-- The frame of the last boundary where a pass of DSd fell due, plus one. -/
abbrev PASS_AT (d : Nat) : Nat := internal 372 d

/-- A TAIL of periodic DSd that waits for its next pass, plus one (R358). -/
abbrev TAIL_DUE (d : Nat) : Nat := internal 373 d

/-- Pending host descriptor k was met by a reset of its function (R382). -/
abbrev DESC_DOOMED (k : Nat) : Nat := internal 374 k

/-! ### PCI Express (chapter 15) -/

/-- The maximum payload size that the host has set for function f, bytes. -/
abbrev PCIE_PAYLOAD (f : Nat) : Nat := internal 375 f

/-! ### CAN (chapter 15) -/

/-- The ports accept accesses: step 6 of the opening has ended (R268). -/
abbrev PORTS_READY : Nat := internal 376 0

/-- NMT state of the node of TNt (R365): 0 none, 1 Pre-operational, 2 Operational, 3 Stopped. -/
abbrev NMT_STATE (t : Nat) : Nat := internal 377 t

/-- A boot-up message is due when the tenant reset of TNt takes effect (R365). -/
abbrev NMT_BOOT (t : Nat) : Nat := internal 378 t

/-- The time from which the heartbeat interval of TNt runs (R366). -/
abbrev HB_AT (t : Nat) : Nat := internal 379 t

/-- A bus-off port may rejoin without AUTO_RECOVER (R363). -/
abbrev CAN_MAY (p : Nat) : Nat := internal 380 p

/-- A USDO session of the node of TNt is in progress (R367): the object address of it, plus one. -/
abbrev USDO_OPEN (t : Nat) : Nat := internal 381 t

/-- The time of its last request. -/
abbrev USDO_AT (t : Nat) : Nat := internal 382 t

/-- Whether that session is a write. -/
abbrev USDO_WRITES (t : Nat) : Nat := internal 383 t

/-- Byte string: the value bytes that it has received, or has still to send. -/
abbrev USDO_DATA (t : Nat) : Nat := internal 384 t

/-! ### The two-wire bus (chapter 16) and frames of a port (chapter 15) -/

/-- TRANSFER_ADDRESS of the controller transfer in progress (R396). -/
abbrev TW_ADDR : Nat := internal 385 0

/-- Its READ_LENGTH. -/
abbrev TW_READ : Nat := internal 386 0

/-- Byte string: its WRITE_DATA. -/
abbrev TW_DATA : Nat := internal 387 0

/-- Its retries left after a lost arbitration (R397). -/
abbrev TW_LEFT : Nat := internal 388 0

/-- The time from which the 50 µs of a free two-wire bus count (R396). -/
abbrev TW_FREE_FROM : Nat := internal 389 0

/-- Byte string: the bytes of attention reads that wait for a transfer (R400). -/
abbrev TW_ATTENTION : Nat := internal 390 0

/-- Byte string: the response that the endpoint of two-wire address w holds (R392), STATUS first. -/
abbrev FRAME_RESP (w : Nat) : Nat := internal 391 w

/-- Byte string: the transfer buffer of the SPI or two-wire endpoint with ENDPOINT value w (R384). -/
abbrev FRAME_BUF (w : Nat) : Nat := internal 392 w

/-! ### Housekeeping (chapter 17) -/

/-- A run or loop of sequence w is in progress (R410). -/
abbrev HK_RUN (w : Nat) : Nat := internal 393 w

/-- The entry that sequence w converts; one above LAST_ENTRY when its run is at its end. -/
abbrev HK_AT (w : Nat) : Nat := internal 394 w

/-- The time at which the delay of that entry ends (R412). -/
abbrev HK_DELAY (w : Nat) : Nat := internal 395 w

/-- Sequence w is preempted by an urgent entry (R412). -/
abbrev HK_PRE (w : Nat) : Nat := internal 396 w

/-- Sequence w holds a latched trigger (R411). -/
abbrev HK_LATCH (w : Nat) : Nat := internal 397 w

/-- Triggers dropped in the run of sequence w in progress (R411). -/
abbrev HK_DROPS (w : Nat) : Nat := internal 398 w

/-- The frame of the last period trigger of sequence w, plus one (R410). -/
abbrev HK_TRIG (w : Nat) : Nat := internal 399 w

/-- Conversions that the pass of entry w in progress has taken (R412). -/
abbrev HK_DONE (w : Nat) : Nat := internal 400 w

/-- The sum of their codes, signed for FORMAT 2 (R404). -/
abbrev HK_SUM (w : Nat) : Nat := internal 401 w

/-- The pass of entry w in progress, or its next, is an injected one (R408). -/
abbrev HK_INJECT (w : Nat) : Nat := internal 402 w

/-- The last injected pass of entry w lets its open mark clear (R408). -/
abbrev HK_OK (w : Nat) : Nat := internal 403 w

/-- The time at which the last pass of entry w ended (R407); 0 = none has. -/
abbrev HK_PASS_AT (w : Nat) : Nat := internal 404 w

/-! ### Temperature (chapter 18) -/

/-- Consecutive samples of TSw more than 25 K off the median of the others (R417). -/
abbrev TEMP_ODD (w : Nat) : Nat := internal 405 w

/-- The time since which thermal die w is throttled, plus one; 0 = it is not (R420). Die 0 is CX, 1 to 4 are CD0 to CD3. -/
abbrev THR_SINCE (w : Nat) : Nat := internal 406 w

/-- Time throttled since opening before that, µs (R420). -/
abbrev THR_SPENT (w : Nat) : Nat := internal 407 w

/-- The time at which thermal die w entered SHUTDOWN (R424). -/
abbrev SHUT_SINCE (w : Nat) : Nat := internal 408 w

/-- COLD_LIMIT of thermal die w (R420). -/
abbrev COLD (w : Nat) : Nat := internal 409 w

/-- COLD_START has been judged since the release of the control die (R420). -/
abbrev COLD_JUDGED : Nat := internal 410 0

/-- The time from which the next step of the thermal floor is counted (R421). -/
abbrev THR_STEP_AT : Nat := internal 411 0

/-! ### Loads (chapter 22) -/

/-- The time at which the load window in progress began, plus one (R466). -/
abbrev LOAD_AT : Nat := internal 412 0

/-- RECORDS_PLACED at that time. -/
abbrev LOAD_PLACED : Nat := internal 413 0

/-- Server time of the accesses of the window in progress, in 10 ns (R467). -/
abbrev LOAD_ACCESS : Nat := internal 414 0

/-- The time of the last FABRIC_OVERLOAD, plus one (R474). -/
abbrev OVERLOAD_AT : Nat := internal 415 0

/-- The time of the last ACCESS_SATURATED, plus one (R474). -/
abbrev SATURATED_AT : Nat := internal 416 0

/-! ### Process data objects (chapter 15) -/

/-- Byte string: the mapped values of TPDO x as published at the start of the frame (R370); x counts 64 of CAN0, then 64 of CAN1. -/
abbrev PDO_DATA (x : Nat) : Nat := internal 417 x

/-- Byte string: the mapped values that TPDO x last carried. -/
abbrev PDO_SENT (x : Nat) : Nat := internal 418 x

/-- The time of the last send of TPDO x, plus one; 0 = none. -/
abbrev PDO_AT (x : Nat) : Nat := internal 419 x

/-- A send of TPDO x waits for the end of INHIBIT_TIME. -/
abbrev PDO_DUE (x : Nat) : Nat := internal 420 x

/-- SYNCs counted for TPDO x, the one that SYNC_START names being the first. -/
abbrev PDO_COUNT (x : Nat) : Nat := internal 421 x

/-- The time from which EVENT_TIMER of TPDO x runs. -/
abbrev PDO_EVT (x : Nat) : Nat := internal 422 x

/-- Byte string: the last synchronous RPDO x received, until the next SYNC writes it (R371); x counts 32 of CAN0, then 32 of CAN1. -/
abbrev RPDO_HELD (x : Nat) : Nat := internal 423 x

/-- Whether one is held. -/
abbrev RPDO_HAS (x : Nat) : Nat := internal 424 x

/-! ### PCI Express, per function (chapter 15) -/

/-- TRANSFER_ADDRESS of function f (R378). -/
abbrev PT_ADDR (f : Nat) : Nat := internal 425 f

/-- TRANSFER_RESULT of function f. -/
abbrev PT_RESULT (f : Nat) : Nat := internal 426 f

/-- Byte string: the transfer buffer of function f. -/
abbrev PT_BUF (f : Nat) : Nat := internal 427 f

/-- Byte string: the pop buffer of function f. -/
abbrev POP_BUF (f : Nat) : Nat := internal 428 f

/-- POP_RESULT of function f. -/
abbrev POP_RESULT (f : Nat) : Nat := internal 429 f

/-- PCIE_PERST_N is low. -/
abbrev PERST_LOW : Nat := internal 430 0

/-- R96: accepted commands of channel n that had no effect. -/
abbrev CMD_NOTED (n : Nat) : Nat := internal 432 n

/-- The housekeeping entries whose present stale episode channel n has recorded: for its wire model (0), its FET model (1)
and its shunt (2) (R101, R133). -/
abbrev STALE_TOLD (n w : Nat) : Nat := internal 433 (4 * n + w)

/-- The last ramp of channel n is a retry, and no standing order has met it (R112, R136). -/
abbrev RAMP_RETRY (n : Nat) : Nat := internal 434 n

/-- While the link to its die is down, STATE of channel n as the control die last held it, and 16 more where it was GOOD. -/
abbrev SEEN (n : Nat) : Nat := internal 435 n

/-- The last output sample of CVm, 0.1 mV (R192). -/
abbrev CONV_LAST (m : Nat) : Nat := internal 436 m

/-- Output samples of CVm since its last voltage update (R194). -/
abbrev CONV_SCNT (m : Nat) : Nat := internal 437 m

/-- When lower judging of the window of CVm began (i = 0), and when its WINDOW_MODE became 1 (i = 1) (R214). -/
abbrev CWIN_AT (m i : Nat) : Nat := internal 438 (2 * m + i)

/-- The offset at which the periods of lane l begin in its converter's cycle, in steps, plus one; 0 = none (R187, R190). -/
abbrev LANE_OFFSET (l : Nat) : Nat := internal 439 l

/-- The time at which the period of lane l in progress began. -/
abbrev LANE_FROM (l : Nat) : Nat := internal 440 l

/-- The extra time in progress on lane l as its offset changes, in steps; 0 = none (R190). -/
abbrev LANE_EXTRA (l : Nat) : Nat := internal 441 l

/-- u that the period after that extra time takes (R190). -/
abbrev LANE_HELD (l : Nat) : Nat := internal 442 l

/-- Whether the charger's or the assist port's control of CVm ends at the next boundary (R204). -/
abbrev OVR_END (m : Nat) : Nat := internal 443 m

/-- The time at which the battery switch last left OPEN (R225). -/
abbrev SW_CONN_AT : Nat := internal 444 0

/-- The stamp of the charger rest voltage that waits (R229). -/
abbrev EST_SHORT_STAMP : Nat := internal 445 0

/-- The estimate holds no value: what was restored was not available (R255). -/
abbrev EST_NA : Nat := internal 446 0

/-- The battery shunt at its temperature as Park began, 10^-18 ohm; 0 = not set (R246). -/
abbrev PARK_SHUNT : Nat := internal 447 0

/-- EST_REST_CURRENT as Park began, 0.1 mA (R250). -/
abbrev PARK_BAND : Nat := internal 448 0

/-- EST_REST_TIME as Park began, s (R250). -/
abbrev PARK_REST : Nat := internal 449 0

/-- Lifetime charge in (i = 0) and out (i = 1) counted in Park, nC (R248). -/
abbrev PARK_CHARGE (i : Nat) : Nat := internal 450 i

/-- The next update is the first after Park (R246, R250). -/
abbrev EST_PARKED : Nat := internal 451 0

/-- A long rest became due in Park (R250). -/
abbrev EST_REST_DUE : Nat := internal 452 0

/-- Whether the channel dies are in reset, until the opening releases them (R268). -/
abbrev DIES_HELD : Nat := internal 453 0

/-- Whether a watched supply is below its threshold: 0 VH, 1 VCORE, 2 VIO (R266). -/
abbrev SUPPLY_LOW (i : Nat) : Nat := internal 454 i

/-- The record store's copy of the newest journal entry (i = 0), its time (1), SKIP_MASK (2) and PROFILE_SKIP (3) (R279). -/
abbrev STORE_JOURNAL (i : Nat) : Nat := internal 455 i

/-- Whether the present journal entry has been copied into the record store (R279). -/
abbrev STORE_HAS : Nat := internal 456 0

/-- Whether a sector of the record store was left erasing (R269). -/
abbrev STORE_ERASING : Nat := internal 457 0

/-- The opening waits at step 6 for V18 (R286). -/
abbrev V18_WAIT : Nat := internal 458 0

/-- The stamp of the last conversion of the pass of entry w (R404). -/
abbrev HK_LAST (w : Nat) : Nat := internal 462 w

/-- The capture buffer that the descriptor in progress reads has been armed again (R111). -/
abbrev DMA_REARMED : Nat := internal 461 0

/-- Step 5 of the opening in progress, or of the last one, is over (R310). -/
abbrev STEP5_DONE : Nat := internal 460 0

/-- The era is held open until step 5 of the opening (R330). -/
abbrev ERA_OPEN : Nat := internal 459 0

/-! ### Reset values -/

/-- The reset value of internal register f, instance i: 0 but where listed here. -/
def internalReset (f _i : Nat) : Int :=
  match f with
  | 159 => -1  -- LANE_EDGE
  | 172 => 1  -- RESET_FULL
  | 175 => 1  -- BACKUP_ANEW
  | 210 => 0xFF  -- BACK_POLARITY
  | 212 => 10  -- BACK_FILTER
  | 289 => 0x7FFF  -- REC_T_MIN
  | 290 => -32768  -- REC_T_MAX
  | 291 => 0x7FFFFFFF  -- REC_V_MIN
  | 292 => -2147483648  -- REC_V_MAX
  | 311 => 64  -- RING_RR
  | 339 => -1  -- SYNC_C
  | 362 => 31  -- DMA_LAST
  | 375 => 128  -- PCIE_PAYLOAD
  | 436 => -2147483648  -- CONV_LAST
  | 453 => 1  -- DIES_HELD
  | _ => 0

/-- R502: the not-available pattern of a type. -/
def notAvailable : Ty → Int
  | .bool => 0
  | .u8 => 0xFF
  | .u16 => 0xFFFF
  | .u32 => 0xFFFFFFFF
  | .u64 => 0xFFFFFFFFFFFFFFFF
  | .i16 => -0x8000
  | .i32 => -0x80000000
  | .i64 => -0x8000000000000000
  | .str | .octets | .domain => 0

/-- The default of an object address; 0 where the device has no such object. -/
def objectReset (addr : Nat) : Int :=
  match subAt addr with
  | none => 0
  | some r =>
    match r.dflt with
    | .val v => v
    | .na => notAvailable r.ty

/-- The reset value of every register: an object its default, a value in force that of its object, an internal register
what internalReset lists. -/
def regReset (k : Nat) : Int :=
  if k < 268435456 then objectReset (k % 16777216)
  else if k < 2199023255552 then objectReset (k % 16777216)
  else internalReset (k / 256 % 4096) ((k - 562949953421567) / 1048576)

end Sys2Proof.Machine
end

