-- ==== Sys2Proof/Machine/Kinds.lean ====
section
/-!
DEFINITION. The kinds of fault messages and records: one constructor for each row of the "Kind codes" tables of the
chapters, with its code, its default class and the lowest class the arbiter may set (R314).
-/
namespace Sys2Proof.Machine

/-- The kinds, named as the chapters name them, and one for a message of a kind that no chapter lists (R306). -/
inductive Kind where
  | LINK_DEGRADED | CLOCK_FALLBACK | DIE_REF_FALLBACK | COMMIT_APPLIED
  | COMMIT_REJECTED | COMMIT_LATE_DIE | DRIFT | DRIFT_PERSISTENT
  | SYNC_COMMIT_MISSED | TENANT_RESET_DONE | FOLD | TRUMP_COMMAND
  | DEAL_APPLIED | ARBITER_STRAP_CONFLICT | STANDING_ENTERED | STANDING_REPORT
  | STANDING_RELEASED | ANCHOR_BROWNOUT | CHARGE_PUMP_LOW | BUS_UNDERVOLTAGE
  | CAL_FAULT | SHUNT_TEMP_STALE | CURRENT_OVERRANGE | CAPTURE_COMPLETE
  | SAFE_ON_RAMP | HARD_SHORT_TRIP | LIMIT_ENTERED | LIMIT_TIMEOUT_TRIP
  | WIRE_WARNING | WIRE_TRIP | FET_WARNING | FET_TRIP
  | RAMP_TIMEOUT_TRIP | RETRY_STARTED | LOCKOUT_ENTERED | COOLING_DONE
  | ADMISSION_FORCED | SAG_HOLD | OPEN_LAMP | SWAP_DONE
  | SWAP_ABORTED | MODEL_REF_STALE | BUDGET_EXCEEDED | PLAN_STARTED
  | PLAN_ENDED | STALEMATE | STEP_SKIPPED | PLAN_MEMBER_EXCLUDED
  | UNDERVOLTAGE | OVERVOLTAGE | GOOD_CHANGED | NOT_DISCHARGED
  | RSO_CHANGED | CONVERTER_STARTED | SOFT_START_DONE | CONVERTER_STOPPED
  | START_REFUSED | TRUNCATION | HICCUP | CONVERTER_LATCHED
  | SHARE_IMBALANCE | CONVERTER_UNDERVOLTAGE | CONVERTER_OVERVOLTAGE | CONVERTER_GOOD_CHANGED
  | FAULT_RECORD_WRITTEN | FAULT_RECORD_SKIPPED | SWITCH_MODE_CHANGED | SWITCH_SHORT_TRIP
  | SWITCH_UV_CUTOFF | CLOSE_DEFERRED | CLOSED_CHARGE_DROP | CHARGE_PHASE
  | CHARGE_SUSPENDED | CHARGE_FAULT | REST_INVALID | PULSE_CUT_DIODE
  | ASSIST_STARTED | ASSIST_ENDED | ASSIST_REFUSED | LONG_PRESS_RESET
  | SHIP_EXIT | SHIP_ARMED | REST_CORRECTION | FULL_CHARGE
  | CAPACITY_LEARNED | CAPACITY_SAMPLE_REJECTED | BATTERY_OVERRANGE | EST_SHUNT_TEMP_STALE
  | SOC_RESTORED | BATTERY_RECORD_WRITTEN | BATTERY_RECORD_INVALID | BATTERY_REPLACED
  | RESET_DONE | OPENING_DONE | OPENING_STEP_FAILED | OPENING_STOPPED
  | OPENING_FALLBACK | OPENING_STEP_SKIPPED | STRAP_UNSTABLE | CHANNEL_DIE_RESET
  | LEVEL_CHANGED | POWER_MODE_CHANGED | PARK_ENTERED | PARK_ABORTED
  | PARK_EXIT | WAKE_EVENT | VBAT_OVERVOLTAGE | HR_CURRENT_LIMIT
  | SUPPLY_18_LOW | HOUSE_STOP | LOCKOUT | CASCADE_ESCALATED
  | KEEPER_HOLD | MEMORY_CORRECTED | MEMORY_UNCORRECTABLE | COLLECTOR_OVERRUN
  | CLASS_OVERRIDES_APPLIED | RING_OVERFLOW | FENCE | ERA_ADVANCED
  | TICK_LOADED | HOLD_CHANGED | DMA_DONE | DESCRIPTOR_BAD
  | STREAM_STOPPED | PERIOD_OVERRUN | CAN_BUS_OFF | CAN_BUS_RECOVERED
  | PDO_LENGTH_ERROR | PDO_WRITE_REFUSED | TIME_REFUSED | PCIE_LINK_CHANGED
  | PCIE_FUNCTION_RESET | CLOCK_LOW_TIMEOUT | DATA_LOW_TIMEOUT | ARBITRATION_LOST
  | INBAND_REQUEST | TRANSFER_DONE | SENSOR_OPEN | SENSOR_RESTORED
  | ENTRY_STALE | ADC_OVERRUN | HK_CALIBRATION_FAULT | HOT_WARNING
  | THROTTLE_ENTERED | THROTTLE_ENDED | THERMAL_SHUTDOWN | SHUTDOWN_ENDED
  | CX_OVERTEMP | COLD_LIMIT | COLD_START | TEMP_SENSOR_FAILED
  | WATCHDOG_EXPIRED | WATCHDOG_ARMED | WATCHDOG_ADJOURNED | WRONG_ANSWER
  | TIME_SET | ALARM_FIRED | PON_CHANGED | BACKUP_CELL_LOW
  | RETAINED_REGION_LOST | RTC_OSC_STOPPED | ATTESTATION_SIGNED | SESSION_OPENED
  | SESSION_CLOSED | AUTH_FAILED | RANDOM_SOURCE_FAULT | IDENTITY_FAULT
  | FABRIC_OVERLOAD | ACCESS_SATURATED
  | UNKNOWN
  deriving DecidableEq, Repr

/-- The 16-bit kind code: the subsystem in the high byte. -/
def Kind.code : Kind → Nat
  | .LINK_DEGRADED => 0x0101
  | .CLOCK_FALLBACK => 0x0102
  | .DIE_REF_FALLBACK => 0x0103
  | .COMMIT_APPLIED => 0x0201
  | .COMMIT_REJECTED => 0x0202
  | .COMMIT_LATE_DIE => 0x0203
  | .DRIFT => 0x0204
  | .DRIFT_PERSISTENT => 0x0205
  | .SYNC_COMMIT_MISSED => 0x0206
  | .TENANT_RESET_DONE => 0x0301
  | .FOLD => 0x0302
  | .TRUMP_COMMAND => 0x0303
  | .DEAL_APPLIED => 0x0304
  | .ARBITER_STRAP_CONFLICT => 0x0305
  | .STANDING_ENTERED => 0x0401
  | .STANDING_REPORT => 0x0402
  | .STANDING_RELEASED => 0x0403
  | .ANCHOR_BROWNOUT => 0x0404
  | .CHARGE_PUMP_LOW => 0x0405
  | .BUS_UNDERVOLTAGE => 0x0406
  | .CAL_FAULT => 0x0407
  | .SHUNT_TEMP_STALE => 0x0408
  | .CURRENT_OVERRANGE => 0x0409
  | .CAPTURE_COMPLETE => 0x040A
  | .SAFE_ON_RAMP => 0x040B
  | .HARD_SHORT_TRIP => 0x0501
  | .LIMIT_ENTERED => 0x0502
  | .LIMIT_TIMEOUT_TRIP => 0x0503
  | .WIRE_WARNING => 0x0504
  | .WIRE_TRIP => 0x0505
  | .FET_WARNING => 0x0506
  | .FET_TRIP => 0x0507
  | .RAMP_TIMEOUT_TRIP => 0x0508
  | .RETRY_STARTED => 0x0509
  | .LOCKOUT_ENTERED => 0x050A
  | .COOLING_DONE => 0x050B
  | .ADMISSION_FORCED => 0x050C
  | .SAG_HOLD => 0x050D
  | .OPEN_LAMP => 0x050E
  | .SWAP_DONE => 0x050F
  | .SWAP_ABORTED => 0x0510
  | .MODEL_REF_STALE => 0x0511
  | .BUDGET_EXCEEDED => 0x0512
  | .PLAN_STARTED => 0x0601
  | .PLAN_ENDED => 0x0602
  | .STALEMATE => 0x0603
  | .STEP_SKIPPED => 0x0604
  | .PLAN_MEMBER_EXCLUDED => 0x0605
  | .UNDERVOLTAGE => 0x0606
  | .OVERVOLTAGE => 0x0607
  | .GOOD_CHANGED => 0x0608
  | .NOT_DISCHARGED => 0x0609
  | .RSO_CHANGED => 0x060A
  | .CONVERTER_STARTED => 0x0701
  | .SOFT_START_DONE => 0x0702
  | .CONVERTER_STOPPED => 0x0703
  | .START_REFUSED => 0x0704
  | .TRUNCATION => 0x0705
  | .HICCUP => 0x0706
  | .CONVERTER_LATCHED => 0x0707
  | .SHARE_IMBALANCE => 0x0708
  | .CONVERTER_UNDERVOLTAGE => 0x0709
  | .CONVERTER_OVERVOLTAGE => 0x070A
  | .CONVERTER_GOOD_CHANGED => 0x070B
  | .FAULT_RECORD_WRITTEN => 0x070C
  | .FAULT_RECORD_SKIPPED => 0x070D
  | .SWITCH_MODE_CHANGED => 0x0801
  | .SWITCH_SHORT_TRIP => 0x0802
  | .SWITCH_UV_CUTOFF => 0x0803
  | .CLOSE_DEFERRED => 0x0804
  | .CLOSED_CHARGE_DROP => 0x0805
  | .CHARGE_PHASE => 0x0806
  | .CHARGE_SUSPENDED => 0x0807
  | .CHARGE_FAULT => 0x0808
  | .REST_INVALID => 0x0809
  | .PULSE_CUT_DIODE => 0x080A
  | .ASSIST_STARTED => 0x080B
  | .ASSIST_ENDED => 0x080C
  | .ASSIST_REFUSED => 0x080D
  | .LONG_PRESS_RESET => 0x080E
  | .SHIP_EXIT => 0x080F
  | .SHIP_ARMED => 0x0810
  | .REST_CORRECTION => 0x0901
  | .FULL_CHARGE => 0x0902
  | .CAPACITY_LEARNED => 0x0903
  | .CAPACITY_SAMPLE_REJECTED => 0x0904
  | .BATTERY_OVERRANGE => 0x0905
  | .EST_SHUNT_TEMP_STALE => 0x0906
  | .SOC_RESTORED => 0x0907
  | .BATTERY_RECORD_WRITTEN => 0x0908
  | .BATTERY_RECORD_INVALID => 0x0909
  | .BATTERY_REPLACED => 0x090A
  | .RESET_DONE => 0x0A01
  | .OPENING_DONE => 0x0A02
  | .OPENING_STEP_FAILED => 0x0A03
  | .OPENING_STOPPED => 0x0A04
  | .OPENING_FALLBACK => 0x0A05
  | .OPENING_STEP_SKIPPED => 0x0A06
  | .STRAP_UNSTABLE => 0x0A07
  | .CHANNEL_DIE_RESET => 0x0A08
  | .LEVEL_CHANGED => 0x0B01
  | .POWER_MODE_CHANGED => 0x0B02
  | .PARK_ENTERED => 0x0B03
  | .PARK_ABORTED => 0x0B04
  | .PARK_EXIT => 0x0B05
  | .WAKE_EVENT => 0x0B06
  | .VBAT_OVERVOLTAGE => 0x0B07
  | .HR_CURRENT_LIMIT => 0x0B08
  | .SUPPLY_18_LOW => 0x0B09
  | .HOUSE_STOP => 0x0C01
  | .LOCKOUT => 0x0C02
  | .CASCADE_ESCALATED => 0x0C03
  | .KEEPER_HOLD => 0x0C04
  | .MEMORY_CORRECTED => 0x0C05
  | .MEMORY_UNCORRECTABLE => 0x0C06
  | .COLLECTOR_OVERRUN => 0x0C07
  | .CLASS_OVERRIDES_APPLIED => 0x0C08
  | .RING_OVERFLOW => 0x0D01
  | .FENCE => 0x0D02
  | .ERA_ADVANCED => 0x0D03
  | .TICK_LOADED => 0x0D04
  | .HOLD_CHANGED => 0x0D05
  | .DMA_DONE => 0x0E01
  | .DESCRIPTOR_BAD => 0x0E02
  | .STREAM_STOPPED => 0x0E03
  | .PERIOD_OVERRUN => 0x0E04
  | .CAN_BUS_OFF => 0x0F01
  | .CAN_BUS_RECOVERED => 0x0F02
  | .PDO_LENGTH_ERROR => 0x0F03
  | .PDO_WRITE_REFUSED => 0x0F04
  | .TIME_REFUSED => 0x0F05
  | .PCIE_LINK_CHANGED => 0x0F06
  | .PCIE_FUNCTION_RESET => 0x0F07
  | .CLOCK_LOW_TIMEOUT => 0x1001
  | .DATA_LOW_TIMEOUT => 0x1002
  | .ARBITRATION_LOST => 0x1003
  | .INBAND_REQUEST => 0x1004
  | .TRANSFER_DONE => 0x1005
  | .SENSOR_OPEN => 0x1101
  | .SENSOR_RESTORED => 0x1102
  | .ENTRY_STALE => 0x1103
  | .ADC_OVERRUN => 0x1104
  | .HK_CALIBRATION_FAULT => 0x1105
  | .HOT_WARNING => 0x1201
  | .THROTTLE_ENTERED => 0x1202
  | .THROTTLE_ENDED => 0x1203
  | .THERMAL_SHUTDOWN => 0x1204
  | .SHUTDOWN_ENDED => 0x1205
  | .CX_OVERTEMP => 0x1206
  | .COLD_LIMIT => 0x1207
  | .COLD_START => 0x1208
  | .TEMP_SENSOR_FAILED => 0x1209
  | .WATCHDOG_EXPIRED => 0x1301
  | .WATCHDOG_ARMED => 0x1302
  | .WATCHDOG_ADJOURNED => 0x1303
  | .WRONG_ANSWER => 0x1304
  | .TIME_SET => 0x1401
  | .ALARM_FIRED => 0x1402
  | .PON_CHANGED => 0x1403
  | .BACKUP_CELL_LOW => 0x1404
  | .RETAINED_REGION_LOST => 0x1405
  | .RTC_OSC_STOPPED => 0x1406
  | .ATTESTATION_SIGNED => 0x1501
  | .SESSION_OPENED => 0x1502
  | .SESSION_CLOSED => 0x1503
  | .AUTH_FAILED => 0x1504
  | .RANDOM_SOURCE_FAULT => 0x1505
  | .IDENTITY_FAULT => 0x1506
  | .FABRIC_OVERLOAD => 0x1601
  | .ACCESS_SATURATED => 0x1602
  | .UNKNOWN => 0x0000

/-- The default class, 0 to 5 for F0 to F5. -/
def Kind.defaultClass : Kind → Nat
  | .LOCKOUT => 5
  | .DRIFT_PERSISTENT => 4
  | .SUPPLY_18_LOW => 4
  | .HOUSE_STOP => 4
  | .CX_OVERTEMP => 4
  | .RANDOM_SOURCE_FAULT => 4
  | .WATCHDOG_EXPIRED => 3
  | .LOCKOUT_ENTERED => 2
  | .CONVERTER_LATCHED => 2
  | .LINK_DEGRADED => 1
  | .CLOCK_FALLBACK => 1
  | .DIE_REF_FALLBACK => 1
  | .COMMIT_LATE_DIE => 1
  | .DRIFT => 1
  | .ARBITER_STRAP_CONFLICT => 1
  | .ANCHOR_BROWNOUT => 1
  | .CHARGE_PUMP_LOW => 1
  | .BUS_UNDERVOLTAGE => 1
  | .CAL_FAULT => 1
  | .SHUNT_TEMP_STALE => 1
  | .SWAP_ABORTED => 1
  | .MODEL_REF_STALE => 1
  | .STALEMATE => 1
  | .START_REFUSED => 1
  | .HICCUP => 1
  | .SHARE_IMBALANCE => 1
  | .FAULT_RECORD_SKIPPED => 1
  | .SWITCH_SHORT_TRIP => 1
  | .SWITCH_UV_CUTOFF => 1
  | .CLOSED_CHARGE_DROP => 1
  | .CHARGE_FAULT => 1
  | .ASSIST_REFUSED => 1
  | .BATTERY_OVERRANGE => 1
  | .EST_SHUNT_TEMP_STALE => 1
  | .BATTERY_RECORD_INVALID => 1
  | .OPENING_STEP_FAILED => 1
  | .OPENING_STOPPED => 1
  | .OPENING_STEP_SKIPPED => 1
  | .STRAP_UNSTABLE => 1
  | .CHANNEL_DIE_RESET => 1
  | .VBAT_OVERVOLTAGE => 1
  | .HR_CURRENT_LIMIT => 1
  | .MEMORY_UNCORRECTABLE => 1
  | .COLLECTOR_OVERRUN => 1
  | .DESCRIPTOR_BAD => 1
  | .CAN_BUS_OFF => 1
  | .CLOCK_LOW_TIMEOUT => 1
  | .DATA_LOW_TIMEOUT => 1
  | .SENSOR_OPEN => 1
  | .ENTRY_STALE => 1
  | .HK_CALIBRATION_FAULT => 1
  | .THERMAL_SHUTDOWN => 1
  | .COLD_LIMIT => 1
  | .TEMP_SENSOR_FAILED => 1
  | .BACKUP_CELL_LOW => 1
  | .RETAINED_REGION_LOST => 1
  | .RTC_OSC_STOPPED => 1
  | .AUTH_FAILED => 1
  | .IDENTITY_FAULT => 1
  | .FABRIC_OVERLOAD => 1
  | .UNKNOWN => 1
  | _ => 0

/-- R313: the lowest class that an override may give the kind. -/
def Kind.floor : Kind → Nat
  | .COMMIT_LATE_DIE => 1
  | .DRIFT => 1
  | .DRIFT_PERSISTENT => 4
  | .ANCHOR_BROWNOUT => 1
  | .LOCKOUT_ENTERED => 1
  | .CONVERTER_LATCHED => 1
  | .SWITCH_SHORT_TRIP => 1
  | .SUPPLY_18_LOW => 4
  | .MEMORY_UNCORRECTABLE => 1
  | k => if k.defaultClass ≤ 1 then 0 else k.defaultClass

/-- Every kind, in the order of the codes. -/
def Kind.all : List Kind :=
  [.LINK_DEGRADED, .CLOCK_FALLBACK, .DIE_REF_FALLBACK, .COMMIT_APPLIED,
   .COMMIT_REJECTED, .COMMIT_LATE_DIE, .DRIFT, .DRIFT_PERSISTENT,
   .SYNC_COMMIT_MISSED, .TENANT_RESET_DONE, .FOLD, .TRUMP_COMMAND,
   .DEAL_APPLIED, .ARBITER_STRAP_CONFLICT, .STANDING_ENTERED, .STANDING_REPORT,
   .STANDING_RELEASED, .ANCHOR_BROWNOUT, .CHARGE_PUMP_LOW, .BUS_UNDERVOLTAGE,
   .CAL_FAULT, .SHUNT_TEMP_STALE, .CURRENT_OVERRANGE, .CAPTURE_COMPLETE,
   .SAFE_ON_RAMP, .HARD_SHORT_TRIP, .LIMIT_ENTERED, .LIMIT_TIMEOUT_TRIP,
   .WIRE_WARNING, .WIRE_TRIP, .FET_WARNING, .FET_TRIP,
   .RAMP_TIMEOUT_TRIP, .RETRY_STARTED, .LOCKOUT_ENTERED, .COOLING_DONE,
   .ADMISSION_FORCED, .SAG_HOLD, .OPEN_LAMP, .SWAP_DONE,
   .SWAP_ABORTED, .MODEL_REF_STALE, .BUDGET_EXCEEDED, .PLAN_STARTED,
   .PLAN_ENDED, .STALEMATE, .STEP_SKIPPED, .PLAN_MEMBER_EXCLUDED,
   .UNDERVOLTAGE, .OVERVOLTAGE, .GOOD_CHANGED, .NOT_DISCHARGED,
   .RSO_CHANGED, .CONVERTER_STARTED, .SOFT_START_DONE, .CONVERTER_STOPPED,
   .START_REFUSED, .TRUNCATION, .HICCUP, .CONVERTER_LATCHED,
   .SHARE_IMBALANCE, .CONVERTER_UNDERVOLTAGE, .CONVERTER_OVERVOLTAGE, .CONVERTER_GOOD_CHANGED,
   .FAULT_RECORD_WRITTEN, .FAULT_RECORD_SKIPPED, .SWITCH_MODE_CHANGED, .SWITCH_SHORT_TRIP,
   .SWITCH_UV_CUTOFF, .CLOSE_DEFERRED, .CLOSED_CHARGE_DROP, .CHARGE_PHASE,
   .CHARGE_SUSPENDED, .CHARGE_FAULT, .REST_INVALID, .PULSE_CUT_DIODE,
   .ASSIST_STARTED, .ASSIST_ENDED, .ASSIST_REFUSED, .LONG_PRESS_RESET,
   .SHIP_EXIT, .SHIP_ARMED, .REST_CORRECTION, .FULL_CHARGE,
   .CAPACITY_LEARNED, .CAPACITY_SAMPLE_REJECTED, .BATTERY_OVERRANGE, .EST_SHUNT_TEMP_STALE,
   .SOC_RESTORED, .BATTERY_RECORD_WRITTEN, .BATTERY_RECORD_INVALID, .BATTERY_REPLACED,
   .RESET_DONE, .OPENING_DONE, .OPENING_STEP_FAILED, .OPENING_STOPPED,
   .OPENING_FALLBACK, .OPENING_STEP_SKIPPED, .STRAP_UNSTABLE, .CHANNEL_DIE_RESET,
   .LEVEL_CHANGED, .POWER_MODE_CHANGED, .PARK_ENTERED, .PARK_ABORTED,
   .PARK_EXIT, .WAKE_EVENT, .VBAT_OVERVOLTAGE, .HR_CURRENT_LIMIT,
   .SUPPLY_18_LOW, .HOUSE_STOP, .LOCKOUT, .CASCADE_ESCALATED,
   .KEEPER_HOLD, .MEMORY_CORRECTED, .MEMORY_UNCORRECTABLE, .COLLECTOR_OVERRUN,
   .CLASS_OVERRIDES_APPLIED, .RING_OVERFLOW, .FENCE, .ERA_ADVANCED,
   .TICK_LOADED, .HOLD_CHANGED, .DMA_DONE, .DESCRIPTOR_BAD,
   .STREAM_STOPPED, .PERIOD_OVERRUN, .CAN_BUS_OFF, .CAN_BUS_RECOVERED,
   .PDO_LENGTH_ERROR, .PDO_WRITE_REFUSED, .TIME_REFUSED, .PCIE_LINK_CHANGED,
   .PCIE_FUNCTION_RESET, .CLOCK_LOW_TIMEOUT, .DATA_LOW_TIMEOUT, .ARBITRATION_LOST,
   .INBAND_REQUEST, .TRANSFER_DONE, .SENSOR_OPEN, .SENSOR_RESTORED,
   .ENTRY_STALE, .ADC_OVERRUN, .HK_CALIBRATION_FAULT, .HOT_WARNING,
   .THROTTLE_ENTERED, .THROTTLE_ENDED, .THERMAL_SHUTDOWN, .SHUTDOWN_ENDED,
   .CX_OVERTEMP, .COLD_LIMIT, .COLD_START, .TEMP_SENSOR_FAILED,
   .WATCHDOG_EXPIRED, .WATCHDOG_ARMED, .WATCHDOG_ADJOURNED, .WRONG_ANSWER,
   .TIME_SET, .ALARM_FIRED, .PON_CHANGED, .BACKUP_CELL_LOW,
   .RETAINED_REGION_LOST, .RTC_OSC_STOPPED, .ATTESTATION_SIGNED, .SESSION_OPENED,
   .SESSION_CLOSED, .AUTH_FAILED, .RANDOM_SOURCE_FAULT, .IDENTITY_FAULT,
   .FABRIC_OVERLOAD, .ACCESS_SATURATED]

/-- The kind of a code, if a chapter lists it. -/
def Kind.ofCode (c : Nat) : Option Kind := Kind.all.find? fun k => k.code = c

end Sys2Proof.Machine
end

