-- ==== Sys2Proof/Machine/State.lean ====
section
/-!
DEFINITION. The state of the block as plain data.

Registers. Every register of the device, the subindexes of the object dictionary and the internal ones alike, is an
integer under a key (Names.lean, Internal.lean). State.regs lists the keys that do not hold their reset value, in rising
order and once each, so that equal register files are equal data (State.Canonical). Values that are byte strings are
in State.blobs in the same form. What queues, is in flight or has a varying length is a list of its own.
-/
namespace Sys2Proof.Machine

/-- Why the block stops. No command of the table does: every meaning answers a next state, so there is no fault. -/
inductive Fault where
  deriving DecidableEq, Repr

/-- Why a command has no meaning. -/
inductive Refusal where
  /-- Raised by a dispatch arm of a row that has no meaning in the model yet. Safe: the block stops by name. -/
  | notModelled (mnemonic : String)
  deriving DecidableEq, Repr

/-- R305: a fault message on its way from its detector to the collector. fields is the payload of its kind: pairs of
a width in bytes and a value (R333). held marks one kept on a standing die (R115). -/
structure Msg where
  stamp : Nat
  site : Nat
  kind : Kind
  tenant : Nat
  obj : Nat
  fields : List (Nat × Int)
  held : Bool
  deriving DecidableEq, Repr

/-- A message that waits on channel die `die` for its event block (R14). -/
structure DieMsg where
  die : Nat
  msg : Msg
  deriving DecidableEq, Repr

/-- R327: one 32-byte record, field by field. stamp is ERA above TICK; flags are bits 7 to 3 of byte 15. target is the
delivery target it is assigned to in its ring (R341), 64 for none; it is no part of the 32 bytes. -/
structure Record where
  seq : Nat
  stamp : Nat
  site : Nat
  kind : Nat
  type : Nat
  flags : Nat
  cls : Nat
  tenant : Nat
  obj : Nat
  payload : List Byte
  target : Nat
  deriving DecidableEq, Repr

/-- A record that the collector has classified and that waits for its place in the rings; more is its continuation.
direct lists the tenants whose system rings the chapter directs it to. -/
structure Placing where
  record : Record
  more : Option (List Byte)
  direct : List Nat
  deriving DecidableEq, Repr

/-- The records that stand in ring q, oldest first. -/
structure RingData where
  ring : Nat
  recs : List Record
  deriving DecidableEq, Repr

/-- What lands at a frame boundary. -/
inductive LandAct where
  /-- A class I write: the applied value of a register changes (R34). -/
  | value (key : Nat) (v : Int)
  /-- A class I write of a byte string. -/
  | bytes (key : Nat) (b : List Byte)
  /-- An action write of the address with its value (R34, R503). -/
  | action (addr : Nat) (v : Int)
  /-- An action that acts on the control die itself, queued behind a barrier (R55, R57): its address, its value and its bytes. -/
  | service (addr : Nat) (v : Int) (b : List Byte)
  /-- A committed set (R43): the values of the tenant's staging copy at its acceptance. -/
  | commit (values : List (Nat × Int))
  /-- R44: what channel die `die` has missed of a set that took effect at boundary `due`: it applies at the die once it hears.
  told marks a committed set, whose lateness is raised. -/
  | late (die : Nat) (told : Bool) (values : List (Nat × Int))
  /-- A tenant reset (R80) from the given source. -/
  | tenantReset (source : Nat)
  /-- A fold of the tenant's hand (R78) for the given cause. -/
  | fold (cause : Nat)
  /-- The turn-off and lockout of the channels at a site by a class F2 reaction (R309). -/
  | unitStop (site : Nat)
  deriving DecidableEq, Repr

/-- One accepted item (R38): who sent it, the boundary it lands at, the time of its acceptance, what it does, and whether the
block that carried it to its die was discarded from the downlink frame in progress (R15). -/
structure Landing where
  tenant : Nat
  due : Nat
  accepted : Nat
  act : LandAct
  lost : Bool
  deriving DecidableEq, Repr

/-- One value of a tenant's staging copy (R34, R36). acked: the die that holds it has acknowledged it (R42). -/
structure Staged where
  tenant : Nat
  key : Nat
  value : Int
  acked : Bool
  deriving DecidableEq, Repr

/-- How a write comes out of a port: as an object write of its own; through a PCIe doorbell or the ARM slot of a target;
through the PCIe transfer window (R378); as the mapped values of a receive PDO, whose number is then its address (R371). -/
inductive WriteForm where
  | object | bell | window | rpdo
  deriving DecidableEq, Repr

/-- A write held back behind an open barrier (R56). -/
structure HeldWrite where
  ep : Endpoint
  form : WriteForm
  addr : Nat
  data : List Byte
  deriving DecidableEq, Repr

/-- R55, R57: an open barrier of a tenant: its identifier, the boundary at which the last earlier write lands, and the COMMIT
values written behind it, whose checks wait for it. -/
structure OpenBarrier where
  tenant : Nat
  id : Nat
  closes : Nat
  commits : List Nat
  deriving DecidableEq, Repr

/-- What the control die holds for a channel die and the die takes at the release of its standing channels (R117, R269). -/
structure LateSet where
  die : Nat
  values : List (Nat × Int)
  deriving DecidableEq, Repr

/-- R457: an operation that waits for the security engine: the 88 bytes of an attestation (R456), or the host key of a
session opening (R459). -/
structure SignJob where
  tenant : Nat
  session : Bool
  data : List Byte
  deriving DecidableEq, Repr

/-- R353: one beat of a transfer: the address of its lane 0, its byte enables and the byte on each lane, 0 where none is enabled. -/
structure Beat where
  addr : Nat
  enables : Nat
  lanes : List Byte
  deriving DecidableEq, Repr

/-- R324, R361: the form of a CAN frame: classical, FD without or with bit rate switching, or a classical one of the keeper with
its quanta per bit and those before the sample point. -/
inductive CanForm where
  | classical
  | fd (fast : Bool)
  | keeper (quanta sample : Nat)
  deriving DecidableEq, Repr

/-- A message that the block sends out of a port. -/
inductive Out where
  /-- A CAN frame on a port: COB-ID, form and data. -/
  | can (port cobId : Nat) (form : CanForm) (data : List Byte)
  /-- An MSI-X message of a PCIe function and vector. -/
  | msix (func vec : Nat)
  /-- A posted write to host memory as function func, in beats of four lanes (R353, R355, R356). -/
  | hostWrite (func : Nat) (beats : List Beat)
  /-- A two-wire transfer as controller: address word, data written, bytes asked for. -/
  | twoWire (addr : Nat) (data : List Byte) (readLen : Nat)
  /-- A pulse of the IRQ ball (R342). -/
  | irq (ball : Nat)
  deriving DecidableEq, Repr

/-- The answer of the block to the last access of a host. -/
inductive Resp where
  /-- No access has been answered yet. -/
  | none
  /-- The write was accepted. -/
  | done
  /-- The value read. -/
  | data (b : List Byte)
  /-- The access was refused with this CANopen abort code (R33). -/
  | abort (code : Nat)
  /-- The write waits: a barrier's queue is full and the port holds it back (R56). -/
  | heldBack
  /-- A response frame of SPI or two-wire: STATUS, the bytes after it and their CRC (R385, R392). -/
  | frame (b : List Byte)
  /-- The access got no answer (an unattached node, a discarded frame). -/
  | silent
  deriving DecidableEq, Repr

/-- R345: a fence that waits until every source has reported up to its stamp. sources lists the dies awaited. -/
structure Fence where
  tenant : Nat
  id : Nat
  stamp : Nat
  sources : List Nat
  excused : Nat
  deriving DecidableEq, Repr

/-- R316: an open reaction shadow: what it covers and when it closes. -/
structure Shadow where
  cause : Nat
  subject : Nat
  openStamp : Nat
  closing : Nat
  deriving DecidableEq, Repr

/-- The block. -/
structure State where
  /-- The time in microseconds, which no opening changes; the tick and the era are it and TICK_OFFSET (R24, R329, R330). -/
  time : Nat
  /-- Frame boundaries since the first opening: the index of the frame in progress. -/
  frame : Nat
  /-- The registers that do not hold their reset value. -/
  regs : List (Nat × Int)
  /-- The byte strings that are not empty. -/
  blobs : List (Nat × List Byte)
  /-- R38: accepted items waiting for their boundary, in order of acceptance. -/
  landing : List Landing
  /-- R36: the staging copies of all tenants. -/
  staged : List Staged
  /-- R55: the barriers that are open, oldest first. -/
  barriers : List OpenBarrier
  /-- R56: writes that the ports hold back behind barriers, in order. -/
  heldWrites : List HeldWrite
  /-- R117, R269: what the channel dies take at the release of their channels, oldest first. -/
  late : List LateSet
  /-- Frames that wait in the transmit queues of the CAN ports (R362, R374). -/
  canQueue : List Out
  /-- R457: the operations of the security engine, in order of acceptance. -/
  signing : List SignJob
  /-- Messages on the channel dies. -/
  dieMsgs : List DieMsg
  /-- Messages that the collector has yet to classify (R306). -/
  collector : List Msg
  /-- Records that wait to be placed (R332). -/
  placing : List Placing
  /-- The contents of the rings (R331). -/
  rings : List RingData
  /-- Fences in progress (R345). -/
  fences : List Fence
  /-- Reaction shadows that are open or closing (R316). -/
  shadows : List Shadow
  /-- What the block has sent out of its ports, newest last. -/
  out : List Out
  /-- The answer to the last access. -/
  resp : Resp
  /-- The model's own: how many free values have been taken (log entry 3). -/
  free : Nat
  /-- The commands that wait, first in first out. -/
  pending : List Instr
  deriving DecidableEq, Repr

/-! ### The register file -/

/-- The value a sparse list holds for a key. -/
def lookupKey {α : Type} (l : List (Nat × α)) (k : Nat) : Option α :=
  match l with
  | [] => none
  | (k', v) :: r => if k' = k then some v else lookupKey r k

/-- A sparse list without a key. -/
def eraseKey {α : Type} (l : List (Nat × α)) (k : Nat) : List (Nat × α) :=
  l.filter fun p => p.1 != k

/-- A sparse list with one more pair, at its place in the order of the keys. -/
def insertKey {α : Type} (l : List (Nat × α)) (k : Nat) (v : α) : List (Nat × α) :=
  match l with
  | [] => [(k, v)]
  | p :: r => if k < p.1 then (k, v) :: p :: r else p :: insertKey r k v

/-- The register under key k. -/
def State.get (s : State) (k : Nat) : Int := (lookupKey s.regs k).getD (regReset k)

/-- s with the register under key k holding v. -/
def State.set (s : State) (k : Nat) (v : Int) : State :=
  { s with regs := if v = regReset k then eraseKey s.regs k else insertKey (eraseKey s.regs k) k v }

/-- The byte string under key k; empty where nothing is listed. -/
def State.blob (s : State) (k : Nat) : List Byte := (lookupKey s.blobs k).getD []

/-- s with the byte string under key k. -/
def State.setBlob (s : State) (k : Nat) (b : List Byte) : State :=
  { s with blobs := if b = [] then eraseKey s.blobs k else insertKey (eraseKey s.blobs k) k b }

/-- The canonical form of the register file: keys strictly rising, no key listed with its reset value. -/
abbrev State.Canonical (s : State) : Prop :=
  s.regs.Pairwise (fun a b => a.1 < b.1) ∧ ∀ p ∈ s.regs, p.2 ≠ regReset p.1

/-- The block before its first opening: power has just been applied, every object holds its default, nothing is in
flight, and the device is held in its first full reset (cause 1) until RESET_RELEASE (log entry 1). -/
def State.reset : State where
  time := 0
  frame := 0
  regs := []
  blobs := []
  landing := []
  staged := []
  barriers := []
  heldWrites := []
  late := []
  canQueue := []
  signing := []
  dieMsgs := []
  collector := []
  placing := []
  rings := []
  fences := []
  shadows := []
  out := []
  resp := .none
  free := 0
  pending := []

end Sys2Proof.Machine
end

