-- ==== Sys2Proof/Machine/Ops.lean ====
section
/-!
DEFINITION. The named operations over the state: registers as numbers and flags, time, free values, the deal (who holds
what, R68, R69, R506), site codes (R7 to R9, R18 to R20), raising a fault message (R305), and what is accepted now and
lands at a later frame boundary (R26, R34, R38).
-/
namespace Sys2Proof.Machine

/-! ### Registers -/

/-- A register read as an unsigned number. -/
def State.nat (s : State) (k : Nat) : Nat := (s.get k).toNat

/-- Whether a register is not 0: a BOOLEAN, or an enable. -/
def State.flag (s : State) (k : Nat) : Bool := s.get k != 0

/-- Bit b of a register. -/
def State.bit (s : State) (k b : Nat) : Bool := (s.nat k).testBit b

/-- s with a register holding an unsigned number. -/
def State.setN (s : State) (k v : Nat) : State := s.set k (v : Int)

/-- s with a BOOLEAN register put to the given value. -/
def State.setFlag (s : State) (k : Nat) (b : Bool) : State := s.setN k (bitOf b)

/-- s with bit b of a register put to the given value. -/
def State.setBit (s : State) (k b : Nat) (on : Bool) : State := s.setN k (putBit (s.nat k) b on)

/-- s with a counter one higher, held at its maximum ("saturates"). -/
def State.count (s : State) (k mx : Nat) : State := s.setN k (satTo mx (s.nat k + 1))

/-- s with a counter one higher, modulo 2 ^ w ("wraps"). -/
def State.wrapCount (s : State) (k w : Nat) : State := s.setN k ((s.nat k + 1) % 2 ^ w)

/-- A register put back to its reset value. -/
def State.restore (s : State) (k : Nat) : State := s.set k (regReset k)

/-- The update of a state by each element of a list in turn. -/
def forEach {α : Type} (l : List α) (f : α → State → State) (s : State) : State :=
  l.foldl (fun s a => f a s) s

/-- The update of a state for each number below n in turn. -/
def forBelow (n : Nat) (f : Nat → State → State) (s : State) : State := forEach (List.range n) f s

/-- The update where a condition holds. -/
def onlyIf (b : Bool) (f : State → State) (s : State) : State := if b then f s else s

/-! ### Time -/

/-- The count of the tick and the era at time t (R24, R329): the model's own time, brought to the count that the last
opening loaded (R330). -/
def State.clockAt (s : State) (t : Nat) : Nat := ((t : Int) + s.get TICK_OFFSET).toNat

/-- R28, R329: a count as a stamp: the era above the tick, the era held at 255. -/
def stampOf (c : Nat) : Nat := satTo 255 (c / 2 ^ 48) * 2 ^ 48 + c % 2 ^ 48

/-- The stamp (R28) of time t. -/
def State.stampAt (s : State) (t : Nat) : Nat := stampOf (s.clockAt t)

/-- The tick (R24): the low 48 bits of the count. -/
def State.tick (s : State) : Nat := s.clockAt s.time % 2 ^ 48

/-- The era (R329): what lies above the tick, held at 255. -/
def State.era (s : State) : Nat := satTo 255 (s.clockAt s.time / 2 ^ 48)

/-- The present stamp (R28). -/
def State.stamp (s : State) : Nat := s.stampAt s.time

/-- R25, R28: the present stamp on channel die d, by its own copy of the tick. -/
def State.stampOn (s : State) (d : Nat) : Nat := stampOf ((s.time : Int) + s.get (DIE_OFFSET d)).toNat

/-- The frame number of R24, as objects show it: 32 bits. -/
def State.frameNumber (s : State) : Nat := s.tick / 20 % 2 ^ 32

/-- The time of the next frame boundary: the first time after the last boundary whose tick is a multiple of 20. -/
def State.nextBoundary (s : State) : Nat :=
  let b := s.nat LAST_BOUNDARY
  let t := s.clockAt b % 2 ^ 48
  if 2 ^ 48 ≤ t - t % 20 + 20 then b + (2 ^ 48 - t) else b + (20 - t % 20)

/-- Nothing commanded: one microsecond passes, but time stops short of a frame boundary that has not been processed
(log entry 2). -/
def idle (s : State) : State :=
  if s.time + 1 < s.nextBoundary then { s with time := s.time + 1 } else s

/-! ### Free values -/

/-- The next free value (log entry 3), and the state that has taken it. -/
def State.takeFree (s : State) : Int × State :=
  (Config.freeValue s.free, { s with free := s.free + 1 })

/-- The next free value brought into lo to hi, and the state that has taken it. -/
def State.takeFreeIn (s : State) (lo hi : Int) : Int × State :=
  (lo + Config.freeValue s.free % (hi - lo + 1), { s with free := s.free + 1 })

/-- A register set to a free value of lo to hi. -/
def State.setFree (s : State) (k : Nat) (lo hi : Int) : State :=
  (s.takeFreeIn lo hi).2.set k (s.takeFreeIn lo hi).1

/-! ### Places -/

/-- The die of a channel, 0 to 3. -/
def dieOf (n : Nat) : Nat := n / 128

/-- The global bank of a channel, 0 to 31. -/
def bankOf (n : Nat) : Nat := n / 16

/-- Whether a channel is anchored: channel of bank 0 of its die (chapter 4, Anchored channels). -/
def isAnchored (n : Nat) : Bool := n % 128 < 16

/-- R7: the site of an element of a channel die: die code, half, bank within the half, unit, element, cell. -/
def siteCode (die half bank unit elem cell : Nat) : Nat :=
  die * 2 ^ 29 + half * 2 ^ 28 + bank * 2 ^ 26 + unit * 2 ^ 22 + elem * 2 ^ 14 + cell

/-- The site of element e of channel n; e = 0 is the whole channel (R9). -/
def siteChannel (n e : Nat) : Nat :=
  siteCode (dieOf n + 1) (n % 128 / 64) (n % 64 / 16) (n % 16) e 0

/-- The site of element e of global bank k (R18). -/
def siteBank (k e : Nat) : Nat := siteCode (k / 8 + 1) (k % 8 / 4) (k % 4) 0 e 0

/-- The site of element e of channel die d, 0 to 3 (R18). -/
def siteDie (d e : Nat) : Nat := siteCode (d + 1) 0 0 0 e 0

/-- R8, R19: the site of block b of the control die. -/
def siteBlock (b e c : Nat) : Nat := b * 2 ^ 22 + e * 2 ^ 14 + c

/-- R20: the site of block b of die code 7. -/
def siteBackup (b : Nat) : Nat := 7 * 2 ^ 29 + b * 2 ^ 22

/-- The site of the object dictionary server (R504, R505). -/
def siteServer : Nat := siteBlock 0x04 0 0

/-- The site of the Amlor link endpoint towards die d (R504, R507). -/
def siteLink (d : Nat) : Nat := siteBlock (0x50 + d) 0 0

/-- The site of the whole control die. -/
def siteControl : Nat := siteBlock 0x7F 0 0

/-! ### The deal -/

/-- The tenants TN01 to TN15. -/
def dealtTenants : List Nat := (List.range 15).map (· + 1)

/-- The first tenant after TN00 whose deal field has bit b set, or TN00 (R32, R68). -/
def State.dealtTo (s : State) (fieldOf : Nat → Nat) (b : Nat) : Nat :=
  (dealtTenants.find? fun t => s.bit (fieldOf t) b).getD 0

/-- The tenant whose hand holds channel n. -/
def State.holderOfChannel (s : State) (n : Nat) : Nat :=
  s.dealtTo (fun t => TENANT.CHANNELS t (n / 64)) (n % 64)

/-- The tenant whose hand holds converter m. -/
def State.holderOfConverter (s : State) (m : Nat) : Nat := s.dealtTo TENANT.CONVERTERS m

/-- R69: the tenant that holds lane l: that of its converter, or TN00 while it is unassigned. -/
def State.holderOfLane (s : State) (l : Nat) : Nat :=
  let m := s.nat (LANE.CONVERTER l)
  if m < 4 then s.holderOfConverter m else 0

/-- The tenant that holds budget group g. -/
def State.holderOfBudget (s : State) (g : Nat) : Nat := s.dealtTo TENANT.BUDGET_GROUPS g

/-- The tenant that holds sequencing group g. -/
def State.holderOfGroup (s : State) (g : Nat) : Nat := s.dealtTo TENANT.SEQ_GROUPS g

/-- The tenant that holds castling pair p. -/
def State.holderOfPair (s : State) (p : Nat) : Nat := s.dealtTo TENANT.PAIRS p

/-- The tenant that holds stream d. -/
def State.holderOfStream (s : State) (d : Nat) : Nat := s.dealtTo TENANT.STREAMS d

/-- Whether tenant t is a kibitzer. -/
def State.isKibitzer (s : State) (t : Nat) : Bool := s.flag (TENANT.KIBITZER t)

/-- R73: the tenant that the deal names for target g: its holder, or the kibitzer it is lent to. -/
def State.dealtTarget (s : State) (g : Nat) : Nat := s.dealtTo TENANT.TARGETS g

/-- R73: the tenant that holds target g; TN00 holds the lent ones. -/
def State.holderOfTarget (s : State) (g : Nat) : Nat :=
  let t := s.dealtTarget g
  if s.isKibitzer t then 0 else t

/-- Whether ring q lies in the range of tenant t. -/
def State.ringInRange (s : State) (t q : Nat) : Bool :=
  s.nat (TENANT.RING_BASE t) ≤ q && q < s.nat (TENANT.RING_BASE t) + s.nat (TENANT.RING_COUNT t)

/-- R73: the tenant that the deal names for ring q. Q0000 is never dealt (R70). -/
def State.dealtRing (s : State) (q : Nat) : Nat :=
  (dealtTenants.find? fun t => s.ringInRange t q).getD 0

/-- R73: the tenant that holds ring q; TN00 holds the lent ones. -/
def State.holderOfRing (s : State) (q : Nat) : Nat :=
  let t := s.dealtRing q
  if s.isKibitzer t then 0 else t

/-- R332: the system ring of a tenant: the first of its range, and Q0000 for TN00. -/
def State.systemRing (s : State) (t : Nat) : Option Nat :=
  if t = 0 then some 0
  else if s.nat (TENANT.RING_COUNT t) = 0 then none else some (s.nat (TENANT.RING_BASE t))

/-- R67: whether a tenant is admitted: it has an endpoint and ADMITTED is TRUE; TN00 is admitted from opening. -/
def State.admitted (s : State) (t : Nat) : Bool :=
  t == 0 || (s.flag (TENANT.ADMITTED t) && s.nat (TENANT.ENDPOINT t) != 0)

/-- The channels that the hand of tenant t holds (R32: TN00 holds what no other tenant does). -/
def State.handChannels (s : State) (t : Nat) : List Nat :=
  (List.range 512).filter fun n => s.holderOfChannel n == t

/-- Whether tenant t holds at least one channel of those from lo, len of them. -/
def State.holdsAny (s : State) (t lo len : Nat) : Bool :=
  (List.range len).any fun i => s.holderOfChannel (lo + i) == t

/-- R506: whether a site lies in the hand of tenant t. The site of the battery switch is CV1's (R243). -/
def State.siteInHand (s : State) (t site : Nat) : Bool :=
  let die := site / 2 ^ 29
  let block := site / 2 ^ 22 % 128
  let elem := field site 14 8
  if die = 0 then
    if 0x30 ≤ block && block ≤ 0x33 then s.holderOfConverter (block - 0x30) == t
    else if 0x10 ≤ block && block ≤ 0x2F then s.holderOfLane ((block - 0x10) % 16) == t
    else false
  else if die = 7 then false
  else
    let base := (die - 1) * 128
    if elem < 0x80 then s.holderOfChannel (base + block / 16 * 16 + block % 16) == t
    else if elem < 0xC0 then s.holdsAny t (base + block / 16 * 16) 16
    else if elem < 0xE0 then s.holdsAny t (base + block / 64 * 64) 64
    else s.holdsAny t base 128

/-- R506: whether a site lies in no hand. -/
def siteInNoHand (site : Nat) : Bool :=
  let block := site / 2 ^ 22 % 128
  site / 2 ^ 29 = 7 || (site / 2 ^ 29 = 0 && !(0x10 ≤ block && block ≤ 0x33))

/-! ### Links and dies -/

/-- Whether the Amlor link to die d is up, on one lane or on two. -/
def State.linkUp (s : State) (d : Nat) : Bool := 2 ≤ s.nat (AMLOR_LINK.LINK_STATE d)

/-- R17, R26: how many boundaries after acceptance a write to die d lands: two, or three on one lane. -/
def State.dieDelay (s : State) (d : Nat) : Nat := if s.nat (AMLOR_LINK.LINK_STATE d) = 3 then 3 else 2

/-- Whether the control die runs: not held in reset, in Park or without supply. -/
def State.live (s : State) : Bool := s.nat DEV_STATE == 1

/-- Whether what is sent to die d now reaches it: its link is up, its last downlink frame was valid, and its logic runs. -/
def State.dieHears (s : State) (d : Nat) : Bool := s.linkUp d && !s.flag (DL_BAD d) && !s.flag (LOGIC_OFF d)

/-- R13: whether a command of the control die reaches channel n now. -/
def State.commands (s : State) (n : Nat) : Bool := s.live && s.dieHears (dieOf n)

/-! ### Fault messages -/

/-- R305: a message of the control die or the backup domain reaches the collector. -/
def State.raise (s : State) (k : Kind) (site tenant obj : Nat) (fields : List (Nat × Int)) : State :=
  { s with collector := s.collector ++ [⟨s.stamp, site, k, tenant, obj, fields, false⟩] }

/-- R305, R14, R115: a message of channel die d leaves in an event block; while the link is down the die holds it. -/
def State.raiseDie (s : State) (d : Nat) (k : Kind) (site tenant obj : Nat) (fields : List (Nat × Int)) : State :=
  { s with dieMsgs := s.dieMsgs ++ [⟨d, ⟨s.stampOn d, site, k, tenant, obj, fields, !s.linkUp d⟩⟩] }

/-- A message of element e of channel n, in the name of its holder. The payload begins with the channel. -/
def State.raiseChannel (s : State) (k : Kind) (n e obj : Nat) (fields : List (Nat × Int)) : State :=
  s.raiseDie (dieOf n) k (siteChannel n e) (s.holderOfChannel n) obj ((2, (n : Int)) :: fields)

/-- A payload field of one byte (R333). -/
def f8 (v : Int) : Nat × Int := (1, v)
/-- A payload field of two bytes. -/
def f16 (v : Int) : Nat × Int := (2, v)
/-- A payload field of four bytes. -/
def f32 (v : Int) : Nat × Int := (4, v)

/-! ### Landing -/

/-- R26, R38: an accepted item that takes effect `delay` boundaries after the present frame. -/
def State.land (s : State) (tenant delay : Nat) (a : LandAct) : State :=
  { s with landing := s.landing ++ [⟨tenant, s.frame + delay, s.time, a, false⟩] }

/-- The block sends something out of a port. -/
def State.emit (s : State) (o : Out) : State := { s with out := s.out ++ [o] }

/-- The answer to a host. -/
def State.answer (s : State) (r : Resp) : State := { s with resp := r }

end Sys2Proof.Machine
end

