-- ==== Sys2Proof/Machine/Flags.lean ====
section
/-!
DEFINITION. The places of the flags: the layouts of the status registers of the chapters, each bit under its name in
spec/, and the flags that follow from others.
-/
namespace Sys2Proof.Machine

/-! ### FLAGS of a channel (chapter 4) -/

abbrev FLAG.WAITING_ADMISSION : Nat := 0
abbrev FLAG.KEPT_SETTINGS : Nat := 1
abbrev FLAG.CURRENT_OVERRANGE : Nat := 2
abbrev FLAG.SHUNT_TEMP_STALE : Nat := 3
abbrev FLAG.SHUNT_NOT_SET : Nat := 4
abbrev FLAG.CAL_DEGRADED : Nat := 5
abbrev FLAG.PUMP_LOW : Nat := 6
abbrev FLAG.BUS_UV : Nat := 7
abbrev FLAG.TRUMP_HELD : Nat := 8
abbrev FLAG.ANCHORED : Nat := 9
abbrev FLAG.GENTLE_START : Nat := 10

/-! ### BANK_FLAGS (chapter 4) -/

abbrev BFLAG.RUNNING : Nat := 0
abbrev BFLAG.READY : Nat := 1
abbrev BFLAG.PUMP_LOW : Nat := 2
abbrev BFLAG.BUS_UV : Nat := 3
abbrev BFLAG.SAG_HOLD : Nat := 4
abbrev BFLAG.CAL_DEGRADED : Nat := 5

/-! ### MODEL_FLAGS (chapter 5) -/

abbrev MFLAG.WIRE_WARNING : Nat := 0
abbrev MFLAG.WIRE_OWED : Nat := 1
abbrev MFLAG.FET_WARNING : Nat := 2
abbrev MFLAG.FET_OWED : Nat := 3
abbrev MFLAG.WIRE_REF_STALE : Nat := 4
abbrev MFLAG.FET_REF_STALE : Nat := 5
abbrev MFLAG.COOLING_WAIT : Nat := 6
abbrev MFLAG.OPEN_LAMP : Nat := 7
abbrev MFLAG.LAMP_ENVELOPE : Nat := 8

/-! ### WINDOW_STATUS (chapters 6 and 7) -/

abbrev WFLAG.GOOD : Nat := 0
abbrev WFLAG.UNDER : Nat := 1
abbrev WFLAG.NEAR_LOW : Nat := 2
abbrev WFLAG.OVER : Nat := 3
abbrev WFLAG.NEAR_HIGH : Nat := 4
abbrev WFLAG.LOWER_JUDGING : Nat := 5
abbrev WFLAG.NOT_DISCHARGED : Nat := 6

/-! ### Reading the flags -/

/-- A bit of FLAGS of channel n. -/
def State.chFlag (s : State) (n b : Nat) : Bool := s.bit (CHANNEL_STATUS.FLAGS n) b

/-- A bit of MODEL_FLAGS of channel n. -/
def State.modelFlag (s : State) (n b : Nat) : Bool := s.bit (CHANNEL_PROTECTION.MODEL_FLAGS n) b

/-- A bit of BANK_FLAGS of bank k. -/
def State.bankFlag (s : State) (k b : Nat) : Bool := s.bit (BANK.BANK_FLAGS k) b

/-- FLAGS of channel n with one bit put. -/
def State.setChFlag (s : State) (n b : Nat) (on : Bool) : State := s.setBit (CHANNEL_STATUS.FLAGS n) b on

/-- MODEL_FLAGS of channel n with one bit put. -/
def State.setModelFlag (s : State) (n b : Nat) (on : Bool) : State :=
  s.setBit (CHANNEL_PROTECTION.MODEL_FLAGS n) b on

/-- Whether channel n owes cooling to either model (R136, R138). -/
def State.coolingOwed (s : State) (n : Nat) : Bool :=
  s.modelFlag n MFLAG.WIRE_OWED || s.modelFlag n MFLAG.FET_OWED

/-- A bank flag put, with the mirror that each channel of the bank shows (chapter 4, FLAGS layout). -/
def State.setBankFlag (s : State) (k b mirror : Nat) (on : Bool) : State :=
  forBelow 16 (fun i s => s.setChFlag (16 * k + i) mirror on) (s.setBit (BANK.BANK_FLAGS k) b on)

end Sys2Proof.Machine
end

