-- ==== Sys2Proof/Machine/Good.lean ====
section
/-!
DEFINITION. The cell states of a channel (R88), whether it is GOOD (R170), the sequencing groups (R155) and the
supervised reset outputs that follow from them (R176, R177).
-/
namespace Sys2Proof.Machine

/-! ### Cell states (R88) -/

abbrev ST.OFF : Nat := 0
abbrev ST.RAMP : Nat := 1
abbrev ST.ON : Nat := 2
abbrev ST.PWM : Nat := 3
abbrev ST.LIMIT : Nat := 4
abbrev ST.TRIP : Nat := 5
abbrev ST.RETRY : Nat := 6
abbrev ST.LOCKOUT : Nat := 7
abbrev ST.STANDING : Nat := 8

/-- R113: STANDING_GATE for a cell state: 0 off, 1 on, 2 PWM, 3 ramping, 4 tripped and retrying, 5 locked out. -/
def standingGate (cell : Nat) : Nat :=
  match cell with
  | 1 => 3
  | 2 | 4 => 1
  | 3 => 2
  | 5 | 6 => 4
  | 7 => 5
  | _ => 0

/-- The cell state of channel n. -/
def State.cell (s : State) (n : Nat) : Nat := s.nat (CELL n)

/-- Whether channel n stands (R113). -/
def State.standing (s : State) (n : Nat) : Bool := s.nat (CHANNEL_STATUS.STANDING_CAUSE n) != 0

/-- STATE and STANDING_GATE as they follow from the cell and from whether the channel stands. -/
def State.showState (s : State) (n : Nat) : State :=
  if s.standing n then
    (s.setN (CHANNEL_STATUS.STATE n) ST.STANDING).setN (CHANNEL_STATUS.STANDING_GATE n) (standingGate (s.cell n))
  else (s.setN (CHANNEL_STATUS.STATE n) (s.cell n)).setN (CHANNEL_STATUS.STANDING_GATE n) 0

/-! ### Sequencing groups (R155) -/

/-- Whether channel n is a member of sequencing group g. -/
def State.inGroup (s : State) (g n : Nat) : Bool := s.bit (SEQ_GROUP.MEMBERS g (n / 64)) (n % 64)

/-- The members of sequencing group g, ascending. -/
def State.members (s : State) (g : Nat) : List Nat := (List.range 512).filter fun n => s.inGroup g n

/-- GOOD of channel n (R170). -/
def State.isGood (s : State) (n : Nat) : Bool := s.bit (WIN n) WFLAG.GOOD

/-- GROUP_GOOD of group g: every member is GOOD; FALSE for an empty group. -/
def State.groupGood (s : State) (g : Nat) : Bool := s.members g != [] && (s.members g).all fun n => s.isGood n

/-! ### Reset outputs (R175 to R177) -/

/-- R182: the site of reset output r. -/
def siteRso (r : Nat) : Nat := siteBlock 0x7F (0x10 + r) 0

/-- R176: whether the source of output r is good. -/
def State.rsoSource (s : State) (r : Nat) : Bool :=
  match s.nat (RESET_OUTPUT.SOURCE_KIND r) with
  | 1 => s.isGood (s.nat (RESET_OUTPUT.SOURCE_INDEX r))
  | 2 => s.groupGood (s.nat (RESET_OUTPUT.SOURCE_INDEX r))
  | _ => false

/-- Output r changes: asserted or released, for a cause (0 source, 1 FORCE). -/
def State.rsoChange (s : State) (r : Nat) (asserted : Bool) (cause : Nat) : State :=
  if s.flag (RESET_OUTPUT.OUTPUT r) = asserted then s
  else
    let s := (s.setFlag (RESET_OUTPUT.OUTPUT r) asserted).setN (RESET_OUTPUT.LAST_CHANGE_STAMP r) s.stamp
    let s := if asserted then s.count (RESET_OUTPUT.ASSERT_COUNT r) 0xFFFF else s
    s.raise .RSO_CHANGED (siteRso r) 0 0 [f8 r, f8 (bitOf asserted), f8 cause]

/-- R175, R298: whether ball RSO r sinks: the output is asserted and VIO, which is off in Park and without VBAT, is on. -/
def State.rsoSinks (s : State) (r : Nat) : Bool := s.flag (RESET_OUTPUT.OUTPUT r) && s.nat DEV_STATE < 2

/-- R176: output r follows its source: it asserts when the source stops being good; the moment from which the source is
good is kept. -/
def State.rsoFollow (s : State) (r : Nat) : State :=
  if s.rsoSource r then
    if s.nat (RSO_GOOD_SINCE r) = 0 then s.setN (RSO_GOOD_SINCE r) (s.time + 1) else s
  else (s.setN (RSO_GOOD_SINCE r) 0).rsoChange r true 0

/-- R177: FORCE of output r takes effect. -/
def State.rsoForce (s : State) (r v : Nat) : State :=
  let s := s.setN (inForce (RESET_OUTPUT.FORCE r)) v
  if v = 1 then s.rsoChange r true 1 else s.setN (RSO_CLEAR_AT r) s.time

/-- R176: output r releases: FORCE is 0 and the source has been good for STRETCH since the later of the two moments. -/
def State.rsoRelease (s : State) (r : Nat) : State :=
  let since := max (s.nat (RSO_GOOD_SINCE r) - 1) (s.nat (RSO_CLEAR_AT r))
  if s.nat (inForce (RESET_OUTPUT.FORCE r)) = 0 && s.nat (RSO_GOOD_SINCE r) != 0 &&
      since + 1000 * s.nat (RESET_OUTPUT.STRETCH r) ≤ s.time then
    s.rsoChange r false (bitOf (s.nat (RSO_GOOD_SINCE r) ≤ s.nat (RSO_CLEAR_AT r)))
  else s

/-! ### GOOD (R170, R171) -/

/-- R170: what GOOD of channel n is now. -/
def State.goodNow (s : State) (n : Nat) : Bool :=
  let w := s.nat (WIN n)
  let c := s.cell n
  if s.nat (CHANNEL_SUPERVISION.WINDOW_MODE n) = 1 then
    w.testBit WFLAG.LOWER_JUDGING && !w.testBit WFLAG.UNDER && !w.testBit WFLAG.OVER
  else if s.standing n then standingGate c == 1 || standingGate c == 2
  else c == ST.ON || c == ST.PWM

/-- WINDOW_STATUS of channel n: 0 while WINDOW_MODE is 0. -/
def State.windowStatus (s : State) (n : Nat) : Nat :=
  if s.nat (CHANNEL_SUPERVISION.WINDOW_MODE n) = 1 then s.nat (WIN n) else 0

/-- R170, R171, R176: GOOD of channel n follows; a change raises GOOD_CHANGED and moves the reset outputs. -/
def State.updateGood (s : State) (n : Nat) : State :=
  if s.goodNow n = s.isGood n then s
  else
    let s := s.setBit (WIN n) WFLAG.GOOD (s.goodNow n)
    let s := s.raiseChannel .GOOD_CHANGED n 0 0 [f8 (bitOf (s.isGood n)), f8 (s.windowStatus n)]
    forBelow 16 (fun r s => s.rsoFollow r) s

/-- What an entry to a cell state, or to or from standing, shows: STATE, STANDING_GATE and GOOD. -/
def State.showCell (s : State) (n : Nat) : State := (s.showState n).updateGood n

end Sys2Proof.Machine
end

