-- ==== Sys2Proof/Machine/Channel.lean ====
section
/-!
DEFINITION. The channel cell (chapter 4): its states and gate, the bank's charge pump, ramps, PWM, REQUEST and its
landing, and how a channel turns off, asks for admission or trips (chapter 5).
-/
namespace Sys2Proof.Machine

/-! ### Charge pump (R90 to R93) -/

/-- R91: whether bank k needs its pump: PUMP_MODE 1 with the bus above BUS_UV_LEVEL, a channel outside OFF, RETRY and
LOCKOUT, or an anchored latch that is on. -/
def State.pumpNeeded (s : State) (k : Nat) : Bool :=
  if s.nat (BANK.PUMP_MODE k) = 1 then s.get (BANK.BUS_UV_LEVEL k) < s.get (VBUS_LAST k)
  else (List.range 16).any fun i =>
    let c := s.cell (16 * k + i)
    !(c == ST.OFF || c == ST.RETRY || c == ST.LOCKOUT) || (isAnchored (16 * k) && s.flag (LATCH (16 * k + i)))

/-- R91, R92: the pump of bank k starts, keeps running, or is set to stop 1 ms from now. -/
def State.pumpUpdate (s : State) (k : Nat) : State :=
  let running := s.bankFlag k BFLAG.RUNNING
  if s.pumpNeeded k then
    if running then s.setN (PUMP_STOP_AT k) 0
    else ((s.setBit (BANK.BANK_FLAGS k) BFLAG.RUNNING true).setN (PUMP_START k) s.time).setN (PUMP_STOP_AT k) 0
  else if running && s.nat (PUMP_STOP_AT k) = 0 then s.setN (PUMP_STOP_AT k) (s.time + 1000)
  else s

/-- R92, R93: rising edges of PWM in bank k pause: the pump is not ready or low, or the bus is low. -/
def State.edgePaused (s : State) (k : Nat) : Bool :=
  !s.bankFlag k BFLAG.READY || s.bankFlag k BFLAG.PUMP_LOW || s.bankFlag k BFLAG.BUS_UV

/-- R92, R93: ramps in bank k pause: as rising edges, and while the bus sags. -/
def State.rampPaused (s : State) (k : Nat) : Bool := s.edgePaused k || s.bankFlag k BFLAG.SAG_HOLD

/-! ### Entering a state -/

/-- The time from which a channel has run in ON or PWM is kept up (R137): it stops at an exit, and a trip clears it. -/
def State.runClock (s : State) (n st : Nat) : State :=
  let was := s.cell n == ST.ON || s.cell n == ST.PWM
  let now := st == ST.ON || st == ST.PWM
  if st == ST.TRIP || st == ST.OFF then (s.setN (RUN_SPENT n) 0).setN (RUN_SINCE n) 0
  else if now && !was then s.setN (RUN_SINCE n) s.time
  else if was && !now then s.setN (RUN_SPENT n) (s.nat (RUN_SPENT n) + (s.time - s.nat (RUN_SINCE n)))
  else s

/-- R127: the time that channel n spends in LIMIT is kept up as it enters and leaves. -/
def State.limitClock (s : State) (n st : Nat) : State :=
  if st = ST.LIMIT then
    let s := if s.flag (LIMIT_EPISODE n) then s else (s.setN (LIMIT_EPISODE n) 1).setN (LIMIT_SPENT n) 0
    s.setN (LIMIT_SINCE n) s.time
  else if s.cell n = ST.LIMIT then
    (s.setN (LIMIT_SPENT n) (s.nat (LIMIT_SPENT n) + (s.time - s.nat (LIMIT_SINCE n)))).setN (LIMIT_LEFT n) s.time
  else s

/-- The gate driver of channel n for a cell state (R88). -/
def State.gateFor (s : State) (n st : Nat) : Nat :=
  match st with
  | 1 => if s.rampPaused (bankOf n) then 6 else 1
  | 2 => 2
  | 3 => if s.flag (PWM_HIGH n) then 2 else 5
  | 4 => 3
  | _ => 0

/-- Channel n enters a cell state: its gate follows (R88), flags that last until the next OFF clear there (R148,
FLAGS layout), a series of low lamp readings is broken (R148), an anchored latch follows the gate, and the bank's pump is
judged (R91). -/
def State.cellTo (s : State) (n st : Nat) : State :=
  let s := (s.runClock n st).limitClock n st
  let s := if s.cell n = st then s else s.setN (LAMP_LOW n) 0
  let s := (s.setN (CELL n) st).setN (GATE n) (s.gateFor n st)
  let s := if st = ST.OFF then
      (((s.setChFlag n FLAG.GENTLE_START false).setModelFlag n MFLAG.OPEN_LAMP false).setModelFlag n
        MFLAG.LAMP_ENVELOPE false).setN (LAMP_TOLD n) 0
    else s
  let s := if isAnchored n then s.setFlag (LATCH n) (1 ≤ st && st ≤ 4) else s
  (s.showCell n).pumpUpdate (bankOf n)

/-- A channel that leaves the queue for admission (R95, R140). -/
def State.withdraw (s : State) (n : Nat) : State :=
  ((s.setN (ADMIT_KIND n) 0).setN (START_AT n) 0).setChFlag n FLAG.WAITING_ADMISSION false

/-- Channel n turns off through a gate stage: 5 the sink stage, 4 the emergency pull-down. Pending edges and requests
for admission go. -/
def State.turnOff (s : State) (n stage : Nat) : State :=
  ((((s.withdraw n).setN (PEND n) 0).setN (PWM_HIGH n) 0).cellTo n ST.OFF).setN (GATE n) stage

/-- R316: a shadow opens; closing 0 leaves its end to be set. -/
def State.openShadow (s : State) (cause subject closing : Nat) : State :=
  { s with shadows := s.shadows ++ [⟨cause, subject, s.stamp, closing⟩] }

/-- R316: the closing time of a shadow that is still open is set. -/
def State.setClosing (s : State) (cause subject closing : Nat) : State :=
  { s with shadows := s.shadows.map fun x =>
      if x.cause == cause && x.subject == subject && x.closing == 0 then { x with closing := closing } else x }

/-- R88, R124: whether the gate of channel n falls by its sink stage or its emergency pull-down and the static hold has not
yet taken over. -/
def State.gateFalls (s : State) (n : Nat) : Bool :=
  let g := s.nat (GATE n)
  let c := s.cell n
  (g == 4 || g == 5) && (c == ST.OFF || c == ST.TRIP || c == ST.LOCKOUT || (c == ST.PWM && !s.flag (PWM_HIGH n)))

/-- R88, R124: VGS of channel n has fallen below 1.0 V: the static hold takes over. -/
def State.gateHeld (s : State) (n : Nat) : State := if s.gateFalls n then s.setN (GATE n) 0 else s

/-- R88: whether VGS of a channel that falls outside TRIP has passed 1.0 V by a frame boundary; no command tells it, so a
free value does. The shadow of a trip that it left closes 1 ms later (R316). -/
def State.gateSettles (s : State) (n : Nat) : State :=
  if s.gateFalls n && s.cell n != ST.TRIP then
    let f := s.takeFreeIn 0 1
    if f.1 = 1 then (f.2.setN (GATE n) 0).setClosing 1 n (f.2.stamp + 1000) else f.2
  else s

/-! ### Admission and ramps (R94, R140, R142) -/

/-- R140: channel n asks for admission: kind 1 for a request from OFF, 2 for a retry, 3 for a castling swap. -/
def State.askAdmission (s : State) (n kind : Nat) : State :=
  (((s.setN (ADMIT_KIND n) kind).setN (ADMIT_SINCE n) s.frame).setN (CHANNEL_PROTECTION.ADMIT_WAIT n) 0).setChFlag n
    FLAG.WAITING_ADMISSION true

/-- Whether channel n waits for admission or for its admitted start. -/
def State.waiting (s : State) (n : Nat) : Bool := s.nat (ADMIT_KIND n) != 0 || s.nat (START_AT n) != 0

/-- R146: the lamp envelope of channel n starts. -/
def State.lampStart (s : State) (n : Nat) : State :=
  if s.flag (CHANNEL_PROTECTION.LAMP_MODE n) then
    (s.setN (LAMP_AT n) s.time).setModelFlag n MFLAG.LAMP_ENVELOPE true
  else s

/-- R123: the end of the blanking that begins now on channel n. -/
def State.blankEnd (s : State) (n : Nat) : Nat := s.time + s.nat (CHANNEL_PROTECTION.HARD_SHORT_BLANK n)

/-- R94: a ramp of channel n starts now; gentle at one quarter of GATE_SOURCE (R114). retry: counted in RETRIES and not
in STARTS (R180). Blanking begins with the source stage: now, or when its pause ends (R123). -/
def State.startRamp (s : State) (n : Nat) (gentle retry : Bool) : State :=
  let s := s.withdraw n
  let s := s.count (if retry then CHANNEL_SUPERVISION.RETRIES n else CHANNEL_SUPERVISION.STARTS n) 0xFFFF
  let s := (s.setBit (WIN n) WFLAG.NOT_DISCHARGED false).setN (ND_GROUP n) 0
  let s := (s.setN (RAMP_START n) s.time).setN (BLANK_UNTIL n) (if s.rampPaused (bankOf n) then 0 else s.blankEnd n)
  let s := s.setFlag (RAMP_RETRY n) retry
  let s := if retry then
      s.raiseChannel .RETRY_STARTED n 0x26 0
        [f8 (s.get (CHANNEL_PROTECTION.RETRIES_LEFT n)), f32 (s.nat (RETRY_STRETCH n))]
    else s
  ((s.setChFlag n FLAG.GENTLE_START gentle).cellTo n ST.RAMP).lampStart n

/-! ### PWM (R106 to R108) -/

/-- The PWM period of channel n in force, in microseconds. -/
def State.pwmPeriod (s : State) (n : Nat) : Nat := s.nat (inForce (CHANNEL_CONFIG.PWM_PERIOD n))

/-- The PWM duty of channel n in force. -/
def State.pwmDuty (s : State) (n : Nat) : Nat := s.nat (inForce (CHANNEL_CONFIG.PWM_DUTY n))

/-- R107: the stagger class of channel n: the channels of its bank in PWM, in mode 0, with an equal period. DESIGN CHOICE (log
entry 77): a channel whose PWM is about to begin counts in its own class. -/
def State.staggerClass (s : State) (n : Nat) : List Nat :=
  ((List.range 16).map (16 * bankOf n + ·)).filter fun m =>
    m == n || (s.cell m == ST.PWM && s.nat (CHANNEL_CONFIG.PWM_PHASE_MODE m) == 0 && s.pwmPeriod m == s.pwmPeriod n)

/-- R107: the offset of the phase instants of channel n, in microseconds. -/
def State.pwmOffset (s : State) (n : Nat) : Nat :=
  if s.nat (CHANNEL_CONFIG.PWM_PHASE_MODE n) = 1 then
    s.pwmPeriod n * s.nat (CHANNEL_CONFIG.PWM_PHASE n) / 65536
  else
    let l := s.staggerClass n
    s.pwmPeriod n * (l.filter (· < n)).length / l.length

/-- R107: the first phase instant of channel n at or after time t. -/
def State.nextPhase (s : State) (n t : Nat) : Nat :=
  let p := s.pwmPeriod n
  t + (p - (s.clockAt t % 2 ^ 48 + p - s.pwmOffset n) % p) % p

/-- R95, R117: PWM of channel n begins at its next phase instant; until then the gate stays as it is. -/
def State.pendPwm (s : State) (n : Nat) : State :=
  (s.setN (PEND n) 2).setN (PWM_NEXT n) (s.nextPhase n (s.time + 1))

/-- R106: the rising edge of the on-time in progress. -/
def State.riseEdge (s : State) (n : Nat) : State :=
  (((((s.setN (PWM_HIGH n) 1).setN (PWM_HELD n) 0).setN (GATE n) 2).setN (RISE_AT n) s.time).setN (BLANK_UNTIL n)
    (s.blankEnd n)).lampStart n

/-- R92, R93, R106, R123: what resumes in bank k when a pause ends: ramps, with the blanking of one whose source stage starts
now, and held rising edges whose planned off edge has not passed; and what stops when one begins. -/
def State.bankPauses (s : State) (k : Nat) : State :=
  forBelow 16 (fun i s =>
    let n := 16 * k + i
    if s.cell n = ST.RAMP then
      let s := if !s.rampPaused k && s.nat (BLANK_UNTIL n) == 0 then s.setN (BLANK_UNTIL n) (s.blankEnd n) else s
      s.setN (GATE n) (s.gateFor n ST.RAMP)
    else if s.cell n = ST.PWM && s.flag (PWM_HELD n) && !s.edgePaused k && s.time * 160 < s.nat (PWM_OFF n) then
      s.riseEdge n
    else s) s

/-! ### REQUEST at its boundary (R95) -/

/-- R137, R138, R140, R424: a request from OFF: RETRIES_LEFT is set; it is stored during a thermal shutdown, waits while
cooling is owed, or asks for admission. -/
def State.requestFromOff (s : State) (n : Nat) : State :=
  let s := s.setN (CHANNEL_PROTECTION.RETRIES_LEFT n) (s.nat (CHANNEL_PROTECTION.RETRY_COUNT n))
  if s.nat (THERMAL_DIE.DIE_STATE (dieOf n + 1)) = 3 then s.setN (STORED_WAIT n) 1
  else if s.coolingOwed n then s.setModelFlag n MFLAG.COOLING_WAIT true
  else s.askAdmission n 1

/-- R95, R121: REQUEST 0 acts. A trip ends in OFF, and its gate goes on falling by the stage of its cause. -/
def State.requestOff (s : State) (n : Nat) : State :=
  let s := (s.setModelFlag n MFLAG.COOLING_WAIT false).setN (STORED_WAIT n) 0
  match s.cell n with
  | 1 | 2 | 3 | 4 => s.turnOff n 5
  | 5 => (s.turnOff n (s.nat (GATE n))).setN (TRIP_STATE n) 0
  | 6 => s.turnOff n 0
  | 0 => s.withdraw n
  | _ => s

/-- R95: REQUEST 1 acts. -/
def State.requestOn (s : State) (n : Nat) : State :=
  match s.cell n with
  | 0 =>
    if s.waiting n || s.modelFlag n MFLAG.COOLING_WAIT || s.flag (STORED_WAIT n) then s else s.requestFromOff n
  | 2 => s.setN (PEND n) 0
  | 3 => s.setN (PEND n) 1
  | 4 => s.setN (PEND n) (if s.nat (LIMIT_FROM n) = ST.PWM then 1 else 0)
  | _ => s

/-- R95: REQUEST 2 acts. -/
def State.requestPwm (s : State) (n : Nat) : State :=
  match s.cell n with
  | 0 =>
    if s.waiting n || s.modelFlag n MFLAG.COOLING_WAIT || s.flag (STORED_WAIT n) then s else s.requestFromOff n
  | 2 => s.pendPwm n
  | 3 => s.setN (PEND n) 0
  | 4 => if s.nat (LIMIT_FROM n) = ST.PWM then s.setN (PEND n) 0 else s.pendPwm n
  | _ => s

/-- R95, R118, R424: what REQUEST in force makes of channel n; stored only, in LOCKOUT, in STANDING and without the logic of
its die. A REQUEST of 1 or 2 is stored until the end of a thermal shutdown. -/
def State.actOnRequest (s : State) (n : Nat) : State :=
  if s.standing n || s.cell n = ST.LOCKOUT || s.flag (LOGIC_OFF (dieOf n)) then s
  else
    match s.nat (inForce (CHANNEL_CONFIG.REQUEST n)) with
    | 0 => s.requestOff n
    | v + 1 => if s.cell n != ST.OFF && s.nat (THERMAL_DIE.DIE_STATE (dieOf n + 1)) == 3 then s.setN (STORED_WAIT n) 1
      else if v = 0 then s.requestOn n else s.requestPwm n

/-- REQUEST of channel n set by the device: the value accepted and the one in force (R78, R96, R152, R424). -/
def State.setRequest (s : State) (n v : Nat) : State :=
  (s.setN (CHANNEL_CONFIG.REQUEST n) v).setN (inForce (CHANNEL_CONFIG.REQUEST n)) v

/-! ### Trips (R135, R136) -/

/-- R180: the counter of a trip cause. -/
def tripCounter (n cause : Nat) : Nat :=
  match cause with
  | 1 => CHANNEL_SUPERVISION.HARD_TRIPS n
  | 2 | 3 => CHANNEL_SUPERVISION.MODEL_TRIPS n
  | _ => CHANNEL_SUPERVISION.TIMEOUT_TRIPS n

/-- R135, R136: channel n trips: the state it tripped in, the cause, what it owes, its counter; its gate goes down by
`stage`, its request for admission goes, and its trip shadow opens (R316, cause 1). -/
def State.trip (s : State) (n cause stage : Nat) : State :=
  let s := ((s.setN (TRIP_STATE n) (s.cell n)).setN (TRIP_FRAME n) s.frame).setN (CHANNEL_STATUS.TRIP_CAUSE n) cause
  let s := if cause = 2 then s.setModelFlag n MFLAG.WIRE_OWED true else s
  let s := if cause = 3 then s.setModelFlag n MFLAG.FET_OWED true else s
  let s := s.count (tripCounter n cause) 0xFFFF
  let s := s.count (LIFE_NEW n) 0xFFFFFFFF
  let s := if s.standing n then s.count (STAND_EVENTS n) 0xFFFF else s
  let s := s.setN (WAIT_END n) (s.time + s.nat (CHANNEL_PROTECTION.RETRY_WAIT n))
  let s := ((s.withdraw n).setN (PEND n) 0).setN (PWM_HIGH n) 0
  ((s.cellTo n ST.TRIP).setN (GATE n) stage).openShadow 1 n 0

/-- R136: a trip with no retries left raises LOCKOUT_ENTERED at once; the channel stays in TRIP until R135 lets it go. -/
def State.lockoutTold (s : State) (n : Nat) : State :=
  if s.nat (CHANNEL_PROTECTION.RETRIES_LEFT n) = 0 then
    s.raiseChannel .LOCKOUT_ENTERED n 0x26 0 [f8 (s.get (CHANNEL_STATUS.TRIP_CAUSE n))]
  else s

end Sys2Proof.Machine
end

