-- ==== Sys2Proof/Machine/Models.lean ====
section
/-!
DEFINITION. The shunt current (R101, R102), the wire model and the FET model (R128 to R134), and owed cooling (R136,
R138). Poles are in 10^-15 K, exact but for one rounding per product; the result that the levels are held against
carries a free error below 0.05 K (R128).
-/
namespace Sys2Proof.Machine

/-! ### Housekeeping values as consumers see them (R407) -/

/-- STALE of entry e. -/
def State.hkStale (s : State) (e : Nat) : Bool := s.bit (HK_ENTRY.ENTRY_STATUS e) 0

/-- A temperature: the VALUE of the entry named, or the fallback where none is named or it is stale (R101, R133). -/
def State.tempOf (s : State) (entry : Nat) (fallback : Int) : Int :=
  if entry = 0xFF || s.hkStale entry then fallback else s.get (HK_ENTRY.VALUE entry)

/-- Whether the entry named is stale; the code 0xFF names none. -/
def State.tempStale (s : State) (entry : Nat) : Bool := entry != 0xFF && s.hkStale entry

/-! ### Records of a channel's element with a cell -/

/-- A message of cell c of element e of channel n, in the name of its holder. -/
def State.raiseCell (s : State) (k : Kind) (n e c obj : Nat) (fields : List (Nat × Int)) : State :=
  s.raiseDie (dieOf n) k (siteChannel n e + c) (s.holderOfChannel n) obj ((2, (n : Int)) :: fields)

/-! ### The shunt (R101, R102) -/

/-- T in use for the shunt of channel n. -/
def State.shuntTemp (s : State) (n : Nat) : Int :=
  s.tempOf (s.nat (CHANNEL_CONFIG.SHUNT_TEMP_ENTRY n)) (s.get (CHANNEL_CONFIG.SHUNT_TEMP_FALLBACK n))

/-- The entries of a mask that are stale still: an episode that has ended is forgotten. -/
def State.stillStale (s : State) (m : Nat) : Nat :=
  if m = 0 then 0 else (((List.range 64).filter fun e => m.testBit e && s.hkStale e).map (2 ^ ·)).sum

/-- R101, R133: whether entry e is in a stale episode that the mask under key k has not recorded, with the mask brought up to
date. -/
def State.staleEpisode (s : State) (k e : Nat) : Bool × State :=
  let m := s.stillStale (s.nat k)
  let new := s.tempStale e && !m.testBit e
  (new, s.setN k (if new then m + 2 ^ e else m))

/-- R101: T of the shunt is taken at a frame boundary; the flag and the record of a stale episode of its entry. -/
def State.takeShuntTemp (s : State) (n : Nat) : State :=
  let e := s.nat (CHANNEL_CONFIG.SHUNT_TEMP_ENTRY n)
  let told := s.staleEpisode (STALE_TOLD n 2) e
  let s' := (told.2.set (CHANNEL_STATUS.SHUNT_TEMP n) (s.shuntTemp n)).setChFlag n FLAG.SHUNT_TEMP_STALE (s.tempStale e)
  if told.1 then
    s'.raiseChannel .SHUNT_TEMP_STALE n 0 0 [f8 e, f16 (s.get (CHANNEL_CONFIG.SHUNT_TEMP_FALLBACK n))]
  else s'

/-- Whether channel n has a shunt value (R102). -/
def State.shuntSet (s : State) (n : Nat) : Bool := s.nat (CHANNEL_CONFIG.SHUNT_RESISTANCE n) != 0

/-- R101: RSH(T) of channel n in 10^-18 ohm. -/
def State.rsh (s : State) (n : Nat) : Int :=
  s.get (CHANNEL_CONFIG.SHUNT_RESISTANCE n) *
    (1000000000 + s.get (CHANNEL_CONFIG.SHUNT_TEMPCO n) *
      (s.get (CHANNEL_STATUS.SHUNT_TEMP n) - s.get (CHANNEL_CONFIG.SHUNT_REF_TEMP n)))

/-- R101: the current, in 0.1 mA, of a calibrated shunt voltage in nV. -/
def State.currentOf (s : State) (n : Nat) (vsh : Int) : Int :=
  if s.shuntSet n then divNear (vsh * 10000000000000) (s.rsh n).toNat else notAvailable .i32

/-- The five current samples of the frame that ends. -/
def State.samplesI (s : State) (n : Nat) : List Int := (List.range 5).map fun r => s.get (SAMPLE_I n r)

/-- The five load-voltage samples of the frame that ends. -/
def State.samplesV (s : State) (n : Nat) : List Int := (List.range 5).map fun r => s.get (SAMPLE_V n r)

/-- The sum of the squares of a list. -/
def sumSquares (l : List Int) : Int := (l.map fun x => x * x).sum

/-! ### Parameters -/

/-- R129: the parameters of the wire model: resistance in nΩ/m, alpha in ppm/K, thermal resistance in 0.001 K·m/W, the
time constants in µs and the weight of the first pole in 0.01 %. -/
structure WireParams where
  resistance : Int
  alpha : Int
  rth : Int
  tau1 : Nat
  tau2 : Nat
  w1 : Int
  deriving DecidableEq, Repr

/-- R129: the wire presets. -/
def wirePreset (p : Nat) : WireParams :=
  match p with
  | 1 => ⟨39000000, 3930, 14000, 3000000, 60000000, 5500⟩
  | 2 => ⟨26000000, 3930, 12500, 4000000, 70000000, 5500⟩
  | 3 => ⟨19500000, 3930, 11500, 5000000, 80000000, 5500⟩
  | 4 => ⟨13300000, 3930, 10000, 7000000, 100000000, 5000⟩
  | 5 => ⟨7980000, 3930, 8500, 10000000, 130000000, 5000⟩
  | 6 => ⟨4950000, 3930, 7000, 14000000, 170000000, 4500⟩
  | 7 => ⟨3300000, 3930, 6000, 20000000, 220000000, 4500⟩
  | 8 => ⟨1910000, 3930, 4800, 30000000, 300000000, 4000⟩
  | 9 => ⟨1210000, 3930, 3900, 45000000, 400000000, 4000⟩
  | 10 => ⟨780000, 3930, 3200, 65000000, 520000000, 3500⟩
  | 11 => ⟨554000, 3930, 2700, 85000000, 640000000, 3500⟩
  | 12 => ⟨386000, 3930, 2300, 110000000, 780000000, 3000⟩
  | 13 => ⟨272000, 3930, 1900, 140000000, 950000000, 3000⟩
  | _ => ⟨206000, 3930, 1600, 180000000, 1150000000, 3000⟩

/-- The parameters in use: those of the preset in mode 1, the written ones in mode 2. -/
def State.wireParams (s : State) (n : Nat) : WireParams :=
  if s.nat (CHANNEL_PROTECTION.WIRE_MODE n) = 1 then wirePreset (s.nat (CHANNEL_PROTECTION.WIRE_PRESET n))
  else ⟨s.get (CHANNEL_PROTECTION.WIRE_RESISTANCE n), s.get (CHANNEL_PROTECTION.WIRE_ALPHA n),
    s.get (CHANNEL_PROTECTION.WIRE_RTH n), s.nat (CHANNEL_PROTECTION.WIRE_TAU1 n),
    s.nat (CHANNEL_PROTECTION.WIRE_TAU2 n), s.get (CHANNEL_PROTECTION.WIRE_W1 n)⟩

/-- R134: whether the wire model of channel n computes. -/
def State.wireRuns (s : State) (n : Nat) : Bool :=
  s.nat (CHANNEL_PROTECTION.WIRE_MODE n) != 0 && s.shuntSet n

/-- R134: whether the FET model of channel n computes. -/
def State.fetRuns (s : State) (n : Nat) : Bool :=
  s.nat (CHANNEL_PROTECTION.FET_MODE n) != 0 && s.shuntSet n

/-- R133: T_ref of the wire model. -/
def State.wireRef (s : State) (n : Nat) : Int :=
  s.tempOf (s.nat (CHANNEL_PROTECTION.WIRE_REF_ENTRY n)) (s.get (CHANNEL_PROTECTION.WIRE_REF_FALLBACK n))

/-- R133: T_ref of the FET model. -/
def State.fetRef (s : State) (n : Nat) : Int :=
  s.tempOf (s.nat (CHANNEL_PROTECTION.FET_REF_ENTRY n)) (s.get (CHANNEL_PROTECTION.FET_REF_FALLBACK n))

/-- R133: the references of both models are taken at a frame boundary; a stale entry sets its flag and raises
MODEL_REF_STALE once per stale episode of the entry. -/
def State.takeRefs (s : State) (n : Nat) : State :=
  let w := s.tempStale (s.nat (CHANNEL_PROTECTION.WIRE_REF_ENTRY n))
  let f := s.tempStale (s.nat (CHANNEL_PROTECTION.FET_REF_ENTRY n))
  let s := (s.set (WIRE_REF n) (s.wireRef n)).set (FET_REF n) (s.fetRef n)
  let toldW := s.staleEpisode (STALE_TOLD n 0) (s.nat (CHANNEL_PROTECTION.WIRE_REF_ENTRY n))
  let newW := toldW.1
  let s := toldW.2
  let toldF := s.staleEpisode (STALE_TOLD n 1) (s.nat (CHANNEL_PROTECTION.FET_REF_ENTRY n))
  let newF := toldF.1
  let s := toldF.2
  let s := (s.setModelFlag n MFLAG.WIRE_REF_STALE w).setModelFlag n MFLAG.FET_REF_STALE f
  let s := if newW then s.raiseChannel .MODEL_REF_STALE n 0x24 0
      [f8 0, f16 (s.get (CHANNEL_PROTECTION.WIRE_REF_FALLBACK n))] else s
  if newF then s.raiseChannel .MODEL_REF_STALE n 0x25 0
      [f8 1, f16 (s.get (CHANNEL_PROTECTION.FET_REF_FALLBACK n))] else s

/-! ### The poles (R128, R131) -/

/-- The terms of the alternating series of exp(-20 / tau), scaled, from the k-th on: n of them, `term` being the next. -/
def decaySeries (tau : Nat) : Nat → Nat → Int → Int
  | 0, _, _ => 0
  | n + 1, k, term => term + decaySeries tau n (k + 1) (-(term * 20 / (tau * k : Nat)))

/-- exp(-20 µs / tau) scaled by 2 ^ 62, for tau in µs, 100 or more. What the series and its divisions leave out lies far
below the bound of R128 on the engine's rounding. -/
def decay (tau : Nat) : Int := divNear (decaySeries tau 16 1 (2 ^ 90)) (2 ^ 28)

/-- One step of a pole towards its target over one frame, with time constant tau in µs (R128, R131). -/
def poleStep (tau : Nat) (pole target : Int) : Int :=
  target + divNear ((pole - target) * decay tau) (2 ^ 62)

/-- R128: what both poles of the wire model head for, in 10^-15 K, for the sum of five squared samples, T_ref and the
present rise. -/
def wireTarget (p : WireParams) (sq tref rise w : Int) : Int :=
  divNear (w * p.rth * sq * p.resistance *
    (1000000000000000000000 + p.alpha * (tref * 10000000000000 + rise - 20000000000000000)))
    5000000000000000000000000000000

/-- R131: the power of one round in 10^-26 W. -/
def State.fetRound (s : State) (n : Nat) (i v : Int) : Int :=
  let drop := (s.get (VBUS_LAST (bankOf n)) - v) * 1000000000000000000 - i * s.rsh n
  max (max 0 drop * i) (i * i * s.get (CHANNEL_PROTECTION.FET_RDS_ON n) * 1000000000)

/-- R131: the sum of the powers of the five rounds; 0 in OFF, TRIP, RETRY and LOCKOUT. DESIGN CHOICE (log entry 77): the state
is that at the end of the frame, also for a channel that changes state within it. -/
def State.fetPower (s : State) (n : Nat) : Int :=
  let c := s.cell n
  if c = ST.OFF || c = ST.TRIP || c = ST.RETRY || c = ST.LOCKOUT then 0
  else (((s.samplesI n).zip (s.samplesV n)).map fun p => s.fetRound n p.1 p.2).sum

/-- R131: what a pole of the FET model heads for, in 10^-15 K. -/
def fetTarget (rth power : Int) : Int := divNear (rth * power) 500000000000000

/-- The bound of R128 on the engine's rounding, in 10^-15 K. -/
abbrev modelError : Int := 49999999999999

/-- R128: the wire model of channel n over the frame that ends. -/
def State.wireStep (s : State) (n : Nat) : State :=
  if s.wireRuns n then
    let p := s.wireParams n
    let sq := sumSquares (s.samplesI n)
    let rise := s.get (WIRE1 n) + s.get (WIRE2 n)
    let t1 := poleStep p.tau1 (s.get (WIRE1 n)) (wireTarget p sq (s.get (WIRE_REF n)) rise p.w1)
    let t2 := poleStep p.tau2 (s.get (WIRE2 n)) (wireTarget p sq (s.get (WIRE_REF n)) rise (10000 - p.w1))
    let e := s.takeFreeIn (-modelError) modelError
    ((e.2.set (WIRE1 n) t1).set (WIRE2 n) t2).set (WIRE_NOW n) (t1 + t2 + e.1)
  else s

/-- R131: the FET model of channel n over the frame that ends. -/
def State.fetStep (s : State) (n : Nat) : State :=
  if s.fetRuns n then
    let w := s.fetPower n
    let t1 := poleStep (s.nat (CHANNEL_PROTECTION.FET_TAU1 n)) (s.get (FET1 n))
      (fetTarget (s.get (CHANNEL_PROTECTION.FET_RTH1 n)) w)
    let t2 := poleStep (s.nat (CHANNEL_PROTECTION.FET_TAU2 n)) (s.get (FET2 n))
      (fetTarget (s.get (CHANNEL_PROTECTION.FET_RTH2 n)) w)
    let e := s.takeFreeIn (-modelError) modelError
    ((e.2.set (FET1 n) t1).set (FET2 n) t2).set (FET_NOW n)
      (s.get (FET_REF n) * 10000000000000 + t1 + t2 + e.1)
  else s

/-- R134: the wire model starts, at 0 or at its warning level. -/
def State.wireStart (s : State) (n : Nat) (warm : Bool) : State :=
  let warn := if warm then s.get (CHANNEL_PROTECTION.WIRE_WARN_RISE n) * 10000000000000 else 0
  let t1 := divNear (warn * (s.wireParams n).w1) 10000
  ((s.set (WIRE1 n) t1).set (WIRE2 n) (warn - t1)).set (WIRE_NOW n) warn

/-- R134: the FET model starts, at 0 or at its warning level. -/
def State.fetStart (s : State) (n : Nat) (warm : Bool) : State :=
  let ref := s.fetRef n * 10000000000000
  let phi := if warm then max 0 (s.get (CHANNEL_PROTECTION.FET_WARN_TEMP n) * 10000000000000 - ref) else 0
  let r1 := s.get (CHANNEL_PROTECTION.FET_RTH1 n)
  let t1 := divNear (phi * r1) (r1 + s.get (CHANNEL_PROTECTION.FET_RTH2 n)).toNat
  ((s.set (FET1 n) t1).set (FET2 n) (phi - t1)).set (FET_NOW n) (ref + phi)

/-! ### Levels (R130, R132, R135, R138) -/

/-- A level in 0.01 K as the engine holds it, 10^-15 K. -/
def level (v : Int) : Int := v * 10000000000000

/-- A temperature of the engine in 0.01 K, rounded to the nearest. -/
def centi (v : Int) : Int := divNear v 10000000000000

/-- Whether the cell of channel n is in a state that a protection can trip: RAMP, ON, PWM or LIMIT. -/
def State.conducts (s : State) (n : Nat) : Bool :=
  let c := s.cell n
  c == ST.RAMP || c == ST.ON || c == ST.PWM || c == ST.LIMIT

/-- R130, R132: the warnings of channel n set and clear. -/
def State.modelWarnings (s : State) (n : Nat) : State :=
  let rise := s.get (WIRE_NOW n)
  let tj := s.get (FET_NOW n)
  let s :=
    if s.wireRuns n then
      if level (s.get (CHANNEL_PROTECTION.WIRE_WARN_RISE n)) ≤ rise then
        if s.modelFlag n MFLAG.WIRE_WARNING then s
        else (s.setModelFlag n MFLAG.WIRE_WARNING true).raiseChannel .WIRE_WARNING n 0x24 0
          [f16 (centi rise), f16 (s.get (WIRE_REF n))]
      else if rise < level (s.get (CHANNEL_PROTECTION.WIRE_RESTART_RISE n)) then
        s.setModelFlag n MFLAG.WIRE_WARNING false
      else s
    else s
  if s.fetRuns n then
    if level (s.get (CHANNEL_PROTECTION.FET_WARN_TEMP n)) ≤ tj then
      if s.modelFlag n MFLAG.FET_WARNING then s
      else (s.setModelFlag n MFLAG.FET_WARNING true).raiseChannel .FET_WARNING n 0x25 0 [f16 (centi tj)]
    else if tj < level (s.get (CHANNEL_PROTECTION.FET_RESTART_TEMP n)) then
      s.setModelFlag n MFLAG.FET_WARNING false
    else s
  else s

/-- R110, mode 1: a detection on channel n is seen by an armed capture whose signal 1 names that channel. -/
def State.captureSees (s : State) (n : Nat) : State :=
  let d := dieOf n
  let sig := s.nat (BANK.CAPTURE_SIGNAL (8 * d) 0)
  if s.nat (BANK.CAPTURE_STATE (8 * d)) = 1 && sig / 16384 < 2 && sig % 128 == n % 128 then s.setN (CAP_SEEN d) 1
  else s

/-- R130, R132, R135: model trips of channel n at a frame end; one trip where both levels are reached. -/
def State.modelTrips (s : State) (n : Nat) : State :=
  let rise := s.get (WIRE_NOW n)
  let tj := s.get (FET_NOW n)
  let wire := s.wireRuns n && level (s.get (CHANNEL_PROTECTION.WIRE_TRIP_RISE n)) ≤ rise
  let fet := s.fetRuns n && level (s.get (CHANNEL_PROTECTION.FET_TRIP_TEMP n)) ≤ tj
  if s.conducts n && (wire || fet) then
    let st := s.cell n
    let s := (s.captureSees n).trip n (if fet then 3 else 2) (if fet then 4 else 5)
    let s := if wire then (s.setModelFlag n MFLAG.WIRE_OWED true).raiseChannel .WIRE_TRIP n 0x24 0
        [f16 (centi rise), f16 (s.get (WIRE_REF n))] else s
    (if fet then s.raiseChannel .FET_TRIP n 0x25 0 [f16 (centi tj), f8 st] else s).lockoutTold n
  else s

/-- R138: owed cooling is released once the model lies below its restart level, and a request that waited for it asks
for admission at the boundary that this is. DESIGN CHOICE (log entry 77): a model that does not compute keeps its last value,
so cooling owed for it is not released while that value lies above the level. -/
def State.coolingRelease (s : State) (n : Nat) : State :=
  let s :=
    if s.modelFlag n MFLAG.WIRE_OWED && s.get (WIRE_NOW n) < level (s.get (CHANNEL_PROTECTION.WIRE_RESTART_RISE n)) then
      (s.setModelFlag n MFLAG.WIRE_OWED false).raiseCell .COOLING_DONE n 0x27 0 0 [f8 0]
    else s
  let s :=
    if s.modelFlag n MFLAG.FET_OWED && s.get (FET_NOW n) < level (s.get (CHANNEL_PROTECTION.FET_RESTART_TEMP n)) then
      (s.setModelFlag n MFLAG.FET_OWED false).raiseCell .COOLING_DONE n 0x27 1 0 [f8 1]
    else s
  if s.modelFlag n MFLAG.COOLING_WAIT && !s.coolingOwed n then
    ((s.setModelFlag n MFLAG.COOLING_WAIT false).askAdmission n 1).setN (ADMIT_SINCE n) (s.frame + 1)
  else s

/-- R128 to R138: both models of channel n at the end of a frame. They rest while the die's logic is off (R118). -/
def State.modelUpdate (s : State) (n : Nat) : State :=
  if s.flag (LOGIC_OFF (dieOf n)) then s
  else ((((s.wireStep n).fetStep n).modelTrips n).modelWarnings n).coolingRelease n

end Sys2Proof.Machine
end

