-- ==== Sys2Proof/Machine/Admission.lean ====
section
/-!
DEFINITION. Inrush admission (R140 to R145): estimates, shares, and the run of each budget group at a frame start.
-/
namespace Sys2Proof.Machine

/-- The budget group of channel n. -/
def State.groupOf (s : State) (n : Nat) : Nat := s.nat (BANK.BUDGET_GROUP (bankOf n))

/-- The channels of budget group g, ascending. -/
def State.groupChannels (s : State) (g : Nat) : List Nat :=
  (List.range 32).flatMap fun k =>
    if s.nat (BANK.BUDGET_GROUP k) = g then (List.range 16).map (16 * k + ·) else []

/-- R141: the peak of the inrush estimate of channel n, 0.1 mA. -/
def State.inrushPeak (s : State) (n : Nat) : Nat :=
  if s.flag (CHANNEL_PROTECTION.LAMP_MODE n) then
    s.nat (CHANNEL_PROTECTION.LAMP_NOMINAL n) * s.nat (CHANNEL_PROTECTION.LAMP_MULTIPLE n) / 4
  else s.nat (CHANNEL_PROTECTION.INRUSH_PEAK n)

/-- R141: the time of the inrush estimate of channel n, µs. -/
def State.inrushTime (s : State) (n : Nat) : Nat :=
  if s.flag (CHANNEL_PROTECTION.LAMP_MODE n) then s.nat (CHANNEL_PROTECTION.LAMP_DECAY_TIME n)
  else s.nat (CHANNEL_PROTECTION.INRUSH_TIME n)

/-- Whether channel n is off, tripped or locked out and no admitted start of it is due. -/
def State.idleChannel (s : State) (n : Nat) : Bool := !s.conducts n && s.nat (START_AT n) == 0

/-- R141: shares end at an admission run: their time has passed, or the channel has tripped or turned off. -/
def State.endShares (s : State) (l : List Nat) : State :=
  forEach l (fun n s =>
    if s.flag (SHARE_HELD n) && (s.nat (SHARE_END n) ≤ s.time || s.idleChannel n) then
      (s.setN (SHARE_HELD n) 0).setN (SHARE_PEAK n) 0
    else s) s

/-- R142: the load of a group: the frame means of frame j - 2 of its channels that hold no share. The frame mean is
field 5 of the summary received. -/
def State.groupLoad (s : State) (l : List Nat) : Nat :=
  (l.map fun n => if s.flag (SHARE_HELD n) then 0 else s.nat (RECEIVED n 5)).sum

/-- R142: the shares held in a group. -/
def State.groupShares (s : State) (l : List Nat) : Nat :=
  (l.map fun n => if s.flag (SHARE_HELD n) then s.nat (SHARE_PEAK n) else 0).sum

/-- How long the request of channel n has waited, µs. -/
def State.waited (s : State) (n : Nat) : Nat := (s.frame - s.nat (ADMIT_SINCE n)) * 20

/-- R142: the start of a request is decided: it begins at the start of the next frame, and its share is held. -/
def State.grantStart (s : State) (n : Nat) (forced : Bool) : State :=
  let dur := s.inrushTime n * (if forced then 4 else 1)
  let s := ((s.setN (START_AT n) (s.frame + 1)).setFlag (START_GENTLE n) forced).setChFlag n FLAG.WAITING_ADMISSION false
  ((s.setN (SHARE_HELD n) 1).setN (SHARE_PEAK n) (s.inrushPeak n)).setN (SHARE_END n) (s.nextBoundary + dur)

/-- Requests of a group that wait for admission: those queued at or before this frame and not yet admitted. -/
def State.queued (s : State) (l : List Nat) : List Nat :=
  l.filter fun n => s.nat (ADMIT_KIND n) != 0 && s.nat (START_AT n) == 0 && s.nat (ADMIT_SINCE n) ≤ s.frame

/-- R142: one request comes before another: by priority, then request frame, then channel number. DESIGN CHOICE (log entry
77): the priority is that of ADMIT_PRIORITY at the run. -/
def State.before (s : State) (a b : Nat) : Bool :=
  let pa := s.nat (CHANNEL_PROTECTION.ADMIT_PRIORITY a)
  let pb := s.nat (CHANNEL_PROTECTION.ADMIT_PRIORITY b)
  let fa := s.nat (ADMIT_SINCE a)
  let fb := s.nat (ADMIT_SINCE b)
  pa < pb || (pa == pb && (fa < fb || (fa == fb && a ≤ b)))

/-- A channel at its place among channels in the order of R142. -/
def State.placeIn (s : State) (a : Nat) : List Nat → List Nat
  | [] => [a]
  | b :: r => if s.before a b then a :: b :: r else b :: s.placeIn a r

/-- The queue of a group in the order of R142. -/
def State.inOrder (s : State) (l : List Nat) : List Nat := l.foldr (fun a acc => s.placeIn a acc) []

/-- R142: the ordinary pass: requests start in order until one does not fit or MAX_STARTS is reached. -/
def State.ordinaryPass (budget load left shares : Nat) (l : List Nat) (s : State) : State :=
  match l with
  | [] => s
  | n :: r =>
    if left = 0 then s
    else if 0 < budget && budget < load + shares + s.inrushPeak n then s
    else State.ordinaryPass budget load (left - 1) (shares + s.inrushPeak n) r (s.grantStart n false)

/-- R142, R143, R145: the admission run of group g. -/
def State.admissionRun (s : State) (g : Nat) : State :=
  let l := s.groupChannels g
  let s := s.endShares l
  let load := s.groupLoad l
  let q := s.queued l
  let s := forEach q (fun n s => s.setN (CHANNEL_PROTECTION.ADMIT_WAIT n) (s.waited n)) s
  let forced := q.filter fun n => s.nat (CHANNEL_PROTECTION.ADMIT_MAX_WAIT n) ≤ s.waited n
  let rest := s.inOrder (q.filter fun n => !(s.nat (CHANNEL_PROTECTION.ADMIT_MAX_WAIT n) ≤ s.waited n))
  let s := forEach forced (fun n s => s.grantStart n true) s
  let budget := s.nat (BUDGET_GROUP.BUDGET g)
  let s := State.ordinaryPass budget load (s.nat (BUDGET_GROUP.MAX_STARTS g)) (s.groupShares l) rest s
  let shares := s.groupShares l
  let s := ((s.setN (BUDGET_GROUP.GROUP_LOAD g) load).setN (BUDGET_GROUP.SHARES_HELD g) shares).setN
    (BUDGET_GROUP.WAITING g) (s.queued l).length
  let s := s.setN (BUDGET_GROUP.LONGEST_WAIT g) (q.foldl (fun m n => max m (s.waited n)) (s.nat (BUDGET_GROUP.LONGEST_WAIT g)))
  let s := forEach forced (fun n s =>
    ((s.count (BUDGET_GROUP.FORCED_COUNT g) 0xFFFF).raise .ADMISSION_FORCED (siteChannel n 0) (s.holderOfChannel n)
      (CHANNEL_PROTECTION.ADMIT_WAIT n)
      [f16 n, f8 g, f32 (s.waited n), f32 load, f32 shares])) s
  if 0 < budget && budget < load + shares then
    if s.flag (BUDGET_OVER g) then s
    else
      let k := ((List.range 32).find? fun k => s.nat (BANK.BUDGET_GROUP k) == g).getD 0
      (s.setN (BUDGET_OVER g) 1).raise .BUDGET_EXCEEDED (siteBank k 0x80) (s.holderOfBudget g) 0
        [f8 g, f32 load, f32 shares, f32 budget]
  else s.setN (BUDGET_OVER g) 0

/-- R142, R13: admitted ramps begin at the start of the frame after their run, on a die that hears the command. -/
def State.admittedStarts (s : State) : State :=
  forBelow 512 (fun n s =>
    if s.nat (START_AT n) != 0 && s.nat (START_AT n) ≤ s.frame && s.commands n then
      let fallback := n < 16 && s.bit PROFILE_FB n && !s.bit PROFILE_JUDGED n
      s.startRamp n (s.flag (START_GENTLE n) || fallback) (s.nat (ADMIT_KIND n) == 2)
    else s) s

end Sys2Proof.Machine
end

