-- ==== Sys2Proof/Machine/Castling.lean ====
section
/-!
DEFINITION. Castling pairs (R149 to R153).
-/
namespace Sys2Proof.Machine

/-- Whether pair p is in use (R149). -/
def State.pairUsed (s : State) (p : Nat) : Bool :=
  s.nat (CASTLING_PAIR.CHANNEL_A p) < 512 && s.nat (CASTLING_PAIR.CHANNEL_B p) < 512

/-- The incoming channel of the swap of pair p in progress. -/
def State.swapIn (s : State) (p : Nat) : Nat := s.nat (SWAP_IN p) - 1

/-- The outgoing channel of the swap of pair p in progress. -/
def State.swapOut (s : State) (p : Nat) : Nat := s.nat (SWAP_OUT p) - 1

/-- Whether a channel is in ON, PWM or LIMIT (R150); one that stands is in none of them (R113). -/
def State.carries (s : State) (n : Nat) : Bool :=
  let c := s.cell n
  !s.standing n && (c == ST.ON || c == ST.PWM || c == ST.LIMIT)

/-- R150: ACTIVE as it follows from the two channels. -/
def State.pairActive (s : State) (p : Nat) : Nat :=
  let a := s.carries (s.nat (CASTLING_PAIR.CHANNEL_A p))
  let b := s.carries (s.nat (CASTLING_PAIR.CHANNEL_B p))
  if a && b then 0xFE else if a then 0 else if b then 1 else 0xFF

/-- R153: every abort: the incoming REQUEST becomes 0 and acts as such, but a trip follows R136, and SWAP_ABORTED is raised. -/
def State.swapAbort (s : State) (p result : Nat) : State :=
  let n := s.swapIn p
  let s := ((s.setN (CASTLING_PAIR.SWAP_STATE p) 0).setN (CASTLING_PAIR.SWAP_RESULT p) result).setN (SWAP_IN p) 0
  let s := s.setRequest n 0
  let s := if s.standing n || s.cell n = ST.LOCKOUT || s.cell n = ST.TRIP then s
    else if s.commands n || s.cell n = ST.OFF then s.requestOff n else s.setN (FOLD_WAIT n) 1
  s.raise .SWAP_ABORTED (siteChannel n 0) (s.holderOfPair p) 0 [f8 p, f8 result]

/-- The pair whose swap in progress has channel n as incoming or outgoing. -/
def State.swapOf (s : State) (n : Nat) : Option Nat :=
  (List.range 64).find? fun p =>
    s.nat (CASTLING_PAIR.SWAP_STATE p) != 0 && (s.swapIn p == n || s.swapOut p == n)

/-- R153: a trip of channel n ends the swap in which it is incoming, with result 3; as outgoing, the swap goes on and
completes with result 7. -/
def State.swapTrip (s : State) (n : Nat) : State :=
  match s.swapOf n with
  | none => s
  | some p => if s.swapIn p = n then s.swapAbort p 3 else s.setN (SWAP_SIDE p) 7

/-- R153: REQUEST written to either channel, a fold or a tenant reset lands in state 1: the swap aborts first. -/
def State.swapInterrupt (s : State) (n : Nat) : State :=
  match s.swapOf n with
  | none => s
  | some p => if s.nat (CASTLING_PAIR.SWAP_STATE p) = 1 then s.swapAbort p 6 else s

/-- R153: die d stands: a swap with a channel there ends with result 5; in state 1 as an abort, in which an incoming channel
of that die follows its order, in state 2 without the turn-off of step 4. -/
def State.swapDieStands (s : State) (d : Nat) : State :=
  forBelow 64 (fun p s =>
    if s.nat (CASTLING_PAIR.SWAP_STATE p) != 0 && (dieOf (s.swapIn p) == d || dieOf (s.swapOut p) == d) then
      if s.nat (CASTLING_PAIR.SWAP_STATE p) = 1 then
        let n := s.swapIn p
        if dieOf n != d then s.swapAbort p 5
        else
        let s := ((s.setN (CASTLING_PAIR.SWAP_STATE p) 0).setN (CASTLING_PAIR.SWAP_RESULT p) 5).setN (SWAP_IN p) 0
        ((s.withdraw n).setRequest n 0).raise .SWAP_ABORTED (siteChannel n 0) (s.holderOfPair p) 0 [f8 p, f8 5]
      else
        ((s.setN (CASTLING_PAIR.SWAP_STATE p) 0).setN (CASTLING_PAIR.SWAP_RESULT p) 5).setN (SWAP_IN p) 0
    else s) s

/-- R151, R152: SWAP_REQUEST lands: the swap begins, or ends at once with result 4. -/
def State.swapBegin (s : State) (p which : Nat) : State :=
  let a := s.nat (CASTLING_PAIR.CHANNEL_A p)
  let b := s.nat (CASTLING_PAIR.CHANNEL_B p)
  let inc := if which = 0 then a else b
  let out := if which = 0 then b else a
  if s.pairUsed p && s.nat (CASTLING_PAIR.SWAP_STATE p) == 0 &&
      !s.standing out && (s.cell out == ST.ON || s.cell out == ST.LIMIT) &&
      !s.standing inc && s.cell inc == ST.OFF && s.nat (inForce (CHANNEL_CONFIG.REQUEST inc)) == 0 &&
      !s.coolingOwed inc then
    let s := ((s.setN (CASTLING_PAIR.SWAP_STATE p) 1).setN (SWAP_IN p) (inc + 1)).setN (SWAP_OUT p) (out + 1)
    let s := s.setN (SWAP_AT p) s.time
    let s := (s.setN (SWAP_SIDE p) 1).setN (CASTLING_PAIR.ACTIVE p) (1 - min 1 which)
    let s := (s.setRequest inc 1).setN (CHANNEL_PROTECTION.RETRIES_LEFT inc) (s.nat (CHANNEL_PROTECTION.RETRY_COUNT inc))
    if s.nat (THERMAL_DIE.DIE_STATE (dieOf inc + 1)) = 3 then s.setN (STORED_WAIT inc) 1 else s.askAdmission inc 3
  else s.setN (CASTLING_PAIR.SWAP_RESULT p) 4

/-- R152, step 3: the incoming channel of a swap has met the ON criterion. -/
def State.swapOnMet (s : State) (n : Nat) : State :=
  match s.swapOf n with
  | none => s
  | some p =>
    if s.swapIn p = n && s.nat (CASTLING_PAIR.SWAP_STATE p) == 1 then
      (s.setN (CASTLING_PAIR.SWAP_STATE p) 2).setN (SWAP_ON_AT p) s.time |>.set (SWAP_OVER p) (s.get (CASTLING_PAIR.OVERLAP p))
    else s

/-- R152, step 4: at a frame boundary at least OVERLAP after the ON criterion the outgoing channel turns off, on the command
that its die receives (R13), and the swap completes. -/
def State.swapComplete (s : State) (p : Nat) : State :=
  if s.nat (CASTLING_PAIR.SWAP_STATE p) = 2 && s.nat (SWAP_ON_AT p) + s.nat (SWAP_OVER p) ≤ s.time && s.commands (s.swapOut p) then
    let out := s.swapOut p
    let inc := s.swapIn p
    let excess := s.time - s.nat (SWAP_ON_AT p)
    let result := if s.carries out then s.nat (SWAP_SIDE p) else 7
    let s := (s.setRequest out 0)
    let s := if s.standing out || s.cell out = ST.LOCKOUT then s else s.requestOff out
    let s := (s.setN (CASTLING_PAIR.ACTIVE p) (1 - min 1 (s.nat (CASTLING_PAIR.ACTIVE p)))).setN
      (CASTLING_PAIR.SWAP_STATE p) 0
    let s := ((s.setN (CASTLING_PAIR.SWAP_RESULT p) result).setN (SWAP_IN p) 0).wrapCount (CASTLING_PAIR.SWAP_COUNT p) 32
    s.raise .SWAP_DONE (siteChannel inc 0) (s.holderOfPair p) 0 [f8 p, f16 inc, f32 excess]
  else s

/-- R150, R153: what each boundary does for pair p: trips of the frame's models end a swap; ACTIVE follows when none is in
progress, and reads 0xFF for a pair that is not in use. -/
def State.pairBoundary (s : State) (p : Nat) : State :=
  let s :=
    if s.nat (CASTLING_PAIR.SWAP_STATE p) != 0 && s.cell (s.swapIn p) == ST.TRIP then s.swapAbort p 3 else s
  if s.nat (CASTLING_PAIR.SWAP_STATE p) = 0 then
    s.setN (CASTLING_PAIR.ACTIVE p) (if s.pairUsed p then s.pairActive p else 0xFF)
  else s

end Sys2Proof.Machine
end

