-- ==== Sys2Proof/Machine/Standing.lean ====
section
/-!
DEFINITION. Standing orders (R112 to R117), the quarter-current ramps of SAFE_ON (R114), and a channel die whose logic
domain fails and returns (R118).
-/
namespace Sys2Proof.Machine

/-- The channels of die d, ascending. -/
def dieChannels (d : Nat) : List Nat := (List.range 128).map (128 * d + ·)

/-! ### Entry (R112, R113) -/

/-- R112, R139: the standing order of channel n at entry. A retry that is due ramps without admission; a non-anchored channel
of a die whose logic has just returned stays off (R118). -/
def State.applyOrder (s : State) (n cause : Nat) : State :=
  let order := s.nat (CHANNEL_CONFIG.STANDING_ORDER n)
  let owed := s.coolingOwed n
  let due := s.waiting n
  let s := ((s.setModelFlag n MFLAG.COOLING_WAIT false).setN (STORED_WAIT n) 0).setN (PEND n) 0
  let s := s.withdraw n
  match s.cell n with
  | 0 => if order = 2 && !owed && (cause != 4 || isAnchored n) then s.setN (SAFE_WAIT n) 1 else s
  | 1 | 2 | 3 | 4 => if order = 1 then s.turnOff n 5 else s.setN (RAMP_RETRY n) 0
  | 5 => if order = 1 then s.turnOff n (s.nat (GATE n)) else s
  | 6 => if order = 1 then s.turnOff n 0 else if due then s.startRamp n true true else s
  | _ => s

/-- R113: channel n stands for a cause. Its gate at entry is that before its order applies (R115). -/
def State.standChannel (s : State) (n cause : Nat) : State :=
  if s.standing n then s
  else
    let entry := standingGate (s.cell n)
    let s := ((s.setN (STAND_ENTRY n) entry).setN (STAND_EVENTS n) 0).applyOrder n cause
    (s.setN (CHANNEL_STATUS.STANDING_CAUSE n) cause).showCell n

/-- R114: the next channel of bank k that is to ramp under SAFE_ON starts, at one quarter of GATE_SOURCE. -/
def State.safeOnNext (s : State) (k : Nat) : State :=
  match ((List.range 16).map (16 * k + ·)).find? fun n => s.flag (SAFE_WAIT n) with
  | none => s
  | some n =>
    if s.nat (THERMAL_DIE.DIE_STATE (dieOf n + 1)) = 3 then s
    else
      ((s.setN (SAFE_WAIT n) 0).startRamp n true false).raiseChannel .SAFE_ON_RAMP n 0x01 0
        [f8 (s.get (CHANNEL_CONFIG.GATE_SOURCE n))]

/-- R112, R113: die d applies the standing orders of all its channels. A trigger that meets a standing die is only
counted. DESIGN CHOICE (log entry 77): STANDING_ENTERED counts the gates that are on once the orders have acted and before
SAFE_ON starts its first ramps. -/
def State.standDie (s : State) (d cause : Nat) : State :=
  if (dieChannels d).all fun n => s.standing n then s.count (STAND_TRIGGERS d) 0xFFFF
  else
    let s := s.swapDieStands d
    let s := forEach (dieChannels d) (fun n s => s.standChannel n cause) s
    let on := ((dieChannels d).filter fun n => s.conducts n).length
    let s := s.raiseDie d .STANDING_ENTERED (siteDie d 0xE3) 0 0 [f8 (d + 1), f8 cause, f16 on]
    forBelow 8 (fun b s => s.safeOnNext (8 * d + b)) s

/-- R115: the report of channel n when the link has returned: where its gate changed or it saw a protection event. -/
def State.standingReport (s : State) (n : Nat) : State :=
  if s.standing n then
    let g := s.nat (CHANNEL_STATUS.STANDING_GATE n)
    if g != s.nat (STAND_ENTRY n) || s.nat (STAND_EVENTS n) != 0 then
      let s := s.raise .STANDING_REPORT (siteChannel n 0) (s.holderOfChannel n) 0
        [f16 n, f8 (s.get (STAND_ENTRY n)), f8 g, f16 (s.nat (STAND_EVENTS n) + s.nat (STAND_TRIGGERS (dieOf n)))]
      (s.setN (STAND_ENTRY n) g).setN (STAND_EVENTS n) 0
    else s
  else s

/-! ### Release (R116, R117) -/

/-- R117: a release lands: the channel takes the configuration held for it, and its state follows from STANDING_GATE and
REQUEST. On a channel that does not stand the write is noted only (R96). -/
def State.releaseStanding (s : State) (n by_ : Nat) : State :=
  if s.standing n then
    let s := s.set (inForce (CHANNEL_CONFIG.REQUEST n)) (s.get (CHANNEL_CONFIG.REQUEST n))
    let s := s.set (inForce (CHANNEL_CONFIG.PWM_PERIOD n)) (s.get (CHANNEL_CONFIG.PWM_PERIOD n))
    let s := s.set (inForce (CHANNEL_CONFIG.PWM_DUTY n)) (s.get (CHANNEL_CONFIG.PWM_DUTY n))
    let s := ((s.setN (SAFE_WAIT n) 0).setN (CHANNEL_STATUS.STANDING_CAUSE n) 0).actOnRequest n
    let s := s.showCell n
    s.raise .STANDING_RELEASED (siteChannel n 0) (s.holderOfChannel n) 0
      [f16 n, f8 by_, f8 (s.get (CHANNEL_STATUS.STATE n))]
  else s.count (CMD_NOTED n) 0xFFFFFFFF

/-- R96: CLEAR_LOCKOUT lands: LOCKOUT becomes OFF with REQUEST 0. In any other state the write is noted only. -/
def State.clearLockout (s : State) (n : Nat) : State :=
  if !s.standing n && s.cell n == ST.LOCKOUT then
    ((s.setRequest n 0).setN (CHANNEL_PROTECTION.RETRIES_LEFT n) (s.nat (CHANNEL_PROTECTION.RETRY_COUNT n))).cellTo n ST.OFF
  else s.count (CMD_NOTED n) 0xFFFFFFFF

/-! ### The logic domain of a die (R118) -/

/-- What waits to act on channel n goes as the logic of its die fails (R118). -/
def State.logicLost (s : State) (n : Nat) : State :=
  let s := (((s.withdraw n).setN (PEND n) 0).setN (PWM_HIGH n) 0).setN (SAFE_WAIT n) 0
  (s.setModelFlag n MFLAG.COOLING_WAIT false).setN (STORED_WAIT n) 0

/-- R118: an anchored latch as the logic fails: PWM holds ON from half duty upward. -/
def State.holdLatch (s : State) (n : Nat) : State :=
  let on := if s.cell n = ST.PWM then 32768 ≤ s.pwmDuty n else s.conducts n
  let s := ((s.logicLost n).setFlag (LATCH n) on).setN (LATCH_PULLED n) 0
  (s.setN (CELL n) (if on then ST.ON else ST.OFF)).setN (GATE n) (if on then 2 else 0)

/-- R89: a non-anchored channel of a die without logic floats, and its resistor turns it off. -/
def State.floatGate (s : State) (n : Nat) : State :=
  ((s.logicLost n).setN (CELL n) ST.OFF).setN (GATE n) 7

/-- R118: the logic domain of die d fails while its bus is present. -/
def State.logicFails (s : State) (d : Nat) : State :=
  if s.flag (LOGIC_OFF d) then s
  else
    let s := ((s.setN (LOGIC_OFF d) 1).setN (LOGIC_OFF_AT d) s.time).setN (HEART_LOST d) 0
    let s := forEach (dieChannels d) (fun n s => if isAnchored n then s.holdLatch n else s.floatGate n) s
    forBelow 8 (fun b s => s.pumpUpdate (8 * d + b)) s

/-- R179: the per-rail counters of channel n are cleared. -/
def State.clearCounters (s : State) (n : Nat) : State :=
  let s := (s.setN (CHANNEL_SUPERVISION.UV_COUNT n) 0).setN (CHANNEL_SUPERVISION.OV_COUNT n) 0
  let s := (s.setN (CHANNEL_SUPERVISION.HARD_TRIPS n) 0).setN (CHANNEL_SUPERVISION.LIMIT_ENTRIES n) 0
  let s := (s.setN (CHANNEL_SUPERVISION.MODEL_TRIPS n) 0).setN (CHANNEL_SUPERVISION.TIMEOUT_TRIPS n) 0
  let s := (s.setN (CHANNEL_SUPERVISION.RETRIES n) 0).setN (CHANNEL_SUPERVISION.STARTS n) 0
  s.setN (CHANNEL_SUPERVISION.DISCHARGE_TIMEOUTS n) 0

/-- What a reset of the logic of die d makes of channel n: its timers and pending changes go, its measurements begin anew
(R103), its models start at 0, or at their warning levels where `warm` (R134). -/
def State.channelLogicReset (s : State) (n : Nat) (warm : Bool) : State :=
  let s := (((s.withdraw n).setN (PEND n) 0).setN (PWM_HIGH n) 0).setN (SAFE_WAIT n) 0
  let s := ((s.setN (LIMIT_EPISODE n) 0).setN (FRAMES_SEEN n) 0).setN (CAL_AT n) s.time
  let s := ((s.setModelFlag n MFLAG.COOLING_WAIT false).setN (STORED_WAIT n) 0).setN (RUN_SPENT n) 0
  let s := s.clearCounters n
  (s.wireStart n (warm && s.wireRuns n)).fetStart n (warm && s.fetRuns n)

/-- R118: an anchored channel as the logic returns: on or off as its latch, tripped where its pull-down acted. -/
def State.anchorReturns (s : State) (n : Nat) : State :=
  let s := s.channelLogicReset n true
  let s := s.setN (CHANNEL_STATUS.STANDING_CAUSE n) 0
  if s.flag (LATCH_PULLED n) then
    let s := ((s.setN (CELL n) ST.ON).trip n 1 0).setN (LATCH_PULLED n) 0
    (s.raiseChannel .HARD_SHORT_TRIP n 0x20 0 [f8 ST.ON, f8 (s.get (CHANNEL_PROTECTION.RETRIES_LEFT n))]).lockoutTold n
  else s.cellTo n (if s.flag (LATCH n) then ST.ON else ST.OFF)

/-- R118, R267: a non-anchored channel as the logic of its die comes out of reset: off in static hold. -/
def State.cellReturns (s : State) (n : Nat) : State :=
  ((s.channelLogicReset n false).setN (CHANNEL_STATUS.STANDING_CAUSE n) 0).cellTo n ST.OFF

/-- The anchored channels of die d whose pull-down acted, as a mask (R118). -/
def State.pulledMask (s : State) (d : Nat) : Nat :=
  ((List.range 16).map fun i => if s.flag (LATCH_PULLED (128 * d + i)) then 2 ^ i else 0).sum

/-- R118: the logic of die d returns: it resets, stands with cause 4 and raises ANCHOR_BROWNOUT. -/
def State.logicReturns (s : State) (d : Nat) : State :=
  if s.flag (LOGIC_OFF d) then
    let mask := s.pulledMask d
    let out := s.time - s.nat (LOGIC_OFF_AT d)
    let s := s.setN (LOGIC_OFF d) 0
    let s := forEach (dieChannels d) (fun n s => if isAnchored n then s.anchorReturns n else s.cellReturns n) s
    let s := s.standDie d 4
    let s := forEach (dieChannels d) (fun n s =>
      if mask.testBit (n % 128) then s.setN (STAND_EVENTS n) 1 else s) s
    s.raiseDie d .ANCHOR_BROWNOUT (siteDie d 0xE6) 0 0 [f8 (d + 1), f32 out, f16 mask]
  else s

end Sys2Proof.Machine
end

