-- ==== Sys2Proof/Machine/Protect.lean ====
section
/-!
DEFINITION. The events of the channels: pumps and buses (R91 to R93), ramps (R94), PWM (R106 to R108), the comparators,
limit loop and timers of protection (R121 to R139), lamps (R146, R148), castling (R152, R153), capture triggers (R110,
R111), calibration (R99, R100) and standing (R112 to R118).
-/
namespace Sys2Proof.Machine

/-! ### Pumps and buses -/

/-- CHARGE_PUMP_LOW of bank k (R92). -/
def State.pumpLow (s : State) (k : Nat) : State :=
  if s.bankFlag k BFLAG.PUMP_LOW then s
  else
    let s := (s.setBankFlag k BFLAG.PUMP_LOW FLAG.PUMP_LOW true).bankPauses k
    s.raiseDie (k / 8) .CHARGE_PUMP_LOW (siteBank k 0x81) 0 0 [f8 k, f32 (s.get (BANK.PUMP_HEADROOM k))]

/-- R91, R92: the headroom of bank k (0.1 mV) reaches the ready level, 10.0 V. -/
def State.pumpReady (s : State) (k : Nat) (headroom : Int) : State :=
  if s.bankFlag k BFLAG.RUNNING && 100000 ≤ headroom then
    ((s.setBit (BANK.BANK_FLAGS k) BFLAG.READY true).setBankFlag k BFLAG.PUMP_LOW FLAG.PUMP_LOW false).bankPauses k
  else s

/-- R92: a pump not ready 200 µs after its start. -/
def State.pumpStartTimeout (s : State) (k : Nat) : State :=
  if s.bankFlag k BFLAG.RUNNING && !s.bankFlag k BFLAG.READY && s.nat (PUMP_START k) + 200 ≤ s.time then s.pumpLow k
  else s

/-- R92: headroom below 9.0 V for 20 µs on a pump that has been ready since its start. -/
def State.pumpHeadroomLow (s : State) (k : Nat) (headroom : Int) : State :=
  if s.bankFlag k BFLAG.RUNNING && s.bankFlag k BFLAG.READY && headroom < 90000 then s.pumpLow k else s

/-- R91, R92: the pump of bank k stops, 1 ms after the last channel that needed it left. -/
def State.pumpStop (s : State) (k : Nat) : State :=
  if s.bankFlag k BFLAG.RUNNING && s.nat (PUMP_STOP_AT k) != 0 && s.nat (PUMP_STOP_AT k) ≤ s.time &&
      !s.pumpNeeded k then
    let s := (s.setBit (BANK.BANK_FLAGS k) BFLAG.RUNNING false).setBit (BANK.BANK_FLAGS k) BFLAG.READY false
    (s.setBankFlag k BFLAG.PUMP_LOW FLAG.PUMP_LOW false).setN (PUMP_STOP_AT k) 0
  else s

/-- R93: VBUS of bank k (0.1 mV) below BUS_UV_LEVEL for 20 µs. -/
def State.busUndervoltage (s : State) (k : Nat) (vbus : Int) : State :=
  if vbus < s.get (BANK.BUS_UV_LEVEL k) && !s.bankFlag k BFLAG.BUS_UV then
    let s := ((s.setBankFlag k BFLAG.BUS_UV FLAG.BUS_UV true).bankPauses k).pumpUpdate k
    s.raiseDie (k / 8) .BUS_UNDERVOLTAGE (siteBank k 0x83) 0 0 [f8 k, f32 (s.get (BANK.VBUS k))]
  else s

/-- R93: VBUS of bank k is 0.5 V above BUS_UV_LEVEL again. -/
def State.busUvCleared (s : State) (k : Nat) (vbus : Int) : State :=
  if s.bankFlag k BFLAG.BUS_UV && s.get (BANK.BUS_UV_LEVEL k) + 5000 ≤ vbus then
    ((s.setBankFlag k BFLAG.BUS_UV FLAG.BUS_UV false).bankPauses k).pumpUpdate k
  else s

def execPumpReady (k : Bank) (headroom : Int) (s : State) : Host.Outcome State Fault Refusal :=
  .next (s.pumpReady k headroom)
def execPumpStartTimeout (k : Bank) (s : State) : Host.Outcome State Fault Refusal := .next (s.pumpStartTimeout k)
def execPumpHeadroomLow (k : Bank) (headroom : Int) (s : State) : Host.Outcome State Fault Refusal :=
  .next (s.pumpHeadroomLow k headroom)
def execPumpStop (k : Bank) (s : State) : Host.Outcome State Fault Refusal := .next (s.pumpStop k)
def execBusUndervoltage (k : Bank) (vbus : Int) (s : State) : Host.Outcome State Fault Refusal :=
  .next (s.busUndervoltage k vbus)
def execBusUvCleared (k : Bank) (vbus : Int) (s : State) : Host.Outcome State Fault Refusal :=
  .next (s.busUvCleared k vbus)

/-! ### Ramps -/

/-- R94: the ON criterion of channel n in two consecutive rounds: drops VBUS - VLOAD and VGS in 0.1 mV. -/
def State.onCriterion (s : State) (n : Nat) (drop1 drop2 vgs1 vgs2 : Int) : Bool :=
  let d := s.get (CHANNEL_CONFIG.RAMP_DONE_DROP n)
  drop1 ≤ d && drop2 ≤ d && 90000 < vgs1 && 90000 < vgs2

/-- R94, R95, R112, R136: a ramp ends in ON; REQUEST PWM then waits for its first phase instant, on a standing channel only
where the ramp is a retry. -/
def State.rampDone (s : State) (n : Nat) (drop1 drop2 vgs1 vgs2 : Int) : State :=
  if s.cell n = ST.RAMP && s.onCriterion n drop1 drop2 vgs1 vgs2 then
    let s := (s.cellTo n ST.ON).swapOnMet n
    if s.nat (inForce (CHANNEL_CONFIG.REQUEST n)) = 2 && (!s.standing n || s.flag (RAMP_RETRY n)) then s.pendPwm n else s
  else s

/-- R94: a ramp that has not ended within RAMP_TIMEOUT of its start trips, in LIMIT too where the ramp went there. -/
def State.rampTimeout (s : State) (n : Nat) (vgs vload : Int) : State :=
  let ramping := s.cell n == ST.RAMP || (s.cell n == ST.LIMIT && s.nat (LIMIT_FROM n) == ST.RAMP)
  if ramping && s.nat (RAMP_START n) + s.nat (CHANNEL_CONFIG.RAMP_TIMEOUT n) ≤ s.time then
    ((s.trip n 5 5).raiseChannel .RAMP_TIMEOUT_TRIP n 0x01 0 [f32 vgs, f32 vload]).lockoutTold n |>.swapTrip n
  else s

def execRampDone (n : Chan) (drop1 drop2 vgs1 vgs2 : Int) (s : State) : Host.Outcome State Fault Refusal :=
  .next (s.rampDone n drop1 drop2 vgs1 vgs2)
def execRampTimeout (n : Chan) (vgs vload : Int) (s : State) : Host.Outcome State Fault Refusal :=
  .next (s.rampTimeout n vgs vload)

/-! ### PWM -/

/-- R148: the open test of a lamp in PWM as a period completes: its RMS against the fraction of the nominal current. -/
def State.lampPeriod (s : State) (n : Nat) : State :=
  let f := s.nat (CHANNEL_PROTECTION.LAMP_OPEN_FRACTION n)
  let lim := f * s.nat (CHANNEL_PROTECTION.LAMP_NOMINAL n)
  let rms := s.nat (PWM_RMS n)
  if s.flag (CHANNEL_PROTECTION.LAMP_MODE n) && f != 0 &&
      s.nat (RAMP_START n) + s.nat (CHANNEL_PROTECTION.LAMP_DECAY_TIME n) ≤ s.nat (PWM_AT n) then
    if rms * rms * 65536 * 100000000 < lim * lim * s.pwmDuty n then s.count (LAMP_LOW n) 255 else s.setN (LAMP_LOW n) 0
  else s

/-- The root of a mean of squares, rounded to the nearest. -/
def rootMean (sum count : Nat) : Nat := if count = 0 then 0 else (isqrt (4 * sum / count) + 1) / 2

/-- R103: the PWM period of channel n that ends now gives its RMS. -/
def State.pwmPeriodEnds (s : State) (n : Nat) : State :=
  if s.nat (PWM_AT n) = 0 then s
  else
    let s := s.setN (PWM_RMS n) (rootMean (s.nat (PWM_SQ n)) (s.nat (PWM_CNT n)))
    (s.count (PWM_PERIODS n) 0xFFFFFFFF).lampPeriod n

/-- R106: a PWM period of channel n begins now: its planned off edge, its next phase instant, and its rising edge, held
while edges pause. -/
def State.pwmPeriodBegins (s : State) (n : Nat) : State :=
  let on := s.pwmPeriod n * 160 * s.pwmDuty n / 65536
  let s := ((s.setN (PWM_AT n) s.time).setN (PWM_OFF n) (s.time * 160 + on)).setN (PWM_NEXT n) (s.nextPhase n (s.time + 1))
  let s := (s.setN (PWM_SQ n) 0).setN (PWM_CNT n) 0
  if on = 0 then (s.setN (PWM_HIGH n) 0).setN (PWM_HELD n) 0
  else if s.edgePaused (bankOf n) then (s.setN (PWM_HIGH n) 0).setN (PWM_HELD n) 1
  else s.riseEdge n

/-- R95, R106 to R108: a phase instant of channel n. A channel that is to begin PWM begins it; one that is to go to ON
rises and stays; a channel with a new offset or period waits in its off-time, or in ON, for its new instant. -/
def State.phaseInstant (s : State) (n : Nat) : State :=
  let begins := s.nat (PEND n) == 2 && s.cell n == ST.ON
  if s.nat (PWM_NEXT n) ≤ s.time && (begins || s.cell n == ST.PWM) && !s.flag (LOGIC_OFF (dieOf n)) then
    let s := if begins then s else s.pwmPeriodEnds n
    if s.time < s.nextPhase n s.time then (s.setN (PWM_NEXT n) (s.nextPhase n s.time)).setN (PWM_AT n) 0
    else if begins then
      let s := (s.setN (PEND n) 0).setN (PWM_PERIODS n) 0
      ((s.setN (PWM_AT n) 0).cellTo n ST.PWM).pwmPeriodBegins n
    else if s.nat (PEND n) = 1 then ((s.setN (PEND n) 0).setN (PWM_HIGH n) 0).cellTo n ST.ON
    else s.pwmPeriodBegins n
  else s

/-- R95, R106, R126: the planned off edge of channel n: a limit entered in the on-time ends, a request for ON takes
effect, or the gate falls by its sink stage; a pulse still held is skipped. -/
def State.offEdge (s : State) (n : Nat) : State :=
  let inPwm := s.cell n == ST.PWM || (s.cell n == ST.LIMIT && s.nat (LIMIT_FROM n) == ST.PWM)
  if inPwm && s.nat (PWM_OFF n) ≤ s.time * 160 + 159 && (s.flag (PWM_HIGH n) || s.flag (PWM_HELD n)) then
    let high := s.flag (PWM_HIGH n)
    let s := if s.cell n = ST.LIMIT then s.cellTo n ST.PWM else s
    let s := (s.setN (PWM_HIGH n) 0).setN (PWM_HELD n) 0
    if high && s.nat (PEND n) = 1 then (s.setN (PEND n) 0).cellTo n ST.ON
    else if high then s.setN (GATE n) 5
    else s
  else s

def execPwmPhaseInstant (n : Chan) (s : State) : Host.Outcome State Fault Refusal := .next (s.phaseInstant n)
def execPwmOffEdge (n : Chan) (s : State) : Host.Outcome State Fault Refusal := .next (s.offEdge n)

/-! ### The hard-short comparator (R122 to R124) -/

/-- R122: whether the comparator of channel n is armed: in RAMP, ON and LIMIT and in the on-times of PWM. -/
def State.comparatorArmed (s : State) (n : Nat) : Bool :=
  let c := s.cell n
  c == ST.RAMP || c == ST.ON || c == ST.LIMIT || (c == ST.PWM && s.flag (PWM_HIGH n))

/-- R123: blanking, which does not apply in LIMIT. -/
def State.blanked (s : State) (n : Nat) : Bool := s.time < s.nat (BLANK_UNTIL n) && s.cell n != ST.LIMIT

/-- R124, R121: the hard-short trip of channel n. -/
def State.hardShort (s : State) (n : Nat) : State :=
  let st := s.cell n
  let s := (s.captureSees n).trip n 1 4
  (s.raiseChannel .HARD_SHORT_TRIP n 0x20 0 [f8 st, f8 (s.get (CHANNEL_PROTECTION.RETRIES_LEFT n))]).lockoutTold n |>.swapTrip n

/-- R118: a hard-short pull-down of an anchored channel during a logic outage. -/
def State.outagePullDown (s : State) (n : Nat) : State :=
  if isAnchored n && s.flag (LATCH n) then
    ((((s.setN (LATCH n) 0).setN (LATCH_PULLED n) 1).setN (CELL n) ST.OFF).setN (GATE n) 0).pumpUpdate (bankOf n)
  else s

/-- R122: the hard-short level of channel n across the shunt, in nV. -/
def State.shortLevel (s : State) (n : Nat) : Nat := s.nat (CHANNEL_PROTECTION.HARD_SHORT_LEVEL n) * 250000

/-- R122: the accuracy of the threshold, 2 % + 0.25 mV, in nV. -/
def State.shortError (s : State) (n : Nat) : Nat := s.shortLevel n / 50 + 250000

/-- R122: whether a crossing by SRC - LOAD of vsh nV for ns nanoseconds certainly trips channel n. -/
def State.shortSure (s : State) (n ns : Nat) (vsh : Int) : Bool :=
  150 ≤ ns && (s.shortLevel n + s.shortError n : Nat) < vsh

/-- R122: whether it may trip: it lasts 50 ns or more and lies above the threshold within its accuracy. -/
def State.shortMay (s : State) (n ns : Nat) (vsh : Int) : Bool :=
  50 ≤ ns && (s.shortLevel n : Int) - s.shortError n < vsh

/-- R122, R118: what a hard short does: the pull-down without the logic, otherwise a trip. -/
def State.shortActs (s : State) (n : Nat) : State := if s.flag (LOGIC_OFF (dieOf n)) then s.outagePullDown n else s.hardShort n

/-- R122: SRC - LOAD has lain at vsh nV for ns nanoseconds: it trips where the rule says that it does, not where the rule
says that it does not, and in between, on a die without logic too, as a free value decides. -/
def State.hardShortCrossing (s : State) (n ns : Nat) (vsh : Int) : State :=
  if (if s.flag (LOGIC_OFF (dieOf n)) then isAnchored n && s.flag (LATCH n) else s.comparatorArmed n && !s.blanked n) && s.shortMay n ns vsh then
    if s.shortSure n ns vsh then s.shortActs n
    else
      let f := s.takeFreeIn 0 1
      if f.1 = 1 then f.2.shortActs n else f.2
  else s

def execHardShortTrip (n : Chan) (ns : Nat) (s : State) (vsh : Int := 0) : Host.Outcome State Fault Refusal :=
  .next (s.hardShortCrossing n ns vsh)

/-! ### The limit loop (R125 to R127, R146) -/

/-- R146: 1.1 times the envelope of channel n at time t after its start, across the shunt, in nV. -/
def State.envelope (s : State) (n t : Nat) : Nat :=
  let td := s.nat (CHANNEL_PROTECTION.LAMP_DECAY_TIME n)
  let m := s.nat (CHANNEL_PROTECTION.LAMP_MULTIPLE n)
  11 * s.nat (CHANNEL_PROTECTION.LAMP_NOMINAL n) * (m * td - (m - 4) * t) *
    s.nat (CHANNEL_CONFIG.SHUNT_RESISTANCE n) / (400000 * td)

/-- R125, R146: the effective limit level of channel n in nV; 0 where the limit is disabled. -/
def State.effectiveLimit (s : State) (n : Nat) : Nat :=
  let lim := s.nat (CHANNEL_PROTECTION.LIMIT_LEVEL n) * 250000
  let t := s.time - s.nat (LAMP_AT n)
  if lim = 0 then 0
  else if s.flag (CHANNEL_PROTECTION.LAMP_MODE n) && s.modelFlag n MFLAG.LAMP_ENVELOPE &&
      t < s.nat (CHANNEL_PROTECTION.LAMP_DECAY_TIME n) then
    min (max lim (s.envelope n t)) (s.shortLevel n - 2000000)
  else lim

/-- R125: a shunt voltage (nV) above the effective limit level in RAMP, ON or a PWM on-time. -/
def State.limitEntered (s : State) (n : Nat) (vsh : Int) : State :=
  let c := s.cell n
  let may := c == ST.RAMP || c == ST.ON || (c == ST.PWM && s.flag (PWM_HIGH n))
  let e := s.effectiveLimit n
  if may && e != 0 && (e : Int) < vsh && !s.flag (LOGIC_OFF (dieOf n)) then
    let s := ((s.captureSees n).setN (LIMIT_FROM n) c).cellTo n ST.LIMIT
    let s := s.count (CHANNEL_SUPERVISION.LIMIT_ENTRIES n) 0xFFFF
    let s := if s.standing n then s.count (STAND_EVENTS n) 0xFFFF else s
    s.raiseChannel .LIMIT_ENTERED n 0x22 0 [f32 (divNear e 100000)]
  else s

/-- R126: the loop has held the gate within 0.5 V of VCP for two rounds (VCP - VGATE in 0.1 mV): back at once. -/
def State.limitSaturated (s : State) (n : Nat) (room1 room2 : Int) : State :=
  if s.cell n = ST.LIMIT && room1 ≤ 5000 && room2 ≤ 5000 then s.cellTo n (s.nat (LIMIT_FROM n)) else s

/-- The time in LIMIT within the open episode of channel n, µs (R127). -/
def State.limitTime (s : State) (n : Nat) : Nat :=
  s.nat (LIMIT_SPENT n) + (if s.cell n = ST.LIMIT then s.time - s.nat (LIMIT_SINCE n) else 0)

/-- R127: LIMIT_MAX_TIME is reached within one episode. -/
def State.limitTimeout (s : State) (n : Nat) : State :=
  if s.cell n = ST.LIMIT && s.nat (CHANNEL_PROTECTION.LIMIT_MAX_TIME n) ≤ s.limitTime n then
    let t := s.limitTime n
    ((s.trip n 4 4).raiseChannel .LIMIT_TIMEOUT_TRIP n 0x23 0 [f32 t]).lockoutTold n |>.swapTrip n
  else s

/-- R127: an episode ends 1 ms after LIMIT was left. -/
def State.limitEpisodeEnd (s : State) (n : Nat) : State :=
  if s.flag (LIMIT_EPISODE n) && s.cell n != ST.LIMIT && s.nat (LIMIT_LEFT n) + 1000 ≤ s.time then
    (s.setN (LIMIT_EPISODE n) 0).setN (LIMIT_SPENT n) 0
  else s

def execLimitEntered (n : Chan) (vsh : Int) (s : State) : Host.Outcome State Fault Refusal := .next (s.limitEntered n vsh)
def execLimitSaturatedExit (n : Chan) (room1 room2 : Int) (s : State) : Host.Outcome State Fault Refusal :=
  .next (s.limitSaturated n room1 room2)
def execLimitTimeoutTrip (n : Chan) (s : State) : Host.Outcome State Fault Refusal := .next (s.limitTimeout n)
def execLimitEpisodeEnd (n : Chan) (s : State) : Host.Outcome State Fault Refusal := .next (s.limitEpisodeEnd n)

/-! ### Trip, retry and lockout (R135 to R139) -/

/-- R124, R135, R136: VGS (0.1 mV) is below 1.0 V: the static hold takes over, and the trip's shadow closes 1 ms later
(R316). Once the frame of the trip has ended too, it becomes RETRY, or LOCKOUT with no retries left. With REQUEST 0 the
retries end in OFF (R95, R153). -/
def State.tripSettled (s : State) (n : Nat) (vgs : Int) : State :=
  let s := if vgs < 10000 then (s.setClosing 1 n (s.stamp + 1000)).gateHeld n else s
  if s.cell n = ST.TRIP && vgs < 10000 && s.nat (TRIP_FRAME n) < s.frame then
    if s.nat (CHANNEL_PROTECTION.RETRIES_LEFT n) = 0 then
      s.cellTo n ST.LOCKOUT
    else if s.nat (inForce (CHANNEL_CONFIG.REQUEST n)) = 0 && !s.standing n then s.turnOff n 0
    else s.cellTo n ST.RETRY
  else s

/-- R136, R139: the wait of a retry has ended and no cooling is owed: one retry is used and the channel asks for
admission; a standing channel ramps at once, at one quarter of GATE_SOURCE. -/
def State.retryDue (s : State) (n : Nat) : State :=
  if s.cell n = ST.RETRY && s.nat (WAIT_END n) ≤ s.time && !s.coolingOwed n && !s.waiting n &&
      !s.flag (LOGIC_OFF (dieOf n)) then
    let left := s.nat (CHANNEL_PROTECTION.RETRIES_LEFT n)
    let s := if left < 255 then s.setN (CHANNEL_PROTECTION.RETRIES_LEFT n) (left - 1) else s
    let s := s.setN (RETRY_STRETCH n) (s.time - s.nat (WAIT_END n))
    if s.standing n then s.startRamp n true true
    else
      let s := s.askAdmission n 2
      if s.nat LAST_BOUNDARY < s.time then s.setN (ADMIT_SINCE n) (s.frame + 1) else s
  else s

/-- R137: RETRY_RESET_TIME in ON or PWM without a trip. -/
def State.retryReset (s : State) (n : Nat) : State :=
  let run := (s.cell n == ST.ON || s.cell n == ST.PWM) && !s.flag (LOGIC_OFF (dieOf n))
  if run && s.nat (CHANNEL_PROTECTION.RETRY_RESET_TIME n) ≤ s.nat (RUN_SPENT n) + (s.time - s.nat (RUN_SINCE n)) then
    s.setN (CHANNEL_PROTECTION.RETRIES_LEFT n) (s.nat (CHANNEL_PROTECTION.RETRY_COUNT n))
  else s

def execTripSettled (n : Chan) (vgs : Int) (s : State) : Host.Outcome State Fault Refusal := .next (s.tripSettled n vgs)
def execRetryDue (n : Chan) (s : State) : Host.Outcome State Fault Refusal := .next (s.retryDue n)
def execRetryResetTime (n : Chan) (s : State) : Host.Outcome State Fault Refusal := .next (s.retryReset n)

/-! ### Lamps (R146, R148) -/

/-- R146: LAMP_DECAY_TIME after its start the envelope of channel n ends. -/
def State.lampEnds (s : State) (n : Nat) : State :=
  if s.modelFlag n MFLAG.LAMP_ENVELOPE &&
      s.nat (LAMP_AT n) + s.nat (CHANNEL_PROTECTION.LAMP_DECAY_TIME n) ≤ s.time then
    s.setModelFlag n MFLAG.LAMP_ENVELOPE false
  else s

/-- R148: a lamp in ON below its open fraction for 50 published frames, or in PWM for 2 periods, is open; the record is
raised once per on-period. -/
def State.openLamp (s : State) (n : Nat) : State :=
  let c := s.cell n
  let need := if c = ST.PWM then 2 else 50
  if (c == ST.ON || c == ST.PWM) && s.flag (CHANNEL_PROTECTION.LAMP_MODE n) &&
      s.nat (CHANNEL_PROTECTION.LAMP_OPEN_FRACTION n) != 0 && need ≤ s.nat (LAMP_LOW n) then
    let s := s.setModelFlag n MFLAG.OPEN_LAMP true
    if s.flag (LAMP_TOLD n) then s
    else
      (s.setN (LAMP_TOLD n) 1).raiseChannel .OPEN_LAMP n 0x29 0
        [f32 (s.get (if c = ST.PWM then CHANNEL_STATUS.I_RMS n else CHANNEL_STATUS.I_MEAN n))]
  else s

def execLampEnvelopeEnd (n : Chan) (s : State) : Host.Outcome State Fault Refusal := .next (s.lampEnds n)
def execOpenLamp (n : Chan) (s : State) : Host.Outcome State Fault Refusal := .next (s.openLamp n)

/-! ### Castling -/

/-- R153: the incoming channel is not ON at the origin plus SWAP_TIMEOUT. -/
def State.swapTimeout (s : State) (p : Nat) : State :=
  if s.nat (CASTLING_PAIR.SWAP_STATE p) = 1 &&
      s.nat (SWAP_AT p) + s.nat (CASTLING_PAIR.SWAP_TIMEOUT p) ≤ s.time then s.swapAbort p 2
  else s

/-- R152: the end of the overlap, at a frame boundary only. -/
def State.swapOverlapEnd (s : State) (p : Nat) : State :=
  if s.time = s.nat LAST_BOUNDARY then s.swapComplete p else s

def execSwapOverlapEnd (p : Pair) (s : State) : Host.Outcome State Fault Refusal := .next (s.swapOverlapEnd p)
def execSwapTimeout (p : Pair) (s : State) : Host.Outcome State Fault Refusal := .next (s.swapTimeout p)

/-! ### Capture (R109 to R111) -/

/-- R109: the samples per signal of die d. -/
def State.captureLength (s : State) (d : Nat) : Nat := 4096 / s.nat (BANK.CAPTURE_SIGNALS (8 * d))

/-- Sample j of the ring of signal i of die d, as a signed number. -/
def State.captureSample (s : State) (d i j : Nat) : Int := signedOf 16 (ofLE (slice (s.blob (CAP_RING d i)) (2 * j) 2))

/-- The number of samples in the ring of signal i of die d. -/
def State.captureCount (s : State) (d i : Nat) : Nat := (s.blob (CAP_RING d i)).length / 2

/-- R109: how many samples of signal i of die d repeat the last one: one, where the signal is a bus. -/
def State.captureRepeats (s : State) (d i : Nat) : Nat :=
  if s.nat (BANK.CAPTURE_SIGNAL (8 * d) i) / 16384 = 2 then 1 else 0

/-- R110: whether the last value of signal 1 is a trigger of TRIGGER_MODE. -/
def State.triggered (s : State) (d : Nat) : Bool :=
  let c := s.captureCount d 0 - s.captureRepeats d 0
  let level := s.get (BANK.TRIGGER_LEVEL (8 * d))
  let a := s.captureSample d 0 (c - 2)
  let b := s.captureSample d 0 (c - 1)
  match s.nat (BANK.TRIGGER_MODE (8 * d)) with
  | 0 => 1 ≤ c
  | 1 => s.flag (CAP_SEEN d) && 1 ≤ c
  | 2 => 2 ≤ c && a < level && level ≤ b
  | _ => 2 ≤ c && level < a && b ≤ level

/-- R110: the ring of one signal as the trigger fires: PRETRIGGER samples before the trigger sample, the earliest filled
with 0x8000 where they do not exist, the trigger sample, and its repetitions. -/
def triggerRing (pre repeats : Nat) (ring : List Byte) : List Byte :=
  let keep := 2 * (pre + 1 + repeats)
  let have_ := ring.drop (ring.length - keep)
  (List.replicate ((keep - have_.length) / 2) [(0x00 : Byte), 0x80]).flatten ++ have_

/-- R110: the trigger of the armed capture of die d fires. -/
def State.captureTrigger (s : State) (d : Nat) : State :=
  if s.nat (BANK.CAPTURE_STATE (8 * d)) = 1 && s.triggered d then
    let pre := s.nat (BANK.PRETRIGGER (8 * d))
    let s := (s.setN (BANK.CAPTURE_STATE (8 * d)) 2).setN (BANK.TRIGGER_STAMP (8 * d)) s.stamp
    forBelow (s.nat (BANK.CAPTURE_SIGNALS (8 * d))) (fun i s =>
      s.setBlob (CAP_RING d i) (triggerRing pre (s.captureRepeats d i) (s.blob (CAP_RING d i)))) s
  else s

/-- R111: the domain: from the oldest sample in time, and within one sample time from signal 1 upward. -/
def State.captureData (s : State) (d : Nat) : List Byte :=
  (List.range (s.captureLength d)).flatMap fun j =>
    (List.range (s.nat (BANK.CAPTURE_SIGNALS (8 * d)))).flatMap fun i => slice (s.blob (CAP_RING d i)) (2 * j) 2

/-- R111: the buffer of die d is full. -/
def State.captureComplete (s : State) (d : Nat) : State :=
  let full := (List.range (s.nat (BANK.CAPTURE_SIGNALS (8 * d)))).all fun i =>
    decide (s.captureLength d ≤ s.captureCount d i)
  if s.nat (BANK.CAPTURE_STATE (8 * d)) = 2 && full then
    let s := (s.setN (BANK.CAPTURE_STATE (8 * d)) 3).setBlob (BANK.CAPTURE_DATA (8 * d)) (s.captureData d)
    s.raiseDie d .CAPTURE_COMPLETE (siteDie d 0xE2) (s.nat (BANK.CAPTURE_OWNER (8 * d))) 0
      [f8 (d + 1), f32 (s.nat (BANK.TRIGGER_STAMP (8 * d)) % 2 ^ 32), f16 (s.captureLength d)]
  else s

/-- R110, R111: CAPTURE_ARM of die d acts: the buffer is emptied, filling begins at the next frame boundary, and a new
arm during filling restarts it. A descriptor that reads the buffer ends there. -/
def State.captureArm (s : State) (d : Nat) : State :=
  let reads := s.flag DMA_BUSY && s.nat (DMA_WORD 0) / 2 ^ 60 == 3 && s.nat (DMA_WORD 0) % 2 ^ 24 == d
  let s := if reads then s.setN DMA_REARMED 1 else s
  let s := ((s.setN (BANK.CAPTURE_STATE (8 * d)) 1).setN (CAP_SEEN d) 0).setN (CAP_FROM d) (s.frame + 1)
  forBelow 8 (fun i s => s.setBlob (CAP_RING d i) []) (s.setBlob (BANK.CAPTURE_DATA (8 * d)) [])

/-- R110: one more sample for signal i of die d, twice for a bus (R109). Armed, the ring keeps what a trigger may need;
filling, it stops when full. -/
def State.capturePush (s : State) (d i : Nat) (sample : Int) (times : Nat) : State :=
  let st := s.nat (BANK.CAPTURE_STATE (8 * d))
  let len := 2 * s.captureLength d
  let ring := s.blob (CAP_RING d i) ++ (List.replicate times (leInt 2 sample)).flatten
  if s.frame < s.nat (CAP_FROM d) then s
  else if st = 1 then s.setBlob (CAP_RING d i) (ring.drop (ring.length - len))
  else if st = 2 then s.setBlob (CAP_RING d i) (ring.take len)
  else s

def execCaptureTrigger (d : Die) (s : State) : Host.Outcome State Fault Refusal := .next (s.captureTrigger d)
def execCaptureComplete (d : Die) (s : State) : Host.Outcome State Fault Refusal := .next (s.captureComplete d)

/-! ### Calibration (R99, R100) -/

/-- R100: the bank flag that a channel of the bank is CAL_DEGRADED. -/
def State.showDegraded (s : State) (k : Nat) : State :=
  s.setBit (BANK.BANK_FLAGS k) BFLAG.CAL_DEGRADED
    ((List.range 16).any fun i => s.chFlag (16 * k + i) FLAG.CAL_DEGRADED)

/-- R100: whether new coefficients of path p of unit u differ too much: 0.05 % in gain or 5 µV in offset. -/
def State.calDiffers (s : State) (u p : Nat) (gain offset : Int) : Bool :=
  5000 < (gain - s.get (CAL_GAIN u p)).natAbs || 5000 < (offset - s.get (CAL_OFFSET u p)).natAbs

/-- R99, R100: the result for path p (0 current, 1 voltage) of unit u of bank k: a channel, or its relief units. -/
def State.calJudge (s : State) (k u p : Nat) (gain offset : Int) : State :=
  if s.calDiffers u p gain offset then
    if s.flag (CAL_DIFF u p) then
      let dg := gain - s.get (CAL_GAIN u p)
      let do_ := offset - s.get (CAL_OFFSET u p)
      if u < 512 then
        (s.setChFlag u FLAG.CAL_DEGRADED true).raiseCell .CAL_FAULT u 0x08 p 0 [f8 p, f32 dg, f32 do_]
      else
        let f := s.takeFreeIn 0 65535
        f.2.raiseDie (k / 8) .CAL_FAULT (siteBank k 0x84 + 2 + p) 0 0 [f16 f.1, f8 p, f32 dg, f32 do_]
    else s.setN (CAL_DIFF u p) 1
  else
    let s := ((s.setN (CAL_DIFF u p) 0).set (CAL_GAIN u p) gain).set (CAL_OFFSET u p) offset
    s.setN (CAL_AT u) s.time

/-- R100: CAL_DEGRADED clears when a rotation agrees with the coefficients in use, on both paths. -/
def State.calClear (s : State) (u : Nat) : State :=
  if u < 512 && !s.flag (CAL_DIFF u 0) && !s.flag (CAL_DIFF u 1) then s.setChFlag u FLAG.CAL_DEGRADED false else s

/-- R99, R422: the present calibration position of bank k ends; the rotation goes on with the next position, or pauses
there while the die is throttled. -/
def State.calibrationEnd (s : State) (k : Nat) (gainI offsetI gainV offsetV : Int) : State :=
  if s.flag (CAL_PAUSED k) || s.time < s.nat (CAL_POS_AT k) + 4096 then s
  else
    let pos := s.nat (CAL_POS k)
    let u := if pos < 16 then 16 * k + pos else 512 + k
    let s := (((s.calJudge k u 0 gainI offsetI).calJudge k u 1 gainV offsetV).calClear u).showDegraded k
    let s := (s.setN (CAL_POS k) ((pos + 1) % 17)).setN (CAL_POS_AT k) s.time
    if 2 ≤ s.nat (THERMAL_DIE.DIE_STATE (k / 8 + 1)) then s.setN (CAL_PAUSED k) 1 else s

def execCalibrationPositionEnd (k : Bank) (gainI offsetI gainV offsetV : Int) (s : State) :
    Host.Outcome State Fault Refusal := .next (s.calibrationEnd k gainI offsetI gainV offsetV)

/-! ### Standing -/

/-- R16, R112: die d has received no valid downlink frame for 200 µs. -/
def State.linkLossStanding (s : State) (d : Nat) : State :=
  if !s.flag (LOGIC_OFF d) && !s.flag (LOSS_STOOD d) && s.nat (LAST_VALID d) + 200 ≤ s.time then
    ((s.setN (LOSS_STOOD d) 1).count (AMLOR_LINK.LOSS_EVENTS d) 0xFFFF).standDie d 1
  else s

/-- R113: the control-die reset indication: every channel die whose logic runs stands with cause 2. -/
def State.resetIndication (s : State) : State :=
  if s.nat DEV_STATE != 0 then s else forBelow 4 (fun d s => if s.flag (LOGIC_OFF d) then s else s.standDie d 2) s

/-- R113: a STAND block that die d has received acts at the next round boundary: cause 3 of a house stop, 5 of Park. -/
def State.standBlock (s : State) (d : Nat) : State :=
  if s.nat (STAND_DUE d) = 0 || s.flag (LOGIC_OFF d) then s
  else
    let cause := s.nat (STAND_DUE d)
    (s.setN (STAND_DUE d) 0).standDie d cause

def execLinkLossStanding (d : Die) (s : State) : Host.Outcome State Fault Refusal := .next (s.linkLossStanding d)
def execControlDieResetIndication (s : State) : Host.Outcome State Fault Refusal := .next s.resetIndication
def execStandBlock (d : Die) (s : State) : Host.Outcome State Fault Refusal := .next (s.standBlock d)
def execAnchorBrownout (d : Die) (s : State) : Host.Outcome State Fault Refusal :=
  .next (if s.flag DIES_HELD then s else s.logicReturns d)

end Sys2Proof.Machine
end

