-- ==== Sys2Proof/Machine/Windows.lean ====
section
/-!
DEFINITION. The window of a channel (R168 to R171), the level view (R173, R174) and the rows of the windows, the reset
outputs and the counters.
-/
namespace Sys2Proof.Machine

/-! ### Judging (R168, R169) -/

/-- R168: whether lower judging of channel n is active at the round that ends now. -/
def State.lowerJudging (s : State) (n : Nat) : Bool :=
  let c := s.cell n
  if s.standing n then standingGate c == 1 || standingGate c == 2
  else c == ST.ON || c == ST.LIMIT || (c == ST.PWM && s.flag (PWM_HIGH n) && s.nat (RISE_AT n) + 4 < s.time)

/-- UNDER of channel n changes (R171). -/
def State.setUnder (s : State) (n : Nat) (on : Bool) : State :=
  if s.bit (WIN n) WFLAG.UNDER = on then s
  else
    (s.setBit (WIN n) WFLAG.UNDER on).raiseChannel .UNDERVOLTAGE n 0 0
      [f32 (s.get (WIN_LAST n)), f32 (s.get (CHANNEL_SUPERVISION.UV_LEVEL n))]

/-- OVER of channel n changes (R171). -/
def State.setOver (s : State) (n : Nat) (on : Bool) : State :=
  if s.bit (WIN n) WFLAG.OVER = on then s
  else
    (s.setBit (WIN n) WFLAG.OVER on).raiseChannel .OVERVOLTAGE n 0 0
      [f32 (s.get (WIN_LAST n)), f32 (s.get (CHANNEL_SUPERVISION.OV_LEVEL n))]

/-- R169: lower judging of channel n begins or ends: UNDER and NEAR_LOW are set without a count. -/
def State.lowerEdge (s : State) (n : Nat) (now : Bool) : State :=
  if s.bit (WIN n) WFLAG.LOWER_JUDGING = now then s
  else
    let s := (s.setBit (WIN n) WFLAG.LOWER_JUDGING now).setBit (WIN n) WFLAG.NEAR_LOW true
    forBelow 3 (fun c s => s.setN (WIN_COUNT n c) 0) (s.setUnder n true)

/-- A filter count: one more where its condition holds, else 0; held at 255. -/
def State.filterCount (s : State) (n c : Nat) (holds : Bool) : State :=
  if holds then s.count (WIN_COUNT n c) 255 else s.setN (WIN_COUNT n c) 0

/-- R169: one judged value for the lower threshold. -/
def State.judgeLow (s : State) (n : Nat) (v : Int) : State :=
  let uv := s.get (CHANNEL_SUPERVISION.UV_LEVEL n)
  let near := uv + s.get (CHANNEL_SUPERVISION.UV_HYST n)
  let s := ((s.filterCount n 0 (v < uv)).filterCount n 1 (v < near)).filterCount n 2 (near ≤ v)
  let s := s.set (WIN_LAST n) v
  if s.nat (CHANNEL_SUPERVISION.UV_SET_FILTER n) ≤ s.nat (WIN_COUNT n 1) then s.setBit (WIN n) WFLAG.NEAR_LOW true else s

/-- R169: one judged value for the upper threshold. -/
def State.judgeHigh (s : State) (n : Nat) (v : Int) : State :=
  let ov := s.get (CHANNEL_SUPERVISION.OV_LEVEL n)
  let near := ov - s.get (CHANNEL_SUPERVISION.OV_HYST n)
  let s := ((s.filterCount n 3 (ov < v)).filterCount n 4 (near < v)).filterCount n 5 (v ≤ near)
  let s := s.set (WIN_LAST n) v
  if s.nat (CHANNEL_SUPERVISION.OV_SET_FILTER n) ≤ s.nat (WIN_COUNT n 4) then s.setBit (WIN n) WFLAG.NEAR_HIGH true else s

/-- R168: one sample of channel n, eligible for the lower threshold where `low`. -/
def State.judgeSample (s : State) (n : Nat) (v : Int) (low : Bool) : State :=
  if s.nat (CHANNEL_SUPERVISION.FILTER_UNIT n) = 0 then
    let s := s.judgeHigh n v
    if low then s.judgeLow n v else s
  else
    let s := (s.setN (WIN_ACC n 0) (s.nat (WIN_ACC n 0) + 1)).set (WIN_ACC n 1) (s.get (WIN_ACC n 1) + v)
    if low then (s.setN (WIN_ACC n 2) (s.nat (WIN_ACC n 2) + 1)).set (WIN_ACC n 3) (s.get (WIN_ACC n 3) + v) else s

/-- R168: with FILTER_UNIT 1 the means of the eligible samples of a frame are judged at its end; no sample, no value. -/
def State.judgeFrame (s : State) (n : Nat) : State :=
  if s.nat (CHANNEL_SUPERVISION.FILTER_UNIT n) = 0 then s
  else
    let s := if s.nat (WIN_ACC n 0) = 0 then s
      else s.judgeHigh n (divNear (s.get (WIN_ACC n 1)) (s.nat (WIN_ACC n 0)))
    let s := if s.nat (WIN_ACC n 2) = 0 then s
      else s.judgeLow n (divNear (s.get (WIN_ACC n 3)) (s.nat (WIN_ACC n 2)))
    forBelow 4 (fun c s => s.setN (WIN_ACC n c) 0) s

/-- R168, R422: channel n in the round that ends now; last: the round is the last of its frame. A skipped slot gives no
judged value. -/
def State.judgeRound (s : State) (n : Nat) (v : Int) (skipped last : Bool) : State :=
  let s := if skipped then s else s.set (WIN_LAST n) v
  if s.nat (CHANNEL_SUPERVISION.WINDOW_MODE n) = 1 then
    let low := s.lowerJudging n
    let s := s.lowerEdge n low
    let s := if skipped then s else s.judgeSample n v low
    (if last then s.judgeFrame n else s).updateGood n
  else s

/-- R170: WINDOW_MODE of channel n becomes 1 at a boundary, or 0. -/
def State.windowMode (s : State) (n : Nat) : State :=
  if s.nat (CHANNEL_SUPERVISION.WINDOW_MODE n) = 1 then
    let s := ((s.setBit (WIN n) WFLAG.LOWER_JUDGING false).setBit (WIN n) WFLAG.NEAR_LOW true).setUnder n true
    (forBelow 8 (fun c s => s.setN (WIN_COUNT n c) 0) s).updateGood n
  else
    (s.setN (WIN n) (s.nat (WIN n) &&& 0x41)).updateGood n

/-- R169, R180: UV_SET_FILTER consecutive values below UV_LEVEL. -/
def State.undervoltage (s : State) (n : Nat) : State :=
  if s.nat (CHANNEL_SUPERVISION.WINDOW_MODE n) = 1 && !s.bit (WIN n) WFLAG.UNDER &&
      s.nat (CHANNEL_SUPERVISION.UV_SET_FILTER n) ≤ s.nat (WIN_COUNT n 0) then
    ((s.count (CHANNEL_SUPERVISION.UV_COUNT n) 0xFFFF).setUnder n true).updateGood n
  else s

/-- R169, R180: OV_SET_FILTER consecutive values above OV_LEVEL. -/
def State.overvoltage (s : State) (n : Nat) : State :=
  if s.nat (CHANNEL_SUPERVISION.WINDOW_MODE n) = 1 && !s.bit (WIN n) WFLAG.OVER &&
      s.nat (CHANNEL_SUPERVISION.OV_SET_FILTER n) ≤ s.nat (WIN_COUNT n 3) then
    ((s.count (CHANNEL_SUPERVISION.OV_COUNT n) 0xFFFF).setOver n true).updateGood n
  else s

/-- R169: UV_CLEAR_FILTER consecutive values at or above the upper hysteresis. -/
def State.underCleared (s : State) (n : Nat) : State :=
  if s.nat (CHANNEL_SUPERVISION.WINDOW_MODE n) = 1 &&
      s.nat (CHANNEL_SUPERVISION.UV_CLEAR_FILTER n) ≤ s.nat (WIN_COUNT n 2) then
    ((s.setBit (WIN n) WFLAG.NEAR_LOW false).setUnder n false).updateGood n
  else s

/-- R169: OV_CLEAR_FILTER consecutive values at or below the lower hysteresis. -/
def State.overCleared (s : State) (n : Nat) : State :=
  if s.nat (CHANNEL_SUPERVISION.WINDOW_MODE n) = 1 &&
      s.nat (CHANNEL_SUPERVISION.OV_CLEAR_FILTER n) ≤ s.nat (WIN_COUNT n 5) then
    ((s.setBit (WIN n) WFLAG.NEAR_HIGH false).setOver n false).updateGood n
  else s

def execUndervoltage (n : Chan) (s : State) : Host.Outcome State Fault Refusal := .next (s.undervoltage n)
def execOvervoltage (n : Chan) (s : State) : Host.Outcome State Fault Refusal := .next (s.overvoltage n)
def execUnderCleared (n : Chan) (s : State) : Host.Outcome State Fault Refusal := .next (s.underCleared n)
def execOverCleared (n : Chan) (s : State) : Host.Outcome State Fault Refusal := .next (s.overCleared n)

/-! ### The level view (R173, R174) -/

/-- R173: what the level-view subindex of channel n reads, from values of the four window fields. -/
def levelView (sub : Nat) (uv uvh ov ovh : Int) : Int :=
  match sub with
  | 0x0C => uv + uvh
  | 0x0D => uv
  | 0x0E => ov - ovh
  | _ => ov

/-- R174: what a write of v to a level-view subindex stages, as pairs of a window subindex and a value, from the tenant's
present values; or why it is refused before the range check. -/
def levelStage (sub : Nat) (uv uvh ov ovh v : Int) : Except Bool (List (Nat × Int)) :=
  match sub with
  | 0x0C => if v < uv then .error false else .ok [(0x03, v - uv)]
  | 0x0D => .ok ((0x02, v) :: (if v < uv + uvh then [(0x03, uv + uvh - v)] else []))
  | 0x0E => if ov < v then .error true else .ok [(0x05, ov - v)]
  | _ => .ok ((0x04, v) :: (if ov - ovh < v then [(0x05, v - (ov - ovh))] else []))

/-! ### Reset outputs -/

/-- R178: each half second of a keeper hold the outputs with KEEPER_REPORT change. -/
def State.keeperToggle (s : State) (r : Nat) : State :=
  if s.flag KEEPER_HOLDING && s.flag (RSO_KEEP r) && s.nat (RSO_TOGGLE_AT r) + 500000 ≤ s.time then
    (s.setFlag (RESET_OUTPUT.OUTPUT r) (!s.flag (RESET_OUTPUT.OUTPUT r))).setN (RSO_TOGGLE_AT r) s.time
  else s

def execRsoRelease (r : Rso) (s : State) : Host.Outcome State Fault Refusal := .next (s.rsoRelease r)
def execKeeperReportToggle (r : Rso) (s : State) : Host.Outcome State Fault Refusal := .next (s.keeperToggle r)

end Sys2Proof.Machine
end

