-- ==== Sys2Proof/Machine/Converter.lean ====
section
/-!
DEFINITION. The switching converters (R185 to R218): lanes and edges, both control loops, starting and stopping, pulse
truncation, peak limit and hiccup, the output window and the last-fault record.
-/
namespace Sys2Proof.Machine

/-! ### States and flags -/

abbrev CS.OFF : Nat := 0
abbrev CS.SOFT_START : Nat := 1
abbrev CS.RUN : Nat := 2
abbrev CS.HICCUP : Nat := 3
abbrev CS.LATCHED : Nat := 4

abbrev CFLAG.TRUNCATING : Nat := 0
abbrev CFLAG.PEAK_CUT : Nat := 1
abbrev CFLAG.IREF_AT_MAX : Nat := 2
abbrev CFLAG.IREF_AT_MIN : Nat := 3
abbrev CFLAG.DUTY_AT_MAX : Nat := 4
abbrev CFLAG.SR_HELD : Nat := 5
abbrev CFLAG.VIN_STALE : Nat := 6
abbrev CFLAG.TEMP_STALE : Nat := 7
abbrev CFLAG.SENSE_OVERRANGE : Nat := 8
abbrev CFLAG.SHARE_IMBALANCE : Nat := 9
abbrev CFLAG.OVERRIDDEN : Nat := 10

/-- STATE of converter m. -/
def State.conv (s : State) (m : Nat) : Nat := s.nat (CONVERTER_STATUS.STATE m)

/-- A bit of CONV_FLAGS of converter m. -/
def State.convFlag (s : State) (m b : Nat) : Bool := s.bit (CONVERTER_STATUS.CONV_FLAGS m) b

/-- CONV_FLAGS of converter m with one bit put. -/
def State.setConvFlag (s : State) (m b : Nat) (on : Bool) : State := s.setBit (CONVERTER_STATUS.CONV_FLAGS m) b on

/-- Whether converter m switches. -/
def State.convSwitches (s : State) (m : Nat) : Bool := s.conv m == CS.SOFT_START || s.conv m == CS.RUN

/-- R218: the site of element e of converter m. -/
def siteConverter (m e : Nat) : Nat := siteBlock (0x30 + m) e 0

/-- A message of converter m; the payload begins with the converter. -/
def State.raiseConverter (s : State) (k : Kind) (m e : Nat) (fields : List (Nat × Int)) : State :=
  s.raise k (siteConverter m e) (s.holderOfConverter m) 0 (f8 m :: fields)

/-! ### Lanes (R185 to R190) -/

/-- The lanes of converter m, ascending. -/
def State.lanesOf (s : State) (m : Nat) : List Nat := (List.range 16).filter fun l => s.nat (LANE.CONVERTER l) == m

/-- R309: whether a reaction has parked lane l: a full-bridge pair by either of its legs. -/
def State.lanePark (s : State) (l : Nat) : Bool :=
  s.flag (LANE_PARK l) || (s.nat (LANE.LANE_MODE l) == 1 && s.flag (LANE_PARK (l + 1)))

/-- R185: the active lanes of converter m, ascending: the rank of a lane is its place. -/
def State.activeLanes (s : State) (m : Nat) : List Nat :=
  (s.lanesOf m).filter fun l => s.nat (LANE.SHARE_WEIGHT l) != 0 && s.nat (LANE.LANE_MODE l) != 2 && !s.lanePark l

/-- Lanes as a mask, bit l for Ll. -/
def laneMask (l : List Nat) : Nat := (l.map fun i => 2 ^ i).sum

/-- The sum of the weights of the active lanes of converter m (R194). -/
def State.weightSum (s : State) (m : Nat) : Nat := ((s.activeLanes m).map fun l => s.nat (LANE.SHARE_WEIGHT l)).sum

/-- R187: the offset of lane l in its converter's cycle, in steps. -/
def State.laneOffset (s : State) (l : Nat) : Nat :=
  let m := s.nat (LANE.CONVERTER l)
  let a := s.activeLanes m
  s.nat (CONVERTER.SWITCH_PERIOD m) * (a.filter (· < l)).length / a.length

/-- R187: the on-time of a period in steps for a duty u, halves rounded up. -/
def onTime (u period : Nat) : Nat := (2 * u * period + 65536) / 131072

/-- R187, R188: the edges of a half-bridge lane in its period. -/
def bridgeEdges (ton period rise fall : Nat) : List Int :=
  (if rise + 16 ≤ ton then [(rise : Int), ton] else [-1, -1]) ++
    (if ton + fall + 16 ≤ period then [(ton + fall : Int), period] else [-1, -1])

/-- R189: the edges of a leg of a full bridge, delayed by `shift` steps. -/
def legEdges (shift period rise fall : Nat) : List Int :=
  [(shift + rise : Int), shift + period / 2, shift + period / 2 + fall, shift + period]

/-- The four edges of the period of lane l are stored. -/
def State.setEdges (s : State) (l : Nat) (e : List Int) : State :=
  forBelow 4 (fun i s => s.set (LANE_EDGE l i) (e.getD i (-1))) s

/-- Both outputs of lane l stay low (R184). -/
def State.laneLow (s : State) (l : Nat) : State := s.setEdges l [-1, -1, -1, -1]

/-- R184: every PWM output of the device is high-impedance: VIO is absent, in Park and in Ship. -/
def State.pwmFloat (s : State) : State := forBelow 16 (fun l s => s.setEdges l [-2, -2, -2, -2]) s

/-- R184: every PWM output of the device is driven low. -/
def State.pwmLow (s : State) : State := forBelow 16 (fun l s => s.laneLow l) s

/-- R190: the outputs of lane l go low, and where it leads a full bridge those of its lagging leg. -/
def State.laneParks (s : State) (l : Nat) : State :=
  let s := (s.laneLow l).setN (LANE_OFFSET l) 0
  if s.nat (LANE.LANE_MODE l) = 1 then s.laneLow (l + 1)
  else if s.nat (LANE.LANE_MODE l) = 2 then s.laneLow (l - 1)
  else s

/-- R200: the low sides are held off while SR_HELD. -/
def State.withSr (s : State) (m : Nat) (e : List Int) : List Int :=
  if s.convFlag m CFLAG.SR_HELD then e.take 2 ++ [-1, -1] else e

/-- R187 to R189, R205: the period that begins now on lane l for duty u: a half bridge, or both legs of a pair. While
truncation lasts its pulse is skipped, and a pair runs unshifted (log entry 77). -/
def State.planEdges (s : State) (l u : Nat) : State :=
  let m := s.nat (LANE.CONVERTER l)
  let p := s.nat (CONVERTER.SWITCH_PERIOD m)
  let u := if s.convFlag m CFLAG.TRUNCATING then 0 else u
  let s := (s.setN (LANE_FROM l) s.time).setN (LANE_EXTRA l) 0
  if s.nat (LANE.LANE_MODE l) = 1 then
    ((s.setEdges l (s.withSr m (legEdges 0 p (s.nat (LANE.DEAD_RISE l)) (s.nat (LANE.DEAD_FALL l))))).setEdges (l + 1)
      (s.withSr m (legEdges (u * p / 131072) p (s.nat (LANE.DEAD_RISE (l + 1))) (s.nat (LANE.DEAD_FALL (l + 1)))))).setN
        (LANE_FROM (l + 1)) s.time
  else s.setEdges l (s.withSr m (bridgeEdges (onTime u p) p (s.nat (LANE.DEAD_RISE l)) (s.nat (LANE.DEAD_FALL l))))

/-- R190: the offset of lane l has changed from `old` to `new`. Moved later, the lane holds PWML on through the extra time; moved
earlier, it skips to the next instance of its new offset, its outputs low (log entry 77). Its duty is held. -/
def State.laneMoves (s : State) (l u old new : Nat) : State :=
  let m := s.nat (LANE.CONVERTER l)
  let extra := if old < new then new - old else s.nat (CONVERTER.SWITCH_PERIOD m) + new - old
  let e := s.withSr m (if old < new then [-1, -1, 0, (extra : Int)] else [-1, -1, -1, -1])
  let s := ((s.setN (LANE_OFFSET l) (new + 1)).setN (LANE_EXTRA l) extra).setN (LANE_HELD l) u
  let s := (s.setEdges l e).setN (LANE_FROM l) s.time
  if s.nat (LANE.LANE_MODE l) = 1 then s.setEdges (l + 1) e else s

/-- R187, R190: a period of lane l ends, and its next one for duty u begins at its offset in the cycle. -/
def State.laneBegins (s : State) (l u : Nat) : State :=
  let new := s.laneOffset l
  let old := s.nat (LANE_OFFSET l)
  if old = 0 || old = new + 1 then (s.setN (LANE_OFFSET l) (new + 1)).planEdges l u
  else s.laneMoves l u (old - 1) new

/-- The edges of a period with a PWMH pulse from e0 to e1 that ends at step a: at least 16 steps wide (R188), and PWML after
its dead time up to the period's end (R187). A pulse that has not begun is not emitted. -/
def cutEdges (e : List Int) (a fall period : Nat) : List Int :=
  let e0 := e.getD 0 (-1)
  let e1 := e.getD 1 (-1)
  let low := fun (f : Int) => if f + 16 ≤ period then [f, (period : Int)] else [-1, -1]
  if e0 < 0 then e
  else if (a : Int) < e0 then [-1, -1] ++ low (max a fall)
  else if (a : Int) < e1 then [e0, max (a : Int) (e0 + 16)] ++ low (max (a : Int) (e0 + 16) + fall)
  else e.take 3 ++ [if e.getD 2 (-1) < 0 then -1 else (period : Int)]

/-- The four edges of the period of lane l. -/
def State.edgesOf (s : State) (l : Nat) : List Int := (List.range 4).map fun i => s.get (LANE_EDGE l i)

/-- R205: the PWMH pulse in progress on lane l ends, `a` steps into its period; PWML then follows R187, and a lagging leg
switches to the state of its leading leg. -/
def State.laneCut (s : State) (l a : Nat) : State :=
  let m := s.nat (LANE.CONVERTER l)
  let p := s.nat (CONVERTER.SWITCH_PERIOD m)
  s.setEdges l (s.withSr m (cutEdges (s.edgesOf l) a (s.nat (LANE.DEAD_FALL l)) p))

/-- R209: the power interval of the pair that lane l leads ends at step a: the lagging leg switches to the state of its
leading leg (log entry 77). -/
def State.intervalCut (s : State) (l a : Nat) : State :=
  let m := s.nat (LANE.CONVERTER l)
  let p := s.nat (CONVERTER.SWITCH_PERIOD m)
  let e := s.edgesOf (l + 1)
  let rise : Int := a + s.nat (LANE.DEAD_RISE (l + 1))
  if a < p / 2 then s.setEdges (l + 1) ([min (e.getD 0 (-1)) rise] ++ e.drop 1) else s.laneCut (l + 1) a

/-- R202: lane l stops: a PWMH pulse in progress ends at its planned edge, and then both outputs are low. -/
def State.laneEnds (s : State) (l : Nat) : State :=
  let at_ : Int := 6400 * ((s.time : Int) - s.get (LANE_FROM l))
  if s.get (LANE_EDGE l 0) ≤ at_ && at_ < s.get (LANE_EDGE l 1) then
    s.setEdges l ((s.edgesOf l).take 2 ++ [-1, -1])
  else s.laneLow l

/-- LANE_STATE of lane l: 0 idle, 1 switching, 2 parked, 3 lagging leg switching. -/
def State.laneState (s : State) (l : Nat) : Nat :=
  let m := s.nat (LANE.CONVERTER l)
  let lead := if s.nat (LANE.LANE_MODE l) = 2 then l - 1 else l
  if 4 ≤ m || !s.convSwitches m then 0
  else if s.nat (LANE.SHARE_WEIGHT lead) = 0 || s.lanePark lead then 2
  else if s.nat (LANE.LANE_MODE l) = 2 then 3
  else 1

/-! ### The sense inputs (R183, R191, R192) -/

/-- R183, R192: a sample of an output's sense input in nV, saturated at 0 V and 1.2 V. -/
def sensed (x : Int) : Int := clampInt 0 1200000000 x

/-- R183: a lane's sense input in nV, saturated at ±250 mV. -/
def sensedLane (x : Int) : Int := clampInt (-250000000) 250000000 x

/-- R192: the mean output of converter m in 0.1 mV over n samples that sum to `sum` nV at its sense input. -/
def State.outMean (s : State) (m : Nat) (sum : Int) (n : Nat) : Int :=
  divNear (sum * s.nat (CONVERTER.VS_GAIN m)) (10000000000 * n)

/-- R192: the mean output of converter m over samples of its sense input in nV, 0.1 mV. -/
def State.outOf (s : State) (m : Nat) (samples : List Int) : Int :=
  s.outMean m (samples.map sensed).sum samples.length

/-- R192: output samples of converter m, in nV at its sense input, newest last. -/
def State.outSamples (s : State) (m : Nat) (samples : List Int) : State :=
  if samples = [] then s
  else
    let j := s.frame % 50
    let s := s.setConvFlag m CFLAG.SENSE_OVERRANGE (samples.any fun x => 1200000000 < x)
    let s := s.set (CONV_LAST m) (s.outOf m [samples.getLastD 0])
    (s.set (CONV_VSUM m j) (s.get (CONV_VSUM m j) + (samples.map sensed).sum)).setN (CONV_VCNT m j)
      (s.nat (CONV_VCNT m j) + samples.length)

/-! ### The loops (R194 to R197) -/

/-- R196: a sum of products of raw coefficients, rounded and saturated to INTEGER32. -/
def loopRound (acc : Int) : Int := clampInt (-2147483648) 2147483647 (divNear acc 8388608)

/-- R204: the charger or the assist port sets the reference of converter m and its current clamps. -/
def State.overrides (s : State) (m : Nat) (ref max min : Int) : State :=
  let s := (((s.setN (OVR_ON m) 1).set (OVR_REF m) ref).set (OVR_MAX m) max).set (OVR_MIN m) min
  (s.setN (OVR_END m) 0).setConvFlag m CFLAG.OVERRIDDEN true

/-- R204: that control of converter m has ended, and its own objects apply again. -/
def State.overrideDrop (s : State) (m : Nat) : State :=
  ((s.setN (OVR_ON m) 0).setN (OVR_END m) 0).setConvFlag m CFLAG.OVERRIDDEN false

/-- R204: at a boundary the controls that have ended give the converters back. -/
def State.overridesEnd (s : State) : State :=
  forBelow 4 (fun m s => if s.flag (OVR_END m) then s.overrideDrop m else s) s

/-- R204: the current clamps in use. -/
def State.irefMax (s : State) (m : Nat) : Int :=
  if s.flag (OVR_ON m) then s.get (OVR_MAX m) else s.get (CONVERTER.IREF_MAX m)

/-- R204: the lower current clamp in use. -/
def State.irefMin (s : State) (m : Nat) : Int :=
  if s.flag (OVR_ON m) then s.get (OVR_MIN m) else s.get (CONVERTER.IREF_MIN m)

/-- R204: the reference that converter m heads for. -/
def State.convTarget (s : State) (m : Nat) : Int :=
  if s.flag (OVR_ON m) then s.get (OVR_REF m) else s.get (inForce (CONVERTER.VOUT_SET m))

/-- R194: one update of the voltage loop of converter m with the mean output vout. -/
def State.voltageLoop (s : State) (m : Nat) (vout : Int) : State :=
  let e := s.get (CONVERTER_STATUS.VREF m) - vout
  let b := fun i => s.get (CONVERTER_LOOP.VB m i)
  let a := fun i => s.get (CONVERTER_LOOP.VA m i)
  let acc := b 0 * e + b 1 * s.get (CONV_E m 0) + b 2 * s.get (CONV_E m 1) + b 3 * s.get (CONV_E m 2) -
    a 0 * s.get (CONV_Y m 0) - a 1 * s.get (CONV_Y m 1) - a 2 * s.get (CONV_Y m 2)
  let y := min (max (loopRound acc) (s.irefMin m)) (s.irefMax m)
  let s := ((s.set (CONV_E m 2) (s.get (CONV_E m 1))).set (CONV_E m 1) (s.get (CONV_E m 0))).set (CONV_E m 0) e
  let s := ((s.set (CONV_Y m 2) (s.get (CONV_Y m 1))).set (CONV_Y m 1) (s.get (CONV_Y m 0))).set (CONV_Y m 0) y
  let s := (s.set (CONVERTER_STATUS.IREF m) y).setConvFlag m CFLAG.IREF_AT_MAX (y == s.irefMax m)
  let s := s.setConvFlag m CFLAG.IREF_AT_MIN (y == s.irefMin m)
  let w := s.weightSum m
  forEach (s.activeLanes m) (fun l s =>
    s.set (LANE_STATUS.I_REF l) (divNear (y * s.nat (LANE.SHARE_WEIGHT l)) w)) s

/-- R195: one update of the current loop of lane l with its current i. -/
def State.currentLoop (s : State) (m l : Nat) (i : Int) : State :=
  let ei := s.get (LANE_STATUS.I_REF l) - i
  let b := fun i => s.get (CONVERTER_LOOP.IB m i)
  let a := fun i => s.get (CONVERTER_LOOP.IA m i)
  let acc := b 0 * ei + b 1 * s.get (LANE_E l 0) + b 2 * s.get (LANE_E l 1) -
    a 0 * s.get (LANE_U l 0) - a 1 * s.get (LANE_U l 1)
  let u := min (max (loopRound acc) (s.get (CONVERTER.DUTY_MIN m))) (s.get (CONVERTER.DUTY_MAX m))
  let s := (s.set (LANE_E l 1) (s.get (LANE_E l 0))).set (LANE_E l 0) ei
  let s := (s.set (LANE_U l 1) (s.get (LANE_U l 0))).set (LANE_U l 0) u
  s.set (LANE_STATUS.DUTY l) u

/-! ### The reference (R200, R201) -/

/-- R200: the soft start of converter m ends. -/
def State.softStartDone (s : State) (m : Nat) : State :=
  let s := (s.setN (CONVERTER_STATUS.STATE m) CS.RUN).setConvFlag m CFLAG.SR_HELD false
  let s := s.setClosing 3 m (s.stamp + 2000)
  (s.setN (CONV_RUN_AT m) s.time).raiseConverter .SOFT_START_DONE m 0x05 [f32 (s.time - s.nat (CONV_T0 m))]

/-- R200, R201: the reference of converter m moves up to now: along the soft start's fixed slope, or at REF_SLEW. -/
def State.moveReference (s : State) (m : Nat) : State :=
  let target := s.convTarget m
  if s.conv m = CS.SOFT_START then
    let r := s.get (CONV_V0 m) +
      divNear (s.get (CONV_SLOPE m) * ((s.time : Int) - s.get (CONV_T0 m))) (s.nat (CONV_SST m))
    let s := s.setN (CONV_REF_AT m) s.time
    if target < s.get (CONVERTER_STATUS.VREF m) then s.softStartDone m
    else if target ≤ r then (s.set (CONVERTER_STATUS.VREF m) target).softStartDone m
    else s.set (CONVERTER_STATUS.VREF m) r
  else
    let step : Int := s.nat (CONVERTER.REF_SLEW m) * (s.time - s.nat (CONV_REF_AT m))
    let v := s.get (CONVERTER_STATUS.VREF m)
    (s.set (CONVERTER_STATUS.VREF m) (if v ≤ target then min target (v + step) else max target (v - step))).setN
      (CONV_REF_AT m) s.time

/-! ### The output window (R214) -/

/-- What GOOD of converter m is now. -/
def State.convGoodNow (s : State) (m : Nat) : Bool :=
  let w := s.nat (CWIN m)
  if s.nat (CONVERTER_WINDOW.WINDOW_MODE m) = 1 then
    w.testBit WFLAG.LOWER_JUDGING && !w.testBit WFLAG.UNDER && !w.testBit WFLAG.OVER
  else s.conv m == CS.RUN

/-- WINDOW_STATUS of converter m: 0 while WINDOW_MODE is 0. -/
def State.convWindowStatus (s : State) (m : Nat) : Nat :=
  if s.nat (CONVERTER_WINDOW.WINDOW_MODE m) = 1 then s.nat (CWIN m) else 0

/-- GOOD of converter m follows; a change is raised. -/
def State.convGood (s : State) (m : Nat) : State :=
  if s.convGoodNow m = s.bit (CWIN m) WFLAG.GOOD then s
  else
    let s := s.setBit (CWIN m) WFLAG.GOOD (s.convGoodNow m)
    s.raiseConverter .CONVERTER_GOOD_CHANGED m 0
      [f8 (bitOf (s.bit (CWIN m) WFLAG.GOOD)), f8 (s.convWindowStatus m)]

/-- UNDER of converter m changes, at a judged value. -/
def State.convUnder (s : State) (m : Nat) (on : Bool) (v : Int) : State :=
  if s.bit (CWIN m) WFLAG.UNDER = on then s
  else (s.setBit (CWIN m) WFLAG.UNDER on).raiseConverter .CONVERTER_UNDERVOLTAGE m 0
    [f32 v, f32 (s.get (CONVERTER_WINDOW.UV_LEVEL m))]

/-- OVER of converter m changes, at a judged value. -/
def State.convOver (s : State) (m : Nat) (on : Bool) (v : Int) : State :=
  if s.bit (CWIN m) WFLAG.OVER = on then s
  else (s.setBit (CWIN m) WFLAG.OVER on).raiseConverter .CONVERTER_OVERVOLTAGE m 0
    [f32 v, f32 (s.get (CONVERTER_WINDOW.OV_LEVEL m))]

/-- R169, R214: lower judging follows RUN; at both its edges UNDER and NEAR_LOW are set without a count. -/
def State.convLower (s : State) (m : Nat) : State :=
  let now := s.conv m == CS.RUN
  let s :=
    if s.nat (CONVERTER_WINDOW.WINDOW_MODE m) = 1 && s.bit (CWIN m) WFLAG.LOWER_JUDGING != now then
      (((s.setN (CWIN_AT m 0) s.time).setBit (CWIN m) WFLAG.LOWER_JUDGING now).setBit (CWIN m) WFLAG.NEAR_LOW true).convUnder m
        true (s.get (CONV_LAST m))
    else s
  s.convGood m

/-- R170, R214: WINDOW_MODE of converter m changes. -/
def State.convWindowMode (s : State) (m : Nat) : State :=
  if s.nat (CONVERTER_WINDOW.WINDOW_MODE m) = 1 then
    let s := (s.setN (CWIN_AT m 0) s.time).setN (CWIN_AT m 1) s.time
    let s := (s.setBit (CWIN m) WFLAG.LOWER_JUDGING (s.conv m == CS.RUN)).setBit (CWIN m) WFLAG.NEAR_LOW true
    (s.convUnder m true (s.get (CONV_LAST m))).convGood m
  else (s.setN (CWIN m) (s.nat (CWIN m) % 2)).convGood m

/-- Whether the last n of a list of judged values exist and all hold. -/
def lastAll (n : Nat) (l : List Int) (p : Int → Bool) : Bool := n ≤ l.length && (l.drop (l.length - n)).all p

/-- R214: the judged values of converter m, newest last, from the output samples of its last rounds, or frames by FILTER_UNIT,
in nV at its sense input: the mean of each. Only those that end after judging began count: i = 0 lower, 1 upper. -/
def State.judged (s : State) (m i : Nat) (units : List (List Int)) : List Int :=
  let us := if s.nat (CONVERTER_WINDOW.FILTER_UNIT m) = 1 then 20 else 4
  let n := (s.time - s.nat (CWIN_AT m i) + (us - 1)) / us
  (units.drop (units.length - n)).map fun x => s.outOf m x

/-- R169, R214: the last units of converter m lie below the lower thresholds. -/
def State.converterUndervoltage (s : State) (m : Nat) (units : List (List Int)) : State :=
  let vals := s.judged m 0 units
  let f := s.nat (CONVERTER_WINDOW.UV_SET_FILTER m)
  let uv := s.get (CONVERTER_WINDOW.UV_LEVEL m)
  let near := uv + s.get (CONVERTER_WINDOW.UV_HYST m)
  if s.nat (CONVERTER_WINDOW.WINDOW_MODE m) = 1 && s.conv m == CS.RUN then
    let s := if lastAll f vals (fun v => v < near) then s.setBit (CWIN m) WFLAG.NEAR_LOW true else s
    if lastAll f vals (fun v => v < uv) && !s.bit (CWIN m) WFLAG.UNDER then
      ((s.count (CONVERTER_WINDOW.UV_COUNT m) 0xFFFF).convUnder m true (vals.getLastD 0)).convGood m
    else s
  else s

/-- R169, R214: the last units of converter m lie above the upper thresholds. -/
def State.converterOvervoltage (s : State) (m : Nat) (units : List (List Int)) : State :=
  let vals := s.judged m 1 units
  let f := s.nat (CONVERTER_WINDOW.OV_SET_FILTER m)
  let ov := s.get (CONVERTER_WINDOW.OV_LEVEL m)
  let near := ov - s.get (CONVERTER_WINDOW.OV_HYST m)
  if s.nat (CONVERTER_WINDOW.WINDOW_MODE m) = 1 then
    let s := if lastAll f vals (fun v => near < v) then s.setBit (CWIN m) WFLAG.NEAR_HIGH true else s
    if lastAll f vals (fun v => ov < v) && !s.bit (CWIN m) WFLAG.OVER then
      ((s.count (CONVERTER_WINDOW.OV_COUNT m) 0xFFFF).convOver m true (vals.getLastD 0)).convGood m
    else s
  else s

/-- R169, R214: the last units of converter m lie at or above the upper hysteresis. -/
def State.converterUnderCleared (s : State) (m : Nat) (units : List (List Int)) : State :=
  let vals := s.judged m 0 units
  let near := s.get (CONVERTER_WINDOW.UV_LEVEL m) + s.get (CONVERTER_WINDOW.UV_HYST m)
  if s.nat (CONVERTER_WINDOW.WINDOW_MODE m) = 1 && s.conv m == CS.RUN &&
      lastAll (s.nat (CONVERTER_WINDOW.UV_CLEAR_FILTER m)) vals (fun v => near ≤ v) then
    ((s.setBit (CWIN m) WFLAG.NEAR_LOW false).convUnder m false (vals.getLastD 0)).convGood m
  else s

/-- R169, R214: the last units of converter m lie at or below the lower hysteresis. -/
def State.converterOverCleared (s : State) (m : Nat) (units : List (List Int)) : State :=
  let vals := s.judged m 1 units
  let near := s.get (CONVERTER_WINDOW.OV_LEVEL m) - s.get (CONVERTER_WINDOW.OV_HYST m)
  if s.nat (CONVERTER_WINDOW.WINDOW_MODE m) = 1 &&
      lastAll (s.nat (CONVERTER_WINDOW.OV_CLEAR_FILTER m)) vals (fun v => v ≤ near) then
    ((s.setBit (CWIN m) WFLAG.NEAR_HIGH false).convOver m false (vals.getLastD 0)).convGood m
  else s

/-! ### Starting and stopping (R199 to R202) -/

/-- The outputs of every lane of converter m are driven low (R184). -/
def State.convLow (s : State) (m : Nat) : State := forEach (s.lanesOf m) (fun l s => s.laneLow l) s

/-- R199, step 1: the start of converter m at the boundary where ENABLE = 1 lands. -/
def State.convBegin (s : State) (m : Nat) : State :=
  let s := forEach (s.lanesOf m) (fun l s => s.setN (LANE_PARK l) 0) s
  ((s.setN (CONV_PHASE m) 1).setN (CONV_T0 m) s.time).convLow m

/-- R191: the offsets of the lanes of converter m (µV, one for each of the 16 lanes) are stored. -/
def State.storeOffsets (s : State) (m : Nat) (off : List Int) : State :=
  forEach (s.lanesOf m) (fun l s => s.set (LANE_STATUS.ADC_OFFSET l) (off.getD l 0)) s

/-- R199: the first start check that fails, 0 for none. -/
def State.startCheck (s : State) (m : Nat) : Nat :=
  let anyB := fun (n : Nat) (f : Nat → Nat) => (List.range n).any fun i => s.get (f i) != 0
  if s.activeLanes m = [] then 1
  else if !(s.irefMin m < s.irefMax m && 0 < s.irefMax m) then 2
  else if !(anyB 4 (CONVERTER_LOOP.VB m) && anyB 3 (CONVERTER_LOOP.IB m)) then 3
  else if !(0 < s.convTarget m && s.convTarget m < s.get (CONVERTER.TRUNC_LEVEL m) - s.get (CONVERTER.TRUNC_HYST m)) then 4
  else if !((s.lanesOf m).all fun l => (s.get (LANE_STATUS.ADC_OFFSET l)).natAbs ≤ 2000) then 5
  else 0

/-- R199: the histories of the loops of converter m are cleared: e, y and ei are 0, and u is DUTY_MIN. -/
def State.clearLoops (s : State) (m : Nat) : State :=
  let s := forBelow 3 (fun i s => (s.set (CONV_E m i) 0).set (CONV_Y m i) 0) s
  let s := forEach (s.lanesOf m) (fun l s =>
    let s := ((s.set (LANE_E l 0) 0).set (LANE_E l 1) 0).set (LANE_U l 0) (s.get (CONVERTER.DUTY_MIN m))
    let s := (s.set (LANE_U l 1) (s.get (CONVERTER.DUTY_MIN m))).set (LANE_NEXT l) (s.get (CONVERTER.DUTY_MIN m))
    ((s.set (LANE_STATUS.DUTY l) (s.get (CONVERTER.DUTY_MIN m))).set (LANE_STATUS.I_REF l) 0).setN (LANE_OFFSET l) 0) s
  let s := ((s.setN (CONV_SUM m) 0).setN (CONV_SCNT m) 0).setN (CONV_CYCLES m) 0
  let s := (s.setN (CONV_LIMIT m) 0).setN (CONV_CUT m) 0
  let s := (s.setN (CONV_CUT_LANES m) 0).set (CONVERTER_STATUS.IREF m) 0
  let s := (s.setConvFlag m CFLAG.IREF_AT_MAX false).setConvFlag m CFLAG.IREF_AT_MIN false
  (s.setConvFlag m CFLAG.DUTY_AT_MAX false).setConvFlag m CFLAG.PEAK_CUT false

/-- R199, step 3: the first cycle of converter m begins 10 µs after the origin from v0, with cleared histories, and its lanes switch
with u = DUTY_MIN. From OFF its retries are restored. -/
def State.convFirstCycle (s : State) (m : Nat) : State :=
  let v0 := s.get (CONV_V0 m)
  let s := if s.conv m = CS.OFF then s.setN (CONVERTER_STATUS.HICCUPS_LEFT m) (s.nat (CONVERTER.HICCUP_RETRIES m)) else s
  let s := (s.setN (CONV_PHASE m) 0).clearLoops m
  let s := s.setN (CONV_T0 m) (s.nat (CONV_T0 m) + 10)
  let s := s.setN (CONV_REF_AT m) (s.nat (CONV_T0 m))
  let s := (s.set (CONV_SLOPE m) (s.convTarget m)).set (CONV_SST m) (s.get (CONVERTER.SOFT_START_TIME m))
  let s := (s.setN (CONVERTER_STATUS.STATE m) CS.SOFT_START).setConvFlag m CFLAG.SR_HELD
    (s.flag (CONVERTER.SOFT_START_SR m))
  let s := s.raiseConverter .CONVERTER_STARTED m 0 [f32 v0, f16 (laneMask (s.activeLanes m))]
  let s := if s.convTarget m ≤ v0 then (s.set (CONVERTER_STATUS.VREF m) (s.convTarget m)).softStartDone m
    else s.set (CONVERTER_STATUS.VREF m) v0
  let s := s.convLower m
  forEach (s.activeLanes m) (fun l s => s.laneBegins l (s.nat (LANE_NEXT l))) s

/-- R199: the starts whose first cycle is due begin. -/
def State.startsBegin (s : State) : State :=
  forBelow 4 (fun m s => if s.nat (CONV_PHASE m) = 2 && s.nat (CONV_T0 m) + 10 ≤ s.time then s.convFirstCycle m else s) s

/-- R199: the start checks of converter m, with the output samples and the offsets measured: refused, or the first cycle is
due 10 µs after the origin. -/
def State.converterStartCheck (s : State) (m : Nat) (samples off : List Int) : State :=
  if s.nat (CONV_PHASE m) = 1 && s.nat (CONV_T0 m) + 6 ≤ s.time then
    let s := (s.outSamples m samples).storeOffsets m off
    let r := s.startCheck m
    if r = 0 then (s.set (CONV_V0 m) (s.outOf m samples)).setN (CONV_PHASE m) 2
    else
      let s := (s.setN (CONVERTER.ENABLE m) 0).setN (inForce (CONVERTER.ENABLE m)) 0
      ((s.setN (CONV_PHASE m) 0).setN (CONVERTER_STATUS.START_REFUSE_REASON m) r).raiseConverter .START_REFUSED m 0 [f8 r]
  else s

/-! ### The end of an assist session (R241) -/

/-- A message of the assist port: the site of CV2's engine (R243). -/
def State.raiseAssist (s : State) (k : Kind) (fields : List (Nat × Int)) : State :=
  s.raise k (siteConverter 2 0) (s.holderOfConverter 2) 0 fields

/-- SESSION_TIME. -/
def State.sessionTime (s : State) : Nat :=
  if s.flag ASSIST_STATUS.ASSIST_STATE then (s.time - s.nat AS_AT) / 1000000 else s.nat AS_TIME

/-- R241: the switch opens and the session is over with a result; control of CV2 returns at the next boundary. -/
def State.asFinish (s : State) (result : Nat) : State :=
  if s.flag ASSIST_STATUS.ASSIST_STATE then
    let s := (s.setN AS_TIME s.sessionTime).setN AS_CLOSED 0
    let s := ((s.setFlag (OVR_END 2) (s.flag (OVR_ON 2))).setN AS_END 0).setN ASSIST_STATUS.ASSIST_STATE 0
    let s := (s.setN ASSIST_STATUS.ASSIST_CURRENT 0).setN ASSIST_STATUS.ASSIST_RESULT result
    s.raiseAssist .ASSIST_ENDED [f8 result, f32 s.sessionTime, f32 (s.get ASSIST_STATUS.DELIVERED_CHARGE % 2 ^ 32)]
  else s

/-! ### Leaving regulation -/

/-- Episode bookkeeping when a truncation episode of converter m ends (R207). -/
def State.truncationEnds (s : State) (m : Nat) : State :=
  if s.convFlag m CFLAG.TRUNCATING then
    let len := s.time - s.nat (TRUNC_AT m)
    let s := (s.setConvFlag m CFLAG.TRUNCATING false).setN (TRUNC_SINCE m) (s.nat (TRUNC_SINCE m) + 1)
    let s := s.setN (TRUNC_LONGEST m) (max len (s.nat (TRUNC_LONGEST m)))
    if s.nat (TRUNC_TOLD_AT m) = 0 || s.nat (TRUNC_TOLD_AT m) + 10000 ≤ s.time + 1 then
      let s := s.raiseConverter .TRUNCATION m 0x03 [f16 (s.nat (TRUNC_SINCE m)), f32 (s.nat (TRUNC_LONGEST m))]
      ((s.setN (TRUNC_SINCE m) 0).setN (TRUNC_LONGEST m) 0).setN (TRUNC_TOLD_AT m) (s.time + 1)
    else s
  else s

/-- Converter m leaves regulation for a state, its pulses ending at their planned edges or all outputs low at once: its episode is over, its window told, and its
shadow opened by a hiccup and closed otherwise (R316). A session of CV2 ends as it leaves RUN (R241). -/
def State.convQuits (s : State) (m st : Nat) (planned : Bool) : State :=
  let s := if m = 2 then s.asFinish 7 else s
  let s := ((s.truncationEnds m).setN (CONVERTER_STATUS.STATE m) st).setConvFlag m CFLAG.SR_HELD false
  let s := (s.setN (CONV_LIMIT m) 0).setN (CONV_PHASE m) 0
  let s := (forEach (s.lanesOf m) (fun l s => if planned then s.laneEnds l else s.laneLow l) s).convLower m
  if st = CS.HICCUP then s.openShadow 3 m 0 else s.setClosing 3 m (s.stamp + 2000)

/-- Converter m leaves regulation for a state, all its outputs low at once. -/
def State.convLeave (s : State) (m st : Nat) : State := s.convQuits m st false

/-- R202, R213: converter m stops: ENABLE = 0 (cause 0) or a fold to OFF (cause 1) takes effect. A PWMH pulse in progress ends
at its planned edge. -/
def State.convStop (s : State) (m cause : Nat) : State :=
  if s.conv m = CS.OFF then s.setN (CONV_PHASE m) 0
  else if s.conv m = CS.LATCHED then s.convLeave m CS.OFF
  else (s.convQuits m CS.OFF true).raiseConverter .CONVERTER_STOPPED m 0 [f8 cause]

/-- R199, R202: ENABLE of converter m lands. -/
def State.convEnable (s : State) (m v : Nat) : State :=
  let s := s.setN (inForce (CONVERTER.ENABLE m)) v
  if v = 0 then s.convStop m 0
  else if s.conv m = CS.OFF && s.nat (CONV_PHASE m) = 0 then s.convBegin m
  else s

/-! ### The last-fault record (R215 to R217) -/

/-- R193: the input voltage of converter m. -/
def State.convVin (s : State) (m : Nat) : Int :=
  let e := s.nat (CONVERTER.VIN_ENTRY m)
  if e = 0xFF then notAvailable .i32 else s.get (HK_ENTRY.VALUE e)

/-- R193: the temperature of converter m; without an entry the maximum of the control die. -/
def State.convTemp (s : State) (m : Nat) : Int :=
  let e := s.nat (CONVERTER.TEMP_ENTRY m)
  if e = 0xFF then s.get (THERMAL_DIE.DIE_MAX 0) else s.get (HK_ENTRY.VALUE e)

/-- The lane with the largest value of f among lanes, the lowest lane first. -/
def extremeLane (f : Nat → Int) : List Nat → Nat
  | [] => 0
  | l :: r => r.foldl (fun m x => if f m < f x then x else m) l

/-- R217: one sample of the ring of converter m, 32 bytes. No u governs a cycle of HICCUP: DUTY is 0 there (log entry 77). -/
def State.convSample (s : State) (m : Nat) (vout : Int) : List Byte :=
  let a := s.activeLanes m
  let i := fun l => s.get (LANE_I l)
  let hi := extremeLane i a
  let lo := extremeLane (fun l => -(i l)) a
  leInt 4 vout ++ leInt 4 (s.convVin m) ++ leInt 4 ((a.map i).sum) ++ leInt 4 (i hi) ++ leInt 4 (i lo) ++
    leInt 2 (if a = [] || !s.convSwitches m then 0 else divNear ((a.map fun l => s.get (LANE_STATUS.DUTY l)).sum) a.length) ++
    leInt 2 (s.convTemp m) ++
    leBytes 2 (s.nat (CONVERTER_STATUS.CONV_FLAGS m) % 2048 + 4096 * s.conv m) ++
    leBytes 1 hi ++ leBytes 1 lo ++ leBytes 4 (s.tick % 2 ^ 32)

/-- R215: at the end of every 8th cycle one sample enters the ring of 126. -/
def State.convRing (s : State) (m : Nat) (vout : Int) : State :=
  let c := s.nat (CONV_CYCLE8 m) + 1
  if c < 8 then s.setN (CONV_CYCLE8 m) c
  else
    let ring := s.blob (CONV_RING m) ++ s.convSample m vout
    (s.setN (CONV_CYCLE8 m) 0).setBlob (CONV_RING m) (ring.drop (ring.length - 4032))

/-- R216: the header of a fault record, bytes 0 to 59. -/
def State.recordHeader (s : State) (m cause kind site : Nat) : List Byte :=
  leBytes 2 1 ++ leBytes 1 m ++ leBytes 1 cause ++ leBytes 2 kind ++ leBytes 2 ((s.blob (CONV_RING m)).length / 32) ++
    leBytes 8 s.stamp ++ leBytes 4 site ++ leBytes 4 (s.nat (CONVERTER.SWITCH_PERIOD m)) ++
    leBytes 2 (laneMask (s.lanesOf m)) ++ leBytes 2 (s.nat DEVICE_DIGEST.GLOBAL_GENERATION) ++
    leBytes 1 (s.nat (CONVERTER_STATUS.HICCUPS_LEFT m)) ++ leBytes 3 0 ++
    leInt 4 (s.get (CONVERTER_STATUS.VREF m)) ++ leInt 4 (s.get (CONVERTER_STATUS.IREF m)) ++
    leBytes 4 (satTo 0xFFFFFFFF (s.nat (CONV_LIFE m) + 1)) ++ leBytes 16 0

/-- R215, R216: the samples of converter m are frozen for a record, or the fault is not recorded while the previous
record is still being written. -/
def State.freezeRecord (s : State) (m cause kind site : Nat) : State :=
  if s.flag (CONV_WRITING m) then
    (s.count (CONVERTER_STATUS.RECORDS_SKIPPED m) 0xFFFF).raiseConverter .FAULT_RECORD_SKIPPED m 0x07 [f8 cause]
  else
    let head := s.recordHeader m cause kind site
    let body := padTo 4032 (s.blob (CONV_RING m))
    (s.setN (CONV_WRITING m) cause).setBlob (CONV_FROZEN m)
      (head ++ leBytes 4 (crc32c (head ++ body)) ++ body)

/-- R215: the record of converter m is complete. -/
def State.faultRecordWritten (s : State) (m : Nat) : State :=
  if s.flag (CONV_WRITING m) then
    let b := s.blob (CONV_FROZEN m)
    let cause := s.nat (CONV_WRITING m)
    let s := (s.setBlob (FAULT_RECORD.RECORD m) b).setN (FAULT_RECORD.RECORD_STAMP m) (ofLE (slice b 8 8))
    let s := ((s.setN (FAULT_RECORD.RECORD_CAUSE m) cause).setN (CONV_WRITING m) 0).setBlob (CONV_FROZEN m) []
    let s := s.count (CONV_LIFE m) 0xFFFFFFFF
    s.raiseConverter .FAULT_RECORD_WRITTEN m 0x07 [f8 cause, f32 (s.nat (CONV_LIFE m))]
  else s

/-! ### Latch and hiccup (R208, R210, R211) -/

/-- R208, R210: converter m latches with a cause, which freezes its samples. A class F2 reaction at its engine (R309) has
cause 3 and freezes none. -/
def State.convLatch (s : State) (m cause : Nat) : State :=
  let s := if cause < 3 then s.freezeRecord m cause (Kind.code .CONVERTER_LATCHED) (siteConverter m 0) else s
  let s := (s.convLeave m CS.LATCHED).setN (CONVERTER_STATUS.LATCH_CAUSE m) cause
  let s := if cause < 3 then s.openShadow 3 m (s.stamp + 2001) else s
  s.raiseConverter .CONVERTER_LATCHED m 0 [f8 cause]

/-- R210: HICCUP_CYCLES limit cycles have passed. -/
def State.hiccup (s : State) (m : Nat) : State :=
  let retries := s.nat (CONVERTER.HICCUP_RETRIES m)
  let left := s.nat (CONVERTER_STATUS.HICCUPS_LEFT m)
  if retries = 0 || 0 < left then
    let s := if 0 < retries then s.setN (CONVERTER_STATUS.HICCUPS_LEFT m) (left - 1) else s
    let lanes := s.nat (CONV_CUT_LANES m)
    let s := (s.convLeave m CS.HICCUP).setN (CONV_RESUME m) (s.time + s.nat (CONVERTER.HICCUP_TIME m))
    let s := s.count (CONVERTER_STATUS.HICCUP_COUNT m) 0xFFFFFFFF
    s.raiseConverter .HICCUP m 0x06 [f8 (s.get (CONVERTER_STATUS.HICCUPS_LEFT m)), f16 lanes]
  else s.convLatch m 1

/-- R210, R213: the limit count at the end of a cycle of converter m. atMax: iref stood at its maximum through the cycle; a
skipped period does not count so. -/
def State.limitCount (s : State) (m : Nat) (atMax : Bool) : State :=
  if s.convFlag m CFLAG.PEAK_CUT || (s.flag (CONVERTER.HICCUP_ON_CLAMP m) && atMax && !s.convFlag m CFLAG.TRUNCATING) then
    let c := s.nat (CONV_LIMIT m) + 1
    let s := s.setN (CONV_LIMIT m) c
    if c = s.nat (CONVERTER.HICCUP_CYCLES m) then s.hiccup m else s
  else (s.setN (CONV_LIMIT m) 0).setN (CONV_CUT_LANES m) 0

/-- R193: the stale flags of the entries of converter m. -/
def State.convStale (s : State) (m : Nat) : State :=
  (s.setConvFlag m CFLAG.VIN_STALE (s.tempStale (s.nat (CONVERTER.VIN_ENTRY m)))).setConvFlag m CFLAG.TEMP_STALE
    (s.tempStale (s.nat (CONVERTER.TEMP_ENTRY m)))

/-- R194, R206: the voltage loop of converter m at the end of a cycle with output samples: due every VLOOP_DIV cycles, on the mean
of the samples since its last update, and held through an episode. -/
def State.loopCycle (s : State) (m : Nat) (samples : List Int) : State :=
  let s := s.set (CONV_SUM m) (s.get (CONV_SUM m) + (samples.map sensed).sum)
  let s := (s.setN (CONV_SCNT m) (s.nat (CONV_SCNT m) + samples.length)).setN (CONV_CYCLES m) (s.nat (CONV_CYCLES m) + 1)
  if s.convFlag m CFLAG.TRUNCATING || s.nat (CONV_CYCLES m) < s.nat (CONVERTER.VLOOP_DIV m) then s
  else
    let s := s.voltageLoop m (s.outMean m (s.get (CONV_SUM m)) (s.nat (CONV_SCNT m)))
    ((s.set (CONV_SUM m) 0).setN (CONV_SCNT m) 0).setN (CONV_CYCLES m) 0

/-- The flags of CONV_FLAGS that tell of the last cycle of converter m. -/
def State.cycleFlags (s : State) (m : Nat) : State :=
  let s := s.setConvFlag m CFLAG.DUTY_AT_MAX
    (s.convSwitches m && (s.activeLanes m).any fun l => s.get (LANE_STATUS.DUTY l) == s.get (CONVERTER.DUTY_MAX m))
  (s.setConvFlag m CFLAG.PEAK_CUT (s.flag (CONV_CUT m))).setN (CONV_CUT m) 0

/-- R192, R194, R200, R210, R215: the end of a cycle of converter m with the output samples in it, in nV at the sense input, newest
last. The output is sampled in every state. -/
def State.converterCycleEnd (s : State) (m : Nat) (samples : List Int) : State :=
  let s := s.outSamples m samples
  if s.convSwitches m then
    if s.activeLanes m = [] then s.convLatch m 1
    else
      let atMax := s.convFlag m CFLAG.IREF_AT_MAX
      let s := s.moveReference m
      let s := (s.convLower m).loopCycle m samples
      ((s.cycleFlags m).convRing m (s.outOf m samples)).limitCount m atMax
  else if s.conv m = CS.HICCUP then (s.cycleFlags m).convRing m (s.outOf m samples)
  else s

/-- R191: the current of a period of lane l, whose sense input has the mean vcs nV, 0.1 mA. -/
def State.laneCurrent (s : State) (l : Nat) (vcs : Int) : Int :=
  divNear ((sensedLane vcs - 1000 * s.get (LANE_STATUS.ADC_OFFSET l)) * 10000) (s.nat (LANE.CS_RESISTANCE l))

/-- R191: a current of lane l enters its sums. -/
def State.laneSample (s : State) (l : Nat) (i : Int) : State :=
  let j := s.frame % 50
  let s := (s.set (LANE_I l) i).set (LANE_ISUM l j) (s.get (LANE_ISUM l j) + i)
  (s.setN (LANE_ICNT l j) (s.nat (LANE_ICNT l j) + 1)).set (LANE_RSUM l j)
    (s.get (LANE_RSUM l j) + s.get (LANE_STATUS.I_REF l))

/-- R205: whether the output of converter m, with vs nV at its sense input, lies at TRUNC_LEVEL - TRUNC_HYST or below. -/
def State.truncReleased (s : State) (m : Nat) (vs : Int) : Bool :=
  vs * s.nat (CONVERTER.VS_GAIN m) ≤ (s.get (CONVERTER.TRUNC_LEVEL m) - s.get (CONVERTER.TRUNC_HYST m)) * 10000000000

/-- R190, R191, R195, R197, R205 to R207: the end of a period of lane l, or of its extra time: the mean of its sense input
and the sense input of its output at the start of the next period, in nV. A lagging leg's edges are those of its leading leg's
period. -/
def State.lanePeriodEnd (s : State) (l : Nat) (vcs vs : Int) : State :=
  let m := s.nat (LANE.CONVERTER l)
  let i := s.laneCurrent l vcs
  let s := s.laneSample l i
  if m < 4 && s.convSwitches m && s.nat (LANE.LANE_MODE l) != 2 then
    if (s.activeLanes m).contains l then
      let s := if s.convFlag m CFLAG.TRUNCATING && s.truncReleased m vs then s.truncationEnds m else s
      if s.flag (LANE_EXTRA l) then s.planEdges l (s.nat (LANE_HELD l))
      else if s.convFlag m CFLAG.TRUNCATING then s.laneBegins l 0
      else
        let u := s.nat (LANE_NEXT l)
        let s := s.currentLoop m l i
        (s.set (LANE_NEXT l) (s.get (LANE_STATUS.DUTY l))).laneBegins l u
    else s.laneParks l
  else s

/-- R205: the threshold of the truncation comparator of converter m times VS_GAIN, in nV. -/
def State.truncLevel (s : State) (m : Nat) : Int := s.get (CONVERTER.TRUNC_LEVEL m) * 10000000000

/-- R205: its accuracy, 0.3 % + 2 mV, times VS_GAIN. -/
def State.truncError (s : State) (m : Nat) : Int :=
  s.truncLevel m * 3 / 1000 + 2000000 * s.nat (CONVERTER.VS_GAIN m)

/-- R205, R206: an episode of converter m begins: the pulses in progress end, each so many steps into its lane's period. -/
def State.truncate (s : State) (m : Nat) (steps : List Nat) : State :=
  let s := (s.setConvFlag m CFLAG.TRUNCATING true).setN (TRUNC_AT m) s.time
  let s := s.count (CONVERTER_STATUS.TRUNC_EPISODES m) 0xFFFFFFFF
  forEach (s.lanesOf m) (fun l s => s.laneCut l (steps.getD l 0)) s

/-- R205: the sense input of the output of converter m rises to vs nV. The comparator trips above its threshold, not below it, and
within its accuracy as a free value decides. -/
def State.truncationCrossing (s : State) (m : Nat) (vs : Int) (steps : List Nat) : State :=
  if s.convSwitches m && !s.convFlag m CFLAG.TRUNCATING then
    let x := vs * s.nat (CONVERTER.VS_GAIN m)
    if s.truncLevel m + s.truncError m < x then s.truncate m steps
    else if x < s.truncLevel m - s.truncError m then s
    else
      let f := s.takeFreeIn 0 1
      if f.1 = 1 then f.2.truncate m steps else f.2
  else s

/-- R208: one episode of converter m has lasted TRUNC_LATCH_TIME. -/
def State.truncationLatch (s : State) (m : Nat) : State :=
  let t := s.nat (CONVERTER.TRUNC_LATCH_TIME m)
  if s.convSwitches m && s.convFlag m CFLAG.TRUNCATING && t != 0 && s.nat (TRUNC_AT m) + t ≤ s.time then s.convLatch m 2
  else s

/-- R209: whether a PWMH pulse of lane l, or on a full bridge a period of the pair, is in progress `step` steps after its
rise. -/
def State.pulseOn (s : State) (l step : Nat) : Bool :=
  let a := s.get (LANE_EDGE l 0) + step
  0 ≤ s.get (LANE_EDGE l 0) &&
    (if s.nat (LANE.LANE_MODE l) = 1 then decide (a < s.nat (CONVERTER.SWITCH_PERIOD (s.nat (LANE.CONVERTER l))))
      else decide (a < s.get (LANE_EDGE l 1)))

/-- R209, R213: the magnitude of the sense input of lane l is at vcs nV, `step` steps into a pulse: above PEAK_LEVEL, and not in
the first 80 steps, the pulse ends, or on a full bridge the power interval; nothing in a pulse that truncation has ended. -/
def State.peakCut (s : State) (l step : Nat) (vcs : Int) : State :=
  let m := s.nat (LANE.CONVERTER l)
  if m < 4 && s.convSwitches m && (s.activeLanes m).contains l && !s.convFlag m CFLAG.TRUNCATING && 80 ≤ step &&
      s.pulseOn l step && s.nat (LANE.PEAK_LEVEL l) * 500000 < vcs.natAbs then
    let a := (s.get (LANE_EDGE l 0)).toNat + step
    let s := if s.nat (LANE.LANE_MODE l) = 1 then s.intervalCut l a else s.laneCut l a
    ((s.count (LANE_STATUS.PEAK_CUTS l) 0xFFFFFFFF).setN (CONV_CUT m) 1).setBit (CONV_CUT_LANES m) l true
  else s

/-- R210: HICCUP_TIME has passed: converter m restarts by steps 1 and 3 of R199 without the checks, with v0 and offsets measured
anew. -/
def State.hiccupResume (s : State) (m : Nat) (samples off : List Int) : State :=
  if s.conv m = CS.HICCUP && s.nat (CONV_PHASE m) = 0 && s.nat (CONV_RESUME m) ≤ s.time then
    let s := ((s.outSamples m samples).storeOffsets m off).setN (CONV_T0 m) s.time
    (s.set (CONV_V0 m) (s.outOf m samples)).setN (CONV_PHASE m) 2
  else s

/-- R211: HICCUP_RESET_TIME in RUN with no hiccup. -/
def State.hiccupReset (s : State) (m : Nat) : State :=
  if s.conv m = CS.RUN && s.nat (CONV_RUN_AT m) + s.nat (CONVERTER.HICCUP_RESET_TIME m) ≤ s.time then
    s.setN (CONVERTER_STATUS.HICCUPS_LEFT m) (s.nat (CONVERTER.HICCUP_RETRIES m))
  else s

/-- R198: lane l has lain outside SHARE_TOLERANCE at 500 consecutive boundaries. -/
def State.shareImbalance (s : State) (l : Nat) : State :=
  let m := s.nat (LANE.CONVERTER l)
  if m < 4 && 500 ≤ s.nat (SHARE_OUT l) && !s.flag (SHARE_SET l) then
    ((s.setN (SHARE_SET l) 1).setConvFlag m CFLAG.SHARE_IMBALANCE true).raise .SHARE_IMBALANCE
      (siteBlock (0x10 + l) 0x01 0) (s.holderOfConverter m) 0
      [f8 l, f32 (s.get (LANE_STATUS.I_MEAN l)), f32 (s.get (LANE_STATUS.I_REF l))]
  else s

/-- Sums of the 50 slots of a 1 ms history. -/
def State.sum50 (s : State) (key : Nat → Nat) : Int := ((List.range 50).map fun j => s.get (key j)).sum

/-- The mean of a 1 ms history, or none without samples. -/
def State.mean50 (s : State) (sum cnt : Nat → Nat) : Option Int :=
  let c := s.sum50 cnt
  if c = 0 then none else some (divNear (s.sum50 sum) c.toNat)

/-- R198: the share counts of lane l move with the means of its current and of its reference; without a comparison they begin
anew. -/
def State.shareBoundary (s : State) (l : Nat) (i r : Int) : State :=
  let m := s.nat (LANE.CONVERTER l)
  let tol := s.nat (CONVERTER.SHARE_TOLERANCE m)
  if m < 4 && tol != 0 && (s.activeLanes m).contains l && s.convSwitches m then
    if tol < (i - r).natAbs then (s.setN (SHARE_OUT l) (min 500 (s.nat (SHARE_OUT l) + 1))).setN (SHARE_IN l) 0
    else
      let s := (s.setN (SHARE_OUT l) 0).setN (SHARE_IN l) (min 500 (s.nat (SHARE_IN l) + 1))
      if s.nat (SHARE_IN l) = 500 && s.flag (SHARE_SET l) then
        let s := s.setN (SHARE_SET l) 0
        s.setConvFlag m CFLAG.SHARE_IMBALANCE ((s.lanesOf m).any fun x => s.flag (SHARE_SET x))
      else s
  else (s.setN (SHARE_OUT l) 0).setN (SHARE_IN l) 0

/-- R198: lane l at a frame boundary: its mean is published and its share judged. -/
def State.laneBoundary (s : State) (l : Nat) : State :=
  match s.mean50 (LANE_ISUM l) (LANE_ICNT l), s.mean50 (LANE_RSUM l) (LANE_ICNT l) with
  | some i, some r => (s.set (LANE_STATUS.I_MEAN l) i).shareBoundary l i r
  | _, _ => (s.setN (SHARE_OUT l) 0).setN (SHARE_IN l) 0

/-- The published values of converter m at a frame boundary (R192, R193). -/
def State.convBoundary (s : State) (m : Nat) : State :=
  let n := (s.sum50 (CONV_VCNT m)).toNat
  let s := if n = 0 then s else s.set (CONVERTER_STATUS.VOUT m) (s.outMean m (s.sum50 (CONV_VSUM m)) n)
  let s := (s.set (CONVERTER_STATUS.VOUT_INST m) (s.get (CONV_LAST m))).convStale m
  if s.activeLanes m = [] then s
  else s.set (CONVERTER_STATUS.IOUT m) (((s.activeLanes m).map fun l => s.get (LANE_STATUS.I_MEAN l)).sum)

/-- The converters and lanes at a frame boundary; the histories of the frame that begins are cleared. -/
def State.convertersBoundary (s : State) : State :=
  let s := forBelow 4 (fun m s => s.convBoundary m) (forBelow 16 (fun l s => s.laneBoundary l) s)
  let j := s.frame % 50
  let s := forBelow 4 (fun m s => (s.set (CONV_VSUM m j) 0).setN (CONV_VCNT m j) 0) s
  forBelow 16 (fun l s => ((s.set (LANE_ISUM l j) 0).setN (LANE_ICNT l j) 0).set (LANE_RSUM l j) 0) s

/-- R202, R215: a house stop or lockout: every PWM output is low at once, and a converter that was not off leaves a record
with cause 3. -/
def State.convHouseStop (s : State) (kind site : Nat) : State :=
  forBelow 4 (fun m s =>
    if s.conv m = CS.OFF then s.setN (CONV_PHASE m) 0
    else
      let s := s.freezeRecord m 3 kind site
      let s := (s.setN (CONVERTER.ENABLE m) 0).setN (inForce (CONVERTER.ENABLE m)) 0
      s.convLeave m CS.OFF) s

/-! ### Rows -/

def execConverterStartCheck (m : Conv) (samples offsets : List Int) (s : State) :
    Host.Outcome State Fault Refusal := .next (s.converterStartCheck m samples offsets)
def execConverterCycleEnd (m : Conv) (samples : List Int) (s : State) : Host.Outcome State Fault Refusal :=
  .next (s.converterCycleEnd m samples)
def execLanePeriodEnd (l : Lane) (vcs vs : Int) (s : State) : Host.Outcome State Fault Refusal :=
  .next (s.lanePeriodEnd l vcs vs)
def execShareImbalance (l : Lane) (s : State) : Host.Outcome State Fault Refusal := .next (s.shareImbalance l)
def execTruncationCrossing (m : Conv) (s : State) (vs : Int := 0) (steps : List Nat := List.replicate 16 0) :
    Host.Outcome State Fault Refusal :=
  .next (s.truncationCrossing m vs steps)
def execTruncationLatch (m : Conv) (s : State) : Host.Outcome State Fault Refusal := .next (s.truncationLatch m)
def execPeakCut (l : Lane) (step : Nat) (s : State) (vcs : Int := 0) : Host.Outcome State Fault Refusal :=
  .next (s.peakCut l step vcs)
def execHiccupResume (m : Conv) (samples offsets : List Int) (s : State) : Host.Outcome State Fault Refusal :=
  .next (s.hiccupResume m samples offsets)
def execHiccupResetTime (m : Conv) (s : State) : Host.Outcome State Fault Refusal := .next (s.hiccupReset m)
def execFaultRecordWritten (m : Conv) (s : State) : Host.Outcome State Fault Refusal := .next (s.faultRecordWritten m)
def execConverterUndervoltage (m : Conv) (units : List (List Int)) (s : State) : Host.Outcome State Fault Refusal :=
  .next (s.converterUndervoltage m units)
def execConverterOvervoltage (m : Conv) (units : List (List Int)) (s : State) : Host.Outcome State Fault Refusal :=
  .next (s.converterOvervoltage m units)
def execConverterUnderCleared (m : Conv) (units : List (List Int)) (s : State) : Host.Outcome State Fault Refusal :=
  .next (s.converterUnderCleared m units)
def execConverterOverCleared (m : Conv) (units : List (List Int)) (s : State) : Host.Outcome State Fault Refusal :=
  .next (s.converterOverCleared m units)

end Sys2Proof.Machine
end

