-- ==== Sys2Proof/Machine/Backup.lean ====
section
/-!
DEFINITION. The backup domain: the real-time clock and the monotonic count (R330, R442 to R446), the alarm (R447), PON
(R448), the wake latches (R300 to R302), the copies of the configuration (R302, R449) and the low-backup flag (R440, R441).
-/
namespace Sys2Proof.Machine

/-! ### Sites and flags -/

/-- R451: the sites of the real-time clock, PON, the retained SRAM and the VBK switchover; R304: of the wake latches. -/
abbrev siteRtc : Nat := 0xE0000000
abbrev siteWake : Nat := 0xE0400000
abbrev sitePon : Nat := 0xE0800000
abbrev siteRetained : Nat := 0xE0C00000
abbrev siteVbk : Nat := 0xE1400000

/-- RTC_FLAGS. -/
abbrev TFLAG.UNTRUSTED : Nat := 0
abbrev TFLAG.LOW_BACKUP : Nat := 1
abbrev TFLAG.VBK_LOW : Nat := 2
abbrev TFLAG.OSC_STOPPED : Nat := 3

/-- A bit of RTC_FLAGS. -/
def State.rtcFlag (s : State) (b : Nat) : Bool := s.bit RTC.RTC_FLAGS b

/-- RTC_FLAGS with one bit put. -/
def State.setRtcFlag (s : State) (b : Nat) (on : Bool) : State := s.setBit RTC.RTC_FLAGS b on

/-! ### The copies (R302, R449): the applied values while the control die runs -/

/-- RTC_TRIM as it governs. -/
def State.trim (s : State) : Int := if s.live then s.get (inForce RTC.RTC_TRIM) else s.get BACK_TRIM
/-- ALARM_SECONDS as it governs. -/
def State.alarmAt (s : State) : Nat := if s.live then s.nat (inForce ALARM.ALARM_SECONDS) else s.nat BACK_ALARM
/-- ALARM_REPEAT as it governs. -/
def State.alarmRepeat (s : State) : Nat := if s.live then s.nat (inForce ALARM.ALARM_REPEAT) else s.nat BACK_REPEAT
/-- PON_SOURCES as it governs. -/
def State.ponSources (s : State) : Nat :=
  if s.live then s.nat (inForce PON_CONTROL.PON_SOURCES) else s.nat BACK_SOURCES
/-- WAKE_ENABLE as it governs. -/
def State.wakeEnable (s : State) : Nat := if s.live then s.nat WAKE_CONFIG.WAKE_ENABLE else s.nat BACK_ENABLE
/-- WAKE_POLARITY as it governs. -/
def State.wakePolarity (s : State) : Nat := if s.live then s.nat WAKE_CONFIG.WAKE_POLARITY else s.nat BACK_POLARITY
/-- WAKE_SENSE as it governs. -/
def State.wakeSense (s : State) : Nat := if s.live then s.nat WAKE_CONFIG.WAKE_SENSE else s.nat BACK_SENSE
/-- WAKE_FILTER as it governs. -/
def State.wakeFilter (s : State) : Nat := if s.live then s.nat WAKE_CONFIG.WAKE_FILTER else s.nat BACK_FILTER

/-- The control die stops: the copies keep the values applied last, and the interface locks (R439). -/
def State.keepCopies (s : State) : State :=
  if s.live then
    let c := s
    let s := (s.set BACK_TRIM c.trim).setN BACK_ALARM c.alarmAt
    let s := (s.setN BACK_REPEAT c.alarmRepeat).setN BACK_SOURCES c.ponSources
    let s := (s.setN BACK_ENABLE c.wakeEnable).setN BACK_POLARITY c.wakePolarity
    ((s.setN BACK_SENSE c.wakeSense).setN BACK_FILTER c.wakeFilter).setN BACKUP_LOCKED 1
  else s.setN BACKUP_LOCKED 1

/-! ### Time (R330, R442 to R446) -/

/-- Periods of the 32.768 kHz oscillator since a time; it stands still while stopped. -/
def State.periodsSince (s : State) (from_ : Nat) : Nat :=
  if s.flag OSC_OFF then 0 else (s.time - from_) * 32768 / 1000000

/-- R442, R446: the clock in 1/32,768 s; each window of 10,000,000 periods adds RTC_TRIM of them. -/
def State.rtcCount (s : State) : Nat :=
  let p := (s.periodsSince (s.nat RTC_FROM) : Int)
  ((s.nat RTC_BASE : Int) + p + p * s.trim / 10000000).toNat % 2 ^ 55

/-- The seconds of the clock. -/
def State.rtcSeconds (s : State) : Nat := s.rtcCount / 32768

/-- R330: the monotonic count, never trimmed. -/
def State.monoCount (s : State) : Nat := s.nat MONO_BASE + s.periodsSince (s.nat MONO_FROM)

/-- R330: the monotonic count converted to microseconds and rounded up. -/
def State.monoMicros (s : State) : Nat := (s.monoCount * 1000000 + 32767) / 32768

/-- The clocks restated from the present time on, at their present values. -/
def State.rebase (s : State) : State :=
  let r := s.rtcCount
  let m := s.monoCount
  (((s.setN RTC_BASE r).setN RTC_FROM s.time).setN MONO_BASE m).setN MONO_FROM s.time

/-- R330: the tick and the era are loaded with the count c; a frame begins. -/
def State.loadTick (s : State) (c : Nat) : State :=
  (s.set TICK_OFFSET ((c : Int) - s.time)).setN LAST_BOUNDARY s.time

/-- R445: no edge for 1 ms: the clocks stand still. -/
def State.oscStops (s : State) : State :=
  if s.flag OSC_OFF then s
  else
    let s := (s.rebase.setN OSC_OFF 1).setRtcFlag TFLAG.OSC_STOPPED true
    (s.setRtcFlag TFLAG.UNTRUSTED true).raise .RTC_OSC_STOPPED siteRtc 0 0 [f32 s.rtcSeconds]

/-- R445: the oscillator restarts; OSC_STOPPED stays until a set of the time. -/
def State.oscRestarts (s : State) : State :=
  if s.flag OSC_OFF then ((s.setN OSC_OFF 0).setN RTC_FROM s.time).setN MONO_FROM s.time else s

/-! ### The Gregorian calendar (R444) -/

/-- Whether a year is a leap year. -/
def isLeap (y : Nat) : Bool := (y % 4 == 0 && y % 100 != 0) || y % 400 == 0

/-- The days of a year. -/
def yearDays (y : Nat) : Nat := if isLeap y then 366 else 365

/-- The days of the months of a year. -/
def monthDays (y : Nat) : List Nat :=
  [31, if isLeap y then 29 else 28, 31, 30, 31, 30, 31, 31, 30, 31, 30, 31]

/-- The year, from y upward, and the day of that year that d days lead to; the first argument bounds the years. -/
def yearOf : Nat → Nat → Nat → Nat × Nat
  | 0, y, d => (y, d)
  | n + 1, y, d => if d < yearDays y then (y, d) else yearOf n (y + 1) (d - yearDays y)

/-- The month, counted from 0, and the day of that month that d days lead to. -/
def monthOf : List Nat → Nat → Nat → Nat × Nat
  | [], m, d => (m, d)
  | l :: r, m, d => if d < l then (m, d) else monthOf r (m + 1) (d - l)

/-- R444: CALENDAR of a number of seconds since 2000-01-01, which was a Saturday; 0 from 2400-01-01 on. -/
def calendarOf (secs : Nat) : Nat :=
  if 12622780800 ≤ secs then 0
  else
    let days := secs / 86400
    let t := secs % 86400
    let y := yearOf 400 2000 days
    let m := monthOf (monthDays y.1) 0 y.2
    y.1 * 2 ^ 48 + (m.1 + 1) * 2 ^ 40 + (m.2 + 1) * 2 ^ 32 + t / 3600 * 2 ^ 24 + t / 60 % 60 * 2 ^ 16 +
      t % 60 * 2 ^ 8 + (days + 5) % 7

/-! ### PON (R448) -/

/-- R448: PON becomes asserted or released for a cause; a change counts and is recorded. -/
def State.pon (s : State) (on : Bool) (cause : Nat) : State :=
  if s.flag PON_CONTROL.PON_STATE = on then s
  else
    let s := (s.setFlag PON_CONTROL.PON_STATE on).setN PON_CONTROL.PON_LAST_CAUSE cause
    (s.count PON_CONTROL.PON_CHANGES 0xFFFF).raise .PON_CHANGED sitePon 0 0 [f8 (bitOf on), f8 cause]

/-- R448: a PON_COMMAND lands: 0xA5 asserts, 0x5A releases; lost while the interface is locked (R439). -/
def State.ponCommand (s : State) (on : Bool) : State :=
  if s.flag BACKUP_LOCKED then s else s.pon on (if on then 1 else 4)

/-! ### Wakes (R295, R296, R301) -/

/-- R295: a wake abandons Park entry before its point of no return. -/
def State.parkAbort (s : State) (causes : Nat) : State :=
  let s := (s.setN PARK_STAGE 0).setN POWER_STATE.STATE (s.nat (inForce POWER_STATE.POWER_MODE))
  (s.count POWER_STATE.PARK_ABORTS 0xFFFF).raise .PARK_ABORTED siteControl 0 0 [f16 causes]

/-- A wake cause, a bit of LAST_WAKE_CAUSE, occurs: it abandons Park entry, or it is kept for the exit from Park or Ship. -/
def State.wakeBy (s : State) (b : Nat) : State :=
  if s.live && s.nat PARK_STAGE = 1 then s.parkAbort (2 ^ b)
  else if s.live && s.nat PARK_STAGE = 0 && !s.flag SHIP_IN then s
  else s.setBit WAKE_PENDING b true

/-- R296: what wakes the device from Park: the wakes met, and the enabled latches that are set. -/
def State.wakeCauses (s : State) : Nat :=
  ((List.range 11).map fun b =>
    if s.bit WAKE_PENDING b || (b < 9 && s.bit WAKE_CONFIG.WAKE_LATCHED b && s.wakeEnable.testBit b) then 2 ^ b else 0).sum

/-- Whether a latch wakes the device: BTN and the alarm always do. -/
def State.wakeEnabled (s : State) (b : Nat) : Bool := 9 ≤ b || s.wakeEnable.testBit b

/-- R301, R448: latch b sets. PON follows its source; an enabled latch wakes, and in Run and Hold an enabled input raises
WAKE_EVENT. -/
def State.latchSet (s : State) (b : Nat) : State :=
  if s.bit WAKE_CONFIG.WAKE_LATCHED b then s
  else
    let s := s.setBit WAKE_CONFIG.WAKE_LATCHED b true
    let s := if b != 10 && s.ponSources.testBit b then s.pon true 2 else s
    if !s.wakeEnabled b then s
    else
      let s :=
        if s.live && s.nat PARK_STAGE = 0 && b < 8 then
          s.raise .WAKE_EVENT siteWake 0 0 [f16 (s.nat WAKE_CONFIG.WAKE_LATCHED), f8 (s.nat WAKE_CONFIG.WAKE_LEVEL)]
        else s
      if b < 9 then s.wakeBy b else s

/-- Whether input i is active at its filtered level. -/
def State.wakeActive (s : State) (i : Nat) : Bool := s.bit WAKE_CONFIG.WAKE_LEVEL i == s.wakePolarity.testBit i

/-- R301: inputs in level sensing set their latches while they are active. -/
def State.senseLevels (s : State) : State :=
  forBelow 8 (fun i s => if !s.wakeSense.testBit i && s.wakeActive i then s.latchSet i else s) s

/-- R301: input i has been at a level for a time in microseconds. Past the filter it is the filtered level, and its latch
sets while it is active, or at the change into the active level. An active input arms the Endgame trigger (R167). -/
def State.wakeInput (s : State) (i : Nat) (high : Bool) (us : Nat) : State :=
  if us < max 1 (1000 * s.wakeFilter) then s
  else
    let was := s.wakeActive i
    let s := s.setBit WAKE_CONFIG.WAKE_LEVEL i high
    let s := if s.wakeActive i then s.setN (ENDGAME_ARMED i) 1 else s
    if s.wakeActive i && !(s.wakeSense.testBit i && was) then s.latchSet i else s

/-- R301: WAKE_CLEAR lands; an input in level sensing that is active sets its latch again. -/
def State.wakeClear (s : State) (mask : Nat) : State :=
  if s.flag BACKUP_LOCKED then s
  else
    (forBelow 11 (fun b s => if mask.testBit b then s.setBit WAKE_CONFIG.WAKE_LATCHED b false else s) s).senseLevels

/-! ### The alarm (R447) -/

/-- The first alarm after `now` that repeats from `a`. -/
def nextAlarm (a rep now : Nat) : Nat := a + ((now - a) / rep + 1) * rep

/-- R447: the alarm fires. -/
def State.alarmFires (s : State) : State :=
  let a := s.alarmAt
  let s := ((s.setN ALARM.ALARM_STATE 2).count ALARM.ALARMS_FIRED 0xFFFF).latchSet 10
  let s := s.wakeBy 10
  let s := if s.ponSources.testBit 10 then s.pon true 3 else s
  let s := s.raise .ALARM_FIRED siteRtc 0 0 [f32 (a % 2 ^ 32), f8 (s.get PON_CONTROL.PON_STATE)]
  if s.alarmRepeat = 0 then s
  else
    let n := nextAlarm a s.alarmRepeat s.rtcSeconds
    let s := s.setN ALARM.ALARM_STATE 1
    if s.live then (s.setN ALARM.ALARM_SECONDS n).setN (inForce ALARM.ALARM_SECONDS) n else s.setN BACK_ALARM n

/-- R447: an armed alarm that the seconds have reached fires. -/
def State.alarmCheck (s : State) : State :=
  if s.alarmAt != 0 && s.nat ALARM.ALARM_STATE == 1 && s.alarmAt ≤ s.rtcSeconds then s.alarmFires else s

/-- ALARM_SECONDS lands: the alarm is armed, or off at 0. -/
def State.alarmSet (s : State) (v : Nat) : State :=
  (s.setN (inForce ALARM.ALARM_SECONDS) v).setN ALARM.ALARM_STATE (if v = 0 then 0 else 1)

/-- R441, R443: the time is set to a count of 1/32,768 s, from a source; it stays untrusted while the oscillator stands. -/
def State.setClock (s : State) (count source : Nat) : State :=
  let before := s.rtcSeconds
  let s := ((s.rebase.setN RTC_BASE count).setRtcFlag TFLAG.UNTRUSTED (s.flag OSC_OFF)).setRtcFlag TFLAG.OSC_STOPPED false
  let s := (s.setN RTC.LAST_SET_STAMP s.stamp).setN RTC.SET_SOURCE source
  let s := s.raise .TIME_SET siteRtc 0 0 [f8 source, f32 (before % 2 ^ 32), f32 (count / 32768 % 2 ^ 32)]
  s.alarmCheck

/-- R446: RTC_TRIM lands: the clock counts on at the new rate. -/
def State.setTrim (s : State) (v : Int) : State := s.rebase.set (inForce RTC.RTC_TRIM) v

/-! ### Supply of the domain (R438, R440, R441) -/

/-- R440, R441: the low-backup flag sets, and TIME_UNTRUSTED with it. -/
def State.lowBackup (s : State) : State :=
  (s.setRtcFlag TFLAG.LOW_BACKUP true).setRtcFlag TFLAG.UNTRUSTED true

/-- R440: VBK has stayed at a voltage for a time in microseconds. Where it can no longer supply the domain, RSTOUT_N is high-impedance
(R265). -/
def State.cellLow (s : State) (vbk : Int) (us : Nat) : State :=
  let s := s.set VBK_LAST vbk
  if 20000 ≤ vbk || us < 1000 then s
  else if s.flag ON_VBK then
    let s := s.lowBackup
    if vbk < 16000 then (s.rebase.setFree RTC_BASE 0 (2 ^ 55 - 1)).setN RSTOUT_HIGH (if s.nat DEV_STATE = 3 then 1 else s.nat RSTOUT_HIGH)
    else s
  else if s.rtcFlag TFLAG.VBK_LOW then s
  else (s.setRtcFlag TFLAG.VBK_LOW true).raise .BACKUP_CELL_LOW siteVbk 0 0 [f32 vbk]

/-- R440, R448, R283: the backup domain starts from no supply at all: what it held is lost, and PON is released. -/
def State.backupStarts (s : State) : State :=
  let s := ((s.rebase.setFree RTC_BASE 0 (2 ^ 55 - 1)).setN MONO_BASE 0).setN BACKUP_ANEW 1
  let s := ((s.setN WAKE_CONFIG.WAKE_LATCHED 0).setN KEEPER.FAILED_OPENINGS 0).setN ALARM.ALARM_STATE 0
  let s := ((s.setN BACK_ALARM 0).setN BACK_REPEAT 0).setN BACK_SOURCES 0
  let s := ((s.setN BACK_ENABLE 0).setN BACK_POLARITY 0xFF).setN BACK_SENSE 0
  let s := ((s.setN BACK_FILTER 10).set BACK_TRIM 0).setRtcFlag TFLAG.VBK_LOW false
  let s := ((s.setN KEEPER.HOLDS 0).setN KEEPER.RETRY_SERIES 0).setN KEEPER.LAST_HOLD_SECONDS 0
  let s := ((s.setN KEEPER_HOLDING 0).setN KEEPER_TOLD 0).setN WAKE_PENDING 0
  let s := ((s.setN POWER_STATE.LAST_WAKE_CAUSE 0).setN STRAPS.STRAP_VALUE 0).setN RSTOUT_HIGH 0
  s.lowBackup.pon false 8

/-- R440: VBK rises or is applied; or the domain starts from no supply, which takes the loss of VH as well. -/
def State.vbkReturns (s : State) (vbk : Int) (fromNothing : Bool) : State :=
  let s := s.set VBK_LAST vbk
  let s := if s.nat DEV_STATE = 3 && 16000 ≤ vbk then s.setN RSTOUT_HIGH 0 else s
  if fromNothing && s.nat DEV_STATE == 3 then s.backupStarts
  else if 21000 ≤ vbk then s.setRtcFlag TFLAG.VBK_LOW false
  else s

/-! ### Rows -/

def execAlarmFired (s : State) : Host.Outcome State Fault Refusal := .next s.alarmCheck
def execRtcOscStopped (s : State) : Host.Outcome State Fault Refusal := .next s.oscStops
def execRtcOscRestart (s : State) : Host.Outcome State Fault Refusal := .next s.oscRestarts
def execBackupCellLow (vbk : Int) (us : Nat) (s : State) : Host.Outcome State Fault Refusal := .next (s.cellLow vbk us)
def execVbkLowClear (vbk : Int) (fromNothing : Bool) (s : State) : Host.Outcome State Fault Refusal :=
  .next (s.vbkReturns vbk fromNothing)
def execBackupSwitchover (vh : Int) (s : State) : Host.Outcome State Fault Refusal :=
  .next (s.setFlag ON_VBK (vh ≤ 40000))
def execWakeLatchSet (i : Fin 8) (high : Bool) (us : Nat) (s : State) : Host.Outcome State Fault Refusal :=
  .next (s.wakeInput i.val high us)

end Sys2Proof.Machine
end

