-- ==== Sys2Proof/Machine/Battery.lean ====
section
/-!
DEFINITION. The battery path (chapter 8): the battery switch (R222 to R226), the pulsed charger (R227 to R235), the
button with its long press and ship mode (R236 to R238), and the assist port (R239 to R242).
-/
namespace Sys2Proof.Machine

/-! ### The battery switch -/

/-- R243: the site of the battery switch: the whole CD0 die. -/
abbrev siteSwitch : Nat := 0x20380000

/-- A message of the battery switch; CV1's holder holds it (R226). -/
def State.raiseSwitch (s : State) (k : Kind) (fields : List (Nat × Int)) : State :=
  s.raiseDie 0 k siteSwitch (s.holderOfConverter 1) 0 fields

/-- The mode in effect: 0 OPEN, 1 IDEAL_DIODE, 2 CLOSED, 3 waiting to close. -/
def State.swMode (s : State) : Nat := s.nat BATTERY_SWITCH.MODE_IN_EFFECT

/-- The switch takes a mode in effect, with OPEN_CAUSE; a change is recorded. A gate turns on when the switch leaves OPEN
or closes; no diode conducts in OPEN and CLOSED (R223). -/
def State.swTo (s : State) (mode cause : Nat) : State :=
  let before := s.swMode
  let s := (s.setN BATTERY_SWITCH.MODE_IN_EFFECT mode).setN BATTERY_SWITCH.OPEN_CAUSE cause
  let s := if mode = 0 || mode = 2 then s.setN BATTERY_SWITCH.FORWARD 0 else s
  if before = mode then s
  else
    let s := if before = 0 then s.setN SW_CONN_AT s.time else s
    let s := if mode != 0 && (before == 0 || mode == 2) then s.setN SW_ON_AT s.time else s
    s.raiseSwitch .SWITCH_MODE_CHANGED [f8 before, f8 mode, f8 cause]

/-- R223: MODE lands. It clears the trip mark, also when it repeats the value. -/
def State.swWrite (s : State) (v : Nat) : State :=
  let s := ((s.setN (inForce BATTERY_SWITCH.MODE) v).setN SW_MARK 0).setN SW_TRIPPED 0
  if s.flag SW_UNPOWERED then s
  else
    match v with
    | 0 => s.swTo 0 1
    | 1 => s.swTo 1 0
    | _ =>
      if s.swMode = 2 || s.swMode = 3 then s
      else ((s.swTo 3 0).setN SW_WAIT_AT s.time).setN SW_TOLD 0

/-- R222: CLOSED, in effect or waited for, is replaced by IDEAL_DIODE. -/
def State.swNoClosed (s : State) : State := if 2 ≤ s.swMode then s.swTo 1 0 else s

/-- R222, R224: the release of the control die: IDEAL_DIODE, except that OPEN with the trip mark is kept. -/
def State.swRelease (s : State) : State :=
  if s.flag SW_UNPOWERED then s
  else if s.swMode = 0 && s.flag SW_MARK then s.setN BATTERY_SWITCH.OPEN_CAUSE 2
  else s.swTo 1 0

/-- R223: the gates close at a round in which the switch voltage is within 0.5 V. -/
def State.swClose (s : State) (diff : Int) : State :=
  if s.swMode = 3 && -5000 ≤ diff && diff ≤ 5000 then s.swTo 2 0 else s

/-- R223: after 1 s of waiting to close. -/
def State.swDeferred (s : State) (diff : Int) : State :=
  if s.swMode = 3 && !s.flag SW_TOLD && s.nat SW_WAIT_AT + 1000000 ≤ s.time then
    (s.setN SW_TOLD 1).raiseSwitch .CLOSE_DEFERRED [f32 diff]
  else s

/-- R223: BSWN rises above BSWB by `excess`: the diode stops conducting. Within 5 mV of 0 the comparator may go either way. -/
def State.swReverse (s : State) (excess : Int) : State :=
  if s.swMode = 1 || s.swMode = 3 then
    if 50 < excess then s.setN BATTERY_SWITCH.FORWARD 0
    else if -50 ≤ excess then
      if s.flag BATTERY_SWITCH.FORWARD then s.setFree BATTERY_SWITCH.FORWARD 0 1 else s
    else s
  else s

/-- R224: the switch voltage has exceeded SHORT_LEVEL for a time in microseconds, all of it outside the blanking after a gate
turn-on. -/
def State.swShort (s : State) (diff : Int) (us : Nat) : State :=
  let level := s.get BATTERY_SWITCH.SHORT_LEVEL
  if s.swMode != 0 && (level < diff || diff < -level) && 1 ≤ us &&
      s.nat SW_ON_AT + s.nat BATTERY_SWITCH.SHORT_BLANK + us ≤ s.time then
    let mode := s.swMode
    let s := (((s.swTo 0 2).setN SW_MARK 1).setN SW_TRIPPED 1).openShadow 5 0 (s.stamp + 2002)
    (s.count BATTERY_SWITCH.SWITCH_TRIPS 0xFFFF).raiseSwitch .SWITCH_SHORT_TRIP [f32 diff, f8 mode]
  else s

/-- R225: BSWB has stayed at a voltage for a time in microseconds, which counts since the switch left OPEN. -/
def State.swCutoff (s : State) (bswb : Int) (us : Nat) : State :=
  let level := s.get BATTERY_SWITCH.UV_CUTOFF
  if s.swMode != 0 && level != 0 && bswb < level && s.nat BATTERY_SWITCH.UV_CUTOFF_TIME ≤ us &&
      us ≤ s.time - s.nat SW_CONN_AT then
    ((s.swTo 0 3).openShadow 5 0 (s.stamp + 2002)).raiseSwitch .SWITCH_UV_CUTOFF [f32 (s.get BATTERY_SWITCH.V_BATTERY), f32 level]
  else s

/-- R226: every battery current sample of 1 ms exceeds CLOSED_CHARGE_LIMIT in CLOSED: MODE becomes 1, as if written. -/
def State.swChargeDrop (s : State) (samples : List Int) : State :=
  let limit := s.get BATTERY_SWITCH.CLOSED_CHARGE_LIMIT
  if s.swMode = 2 && limit != 0 && s.nat ESTIMATOR.BATT_SHUNT_RESISTANCE != 0 && samples.length == 4 &&
      samples.all (fun i => limit < i) then
    let s := (s.setN BATTERY_SWITCH.MODE 1).land (s.holderOfConverter 1) 1 (.value BATTERY_SWITCH.MODE 1)
    s.raiseSwitch .CLOSED_CHARGE_DROP [f32 (samples.getLastD 0), f32 limit]
  else s

/-- R222: BSWB applied to an unpowered driver. -/
def State.swPowerUp (s : State) : State :=
  if s.flag SW_UNPOWERED then ((s.setN SW_UNPOWERED 0).setN SW_MARK 0).swTo 1 0 else s

/-- R222: BSWB lost: the mode and the trip mark are lost, and both MOSFETs are off. -/
def State.swPowerLoss (s : State) : State :=
  if s.flag SW_UNPOWERED then s else ((s.swTo 0 0).setN SW_MARK 0).setN SW_UNPOWERED 1

/-- R221, R223: a round samples BSWB and BSWN: as the diode conducts again, its gate turns on. -/
def State.swRound (s : State) (bswb bswn : Int) : State :=
  if s.swMode = 1 || s.swMode = 3 then
    let s := if bswn < bswb && !s.flag BATTERY_SWITCH.FORWARD then s.setN SW_ON_AT s.time else s
    s.setFlag BATTERY_SWITCH.FORWARD (bswn < bswb)
  else s

/-! ### The charger -/

/-- A message of the charger: the site of CV1's engine (R243). -/
def State.raiseCharger (s : State) (k : Kind) (fields : List (Nat × Int)) : State :=
  s.raise k (siteConverter 1 0) (s.holderOfConverter 1) 0 fields

/-- The phase of the charger (R232). -/
def State.chPhase (s : State) : Nat := s.nat CHARGER_STATUS.PHASE

/-- R204: the charger sets CV1's reference to CHARGE_VOLTAGE_MAX and its upper clamp. -/
def State.chClamps (s : State) (i : Int) : State := s.overrides 1 (s.get CHARGER.CHARGE_VOLTAGE_MAX) i 0

/-- A stage begins: 0 none, 1 pulse, 2 rest, with the current clamp given. -/
def State.chStage (s : State) (stage : Nat) (i : Int) : State :=
  ((s.setN CHARGER_STATUS.STAGE stage).setN CH_STAGE_AT s.time).chClamps i

/-- A pulse of a current for a number of milliseconds begins (R232). -/
def State.chPulse (s : State) (i : Int) (ms : Nat) : State :=
  ((s.setN CHARGER_STATUS.ON_TIME ms).wrapCount CHARGER_STATUS.PULSES 32).chStage 1 i

/-- What the charge clock of R234 shows, µs. -/
def State.chClock (s : State) : Nat :=
  s.nat CH_CLOCK + (if s.nat CH_CLOCK_AT = 0 then 0 else s.time + 1 - s.nat CH_CLOCK_AT)

/-- R232, R234, R235: the charger enters a phase, with the clock and the full-charge report that go with it. -/
def State.chEnter (s : State) (p : Nat) : State :=
  let before := s.chPhase
  let bulk := p == 2 || p == 3
  let s :=
    if bulk && before == 1 then (s.setN CH_CLOCK 0).setN CH_CLOCK_AT (s.time + 1)
    else if bulk then s
    else (s.setN CH_CLOCK s.chClock).setN CH_CLOCK_AT 0
  let s := if p = 4 && before = 3 then s.setN CH_FULL 1 else s
  let s := if p = 4 then s.setN CH_HOLD_AT s.time else s
  let s := if p = 1 then s.setN CH_QUALIFY_AT s.time else s
  let s := (s.setN CHARGER_STATUS.PHASE p).setN CH_PHASE_AT s.time
  if before = p then s
  else s.raiseCharger .CHARGE_PHASE [f8 before, f8 p, f32 (s.get CHARGER_STATUS.V_REST)]

/-- The charger faults for a cause (1 qualify timeout, 2 charge timeout, 3 settings). -/
def State.chFault (s : State) (cause : Nat) : State :=
  let p := s.chPhase
  let s := (s.setN CHARGER_STATUS.FAULT_CAUSE cause).raiseCharger .CHARGE_FAULT [f8 cause, f8 p]
  (s.chEnter 7).chStage 0 0

/-- QUALIFY begins with one rest. -/
def State.chQualify (s : State) : State :=
  ((s.setN CHARGER_STATUS.SUSPEND_CAUSE 0).chEnter 1).chStage 2 0

/-- R227: whether the settings pass the checks of CHARGE_ENABLE = 1. -/
def State.chSettings (s : State) : Bool :=
  let max := s.get CHARGER.CHARGE_VOLTAGE_MAX
  s.get CHARGER.QUALIFY_VOLTAGE < s.get CHARGER.TAPER_START &&
    s.get CHARGER.TAPER_START < s.get CHARGER.TARGET_VOLTAGE && s.get CHARGER.TARGET_VOLTAGE ≤ max &&
    s.get CHARGER.MAINTAIN_LEVEL < s.get CHARGER.TARGET_VOLTAGE && 0 < s.get CHARGER.BULK_CURRENT &&
    max < s.get (CONVERTER.TRUNC_LEVEL 1) - s.get (CONVERTER.TRUNC_HYST 1)

/-- R227: CHARGE_ENABLE lands. At 0 the clamps go to 0, and CV1 is given back at the next boundary; at 1 the checks run in every
phase but FAULT, which only 0 ends (R232). -/
def State.chEnable (s : State) (v : Nat) : State :=
  let s := s.setN (inForce CHARGER.CHARGE_ENABLE) v
  if v = 0 then
    let s := (s.setN CHARGER_STATUS.SUSPEND_CAUSE 0).setN CHARGER_STATUS.FAULT_CAUSE 0
    let s := (s.chEnter 0).setN CHARGER_STATUS.STAGE 0
    if s.flag (OVR_ON 1) then (s.chClamps 0).setN (OVR_END 1) 1 else s
  else
    let s := s.setN CHARGER_STATUS.PULSES 0
    if s.chPhase = 7 then s
    else if s.chSettings then s.chQualify
    else s.chFault 3

/-- R233: the next on-time in ms after one of t for a rest voltage v. Where a later commit has made TARGET_VOLTAGE not
exceed TAPER_START, the spec gives no quotient. -/
def State.chTaper (s : State) (t : Nat) (v : Int) : State :=
  let target := s.get CHARGER.TARGET_VOLTAGE
  let den := target - s.get CHARGER.TAPER_START
  let bulk := (s.nat CHARGER.BULK_ON_TIME : Int)
  let s :=
    if 0 < den then s.set CH_T_PREV (min bulk (max 1000 ((2 * (t : Int) * (target - v) + den) / (2 * den))))
    else s.setFree CH_T_PREV 1000 (max 1000 bulk)
  s.chPulse (s.get CHARGER.BULK_CURRENT) (s.nat CH_T_PREV)

/-- R232: the charger enters HOLD. -/
def State.chToHold (s : State) : State := (s.chEnter 4).chStage 0 0

/-- R232: the decision after a rest, on its rest voltage. -/
def State.chDecide (s : State) (v : Int) : State :=
  let target := s.get CHARGER.TARGET_VOLTAGE
  let taper := s.get CHARGER.TAPER_START
  match s.chPhase with
  | 1 =>
    if target ≤ v then s.chToHold
    else if taper ≤ v then (s.chEnter 3).chTaper (s.nat CHARGER.BULK_ON_TIME) v
    else if s.get CHARGER.QUALIFY_VOLTAGE ≤ v then
      (s.chEnter 2).chPulse (s.get CHARGER.BULK_CURRENT) (s.nat CHARGER.BULK_ON_TIME)
    else s.chPulse (s.get CHARGER.PRECHARGE_CURRENT) (s.nat CHARGER.BULK_ON_TIME)
  | 2 =>
    if taper ≤ v then (s.chEnter 3).chTaper (s.nat CHARGER.BULK_ON_TIME) v
    else s.chPulse (s.get CHARGER.BULK_CURRENT) (s.nat CHARGER.BULK_ON_TIME)
  | 3 | 5 => if target ≤ v then s.chToHold else s.chTaper (s.nat CH_T_PREV) v
  | _ => s

/-- R229, R247: a rest voltage is taken: its validity, V_REST, and what the estimator gets of it, with its stamp. imax is the current
sample of the largest magnitude. -/
def State.chRest (s : State) (v imax imean : Int) : State :=
  let lim := s.get CHARGER.REST_CURRENT_MAX
  if -lim ≤ imax && imax ≤ lim && s.nat ESTIMATOR.BATT_SHUNT_RESISTANCE != 0 then
    let s := ((s.set CHARGER_STATUS.V_REST v).set EST_SHORT (v + 1)).setN EST_SHORT_STAMP s.stamp
    ((s.set RS_V v).set RS_I imean).setN RS_OK 1
  else
    let s := (s.setN RS_OK 0).count CHARGER_STATUS.REST_INVALID 0xFFFF
    s.raiseCharger .REST_INVALID [f32 imax.natAbs]

/-- R232: a rest ends. -/
def State.chRestEnd (s : State) (v imax imean : Int) : State :=
  if s.nat CHARGER_STATUS.STAGE = 2 && s.nat CH_STAGE_AT + 1000 * s.nat CHARGER.REST_TIME ≤ s.time then
    let s := s.chRest v imax imean
    s.chDecide (s.get CHARGER_STATUS.V_REST)
  else s

/-- R232: a pulse ends, and a rest begins. -/
def State.chPulseEnd (s : State) : State :=
  if s.nat CHARGER_STATUS.STAGE = 1 && s.nat CH_STAGE_AT + 1000 * s.nat CHARGER_STATUS.ON_TIME ≤ s.time then
    s.chStage 2 0
  else s

/-- R228: the ideal diode has conducted forward for a time in microseconds within a pulse. -/
def State.chCut (s : State) (us : Nat) : State :=
  if s.nat CHARGER_STATUS.STAGE = 1 && 1000 < us && us ≤ s.time - s.nat CH_STAGE_AT then
    let served := (s.time - s.nat CH_STAGE_AT) / 1000
    let s := s.raiseCharger .PULSE_CUT_DIODE [f32 served, f32 (s.get BATTERY_SWITCH.V_NETWORK)]
    s.chStage 2 0
  else s

/-- R232: the rest voltage of HOLD, every 60 s. -/
def State.chHoldSample (s : State) (v imax imean : Int) : State :=
  if s.chPhase = 4 && s.nat CH_HOLD_AT + 60000000 ≤ s.time then
    let s := (s.setN CH_HOLD_AT s.time).chRest v imax imean
    if s.flag RS_OK && v < s.get CHARGER.MAINTAIN_LEVEL then
      let s := (s.chEnter 5).setN CH_T_PREV (s.nat CHARGER.MAINTAIN_ON_TIME)
      s.chPulse (s.get CHARGER.BULK_CURRENT) (s.nat CHARGER.MAINTAIN_ON_TIME)
    else s
  else s

/-- R232: QUALIFY has lasted QUALIFY_TIMEOUT. -/
def State.chQualifyTimeout (s : State) : State :=
  if s.chPhase = 1 && s.nat CH_QUALIFY_AT + 1000000 * s.nat CHARGER.QUALIFY_TIMEOUT ≤ s.time then s.chFault 1 else s

/-- R234: the charge clock exceeds CHARGE_TIMEOUT. -/
def State.chTimeout (s : State) : State :=
  if (s.chPhase = 2 || s.chPhase = 3) && 1000000 * s.nat CHARGER.CHARGE_TIMEOUT < s.chClock then s.chFault 2 else s

/-- The battery temperature of the charger, if its entry gives one (R230). -/
def State.chTemp (s : State) : Option Int :=
  let e := s.nat CHARGER.BATT_TEMP_ENTRY
  if e = 0xFF || s.hkStale e then none else some (s.get (HK_ENTRY.VALUE e))

/-- R230, R231: the lowest suspension cause that holds; `margin` is the 2.00 K of a return. -/
def State.chCause (s : State) (margin : Int) : Nat :=
  let temp := match s.chTemp with
    | none => 3
    | some t =>
      if t < s.get CHARGER.TEMP_MIN + margin then 1 else if s.get CHARGER.TEMP_MAX - margin < t then 2 else 0
  if temp != 0 then temp
  else if s.conv 1 != CS.RUN then 4
  else if 2 ≤ s.swMode then 5
  else if s.flag SW_TRIPPED then 6
  else 0

/-- R230, R231: what each frame boundary does for the charger. A suspension for the temperature lasts until it lies 2.00 K inside
both limits. -/
def State.chBoundary (s : State) : State :=
  let p := s.chPhase
  if p = 0 || p = 7 then s
  else if p = 6 then
    let was := s.nat CHARGER_STATUS.SUSPEND_CAUSE
    let c := s.chCause (if 1 ≤ was && was ≤ 3 then 200 else 0)
    if c = 0 then s.chQualify else s.setN CHARGER_STATUS.SUSPEND_CAUSE c
  else if s.chCause 0 = 0 then s
  else
    let c := s.chCause 0
    let s := (s.setN CHARGER_STATUS.SUSPEND_CAUSE c).raiseCharger .CHARGE_SUSPENDED
      [f8 c, f16 (s.chTemp.getD (notAvailable .i16))]
    (s.chEnter 6).chStage 0 0

/-! ### The assist port -/

/-- R204: the session sets CV2's reference and clamps. -/
def State.asClamps (s : State) (ref i : Int) : State := s.overrides 2 ref i 0

/-- The session enters a state. -/
def State.asEnter (s : State) (st : Nat) : State :=
  (s.setN ASSIST_STATUS.ASSIST_STATE st).setN AS_STATE_AT s.time

/-- R236, R238, R242: ASWG is pulled down with no result, as the device loses power. -/
def State.asDrop (s : State) : State :=
  let s := (s.setN AS_TIME s.sessionTime).setN AS_CLOSED 0
  ((s.overrideDrop 2).setN AS_END 0).setN ASSIST_STATUS.ASSIST_STATE 0

/-- R241: an ordinary end: the clamps go to 0 and the switch opens 10 ms later. -/
def State.asOrdinary (s : State) (result : Nat) : State :=
  if s.nat AS_END = 0 && (s.nat ASSIST_STATUS.ASSIST_STATE = 2 || s.nat ASSIST_STATUS.ASSIST_STATE = 4) then
    ((s.asClamps (s.get (OVR_REF 2)) 0).setN AS_END result).setN AS_END_AT s.time
  else s

/-- R239: ASSIST_START lands. -/
def State.asStart (s : State) : State :=
  if s.flag ASSIST_STATUS.ASSIST_STATE then s
  else if s.conv 2 != CS.RUN then
    (s.setN ASSIST_STATUS.ASSIST_RESULT 7).raiseAssist .ASSIST_REFUSED [f8 7, f32 (s.get ASSIST_STATUS.ASV)]
  else
    let s := ((s.asEnter 1).setN AS_AT s.time).setN ASSIST_STATUS.ASSIST_RESULT 0
    (s.setN ASSIST_STATUS.DELIVERED_CHARGE 0).count ASSIST_STATUS.SESSIONS 0xFFFF

/-- R239: a refusal. -/
def State.asRefuse (s : State) (result : Nat) (asv : Int) : State :=
  let s := (s.setN AS_TIME s.sessionTime).setN ASSIST_STATUS.ASSIST_STATE 0
  (s.setN ASSIST_STATUS.ASSIST_RESULT result).raiseAssist .ASSIST_REFUSED [f8 result, f32 asv]

/-- R239, R240: the checks on the 10 ms mean of ASV. -/
def State.asCheck (s : State) (asv : Int) : State :=
  if s.nat ASSIST_STATUS.ASSIST_STATE = 1 && s.nat AS_AT + 10000 ≤ s.time then
    let max := s.get ASSIST_PORT.ASSIST_MAX_VOLTAGE
    if max < s.get ASSIST_PORT.ASSIST_VOLTAGE then s.asRefuse 9 asv
    else if asv < -5000 then s.asRefuse 3 asv
    else if max < asv then s.asRefuse 4 asv
    else if asv < 50000 then
      let s := ((s.asEnter 2).setN AS_CLOSED 1).asClamps (s.get ASSIST_PORT.ASSIST_VOLTAGE)
        (s.get ASSIST_PORT.PRECHARGE_CURRENT)
      s.raiseAssist .ASSIST_STARTED [f32 asv, f8 2]
    else ((s.asEnter 3).asClamps asv 0).raiseAssist .ASSIST_STARTED [f32 asv, f8 3]
  else s

/-- R240: SUPPLYING begins. -/
def State.asSupply (s : State) : State :=
  ((s.asEnter 4).setN AS_CLOSED 1).asClamps (s.get ASSIST_PORT.ASSIST_VOLTAGE)
    (s.get ASSIST_PORT.ASSIST_CURRENT_LIMIT)

/-- R240: ASV has stayed at a voltage for a time in microseconds of PRECHARGE. -/
def State.asPrecharged (s : State) (asv : Int) (us : Nat) : State :=
  if s.nat ASSIST_STATUS.ASSIST_STATE = 2 && s.nat AS_END = 0 && 50000 ≤ asv && 1000000 ≤ us &&
      us ≤ s.time - s.nat AS_STATE_AT then s.asSupply
  else s

/-- R240: PRECHARGE_TIME has passed. -/
def State.asPrechargeTimeout (s : State) : State :=
  if s.nat ASSIST_STATUS.ASSIST_STATE = 2 &&
      s.nat AS_STATE_AT + 1000000 * s.nat ASSIST_PORT.PRECHARGE_TIME ≤ s.time then s.asOrdinary 5
  else s

/-- R240: the output differs from ASV by `diff` in a round. -/
def State.asMatch (s : State) (diff : Int) : State :=
  if s.nat ASSIST_STATUS.ASSIST_STATE = 3 && -5000 ≤ diff && diff ≤ 5000 then s.asSupply else s

/-- R240: no match within 100 ms. -/
def State.asMatchTimeout (s : State) : State :=
  if s.nat ASSIST_STATUS.ASSIST_STATE = 3 && s.nat AS_STATE_AT + 100000 ≤ s.time then s.asFinish 8 else s

/-- R241: SESSION_TIMEOUT has passed since ASSIST_START. -/
def State.asTimeout (s : State) : State :=
  if s.nat AS_AT + 1000000 * s.nat ASSIST_PORT.SESSION_TIMEOUT ≤ s.time then s.asOrdinary 2 else s

/-- R241: ASV has stayed at a voltage for a time in microseconds. -/
def State.asForeign (s : State) (asv : Int) (us : Nat) : State :=
  if s.get ASSIST_PORT.ASSIST_MAX_VOLTAGE < asv && 10000 ≤ us then s.asOrdinary 6 else s

/-- R241: 10 ms after an ordinary end. -/
def State.asOpen (s : State) : State :=
  if s.nat AS_END != 0 && s.nat AS_END_AT + 10000 ≤ s.time then s.asFinish (s.nat AS_END) else s

/-- R241: what each frame boundary does for the session: CV2 must stay in RUN, and the charge delivered in the frame is
integrated: 0.1 mA for 20 µs is 2 nC. -/
def State.asBoundary (s : State) : State :=
  if s.flag ASSIST_STATUS.ASSIST_STATE then
    let i := s.get (CONVERTER_STATUS.IOUT 2)
    let s := s.set ASSIST_STATUS.ASSIST_CURRENT i
    let s :=
      if s.flag AS_CLOSED then s.set ASSIST_STATUS.DELIVERED_CHARGE (s.get ASSIST_STATUS.DELIVERED_CHARGE + 2 * i) else s
    if s.conv 2 != CS.RUN then s.asFinish 7 else s
  else s

/-! ### The long press and ship mode -/

/-- R236, R238: every converter output is low and every converter OFF with ENABLE 0. -/
def State.convertersOut (s : State) : State :=
  forBelow 4 (fun m s =>
    let s := (s.setN (CONVERTER.ENABLE m) 0).setN (inForce (CONVERTER.ENABLE m)) 0
    if s.conv m = CS.OFF then s.setN (CONV_PHASE m) 0 else s.convLeave m CS.OFF) s

/-- R323: a hold of the keeper ends, after LAST_HOLD_SECONDS. -/
def State.holdEnds (s : State) : State :=
  if s.flag KEEPER_HOLDING then
    (s.setN KEEPER_HOLDING 0).setN KEEPER.LAST_HOLD_SECONDS (satTo 0xFFFFFFFF ((s.time - s.nat KEEPER_AT) / 1000000))
  else s

/-- R311, R323: a power cycle ends a lockout or a hold, and clears FAILED_OPENINGS and the retry series. -/
def State.powerCycle (s : State) : State :=
  (s.holdEnds.setN KEEPER.FAILED_OPENINGS 0).setN KEEPER.RETRY_SERIES 0

/-- R236: a press of BTN held 20 ms is recognised; it wakes. -/
def State.btnPress (s : State) : State :=
  if s.nat BTN_FELL != 0 then s
  else
    let s := ((s.setN BTN_FELL (s.time - 20000 + 1)).setN BTN_LONG 0).setN SHIP_CONTROL.BTN_STATE 1
    (s.latchSet 9).wakeBy 9

/-- R236: BTN has been low for 10 s. -/
def State.longPress (s : State) : State :=
  if s.nat BTN_FELL != 0 && !s.flag BTN_LONG && s.nat BTN_FELL - 1 + 10000000 ≤ s.time then
    let s := (((s.setN BTN_LONG 1).setN LONG_AT (s.time + 1)).asDrop).convertersOut
    let s := (s.pon false 6).swTo 0 0
    let s := (s.count SHIP_CONTROL.LONG_PRESSES 0xFFFF).powerCycle
    if s.nat DEV_STATE = 0 then s.setBit RESET_CAUSE.CAUSES_SEEN 12 true else s
  else s

/-- R236: 2 s after a long press the driver returns to IDEAL_DIODE and clears the trip mark. Where VBAT has stayed, the
device records an outage of 0. -/
def State.longRestore (s : State) : State :=
  if s.nat LONG_AT != 0 && s.nat LONG_AT - 1 + 2000000 ≤ s.time then
    let s := (s.setN LONG_AT 0).setN SW_MARK 0
    let s := if s.flag SW_UNPOWERED then s else s.swTo 1 0
    if s.live then s.raise .LONG_PRESS_RESET siteWake 0 0 [f32 0] else s
  else s

/-- R237: SHIP_ARM lands: 0xA5 arms, 0x5A cancels. -/
def State.shipArm (s : State) (arm : Bool) : State :=
  if arm then
    ((s.setN SHIP_CONTROL.SHIP_STATE 1).setN SHIP_AT s.time).raise .SHIP_ARMED siteWake 0 0
      [f32 (s.nat SHIP_CONTROL.SHIP_WINDOW)]
  else s.setN SHIP_CONTROL.SHIP_STATE 0

/-- R237: SHIP_WINDOW has passed. -/
def State.shipWindow (s : State) : State :=
  if s.nat SHIP_CONTROL.SHIP_STATE = 1 && s.nat SHIP_AT + s.nat SHIP_CONTROL.SHIP_WINDOW ≤ s.time then
    s.setN SHIP_CONTROL.SHIP_STATE 0
  else s

/-- R238: ship entry. -/
def State.shipEnter (s : State) : State :=
  let s := (s.asDrop.convertersOut.pon false 7).swTo 0 0
  let s := ((s.count SHIP_CONTROL.SHIP_ENTRIES 0xFFFF).setN SHIP_CONTROL.SHIP_STATE 0).setN SHIP_IN 1
  (s.setN RET_ENTERED s.rtcSeconds).setN WAKE_PENDING 0

/-- R236, R237: BTN is released; a short press while ship mode is armed enters it. -/
def State.btnRelease (s : State) : State :=
  if s.nat BTN_FELL = 0 then s
  else
    let held := s.time - (s.nat BTN_FELL - 1)
    let long := s.flag BTN_LONG
    let s := ((s.setN BTN_FELL 0).setN BTN_LONG 0).setN SHIP_CONTROL.BTN_STATE 0
    if s.live && s.nat SHIP_CONTROL.SHIP_STATE = 1 && !long && 50000 ≤ held && held < 2000000 then s.shipEnter else s

/-- R238, R291: a wake in Ship, whatever the reason for it, latches IDEAL_DIODE; the device opens as VBAT rises. -/
def State.shipExit (s : State) : State :=
  if (s.flag SHIP_IN || s.nat DEV_STATE == 3) && s.nat WAKE_PENDING != 0 then
    let cause := s.nat WAKE_PENDING
    let t := s.rtcSeconds - s.nat RET_ENTERED
    let s := (s.setN SHIP_IN 0).setN WAKE_PENDING 0
    let s := (s.setN SHIP_CONTROL.LAST_SHIP_DURATION (satTo 0xFFFFFFFF t)).setN POWER_STATE.LAST_WAKE_CAUSE cause
    let s := if s.flag SW_UNPOWERED then s else s.swTo 1 0
    s.raise .SHIP_EXIT siteWake 0 0 [f16 cause, f32 (satTo 0xFFFFFFFF t)]
  else s

/-- R118, R242: the logic of die d fails; as that of CD0 does, the assist switch opens, with no result (log entry 77). -/
def State.logicOutage (s : State) (d : Nat) : State :=
  (if d = 0 && !s.flag (LOGIC_OFF d) then s.asDrop else s).logicFails d

/-! ### Rows -/

def execLogicDomainFail (d : Die) (s : State) : Host.Outcome State Fault Refusal := .next (s.logicOutage d)
def execSwitchCloseDone (diff : Int) (s : State) : Host.Outcome State Fault Refusal := .next (s.swClose diff)
def execCloseDeferred (diff : Int) (s : State) : Host.Outcome State Fault Refusal := .next (s.swDeferred diff)
def execIdealDiodeReverse (excess : Int) (s : State) : Host.Outcome State Fault Refusal := .next (s.swReverse excess)
def execSwitchShortTrip (diff : Int) (us : Nat) (s : State) : Host.Outcome State Fault Refusal :=
  .next (s.swShort diff us)
def execSwitchUvCutoff (bswb : Int) (us : Nat) (s : State) : Host.Outcome State Fault Refusal :=
  .next (s.swCutoff bswb us)
def execClosedChargeDrop (samples : List Int) (s : State) : Host.Outcome State Fault Refusal :=
  .next (s.swChargeDrop samples)
def execSwitchDriverPowerUp (s : State) : Host.Outcome State Fault Refusal := .next s.swPowerUp
def execSwitchDriverPowerLoss (s : State) : Host.Outcome State Fault Refusal := .next s.swPowerLoss
def execChargePulseEnd (s : State) : Host.Outcome State Fault Refusal := .next s.chPulseEnd
def execChargeRestEnd (v imax imean : Int) (s : State) : Host.Outcome State Fault Refusal :=
  .next (s.chRestEnd v imax imean)
def execPulseCutDiode (us : Nat) (s : State) : Host.Outcome State Fault Refusal := .next (s.chCut us)
def execHoldRestSample (v imax imean : Int) (s : State) : Host.Outcome State Fault Refusal :=
  .next (s.chHoldSample v imax imean)
def execQualifyTimeout (s : State) : Host.Outcome State Fault Refusal := .next s.chQualifyTimeout
def execChargeTimeout (s : State) : Host.Outcome State Fault Refusal := .next s.chTimeout
def execBtnPress (s : State) : Host.Outcome State Fault Refusal := .next s.btnPress
def execBtnRelease (s : State) : Host.Outcome State Fault Refusal := .next s.btnRelease
def execLongPress (s : State) : Host.Outcome State Fault Refusal := .next s.longPress
def execLongPressSwitchRestore (s : State) : Host.Outcome State Fault Refusal := .next s.longRestore
def execShipWindowEnd (s : State) : Host.Outcome State Fault Refusal := .next s.shipWindow
def execShipExit (s : State) : Host.Outcome State Fault Refusal := .next s.shipExit
def execAssistCheck (asv : Int) (s : State) : Host.Outcome State Fault Refusal := .next (s.asCheck asv)
def execAssistPrechargeDone (asv : Int) (us : Nat) (s : State) : Host.Outcome State Fault Refusal :=
  .next (s.asPrecharged asv us)
def execAssistPrechargeTimeout (s : State) : Host.Outcome State Fault Refusal := .next s.asPrechargeTimeout
def execAssistMatch (diff : Int) (s : State) : Host.Outcome State Fault Refusal := .next (s.asMatch diff)
def execAssistMatchTimeout (s : State) : Host.Outcome State Fault Refusal := .next s.asMatchTimeout
def execAssistSessionTimeout (s : State) : Host.Outcome State Fault Refusal := .next s.asTimeout
def execAssistForeignOvervoltage (asv : Int) (us : Nat) (s : State) : Host.Outcome State Fault Refusal :=
  .next (s.asForeign asv us)
def execAssistSwitchOpen (s : State) : Host.Outcome State Fault Refusal := .next s.asOpen

end Sys2Proof.Machine
end

