-- ==== Sys2Proof/Machine/Estimator.lean ====
section
/-!
DEFINITION. Counting charge and judging the battery (chapter 9): the samples (R244 to R248), the estimate (R249 to R254),
its restoring at opening (R255), health (R256, R257), and the lifetime battery record in the record store (R258 to R261).
-/
namespace Sys2Proof.Machine

/-- The site of the estimator converter. -/
abbrev siteEstimator : Nat := 0x0E800000

/-- EST_FLAGS. -/
abbrev EFLAG.SHUNT_NOT_SET : Nat := 0
abbrev EFLAG.OVERRANGE : Nat := 1
abbrev EFLAG.UNCERTAIN : Nat := 2
abbrev EFLAG.ANCHOR : Nat := 3
abbrev EFLAG.SHUNT_STALE : Nat := 4
abbrev EFLAG.TEMP_STALE : Nat := 5
abbrev EFLAG.LONG_REST : Nat := 6

/-- A bit of EST_FLAGS. -/
def State.estFlag (s : State) (b : Nat) : Bool := s.bit ESTIMATOR_STATUS.EST_FLAGS b

/-- EST_FLAGS with one bit put. -/
def State.setEstFlag (s : State) (b : Nat) (on : Bool) : State := s.setBit ESTIMATOR_STATUS.EST_FLAGS b on

/-- A message of the estimator. -/
def State.raiseEst (s : State) (k : Kind) (fields : List (Nat × Int)) : State := s.raise k siteEstimator 0 0 fields

/-! ### The shunt and the samples (R244 to R248) -/

/-- R247: the battery shunt at its temperature, in 10^-18 ohm. -/
def State.battShunt (s : State) : Int :=
  s.get ESTIMATOR.BATT_SHUNT_RESISTANCE *
    (1000000000 + s.get ESTIMATOR.BATT_SHUNT_TEMPCO *
      (s.get ESTIMATOR_STATUS.BATT_SHUNT_TEMP - s.get ESTIMATOR.BATT_SHUNT_REF_TEMP))

/-- R246: the battery shunt in use, 10^-18 ohm: in Park that of the always-on part (R294). -/
def State.shuntNow (s : State) : Nat := if s.live then s.battShunt.toNat else s.nat PARK_SHUNT

/-- R245, R247: the current of a sample code in 0.1 mA; the LSB is 100 mV / 2^23. -/
def State.battCurrent (s : State) (code : Int) : Int :=
  divNear (code * 10 ^ 21) ((2 ^ 23 : Nat) * s.shuntNow)

/-- R248: the charge of a sample enters CHARGE, the sums of the second and the lifetime charges; the remainder below 1 nC
is carried. -/
def State.countCharge (s : State) (code : Int) : State :=
  let den := 2 ^ 23 * s.shuntNow
  let old := s.nat EST_DIV
  let rem := if old = den then s.get EST_REM else s.get EST_REM * den / (old : Int)
  let total := rem + code * (25 * 10 ^ 21)
  let inc := total / (den : Int)
  let s := (s.set EST_REM (total % den)).setN EST_DIV den
  let s := s.set ESTIMATOR_STATUS.CHARGE
    (clampInt (-2 ^ 63) (2 ^ 63 - 1) (s.get ESTIMATOR_STATUS.CHARGE + inc))
  let into := if s.live then REC_IN else PARK_CHARGE 0
  let out := if s.live then REC_OUT else PARK_CHARGE 1
  if 0 ≤ code then (s.set EST_QP (s.get EST_QP + inc)).set into (s.get into + inc)
  else (s.set EST_QM (s.get EST_QM + inc)).set out (s.get out - inc)

/-- R244: a sample at full scale. -/
def State.battOverrange (s : State) (code : Int) : State :=
  let s := ((s.setN EST_OVER 1).setEstFlag EFLAG.OVERRANGE true).setEstFlag EFLAG.ANCHOR false
  if s.nat EST_OVER_AT = 0 || s.nat EST_OVER_AT - 1 + 1000000 ≤ s.time then
    (s.setN EST_OVER_AT (s.time + 1)).raiseEst .BATTERY_OVERRANGE [f32 code]
  else s

/-- R259: the extremes of the battery's 1 ms mean current. -/
def State.battExtremes (s : State) (i : Int) : State :=
  (s.set REC_I_MAX (max (s.get REC_I_MAX) i)).set REC_I_MIN (min (s.get REC_I_MIN) i)

/-- R259: the published means of the battery current and their extremes move with a sample. -/
def State.battMeans (s : State) (i : Int) : State :=
  let s := (s.set EST_MS_SUM (s.get EST_MS_SUM + i)).setN EST_MS_CNT (s.nat EST_MS_CNT + 1)
  if s.nat EST_MS_CNT < 4 then s
  else
    let m := divNear (s.get EST_MS_SUM) 4
    (((s.set ESTIMATOR_STATUS.I_BATT m).set EST_MS_SUM 0).setN EST_MS_CNT 0).battExtremes m

/-- R245 to R248: one sample of the estimator converter, in Run, Hold and Park. In Park only what the always-on part holds
moves (R294). -/
def State.sigmaSample (s : State) (raw : Int) : State :=
  if s.nat DEV_STATE != 1 && s.nat DEV_STATE != 2 then s
  else
    let code := clampInt (-8388608) 8388607 raw
    let s := if s.live && (code = 8388607 || code = -8388608) then s.battOverrange code else s
    if s.shuntNow = 0 then s
    else
      let i := s.battCurrent code
      let s := s.countCharge code
      let s := (s.set EST_SUM (s.get EST_SUM + i)).setN EST_CNT (s.nat EST_CNT + 1)
      if s.live then (s.set ESTIMATOR_STATUS.I_BATT_INST i).battMeans i
      else s.set EST_PARK_MAX (max (s.get EST_PARK_MAX) i.natAbs)

/-- R247, R252: what each frame boundary does: the shunt temperature, and the flags that follow from the settings. -/
def State.estBoundary (s : State) : State :=
  let e := s.nat ESTIMATOR.BATT_SHUNT_TEMP_ENTRY
  let stale := s.tempStale e
  let fallback := s.get ESTIMATOR.BATT_SHUNT_TEMP_FALLBACK
  let told := s.estFlag EFLAG.SHUNT_STALE
  let s := (s.set ESTIMATOR_STATUS.BATT_SHUNT_TEMP (s.tempOf e fallback)).setEstFlag EFLAG.SHUNT_STALE stale
  let s := if stale && !told then s.raiseEst .EST_SHUNT_TEMP_STALE [f8 e, f16 fallback] else s
  let t := s.nat ESTIMATOR.EST_TEMP_ENTRY
  let s := s.setEstFlag EFLAG.TEMP_STALE (t == 0xFF || s.hkStale t)
  if s.nat ESTIMATOR.BATT_SHUNT_RESISTANCE = 0 then
    let na := notAvailable .i32
    let s := (s.setEstFlag EFLAG.SHUNT_NOT_SET true).setEstFlag EFLAG.ANCHOR false
    ((s.set ESTIMATOR_STATUS.I_BATT_INST na).set ESTIMATOR_STATUS.I_BATT na).set ESTIMATOR_STATUS.I_BATT_1S na
  else s.setEstFlag EFLAG.SHUNT_NOT_SET false

/-! ### The open-circuit table (R251) -/

/-- The segment that a rest voltage falls in, of the points i and i + 1, for i from the first argument down. -/
def State.ocvSegment (s : State) (v : Int) : Nat → Nat
  | 0 => 0
  | i + 1 => if s.get (OCV_TABLE.OCV_VOLT (i + 1)) ≤ v then i + 1 else s.ocvSegment v i

/-- R251: SOC_OCV of a rest voltage, and whether the rest is qualified. -/
def State.ocv (s : State) (v : Int) : Int × Bool :=
  let n := s.nat OCV_TABLE.OCV_POINTS
  if n < 2 then (0, false)
  else
    let k := s.ocvSegment v (n - 2)
    let s0 := s.get (OCV_TABLE.OCV_SOC k)
    let s1 := s.get (OCV_TABLE.OCV_SOC (k + 1))
    let v0 := s.get (OCV_TABLE.OCV_VOLT k)
    let v1 := s.get (OCV_TABLE.OCV_VOLT (k + 1))
    let soc := if v < v0 then s0 else if v1 ≤ v then s1
      else divNear (s0 * (v1 - v0) + (v - v0) * (s1 - s0)) (v1 - v0).toNat
    (soc, s.get ESTIMATOR.OCV_MIN_SLOPE * (s1 - s0) ≤ (v1 - v0) * 100)

/-! ### The update of each second (R249 to R254, R256) -/

/-- The capacity in use, mAh. -/
def State.capacity (s : State) : Nat :=
  let l := s.nat ESTIMATOR_STATUS.LEARNED_CAPACITY
  if l = 0 then s.nat ESTIMATOR.RATED_CAPACITY else l

/-- Whether the device holds an estimate (R255). -/
def State.estHeld (s : State) : Bool := s.nat ESTIMATOR_STATUS.SOC_SOURCE != 0 && !s.flag EST_NA

/-- Whether SOC is available. -/
def State.socKnown (s : State) : Bool := s.estHeld && s.capacity != 0

/-- SOC_INTERNAL as published, 0.01 %. -/
def State.socInternal (s : State) : Int :=
  if s.socKnown then divNear (s.get EST_SOCI) 65536 else notAvailable .i16

/-- SOC as published, 0.01 %. -/
def State.socReported (s : State) : Int :=
  if s.socKnown then divNear (s.get EST_SOC) 65536 else notAvailable .u16

/-- R256: a ratio of health: rounded down, at most 0xFFFE; 0xFFFF where either value is 0. -/
def health (a b : Nat) : Nat := if a = 0 || b = 0 then 0xFFFF else satTo 0xFFFE (a * 10000 / b)

/-- What follows from the estimate: the published values. -/
def State.estPublish (s : State) : State :=
  let s := (s.set ESTIMATOR_STATUS.SOC_INTERNAL s.socInternal).set ESTIMATOR_STATUS.SOC s.socReported
  let s := s.setN ESTIMATOR_STATUS.CAPACITY_IN_USE s.capacity
  let s := s.setN ESTIMATOR_STATUS.SOH_CAPACITY
    (health (s.nat ESTIMATOR_STATUS.LEARNED_CAPACITY) (s.nat ESTIMATOR.RATED_CAPACITY))
  s.setN ESTIMATOR_STATUS.SOH_RESISTANCE
    (health (s.nat ESTIMATOR_STATUS.RESISTANCE) (s.nat ESTIMATOR.RESISTANCE_NEW))

/-- R249: the numerator of d in 10^-4 nC, from the sums of the second. -/
def State.estNumerator (s : State) : Int :=
  s.get EST_QP * s.get ESTIMATOR.CHARGE_EFFICIENCY + s.get EST_QM * 10000

/-- R249: d in units of 2^-16 of 0.01 %. -/
def State.estDelta (s : State) : Int :=
  if s.capacity = 0 then 0 else divNear (s.estNumerator * 65536) (s.capacity * 3600000000)

/-- R252: the anchor is set at SOC_OCV. -/
def State.setAnchor (s : State) (soc : Int) : State :=
  ((s.setEstFlag EFLAG.ANCHOR true).set EST_ANCHOR soc).set EST_ANCHOR_QE (s.get EST_QE)

/-- R255: the first estimate, from a source. -/
def State.estFirst (s : State) (soc : Int) (source : Nat) : State :=
  (((s.set EST_SOCI (soc * 65536)).set EST_SOC (soc * 65536)).setN ESTIMATOR_STATUS.SOC_SOURCE source).setN EST_NA 0

/-- R252, R255: a rest voltage of a kind (0 short, 1 long) reaches the estimate. -/
def State.restCorrect (s : State) (kind : Nat) (v : Int) : State :=
  let o := s.ocv v
  let s := (s.set ESTIMATOR_STATUS.LAST_REST_VOLTAGE v).set ESTIMATOR_STATUS.LAST_REST_SOC o.1
  if !o.2 then s.count ESTIMATOR_STATUS.RESTS_UNUSED 0xFFFF
  else
    let before := s.socInternal
    let g := s.get (if kind = 1 then ESTIMATOR.LONG_REST_GAIN else ESTIMATOR.SHORT_REST_GAIN)
    let s :=
      if s.estHeld then s.set EST_SOCI (s.get EST_SOCI + divNear (g * (o.1 * 65536 - s.get EST_SOCI)) 10000)
      else s.estFirst o.1 3
    let s := s.setEstFlag EFLAG.UNCERTAIN false
    let s := s.raiseEst .REST_CORRECTION [f8 kind, f32 v, f16 before, f16 s.socInternal]
    if o.1 ≤ s.get ESTIMATOR.LEARN_MAX_SOC && !s.estFlag EFLAG.SHUNT_NOT_SET then s.setAnchor o.1 else s

/-- R252: the rests that have arrived since the last update. -/
def State.takeRests (s : State) : State :=
  let long := s.get EST_LONG
  let short := s.get EST_SHORT
  let s := (s.set EST_LONG 0).set EST_SHORT 0
  if long != 0 then s.restCorrect 1 (long - 1)
  else if short != 0 then s.restCorrect 0 (short - 1)
  else s

/-- R253, step 2: the ratio of a capacity sample to RATED_CAPACITY, 0.01 %. -/
def State.capacityRatio (s : State) (sample : Nat) : Nat :=
  if s.nat ESTIMATOR.RATED_CAPACITY = 0 then 0xFFFF else satTo 0xFFFF (sample * 10000 / s.nat ESTIMATOR.RATED_CAPACITY)

/-- R253, steps 2 and 3: a capacity sample in mAh. -/
def State.learnCapacity (s : State) (sample : Nat) : State :=
  let rated := s.nat ESTIMATOR.RATED_CAPACITY
  if rated != 0 && 5000 * rated ≤ sample * 10000 && sample * 10000 ≤ 12000 * rated then
    let old := s.get ESTIMATOR_STATUS.LEARNED_CAPACITY
    let new := if s.nat REC_CAP_N = 0 then (sample : Int)
      else old + divNear (((sample : Int) - old) * s.get ESTIMATOR.LEARN_WEIGHT) 10000
    let s := (s.set ESTIMATOR_STATUS.LEARNED_CAPACITY new).count REC_CAP_N 0xFFFF
    s.raiseEst .CAPACITY_LEARNED [f32 sample, f32 new]
  else s.raiseEst .CAPACITY_SAMPLE_REJECTED [f32 sample, f16 (s.capacityRatio sample)]

/-- R253: a full-charge report has arrived. -/
def State.fullCharge (s : State) : State :=
  let s := (s.setN CH_FULL 0).raiseEst .FULL_CHARGE [f16 s.socInternal]
  let s :=
    if s.estFlag EFLAG.ANCHOR then
      let q := (s.get EST_QE - s.get EST_ANCHOR_QE) * 10000
      s.learnCapacity (divNear q (36000000000000 * (10000 - s.nat EST_ANCHOR))).toNat
    else s
  let s := if s.estHeld then s.set EST_SOCI 655360000 else s.estFirst 10000 4
  (s.setEstFlag EFLAG.UNCERTAIN false).setEstFlag EFLAG.ANCHOR false

/-- R254: the reported value moves, after the counted change d and the mean current i of the second. -/
def State.socMoves (s : State) (d i : Int) : State :=
  let soc := s.get EST_SOC
  let r := divNear (s.get ESTIMATOR.CONVERGE_RATE * 65536) 60
  let step := d + clampInt (-r) r (s.get EST_SOCI - (soc + d))
  let rest := s.get ESTIMATOR.EST_REST_CURRENT
  let step := if rest < i && step < 0 then 0 else step
  let step := if i < -rest && 0 < step then 0 else step
  s.set EST_SOC (clampInt 0 655360000 (soc + step))

/-- R250: the rest band is judged on the mean current of the second that ends; at the first update after Park on the tracker's largest
magnitude, with the settings that held as Park began. -/
def State.restBand (s : State) (i : Int) : State :=
  let band := s.get ESTIMATOR.EST_REST_CURRENT
  let inside :=
    if s.flag EST_PARKED then s.nat EST_REST_SINCE != 0 && s.get EST_PARK_MAX ≤ s.get PARK_BAND
    else -band ≤ i && i ≤ band && !s.estFlag EFLAG.SHUNT_NOT_SET
  if inside then
    if s.nat EST_REST_SINCE = 0 then
      ((s.setN EST_REST_SINCE (s.time - 1000000 + 1)).setN EST_REST_DONE 0).setEstFlag EFLAG.LONG_REST true
    else s.setEstFlag EFLAG.LONG_REST true
  else ((s.setN EST_REST_SINCE 0).setN EST_REST_DONE 0).setEstFlag EFLAG.LONG_REST false

/-- R250: whether the rest time is reached at an update; at the first one after Park, whether it was reached there. -/
def State.restDue (s : State) : Bool :=
  s.flag EST_REST_DUE || decide (s.nat EST_REST_SINCE - 1 + 1000000 * s.nat ESTIMATOR.EST_REST_TIME ≤ s.time)

/-- R250: the rest time is reached at an update: the long rest voltage is the 1 ms mean of BSWB. -/
def State.longRest (s : State) : State :=
  if s.nat EST_REST_SINCE != 0 && !s.flag EST_REST_DONE && s.nat EST_UPDATED = s.time + 1 && s.restDue then
    ((s.setN EST_REST_DONE 1).setN EST_REST_DUE 0).set EST_LONG (s.get BATTERY_SWITCH.V_BATTERY + 1)
  else s

/-! ### Park (R246, R250, R260, R294) -/

/-- R294: what the always-on part takes into Park: the shunt, the rest band and the rest time in use. -/
def State.estParks (s : State) : State :=
  let s := (s.setN PARK_SHUNT (if s.nat ESTIMATOR.BATT_SHUNT_RESISTANCE = 0 then 0 else s.battShunt.toNat)).set EST_PARK_MAX 0
  (s.set PARK_BAND (s.get ESTIMATOR.EST_REST_CURRENT)).setN PARK_REST (s.nat ESTIMATOR.EST_REST_TIME)

/-- R248, R250, R260: what it brings out of Park after a number of seconds. -/
def State.estUnparks (s : State) (secs : Nat) : State :=
  let due := s.nat EST_REST_SINCE != 0 && !s.flag EST_REST_DONE && decide (s.get EST_PARK_MAX ≤ s.get PARK_BAND) &&
    decide (s.nat EST_REST_SINCE - 1 + 1000000 * s.nat PARK_REST ≤ s.time)
  let s := (s.setN EST_PARKED 1).setFlag EST_REST_DUE due
  let s := (s.set REC_IN (s.get REC_IN + s.get (PARK_CHARGE 0))).set REC_OUT (s.get REC_OUT + s.get (PARK_CHARGE 1))
  ((s.set (PARK_CHARGE 0) 0).set (PARK_CHARGE 1) 0).setN EST_PARK_S secs

/-! ### The bins of the record (R260) -/

/-- R260: the edges E_k of the current histogram, 0.1 mA. -/
def currentEdges : List Nat :=
  [0, 5000, 10000, 20000, 50000, 100000, 200000, 350000, 500000, 750000, 1000000, 1500000, 2000000, 3000000, 5000000,
    10000000]

/-- R260: the current bin of a mean current in 0.1 mA. -/
def currentBin (i : Int) : Nat :=
  let m := (currentEdges.filter (· ≤ i.natAbs)).length - 1
  if 0 ≤ i then 16 + m else 15 - m

/-- R260: the grid bin of a temperature in 0.01 degC and a state of charge in 0.01 %. -/
def gridBin (t soc : Int) : Nat :=
  16 * (clampInt 0 15 ((t + 4000) / 800)).toNat + (clampInt 0 15 (soc / 625)).toNat

/-- A number of seconds added to a bin or a total of 32 bits. -/
def State.addSeconds (s : State) (k n : Nat) : State := s.setN k (satTo 0xFFFFFFFF (s.nat k + n))

/-- Seconds added to the bins of the last second. -/
def State.binSeconds (s : State) (n : Nat) : State :=
  let s := if s.nat EST_BIN = 0 then s.addSeconds REC_UNBINNED n else s.addSeconds (REC_GRID (s.nat EST_BIN - 1)) n
  if s.nat EST_IBIN = 0 then s else s.addSeconds (REC_HIST (s.nat EST_IBIN - 1)) n

/-- R260: the bins of the second that ends; time in Park has gone to those of the second before it. -/
def State.takeBins (s : State) (i : Int) : State :=
  let s := if s.nat EST_PARK_S = 0 then s else (s.binSeconds (s.nat EST_PARK_S)).setN EST_PARK_S 0
  let t := s.get (HK_ENTRY.VALUE (s.nat ESTIMATOR.EST_TEMP_ENTRY))
  let s := s.setN EST_BIN (if s.estFlag EFLAG.TEMP_STALE || !s.socKnown then 0 else gridBin t s.socReported + 1)
  let s := s.setN EST_IBIN (if s.estFlag EFLAG.SHUNT_NOT_SET then 0 else currentBin i + 1)
  s.binSeconds 1

/-- R255: the copy in the retained SRAM. -/
def State.retainedCopy (s : State) : State :=
  ((s.set RET_SOCI s.socInternal).set RET_SOC s.socReported).setN RET_CAPACITY s.capacity

/-- R249 to R255: the update of a second. -/
def State.estUpdate (s : State) : State :=
  let set := s.nat ESTIMATOR.BATT_SHUNT_RESISTANCE != 0
  let i := if set && s.nat EST_CNT != 0 then divNear (s.get EST_SUM) (s.nat EST_CNT) else 0
  let d := s.estDelta
  let s := (s.set EST_QE (s.get EST_QE + s.estNumerator)).setN EST_UPDATED (s.time + 1)
  let s := if set then s.set ESTIMATOR_STATUS.I_BATT_1S i else s
  let s := if s.socKnown then s.set EST_SOCI (clampInt (-65536000) 720896000 (s.get EST_SOCI + d)) else s
  let s := s.takeRests
  let s := if s.flag CH_FULL then s.fullCharge else s
  let s := (if s.socKnown then s.socMoves d i else s).estPublish
  let s := (s.retainedCopy.restBand i).takeBins i
  let s := (((s.set EST_QP 0).set EST_QM 0).set EST_SUM 0).setN EST_CNT 0
  let s := (s.setEstFlag EFLAG.OVERRANGE (s.flag EST_OVER)).setN EST_OVER 0
  let s := if s.flag EST_PARKED then s else s.setN EST_REST_DUE 0
  (s.setN EST_PARKED 0).setN EST_PARK_MAX 0

/-- R249: the update takes place at each frame boundary at which tick mod 1,000,000 = 0, in Run and Hold. -/
def State.estimatorUpdate (s : State) : State :=
  if s.live && s.tick % 1000000 = 0 && s.time = s.nat LAST_BOUNDARY && s.nat EST_UPDATED != s.time + 1 then s.estUpdate
  else s

/-! ### Resistance (R257) -/

/-- R257: the means of BSWB and of the current over the fourth millisecond of a pulse that follows a valid rest. -/
def State.resistanceSample (s : State) (v i : Int) : State :=
  if s.nat CHARGER_STATUS.STAGE = 1 && s.flag RS_OK && s.nat CH_STAGE_AT + 4000 ≤ s.time then
    let s := s.setN RS_OK 0
    let di := i - s.get RS_I
    let e := s.nat ESTIMATOR.EST_TEMP_ENTRY
    let t := s.get (HK_ENTRY.VALUE e)
    if 100000 ≤ di && e != 0xFF && !s.hkStale e && 1500 ≤ t && t ≤ 3500 then
      let sample := divNear ((v - s.get RS_V) * 1000000000) di.toNat
      let old := s.get ESTIMATOR_STATUS.RESISTANCE
      let new := if s.nat REC_RES_N = 0 then sample else old + divNear (sample - old) 16
      let s := (s.count REC_RES_N 0xFFFF)
      let s := if 0 ≤ new && new < 2 ^ 32 then s.set ESTIMATOR_STATUS.RESISTANCE new
        else s.setFree ESTIMATOR_STATUS.RESISTANCE 0 (2 ^ 32 - 1)
      s.estPublish
    else s
  else s

/-! ### The record (R258 to R261) -/

/-- R259: the extremes of a battery temperature that is not stale. -/
def State.battTempExtremes (s : State) (t : Int) : State :=
  (s.set REC_T_MIN (min (s.get REC_T_MIN) t)).set REC_T_MAX (max (s.get REC_T_MAX) t)

/-- R259: the extremes of a 1 ms mean of BSWB. -/
def State.battVoltExtremes (s : State) (v : Int) : State :=
  (s.set REC_V_MIN (min (s.get REC_V_MIN) v)).set REC_V_MAX (max (s.get REC_V_MAX) v)

/-- R260: the record with a sequence number and a stamp, but for its CRC. -/
def State.recordBody (s : State) (seq : Nat) : List Byte :=
  leBytes 2 1 ++ leBytes 2 0 ++ leBytes 4 seq ++ leBytes 8 s.stamp ++ leBytes 8 (s.nat REC_REPLACED) ++
    leInt 2 s.socInternal ++ leInt 2 s.socReported ++ leBytes 4 (s.nat ESTIMATOR_STATUS.LEARNED_CAPACITY) ++
    leBytes 4 (s.nat ESTIMATOR_STATUS.RESISTANCE) ++ leBytes 2 (s.nat REC_CAP_N) ++ leBytes 2 (s.nat REC_RES_N) ++
    leInt 2 (s.get REC_T_MIN) ++ leInt 2 (s.get REC_T_MAX) ++ leInt 4 (s.get REC_V_MIN) ++ leInt 4 (s.get REC_V_MAX) ++
    leInt 4 (s.get REC_I_MAX) ++ leInt 4 (s.get REC_I_MIN) ++
    leBytes 8 (satTo (2 ^ 64 - 1) (s.nat REC_IN / 1000000)) ++ leBytes 8 (satTo (2 ^ 64 - 1) (s.nat REC_OUT / 1000000)) ++
    leBytes 4 (s.nat REC_UNBINNED) ++ (List.range 256).flatMap (fun b => leBytes 4 (s.nat (REC_GRID b))) ++
    (List.range 32).flatMap (fun b => leBytes 4 (s.nat (REC_HIST b)))

/-- R260: the 1,236 bytes of the record. -/
def State.batteryRecord (s : State) (seq : Nat) : List Byte :=
  let b := s.recordBody seq
  b ++ leBytes 4 (crc32c b)

/-- R258: the write in progress completes: SEQUENCE advances. -/
def State.recordWritten (s : State) : State :=
  if s.flag STORE_BUSY then
    let n := s.nat STORE_BUSY
    let s := (s.setN BATTERY_RECORD.SEQUENCE n).setN STORE_BUSY 0
    let s := (s.setN (STORE_SEQ (s.nat STORE_SIDE)) n).setN STORE_SIDE (1 - s.nat STORE_SIDE)
    s.raiseEst .BATTERY_RECORD_WRITTEN [f32 n]
  else s

/-- R258: a write of the record starts; it goes to the copy that the last one did not take. A write still in progress is
finished first. -/
def State.recordWrite (s : State) : State :=
  if s.flag STORE_OFF then s
  else
    let s := s.recordWritten
    let n := s.nat BATTERY_RECORD.SEQUENCE + 1
    (s.setN STORE_BUSY n).setBlob (STORE_COPY (s.nat STORE_SIDE)) (s.batteryRecord n)

/-- R258, R269: a reset cuts a write short: its copy no longer passes, and its sector is left erasing. -/
def State.recordCut (s : State) : State :=
  if s.flag STORE_BUSY then
    (((s.setN STORE_BUSY 0).setBlob (STORE_COPY (s.nat STORE_SIDE)) []).setN (STORE_SEQ (s.nat STORE_SIDE)) 0).setN STORE_ERASING 1
  else s

/-- R181: LIFETIME_TRIPS go to the record store. -/
def State.storeTrips (s : State) : State :=
  if s.flag STORE_OFF then s
  else forBelow 512 (fun n s =>
    (s.setN (LIFE_STORED n) (satTo 0xFFFFFFFF (s.nat (LIFE_STORED n) + s.nat (LIFE_NEW n)))).setN (LIFE_NEW n) 0) s

/-- R258: the write of every 10 minutes of powered time. -/
def State.storePeriodic (s : State) : State :=
  if s.live && s.nat STORE_AT + 600000000 ≤ s.time then (s.setN STORE_AT s.time).storeTrips.recordWrite else s

/-- R259: the record becomes empty. -/
def State.recordEmpty (s : State) : State :=
  let s := ((s.setN REC_REPLACED 0).setN REC_CAP_N 0).setN REC_RES_N 0
  let s := (((s.restore REC_T_MIN).restore REC_T_MAX).restore REC_V_MIN).restore REC_V_MAX
  let s := (((s.set REC_I_MAX 0).set REC_I_MIN 0).set REC_IN 0).set REC_OUT 0
  let s := (s.setN ESTIMATOR_STATUS.LEARNED_CAPACITY 0).setN ESTIMATOR_STATUS.RESISTANCE 0
  let s := forBelow 256 (fun b s => s.setN (REC_GRID b) 0) (s.setN REC_UNBINNED 0)
  forBelow 32 (fun b s => s.setN (REC_HIST b) 0) s

/-- A field of a stored record: n bytes at an offset. -/
def recField (b : List Byte) (off n : Nat) : Nat := ofLE (slice b off n)

/-- R258: the record is taken from its bytes. -/
def State.recordLoad (s : State) (b : List Byte) : State :=
  let s := (s.setN REC_REPLACED (recField b 16 8)).setN ESTIMATOR_STATUS.LEARNED_CAPACITY (recField b 28 4)
  let s := (s.setN ESTIMATOR_STATUS.RESISTANCE (recField b 32 4)).setN REC_CAP_N (recField b 36 2)
  let s := (s.setN REC_RES_N (recField b 38 2)).set REC_T_MIN (signedOf 16 (recField b 40 2))
  let s := (s.set REC_T_MAX (signedOf 16 (recField b 42 2))).set REC_V_MIN (signedOf 32 (recField b 44 4))
  let s := (s.set REC_V_MAX (signedOf 32 (recField b 48 4))).set REC_I_MAX (signedOf 32 (recField b 52 4))
  let s := (s.set REC_I_MIN (signedOf 32 (recField b 56 4))).setN REC_IN (1000000 * recField b 60 8)
  let s := (s.setN REC_OUT (1000000 * recField b 68 8)).setN REC_UNBINNED (recField b 76 4)
  let s := forBelow 256 (fun i s => s.setN (REC_GRID i) (recField b (80 + 4 * i) 4)) s
  forBelow 32 (fun i s => s.setN (REC_HIST i) (recField b (1104 + 4 * i) 4)) s

/-- The copy of the record that the device uses, if one passes: that with the highest SEQUENCE. -/
def State.newestCopy (s : State) : Option Nat :=
  let a := s.nat (STORE_SEQ 0)
  let b := s.nat (STORE_SEQ 1)
  if a = 0 && b = 0 then none else some (if b ≤ a then 0 else 1)

/-- R255: the states of charge restored from a source. A source that holds "not available" restores just that, and the next
rest or full charge is the first (log entry 77). -/
def State.estRestore (s : State) (soci : Int) (soc source : Nat) : State :=
  (((s.set EST_SOCI (65536 * soci)).setN EST_SOC (65536 * soc)).setN ESTIMATOR_STATUS.SOC_SOURCE source).setFlag EST_NA
    (soc == 0xFFFF)

/-- R255, R258: the record and the states of charge at an opening; `retained` says that the retained copy is valid. -/
def State.estOpening (s : State) (retained : Bool) : State :=
  let copy := if s.flag STORE_OFF then none else s.newestCopy
  let s := match copy with
    | some c =>
      ((s.recordLoad (s.blob (STORE_COPY c))).setN BATTERY_RECORD.SEQUENCE (s.nat (STORE_SEQ c))).setN STORE_SIDE (1 - c)
    | none =>
      let s := s.recordEmpty
      if s.flag STORE_OFF then s
      else s.raiseEst .BATTERY_RECORD_INVALID [f32 (s.nat (STORE_SEQ 0)), f32 (s.nat (STORE_SEQ 1))]
  let s := ((s.setEstFlag EFLAG.ANCHOR false).set EST_QE 0).setN STORE_AT s.time
  let s :=
    if retained then s.estRestore (s.get RET_SOCI) (s.nat RET_SOC) 1
    else match copy with
      | some c =>
        let b := s.blob (STORE_COPY c)
        (s.estRestore (signedOf 16 (recField b 24 2)) (recField b 26 2) 2).setEstFlag EFLAG.UNCERTAIN true
      | none => s.setN ESTIMATOR_STATUS.SOC_SOURCE 0
  let s := s.estPublish
  s.raiseEst .SOC_RESTORED [f8 (s.get ESTIMATOR_STATUS.SOC_SOURCE), f16 s.socInternal]

/-- R261: BATTERY_REPLACED lands. -/
def State.batteryReplaced (s : State) : State :=
  let cap := s.get ESTIMATOR_STATUS.LEARNED_CAPACITY
  let soh := s.get ESTIMATOR_STATUS.SOH_RESISTANCE
  let s := (s.recordEmpty.setN REC_REPLACED s.stamp).setEstFlag EFLAG.ANCHOR false
  let s := (s.setN ESTIMATOR_STATUS.SOC_SOURCE 0).estPublish
  let s := ((s.set RET_SOCI (notAvailable .i16)).set RET_SOC (notAvailable .u16)).setN RET_CAPACITY 0
  s.recordWrite.raiseEst .BATTERY_REPLACED [f32 cap, f16 soh]

/-! ### Rows -/

def execSigmaSample (code : Int) (s : State) : Host.Outcome State Fault Refusal := .next (s.sigmaSample code)
def execEstimatorUpdate (s : State) : Host.Outcome State Fault Refusal := .next s.estimatorUpdate
def execLongRest (s : State) : Host.Outcome State Fault Refusal := .next s.longRest
def execResistanceSample (v i : Int) (s : State) : Host.Outcome State Fault Refusal := .next (s.resistanceSample v i)
def execRecordStorePeriodicWrite (s : State) : Host.Outcome State Fault Refusal := .next s.storePeriodic
def execBatteryRecordWritten (s : State) : Host.Outcome State Fault Refusal := .next s.recordWritten

end Sys2Proof.Machine
end

