-- ==== Sys2Proof/Machine/Plans.lean ====
section
/-!
DEFINITION. The Opening plan (p = 0) and the Endgame plan (p = 1): steps, evaluation, stalemate, discharge, starting and
ending (R156 to R167, R182). Steps are counted from 1; step i of plan p has the instance 128 p + i - 1.
-/
namespace Sys2Proof.Machine

/-- The address of a register of plan p, from that of the Opening plan. -/
def ofPlan (p k : Nat) : Nat := k + 2048 * p

/-- The word of step i of plan p (R156). -/
def State.stepWord (s : State) (p i : Nat) : Nat := s.nat (ofPlan p (OPENING_STEPS.STEP (i - 1)))

/-- The state of step i of plan p: 0 pending, 1 delaying, 2 acting, 3 done, 4 skipped, 5 held, 6 not run. -/
def State.stepState (s : State) (p i : Nat) : Nat := s.nat (ofPlan p (OPENING_STEP_STATE.STATE (i - 1)))

/-- The state of step i put. -/
def State.setStep (s : State) (p i st : Nat) : State := s.setN (ofPlan p (OPENING_STEP_STATE.STATE (i - 1))) st

/-- The instance of step i of plan p. -/
def stepOf (p i : Nat) : Nat := 128 * p + i - 1

/-! ### The step layout (R156) -/

abbrev SW.timeout (w : Nat) : Nat := field w 0 16
abbrev SW.delay (w : Nat) : Nat := field w 16 16
abbrev SW.rso (w : Nat) : Nat := field w 32 4
abbrev SW.depMode (w : Nat) : Nat := field w 36 1
abbrev SW.policy (w : Nat) : Nat := field w 37 2
abbrev SW.action (w : Nat) : Nat := field w 39 3
abbrev SW.group (w : Nat) : Nat := field w 42 6
abbrev SW.depB (w : Nat) : Nat := field w 48 8
abbrev SW.depA (w : Nat) : Nat := field w 56 8

/-- R157, R158: the dependencies of step i: those it names, or the step before it. -/
def State.stepDeps (s : State) (p i : Nat) : List Nat :=
  let w := s.stepWord p i
  if SW.depA w = 0 then (if i = 1 then [] else [i - 1])
  else (if SW.depA w = 0xFF then [] else [SW.depA w]) ++ (if SW.depB w = 0 then [] else [SW.depB w])

/-- R158: the dependencies that step i waits for: none where it is ready from the start of the plan. -/
def State.stepWaits (s : State) (p i : Nat) : List Nat :=
  if SW.depA (s.stepWord p i) = 0xFF then [] else s.stepDeps p i

/-- Whether plan p runs. -/
def State.planRuns (s : State) (p : Nat) : Bool :=
  let st := s.nat (ofPlan p OPENING_PLAN.PLAN_STATE)
  st == 1 || st == 2

/-- A message of plan p at step i, 0 for the whole plan (R182). -/
def State.raisePlan (s : State) (k : Kind) (p i : Nat) (fields : List (Nat × Int)) : State :=
  s.raise k (siteBlock 0x7F (p + 1) i) 0 0 (f8 (p + 1) :: fields)

/-! ### Members and conditions (R161, R164) -/

/-- Whether channel n is held under trump. -/
def State.trumpHeld (s : State) (n : Nat) : Bool :=
  s.bit (TENANT.TRUMP_HELD (s.holderOfChannel n) (n / 64)) (n % 64)

/-- The numbers whose bits are set in a mask of 512. -/
def membersOf (mask : Nat) : List Nat := (List.range 512).filter fun n => mask.testBit n

/-- The mask of a list of channels. -/
def maskOf (l : List Nat) : Nat := l.foldl (fun m n => m ||| 2 ^ n) 0

/-- R14, R159: STATE of channel n as the control die holds it: event blocks bring each change while the link is up. -/
def State.seenState (s : State) (n : Nat) : Nat :=
  if s.linkUp (dieOf n) then s.nat (CHANNEL_STATUS.STATE n) else s.nat (SEEN n) % 16

/-- R159: GOOD of channel n as the control die holds it. -/
def State.seenGood (s : State) (n : Nat) : Bool := if s.linkUp (dieOf n) then s.isGood n else 16 ≤ s.nat (SEEN n)

/-- R161: whether member n meets the done condition of an action of group g now. -/
def State.stepMeets (s : State) (action g n : Nat) : Bool :=
  let st := s.seenState n
  match action with
  | 1 => st == ST.ON
  | 2 => st == ST.OFF || st == ST.LOCKOUT
  | 3 => s.seenGood n
  | _ =>
    let v := s.get (CHANNEL_STATUS.V_MEAN n)
    v != notAvailable .i32 && v < s.get (SEQ_GROUP.DISCHARGE_LEVEL g)

/-- The members of the snapshot that meet the condition at this evaluation; a discharged member stays discharged (R164). -/
def State.metNow (s : State) (p i : Nat) : Nat :=
  let w := s.stepWord p i
  let j := stepOf p i
  maskOf ((membersOf (s.nat (STEP_SNAP j))).filter fun n =>
    s.stepMeets (SW.action w) (SW.group w) n || (SW.action w == 4 && s.bit (STEP_MET j) n))

/-! ### Ends of steps and plans (R163, R166) -/

/-- A step ends, done (3) or skipped (4), or makes progress: the steps that wait for it learn of it at this time. -/
def State.stepMoved (s : State) (p i : Nat) : State := s.setN (STEP_MOVED_AT (stepOf p i)) (s.time + 1)

/-- A step is skipped for a cause: 1 stalemate, 2 dependency, 3 resolved. -/
def State.stepSkip (s : State) (p i cause : Nat) : State :=
  let s := ((s.setStep p i 4).stepMoved p i).count (ofPlan p OPENING_PLAN.SKIPPED_STEPS) 0xFF
  s.raisePlan .STEP_SKIPPED p i [f8 i, f8 cause]

/-- R166: plan p ends with a result, 6 in the record only; the steps left become not run. -/
def State.planEnd (s : State) (p result : Nat) : State :=
  let n := s.nat (ofPlan p OPENING_PLAN.STEP_COUNT)
  let s := forBelow n (fun i s =>
    if s.stepState p (i + 1) = 3 || s.stepState p (i + 1) = 4 then s else s.setStep p (i + 1) 6) s
  let s := s.setN (ofPlan p OPENING_PLAN.PLAN_STATE) 3
  let s := if result = 6 then s else s.setN (ofPlan p OPENING_PLAN.RESULT) result
  let s := s.setN (ofPlan p OPENING_PLAN.END_FRAME) s.frameNumber
  let s := s.raisePlan .PLAN_ENDED p 0 [f8 result, f16 (s.get (ofPlan p OPENING_PLAN.SKIPPED_STEPS))]
  if p = 1 && (result = 1 || result = 2) then
    let s := s.storeTrips.recordWrite
    if s.nat ENDGAME_PLAN.END_ACTION = 1 && !s.flag BACKUP_LOCKED then s.pon false 5 else s
  else s

/-- R163: ABORT, a house stop or a reset ends plan p if it runs. -/
def State.planAbort (s : State) (p result : Nat) : State := if s.planRuns p then s.planEnd p result else s

/-! ### Acting (R161) -/

/-- A REQUEST write of a plan: a write by the holder that goes out in the downlink of this frame. -/
def State.planRequest (s : State) (n v : Nat) : State :=
  (s.setN (CHANNEL_CONFIG.REQUEST n) v).land (s.holderOfChannel n) (s.dieDelay (dieOf n) - 1)
    (.value (CHANNEL_CONFIG.REQUEST n) v)

/-- R161: the snapshot of a step, with a record for each member it leaves out. -/
def State.takeSnapshot (s : State) (p i : Nat) : State :=
  let all := s.members (SW.group (s.stepWord p i))
  let s := forEach (all.filter fun n => s.trumpHeld n)
    (fun n s => s.raisePlan .PLAN_MEMBER_EXCLUDED p i [f8 i, f16 n]) s
  (s.setN (STEP_SNAP (stepOf p i)) (maskOf (all.filter fun n => !s.trumpHeld n))).setN (STEP_MET (stepOf p i)) 0

/-- R161: REQUEST := 1 of an ON step on member n; a channel in PWM or LIMIT keeps that state. -/
def State.planOn (s : State) (n : Nat) : State :=
  if s.seenState n = ST.PWM || s.seenState n = ST.LIMIT then s else s.planRequest n 1

/-- Whether a dependency of step i is delaying or acts on WAIT_DISCHARGED (R162). -/
def State.depsPause (s : State) (p i : Nat) : Bool :=
  (s.stepDeps p i).any fun d =>
    s.stepState p d == 1 || (s.stepState p d == 2 && SW.action (s.stepWord p d) == 4)

/-- R161, R162: step i acts, and its timer runs from now. -/
def State.stepAct (s : State) (p i : Nat) : State :=
  let w := s.stepWord p i
  let j := stepOf p i
  let s := ((s.setStep p i 2).setN (STEP_ACT_AT j) s.time).setN (STEP_AGAIN j) 0
  let s := ((s.setN (STEP_SPENT j) 0).setN (STEP_SEEN_AT j) s.time).setFlag (STEP_RUNS j)
    (SW.action w != 4 && !s.depsPause p i)
  if SW.action w = 5 || SW.action w = 6 then
    let v := if SW.action w = 5 then 1 else 0
    ((s.setN (STEP_SNAP j) 0).setN (RESET_OUTPUT.FORCE (SW.rso w)) v).land 0 1 (.value (RESET_OUTPUT.FORCE (SW.rso w)) v)
  else
    let s := s.takeSnapshot p i
    if s.nat (STEP_SNAP j) = 0 then (s.setStep p i 3).stepMoved p i
    else
      match SW.action w with
      | 1 => forEach (membersOf (s.nat (STEP_SNAP j))) (fun n s => s.planOn n) s
      | 2 => forEach (membersOf (s.nat (STEP_SNAP j))) (fun n s => s.planRequest n 0) s
      | _ => s

/-! ### The stalemate timer (R162) -/

/-- The timer of step i at an evaluation: what it has run since the last one counts, and a progress event restarts it. -/
def State.stepTimer (s : State) (p i : Nat) (progress : Bool) : State :=
  let j := stepOf p i
  let spent := s.nat (STEP_SPENT j) + (if s.flag (STEP_RUNS j) then s.time - s.nat (STEP_SEEN_AT j) else 0)
  let runs := (s.stepState p i == 0 || (s.stepState p i == 2 && SW.action (s.stepWord p i) != 4)) && !s.depsPause p i
  let s := (s.setN (STEP_SPENT j) (if progress then 0 else spent)).setN (STEP_SEEN_AT j) s.time
  let s := s.setFlag (STEP_RUNS j) runs
  if progress then s.stepMoved p i else s

/-! ### Evaluation (R158 to R160) -/

/-- R158: whether step i is skipped with a dependency of it. -/
def State.depSkipped (s : State) (p i : Nat) : Bool :=
  SW.depMode (s.stepWord p i) == 1 && (s.stepDeps p i).any fun d => s.stepState p d == 4

/-- A pending step: ready, or waiting. -/
def State.evalPending (s : State) (p i : Nat) : State :=
  let deps := s.stepDeps p i
  let w := s.stepWord p i
  if (s.stepWaits p i).all (fun d => s.stepState p d == 3 || s.stepState p d == 4) then
    let s := s.setN (STEP_READY_AT (stepOf p i)) s.time
    if SW.delay w = 0 then s.stepAct p i else s.setStep p i 1
  else
    let j := stepOf p i
    let spent := s.nat (STEP_SPENT j) + (if s.flag (STEP_RUNS j) then s.time - s.nat (STEP_SEEN_AT j) else 0)
    let moved := deps.any fun d => s.nat (STEP_MOVED_AT (stepOf p d)) == s.time + 1
    ((s.setN (STEP_SPENT j) (if moved then 0 else spent)).setN (STEP_SEEN_AT j) s.time).setFlag (STEP_RUNS j)
      (!s.depsPause p i)

/-- An acting step: done, or going on with its timer. -/
def State.evalActing (s : State) (p i : Nat) : State :=
  let j := stepOf p i
  let w := s.stepWord p i
  if SW.action w = 5 || SW.action w = 6 then
    if s.nat (STEP_ACT_AT j) < s.time then (s.setStep p i 3).stepMoved p i else s
  else
    let met := s.metNow p i
    let progress := met &&& s.nat (STEP_MET j) != met
    let s := s.setN (STEP_MET j) met
    if met = s.nat (STEP_SNAP j) then (s.setStep p i 3).stepMoved p i else s.stepTimer p i progress

/-- One step at an evaluation. A dependency that is skipped skips a step of DEP_MODE 1 that is pending, delaying or acting. -/
def State.evalStep (s : State) (p i : Nat) : State :=
  if s.stepState p i ≤ 2 && s.depSkipped p i then s.stepSkip p i 2
  else
  match s.stepState p i with
  | 0 => s.evalPending p i
  | 1 => if s.flag (STEP_AGAIN (stepOf p i)) then s.stepAct p i else s
  | 2 => s.evalActing p i
  | _ => s

/-- PLAN_STATE as it follows from the steps; the plan ends when every step is done or skipped (R166). -/
def State.planSettle (s : State) (p : Nat) : State :=
  let steps := (List.range (s.nat (ofPlan p OPENING_PLAN.STEP_COUNT))).map (· + 1)
  if steps.all fun i => s.stepState p i == 3 || s.stepState p i == 4 then
    s.planEnd p (if steps.any fun i => s.stepState p i == 4 then 2 else 1)
  else s.setN (ofPlan p OPENING_PLAN.PLAN_STATE) (if steps.any fun i => s.stepState p i == 5 then 2 else 1)

/-- R159: one evaluation of plan p. The ends of delays, stalemates and discharge timeouts are rows of their own at the
same boundary, which evaluate again. -/
def State.planEvaluate (s : State) (p : Nat) : State :=
  if s.planRuns p then
    (forBelow (s.nat (ofPlan p OPENING_PLAN.STEP_COUNT)) (fun i s => s.evalStep p (i + 1)) s).planSettle p
  else s

/-- Whether the present time is that of an evaluation of plan p. -/
def State.planInstant (s : State) (p : Nat) : Bool :=
  s.live && s.time == s.nat LAST_BOUNDARY && s.planRuns p

/-! ### Ends of delays, stalemates, discharge (R160, R162 to R164) -/

/-- R160: the DELAY of step i has passed: it acts at this evaluation. -/
def State.stepDelayEnd (s : State) (p i : Nat) : State :=
  if s.planInstant p && s.stepState p i == 1 &&
      s.nat (STEP_READY_AT (stepOf p i)) + 1000 * SW.delay (s.stepWord p i) ≤ s.time then
    (s.stepAct p i).planEvaluate p
  else s

/-- R162, R163: the timer of step i has reached TIMEOUT at this evaluation. -/
def State.stalemate (s : State) (p i : Nat) : State :=
  let w := s.stepWord p i
  let j := stepOf p i
  if s.planInstant p && (s.stepState p i == 0 || (s.stepState p i == 2 && SW.action w != 4)) &&
      SW.timeout w != 0 && 1000 * SW.timeout w ≤ s.nat (STEP_SPENT j) then
    let short := if s.stepState p i = 2 then
        (membersOf (s.nat (STEP_SNAP j))).length - (membersOf (s.nat (STEP_MET j))).length
      else 0
    let s := s.count (ofPlan p OPENING_PLAN.STALEMATES) 0xFFFF
    let s := s.raisePlan .STALEMATE p i [f8 i, f8 (SW.policy w), f16 short]
    match SW.policy w with
    | 0 => (s.stepSkip p i 1).planEvaluate p
    | 1 => s.planEnd p 3
    | _ => (s.setStep p i 5).planSettle p
  else s

/-- R164: a member is not discharged in time. -/
def State.notDischarged (s : State) (g n : Nat) : State :=
  let s := (s.setBit (WIN n) WFLAG.NOT_DISCHARGED true).setN (ND_GROUP n) (g + 1)
  let s := s.count (CHANNEL_SUPERVISION.DISCHARGE_TIMEOUTS n) 0xFFFF
  s.raiseChannel .NOT_DISCHARGED n 0 0 [f32 (s.get (CHANNEL_STATUS.V_MEAN n)), f32 (s.get (SEQ_GROUP.DISCHARGE_LEVEL g))]

/-- R164: DISCHARGE_TIMEOUT has passed since step i began to act: it is done at this evaluation. -/
def State.dischargeTimeout (s : State) (p i : Nat) : State :=
  let w := s.stepWord p i
  let j := stepOf p i
  if s.planInstant p && s.stepState p i == 2 && SW.action w == 4 &&
      s.nat (STEP_ACT_AT j) + s.nat (SEQ_GROUP.DISCHARGE_TIMEOUT (SW.group w)) ≤ s.time then
    let left := (membersOf (s.nat (STEP_SNAP j))).filter fun n => !(s.metNow p i).testBit n
    let s := forEach left (fun n s => s.notDischarged (SW.group w) n) s
    ((s.setStep p i 3).stepMoved p i).planEvaluate p
  else s

/-! ### Commands (R163, R165 to R167) -/

/-- R165, R167: plan p begins. Endgame ends a running Opening plan with result 5. -/
def State.planBegin (s : State) (p trigger : Nat) : State :=
  if s.planRuns p || (p == 0 && s.planRuns 1) then s
  else
    let s := if p = 1 then s.planAbort 0 5 else s
    let s := s.count (ofPlan p OPENING_PLAN.RUNS) 0xFFFF
    let s := forBelow (s.nat (ofPlan p OPENING_PLAN.STEP_COUNT)) (fun i s =>
      let j := stepOf p (i + 1)
      let s := ((s.setStep p (i + 1) 0).setN (STEP_SPENT j) 0).setN (STEP_SEEN_AT j) s.time
      ((s.setN (STEP_RUNS j) 0).setN (STEP_MOVED_AT j) 0).setN (STEP_AGAIN j) 0) s
    let s := (s.setN (ofPlan p OPENING_PLAN.PLAN_STATE) 1).setN (ofPlan p OPENING_PLAN.SKIPPED_STEPS) 0
    let s := s.setN (ofPlan p OPENING_PLAN.START_FRAME) s.frameNumber
    (s.setN (PLAN_TRIGGER p) trigger).raisePlan .PLAN_STARTED p 0
      [f8 trigger, f16 (s.get (ofPlan p OPENING_PLAN.RUNS))]

/-- R163: RESOLVE lands: a held step is skipped (0) or acts again (1). -/
def State.planResolve (s : State) (p op i : Nat) : State :=
  if s.planRuns p && s.stepState p i == 5 then
    if op = 0 then s.stepSkip p i 3 else (s.setStep p i 1).setN (STEP_AGAIN (stepOf p i)) 1
  else s

/-- R167: the selected wake input has been inactive for a time in microseconds: the trigger is taken. -/
def State.endgameTrigger (s : State) (us : Nat) : State :=
  let t := s.nat ENDGAME_PLAN.TRIGGER
  if s.live && t != 0 && t ≤ 8 && !s.planRuns 1 && s.flag (ENDGAME_ARMED (t - 1)) && !s.wakeActive (t - 1) &&
      s.nat ENDGAME_PLAN.TRIGGER_DELAY ≤ us then
    forBelow 8 (fun i s => s.setN (ENDGAME_ARMED i) 0) (s.setN ENDGAME_DUE t)
  else s

/-- R167: at a frame boundary a trigger taken starts Endgame, and an active input arms it. -/
def State.endgameBoundary (s : State) : State :=
  let s := if s.flag ENDGAME_DUE then (s.planBegin 1 (s.nat ENDGAME_DUE)).setN ENDGAME_DUE 0 else s
  let t := s.nat ENDGAME_PLAN.TRIGGER
  if t != 0 && t ≤ 8 && s.wakeActive (t - 1) then s.setN (ENDGAME_ARMED (t - 1)) 1 else s

/-! ### Rows -/

def execStepDelayEnd (p : Fin 2) (i : Fin 128) (s : State) : Host.Outcome State Fault Refusal :=
  .next (s.stepDelayEnd p.val (i.val + 1))
def execStalemate (p : Fin 2) (i : Fin 128) (s : State) : Host.Outcome State Fault Refusal :=
  .next (s.stalemate p.val (i.val + 1))
def execDischargeTimeout (p : Fin 2) (i : Fin 128) (s : State) : Host.Outcome State Fault Refusal :=
  .next (s.dischargeTimeout p.val (i.val + 1))
def execEndgameTrigger (us : Nat) (s : State) : Host.Outcome State Fault Refusal := .next (s.endgameTrigger us)

end Sys2Proof.Machine
end

