-- ==== Sys2Proof/Machine/Aes.lean ====
section
/-!
DEFINITION. AES-128 (FIPS 197), its CMAC (NIST SP 800-38B) truncated to 8 bytes, and the curve check of P-256 (FIPS 186-5),
which the spec names (00_scope.md; R459, R462, R464). PRESUMED (log entry 5): their definitions come from those standards,
not from the spec.
-/
namespace Sys2Proof.Machine

/-- A byte times x in the field of AES. -/
def gfDouble (a : Byte) : Byte := (a <<< 1) ^^^ (if a.getLsbD 7 then 0x1b else 0)

/-- The product of two bytes in the field of AES, over the low n bits of b. -/
def gfMul : Nat → Byte → Byte → Byte
  | 0, _, _ => 0
  | n + 1, a, b => (if b.getLsbD 0 then a else 0) ^^^ gfMul n (gfDouble a) (b >>> 1)

/-- The inverse of a byte, as its power 254 (0 of 0): n more squarings from p, each taken into the product. -/
def gfInverse : Nat → Byte → Byte → Byte
  | 0, _, acc => acc
  | n + 1, p, acc => let q := gfMul 8 p p; gfInverse n q (gfMul 8 acc q)

/-- SubBytes of one byte. -/
def subByte (a : Byte) : Byte :=
  let b := gfInverse 7 a 1
  b ^^^ b.rotateLeft 1 ^^^ b.rotateLeft 2 ^^^ b.rotateLeft 3 ^^^ b.rotateLeft 4 ^^^ 0x63

/-- Two byte strings combined by exclusive or. -/
def xorBytes (a b : List Byte) : List Byte := List.zipWith (· ^^^ ·) a b

/-- The round key that follows round key k; rc is the round constant. -/
def nextRoundKey (k : List Byte) (rc : Byte) : List Byte :=
  let t := ((k.drop 13).take 3 ++ (k.drop 12).take 1).map subByte
  let w0 := xorBytes (k.take 4) (xorBytes t [rc, 0, 0, 0])
  let w1 := xorBytes ((k.drop 4).take 4) w0
  let w2 := xorBytes ((k.drop 8).take 4) w1
  w0 ++ w1 ++ w2 ++ xorBytes (k.drop 12) w2

/-- ShiftRows of a block held column by column. -/
def shiftRows (b : List Byte) : List Byte := (List.range 16).map fun i => b.getD ((i + 4 * (i % 4)) % 16) 0

/-- MixColumns of one column. -/
def mixColumn (c : List Byte) : List Byte :=
  (List.range 4).map fun i =>
    gfDouble (c.getD i 0) ^^^ (gfDouble (c.getD ((i + 1) % 4) 0) ^^^ c.getD ((i + 1) % 4) 0) ^^^
      c.getD ((i + 2) % 4) 0 ^^^ c.getD ((i + 3) % 4) 0

/-- The rounds that remain, n of them, on a block, with the last round key and its constant. -/
def aesRounds : Nat → List Byte → List Byte → Byte → List Byte
  | 0, b, _, _ => b
  | n + 1, b, k, rc =>
    let k := nextRoundKey k rc
    let b := shiftRows (b.map subByte)
    let b := if n = 0 then b else ((groupsOf 4 4 b).map mixColumn).flatten
    aesRounds n (xorBytes b k) k (gfDouble rc)

/-- AES-128 of a 16-byte block under a 16-byte key. -/
def aes (k b : List Byte) : List Byte := aesRounds 10 (xorBytes b k) k 1

/-- A 16-byte block doubled in the field of CMAC. -/
def cmacDouble (b : List Byte) : List Byte :=
  let v := 2 * beNat b
  beBytes 16 (if v < 2 ^ 128 then v else (v - 2 ^ 128) ^^^ 0x87)

/-- The chaining of CMAC over the message in blocks; k1 and k2 are its subkeys. -/
def cmacChain (k k1 k2 : List Byte) (x : List Byte) : List (List Byte) → List Byte
  | [] => x
  | b :: [] =>
    let last :=
      if b.length = 16 then xorBytes b k1 else xorBytes ((b ++ 0x80 :: List.replicate 15 0).take 16) k2
    aes k (xorBytes x last)
  | b :: r => cmacChain k k1 k2 (aes k (xorBytes x b)) r

/-- R462, R464: a TAG: the first 8 bytes of the AES-128-CMAC of a message under a key. -/
def cmac (k m : List Byte) : List Byte :=
  let zero : List Byte := List.replicate 16 0
  let k1 := cmacDouble (aes k zero)
  let blocks := if m.length = 0 then [[]] else groupsOf 16 (m.length / 16 + 1) m
  (cmacChain k k1 (cmacDouble k1) zero blocks).take 8

/-- R459: whether 64 bytes, X then Y, big-endian, are a point of P-256: y² = x³ - 3x + b modulo its prime. -/
def onCurve (b : List Byte) : Bool :=
  let p := 0xffffffff00000001000000000000000000000000ffffffffffffffffffffffff
  let c := 0x5ac635d8aa3a93e7b3ebbd55769886bc651d06b0cc53b0f63bce3c3e27d2604b
  let x := beNat (b.take 32)
  let y := beNat (b.drop 32)
  b.length == 64 && decide (x < p) && decide (y < p) && (y * y + 3 * x) % p == (x * x * x + c) % p

end Sys2Proof.Machine
end

