-- ==== Sys2Proof/Machine/Ecc.lean ====
section
/-!
DEFINITION. ECDSA and ephemeral ECDH on P-256 (FIPS 186-5, NIST SP 800-56A), which the spec names (00_scope.md; R452, R456,
R459), and the form of the device certificate (R453). PRESUMED (log entry 5): the curve, the formulas and the layout of X.509
(RFC 5280) come from those standards, not from the spec. Points are in Jacobian coordinates; Z = 0 is the point at infinity.
-/
namespace Sys2Proof.Machine.P256

/-- The prime of the field. -/
def p : Nat := 0xffffffff00000001000000000000000000000000ffffffffffffffffffffffff

/-- The order of the base point. -/
def n : Nat := 0xffffffff00000000ffffffffffffffffbce6faada7179e84f3b9cac2fc632551

/-- A point in Jacobian coordinates: (X / Z², Y / Z³). -/
structure Point where
  x : Nat
  y : Nat
  z : Nat
  deriving DecidableEq, Repr

/-- The base point. -/
def base : Point :=
  ⟨0x6b17d1f2e12c4247f8bce6e563a440f277037d812deb33a0f4a13945d898c296,
    0x4fe342e2fe1a7f9b8ee7eb4a7c0f9e162bce33576b315ececbb6406837bf51f5, 1⟩

/-- a - b in the field. -/
def sub (a b : Nat) : Nat := (a + (p - b % p)) % p

/-- A power modulo m, over the given number of bits of the exponent, the highest first. -/
def powMod (m a e : Nat) : Nat → Nat
  | 0 => 1
  | b + 1 =>
    let r := powMod m a (e / 2) b
    let q := r * r % m
    if e % 2 = 1 then q * a % m else q

/-- The inverse modulo a 256-bit prime (Fermat). -/
def inverse (m a : Nat) : Nat := powMod m (a % m) (m - 2) 256

/-- The double of a point. -/
def double (a : Point) : Point :=
  let d := a.z * a.z % p
  let g := a.y * a.y % p
  let b := a.x * g % p
  let w := 3 * sub a.x d * (a.x + d) % p
  let x := sub (w * w) (8 * b)
  ⟨x, sub (w * sub (4 * b) x) (8 * (g * g % p)), 2 * a.y * a.z % p⟩

/-- The sum of two points. -/
def add (a b : Point) : Point :=
  if a.z = 0 then b
  else if b.z = 0 then a
  else
    let za := a.z * a.z % p
    let zb := b.z * b.z % p
    let ua := a.x * zb % p
    let ub := b.x * za % p
    let sa := a.y * b.z % p * zb % p
    let sb := b.y * a.z % p * za % p
    let h := sub ub ua
    let r := sub sb sa
    if h = 0 then (if r = 0 then double a else ⟨1, 1, 0⟩)
    else
      let hh := h * h % p
      let hhh := h * hh % p
      let v := ua * hh % p
      let x := sub (sub (r * r) hhh) (2 * v)
      ⟨x, sub (r * sub v x) (sa * hhh), h * a.z % p * b.z % p⟩

/-- k times a point, over the given number of bits of k, the highest first. -/
def times (a : Point) (k : Nat) : Nat → Point
  | 0 => ⟨1, 1, 0⟩
  | b + 1 =>
    let t := double (times a (k / 2) b)
    if k % 2 = 1 then add t a else t

/-- The affine coordinates of a point. -/
def affine (a : Point) : Nat × Nat :=
  let i := inverse p a.z
  let ii := i * i % p
  (a.x * ii % p, a.y * ii % p * i % p)

/-- A scalar from 1 to n - 1 from any number. -/
def scalar (v : Nat) : Nat := 1 + v % (n - 1)

/-- A key, X then Y, each 32 bytes big-endian. -/
def keyBytes (a : Nat × Nat) : List Byte := beBytes 32 a.1 ++ beBytes 32 a.2

/-- The public key of a private one. -/
def publicOf (d : Nat) : List Byte := keyBytes (affine (times base d 256))

/-- The point that 64 bytes spell. -/
def ofBytes (b : List Byte) : Point := ⟨beNat (b.take 32), beNat (b.drop 32), 1⟩

/-- ECDSA: the signature of a 32-byte hash by private key d with nonce k: r then s, each 32 bytes big-endian. -/
def sign (d k : Nat) (hash : List Byte) : List Byte :=
  let r := (affine (times base k 256)).1 % n
  beBytes 32 r ++ beBytes 32 (inverse n k * (beNat hash + r * d) % n)

/-- ECDH: the X coordinate of the point shared by a private key and a public one. -/
def shared (d : Nat) (key : List Byte) : List Byte := beBytes 32 (affine (times (ofBytes key) d 256)).1

end Sys2Proof.Machine.P256

namespace Sys2Proof.Machine

/-! ### The keys of the device (R452, R458, R459) -/

/-- The private key of the device. -/
def deviceKey : Nat := P256.scalar Config.deviceKey

/-- R452: DEVICE_PUBLIC_KEY. -/
def devicePublicKey : List Byte := P256.publicOf deviceKey

/-- R456, R459: the n-th signature by the device key, over a 32-byte hash. -/
def deviceSign (n : Nat) (hash : List Byte) : List Byte := P256.sign deviceKey (P256.scalar (Config.nonce n)) hash

/-- R459: the n-th ephemeral private key of the device. -/
def ephemeralKey (n : Nat) : Nat := P256.scalar (Config.ephemeralKey n)

/-! ### The certificate (R453) -/

/-- The length octets of DER. -/
def derLength (n : Nat) : List Byte :=
  if n < 128 then beBytes 1 n else if n < 256 then [0x81] ++ beBytes 1 n else [0x82] ++ beBytes 2 n

/-- A DER element: its tag, its length and its contents. -/
def der (tag : Byte) (b : List Byte) : List Byte := tag :: derLength b.length ++ b

/-- A number as capital hexadecimal digits. -/
def hexDigits (w v : Nat) : List Byte :=
  (List.range w).map fun i => let d := v / 16 ^ (w - 1 - i) % 16; BitVec.ofNat 8 (if d < 10 then 48 + d else 55 + d)

/-- ecdsa-with-SHA256. -/
def derAlgorithm : List Byte := [0x30, 0x0A, 0x06, 0x08, 0x2A, 0x86, 0x48, 0xCE, 0x3D, 0x04, 0x03, 0x02]

/-- The subject public key: an elliptic-curve key on P-256, uncompressed. -/
def derSubjectKey : List Byte :=
  der 0x30 ([0x30, 0x13, 0x06, 0x07, 0x2A, 0x86, 0x48, 0xCE, 0x3D, 0x02, 0x01, 0x06, 0x08, 0x2A, 0x86, 0x48, 0xCE, 0x3D, 0x03,
    0x01, 0x07] ++ der 0x03 (0x00 :: 0x04 :: devicePublicKey))

/-- The subject: a serial number attribute that is SERIAL in 16 digits, and what else the maker names. -/
def derSubject : List Byte :=
  der 0x30 (der 0x31 (der 0x30 ([0x06, 0x03, 0x55, 0x04, 0x05] ++ der 0x13 (hexDigits 16 Config.serial))) ++
    Config.certificateSubject.take 200)

/-- R453: CERTIFICATE: version 3, its number, the algorithm, the issuer, the validity, the subject, the device key and the
extensions; then the algorithm and the signature of the certification authority. What the maker chooses is of the device. -/
def deviceCertificate : List Byte :=
  der 0x30 (der 0x30 ([0xA0, 0x03, 0x02, 0x01, 0x02] ++ der 0x02 (Config.certificateNumber.take 20) ++ derAlgorithm ++
      der 0x30 (Config.certificateIssuer.take 200) ++ der 0x30 (Config.certificateValidity.take 34) ++ derSubject ++ derSubjectKey ++
      der 0xA3 (der 0x30 (Config.certificateExtensions.take 250))) ++
    derAlgorithm ++ der 0x03 (0x00 :: Config.certificateSignature.take 72))

end Sys2Proof.Machine
end

