-- ==== Sys2Proof/Machine/Operands.lean ====
section
/-!
DEFINITION. The operand of an access: the value bytes of an object (R31), the outcomes of a check (R33), who may write
what (R32, R69, R74, R75), and the checks of existence, access, size and range in the order of R33.
-/
namespace Sys2Proof.Machine

/-- R33: why an access is refused. -/
inductive Abort where
  | noObject | noSubindex | writeOnly | readOnly | notPermitted | lengthMismatch
  | tooHigh | tooLow | outOfRange | stagingFull | deviceState
  deriving DecidableEq, Repr

/-- R33: the CANopen abort code of an outcome. -/
def Abort.code : Abort → Nat
  | .noObject => 0x06020000
  | .noSubindex => 0x06090011
  | .writeOnly => 0x06010001
  | .readOnly => 0x06010002
  | .notPermitted => 0x06010000
  | .lengthMismatch => 0x06070010
  | .tooHigh => 0x06090031
  | .tooLow => 0x06090032
  | .outOfRange => 0x06090030
  | .stagingFull => 0x05040005
  | .deviceState => 0x08000022

/-- The first refusal of two checks made in order. -/
def orElse (a b : Option Abort) : Option Abort :=
  match a with
  | some x => some x
  | none => b

/-- A check that refuses where its condition holds. -/
def refuseIf (b : Bool) (a : Abort) : Option Abort := if b then some a else none

/-! ### Values -/

/-- R31: the size of a type in bytes; 0 for strings and domains, which carry their own length. -/
def Ty.size : Ty → Nat
  | .bool | .u8 => 1
  | .u16 | .i16 => 2
  | .u32 | .i32 => 4
  | .u64 | .i64 => 8
  | .str | .octets | .domain => 0

/-- Whether a type is signed. -/
def Ty.signed : Ty → Bool
  | .i16 | .i32 | .i64 => true
  | _ => false

/-- Whether a type is a string or a domain. -/
def Ty.isString : Ty → Bool
  | .str | .octets | .domain => true
  | _ => false

/-- The value that bytes of a type spell (R31). -/
def Ty.decode (t : Ty) (b : List Byte) : Int :=
  if t.signed then signedOf (8 * t.size) (ofLE b) else (ofLE b : Int)

/-- The bytes of a value of a type (R31). -/
def Ty.encode (t : Ty) (v : Int) : List Byte := leInt t.size v

/-- R33, R31: the size check of a write. -/
def Sub.sizeOk (r : Sub) (b : List Byte) : Bool :=
  if r.ty.isString then
    match r.rng with
    | .len lo hi => lo ≤ b.length && b.length ≤ hi
    | _ => true
  else b.length == r.ty.size

/-- R33: the range check of a numeric value. A value outside an "a to b" range is too low or too high; one outside an
enumerated set, or with a reserved bit set, is out of range (log entry 10). -/
def Sub.rangeCheck (r : Sub) (v : Int) : Option Abort :=
  if r.ty = .bool && v != 0 && v != 1 then some .outOfRange
  else
    match r.rng with
    | .any | .len _ _ => none
    | .span lo hi => if v < lo then some .tooLow else refuseIf (hi < v) .tooHigh
    | .spanOr cs lo hi =>
      if cs.contains v then none
      else if v < lo then some .tooLow else refuseIf (hi < v) .tooHigh
    | .oneOf cs => refuseIf (!cs.contains v) .outOfRange
    | .mask m => refuseIf (v.toNat &&& m != v.toNat) .outOfRange

/-! ### Endpoints and tenants -/

/-- R65: the ENDPOINT value of an endpoint. -/
def endpointCode : Endpoint → Nat
  | .can p node => (p.val + 1) * 4096 + node % 256
  | .spi cs => 3 * 4096 + cs % 256
  | .pcie f => 4 * 4096 + f.val
  | .twoWire a => 5 * 4096 + a % 256

/-- R65: an ENDPOINT value is legal. -/
def endpointLegal (v : Nat) : Bool :=
  let port := v / 4096
  let a := v % 256
  v / 256 % 16 == 0 &&
    (match port with
     | 0 => a == 0
     | 1 | 2 => 1 ≤ a && a ≤ 0x7F
     | 3 | 4 => a ≤ 3
     | 5 => 0x08 ≤ a && a ≤ 0x77
     | _ => false)

/-- The tenant attached to an endpoint, admitted or not. -/
def State.attachedTo (s : State) (code : Nat) : Option Nat :=
  if code = 0 then none else (List.range 16).find? fun t => s.nat (TENANT.ENDPOINT t) == code

/-- R65, R67: the admitted tenant that an endpoint carries. -/
def State.tenantAt (s : State) (ep : Endpoint) : Option Nat :=
  match s.attachedTo (endpointCode ep) with
  | none => none
  | some t => if s.admitted t then some t else none

/-- The CAN port, 0 or 1, that a tenant is attached to. -/
def State.canPortOf (s : State) (t : Nat) : Option Nat :=
  match s.nat (TENANT.ENDPOINT t) / 4096 with
  | 1 => some 0
  | 2 => some 1
  | _ => none

/-! ### Who may write -/

/-- R349: the stream whose descriptor range holds descriptor d. -/
def State.streamOfDescriptor (s : State) (d : Nat) : Option Nat :=
  (List.range 32).find? fun x =>
    s.nat (STREAM.DESC_BASE x) ≤ d && d < s.nat (STREAM.DESC_BASE x) + s.nat (STREAM.DESC_COUNT x)

/-- R368: the tenant that PDO_OWNER names for a PDO object. -/
def State.pdoOwner (s : State) (idx : Nat) : Nat :=
  let i := idx % 0x200
  if idx < 0x1800 then
    if i < 32 then s.nat (PDO_OWNER.RPDO_CAN0 i) else s.nat (PDO_OWNER.RPDO_CAN1 (i - 32))
  else
    if i < 64 then s.nat (PDO_OWNER.TPDO_CAN0 i) else s.nat (PDO_OWNER.TPDO_CAN1 (i - 64))

/-- The tenant whose hand holds the resource of an own object (R32, R69). -/
def State.ownerOf (s : State) (addr : Nat) : Nat :=
  let idx := addr / 256
  let sub := addr % 256
  if idx = 0x1017 then sub - 1
  else if idx < 0x2000 then s.pdoOwner idx
  else if 0x2910 ≤ idx && idx < 0x2950 then s.holderOfTarget (idx - 0x2910)
  else if 0x2A10 ≤ idx && idx < 0x2A30 then s.holderOfStream (idx - 0x2A10)
  else if 0x2A40 ≤ idx && idx < 0x2A60 then
    match s.streamOfDescriptor (32 * (idx - 0x2A40) + (sub - 1) / 4) with
    | some d => s.holderOfStream d
    | none => 0
  else if 0x2D10 ≤ idx && idx < 0x2D20 then s.holderOfLane (idx - 0x2D10)
  else if 0x2D00 ≤ idx && idx < 0x2E00 then s.holderOfConverter (idx % 4)
  else if idx = 0x2E10 then s.holderOfConverter 2
  else if 0x2E00 ≤ idx && idx < 0x2F00 then s.holderOfConverter 1
  else if 0x3000 ≤ idx && idx < 0x3800 then s.holderOfChannel (idx % 0x200)
  else if idx < 0x3820 then s.nat (BANK.CAPTURE_OWNER ((idx - 0x3800) / 8 * 8))
  else if idx < 0x3830 then s.holderOfBudget (idx - 0x3820)
  else if idx < 0x3870 then s.holderOfGroup (idx - 0x3830)
  else if idx < 0x38B0 then s.holderOfPair (idx - 0x3870)
  else if 0x4000 ≤ idx && idx < 0x6000 then s.holderOfRing (idx - 0x4000)
  else 0

/-- R75: the channel command objects: REQUEST, RELEASE_STANDING and CLEAR_LOCKOUT. -/
def isChannelCommand (addr : Nat) : Bool :=
  let sub := addr % 256
  0x3000 ≤ addr / 256 && addr / 256 < 0x3200 && (sub == 0x01 || sub == 0x10 || sub == 0x11)

/-- R76: whether owner writes to a channel's command objects are refused: its TRUMP_HELD bit is set, or a trump
command for it has been accepted and has not landed. -/
def State.trumpHolds (s : State) (n : Nat) : Bool :=
  s.bit (TENANT.TRUMP_HELD (s.holderOfChannel n) (n / 64)) (n % 64) ||
    s.landing.any fun l =>
      l.tenant == 0 && s.holderOfChannel n != 0 &&
        (match l.act with
         | .value k _ => k == CHANNEL_CONFIG.REQUEST n
         | .action a _ => a == CHANNEL_CONFIG.RELEASE_STANDING n || a == CHANNEL_CONFIG.CLEAR_LOCKOUT n
         | _ => false)

/-- R68: the deal fields of TENANT0 that are read-only there. -/
def readOnlyOnArbiter (addr : Nat) : Bool :=
  let sub := addr % 256
  addr / 256 == 0x2300 &&
    ((0x01 ≤ sub && sub ≤ 0x03) || (0x0A ≤ sub && sub ≤ 0x11) || (0x1A ≤ sub && sub ≤ 0x1C) ||
      (0x1E ≤ sub && sub ≤ 0x21))

/-- R74: what a kibitzer t may write. -/
def State.kibitzerMayWrite (s : State) (t addr : Nat) : Bool :=
  let idx := addr / 256
  addr == TENANT.TENANT_RESET t ||
    (0x2910 ≤ idx && idx < 0x2950 && addr % 256 == 0x04 && s.dealtTarget (idx - 0x2910) == t) ||
    idx == 0x2902 || idx == 0x2313 || idx == 0x2C02 || idx == 0x2801 || idx == 0x2802 ||
    addr == WATCHDOG.ARM t || addr == WATCHDOG.ANSWER t || addr == WATCHDOG.ADJOURN t

/-- Who may write an action object (the Meaning column of its table). -/
def State.mayAct (s : State) (t addr : Nat) : Bool :=
  let idx := addr / 256
  let sub := addr % 256
  if 0x2300 ≤ idx && idx < 0x2310 then
    if sub = 0x05 then t == 0 || t == idx - 0x2300 else t == 0
  else if isChannelCommand addr then
    t == 0 || t == s.holderOfChannel (idx - 0x3000)
  else if 0x3600 ≤ idx && idx < 0x3800 then t == 0 || t == s.holderOfChannel (idx - 0x3600)
  else if 0x3800 ≤ idx && idx < 0x3820 then t == s.nat (BANK.CAPTURE_OWNER (idx - 0x3800))
  else if 0x3870 ≤ idx && idx < 0x38B0 then t == 0 || t == s.holderOfPair (idx - 0x3870)
  else if idx = 0x2E10 then t == s.holderOfConverter 2 || (sub == 0x02 && t == 0)
  else if 0x2910 ≤ idx && idx < 0x2950 then
    t == s.holderOfTarget (idx - 0x2910) || t == s.dealtTarget (idx - 0x2910)
  else if 0x4000 ≤ idx && idx < 0x6000 then t == s.holderOfRing (idx - 0x4000)
  else if 0x2600 ≤ idx && idx < 0x2610 then t == idx - 0x2600
  else if idx = 0x2310 || idx = 0x2312 || idx = 0x2313 || idx = 0x2801 || idx = 0x2802 || idx = 0x2902 || idx = 0x2C02 then
    true
  else t == 0

/-- R32, R74 to R76: whether tenant t may write a value or an action of the row. -/
def State.mayWrite (s : State) (t addr : Nat) (acc : Acc) : Bool :=
  if s.isKibitzer t then s.kibitzerMayWrite t addr
  else
    match acc with
    | .rw => true
    | .arb => t == 0
    | .own =>
      (t == s.ownerOf addr || (t == 0 && isChannelCommand addr)) &&
        !(t != 0 && isChannelCommand addr && s.trumpHolds (addr / 256 - 0x3000))
    | .wo =>
      s.mayAct t addr &&
        !(t != 0 && isChannelCommand addr && s.trumpHolds (addr / 256 - 0x3000))
    | .const | .ro => false

/-- R461: what stays permitted outside an envelope in every AUTH_MODE. -/
def openUnwrapped (addr : Nat) : Bool :=
  let idx := addr / 256
  let sub := addr % 256
  idx == 0x2801 || idx == 0x2802 || (0x2300 ≤ idx && idx < 0x2310 && sub == 0x05) ||
    (0x4000 ≤ idx && idx < 0x6000 && sub == 0x0D) || (0x2910 ≤ idx && idx < 0x2950 && sub == 0x04) ||
    idx == 0x2902 || (0x2600 ≤ idx && idx < 0x2610 && sub == 0x05) || idx == 0x2313 || addr == 0x231201 ||
    idx == 0x2C02

/-- R455: the public objects. -/
def isPublic (addr : Nat) : Bool :=
  let idx := addr / 256
  idx == 0x1000 || idx == 0x1008 || idx == 0x1018 || idx == 0x2800 || idx == 0x2320

/-- How a write reaches the dictionary: plainly; inside an AUTH_WRITE envelope (R462); or through a PCIe doorbell or ring
head, which R461 leaves open. -/
inductive Via where
  | plain | envelope | doorbell
  deriving DecidableEq, Repr

/-- R33: the existence check. -/
def existenceCheck (addr : Nat) : Option Abort :=
  if objectAt (addr / 256) = [] then some .noObject
  else refuseIf (subAt addr).isNone .noSubindex

/-- R33: the access check of a write by the tenant of an endpoint, if it carries an admitted one. What a kibitzer may not
write is not permitted to it, whatever the object's access (R74). A watchdog in use refuses ARM here (R426). -/
def State.accessCheck (s : State) (t : Option Nat) (via : Via) (addr : Nat) (acc : Acc) : Option Abort :=
  match t with
  | none => some .notPermitted
  | some t =>
    if s.isKibitzer t && !s.kibitzerMayWrite t addr then some .notPermitted
    else if acc = .const || acc = .ro || readOnlyOnArbiter addr then some .readOnly
    else if !s.mayWrite t addr acc then some .notPermitted
    else if addr = WATCHDOG.ARM t && s.nat (WATCHDOG.WD_STATE t) != 0 then some .readOnly
    else refuseIf (via == .plain && s.nat (AUTH_POLICY.AUTH_MODE_TN t) != 0 && !openUnwrapped addr) .notPermitted

/-- R33: existence, access, size and range, in that order. -/
def State.writeCheck (s : State) (t : Option Nat) (via : Via) (addr : Nat) (b : List Byte) : Option Abort :=
  orElse (existenceCheck addr)
    (match subAt addr with
     | none => some .noSubindex
     | some r =>
       orElse (s.accessCheck t via addr r.acc)
         (orElse (refuseIf (!r.sizeOk b) .lengthMismatch)
           (if r.ty.isString then none else r.rangeCheck (r.ty.decode b))))

/-- The key of an object address for tenant t: tenant-relative objects have one register for each tenant (R30). -/
def keyOf (t addr : Nat) : Nat :=
  match subAt addr with
  | some r => if r.rel then addr + 16777216 * t else addr
  | none => addr

end Sys2Proof.Machine
end

