-- ==== Sys2Proof/Machine/Rings.lean ====
section
/-!
DEFINITION. The event fabric (chapter 13): the 32-byte record (R327, R333, R334), rings and their overflow (R331 to
R340), delivery targets (R341 to R344) and fences (R345 to R347).
-/
namespace Sys2Proof.Machine

/-! ### Sites (R348) -/

/-- The site of the event fabric. -/
abbrev siteFabric : Nat := 0x02000000
/-- The site of ring q. -/
def siteRing (q : Nat) : Nat := siteFabric + 2 ^ 14 + q
/-- The site of target, or 0x40 + tenant. -/
def siteTarget (c : Nat) : Nat := siteFabric + 2 * 2 ^ 14 + c

/-! ### The record (R327, R328) -/

abbrev RT.EVENT : Nat := 1
abbrev RT.HELD : Nat := 2
abbrev RT.CONTINUATION : Nat := 3
abbrev RT.OVERFLOW : Nat := 4
abbrev RT.FENCE : Nat := 5

abbrev RF.UNTRUSTED : Nat := 128
abbrev RF.CONTINUED : Nat := 64
abbrev RF.FOLLOWS : Nat := 32
abbrev RF.FENCE : Nat := 16
abbrev RF.SHADOW : Nat := 8

/-- R327: the 32 bytes of a record. -/
def Record.bytes (r : Record) : List Byte :=
  leBytes 7 r.stamp ++ leBytes 1 r.seq ++ leBytes 4 r.site ++ leBytes 2 r.kind ++ leBytes 1 r.type ++
    leBytes 1 (r.flags + r.cls) ++ leBytes 4 (r.tenant * 2 ^ 24 + r.obj) ++ padTo 12 r.payload

/-- R333, R334: the bytes of payload fields that fit in `room`, and those of the field that does not fit and of all
after it. -/
def packFields : Nat → List (Nat × Int) → List Byte × List Byte
  | _, [] => ([], [])
  | room, (w, v) :: r =>
    if w ≤ room then
      let p := packFields (room - w) r
      (leInt w v ++ p.1, p.2)
    else ([], ((w, v) :: r).flatMap fun f => leInt f.1 f.2)

/-! ### Ring contents -/

/-- The records in ring q, oldest first. -/
def State.ringRecs (s : State) (q : Nat) : List Record := ((s.rings.find? fun r => r.ring == q).map (·.recs)).getD []

/-- A list of rings with the contents of ring q put at their place in rising order; an empty ring is not listed. -/
def putRing (l : List RingData) (q : Nat) (recs : List Record) : List RingData :=
  l.filter (fun r => r.ring < q) ++ (if recs = [] then [] else [⟨q, recs⟩]) ++ l.filter (fun r => q < r.ring)

/-- Ring q holding the given records. -/
def State.setRing (s : State) (q : Nat) (recs : List Record) : State := { s with rings := putRing s.rings q recs }

/-- COUNT of ring q. -/
def State.ringCount (s : State) (q : Nat) : Nat := (s.ringRecs q).length

/-- CAPACITY of ring q. -/
def State.capacityOf (s : State) (q : Nat) : Nat := s.nat (RING.CAPACITY q)

/-! ### Targets (R341 to R344) -/

abbrev TFL.ARMED : Nat := 0
abbrev TFL.EPISODE : Nat := 1
abbrev TFL.RAISED : Nat := 2
abbrev TFL.HELD : Nat := 3

/-- A bit of TARGET_STATE of target g. -/
def State.tgBit (s : State) (g b : Nat) : Bool := s.bit (TARGET.TARGET_STATE g) b

/-- PENDING of target g. -/
def State.tgPending (s : State) (g : Nat) : Nat :=
  (s.rings.map fun r => (r.recs.filter fun x => x.target == g).length).sum

/-- HEAD of target g: the lowest ring with a record pending for it. -/
def State.tgHead (s : State) (g : Nat) : Nat :=
  ((s.rings.find? fun r => r.recs.any fun x => x.target == g).map (·.ring)).getD 0xFFFF

/-- R344: whether target g is held: by the device, by its holder, or by the kibitzer it is lent to. -/
def State.tgHeld (s : State) (g : Nat) : Bool :=
  s.nat (inForce EVENT_FABRIC.DEVICE_HOLD) == 1 || s.flag (HOLD_STATE.HOLD_TN (s.dealtTarget g)) ||
    s.flag (HOLD_STATE.HOLD_TN (s.holderOfTarget g))

/-- R343: target g raises: an IRQ ball is asserted, or a message is sent, or held while its vector is masked. -/
def State.tgRaise (s : State) (g : Nat) : State :=
  if !s.flag (TARGET.ENABLE g) || s.tgHeld g then s
  else
    let s := (s.setBit (TARGET.TARGET_STATE g) TFL.RAISED true).setBit (TARGET.TARGET_STATE g) TFL.ARMED false
    let s := s.wrapCount (TARGET.RAISES g) 32
    if g < 16 then (s.setN (TG_LOW g) 1).emit (.irq g)
    else if s.flag (MSIX_OPEN g) then s.emit (.msix ((g - 16) / 12) ((g - 16) % 12))
    else s.setN (MSIX_HELD g) 1

/-- R342: whether moderation lets target g raise, if it has not raised in its episode. -/
def State.tgModerated (s : State) (g : Nat) : Bool :=
  s.tgBit g TFL.EPISODE && !s.tgBit g TFL.RAISED &&
    (s.nat (TARGET.MOD_COUNT g) ≤ s.nat (TG_COUNT g) ||
      (s.nat (TARGET.MOD_TIME g) != 0 && s.nat (TG_BEGAN g) + s.nat (TARGET.MOD_TIME g) ≤ s.time))

/-- R342: n records become pending for target g. -/
def State.tgMore (s : State) (g n : Nat) : State :=
  if 64 ≤ g then s
  else
    let s := if s.tgBit g TFL.EPISODE then s
      else ((s.setBit (TARGET.TARGET_STATE g) TFL.EPISODE true).setN (TG_COUNT g) 0).setN (TG_BEGAN g) s.time
    let s := s.setN (TG_COUNT g) (s.nat (TG_COUNT g) + n)
    if s.tgBit g TFL.ARMED || (!s.tgBit g TFL.RAISED && s.nat (TARGET.MOD_COUNT g) ≤ s.nat (TG_COUNT g)) then s.tgRaise g
    else s

/-- R342, R343: episodes with no record pending end. -/
def State.tgSettle (s : State) : State :=
  forBelow 64 (fun g s =>
    if s.tgBit g TFL.EPISODE && s.tgPending g == 0 then
      let s := (s.setBit (TARGET.TARGET_STATE g) TFL.EPISODE false).setBit (TARGET.TARGET_STATE g) TFL.RAISED false
      s.setN (TG_LOW g) 0
    else s) s

/-- R342: an ARM write is accepted. -/
def State.tgArm (s : State) (g : Nat) : State :=
  let s := s.setBit (TARGET.TARGET_STATE g) TFL.ARMED true
  if s.tgPending g = 0 then s else s.tgRaise g

/-- R342: MOD_TIME has passed since the episode of target g began. -/
def State.tgTimeout (s : State) (g : Nat) : State :=
  if s.tgBit g TFL.EPISODE && !s.tgBit g TFL.RAISED && s.nat (TARGET.MOD_TIME g) != 0 &&
      s.nat (TG_BEGAN g) + s.nat (TARGET.MOD_TIME g) ≤ s.time then s.tgRaise g
  else s

/-- R344: a hold on the targets that `excess` names begins or ends; at release each target with pending records that may
raise does so. -/
def State.tgHoldChange (s : State) (excess : Nat → Bool) : State :=
  forBelow 64 (fun g s =>
    if excess g then
      let held := s.tgHeld g
      let s := s.setBit (TARGET.TARGET_STATE g) TFL.HELD held
      if !held && s.tgPending g != 0 && (s.tgBit g TFL.ARMED || s.tgModerated g) then s.tgRaise g else s
    else s) s

/-- R344: HOLD of a tenant. -/
def State.tenantHold (s : State) (t : Nat) (on : Bool) : State :=
  let was := s.flag (HOLD_STATE.HOLD_TN t)
  let s := s.setFlag (HOLD_STATE.HOLD_TN t) on
  let excess := (List.range 64).map fun g => s.dealtTarget g == t || s.holderOfTarget g == t
  let s := s.tgHoldChange fun g => excess.getD g false
  if was = on then s else s.raise .HOLD_CHANGED (siteTarget (0x40 + t)) t 0 [f8 t, f8 (bitOf on)]

/-- R344: DEVICE_HOLD takes effect. -/
def State.deviceHold (s : State) (v : Nat) : State :=
  let was := s.nat (inForce EVENT_FABRIC.DEVICE_HOLD)
  let s := (s.setN (inForce EVENT_FABRIC.DEVICE_HOLD) v).tgHoldChange fun _ => true
  if was = v then s else s.raise .HOLD_CHANGED (siteTarget 0x50) 0 0 [f8 0xFF, f8 v]

/-- R343: ENABLE of target g changes at a boundary. -/
def State.tgEnable (s : State) (g : Nat) (on : Bool) : State :=
  if on then s.setBit (TARGET.TARGET_STATE g) TFL.ARMED true else s.setN (TG_LOW g) 0

/-- R343: the host unmasks the vector of target g: a message held is sent. -/
def State.msixUnmask (s : State) (g : Nat) : State :=
  let held := s.flag (MSIX_HELD g)
  let s := (s.setN (MSIX_OPEN g) 1).setN (MSIX_HELD g) 0
  if held then s.emit (.msix ((g - 16) / 12) ((g - 16) % 12)) else s

/-! ### Placing in one ring (R331, R334, R337, R341) -/

/-- R341: the enabled target of ring q whose turn it is; 64 where it has none. -/
def State.nextTarget (s : State) (q : Nat) : Nat :=
  let l := (List.range 64).filter fun g => s.bit (RING.TARGETS q) g && s.flag (TARGET.ENABLE g)
  match l.find? fun g => s.nat (RING_RR q) < g && s.nat (RING_RR q) != 64 with
  | some g => g
  | none => l.headD 64

/-- The next sequence number of ring q is taken (R331). -/
def State.takeSeq (s : State) (q : Nat) : Nat × State := (s.nat (RING.SEQUENCE q), s.wrapCount (RING.SEQUENCE q) 32)

/-- Records that have a free slot enter ring q, all assigned to one target. -/
def State.enter (s : State) (q : Nat) (recs : List Record) : State :=
  let g := s.nextTarget q
  let s := forEach recs (fun r s =>
    let n := s.takeSeq q
    (n.2.setRing q (s.ringRecs q ++ [{ r with seq := n.1, target := g }])).wrapCount EVENT_FABRIC.RECORDS_PLACED 32) s
  let s := s.setN (RING.HIGH_WATER q) (max (s.nat (RING.HIGH_WATER q)) (s.ringCount q))
  (if g < 64 then s.setN (RING_RR q) g else s).tgMore g recs.length

/-- TIME_UNTRUSTED as a record flag. -/
def State.untrusted (s : State) : Nat := if s.rtcFlag TFLAG.UNTRUSTED then RF.UNTRUSTED else 0

/-- R337: the OVERFLOW marker of ring q takes a free slot, and the episode ends. -/
def State.marker (s : State) (q : Nat) : State :=
  if s.nat (OVF_DROPS q) != 0 && s.ringCount q < s.capacityOf q then
    let payload := leBytes 4 (s.nat (OVF_DROPS q)) ++ leBytes 4 (s.nat (OVF_FIRST q)) ++ leBytes 4 (s.nat (OVF_LAST q))
    let r : Record := ⟨0, s.stamp, siteRing q, Kind.code .RING_OVERFLOW, RT.OVERFLOW, s.untrusted, 0, 0, 0, payload, 64⟩
    (s.setN (OVF_DROPS q) 0).enter q [r]
  else s

/-- The last record of a list gets OVERFLOW_FOLLOWS. -/
def markLast : List Record → List Record
  | [] => []
  | [r] => [{ r with flags := if r.flags.testBit 5 then r.flags else r.flags + RF.FOLLOWS }]
  | r :: l => r :: markLast l

/-- R337: n records of a stamp are dropped at ring q. -/
def State.dropAt (s : State) (q stamp n : Nat) : State :=
  let s := if s.nat (OVF_DROPS q) = 0 then
      (s.setRing q (markLast (s.ringRecs q))).setN (OVF_FIRST q) stamp
    else s
  let s := (s.setN (OVF_DROPS q) (s.nat (OVF_DROPS q) + n)).setN (OVF_LAST q) stamp
  (s.setN (RING.DROPS q) (satTo 0xFFFFFFFF (s.nat (RING.DROPS q) + n))).marker q

/-- R337, R347: records of one message arrive at ring q: placed together, or dropped. A stamp before that of a fence
placed there shows in the FENCE flag. -/
def State.arrive (s : State) (q : Nat) (recs : List Record) : State :=
  if s.capacityOf q = 0 then s
  else
    let s := s.marker q
    let stamp := (recs.head?.map (·.stamp)).getD 0
    if s.ringCount q + recs.length ≤ s.capacityOf q then
      if stamp + 1 < s.nat (RING_FENCE q) then
        (s.setN EVENT_FABRIC.LATE_RECORDS (satTo 0xFFFFFFFF (s.nat EVENT_FABRIC.LATE_RECORDS + recs.length))).enter q (recs.map fun r => { r with flags := r.flags + RF.FENCE })
      else s.enter q recs
    else s.dropAt q stamp recs.length

/-! ### Which rings (R332, R73) -/

/-- R73, R506: whether the filter of ring q may select a site: its hand's, or no hand's; any for a lent ring. The records
of the battery switch lie in the hand that holds CV1 only. -/
def State.ringMaySee (s : State) (q kind site : Nat) : Bool :=
  let t := s.holderOfRing q
  if s.isKibitzer (s.dealtRing q) then true
  else if kind / 256 = 0x08 && site = siteSwitch then s.holderOfConverter 1 == t
  else siteInNoHand site || s.siteInHand t site

/-- R332: whether the filter of ring q passes a record. -/
def State.filterPasses (s : State) (q : Nat) (r : Record) : Bool :=
  s.flag (RING.FILTER_ON q) && (r.site &&& s.nat (RING.SITE_MASK q)) == s.nat (RING.SITE_MATCH q) &&
    (r.kind &&& s.nat (RING.KIND_MASK q)) == s.nat (RING.KIND_MATCH q) && s.nat (RING.MIN_CLASS q) ≤ r.cls &&
    s.bit (RING.TYPES q) (if r.type = RT.HELD then 1 else 0) &&
    (!r.flags.testBit 3 || s.bit (RING.TYPES q) 2) && s.ringMaySee q r.kind r.site

/-- The rings whose FILTER_ON is TRUE, ascending. -/
def State.filterRings (s : State) : List Nat :=
  s.regs.filterMap fun p =>
    if 0x400000 ≤ p.1 && p.1 < 0x600000 && p.1 % 256 == 2 && p.2 != 0 then some (p.1 / 256 - 0x4000) else none

/-- R332: the rings a record goes to: the system rings it is directed to, then those whose filter passes it. -/
def State.ringsFor (s : State) (p : Placing) : List Nat :=
  ((p.direct.filterMap fun t => s.systemRing t) ++ s.filterRings.filter fun q => s.filterPasses q p.record).eraseDups

/-- R334: the continuation of a record. It shares the first record's stamp, and with it TIME_UNTRUSTED and the shadow flag. -/
def continuation (r : Record) (more : List Byte) : Record :=
  { r with type := RT.CONTINUATION, flags := r.flags &&& (RF.UNTRUSTED + RF.SHADOW), cls := 0, payload := more }

/-- A record is placed in every ring it goes to. -/
def State.placeRecord (s : State) (p : Placing) : State :=
  let recs := match p.more with
    | none => [p.record]
    | some b => [{ p.record with flags := p.record.flags + RF.CONTINUED }, continuation p.record b]
  forEach (s.ringsFor p) (fun q s => s.arrive q recs) s

/-- R346: whether records of a stamp wait for a fence. -/
def State.fenceHolds (s : State) (stamp : Nat) : Bool := s.fences.any fun f => f.stamp ≤ stamp

/-- R330, R332, R338, R346: the oldest record that no fence holds back is placed, once the era is set; LONGEST_DETECTION follows, but for records that a
standing die held. -/
def State.recordPlaced (s : State) : State :=
  match s.placing.find? fun p => !s.fenceHolds p.record.stamp && !s.flag ERA_OPEN with
  | none => s
  | some p =>
    let t := if p.record.type = RT.HELD then 0 else s.stamp - p.record.stamp
    let s := s.setN LOAD_MONITOR.LONGEST_DETECTION (max (s.nat LOAD_MONITOR.LONGEST_DETECTION) (satTo 0xFFFFFFFF t))
    ({ s with placing := s.placing.erase p } : State).placeRecord p

/-! ### Draining (R339, R340) -/

/-- How many of the first n records a pop takes: it never ends between a record and its continuation. -/
def popLength : Nat → List Record → Nat
  | _, [] => 0
  | n, r :: l =>
    if r.flags.testBit 6 then (if n < 2 then 0 else match l with | [] => 1 | _ :: l' => 2 + popLength (n - 2) l')
    else if n = 0 then 0 else 1 + popLength (n - 1) l

/-- R339: the records that a pop of up to n returns. -/
def State.popped (s : State) (q n : Nat) : List Record := (s.ringRecs q).take (popLength n (s.ringRecs q))

/-- R339: ring q after a pop of up to n records. -/
def State.afterPop (s : State) (q n : Nat) : State :=
  ((s.setRing q ((s.ringRecs q).drop (popLength n (s.ringRecs q)))).marker q).tgSettle

/-- R339: whether tenant t may pop ring q: its holder, or the kibitzer it is lent to. -/
def State.mayPop (s : State) (t q : Nat) : Bool :=
  if s.isKibitzer t then s.ringInRange t q else s.holderOfRing q == t

/-- R340: FLUSH. -/
def State.flushRing (s : State) (q : Nat) : State := ((s.setRing q []).setN (OVF_DROPS q) 0).tgSettle

/-- R335, R337: a commit has set CAPACITY of ring q: the oldest records are kept, a record and its continuation together. A marker
that waits takes a slot that is free now. -/
def State.ringResize (s : State) (q : Nat) : State :=
  let c := s.capacityOf q
  let l := s.ringRecs q
  if l.length ≤ c then s.marker q
  else
    let n := popLength c l
    let out := l.drop n
    let s := s.setRing q (markLast (l.take n))
    let s := if s.nat (OVF_DROPS q) = 0 then s.setN (OVF_FIRST q) ((out.head?.map (·.stamp)).getD 0) else s
    let s := (s.setN (OVF_DROPS q) (s.nat (OVF_DROPS q) + out.length)).setN (OVF_LAST q) ((out.getLast?.map (·.stamp)).getD 0)
    ((s.setN (RING.DROPS q) (satTo 0xFFFFFFFF (s.nat (RING.DROPS q) + out.length))).marker q).tgSettle

/-- R336: the default CAPACITY of ring q: that of the system ring of an admitted tenant is 64, of Q0000 1,024. -/
def State.defaultCapacity (s : State) (q : Nat) : Nat :=
  if q = 0 then 1024
  else if dealtTenants.any fun t => s.admitted t && s.systemRing t == some q then 64 else 0

/-- R71, R80: ring q is flushed and its sequence number restarts at 0. -/
def State.ringRestart (s : State) (q : Nat) : State :=
  ((s.flushRing q).setN (RING.SEQUENCE q) 0).setN (RING_FENCE q) 0

/-- R71: a ring that moves: flushed, its settings at their defaults. -/
def State.ringMoves (s : State) (q : Nat) : State :=
  let s := ((s.ringRestart q).setN (RING.DROPS q) 0).setN (RING.CAPACITY q) (s.defaultCapacity q)
  let s := ((s.restore (RING.FILTER_ON q)).restore (RING.SITE_MASK q)).restore (RING.SITE_MATCH q)
  let s := ((s.restore (RING.KIND_MASK q)).restore (RING.KIND_MATCH q)).restore (RING.MIN_CLASS q)
  (s.restore (RING.TYPES q)).restore (RING.TARGETS q)

/-- POOL_RESERVED: the sum of the capacities in force; only those that differ from their reset value are listed. -/
def State.poolReserved (s : State) : Nat :=
  ((s.regs.filter fun p => 0x400100 ≤ p.1 && p.1 < 0x600000 && p.1 % 256 == 1).map fun p => p.2.toNat).sum +
    s.capacityOf 0

/-! ### Fences (R345 to R347) -/

/-- The rings that a fence of tenant t with FIRST and COUNT selects. -/
def State.fenceRings (s : State) (t first count : Nat) : List Nat :=
  let base := if t = 0 then 0 else s.nat (TENANT.RING_BASE t)
  let all := if t = 0 then 1 else s.nat (TENANT.RING_COUNT t)
  (List.range (if count = 0 then all else count)).map fun i => base + (if count = 0 then 0 else first) + i

/-- R345: whether a selection leaves the range of tenant t. -/
def State.fenceOutside (s : State) (t first count : Nat) : Bool :=
  count != 0 && (if t = 0 then 1 else s.nat (TENANT.RING_COUNT t)) < first + count

/-- Whether a channel die stands: any of its channels does. -/
def State.dieStands (s : State) (d : Nat) : Bool := (dieChannels d).any fun n => s.standing n

/-- R345, R346: a FENCE write is accepted. Its FIRST and COUNT travel in the fence's id above bit 31. -/
def State.fenceWrite (s : State) (t v : Nat) : State :=
  let awaited := (List.range 4).filter fun d => s.linkUp d && !s.dieStands d
  let excused := ((List.range 4).map fun d => if s.linkUp d && !s.dieStands d then 0 else 2 ^ d).sum
  let s := s.setN (FENCE_CONTROL.FENCE_STAMP t) s.stamp
  { s with fences := s.fences ++ [⟨t, v, s.stamp, awaited, excused⟩] }

/-- R346: die d has reported up to a stamp. -/
def State.fenceReport (s : State) (d stamp : Nat) : State :=
  { s with fences := s.fences.map fun f =>
      if f.stamp ≤ stamp then { f with sources := f.sources.filter (· != d) } else f }

/-- R346: a die whose link is no longer up is excused from every fence that still waits for it. -/
def State.fenceExcuse (s : State) (d : Nat) : State :=
  { s with fences := s.fences.map fun f =>
      if f.sources.contains d then
        { f with sources := f.sources.filter (· != d), excused := putBit f.excused d true } else f }

/-- R330, R346: whether every source has reported or stands, and every record before the fence of the others has been placed. -/
def State.fenceReady (s : State) (f : Fence) : Bool :=
  (f.sources.all fun d => s.dieStands d) && (s.placing.all fun p => f.stamp ≤ p.record.stamp) &&
    (s.collector.all fun m => f.stamp ≤ m.stamp) && !s.flag ERA_OPEN &&
    s.dieMsgs.all fun m => m.msg.held || f.stamp ≤ m.msg.stamp || f.excused.testBit m.die || s.dieStands m.die

/-- R345, R347: the FENCE record of a fence in ring q. -/
def State.placeFence (s : State) (f : Fence) (q : Nat) : State :=
  if s.capacityOf q = 0 then s
  else
    let stands := ((List.range 4).map fun d =>
      if f.excused.testBit d || (f.sources.contains d && s.dieStands d) then 2 ^ d else 0).sum
    let payload := leBytes 4 (f.id % 2 ^ 32) ++ leBytes 1 stands
    let r : Record :=
      ⟨0, f.stamp, siteRing q, Kind.code .FENCE, RT.FENCE, s.untrusted, 0, f.tenant, 0, payload, 64⟩
    let enters := (s.marker q).ringCount q < s.capacityOf q
    let s := s.arrive q [r]
    if enters then s.setN (RING_FENCE q) (f.stamp + 1) else s

/-- R346, R347: the oldest fence is placed when it is ready. -/
def State.fencePlaced (s : State) : State :=
  match s.fences with
  | [] => s
  | f :: r =>
    if s.fenceReady f then
      let rings := s.fenceRings f.tenant (field f.id 48 16) (field f.id 32 16)
      let s := forEach rings (fun q s => s.placeFence f q) { s with fences := r }
      s.setN (FENCE_CONTROL.FENCE_DONE f.tenant) (f.id % 2 ^ 32)
    else s

/-- R347: a tenant reset cancels the tenant's fences that have not been placed. -/
def State.fenceCancel (s : State) (t : Nat) : State := { s with fences := s.fences.filter fun f => f.tenant != t }

/-! ### The era (R329) -/

/-- R329: the tick has wrapped: ERA advances, and its copy in the record store with it. -/
def State.eraAdvanced (s : State) : State :=
  if s.nat ERA_TOLD < s.era then
    let s := (s.setN ERA_TOLD s.era).setN STORE_ERA s.era
    s.raise .ERA_ADVANCED siteFabric 0 0 [f8 s.era]
  else s

/-! ### Rows -/

def execRecordPlaced (s : State) : Host.Outcome State Fault Refusal := .next s.recordPlaced
def execTargetModerationTimeout (g : TargetId) (s : State) : Host.Outcome State Fault Refusal := .next (s.tgTimeout g.val)
def execFencePlaced (s : State) : Host.Outcome State Fault Refusal := .next s.fencePlaced
def execEraAdvanced (s : State) : Host.Outcome State Fault Refusal := .next s.eraAdvanced
def execMsixUnmask (f : Func) (v : Fin 12) (s : State) : Host.Outcome State Fault Refusal :=
  .next (s.msixUnmask (16 + 12 * f.val + v.val))

end Sys2Proof.Machine
end

