-- ==== Sys2Proof/Machine/Watchdog.lean ====
section
/-!
DEFINITION. The tenant watchdogs, their adjournment, and the device watchdog (chapter 19).
-/
namespace Sys2Proof.Machine

/-- R437: the site of WDt; 16 is WDX. -/
def siteWd (t : Nat) : Nat := siteControl + 0x20 * 2 ^ 14 + t

/-- R80: whether a tenant reset of tenant t has been accepted and has not taken effect. -/
def State.resetPending (s : State) (t : Nat) : Bool :=
  s.landing.any fun l => l.tenant == t && (match l.act with | .tenantReset _ => true | _ => false)

/-- R428: the token of the period in progress. -/
def State.wdToken (s : State) (t : Nat) : Nat :=
  crc32c (leBytes 4 (s.nat (WATCHDOG.QUESTION t)) ++ leBytes 4 (s.nat (WD_SEED t)) ++
    leBytes 4 (s.nat (WATCHDOG.ANSWER_COUNT t)))

/-- R427: a period, or an adjournment, of WDt begins at a time. The question is a free value: the random source draws
it. -/
def State.wdPeriod (s : State) (t at_ : Nat) : State :=
  let s := s.setFree (WATCHDOG.QUESTION t) 0 0xFFFFFFFF
  let s := ((s.setN (WD_AT t) at_).setN (WATCHDOG.PERIOD_START t) (s.stampAt at_))
  (((s.setN (WD_ANSWERS t) 0).setN (WD_VALID t) 0).setN (WD_FAILED t) 0).setN (WD_CLOSED t) 0

/-- R431: WDt expires. -/
def State.wdExpire (s : State) (t cause : Nat) : State :=
  let s := (s.setN (WATCHDOG.WD_STATE t) 3).count (WATCHDOG.EXPIRY_COUNT t) 0xFFFF
  let s := s.count (WD_GAIN t) 0xFFFFFFFF
  s.raise .WATCHDOG_EXPIRED (siteWd t) t 0 [f8 t, f8 cause, f32 (s.nat (WATCHDOG.ANSWER_COUNT t))]

/-- R432: whether WDt is judged now: the control die runs, Park has not passed its point of no return, and no reset of the
tenant is pending. -/
def State.wdJudged (s : State) (t : Nat) : Bool :=
  s.live && s.nat PARK_STAGE != 2 && !s.resetPending t

/-- R431: the end of a period of WDt, if it has come. -/
def State.wdPeriodEnd (s : State) (t : Nat) : State :=
  if s.wdJudged t && s.nat (WATCHDOG.WD_STATE t) == 1 && s.nat (WD_AT t) + s.nat (WATCHDOG.PERIOD t) ≤ s.time then
    if s.flag (WD_VALID t) && !s.flag (WD_FAILED t) then s.wdPeriod t (s.nat (WD_AT t) + s.nat (WATCHDOG.PERIOD t))
    else s.wdExpire t (if s.flag (WD_FAILED t) then 1 else 0)
  else s

/-- R433: the end of an adjournment of WDt, if it has come. -/
def State.wdAdjournEnd (s : State) (t : Nat) : State :=
  if s.wdJudged t && s.nat (WATCHDOG.WD_STATE t) == 2 && s.nat (WD_AT t) + s.nat (WD_LEN t) ≤ s.time then
    s.wdExpire t 2
  else s

/-- R427: the closed half of the period of WDt begins. -/
def State.wdClosedHalf (s : State) (t : Nat) : State :=
  if s.nat (WATCHDOG.WD_STATE t) == 1 && s.nat (WD_AT t) + s.nat (WATCHDOG.PERIOD t) / 2 ≤ s.time then
    s.setN (WD_CLOSED t) 1
  else s

/-- What has come due for WDt before a write to it is judged. -/
def State.wdDue (s : State) (t : Nat) : State := ((s.wdPeriodEnd t).wdAdjournEnd t).wdClosedHalf t

/-- R426: the value check of an ARM write, after the access check that refuses a watchdog in use. -/
def armCheck (v : Nat) : Option Abort :=
  let p := v % 2 ^ 32
  if p < 2000 then some .tooLow
  else if 10000000 < p then some .tooHigh
  else refuseIf (p % 2 == 1) .outOfRange

/-- R426: an ARM write is accepted. -/
def State.wdArm (s : State) (t v : Nat) : State :=
  let s := (s.setN (WD_SEED t) (v / 2 ^ 32)).setN (WATCHDOG.PERIOD t) (v % 2 ^ 32)
  let s := ((s.setN (WATCHDOG.WD_STATE t) 1).setN (WATCHDOG.ANSWER_COUNT t) 0).setN (WATCHDOG.WRONG_ANSWERS t) 0
  (s.wdPeriod t s.time).raise .WATCHDOG_ARMED (siteWd t) t 0 [f8 t, f32 (v % 2 ^ 32)]

/-- R430: how an answer is judged: none where it is valid, else its cause code and its refusal. -/
def State.wdJudge (s : State) (t token : Nat) : Option (Nat × Abort) :=
  if s.nat (WATCHDOG.WD_STATE t) = 2 then
    if token = s.wdToken t then none else some (0, .outOfRange)
  else if s.flag (WD_CLOSED t) then some (1, .deviceState)
  else if s.nat (WD_ANSWERS t) != 0 then some (2, .deviceState)
  else if token = s.wdToken t then none else some (0, .outOfRange)

/-- R430: whether an ANSWER is judged at all; it is not while WDt is off or EXPIRED, or a reset of TNt is pending. -/
def State.wdAnswers (s : State) (t : Nat) : Bool :=
  s.wdJudged t && (s.nat (WATCHDOG.WD_STATE t) == 1 || s.nat (WATCHDOG.WD_STATE t) == 2)

/-- R430, R433: the effect of an ANSWER that is judged. -/
def State.wdAnswer (s : State) (t token : Nat) : State :=
  match s.wdJudge t token with
  | none =>
    let s := s.wrapCount (WATCHDOG.ANSWER_COUNT t) 32
    if s.nat (WATCHDOG.WD_STATE t) = 2 then (s.setN (WATCHDOG.WD_STATE t) 1).wdPeriod t s.time
    else (s.setN (WD_VALID t) 1).setN (WD_ANSWERS t) 1
  | some (cause, _) =>
    let s := (s.count (WATCHDOG.WRONG_ANSWERS t) 0xFFFF).raise .WRONG_ANSWER (siteWd t) t 0 [f8 t, f8 cause]
    if s.nat (WATCHDOG.WD_STATE t) = 2 then s.wdExpire t 1
    else (s.setN (WD_FAILED t) 1).setN (WD_ANSWERS t) 1

/-- R433: whether an ADJOURN write is refused as "present device state". -/
def State.adjournRefused (s : State) (t : Nat) : Bool :=
  s.nat (WATCHDOG.WD_STATE t) != 1 || s.flag (WATCHDOG.ADJOURN_USED t) || !s.wdJudged t

/-- R433: an ADJOURN write is accepted. -/
def State.wdAdjourn (s : State) (t ms : Nat) : State :=
  let s := ((s.setN (WATCHDOG.WD_STATE t) 2).setN (WATCHDOG.ADJOURN_USED t) 1).setN (WD_LEN t) (1000 * ms)
  (s.wdPeriod t s.time).raise .WATCHDOG_ADJOURNED (siteWd t) t 0
    [f8 t, f32 ms, f16 (s.nat (TENANT_GENERATION.GEN_TN t))]

/-- R80, R269, R297: WDt is disarmed. -/
def State.wdDisarm (s : State) (t : Nat) : State :=
  let s := ((s.setN (WATCHDOG.WD_STATE t) 0).setN (WATCHDOG.PERIOD t) 0).setN (WATCHDOG.QUESTION t) 0
  let s := ((s.setN (WATCHDOG.ANSWER_COUNT t) 0).setN (WATCHDOG.PERIOD_START t) 0).setN (WATCHDOG.WRONG_ANSWERS t) 0
  ((s.setN (WD_VALID t) 0).setN (WD_FAILED t) 0).setN (WD_ANSWERS t) 0

/-- LIFETIME_EXPIRIES (R436): the stored count plus the gain not yet copied. -/
def State.wdLifetime (s : State) (t : Nat) : Nat := satTo 0xFFFFFFFF (s.nat (WD_STORED t) + s.nat (WD_GAIN t))

/-- WDX_LIFETIME (R436). -/
def State.wdxLifetime (s : State) : Nat := satTo 0xFFFFFFFF (s.nat WDX_STORED + s.nat WDX_GAIN)

/-- R436: step 5 of an opening adds the gains to the counts in the record store. -/
def State.wdCopy (s : State) : State :=
  let s := forBelow 16 (fun t s => (s.setN (WD_STORED t) (s.wdLifetime t)).setN (WD_GAIN t) 0) s
  (s.setN WDX_STORED s.wdxLifetime).setN WDX_GAIN 0

/-- R436: the low-backup flag: the retained counts restart at 0. -/
def State.wdForget (s : State) : State :=
  let s := forBelow 16 (fun t s => (s.setN (WATCHDOG.EXPIRY_COUNT t) 0).setN (WD_GAIN t) 0) s
  (s.setN DEVICE_WATCHDOG.WDX_RESETS 0).setN WDX_GAIN 0

/-- R434: the services serve WDX at the end of a frame. -/
def State.wdxServe (s : State) : State := s.setN WDX_SERVED s.time

/-- R434, R436: WDX expires: what it leaves beside its reset. -/
def State.wdxExpires (s : State) : State :=
  let s := (s.count DEVICE_WATCHDOG.WDX_RESETS 0xFFFF).count WDX_GAIN 0xFFFFFFFF
  s.setN DEVICE_WATCHDOG.LAST_WDX_STAMP s.stamp

/-! ### Rows that time brings -/

def execWatchdogClosedHalf (t : Tenant) (s : State) : Host.Outcome State Fault Refusal := .next (s.wdClosedHalf t.val)
def execWatchdogPeriodEnd (t : Tenant) (s : State) : Host.Outcome State Fault Refusal := .next (s.wdPeriodEnd t.val)
def execAdjournEnd (t : Tenant) (s : State) : Host.Outcome State Fault Refusal := .next (s.wdAdjournEnd t.val)

end Sys2Proof.Machine
end

