-- ==== Sys2Proof/Machine/Deal.lean ====
section
/-!
DEFINITION. The deal as a staged set leaves it (R68 to R70), judged on the state that would follow: check 6 of R40. Each
rule gives the addresses of the objects that break it; LAST_OBJECT is the lowest of them all.
-/
namespace Sys2Proof.Machine

/-- s with values put in their registers, no effect of the change taken. -/
def State.overlay (s : State) (vals : List (Nat × Int)) : State := forEach vals (fun kv s => s.set kv.1 kv.2) s

/-- R44: what the channel dies have missed of sets that took effect, in order of acceptance: the die and its values. -/
def State.missed (s : State) : List (Nat × List (Nat × Int)) :=
  s.landing.filterMap fun l =>
    match l.act with
    | .late d _ vals => some (d, vals)
    | _ => none

/-- Every value that the control die holds and a channel die has yet to apply (R44, R117). -/
def State.unapplied (s : State) : List (Nat × Int) :=
  (s.late.flatMap fun x => x.values) ++ s.missed.flatMap fun x => x.2

/-- The registers as the control die holds them: what channel dies have yet to apply counts as applied (R44, R117). -/
def State.control (s : State) : State := s.overlay s.unapplied

/-- An address where a condition fails. -/
def failIf (b : Bool) (a : Nat) : List Nat := if b then [a] else []

/-- The lowest of a list of addresses. -/
def lowest (l : List Nat) : Option Nat := l.min?

/-- Whether an address is a deal field of a tenant object (R69): endpoint, admission, kibitzer, hand and fold states. -/
def isDealField (addr : Nat) : Bool :=
  0x2300 ≤ addr / 256 && addr / 256 < 0x2310 && (addr % 256 ≤ 3 || (0x0A ≤ addr % 256 && addr % 256 ≤ 0x21))

/-- The pairs of numbers below n, the first below the second. -/
def pairsBelow (n : Nat) : List (Nat × Nat) :=
  (List.range n).flatMap fun u => (List.range u).map fun t => (t, u)

/-- Whether tenant t is attached (R65). -/
def State.attached (s : State) (t : Nat) : Bool := s.nat (TENANT.ENDPOINT t) != 0

/-- Whether the fields of tenant t give it any resource of a hand: channels, groups, pairs, converters, streams. -/
def State.hasHand (s : State) (t : Nat) : Bool :=
  ((List.range 8).any fun k => s.flag (TENANT.CHANNELS t k)) || s.flag (TENANT.BUDGET_GROUPS t) ||
    s.flag (TENANT.SEQ_GROUPS t) || s.flag (TENANT.PAIRS t) || s.nat (TENANT.CONVERTERS t) % 16 != 0 ||
    s.flag (TENANT.STREAMS t)

/-- R70, rule 1: no resource in the fields of two tenants. -/
def State.dealRule1 (s : State) : List Nat :=
  (pairsBelow 16).flatMap fun p =>
    if p.1 = 0 then []
    else
      let both (k1 k2 m : Nat) := failIf ((s.nat k1 &&& s.nat k2 &&& m) != 0) k1
      let w := 2 ^ 64 - 1
      ((List.range 8).flatMap fun i => both (TENANT.CHANNELS p.1 i) (TENANT.CHANNELS p.2 i) w) ++
        both (TENANT.BUDGET_GROUPS p.1) (TENANT.BUDGET_GROUPS p.2) w ++
        both (TENANT.SEQ_GROUPS p.1) (TENANT.SEQ_GROUPS p.2) w ++ both (TENANT.PAIRS p.1) (TENANT.PAIRS p.2) w ++
        both (TENANT.CONVERTERS p.1) (TENANT.CONVERTERS p.2) 15 ++ both (TENANT.STREAMS p.1) (TENANT.STREAMS p.2) w ++
        both (TENANT.TARGETS p.1) (TENANT.TARGETS p.2) w

/-- R70, rule 2: the ring ranges. -/
def State.dealRule2 (s : State) : List Nat :=
  (dealtTenants.flatMap fun t =>
    let b := s.nat (TENANT.RING_BASE t)
    let c := s.nat (TENANT.RING_COUNT t)
    failIf (c != 0 && (b == 0 || 8192 < b + c)) (TENANT.RING_BASE t)) ++
  (pairsBelow 16).flatMap fun p =>
    failIf (p.1 != 0 && s.nat (TENANT.RING_COUNT p.1) != 0 && s.nat (TENANT.RING_COUNT p.2) != 0 &&
      s.nat (TENANT.RING_BASE p.1) < s.nat (TENANT.RING_BASE p.2) + s.nat (TENANT.RING_COUNT p.2) &&
      s.nat (TENANT.RING_BASE p.2) < s.nat (TENANT.RING_BASE p.1) + s.nat (TENANT.RING_COUNT p.1)) (TENANT.RING_BASE p.1)

/-- R70, rules 3 to 5, 9 and 12, and what R68 asks, for one tenant after TN00. staged tells whether a set stages FALSE
for its ADMITTED. DESIGN CHOICE (log entry 77): the spec names the address of a failure for rule 3 only; the model names ADMITTED
for rules 4 and 12, the field itself for rules 5 and 6, and ENDPOINT for rule 9. -/
def State.dealTenant (s : State) (t : Nat) (withdrawn : Bool) : List Nat :=
  let hand := s.hasHand t
  let any := hand || s.flag (TENANT.TARGETS t) || s.flag (TENANT.RING_COUNT t)
  failIf (any && !s.admitted t) (if s.attached t then TENANT.ADMITTED t else TENANT.ENDPOINT t) ++
    failIf (s.admitted t && s.nat (TENANT.RING_COUNT t) == 0) (TENANT.ADMITTED t) ++
    (if s.isKibitzer t then
      (List.range 0x15).flatMap fun i => failIf (s.flag (TENANT.CHANNELS t 0 + i)) (TENANT.CHANNELS t 0 + i)
    else []) ++
    ((List.range 48).flatMap fun i =>
      failIf (s.bit (TENANT.TARGETS t) (16 + i) && s.nat (TENANT.ENDPOINT t) != 0x4000 + i / 12) (TENANT.ENDPOINT t)) ++
    failIf (withdrawn && hand) (TENANT.ADMITTED t)

/-- R70, rule 6: no fold state outside the hand. -/
def State.dealRule6 (s : State) (t : Nat) : List Nat :=
  ((List.range 512).flatMap fun n =>
    failIf (s.bit (TENANT.FOLD_HOLD t (n / 64)) (n % 64) && s.holderOfChannel n != t) (TENANT.FOLD_HOLD t (n / 64))) ++
  (List.range 4).flatMap fun m =>
    failIf (s.bit (TENANT.CONVERTERS t) (4 + m) && s.holderOfConverter m != t) (TENANT.CONVERTERS t)

/-- The fold state of a channel in the hand that holds it: TRUE is HOLD. -/
def State.foldHold (s : State) (n : Nat) : Bool :=
  s.bit (TENANT.FOLD_HOLD (s.holderOfChannel n) (n / 64)) (n % 64)

/-- R70, rule 7: pairs and their channels in one hand, with one fold state. -/
def State.dealRule7 (s : State) (p : Nat) : List Nat :=
  let a := s.nat (CASTLING_PAIR.CHANNEL_A p)
  let b := s.nat (CASTLING_PAIR.CHANNEL_B p)
  if 511 < a || 511 < b then []
  else
    let hp := s.holderOfPair p
    let ha := s.holderOfChannel a
    let hb := s.holderOfChannel b
    failIf (hp != ha || ha != hb)
        (min (TENANT.PAIRS hp) (min (TENANT.CHANNELS ha (a / 64)) (TENANT.CHANNELS hb (b / 64)))) ++
      failIf (s.foldHold a != s.foldHold b) (min (TENANT.FOLD_HOLD ha (a / 64)) (TENANT.FOLD_HOLD hb (b / 64)))

/-- R70, rule 8: sequencing groups and their members in one hand. -/
def State.dealRule8 (s : State) (g : Nat) : List Nat :=
  let h := s.holderOfGroup g
  (List.range 8).flatMap fun k =>
    if s.nat (SEQ_GROUP.MEMBERS g k) = 0 then []
    else (List.range 64).flatMap fun i =>
      let t := s.holderOfChannel (64 * k + i)
      failIf (s.bit (SEQ_GROUP.MEMBERS g k) i && t != h) (min (TENANT.SEQ_GROUPS h) (TENANT.CHANNELS t k))

/-- R70, rule 10: endpoints are distinct. -/
def State.dealRule10 (s : State) : List Nat :=
  (pairsBelow 16).flatMap fun p =>
    failIf (s.attached p.1 && s.nat (TENANT.ENDPOINT p.1) == s.nat (TENANT.ENDPOINT p.2)) (TENANT.ENDPOINT p.1)

/-- R70, rule 11: a stream that is not stopped changes hands between old and s. -/
def State.dealRule11 (old s : State) : List Nat :=
  (List.range 32).flatMap fun d =>
    failIf (old.holderOfStream d != s.holderOfStream d && old.nat (STREAM.STREAM_STATE d) != 0)
      (min (TENANT.STREAMS (old.holderOfStream d)) (TENANT.STREAMS (s.holderOfStream d)))

/-- R68: CONVERTERS of TENANT0 as staged names the converters that no other hand holds. -/
def State.dealRule0 (s : State) (vals : List (Nat × Int)) : List Nat :=
  failIf ((vals.any fun v => v.1 == TENANT.CONVERTERS 0) &&
    (List.range 4).any fun m => s.bit (TENANT.CONVERTERS 0) m != (s.holderOfConverter m == 0)) (TENANT.CONVERTERS 0)

/-- R40, check 6: the lowest address involved in a failure of a deal rule, for a set that stages a change to the deal. -/
def State.dealFailure (s : State) (vals : List (Nat × Int)) : Option Nat :=
  if vals.any fun v => isDealField v.1 then
    let n := s.overlay vals
    lowest (n.dealRule0 vals ++ n.dealRule1 ++ n.dealRule2 ++
      (dealtTenants.flatMap fun t => n.dealTenant t (vals.any fun v => v.1 == TENANT.ADMITTED t && v.2 == 0)) ++
      ((List.range 16).flatMap fun t => n.dealRule6 t) ++ ((List.range 64).flatMap fun p => n.dealRule7 p) ++
      ((List.range 64).flatMap fun g => n.dealRule8 g) ++ n.dealRule10 ++ s.dealRule11 n)
  else none

end Sys2Proof.Machine
end

