-- ==== Sys2Proof/Machine/Rules.lean ====
section
/-!
DEFINITION. The cross-object rules of the chapters (R40, check 7), judged on the state that a set would leave. Each gives
the addresses of the objects that break it.
-/
namespace Sys2Proof.Machine

/-! ### Channels -/

/-- R125, R134, R147 and the end of the tables of chapter 5, for channel n. -/
def State.ruleProtection (s : State) (n : Nat) : List Nat :=
  let hs := s.nat (CHANNEL_PROTECTION.HARD_SHORT_LEVEL n)
  let lim := s.nat (CHANNEL_PROTECTION.LIMIT_LEVEL n)
  let rsh := s.nat (CHANNEL_CONFIG.SHUNT_RESISTANCE n)
  let lamp := s.flag (CHANNEL_PROTECTION.LAMP_MODE n)
  let nominal := s.get (CHANNEL_PROTECTION.LAMP_NOMINAL n)
  failIf (lim != 0 && hs < lim + 8) (CHANNEL_PROTECTION.HARD_SHORT_LEVEL n) ++
    failIf (s.get (CHANNEL_PROTECTION.WIRE_TRIP_RISE n) ≤ s.get (CHANNEL_PROTECTION.WIRE_RESTART_RISE n))
      (CHANNEL_PROTECTION.WIRE_TRIP_RISE n) ++
    failIf (s.get (CHANNEL_PROTECTION.WIRE_TRIP_RISE n) < s.get (CHANNEL_PROTECTION.WIRE_WARN_RISE n))
      (CHANNEL_PROTECTION.WIRE_WARN_RISE n) ++
    failIf (s.get (CHANNEL_PROTECTION.FET_TRIP_TEMP n) ≤ s.get (CHANNEL_PROTECTION.FET_RESTART_TEMP n))
      (CHANNEL_PROTECTION.FET_TRIP_TEMP n) ++
    failIf (s.get (CHANNEL_PROTECTION.FET_TRIP_TEMP n) < s.get (CHANNEL_PROTECTION.FET_WARN_TEMP n))
      (CHANNEL_PROTECTION.FET_WARN_TEMP n) ++
    failIf (rsh == 0 && (s.flag (CHANNEL_PROTECTION.WIRE_MODE n) || s.flag (CHANNEL_PROTECTION.FET_MODE n) || lamp))
      (CHANNEL_CONFIG.SHUNT_RESISTANCE n) ++
    failIf (lamp && nominal ≤ 0) (CHANNEL_PROTECTION.LAMP_MODE n) ++
    failIf (lamp && 0 < nominal &&
        (hs : Int) * 100000000000 ≤ 11 * nominal * s.get (CHANNEL_PROTECTION.LAMP_MULTIPLE n) * rsh)
      (CHANNEL_CONFIG.SHUNT_RESISTANCE n)

/-- R172: the window of channel n. -/
def State.ruleWindow (s : State) (n : Nat) : List Nat :=
  failIf (s.nat (CHANNEL_SUPERVISION.WINDOW_MODE n) == 1 &&
    s.get (CHANNEL_SUPERVISION.OV_LEVEL n) - s.get (CHANNEL_SUPERVISION.OV_HYST n) ≤
      s.get (CHANNEL_SUPERVISION.UV_LEVEL n) + s.get (CHANNEL_SUPERVISION.UV_HYST n)) (CHANNEL_SUPERVISION.WINDOW_MODE n)

/-- R110 and CAPTURE_OWNER, for the capture of die d. -/
def State.ruleCapture (s : State) (d : Nat) : List Nat :=
  let k := 8 * d
  failIf (!s.admitted (s.nat (BANK.CAPTURE_OWNER k))) (BANK.CAPTURE_OWNER k) ++
    failIf (s.nat (BANK.TRIGGER_MODE k) == 1 && s.nat (BANK.CAPTURE_SIGNAL k 0) / 2 ^ 14 == 2) (BANK.CAPTURE_SIGNAL k 0) ++
    failIf (4096 / s.nat (BANK.CAPTURE_SIGNALS k) < s.nat (BANK.PRETRIGGER k)) (BANK.CAPTURE_SIGNALS k)

/-! ### Castling, groups, plans, reset outputs -/

/-- R149: pair p by itself. -/
def State.rulePair (s : State) (p : Nat) : List Nat :=
  let a := s.nat (CASTLING_PAIR.CHANNEL_A p)
  let b := s.nat (CASTLING_PAIR.CHANNEL_B p)
  if a = 0xFFFF && b = 0xFFFF then []
  else
    failIf (a == b || (a == 0xFFFF) != (b == 0xFFFF) || (511 < a && a != 0xFFFF)) (CASTLING_PAIR.CHANNEL_A p) ++
      failIf (511 < b && b != 0xFFFF) (CASTLING_PAIR.CHANNEL_B p)

/-- The channels that pairs in use name, with the address that names each. -/
def State.pairNames (s : State) : List (Nat × Nat) :=
  (List.range 64).flatMap fun p =>
    let a := s.nat (CASTLING_PAIR.CHANNEL_A p)
    let b := s.nat (CASTLING_PAIR.CHANNEL_B p)
    if a = 0xFFFF || b = 0xFFFF then [] else [(CASTLING_PAIR.CHANNEL_A p, a), (CASTLING_PAIR.CHANNEL_B p, b)]

/-- The addresses of a list of named things whose thing is named again by a later entry that `clash` joins to it. -/
def namedTwice (clash : Nat × Nat → Nat × Nat → Bool) : List (Nat × Nat) → List Nat
  | [] => []
  | x :: l => failIf (l.any (clash x)) x.1 ++ namedTwice clash l

/-- R149: no channel in two pairs in use. -/
def State.rulePairs (s : State) : List Nat :=
  ((List.range 64).flatMap fun p => s.rulePair p) ++
    namedTwice (fun x y => x.2 == y.2 && x.1 / 256 != y.1 / 256) s.pairNames

/-- R155: no channel in two sequencing groups; the lower MEMBERS subindex is named. -/
def State.ruleGroups (s : State) : List Nat :=
  (pairsBelow 64).flatMap fun p => (List.range 8).flatMap fun k =>
    failIf ((s.nat (SEQ_GROUP.MEMBERS p.1 k) &&& s.nat (SEQ_GROUP.MEMBERS p.2 k)) != 0) (SEQ_GROUP.MEMBERS p.1 k)

/-- R156, R157: whether step number i, from 1, may not have value v. -/
def badStep (v i : Nat) : Bool :=
  let depA := field v 56 8
  let depB := field v 48 8
  let action := field v 39 3
  !(1 ≤ action && action ≤ 6) || 2 < field v 37 2 || !(depA == 0xFF || depA < i) || !(depB < i) ||
    (depB != 0 && depA == 0) || (5 ≤ action && field v 42 6 != 0) || (action ≤ 4 && field v 32 4 != 0)

/-- R157: the steps of plan p. -/
def State.rulePlan (s : State) (p : Nat) : List Nat :=
  (List.range (s.nat (ofPlan p OPENING_PLAN.STEP_COUNT))).flatMap fun i =>
    failIf (badStep (s.nat (ofPlan p (OPENING_STEPS.STEP i))) (i + 1)) (ofPlan p (OPENING_STEPS.STEP i))

/-- Chapter 6: a running plan keeps STEP_COUNT, its steps and END_ACTION: a staged value that differs from the one that
applies fails. -/
def State.ruleRunningPlan (s : State) (vals : List (Nat × Int)) : List Nat :=
  vals.flatMap fun v =>
    let a := v.1
    failIf (s.get a != v.2 &&
      ((s.planRuns 0 && (a == OPENING_PLAN.STEP_COUNT || a / 256 == 0x3901)) ||
        (s.planRuns 1 && (a == ENDGAME_PLAN.STEP_COUNT || a == ENDGAME_PLAN.END_ACTION || a / 256 == 0x3909)))) a

/-- R176: the source of RSOr. -/
def State.ruleRso (s : State) (r : Nat) : List Nat :=
  let k := s.nat (RESET_OUTPUT.SOURCE_KIND r)
  let i := s.nat (RESET_OUTPUT.SOURCE_INDEX r)
  failIf ((k == 1 && 511 < i) || (k == 2 && 63 < i)) (RESET_OUTPUT.SOURCE_KIND r)

/-! ### Converters and the battery -/

/-- R185: lane l, its assignment and mode compared with those that applied before. -/
def State.ruleLane (old s : State) (l : Nat) : List Nat :=
  let off (m : Nat) := 4 ≤ m || old.nat (CONVERTER_STATUS.STATE m) == 0
  let m := s.nat (LANE.CONVERTER l)
  let m0 := old.nat (LANE.CONVERTER l)
  let mode := s.nat (LANE.LANE_MODE l)
  failIf (m != m0 && !(off m && off m0)) (LANE.CONVERTER l) ++
    failIf (mode != old.nat (LANE.LANE_MODE l) && !(off m && off m0)) (LANE.LANE_MODE l) ++
    failIf (mode == 1 && (l % 2 == 1 || s.nat (LANE.LANE_MODE (l + 1)) != 2 || s.nat (LANE.CONVERTER (l + 1)) != m))
      (LANE.LANE_MODE l) ++
    failIf (mode == 2 && (l % 2 == 0 || s.nat (LANE.LANE_MODE (l - 1)) != 1 || s.nat (LANE.CONVERTER (l - 1)) != m))
      (LANE.LANE_MODE l)

/-- R186, R201, R214 and DUTY_MIN, for CVm. -/
def State.ruleConverter (old s : State) (m : Nat) : List Nat :=
  let trunc := s.get (CONVERTER.TRUNC_LEVEL m)
  failIf (s.get (CONVERTER.SWITCH_PERIOD m) != old.get (CONVERTER.SWITCH_PERIOD m) &&
      old.nat (CONVERTER_STATUS.STATE m) != 0) (CONVERTER.SWITCH_PERIOD m) ++
    failIf (trunc - s.get (CONVERTER.TRUNC_HYST m) ≤ s.get (CONVERTER.VOUT_SET m)) (CONVERTER.VOUT_SET m) ++
    failIf (12500 * s.get (CONVERTER.VS_GAIN m) < trunc * 100000) (CONVERTER.VS_GAIN m) ++
    failIf (s.get (CONVERTER.DUTY_MAX m) ≤ s.get (CONVERTER.DUTY_MIN m)) (CONVERTER.DUTY_MIN m) ++
    failIf (s.nat (CONVERTER_WINDOW.WINDOW_MODE m) == 1 &&
      s.get (CONVERTER_WINDOW.OV_LEVEL m) - s.get (CONVERTER_WINDOW.OV_HYST m) ≤
        s.get (CONVERTER_WINDOW.UV_LEVEL m) + s.get (CONVERTER_WINDOW.UV_HYST m)) (CONVERTER_WINDOW.WINDOW_MODE m)

/-- The places where a rising sequence of n points from key k on does not rise. -/
def State.notRising (s : State) (k n : Nat) : List Nat :=
  (List.range (n - 1)).flatMap fun i => failIf (s.get (k + i + 1) ≤ s.get (k + i)) (k + i)

/-- R251: the open-circuit voltage table. -/
def State.ruleOcv (s : State) : List Nat :=
  let n := s.nat OCV_TABLE.OCV_POINTS
  s.notRising (OCV_TABLE.OCV_SOC 0) n ++ s.notRising (OCV_TABLE.OCV_VOLT 0) n

/-! ### Faults, rings, targets, streams -/

/-- R313: whether the class of a kind can be overridden. -/
def overridable (k : Kind) : Bool := !(k == .HOUSE_STOP || k == .LOCKOUT || k == .CASCADE_ESCALATED)

/-- R314: whether an override may not stand. -/
def badOverride (v : Nat) : Bool :=
  if v / 2 ^ 16 = 0 then false
  else
    match Kind.ofCode (v / 2 ^ 16) with
    | none => true
    | some k => !overridable k || 5 < v % 8 || v % 8 < k.floor

/-- R314: the override table. -/
def State.ruleOverrides (s : State) : List Nat :=
  let l := (List.range 64).map fun i => (CLASS_OVERRIDE.OVERRIDE i, s.nat (CLASS_OVERRIDE.OVERRIDE i))
  (l.flatMap fun e => failIf (badOverride e.2) e.1) ++
    namedTwice (fun x y => x.2 / 2 ^ 16 != 0 && x.2 / 2 ^ 16 == y.2 / 2 ^ 16) l

/-- R336: CAPACITY of ring q: the register that a write has set, or the default of its range. A ring that has the default
holds it in its register from the boundary that brings it into force. -/
def State.poolAfter (old s : State) : List (Nat × Nat) :=
  let listed := s.regs.filterMap fun p =>
    if 0x400000 ≤ p.1 && p.1 < 0x600000 && p.1 % 256 == 1 then some (p.1 / 256 - 0x4000, p.2.toNat) else none
  let sys := dealtTenants.filterMap fun t =>
    match s.systemRing t with
    | some q => if s.admitted t && old.systemRing t != some q || s.admitted t && !old.admitted t then some q else none
    | none => none
  let fresh := sys.filter fun q => s.capacityOf q == old.capacityOf q
  let l := (listed.filter fun p => !fresh.contains p.1) ++ fresh.map fun q => (q, 64)
  if l.any fun p => p.1 == 0 then l else (0, s.capacityOf 0) :: l

/-- R335: the pool of slots. -/
def State.rulePool (old s : State) : List Nat :=
  let l := old.poolAfter s
  if 65536 < (l.map (·.2)).sum then
    let up := l.filterMap fun p => if old.capacityOf p.1 < p.2 then some (RING.CAPACITY p.1) else none
    if up = [] then l.map fun p => RING.CAPACITY p.1 else up
  else []

/-- R341: a ring names only targets of its holder, or targets lent with it. -/
def State.ruleTargets (s : State) : List Nat :=
  s.regs.flatMap fun p =>
    if 0x400000 ≤ p.1 && p.1 < 0x600000 && p.1 % 256 == 9 then
      let t := s.dealtRing (p.1 / 256 - 0x4000)
      failIf ((List.range 64).any fun g => p.2.toNat.testBit g && s.dealtTarget g != t) p.1
    else []

/-- R343: MOD_COUNT above 1 wants a MOD_TIME. -/
def State.ruleModeration (s : State) (g : Nat) : List Nat :=
  failIf (1 < s.nat (TARGET.MOD_COUNT g) && s.nat (TARGET.MOD_TIME g) == 0) (TARGET.MOD_COUNT g)

/-- R349, R356: the descriptor range and the completion address of stream d. -/
def State.ruleStream (old s : State) (d : Nat) : List Nat :=
  let b := s.nat (STREAM.DESC_BASE d)
  let c := s.nat (STREAM.DESC_COUNT d)
  failIf (c == 1 || (c != 0 && 1024 < b + c)) (STREAM.DESC_BASE d) ++
    failIf ((b != old.nat (STREAM.DESC_BASE d) || c != old.nat (STREAM.DESC_COUNT d)) &&
      old.nat (STREAM.STREAM_STATE d) != 0) (STREAM.DESC_BASE d) ++
    failIf (s.nat (STREAM.COMPLETION_ADDRESS d) % 16 != 0) (STREAM.COMPLETION_ADDRESS d)

/-- R349: no two descriptor ranges overlap. -/
def State.ruleStreams (s : State) : List Nat :=
  (pairsBelow 32).flatMap fun p =>
    let b1 := s.nat (STREAM.DESC_BASE p.1)
    let b2 := s.nat (STREAM.DESC_BASE p.2)
    let c1 := s.nat (STREAM.DESC_COUNT p.1)
    let c2 := s.nat (STREAM.DESC_COUNT p.2)
    failIf (c1 != 0 && c2 != 0 && b1 < b2 + c2 && b2 < b1 + c1) (STREAM.DESC_BASE p.1)

/-! ### Housekeeping -/

/-- R404, R405, R408: entry e. -/
def State.ruleEntry (s : State) (e : Nat) : List Nat :=
  let i := s.nat (HK_ENTRY.INPUT e)
  let sc := s.nat (HK_ENTRY.SCALE e)
  failIf (s.nat (HK_ENTRY.FORMAT e) == 2 && !(32 ≤ i && i ≤ 43)) (HK_ENTRY.INPUT e) ++
    failIf (s.bit (HK_ENTRY.ENTRY_FLAGS e) 1 && 48 ≤ i) (HK_ENTRY.INPUT e) ++
    failIf (2 ≤ sc && s.nat (HK_CURVE.POINTS (sc - 2)) == 0) (HK_CURVE.POINTS (sc - 2))

/-- The objects that name a housekeeping entry as a temperature (R406). -/
def temperatureNames : List Nat :=
  ((List.range 512).flatMap fun n =>
    [CHANNEL_CONFIG.SHUNT_TEMP_ENTRY n, CHANNEL_PROTECTION.WIRE_REF_ENTRY n, CHANNEL_PROTECTION.FET_REF_ENTRY n]) ++
  [CHARGER.BATT_TEMP_ENTRY, ESTIMATOR.BATT_SHUNT_TEMP_ENTRY, ESTIMATOR.EST_TEMP_ENTRY] ++
  (List.range 4).map fun m => CONVERTER.TEMP_ENTRY m

/-- The objects that name one as a voltage. -/
def voltageNames : List Nat := (List.range 4).map fun m => CONVERTER.VIN_ENTRY m

/-- R406: a named entry has the unit of its use. -/
def State.ruleUnits (s : State) (names : List Nat) (unit : Nat) : List Nat :=
  names.flatMap fun k =>
    let e := s.nat k
    failIf (e < 64 && s.nat (HK_ENTRY.UNIT e) != unit) (HK_ENTRY.UNIT e)

/-- R409, R410: sequence q by itself. -/
def State.ruleSequence (s : State) (q : Nat) : List Nat :=
  failIf (s.nat (HK_SEQUENCE.LAST_ENTRY q) < s.nat (HK_SEQUENCE.FIRST_ENTRY q)) (HK_SEQUENCE.FIRST_ENTRY q) ++
    failIf (s.nat (HK_SEQUENCE.TRIGGER_SOURCE q) == 2 && s.nat (HK_SEQUENCE.TRIGGER_CHAIN q) == q)
      (HK_SEQUENCE.TRIGGER_SOURCE q)

/-- R409: the ranges of enabled sequences do not overlap. -/
def State.ruleSequences (s : State) : List Nat :=
  ((List.range 4).flatMap fun q => s.ruleSequence q) ++
  (pairsBelow 4).flatMap fun p =>
    failIf (s.flag (HK_SEQUENCE.MODE p.1) && s.flag (HK_SEQUENCE.MODE p.2) &&
      s.nat (HK_SEQUENCE.FIRST_ENTRY p.1) ≤ s.nat (HK_SEQUENCE.LAST_ENTRY p.2) &&
      s.nat (HK_SEQUENCE.FIRST_ENTRY p.2) ≤ s.nat (HK_SEQUENCE.LAST_ENTRY p.1)) (HK_SEQUENCE.MODE p.1)

/-! ### Ports -/

/-- R394: the least SCL_LOW and SCL_HIGH of a speed mode. -/
def sclMinimum (mode : Nat) : Nat × Nat :=
  match mode with
  | 0 => (470, 400)
  | 1 => (130, 60)
  | _ => (50, 26)

/-- R389, R394: the two-wire bus. -/
def State.ruleTwoWire (s : State) : List Nat :=
  let mn := sclMinimum (s.nat TWO_WIRE_BUS.SPEED_MODE)
  let used := ((List.range 16).any fun t => s.nat (TENANT.ENDPOINT t) / 4096 == 5) || s.nat STRAPS.ARBITER == 7
  failIf (s.nat TWO_WIRE_BUS.ROLE == 1 && used) TWO_WIRE_BUS.ROLE ++
    failIf (s.nat TWO_WIRE_BUS.SCL_LOW < mn.1 || s.nat TWO_WIRE_BUS.SCL_HIGH < mn.2) TWO_WIRE_BUS.SPEED_MODE ++
    failIf (s.nat TWO_WIRE_BUS.SCL_LOW < s.nat TWO_WIRE_BUS.DATA_SETUP + s.nat TWO_WIRE_BUS.DATA_HOLD) TWO_WIRE_BUS.SCL_LOW

/-- The entries of a PDO mapping in force, with their addresses: up to the first that is 0 (R369). -/
def State.mapping (s : State) (key : Nat) : List (Nat × Nat) :=
  ((List.range 64).map fun i => (key + i, s.nat (key + i))).takeWhile fun e => e.2 != 0

/-- R369: whether one mapped object may not stand in a PDO of an owner. -/
def State.badMapped (s : State) (owner : Nat) (rx : Bool) (v : Nat) : Bool :=
  match subAt (v / 256) with
  | none => true
  | some r =>
    r.ty.isString || 8 * r.ty.size != v % 256 ||
      (if rx then r.acc == .const || r.acc == .ro || readOnlyOnArbiter (v / 256) || !s.mayWrite owner (v / 256) r.acc
       else r.acc == .wo)

/-- The first entry of a mapping at which its length passes 512 bits. -/
def overlong : Nat → List (Nat × Nat) → List Nat
  | _, [] => []
  | n, e :: l => if 512 < n + e.2 % 256 then [e.1] else overlong (n + e.2 % 256) l

/-- R369: one PDO: its owner, its mapping from key on, its COB-ID and transmission type. -/
def State.rulePdo (s : State) (owner : Nat) (rx : Bool) (map cob type : Nat) : List Nat :=
  let l := s.mapping map
  (l.flatMap fun e => failIf (s.badMapped owner rx e.2) e.1) ++ overlong 0 l ++
    failIf ((241 ≤ s.nat type && s.nat type ≤ 253) || (!s.bit cob 29 && 0x7FF < s.nat cob % 2 ^ 29)) cob

/-- R368: whether a PDO of port p is valid, from its owner and the address of its COB-ID. -/
def State.pdoValid (s : State) (p owner cob : Nat) : Bool :=
  !s.bit cob 31 && s.admitted owner && s.canPortOf owner == some p

/-- The COB-IDs of the valid PDOs of CAN port p (R368, R369): address, and frame format with identifier. -/
def State.validPdos (s : State) (p : Nat) : List (Nat × Nat) :=
  (((List.range 32).map fun i => RPDO_COMM.COB_ID (32 * p + i)) ++ ((List.range 64).map fun i => TPDO_COMM.COB_ID (64 * p + i))).filterMap
    fun a => if s.pdoValid p (s.pdoOwner (a / 256)) a then some (a, s.nat a % 2 ^ 30) else none

/-- The identifiers on port p that no PDO may take: 0, SYNC and TIME, and those of the nodes (R369). -/
def State.takenIds (s : State) (p : Nat) : List Nat :=
  [0, s.nat (COB_ID_SYNC.COB_ID p) % 2 ^ 30, s.nat (COB_ID_TIME.COB_ID p) % 2 ^ 30] ++
    (List.range 16).flatMap fun t =>
      if s.canPortOf t = some p then
        [0x080, 0x580, 0x600, 0x700].map (· + s.nat (TENANT.ENDPOINT t) % 256)
      else []

/-- R369, R372: CAN port p. -/
def State.ruleCan (s : State) (p : Nat) : List Nat :=
  let v := s.validPdos p
  failIf (s.bit (COB_ID_SYNC.COB_ID p) 30) (COB_ID_SYNC.COB_ID p) ++
    (v.flatMap fun e => failIf ((s.takenIds p).contains e.2) e.1) ++ namedTwice (fun x y => x.2 == y.2) v

/-- R369: all PDOs. -/
def State.rulePdos (s : State) : List Nat :=
  ((List.range 64).flatMap fun i =>
    s.rulePdo (s.pdoOwner (0x1400 + i)) true (RPDO_MAP.ENTRY i 0) (RPDO_COMM.COB_ID i) (RPDO_COMM.TRANSMISSION_TYPE i)) ++
  (List.range 128).flatMap fun i =>
    s.rulePdo (s.pdoOwner (0x1800 + i)) false (TPDO_MAP.ENTRY i 0) (TPDO_COMM.COB_ID i) (TPDO_COMM.TRANSMISSION_TYPE i)

/-! ### All of them -/

/-- R40, check 7: the lowest address involved in a failure of a cross-object rule, for a set together with what it does
not replace. -/
def State.ruleFailure (s : State) (vals : List (Nat × Int)) : Option Nat :=
  let n := s.overlay vals
  lowest (
    ((List.range 512).flatMap fun c => n.ruleProtection c ++ n.ruleWindow c) ++
    ((List.range 4).flatMap fun d => n.ruleCapture d) ++ n.rulePairs ++ n.ruleGroups ++ n.rulePlan 0 ++ n.rulePlan 1 ++
    s.ruleRunningPlan vals ++ ((List.range 16).flatMap fun r => n.ruleRso r ++ s.ruleLane n r) ++
    ((List.range 4).flatMap fun m => s.ruleConverter n m) ++ n.ruleOcv ++ n.ruleOverrides ++ s.rulePool n ++ n.ruleTargets ++
    ((List.range 64).flatMap fun g => n.ruleModeration g ++ n.ruleEntry g) ++
    ((List.range 32).flatMap fun d => s.ruleStream n d) ++ n.ruleStreams ++
    ((List.range 4).flatMap fun c => n.notRising (HK_CURVE.CODE c 0) (n.nat (HK_CURVE.POINTS c))) ++
    n.ruleUnits temperatureNames 2 ++ n.ruleUnits voltageNames 1 ++ n.ruleSequences ++ n.ruleTwoWire ++
    n.ruleCan 0 ++ n.ruleCan 1 ++ n.rulePdos)

end Sys2Proof.Machine
end

