-- ==== Sys2Proof/Machine/Commit.lean ====
section
/-!
DEFINITION. Staging and the commit (R34 to R48), commits on a SYNC count (R49 to R52), and barriers (R55 to R57).
-/
namespace Sys2Proof.Machine

/-! ### Where a value is held -/

/-- R500: the channel die that holds a subindex, none for the control die. -/
def heldDie (addr : Nat) : Option Nat :=
  let i := addr / 256
  let j := addr % 256
  if 0x3000 ≤ i && i < 0x3200 then (if 1 ≤ j && j ≤ 0x0F then some ((i - 0x3000) / 128) else none)
  else if 0x3200 ≤ i && i < 0x3400 then (if 1 ≤ j && j ≤ 0x28 then some ((i - 0x3200) / 128) else none)
  else if 0x3600 ≤ i && i < 0x3800 then (if 1 ≤ j && j ≤ 0x0A then some ((i - 0x3600) / 128) else none)
  else if 0x3800 ≤ i && i < 0x3820 then
    (if (5 ≤ j && j ≤ 7) || ((i - 0x3800) % 8 == 0 && 0x0A ≤ j && j ≤ 0x15) then some ((i - 0x3800) / 8) else none)
  else none

/-- The channel die that a command with an action code goes to: release of standing, clearing of a lockout or of
counters, and the arming of a capture. -/
def actionDie (addr : Nat) : Option Nat :=
  let i := addr / 256
  if 0x3000 ≤ i && i < 0x3200 then some ((i - 0x3000) / 128)
  else if 0x3600 ≤ i && i < 0x3800 then some ((i - 0x3600) / 128)
  else if 0x3800 ≤ i && i < 0x3820 then some ((i - 0x3800) / 8)
  else none

/-- The channel die that an accepted item travels to, if it is one value or one command for a die. -/
def landDie (a : LandAct) : Option Nat :=
  match a with
  | .value k _ => heldDie k
  | .bytes k _ => heldDie k
  | .action a _ => actionDie a
  | .late d _ _ => some d
  | _ => none

/-! ### Barriers (R55 to R57) -/

/-- Whether an accepted item counts as a write before a barrier: class I and action writes, but no committed set (R57). -/
def landCounts (a : LandAct) : Bool :=
  match a with
  | .value _ _ | .bytes _ _ | .action _ _ | .service _ _ _ => true
  | _ => false

/-- The boundary at which the youngest open barrier of tenant t closes. -/
def State.barrierEnd (s : State) (t : Nat) : Option Nat :=
  ((s.barriers.filter fun b => b.tenant == t).getLast?).map (·.closes)

/-- R55: the boundaries that an item of tenant t has to wait beyond its delay, behind an open barrier. -/
def State.barrierDelay (s : State) (t delay : Nat) : Nat :=
  match s.barrierEnd t with
  | none => delay
  | some b => max delay (b + 1 - s.frame)

/-- R34, R55: an item of tenant t is accepted. -/
def State.accept (s : State) (t : Nat) (a : LandAct) : State :=
  let d := match landDie a with
    | some d => s.dieDelay d
    | none => 2
  s.land t (s.barrierDelay t d) a

/-- R56: whether the queue behind the open barrier of tenant t is full. -/
def State.barrierFull (s : State) (t : Nat) : Bool :=
  match s.barrierEnd t with
  | none => false
  | some b => 256 ≤ (s.landing.filter fun l => l.tenant == t && b < l.due && landCounts l.act).length

/-- R55: a BARRIER_ID write is accepted: it closes at once where no earlier write waits and no earlier barrier is open. -/
def State.barrierWrite (s : State) (t id : Nat) : State :=
  let dues := (s.landing.filter fun l => l.tenant == t && landCounts l.act).map (·.due)
  match (dues ++ (s.barrierEnd t).toList).max? with
  | none => s.setN (BARRIER.BARRIER_DONE t) id
  | some b => { s with barriers := s.barriers ++ [⟨t, id, b, []⟩] }

/-- R55: whether an earlier write of an open barrier has yet to take effect. -/
def State.earlierLeft (s : State) (b : OpenBarrier) : Bool :=
  s.landing.any fun l => l.tenant == b.tenant && l.due ≤ b.closes && landCounts l.act

/-- R55: whether an accepted item stands behind an open barrier some of whose earlier writes have yet to take effect. -/
def State.barred (s : State) (l : Landing) : Bool :=
  landCounts l.act && s.barriers.any fun b => b.tenant == l.tenant && b.closes < l.due && s.earlierLeft b

/-! ### Staging (R34, R36) -/

/-- The staging copy of tenant t, in order of writing. -/
def State.stagedOf (s : State) (t : Nat) : List Staged := s.staged.filter fun x => x.tenant == t

/-- Its values. -/
def State.stagedValues (s : State) (t : Nat) : List (Nat × Int) := (s.stagedOf t).map fun x => (x.key, x.value)

/-- STAGED_COUNT. -/
def State.stagedCount (s : State) (t : Nat) : Nat := (s.stagedOf t).length

/-- R36: whether a value of tenant t for a key finds no room. -/
def State.stagingFull (s : State) (t key : Nat) : Bool :=
  !((s.stagedOf t).any fun x => x.key == key) && (4096 ≤ s.stagedCount t || 16384 ≤ s.staged.length)

/-- R36, R42: a value is staged; one for a channel die waits for its acknowledgement. -/
def State.stage (s : State) (t key : Nat) (v : Int) : State :=
  let x : Staged := ⟨t, key, v, (heldDie key).isNone⟩
  if (s.stagedOf t).any fun y => y.key == key then
    { s with staged := s.staged.map fun y => if y.tenant == t && y.key == key then x else y }
  else { s with staged := s.staged ++ [x] }

/-- R47: the staging copy of tenant t is emptied. -/
def State.unstage (s : State) (t : Nat) : State := { s with staged := s.staged.filter fun x => x.tenant != t }

/-- R15, R42: die d acknowledges the staging data it has received. -/
def State.ackStaging (s : State) (d : Nat) : State :=
  { s with staged := s.staged.map fun x => if heldDie x.key == some d then { x with acked := true } else x }

/-! ### Rejection -/

abbrev CR.BUSY : Nat := 1
abbrev CR.GENERATION : Nat := 2
abbrev CR.EMPTY : Nat := 3
abbrev CR.SYNC_UNAVAILABLE : Nat := 4
abbrev CR.SYNC_RANGE : Nat := 5
abbrev CR.HAND : Nat := 6
abbrev CR.DEAL : Nat := 7
abbrev CR.RULE : Nat := 8
abbrev CR.STAGE_ACK : Nat := 9
abbrev CR.SYNC_MISSED : Nat := 10
abbrev CR.CANCELLED : Nat := 11

/-- A record of the dictionary server about tenant t (R504, R505). -/
def State.raiseServer (s : State) (k : Kind) (t : Nat) (fields : List (Nat × Int)) : State := s.raise k siteServer t 0 fields

/-- R45, R46: the commit of tenant t is rejected. -/
def State.commitReject (s : State) (t reason obj : Nat) : State :=
  let s := ((s.setN (COMMIT_CONTROL.STATUS t) 6).setN (COMMIT_CONTROL.LAST_REASON t) reason).setN
    (COMMIT_CONTROL.LAST_OBJECT t) obj
  let s := if reason = CR.CANCELLED then s.unstage t else s
  s.raiseServer .COMMIT_REJECTED t [f8 reason, f32 obj]

/-- Whether a commit of tenant t is in progress. -/
def State.committing (s : State) (t : Nat) : Bool :=
  1 ≤ s.nat (COMMIT_CONTROL.STATUS t) && s.nat (COMMIT_CONTROL.STATUS t) ≤ 4

/-- The committed set of tenant t that waits for its boundary. -/
def State.flagged (s : State) (t : Nat) : Option Landing :=
  s.landing.find? fun l => l.tenant == t && (match l.act with | .commit _ => true | _ => false)

/-- The values of the commit of tenant t in progress. -/
def State.commitValues (s : State) (t : Nat) : List (Nat × Int) :=
  match s.flagged t with
  | some ⟨_, _, _, .commit v, _⟩ => v
  | _ => s.stagedValues t

/-- R48: whether the commit of tenant t in progress stages a change to the deal. -/
def State.commitsDeal (s : State) (t : Nat) : Bool := (s.commitValues t).any fun v => isDealField v.1

/-! ### The checks (R40) -/

/-- R49: the CAN port whose SYNC counts for tenant t. -/
def State.syncPort (s : State) (t v : Nat) : Nat := (s.canPortOf t).getD (field v 25 1)

/-- R51: the SYNC check of COMMIT value v. -/
def State.syncCheck (s : State) (t v : Nat) : Option Nat :=
  if !v.testBit 24 then none
  else
    let p := s.syncPort t v
    let n := s.nat (SYNC_OVERFLOW.VALUE p)
    let c := s.get (SYNC_C p)
    let count := field v 16 8
    if n = 0 || c < 0 then some CR.SYNC_UNAVAILABLE
    else
      let d := ((count : Int) - c) % n
      if count < 1 || n < count || d == 0 || (n / 2 : Nat) < d then some CR.SYNC_RANGE else none

/-- R40, check 5: the lowest staged object that tenant t may no longer write. -/
def State.handFailure (s : State) (t : Nat) (vals : List (Nat × Int)) : Option Nat :=
  lowest (vals.filterMap fun v =>
    match subAt v.1 with
    | some r => if s.mayWrite t v.1 r.acc && !readOnlyOnArbiter v.1 then none else some v.1
    | none => some v.1)

/-- R40, checks 2 to 7: the reason and the address of a rejection. -/
def State.commitFailure (s : State) (t v : Nat) : Option (Nat × Nat) :=
  let vals := s.stagedValues t
  if v % 65536 != s.nat (TENANT_GENERATION.GEN_TN t) then some (CR.GENERATION, 0)
  else if vals = [] then some (CR.EMPTY, 0)
  else
    match s.syncCheck t v with
    | some r => some (r, 0)
    | none =>
      match s.handFailure t vals with
      | some a => some (CR.HAND, a)
      | none =>
        match s.control.dealFailure vals with
        | some a => some (CR.DEAL, a)
        | none => (s.control.ruleFailure vals).map fun a => (CR.RULE, a)

/-- R43: the apply flag of the commit of tenant t goes out in the next frame. Its place is that of its acceptance. -/
def State.commitFlag (s : State) (t accepted : Nat) : State :=
  let l : Landing := ⟨t, s.frame + 2, accepted, .commit (s.stagedValues t), false⟩
  { s.setN (COMMIT_CONTROL.STATUS t) 3 with
    landing := s.landing.takeWhile (fun x => x.accepted ≤ accepted) ++ l ::
      s.landing.dropWhile fun x => x.accepted ≤ accepted }

/-- R40: the commit of tenant t is accepted. -/
def State.commitAccept (s : State) (t : Nat) : State :=
  let s := (s.setN (COMMIT_CONTROL.LAST_REASON t) 0).setN (COMMIT_CONTROL.LAST_OBJECT t) 0
  if (s.nat (CM_VALUE t)).testBit 24 then (s.setN (COMMIT_CONTROL.STATUS t) 4).setN (CM_STAMP t) s.time
  else s.commitFlag t s.time

/-- Whether every staged value of tenant t for a channel die has been acknowledged (R40, check 8). -/
def State.allAcked (s : State) (t : Nat) : Bool := (s.stagedOf t).all (·.acked)

/-- R40 to R42: the checks of the commit of tenant t. -/
def State.commitChecks (s : State) (t : Nat) : State :=
  match s.commitFailure t (s.nat (CM_VALUE t)) with
  | some (r, a) => s.commitReject t r a
  | none =>
    if s.allAcked t then s.commitAccept t
    else (s.setN (COMMIT_CONTROL.STATUS t) 2).setN (CM_STAGE_END t) (s.frame + 2)

/-- R40, check 1, R48: whether a commit of tenant t is BUSY because of another's. -/
def State.commitBusy (s : State) (t : Nat) : Bool :=
  (List.range 16).any fun u => u != t && s.committing u && (s.commitsDeal u || (s.stagedValues t).any fun v => isDealField v.1)

/-- R39, R40: the checks of COMMIT value v of tenant t, from check 1. -/
def State.commitNow (s : State) (t v : Nat) : State :=
  if s.committing t then s.raiseServer .COMMIT_REJECTED t [f8 CR.BUSY, f32 0]
  else if s.commitBusy t then s.commitReject t CR.BUSY 0
  else ((s.setN (CM_VALUE t) v).setN (COMMIT_CONTROL.STATUS t) 1).commitChecks t

/-- The barriers of tenant t with COMMIT value v written behind the youngest of them. -/
def commitBehind (t v : Nat) (l : List OpenBarrier) : List OpenBarrier :=
  let last := (l.filter fun b => b.tenant == t).getLast?
  l.map fun b => if some b = last then { b with commits := b.commits ++ [v] } else b

/-- R57: a COMMIT written behind an open barrier waits: its check 1 comes when the barrier closes. STATUS is 1 where no other
commit of the tenant is in progress. -/
def State.commitWaits (s : State) (t v : Nat) : State :=
  let s : State := { s with barriers := commitBehind t v s.barriers }
  if s.committing t then s else (s.setN (CM_VALUE t) v).setN (COMMIT_CONTROL.STATUS t) 1

/-- R57: the turn of a COMMIT that has waited: STATUS 1 is its own, since checks that run leave no STATUS 1. -/
def State.commitTurn (s : State) (t v : Nat) : State :=
  (if s.nat (COMMIT_CONTROL.STATUS t) = 1 then s.setN (COMMIT_CONTROL.STATUS t) 0 else s).commitNow t v

/-- R39, R40: a COMMIT write is accepted. Its checks run at once, or when the open barrier closes (R57). -/
def State.commitWrite (s : State) (t v : Nat) : State :=
  if (s.barrierEnd t).isSome then s.commitWaits t v else s.commitNow t v

/-- R42: the last outstanding acknowledgement has arrived, within the wait. -/
def State.stageAck (s : State) (t : Nat) : State :=
  if s.nat (COMMIT_CONTROL.STATUS t) = 2 && s.allAcked t && s.frame < s.nat (CM_STAGE_END t) then s.commitAccept t else s

/-- R42: the wait for acknowledgements has ended. -/
def State.stageTimeout (s : State) (t : Nat) : State :=
  if s.nat (COMMIT_CONTROL.STATUS t) = 2 && s.nat (CM_STAGE_END t) ≤ s.frame then s.commitReject t CR.STAGE_ACK 0 else s

/-- No COMMIT of tenant t waits behind a barrier. -/
def State.dropWaiting (s : State) (t : Nat) : State :=
  { s with barriers := s.barriers.map fun b => if b.tenant == t then { b with commits := [] } else b }

/-- R47: a commit of tenant t whose apply flag has not been sent is cancelled: one that lands after boundary `sent`. -/
def State.commitCancel (s : State) (t sent : Nat) : State :=
  let s := s.dropWaiting t
  if s.committing t then
    match s.flagged t with
    | none => s.commitReject t CR.CANCELLED 0
    | some l =>
      if sent < l.due then ({ s with landing := s.landing.erase l } : State).commitReject t CR.CANCELLED 0 else s
  else s

/-- R47: DISCARD is accepted. -/
def State.discard (s : State) (t : Nat) : State := (s.commitCancel t (s.frame + 1)).unstage t

/-- R47: a house stop or a lockout ends every commit in progress. DESIGN CHOICE (log entry 77): STATUS goes to 0 (idle), with
no record and no reason, and the staging copy is kept; the spec says only that none of it is applied. -/
def State.commitsEnd (s : State) : State :=
  let s := { s with
    landing := s.landing.filter fun l => match l.act with | .commit _ => false | _ => true
    barriers := s.barriers.map fun b => { b with commits := [] } }
  forBelow 16 (fun t s => if s.committing t then s.setN (COMMIT_CONTROL.STATUS t) 0 else s) s

/-! ### SYNC (R50 to R52) -/

/-- R52: the SYNC-aligned commit of tenant t is rejected, with the notice. -/
def State.syncReject (s : State) (t reason : Nat) (counter : Int) : State :=
  (s.commitReject t reason 0).raiseServer .SYNC_COMMIT_MISSED t [f8 t, f8 (field (s.nat (CM_VALUE t)) 16 8), f8 counter]

/-- The tenants whose commit waits for a SYNC count of port p, in order of acceptance. -/
def State.syncWaiters (s : State) (p : Nat) : List Nat :=
  ((List.range 16).filter fun t => s.nat (COMMIT_CONTROL.STATUS t) == 4 && s.syncPort t (s.nat (CM_VALUE t)) == p).mergeSort
    fun t u => s.nat (CM_STAMP t) ≤ s.nat (CM_STAMP u)

/-- R52: a SYNC with a counter arrives on port p. -/
def State.syncJudge (s : State) (p counter : Nat) : State :=
  let n := s.nat (SYNC_OVERFLOW.VALUE p)
  forEach (s.syncWaiters p) (fun t s =>
    let d := ((field (s.nat (CM_VALUE t)) 16 8 : Int) - counter) % n
    if d = 0 then s.commitFlag t (s.nat (CM_STAMP t))
    else if (n / 2 : Nat) < d then s.syncReject t CR.SYNC_MISSED counter
    else s) s

/-- R50, R372: a SYNC has been received on port p, complete and without error. -/
def State.syncSeen (s : State) (p : Nat) (counter : Option Nat) : State :=
  let s := s.setN (SYNC_AT p) s.time
  match counter with
  | none => s
  | some c => ((s.setN (SYNC_C p) c).setN (CAN_PORT.LAST_SYNC_COUNTER p) c).syncJudge p c

/-- R52: no SYNC for 1 s on port p. -/
def State.syncTimeout (s : State) (p : Nat) : State :=
  if s.nat (SYNC_AT p) + 1000000 ≤ s.time then
    forEach (s.syncWaiters p) (fun t s => s.syncReject t CR.SYNC_MISSED (max 0 (s.get (SYNC_C p)))) s
  else s

/-- R52: N of port p has changed. -/
def State.syncRange (s : State) (p : Nat) : State :=
  let reason := if s.nat (SYNC_OVERFLOW.VALUE p) = 0 then CR.SYNC_UNAVAILABLE else CR.SYNC_MISSED
  forEach (s.syncWaiters p) (fun t s => s.syncReject t reason (max 0 (s.get (SYNC_C p)))) s

/-! ### Closing a barrier, and a tenant reset -/

/-- R55, R57: the barriers of tenant t whose earlier writes have all taken effect close; a COMMIT written behind them is
checked. -/
def State.barrierClose (s : State) (t : Nat) : State :=
  let done := s.barriers.filter fun b => b.tenant == t && b.closes ≤ s.frame && !s.earlierLeft b
  match done.getLast? with
  | none => s
  | some b =>
    let s := { s.setN (BARRIER.BARRIER_DONE t) b.id with barriers := s.barriers.filter fun b => !done.contains b }
    forEach (done.flatMap fun b => b.commits) (fun v s => s.commitTurn t v) s

/-- R80: at the acceptance of a tenant reset the open barriers of tenant t close, and the writes queued behind them go. -/
def State.barrierDrop (s : State) (t : Nat) : State :=
  match (s.barriers.filter fun b => b.tenant == t).head? with
  | none => s
  | some b =>
    { s with
      barriers := s.barriers.filter fun b => b.tenant != t
      landing := s.landing.filter fun l => !(l.tenant == t && b.closes < l.due && landCounts l.act)
      heldWrites := s.heldWrites.filter fun h => s.tenantAt h.ep != some t }

/-! ### Rows -/

def execCommitStageAck (t : Tenant) (s : State) : Host.Outcome State Fault Refusal := .next (s.stageAck t.val)
def execCommitStageAckTimeout (t : Tenant) (s : State) : Host.Outcome State Fault Refusal := .next (s.stageTimeout t.val)
def execSyncTimeout (p : CanPort) (s : State) : Host.Outcome State Fault Refusal := .next (s.syncTimeout p.val)

end Sys2Proof.Machine
end

