-- ==== Sys2Proof/Machine/Records.lean ====
section
/-!
DEFINITION. From a fault message to its record: the class in force (R306, R314), reaction shadows (R316 to R319), the
record and the rings it is directed to (R308).
-/
namespace Sys2Proof.Machine

/-- The site of the security engine (R465). -/
abbrev siteSecurity : Nat := 0x12000000

/-- R314: the class that an override table entry gives a kind. -/
def State.overrideOf (s : State) (k : Kind) : Option Nat :=
  ((List.range 64).find? fun i => k.code != 0 && s.nat (CLASS_OVERRIDE.OVERRIDE i) / 2 ^ 16 == k.code).map fun i =>
    s.nat (CLASS_OVERRIDE.OVERRIDE i) % 8

/-- R306: the class of a kind in force. -/
def State.classOf (s : State) (k : Kind) : Nat := (s.overrideOf k).getD k.defaultClass

/-- R315: what QUERY_RESULT reads for a kind code. -/
def State.queryKind (s : State) (c : Nat) : Nat :=
  match Kind.ofCode c with
  | none => 0xFFFFFFFF
  | some k => c * 65536 + k.defaultClass * 256 + k.floor * 16 + s.classOf k

/-- R318: the kinds that report an outcome. -/
def outcomeKind (k : Kind) : Bool :=
  k.code / 256 == 0x0C ||
    [Kind.FOLD, .STANDING_ENTERED, .RETRY_STARTED, .LOCKOUT_ENTERED, .COOLING_DONE, .HICCUP, .CONVERTER_LATCHED,
      .FAULT_RECORD_WRITTEN, .RESET_DONE, .CHANNEL_DIE_RESET].contains k

/-- R309: the channels that a site names, itself a channel, a bank, a half or a channel die. -/
def siteChannels (site : Nat) : List Nat :=
  let die := site / 2 ^ 29
  let block := site / 2 ^ 22 % 128
  let elem := field site 14 8
  if die = 0 || die = 7 then []
  else
    let base := (die - 1) * 128
    if elem < 0x80 then [base + block]
    else if elem < 0xC0 then (List.range 16).map (base + block / 16 * 16 + ·)
    else if elem < 0xE0 then (List.range 64).map (base + block / 64 * 64 + ·)
    else (List.range 128).map (base + ·)

/-- Whether a site is that of a channel or of an element of it, and then which channel. -/
def channelAt (site : Nat) : Option Nat :=
  if 1 ≤ site / 2 ^ 29 && site / 2 ^ 29 ≤ 4 && field site 14 8 < 0x80 then
    some ((site / 2 ^ 29 - 1) * 128 + site / 2 ^ 22 % 128)
  else none

/-- The block of a site of the control die. -/
def blockAt (site : Nat) : Option Nat := if site / 2 ^ 29 = 0 then some (site / 2 ^ 22 % 128) else none

/-- Whether a site is the engine of CVm or a block of one of its lanes. -/
def State.atConverter (s : State) (m site : Nat) : Bool :=
  match blockAt site with
  | none => false
  | some b => b == 0x30 + m || (0x10 ≤ b && b ≤ 0x2F && s.nat (LANE.CONVERTER (b % 16)) == m)

/-- R316: whether a shadow covers a site. -/
def State.covers (s : State) (x : Shadow) (site : Nat) : Bool :=
  match x.cause with
  | 1 => channelAt site == some x.subject
  | 2 => match channelAt site with
    | some n => (siteChannels x.subject).contains n
    | none => false
  | 3 | 11 => s.atConverter x.subject site
  | 4 => blockAt site == some (0x10 + x.subject) || blockAt site == some (0x20 + x.subject)
  | 5 => site == siteSwitch || blockAt site == some 0x31
  | 6 | 13 =>
    (match channelAt site with
     | some n => s.holderOfChannel n == x.subject
     | none => false) || (List.range 4).any fun m => s.holderOfConverter m == x.subject && s.atConverter m site
  | 7 => blockAt site == some (0x50 + x.subject) || site == siteDie x.subject 0xE4
  | 8 => site / 2 ^ 29 == x.subject + 1 || blockAt site == some (0x50 + x.subject)
  | 9 | 10 => site / 2 ^ 29 != 7
  | _ => false

/-- R318: whether a message is the one that caused a shadow: a trip's own, and a battery-switch trip's own. -/
def causesShadow (x : Shadow) (m : Msg) : Bool :=
  m.stamp == x.openStamp &&
    ((x.cause == 1 && [Kind.HARD_SHORT_TRIP, .LIMIT_TIMEOUT_TRIP, .WIRE_TRIP, .FET_TRIP, .RAMP_TIMEOUT_TRIP].contains m.kind) ||
      (x.cause == 5 && [Kind.SWITCH_SHORT_TRIP, .SWITCH_UV_CUTOFF].contains m.kind))

/-- Whether a shadow was open at a stamp. -/
def Shadow.openAt (x : Shadow) (stamp : Nat) : Bool := x.openStamp ≤ stamp && (x.closing == 0 || stamp < x.closing)

/-- R317 to R319: whether a message of class c is shadowed; the one that caused a reaction is by none. -/
def State.shadowed (s : State) (m : Msg) (c : Nat) : Bool :=
  !(5 ≤ c || outcomeKind m.kind || s.shadows.any fun x => causesShadow x m && s.covers x m.site) &&
    s.shadows.any fun x => x.openAt m.stamp && s.covers x m.site

/-- R308, R182, R359: the tenants to whose system rings the record of a kind about a tenant is directed. -/
def directed (k : Kind) (tenant : Nat) : List Nat :=
  if [Kind.UNDERVOLTAGE, .OVERVOLTAGE, .GOOD_CHANGED, .NOT_DISCHARGED].contains k then []
  else if k.code / 256 = 0x0E then [tenant]
  else [0, tenant]

/-- R327, R334: the record of a message of class c, with its continuation where its payload needs one. -/
def State.toPlacing (s : State) (m : Msg) (c : Nat) (shadow : Bool) : Placing :=
  let p := packFields 12 m.fields
  let obj := if m.kind = .MEMORY_CORRECTED || m.kind = .MEMORY_UNCORRECTABLE then 0 else m.obj
  { record := ⟨0, m.stamp, m.site, m.kind.code, if m.held then RT.HELD else RT.EVENT,
      s.untrusted + (if shadow then RF.SHADOW else 0), c, m.tenant, obj, p.1, 64⟩
    more := if p.2 = [] then none else some p.2
    direct := directed m.kind m.tenant }

/-- A class F0 message that the chapter wants first in its ring is recorded at once, or before what waits for a fence or for the
era (R80, R330, R346). -/
def State.recordNow (s : State) (k : Kind) (site tenant : Nat) (fields : List (Nat × Int)) : State :=
  let m : Msg := ⟨s.stamp, site, k, tenant, 0, fields, false⟩
  let s := s.count (FAULT_STATUS.COUNT_F 0) 0xFFFFFFFF
  if s.fenceHolds m.stamp || s.flag ERA_OPEN then { s with placing := s.toPlacing m 0 false :: s.placing }
  else s.placeRecord (s.toPlacing m 0 false)

end Sys2Proof.Machine
end

