-- ==== Sys2Proof/Machine/Security.lean ====
section
/-!
DEFINITION. Identity, attestation, sessions and authenticated access (chapter 21). The device's private key, its nonces and its
ephemeral keys are opaque constants of Config.
-/
namespace Sys2Proof.Machine

/-- A record about tenant t (R465). -/
def State.raiseSecurity (s : State) (k : Kind) (t : Nat) (fields : List (Nat × Int)) : State :=
  s.raise k siteSecurity t 0 (f8 t :: fields)

/-- R454, R458: whether the engine refuses every request: the key store is bad, or the random source has failed. -/
def State.engineRefuses (s : State) : Bool :=
  s.flag IDENTITY_DATA.IDENTITY_STATE || s.flag SECURITY_STATUS.RANDOM_STATE

/-! ### Attestation (R456, R457) -/

/-- R456: bytes 0 to 87 of an attestation for tenant t. -/
def State.attestFields (s : State) (t : Nat) (challenge : List Byte) : List Byte :=
  leBytes 2 1 ++ leBytes 1 t ++ leBytes 1 (bitOf (s.rtcFlag TFLAG.UNTRUSTED) + 2 * bitOf (s.flag SW_DRIFT)) ++
    leBytes 8 Config.serial ++ challenge ++ leInt 8 (s.get DEVICE_DIGEST.DIGEST) ++
    leInt 4 (s.get DEVICE_DIGEST.SNAPSHOT_FRAME) ++ leInt 2 (s.get DEVICE_DIGEST.SNAPSHOT_GENERATION) ++
    leInt 2 (s.get DEVICE_DIGEST.GLOBAL_GENERATION) ++ leInt 8 (s.get (TENANT_DIGEST.DIGEST_TN t)) ++
    leInt 2 (s.get (TENANT_GENERATION.SNAP_GEN_TN t)) ++ leBytes 2 0 ++ leBytes 8 s.stamp ++ leBytes 8 s.rtcCount

/-- R456: an ATTEST_CHALLENGE is accepted. -/
def State.attest (s : State) (t : Nat) (challenge : List Byte) : State :=
  let job : SignJob := ⟨t, false, s.attestFields t challenge⟩
  { s.setN (ATTEST_CONTROL.ATTEST_STATE t) 1 with signing := s.signing ++ [job] }

/-- The number of the next random value drawn, and the state after. -/
def State.draw (s : State) : Nat × State := (s.free, { s with free := s.free + 1 })

/-- R456, R457: the engine finishes the attestation at the head of its queue. -/
def State.attested (s : State) : State :=
  match s.signing, s.live with
  | ⟨t, false, d⟩ :: r, true =>
    let n := s.draw
    let s := { n.2 with signing := r }
    let s := s.setBlob (ATTEST_CONTROL.ATTESTATION t) (d ++ deviceSign n.1 (sha256 d))
    let s := (s.setN (ATTEST_CONTROL.ATTEST_STATE t) 2).wrapCount SECURITY_STATUS.SIGNATURES 32
    s.raiseSecurity .ATTESTATION_SIGNED t [f16 (ofLE ((d.drop 56).take 2))]
  | _, _ => s

/-! ### Sessions (R459, R460) -/

/-- R460: the session of tenant t ends, for a cause; an opening is abandoned. -/
def State.sessionEnd (s : State) (t cause : Nat) : State :=
  let was := s.nat (SESSION_CONTROL.SESSION_STATE t)
  let s := { s with signing := s.signing.filter fun j => !(j.session && j.tenant == t) }
  let s := (s.setBlob (KEY_HD t) []).setBlob (KEY_DH t) []
  let s := (s.setN (SESSION_ID t) 0).setN (SESSION_CONTROL.SESSION_STATE t) 0
  if was = 2 then s.raiseSecurity .SESSION_CLOSED t [f8 cause] else s

/-- R459: a SESSION_OPEN is accepted. -/
def State.sessionOpen (s : State) (t : Nat) (hostKey : List Byte) : State :=
  let s := s.sessionEnd t 1
  { s.setN (SESSION_CONTROL.SESSION_STATE t) 1 with signing := s.signing ++ [⟨t, true, hostKey⟩] }

/-- The bytes "BN7512" of R459. -/
def sessionLabel : List Byte := asciiBytes "BN7512"

/-- R459: the engine finishes the session opening at the head of its queue. -/
def State.sessionOpened (s : State) : State :=
  match s.signing, s.live with
  | ⟨t, true, host⟩ :: r, true =>
    let n := s.draw
    let s := ({ n.2 with signing := r } : State).setFree (SESSION_ID t) 0 0xFFFFFFFF
    let id := leInt 4 (s.get (SESSION_ID t))
    let dev := P256.publicOf (ephemeralKey n.1)
    let h := sha256 ([0, 0, 0, 1] ++ P256.shared (ephemeralKey n.1) host ++ sessionLabel ++ leBytes 1 t ++ id ++ host ++ dev)
    let s := (s.setBlob (KEY_HD t) (h.take 16)).setBlob (KEY_DH t) ((h.drop 16).take 16)
    let sig := deviceSign n.1 (sha256 (host ++ dev ++ id ++ leBytes 1 t ++ leBytes 8 Config.serial))
    let s := s.setBlob (SESSION_CONTROL.SESSION_REPLY t) (dev ++ id ++ sig)
    let s := (s.setN (SESSION_CONTROL.SESSION_STATE t) 2).setN (SESSION_CONTROL.LAST_COUNTER t) 0
    let s := (s.wrapCount SECURITY_STATUS.SIGNATURES 32).wrapCount SECURITY_STATUS.SESSIONS_OPENED 32
    s.raiseSecurity .SESSION_OPENED t [f32 (s.get (SESSION_ID t))]
  | _, _ => s

/-! ### Envelopes (R462 to R464) -/

/-- The fields of an envelope before its value: COUNTER, ADDRESS, LENGTH. -/
def envCounter (b : List Byte) : Nat := ofLE (b.take 4)
/-- ADDRESS of an envelope. -/
def envAddress (b : List Byte) : Nat := ofLE ((b.drop 4).take 3)
/-- LENGTH of an envelope. -/
def envLength (b : List Byte) : Nat := ofLE ((b.drop 7).take 2)
/-- The value of a write envelope. -/
def envValue (b : List Byte) : List Byte := (b.drop 9).take (envLength b)

/-- R462: the cause for which an envelope of tenant t fails, if it does. sized: whether its size check holds. -/
def State.envelopeFailure (s : State) (t : Nat) (b : List Byte) (sized : Bool) : Option Nat :=
  let body := b.take (b.length - 8)
  if s.nat (SESSION_CONTROL.SESSION_STATE t) != 2 then some 1
  else if !sized then some 2
  else if b.drop (b.length - 8) != cmac (s.blob (KEY_HD t)) (leInt 4 (s.get (SESSION_ID t)) ++ body) then some 3
  else if envCounter b ≤ s.nat (SESSION_CONTROL.LAST_COUNTER t) then some 4
  else none

/-- R463: an envelope fails. -/
def State.envelopeFails (s : State) (t cause : Nat) (b : List Byte) : State :=
  let s := (s.count (SESSION_CONTROL.AUTH_FAILURES t) 0xFFFF).count SECURITY_STATUS.AUTH_FAILED_TOTAL 0xFFFFFFFF
  let s := s.raiseSecurity .AUTH_FAILED t [f8 cause, f32 (envCounter b)]
  if 16 ≤ s.nat (SESSION_CONTROL.AUTH_FAILURES t) && s.nat (SESSION_CONTROL.SESSION_STATE t) == 2 then s.sessionEnd t 4
  else s

/-- R462, R463: an envelope passes its checks. -/
def State.envelopePasses (s : State) (t : Nat) (b : List Byte) : State :=
  (s.setN (SESSION_CONTROL.LAST_COUNTER t) (envCounter b)).setN (SESSION_CONTROL.AUTH_FAILURES t) 0

/-- R460: the counter of an accepted envelope is spent. -/
def State.counterSpent (s : State) (t : Nat) (b : List Byte) : State :=
  if envCounter b = 0xFFFFFFFF then s.sessionEnd t 3 else s

/-- R464: the reply to a read envelope. -/
def State.readReply (s : State) (t : Nat) (b : List Byte) (abort : Nat) (v : List Byte) : State :=
  let body := b.take 7 ++ leBytes 4 abort ++ leBytes 2 v.length ++ v
  s.setBlob (SESSION_CONTROL.AUTH_READ_REPLY t)
    (body ++ cmac (s.blob (KEY_DH t)) (leInt 4 (s.get (SESSION_ID t)) ++ body))

/-! ### The random source (R458) -/

/-- R458: a self-test of the random source fails; what is queued is refused. -/
def State.randomFails (s : State) (test : Nat) : State :=
  let s := forBelow 16 (fun t s =>
    let s := if s.nat (SESSION_CONTROL.SESSION_STATE t) = 1 then s.setN (SESSION_CONTROL.SESSION_STATE t) 0 else s
    if s.nat (ATTEST_CONTROL.ATTEST_STATE t) = 1 then s.setN (ATTEST_CONTROL.ATTEST_STATE t) 0 else s)
    { s with signing := [] }
  (s.setN SECURITY_STATUS.RANDOM_STATE 1).raise .RANDOM_SOURCE_FAULT siteSecurity 0 0 [f8 test]

/-- R457, R460: a device-level reset or a Park exit discards every request, attestation and session. -/
def State.securityClears (s : State) : State :=
  forBelow 16 (fun t s =>
    let s := (s.setBlob (KEY_HD t) []).setBlob (KEY_DH t) []
    let s := (s.setBlob (ATTEST_CONTROL.ATTESTATION t) []).setBlob (SESSION_CONTROL.SESSION_REPLY t) []
    (s.setBlob (SESSION_CONTROL.AUTH_READ_REPLY t) []).setN (SESSION_ID t) 0) { s with signing := [] }

/-! ### Rows that the engine brings -/

def execAttestationSigned (s : State) : Host.Outcome State Fault Refusal := .next s.attested
def execSessionOpened (s : State) : Host.Outcome State Fault Refusal := .next s.sessionOpened
def execRandomSourceFault (test : Nat) (s : State) : Host.Outcome State Fault Refusal := .next (s.randomFails test)

end Sys2Proof.Machine
end

