-- ==== Sys2Proof/Machine/Reads.lean ====
section
/-!
DEFINITION. What a read returns (R35, R502): the computed objects, the byte strings, the checks of a read (R32, R33, R455,
R461), and what a read changes (R103, R339).
-/
namespace Sys2Proof.Machine

/-- Whether the ports of the device accept accesses (R268). -/
def State.portsReady (s : State) : Bool := s.live && s.flag PORTS_READY

/-- The mask of the numbers below n for which f holds. -/
def maskBelow (n : Nat) (f : Nat → Bool) : Nat := ((List.range n).map fun i => if f i then 2 ^ i else 0).sum

/-! ### Retained SRAM (R450) -/

/-- A retained region: its bytes followed by their CRC-32C. -/
def withCrc (b : List Byte) : List Byte := b ++ leBytes 4 (crc32c b)

/-- R450: the retained SRAM as RETAINED_DATA shows it. -/
def State.retained (s : State) : List Byte :=
  let soc := leInt 2 (s.get RET_SOCI) ++ leInt 2 (s.get RET_SOC) ++ leBytes 3 (s.nat RET_CAPACITY)
  let entry := leBytes 8 (s.nat RET_ENTRY) ++ leBytes 1 (s.nat RET_SKIP) ++ leBytes 1 0 ++ leBytes 2 (s.nat RET_PROFILE_SKIP) ++
    leBytes 4 (s.nat RET_ENTRY_TIME) ++ leBytes 4 0
  let counts := leBytes 4 (s.nat RESET_CONTROL.DEVICE_RESETS) ++ leBytes 2 (s.nat POWER_STATE.PARK_ENTRIES) ++
    leBytes 2 (s.nat POWER_STATE.PARK_ABORTS) ++ leBytes 2 (s.nat SHIP_CONTROL.LONG_PRESSES) ++
    leBytes 2 (s.nat SHIP_CONTROL.SHIP_ENTRIES) ++ leBytes 4 (s.nat SHIP_CONTROL.LAST_SHIP_DURATION) ++
    leBytes 4 (s.nat POWER_STATE.LAST_PARK_DURATION) ++ leBytes 4 (s.nat RET_STOPS) ++ leBytes 4 (s.nat RET_LOCKOUTS) ++
    leBytes 2 (s.nat DEVICE_WATCHDOG.WDX_RESETS) ++ leBytes 14 0
  let expiries := (List.range 16).flatMap fun t => leBytes 2 (s.nat (WATCHDOG.EXPIRY_COUNT t))
  let cascades := leBytes 8 (s.nat (RET_CASCADE 0) - 1) ++ leBytes 8 (s.nat (RET_CASCADE 1) - 1) ++
    leBytes 1 (s.nat RET_CASCADES) ++ leBytes 3 0
  let keeper := leBytes 2 (maskBelow 16 fun r => s.flag (RSO_KEEP r)) ++ leBytes 4 (s.nat RET_RETRY) ++
    leBytes 1 (s.nat RET_PORT) ++ leBytes 1 0 ++ leBytes 2 (s.nat RET_COB) ++ leBytes 2 (s.nat RET_RATE) ++
    leBytes 2 (s.nat RET_SAMPLE) ++ leBytes 6 0
  withCrc (leBytes 8 (s.nat RET_STAMP) ++ leBytes 4 0) ++ (soc ++ leBytes 1 (crc32c soc)) ++ withCrc entry ++
    withCrc counts ++ withCrc (expiries ++ leBytes 4 0) ++ withCrc (padTo 32 (s.blob FAULT_STATUS.LAST_STOP) ++ leBytes 4 0) ++
    withCrc cascades ++ withCrc keeper ++ withCrc (leBytes 8 (s.nat RET_ENTERED) ++ leBytes 4 0) ++ List.replicate 784 0

/-! ### Computed objects -/

/-- STATE of tenant t (R65, R67, R80). -/
def State.tenantState (s : State) (t : Nat) : Nat :=
  if s.resetPending t then 3
  else if s.nat (TENANT.ENDPOINT t) = 0 then 0
  else if s.admitted t then 2 else 1

/-- R68: the read-back of a resource field of TENANT0. -/
def State.arbiterField (s : State) (sub : Nat) : Option Int :=
  if sub = 0x02 then some 1
  else if 0x0A ≤ sub && sub ≤ 0x11 then some (maskBelow 64 fun i => s.holderOfChannel (64 * (sub - 0x0A) + i) == 0)
  else if sub = 0x1A then some (maskBelow 16 fun g => s.holderOfBudget g == 0)
  else if sub = 0x1B then some (maskBelow 64 fun g => s.holderOfGroup g == 0)
  else if sub = 0x1C then some (maskBelow 64 fun p => s.holderOfPair p == 0)
  else if sub = 0x1D then
    some ((maskBelow 4 fun m => s.holderOfConverter m == 0) + s.nat (TENANT.CONVERTERS 0) / 16 * 16)
  else if sub = 0x1E then some (maskBelow 32 fun d => s.holderOfStream d == 0)
  else if sub = 0x1F then some (maskBelow 64 fun g => s.holderOfTarget g == 0)
  else if sub = 0x20 then some 0
  else if sub = 0x21 then some 1
  else none

/-- R375: ERROR_REGISTER of tenant t. -/
def State.errorRegister (s : State) (t : Nat) : Nat :=
  bitOf (((List.range 512).any fun n => s.cell n == ST.LOCKOUT && s.holderOfChannel n == t) ||
    (List.range 4).any fun m => s.conv m == CS.LATCHED && s.holderOfConverter m == t)

/-- COB_ID_EMCY of tenant t (R374). -/
def State.emcyId (s : State) (t : Nat) : Nat :=
  match s.canPortOf t with
  | some _ => 0x80 + s.nat (TENANT.ENDPOINT t) % 256
  | none => 0x80000000

/-- The computed objects of the device core and the tenants. -/
def State.viewCore (s : State) (t idx sub : Nat) : Option Int :=
  if idx = 0x1001 then some (s.errorRegister t)
  else if idx = 0x1014 && sub != 0 then some (s.emcyId (sub - 1))
  else if idx = 0x1018 && sub = 3 then some (Config.siliconRevision % 2 ^ 32 : Nat)
  else if idx = 0x1018 && sub = 4 then some (Config.serial % 2 ^ 32 : Nat)
  else if idx = 0x2011 then some s.frameNumber
  else if idx = 0x2022 then
    let v := s.nat STRAPS.STRAP_VALUE
    match sub with
    | 2 => some (v % 8 : Nat)
    | 3 => some (v / 8 % 8 : Nat)
    | 4 => some (bitOf (v.testBit 6))
    | 5 => some (0x52 + v / 128 : Nat)
    | _ => none
  else if idx = 0x2030 && sub = 4 then some Config.vcoreTrim
  else if 0x2300 ≤ idx && idx < 0x2310 then
    if sub = 4 then some (s.tenantState (idx - 0x2300))
    else if idx = 0x2300 then s.arbiterField sub else none
  else if idx = 0x2310 && sub = 7 then some (s.stagedCount t)
  else if idx = 0x2310 && sub = 8 then some (s.nat (TENANT_GENERATION.GEN_TN t))
  else none

/-- THROTTLE_TIME of die d, ms (R420). -/
def State.throttleTime (s : State) (d : Nat) : Nat :=
  satTo 0xFFFFFFFF ((s.nat (THR_SPENT d) + (if s.flag (THR_SINCE d) then s.time + 1 - s.nat (THR_SINCE d) else 0)) / 1000)

/-- BUS_STATE of the two-wire bus (R396): with nothing seen on it for 50 µs after a transfer or an opening it is free. -/
def State.busState (s : State) : Nat :=
  let b := s.nat TWO_WIRE_STATUS.BUS_STATE
  if b = 1 && s.portsReady && !s.flag TWO_WIRE_STATUS.BUS_FLAGS && s.nat TW_FREE_FROM + 50 ≤ s.time then 0 else b

/-- The computed objects of housekeeping, watchdogs, clock, identity, event fabric, DMA and keeper. -/
def State.viewDevice (s : State) (idx sub : Nat) : Option Int :=
  if idx = 0x2101 && sub = 1 then some s.busState
  else if idx = 0x2400 && sub = 4 then some (((List.range 5).map fun d => s.nat (THERMAL_DIE.DIE_STATE d) * 4 ^ d).sum : Nat)
  else if 0x2401 ≤ idx && idx < 0x2406 && sub = 6 then some (s.throttleTime (idx - 0x2401))
  else if idx = 0x2500 && sub = 3 then some (maskBelow 64 fun e => s.bit (HK_ENTRY.ENTRY_STATUS e) 0)
  else if idx = 0x2500 && sub = 4 then some (maskBelow 64 fun e => s.bit (HK_ENTRY.ENTRY_STATUS e) 1)
  else if 0x2600 ≤ idx && idx < 0x2610 && sub = 0x0C then some (s.wdLifetime (idx - 0x2600))
  else if idx = 0x2610 && sub = 3 then some s.wdxLifetime
  else if idx = 0x2700 && sub = 1 then some s.rtcCount
  else if idx = 0x2700 && sub = 3 then some (calendarOf s.rtcSeconds)
  else if idx = 0x2800 && sub = 1 then some (Config.serial % 2 ^ 64 : Nat)
  else if idx = 0x2800 && sub = 4 then some (Config.siliconRevision % 2 ^ 32 : Nat)
  else if idx = 0x2900 && sub = 1 then some s.stamp
  else if idx = 0x2900 && sub = 3 then some s.poolReserved
  else if idx = 0x2900 && sub = 6 then some (bitOf (s.rtcFlag TFLAG.UNTRUSTED))
  else if 0x2910 ≤ idx && idx < 0x2950 && sub = 5 then some (s.tgHead (idx - 0x2910))
  else if 0x2910 ≤ idx && idx < 0x2950 && sub = 8 then some (s.tgPending (idx - 0x2910))
  else if idx = 0x2A00 && sub = 1 then
    some ((List.range 1024).filter fun d => (s.streamOfDescriptor d).isNone).length
  else if idx = 0x2A00 && sub = 4 then some (maskBelow 32 fun d => s.nat (inForce (STREAM.RUN d)) == 1)
  else if idx = 0x2C03 && sub = 5 then some (maskBelow 4 fun d => !s.flag (HEART_LOST d))
  else none

/-- The computed objects of converters, battery path, channels, groups and rings. -/
def State.viewUnits (s : State) (idx sub : Nat) : Option Int :=
  if 0x2D20 ≤ idx && idx < 0x2D24 && sub = 0x0D then some (s.nat (CONV_LIFE (idx - 0x2D20)))
  else if 0x2D28 ≤ idx && idx < 0x2D2C && sub = 0x0B then some (s.convWindowStatus (idx - 0x2D28))
  else if 0x2D40 ≤ idx && idx < 0x2D50 && sub = 6 then some (s.laneState (idx - 0x2D40))
  else if idx = 0x2E00 && sub = 0x0E then some (s.nat SHIP_CONTROL.SHIP_STATE)
  else if idx = 0x2E09 && sub = 9 then some ((s.time - s.nat CH_PHASE_AT) / 1000000 : Nat)
  else if idx = 0x2E11 && sub = 6 then some s.sessionTime
  else if 0x3400 ≤ idx && idx < 0x3600 && [3, 5, 7, 8].contains sub && !s.shuntSet (idx - 0x3400) then
    some (notAvailable .i32)
  else if 0x3400 ≤ idx && idx < 0x3600 && sub = 2 then
    some (putBit (s.nat (CHANNEL_STATUS.FLAGS (idx - 0x3400))) FLAG.TRUMP_HELD (s.trumpHeld (idx - 0x3400)) : Nat)
  else if 0x3400 ≤ idx && idx < 0x3600 && sub = 0x0E then
    some (satTo 0xFFFFFFFF (s.time - s.nat (CAL_AT (idx - 0x3400))))
  else if 0x3600 ≤ idx && idx < 0x3800 then
    let n := idx - 0x3600
    let c := fun k => s.get (k n)
    if sub = 0x0B then some (s.windowStatus n)
    else if 0x0C ≤ sub && sub ≤ 0x0F then
      some (levelView sub (c CHANNEL_SUPERVISION.UV_LEVEL) (c CHANNEL_SUPERVISION.UV_HYST)
        (c CHANNEL_SUPERVISION.OV_LEVEL) (c CHANNEL_SUPERVISION.OV_HYST))
    else if sub = 0x1A then some (satTo 0xFFFFFFFF (s.nat (LIFE_STORED n) + s.nat (LIFE_NEW n)))
    else none
  else if 0x3830 ≤ idx && idx < 0x3870 then
    let g := idx - 0x3830
    if sub = 0x0B then some (s.members g).length
    else if sub = 0x0C then some (bitOf (s.groupGood g))
    else if sub = 0x0D then some ((s.members g).filter fun n => s.bit (WIN n) WFLAG.NOT_DISCHARGED).length
    else none
  else if 0x4000 ≤ idx && idx < 0x6000 && sub = 0x0A then some (s.ringCount (idx - 0x4000))
  else none

/-- R35, R44: the value of a numeric subindex as tenant t reads it: what the control die holds. -/
def State.readInt (s : State) (t addr : Nat) : Int :=
  let s := s.control
  let idx := addr / 256
  let sub := addr % 256
  let v := if idx < 0x2100 || (0x2200 ≤ idx && idx < 0x2400) then s.viewCore t idx sub else if idx < 0x2D00 then s.viewDevice idx sub else s.viewUnits idx sub
  v.getD (s.get (keyOf t addr))

/-- R354: the mailbox of stream d as a read sees it: while a local descriptor of the stream is in progress, each byte that it
writes is the old or the new one, and nothing says which. -/
def State.mailboxBytes (s : State) (d : Nat) : List Byte :=
  let old := padTo 8192 (s.blob (MAILBOX.DATA d))
  let off := s.nat (DMA_WORD 1)
  let new := s.blob DMA_DATA
  if s.nat DMA_BUSY = d + 1 && s.nat (DMA_WORD 0) / 2 ^ 56 % 16 = 1 then
    ((List.range 8192).zip (old.zip (List.replicate off 0 ++ new ++ List.replicate (8192 - off - new.length) 0))).map fun p =>
      if off ≤ p.1 && p.1 < off + new.length && Config.mailboxMixed s.time d p.1 then p.2.2 else p.2.1
  else old

/-- The bytes of a string or domain as tenant t reads it. -/
def State.readString (s : State) (t addr : Nat) : List Byte :=
  let idx := addr / 256
  if addr = DEVICE_NAME then asciiBytes "BN7512"
  else if addr = IDENTITY_DATA.DEVICE_PUBLIC_KEY then devicePublicKey
  else if addr = IDENTITY_DATA.CERTIFICATE then deviceCertificate
  else if addr = RETAINED.RETAINED_DATA then s.retained
  else if addr = BATTERY_RECORD.RECORD then s.batteryRecord ((s.nat BATTERY_RECORD.SEQUENCE + 1) % 2 ^ 32)
  else if 0x2A60 ≤ idx && idx < 0x2A80 then s.mailboxBytes (idx - 0x2A60)
  else if 0x4000 ≤ idx && idx < 0x6000 then (s.popped (idx - 0x4000) 32).flatMap Record.bytes
  else s.blob (keyOf t addr)

/-- The value of a subindex in bytes (R31); nothing where there is none. -/
def State.readBytes (s : State) (t addr : Nat) : List Byte :=
  match subAt addr with
  | none => []
  | some r => if r.ty.isString then s.readString t addr else r.ty.encode (s.readInt t addr)

/-! ### Checks and effects of a read -/

/-- Whether an address is the RECORDS of a ring. -/
def isRecords (addr : Nat) : Bool := 0x4000 ≤ addr / 256 && addr / 256 < 0x6000 && addr % 256 == 0x0D

/-- R33, R32, R339, R455, R461: why a read is refused. -/
def State.readCheck (s : State) (t : Option Nat) (via : Via) (addr : Nat) : Option Abort :=
  orElse (existenceCheck addr)
    (match subAt addr, t with
     | none, _ => some .noSubindex
     | some r, none => if isPublic addr then (if r.acc = .wo then some .writeOnly else none) else some .notPermitted
     | some r, some t =>
       if r.acc = .wo then some .writeOnly
       else if isRecords addr then refuseIf (!s.mayPop t (addr / 256 - 0x4000)) .notPermitted
       else
         refuseIf (via == .plain && s.nat (AUTH_POLICY.AUTH_MODE_TN t) == 2 && !isPublic addr && !openUnwrapped addr)
           .notPermitted)

/-- R467: the server time, in 10 ns, of n accesses that move so many bytes of strings: 0.25 µs each and 0.02 µs for each
8 bytes, doubled with each level below P0. -/
def State.countAccess (s : State) (n bytes : Nat) : State :=
  s.setN LOAD_ACCESS (s.nat LOAD_ACCESS + (25 * n + 2 * ((bytes + 7) / 8)) * 2 ^ s.nat PERFORMANCE.LEVEL_IN_FORCE)

/-- R103, R339: what a read by tenant t changes: its peak starts anew, or the records read leave the ring. -/
def State.afterRead (s : State) (t addr : Nat) : State :=
  let idx := addr / 256
  if isRecords addr then s.afterPop (idx - 0x4000) 32
  else if 0x3400 ≤ idx && idx < 0x3600 && (addr % 256 == 8 || addr % 256 == 9) then s.restore (keyOf t addr)
  else s

end Sys2Proof.Machine
end

