-- ==== Sys2Proof/Machine/Dma.lean ====
section
/-!
DEFINITION. DMA streams (chapter 14): descriptors, the engine's turns, sources and destinations, completion, bad
descriptors and periodic passes.
-/
namespace Sys2Proof.Machine

/-- R359: the site of stream d. -/
def siteStream (d : Nat) : Nat := 0x02404000 + d

/-- A DMA record of stream d, in the name of its holder. -/
def State.raiseStream (s : State) (k : Kind) (d : Nat) (fields : List (Nat × Int)) : State :=
  s.raise k (siteStream d) (s.holderOfStream d) 0 (f8 d :: fields)

/-! ### Descriptors (R349, R350) -/

/-- The address of word w of descriptor k. -/
def descWord (k w : Nat) : Nat := (0x2A40 + k / 32) * 256 + 1 + 4 * (k % 32) + w

/-- The descriptor whose word an address names. -/
def descAt (addr : Nat) : Nat := 32 * (addr / 256 - 0x2A40) + (addr % 256 - 1) / 4

/-- The number of descriptors of stream d. -/
def State.descCount (s : State) (d : Nat) : Nat := s.nat (STREAM.DESC_COUNT d)

/-- The descriptor at an offset of the range of stream d. -/
def State.descOf (s : State) (d off : Nat) : Nat := s.nat (STREAM.DESC_BASE d) + off

/-- HEAD of stream d. -/
def State.dsHead (s : State) (d : Nat) : Nat := s.nat (STREAM.HEAD d)

/-- The offsets that lie before a TAIL: in queue mode from HEAD up to it, wrapping; in periodic mode from 0. -/
def State.offsetsTo (s : State) (d tail : Nat) : List Nat :=
  if s.nat (STREAM.MODE d) = 1 then List.range tail
  else
    let c := s.descCount d
    let h := s.dsHead d
    (List.range ((tail + c - h) % c)).map fun i => (h + i) % c

/-- Whether RUN of stream d is 1. -/
def State.dsRuns (s : State) (d : Nat) : Bool := s.nat (inForce (STREAM.RUN d)) == 1

/-- R350, R358: whether a write to a word of descriptor k is refused: it is pending or being run with its table, or lies below TAIL of a
periodic stream that runs. -/
def State.descBusy (s : State) (k : Nat) : Bool :=
  match s.streamOfDescriptor k with
  | none => false
  | some d =>
    ((s.nat (STREAM.MODE d) != 1 || s.dsRuns d || s.nat (STREAM.RUN d) == 1) &&
      ((s.offsetsTo d (s.nat (STREAM.TAIL d))).any fun o => s.descOf d o == k)) ||
    (s.nat DMA_BUSY == d + 1 &&
      (List.range (s.nat DMA_SLOTS)).any fun i => s.descOf d ((s.dsHead d + i) % max 1 (s.descCount d)) == k)

/-- R350: why a TAIL write of a value is refused. -/
def State.tailCheck (s : State) (d v : Nat) : Option Abort :=
  if s.descCount d ≤ v then some .tooHigh
  else refuseIf (s.nat (STREAM.MODE d) != 1 && v == s.dsHead d && s.nat (STREAM.TAIL d) != s.dsHead d) .outOfRange

/-! ### The word fields -/

abbrev DW.srcKind (w : Nat) : Nat := field w 60 4
abbrev DW.dstKind (w : Nat) : Nat := field w 56 4
abbrev DW.notify (w : Nat) : Bool := w.testBit 55
abbrev DW.completion (w : Nat) : Bool := w.testBit 54
abbrev DW.length (w : Nat) : Nat := field w 32 16
abbrev DW.src (w : Nat) : Nat := field w 0 24

/-- The slots of an index table of n elements. -/
def tableSlots (n : Nat) : Nat := (n + 5) / 6

/-- The slots that a descriptor with word 0 takes: an index table goes with it. -/
def slotsOf (w0 : Nat) : Nat :=
  if DW.srcKind w0 = 4 && DW.length w0 ≤ 240 then 1 + tableSlots (DW.length w0) else 1

/-- How many descriptors of stream d stand from HEAD on, before TAIL in force. -/
def State.dsLeft (s : State) (d : Nat) : Nat :=
  let tail := s.nat (inForce (STREAM.TAIL d))
  if s.nat (STREAM.MODE d) = 1 then (if s.flag (PASS_RUNS d) then tail - s.dsHead d else 0)
  else (s.offsetsTo d tail).length

/-- R351: whether stream d has a descriptor for the engine: its index table is covered by TAIL. -/
def State.dsReady (s : State) (d : Nat) : Bool :=
  s.dsRuns d && s.dsLeft d != 0 &&
    slotsOf (s.nat (inForce (descWord (s.descOf d (s.dsHead d)) 0))) ≤ s.dsLeft d

/-- STREAM_STATE of stream d follows: stopped, running, idle or stopping. -/
def State.dsShow (s : State) (d : Nat) : State :=
  s.setN (STREAM.STREAM_STATE d)
    (if s.dsRuns d then (if s.dsReady d || s.nat DMA_BUSY == d + 1 then 1 else 2)
     else if s.nat DMA_BUSY = d + 1 then 3 else 0)

/-! ### Stopping (R351) -/

/-- The objects of stream d return to their defaults, its descriptors with them. -/
def State.dsDefaults (s : State) (d : Nat) : State :=
  let s := forEach [STREAM.RUN d, STREAM.TAIL d] (fun k s => (s.restore k).restore (inForce k)) s
  let s := forEach [STREAM.MODE d, STREAM.PERIOD d, STREAM.COMPLETION_ADDRESS d, STREAM.HEAD d, PASS_RUNS d, PASS_AT d,
    TAIL_DUE d, STREAM_CAUSE d] (fun k s => s.restore k) s
  let s := forBelow (s.descCount d) (fun o s =>
    let k := s.descOf d o
    forBelow 4 (fun w s => (s.restore (descWord k w)).restore (inForce (descWord k w))) (s.restore (DESC_DOOMED k))) s
  s.dsShow d

/-- Stream d has stopped for the cause it was given; a tenant reset and a Park entry return it to its defaults. -/
def State.dsStopped (s : State) (d : Nat) : State :=
  let cause := s.nat (STREAM_CAUSE d) - 1
  let s := (s.setN (STREAM_CAUSE d) 0).setN (PASS_RUNS d) 0
  let s := (s.raiseStream .STREAM_STOPPED d [f8 cause, f16 (s.dsHead d)]).setN (STREAM.STREAM_STATE d) 0
  if cause = 0 then s else s.dsDefaults d

/-- R351: stream d stops for a cause: 0 RUN, 1 tenant reset, 2 Park. The descriptor in progress finishes first. -/
def State.dsStop (s : State) (d cause : Nat) : State :=
  if s.nat (STREAM.STREAM_STATE d) = 0 then (if cause = 0 then s else s.dsDefaults d)
  else
    let s := ((s.setN (inForce (STREAM.RUN d)) 0).setN (STREAM.RUN d) 0).setN (STREAM_CAUSE d) (cause + 1)
    if s.nat DMA_BUSY = d + 1 then s.setN (STREAM.STREAM_STATE d) 3 else s.dsStopped d

/-- RUN of stream d lands. -/
def State.dsRun (s : State) (d v : Nat) : State :=
  if v = 1 then ((s.setN (inForce (STREAM.RUN d)) 1).setN (STREAM_CAUSE d) 0).dsShow d
  else
    let s := s.setN (inForce (STREAM.RUN d)) 0
    if s.nat (STREAM.STREAM_STATE d) = 0 then s
    else
      let s := s.setN (STREAM_CAUSE d) 1
      if s.nat DMA_BUSY = d + 1 then s.setN (STREAM.STREAM_STATE d) 3 else s.dsStopped d

/-- R350: TAIL of stream d takes a value; word 3 of each descriptor that becomes pending returns to 0. -/
def State.dsTail (s : State) (d v : Nat) : State :=
  let before := s.offsetsTo d (s.nat (inForce (STREAM.TAIL d)))
  let s := s.setN (inForce (STREAM.TAIL d)) v
  let new := (s.offsetsTo d v).filter fun o => !before.contains o
  (forEach new (fun o s => (s.setN (descWord (s.descOf d o) 3) 0).setN (DESC_DOOMED (s.descOf d o)) 0) s).dsShow d

/-- R350, R358: TAIL of stream d lands; while a periodic stream runs it lands at the next pass. -/
def State.dsTailLands (s : State) (d v : Nat) : State :=
  if s.nat (STREAM.MODE d) = 1 then
    if s.dsRuns d then s.setN (TAIL_DUE d) (v + 1) else s.setN (inForce (STREAM.TAIL d)) v
  else s.dsTail d v

/-- R269: every stream at its defaults, nothing in progress and the mailboxes empty. -/
def State.dmaClears (s : State) : State :=
  let s := forEach [DMA_BUSY, DMA_LAST, DMA_DESC, DMA_SLOTS, DMA_CHECK, DMA_RECORD_AT, DMA_LOST, DMA_REARMED] (fun k s => s.restore k) s
  let s := (forBelow 3 (fun w s => s.restore (DMA_WORD w)) s).setBlob DMA_DATA []
  forBelow 32 (fun d s => (s.dsDefaults d).setBlob (MAILBOX.DATA d) []) s

/-! ### Sources (R352, R353) -/

/-- The e-th entry of the index table of the descriptor at offset `off` of stream d (6 in each table slot). -/
def State.tableEntry (s : State) (d off e : Nat) : Nat :=
  let o := off + 1 + e / 6
  let k := s.descOf d (if s.nat (STREAM.MODE d) = 1 then o else o % s.descCount d)
  field (s.nat (inForce (descWord k (e % 6 / 2)))) (32 * (e % 2)) 32

/-- R352, R357: the ERROR of one table entry, for the holder t. -/
def State.entryError (s : State) (t v : Nat) : Nat :=
  let addr := v % 2 ^ 24
  match subAt addr with
  | none => 1
  | some r =>
    if field v 24 6 != 0 then 7
    else if r.ty.isString || r.ty.size != 2 ^ (v / 2 ^ 30) then 2
    else if (s.readCheck (some t) .doorbell addr).isSome then 3 else 0

/-- The first error of a list of codes. -/
def firstError (l : List Nat) : Nat := (l.find? (· != 0)).getD 0

/-- R339: the records that pops of up to 32 take from a list, up to n in all. -/
def popRecords : Nat → Nat → List Record → List Record
  | 0, _, _ => []
  | fuel + 1, n, l =>
    let k := popLength (min n 32) l
    if k = 0 then [] else l.take k ++ popRecords fuel (n - k) (l.drop k)

/-- The error of the source of stream d's descriptor at HEAD, and the bytes that it gives, before anything is changed. -/
def State.dmaSource (s : State) (d w0 w2 : Nat) : Nat × List Byte :=
  let t := s.holderOfStream d
  let src := DW.src w0
  let len := DW.length w0
  let off := w2 % 2 ^ 32
  let part := fun (b : List Byte) => (0, (b.drop off).take len)
  match DW.srcKind w0 with
  | 0 =>
    if (existenceCheck src).isSome then (1, [])
    else if (s.readCheck (some t) .doorbell src).isSome then (3, [])
    else part (s.readBytes t src)
  | 1 =>
    if 8192 ≤ src then (1, [])
    else if !s.mayPop t src then (3, [])
    else (0, (popRecords 2048 (len / 32) (s.ringRecs src)).flatMap Record.bytes)
  | 2 => if 4 ≤ src then (1, []) else part (s.blob (FAULT_RECORD.RECORD src))
  | 3 =>
    if 4 ≤ src then (1, [])
    else if s.nat (BANK.CAPTURE_STATE (8 * src)) = 3 then part (s.blob (BANK.CAPTURE_DATA (8 * src))) else (0, [])
  | _ =>
    let entries := (List.range len).map fun e => s.tableEntry d (s.dsHead d) e
    match firstError (entries.map fun v => s.entryError t v) with
    | 0 => (0, entries.flatMap fun v => s.readBytes t (v % 2 ^ 24))
    | e => (e, [])

/-- R339, R352: what the reading of the source changes as it begins: peaks restart. The records of a ring are popped as they are
moved. -/
def State.dmaTake (s : State) (d w0 : Nat) : State :=
  let t := s.holderOfStream d
  let src := DW.src w0
  match DW.srcKind w0 with
  | 0 => (s.countAccess 1 (if (subAt src).any (·.ty.isString) then (s.readBytes t src).length else 0)).afterRead t src
  | 1 => s.countAccess 1 (DW.length w0)
  | 4 =>
    let entries := (List.range (DW.length w0)).map fun e => s.tableEntry d (s.dsHead d) e
    let s := s.countAccess (DW.length w0) 0
    forEach entries (fun v s => s.afterRead t (v % 2 ^ 24)) s
  | _ => s

/-! ### The checks of a descriptor (R357) -/

/-- R357, error 0x07: words that spell no descriptor. -/
def badWords (w0 w1 w2 : Nat) : Bool :=
  field w0 48 6 != 0 || field w0 24 8 != 0 || w1 / 2 ^ 48 != 0 || 4 < DW.srcKind w0 || 1 < DW.dstKind w0 ||
    (DW.dstKind w0 == 1 && DW.completion w0) || DW.length w0 == 0 ||
    (DW.srcKind w0 == 4 && (240 < DW.length w0 || DW.src w0 != 0)) ||
    ((DW.srcKind w0 == 1 || DW.srcKind w0 == 4) && w2 % 2 ^ 32 != 0)

/-- R355: the PCIe function as which stream d writes to host memory, if it may now. -/
def State.hostFunction (s : State) (d : Nat) : Option Nat :=
  let e := s.nat (TENANT.ENDPOINT (s.holderOfStream d))
  if e / 4096 = 4 && s.nat PCIE_PORT.LINK_STATE = 2 && s.bit PCIE_PORT.BUS_MASTER (e % 4) then some (e % 4) else none

/-- R357: the ERROR of stream d's descriptor k that is found before any write, 0 for none. -/
def State.dmaCheck (s : State) (d k w0 w1 w2 : Nat) : Nat :=
  if badWords w0 w1 w2 then 7
  else
    match s.dmaSource d w0 w2 with
    | (0, b) =>
      if DW.dstKind w0 = 1 then (if 8192 ≤ w1 || 8192 < w1 + b.length then 4 else 0)
      else if 2 ^ 48 < w1 + b.length then 4
      else if s.flag (DESC_DOOMED k) || (s.hostFunction d).isNone then 5 else 0
    | (e, _) => e

/-! ### A turn of the engine (R351) -/

/-- R351: whether it is stream d's turn: the engine is free, and no ready stream comes before d after the last one. -/
def State.dsTurn (s : State) (d : Nat) : Bool :=
  let rank := fun x => (x + 31 - s.nat DMA_LAST) % 32
  s.nat DMA_BUSY == 0 && s.dsReady d && (List.range 32).all fun x => !s.dsReady x || rank d ≤ rank x

/-- R351: the engine takes the descriptor at HEAD of stream d. -/
def State.descriptorStart (s : State) (d : Nat) : State :=
  if s.live && s.dsTurn d then
    let k := s.descOf d (s.dsHead d)
    let w := fun i => s.nat (inForce (descWord k i))
    let e := s.dmaCheck d k (w 0) (w 1) (w 2)
    let b := if e = 0 then (s.dmaSource d (w 0) (w 2)).2 else []
    let s' := if e = 0 then s.dmaTake d (w 0) else s
    let s' := ((s'.setN DMA_BUSY (d + 1)).setN DMA_LAST d).setN DMA_DESC k
    let s' := ((s'.setN DMA_SLOTS (slotsOf (w 0))).setN DMA_CHECK e).setBlob DMA_DATA b
    let s' := ((s'.setN (DMA_WORD 0) (w 0)).setN (DMA_WORD 1) (w 1)).setN (DMA_WORD 2) (w 2)
    (((s'.setN DMA_RECORD_AT (s.nat (STREAM.COMPLETION_ADDRESS d))).setN DMA_LOST 0).setN DMA_REARMED 0).dsShow d
  else s

/-- R353: the beats on w lanes that write bytes to an address: byte k goes on lane (dst + k) mod w, and a beat enables the lanes
that it fills. -/
def beatsOf (w dst : Nat) (b : List Byte) : List Beat :=
  let lead := dst % w
  (List.range ((lead + b.length + w - 1) / w)).map fun i =>
    { addr := dst / w * w + w * i
      enables := ((List.range w).map fun j => if lead ≤ w * i + j && w * i + j < lead + b.length then 2 ^ j else 0).sum
      lanes := padTo w (slice (List.replicate lead 0 ++ b) (w * i) w) }

/-- R353: a beat writes its enabled lanes into bytes, and no others. -/
def Beat.into (x : Beat) (m : List Byte) : List Byte :=
  m.take x.addr ++ (((List.range x.lanes.length).zip (x.lanes.zip (m.drop x.addr))).map fun p =>
    if x.enables.testBit p.1 then p.2.1 else p.2.2) ++ m.drop (x.addr + x.lanes.length)

/-- R355: the writes of bytes to host memory, split at the payload size and at every 4 KiB boundary. -/
def splitWrites (f mx : Nat) : Nat → Nat → List Byte → List Out
  | 0, _, _ => []
  | fuel + 1, a, b =>
    if b = [] then []
    else
      let n := min mx (4096 - a % 4096)
      .hostWrite f (beatsOf 4 a (b.take n)) :: splitWrites f mx fuel (a + n) (b.drop n)

/-- R355, R356: bytes go out to host memory as function f. -/
def State.toHost (s : State) (f addr : Nat) (b : List Byte) : State :=
  { s with out := s.out ++ splitWrites f (max 1 (s.nat (PCIE_PAYLOAD f))) b.length addr b }

/-- Bytes are written at an offset of the mailbox of stream d, on its eight lanes (R353, R354). -/
def State.toMailbox (s : State) (d off : Nat) (b : List Byte) : State :=
  if b = [] then s
  else s.setBlob (MAILBOX.DATA d) ((beatsOf 8 off b).foldl (fun m x => x.into m) (padTo 8192 (s.blob (MAILBOX.DATA d))))

/-- R357: the error during the transfer. fail is what the bus showed: 6 a bus error, 8 a gather that could not finish, which
needs an element on a die whose link is not up. -/
def State.dmaFailure (s : State) (d fail : Nat) : Nat :=
  let w0 := s.nat (DMA_WORD 0)
  if s.nat DMA_CHECK != 0 then s.nat DMA_CHECK
  else if s.flag DMA_LOST || fail = 6 then 6
  else if fail = 8 && DW.srcKind w0 == 4 &&
      (List.range (DW.length w0)).any fun e =>
        let i := s.tableEntry d (s.dsHead d) e % 2 ^ 24 / 256
        0x3000 ≤ i && i < 0x3800 && !s.linkUp (i % 0x200 / 128) then 8
  else 0

/-- R356: the completion record of the descriptor being run. -/
def State.completionRecord (s : State) (d err moved : Nat) : State :=
  let w0 := s.nat (DMA_WORD 0)
  match DW.completion w0 && s.nat DMA_RECORD_AT != 0, s.hostFunction d with
  | true, some f =>
    s.toHost f (s.nat DMA_RECORD_AT)
      (leBytes 4 (s.nat (DMA_WORD 2) / 2 ^ 32) ++ leBytes 2 (s.nat DMA_DESC) ++ leBytes 1 (if err = 0 then 1 else 2) ++
        leBytes 1 err ++ leBytes 4 moved ++ leBytes 4 (s.nat (STREAM.COMPLETIONS d)))
  | _, _ => s

/-- R351, R356, R357: the descriptor of stream d ends with an error code, 0 for none, and the bytes written. -/
def State.descriptorEnds (s : State) (d err moved : Nat) : State :=
  let k := s.nat DMA_DESC
  let tag : Nat := s.nat (DMA_WORD 2) / 2 ^ 32
  let s := s.setN (descWord k 3) ((if err = 0 then 1 else 2) * 2 ^ 56 + err * 2 ^ 48 + moved)
  let s := (s.wrapCount (STREAM.COMPLETIONS d) 32).completionRecord d err moved
  let s := s.setN DMA_ENGINE.BYTES_MOVED ((s.nat DMA_ENGINE.BYTES_MOVED + moved) % 2 ^ 64)
  let s :=
    if err = 0 then (if DW.notify (s.nat (DMA_WORD 0)) then s.raiseStream .DMA_DONE d [f16 k, f32 tag, f32 moved] else s)
    else
      let s := (s.count (STREAM.BAD_COUNT d) 0xFFFF).setN (STREAM.LAST_BAD d) k
      (s.count DMA_ENGINE.BAD_DESCRIPTORS 0xFFFFFFFF).raiseStream .DESCRIPTOR_BAD d [f16 k, f8 err, f32 moved]
  let h := s.dsHead d + s.nat DMA_SLOTS
  let s := (s.setN (STREAM.HEAD d) (if s.nat (STREAM.MODE d) = 1 then h else h % max 1 (s.descCount d))).setN DMA_BUSY 0
  let s := ((s.setBlob DMA_DATA []).setN DMA_LOST 0).setN DMA_REARMED 0
  let s :=
    if s.flag (PASS_RUNS d) && s.nat (inForce (STREAM.TAIL d)) ≤ s.dsHead d then s.setN (PASS_RUNS d) 0 else s
  if s.flag (STREAM_CAUSE d) then s.dsStopped d else s.dsShow d

/-- The records that the descriptor being run moves from its ring: as many as it found there at its start, and still finds. -/
def State.dmaRecords (s : State) : List Record :=
  popRecords 2048 ((s.blob DMA_DATA).length / 32) (s.ringRecs (DW.src (s.nat (DMA_WORD 0))))

/-- Whether the descriptor being run moves the records of a ring. -/
def State.dmaFromRing (s : State) : Bool := s.nat DMA_CHECK == 0 && DW.srcKind (s.nat (DMA_WORD 0)) == 1

/-- R339, R357: n records leave ring q, none without its continuation; markers and targets follow. -/
def State.dmaPops (s : State) (q n : Nat) : State :=
  let l := s.ringRecs q
  let n := if 0 < n && ((l.take n).getLast?.any fun r => r.flags.testBit 6) then n + 1 else n
  ((s.setRing q (l.drop n)).marker q).tgSettle

/-- R351: the transfer of stream d's descriptor is over. moved: the bytes written before a failure, or before the source was armed
again. The records of a ring that it has read leave it. -/
def State.descriptorComplete (s : State) (d fail moved : Nat) : State :=
  if s.nat DMA_BUSY = d + 1 then
    let b := if s.dmaFromRing then s.dmaRecords.flatMap Record.bytes else s.blob DMA_DATA
    let err := s.dmaFailure d fail
    let n := if err = 6 || (err = 0 && s.flag DMA_REARMED) then min moved b.length else if err = 0 then b.length else 0
    let w1 := s.nat (DMA_WORD 1)
    let s := if s.dmaFromRing then s.dmaPops (DW.src (s.nat (DMA_WORD 0))) ((n + 31) / 32) else s
    let s :=
      if DW.dstKind (s.nat (DMA_WORD 0)) = 1 then s.toMailbox d w1 (b.take n)
      else s.toHost (s.nat (TENANT.ENDPOINT (s.holderOfStream d)) % 4) w1 (b.take n)
    s.descriptorEnds d err n
  else s

/-! ### Periodic passes (R358) -/

/-- R358: a frame boundary at a multiple of PERIOD: a pass of stream d starts, or is skipped while one still runs. -/
def State.passStart (s : State) (d : Nat) : State :=
  if s.live && s.dsRuns d && s.nat (STREAM.MODE d) == 1 && s.time == s.nat LAST_BOUNDARY && s.nat (PASS_AT d) != s.frame + 1 &&
      s.frameNumber % max 1 (s.nat (STREAM.PERIOD d)) == 0 then
    let s := s.setN (PASS_AT d) (s.frame + 1)
    if s.flag (PASS_RUNS d) then
      (s.count (STREAM.OVERRUNS d) 0xFFFF).raiseStream .PERIOD_OVERRUN d [f32 s.frameNumber]
    else
      let s := if s.flag (TAIL_DUE d) then (s.setN (inForce (STREAM.TAIL d)) (s.nat (TAIL_DUE d) - 1)).setN (TAIL_DUE d) 0 else s
      let tail := s.nat (inForce (STREAM.TAIL d))
      let s := forBelow tail (fun o s => s.setN (descWord (s.descOf d o) 3) 0) s
      ((s.setN (STREAM.HEAD d) 0).setN (PASS_RUNS d) (bitOf (tail != 0))).dsShow d
  else s

/-! ### Resets of a PCIe function (R382) -/

/-- R382: pending host descriptors of function f go BAD with 0x05 when their turn comes; a transfer in progress ends with a
lost link where `lost`. -/
def State.doomDescriptors (s : State) (f : Nat) (lost : Bool) : State :=
  forBelow 32 (fun d s =>
    if s.nat (TENANT.ENDPOINT (s.holderOfStream d)) = 0x4000 + f then
      let host := fun k => DW.dstKind (s.nat (inForce (descWord k 0))) == 0
      let left := (s.offsetsTo d (s.nat (inForce (STREAM.TAIL d)))).filter fun o =>
        s.nat (STREAM.MODE d) != 1 || (s.flag (PASS_RUNS d) && s.dsHead d ≤ o)
      let s := forEach left (fun o s => if host (s.descOf d o) then s.setN (DESC_DOOMED (s.descOf d o)) 1 else s) s
      if lost && s.nat DMA_BUSY = d + 1 && DW.dstKind (s.nat (DMA_WORD 0)) == 0 then s.setN DMA_LOST 1 else s
    else s) s

/-! ### Rows -/

def execDescriptorStart (d : StreamId) (s : State) : Host.Outcome State Fault Refusal := .next (s.descriptorStart d.val)
def execDescriptorComplete (d : StreamId) (fail moved : Nat) (s : State) : Host.Outcome State Fault Refusal :=
  .next (s.descriptorComplete d.val fail moved)
def execPeriodicPassStart (d : StreamId) (s : State) : Host.Outcome State Fault Refusal := .next (s.passStart d.val)

end Sys2Proof.Machine
end

