-- ==== Sys2Proof/Machine/CanBus.lean ====
section
/-!
DEFINITION. The two CAN ports as senders and receivers of frames (R361 to R363), nodes with their boot-up and heartbeat
messages (R365, R366), EMCY messages (R374) and TIME (R373).
-/
namespace Sys2Proof.Machine

/-- R387: the site of CAN port p. -/
def siteCan (p : Nat) : Nat := 0x10000000 + p * 0x400000

/-- Whether the controller of port p takes part in the bus: error active or passive. -/
def State.canOnBus (s : State) (p : Nat) : Bool := s.portsReady && s.nat (CAN_PORT.BUS_STATE p) ≤ 1

/-- R361: the form of an FD frame of port p: with bit rate switching where DATA_RATE is not 0. -/
def State.fdForm (s : State) (p : Nat) : CanForm := .fd (s.flag (CAN_PORT.DATA_RATE p))

/-- A frame leaves port p, or waits in its queue while the controller is not on the bus. -/
def State.canSend (s : State) (p cob : Nat) (form : CanForm) (data : List Byte) : State :=
  if s.canOnBus p then (s.wrapCount (CAN_PORT.TX_FRAMES p) 32).emit (.can p cob form data)
  else { s with canQueue := s.canQueue ++ [.can p cob form data] }

/-- R362: a frame that waited goes out at the rates in force now. -/
def State.formNow (s : State) (o : Out) : Out :=
  match o with
  | .can p cob (.fd _) data => .can p cob (s.fdForm p) data
  | o => o

/-- The port of a queued frame. -/
def outPort (o : Out) : Nat :=
  match o with
  | .can p .. => p
  | _ => 2

/-- The controller of port p joins the bus: what waits in its queue goes out. -/
def State.canJoin (s : State) (p : Nat) : State :=
  let waiting := s.canQueue.filter fun o => outPort o == p
  let s := ({ s with canQueue := s.canQueue.filter fun o => outPort o != p } : State).setN (CAN_PORT.BUS_STATE p) 0
  forEach waiting (fun o s => (s.wrapCount (CAN_PORT.TX_FRAMES p) 32).emit (s.formNow o)) s

/-- R363: the controller of port p goes bus-off; its queue is discarded and not counted as sent. -/
def State.canBusOff (s : State) (p tec rec_ : Nat) : State :=
  if s.canOnBus p then
    let s := ((s.setN (CAN_PORT.TEC p) (tec % 256)).setN (CAN_PORT.REC p) (rec_ % 256)).setN (CAN_PORT.BUS_STATE p) 2
    let s := (s.count (CAN_PORT.BUS_OFF_COUNT p) 0xFFFF).setN (CAN_MAY p) 0
    ({ s with canQueue := s.canQueue.filter fun o => outPort o != p } : State).raise .CAN_BUS_OFF (siteCan p) 0 0
      [f8 p, f8 (s.get (CAN_PORT.TEC p)), f8 (s.get (CAN_PORT.REC p))]
  else s

/-- R363: the controller of port p rejoins the bus after bus-off. -/
def State.canBack (s : State) (p : Nat) : State :=
  let s := ((s.setN (CAN_PORT.TEC p) 0).setN (CAN_PORT.REC p) 0).setN (CAN_MAY p) 0
  (s.canJoin p).raise .CAN_BUS_RECOVERED (siteCan p) 0 0 [f8 p, f16 (s.get (CAN_PORT.BUS_OFF_COUNT p))]

/-- R363: 128 occurrences of 11 recessive bits: with AUTO_RECOVER the controller of port p rejoins. -/
def State.canRecovered (s : State) (p : Nat) : State :=
  if s.portsReady && s.nat (CAN_PORT.BUS_STATE p) == 2 && s.flag (CAN_PORT.AUTO_RECOVER p) then s.canBack p else s

/-- R362, R363: 11 recessive bits at the nominal rate: an integrating controller joins the bus, or rejoins it after bus-off. -/
def State.canRejoin (s : State) (p : Nat) : State :=
  if s.portsReady && s.nat (CAN_PORT.BUS_STATE p) == 3 then (if s.flag (CAN_MAY p) then s.canBack p else s.canJoin p) else s

/-- R362, R363: a commit has changed rates or sample points (`rates`), or AUTO_RECOVER has become TRUE (`auto`). A controller that
is bus-off without AUTO_RECOVER rejoins: now, or at the new rates once it has found 11 recessive bits. -/
def State.canRates (s : State) (p : Nat) (rates auto : Bool) : State :=
  if s.nat (CAN_PORT.BUS_STATE p) = 2 then
    if s.flag (CAN_PORT.AUTO_RECOVER p) && !auto then s
    else if rates then (s.setN (CAN_PORT.BUS_STATE p) 3).setN (CAN_MAY p) 1
    else s.canBack p
  else if rates then s.setN (CAN_PORT.BUS_STATE p) 3 else s

/-! ### Nodes (R365, R366) -/

/-- R365: whether tenant t is a node of a CAN port: attached there and admitted. -/
def State.isNode (s : State) (t : Nat) : Bool := (s.canPortOf t).isSome && s.admitted t

/-- The node ID of tenant t. -/
def State.nodeId (s : State) (t : Nat) : Nat := s.nat (TENANT.ENDPOINT t) % 256

/-- The state that a heartbeat of tenant t carries, as CiA 301 codes it: boot-up 0, Stopped 4, Operational 5,
Pre-operational 127 (PRESUMED). -/
def State.nodeCode (s : State) (t : Nat) : Nat :=
  match s.nat (NMT_STATE t) with
  | 1 => 127
  | 2 => 5
  | 3 => 4
  | _ => 0

/-- R366: tenant t sends a message on 0x700 + node ID. -/
def State.nodeSend (s : State) (t code : Nat) : State :=
  match s.canPortOf t with
  | some p => s.canSend p (0x700 + s.nodeId t) .classical (leBytes 1 code)
  | none => s

/-- R365: the node of tenant t enters Pre-operational and sends its boot-up message. -/
def State.nodeBoot (s : State) (t : Nat) : State :=
  if s.isNode t then ((s.setN (NMT_STATE t) 1).setN (HB_AT t) s.time).nodeSend t 0 else s.setN (NMT_STATE t) 0

/-- R366: the heartbeat of tenant t, if its interval has passed. -/
def State.heartbeat (s : State) (t : Nat) : State :=
  let ms := s.nat (inForce (PRODUCER_HEARTBEAT_TIME.TIME t))
  if s.portsReady && s.isNode t && ms != 0 && s.nat (NMT_STATE t) != 0 && s.nat (HB_AT t) + 1000 * ms ≤ s.time then
    (s.setN (HB_AT t) s.time).nodeSend t (s.nodeCode t)
  else s

/-! ### USDO sessions (R367) -/

/-- The USDO session of tenant t is over. -/
def State.usdoClose (s : State) (t : Nat) : State :=
  (((s.setN (USDO_OPEN t) 0).setN (USDO_AT t) 0).setN (USDO_WRITES t) 0).setBlob (USDO_DATA t) []

/-- R367: a USDO session of tenant t in progress is aborted with a code. -/
def State.usdoAbort (s : State) (t code : Nat) : State :=
  if s.flag (USDO_OPEN t) then (s.usdoClose t).answer (.abort code) else s

/-- R367: a session stays without a request for 1 s. -/
def State.usdoTimeout (s : State) (t : Nat) : State :=
  if s.portsReady && s.nat (USDO_AT t) + 1000000 ≤ s.time then s.usdoAbort t 0x05040000 else s

/-! ### EMCY (R374) -/

/-- R374: the EMCY message of tenant t about a record; a full queue of 32 drops it. -/
def State.emcySend (s : State) (t : Nat) (r : Record) : State :=
  match s.canPortOf t with
  | none => s
  | some p =>
    let isEmcy := fun o => match o with
      | Out.can p' cob .. => p' == p && (List.range 16).any fun x => s.emcyId x == cob
      | _ => false
    if 32 ≤ (s.canQueue.filter isEmcy).length then s.count (CAN_PORT.EMCY_DROPS p) 0xFFFF
    else
      s.canSend p (s.emcyId t) (s.fdForm p)
        (leBytes 2 (0xFF00 + r.cls) ++ leBytes 1 (s.errorRegister t) ++ leBytes 1 (bitOf (r.flags.testBit 7)) ++
          leBytes 2 r.kind ++ leBytes 4 r.site ++ leBytes 6 r.stamp)

/-! ### TIME (R373) -/

/-- R373: a TIME message of m milliseconds and D days arrives on port p. -/
def State.timeReceived (s : State) (p m d : Nat) : State :=
  if s.canOnBus p then
    let s := s.wrapCount (CAN_PORT.RX_FRAMES p) 32
    if !s.flag (CAN_PORT.TIME_ACCEPT p) then s
    else if d < 5844 || 86400000 ≤ m then s.raise .TIME_REFUSED (siteCan p) 0 0 [f8 p, f16 d]
    else s.setClock (((d - 5844) * 86400 + m / 1000) * 32768 + m % 1000 * 32768 / 1000) (2 + p)
  else s

/-! ### Rows -/

def execCanBusOff (p : CanPort) (tec rec_ : Nat) (s : State) : Host.Outcome State Fault Refusal :=
  .next (s.canBusOff p.val tec rec_)
def execCanBusRecovered (p : CanPort) (s : State) : Host.Outcome State Fault Refusal := .next (s.canRecovered p.val)
def execCanRejoin (p : CanPort) (s : State) : Host.Outcome State Fault Refusal := .next (s.canRejoin p.val)
def execHeartbeatSend (t : Tenant) (s : State) : Host.Outcome State Fault Refusal := .next (s.heartbeat t.val)
def execUsdoSessionTimeout (t : Tenant) (s : State) : Host.Outcome State Fault Refusal := .next (s.usdoTimeout t.val)
def execTimeReceived (p : CanPort) (ms days : Nat) (s : State) : Host.Outcome State Fault Refusal :=
  .next (s.timeReceived p.val ms days)

end Sys2Proof.Machine
end

