-- ==== Sys2Proof/Machine/Tenants.lean ====
section
/-!
DEFINITION. Tenants: folds (R78, R79), the acceptance of a tenant reset (R80), trump (R76, R505), and what a change of the
deal does to channels, rings and tenants (R71, R72).
-/
namespace Sys2Proof.Machine

/-- The time of the frame boundary that lies `delay` boundaries ahead. -/
def State.boundaryAhead (s : State) (delay : Nat) : Nat := s.nextBoundary + 20 * (delay - 1)

/-- The stamp of that boundary. -/
def State.stampAhead (s : State) (delay : Nat) : Nat := s.stamp + (s.boundaryAhead delay - s.time)

/-! ### Folds (R78, R79) -/

/-- R78: the fold of channel n to OFF, or to HOLD. -/
def State.foldNow (s : State) (n : Nat) (hold : Bool) : State :=
  if s.standing n then (if hold then s else s.setN (CHANNEL_CONFIG.REQUEST n) 0)
  else if s.cell n = ST.OFF && (s.waiting n || s.modelFlag n MFLAG.COOLING_WAIT || s.flag (STORED_WAIT n)) then
    (s.setRequest n 0).requestOff n
  else if hold || s.cell n = ST.OFF || s.cell n = ST.LOCKOUT then s
  else (s.setRequest n 0).requestOff n

/-- R78, R79: channel n folds. A swap in its overlap, or a die that does not hear the command, keeps the fold waiting. -/
def State.foldChannel (s : State) (n : Nat) (hold : Bool) : State :=
  if s.trumpHeld n then s
  else
    let s := s.swapInterrupt n
    if (s.swapOf n).isSome || (!s.standing n && !s.dieHears (dieOf n)) then s.setN (FOLD_WAIT n) (if hold then 2 else 1)
    else s.foldNow n hold

/-- R79: a fold of channel n that waits takes place once nothing holds it. -/
def State.foldSettle (s : State) (n : Nat) : State :=
  if s.flag (FOLD_WAIT n) && (s.swapOf n).isNone && (s.standing n || s.dieHears (dieOf n)) then
    let hold := s.nat (FOLD_WAIT n) == 2
    (s.setN (FOLD_WAIT n) 0).foldNow n hold
  else s

/-- R79, R202, R222, R241: converter m folds. LATCHED ends only by ENABLE = 0; the battery switch leaves CLOSED all the same. -/
def State.foldConverter (s : State) (m : Nat) (hold : Bool) : State :=
  if hold then s
  else
    let s := if m = 1 then s.swNoClosed else if m = 2 then s.asFinish 10 else s
    if s.conv m = CS.LATCHED then s
    else ((s.setN (CONVERTER.ENABLE m) 0).setN (inForce (CONVERTER.ENABLE m)) 0).convStop m 1

/-- R78: every channel and converter of the hand of tenant t goes to its fold state. -/
def State.foldAll (s : State) (t : Nat) : State :=
  let s := forEach (s.handChannels t) (fun n s => s.foldChannel n (s.foldHold n)) s
  forBelow 4 (fun m s =>
    if s.holderOfConverter m = t then s.foldConverter m (s.bit (TENANT.CONVERTERS t) (4 + m)) else s) s

/-- R78: the hand of tenant t folds for a cause. Channels held under trump are counted in neither number. -/
def State.foldHand (s : State) (t cause : Nat) : State :=
  let l := (s.handChannels t).filter fun n => !s.trumpHeld n
  let held := (l.filter fun n => s.foldHold n).length
  let s := s.foldAll t
  let s := (s.count (TENANT.FOLD_COUNT t) 0xFFFF).setN (TENANT.LAST_FOLD_CAUSE t) cause
  s.raiseServer .FOLD t [f8 t, f8 cause, f16 (l.length - held : Nat), f16 held]

/-- Whether a fold of the hand of tenant t waits for its boundary. -/
def State.foldPending (s : State) (t : Nat) : Bool :=
  s.landing.any fun l => l.tenant == t && (match l.act with | .fold _ => true | _ => false)

/-- R78, R316: a fold is scheduled; a cause that arrives while one is pending merges with it. -/
def State.scheduleFold (s : State) (t cause : Nat) : State :=
  if s.foldPending t || s.resetPending t then s
  else (s.land t 2 (.fold cause)).openShadow 6 t (s.stampAhead 2 + 2000)

/-! ### Tenant reset: acceptance (R80, R47, R367) -/

/-- R80: a tenant reset of tenant t is accepted; a second one merges with the first. Where a fold is already pending, its
own fold is not counted again (R78): the source carries 256 more. -/
def State.tenantResetAccept (s : State) (t source : Nat) : State :=
  if s.resetPending t then s
  else
    let s := (s.barrierDrop t).usdoAbort t 0x08000022
    let merged := s.foldPending t
    (s.land t 2 (.tenantReset (source + if merged then 256 else 0))).openShadow 13 t (s.stampAhead 2 + 2000)

/-! ### Trump (R76, R505) -/

/-- R76: a trump command for channel n lands: subindex sub of its CHANNEL_CONFIG with a value. -/
def State.trumpLands (s : State) (n sub v : Nat) : State :=
  let t := s.holderOfChannel n
  if t = 0 then s
  else
    (s.setBit (TENANT.TRUMP_HELD t (n / 64)) (n % 64) true).raise .TRUMP_COMMAND (siteChannel n 0) t 0
      [f16 n, f16 (sub * 256 + v), f8 t]

/-- R76: a TRUMP_RELEASE lands. -/
def State.trumpReleased (s : State) (n : Nat) : State :=
  let t := s.holderOfChannel n
  s.setBit (TENANT.TRUMP_HELD t (n / 64)) (n % 64) false

/-! ### A change of the deal (R71, R72) -/

/-- R71: a channel that moves leaves trump. -/
def State.channelsMove (old s : State) : State :=
  forBelow 512 (fun n s =>
    let t := old.holderOfChannel n
    if t != s.holderOfChannel n then s.setBit (TENANT.TRUMP_HELD t (n / 64)) (n % 64) false else s) s

/-- The rings of the ranges that differ between two deals. -/
def ringsTouched (old s : State) : List Nat :=
  (dealtTenants.flatMap fun t =>
    let range (x : State) := (List.range (x.nat (TENANT.RING_COUNT t))).map (x.nat (TENANT.RING_BASE t) + ·)
    if old.nat (TENANT.RING_BASE t) = s.nat (TENANT.RING_BASE t) && old.nat (TENANT.RING_COUNT t) == s.nat (TENANT.RING_COUNT t) &&
      old.isKibitzer t == s.isKibitzer t then [] else range old ++ range s).eraseDups

/-- R71: a ring that moves is flushed, and its settings return to their defaults. -/
def State.ringsMove (old s : State) : State :=
  forEach (ringsTouched old s) (fun q s =>
    if old.dealtRing q != s.dealtRing q || old.holderOfRing q != s.holderOfRing q then s.ringMoves q else s) s

/-- The resource fields of tenant t, those of TN00 as they read back. -/
def State.handFields (s : State) (t : Nat) : List Int :=
  (([0x1A, 0x1B, 0x1C, 0x1D, 0x1E, 0x1F, 0x20, 0x21] ++ (List.range 8).map (0x0A + ·)).map fun sub =>
    let v := if t = 0 then (s.arbiterField sub).getD 0 else s.get ((0x2300 + t) * 256 + sub)
    if sub = 0x1D then v % 16 else v)

/-- R505: the tenants whose hands differ, bit t for TNt. -/
def handsChanged (old s : State) : Nat := maskBelow 16 fun t => old.handFields t != s.handFields t

/-- R71, R241, R344, R365: what a change of the deal from `old` does beside the fields themselves. -/
def State.dealApplies (old s : State) : State :=
  let s := State.ringsMove old (State.channelsMove old s)
  let s :=
    if old.holderOfConverter 2 != s.holderOfConverter 2 && s.flag ASSIST_STATUS.ASSIST_STATE then s.asFinish 10 else s
  let s := s.tgHoldChange fun _ => true
  let s := forEach dealtTenants (fun t s =>
    if !s.isNode t then s.setN (NMT_STATE t) 0
    else if !old.isNode t || old.nat (TENANT.ENDPOINT t) != s.nat (TENANT.ENDPOINT t) then s.nodeBoot t else s) s
  s.raiseServer .DEAL_APPLIED 0 [f16 (s.nat DEVICE_DIGEST.GLOBAL_GENERATION), f16 (handsChanged old s)]

/-- R72: the tenants whose admission a change of the deal withdraws. -/
def withdrawn (old s : State) : List Nat :=
  dealtTenants.filter fun t => old.flag (TENANT.ADMITTED t) && !s.flag (TENANT.ADMITTED t)

end Sys2Proof.Machine
end

