-- ==== Sys2Proof/Machine/TwoWire.lean ====
section
/-!
DEFINITION. The two-wire bus as a bus: roles, controller transfers, arbitration, stuck lines and calls for attention (R388 to
R402). The accesses that arrive through it are in Ports.lean.
-/
namespace Sys2Proof.Machine

/-- R402: the site of the two-wire bus. -/
def siteTwoWire : Nat := 0x11000000

/-- The ROLE in force (R389). -/
def State.twRole (s : State) : Nat := s.nat (inForce TWO_WIRE_BUS.ROLE)

/-- Whether the bus carries nothing of this device: no transfer runs. -/
def State.twIdle (s : State) : Bool := s.nat CONTROLLER_TRANSFER.TRANSFER_RESULT != 1

/-- R389: role and timing take their committed values once the bus is idle. -/
def State.twAdopt (s : State) : State :=
  if s.twIdle then
    let s := s.set (inForce TWO_WIRE_BUS.ROLE) (s.get TWO_WIRE_BUS.ROLE)
    let s := s.set (inForce TWO_WIRE_BUS.SPEED_MODE) (s.get TWO_WIRE_BUS.SPEED_MODE)
    let s := s.set (inForce TWO_WIRE_BUS.SCL_LOW) (s.get TWO_WIRE_BUS.SCL_LOW)
    let s := s.set (inForce TWO_WIRE_BUS.SCL_HIGH) (s.get TWO_WIRE_BUS.SCL_HIGH)
    let s := s.set (inForce TWO_WIRE_BUS.DATA_SETUP) (s.get TWO_WIRE_BUS.DATA_SETUP)
    s.set (inForce TWO_WIRE_BUS.DATA_HOLD) (s.get TWO_WIRE_BUS.DATA_HOLD)
  else s

/-- R390: whether the target acknowledges a 7-bit address: the strap address, or that of an attached tenant. -/
def State.twAnswers (s : State) (a : Nat) : Bool :=
  s.portsReady && s.twRole != 1 &&
    (a == 0x52 + s.nat STRAPS.STRAP_VALUE / 128 || (s.attachedTo (5 * 4096 + a)).isSome)

/-- R400: the byte that an attention read has returned, recorded. -/
def State.twAttention (s : State) (byte : Nat) : State :=
  (s.setN TWO_WIRE_STATUS.LAST_ATTENTION byte).raise .INBAND_REQUEST siteTwoWire 0 0 [f8 byte]

/-- R400: the attention reads that waited for a transfer. -/
def State.twAttentions (s : State) : State :=
  let l := s.blob TW_ATTENTION
  forEach l (fun b s =>
    (s.emit (.twoWire (s.nat TWO_WIRE_BUS.ATTENTION_ADDRESS) [] 1)).twAttention b.toNat) (s.setBlob TW_ATTENTION [])

/-- R396, R397: the controller transfer goes out on the bus. -/
def State.twRuns (s : State) : State :=
  (s.setN TWO_WIRE_STATUS.BUS_STATE 2).emit (.twoWire (s.nat TW_ADDR) (s.blob TW_DATA) (s.nat TW_READ))

/-- R396: a TRANSFER_START lands. -/
def State.twStart (s : State) : State :=
  if s.twIdle && s.twRole != 0 then
    let s := (s.setN TW_ADDR (s.nat (inForce CONTROLLER_TRANSFER.TRANSFER_ADDRESS))).setN TW_READ
      (s.nat (inForce CONTROLLER_TRANSFER.READ_LENGTH))
    let s := (s.setBlob TW_DATA (s.blob (inForce CONTROLLER_TRANSFER.WRITE_DATA))).setN TW_LEFT
      (s.nat TWO_WIRE_BUS.ARB_RETRIES)
    (s.setN CONTROLLER_TRANSFER.TRANSFER_RESULT 1).twRuns
  else s

/-- R396: the controller transfer ends with a result, so many bytes written, and the bytes read. -/
def State.twEnds (s : State) (result written : Nat) (read : List Byte) : State :=
  let s := ((s.setN CONTROLLER_TRANSFER.TRANSFER_RESULT result).setBlob CONTROLLER_TRANSFER.READ_DATA read).setN
    CONTROLLER_TRANSFER.NACK_INDEX (if result = 4 then written else 0)
  let s := (s.raise .TRANSFER_DONE siteTwoWire 0 0 [f8 result, f16 written, f16 read.length]).setN TWO_WIRE_STATUS.BUS_STATE
    (if result = 5 || result = 6 || result = 7 then 1 else 0)
  (s.setN TW_FREE_FROM s.time).twAdopt.twAttentions

/-- R396: the transfer in progress ends on the bus: done, or a byte left unacknowledged. written counts the bytes of
WRITE_DATA acknowledged. -/
def State.twDone (s : State) (result written : Nat) (read : List Byte) : State :=
  if s.twIdle || s.flag TWO_WIRE_STATUS.BUS_FLAGS then s
  else
    let n := (s.blob TW_DATA).length
    if result = 3 then s.twEnds 3 (min written n) []
    else if result = 4 then s.twEnds 4 (min written n) []
    else s.twEnds 2 n (padTo (s.nat TW_READ) read)

/-- R397: arbitration is lost, within an address byte in which the winner sends `sent`, or later (none). -/
def State.twLost (s : State) (sent : Option Nat) (written : Nat) : State :=
  if s.twIdle then s
  else
    let target := match sent with
      | some a => s.twAnswers a
      | none => false
    let left := s.nat TW_LEFT
    let s := (s.count TWO_WIRE_STATUS.ARB_LOSSES 0xFFFF).raise .ARBITRATION_LOST siteTwoWire 0 0
      [f16 (s.get TW_ADDR), f8 left, f8 (bitOf target)]
    let s := if left = 0 then s.twEnds 5 (min written (s.blob TW_DATA).length) [] else (s.setN TW_LEFT (left - 1)).twRuns
    if target then s.setN TWO_WIRE_STATUS.BUS_STATE 3 else s

/-- R398: TW_SCL has stayed low for CLOCK_LOW_TIMEOUT; target is the address of a request being received, 0 for none. -/
def State.twClockLow (s : State) (target written : Nat) : State :=
  if !s.portsReady || s.bit TWO_WIRE_STATUS.BUS_FLAGS 0 then s
  else
    let state := if !s.twIdle then 2 else if target != 0 then 3 else 1
    let s := if target = 0 then s else s.setBlob (FRAME_RESP target) []
    let s := if s.twIdle then s else s.twEnds 6 (min written (s.blob TW_DATA).length) []
    let s := (s.setBit TWO_WIRE_STATUS.BUS_FLAGS 0 true).count TWO_WIRE_STATUS.CLOCK_LOW_EVENTS 0xFFFF
    (s.setN TWO_WIRE_STATUS.BUS_STATE 1).raise .CLOCK_LOW_TIMEOUT siteTwoWire 0 0
      [f8 state, f8 (s.get CONTROLLER_TRANSFER.TRANSFER_RESULT)]

/-- R398: TW_SCL rises; the bus counts as busy until it is free. -/
def State.twClockHigh (s : State) : State :=
  if s.bit TWO_WIRE_STATUS.BUS_FLAGS 0 then
    ((s.setBit TWO_WIRE_STATUS.BUS_FLAGS 0 false).setN TWO_WIRE_STATUS.BUS_STATE 1).setN TW_FREE_FROM s.time
  else s

/-- R400: an in-band request; byte is what the attention read returns, 0xFF where it is left unacknowledged. -/
def State.twInband (s : State) (byte : Nat) : State :=
  if !s.portsReady || s.twRole = 0 then s
  else
    let s := s.count TWO_WIRE_STATUS.REQUESTS 0xFFFF
    let b := byte % 256
    if s.nat TWO_WIRE_BUS.ATTENTION_ADDRESS = 0 then
      s.takeFree.2.raise .INBAND_REQUEST siteTwoWire 0 0 [f8 (s.takeFree.1 % 256)]
    else
      let started := s.landing.any fun l => match l.act with
        | .action a _ => a == CONTROLLER_TRANSFER.TRANSFER_START
        | _ => false
      if s.twIdle && !started then (s.emit (.twoWire (s.nat TWO_WIRE_BUS.ATTENTION_ADDRESS) [] 1)).twAttention b
      else s.setBlob TW_ATTENTION (s.blob TW_ATTENTION ++ [BitVec.ofNat 8 b])

/-- R401: TW_SDA has stayed low for DATA_LOW_TIMEOUT. pulses is how many clocks it took to free the line, 10 or more where
nine did not. -/
def State.twDataLow (s : State) (pulses written : Nat) : State :=
  if !s.portsReady || s.bit TWO_WIRE_STATUS.BUS_FLAGS 1 then s
  else
    let clocks := s.twRole != 0
    let cleared := clocks && pulses ≤ 9
    let s := if s.twIdle then s else s.twEnds 7 (min written (s.blob TW_DATA).length) []
    let s := (s.setBit TWO_WIRE_STATUS.BUS_FLAGS 1 (!cleared)).count TWO_WIRE_STATUS.DATA_LOW_EVENTS 0xFFFF
    s.raise .DATA_LOW_TIMEOUT siteTwoWire 0 0 [f8 (bitOf cleared), f8 (if clocks then min pulses 9 else 0)]

/-- R401: TW_SDA rises. -/
def State.twDataHigh (s : State) : State := s.setBit TWO_WIRE_STATUS.BUS_FLAGS 1 false

/-! ### Rows -/

def execTransferDone (result written : Nat) (read : List Byte) (s : State) : Host.Outcome State Fault Refusal :=
  .next (s.twDone result written read)
def execArbitrationLost (sent : Option Nat) (written : Nat) (s : State) : Host.Outcome State Fault Refusal :=
  .next (s.twLost sent written)
def execClockLowTimeout (target written : Nat) (s : State) : Host.Outcome State Fault Refusal :=
  .next (s.twClockLow target written)
def execClockLowClear (s : State) : Host.Outcome State Fault Refusal := .next s.twClockHigh
def execInbandRequest (byte : Nat) (s : State) : Host.Outcome State Fault Refusal := .next (s.twInband byte)
def execDataLowTimeout (pulses written : Nat) (s : State) : Host.Outcome State Fault Refusal :=
  .next (s.twDataLow pulses written)
def execDataLowClear (s : State) : Host.Outcome State Fault Refusal := .next s.twDataHigh

end Sys2Proof.Machine
end

