-- ==== Sys2Proof/Machine/Hk.lean ====
section
/-!
DEFINITION. The housekeeping ADC (R403 to R415): passes and results, burnout, staleness, sequences with their triggers and
preemption, and house conversions. The code of each conversion comes from outside.
-/
namespace Sys2Proof.Machine

/-- R415: the site of entry e. -/
def siteEntry (e : Nat) : Nat := 0x0E004000 + e

/-- R415: the site of sequence q. -/
def siteSequence (q : Nat) : Nat := 0x0E008000 + q

/-! ### Results (R404, R405) -/

/-- FORMAT 2 of entry e: codes count as signed. -/
def State.hkSigned (s : State) (e : Nat) : Bool := s.nat (HK_ENTRY.FORMAT e) == 2

/-- The value that a code of entry e adds to its pass. -/
def State.hkCode (s : State) (e code : Nat) : Int := if s.hkSigned e then (code : Int) - 32768 else code

/-- R404: x rounded, where x is sum over rep: halves up, or away from zero for signed codes. -/
def hkRound (signed : Bool) (sum : Int) (rep : Nat) : Int :=
  if signed then divNear sum rep else (2 * sum + rep) / (2 * rep)

/-- R404: RAW of a pass of entry e. -/
def State.hkRaw (s : State) (e : Nat) (sum : Int) (rep : Nat) : Nat :=
  match s.nat (HK_ENTRY.FORMAT e) with
  | 1 => (sum * 65536 / rep).toNat
  | 2 => unsignedOf 4 (divNear sum rep)
  | _ => (hkRound false sum rep).toNat

/-- R405: x on curve c: the value, and whether x lies outside the curve. -/
def State.hkCurve (s : State) (c : Nat) (sum : Int) (rep : Nat) : Int × Bool :=
  let n := s.nat (HK_CURVE.POINTS c)
  let code := fun i => s.get (HK_CURVE.CODE c i)
  let value := fun i => s.get (HK_CURVE.VALUE c i)
  if sum < code 0 * rep then (value 0, true)
  else if code (n - 1) * rep < sum then (value (n - 1), true)
  else
    match (List.range (n - 1)).find? fun i => sum ≤ code (i + 1) * rep with
    | none => (value (n - 1), false)
    | some i =>
      let dc := code (i + 1) - code i
      (divNear (value i * rep * dc + (sum - code i * rep) * (value (i + 1) - value i)) (rep * dc.toNat), false)

/-- R405: VALUE of a pass of entry e, and OUT_OF_CURVE. -/
def State.hkValue (s : State) (e : Nat) (sum : Int) (rep : Nat) : Int × Bool :=
  let sc := s.nat (HK_ENTRY.SCALE e)
  if sc = 0 then (hkRound (s.hkSigned e) sum rep, false)
  else if sc = 1 then (divNear (sum * s.get (HK_ENTRY.SCALE_GAIN e)) (rep * 65536) + s.get (HK_ENTRY.SCALE_OFFSET e), false)
  else s.hkCurve (sc - 2) sum rep

/-- VALUE set; a result that 32 bits do not hold is one the spec does not state (log entry 3). -/
def State.hkSetValue (s : State) (e : Nat) (v : Int) : State :=
  if -2147483648 ≤ v && v ≤ 2147483647 then s.set (HK_ENTRY.VALUE e) v
  else s.setFree (HK_ENTRY.VALUE e) (-2147483648) 2147483647

/-! ### Staleness (R407) -/

/-- R407: entry e becomes stale for a cause; the record comes once in an episode. -/
def State.hkGoesStale (s : State) (e cause : Nat) : State :=
  if s.hkStale e then s
  else (s.setBit (HK_ENTRY.ENTRY_STATUS e) 0 true).raise .ENTRY_STALE (siteEntry e) 0 0 [f8 e, f8 cause]

/-- R407: the last pass of entry e has become older than 1,000 ms. -/
def State.hkAges (s : State) (e : Nat) : State :=
  let p := s.nat (HK_PASS_AT e)
  if s.live && p != 0 && p + 1000000 < s.time then s.hkGoesStale e 1 else s

/-! ### Sequences (R409 to R412) -/

/-- Whether sequences may run: the opening is past step 6 (R414). -/
def State.hkOn (s : State) : Bool := s.portsReady

/-- Whether a run or a loop of sequence q is in progress. -/
def State.hkRuns (s : State) (q : Nat) : Bool := s.flag (HK_RUN q)

/-- The entry that sequence q converts. -/
def State.hkEntry (s : State) (q : Nat) : Nat := s.nat (HK_AT q)

/-- Whether sequence q has an entry to convert: it runs, and its last entry is not behind it. -/
def State.hkDue (s : State) (q : Nat) : Bool := s.hkRuns q && s.hkEntry q ≤ s.nat (HK_SEQUENCE.LAST_ENTRY q)

/-- R412: whether sequence q has an urgent entry due. -/
def State.hkUrgent (s : State) (q : Nat) : Bool := s.hkDue q && s.bit (HK_ENTRY.ENTRY_FLAGS (s.hkEntry q)) 0

/-- Whether two sequences use a converter in common. -/
def State.hkShares (s : State) (q r : Nat) : Bool :=
  let a := s.nat (HK_SEQUENCE.CONVERTER q)
  let b := s.nat (HK_SEQUENCE.CONVERTER r)
  a == b || a == 2 || b == 2

/-- R412: whether sequence q has to give way: with an entry that is not urgent to any urgent one that is due, and with an urgent
one that waits to one that has the converter. -/
def State.hkYields (s : State) (q : Nat) : Bool :=
  s.hkDue q && (List.range 4).any fun r =>
    r != q && s.hkUrgent r && s.hkShares q r && (!s.hkUrgent q || (s.flag (HK_PRE q) && !s.flag (HK_PRE r)))

/-- SEQ_STATE of sequence q shows what it does. -/
def State.hkShow (s : State) (q : Nat) : State :=
  s.setN (HK_SEQUENCE.SEQ_STATE q)
    (if !s.hkRuns q then 0 else if s.flag (HK_PRE q) then 2 else if s.flag (HK_LATCH q) then 3 else 1)

/-- R412: sequence q takes up its entry: its delay is served. -/
def State.hkDelay (s : State) (q : Nat) : State := s.setN (HK_DELAY q) (s.time + s.nat (HK_ENTRY.DELAY (s.hkEntry q)))

/-- R412: sequence q reaches an entry boundary: it is interrupted, or an interrupted one goes on from the start of its
entry. -/
def State.hkBoundary (s : State) (q : Nat) : State :=
  if s.hkYields q then (s.setN (HK_PRE q) 1).hkShow q
  else if s.flag (HK_PRE q) then ((s.setN (HK_PRE q) 0).hkDelay q).hkShow q
  else s.hkShow q

/-- R412: an entry has become due or has ended: sequences in their delay, which is all entry boundary, and those that wait or are
interrupted look again, the lowest-numbered first. -/
def State.hkArbitrate (s : State) : State :=
  forBelow 4 (fun q s => if s.flag (HK_PRE q) || s.time ≤ s.nat (HK_DELAY q) then s.hkBoundary q else s.hkShow q) s

/-- Sequence q begins at its first entry, which takes the converter when its turn comes (R412). -/
def State.hkBegin (s : State) (q : Nat) : State :=
  let e := s.nat (HK_SEQUENCE.FIRST_ENTRY q)
  let s := ((s.setN (HK_RUN q) 1).setN (HK_AT q) e).setN (HK_PRE q) 1
  ((s.setN (HK_DONE e) 0).setN (HK_SUM e) 0).hkArbitrate

/-- R410, R411: a trigger of sequence q. -/
def State.hkTrigger (s : State) (q : Nat) : State :=
  if !s.hkOn || s.nat (HK_SEQUENCE.MODE q) != 2 then s
  else if !s.hkRuns q then s.hkBegin q
  else if s.flag (HK_LATCH q) then (s.count (HK_SEQUENCE.OVERRUN_COUNT q) 0xFFFFFFFF).count (HK_DROPS q) 0xFFFFFFFF
  else (s.setN (HK_LATCH q) 1).hkShow q

/-- R410: a write to TRIGGER of sequence q, which is its trigger where TRIGGER_SOURCE is 0 (DEDUCED, log entry 65). -/
def State.hkWritten (s : State) (q : Nat) : State :=
  if s.nat (HK_SEQUENCE.TRIGGER_SOURCE q) = 0 then s.hkTrigger q else s

/-- R410: the period trigger of sequence q at a frame boundary. -/
def State.hkPeriod (s : State) (q : Nat) : State :=
  if s.nat (HK_SEQUENCE.TRIGGER_SOURCE q) = 1 && s.time == s.nat LAST_BOUNDARY &&
      s.frameNumber % s.nat (HK_SEQUENCE.TRIGGER_PERIOD q) == 0 && s.nat (HK_TRIG q) != s.frame + 1 then
    (s.setN (HK_TRIG q) (s.frame + 1)).hkTrigger q
  else s

/-- R411, R410: the run of sequence q ends. -/
def State.hkRunEnd (s : State) (q : Nat) : State :=
  if !s.hkRuns q || s.hkDue q then s
  else
    let s := s.wrapCount (HK_SEQUENCE.RUNS q) 32
    if s.nat (HK_SEQUENCE.MODE q) != 2 then s.hkBegin q
    else
      let drops := s.get (HK_DROPS q)
      let s := if drops = 0 then s else s.raise .ADC_OVERRUN (siteSequence q) 0 0 [f8 q, f32 drops]
      let again := s.flag (HK_LATCH q)
      let s := ((s.setN (HK_DROPS q) 0).setN (HK_LATCH q) 0).setN (HK_RUN q) 0
      let s := if again then s.hkBegin q else s.hkArbitrate
      forBelow 4 (fun r s =>
        if s.nat (HK_SEQUENCE.TRIGGER_SOURCE r) = 2 && s.nat (HK_SEQUENCE.TRIGGER_CHAIN r) == q then s.hkTrigger r else s) s

/-- R412: a conversion of sequence q ends with a code. -/
def State.hkConversion (s : State) (q code : Nat) : State :=
  let e := s.hkEntry q
  if s.hkOn && s.hkDue q && !s.flag (HK_PRE q) && s.nat (HK_DELAY q) ≤ s.time &&
      s.nat (HK_DONE e) < s.nat (HK_ENTRY.REPEAT e) then
    let s := ((s.wrapCount HK_ADC.CONVERSIONS 64).setN (HK_DONE e) (s.nat (HK_DONE e) + 1)).setN (HK_LAST e) s.stamp
    (s.set (HK_SUM e) (s.get (HK_SUM e) + s.hkCode e (min code 65535))).hkBoundary q
  else s

/-! ### The end of a pass (R404, R407, R408) -/

/-- R408: the rounded code at which an injected pass marks entry e open, and the one below which it lets the mark clear. -/
def State.hkThreshold (s : State) (e : Nat) : Int × Int := if s.hkSigned e then (31744, 28672) else (0xFC00, 0xF000)

/-- R408: an injected pass of entry e ends. -/
def State.hkInjected (s : State) (e : Nat) (x : Int) : State :=
  let th := s.hkThreshold e
  let s := s.setN (HK_OK e) (bitOf (x < th.2))
  if x < th.1 || s.bit (HK_ENTRY.ENTRY_STATUS e) 1 then s
  else
    let s := (s.setBit (HK_ENTRY.ENTRY_STATUS e) 1 true).raise .SENSOR_OPEN (siteEntry e) 0 0
      [f8 e, f16 (unsignedOf 2 x), f32 (s.get (HK_ENTRY.VALUE e))]
    s.hkGoesStale e 2

/-- R259, R404, R408: a clean pass of entry e ends. While the entry stays open its VALUE holds. -/
def State.hkClean (s : State) (e : Nat) (sum : Int) (rep : Nat) : State :=
  let wasOpen := s.bit (HK_ENTRY.ENTRY_STATUS e) 1
  let restored := wasOpen && s.flag (HK_OK e)
  let s := ((s.setN (HK_ENTRY.RAW e) (s.hkRaw e sum rep)).setN (HK_ENTRY.RESULT_STAMP e) (s.nat (HK_LAST e))).setBit
    (HK_ENTRY.ENTRY_STATUS e) 2 false
  if wasOpen && !restored then s
  else
    let v := s.hkValue e sum rep
    let s := ((s.hkSetValue e v.1).setBit (HK_ENTRY.ENTRY_STATUS e) 3 v.2).setBit (HK_ENTRY.ENTRY_STATUS e) 0 false
    let s := if s.nat ESTIMATOR.EST_TEMP_ENTRY = e then s.battTempExtremes (s.get (HK_ENTRY.VALUE e)) else s
    if restored then
      (s.setBit (HK_ENTRY.ENTRY_STATUS e) 1 false).raise .SENSOR_RESTORED (siteEntry e) 0 0
        [f8 e, f32 (s.get (HK_ENTRY.VALUE e))]
    else s

/-- R404: the pass of the entry that sequence q converts ends; the sequence goes on to its next entry. -/
def State.hkPassEnd (s : State) (q : Nat) : State :=
  let e := s.hkEntry q
  let rep := s.nat (HK_ENTRY.REPEAT e)
  if s.hkOn && s.hkDue q && rep ≤ s.nat (HK_DONE e) then
    let sum := s.get (HK_SUM e)
    let injected := s.flag (HK_INJECT e)
    let s := s.setN (HK_PASS_AT e) s.time
    let s := if injected then s.hkInjected e (hkRound (s.hkSigned e) sum rep) else s.hkClean e sum rep
    let s := s.setN (HK_INJECT e) (bitOf (s.bit (HK_ENTRY.ENTRY_FLAGS e) 1 && !injected))
    let s := ((s.setN (HK_AT q) (e + 1)).setN (HK_DONE (e + 1)) 0).setN (HK_SUM (e + 1)) 0
    (s.setN (HK_PRE q) 1).hkArbitrate
  else s

/-! ### Starting and stopping -/

/-- R414: every latch and count of a run is cleared, and looping sequences start at their first entry. -/
def State.hkRestart (s : State) (q : Nat) : State :=
  let s := ((s.setN (HK_RUN q) 0).setN (HK_LATCH q) 0).setN (HK_DROPS q) 0
  if s.hkOn && s.nat (HK_SEQUENCE.MODE q) = 1 then s.hkBegin q else ((s.setN (HK_PRE q) 0).hkShow q).hkArbitrate

/-- R407, R414: the sequences start at the end of step 6. Every entry is stale from there until its first pass. -/
def State.hkStarts (s : State) : State :=
  let s := forBelow 64 (fun e s => s.raise .ENTRY_STALE (siteEntry e) 0 0 [f8 e, f8 0]) s
  forBelow 4 (fun q s => s.hkRestart q) s

/-- Coincidence table: a commit has changed objects of sequence q or of an entry that it converts. BURNOUT set anew begins
with a clean pass. -/
def State.hkCommitted (s : State) (keys : List Nat) : State :=
  let entries := (List.range 64).filter fun e => keys.any fun k => k / 256 == 0x2510 + e
  let s := forEach entries (fun e s => if s.bit (HK_ENTRY.ENTRY_FLAGS e) 1 then s else s.setN (HK_INJECT e) 0) s
  forBelow 4 (fun q s =>
    if (keys.any fun k => k / 256 == 0x2501 + q) ||
      entries.any fun e => s.nat (HK_SEQUENCE.FIRST_ENTRY q) ≤ e && e ≤ s.nat (HK_SEQUENCE.LAST_ENTRY q) then s.hkRestart q
    else s) s

/-! ### House conversions (R413) -/

/-- R413: the house conversions: VBAT, VH, VCORE, VIO, V18 and VBK in 0.1 mV, and the reference codes that calibration
finds faulty, each with its converter (the spec states no limit for them). An entry that they interrupt on converter B serves its
delay again. -/
def State.houseConversion (s : State) (vbat vh vcore vio v18 vbk : Int) (faults : List (Fin 2 × Nat)) : State :=
  if s.live then
    let s := s.setBit SUPPLY_STATUS.SUPPLY_FLAGS 0 (580000 < vbat)
    let s := ((s.set SUPPLY_STATUS.VBAT vbat).set SUPPLY_STATUS.VH vh).set SUPPLY_STATUS.VCORE vcore
    let s := ((s.set SUPPLY_STATUS.VIO vio).set SUPPLY_STATUS.V18 v18).set SUPPLY_STATUS.VBK vbk
    let s := s.setN HK_ADC.CONVERSIONS ((s.nat HK_ADC.CONVERSIONS + 8) % 2 ^ 64)
    let s := forBelow 4 (fun q s =>
      if s.hkDue q && !s.flag (HK_PRE q) && s.nat (HK_SEQUENCE.CONVERTER q) != 0 then s.hkDelay q else s) s
    forEach faults (fun f s =>
      s.raise .HK_CALIBRATION_FAULT (0x0E000000 + f.1.val * 0x400000) 0 0 [f8 f.1.val, f16 f.2]) s
  else s

/-! ### Rows -/

def execHkPeriodTrigger (q : Seq) (s : State) : Host.Outcome State Fault Refusal := .next (s.hkPeriod q.val)
def execHkConversionEnd (q : Seq) (code : Nat) (s : State) : Host.Outcome State Fault Refusal :=
  .next (s.hkConversion q.val code)
def execHkPassEnd (q : Seq) (s : State) : Host.Outcome State Fault Refusal := .next (s.hkPassEnd q.val)
def execHkRunEnd (q : Seq) (s : State) : Host.Outcome State Fault Refusal := .next (s.hkRunEnd q.val)
def execEntryStale (e : Entry) (s : State) : Host.Outcome State Fault Refusal := .next (s.hkAges e.val)
def execHouseConversion (vbat vh vcore vio v18 vbk : Int) (faults : List (Fin 2 × Nat)) (s : State) :
    Host.Outcome State Fault Refusal := .next (s.houseConversion vbat vh vcore vio v18 vbk faults)

end Sys2Proof.Machine
end

