-- ==== Sys2Proof/Machine/Thermal.lean ====
section
/-!
DEFINITION. Temperature sensors and throttling (R416 to R425). Die 0 is CX, dies 1 to 4 are CD0 to CD3. What a sensor reads
comes from outside.
-/
namespace Sys2Proof.Machine

/-- R425: the site of thermal die d. -/
def siteThermal (d : Nat) : Nat := if d = 0 then siteControl else siteDie (d - 1) 0xE0

/-- The thermal die of sensor i. -/
def sensorDie (i : Nat) : Nat := if i < 4 then 0 else (i - 4) / 8 + 1

/-- The place of sensor i on its die. -/
def sensorPlace (i : Nat) : Nat := if i < 4 then i else (i - 4) % 8

/-- The sensors of thermal die d. -/
def dieSensors (d : Nat) : List Nat := if d = 0 then List.range 4 else (List.range 8).map (4 + 8 * (d - 1) + ·)

/-- R19, R18: the site of sensor i. -/
def siteSensor (i : Nat) : Nat :=
  if i < 4 then siteBlock (0x59 + i) 0 0 else siteCode (sensorDie i) 0 0 0 0xE5 (sensorPlace i)

/-- The register of the result of sensor i. -/
def sensorKey (i : Nat) : Nat := THERMAL_DIE.SENSOR (sensorDie i) (sensorPlace i)

/-- A message about thermal die d: the control die raises those of CX, while it runs. -/
def State.raiseThermal (s : State) (d : Nat) (k : Kind) (site : Nat) (fields : List (Nat × Int)) : State :=
  if d = 0 then (if s.live then s.raise k site 0 0 fields else s) else s.raiseDie (d - 1) k site 0 0 fields

/-- R417: whether sensor i has failed. -/
def State.sensorFailed (s : State) (i : Nat) : Bool := s.bit (THERMAL_DIE.FAILED_SENSORS (sensorDie i)) (sensorPlace i)

/-- R417, R418: the sensors of die d that work and have a result. -/
def State.working (s : State) (d : Nat) : List Nat :=
  (dieSensors d).filter fun i => !s.sensorFailed i && s.get (sensorKey i) != notAvailable .i16

/-- R417: whether every sensor of die d has failed. -/
def State.blind (s : State) (d : Nat) : Bool := (dieSensors d).all fun i => s.sensorFailed i

/-- Twice the median of a list: with an even number of values the mean of the middle two. -/
def median2 (l : List Int) : Int :=
  let m := l.mergeSort (· ≤ ·)
  m.getD ((m.length - 1) / 2) 0 + m.getD (m.length / 2) 0

/-- R417: twice the median of the other working sensors of the die of sensor i, if there are any. -/
def State.othersMedian2 (s : State) (i : Nat) : Option Int :=
  let l := ((s.working (sensorDie i)).filter (· != i)).map fun j => s.get (sensorKey j)
  if l = [] then none else some (median2 l)

/-- R419: whether a result lies within 5 K of a temperature of the limit table. -/
def nearLimit (t : Int) : Bool :=
  [-4500, -4000, -3500, 12500, 13000, 13500, 14000, 14500, 16000].any fun l => (t - l).natAbs ≤ 500

/-- R417: sensor i fails on a result. -/
def State.sensorFails (s : State) (i : Nat) (t : Int) : State :=
  if s.sensorFailed i then s
  else
    let d := sensorDie i
    let s' := s.setBit (THERMAL_DIE.FAILED_SENSORS d) (sensorPlace i) true
    match s.othersMedian2 i with
    | some m => s'.raiseThermal d .TEMP_SENSOR_FAILED (siteSensor i) [f8 i, f16 t, f16 (divNear m 2)]
    | none => (s'.takeFree.2).raiseThermal d .TEMP_SENSOR_FAILED (siteSensor i) [f8 i, f16 t, f16 s'.takeFree.1]

/-- R417: a sample of sensor i is judged for a failure of the sensor. -/
def State.sensorJudge (s : State) (i : Nat) (t : Int) : State :=
  if t < -6000 || 20000 < t then s.sensorFails i t
  else
    match s.othersMedian2 i with
    | none => s.setN (TEMP_ODD i) 0
    | some m =>
      if 5000 < (2 * t - m).natAbs then
        let n := s.nat (TEMP_ODD i) + 1
        let s := s.setN (TEMP_ODD i) (min n 10)
        if 10 ≤ n then s.sensorFails i t else s
      else s.setN (TEMP_ODD i) 0

/-- R418: the maximum and the minimum of die d, and the global maximum with its sensor. -/
def State.thermalMaxima (s : State) (d : Nat) : State :=
  let l := (s.working d).map fun i => s.get (sensorKey i)
  let s := match l.max? with
    | some m =>
      let s := s.set (THERMAL_DIE.DIE_MAX d) m
      let p := s.get (THERMAL_DIE.PEAK_SINCE_OPENING d)
      if p = notAvailable .i16 || p < m then s.set (THERMAL_DIE.PEAK_SINCE_OPENING d) m else s
    | none => s
  let s := match l.min? with
    | some m => s.set (THERMAL_DIE.DIE_MIN d) m
    | none => s
  let all := (List.range 5).flatMap fun d => s.working d
  match (all.map fun i => s.get (sensorKey i)).max? with
  | some m =>
    (s.set THERMAL.GLOBAL_MAX m).setN THERMAL.GLOBAL_MAX_SENSOR ((all.find? fun i => s.get (sensorKey i) == m).getD 0)
  | none => s

/-- The sensor of die d that reads its maximum. -/
def State.hottest (s : State) (d : Nat) : Nat :=
  ((s.working d).find? fun i => s.get (sensorKey i) == s.get (THERMAL_DIE.DIE_MAX d)).getD 0

/-! ### Shutdown of a channel die (R424) -/

/-- R424: whether channel n turns off at the shutdown of its die. -/
def State.shutsOff (s : State) (n : Nat) : Bool := !isAnchored n && s.cell n != ST.OFF && s.cell n != ST.LOCKOUT

/-- R424: channel n at the shutdown of its die. -/
def State.shutChannel (s : State) (n : Nat) : State :=
  let incoming := (List.range 64).any fun p => s.nat (SWAP_IN p) == n + 1
  if s.shutsOff n then
    let s := ((s.setRequest n 0).turnOff n 4).setN (SAFE_WAIT n) 0
    if incoming then s.setN (STORED_WAIT n) 1 else s
  else if s.cell n = ST.OFF && s.waiting n then (s.withdraw n).setN (STORED_WAIT n) 1
  else s

/-- R424: channel die d, 0 to 3, shuts down. -/
def State.dieShuts (s : State) (d : Nat) : State :=
  let count := ((dieChannels d).filter fun n => s.shutsOff n).length
  let s := forEach (dieChannels d) (fun n s => s.shutChannel n) s
  s.raiseThermal (d + 1) .THERMAL_SHUTDOWN (siteThermal (d + 1))
    [f8 (d + 1), f16 (s.get (THERMAL_DIE.DIE_MAX (d + 1))), f16 count]

/-- R424: a request of channel n stored during the shutdown asks for admission, or acts on a channel that is not off; not on a
standing one, nor on a die without logic. -/
def State.storedAsks (s : State) (n : Nat) : State :=
  if s.flag (STORED_WAIT n) then
    let s := s.setN (STORED_WAIT n) 0
    if s.standing n || s.flag (LOGIC_OFF (dieOf n)) then s
    else if s.cell n != ST.OFF then s.actOnRequest n
    else if (List.range 64).any fun p => s.nat (SWAP_IN p) == n + 1 then s.askAdmission n 3
    else if s.coolingOwed n then s.setModelFlag n MFLAG.COOLING_WAIT true
    else s.askAdmission n 1
  else s

/-! ### The limits (R420 to R424) -/

/-- R420: DIE_STATE after a maximum m, from the state before: each limit with its own exit. -/
def dieStateNext (old : Nat) (m : Int) : Nat :=
  if 16000 ≤ m || (old = 3 && 14500 ≤ m) then 3
  else if 14000 ≤ m || (2 ≤ old && 13500 ≤ m) then 2
  else if 13000 ≤ m || (1 ≤ old && 12500 ≤ m) then 1
  else 0

/-- R422: a calibration rotation that throttling paused resumes where it stopped. -/
def State.calResumes (s : State) (k : Nat) : State :=
  if s.flag (CAL_PAUSED k) then (s.setN (CAL_PAUSED k) 0).setN (CAL_POS_AT k) s.time else s

/-- R420: DIE_STATE of die d changes from old to new, with what each edge does. -/
def State.dieStateTo (s : State) (d old new : Nat) : State :=
  let s := s.setN (THERMAL_DIE.DIE_STATE d) new
  let m := s.get (THERMAL_DIE.DIE_MAX d)
  let site := siteThermal d
  let s := if old = 0 && 1 ≤ new then s.raiseThermal d .HOT_WARNING site [f8 d, f16 m, f8 (s.hottest d)] else s
  let s := if old < 2 && 2 ≤ new then
      let s := s.setN (THR_SINCE d) (s.time + 1)
      let s := if d = 0 then
          (s.setN PERFORMANCE.THERMAL_FLOOR (min 3 (s.nat PERFORMANCE.THERMAL_FLOOR + 1))).setN THR_STEP_AT s.time
        else s
      s.raiseThermal d .THROTTLE_ENTERED site [f8 d, f16 m, f8 (s.get PERFORMANCE.THERMAL_FLOOR)]
    else s
  let s := if old < 3 && new = 3 then
      let s := s.setN (SHUT_SINCE d) s.time
      if d = 0 then s.raiseThermal 0 .CX_OVERTEMP site [f16 m, f8 (s.hottest 0)] else s.dieShuts (d - 1)
    else s
  let s := if old = 3 && new < 3 then
      let s := s.count (THERMAL_DIE.SHUTDOWNS d) 0xFFFF
      let s := if d = 0 then s else forEach (dieChannels (d - 1)) (fun n s => s.storedAsks n) s
      s.raiseThermal d .SHUTDOWN_ENDED site [f8 d, f16 m, f32 ((s.time - s.nat (SHUT_SINCE d)) / 1000 : Nat)]
    else s
  if 2 ≤ old && new < 2 then
    let spent := s.time + 1 - s.nat (THR_SINCE d)
    let s := (s.setN (THR_SPENT d) (s.nat (THR_SPENT d) + spent)).setN (THR_SINCE d) 0
    let s := if d = 0 then s.setN THR_STEP_AT s.time else forBelow 8 (fun b s => s.calResumes (8 * (d - 1) + b)) s
    s.raiseThermal d .THROTTLE_ENDED site [f8 d, f16 m, f32 (spent / 1000 : Nat)]
  else s

/-- R420: COLD_LIMIT of die d. -/
def State.coldJudge (s : State) (d : Nat) : State :=
  let m := s.get (THERMAL_DIE.DIE_MIN d)
  let was := s.flag (COLD d)
  let now := m < -4500 || (was && m < -4000)
  let s := s.setFlag (COLD d) now
  let s := s.setBit THERMAL.THERMAL_FLAGS 1 ((List.range 5).any fun d => s.flag (COLD d))
  if now && !was then s.raiseThermal d .COLD_LIMIT (siteThermal d) [f8 d, f16 m] else s

/-- R420: COLD_START, judged at the first sample after the release of the control die. -/
def State.coldStart (s : State) : State :=
  let g := s.get THERMAL.GLOBAL_MAX
  if !s.live then s
  else if !s.flag COLD_JUDGED then
    let s := s.setN COLD_JUDGED 1
    if g < -4000 then (s.setBit THERMAL.THERMAL_FLAGS 0 true).raiseThermal 0 .COLD_START siteControl [f16 g] else s
  else if s.bit THERMAL.THERMAL_FLAGS 0 && -3500 ≤ g then s.setBit THERMAL.THERMAL_FLAGS 0 false
  else s

/-- R416 to R424: sensor i has taken a sample. -/
def State.tempSample (s : State) (i : Nat) (t : Int) : State :=
  if s.nat DEV_STATE = 3 then s
  else
    let d := sensorDie i
    let old := s.nat (THERMAL_DIE.DIE_STATE d)
    let s := s.sensorJudge i t
    let s := s.set (sensorKey i) (clampInt (-32767) 32767 t)
    let s := s.setBit (THERMAL_DIE.FAST_SAMPLING d) (sensorPlace i) (nearLimit t)
    let s := s.thermalMaxima d
    let new := if s.blind d then (if d = 0 then old else max old 2) else dieStateNext old (s.get (THERMAL_DIE.DIE_MAX d))
    let s := if new = old then s else s.dieStateTo d old new
    let s := if d = 0 && s.blind 0 then s.setN PERFORMANCE.THERMAL_FLOOR 3 else s
    (s.coldJudge d).coldStart

/-- R421: the thermal floor moves one level: down after 10 ms throttled, up after 100 ms out of it. -/
def State.floorStep (s : State) : State :=
  let f := s.nat PERFORMANCE.THERMAL_FLOOR
  let at_ := s.nat THR_STEP_AT
  if !s.live || s.blind 0 then s
  else if 2 ≤ s.nat (THERMAL_DIE.DIE_STATE 0) then
    if f < 3 && at_ + 10000 ≤ s.time then (s.setN PERFORMANCE.THERMAL_FLOOR (f + 1)).setN THR_STEP_AT s.time else s
  else if 0 < f && at_ + 100000 ≤ s.time then (s.setN PERFORMANCE.THERMAL_FLOOR (f - 1)).setN THR_STEP_AT s.time
  else s

/-- R417, R420: what begins anew at an opening. The sensors themselves ran on. -/
def State.thermalOpening (s : State) : State :=
  let s := ((s.setN COLD_JUDGED 0).setBit THERMAL.THERMAL_FLAGS 0 false).setN THR_STEP_AT s.time
  forBelow 5 (fun d s =>
    let s := (s.setN (THERMAL_DIE.FAILED_SENSORS d) 0).restore (THERMAL_DIE.PEAK_SINCE_OPENING d)
    let s := (s.setN (THR_SPENT d) 0).setN (THERMAL_DIE.SHUTDOWNS d) 0
    if s.flag (THR_SINCE d) then s.setN (THR_SINCE d) (s.time + 1) else s) s

/-! ### Rows -/

def execTempSample (i : Sensor) (t : Int) (s : State) : Host.Outcome State Fault Refusal := .next (s.tempSample i.val t)
def execThermalFloorStep (s : State) : Host.Outcome State Fault Refusal := .next s.floorStep

end Sys2Proof.Machine
end

