-- ==== Sys2Proof/Machine/Keep.lean ====
section
/-!
DEFINITION. What a reset clears and what it keeps (R269, R297): the registers that the backup domain, the record store and
the supplies hold, those that the channel dies hold, and those that stay powered in Park.
-/
namespace Sys2Proof.Machine

/-- The family numbers of internal registers. -/
def families (l : List Nat) : List Nat := l.map (· / 256 % 4096)

/-- Internal registers that no reset clears: time, the backup domain and its retained SRAM, the record store, the battery
switch, the button, the temperature sensors and the reset itself. -/
def familiesKept : List Nat := families
  ([LAST_BOUNDARY, TICK_OFFSET, DIE_OFFSET 0, DIES_HELD, SUPPLY_LOW 0, STORE_JOURNAL 0, STORE_HAS, STORE_ERASING, LIFE_STORED 0, DEV_STATE, RESET_START_AT, RESET_UNTIL, VBAT_GONE_AT, VBAT_ROSE_AT, RSTOUT_UNTIL,
    RSTOUT_HIGH, RSTIN_UNTIL, RESET_FULL, BACKUP_ANEW, RTC_BASE, RTC_FROM, MONO_BASE, MONO_FROM, OSC_OFF, ON_VBK, VBK_LAST,
    BACKUP_LOCKED, BACK_TRIM, BACK_ALARM, BACK_REPEAT, BACK_SOURCES, BACK_ENABLE, BACK_POLARITY, BACK_SENSE, BACK_FILTER,
    WAKE_PENDING, KEEPER_HOLDING, KEEPER_TOLD, KEEPER_PASS, KEEPER_AT, KEEPER_LAST, STOP_MARK, PERST_LOW] ++
  ([RET_STAMP, RET_SOCI, RET_SOC, RET_CAPACITY, RET_ENTRY, RET_ENTRY_TIME, RET_SKIP, RET_PROFILE_SKIP, RET_STOPS, RET_LOCKOUTS,
    RET_CASCADE 0, RET_CASCADES, RET_RETRY, RET_PORT, RET_COB, RET_RATE, RET_SAMPLE, RET_ENTERED, RSO_KEEP 0, RSO_TOGGLE_AT 0,
    WD_GAIN 0, WDX_GAIN] : List Nat) ++
  ([SW_MARK, SW_TRIPPED, SW_UNPOWERED, SW_ON_AT, SW_CONN_AT, BTN_FELL, BTN_LONG, LONG_AT, SHIP_IN, STORE_COPY 0, STORE_SEQ 0, STORE_SIDE, STORE_ERA,
    STORE_STOPS, STORE_LOCKOUTS, LONG_RESET, VBAT_OUT, CONV_LIFE 0, LIFE_NEW 0, VBUS_LAST 0, WD_STORED 0, WDX_STORED, V18_LOW] : List Nat) ++
  ([TEMP_ODD 0, THR_SINCE 0, THR_SPENT 0, SHUT_SINCE 0, COLD 0] : List Nat))

/-- Internal registers of the channel dies, which a control-die reset leaves (R269). -/
def familiesOnDie : List Nat := families
  ([CELL 0, GATE 0, LATCH 0, LATCH_PULLED 0, RAMP_START 0, BLANK_UNTIL 0, LIMIT_FROM 0, LIMIT_EPISODE 0, LIMIT_SINCE 0,
    LIMIT_SPENT 0, LIMIT_LEFT 0, TRIP_FRAME 0, TRIP_STATE 0, WAIT_END 0, RUN_SINCE 0, RUN_SPENT 0, PEND 0, PWM_AT 0, PWM_NEXT 0,
    PWM_OFF 0, PWM_HIGH 0, PWM_HELD 0, PWM_PERIODS 0, PWM_SQ 0, PWM_CNT 0, PWM_RMS 0, LAMP_AT 0, LAMP_LOW 0, LAMP_TOLD 0, STALE_TOLD 0 0,
    RAMP_RETRY 0] ++
  ([WIRE1 0, WIRE2 0, WIRE_NOW 0, WIRE_REF 0, FET1 0, FET2 0, FET_NOW 0, FET_REF 0, STAND_ENTRY 0, STAND_EVENTS 0, RISE_AT 0,
    WIN 0, WIN_COUNT 0 0, WIN_ACC 0 0, WIN_LAST 0, ND_GROUP 0, SAFE_WAIT 0, RETRY_STRETCH 0, SAMPLE_I 0 0,
    SAMPLE_V 0 0, SUM_I 0 0, SUM_V 0 0, SUM_SQ 0 0, SUM_CNT 0 0,
    SUM_CNTV 0 0, SLOT_SKIPPED 0, FRAMES_SEEN 0, SUMMARY 0 0, OVER_NOW 0, OVER_AT 0] : List Nat) ++
  ([CAL_AT 0, CAL_GAIN 0 0, CAL_OFFSET 0 0, CAL_DIFF 0 0, CAL_POS 0, ROUND_NO 0, VBUS_SUM 0 0, VBUS_CNT 0 0,
    HEAD_SUM 0 0, BSW_SUM 0 0, BSW_CNT 0, CAL_POS_AT 0, CAL_PAUSED 0, CAP_FROM 0, CAP_SEEN 0, CAP_RING 0 0, HEAD_LAST 0, PUMP_START 0, PUMP_STOP_AT 0,
    LOGIC_OFF 0, LOGIC_OFF_AT 0, HEART_LOST 0, LAST_VALID 0, LOSS_STOOD 0, STAND_TRIGGERS 0, REF_TOLD 0] : List Nat))

/-- Internal registers of the always-on part of R294: the charge accumulator, the sums it feeds and the current tracker, with what it
takes into Park; and the bins of the last second before Park (R260). -/
def familiesInPark : List Nat := families
  [EST_REM, EST_DIV, EST_QP, EST_QM, EST_SUM, EST_CNT, EST_REST_SINCE, EST_REST_DONE, EST_PARK_MAX, EST_UPDATED, PARK_SHUNT,
    PARK_BAND, PARK_REST, PARK_CHARGE 0, EST_BIN, EST_IBIN]

/-- Objects that no reset clears. -/
def objectKept (a : Nat) : Bool :=
  let idx := a / 256
  let sub := a % 256
  a == RESET_CONTROL.DEVICE_RESETS || (idx == 0x2021 && 1 ≤ sub && sub ≤ 6) || a == STRAPS.STRAP_VALUE ||
    [OPENING_STATUS.SKIP_MASK, OPENING_STATUS.PROFILE_SKIP, OPENING_STATUS.OPENINGS].contains a || idx == 0x2024 ||
    [POWER_STATE.PARK_ENTRIES, POWER_STATE.PARK_ABORTS, POWER_STATE.LAST_PARK_DURATION, POWER_STATE.LAST_WAKE_CAUSE,
      WAKE_CONFIG.WAKE_LEVEL, WAKE_CONFIG.WAKE_LATCHED].contains a || (0x2400 ≤ idx && idx < 0x2406) ||
    (0x2600 ≤ idx && idx < 0x2610 && sub == 0x0B) ||
    [DEVICE_WATCHDOG.WDX_RESETS, DEVICE_WATCHDOG.LAST_WDX_STAMP, RTC.RTC_FLAGS, PON_CONTROL.PON_STATE,
      PON_CONTROL.PON_LAST_CAUSE, RETAINED.REGIONS_LOST].contains a ||
    [FAULT_STATUS.HOUSE_STOPS, FAULT_STATUS.LOCKOUTS, FAULT_STATUS.LAST_STOP].contains a ||
    [KEEPER.FAILED_OPENINGS, KEEPER.HOLDS, KEEPER.LAST_HOLD_SECONDS, KEEPER.RETRY_SERIES].contains a ||
    (0x2D30 ≤ idx && idx < 0x2D34) || [BATTERY_SWITCH.MODE_IN_EFFECT, BATTERY_SWITCH.FORWARD, BATTERY_SWITCH.OPEN_CAUSE].contains a ||
    [SHIP_CONTROL.BTN_STATE, SHIP_CONTROL.LONG_PRESSES, SHIP_CONTROL.SHIP_ENTRIES, SHIP_CONTROL.LAST_SHIP_DURATION,
      BATTERY_RECORD.SEQUENCE].contains a

/-- Objects that a control-die reset leaves: the root oscillator (R262), and on the channel dies what a die shows, its
counters, and the configuration applied on it (R117, R269). -/
def objectOnDie (a : Nat) : Bool :=
  let idx := a / 256
  let sub := a % 256
  a == CLOCK_STATUS.ROOT_SOURCE || a == CLOCK_STATUS.ROOT_LOCKED || (0x2012 ≤ idx && idx < 0x2016 && sub == 6) ||
    (0x3400 ≤ idx && idx < 0x3600 && [0x01, 0x02, 0x0B, 0x0C, 0x0D, 0x0F].contains sub) ||
    (0x3200 ≤ idx && idx < 0x3400 && 0x29 ≤ sub && sub ≤ 0x2C) || (0x3600 ≤ idx && idx < 0x3800 && 0x10 ≤ sub && sub ≤ 0x18) ||
    (0x3800 ≤ idx && idx < 0x3820 && (sub == 4 || (0x17 ≤ sub && sub ≤ 0x19))) ||
    ((heldDie a).isSome && (match subAt a with
      | some r => r.cls == .staged
      | none => false))

/-- Whether a reset keeps the register under key k: a full one or one of the control die; park for the exit from Park. -/
def keptKey (full park : Bool) (k : Nat) : Bool :=
  if k < 2 ^ 24 then objectKept k || (!full && objectOnDie k) || (park && k == ESTIMATOR_STATUS.CHARGE)
  else if k < 2 ^ 40 then false
  else if k < 2 ^ 41 then !full && (heldDie (k - 2 ^ 40)).isSome
  else
    familiesKept.contains (k / 256 % 4096) || (!full && familiesOnDie.contains (k / 256 % 4096)) ||
      (park && familiesInPark.contains (k / 256 % 4096))

/-- R117: the defaults that the control die now holds for the channels of die d, where the die applies something else. -/
def State.defaultsFor (s : State) (d : Nat) : List (Nat × Int) :=
  ((s.regs.filter fun p => p.1 < 2 ^ 24 && heldDie p.1 == some d && objectOnDie p.1).map fun p => (p.1, regReset p.1))

/-- R269: everything that a reset of the control die, or a full one, clears goes to its reset value. -/
def State.wipe (s : State) (full park : Bool) : State :=
  let late := if full then [] else
    ((List.range 4).map fun d => (⟨d, s.defaultsFor d⟩ : LateSet)).filter fun x => x.values != []
  let s : State := { s with
    regs := s.regs.filter fun p => keptKey full park p.1
    blobs := s.blobs.filter fun p => keptKey full park p.1
    landing := []
    staged := []
    barriers := []
    heldWrites := []
    late := late
    canQueue := []
    signing := []
    dieMsgs := if full then [] else s.dieMsgs
    collector := []
    placing := []
    rings := []
    fences := []
    shadows := s.shadows.filter fun x => x.cause == 9 || x.cause == 10
    resp := .none }
  let marked := (List.range 512).filter fun n => (lookupKey s.regs (CHANNEL_STATUS.FLAGS n)).isSome
  forEach marked (fun n s =>
    (s.setChFlag n FLAG.WAITING_ADMISSION false).setChFlag n FLAG.KEPT_SETTINGS false) s

end Sys2Proof.Machine
end

