-- ==== Sys2Proof/Machine/Power.lean ====
section
/-!
DEFINITION. Supplies (R281 to R286), performance levels (R288, R289), power modes (R291) and the entry to Park (R293 to R295).
-/
namespace Sys2Proof.Machine

/-- R304: the site of house regulator HRr. -/
def siteRegulator (r : Nat) : Nat := 0x203A0000 + r * 0x4000

/-- R304: the package supply balls. -/
abbrev siteSupply : Nat := 0xF0000000

/-! ### Supplies -/

/-- R282: the overvoltage lockout threshold of the device, between 61 V and 64 V. -/
def vbatThreshold : Int := 610000 + (Config.vbatLockout % 30001 : Nat)

/-- R282: VBAT above the overvoltage lockout threshold: HR0 stops switching. -/
def State.vbatOver (s : State) (vbat : Int) : State :=
  if s.live && vbatThreshold < vbat && !s.bit SUPPLY_STATUS.SUPPLY_FLAGS 1 then
    (s.setBit SUPPLY_STATUS.SUPPLY_FLAGS 1 true).raise .VBAT_OVERVOLTAGE siteSupply 0 0 [f32 vbat]
  else s

/-- R282: VBAT 1.5 V below the threshold: HR0 switches again. -/
def State.vbatOverEnds (s : State) (vbat : Int) : State :=
  if vbat ≤ vbatThreshold - 15000 then s.setBit SUPPLY_STATUS.SUPPLY_FLAGS 1 false else s

/-- R285: regulator r enters or leaves current limit; the record comes at most once per second. -/
def State.hrLimit (s : State) (r : Nat) (on : Bool) (volts : Int) : State :=
  let was := s.bit SUPPLY_STATUS.SUPPLY_FLAGS (2 + r)
  let s := s.setBit SUPPLY_STATUS.SUPPLY_FLAGS (2 + r) on
  if !on || was || !s.live then s
  else
    let s := s.count SUPPLY_STATUS.HR_LIMIT_EVENTS 0xFFFFFFFF
    if s.nat (HR_TOLD r) != 0 && s.time < s.nat (HR_TOLD r) - 1 + 1000000 then s
    else (s.setN (HR_TOLD r) (s.time + 1)).raiseDie 0 .HR_CURRENT_LIMIT (siteRegulator r) 0 0 [f8 r, f32 volts]

/-- R286: V18 has been at a voltage for a time in microseconds. -/
def State.supply18 (s : State) (v18 : Int) (us : Nat) : State :=
  if 16200 ≤ v18 then (s.setN V18_LOW 0).setBit SUPPLY_STATUS.SUPPLY_FLAGS 6 false
  else if us < 2 || s.flag V18_LOW then s
  else
    let s := (s.setN V18_LOW 1).setBit SUPPLY_STATUS.SUPPLY_FLAGS 6 true
    if s.live then s.raiseDie 0 .SUPPLY_18_LOW (siteRegulator 3) 0 0 [f32 v18] else s

/-! ### Performance levels -/

/-- R288: the level that is to be in force: the slower of the request and the thermal floor. -/
def State.levelAim (s : State) : Nat := max (s.nat (inForce PERFORMANCE.LEVEL_REQUEST)) (s.nat PERFORMANCE.THERMAL_FLOOR)

/-- R288: VCORE of a level in 0.1 mV, the factory trim included. -/
def vcoreOf (level : Nat) : Int := 9000 - 500 * level + Config.vcoreTrim

/-- A level comes into force, with its CORE rate in kHz (R21): 200, 100, 50 or 25 MHz. -/
def State.levelTo (s : State) (l : Nat) : State :=
  (s.setN PERFORMANCE.LEVEL_IN_FORCE l).setN CLOCK_STATUS.CORE_RATE (200000 / 2 ^ l)

/-- R289: one step towards the level that is to be in force. -/
def State.levelStep (s : State) : State :=
  let l := s.nat PERFORMANCE.LEVEL_IN_FORCE
  if !s.live || s.levelAim = l then s
  else
    let n := if l < s.levelAim then l + 1 else l - 1
    ((s.levelTo n).count PERFORMANCE.LEVEL_CHANGES 0xFFFFFFFF).raise .LEVEL_CHANGED siteControl 0 0
      [f8 l, f8 n, f8 (s.get PERFORMANCE.THERMAL_FLOOR)]

/-! ### Power modes and Park -/

/-- R291: POWER_MODE lands. -/
def State.powerMode (s : State) (v : Nat) : State :=
  let before := s.nat POWER_STATE.STATE
  let s := s.setN (inForce POWER_STATE.POWER_MODE) v
  if s.nat PARK_STAGE != 0 || before = v then s
  else (s.setN POWER_STATE.STATE v).raise .POWER_MODE_CHANGED siteControl 0 0 [f8 before, f8 v]

/-- R293: whether a PARK write is refused. -/
def State.parkRefused (s : State) : Bool :=
  s.nat OPENING_PLAN.PLAN_STATE == 1 || s.nat OPENING_PLAN.PLAN_STATE == 2 || s.nat ENDGAME_PLAN.PLAN_STATE == 1 ||
    s.nat ENDGAME_PLAN.PLAN_STATE == 2 || ((List.range 16).any fun t => s.committing t) ||
    s.nat OPENING_STATUS.OPENING_STATE != 1 || s.nat PARK_STAGE != 0 ||
    ((List.range 9).any fun b => s.bit WAKE_CONFIG.WAKE_LATCHED b && s.wakeEnable.testBit b) ||
    (List.range 8).any fun i => s.wakeEnable.testBit i && !s.wakeSense.testBit i && s.wakeActive i

/-- The channels of die d with their gate on. -/
def State.gatesOn (s : State) (d : Nat) : Nat := ((dieChannels d).filter fun n => s.conducts n).length

/-- R294, steps 1 and 2: PARK takes effect; the record store begins its writes, and the retained copy is written. -/
def State.parkBegins (s : State) : State :=
  if s.nat PARK_STAGE != 0 || !s.live then s
  else
    let s := ((s.setN POWER_STATE.STATE 2).setN PARK_STAGE 1).setN WAKE_PENDING 0
    let s := forBelow 4 (fun m s =>
      ((s.setN (CONVERTER.ENABLE m) 0).setN (inForce (CONVERTER.ENABLE m)) 0).convStop m 0) s
    let s := s.swNoClosed.raise .PARK_ENTERED siteControl 0 0
      [f16 (s.gatesOn 0), f16 (s.gatesOn 1), f16 (s.gatesOn 2), f16 (s.gatesOn 3)]
    s.storeTrips.recordWrite.retainedCopy

/-- R294, step 3: the record store has finished: the point of no return. The watchdogs stop there (R432). -/
def State.parkCommits (s : State) : State :=
  if s.live && s.nat PARK_STAGE = 1 && !s.flag STORE_BUSY && ((List.range 4).all fun m => !s.flag (CONV_WRITING m)) &&
      s.time = s.nat LAST_BOUNDARY then
    let s := (s.setN PARK_STAGE 2).setN PARK_FRAME s.frame
    forBelow 4 (fun d s => if s.linkUp d then s.setN (STAND_DUE d) 5 else s) s
  else s

/-- R294, step 4: one frame later the ports stop, RSTOUT_N goes low and the core domain switches off. The always-on part
stays (R297). A wake met since the point of no return is kept (R295). -/
def State.parkDown (s : State) : State :=
  if s.live && s.nat PARK_STAGE = 2 && s.nat PARK_FRAME < s.frame then
    let s := forBelow 32 (fun d s => if s.nat (STREAM.STREAM_STATE d) = 0 then s else s.dsStop d 2) s
    let s := (s.estParks.count POWER_STATE.PARK_ENTRIES 0xFFFF).setN RET_ENTERED s.rtcSeconds
    let s := (s.keepCopies.setN RSTOUT_HIGH 0).wipe false true
    (s.setN DEV_STATE 2).pwmFloat
  else s

/-! ### Rows -/

def execVbatOvervoltage (vbat : Int) (s : State) : Host.Outcome State Fault Refusal := .next (s.vbatOver vbat)
def execVbatOvervoltageEnd (vbat : Int) (s : State) : Host.Outcome State Fault Refusal := .next (s.vbatOverEnds vbat)
def execHrCurrentLimit (r : Fin 4) (on : Bool) (volts : Int) (s : State) : Host.Outcome State Fault Refusal :=
  .next (s.hrLimit r.val on volts)
def execSupply18Low (v18 : Int) (us : Nat) (s : State) : Host.Outcome State Fault Refusal := .next (s.supply18 v18 us)
def execLevelStep (s : State) : Host.Outcome State Fault Refusal := .next s.levelStep
def execParkPointOfNoReturn (s : State) : Host.Outcome State Fault Refusal := .next s.parkCommits
def execParkPowerDown (s : State) : Host.Outcome State Fault Refusal := .next s.parkDown

end Sys2Proof.Machine
end

