-- ==== Sys2Proof/Machine/Link.lean ====
section
/-!
DEFINITION. The Amlor links (R14 to R17), what their frames bring, and the reference clocks (R22, R23).
-/
namespace Sys2Proof.Machine

/-- R507: the site of the root oscillator and PLL. -/
abbrev siteRoot : Nat := 0x16000000

/-- How many bad blocks more die d has sent (R15). -/
def State.addBlockErrors (s : State) (d n : Nat) : State :=
  s.setN (AMLOR_LINK.BLOCK_ERRORS d) (satTo 0xFFFFFFFF (s.nat (AMLOR_LINK.BLOCK_ERRORS d) + n))

/-- Summary number n reaches the control die: a channel's, that of bank k as number 512 + k, that of the switch block of
CD0 as number 544. -/
def State.takeSummary (s : State) (n : Nat) : State :=
  forBelow 13 (fun f s => s.set (RECEIVED n f) (s.get (SUMMARY n f))) s

/-- R15, R27: the summaries of die d but for the channels in `lost`, and its bank and die status, reach the control die. On
one lane a channel's summary covers two frames and comes in every second one (R17). -/
def State.takeSummaries (s : State) (d : Nat) (lost : List Nat) : State :=
  let s := forBelow 8 (fun b s => s.takeSummary (512 + 8 * d + b)) s
  let s := if d = 0 then s.takeSummary 544 else s
  if s.nat (AMLOR_LINK.LINK_STATE d) = 3 && s.frame % 2 = 1 then s
  else forEach ((dieChannels d).filter fun n => !lost.contains n) (fun n s => s.takeSummary n) s

/-- R23: DIE_REF_FALLBACK is raised for die d once its link is valid again. -/
def State.refTold (s : State) (d : Nat) : State :=
  if s.flag (REF_TOLD d) then
    (s.setN (REF_TOLD d) 0).raise .DIE_REF_FALLBACK (siteDie d 0xE7) 0 0
      [f8 (d + 1), f8 (s.get (AMLOR_LINK.DIE_REF_SOURCE d))]
  else s

/-- R15, R27, R346: an uplink frame of die d has been received: valid or not, with a number of bad blocks, and without the
summaries of the channels in `lost`. DESIGN CHOICE (log entry 77): R16 counts three consecutive invalid frames and does not say
of which direction; the model counts those of the uplink, which are the ones that the control die sees. -/
def State.uplinkFrame (s : State) (d : Nat) (valid : Bool) (errors : Nat) (lost : List Nat) : State :=
  if !s.live || !s.linkUp d then s
  else
    let s := s.addBlockErrors d errors
    if valid then (((s.setN (BAD_FRAMES d) 0).takeSummaries d lost).fenceReport d s.stamp).refTold d
    else (s.count (AMLOR_LINK.INVALID_FRAMES d) 0xFFFFFFFF).count (BAD_FRAMES d) 0xFFFF

/-- R26: whether an accepted item is a command in the downlink of the frame in progress to die d. -/
def State.inDownlink (s : State) (d : Nat) (l : Landing) : Bool := landDie l.act == some d && l.due ≤ s.frame + 1

/-- R15: of the commands of a downlink frame, in order of acceptance, those at the places `lost` stood in discarded blocks. -/
def loseCommands (mine : Landing → Bool) (lost : List Nat) : Nat → List Landing → List Landing
  | _, [] => []
  | i, l :: r =>
    if mine l then { l with lost := lost.contains i } :: loseCommands mine lost (i + 1) r
    else l :: loseCommands mine lost i r

/-- R64: the resend of the configuration of die d, where one is due, is acknowledged. -/
def State.resendAcked (s : State) (d : Nat) : State :=
  if s.nat (DRIFT_DUE d) = 1 then s.setN (DRIFT_DUE d) 2 else s

/-- R15, R25, R42, R64: die d has received a valid downlink frame: its copy of the tick is corrected, the commands but those in
discarded blocks are taken and acknowledged, and so are the staging data and the resend of its configuration. -/
def State.downlinkValid (s : State) (d : Nat) (lost : List Nat) : State :=
  let s := ((s.setN (LAST_VALID d) s.time).setN (LOSS_STOOD d) 0).setN (DL_BAD d) 0
  let s := s.set (DIE_OFFSET d) (s.get TICK_OFFSET)
  let s : State := { s with landing := loseCommands (s.inDownlink d) lost 0 s.landing }
  (s.ackStaging d).resendAcked d

/-- R15, R42: die d has received a downlink frame, with a number of bad blocks; it acknowledges what a valid one brought. -/
def State.downlinkFrame (s : State) (d : Nat) (valid : Bool) (errors : Nat) (lost : List Nat) : State :=
  if !s.live || !s.linkUp d then s
  else
    let s := s.addBlockErrors d errors
    if valid then s.downlinkValid d lost
    else (s.setN (DL_BAD d) 1).count (AMLOR_LINK.INVALID_FRAMES d) 0xFFFFFFFF

/-- R301: the kinds that are a channel event: the trips, and a lockout. -/
def channelEvent (k : Kind) : Bool :=
  [Kind.HARD_SHORT_TRIP, .LIMIT_TIMEOUT_TRIP, .WIRE_TRIP, .FET_TRIP, .RAMP_TIMEOUT_TRIP, .LOCKOUT_ENTERED].contains k

/-- R301: a channel event in Park sets latch 8, which wakes the device where WAKE_ENABLE has bit 8 set. -/
def State.channelWakes (s : State) (l : List DieMsg) : State :=
  if (s.nat DEV_STATE = 2 || s.nat PARK_STAGE != 0) && l.any (fun m => channelEvent m.msg.kind) then s.latchSet 8 else s

/-- R14: the oldest message of die d reaches the collector in an event block. -/
def State.eventBlock (s : State) (d : Nat) : State :=
  if !s.live || !s.linkUp d then s
  else
    match s.dieMsgs.find? fun m => m.die == d with
    | none => s
    | some m =>
      ({ s with dieMsgs := s.dieMsgs.erase m, collector := s.collector ++ [m.msg] } : State).channelWakes [m]

/-- R159: what the control die holds of the channels of die d as the link to it goes down. -/
def State.seeLast (s : State) (d : Nat) : State :=
  forEach (dieChannels d) (fun n s =>
    s.setN (SEEN n) (s.nat (CHANNEL_STATUS.STATE n) + (if s.isGood n then 16 else 0))) s

/-- R16: after three consecutive invalid frames the link to die d retrains (shadow 7 of R316). -/
def State.linkRetrain (s : State) (d : Nat) : State :=
  if s.live && s.linkUp d && 3 ≤ s.nat (BAD_FRAMES d) then
    let s := (((s.seeLast d).setN (AMLOR_LINK.LINK_STATE d) 1).count (AMLOR_LINK.RETRAINS d) 0xFFFF).setN (BAD_FRAMES d) 0
    (s.openShadow 7 d 0).fenceExcuse d
  else s

/-- R28: as the link to die d returns, the control die corrects the stamps of the messages that the die holds by the difference
between the die's copy of the tick and the tick; the copy is corrected with them. -/
def State.correctStamps (s : State) (d : Nat) : State :=
  let move (t : Nat) : Nat := ((t : Int) + (s.get TICK_OFFSET - s.get (DIE_OFFSET d))).toNat
  ({ s with dieMsgs := s.dieMsgs.map fun m => if m.die = d then { m with msg := { m.msg with stamp := move m.msg.stamp } } else m } :
    State).set (DIE_OFFSET d) (s.get TICK_OFFSET)

/-- R17, R115: the link to die d is up, on two lanes or on one. -/
def State.linkComesUp (s : State) (d : Nat) (two : Bool) : State :=
  let s := ((s.setN (AMLOR_LINK.LINK_STATE d) (if two then 2 else 3)).setN (BAD_FRAMES d) 0).setN (DL_BAD d) 0
  let s := if two then s else s.raise .LINK_DEGRADED (siteLink d) 0 0 [f8 (d + 1), f8 3]
  let s := (s.setClosing 7 d (s.stamp + 1000)).correctStamps d
  (forEach (dieChannels d) (fun n s => s.standingReport n) s).setN (STAND_TRIGGERS d) 0

/-- R16, R17, R44: training of the link to die d ends; the die has yet to receive a valid frame. -/
def State.linkTrained (s : State) (d : Nat) (two : Bool) : State :=
  if s.live && s.nat (AMLOR_LINK.LINK_STATE d) = 1 then (s.linkComesUp d two).setN (DL_BAD d) 1 else s

/-- R22: the root runs on the internal oscillator: cause 0 no reference edge, 1 a reference off its frequency. -/
def State.rootFalls (s : State) (cause : Nat) : State :=
  let before := s.nat CLOCK_STATUS.ROOT_SOURCE
  if !s.live || before = 2 then s
  else
    ((s.setN CLOCK_STATUS.ROOT_SOURCE 2).count CLOCK_STATUS.FALLBACK_COUNT 0xFFFF).raise .CLOCK_FALLBACK siteRoot 0 0
      [f8 cause, f8 before]

/-- R22: the frequency monitor finds the reference off by a number of ppm. Beyond 7 % it always switches, within 3 % never,
and between the two either may happen. -/
def State.rootChecked (s : State) (ppm : Int) : State :=
  if ppm.natAbs ≤ 30000 then s
  else if 70000 < ppm.natAbs then s.rootFalls 1
  else
    let f := s.takeFreeIn 0 1
    if f.1 = 1 then f.2.rootFalls 1 else f.2

/-- R23, R294: die d loses its forwarded reference, in Park without a fault. DESIGN CHOICE (log entry 77): programmed blanking
and retry times on the on-die oscillator keep their nominal lengths; the spec only bounds by how much they scale, at 3 %. -/
def State.dieRefLost (s : State) (d : Nat) : State :=
  if s.nat (AMLOR_LINK.DIE_REF_SOURCE d) = 1 then s
  else
    let s := s.setN (AMLOR_LINK.DIE_REF_SOURCE d) 1
    if s.nat PARK_STAGE = 2 || s.nat DEV_STATE = 2 then s else s.setN (REF_TOLD d) 1

/-! ### Rows -/

def execUplinkFrameReceived (d : Die) (valid : Bool) (errors : Nat) (lost : List Nat) (s : State) :
    Host.Outcome State Fault Refusal := .next (s.uplinkFrame d.val valid errors lost)
def execDownlinkFrameReceived (d : Die) (valid : Bool) (errors : Nat) (s : State) (lost : List Nat := []) :
    Host.Outcome State Fault Refusal := .next (s.downlinkFrame d.val valid errors lost)
def execEventBlockReceived (d : Die) (s : State) : Host.Outcome State Fault Refusal := .next (s.eventBlock d.val)
def execLinkRetrain (d : Die) (s : State) : Host.Outcome State Fault Refusal := .next (s.linkRetrain d.val)
def execLinkTrained (d : Die) (two : Bool) (s : State) : Host.Outcome State Fault Refusal := .next (s.linkTrained d.val two)
def execReferenceEdgeLoss (s : State) : Host.Outcome State Fault Refusal := .next (s.rootFalls 0)
def execReferenceFrequencyCheck (ppm : Int) (s : State) : Host.Outcome State Fault Refusal := .next (s.rootChecked ppm)
def execDieReferenceLoss (d : Die) (s : State) : Host.Outcome State Fault Refusal := .next (s.dieRefLost d.val)

end Sys2Proof.Machine
end

