-- ==== Sys2Proof/WellFormed.lean ====
section
/-!
DEFINITION. Which commands are well formed: the bounds on operands that their types do not already give. A bound is that of
the field, frame or sample list that carries the operand; the ranges of object values are judged by the machine (R33), so a
value out of its range is well formed as long as its object can hold it.
-/
namespace Sys2Proof

/-- R65: an endpoint that exists: CAN nodes 1 to 127, chip selects 0 to 3, two-wire addresses 0x08 to 0x77. -/
def Endpoint.wellFormed : Endpoint → Bool
  | .can _ node => 1 ≤ node && node ≤ 127
  | .spi cs => cs ≤ 3
  | .pcie _ => true
  | .twoWire a => 0x08 ≤ a && a ≤ 0x77

/-- R384, R391: an endpoint that takes SPI or two-wire frames. -/
def Endpoint.framed : Endpoint → Bool
  | .spi cs => cs ≤ 3
  | .twoWire a => 0x08 ≤ a && a ≤ 0x77
  | _ => false

/-- An unsigned value that w bits hold. -/
def fits (w v : Nat) : Bool := decide (v < 2 ^ w)

/-- A signed value that w bits hold. -/
def fitsInt (w : Nat) (v : Int) : Bool := decide (-(2 ^ (w - 1) : Int) ≤ v) && decide (v < 2 ^ (w - 1))

/-- R7: a site code whose die code is issued: a channel die's, the control die's, or 7. -/
def siteIssued (site : Nat) : Bool := fits 32 site && (site / 2 ^ 29 ≤ 4 || site / 2 ^ 29 == 7)

/-- R7: a site code names the die that a table is on: a channel die, or, for none, the control die or the backup domain. -/
def siteDieOf (die : Option Die) (site : Nat) : Bool :=
  match die with
  | some d => site / 2 ^ 29 == d.val + 1
  | none => site / 2 ^ 29 == 0 || site / 2 ^ 29 == 7

/-- R7, R305: a report comes from a die code that R7 issues, and its fields fit. The values it costs are those of objects. -/
def Report.inRange : Report → Bool
  | .unknown code site => fits 16 code && siteIssued site
  | .corrected site addr syndrome => siteIssued site && fits 32 addr && fits 8 syndrome
  | .uncorrectable site addr words values _ => siteIssued site && fits 32 addr && fits 16 words && values.all (fits 28)

/-- R268, R275: what an opening meets: eight straps reads at most of eight bits each, a pair for each die's link of at most two
lanes, nine regions, and six steps. -/
def Opening.wellFormed (o : Opening) : Bool :=
  o.straps.all (fits 8) && o.lanes.length == 4 && o.lanes.all (fun l => l.1 ≤ 2) && fits 9 o.lost && o.hang ≤ 6

/-- The endpoint that sends a command, where a host sends it. -/
def Instr.endpoint : Instr → Option Endpoint
  | .objectWrite ep .. | .levelViewWrite ep .. | .commit ep .. | .discard ep | .barrierId ep .. | .tenantReset ep ..
  | .trumpRelease ep .. | .requestOff ep .. | .requestOn ep .. | .requestPwm ep .. | .clearLockout ep ..
  | .releaseStanding ep .. | .captureArm ep .. | .swapRequest ep .. | .planStart ep .. | .planAbort ep ..
  | .resolveSkip ep .. | .resolveRetry ep .. | .rsoForceAssert ep .. | .rsoForceRelease ep .. | .counterClear ep ..
  | .enableOn ep .. | .enableOff ep .. | .switchModeOpen ep | .switchModeIdealDiode ep | .switchModeClosed ep
  | .chargeEnableOn ep | .chargeEnableOff ep | .shipArm ep | .shipCancel ep | .assistStart ep | .assistStop ep
  | .batteryReplaced ep | .deviceResetControlDie ep | .deviceResetFull ep | .openingResume ep | .journalAck ep
  | .powerModeRun ep | .powerModeHold ep | .park ep | .wakeClear ep .. | .queryKind ep .. | .pop ep .. | .flush ep ..
  | .arm ep .. | .hold ep | .holdRelease ep | .deviceHoldSet ep | .deviceHoldClear ep | .fence ep .. | .streamRun ep ..
  | .streamStop ep .. | .tailWrite ep .. | .read ep .. | .write ep .. | .readAt ep .. | .load ep .. | .writeBuffer ep ..
  | .brokenFrame ep | .transferStart ep | .trigger ep .. | .watchdogArm ep .. | .answer ep .. | .adjourn ep ..
  | .rtcSet ep .. | .ponAssert ep | .ponRelease ep | .attestChallenge ep .. | .sessionOpen ep .. | .sessionClose ep
  | .authWrite ep .. | .authReadRequest ep .. => some ep
  | .transferRead f .. | .transferWrite f .. | .ringHeadPop f .. | .peakRead f .. => some (.pcie f)
  | .responseFetch a => some (.twoWire a)
  | _ => none

/-- The bounds on the operands of a command beside its endpoint. -/
def Instr.operandsInRange : Instr → Bool
  | .measurementRound _ vsh vload .. => vsh.length == 16 && vload.length == 16
  | .uplinkFrameReceived _ _ _ lost => lost.all (fits 9)
  | .objectWrite _ addr _ => fits 24 addr
  | .levelViewWrite _ _ _ v => fitsInt 32 v
  | .commit _ v | .barrierId _ v | .answer _ _ v | .adjourn _ _ v => fits 32 v
  | .syncReceived _ c => c.all (fits 8)
  | .auditSweepEnd upsets => upsets.length == 4 && upsets.all (fits 64)
  | .dieRecheck _ upset => fits 64 upset
  | .trumpRelease _ _ v | .wakeClear _ v | .queryKind _ v | .tailWrite _ _ v _ => fits 16 v
  | .resolveSkip _ _ i | .resolveRetry _ _ i => fits 8 i
  | .fence _ v | .watchdogArm _ _ v | .rtcSet _ v => fits 64 v
  | .converterStartCheck _ samples offsets | .hiccupResume _ samples offsets => samples != [] && offsets.length == 16
  | .converterCycleEnd _ samples => samples != []
  | .truncationCrossing _ _ steps => steps.length == 16
  | .converterUndervoltage _ units | .converterOvervoltage _ units | .converterUnderCleared _ units
  | .converterOverCleared _ units => units.all (· != [])
  | .closedChargeDrop samples => samples.length == 4
  | .sigmaSample code => fitsInt 24 code
  | .resetRelease o | .parkExit o => o.wellFormed
  | .criticalMemoryError die site => fits 32 site && siteDieOf die site
  | .faultMessage r => r.all Report.inRange
  | .descriptorComplete _ fail _ => fail == 0 || fail == 6 || fail == 8
  | .nmtStart _ n | .nmtStop _ n | .nmtEnterPreoperational _ n | .nmtResetNode _ n | .nmtResetCommunication _ n => n ≤ 127
  | .usdoRequest _ _ _ _ addr _ => fits 24 addr
  | .rpdoReceived _ data => data.length ≤ 64
  | .timeReceived _ ms days => fits 28 ms && fits 16 days
  | .transferRead _ addr off len => fits 24 addr && fits 32 off && fits 32 len
  | .transferWrite _ addr len data => fits 24 addr && fits 32 len && data.length ≤ 4096
  | .ringHeadPop _ _ k => fits 32 k
  | .read ep addr len crc => ep.framed && fits 24 addr && fits 16 len && fits 16 crc
  | .write ep addr data crc => ep.framed && fits 24 addr && fits 16 data.length && fits 16 crc
  | .readAt ep addr len off crc => ep.framed && fits 24 addr && fits 16 len && fits 32 off && fits 16 crc
  | .load ep off data crc => ep.framed && fits 24 off && fits 16 data.length && fits 16 crc
  | .writeBuffer ep addr len crc => ep.framed && fits 24 addr && fits 16 len && fits 16 crc
  | .brokenFrame ep => ep.framed
  | .transferDone result .. => 2 ≤ result && result ≤ 4
  | .arbitrationLost sent _ => sent.all (fits 7)
  | .clockLowTimeout target _ => fits 7 target
  | .inbandRequest b | .randomSourceFault b => fits 8 b
  | .pcieLinkChanged link speed .. => link ≤ 2 && speed ≤ 3
  | _ => true

/-- A command whose endpoint exists and whose operands lie in their ranges. -/
def Instr.wellFormed (i : Instr) : Bool := i.endpoint.all Endpoint.wellFormed && i.operandsInRange

end Sys2Proof
end

