-- ==== Sys2Proof/Machine/Reset.lean ====
section
/-!
DEFINITION. How a reset begins (R262 to R267, R269): its causes and their sites, what it stops, what it clears, and the
reset of a channel die.
-/
namespace Sys2Proof.Machine

/-! ### Profiles (R272, R274) -/

/-- R272: the channels of BK00 that a profile names. -/
def profileChannels (p : Nat) : List Nat := List.range ([0, 1, 2, 4, 8, 16, 4, 8].getD p 0)

/-- R272: the spacing of a profile in microseconds. -/
def profileSpacing (p : Nat) : Nat := [0, 0, 2000, 2000, 1000, 1000, 5000, 5000].getD p 0

/-- PROFILE of the straps (R270). -/
def State.profile (s : State) : Nat := field (s.nat STRAPS.STRAP_VALUE) 3 3

/-- R274: the default that the profile of the opening gives a subindex of channel n, by fallback or not. -/
def profileDefault (p n : Nat) (fallback : Bool) (key : Nat) : Option Int :=
  if key = CHANNEL_PROTECTION.HARD_SHORT_LEVEL n then some 160
  else if key = CHANNEL_PROTECTION.HARD_SHORT_BLANK n then some 10
  else if key = CHANNEL_PROTECTION.LIMIT_LEVEL n then some 120
  else if key = CHANNEL_PROTECTION.LIMIT_MAX_TIME n then some 10000
  else if key = CHANNEL_CONFIG.RAMP_TIMEOUT n then some (if fallback then 400000 else 100000)
  else if key = CHANNEL_PROTECTION.RETRY_COUNT n then some 3
  else if key = CHANNEL_PROTECTION.RETRY_WAIT n then some 500000
  else if key = CHANNEL_CONFIG.GATE_SOURCE n then some (if 6 ≤ p then 1 else 7)
  else if key = CHANNEL_CONFIG.STANDING_ORDER n then some (if p = 7 then 2 else 0)
  else none

/-- R274: the keys that a profile gives a default of its own on channel n. -/
def profileKeys (n : Nat) : List Nat :=
  [CHANNEL_PROTECTION.HARD_SHORT_LEVEL n, CHANNEL_PROTECTION.HARD_SHORT_BLANK n, CHANNEL_PROTECTION.LIMIT_LEVEL n,
    CHANNEL_PROTECTION.LIMIT_MAX_TIME n, CHANNEL_CONFIG.RAMP_TIMEOUT n, CHANNEL_PROTECTION.RETRY_COUNT n,
    CHANNEL_PROTECTION.RETRY_WAIT n, CHANNEL_CONFIG.GATE_SOURCE n, CHANNEL_CONFIG.STANDING_ORDER n]

/-- The default of a register in this opening (R274, R502). -/
def State.defaultOf (s : State) (key : Nat) : Int :=
  let n := key / 256 % 512
  if key < 2 ^ 24 && 0x3000 ≤ key / 256 && key / 256 < 0x3400 && n < 16 && s.bit PROFILE_NAMED n then
    (profileDefault s.profile n (s.bit PROFILE_FB n) key).getD (regReset key)
  else regReset key

/-! ### The journal (R279, R280) -/

/-- R280: a journal entry. -/
def journalEntry (outcome failed reached cause fallback pfailed pskipped : Nat) : Nat :=
  outcome * 2 ^ 60 + failed * 2 ^ 56 + reached * 2 ^ 52 + cause * 2 ^ 40 + fallback * 2 ^ 32 + pfailed * 2 ^ 16 + pskipped

/-- The entry of the present opening, here and in the retained SRAM. -/
def State.setEntry (s : State) (v : Nat) : State := (s.setN (OPENING_JOURNAL.ENTRY 0) v).setN RET_ENTRY v

/-- The entry of the present opening with an outcome and a failed step. -/
def State.entryEnds (s : State) (outcome failed reached : Nat) : State :=
  let e := s.nat (OPENING_JOURNAL.ENTRY 0)
  s.setEntry (journalEntry outcome failed reached (field e 40 8) (s.nat OPENING_STATUS.FALLBACK_MASK)
    (s.nat PROFILE_FAILED) (s.nat PROFILE_SKIPS))

/-- R280, R321: the reset causes that name no failed step and count no failed opening. -/
def causeExcused (c : Nat) : Bool := [1, 5, 10, 11, 13].contains c

/-- R280, R321: a reset ends an opening in progress; the keeper counts one that has not completed step 6. -/
def State.openingCut (s : State) (cause : Nat) : State :=
  if s.live && s.nat OPENING_STATUS.OPENING_STATE = 0 then
    let step := if s.flag HUNG then s.nat HUNG else if s.flag V18_WAIT then 6 else 7
    let s := s.entryEnds 3 (if causeExcused cause then 0 else step) step
    if !s.flag PORTS_READY && !causeExcused cause then s.count KEEPER.FAILED_OPENINGS 3 else s
  else s

/-! ### Causes (R263, R266) -/

/-- The site of a message or detector in die code 7. -/
def siteOfBackup (site : Nat) : Bool := site / 2 ^ 29 == 7

/-- The lowest cause in CAUSES_SEEN, or 13 where it is among them (R266). -/
def State.causeOf (s : State) : Nat :=
  if s.bit RESET_CAUSE.CAUSES_SEEN 12 then 13
  else (((List.range 12).find? fun b => s.bit RESET_CAUSE.CAUSES_SEEN b).getD 0) + 1

/-- R266: a cause is added to the reset in progress, which it extends (R265). -/
def State.addCause (s : State) (cause site : Nat) : State :=
  let s := (s.setBit RESET_CAUSE.CAUSES_SEEN (cause - 1) true).setN RESET_UNTIL (max (s.nat RESET_UNTIL) (s.time + 5000))
  let c := s.causeOf
  let s := if c = cause then s.setN RESET_CAUSE.CAUSE_SITE site else s
  (s.setN RESET_CAUSE.LAST_CAUSE c).setN RESET_CAUSE.LAST_KIND (if s.flag RESET_FULL then 1 else 2)

/-! ### What a reset reaches (R89, R262, R269) -/

/-- The anchored channels of the device. -/
def anchoredChannels : List Nat := (List.range 4).flatMap dieChannels |>.filter isAnchored

/-- R89: whether bank k has its bus. DESIGN CHOICE (log entry 77): no command gives or takes a bus, so a bus is absent whose
last measured voltage was not above 0 V. -/
def State.busPresent (s : State) (k : Nat) : Bool := decide (0 < s.get (VBUS_LAST k))

/-- R89: the anchored latches that are on and are kept: those that the strapped profile names, or every one while VBAT is
absent. -/
def State.keptLatches (s : State) (absent : Bool) : List Nat :=
  anchoredChannels.filter fun n =>
    s.flag (LATCH n) && (absent || (profileChannels s.profile).contains n)

/-- R89: the gate of channel n while VBAT is absent: unpowered (8) without its bus, and its latch lost; otherwise as latched,
or floating (7) where it is not anchored. -/
def State.gateUnpowered (s : State) (n : Nat) : State :=
  if !s.busPresent (bankOf n) then ((s.setN (LATCH n) 0).setN (CELL n) ST.OFF).setN (GATE n) 8
  else if isAnchored n then s.setN (GATE n) (if s.flag (LATCH n) then 2 else 0)
  else s.setN (GATE n) 7

/-- The registers and lists that a reset clears, but for messages of die code 7 that wait for the control die. -/
def State.clearAll (s : State) (full : Bool) : State :=
  let wait := if s.live then [] else s.collector.filter fun m => siteOfBackup m.site
  { s.wipe full false with collector := wait }

/-- R89, R118, R269: a full reset takes the channel dies: their logic is off, kept latches stay on. -/
def State.diesOff (s : State) (absent : Bool) : State :=
  let s := (forBelow 4 (fun d s => s.logicFails d) s).setN DIES_HELD 1
  let kept := s.keptLatches absent
  let s := s.clearAll true
  let s := forBelow 4 (fun d s => (s.setN (LOGIC_OFF d) 1).setN (LOGIC_OFF_AT d) s.time) s
  forEach kept (fun n s => ((s.setN (LATCH n) 1).setN (CELL n) ST.ON).setN (GATE n) 2) s

/-- R268, R269: after a full reset the channel dies come out of reset: kept latches are ON, every other channel OFF. -/
def State.diesReleased (s : State) : State :=
  let s := forBelow 4 (fun d s => (s.setN (LOGIC_OFF d) 0).setN (LAST_VALID d) s.time) (s.setN DIES_HELD 0)
  forBelow 512 (fun n s =>
    let s := s.setN (CAL_AT n) s.time
    if isAnchored n && s.flag (LATCH n) then s.cellTo n ST.ON else s) s

/-- R265, R269: a device-level reset begins, or a cause is added to the one in progress. absent: VBAT is lost. -/
def State.resetBegin (s : State) (cause site : Nat) (full absent : Bool) : State :=
  if s.nat DEV_STATE = 0 || s.nat DEV_STATE = 3 then
    let s := if full && !s.flag RESET_FULL then (s.setN RESET_FULL 1).diesOff absent else s
    s.addCause cause site
  else
    let s := (((s.openingCut cause).swNoClosed.asDrop.convertersOut).keepCopies).recordCut
    let s := (s.setFlag RESET_FULL full).setN RESET_CAUSE.RESET_TIME s.rtcCount
    let s := if full then s.diesOff absent else s.clearAll false
    let s := ((s.setN DEV_STATE 0).setN RESET_START_AT s.time).setN RESET_UNTIL 0
    let s := (s.setN RSTOUT_HIGH 0).setN RSTOUT_UNTIL (s.time + 20000)
    ((s.count RESET_CONTROL.DEVICE_RESETS 0xFFFFFFFF).setN RESET_CAUSE.CAUSES_SEEN 0).addCause cause site

/-- Whether a cause that the control die itself detects can act: it runs, or is in reset. -/
def State.watched (s : State) : Bool := s.live || s.nat DEV_STATE == 0

/-! ### Supplies and pins as causes (R263, R264, R266, R268) -/

/-- R263: VBAT falls below its falling threshold. After a long press cause 13 is seen as well (R236). The trips since the last
write to the record store are lost (R181). From then on only the backup domain has power: the device is in Ship (R291); without VBK
either, RSTOUT_N is high-impedance (R265). -/
def State.vbatFalls (s : State) : State :=
  if s.nat VBAT_GONE_AT != 0 then s
  else
    let long := s.nat LONG_AT != 0
    let s := forBelow 512 (fun n s => (s.setN (LIFE_NEW n) 0).gateUnpowered n) (s.resetBegin 1 siteSupply true true)
    let s := if long then (s.addCause 13 siteWake).setN LONG_RESET 1 else s
    let s := if s.get VBK_LAST < 16000 then s.setN RSTOUT_HIGH 1 else s
    let s := if s.flag SHIP_IN then s else s.setN RET_ENTERED s.rtcSeconds
    (((s.setN DEV_STATE 3).setN VBAT_GONE_AT (s.time + 1)).setN VBAT_ROSE_AT 0).pwmFloat

/-- R268: VBAT rises through its rising threshold: HR0 starts, latches that the strapped profile does not name go off, and all
gates but theirs are in static hold (R89). -/
def State.vbatRises (s : State) : State :=
  if s.nat DEV_STATE != 3 then s
  else
    let named := profileChannels s.profile
    let s := forBelow 512 (fun n s => if isAnchored n && s.flag (LATCH n) then s else s.setN (GATE n) 0) s
    let s := forEach anchoredChannels (fun n s =>
      if named.contains n then s else ((s.setN (LATCH n) 0).setN (CELL n) ST.OFF).setN (GATE n) 0) s
    let s := (s.setN VBAT_OUT (s.time + 1 - s.nat VBAT_GONE_AT)).setN VBAT_GONE_AT 0
    (((s.setN VBAT_ROSE_AT (s.time + 1)).setN DEV_STATE 0).setN RSTOUT_HIGH 0).pwmLow

/-- R311: VBAT has been absent for 100 ms: a power cycle. -/
def State.vbatCycle (s : State) : State :=
  if s.nat VBAT_GONE_AT != 0 && s.nat VBAT_GONE_AT - 1 + 100000 ≤ s.time then s.powerCycle else s

/-- R263, R266: a watched supply has been below its threshold for 2 µs, or is not below it: it holds back a release until it is
above again. -/
def State.supplySeen (s : State) (i us : Nat) (low : Bool) : State :=
  if !low then s.setN (SUPPLY_LOW i) 0 else if 2 ≤ us then s.setN (SUPPLY_LOW i) 1 else s

/-- R263: VH has been at a voltage for a time in microseconds. -/
def State.vhLow (s : State) (vh : Int) (us : Nat) : State :=
  let s := s.supplySeen 0 us (decide (vh < 45000))
  if vh < 45000 && 2 ≤ us && s.nat DEV_STATE != 3 then s.resetBegin 2 (siteRegulator 0) true false else s

/-- R263: VCORE more than 60 mV below the voltage of the level in force. -/
def State.vcoreLow (s : State) (v : Int) (us : Nat) : State :=
  let low := decide (v < vcoreOf (s.nat PERFORMANCE.LEVEL_IN_FORCE) - 600)
  let s := s.supplySeen 1 us low
  if low && 2 ≤ us && s.watched then s.resetBegin 3 (siteRegulator 1) false false else s

/-- R263: VIO below 2.9 V. -/
def State.vioLow (s : State) (v : Int) (us : Nat) : State :=
  let s := s.supplySeen 2 us (decide (v < 29000))
  if v < 29000 && 2 ≤ us && s.watched then s.resetBegin 4 (siteRegulator 2) false false else s

/-- R263, R264: RSTIN_N is low for a time in microseconds from now: below 10 µs never a reset, from 20 µs always. -/
def State.rstinLow (s : State) (us : Nat) : State :=
  if us < 10 || !s.watched then s
  else
    let f := if us < 20 then s.takeFreeIn 0 1 else (1, s)
    if f.1 = 1 then
      let s := f.2.resetBegin 5 0xFF800000 false false
      s.setN RSTIN_UNTIL (max (s.nat RSTIN_UNTIL) (s.time + us))
    else f.2

/-- R263, R434: WDX has gone 10,000 µs without service. -/
def State.wdxExpiry (s : State) : State :=
  if s.live && s.nat WDX_SERVED + 10000 ≤ s.time && s.nat PARK_STAGE != 2 then
    s.wdxExpires.resetBegin 6 0x1FC80010 false false
  else s

/-! ### The reset of a channel die (R267) -/

/-- R222, R242, R267: channel die d resets its logic and stands with cause 4, CLOSED is replaced, and a reset of CD0 opens the assist
switch; the values that the control die holds are taken at the
release of each channel (R117, R269). -/
def State.channelDieReset (s : State) (d site : Nat) : State :=
  let control := s.control.regs.filter fun p => p.1 < 2 ^ 24 && heldDie p.1 == some d && objectOnDie p.1
  let kept : List Nat := if d = 0 then profileChannels s.profile else []
  let s := forEach (dieChannels d) (fun n s =>
    let on := isAnchored n && kept.contains n && s.flag (LATCH n)
    let s := s.channelLogicReset n (isAnchored n)
    let s := (s.setN (CHANNEL_STATUS.STANDING_CAUSE n) 0).cellTo n (if on then ST.ON else ST.OFF)
    if on then s.setN (GATE n) 2 else s) s
  let s := forEach control (fun p s => s.restore p.1) s
  let s := (s.setN (BANK.CAPTURE_STATE (8 * d)) 0).setBlob (BANK.CAPTURE_DATA (8 * d)) []
  let others := s.late.filter fun (x : LateSet) => x.die != d
  let s : State := { s with late := if control = [] then others else others ++ [⟨d, control⟩] }
  let s := (if d = 0 then s.asDrop else s).swNoClosed.standDie d 4
  let s := (s.count RESET_CAUSE.CHANNEL_DIE_RESETS 0xFFFF).openShadow 8 d (s.stamp + 1000)
  s.raiseDie d .CHANNEL_DIE_RESET (siteDie d 0xE0) 0 0 [f8 (d + 1), f32 site]

/-- R263, R267: an uncorrectable error in a critical table, on the control die or on channel die d. A site code of another die,
or one that is never issued (R7), names no such error. -/
def State.criticalError (s : State) (die : Option Die) (site : Nat) : State :=
  if !siteDieOf die site then s else
  match die with
  | some d => if s.flag (LOGIC_OFF d) then s else s.channelDieReset d.val site
  | none => if s.watched then s.resetBegin 8 site false false else s

/-! ### The end of a house stop, and the keeper (R310, R321 to R324) -/

/-- R322: the keeper begins a hold of the control die: 1 after failed openings, 2 a lockout. Channel dies that a full reset still
holds come out of it and stand with cause 2, so what ends the hold is a reset of the control die (R263). -/
def State.keeperHolds (s : State) (kind : Nat) : State :=
  let s := if s.flag DIES_HELD then forBelow 4 (fun d s => s.standDie d 2) s.diesReleased else s
  let s := ((s.setN RESET_FULL 0).setN KEEPER_HOLDING kind).setN KEEPER_TOLD 1
  let s := ((s.count KEEPER.HOLDS 0xFFFF).setN KEEPER_AT s.time).setN KEEPER_LAST s.time
  forBelow 16 (fun r s => s.setN (RSO_TOGGLE_AT r) s.time) s

/-- R310, step 5: the reset that ends a house stop begins once the frozen fault records are written; a lockout holds. -/
def State.houseStopReset (s : State) : State :=
  if s.flag STOP_RUNS && s.nat STOP_AT + 10 ≤ s.time && ((List.range 4).all fun m => s.nat (CONV_WRITING m) == 0) then
    let lockout := s.nat STOP_RUNS == 2
    let s := s.resetBegin 12 0x02800000 false false
    if lockout then s.keeperHolds 2 else s
  else s

/-- R323: KEEPER_RETRY_TIME ends a hold, which a lockout does not. -/
def State.keeperRetry (s : State) : State :=
  if s.nat DEV_STATE = 0 && s.nat KEEPER_HOLDING = 1 && s.nat RET_RETRY != 0 &&
      s.nat KEEPER_AT + 1000000 * s.nat RET_RETRY ≤ s.time then
    let s := s.holdEnds.setN KEEPER_PASS 1
    ((s.count KEEPER.RETRY_SERIES 3).setN RESET_CAUSE.CAUSES_SEEN 0).addCause 9 0xE1000000
  else s

/-- R324: the keeper's report of a hold. -/
def State.keeperBytes (s : State) : List Byte :=
  leBytes 1 (s.nat KEEPER_HOLDING) ++ leBytes 1 (s.nat KEEPER.FAILED_OPENINGS) ++ leBytes 1 (s.nat KEEPER.RETRY_SERIES) ++
    leBytes 1 (maskBelow 4 fun d => !s.flag (HEART_LOST d)) ++
    leBytes 1 (s.nat RESET_CAUSE.LAST_CAUSE) ++ leBytes 3 (satTo 0xFFFFFF ((s.time - s.nat KEEPER_AT) / 1000000))

/-- R324: the form of the keeper's frames: 25,000 / NOMINAL_RATE quanta per bit, and the sample point after so many of them. -/
def State.keeperForm (s : State) : CanForm :=
  let quanta := 25000 / s.nat RET_RATE
  .keeper quanta (quanta * s.nat RET_SAMPLE / 1000)

/-- R324: once every second of a hold the keeper reports on its CAN port, unless the root runs on its internal fallback; a frame
lost or not acknowledged goes out again, up to three times. -/
def State.keeperFrame (s : State) (lost : Nat) : State :=
  if s.nat DEV_STATE = 0 && s.flag KEEPER_HOLDING && s.nat KEEPER_LAST + 1000000 ≤ s.time then
    let s := s.setN KEEPER_LAST s.time
    if s.nat RET_PORT = 0 || s.nat CLOCK_STATUS.ROOT_SOURCE = 2 then s
    else forBelow (1 + min lost 3) (fun _ s => s.emit (.can (s.nat RET_PORT - 1) (s.nat RET_COB) s.keeperForm s.keeperBytes)) s
  else s

/-- R324: a heartbeat of die d reaches the keeper. -/
def State.keeperHeartbeat (s : State) (d : Nat) : State := if s.flag (LOGIC_OFF d) then s else s.setN (HEART_LOST d) 0

/-- R324: die d has sent none for 3 ms. -/
def State.heartbeatLost (s : State) (d : Nat) : State :=
  if s.flag (LOGIC_OFF d) && s.nat (LOGIC_OFF_AT d) + 3000 ≤ s.time then s.setN (HEART_LOST d) 1 else s

/-! ### Rows -/

def execVbatBrownout (s : State) : Host.Outcome State Fault Refusal := .next s.vbatFalls
def execVbatPowerUp (s : State) : Host.Outcome State Fault Refusal := .next s.vbatRises
def execPowerCycle (s : State) : Host.Outcome State Fault Refusal := .next s.vbatCycle
def execVhBrownout (vh : Int) (us : Nat) (s : State) : Host.Outcome State Fault Refusal := .next (s.vhLow vh us)
def execVcoreBrownout (v : Int) (us : Nat) (s : State) : Host.Outcome State Fault Refusal := .next (s.vcoreLow v us)
def execVioBrownout (v : Int) (us : Nat) (s : State) : Host.Outcome State Fault Refusal := .next (s.vioLow v us)
def execRstinNLow (us : Nat) (s : State) : Host.Outcome State Fault Refusal := .next (s.rstinLow us)
def execWdxExpiry (s : State) : Host.Outcome State Fault Refusal := .next s.wdxExpiry
def execLockstepMismatch (s : State) : Host.Outcome State Fault Refusal :=
  .next (if s.watched then s.resetBegin 7 0x00800000 false false else s)
def execCriticalMemoryError (die : Option Die) (site : Nat) (s : State) : Host.Outcome State Fault Refusal :=
  .next (s.criticalError die site)
def execHouseStopReset (s : State) : Host.Outcome State Fault Refusal := .next s.houseStopReset
def execKeeperRetry (s : State) : Host.Outcome State Fault Refusal := .next s.keeperRetry
def execKeeperFrame (s : State) (lost : Nat := 0) : Host.Outcome State Fault Refusal := .next (s.keeperFrame lost)
def execKeeperHeartbeat (d : Die) (s : State) : Host.Outcome State Fault Refusal := .next (s.keeperHeartbeat d.val)
def execDieHeartbeatTimeout (d : Die) (s : State) : Host.Outcome State Fault Refusal := .next (s.heartbeatLost d.val)

end Sys2Proof.Machine
end

