-- ==== Sys2Proof/Machine/Opening.lean ====
section
/-!
DEFINITION. The release from reset and the opening (R266, R268, R271 to R280, R330), the exit from Park (R296, R297), and
what follows an opening: step 7, a stop and its resumption, and the release of RSTOUT_N.

An opening is one step of the model: from the release to the end of step 6 no time passes (log entry 20).
-/
namespace Sys2Proof.Machine

/-! ### The journal -/

/-- R279, R280: a new opening begins: the entries move on by one. The origin lies `back` microseconds before now. With the retained
copy lost, the newest entry is that of the record store, and an entry never copied into it is gone. -/
def State.journalShift (s : State) (cause back : Nat) (lost : Bool) : State :=
  let s := if lost then (s.setN (OPENING_JOURNAL.ENTRY 0) (s.nat (STORE_JOURNAL 0))).setN (OPENING_JOURNAL.ENTRY_TIME 0)
    (s.nat (STORE_JOURNAL 1)) else s
  let old := s
  let s := if lost && !s.flag STORE_HAS then s else forBelow 15 (fun i s =>
    (s.setN (OPENING_JOURNAL.ENTRY (i + 1)) (old.nat (OPENING_JOURNAL.ENTRY i))).setN (OPENING_JOURNAL.ENTRY_TIME (i + 1))
      (old.nat (OPENING_JOURNAL.ENTRY_TIME i))) s
  let t := (s.rtcCount - back * 32768 / 1000000) / 32768 % 2 ^ 32
  let s := ((s.setN (OPENING_JOURNAL.ENTRY_TIME 0) t).setN RET_ENTRY_TIME t).count OPENING_STATUS.OPENINGS 0xFFFFFFFF
  (s.setN STORE_HAS 0).setEntry (journalEntry 2 0 1 cause 0 0 0)

/-- R279: the newest entry and the skip marks are copied into the record store journal. -/
def State.journalCopied (s : State) : State :=
  if s.flag STORE_OFF then s
  else
    let s := (s.setN (STORE_JOURNAL 0) (s.nat (OPENING_JOURNAL.ENTRY 0))).setN (STORE_JOURNAL 1)
      (s.nat (OPENING_JOURNAL.ENTRY_TIME 0))
    let s := (s.setN (STORE_JOURNAL 2) (s.nat OPENING_STATUS.SKIP_MASK)).setN (STORE_JOURNAL 3) (s.nat OPENING_STATUS.PROFILE_SKIP)
    s.setN STORE_HAS 1

/-- R279: as a step begins, the entry and the skip marks in the retained SRAM are brought up to date. -/
def State.retainJournal (s : State) (step : Nat) : State :=
  let s := (s.setN OPENING_STATUS.STEP step).entryEnds 2 (s.nat OPENING_STATUS.FAILED_STEP) step
  (s.setN RET_SKIP (s.nat OPENING_STATUS.SKIP_MASK)).setN RET_PROFILE_SKIP (s.nat OPENING_STATUS.PROFILE_SKIP)

/-- R277: how a step runs by an entry and the skip marks: 0 ordinarily, 1 by fallback, 2 skipped. Step 7 is judged channel
by channel. -/
def stepMode (entry skips step : Nat) : Nat :=
  if skips.testBit (step - 1) then 2 else if field entry 56 4 = step then 1 else 0

/-- R276: a step, or a profile channel, fails within the opening. FAILED_STEP names the lowest. -/
def State.stepFails (s : State) (step mode ch : Nat) : State :=
  let f := s.nat OPENING_STATUS.FAILED_STEP
  (if f = 0 || step < f then s.setN OPENING_STATUS.FAILED_STEP step else s).raise .OPENING_STEP_FAILED siteControl 0 0
    [f8 step, f8 mode, f16 ch]

/-- R277: a step, or channel ch in step 7, is skipped. -/
def State.stepSkipped (s : State) (step ch : Nat) : State :=
  s.raise .OPENING_STEP_SKIPPED siteControl 0 0 [f8 step, f16 ch]

/-- R277, R279: the skip mark of a step, or of profile channel ch, is set. -/
def State.stepMarked (s : State) (step ch : Nat) : State :=
  let s := if step = 7 then s.setBit OPENING_STATUS.PROFILE_SKIP ch true
    else s.setBit OPENING_STATUS.SKIP_MASK (step - 1) true
  let s := (s.setN RET_SKIP (s.nat OPENING_STATUS.SKIP_MASK)).setN RET_PROFILE_SKIP (s.nat OPENING_STATUS.PROFILE_SKIP)
  s.stepSkipped step ch

/-- R277: JOURNAL_ACK clears the skip marks, from the next opening on. -/
def State.journalAck (s : State) : State :=
  let s := ((s.setN OPENING_STATUS.SKIP_MASK 0).setN OPENING_STATUS.PROFILE_SKIP 0).setN RET_SKIP 0
  ((s.setN RET_PROFILE_SKIP 0).setN (STORE_JOURNAL 2) 0).setN (STORE_JOURNAL 3) 0

/-- R277: a step runs by fallback. -/
def State.stepFallback (s : State) (step pfailed : Nat) : State :=
  (s.setBit OPENING_STATUS.FALLBACK_MASK (step - 1) true).raise .OPENING_FALLBACK siteControl 0 0 [f8 step, f16 pfailed]

/-- R278: the opening stops at a step. -/
def State.openingStops (s : State) (step : Nat) : State :=
  ((s.setN OPENING_STATUS.OPENING_STATE 2).setN STOPPED_STEP step).raise .OPENING_STOPPED siteControl 0 0 [f8 step]

/-- R275 to R278: a step of steps 1 to 6 runs in its mode, and passes or not; what follows a failure under the fallback is a
stop at a mandatory step (2, 3, 6), a skip mark at steps 1 and 5, and nothing more at step 4. -/
def State.runStep (s : State) (entry step mode : Nat) (pass : Bool) : State :=
  let s := s.retainJournal step
  if mode = 2 then s.stepSkipped step 0
  else
    let s := if mode = 1 then s.stepFallback step (field entry 16 16) else s
    if pass then s
    else
      let s := s.stepFails step mode 0
      if mode = 0 || step = 4 then s
      else if step = 1 || step = 5 then s.stepMarked step 0 else s.openingStops step

/-! ### The retained SRAM (R450) -/

/-- s with each register of a list at 0. -/
def State.zeroAll (s : State) (l : List Nat) : State := forEach l (fun k s => s.setN k 0) s

/-- R450: region r is initialised. -/
def State.initRegion (s : State) (r : Nat) : State :=
  match r with
  | 0 => s.zeroAll [RET_STAMP]
  | 1 => s.zeroAll [RET_SOCI, RET_SOC, RET_CAPACITY]
  | 2 => s.zeroAll [RET_ENTRY, RET_ENTRY_TIME, RET_SKIP, RET_PROFILE_SKIP]
  | 3 => s.zeroAll [RESET_CONTROL.DEVICE_RESETS, POWER_STATE.PARK_ENTRIES, POWER_STATE.PARK_ABORTS, SHIP_CONTROL.LONG_PRESSES,
      SHIP_CONTROL.SHIP_ENTRIES, SHIP_CONTROL.LAST_SHIP_DURATION, POWER_STATE.LAST_PARK_DURATION, RET_STOPS, RET_LOCKOUTS,
      DEVICE_WATCHDOG.WDX_RESETS, WDX_GAIN]
  | 4 => forBelow 16 (fun t s => (s.setN (WATCHDOG.EXPIRY_COUNT t) 0).setN (WD_GAIN t) 0) s
  | 5 => s.setBlob FAULT_STATUS.LAST_STOP []
  | 6 => s.zeroAll [RET_CASCADE 0, RET_CASCADE 1, RET_CASCADES]
  | 7 => forBelow 16 (fun i s => s.setN (RSO_KEEP i) 0) (s.zeroAll [RET_RETRY, RET_PORT, RET_COB, RET_RATE, RET_SAMPLE])
  | _ => s.zeroAll [RET_ENTERED]

/-- R450, R440: the regions of a mask are initialised; low: the low-backup flag is set. -/
def State.regionsLost (s : State) (mask : Nat) (low : Bool) : State :=
  let s := (forBelow 9 (fun r s => if mask.testBit r then s.initRegion r else s) s).setN RETAINED.REGIONS_LOST mask
  if mask = 0 then s else s.raise .RETAINED_REGION_LOST siteRetained 0 0 [f16 mask, f8 (bitOf low)]

/-! ### The tick (R330) -/

/-- R330: the tick and the era are loaded; open shadows follow the new count. -/
def State.openTick (s : State) (low stampLost storeOff : Bool) : State :=
  let before := s.get TICK_OFFSET
  let stored := (if stampLost then 0 else s.nat RET_STAMP) + 20
  let source := if low then 2 else if stored ≤ s.monoMicros then 0 else 1
  let c := if low then (if storeOff then 0 else (s.nat STORE_ERA + 1) * 2 ^ 48) else max s.monoMicros stored
  let s := s.loadTick c
  let move (t : Nat) : Nat := ((t : Int) + (s.get TICK_OFFSET - before)).toNat
  let s : State := { s with
    shadows := s.shadows.map fun x =>
      { x with openStamp := move x.openStamp, closing := if x.closing = 0 then 0 else move x.closing } }
  let s := ((s.setN EVENT_FABRIC.TICK_SOURCE source).setN ERA_TOLD s.era).setFlag ERA_OPEN (low && !storeOff)
  let s := if storeOff then s else s.setN STORE_ERA s.era
  s.raise .TICK_LOADED siteFabric 0 0 [f8 source, f8 s.era]

/-! ### Steps 1 to 6 -/

/-- Step 1 (R275, R22): the root PLL locks on the reference in time, or runs on the internal oscillator. -/
def State.openClock (s : State) (o : Opening) (entry skips : Nat) : State :=
  let mode := stepMode entry skips 1
  let pass := o.clockUs ≤ (if mode = 0 then 500 else 4000)
  let s := (s.runStep entry 1 mode pass).setN CLOCK_STATUS.ROOT_LOCKED 1
  s.setN CLOCK_STATUS.ROOT_SOURCE (if mode = 2 || !pass then 2 else bitOf o.external)

/-- The bitwise majority of an odd number of reads. -/
def majority (l : List Nat) : Nat :=
  maskBelow 8 fun b => l.length < 2 * (l.filter fun v => v.testBit b).length

/-- R66: the endpoint of TN00 from the straps. DESIGN CHOICE (log entry 77): "Strap value" in the payload of
ARBITER_STRAP_CONFLICT is the whole of STRAP_VALUE, not the arbiter field alone. -/
def State.openArbiter (s : State) : State :=
  let v := s.nat STRAPS.STRAP_VALUE
  let a := v % 8
  let conflict := a == 6 && !v.testBit 6
  let ep := if conflict then 0x3000
    else [0x1001, 0x1011, 0x2001, 0x2011, 0x3000, 0x3001, 0x4000, 0x5000 + 0x52 + v / 128].getD a 0
  let s := (s.setN (TENANT.ENDPOINT 0) ep).setN (TENANT.ADMITTED 0) 1
  if conflict then s.raise .ARBITER_STRAP_CONFLICT 0xF0400000 0 0 [f8 v, f16 ep] else s

/-- R271: the straps are taken from the reads of step 2: their majority where they do not agree. -/
def State.strapsRead (s : State) (reads : List Nat) : State :=
  let s := s.setN STRAPS.STRAP_VALUE (majority reads)
  if reads.all (· == reads.headD 0) then s
  else (s.setN STRAPS.STRAP_UNSTABLE 1).raise .STRAP_UNSTABLE siteControl 0 0
    [f8 (reads.getD 0 0), f8 (reads.getD 1 0), f8 (reads.getD 2 0)]

/-- Step 2 (R271): three reads, or five by fallback; the majority is taken where they do not agree. -/
def State.openStraps (s : State) (o : Opening) (entry skips : Nat) : State :=
  let mode := stepMode entry skips 2
  let reads := (List.range (if mode = 0 then 3 else 5)).map fun i => o.straps.getD i 0 % 256
  ((s.strapsRead reads).runStep entry 2 mode (reads.all (· == reads.headD 0))).openArbiter

/-- R275: whether a link trains within what its step allows. -/
def linkPasses (mode lanes us : Nat) : Bool :=
  if mode = 0 then lanes == 2 && us ≤ 200 else 1 ≤ lanes && us ≤ 1000

/-- Step 3 (R275, R278): the link to CD0; a stop leaves it untrained. -/
def State.openLink0 (s : State) (entry skips lanes us : Nat) : State :=
  let mode := stepMode entry skips 3
  let pass := linkPasses mode lanes us
  let s := s.runStep entry 3 mode pass
  if pass then s.linkComesUp 0 (lanes == 2)
  else s.setN (AMLOR_LINK.LINK_STATE 0) (if mode = 1 then 0 else 1)

/-- Step 4 (R275): the links to CD1 to CD3; one that does not train keeps retraining (R276). -/
def State.openLinks (s : State) (entry skips : Nat) (lanes : List (Nat × Nat)) : State :=
  let mode := stepMode entry skips 4
  let pass (d : Nat) : Bool := linkPasses mode (lanes.getD d (0, 0)).1 (lanes.getD d (0, 0)).2
  let s := s.runStep entry 4 mode (pass 1 && pass 2 && pass 3)
  forEach [1, 2, 3] (fun d s =>
    if pass d then s.linkComesUp d ((lanes.getD d (0, 0)).1 == 2) else s.setN (AMLOR_LINK.LINK_STATE d) 1) s

/-- R311: house stops and lockouts not yet copied go to the record store. -/
def State.stopsCopied (s : State) : State :=
  let s := (s.setN STORE_STOPS (satTo 0xFFFFFFFF (s.nat STORE_STOPS + s.nat RET_STOPS))).setN RET_STOPS 0
  let s := (s.setN STORE_LOCKOUTS (satTo 0xFFFFFFFF (s.nat STORE_LOCKOUTS + s.nat RET_LOCKOUTS))).setN RET_LOCKOUTS 0
  (s.setN FAULT_STATUS.HOUSE_STOPS (s.nat STORE_STOPS)).setN FAULT_STATUS.LOCKOUTS (s.nat STORE_LOCKOUTS)

/-- Step 5 (R275, R279, R450): the records are read and brought up to date, unless the step is skipped, or fails by fallback. The
skip marks that govern from here on are `skips` and `pskips`. -/
def State.openRecords (s : State) (o : Opening) (entry skips pskips lost : Nat) (low : Bool) : State :=
  let mode := stepMode entry skips 5
  let pass := decide (o.recordsUs ≤ if mode = 0 then 700 else 2000)
  let s := (s.setN OPENING_STATUS.SKIP_MASK skips).setN OPENING_STATUS.PROFILE_SKIP pskips
  let s := ((s.runStep entry 5 mode pass).regionsLost lost low).setN ERA_OPEN 0 |>.setN STEP5_DONE 1
  let s := if mode = 2 || (mode = 1 && !pass) then s.setN STORE_OFF 1
    else (s.stopsCopied.wdCopy.journalCopied).setN STORE_ERASING 0
  let s := s.estOpening (!lost.testBit 1)
  if low && mode != 2 && 21000 ≤ s.get VBK_LAST then s.setRtcFlag TFLAG.LOW_BACKUP false else s

/-- The ports become ready (R268), and what starts with them: housekeeping (R414), the node of TN00 (R365), WDX (R434), and
the end of a house stop's shadow (R316). -/
def State.openPorts (s : State) (time_ : Nat) : State :=
  let s := (s.setN PORTS_READY 1).setN OPENING_STATUS.PORTS_READY_TIME time_
  let s := (s.setClosing 9 0 (s.stamp + 10000)).setClosing 10 0 s.stamp
  if s.flag ARB_DOWN then s.hkStarts else s.hkStarts.nodeBoot 0

/-- Step 6 (R275, R278): the endpoint of TN00 is brought up; at a stop here the other ports are ready without it. -/
def State.openPort (s : State) (o : Opening) (entry skips limit : Nat) : State :=
  let mode := stepMode entry skips 6
  let pass := if mode = 0 then o.readyUs ≤ limit else o.bringUs ≤ 2000
  let s := s.runStep entry 6 mode pass
  let s := if mode = 1 && !pass then (s.setN ARB_DOWN 1).setN ARB_AT s.time else s
  s.openPorts o.readyUs

/-! ### Step 7 (R273, R275, R277) -/

/-- The opening completes. -/
def State.openingDone (s : State) : State :=
  let s := s.entryEnds 0 (s.nat OPENING_STATUS.FAILED_STEP) (s.nat OPENING_STATUS.STEP)
  (s.journalCopied.setN OPENING_STATUS.OPENING_STATE 1).raise .OPENING_DONE siteControl 0 0
    [f8 0, f8 (s.get OPENING_STATUS.FALLBACK_MASK), f32 (s.get OPENING_STATUS.PORTS_READY_TIME)]

/-- What the steps have come to so far goes into the entry; without a stop, the opening completes when step 7 is over. -/
def State.openingGoesOn (s : State) (seven : Bool) : State :=
  let stopped := s.nat OPENING_STATUS.OPENING_STATE == 2
  if stopped then (s.entryEnds 1 (s.nat OPENING_STATUS.FAILED_STEP) (s.nat OPENING_STATUS.STEP)).journalCopied
  else if seven then s.entryEnds 2 (s.nat OPENING_STATUS.FAILED_STEP) 7
  else s.openingDone

/-- Step 7 begins: which channels run, by fallback or skipped, and which kept latches it finds (R273). -/
def State.openProfile (s : State) (entry : Nat) : State :=
  let named := maskBelow 16 fun i => (profileChannels s.profile).contains i
  let skips := maskBelow 16 fun i => named.testBit i && s.bit OPENING_STATUS.PROFILE_SKIP i
  let fb := maskBelow 16 fun i => named.testBit i && !skips.testBit i && (field entry 16 16).testBit i
  let on := maskBelow 16 fun i => s.flag (LATCH i)
  let kept := maskBelow 16 fun i => named.testBit i && on.testBit i
  let s := ((s.retainJournal 7).setN PROFILE_NAMED named).setN PROFILE_SKIPS skips
  let s := (s.setN PROFILE_FB fb).setN PROFILE_OFF (maskBelow 16 fun i => on.testBit i && !named.testBit i)
  let excess := maskBelow 16 fun i => skips.testBit i || kept.testBit i
  let s := (s.setN PROFILE_DONE skips).setN PROFILE_JUDGED excess
  let s := if fb = 0 then s else s.stepFallback 7 fb
  let s := forBelow 16 (fun i s => if skips.testBit i then s.stepSkipped 7 i else s) s
  forBelow 16 (fun n s =>
    if named.testBit n then forEach (profileKeys n) (fun k s => s.set k (s.defaultOf k)) s else s) s

/-- Whether step 7 has nothing left to wait for. -/
def State.profileOver (s : State) : Bool :=
  s.nat PROFILE_OFF == 0 && (List.range 16).all fun i => !s.bit PROFILE_NAMED i || s.bit PROFILE_JUDGED i

/-- The time at which the REQUEST of profile channel n falls due (R273). -/
def State.profileTime (s : State) (n : Nat) : Nat := s.nat PROFILE_T0 + 3500 + n * profileSpacing s.profile

/-- R273: at a frame boundary the profile channels whose time has come are requested, and kept latches that the profile
does not name are turned off by their sink stage. -/
def State.profileRequests (s : State) : State :=
  if !s.live || s.nat OPENING_STATUS.STEP != 7 || s.time != s.nat LAST_BOUNDARY then s
  else
    let s := forBelow 16 (fun n s =>
      if s.bit PROFILE_NAMED n && !s.bit PROFILE_DONE n && s.profileTime n ≤ s.time && s.commands n then
        ((s.setBit PROFILE_DONE n true).setRequest n 1).actOnRequest n
      else s) s
    if s.nat PROFILE_OFF != 0 && s.nat PROFILE_T0 + 3500 ≤ s.time then
      forBelow 16 (fun n s => if s.bit PROFILE_OFF n then s.turnOff n 5 else s) s |>.setN PROFILE_OFF 0
    else s

/-- R275, R277: profile channel n is judged: ON in its time, or failed once that time is over. -/
def State.profileJudge (s : State) (n : Nat) : State :=
  if !s.bit PROFILE_NAMED n || s.bit PROFILE_JUDGED n then s
  else
    let fb := s.bit PROFILE_FB n
    if s.cell n = ST.ON then s.setBit PROFILE_JUDGED n true
    else if s.profileTime n + (if fb then 400000 else 100000) < s.time then
      let s := ((s.setBit PROFILE_JUDGED n true).setBit PROFILE_FAILED n true).stepFails 7 (bitOf fb) n
      if fb then s.stepMarked 7 n else s
    else s

/-- What each frame boundary does for step 7: the channels are judged, what failed goes into the entry (R276), and the opening
completes after the last. -/
def State.profileBoundary (s : State) : State :=
  if !s.live || s.nat OPENING_STATUS.STEP != 7 || s.nat OPENING_STATUS.OPENING_STATE = 1 || s.flag HUNG then s
  else
    let failed := s.nat PROFILE_FAILED
    let s := forBelow 16 (fun n s => s.profileJudge n) s
    let stopped := s.nat OPENING_STATUS.OPENING_STATE == 2
    if s.profileOver && !stopped then s.openingDone
    else if s.nat PROFILE_FAILED = failed then s
    else
      let s := s.entryEnds (if stopped then 1 else 2) (s.nat OPENING_STATUS.FAILED_STEP) 7
      if stopped then s.journalCopied else s

/-! ### The release (R266, R268, R269) -/

/-- R454: the key store as an opening finds it. -/
def State.openKeys (s : State) (bad : Bool) : State :=
  let s := s.setFlag IDENTITY_DATA.IDENTITY_STATE bad
  if bad then s.raise .IDENTITY_FAULT siteSecurity 0 0 [f8 1] else s

/-- R302, R449: the copies of the backup domain take the defaults; inputs in level sensing are judged by them. -/
def State.copiesDefault (s : State) : State := ((s.setN BACKUP_LOCKED 0).setN ALARM.ALARM_STATE 0).senseLevels

/-- The record that 32 bytes spell (R327). -/
def recordOf (b : List Byte) : Record :=
  let n (i w : Nat) : Nat := ofLE (slice b i w)
  ⟨n 7 1, n 0 7, n 8 4, n 12 2, n 14 1, n 15 1 / 8 * 8, n 15 1 % 8, field (n 16 4) 24 8, n 16 4 % 2 ^ 24, slice b 20 12, 64⟩

/-- A record that follows RESET_DONE, which may still wait for the era (R330). -/
def State.placeAfterReset (s : State) (p : Placing) : State :=
  match s.placing with
  | q :: r => if q.record.kind = Kind.code .RESET_DONE then { s with placing := q :: p :: r } else s.placeRecord p
  | [] => s.placeRecord p

/-- R310, R311: at step 5 an opening places the record of the house stop or the lockout before it. -/
def State.openStop (s : State) : State :=
  if s.flag STOP_MARK && s.flag STEP5_DONE then
    let s := s.setN STOP_MARK 0
    if s.blob FAULT_STATUS.LAST_STOP = [] then s
    else s.placeAfterReset ⟨recordOf (s.blob FAULT_STATUS.LAST_STOP), none, [0]⟩
  else s

/-- R310, R311, R323: what an opening places in Q0000 for a house stop, a lockout or a hold before it. -/
def State.openReports (s : State) : State :=
  let s := s.openStop
  let s := if s.flag KEEPER_TOLD then
      s.raise .KEEPER_HOLD 0xE1000000 0 0
        [f16 (s.get KEEPER.HOLDS), f32 (s.get KEEPER.LAST_HOLD_SECONDS), f8 (s.get KEEPER.RETRY_SERIES)]
    else s
  let s := s.setN KEEPER_TOLD 0
  if s.flag LONG_RESET then
    (s.raise .LONG_PRESS_RESET siteWake 0 0 [f32 (s.nat VBAT_OUT / 1000)]).setN LONG_RESET 0
  else s

/-- RESET_DURATION: from the start of the reset to the release, on the 32.768 kHz clock. -/
def State.resetDuration (s : State) : Nat :=
  if s.flag BACKUP_ANEW then 0xFFFFFFFF
  else satTo 0xFFFFFFFF ((s.time - s.nat RESET_START_AT) * 32768 / 1000000 * 1000000 / 32768)

/-- R268: the time from which step 7 of an opening after a full reset counts. -/
def State.coldOrigin (s : State) : Nat := if s.nat VBAT_ROSE_AT = 0 then s.time - 1600 else s.nat VBAT_ROSE_AT - 1

/-- R275: the order of the steps 1 to 6: step 5 by fallback comes after step 6. -/
def stepOrder (entry skips : Nat) : List Nat :=
  if stepMode entry skips 5 = 1 then [1, 2, 3, 4, 6, 5] else [1, 2, 3, 4, 5, 6]

/-- R275: one of the steps 1 to 6 of an opening. After a stop only steps 5 and 6 are run (R278). The entry and the marks e4, k4
govern steps 1 to 4, and e5, k5, p5 those from 5 onward (R279). -/
def State.openStep (s : State) (o : Opening) (e4 k4 e5 k5 p5 lost : Nat) (low full : Bool) (step : Nat) : State :=
  let goes := s.nat OPENING_STATUS.OPENING_STATE == 0
  match step with
  | 1 => s.openClock o e4 k4
  | 2 => s.openStraps o e4 k4
  | 3 => if goes then s.openLink0 e4 k4 (o.lanes.getD 0 (0, 0)).1 (o.lanes.getD 0 (0, 0)).2 else s
  | 4 => if goes then s.openLinks e4 k4 o.lanes else s
  | 5 => s.openRecords o e5 k5 p5 lost low
  | _ => s.openPort o e5 k5 (if full then 3000 else 2000)

/-- What follows the steps of a list that were run, of those that were to be: where one hangs, or step 6 waits for V18 (R286), the
opening stands there; otherwise step 7 begins after a full reset, and the entry is brought up to date. -/
def State.openEnds (s : State) (o : Opening) (full : Bool) (e5 : Nat) (order ran : List Nat) : State :=
  let s := if s.flag PORTS_READY && s.nat OPENING_STATUS.OPENING_STATE = 0 then
    (s.setN KEEPER.FAILED_OPENINGS 0).setN KEEPER.RETRY_SERIES 0 else s
  match order.drop ran.length with
  | next :: _ =>
    let s := if next = o.hang then s.setN HUNG next else s.setN V18_WAIT 1
    s.retainJournal next
  | [] =>
    let seven := full && s.linkUp 0
    let s := if seven then s.openProfile e5 else s
    s.openingGoesOn (seven && !s.profileOver)

/-- The steps of a list that run: none from one that hangs on, and not step 6 while V18 is low (R286). -/
def State.stepsRun (s : State) (o : Opening) (order : List Nat) : List Nat :=
  order.takeWhile fun x => x != o.hang && !(x == 6 && s.flag V18_LOW)

/-- The opening that follows a release: full after a full reset, otherwise after one of the control die or a Park exit, with
the cause that the journal names. Channel dies still in reset come out of it once their links are trained (R268). -/
def State.opening (s : State) (o : Opening) (full : Bool) (cause : Nat) : State :=
  let low := s.rtcFlag TFLAG.LOW_BACKUP
  let lost := if low then 511 else o.lost % 512
  let gone := lost.testBit 2
  let e4 := if gone then 0 else s.nat RET_ENTRY
  let k4 := if gone then 0 else s.nat RET_SKIP
  let e5 := if gone then s.nat (STORE_JOURNAL 0) else s.nat RET_ENTRY
  let k5 := if gone then s.nat (STORE_JOURNAL 2) else k4
  let p5 := if gone then s.nat (STORE_JOURNAL 3) else s.nat RET_PROFILE_SKIP
  let order := stepOrder e5 k5
  let ran := s.stepsRun o order
  let s : State := { s with collector := s.collector.filter fun m => siteOfBackup m.site }
  let s := ((s.setN DEV_STATE 1).setN WDX_SERVED s.time).setN PROFILE_T0 s.coldOrigin
  let s := ((s.setN WAKE_PENDING 0).setN SHIP_IN 0).openTick low (lost.testBit 0) (stepMode e5 k5 5 == 2)
  let s := s.journalShift cause (if full then s.time - s.coldOrigin else 0) gone
  let s := (s.setN OPENING_STATUS.SKIP_MASK k4).setN OPENING_STATUS.PROFILE_SKIP (if gone then 0 else p5)
  let s := (((if s.flag DIES_HELD && ran.contains 4 then s.diesReleased else s).swRelease).thermalOpening.copiesDefault).levelTo 0
  let s := s.openKeys o.badKeys
  let s := forEach ran (fun step s => s.openStep o e4 k4 e5 k5 p5 lost low full step) s
  ((s.setN BACKUP_ANEW 0).setN KEEPER_PASS 0).openEnds o full e5 order ran

/-- R286: V18 is back, and the opening that waits for it at step 6 goes on with what it meets there. -/
def State.openingWaits (s : State) (o : Opening) : State :=
  let e := s.nat (OPENING_JOURNAL.ENTRY 1)
  let order := (stepOrder e (s.nat OPENING_STATUS.SKIP_MASK)).dropWhile (· != 6)
  let ran := s.stepsRun o order
  if ran = [] && o.hang != 6 then s
  else
    let full := s.flag RESET_FULL
    let lost := if s.rtcFlag TFLAG.LOW_BACKUP then 511 else 0
    let k := s.nat OPENING_STATUS.SKIP_MASK
    let s := s.setN V18_WAIT 0
    let s := forEach ran (fun step s =>
      s.openStep o e k e k (s.nat OPENING_STATUS.PROFILE_SKIP) lost (lost != 0) full step) s
    (s.openEnds o full e order ran).openStop

/-- R266: whether a reset is released: its time has passed, the supplies it watches are good, RSTIN_N is high, CX is not in
SHUTDOWN (R423) and the keeper holds no hold. -/
def State.mayRelease (s : State) : Bool :=
  s.nat DEV_STATE == 0 && s.nat RESET_UNTIL ≤ s.time && s.nat RSTIN_UNTIL ≤ s.time && s.nat KEEPER_HOLDING == 0 &&
    s.nat (THERMAL_DIE.DIE_STATE 0) < 3 && (List.range 3).all fun i => !s.flag (SUPPLY_LOW i)

/-- R266, R286, R322: the release of the control die, or the keeper's hold in its place; an opening that waits for V18 goes on. -/
def State.resetRelease (s : State) (o : Opening) : State :=
  if s.live && s.flag V18_WAIT then s.openingWaits o
  else if !s.mayRelease then s
  else if 3 ≤ s.nat KEEPER.FAILED_OPENINGS && !s.flag KEEPER_PASS then
    s.keeperHolds (if 3 ≤ s.nat KEEPER.RETRY_SERIES then 2 else 1)
  else
    let s := s.setN RESET_CAUSE.RESET_DURATION s.resetDuration
    let cause := s.nat RESET_CAUSE.LAST_CAUSE
    let s := (s.opening o (s.flag RESET_FULL) cause).setN VBAT_ROSE_AT 0
    let s := s.recordNow .RESET_DONE siteControl 0
      [f8 cause, f8 (s.get RESET_CAUSE.LAST_KIND), f32 (s.get RESET_CAUSE.RESET_DURATION)]
    s.openReports

/-- R296, R297: a wake in Park: the opening that a control-die reset would bring, but no reset. -/
def State.parkExit (s : State) (o : Opening) : State :=
  let causes := s.wakeCauses
  if s.nat DEV_STATE != 2 || causes = 0 then s
  else
    let d := satTo 0xFFFFFFFF (s.rtcSeconds - s.nat RET_ENTERED)
    let s := ((s.setN POWER_STATE.LAST_WAKE_CAUSE causes).setN WAKE_PENDING 0).pwmLow
    let s := (s.opening o false 0).estUnparks d
    let s := if s.nat RETAINED.REGIONS_LOST / 8 % 2 = 1 then s else s.setN POWER_STATE.LAST_PARK_DURATION d
    s.raise .PARK_EXIT siteControl 0 0 [f16 causes, f32 d]

/-! ### After a stop (R278) -/

/-- R278: OPENING_RESUME lands: the stopped step runs once more by fallback, and the opening goes on. v carries the value
written and, as a free value above it, in bit 8 whether the step passes, from bit 16 on, two bits for each die, the lanes that train in
time, and from bit 32 on the five reads of the straps. -/
def State.openingResume (s : State) (v : Nat) : State :=
  let step := s.nat STOPPED_STEP
  if s.nat OPENING_STATUS.OPENING_STATE != 2 then s
  else
    let reads := (List.range 5).map fun i => field v (32 + 8 * i) 8
    let ok := if step = 2 then reads.all (· == reads.headD 0) else v.testBit 8
    let lanes (d : Nat) : Nat := field v (16 + 2 * d) 2
    let entry := s.nat (OPENING_JOURNAL.ENTRY 1)
    let began := s.nat OPENING_STATUS.STEP == 7
    let s := (s.setN OPENING_STATUS.OPENING_STATE 0).setN STOPPED_STEP 0
    let s := if step = 2 then (s.strapsRead reads).openArbiter.nodeBoot 0 else s
    let s := if ok then s else s.stepFails step 1 0
    let s := if step = 6 && ok then (s.setN ARB_DOWN 0).nodeBoot 0 else s
    let s := if step = 2 then s.openLink0 entry 0 (lanes 0) 0
      else if step = 3 then (if ok then s.linkComesUp 0 (lanes 0 == 2) else s.setN (AMLOR_LINK.LINK_STATE 0) 1)
      else s
    let s := if step = 2 || step = 3 then s.openLinks entry 0 ((List.range 4).map fun d => (lanes d, 0)) else s
    let s := (s.setN KEEPER.FAILED_OPENINGS 0).setN KEEPER.RETRY_SERIES 0
    let seven := s.flag RESET_FULL && s.linkUp 0
    let s := if seven && !began then s.openProfile entry else s
    s.openingGoesOn (seven && !s.profileOver)

/-- R278: the bring-up of TN00's endpoint is tried again after 100 ms. -/
def State.arbiterRetry (s : State) (ok : Bool) : State :=
  if s.live && s.flag ARB_DOWN && s.nat ARB_AT + 100000 ≤ s.time then
    let s := s.setN ARB_AT s.time
    if ok then (s.setN ARB_DOWN 0).nodeBoot 0 else s
  else s

/-- R265: RSTOUT_N is released. -/
def State.rstoutRelease (s : State) : State :=
  if s.portsReady && s.nat RSTOUT_UNTIL ≤ s.time then s.setN RSTOUT_HIGH 1 else s

/-! ### Rows -/

def execResetRelease (o : Opening) (s : State) : Host.Outcome State Fault Refusal := .next (s.resetRelease o)
def execParkExit (o : Opening) (s : State) : Host.Outcome State Fault Refusal := .next (s.parkExit o)
def execProfileChannelRequest (s : State) : Host.Outcome State Fault Refusal := .next s.profileRequests
def execArbiterPortRetry (ok : Bool) (s : State) : Host.Outcome State Fault Refusal := .next (s.arbiterRetry ok)
def execRstoutNRelease (s : State) : Host.Outcome State Fault Refusal := .next s.rstoutRelease

end Sys2Proof.Machine
end

