-- ==== Sys2Proof/Machine/Faults.lean ====
section
/-!
DEFINITION. The fault collector (chapter 12): classification of a message, cascades (R320), the queue for recording (R307),
EMCY (R308), the class reactions (R309 to R312) and the closing of shadows (R316, R319).
-/
namespace Sys2Proof.Machine

/-- The site of the fault collector. -/
abbrev siteCollector : Nat := 0x02800000

/-! ### Cascades (R320) -/

/-- R320: whether a shadow opened by a class reaction of F2 or above is open: F2 of channels, a converter or a lane, a fold,
a house stop or a lockout. -/
def State.classShadowOpen (s : State) : Bool :=
  s.shadows.any fun x => [2, 4, 6, 9, 10, 11].contains x.cause && x.openAt s.stamp

/-- R319, R320: whether a message of class c is a cascade. -/
def State.isCascade (s : State) (m : Msg) (c : Nat) : Bool :=
  2 ≤ c && c ≤ 4 && s.classShadowOpen && !(m.held && m.stamp + 10000 < s.stamp)

/-- R320: whether a kept cascade stamp lies within 10 ms before a stamp. -/
def State.cascadeNear (s : State) (i stamp : Nat) : Bool :=
  s.nat (RET_CASCADE i) != 0 && s.nat (RET_CASCADE i) - 1 ≤ stamp && stamp ≤ s.nat (RET_CASCADE i) - 1 + 10000

/-- A record that the collector makes itself (R308); it causes no further reaction. -/
def State.collectorRecord (s : State) (k : Kind) (c : Nat) (fields : List (Nat × Int)) : State :=
  let m : Msg := ⟨s.stamp, siteCollector, k, 0, 0, fields, false⟩
  { s with placing := s.placing ++ [s.toPlacing m c false] }

/-- R320: a cascade is counted; after two earlier ones within 10 ms its class is raised. The answer is its class. -/
def State.cascade (s : State) (m : Msg) (c : Nat) : Nat × State :=
  let s := (s.count FAULT_STATUS.CASCADES 0xFFFF).count RET_CASCADES 0xFF
  if s.cascadeNear 0 m.stamp && s.cascadeNear 1 m.stamp then
    let s := ((s.setN (RET_CASCADE 0) 0).setN (RET_CASCADE 1) 0).count FAULT_STATUS.ESCALATIONS 0xFFFF
    (c + 1, s.collectorRecord .CASCADE_ESCALATED (s.classOf .CASCADE_ESCALATED) [f16 m.kind.code, f8 c, f8 (c + 1)])
  else (c, (s.setN (RET_CASCADE 1) (s.nat (RET_CASCADE 0))).setN (RET_CASCADE 0) (m.stamp + 1))

/-! ### Recording (R307) -/

/-- The times of 8 bytes each that lie within the last 10 ms. -/
def recentDrops (now : Nat) (l : List Byte) : List Byte :=
  (List.range (l.length / 8)).flatMap fun i =>
    if now < ofLE (slice l (8 * i) 8) + 10000 then slice l (8 * i) 8 else []

/-- R307: a message of class F0 or F1 finds the queue of 512 full: it is dropped. -/
def State.collectorDrop (s : State) : State :=
  let times := recentDrops s.time (s.blob DROP_TIMES) ++ leBytes 8 s.time
  let s := (s.setBlob DROP_TIMES times).count FAULT_STATUS.COLLECTOR_DROPS 0xFFFFFFFF
  if s.flag OVERRUN_AT && s.time < s.nat OVERRUN_AT - 1 + 10000 then s
  else
    (s.setN OVERRUN_AT (s.time + 1)).raise .COLLECTOR_OVERRUN siteCollector 0 0 [f16 (satTo 0xFFFF (times.length / 8))]

/-- R307: a classified message is handed to recording. -/
def State.toRecording (s : State) (m : Msg) (c : Nat) (shadow : Bool) : State :=
  if c ≤ 1 && 512 ≤ (s.placing.filter fun p => p.record.cls ≤ 1).length then s.collectorDrop
  else { s with placing := s.placing ++ [s.toPlacing m c shadow] }

/-- R308: one EMCY on each CAN port that carries TN00 or the tenant named, from the named tenant's node where it is
attached to the port. -/
def State.emcyFor (s : State) (r : Record) : State :=
  forBelow 2 (fun p s =>
    if s.isNode r.tenant && s.canPortOf r.tenant == some p then s.emcySend r.tenant r
    else if s.isNode 0 && s.canPortOf 0 == some p then s.emcySend 0 r
    else s) s

/-! ### Class F2 (R309) -/

/-- The converter whose engine a site names. -/
def converterAt (site : Nat) : Option Nat :=
  match blockAt site with
  | some b => if 0x30 ≤ b && b ≤ 0x33 then some (b - 0x30) else none
  | none => none

/-- The lane of which a site names a block. -/
def laneAt (site : Nat) : Option Nat :=
  match blockAt site with
  | some b => if 0x10 ≤ b && b ≤ 0x2F then some (b % 16) else none
  | none => none

/-- R309: the unit that a site names stops; any other block of the control die or of die code 7 does not. -/
def State.unitStop (s : State) (site : Nat) : State :=
  match converterAt site, laneAt site with
  | some m, _ =>
    let s := if s.conv m = CS.LATCHED then s else s.convLatch m 3
    s.openShadow 11 m (s.stamp + 2001)
  | none, some l => ((s.setN (LANE_PARK l) 1).laneParks l).openShadow 4 l (s.stamp + 2000)
  | none, none =>
    if siteChannels site = [] then s else (s.land 0 2 (.unitStop site)).openShadow 2 site 0

/-- R309: channel n turns off by its sink stage and enters LOCKOUT. -/
def State.lockOut (s : State) (n : Nat) : State :=
  if s.cell n = ST.LOCKOUT then s
  else
    let s := if s.standing n then s else (s.swapInterrupt n)
    let on := s.conducts n
    let s := ((s.setModelFlag n MFLAG.COOLING_WAIT false).setN (STORED_WAIT n) 0).withdraw n
    let s := ((s.setN (PEND n) 0).setN (PWM_HIGH n) 0).cellTo n ST.LOCKOUT
    if on then s.setN (GATE n) 5 else s

/-- R309: a class F2 reaction at channels takes effect at its boundary. -/
def State.unitStopLands (s : State) (site : Nat) : State :=
  forEach (siteChannels site) (fun n s => s.lockOut n) s

/-- R316: whether the shadow of a class F2 reaction at channels may begin to close: none of those channels waits for a
reaction, and every gate is down. -/
def State.stopsDown (s : State) (site : Nat) : Bool :=
  (siteChannels site).all fun n =>
    !s.gateFalls n && s.landing.all fun l => match l.act with
      | .unitStop x => !(siteChannels x).contains n
      | _ => true

/-- R316: at a frame boundary such shadows get their closing, 1 ms later. -/
def State.unitShadows (s : State) : State :=
  { s with shadows := s.shadows.map fun x =>
      if x.cause == 2 && x.closing == 0 && s.stopsDown x.subject then { x with closing := s.stamp + 1000 } else x }

/-! ### Class F3 (R78, R431, R506) -/

/-- R78, R506: the hands that a class F3 message folds. -/
def State.handsOf (s : State) (m : Msg) : List Nat :=
  if m.kind = .WATCHDOG_EXPIRED then [m.tenant]
  else if m.site = siteSwitch && m.kind.code / 256 = 8 then [s.holderOfConverter 1]
  else
    let l := (List.range 16).filter fun t => s.siteInHand t m.site
    if l = [] then [0] else l

/-- R312: a class F3 reaction on the hand of tenant t overtakes the class F2 reactions still pending on its channels: what is
left of them stops the channels of other hands. -/
def State.stopsOvertaken (s : State) (t : Nat) : State :=
  { s with landing := s.landing.flatMap fun l =>
      match l.act with
      | .unitStop site =>
        if (siteChannels site).any fun n => s.holderOfChannel n == t then
          ((siteChannels site).filter fun n => s.holderOfChannel n != t).map fun n => { l with act := .unitStop (siteChannel n 0) }
        else [l]
      | _ => [l] }

/-- R78, R312: a class F3 reaction: each of those hands folds at the second boundary. -/
def State.handStop (s : State) (m : Msg) : State :=
  forEach (s.handsOf m) (fun t s => (s.stopsOvertaken t).scheduleFold t (if m.kind = .WATCHDOG_EXPIRED then 2 else 3)) s

/-! ### Classes F4 and F5 (R310 to R312) -/

/-- R310, R311: LAST_STOP: the HOUSE_STOP or LOCKOUT record of a message, with its stamp; c is its class before
escalation. -/
def State.stopRecord (s : State) (m : Msg) (c : Nat) (lockout : Bool) : Record :=
  let k := if lockout then Kind.LOCKOUT else Kind.HOUSE_STOP
  ⟨0, m.stamp, siteCollector, k.code, RT.EVENT, s.untrusted, if lockout then 5 else 4, 0, 0,
    (packFields 12 [f16 m.kind.code, f32 m.site, f8 c]).1, 64⟩

/-- A house stop, or a lockout, is counted and kept for the opening after it. -/
def State.stopKept (s : State) (m : Msg) (c : Nat) (lockout : Bool) : State :=
  let s := (s.setBlob FAULT_STATUS.LAST_STOP (s.stopRecord m c lockout).bytes).setN STOP_MARK (if lockout then 2 else 1)
  let s := s.setN STOP_RUNS (if lockout then 2 else 1)
  if lockout then (s.count FAULT_STATUS.LOCKOUTS 0xFFFFFFFF).count RET_LOCKOUTS 0xFFFFFFFF
  else (s.count FAULT_STATUS.HOUSE_STOPS 0xFFFFFFFF).count RET_STOPS 0xFFFFFFFF

/-- R312: what is pending of lower reactions is not carried out. -/
def State.dropFolds (s : State) : State :=
  { s with landing := s.landing.filter fun l => match l.act with
      | .fold _ | .tenantReset _ | .unitStop _ => false
      | _ => true }

/-- R310, steps 1 to 4: the house stop begins. -/
def State.houseStop (s : State) (m : Msg) (c : Nat) (lockout : Bool) : State :=
  let s := (s.stopKept m c lockout).setN STOP_AT s.time
  let s := forBelow 4 (fun d s => if s.linkUp d then s.setN (STAND_DUE d) 3 else s) s
  let s := ((s.commitsEnd.dropFolds).planAbort 0 6).planAbort 1 6
  let s := ((s.asFinish 10).convHouseStop m.kind.code m.site).swNoClosed
  s.openShadow (if lockout then 10 else 9) 0 0

/-- R310 to R312: a message of class F4 or F5 acts; one of class F5 turns a house stop that runs into a lockout. -/
def State.deviceStop (s : State) (m : Msg) (before c : Nat) : State :=
  if !s.flag STOP_RUNS then s.houseStop m before (c == 5)
  else if c = 5 && s.nat STOP_RUNS = 1 then
    let s := (s.setN FAULT_STATUS.HOUSE_STOPS (s.nat FAULT_STATUS.HOUSE_STOPS - 1)).setN RET_STOPS (s.nat RET_STOPS - 1)
    let s : State := { s with shadows := s.shadows.map fun x => if x.cause == 9 && x.closing == 0 then { x with cause := 10 } else x }
    s.stopKept m before true
  else s

/-! ### Classification (R306) -/

/-- R306, R312: the class reaction of an unshadowed message whose class was `before` its escalation to c. While a house stop
runs, no lower reaction begins. -/
def State.react (s : State) (m : Msg) (before c : Nat) : State :=
  if 4 ≤ c then s.deviceStop m before c
  else if s.flag STOP_RUNS then s
  else if c = 3 then s.handStop m
  else if c = 2 then s.unitStop m.site
  else s

/-- R306 to R308, R317, R320: a message is classified: counted, recorded, told as EMCY, and reacted to. -/
def State.classify (s : State) (m : Msg) : State :=
  let before := s.classOf m.kind
  let shadow := s.shadowed m before
  let r := if !shadow && s.isCascade m before && !s.flag STOP_RUNS then s.cascade m before else (before, s)
  let c := r.1
  let s := if c ≤ 3 then r.2.count (FAULT_STATUS.COUNT_F c) 0xFFFFFFFF else r.2
  let s := s.toRecording m c shadow
  if shadow then s.count FAULT_STATUS.SHADOWED 0xFFFFFFFF
  else if c = 0 then s
  else
    let s := (s.setN FAULT_STATUS.LAST_KIND m.kind.code).setN FAULT_STATUS.LAST_SITE m.site
    (s.emcyFor (s.toPlacing m c false).record).react m before c

/-- R305, R14: a message of a site goes to the collector: that of a channel die in an event block, any other at once while the
control die runs. -/
def State.raiseAt (s : State) (k : Kind) (site : Nat) (fields : List (Nat × Int)) : State :=
  let d := site / 2 ^ 29
  if 1 ≤ d && d ≤ 4 then s.raiseDie (d - 1) k site 0 0 fields else if s.live then s.raise k site 0 0 fields else s

/-- R263, R326: whether an object lies outside the critical tables: not in the deal, the trump table, the standing orders, the
plans or the key store. -/
def outsideTables (k : Nat) : Bool :=
  let idx := k % 2 ^ 24 / 256
  let n := idx % 512
  !((0x2300 ≤ idx && idx < 0x2310) || (0x3900 ≤ idx && idx < 0x3910) || (0x2800 ≤ idx && idx < 0x2803) ||
    (0x3000 ≤ idx && idx < 0x3200 && k % 2 ^ 24 == CHANNEL_CONFIG.STANDING_ORDER n))

/-- R326: the value of an object is discarded: it reads as its default until it is written again. -/
def State.valueLost (s : State) (k : Nat) : State :=
  if outsideTables k && (subAt (k % 2 ^ 24)).any fun r => r.acc != .const then
    let s := if (lookupKey s.regs (inForce k)).isSome then s.set (inForce k) (s.defaultOf k) else s
    ((s.set k (s.defaultOf k)).setBlob k []).setBlob (inForce k) []
  else s

/-- R326: the records at the given places of ring q are discarded. -/
def State.recordsLost (s : State) (q : Nat) (places : List Nat) : State :=
  let l := s.ringRecs q
  ((s.setRing q (((List.range l.length).zip l).filterMap fun p => if places.contains p.1 then none else some p.2)).marker q).tgSettle

/-- R306, R326: what a block reports. -/
def State.reported (s : State) (r : Report) : State :=
  match r with
  | .unknown code site =>
    if (Kind.ofCode code).isSome then s else s.raiseAt .UNKNOWN site [f16 code]
  | .corrected site addr syndrome => s.raiseAt .MEMORY_CORRECTED site [f32 addr, f8 syndrome]
  | .uncorrectable site addr words values records =>
    let s := forEach values (fun k s => s.valueLost k) s
    let s := forEach (records.map (·.1)).eraseDups (fun q s =>
      s.recordsLost q ((records.filter fun x => x.1 == q).map (·.2))) s
    s.raiseAt .MEMORY_UNCORRECTABLE site [f32 addr, f16 words]

/-- R306: the oldest message that waits is classified, while the control die runs. -/
def State.oldestClassified (s : State) : State :=
  match s.collector with
  | [] => s
  | m :: r => if s.live then ({ s with collector := r } : State).classify m else s

/-- R306: what a block reports joins the messages that wait, and the oldest of them is classified. -/
def State.faultMessage (s : State) (r : Option Report) : State :=
  (match r with
   | some x => s.reported x
   | none => s).oldestClassified

/-- R316, R319: shadows whose time has passed are closed; the last 64 of them are kept. -/
def State.shadowsClose (s : State) : State :=
  let closed := s.shadows.filter fun x => x.closing != 0 && x.closing ≤ s.stamp
  let stay := closed.drop (closed.length - 64)
  { s with shadows := s.shadows.filter fun x => !(x.closing != 0 && x.closing ≤ s.stamp) || stay.contains x }

/-! ### Rows -/

def execFaultMessage (s : State) (r : Option Report := none) : Host.Outcome State Fault Refusal := .next (s.faultMessage r)
def execShadowClose (s : State) : Host.Outcome State Fault Refusal := .next s.shadowsClose

end Sys2Proof.Machine
end

