-- ==== Sys2Proof/Machine/Load.lean ====
section
/-!
DEFINITION. The loads and their windows (R466, R467, R474).
-/
namespace Sys2Proof.Machine

/-- R466, R474: the fabric load of the window that ends, in 0.01 %. -/
def State.fabricLoad (s : State) : Nat :=
  (s.nat EVENT_FABRIC.RECORDS_PLACED + 2 ^ 32 - s.nat LOAD_PLACED) % 2 ^ 32 * 10000 / 16000

/-- R467, R473: the access load of the window that ends, in 0.01 %. -/
def State.accessLoad (s : State) : Nat := satTo 10000 (s.nat LOAD_ACCESS / 10)

/-- R474: whether 100 ms have passed since a record whose time, plus one, the register k holds. -/
def State.pauseOver (s : State) (k : Nat) : Bool := s.nat k == 0 || s.nat k - 1 + 100000 ≤ s.time

/-- R474: a load window, aligned to the tick, ends: both loads are published. -/
def State.loadWindow (s : State) : State :=
  if !s.live || s.clockAt s.time % 1000 != 0 || s.nat LOAD_AT = s.time + 1 then s
  else
    let f := s.fabricLoad
    let a := s.accessLoad
    let s := (s.setN LOAD_MONITOR.FABRIC_LOAD (satTo 0xFFFF f)).setN LOAD_MONITOR.FABRIC_LOAD_PEAK
      (max (s.nat LOAD_MONITOR.FABRIC_LOAD_PEAK) (satTo 0xFFFF f))
    let s := (s.setN LOAD_MONITOR.ACCESS_LOAD a).setN LOAD_MONITOR.ACCESS_LOAD_PEAK
      (max (s.nat LOAD_MONITOR.ACCESS_LOAD_PEAK) a)
    let s := ((s.setN LOAD_AT (s.time + 1)).setN LOAD_PLACED (s.nat EVENT_FABRIC.RECORDS_PLACED)).setN LOAD_ACCESS 0
    let s := if f ≤ 9900 then s
      else
        let s := s.count LOAD_MONITOR.OVERLOAD_WINDOWS 0xFFFFFFFF
        if s.pauseOver OVERLOAD_AT then
          (s.setN OVERLOAD_AT (s.time + 1)).raise .FABRIC_OVERLOAD 0x0200C000 0 0
            [f16 (satTo 0xFFFF f), f32 (s.get FAULT_STATUS.COLLECTOR_DROPS)]
        else s
    if 9900 ≤ a && s.pauseOver SATURATED_AT then
      (s.setN SATURATED_AT (s.time + 1)).raise .ACCESS_SATURATED siteServer 0 0 [f16 a, f8 (s.get PERFORMANCE.LEVEL_IN_FORCE)]
    else s

/-! ### Rows -/

def execLoadWindowEnd (s : State) : Host.Outcome State Fault Refusal := .next s.loadWindow

end Sys2Proof.Machine
end

