-- ==== Sys2Proof/Machine/Pdo.lean ====
section
/-!
DEFINITION. Transmit PDOs (R368 to R370) and the NMT commands (R365, R366).
-/
namespace Sys2Proof.Machine

/-! ### Transmit PDOs -/

/-- The tenant that owns TPDO x, which counts the 64 of CAN0 and then those of CAN1. -/
def State.tpdoOwner (s : State) (x : Nat) : Nat := s.pdoOwner (0x1800 + x)

/-- R366, R368: whether TPDO x is sent: it is valid, and its owner's node is Operational. -/
def State.tpdoActive (s : State) (x : Nat) : Bool :=
  s.portsReady && s.pdoValid (x / 64) (s.tpdoOwner x) (TPDO_COMM.COB_ID x) && s.nat (NMT_STATE (s.tpdoOwner x)) == 2

/-- The mapped values of TPDO x. -/
def State.tpdoValues (s : State) (x : Nat) : List Byte :=
  (s.mapping (TPDO_MAP.ENTRY x 0)).flatMap fun e => s.readBytes (s.tpdoOwner x) (e.2 / 256)

/-- R370: TPDO x is sent, with its values as published at the start of this frame. EVENT_TIMER starts anew. -/
def State.tpdoSend (s : State) (x : Nat) : State :=
  let s := (((s.setN (PDO_AT x) (s.time + 1)).setN (PDO_DUE x) 0).setN (PDO_EVT x) s.time).setBlob (PDO_SENT x)
    (s.blob (PDO_DATA x))
  s.canSend (x / 64) (s.nat (TPDO_COMM.COB_ID x) % 2 ^ 30) (s.fdForm (x / 64)) (s.blob (PDO_DATA x))

/-- R370: whether INHIBIT_TIME, in 100 µs, still keeps TPDO x back. -/
def State.tpdoInhibited (s : State) (x : Nat) : Bool :=
  s.nat (PDO_AT x) != 0 && s.time + 1 < s.nat (PDO_AT x) + 100 * s.nat (TPDO_COMM.INHIBIT_TIME x)

/-- R370: an event of TPDO x: it is sent, or its send waits for the end of the inhibit time. -/
def State.tpdoEvent (s : State) (x : Nat) : State :=
  if !s.tpdoActive x then s
  else if s.tpdoInhibited x then s.setN (PDO_DUE x) 1
  else s.tpdoSend x

/-- R370: at the start of a frame the values of TPDO x are taken; of type 254 or 255, it is sent where one has changed. -/
def State.tpdoBoundary (s : State) (x : Nat) : State :=
  if s.bit (TPDO_COMM.COB_ID x) 31 then s
  else
    let v := s.tpdoValues x
    if v = s.blob (PDO_DATA x) then s
    else
      let s := s.setBlob (PDO_DATA x) v
      if 254 ≤ s.nat (TPDO_COMM.TRANSMISSION_TYPE x) then s.tpdoEvent x else s

/-- R370: a SYNC reaches TPDO x: of types 1 to 240 every n-th, counted from the one that SYNC_START names; of type 0 where a
value has changed since it was last sent. -/
def State.tpdoSync (s : State) (x : Nat) (counter : Option Nat) : State :=
  let n := s.nat (TPDO_COMM.TRANSMISSION_TYPE x)
  if !s.tpdoActive x || 241 ≤ n then s
  else if n = 0 then
    if s.nat (PDO_AT x) = 0 || s.blob (PDO_SENT x) != s.blob (PDO_DATA x) then s.tpdoEvent x else s
  else
    let start := s.nat (TPDO_COMM.SYNC_START x)
    let begins := s.nat (PDO_COUNT x) != 0 || start == 0 || counter == some start
    if !begins then s
    else
      let c := s.nat (PDO_COUNT x) + 1
      let s := s.setN (PDO_COUNT x) c
      if c % n = 0 then s.tpdoEvent x else s

/-- R370: EVENT_TIMER of TPDO x, in ms, has run out. -/
def State.tpdoTimer (s : State) (x : Nat) : State :=
  let ms := s.nat (TPDO_COMM.EVENT_TIMER x)
  if s.tpdoActive x && 254 ≤ s.nat (TPDO_COMM.TRANSMISSION_TYPE x) && ms != 0 && s.nat (PDO_EVT x) + 1000 * ms ≤ s.time then
    (s.setN (PDO_EVT x) s.time).tpdoEvent x
  else s

/-- R370: the inhibit time of TPDO x has ended: the send that it delayed is made. -/
def State.tpdoInhibitEnd (s : State) (x : Nat) : State :=
  if s.flag (PDO_DUE x) && !s.tpdoInhibited x then
    if s.tpdoActive x then s.tpdoSend x else s.setN (PDO_DUE x) 0
  else s

/-- What TPDO x has counted, and what waits, begins anew: its settings have changed, or its node starts or stops. -/
def State.tpdoRestart (s : State) (x : Nat) : State :=
  (((s.setN (PDO_COUNT x) 0).setN (PDO_DUE x) 0).setN (PDO_EVT x) s.time).setBlob (PDO_DATA x)
    (if s.bit (TPDO_COMM.COB_ID x) 31 then [] else s.tpdoValues x)

/-- The PDOs of tenant t begin anew. -/
def State.pdosRestart (s : State) (t : Nat) : State :=
  let s := forBelow 128 (fun x s => if s.tpdoOwner x = t && !s.bit (TPDO_COMM.COB_ID x) 31 then s.tpdoRestart x else s) s
  forBelow 64 (fun x s =>
    if s.pdoOwner (0x1400 + x) = t then (s.setN (RPDO_HAS x) 0).setBlob (RPDO_HELD x) [] else s) s

/-! ### NMT (R365) -/

/-- R365: the tenants whose nodes an NMT command on port p addresses: one node, or every node for 0. -/
def State.nmtNodes (s : State) (p node : Nat) : List Nat :=
  (List.range 16).filter fun t =>
    s.isNode t && s.canPortOf t == some p && (node == 0 || s.nodeId t == node) && s.nat (NMT_STATE t) != 0

/-- R365: an NMT command on port p does something to each node that it addresses. -/
def State.nmt (s : State) (p node : Nat) (f : Nat → State → State) : State :=
  if s.canOnBus p then forEach (s.nmtNodes p node) f (s.wrapCount (CAN_PORT.RX_FRAMES p) 32) else s

/-- R365: the node of tenant t becomes Operational, Stopped or Pre-operational. In Stopped it serves no USDO. -/
def State.nmtTo (s : State) (t st : Nat) : State :=
  let was := s.nat (NMT_STATE t)
  let s := s.setN (NMT_STATE t) st
  if was = st then s else s.pdosRestart t

/-- R365: Reset communication: PDOs begin anew, and the node boots. No object changes. -/
def State.nmtResetCommunication (s : State) (t : Nat) : State := (s.pdosRestart t).nodeBoot t

/-- R80, R365: Reset node: a tenant reset, then the boot-up message. -/
def State.nmtResetNode (s : State) (t : Nat) : State := (s.tenantResetAccept t 1).setN (NMT_BOOT t) 1

/-! ### Rows -/

def execNmtStart (p : CanPort) (node : Nat) (s : State) : Host.Outcome State Fault Refusal :=
  .next (s.nmt p.val node fun t s => s.nmtTo t 2)
def execNmtStop (p : CanPort) (node : Nat) (s : State) : Host.Outcome State Fault Refusal :=
  .next (s.nmt p.val node fun t s => s.nmtTo t 3)
def execNmtEnterPreoperational (p : CanPort) (node : Nat) (s : State) : Host.Outcome State Fault Refusal :=
  .next (s.nmt p.val node fun t s => s.nmtTo t 1)
def execNmtResetNode (p : CanPort) (node : Nat) (s : State) : Host.Outcome State Fault Refusal :=
  .next (s.nmt p.val node fun t s => s.nmtResetNode t)
def execNmtResetCommunication (p : CanPort) (node : Nat) (s : State) : Host.Outcome State Fault Refusal :=
  .next (s.nmt p.val node fun t s => s.nmtResetCommunication t)
def execTpdoEventTimer (x : Fin 128) (s : State) : Host.Outcome State Fault Refusal := .next (s.tpdoTimer x.val)
def execTpdoInhibitEnd (x : Fin 128) (s : State) : Host.Outcome State Fault Refusal := .next (s.tpdoInhibitEnd x.val)

end Sys2Proof.Machine
end

