-- ==== Sys2Proof/Machine/Pcie.lean ====
section
/-!
DEFINITION. The PCIe link and the resets of its functions (R376, R381, R382).
-/
namespace Sys2Proof.Machine

/-- R6: the byte offset of an object in the BAR0 window. -/
def windowOffset (addr : Nat) : Nat := 8 * addr

/-- R6: the object at a byte offset of the 128 MiB window. -/
def windowObject (off : Nat) : Option Nat := if off % 8 = 0 && off < 2 ^ 27 then some (off / 8) else none

/-- R387: the site of function f. -/
def siteFunction (f : Nat) : Nat := siteBlock 0x42 1 f

/-- R376: whether the endpoint is there: the control die runs and the strap enables it. -/
def State.pcieOn (s : State) : Bool := s.live && (s.nat STRAPS.STRAP_VALUE).testBit 6

/-- R357: a transfer in progress to host memory ends with a lost link. -/
def State.pcieLost (s : State) : State :=
  if s.nat DMA_BUSY != 0 && DW.dstKind (s.nat (DMA_WORD 0)) == 0 then s.setN DMA_LOST 1 else s

/-- R376: the link has a new state or speed. -/
def State.pcieLink (s : State) (st speed : Nat) : State :=
  let was := s.nat PCIE_PORT.LINK_STATE
  if was = st && s.nat PCIE_PORT.LINK_SPEED = speed then s
  else
    let s := if was = 2 && st = 0 then (s.count PCIE_PORT.LINK_DOWNS 0xFFFF).pcieLost else s
    ((s.setN PCIE_PORT.LINK_STATE st).setN PCIE_PORT.LINK_SPEED speed).raise .PCIE_LINK_CHANGED (siteFunction 0) 0 0
      [f8 st, f8 speed]

/-- The link trains, comes up or goes down. In D0, and with the link up, `masters` holds the Bus Master Enable of each function;
payload is the maximum payload size that the host has set. PCIE_PERST_N low holds the link down (R382). -/
def State.pcieChanged (s : State) (st speed masters payload : Nat) : State :=
  if !s.pcieOn || s.flag PERST_LOW then s
  else
    let up := st == 2
    let s := s.pcieLink (min st 2) (if up then max 1 (min speed (s.nat PCIE_PORT.MAX_SPEED)) else 0)
    if up then
      forBelow 4 (fun f s => s.setN (PCIE_PAYLOAD f) (if 256 ≤ payload then 256 else 128))
        (s.setN PCIE_PORT.BUS_MASTER (masters % 16))
    else s

/-- A change of MAX_SPEED retrains the link. -/
def State.pcieRetrain (s : State) : State := if s.nat PCIE_PORT.LINK_STATE = 2 then s.pcieLink 1 0 else s

/-- R382: the configuration of function f returns to its defaults: Bus Master Enable is clear, and its vectors are masked. -/
def State.functionClears (s : State) (f : Nat) : State :=
  let s := (s.setBit PCIE_PORT.BUS_MASTER f false).restore (PCIE_PAYLOAD f)
  forBelow 12 (fun v s => (s.setN (MSIX_OPEN (16 + 12 * f + v)) 0).setN (MSIX_HELD (16 + 12 * f + v)) 0) s

/-- R382: a reset of function f for a cause: 0 PCIE_PERST_N, 1 a function level reset. -/
def State.functionReset (s : State) (f cause : Nat) : State :=
  ((s.functionClears f).doomDescriptors f (cause == 0)).raise .PCIE_FUNCTION_RESET (siteFunction f) 0 0 [f8 f, f8 cause]

/-- R382: PCIE_PERST_N falls or rises. -/
def State.perst (s : State) (low : Bool) : State :=
  if s.flag PERST_LOW = low then s
  else
    let s := s.setFlag PERST_LOW low
    if low && s.pcieOn then
      let s := (s.count PCIE_PORT.PERSTS 0xFFFF).pcieLink 0 0
      forBelow 4 (fun f s =>
        ((((s.functionReset f 0).restore (PT_ADDR f)).restore (PT_RESULT f)).restore (POP_RESULT f)).setBlob (POP_BUF f) []
          |>.setBlob (PT_BUF f) []) s
    else s

/-- R382: a function level reset. -/
def State.functionLevelReset (s : State) (f : Nat) : State :=
  if s.pcieOn && s.nat PCIE_PORT.LINK_STATE = 2 then (s.count PCIE_PORT.FLRS 0xFFFF).functionReset f 1 else s

/-! ### Rows -/

def execPciePerst (low : Bool) (s : State) : Host.Outcome State Fault Refusal := .next (s.perst low)
def execFunctionLevelReset (f : Func) (s : State) : Host.Outcome State Fault Refusal := .next (s.functionLevelReset f.val)
def execPcieLinkChanged (link speed masters payload : Nat) (s : State) : Host.Outcome State Fault Refusal :=
  .next (s.pcieChanged link speed masters payload)

end Sys2Proof.Machine
end

