-- ==== Sys2Proof/Machine/Apply.lean ====
section
/-!
DEFINITION. What a frame boundary applies (R26, R38): class I values, actions, committed sets (R43, R44), and what a change
of a setting does beside the setting itself.
-/
namespace Sys2Proof.Machine

/-! ### What a change of settings does -/

/-- The numbers below n, of objects from base on, whose subindex sub differs between two states. -/
def changedSub (old s : State) (base n sub : Nat) (keys : List Nat) : List Nat :=
  (keys.filter fun k => base ≤ k / 256 && k / 256 < base + n && k % 256 == sub && old.get k != s.get k).map (· / 256 - base)

/-- Whether any key of an object from base on, n of them, is listed. -/
def anyIn (keys : List Nat) (base n : Nat) : Bool := keys.any fun k => base ≤ k / 256 && k / 256 < base + n

/-- R134, R146: models that a change of settings switches on start: at 0 on a channel in OFF, otherwise at their warning
levels. A channel that leaves lamp mode has no envelope. -/
def State.modelsStart (old s : State) (keys : List Nat) : State :=
  let ns := ((keys.filter fun k => 0x3000 ≤ k / 256 && k / 256 < 0x3400).map fun k => k / 256 % 512).eraseDups
  forEach ns (fun n s =>
    let warm := s.standing n || s.cell n != ST.OFF
    let s := if s.flag (CHANNEL_PROTECTION.LAMP_MODE n) then s else s.setModelFlag n MFLAG.LAMP_ENVELOPE false
    let s := if !old.wireRuns n && s.wireRuns n then s.wireStart n warm else s
    if !old.fetRuns n && s.fetRuns n then s.fetStart n warm else s) s

/-- R178, R324: what the retained SRAM copies of the keeper's settings. -/
def State.keeperCopies (s : State) : State :=
  let p := s.nat KEEPER.KEEPER_CAN_PORT
  let s := forBelow 16 (fun r s => s.set (RSO_KEEP r) (s.get (RESET_OUTPUT.KEEPER_REPORT r))) s
  let s := ((s.setN RET_RETRY (s.nat KEEPER.KEEPER_RETRY_TIME)).setN RET_PORT p).setN RET_COB (s.nat KEEPER.KEEPER_COB_ID)
  if p = 0 then s
  else (s.setN RET_RATE (s.nat (CAN_PORT.NOMINAL_RATE (p - 1)))).setN RET_SAMPLE (s.nat (CAN_PORT.NOMINAL_SAMPLE (p - 1)))

/-- R362, R363, R52: the settings of CAN port p have changed. -/
def State.canChanged (old s : State) (p : Nat) (keys : List Nat) : State :=
  let ch := fun k => keys.contains k && old.get k != s.get k
  let rate := ch (CAN_PORT.NOMINAL_RATE p) || ch (CAN_PORT.DATA_RATE p)
  let sample := ch (CAN_PORT.NOMINAL_SAMPLE p) || ch (CAN_PORT.DATA_SAMPLE p)
  let auto := ch (CAN_PORT.AUTO_RECOVER p) && s.flag (CAN_PORT.AUTO_RECOVER p)
  let rates := rate || (sample && s.nat (CAN_PORT.BUS_STATE p) != 2)
  let s := if rates || auto then s.canRates p rates auto else s
  if ch (SYNC_OVERFLOW.VALUE p) then s.syncRange p else s

/-- The PDOs whose settings or owner have changed begin anew. -/
def State.pdosChanged (s : State) (keys : List Nat) : State :=
  let s := forBelow 128 (fun x s =>
    if keys.any fun k => k / 256 == 0x1800 + x || k / 256 == 0x1A00 + x || k == 0x220401 + x then s.tpdoRestart x else s) s
  forBelow 64 (fun x s =>
    if keys.any fun k => k / 256 == 0x1400 + x || k / 256 == 0x1600 + x || k == 0x220481 + x then
      (s.setN (RPDO_HAS x) 0).setBlob (RPDO_HELD x) [] else s) s

/-- R314: the entries in use of CLASS_OVERRIDE. -/
def State.overridesInUse (s : State) : Nat := ((List.range 64).filter fun i => s.flag (CLASS_OVERRIDE.OVERRIDE i)).length

/-- What changes of settings of channels and banks do (R91, R134, R155, R170, R176). -/
def State.channelsChanged (old s : State) (keys : List Nat) : State :=
  let s := State.modelsStart old s keys
  let s := forEach (changedSub old s 0x3600 512 1 keys) (fun n s => s.windowMode n) s
  let s := forEach (changedSub old s 0x3000 512 2 keys) (fun n s => s.setChFlag n FLAG.SHUNT_NOT_SET (!s.shuntSet n)) s
  let banks := (changedSub old s 0x3800 32 5 keys ++ changedSub old s 0x3800 32 6 keys).eraseDups
  let s := forEach banks (fun k s => s.pumpUpdate k) s
  if anyIn keys 0x3830 64 || anyIn keys 0x3A00 16 then forBelow 16 (fun r s => s.rsoFollow r) s else s

/-- What changes of the settings under `keys` do, all values being in place. -/
def State.settingsChanged (old s : State) (keys : List Nat) : State :=
  let ks := keys.filter fun k => old.get k != s.get k
  let s := State.channelsChanged old s ks
  let s := forEach (changedSub old s 0x2D28 4 1 ks) (fun m s => s.convWindowMode m) s
  let s := forEach (changedSub old s 0x4000 8192 1 ks) (fun q s => s.ringResize q) s
  let s := forEach (changedSub old s 0x2910 64 1 ks) (fun g s => s.tgEnable g (s.flag (TARGET.ENABLE g))) s
  let s := forBelow 2 (fun p s => State.canChanged old s p ks) s
  let s := if ks.any fun k => k / 256 < 0x1C00 || k / 256 == 0x2204 then s.pdosChanged ks else s
  let s := if anyIn ks 0x2501 0x50 then s.hkCommitted ks else s
  let s := if anyIn ks 0x2100 1 then s.twAdopt else s
  let s := if anyIn ks 0x2032 1 then s.senseLevels else s
  let s := if anyIn ks 0x2A10 32 then forBelow 32 (fun d s => s.dsShow d) s else s
  let s := if ks.contains PCIE_PORT.MAX_SPEED then s.pcieRetrain else s
  let s := if anyIn ks 0x2C03 1 || anyIn ks 0x3A00 16 || anyIn ks 0x2200 2 then s.keeperCopies else s
  if anyIn ks 0x2C01 1 then
    s.raise .CLASS_OVERRIDES_APPLIED siteCollector 0 0
      [f16 s.overridesInUse, f16 (s.nat DEVICE_DIGEST.GLOBAL_GENERATION)]
  else s

/-! ### Kept settings (R81) -/

/-- The object of a channel that KEPT counts: 0 CHANNEL_CONFIG, 1 CHANNEL_PROTECTION, 2 CHANNEL_SUPERVISION. -/
def keptObject (k : Nat) : Option Nat :=
  if k / 256 < 0x3000 || 0x3800 ≤ k / 256 then none
  else if k / 256 < 0x3200 then some 0
  else if k / 256 < 0x3400 then some 1
  else if 0x3600 ≤ k / 256 then some 2
  else none

/-- R81: a commit or a class I write has replaced the value under key k. -/
def State.notKept (s : State) (k : Nat) : State :=
  match keptObject k with
  | none => s
  | some j =>
    let n := k / 256 % 512
    let s := s.setBit (KEPT n j) (k % 256) false
    s.setChFlag n FLAG.KEPT_SETTINGS ((List.range 3).any fun i => s.flag (KEPT n i))

/-- The own subindexes of object index idx that hold a value, as a mask. -/
def ownMask (idx : Nat) : Nat := maskBelow 64 fun j => (subAt (idx * 256 + j)).any fun r => r.acc == .own

/-- R81: channel n keeps its whole applied configuration. The level view of R174 is no value of its own. -/
def State.keepSettings (s : State) (n : Nat) : State :=
  let s := ((s.setN (KEPT n 0) (ownMask (0x3000 + n))).setN (KEPT n 1) (ownMask (0x3200 + n))).setN (KEPT n 2)
    (ownMask (0x3600 + n) % 2 ^ 12)
  s.setChFlag n FLAG.KEPT_SETTINGS true

/-- R81: channel n keeps no value. -/
def State.keepNothing (s : State) (n : Nat) : State :=
  (((s.setN (KEPT n 0) 0).setN (KEPT n 1) 0).setN (KEPT n 2) 0).setChFlag n FLAG.KEPT_SETTINGS false

/-! ### Values on dies that do not hear (R44, R117) -/

/-- The values of a set that take effect now: those of the control die, and of channel dies that hear. -/
def State.nowValues (s : State) (vals : List (Nat × Int)) : List (Nat × Int) :=
  vals.filter fun v => (heldDie v.1).all fun d => s.dieHears d

/-- R44: what a set accepted at a time leaves for the channel dies that do not hear; told for a committed set. -/
def State.lateItems (s : State) (vals : List (Nat × Int)) (t accepted : Nat) (told : Bool) : List Landing :=
  ((List.range 4).filter fun d => !s.dieHears d && vals.any fun v => heldDie v.1 == some d).map fun d =>
    ⟨t, s.frame, accepted, .late d told (vals.filter fun v => heldDie v.1 == some d), false⟩

/-- R38, R44: they wait at the place of that acceptance. -/
def State.lateValues (s : State) (vals : List (Nat × Int)) (t accepted : Nat) (told : Bool) : State :=
  { s with
    landing := s.landing.takeWhile (fun x => x.accepted ≤ accepted) ++ s.lateItems vals t accepted told ++
      s.landing.dropWhile fun x => x.accepted ≤ accepted }

/-- R117: a value that a die applies is no longer one that it takes at the release of its channels. -/
def State.notHeld (s : State) (keys : List Nat) : State :=
  { s with late := (s.late.map fun x => (⟨x.die, x.values.filter fun v => !keys.contains v.1⟩ : LateSet)).filter fun x =>
      x.values != [] }

/-- Values of a set of tenant t take effect together, with what their change does. Those for dies that do not hear wait. -/
def State.applyValues (s : State) (vals : List (Nat × Int)) (t accepted : Nat) (told : Bool) : State :=
  let now := s.nowValues vals
  let keys := now.map (·.1)
  let s := (s.notHeld keys).lateValues vals t accepted told
  State.settingsChanged s (s.overlay now) keys

/-- R44: die d hears again: a set that it missed at boundary `due` applies, and COMMIT_LATE_DIE says by how many frames a
committed one was late. -/
def State.lateArrives (s : State) (d due : Nat) (told : Bool) (vals : List (Nat × Int)) : State :=
  let keys := vals.map (·.1)
  let s := s.notHeld keys
  let s := State.settingsChanged s (s.overlay vals) keys
  if told then
    s.raise .COMMIT_LATE_DIE (siteLink d) 0 0
      [f8 (d + 1), f32 (s.frame - due : Nat), f16 (s.nat DEVICE_DIGEST.GLOBAL_GENERATION)]
  else s

/-- Whether a value waiting for the release of the channels of a die is taken with the release of channel n: that channel's
own, and with the first of them those of its banks. -/
def takenWith (n k : Nat) : Bool := 0x3800 ≤ k / 256 || k / 256 % 512 == n

/-- R117: at its release channel n takes the configuration that the control die holds for it. -/
def State.takeHeld (s : State) (n : Nat) : State :=
  let vals := (s.late.filter fun x => x.die == dieOf n).flatMap fun x => x.values.filter fun v => takenWith n v.1
  if !s.standing n || vals = [] then s
  else
    let keys := vals.map (·.1)
    let s := s.notHeld keys
    State.settingsChanged s (s.overlay vals) keys

/-! ### Class I values (R34) -/

/-- R95, R76, R153: REQUEST of channel n, accepted from tenant t, lands. A swap that it ends leaves the value accepted. -/
def State.landRequest (s : State) (t n v : Nat) : State :=
  let s := (s.swapInterrupt n).set (CHANNEL_CONFIG.REQUEST n) (s.get (CHANNEL_CONFIG.REQUEST n))
  let s := if t = 0 then s.trumpLands n 1 v else s
  if s.standing n then s else (s.setN (inForce (CHANNEL_CONFIG.REQUEST n)) v).actOnRequest n

/-- A class I value of a channel lands; on a standing channel PWM settings wait for its release (R117). -/
def State.landChannel (s : State) (t k : Nat) (v : Int) : State :=
  let n := k / 256 - 0x3000
  if k = CHANNEL_CONFIG.REQUEST n then s.landRequest t n v.toNat
  else if s.standing n then s else s.set (inForce k) v

/-- A class I value of a converter or of the battery path lands. -/
def State.landPower (s : State) (k : Nat) (v : Int) : State :=
  let m := k / 256 - 0x2D00
  if k = BATTERY_SWITCH.MODE then s.swWrite v.toNat
  else if k = CHARGER.CHARGE_ENABLE then s.chEnable v.toNat
  else if m < 4 && k = CONVERTER.ENABLE m then s.convEnable m v.toNat
  else s.set (inForce k) v

/-- A class I value of the device core lands. -/
def State.landCore (s : State) (k : Nat) (v : Int) : State :=
  if k = POWER_STATE.POWER_MODE then s.powerMode v.toNat
  else if k = RTC.RTC_TRIM then s.setTrim v
  else if k = ALARM.ALARM_SECONDS then s.alarmSet v.toNat
  else if k = EVENT_FABRIC.DEVICE_HOLD then s.deviceHold v.toNat
  else if k / 256 = 0x1017 then (s.set (inForce k) v).setN (HB_AT (k % 256 - 1)) s.time
  else s.set (inForce k) v

/-- A class I value of a DMA stream or of a descriptor lands. -/
def State.landStream (s : State) (k : Nat) (v : Int) : State :=
  let d := k / 256 - 0x2A10
  if d < 32 && k = STREAM.RUN d then s.dsRun d v.toNat
  else if d < 32 && k = STREAM.TAIL d then s.dsTailLands d v.toNat
  else s.set (inForce k) v

/-- R34: a class I value, accepted from tenant t, takes effect. A read still returns the value last accepted (R35). -/
def State.landValue (s : State) (t k : Nat) (v : Int) : State :=
  let later := s.landing.any fun l => match l.act with
    | .value k' _ => k' == k
    | _ => false
  let s := (if later then s else s.set k v).notKept k
  let idx := k / 256
  if 0x3000 ≤ idx && idx < 0x3200 then s.landChannel t k v
  else if 0x3A00 ≤ idx then s.rsoForce (idx - 0x3A00) v.toNat
  else if 0x2D00 ≤ idx then s.landPower k v
  else if 0x2A00 ≤ idx then s.landStream k v
  else s.landCore k v

/-! ### Actions (R503) -/

/-- An action on a channel or a bank lands. -/
def State.landChannelAction (s : State) (t addr v : Nat) : State :=
  let idx := addr / 256
  let n := idx % 512
  if idx < 0x3200 then
    if addr % 256 = 0x10 then
      (((if t = 0 then s.trumpLands n 0x10 v else s).takeHeld n).releaseStanding n) t
    else (if t = 0 then s.trumpLands n 0x11 v else s).clearLockout n
  else if idx < 0x3800 then s.clearCounters n
  else s.captureArm ((idx - 0x3800) / 8)

/-- An action on a plan lands: START, ABORT or RESOLVE. -/
def State.landPlanAction (s : State) (addr v : Nat) : State :=
  let p := if addr / 256 = 0x3900 then 0 else 1
  match addr % 256 with
  | 2 => s.planBegin p 0
  | 3 => s.planAbort p 4
  | _ => s.planResolve p (v / 256) (v % 256)

/-- An action of the battery path lands. -/
def State.landPowerAction (s : State) (addr v : Nat) : State :=
  if addr = SHIP_CONTROL.SHIP_ARM then s.shipArm (v == 0xA5)
  else if addr = ASSIST_PORT.ASSIST_START then s.asStart
  else if addr = ASSIST_PORT.ASSIST_STOP then s.asOrdinary 1
  else s.batteryReplaced

/-- An action on the device core lands. -/
def State.landCoreAction (s : State) (addr v : Nat) : State :=
  if addr = RESET_CONTROL.DEVICE_RESET then s.resetBegin (if v = 0x5A then 11 else 10) siteServer (v == 0x5A) false
  else if addr = OPENING_STATUS.OPENING_RESUME then s.openingResume v
  else if addr = OPENING_STATUS.JOURNAL_ACK then s.journalAck
  else if addr = POWER_STATE.PARK then s.parkBegins
  else if addr = WAKE_CONFIG.WAKE_CLEAR then s.wakeClear v
  else if addr = CONTROLLER_TRANSFER.TRANSFER_START then s.twStart
  else if addr = PON_CONTROL.PON_COMMAND then s.ponCommand (v == 0xA5)
  else if 0x2300 ≤ addr / 256 && addr / 256 < 0x2310 then s.trumpReleased v
  else s

/-- R34, R503: an action, accepted from tenant t, takes effect. -/
def State.landAction (s : State) (t addr : Nat) (v : Int) : State :=
  let idx := addr / 256
  if idx < 0x2E00 then s.landCoreAction addr v.toNat
  else if idx < 0x3000 then s.landPowerAction addr v.toNat
  else if idx < 0x3820 then s.landChannelAction t addr v.toNat
  else if idx < 0x3900 then s.swapBegin (idx - 0x3870) v.toNat
  else s.landPlanAction addr v.toNat

/-! ### Defaults of a hand (R80 to R82) -/

/-- Whether the register under key k is an own object of the hand of tenant t, or one that only TN00 writes. -/
def State.inHand (s : State) (t k : Nat) : Bool :=
  match subAt k with
  | none => false
  | some r => (r.acc == .own && s.ownerOf k == t) || (r.acc == .arb && t == 0 && !isDealField k)

/-- R81: the channels of the hand of tenant t that keep their configuration: not OFF after the fold, by their fold state or
under trump. -/
def State.keptChannels (s : State) (t : Nat) : List Nat :=
  (s.handChannels t).filter fun n => (s.standing n || s.cell n != ST.OFF) && (s.foldHold n || s.trumpHeld n)

/-- R81, R203: whether converter m keeps its settings. -/
def State.convKeeps (s : State) (m : Nat) : Bool :=
  s.bit (TENANT.CONVERTERS (s.holderOfConverter m)) (4 + m) && s.conv m != CS.OFF

/-- R81, R203: whether the register under key k is kept, where `chans` are the channels that keep theirs. -/
def State.keeps (s : State) (chans : List Nat) (k : Nat) : Bool :=
  let idx := k / 256
  if 0x2D10 ≤ idx && idx < 0x2D20 then
    let m := s.nat (LANE.CONVERTER (idx - 0x2D10))
    m < 4 && s.convKeeps m
  else if 0x2D00 ≤ idx && idx < 0x2E00 then s.convKeeps (idx % 4)
  else if 0x2E00 ≤ idx && idx < 0x2E10 then s.convKeeps 1
  else 0x3000 ≤ idx && idx < 0x3800 && chans.contains (idx % 512)

/-- Whether the register under key k belongs to stream d, or to its descriptors: dsStop gives those their defaults. -/
def State.ofStream (s : State) (t k : Nat) : Bool :=
  let idx := k / 256
  (0x2A10 ≤ idx && idx < 0x2A30 && (subAt k).any fun r => r.acc == .own) ||
    (0x2A40 ≤ idx && idx < 0x2A60 &&
      (s.streamOfDescriptor (32 * (idx - 0x2A40) + (k % 256 - 1) / 4)).any fun d => s.holderOfStream d == t)

/-- The keys of the hand of tenant t that may differ from their defaults, ascending. -/
def State.handKeys (s : State) (t : Nat) (chans : List Nat) : List Nat :=
  let listed := s.regs.filterMap fun p =>
    if p.1 < 2 ^ 24 then some p.1 else if 2 ^ 40 ≤ p.1 && p.1 < 2 ^ 41 then some (p.1 - 2 ^ 40) else none
  let waiting := s.unapplied.map (·.1)
  let named := ((List.range 16).filter fun n => s.bit PROFILE_NAMED n).flatMap profileKeys
  ((listed ++ waiting ++ named).filter fun k => s.inHand t k && !s.keeps chans k && !s.ofStream t k).eraseDups.mergeSort
    fun a b => a ≤ b

/-- Whether a register is of class I. -/
def isImmediate (k : Nat) : Bool := (subAt k).any fun r => r.cls == .immediate

/-- The default of a register of a hand; a ring's capacity follows R336. -/
def State.handDefault (s : State) (k : Nat) : Int :=
  if 0x4000 ≤ k / 256 && k % 256 = 1 then (s.defaultCapacity (k / 256 - 0x4000) : Nat) else s.defaultOf k

/-- R80: a class I register of a hand returns to its default v. The mode of the battery switch does so without acting
(R222); a fold that waits keeps its channel from acting (R79). -/
def State.defaultLands (s : State) (k : Nat) (v : Int) : State :=
  let s := s.set k v
  let idx := k / 256
  if k = BATTERY_SWITCH.MODE then s.set (inForce k) v
  else if 0x3000 ≤ idx && idx < 0x3200 then
    let n := idx - 0x3000
    if s.standing n then s
    else if k % 256 = 1 then
      let s := s.set (inForce k) v
      if s.flag (FOLD_WAIT n) then s else s.actOnRequest n
    else s.set (inForce k) v
  else if s.get (inForce k) = v && !(0x2D00 ≤ idx && idx < 0x2D04 && k % 256 == 1 && s.conv (idx - 0x2D00) == CS.LATCHED) then s
  else s.landValue 16 k v

/-- R80, R82: the objects of the hand of tenant t return to their defaults, but for what `chans` and converters keep. -/
def State.handDefaults (s : State) (t accepted : Nat) (chans : List Nat) : State :=
  let keys := s.handKeys t chans
  let s := forEach (keys.filter isImmediate) (fun k s => s.defaultLands k (s.handDefault k)) s
  let s := if t = 0 then (s.setBlob CONTROLLER_TRANSFER.WRITE_DATA []).setBlob (inForce CONTROLLER_TRANSFER.WRITE_DATA) [] else s
  s.applyValues ((keys.filter fun k => !isImmediate k).map fun k => (k, s.handDefault k)) t accepted false

/-! ### Tenant reset (R80 to R82) -/

/-- R53: the generations of tenant t and of the device advance; a new adjournment is possible (R433). -/
def State.generationsAdvance (s : State) (t : Nat) : State :=
  ((s.wrapCount (TENANT_GENERATION.GEN_TN t) 16).wrapCount DEVICE_DIGEST.GLOBAL_GENERATION 16).setN
    (WATCHDOG.ADJOURN_USED t) 0

/-- The rings in the range of tenant t; that of TN00 is Q0000 (R68). -/
def State.rangeOf (s : State) (t : Nat) : List Nat :=
  if t = 0 then [0] else (List.range (s.nat (TENANT.RING_COUNT t))).map (s.nat (TENANT.RING_BASE t) + ·)

/-- What a tenant reset ends beside settings: streams, the watchdog, the session, fences, a hold, what is staged, what its
endpoint holds, and its access record. -/
def State.tenantEnds (s : State) (t : Nat) : State :=
  let s := forBelow 32 (fun d s => if s.holderOfStream d = t then s.dsStop d 1 else s) s
  let s := ((((s.wdDisarm t).sessionEnd t 2).fenceCancel t).tenantHold t false).unstage t
  let s := s.setBlob (FRAME_RESP (s.nat (TENANT.ENDPOINT t) % 256)) (if s.nat (TENANT.ENDPOINT t) / 4096 = 5 then [] else
    s.blob (FRAME_RESP (s.nat (TENANT.ENDPOINT t) % 256)))
  ((s.restore (LAST_ACCESS.ABORT_COUNT t)).restore (LAST_ACCESS.LAST_ABORT t)).restore
    (LAST_ACCESS.LAST_ABORT_ADDRESS t)

/-- R82, R167: what a tenant reset of TN00 does beside: running plans end, and the plan objects return to their defaults. -/
def State.arbiterResets (s : State) : State :=
  let s := (s.planAbort 0 6).planAbort 1 6
  let s := forEach ((s.regs.map (·.1)).filter fun k => 0x390000 ≤ k && k < 0x391000) (fun k s => s.restore k) s
  forBelow 16 (fun t s => forBelow 8 (fun k s => s.setN (TENANT.TRUMP_HELD t k) 0) s) s

/-- R80: the effects of a tenant reset of tenant t, accepted at a time, from a source; 256 more marks one whose fold was merged
with another. -/
def State.tenantResets (s : State) (t source accepted : Nat) : State :=
  let s := s.commitCancel t s.frame
  let s := if 256 ≤ source then (s.foldAll t).setN (TENANT.LAST_FOLD_CAUSE t) 1 else s.foldHand t 1
  let chans := s.keptChannels t
  let s := if t = 0 then s.arbiterResets else s
  let s := (s.tenantEnds t).handDefaults t accepted chans
  let s := forEach (s.handChannels t) (fun n s => if chans.contains n then s.keepSettings n else s.keepNothing n) s
  let s := forEach (s.rangeOf t) (fun q s => s.ringRestart q) s
  let s := ((s.generationsAdvance t).count (TENANT.RESET_COUNT t) 0xFFFF).setN (TENANT.LAST_RESET_SOURCE t) (source % 256)
  let s := s.recordNow .TENANT_RESET_DONE siteServer t
    [f8 t, f8 (source % 256 : Nat), f16 (s.nat (TENANT_GENERATION.GEN_TN t))]
  let boot := s.flag (NMT_BOOT t)
  let s := s.setN (NMT_BOOT t) 0
  if boot then (s.pdosRestart t).nodeBoot t else s

/-! ### Committed sets (R43, R44, R71, R72) -/

/-- R72, R80: the tenant reset of tenant u whose admission a deal change, accepted at a time, withdraws: it takes effect at once
with all that an accepted one has done before, and merges with one that waits. -/
def State.withdrawalResets (s : State) (u accepted : Nat) : State :=
  let merged := if s.foldPending u then 256 else 0
  let s := (s.barrierDrop u).usdoAbort u 0x08000022
  let s : State := { s with landing := s.landing.filter fun l => !(l.tenant == u && (match l.act with
      | .tenantReset _ => true
      | _ => false)) }
  s.tenantResets u (4 + merged) accepted

/-- R43: the committed set of tenant t, accepted at a time, takes effect at this boundary. -/
def State.commitApplies (s : State) (t accepted : Nat) (vals : List (Nat × Int)) : State :=
  let old := s
  let s := s.generationsAdvance t
  let s := ((s.setN (COMMIT_CONTROL.STATUS t) 5).setN (COMMIT_CONTROL.APPLY_FRAME t) s.frameNumber).unstage t
  let s := forEach vals (fun v s => s.notKept v.1) (s.applyValues vals t accepted true)
  let s := s.raiseServer .COMMIT_APPLIED t
    [f16 (s.nat (TENANT_GENERATION.GEN_TN t)), f16 (s.nat DEVICE_DIGEST.GLOBAL_GENERATION), f32 s.frameNumber]
  if vals.any fun v => isDealField v.1 then
    forEach (withdrawn old s) (fun u s => s.withdrawalResets u accepted) (State.dealApplies old s)
  else s

/-! ### Actions that act on the control die itself (R503) -/

/-- Actions on a tenant's watchdog, clock and security objects, which act at their acceptance. -/
def State.actService (s : State) (t addr : Nat) (v : Int) (b : List Byte) : State :=
  let n := v.toNat
  if addr = WATCHDOG.ARM t then s.wdArm t n
  else if addr = WATCHDOG.ADJOURN t then s.wdAdjourn t n
  else if addr = RTC.RTC_SET then s.setClock n 1
  else if addr = ATTEST_CONTROL.ATTEST_CHALLENGE 0 then s.attest t b
  else if addr = SESSION_CONTROL.SESSION_OPEN 0 then s.sessionOpen t b
  else if addr = SESSION_CONTROL.SESSION_CLOSE 0 then s.sessionEnd t 0
  else s

/-- Actions that act at their acceptance. -/
def State.actNow (s : State) (t addr : Nat) (v : Int) (b : List Byte) : State :=
  let idx := addr / 256
  let n := v.toNat
  if 0x2300 ≤ idx && idx < 0x2310 then s.tenantResetAccept (idx - 0x2300) (if t = idx - 0x2300 then 2 else 3)
  else if addr = COMMIT_CONTROL.COMMIT 0 then s.commitWrite t n
  else if addr = COMMIT_CONTROL.DISCARD 0 then s.discard t
  else if addr = BARRIER.BARRIER_ID 0 then s.barrierWrite t n
  else if addr = FENCE_CONTROL.FENCE 0 then s.fenceWrite t n
  else if 0x2501 ≤ idx && idx < 0x2505 then s.hkWritten (idx - 0x2501)
  else if addr = HOLD_CONTROL.HOLD 0 then s.tenantHold t (n == 0xA5)
  else if 0x2910 ≤ idx && idx < 0x2950 then s.tgArm (idx - 0x2910)
  else if 0x4000 ≤ idx then s.flushRing (idx - 0x4000)
  else if addr = KIND_QUERY.QUERY_KIND 0 then s.setN (KIND_QUERY.QUERY_RESULT t) (s.queryKind n)
  else s.actService t addr v b

/-! ### The items of a boundary (R38, R83) -/

/-- An accepted item takes effect. -/
def State.landOne (s : State) (l : Landing) : State :=
  match l.act with
  | .value k v => s.landValue l.tenant k v
  | .bytes k b => s.setBlob (inForce k) b
  | .action a v => s.landAction l.tenant a v
  | .service a v b => s.actNow l.tenant a v b
  | .commit vals => s.commitApplies l.tenant l.accepted vals
  | .late d told vals => s.lateArrives d l.due told vals
  | .tenantReset source => s.tenantResets l.tenant source l.accepted
  | .fold cause => s.foldHand l.tenant cause
  | .unitStop site => s.unitStopLands site

/-- Whether an item reaches where it acts: a channel die has to hear it (R15, R77). -/
def State.reaches (s : State) (l : Landing) : Bool :=
  match l.act with
  | .unitStop site => (siteChannels site).all fun n => s.dieHears (dieOf n)
  | a => (landDie a).all fun d => s.dieHears d

/-- R47: whether a tenant reset waits for the boundary after that of its tenant's commit, which applies at this one. -/
def State.afterCommit (s : State) (l : Landing) : Bool :=
  match l.act with
  | .tenantReset _ =>
    ((s.flagged l.tenant).any fun c => c.due ≤ s.frame) ||
      (s.nat (COMMIT_CONTROL.STATUS l.tenant) == 5 && s.nat (COMMIT_CONTROL.APPLY_FRAME l.tenant) == s.frameNumber)
  | _ => false

/-- R75: the channel that an accepted item commands: its REQUEST, its release or the clearing of its lockout. -/
def commandedChannel (a : LandAct) : Option Nat :=
  match a with
  | .value k _ | .action k _ => if isChannelCommand k then some (k / 256 - 0x3000) else none
  | _ => none

/-- R76: whether a trump command waits for the commands to its channel that were accepted before it: it follows them at the
boundary where they apply. -/
def State.followsOwner (s : State) (l : Landing) : Bool :=
  l.tenant == 0 && (commandedChannel l.act).isSome &&
    (s.landing.takeWhile fun x => x != l).any fun x => commandedChannel x.act == commandedChannel l.act

/-- R15, R38, R47, R55, R76: whether an item that is due lands at this boundary. -/
def State.mayLand (s : State) (l : Landing) : Bool :=
  s.landing.contains l && !l.lost && s.reaches l && !s.barred l && !s.afterCommit l && !s.followsOwner l

/-- Whether an item is a commit of TN00 that changes the deal. -/
def changesDeal (l : Landing) : Bool :=
  match l.act with
  | .commit vals => vals.any fun v => isDealField v.1
  | _ => false

/-- Whether an item folds the hand of a tenant whose fields a set of values touches. -/
def State.foldsDealt (s : State) (vals : List (Nat × Int)) (l : Landing) : Bool :=
  (match l.act with
   | .tenantReset _ | .fold _ => true
   | _ => false) &&
    ((vals.any fun v => isDealField v.1 && v.1 / 256 == 0x2300 + l.tenant) ||
      s.handFields l.tenant != (s.overlay vals).handFields l.tenant)

/-- The items due at this boundary, in the order in which they apply: that of acceptance, but a change of the deal goes before
the folds of the hands that it changes (R83). -/
def State.dueItems (s : State) : List Landing :=
  let due := s.landing.filter fun l => l.due ≤ s.frame
  match due.find? changesDeal with
  | none => due
  | some c =>
    let vals := match c.act with
      | .commit v => v
      | _ => []
    let before := due.takeWhile fun l => l != c
    let after := due.drop (before.length + 1)
    before.filter (fun l => !s.foldsDealt vals l) ++ c :: before.filter (fun l => s.foldsDealt vals l) ++ after

/-- R38: everything that is due lands. What an earlier item removes does not; what does not reach its die, or has to follow
another item, waits. A command that a discarded block carried goes out again with the next frame (R15). -/
def State.landAll (s : State) : State :=
  let s := forEach s.dueItems (fun l s =>
    if s.mayLand l then ({ s with landing := s.landing.erase l } : State).landOne l else s) s
  { s with landing := s.landing.map fun l => { l with lost := false } }

end Sys2Proof.Machine
end

