-- ==== Sys2Proof/Machine/Digest.lean ====
section
/-!
DEFINITION. Digests (R58 to R61) and the audit sweep (R62 to R64).
-/
namespace Sys2Proof.Machine

/-! ### What a digest covers -/

/-- R58: whether a row is digested. -/
def Sub.digested (r : Sub) : Bool := r.acc == .rw || r.acc == .own || r.acc == .arb || r.cls == .locked

/-- The digested subindexes of an object index, ascending. -/
def digestedOf (idx : Nat) : List Nat :=
  let rows := objectAt idx
  (List.range (highestSub rows + 1)).filterMap fun j =>
    if j != 0 && (subOf rows j).any Sub.digested && !readOnlyOnArbiter (idx * 256 + j) then some (idx * 256 + j) else none

/-- The digested subindexes of the device, in ascending order. -/
def digestedAll : List Nat :=
  objectRanges.flatMap fun r => (List.range r.2).flatMap fun i => digestedOf (r.1 + i)

/-- The digested subindexes that channel die d holds (R500). -/
def digestedOnDie (d : Nat) : List Nat :=
  (((List.range 128).map (0x3000 + 128 * d + ·)) ++ ((List.range 128).map (0x3200 + 128 * d + ·)) ++
    ((List.range 128).map (0x3600 + 128 * d + ·)) ++ (List.range 8).map (0x3800 + 8 * d + ·)).flatMap fun idx =>
      (digestedOf idx).filter fun k => heldDie k == some d

/-- R59, R32, R67: whether tenant t may write the register under key k now: a kibitzer, or a tenant that is not admitted, none. -/
def State.digestsFor (s : State) (t k : Nat) : Bool :=
  s.admitted t && !s.isKibitzer t && (subAt k).any fun r =>
    match r.acc with
    | .own => s.ownerOf k == t
    | .arb => t == 0
    | .rw => true
    | _ => false

/-! ### Serialisation (R60) -/

/-- The applied value of the register under key k, and of class I the one in force. -/
def State.applied (s : State) (r : Sub) (k : Nat) : Int :=
  if r.cls == .immediate then s.get (inForce k) else s.readInt 0 k

/-- R60: one entry of the serialisation. -/
def State.digestEntry (s : State) (k : Nat) : List Byte :=
  match subAt k with
  | none => []
  | some r =>
    leBytes 3 k ++
      (if r.ty.isString then
        let b := s.blob (if r.cls == .immediate then inForce k else k)
        leBytes 4 b.length ++ b
      else r.ty.encode (s.applied r k))

/-- R61: the digest of a list of objects, 0 for none. -/
def State.digest (s : State) (keys : List Nat) : Nat := crc64 (keys.flatMap s.digestEntry)

/-- Whether an accepted item is a set that a die has missed (R44). -/
def isLate (a : LandAct) : Bool :=
  match a with
  | .late _ _ _ => true
  | _ => false

/-- R63: what channel die d computes over what it has applied. -/
def State.dieDigest (s : State) (d : Nat) : Nat :=
  ({ s with late := [], landing := s.landing.filter fun l => !isLate l.act } : State).digest (digestedOnDie d)

/-! ### The sweep (R62 to R64) -/

/-- R63: whether a sweep takes in die d: its link is up and it does not stand. -/
def State.sweeps (s : State) (d : Nat) : Bool := s.linkUp d && !s.dieStands d

/-- R62: a sweep starts at a 100 ms point of the tick, over the values at the start of the frame that begins there. -/
def State.sweepStart (s : State) : State :=
  if s.portsReady && !s.flag SW_RUNS && s.tick % 100000 == 0 && s.nat LAST_BOUNDARY == s.time then
    let v := s
    let s := (((s.setN SW_RUNS 1).setN SW_AT s.time).setN SW_DEVICE (v.digest digestedAll)).setN SW_GLOBAL
      (s.nat DEVICE_DIGEST.GLOBAL_GENERATION)
    let s := forBelow 16 (fun t s =>
      (s.setN (SW_TENANT t) (v.digest (digestedAll.filter fun k => v.digestsFor t k))).setN (SW_GEN t)
        (v.nat (TENANT_GENERATION.GEN_TN t))) s
    let s := s.setN SW_DIES (maskBelow 4 v.sweeps)
    forBelow 4 (fun d s =>
      (s.setN (SW_EXPECT d) (v.digest (digestedOnDie d))).setN (SW_APPLIED d) (v.dieDigest d)) s
  else s

/-- The digests of die d are published; whether they differ decides what is raised. -/
def State.diePublish (s : State) (d applied expected : Nat) (kind : Kind) : State :=
  let s := (s.setN (DIE_DIGEST.APPLIED_CD d) applied).setN (DIE_DIGEST.EXPECTED_CD d) expected
  if applied = expected then s
  else s.raise kind (siteDie d 0xE0) 0 0 [f8 (d + 1), f32 (applied % 2 ^ 32 : Nat), f32 (expected % 2 ^ 32 : Nat)]

/-- R62 to R64: the sweep ends: all its results are published together. upsets holds, for each die, the bits by which what
the die holds has changed its digest since it was written. -/
def State.sweepEnd (s : State) (upsets : List Nat) : State :=
  if !s.portsReady || !s.flag SW_RUNS then s
  else
    let s := ((s.setN SW_RUNS 0).setN DEVICE_DIGEST.DIGEST (s.nat SW_DEVICE)).setN DEVICE_DIGEST.SNAPSHOT_FRAME
      (s.clockAt (s.nat SW_AT) % 2 ^ 48 / 20 % 2 ^ 32)
    let s := (s.setN DEVICE_DIGEST.SNAPSHOT_GENERATION (s.nat SW_GLOBAL)).wrapCount DEVICE_DIGEST.SWEEPS 32
    let s := forBelow 16 (fun t s =>
      (s.setN (TENANT_DIGEST.DIGEST_TN t) (s.nat (SW_TENANT t))).setN (TENANT_GENERATION.SNAP_GEN_TN t) (s.nat (SW_GEN t))) s
    forBelow 4 (fun d s =>
      if s.bit SW_DIES d then
        let applied := (s.nat (SW_APPLIED d)).xor (upsets.getD d 0 % 2 ^ 64)
        let s := s.diePublish d applied (s.nat (SW_EXPECT d)) .DRIFT
        if applied = s.nat (SW_EXPECT d) then s
        else ((s.count DEVICE_DIGEST.DRIFT_EVENTS 0xFFFF).setN SW_DRIFT 1).setN (DRIFT_DUE d) 1
      else s) (s.setN SW_DRIFT 0)

/-- R64: the die re-check, once the resend to die d has been acknowledged; upset as for a sweep: what remains of upsets when the
die's whole configuration has been written anew. -/
def State.dieRecheck (s : State) (d upset : Nat) : State :=
  if s.portsReady && s.nat (DRIFT_DUE d) = 2 && s.linkUp d then
    (s.setN (DRIFT_DUE d) 0).diePublish d ((s.dieDigest d).xor (upset % 2 ^ 64)) (s.digest (digestedOnDie d)) .DRIFT_PERSISTENT
  else s

/-! ### Rows -/

def execAuditSweepStart (s : State) : Host.Outcome State Fault Refusal := .next s.sweepStart
def execAuditSweepEnd (upsets : List Nat) (s : State) : Host.Outcome State Fault Refusal := .next (s.sweepEnd upsets)
def execDieRecheck (d : Die) (upset : Nat) (s : State) : Host.Outcome State Fault Refusal := .next (s.dieRecheck d.val upset)

end Sys2Proof.Machine
end

