-- ==== Sys2Proof/Machine/Measure.lean ====
section
/-!
DEFINITION. Measurement (chapter 4): the rounds (R97, R101, R104, R110, R144, R168, R221, R422), the frame summaries that
their samples make (R103), and their publication (R27).
-/
namespace Sys2Proof.Machine

/-! ### One round of a bank -/

/-- R104: full scale of the current path, in nV. -/
abbrev fullScale : Int := 80000000

/-- R97: whether the round r of the frame in progress is an odd one, in which the calibration converter takes VBUS. -/
def State.oddRound (s : State) (r : Nat) : Bool := (5 * s.frameNumber + r) % 2 == 1

/-- R422: whether round r skips the slots of channel n. -/
def State.slotSkipped (s : State) (n r : Nat) : Bool :=
  let c := s.cell n
  r != 0 && 2 ≤ s.nat (THERMAL_DIE.DIE_STATE (dieOf n + 1)) && (c == ST.OFF || c == ST.RETRY || c == ST.LOCKOUT)

/-- R104: a current sample of channel n at full scale. The first such frame after 1 ms without one is recorded. -/
def State.overrange (s : State) (n : Nat) (i : Int) : State :=
  if s.flag (OVER_NOW n) then s
  else
    let s := s.setN (OVER_NOW n) 1
    if s.nat (OVER_AT n) = 0 || s.nat (OVER_AT n) - 1 + 1000 ≤ s.time then
      s.raiseChannel .CURRENT_OVERRANGE n 0x06 0 [f32 i]
    else s

/-- R103: a current sample of channel n in the PWM period in progress. -/
def State.pwmSample (s : State) (n : Nat) (i : Int) : State :=
  if s.shuntSet n && (s.cell n = ST.PWM || (s.cell n = ST.LIMIT && s.nat (LIMIT_FROM n) = ST.PWM)) then
    (s.setN (PWM_SQ n) (s.nat (PWM_SQ n) + (i * i).toNat)).setN (PWM_CNT n) (s.nat (PWM_CNT n) + 1)
  else s

/-- R97, R101, R87: the slots of channel n in round r: its shunt voltage in nV and its load voltage in 0.1 mV. -/
def State.sampleChannel (s : State) (n r : Nat) (vsh vload : Int) : State :=
  let v := clampInt (-50000) 650000 vload
  let x := clampInt (-fullScale) fullScale vsh
  let i := s.currentOf n x
  let skipped := s.slotSkipped n r
  let s :=
    if skipped then
      ((s.set (SAMPLE_I n r) (s.get (SAMPLE_I n (r - 1)))).set (SAMPLE_V n r) (s.get (SAMPLE_V n (r - 1)))).setBit
        (SLOT_SKIPPED n) r true
    else
      let s := if fullScale ≤ x || x ≤ -fullScale then s.overrange n i else s
      ((s.set (SAMPLE_I n r) (if s.shuntSet n then i else 0)).set (SAMPLE_V n r) v).pwmSample n i
  s.judgeRound n v skipped (r == 4)

/-- R109: what a capture signal of die d takes from the round of bank k: a sample, and how often it is repeated. -/
def State.captureTakes (s : State) (d k r sig : Nat) (vsh vload : List Int) (vbus : Int) : Option (Int × Nat) :=
  let n := 128 * d + sig % 128
  match sig / 16384 with
  | 0 => if bankOf n = k then some (divNear (clampInt (-fullScale) fullScale (vsh.getD (n % 16) 0)) 2500, 1) else none
  | 1 => if bankOf n = k then some (divNear (clampInt (-50000) 650000 (vload.getD (n % 16) 0)) 20, 1) else none
  | _ => if 8 * d + sig % 128 = k && s.oddRound r then some (divNear vbus 20, 2) else none

/-- R110: the samples of a round of bank k go to the capture buffer of its die. -/
def State.captureRound (s : State) (k r : Nat) (vsh vload : List Int) (vbus : Int) : State :=
  let d := k / 8
  forBelow (s.nat (BANK.CAPTURE_SIGNALS (8 * d))) (fun i s =>
    match s.captureTakes d k r (s.nat (BANK.CAPTURE_SIGNAL (8 * d) i)) vsh vload vbus with
    | none => s
    | some p => s.capturePush d i p.1 p.2) s

/-- The mean of VBUS of bank k over the last 50 frames, the one in progress among them. -/
def State.vbusMean (s : State) (k : Nat) : Int :=
  let c := ((List.range 50).map fun j => s.nat (VBUS_CNT k j)).sum
  divNear (((List.range 50).map fun j => s.get (VBUS_SUM k j)).sum) c

/-- R93, R144: the sag hold of bank k after a VBUS result: ramps pause while it lies more than SAG_HOLD_LEVEL below the 1 ms
mean. -/
def State.sagTest (s : State) (k : Nat) (vbus : Int) : State :=
  let mean := s.vbusMean k
  let sag := decide (vbus < mean - s.get (BANK.SAG_HOLD_LEVEL k))
  if sag = s.bankFlag k BFLAG.SAG_HOLD then s
  else
    let s := (s.setBit (BANK.BANK_FLAGS k) BFLAG.SAG_HOLD sag).bankPauses k
    if sag then s.raiseDie (k / 8) .SAG_HOLD (siteBank k 0x83) 0 0 [f8 k, f32 vbus, f32 mean] else s

/-- R91, R97, R144: the calibration converter of bank k takes VBUS and the pump's headroom, both in 0.1 mV. -/
def State.sampleBus (s : State) (k : Nat) (vbus headroom : Int) : State :=
  let j := s.frame % 50
  let s := ((s.set (VBUS_LAST k) vbus).set (HEAD_LAST k) headroom).pumpUpdate k
  let s := (s.set (VBUS_SUM k j) (s.get (VBUS_SUM k j) + vbus)).set (HEAD_SUM k j) (s.get (HEAD_SUM k j) + headroom)
  (s.setN (VBUS_CNT k j) (s.nat (VBUS_CNT k j) + 1)).sagTest k vbus

/-- R221: the switch block of CD0 samples BSWB, BSWN and ASV, in 0.1 mV. -/
def State.sampleSwitch (s : State) (bswb bswn asv : Int) : State :=
  let j := s.frame % 50
  let add := fun (w : Nat) (v : Int) (s : State) => s.set (BSW_SUM w j) (s.get (BSW_SUM w j) + v)
  ((add 2 asv (add 1 bswn (add 0 bswb s))).setN (BSW_CNT j) (s.nat (BSW_CNT j) + 1)).swRound bswb bswn

/-- R97: a round of bank k: the 16 shunt voltages (nV) and load voltages, VBUS, the pump's headroom, and on CD0 the voltages
at the battery and assist switches. A frame has five rounds, each from a tick that is a multiple of 4 (R24); a die without
logic measures none. -/
def State.round (s : State) (k : Nat) (vsh vload : List Int) (vbus headroom bswb bswn asv : Int) : State :=
  let r := s.nat (ROUND_NO k)
  if 5 ≤ r || s.tick % 20 < 4 * r || s.flag (LOGIC_OFF (k / 8)) then s
  else
    let s := forBelow 16 (fun i s => s.sampleChannel (16 * k + i) r (vsh.getD i 0) (vload.getD i 0)) s
    let s := if s.oddRound r then s.sampleBus k vbus headroom else s
    let s := s.captureRound k r vsh vload vbus
    let s := if k = 0 then s.sampleSwitch bswb bswn asv else s
    s.setN (ROUND_NO k) (r + 1)

def execMeasurementRound (k : Bank) (vsh vload : List Int) (vbus headroom bswb bswn asv : Int) (s : State) :
    Host.Outcome State Fault Refusal := .next (s.round k.val vsh vload vbus headroom bswb bswn asv)

/-! ### The summary of a frame (R103) -/

/-- The places, modulo 50, of the last m frames up to the one in progress. -/
def State.lastFrames (s : State) (m : Nat) : List Nat :=
  ((List.range m).filter (· ≤ s.frame)).map fun i => (s.frame - i) % 50

/-- A mean of samples, not available where there are none. -/
def meanOf (sum : Int) (count : Nat) : Int := if count = 0 then notAvailable .i32 else divNear sum count

/-- The samples of the frame that ends, of channel n, in rounds that converted them. -/
def State.converted (s : State) (n : Nat) (l : List Int) : List Int :=
  (l.zip (List.range 5)).filterMap fun p => if s.bit (SLOT_SKIPPED n) p.2 then none else some p.1

/-- The sample of largest magnitude, the first of them where several are equal. -/
def peakOf (l : List Int) : Int := l.foldl (fun m v => if m.natAbs < v.natAbs then v else m) 0

/-- R103: the sums of the frame that ends for channel n. -/
def State.frameSums (s : State) (n : Nat) : State :=
  let j := s.frame % 50
  let i := if s.shuntSet n then s.converted n (s.samplesI n) else []
  let v := s.converted n (s.samplesV n)
  let s := ((s.set (SUM_I n j) i.sum).set (SUM_SQ n j) (sumSquares i)).setN (SUM_CNT n j) i.length
  let s := (s.set (SUM_V n j) v.sum).setN (SUM_CNTV n j) v.length
  s.setN (FRAMES_SEEN n) (satTo 50 (s.nat (FRAMES_SEEN n) + 1))

/-- R103: I_RMS of channel n. -/
def State.rmsOf (s : State) (n : Nat) (js : List Nat) : Int :=
  if s.cell n = ST.PWM && s.nat (PWM_PERIODS n) != 0 then s.nat (PWM_RMS n)
  else rootMean ((js.map fun j => s.nat (SUM_SQ n j)).sum) ((js.map fun j => s.nat (SUM_CNT n j)).sum)

/-- The number of the frame that has just ended, where the time is its end. -/
def State.endedFrame (s : State) : Nat := (s.frameNumber + (2 ^ 32 - 1)) % 2 ^ 32

/-- R17: whether the summary of the frame that ends on die d covers the frame before it too. -/
def State.twoFrames (s : State) (d : Nat) : Bool := s.nat (AMLOR_LINK.LINK_STATE d) == 3 && s.frame % 2 == 1

/-- The fields of the summary of channel n for the frame that ends, in the order of SUMMARY. A model that does not compute
gives no value. -/
def State.summaryOf (s : State) (n : Nat) : List Int :=
  let js := s.lastFrames (s.nat (FRAMES_SEEN n))
  let i := s.samplesI n
  let v := s.samplesV n
  let na := notAvailable .i32
  let cur := fun x => if s.shuntSet n then x else na
  let two := s.twoFrames (dieOf n)
  let sum := fun (f : Nat → Nat) => (js.map fun j => s.get (f j)).sum
  let cnt := fun (f : Nat → Nat) => (js.map fun j => s.nat (f j)).sum
  let excess := s.flag (OVER_NOW n) || (two && s.flag (SUMMARY n 10))
  [cur (i.getLastD 0), v.getLastD 0, cur (meanOf (sum (SUM_I n)) (cnt (SUM_CNT n))), meanOf (sum (SUM_V n)) (cnt (SUM_CNTV n)),
    cur (s.rmsOf n js), divNear i.sum 5, peakOf (if two then s.get (SUMMARY n 6) :: i else i),
    peakOf (if two then s.get (SUMMARY n 7) :: v else v),
    if s.wireRuns n then clampInt 0 65535 (centi (s.get (WIRE_NOW n))) else na,
    if s.fetRuns n then clampInt (-32767) 32767 (centi (s.get (FET_NOW n))) else na,
    (bitOf excess : Nat), (s.endedFrame : Nat), 1]

/-- The values of a list in the registers of summary n. -/
def State.putSummary (s : State) (n : Nat) (l : List Int) : State :=
  forBelow 13 (fun f s => s.set (SUMMARY n f) (l.getD f 1)) s

/-- The frame of channel n ends: its sums, its summary, and what begins anew for the next frame. -/
def State.channelFrameEnds (s : State) (n : Nat) : State :=
  let s := s.frameSums n
  let s := s.putSummary n (s.summaryOf n)
  let s := if s.flag (OVER_NOW n) then s.setN (OVER_AT n) (s.time + 1) else s
  (s.setN (OVER_NOW n) 0).setN (SLOT_SKIPPED n) 0

/-- The rounds of bank k begin anew, and the sums of the frame that begins; on CD0 those of the switch block too. -/
def State.bankFrameBegins (s : State) (k : Nat) : State :=
  let j := (s.frame + 1) % 50
  let s := (((s.setN (VBUS_SUM k j) 0).setN (HEAD_SUM k j) 0).setN (VBUS_CNT k j) 0).setN (ROUND_NO k) 0
  if k = 0 then (forBelow 3 (fun w s => s.setN (BSW_SUM w j) 0) s).setN (BSW_CNT j) 0 else s

/-- A 1 ms mean of what has a sum and a count for each frame. -/
def State.frameMean (s : State) (sum cnt : Nat → Nat) : Int :=
  meanOf ((List.range 50).map fun j => s.get (sum j)).sum ((List.range 50).map fun j => s.nat (cnt j)).sum

/-- R103, R221: the status of bank k at the end of a frame: the means of VBUS and headroom, and the last VBUS; and that of
the switch block of CD0: the means of BSWB, BSWN and ASV. -/
def State.bankFrameEnds (s : State) (k : Nat) : State :=
  let vbus := s.frameMean (VBUS_SUM k) (VBUS_CNT k)
  let last := if vbus = notAvailable .i32 then vbus else s.get (VBUS_LAST k)
  let s := s.putSummary (512 + k) [vbus, last, s.frameMean (HEAD_SUM k) (VBUS_CNT k)]
  if k = 0 then
    s.putSummary 544 [s.frameMean (BSW_SUM 0) BSW_CNT, s.frameMean (BSW_SUM 1) BSW_CNT, s.frameMean (BSW_SUM 2) BSW_CNT]
  else s

/-- R103, R128: the end of the frame on die d: the models of its channels, then the summaries; nothing while its logic is
off. -/
def State.dieFrameEnds (s : State) (d : Nat) : State :=
  let s :=
    if s.flag (LOGIC_OFF d) then s
    else
      forBelow 8 (fun b s => s.bankFrameEnds (8 * d + b))
        (forEach (dieChannels d) (fun n s => (s.modelUpdate n).channelFrameEnds n) s)
  forBelow 8 (fun b s => s.bankFrameBegins (8 * d + b)) s

/-! ### Publication (R27, R103) -/

/-- R103: the sample of largest magnitude since the tenant's last read. -/
def State.takePeak (s : State) (k : Nat) (v : Int) : State :=
  if s.get k = notAvailable .i32 || (s.get k).natAbs < v.natAbs then s.set k v else s

/-- R148: the open test of a lamp in ON, at each published frame after its decay time. -/
def State.lampFrame (s : State) (n : Nat) : State :=
  let f := s.nat (CHANNEL_PROTECTION.LAMP_OPEN_FRACTION n)
  if s.cell n = ST.ON && s.flag (CHANNEL_PROTECTION.LAMP_MODE n) && f != 0 && s.shuntSet n &&
      s.nat (RAMP_START n) + s.nat (CHANNEL_PROTECTION.LAMP_DECAY_TIME n) ≤ s.time then
    if s.get (CHANNEL_STATUS.I_MEAN n) * 10000 < (f * s.nat (CHANNEL_PROTECTION.LAMP_NOMINAL n) : Nat) then
      s.count (LAMP_LOW n) 255
    else s.setN (LAMP_LOW n) 0
  else s

/-- R164: NOT_DISCHARGED clears when V_MEAN has fallen below the level of its group. -/
def State.dischargeSeen (s : State) (n : Nat) : State :=
  if s.flag (ND_GROUP n) && s.get (CHANNEL_STATUS.V_MEAN n) < s.get (SEQ_GROUP.DISCHARGE_LEVEL (s.nat (ND_GROUP n) - 1)) then
    (s.setBit (WIN n) WFLAG.NOT_DISCHARGED false).setN (ND_GROUP n) 0
  else s

/-- R27, R103, R104: the summary of channel n that the control die has received is published, once. -/
def State.publish (s : State) (n : Nat) : State :=
  if s.nat (RECEIVED n 12) = 0 then s
  else
    let r := fun f => s.get (RECEIVED n f)
    let own := s.shuntSet n
    let s := (((s.set (CHANNEL_STATUS.I_INST n) (r 0)).set (CHANNEL_STATUS.V_INST n) (r 1)).set (CHANNEL_STATUS.I_MEAN n)
      (r 2)).set (CHANNEL_STATUS.V_MEAN n) (r 3)
    let s := (s.set (CHANNEL_STATUS.I_RMS n) (r 4)).set (CHANNEL_STATUS.MEAS_FRAME n) (r 11)
    let s := if r 8 = notAvailable .i32 then s else s.set (CHANNEL_PROTECTION.WIRE_RISE n) (r 8)
    let s := if r 9 = notAvailable .i32 then s else s.set (CHANNEL_PROTECTION.FET_TEMP n) (r 9)
    let s := s.setChFlag n FLAG.CURRENT_OVERRANGE (r 10 != 0)
    let s := forBelow 16 (fun t s =>
      let s := if own then s.takePeak (CHANNEL_STATUS.I_PEAK n t) (r 6) else s
      s.takePeak (CHANNEL_STATUS.V_PEAK n t) (r 7)) s
    ((s.setN (RECEIVED n 12) 0).lampFrame n).dischargeSeen n

/-- R27: the status of bank k is published. -/
def State.publishBank (s : State) (k : Nat) : State :=
  if s.nat (RECEIVED (512 + k) 12) = 0 then s
  else
    let r := fun f => s.get (RECEIVED (512 + k) f)
    let s := ((s.set (BANK.VBUS k) (r 0)).set (BANK.VBUS_INST k) (r 1)).set (BANK.PUMP_HEADROOM k) (r 2)
    s.setN (RECEIVED (512 + k) 12) 0

/-- R27, R221, R259: the means of the battery path are published, and the battery record takes the extremes of BSWB. -/
def State.publishSwitch (s : State) : State :=
  if s.nat (RECEIVED 544 12) = 0 then s
  else
    let v := s.get (RECEIVED 544 0)
    let s := ((s.set BATTERY_SWITCH.V_BATTERY v).set BATTERY_SWITCH.V_NETWORK (s.get (RECEIVED 544 1))).set
      ASSIST_STATUS.ASV (s.get (RECEIVED 544 2))
    let s := s.setN (RECEIVED 544 12) 0
    if v = notAvailable .i32 then s else s.battVoltExtremes v

/-- R27: what the control die received in the frame that ends is published. -/
def State.publishAll (s : State) : State :=
  (forBelow 32 (fun k s => s.publishBank k) (forBelow 512 (fun n s => s.publish n) s)).publishSwitch

end Sys2Proof.Machine
end

