-- ==== Sys2Proof/Machine/Frame.lean ====
section
/-!
DEFINITION. The frame boundary (R24, R26, R27): the end of a frame on the dies, what is published, what lands, what begins,
and what the services of the control die do once in each frame.
-/
namespace Sys2Proof.Machine

/-- R24: the boundary itself: the time is that of the boundary, and the next frame begins. -/
def State.nextFrame (s : State) : State :=
  let t := s.nextBoundary
  let s := forBelow 4 (fun d s => s.dieFrameEnds d) ({ s with time := t } : State)
  ({ s with frame := s.frame + 1 } : State).setN LAST_BOUNDARY t

/-- R26, R88, R101, R114, R133, R142, R150: what the channels do at a boundary after what has landed: temperatures are taken,
admitted ramps and those of SAFE_ON begin, and pairs are judged. -/
def State.channelsBegin (s : State) : State :=
  let s := (forBelow 512 (fun n s => (s.foldSettle n).gateSettles n) s).unitShadows
  let s := forBelow 512 (fun n s => (s.takeShuntTemp n).takeRefs n) s
  let s := s.admittedStarts
  let s := forBelow 32 (fun k s => if s.flag (LOGIC_OFF (k / 8)) then s else s.safeOnNext k) s
  forBelow 64 (fun p s => s.pairBoundary p) s

/-- R26, R142, R159, R167, R275, R370, R434: the services of the control die in the frame that begins, after the admission
runs. -/
def State.services (s : State) : State :=
  let s := forBelow 16 (fun g s => s.admissionRun g) s
  let s := ((s.endgameBoundary.planEvaluate 0).planEvaluate 1).profileBoundary
  let s := forBelow 128 (fun x s => s.tpdoBoundary x) s
  if s.flag HUNG then s else s.wdxServe

/-- R26, R38, R44: the control die's part of a boundary. -/
def State.controlBoundary (s : State) : State :=
  let s := s.startsBegin.publishAll.overridesEnd
  let s := s.landAll
  let s := (s.channelsBegin.convertersBoundary.chBoundary.asBoundary).estBoundary
  (s.services).setN RET_STAMP s.stamp

/-- R24, R26, R89: a frame boundary. The channel dies go on while the control die does not run; in Park a channel event of
the frame that ends may wake the device. -/
def State.frameBoundary (s : State) : State :=
  let from_ := s.stampAt (s.nat LAST_BOUNDARY)
  let s := s.nextFrame
  if s.live then s.controlBoundary
  else s.channelsBegin.channelWakes (s.dieMsgs.filter fun m => from_ < m.msg.stamp)

def execFrameBoundary (s : State) : Host.Outcome State Fault Refusal := .next s.frameBoundary

end Sys2Proof.Machine
end

