-- ==== Sys2Proof/Machine/Access.lean ====
section
/-!
DEFINITION. A write of a tenant, from the checks of R33 to its effect: staging (R34, R36, R174), class I values and actions
(R34, R503), what acts at its acceptance, and authenticated envelopes (R462 to R464).
-/
namespace Sys2Proof.Machine

/-! ### What arrives -/

/-- R34: whether an action is one that lands at a frame boundary; every other action acts at its acceptance. -/
def landsLater (addr : Nat) : Bool :=
  let idx := addr / 256
  idx < 0x2300 || (idx < 0x2310 && addr % 256 == 0x2A) || addr == PON_CONTROL.PON_COMMAND ||
    (0x2E00 ≤ idx && idx < 0x4000)

/-- R55, R57: whether an action that acts at its acceptance waits behind an open barrier of its tenant: every one but those that
act on barriers and commits (BARRIER_ID, COMMIT, DISCARD), a tenant reset, whose acceptance closes them (R80), the ANSWER of a
watchdog, which is judged as it is answered (R430), and the envelopes, whose inner write is judged by itself (R462). -/
def waitsBehind (addr : Nat) : Bool :=
  let idx := addr / 256
  !(0x2300 ≤ idx && idx < 0x2310) && idx != 0x2310 && idx != 0x2312 && !(0x2600 ≤ idx && idx < 0x2610 && addr % 256 == 4) &&
    addr != SESSION_CONTROL.AUTH_WRITE 0 && addr != SESSION_CONTROL.AUTH_READ_REQUEST 0

/-- R56: whether a write goes into the queue behind an open barrier: a class I value or an action. -/
def queuesAt (addr : Nat) : Bool :=
  match subAt addr with
  | none => false
  | some r => r.cls == .immediate || r.cls == .locked || (r.acc == .wo && (landsLater addr || waitsBehind addr))

/-- R56, R462: the address that decides whether a write waits: that of the inner write of an envelope. -/
def innerAddress (addr : Nat) (b : List Byte) : Nat :=
  if addr = SESSION_CONTROL.AUTH_WRITE 0 then envAddress b else addr

/-- R360: an access of tenant t has failed. -/
def State.accessFails (s : State) (t addr : Nat) (a : Abort) : State :=
  ((s.wrapCount (LAST_ACCESS.ABORT_COUNT t) 32).setN (LAST_ACCESS.LAST_ABORT t) a.code).setN
    (LAST_ACCESS.LAST_ABORT_ADDRESS t) addr

/-! ### Range checks of particular objects -/

/-- TRANSFER_ADDRESS: reserved bits clear, and a 7-bit address within 0x08 to 0x77. -/
def transferAddressBad (v : Nat) : Bool :=
  field v 10 5 != 0 || (!v.testBit 15 && (field v 7 3 != 0 || v % 128 < 0x08 || 0x77 < v % 128))

/-- R109: a CAPTURE_SIGNAL entry that is refused. -/
def captureSignalBad (v : Nat) : Bool :=
  v / 2 ^ 14 == 3 || field v 7 7 != 0 || (v / 2 ^ 14 == 2 && 7 < v % 128)

/-- R201: whether a VOUT_SET is not below the applied TRUNC_LEVEL - TRUNC_HYST of converter m. -/
def State.voutTooHigh (s : State) (m : Nat) (v : Int) : Bool :=
  s.get (CONVERTER.TRUNC_LEVEL m) - s.get (CONVERTER.TRUNC_HYST m) ≤ v

/-- R163: why a RESOLVE of plan p is refused. -/
def State.resolveCheck (s : State) (p v : Nat) : Option Abort :=
  refuseIf (1 < v / 256 || v % 256 == 0 || 128 < v % 256 || !s.planRuns p || s.stepState p (v % 256) != 5) .outOfRange

/-- R345: why a FENCE of tenant t is refused. -/
def State.fenceCheck (s : State) (t v : Nat) : Option Abort :=
  if v % 2 ^ 32 = 0 then some .tooLow
  else refuseIf (s.fenceOutside t (field v 48 16) (field v 32 16)) .tooHigh

/-- R443: why an RTC_SET is refused. -/
def rtcCheck (v : Nat) : Option Abort :=
  if 2 ^ 55 ≤ v then some .outOfRange else refuseIf (12622780800 ≤ v / 2 ^ 15) .tooHigh

/-- The range checks that the object tables do not say by a range alone. -/
def State.valueCheck (s : State) (t addr : Nat) (v : Int) (b : List Byte) : Option Abort :=
  let idx := addr / 256
  let sub := addr % 256
  let n := v.toNat
  if 0x2300 ≤ idx && idx < 0x2310 then refuseIf (sub == 1 && !endpointLegal n) .outOfRange
  else if addr = CONTROLLER_TRANSFER.TRANSFER_ADDRESS then refuseIf (transferAddressBad n) .outOfRange
  else if 0x3800 ≤ idx && idx < 0x3820 then refuseIf (0x0B ≤ sub && sub ≤ 0x12 && captureSignalBad n) .outOfRange
  else if idx = 0x2C01 then refuseIf (field n 3 13 != 0) .outOfRange
  else if 0x2D00 ≤ idx && idx < 0x2D04 then refuseIf (sub == 2 && s.voutTooHigh (idx - 0x2D00) v) .tooHigh
  else if 0x2A10 ≤ idx && idx < 0x2A30 then (if sub = 6 then s.tailCheck (idx - 0x2A10) n else none)
  else if idx = 0x3900 || idx = 0x3908 then
    (if sub = 4 then s.resolveCheck (if idx = 0x3900 then 0 else 1) n else none)
  else if idx = 0x2313 then s.fenceCheck t n
  else if addr = RTC.RTC_SET then rtcCheck n
  else if 0x2600 ≤ idx && idx < 0x2610 then (if sub = 1 then armCheck n else none)
  else refuseIf (addr == SESSION_CONTROL.SESSION_OPEN 0 && !onCurve b) .outOfRange

/-! ### "Present device state" -/

/-- R77: whether a house stop or a lockout refuses commands to an address. -/
def outrankedByStop (addr : Nat) : Bool :=
  let idx := addr / 256
  isChannelCommand addr || (0x3870 ≤ idx && idx < 0x38B0 && addr % 256 == 5) ||
    (0x2D00 ≤ idx && idx < 0x2D04 && addr % 256 == 1)

/-- The refusals of commands to channels, converters and streams. -/
def State.unitRefuses (s : State) (addr : Nat) (v : Int) : Bool :=
  let idx := addr / 256
  let sub := addr % 256
  if 0x3000 ≤ idx && idx < 0x3200 then
    if sub = 0x01 then (s.swapOf (idx - 0x3000)).any fun p => s.nat (CASTLING_PAIR.SWAP_STATE p) == 2
    else sub == 0x10 && !s.linkUp (dieOf (idx - 0x3000))
  else if 0x2D00 ≤ idx && idx < 0x2D04 then sub == 1 && v == 1 && s.conv (idx - 0x2D00) == CS.LATCHED
  else if 0x2A40 ≤ idx && idx < 0x2A60 then s.descBusy (32 * (idx - 0x2A40) + (sub - 1) / 4)
  else if addr = OPENING_PLAN.START then s.planRuns 0 || s.planRuns 1
  else if addr = ENDGAME_PLAN.START then s.planRuns 1
  else if addr = ASSIST_PORT.ASSIST_START then s.flag ASSIST_STATUS.ASSIST_STATE
  else if addr = SHIP_CONTROL.SHIP_ARM then v == 0xA5 && (s.rtcFlag TFLAG.LOW_BACKUP || s.rtcFlag TFLAG.VBK_LOW)
  else false

/-- The refusals of commands to the device core and of a tenant's own services. -/
def State.coreRefuses (s : State) (t addr : Nat) : Bool :=
  if addr = POWER_STATE.PARK then s.parkRefused
  else if addr = OPENING_STATUS.OPENING_RESUME then s.nat OPENING_STATUS.OPENING_STATE != 2
  else if addr = CONTROLLER_TRANSFER.TRANSFER_START then
    s.nat CONTROLLER_TRANSFER.TRANSFER_RESULT == 1 || s.twRole == 0
  else if addr = WATCHDOG.ARM t then s.flag SECURITY_STATUS.RANDOM_STATE
  else if addr = WATCHDOG.ADJOURN t then s.adjournRefused t
  else if addr = ATTEST_CONTROL.ATTEST_CHALLENGE 0 then s.nat (ATTEST_CONTROL.ATTEST_STATE t) == 1 || s.engineRefuses
  else if addr = SESSION_CONTROL.SESSION_OPEN 0 then s.nat (SESSION_CONTROL.SESSION_STATE t) == 1 || s.engineRefuses
  else false

/-- R33: the last check, "present device state": a reset of the tenant is pending (R80), its commit is in progress (R46),
or the device's state refuses the command. -/
def State.stateCheck (s : State) (t addr : Nat) (r : Sub) (v : Int) : Option Abort :=
  if s.resetPending t && !(0x2300 ≤ addr / 256 && addr / 256 < 0x2310 && addr % 256 == 5) then some .deviceState
  else if r.cls = .staged && s.committing t then some .deviceState
  else if s.flag STOP_RUNS && outrankedByStop addr then some .deviceState
  else refuseIf (s.unitRefuses addr v || s.coreRefuses t addr) .deviceState

/-! ### Effects -/

/-- R174: a write of v to a level-view subindex of channel n stages window fields, from the tenant's staged values where
there are some and the applied ones otherwise. -/
def State.writeLevelView (s : State) (t n sub : Nat) (v : Int) : Option Abort × State :=
  let c := s.control
  let cur := fun k => (lookupKey (s.stagedValues t) k).getD (c.get k)
  let base := (0x3600 + n) * 256
  match levelStage sub (cur (base + 2)) (cur (base + 3)) (cur (base + 4)) (cur (base + 5)) v with
  | .error false => (some .tooLow, s)
  | .error true => (some .tooHigh, s)
  | .ok l =>
    if l.any fun f => ((subAt (base + f.1)).bind fun r => r.rangeCheck f.2).isSome then (some .outOfRange, s)
    else
      let full := l.foldl (fun a f => (a.1 || a.2.stagingFull t (base + f.1), a.2.stage t (base + f.1) f.2)) (false, s)
      if full.1 then (some .stagingFull, s) else (none, full.2)

/-- R34: a class S value is staged. -/
def State.writeStaged (s : State) (t addr : Nat) (v : Int) : Option Abort × State :=
  let idx := addr / 256
  let sub := addr % 256
  if 0x3600 ≤ idx && idx < 0x3800 && 0x0C ≤ sub && sub ≤ 0x0F then s.writeLevelView t (idx - 0x3600) sub v
  else if s.stagingFull t addr then (some .stagingFull, s)
  else (none, s.stage t addr v)

/-- R34, R35: a class I value is accepted: it reads back at once, and takes effect at its boundary. -/
def State.writeImmediate (s : State) (t addr : Nat) (r : Sub) (v : Int) (b : List Byte) : State :=
  if r.ty.isString then (s.setBlob addr b).accept t (.bytes addr b)
  else (s.set addr v).accept t (.value addr v)

/-- R430: an ANSWER write: judged where the watchdog is in use, and refused as "present device state" where it is not. -/
def State.writeAnswer (s : State) (t token : Nat) : Option Abort × State :=
  if s.wdAnswers t then ((s.wdJudge t token).map (·.2), s.wdAnswer t token) else (some .deviceState, s)

/-- R278: OPENING_RESUME is accepted. Whether the stopped step then passes, the lanes that train and the straps read are free values that
travel above the value written. -/
def State.writeResume (s : State) (t : Nat) (v : Int) : State :=
  let f := s.takeFreeIn 0 (2 ^ 64 - 1)
  f.2.accept t (.action OPENING_STATUS.OPENING_RESUME (v + 256 * f.1))

/-- R34, R503: an action write that has passed its checks. -/
def State.writeAction (s : State) (t addr : Nat) (v : Int) (b : List Byte) : Option Abort × State :=
  if addr = OPENING_STATUS.OPENING_RESUME then (none, s.writeResume t v)
  else if landsLater addr then (none, s.accept t (.action addr v))
  else if addr = WATCHDOG.ANSWER t then s.writeAnswer t v.toNat
  else if (s.barrierEnd t).isSome && waitsBehind addr then (none, s.accept t (.service addr v b))
  else (none, s.actNow t addr v b)

/-- R33: a write of tenant t that has passed existence, access, size and range. -/
def State.writeChecked (s : State) (t addr : Nat) (r : Sub) (b : List Byte) : Option Abort × State :=
  let v := if r.ty.isString then 0 else r.ty.decode b
  match orElse (s.valueCheck t addr v b) (s.stateCheck t addr r v) with
  | some a => (some a, s)
  | none =>
    if r.acc = .wo then s.writeAction t addr v b
    else if r.cls = .staged then s.writeStaged t addr v
    else (none, s.writeImmediate t addr r v b)

/-! ### Reads -/

/-- A read of tenant t, or of an endpoint that carries none: its refusal, or the bytes and what the read changes. -/
def State.readAs (s : State) (t : Option Nat) (via : Via) (addr : Nat) : Except Abort (List Byte × State) :=
  match s.readCheck t via addr with
  | some a => .error a
  | none =>
    let u := t.getD 0
    .ok (s.readBytes u addr, s.afterRead u addr)

/-! ### Envelopes (R462 to R464) -/

/-- R462: what comes first of an envelope: its checks. -/
def State.envelopeOpen (s : State) (t : Nat) (b : List Byte) (sized : Bool) : Option Abort × State :=
  match s.envelopeFailure t b sized with
  | some c => (some .notPermitted, s.envelopeFails t c b)
  | none => (none, s.envelopePasses t b)

/-- R464: an AUTH_READ_REQUEST of tenant t. The failure of its read is recorded as one of that read. -/
def State.readEnvelope (s : State) (t : Nat) (b : List Byte) : Option Abort × State :=
  let len := envLength b
  match s.envelopeOpen t b (b.length == 17 && 1 ≤ len && len ≤ 1024) with
  | (some a, s) => (some a, s)
  | (none, s) =>
    let addr := envAddress b
    let s := match s.readAs (some t) .envelope addr with
      | .error a => (s.accessFails t addr a).readReply t b a.code []
      | .ok (v, s') => s'.readReply t b 0 (v.take len)
    (none, s.counterSpent t b)

/-- R462: an AUTH_WRITE of tenant t: its envelope is checked, and its inner write is then made by `inner`. -/
def State.writeEnvelope (inner : State → Option Abort × State) (s : State) (t : Nat) (b : List Byte) : Option Abort × State :=
  let len := envLength b
  match s.envelopeOpen t b (b.length == 17 + len && 1 ≤ len && len ≤ 1024) with
  | (some a, s) => (some a, s)
  | (none, s) =>
    let r := inner s
    (r.1, r.2.counterSpent t b)

/-- R33, R462: a write of tenant t; `inner` makes the inner write of an envelope. -/
def State.writeWith (inner : State → Option Abort × State) (s : State) (t : Nat) (via : Via) (addr : Nat) (b : List Byte) :
    Option Abort × State :=
  let s := if 0x2600 ≤ addr / 256 && addr / 256 < 0x2610 then s.wdDue t else s
  match s.writeCheck (some t) via addr b, subAt addr with
  | some a, _ => (some a, s)
  | none, none => (some .noSubindex, s)
  | none, some r =>
    if addr = SESSION_CONTROL.AUTH_WRITE 0 || addr = SESSION_CONTROL.AUTH_READ_REQUEST 0 then
      if s.resetPending t then (some .deviceState, s)
      else if addr = SESSION_CONTROL.AUTH_READ_REQUEST 0 then s.readEnvelope t b
      else s.writeEnvelope inner t b
    else s.writeChecked t addr r b

/-- R33, R462: a write of tenant t. The fuel bounds envelopes within envelopes. -/
def State.writeAs (fuel : Nat) (s : State) (t : Nat) (via : Via) (addr : Nat) (b : List Byte) : Option Abort × State :=
  match fuel with
  | 0 => s.writeWith (fun s => (some .notPermitted, s)) t via addr b
  | f + 1 => s.writeWith (fun s => State.writeAs f s t .envelope (envAddress b) (envValue b)) t via addr b

/-- R467: an accepted access of an address that moves b counts in the access load. -/
def State.countMoved (s : State) (addr : Nat) (b : List Byte) : State :=
  s.countAccess 1 (if ((subAt addr).map fun r => r.ty.isString).getD false then b.length else 0)

/-- R33, R360: a write by the tenant of an endpoint, if it carries an admitted one. A failed one is recorded in LAST_ACCESS. -/
def State.writeBy (s : State) (t : Option Nat) (via : Via) (addr : Nat) (b : List Byte) : Option Abort × State :=
  match t with
  | none => (s.writeCheck none via addr b, s)
  | some t =>
    match s.writeAs (b.length + 1) t via addr b with
    | (none, s) => (none, s.countMoved addr b)
    | (some a, s) => (some a, s.accessFails t addr a)

/-- R33, R360: a read by the tenant of an endpoint, if it carries an admitted one. -/
def State.readBy (s : State) (t : Option Nat) (via : Via) (addr : Nat) : Except Abort (List Byte) × State :=
  match s.readAs t via addr, t with
  | .ok r, _ => (.ok r.1, r.2.countMoved addr r.1)
  | .error a, some t => (.error a, s.accessFails t addr a)
  | .error a, none => (.error a, s)

end Sys2Proof.Machine
end

