-- ==== Sys2Proof/Machine/Ports.lean ====
section
/-!
DEFINITION. How an access comes out of each port and how it is answered (chapters 15 and 16): USDO (R366, R367), SPI and
two-wire frames (R383 to R386, R391 to R393), PCIe BAR0 and BAR2 (R377 to R380), and what waits behind a barrier (R56).
-/
namespace Sys2Proof.Machine

/-! ### Endpoints -/

/-- R366: whether tenant t answers USDO requests: its node is on the bus, Pre-operational or Operational. -/
def State.usdoServes (s : State) (t : Nat) : Bool :=
  (s.canPortOf t).any s.canOnBus && s.isNode t && (s.nat (NMT_STATE t) == 1 || s.nat (NMT_STATE t) == 2)

/-- R376: whether the link to the host of the PCIe endpoint is up. -/
def State.pcieUp (s : State) : Bool := s.pcieOn && s.nat PCIE_PORT.LINK_STATE == 2

/-- Whether an endpoint answers an access: the ports are ready (R268), the bring-up of TN00's endpoint has not failed (R278), and
the port itself takes part. -/
def State.endpointUp (s : State) (ep : Endpoint) : Bool :=
  s.portsReady && !(s.flag ARB_DOWN && s.attachedTo (endpointCode ep) == some 0) &&
    (match ep with
     | .can _ _ => (s.tenantAt ep).any s.usdoServes
     | .spi _ => true
     | .pcie _ => s.pcieUp
     | .twoWire a => s.twAnswers a)

/-- An access has arrived complete: CAN ports and SPI count what they have received. -/
def State.accessArrives (s : State) (ep : Endpoint) : State :=
  match ep with
  | .can p _ => s.wrapCount (CAN_PORT.RX_FRAMES p) 32
  | .spi _ => s.wrapCount SPI_PORT.FRAMES 32
  | .twoWire _ => s
  | .pcie _ => s

/-! ### Answers -/

/-- R385: a response: STATUS, the bytes after it, and the CRC over both. -/
def responseBytes (status : Nat) (b : List Byte) : List Byte :=
  let l := leBytes 1 status ++ b
  l ++ leBytes 2 (crc16 l)

/-- R385, R392: the response to a frame of an endpoint: SPI sends it, the two-wire endpoint holds it. -/
def State.respond (s : State) (ep : Endpoint) (status : Nat) (b : List Byte) : State :=
  match ep with
  | .spi _ => s.answer (.frame (responseBytes status b))
  | .twoWire _ => (s.setBlob (FRAME_RESP (endpointCode ep % 256)) (leBytes 1 status ++ b)).answer .silent
  | _ => s

/-- R385: a frame was wrong in its CRC, or the port is busy: the counter of the answer. -/
def State.frameError (s : State) (ep : Endpoint) (status : Nat) : State :=
  let s := match ep, status with
    | .spi _, 1 => s.count SPI_PORT.CRC_ERRORS 0xFFFFFFFF
    | .spi _, 2 => s.count SPI_PORT.BUSY_ANSWERS 0xFFFFFFFF
    | .twoWire _, 1 => s.count TWO_WIRE_STATUS.CRC_ERRORS 0xFFFFFFFF
    | .twoWire _, 2 => s.count TWO_WIRE_STATUS.BUSY_ANSWERS 0xFFFFFFFF
    | _, _ => s
  s.respond ep status []

/-- A USDO response leaves the port (R367). -/
def State.usdoAnswer (s : State) (p : CanPort) (r : Resp) : State := (s.wrapCount (CAN_PORT.TX_FRAMES p) 32).answer r

/-- R380: the outcome of a transfer of function f: 2 done or 3 failed, bytes moved, abort code. -/
def State.transferResult (s : State) (f st moved code : Nat) : State :=
  s.setN (PT_RESULT f) (st * 2 ^ 56 + moved * 2 ^ 32 + code)

/-- How a port carries the outcome of a write of n bytes (R33, R367, R378, R380, R385). A posted write has no answer. -/
def State.writeAnswered (s : State) (ep : Endpoint) (form : WriteForm) (n : Nat) (a : Option Abort) : State :=
  match ep, a with
  | .can p _, none => s.usdoAnswer p .done
  | .can p _, some a => s.usdoAnswer p (.abort a.code)
  | .pcie f, a =>
    let s := if form = .window then
        (match a with
         | none => s.transferResult f 2 n 0
         | some a => s.transferResult f 3 0 a.code)
      else s
    s.answer .silent
  | ep, none => s.respond ep 0 []
  | ep, some a => s.respond ep 3 (leBytes 4 a.code)

/-! ### Writes -/

/-- R377: whether a write reaches a string through its BAR0 slot, which no write of a slot fits. -/
def slotTooSmall (ep : Endpoint) (form : WriteForm) (addr : Nat) : Bool :=
  match ep, form with
  | .pcie _, .object => (subAt addr).any fun r => r.ty.isString
  | _, _ => false

/-- R378, R461: how the write of a form reaches the dictionary. -/
def WriteForm.via : WriteForm → Via
  | .bell => .doorbell
  | _ => .plain

/-- The tenant that owns RPDO x, which counts the 32 of CAN0 and then those of CAN1. -/
def State.rpdoOwner (s : State) (x : Nat) : Nat := s.pdoOwner (0x1400 + x)

/-- The addresses mapped into RPDO x with the bytes that data holds for each. -/
def splitMapping : List (Nat × Nat) → List Byte → List (Nat × List Byte)
  | [], _ => []
  | e :: l, b => (e.2 / 256, b.take (e.2 % 256 / 8)) :: splitMapping l (b.drop (e.2 % 256 / 8))

/-- R371: the first write of an RPDO that fails, taken after those before it, with its refusal. -/
def State.rpdoFailure (owner : Nat) : List (Nat × List Byte) → State → Option (Nat × List Byte × Abort)
  | [], _ => none
  | (a, b) :: l, s =>
    match s.writeAs 1 owner .plain a b with
    | (some e, _) => some (a, b, e)
    | (none, s) => State.rpdoFailure owner l s

/-- R371: the mapped values of RPDO x are written together, or not at all. A refused ANSWER is still judged (R430). -/
def State.rpdoWrite (s : State) (x : Nat) (data : List Byte) : State :=
  let owner := s.rpdoOwner x
  let l := splitMapping (s.mapping (RPDO_MAP.ENTRY x 0)) data
  match State.rpdoFailure owner l s with
  | none => (forEach l (fun w s => (s.writeAs 1 owner .plain w.1 w.2).2) s).countAccess l.length 0
  | some (a, b, e) =>
    let s := (s.writeAs 1 owner .plain a b).2.accessFails owner a e
    (s.count (CAN_PORT.PDO_ERRORS (x / 32)) 0xFFFF).raise .PDO_WRITE_REFUSED (siteCan (x / 32)) owner 0
      [f8 (x / 32 : Nat), f8 (x % 32 : Nat), f32 e.code]

/-- A write of a host that nothing holds back is carried out and answered. -/
def State.answerWrite (s : State) (h : HeldWrite) : State :=
  let t := s.tenantAt h.ep
  let r := if slotTooSmall h.ep h.form h.addr then
      (let a := ((subAt h.addr).bind fun r => s.accessCheck t .plain h.addr r.acc).getD .lengthMismatch
       (some a, match t with
         | some t => s.accessFails t h.addr a
         | none => s))
    else s.writeBy t h.form.via h.addr h.data
  r.2.writeAnswered h.ep h.form h.data.length r.1

/-- A write that nothing holds back is carried out. An RPDO has no answer. -/
def State.performWrite (s : State) (h : HeldWrite) : State :=
  if h.form = .rpdo then s.rpdoWrite h.addr h.data else s.answerWrite h

/-- R56: whether a write goes into the queue behind a barrier; an RPDO does where one of its mapped values does. -/
def State.queues (s : State) (h : HeldWrite) : Bool :=
  if h.form = .rpdo then (s.mapping (RPDO_MAP.ENTRY h.addr 0)).any fun e => queuesAt (e.2 / 256)
  else queuesAt (innerAddress h.addr h.data)

/-- R56: whether a write waits: the queue behind its tenant's open barrier is full. -/
def State.mustWait (s : State) (h : HeldWrite) : Bool :=
  match s.tenantAt h.ep with
  | none => false
  | some t => s.queues h && s.barrierFull t

/-- Whether a write waits, or comes after one of its endpoint that does (R56). -/
def State.waits (s : State) (h : HeldWrite) : Bool := s.mustWait h || s.heldWrites.any fun x => x.ep == h.ep

/-- R56, R360: a write waits, or comes after one of its endpoint that does: SPI answers busy, the other ports hold it back. -/
def State.holdBack (s : State) (h : HeldWrite) : State :=
  match h.ep with
  | .spi _ => s.frameError h.ep 2
  | .pcie f =>
    let s := if h.form = .window then s.transferResult f 1 0 0 else s
    ({ s with heldWrites := s.heldWrites ++ [h] } : State).answer .heldBack
  | _ => ({ s with heldWrites := s.heldWrites ++ [h] } : State).answer .heldBack

/-- R360: a write that a port has taken complete: it is carried out, or held back. -/
def State.takeWrite (s : State) (h : HeldWrite) : State :=
  if s.waits h then s.holdBack h else s.performWrite h

/-- R367: a request during a USDO session of tenant t is aborted. -/
def State.usdoSecond (s : State) (p : CanPort) (t addr : Nat) : State :=
  (s.accessFails t addr .deviceState).usdoAnswer p (.abort 0x08000022)

/-- Whether the USDO session of an endpoint's tenant is in progress, and whose it is. -/
def State.inSession (s : State) (ep : Endpoint) : Option Nat :=
  match ep with
  | .can _ _ => (s.tenantAt ep).bind fun t => if s.flag (USDO_OPEN t) then some t else none
  | _ => none

/-- R384: whether a frame's LEN lies outside what a write takes. -/
def frameLengthBad (ep : Endpoint) (n : Nat) : Bool :=
  match ep with
  | .spi _ | .twoWire _ => n == 0 || 4096 < n
  | _ => false

/-- R6, R377: a write request to BAR0 from the slot of object addr: one access for the object of each slot of eight bytes that it
reaches, in ascending order, as far as the window goes. One above 64 bytes is an Unsupported Request. -/
def State.windowWrite (s : State) (f : Func) (addr : Nat) (data : List Byte) : State :=
  if 64 < data.length then s.answer .silent
  else forBelow (max 1 ((data.length + 7) / 8)) (fun i s =>
    match windowObject (windowOffset addr + 8 * i) with
    | some o => s.takeWrite ⟨.pcie f, .object, o, slice data (8 * i) 8⟩
    | none => s) s

/-- R33, R360: a host writes an object through an endpoint. -/
def State.hostWrite (s : State) (ep : Endpoint) (form : WriteForm) (addr : Nat) (data : List Byte) : State :=
  if !s.endpointUp ep then s.answer .silent
  else
    let s := s.accessArrives ep
    match ep, s.inSession ep with
    | .can p _, some t => s.usdoSecond p t addr
    | .pcie f, _ => if form = .object then s.windowWrite f addr data else s.takeWrite ⟨ep, form, addr, data⟩
    | ep, _ => if frameLengthBad ep data.length then s.respond ep 4 [] else s.takeWrite ⟨ep, form, addr, data⟩

/-- A numeric value is written in the size of its type. -/
def State.hostWriteInt (s : State) (ep : Endpoint) (addr : Nat) (v : Int) : State :=
  s.hostWrite ep .object addr ((subAt addr).map fun r => r.ty.encode v).toList.flatten

/-! ### Barriers close (R55, R56) -/

/-- The held writes in order, each carried out until one still has to wait. -/
def releaseWrites : List HeldWrite → State → State
  | [], s => s
  | h :: l, s => if s.mustWait h then s else releaseWrites l (({ s with heldWrites := s.heldWrites.erase h } : State).performWrite h)

/-- R55, R56: a barrier of tenant t closes and what was held back behind it goes on. -/
def State.barrierDone (s : State) (t : Nat) : State :=
  let s := s.barrierClose t
  releaseWrites (s.heldWrites.filter fun h => s.tenantAt h.ep == some t) s

/-! ### Reads -/

/-- R377: what a BAR0 slot reads: the value, or the length of a string, in eight bytes. -/
def slotBytes (addr : Nat) (b : List Byte) : List Byte :=
  if (subAt addr).any fun r => r.ty.isString then padTo 8 (leBytes 4 b.length) else padTo 8 b

/-- R377, R378: a read of a BAR0 slot by the tenant of function f. It never pops a ring. -/
def State.slotRead (s : State) (f : Func) (addr : Nat) : State :=
  let t := s.tenantAt (.pcie f)
  if ((subAt addr).any fun r => r.ty.isString) && (s.readCheck t .plain addr).isNone then
    (s.countAccess 1 0).answer (.data (slotBytes addr (s.readBytes (t.getD 0) addr)))
  else
    match s.readBy t .plain addr with
    | (.ok b, s) => s.answer (.data (slotBytes addr b))
    | (.error _, s) => s.answer (.data (List.replicate 8 0xFF))

/-- R384: the bytes of a read from offset `off`, of which `len` are wanted: those of a fixed-size object whole. -/
def readCut (addr off len : Nat) (b : List Byte) : List Byte :=
  if (subAt addr).any fun r => r.ty.isString then (b.drop off).take len else b.drop off

/-- R384, R385: a read by a frame of an endpoint. -/
def State.frameRead (s : State) (ep : Endpoint) (addr off len : Nat) : State :=
  match s.readBy (s.tenantAt ep) .plain addr with
  | (.ok b, s) =>
    let v := readCut addr off len b
    s.respond ep 0 (leBytes 2 v.length ++ v)
  | (.error a, s) => s.respond ep 3 (leBytes 4 a.code)

/-- R367: a USDO upload. -/
def State.usdoRead (s : State) (p : CanPort) (t addr : Nat) : State :=
  match s.readBy (some t) .plain addr with
  | (.ok b, s) => s.usdoAnswer p (.data b)
  | (.error a, s) => s.usdoAnswer p (.abort a.code)

/-- A host reads an object through an endpoint. -/
def State.hostRead (s : State) (ep : Endpoint) (addr : Nat) : State :=
  if !s.endpointUp ep then s.answer .silent
  else
    let s := s.accessArrives ep
    match ep, s.inSession ep with
    | .can p _, some t => s.usdoSecond p t addr
    | .can p _, none => s.usdoRead p ((s.tenantAt ep).getD 0) addr
    | .pcie f, _ => s.slotRead f addr
    | ep, _ => s.frameRead ep addr 0 1024

/-! ### Frames of SPI and two-wire (R384 to R386, R391, R392) -/

/-- Whether an endpoint is one of SPI or two-wire, and answers. -/
def State.frameUp (s : State) (ep : Endpoint) : Bool :=
  match ep with
  | .spi _ | .twoWire _ => s.endpointUp ep
  | _ => false

/-- R384: the request of a frame: CMD, ADDR, LEN and what follows them. -/
def requestBytes (cmd addr len : Nat) (more : List Byte) : List Byte :=
  leBytes 1 cmd ++ leBytes 3 addr ++ leBytes 2 len ++ more

/-- R385: a complete request: its CRC and its LEN are checked, then it is carried out. -/
def State.requestFrame (s : State) (ep : Endpoint) (cmd addr len : Nat) (more : List Byte) (crc : Nat) (badLen : Bool)
    (act : State → State) : State :=
  if !s.frameUp ep then s.answer .silent
  else
    let s := s.accessArrives ep
    if crc16 (requestBytes cmd addr len more) != crc then s.frameError ep 1
    else if badLen then s.respond ep 4 []
    else act s

/-- R384: LOAD: the data is copied into the endpoint's transfer buffer. -/
def State.frameLoad (s : State) (ep : Endpoint) (off : Nat) (data : List Byte) : State :=
  let k := FRAME_BUF (endpointCode ep)
  let old := padTo 4096 (s.blob k)
  (s.setBlob k (old.take off ++ data ++ old.drop (off + data.length))).respond ep 0 []

/-- R384: WRITE_BUFFER: the value is that of the transfer buffer from its start. -/
def State.frameBuffer (s : State) (ep : Endpoint) (addr len : Nat) : State :=
  s.takeWrite ⟨ep, .object, addr, (padTo 4096 (s.blob (FRAME_BUF (endpointCode ep)))).take len⟩

/-- R386, R391: a request cut off before its CRC is complete. -/
def State.frameBroken (s : State) (ep : Endpoint) : State :=
  if !s.frameUp ep then s
  else
    match ep with
    | .spi _ => s.count SPI_PORT.BROKEN_FRAMES 0xFFFFFFFF
    | _ => s.count TWO_WIRE_STATUS.BROKEN_FRAMES 0xFFFFFFFF

/-- R383: two or more chip selects are low together. -/
def State.spiConflict (s : State) : State := if s.portsReady then s.count SPI_PORT.CS_CONFLICTS 0xFFFF else s

/-- R392: a read transaction of two-wire address a fetches the response that the endpoint holds. -/
def State.responseFetch (s : State) (a : Nat) : State :=
  if !s.endpointUp (.twoWire a) then s.answer .silent
  else
    match s.blob (FRAME_RESP (a % 256)) with
    | [] => s.answer (.frame (responseBytes 5 []))
    | st :: b => (s.setBlob (FRAME_RESP (a % 256)) []).answer (.frame (responseBytes st.toNat b))

/-! ### USDO (R366, R367) -/

/-- A USDO access of tenant t whose request is complete: the value is written, or the object read. -/
def State.usdoAccess (s : State) (p : CanPort) (t : Nat) (write : Bool) (addr : Nat) (data : List Byte) : State :=
  if write then s.takeWrite ⟨.can p (s.nodeId t), .object, addr, data⟩ else s.usdoRead p t addr

/-- R367: a session of tenant t begins. -/
def State.usdoOpens (s : State) (t : Nat) (write : Bool) (addr : Nat) : State :=
  ((s.setN (USDO_OPEN t) (addr + 1)).setN (USDO_AT t) s.time).setFlag (USDO_WRITES t) write

/-- R367: a request that begins a transfer: complete in one, or the first of a session. A read is served at its first request,
and its session lasts until the host has fetched the last segment; a refused one begins none. -/
def State.usdoBegin (s : State) (p : CanPort) (t : Nat) (write last : Bool) (addr : Nat) (data : List Byte) : State :=
  if last then s.usdoAccess p t write addr data
  else
    if write then ((s.usdoOpens t true addr).setBlob (USDO_DATA t) data).usdoAnswer p .done
    else
      match s.readBy (some t) .plain addr with
      | (.ok b, s) => (s.usdoOpens t false addr).usdoAnswer p (.data b)
      | (.error a, s) => s.usdoAnswer p (.abort a.code)

/-- R367: a further request of the session in progress. -/
def State.usdoGoesOn (s : State) (p : CanPort) (t : Nat) (last : Bool) (data : List Byte) : State :=
  let addr := s.nat (USDO_OPEN t) - 1
  let write := s.flag (USDO_WRITES t)
  let all := s.blob (USDO_DATA t) ++ data
  if last then
    let s := s.usdoClose t
    if write then s.usdoAccess p t true addr all else s.usdoAnswer p .done
  else ((s.setN (USDO_AT t) s.time).setBlob (USDO_DATA t) (if write then all else [])).usdoAnswer p .done

/-- R367: a USDO request to the node of tenant t. A segment with no session is aborted as a wrong command (PRESUMED, CiA 1301). -/
def State.usdoRequest (s : State) (t : Nat) (begins write last : Bool) (addr : Nat) (data : List Byte) : State :=
  match (s.canPortOf t).bind fun p => if h : p < 2 then some (⟨p, h⟩ : CanPort) else none with
  | none => s.answer .silent
  | some p =>
    if !s.endpointUp (.can p (s.nodeId t)) then s.answer .silent
    else
      let s := s.accessArrives (.can p (s.nodeId t))
      if begins then (if s.flag (USDO_OPEN t) then s.usdoSecond p t addr else s.usdoBegin p t write last addr data)
      else if s.flag (USDO_OPEN t) then s.usdoGoesOn p t last data
      else s.usdoAnswer p (.abort 0x05040001)

/-! ### Receive PDOs and SYNC (R371, R372) -/

/-- R366, R368: whether RPDO x is received. -/
def State.rpdoActive (s : State) (x : Nat) : Bool :=
  s.canOnBus (x / 32) && s.pdoValid (x / 32) (s.rpdoOwner x) (RPDO_COMM.COB_ID x) && s.nat (NMT_STATE (s.rpdoOwner x)) == 2

/-- R56, R371: RPDO x with its data is written, or waits behind its owner's barrier. -/
def State.rpdoTake (s : State) (x : Nat) (data : List Byte) : State :=
  let h : HeldWrite := ⟨.can ⟨x / 32 % 2, Nat.mod_lt _ (by decide)⟩ (s.nodeId (s.rpdoOwner x)), .rpdo, x, data⟩
  if s.waits h then { s with heldWrites := s.heldWrites ++ [h] } else s.performWrite h

/-- R371: RPDO x arrives with its data. -/
def State.rpdoReceived (s : State) (x : Nat) (data : List Byte) : State :=
  if !s.rpdoActive x then s
  else
    let p := x / 32
    let s := s.wrapCount (CAN_PORT.RX_FRAMES p) 32
    let need := (((s.mapping (RPDO_MAP.ENTRY x 0)).map fun e => e.2 % 256).sum + 7) / 8
    if data.length < need then
      (s.count (CAN_PORT.PDO_ERRORS p) 0xFFFF).raise .PDO_LENGTH_ERROR (siteCan p) (s.rpdoOwner x) 0
        [f8 p, f8 (x % 32 : Nat), f16 data.length]
    else if 254 ≤ s.nat (RPDO_COMM.TRANSMISSION_TYPE x) then s.rpdoTake x data
    else (s.setBlob (RPDO_HELD x) data).setN (RPDO_HAS x) 1

/-- R371: at a SYNC the last synchronous RPDO x received is written. -/
def State.rpdoSync (s : State) (x : Nat) : State :=
  if s.flag (RPDO_HAS x) && s.rpdoActive x then
    let data := s.blob (RPDO_HELD x)
    ((s.setN (RPDO_HAS x) 0).setBlob (RPDO_HELD x) []).rpdoTake x data
  else s

/-- R52, R370 to R372: a SYNC arrives complete on port p, with its counter if it carries one. -/
def State.syncReceived (s : State) (p : Nat) (counter : Option Nat) : State :=
  if s.canOnBus p then
    let s := (s.wrapCount (CAN_PORT.RX_FRAMES p) 32).syncSeen p counter
    let s := forBelow 64 (fun i s => s.tpdoSync (64 * p + i) counter) s
    forBelow 32 (fun i s => s.rpdoSync (32 * p + i)) s
  else s

/-! ### The BAR2 of a PCIe function (R378 to R380) -/

/-- A buffer of n bytes with bytes put at its start. -/
def putAtStart (n : Nat) (old b : List Byte) : List Byte := (b ++ (padTo n old).drop b.length).take n

/-- R360, R380: a transfer of function f at an address is refused: recorded for its tenant. -/
def State.transferFails (s : State) (f : Func) (addr : Nat) (a : Abort) : State :=
  match s.tenantAt (.pcie f) with
  | some t => s.accessFails t addr a
  | none => s

/-- R380: what a TRANSFER_REQUEST meets first: the state 1 refuses it, and so does a LENGTH outside 1 to 4,096. -/
def State.transfer (s : State) (f : Func) (addr off len : Nat) (act : State → State) : State :=
  if !s.endpointUp (.pcie f) then s.answer .silent
  else
    if s.nat (PT_RESULT f) / 2 ^ 56 = 1 then (s.transferFails f addr .deviceState).answer .silent
    else
      let s := s.setN (PT_ADDR f) (addr % 2 ^ 24 + off % 2 ^ 32 * 2 ^ 32)
      if len = 0 || 4096 < len then ((s.transferFails f addr .outOfRange).transferResult f 3 0 Abort.outOfRange.code).answer .silent
      else act s

/-- R380: a transfer read: bytes from the offset onward go into the transfer buffer. -/
def State.transferRead (s : State) (f : Func) (addr off len : Nat) : State :=
  s.transfer f addr off len fun s =>
    match s.readBy (s.tenantAt (.pcie f)) .plain addr with
    | (.ok b, s) =>
      let v := (b.drop off).take len
      ((s.setBlob (PT_BUF f) (putAtStart 4096 (s.blob (PT_BUF f)) v)).transferResult f 2 v.length 0).answer .silent
    | (.error a, s) => (s.transferResult f 3 0 a.code).answer .silent

/-- R380: a transfer write: the host has put data into the buffer, and len bytes of it are the value. -/
def State.transferWrite (s : State) (f : Func) (addr len : Nat) (data : List Byte) : State :=
  let s := if s.endpointUp (.pcie f) then s.setBlob (PT_BUF f) (putAtStart 4096 (s.blob (PT_BUF f)) data) else s
  s.transfer f addr 0 len fun s => s.takeWrite ⟨.pcie f, .window, addr, (padTo 4096 (s.blob (PT_BUF f))).take len⟩

/-- R379: a write of k to the ring head of the i-th ring of the range of the tenant of function f. -/
def State.ringHeadPop (s : State) (f : Func) (i k : Nat) : State :=
  if !s.endpointUp (.pcie f) || 2048 ≤ i then s
  else
    match s.tenantAt (.pcie f) with
    | none => s
    | some t =>
      match (s.rangeOf t)[i]? with
      | none => s
      | some q =>
        let addr := RING.RECORDS q
        if !s.mayPop t q then s.accessFails t addr .notPermitted
        else if k = 0 then s.accessFails t addr .tooLow
        else if 32 < k then s.accessFails t addr .tooHigh
        else
          let l := s.popped q k
          let b := l.flatMap Record.bytes
          let seq := s.takeFreeIn 0 0xFFFFFFFF
          let s := if l = [] then seq.2 else s
          let first := (l.head?.map (·.seq)).getD seq.1.toNat
          let s := (s.afterPop q k).countAccess 1 b.length
          (s.setBlob (POP_BUF f) (putAtStart 1024 (s.blob (POP_BUF f)) b)).setN (POP_RESULT f)
            (q + l.length * 2 ^ 16 + first * 2 ^ 32)

/-- R379: a ring head: COUNT, and SEQUENCE above it. -/
def State.ringHead (s : State) (q : Nat) : Nat := s.ringCount q + s.nat (RING.SEQUENCE q) * 2 ^ 16

/-- R378, R379: what function f reads in the eight bytes of BAR2 at an offset, a multiple of 8; nothing is changed by it. Of the
MSI-X table only the mask of each vector is the block's (log entry 77). -/
def State.bar2Read (s : State) (f : Func) (off : Nat) : Nat :=
  let t := s.tenantAt (.pcie f)
  let of (key : Nat → Nat) : Nat := (t.map fun t => s.nat (key t)).getD 0
  if off = 0 then of LAST_ACCESS.ABORT_COUNT + of LAST_ACCESS.LAST_ABORT * 2 ^ 32
  else if off = 8 then of LAST_ACCESS.LAST_ABORT_ADDRESS
  else if off = 0x20 then s.nat (PT_ADDR f)
  else if off = 0x30 then s.nat (PT_RESULT f)
  else if 0x1000 ≤ off && off < 0x2000 then ofLE (slice (padTo 4096 (s.blob (PT_BUF f))) (off - 0x1000) 8)
  else if 0x3000 ≤ off && off < 0x3060 then s.tgHead (16 + 12 * f + (off - 0x3000) / 8)
  else if 0x4000 ≤ off && off < 0x8000 then
    (((t.map s.rangeOf).getD [])[(off - 0x4000) / 8]?.map s.ringHead).getD 0
  else if 0x8000 ≤ off && off < 0x8400 then ofLE (slice (padTo 1024 (s.blob (POP_BUF f))) (off - 0x8000) 8)
  else if off = 0x8400 then s.nat (POP_RESULT f)
  else if 0xA000 ≤ off && off < 0xA0C0 && off % 16 = 8 then
    bitOf (!s.flag (MSIX_OPEN (16 + 12 * f + (off - 0xA000) / 16))) * 2 ^ 32
  else if off = 0xB000 then maskBelow 12 fun v => s.flag (MSIX_HELD (16 + 12 * f + v))
  else 0

end Sys2Proof.Machine
end

