-- ==== Sys2Proof/Machine/HostRows.lean ====
section
/-!
DEFINITION. The rows that are one write, or one read, of a host: which object each writes and with what value. Everything else is in
Access.lean and Ports.lean: an endpoint that does not answer, and a write that is refused, are the same for every row.
-/
namespace Sys2Proof.Machine

/-! ### Objects, commits and barriers -/

/-- OBJECT_WRITE. R33: a write of an object that has no row of its own. -/
def execObjectWrite (ep : Endpoint) (addr : Nat) (data : List Byte) (s : State) : Host.Outcome State Fault Refusal :=
  .next (s.hostWrite ep .object addr data)

/-- LEVEL_VIEW_WRITE. R174: a write of the level view: LV_UV_WARN, LV_UV_FAULT, LV_OV_WARN or LV_OV_FAULT. -/
def execLevelViewWrite (ep : Endpoint) (n : Chan) (sub : Fin 4) (v : Int) (s : State) : Host.Outcome State Fault Refusal :=
  .next (s.hostWriteInt ep (CHANNEL_SUPERVISION.UV_LEVEL n + 10 + sub.val) v)

/-- COMMIT. R39, R40: a COMMIT write. -/
def execCommit (ep : Endpoint) (v : Nat) (s : State) : Host.Outcome State Fault Refusal :=
  .next (s.hostWriteInt ep (COMMIT_CONTROL.COMMIT 0) v)

/-- DISCARD. R47: DISCARD := 0xA5. -/
def execDiscard (ep : Endpoint) (s : State) : Host.Outcome State Fault Refusal :=
  .next (s.hostWriteInt ep (COMMIT_CONTROL.DISCARD 0) 0xA5)

/-- SYNC_RECEIVED. R52, R372: a SYNC arrives complete. -/
def execSyncReceived (p : CanPort) (counter : Option Nat) (s : State) : Host.Outcome State Fault Refusal :=
  .next (s.syncReceived p counter)

/-- BARRIER_ID. R55: a BARRIER_ID write. -/
def execBarrierId (ep : Endpoint) (v : Nat) (s : State) : Host.Outcome State Fault Refusal :=
  .next (s.hostWriteInt ep (BARRIER.BARRIER_ID 0) v)

/-- BARRIER_DONE. R55, R56: a barrier closes once every earlier write has taken effect. -/
def execBarrierDone (t : Tenant) (s : State) : Host.Outcome State Fault Refusal :=
  .next (s.barrierDone t)

/-- TENANT_RESET. R80: TENANT_RESET := 0xA5. -/
def execTenantReset (ep : Endpoint) (t : Tenant) (s : State) : Host.Outcome State Fault Refusal :=
  .next (s.hostWriteInt ep (TENANT.TENANT_RESET t) 0xA5)

/-- TRUMP_RELEASE. R76: a TRUMP_RELEASE write. -/
def execTrumpRelease (ep : Endpoint) (t : Tenant) (n : Nat) (s : State) : Host.Outcome State Fault Refusal :=
  .next (s.hostWriteInt ep (TENANT.TRUMP_RELEASE t) n)

/-! ### Channels -/

/-- REQUEST_OFF. R95: REQUEST := 0. -/
def execRequestOff (ep : Endpoint) (n : Chan) (s : State) : Host.Outcome State Fault Refusal :=
  .next (s.hostWriteInt ep (CHANNEL_CONFIG.REQUEST n) 0)

/-- REQUEST_ON. R95: REQUEST := 1. -/
def execRequestOn (ep : Endpoint) (n : Chan) (s : State) : Host.Outcome State Fault Refusal :=
  .next (s.hostWriteInt ep (CHANNEL_CONFIG.REQUEST n) 1)

/-- REQUEST_PWM. R95: REQUEST := 2. -/
def execRequestPwm (ep : Endpoint) (n : Chan) (s : State) : Host.Outcome State Fault Refusal :=
  .next (s.hostWriteInt ep (CHANNEL_CONFIG.REQUEST n) 2)

/-- CLEAR_LOCKOUT. R96: CLEAR_LOCKOUT := 0xA5. -/
def execClearLockout (ep : Endpoint) (n : Chan) (s : State) : Host.Outcome State Fault Refusal :=
  .next (s.hostWriteInt ep (CHANNEL_CONFIG.CLEAR_LOCKOUT n) 0xA5)

/-- RELEASE_STANDING. R96, R117: RELEASE_STANDING := 0xA5. -/
def execReleaseStanding (ep : Endpoint) (n : Chan) (s : State) : Host.Outcome State Fault Refusal :=
  .next (s.hostWriteInt ep (CHANNEL_CONFIG.RELEASE_STANDING n) 0xA5)

/-- CAPTURE_ARM. R110: CAPTURE_ARM := 0xA5. -/
def execCaptureArm (ep : Endpoint) (d : Die) (s : State) : Host.Outcome State Fault Refusal :=
  .next (s.hostWriteInt ep (BANK.CAPTURE_ARM (8 * d.val)) 0xA5)

/-- SWAP_REQUEST. R151: a SWAP_REQUEST write. -/
def execSwapRequest (ep : Endpoint) (p : Pair) (b : Bool) (s : State) : Host.Outcome State Fault Refusal :=
  .next (s.hostWriteInt ep (CASTLING_PAIR.SWAP_REQUEST p) (bitOf b))

/-! ### Plans, reset outputs and counters -/

/-- PLAN_START. R165: START := 0xA5 of the Opening or the Endgame plan. -/
def execPlanStart (ep : Endpoint) (p : Fin 2) (s : State) : Host.Outcome State Fault Refusal :=
  .next (s.hostWriteInt ep (ofPlan p OPENING_PLAN.START) 0xA5)

/-- PLAN_ABORT. R166: ABORT := 0xA5. -/
def execPlanAbort (ep : Endpoint) (p : Fin 2) (s : State) : Host.Outcome State Fault Refusal :=
  .next (s.hostWriteInt ep (ofPlan p OPENING_PLAN.ABORT) 0xA5)

/-- RESOLVE_SKIP. R163: RESOLVE with operation 0. -/
def execResolveSkip (ep : Endpoint) (p : Fin 2) (i : Nat) (s : State) : Host.Outcome State Fault Refusal :=
  .next (s.hostWriteInt ep (ofPlan p OPENING_PLAN.RESOLVE) (i % 256 : Nat))

/-- RESOLVE_RETRY. R163: RESOLVE with operation 1. -/
def execResolveRetry (ep : Endpoint) (p : Fin 2) (i : Nat) (s : State) : Host.Outcome State Fault Refusal :=
  .next (s.hostWriteInt ep (ofPlan p OPENING_PLAN.RESOLVE) (256 + i % 256 : Nat))

/-- RSO_FORCE_ASSERT. R177: FORCE := 1. -/
def execRsoForceAssert (ep : Endpoint) (r : Rso) (s : State) : Host.Outcome State Fault Refusal :=
  .next (s.hostWriteInt ep (RESET_OUTPUT.FORCE r) 1)

/-- RSO_FORCE_RELEASE. R177: FORCE := 0. -/
def execRsoForceRelease (ep : Endpoint) (r : Rso) (s : State) : Host.Outcome State Fault Refusal :=
  .next (s.hostWriteInt ep (RESET_OUTPUT.FORCE r) 0)

/-- COUNTER_CLEAR. R179: COUNTER_CLEAR := 0xA5. -/
def execCounterClear (ep : Endpoint) (n : Chan) (s : State) : Host.Outcome State Fault Refusal :=
  .next (s.hostWriteInt ep (CHANNEL_SUPERVISION.COUNTER_CLEAR n) 0xA5)

/-! ### Converters and the battery path -/

/-- ENABLE_ON. R199: ENABLE := 1. -/
def execEnableOn (ep : Endpoint) (m : Conv) (s : State) : Host.Outcome State Fault Refusal :=
  .next (s.hostWriteInt ep (CONVERTER.ENABLE m) 1)

/-- ENABLE_OFF. R202: ENABLE := 0. -/
def execEnableOff (ep : Endpoint) (m : Conv) (s : State) : Host.Outcome State Fault Refusal :=
  .next (s.hostWriteInt ep (CONVERTER.ENABLE m) 0)

/-- SWITCH_MODE_OPEN. R223: MODE of the battery switch := 0. -/
def execSwitchModeOpen (ep : Endpoint) (s : State) : Host.Outcome State Fault Refusal :=
  .next (s.hostWriteInt ep (BATTERY_SWITCH.MODE) 0)

/-- SWITCH_MODE_IDEAL_DIODE. R223: MODE of the battery switch := 1. -/
def execSwitchModeIdealDiode (ep : Endpoint) (s : State) : Host.Outcome State Fault Refusal :=
  .next (s.hostWriteInt ep (BATTERY_SWITCH.MODE) 1)

/-- SWITCH_MODE_CLOSED. R223: MODE of the battery switch := 2. -/
def execSwitchModeClosed (ep : Endpoint) (s : State) : Host.Outcome State Fault Refusal :=
  .next (s.hostWriteInt ep (BATTERY_SWITCH.MODE) 2)

/-- CHARGE_ENABLE_ON. R227: CHARGE_ENABLE := 1. -/
def execChargeEnableOn (ep : Endpoint) (s : State) : Host.Outcome State Fault Refusal :=
  .next (s.hostWriteInt ep (CHARGER.CHARGE_ENABLE) 1)

/-- CHARGE_ENABLE_OFF. R227: CHARGE_ENABLE := 0. -/
def execChargeEnableOff (ep : Endpoint) (s : State) : Host.Outcome State Fault Refusal :=
  .next (s.hostWriteInt ep (CHARGER.CHARGE_ENABLE) 0)

/-- SHIP_ARM. R237: SHIP_ARM := 0xA5. -/
def execShipArm (ep : Endpoint) (s : State) : Host.Outcome State Fault Refusal :=
  .next (s.hostWriteInt ep (SHIP_CONTROL.SHIP_ARM) 0xA5)

/-- SHIP_CANCEL. R237: SHIP_ARM := 0x5A. -/
def execShipCancel (ep : Endpoint) (s : State) : Host.Outcome State Fault Refusal :=
  .next (s.hostWriteInt ep (SHIP_CONTROL.SHIP_ARM) 0x5A)

/-- ASSIST_START. R239: ASSIST_START := 0xA5. -/
def execAssistStart (ep : Endpoint) (s : State) : Host.Outcome State Fault Refusal :=
  .next (s.hostWriteInt ep (ASSIST_PORT.ASSIST_START) 0xA5)

/-- ASSIST_STOP. R241: ASSIST_STOP := 0xA5. -/
def execAssistStop (ep : Endpoint) (s : State) : Host.Outcome State Fault Refusal :=
  .next (s.hostWriteInt ep (ASSIST_PORT.ASSIST_STOP) 0xA5)

/-- BATTERY_REPLACED. R261: BATTERY_REPLACED := 0xA5. -/
def execBatteryReplaced (ep : Endpoint) (s : State) : Host.Outcome State Fault Refusal :=
  .next (s.hostWriteInt ep (BATTERY_RECORD.BATTERY_REPLACED) 0xA5)

/-! ### Resets, opening and power -/

/-- DEVICE_RESET_CONTROL_DIE. R263: DEVICE_RESET := 0xA5. -/
def execDeviceResetControlDie (ep : Endpoint) (s : State) : Host.Outcome State Fault Refusal :=
  .next (s.hostWriteInt ep (RESET_CONTROL.DEVICE_RESET) 0xA5)

/-- DEVICE_RESET_FULL. R263: DEVICE_RESET := 0x5A. -/
def execDeviceResetFull (ep : Endpoint) (s : State) : Host.Outcome State Fault Refusal :=
  .next (s.hostWriteInt ep (RESET_CONTROL.DEVICE_RESET) 0x5A)

/-- OPENING_RESUME. R278: OPENING_RESUME := 0xA5. -/
def execOpeningResume (ep : Endpoint) (s : State) : Host.Outcome State Fault Refusal :=
  .next (s.hostWriteInt ep (OPENING_STATUS.OPENING_RESUME) 0xA5)

/-- JOURNAL_ACK. R277: JOURNAL_ACK := 0xA5. -/
def execJournalAck (ep : Endpoint) (s : State) : Host.Outcome State Fault Refusal :=
  .next (s.hostWriteInt ep (OPENING_STATUS.JOURNAL_ACK) 0xA5)

/-- POWER_MODE_RUN. R291: POWER_MODE := 0. -/
def execPowerModeRun (ep : Endpoint) (s : State) : Host.Outcome State Fault Refusal :=
  .next (s.hostWriteInt ep (POWER_STATE.POWER_MODE) 0)

/-- POWER_MODE_HOLD. R291: POWER_MODE := 1. -/
def execPowerModeHold (ep : Endpoint) (s : State) : Host.Outcome State Fault Refusal :=
  .next (s.hostWriteInt ep (POWER_STATE.POWER_MODE) 1)

/-- PARK. R293: PARK := 0xA5. -/
def execPark (ep : Endpoint) (s : State) : Host.Outcome State Fault Refusal :=
  .next (s.hostWriteInt ep (POWER_STATE.PARK) 0xA5)

/-- WAKE_CLEAR. R301: a WAKE_CLEAR write. -/
def execWakeClear (ep : Endpoint) (mask : Nat) (s : State) : Host.Outcome State Fault Refusal :=
  .next (s.hostWriteInt ep (WAKE_CONFIG.WAKE_CLEAR) mask)

/-! ### Faults and events -/

/-- QUERY_KIND. R315: a QUERY_KIND write. -/
def execQueryKind (ep : Endpoint) (code : Nat) (s : State) : Host.Outcome State Fault Refusal :=
  .next (s.hostWriteInt ep (KIND_QUERY.QUERY_KIND 0) code)

/-- POP. R339: a read of RECORDS. Through a PCIe BAR0 slot it reads the length and pops nothing (R377). -/
def execPop (ep : Endpoint) (q : RingId) (s : State) : Host.Outcome State Fault Refusal :=
  .next (s.hostRead ep (RING.RECORDS q))

/-- FLUSH. R340: FLUSH := 0xA5. -/
def execFlush (ep : Endpoint) (q : RingId) (s : State) : Host.Outcome State Fault Refusal :=
  .next (s.hostWriteInt ep (RING.FLUSH q) 0xA5)

/-- ARM. R342: ARM of a delivery target := 0xA5. -/
def execArm (ep : Endpoint) (g : TargetId) (s : State) : Host.Outcome State Fault Refusal :=
  .next (s.hostWriteInt ep (TARGET.ARM g) 0xA5)

/-- HOLD. R344: HOLD := 0xA5. -/
def execHold (ep : Endpoint) (s : State) : Host.Outcome State Fault Refusal :=
  .next (s.hostWriteInt ep (HOLD_CONTROL.HOLD 0) 0xA5)

/-- HOLD_RELEASE. R344: HOLD := 0x5A. -/
def execHoldRelease (ep : Endpoint) (s : State) : Host.Outcome State Fault Refusal :=
  .next (s.hostWriteInt ep (HOLD_CONTROL.HOLD 0) 0x5A)

/-- DEVICE_HOLD_SET. R344: DEVICE_HOLD := 1. -/
def execDeviceHoldSet (ep : Endpoint) (s : State) : Host.Outcome State Fault Refusal :=
  .next (s.hostWriteInt ep (EVENT_FABRIC.DEVICE_HOLD) 1)

/-- DEVICE_HOLD_CLEAR. R344: DEVICE_HOLD := 0. -/
def execDeviceHoldClear (ep : Endpoint) (s : State) : Host.Outcome State Fault Refusal :=
  .next (s.hostWriteInt ep (EVENT_FABRIC.DEVICE_HOLD) 0)

/-- FENCE. R345: a FENCE write. -/
def execFence (ep : Endpoint) (v : Nat) (s : State) : Host.Outcome State Fault Refusal :=
  .next (s.hostWriteInt ep (FENCE_CONTROL.FENCE 0) v)

/-! ### DMA -/

/-- STREAM_RUN. R351: RUN := 1. -/
def execStreamRun (ep : Endpoint) (d : StreamId) (s : State) : Host.Outcome State Fault Refusal :=
  .next (s.hostWriteInt ep (STREAM.RUN d) 1)

/-- STREAM_STOP. R351: RUN := 0. -/
def execStreamStop (ep : Endpoint) (d : StreamId) (s : State) : Host.Outcome State Fault Refusal :=
  .next (s.hostWriteInt ep (STREAM.RUN d) 0)

/-- TAIL_WRITE. R350, R378: a TAIL write, as an object write or through the doorbell of a PCIe function. -/
def execTailWrite (ep : Endpoint) (d : StreamId) (v : Nat) (bell : Bool) (s : State) : Host.Outcome State Fault Refusal :=
  .next (s.hostWrite ep (if bell then .bell else .object) (STREAM.TAIL d) (leBytes 2 v))

/-! ### Two-wire controller, housekeeping, watchdogs and clock -/

/-- TRANSFER_START. R396: TRANSFER_START := 0xA5. -/
def execTransferStart (ep : Endpoint) (s : State) : Host.Outcome State Fault Refusal :=
  .next (s.hostWriteInt ep (CONTROLLER_TRANSFER.TRANSFER_START) 0xA5)

/-- TRIGGER. R410: TRIGGER := 0xA5. -/
def execTrigger (ep : Endpoint) (q : Seq) (s : State) : Host.Outcome State Fault Refusal :=
  .next (s.hostWriteInt ep (HK_SEQUENCE.TRIGGER q) 0xA5)

/-- WATCHDOG_ARM. R426: an ARM write of a tenant watchdog. -/
def execWatchdogArm (ep : Endpoint) (t : Tenant) (v : Nat) (s : State) : Host.Outcome State Fault Refusal :=
  .next (s.hostWriteInt ep (WATCHDOG.ARM t) v)

/-- ANSWER. R430: an ANSWER write. -/
def execAnswer (ep : Endpoint) (t : Tenant) (token : Nat) (s : State) : Host.Outcome State Fault Refusal :=
  .next (s.hostWriteInt ep (WATCHDOG.ANSWER t) token)

/-- ADJOURN. R433: an ADJOURN write. -/
def execAdjourn (ep : Endpoint) (t : Tenant) (ms : Nat) (s : State) : Host.Outcome State Fault Refusal :=
  .next (s.hostWriteInt ep (WATCHDOG.ADJOURN t) ms)

/-- RTC_SET. R443: an RTC_SET write. -/
def execRtcSet (ep : Endpoint) (v : Nat) (s : State) : Host.Outcome State Fault Refusal :=
  .next (s.hostWriteInt ep (RTC.RTC_SET) v)

/-- PON_ASSERT. R448: PON_COMMAND := 0xA5. -/
def execPonAssert (ep : Endpoint) (s : State) : Host.Outcome State Fault Refusal :=
  .next (s.hostWriteInt ep (PON_CONTROL.PON_COMMAND) 0xA5)

/-- PON_RELEASE. R448: PON_COMMAND := 0x5A. -/
def execPonRelease (ep : Endpoint) (s : State) : Host.Outcome State Fault Refusal :=
  .next (s.hostWriteInt ep (PON_CONTROL.PON_COMMAND) 0x5A)

/-! ### Security -/

/-- ATTEST_CHALLENGE. R456: an ATTEST_CHALLENGE write. -/
def execAttestChallenge (ep : Endpoint) (data : List Byte) (s : State) : Host.Outcome State Fault Refusal :=
  .next (s.hostWrite ep .object (ATTEST_CONTROL.ATTEST_CHALLENGE 0) data)

/-- SESSION_OPEN. R459: a SESSION_OPEN write. -/
def execSessionOpen (ep : Endpoint) (data : List Byte) (s : State) : Host.Outcome State Fault Refusal :=
  .next (s.hostWrite ep .object (SESSION_CONTROL.SESSION_OPEN 0) data)

/-- SESSION_CLOSE. R460: SESSION_CLOSE := 0xA5. -/
def execSessionClose (ep : Endpoint) (s : State) : Host.Outcome State Fault Refusal :=
  .next (s.hostWriteInt ep (SESSION_CONTROL.SESSION_CLOSE 0) 0xA5)

/-- AUTH_WRITE. R462: an AUTH_WRITE envelope. -/
def execAuthWrite (ep : Endpoint) (data : List Byte) (s : State) : Host.Outcome State Fault Refusal :=
  .next (s.hostWrite ep .object (SESSION_CONTROL.AUTH_WRITE 0) data)

/-- AUTH_READ_REQUEST. R464: an AUTH_READ_REQUEST. -/
def execAuthReadRequest (ep : Endpoint) (data : List Byte) (s : State) : Host.Outcome State Fault Refusal :=
  .next (s.hostWrite ep .object (SESSION_CONTROL.AUTH_READ_REQUEST 0) data)

end Sys2Proof.Machine
end

