-- ==== Sys2Proof/Machine/PortRows.lean ====
section
/-!
DEFINITION. The rows of the ports: USDO and PDOs, the transfer window and the ring heads of PCI Express, and the frames of SPI and
two-wire.
-/
namespace Sys2Proof.Machine

/-! ### CAN -/

/-- USDO_REQUEST. R367: a USDO request to the node of a tenant. -/
def execUsdoRequest (t : Tenant) (begins write last : Bool) (addr : Nat) (data : List Byte)
    (s : State) : Host.Outcome State Fault Refusal :=
  .next (s.usdoRequest t begins write last addr data)

/-- RPDO_RECEIVED. R371: a receive PDO arrives. -/
def execRpdoReceived (x : Fin 64) (data : List Byte) (s : State) : Host.Outcome State Fault Refusal :=
  .next (s.rpdoReceived x data)

/-! ### PCI Express -/

/-- TRANSFER_READ. R380: a TRANSFER_REQUEST with operation 1. -/
def execTransferRead (f : Func) (addr off len : Nat) (s : State) : Host.Outcome State Fault Refusal :=
  .next (s.transferRead f addr off len)

/-- TRANSFER_WRITE. R380: a TRANSFER_REQUEST with operation 2. -/
def execTransferWrite (f : Func) (addr len : Nat) (data : List Byte) (s : State) : Host.Outcome State Fault Refusal :=
  .next (s.transferWrite f addr len data)

/-- RING_HEAD_POP. R379: a write of k to a ring head. -/
def execRingHeadPop (f : Func) (i k : Nat) (s : State) : Host.Outcome State Fault Refusal :=
  .next (s.ringHeadPop f i k)

/-- PEAK_READ. R103, R378: a read of I_PEAK or V_PEAK on a BAR0 slot. -/
def execPeakRead (f : Func) (n : Chan) (volt : Bool) (s : State) : Host.Outcome State Fault Refusal :=
  .next ((if s.endpointUp (.pcie f) then s.slotRead f
    (if volt then CHANNEL_STATUS.V_PEAK n 0 else CHANNEL_STATUS.I_PEAK n 0) else s.answer .silent))

/-! ### SPI and two-wire -/

/-- READ. R384: READ. -/
def execRead (ep : Endpoint) (addr len crc : Nat) (s : State) : Host.Outcome State Fault Refusal :=
  .next (s.requestFrame ep 1 addr len [] crc (len == 0 || 1024 < len) fun s => s.frameRead ep addr 0 len)

/-- WRITE. R384: WRITE. -/
def execWrite (ep : Endpoint) (addr : Nat) (data : List Byte) (crc : Nat) (s : State) : Host.Outcome State Fault Refusal :=
  .next (s.requestFrame ep 2 addr data.length data crc (data.length == 0 || 1024 < data.length)
    fun s => s.takeWrite ⟨ep, .object, addr, data⟩)

/-- READ_AT. R384: READ_AT. -/
def execReadAt (ep : Endpoint) (addr len off crc : Nat) (s : State) : Host.Outcome State Fault Refusal :=
  .next (s.requestFrame ep 3 addr len (leBytes 4 off) crc (len == 0 || 1024 < len) fun s => s.frameRead ep addr off len)

/-- LOAD. R384: LOAD. Data that would pass the end of the buffer has a LEN outside its range. -/
def execLoad (ep : Endpoint) (off : Nat) (data : List Byte) (crc : Nat) (s : State) : Host.Outcome State Fault Refusal :=
  .next (s.requestFrame ep 4 off data.length data crc (data.length == 0 || 1024 < data.length || 4096 < off + data.length)
    fun s => s.frameLoad ep off data)

/-- WRITE_BUFFER. R384: WRITE_BUFFER. -/
def execWriteBuffer (ep : Endpoint) (addr len crc : Nat) (s : State) : Host.Outcome State Fault Refusal :=
  .next (s.requestFrame ep 5 addr len [] crc (len == 0 || 4096 < len) fun s => s.frameBuffer ep addr len)

/-- BROKEN_FRAME. R386, R391: a request cut off before its CRC. -/
def execBrokenFrame (ep : Endpoint) (s : State) : Host.Outcome State Fault Refusal :=
  .next (s.frameBroken ep)

/-- CS_CONFLICT. R383: two or more chip selects are low together. -/
def execCsConflict (s : State) : Host.Outcome State Fault Refusal :=
  .next (s.spiConflict)

/-- RESPONSE_FETCH. R392: a two-wire read transaction. -/
def execResponseFetch (a : Nat) (s : State) : Host.Outcome State Fault Refusal :=
  .next (s.responseFetch a)

end Sys2Proof.Machine
end

