-- ==== Sys2Proof/Machine/Dispatch.lean ====
section
/-!
DEFINITION. The dispatch: each command of the table to its meaning.
-/

namespace Sys2Proof.Machine

/-- What a command does to everything but the queue: one arm for each row of the table, in its order. -/
def exec (i : Instr) (s : State) : Host.Outcome State Fault Refusal :=
  match i with
  | .frameBoundary => Sys2Proof.Machine.execFrameBoundary s
  | .measurementRound k vsh vload vbus headroom bswb bswn asv => Sys2Proof.Machine.execMeasurementRound k vsh vload vbus headroom bswb bswn asv s
  | .uplinkFrameReceived d valid errors lost => Sys2Proof.Machine.execUplinkFrameReceived d valid errors lost s
  | .downlinkFrameReceived d valid errors lost => Sys2Proof.Machine.execDownlinkFrameReceived d valid errors s lost
  | .eventBlockReceived d => Sys2Proof.Machine.execEventBlockReceived d s
  | .linkRetrain d => Sys2Proof.Machine.execLinkRetrain d s
  | .linkTrained d two => Sys2Proof.Machine.execLinkTrained d two s
  | .linkLossStanding d => Sys2Proof.Machine.execLinkLossStanding d s
  | .controlDieResetIndication => Sys2Proof.Machine.execControlDieResetIndication s
  | .standBlock d => Sys2Proof.Machine.execStandBlock d s
  | .referenceEdgeLoss => Sys2Proof.Machine.execReferenceEdgeLoss s
  | .referenceFrequencyCheck ppm => Sys2Proof.Machine.execReferenceFrequencyCheck ppm s
  | .dieReferenceLoss d => Sys2Proof.Machine.execDieReferenceLoss d s
  | .objectWrite ep addr data => Sys2Proof.Machine.execObjectWrite ep addr data s
  | .levelViewWrite ep n sub v => Sys2Proof.Machine.execLevelViewWrite ep n sub v s
  | .commit ep v => Sys2Proof.Machine.execCommit ep v s
  | .commitStageAck t => Sys2Proof.Machine.execCommitStageAck t s
  | .commitStageAckTimeout t => Sys2Proof.Machine.execCommitStageAckTimeout t s
  | .discard ep => Sys2Proof.Machine.execDiscard ep s
  | .syncReceived p counter => Sys2Proof.Machine.execSyncReceived p counter s
  | .syncTimeout p => Sys2Proof.Machine.execSyncTimeout p s
  | .barrierId ep v => Sys2Proof.Machine.execBarrierId ep v s
  | .barrierDone t => Sys2Proof.Machine.execBarrierDone t s
  | .auditSweepStart => Sys2Proof.Machine.execAuditSweepStart s
  | .auditSweepEnd upsets => Sys2Proof.Machine.execAuditSweepEnd upsets s
  | .dieRecheck d upset => Sys2Proof.Machine.execDieRecheck d upset s
  | .tenantReset ep t => Sys2Proof.Machine.execTenantReset ep t s
  | .trumpRelease ep t n => Sys2Proof.Machine.execTrumpRelease ep t n s
  | .requestOff ep n => Sys2Proof.Machine.execRequestOff ep n s
  | .requestOn ep n => Sys2Proof.Machine.execRequestOn ep n s
  | .requestPwm ep n => Sys2Proof.Machine.execRequestPwm ep n s
  | .clearLockout ep n => Sys2Proof.Machine.execClearLockout ep n s
  | .releaseStanding ep n => Sys2Proof.Machine.execReleaseStanding ep n s
  | .rampDone n drop1 drop2 vgs1 vgs2 => Sys2Proof.Machine.execRampDone n drop1 drop2 vgs1 vgs2 s
  | .rampTimeout n vgs vload => Sys2Proof.Machine.execRampTimeout n vgs vload s
  | .pumpStartTimeout k => Sys2Proof.Machine.execPumpStartTimeout k s
  | .pumpHeadroomLow k headroom => Sys2Proof.Machine.execPumpHeadroomLow k headroom s
  | .pumpStop k => Sys2Proof.Machine.execPumpStop k s
  | .busUndervoltage k vbus => Sys2Proof.Machine.execBusUndervoltage k vbus s
  | .calibrationPositionEnd k gainI offsetI gainV offsetV => Sys2Proof.Machine.execCalibrationPositionEnd k gainI offsetI gainV offsetV s
  | .pwmPhaseInstant n => Sys2Proof.Machine.execPwmPhaseInstant n s
  | .pwmOffEdge n => Sys2Proof.Machine.execPwmOffEdge n s
  | .captureArm ep d => Sys2Proof.Machine.execCaptureArm ep d s
  | .captureTrigger d => Sys2Proof.Machine.execCaptureTrigger d s
  | .captureComplete d => Sys2Proof.Machine.execCaptureComplete d s
  | .logicDomainFail d => Sys2Proof.Machine.execLogicDomainFail d s
  | .anchorBrownout d => Sys2Proof.Machine.execAnchorBrownout d s
  | .hardShortTrip n ns vsh => Sys2Proof.Machine.execHardShortTrip n ns s vsh
  | .limitEntered n vsh => Sys2Proof.Machine.execLimitEntered n vsh s
  | .limitSaturatedExit n room1 room2 => Sys2Proof.Machine.execLimitSaturatedExit n room1 room2 s
  | .limitTimeoutTrip n => Sys2Proof.Machine.execLimitTimeoutTrip n s
  | .tripSettled n vgs => Sys2Proof.Machine.execTripSettled n vgs s
  | .retryDue n => Sys2Proof.Machine.execRetryDue n s
  | .retryResetTime n => Sys2Proof.Machine.execRetryResetTime n s
  | .lampEnvelopeEnd n => Sys2Proof.Machine.execLampEnvelopeEnd n s
  | .openLamp n => Sys2Proof.Machine.execOpenLamp n s
  | .swapRequest ep p b => Sys2Proof.Machine.execSwapRequest ep p b s
  | .swapOverlapEnd p => Sys2Proof.Machine.execSwapOverlapEnd p s
  | .swapTimeout p => Sys2Proof.Machine.execSwapTimeout p s
  | .planStart ep p => Sys2Proof.Machine.execPlanStart ep p s
  | .planAbort ep p => Sys2Proof.Machine.execPlanAbort ep p s
  | .resolveSkip ep p j => Sys2Proof.Machine.execResolveSkip ep p j s
  | .resolveRetry ep p j => Sys2Proof.Machine.execResolveRetry ep p j s
  | .stepDelayEnd p j => Sys2Proof.Machine.execStepDelayEnd p j s
  | .stalemate p j => Sys2Proof.Machine.execStalemate p j s
  | .dischargeTimeout p j => Sys2Proof.Machine.execDischargeTimeout p j s
  | .endgameTrigger us => Sys2Proof.Machine.execEndgameTrigger us s
  | .undervoltage n => Sys2Proof.Machine.execUndervoltage n s
  | .overvoltage n => Sys2Proof.Machine.execOvervoltage n s
  | .underCleared n => Sys2Proof.Machine.execUnderCleared n s
  | .overCleared n => Sys2Proof.Machine.execOverCleared n s
  | .rsoRelease r => Sys2Proof.Machine.execRsoRelease r s
  | .rsoForceAssert ep r => Sys2Proof.Machine.execRsoForceAssert ep r s
  | .rsoForceRelease ep r => Sys2Proof.Machine.execRsoForceRelease ep r s
  | .keeperReportToggle r => Sys2Proof.Machine.execKeeperReportToggle r s
  | .counterClear ep n => Sys2Proof.Machine.execCounterClear ep n s
  | .recordStorePeriodicWrite => Sys2Proof.Machine.execRecordStorePeriodicWrite s
  | .batteryRecordWritten => Sys2Proof.Machine.execBatteryRecordWritten s
  | .enableOn ep m => Sys2Proof.Machine.execEnableOn ep m s
  | .converterStartCheck m samples offsets => Sys2Proof.Machine.execConverterStartCheck m samples offsets s
  | .enableOff ep m => Sys2Proof.Machine.execEnableOff ep m s
  | .converterCycleEnd m samples => Sys2Proof.Machine.execConverterCycleEnd m samples s
  | .lanePeriodEnd l vcs vs => Sys2Proof.Machine.execLanePeriodEnd l vcs vs s
  | .shareImbalance l => Sys2Proof.Machine.execShareImbalance l s
  | .truncationCrossing m vs steps => Sys2Proof.Machine.execTruncationCrossing m s vs steps
  | .truncationLatch m => Sys2Proof.Machine.execTruncationLatch m s
  | .peakCut l step vcs => Sys2Proof.Machine.execPeakCut l step s vcs
  | .hiccupResume m samples offsets => Sys2Proof.Machine.execHiccupResume m samples offsets s
  | .hiccupResetTime m => Sys2Proof.Machine.execHiccupResetTime m s
  | .faultRecordWritten m => Sys2Proof.Machine.execFaultRecordWritten m s
  | .converterUndervoltage m units => Sys2Proof.Machine.execConverterUndervoltage m units s
  | .converterOvervoltage m units => Sys2Proof.Machine.execConverterOvervoltage m units s
  | .switchModeOpen ep => Sys2Proof.Machine.execSwitchModeOpen ep s
  | .switchModeIdealDiode ep => Sys2Proof.Machine.execSwitchModeIdealDiode ep s
  | .switchModeClosed ep => Sys2Proof.Machine.execSwitchModeClosed ep s
  | .switchCloseDone diff => Sys2Proof.Machine.execSwitchCloseDone diff s
  | .closeDeferred diff => Sys2Proof.Machine.execCloseDeferred diff s
  | .idealDiodeReverse excess => Sys2Proof.Machine.execIdealDiodeReverse excess s
  | .switchShortTrip diff us => Sys2Proof.Machine.execSwitchShortTrip diff us s
  | .switchUvCutoff bswb us => Sys2Proof.Machine.execSwitchUvCutoff bswb us s
  | .closedChargeDrop samples => Sys2Proof.Machine.execClosedChargeDrop samples s
  | .switchDriverPowerUp => Sys2Proof.Machine.execSwitchDriverPowerUp s
  | .switchDriverPowerLoss => Sys2Proof.Machine.execSwitchDriverPowerLoss s
  | .chargeEnableOn ep => Sys2Proof.Machine.execChargeEnableOn ep s
  | .chargeEnableOff ep => Sys2Proof.Machine.execChargeEnableOff ep s
  | .chargePulseEnd => Sys2Proof.Machine.execChargePulseEnd s
  | .chargeRestEnd v imax imean => Sys2Proof.Machine.execChargeRestEnd v imax imean s
  | .pulseCutDiode us => Sys2Proof.Machine.execPulseCutDiode us s
  | .holdRestSample v imax imean => Sys2Proof.Machine.execHoldRestSample v imax imean s
  | .qualifyTimeout => Sys2Proof.Machine.execQualifyTimeout s
  | .chargeTimeout => Sys2Proof.Machine.execChargeTimeout s
  | .btnPress => Sys2Proof.Machine.execBtnPress s
  | .btnRelease => Sys2Proof.Machine.execBtnRelease s
  | .longPress => Sys2Proof.Machine.execLongPress s
  | .longPressSwitchRestore => Sys2Proof.Machine.execLongPressSwitchRestore s
  | .shipArm ep => Sys2Proof.Machine.execShipArm ep s
  | .shipCancel ep => Sys2Proof.Machine.execShipCancel ep s
  | .shipWindowEnd => Sys2Proof.Machine.execShipWindowEnd s
  | .shipExit => Sys2Proof.Machine.execShipExit s
  | .assistStart ep => Sys2Proof.Machine.execAssistStart ep s
  | .assistCheck asv => Sys2Proof.Machine.execAssistCheck asv s
  | .assistPrechargeDone asv us => Sys2Proof.Machine.execAssistPrechargeDone asv us s
  | .assistPrechargeTimeout => Sys2Proof.Machine.execAssistPrechargeTimeout s
  | .assistMatch diff => Sys2Proof.Machine.execAssistMatch diff s
  | .assistMatchTimeout => Sys2Proof.Machine.execAssistMatchTimeout s
  | .assistStop ep => Sys2Proof.Machine.execAssistStop ep s
  | .assistSessionTimeout => Sys2Proof.Machine.execAssistSessionTimeout s
  | .assistForeignOvervoltage asv us => Sys2Proof.Machine.execAssistForeignOvervoltage asv us s
  | .assistSwitchOpen => Sys2Proof.Machine.execAssistSwitchOpen s
  | .sigmaSample code => Sys2Proof.Machine.execSigmaSample code s
  | .estimatorUpdate => Sys2Proof.Machine.execEstimatorUpdate s
  | .longRest => Sys2Proof.Machine.execLongRest s
  | .resistanceSample v j => Sys2Proof.Machine.execResistanceSample v j s
  | .batteryReplaced ep => Sys2Proof.Machine.execBatteryReplaced ep s
  | .vbatBrownout => Sys2Proof.Machine.execVbatBrownout s
  | .vhBrownout vh us => Sys2Proof.Machine.execVhBrownout vh us s
  | .vcoreBrownout v us => Sys2Proof.Machine.execVcoreBrownout v us s
  | .vioBrownout v us => Sys2Proof.Machine.execVioBrownout v us s
  | .rstinNLow us => Sys2Proof.Machine.execRstinNLow us s
  | .lockstepMismatch => Sys2Proof.Machine.execLockstepMismatch s
  | .criticalMemoryError die site => Sys2Proof.Machine.execCriticalMemoryError die site s
  | .deviceResetControlDie ep => Sys2Proof.Machine.execDeviceResetControlDie ep s
  | .deviceResetFull ep => Sys2Proof.Machine.execDeviceResetFull ep s
  | .resetRelease o => Sys2Proof.Machine.execResetRelease o s
  | .profileChannelRequest => Sys2Proof.Machine.execProfileChannelRequest s
  | .arbiterPortRetry ok => Sys2Proof.Machine.execArbiterPortRetry ok s
  | .openingResume ep => Sys2Proof.Machine.execOpeningResume ep s
  | .journalAck ep => Sys2Proof.Machine.execJournalAck ep s
  | .vbatOvervoltage vbat => Sys2Proof.Machine.execVbatOvervoltage vbat s
  | .vbatOvervoltageEnd vbat => Sys2Proof.Machine.execVbatOvervoltageEnd vbat s
  | .hrCurrentLimit r on volts => Sys2Proof.Machine.execHrCurrentLimit r on volts s
  | .supply18Low v18 us => Sys2Proof.Machine.execSupply18Low v18 us s
  | .levelStep => Sys2Proof.Machine.execLevelStep s
  | .powerModeRun ep => Sys2Proof.Machine.execPowerModeRun ep s
  | .powerModeHold ep => Sys2Proof.Machine.execPowerModeHold ep s
  | .park ep => Sys2Proof.Machine.execPark ep s
  | .parkPointOfNoReturn => Sys2Proof.Machine.execParkPointOfNoReturn s
  | .parkPowerDown => Sys2Proof.Machine.execParkPowerDown s
  | .parkExit o => Sys2Proof.Machine.execParkExit o s
  | .wakeLatchSet j high us => Sys2Proof.Machine.execWakeLatchSet j high us s
  | .wakeClear ep mask => Sys2Proof.Machine.execWakeClear ep mask s
  | .faultMessage r => Sys2Proof.Machine.execFaultMessage s r
  | .houseStopReset => Sys2Proof.Machine.execHouseStopReset s
  | .powerCycle => Sys2Proof.Machine.execPowerCycle s
  | .shadowClose => Sys2Proof.Machine.execShadowClose s
  | .keeperRetry => Sys2Proof.Machine.execKeeperRetry s
  | .keeperFrame lost => Sys2Proof.Machine.execKeeperFrame s lost
  | .keeperHeartbeat d => Sys2Proof.Machine.execKeeperHeartbeat d s
  | .dieHeartbeatTimeout d => Sys2Proof.Machine.execDieHeartbeatTimeout d s
  | .queryKind ep code => Sys2Proof.Machine.execQueryKind ep code s
  | .recordPlaced => Sys2Proof.Machine.execRecordPlaced s
  | .targetModerationTimeout g => Sys2Proof.Machine.execTargetModerationTimeout g s
  | .pop ep q => Sys2Proof.Machine.execPop ep q s
  | .flush ep q => Sys2Proof.Machine.execFlush ep q s
  | .arm ep g => Sys2Proof.Machine.execArm ep g s
  | .hold ep => Sys2Proof.Machine.execHold ep s
  | .holdRelease ep => Sys2Proof.Machine.execHoldRelease ep s
  | .deviceHoldSet ep => Sys2Proof.Machine.execDeviceHoldSet ep s
  | .deviceHoldClear ep => Sys2Proof.Machine.execDeviceHoldClear ep s
  | .fence ep v => Sys2Proof.Machine.execFence ep v s
  | .fencePlaced => Sys2Proof.Machine.execFencePlaced s
  | .eraAdvanced => Sys2Proof.Machine.execEraAdvanced s
  | .streamRun ep d => Sys2Proof.Machine.execStreamRun ep d s
  | .streamStop ep d => Sys2Proof.Machine.execStreamStop ep d s
  | .tailWrite ep d v bell => Sys2Proof.Machine.execTailWrite ep d v bell s
  | .descriptorStart d => Sys2Proof.Machine.execDescriptorStart d s
  | .descriptorComplete d fail moved => Sys2Proof.Machine.execDescriptorComplete d fail moved s
  | .periodicPassStart d => Sys2Proof.Machine.execPeriodicPassStart d s
  | .nmtStart p node => Sys2Proof.Machine.execNmtStart p node s
  | .nmtStop p node => Sys2Proof.Machine.execNmtStop p node s
  | .nmtEnterPreoperational p node => Sys2Proof.Machine.execNmtEnterPreoperational p node s
  | .nmtResetNode p node => Sys2Proof.Machine.execNmtResetNode p node s
  | .nmtResetCommunication p node => Sys2Proof.Machine.execNmtResetCommunication p node s
  | .usdoRequest t begins write last addr data => Sys2Proof.Machine.execUsdoRequest t begins write last addr data s
  | .usdoSessionTimeout t => Sys2Proof.Machine.execUsdoSessionTimeout t s
  | .rpdoReceived x data => Sys2Proof.Machine.execRpdoReceived x data s
  | .tpdoEventTimer x => Sys2Proof.Machine.execTpdoEventTimer x s
  | .tpdoInhibitEnd x => Sys2Proof.Machine.execTpdoInhibitEnd x s
  | .timeReceived p ms days => Sys2Proof.Machine.execTimeReceived p ms days s
  | .heartbeatSend t => Sys2Proof.Machine.execHeartbeatSend t s
  | .canBusOff p tec rec_ => Sys2Proof.Machine.execCanBusOff p tec rec_ s
  | .canBusRecovered p => Sys2Proof.Machine.execCanBusRecovered p s
  | .canRejoin p => Sys2Proof.Machine.execCanRejoin p s
  | .transferRead f addr off len => Sys2Proof.Machine.execTransferRead f addr off len s
  | .transferWrite f addr len data => Sys2Proof.Machine.execTransferWrite f addr len data s
  | .ringHeadPop f j k => Sys2Proof.Machine.execRingHeadPop f j k s
  | .pciePerst low => Sys2Proof.Machine.execPciePerst low s
  | .functionLevelReset f => Sys2Proof.Machine.execFunctionLevelReset f s
  | .pcieLinkChanged link speed masters payload => Sys2Proof.Machine.execPcieLinkChanged link speed masters payload s
  | .read ep addr len crc => Sys2Proof.Machine.execRead ep addr len crc s
  | .write ep addr data crc => Sys2Proof.Machine.execWrite ep addr data crc s
  | .readAt ep addr len off crc => Sys2Proof.Machine.execReadAt ep addr len off crc s
  | .load ep off data crc => Sys2Proof.Machine.execLoad ep off data crc s
  | .writeBuffer ep addr len crc => Sys2Proof.Machine.execWriteBuffer ep addr len crc s
  | .brokenFrame ep => Sys2Proof.Machine.execBrokenFrame ep s
  | .csConflict => Sys2Proof.Machine.execCsConflict s
  | .responseFetch a => Sys2Proof.Machine.execResponseFetch a s
  | .transferStart ep => Sys2Proof.Machine.execTransferStart ep s
  | .transferDone result written read => Sys2Proof.Machine.execTransferDone result written read s
  | .arbitrationLost sent written => Sys2Proof.Machine.execArbitrationLost sent written s
  | .clockLowTimeout target written => Sys2Proof.Machine.execClockLowTimeout target written s
  | .inbandRequest byte => Sys2Proof.Machine.execInbandRequest byte s
  | .dataLowTimeout pulses written => Sys2Proof.Machine.execDataLowTimeout pulses written s
  | .trigger ep q => Sys2Proof.Machine.execTrigger ep q s
  | .hkPeriodTrigger q => Sys2Proof.Machine.execHkPeriodTrigger q s
  | .hkConversionEnd q code => Sys2Proof.Machine.execHkConversionEnd q code s
  | .hkPassEnd q => Sys2Proof.Machine.execHkPassEnd q s
  | .hkRunEnd q => Sys2Proof.Machine.execHkRunEnd q s
  | .entryStale e => Sys2Proof.Machine.execEntryStale e s
  | .houseConversion vbat vh vcore vio v18 vbk faults => Sys2Proof.Machine.execHouseConversion vbat vh vcore vio v18 vbk faults s
  | .tempSample j t => Sys2Proof.Machine.execTempSample j t s
  | .thermalFloorStep => Sys2Proof.Machine.execThermalFloorStep s
  | .watchdogArm ep t v => Sys2Proof.Machine.execWatchdogArm ep t v s
  | .answer ep t token => Sys2Proof.Machine.execAnswer ep t token s
  | .watchdogClosedHalf t => Sys2Proof.Machine.execWatchdogClosedHalf t s
  | .watchdogPeriodEnd t => Sys2Proof.Machine.execWatchdogPeriodEnd t s
  | .adjourn ep t ms => Sys2Proof.Machine.execAdjourn ep t ms s
  | .adjournEnd t => Sys2Proof.Machine.execAdjournEnd t s
  | .wdxExpiry => Sys2Proof.Machine.execWdxExpiry s
  | .rtcSet ep v => Sys2Proof.Machine.execRtcSet ep v s
  | .alarmFired => Sys2Proof.Machine.execAlarmFired s
  | .ponAssert ep => Sys2Proof.Machine.execPonAssert ep s
  | .ponRelease ep => Sys2Proof.Machine.execPonRelease ep s
  | .rtcOscStopped => Sys2Proof.Machine.execRtcOscStopped s
  | .backupCellLow vbk us => Sys2Proof.Machine.execBackupCellLow vbk us s
  | .backupSwitchover vh => Sys2Proof.Machine.execBackupSwitchover vh s
  | .attestChallenge ep data => Sys2Proof.Machine.execAttestChallenge ep data s
  | .attestationSigned => Sys2Proof.Machine.execAttestationSigned s
  | .sessionOpen ep data => Sys2Proof.Machine.execSessionOpen ep data s
  | .sessionOpened => Sys2Proof.Machine.execSessionOpened s
  | .sessionClose ep => Sys2Proof.Machine.execSessionClose ep s
  | .authWrite ep data => Sys2Proof.Machine.execAuthWrite ep data s
  | .authReadRequest ep data => Sys2Proof.Machine.execAuthReadRequest ep data s
  | .randomSourceFault test => Sys2Proof.Machine.execRandomSourceFault test s
  | .loadWindowEnd => Sys2Proof.Machine.execLoadWindowEnd s
  | .vbatPowerUp => Sys2Proof.Machine.execVbatPowerUp s
  | .rstoutNRelease => Sys2Proof.Machine.execRstoutNRelease s
  | .pumpReady k headroom => Sys2Proof.Machine.execPumpReady k headroom s
  | .busUvCleared k vbus => Sys2Proof.Machine.execBusUvCleared k vbus s
  | .limitEpisodeEnd n => Sys2Proof.Machine.execLimitEpisodeEnd n s
  | .converterUnderCleared m units => Sys2Proof.Machine.execConverterUnderCleared m units s
  | .converterOverCleared m units => Sys2Proof.Machine.execConverterOverCleared m units s
  | .peakRead f n volt => Sys2Proof.Machine.execPeakRead f n volt s
  | .msixUnmask f v => Sys2Proof.Machine.execMsixUnmask f v s
  | .rtcOscRestart => Sys2Proof.Machine.execRtcOscRestart s
  | .vbkLowClear vbk fromNothing => Sys2Proof.Machine.execVbkLowClear vbk fromNothing s
  | .clockLowClear => Sys2Proof.Machine.execClockLowClear s
  | .dataLowClear => Sys2Proof.Machine.execDataLowClear s

end Sys2Proof.Machine
end

