-- ==== Sys2Proof/Safety.lean ====
section
/-!
DEFINITION. What claims call a safe state, and what they call leaving everything else unchanged. Nothing here adds to the
machine: these are the terms in which claims about it are stated.
-/
namespace Sys2Proof

/-- A state whose register file and byte strings are canonical: keys strictly rising, nothing listed that an unlisted key
reads as. -/
abbrev Safe (s : Machine.State) : Prop :=
  s.Canonical ∧ s.blobs.Pairwise (fun a b => a.1 < b.1) ∧ ∀ p ∈ s.blobs, p.2 ≠ []

end Sys2Proof

namespace Sys2Proof.Machine

/-! ### Frames -/

/-- A family of registers or byte strings: those under the keys base + step·n + side·m. -/
structure Span where
  base : Nat
  step : Nat
  side : Nat
  deriving DecidableEq, Repr

/-- Whether the family holds key k. -/
def Span.has (x : Span) (k : Nat) : Prop := ∃ n m, k = x.base + x.step * n + x.side * m

/-- The one register under key k. -/
abbrev one (k : Nat) : Span := ⟨k, 0, 0⟩

/-- The registers that a name gives for every index. -/
abbrev each (f : Nat → Nat) : Span := ⟨f 0, f 1 - f 0, 0⟩

/-- Every register. -/
abbrev anyKey : Span := ⟨0, 1, 0⟩

/-- The registers that a name of two indexes gives. -/
abbrev each2 (f : Nat → Nat → Nat) : Span := ⟨f 0 0, f 1 0 - f 0 0, f 0 1 - f 0 0⟩

/-- The parts of the state beside its registers, its byte strings and the queue. -/
inductive Part where
  | time | frame | landing | staged | barriers | heldWrites | late | canQueue | signing | dieMsgs | collector | placing
  | rings | fences | shadows | out | resp | free
  deriving DecidableEq, Repr

/-- A part is the same in two states. -/
def Part.same (r t : State) : Part → Prop
  | .time => t.time = r.time
  | .frame => t.frame = r.frame
  | .landing => t.landing = r.landing
  | .staged => t.staged = r.staged
  | .barriers => t.barriers = r.barriers
  | .heldWrites => t.heldWrites = r.heldWrites
  | .late => t.late = r.late
  | .canQueue => t.canQueue = r.canQueue
  | .signing => t.signing = r.signing
  | .dieMsgs => t.dieMsgs = r.dieMsgs
  | .collector => t.collector = r.collector
  | .placing => t.placing = r.placing
  | .rings => t.rings = r.rings
  | .fences => t.fences = r.fences
  | .shadows => t.shadows = r.shadows
  | .out => t.out = r.out
  | .resp => t.resp = r.resp
  | .free => t.free = r.free

/-- From r to t nothing changes but registers and byte strings of the families W, and the parts in L. -/
structure Leaves (W : List Span) (L : List Part) (r t : State) : Prop where
  regs : ∀ k, (∀ x ∈ W, ¬x.has k) → t.get k = r.get k
  blobs : ∀ k, (∀ x ∈ W, ¬x.has k) → t.blob k = r.blob k
  parts : ∀ p, p ∉ L → p.same r t
  pending : t.pending = r.pending

/-! ### Outcomes and messages -/

/-- The command answers a next state of which P holds. -/
def Gives (c : Instr) (s : State) (P : State → Prop) : Prop := ∃ t, exec c s = .next t ∧ P t

/-- From s to t the control die or the backup domain raises a message stamped now: its kind, site, tenant and payload. -/
def Raises (s t : State) (k : Kind) (site tenant : Nat) (fields : List (Nat × Int)) : Prop :=
  ∃ o, (⟨s.stamp, site, k, tenant, o, fields, false⟩ : Msg) ∈ t.collector.drop s.collector.length

/-- From s to t channel die d raises a message stamped now, on its copy of the tick (R25); it is held while the link of the die is down (R115). -/
def DieRaises (s t : State) (d : Nat) (k : Kind) (site tenant : Nat) (fields : List (Nat × Int)) : Prop :=
  ∃ o, (⟨d, ⟨s.stampOn d, site, k, tenant, o, fields, !s.linkUp d⟩⟩ : DieMsg) ∈ t.dieMsgs.drop s.dieMsgs.length

/-- From a running block s a device-level reset has begun in t (R265, R266, R269): its cause, site and kind are recorded, it lasts at
least 5 ms, RSTOUT_N is low for at least 20 ms, every converter is OFF, and nothing accepted, staged, queued or placed is left. -/
structure ResetBegun (s t : State) (cause site kind : Nat) : Prop where
  held : t.nat DEV_STATE = 0
  cause : t.nat RESET_CAUSE.LAST_CAUSE = cause
  site : t.nat RESET_CAUSE.CAUSE_SITE = site
  kind : t.nat RESET_CAUSE.LAST_KIND = kind
  counted : t.nat RESET_CONTROL.DEVICE_RESETS = satTo 0xFFFFFFFF (s.nat RESET_CONTROL.DEVICE_RESETS + 1)
  lasts : t.nat RESET_UNTIL = s.time + 5000
  rstout : t.nat RSTOUT_HIGH = 0 ∧ t.nat RSTOUT_UNTIL = s.time + 20000
  converters : ∀ m < 4, t.conv m = CS.OFF
  cleared : t.landing = [] ∧ t.staged = [] ∧ t.barriers = [] ∧ t.placing = [] ∧ t.rings = []

/-- The command triggers sequence q (R410, R411): without a run in progress it starts one, during a run it is latched, and behind one
that is latched it is dropped and counted. -/
def Triggers (c : Instr) (s : State) (q : Nat) : Prop :=
  (s.hkRuns q = false → Gives c s fun t => t.hkRuns q = true ∧ t.hkEntry q = s.nat (HK_SEQUENCE.FIRST_ENTRY q)) ∧
  (s.hkRuns q = true → s.flag (HK_LATCH q) = false → Gives c s fun t =>
    t.flag (HK_LATCH q) = true ∧ t.hkEntry q = s.hkEntry q ∧ t.nat (HK_DROPS q) = s.nat (HK_DROPS q) ∧
    t.nat (HK_SEQUENCE.OVERRUN_COUNT q) = s.nat (HK_SEQUENCE.OVERRUN_COUNT q)) ∧
  (s.hkRuns q = true → s.flag (HK_LATCH q) = true → Gives c s fun t =>
    t.flag (HK_LATCH q) = true ∧ t.hkEntry q = s.hkEntry q ∧ t.nat (HK_DROPS q) = satTo 0xFFFFFFFF (s.nat (HK_DROPS q) + 1) ∧
    t.nat (HK_SEQUENCE.OVERRUN_COUNT q) = satTo 0xFFFFFFFF (s.nat (HK_SEQUENCE.OVERRUN_COUNT q) + 1))

/-! ### Writes of a host -/

/-- R377: whether a write of n bytes through BAR0 reaches one slot only. -/
def fitsSlot : Endpoint → Nat → Bool
  | .pcie _, n => n ≤ 8
  | _, _ => true

/-- A write of b, which spells v, to addr comes from endpoint ep, which carries tenant u, and meets nothing that turns it away or
makes it wait: the endpoint is up (R268), no USDO session of it is in progress (R367), its length fits (R384, R377), nothing is held
back (R56), and every check of R33 passes. -/
structure Accepts (s : State) (ep : Endpoint) (u : Nat) (form : WriteForm) (addr : Nat) (v : Int) (b : List Byte) : Prop where
  up : s.endpointUp ep = true
  tenant : s.tenantAt ep = some u
  session : s.inSession ep = none
  fits : frameLengthBad ep b.length = false ∧ slotTooSmall ep form addr = false
  slot : form = .object → fitsSlot ep b.length = true
  free : s.mustWait ⟨ep, form, addr, b⟩ = false ∧ ∀ x ∈ s.heldWrites, x.ep ≠ ep
  checks : s.writeCheck (some u) form.via addr b = none
  value : s.valueCheck u addr v b = none
  state : ∀ r, subAt addr = some r → s.stateCheck u addr r v = none
  spells : ∀ r, subAt addr = some r → v = if r.ty.isString then 0 else r.ty.decode b

/-- The bytes of a value of the object at an address (R31). -/
abbrev bytesOf (addr : Nat) (v : Int) : List Byte := ((subAt addr).map fun r => r.ty.encode v).toList.flatten

/-- An item of tenant u has been accepted in t: it waits for the boundary of R34 and R26, or behind an open barrier (R55). -/
def Lands (s t : State) (u : Nat) (act : LandAct) : Prop :=
  let delay := match landDie act with
    | some d => s.dieDelay d
    | none => 2
  t.landing = s.landing ++ [⟨u, s.frame + s.barrierDelay u delay, s.time, act, false⟩]

/-- The port has answered that the write is accepted (R33, R367, R378, R385, R392). -/
def Answered (t : State) : Endpoint → Prop
  | .can _ _ => t.resp = .done
  | .pcie _ => t.resp = .silent
  | .spi _ => t.resp = .frame (responseBytes 0 [])
  | .twoWire a => t.resp = .silent ∧ t.blob (FRAME_RESP (a % 256)) = [0]

/-- The port has answered that the write is refused for a. -/
def Refused (t : State) (a : Abort) : Endpoint → Prop
  | .can _ _ => t.resp = .abort a.code
  | .pcie _ => t.resp = .silent
  | .spi _ => t.resp = .frame (responseBytes 3 (leBytes 4 a.code))
  | .twoWire x => t.resp = .silent ∧ t.blob (FRAME_RESP (x % 256)) = 3 :: leBytes 4 a.code

/-- SPI has sent, or the two-wire endpoint holds, a response: STATUS and the bytes after it (R385, R392). -/
def Responds (t : State) (ep : Endpoint) (status : Nat) (b : List Byte) : Prop :=
  match ep with
  | .twoWire a => t.resp = .silent ∧ t.blob (FRAME_RESP (a % 256)) = leBytes 1 status ++ b
  | _ => t.resp = .frame (responseBytes status b)

/-- The registers with which a port counts and answers an access. -/
def portKeys : Endpoint → List Span
  | .can p _ => [one (CAN_PORT.RX_FRAMES p), one (CAN_PORT.TX_FRAMES p)]
  | .pcie f => [one (PT_RESULT f)]
  | .spi _ => [one SPI_PORT.FRAMES]
  | .twoWire a => [one (FRAME_RESP (a % 256))]

/-- The command is a class I write of v to addr through ep (R34, R35): accepted, the value reads back at once and lands later; no
other object changes. -/
def WritesValue (c : Instr) (s : State) (ep : Endpoint) (u : Nat) (form : WriteForm) (addr : Nat) (v : Int)
    (b : List Byte) : Prop :=
  Accepts s ep u form addr v b → Gives c s fun t =>
    t.get addr = v ∧ Lands s t u (.value addr v) ∧ Answered t ep ∧
      Leaves (one addr :: one LOAD_ACCESS :: portKeys ep) [.landing, .resp] s t

/-- The command is an action write of b, which spells v, to addr through ep that acts as it is accepted, with the effect P; behind an
open barrier of its tenant it waits (R34, R55, R57). -/
def ActsNow (c : Instr) (s : State) (ep : Endpoint) (u addr : Nat) (v : Int) (b : List Byte) (P : State → Prop) : Prop :=
  Accepts s ep u .object addr v b →
    (s.barrierEnd u = none → Gives c s fun t => Answered t ep ∧ P t) ∧
    (s.barrierEnd u ≠ none → Gives c s fun t => Answered t ep ∧ Lands s t u (.service addr v b))

/-- The command is an action write of v to addr through ep that lands later (R34, R503); until then no object changes. -/
def WritesAction (c : Instr) (s : State) (ep : Endpoint) (u addr : Nat) (v : Int) : Prop :=
  Accepts s ep u .object addr v (bytesOf addr v) → Gives c s fun t =>
    Lands s t u (.action addr v) ∧ Answered t ep ∧ Leaves (one LOAD_ACCESS :: portKeys ep) [.landing, .resp] s t

end Sys2Proof.Machine
end

