-- ==== Sys2Proof/Footprint.lean ====
section
/-!
DEFINITION. What each command may change, for claims about what it leaves unchanged: the families of registers and byte strings
that it may write, and the other parts of the state that it may touch. A row that carries a host's write or read may write any
object (its address decides which); claims about accepted writes name what each of those changes.
-/
namespace Sys2Proof.Machine

/-- The families of registers and byte strings that a command may write. -/
def writesOf : Instr → List Span
  | .frameBoundary | .objectWrite _ _ _ | .levelViewWrite _ _ _ _ | .commit _ _ | .discard _ | .syncReceived _ _ |
    .barrierId _ _ | .barrierDone _ | .tenantReset _ _ | .trumpRelease _ _ _ | .requestOff _ _ | .requestOn _ _ |
    .requestPwm _ _ | .clearLockout _ _ | .releaseStanding _ _ | .captureArm _ _ | .swapRequest _ _ _ | .planStart _ _ |
    .planAbort _ _ | .resolveSkip _ _ _ | .resolveRetry _ _ _ | .rsoForceAssert _ _ | .rsoForceRelease _ _ |
    .counterClear _ _ | .enableOn _ _ | .enableOff _ _ | .switchModeOpen _ | .switchModeIdealDiode _ | .switchModeClosed _ |
    .chargeEnableOn _ | .chargeEnableOff _ | .shipArm _ | .shipCancel _ | .assistStart _ | .assistStop _ | .sigmaSample _ |
    .batteryReplaced _ | .vbatBrownout | .vhBrownout _ _ | .vcoreBrownout _ _ | .vioBrownout _ _ | .rstinNLow _ |
    .lockstepMismatch | .criticalMemoryError _ _ | .deviceResetControlDie _ | .deviceResetFull _ | .resetRelease _ |
    .openingResume _ | .journalAck _ | .powerModeRun _ | .powerModeHold _ | .park _ | .parkPowerDown | .parkExit _ |
    .wakeClear _ _ | .faultMessage _ | .houseStopReset | .queryKind _ _ | .pop _ _ | .flush _ _ | .arm _ _ | .hold _ |
    .holdRelease _ | .deviceHoldSet _ | .deviceHoldClear _ | .fence _ _ | .streamRun _ _ | .streamStop _ _ |
    .tailWrite _ _ _ _ | .descriptorStart _ | .descriptorComplete _ _ _ | .usdoRequest _ _ _ _ _ _ | .rpdoReceived _ _ |
    .transferRead _ _ _ _ | .transferWrite _ _ _ _ | .read _ _ _ _ | .write _ _ _ _ | .readAt _ _ _ _ _ |
    .writeBuffer _ _ _ _ | .transferStart _ | .trigger _ _ | .watchdogArm _ _ _ | .answer _ _ _ | .adjourn _ _ _ |
    .wdxExpiry | .rtcSet _ _ | .ponAssert _ | .ponRelease _ | .attestChallenge _ _ | .sessionOpen _ _ | .sessionClose _ |
    .authWrite _ _ | .authReadRequest _ _ | .peakRead _ _ _ =>
    anyKey :: []
  | .measurementRound k _ _ _ _ _ _ _ =>
    one (BANK.BANK_FLAGS k.val) :: one BATTERY_SWITCH.FORWARD :: each BLANK_UNTIL :: each BSW_CNT :: each2 BSW_SUM ::
    each2 CAP_RING :: each CHANNEL_PROTECTION.MODEL_FLAGS :: each GATE :: one (HEAD_LAST k.val) :: each2 HEAD_SUM ::
    each LAMP_AT :: each OVER_NOW :: one (PUMP_START k.val) :: one (PUMP_STOP_AT k.val) :: each PWM_CNT :: each PWM_HELD ::
    each PWM_HIGH :: each PWM_SQ :: each RESET_OUTPUT.ASSERT_COUNT :: each RESET_OUTPUT.LAST_CHANGE_STAMP ::
    each RESET_OUTPUT.OUTPUT :: each RISE_AT :: one (ROUND_NO k.val) :: each RSO_GOOD_SINCE :: each2 SAMPLE_I ::
    each2 SAMPLE_V :: each SLOT_SKIPPED :: one SW_ON_AT :: each2 VBUS_CNT :: one (VBUS_LAST k.val) :: each2 VBUS_SUM ::
    each WIN :: each2 WIN_ACC :: each2 WIN_COUNT :: each WIN_LAST :: []
  | .uplinkFrameReceived d _ _ _ =>
    one (AMLOR_LINK.BLOCK_ERRORS d.val) :: one (AMLOR_LINK.INVALID_FRAMES d.val) :: one (BAD_FRAMES d.val) ::
    each2 RECEIVED :: one (REF_TOLD d.val) :: []
  | .downlinkFrameReceived d _ _ _ =>
    one (AMLOR_LINK.BLOCK_ERRORS d.val) :: one (AMLOR_LINK.INVALID_FRAMES d.val) :: one (DIE_OFFSET d.val) ::
    one (DL_BAD d.val) :: one (DRIFT_DUE d.val) :: one (LAST_VALID d.val) :: one (LOSS_STOOD d.val) :: []
  | .eventBlockReceived _ =>
    one PARK_STAGE :: one PON_CONTROL.PON_CHANGES :: one PON_CONTROL.PON_LAST_CAUSE :: one PON_CONTROL.PON_STATE ::
    one POWER_STATE.PARK_ABORTS :: one POWER_STATE.STATE :: one WAKE_CONFIG.WAKE_LATCHED :: one WAKE_PENDING :: []
  | .linkRetrain d =>
    one (AMLOR_LINK.LINK_STATE d.val) :: one (AMLOR_LINK.RETRAINS d.val) :: one (BAD_FRAMES d.val) :: each SEEN :: []
  | .linkTrained d _ =>
    one (AMLOR_LINK.LINK_STATE d.val) :: one (BAD_FRAMES d.val) :: one (DIE_OFFSET d.val) :: one (DL_BAD d.val) ::
    each STAND_ENTRY :: each STAND_EVENTS :: one (STAND_TRIGGERS d.val) :: []
  | .linkLossStanding d =>
    each ADMIT_KIND :: one (AMLOR_LINK.LOSS_EVENTS d) :: each BANK.BANK_FLAGS :: each BLANK_UNTIL ::
    each CASTLING_PAIR.SWAP_RESULT :: each CASTLING_PAIR.SWAP_STATE :: each CELL :: each CHANNEL_CONFIG.REQUEST ::
    each CHANNEL_PROTECTION.MODEL_FLAGS :: each CHANNEL_STATUS.FLAGS :: each CHANNEL_STATUS.STANDING_CAUSE ::
    each CHANNEL_STATUS.STANDING_GATE :: each CHANNEL_STATUS.STATE :: each CHANNEL_SUPERVISION.RETRIES ::
    each CHANNEL_SUPERVISION.STARTS :: each FOLD_WAIT :: each GATE :: each LAMP_AT :: each LAMP_LOW :: each LAMP_TOLD ::
    each LATCH :: each LIMIT_EPISODE :: each LIMIT_LEFT :: each LIMIT_SINCE :: each LIMIT_SPENT :: one (LOSS_STOOD d) ::
    each ND_GROUP :: each PEND :: each PUMP_START :: each PUMP_STOP_AT :: each PWM_HIGH :: each RAMP_RETRY ::
    each RAMP_START :: each RESET_OUTPUT.ASSERT_COUNT :: each RESET_OUTPUT.LAST_CHANGE_STAMP :: each RESET_OUTPUT.OUTPUT ::
    each RSO_GOOD_SINCE :: each RUN_SINCE :: each RUN_SPENT :: each SAFE_WAIT :: each STAND_ENTRY :: each STAND_EVENTS ::
    one (STAND_TRIGGERS d) :: each START_AT :: each STORED_WAIT :: each SWAP_IN :: each TRIP_STATE :: each WIN ::
    (each fun n => inForce (CHANNEL_CONFIG.REQUEST n)) :: []
  | .controlDieResetIndication =>
    each ADMIT_KIND :: each BANK.BANK_FLAGS :: each BLANK_UNTIL :: each CASTLING_PAIR.SWAP_RESULT ::
    each CASTLING_PAIR.SWAP_STATE :: each CELL :: each CHANNEL_CONFIG.REQUEST :: each CHANNEL_PROTECTION.MODEL_FLAGS ::
    each CHANNEL_STATUS.FLAGS :: each CHANNEL_STATUS.STANDING_CAUSE :: each CHANNEL_STATUS.STANDING_GATE ::
    each CHANNEL_STATUS.STATE :: each CHANNEL_SUPERVISION.RETRIES :: each CHANNEL_SUPERVISION.STARTS :: each FOLD_WAIT ::
    each GATE :: each LAMP_AT :: each LAMP_LOW :: each LAMP_TOLD :: each LATCH :: each LIMIT_EPISODE :: each LIMIT_LEFT ::
    each LIMIT_SINCE :: each LIMIT_SPENT :: each ND_GROUP :: each PEND :: each PUMP_START :: each PUMP_STOP_AT ::
    each PWM_HIGH :: each RAMP_RETRY :: each RAMP_START :: each RESET_OUTPUT.ASSERT_COUNT ::
    each RESET_OUTPUT.LAST_CHANGE_STAMP :: each RESET_OUTPUT.OUTPUT :: each RSO_GOOD_SINCE :: each RUN_SINCE ::
    each RUN_SPENT :: each SAFE_WAIT :: each STAND_ENTRY :: each STAND_EVENTS :: each STAND_TRIGGERS :: each START_AT ::
    each STORED_WAIT :: each SWAP_IN :: each TRIP_STATE :: each WIN :: (each fun n => inForce (CHANNEL_CONFIG.REQUEST n)) :: []
  | .standBlock d =>
    each ADMIT_KIND :: each BANK.BANK_FLAGS :: each BLANK_UNTIL :: each CASTLING_PAIR.SWAP_RESULT ::
    each CASTLING_PAIR.SWAP_STATE :: each CELL :: each CHANNEL_CONFIG.REQUEST :: each CHANNEL_PROTECTION.MODEL_FLAGS ::
    each CHANNEL_STATUS.FLAGS :: each CHANNEL_STATUS.STANDING_CAUSE :: each CHANNEL_STATUS.STANDING_GATE ::
    each CHANNEL_STATUS.STATE :: each CHANNEL_SUPERVISION.RETRIES :: each CHANNEL_SUPERVISION.STARTS :: each FOLD_WAIT ::
    each GATE :: each LAMP_AT :: each LAMP_LOW :: each LAMP_TOLD :: each LATCH :: each LIMIT_EPISODE :: each LIMIT_LEFT ::
    each LIMIT_SINCE :: each LIMIT_SPENT :: each ND_GROUP :: each PEND :: each PUMP_START :: each PUMP_STOP_AT ::
    each PWM_HIGH :: each RAMP_RETRY :: each RAMP_START :: each RESET_OUTPUT.ASSERT_COUNT ::
    each RESET_OUTPUT.LAST_CHANGE_STAMP :: each RESET_OUTPUT.OUTPUT :: each RSO_GOOD_SINCE :: each RUN_SINCE ::
    each RUN_SPENT :: each SAFE_WAIT :: one (STAND_DUE d) :: each STAND_ENTRY :: each STAND_EVENTS ::
    one (STAND_TRIGGERS d) :: each START_AT :: each STORED_WAIT :: each SWAP_IN :: each TRIP_STATE :: each WIN ::
    (each fun n => inForce (CHANNEL_CONFIG.REQUEST n)) :: []
  | .referenceEdgeLoss | .referenceFrequencyCheck _ =>
    one CLOCK_STATUS.FALLBACK_COUNT :: one CLOCK_STATUS.ROOT_SOURCE :: []
  | .dieReferenceLoss d =>
    one (AMLOR_LINK.DIE_REF_SOURCE d.val) :: one (REF_TOLD d.val) :: []
  | .commitStageAck t =>
    one (CM_STAMP t.val) :: one (COMMIT_CONTROL.LAST_OBJECT t.val) :: one (COMMIT_CONTROL.LAST_REASON t.val) ::
    one (COMMIT_CONTROL.STATUS t.val) :: []
  | .commitStageAckTimeout t =>
    one (COMMIT_CONTROL.LAST_OBJECT t.val) :: one (COMMIT_CONTROL.LAST_REASON t.val) :: one (COMMIT_CONTROL.STATUS t.val) :: []
  | .syncTimeout _ =>
    each COMMIT_CONTROL.LAST_OBJECT :: each COMMIT_CONTROL.LAST_REASON :: each COMMIT_CONTROL.STATUS :: []
  | .auditSweepStart =>
    each SW_APPLIED :: one SW_AT :: one SW_DEVICE :: one SW_DIES :: each SW_EXPECT :: each SW_GEN :: one SW_GLOBAL ::
    one SW_RUNS :: each SW_TENANT :: []
  | .auditSweepEnd _ =>
    one DEVICE_DIGEST.DIGEST :: one DEVICE_DIGEST.DRIFT_EVENTS :: one DEVICE_DIGEST.SNAPSHOT_FRAME ::
    one DEVICE_DIGEST.SNAPSHOT_GENERATION :: one DEVICE_DIGEST.SWEEPS :: each DIE_DIGEST.APPLIED_CD ::
    each DIE_DIGEST.EXPECTED_CD :: each DRIFT_DUE :: one SW_DRIFT :: one SW_RUNS :: each TENANT_DIGEST.DIGEST_TN ::
    each TENANT_GENERATION.SNAP_GEN_TN :: []
  | .dieRecheck d _ =>
    one (DIE_DIGEST.APPLIED_CD d.val) :: one (DIE_DIGEST.EXPECTED_CD d.val) :: one (DRIFT_DUE d.val) :: []
  | .rampDone n _ _ _ _ =>
    one (BANK.BANK_FLAGS ((bankOf n))) :: each CASTLING_PAIR.SWAP_STATE :: one (CELL n) ::
    one (CHANNEL_PROTECTION.MODEL_FLAGS n) :: one (CHANNEL_STATUS.FLAGS n) :: one (CHANNEL_STATUS.STANDING_GATE n) ::
    one (CHANNEL_STATUS.STATE n) :: one (GATE n) :: one (LAMP_LOW n) :: one (LAMP_TOLD n) :: one (LATCH n) ::
    one (LIMIT_EPISODE n) :: one (LIMIT_LEFT n) :: one (LIMIT_SINCE n) :: one (LIMIT_SPENT n) :: one (PEND n) ::
    one (PUMP_START ((bankOf n))) :: one (PUMP_STOP_AT ((bankOf n))) :: one (PWM_NEXT n) ::
    each RESET_OUTPUT.ASSERT_COUNT :: each RESET_OUTPUT.LAST_CHANGE_STAMP :: each RESET_OUTPUT.OUTPUT ::
    each RSO_GOOD_SINCE :: one (RUN_SINCE n) :: one (RUN_SPENT n) :: each SWAP_ON_AT :: each SWAP_OVER :: one (WIN n) :: []
  | .rampTimeout n _ _ | .limitTimeoutTrip n =>
    each ADMIT_KIND :: each BANK.BANK_FLAGS :: each CASTLING_PAIR.SWAP_RESULT :: each CASTLING_PAIR.SWAP_STATE ::
    each CELL :: each CHANNEL_CONFIG.REQUEST :: each CHANNEL_PROTECTION.MODEL_FLAGS :: each CHANNEL_STATUS.FLAGS ::
    each CHANNEL_STATUS.STANDING_GATE :: each CHANNEL_STATUS.STATE :: one (CHANNEL_STATUS.TRIP_CAUSE n) ::
    one (CHANNEL_SUPERVISION.HARD_TRIPS n) :: one (CHANNEL_SUPERVISION.MODEL_TRIPS n) ::
    one (CHANNEL_SUPERVISION.TIMEOUT_TRIPS n) :: each FOLD_WAIT :: each GATE :: each LAMP_LOW :: each LAMP_TOLD ::
    each LATCH :: one (LIFE_NEW n) :: each LIMIT_EPISODE :: each LIMIT_LEFT :: each LIMIT_SINCE :: each LIMIT_SPENT ::
    each PEND :: each PUMP_START :: each PUMP_STOP_AT :: each PWM_HIGH :: each RESET_OUTPUT.ASSERT_COUNT ::
    each RESET_OUTPUT.LAST_CHANGE_STAMP :: each RESET_OUTPUT.OUTPUT :: each RSO_GOOD_SINCE :: each RUN_SINCE ::
    each RUN_SPENT :: one (STAND_EVENTS n) :: each START_AT :: each STORED_WAIT :: each SWAP_IN :: each SWAP_SIDE ::
    one (TRIP_FRAME n) :: each TRIP_STATE :: one (WAIT_END n) :: each WIN ::
    (each fun n => inForce (CHANNEL_CONFIG.REQUEST n)) :: []
  | .pumpStartTimeout k | .pumpHeadroomLow k _ | .pumpReady k _ =>
    one (BANK.BANK_FLAGS k) :: each BLANK_UNTIL :: each CHANNEL_PROTECTION.MODEL_FLAGS :: each CHANNEL_STATUS.FLAGS ::
    each GATE :: each LAMP_AT :: each PWM_HELD :: each PWM_HIGH :: each RISE_AT :: []
  | .pumpStop k =>
    one (BANK.BANK_FLAGS k) :: each CHANNEL_STATUS.FLAGS :: one (PUMP_STOP_AT k) :: []
  | .busUndervoltage k _ | .busUvCleared k _ =>
    one (BANK.BANK_FLAGS k) :: each BLANK_UNTIL :: each CHANNEL_PROTECTION.MODEL_FLAGS :: each CHANNEL_STATUS.FLAGS ::
    each GATE :: each LAMP_AT :: one (PUMP_START k) :: one (PUMP_STOP_AT k) :: each PWM_HELD :: each PWM_HIGH ::
    each RISE_AT :: []
  | .calibrationPositionEnd k _ _ _ _ =>
    one (BANK.BANK_FLAGS k) :: each CAL_AT :: each2 CAL_DIFF :: each2 CAL_GAIN :: each2 CAL_OFFSET :: one (CAL_PAUSED k) ::
    one (CAL_POS k) :: one (CAL_POS_AT k) :: each CHANNEL_STATUS.FLAGS :: []
  | .pwmPhaseInstant n =>
    one (BANK.BANK_FLAGS ((bankOf n))) :: one (BLANK_UNTIL n) :: one (CELL n) :: one (CHANNEL_PROTECTION.MODEL_FLAGS n) ::
    one (CHANNEL_STATUS.FLAGS n) :: one (CHANNEL_STATUS.STANDING_GATE n) :: one (CHANNEL_STATUS.STATE n) :: one (GATE n) ::
    one (LAMP_AT n) :: one (LAMP_LOW n) :: one (LAMP_TOLD n) :: one (LATCH n) :: one (LIMIT_EPISODE n) ::
    one (LIMIT_LEFT n) :: one (LIMIT_SINCE n) :: one (LIMIT_SPENT n) :: one (PEND n) :: one (PUMP_START ((bankOf n))) ::
    one (PUMP_STOP_AT ((bankOf n))) :: one (PWM_AT n) :: one (PWM_CNT n) :: one (PWM_HELD n) :: one (PWM_HIGH n) ::
    one (PWM_NEXT n) :: one (PWM_OFF n) :: one (PWM_PERIODS n) :: one (PWM_RMS n) :: one (PWM_SQ n) ::
    each RESET_OUTPUT.ASSERT_COUNT :: each RESET_OUTPUT.LAST_CHANGE_STAMP :: each RESET_OUTPUT.OUTPUT :: one (RISE_AT n) ::
    each RSO_GOOD_SINCE :: one (RUN_SINCE n) :: one (RUN_SPENT n) :: one (WIN n) :: []
  | .pwmOffEdge n =>
    one (BANK.BANK_FLAGS ((bankOf n))) :: one (CELL n) :: one (CHANNEL_PROTECTION.MODEL_FLAGS n) ::
    one (CHANNEL_STATUS.FLAGS n) :: one (CHANNEL_STATUS.STANDING_GATE n) :: one (CHANNEL_STATUS.STATE n) :: one (GATE n) ::
    one (LAMP_LOW n) :: one (LAMP_TOLD n) :: one (LATCH n) :: one (LIMIT_EPISODE n) :: one (LIMIT_LEFT n) ::
    one (LIMIT_SINCE n) :: one (LIMIT_SPENT n) :: one (PEND n) :: one (PUMP_START ((bankOf n))) ::
    one (PUMP_STOP_AT ((bankOf n))) :: one (PWM_HELD n) :: one (PWM_HIGH n) :: each RESET_OUTPUT.ASSERT_COUNT ::
    each RESET_OUTPUT.LAST_CHANGE_STAMP :: each RESET_OUTPUT.OUTPUT :: each RSO_GOOD_SINCE :: one (RUN_SINCE n) ::
    one (RUN_SPENT n) :: one (WIN n) :: []
  | .captureTrigger d =>
    one (BANK.CAPTURE_STATE (8 * d)) :: one (BANK.TRIGGER_STAMP (8 * d)) :: each2 CAP_RING :: []
  | .captureComplete d =>
    one (BANK.CAPTURE_DATA (8 * d)) :: one (BANK.CAPTURE_STATE (8 * d)) :: []
  | .logicDomainFail d =>
    each ADMIT_KIND :: one ASSIST_STATUS.ASSIST_STATE :: one AS_CLOSED :: one AS_END :: one AS_TIME ::
    each BANK.BANK_FLAGS :: each CELL :: each CHANNEL_PROTECTION.MODEL_FLAGS :: each CHANNEL_STATUS.FLAGS ::
    one (CONVERTER_STATUS.CONV_FLAGS 2) :: each GATE :: one (HEART_LOST d) :: each LATCH :: each LATCH_PULLED ::
    one (LOGIC_OFF d) :: one (LOGIC_OFF_AT d) :: one (OVR_END 2) :: one (OVR_ON 2) :: each PEND :: each PUMP_START ::
    each PUMP_STOP_AT :: each PWM_HIGH :: each SAFE_WAIT :: each START_AT :: each STORED_WAIT :: []
  | .anchorBrownout d =>
    each ADMIT_KIND :: each BANK.BANK_FLAGS :: each BLANK_UNTIL :: each CAL_AT :: each CASTLING_PAIR.SWAP_RESULT ::
    each CASTLING_PAIR.SWAP_STATE :: each CELL :: each CHANNEL_CONFIG.REQUEST :: each CHANNEL_PROTECTION.MODEL_FLAGS ::
    each CHANNEL_STATUS.FLAGS :: each CHANNEL_STATUS.STANDING_CAUSE :: each CHANNEL_STATUS.STANDING_GATE ::
    each CHANNEL_STATUS.STATE :: each CHANNEL_STATUS.TRIP_CAUSE :: each CHANNEL_SUPERVISION.DISCHARGE_TIMEOUTS ::
    each CHANNEL_SUPERVISION.HARD_TRIPS :: each CHANNEL_SUPERVISION.LIMIT_ENTRIES :: each CHANNEL_SUPERVISION.MODEL_TRIPS ::
    each CHANNEL_SUPERVISION.OV_COUNT :: each CHANNEL_SUPERVISION.RETRIES :: each CHANNEL_SUPERVISION.STARTS ::
    each CHANNEL_SUPERVISION.TIMEOUT_TRIPS :: each CHANNEL_SUPERVISION.UV_COUNT :: each FET1 :: each FET2 :: each FET_NOW ::
    each FOLD_WAIT :: each FRAMES_SEEN :: each GATE :: each LAMP_AT :: each LAMP_LOW :: each LAMP_TOLD :: each LATCH ::
    each LATCH_PULLED :: each LIFE_NEW :: each LIMIT_EPISODE :: each LIMIT_LEFT :: each LIMIT_SINCE :: each LIMIT_SPENT ::
    one (LOGIC_OFF d) :: each ND_GROUP :: each PEND :: each PUMP_START :: each PUMP_STOP_AT :: each PWM_HIGH ::
    each RAMP_RETRY :: each RAMP_START :: each RESET_OUTPUT.ASSERT_COUNT :: each RESET_OUTPUT.LAST_CHANGE_STAMP ::
    each RESET_OUTPUT.OUTPUT :: each RSO_GOOD_SINCE :: each RUN_SINCE :: each RUN_SPENT :: each SAFE_WAIT ::
    each STAND_ENTRY :: each STAND_EVENTS :: one (STAND_TRIGGERS d) :: each START_AT :: each STORED_WAIT :: each SWAP_IN ::
    each TRIP_FRAME :: each TRIP_STATE :: each WAIT_END :: each WIN :: each WIRE1 :: each WIRE2 :: each WIRE_NOW ::
    (each fun n => inForce (CHANNEL_CONFIG.REQUEST n)) :: []
  | .hardShortTrip n _ _ =>
    each ADMIT_KIND :: each BANK.BANK_FLAGS :: each CAP_SEEN :: each CASTLING_PAIR.SWAP_RESULT ::
    each CASTLING_PAIR.SWAP_STATE :: each CELL :: each CHANNEL_CONFIG.REQUEST :: each CHANNEL_PROTECTION.MODEL_FLAGS ::
    each CHANNEL_STATUS.FLAGS :: each CHANNEL_STATUS.STANDING_GATE :: each CHANNEL_STATUS.STATE ::
    one (CHANNEL_STATUS.TRIP_CAUSE n) :: one (CHANNEL_SUPERVISION.HARD_TRIPS n) ::
    one (CHANNEL_SUPERVISION.MODEL_TRIPS n) :: one (CHANNEL_SUPERVISION.TIMEOUT_TRIPS n) :: each FOLD_WAIT :: each GATE ::
    each LAMP_LOW :: each LAMP_TOLD :: each LATCH :: one (LATCH_PULLED n) :: one (LIFE_NEW n) :: each LIMIT_EPISODE ::
    each LIMIT_LEFT :: each LIMIT_SINCE :: each LIMIT_SPENT :: each PEND :: each PUMP_START :: each PUMP_STOP_AT ::
    each PWM_HIGH :: each RESET_OUTPUT.ASSERT_COUNT :: each RESET_OUTPUT.LAST_CHANGE_STAMP :: each RESET_OUTPUT.OUTPUT ::
    each RSO_GOOD_SINCE :: each RUN_SINCE :: each RUN_SPENT :: one (STAND_EVENTS n) :: each START_AT :: each STORED_WAIT ::
    each SWAP_IN :: each SWAP_SIDE :: one (TRIP_FRAME n) :: each TRIP_STATE :: one (WAIT_END n) :: each WIN ::
    (each fun n => inForce (CHANNEL_CONFIG.REQUEST n)) :: []
  | .limitEntered n _ =>
    one (BANK.BANK_FLAGS ((bankOf n))) :: each CAP_SEEN :: one (CELL n) :: one (CHANNEL_PROTECTION.MODEL_FLAGS n) ::
    one (CHANNEL_STATUS.FLAGS n) :: one (CHANNEL_STATUS.STANDING_GATE n) :: one (CHANNEL_STATUS.STATE n) ::
    one (CHANNEL_SUPERVISION.LIMIT_ENTRIES n) :: one (GATE n) :: one (LAMP_LOW n) :: one (LAMP_TOLD n) :: one (LATCH n) ::
    one (LIMIT_EPISODE n) :: one (LIMIT_FROM n) :: one (LIMIT_LEFT n) :: one (LIMIT_SINCE n) :: one (LIMIT_SPENT n) ::
    one (PUMP_START ((bankOf n))) :: one (PUMP_STOP_AT ((bankOf n))) :: each RESET_OUTPUT.ASSERT_COUNT ::
    each RESET_OUTPUT.LAST_CHANGE_STAMP :: each RESET_OUTPUT.OUTPUT :: each RSO_GOOD_SINCE :: one (RUN_SINCE n) ::
    one (RUN_SPENT n) :: one (STAND_EVENTS n) :: one (WIN n) :: []
  | .limitSaturatedExit n _ _ =>
    one (BANK.BANK_FLAGS ((bankOf n))) :: one (CELL n) :: one (CHANNEL_PROTECTION.MODEL_FLAGS n) ::
    one (CHANNEL_STATUS.FLAGS n) :: one (CHANNEL_STATUS.STANDING_GATE n) :: one (CHANNEL_STATUS.STATE n) :: one (GATE n) ::
    one (LAMP_LOW n) :: one (LAMP_TOLD n) :: one (LATCH n) :: one (LIMIT_EPISODE n) :: one (LIMIT_LEFT n) ::
    one (LIMIT_SINCE n) :: one (LIMIT_SPENT n) :: one (PUMP_START ((bankOf n))) :: one (PUMP_STOP_AT ((bankOf n))) ::
    each RESET_OUTPUT.ASSERT_COUNT :: each RESET_OUTPUT.LAST_CHANGE_STAMP :: each RESET_OUTPUT.OUTPUT ::
    each RSO_GOOD_SINCE :: one (RUN_SINCE n) :: one (RUN_SPENT n) :: one (WIN n) :: []
  | .tripSettled n _ =>
    one (ADMIT_KIND n) :: one (BANK.BANK_FLAGS ((bankOf n))) :: one (CELL n) :: one (CHANNEL_PROTECTION.MODEL_FLAGS n) ::
    one (CHANNEL_STATUS.FLAGS n) :: one (CHANNEL_STATUS.STANDING_GATE n) :: one (CHANNEL_STATUS.STATE n) :: one (GATE n) ::
    one (LAMP_LOW n) :: one (LAMP_TOLD n) :: one (LATCH n) :: one (LIMIT_EPISODE n) :: one (LIMIT_LEFT n) ::
    one (LIMIT_SINCE n) :: one (LIMIT_SPENT n) :: one (PEND n) :: one (PUMP_START ((bankOf n))) ::
    one (PUMP_STOP_AT ((bankOf n))) :: one (PWM_HIGH n) :: each RESET_OUTPUT.ASSERT_COUNT ::
    each RESET_OUTPUT.LAST_CHANGE_STAMP :: each RESET_OUTPUT.OUTPUT :: each RSO_GOOD_SINCE :: one (RUN_SINCE n) ::
    one (RUN_SPENT n) :: one (START_AT n) :: one (WIN n) :: []
  | .retryDue n =>
    one (ADMIT_KIND n) :: one (ADMIT_SINCE n) :: one (BANK.BANK_FLAGS ((bankOf n))) :: one (BLANK_UNTIL n) ::
    one (CELL n) :: one (CHANNEL_PROTECTION.ADMIT_WAIT n) :: one (CHANNEL_PROTECTION.MODEL_FLAGS n) ::
    one (CHANNEL_PROTECTION.RETRIES_LEFT n) :: one (CHANNEL_STATUS.FLAGS n) :: one (CHANNEL_STATUS.STANDING_GATE n) ::
    one (CHANNEL_STATUS.STATE n) :: one (CHANNEL_SUPERVISION.RETRIES n) :: one (CHANNEL_SUPERVISION.STARTS n) ::
    one (GATE n) :: one (LAMP_AT n) :: one (LAMP_LOW n) :: one (LAMP_TOLD n) :: one (LATCH n) :: one (LIMIT_EPISODE n) ::
    one (LIMIT_LEFT n) :: one (LIMIT_SINCE n) :: one (LIMIT_SPENT n) :: one (ND_GROUP n) :: one (PUMP_START ((bankOf n))) ::
    one (PUMP_STOP_AT ((bankOf n))) :: one (RAMP_RETRY n) :: one (RAMP_START n) :: each RESET_OUTPUT.ASSERT_COUNT ::
    each RESET_OUTPUT.LAST_CHANGE_STAMP :: each RESET_OUTPUT.OUTPUT :: one (RETRY_STRETCH n) :: each RSO_GOOD_SINCE ::
    one (RUN_SINCE n) :: one (RUN_SPENT n) :: one (START_AT n) :: one (WIN n) :: []
  | .retryResetTime n =>
    one (CHANNEL_PROTECTION.RETRIES_LEFT n) :: []
  | .lampEnvelopeEnd n =>
    one (CHANNEL_PROTECTION.MODEL_FLAGS n) :: []
  | .openLamp n =>
    one (CHANNEL_PROTECTION.MODEL_FLAGS n) :: one (LAMP_TOLD n) :: []
  | .swapOverlapEnd p =>
    each ADMIT_KIND :: each BANK.BANK_FLAGS :: one (CASTLING_PAIR.ACTIVE p) :: one (CASTLING_PAIR.SWAP_COUNT p) ::
    one (CASTLING_PAIR.SWAP_RESULT p) :: one (CASTLING_PAIR.SWAP_STATE p) :: each CELL :: each CHANNEL_CONFIG.REQUEST ::
    each CHANNEL_PROTECTION.MODEL_FLAGS :: each CHANNEL_STATUS.FLAGS :: each CHANNEL_STATUS.STANDING_GATE ::
    each CHANNEL_STATUS.STATE :: each GATE :: each LAMP_LOW :: each LAMP_TOLD :: each LATCH :: each LIMIT_EPISODE ::
    each LIMIT_LEFT :: each LIMIT_SINCE :: each LIMIT_SPENT :: each PEND :: each PUMP_START :: each PUMP_STOP_AT ::
    each PWM_HIGH :: each RESET_OUTPUT.ASSERT_COUNT :: each RESET_OUTPUT.LAST_CHANGE_STAMP :: each RESET_OUTPUT.OUTPUT ::
    each RSO_GOOD_SINCE :: each RUN_SINCE :: each RUN_SPENT :: each START_AT :: each STORED_WAIT :: one (SWAP_IN p) ::
    each TRIP_STATE :: each WIN :: (each fun n => inForce (CHANNEL_CONFIG.REQUEST n)) :: []
  | .swapTimeout p =>
    each ADMIT_KIND :: each BANK.BANK_FLAGS :: one (CASTLING_PAIR.SWAP_RESULT p) :: one (CASTLING_PAIR.SWAP_STATE p) ::
    each CELL :: each CHANNEL_CONFIG.REQUEST :: each CHANNEL_PROTECTION.MODEL_FLAGS :: each CHANNEL_STATUS.FLAGS ::
    each CHANNEL_STATUS.STANDING_GATE :: each CHANNEL_STATUS.STATE :: each FOLD_WAIT :: each GATE :: each LAMP_LOW ::
    each LAMP_TOLD :: each LATCH :: each LIMIT_EPISODE :: each LIMIT_LEFT :: each LIMIT_SINCE :: each LIMIT_SPENT ::
    each PEND :: each PUMP_START :: each PUMP_STOP_AT :: each PWM_HIGH :: each RESET_OUTPUT.ASSERT_COUNT ::
    each RESET_OUTPUT.LAST_CHANGE_STAMP :: each RESET_OUTPUT.OUTPUT :: each RSO_GOOD_SINCE :: each RUN_SINCE ::
    each RUN_SPENT :: each START_AT :: each STORED_WAIT :: one (SWAP_IN p) :: each TRIP_STATE :: each WIN ::
    (each fun n => inForce (CHANNEL_CONFIG.REQUEST n)) :: []
  | .stepDelayEnd p i =>
    one BATTERY_RECORD.SEQUENCE :: each CHANNEL_CONFIG.REQUEST :: each LIFE_NEW :: each LIFE_STORED ::
    one PON_CONTROL.PON_CHANGES :: one PON_CONTROL.PON_LAST_CAUSE :: one PON_CONTROL.PON_STATE :: each RESET_OUTPUT.FORCE ::
    each STEP_ACT_AT :: each STEP_AGAIN :: each STEP_MET :: each STEP_MOVED_AT :: each STEP_READY_AT :: each STEP_RUNS ::
    each STEP_SEEN_AT :: each STEP_SNAP :: each STEP_SPENT :: one STORE_BUSY :: each STORE_COPY :: each STORE_SEQ ::
    one STORE_SIDE :: (each fun p => ofPlan p OPENING_PLAN.END_FRAME) :: (each fun p => ofPlan p OPENING_PLAN.PLAN_STATE) ::
    (each fun p => ofPlan p OPENING_PLAN.RESULT) :: (each fun p => ofPlan p OPENING_PLAN.SKIPPED_STEPS) ::
    (each2 fun p i => ofPlan p (OPENING_STEP_STATE.STATE i)) :: []
  | .stalemate p i =>
    one BATTERY_RECORD.SEQUENCE :: each CHANNEL_CONFIG.REQUEST :: each LIFE_NEW :: each LIFE_STORED ::
    one PON_CONTROL.PON_CHANGES :: one PON_CONTROL.PON_LAST_CAUSE :: one PON_CONTROL.PON_STATE :: each RESET_OUTPUT.FORCE ::
    each STEP_ACT_AT :: each STEP_AGAIN :: each STEP_MET :: each STEP_MOVED_AT :: each STEP_READY_AT :: each STEP_RUNS ::
    each STEP_SEEN_AT :: each STEP_SNAP :: each STEP_SPENT :: one STORE_BUSY :: each STORE_COPY :: each STORE_SEQ ::
    one STORE_SIDE :: (each fun p => ofPlan p OPENING_PLAN.END_FRAME) :: (each fun p => ofPlan p OPENING_PLAN.PLAN_STATE) ::
    (each fun p => ofPlan p OPENING_PLAN.RESULT) :: (each fun p => ofPlan p OPENING_PLAN.SKIPPED_STEPS) ::
    (each fun p => ofPlan p OPENING_PLAN.STALEMATES) :: (each2 fun p i => ofPlan p (OPENING_STEP_STATE.STATE i)) :: []
  | .dischargeTimeout p i =>
    one BATTERY_RECORD.SEQUENCE :: each CHANNEL_CONFIG.REQUEST :: each CHANNEL_SUPERVISION.DISCHARGE_TIMEOUTS ::
    each LIFE_NEW :: each LIFE_STORED :: each ND_GROUP :: one PON_CONTROL.PON_CHANGES :: one PON_CONTROL.PON_LAST_CAUSE ::
    one PON_CONTROL.PON_STATE :: each RESET_OUTPUT.FORCE :: each STEP_ACT_AT :: each STEP_AGAIN :: each STEP_MET ::
    each STEP_MOVED_AT :: each STEP_READY_AT :: each STEP_RUNS :: each STEP_SEEN_AT :: each STEP_SNAP :: each STEP_SPENT ::
    one STORE_BUSY :: each STORE_COPY :: each STORE_SEQ :: one STORE_SIDE :: each WIN ::
    (each fun p => ofPlan p OPENING_PLAN.END_FRAME) :: (each fun p => ofPlan p OPENING_PLAN.PLAN_STATE) ::
    (each fun p => ofPlan p OPENING_PLAN.RESULT) :: (each fun p => ofPlan p OPENING_PLAN.SKIPPED_STEPS) ::
    (each2 fun p i => ofPlan p (OPENING_STEP_STATE.STATE i)) :: []
  | .endgameTrigger _ =>
    each ENDGAME_ARMED :: one ENDGAME_DUE :: []
  | .undervoltage n =>
    one (CHANNEL_SUPERVISION.UV_COUNT n) :: each RESET_OUTPUT.ASSERT_COUNT :: each RESET_OUTPUT.LAST_CHANGE_STAMP ::
    each RESET_OUTPUT.OUTPUT :: each RSO_GOOD_SINCE :: one (WIN n) :: []
  | .overvoltage n =>
    one (CHANNEL_SUPERVISION.OV_COUNT n) :: each RESET_OUTPUT.ASSERT_COUNT :: each RESET_OUTPUT.LAST_CHANGE_STAMP ::
    each RESET_OUTPUT.OUTPUT :: each RSO_GOOD_SINCE :: one (WIN n) :: []
  | .underCleared n | .overCleared n =>
    each RESET_OUTPUT.ASSERT_COUNT :: each RESET_OUTPUT.LAST_CHANGE_STAMP :: each RESET_OUTPUT.OUTPUT ::
    each RSO_GOOD_SINCE :: one (WIN n) :: []
  | .rsoRelease r =>
    one (RESET_OUTPUT.ASSERT_COUNT r) :: one (RESET_OUTPUT.LAST_CHANGE_STAMP r) :: one (RESET_OUTPUT.OUTPUT r) :: []
  | .keeperReportToggle r =>
    one (RESET_OUTPUT.OUTPUT r) :: one (RSO_TOGGLE_AT r) :: []
  | .recordStorePeriodicWrite =>
    one BATTERY_RECORD.SEQUENCE :: each LIFE_NEW :: each LIFE_STORED :: one STORE_AT :: one STORE_BUSY :: each STORE_COPY ::
    each STORE_SEQ :: one STORE_SIDE :: []
  | .batteryRecordWritten =>
    one BATTERY_RECORD.SEQUENCE :: one STORE_BUSY :: each STORE_SEQ :: one STORE_SIDE :: []
  | .converterStartCheck m _ _ =>
    one (CONVERTER.ENABLE m) :: one (CONVERTER_STATUS.CONV_FLAGS m) :: one (CONVERTER_STATUS.START_REFUSE_REASON m) ::
    one (CONV_LAST m) :: one (CONV_PHASE m) :: one (CONV_V0 m) :: each2 CONV_VCNT :: each2 CONV_VSUM ::
    each LANE_STATUS.ADC_OFFSET :: one (inForce (CONVERTER.ENABLE m)) :: []
  | .converterCycleEnd m _ =>
    one ASSIST_STATUS.ASSIST_CURRENT :: one ASSIST_STATUS.ASSIST_RESULT :: one ASSIST_STATUS.ASSIST_STATE ::
    one AS_CLOSED :: one AS_END :: one AS_TIME :: one (CONVERTER_STATUS.CONV_FLAGS m) ::
    one (CONVERTER_STATUS.HICCUPS_LEFT m) :: one (CONVERTER_STATUS.HICCUP_COUNT m) :: one (CONVERTER_STATUS.IREF m) ::
    one (CONVERTER_STATUS.LATCH_CAUSE m) :: one (CONVERTER_STATUS.RECORDS_SKIPPED m) :: one (CONVERTER_STATUS.STATE m) ::
    one (CONVERTER_STATUS.VREF m) :: one (CONV_CUT m) :: one (CONV_CUT_LANES m) :: one (CONV_CYCLE8 m) ::
    one (CONV_CYCLES m) :: one (CONV_E m 0) :: one (CONV_E m 1) :: one (CONV_E m 2) :: one (CONV_FROZEN m) ::
    one (CONV_LAST m) :: one (CONV_LIMIT m) :: one (CONV_PHASE m) :: one (CONV_REF_AT m) :: one (CONV_RESUME m) ::
    one (CONV_RING m) :: one (CONV_RUN_AT m) :: one (CONV_SCNT m) :: one (CONV_SUM m) :: each2 CONV_VCNT ::
    each2 CONV_VSUM :: one (CONV_WRITING m) :: one (CONV_Y m 0) :: one (CONV_Y m 1) :: one (CONV_Y m 2) :: one (CWIN m) ::
    one (CWIN_AT m 0) :: each2 LANE_EDGE :: each LANE_STATUS.I_REF :: one (OVR_END 2) :: one (TRUNC_LONGEST m) ::
    one (TRUNC_SINCE m) :: one (TRUNC_TOLD_AT m) :: []
  | .lanePeriodEnd l _ _ =>
    each CONVERTER_STATUS.CONV_FLAGS :: one (LANE_E l 0) :: one (LANE_E l 1) :: each2 LANE_EDGE :: one (LANE_EXTRA l) ::
    one (LANE_FROM l) :: one (LANE_FROM (l + 1)) :: one (LANE_HELD l) :: one (LANE_I l) :: each2 LANE_ICNT ::
    each2 LANE_ISUM :: one (LANE_NEXT l) :: one (LANE_OFFSET l) :: each2 LANE_RSUM :: one (LANE_STATUS.DUTY l) ::
    one (LANE_U l 0) :: one (LANE_U l 1) :: each TRUNC_LONGEST :: each TRUNC_SINCE :: each TRUNC_TOLD_AT :: []
  | .shareImbalance l =>
    each CONVERTER_STATUS.CONV_FLAGS :: one (SHARE_SET l) :: []
  | .truncationCrossing m _ _ =>
    one (CONVERTER_STATUS.CONV_FLAGS m) :: one (CONVERTER_STATUS.TRUNC_EPISODES m) :: each2 LANE_EDGE :: one (TRUNC_AT m) :: []
  | .truncationLatch m =>
    one ASSIST_STATUS.ASSIST_CURRENT :: one ASSIST_STATUS.ASSIST_RESULT :: one ASSIST_STATUS.ASSIST_STATE ::
    one AS_CLOSED :: one AS_END :: one AS_TIME :: one (CONVERTER_STATUS.CONV_FLAGS m) ::
    one (CONVERTER_STATUS.LATCH_CAUSE m) :: one (CONVERTER_STATUS.RECORDS_SKIPPED m) :: one (CONVERTER_STATUS.STATE m) ::
    one (CONV_FROZEN m) :: one (CONV_LIMIT m) :: one (CONV_PHASE m) :: one (CONV_WRITING m) :: one (CWIN m) ::
    one (CWIN_AT m 0) :: each2 LANE_EDGE :: one (OVR_END 2) :: one (TRUNC_LONGEST m) :: one (TRUNC_SINCE m) ::
    one (TRUNC_TOLD_AT m) :: []
  | .peakCut l _ _ =>
    each CONV_CUT :: each CONV_CUT_LANES :: each2 LANE_EDGE :: one (LANE_STATUS.PEAK_CUTS l) :: []
  | .hiccupResume m _ _ =>
    one (CONVERTER_STATUS.CONV_FLAGS m) :: one (CONV_LAST m) :: one (CONV_PHASE m) :: one (CONV_T0 m) :: one (CONV_V0 m) ::
    each2 CONV_VCNT :: each2 CONV_VSUM :: each LANE_STATUS.ADC_OFFSET :: []
  | .hiccupResetTime m =>
    one (CONVERTER_STATUS.HICCUPS_LEFT m) :: []
  | .faultRecordWritten m =>
    one (CONV_FROZEN m) :: one (CONV_LIFE m) :: one (CONV_WRITING m) :: one (FAULT_RECORD.RECORD m) ::
    one (FAULT_RECORD.RECORD_CAUSE m) :: one (FAULT_RECORD.RECORD_STAMP m) :: []
  | .converterUndervoltage m _ =>
    one (CONVERTER_WINDOW.UV_COUNT m) :: one (CWIN m) :: []
  | .converterOvervoltage m _ =>
    one (CONVERTER_WINDOW.OV_COUNT m) :: one (CWIN m) :: []
  | .switchCloseDone _ | .switchUvCutoff _ _ =>
    one BATTERY_SWITCH.FORWARD :: one BATTERY_SWITCH.MODE_IN_EFFECT :: one BATTERY_SWITCH.OPEN_CAUSE :: one SW_CONN_AT ::
    one SW_ON_AT :: []
  | .closeDeferred _ =>
    one SW_TOLD :: []
  | .idealDiodeReverse _ =>
    one BATTERY_SWITCH.FORWARD :: []
  | .switchShortTrip _ _ =>
    one BATTERY_SWITCH.FORWARD :: one BATTERY_SWITCH.MODE_IN_EFFECT :: one BATTERY_SWITCH.OPEN_CAUSE ::
    one BATTERY_SWITCH.SWITCH_TRIPS :: one SW_CONN_AT :: one SW_MARK :: one SW_ON_AT :: one SW_TRIPPED :: []
  | .closedChargeDrop _ =>
    one BATTERY_SWITCH.MODE :: []
  | .switchDriverPowerUp | .switchDriverPowerLoss =>
    one BATTERY_SWITCH.FORWARD :: one BATTERY_SWITCH.MODE_IN_EFFECT :: one BATTERY_SWITCH.OPEN_CAUSE :: one SW_CONN_AT ::
    one SW_MARK :: one SW_ON_AT :: one SW_UNPOWERED :: []
  | .chargePulseEnd | .pulseCutDiode _ =>
    one CHARGER_STATUS.STAGE :: one CH_STAGE_AT :: one (CONVERTER_STATUS.CONV_FLAGS 1) :: one (OVR_END 1) ::
    one (OVR_MAX 1) :: one (OVR_MIN 1) :: one (OVR_ON 1) :: one (OVR_REF 1) :: []
  | .chargeRestEnd _ _ _ | .holdRestSample _ _ _ =>
    one CHARGER_STATUS.ON_TIME :: one CHARGER_STATUS.PHASE :: one CHARGER_STATUS.PULSES ::
    one CHARGER_STATUS.REST_INVALID :: one CHARGER_STATUS.STAGE :: one CHARGER_STATUS.V_REST :: one CH_CLOCK ::
    one CH_CLOCK_AT :: one CH_FULL :: one CH_HOLD_AT :: one CH_PHASE_AT :: one CH_QUALIFY_AT :: one CH_STAGE_AT ::
    one CH_T_PREV :: one (CONVERTER_STATUS.CONV_FLAGS 1) :: one EST_SHORT :: one EST_SHORT_STAMP :: one (OVR_END 1) ::
    one (OVR_MAX 1) :: one (OVR_MIN 1) :: one (OVR_ON 1) :: one (OVR_REF 1) :: one RS_I :: one RS_OK :: one RS_V :: []
  | .qualifyTimeout | .chargeTimeout =>
    one CHARGER_STATUS.FAULT_CAUSE :: one CHARGER_STATUS.PHASE :: one CHARGER_STATUS.STAGE :: one CH_CLOCK ::
    one CH_CLOCK_AT :: one CH_FULL :: one CH_HOLD_AT :: one CH_PHASE_AT :: one CH_QUALIFY_AT :: one CH_STAGE_AT ::
    one (CONVERTER_STATUS.CONV_FLAGS 1) :: one (OVR_END 1) :: one (OVR_MAX 1) :: one (OVR_MIN 1) :: one (OVR_ON 1) ::
    one (OVR_REF 1) :: []
  | .btnPress =>
    one BTN_FELL :: one BTN_LONG :: one PARK_STAGE :: one PON_CONTROL.PON_CHANGES :: one PON_CONTROL.PON_LAST_CAUSE ::
    one PON_CONTROL.PON_STATE :: one POWER_STATE.PARK_ABORTS :: one POWER_STATE.STATE :: one SHIP_CONTROL.BTN_STATE ::
    one WAKE_CONFIG.WAKE_LATCHED :: one WAKE_PENDING :: []
  | .btnRelease =>
    one ASSIST_STATUS.ASSIST_CURRENT :: one ASSIST_STATUS.ASSIST_RESULT :: one ASSIST_STATUS.ASSIST_STATE ::
    one AS_CLOSED :: one AS_END :: one AS_TIME :: one BATTERY_SWITCH.FORWARD :: one BATTERY_SWITCH.MODE_IN_EFFECT ::
    one BATTERY_SWITCH.OPEN_CAUSE :: one BTN_FELL :: one BTN_LONG :: each CONVERTER.ENABLE ::
    each CONVERTER_STATUS.CONV_FLAGS :: each CONVERTER_STATUS.STATE :: each CONV_LIMIT :: each CONV_PHASE :: each CWIN ::
    each2 CWIN_AT :: each2 LANE_EDGE :: one (OVR_END 2) :: one (OVR_ON 2) :: one PON_CONTROL.PON_CHANGES ::
    one PON_CONTROL.PON_LAST_CAUSE :: one PON_CONTROL.PON_STATE :: one RET_ENTERED :: one SHIP_CONTROL.BTN_STATE ::
    one SHIP_CONTROL.SHIP_ENTRIES :: one SHIP_CONTROL.SHIP_STATE :: one SHIP_IN :: one SW_CONN_AT :: one SW_ON_AT ::
    each TRUNC_LONGEST :: each TRUNC_SINCE :: each TRUNC_TOLD_AT :: one WAKE_PENDING ::
    (each fun n => inForce (CONVERTER.ENABLE n)) :: []
  | .longPress =>
    one ASSIST_STATUS.ASSIST_CURRENT :: one ASSIST_STATUS.ASSIST_RESULT :: one ASSIST_STATUS.ASSIST_STATE ::
    one AS_CLOSED :: one AS_END :: one AS_TIME :: one BATTERY_SWITCH.FORWARD :: one BATTERY_SWITCH.MODE_IN_EFFECT ::
    one BATTERY_SWITCH.OPEN_CAUSE :: one BTN_LONG :: each CONVERTER.ENABLE :: each CONVERTER_STATUS.CONV_FLAGS ::
    each CONVERTER_STATUS.STATE :: each CONV_LIMIT :: each CONV_PHASE :: each CWIN :: each2 CWIN_AT ::
    one KEEPER.FAILED_OPENINGS :: one KEEPER.LAST_HOLD_SECONDS :: one KEEPER.RETRY_SERIES :: one KEEPER_HOLDING ::
    each2 LANE_EDGE :: one LONG_AT :: one (OVR_END 2) :: one (OVR_ON 2) :: one PON_CONTROL.PON_CHANGES ::
    one PON_CONTROL.PON_LAST_CAUSE :: one PON_CONTROL.PON_STATE :: one RESET_CAUSE.CAUSES_SEEN ::
    one SHIP_CONTROL.LONG_PRESSES :: one SW_CONN_AT :: one SW_ON_AT :: each TRUNC_LONGEST :: each TRUNC_SINCE ::
    each TRUNC_TOLD_AT :: (each fun n => inForce (CONVERTER.ENABLE n)) :: []
  | .longPressSwitchRestore =>
    one BATTERY_SWITCH.FORWARD :: one BATTERY_SWITCH.MODE_IN_EFFECT :: one BATTERY_SWITCH.OPEN_CAUSE :: one LONG_AT ::
    one SW_CONN_AT :: one SW_MARK :: one SW_ON_AT :: []
  | .shipWindowEnd =>
    one SHIP_CONTROL.SHIP_STATE :: []
  | .shipExit =>
    one BATTERY_SWITCH.FORWARD :: one BATTERY_SWITCH.MODE_IN_EFFECT :: one BATTERY_SWITCH.OPEN_CAUSE ::
    one POWER_STATE.LAST_WAKE_CAUSE :: one SHIP_CONTROL.LAST_SHIP_DURATION :: one SHIP_IN :: one SW_CONN_AT ::
    one SW_ON_AT :: one WAKE_PENDING :: []
  | .assistCheck _ =>
    one ASSIST_STATUS.ASSIST_RESULT :: one ASSIST_STATUS.ASSIST_STATE :: one AS_CLOSED :: one AS_STATE_AT :: one AS_TIME ::
    one (CONVERTER_STATUS.CONV_FLAGS 2) :: one (OVR_END 2) :: one (OVR_MAX 2) :: one (OVR_MIN 2) :: one (OVR_ON 2) ::
    one (OVR_REF 2) :: []
  | .assistPrechargeDone _ _ | .assistMatch _ =>
    one ASSIST_STATUS.ASSIST_STATE :: one AS_CLOSED :: one AS_STATE_AT :: one (CONVERTER_STATUS.CONV_FLAGS 2) ::
    one (OVR_END 2) :: one (OVR_MAX 2) :: one (OVR_MIN 2) :: one (OVR_ON 2) :: one (OVR_REF 2) :: []
  | .assistPrechargeTimeout | .assistSessionTimeout | .assistForeignOvervoltage _ _ =>
    one AS_END :: one AS_END_AT :: one (CONVERTER_STATUS.CONV_FLAGS 2) :: one (OVR_END 2) :: one (OVR_MAX 2) ::
    one (OVR_MIN 2) :: one (OVR_ON 2) :: one (OVR_REF 2) :: []
  | .assistMatchTimeout | .assistSwitchOpen =>
    one ASSIST_STATUS.ASSIST_CURRENT :: one ASSIST_STATUS.ASSIST_RESULT :: one ASSIST_STATUS.ASSIST_STATE ::
    one AS_CLOSED :: one AS_END :: one AS_TIME :: one (OVR_END 2) :: []
  | .estimatorUpdate =>
    one CH_FULL :: one ESTIMATOR_STATUS.CAPACITY_IN_USE :: one ESTIMATOR_STATUS.EST_FLAGS ::
    one ESTIMATOR_STATUS.I_BATT_1S :: one ESTIMATOR_STATUS.LAST_REST_SOC :: one ESTIMATOR_STATUS.LAST_REST_VOLTAGE ::
    one ESTIMATOR_STATUS.LEARNED_CAPACITY :: one ESTIMATOR_STATUS.RESTS_UNUSED :: one ESTIMATOR_STATUS.SOC ::
    one ESTIMATOR_STATUS.SOC_INTERNAL :: one ESTIMATOR_STATUS.SOC_SOURCE :: one ESTIMATOR_STATUS.SOH_CAPACITY ::
    one ESTIMATOR_STATUS.SOH_RESISTANCE :: one EST_ANCHOR :: one EST_ANCHOR_QE :: one EST_BIN :: one EST_CNT ::
    one EST_IBIN :: one EST_LONG :: one EST_NA :: one EST_OVER :: one EST_PARKED :: one EST_PARK_MAX :: one EST_PARK_S ::
    one EST_QE :: one EST_QM :: one EST_QP :: one EST_REST_DONE :: one EST_REST_DUE :: one EST_REST_SINCE ::
    one EST_SHORT :: one EST_SOC :: one EST_SOCI :: one EST_SUM :: one EST_UPDATED :: one REC_CAP_N :: each REC_GRID ::
    each REC_HIST :: one REC_UNBINNED :: one RET_CAPACITY :: one RET_SOC :: one RET_SOCI :: []
  | .longRest =>
    one EST_LONG :: one EST_REST_DONE :: one EST_REST_DUE :: []
  | .resistanceSample _ _ =>
    one ESTIMATOR_STATUS.CAPACITY_IN_USE :: one ESTIMATOR_STATUS.RESISTANCE :: one ESTIMATOR_STATUS.SOC ::
    one ESTIMATOR_STATUS.SOC_INTERNAL :: one ESTIMATOR_STATUS.SOH_CAPACITY :: one ESTIMATOR_STATUS.SOH_RESISTANCE ::
    one REC_RES_N :: one RS_OK :: []
  | .profileChannelRequest =>
    each ADMIT_KIND :: each ADMIT_SINCE :: each BANK.BANK_FLAGS :: each CELL :: each CHANNEL_CONFIG.REQUEST ::
    each CHANNEL_PROTECTION.ADMIT_WAIT :: each CHANNEL_PROTECTION.MODEL_FLAGS :: each CHANNEL_PROTECTION.RETRIES_LEFT ::
    each CHANNEL_STATUS.FLAGS :: each CHANNEL_STATUS.STANDING_GATE :: each CHANNEL_STATUS.STATE :: each GATE ::
    each LAMP_LOW :: each LAMP_TOLD :: each LATCH :: each LIMIT_EPISODE :: each LIMIT_LEFT :: each LIMIT_SINCE ::
    each LIMIT_SPENT :: each PEND :: one PROFILE_DONE :: one PROFILE_OFF :: each PUMP_START :: each PUMP_STOP_AT ::
    each PWM_HIGH :: each PWM_NEXT :: each RESET_OUTPUT.ASSERT_COUNT :: each RESET_OUTPUT.LAST_CHANGE_STAMP ::
    each RESET_OUTPUT.OUTPUT :: each RSO_GOOD_SINCE :: each RUN_SINCE :: each RUN_SPENT :: each START_AT ::
    each STORED_WAIT :: each TRIP_STATE :: each WIN :: (each fun n => inForce (CHANNEL_CONFIG.REQUEST n)) :: []
  | .arbiterPortRetry _ =>
    one ARB_AT :: one ARB_DOWN :: each CAN_PORT.TX_FRAMES :: one (HB_AT 0) :: one (NMT_STATE 0) :: []
  | .vbatOvervoltage _ | .vbatOvervoltageEnd _ =>
    one SUPPLY_STATUS.SUPPLY_FLAGS :: []
  | .hrCurrentLimit r _ _ =>
    one (HR_TOLD r.val) :: one SUPPLY_STATUS.HR_LIMIT_EVENTS :: one SUPPLY_STATUS.SUPPLY_FLAGS :: []
  | .supply18Low _ _ =>
    one SUPPLY_STATUS.SUPPLY_FLAGS :: one V18_LOW :: []
  | .levelStep =>
    one CLOCK_STATUS.CORE_RATE :: one PERFORMANCE.LEVEL_CHANGES :: one PERFORMANCE.LEVEL_IN_FORCE :: []
  | .parkPointOfNoReturn =>
    one PARK_FRAME :: one PARK_STAGE :: each STAND_DUE :: []
  | .wakeLatchSet i _ _ =>
    one (ENDGAME_ARMED i.val) :: one PARK_STAGE :: one PON_CONTROL.PON_CHANGES :: one PON_CONTROL.PON_LAST_CAUSE ::
    one PON_CONTROL.PON_STATE :: one POWER_STATE.PARK_ABORTS :: one POWER_STATE.STATE :: one WAKE_CONFIG.WAKE_LATCHED ::
    one WAKE_CONFIG.WAKE_LEVEL :: one WAKE_PENDING :: []
  | .powerCycle =>
    one KEEPER.FAILED_OPENINGS :: one KEEPER.LAST_HOLD_SECONDS :: one KEEPER.RETRY_SERIES :: one KEEPER_HOLDING :: []
  | .shadowClose =>
    []
  | .keeperRetry =>
    one KEEPER.LAST_HOLD_SECONDS :: one KEEPER.RETRY_SERIES :: one KEEPER_HOLDING :: one KEEPER_PASS ::
    one RESET_CAUSE.CAUSES_SEEN :: one RESET_CAUSE.CAUSE_SITE :: one RESET_CAUSE.LAST_CAUSE :: one RESET_CAUSE.LAST_KIND ::
    one RESET_UNTIL :: []
  | .keeperFrame _ =>
    one KEEPER_LAST :: []
  | .keeperHeartbeat d | .dieHeartbeatTimeout d =>
    one (HEART_LOST d.val) :: []
  | .recordPlaced =>
    one EVENT_FABRIC.LATE_RECORDS :: one EVENT_FABRIC.RECORDS_PLACED :: one LOAD_MONITOR.LONGEST_DETECTION ::
    each MSIX_HELD :: each OVF_DROPS :: each OVF_FIRST :: each OVF_LAST :: each RING.DROPS :: each RING.HIGH_WATER ::
    each RING.SEQUENCE :: each RING_RR :: each TARGET.RAISES :: each TARGET.TARGET_STATE :: each TG_BEGAN ::
    each TG_COUNT :: each TG_LOW :: []
  | .targetModerationTimeout g =>
    one (MSIX_HELD g.val) :: one (TARGET.RAISES g.val) :: one (TARGET.TARGET_STATE g.val) :: one (TG_LOW g.val) :: []
  | .fencePlaced =>
    one EVENT_FABRIC.LATE_RECORDS :: one EVENT_FABRIC.RECORDS_PLACED :: each FENCE_CONTROL.FENCE_DONE :: each MSIX_HELD ::
    each OVF_DROPS :: each OVF_FIRST :: each OVF_LAST :: each RING.DROPS :: each RING.HIGH_WATER :: each RING.SEQUENCE ::
    each RING_FENCE :: each RING_RR :: each TARGET.RAISES :: each TARGET.TARGET_STATE :: each TG_BEGAN :: each TG_COUNT ::
    each TG_LOW :: []
  | .eraAdvanced =>
    one ERA_TOLD :: one STORE_ERA :: []
  | .periodicPassStart d =>
    one (PASS_AT d.val) :: one (PASS_RUNS d.val) :: one (STREAM.HEAD d.val) :: one (STREAM.OVERRUNS d.val) ::
    one (STREAM.STREAM_STATE d.val) :: one (TAIL_DUE d.val) :: (each2 fun k w => (0x2A40 * 256 + 1) + 4 * k + w) ::
    one (inForce (STREAM.TAIL d.val)) :: []
  | .nmtStart p _ | .nmtStop p _ | .nmtEnterPreoperational p _ =>
    one (CAN_PORT.RX_FRAMES p.val) :: each NMT_STATE :: each PDO_COUNT :: each PDO_DATA :: each PDO_DUE :: each PDO_EVT ::
    each RPDO_HAS :: each RPDO_HELD :: []
  | .nmtResetNode p _ =>
    one (CAN_PORT.RX_FRAMES p.val) :: each NMT_BOOT :: each USDO_AT :: each USDO_DATA :: each USDO_OPEN :: each USDO_WRITES :: []
  | .nmtResetCommunication p _ =>
    one (CAN_PORT.RX_FRAMES p.val) :: each CAN_PORT.TX_FRAMES :: each HB_AT :: each NMT_STATE :: each PDO_COUNT ::
    each PDO_DATA :: each PDO_DUE :: each PDO_EVT :: each RPDO_HAS :: each RPDO_HELD :: []
  | .usdoSessionTimeout t =>
    one (USDO_AT t.val) :: one (USDO_DATA t.val) :: one (USDO_OPEN t.val) :: one (USDO_WRITES t.val) :: []
  | .tpdoEventTimer x | .tpdoInhibitEnd x =>
    one (CAN_PORT.TX_FRAMES ((x.val / 64))) :: one (PDO_AT x.val) :: one (PDO_DUE x.val) :: one (PDO_EVT x.val) ::
    one (PDO_SENT x.val) :: []
  | .timeReceived p _ _ =>
    one ALARM.ALARMS_FIRED :: one ALARM.ALARM_SECONDS :: one ALARM.ALARM_STATE :: one BACK_ALARM ::
    one (CAN_PORT.RX_FRAMES p.val) :: one MONO_BASE :: one MONO_FROM :: one PARK_STAGE :: one PON_CONTROL.PON_CHANGES ::
    one PON_CONTROL.PON_LAST_CAUSE :: one PON_CONTROL.PON_STATE :: one POWER_STATE.PARK_ABORTS :: one POWER_STATE.STATE ::
    one RTC.LAST_SET_STAMP :: one RTC.RTC_FLAGS :: one RTC.SET_SOURCE :: one RTC_BASE :: one RTC_FROM ::
    one WAKE_CONFIG.WAKE_LATCHED :: one WAKE_PENDING :: one (inForce ALARM.ALARM_SECONDS) :: []
  | .heartbeatSend t =>
    each CAN_PORT.TX_FRAMES :: one (HB_AT t.val) :: []
  | .canBusOff p _ _ =>
    one (CAN_MAY p.val) :: one (CAN_PORT.BUS_OFF_COUNT p.val) :: one (CAN_PORT.BUS_STATE p.val) ::
    one (CAN_PORT.REC p.val) :: one (CAN_PORT.TEC p.val) :: []
  | .canBusRecovered p | .canRejoin p =>
    one (CAN_MAY p.val) :: one (CAN_PORT.BUS_STATE p.val) :: one (CAN_PORT.REC p.val) :: one (CAN_PORT.TEC p.val) ::
    one (CAN_PORT.TX_FRAMES p.val) :: []
  | .ringHeadPop f _ _ =>
    one EVENT_FABRIC.RECORDS_PLACED :: each LAST_ACCESS.ABORT_COUNT :: each LAST_ACCESS.LAST_ABORT ::
    each LAST_ACCESS.LAST_ABORT_ADDRESS :: one LOAD_ACCESS :: each MSIX_HELD :: each OVF_DROPS :: one (POP_BUF f) ::
    one (POP_RESULT f) :: each RING.HIGH_WATER :: each RING.SEQUENCE :: each RING_RR :: each TARGET.RAISES ::
    each TARGET.TARGET_STATE :: each TG_BEGAN :: each TG_COUNT :: each TG_LOW :: []
  | .pciePerst _ =>
    each DESC_DOOMED :: one DMA_LOST :: each MSIX_HELD :: each MSIX_OPEN :: each PCIE_PAYLOAD :: one PCIE_PORT.BUS_MASTER ::
    one PCIE_PORT.LINK_DOWNS :: one PCIE_PORT.LINK_SPEED :: one PCIE_PORT.LINK_STATE :: one PCIE_PORT.PERSTS ::
    one PERST_LOW :: each POP_BUF :: each POP_RESULT :: each PT_ADDR :: each PT_BUF :: each PT_RESULT :: []
  | .functionLevelReset f =>
    each DESC_DOOMED :: one DMA_LOST :: each MSIX_HELD :: each MSIX_OPEN :: one (PCIE_PAYLOAD f.val) ::
    one PCIE_PORT.BUS_MASTER :: one PCIE_PORT.FLRS :: []
  | .pcieLinkChanged _ _ _ _ =>
    one DMA_LOST :: each PCIE_PAYLOAD :: one PCIE_PORT.BUS_MASTER :: one PCIE_PORT.LINK_DOWNS :: one PCIE_PORT.LINK_SPEED ::
    one PCIE_PORT.LINK_STATE :: []
  | .load _ _ _ _ =>
    each CAN_PORT.RX_FRAMES :: each FRAME_BUF :: each FRAME_RESP :: one SPI_PORT.BUSY_ANSWERS :: one SPI_PORT.CRC_ERRORS ::
    one SPI_PORT.FRAMES :: one TWO_WIRE_STATUS.BUSY_ANSWERS :: one TWO_WIRE_STATUS.CRC_ERRORS :: []
  | .brokenFrame _ =>
    one SPI_PORT.BROKEN_FRAMES :: one TWO_WIRE_STATUS.BROKEN_FRAMES :: []
  | .csConflict =>
    one SPI_PORT.CS_CONFLICTS :: []
  | .responseFetch a =>
    one (FRAME_RESP (a % 256)) :: []
  | .transferDone _ _ _ =>
    one CONTROLLER_TRANSFER.NACK_INDEX :: one CONTROLLER_TRANSFER.READ_DATA :: one CONTROLLER_TRANSFER.TRANSFER_RESULT ::
    one TWO_WIRE_STATUS.BUS_STATE :: one TWO_WIRE_STATUS.LAST_ATTENTION :: one TW_ATTENTION :: one TW_FREE_FROM ::
    one (inForce TWO_WIRE_BUS.DATA_HOLD) :: one (inForce TWO_WIRE_BUS.DATA_SETUP) :: one (inForce TWO_WIRE_BUS.ROLE) ::
    one (inForce TWO_WIRE_BUS.SCL_HIGH) :: one (inForce TWO_WIRE_BUS.SCL_LOW) :: one (inForce TWO_WIRE_BUS.SPEED_MODE) :: []
  | .arbitrationLost _ _ =>
    one CONTROLLER_TRANSFER.NACK_INDEX :: one CONTROLLER_TRANSFER.READ_DATA :: one CONTROLLER_TRANSFER.TRANSFER_RESULT ::
    one TWO_WIRE_STATUS.ARB_LOSSES :: one TWO_WIRE_STATUS.BUS_STATE :: one TWO_WIRE_STATUS.LAST_ATTENTION ::
    one TW_ATTENTION :: one TW_FREE_FROM :: one TW_LEFT :: one (inForce TWO_WIRE_BUS.DATA_HOLD) ::
    one (inForce TWO_WIRE_BUS.DATA_SETUP) :: one (inForce TWO_WIRE_BUS.ROLE) :: one (inForce TWO_WIRE_BUS.SCL_HIGH) ::
    one (inForce TWO_WIRE_BUS.SCL_LOW) :: one (inForce TWO_WIRE_BUS.SPEED_MODE) :: []
  | .clockLowTimeout target _ =>
    one CONTROLLER_TRANSFER.NACK_INDEX :: one CONTROLLER_TRANSFER.READ_DATA :: one CONTROLLER_TRANSFER.TRANSFER_RESULT ::
    one (FRAME_RESP target) :: one TWO_WIRE_STATUS.BUS_FLAGS :: one TWO_WIRE_STATUS.BUS_STATE ::
    one TWO_WIRE_STATUS.CLOCK_LOW_EVENTS :: one TWO_WIRE_STATUS.LAST_ATTENTION :: one TW_ATTENTION :: one TW_FREE_FROM ::
    one (inForce TWO_WIRE_BUS.DATA_HOLD) :: one (inForce TWO_WIRE_BUS.DATA_SETUP) :: one (inForce TWO_WIRE_BUS.ROLE) ::
    one (inForce TWO_WIRE_BUS.SCL_HIGH) :: one (inForce TWO_WIRE_BUS.SCL_LOW) :: one (inForce TWO_WIRE_BUS.SPEED_MODE) :: []
  | .inbandRequest _ =>
    one TWO_WIRE_STATUS.LAST_ATTENTION :: one TWO_WIRE_STATUS.REQUESTS :: one TW_ATTENTION :: []
  | .dataLowTimeout _ _ =>
    one CONTROLLER_TRANSFER.NACK_INDEX :: one CONTROLLER_TRANSFER.READ_DATA :: one CONTROLLER_TRANSFER.TRANSFER_RESULT ::
    one TWO_WIRE_STATUS.BUS_FLAGS :: one TWO_WIRE_STATUS.BUS_STATE :: one TWO_WIRE_STATUS.DATA_LOW_EVENTS ::
    one TWO_WIRE_STATUS.LAST_ATTENTION :: one TW_ATTENTION :: one TW_FREE_FROM :: one (inForce TWO_WIRE_BUS.DATA_HOLD) ::
    one (inForce TWO_WIRE_BUS.DATA_SETUP) :: one (inForce TWO_WIRE_BUS.ROLE) :: one (inForce TWO_WIRE_BUS.SCL_HIGH) ::
    one (inForce TWO_WIRE_BUS.SCL_LOW) :: one (inForce TWO_WIRE_BUS.SPEED_MODE) :: []
  | .hkPeriodTrigger q =>
    one (HK_AT q.val) :: each HK_DELAY :: each HK_DONE :: one (HK_DROPS q.val) :: one (HK_LATCH q.val) :: each HK_PRE ::
    one (HK_RUN q.val) :: one (HK_SEQUENCE.OVERRUN_COUNT q.val) :: each HK_SEQUENCE.SEQ_STATE :: each HK_SUM ::
    one (HK_TRIG q.val) :: []
  | .hkConversionEnd q _ =>
    one HK_ADC.CONVERSIONS :: one (HK_DELAY q.val) :: each HK_DONE :: each HK_LAST :: one (HK_PRE q.val) ::
    one (HK_SEQUENCE.SEQ_STATE q.val) :: each HK_SUM :: []
  | .hkPassEnd q =>
    one (HK_AT q.val) :: each HK_DELAY :: each HK_DONE :: each HK_ENTRY.ENTRY_STATUS :: each HK_ENTRY.RAW ::
    each HK_ENTRY.RESULT_STAMP :: each HK_ENTRY.VALUE :: each HK_INJECT :: each HK_OK :: each HK_PASS_AT :: each HK_PRE ::
    each HK_SEQUENCE.SEQ_STATE :: each HK_SUM :: one REC_T_MAX :: one REC_T_MIN :: []
  | .hkRunEnd q =>
    each HK_AT :: each HK_DELAY :: each HK_DONE :: each HK_DROPS :: each HK_LATCH :: each HK_PRE :: each HK_RUN ::
    each HK_SEQUENCE.OVERRUN_COUNT :: one (HK_SEQUENCE.RUNS q.val) :: each HK_SEQUENCE.SEQ_STATE :: each HK_SUM :: []
  | .entryStale e =>
    one (HK_ENTRY.ENTRY_STATUS e.val) :: []
  | .houseConversion _ _ _ _ _ _ _ =>
    one HK_ADC.CONVERSIONS :: each HK_DELAY :: one SUPPLY_STATUS.SUPPLY_FLAGS :: one SUPPLY_STATUS.V18 ::
    one SUPPLY_STATUS.VBAT :: one SUPPLY_STATUS.VBK :: one SUPPLY_STATUS.VCORE :: one SUPPLY_STATUS.VH ::
    one SUPPLY_STATUS.VIO :: []
  | .tempSample i _ =>
    each ADMIT_KIND :: each ADMIT_SINCE :: each BANK.BANK_FLAGS :: each CAL_PAUSED :: each CAL_POS_AT :: each CELL ::
    each CHANNEL_CONFIG.REQUEST :: each CHANNEL_PROTECTION.ADMIT_WAIT :: each CHANNEL_PROTECTION.MODEL_FLAGS ::
    each CHANNEL_PROTECTION.RETRIES_LEFT :: each CHANNEL_STATUS.FLAGS :: each CHANNEL_STATUS.STANDING_GATE ::
    each CHANNEL_STATUS.STATE :: each COLD :: one COLD_JUDGED :: each GATE :: each LAMP_LOW :: each LAMP_TOLD ::
    each LATCH :: each LIMIT_EPISODE :: each LIMIT_LEFT :: each LIMIT_SINCE :: each LIMIT_SPENT :: each PEND ::
    one PERFORMANCE.THERMAL_FLOOR :: each PUMP_START :: each PUMP_STOP_AT :: each PWM_HIGH :: each PWM_NEXT ::
    each RESET_OUTPUT.ASSERT_COUNT :: each RESET_OUTPUT.LAST_CHANGE_STAMP :: each RESET_OUTPUT.OUTPUT ::
    each RSO_GOOD_SINCE :: each RUN_SINCE :: each RUN_SPENT :: each SAFE_WAIT :: each SHUT_SINCE :: each START_AT ::
    each STORED_WAIT :: one (TEMP_ODD i.val) :: one THERMAL.GLOBAL_MAX :: one THERMAL.GLOBAL_MAX_SENSOR ::
    one THERMAL.THERMAL_FLAGS :: each THERMAL_DIE.DIE_MAX :: each THERMAL_DIE.DIE_MIN :: each THERMAL_DIE.DIE_STATE ::
    each THERMAL_DIE.FAILED_SENSORS :: each THERMAL_DIE.FAST_SAMPLING :: each THERMAL_DIE.PEAK_SINCE_OPENING ::
    each2 THERMAL_DIE.SENSOR :: each THERMAL_DIE.SHUTDOWNS :: each THR_SINCE :: each THR_SPENT :: one THR_STEP_AT ::
    each TRIP_STATE :: each WIN :: (each fun n => inForce (CHANNEL_CONFIG.REQUEST n)) :: []
  | .thermalFloorStep =>
    one PERFORMANCE.THERMAL_FLOOR :: one THR_STEP_AT :: []
  | .watchdogClosedHalf t =>
    one (WD_CLOSED t.val) :: []
  | .watchdogPeriodEnd t =>
    one (WATCHDOG.EXPIRY_COUNT t.val) :: one (WATCHDOG.PERIOD_START t.val) :: one (WATCHDOG.QUESTION t.val) ::
    one (WATCHDOG.WD_STATE t.val) :: one (WD_ANSWERS t.val) :: one (WD_AT t.val) :: one (WD_CLOSED t.val) ::
    one (WD_FAILED t.val) :: one (WD_GAIN t.val) :: one (WD_VALID t.val) :: []
  | .adjournEnd t =>
    one (WATCHDOG.EXPIRY_COUNT t.val) :: one (WATCHDOG.WD_STATE t.val) :: one (WD_GAIN t.val) :: []
  | .alarmFired =>
    one ALARM.ALARMS_FIRED :: one ALARM.ALARM_SECONDS :: one ALARM.ALARM_STATE :: one BACK_ALARM :: one PARK_STAGE ::
    one PON_CONTROL.PON_CHANGES :: one PON_CONTROL.PON_LAST_CAUSE :: one PON_CONTROL.PON_STATE ::
    one POWER_STATE.PARK_ABORTS :: one POWER_STATE.STATE :: one WAKE_CONFIG.WAKE_LATCHED :: one WAKE_PENDING ::
    one (inForce ALARM.ALARM_SECONDS) :: []
  | .rtcOscStopped =>
    one MONO_BASE :: one MONO_FROM :: one OSC_OFF :: one RTC.RTC_FLAGS :: one RTC_BASE :: one RTC_FROM :: []
  | .backupCellLow _ _ =>
    one MONO_BASE :: one MONO_FROM :: one RSTOUT_HIGH :: one RTC.RTC_FLAGS :: one RTC_BASE :: one RTC_FROM :: one VBK_LAST :: []
  | .backupSwitchover _ =>
    one ON_VBK :: []
  | .attestationSigned =>
    each ATTEST_CONTROL.ATTESTATION :: each ATTEST_CONTROL.ATTEST_STATE :: one SECURITY_STATUS.SIGNATURES :: []
  | .sessionOpened =>
    each KEY_DH :: each KEY_HD :: one SECURITY_STATUS.SESSIONS_OPENED :: one SECURITY_STATUS.SIGNATURES ::
    each SESSION_CONTROL.LAST_COUNTER :: each SESSION_CONTROL.SESSION_REPLY :: each SESSION_CONTROL.SESSION_STATE ::
    each SESSION_ID :: []
  | .randomSourceFault _ =>
    each ATTEST_CONTROL.ATTEST_STATE :: one SECURITY_STATUS.RANDOM_STATE :: each SESSION_CONTROL.SESSION_STATE :: []
  | .loadWindowEnd =>
    one LOAD_ACCESS :: one LOAD_AT :: one LOAD_MONITOR.ACCESS_LOAD :: one LOAD_MONITOR.ACCESS_LOAD_PEAK ::
    one LOAD_MONITOR.FABRIC_LOAD :: one LOAD_MONITOR.FABRIC_LOAD_PEAK :: one LOAD_MONITOR.OVERLOAD_WINDOWS ::
    one LOAD_PLACED :: one OVERLOAD_AT :: one SATURATED_AT :: []
  | .vbatPowerUp =>
    each CELL :: one DEV_STATE :: each GATE :: each2 LANE_EDGE :: each LATCH :: one RSTOUT_HIGH :: one VBAT_GONE_AT ::
    one VBAT_OUT :: one VBAT_ROSE_AT :: []
  | .rstoutNRelease =>
    one RSTOUT_HIGH :: []
  | .limitEpisodeEnd n =>
    one (LIMIT_EPISODE n) :: one (LIMIT_SPENT n) :: []
  | .converterUnderCleared m _ | .converterOverCleared m _ =>
    one (CWIN m) :: []
  | .msixUnmask f v =>
    one (MSIX_HELD ((16 + 12 * f.val + v.val))) :: one (MSIX_OPEN ((16 + 12 * f.val + v.val))) :: []
  | .rtcOscRestart =>
    one MONO_FROM :: one OSC_OFF :: one RTC_FROM :: []
  | .vbkLowClear _ _ =>
    one ALARM.ALARM_STATE :: one BACKUP_ANEW :: one BACK_ALARM :: one BACK_ENABLE :: one BACK_FILTER :: one BACK_POLARITY ::
    one BACK_REPEAT :: one BACK_SENSE :: one BACK_SOURCES :: one BACK_TRIM :: one KEEPER.FAILED_OPENINGS ::
    one KEEPER.HOLDS :: one KEEPER.LAST_HOLD_SECONDS :: one KEEPER.RETRY_SERIES :: one KEEPER_HOLDING :: one KEEPER_TOLD ::
    one MONO_BASE :: one MONO_FROM :: one PON_CONTROL.PON_CHANGES :: one PON_CONTROL.PON_LAST_CAUSE ::
    one PON_CONTROL.PON_STATE :: one POWER_STATE.LAST_WAKE_CAUSE :: one RSTOUT_HIGH :: one RTC.RTC_FLAGS :: one RTC_BASE ::
    one RTC_FROM :: one STRAPS.STRAP_VALUE :: one VBK_LAST :: one WAKE_CONFIG.WAKE_LATCHED :: one WAKE_PENDING :: []
  | .clockLowClear =>
    one TWO_WIRE_STATUS.BUS_FLAGS :: one TWO_WIRE_STATUS.BUS_STATE :: one TW_FREE_FROM :: []
  | .dataLowClear =>
    one TWO_WIRE_STATUS.BUS_FLAGS :: []

/-- The parts of the state beside its registers that a command may touch. -/
def touchesOf : Instr → List Part
  | .frameBoundary =>
    [.barriers, .canQueue, .collector, .dieMsgs, .fences, .frame, .free, .heldWrites, .landing, .late, .out, .placing, .resp,
    .rings, .shadows, .signing, .staged, .time]
  | .measurementRound _ _ _ _ _ _ _ _ | .eventBlockReceived _ | .rampDone _ _ _ _ _ | .pwmPhaseInstant _ | .pwmOffEdge _ |
    .limitEntered _ _ | .limitSaturatedExit _ _ _ | .retryDue _ | .undervoltage _ | .overvoltage _ | .underCleared _ |
    .overCleared _ | .longPressSwitchRestore | .shipExit =>
    [.collector, .dieMsgs]
  | .uplinkFrameReceived _ _ _ _ =>
    [.collector, .fences]
  | .downlinkFrameReceived _ _ _ _ =>
    [.landing, .staged]
  | .linkRetrain _ =>
    [.fences, .shadows]
  | .linkTrained _ _ | .btnRelease | .longPress =>
    [.collector, .dieMsgs, .shadows]
  | .linkLossStanding _ | .controlDieResetIndication | .standBlock _ | .swapOverlapEnd _ | .swapTimeout _ |
    .profileChannelRequest =>
    [.collector, .dieMsgs, .staged]
  | .referenceEdgeLoss | .auditSweepEnd _ | .dieRecheck _ _ | .rsoRelease _ | .recordStorePeriodicWrite |
    .batteryRecordWritten | .converterStartCheck _ _ _ | .lanePeriodEnd _ _ _ | .shareImbalance _ | .faultRecordWritten _ |
    .converterUndervoltage _ _ | .converterOvervoltage _ _ | .btnPress | .assistCheck _ | .assistMatchTimeout |
    .assistSwitchOpen | .sigmaSample _ | .estimatorUpdate | .vbatOvervoltage _ | .levelStep | .wakeLatchSet _ _ _ |
    .eraAdvanced | .periodicPassStart _ | .timeReceived _ _ _ | .pciePerst _ | .functionLevelReset _ |
    .pcieLinkChanged _ _ _ _ | .hkRunEnd _ | .entryStale _ | .houseConversion _ _ _ _ _ _ _ | .adjournEnd _ | .alarmFired |
    .rtcOscStopped | .loadWindowEnd | .converterUnderCleared _ _ | .converterOverCleared _ _ =>
    [.collector]
  | .referenceFrequencyCheck _ | .hkPassEnd _ | .watchdogPeriodEnd _ | .backupCellLow _ _ | .vbkLowClear _ _ =>
    [.collector, .free]
  | .dieReferenceLoss _ | .auditSweepStart | .pumpStop _ | .captureTrigger _ | .logicDomainFail _ | .retryResetTime _ |
    .lampEnvelopeEnd _ | .endgameTrigger _ | .keeperReportToggle _ | .peakCut _ _ _ | .hiccupResume _ _ _ |
    .hiccupResetTime _ | .shipWindowEnd | .assistPrechargeDone _ _ | .assistPrechargeTimeout | .assistMatch _ |
    .assistSessionTimeout | .assistForeignOvervoltage _ _ | .longRest | .vbatOvervoltageEnd _ | .parkPointOfNoReturn |
    .powerCycle | .keeperRetry | .keeperHeartbeat _ | .dieHeartbeatTimeout _ | .nmtStart _ _ | .nmtStop _ _ |
    .nmtEnterPreoperational _ _ | .brokenFrame _ | .csConflict | .hkPeriodTrigger _ | .hkConversionEnd _ _ |
    .thermalFloorStep | .watchdogClosedHalf _ | .backupSwitchover _ | .vbatPowerUp | .rstoutNRelease | .pumpReady _ _ |
    .busUvCleared _ _ | .limitEpisodeEnd _ | .rtcOscRestart | .clockLowClear | .dataLowClear =>
    []
  | .objectWrite _ _ _ | .levelViewWrite _ _ _ _ | .commit _ _ | .discard _ | .barrierId _ _ | .barrierDone _ |
    .tenantReset _ _ | .trumpRelease _ _ _ | .requestOff _ _ | .requestOn _ _ | .requestPwm _ _ | .clearLockout _ _ |
    .releaseStanding _ _ | .captureArm _ _ | .swapRequest _ _ _ | .planStart _ _ | .planAbort _ _ | .resolveSkip _ _ _ |
    .resolveRetry _ _ _ | .rsoForceAssert _ _ | .rsoForceRelease _ _ | .counterClear _ _ | .enableOn _ _ | .enableOff _ _ |
    .switchModeOpen _ | .switchModeIdealDiode _ | .switchModeClosed _ | .chargeEnableOn _ | .chargeEnableOff _ |
    .shipArm _ | .shipCancel _ | .assistStart _ | .assistStop _ | .batteryReplaced _ | .deviceResetControlDie _ |
    .deviceResetFull _ | .openingResume _ | .journalAck _ | .powerModeRun _ | .powerModeHold _ | .park _ | .wakeClear _ _ |
    .queryKind _ _ | .flush _ _ | .arm _ _ | .hold _ | .holdRelease _ | .deviceHoldSet _ | .deviceHoldClear _ | .fence _ _ |
    .streamRun _ _ | .streamStop _ _ | .tailWrite _ _ _ _ | .usdoRequest _ _ _ _ _ _ | .rpdoReceived _ _ |
    .transferWrite _ _ _ _ | .write _ _ _ _ | .writeBuffer _ _ _ _ | .transferStart _ | .trigger _ _ | .watchdogArm _ _ _ |
    .answer _ _ _ | .adjourn _ _ _ | .rtcSet _ _ | .ponAssert _ | .ponRelease _ | .attestChallenge _ _ | .sessionOpen _ _ |
    .sessionClose _ | .authWrite _ _ | .authReadRequest _ _ =>
    [.barriers, .collector, .fences, .free, .heldWrites, .landing, .out, .resp, .rings, .shadows, .signing, .staged]
  | .commitStageAck _ =>
    [.landing]
  | .commitStageAckTimeout _ | .syncTimeout _ | .pulseCutDiode _ | .holdRestSample _ _ _ | .qualifyTimeout | .chargeTimeout =>
    [.collector, .staged]
  | .syncReceived _ _ =>
    [.barriers, .canQueue, .collector, .fences, .free, .heldWrites, .landing, .out, .resp, .rings, .shadows, .signing,
    .staged]
  | .rampTimeout _ _ _ | .anchorBrownout _ | .limitTimeoutTrip _ | .tripSettled _ _ =>
    [.collector, .dieMsgs, .shadows, .staged]
  | .pumpStartTimeout _ | .pumpHeadroomLow _ _ | .busUndervoltage _ _ | .captureComplete _ | .openLamp _ |
    .switchCloseDone _ | .closeDeferred _ | .switchDriverPowerUp | .switchDriverPowerLoss | .hrCurrentLimit _ _ _ |
    .supply18Low _ _ =>
    [.dieMsgs]
  | .calibrationPositionEnd _ _ _ _ _ =>
    [.dieMsgs, .free]
  | .hardShortTrip _ _ _ =>
    [.collector, .dieMsgs, .free, .shadows, .staged]
  | .stepDelayEnd _ _ | .stalemate _ _ =>
    [.collector, .landing]
  | .dischargeTimeout _ _ =>
    [.collector, .dieMsgs, .landing]
  | .converterCycleEnd _ _ | .truncationLatch _ =>
    [.collector, .shadows]
  | .truncationCrossing _ _ _ | .idealDiodeReverse _ | .resistanceSample _ _ =>
    [.free]
  | .switchShortTrip _ _ | .switchUvCutoff _ _ =>
    [.dieMsgs, .shadows]
  | .closedChargeDrop _ =>
    [.dieMsgs, .landing]
  | .chargePulseEnd =>
    [.staged]
  | .chargeRestEnd _ _ _ =>
    [.collector, .free, .staged]
  | .vbatBrownout | .vhBrownout _ _ | .vcoreBrownout _ _ | .vioBrownout _ _ | .lockstepMismatch | .criticalMemoryError _ _ |
    .parkPowerDown | .houseStopReset | .wdxExpiry =>
    [.barriers, .canQueue, .collector, .dieMsgs, .fences, .heldWrites, .landing, .late, .placing, .resp, .rings, .shadows,
    .signing, .staged]
  | .rstinNLow _ =>
    [.barriers, .canQueue, .collector, .dieMsgs, .fences, .free, .heldWrites, .landing, .late, .placing, .resp, .rings,
    .shadows, .signing, .staged]
  | .resetRelease _ =>
    [.canQueue, .collector, .dieMsgs, .out, .placing, .rings, .shadows, .staged]
  | .arbiterPortRetry _ | .nmtResetCommunication _ _ | .tpdoEventTimer _ | .tpdoInhibitEnd _ | .heartbeatSend _ =>
    [.canQueue, .out]
  | .parkExit _ =>
    [.canQueue, .collector, .dieMsgs, .out, .shadows]
  | .faultMessage _ =>
    [.barriers, .canQueue, .collector, .dieMsgs, .landing, .out, .placing, .rings, .shadows]
  | .shadowClose =>
    [.shadows]
  | .keeperFrame _ | .targetModerationTimeout _ | .msixUnmask _ _ =>
    [.out]
  | .recordPlaced =>
    [.out, .placing, .rings]
  | .pop _ _ | .transferRead _ _ _ _ | .read _ _ _ _ | .readAt _ _ _ _ _ | .peakRead _ _ _ =>
    [.out, .resp, .rings]
  | .fencePlaced =>
    [.fences, .out, .rings]
  | .descriptorStart _ =>
    [.out, .rings]
  | .descriptorComplete _ _ _ =>
    [.collector, .out, .rings]
  | .nmtResetNode _ _ =>
    [.barriers, .heldWrites, .landing, .resp, .shadows]
  | .usdoSessionTimeout _ | .load _ _ _ _ | .responseFetch _ =>
    [.resp]
  | .canBusOff _ _ _ =>
    [.canQueue, .collector]
  | .canBusRecovered _ | .canRejoin _ =>
    [.canQueue, .collector, .out]
  | .ringHeadPop _ _ _ =>
    [.free, .out, .rings]
  | .transferDone _ _ _ | .arbitrationLost _ _ | .clockLowTimeout _ _ | .dataLowTimeout _ _ =>
    [.collector, .out]
  | .inbandRequest _ =>
    [.collector, .free, .out]
  | .tempSample _ _ =>
    [.collector, .dieMsgs, .free, .staged]
  | .attestationSigned | .sessionOpened =>
    [.collector, .free, .signing]
  | .randomSourceFault _ =>
    [.collector, .signing]

end Sys2Proof.Machine
end

