-- ==== Sys2Proof/Certificates/Slice0/Obligations.lean ====
section
/-!
DEFINITION. The statements for the provers. Safety.lean defines the terms in which they are stated: Safe, Gives, Raises,
DieRaises, Leaves, ResetBegun, Accepts, WritesValue, WritesAction.
-/
open Sys2Proof Sys2Proof.Machine

/-! ### The step -/

/-- A step takes the command at the front of the queue and runs it on the state with the queue's rest. -/
def Obligations.StepRunsTheFrontCommand : Prop :=
  ∀ (c : Instr) (rest : List Instr) (s : State), step { s with pending := c :: rest } = exec c { s with pending := rest }

/-- On an empty queue the block idles for one microsecond, and time stops short of a frame boundary that has not been processed (the
model's choice, log entry 2); a converter whose start is due begins (R199), and without one nothing but the time changes. -/
def Obligations.StepIdlesOnAnEmptyQueue : Prop :=
  ∀ s : State, s.pending = [] →
    step s = .next (idle s).startsBegin ∧
    ∃ t, step s = .next t ∧ (t.time = if s.time + 1 < s.nextBoundary then s.time + 1 else s.time) ∧
      ((∀ m < 4, s.nat (CONV_PHASE m) = 2 → t.time < s.nat (CONV_T0 m) + 10) → Leaves [] [.time] s t)

/-- No command of the table stops the block: each answers a next state, leaves the commands that wait behind it as they are,
never takes back what the block has sent, and never moves the frame count back. -/
def Obligations.EveryCommandAnswersANextState : Prop :=
  ∀ (c : Instr) (s : State), Gives c s fun t => t.pending = s.pending ∧ s.out <+: t.out ∧ s.frame ≤ t.frame

/-- Every step keeps the register file and the byte strings canonical: keys rise strictly, and no key is listed with its
reset value. -/
def Obligations.EveryStepKeepsSafe : Prop := ∀ s t : State, Safe s → step s = .next t → Safe t

/-- The block right after reset is safe. -/
def Obligations.ResetIsSafe : Prop := Safe core.reset

/-! ### Links and clocks (chapter 2) -/

/-- R14, R15, R16, R25, R27: the frames of a link that is up. An invalid uplink frame counts in INVALID_FRAMES and towards
the three of R16 and publishes nothing; a valid one ends that count and brings the summaries of the channels that are not
among the lost ones. A valid downlink frame is the one from which the 200 µs of a loss of the link are counted; it corrects
the die's copy of the tick, and of its commands those in discarded blocks are lost. An invalid one counts in INVALID_FRAMES
and brings the die nothing. That the three of R16 are uplink frames is the model's choice (log entry 77). An event block
brings the oldest message of its die to the collector; the other messages stay. -/
def Obligations.LinkFrames : Prop :=
  (∀ (d : Die) (errors : Nat) (lost : List Nat) (s : State), s.live = true → s.linkUp d = true →
    Gives (.uplinkFrameReceived d false errors lost) s (fun t =>
      t.nat (AMLOR_LINK.BLOCK_ERRORS d) = satTo 0xFFFFFFFF (s.nat (AMLOR_LINK.BLOCK_ERRORS d) + errors) ∧
      t.nat (AMLOR_LINK.INVALID_FRAMES d) = satTo 0xFFFFFFFF (s.nat (AMLOR_LINK.INVALID_FRAMES d) + 1) ∧
      t.nat (BAD_FRAMES d) = satTo 0xFFFF (s.nat (BAD_FRAMES d) + 1) ∧
      ∀ n f, t.get (RECEIVED n f) = s.get (RECEIVED n f)) ∧
    Gives (.uplinkFrameReceived d true errors lost) s (fun t =>
      t.nat (AMLOR_LINK.BLOCK_ERRORS d) = satTo 0xFFFFFFFF (s.nat (AMLOR_LINK.BLOCK_ERRORS d) + errors) ∧
      t.nat (AMLOR_LINK.INVALID_FRAMES d) = s.nat (AMLOR_LINK.INVALID_FRAMES d) ∧
      t.nat (BAD_FRAMES d) = 0 ∧
      (s.nat (AMLOR_LINK.LINK_STATE d) = 2 → ∀ n f, dieOf n = d → f < 13 →
        t.get (RECEIVED n f) = if lost.contains n then s.get (RECEIVED n f) else s.get (SUMMARY n f))) ∧
    Gives (.downlinkFrameReceived d true errors lost) s (fun t =>
      t.nat (LAST_VALID d) = s.time ∧ t.nat (LOSS_STOOD d) = 0 ∧ t.nat (DL_BAD d) = 0 ∧
      t.get (DIE_OFFSET d) = s.get TICK_OFFSET ∧ t.landing = loseCommands (s.inDownlink d) lost 0 s.landing ∧
      t.nat (AMLOR_LINK.INVALID_FRAMES d) = s.nat (AMLOR_LINK.INVALID_FRAMES d)) ∧
    Gives (.downlinkFrameReceived d false errors lost) s (fun t =>
      t.nat (LAST_VALID d) = s.nat (LAST_VALID d) ∧ t.nat (DL_BAD d) = 1 ∧ t.landing = s.landing ∧
      t.nat (AMLOR_LINK.BLOCK_ERRORS d) = satTo 0xFFFFFFFF (s.nat (AMLOR_LINK.BLOCK_ERRORS d) + errors) ∧
      t.nat (AMLOR_LINK.INVALID_FRAMES d) = satTo 0xFFFFFFFF (s.nat (AMLOR_LINK.INVALID_FRAMES d) + 1) ∧
      t.staged = s.staged)) ∧
  (∀ (d : Die) (m : DieMsg) (s : State), s.live = true → s.linkUp d = true → s.dieMsgs.find? (fun x => x.die == d.val) = some m →
    Gives (.eventBlockReceived d) s fun t =>
      t.dieMsgs = s.dieMsgs.erase m ∧ m.msg ∈ t.collector.drop s.collector.length)

/-- R16, R17, R22, R23: after three consecutive invalid frames a link retrains: LINK_STATE reads 1 and RETRAINS counts it;
trained again, LINK_STATE reads 2 on two lanes, and 3 on one with LINK_DEGRADED raised. The root falls back to the internal
oscillator on a missing edge and on a reference more than 7 % off, and never within 3 %; CLOCK_FALLBACK says why and from
what. A die that loses its forwarded reference uses its own oscillator. -/
def Obligations.LinkTrainingAndClocks : Prop :=
  (∀ (d : Die) (s : State), s.live = true →
    (s.linkUp d = true → 3 ≤ s.nat (BAD_FRAMES d) →
      Gives (.linkRetrain d) s fun t =>
        t.nat (AMLOR_LINK.LINK_STATE d) = 1 ∧
        t.nat (AMLOR_LINK.RETRAINS d) = satTo 0xFFFF (s.nat (AMLOR_LINK.RETRAINS d) + 1) ∧ t.nat (BAD_FRAMES d) = 0) ∧
    (s.nat (BAD_FRAMES d) < 3 → exec (.linkRetrain d) s = .next s) ∧
    (s.nat (AMLOR_LINK.LINK_STATE d) = 1 →
      Gives (.linkTrained d true) s (fun t => t.nat (AMLOR_LINK.LINK_STATE d) = 2 ∧ t.linkUp d = true) ∧
      Gives (.linkTrained d false) s (fun t =>
        t.nat (AMLOR_LINK.LINK_STATE d) = 3 ∧ t.linkUp d = true ∧
        Raises s t .LINK_DEGRADED (siteLink d) 0 [f8 (d.val + 1), f8 3]))) ∧
  (∀ (d : Die) (ppm : Int) (s : State), s.live = true → s.nat CLOCK_STATUS.ROOT_SOURCE ≠ 2 →
    Gives .referenceEdgeLoss s (fun t =>
      t.nat CLOCK_STATUS.ROOT_SOURCE = 2 ∧
      t.nat CLOCK_STATUS.FALLBACK_COUNT = satTo 0xFFFF (s.nat CLOCK_STATUS.FALLBACK_COUNT + 1) ∧
      Raises s t .CLOCK_FALLBACK siteRoot 0 [f8 0, f8 (s.nat CLOCK_STATUS.ROOT_SOURCE)]) ∧
    (70000 < ppm.natAbs → Gives (.referenceFrequencyCheck ppm) s fun t =>
      t.nat CLOCK_STATUS.ROOT_SOURCE = 2 ∧
      Raises s t .CLOCK_FALLBACK siteRoot 0 [f8 1, f8 (s.nat CLOCK_STATUS.ROOT_SOURCE)]) ∧
    (ppm.natAbs ≤ 30000 → exec (.referenceFrequencyCheck ppm) s = .next s) ∧
    Gives (.dieReferenceLoss d) s fun t =>
      t.nat (AMLOR_LINK.DIE_REF_SOURCE d) = 1 ∧
      (s.nat (AMLOR_LINK.DIE_REF_SOURCE d) ≠ 1 → s.nat PARK_STAGE ≠ 2 → t.nat (REF_TOLD d) = 1))

/-- R16, R89, R112, R113, R118: what makes a channel die stand. A loss of the link of 200 µs, a reset of the control die, a STAND block
and the return of its logic leave every channel of the die standing, whatever its state was. As the logic of a die fails, an
anchored channel holds its latch, on where it conducted (in PWM from half duty upward), and any other channel's gate floats to off. -/
def Obligations.DiesStand : Prop :=
  ∀ (d : Die) (s : State),
    (s.flag (LOGIC_OFF d) = false → s.flag (LOSS_STOOD d) = false → s.nat (LAST_VALID d) + 200 ≤ s.time →
      Gives (.linkLossStanding d) s fun t =>
        t.nat (AMLOR_LINK.LOSS_EVENTS d) = satTo 0xFFFF (s.nat (AMLOR_LINK.LOSS_EVENTS d) + 1) ∧
        t.nat (LOSS_STOOD d) = 1 ∧ ∀ n, dieOf n = d → t.standing n = true) ∧
    (s.flag (LOGIC_OFF d) = false → s.nat DEV_STATE = 0 →
      Gives .controlDieResetIndication s fun t => ∀ n, dieOf n = d → t.standing n = true) ∧
    (s.flag (LOGIC_OFF d) = false → s.nat (STAND_DUE d) ≠ 0 →
      Gives (.standBlock d) s fun t => t.nat (STAND_DUE d) = 0 ∧ ∀ n, dieOf n = d → t.standing n = true) ∧
    (s.flag (LOGIC_OFF d) = true → s.nat DEV_STATE = 1 →
      Gives (.anchorBrownout d) s fun t => t.flag (LOGIC_OFF d) = false ∧ ∀ n, dieOf n = d → t.standing n = true) ∧
    (s.flag (LOGIC_OFF d) = false →
      Gives (.logicDomainFail d) s fun t =>
        t.flag (LOGIC_OFF d) = true ∧ t.nat (LOGIC_OFF_AT d) = s.time ∧
        ∀ n, dieOf n = d →
          (isAnchored n = true → s.cell n ≠ ST.PWM →
          t.flag (LATCH n) = s.conducts n ∧ t.cell n = if s.conducts n then ST.ON else ST.OFF) ∧
          (isAnchored n = true → s.cell n = ST.PWM → t.flag (LATCH n) = decide (32768 ≤ s.pwmDuty n)) ∧
          (isAnchored n = false → t.cell n = ST.OFF ∧ t.nat (GATE n) = 7))

/-! ### Frames and measurement (chapters 2 and 4) -/

/-- R15, R24, R26, R38, R47, R55: a frame boundary ends the frame in progress: the time is that of the boundary, and the
frame count is one higher. At a boundary an accepted item takes effect from the boundary at which it is due, and not before;
it is then no longer waiting. An item that is due later stays, and so does one whose command was in a discarded block (R15)
or does not reach its die, one behind an open barrier (R55), and a tenant reset that comes with its tenant's commit (R47). -/
def Obligations.FramesAndLanding : Prop :=
  (∀ s : State, Gives .frameBoundary s fun t =>
    t.frame = s.frame + 1 ∧ t.time = s.nextBoundary) ∧
  (∀ (s : State) (l : Landing), s.landing = [l] →
    (s.frame < l.due → s.landAll = { s with landing := [{ l with lost := false }] }) ∧
    (l.due ≤ s.frame → l.lost = false → s.reaches l = true → s.barred l = false → s.afterCommit l = false →
      let t := ({ s with landing := [] } : State).landOne l
      s.landAll = { t with landing := t.landing.map fun x => { x with lost := false } }) ∧
    (l.due ≤ s.frame → (l.lost = true ∨ s.reaches l = false ∨ s.barred l = true ∨ s.afterCommit l = true) →
      s.landAll = { s with landing := [{ l with lost := false }] }))

/-- R24, R27, R87, R97, R101, R103: a round of a bank converts its sixteen channels: the load voltage within the range of
R101, and the current from the shunt voltage within full scale where a shunt is set (0 where none is). A frame has five
rounds, of 4 ticks each; a sixth does nothing. What the control die has received of a channel is published once: the
instants, means and the RMS of the summary, and the frame that they belong to. -/
def Obligations.Measurement : Prop :=
  (∀ (k : Bank) (vsh vload : List Int) (vbus head bswb bswn asv : Int) (s : State), s.flag (LOGIC_OFF (k.val / 8)) = false →
    (s.nat (ROUND_NO k) < 5 → 4 * s.nat (ROUND_NO k) ≤ s.tick % 20 → Gives (.measurementRound k vsh vload vbus head bswb bswn asv) s fun t =>
      t.nat (ROUND_NO k) = s.nat (ROUND_NO k) + 1 ∧
      ∀ i < 16, s.slotSkipped (16 * k.val + i) (s.nat (ROUND_NO k)) = false →
        t.get (SAMPLE_V (16 * k.val + i) (s.nat (ROUND_NO k))) = clampInt (-50000) 650000 (vload.getD i 0) ∧
        t.get (SAMPLE_I (16 * k.val + i) (s.nat (ROUND_NO k))) =
          if s.shuntSet (16 * k.val + i) then s.currentOf (16 * k.val + i) (clampInt (-80000000) 80000000 (vsh.getD i 0)) else 0) ∧
    (5 ≤ s.nat (ROUND_NO k) → exec (.measurementRound k vsh vload vbus head bswb bswn asv) s = .next s)) ∧
  (∀ (n : Chan) (s : State),
    (s.nat (RECEIVED n 12) ≠ 0 →
      let t := s.publish n
      t.get (CHANNEL_STATUS.I_INST n) = s.get (RECEIVED n 0) ∧ t.get (CHANNEL_STATUS.V_INST n) = s.get (RECEIVED n 1) ∧
      t.get (CHANNEL_STATUS.I_MEAN n) = s.get (RECEIVED n 2) ∧ t.get (CHANNEL_STATUS.V_MEAN n) = s.get (RECEIVED n 3) ∧
      t.get (CHANNEL_STATUS.I_RMS n) = s.get (RECEIVED n 4) ∧ t.get (CHANNEL_STATUS.MEAS_FRAME n) = s.get (RECEIVED n 11) ∧
      t.nat (RECEIVED n 12) = 0 ∧ t.publish n = t) ∧
    (s.nat (RECEIVED n 12) = 0 → s.publish n = s))

/-! ### Channels (chapters 4 and 5) -/

/-- R91 to R93: the charge pump and the bus of a bank. Headroom of 10.0 V makes a running pump ready; one that is not ready 200 µs
after its start, and one whose headroom falls below 9.0 V, is low; the pump stops when its millisecond has passed and no channel
needs it. VBUS below BUS_UV_LEVEL, and 0.5 V above it again, sets and clears BUS_UV. Each mirror flag of the sixteen channels
follows. -/
def Obligations.PumpsAndBuses : Prop :=
  ∀ (k : Bank) (v : Int) (s : State),
    (s.bankFlag k BFLAG.RUNNING = true → 100000 ≤ v → Gives (.pumpReady k v) s fun t =>
      t.bankFlag k BFLAG.READY = true ∧ t.bankFlag k BFLAG.PUMP_LOW = false ∧
      ∀ i < 16, t.chFlag (16 * k.val + i) FLAG.PUMP_LOW = false) ∧
    (s.bankFlag k BFLAG.RUNNING = true → s.bankFlag k BFLAG.READY = false → s.nat (PUMP_START k) + 200 ≤ s.time →
      s.bankFlag k BFLAG.PUMP_LOW = false → Gives (.pumpStartTimeout k) s fun t =>
        t.bankFlag k BFLAG.PUMP_LOW = true ∧ (∀ i < 16, t.chFlag (16 * k.val + i) FLAG.PUMP_LOW = true) ∧
        DieRaises s t (k.val / 8) .CHARGE_PUMP_LOW (siteBank k 0x81) 0 [f8 k.val, f32 (s.get (BANK.PUMP_HEADROOM k))]) ∧
    (s.bankFlag k BFLAG.RUNNING = true → s.bankFlag k BFLAG.READY = true → v < 90000 →
      s.bankFlag k BFLAG.PUMP_LOW = false → Gives (.pumpHeadroomLow k v) s fun t =>
        t.bankFlag k BFLAG.PUMP_LOW = true ∧ (∀ i < 16, t.chFlag (16 * k.val + i) FLAG.PUMP_LOW = true) ∧
        DieRaises s t (k.val / 8) .CHARGE_PUMP_LOW (siteBank k 0x81) 0 [f8 k.val, f32 (s.get (BANK.PUMP_HEADROOM k))]) ∧
    (s.bankFlag k BFLAG.RUNNING = true → s.nat (PUMP_STOP_AT k) ≠ 0 → s.nat (PUMP_STOP_AT k) ≤ s.time →
      s.pumpNeeded k = false → Gives (.pumpStop k) s fun t =>
        t.bankFlag k BFLAG.RUNNING = false ∧ t.bankFlag k BFLAG.READY = false ∧ t.nat (PUMP_STOP_AT k) = 0) ∧
    (v < s.get (BANK.BUS_UV_LEVEL k) → s.bankFlag k BFLAG.BUS_UV = false → Gives (.busUndervoltage k v) s fun t =>
      t.bankFlag k BFLAG.BUS_UV = true ∧ (∀ i < 16, t.chFlag (16 * k.val + i) FLAG.BUS_UV = true) ∧
      DieRaises s t (k.val / 8) .BUS_UNDERVOLTAGE (siteBank k 0x83) 0 [f8 k.val, f32 (s.get (BANK.VBUS k))]) ∧
    (s.bankFlag k BFLAG.BUS_UV = true → s.get (BANK.BUS_UV_LEVEL k) + 5000 ≤ v → Gives (.busUvCleared k v) s fun t =>
      t.bankFlag k BFLAG.BUS_UV = false ∧ ∀ i < 16, t.chFlag (16 * k.val + i) FLAG.BUS_UV = false)

/-- R94, R106, R107: a ramp ends in ON when two rounds meet the ON criterion; under REQUEST 2 the channel then waits for its first phase
instant, on a standing channel only after a retry.
A ramp that has not ended within RAMP_TIMEOUT trips with cause 5 through the sink stage. At its phase instant a
channel in ON that waits for PWM begins its first period there: the instant is the start of the period, and the planned off edge
comes after the duty's share of it. At the off edge the gate falls by its sink stage. -/
def Obligations.RampsAndPwm : Prop :=
  ∀ (n : Chan) (d1 d2 v1 v2 vgs vload : Int) (s : State),
    (s.cell n = ST.RAMP → d1 ≤ s.get (CHANNEL_CONFIG.RAMP_DONE_DROP n) → d2 ≤ s.get (CHANNEL_CONFIG.RAMP_DONE_DROP n) →
      90000 < v1 → 90000 < v2 → Gives (.rampDone n d1 d2 v1 v2) s fun t =>
        t.cell n = ST.ON ∧ t.nat (GATE n) = 2 ∧
        (s.nat (inForce (CHANNEL_CONFIG.REQUEST n)) = 2 → s.standing n = false ∨ s.flag (RAMP_RETRY n) = true → t.nat (PEND n) = 2)) ∧
    (s.cell n = ST.RAMP → s.nat (RAMP_START n) + s.nat (CHANNEL_CONFIG.RAMP_TIMEOUT n) ≤ s.time →
      Gives (.rampTimeout n vgs vload) s fun t =>
        t.cell n = ST.TRIP ∧ t.nat (GATE n) = 5 ∧ t.nat (CHANNEL_STATUS.TRIP_CAUSE n) = 5 ∧ t.nat (TRIP_STATE n) = ST.RAMP ∧
        t.nat (CHANNEL_SUPERVISION.TIMEOUT_TRIPS n) = satTo 0xFFFF (s.nat (CHANNEL_SUPERVISION.TIMEOUT_TRIPS n) + 1) ∧
        DieRaises s t (dieOf n) .RAMP_TIMEOUT_TRIP (siteChannel n 0x01) (s.holderOfChannel n) [f16 n.val, f32 vgs, f32 vload]) ∧
    (s.flag (LOGIC_OFF (dieOf n)) = false → s.nat (PWM_NEXT n) ≤ s.time → s.nextPhase n s.time = s.time → s.nat (PEND n) = 2 →
      s.cell n = ST.ON → Gives (.pwmPhaseInstant n) s fun t =>
      t.cell n = ST.PWM ∧ t.nat (PEND n) = 0 ∧ t.nat (PWM_AT n) = s.time ∧
      t.nat (PWM_OFF n) = s.time * 160 + s.pwmPeriod n * 160 * s.pwmDuty n / 65536) ∧
    (s.cell n = ST.PWM → s.flag (PWM_HIGH n) = true → s.nat (PEND n) ≠ 1 → s.nat (PWM_OFF n) ≤ s.time * 160 + 159 →
      Gives (.pwmOffEdge n) s fun t => t.cell n = ST.PWM ∧ t.nat (GATE n) = 5 ∧ t.flag (PWM_HIGH n) = false)

/-- R118, R121 to R124: a crossing of the hard-short level, beyond the threshold's accuracy of 2 % + 0.25 mV, of 150 ns or more and
outside blanking, trips an armed channel through the emergency pull-down with cause 1; on a die without logic it pulls the latch of an
anchored channel. One of less than 50 ns or below the threshold does nothing, and neither does one within blanking outside LIMIT. -/
def Obligations.HardShortTrips : Prop :=
  ∀ (n : Chan) (ns : Nat) (vsh : Int) (s : State),
    (s.flag (LOGIC_OFF (dieOf n)) = false → s.comparatorArmed n = true → s.blanked n = false → 150 ≤ ns →
      (s.shortLevel n + s.shortLevel n / 50 + 250000 : Nat) < vsh → Gives (.hardShortTrip n ns vsh) s fun t =>
      t.cell n = ST.TRIP ∧ t.nat (GATE n) = 4 ∧ t.nat (CHANNEL_STATUS.TRIP_CAUSE n) = 1 ∧ t.nat (TRIP_STATE n) = s.cell n ∧
      t.nat (CHANNEL_SUPERVISION.HARD_TRIPS n) = satTo 0xFFFF (s.nat (CHANNEL_SUPERVISION.HARD_TRIPS n) + 1) ∧
      t.nat (WAIT_END n) = s.time + s.nat (CHANNEL_PROTECTION.RETRY_WAIT n) ∧
      DieRaises s t (dieOf n) .HARD_SHORT_TRIP (siteChannel n 0x20) (s.holderOfChannel n)
        [f16 n.val, f8 (s.cell n), f8 (s.get (CHANNEL_PROTECTION.RETRIES_LEFT n))]) ∧
    (s.flag (LOGIC_OFF (dieOf n)) = true → isAnchored n = true → s.flag (LATCH n) = true → 150 ≤ ns →
      (s.shortLevel n + s.shortLevel n / 50 + 250000 : Nat) < vsh → Gives (.hardShortTrip n ns vsh) s fun t =>
        t.flag (LATCH n) = false ∧ t.flag (LATCH_PULLED n) = true ∧ t.cell n = ST.OFF ∧ t.nat (GATE n) = 0) ∧
    (ns < 50 ∨ vsh ≤ s.shortLevel n - (s.shortLevel n / 50 + 250000 : Nat) ∨
      (s.flag (LOGIC_OFF (dieOf n)) = false ∧ (s.blanked n = true ∨ s.comparatorArmed n = false)) →
      exec (.hardShortTrip n ns vsh) s = .next s)

/-- R125 to R127: a shunt voltage above the effective limit takes a channel in RAMP, in ON or in a PWM on-time to LIMIT, counted; the loop
saturated for two rounds takes it back to where it came from; LIMIT_MAX_TIME in LIMIT trips it with cause 4; and the episode ends
1 ms after LIMIT was left. -/
def Obligations.CurrentLimit : Prop :=
  ∀ (n : Chan) (vsh r1 r2 : Int) (s : State),
    (s.flag (LOGIC_OFF (dieOf n)) = false → s.cell n = ST.RAMP ∨ s.cell n = ST.ON ∨ (s.cell n = ST.PWM ∧ s.flag (PWM_HIGH n) = true) →
      s.effectiveLimit n ≠ 0 → (s.effectiveLimit n : Int) < vsh → Gives (.limitEntered n vsh) s fun t =>
        t.cell n = ST.LIMIT ∧ t.nat (LIMIT_FROM n) = s.cell n ∧ t.nat (GATE n) = 3 ∧ t.nat (LIMIT_SINCE n) = s.time ∧
        t.nat (CHANNEL_SUPERVISION.LIMIT_ENTRIES n) = satTo 0xFFFF (s.nat (CHANNEL_SUPERVISION.LIMIT_ENTRIES n) + 1) ∧
        DieRaises s t (dieOf n) .LIMIT_ENTERED (siteChannel n 0x22) (s.holderOfChannel n)
          [f16 n.val, f32 (divNear (s.effectiveLimit n) 100000)]) ∧
    (s.cell n = ST.LIMIT → r1 ≤ 5000 → r2 ≤ 5000 →
      Gives (.limitSaturatedExit n r1 r2) s fun t => t.cell n = s.nat (LIMIT_FROM n)) ∧
    (s.cell n = ST.LIMIT → s.nat (CHANNEL_PROTECTION.LIMIT_MAX_TIME n) ≤ s.limitTime n → Gives (.limitTimeoutTrip n) s fun t =>
      t.cell n = ST.TRIP ∧ t.nat (CHANNEL_STATUS.TRIP_CAUSE n) = 4 ∧ t.nat (GATE n) = 4 ∧
      t.nat (CHANNEL_SUPERVISION.TIMEOUT_TRIPS n) = satTo 0xFFFF (s.nat (CHANNEL_SUPERVISION.TIMEOUT_TRIPS n) + 1) ∧
      DieRaises s t (dieOf n) .LIMIT_TIMEOUT_TRIP (siteChannel n 0x23) (s.holderOfChannel n) [f16 n.val, f32 (s.limitTime n)]) ∧
    (s.flag (LIMIT_EPISODE n) = true → s.cell n ≠ ST.LIMIT → s.nat (LIMIT_LEFT n) + 1000 ≤ s.time →
      Gives (.limitEpisodeEnd n) s fun t => t.flag (LIMIT_EPISODE n) = false ∧ t.nat (LIMIT_SPENT n) = 0)

/-- R95, R124, R135 to R137: as VGS falls below 1.0 V the static hold takes over, and a trip whose frame has ended settles: LOCKOUT with no retries left, otherwise
RETRY, or OFF where REQUEST is 0. A retry whose wait has ended and that owes no cooling uses one retry (255 is unlimited) and asks
for admission; on a standing channel it ramps at once. RETRY_RESET_TIME in ON or PWM restores the retries. -/
def Obligations.TripsAndRetries : Prop :=
  ∀ (n : Chan) (vgs : Int) (s : State),
    (s.cell n = ST.TRIP → s.nat (GATE n) = 4 ∨ s.nat (GATE n) = 5 → vgs < 10000 → s.frame ≤ s.nat (TRIP_FRAME n) →
      Gives (.tripSettled n vgs) s fun t => t.cell n = ST.TRIP ∧ t.nat (GATE n) = 0) ∧
    (s.cell n = ST.TRIP → vgs < 10000 → s.nat (TRIP_FRAME n) < s.frame →
      (s.nat (CHANNEL_PROTECTION.RETRIES_LEFT n) = 0 → Gives (.tripSettled n vgs) s fun t => t.cell n = ST.LOCKOUT) ∧
      (s.nat (CHANNEL_PROTECTION.RETRIES_LEFT n) ≠ 0 → s.nat (inForce (CHANNEL_CONFIG.REQUEST n)) ≠ 0 ∨ s.standing n = true →
        Gives (.tripSettled n vgs) s fun t => t.cell n = ST.RETRY) ∧
      (s.nat (CHANNEL_PROTECTION.RETRIES_LEFT n) ≠ 0 → s.nat (inForce (CHANNEL_CONFIG.REQUEST n)) = 0 → s.standing n = false →
        Gives (.tripSettled n vgs) s fun t => t.cell n = ST.OFF)) ∧
    (s.cell n = ST.RETRY → s.nat (WAIT_END n) ≤ s.time → s.coolingOwed n = false → s.waiting n = false →
      s.flag (LOGIC_OFF (dieOf n)) = false → Gives (.retryDue n) s fun t =>
        t.nat (CHANNEL_PROTECTION.RETRIES_LEFT n) = (if s.nat (CHANNEL_PROTECTION.RETRIES_LEFT n) < 255 then
          s.nat (CHANNEL_PROTECTION.RETRIES_LEFT n) - 1 else s.nat (CHANNEL_PROTECTION.RETRIES_LEFT n)) ∧
        (s.standing n = false → t.nat (ADMIT_KIND n) = 2 ∧ t.chFlag n FLAG.WAITING_ADMISSION = true ∧ t.cell n = ST.RETRY) ∧
        (s.standing n = true → t.cell n = ST.RAMP ∧ t.chFlag n FLAG.GENTLE_START = true ∧
          t.nat (CHANNEL_SUPERVISION.RETRIES n) = satTo 0xFFFF (s.nat (CHANNEL_SUPERVISION.RETRIES n) + 1))) ∧
    (s.flag (LOGIC_OFF (dieOf n)) = false → s.cell n = ST.ON ∨ s.cell n = ST.PWM →
      s.nat (CHANNEL_PROTECTION.RETRY_RESET_TIME n) ≤ s.nat (RUN_SPENT n) + (s.time - s.nat (RUN_SINCE n)) →
      Gives (.retryResetTime n) s fun t =>
        t.nat (CHANNEL_PROTECTION.RETRIES_LEFT n) = s.nat (CHANNEL_PROTECTION.RETRY_COUNT n))

/-- R146, R148, R152, R153: a lamp's envelope ends LAMP_DECAY_TIME after its start; a lamp below its open fraction for 50
published frames in ON, or 2 periods in PWM, is open, and OPEN_LAMP is raised once per on-period. The overlap of a swap ends
at a boundary at least OVERLAP after the ON criterion: the swap is over, counted, and the outgoing REQUEST is 0. A swap whose
incoming channel is not ON in time aborts with result 2, and the incoming REQUEST is 0. -/
def Obligations.LampsAndSwaps : Prop :=
  (∀ (n : Chan) (s : State),
    (s.modelFlag n MFLAG.LAMP_ENVELOPE = true → s.nat (LAMP_AT n) + s.nat (CHANNEL_PROTECTION.LAMP_DECAY_TIME n) ≤ s.time →
      Gives (.lampEnvelopeEnd n) s fun t =>
        t.nat (CHANNEL_PROTECTION.MODEL_FLAGS n) = putBit (s.nat (CHANNEL_PROTECTION.MODEL_FLAGS n)) MFLAG.LAMP_ENVELOPE false) ∧
    (s.flag (CHANNEL_PROTECTION.LAMP_MODE n) = true → s.nat (CHANNEL_PROTECTION.LAMP_OPEN_FRACTION n) ≠ 0 →
      (s.cell n = ST.ON ∧ 50 ≤ s.nat (LAMP_LOW n)) ∨ (s.cell n = ST.PWM ∧ 2 ≤ s.nat (LAMP_LOW n)) →
      (Gives (.openLamp n) s fun t =>
        t.nat (CHANNEL_PROTECTION.MODEL_FLAGS n) = putBit (s.nat (CHANNEL_PROTECTION.MODEL_FLAGS n)) MFLAG.OPEN_LAMP true ∧
        t.flag (LAMP_TOLD n) = true) ∧
      (s.flag (LAMP_TOLD n) = false → Gives (.openLamp n) s fun t =>
        DieRaises s t (dieOf n) .OPEN_LAMP (siteChannel n 0x29) (s.holderOfChannel n)
          [f16 n.val, f32 (s.get (if s.cell n = ST.PWM then CHANNEL_STATUS.I_RMS n else CHANNEL_STATUS.I_MEAN n))]) ∧
      (s.flag (LAMP_TOLD n) = true → Gives (.openLamp n) s fun t => t.dieMsgs = s.dieMsgs))) ∧
  (∀ (p : Pair) (s : State),
    (s.time = s.nat LAST_BOUNDARY → s.nat (CASTLING_PAIR.SWAP_STATE p) = 2 → s.swapOut p < 512 → s.commands (s.swapOut p) = true →
      s.nat (SWAP_ON_AT p) + s.nat (SWAP_OVER p) ≤ s.time → Gives (.swapOverlapEnd p) s fun t =>
        t.nat (CASTLING_PAIR.SWAP_STATE p) = 0 ∧ t.nat (CHANNEL_CONFIG.REQUEST (s.swapOut p)) = 0 ∧
        t.nat (CASTLING_PAIR.SWAP_RESULT p) = (if s.carries (s.swapOut p) then s.nat (SWAP_SIDE p) else 7) ∧
        t.nat (CASTLING_PAIR.SWAP_COUNT p) = (s.nat (CASTLING_PAIR.SWAP_COUNT p) + 1) % 2 ^ 32) ∧
    (s.nat (CASTLING_PAIR.SWAP_STATE p) = 1 → s.swapIn p < 512 → s.nat (SWAP_AT p) + s.nat (CASTLING_PAIR.SWAP_TIMEOUT p) ≤ s.time →
      Gives (.swapTimeout p) s fun t =>
        t.nat (CASTLING_PAIR.SWAP_STATE p) = 0 ∧ t.nat (CASTLING_PAIR.SWAP_RESULT p) = 2 ∧
        t.nat (CHANNEL_CONFIG.REQUEST (s.swapIn p)) = 0 ∧
        Raises s t .SWAP_ABORTED (siteChannel (s.swapIn p) 0) (s.holderOfPair p) [f8 p.val, f8 2]))

/-- R99, R110, R111: the trigger of an armed capture starts its filling and takes the stamp; a full buffer completes it, with the record
to its owner; and the calibration rotation of a bank goes on with the next of its seventeen positions. -/
def Obligations.CaptureAndCalibration : Prop :=
  ∀ (d : Die) (k : Bank) (gi oi gv ov : Int) (s : State),
    (s.nat (BANK.CAPTURE_STATE (8 * d.val)) = 1 → s.triggered d = true → Gives (.captureTrigger d) s fun t =>
      t.nat (BANK.CAPTURE_STATE (8 * d.val)) = 2 ∧ t.nat (BANK.TRIGGER_STAMP (8 * d.val)) = s.stamp) ∧
    (s.nat (BANK.CAPTURE_STATE (8 * d.val)) = 2 →
      (∀ i < s.nat (BANK.CAPTURE_SIGNALS (8 * d.val)), s.captureLength d ≤ s.captureCount d i) →
      Gives (.captureComplete d) s fun t =>
        t.nat (BANK.CAPTURE_STATE (8 * d.val)) = 3 ∧ t.blob (BANK.CAPTURE_DATA (8 * d.val)) = s.captureData d ∧
        DieRaises s t d .CAPTURE_COMPLETE (siteDie d 0xE2) (s.nat (BANK.CAPTURE_OWNER (8 * d.val)))
          [f8 (d.val + 1), f32 (s.nat (BANK.TRIGGER_STAMP (8 * d.val)) % 2 ^ 32 : Nat), f16 (s.captureLength d)]) ∧
    (s.flag (CAL_PAUSED k) = false → s.nat (CAL_POS_AT k) + 4096 ≤ s.time →
      Gives (.calibrationPositionEnd k gi oi gv ov) s fun t =>
        t.nat (CAL_POS k) = (s.nat (CAL_POS k) + 1) % 17 ∧ t.nat (CAL_POS_AT k) = s.time)

/-! ### Plans, windows and reset outputs (chapter 6) -/

/-- R160 to R164, R167: a step whose DELAY has passed acts at an evaluation: its REQUEST writes are accepted, and go out in
the downlink of this frame, but an ON step sends none to a channel that it sees in PWM or LIMIT. A step whose timer has
reached TIMEOUT is a stalemate: counted and raised, then skipped, its plan ended with result 3, or held, by its policy. A
step that waits for discharge is done after DISCHARGE_TIMEOUT, and each member that is not discharged is counted and raised.
A selected wake input that was active and has been inactive for TRIGGER_DELAY triggers Endgame, which starts at the next
boundary: its state is running, its run is counted, and a running Opening plan ends with result 5. -/
def Obligations.Plans : Prop :=
  (∀ (p : Fin 2) (i : Fin 128) (s : State), s.planInstant p.val = true → i.val < s.nat (ofPlan p.val OPENING_PLAN.STEP_COUNT) →
    s.nat (ofPlan p.val OPENING_PLAN.STEP_COUNT) ≤ 128 →
    let w := s.stepWord p.val (i.val + 1)
    let j := stepOf p.val (i.val + 1)
    (s.stepState p.val (i.val + 1) = 1 → s.nat (STEP_READY_AT j) + 1000 * SW.delay w ≤ s.time → Gives (.stepDelayEnd p i) s fun t =>
      (SW.depMode w = 0 → t.stepState p.val (i.val + 1) = 2 ∨ t.stepState p.val (i.val + 1) = 3) ∧ t.nat (STEP_ACT_AT j) = s.time ∧
      (SW.action w = 1 ∨ SW.action w = 2 → ∀ n ∈ s.members (SW.group w), s.trumpHeld n = false →
        (SW.action w = 1 → s.seenState n ≠ ST.PWM ∧ s.seenState n ≠ ST.LIMIT) →
        (⟨s.holderOfChannel n, s.frame + (s.dieDelay (dieOf n) - 1), s.time,
          .value (CHANNEL_CONFIG.REQUEST n) (if SW.action w = 1 then 1 else 0), false⟩ : Landing) ∈ t.landing)) ∧
    (s.stepState p.val (i.val + 1) = 0 ∨ (s.stepState p.val (i.val + 1) = 2 ∧ SW.action w ≠ 4) → SW.timeout w ≠ 0 →
      1000 * SW.timeout w ≤ s.nat (STEP_SPENT j) → Gives (.stalemate p i) s fun t =>
        t.nat (ofPlan p.val OPENING_PLAN.STALEMATES) = satTo 0xFFFF (s.nat (ofPlan p.val OPENING_PLAN.STALEMATES) + 1) ∧
        (∃ short, Raises s t .STALEMATE (siteBlock 0x7F (p.val + 1) (i.val + 1)) 0
          [f8 (p.val + 1), f8 (i.val + 1), f8 (SW.policy w), f16 short]) ∧
        (SW.policy w = 0 → t.stepState p.val (i.val + 1) = 4 ∧
          Raises s t .STEP_SKIPPED (siteBlock 0x7F (p.val + 1) (i.val + 1)) 0 [f8 (p.val + 1), f8 (i.val + 1), f8 1]) ∧
        (SW.policy w = 1 → t.nat (ofPlan p.val OPENING_PLAN.PLAN_STATE) = 3 ∧ t.nat (ofPlan p.val OPENING_PLAN.RESULT) = 3) ∧
        (SW.policy w = 2 → t.stepState p.val (i.val + 1) = 5 ∧ t.nat (ofPlan p.val OPENING_PLAN.PLAN_STATE) = 2)) ∧
    (s.stepState p.val (i.val + 1) = 2 → SW.action w = 4 →
      s.nat (STEP_ACT_AT j) + s.nat (SEQ_GROUP.DISCHARGE_TIMEOUT (SW.group w)) ≤ s.time → Gives (.dischargeTimeout p i) s fun t =>
        t.stepState p.val (i.val + 1) = 3 ∧
        ∀ n < 512, (s.nat (STEP_SNAP j)).testBit n = true → (s.metNow p.val (i.val + 1)).testBit n = false →
          t.bit (WIN n) WFLAG.NOT_DISCHARGED = true ∧
          t.nat (CHANNEL_SUPERVISION.DISCHARGE_TIMEOUTS n) =
            satTo 0xFFFF (s.nat (CHANNEL_SUPERVISION.DISCHARGE_TIMEOUTS n) + 1) ∧
          DieRaises s t (dieOf n) .NOT_DISCHARGED (siteChannel n 0) (s.holderOfChannel n)
            [f16 n, f32 (s.get (CHANNEL_STATUS.V_MEAN n)), f32 (s.get (SEQ_GROUP.DISCHARGE_LEVEL (SW.group w)))])) ∧
  (∀ (us : Nat) (s : State),
    (s.live = true → s.nat ENDGAME_PLAN.TRIGGER ≠ 0 → s.nat ENDGAME_PLAN.TRIGGER ≤ 8 → s.planRuns 1 = false →
      s.flag (ENDGAME_ARMED (s.nat ENDGAME_PLAN.TRIGGER - 1)) = true → s.wakeActive (s.nat ENDGAME_PLAN.TRIGGER - 1) = false →
      s.nat ENDGAME_PLAN.TRIGGER_DELAY ≤ us → Gives (.endgameTrigger us) s fun t =>
        t.nat ENDGAME_DUE = s.nat ENDGAME_PLAN.TRIGGER ∧ t.flag (ENDGAME_ARMED (s.nat ENDGAME_PLAN.TRIGGER - 1)) = false) ∧
    (us < s.nat ENDGAME_PLAN.TRIGGER_DELAY → exec (.endgameTrigger us) s = .next s) ∧
    (s.flag ENDGAME_DUE = true → s.planRuns 1 = false → s.nat OPENING_PLAN.STEP_COUNT ≤ 128 → s.nat ENDGAME_PLAN.STEP_COUNT ≤ 128 →
      let t := s.endgameBoundary
      t.nat (ofPlan 1 OPENING_PLAN.PLAN_STATE) = 1 ∧ t.nat ENDGAME_DUE = 0 ∧
      t.nat (ofPlan 1 OPENING_PLAN.RUNS) = satTo 0xFFFF (s.nat (ofPlan 1 OPENING_PLAN.RUNS) + 1) ∧
      (s.planRuns 0 = true → t.nat OPENING_PLAN.PLAN_STATE = 3 ∧ t.nat OPENING_PLAN.RESULT = 5)))

/-- R169 to R171: UV_SET_FILTER consecutive judged values below UV_LEVEL set UNDER, and OV_SET_FILTER above OV_LEVEL set OVER: counted,
raised, and the channel is not GOOD. The clear filters clear them, with the NEAR flag, and GOOD follows from what is left. With
WINDOW_MODE 0 nothing is judged. -/
def Obligations.Windows : Prop :=
  ∀ (n : Chan) (s : State),
    (s.nat (CHANNEL_SUPERVISION.WINDOW_MODE n) = 1 →
      (s.bit (WIN n) WFLAG.UNDER = false → s.nat (CHANNEL_SUPERVISION.UV_SET_FILTER n) ≤ s.nat (WIN_COUNT n 0) →
        Gives (.undervoltage n) s fun t =>
          t.bit (WIN n) WFLAG.UNDER = true ∧ t.isGood n = false ∧
          t.nat (CHANNEL_SUPERVISION.UV_COUNT n) = satTo 0xFFFF (s.nat (CHANNEL_SUPERVISION.UV_COUNT n) + 1) ∧
          DieRaises s t (dieOf n) .UNDERVOLTAGE (siteChannel n 0) (s.holderOfChannel n)
            [f16 n.val, f32 (s.get (WIN_LAST n)), f32 (s.get (CHANNEL_SUPERVISION.UV_LEVEL n))]) ∧
      (s.bit (WIN n) WFLAG.OVER = false → s.nat (CHANNEL_SUPERVISION.OV_SET_FILTER n) ≤ s.nat (WIN_COUNT n 3) →
        Gives (.overvoltage n) s fun t =>
          t.bit (WIN n) WFLAG.OVER = true ∧ t.isGood n = false ∧
          t.nat (CHANNEL_SUPERVISION.OV_COUNT n) = satTo 0xFFFF (s.nat (CHANNEL_SUPERVISION.OV_COUNT n) + 1) ∧
          DieRaises s t (dieOf n) .OVERVOLTAGE (siteChannel n 0) (s.holderOfChannel n)
            [f16 n.val, f32 (s.get (WIN_LAST n)), f32 (s.get (CHANNEL_SUPERVISION.OV_LEVEL n))]) ∧
      (s.nat (CHANNEL_SUPERVISION.UV_CLEAR_FILTER n) ≤ s.nat (WIN_COUNT n 2) → Gives (.underCleared n) s fun t =>
        t.bit (WIN n) WFLAG.UNDER = false ∧ t.bit (WIN n) WFLAG.NEAR_LOW = false ∧
        t.isGood n = (s.bit (WIN n) WFLAG.LOWER_JUDGING && !s.bit (WIN n) WFLAG.OVER)) ∧
      (s.nat (CHANNEL_SUPERVISION.OV_CLEAR_FILTER n) ≤ s.nat (WIN_COUNT n 5) → Gives (.overCleared n) s fun t =>
        t.bit (WIN n) WFLAG.OVER = false ∧ t.bit (WIN n) WFLAG.NEAR_HIGH = false ∧
        t.isGood n = (s.bit (WIN n) WFLAG.LOWER_JUDGING && !s.bit (WIN n) WFLAG.UNDER))) ∧
    (s.nat (CHANNEL_SUPERVISION.WINDOW_MODE n) ≠ 1 →
      exec (.undervoltage n) s = .next s ∧ exec (.overvoltage n) s = .next s ∧
      exec (.underCleared n) s = .next s ∧ exec (.overCleared n) s = .next s)

/-- R176 to R178: an asserted output whose FORCE is 0 and whose source has been good for STRETCH is released, with its stamp and a
record. FORCE 1 asserts it as it lands, counted; FORCE 0 asserts and releases nothing as it lands. While the keeper holds the
control die, an output with KEEPER_REPORT changes after each half second. -/
def Obligations.ResetOutputs : Prop :=
  ∀ (r : Rso) (t : Nat) (s : State),
    (s.nat (inForce (RESET_OUTPUT.FORCE r)) = 0 → s.nat (RSO_GOOD_SINCE r) ≠ 0 → s.flag (RESET_OUTPUT.OUTPUT r) = true →
      max (s.nat (RSO_GOOD_SINCE r) - 1) (s.nat (RSO_CLEAR_AT r)) + 1000 * s.nat (RESET_OUTPUT.STRETCH r) ≤ s.time →
      Gives (.rsoRelease r) s fun x =>
        x.flag (RESET_OUTPUT.OUTPUT r) = false ∧ x.nat (RESET_OUTPUT.LAST_CHANGE_STAMP r) = s.stamp ∧
        ∃ cause, Raises s x .RSO_CHANGED (siteRso r) 0 [f8 r.val, f8 0, f8 cause]) ∧
    (s.nat (inForce (RESET_OUTPUT.FORCE r)) ≠ 0 ∨ s.nat (RSO_GOOD_SINCE r) = 0 → exec (.rsoRelease r) s = .next s) ∧
    (s.flag KEEPER_HOLDING = true → s.flag (RSO_KEEP r) = true → s.nat (RSO_TOGGLE_AT r) + 500000 ≤ s.time →
      Gives (.keeperReportToggle r) s fun x =>
        x.flag (RESET_OUTPUT.OUTPUT r) = !s.flag (RESET_OUTPUT.OUTPUT r) ∧ x.nat (RSO_TOGGLE_AT r) = s.time) ∧
    (s.flag (RSO_KEEP r) = false → exec (.keeperReportToggle r) s = .next s) ∧
    (let x := s.landValue t (RESET_OUTPUT.FORCE r) 1
     x.nat (inForce (RESET_OUTPUT.FORCE r)) = 1 ∧ x.flag (RESET_OUTPUT.OUTPUT r) = true ∧
     (s.flag (RESET_OUTPUT.OUTPUT r) = false →
       x.nat (RESET_OUTPUT.ASSERT_COUNT r) = satTo 0xFFFF (s.nat (RESET_OUTPUT.ASSERT_COUNT r) + 1))) ∧
    (let x := s.landValue t (RESET_OUTPUT.FORCE r) 0
     x.nat (inForce (RESET_OUTPUT.FORCE r)) = 0 ∧ x.flag (RESET_OUTPUT.OUTPUT r) = s.flag (RESET_OUTPUT.OUTPUT r) ∧
     x.nat (RSO_CLEAR_AT r) = s.time)

/-! ### Commits, barriers and the audit (chapter 3) -/

/-- R42, R43, R52, R55, R57, R62 to R64: what ends the waits of a commit. With the last acknowledgement within the wait it is
accepted, for two boundaries later or for its SYNC count; without it, it is rejected with reason 9 and its staging stays. The
SYNC count that it waits for starts it; a count that has passed, or 1 s without SYNC, rejects it with reason 10. A barrier
whose earlier writes have taken effect closes with its identifier in BARRIER_DONE; a COMMIT written behind it waits for that
with STATUS 1. A sweep starts at a 100 ms point with the digest of what is applied; at its end its results are published
together, and a die whose digest differs from the expected one is raised as DRIFT. Once the resend to such a die has been
acknowledged, its re-check publishes anew, and a difference that persists is raised as DRIFT_PERSISTENT. -/
def Obligations.CommitsAndAudits : Prop :=
  (∀ (t : Tenant) (p : CanPort) (c : Nat) (b : OpenBarrier) (s : State),
    (s.nat (COMMIT_CONTROL.STATUS t) = 2 → s.allAcked t.val = true → s.frame < s.nat (CM_STAGE_END t) →
      ((s.nat (CM_VALUE t)).testBit 24 = false → Gives (.commitStageAck t) s fun x =>
        x.nat (COMMIT_CONTROL.STATUS t) = 3 ∧ x.nat (COMMIT_CONTROL.LAST_REASON t) = 0 ∧
        (⟨t.val, s.frame + 2, s.time, .commit (s.stagedValues t.val), false⟩ : Landing) ∈ x.landing) ∧
      ((s.nat (CM_VALUE t)).testBit 24 = true → Gives (.commitStageAck t) s fun x =>
        x.nat (COMMIT_CONTROL.STATUS t) = 4 ∧ x.nat (CM_STAMP t) = s.time ∧ x.landing = s.landing)) ∧
    (s.nat (COMMIT_CONTROL.STATUS t) = 2 → s.allAcked t.val = false → s.nat (CM_STAGE_END t) ≤ s.frame →
      Gives (.commitStageAckTimeout t) s fun x =>
        x.nat (COMMIT_CONTROL.STATUS t) = 6 ∧ x.nat (COMMIT_CONTROL.LAST_REASON t) = 9 ∧ x.staged = s.staged ∧
        Raises s x .COMMIT_REJECTED siteServer t [f8 9, f32 0]) ∧
    (s.nat (COMMIT_CONTROL.STATUS t) = 4 → s.syncPort t.val (s.nat (CM_VALUE t)) = p.val →
      (s.nat (SYNC_AT p) + 1000000 ≤ s.time → Gives (.syncTimeout p) s fun x =>
        x.nat (COMMIT_CONTROL.STATUS t) = 6 ∧ x.nat (COMMIT_CONTROL.LAST_REASON t) = 10 ∧
        Raises s x .SYNC_COMMIT_MISSED siteServer t
          [f8 t.val, f8 (field (s.nat (CM_VALUE t)) 16 8), f8 (max 0 (s.get (SYNC_C p)))]) ∧
      (s.canOnBus p = true → (∀ i < 32, s.flag (RPDO_HAS (32 * p.val + i)) = false) → Gives (.syncReceived p (some c)) s fun x =>
        x.nat (CAN_PORT.LAST_SYNC_COUNTER p) = c ∧
        x.nat (CAN_PORT.RX_FRAMES p) = (s.nat (CAN_PORT.RX_FRAMES p) + 1) % 2 ^ 32 ∧
        (((field (s.nat (CM_VALUE t)) 16 8 : Nat) - c : Int) % s.nat (SYNC_OVERFLOW.VALUE p) = 0 →
          x.nat (COMMIT_CONTROL.STATUS t) = 3 ∧
          (⟨t.val, s.frame + 2, s.nat (CM_STAMP t), .commit (s.stagedValues t.val), false⟩ : Landing) ∈ x.landing) ∧
        ((s.nat (SYNC_OVERFLOW.VALUE p) / 2 : Nat) <
            ((field (s.nat (CM_VALUE t)) 16 8 : Nat) - c : Int) % s.nat (SYNC_OVERFLOW.VALUE p) →
          x.nat (COMMIT_CONTROL.STATUS t) = 6 ∧ x.nat (COMMIT_CONTROL.LAST_REASON t) = 10))) ∧
    (let closing := s.barriers.filter fun x => x.tenant == t.val && x.closes ≤ s.frame && !s.earlierLeft x
     closing.getLast? = some b → (∀ x ∈ closing, x.commits = []) → s.heldWrites = [] → Gives (.barrierDone t) s fun x =>
       x.nat (BARRIER.BARRIER_DONE t) = b.id ∧ x.barriers = s.barriers.filter fun y => !closing.contains y) ∧
    ((s.barrierEnd t.val).isSome = true → s.committing t = false →
      let x := s.commitWrite t c
      x.nat (COMMIT_CONTROL.STATUS t) = 1 ∧ x.landing = s.landing ∧ x.barriers = commitBehind t.val c s.barriers)) ∧
  (∀ (d : Die) (upset : Nat) (upsets : List Nat) (s : State), s.portsReady = true →
    (s.flag SW_RUNS = false → s.tick % 100000 = 0 → s.nat LAST_BOUNDARY = s.time → Gives .auditSweepStart s fun t =>
      t.flag SW_RUNS = true ∧ t.nat SW_AT = s.time ∧ t.nat SW_DEVICE = s.digest digestedAll ∧
      t.nat (SW_EXPECT d) = s.digest (digestedOnDie d)) ∧
    (s.flag SW_RUNS = true → Gives (.auditSweepEnd upsets) s fun t =>
      t.flag SW_RUNS = false ∧ t.nat DEVICE_DIGEST.DIGEST = s.nat SW_DEVICE ∧
      t.nat DEVICE_DIGEST.SWEEPS = (s.nat DEVICE_DIGEST.SWEEPS + 1) % 2 ^ 32 ∧
      (∀ u : Tenant, t.nat (TENANT_DIGEST.DIGEST_TN u) = s.nat (SW_TENANT u)) ∧
      (s.bit SW_DIES d = true →
        let applied := (s.nat (SW_APPLIED d)).xor (upsets.getD d 0 % 2 ^ 64)
        t.nat (DIE_DIGEST.APPLIED_CD d) = applied ∧ t.nat (DIE_DIGEST.EXPECTED_CD d) = s.nat (SW_EXPECT d) ∧
        (applied ≠ s.nat (SW_EXPECT d) → t.nat (DRIFT_DUE d) = 1 ∧
          Raises s t .DRIFT (siteDie d 0xE0) 0
            [f8 (d.val + 1), f32 (applied % 2 ^ 32 : Nat), f32 (s.nat (SW_EXPECT d) % 2 ^ 32 : Nat)]))) ∧
    (s.nat (DRIFT_DUE d) = 2 → s.linkUp d = true → Gives (.dieRecheck d upset) s fun t =>
      let applied := (s.dieDigest d).xor (upset % 2 ^ 64)
      t.flag (DRIFT_DUE d) = false ∧ t.nat (DIE_DIGEST.APPLIED_CD d) = applied ∧
      t.nat (DIE_DIGEST.EXPECTED_CD d) = s.digest (digestedOnDie d) ∧
      (applied ≠ s.digest (digestedOnDie d) →
        Raises s t .DRIFT_PERSISTENT (siteDie d 0xE0) 0
          [f8 (d.val + 1), f32 (applied % 2 ^ 32 : Nat), f32 (s.digest (digestedOnDie d) % 2 ^ 32 : Nat)])))

/-! ### Converters (chapter 7) -/

/-- R187, R199, R200, R202: starting and stopping. The start checks refuse: ENABLE returns to 0, with the reason. Passed: the first cycle
is due 10 µs after the origin, and it begins there: soft start from the voltage measured, or RUN where that is at the target already,
with duty DUTY_MIN on each half-bridge lane. ENABLE 1 on a converter in OFF begins a start as it lands, its outputs low; ENABLE 0
stops it: a pulse in progress ends at its planned edge, and everything else is low at once. -/
def Obligations.ConvertersStart : Prop :=
  ∀ (m : Conv) (t : Nat) (samples off : List Int) (s : State),
    (s.nat (CONV_PHASE m) = 1 → s.nat (CONV_T0 m) + 6 ≤ s.time →
      let r := (s.storeOffsets m off).startCheck m
      (s.activeLanes m = [] → r = 1) ∧
      (r ≠ 0 → Gives (.converterStartCheck m samples off) s fun x =>
        x.nat (CONVERTER.ENABLE m) = 0 ∧ x.nat (inForce (CONVERTER.ENABLE m)) = 0 ∧ x.conv m = s.conv m ∧
        x.nat (CONVERTER_STATUS.START_REFUSE_REASON m) = r ∧ x.nat (CONV_PHASE m) = 0 ∧
        Raises s x .START_REFUSED (siteConverter m 0) (s.holderOfConverter m) [f8 m.val, f8 r]) ∧
      (r = 0 → Gives (.converterStartCheck m samples off) s fun x =>
        x.nat (CONV_PHASE m) = 2 ∧ x.get (CONV_V0 m) = s.outOf m samples ∧ x.get (CONV_T0 m) = s.get (CONV_T0 m) ∧
        x.conv m = s.conv m)) ∧
    (s.nat (CONV_PHASE m) = 2 → s.nat (CONV_T0 m) + 10 ≤ s.time →
      let x := s.startsBegin
      let v0 := s.get (CONV_V0 m)
      let p := s.nat (CONVERTER.SWITCH_PERIOD m)
      x.conv m = (if s.convTarget m ≤ v0 then CS.RUN else CS.SOFT_START) ∧
      x.get (CONVERTER_STATUS.VREF m) = min v0 (s.convTarget m) ∧ x.nat (CONV_PHASE m) = 0 ∧
      x.nat (CONV_T0 m) = s.nat (CONV_T0 m) + 10 ∧
      (s.conv m = CS.OFF → x.nat (CONVERTER_STATUS.HICCUPS_LEFT m) = s.nat (CONVERTER.HICCUP_RETRIES m)) ∧
      Raises s x .CONVERTER_STARTED (siteConverter m 0) (s.holderOfConverter m)
        [f8 m.val, f32 v0, f16 (laneMask (s.activeLanes m))] ∧
      ∀ l ∈ s.activeLanes m, x.get (LANE_STATUS.DUTY l) = s.get (CONVERTER.DUTY_MIN m) ∧
        ((∀ i < 16, s.nat (LANE.LANE_MODE i) = 0) → s.convFlag m CFLAG.TRUNCATING = false → ∀ k < 2, x.get (LANE_EDGE l k) =
          (bridgeEdges (onTime (s.nat (CONVERTER.DUTY_MIN m)) p) p (s.nat (LANE.DEAD_RISE l)) (s.nat (LANE.DEAD_FALL l))).getD k (-1))) ∧
    (s.conv m = CS.OFF → s.nat (CONV_PHASE m) = 0 →
      let x := s.landValue t (CONVERTER.ENABLE m) 1
      x.nat (inForce (CONVERTER.ENABLE m)) = 1 ∧ x.nat (CONV_PHASE m) = 1 ∧ x.nat (CONV_T0 m) = s.time ∧ x.conv m = CS.OFF ∧
      ∀ l ∈ s.lanesOf m, ∀ i < 4, x.get (LANE_EDGE l i) = -1) ∧
    (let x := s.landValue t (CONVERTER.ENABLE m) 0
     x.nat (inForce (CONVERTER.ENABLE m)) = 0 ∧ x.conv m = CS.OFF ∧ x.nat (CONV_PHASE m) = 0 ∧
     (s.conv m ≠ CS.OFF → ∀ l ∈ s.lanesOf m, x.get (LANE_EDGE l 2) = -1 ∧ x.get (LANE_EDGE l 3) = -1 ∧
       let now : Int := 6400 * ((s.time : Int) - s.get (LANE_FROM l))
       let pulse := s.get (LANE_EDGE l 0) ≤ now ∧ now < s.get (LANE_EDGE l 1)
       (pulse → s.conv m ≠ CS.LATCHED → ∀ i < 2, x.get (LANE_EDGE l i) = s.get (LANE_EDGE l i)) ∧
       (¬pulse ∨ s.conv m = CS.LATCHED → ∀ i < 2, x.get (LANE_EDGE l i) = -1)) ∧
     (s.conv m ≠ CS.OFF → s.conv m ≠ CS.LATCHED →
       Raises s x .CONVERTER_STOPPED (siteConverter m 0) (s.holderOfConverter m) [f8 m.val, f8 0]))

/-- R183, R187, R190, R191, R195, R205, R206: the end of a period of a lane gives its current, from its sense input saturated at
±250 mV. On an active half-bridge lane of a converter that switches, its duty then follows by the current loop, held within DUTY_MIN
and DUTY_MAX and used one period later, and the edges of the period that begins are those of the duty before. While truncation lasts
the pulse is skipped and the duty held; a lane that is no longer active parks. -/
def Obligations.LanePeriods : Prop :=
  ∀ (l : Lane) (vcs vs : Int) (s : State),
    let m := s.nat (LANE.CONVERTER l)
    let i := divNear ((clampInt (-250000000) 250000000 vcs - 1000 * s.get (LANE_STATUS.ADC_OFFSET l)) * 10000)
      (s.nat (LANE.CS_RESISTANCE l))
    let b := fun i => s.get (CONVERTER_LOOP.IB m i)
    let a := fun i => s.get (CONVERTER_LOOP.IA m i)
    let p := s.nat (CONVERTER.SWITCH_PERIOD m)
    let edges := fun u => s.withSr m (bridgeEdges (onTime u p) p (s.nat (LANE.DEAD_RISE l)) (s.nat (LANE.DEAD_FALL l)))
    Gives (.lanePeriodEnd l vcs vs) s fun t =>
      t.get (LANE_I l) = i ∧
      (m < 4 → s.convSwitches m = true → s.nat (LANE.LANE_MODE l) = 0 →
        ((s.activeLanes m).contains l.val = true → s.convFlag m CFLAG.TRUNCATING = false → s.flag (LANE_EXTRA l) = false →
          t.get (LANE_STATUS.DUTY l) =
            min (max (loopRound (b 0 * (s.get (LANE_STATUS.I_REF l) - i) + b 1 * s.get (LANE_E l 0) + b 2 * s.get (LANE_E l 1) -
              a 0 * s.get (LANE_U l 0) - a 1 * s.get (LANE_U l 1))) (s.get (CONVERTER.DUTY_MIN m))) (s.get (CONVERTER.DUTY_MAX m)) ∧
          t.get (LANE_NEXT l) = t.get (LANE_STATUS.DUTY l) ∧
          (s.nat (LANE_OFFSET l) = s.laneOffset l + 1 → ∀ k < 4, t.get (LANE_EDGE l k) = (edges (s.nat (LANE_NEXT l))).getD k (-1))) ∧
        ((s.activeLanes m).contains l.val = true → s.convFlag m CFLAG.TRUNCATING = true → s.truncReleased m vs = false →
          s.flag (LANE_EXTRA l) = false →
          t.get (LANE_STATUS.DUTY l) = s.get (LANE_STATUS.DUTY l) ∧
          (s.nat (LANE_OFFSET l) = s.laneOffset l + 1 → ∀ k < 4, t.get (LANE_EDGE l k) = (edges 0).getD k (-1))) ∧
        ((s.activeLanes m).contains l.val = false → ∀ k < 4, t.get (LANE_EDGE l k) = -1))

/-- R183, R192, R194, R206, R210: the end of a cycle of a converter. Its output samples, saturated at 1.2 V, give the last output value
and the flag that one lay above. A converter that does not switch stays in its state, and one that switches without an active lane
latches. Every VLOOP_DIV cycles the voltage loop gives IREF from the mean of all samples since its last update, held within the clamps
in use; between updates and in a truncation episode IREF is held. A cycle in current limit is counted, one that is not starts the
count anew, and HICCUP_CYCLES of them in a row end in HICCUP, or with no retries left in LATCHED with cause 1. -/
def Obligations.ConverterCycles : Prop :=
  ∀ (m : Conv) (samples : List Int) (s : State), samples ≠ [] →
    let v := s.outMean m (s.get (CONV_SUM m) + (samples.map (clampInt 0 1200000000)).sum) (s.nat (CONV_SCNT m) + samples.length)
    let b := fun i => s.get (CONVERTER_LOOP.VB m i)
    let a := fun i => s.get (CONVERTER_LOOP.VA m i)
    let due := s.nat (CONVERTER.VLOOP_DIV m) ≤ s.nat (CONV_CYCLES m) + 1
    Gives (.converterCycleEnd m samples) s fun t =>
      t.get (CONV_LAST m) = s.outMean m (clampInt 0 1200000000 (samples.getLastD 0)) 1 ∧
      t.convFlag m CFLAG.SENSE_OVERRANGE = (samples.any fun x => 1200000000 < x) ∧
      (s.convSwitches m = false → t.conv m = s.conv m) ∧
      (s.convSwitches m = true → s.activeLanes m = [] → t.conv m = CS.LATCHED ∧ t.nat (CONVERTER_STATUS.LATCH_CAUSE m) = 1) ∧
      (s.convSwitches m = true → s.activeLanes m ≠ [] →
        (¬due ∨ s.convFlag m CFLAG.TRUNCATING = true → t.get (CONVERTER_STATUS.IREF m) = s.get (CONVERTER_STATUS.IREF m)) ∧
        (due → s.convFlag m CFLAG.TRUNCATING = false → s.conv m = CS.RUN → s.convTarget m = s.get (CONVERTER_STATUS.VREF m) →
          t.get (CONVERTER_STATUS.IREF m) =
            min (max (loopRound (b 0 * (s.get (CONVERTER_STATUS.VREF m) - v) + b 1 * s.get (CONV_E m 0) + b 2 * s.get (CONV_E m 1) +
              b 3 * s.get (CONV_E m 2) - a 0 * s.get (CONV_Y m 0) - a 1 * s.get (CONV_Y m 1) - a 2 * s.get (CONV_Y m 2)))
              (s.irefMin m)) (s.irefMax m)) ∧
        (s.flag (CONV_CUT m) = false → s.flag (CONVERTER.HICCUP_ON_CLAMP m) = false → t.nat (CONV_LIMIT m) = 0) ∧
        (s.flag (CONV_CUT m) = true → s.nat (CONV_LIMIT m) + 1 < s.nat (CONVERTER.HICCUP_CYCLES m) →
          t.nat (CONV_LIMIT m) = s.nat (CONV_LIMIT m) + 1 ∧ t.convSwitches m = true) ∧
        (s.flag (CONV_CUT m) = true → s.nat (CONV_LIMIT m) + 1 = s.nat (CONVERTER.HICCUP_CYCLES m) →
          (s.nat (CONVERTER.HICCUP_RETRIES m) = 0 ∨ 0 < s.nat (CONVERTER_STATUS.HICCUPS_LEFT m) →
            t.conv m = CS.HICCUP ∧ t.nat (CONV_RESUME m) = s.time + s.nat (CONVERTER.HICCUP_TIME m) ∧
            t.nat (CONVERTER_STATUS.HICCUP_COUNT m) = satTo 0xFFFFFFFF (s.nat (CONVERTER_STATUS.HICCUP_COUNT m) + 1)) ∧
          (s.nat (CONVERTER.HICCUP_RETRIES m) ≠ 0 → s.nat (CONVERTER_STATUS.HICCUPS_LEFT m) = 0 →
            t.conv m = CS.LATCHED ∧ t.nat (CONVERTER_STATUS.LATCH_CAUSE m) = 1)))

/-- R198, R205 to R211, R214, R215: what happens to a converter beside its loops. An output above TRUNC_LEVEL, beyond the
comparator's accuracy of 0.3 % + 2 mV, ends the pulses in progress and begins an episode; one of TRUNC_LATCH_TIME latches it
with cause 2. A current above PEAK_LEVEL from the 80th step of a pulse on ends the pulse of a half bridge there, and counts.
HICCUP ends in a new start after HICCUP_TIME; HICCUP_RESET_TIME in RUN restores its retries. 500 boundaries outside the
tolerance raise SHARE_IMBALANCE. A fault record that is complete replaces the one before. The window of a converter. As many
last judged values, the means of its output samples in a round or a frame that has ended since judging began, as the filter
says set UNDER in RUN, or OVER, counted and raised; at or beyond the hysteresis they clear it. GOOD follows. -/
def Obligations.ConverterProtection : Prop :=
  (∀ (m : Conv) (l : Lane) (step : Nat) (vs vcs : Int) (steps : List Nat) (samples off : List Int) (s : State),
    (s.convSwitches m = true → s.convFlag m CFLAG.TRUNCATING = false →
      let level := s.get (CONVERTER.TRUNC_LEVEL m) * 10000000000
      let error := level * 3 / 1000 + 2000000 * s.nat (CONVERTER.VS_GAIN m)
      (level + error < vs * s.nat (CONVERTER.VS_GAIN m) → Gives (.truncationCrossing m vs steps) s fun t =>
        t.convFlag m CFLAG.TRUNCATING = true ∧ t.nat (TRUNC_AT m) = s.time ∧
        t.nat (CONVERTER_STATUS.TRUNC_EPISODES m) = satTo 0xFFFFFFFF (s.nat (CONVERTER_STATUS.TRUNC_EPISODES m) + 1) ∧
        ∀ l ∈ s.lanesOf m, ∀ k < 4, t.get (LANE_EDGE l k) =
          (s.withSr m (cutEdges (s.edgesOf l) (steps.getD l 0) (s.nat (LANE.DEAD_FALL l)) (s.nat (CONVERTER.SWITCH_PERIOD m)))).getD
            k (-1)) ∧
      (vs * s.nat (CONVERTER.VS_GAIN m) < level - error → exec (.truncationCrossing m vs steps) s = .next s)) ∧
    (s.convSwitches m = true → s.convFlag m CFLAG.TRUNCATING = true → s.nat (CONVERTER.TRUNC_LATCH_TIME m) ≠ 0 →
      s.nat (TRUNC_AT m) + s.nat (CONVERTER.TRUNC_LATCH_TIME m) ≤ s.time → Gives (.truncationLatch m) s fun t =>
        t.conv m = CS.LATCHED ∧ t.nat (CONVERTER_STATUS.LATCH_CAUSE m) = 2 ∧ t.convFlag m CFLAG.TRUNCATING = false ∧
        Raises s t .CONVERTER_LATCHED (siteConverter m 0) (s.holderOfConverter m) [f8 m.val, f8 2]) ∧
    (s.nat (LANE.CONVERTER l) = m.val → s.convSwitches m = true → (s.activeLanes m).contains l.val = true →
      s.convFlag m CFLAG.TRUNCATING = false → 80 ≤ step → s.pulseOn l step = true →
      s.nat (LANE.PEAK_LEVEL l) * 500000 < vcs.natAbs → Gives (.peakCut l step vcs) s fun t =>
        t.nat (LANE_STATUS.PEAK_CUTS l) = satTo 0xFFFFFFFF (s.nat (LANE_STATUS.PEAK_CUTS l) + 1) ∧ t.flag (CONV_CUT m) = true ∧
        (s.nat (LANE.LANE_MODE l) = 0 → t.get (LANE_EDGE l 1) = s.get (LANE_EDGE l 0) + step)) ∧
    (step < 80 ∨ vcs.natAbs ≤ s.nat (LANE.PEAK_LEVEL l) * 500000 → exec (.peakCut l step vcs) s = .next s) ∧
    (s.conv m = CS.HICCUP → s.nat (CONV_PHASE m) = 0 → s.nat (CONV_RESUME m) ≤ s.time →
      Gives (.hiccupResume m samples off) s fun t =>
        t.conv m = CS.HICCUP ∧ t.nat (CONV_PHASE m) = 2 ∧ t.get (CONV_V0 m) = s.outOf m samples ∧ t.nat (CONV_T0 m) = s.time) ∧
    (s.conv m = CS.RUN → s.nat (CONV_RUN_AT m) + s.nat (CONVERTER.HICCUP_RESET_TIME m) ≤ s.time → Gives (.hiccupResetTime m) s fun t =>
      t.nat (CONVERTER_STATUS.HICCUPS_LEFT m) = s.nat (CONVERTER.HICCUP_RETRIES m)) ∧
    (s.nat (LANE.CONVERTER l) = m.val → 500 ≤ s.nat (SHARE_OUT l) → s.flag (SHARE_SET l) = false →
      Gives (.shareImbalance l) s fun t =>
        t.flag (SHARE_SET l) = true ∧ t.convFlag m CFLAG.SHARE_IMBALANCE = true ∧
        Raises s t .SHARE_IMBALANCE (siteBlock (0x10 + l.val) 0x01 0) (s.holderOfConverter m)
          [f8 l.val, f32 (s.get (LANE_STATUS.I_MEAN l)), f32 (s.get (LANE_STATUS.I_REF l))]) ∧
    (s.flag (CONV_WRITING m) = true → Gives (.faultRecordWritten m) s fun t =>
      t.blob (FAULT_RECORD.RECORD m) = s.blob (CONV_FROZEN m) ∧ t.nat (FAULT_RECORD.RECORD_CAUSE m) = s.nat (CONV_WRITING m) ∧
      t.flag (CONV_WRITING m) = false ∧ t.nat (CONV_LIFE m) = satTo 0xFFFFFFFF (s.nat (CONV_LIFE m) + 1) ∧
      Raises s t .FAULT_RECORD_WRITTEN (siteConverter m 0x07) (s.holderOfConverter m)
        [f8 m.val, f8 (s.nat (CONV_WRITING m)), f32 (satTo 0xFFFFFFFF (s.nat (CONV_LIFE m) + 1))])) ∧
  (∀ (m : Conv) (units : List (List Int)) (s : State),
    let low := s.judged m 0 units
    let high := s.judged m 1 units
    (s.nat (CONVERTER_WINDOW.WINDOW_MODE m) = 1 →
      (s.conv m = CS.RUN → s.bit (CWIN m) WFLAG.UNDER = false →
        lastAll (s.nat (CONVERTER_WINDOW.UV_SET_FILTER m)) low (fun v => v < s.get (CONVERTER_WINDOW.UV_LEVEL m)) = true →
        Gives (.converterUndervoltage m units) s fun t =>
          t.bit (CWIN m) WFLAG.UNDER = true ∧ t.bit (CWIN m) WFLAG.GOOD = false ∧
          t.nat (CONVERTER_WINDOW.UV_COUNT m) = satTo 0xFFFF (s.nat (CONVERTER_WINDOW.UV_COUNT m) + 1) ∧
          Raises s t .CONVERTER_UNDERVOLTAGE (siteConverter m 0) (s.holderOfConverter m)
            [f8 m.val, f32 (low.getLastD 0), f32 (s.get (CONVERTER_WINDOW.UV_LEVEL m))]) ∧
      (s.bit (CWIN m) WFLAG.OVER = false →
        lastAll (s.nat (CONVERTER_WINDOW.OV_SET_FILTER m)) high (fun v => s.get (CONVERTER_WINDOW.OV_LEVEL m) < v) = true →
        Gives (.converterOvervoltage m units) s fun t =>
          t.bit (CWIN m) WFLAG.OVER = true ∧ t.bit (CWIN m) WFLAG.GOOD = false ∧
          t.nat (CONVERTER_WINDOW.OV_COUNT m) = satTo 0xFFFF (s.nat (CONVERTER_WINDOW.OV_COUNT m) + 1) ∧
          Raises s t .CONVERTER_OVERVOLTAGE (siteConverter m 0) (s.holderOfConverter m)
            [f8 m.val, f32 (high.getLastD 0), f32 (s.get (CONVERTER_WINDOW.OV_LEVEL m))]) ∧
      (s.conv m = CS.RUN → lastAll (s.nat (CONVERTER_WINDOW.UV_CLEAR_FILTER m)) low
          (fun v => s.get (CONVERTER_WINDOW.UV_LEVEL m) + s.get (CONVERTER_WINDOW.UV_HYST m) ≤ v) = true →
        Gives (.converterUnderCleared m units) s fun t =>
          t.bit (CWIN m) WFLAG.UNDER = false ∧ t.bit (CWIN m) WFLAG.NEAR_LOW = false ∧
          t.bit (CWIN m) WFLAG.GOOD = (s.bit (CWIN m) WFLAG.LOWER_JUDGING && !s.bit (CWIN m) WFLAG.OVER)) ∧
      (lastAll (s.nat (CONVERTER_WINDOW.OV_CLEAR_FILTER m)) high
          (fun v => v ≤ s.get (CONVERTER_WINDOW.OV_LEVEL m) - s.get (CONVERTER_WINDOW.OV_HYST m)) = true →
        Gives (.converterOverCleared m units) s fun t =>
          t.bit (CWIN m) WFLAG.OVER = false ∧ t.bit (CWIN m) WFLAG.NEAR_HIGH = false ∧
          t.bit (CWIN m) WFLAG.GOOD = (s.bit (CWIN m) WFLAG.LOWER_JUDGING && !s.bit (CWIN m) WFLAG.UNDER))) ∧
    (s.nat (CONVERTER_WINDOW.WINDOW_MODE m) ≠ 1 →
      exec (.converterUndervoltage m units) s = .next s ∧ exec (.converterOvervoltage m units) s = .next s ∧
      exec (.converterUnderCleared m units) s = .next s ∧ exec (.converterOverCleared m units) s = .next s))

/-! ### The battery path (chapter 8) -/

/-- R222 to R226: the battery switch. A write of MODE acts as it lands: OPEN and IDEAL_DIODE at once, CLOSED by waiting until the switch
voltage is within 0.5 V; after 1 s of waiting that is raised. A short after the blanking of a gate turn-on trips it OPEN with cause 2
and the trip mark, an undervoltage of UV_CUTOFF_TIME since it left OPEN cuts it off with cause 3, and a charge current beyond the limit in CLOSED writes MODE 1. Its driver loses the mode
with its supply and comes back in IDEAL_DIODE. -/
def Obligations.BatterySwitch : Prop :=
  ∀ (u : Nat) (diff bswb excess : Int) (samples : List Int) (us : Nat) (s : State),
    (s.flag SW_UNPOWERED = false →
      (s.landValue u BATTERY_SWITCH.MODE 0).swMode = 0 ∧ (s.landValue u BATTERY_SWITCH.MODE 1).swMode = 1 ∧
      (s.landValue u BATTERY_SWITCH.MODE 2).swMode = (if s.swMode = 2 then 2 else 3) ∧
      (s.landValue u BATTERY_SWITCH.MODE 1).flag SW_MARK = false) ∧
    (s.swMode = 3 → -5000 ≤ diff → diff ≤ 5000 → Gives (.switchCloseDone diff) s fun t =>
      t.swMode = 2 ∧ DieRaises s t 0 .SWITCH_MODE_CHANGED siteSwitch (s.holderOfConverter 1) [f8 3, f8 2, f8 0]) ∧
    (diff < -5000 ∨ 5000 < diff → exec (.switchCloseDone diff) s = .next s) ∧
    (s.swMode = 3 → s.flag SW_TOLD = false → s.nat SW_WAIT_AT + 1000000 ≤ s.time → Gives (.closeDeferred diff) s fun t =>
      t.swMode = 3 ∧ t.flag SW_TOLD = true ∧
      DieRaises s t 0 .CLOSE_DEFERRED siteSwitch (s.holderOfConverter 1) [f32 diff]) ∧
    (s.swMode = 1 ∨ s.swMode = 3 →
      (50 < excess → Gives (.idealDiodeReverse excess) s fun t => t.flag BATTERY_SWITCH.FORWARD = false) ∧
      (excess < -50 → exec (.idealDiodeReverse excess) s = .next s)) ∧
    (s.swMode ≠ 0 → s.get BATTERY_SWITCH.SHORT_LEVEL < diff ∨ diff < -s.get BATTERY_SWITCH.SHORT_LEVEL → 1 ≤ us →
      s.nat SW_ON_AT + s.nat BATTERY_SWITCH.SHORT_BLANK + us ≤ s.time → Gives (.switchShortTrip diff us) s fun t =>
        t.swMode = 0 ∧ t.nat BATTERY_SWITCH.OPEN_CAUSE = 2 ∧ t.flag SW_MARK = true ∧
        t.nat BATTERY_SWITCH.SWITCH_TRIPS = satTo 0xFFFF (s.nat BATTERY_SWITCH.SWITCH_TRIPS + 1) ∧
        DieRaises s t 0 .SWITCH_SHORT_TRIP siteSwitch (s.holderOfConverter 1) [f32 diff, f8 s.swMode]) ∧
    (s.swMode ≠ 0 → s.get BATTERY_SWITCH.UV_CUTOFF ≠ 0 → bswb < s.get BATTERY_SWITCH.UV_CUTOFF →
      s.nat BATTERY_SWITCH.UV_CUTOFF_TIME ≤ us → us ≤ s.time - s.nat SW_CONN_AT → Gives (.switchUvCutoff bswb us) s fun t =>
        t.swMode = 0 ∧ t.nat BATTERY_SWITCH.OPEN_CAUSE = 3 ∧
        DieRaises s t 0 .SWITCH_UV_CUTOFF siteSwitch (s.holderOfConverter 1)
          [f32 (s.get BATTERY_SWITCH.V_BATTERY), f32 (s.get BATTERY_SWITCH.UV_CUTOFF)]) ∧
    (s.swMode = 2 → s.get BATTERY_SWITCH.CLOSED_CHARGE_LIMIT ≠ 0 → s.nat ESTIMATOR.BATT_SHUNT_RESISTANCE ≠ 0 →
      samples.length = 4 → (∀ i ∈ samples, s.get BATTERY_SWITCH.CLOSED_CHARGE_LIMIT < i) → Gives (.closedChargeDrop samples) s fun t =>
        t.nat BATTERY_SWITCH.MODE = 1 ∧
        t.landing = s.landing ++ [⟨s.holderOfConverter 1, s.frame + 1, s.time, .value BATTERY_SWITCH.MODE 1, false⟩] ∧
        DieRaises s t 0 .CLOSED_CHARGE_DROP siteSwitch (s.holderOfConverter 1)
          [f32 (samples.getLastD 0), f32 (s.get BATTERY_SWITCH.CLOSED_CHARGE_LIMIT)]) ∧
    (s.flag SW_UNPOWERED = false → Gives .switchDriverPowerLoss s fun t =>
      t.swMode = 0 ∧ t.flag SW_UNPOWERED = true ∧ t.flag SW_MARK = false) ∧
    (s.flag SW_UNPOWERED = true → Gives .switchDriverPowerUp s fun t =>
      t.swMode = 1 ∧ t.flag SW_UNPOWERED = false ∧ t.flag SW_MARK = false)

/-- R227 to R234: the charger. CHARGE_ENABLE acts as it lands: 0 ends charging with its current at 0 and gives CV1 back at the next
boundary, 1 begins QUALIFY with a rest where the settings pass, and outside FAULT faults where they do not. A pulse ends in a rest; a rest that is valid gives V_REST, which decides the next phase and pulse.
A diode that conducts for more than 1 ms cuts a pulse. QUALIFY and the charge clock have their timeouts. -/
def Obligations.Charger : Prop :=
  ∀ (u : Nat) (v imax imean : Int) (us : Nat) (s : State),
    (let t := s.landValue u CHARGER.CHARGE_ENABLE 0
     t.chPhase = 0 ∧ t.nat CHARGER_STATUS.STAGE = 0 ∧ (s.flag (OVR_ON 1) = true → t.get (OVR_MAX 1) = 0) ∧
     t.overridesEnd.flag (OVR_ON 1) = false) ∧
    (s.chPhase ≠ 7 →
      let t := s.landValue u CHARGER.CHARGE_ENABLE 1
      (s.chSettings = true → t.chPhase = 1 ∧ t.nat CHARGER_STATUS.STAGE = 2) ∧
      (s.chSettings = false → t.chPhase = 7 ∧ t.nat CHARGER_STATUS.FAULT_CAUSE = 3)) ∧
    (s.nat CHARGER_STATUS.STAGE = 1 → s.nat CH_STAGE_AT + 1000 * s.nat CHARGER_STATUS.ON_TIME ≤ s.time →
      Gives .chargePulseEnd s fun t =>
        t.nat CHARGER_STATUS.STAGE = 2 ∧ t.nat CH_STAGE_AT = s.time ∧ t.get (OVR_MAX 1) = 0 ∧
        t.get (OVR_REF 1) = s.get CHARGER.CHARGE_VOLTAGE_MAX) ∧
    (s.nat CHARGER_STATUS.STAGE = 2 → s.nat CH_STAGE_AT + 1000 * s.nat CHARGER.REST_TIME ≤ s.time →
      s.nat ESTIMATOR.BATT_SHUNT_RESISTANCE ≠ 0 → -s.get CHARGER.REST_CURRENT_MAX ≤ imax → imax ≤ s.get CHARGER.REST_CURRENT_MAX →
      Gives (.chargeRestEnd v imax imean) s fun t =>
        t.get CHARGER_STATUS.V_REST = v ∧
        (1 ≤ s.chPhase → s.chPhase ≤ 5 → s.chPhase ≠ 4 → s.chPhase ≠ 2 → s.get CHARGER.TARGET_VOLTAGE ≤ v →
          t.chPhase = 4 ∧ t.nat CHARGER_STATUS.STAGE = 0 ∧ t.get (OVR_MAX 1) = 0) ∧
        (s.chPhase = 1 → v < s.get CHARGER.TARGET_VOLTAGE → s.get CHARGER.TAPER_START ≤ v → t.chPhase = 3) ∧
        (s.chPhase = 2 → s.get CHARGER.TAPER_START ≤ v → t.chPhase = 3) ∧
        (s.chPhase = 1 → v < s.get CHARGER.TARGET_VOLTAGE → v < s.get CHARGER.TAPER_START → s.get CHARGER.QUALIFY_VOLTAGE ≤ v →
          t.chPhase = 2 ∧ t.nat CHARGER_STATUS.ON_TIME = s.nat CHARGER.BULK_ON_TIME ∧
          t.get (OVR_MAX 1) = s.get CHARGER.BULK_CURRENT) ∧
        (s.chPhase = 1 → v < s.get CHARGER.TARGET_VOLTAGE → v < s.get CHARGER.TAPER_START → v < s.get CHARGER.QUALIFY_VOLTAGE →
          t.chPhase = 1 ∧ t.get (OVR_MAX 1) = s.get CHARGER.PRECHARGE_CURRENT) ∧
        (s.chPhase = 2 → v < s.get CHARGER.TAPER_START → t.chPhase = 2 ∧ t.get (OVR_MAX 1) = s.get CHARGER.BULK_CURRENT) ∧
        (s.chPhase = 3 → v < s.get CHARGER.TARGET_VOLTAGE → s.get CHARGER.TAPER_START < s.get CHARGER.TARGET_VOLTAGE →
          t.chPhase = 3 ∧ t.nat CHARGER_STATUS.STAGE = 1 ∧
          let den := s.get CHARGER.TARGET_VOLTAGE - s.get CHARGER.TAPER_START
          t.get CHARGER_STATUS.ON_TIME = min (s.nat CHARGER.BULK_ON_TIME : Int)
            (max 1000 ((2 * s.nat CH_T_PREV * (s.get CHARGER.TARGET_VOLTAGE - v) + den) / (2 * den))))) ∧
    (s.nat CHARGER_STATUS.STAGE = 2 → s.nat CH_STAGE_AT + 1000 * s.nat CHARGER.REST_TIME ≤ s.time →
      imax < -s.get CHARGER.REST_CURRENT_MAX ∨ s.get CHARGER.REST_CURRENT_MAX < imax → Gives (.chargeRestEnd v imax imean) s fun t =>
        t.get CHARGER_STATUS.V_REST = s.get CHARGER_STATUS.V_REST ∧
        t.nat CHARGER_STATUS.REST_INVALID = satTo 0xFFFF (s.nat CHARGER_STATUS.REST_INVALID + 1) ∧
        Raises s t .REST_INVALID (siteConverter 1 0) (s.holderOfConverter 1) [f32 imax.natAbs]) ∧
    (s.nat CHARGER_STATUS.STAGE = 1 → 1000 < us → us ≤ s.time - s.nat CH_STAGE_AT → Gives (.pulseCutDiode us) s fun t =>
      t.nat CHARGER_STATUS.STAGE = 2 ∧
      Raises s t .PULSE_CUT_DIODE (siteConverter 1 0) (s.holderOfConverter 1)
        [f32 ((s.time - s.nat CH_STAGE_AT) / 1000 : Nat), f32 (s.get BATTERY_SWITCH.V_NETWORK)]) ∧
    (s.chPhase = 4 → s.nat CH_HOLD_AT + 60000000 ≤ s.time → s.nat ESTIMATOR.BATT_SHUNT_RESISTANCE ≠ 0 →
      -s.get CHARGER.REST_CURRENT_MAX ≤ imax → imax ≤ s.get CHARGER.REST_CURRENT_MAX → Gives (.holdRestSample v imax imean) s fun t =>
        t.get CHARGER_STATUS.V_REST = v ∧ t.nat CH_HOLD_AT = s.time ∧
        (v < s.get CHARGER.MAINTAIN_LEVEL → t.chPhase = 5 ∧ t.nat CHARGER_STATUS.STAGE = 1 ∧
          t.nat CHARGER_STATUS.ON_TIME = s.nat CHARGER.MAINTAIN_ON_TIME ∧ t.get (OVR_MAX 1) = s.get CHARGER.BULK_CURRENT) ∧
        (s.get CHARGER.MAINTAIN_LEVEL ≤ v → t.chPhase = 4)) ∧
    (s.chPhase = 1 → s.nat CH_QUALIFY_AT + 1000000 * s.nat CHARGER.QUALIFY_TIMEOUT ≤ s.time → Gives .qualifyTimeout s fun t =>
      t.chPhase = 7 ∧ t.nat CHARGER_STATUS.FAULT_CAUSE = 1 ∧ t.nat CHARGER_STATUS.STAGE = 0 ∧
      Raises s t .CHARGE_FAULT (siteConverter 1 0) (s.holderOfConverter 1) [f8 1, f8 1]) ∧
    (s.chPhase = 2 ∨ s.chPhase = 3 → 1000000 * s.nat CHARGER.CHARGE_TIMEOUT < s.chClock → Gives .chargeTimeout s fun t =>
      t.chPhase = 7 ∧ t.nat CHARGER_STATUS.FAULT_CAUSE = 2 ∧
      Raises s t .CHARGE_FAULT (siteConverter 1 0) (s.holderOfConverter 1) [f8 2, f8 s.chPhase])

/-- R236 to R238: the button. A press that is recognised sets its latch; 10 s turn every converter off, release PON and open the switch,
which returns to IDEAL_DIODE 2 s later. A short press while ship mode is armed enters it, and a wake leaves it. SHIP_ARM arms and
cancels as it lands, and SHIP_WINDOW ends the arming. -/
def Obligations.ButtonAndShip : Prop :=
  ∀ (u : Nat) (s : State),
    (s.nat BTN_FELL = 0 → Gives .btnPress s fun t =>
      t.nat SHIP_CONTROL.BTN_STATE = 1 ∧ t.bit WAKE_CONFIG.WAKE_LATCHED 9 = true ∧ t.nat BTN_FELL = s.time - 20000 + 1) ∧
    (s.nat BTN_FELL ≠ 0 → Gives .btnRelease s fun t =>
      t.nat SHIP_CONTROL.BTN_STATE = 0 ∧ t.nat BTN_FELL = 0 ∧
      (s.nat SHIP_CONTROL.SHIP_STATE ≠ 1 → t.flag SHIP_IN = s.flag SHIP_IN) ∧
      (s.live = true → s.nat SHIP_CONTROL.SHIP_STATE = 1 → s.flag BTN_LONG = false →
        50000 ≤ s.time - (s.nat BTN_FELL - 1) → s.time - (s.nat BTN_FELL - 1) < 2000000 →
          t.flag SHIP_IN = true ∧ t.nat SHIP_CONTROL.SHIP_STATE = 0 ∧ t.swMode = 0 ∧ t.flag PON_CONTROL.PON_STATE = false ∧
          t.nat SHIP_CONTROL.SHIP_ENTRIES = satTo 0xFFFF (s.nat SHIP_CONTROL.SHIP_ENTRIES + 1) ∧ ∀ m < 4, t.conv m = CS.OFF)) ∧
    (s.nat BTN_FELL ≠ 0 → s.flag BTN_LONG = false → s.nat BTN_FELL - 1 + 10000000 ≤ s.time → Gives .longPress s fun t =>
      t.flag BTN_LONG = true ∧ t.swMode = 0 ∧ t.flag PON_CONTROL.PON_STATE = false ∧
      t.nat SHIP_CONTROL.LONG_PRESSES = satTo 0xFFFF (s.nat SHIP_CONTROL.LONG_PRESSES + 1) ∧
      t.nat KEEPER.FAILED_OPENINGS = 0 ∧ ∀ m < 4, t.conv m = CS.OFF) ∧
    (s.nat LONG_AT ≠ 0 → s.nat LONG_AT - 1 + 2000000 ≤ s.time → Gives .longPressSwitchRestore s fun t =>
      t.nat LONG_AT = 0 ∧ t.flag SW_MARK = false ∧ (s.flag SW_UNPOWERED = false → t.swMode = 1)) ∧
    (s.nat SHIP_CONTROL.SHIP_STATE = 1 → s.nat SHIP_AT + s.nat SHIP_CONTROL.SHIP_WINDOW ≤ s.time → Gives .shipWindowEnd s fun t =>
      t.nat SHIP_CONTROL.SHIP_STATE = 0) ∧
    (s.flag SHIP_IN = true → s.nat WAKE_PENDING ≠ 0 → Gives .shipExit s fun t =>
      t.flag SHIP_IN = false ∧ t.nat POWER_STATE.LAST_WAKE_CAUSE = s.nat WAKE_PENDING ∧
      t.nat SHIP_CONTROL.LAST_SHIP_DURATION = satTo 0xFFFFFFFF (s.rtcSeconds - s.nat RET_ENTERED) ∧
      (s.flag SW_UNPOWERED = false → t.swMode = 1)) ∧
    (let t := s.landAction u SHIP_CONTROL.SHIP_ARM 0xA5
     t.nat SHIP_CONTROL.SHIP_STATE = 1 ∧ t.nat SHIP_AT = s.time) ∧
    (s.landAction u SHIP_CONTROL.SHIP_ARM 0x5A).nat SHIP_CONTROL.SHIP_STATE = 0

/-- R204, R239 to R241: the assist port. ASSIST_START begins the check as it lands where CV2 runs; the mean of ASV refuses the session or
begins PRECHARGE below 5.0 V and MATCH from there on; PRECHARGE ends in SUPPLYING after 1 s at 5.0 V, MATCH within 0.5 V. An
ordinary end takes the clamps to 0 and opens the switch 10 ms later, and CV2 has its own reference back at the boundary after that; MATCH that takes 100 ms ends it at once. -/
def Obligations.AssistPort : Prop :=
  ∀ (u : Nat) (asv diff : Int) (us : Nat) (s : State),
    (s.flag ASSIST_STATUS.ASSIST_STATE = false →
      let t := s.landAction u ASSIST_PORT.ASSIST_START 0xA5
      (s.conv 2 = CS.RUN → t.nat ASSIST_STATUS.ASSIST_STATE = 1 ∧ t.nat AS_AT = s.time ∧
        t.nat ASSIST_STATUS.SESSIONS = satTo 0xFFFF (s.nat ASSIST_STATUS.SESSIONS + 1)) ∧
      (s.conv 2 ≠ CS.RUN → t.nat ASSIST_STATUS.ASSIST_RESULT = 7 ∧ t.flag ASSIST_STATUS.ASSIST_STATE = false)) ∧
    (s.nat ASSIST_STATUS.ASSIST_STATE = 1 → s.nat AS_AT + 10000 ≤ s.time →
      s.get ASSIST_PORT.ASSIST_VOLTAGE ≤ s.get ASSIST_PORT.ASSIST_MAX_VOLTAGE → Gives (.assistCheck asv) s fun t =>
        (asv < -5000 → t.nat ASSIST_STATUS.ASSIST_STATE = 0 ∧ t.nat ASSIST_STATUS.ASSIST_RESULT = 3) ∧
        (-5000 ≤ asv → s.get ASSIST_PORT.ASSIST_MAX_VOLTAGE < asv →
          t.nat ASSIST_STATUS.ASSIST_STATE = 0 ∧ t.nat ASSIST_STATUS.ASSIST_RESULT = 4) ∧
        (-5000 ≤ asv → asv ≤ s.get ASSIST_PORT.ASSIST_MAX_VOLTAGE → asv < 50000 →
          t.nat ASSIST_STATUS.ASSIST_STATE = 2 ∧ t.flag AS_CLOSED = true ∧ t.get (OVR_MAX 2) = s.get ASSIST_PORT.PRECHARGE_CURRENT ∧
          Raises s t .ASSIST_STARTED (siteConverter 2 0) (s.holderOfConverter 2) [f32 asv, f8 2]) ∧
        (50000 ≤ asv → asv ≤ s.get ASSIST_PORT.ASSIST_MAX_VOLTAGE →
          t.nat ASSIST_STATUS.ASSIST_STATE = 3 ∧ t.get (OVR_REF 2) = asv ∧ t.get (OVR_MAX 2) = 0)) ∧
    (s.nat ASSIST_STATUS.ASSIST_STATE = 2 → s.nat AS_END = 0 → 50000 ≤ asv → 1000000 ≤ us → us ≤ s.time - s.nat AS_STATE_AT →
      Gives (.assistPrechargeDone asv us) s fun t =>
        t.nat ASSIST_STATUS.ASSIST_STATE = 4 ∧ t.get (OVR_REF 2) = s.get ASSIST_PORT.ASSIST_VOLTAGE ∧
        t.get (OVR_MAX 2) = s.get ASSIST_PORT.ASSIST_CURRENT_LIMIT) ∧
    (s.nat ASSIST_STATUS.ASSIST_STATE = 2 → s.nat AS_END = 0 → s.nat AS_STATE_AT + 1000000 * s.nat ASSIST_PORT.PRECHARGE_TIME ≤ s.time →
      Gives .assistPrechargeTimeout s fun t => t.nat AS_END = 5 ∧ t.nat AS_END_AT = s.time ∧ t.get (OVR_MAX 2) = 0) ∧
    (s.nat ASSIST_STATUS.ASSIST_STATE = 3 → -5000 ≤ diff → diff ≤ 5000 → Gives (.assistMatch diff) s fun t =>
      t.nat ASSIST_STATUS.ASSIST_STATE = 4 ∧ t.flag AS_CLOSED = true) ∧
    (s.nat ASSIST_STATUS.ASSIST_STATE = 3 → s.nat AS_STATE_AT + 100000 ≤ s.time → Gives .assistMatchTimeout s fun t =>
      t.nat ASSIST_STATUS.ASSIST_STATE = 0 ∧ t.nat ASSIST_STATUS.ASSIST_RESULT = 8 ∧ t.flag AS_CLOSED = false) ∧
    (s.nat ASSIST_STATUS.ASSIST_STATE = 4 → s.nat AS_END = 0 →
      (s.nat AS_AT + 1000000 * s.nat ASSIST_PORT.SESSION_TIMEOUT ≤ s.time → Gives .assistSessionTimeout s fun t =>
        t.nat AS_END = 2 ∧ t.nat AS_END_AT = s.time ∧ t.get (OVR_MAX 2) = 0) ∧
      (s.get ASSIST_PORT.ASSIST_MAX_VOLTAGE < asv → 10000 ≤ us → Gives (.assistForeignOvervoltage asv us) s fun t =>
        t.nat AS_END = 6 ∧ t.nat AS_END_AT = s.time ∧ t.get (OVR_MAX 2) = 0) ∧
      (s.landAction u ASSIST_PORT.ASSIST_STOP 0xA5).nat AS_END = 1) ∧
    (s.flag ASSIST_STATUS.ASSIST_STATE = true → s.nat AS_END ≠ 0 → s.nat AS_END_AT + 10000 ≤ s.time →
      Gives .assistSwitchOpen s fun t =>
        t.nat ASSIST_STATUS.ASSIST_STATE = 0 ∧ t.flag AS_CLOSED = false ∧ t.nat ASSIST_STATUS.ASSIST_RESULT = s.nat AS_END ∧
        t.overridesEnd.flag (OVR_ON 2) = false)

/-! ### The backup domain (chapters 9 and 19) -/

/-- R301, R440 to R447: what the backup domain does. An alarm that the clock has reached fires, latches its wake, and is armed again
where it repeats. A stopped oscillator holds the time where it is, marked as untrusted. VBK below 2.0 V for 1 ms is raised, or on
VBK marks the time as lost; 2.1 V clears it. A wake input is filtered, and latches in its sense. Settings act as they land. -/
def Obligations.BackupDomain : Prop :=
  ∀ (u : Nat) (vbk vh : Int) (us : Nat) (high : Bool) (j : Fin 8) (s : State),
    (s.alarmAt ≠ 0 → s.nat ALARM.ALARM_STATE = 1 → s.alarmAt ≤ s.rtcSeconds → Gives .alarmFired s fun t =>
      t.nat ALARM.ALARMS_FIRED = satTo 0xFFFF (s.nat ALARM.ALARMS_FIRED + 1) ∧ t.bit WAKE_CONFIG.WAKE_LATCHED 10 = true ∧
      (s.alarmRepeat = 0 → t.nat ALARM.ALARM_STATE = 2) ∧
      (s.alarmRepeat ≠ 0 → t.nat ALARM.ALARM_STATE = 1 ∧ t.alarmAt = nextAlarm s.alarmAt s.alarmRepeat s.rtcSeconds)) ∧
    (s.rtcSeconds < s.alarmAt → exec .alarmFired s = .next s) ∧
    (s.flag OSC_OFF = false → Gives .rtcOscStopped s fun t =>
      t.flag OSC_OFF = true ∧ t.rtcCount = s.rtcCount ∧ t.rtcFlag TFLAG.OSC_STOPPED = true ∧ t.rtcFlag TFLAG.UNTRUSTED = true ∧
      Raises s t .RTC_OSC_STOPPED siteRtc 0 [f32 s.rtcSeconds]) ∧
    (s.flag OSC_OFF = true → Gives .rtcOscRestart s fun t =>
      t.flag OSC_OFF = false ∧ t.rtcFlag TFLAG.OSC_STOPPED = s.rtcFlag TFLAG.OSC_STOPPED ∧ t.nat RTC_FROM = s.time) ∧
    (vbk < 20000 → 1000 ≤ us →
      (s.flag ON_VBK = false → s.rtcFlag TFLAG.VBK_LOW = false → Gives (.backupCellLow vbk us) s fun t =>
        t.rtcFlag TFLAG.VBK_LOW = true ∧ Raises s t .BACKUP_CELL_LOW siteVbk 0 [f32 vbk]) ∧
      (s.flag ON_VBK = true → Gives (.backupCellLow vbk us) s fun t =>
        t.rtcFlag TFLAG.LOW_BACKUP = true ∧ t.rtcFlag TFLAG.UNTRUSTED = true)) ∧
    (21000 ≤ vbk → Gives (.vbkLowClear vbk false) s fun t => t.rtcFlag TFLAG.VBK_LOW = false) ∧
    (s.nat DEV_STATE = 3 → Gives (.vbkLowClear vbk true) s fun t =>
      t.rtcFlag TFLAG.LOW_BACKUP = true ∧ t.rtcFlag TFLAG.UNTRUSTED = true ∧ t.nat WAKE_CONFIG.WAKE_LATCHED = 0 ∧
      t.nat ALARM.ALARM_STATE = 0 ∧ t.flag PON_CONTROL.PON_STATE = false) ∧
    (Gives (.backupSwitchover vh) s fun t => t.flag ON_VBK = decide (vh ≤ 40000)) ∧
    (max 1 (1000 * s.wakeFilter) ≤ us → Gives (.wakeLatchSet j high us) s fun t =>
      t.bit WAKE_CONFIG.WAKE_LEVEL j = high ∧
      (high = s.wakePolarity.testBit j → s.wakeSense.testBit j = false ∨ s.wakeActive j = false →
        t.bit WAKE_CONFIG.WAKE_LATCHED j = true)) ∧
    (us < max 1 (1000 * s.wakeFilter) → exec (.wakeLatchSet j high us) s = .next s) ∧
    ((s.landValue u RTC.RTC_TRIM vbk).rtcCount = s.rtcCount ∧
      (s.landValue u ALARM.ALARM_SECONDS us).nat ALARM.ALARM_STATE = if us = 0 then 0 else 1) ∧
    (s.flag BACKUP_LOCKED = false →
      (s.landAction u PON_CONTROL.PON_COMMAND 0xA5).flag PON_CONTROL.PON_STATE = true ∧
      (s.landAction u PON_CONTROL.PON_COMMAND 0x5A).flag PON_CONTROL.PON_STATE = false) ∧
    (s.flag BACKUP_LOCKED = true → s.landAction u PON_CONTROL.PON_COMMAND 0xA5 = s)

/-! ### Counting charge and the battery record (chapter 9) -/

/-- R245 to R257: the estimator. A sample gives the current of its code, and four of them the 1 ms mean; in Park it is
counted, and the largest magnitude kept. The update of a second moves
SOC_INTERNAL by the charge counted, within its bounds, and keeps the reported SOC within 0 and 100 %. A rest that has lasted long
enough takes its voltage; a pulse's fourth millisecond after a valid rest gives a resistance sample. -/
def Obligations.Estimator : Prop :=
  ∀ (code v i : Int) (s : State),
    (-8388608 < code → code < 8388607 → s.shuntNow ≠ 0 →
      (s.live = true → Gives (.sigmaSample code) s fun t =>
        t.get ESTIMATOR_STATUS.I_BATT_INST = s.battCurrent code ∧ t.nat EST_CNT = s.nat EST_CNT + 1 ∧
        (s.nat EST_MS_CNT = 3 → t.get ESTIMATOR_STATUS.I_BATT = divNear (s.get EST_MS_SUM + s.battCurrent code) 4 ∧
          t.nat EST_MS_CNT = 0)) ∧
      (s.nat DEV_STATE = 2 → Gives (.sigmaSample code) s fun t =>
        t.get EST_PARK_MAX = max (s.get EST_PARK_MAX) (s.battCurrent code).natAbs ∧ t.nat EST_CNT = s.nat EST_CNT + 1)) ∧
    (s.live = true → s.tick % 1000000 = 0 → s.time = s.nat LAST_BOUNDARY → s.nat EST_UPDATED ≠ s.time + 1 →
      Gives .estimatorUpdate s fun t =>
        t.nat EST_UPDATED = s.time + 1 ∧ t.nat EST_CNT = 0 ∧ t.get EST_QP = 0 ∧
        (s.get EST_LONG = 0 → s.get EST_SHORT = 0 → s.flag CH_FULL = false → s.socKnown = true →
          t.get EST_SOCI = clampInt (-65536000) 720896000 (s.get EST_SOCI + s.estDelta) ∧
          0 ≤ t.get EST_SOC ∧ t.get EST_SOC ≤ 655360000)) ∧
    (s.nat EST_REST_SINCE ≠ 0 → s.flag EST_REST_DONE = false → s.nat EST_UPDATED = s.time + 1 →
      s.nat EST_REST_SINCE - 1 + 1000000 * s.nat ESTIMATOR.EST_REST_TIME ≤ s.time → Gives .longRest s fun t =>
        t.flag EST_REST_DONE = true ∧ t.get EST_LONG = s.get BATTERY_SWITCH.V_BATTERY + 1) ∧
    (s.nat CHARGER_STATUS.STAGE = 1 → s.flag RS_OK = true → s.nat CH_STAGE_AT + 4000 ≤ s.time → Gives (.resistanceSample v i) s fun t =>
      t.flag RS_OK = false ∧
      (i - s.get RS_I < 100000 → t.get ESTIMATOR_STATUS.RESISTANCE = s.get ESTIMATOR_STATUS.RESISTANCE) ∧
      (let e := s.nat ESTIMATOR.EST_TEMP_ENTRY
       let sample := divNear ((v - s.get RS_V) * 1000000000) (i - s.get RS_I).toNat
       100000 ≤ i - s.get RS_I → e ≠ 0xFF → s.hkStale e = false → 1500 ≤ s.get (HK_ENTRY.VALUE e) →
         s.get (HK_ENTRY.VALUE e) ≤ 3500 → s.nat REC_RES_N = 0 → 0 ≤ sample → sample < 2 ^ 32 →
         t.get ESTIMATOR_STATUS.RESISTANCE = sample ∧ t.nat REC_RES_N = 1))

/-- R181, R258, R261: the record store. Every 10 minutes of powered time the lifetime trips and the battery record are written; the write
that completes advances SEQUENCE. BATTERY_REPLACED empties the record as it lands, with its stamp. -/
def Obligations.RecordStore : Prop :=
  ∀ (u : Nat) (s : State),
    (s.live = true → s.nat STORE_AT + 600000000 ≤ s.time → Gives .recordStorePeriodicWrite s fun t =>
      t.nat STORE_AT = s.time ∧
      (s.flag STORE_OFF = false →
        (∀ n < 512, t.nat (LIFE_NEW n) = 0 ∧
          t.nat (LIFE_STORED n) = satTo 0xFFFFFFFF (s.nat (LIFE_STORED n) + s.nat (LIFE_NEW n))) ∧
        (s.flag STORE_BUSY = false → t.nat STORE_BUSY = s.nat BATTERY_RECORD.SEQUENCE + 1))) ∧
    (s.flag STORE_BUSY = true → Gives .batteryRecordWritten s fun t =>
      t.nat BATTERY_RECORD.SEQUENCE = s.nat STORE_BUSY ∧ t.flag STORE_BUSY = false ∧
      t.nat STORE_SIDE = 1 - s.nat STORE_SIDE ∧
      Raises s t .BATTERY_RECORD_WRITTEN siteEstimator 0 [f32 (s.nat STORE_BUSY)]) ∧
    (let t := s.landAction u BATTERY_RECORD.BATTERY_REPLACED 0xA5
     t.nat REC_REPLACED = s.stamp ∧ t.nat ESTIMATOR_STATUS.LEARNED_CAPACITY = 0 ∧ t.nat ESTIMATOR_STATUS.RESISTANCE = 0 ∧
     t.nat ESTIMATOR_STATUS.SOC_SOURCE = 0 ∧ t.nat REC_UNBINNED = 0)

/-! ### Resets, opening and power (chapters 10 and 11) -/

/-- R263 to R269, R310, R434: each cause begins its reset of a running device, with its site: VH, VCORE, VIO, RSTIN_N low for 20 µs, WDX,
lockstep, a critical memory error, DEVICE_RESET as it lands, and the end of a house stop. A pulse below 10 µs on RSTIN_N does
nothing. -/
def Obligations.ResetsBegin : Prop :=
  ∀ (v : Int) (us site u : Nat) (s : State), s.live = true →
    (v < 45000 → 2 ≤ us → Gives (.vhBrownout v us) s fun t => ResetBegun s t 2 (siteRegulator 0) 1) ∧
    (v < vcoreOf (s.nat PERFORMANCE.LEVEL_IN_FORCE) - 600 → 2 ≤ us →
      Gives (.vcoreBrownout v us) s fun t => ResetBegun s t 3 (siteRegulator 1) 2) ∧
    (v < 29000 → 2 ≤ us → Gives (.vioBrownout v us) s fun t => ResetBegun s t 4 (siteRegulator 2) 2) ∧
    (20 ≤ us → Gives (.rstinNLow us) s fun t => ResetBegun s t 5 0xFF800000 2 ∧ s.time + us ≤ t.nat RSTIN_UNTIL) ∧
    (us < 10 → exec (.rstinNLow us) s = .next s) ∧
    (s.nat WDX_SERVED + 10000 ≤ s.time → s.nat PARK_STAGE ≠ 2 →
      Gives .wdxExpiry s fun t => ResetBegun s t 6 0x1FC80010 2) ∧
    (Gives .lockstepMismatch s fun t => ResetBegun s t 7 0x00800000 2) ∧
    (siteDieOf none site = true → Gives (.criticalMemoryError none site) s fun t => ResetBegun s t 8 site 2) ∧
    ResetBegun s (s.landAction u RESET_CONTROL.DEVICE_RESET 0xA5) 10 siteServer 2 ∧
    ResetBegun s (s.landAction u RESET_CONTROL.DEVICE_RESET 0x5A) 11 siteServer 1 ∧
    (s.flag STOP_RUNS = true → s.nat STOP_AT + 10 ≤ s.time → (∀ m < 4, s.nat (CONV_WRITING m) = 0) →
      Gives .houseStopReset s fun t => ResetBegun s t 12 0x02800000 2 ∧ (s.nat STOP_RUNS = 2 → t.nat KEEPER_HOLDING = 2))

/-- R89, R263, R267, R268, R311: VBAT falling below its threshold takes every die's logic with it; rising, it starts the device anew into
its reset, with the anchored latches that the profile does not name off; 100 ms without it are a power cycle. A critical error on a
channel die resets that die alone, which then stands. -/
def Obligations.SupplyLossAndDieReset : Prop :=
  ∀ (d : Die) (site : Nat) (s : State),
    (s.live = true → s.nat VBAT_GONE_AT = 0 → Gives .vbatBrownout s fun t =>
      t.nat DEV_STATE = 3 ∧ t.nat VBAT_GONE_AT = s.time + 1 ∧ t.flag (LOGIC_OFF d) = true ∧
      t.nat RESET_CAUSE.LAST_CAUSE = (if s.nat LONG_AT = 0 then 1 else 13) ∧ t.nat RESET_CAUSE.LAST_KIND = 1) ∧
    (s.nat DEV_STATE = 3 → Gives .vbatPowerUp s fun t =>
      t.nat DEV_STATE = 0 ∧ t.nat VBAT_GONE_AT = 0 ∧ t.nat VBAT_ROSE_AT = s.time + 1 ∧
      ∀ n < 512, isAnchored n = true → (profileChannels s.profile).contains n = false → t.flag (LATCH n) = false) ∧
    (s.nat VBAT_GONE_AT ≠ 0 → s.nat VBAT_GONE_AT - 1 + 100000 ≤ s.time → Gives .powerCycle s fun t =>
      t.nat KEEPER.FAILED_OPENINGS = 0 ∧ t.nat KEEPER.RETRY_SERIES = 0 ∧ t.flag KEEPER_HOLDING = false) ∧
    (s.flag (LOGIC_OFF d) = false → siteDieOf (some d) site = true → Gives (.criticalMemoryError (some d) site) s fun t =>
      t.nat RESET_CAUSE.CHANNEL_DIE_RESETS = satTo 0xFFFF (s.nat RESET_CAUSE.CHANNEL_DIE_RESETS + 1) ∧
      (∀ n, dieOf n = d → t.standing n = true) ∧
      DieRaises s t d .CHANNEL_DIE_RESET (siteDie d 0xE0) 0 [f8 (d.val + 1), f32 site])

/-- R265, R266, R273, R275, R278, R296, R322: the release and the opening. A reset that may end brings the device to run with its ports
ready, one more opening counted, unless three openings have failed, when the keeper holds. A wake in Park opens likewise, without a
reset. The profile's channels are requested at their times. What a failed port needs is tried again, RSTOUT_N rises after its
time, and JOURNAL_ACK clears the skip marks as it lands. -/
def Obligations.Openings : Prop :=
  ∀ (o : Opening) (ok : Bool) (n u : Nat) (s : State),
    (s.mayRelease = false → s.flag V18_WAIT = false → exec (.resetRelease o) s = .next s) ∧
    (s.mayRelease = true → 3 ≤ s.nat KEEPER.FAILED_OPENINGS → s.flag KEEPER_PASS = false → Gives (.resetRelease o) s fun t =>
      t.nat KEEPER_HOLDING = (if 3 ≤ s.nat KEEPER.RETRY_SERIES then 2 else 1) ∧ t.nat DEV_STATE = 0 ∧
      t.nat KEEPER.HOLDS = satTo 0xFFFF (s.nat KEEPER.HOLDS + 1)) ∧
    (s.mayRelease = true → s.nat KEEPER.FAILED_OPENINGS < 3 ∨ s.flag KEEPER_PASS = true → o.hang = 0 →
      s.flag V18_LOW = false → Gives (.resetRelease o) s fun t =>
        t.nat DEV_STATE = 1 ∧ t.portsReady = true ∧ t.nat (TENANT.ADMITTED 0) = 1 ∧
        t.nat OPENING_STATUS.OPENINGS = satTo 0xFFFFFFFF (s.nat OPENING_STATUS.OPENINGS + 1) ∧
        t.nat PERFORMANCE.LEVEL_IN_FORCE = 0 ∧ t.flag BACKUP_LOCKED = false) ∧
    (s.nat DEV_STATE = 2 → s.wakeCauses ≠ 0 → o.hang = 0 → s.flag V18_LOW = false → Gives (.parkExit o) s fun t =>
      t.nat DEV_STATE = 1 ∧ t.portsReady = true ∧ t.nat POWER_STATE.LAST_WAKE_CAUSE = s.wakeCauses) ∧
    (s.live = true → s.nat OPENING_STATUS.STEP = 7 → s.time = s.nat LAST_BOUNDARY → n < 16 → s.bit PROFILE_NAMED n = true →
      s.bit PROFILE_DONE n = false → s.profileTime n ≤ s.time → s.commands n = true → Gives .profileChannelRequest s fun t =>
        t.bit PROFILE_DONE n = true ∧ t.nat (CHANNEL_CONFIG.REQUEST n) = 1) ∧
    (s.live = true → s.flag ARB_DOWN = true → s.nat ARB_AT + 100000 ≤ s.time → Gives (.arbiterPortRetry ok) s fun t =>
      t.flag ARB_DOWN = !ok ∧ t.nat ARB_AT = s.time) ∧
    (s.portsReady = true → s.nat RSTOUT_UNTIL ≤ s.time → Gives .rstoutNRelease s fun t => t.nat RSTOUT_HIGH = 1) ∧
    (let t := s.landAction u OPENING_STATUS.JOURNAL_ACK 0xA5
     t.nat OPENING_STATUS.SKIP_MASK = 0 ∧ t.nat OPENING_STATUS.PROFILE_SKIP = 0) ∧
    (s.nat OPENING_STATUS.OPENING_STATE ≠ 2 → s.landAction u OPENING_STATUS.OPENING_RESUME 0xA5 = s)

/-- R282 to R289, R291, R293, R294: the supplies and the levels. VBAT above 64 V stops HR0, below 61 V never, and 1.5 V below
that it switches again; a regulator that enters its current limit is counted and raised; V18 below 1.62 V for 2 µs is raised,
until it is back. The level in force moves one step at a time towards the slower of the request and the thermal floor. Power
modes and Park. POWER_MODE takes effect as it lands. PARK stops every converter and begins the writes of the record store as
it lands; the point of no return follows when they are done, with an order to stand for each die whose link is up; one frame
later the device is in Park, counted. -/
def Obligations.PowerStates : Prop :=
  (∀ (v : Int) (us : Nat) (r : Fin 4) (s : State),
    (s.live = true → 640000 < v → s.bit SUPPLY_STATUS.SUPPLY_FLAGS 1 = false → Gives (.vbatOvervoltage v) s fun t =>
      t.bit SUPPLY_STATUS.SUPPLY_FLAGS 1 = true ∧ Raises s t .VBAT_OVERVOLTAGE siteSupply 0 [f32 v]) ∧
    (v ≤ 610000 → exec (.vbatOvervoltage v) s = .next s) ∧
    (v ≤ 595000 → Gives (.vbatOvervoltageEnd v) s fun t => t.bit SUPPLY_STATUS.SUPPLY_FLAGS 1 = false) ∧
    (s.live = true → s.bit SUPPLY_STATUS.SUPPLY_FLAGS (2 + r.val) = false → s.nat (HR_TOLD r) = 0 →
      Gives (.hrCurrentLimit r true v) s fun t =>
        t.bit SUPPLY_STATUS.SUPPLY_FLAGS (2 + r.val) = true ∧
        t.nat SUPPLY_STATUS.HR_LIMIT_EVENTS = satTo 0xFFFFFFFF (s.nat SUPPLY_STATUS.HR_LIMIT_EVENTS + 1) ∧
        DieRaises s t 0 .HR_CURRENT_LIMIT (siteRegulator r) 0 [f8 r.val, f32 v]) ∧
    (Gives (.hrCurrentLimit r false v) s fun t => t.bit SUPPLY_STATUS.SUPPLY_FLAGS (2 + r.val) = false) ∧
    (s.live = true → v < 16200 → 2 ≤ us → s.flag V18_LOW = false → Gives (.supply18Low v us) s fun t =>
      t.flag V18_LOW = true ∧ t.bit SUPPLY_STATUS.SUPPLY_FLAGS 6 = true ∧
      DieRaises s t 0 .SUPPLY_18_LOW (siteRegulator 3) 0 [f32 v]) ∧
    (16200 ≤ v → Gives (.supply18Low v us) s fun t => t.flag V18_LOW = false ∧ t.bit SUPPLY_STATUS.SUPPLY_FLAGS 6 = false) ∧
    (let l := s.nat PERFORMANCE.LEVEL_IN_FORCE
     let n := if l < s.levelAim then l + 1 else l - 1
     s.live = true → s.levelAim ≠ l → Gives .levelStep s fun t =>
      t.nat PERFORMANCE.LEVEL_IN_FORCE = n ∧ t.nat CLOCK_STATUS.CORE_RATE = 200000 / 2 ^ n ∧
      t.nat PERFORMANCE.LEVEL_CHANGES = satTo 0xFFFFFFFF (s.nat PERFORMANCE.LEVEL_CHANGES + 1) ∧
      Raises s t .LEVEL_CHANGED siteControl 0 [f8 l, f8 n, f8 (s.get PERFORMANCE.THERMAL_FLOOR)]) ∧
    (s.live = true → s.levelAim = s.nat PERFORMANCE.LEVEL_IN_FORCE → exec .levelStep s = .next s)) ∧
  (∀ (d : Die) (u mode : Nat) (s : State),
    (s.nat PARK_STAGE = 0 → (s.landValue u POWER_STATE.POWER_MODE mode).nat POWER_STATE.STATE = mode) ∧
    (s.live = true → s.nat PARK_STAGE = 0 →
      let t := s.landAction u POWER_STATE.PARK 0xA5
      t.nat POWER_STATE.STATE = 2 ∧ t.nat PARK_STAGE = 1 ∧ ∀ m < 4, t.conv m = CS.OFF) ∧
    (s.live = true → s.nat PARK_STAGE = 1 → s.flag STORE_BUSY = false → (∀ m < 4, s.flag (CONV_WRITING m) = false) →
      s.time = s.nat LAST_BOUNDARY → Gives .parkPointOfNoReturn s fun t =>
        t.nat PARK_STAGE = 2 ∧ t.nat PARK_FRAME = s.frame ∧ (s.linkUp d = true → t.nat (STAND_DUE d) = 5)) ∧
    (s.flag STORE_BUSY = true → exec .parkPointOfNoReturn s = .next s) ∧
    (s.live = true → s.nat PARK_STAGE = 2 → s.nat PARK_FRAME < s.frame → Gives .parkPowerDown s fun t =>
      t.nat DEV_STATE = 2 ∧ t.nat POWER_STATE.PARK_ENTRIES = satTo 0xFFFF (s.nat POWER_STATE.PARK_ENTRIES + 1) ∧
      t.nat RSTOUT_HIGH = 0 ∧ t.landing = [] ∧ t.staged = []))

/-! ### Fault messages and records (chapters 12 and 13) -/

/-- R306 to R312, R317: the collector takes the oldest message. One of class F0 is counted and handed to recording, and no more; one of a
higher class is also LAST_KIND and LAST_SITE, and reacts: F2 turns the unit at its site off at the second boundary, F3 folds the
hands it concerns there, F4 begins a house stop and F5 a lockout. One in a shadow is counted as such and does not react. A
message of a kind that the catalogue does not give is raised as UNKNOWN, from its site. -/
def Obligations.FaultMessages : Prop :=
  ∀ (m : Msg) (rest : List Msg) (code site : Nat) (s : State), s.live = true →
    (s.collector = [] → exec (.faultMessage none) s = .next s) ∧
    (Kind.ofCode code = none → site < 2 ^ 29 → s.collector ≠ [] → Gives (.faultMessage (some (.unknown code site))) s fun t =>
      ∃ x, x.kind = .UNKNOWN ∧ x.site = site ∧ x ∈ t.collector) ∧
    (s.collector = m :: rest →
      (s.shadowed m (s.classOf m.kind) = false → s.classOf m.kind = 0 → (s.placing.filter fun p => p.record.cls ≤ 1).length < 512 →
        Gives (.faultMessage none) s fun t =>
          t.collector = rest ∧ t.nat (FAULT_STATUS.COUNT_F 0) = satTo 0xFFFFFFFF (s.nat (FAULT_STATUS.COUNT_F 0) + 1) ∧
          t.placing = s.placing ++ [s.toPlacing m 0 false] ∧ t.landing = s.landing ∧
          t.nat FAULT_STATUS.LAST_KIND = s.nat FAULT_STATUS.LAST_KIND) ∧
      (s.shadowed m (s.classOf m.kind) = false → s.classShadowOpen = false → s.flag STOP_RUNS = false →
        (s.classOf m.kind = 1 → Gives (.faultMessage none) s fun t =>
          t.nat FAULT_STATUS.LAST_KIND = m.kind.code ∧ t.nat FAULT_STATUS.LAST_SITE = m.site ∧
          t.nat (FAULT_STATUS.COUNT_F 1) = satTo 0xFFFFFFFF (s.nat (FAULT_STATUS.COUNT_F 1) + 1) ∧ t.landing = s.landing) ∧
        (s.classOf m.kind = 2 → siteChannels m.site ≠ [] → Gives (.faultMessage none) s fun t =>
          t.landing = s.landing ++ [⟨0, s.frame + 2, s.time, .unitStop m.site, false⟩]) ∧
        (s.classOf m.kind = 3 → Gives (.faultMessage none) s fun t =>
          ∀ u ∈ s.handsOf m, s.foldPending u = false → s.resetPending u = false →
            (⟨u, s.frame + 2, s.time, .fold (if m.kind = .WATCHDOG_EXPIRED then 2 else 3), false⟩ : Landing) ∈ t.landing) ∧
        (s.nat OPENING_PLAN.STEP_COUNT ≤ 128 → s.nat ENDGAME_PLAN.STEP_COUNT ≤ 128 →
          (s.classOf m.kind = 4 → Gives (.faultMessage none) s fun t =>
            t.nat STOP_RUNS = 1 ∧ t.nat FAULT_STATUS.HOUSE_STOPS = satTo 0xFFFFFFFF (s.nat FAULT_STATUS.HOUSE_STOPS + 1) ∧
            (∀ d < 4, s.linkUp d = true → t.nat (STAND_DUE d) = 3) ∧ ∀ i < 4, t.conv i = CS.OFF) ∧
          (s.classOf m.kind = 5 → Gives (.faultMessage none) s fun t =>
            t.nat STOP_RUNS = 2 ∧ t.nat FAULT_STATUS.LOCKOUTS = satTo 0xFFFFFFFF (s.nat FAULT_STATUS.LOCKOUTS + 1) ∧
            (∀ d < 4, s.linkUp d = true → t.nat (STAND_DUE d) = 3) ∧ ∀ i < 4, t.conv i = CS.OFF))) ∧
      (s.shadowed m (s.classOf m.kind) = true → Gives (.faultMessage none) s fun t =>
        t.nat FAULT_STATUS.SHADOWED = satTo 0xFFFFFFFF (s.nat FAULT_STATUS.SHADOWED + 1) ∧ t.landing = s.landing ∧
        t.nat STOP_RUNS = s.nat STOP_RUNS))

/-- R316, R319, R322 to R324: shadows whose time has passed close, but for the last 64 of them; the keeper retries after
KEEPER_RETRY_TIME, reports a hold every second, again up to three times where the frame is lost, and learns of a die by its heartbeats. -/
def Obligations.ShadowsAndKeeper : Prop :=
  ∀ (d : Die) (lost : Nat) (s : State),
    (Gives .shadowClose s fun t =>
      let closed := s.shadows.filter fun x => x.closing != 0 && x.closing ≤ s.stamp
      ∀ x, x ∈ t.shadows ↔ x ∈ s.shadows ∧ (x.closing = 0 ∨ s.stamp < x.closing ∨ x ∈ closed.drop (closed.length - 64))) ∧
    (s.nat DEV_STATE = 0 → s.nat KEEPER_HOLDING = 1 → s.nat RET_RETRY ≠ 0 → s.nat KEEPER_AT + 1000000 * s.nat RET_RETRY ≤ s.time →
      Gives .keeperRetry s fun t =>
        t.flag KEEPER_HOLDING = false ∧ t.flag KEEPER_PASS = true ∧ t.nat RESET_CAUSE.LAST_CAUSE = 9 ∧
        t.nat KEEPER.RETRY_SERIES = satTo 3 (s.nat KEEPER.RETRY_SERIES + 1)) ∧
    (s.nat KEEPER_HOLDING = 2 → exec .keeperRetry s = .next s) ∧
    (s.nat DEV_STATE = 0 → s.flag KEEPER_HOLDING = true → s.nat KEEPER_LAST + 1000000 ≤ s.time → s.nat RET_PORT ≠ 0 →
      s.nat CLOCK_STATUS.ROOT_SOURCE ≠ 2 → Gives (.keeperFrame lost) s fun t =>
        t.nat KEEPER_LAST = s.time ∧
        t.out = s.out ++ List.replicate (1 + min lost 3) (.can (s.nat RET_PORT - 1) (s.nat RET_COB) s.keeperForm s.keeperBytes)) ∧
    (s.flag (LOGIC_OFF d) = false → Gives (.keeperHeartbeat d) s fun t => t.flag (HEART_LOST d) = false) ∧
    (s.flag (LOGIC_OFF d) = true → s.nat (LOGIC_OFF_AT d) + 3000 ≤ s.time →
      Gives (.dieHeartbeatTimeout d) s fun t => t.flag (HEART_LOST d) = true) ∧
    (s.flag (LOGIC_OFF d) = false → exec (.dieHeartbeatTimeout d) s = .next s)

/-- R331, R332, R337, R343 to R347, R329: the event fabric. A record enters its ring with the ring's next sequence number, or is dropped
and counted where the ring is full. A target whose moderation time has passed raises. A fence that is ready is done. The era
advances once. An unmasked vector sends what it held. -/
def Obligations.EventFabric : Prop :=
  ∀ (p : Placing) (rest : List Placing) (q : Nat) (f : Fence) (fs : List Fence) (g : TargetId) (x : Func) (v : Fin 12) (s : State),
    (q < 8192 → s.fences = [] → s.flag ERA_OPEN = false → s.placing = p :: rest → p.more = none → s.ringsFor p = [q] → s.nat (OVF_DROPS q) = 0 →
      (s.ringCount q < s.capacityOf q → s.nat (RING_FENCE q) = 0 → Gives .recordPlaced s fun t =>
        t.placing = rest ∧
        t.ringRecs q = s.ringRecs q ++ [{ p.record with seq := s.nat (RING.SEQUENCE q), target := s.nextTarget q }] ∧
        t.nat (RING.SEQUENCE q) = (s.nat (RING.SEQUENCE q) + 1) % 2 ^ 32) ∧
      (s.capacityOf q ≠ 0 → s.ringCount q = s.capacityOf q → Gives .recordPlaced s fun t =>
        t.placing = rest ∧ t.ringCount q = s.ringCount q ∧ t.nat (RING.SEQUENCE q) = s.nat (RING.SEQUENCE q) ∧
        t.nat (RING.DROPS q) = satTo 0xFFFFFFFF (s.nat (RING.DROPS q) + 1))) ∧
    (s.tgBit g TFL.EPISODE = true → s.tgBit g TFL.RAISED = false → s.nat (TARGET.MOD_TIME g) ≠ 0 →
      s.nat (TG_BEGAN g) + s.nat (TARGET.MOD_TIME g) ≤ s.time → s.flag (TARGET.ENABLE g) = true → s.tgHeld g = false →
      Gives (.targetModerationTimeout g) s fun t =>
        t.tgBit g TFL.RAISED = true ∧ t.nat (TARGET.RAISES g) = (s.nat (TARGET.RAISES g) + 1) % 2 ^ 32 ∧
        (g.val < 16 → t.out = s.out ++ [.irq g.val])) ∧
    (s.fences = f :: fs → s.fenceReady f = true → Gives .fencePlaced s fun t =>
      t.fences = fs ∧ t.nat (FENCE_CONTROL.FENCE_DONE f.tenant) = f.id % 2 ^ 32) ∧
    (s.fences = f :: fs → s.fenceReady f = false → exec .fencePlaced s = .next s) ∧
    (s.nat ERA_TOLD < s.era → Gives .eraAdvanced s fun t =>
      t.nat ERA_TOLD = s.era ∧ t.nat STORE_ERA = s.era ∧ Raises s t .ERA_ADVANCED siteFabric 0 [f8 s.era]) ∧
    (Gives (.msixUnmask x v) s fun t =>
      t.flag (MSIX_OPEN (16 + 12 * x.val + v.val)) = true ∧ t.flag (MSIX_HELD (16 + 12 * x.val + v.val)) = false ∧
      t.out = if s.flag (MSIX_HELD (16 + 12 * x.val + v.val)) then s.out ++ [.msix x.val v.val] else s.out)

/-! ### DMA streams (chapter 14) -/

/-- R350, R351, R354 to R358: streams. Run, a stream whose turn it is gives the engine its descriptor at HEAD; what that one moved, of
a ring only what it takes out of it, or the error that stopped it, shows in word 3, in the counts and in HEAD, and is raised. RUN and TAIL take effect as they land: a
stream that stops with no descriptor in progress says so, and word 3 of each descriptor that becomes pending returns to 0. A
pass of a periodic stream starts at 0 with the TAIL that waited for it, or is an overrun. -/
def Obligations.Streams : Prop :=
  ∀ (d : StreamId) (fail moved u v : Nat) (s : State),
    (s.live = true → s.dsTurn d = true → Gives (.descriptorStart d) s fun t =>
      t.nat DMA_BUSY = d.val + 1 ∧ t.nat DMA_LAST = d.val ∧ t.nat DMA_DESC = s.descOf d (s.dsHead d) ∧
      t.nat (STREAM.STREAM_STATE d) = 1 ∧
      ∀ w < 3, t.nat (DMA_WORD w) = s.nat (inForce (descWord (s.descOf d (s.dsHead d)) w))) ∧
    (s.dsTurn d = false → exec (.descriptorStart d) s = .next s) ∧
    (let k := s.nat DMA_DESC
     let w0 := s.nat (DMA_WORD 0)
     let w1 := s.nat (DMA_WORD 1)
     let b := if s.dmaFromRing then s.dmaRecords.flatMap Record.bytes else s.blob DMA_DATA
     let err := s.dmaFailure d fail
     let n := if err = 6 ∨ (err = 0 ∧ s.flag DMA_REARMED = true) then min moved b.length else if err = 0 then b.length else 0
     let box := padTo 8192 (s.blob (MAILBOX.DATA d))
     let q := DW.src w0
     s.nat DMA_BUSY = d.val + 1 → s.flag (STREAM_CAUSE d) = false → k < 1024 → Gives (.descriptorComplete d fail moved) s fun t =>
      t.nat DMA_BUSY = 0 ∧ t.nat (descWord k 3) = (if err = 0 then 1 else 2) * 2 ^ 56 + err * 2 ^ 48 + n ∧
      t.nat (STREAM.COMPLETIONS d) = (s.nat (STREAM.COMPLETIONS d) + 1) % 2 ^ 32 ∧
      t.nat DMA_ENGINE.BYTES_MOVED = (s.nat DMA_ENGINE.BYTES_MOVED + n) % 2 ^ 64 ∧
      t.nat (STREAM.HEAD d) = (if s.nat (STREAM.MODE d) = 1 then s.dsHead d + s.nat DMA_SLOTS
        else (s.dsHead d + s.nat DMA_SLOTS) % max 1 (s.descCount d)) ∧
      (DW.dstKind w0 = 1 → n ≠ 0 → w1 + n ≤ 8192 →
        t.blob (MAILBOX.DATA d) = box.take w1 ++ b.take n ++ box.drop (w1 + n)) ∧
      (DW.dstKind w0 ≠ 1 →
        s.out ++ splitWrites (s.nat (TENANT.ENDPOINT (s.holderOfStream d)) % 4)
          (max 1 (s.nat (PCIE_PAYLOAD (s.nat (TENANT.ENDPOINT (s.holderOfStream d)) % 4)))) n w1 (b.take n) <+: t.out) ∧
      (s.dmaFromRing = true → err = 0 → s.flag DMA_REARMED = false → q < 8192 → s.nat (OVF_DROPS q) = 0 →
        (s.dmaRecords.getLast?.any fun r => r.flags.testBit 6) = false →
        t.ringRecs q = (s.ringRecs q).drop s.dmaRecords.length) ∧
      (err = 0 → DW.notify w0 = true →
        Raises s t .DMA_DONE (siteStream d) (s.holderOfStream d)
          [f8 d.val, f16 k, f32 (s.nat (DMA_WORD 2) / 2 ^ 32 : Nat), f32 n]) ∧
      (err ≠ 0 → t.nat (STREAM.BAD_COUNT d) = satTo 0xFFFF (s.nat (STREAM.BAD_COUNT d) + 1) ∧
        t.nat (STREAM.LAST_BAD d) = k ∧
        Raises s t .DESCRIPTOR_BAD (siteStream d) (s.holderOfStream d) [f8 d.val, f16 k, f8 err, f32 n])) ∧
    (s.live = true → s.dsRuns d = true → s.nat (STREAM.MODE d) = 1 → s.time = s.nat LAST_BOUNDARY →
      s.nat (PASS_AT d) ≠ s.frame + 1 → s.frameNumber % max 1 (s.nat (STREAM.PERIOD d)) = 0 →
      (s.flag (PASS_RUNS d) = true → Gives (.periodicPassStart d) s fun t =>
        t.nat (STREAM.OVERRUNS d) = satTo 0xFFFF (s.nat (STREAM.OVERRUNS d) + 1) ∧
        Raises s t .PERIOD_OVERRUN (siteStream d) (s.holderOfStream d) [f8 d.val, f32 s.frameNumber]) ∧
      (let tail := if s.flag (TAIL_DUE d) then s.nat (TAIL_DUE d) - 1 else s.nat (inForce (STREAM.TAIL d))
       s.flag (PASS_RUNS d) = false → s.nat (STREAM.DESC_BASE d) + tail ≤ 1024 → Gives (.periodicPassStart d) s fun t =>
        t.nat (STREAM.HEAD d) = 0 ∧ t.flag (PASS_RUNS d) = decide (tail ≠ 0) ∧ t.nat (inForce (STREAM.TAIL d)) = tail ∧
        ∀ o < tail, t.nat (descWord (s.descOf d o) 3) = 0)) ∧
    (let t := s.landValue u (STREAM.RUN d) 1
     t.nat (inForce (STREAM.RUN d)) = 1 ∧ t.flag (STREAM_CAUSE d) = false ∧
     (s.nat DMA_BUSY = 0 → t.nat (STREAM.STREAM_STATE d) = if t.dsReady d then 1 else 2)) ∧
    (let t := s.landValue u (STREAM.RUN d) 0
     t.nat (inForce (STREAM.RUN d)) = 0 ∧
     (s.nat (STREAM.STREAM_STATE d) ≠ 0 → s.nat DMA_BUSY = d.val + 1 → t.nat (STREAM.STREAM_STATE d) = 3) ∧
     (s.nat (STREAM.STREAM_STATE d) ≠ 0 → s.nat DMA_BUSY ≠ d.val + 1 → t.nat (STREAM.STREAM_STATE d) = 0 ∧
       Raises s t .STREAM_STOPPED (siteStream d) (s.holderOfStream d) [f8 d.val, f8 0, f16 (s.dsHead d)])) ∧
    (s.nat (STREAM.MODE d) ≠ 1 → 0 < s.descCount d → s.nat (STREAM.DESC_BASE d) + s.descCount d ≤ 1024 →
      let t := s.landValue u (STREAM.TAIL d) v
      t.nat (inForce (STREAM.TAIL d)) = v ∧
      ∀ o ∈ s.offsetsTo d v, o ∉ s.offsetsTo d (s.nat (inForce (STREAM.TAIL d))) → t.nat (descWord (s.descOf d o) 3) = 0)

/-! ### Host ports (chapters 15 and 16) -/

/-- R363 to R366, R366, R367, R370, R371, R373: CAN as a bus. Bus-off discards what waits; the rejoin sends what has come to
wait since. A heartbeat and a due TPDO go out. Each NMT command sets the state of the nodes that it addresses, boots them
anew, or resets their tenant. A TIME message sets the clock where the port accepts it, and is refused outside its range. The
data of CAN. A USDO read is answered with the value or with its abort code, recorded (R360); a session takes its segments, is
aborted by a second request, and by 1 s without one. An RPDO shorter than its mapping is counted and raised; a synchronous
one is held for the next SYNC; one that is written on receipt is refused as a whole, or its value is accepted. -/
def Obligations.CanPorts : Prop :=
  (∀ (p : CanPort) (x : Tenant) (q : Fin 128) (node tec errs ms days : Nat) (s : State),
    (s.canOnBus p = true → Gives (.canBusOff p tec errs) s fun t =>
      t.nat (CAN_PORT.BUS_STATE p) = 2 ∧ t.nat (CAN_PORT.TEC p) = tec % 256 ∧
      t.nat (CAN_PORT.BUS_OFF_COUNT p) = satTo 0xFFFF (s.nat (CAN_PORT.BUS_OFF_COUNT p) + 1) ∧
      t.canQueue = (s.canQueue.filter fun o => outPort o != p.val) ∧ t.out = s.out ∧
      Raises s t .CAN_BUS_OFF (siteCan p) 0 [f8 p.val, f8 (tec % 256 : Nat), f8 (errs % 256 : Nat)]) ∧
    (s.portsReady = true → s.nat (CAN_PORT.BUS_STATE p) = 2 → s.flag (CAN_PORT.AUTO_RECOVER p) = true →
      Gives (.canBusRecovered p) s fun t =>
        t.nat (CAN_PORT.BUS_STATE p) = 0 ∧ t.nat (CAN_PORT.TEC p) = 0 ∧ t.nat (CAN_PORT.REC p) = 0 ∧
        t.out = s.out ++ ((s.canQueue.filter fun o => outPort o == p.val).map fun o => s.formNow o) ∧
        Raises s t .CAN_BUS_RECOVERED (siteCan p) 0 [f8 p.val, f16 (s.get (CAN_PORT.BUS_OFF_COUNT p))]) ∧
    (s.portsReady = true → s.nat (CAN_PORT.BUS_STATE p) = 3 → Gives (.canRejoin p) s fun t =>
      t.nat (CAN_PORT.BUS_STATE p) = 0 ∧
      (s.flag (CAN_MAY p) = true →
        Raises s t .CAN_BUS_RECOVERED (siteCan p) 0 [f8 p.val, f16 (s.get (CAN_PORT.BUS_OFF_COUNT p))])) ∧
    (let every := s.nat (inForce (PRODUCER_HEARTBEAT_TIME.TIME x))
     s.canPortOf x = some p.val → s.canOnBus p = true → s.isNode x = true → every ≠ 0 → s.nat (NMT_STATE x) ≠ 0 →
      s.nat (HB_AT x) + 1000 * every ≤ s.time → Gives (.heartbeatSend x) s fun t =>
        t.out = s.out ++ [.can p (0x700 + s.nodeId x) .classical (leBytes 1 (s.nodeCode x))] ∧ t.nat (HB_AT x) = s.time) ∧
    (s.canOnBus p = true → s.canPortOf x = some p.val → s.isNode x = true → node = 0 ∨ s.nodeId x = node → s.nat (NMT_STATE x) ≠ 0 →
      Gives (.nmtStart p node) s (fun t => t.nat (NMT_STATE x) = 2) ∧
      Gives (.nmtStop p node) s (fun t => t.nat (NMT_STATE x) = 3) ∧
      Gives (.nmtEnterPreoperational p node) s (fun t => t.nat (NMT_STATE x) = 1) ∧
      Gives (.nmtResetCommunication p node) s (fun t =>
        t.nat (NMT_STATE x) = 1 ∧ Out.can p (0x700 + s.nodeId x) .classical [0] ∈ t.out) ∧
      Gives (.nmtResetNode p node) s (fun t => t.resetPending x = true ∧ t.flag (NMT_BOOT x) = true)) ∧
    (s.tpdoActive q = true → s.canOnBus (q.val / 64) = true → s.tpdoInhibited q = false →
      let sent := s.out ++ [.can (q.val / 64) (s.nat (TPDO_COMM.COB_ID q) % 2 ^ 30) (s.fdForm (q.val / 64)) (s.blob (PDO_DATA q))]
      (254 ≤ s.nat (TPDO_COMM.TRANSMISSION_TYPE q) → s.nat (TPDO_COMM.EVENT_TIMER q) ≠ 0 →
        s.nat (PDO_EVT q) + 1000 * s.nat (TPDO_COMM.EVENT_TIMER q) ≤ s.time → Gives (.tpdoEventTimer q) s fun t =>
          t.out = sent ∧ t.nat (PDO_EVT q) = s.time ∧ t.nat (PDO_AT q) = s.time + 1) ∧
      (s.flag (PDO_DUE q) = true → Gives (.tpdoInhibitEnd q) s fun t => t.out = sent ∧ t.flag (PDO_DUE q) = false)) ∧
    (s.canOnBus p = true →
      (s.flag (CAN_PORT.TIME_ACCEPT p) = false →
        Gives (.timeReceived p ms days) s fun t => Leaves [one (CAN_PORT.RX_FRAMES p)] [] s t) ∧
      (s.flag (CAN_PORT.TIME_ACCEPT p) = true → days < 5844 ∨ 86400000 ≤ ms → Gives (.timeReceived p ms days) s fun t =>
        Raises s t .TIME_REFUSED (siteCan p) 0 [f8 p.val, f16 days]) ∧
      (s.flag (CAN_PORT.TIME_ACCEPT p) = true → 5844 ≤ days → ms < 86400000 → Gives (.timeReceived p ms days) s fun t =>
        t.rtcCount = (((days - 5844) * 86400 + ms / 1000) * 32768 + ms % 1000 * 32768 / 1000) % 2 ^ 55 ∧
        t.nat RTC.SET_SOURCE = 2 + p.val ∧ t.nat RTC.LAST_SET_STAMP = s.stamp ∧ t.rtcFlag TFLAG.UNTRUSTED = s.flag OSC_OFF))) ∧
  (∀ (p : CanPort) (x : Tenant) (r : Fin 64) (addr : Nat) (data : List Byte) (write last : Bool) (s : State),
    (s.canPortOf x = some p.val → s.endpointUp (.can p (s.nodeId x)) = true →
      let u := s.accessArrives (.can p (s.nodeId x))
      (s.flag (USDO_OPEN x) = false → u.readCheck (some x.val) .plain addr = none →
        Gives (.usdoRequest x true false true addr data) s fun t => t.resp = .data (u.readBytes x addr)) ∧
      (∀ a, s.flag (USDO_OPEN x) = false → u.readCheck (some x.val) .plain addr = some a →
        Gives (.usdoRequest x true false true addr data) s fun t =>
          t.resp = .abort a.code ∧ t.nat (LAST_ACCESS.LAST_ABORT x) = a.code ∧ t.nat (LAST_ACCESS.LAST_ABORT_ADDRESS x) = addr ∧
          t.nat (LAST_ACCESS.ABORT_COUNT x) = (s.nat (LAST_ACCESS.ABORT_COUNT x) + 1) % 2 ^ 32) ∧
      (s.flag (USDO_OPEN x) = false → Gives (.usdoRequest x true true false addr data) s fun t =>
        t.resp = .done ∧ t.nat (USDO_OPEN x) = addr + 1 ∧ t.nat (USDO_AT x) = s.time ∧ t.blob (USDO_DATA x) = data) ∧
      (s.flag (USDO_OPEN x) = false → Gives (.usdoRequest x false write last addr data) s fun t => t.resp = .abort 0x05040001) ∧
      (s.flag (USDO_OPEN x) = true → s.flag (USDO_WRITES x) = true →
        Gives (.usdoRequest x false write false addr data) s fun t =>
          t.resp = .done ∧ t.nat (USDO_AT x) = s.time ∧ t.blob (USDO_DATA x) = s.blob (USDO_DATA x) ++ data) ∧
      (s.flag (USDO_OPEN x) = true → Gives (.usdoRequest x true write last addr data) s fun t =>
        t.resp = .abort 0x08000022 ∧ t.flag (USDO_OPEN x) = true)) ∧
    (s.portsReady = true → s.flag (USDO_OPEN x) = true → s.nat (USDO_AT x) + 1000000 ≤ s.time → Gives (.usdoSessionTimeout x) s fun t =>
      t.flag (USDO_OPEN x) = false ∧ t.resp = .abort 0x05040000) ∧
    (let l := s.mapping (RPDO_MAP.ENTRY r 0)
     let need := ((l.map fun e => e.2 % 256).sum + 7) / 8
     let u := s.wrapCount (CAN_PORT.RX_FRAMES (r.val / 32)) 32
     let o := s.rpdoOwner r
     s.rpdoActive r = true →
      (data.length < need → Gives (.rpdoReceived r data) s fun t =>
        t.nat (CAN_PORT.PDO_ERRORS (r.val / 32)) = satTo 0xFFFF (s.nat (CAN_PORT.PDO_ERRORS (r.val / 32)) + 1) ∧
        Raises s t .PDO_LENGTH_ERROR (siteCan (r.val / 32)) o [f8 (r.val / 32 : Nat), f8 (r.val % 32 : Nat), f16 data.length]) ∧
      (need ≤ data.length → s.nat (RPDO_COMM.TRANSMISSION_TYPE r) < 254 → Gives (.rpdoReceived r data) s fun t =>
        t.blob (RPDO_HELD r) = data ∧ t.flag (RPDO_HAS r) = true) ∧
      (need ≤ data.length → 254 ≤ s.nat (RPDO_COMM.TRANSMISSION_TYPE r) →
        (∀ a b e, State.rpdoFailure o (splitMapping l data) u = some (a, b, e) → Gives (.rpdoReceived r data) s fun t =>
          t.nat (CAN_PORT.PDO_ERRORS (r.val / 32)) = satTo 0xFFFF (s.nat (CAN_PORT.PDO_ERRORS (r.val / 32)) + 1) ∧
          t.landing = s.landing ∧ t.staged = s.staged ∧
          Raises s t .PDO_WRITE_REFUSED (siteCan (r.val / 32)) o [f8 (r.val / 32 : Nat), f8 (r.val % 32 : Nat), f32 e.code]) ∧
        (∀ k b row, splitMapping l data = [(k, b)] → subAt k = some row → row.cls = .immediate → row.acc ≠ .wo →
          row.ty.isString = false → u.writeCheck (some o) .plain k b = none → u.valueCheck o k (row.ty.decode b) b = none →
          u.stateCheck o k row (row.ty.decode b) = none → Gives (.rpdoReceived r data) s fun t =>
            t.get k = row.ty.decode b ∧ Lands s t o (.value k (row.ty.decode b))))))

/-- R376 to R382: PCI Express. PCIE_PERST_N takes the link down and resets every function; a function level reset resets one, while the
link is up; a change of the link is counted and raised. A transfer ends with its outcome, its length and its bytes in BAR2; a write
of k to a ring head pops at most k of the oldest records of that ring; and a BAR0 read of a peak starts the peak anew. -/
def Obligations.PcieFunctions : Prop :=
  ∀ (f : Func) (x : Tenant) (addr off len i k q link speed masters payload : Nat) (data : List Byte) (n : Chan) (volt : Bool)
    (s : State),
    (s.flag PERST_LOW = false → s.pcieOn = true → Gives (.pciePerst true) s fun t =>
      t.flag PERST_LOW = true ∧ t.nat PCIE_PORT.LINK_STATE = 0 ∧ t.bit PCIE_PORT.BUS_MASTER f = false ∧
      t.nat (PT_RESULT f) = 0 ∧ t.blob (PT_BUF f) = [] ∧
      t.nat PCIE_PORT.PERSTS = satTo 0xFFFF (s.nat PCIE_PORT.PERSTS + 1) ∧
      Raises s t .PCIE_FUNCTION_RESET (siteFunction f) 0 [f8 f.val, f8 0]) ∧
    (Gives (.pciePerst false) s fun t => t.flag PERST_LOW = false) ∧
    (s.pcieUp = true → Gives (.functionLevelReset f) s fun t =>
      t.bit PCIE_PORT.BUS_MASTER f = false ∧ t.nat PCIE_PORT.FLRS = satTo 0xFFFF (s.nat PCIE_PORT.FLRS + 1) ∧
      t.nat PCIE_PORT.LINK_STATE = 2 ∧ Raises s t .PCIE_FUNCTION_RESET (siteFunction f) 0 [f8 f.val, f8 1]) ∧
    (let st := min link 2
     let rate := if link = 2 then max 1 (min speed (s.nat PCIE_PORT.MAX_SPEED)) else 0
     s.pcieOn = true → s.flag PERST_LOW = false → Gives (.pcieLinkChanged link speed masters payload) s fun t =>
      t.nat PCIE_PORT.LINK_STATE = st ∧ t.nat PCIE_PORT.LINK_SPEED = rate ∧
      (link = 2 → t.nat PCIE_PORT.BUS_MASTER = masters % 16) ∧
      (s.nat PCIE_PORT.LINK_STATE = 2 → st = 0 →
        t.nat PCIE_PORT.LINK_DOWNS = satTo 0xFFFF (s.nat PCIE_PORT.LINK_DOWNS + 1)) ∧
      (s.nat PCIE_PORT.LINK_STATE ≠ st →
        Raises s t .PCIE_LINK_CHANGED (siteFunction 0) 0 [f8 st, f8 rate])) ∧
    (s.endpointUp (.pcie f) = true → s.tenantAt (.pcie f) = some x.val →
      (s.nat (PT_RESULT f) / 2 ^ 56 ≠ 1 → 1 ≤ len → len ≤ 4096 →
        let u := s.setN (PT_ADDR f) (addr % 2 ^ 24 + off % 2 ^ 32 * 2 ^ 32)
        (u.readCheck (some x.val) .plain addr = none → Gives (.transferRead f addr off len) s fun t =>
          let v := ((u.readBytes x addr).drop off).take len
          t.nat (PT_RESULT f) = 2 * 2 ^ 56 + v.length * 2 ^ 32 ∧ t.blob (PT_BUF f) = putAtStart 4096 (s.blob (PT_BUF f)) v) ∧
        (∀ a, u.readCheck (some x.val) .plain addr = some a → Gives (.transferRead f addr off len) s fun t =>
          t.nat (PT_RESULT f) = 3 * 2 ^ 56 + a.code ∧ t.nat (LAST_ACCESS.LAST_ABORT x) = a.code)) ∧
      (s.nat (PT_RESULT f) / 2 ^ 56 = 1 → Gives (.transferRead f addr off len) s fun t =>
        t.nat (PT_RESULT f) = s.nat (PT_RESULT f) ∧ t.nat (LAST_ACCESS.LAST_ABORT x) = Abort.deviceState.code) ∧
      (let buf := putAtStart 4096 (s.blob (PT_BUF f)) data
       let u := (s.setBlob (PT_BUF f) buf).setN (PT_ADDR f) (addr % 2 ^ 24)
       let h : HeldWrite := ⟨.pcie f, .window, addr, (padTo 4096 buf).take len⟩
       s.nat (PT_RESULT f) / 2 ^ 56 ≠ 1 → 1 ≤ len → len ≤ 4096 → u.mustWait h = false → (∀ y ∈ s.heldWrites, y.ep ≠ .pcie f) →
        Gives (.transferWrite f addr len data) s fun t =>
          t.nat (PT_RESULT f) = (match (u.writeBy (some x.val) .plain addr h.data).1 with
            | none => 2 * 2 ^ 56 + h.data.length * 2 ^ 32
            | some a => 3 * 2 ^ 56 + a.code) ∧ t.resp = .silent) ∧
      (i < 2048 → (s.rangeOf x)[i]? = some q → q < 8192 → s.mayPop x q = true → 1 ≤ k → k ≤ 32 →
        Gives (.ringHeadPop f i k) s fun t =>
          t.blob (POP_BUF f) = putAtStart 1024 (s.blob (POP_BUF f)) ((s.popped q k).flatMap Record.bytes) ∧
          t.nat (POP_RESULT f) % 2 ^ 32 = (q + (s.popped q k).length * 2 ^ 16) % 2 ^ 32 ∧
          (s.nat (OVF_DROPS q) = 0 → t.ringRecs q = (s.ringRecs q).drop (s.popped q k).length)) ∧
      (i < 2048 → (s.rangeOf x)[i]? = some q → s.mayPop x q = true → k = 0 → Gives (.ringHeadPop f i k) s fun t =>
        t.rings = s.rings ∧ t.nat (LAST_ACCESS.LAST_ABORT x) = Abort.tooLow.code) ∧
      (let key := if volt then CHANNEL_STATUS.V_PEAK n 0 else CHANNEL_STATUS.I_PEAK n 0
       s.readCheck (some x.val) .plain key = none → Gives (.peakRead f n volt) s fun t =>
        t.resp = .data (slotBytes key (s.readBytes x key)) ∧
        t.get (if volt then CHANNEL_STATUS.V_PEAK n x else CHANNEL_STATUS.I_PEAK n x) = notAvailable .i32))

/-- R383 to R386, R391, R392: the frames of SPI and of the two-wire target. A complete request with its right CRC and a LEN in its range
is carried out and answered; a wrong CRC is counted and answered with STATUS 1, a wrong LEN with 4. A broken frame and a conflict of
chip selects only count. A two-wire host fetches the response that its endpoint holds, once. -/
def Obligations.SerialFrames : Prop :=
  ∀ (ep : Endpoint) (x : Tenant) (addr len off crc a : Nat) (data : List Byte) (s : State),
    let u := s.accessArrives ep
    let buf := padTo 4096 (s.blob (FRAME_BUF (endpointCode ep)))
    (s.frameUp ep = true → s.tenantAt ep = some x.val →
      (crc16 (requestBytes 1 addr len []) = crc → 1 ≤ len → len ≤ 1024 → u.readCheck (some x.val) .plain addr = none →
        Gives (.read ep addr len crc) s fun t =>
          let v := readCut addr 0 len (u.readBytes x addr)
          Responds t ep 0 (leBytes 2 v.length ++ v)) ∧
      (crc16 (requestBytes 3 addr len (leBytes 4 off)) = crc → 1 ≤ len → len ≤ 1024 →
        u.readCheck (some x.val) .plain addr = none → Gives (.readAt ep addr len off crc) s fun t =>
          let v := readCut addr off len (u.readBytes x addr)
          Responds t ep 0 (leBytes 2 v.length ++ v)) ∧
      (crc16 (requestBytes 2 addr data.length data) = crc → 1 ≤ data.length → data.length ≤ 1024 →
        u.mustWait ⟨ep, .object, addr, data⟩ = false → (∀ y ∈ s.heldWrites, y.ep ≠ ep) → Gives (.write ep addr data crc) s fun t =>
          match (u.writeBy (some x.val) .plain addr data).1 with
          | none => Responds t ep 0 []
          | some e => Responds t ep 3 (leBytes 4 e.code) ∧ t.nat (LAST_ACCESS.LAST_ABORT x) = e.code) ∧
      (crc16 (requestBytes 4 off data.length data) = crc → 1 ≤ data.length → data.length ≤ 1024 → off + data.length ≤ 4096 →
        Gives (.load ep off data crc) s fun t =>
          t.blob (FRAME_BUF (endpointCode ep)) = buf.take off ++ data ++ buf.drop (off + data.length) ∧ Responds t ep 0 []) ∧
      (crc16 (requestBytes 5 addr len []) = crc → 1 ≤ len → len ≤ 4096 →
        u.mustWait ⟨ep, .object, addr, buf.take len⟩ = false → (∀ y ∈ s.heldWrites, y.ep ≠ ep) →
        Gives (.writeBuffer ep addr len crc) s fun t =>
          match (u.writeBy (some x.val) .plain addr (buf.take len)).1 with
          | none => Responds t ep 0 []
          | some e => Responds t ep 3 (leBytes 4 e.code)) ∧
      (crc16 (requestBytes 1 addr len []) ≠ crc → Gives (.read ep addr len crc) s fun t =>
        Responds t ep 1 [] ∧ t.landing = s.landing ∧
        (match ep with
         | .spi _ => t.nat SPI_PORT.CRC_ERRORS = satTo 0xFFFFFFFF (s.nat SPI_PORT.CRC_ERRORS + 1)
         | _ => t.nat TWO_WIRE_STATUS.CRC_ERRORS = satTo 0xFFFFFFFF (s.nat TWO_WIRE_STATUS.CRC_ERRORS + 1))) ∧
      (crc16 (requestBytes 1 addr len []) = crc → len = 0 ∨ 1024 < len → Gives (.read ep addr len crc) s fun t => Responds t ep 4 []) ∧
      (Gives (.brokenFrame ep) s fun t => match ep with
        | .spi _ => t.nat SPI_PORT.BROKEN_FRAMES = satTo 0xFFFFFFFF (s.nat SPI_PORT.BROKEN_FRAMES + 1)
        | _ => t.nat TWO_WIRE_STATUS.BROKEN_FRAMES = satTo 0xFFFFFFFF (s.nat TWO_WIRE_STATUS.BROKEN_FRAMES + 1))) ∧
    (s.portsReady = true → Gives .csConflict s fun t =>
      t.nat SPI_PORT.CS_CONFLICTS = satTo 0xFFFF (s.nat SPI_PORT.CS_CONFLICTS + 1) ∧ Leaves [one SPI_PORT.CS_CONFLICTS] [] s t) ∧
    (s.endpointUp (.twoWire a) = true →
      (s.blob (FRAME_RESP (a % 256)) = [] → Gives (.responseFetch a) s fun t => t.resp = .frame (responseBytes 5 [])) ∧
      (∀ st b, s.blob (FRAME_RESP (a % 256)) = st :: b → Gives (.responseFetch a) s fun t =>
        t.resp = .frame (responseBytes st.toNat b) ∧ t.blob (FRAME_RESP (a % 256)) = []))

/-- R388, R396 to R401: the two-wire bus as controller. TRANSFER_START begins a transfer as it lands; its end, a lost arbitration, a low
clock and a stuck data line give it its result, counted and raised; an in-band request has its attention byte read at once, or
after the transfer in progress. CLOCK_LOW and DATA_LOW clear as the lines rise. -/
def Obligations.TwoWireController : Prop :=
  ∀ (result written byte target pulses u : Nat) (sent : Option Nat) (data : List Byte) (s : State),
    (s.twIdle = false → s.flag TWO_WIRE_STATUS.BUS_FLAGS = false → Gives (.transferDone result written data) s fun t =>
      let n := (s.blob TW_DATA).length
      let r := if result = 3 ∨ result = 4 then result else 2
      let w := if result = 3 ∨ result = 4 then min written n else n
      let b := if result = 3 ∨ result = 4 then [] else padTo (s.nat TW_READ) data
      t.nat CONTROLLER_TRANSFER.TRANSFER_RESULT = r ∧ t.blob CONTROLLER_TRANSFER.READ_DATA = b ∧
      t.nat CONTROLLER_TRANSFER.NACK_INDEX = (if result = 4 then w else 0) ∧
      t.nat TWO_WIRE_STATUS.BUS_STATE = 0 ∧ Raises s t .TRANSFER_DONE siteTwoWire 0 [f8 r, f16 w, f16 b.length]) ∧
    (s.twIdle = true → exec (.transferDone result written data) s = .next s) ∧
    (s.twIdle = false → Gives (.arbitrationLost sent written) s fun t =>
      t.nat TWO_WIRE_STATUS.ARB_LOSSES = satTo 0xFFFF (s.nat TWO_WIRE_STATUS.ARB_LOSSES + 1) ∧
      (s.nat TW_LEFT = 0 → t.nat CONTROLLER_TRANSFER.TRANSFER_RESULT = 5) ∧
      (s.nat TW_LEFT ≠ 0 → t.nat CONTROLLER_TRANSFER.TRANSFER_RESULT = 1 ∧ t.nat TW_LEFT = s.nat TW_LEFT - 1 ∧
        t.out = s.out ++ [.twoWire (s.nat TW_ADDR) (s.blob TW_DATA) (s.nat TW_READ)]) ∧
      Raises s t .ARBITRATION_LOST siteTwoWire 0
        [f16 (s.get TW_ADDR), f8 (s.nat TW_LEFT), f8 (bitOf (sent.any fun a => s.twAnswers a))]) ∧
    (s.portsReady = true → s.bit TWO_WIRE_STATUS.BUS_FLAGS 0 = false → Gives (.clockLowTimeout target written) s fun t =>
      t.bit TWO_WIRE_STATUS.BUS_FLAGS 0 = true ∧ t.nat TWO_WIRE_STATUS.BUS_STATE = 1 ∧
      t.nat TWO_WIRE_STATUS.CLOCK_LOW_EVENTS = satTo 0xFFFF (s.nat TWO_WIRE_STATUS.CLOCK_LOW_EVENTS + 1) ∧
      (s.twIdle = false → t.nat CONTROLLER_TRANSFER.TRANSFER_RESULT = 6) ∧
      (target ≠ 0 → t.blob (FRAME_RESP target) = []) ∧
      Raises s t .CLOCK_LOW_TIMEOUT siteTwoWire 0
        [f8 (if !s.twIdle then 2 else if target ≠ 0 then 3 else 1), f8 (t.get CONTROLLER_TRANSFER.TRANSFER_RESULT)]) ∧
    (s.bit TWO_WIRE_STATUS.BUS_FLAGS 0 = true → Gives .clockLowClear s fun t =>
      t.bit TWO_WIRE_STATUS.BUS_FLAGS 0 = false ∧ t.nat TWO_WIRE_STATUS.BUS_STATE = 1) ∧
    (s.portsReady = true → s.twRole ≠ 0 → Gives (.inbandRequest byte) s fun t =>
      t.nat TWO_WIRE_STATUS.REQUESTS = satTo 0xFFFF (s.nat TWO_WIRE_STATUS.REQUESTS + 1) ∧
      (let at_ := s.nat TWO_WIRE_BUS.ATTENTION_ADDRESS
       at_ ≠ 0 → (s.twIdle = false → t.blob TW_ATTENTION = s.blob TW_ATTENTION ++ [BitVec.ofNat 8 (byte % 256)]) ∧
        (s.twIdle = true → s.landing = [] → t.nat TWO_WIRE_STATUS.LAST_ATTENTION = byte % 256 ∧
          t.out = s.out ++ [.twoWire at_ [] 1] ∧ Raises s t .INBAND_REQUEST siteTwoWire 0 [f8 (byte % 256 : Nat)]))) ∧
    (s.twRole = 0 → exec (.inbandRequest byte) s = .next s) ∧
    (s.portsReady = true → s.bit TWO_WIRE_STATUS.BUS_FLAGS 1 = false → Gives (.dataLowTimeout pulses written) s fun t =>
      let cleared := s.twRole != 0 && decide (pulses ≤ 9)
      t.bit TWO_WIRE_STATUS.BUS_FLAGS 1 = !cleared ∧
      t.nat TWO_WIRE_STATUS.DATA_LOW_EVENTS = satTo 0xFFFF (s.nat TWO_WIRE_STATUS.DATA_LOW_EVENTS + 1) ∧
      (s.twIdle = false → t.nat CONTROLLER_TRANSFER.TRANSFER_RESULT = 7) ∧
      Raises s t .DATA_LOW_TIMEOUT siteTwoWire 0
        [f8 (bitOf cleared), f8 (if s.twRole = 0 then 0 else (min pulses 9 : Nat))]) ∧
    (Gives .dataLowClear s fun t => t.bit TWO_WIRE_STATUS.BUS_FLAGS 1 = false) ∧
    (s.twIdle = true → s.twRole ≠ 0 →
      let t := s.landAction u CONTROLLER_TRANSFER.TRANSFER_START 0xA5
      t.nat CONTROLLER_TRANSFER.TRANSFER_RESULT = 1 ∧ t.nat TWO_WIRE_STATUS.BUS_STATE = 2 ∧
      t.out = s.out ++ [.twoWire (s.nat (inForce CONTROLLER_TRANSFER.TRANSFER_ADDRESS))
        (s.blob (inForce CONTROLLER_TRANSFER.WRITE_DATA)) (s.nat (inForce CONTROLLER_TRANSFER.READ_LENGTH))])

/-! ### Housekeeping and temperature (chapters 17 and 18) -/

/-- R410, R411: what a trigger does, be it a write to TRIGGER, the period or the end of a run of the sequence that TRIGGER_CHAIN names.
Without a run in progress it starts one at FIRST_ENTRY. During a run it is latched, one deep: the latched run starts at the end of
the present one. Each further trigger is dropped and counted, and the end of a run that dropped some raises ADC_OVERRUN once, with
their number for that run. -/
def Obligations.TriggersAreLatchedOneDeep : Prop :=
  ∀ (q r : Seq) (ep : Endpoint) (u : Nat) (s : State), s.hkOn = true → s.nat (HK_SEQUENCE.MODE q) = 2 →
    (s.nat (HK_SEQUENCE.TRIGGER_SOURCE q) = 0 →
      Accepts s ep u .object (HK_SEQUENCE.TRIGGER q) 0xA5 (bytesOf (HK_SEQUENCE.TRIGGER q) 0xA5) → s.barrierEnd u = none → Triggers (.trigger ep q) s q) ∧
    (s.nat (HK_SEQUENCE.TRIGGER_SOURCE q) = 1 → s.time = s.nat LAST_BOUNDARY →
      s.frameNumber % s.nat (HK_SEQUENCE.TRIGGER_PERIOD q) = 0 → s.nat (HK_TRIG q) ≠ s.frame + 1 →
      Triggers (.hkPeriodTrigger q) s q) ∧
    (s.nat (HK_SEQUENCE.TRIGGER_SOURCE q) = 2 → s.nat (HK_SEQUENCE.TRIGGER_CHAIN q) = r.val → r ≠ q →
      s.nat (HK_SEQUENCE.MODE r) = 2 → s.hkRuns r = true → s.nat (HK_SEQUENCE.LAST_ENTRY r) < s.hkEntry r →
      Triggers (.hkRunEnd r) s q) ∧
    (s.hkRuns q = true → s.nat (HK_SEQUENCE.LAST_ENTRY q) < s.hkEntry q → Gives (.hkRunEnd q) s fun t =>
      t.nat (HK_SEQUENCE.RUNS q) = (s.nat (HK_SEQUENCE.RUNS q) + 1) % 2 ^ 32 ∧ t.nat (HK_DROPS q) = 0 ∧
      (s.flag (HK_LATCH q) = true → t.hkRuns q = true ∧ t.hkEntry q = s.nat (HK_SEQUENCE.FIRST_ENTRY q)) ∧
      (s.flag (HK_LATCH q) = false → (∀ x : Seq, s.nat (HK_SEQUENCE.TRIGGER_SOURCE x) ≠ 2) → t.hkRuns q = false) ∧
      (s.get (HK_DROPS q) ≠ 0 →
        t.collector = s.collector ++ [⟨s.stamp, siteSequence q, .ADC_OVERRUN, 0, 0, [f8 q.val, f32 (s.get (HK_DROPS q))], false⟩]) ∧
      (s.get (HK_DROPS q) = 0 → t.collector = s.collector))

/-- R404, R405, R408, R410, R412: conversions and passes. A conversion adds its code to the pass of its entry, and at its end the entry
gives way where an urgent one is due. The pass of REPEAT conversions ends with RAW and VALUE, stamped as the last of them, and the
entry is not stale; an injected pass publishes neither, and marks the entry open at its limit, and stale with it. While an entry is
open its VALUE holds, until a clean pass that follows an injected one below the lower limit. A looping sequence starts over. -/
def Obligations.ConversionsAndPasses : Prop :=
  ∀ (q : Seq) (e : Entry) (code : Nat) (s : State), s.hkOn = true → s.hkRuns q = true →
    (s.hkDue q = true → s.flag (HK_PRE q) = false → s.nat (HK_DELAY q) ≤ s.time → s.hkEntry q = e.val →
      s.nat (HK_DONE e) < s.nat (HK_ENTRY.REPEAT e) → Gives (.hkConversionEnd q code) s fun t =>
        t.nat (HK_DONE e) = s.nat (HK_DONE e) + 1 ∧ t.get (HK_SUM e) = s.get (HK_SUM e) + s.hkCode e (min code 65535) ∧
        t.nat (HK_LAST e) = s.stamp ∧ t.nat HK_ADC.CONVERSIONS = (s.nat HK_ADC.CONVERSIONS + 1) % 2 ^ 64 ∧
        t.flag (HK_PRE q) = s.hkYields q) ∧
    (let rep := s.nat (HK_ENTRY.REPEAT e)
     let sum := s.get (HK_SUM e)
     let x := hkRound (s.hkSigned e) sum rep
     let wasOpen := s.bit (HK_ENTRY.ENTRY_STATUS e) 1
     s.hkDue q = true → s.hkEntry q = e.val → rep ≤ s.nat (HK_DONE e) → Gives (.hkPassEnd q) s fun t =>
      t.hkEntry q = e.val + 1 ∧ t.nat (HK_PASS_AT e) = s.time ∧
      t.flag (HK_INJECT e) = (s.bit (HK_ENTRY.ENTRY_FLAGS e) 1 && !s.flag (HK_INJECT e)) ∧
      (s.flag (HK_INJECT e) = false →
        t.nat (HK_ENTRY.RAW e) = s.hkRaw e sum rep ∧ t.nat (HK_ENTRY.RESULT_STAMP e) = s.nat (HK_LAST e) ∧
        (wasOpen = false ∨ s.flag (HK_OK e) = true →
          t.hkStale e = false ∧ t.bit (HK_ENTRY.ENTRY_STATUS e) 1 = false ∧
          t.bit (HK_ENTRY.ENTRY_STATUS e) 3 = (s.hkValue e sum rep).2 ∧
          (-2147483648 ≤ (s.hkValue e sum rep).1 → (s.hkValue e sum rep).1 ≤ 2147483647 →
            t.get (HK_ENTRY.VALUE e) = (s.hkValue e sum rep).1)) ∧
        (wasOpen = true → s.flag (HK_OK e) = true →
          Raises s t .SENSOR_RESTORED (siteEntry e) 0 [f8 e.val, f32 (t.get (HK_ENTRY.VALUE e))]) ∧
        (wasOpen = true → s.flag (HK_OK e) = false →
          t.get (HK_ENTRY.VALUE e) = s.get (HK_ENTRY.VALUE e) ∧ t.hkStale e = s.hkStale e)) ∧
      (s.flag (HK_INJECT e) = true →
        t.nat (HK_ENTRY.RAW e) = s.nat (HK_ENTRY.RAW e) ∧ t.get (HK_ENTRY.VALUE e) = s.get (HK_ENTRY.VALUE e) ∧
        t.flag (HK_OK e) = decide (x < (s.hkThreshold e).2) ∧
        ((s.hkThreshold e).1 ≤ x → wasOpen = false →
          t.bit (HK_ENTRY.ENTRY_STATUS e) 1 = true ∧ t.hkStale e = true ∧
          Raises s t .SENSOR_OPEN (siteEntry e) 0 [f8 e.val, f16 (unsignedOf 2 x), f32 (s.get (HK_ENTRY.VALUE e))]) ∧
        (x < (s.hkThreshold e).1 → t.nat (HK_ENTRY.ENTRY_STATUS e) = s.nat (HK_ENTRY.ENTRY_STATUS e)))) ∧
    (s.nat (HK_SEQUENCE.LAST_ENTRY q) < s.hkEntry q → s.nat (HK_SEQUENCE.MODE q) ≠ 2 →
      Gives (.hkRunEnd q) s fun t => t.hkRuns q = true ∧ t.hkEntry q = s.nat (HK_SEQUENCE.FIRST_ENTRY q) ∧
        t.nat (HK_SEQUENCE.RUNS q) = (s.nat (HK_SEQUENCE.RUNS q) + 1) % 2 ^ 32)

/-- R407, R413: an entry whose last pass ended more than 1,000 ms ago becomes stale, once in an episode, and not before. The eight
house conversions give the supplies their values, with the flag of VBAT above 58 V, and a faulty reference is raised; an entry on
their converter that they interrupt serves its delay again. -/
def Obligations.StaleEntriesAndHouseConversions : Prop :=
  ∀ (q : Seq) (e : Entry) (vbat vh vcore vio v18 vbk : Int) (faults : List (Fin 2 × Nat)) (s : State), s.live = true →
    (s.nat (HK_PASS_AT e) ≠ 0 → s.nat (HK_PASS_AT e) + 1000000 < s.time → s.hkStale e = false →
      Gives (.entryStale e) s fun t =>
        t.hkStale e = true ∧ t.get (HK_ENTRY.VALUE e) = s.get (HK_ENTRY.VALUE e) ∧
        Raises s t .ENTRY_STALE (siteEntry e) 0 [f8 e.val, f8 1]) ∧
    (s.time ≤ s.nat (HK_PASS_AT e) + 1000000 ∨ s.hkStale e = true → exec (.entryStale e) s = .next s) ∧
    (Gives (.houseConversion vbat vh vcore vio v18 vbk faults) s fun t =>
      t.get SUPPLY_STATUS.VBAT = vbat ∧ t.get SUPPLY_STATUS.VH = vh ∧ t.get SUPPLY_STATUS.VCORE = vcore ∧
      t.get SUPPLY_STATUS.VIO = vio ∧ t.get SUPPLY_STATUS.V18 = v18 ∧ t.get SUPPLY_STATUS.VBK = vbk ∧
      t.nat HK_ADC.CONVERSIONS = (s.nat HK_ADC.CONVERSIONS + 8) % 2 ^ 64 ∧
      t.bit SUPPLY_STATUS.SUPPLY_FLAGS 0 = decide (580000 < vbat) ∧
      (s.hkDue q = true → s.flag (HK_PRE q) = false → s.nat (HK_SEQUENCE.CONVERTER q) ≠ 0 →
        t.nat (HK_DELAY q) = s.time + s.nat (HK_ENTRY.DELAY (s.hkEntry q))) ∧
      ∀ f ∈ faults, Raises s t .HK_CALIBRATION_FAULT (0x0E000000 + f.1.val * 0x400000) 0 [f8 f.1.val, f16 f.2])

/-- R416 to R421, R424: temperatures. A sample is the sensor's result, in range or not; one outside -60 to 200 °C fails the sensor. The
state of the die follows from its maximum; while every sensor has failed, that of a channel die is never below THROTTLED, and CX
is held to the lowest level. A channel die that
enters SHUTDOWN turns its channels off, but for the anchored ones. The floor of CX steps while CX is throttled, and back. -/
def Obligations.Temperatures : Prop :=
  ∀ (i : Sensor) (v : Int) (s : State),
    (s.nat DEV_STATE ≠ 3 → Gives (.tempSample i v) s fun t =>
      let d := sensorDie i
      let old := s.nat (THERMAL_DIE.DIE_STATE d)
      let new := if t.blind d then (if d = 0 then old else max old 2) else dieStateNext old (t.get (THERMAL_DIE.DIE_MAX d))
      t.get (sensorKey i) = clampInt (-32767) 32767 v ∧ t.bit (THERMAL_DIE.FAST_SAMPLING d) (sensorPlace i) = nearLimit v ∧
      (v < -6000 ∨ 20000 < v → t.sensorFailed i = true) ∧
      t.nat (THERMAL_DIE.DIE_STATE d) = new ∧
      (old < 2 → 2 ≤ new → 1 ≤ d → DieRaises s t (d - 1) .THROTTLE_ENTERED (siteThermal d) 0
        [f8 d, f16 (t.get (THERMAL_DIE.DIE_MAX d)), f8 (s.get PERFORMANCE.THERMAL_FLOOR)]) ∧
      (old < 2 → 2 ≤ new → d = 0 → t.blind 0 = false →
        t.nat PERFORMANCE.THERMAL_FLOOR = min 3 (s.nat PERFORMANCE.THERMAL_FLOOR + 1)) ∧
      (d = 0 → t.blind 0 = true → t.nat PERFORMANCE.THERMAL_FLOOR = 3) ∧
      (old < 3 → new = 3 → 1 ≤ d → ∀ n, dieOf n = d - 1 → s.shutsOff n = true →
        t.cell n = ST.OFF ∧ t.nat (GATE n) = 4 ∧ t.nat (CHANNEL_CONFIG.REQUEST n) = 0)) ∧
    (s.nat DEV_STATE = 3 → exec (.tempSample i v) s = .next s) ∧
    (let f := s.nat PERFORMANCE.THERMAL_FLOOR
     s.live = true → s.blind 0 = false →
      (2 ≤ s.nat (THERMAL_DIE.DIE_STATE 0) → f < 3 → s.nat THR_STEP_AT + 10000 ≤ s.time → Gives .thermalFloorStep s fun t =>
        t.nat PERFORMANCE.THERMAL_FLOOR = f + 1 ∧ t.nat THR_STEP_AT = s.time) ∧
      (s.nat (THERMAL_DIE.DIE_STATE 0) < 2 → 0 < f → s.nat THR_STEP_AT + 100000 ≤ s.time → Gives .thermalFloorStep s fun t =>
        t.nat PERFORMANCE.THERMAL_FLOOR = f - 1 ∧ t.nat THR_STEP_AT = s.time))

/-! ### Watchdogs, the security engine and the loads (chapters 19, 21 and 22) -/

/-- R426, R427, R430, R431, R433: the closed half of a period begins at its middle. A period with a valid answer and none
that failed it is followed by the next, with no answer yet; any other expires the watchdog, and so does an adjournment
without a valid answer. A watchdog that is off is armed by ARM, with SEED and PERIOD, from the tick of its acceptance; in use
it refuses ARM. An answer in the closed half, and a second one, fail the period. ADJOURN begins an open window of its length. -/
def Obligations.Watchdogs : Prop :=
  (∀ (x : Tenant) (s : State),
    (s.nat (WATCHDOG.WD_STATE x) = 1 → s.nat (WD_AT x) + s.nat (WATCHDOG.PERIOD x) / 2 ≤ s.time → Gives (.watchdogClosedHalf x) s fun t =>
      t.flag (WD_CLOSED x) = true) ∧
    (s.wdJudged x = true → s.nat (WATCHDOG.WD_STATE x) = 1 → s.nat (WD_AT x) + s.nat (WATCHDOG.PERIOD x) ≤ s.time →
      (s.flag (WD_VALID x) = true → s.flag (WD_FAILED x) = false → Gives (.watchdogPeriodEnd x) s fun t =>
        t.nat (WATCHDOG.WD_STATE x) = 1 ∧ t.nat (WD_AT x) = s.nat (WD_AT x) + s.nat (WATCHDOG.PERIOD x) ∧
        t.nat (WATCHDOG.PERIOD_START x) = s.stampAt (s.nat (WD_AT x) + s.nat (WATCHDOG.PERIOD x)) ∧
        t.flag (WD_VALID x) = false ∧ t.flag (WD_CLOSED x) = false ∧ t.nat (WD_ANSWERS x) = 0) ∧
      (s.flag (WD_VALID x) = false ∨ s.flag (WD_FAILED x) = true → Gives (.watchdogPeriodEnd x) s fun t =>
        t.nat (WATCHDOG.WD_STATE x) = 3 ∧
        t.nat (WATCHDOG.EXPIRY_COUNT x) = satTo 0xFFFF (s.nat (WATCHDOG.EXPIRY_COUNT x) + 1) ∧
        Raises s t .WATCHDOG_EXPIRED (siteWd x) x
          [f8 x.val, f8 (if s.flag (WD_FAILED x) then 1 else 0), f32 (s.nat (WATCHDOG.ANSWER_COUNT x))])) ∧
    (s.wdJudged x = true → s.nat (WATCHDOG.WD_STATE x) = 2 → s.nat (WD_AT x) + s.nat (WD_LEN x) ≤ s.time →
      Gives (.adjournEnd x) s fun t =>
        t.nat (WATCHDOG.WD_STATE x) = 3 ∧
        t.nat (WATCHDOG.EXPIRY_COUNT x) = satTo 0xFFFF (s.nat (WATCHDOG.EXPIRY_COUNT x) + 1) ∧
        Raises s t .WATCHDOG_EXPIRED (siteWd x) x [f8 x.val, f8 2, f32 (s.nat (WATCHDOG.ANSWER_COUNT x))]) ∧
    (s.time < s.nat (WD_AT x) + s.nat (WD_LEN x) → exec (.adjournEnd x) s = .next s)) ∧
  (∀ (ep : Endpoint) (x : Tenant) (v : Nat) (s : State),
    (s.nat (WATCHDOG.WD_STATE x) = 0 → Accepts s ep x .object (WATCHDOG.ARM x) v (bytesOf (WATCHDOG.ARM x) v) →
      s.barrierEnd x = none → Gives (.watchdogArm ep x v) s fun t =>
        t.nat (WATCHDOG.WD_STATE x) = 1 ∧ t.nat (WATCHDOG.PERIOD x) = v % 2 ^ 32 ∧ t.nat (WD_SEED x) = v / 2 ^ 32 ∧
        t.nat (WD_AT x) = s.time ∧ t.nat (WATCHDOG.PERIOD_START x) = s.stamp ∧ t.nat (WATCHDOG.ANSWER_COUNT x) = 0 ∧
        t.nat (WATCHDOG.QUESTION x) < 2 ^ 32 ∧ Answered t ep ∧
        Raises s t .WATCHDOG_ARMED (siteWd x) x [f8 x.val, f32 (v % 2 ^ 32 : Nat)]) ∧
    (s.nat (WATCHDOG.WD_STATE x) = 3 → s.endpointUp ep = true → s.tenantAt ep = some x.val → s.inSession ep = none →
      s.heldWrites = [] → s.isKibitzer x = false → Gives (.watchdogArm ep x v) s fun t =>
        t.nat (WATCHDOG.WD_STATE x) = 3 ∧ t.nat (LAST_ACCESS.LAST_ABORT x) = Abort.readOnly.code ∧ Refused t .readOnly ep) ∧
    (s.nat (WATCHDOG.WD_STATE x) = 1 → s.wdAnswers x = true → s.flag (WD_CLOSED x) = true →
      s.time < s.nat (WD_AT x) + s.nat (WATCHDOG.PERIOD x) →
      Accepts s ep x .object (WATCHDOG.ANSWER x) v (bytesOf (WATCHDOG.ANSWER x) v) → Gives (.answer ep x v) s fun t =>
        t.flag (WD_FAILED x) = true ∧ Raises s t .WRONG_ANSWER (siteWd x) x [f8 x.val, f8 1] ∧ Refused t .deviceState ep) ∧
    (s.nat (WATCHDOG.WD_STATE x) = 1 → s.wdAnswers x = true → s.flag (WD_CLOSED x) = false → s.nat (WD_ANSWERS x) ≠ 0 →
      s.time < s.nat (WD_AT x) + s.nat (WATCHDOG.PERIOD x) / 2 →
      Accepts s ep x .object (WATCHDOG.ANSWER x) v (bytesOf (WATCHDOG.ANSWER x) v) → Gives (.answer ep x v) s fun t =>
        t.flag (WD_FAILED x) = true ∧ Raises s t .WRONG_ANSWER (siteWd x) x [f8 x.val, f8 2] ∧ Refused t .deviceState ep) ∧
    (s.time < s.nat (WD_AT x) + s.nat (WATCHDOG.PERIOD x) →
      Accepts s ep x .object (WATCHDOG.ADJOURN x) v (bytesOf (WATCHDOG.ADJOURN x) v) → s.barrierEnd x = none →
      Gives (.adjourn ep x v) s fun t =>
        t.nat (WATCHDOG.WD_STATE x) = 2 ∧ t.nat (WATCHDOG.ADJOURN_USED x) = 1 ∧ t.nat (WD_LEN x) = 1000 * v ∧
        t.nat (WD_AT x) = s.time ∧ Answered t ep ∧
        Raises s t .WATCHDOG_ADJOURNED (siteWd x) x [f8 x.val, f32 v, f16 (s.nat (TENANT_GENERATION.GEN_TN x))]))

/-- R456 to R459, R456, R459, R460, R462 to R464, R474: the engine finishes what is at the head of its queue: an attestation,
whose bytes 0 to 87 are those taken at its acceptance and are followed by a signature, or a session, whose counter starts at
0. A failed self-test of the random source ends both for good. At each millisecond of the tick the loads of the window are
published, and the window's counts start anew. The security objects. A challenge and a session opening wait for the engine; a
session closes at once. An envelope that fails a check is refused, counted and raised; one that passes spends its counter,
and its inner write or read is made as one of the tenant. -/
def Obligations.SecurityAndLoads : Prop :=
  (∀ (x : Tenant) (data : List Byte) (rest : List SignJob) (test : Nat) (s : State),
    (s.live = true → s.signing = ⟨x, false, data⟩ :: rest → Gives .attestationSigned s fun t =>
      t.signing = rest ∧ t.nat (ATTEST_CONTROL.ATTEST_STATE x) = 2 ∧
      t.nat SECURITY_STATUS.SIGNATURES = (s.nat SECURITY_STATUS.SIGNATURES + 1) % 2 ^ 32 ∧
      (t.blob (ATTEST_CONTROL.ATTESTATION x)).take data.length = data ∧
      (t.blob (ATTEST_CONTROL.ATTESTATION x)).length = data.length + 64 ∧
      Raises s t .ATTESTATION_SIGNED siteSecurity x [f8 x.val, f16 (ofLE ((data.drop 56).take 2))]) ∧
    (s.live = true → s.signing = ⟨x, true, data⟩ :: rest → Gives .sessionOpened s fun t =>
      t.signing = rest ∧ t.nat (SESSION_CONTROL.SESSION_STATE x) = 2 ∧ t.nat (SESSION_CONTROL.LAST_COUNTER x) = 0 ∧
      t.nat SECURITY_STATUS.SESSIONS_OPENED = (s.nat SECURITY_STATUS.SESSIONS_OPENED + 1) % 2 ^ 32 ∧
      t.nat (SESSION_ID x) < 2 ^ 32 ∧
      Raises s t .SESSION_OPENED siteSecurity x [f8 x.val, f32 (t.get (SESSION_ID x))]) ∧
    (Gives (.randomSourceFault test) s fun t =>
      t.nat SECURITY_STATUS.RANDOM_STATE = 1 ∧ t.signing = [] ∧ t.engineRefuses = true ∧
      t.nat (SESSION_CONTROL.SESSION_STATE x) ≠ 1 ∧ t.nat (ATTEST_CONTROL.ATTEST_STATE x) ≠ 1 ∧
      Raises s t .RANDOM_SOURCE_FAULT siteSecurity 0 [f8 test]) ∧
    (s.live = true → s.clockAt s.time % 1000 = 0 → s.nat LOAD_AT ≠ s.time + 1 → Gives .loadWindowEnd s fun t =>
      t.nat LOAD_MONITOR.FABRIC_LOAD = satTo 0xFFFF s.fabricLoad ∧ t.nat LOAD_MONITOR.ACCESS_LOAD = s.accessLoad ∧
      t.nat LOAD_MONITOR.FABRIC_LOAD_PEAK = max (s.nat LOAD_MONITOR.FABRIC_LOAD_PEAK) (satTo 0xFFFF s.fabricLoad) ∧
      t.nat LOAD_MONITOR.ACCESS_LOAD_PEAK = max (s.nat LOAD_MONITOR.ACCESS_LOAD_PEAK) s.accessLoad ∧
      t.nat LOAD_ACCESS = 0 ∧
      (9900 < s.fabricLoad → s.pauseOver OVERLOAD_AT = true →
        ∃ drops, Raises s t .FABRIC_OVERLOAD 0x0200C000 0 [f16 (satTo 0xFFFF s.fabricLoad), f32 drops]) ∧
      (9900 ≤ s.accessLoad → s.pauseOver SATURATED_AT = true →
        ∃ level, Raises s t .ACCESS_SATURATED siteServer 0 [f16 s.accessLoad, f8 level]))) ∧
  (∀ (ep : Endpoint) (x : Tenant) (data : List Byte) (c : Nat) (s : State),
    let accepts := fun (addr : Nat) => Accepts s ep x .object addr 0 data
    (ActsNow (.attestChallenge ep data) s ep x (ATTEST_CONTROL.ATTEST_CHALLENGE 0) 0 data fun t =>
      t.nat (ATTEST_CONTROL.ATTEST_STATE x) = 1 ∧ t.signing = s.signing ++ [⟨x, false, s.attestFields x data⟩]) ∧
    (ActsNow (.sessionOpen ep data) s ep x (SESSION_CONTROL.SESSION_OPEN 0) 0 data fun t =>
      t.nat (SESSION_CONTROL.SESSION_STATE x) = 1 ∧
      t.signing = (s.signing.filter fun j => !(j.session && j.tenant == x.val)) ++ [⟨x, true, data⟩]) ∧
    (let addr := SESSION_CONTROL.SESSION_CLOSE 0
     ActsNow (.sessionClose ep) s ep x addr 0xA5 (bytesOf addr 0xA5) fun t =>
      t.nat (SESSION_CONTROL.SESSION_STATE x) = 0 ∧ t.blob (KEY_HD x) = [] ∧ t.blob (KEY_DH x) = [] ∧
      (s.nat (SESSION_CONTROL.SESSION_STATE x) = 2 → Raises s t .SESSION_CLOSED siteSecurity x [f8 x.val, f8 0])) ∧
    (accepts (SESSION_CONTROL.AUTH_WRITE 0) → s.resetPending x = false →
      s.envelopeFailure x data (data.length == 17 + envLength data && 1 ≤ envLength data && envLength data ≤ 1024) = some c →
      Gives (.authWrite ep data) s fun t =>
        t.landing = s.landing ∧ t.staged = s.staged ∧ Refused t .notPermitted ep ∧
        t.nat (LAST_ACCESS.LAST_ABORT x) = Abort.notPermitted.code ∧
        t.nat SECURITY_STATUS.AUTH_FAILED_TOTAL = satTo 0xFFFFFFFF (s.nat SECURITY_STATUS.AUTH_FAILED_TOTAL + 1) ∧
        Raises s t .AUTH_FAILED siteSecurity x [f8 x.val, f8 c, f32 (envCounter data)]) ∧
    (let w := (s.accessArrives ep).envelopePasses x data
     let k := envAddress data
     let b := envValue data
     (accepts (SESSION_CONTROL.AUTH_WRITE 0) → s.resetPending x = false → envCounter data ≠ 0xFFFFFFFF →
      s.envelopeFailure x data (data.length == 17 + envLength data && 1 ≤ envLength data && envLength data ≤ 1024) = none →
      ∀ row, subAt k = some row → row.cls = .immediate → row.acc ≠ .wo → row.ty.isString = false →
        w.writeCheck (some x.val) .envelope k b = none → w.valueCheck x k (row.ty.decode b) b = none →
        w.stateCheck x k row (row.ty.decode b) = none → Gives (.authWrite ep data) s fun t =>
          t.nat (SESSION_CONTROL.LAST_COUNTER x) = envCounter data ∧ t.nat (SESSION_CONTROL.AUTH_FAILURES x) = 0 ∧
          t.get k = row.ty.decode b ∧ Lands s t x (.value k (row.ty.decode b)) ∧ Answered t ep) ∧
     (accepts (SESSION_CONTROL.AUTH_READ_REQUEST 0) → s.resetPending x = false → envCounter data ≠ 0xFFFFFFFF →
      s.envelopeFailure x data (data.length == 17 && 1 ≤ envLength data && envLength data ≤ 1024) = none →
      w.readCheck (some x.val) .envelope k = none → Gives (.authReadRequest ep data) s fun t =>
        let v := (w.readBytes x k).take (envLength data)
        let body := data.take 7 ++ leBytes 4 0 ++ leBytes 2 v.length ++ v
        t.nat (SESSION_CONTROL.LAST_COUNTER x) = envCounter data ∧ Answered t ep ∧
        t.blob (SESSION_CONTROL.AUTH_READ_REPLY x) = body ++ cmac (s.blob (KEY_DH x)) (leInt 4 (s.get (SESSION_ID x)) ++ body))))

/-! ### What a host writes (chapters 1 to 4, 15) -/

/-- R33 to R35, R38, R95: a class I value that a host writes reads back at once and waits for the boundary where it lands; nothing else
of the device changes with its acceptance. So it is for REQUEST, FORCE, ENABLE, the battery switch's MODE, CHARGE_ENABLE, POWER_MODE,
DEVICE_HOLD, and RUN and TAIL of a stream, as an object write or through a doorbell. -/
def Obligations.ValuesWaitForTheirBoundary : Prop :=
  ∀ (ep : Endpoint) (u : Nat) (n : Chan) (r : Rso) (m : Conv) (d : StreamId) (v : Nat) (bell : Bool) (s : State),
    let value := fun (c : Instr) (addr : Nat) (v : Int) => WritesValue c s ep u .object addr v (bytesOf addr v)
    value (.requestOff ep n) (CHANNEL_CONFIG.REQUEST n) 0 ∧ value (.requestOn ep n) (CHANNEL_CONFIG.REQUEST n) 1 ∧
    value (.requestPwm ep n) (CHANNEL_CONFIG.REQUEST n) 2 ∧
    value (.rsoForceAssert ep r) (RESET_OUTPUT.FORCE r) 1 ∧ value (.rsoForceRelease ep r) (RESET_OUTPUT.FORCE r) 0 ∧
    value (.enableOn ep m) (CONVERTER.ENABLE m) 1 ∧ value (.enableOff ep m) (CONVERTER.ENABLE m) 0 ∧
    value (.switchModeOpen ep) BATTERY_SWITCH.MODE 0 ∧ value (.switchModeIdealDiode ep) BATTERY_SWITCH.MODE 1 ∧
    value (.switchModeClosed ep) BATTERY_SWITCH.MODE 2 ∧
    value (.chargeEnableOn ep) CHARGER.CHARGE_ENABLE 1 ∧ value (.chargeEnableOff ep) CHARGER.CHARGE_ENABLE 0 ∧
    value (.powerModeRun ep) POWER_STATE.POWER_MODE 0 ∧ value (.powerModeHold ep) POWER_STATE.POWER_MODE 1 ∧
    value (.deviceHoldSet ep) EVENT_FABRIC.DEVICE_HOLD 1 ∧ value (.deviceHoldClear ep) EVENT_FABRIC.DEVICE_HOLD 0 ∧
    value (.streamRun ep d) (STREAM.RUN d) 1 ∧ value (.streamStop ep d) (STREAM.RUN d) 0 ∧
    WritesValue (.tailWrite ep d v bell) s ep u (if bell then .bell else .object) (STREAM.TAIL d) v (leBytes 2 v)

/-- R34, R38, R503: an action that a host writes waits for the boundary where it lands, and changes nothing before. So it is for
CLEAR_LOCKOUT, RELEASE_STANDING, COUNTER_CLEAR, CAPTURE_ARM, SWAP_REQUEST, the commands of the plans, TRUMP_RELEASE, SHIP_ARM, the
assist port, BATTERY_REPLACED, DEVICE_RESET, JOURNAL_ACK, OPENING_RESUME, PARK, WAKE_CLEAR, TRANSFER_START and PON_COMMAND.
OPENING_RESUME carries what then comes of the step as free values (log entry 20). -/
def Obligations.ActionsWaitForTheirBoundary : Prop :=
  ∀ (ep : Endpoint) (u : Nat) (n : Chan) (x : Tenant) (d : Die) (p : Pair) (g : Fin 2) (b : Bool) (v : Nat) (s : State),
    let action := fun (c : Instr) (addr : Nat) (v : Int) => WritesAction c s ep u addr v
    action (.clearLockout ep n) (CHANNEL_CONFIG.CLEAR_LOCKOUT n) 0xA5 ∧
    action (.releaseStanding ep n) (CHANNEL_CONFIG.RELEASE_STANDING n) 0xA5 ∧
    action (.counterClear ep n) (CHANNEL_SUPERVISION.COUNTER_CLEAR n) 0xA5 ∧
    action (.captureArm ep d) (BANK.CAPTURE_ARM (8 * d.val)) 0xA5 ∧
    action (.swapRequest ep p b) (CASTLING_PAIR.SWAP_REQUEST p) (bitOf b) ∧
    action (.planStart ep g) (ofPlan g OPENING_PLAN.START) 0xA5 ∧ action (.planAbort ep g) (ofPlan g OPENING_PLAN.ABORT) 0xA5 ∧
    action (.resolveSkip ep g v) (ofPlan g OPENING_PLAN.RESOLVE) (v % 256 : Nat) ∧
    action (.resolveRetry ep g v) (ofPlan g OPENING_PLAN.RESOLVE) (256 + v % 256 : Nat) ∧
    action (.trumpRelease ep x v) (TENANT.TRUMP_RELEASE x) v ∧
    action (.shipArm ep) SHIP_CONTROL.SHIP_ARM 0xA5 ∧ action (.shipCancel ep) SHIP_CONTROL.SHIP_ARM 0x5A ∧
    action (.assistStart ep) ASSIST_PORT.ASSIST_START 0xA5 ∧ action (.assistStop ep) ASSIST_PORT.ASSIST_STOP 0xA5 ∧
    action (.batteryReplaced ep) BATTERY_RECORD.BATTERY_REPLACED 0xA5 ∧
    action (.deviceResetControlDie ep) RESET_CONTROL.DEVICE_RESET 0xA5 ∧
    action (.deviceResetFull ep) RESET_CONTROL.DEVICE_RESET 0x5A ∧
    action (.journalAck ep) OPENING_STATUS.JOURNAL_ACK 0xA5 ∧ action (.park ep) POWER_STATE.PARK 0xA5 ∧
    action (.wakeClear ep v) WAKE_CONFIG.WAKE_CLEAR v ∧ action (.transferStart ep) CONTROLLER_TRANSFER.TRANSFER_START 0xA5 ∧
    action (.ponAssert ep) PON_CONTROL.PON_COMMAND 0xA5 ∧ action (.ponRelease ep) PON_CONTROL.PON_COMMAND 0x5A ∧
    (let addr := OPENING_STATUS.OPENING_RESUME
     Accepts s ep u .object addr 0xA5 (bytesOf addr 0xA5) → Gives (.openingResume ep) s fun t =>
      (∃ w : Nat, w < 2 ^ 64 ∧ Lands s t u (.action addr (0xA5 + 256 * w))) ∧ Answered t ep ∧
        Leaves (one LOAD_ACCESS :: portKeys ep) [.landing, .resp, .free] s t)

/-- R33, R34, R36, R174, R360: a class S value that a host writes is staged, in the place of one staged before; one beyond
the room is refused as "staging full". A write of the level view stages the fields of the window that it stands for, or is
refused. A write that fails a check changes nothing but the record of its failure: ABORT_COUNT, the abort code and the
address of the tenant, and the port answers with the outcome. (A write to a watchdog first lets what has come due for it
happen; see Watchdogs.) -/
def Obligations.StagedAndRefusedWrites : Prop :=
  (∀ (ep : Endpoint) (u : Nat) (addr : Nat) (data : List Byte) (row : Sub) (n : Chan) (sub : Fin 4) (v : Int) (s : State),
    (subAt addr = some row → row.cls = .staged → row.acc ≠ .wo → Accepts s ep u .object addr (row.ty.decode data) data →
      ¬(0x3600 ≤ addr / 256 ∧ addr / 256 < 0x3800 ∧ 0x0C ≤ addr % 256 ∧ addr % 256 ≤ 0x0F) →
      (s.stagingFull u addr = false → Gives (.objectWrite ep addr data) s fun t =>
        (⟨u, addr, row.ty.decode data, (heldDie addr).isNone⟩ : Staged) ∈ t.staged ∧
        ((∀ y ∈ s.stagedOf u, y.key ≠ addr) → t.staged.length = s.staged.length + 1) ∧
        ((∃ y ∈ s.stagedOf u, y.key = addr) → t.staged.length = s.staged.length) ∧
        Answered t ep ∧ Leaves (one LOAD_ACCESS :: portKeys ep) [.staged, .resp] s t) ∧
      (s.stagingFull u addr = true → Gives (.objectWrite ep addr data) s fun t =>
        t.staged = s.staged ∧ Refused t .stagingFull ep ∧ t.nat (LAST_ACCESS.LAST_ABORT u) = Abort.stagingFull.code)) ∧
    (let addr := CHANNEL_SUPERVISION.UV_LEVEL n + 10 + sub.val
     let r := (s.accessArrives ep).writeLevelView u n (12 + sub.val) v
     Accepts s ep u .object addr v (bytesOf addr v) → Gives (.levelViewWrite ep n sub v) s fun t =>
      t.staged = r.2.staged ∧
      (r.1 = none → Answered t ep) ∧
      (∀ a, r.1 = some a → t.staged = s.staged ∧ Refused t a ep ∧ t.nat (LAST_ACCESS.LAST_ABORT u) = a.code))) ∧
  (∀ (ep : Endpoint) (u addr : Nat) (data : List Byte) (a : Abort) (s : State),
    let w := s.accessArrives ep
    s.endpointUp ep = true → s.tenantAt ep = some u → s.inSession ep = none → frameLengthBad ep data.length = false →
      slotTooSmall ep .object addr = false → fitsSlot ep data.length = true → w.mustWait ⟨ep, .object, addr, data⟩ = false → (∀ y ∈ s.heldWrites, y.ep ≠ ep) →
      ¬(0x2600 ≤ addr / 256 ∧ addr / 256 < 0x2610) → w.writeCheck (some u) .plain addr data = some a →
      Gives (.objectWrite ep addr data) s fun t =>
        t.nat (LAST_ACCESS.ABORT_COUNT u) = (s.nat (LAST_ACCESS.ABORT_COUNT u) + 1) % 2 ^ 32 ∧
        t.nat (LAST_ACCESS.LAST_ABORT u) = a.code ∧ t.nat (LAST_ACCESS.LAST_ABORT_ADDRESS u) = addr ∧ Refused t a ep ∧
        Leaves (one (LAST_ACCESS.ABORT_COUNT u) :: one (LAST_ACCESS.LAST_ABORT u) :: one (LAST_ACCESS.LAST_ABORT_ADDRESS u) ::
          portKeys ep) [.resp] s t)

/-- R39, R47, R55, R80, R315, R340, R342, R344, R345, R443: what acts as a host's write is accepted. COMMIT is checked, rejected where one
is in progress, and waits behind an open barrier; DISCARD empties the staging; a barrier closes at once where nothing is before it, and else with the last of what is;
a tenant reset is pending; a query is answered; a flush empties its ring; an ARM arms its target; HOLD and a fence begin, and the
clock is set; these wait too where a barrier is open. -/
def Obligations.ActsAtAcceptance : Prop :=
  ∀ (ep : Endpoint) (x y : Tenant) (q : RingId) (g : TargetId) (v : Nat) (s : State),
    let act := fun (c : Instr) (addr : Nat) (v : Int) (P : State → Prop) =>
      Accepts s ep x .object addr v (bytesOf addr v) → Gives c s fun t => Answered t ep ∧ P t
    let now := fun (c : Instr) (addr : Nat) (v : Int) (P : State → Prop) => ActsNow c s ep x addr v (bytesOf addr v) P
    (s.committing x = false → s.commitBusy x = false → s.barrierEnd x = none →
      act (.commit ep v) (COMMIT_CONTROL.COMMIT 0) v fun t =>
        (∀ r a, s.commitFailure x v = some (r, a) →
          t.nat (COMMIT_CONTROL.STATUS x) = 6 ∧ t.nat (COMMIT_CONTROL.LAST_REASON x) = r ∧
          t.nat (COMMIT_CONTROL.LAST_OBJECT x) = a ∧ t.landing = s.landing ∧ (r ≠ CR.CANCELLED → t.staged = s.staged) ∧
          Raises s t .COMMIT_REJECTED siteServer x [f8 r, f32 a]) ∧
        (s.commitFailure x v = none → s.allAcked x = false →
          t.nat (COMMIT_CONTROL.STATUS x) = 2 ∧ t.nat (CM_STAGE_END x) = s.frame + 2) ∧
        (s.commitFailure x v = none → s.allAcked x = true → v.testBit 24 = false →
          t.nat (COMMIT_CONTROL.STATUS x) = 3 ∧
          (⟨x.val, s.frame + 2, s.time, .commit (s.stagedValues x), false⟩ : Landing) ∈ t.landing) ∧
        (s.commitFailure x v = none → s.allAcked x = true → v.testBit 24 = true →
          t.nat (COMMIT_CONTROL.STATUS x) = 4 ∧ t.landing = s.landing)) ∧
    (s.committing x = true → s.barrierEnd x = none → act (.commit ep v) (COMMIT_CONTROL.COMMIT 0) v fun t =>
      t.nat (COMMIT_CONTROL.STATUS x) = s.nat (COMMIT_CONTROL.STATUS x) ∧ t.landing = s.landing ∧
      Raises s t .COMMIT_REJECTED siteServer x [f8 1, f32 0]) ∧
    (s.barrierEnd x ≠ none → act (.commit ep v) (COMMIT_CONTROL.COMMIT 0) v fun t =>
      t.barriers = commitBehind x v s.barriers ∧ t.landing = s.landing ∧ t.staged = s.staged ∧
      (s.committing x = false → t.nat (COMMIT_CONTROL.STATUS x) = 1)) ∧
    (s.committing x = false → act (.discard ep) (COMMIT_CONTROL.DISCARD 0) 0xA5 fun t =>
      t.staged = (s.staged.filter fun z => z.tenant != x.val) ∧ t.landing = s.landing) ∧
    (let before := s.landing.filter fun l => l.tenant == x.val && landCounts l.act
     (before = [] → s.barrierEnd x = none → act (.barrierId ep v) (BARRIER.BARRIER_ID 0) v fun t =>
       t.nat (BARRIER.BARRIER_DONE x) = v ∧ t.barriers = s.barriers) ∧
     (∀ last, (before.map (·.due) ++ (s.barrierEnd x).toList).max? = some last → act (.barrierId ep v) (BARRIER.BARRIER_ID 0) v fun t =>
       t.nat (BARRIER.BARRIER_DONE x) = s.nat (BARRIER.BARRIER_DONE x) ∧ t.barriers = s.barriers ++ [⟨x, v, last, []⟩])) ∧
    (act (.tenantReset ep y) (TENANT.TENANT_RESET y) 0xA5 fun t => t.resetPending y = true) ∧
    (now (.queryKind ep v) (KIND_QUERY.QUERY_KIND 0) v fun t => t.nat (KIND_QUERY.QUERY_RESULT x) = s.queryKind v) ∧
    (now (.flush ep q) (RING.FLUSH q) 0xA5 fun t => t.ringRecs q = [] ∧ t.nat (OVF_DROPS q) = 0) ∧
    (now (.arm ep g) (TARGET.ARM g) 0xA5 fun t =>
      (s.tgPending g = 0 ∨ s.flag (TARGET.ENABLE g) = false ∨ s.tgHeld g = true → t.tgBit g TFL.ARMED = true ∧ t.out = s.out) ∧
      (s.tgPending g ≠ 0 → s.flag (TARGET.ENABLE g) = true → s.tgHeld g = false →
        t.tgBit g TFL.ARMED = false ∧ t.tgBit g TFL.RAISED = true ∧
        t.nat (TARGET.RAISES g) = (s.nat (TARGET.RAISES g) + 1) % 2 ^ 32)) ∧
    (now (.hold ep) (HOLD_CONTROL.HOLD 0) 0xA5 fun t =>
      t.flag (HOLD_STATE.HOLD_TN x) = true ∧
      (s.flag (HOLD_STATE.HOLD_TN x) = false → Raises s t .HOLD_CHANGED (siteTarget (0x40 + x.val)) x [f8 x.val, f8 1])) ∧
    (now (.holdRelease ep) (HOLD_CONTROL.HOLD 0) 0x5A fun t =>
      t.flag (HOLD_STATE.HOLD_TN x) = false ∧
      (s.flag (HOLD_STATE.HOLD_TN x) = true → Raises s t .HOLD_CHANGED (siteTarget (0x40 + x.val)) x [f8 x.val, f8 0])) ∧
    (now (.fence ep v) (FENCE_CONTROL.FENCE 0) v fun t =>
      t.nat (FENCE_CONTROL.FENCE_STAMP x) = s.stamp ∧
      ∃ f : Fence, t.fences = s.fences ++ [f] ∧ f.tenant = x.val ∧ f.id = v ∧ f.stamp = s.stamp ∧
        ∀ k : Die, f.sources.contains k.val = (s.linkUp k && !s.dieStands k) ∧ f.excused.testBit k = !f.sources.contains k.val) ∧
    (now (.rtcSet ep v) RTC.RTC_SET v fun t =>
      t.rtcCount = v ∧ t.nat RTC.SET_SOURCE = 1 ∧ t.nat RTC.LAST_SET_STAMP = s.stamp ∧ t.rtcFlag TFLAG.UNTRUSTED = s.flag OSC_OFF)

/-- R339, R377: a pop through SPI, the two-wire bus or CAN returns at most 32 of the oldest records of a ring and removes them. Through a
BAR0 slot RECORDS reads the length, and nothing is removed. -/
def Obligations.Pops : Prop :=
  ∀ (ep : Endpoint) (x : Tenant) (q : RingId) (s : State),
    s.endpointUp ep = true → s.tenantAt ep = some x.val → s.inSession ep = none → s.mayPop x q = true →
      let b := (s.popped q 32).flatMap Record.bytes
      Gives (.pop ep q) s fun t => match ep with
        | .pcie _ => t.resp = .data (padTo 8 (leBytes 4 b.length)) ∧ t.rings = s.rings
        | .can _ _ => t.resp = .data b ∧ (s.nat (OVF_DROPS q) = 0 → t.ringRecs q = (s.ringRecs q).drop (s.popped q 32).length)
        | ep => Responds t ep 0 (leBytes 2 (b.take 1024).length ++ b.take 1024) ∧
          (s.nat (OVF_DROPS q) = 0 → t.ringRecs q = (s.ringRecs q).drop (s.popped q 32).length)

/-- R428: the token that answers a period is the CRC-32C over QUESTION, SEED and ANSWER_COUNT, four bytes of each in little-endian order,
with the count as it stands before the answer. In the open half, or in an adjournment, an answer with it is valid, counted after,
and any other is wrong. -/
def Obligations.AnswersAreTheCrcOfTheirPeriod : Prop :=
  ∀ (ep : Endpoint) (x : Tenant) (v : Nat) (s : State),
    let addr := WATCHDOG.ANSWER x
    let token := crc32c (leBytes 4 (s.nat (WATCHDOG.QUESTION x)) ++ leBytes 4 (s.nat (WD_SEED x)) ++
      leBytes 4 (s.nat (WATCHDOG.ANSWER_COUNT x)))
    Accepts s ep x .object addr v (bytesOf addr v) → s.wdAnswers x = true →
      (s.nat (WATCHDOG.WD_STATE x) = 1 → s.nat (WATCHDOG.PERIOD x) ≠ 0 →
        s.time < s.nat (WD_AT x) + s.nat (WATCHDOG.PERIOD x) / 2 → s.flag (WD_CLOSED x) = false → s.nat (WD_ANSWERS x) = 0 →
        (v = token → Gives (.answer ep x v) s fun t =>
          t.flag (WD_VALID x) = true ∧ t.nat (WATCHDOG.ANSWER_COUNT x) = (s.nat (WATCHDOG.ANSWER_COUNT x) + 1) % 2 ^ 32 ∧
          Answered t ep) ∧
        (v ≠ token → Gives (.answer ep x v) s fun t =>
          t.flag (WD_FAILED x) = true ∧ t.nat (WATCHDOG.ANSWER_COUNT x) = s.nat (WATCHDOG.ANSWER_COUNT x) ∧
          t.nat (WATCHDOG.WRONG_ANSWERS x) = satTo 0xFFFF (s.nat (WATCHDOG.WRONG_ANSWERS x) + 1) ∧
          Raises s t .WRONG_ANSWER (siteWd x) x [f8 x.val, f8 0] ∧ Refused t .outOfRange ep)) ∧
      (s.nat (WATCHDOG.WD_STATE x) = 2 → s.time < s.nat (WD_AT x) + s.nat (WD_LEN x) →
        (v = token → Gives (.answer ep x v) s fun t =>
          t.nat (WATCHDOG.WD_STATE x) = 1 ∧ t.nat (WD_AT x) = s.time ∧
          t.nat (WATCHDOG.ANSWER_COUNT x) = (s.nat (WATCHDOG.ANSWER_COUNT x) + 1) % 2 ^ 32 ∧ Answered t ep) ∧
        (v ≠ token → Gives (.answer ep x v) s fun t =>
          t.nat (WATCHDOG.WD_STATE x) = 3 ∧ Raises s t .WRONG_ANSWER (siteWd x) x [f8 x.val, f8 0] ∧ Refused t .outOfRange ep))

/-! ### What lands (chapters 2 to 6) -/

/-- R75, R76, R95, R96, R109, R117, R135, R140, R179: commands to a channel of a die with its logic on, as they land. REQUEST 0 turns a channel that conducts off
through the sink stage, and REQUEST 1 on one that is OFF asks for admission; stored only, in LOCKOUT and in STANDING. A command of
TN00 for a dealt channel is trump. CLEAR_LOCKOUT, RELEASE_STANDING and the arming of a capture act, and a clear of the counters. -/
def Obligations.ChannelCommandsLand : Prop :=
  ∀ (u due at_ : Nat) (n : Chan) (d : Die) (s : State), s.flag (LOGIC_OFF (dieOf n)) = false →
    let lands := fun (a : LandAct) => s.landOne ⟨u, due, at_, a, false⟩
    let request := fun (v : Nat) => lands (.value (CHANNEL_CONFIG.REQUEST n) v)
    (s.standing n = false → s.swapOf n = none →
      (s.conducts n = true → (request 0).cell n = ST.OFF ∧ (request 0).nat (GATE n) = 5 ∧ (request 0).waiting n = false) ∧
      (s.cell n = ST.OFF → s.waiting n = false → s.modelFlag n MFLAG.COOLING_WAIT = false → s.flag (STORED_WAIT n) = false →
        s.coolingOwed n = false → s.nat (THERMAL_DIE.DIE_STATE (dieOf n + 1)) ≠ 3 →
        (request 1).nat (ADMIT_KIND n) = 1 ∧ (request 1).chFlag n FLAG.WAITING_ADMISSION = true ∧ (request 1).cell n = ST.OFF ∧
        (request 1).nat (CHANNEL_PROTECTION.RETRIES_LEFT n) = s.nat (CHANNEL_PROTECTION.RETRY_COUNT n)) ∧
      (s.cell n = ST.ON → (request 2).cell n = ST.ON ∧ (request 2).nat (PEND n) = 2) ∧
      (s.cell n = ST.PWM → (request 1).cell n = ST.PWM ∧ (request 1).nat (PEND n) = 1) ∧
      (s.cell n = ST.LOCKOUT → ∀ v, (request v).cell n = ST.LOCKOUT)) ∧
    (s.standing n = true → s.swapOf n = none → ∀ v, (request v).cell n = s.cell n ∧ (request v).standing n = true ∧
      (request v).get (inForce (CHANNEL_CONFIG.REQUEST n)) = s.get (inForce (CHANNEL_CONFIG.REQUEST n))) ∧
    (s.standing n = false → ∀ v, (request v).nat (inForce (CHANNEL_CONFIG.REQUEST n)) = v) ∧
    (let x := s.holderOfChannel n
     u = 0 → x ≠ 0 → ∀ v < 3, s.swapOf n = none →
      (request v).bit (TENANT.TRUMP_HELD x (n.val / 64)) (n.val % 64) = true ∧
      Raises s (request v) .TRUMP_COMMAND (siteChannel n 0) x [f16 n.val, f16 (0x100 + v), f8 x]) ∧
    (let t := lands (.action (CHANNEL_CONFIG.CLEAR_LOCKOUT n) 0xA5)
     (s.standing n = false → s.cell n = ST.LOCKOUT → t.cell n = ST.OFF ∧ t.nat (CHANNEL_CONFIG.REQUEST n) = 0) ∧
     (s.standing n = true ∨ s.cell n ≠ ST.LOCKOUT → t.cell n = s.cell n)) ∧
    (let t := lands (.action (CHANNEL_CONFIG.RELEASE_STANDING n) 0xA5)
     (s.standing n = true → s.late = [] → t.standing n = false ∧
       (s.conducts n = true → s.nat (CHANNEL_CONFIG.REQUEST n) = 0 → t.cell n = ST.OFF) ∧
       (s.conducts n = false → s.nat (CHANNEL_CONFIG.REQUEST n) = 0 → t.conducts n = false) ∧
       Raises s t .STANDING_RELEASED (siteChannel n 0) (s.holderOfChannel n) [f16 n.val, f8 u, f8 (t.get (CHANNEL_STATUS.STATE n))]) ∧
     (s.standing n = false → t.cell n = s.cell n ∧ t.standing n = false)) ∧
    (let t := lands (.action (BANK.CAPTURE_ARM (8 * d.val)) 0xA5)
     t.nat (BANK.CAPTURE_STATE (8 * d.val)) = 1 ∧ t.blob (BANK.CAPTURE_DATA (8 * d.val)) = []) ∧
    (let t := lands (.action (CHANNEL_SUPERVISION.COUNTER_CLEAR n) 0xA5)
     t.nat (CHANNEL_SUPERVISION.HARD_TRIPS n) = 0 ∧ t.nat (CHANNEL_SUPERVISION.LIMIT_ENTRIES n) = 0 ∧
     t.nat (CHANNEL_SUPERVISION.MODEL_TRIPS n) = 0 ∧ t.nat (CHANNEL_SUPERVISION.TIMEOUT_TRIPS n) = 0 ∧
     t.nat (CHANNEL_SUPERVISION.RETRIES n) = 0 ∧ t.nat (CHANNEL_SUPERVISION.STARTS n) = 0 ∧
     t.nat (CHANNEL_SUPERVISION.UV_COUNT n) = 0 ∧ t.nat (CHANNEL_SUPERVISION.OV_COUNT n) = 0 ∧
     t.nat (CHANNEL_SUPERVISION.DISCHARGE_TIMEOUTS n) = 0)

/-- R76, R151, R152, R163, R166, R296: a swap begins where its conditions hold, and ends at once with result 4 where not. START,
ABORT and RESOLVE act on their plan, TRUMP_RELEASE ends trump for one channel, and WAKE_CLEAR clears latches of the backup domain. -/
def Obligations.PairsAndPlansLand : Prop :=
  ∀ (u due at_ : Nat) (p : Pair) (g b : Fin 2) (n : Chan) (x : Tenant) (i : Nat) (s : State),
    let lands := fun (addr : Nat) (v : Int) => s.landOne ⟨u, due, at_, .action addr v, false⟩
    (let A := s.nat (CASTLING_PAIR.CHANNEL_A p)
     let B := s.nat (CASTLING_PAIR.CHANNEL_B p)
     let inc := if b = 0 then A else B
     let out := if b = 0 then B else A
     let t := lands (CASTLING_PAIR.SWAP_REQUEST p) b.val
     let fits := s.pairUsed p = true ∧ s.nat (CASTLING_PAIR.SWAP_STATE p) = 0 ∧ s.standing out = false ∧
       (s.cell out = ST.ON ∨ s.cell out = ST.LIMIT) ∧ s.standing inc = false ∧ s.cell inc = ST.OFF ∧
       s.nat (inForce (CHANNEL_CONFIG.REQUEST inc)) = 0 ∧ s.coolingOwed inc = false
     (fits → t.nat (CASTLING_PAIR.SWAP_STATE p) = 1 ∧ t.swapIn p = inc ∧ t.swapOut p = out ∧
       t.nat (CHANNEL_CONFIG.REQUEST inc) = 1 ∧ t.nat (CASTLING_PAIR.ACTIVE p) = 1 - b.val ∧ t.cell out = s.cell out ∧
       (s.nat (THERMAL_DIE.DIE_STATE (dieOf inc + 1)) ≠ 3 → t.nat (ADMIT_KIND inc) = 3)) ∧
     (¬fits → t.nat (CASTLING_PAIR.SWAP_RESULT p) = 4 ∧ Leaves [one (CASTLING_PAIR.SWAP_RESULT p)] [] s t)) ∧
    (let count := s.nat (ofPlan g OPENING_PLAN.STEP_COUNT)
     s.planRuns 0 = false → s.planRuns 1 = false → count ≤ 128 →
      let t := lands (ofPlan g OPENING_PLAN.START) 0xA5
      t.nat (ofPlan g OPENING_PLAN.PLAN_STATE) = 1 ∧
      t.nat (ofPlan g OPENING_PLAN.RUNS) = satTo 0xFFFF (s.nat (ofPlan g OPENING_PLAN.RUNS) + 1) ∧
      (∀ j < count, t.stepState g (j + 1) = 0) ∧
      Raises s t .PLAN_STARTED (siteBlock 0x7F (g.val + 1) 0) 0
        [f8 (g.val + 1), f8 0, f16 (t.get (ofPlan g OPENING_PLAN.RUNS))]) ∧
    (let t := lands (ofPlan g OPENING_PLAN.ABORT) 0xA5
     (s.planRuns g = true → s.nat (ofPlan g OPENING_PLAN.STEP_COUNT) ≤ 128 →
       t.nat (ofPlan g OPENING_PLAN.PLAN_STATE) = 3 ∧ t.nat (ofPlan g OPENING_PLAN.RESULT) = 4) ∧
     (s.planRuns g = false → t = s)) ∧
    (1 ≤ i → i ≤ 128 → s.planRuns g = true → s.stepState g i = 5 →
      (lands (ofPlan g OPENING_PLAN.RESOLVE) i).stepState g i = 4 ∧
      (lands (ofPlan g OPENING_PLAN.RESOLVE) (256 + i)).stepState g i = 1) ∧
    (lands (TENANT.TRUMP_RELEASE x) n.val).trumpHeld n = false ∧
    (∀ mask : Nat, s.flag BACKUP_LOCKED = false → ∀ w, 8 ≤ w → w ≤ 10 → mask.testBit w = true →
      (lands WAKE_CONFIG.WAKE_CLEAR mask).bit WAKE_CONFIG.WAKE_LATCHED w = false)

/-- R43, R46, R53, R78, R80, R82: a committed set, a fold and a tenant reset as they land. A commit that does not change the deal gives
each of its values at once, empties the staging and advances the generations. A fold turns the channels of the hand OFF that do not
hold, but for those under trump. A tenant reset ends what the tenant has begun, and advances the generations. -/
def Obligations.CommitsFoldsAndResetsLand : Prop :=
  ∀ (x : Tenant) (due at_ src cause : Nat) (vals : List (Nat × Int)) (s : State),
    (let t := s.landOne ⟨x, due, at_, .commit vals, false⟩
     let gen := (s.nat (TENANT_GENERATION.GEN_TN x) + 1) % 2 ^ 16
     let all := (s.nat DEVICE_DIGEST.GLOBAL_GENERATION + 1) % 2 ^ 16
     (∀ v ∈ vals, ∃ row, subAt v.1 = some row ∧ row.cls = .staged ∧ row.acc ≠ .wo ∧ row.ty.isString = false ∧ isDealField v.1 = false) →
      (vals.map (·.1)).Pairwise (· ≠ ·) → (∀ d < 4, s.dieHears d = true) →
      t.nat (COMMIT_CONTROL.STATUS x) = 5 ∧ t.nat (COMMIT_CONTROL.APPLY_FRAME x) = s.frameNumber ∧
      t.nat (TENANT_GENERATION.GEN_TN x) = gen ∧ t.nat DEVICE_DIGEST.GLOBAL_GENERATION = all ∧ t.stagedOf x = [] ∧
      (∀ v ∈ vals, t.get v.1 = v.2) ∧
      Raises s t .COMMIT_APPLIED siteServer x [f16 gen, f16 all, f32 s.frameNumber]) ∧
    (let t := s.landOne ⟨x, due, at_, .fold cause, false⟩
     t.nat (TENANT.FOLD_COUNT x) = satTo 0xFFFF (s.nat (TENANT.FOLD_COUNT x) + 1) ∧ t.nat (TENANT.LAST_FOLD_CAUSE x) = cause ∧
     (∀ n < 512, s.holderOfChannel n = x → s.trumpHeld n = false → s.foldHold n = false → s.standing n = false →
       s.conducts n = true → s.swapOf n = none → s.dieHears (dieOf n) = true →
       t.cell n = ST.OFF ∧ t.nat (CHANNEL_CONFIG.REQUEST n) = 0) ∧
     ∃ off held, Raises s t .FOLD siteServer x [f8 x.val, f8 cause, f16 off, f16 held]) ∧
    (src < 256 → s.nat (TENANT.RING_BASE x) + s.nat (TENANT.RING_COUNT x) ≤ 8192 →
      (∀ d : StreamId, s.nat (STREAM.DESC_BASE d) + s.nat (STREAM.DESC_COUNT d) ≤ 1024) →
      let t := s.landOne ⟨x, due, at_, .tenantReset src, false⟩
      t.nat (TENANT_GENERATION.GEN_TN x) = (s.nat (TENANT_GENERATION.GEN_TN x) + 1) % 2 ^ 16 ∧
      t.nat DEVICE_DIGEST.GLOBAL_GENERATION = (s.nat DEVICE_DIGEST.GLOBAL_GENERATION + 1) % 2 ^ 16 ∧
      t.nat (TENANT.RESET_COUNT x) = satTo 0xFFFF (s.nat (TENANT.RESET_COUNT x) + 1) ∧
      t.nat (TENANT.LAST_RESET_SOURCE x) = src ∧ t.nat (WATCHDOG.WD_STATE x) = 0 ∧
      t.nat (SESSION_CONTROL.SESSION_STATE x) = 0 ∧ t.flag (HOLD_STATE.HOLD_TN x) = false ∧ t.stagedOf x = [])

/-! ### Frames -/

/-- What each command leaves unchanged: every register and byte string outside the families that Footprint.lean names for it, every
other part of the state that it does not name, and the queue. -/
def Obligations.CommandsLeaveTheRest : Prop :=
  ∀ (c : Instr) (s t : State), exec c s = .next t → Leaves (writesOf c) (touchesOf c) s t
end

