-- ==== Sys2Proof/Laws/State.lean ====
section
/-!
SUPPORT. The small lemmas of the state's updates: what each field is after each, and how the register file and the byte
strings read after a write. No later proof unfolds an update.
-/
namespace Sys2Proof.Machine

variable (s : State)

/-! ### One lemma per field and update -/

@[simp] theorem State.set_time (k : Nat) (v : Int) : (s.set k v).time = s.time := rfl
@[simp] theorem State.set_frame (k : Nat) (v : Int) : (s.set k v).frame = s.frame := rfl
@[simp] theorem State.set_blobs (k : Nat) (v : Int) : (s.set k v).blobs = s.blobs := rfl
@[simp] theorem State.set_landing (k : Nat) (v : Int) : (s.set k v).landing = s.landing := rfl
@[simp] theorem State.set_staged (k : Nat) (v : Int) : (s.set k v).staged = s.staged := rfl
@[simp] theorem State.set_barriers (k : Nat) (v : Int) : (s.set k v).barriers = s.barriers := rfl
@[simp] theorem State.set_heldWrites (k : Nat) (v : Int) : (s.set k v).heldWrites = s.heldWrites := rfl
@[simp] theorem State.set_late (k : Nat) (v : Int) : (s.set k v).late = s.late := rfl
@[simp] theorem State.set_canQueue (k : Nat) (v : Int) : (s.set k v).canQueue = s.canQueue := rfl
@[simp] theorem State.set_signing (k : Nat) (v : Int) : (s.set k v).signing = s.signing := rfl
@[simp] theorem State.set_dieMsgs (k : Nat) (v : Int) : (s.set k v).dieMsgs = s.dieMsgs := rfl
@[simp] theorem State.set_collector (k : Nat) (v : Int) : (s.set k v).collector = s.collector := rfl
@[simp] theorem State.set_placing (k : Nat) (v : Int) : (s.set k v).placing = s.placing := rfl
@[simp] theorem State.set_rings (k : Nat) (v : Int) : (s.set k v).rings = s.rings := rfl
@[simp] theorem State.set_fences (k : Nat) (v : Int) : (s.set k v).fences = s.fences := rfl
@[simp] theorem State.set_shadows (k : Nat) (v : Int) : (s.set k v).shadows = s.shadows := rfl
@[simp] theorem State.set_out (k : Nat) (v : Int) : (s.set k v).out = s.out := rfl
@[simp] theorem State.set_resp (k : Nat) (v : Int) : (s.set k v).resp = s.resp := rfl
@[simp] theorem State.set_free (k : Nat) (v : Int) : (s.set k v).free = s.free := rfl
@[simp] theorem State.set_pending (k : Nat) (v : Int) : (s.set k v).pending = s.pending := rfl

@[simp] theorem State.setN_time (k v : Nat) : (s.setN k v).time = s.time := rfl
@[simp] theorem State.setN_frame (k v : Nat) : (s.setN k v).frame = s.frame := rfl
@[simp] theorem State.setN_blobs (k v : Nat) : (s.setN k v).blobs = s.blobs := rfl
@[simp] theorem State.setN_landing (k v : Nat) : (s.setN k v).landing = s.landing := rfl
@[simp] theorem State.setN_staged (k v : Nat) : (s.setN k v).staged = s.staged := rfl
@[simp] theorem State.setN_barriers (k v : Nat) : (s.setN k v).barriers = s.barriers := rfl
@[simp] theorem State.setN_heldWrites (k v : Nat) : (s.setN k v).heldWrites = s.heldWrites := rfl
@[simp] theorem State.setN_late (k v : Nat) : (s.setN k v).late = s.late := rfl
@[simp] theorem State.setN_canQueue (k v : Nat) : (s.setN k v).canQueue = s.canQueue := rfl
@[simp] theorem State.setN_signing (k v : Nat) : (s.setN k v).signing = s.signing := rfl
@[simp] theorem State.setN_dieMsgs (k v : Nat) : (s.setN k v).dieMsgs = s.dieMsgs := rfl
@[simp] theorem State.setN_collector (k v : Nat) : (s.setN k v).collector = s.collector := rfl
@[simp] theorem State.setN_placing (k v : Nat) : (s.setN k v).placing = s.placing := rfl
@[simp] theorem State.setN_rings (k v : Nat) : (s.setN k v).rings = s.rings := rfl
@[simp] theorem State.setN_fences (k v : Nat) : (s.setN k v).fences = s.fences := rfl
@[simp] theorem State.setN_shadows (k v : Nat) : (s.setN k v).shadows = s.shadows := rfl
@[simp] theorem State.setN_out (k v : Nat) : (s.setN k v).out = s.out := rfl
@[simp] theorem State.setN_resp (k v : Nat) : (s.setN k v).resp = s.resp := rfl
@[simp] theorem State.setN_free (k v : Nat) : (s.setN k v).free = s.free := rfl
@[simp] theorem State.setN_pending (k v : Nat) : (s.setN k v).pending = s.pending := rfl

@[simp] theorem State.setBlob_time (k : Nat) (b : List Byte) : (s.setBlob k b).time = s.time := rfl
@[simp] theorem State.setBlob_frame (k : Nat) (b : List Byte) : (s.setBlob k b).frame = s.frame := rfl
@[simp] theorem State.setBlob_regs (k : Nat) (b : List Byte) : (s.setBlob k b).regs = s.regs := rfl
@[simp] theorem State.setBlob_landing (k : Nat) (b : List Byte) : (s.setBlob k b).landing = s.landing := rfl
@[simp] theorem State.setBlob_staged (k : Nat) (b : List Byte) : (s.setBlob k b).staged = s.staged := rfl
@[simp] theorem State.setBlob_barriers (k : Nat) (b : List Byte) : (s.setBlob k b).barriers = s.barriers := rfl
@[simp] theorem State.setBlob_heldWrites (k : Nat) (b : List Byte) : (s.setBlob k b).heldWrites = s.heldWrites := rfl
@[simp] theorem State.setBlob_late (k : Nat) (b : List Byte) : (s.setBlob k b).late = s.late := rfl
@[simp] theorem State.setBlob_canQueue (k : Nat) (b : List Byte) : (s.setBlob k b).canQueue = s.canQueue := rfl
@[simp] theorem State.setBlob_signing (k : Nat) (b : List Byte) : (s.setBlob k b).signing = s.signing := rfl
@[simp] theorem State.setBlob_dieMsgs (k : Nat) (b : List Byte) : (s.setBlob k b).dieMsgs = s.dieMsgs := rfl
@[simp] theorem State.setBlob_collector (k : Nat) (b : List Byte) : (s.setBlob k b).collector = s.collector := rfl
@[simp] theorem State.setBlob_placing (k : Nat) (b : List Byte) : (s.setBlob k b).placing = s.placing := rfl
@[simp] theorem State.setBlob_rings (k : Nat) (b : List Byte) : (s.setBlob k b).rings = s.rings := rfl
@[simp] theorem State.setBlob_fences (k : Nat) (b : List Byte) : (s.setBlob k b).fences = s.fences := rfl
@[simp] theorem State.setBlob_shadows (k : Nat) (b : List Byte) : (s.setBlob k b).shadows = s.shadows := rfl
@[simp] theorem State.setBlob_out (k : Nat) (b : List Byte) : (s.setBlob k b).out = s.out := rfl
@[simp] theorem State.setBlob_resp (k : Nat) (b : List Byte) : (s.setBlob k b).resp = s.resp := rfl
@[simp] theorem State.setBlob_free (k : Nat) (b : List Byte) : (s.setBlob k b).free = s.free := rfl
@[simp] theorem State.setBlob_pending (k : Nat) (b : List Byte) : (s.setBlob k b).pending = s.pending := rfl

@[simp] theorem State.land_time (t d : Nat) (a : LandAct) : (s.land t d a).time = s.time := rfl
@[simp] theorem State.land_frame (t d : Nat) (a : LandAct) : (s.land t d a).frame = s.frame := rfl
@[simp] theorem State.land_regs (t d : Nat) (a : LandAct) : (s.land t d a).regs = s.regs := rfl
@[simp] theorem State.land_blobs (t d : Nat) (a : LandAct) : (s.land t d a).blobs = s.blobs := rfl
@[simp] theorem State.land_staged (t d : Nat) (a : LandAct) : (s.land t d a).staged = s.staged := rfl
@[simp] theorem State.land_barriers (t d : Nat) (a : LandAct) : (s.land t d a).barriers = s.barriers := rfl
@[simp] theorem State.land_heldWrites (t d : Nat) (a : LandAct) : (s.land t d a).heldWrites = s.heldWrites := rfl
@[simp] theorem State.land_late (t d : Nat) (a : LandAct) : (s.land t d a).late = s.late := rfl
@[simp] theorem State.land_canQueue (t d : Nat) (a : LandAct) : (s.land t d a).canQueue = s.canQueue := rfl
@[simp] theorem State.land_signing (t d : Nat) (a : LandAct) : (s.land t d a).signing = s.signing := rfl
@[simp] theorem State.land_dieMsgs (t d : Nat) (a : LandAct) : (s.land t d a).dieMsgs = s.dieMsgs := rfl
@[simp] theorem State.land_collector (t d : Nat) (a : LandAct) : (s.land t d a).collector = s.collector := rfl
@[simp] theorem State.land_placing (t d : Nat) (a : LandAct) : (s.land t d a).placing = s.placing := rfl
@[simp] theorem State.land_rings (t d : Nat) (a : LandAct) : (s.land t d a).rings = s.rings := rfl
@[simp] theorem State.land_fences (t d : Nat) (a : LandAct) : (s.land t d a).fences = s.fences := rfl
@[simp] theorem State.land_shadows (t d : Nat) (a : LandAct) : (s.land t d a).shadows = s.shadows := rfl
@[simp] theorem State.land_out (t d : Nat) (a : LandAct) : (s.land t d a).out = s.out := rfl
@[simp] theorem State.land_resp (t d : Nat) (a : LandAct) : (s.land t d a).resp = s.resp := rfl
@[simp] theorem State.land_free (t d : Nat) (a : LandAct) : (s.land t d a).free = s.free := rfl
@[simp] theorem State.land_pending (t d : Nat) (a : LandAct) : (s.land t d a).pending = s.pending := rfl

@[simp] theorem State.emit_time (o : Out) : (s.emit o).time = s.time := rfl
@[simp] theorem State.emit_frame (o : Out) : (s.emit o).frame = s.frame := rfl
@[simp] theorem State.emit_regs (o : Out) : (s.emit o).regs = s.regs := rfl
@[simp] theorem State.emit_blobs (o : Out) : (s.emit o).blobs = s.blobs := rfl
@[simp] theorem State.emit_landing (o : Out) : (s.emit o).landing = s.landing := rfl
@[simp] theorem State.emit_staged (o : Out) : (s.emit o).staged = s.staged := rfl
@[simp] theorem State.emit_barriers (o : Out) : (s.emit o).barriers = s.barriers := rfl
@[simp] theorem State.emit_heldWrites (o : Out) : (s.emit o).heldWrites = s.heldWrites := rfl
@[simp] theorem State.emit_late (o : Out) : (s.emit o).late = s.late := rfl
@[simp] theorem State.emit_canQueue (o : Out) : (s.emit o).canQueue = s.canQueue := rfl
@[simp] theorem State.emit_signing (o : Out) : (s.emit o).signing = s.signing := rfl
@[simp] theorem State.emit_dieMsgs (o : Out) : (s.emit o).dieMsgs = s.dieMsgs := rfl
@[simp] theorem State.emit_collector (o : Out) : (s.emit o).collector = s.collector := rfl
@[simp] theorem State.emit_placing (o : Out) : (s.emit o).placing = s.placing := rfl
@[simp] theorem State.emit_rings (o : Out) : (s.emit o).rings = s.rings := rfl
@[simp] theorem State.emit_fences (o : Out) : (s.emit o).fences = s.fences := rfl
@[simp] theorem State.emit_shadows (o : Out) : (s.emit o).shadows = s.shadows := rfl
@[simp] theorem State.emit_resp (o : Out) : (s.emit o).resp = s.resp := rfl
@[simp] theorem State.emit_free (o : Out) : (s.emit o).free = s.free := rfl
@[simp] theorem State.emit_pending (o : Out) : (s.emit o).pending = s.pending := rfl

@[simp] theorem State.answer_time (r : Resp) : (s.answer r).time = s.time := rfl
@[simp] theorem State.answer_frame (r : Resp) : (s.answer r).frame = s.frame := rfl
@[simp] theorem State.answer_regs (r : Resp) : (s.answer r).regs = s.regs := rfl
@[simp] theorem State.answer_blobs (r : Resp) : (s.answer r).blobs = s.blobs := rfl
@[simp] theorem State.answer_landing (r : Resp) : (s.answer r).landing = s.landing := rfl
@[simp] theorem State.answer_staged (r : Resp) : (s.answer r).staged = s.staged := rfl
@[simp] theorem State.answer_barriers (r : Resp) : (s.answer r).barriers = s.barriers := rfl
@[simp] theorem State.answer_heldWrites (r : Resp) : (s.answer r).heldWrites = s.heldWrites := rfl
@[simp] theorem State.answer_late (r : Resp) : (s.answer r).late = s.late := rfl
@[simp] theorem State.answer_canQueue (r : Resp) : (s.answer r).canQueue = s.canQueue := rfl
@[simp] theorem State.answer_signing (r : Resp) : (s.answer r).signing = s.signing := rfl
@[simp] theorem State.answer_dieMsgs (r : Resp) : (s.answer r).dieMsgs = s.dieMsgs := rfl
@[simp] theorem State.answer_collector (r : Resp) : (s.answer r).collector = s.collector := rfl
@[simp] theorem State.answer_placing (r : Resp) : (s.answer r).placing = s.placing := rfl
@[simp] theorem State.answer_rings (r : Resp) : (s.answer r).rings = s.rings := rfl
@[simp] theorem State.answer_fences (r : Resp) : (s.answer r).fences = s.fences := rfl
@[simp] theorem State.answer_shadows (r : Resp) : (s.answer r).shadows = s.shadows := rfl
@[simp] theorem State.answer_out (r : Resp) : (s.answer r).out = s.out := rfl
@[simp] theorem State.answer_free (r : Resp) : (s.answer r).free = s.free := rfl
@[simp] theorem State.answer_pending (r : Resp) : (s.answer r).pending = s.pending := rfl

@[simp] theorem State.raise_time (k : Kind) (site t obj : Nat) (l : List (Nat × Int)) : (s.raise k site t obj l).time = s.time := rfl
@[simp] theorem State.raise_frame (k : Kind) (site t obj : Nat) (l : List (Nat × Int)) : (s.raise k site t obj l).frame = s.frame := rfl
@[simp] theorem State.raise_regs (k : Kind) (site t obj : Nat) (l : List (Nat × Int)) : (s.raise k site t obj l).regs = s.regs := rfl
@[simp] theorem State.raise_blobs (k : Kind) (site t obj : Nat) (l : List (Nat × Int)) : (s.raise k site t obj l).blobs = s.blobs := rfl
@[simp] theorem State.raise_landing (k : Kind) (site t obj : Nat) (l : List (Nat × Int)) : (s.raise k site t obj l).landing = s.landing := rfl
@[simp] theorem State.raise_staged (k : Kind) (site t obj : Nat) (l : List (Nat × Int)) : (s.raise k site t obj l).staged = s.staged := rfl
@[simp] theorem State.raise_barriers (k : Kind) (site t obj : Nat) (l : List (Nat × Int)) : (s.raise k site t obj l).barriers = s.barriers := rfl
@[simp] theorem State.raise_heldWrites (k : Kind) (site t obj : Nat) (l : List (Nat × Int)) : (s.raise k site t obj l).heldWrites = s.heldWrites := rfl
@[simp] theorem State.raise_late (k : Kind) (site t obj : Nat) (l : List (Nat × Int)) : (s.raise k site t obj l).late = s.late := rfl
@[simp] theorem State.raise_canQueue (k : Kind) (site t obj : Nat) (l : List (Nat × Int)) : (s.raise k site t obj l).canQueue = s.canQueue := rfl
@[simp] theorem State.raise_signing (k : Kind) (site t obj : Nat) (l : List (Nat × Int)) : (s.raise k site t obj l).signing = s.signing := rfl
@[simp] theorem State.raise_dieMsgs (k : Kind) (site t obj : Nat) (l : List (Nat × Int)) : (s.raise k site t obj l).dieMsgs = s.dieMsgs := rfl
@[simp] theorem State.raise_placing (k : Kind) (site t obj : Nat) (l : List (Nat × Int)) : (s.raise k site t obj l).placing = s.placing := rfl
@[simp] theorem State.raise_rings (k : Kind) (site t obj : Nat) (l : List (Nat × Int)) : (s.raise k site t obj l).rings = s.rings := rfl
@[simp] theorem State.raise_fences (k : Kind) (site t obj : Nat) (l : List (Nat × Int)) : (s.raise k site t obj l).fences = s.fences := rfl
@[simp] theorem State.raise_shadows (k : Kind) (site t obj : Nat) (l : List (Nat × Int)) : (s.raise k site t obj l).shadows = s.shadows := rfl
@[simp] theorem State.raise_out (k : Kind) (site t obj : Nat) (l : List (Nat × Int)) : (s.raise k site t obj l).out = s.out := rfl
@[simp] theorem State.raise_resp (k : Kind) (site t obj : Nat) (l : List (Nat × Int)) : (s.raise k site t obj l).resp = s.resp := rfl
@[simp] theorem State.raise_free (k : Kind) (site t obj : Nat) (l : List (Nat × Int)) : (s.raise k site t obj l).free = s.free := rfl
@[simp] theorem State.raise_pending (k : Kind) (site t obj : Nat) (l : List (Nat × Int)) : (s.raise k site t obj l).pending = s.pending := rfl

@[simp] theorem State.raiseDie_time (d : Nat) (k : Kind) (site t obj : Nat) (l : List (Nat × Int)) : (s.raiseDie d k site t obj l).time = s.time := rfl
@[simp] theorem State.raiseDie_frame (d : Nat) (k : Kind) (site t obj : Nat) (l : List (Nat × Int)) : (s.raiseDie d k site t obj l).frame = s.frame := rfl
@[simp] theorem State.raiseDie_regs (d : Nat) (k : Kind) (site t obj : Nat) (l : List (Nat × Int)) : (s.raiseDie d k site t obj l).regs = s.regs := rfl
@[simp] theorem State.raiseDie_blobs (d : Nat) (k : Kind) (site t obj : Nat) (l : List (Nat × Int)) : (s.raiseDie d k site t obj l).blobs = s.blobs := rfl
@[simp] theorem State.raiseDie_landing (d : Nat) (k : Kind) (site t obj : Nat) (l : List (Nat × Int)) : (s.raiseDie d k site t obj l).landing = s.landing := rfl
@[simp] theorem State.raiseDie_staged (d : Nat) (k : Kind) (site t obj : Nat) (l : List (Nat × Int)) : (s.raiseDie d k site t obj l).staged = s.staged := rfl
@[simp] theorem State.raiseDie_barriers (d : Nat) (k : Kind) (site t obj : Nat) (l : List (Nat × Int)) : (s.raiseDie d k site t obj l).barriers = s.barriers := rfl
@[simp] theorem State.raiseDie_heldWrites (d : Nat) (k : Kind) (site t obj : Nat) (l : List (Nat × Int)) : (s.raiseDie d k site t obj l).heldWrites = s.heldWrites := rfl
@[simp] theorem State.raiseDie_late (d : Nat) (k : Kind) (site t obj : Nat) (l : List (Nat × Int)) : (s.raiseDie d k site t obj l).late = s.late := rfl
@[simp] theorem State.raiseDie_canQueue (d : Nat) (k : Kind) (site t obj : Nat) (l : List (Nat × Int)) : (s.raiseDie d k site t obj l).canQueue = s.canQueue := rfl
@[simp] theorem State.raiseDie_signing (d : Nat) (k : Kind) (site t obj : Nat) (l : List (Nat × Int)) : (s.raiseDie d k site t obj l).signing = s.signing := rfl
@[simp] theorem State.raiseDie_collector (d : Nat) (k : Kind) (site t obj : Nat) (l : List (Nat × Int)) : (s.raiseDie d k site t obj l).collector = s.collector := rfl
@[simp] theorem State.raiseDie_placing (d : Nat) (k : Kind) (site t obj : Nat) (l : List (Nat × Int)) : (s.raiseDie d k site t obj l).placing = s.placing := rfl
@[simp] theorem State.raiseDie_rings (d : Nat) (k : Kind) (site t obj : Nat) (l : List (Nat × Int)) : (s.raiseDie d k site t obj l).rings = s.rings := rfl
@[simp] theorem State.raiseDie_fences (d : Nat) (k : Kind) (site t obj : Nat) (l : List (Nat × Int)) : (s.raiseDie d k site t obj l).fences = s.fences := rfl
@[simp] theorem State.raiseDie_shadows (d : Nat) (k : Kind) (site t obj : Nat) (l : List (Nat × Int)) : (s.raiseDie d k site t obj l).shadows = s.shadows := rfl
@[simp] theorem State.raiseDie_out (d : Nat) (k : Kind) (site t obj : Nat) (l : List (Nat × Int)) : (s.raiseDie d k site t obj l).out = s.out := rfl
@[simp] theorem State.raiseDie_resp (d : Nat) (k : Kind) (site t obj : Nat) (l : List (Nat × Int)) : (s.raiseDie d k site t obj l).resp = s.resp := rfl
@[simp] theorem State.raiseDie_free (d : Nat) (k : Kind) (site t obj : Nat) (l : List (Nat × Int)) : (s.raiseDie d k site t obj l).free = s.free := rfl
@[simp] theorem State.raiseDie_pending (d : Nat) (k : Kind) (site t obj : Nat) (l : List (Nat × Int)) : (s.raiseDie d k site t obj l).pending = s.pending := rfl

/-! ### What the updated field holds -/

@[simp] theorem State.emit_out (o : Out) : (s.emit o).out = s.out ++ [o] := rfl
@[simp] theorem State.answer_resp (r : Resp) : (s.answer r).resp = r := rfl
@[simp] theorem State.land_landing (t d : Nat) (a : LandAct) :
    (s.land t d a).landing = s.landing ++ [⟨t, s.frame + d, s.time, a, false⟩] := rfl
@[simp] theorem State.raise_collector (k : Kind) (site t obj : Nat) (l : List (Nat × Int)) :
    (s.raise k site t obj l).collector = s.collector ++ [⟨s.stamp, site, k, t, obj, l, false⟩] := rfl
@[simp] theorem State.raiseDie_dieMsgs (d : Nat) (k : Kind) (site t obj : Nat) (l : List (Nat × Int)) :
    (s.raiseDie d k site t obj l).dieMsgs = s.dieMsgs ++ [⟨d, ⟨s.stampOn d, site, k, t, obj, l, !s.linkUp d⟩⟩] := rfl

/-! ### Sparse lists -/

section Sparse
variable {α : Type} (l : List (Nat × α)) (k k' : Nat) (v : α)

theorem lookup_insert_self (h : ∀ p ∈ l, p.1 ≠ k) : lookupKey (insertKey l k v) k = some v := by
  induction l with
  | nil => simp [insertKey, lookupKey]
  | cons p r ih =>
    unfold insertKey
    split
    · simp [lookupKey]
    · rw [lookupKey, if_neg (h p (by simp))]
      exact ih fun q hq => h q (by simp [hq])

theorem lookup_insert_other (h : k' ≠ k) : lookupKey (insertKey l k v) k' = lookupKey l k' := by
  induction l with
  | nil => simp [insertKey, lookupKey, Ne.symm h]
  | cons p r ih =>
    unfold insertKey
    split
    · rw [lookupKey, if_neg (Ne.symm h)]
    · simp only [lookupKey, ih]

theorem lookup_erase_self : lookupKey (eraseKey l k) k = none := by
  induction l with
  | nil => rfl
  | cons p r ih =>
    unfold eraseKey at ih ⊢
    by_cases hp : p.1 = k
    · simpa [hp] using ih
    · simpa [List.filter_cons, hp, lookupKey] using ih

theorem lookup_erase_other (h : k' ≠ k) : lookupKey (eraseKey l k) k' = lookupKey l k' := by
  induction l with
  | nil => rfl
  | cons p r ih =>
    unfold eraseKey at ih ⊢
    by_cases hp : p.1 = k
    · simp [hp, lookupKey, Ne.symm h, ih]
    · simp [hp, lookupKey, ih]

theorem mem_erase_ne {p : Nat × α} (h : p ∈ eraseKey l k) : p.1 ≠ k := by
  simpa using (List.mem_filter.1 h).2

theorem mem_insert {p : Nat × α} : p ∈ insertKey l k v ↔ p = (k, v) ∨ p ∈ l := by
  induction l with
  | nil => simp [insertKey]
  | cons q r ih =>
    unfold insertKey
    split
    · simp
    · rw [List.mem_cons, ih, List.mem_cons, or_left_comm]

theorem erase_sorted (h : l.Pairwise fun a b => a.1 < b.1) : (eraseKey l k).Pairwise fun a b => a.1 < b.1 :=
  h.filter _

theorem insert_sorted (h : l.Pairwise fun a b => a.1 < b.1) (hk : ∀ p ∈ l, p.1 ≠ k) :
    (insertKey l k v).Pairwise fun a b => a.1 < b.1 := by
  induction l with
  | nil => simp [insertKey]
  | cons q r ih =>
    obtain ⟨hq, hr⟩ := List.pairwise_cons.1 h
    unfold insertKey
    split
    · rename_i hlt
      refine List.pairwise_cons.2 ⟨fun p hp => ?_, h⟩
      rcases List.mem_cons.1 hp with rfl | hp
      · exact hlt
      · exact Nat.lt_trans hlt (hq p hp)
    · rename_i hge
      refine List.pairwise_cons.2 ⟨fun p hp => ?_, ih hr fun p hp => hk p (by simp [hp])⟩
      rcases (mem_insert r k v).1 hp with rfl | hp
      · have := hk q (by simp); simp only; omega
      · exact hq p hp

end Sparse

/-! ### Reading the register file and the byte strings -/

@[simp] theorem State.get_set_self (k : Nat) (v : Int) : (s.set k v).get k = v := by
  unfold State.set State.get
  by_cases h : v = regReset k
  · simp [h, lookup_erase_self]
  · simp [h, lookup_insert_self _ k v fun _ hp => mem_erase_ne _ k hp]

theorem State.get_set_other (k k' : Nat) (v : Int) (h : k' ≠ k) : (s.set k v).get k' = s.get k' := by
  unfold State.set State.get
  by_cases hv : v = regReset k
  · simp [hv, lookup_erase_other _ k k' h]
  · simp [hv, lookup_insert_other _ k k' v h, lookup_erase_other _ k k' h]

@[simp] theorem State.get_setN_self (k v : Nat) : (s.setN k v).get k = v := s.get_set_self k v

@[simp] theorem State.nat_setN_self (k v : Nat) : (s.setN k v).nat k = v := by
  simp [State.nat]

theorem State.get_setN_other (k k' v : Nat) (h : k' ≠ k) : (s.setN k v).get k' = s.get k' := s.get_set_other k k' v h

@[simp] theorem State.blob_setBlob_self (k : Nat) (b : List Byte) : (s.setBlob k b).blob k = b := by
  unfold State.setBlob State.blob
  by_cases h : b = []
  · simp [h, lookup_erase_self]
  · simp [h, lookup_insert_self _ k b fun _ hp => mem_erase_ne _ k hp]

theorem State.blob_setBlob_other (k k' : Nat) (b : List Byte) (h : k' ≠ k) : (s.setBlob k b).blob k' = s.blob k' := by
  unfold State.setBlob State.blob
  by_cases hb : b = []
  · simp [hb, lookup_erase_other _ k k' h]
  · simp [hb, lookup_insert_other _ k k' b h, lookup_erase_other _ k k' h]

@[simp] theorem State.setBlob_get (k : Nat) (b : List Byte) (x : Nat) : (s.setBlob k b).get x = s.get x := rfl
@[simp] theorem State.setBlob_nat (k : Nat) (b : List Byte) (x : Nat) : (s.setBlob k b).nat x = s.nat x := rfl
@[simp] theorem State.land_get (t d : Nat) (a : LandAct) (x : Nat) : (s.land t d a).get x = s.get x := rfl
@[simp] theorem State.land_nat (t d : Nat) (a : LandAct) (x : Nat) : (s.land t d a).nat x = s.nat x := rfl
@[simp] theorem State.emit_get (o : Out) (x : Nat) : (s.emit o).get x = s.get x := rfl
@[simp] theorem State.emit_nat (o : Out) (x : Nat) : (s.emit o).nat x = s.nat x := rfl
@[simp] theorem State.answer_get (r : Resp) (x : Nat) : (s.answer r).get x = s.get x := rfl
@[simp] theorem State.answer_nat (r : Resp) (x : Nat) : (s.answer r).nat x = s.nat x := rfl
@[simp] theorem State.raise_get (k : Kind) (site t obj : Nat) (l : List (Nat × Int)) (x : Nat) : (s.raise k site t obj l).get x = s.get x := rfl
@[simp] theorem State.raise_nat (k : Kind) (site t obj : Nat) (l : List (Nat × Int)) (x : Nat) : (s.raise k site t obj l).nat x = s.nat x := rfl
@[simp] theorem State.raiseDie_get (d : Nat) (k : Kind) (site t obj : Nat) (l : List (Nat × Int)) (x : Nat) : (s.raiseDie d k site t obj l).get x = s.get x := rfl
@[simp] theorem State.raiseDie_nat (d : Nat) (k : Kind) (site t obj : Nat) (l : List (Nat × Int)) (x : Nat) : (s.raiseDie d k site t obj l).nat x = s.nat x := rfl

/-! ### The canonical form -/

/-- The canonical form of the byte strings: keys strictly rising, none listed empty. -/
abbrev State.BlobsCanonical (s : State) : Prop :=
  s.blobs.Pairwise (fun a b => a.1 < b.1) ∧ ∀ p ∈ s.blobs, p.2 ≠ []

theorem State.set_canonical (k : Nat) (v : Int) (h : s.Canonical) : (s.set k v).Canonical := by
  unfold State.set State.Canonical
  dsimp only
  by_cases hv : v = regReset k
  · rw [if_pos hv]
    exact ⟨erase_sorted _ k h.1, fun p hp => h.2 p (List.mem_filter.1 hp).1⟩
  · rw [if_neg hv]
    refine ⟨insert_sorted _ k v (erase_sorted _ k h.1) fun p hp => mem_erase_ne _ k hp, fun p hp => ?_⟩
    rcases (mem_insert _ k v).1 hp with rfl | hp
    · exact hv
    · exact h.2 p (List.mem_filter.1 hp).1

theorem State.setBlob_canonical (k : Nat) (b : List Byte) (h : s.BlobsCanonical) : (s.setBlob k b).BlobsCanonical := by
  unfold State.setBlob State.BlobsCanonical
  dsimp only
  by_cases hb : b = []
  · rw [if_pos hb]
    exact ⟨erase_sorted _ k h.1, fun p hp => h.2 p (List.mem_filter.1 hp).1⟩
  · rw [if_neg hb]
    refine ⟨insert_sorted _ k b (erase_sorted _ k h.1) fun p hp => mem_erase_ne _ k hp, fun p hp => ?_⟩
    rcases (mem_insert _ k b).1 hp with rfl | hp
    · exact hb
    · exact h.2 p (List.mem_filter.1 hp).1

end Sys2Proof.Machine
end

