-- ==== Sys2Proof/Laws/Keeps.lean ====
section
/-!
SUPPORT. What every operation of the block keeps, said once (Keeps), and how it passes through updates, conditions, lets
and loops. The files KeepsA to KeepsF say it of every operation and every command, so a claim about all commands cites one
lemma per command and unfolds none.
-/
namespace Sys2Proof.Machine

/-- What holds from a state r to any state t that operations reach from it: the register file and the byte strings stay in
canonical form; the queue is untouched; frames and free values are only ever used up; and what has been sent stays sent. -/
structure Keeps (r t : State) : Prop where
  regs : r.Canonical → t.Canonical
  blobs : r.BlobsCanonical → t.BlobsCanonical
  pending : t.pending = r.pending
  frame : r.frame ≤ t.frame
  free : r.free ≤ t.free
  out : r.out <+: t.out

/-- A command answers a next state that keeps what Keeps says. -/
def Runs (r : State) (o : Host.Outcome State Fault Refusal) : Prop := ∃ t, o = .next t ∧ Keeps r t

variable {r s t : State}

theorem Keeps.refl (s : State) : Keeps s s :=
  ⟨id, id, rfl, Nat.le_refl _, Nat.le_refl _, List.prefix_refl _⟩

theorem Keeps.trans (h : Keeps r s) (h' : Keeps s t) : Keeps r t :=
  ⟨h'.regs ∘ h.regs, h'.blobs ∘ h.blobs, h'.pending.trans h.pending, Nat.le_trans h.frame h'.frame,
    Nat.le_trans h.free h'.free, h.out.trans h'.out⟩

/-! ### Through the shapes of a definition -/

theorem Keeps.ite {c : Prop} [Decidable c] {a b : State} (ha : Keeps r a) (hb : Keeps r b) :
    Keeps r (if c then a else b) := by split <;> assumption

theorem Keeps.iteP {α : Type} {c : Prop} [Decidable c] {a b : α × State} (ha : Keeps r a.2) (hb : Keeps r b.2) :
    Keeps r (if c then a else b).2 := by split <;> assumption

theorem Keeps.ofPair {α : Type} {a : α} {p : α × State} (e : p = (a, s)) (h : Keeps r p.2) : Keeps r s := by
  rw [e] at h
  exact h

theorem foldl_keeps {α β : Type} {l : List β} {f : α × State → β → α × State} {p : α × State} (h : Keeps r p.2)
    (hf : ∀ a b, Keeps r a.2 → Keeps r (f a b).2) : Keeps r (l.foldl f p).2 := by
  induction l generalizing p with
  | nil => exact h
  | cons b l ih => exact ih (hf p b h)

theorem Keeps.isPair {α : Type} : ∀ _ : α × State, True := fun _ => trivial

/-- A value named by a let is judged once, before what uses it. -/
theorem Keeps.cut {G : Prop} {v : State} (hv : Keeps r v) (hb : Keeps r v → G) : G := hb hv

theorem Keeps.same (h : Keeps r s) (hr : t.regs = s.regs) (hb : t.blobs = s.blobs) (hp : t.pending = s.pending)
    (hf : s.frame ≤ t.frame) (hn : s.free ≤ t.free) (ho : s.out <+: t.out) : Keeps r t :=
  h.trans ⟨fun c => by unfold State.Canonical; rw [hr]; exact c, fun c => by unfold State.BlobsCanonical; rw [hb]; exact c,
    hp, hf, hn, ho⟩

theorem Runs.next (h : Keeps r t) : Runs r (.next t) := ⟨t, rfl, h⟩

theorem Runs.ite {c : Prop} [Decidable c] {a b : Host.Outcome State Fault Refusal} (ha : Runs r a) (hb : Runs r b) :
    Runs r (if c then a else b) := by split <;> assumption

/-- An update of fields of which Keeps says nothing. -/
theorem Keeps.update {time : Nat} {landing : List Landing} {staged : List Staged} {barriers : List OpenBarrier}
    {held : List HeldWrite} {late : List LateSet} {can : List Out} {sign : List SignJob} {die : List DieMsg}
    {coll : List Msg} {plac : List Placing} {rings : List RingData} {fences : List Fence} {shad : List Shadow} {resp : Resp}
    (h : Keeps r s) :
    Keeps r ⟨time, s.frame, s.regs, s.blobs, landing, staged, barriers, held, late, can, sign, die, coll, plac, rings, fences,
      shad, s.out, resp, s.free, s.pending⟩ :=
  h.same rfl rfl rfl (Nat.le_refl _) (Nat.le_refl _) (List.prefix_refl _)

/-- The next frame begins. -/
theorem Keeps.frameNext {time : Nat} (h : Keeps r s) : Keeps r { s with frame := s.frame + 1, time := time } :=
  h.same rfl rfl rfl (Nat.le_succ _) (Nat.le_refl _) (List.prefix_refl _)

/-! ### Loops -/

theorem forEach_keeps {α : Type} {l : List α} {f : α → State → State} (h : Keeps r s)
    (hf : ∀ a x, Keeps r x → Keeps r (f a x)) : Keeps r (forEach l f s) := by
  unfold forEach
  induction l generalizing s with
  | nil => exact h
  | cons a l ih => exact ih (hf a s h)

theorem forBelow_keeps {n : Nat} {f : Nat → State → State} (h : Keeps r s)
    (hf : ∀ a x, Keeps r x → Keeps r (f a x)) : Keeps r (forBelow n f s) := forEach_keeps h hf

theorem onlyIf_keeps {b : Bool} {f : State → State} (h : Keeps r s) (hf : ∀ x, Keeps r x → Keeps r (f x)) :
    Keeps r (onlyIf b f s) := by
  unfold onlyIf
  split
  · exact hf s h
  · exact h

/-! ### The primitive operations -/

theorem State.set_keeps {k : Nat} {v : Int} (h : Keeps r s) : Keeps r (s.set k v) :=
  h.trans ⟨s.set_canonical k v, id, rfl, Nat.le_refl _, Nat.le_refl _, List.prefix_refl _⟩

theorem State.setBlob_keeps {k : Nat} {b : List Byte} (h : Keeps r s) : Keeps r (s.setBlob k b) :=
  h.trans ⟨id, s.setBlob_canonical k b, rfl, Nat.le_refl _, Nat.le_refl _, List.prefix_refl _⟩

theorem State.emit_keeps {o : Out} (h : Keeps r s) : Keeps r (s.emit o) :=
  h.same rfl rfl rfl (Nat.le_refl _) (Nat.le_refl _) (List.prefix_append _ _)

theorem State.takeFree_keeps (h : Keeps r s) : Keeps r s.takeFree.2 :=
  h.same rfl rfl rfl (Nat.le_refl _) (Nat.le_succ _) (List.prefix_refl _)

theorem State.takeFreeIn_keeps {lo hi : Int} (h : Keeps r s) : Keeps r (s.takeFreeIn lo hi).2 :=
  h.same rfl rfl rfl (Nat.le_refl _) (Nat.le_succ _) (List.prefix_refl _)

end Sys2Proof.Machine
end

