-- ==== Sys2Proof/Laws/Leaves.lean ====
section
/-!
SUPPORT. How Leaves, the frame of an operation, passes through updates, conditions, lets and loops. The files FramesA to
FramesF give the frame of every operation and every event whose registers it can name.
-/
namespace Sys2Proof.Machine

/-- Every member of one list is in another. -/
abbrev Within {α : Type} [DecidableEq α] (a b : List α) : Prop := ∀ x ∈ a, x ∈ b

theorem Within.trans {α : Type} [DecidableEq α] {a b c : List α} (h : Within a b) (h' : Within b c) : Within a c :=
  fun x hx => h' x (h x hx)

/-- A key lies in one of the families. -/
abbrev Covered (W : List Span) (k : Nat) : Prop := ∃ x ∈ W, x.has k

theorem Covered.here {b : List Span} {k : Nat} : Covered (one k :: b) k := ⟨_, List.mem_cons_self, 0, 0, rfl⟩

theorem Covered.next {b : List Span} {y : Span} {k : Nat} (h : Covered b k) : Covered (y :: b) k :=
  h.elim fun x hx => ⟨x, List.mem_cons_of_mem _ hx.1, hx.2⟩

/-- Every key in families of the one list is in families of the other. -/
def Inside (a b : List Span) : Prop := ∀ k, Covered a k → Covered b k

theorem Inside.covers {a b : List Span} {k : Nat} (h : Inside a b) (hk : Covered a k) : Covered b k := h k hk

theorem Inside.refl {a : List Span} : Inside a a := fun _ h => h

theorem Inside.trans {a b c : List Span} (h : Inside a b) (h' : Inside b c) : Inside a c := fun k hk => h' k (h k hk)

theorem Inside.sub {a b c : List Span} (h' : Inside b c) (h : Inside a b) : Inside a c := h.trans h'

theorem inNil {b : List Span} : Inside [] b := fun _ h => h.elim fun _ hx => absurd hx.1 List.not_mem_nil

theorem inBoth {a b : List Span} {x : Span} (h : Inside a b) : Inside (x :: a) (x :: b) := fun k hk => by
  obtain ⟨y, hy, hyk⟩ := hk
  rcases List.mem_cons.1 hy with rfl | hy
  · exact ⟨y, List.mem_cons_self, hyk⟩
  · exact (h k ⟨y, hy, hyk⟩).next

theorem inSkip {a b : List Span} {x : Span} (h : Inside a b) : Inside a (x :: b) := fun k hk => (h k hk).next

theorem Span.one_has {j k : Nat} (h : (one j).has k) : k = j := by
  obtain ⟨n, m, h⟩ := h
  have h : k = j + 0 * n + 0 * m := h
  omega

theorem Inside.wide {a b : List Span} {f : Nat → Nat} {x : Span} {n : Nat} (hf : ∀ n, x.has (f n))
    (h : Inside a (x :: b)) : Inside (one (f n) :: a) (x :: b) := fun k hk => by
  obtain ⟨y, hy, hyk⟩ := hk
  rcases List.mem_cons.1 hy with rfl | hy
  · exact ⟨x, List.mem_cons_self, Span.one_has hyk ▸ hf n⟩
  · exact h k ⟨y, hy, hyk⟩

theorem Inside.wide2 {a b : List Span} {f : Nat → Nat → Nat} {x : Span} {n m : Nat} (hf : ∀ n m, x.has (f n m))
    (h : Inside a (x :: b)) : Inside (one (f n m) :: a) (x :: b) := fun k hk => by
  obtain ⟨y, hy, hyk⟩ := hk
  rcases List.mem_cons.1 hy with rfl | hy
  · exact ⟨x, List.mem_cons_self, Span.one_has hyk ▸ hf n m⟩
  · exact h k ⟨y, hy, hyk⟩

theorem dyn_in {b : List Span} {k : Nat} : Covered (anyKey :: b) k :=
  ⟨_, List.mem_cons_self, k, 0, by have h : k = 0 + 1 * k + 0 * 0 := by omega
                                   exact h⟩

theorem inAny {a b : List Span} : Inside a (anyKey :: b) := fun _ _ => dyn_in

theorem Covered.ite {W : List Span} {c : Prop} [Decidable c] {a b : Nat} (ha : Covered W a) (hb : Covered W b) :
    Covered W (if c then a else b) := by split <;> assumption

variable {W : List Span} {L : List Part} {r s t : State}

theorem Leaves.refl (s : State) : Leaves W L s s :=
  ⟨fun _ _ => rfl, fun _ _ => rfl, fun p _ => by cases p <;> rfl, rfl⟩

theorem Part.same_trans {p : Part} (h : p.same r s) (h' : p.same s t) : p.same r t := by
  cases p <;> exact Eq.trans h' h

theorem Leaves.trans (h : Leaves W L r s) (h' : Leaves W L s t) : Leaves W L r t :=
  ⟨fun k hk => (h'.regs k hk).trans (h.regs k hk), fun k hk => (h'.blobs k hk).trans (h.blobs k hk),
    fun p hp => Part.same_trans (h.parts p hp) (h'.parts p hp), h'.pending.trans h.pending⟩

theorem Leaves.mono {W' : List Span} {L' : List Part} (h : Leaves W L r t) (hW : Inside W W') (hL : Within L L') :
    Leaves W' L' r t :=
  ⟨fun k hk => h.regs k fun x hx hxk => (hW k ⟨x, hx, hxk⟩).elim fun y hy => hk y hy.1 hy.2,
    fun k hk => h.blobs k fun x hx hxk => (hW k ⟨x, hx, hxk⟩).elim fun y hy => hk y hy.1 hy.2,
    fun p hp => h.parts p fun q => hp (hL p q), h.pending⟩

/-- A command answers a next state that leaves everything else unchanged. -/
def RunsIn (W : List Span) (L : List Part) (r : State) (o : Host.Outcome State Fault Refusal) : Prop :=
  ∃ t, o = .next t ∧ Leaves W L r t

/-! ### Through the shapes of a definition -/

theorem Leaves.ite {c : Prop} [Decidable c] {a b : State} (ha : Leaves W L r a) (hb : Leaves W L r b) :
    Leaves W L r (if c then a else b) := by split <;> assumption

theorem Leaves.iteP {α : Type} {c : Prop} [Decidable c] {a b : α × State} (ha : Leaves W L r a.2) (hb : Leaves W L r b.2) :
    Leaves W L r (if c then a else b).2 := by split <;> assumption

theorem Leaves.ofPair {α : Type} {a : α} {p : α × State} (e : p = (a, s)) (h : Leaves W L r p.2) : Leaves W L r s := by
  rw [e] at h
  exact h

/-- A value named by a let is judged once, before what uses it. -/
theorem Leaves.cut {G : Prop} {v : State} (hv : Leaves W L r v) (hb : Leaves W L r v → G) : G := hb hv

theorem RunsIn.next (h : Leaves W L r t) : RunsIn W L r (.next t) := ⟨t, rfl, h⟩

/-- An update of parts that are listed. -/
theorem Leaves.update {time frame : Nat} {landing : List Landing} {staged : List Staged} {barriers : List OpenBarrier}
    {held : List HeldWrite} {late : List LateSet} {can : List Out} {sign : List SignJob} {die : List DieMsg}
    {coll : List Msg} {plac : List Placing} {rings : List RingData} {fences : List Fence} {shad : List Shadow}
    {out : List Out} {resp : Resp} {free : Nat} (h : Leaves W L r s)
    (h1 : time = s.time ∨ Part.time ∈ L) (h2 : frame = s.frame ∨ Part.frame ∈ L)
    (h3 : landing = s.landing ∨ Part.landing ∈ L) (h4 : staged = s.staged ∨ Part.staged ∈ L)
    (h5 : barriers = s.barriers ∨ Part.barriers ∈ L) (h6 : held = s.heldWrites ∨ Part.heldWrites ∈ L)
    (h7 : late = s.late ∨ Part.late ∈ L) (h8 : can = s.canQueue ∨ Part.canQueue ∈ L)
    (h9 : sign = s.signing ∨ Part.signing ∈ L) (h10 : die = s.dieMsgs ∨ Part.dieMsgs ∈ L)
    (h11 : coll = s.collector ∨ Part.collector ∈ L) (h12 : plac = s.placing ∨ Part.placing ∈ L)
    (h13 : rings = s.rings ∨ Part.rings ∈ L) (h14 : fences = s.fences ∨ Part.fences ∈ L)
    (h15 : shad = s.shadows ∨ Part.shadows ∈ L) (h16 : out = s.out ∨ Part.out ∈ L)
    (h17 : resp = s.resp ∨ Part.resp ∈ L) (h18 : free = s.free ∨ Part.free ∈ L) :
    Leaves W L r ⟨time, frame, s.regs, s.blobs, landing, staged, barriers, held, late, can, sign, die, coll, plac, rings, fences,
      shad, out, resp, free, s.pending⟩ := by
  refine h.trans ⟨fun _ _ => rfl, fun _ _ => rfl, fun p hp => ?_, rfl⟩
  cases p
  · exact h1.resolve_right hp
  · exact h2.resolve_right hp
  · exact h3.resolve_right hp
  · exact h4.resolve_right hp
  · exact h5.resolve_right hp
  · exact h6.resolve_right hp
  · exact h7.resolve_right hp
  · exact h8.resolve_right hp
  · exact h9.resolve_right hp
  · exact h10.resolve_right hp
  · exact h11.resolve_right hp
  · exact h12.resolve_right hp
  · exact h13.resolve_right hp
  · exact h14.resolve_right hp
  · exact h15.resolve_right hp
  · exact h16.resolve_right hp
  · exact h17.resolve_right hp
  · exact h18.resolve_right hp

/-! ### Loops -/

theorem forEach_leaves {α : Type} {l : List α} {f : α → State → State} (h : Leaves W L r s)
    (hf : ∀ a x, Leaves W L r x → Leaves W L r (f a x)) : Leaves W L r (forEach l f s) := by
  unfold forEach
  induction l generalizing s with
  | nil => exact h
  | cons a l ih => exact ih (hf a s h)

theorem forBelow_leaves {n : Nat} {f : Nat → State → State} (h : Leaves W L r s)
    (hf : ∀ a x, Leaves W L r x → Leaves W L r (f a x)) : Leaves W L r (forBelow n f s) := forEach_leaves h hf

theorem onlyIf_leaves {b : Bool} {f : State → State} (h : Leaves W L r s) (hf : ∀ x, Leaves W L r x → Leaves W L r (f x)) :
    Leaves W L r (onlyIf b f s) := by
  unfold onlyIf
  split
  · exact hf s h
  · exact h

theorem foldl_leaves {α β : Type} {l : List α} {f : β × State → α → β × State} {p : β × State} (h : Leaves W L r p.2)
    (hf : ∀ q a, Leaves W L r q.2 → Leaves W L r (f q a).2) : Leaves W L r (l.foldl f p).2 := by
  induction l generalizing p with
  | nil => exact h
  | cons a l ih => exact ih (hf p a h)

/-! ### The primitive operations -/

theorem State.set_leaves {k : Nat} {v : Int} (h : Leaves W L r s) (hk : Covered W k) : Leaves W L r (s.set k v) := by
  refine h.trans ⟨fun j hj => ?_, fun _ _ => rfl, fun p _ => by cases p <;> rfl, rfl⟩
  refine s.get_set_other k j v fun e => ?_
  obtain ⟨x, hx, hxk⟩ := hk
  exact hj x hx (e ▸ hxk)

theorem State.setBlob_leaves {k : Nat} {b : List Byte} (h : Leaves W L r s) (hk : Covered W k) :
    Leaves W L r (s.setBlob k b) := by
  refine h.trans ⟨fun _ _ => rfl, fun j hj => ?_, fun p _ => by cases p <;> rfl, rfl⟩
  refine s.blob_setBlob_other k j b fun e => ?_
  obtain ⟨x, hx, hxk⟩ := hk
  exact hj x hx (e ▸ hxk)

theorem State.setN_leaves {k v : Nat} (h : Leaves W L r s) (hk : Covered W k) : Leaves W L r (s.setN k v) := set_leaves h hk

theorem State.setFlag_leaves {k : Nat} {b : Bool} (h : Leaves W L r s) (hk : Covered W k) : Leaves W L r (s.setFlag k b) :=
  set_leaves h hk

theorem State.setBit_leaves {k b : Nat} {on : Bool} (h : Leaves W L r s) (hk : Covered W k) :
    Leaves W L r (s.setBit k b on) := set_leaves h hk

theorem State.count_leaves {k mx : Nat} (h : Leaves W L r s) (hk : Covered W k) : Leaves W L r (s.count k mx) :=
  set_leaves h hk

theorem State.wrapCount_leaves {k w : Nat} (h : Leaves W L r s) (hk : Covered W k) : Leaves W L r (s.wrapCount k w) :=
  set_leaves h hk

theorem State.restore_leaves {k : Nat} (h : Leaves W L r s) (hk : Covered W k) : Leaves W L r (s.restore k) :=
  set_leaves h hk

theorem State.takeFree_leaves (h : Leaves W L r s) (hL : Part.free ∈ L) : Leaves W L r s.takeFree.2 :=
  Leaves.update h (.inl rfl) (.inl rfl) (.inl rfl) (.inl rfl) (.inl rfl) (.inl rfl) (.inl rfl) (.inl rfl) (.inl rfl)
    (.inl rfl) (.inl rfl) (.inl rfl) (.inl rfl) (.inl rfl) (.inl rfl) (.inl rfl) (.inl rfl) (.inr hL)

theorem State.takeFreeIn_leaves {lo hi : Int} (h : Leaves W L r s) (hL : Part.free ∈ L) :
    Leaves W L r (s.takeFreeIn lo hi).2 := takeFree_leaves h hL

theorem State.setFree_leaves {k : Nat} {lo hi : Int} (h : Leaves W L r s) (hk : Covered W k) (hL : Part.free ∈ L) :
    Leaves W L r (s.setFree k lo hi) := set_leaves (takeFreeIn_leaves h hL) hk

end Sys2Proof.Machine
end

