-- ==== Sys2Proof/Laws/Names.lean ====
section
/-!
SUPPORT. Each name of a register lies in the family of that name.
-/
namespace Sys2Proof.Machine

theorem ADMIT_KIND_has (n : Nat) : Span.has (each ADMIT_KIND) (ADMIT_KIND n) := ⟨n, 0, by simp only [ADMIT_KIND, internal]; omega⟩
theorem ADMIT_KIND_wide {a b : List Span} {n : Nat} (h : Inside a ((each ADMIT_KIND) :: b)) :
    Inside (one (ADMIT_KIND n) :: a) ((each ADMIT_KIND) :: b) := Inside.wide (f := fun n => ADMIT_KIND n) ADMIT_KIND_has h
theorem ADMIT_SINCE_has (n : Nat) : Span.has (each ADMIT_SINCE) (ADMIT_SINCE n) := ⟨n, 0, by simp only [ADMIT_SINCE, internal]; omega⟩
theorem ADMIT_SINCE_wide {a b : List Span} {n : Nat} (h : Inside a ((each ADMIT_SINCE) :: b)) :
    Inside (one (ADMIT_SINCE n) :: a) ((each ADMIT_SINCE) :: b) := Inside.wide (f := fun n => ADMIT_SINCE n) ADMIT_SINCE_has h
theorem ALARM.ALARMS_FIRED_has : Span.has (one ALARM.ALARMS_FIRED) (ALARM.ALARMS_FIRED) := ⟨0, 0, rfl⟩
theorem ALARM.ALARMS_FIRED_in {W : List Span} : Covered ((one ALARM.ALARMS_FIRED) :: W) (ALARM.ALARMS_FIRED) :=
  ⟨_, List.mem_cons_self, ALARM.ALARMS_FIRED_has⟩
theorem ALARM.ALARM_SECONDS_has : Span.has (one ALARM.ALARM_SECONDS) (ALARM.ALARM_SECONDS) := ⟨0, 0, rfl⟩
theorem ALARM.ALARM_SECONDS_in {W : List Span} : Covered ((one ALARM.ALARM_SECONDS) :: W) (ALARM.ALARM_SECONDS) :=
  ⟨_, List.mem_cons_self, ALARM.ALARM_SECONDS_has⟩
theorem ALARM.ALARM_STATE_has : Span.has (one ALARM.ALARM_STATE) (ALARM.ALARM_STATE) := ⟨0, 0, rfl⟩
theorem ALARM.ALARM_STATE_in {W : List Span} : Covered ((one ALARM.ALARM_STATE) :: W) (ALARM.ALARM_STATE) :=
  ⟨_, List.mem_cons_self, ALARM.ALARM_STATE_has⟩
theorem AMLOR_LINK.LINK_STATE_has (n : Nat) : Span.has (each AMLOR_LINK.LINK_STATE) (AMLOR_LINK.LINK_STATE n) := ⟨n, 0, by simp only [AMLOR_LINK.LINK_STATE]; omega⟩
theorem AMLOR_LINK.LINK_STATE_in {W : List Span} {n : Nat} : Covered ((each AMLOR_LINK.LINK_STATE) :: W) (AMLOR_LINK.LINK_STATE n) :=
  ⟨_, List.mem_cons_self, AMLOR_LINK.LINK_STATE_has _⟩
theorem AMLOR_LINK.LINK_STATE_wide {a b : List Span} {n : Nat} (h : Inside a ((each AMLOR_LINK.LINK_STATE) :: b)) :
    Inside (one (AMLOR_LINK.LINK_STATE n) :: a) ((each AMLOR_LINK.LINK_STATE) :: b) := Inside.wide (f := fun n => AMLOR_LINK.LINK_STATE n) AMLOR_LINK.LINK_STATE_has h
theorem ARB_AT_has : Span.has (one ARB_AT) (ARB_AT) := ⟨0, 0, rfl⟩
theorem ARB_AT_in {W : List Span} : Covered ((one ARB_AT) :: W) (ARB_AT) :=
  ⟨_, List.mem_cons_self, ARB_AT_has⟩
theorem ARB_DOWN_has : Span.has (one ARB_DOWN) (ARB_DOWN) := ⟨0, 0, rfl⟩
theorem ARB_DOWN_in {W : List Span} : Covered ((one ARB_DOWN) :: W) (ARB_DOWN) :=
  ⟨_, List.mem_cons_self, ARB_DOWN_has⟩
theorem ASSIST_STATUS.ASSIST_CURRENT_has : Span.has (one ASSIST_STATUS.ASSIST_CURRENT) (ASSIST_STATUS.ASSIST_CURRENT) := ⟨0, 0, rfl⟩
theorem ASSIST_STATUS.ASSIST_CURRENT_in {W : List Span} : Covered ((one ASSIST_STATUS.ASSIST_CURRENT) :: W) (ASSIST_STATUS.ASSIST_CURRENT) :=
  ⟨_, List.mem_cons_self, ASSIST_STATUS.ASSIST_CURRENT_has⟩
theorem ASSIST_STATUS.ASSIST_RESULT_has : Span.has (one ASSIST_STATUS.ASSIST_RESULT) (ASSIST_STATUS.ASSIST_RESULT) := ⟨0, 0, rfl⟩
theorem ASSIST_STATUS.ASSIST_RESULT_in {W : List Span} : Covered ((one ASSIST_STATUS.ASSIST_RESULT) :: W) (ASSIST_STATUS.ASSIST_RESULT) :=
  ⟨_, List.mem_cons_self, ASSIST_STATUS.ASSIST_RESULT_has⟩
theorem ASSIST_STATUS.ASSIST_STATE_has : Span.has (one ASSIST_STATUS.ASSIST_STATE) (ASSIST_STATUS.ASSIST_STATE) := ⟨0, 0, rfl⟩
theorem ASSIST_STATUS.ASSIST_STATE_in {W : List Span} : Covered ((one ASSIST_STATUS.ASSIST_STATE) :: W) (ASSIST_STATUS.ASSIST_STATE) :=
  ⟨_, List.mem_cons_self, ASSIST_STATUS.ASSIST_STATE_has⟩
theorem ASSIST_STATUS.ASV_has : Span.has (one ASSIST_STATUS.ASV) (ASSIST_STATUS.ASV) := ⟨0, 0, rfl⟩
theorem ASSIST_STATUS.ASV_in {W : List Span} : Covered ((one ASSIST_STATUS.ASV) :: W) (ASSIST_STATUS.ASV) :=
  ⟨_, List.mem_cons_self, ASSIST_STATUS.ASV_has⟩
theorem ASSIST_STATUS.DELIVERED_CHARGE_has : Span.has (one ASSIST_STATUS.DELIVERED_CHARGE) (ASSIST_STATUS.DELIVERED_CHARGE) := ⟨0, 0, rfl⟩
theorem ASSIST_STATUS.DELIVERED_CHARGE_in {W : List Span} : Covered ((one ASSIST_STATUS.DELIVERED_CHARGE) :: W) (ASSIST_STATUS.DELIVERED_CHARGE) :=
  ⟨_, List.mem_cons_self, ASSIST_STATUS.DELIVERED_CHARGE_has⟩
theorem ASSIST_STATUS.SESSIONS_has : Span.has (one ASSIST_STATUS.SESSIONS) (ASSIST_STATUS.SESSIONS) := ⟨0, 0, rfl⟩
theorem ASSIST_STATUS.SESSIONS_in {W : List Span} : Covered ((one ASSIST_STATUS.SESSIONS) :: W) (ASSIST_STATUS.SESSIONS) :=
  ⟨_, List.mem_cons_self, ASSIST_STATUS.SESSIONS_has⟩
theorem AS_AT_has : Span.has (one AS_AT) (AS_AT) := ⟨0, 0, rfl⟩
theorem AS_AT_in {W : List Span} : Covered ((one AS_AT) :: W) (AS_AT) :=
  ⟨_, List.mem_cons_self, AS_AT_has⟩
theorem AS_CLOSED_has : Span.has (one AS_CLOSED) (AS_CLOSED) := ⟨0, 0, rfl⟩
theorem AS_CLOSED_in {W : List Span} : Covered ((one AS_CLOSED) :: W) (AS_CLOSED) :=
  ⟨_, List.mem_cons_self, AS_CLOSED_has⟩
theorem AS_END_has : Span.has (one AS_END) (AS_END) := ⟨0, 0, rfl⟩
theorem AS_END_in {W : List Span} : Covered ((one AS_END) :: W) (AS_END) :=
  ⟨_, List.mem_cons_self, AS_END_has⟩
theorem AS_END_AT_has : Span.has (one AS_END_AT) (AS_END_AT) := ⟨0, 0, rfl⟩
theorem AS_END_AT_in {W : List Span} : Covered ((one AS_END_AT) :: W) (AS_END_AT) :=
  ⟨_, List.mem_cons_self, AS_END_AT_has⟩
theorem AS_STATE_AT_has : Span.has (one AS_STATE_AT) (AS_STATE_AT) := ⟨0, 0, rfl⟩
theorem AS_STATE_AT_in {W : List Span} : Covered ((one AS_STATE_AT) :: W) (AS_STATE_AT) :=
  ⟨_, List.mem_cons_self, AS_STATE_AT_has⟩
theorem AS_TIME_has : Span.has (one AS_TIME) (AS_TIME) := ⟨0, 0, rfl⟩
theorem AS_TIME_in {W : List Span} : Covered ((one AS_TIME) :: W) (AS_TIME) :=
  ⟨_, List.mem_cons_self, AS_TIME_has⟩
theorem ATTEST_CONTROL.ATTESTATION_has (n : Nat) : Span.has (each ATTEST_CONTROL.ATTESTATION) (ATTEST_CONTROL.ATTESTATION n) := ⟨n, 0, by simp only [ATTEST_CONTROL.ATTESTATION]; omega⟩
theorem ATTEST_CONTROL.ATTESTATION_in {W : List Span} {n : Nat} : Covered ((each ATTEST_CONTROL.ATTESTATION) :: W) (ATTEST_CONTROL.ATTESTATION n) :=
  ⟨_, List.mem_cons_self, ATTEST_CONTROL.ATTESTATION_has _⟩
theorem ATTEST_CONTROL.ATTEST_STATE_has (n : Nat) : Span.has (each ATTEST_CONTROL.ATTEST_STATE) (ATTEST_CONTROL.ATTEST_STATE n) := ⟨n, 0, by simp only [ATTEST_CONTROL.ATTEST_STATE]; omega⟩
theorem ATTEST_CONTROL.ATTEST_STATE_in {W : List Span} {n : Nat} : Covered ((each ATTEST_CONTROL.ATTEST_STATE) :: W) (ATTEST_CONTROL.ATTEST_STATE n) :=
  ⟨_, List.mem_cons_self, ATTEST_CONTROL.ATTEST_STATE_has _⟩
theorem BACKUP_ANEW_has : Span.has (one BACKUP_ANEW) (BACKUP_ANEW) := ⟨0, 0, rfl⟩
theorem BACKUP_ANEW_in {W : List Span} : Covered ((one BACKUP_ANEW) :: W) (BACKUP_ANEW) :=
  ⟨_, List.mem_cons_self, BACKUP_ANEW_has⟩
theorem BACKUP_LOCKED_has : Span.has (one BACKUP_LOCKED) (BACKUP_LOCKED) := ⟨0, 0, rfl⟩
theorem BACKUP_LOCKED_in {W : List Span} : Covered ((one BACKUP_LOCKED) :: W) (BACKUP_LOCKED) :=
  ⟨_, List.mem_cons_self, BACKUP_LOCKED_has⟩
theorem BACK_ALARM_has : Span.has (one BACK_ALARM) (BACK_ALARM) := ⟨0, 0, rfl⟩
theorem BACK_ALARM_in {W : List Span} : Covered ((one BACK_ALARM) :: W) (BACK_ALARM) :=
  ⟨_, List.mem_cons_self, BACK_ALARM_has⟩
theorem BACK_ENABLE_has : Span.has (one BACK_ENABLE) (BACK_ENABLE) := ⟨0, 0, rfl⟩
theorem BACK_ENABLE_in {W : List Span} : Covered ((one BACK_ENABLE) :: W) (BACK_ENABLE) :=
  ⟨_, List.mem_cons_self, BACK_ENABLE_has⟩
theorem BACK_FILTER_has : Span.has (one BACK_FILTER) (BACK_FILTER) := ⟨0, 0, rfl⟩
theorem BACK_FILTER_in {W : List Span} : Covered ((one BACK_FILTER) :: W) (BACK_FILTER) :=
  ⟨_, List.mem_cons_self, BACK_FILTER_has⟩
theorem BACK_POLARITY_has : Span.has (one BACK_POLARITY) (BACK_POLARITY) := ⟨0, 0, rfl⟩
theorem BACK_POLARITY_in {W : List Span} : Covered ((one BACK_POLARITY) :: W) (BACK_POLARITY) :=
  ⟨_, List.mem_cons_self, BACK_POLARITY_has⟩
theorem BACK_REPEAT_has : Span.has (one BACK_REPEAT) (BACK_REPEAT) := ⟨0, 0, rfl⟩
theorem BACK_REPEAT_in {W : List Span} : Covered ((one BACK_REPEAT) :: W) (BACK_REPEAT) :=
  ⟨_, List.mem_cons_self, BACK_REPEAT_has⟩
theorem BACK_SENSE_has : Span.has (one BACK_SENSE) (BACK_SENSE) := ⟨0, 0, rfl⟩
theorem BACK_SENSE_in {W : List Span} : Covered ((one BACK_SENSE) :: W) (BACK_SENSE) :=
  ⟨_, List.mem_cons_self, BACK_SENSE_has⟩
theorem BACK_SOURCES_has : Span.has (one BACK_SOURCES) (BACK_SOURCES) := ⟨0, 0, rfl⟩
theorem BACK_SOURCES_in {W : List Span} : Covered ((one BACK_SOURCES) :: W) (BACK_SOURCES) :=
  ⟨_, List.mem_cons_self, BACK_SOURCES_has⟩
theorem BACK_TRIM_has : Span.has (one BACK_TRIM) (BACK_TRIM) := ⟨0, 0, rfl⟩
theorem BACK_TRIM_in {W : List Span} : Covered ((one BACK_TRIM) :: W) (BACK_TRIM) :=
  ⟨_, List.mem_cons_self, BACK_TRIM_has⟩
theorem BAD_FRAMES_has (n : Nat) : Span.has (each BAD_FRAMES) (BAD_FRAMES n) := ⟨n, 0, by simp only [BAD_FRAMES, internal]; omega⟩
theorem BAD_FRAMES_wide {a b : List Span} {n : Nat} (h : Inside a ((each BAD_FRAMES) :: b)) :
    Inside (one (BAD_FRAMES n) :: a) ((each BAD_FRAMES) :: b) := Inside.wide (f := fun n => BAD_FRAMES n) BAD_FRAMES_has h
theorem BANK.BANK_FLAGS_has (n : Nat) : Span.has (each BANK.BANK_FLAGS) (BANK.BANK_FLAGS n) := ⟨n, 0, by simp only [BANK.BANK_FLAGS]; omega⟩
theorem BANK.BANK_FLAGS_wide {a b : List Span} {n : Nat} (h : Inside a ((each BANK.BANK_FLAGS) :: b)) :
    Inside (one (BANK.BANK_FLAGS n) :: a) ((each BANK.BANK_FLAGS) :: b) := Inside.wide (f := fun n => BANK.BANK_FLAGS n) BANK.BANK_FLAGS_has h
theorem BANK.PUMP_HEADROOM_has (n : Nat) : Span.has (each BANK.PUMP_HEADROOM) (BANK.PUMP_HEADROOM n) := ⟨n, 0, by simp only [BANK.PUMP_HEADROOM]; omega⟩
theorem BANK.PUMP_HEADROOM_wide {a b : List Span} {n : Nat} (h : Inside a ((each BANK.PUMP_HEADROOM) :: b)) :
    Inside (one (BANK.PUMP_HEADROOM n) :: a) ((each BANK.PUMP_HEADROOM) :: b) := Inside.wide (f := fun n => BANK.PUMP_HEADROOM n) BANK.PUMP_HEADROOM_has h
theorem BANK.VBUS_has (n : Nat) : Span.has (each BANK.VBUS) (BANK.VBUS n) := ⟨n, 0, by simp only [BANK.VBUS]; omega⟩
theorem BANK.VBUS_wide {a b : List Span} {n : Nat} (h : Inside a ((each BANK.VBUS) :: b)) :
    Inside (one (BANK.VBUS n) :: a) ((each BANK.VBUS) :: b) := Inside.wide (f := fun n => BANK.VBUS n) BANK.VBUS_has h
theorem BANK.VBUS_INST_has (n : Nat) : Span.has (each BANK.VBUS_INST) (BANK.VBUS_INST n) := ⟨n, 0, by simp only [BANK.VBUS_INST]; omega⟩
theorem BANK.VBUS_INST_wide {a b : List Span} {n : Nat} (h : Inside a ((each BANK.VBUS_INST) :: b)) :
    Inside (one (BANK.VBUS_INST n) :: a) ((each BANK.VBUS_INST) :: b) := Inside.wide (f := fun n => BANK.VBUS_INST n) BANK.VBUS_INST_has h
theorem BATTERY_RECORD.SEQUENCE_has : Span.has (one BATTERY_RECORD.SEQUENCE) (BATTERY_RECORD.SEQUENCE) := ⟨0, 0, rfl⟩
theorem BATTERY_RECORD.SEQUENCE_in {W : List Span} : Covered ((one BATTERY_RECORD.SEQUENCE) :: W) (BATTERY_RECORD.SEQUENCE) :=
  ⟨_, List.mem_cons_self, BATTERY_RECORD.SEQUENCE_has⟩
theorem BATTERY_SWITCH.FORWARD_has : Span.has (one BATTERY_SWITCH.FORWARD) (BATTERY_SWITCH.FORWARD) := ⟨0, 0, rfl⟩
theorem BATTERY_SWITCH.FORWARD_in {W : List Span} : Covered ((one BATTERY_SWITCH.FORWARD) :: W) (BATTERY_SWITCH.FORWARD) :=
  ⟨_, List.mem_cons_self, BATTERY_SWITCH.FORWARD_has⟩
theorem BATTERY_SWITCH.MODE_has : Span.has (one BATTERY_SWITCH.MODE) (BATTERY_SWITCH.MODE) := ⟨0, 0, rfl⟩
theorem BATTERY_SWITCH.MODE_in {W : List Span} : Covered ((one BATTERY_SWITCH.MODE) :: W) (BATTERY_SWITCH.MODE) :=
  ⟨_, List.mem_cons_self, BATTERY_SWITCH.MODE_has⟩
theorem BATTERY_SWITCH.MODE_IN_EFFECT_has : Span.has (one BATTERY_SWITCH.MODE_IN_EFFECT) (BATTERY_SWITCH.MODE_IN_EFFECT) := ⟨0, 0, rfl⟩
theorem BATTERY_SWITCH.MODE_IN_EFFECT_in {W : List Span} : Covered ((one BATTERY_SWITCH.MODE_IN_EFFECT) :: W) (BATTERY_SWITCH.MODE_IN_EFFECT) :=
  ⟨_, List.mem_cons_self, BATTERY_SWITCH.MODE_IN_EFFECT_has⟩
theorem BATTERY_SWITCH.OPEN_CAUSE_has : Span.has (one BATTERY_SWITCH.OPEN_CAUSE) (BATTERY_SWITCH.OPEN_CAUSE) := ⟨0, 0, rfl⟩
theorem BATTERY_SWITCH.OPEN_CAUSE_in {W : List Span} : Covered ((one BATTERY_SWITCH.OPEN_CAUSE) :: W) (BATTERY_SWITCH.OPEN_CAUSE) :=
  ⟨_, List.mem_cons_self, BATTERY_SWITCH.OPEN_CAUSE_has⟩
theorem BATTERY_SWITCH.SWITCH_TRIPS_has : Span.has (one BATTERY_SWITCH.SWITCH_TRIPS) (BATTERY_SWITCH.SWITCH_TRIPS) := ⟨0, 0, rfl⟩
theorem BATTERY_SWITCH.SWITCH_TRIPS_in {W : List Span} : Covered ((one BATTERY_SWITCH.SWITCH_TRIPS) :: W) (BATTERY_SWITCH.SWITCH_TRIPS) :=
  ⟨_, List.mem_cons_self, BATTERY_SWITCH.SWITCH_TRIPS_has⟩
theorem BATTERY_SWITCH.V_BATTERY_has : Span.has (one BATTERY_SWITCH.V_BATTERY) (BATTERY_SWITCH.V_BATTERY) := ⟨0, 0, rfl⟩
theorem BATTERY_SWITCH.V_BATTERY_in {W : List Span} : Covered ((one BATTERY_SWITCH.V_BATTERY) :: W) (BATTERY_SWITCH.V_BATTERY) :=
  ⟨_, List.mem_cons_self, BATTERY_SWITCH.V_BATTERY_has⟩
theorem BATTERY_SWITCH.V_NETWORK_has : Span.has (one BATTERY_SWITCH.V_NETWORK) (BATTERY_SWITCH.V_NETWORK) := ⟨0, 0, rfl⟩
theorem BATTERY_SWITCH.V_NETWORK_in {W : List Span} : Covered ((one BATTERY_SWITCH.V_NETWORK) :: W) (BATTERY_SWITCH.V_NETWORK) :=
  ⟨_, List.mem_cons_self, BATTERY_SWITCH.V_NETWORK_has⟩
theorem BLANK_UNTIL_has (n : Nat) : Span.has (each BLANK_UNTIL) (BLANK_UNTIL n) := ⟨n, 0, by simp only [BLANK_UNTIL, internal]; omega⟩
theorem BLANK_UNTIL_in {W : List Span} {n : Nat} : Covered ((each BLANK_UNTIL) :: W) (BLANK_UNTIL n) :=
  ⟨_, List.mem_cons_self, BLANK_UNTIL_has _⟩
theorem BLANK_UNTIL_wide {a b : List Span} {n : Nat} (h : Inside a ((each BLANK_UNTIL) :: b)) :
    Inside (one (BLANK_UNTIL n) :: a) ((each BLANK_UNTIL) :: b) := Inside.wide (f := fun n => BLANK_UNTIL n) BLANK_UNTIL_has h
theorem BSW_CNT_has (n : Nat) : Span.has (each BSW_CNT) (BSW_CNT n) := ⟨n, 0, by simp only [BSW_CNT, internal]; omega⟩
theorem BSW_CNT_in {W : List Span} {n : Nat} : Covered ((each BSW_CNT) :: W) (BSW_CNT n) :=
  ⟨_, List.mem_cons_self, BSW_CNT_has _⟩
theorem BSW_SUM_has (n m : Nat) : Span.has (each2 BSW_SUM) (BSW_SUM n m) := ⟨n, m, by simp only [BSW_SUM, internal]; omega⟩
theorem BSW_SUM_in {W : List Span} {n m : Nat} : Covered ((each2 BSW_SUM) :: W) (BSW_SUM n m) :=
  ⟨_, List.mem_cons_self, BSW_SUM_has _ _⟩
theorem BTN_FELL_has : Span.has (one BTN_FELL) (BTN_FELL) := ⟨0, 0, rfl⟩
theorem BTN_FELL_in {W : List Span} : Covered ((one BTN_FELL) :: W) (BTN_FELL) :=
  ⟨_, List.mem_cons_self, BTN_FELL_has⟩
theorem BTN_LONG_has : Span.has (one BTN_LONG) (BTN_LONG) := ⟨0, 0, rfl⟩
theorem BTN_LONG_in {W : List Span} : Covered ((one BTN_LONG) :: W) (BTN_LONG) :=
  ⟨_, List.mem_cons_self, BTN_LONG_has⟩
theorem BUDGET_GROUP.FORCED_COUNT_has (n : Nat) : Span.has (each BUDGET_GROUP.FORCED_COUNT) (BUDGET_GROUP.FORCED_COUNT n) := ⟨n, 0, by simp only [BUDGET_GROUP.FORCED_COUNT]; omega⟩
theorem BUDGET_GROUP.FORCED_COUNT_wide {a b : List Span} {n : Nat} (h : Inside a ((each BUDGET_GROUP.FORCED_COUNT) :: b)) :
    Inside (one (BUDGET_GROUP.FORCED_COUNT n) :: a) ((each BUDGET_GROUP.FORCED_COUNT) :: b) := Inside.wide (f := fun n => BUDGET_GROUP.FORCED_COUNT n) BUDGET_GROUP.FORCED_COUNT_has h
theorem BUDGET_GROUP.GROUP_LOAD_has (n : Nat) : Span.has (each BUDGET_GROUP.GROUP_LOAD) (BUDGET_GROUP.GROUP_LOAD n) := ⟨n, 0, by simp only [BUDGET_GROUP.GROUP_LOAD]; omega⟩
theorem BUDGET_GROUP.GROUP_LOAD_wide {a b : List Span} {n : Nat} (h : Inside a ((each BUDGET_GROUP.GROUP_LOAD) :: b)) :
    Inside (one (BUDGET_GROUP.GROUP_LOAD n) :: a) ((each BUDGET_GROUP.GROUP_LOAD) :: b) := Inside.wide (f := fun n => BUDGET_GROUP.GROUP_LOAD n) BUDGET_GROUP.GROUP_LOAD_has h
theorem BUDGET_GROUP.LONGEST_WAIT_has (n : Nat) : Span.has (each BUDGET_GROUP.LONGEST_WAIT) (BUDGET_GROUP.LONGEST_WAIT n) := ⟨n, 0, by simp only [BUDGET_GROUP.LONGEST_WAIT]; omega⟩
theorem BUDGET_GROUP.LONGEST_WAIT_wide {a b : List Span} {n : Nat} (h : Inside a ((each BUDGET_GROUP.LONGEST_WAIT) :: b)) :
    Inside (one (BUDGET_GROUP.LONGEST_WAIT n) :: a) ((each BUDGET_GROUP.LONGEST_WAIT) :: b) := Inside.wide (f := fun n => BUDGET_GROUP.LONGEST_WAIT n) BUDGET_GROUP.LONGEST_WAIT_has h
theorem BUDGET_GROUP.SHARES_HELD_has (n : Nat) : Span.has (each BUDGET_GROUP.SHARES_HELD) (BUDGET_GROUP.SHARES_HELD n) := ⟨n, 0, by simp only [BUDGET_GROUP.SHARES_HELD]; omega⟩
theorem BUDGET_GROUP.SHARES_HELD_wide {a b : List Span} {n : Nat} (h : Inside a ((each BUDGET_GROUP.SHARES_HELD) :: b)) :
    Inside (one (BUDGET_GROUP.SHARES_HELD n) :: a) ((each BUDGET_GROUP.SHARES_HELD) :: b) := Inside.wide (f := fun n => BUDGET_GROUP.SHARES_HELD n) BUDGET_GROUP.SHARES_HELD_has h
theorem BUDGET_GROUP.WAITING_has (n : Nat) : Span.has (each BUDGET_GROUP.WAITING) (BUDGET_GROUP.WAITING n) := ⟨n, 0, by simp only [BUDGET_GROUP.WAITING]; omega⟩
theorem BUDGET_GROUP.WAITING_wide {a b : List Span} {n : Nat} (h : Inside a ((each BUDGET_GROUP.WAITING) :: b)) :
    Inside (one (BUDGET_GROUP.WAITING n) :: a) ((each BUDGET_GROUP.WAITING) :: b) := Inside.wide (f := fun n => BUDGET_GROUP.WAITING n) BUDGET_GROUP.WAITING_has h
theorem BUDGET_OVER_has (n : Nat) : Span.has (each BUDGET_OVER) (BUDGET_OVER n) := ⟨n, 0, by simp only [BUDGET_OVER, internal]; omega⟩
theorem BUDGET_OVER_wide {a b : List Span} {n : Nat} (h : Inside a ((each BUDGET_OVER) :: b)) :
    Inside (one (BUDGET_OVER n) :: a) ((each BUDGET_OVER) :: b) := Inside.wide (f := fun n => BUDGET_OVER n) BUDGET_OVER_has h
theorem CAL_AT_has (n : Nat) : Span.has (each CAL_AT) (CAL_AT n) := ⟨n, 0, by simp only [CAL_AT, internal]; omega⟩
theorem CAL_AT_in {W : List Span} {n : Nat} : Covered ((each CAL_AT) :: W) (CAL_AT n) :=
  ⟨_, List.mem_cons_self, CAL_AT_has _⟩
theorem CAL_AT_wide {a b : List Span} {n : Nat} (h : Inside a ((each CAL_AT) :: b)) :
    Inside (one (CAL_AT n) :: a) ((each CAL_AT) :: b) := Inside.wide (f := fun n => CAL_AT n) CAL_AT_has h
theorem CAL_DIFF_has (n m : Nat) : Span.has (each2 CAL_DIFF) (CAL_DIFF n m) := ⟨n, m, by simp only [CAL_DIFF, internal]; omega⟩
theorem CAL_DIFF_wide {a b : List Span} {n m : Nat} (h : Inside a ((each2 CAL_DIFF) :: b)) :
    Inside (one (CAL_DIFF n m) :: a) ((each2 CAL_DIFF) :: b) := Inside.wide2 (f := fun n m => CAL_DIFF n m) CAL_DIFF_has h
theorem CAL_GAIN_has (n m : Nat) : Span.has (each2 CAL_GAIN) (CAL_GAIN n m) := ⟨n, m, by simp only [CAL_GAIN, internal]; omega⟩
theorem CAL_GAIN_wide {a b : List Span} {n m : Nat} (h : Inside a ((each2 CAL_GAIN) :: b)) :
    Inside (one (CAL_GAIN n m) :: a) ((each2 CAL_GAIN) :: b) := Inside.wide2 (f := fun n m => CAL_GAIN n m) CAL_GAIN_has h
theorem CAL_OFFSET_has (n m : Nat) : Span.has (each2 CAL_OFFSET) (CAL_OFFSET n m) := ⟨n, m, by simp only [CAL_OFFSET, internal]; omega⟩
theorem CAL_OFFSET_wide {a b : List Span} {n m : Nat} (h : Inside a ((each2 CAL_OFFSET) :: b)) :
    Inside (one (CAL_OFFSET n m) :: a) ((each2 CAL_OFFSET) :: b) := Inside.wide2 (f := fun n m => CAL_OFFSET n m) CAL_OFFSET_has h
theorem CAL_PAUSED_has (n : Nat) : Span.has (each CAL_PAUSED) (CAL_PAUSED n) := ⟨n, 0, by simp only [CAL_PAUSED, internal]; omega⟩
theorem CAL_PAUSED_wide {a b : List Span} {n : Nat} (h : Inside a ((each CAL_PAUSED) :: b)) :
    Inside (one (CAL_PAUSED n) :: a) ((each CAL_PAUSED) :: b) := Inside.wide (f := fun n => CAL_PAUSED n) CAL_PAUSED_has h
theorem CAL_POS_AT_has (n : Nat) : Span.has (each CAL_POS_AT) (CAL_POS_AT n) := ⟨n, 0, by simp only [CAL_POS_AT, internal]; omega⟩
theorem CAL_POS_AT_wide {a b : List Span} {n : Nat} (h : Inside a ((each CAL_POS_AT) :: b)) :
    Inside (one (CAL_POS_AT n) :: a) ((each CAL_POS_AT) :: b) := Inside.wide (f := fun n => CAL_POS_AT n) CAL_POS_AT_has h
theorem CAN_MAY_has (n : Nat) : Span.has (each CAN_MAY) (CAN_MAY n) := ⟨n, 0, by simp only [CAN_MAY, internal]; omega⟩
theorem CAN_MAY_wide {a b : List Span} {n : Nat} (h : Inside a ((each CAN_MAY) :: b)) :
    Inside (one (CAN_MAY n) :: a) ((each CAN_MAY) :: b) := Inside.wide (f := fun n => CAN_MAY n) CAN_MAY_has h
theorem CAN_PORT.BUS_STATE_has (n : Nat) : Span.has (each CAN_PORT.BUS_STATE) (CAN_PORT.BUS_STATE n) := ⟨n, 0, by simp only [CAN_PORT.BUS_STATE]; omega⟩
theorem CAN_PORT.BUS_STATE_wide {a b : List Span} {n : Nat} (h : Inside a ((each CAN_PORT.BUS_STATE) :: b)) :
    Inside (one (CAN_PORT.BUS_STATE n) :: a) ((each CAN_PORT.BUS_STATE) :: b) := Inside.wide (f := fun n => CAN_PORT.BUS_STATE n) CAN_PORT.BUS_STATE_has h
theorem CAN_PORT.EMCY_DROPS_has (n : Nat) : Span.has (each CAN_PORT.EMCY_DROPS) (CAN_PORT.EMCY_DROPS n) := ⟨n, 0, by simp only [CAN_PORT.EMCY_DROPS]; omega⟩
theorem CAN_PORT.EMCY_DROPS_in {W : List Span} {n : Nat} : Covered ((each CAN_PORT.EMCY_DROPS) :: W) (CAN_PORT.EMCY_DROPS n) :=
  ⟨_, List.mem_cons_self, CAN_PORT.EMCY_DROPS_has _⟩
theorem CAN_PORT.REC_has (n : Nat) : Span.has (each CAN_PORT.REC) (CAN_PORT.REC n) := ⟨n, 0, by simp only [CAN_PORT.REC]; omega⟩
theorem CAN_PORT.REC_wide {a b : List Span} {n : Nat} (h : Inside a ((each CAN_PORT.REC) :: b)) :
    Inside (one (CAN_PORT.REC n) :: a) ((each CAN_PORT.REC) :: b) := Inside.wide (f := fun n => CAN_PORT.REC n) CAN_PORT.REC_has h
theorem CAN_PORT.RX_FRAMES_has (n : Nat) : Span.has (each CAN_PORT.RX_FRAMES) (CAN_PORT.RX_FRAMES n) := ⟨n, 0, by simp only [CAN_PORT.RX_FRAMES]; omega⟩
theorem CAN_PORT.RX_FRAMES_in {W : List Span} {n : Nat} : Covered ((each CAN_PORT.RX_FRAMES) :: W) (CAN_PORT.RX_FRAMES n) :=
  ⟨_, List.mem_cons_self, CAN_PORT.RX_FRAMES_has _⟩
theorem CAN_PORT.TEC_has (n : Nat) : Span.has (each CAN_PORT.TEC) (CAN_PORT.TEC n) := ⟨n, 0, by simp only [CAN_PORT.TEC]; omega⟩
theorem CAN_PORT.TEC_wide {a b : List Span} {n : Nat} (h : Inside a ((each CAN_PORT.TEC) :: b)) :
    Inside (one (CAN_PORT.TEC n) :: a) ((each CAN_PORT.TEC) :: b) := Inside.wide (f := fun n => CAN_PORT.TEC n) CAN_PORT.TEC_has h
theorem CAN_PORT.TX_FRAMES_has (n : Nat) : Span.has (each CAN_PORT.TX_FRAMES) (CAN_PORT.TX_FRAMES n) := ⟨n, 0, by simp only [CAN_PORT.TX_FRAMES]; omega⟩
theorem CAN_PORT.TX_FRAMES_wide {a b : List Span} {n : Nat} (h : Inside a ((each CAN_PORT.TX_FRAMES) :: b)) :
    Inside (one (CAN_PORT.TX_FRAMES n) :: a) ((each CAN_PORT.TX_FRAMES) :: b) := Inside.wide (f := fun n => CAN_PORT.TX_FRAMES n) CAN_PORT.TX_FRAMES_has h
theorem CAP_RING_has (n m : Nat) : Span.has (each2 CAP_RING) (CAP_RING n m) := ⟨n, m, by simp only [CAP_RING, internal]; omega⟩
theorem CAP_RING_in {W : List Span} {n m : Nat} : Covered ((each2 CAP_RING) :: W) (CAP_RING n m) :=
  ⟨_, List.mem_cons_self, CAP_RING_has _ _⟩
theorem CAP_RING_wide {a b : List Span} {n m : Nat} (h : Inside a ((each2 CAP_RING) :: b)) :
    Inside (one (CAP_RING n m) :: a) ((each2 CAP_RING) :: b) := Inside.wide2 (f := fun n m => CAP_RING n m) CAP_RING_has h
theorem CAP_SEEN_has (n : Nat) : Span.has (each CAP_SEEN) (CAP_SEEN n) := ⟨n, 0, by simp only [CAP_SEEN, internal]; omega⟩
theorem CAP_SEEN_in {W : List Span} {n : Nat} : Covered ((each CAP_SEEN) :: W) (CAP_SEEN n) :=
  ⟨_, List.mem_cons_self, CAP_SEEN_has _⟩
theorem CASTLING_PAIR.SWAP_RESULT_has (n : Nat) : Span.has (each CASTLING_PAIR.SWAP_RESULT) (CASTLING_PAIR.SWAP_RESULT n) := ⟨n, 0, by simp only [CASTLING_PAIR.SWAP_RESULT]; omega⟩
theorem CASTLING_PAIR.SWAP_RESULT_in {W : List Span} {n : Nat} : Covered ((each CASTLING_PAIR.SWAP_RESULT) :: W) (CASTLING_PAIR.SWAP_RESULT n) :=
  ⟨_, List.mem_cons_self, CASTLING_PAIR.SWAP_RESULT_has _⟩
theorem CASTLING_PAIR.SWAP_RESULT_wide {a b : List Span} {n : Nat} (h : Inside a ((each CASTLING_PAIR.SWAP_RESULT) :: b)) :
    Inside (one (CASTLING_PAIR.SWAP_RESULT n) :: a) ((each CASTLING_PAIR.SWAP_RESULT) :: b) := Inside.wide (f := fun n => CASTLING_PAIR.SWAP_RESULT n) CASTLING_PAIR.SWAP_RESULT_has h
theorem CASTLING_PAIR.SWAP_STATE_has (n : Nat) : Span.has (each CASTLING_PAIR.SWAP_STATE) (CASTLING_PAIR.SWAP_STATE n) := ⟨n, 0, by simp only [CASTLING_PAIR.SWAP_STATE]; omega⟩
theorem CASTLING_PAIR.SWAP_STATE_in {W : List Span} {n : Nat} : Covered ((each CASTLING_PAIR.SWAP_STATE) :: W) (CASTLING_PAIR.SWAP_STATE n) :=
  ⟨_, List.mem_cons_self, CASTLING_PAIR.SWAP_STATE_has _⟩
theorem CASTLING_PAIR.SWAP_STATE_wide {a b : List Span} {n : Nat} (h : Inside a ((each CASTLING_PAIR.SWAP_STATE) :: b)) :
    Inside (one (CASTLING_PAIR.SWAP_STATE n) :: a) ((each CASTLING_PAIR.SWAP_STATE) :: b) := Inside.wide (f := fun n => CASTLING_PAIR.SWAP_STATE n) CASTLING_PAIR.SWAP_STATE_has h
theorem CELL_has (n : Nat) : Span.has (each CELL) (CELL n) := ⟨n, 0, by simp only [CELL, internal]; omega⟩
theorem CELL_in {W : List Span} {n : Nat} : Covered ((each CELL) :: W) (CELL n) :=
  ⟨_, List.mem_cons_self, CELL_has _⟩
theorem CELL_wide {a b : List Span} {n : Nat} (h : Inside a ((each CELL) :: b)) :
    Inside (one (CELL n) :: a) ((each CELL) :: b) := Inside.wide (f := fun n => CELL n) CELL_has h
theorem CHANNEL_CONFIG.REQUEST_has (n : Nat) : Span.has (each CHANNEL_CONFIG.REQUEST) (CHANNEL_CONFIG.REQUEST n) := ⟨n, 0, by simp only [CHANNEL_CONFIG.REQUEST]; omega⟩
theorem CHANNEL_CONFIG.REQUEST_in {W : List Span} {n : Nat} : Covered ((each CHANNEL_CONFIG.REQUEST) :: W) (CHANNEL_CONFIG.REQUEST n) :=
  ⟨_, List.mem_cons_self, CHANNEL_CONFIG.REQUEST_has _⟩
theorem CHANNEL_CONFIG.REQUEST_wide {a b : List Span} {n : Nat} (h : Inside a ((each CHANNEL_CONFIG.REQUEST) :: b)) :
    Inside (one (CHANNEL_CONFIG.REQUEST n) :: a) ((each CHANNEL_CONFIG.REQUEST) :: b) := Inside.wide (f := fun n => CHANNEL_CONFIG.REQUEST n) CHANNEL_CONFIG.REQUEST_has h
theorem CHANNEL_PROTECTION.ADMIT_WAIT_has (n : Nat) : Span.has (each CHANNEL_PROTECTION.ADMIT_WAIT) (CHANNEL_PROTECTION.ADMIT_WAIT n) := ⟨n, 0, by simp only [CHANNEL_PROTECTION.ADMIT_WAIT]; omega⟩
theorem CHANNEL_PROTECTION.ADMIT_WAIT_in {W : List Span} {n : Nat} : Covered ((each CHANNEL_PROTECTION.ADMIT_WAIT) :: W) (CHANNEL_PROTECTION.ADMIT_WAIT n) :=
  ⟨_, List.mem_cons_self, CHANNEL_PROTECTION.ADMIT_WAIT_has _⟩
theorem CHANNEL_PROTECTION.ADMIT_WAIT_wide {a b : List Span} {n : Nat} (h : Inside a ((each CHANNEL_PROTECTION.ADMIT_WAIT) :: b)) :
    Inside (one (CHANNEL_PROTECTION.ADMIT_WAIT n) :: a) ((each CHANNEL_PROTECTION.ADMIT_WAIT) :: b) := Inside.wide (f := fun n => CHANNEL_PROTECTION.ADMIT_WAIT n) CHANNEL_PROTECTION.ADMIT_WAIT_has h
theorem CHANNEL_PROTECTION.FET_TEMP_has (n : Nat) : Span.has (each CHANNEL_PROTECTION.FET_TEMP) (CHANNEL_PROTECTION.FET_TEMP n) := ⟨n, 0, by simp only [CHANNEL_PROTECTION.FET_TEMP]; omega⟩
theorem CHANNEL_PROTECTION.FET_TEMP_wide {a b : List Span} {n : Nat} (h : Inside a ((each CHANNEL_PROTECTION.FET_TEMP) :: b)) :
    Inside (one (CHANNEL_PROTECTION.FET_TEMP n) :: a) ((each CHANNEL_PROTECTION.FET_TEMP) :: b) := Inside.wide (f := fun n => CHANNEL_PROTECTION.FET_TEMP n) CHANNEL_PROTECTION.FET_TEMP_has h
theorem CHANNEL_PROTECTION.MODEL_FLAGS_has (n : Nat) : Span.has (each CHANNEL_PROTECTION.MODEL_FLAGS) (CHANNEL_PROTECTION.MODEL_FLAGS n) := ⟨n, 0, by simp only [CHANNEL_PROTECTION.MODEL_FLAGS]; omega⟩
theorem CHANNEL_PROTECTION.MODEL_FLAGS_wide {a b : List Span} {n : Nat} (h : Inside a ((each CHANNEL_PROTECTION.MODEL_FLAGS) :: b)) :
    Inside (one (CHANNEL_PROTECTION.MODEL_FLAGS n) :: a) ((each CHANNEL_PROTECTION.MODEL_FLAGS) :: b) := Inside.wide (f := fun n => CHANNEL_PROTECTION.MODEL_FLAGS n) CHANNEL_PROTECTION.MODEL_FLAGS_has h
theorem CHANNEL_PROTECTION.RETRIES_LEFT_has (n : Nat) : Span.has (each CHANNEL_PROTECTION.RETRIES_LEFT) (CHANNEL_PROTECTION.RETRIES_LEFT n) := ⟨n, 0, by simp only [CHANNEL_PROTECTION.RETRIES_LEFT]; omega⟩
theorem CHANNEL_PROTECTION.RETRIES_LEFT_in {W : List Span} {n : Nat} : Covered ((each CHANNEL_PROTECTION.RETRIES_LEFT) :: W) (CHANNEL_PROTECTION.RETRIES_LEFT n) :=
  ⟨_, List.mem_cons_self, CHANNEL_PROTECTION.RETRIES_LEFT_has _⟩
theorem CHANNEL_PROTECTION.RETRIES_LEFT_wide {a b : List Span} {n : Nat} (h : Inside a ((each CHANNEL_PROTECTION.RETRIES_LEFT) :: b)) :
    Inside (one (CHANNEL_PROTECTION.RETRIES_LEFT n) :: a) ((each CHANNEL_PROTECTION.RETRIES_LEFT) :: b) := Inside.wide (f := fun n => CHANNEL_PROTECTION.RETRIES_LEFT n) CHANNEL_PROTECTION.RETRIES_LEFT_has h
theorem CHANNEL_PROTECTION.WIRE_RISE_has (n : Nat) : Span.has (each CHANNEL_PROTECTION.WIRE_RISE) (CHANNEL_PROTECTION.WIRE_RISE n) := ⟨n, 0, by simp only [CHANNEL_PROTECTION.WIRE_RISE]; omega⟩
theorem CHANNEL_PROTECTION.WIRE_RISE_wide {a b : List Span} {n : Nat} (h : Inside a ((each CHANNEL_PROTECTION.WIRE_RISE) :: b)) :
    Inside (one (CHANNEL_PROTECTION.WIRE_RISE n) :: a) ((each CHANNEL_PROTECTION.WIRE_RISE) :: b) := Inside.wide (f := fun n => CHANNEL_PROTECTION.WIRE_RISE n) CHANNEL_PROTECTION.WIRE_RISE_has h
theorem CHANNEL_STATUS.FLAGS_has (n : Nat) : Span.has (each CHANNEL_STATUS.FLAGS) (CHANNEL_STATUS.FLAGS n) := ⟨n, 0, by simp only [CHANNEL_STATUS.FLAGS]; omega⟩
theorem CHANNEL_STATUS.FLAGS_wide {a b : List Span} {n : Nat} (h : Inside a ((each CHANNEL_STATUS.FLAGS) :: b)) :
    Inside (one (CHANNEL_STATUS.FLAGS n) :: a) ((each CHANNEL_STATUS.FLAGS) :: b) := Inside.wide (f := fun n => CHANNEL_STATUS.FLAGS n) CHANNEL_STATUS.FLAGS_has h
theorem CHANNEL_STATUS.I_INST_has (n : Nat) : Span.has (each CHANNEL_STATUS.I_INST) (CHANNEL_STATUS.I_INST n) := ⟨n, 0, by simp only [CHANNEL_STATUS.I_INST]; omega⟩
theorem CHANNEL_STATUS.I_INST_wide {a b : List Span} {n : Nat} (h : Inside a ((each CHANNEL_STATUS.I_INST) :: b)) :
    Inside (one (CHANNEL_STATUS.I_INST n) :: a) ((each CHANNEL_STATUS.I_INST) :: b) := Inside.wide (f := fun n => CHANNEL_STATUS.I_INST n) CHANNEL_STATUS.I_INST_has h
theorem CHANNEL_STATUS.I_MEAN_has (n : Nat) : Span.has (each CHANNEL_STATUS.I_MEAN) (CHANNEL_STATUS.I_MEAN n) := ⟨n, 0, by simp only [CHANNEL_STATUS.I_MEAN]; omega⟩
theorem CHANNEL_STATUS.I_MEAN_wide {a b : List Span} {n : Nat} (h : Inside a ((each CHANNEL_STATUS.I_MEAN) :: b)) :
    Inside (one (CHANNEL_STATUS.I_MEAN n) :: a) ((each CHANNEL_STATUS.I_MEAN) :: b) := Inside.wide (f := fun n => CHANNEL_STATUS.I_MEAN n) CHANNEL_STATUS.I_MEAN_has h
theorem CHANNEL_STATUS.I_PEAK_has (n m : Nat) : Span.has (each2 CHANNEL_STATUS.I_PEAK) (CHANNEL_STATUS.I_PEAK n m) := ⟨n, m, by simp only [CHANNEL_STATUS.I_PEAK]; omega⟩
theorem CHANNEL_STATUS.I_PEAK_in {W : List Span} {n m : Nat} : Covered ((each2 CHANNEL_STATUS.I_PEAK) :: W) (CHANNEL_STATUS.I_PEAK n m) :=
  ⟨_, List.mem_cons_self, CHANNEL_STATUS.I_PEAK_has _ _⟩
theorem CHANNEL_STATUS.I_RMS_has (n : Nat) : Span.has (each CHANNEL_STATUS.I_RMS) (CHANNEL_STATUS.I_RMS n) := ⟨n, 0, by simp only [CHANNEL_STATUS.I_RMS]; omega⟩
theorem CHANNEL_STATUS.I_RMS_wide {a b : List Span} {n : Nat} (h : Inside a ((each CHANNEL_STATUS.I_RMS) :: b)) :
    Inside (one (CHANNEL_STATUS.I_RMS n) :: a) ((each CHANNEL_STATUS.I_RMS) :: b) := Inside.wide (f := fun n => CHANNEL_STATUS.I_RMS n) CHANNEL_STATUS.I_RMS_has h
theorem CHANNEL_STATUS.MEAS_FRAME_has (n : Nat) : Span.has (each CHANNEL_STATUS.MEAS_FRAME) (CHANNEL_STATUS.MEAS_FRAME n) := ⟨n, 0, by simp only [CHANNEL_STATUS.MEAS_FRAME]; omega⟩
theorem CHANNEL_STATUS.MEAS_FRAME_wide {a b : List Span} {n : Nat} (h : Inside a ((each CHANNEL_STATUS.MEAS_FRAME) :: b)) :
    Inside (one (CHANNEL_STATUS.MEAS_FRAME n) :: a) ((each CHANNEL_STATUS.MEAS_FRAME) :: b) := Inside.wide (f := fun n => CHANNEL_STATUS.MEAS_FRAME n) CHANNEL_STATUS.MEAS_FRAME_has h
theorem CHANNEL_STATUS.STANDING_CAUSE_has (n : Nat) : Span.has (each CHANNEL_STATUS.STANDING_CAUSE) (CHANNEL_STATUS.STANDING_CAUSE n) := ⟨n, 0, by simp only [CHANNEL_STATUS.STANDING_CAUSE]; omega⟩
theorem CHANNEL_STATUS.STANDING_CAUSE_wide {a b : List Span} {n : Nat} (h : Inside a ((each CHANNEL_STATUS.STANDING_CAUSE) :: b)) :
    Inside (one (CHANNEL_STATUS.STANDING_CAUSE n) :: a) ((each CHANNEL_STATUS.STANDING_CAUSE) :: b) := Inside.wide (f := fun n => CHANNEL_STATUS.STANDING_CAUSE n) CHANNEL_STATUS.STANDING_CAUSE_has h
theorem CHANNEL_STATUS.STANDING_GATE_has (n : Nat) : Span.has (each CHANNEL_STATUS.STANDING_GATE) (CHANNEL_STATUS.STANDING_GATE n) := ⟨n, 0, by simp only [CHANNEL_STATUS.STANDING_GATE]; omega⟩
theorem CHANNEL_STATUS.STANDING_GATE_wide {a b : List Span} {n : Nat} (h : Inside a ((each CHANNEL_STATUS.STANDING_GATE) :: b)) :
    Inside (one (CHANNEL_STATUS.STANDING_GATE n) :: a) ((each CHANNEL_STATUS.STANDING_GATE) :: b) := Inside.wide (f := fun n => CHANNEL_STATUS.STANDING_GATE n) CHANNEL_STATUS.STANDING_GATE_has h
theorem CHANNEL_STATUS.STATE_has (n : Nat) : Span.has (each CHANNEL_STATUS.STATE) (CHANNEL_STATUS.STATE n) := ⟨n, 0, by simp only [CHANNEL_STATUS.STATE]; omega⟩
theorem CHANNEL_STATUS.STATE_wide {a b : List Span} {n : Nat} (h : Inside a ((each CHANNEL_STATUS.STATE) :: b)) :
    Inside (one (CHANNEL_STATUS.STATE n) :: a) ((each CHANNEL_STATUS.STATE) :: b) := Inside.wide (f := fun n => CHANNEL_STATUS.STATE n) CHANNEL_STATUS.STATE_has h
theorem CHANNEL_STATUS.TRIP_CAUSE_has (n : Nat) : Span.has (each CHANNEL_STATUS.TRIP_CAUSE) (CHANNEL_STATUS.TRIP_CAUSE n) := ⟨n, 0, by simp only [CHANNEL_STATUS.TRIP_CAUSE]; omega⟩
theorem CHANNEL_STATUS.TRIP_CAUSE_wide {a b : List Span} {n : Nat} (h : Inside a ((each CHANNEL_STATUS.TRIP_CAUSE) :: b)) :
    Inside (one (CHANNEL_STATUS.TRIP_CAUSE n) :: a) ((each CHANNEL_STATUS.TRIP_CAUSE) :: b) := Inside.wide (f := fun n => CHANNEL_STATUS.TRIP_CAUSE n) CHANNEL_STATUS.TRIP_CAUSE_has h
theorem CHANNEL_STATUS.V_INST_has (n : Nat) : Span.has (each CHANNEL_STATUS.V_INST) (CHANNEL_STATUS.V_INST n) := ⟨n, 0, by simp only [CHANNEL_STATUS.V_INST]; omega⟩
theorem CHANNEL_STATUS.V_INST_wide {a b : List Span} {n : Nat} (h : Inside a ((each CHANNEL_STATUS.V_INST) :: b)) :
    Inside (one (CHANNEL_STATUS.V_INST n) :: a) ((each CHANNEL_STATUS.V_INST) :: b) := Inside.wide (f := fun n => CHANNEL_STATUS.V_INST n) CHANNEL_STATUS.V_INST_has h
theorem CHANNEL_STATUS.V_MEAN_has (n : Nat) : Span.has (each CHANNEL_STATUS.V_MEAN) (CHANNEL_STATUS.V_MEAN n) := ⟨n, 0, by simp only [CHANNEL_STATUS.V_MEAN]; omega⟩
theorem CHANNEL_STATUS.V_MEAN_wide {a b : List Span} {n : Nat} (h : Inside a ((each CHANNEL_STATUS.V_MEAN) :: b)) :
    Inside (one (CHANNEL_STATUS.V_MEAN n) :: a) ((each CHANNEL_STATUS.V_MEAN) :: b) := Inside.wide (f := fun n => CHANNEL_STATUS.V_MEAN n) CHANNEL_STATUS.V_MEAN_has h
theorem CHANNEL_STATUS.V_PEAK_has (n m : Nat) : Span.has (each2 CHANNEL_STATUS.V_PEAK) (CHANNEL_STATUS.V_PEAK n m) := ⟨n, m, by simp only [CHANNEL_STATUS.V_PEAK]; omega⟩
theorem CHANNEL_STATUS.V_PEAK_in {W : List Span} {n m : Nat} : Covered ((each2 CHANNEL_STATUS.V_PEAK) :: W) (CHANNEL_STATUS.V_PEAK n m) :=
  ⟨_, List.mem_cons_self, CHANNEL_STATUS.V_PEAK_has _ _⟩
theorem CHANNEL_SUPERVISION.DISCHARGE_TIMEOUTS_has (n : Nat) : Span.has (each CHANNEL_SUPERVISION.DISCHARGE_TIMEOUTS) (CHANNEL_SUPERVISION.DISCHARGE_TIMEOUTS n) := ⟨n, 0, by simp only [CHANNEL_SUPERVISION.DISCHARGE_TIMEOUTS]; omega⟩
theorem CHANNEL_SUPERVISION.DISCHARGE_TIMEOUTS_wide {a b : List Span} {n : Nat} (h : Inside a ((each CHANNEL_SUPERVISION.DISCHARGE_TIMEOUTS) :: b)) :
    Inside (one (CHANNEL_SUPERVISION.DISCHARGE_TIMEOUTS n) :: a) ((each CHANNEL_SUPERVISION.DISCHARGE_TIMEOUTS) :: b) := Inside.wide (f := fun n => CHANNEL_SUPERVISION.DISCHARGE_TIMEOUTS n) CHANNEL_SUPERVISION.DISCHARGE_TIMEOUTS_has h
theorem CHANNEL_SUPERVISION.HARD_TRIPS_has (n : Nat) : Span.has (each CHANNEL_SUPERVISION.HARD_TRIPS) (CHANNEL_SUPERVISION.HARD_TRIPS n) := ⟨n, 0, by simp only [CHANNEL_SUPERVISION.HARD_TRIPS]; omega⟩
theorem CHANNEL_SUPERVISION.HARD_TRIPS_wide {a b : List Span} {n : Nat} (h : Inside a ((each CHANNEL_SUPERVISION.HARD_TRIPS) :: b)) :
    Inside (one (CHANNEL_SUPERVISION.HARD_TRIPS n) :: a) ((each CHANNEL_SUPERVISION.HARD_TRIPS) :: b) := Inside.wide (f := fun n => CHANNEL_SUPERVISION.HARD_TRIPS n) CHANNEL_SUPERVISION.HARD_TRIPS_has h
theorem CHANNEL_SUPERVISION.LIMIT_ENTRIES_has (n : Nat) : Span.has (each CHANNEL_SUPERVISION.LIMIT_ENTRIES) (CHANNEL_SUPERVISION.LIMIT_ENTRIES n) := ⟨n, 0, by simp only [CHANNEL_SUPERVISION.LIMIT_ENTRIES]; omega⟩
theorem CHANNEL_SUPERVISION.LIMIT_ENTRIES_wide {a b : List Span} {n : Nat} (h : Inside a ((each CHANNEL_SUPERVISION.LIMIT_ENTRIES) :: b)) :
    Inside (one (CHANNEL_SUPERVISION.LIMIT_ENTRIES n) :: a) ((each CHANNEL_SUPERVISION.LIMIT_ENTRIES) :: b) := Inside.wide (f := fun n => CHANNEL_SUPERVISION.LIMIT_ENTRIES n) CHANNEL_SUPERVISION.LIMIT_ENTRIES_has h
theorem CHANNEL_SUPERVISION.MODEL_TRIPS_has (n : Nat) : Span.has (each CHANNEL_SUPERVISION.MODEL_TRIPS) (CHANNEL_SUPERVISION.MODEL_TRIPS n) := ⟨n, 0, by simp only [CHANNEL_SUPERVISION.MODEL_TRIPS]; omega⟩
theorem CHANNEL_SUPERVISION.MODEL_TRIPS_wide {a b : List Span} {n : Nat} (h : Inside a ((each CHANNEL_SUPERVISION.MODEL_TRIPS) :: b)) :
    Inside (one (CHANNEL_SUPERVISION.MODEL_TRIPS n) :: a) ((each CHANNEL_SUPERVISION.MODEL_TRIPS) :: b) := Inside.wide (f := fun n => CHANNEL_SUPERVISION.MODEL_TRIPS n) CHANNEL_SUPERVISION.MODEL_TRIPS_has h
theorem CHANNEL_SUPERVISION.OV_COUNT_has (n : Nat) : Span.has (each CHANNEL_SUPERVISION.OV_COUNT) (CHANNEL_SUPERVISION.OV_COUNT n) := ⟨n, 0, by simp only [CHANNEL_SUPERVISION.OV_COUNT]; omega⟩
theorem CHANNEL_SUPERVISION.OV_COUNT_wide {a b : List Span} {n : Nat} (h : Inside a ((each CHANNEL_SUPERVISION.OV_COUNT) :: b)) :
    Inside (one (CHANNEL_SUPERVISION.OV_COUNT n) :: a) ((each CHANNEL_SUPERVISION.OV_COUNT) :: b) := Inside.wide (f := fun n => CHANNEL_SUPERVISION.OV_COUNT n) CHANNEL_SUPERVISION.OV_COUNT_has h
theorem CHANNEL_SUPERVISION.RETRIES_has (n : Nat) : Span.has (each CHANNEL_SUPERVISION.RETRIES) (CHANNEL_SUPERVISION.RETRIES n) := ⟨n, 0, by simp only [CHANNEL_SUPERVISION.RETRIES]; omega⟩
theorem CHANNEL_SUPERVISION.RETRIES_wide {a b : List Span} {n : Nat} (h : Inside a ((each CHANNEL_SUPERVISION.RETRIES) :: b)) :
    Inside (one (CHANNEL_SUPERVISION.RETRIES n) :: a) ((each CHANNEL_SUPERVISION.RETRIES) :: b) := Inside.wide (f := fun n => CHANNEL_SUPERVISION.RETRIES n) CHANNEL_SUPERVISION.RETRIES_has h
theorem CHANNEL_SUPERVISION.STARTS_has (n : Nat) : Span.has (each CHANNEL_SUPERVISION.STARTS) (CHANNEL_SUPERVISION.STARTS n) := ⟨n, 0, by simp only [CHANNEL_SUPERVISION.STARTS]; omega⟩
theorem CHANNEL_SUPERVISION.STARTS_wide {a b : List Span} {n : Nat} (h : Inside a ((each CHANNEL_SUPERVISION.STARTS) :: b)) :
    Inside (one (CHANNEL_SUPERVISION.STARTS n) :: a) ((each CHANNEL_SUPERVISION.STARTS) :: b) := Inside.wide (f := fun n => CHANNEL_SUPERVISION.STARTS n) CHANNEL_SUPERVISION.STARTS_has h
theorem CHANNEL_SUPERVISION.TIMEOUT_TRIPS_has (n : Nat) : Span.has (each CHANNEL_SUPERVISION.TIMEOUT_TRIPS) (CHANNEL_SUPERVISION.TIMEOUT_TRIPS n) := ⟨n, 0, by simp only [CHANNEL_SUPERVISION.TIMEOUT_TRIPS]; omega⟩
theorem CHANNEL_SUPERVISION.TIMEOUT_TRIPS_wide {a b : List Span} {n : Nat} (h : Inside a ((each CHANNEL_SUPERVISION.TIMEOUT_TRIPS) :: b)) :
    Inside (one (CHANNEL_SUPERVISION.TIMEOUT_TRIPS n) :: a) ((each CHANNEL_SUPERVISION.TIMEOUT_TRIPS) :: b) := Inside.wide (f := fun n => CHANNEL_SUPERVISION.TIMEOUT_TRIPS n) CHANNEL_SUPERVISION.TIMEOUT_TRIPS_has h
theorem CHANNEL_SUPERVISION.UV_COUNT_has (n : Nat) : Span.has (each CHANNEL_SUPERVISION.UV_COUNT) (CHANNEL_SUPERVISION.UV_COUNT n) := ⟨n, 0, by simp only [CHANNEL_SUPERVISION.UV_COUNT]; omega⟩
theorem CHANNEL_SUPERVISION.UV_COUNT_wide {a b : List Span} {n : Nat} (h : Inside a ((each CHANNEL_SUPERVISION.UV_COUNT) :: b)) :
    Inside (one (CHANNEL_SUPERVISION.UV_COUNT n) :: a) ((each CHANNEL_SUPERVISION.UV_COUNT) :: b) := Inside.wide (f := fun n => CHANNEL_SUPERVISION.UV_COUNT n) CHANNEL_SUPERVISION.UV_COUNT_has h
theorem CHARGER_STATUS.FAULT_CAUSE_has : Span.has (one CHARGER_STATUS.FAULT_CAUSE) (CHARGER_STATUS.FAULT_CAUSE) := ⟨0, 0, rfl⟩
theorem CHARGER_STATUS.FAULT_CAUSE_in {W : List Span} : Covered ((one CHARGER_STATUS.FAULT_CAUSE) :: W) (CHARGER_STATUS.FAULT_CAUSE) :=
  ⟨_, List.mem_cons_self, CHARGER_STATUS.FAULT_CAUSE_has⟩
theorem CHARGER_STATUS.ON_TIME_has : Span.has (one CHARGER_STATUS.ON_TIME) (CHARGER_STATUS.ON_TIME) := ⟨0, 0, rfl⟩
theorem CHARGER_STATUS.ON_TIME_in {W : List Span} : Covered ((one CHARGER_STATUS.ON_TIME) :: W) (CHARGER_STATUS.ON_TIME) :=
  ⟨_, List.mem_cons_self, CHARGER_STATUS.ON_TIME_has⟩
theorem CHARGER_STATUS.PHASE_has : Span.has (one CHARGER_STATUS.PHASE) (CHARGER_STATUS.PHASE) := ⟨0, 0, rfl⟩
theorem CHARGER_STATUS.PHASE_in {W : List Span} : Covered ((one CHARGER_STATUS.PHASE) :: W) (CHARGER_STATUS.PHASE) :=
  ⟨_, List.mem_cons_self, CHARGER_STATUS.PHASE_has⟩
theorem CHARGER_STATUS.PULSES_has : Span.has (one CHARGER_STATUS.PULSES) (CHARGER_STATUS.PULSES) := ⟨0, 0, rfl⟩
theorem CHARGER_STATUS.PULSES_in {W : List Span} : Covered ((one CHARGER_STATUS.PULSES) :: W) (CHARGER_STATUS.PULSES) :=
  ⟨_, List.mem_cons_self, CHARGER_STATUS.PULSES_has⟩
theorem CHARGER_STATUS.REST_INVALID_has : Span.has (one CHARGER_STATUS.REST_INVALID) (CHARGER_STATUS.REST_INVALID) := ⟨0, 0, rfl⟩
theorem CHARGER_STATUS.REST_INVALID_in {W : List Span} : Covered ((one CHARGER_STATUS.REST_INVALID) :: W) (CHARGER_STATUS.REST_INVALID) :=
  ⟨_, List.mem_cons_self, CHARGER_STATUS.REST_INVALID_has⟩
theorem CHARGER_STATUS.STAGE_has : Span.has (one CHARGER_STATUS.STAGE) (CHARGER_STATUS.STAGE) := ⟨0, 0, rfl⟩
theorem CHARGER_STATUS.STAGE_in {W : List Span} : Covered ((one CHARGER_STATUS.STAGE) :: W) (CHARGER_STATUS.STAGE) :=
  ⟨_, List.mem_cons_self, CHARGER_STATUS.STAGE_has⟩
theorem CHARGER_STATUS.SUSPEND_CAUSE_has : Span.has (one CHARGER_STATUS.SUSPEND_CAUSE) (CHARGER_STATUS.SUSPEND_CAUSE) := ⟨0, 0, rfl⟩
theorem CHARGER_STATUS.SUSPEND_CAUSE_in {W : List Span} : Covered ((one CHARGER_STATUS.SUSPEND_CAUSE) :: W) (CHARGER_STATUS.SUSPEND_CAUSE) :=
  ⟨_, List.mem_cons_self, CHARGER_STATUS.SUSPEND_CAUSE_has⟩
theorem CHARGER_STATUS.V_REST_has : Span.has (one CHARGER_STATUS.V_REST) (CHARGER_STATUS.V_REST) := ⟨0, 0, rfl⟩
theorem CHARGER_STATUS.V_REST_in {W : List Span} : Covered ((one CHARGER_STATUS.V_REST) :: W) (CHARGER_STATUS.V_REST) :=
  ⟨_, List.mem_cons_self, CHARGER_STATUS.V_REST_has⟩
theorem CH_CLOCK_has : Span.has (one CH_CLOCK) (CH_CLOCK) := ⟨0, 0, rfl⟩
theorem CH_CLOCK_in {W : List Span} : Covered ((one CH_CLOCK) :: W) (CH_CLOCK) :=
  ⟨_, List.mem_cons_self, CH_CLOCK_has⟩
theorem CH_CLOCK_AT_has : Span.has (one CH_CLOCK_AT) (CH_CLOCK_AT) := ⟨0, 0, rfl⟩
theorem CH_CLOCK_AT_in {W : List Span} : Covered ((one CH_CLOCK_AT) :: W) (CH_CLOCK_AT) :=
  ⟨_, List.mem_cons_self, CH_CLOCK_AT_has⟩
theorem CH_FULL_has : Span.has (one CH_FULL) (CH_FULL) := ⟨0, 0, rfl⟩
theorem CH_FULL_in {W : List Span} : Covered ((one CH_FULL) :: W) (CH_FULL) :=
  ⟨_, List.mem_cons_self, CH_FULL_has⟩
theorem CH_HOLD_AT_has : Span.has (one CH_HOLD_AT) (CH_HOLD_AT) := ⟨0, 0, rfl⟩
theorem CH_HOLD_AT_in {W : List Span} : Covered ((one CH_HOLD_AT) :: W) (CH_HOLD_AT) :=
  ⟨_, List.mem_cons_self, CH_HOLD_AT_has⟩
theorem CH_PHASE_AT_has : Span.has (one CH_PHASE_AT) (CH_PHASE_AT) := ⟨0, 0, rfl⟩
theorem CH_PHASE_AT_in {W : List Span} : Covered ((one CH_PHASE_AT) :: W) (CH_PHASE_AT) :=
  ⟨_, List.mem_cons_self, CH_PHASE_AT_has⟩
theorem CH_QUALIFY_AT_has : Span.has (one CH_QUALIFY_AT) (CH_QUALIFY_AT) := ⟨0, 0, rfl⟩
theorem CH_QUALIFY_AT_in {W : List Span} : Covered ((one CH_QUALIFY_AT) :: W) (CH_QUALIFY_AT) :=
  ⟨_, List.mem_cons_self, CH_QUALIFY_AT_has⟩
theorem CH_STAGE_AT_has : Span.has (one CH_STAGE_AT) (CH_STAGE_AT) := ⟨0, 0, rfl⟩
theorem CH_STAGE_AT_in {W : List Span} : Covered ((one CH_STAGE_AT) :: W) (CH_STAGE_AT) :=
  ⟨_, List.mem_cons_self, CH_STAGE_AT_has⟩
theorem CH_T_PREV_has : Span.has (one CH_T_PREV) (CH_T_PREV) := ⟨0, 0, rfl⟩
theorem CH_T_PREV_in {W : List Span} : Covered ((one CH_T_PREV) :: W) (CH_T_PREV) :=
  ⟨_, List.mem_cons_self, CH_T_PREV_has⟩
theorem CLOCK_STATUS.CORE_RATE_has : Span.has (one CLOCK_STATUS.CORE_RATE) (CLOCK_STATUS.CORE_RATE) := ⟨0, 0, rfl⟩
theorem CLOCK_STATUS.CORE_RATE_in {W : List Span} : Covered ((one CLOCK_STATUS.CORE_RATE) :: W) (CLOCK_STATUS.CORE_RATE) :=
  ⟨_, List.mem_cons_self, CLOCK_STATUS.CORE_RATE_has⟩
theorem CLOCK_STATUS.FALLBACK_COUNT_has : Span.has (one CLOCK_STATUS.FALLBACK_COUNT) (CLOCK_STATUS.FALLBACK_COUNT) := ⟨0, 0, rfl⟩
theorem CLOCK_STATUS.FALLBACK_COUNT_in {W : List Span} : Covered ((one CLOCK_STATUS.FALLBACK_COUNT) :: W) (CLOCK_STATUS.FALLBACK_COUNT) :=
  ⟨_, List.mem_cons_self, CLOCK_STATUS.FALLBACK_COUNT_has⟩
theorem CLOCK_STATUS.ROOT_LOCKED_has : Span.has (one CLOCK_STATUS.ROOT_LOCKED) (CLOCK_STATUS.ROOT_LOCKED) := ⟨0, 0, rfl⟩
theorem CLOCK_STATUS.ROOT_LOCKED_in {W : List Span} : Covered ((one CLOCK_STATUS.ROOT_LOCKED) :: W) (CLOCK_STATUS.ROOT_LOCKED) :=
  ⟨_, List.mem_cons_self, CLOCK_STATUS.ROOT_LOCKED_has⟩
theorem CLOCK_STATUS.ROOT_SOURCE_has : Span.has (one CLOCK_STATUS.ROOT_SOURCE) (CLOCK_STATUS.ROOT_SOURCE) := ⟨0, 0, rfl⟩
theorem CLOCK_STATUS.ROOT_SOURCE_in {W : List Span} : Covered ((one CLOCK_STATUS.ROOT_SOURCE) :: W) (CLOCK_STATUS.ROOT_SOURCE) :=
  ⟨_, List.mem_cons_self, CLOCK_STATUS.ROOT_SOURCE_has⟩
theorem COLD_has (n : Nat) : Span.has (each COLD) (COLD n) := ⟨n, 0, by simp only [COLD, internal]; omega⟩
theorem COLD_in {W : List Span} {n : Nat} : Covered ((each COLD) :: W) (COLD n) :=
  ⟨_, List.mem_cons_self, COLD_has _⟩
theorem COLD_JUDGED_has : Span.has (one COLD_JUDGED) (COLD_JUDGED) := ⟨0, 0, rfl⟩
theorem COLD_JUDGED_in {W : List Span} : Covered ((one COLD_JUDGED) :: W) (COLD_JUDGED) :=
  ⟨_, List.mem_cons_self, COLD_JUDGED_has⟩
theorem COMMIT_CONTROL.LAST_OBJECT_has (n : Nat) : Span.has (each COMMIT_CONTROL.LAST_OBJECT) (COMMIT_CONTROL.LAST_OBJECT n) := ⟨n, 0, by simp only [COMMIT_CONTROL.LAST_OBJECT]; omega⟩
theorem COMMIT_CONTROL.LAST_OBJECT_wide {a b : List Span} {n : Nat} (h : Inside a ((each COMMIT_CONTROL.LAST_OBJECT) :: b)) :
    Inside (one (COMMIT_CONTROL.LAST_OBJECT n) :: a) ((each COMMIT_CONTROL.LAST_OBJECT) :: b) := Inside.wide (f := fun n => COMMIT_CONTROL.LAST_OBJECT n) COMMIT_CONTROL.LAST_OBJECT_has h
theorem COMMIT_CONTROL.LAST_REASON_has (n : Nat) : Span.has (each COMMIT_CONTROL.LAST_REASON) (COMMIT_CONTROL.LAST_REASON n) := ⟨n, 0, by simp only [COMMIT_CONTROL.LAST_REASON]; omega⟩
theorem COMMIT_CONTROL.LAST_REASON_wide {a b : List Span} {n : Nat} (h : Inside a ((each COMMIT_CONTROL.LAST_REASON) :: b)) :
    Inside (one (COMMIT_CONTROL.LAST_REASON n) :: a) ((each COMMIT_CONTROL.LAST_REASON) :: b) := Inside.wide (f := fun n => COMMIT_CONTROL.LAST_REASON n) COMMIT_CONTROL.LAST_REASON_has h
theorem COMMIT_CONTROL.STATUS_has (n : Nat) : Span.has (each COMMIT_CONTROL.STATUS) (COMMIT_CONTROL.STATUS n) := ⟨n, 0, by simp only [COMMIT_CONTROL.STATUS]; omega⟩
theorem COMMIT_CONTROL.STATUS_in {W : List Span} {n : Nat} : Covered ((each COMMIT_CONTROL.STATUS) :: W) (COMMIT_CONTROL.STATUS n) :=
  ⟨_, List.mem_cons_self, COMMIT_CONTROL.STATUS_has _⟩
theorem COMMIT_CONTROL.STATUS_wide {a b : List Span} {n : Nat} (h : Inside a ((each COMMIT_CONTROL.STATUS) :: b)) :
    Inside (one (COMMIT_CONTROL.STATUS n) :: a) ((each COMMIT_CONTROL.STATUS) :: b) := Inside.wide (f := fun n => COMMIT_CONTROL.STATUS n) COMMIT_CONTROL.STATUS_has h
theorem CONTROLLER_TRANSFER.NACK_INDEX_has : Span.has (one CONTROLLER_TRANSFER.NACK_INDEX) (CONTROLLER_TRANSFER.NACK_INDEX) := ⟨0, 0, rfl⟩
theorem CONTROLLER_TRANSFER.NACK_INDEX_in {W : List Span} : Covered ((one CONTROLLER_TRANSFER.NACK_INDEX) :: W) (CONTROLLER_TRANSFER.NACK_INDEX) :=
  ⟨_, List.mem_cons_self, CONTROLLER_TRANSFER.NACK_INDEX_has⟩
theorem CONTROLLER_TRANSFER.READ_DATA_has : Span.has (one CONTROLLER_TRANSFER.READ_DATA) (CONTROLLER_TRANSFER.READ_DATA) := ⟨0, 0, rfl⟩
theorem CONTROLLER_TRANSFER.READ_DATA_in {W : List Span} : Covered ((one CONTROLLER_TRANSFER.READ_DATA) :: W) (CONTROLLER_TRANSFER.READ_DATA) :=
  ⟨_, List.mem_cons_self, CONTROLLER_TRANSFER.READ_DATA_has⟩
theorem CONTROLLER_TRANSFER.TRANSFER_RESULT_has : Span.has (one CONTROLLER_TRANSFER.TRANSFER_RESULT) (CONTROLLER_TRANSFER.TRANSFER_RESULT) := ⟨0, 0, rfl⟩
theorem CONTROLLER_TRANSFER.TRANSFER_RESULT_in {W : List Span} : Covered ((one CONTROLLER_TRANSFER.TRANSFER_RESULT) :: W) (CONTROLLER_TRANSFER.TRANSFER_RESULT) :=
  ⟨_, List.mem_cons_self, CONTROLLER_TRANSFER.TRANSFER_RESULT_has⟩
theorem CONVERTER.ENABLE_has (n : Nat) : Span.has (each CONVERTER.ENABLE) (CONVERTER.ENABLE n) := ⟨n, 0, by simp only [CONVERTER.ENABLE]; omega⟩
theorem CONVERTER.ENABLE_in {W : List Span} {n : Nat} : Covered ((each CONVERTER.ENABLE) :: W) (CONVERTER.ENABLE n) :=
  ⟨_, List.mem_cons_self, CONVERTER.ENABLE_has _⟩
theorem CONVERTER.ENABLE_wide {a b : List Span} {n : Nat} (h : Inside a ((each CONVERTER.ENABLE) :: b)) :
    Inside (one (CONVERTER.ENABLE n) :: a) ((each CONVERTER.ENABLE) :: b) := Inside.wide (f := fun n => CONVERTER.ENABLE n) CONVERTER.ENABLE_has h
theorem CONVERTER_STATUS.CONV_FLAGS_has (n : Nat) : Span.has (each CONVERTER_STATUS.CONV_FLAGS) (CONVERTER_STATUS.CONV_FLAGS n) := ⟨n, 0, by simp only [CONVERTER_STATUS.CONV_FLAGS]; omega⟩
theorem CONVERTER_STATUS.CONV_FLAGS_wide {a b : List Span} {n : Nat} (h : Inside a ((each CONVERTER_STATUS.CONV_FLAGS) :: b)) :
    Inside (one (CONVERTER_STATUS.CONV_FLAGS n) :: a) ((each CONVERTER_STATUS.CONV_FLAGS) :: b) := Inside.wide (f := fun n => CONVERTER_STATUS.CONV_FLAGS n) CONVERTER_STATUS.CONV_FLAGS_has h
theorem CONVERTER_STATUS.HICCUPS_LEFT_has (n : Nat) : Span.has (each CONVERTER_STATUS.HICCUPS_LEFT) (CONVERTER_STATUS.HICCUPS_LEFT n) := ⟨n, 0, by simp only [CONVERTER_STATUS.HICCUPS_LEFT]; omega⟩
theorem CONVERTER_STATUS.HICCUPS_LEFT_wide {a b : List Span} {n : Nat} (h : Inside a ((each CONVERTER_STATUS.HICCUPS_LEFT) :: b)) :
    Inside (one (CONVERTER_STATUS.HICCUPS_LEFT n) :: a) ((each CONVERTER_STATUS.HICCUPS_LEFT) :: b) := Inside.wide (f := fun n => CONVERTER_STATUS.HICCUPS_LEFT n) CONVERTER_STATUS.HICCUPS_LEFT_has h
theorem CONVERTER_STATUS.IOUT_has (n : Nat) : Span.has (each CONVERTER_STATUS.IOUT) (CONVERTER_STATUS.IOUT n) := ⟨n, 0, by simp only [CONVERTER_STATUS.IOUT]; omega⟩
theorem CONVERTER_STATUS.IOUT_wide {a b : List Span} {n : Nat} (h : Inside a ((each CONVERTER_STATUS.IOUT) :: b)) :
    Inside (one (CONVERTER_STATUS.IOUT n) :: a) ((each CONVERTER_STATUS.IOUT) :: b) := Inside.wide (f := fun n => CONVERTER_STATUS.IOUT n) CONVERTER_STATUS.IOUT_has h
theorem CONVERTER_STATUS.IREF_has (n : Nat) : Span.has (each CONVERTER_STATUS.IREF) (CONVERTER_STATUS.IREF n) := ⟨n, 0, by simp only [CONVERTER_STATUS.IREF]; omega⟩
theorem CONVERTER_STATUS.IREF_wide {a b : List Span} {n : Nat} (h : Inside a ((each CONVERTER_STATUS.IREF) :: b)) :
    Inside (one (CONVERTER_STATUS.IREF n) :: a) ((each CONVERTER_STATUS.IREF) :: b) := Inside.wide (f := fun n => CONVERTER_STATUS.IREF n) CONVERTER_STATUS.IREF_has h
theorem CONVERTER_STATUS.LATCH_CAUSE_has (n : Nat) : Span.has (each CONVERTER_STATUS.LATCH_CAUSE) (CONVERTER_STATUS.LATCH_CAUSE n) := ⟨n, 0, by simp only [CONVERTER_STATUS.LATCH_CAUSE]; omega⟩
theorem CONVERTER_STATUS.LATCH_CAUSE_wide {a b : List Span} {n : Nat} (h : Inside a ((each CONVERTER_STATUS.LATCH_CAUSE) :: b)) :
    Inside (one (CONVERTER_STATUS.LATCH_CAUSE n) :: a) ((each CONVERTER_STATUS.LATCH_CAUSE) :: b) := Inside.wide (f := fun n => CONVERTER_STATUS.LATCH_CAUSE n) CONVERTER_STATUS.LATCH_CAUSE_has h
theorem CONVERTER_STATUS.RECORDS_SKIPPED_has (n : Nat) : Span.has (each CONVERTER_STATUS.RECORDS_SKIPPED) (CONVERTER_STATUS.RECORDS_SKIPPED n) := ⟨n, 0, by simp only [CONVERTER_STATUS.RECORDS_SKIPPED]; omega⟩
theorem CONVERTER_STATUS.RECORDS_SKIPPED_wide {a b : List Span} {n : Nat} (h : Inside a ((each CONVERTER_STATUS.RECORDS_SKIPPED) :: b)) :
    Inside (one (CONVERTER_STATUS.RECORDS_SKIPPED n) :: a) ((each CONVERTER_STATUS.RECORDS_SKIPPED) :: b) := Inside.wide (f := fun n => CONVERTER_STATUS.RECORDS_SKIPPED n) CONVERTER_STATUS.RECORDS_SKIPPED_has h
theorem CONVERTER_STATUS.STATE_has (n : Nat) : Span.has (each CONVERTER_STATUS.STATE) (CONVERTER_STATUS.STATE n) := ⟨n, 0, by simp only [CONVERTER_STATUS.STATE]; omega⟩
theorem CONVERTER_STATUS.STATE_wide {a b : List Span} {n : Nat} (h : Inside a ((each CONVERTER_STATUS.STATE) :: b)) :
    Inside (one (CONVERTER_STATUS.STATE n) :: a) ((each CONVERTER_STATUS.STATE) :: b) := Inside.wide (f := fun n => CONVERTER_STATUS.STATE n) CONVERTER_STATUS.STATE_has h
theorem CONVERTER_STATUS.VOUT_has (n : Nat) : Span.has (each CONVERTER_STATUS.VOUT) (CONVERTER_STATUS.VOUT n) := ⟨n, 0, by simp only [CONVERTER_STATUS.VOUT]; omega⟩
theorem CONVERTER_STATUS.VOUT_wide {a b : List Span} {n : Nat} (h : Inside a ((each CONVERTER_STATUS.VOUT) :: b)) :
    Inside (one (CONVERTER_STATUS.VOUT n) :: a) ((each CONVERTER_STATUS.VOUT) :: b) := Inside.wide (f := fun n => CONVERTER_STATUS.VOUT n) CONVERTER_STATUS.VOUT_has h
theorem CONVERTER_STATUS.VOUT_INST_has (n : Nat) : Span.has (each CONVERTER_STATUS.VOUT_INST) (CONVERTER_STATUS.VOUT_INST n) := ⟨n, 0, by simp only [CONVERTER_STATUS.VOUT_INST]; omega⟩
theorem CONVERTER_STATUS.VOUT_INST_wide {a b : List Span} {n : Nat} (h : Inside a ((each CONVERTER_STATUS.VOUT_INST) :: b)) :
    Inside (one (CONVERTER_STATUS.VOUT_INST n) :: a) ((each CONVERTER_STATUS.VOUT_INST) :: b) := Inside.wide (f := fun n => CONVERTER_STATUS.VOUT_INST n) CONVERTER_STATUS.VOUT_INST_has h
theorem CONVERTER_STATUS.VREF_has (n : Nat) : Span.has (each CONVERTER_STATUS.VREF) (CONVERTER_STATUS.VREF n) := ⟨n, 0, by simp only [CONVERTER_STATUS.VREF]; omega⟩
theorem CONVERTER_STATUS.VREF_wide {a b : List Span} {n : Nat} (h : Inside a ((each CONVERTER_STATUS.VREF) :: b)) :
    Inside (one (CONVERTER_STATUS.VREF n) :: a) ((each CONVERTER_STATUS.VREF) :: b) := Inside.wide (f := fun n => CONVERTER_STATUS.VREF n) CONVERTER_STATUS.VREF_has h
theorem CONV_CUT_has (n : Nat) : Span.has (each CONV_CUT) (CONV_CUT n) := ⟨n, 0, by simp only [CONV_CUT, internal]; omega⟩
theorem CONV_CUT_in {W : List Span} {n : Nat} : Covered ((each CONV_CUT) :: W) (CONV_CUT n) :=
  ⟨_, List.mem_cons_self, CONV_CUT_has _⟩
theorem CONV_CUT_wide {a b : List Span} {n : Nat} (h : Inside a ((each CONV_CUT) :: b)) :
    Inside (one (CONV_CUT n) :: a) ((each CONV_CUT) :: b) := Inside.wide (f := fun n => CONV_CUT n) CONV_CUT_has h
theorem CONV_CUT_LANES_has (n : Nat) : Span.has (each CONV_CUT_LANES) (CONV_CUT_LANES n) := ⟨n, 0, by simp only [CONV_CUT_LANES, internal]; omega⟩
theorem CONV_CUT_LANES_in {W : List Span} {n : Nat} : Covered ((each CONV_CUT_LANES) :: W) (CONV_CUT_LANES n) :=
  ⟨_, List.mem_cons_self, CONV_CUT_LANES_has _⟩
theorem CONV_CUT_LANES_wide {a b : List Span} {n : Nat} (h : Inside a ((each CONV_CUT_LANES) :: b)) :
    Inside (one (CONV_CUT_LANES n) :: a) ((each CONV_CUT_LANES) :: b) := Inside.wide (f := fun n => CONV_CUT_LANES n) CONV_CUT_LANES_has h
theorem CONV_CYCLES_has (n : Nat) : Span.has (each CONV_CYCLES) (CONV_CYCLES n) := ⟨n, 0, by simp only [CONV_CYCLES, internal]; omega⟩
theorem CONV_CYCLES_wide {a b : List Span} {n : Nat} (h : Inside a ((each CONV_CYCLES) :: b)) :
    Inside (one (CONV_CYCLES n) :: a) ((each CONV_CYCLES) :: b) := Inside.wide (f := fun n => CONV_CYCLES n) CONV_CYCLES_has h
theorem CONV_E_has (n m : Nat) : Span.has (each2 CONV_E) (CONV_E n m) := ⟨n, m, by simp only [CONV_E, internal]; omega⟩
theorem CONV_E_in {W : List Span} {n m : Nat} : Covered ((each2 CONV_E) :: W) (CONV_E n m) :=
  ⟨_, List.mem_cons_self, CONV_E_has _ _⟩
theorem CONV_FROZEN_has (n : Nat) : Span.has (each CONV_FROZEN) (CONV_FROZEN n) := ⟨n, 0, by simp only [CONV_FROZEN, internal]; omega⟩
theorem CONV_FROZEN_wide {a b : List Span} {n : Nat} (h : Inside a ((each CONV_FROZEN) :: b)) :
    Inside (one (CONV_FROZEN n) :: a) ((each CONV_FROZEN) :: b) := Inside.wide (f := fun n => CONV_FROZEN n) CONV_FROZEN_has h
theorem CONV_LIMIT_has (n : Nat) : Span.has (each CONV_LIMIT) (CONV_LIMIT n) := ⟨n, 0, by simp only [CONV_LIMIT, internal]; omega⟩
theorem CONV_LIMIT_wide {a b : List Span} {n : Nat} (h : Inside a ((each CONV_LIMIT) :: b)) :
    Inside (one (CONV_LIMIT n) :: a) ((each CONV_LIMIT) :: b) := Inside.wide (f := fun n => CONV_LIMIT n) CONV_LIMIT_has h
theorem CONV_PHASE_has (n : Nat) : Span.has (each CONV_PHASE) (CONV_PHASE n) := ⟨n, 0, by simp only [CONV_PHASE, internal]; omega⟩
theorem CONV_PHASE_in {W : List Span} {n : Nat} : Covered ((each CONV_PHASE) :: W) (CONV_PHASE n) :=
  ⟨_, List.mem_cons_self, CONV_PHASE_has _⟩
theorem CONV_PHASE_wide {a b : List Span} {n : Nat} (h : Inside a ((each CONV_PHASE) :: b)) :
    Inside (one (CONV_PHASE n) :: a) ((each CONV_PHASE) :: b) := Inside.wide (f := fun n => CONV_PHASE n) CONV_PHASE_has h
theorem CONV_REF_AT_has (n : Nat) : Span.has (each CONV_REF_AT) (CONV_REF_AT n) := ⟨n, 0, by simp only [CONV_REF_AT, internal]; omega⟩
theorem CONV_REF_AT_wide {a b : List Span} {n : Nat} (h : Inside a ((each CONV_REF_AT) :: b)) :
    Inside (one (CONV_REF_AT n) :: a) ((each CONV_REF_AT) :: b) := Inside.wide (f := fun n => CONV_REF_AT n) CONV_REF_AT_has h
theorem CONV_RUN_AT_has (n : Nat) : Span.has (each CONV_RUN_AT) (CONV_RUN_AT n) := ⟨n, 0, by simp only [CONV_RUN_AT, internal]; omega⟩
theorem CONV_RUN_AT_wide {a b : List Span} {n : Nat} (h : Inside a ((each CONV_RUN_AT) :: b)) :
    Inside (one (CONV_RUN_AT n) :: a) ((each CONV_RUN_AT) :: b) := Inside.wide (f := fun n => CONV_RUN_AT n) CONV_RUN_AT_has h
theorem CONV_SCNT_has (n : Nat) : Span.has (each CONV_SCNT) (CONV_SCNT n) := ⟨n, 0, by simp only [CONV_SCNT, internal]; omega⟩
theorem CONV_SCNT_wide {a b : List Span} {n : Nat} (h : Inside a ((each CONV_SCNT) :: b)) :
    Inside (one (CONV_SCNT n) :: a) ((each CONV_SCNT) :: b) := Inside.wide (f := fun n => CONV_SCNT n) CONV_SCNT_has h
theorem CONV_SLOPE_has (n : Nat) : Span.has (each CONV_SLOPE) (CONV_SLOPE n) := ⟨n, 0, by simp only [CONV_SLOPE, internal]; omega⟩
theorem CONV_SLOPE_wide {a b : List Span} {n : Nat} (h : Inside a ((each CONV_SLOPE) :: b)) :
    Inside (one (CONV_SLOPE n) :: a) ((each CONV_SLOPE) :: b) := Inside.wide (f := fun n => CONV_SLOPE n) CONV_SLOPE_has h
theorem CONV_SST_has (n : Nat) : Span.has (each CONV_SST) (CONV_SST n) := ⟨n, 0, by simp only [CONV_SST, internal]; omega⟩
theorem CONV_SST_wide {a b : List Span} {n : Nat} (h : Inside a ((each CONV_SST) :: b)) :
    Inside (one (CONV_SST n) :: a) ((each CONV_SST) :: b) := Inside.wide (f := fun n => CONV_SST n) CONV_SST_has h
theorem CONV_SUM_has (n : Nat) : Span.has (each CONV_SUM) (CONV_SUM n) := ⟨n, 0, by simp only [CONV_SUM, internal]; omega⟩
theorem CONV_SUM_wide {a b : List Span} {n : Nat} (h : Inside a ((each CONV_SUM) :: b)) :
    Inside (one (CONV_SUM n) :: a) ((each CONV_SUM) :: b) := Inside.wide (f := fun n => CONV_SUM n) CONV_SUM_has h
theorem CONV_T0_has (n : Nat) : Span.has (each CONV_T0) (CONV_T0 n) := ⟨n, 0, by simp only [CONV_T0, internal]; omega⟩
theorem CONV_T0_wide {a b : List Span} {n : Nat} (h : Inside a ((each CONV_T0) :: b)) :
    Inside (one (CONV_T0 n) :: a) ((each CONV_T0) :: b) := Inside.wide (f := fun n => CONV_T0 n) CONV_T0_has h
theorem CONV_VCNT_has (n m : Nat) : Span.has (each2 CONV_VCNT) (CONV_VCNT n m) := ⟨n, m, by simp only [CONV_VCNT, internal]; omega⟩
theorem CONV_VCNT_in {W : List Span} {n m : Nat} : Covered ((each2 CONV_VCNT) :: W) (CONV_VCNT n m) :=
  ⟨_, List.mem_cons_self, CONV_VCNT_has _ _⟩
theorem CONV_VSUM_has (n m : Nat) : Span.has (each2 CONV_VSUM) (CONV_VSUM n m) := ⟨n, m, by simp only [CONV_VSUM, internal]; omega⟩
theorem CONV_VSUM_in {W : List Span} {n m : Nat} : Covered ((each2 CONV_VSUM) :: W) (CONV_VSUM n m) :=
  ⟨_, List.mem_cons_self, CONV_VSUM_has _ _⟩
theorem CONV_WRITING_has (n : Nat) : Span.has (each CONV_WRITING) (CONV_WRITING n) := ⟨n, 0, by simp only [CONV_WRITING, internal]; omega⟩
theorem CONV_WRITING_wide {a b : List Span} {n : Nat} (h : Inside a ((each CONV_WRITING) :: b)) :
    Inside (one (CONV_WRITING n) :: a) ((each CONV_WRITING) :: b) := Inside.wide (f := fun n => CONV_WRITING n) CONV_WRITING_has h
theorem CONV_Y_has (n m : Nat) : Span.has (each2 CONV_Y) (CONV_Y n m) := ⟨n, m, by simp only [CONV_Y, internal]; omega⟩
theorem CONV_Y_in {W : List Span} {n m : Nat} : Covered ((each2 CONV_Y) :: W) (CONV_Y n m) :=
  ⟨_, List.mem_cons_self, CONV_Y_has _ _⟩
theorem CWIN_has (n : Nat) : Span.has (each CWIN) (CWIN n) := ⟨n, 0, by simp only [CWIN, internal]; omega⟩
theorem CWIN_wide {a b : List Span} {n : Nat} (h : Inside a ((each CWIN) :: b)) :
    Inside (one (CWIN n) :: a) ((each CWIN) :: b) := Inside.wide (f := fun n => CWIN n) CWIN_has h
theorem CWIN_AT_has (n m : Nat) : Span.has (each2 CWIN_AT) (CWIN_AT n m) := ⟨n, m, by simp only [CWIN_AT, internal]; omega⟩
theorem CWIN_AT_wide {a b : List Span} {n m : Nat} (h : Inside a ((each2 CWIN_AT) :: b)) :
    Inside (one (CWIN_AT n m) :: a) ((each2 CWIN_AT) :: b) := Inside.wide2 (f := fun n m => CWIN_AT n m) CWIN_AT_has h
theorem DESC_DOOMED_has (n : Nat) : Span.has (each DESC_DOOMED) (DESC_DOOMED n) := ⟨n, 0, by simp only [DESC_DOOMED, internal]; omega⟩
theorem DESC_DOOMED_in {W : List Span} {n : Nat} : Covered ((each DESC_DOOMED) :: W) (DESC_DOOMED n) :=
  ⟨_, List.mem_cons_self, DESC_DOOMED_has _⟩
theorem DEVICE_DIGEST.DIGEST_has : Span.has (one DEVICE_DIGEST.DIGEST) (DEVICE_DIGEST.DIGEST) := ⟨0, 0, rfl⟩
theorem DEVICE_DIGEST.DIGEST_in {W : List Span} : Covered ((one DEVICE_DIGEST.DIGEST) :: W) (DEVICE_DIGEST.DIGEST) :=
  ⟨_, List.mem_cons_self, DEVICE_DIGEST.DIGEST_has⟩
theorem DEVICE_DIGEST.DRIFT_EVENTS_has : Span.has (one DEVICE_DIGEST.DRIFT_EVENTS) (DEVICE_DIGEST.DRIFT_EVENTS) := ⟨0, 0, rfl⟩
theorem DEVICE_DIGEST.DRIFT_EVENTS_in {W : List Span} : Covered ((one DEVICE_DIGEST.DRIFT_EVENTS) :: W) (DEVICE_DIGEST.DRIFT_EVENTS) :=
  ⟨_, List.mem_cons_self, DEVICE_DIGEST.DRIFT_EVENTS_has⟩
theorem DEVICE_DIGEST.GLOBAL_GENERATION_has : Span.has (one DEVICE_DIGEST.GLOBAL_GENERATION) (DEVICE_DIGEST.GLOBAL_GENERATION) := ⟨0, 0, rfl⟩
theorem DEVICE_DIGEST.GLOBAL_GENERATION_in {W : List Span} : Covered ((one DEVICE_DIGEST.GLOBAL_GENERATION) :: W) (DEVICE_DIGEST.GLOBAL_GENERATION) :=
  ⟨_, List.mem_cons_self, DEVICE_DIGEST.GLOBAL_GENERATION_has⟩
theorem DEVICE_DIGEST.SNAPSHOT_FRAME_has : Span.has (one DEVICE_DIGEST.SNAPSHOT_FRAME) (DEVICE_DIGEST.SNAPSHOT_FRAME) := ⟨0, 0, rfl⟩
theorem DEVICE_DIGEST.SNAPSHOT_FRAME_in {W : List Span} : Covered ((one DEVICE_DIGEST.SNAPSHOT_FRAME) :: W) (DEVICE_DIGEST.SNAPSHOT_FRAME) :=
  ⟨_, List.mem_cons_self, DEVICE_DIGEST.SNAPSHOT_FRAME_has⟩
theorem DEVICE_DIGEST.SNAPSHOT_GENERATION_has : Span.has (one DEVICE_DIGEST.SNAPSHOT_GENERATION) (DEVICE_DIGEST.SNAPSHOT_GENERATION) := ⟨0, 0, rfl⟩
theorem DEVICE_DIGEST.SNAPSHOT_GENERATION_in {W : List Span} : Covered ((one DEVICE_DIGEST.SNAPSHOT_GENERATION) :: W) (DEVICE_DIGEST.SNAPSHOT_GENERATION) :=
  ⟨_, List.mem_cons_self, DEVICE_DIGEST.SNAPSHOT_GENERATION_has⟩
theorem DEVICE_DIGEST.SWEEPS_has : Span.has (one DEVICE_DIGEST.SWEEPS) (DEVICE_DIGEST.SWEEPS) := ⟨0, 0, rfl⟩
theorem DEVICE_DIGEST.SWEEPS_in {W : List Span} : Covered ((one DEVICE_DIGEST.SWEEPS) :: W) (DEVICE_DIGEST.SWEEPS) :=
  ⟨_, List.mem_cons_self, DEVICE_DIGEST.SWEEPS_has⟩
theorem DEVICE_WATCHDOG.LAST_WDX_STAMP_has : Span.has (one DEVICE_WATCHDOG.LAST_WDX_STAMP) (DEVICE_WATCHDOG.LAST_WDX_STAMP) := ⟨0, 0, rfl⟩
theorem DEVICE_WATCHDOG.LAST_WDX_STAMP_in {W : List Span} : Covered ((one DEVICE_WATCHDOG.LAST_WDX_STAMP) :: W) (DEVICE_WATCHDOG.LAST_WDX_STAMP) :=
  ⟨_, List.mem_cons_self, DEVICE_WATCHDOG.LAST_WDX_STAMP_has⟩
theorem DEVICE_WATCHDOG.WDX_RESETS_has : Span.has (one DEVICE_WATCHDOG.WDX_RESETS) (DEVICE_WATCHDOG.WDX_RESETS) := ⟨0, 0, rfl⟩
theorem DEVICE_WATCHDOG.WDX_RESETS_in {W : List Span} : Covered ((one DEVICE_WATCHDOG.WDX_RESETS) :: W) (DEVICE_WATCHDOG.WDX_RESETS) :=
  ⟨_, List.mem_cons_self, DEVICE_WATCHDOG.WDX_RESETS_has⟩
theorem DEV_STATE_has : Span.has (one DEV_STATE) (DEV_STATE) := ⟨0, 0, rfl⟩
theorem DEV_STATE_in {W : List Span} : Covered ((one DEV_STATE) :: W) (DEV_STATE) :=
  ⟨_, List.mem_cons_self, DEV_STATE_has⟩
theorem DIES_HELD_has : Span.has (one DIES_HELD) (DIES_HELD) := ⟨0, 0, rfl⟩
theorem DIES_HELD_in {W : List Span} : Covered ((one DIES_HELD) :: W) (DIES_HELD) :=
  ⟨_, List.mem_cons_self, DIES_HELD_has⟩
theorem DIE_DIGEST.APPLIED_CD_has (n : Nat) : Span.has (each DIE_DIGEST.APPLIED_CD) (DIE_DIGEST.APPLIED_CD n) := ⟨n, 0, by simp only [DIE_DIGEST.APPLIED_CD]; omega⟩
theorem DIE_DIGEST.APPLIED_CD_wide {a b : List Span} {n : Nat} (h : Inside a ((each DIE_DIGEST.APPLIED_CD) :: b)) :
    Inside (one (DIE_DIGEST.APPLIED_CD n) :: a) ((each DIE_DIGEST.APPLIED_CD) :: b) := Inside.wide (f := fun n => DIE_DIGEST.APPLIED_CD n) DIE_DIGEST.APPLIED_CD_has h
theorem DIE_DIGEST.EXPECTED_CD_has (n : Nat) : Span.has (each DIE_DIGEST.EXPECTED_CD) (DIE_DIGEST.EXPECTED_CD n) := ⟨n, 0, by simp only [DIE_DIGEST.EXPECTED_CD]; omega⟩
theorem DIE_DIGEST.EXPECTED_CD_wide {a b : List Span} {n : Nat} (h : Inside a ((each DIE_DIGEST.EXPECTED_CD) :: b)) :
    Inside (one (DIE_DIGEST.EXPECTED_CD n) :: a) ((each DIE_DIGEST.EXPECTED_CD) :: b) := Inside.wide (f := fun n => DIE_DIGEST.EXPECTED_CD n) DIE_DIGEST.EXPECTED_CD_has h
theorem DIE_OFFSET_has (n : Nat) : Span.has (each DIE_OFFSET) (DIE_OFFSET n) := ⟨n, 0, by simp only [DIE_OFFSET, internal]; omega⟩
theorem DIE_OFFSET_wide {a b : List Span} {n : Nat} (h : Inside a ((each DIE_OFFSET) :: b)) :
    Inside (one (DIE_OFFSET n) :: a) ((each DIE_OFFSET) :: b) := Inside.wide (f := fun n => DIE_OFFSET n) DIE_OFFSET_has h
theorem DL_BAD_has (n : Nat) : Span.has (each DL_BAD) (DL_BAD n) := ⟨n, 0, by simp only [DL_BAD, internal]; omega⟩
theorem DL_BAD_wide {a b : List Span} {n : Nat} (h : Inside a ((each DL_BAD) :: b)) :
    Inside (one (DL_BAD n) :: a) ((each DL_BAD) :: b) := Inside.wide (f := fun n => DL_BAD n) DL_BAD_has h
theorem DMA_LOST_has : Span.has (one DMA_LOST) (DMA_LOST) := ⟨0, 0, rfl⟩
theorem DMA_LOST_in {W : List Span} : Covered ((one DMA_LOST) :: W) (DMA_LOST) :=
  ⟨_, List.mem_cons_self, DMA_LOST_has⟩
theorem DMA_REARMED_has : Span.has (one DMA_REARMED) (DMA_REARMED) := ⟨0, 0, rfl⟩
theorem DMA_REARMED_in {W : List Span} : Covered ((one DMA_REARMED) :: W) (DMA_REARMED) :=
  ⟨_, List.mem_cons_self, DMA_REARMED_has⟩
theorem DRIFT_DUE_has (n : Nat) : Span.has (each DRIFT_DUE) (DRIFT_DUE n) := ⟨n, 0, by simp only [DRIFT_DUE, internal]; omega⟩
theorem DRIFT_DUE_in {W : List Span} {n : Nat} : Covered ((each DRIFT_DUE) :: W) (DRIFT_DUE n) :=
  ⟨_, List.mem_cons_self, DRIFT_DUE_has _⟩
theorem DROP_TIMES_has : Span.has (one DROP_TIMES) (DROP_TIMES) := ⟨0, 0, rfl⟩
theorem DROP_TIMES_in {W : List Span} : Covered ((one DROP_TIMES) :: W) (DROP_TIMES) :=
  ⟨_, List.mem_cons_self, DROP_TIMES_has⟩
theorem ENDGAME_ARMED_has (n : Nat) : Span.has (each ENDGAME_ARMED) (ENDGAME_ARMED n) := ⟨n, 0, by simp only [ENDGAME_ARMED, internal]; omega⟩
theorem ENDGAME_ARMED_in {W : List Span} {n : Nat} : Covered ((each ENDGAME_ARMED) :: W) (ENDGAME_ARMED n) :=
  ⟨_, List.mem_cons_self, ENDGAME_ARMED_has _⟩
theorem ENDGAME_DUE_has : Span.has (one ENDGAME_DUE) (ENDGAME_DUE) := ⟨0, 0, rfl⟩
theorem ENDGAME_DUE_in {W : List Span} : Covered ((one ENDGAME_DUE) :: W) (ENDGAME_DUE) :=
  ⟨_, List.mem_cons_self, ENDGAME_DUE_has⟩
theorem ERA_OPEN_has : Span.has (one ERA_OPEN) (ERA_OPEN) := ⟨0, 0, rfl⟩
theorem ERA_OPEN_in {W : List Span} : Covered ((one ERA_OPEN) :: W) (ERA_OPEN) :=
  ⟨_, List.mem_cons_self, ERA_OPEN_has⟩
theorem ERA_TOLD_has : Span.has (one ERA_TOLD) (ERA_TOLD) := ⟨0, 0, rfl⟩
theorem ERA_TOLD_in {W : List Span} : Covered ((one ERA_TOLD) :: W) (ERA_TOLD) :=
  ⟨_, List.mem_cons_self, ERA_TOLD_has⟩
theorem ESTIMATOR_STATUS.BATT_SHUNT_TEMP_has : Span.has (one ESTIMATOR_STATUS.BATT_SHUNT_TEMP) (ESTIMATOR_STATUS.BATT_SHUNT_TEMP) := ⟨0, 0, rfl⟩
theorem ESTIMATOR_STATUS.BATT_SHUNT_TEMP_in {W : List Span} : Covered ((one ESTIMATOR_STATUS.BATT_SHUNT_TEMP) :: W) (ESTIMATOR_STATUS.BATT_SHUNT_TEMP) :=
  ⟨_, List.mem_cons_self, ESTIMATOR_STATUS.BATT_SHUNT_TEMP_has⟩
theorem ESTIMATOR_STATUS.CAPACITY_IN_USE_has : Span.has (one ESTIMATOR_STATUS.CAPACITY_IN_USE) (ESTIMATOR_STATUS.CAPACITY_IN_USE) := ⟨0, 0, rfl⟩
theorem ESTIMATOR_STATUS.CAPACITY_IN_USE_in {W : List Span} : Covered ((one ESTIMATOR_STATUS.CAPACITY_IN_USE) :: W) (ESTIMATOR_STATUS.CAPACITY_IN_USE) :=
  ⟨_, List.mem_cons_self, ESTIMATOR_STATUS.CAPACITY_IN_USE_has⟩
theorem ESTIMATOR_STATUS.EST_FLAGS_has : Span.has (one ESTIMATOR_STATUS.EST_FLAGS) (ESTIMATOR_STATUS.EST_FLAGS) := ⟨0, 0, rfl⟩
theorem ESTIMATOR_STATUS.EST_FLAGS_in {W : List Span} : Covered ((one ESTIMATOR_STATUS.EST_FLAGS) :: W) (ESTIMATOR_STATUS.EST_FLAGS) :=
  ⟨_, List.mem_cons_self, ESTIMATOR_STATUS.EST_FLAGS_has⟩
theorem ESTIMATOR_STATUS.I_BATT_has : Span.has (one ESTIMATOR_STATUS.I_BATT) (ESTIMATOR_STATUS.I_BATT) := ⟨0, 0, rfl⟩
theorem ESTIMATOR_STATUS.I_BATT_in {W : List Span} : Covered ((one ESTIMATOR_STATUS.I_BATT) :: W) (ESTIMATOR_STATUS.I_BATT) :=
  ⟨_, List.mem_cons_self, ESTIMATOR_STATUS.I_BATT_has⟩
theorem ESTIMATOR_STATUS.I_BATT_1S_has : Span.has (one ESTIMATOR_STATUS.I_BATT_1S) (ESTIMATOR_STATUS.I_BATT_1S) := ⟨0, 0, rfl⟩
theorem ESTIMATOR_STATUS.I_BATT_1S_in {W : List Span} : Covered ((one ESTIMATOR_STATUS.I_BATT_1S) :: W) (ESTIMATOR_STATUS.I_BATT_1S) :=
  ⟨_, List.mem_cons_self, ESTIMATOR_STATUS.I_BATT_1S_has⟩
theorem ESTIMATOR_STATUS.I_BATT_INST_has : Span.has (one ESTIMATOR_STATUS.I_BATT_INST) (ESTIMATOR_STATUS.I_BATT_INST) := ⟨0, 0, rfl⟩
theorem ESTIMATOR_STATUS.I_BATT_INST_in {W : List Span} : Covered ((one ESTIMATOR_STATUS.I_BATT_INST) :: W) (ESTIMATOR_STATUS.I_BATT_INST) :=
  ⟨_, List.mem_cons_self, ESTIMATOR_STATUS.I_BATT_INST_has⟩
theorem ESTIMATOR_STATUS.LAST_REST_SOC_has : Span.has (one ESTIMATOR_STATUS.LAST_REST_SOC) (ESTIMATOR_STATUS.LAST_REST_SOC) := ⟨0, 0, rfl⟩
theorem ESTIMATOR_STATUS.LAST_REST_SOC_in {W : List Span} : Covered ((one ESTIMATOR_STATUS.LAST_REST_SOC) :: W) (ESTIMATOR_STATUS.LAST_REST_SOC) :=
  ⟨_, List.mem_cons_self, ESTIMATOR_STATUS.LAST_REST_SOC_has⟩
theorem ESTIMATOR_STATUS.LAST_REST_VOLTAGE_has : Span.has (one ESTIMATOR_STATUS.LAST_REST_VOLTAGE) (ESTIMATOR_STATUS.LAST_REST_VOLTAGE) := ⟨0, 0, rfl⟩
theorem ESTIMATOR_STATUS.LAST_REST_VOLTAGE_in {W : List Span} : Covered ((one ESTIMATOR_STATUS.LAST_REST_VOLTAGE) :: W) (ESTIMATOR_STATUS.LAST_REST_VOLTAGE) :=
  ⟨_, List.mem_cons_self, ESTIMATOR_STATUS.LAST_REST_VOLTAGE_has⟩
theorem ESTIMATOR_STATUS.LEARNED_CAPACITY_has : Span.has (one ESTIMATOR_STATUS.LEARNED_CAPACITY) (ESTIMATOR_STATUS.LEARNED_CAPACITY) := ⟨0, 0, rfl⟩
theorem ESTIMATOR_STATUS.LEARNED_CAPACITY_in {W : List Span} : Covered ((one ESTIMATOR_STATUS.LEARNED_CAPACITY) :: W) (ESTIMATOR_STATUS.LEARNED_CAPACITY) :=
  ⟨_, List.mem_cons_self, ESTIMATOR_STATUS.LEARNED_CAPACITY_has⟩
theorem ESTIMATOR_STATUS.RESISTANCE_has : Span.has (one ESTIMATOR_STATUS.RESISTANCE) (ESTIMATOR_STATUS.RESISTANCE) := ⟨0, 0, rfl⟩
theorem ESTIMATOR_STATUS.RESISTANCE_in {W : List Span} : Covered ((one ESTIMATOR_STATUS.RESISTANCE) :: W) (ESTIMATOR_STATUS.RESISTANCE) :=
  ⟨_, List.mem_cons_self, ESTIMATOR_STATUS.RESISTANCE_has⟩
theorem ESTIMATOR_STATUS.RESTS_UNUSED_has : Span.has (one ESTIMATOR_STATUS.RESTS_UNUSED) (ESTIMATOR_STATUS.RESTS_UNUSED) := ⟨0, 0, rfl⟩
theorem ESTIMATOR_STATUS.RESTS_UNUSED_in {W : List Span} : Covered ((one ESTIMATOR_STATUS.RESTS_UNUSED) :: W) (ESTIMATOR_STATUS.RESTS_UNUSED) :=
  ⟨_, List.mem_cons_self, ESTIMATOR_STATUS.RESTS_UNUSED_has⟩
theorem ESTIMATOR_STATUS.SOC_has : Span.has (one ESTIMATOR_STATUS.SOC) (ESTIMATOR_STATUS.SOC) := ⟨0, 0, rfl⟩
theorem ESTIMATOR_STATUS.SOC_in {W : List Span} : Covered ((one ESTIMATOR_STATUS.SOC) :: W) (ESTIMATOR_STATUS.SOC) :=
  ⟨_, List.mem_cons_self, ESTIMATOR_STATUS.SOC_has⟩
theorem ESTIMATOR_STATUS.SOC_INTERNAL_has : Span.has (one ESTIMATOR_STATUS.SOC_INTERNAL) (ESTIMATOR_STATUS.SOC_INTERNAL) := ⟨0, 0, rfl⟩
theorem ESTIMATOR_STATUS.SOC_INTERNAL_in {W : List Span} : Covered ((one ESTIMATOR_STATUS.SOC_INTERNAL) :: W) (ESTIMATOR_STATUS.SOC_INTERNAL) :=
  ⟨_, List.mem_cons_self, ESTIMATOR_STATUS.SOC_INTERNAL_has⟩
theorem ESTIMATOR_STATUS.SOC_SOURCE_has : Span.has (one ESTIMATOR_STATUS.SOC_SOURCE) (ESTIMATOR_STATUS.SOC_SOURCE) := ⟨0, 0, rfl⟩
theorem ESTIMATOR_STATUS.SOC_SOURCE_in {W : List Span} : Covered ((one ESTIMATOR_STATUS.SOC_SOURCE) :: W) (ESTIMATOR_STATUS.SOC_SOURCE) :=
  ⟨_, List.mem_cons_self, ESTIMATOR_STATUS.SOC_SOURCE_has⟩
theorem ESTIMATOR_STATUS.SOH_CAPACITY_has : Span.has (one ESTIMATOR_STATUS.SOH_CAPACITY) (ESTIMATOR_STATUS.SOH_CAPACITY) := ⟨0, 0, rfl⟩
theorem ESTIMATOR_STATUS.SOH_CAPACITY_in {W : List Span} : Covered ((one ESTIMATOR_STATUS.SOH_CAPACITY) :: W) (ESTIMATOR_STATUS.SOH_CAPACITY) :=
  ⟨_, List.mem_cons_self, ESTIMATOR_STATUS.SOH_CAPACITY_has⟩
theorem ESTIMATOR_STATUS.SOH_RESISTANCE_has : Span.has (one ESTIMATOR_STATUS.SOH_RESISTANCE) (ESTIMATOR_STATUS.SOH_RESISTANCE) := ⟨0, 0, rfl⟩
theorem ESTIMATOR_STATUS.SOH_RESISTANCE_in {W : List Span} : Covered ((one ESTIMATOR_STATUS.SOH_RESISTANCE) :: W) (ESTIMATOR_STATUS.SOH_RESISTANCE) :=
  ⟨_, List.mem_cons_self, ESTIMATOR_STATUS.SOH_RESISTANCE_has⟩
theorem EST_ANCHOR_has : Span.has (one EST_ANCHOR) (EST_ANCHOR) := ⟨0, 0, rfl⟩
theorem EST_ANCHOR_in {W : List Span} : Covered ((one EST_ANCHOR) :: W) (EST_ANCHOR) :=
  ⟨_, List.mem_cons_self, EST_ANCHOR_has⟩
theorem EST_ANCHOR_QE_has : Span.has (one EST_ANCHOR_QE) (EST_ANCHOR_QE) := ⟨0, 0, rfl⟩
theorem EST_ANCHOR_QE_in {W : List Span} : Covered ((one EST_ANCHOR_QE) :: W) (EST_ANCHOR_QE) :=
  ⟨_, List.mem_cons_self, EST_ANCHOR_QE_has⟩
theorem EST_BIN_has : Span.has (one EST_BIN) (EST_BIN) := ⟨0, 0, rfl⟩
theorem EST_BIN_in {W : List Span} : Covered ((one EST_BIN) :: W) (EST_BIN) :=
  ⟨_, List.mem_cons_self, EST_BIN_has⟩
theorem EST_CNT_has : Span.has (one EST_CNT) (EST_CNT) := ⟨0, 0, rfl⟩
theorem EST_CNT_in {W : List Span} : Covered ((one EST_CNT) :: W) (EST_CNT) :=
  ⟨_, List.mem_cons_self, EST_CNT_has⟩
theorem EST_IBIN_has : Span.has (one EST_IBIN) (EST_IBIN) := ⟨0, 0, rfl⟩
theorem EST_IBIN_in {W : List Span} : Covered ((one EST_IBIN) :: W) (EST_IBIN) :=
  ⟨_, List.mem_cons_self, EST_IBIN_has⟩
theorem EST_LONG_has : Span.has (one EST_LONG) (EST_LONG) := ⟨0, 0, rfl⟩
theorem EST_LONG_in {W : List Span} : Covered ((one EST_LONG) :: W) (EST_LONG) :=
  ⟨_, List.mem_cons_self, EST_LONG_has⟩
theorem EST_MS_CNT_has : Span.has (one EST_MS_CNT) (EST_MS_CNT) := ⟨0, 0, rfl⟩
theorem EST_MS_CNT_in {W : List Span} : Covered ((one EST_MS_CNT) :: W) (EST_MS_CNT) :=
  ⟨_, List.mem_cons_self, EST_MS_CNT_has⟩
theorem EST_MS_SUM_has : Span.has (one EST_MS_SUM) (EST_MS_SUM) := ⟨0, 0, rfl⟩
theorem EST_MS_SUM_in {W : List Span} : Covered ((one EST_MS_SUM) :: W) (EST_MS_SUM) :=
  ⟨_, List.mem_cons_self, EST_MS_SUM_has⟩
theorem EST_NA_has : Span.has (one EST_NA) (EST_NA) := ⟨0, 0, rfl⟩
theorem EST_NA_in {W : List Span} : Covered ((one EST_NA) :: W) (EST_NA) :=
  ⟨_, List.mem_cons_self, EST_NA_has⟩
theorem EST_OVER_has : Span.has (one EST_OVER) (EST_OVER) := ⟨0, 0, rfl⟩
theorem EST_OVER_in {W : List Span} : Covered ((one EST_OVER) :: W) (EST_OVER) :=
  ⟨_, List.mem_cons_self, EST_OVER_has⟩
theorem EST_OVER_AT_has : Span.has (one EST_OVER_AT) (EST_OVER_AT) := ⟨0, 0, rfl⟩
theorem EST_OVER_AT_in {W : List Span} : Covered ((one EST_OVER_AT) :: W) (EST_OVER_AT) :=
  ⟨_, List.mem_cons_self, EST_OVER_AT_has⟩
theorem EST_PARKED_has : Span.has (one EST_PARKED) (EST_PARKED) := ⟨0, 0, rfl⟩
theorem EST_PARKED_in {W : List Span} : Covered ((one EST_PARKED) :: W) (EST_PARKED) :=
  ⟨_, List.mem_cons_self, EST_PARKED_has⟩
theorem EST_PARK_MAX_has : Span.has (one EST_PARK_MAX) (EST_PARK_MAX) := ⟨0, 0, rfl⟩
theorem EST_PARK_MAX_in {W : List Span} : Covered ((one EST_PARK_MAX) :: W) (EST_PARK_MAX) :=
  ⟨_, List.mem_cons_self, EST_PARK_MAX_has⟩
theorem EST_PARK_S_has : Span.has (one EST_PARK_S) (EST_PARK_S) := ⟨0, 0, rfl⟩
theorem EST_PARK_S_in {W : List Span} : Covered ((one EST_PARK_S) :: W) (EST_PARK_S) :=
  ⟨_, List.mem_cons_self, EST_PARK_S_has⟩
theorem EST_QE_has : Span.has (one EST_QE) (EST_QE) := ⟨0, 0, rfl⟩
theorem EST_QE_in {W : List Span} : Covered ((one EST_QE) :: W) (EST_QE) :=
  ⟨_, List.mem_cons_self, EST_QE_has⟩
theorem EST_QM_has : Span.has (one EST_QM) (EST_QM) := ⟨0, 0, rfl⟩
theorem EST_QM_in {W : List Span} : Covered ((one EST_QM) :: W) (EST_QM) :=
  ⟨_, List.mem_cons_self, EST_QM_has⟩
theorem EST_QP_has : Span.has (one EST_QP) (EST_QP) := ⟨0, 0, rfl⟩
theorem EST_QP_in {W : List Span} : Covered ((one EST_QP) :: W) (EST_QP) :=
  ⟨_, List.mem_cons_self, EST_QP_has⟩
theorem EST_REST_DONE_has : Span.has (one EST_REST_DONE) (EST_REST_DONE) := ⟨0, 0, rfl⟩
theorem EST_REST_DONE_in {W : List Span} : Covered ((one EST_REST_DONE) :: W) (EST_REST_DONE) :=
  ⟨_, List.mem_cons_self, EST_REST_DONE_has⟩
theorem EST_REST_DUE_has : Span.has (one EST_REST_DUE) (EST_REST_DUE) := ⟨0, 0, rfl⟩
theorem EST_REST_DUE_in {W : List Span} : Covered ((one EST_REST_DUE) :: W) (EST_REST_DUE) :=
  ⟨_, List.mem_cons_self, EST_REST_DUE_has⟩
theorem EST_REST_SINCE_has : Span.has (one EST_REST_SINCE) (EST_REST_SINCE) := ⟨0, 0, rfl⟩
theorem EST_REST_SINCE_in {W : List Span} : Covered ((one EST_REST_SINCE) :: W) (EST_REST_SINCE) :=
  ⟨_, List.mem_cons_self, EST_REST_SINCE_has⟩
theorem EST_SHORT_has : Span.has (one EST_SHORT) (EST_SHORT) := ⟨0, 0, rfl⟩
theorem EST_SHORT_in {W : List Span} : Covered ((one EST_SHORT) :: W) (EST_SHORT) :=
  ⟨_, List.mem_cons_self, EST_SHORT_has⟩
theorem EST_SHORT_STAMP_has : Span.has (one EST_SHORT_STAMP) (EST_SHORT_STAMP) := ⟨0, 0, rfl⟩
theorem EST_SHORT_STAMP_in {W : List Span} : Covered ((one EST_SHORT_STAMP) :: W) (EST_SHORT_STAMP) :=
  ⟨_, List.mem_cons_self, EST_SHORT_STAMP_has⟩
theorem EST_SOC_has : Span.has (one EST_SOC) (EST_SOC) := ⟨0, 0, rfl⟩
theorem EST_SOC_in {W : List Span} : Covered ((one EST_SOC) :: W) (EST_SOC) :=
  ⟨_, List.mem_cons_self, EST_SOC_has⟩
theorem EST_SOCI_has : Span.has (one EST_SOCI) (EST_SOCI) := ⟨0, 0, rfl⟩
theorem EST_SOCI_in {W : List Span} : Covered ((one EST_SOCI) :: W) (EST_SOCI) :=
  ⟨_, List.mem_cons_self, EST_SOCI_has⟩
theorem EST_SUM_has : Span.has (one EST_SUM) (EST_SUM) := ⟨0, 0, rfl⟩
theorem EST_SUM_in {W : List Span} : Covered ((one EST_SUM) :: W) (EST_SUM) :=
  ⟨_, List.mem_cons_self, EST_SUM_has⟩
theorem EST_UPDATED_has : Span.has (one EST_UPDATED) (EST_UPDATED) := ⟨0, 0, rfl⟩
theorem EST_UPDATED_in {W : List Span} : Covered ((one EST_UPDATED) :: W) (EST_UPDATED) :=
  ⟨_, List.mem_cons_self, EST_UPDATED_has⟩
theorem EVENT_FABRIC.LATE_RECORDS_has : Span.has (one EVENT_FABRIC.LATE_RECORDS) (EVENT_FABRIC.LATE_RECORDS) := ⟨0, 0, rfl⟩
theorem EVENT_FABRIC.LATE_RECORDS_in {W : List Span} : Covered ((one EVENT_FABRIC.LATE_RECORDS) :: W) (EVENT_FABRIC.LATE_RECORDS) :=
  ⟨_, List.mem_cons_self, EVENT_FABRIC.LATE_RECORDS_has⟩
theorem EVENT_FABRIC.RECORDS_PLACED_has : Span.has (one EVENT_FABRIC.RECORDS_PLACED) (EVENT_FABRIC.RECORDS_PLACED) := ⟨0, 0, rfl⟩
theorem EVENT_FABRIC.RECORDS_PLACED_in {W : List Span} : Covered ((one EVENT_FABRIC.RECORDS_PLACED) :: W) (EVENT_FABRIC.RECORDS_PLACED) :=
  ⟨_, List.mem_cons_self, EVENT_FABRIC.RECORDS_PLACED_has⟩
theorem EVENT_FABRIC.TICK_SOURCE_has : Span.has (one EVENT_FABRIC.TICK_SOURCE) (EVENT_FABRIC.TICK_SOURCE) := ⟨0, 0, rfl⟩
theorem EVENT_FABRIC.TICK_SOURCE_in {W : List Span} : Covered ((one EVENT_FABRIC.TICK_SOURCE) :: W) (EVENT_FABRIC.TICK_SOURCE) :=
  ⟨_, List.mem_cons_self, EVENT_FABRIC.TICK_SOURCE_has⟩
theorem FAULT_STATUS.CASCADES_has : Span.has (one FAULT_STATUS.CASCADES) (FAULT_STATUS.CASCADES) := ⟨0, 0, rfl⟩
theorem FAULT_STATUS.CASCADES_in {W : List Span} : Covered ((one FAULT_STATUS.CASCADES) :: W) (FAULT_STATUS.CASCADES) :=
  ⟨_, List.mem_cons_self, FAULT_STATUS.CASCADES_has⟩
theorem FAULT_STATUS.COLLECTOR_DROPS_has : Span.has (one FAULT_STATUS.COLLECTOR_DROPS) (FAULT_STATUS.COLLECTOR_DROPS) := ⟨0, 0, rfl⟩
theorem FAULT_STATUS.COLLECTOR_DROPS_in {W : List Span} : Covered ((one FAULT_STATUS.COLLECTOR_DROPS) :: W) (FAULT_STATUS.COLLECTOR_DROPS) :=
  ⟨_, List.mem_cons_self, FAULT_STATUS.COLLECTOR_DROPS_has⟩
theorem FAULT_STATUS.COUNT_F_has (n : Nat) : Span.has (each FAULT_STATUS.COUNT_F) (FAULT_STATUS.COUNT_F n) := ⟨n, 0, by simp only [FAULT_STATUS.COUNT_F]; omega⟩
theorem FAULT_STATUS.COUNT_F_in {W : List Span} {n : Nat} : Covered ((each FAULT_STATUS.COUNT_F) :: W) (FAULT_STATUS.COUNT_F n) :=
  ⟨_, List.mem_cons_self, FAULT_STATUS.COUNT_F_has _⟩
theorem FAULT_STATUS.ESCALATIONS_has : Span.has (one FAULT_STATUS.ESCALATIONS) (FAULT_STATUS.ESCALATIONS) := ⟨0, 0, rfl⟩
theorem FAULT_STATUS.ESCALATIONS_in {W : List Span} : Covered ((one FAULT_STATUS.ESCALATIONS) :: W) (FAULT_STATUS.ESCALATIONS) :=
  ⟨_, List.mem_cons_self, FAULT_STATUS.ESCALATIONS_has⟩
theorem FAULT_STATUS.HOUSE_STOPS_has : Span.has (one FAULT_STATUS.HOUSE_STOPS) (FAULT_STATUS.HOUSE_STOPS) := ⟨0, 0, rfl⟩
theorem FAULT_STATUS.HOUSE_STOPS_in {W : List Span} : Covered ((one FAULT_STATUS.HOUSE_STOPS) :: W) (FAULT_STATUS.HOUSE_STOPS) :=
  ⟨_, List.mem_cons_self, FAULT_STATUS.HOUSE_STOPS_has⟩
theorem FAULT_STATUS.LAST_KIND_has : Span.has (one FAULT_STATUS.LAST_KIND) (FAULT_STATUS.LAST_KIND) := ⟨0, 0, rfl⟩
theorem FAULT_STATUS.LAST_KIND_in {W : List Span} : Covered ((one FAULT_STATUS.LAST_KIND) :: W) (FAULT_STATUS.LAST_KIND) :=
  ⟨_, List.mem_cons_self, FAULT_STATUS.LAST_KIND_has⟩
theorem FAULT_STATUS.LAST_SITE_has : Span.has (one FAULT_STATUS.LAST_SITE) (FAULT_STATUS.LAST_SITE) := ⟨0, 0, rfl⟩
theorem FAULT_STATUS.LAST_SITE_in {W : List Span} : Covered ((one FAULT_STATUS.LAST_SITE) :: W) (FAULT_STATUS.LAST_SITE) :=
  ⟨_, List.mem_cons_self, FAULT_STATUS.LAST_SITE_has⟩
theorem FAULT_STATUS.LAST_STOP_has : Span.has (one FAULT_STATUS.LAST_STOP) (FAULT_STATUS.LAST_STOP) := ⟨0, 0, rfl⟩
theorem FAULT_STATUS.LAST_STOP_in {W : List Span} : Covered ((one FAULT_STATUS.LAST_STOP) :: W) (FAULT_STATUS.LAST_STOP) :=
  ⟨_, List.mem_cons_self, FAULT_STATUS.LAST_STOP_has⟩
theorem FAULT_STATUS.LOCKOUTS_has : Span.has (one FAULT_STATUS.LOCKOUTS) (FAULT_STATUS.LOCKOUTS) := ⟨0, 0, rfl⟩
theorem FAULT_STATUS.LOCKOUTS_in {W : List Span} : Covered ((one FAULT_STATUS.LOCKOUTS) :: W) (FAULT_STATUS.LOCKOUTS) :=
  ⟨_, List.mem_cons_self, FAULT_STATUS.LOCKOUTS_has⟩
theorem FAULT_STATUS.SHADOWED_has : Span.has (one FAULT_STATUS.SHADOWED) (FAULT_STATUS.SHADOWED) := ⟨0, 0, rfl⟩
theorem FAULT_STATUS.SHADOWED_in {W : List Span} : Covered ((one FAULT_STATUS.SHADOWED) :: W) (FAULT_STATUS.SHADOWED) :=
  ⟨_, List.mem_cons_self, FAULT_STATUS.SHADOWED_has⟩
theorem FENCE_CONTROL.FENCE_DONE_has (n : Nat) : Span.has (each FENCE_CONTROL.FENCE_DONE) (FENCE_CONTROL.FENCE_DONE n) := ⟨n, 0, by simp only [FENCE_CONTROL.FENCE_DONE]; omega⟩
theorem FENCE_CONTROL.FENCE_DONE_in {W : List Span} {n : Nat} : Covered ((each FENCE_CONTROL.FENCE_DONE) :: W) (FENCE_CONTROL.FENCE_DONE n) :=
  ⟨_, List.mem_cons_self, FENCE_CONTROL.FENCE_DONE_has _⟩
theorem FET1_has (n : Nat) : Span.has (each FET1) (FET1 n) := ⟨n, 0, by simp only [FET1, internal]; omega⟩
theorem FET1_wide {a b : List Span} {n : Nat} (h : Inside a ((each FET1) :: b)) :
    Inside (one (FET1 n) :: a) ((each FET1) :: b) := Inside.wide (f := fun n => FET1 n) FET1_has h
theorem FET2_has (n : Nat) : Span.has (each FET2) (FET2 n) := ⟨n, 0, by simp only [FET2, internal]; omega⟩
theorem FET2_wide {a b : List Span} {n : Nat} (h : Inside a ((each FET2) :: b)) :
    Inside (one (FET2 n) :: a) ((each FET2) :: b) := Inside.wide (f := fun n => FET2 n) FET2_has h
theorem FET_NOW_has (n : Nat) : Span.has (each FET_NOW) (FET_NOW n) := ⟨n, 0, by simp only [FET_NOW, internal]; omega⟩
theorem FET_NOW_wide {a b : List Span} {n : Nat} (h : Inside a ((each FET_NOW) :: b)) :
    Inside (one (FET_NOW n) :: a) ((each FET_NOW) :: b) := Inside.wide (f := fun n => FET_NOW n) FET_NOW_has h
theorem FOLD_WAIT_has (n : Nat) : Span.has (each FOLD_WAIT) (FOLD_WAIT n) := ⟨n, 0, by simp only [FOLD_WAIT, internal]; omega⟩
theorem FOLD_WAIT_in {W : List Span} {n : Nat} : Covered ((each FOLD_WAIT) :: W) (FOLD_WAIT n) :=
  ⟨_, List.mem_cons_self, FOLD_WAIT_has _⟩
theorem FRAMES_SEEN_has (n : Nat) : Span.has (each FRAMES_SEEN) (FRAMES_SEEN n) := ⟨n, 0, by simp only [FRAMES_SEEN, internal]; omega⟩
theorem FRAMES_SEEN_wide {a b : List Span} {n : Nat} (h : Inside a ((each FRAMES_SEEN) :: b)) :
    Inside (one (FRAMES_SEEN n) :: a) ((each FRAMES_SEEN) :: b) := Inside.wide (f := fun n => FRAMES_SEEN n) FRAMES_SEEN_has h
theorem FRAME_BUF_has (n : Nat) : Span.has (each FRAME_BUF) (FRAME_BUF n) := ⟨n, 0, by simp only [FRAME_BUF, internal]; omega⟩
theorem FRAME_BUF_in {W : List Span} {n : Nat} : Covered ((each FRAME_BUF) :: W) (FRAME_BUF n) :=
  ⟨_, List.mem_cons_self, FRAME_BUF_has _⟩
theorem FRAME_RESP_has (n : Nat) : Span.has (each FRAME_RESP) (FRAME_RESP n) := ⟨n, 0, by simp only [FRAME_RESP, internal]; omega⟩
theorem FRAME_RESP_in {W : List Span} {n : Nat} : Covered ((each FRAME_RESP) :: W) (FRAME_RESP n) :=
  ⟨_, List.mem_cons_self, FRAME_RESP_has _⟩
theorem GATE_has (n : Nat) : Span.has (each GATE) (GATE n) := ⟨n, 0, by simp only [GATE, internal]; omega⟩
theorem GATE_in {W : List Span} {n : Nat} : Covered ((each GATE) :: W) (GATE n) :=
  ⟨_, List.mem_cons_self, GATE_has _⟩
theorem GATE_wide {a b : List Span} {n : Nat} (h : Inside a ((each GATE) :: b)) :
    Inside (one (GATE n) :: a) ((each GATE) :: b) := Inside.wide (f := fun n => GATE n) GATE_has h
theorem HB_AT_has (n : Nat) : Span.has (each HB_AT) (HB_AT n) := ⟨n, 0, by simp only [HB_AT, internal]; omega⟩
theorem HB_AT_wide {a b : List Span} {n : Nat} (h : Inside a ((each HB_AT) :: b)) :
    Inside (one (HB_AT n) :: a) ((each HB_AT) :: b) := Inside.wide (f := fun n => HB_AT n) HB_AT_has h
theorem HEAD_SUM_has (n m : Nat) : Span.has (each2 HEAD_SUM) (HEAD_SUM n m) := ⟨n, m, by simp only [HEAD_SUM, internal]; omega⟩
theorem HEAD_SUM_in {W : List Span} {n m : Nat} : Covered ((each2 HEAD_SUM) :: W) (HEAD_SUM n m) :=
  ⟨_, List.mem_cons_self, HEAD_SUM_has _ _⟩
theorem HK_ADC.CONVERSIONS_has : Span.has (one HK_ADC.CONVERSIONS) (HK_ADC.CONVERSIONS) := ⟨0, 0, rfl⟩
theorem HK_ADC.CONVERSIONS_in {W : List Span} : Covered ((one HK_ADC.CONVERSIONS) :: W) (HK_ADC.CONVERSIONS) :=
  ⟨_, List.mem_cons_self, HK_ADC.CONVERSIONS_has⟩
theorem HK_AT_has (n : Nat) : Span.has (each HK_AT) (HK_AT n) := ⟨n, 0, by simp only [HK_AT, internal]; omega⟩
theorem HK_AT_wide {a b : List Span} {n : Nat} (h : Inside a ((each HK_AT) :: b)) :
    Inside (one (HK_AT n) :: a) ((each HK_AT) :: b) := Inside.wide (f := fun n => HK_AT n) HK_AT_has h
theorem HK_DELAY_has (n : Nat) : Span.has (each HK_DELAY) (HK_DELAY n) := ⟨n, 0, by simp only [HK_DELAY, internal]; omega⟩
theorem HK_DELAY_wide {a b : List Span} {n : Nat} (h : Inside a ((each HK_DELAY) :: b)) :
    Inside (one (HK_DELAY n) :: a) ((each HK_DELAY) :: b) := Inside.wide (f := fun n => HK_DELAY n) HK_DELAY_has h
theorem HK_DONE_has (n : Nat) : Span.has (each HK_DONE) (HK_DONE n) := ⟨n, 0, by simp only [HK_DONE, internal]; omega⟩
theorem HK_DONE_in {W : List Span} {n : Nat} : Covered ((each HK_DONE) :: W) (HK_DONE n) :=
  ⟨_, List.mem_cons_self, HK_DONE_has _⟩
theorem HK_DROPS_has (n : Nat) : Span.has (each HK_DROPS) (HK_DROPS n) := ⟨n, 0, by simp only [HK_DROPS, internal]; omega⟩
theorem HK_DROPS_in {W : List Span} {n : Nat} : Covered ((each HK_DROPS) :: W) (HK_DROPS n) :=
  ⟨_, List.mem_cons_self, HK_DROPS_has _⟩
theorem HK_DROPS_wide {a b : List Span} {n : Nat} (h : Inside a ((each HK_DROPS) :: b)) :
    Inside (one (HK_DROPS n) :: a) ((each HK_DROPS) :: b) := Inside.wide (f := fun n => HK_DROPS n) HK_DROPS_has h
theorem HK_ENTRY.ENTRY_STATUS_has (n : Nat) : Span.has (each HK_ENTRY.ENTRY_STATUS) (HK_ENTRY.ENTRY_STATUS n) := ⟨n, 0, by simp only [HK_ENTRY.ENTRY_STATUS]; omega⟩
theorem HK_ENTRY.ENTRY_STATUS_wide {a b : List Span} {n : Nat} (h : Inside a ((each HK_ENTRY.ENTRY_STATUS) :: b)) :
    Inside (one (HK_ENTRY.ENTRY_STATUS n) :: a) ((each HK_ENTRY.ENTRY_STATUS) :: b) := Inside.wide (f := fun n => HK_ENTRY.ENTRY_STATUS n) HK_ENTRY.ENTRY_STATUS_has h
theorem HK_ENTRY.RAW_has (n : Nat) : Span.has (each HK_ENTRY.RAW) (HK_ENTRY.RAW n) := ⟨n, 0, by simp only [HK_ENTRY.RAW]; omega⟩
theorem HK_ENTRY.RAW_wide {a b : List Span} {n : Nat} (h : Inside a ((each HK_ENTRY.RAW) :: b)) :
    Inside (one (HK_ENTRY.RAW n) :: a) ((each HK_ENTRY.RAW) :: b) := Inside.wide (f := fun n => HK_ENTRY.RAW n) HK_ENTRY.RAW_has h
theorem HK_ENTRY.RESULT_STAMP_has (n : Nat) : Span.has (each HK_ENTRY.RESULT_STAMP) (HK_ENTRY.RESULT_STAMP n) := ⟨n, 0, by simp only [HK_ENTRY.RESULT_STAMP]; omega⟩
theorem HK_ENTRY.RESULT_STAMP_wide {a b : List Span} {n : Nat} (h : Inside a ((each HK_ENTRY.RESULT_STAMP) :: b)) :
    Inside (one (HK_ENTRY.RESULT_STAMP n) :: a) ((each HK_ENTRY.RESULT_STAMP) :: b) := Inside.wide (f := fun n => HK_ENTRY.RESULT_STAMP n) HK_ENTRY.RESULT_STAMP_has h
theorem HK_ENTRY.VALUE_has (n : Nat) : Span.has (each HK_ENTRY.VALUE) (HK_ENTRY.VALUE n) := ⟨n, 0, by simp only [HK_ENTRY.VALUE]; omega⟩
theorem HK_ENTRY.VALUE_wide {a b : List Span} {n : Nat} (h : Inside a ((each HK_ENTRY.VALUE) :: b)) :
    Inside (one (HK_ENTRY.VALUE n) :: a) ((each HK_ENTRY.VALUE) :: b) := Inside.wide (f := fun n => HK_ENTRY.VALUE n) HK_ENTRY.VALUE_has h
theorem HK_INJECT_has (n : Nat) : Span.has (each HK_INJECT) (HK_INJECT n) := ⟨n, 0, by simp only [HK_INJECT, internal]; omega⟩
theorem HK_INJECT_in {W : List Span} {n : Nat} : Covered ((each HK_INJECT) :: W) (HK_INJECT n) :=
  ⟨_, List.mem_cons_self, HK_INJECT_has _⟩
theorem HK_LAST_has (n : Nat) : Span.has (each HK_LAST) (HK_LAST n) := ⟨n, 0, by simp only [HK_LAST, internal]; omega⟩
theorem HK_LAST_in {W : List Span} {n : Nat} : Covered ((each HK_LAST) :: W) (HK_LAST n) :=
  ⟨_, List.mem_cons_self, HK_LAST_has _⟩
theorem HK_LATCH_has (n : Nat) : Span.has (each HK_LATCH) (HK_LATCH n) := ⟨n, 0, by simp only [HK_LATCH, internal]; omega⟩
theorem HK_LATCH_in {W : List Span} {n : Nat} : Covered ((each HK_LATCH) :: W) (HK_LATCH n) :=
  ⟨_, List.mem_cons_self, HK_LATCH_has _⟩
theorem HK_LATCH_wide {a b : List Span} {n : Nat} (h : Inside a ((each HK_LATCH) :: b)) :
    Inside (one (HK_LATCH n) :: a) ((each HK_LATCH) :: b) := Inside.wide (f := fun n => HK_LATCH n) HK_LATCH_has h
theorem HK_OK_has (n : Nat) : Span.has (each HK_OK) (HK_OK n) := ⟨n, 0, by simp only [HK_OK, internal]; omega⟩
theorem HK_OK_wide {a b : List Span} {n : Nat} (h : Inside a ((each HK_OK) :: b)) :
    Inside (one (HK_OK n) :: a) ((each HK_OK) :: b) := Inside.wide (f := fun n => HK_OK n) HK_OK_has h
theorem HK_PASS_AT_has (n : Nat) : Span.has (each HK_PASS_AT) (HK_PASS_AT n) := ⟨n, 0, by simp only [HK_PASS_AT, internal]; omega⟩
theorem HK_PASS_AT_in {W : List Span} {n : Nat} : Covered ((each HK_PASS_AT) :: W) (HK_PASS_AT n) :=
  ⟨_, List.mem_cons_self, HK_PASS_AT_has _⟩
theorem HK_PRE_has (n : Nat) : Span.has (each HK_PRE) (HK_PRE n) := ⟨n, 0, by simp only [HK_PRE, internal]; omega⟩
theorem HK_PRE_in {W : List Span} {n : Nat} : Covered ((each HK_PRE) :: W) (HK_PRE n) :=
  ⟨_, List.mem_cons_self, HK_PRE_has _⟩
theorem HK_PRE_wide {a b : List Span} {n : Nat} (h : Inside a ((each HK_PRE) :: b)) :
    Inside (one (HK_PRE n) :: a) ((each HK_PRE) :: b) := Inside.wide (f := fun n => HK_PRE n) HK_PRE_has h
theorem HK_RUN_has (n : Nat) : Span.has (each HK_RUN) (HK_RUN n) := ⟨n, 0, by simp only [HK_RUN, internal]; omega⟩
theorem HK_RUN_in {W : List Span} {n : Nat} : Covered ((each HK_RUN) :: W) (HK_RUN n) :=
  ⟨_, List.mem_cons_self, HK_RUN_has _⟩
theorem HK_RUN_wide {a b : List Span} {n : Nat} (h : Inside a ((each HK_RUN) :: b)) :
    Inside (one (HK_RUN n) :: a) ((each HK_RUN) :: b) := Inside.wide (f := fun n => HK_RUN n) HK_RUN_has h
theorem HK_SEQUENCE.OVERRUN_COUNT_has (n : Nat) : Span.has (each HK_SEQUENCE.OVERRUN_COUNT) (HK_SEQUENCE.OVERRUN_COUNT n) := ⟨n, 0, by simp only [HK_SEQUENCE.OVERRUN_COUNT]; omega⟩
theorem HK_SEQUENCE.OVERRUN_COUNT_wide {a b : List Span} {n : Nat} (h : Inside a ((each HK_SEQUENCE.OVERRUN_COUNT) :: b)) :
    Inside (one (HK_SEQUENCE.OVERRUN_COUNT n) :: a) ((each HK_SEQUENCE.OVERRUN_COUNT) :: b) := Inside.wide (f := fun n => HK_SEQUENCE.OVERRUN_COUNT n) HK_SEQUENCE.OVERRUN_COUNT_has h
theorem HK_SEQUENCE.SEQ_STATE_has (n : Nat) : Span.has (each HK_SEQUENCE.SEQ_STATE) (HK_SEQUENCE.SEQ_STATE n) := ⟨n, 0, by simp only [HK_SEQUENCE.SEQ_STATE]; omega⟩
theorem HK_SEQUENCE.SEQ_STATE_wide {a b : List Span} {n : Nat} (h : Inside a ((each HK_SEQUENCE.SEQ_STATE) :: b)) :
    Inside (one (HK_SEQUENCE.SEQ_STATE n) :: a) ((each HK_SEQUENCE.SEQ_STATE) :: b) := Inside.wide (f := fun n => HK_SEQUENCE.SEQ_STATE n) HK_SEQUENCE.SEQ_STATE_has h
theorem HK_SUM_has (n : Nat) : Span.has (each HK_SUM) (HK_SUM n) := ⟨n, 0, by simp only [HK_SUM, internal]; omega⟩
theorem HK_SUM_in {W : List Span} {n : Nat} : Covered ((each HK_SUM) :: W) (HK_SUM n) :=
  ⟨_, List.mem_cons_self, HK_SUM_has _⟩
theorem IDENTITY_DATA.IDENTITY_STATE_has : Span.has (one IDENTITY_DATA.IDENTITY_STATE) (IDENTITY_DATA.IDENTITY_STATE) := ⟨0, 0, rfl⟩
theorem IDENTITY_DATA.IDENTITY_STATE_in {W : List Span} : Covered ((one IDENTITY_DATA.IDENTITY_STATE) :: W) (IDENTITY_DATA.IDENTITY_STATE) :=
  ⟨_, List.mem_cons_self, IDENTITY_DATA.IDENTITY_STATE_has⟩
theorem KEEPER.FAILED_OPENINGS_has : Span.has (one KEEPER.FAILED_OPENINGS) (KEEPER.FAILED_OPENINGS) := ⟨0, 0, rfl⟩
theorem KEEPER.FAILED_OPENINGS_in {W : List Span} : Covered ((one KEEPER.FAILED_OPENINGS) :: W) (KEEPER.FAILED_OPENINGS) :=
  ⟨_, List.mem_cons_self, KEEPER.FAILED_OPENINGS_has⟩
theorem KEEPER.HOLDS_has : Span.has (one KEEPER.HOLDS) (KEEPER.HOLDS) := ⟨0, 0, rfl⟩
theorem KEEPER.HOLDS_in {W : List Span} : Covered ((one KEEPER.HOLDS) :: W) (KEEPER.HOLDS) :=
  ⟨_, List.mem_cons_self, KEEPER.HOLDS_has⟩
theorem KEEPER.LAST_HOLD_SECONDS_has : Span.has (one KEEPER.LAST_HOLD_SECONDS) (KEEPER.LAST_HOLD_SECONDS) := ⟨0, 0, rfl⟩
theorem KEEPER.LAST_HOLD_SECONDS_in {W : List Span} : Covered ((one KEEPER.LAST_HOLD_SECONDS) :: W) (KEEPER.LAST_HOLD_SECONDS) :=
  ⟨_, List.mem_cons_self, KEEPER.LAST_HOLD_SECONDS_has⟩
theorem KEEPER.RETRY_SERIES_has : Span.has (one KEEPER.RETRY_SERIES) (KEEPER.RETRY_SERIES) := ⟨0, 0, rfl⟩
theorem KEEPER.RETRY_SERIES_in {W : List Span} : Covered ((one KEEPER.RETRY_SERIES) :: W) (KEEPER.RETRY_SERIES) :=
  ⟨_, List.mem_cons_self, KEEPER.RETRY_SERIES_has⟩
theorem KEEPER_AT_has : Span.has (one KEEPER_AT) (KEEPER_AT) := ⟨0, 0, rfl⟩
theorem KEEPER_AT_in {W : List Span} : Covered ((one KEEPER_AT) :: W) (KEEPER_AT) :=
  ⟨_, List.mem_cons_self, KEEPER_AT_has⟩
theorem KEEPER_HOLDING_has : Span.has (one KEEPER_HOLDING) (KEEPER_HOLDING) := ⟨0, 0, rfl⟩
theorem KEEPER_HOLDING_in {W : List Span} : Covered ((one KEEPER_HOLDING) :: W) (KEEPER_HOLDING) :=
  ⟨_, List.mem_cons_self, KEEPER_HOLDING_has⟩
theorem KEEPER_LAST_has : Span.has (one KEEPER_LAST) (KEEPER_LAST) := ⟨0, 0, rfl⟩
theorem KEEPER_LAST_in {W : List Span} : Covered ((one KEEPER_LAST) :: W) (KEEPER_LAST) :=
  ⟨_, List.mem_cons_self, KEEPER_LAST_has⟩
theorem KEEPER_PASS_has : Span.has (one KEEPER_PASS) (KEEPER_PASS) := ⟨0, 0, rfl⟩
theorem KEEPER_PASS_in {W : List Span} : Covered ((one KEEPER_PASS) :: W) (KEEPER_PASS) :=
  ⟨_, List.mem_cons_self, KEEPER_PASS_has⟩
theorem KEEPER_TOLD_has : Span.has (one KEEPER_TOLD) (KEEPER_TOLD) := ⟨0, 0, rfl⟩
theorem KEEPER_TOLD_in {W : List Span} : Covered ((one KEEPER_TOLD) :: W) (KEEPER_TOLD) :=
  ⟨_, List.mem_cons_self, KEEPER_TOLD_has⟩
theorem KEPT_has (n m : Nat) : Span.has (each2 KEPT) (KEPT n m) := ⟨n, m, by simp only [KEPT, internal]; omega⟩
theorem KEPT_in {W : List Span} {n m : Nat} : Covered ((each2 KEPT) :: W) (KEPT n m) :=
  ⟨_, List.mem_cons_self, KEPT_has _ _⟩
theorem KEY_DH_has (n : Nat) : Span.has (each KEY_DH) (KEY_DH n) := ⟨n, 0, by simp only [KEY_DH, internal]; omega⟩
theorem KEY_DH_in {W : List Span} {n : Nat} : Covered ((each KEY_DH) :: W) (KEY_DH n) :=
  ⟨_, List.mem_cons_self, KEY_DH_has _⟩
theorem KEY_HD_has (n : Nat) : Span.has (each KEY_HD) (KEY_HD n) := ⟨n, 0, by simp only [KEY_HD, internal]; omega⟩
theorem KEY_HD_in {W : List Span} {n : Nat} : Covered ((each KEY_HD) :: W) (KEY_HD n) :=
  ⟨_, List.mem_cons_self, KEY_HD_has _⟩
theorem LAMP_AT_has (n : Nat) : Span.has (each LAMP_AT) (LAMP_AT n) := ⟨n, 0, by simp only [LAMP_AT, internal]; omega⟩
theorem LAMP_AT_wide {a b : List Span} {n : Nat} (h : Inside a ((each LAMP_AT) :: b)) :
    Inside (one (LAMP_AT n) :: a) ((each LAMP_AT) :: b) := Inside.wide (f := fun n => LAMP_AT n) LAMP_AT_has h
theorem LAMP_LOW_has (n : Nat) : Span.has (each LAMP_LOW) (LAMP_LOW n) := ⟨n, 0, by simp only [LAMP_LOW, internal]; omega⟩
theorem LAMP_LOW_wide {a b : List Span} {n : Nat} (h : Inside a ((each LAMP_LOW) :: b)) :
    Inside (one (LAMP_LOW n) :: a) ((each LAMP_LOW) :: b) := Inside.wide (f := fun n => LAMP_LOW n) LAMP_LOW_has h
theorem LAMP_TOLD_has (n : Nat) : Span.has (each LAMP_TOLD) (LAMP_TOLD n) := ⟨n, 0, by simp only [LAMP_TOLD, internal]; omega⟩
theorem LAMP_TOLD_wide {a b : List Span} {n : Nat} (h : Inside a ((each LAMP_TOLD) :: b)) :
    Inside (one (LAMP_TOLD n) :: a) ((each LAMP_TOLD) :: b) := Inside.wide (f := fun n => LAMP_TOLD n) LAMP_TOLD_has h
theorem LANE_E_has (n m : Nat) : Span.has (each2 LANE_E) (LANE_E n m) := ⟨n, m, by simp only [LANE_E, internal]; omega⟩
theorem LANE_E_in {W : List Span} {n m : Nat} : Covered ((each2 LANE_E) :: W) (LANE_E n m) :=
  ⟨_, List.mem_cons_self, LANE_E_has _ _⟩
theorem LANE_EDGE_has (n m : Nat) : Span.has (each2 LANE_EDGE) (LANE_EDGE n m) := ⟨n, m, by simp only [LANE_EDGE, internal]; omega⟩
theorem LANE_EDGE_in {W : List Span} {n m : Nat} : Covered ((each2 LANE_EDGE) :: W) (LANE_EDGE n m) :=
  ⟨_, List.mem_cons_self, LANE_EDGE_has _ _⟩
theorem LANE_EXTRA_has (n : Nat) : Span.has (each LANE_EXTRA) (LANE_EXTRA n) := ⟨n, 0, by simp only [LANE_EXTRA, internal]; omega⟩
theorem LANE_EXTRA_wide {a b : List Span} {n : Nat} (h : Inside a ((each LANE_EXTRA) :: b)) :
    Inside (one (LANE_EXTRA n) :: a) ((each LANE_EXTRA) :: b) := Inside.wide (f := fun n => LANE_EXTRA n) LANE_EXTRA_has h
theorem LANE_FROM_has (n : Nat) : Span.has (each LANE_FROM) (LANE_FROM n) := ⟨n, 0, by simp only [LANE_FROM, internal]; omega⟩
theorem LANE_FROM_wide {a b : List Span} {n : Nat} (h : Inside a ((each LANE_FROM) :: b)) :
    Inside (one (LANE_FROM n) :: a) ((each LANE_FROM) :: b) := Inside.wide (f := fun n => LANE_FROM n) LANE_FROM_has h
theorem LANE_HELD_has (n : Nat) : Span.has (each LANE_HELD) (LANE_HELD n) := ⟨n, 0, by simp only [LANE_HELD, internal]; omega⟩
theorem LANE_HELD_wide {a b : List Span} {n : Nat} (h : Inside a ((each LANE_HELD) :: b)) :
    Inside (one (LANE_HELD n) :: a) ((each LANE_HELD) :: b) := Inside.wide (f := fun n => LANE_HELD n) LANE_HELD_has h
theorem LANE_ICNT_has (n m : Nat) : Span.has (each2 LANE_ICNT) (LANE_ICNT n m) := ⟨n, m, by simp only [LANE_ICNT, internal]; omega⟩
theorem LANE_ICNT_in {W : List Span} {n m : Nat} : Covered ((each2 LANE_ICNT) :: W) (LANE_ICNT n m) :=
  ⟨_, List.mem_cons_self, LANE_ICNT_has _ _⟩
theorem LANE_ISUM_has (n m : Nat) : Span.has (each2 LANE_ISUM) (LANE_ISUM n m) := ⟨n, m, by simp only [LANE_ISUM, internal]; omega⟩
theorem LANE_ISUM_in {W : List Span} {n m : Nat} : Covered ((each2 LANE_ISUM) :: W) (LANE_ISUM n m) :=
  ⟨_, List.mem_cons_self, LANE_ISUM_has _ _⟩
theorem LANE_NEXT_has (n : Nat) : Span.has (each LANE_NEXT) (LANE_NEXT n) := ⟨n, 0, by simp only [LANE_NEXT, internal]; omega⟩
theorem LANE_NEXT_in {W : List Span} {n : Nat} : Covered ((each LANE_NEXT) :: W) (LANE_NEXT n) :=
  ⟨_, List.mem_cons_self, LANE_NEXT_has _⟩
theorem LANE_OFFSET_has (n : Nat) : Span.has (each LANE_OFFSET) (LANE_OFFSET n) := ⟨n, 0, by simp only [LANE_OFFSET, internal]; omega⟩
theorem LANE_OFFSET_in {W : List Span} {n : Nat} : Covered ((each LANE_OFFSET) :: W) (LANE_OFFSET n) :=
  ⟨_, List.mem_cons_self, LANE_OFFSET_has _⟩
theorem LANE_OFFSET_wide {a b : List Span} {n : Nat} (h : Inside a ((each LANE_OFFSET) :: b)) :
    Inside (one (LANE_OFFSET n) :: a) ((each LANE_OFFSET) :: b) := Inside.wide (f := fun n => LANE_OFFSET n) LANE_OFFSET_has h
theorem LANE_PARK_has (n : Nat) : Span.has (each LANE_PARK) (LANE_PARK n) := ⟨n, 0, by simp only [LANE_PARK, internal]; omega⟩
theorem LANE_PARK_in {W : List Span} {n : Nat} : Covered ((each LANE_PARK) :: W) (LANE_PARK n) :=
  ⟨_, List.mem_cons_self, LANE_PARK_has _⟩
theorem LANE_RSUM_has (n m : Nat) : Span.has (each2 LANE_RSUM) (LANE_RSUM n m) := ⟨n, m, by simp only [LANE_RSUM, internal]; omega⟩
theorem LANE_RSUM_in {W : List Span} {n m : Nat} : Covered ((each2 LANE_RSUM) :: W) (LANE_RSUM n m) :=
  ⟨_, List.mem_cons_self, LANE_RSUM_has _ _⟩
theorem LANE_STATUS.ADC_OFFSET_has (n : Nat) : Span.has (each LANE_STATUS.ADC_OFFSET) (LANE_STATUS.ADC_OFFSET n) := ⟨n, 0, by simp only [LANE_STATUS.ADC_OFFSET]; omega⟩
theorem LANE_STATUS.ADC_OFFSET_in {W : List Span} {n : Nat} : Covered ((each LANE_STATUS.ADC_OFFSET) :: W) (LANE_STATUS.ADC_OFFSET n) :=
  ⟨_, List.mem_cons_self, LANE_STATUS.ADC_OFFSET_has _⟩
theorem LANE_STATUS.DUTY_has (n : Nat) : Span.has (each LANE_STATUS.DUTY) (LANE_STATUS.DUTY n) := ⟨n, 0, by simp only [LANE_STATUS.DUTY]; omega⟩
theorem LANE_STATUS.DUTY_in {W : List Span} {n : Nat} : Covered ((each LANE_STATUS.DUTY) :: W) (LANE_STATUS.DUTY n) :=
  ⟨_, List.mem_cons_self, LANE_STATUS.DUTY_has _⟩
theorem LANE_STATUS.I_MEAN_has (n : Nat) : Span.has (each LANE_STATUS.I_MEAN) (LANE_STATUS.I_MEAN n) := ⟨n, 0, by simp only [LANE_STATUS.I_MEAN]; omega⟩
theorem LANE_STATUS.I_MEAN_wide {a b : List Span} {n : Nat} (h : Inside a ((each LANE_STATUS.I_MEAN) :: b)) :
    Inside (one (LANE_STATUS.I_MEAN n) :: a) ((each LANE_STATUS.I_MEAN) :: b) := Inside.wide (f := fun n => LANE_STATUS.I_MEAN n) LANE_STATUS.I_MEAN_has h
theorem LANE_STATUS.I_REF_has (n : Nat) : Span.has (each LANE_STATUS.I_REF) (LANE_STATUS.I_REF n) := ⟨n, 0, by simp only [LANE_STATUS.I_REF]; omega⟩
theorem LANE_STATUS.I_REF_in {W : List Span} {n : Nat} : Covered ((each LANE_STATUS.I_REF) :: W) (LANE_STATUS.I_REF n) :=
  ⟨_, List.mem_cons_self, LANE_STATUS.I_REF_has _⟩
theorem LANE_U_has (n m : Nat) : Span.has (each2 LANE_U) (LANE_U n m) := ⟨n, m, by simp only [LANE_U, internal]; omega⟩
theorem LANE_U_in {W : List Span} {n m : Nat} : Covered ((each2 LANE_U) :: W) (LANE_U n m) :=
  ⟨_, List.mem_cons_self, LANE_U_has _ _⟩
theorem LAST_ACCESS.ABORT_COUNT_has (n : Nat) : Span.has (each LAST_ACCESS.ABORT_COUNT) (LAST_ACCESS.ABORT_COUNT n) := ⟨n, 0, by simp only [LAST_ACCESS.ABORT_COUNT]; omega⟩
theorem LAST_ACCESS.ABORT_COUNT_wide {a b : List Span} {n : Nat} (h : Inside a ((each LAST_ACCESS.ABORT_COUNT) :: b)) :
    Inside (one (LAST_ACCESS.ABORT_COUNT n) :: a) ((each LAST_ACCESS.ABORT_COUNT) :: b) := Inside.wide (f := fun n => LAST_ACCESS.ABORT_COUNT n) LAST_ACCESS.ABORT_COUNT_has h
theorem LAST_ACCESS.LAST_ABORT_has (n : Nat) : Span.has (each LAST_ACCESS.LAST_ABORT) (LAST_ACCESS.LAST_ABORT n) := ⟨n, 0, by simp only [LAST_ACCESS.LAST_ABORT]; omega⟩
theorem LAST_ACCESS.LAST_ABORT_wide {a b : List Span} {n : Nat} (h : Inside a ((each LAST_ACCESS.LAST_ABORT) :: b)) :
    Inside (one (LAST_ACCESS.LAST_ABORT n) :: a) ((each LAST_ACCESS.LAST_ABORT) :: b) := Inside.wide (f := fun n => LAST_ACCESS.LAST_ABORT n) LAST_ACCESS.LAST_ABORT_has h
theorem LAST_ACCESS.LAST_ABORT_ADDRESS_has (n : Nat) : Span.has (each LAST_ACCESS.LAST_ABORT_ADDRESS) (LAST_ACCESS.LAST_ABORT_ADDRESS n) := ⟨n, 0, by simp only [LAST_ACCESS.LAST_ABORT_ADDRESS]; omega⟩
theorem LAST_ACCESS.LAST_ABORT_ADDRESS_wide {a b : List Span} {n : Nat} (h : Inside a ((each LAST_ACCESS.LAST_ABORT_ADDRESS) :: b)) :
    Inside (one (LAST_ACCESS.LAST_ABORT_ADDRESS n) :: a) ((each LAST_ACCESS.LAST_ABORT_ADDRESS) :: b) := Inside.wide (f := fun n => LAST_ACCESS.LAST_ABORT_ADDRESS n) LAST_ACCESS.LAST_ABORT_ADDRESS_has h
theorem LAST_BOUNDARY_has : Span.has (one LAST_BOUNDARY) (LAST_BOUNDARY) := ⟨0, 0, rfl⟩
theorem LAST_BOUNDARY_in {W : List Span} : Covered ((one LAST_BOUNDARY) :: W) (LAST_BOUNDARY) :=
  ⟨_, List.mem_cons_self, LAST_BOUNDARY_has⟩
theorem LAST_VALID_has (n : Nat) : Span.has (each LAST_VALID) (LAST_VALID n) := ⟨n, 0, by simp only [LAST_VALID, internal]; omega⟩
theorem LAST_VALID_in {W : List Span} {n : Nat} : Covered ((each LAST_VALID) :: W) (LAST_VALID n) :=
  ⟨_, List.mem_cons_self, LAST_VALID_has _⟩
theorem LATCH_has (n : Nat) : Span.has (each LATCH) (LATCH n) := ⟨n, 0, by simp only [LATCH, internal]; omega⟩
theorem LATCH_in {W : List Span} {n : Nat} : Covered ((each LATCH) :: W) (LATCH n) :=
  ⟨_, List.mem_cons_self, LATCH_has _⟩
theorem LATCH_wide {a b : List Span} {n : Nat} (h : Inside a ((each LATCH) :: b)) :
    Inside (one (LATCH n) :: a) ((each LATCH) :: b) := Inside.wide (f := fun n => LATCH n) LATCH_has h
theorem LATCH_PULLED_has (n : Nat) : Span.has (each LATCH_PULLED) (LATCH_PULLED n) := ⟨n, 0, by simp only [LATCH_PULLED, internal]; omega⟩
theorem LATCH_PULLED_wide {a b : List Span} {n : Nat} (h : Inside a ((each LATCH_PULLED) :: b)) :
    Inside (one (LATCH_PULLED n) :: a) ((each LATCH_PULLED) :: b) := Inside.wide (f := fun n => LATCH_PULLED n) LATCH_PULLED_has h
theorem LIFE_NEW_has (n : Nat) : Span.has (each LIFE_NEW) (LIFE_NEW n) := ⟨n, 0, by simp only [LIFE_NEW, internal]; omega⟩
theorem LIFE_NEW_in {W : List Span} {n : Nat} : Covered ((each LIFE_NEW) :: W) (LIFE_NEW n) :=
  ⟨_, List.mem_cons_self, LIFE_NEW_has _⟩
theorem LIFE_NEW_wide {a b : List Span} {n : Nat} (h : Inside a ((each LIFE_NEW) :: b)) :
    Inside (one (LIFE_NEW n) :: a) ((each LIFE_NEW) :: b) := Inside.wide (f := fun n => LIFE_NEW n) LIFE_NEW_has h
theorem LIFE_STORED_has (n : Nat) : Span.has (each LIFE_STORED) (LIFE_STORED n) := ⟨n, 0, by simp only [LIFE_STORED, internal]; omega⟩
theorem LIFE_STORED_in {W : List Span} {n : Nat} : Covered ((each LIFE_STORED) :: W) (LIFE_STORED n) :=
  ⟨_, List.mem_cons_self, LIFE_STORED_has _⟩
theorem LIMIT_EPISODE_has (n : Nat) : Span.has (each LIMIT_EPISODE) (LIMIT_EPISODE n) := ⟨n, 0, by simp only [LIMIT_EPISODE, internal]; omega⟩
theorem LIMIT_EPISODE_wide {a b : List Span} {n : Nat} (h : Inside a ((each LIMIT_EPISODE) :: b)) :
    Inside (one (LIMIT_EPISODE n) :: a) ((each LIMIT_EPISODE) :: b) := Inside.wide (f := fun n => LIMIT_EPISODE n) LIMIT_EPISODE_has h
theorem LIMIT_LEFT_has (n : Nat) : Span.has (each LIMIT_LEFT) (LIMIT_LEFT n) := ⟨n, 0, by simp only [LIMIT_LEFT, internal]; omega⟩
theorem LIMIT_LEFT_wide {a b : List Span} {n : Nat} (h : Inside a ((each LIMIT_LEFT) :: b)) :
    Inside (one (LIMIT_LEFT n) :: a) ((each LIMIT_LEFT) :: b) := Inside.wide (f := fun n => LIMIT_LEFT n) LIMIT_LEFT_has h
theorem LIMIT_SINCE_has (n : Nat) : Span.has (each LIMIT_SINCE) (LIMIT_SINCE n) := ⟨n, 0, by simp only [LIMIT_SINCE, internal]; omega⟩
theorem LIMIT_SINCE_wide {a b : List Span} {n : Nat} (h : Inside a ((each LIMIT_SINCE) :: b)) :
    Inside (one (LIMIT_SINCE n) :: a) ((each LIMIT_SINCE) :: b) := Inside.wide (f := fun n => LIMIT_SINCE n) LIMIT_SINCE_has h
theorem LIMIT_SPENT_has (n : Nat) : Span.has (each LIMIT_SPENT) (LIMIT_SPENT n) := ⟨n, 0, by simp only [LIMIT_SPENT, internal]; omega⟩
theorem LIMIT_SPENT_wide {a b : List Span} {n : Nat} (h : Inside a ((each LIMIT_SPENT) :: b)) :
    Inside (one (LIMIT_SPENT n) :: a) ((each LIMIT_SPENT) :: b) := Inside.wide (f := fun n => LIMIT_SPENT n) LIMIT_SPENT_has h
theorem LOAD_ACCESS_has : Span.has (one LOAD_ACCESS) (LOAD_ACCESS) := ⟨0, 0, rfl⟩
theorem LOAD_ACCESS_in {W : List Span} : Covered ((one LOAD_ACCESS) :: W) (LOAD_ACCESS) :=
  ⟨_, List.mem_cons_self, LOAD_ACCESS_has⟩
theorem LOAD_AT_has : Span.has (one LOAD_AT) (LOAD_AT) := ⟨0, 0, rfl⟩
theorem LOAD_AT_in {W : List Span} : Covered ((one LOAD_AT) :: W) (LOAD_AT) :=
  ⟨_, List.mem_cons_self, LOAD_AT_has⟩
theorem LOAD_MONITOR.ACCESS_LOAD_has : Span.has (one LOAD_MONITOR.ACCESS_LOAD) (LOAD_MONITOR.ACCESS_LOAD) := ⟨0, 0, rfl⟩
theorem LOAD_MONITOR.ACCESS_LOAD_in {W : List Span} : Covered ((one LOAD_MONITOR.ACCESS_LOAD) :: W) (LOAD_MONITOR.ACCESS_LOAD) :=
  ⟨_, List.mem_cons_self, LOAD_MONITOR.ACCESS_LOAD_has⟩
theorem LOAD_MONITOR.ACCESS_LOAD_PEAK_has : Span.has (one LOAD_MONITOR.ACCESS_LOAD_PEAK) (LOAD_MONITOR.ACCESS_LOAD_PEAK) := ⟨0, 0, rfl⟩
theorem LOAD_MONITOR.ACCESS_LOAD_PEAK_in {W : List Span} : Covered ((one LOAD_MONITOR.ACCESS_LOAD_PEAK) :: W) (LOAD_MONITOR.ACCESS_LOAD_PEAK) :=
  ⟨_, List.mem_cons_self, LOAD_MONITOR.ACCESS_LOAD_PEAK_has⟩
theorem LOAD_MONITOR.FABRIC_LOAD_has : Span.has (one LOAD_MONITOR.FABRIC_LOAD) (LOAD_MONITOR.FABRIC_LOAD) := ⟨0, 0, rfl⟩
theorem LOAD_MONITOR.FABRIC_LOAD_in {W : List Span} : Covered ((one LOAD_MONITOR.FABRIC_LOAD) :: W) (LOAD_MONITOR.FABRIC_LOAD) :=
  ⟨_, List.mem_cons_self, LOAD_MONITOR.FABRIC_LOAD_has⟩
theorem LOAD_MONITOR.FABRIC_LOAD_PEAK_has : Span.has (one LOAD_MONITOR.FABRIC_LOAD_PEAK) (LOAD_MONITOR.FABRIC_LOAD_PEAK) := ⟨0, 0, rfl⟩
theorem LOAD_MONITOR.FABRIC_LOAD_PEAK_in {W : List Span} : Covered ((one LOAD_MONITOR.FABRIC_LOAD_PEAK) :: W) (LOAD_MONITOR.FABRIC_LOAD_PEAK) :=
  ⟨_, List.mem_cons_self, LOAD_MONITOR.FABRIC_LOAD_PEAK_has⟩
theorem LOAD_MONITOR.LONGEST_DETECTION_has : Span.has (one LOAD_MONITOR.LONGEST_DETECTION) (LOAD_MONITOR.LONGEST_DETECTION) := ⟨0, 0, rfl⟩
theorem LOAD_MONITOR.LONGEST_DETECTION_in {W : List Span} : Covered ((one LOAD_MONITOR.LONGEST_DETECTION) :: W) (LOAD_MONITOR.LONGEST_DETECTION) :=
  ⟨_, List.mem_cons_self, LOAD_MONITOR.LONGEST_DETECTION_has⟩
theorem LOAD_MONITOR.OVERLOAD_WINDOWS_has : Span.has (one LOAD_MONITOR.OVERLOAD_WINDOWS) (LOAD_MONITOR.OVERLOAD_WINDOWS) := ⟨0, 0, rfl⟩
theorem LOAD_MONITOR.OVERLOAD_WINDOWS_in {W : List Span} : Covered ((one LOAD_MONITOR.OVERLOAD_WINDOWS) :: W) (LOAD_MONITOR.OVERLOAD_WINDOWS) :=
  ⟨_, List.mem_cons_self, LOAD_MONITOR.OVERLOAD_WINDOWS_has⟩
theorem LOAD_PLACED_has : Span.has (one LOAD_PLACED) (LOAD_PLACED) := ⟨0, 0, rfl⟩
theorem LOAD_PLACED_in {W : List Span} : Covered ((one LOAD_PLACED) :: W) (LOAD_PLACED) :=
  ⟨_, List.mem_cons_self, LOAD_PLACED_has⟩
theorem LOGIC_OFF_has (n : Nat) : Span.has (each LOGIC_OFF) (LOGIC_OFF n) := ⟨n, 0, by simp only [LOGIC_OFF, internal]; omega⟩
theorem LOGIC_OFF_in {W : List Span} {n : Nat} : Covered ((each LOGIC_OFF) :: W) (LOGIC_OFF n) :=
  ⟨_, List.mem_cons_self, LOGIC_OFF_has _⟩
theorem LONG_AT_has : Span.has (one LONG_AT) (LONG_AT) := ⟨0, 0, rfl⟩
theorem LONG_AT_in {W : List Span} : Covered ((one LONG_AT) :: W) (LONG_AT) :=
  ⟨_, List.mem_cons_self, LONG_AT_has⟩
theorem LONG_RESET_has : Span.has (one LONG_RESET) (LONG_RESET) := ⟨0, 0, rfl⟩
theorem LONG_RESET_in {W : List Span} : Covered ((one LONG_RESET) :: W) (LONG_RESET) :=
  ⟨_, List.mem_cons_self, LONG_RESET_has⟩
theorem MONO_BASE_has : Span.has (one MONO_BASE) (MONO_BASE) := ⟨0, 0, rfl⟩
theorem MONO_BASE_in {W : List Span} : Covered ((one MONO_BASE) :: W) (MONO_BASE) :=
  ⟨_, List.mem_cons_self, MONO_BASE_has⟩
theorem MONO_FROM_has : Span.has (one MONO_FROM) (MONO_FROM) := ⟨0, 0, rfl⟩
theorem MONO_FROM_in {W : List Span} : Covered ((one MONO_FROM) :: W) (MONO_FROM) :=
  ⟨_, List.mem_cons_self, MONO_FROM_has⟩
theorem MSIX_HELD_has (n : Nat) : Span.has (each MSIX_HELD) (MSIX_HELD n) := ⟨n, 0, by simp only [MSIX_HELD, internal]; omega⟩
theorem MSIX_HELD_in {W : List Span} {n : Nat} : Covered ((each MSIX_HELD) :: W) (MSIX_HELD n) :=
  ⟨_, List.mem_cons_self, MSIX_HELD_has _⟩
theorem MSIX_HELD_wide {a b : List Span} {n : Nat} (h : Inside a ((each MSIX_HELD) :: b)) :
    Inside (one (MSIX_HELD n) :: a) ((each MSIX_HELD) :: b) := Inside.wide (f := fun n => MSIX_HELD n) MSIX_HELD_has h
theorem MSIX_OPEN_has (n : Nat) : Span.has (each MSIX_OPEN) (MSIX_OPEN n) := ⟨n, 0, by simp only [MSIX_OPEN, internal]; omega⟩
theorem MSIX_OPEN_in {W : List Span} {n : Nat} : Covered ((each MSIX_OPEN) :: W) (MSIX_OPEN n) :=
  ⟨_, List.mem_cons_self, MSIX_OPEN_has _⟩
theorem ND_GROUP_has (n : Nat) : Span.has (each ND_GROUP) (ND_GROUP n) := ⟨n, 0, by simp only [ND_GROUP, internal]; omega⟩
theorem ND_GROUP_wide {a b : List Span} {n : Nat} (h : Inside a ((each ND_GROUP) :: b)) :
    Inside (one (ND_GROUP n) :: a) ((each ND_GROUP) :: b) := Inside.wide (f := fun n => ND_GROUP n) ND_GROUP_has h
theorem NMT_BOOT_has (n : Nat) : Span.has (each NMT_BOOT) (NMT_BOOT n) := ⟨n, 0, by simp only [NMT_BOOT, internal]; omega⟩
theorem NMT_BOOT_wide {a b : List Span} {n : Nat} (h : Inside a ((each NMT_BOOT) :: b)) :
    Inside (one (NMT_BOOT n) :: a) ((each NMT_BOOT) :: b) := Inside.wide (f := fun n => NMT_BOOT n) NMT_BOOT_has h
theorem NMT_STATE_has (n : Nat) : Span.has (each NMT_STATE) (NMT_STATE n) := ⟨n, 0, by simp only [NMT_STATE, internal]; omega⟩
theorem NMT_STATE_in {W : List Span} {n : Nat} : Covered ((each NMT_STATE) :: W) (NMT_STATE n) :=
  ⟨_, List.mem_cons_self, NMT_STATE_has _⟩
theorem NMT_STATE_wide {a b : List Span} {n : Nat} (h : Inside a ((each NMT_STATE) :: b)) :
    Inside (one (NMT_STATE n) :: a) ((each NMT_STATE) :: b) := Inside.wide (f := fun n => NMT_STATE n) NMT_STATE_has h
theorem ON_VBK_has : Span.has (one ON_VBK) (ON_VBK) := ⟨0, 0, rfl⟩
theorem ON_VBK_in {W : List Span} : Covered ((one ON_VBK) :: W) (ON_VBK) :=
  ⟨_, List.mem_cons_self, ON_VBK_has⟩
theorem OPENING_JOURNAL.ENTRY_has (n : Nat) : Span.has (each OPENING_JOURNAL.ENTRY) (OPENING_JOURNAL.ENTRY n) := ⟨n, 0, by simp only [OPENING_JOURNAL.ENTRY]; omega⟩
theorem OPENING_JOURNAL.ENTRY_in {W : List Span} {n : Nat} : Covered ((each OPENING_JOURNAL.ENTRY) :: W) (OPENING_JOURNAL.ENTRY n) :=
  ⟨_, List.mem_cons_self, OPENING_JOURNAL.ENTRY_has _⟩
theorem OPENING_JOURNAL.ENTRY_wide {a b : List Span} {n : Nat} (h : Inside a ((each OPENING_JOURNAL.ENTRY) :: b)) :
    Inside (one (OPENING_JOURNAL.ENTRY n) :: a) ((each OPENING_JOURNAL.ENTRY) :: b) := Inside.wide (f := fun n => OPENING_JOURNAL.ENTRY n) OPENING_JOURNAL.ENTRY_has h
theorem OPENING_JOURNAL.ENTRY_TIME_has (n : Nat) : Span.has (each OPENING_JOURNAL.ENTRY_TIME) (OPENING_JOURNAL.ENTRY_TIME n) := ⟨n, 0, by simp only [OPENING_JOURNAL.ENTRY_TIME]; omega⟩
theorem OPENING_JOURNAL.ENTRY_TIME_in {W : List Span} {n : Nat} : Covered ((each OPENING_JOURNAL.ENTRY_TIME) :: W) (OPENING_JOURNAL.ENTRY_TIME n) :=
  ⟨_, List.mem_cons_self, OPENING_JOURNAL.ENTRY_TIME_has _⟩
theorem OPENING_STATUS.FAILED_STEP_has : Span.has (one OPENING_STATUS.FAILED_STEP) (OPENING_STATUS.FAILED_STEP) := ⟨0, 0, rfl⟩
theorem OPENING_STATUS.FAILED_STEP_in {W : List Span} : Covered ((one OPENING_STATUS.FAILED_STEP) :: W) (OPENING_STATUS.FAILED_STEP) :=
  ⟨_, List.mem_cons_self, OPENING_STATUS.FAILED_STEP_has⟩
theorem OPENING_STATUS.FALLBACK_MASK_has : Span.has (one OPENING_STATUS.FALLBACK_MASK) (OPENING_STATUS.FALLBACK_MASK) := ⟨0, 0, rfl⟩
theorem OPENING_STATUS.FALLBACK_MASK_in {W : List Span} : Covered ((one OPENING_STATUS.FALLBACK_MASK) :: W) (OPENING_STATUS.FALLBACK_MASK) :=
  ⟨_, List.mem_cons_self, OPENING_STATUS.FALLBACK_MASK_has⟩
theorem OPENING_STATUS.OPENINGS_has : Span.has (one OPENING_STATUS.OPENINGS) (OPENING_STATUS.OPENINGS) := ⟨0, 0, rfl⟩
theorem OPENING_STATUS.OPENINGS_in {W : List Span} : Covered ((one OPENING_STATUS.OPENINGS) :: W) (OPENING_STATUS.OPENINGS) :=
  ⟨_, List.mem_cons_self, OPENING_STATUS.OPENINGS_has⟩
theorem OPENING_STATUS.OPENING_STATE_has : Span.has (one OPENING_STATUS.OPENING_STATE) (OPENING_STATUS.OPENING_STATE) := ⟨0, 0, rfl⟩
theorem OPENING_STATUS.OPENING_STATE_in {W : List Span} : Covered ((one OPENING_STATUS.OPENING_STATE) :: W) (OPENING_STATUS.OPENING_STATE) :=
  ⟨_, List.mem_cons_self, OPENING_STATUS.OPENING_STATE_has⟩
theorem OPENING_STATUS.PORTS_READY_TIME_has : Span.has (one OPENING_STATUS.PORTS_READY_TIME) (OPENING_STATUS.PORTS_READY_TIME) := ⟨0, 0, rfl⟩
theorem OPENING_STATUS.PORTS_READY_TIME_in {W : List Span} : Covered ((one OPENING_STATUS.PORTS_READY_TIME) :: W) (OPENING_STATUS.PORTS_READY_TIME) :=
  ⟨_, List.mem_cons_self, OPENING_STATUS.PORTS_READY_TIME_has⟩
theorem OPENING_STATUS.PROFILE_SKIP_has : Span.has (one OPENING_STATUS.PROFILE_SKIP) (OPENING_STATUS.PROFILE_SKIP) := ⟨0, 0, rfl⟩
theorem OPENING_STATUS.PROFILE_SKIP_in {W : List Span} : Covered ((one OPENING_STATUS.PROFILE_SKIP) :: W) (OPENING_STATUS.PROFILE_SKIP) :=
  ⟨_, List.mem_cons_self, OPENING_STATUS.PROFILE_SKIP_has⟩
theorem OPENING_STATUS.SKIP_MASK_has : Span.has (one OPENING_STATUS.SKIP_MASK) (OPENING_STATUS.SKIP_MASK) := ⟨0, 0, rfl⟩
theorem OPENING_STATUS.SKIP_MASK_in {W : List Span} : Covered ((one OPENING_STATUS.SKIP_MASK) :: W) (OPENING_STATUS.SKIP_MASK) :=
  ⟨_, List.mem_cons_self, OPENING_STATUS.SKIP_MASK_has⟩
theorem OPENING_STATUS.STEP_has : Span.has (one OPENING_STATUS.STEP) (OPENING_STATUS.STEP) := ⟨0, 0, rfl⟩
theorem OPENING_STATUS.STEP_in {W : List Span} : Covered ((one OPENING_STATUS.STEP) :: W) (OPENING_STATUS.STEP) :=
  ⟨_, List.mem_cons_self, OPENING_STATUS.STEP_has⟩
theorem OSC_OFF_has : Span.has (one OSC_OFF) (OSC_OFF) := ⟨0, 0, rfl⟩
theorem OSC_OFF_in {W : List Span} : Covered ((one OSC_OFF) :: W) (OSC_OFF) :=
  ⟨_, List.mem_cons_self, OSC_OFF_has⟩
theorem OVERLOAD_AT_has : Span.has (one OVERLOAD_AT) (OVERLOAD_AT) := ⟨0, 0, rfl⟩
theorem OVERLOAD_AT_in {W : List Span} : Covered ((one OVERLOAD_AT) :: W) (OVERLOAD_AT) :=
  ⟨_, List.mem_cons_self, OVERLOAD_AT_has⟩
theorem OVERRUN_AT_has : Span.has (one OVERRUN_AT) (OVERRUN_AT) := ⟨0, 0, rfl⟩
theorem OVERRUN_AT_in {W : List Span} : Covered ((one OVERRUN_AT) :: W) (OVERRUN_AT) :=
  ⟨_, List.mem_cons_self, OVERRUN_AT_has⟩
theorem OVER_AT_has (n : Nat) : Span.has (each OVER_AT) (OVER_AT n) := ⟨n, 0, by simp only [OVER_AT, internal]; omega⟩
theorem OVER_AT_wide {a b : List Span} {n : Nat} (h : Inside a ((each OVER_AT) :: b)) :
    Inside (one (OVER_AT n) :: a) ((each OVER_AT) :: b) := Inside.wide (f := fun n => OVER_AT n) OVER_AT_has h
theorem OVER_NOW_has (n : Nat) : Span.has (each OVER_NOW) (OVER_NOW n) := ⟨n, 0, by simp only [OVER_NOW, internal]; omega⟩
theorem OVER_NOW_wide {a b : List Span} {n : Nat} (h : Inside a ((each OVER_NOW) :: b)) :
    Inside (one (OVER_NOW n) :: a) ((each OVER_NOW) :: b) := Inside.wide (f := fun n => OVER_NOW n) OVER_NOW_has h
theorem OVF_DROPS_has (n : Nat) : Span.has (each OVF_DROPS) (OVF_DROPS n) := ⟨n, 0, by simp only [OVF_DROPS, internal]; omega⟩
theorem OVF_DROPS_wide {a b : List Span} {n : Nat} (h : Inside a ((each OVF_DROPS) :: b)) :
    Inside (one (OVF_DROPS n) :: a) ((each OVF_DROPS) :: b) := Inside.wide (f := fun n => OVF_DROPS n) OVF_DROPS_has h
theorem OVF_FIRST_has (n : Nat) : Span.has (each OVF_FIRST) (OVF_FIRST n) := ⟨n, 0, by simp only [OVF_FIRST, internal]; omega⟩
theorem OVF_FIRST_wide {a b : List Span} {n : Nat} (h : Inside a ((each OVF_FIRST) :: b)) :
    Inside (one (OVF_FIRST n) :: a) ((each OVF_FIRST) :: b) := Inside.wide (f := fun n => OVF_FIRST n) OVF_FIRST_has h
theorem OVF_LAST_has (n : Nat) : Span.has (each OVF_LAST) (OVF_LAST n) := ⟨n, 0, by simp only [OVF_LAST, internal]; omega⟩
theorem OVF_LAST_wide {a b : List Span} {n : Nat} (h : Inside a ((each OVF_LAST) :: b)) :
    Inside (one (OVF_LAST n) :: a) ((each OVF_LAST) :: b) := Inside.wide (f := fun n => OVF_LAST n) OVF_LAST_has h
theorem OVR_END_has (n : Nat) : Span.has (each OVR_END) (OVR_END n) := ⟨n, 0, by simp only [OVR_END, internal]; omega⟩
theorem OVR_END_wide {a b : List Span} {n : Nat} (h : Inside a ((each OVR_END) :: b)) :
    Inside (one (OVR_END n) :: a) ((each OVR_END) :: b) := Inside.wide (f := fun n => OVR_END n) OVR_END_has h
theorem OVR_ON_has (n : Nat) : Span.has (each OVR_ON) (OVR_ON n) := ⟨n, 0, by simp only [OVR_ON, internal]; omega⟩
theorem OVR_ON_wide {a b : List Span} {n : Nat} (h : Inside a ((each OVR_ON) :: b)) :
    Inside (one (OVR_ON n) :: a) ((each OVR_ON) :: b) := Inside.wide (f := fun n => OVR_ON n) OVR_ON_has h
theorem PARK_BAND_has : Span.has (one PARK_BAND) (PARK_BAND) := ⟨0, 0, rfl⟩
theorem PARK_BAND_in {W : List Span} : Covered ((one PARK_BAND) :: W) (PARK_BAND) :=
  ⟨_, List.mem_cons_self, PARK_BAND_has⟩
theorem PARK_FRAME_has : Span.has (one PARK_FRAME) (PARK_FRAME) := ⟨0, 0, rfl⟩
theorem PARK_FRAME_in {W : List Span} : Covered ((one PARK_FRAME) :: W) (PARK_FRAME) :=
  ⟨_, List.mem_cons_self, PARK_FRAME_has⟩
theorem PARK_REST_has : Span.has (one PARK_REST) (PARK_REST) := ⟨0, 0, rfl⟩
theorem PARK_REST_in {W : List Span} : Covered ((one PARK_REST) :: W) (PARK_REST) :=
  ⟨_, List.mem_cons_self, PARK_REST_has⟩
theorem PARK_SHUNT_has : Span.has (one PARK_SHUNT) (PARK_SHUNT) := ⟨0, 0, rfl⟩
theorem PARK_SHUNT_in {W : List Span} : Covered ((one PARK_SHUNT) :: W) (PARK_SHUNT) :=
  ⟨_, List.mem_cons_self, PARK_SHUNT_has⟩
theorem PARK_STAGE_has : Span.has (one PARK_STAGE) (PARK_STAGE) := ⟨0, 0, rfl⟩
theorem PARK_STAGE_in {W : List Span} : Covered ((one PARK_STAGE) :: W) (PARK_STAGE) :=
  ⟨_, List.mem_cons_self, PARK_STAGE_has⟩
theorem PCIE_PAYLOAD_has (n : Nat) : Span.has (each PCIE_PAYLOAD) (PCIE_PAYLOAD n) := ⟨n, 0, by simp only [PCIE_PAYLOAD, internal]; omega⟩
theorem PCIE_PAYLOAD_in {W : List Span} {n : Nat} : Covered ((each PCIE_PAYLOAD) :: W) (PCIE_PAYLOAD n) :=
  ⟨_, List.mem_cons_self, PCIE_PAYLOAD_has _⟩
theorem PCIE_PAYLOAD_wide {a b : List Span} {n : Nat} (h : Inside a ((each PCIE_PAYLOAD) :: b)) :
    Inside (one (PCIE_PAYLOAD n) :: a) ((each PCIE_PAYLOAD) :: b) := Inside.wide (f := fun n => PCIE_PAYLOAD n) PCIE_PAYLOAD_has h
theorem PCIE_PORT.BUS_MASTER_has : Span.has (one PCIE_PORT.BUS_MASTER) (PCIE_PORT.BUS_MASTER) := ⟨0, 0, rfl⟩
theorem PCIE_PORT.BUS_MASTER_in {W : List Span} : Covered ((one PCIE_PORT.BUS_MASTER) :: W) (PCIE_PORT.BUS_MASTER) :=
  ⟨_, List.mem_cons_self, PCIE_PORT.BUS_MASTER_has⟩
theorem PCIE_PORT.FLRS_has : Span.has (one PCIE_PORT.FLRS) (PCIE_PORT.FLRS) := ⟨0, 0, rfl⟩
theorem PCIE_PORT.FLRS_in {W : List Span} : Covered ((one PCIE_PORT.FLRS) :: W) (PCIE_PORT.FLRS) :=
  ⟨_, List.mem_cons_self, PCIE_PORT.FLRS_has⟩
theorem PCIE_PORT.LINK_DOWNS_has : Span.has (one PCIE_PORT.LINK_DOWNS) (PCIE_PORT.LINK_DOWNS) := ⟨0, 0, rfl⟩
theorem PCIE_PORT.LINK_DOWNS_in {W : List Span} : Covered ((one PCIE_PORT.LINK_DOWNS) :: W) (PCIE_PORT.LINK_DOWNS) :=
  ⟨_, List.mem_cons_self, PCIE_PORT.LINK_DOWNS_has⟩
theorem PCIE_PORT.LINK_SPEED_has : Span.has (one PCIE_PORT.LINK_SPEED) (PCIE_PORT.LINK_SPEED) := ⟨0, 0, rfl⟩
theorem PCIE_PORT.LINK_SPEED_in {W : List Span} : Covered ((one PCIE_PORT.LINK_SPEED) :: W) (PCIE_PORT.LINK_SPEED) :=
  ⟨_, List.mem_cons_self, PCIE_PORT.LINK_SPEED_has⟩
theorem PCIE_PORT.LINK_STATE_has : Span.has (one PCIE_PORT.LINK_STATE) (PCIE_PORT.LINK_STATE) := ⟨0, 0, rfl⟩
theorem PCIE_PORT.LINK_STATE_in {W : List Span} : Covered ((one PCIE_PORT.LINK_STATE) :: W) (PCIE_PORT.LINK_STATE) :=
  ⟨_, List.mem_cons_self, PCIE_PORT.LINK_STATE_has⟩
theorem PCIE_PORT.PERSTS_has : Span.has (one PCIE_PORT.PERSTS) (PCIE_PORT.PERSTS) := ⟨0, 0, rfl⟩
theorem PCIE_PORT.PERSTS_in {W : List Span} : Covered ((one PCIE_PORT.PERSTS) :: W) (PCIE_PORT.PERSTS) :=
  ⟨_, List.mem_cons_self, PCIE_PORT.PERSTS_has⟩
theorem PDO_AT_has (n : Nat) : Span.has (each PDO_AT) (PDO_AT n) := ⟨n, 0, by simp only [PDO_AT, internal]; omega⟩
theorem PDO_AT_wide {a b : List Span} {n : Nat} (h : Inside a ((each PDO_AT) :: b)) :
    Inside (one (PDO_AT n) :: a) ((each PDO_AT) :: b) := Inside.wide (f := fun n => PDO_AT n) PDO_AT_has h
theorem PDO_COUNT_has (n : Nat) : Span.has (each PDO_COUNT) (PDO_COUNT n) := ⟨n, 0, by simp only [PDO_COUNT, internal]; omega⟩
theorem PDO_COUNT_wide {a b : List Span} {n : Nat} (h : Inside a ((each PDO_COUNT) :: b)) :
    Inside (one (PDO_COUNT n) :: a) ((each PDO_COUNT) :: b) := Inside.wide (f := fun n => PDO_COUNT n) PDO_COUNT_has h
theorem PDO_DATA_has (n : Nat) : Span.has (each PDO_DATA) (PDO_DATA n) := ⟨n, 0, by simp only [PDO_DATA, internal]; omega⟩
theorem PDO_DATA_wide {a b : List Span} {n : Nat} (h : Inside a ((each PDO_DATA) :: b)) :
    Inside (one (PDO_DATA n) :: a) ((each PDO_DATA) :: b) := Inside.wide (f := fun n => PDO_DATA n) PDO_DATA_has h
theorem PDO_DUE_has (n : Nat) : Span.has (each PDO_DUE) (PDO_DUE n) := ⟨n, 0, by simp only [PDO_DUE, internal]; omega⟩
theorem PDO_DUE_wide {a b : List Span} {n : Nat} (h : Inside a ((each PDO_DUE) :: b)) :
    Inside (one (PDO_DUE n) :: a) ((each PDO_DUE) :: b) := Inside.wide (f := fun n => PDO_DUE n) PDO_DUE_has h
theorem PDO_EVT_has (n : Nat) : Span.has (each PDO_EVT) (PDO_EVT n) := ⟨n, 0, by simp only [PDO_EVT, internal]; omega⟩
theorem PDO_EVT_wide {a b : List Span} {n : Nat} (h : Inside a ((each PDO_EVT) :: b)) :
    Inside (one (PDO_EVT n) :: a) ((each PDO_EVT) :: b) := Inside.wide (f := fun n => PDO_EVT n) PDO_EVT_has h
theorem PDO_SENT_has (n : Nat) : Span.has (each PDO_SENT) (PDO_SENT n) := ⟨n, 0, by simp only [PDO_SENT, internal]; omega⟩
theorem PDO_SENT_wide {a b : List Span} {n : Nat} (h : Inside a ((each PDO_SENT) :: b)) :
    Inside (one (PDO_SENT n) :: a) ((each PDO_SENT) :: b) := Inside.wide (f := fun n => PDO_SENT n) PDO_SENT_has h
theorem PEND_has (n : Nat) : Span.has (each PEND) (PEND n) := ⟨n, 0, by simp only [PEND, internal]; omega⟩
theorem PEND_in {W : List Span} {n : Nat} : Covered ((each PEND) :: W) (PEND n) :=
  ⟨_, List.mem_cons_self, PEND_has _⟩
theorem PEND_wide {a b : List Span} {n : Nat} (h : Inside a ((each PEND) :: b)) :
    Inside (one (PEND n) :: a) ((each PEND) :: b) := Inside.wide (f := fun n => PEND n) PEND_has h
theorem PERFORMANCE.LEVEL_CHANGES_has : Span.has (one PERFORMANCE.LEVEL_CHANGES) (PERFORMANCE.LEVEL_CHANGES) := ⟨0, 0, rfl⟩
theorem PERFORMANCE.LEVEL_CHANGES_in {W : List Span} : Covered ((one PERFORMANCE.LEVEL_CHANGES) :: W) (PERFORMANCE.LEVEL_CHANGES) :=
  ⟨_, List.mem_cons_self, PERFORMANCE.LEVEL_CHANGES_has⟩
theorem PERFORMANCE.LEVEL_IN_FORCE_has : Span.has (one PERFORMANCE.LEVEL_IN_FORCE) (PERFORMANCE.LEVEL_IN_FORCE) := ⟨0, 0, rfl⟩
theorem PERFORMANCE.LEVEL_IN_FORCE_in {W : List Span} : Covered ((one PERFORMANCE.LEVEL_IN_FORCE) :: W) (PERFORMANCE.LEVEL_IN_FORCE) :=
  ⟨_, List.mem_cons_self, PERFORMANCE.LEVEL_IN_FORCE_has⟩
theorem PERFORMANCE.THERMAL_FLOOR_has : Span.has (one PERFORMANCE.THERMAL_FLOOR) (PERFORMANCE.THERMAL_FLOOR) := ⟨0, 0, rfl⟩
theorem PERFORMANCE.THERMAL_FLOOR_in {W : List Span} : Covered ((one PERFORMANCE.THERMAL_FLOOR) :: W) (PERFORMANCE.THERMAL_FLOOR) :=
  ⟨_, List.mem_cons_self, PERFORMANCE.THERMAL_FLOOR_has⟩
theorem PERST_LOW_has : Span.has (one PERST_LOW) (PERST_LOW) := ⟨0, 0, rfl⟩
theorem PERST_LOW_in {W : List Span} : Covered ((one PERST_LOW) :: W) (PERST_LOW) :=
  ⟨_, List.mem_cons_self, PERST_LOW_has⟩
theorem PLAN_TRIGGER_has (n : Nat) : Span.has (each PLAN_TRIGGER) (PLAN_TRIGGER n) := ⟨n, 0, by simp only [PLAN_TRIGGER, internal]; omega⟩
theorem PLAN_TRIGGER_wide {a b : List Span} {n : Nat} (h : Inside a ((each PLAN_TRIGGER) :: b)) :
    Inside (one (PLAN_TRIGGER n) :: a) ((each PLAN_TRIGGER) :: b) := Inside.wide (f := fun n => PLAN_TRIGGER n) PLAN_TRIGGER_has h
theorem PON_CONTROL.PON_CHANGES_has : Span.has (one PON_CONTROL.PON_CHANGES) (PON_CONTROL.PON_CHANGES) := ⟨0, 0, rfl⟩
theorem PON_CONTROL.PON_CHANGES_in {W : List Span} : Covered ((one PON_CONTROL.PON_CHANGES) :: W) (PON_CONTROL.PON_CHANGES) :=
  ⟨_, List.mem_cons_self, PON_CONTROL.PON_CHANGES_has⟩
theorem PON_CONTROL.PON_LAST_CAUSE_has : Span.has (one PON_CONTROL.PON_LAST_CAUSE) (PON_CONTROL.PON_LAST_CAUSE) := ⟨0, 0, rfl⟩
theorem PON_CONTROL.PON_LAST_CAUSE_in {W : List Span} : Covered ((one PON_CONTROL.PON_LAST_CAUSE) :: W) (PON_CONTROL.PON_LAST_CAUSE) :=
  ⟨_, List.mem_cons_self, PON_CONTROL.PON_LAST_CAUSE_has⟩
theorem PON_CONTROL.PON_STATE_has : Span.has (one PON_CONTROL.PON_STATE) (PON_CONTROL.PON_STATE) := ⟨0, 0, rfl⟩
theorem PON_CONTROL.PON_STATE_in {W : List Span} : Covered ((one PON_CONTROL.PON_STATE) :: W) (PON_CONTROL.PON_STATE) :=
  ⟨_, List.mem_cons_self, PON_CONTROL.PON_STATE_has⟩
theorem POP_BUF_has (n : Nat) : Span.has (each POP_BUF) (POP_BUF n) := ⟨n, 0, by simp only [POP_BUF, internal]; omega⟩
theorem POP_BUF_in {W : List Span} {n : Nat} : Covered ((each POP_BUF) :: W) (POP_BUF n) :=
  ⟨_, List.mem_cons_self, POP_BUF_has _⟩
theorem POP_RESULT_has (n : Nat) : Span.has (each POP_RESULT) (POP_RESULT n) := ⟨n, 0, by simp only [POP_RESULT, internal]; omega⟩
theorem POP_RESULT_in {W : List Span} {n : Nat} : Covered ((each POP_RESULT) :: W) (POP_RESULT n) :=
  ⟨_, List.mem_cons_self, POP_RESULT_has _⟩
theorem PORTS_READY_has : Span.has (one PORTS_READY) (PORTS_READY) := ⟨0, 0, rfl⟩
theorem PORTS_READY_in {W : List Span} : Covered ((one PORTS_READY) :: W) (PORTS_READY) :=
  ⟨_, List.mem_cons_self, PORTS_READY_has⟩
theorem POWER_STATE.LAST_WAKE_CAUSE_has : Span.has (one POWER_STATE.LAST_WAKE_CAUSE) (POWER_STATE.LAST_WAKE_CAUSE) := ⟨0, 0, rfl⟩
theorem POWER_STATE.LAST_WAKE_CAUSE_in {W : List Span} : Covered ((one POWER_STATE.LAST_WAKE_CAUSE) :: W) (POWER_STATE.LAST_WAKE_CAUSE) :=
  ⟨_, List.mem_cons_self, POWER_STATE.LAST_WAKE_CAUSE_has⟩
theorem POWER_STATE.PARK_ABORTS_has : Span.has (one POWER_STATE.PARK_ABORTS) (POWER_STATE.PARK_ABORTS) := ⟨0, 0, rfl⟩
theorem POWER_STATE.PARK_ABORTS_in {W : List Span} : Covered ((one POWER_STATE.PARK_ABORTS) :: W) (POWER_STATE.PARK_ABORTS) :=
  ⟨_, List.mem_cons_self, POWER_STATE.PARK_ABORTS_has⟩
theorem POWER_STATE.STATE_has : Span.has (one POWER_STATE.STATE) (POWER_STATE.STATE) := ⟨0, 0, rfl⟩
theorem POWER_STATE.STATE_in {W : List Span} : Covered ((one POWER_STATE.STATE) :: W) (POWER_STATE.STATE) :=
  ⟨_, List.mem_cons_self, POWER_STATE.STATE_has⟩
theorem PROFILE_DONE_has : Span.has (one PROFILE_DONE) (PROFILE_DONE) := ⟨0, 0, rfl⟩
theorem PROFILE_DONE_in {W : List Span} : Covered ((one PROFILE_DONE) :: W) (PROFILE_DONE) :=
  ⟨_, List.mem_cons_self, PROFILE_DONE_has⟩
theorem PROFILE_FAILED_has : Span.has (one PROFILE_FAILED) (PROFILE_FAILED) := ⟨0, 0, rfl⟩
theorem PROFILE_FAILED_in {W : List Span} : Covered ((one PROFILE_FAILED) :: W) (PROFILE_FAILED) :=
  ⟨_, List.mem_cons_self, PROFILE_FAILED_has⟩
theorem PROFILE_JUDGED_has : Span.has (one PROFILE_JUDGED) (PROFILE_JUDGED) := ⟨0, 0, rfl⟩
theorem PROFILE_JUDGED_in {W : List Span} : Covered ((one PROFILE_JUDGED) :: W) (PROFILE_JUDGED) :=
  ⟨_, List.mem_cons_self, PROFILE_JUDGED_has⟩
theorem PROFILE_OFF_has : Span.has (one PROFILE_OFF) (PROFILE_OFF) := ⟨0, 0, rfl⟩
theorem PROFILE_OFF_in {W : List Span} : Covered ((one PROFILE_OFF) :: W) (PROFILE_OFF) :=
  ⟨_, List.mem_cons_self, PROFILE_OFF_has⟩
theorem PT_ADDR_has (n : Nat) : Span.has (each PT_ADDR) (PT_ADDR n) := ⟨n, 0, by simp only [PT_ADDR, internal]; omega⟩
theorem PT_ADDR_in {W : List Span} {n : Nat} : Covered ((each PT_ADDR) :: W) (PT_ADDR n) :=
  ⟨_, List.mem_cons_self, PT_ADDR_has _⟩
theorem PT_BUF_has (n : Nat) : Span.has (each PT_BUF) (PT_BUF n) := ⟨n, 0, by simp only [PT_BUF, internal]; omega⟩
theorem PT_BUF_in {W : List Span} {n : Nat} : Covered ((each PT_BUF) :: W) (PT_BUF n) :=
  ⟨_, List.mem_cons_self, PT_BUF_has _⟩
theorem PT_RESULT_has (n : Nat) : Span.has (each PT_RESULT) (PT_RESULT n) := ⟨n, 0, by simp only [PT_RESULT, internal]; omega⟩
theorem PT_RESULT_in {W : List Span} {n : Nat} : Covered ((each PT_RESULT) :: W) (PT_RESULT n) :=
  ⟨_, List.mem_cons_self, PT_RESULT_has _⟩
theorem PT_RESULT_wide {a b : List Span} {n : Nat} (h : Inside a ((each PT_RESULT) :: b)) :
    Inside (one (PT_RESULT n) :: a) ((each PT_RESULT) :: b) := Inside.wide (f := fun n => PT_RESULT n) PT_RESULT_has h
theorem PUMP_START_has (n : Nat) : Span.has (each PUMP_START) (PUMP_START n) := ⟨n, 0, by simp only [PUMP_START, internal]; omega⟩
theorem PUMP_START_wide {a b : List Span} {n : Nat} (h : Inside a ((each PUMP_START) :: b)) :
    Inside (one (PUMP_START n) :: a) ((each PUMP_START) :: b) := Inside.wide (f := fun n => PUMP_START n) PUMP_START_has h
theorem PUMP_STOP_AT_has (n : Nat) : Span.has (each PUMP_STOP_AT) (PUMP_STOP_AT n) := ⟨n, 0, by simp only [PUMP_STOP_AT, internal]; omega⟩
theorem PUMP_STOP_AT_wide {a b : List Span} {n : Nat} (h : Inside a ((each PUMP_STOP_AT) :: b)) :
    Inside (one (PUMP_STOP_AT n) :: a) ((each PUMP_STOP_AT) :: b) := Inside.wide (f := fun n => PUMP_STOP_AT n) PUMP_STOP_AT_has h
theorem PWM_CNT_has (n : Nat) : Span.has (each PWM_CNT) (PWM_CNT n) := ⟨n, 0, by simp only [PWM_CNT, internal]; omega⟩
theorem PWM_CNT_wide {a b : List Span} {n : Nat} (h : Inside a ((each PWM_CNT) :: b)) :
    Inside (one (PWM_CNT n) :: a) ((each PWM_CNT) :: b) := Inside.wide (f := fun n => PWM_CNT n) PWM_CNT_has h
theorem PWM_HELD_has (n : Nat) : Span.has (each PWM_HELD) (PWM_HELD n) := ⟨n, 0, by simp only [PWM_HELD, internal]; omega⟩
theorem PWM_HELD_wide {a b : List Span} {n : Nat} (h : Inside a ((each PWM_HELD) :: b)) :
    Inside (one (PWM_HELD n) :: a) ((each PWM_HELD) :: b) := Inside.wide (f := fun n => PWM_HELD n) PWM_HELD_has h
theorem PWM_HIGH_has (n : Nat) : Span.has (each PWM_HIGH) (PWM_HIGH n) := ⟨n, 0, by simp only [PWM_HIGH, internal]; omega⟩
theorem PWM_HIGH_in {W : List Span} {n : Nat} : Covered ((each PWM_HIGH) :: W) (PWM_HIGH n) :=
  ⟨_, List.mem_cons_self, PWM_HIGH_has _⟩
theorem PWM_HIGH_wide {a b : List Span} {n : Nat} (h : Inside a ((each PWM_HIGH) :: b)) :
    Inside (one (PWM_HIGH n) :: a) ((each PWM_HIGH) :: b) := Inside.wide (f := fun n => PWM_HIGH n) PWM_HIGH_has h
theorem PWM_NEXT_has (n : Nat) : Span.has (each PWM_NEXT) (PWM_NEXT n) := ⟨n, 0, by simp only [PWM_NEXT, internal]; omega⟩
theorem PWM_NEXT_wide {a b : List Span} {n : Nat} (h : Inside a ((each PWM_NEXT) :: b)) :
    Inside (one (PWM_NEXT n) :: a) ((each PWM_NEXT) :: b) := Inside.wide (f := fun n => PWM_NEXT n) PWM_NEXT_has h
theorem PWM_SQ_has (n : Nat) : Span.has (each PWM_SQ) (PWM_SQ n) := ⟨n, 0, by simp only [PWM_SQ, internal]; omega⟩
theorem PWM_SQ_wide {a b : List Span} {n : Nat} (h : Inside a ((each PWM_SQ) :: b)) :
    Inside (one (PWM_SQ n) :: a) ((each PWM_SQ) :: b) := Inside.wide (f := fun n => PWM_SQ n) PWM_SQ_has h
theorem RAMP_RETRY_has (n : Nat) : Span.has (each RAMP_RETRY) (RAMP_RETRY n) := ⟨n, 0, by simp only [RAMP_RETRY, internal]; omega⟩
theorem RAMP_RETRY_wide {a b : List Span} {n : Nat} (h : Inside a ((each RAMP_RETRY) :: b)) :
    Inside (one (RAMP_RETRY n) :: a) ((each RAMP_RETRY) :: b) := Inside.wide (f := fun n => RAMP_RETRY n) RAMP_RETRY_has h
theorem RAMP_START_has (n : Nat) : Span.has (each RAMP_START) (RAMP_START n) := ⟨n, 0, by simp only [RAMP_START, internal]; omega⟩
theorem RAMP_START_wide {a b : List Span} {n : Nat} (h : Inside a ((each RAMP_START) :: b)) :
    Inside (one (RAMP_START n) :: a) ((each RAMP_START) :: b) := Inside.wide (f := fun n => RAMP_START n) RAMP_START_has h
theorem RECEIVED_has (n m : Nat) : Span.has (each2 RECEIVED) (RECEIVED n m) := ⟨n, m, by simp only [RECEIVED, internal]; omega⟩
theorem RECEIVED_in {W : List Span} {n m : Nat} : Covered ((each2 RECEIVED) :: W) (RECEIVED n m) :=
  ⟨_, List.mem_cons_self, RECEIVED_has _ _⟩
theorem RECEIVED_wide {a b : List Span} {n m : Nat} (h : Inside a ((each2 RECEIVED) :: b)) :
    Inside (one (RECEIVED n m) :: a) ((each2 RECEIVED) :: b) := Inside.wide2 (f := fun n m => RECEIVED n m) RECEIVED_has h
theorem REC_CAP_N_has : Span.has (one REC_CAP_N) (REC_CAP_N) := ⟨0, 0, rfl⟩
theorem REC_CAP_N_in {W : List Span} : Covered ((one REC_CAP_N) :: W) (REC_CAP_N) :=
  ⟨_, List.mem_cons_self, REC_CAP_N_has⟩
theorem REC_GRID_has (n : Nat) : Span.has (each REC_GRID) (REC_GRID n) := ⟨n, 0, by simp only [REC_GRID, internal]; omega⟩
theorem REC_GRID_in {W : List Span} {n : Nat} : Covered ((each REC_GRID) :: W) (REC_GRID n) :=
  ⟨_, List.mem_cons_self, REC_GRID_has _⟩
theorem REC_HIST_has (n : Nat) : Span.has (each REC_HIST) (REC_HIST n) := ⟨n, 0, by simp only [REC_HIST, internal]; omega⟩
theorem REC_HIST_in {W : List Span} {n : Nat} : Covered ((each REC_HIST) :: W) (REC_HIST n) :=
  ⟨_, List.mem_cons_self, REC_HIST_has _⟩
theorem REC_IN_has : Span.has (one REC_IN) (REC_IN) := ⟨0, 0, rfl⟩
theorem REC_IN_in {W : List Span} : Covered ((one REC_IN) :: W) (REC_IN) :=
  ⟨_, List.mem_cons_self, REC_IN_has⟩
theorem REC_I_MAX_has : Span.has (one REC_I_MAX) (REC_I_MAX) := ⟨0, 0, rfl⟩
theorem REC_I_MAX_in {W : List Span} : Covered ((one REC_I_MAX) :: W) (REC_I_MAX) :=
  ⟨_, List.mem_cons_self, REC_I_MAX_has⟩
theorem REC_I_MIN_has : Span.has (one REC_I_MIN) (REC_I_MIN) := ⟨0, 0, rfl⟩
theorem REC_I_MIN_in {W : List Span} : Covered ((one REC_I_MIN) :: W) (REC_I_MIN) :=
  ⟨_, List.mem_cons_self, REC_I_MIN_has⟩
theorem REC_OUT_has : Span.has (one REC_OUT) (REC_OUT) := ⟨0, 0, rfl⟩
theorem REC_OUT_in {W : List Span} : Covered ((one REC_OUT) :: W) (REC_OUT) :=
  ⟨_, List.mem_cons_self, REC_OUT_has⟩
theorem REC_REPLACED_has : Span.has (one REC_REPLACED) (REC_REPLACED) := ⟨0, 0, rfl⟩
theorem REC_REPLACED_in {W : List Span} : Covered ((one REC_REPLACED) :: W) (REC_REPLACED) :=
  ⟨_, List.mem_cons_self, REC_REPLACED_has⟩
theorem REC_RES_N_has : Span.has (one REC_RES_N) (REC_RES_N) := ⟨0, 0, rfl⟩
theorem REC_RES_N_in {W : List Span} : Covered ((one REC_RES_N) :: W) (REC_RES_N) :=
  ⟨_, List.mem_cons_self, REC_RES_N_has⟩
theorem REC_T_MAX_has : Span.has (one REC_T_MAX) (REC_T_MAX) := ⟨0, 0, rfl⟩
theorem REC_T_MAX_in {W : List Span} : Covered ((one REC_T_MAX) :: W) (REC_T_MAX) :=
  ⟨_, List.mem_cons_self, REC_T_MAX_has⟩
theorem REC_T_MIN_has : Span.has (one REC_T_MIN) (REC_T_MIN) := ⟨0, 0, rfl⟩
theorem REC_T_MIN_in {W : List Span} : Covered ((one REC_T_MIN) :: W) (REC_T_MIN) :=
  ⟨_, List.mem_cons_self, REC_T_MIN_has⟩
theorem REC_UNBINNED_has : Span.has (one REC_UNBINNED) (REC_UNBINNED) := ⟨0, 0, rfl⟩
theorem REC_UNBINNED_in {W : List Span} : Covered ((one REC_UNBINNED) :: W) (REC_UNBINNED) :=
  ⟨_, List.mem_cons_self, REC_UNBINNED_has⟩
theorem REC_V_MAX_has : Span.has (one REC_V_MAX) (REC_V_MAX) := ⟨0, 0, rfl⟩
theorem REC_V_MAX_in {W : List Span} : Covered ((one REC_V_MAX) :: W) (REC_V_MAX) :=
  ⟨_, List.mem_cons_self, REC_V_MAX_has⟩
theorem REC_V_MIN_has : Span.has (one REC_V_MIN) (REC_V_MIN) := ⟨0, 0, rfl⟩
theorem REC_V_MIN_in {W : List Span} : Covered ((one REC_V_MIN) :: W) (REC_V_MIN) :=
  ⟨_, List.mem_cons_self, REC_V_MIN_has⟩
theorem RESET_CAUSE.CAUSES_SEEN_has : Span.has (one RESET_CAUSE.CAUSES_SEEN) (RESET_CAUSE.CAUSES_SEEN) := ⟨0, 0, rfl⟩
theorem RESET_CAUSE.CAUSES_SEEN_in {W : List Span} : Covered ((one RESET_CAUSE.CAUSES_SEEN) :: W) (RESET_CAUSE.CAUSES_SEEN) :=
  ⟨_, List.mem_cons_self, RESET_CAUSE.CAUSES_SEEN_has⟩
theorem RESET_CAUSE.CAUSE_SITE_has : Span.has (one RESET_CAUSE.CAUSE_SITE) (RESET_CAUSE.CAUSE_SITE) := ⟨0, 0, rfl⟩
theorem RESET_CAUSE.CAUSE_SITE_in {W : List Span} : Covered ((one RESET_CAUSE.CAUSE_SITE) :: W) (RESET_CAUSE.CAUSE_SITE) :=
  ⟨_, List.mem_cons_self, RESET_CAUSE.CAUSE_SITE_has⟩
theorem RESET_CAUSE.LAST_CAUSE_has : Span.has (one RESET_CAUSE.LAST_CAUSE) (RESET_CAUSE.LAST_CAUSE) := ⟨0, 0, rfl⟩
theorem RESET_CAUSE.LAST_CAUSE_in {W : List Span} : Covered ((one RESET_CAUSE.LAST_CAUSE) :: W) (RESET_CAUSE.LAST_CAUSE) :=
  ⟨_, List.mem_cons_self, RESET_CAUSE.LAST_CAUSE_has⟩
theorem RESET_CAUSE.LAST_KIND_has : Span.has (one RESET_CAUSE.LAST_KIND) (RESET_CAUSE.LAST_KIND) := ⟨0, 0, rfl⟩
theorem RESET_CAUSE.LAST_KIND_in {W : List Span} : Covered ((one RESET_CAUSE.LAST_KIND) :: W) (RESET_CAUSE.LAST_KIND) :=
  ⟨_, List.mem_cons_self, RESET_CAUSE.LAST_KIND_has⟩
theorem RESET_FULL_has : Span.has (one RESET_FULL) (RESET_FULL) := ⟨0, 0, rfl⟩
theorem RESET_FULL_in {W : List Span} : Covered ((one RESET_FULL) :: W) (RESET_FULL) :=
  ⟨_, List.mem_cons_self, RESET_FULL_has⟩
theorem RESET_OUTPUT.ASSERT_COUNT_has (n : Nat) : Span.has (each RESET_OUTPUT.ASSERT_COUNT) (RESET_OUTPUT.ASSERT_COUNT n) := ⟨n, 0, by simp only [RESET_OUTPUT.ASSERT_COUNT]; omega⟩
theorem RESET_OUTPUT.ASSERT_COUNT_wide {a b : List Span} {n : Nat} (h : Inside a ((each RESET_OUTPUT.ASSERT_COUNT) :: b)) :
    Inside (one (RESET_OUTPUT.ASSERT_COUNT n) :: a) ((each RESET_OUTPUT.ASSERT_COUNT) :: b) := Inside.wide (f := fun n => RESET_OUTPUT.ASSERT_COUNT n) RESET_OUTPUT.ASSERT_COUNT_has h
theorem RESET_OUTPUT.FORCE_has (n : Nat) : Span.has (each RESET_OUTPUT.FORCE) (RESET_OUTPUT.FORCE n) := ⟨n, 0, by simp only [RESET_OUTPUT.FORCE]; omega⟩
theorem RESET_OUTPUT.FORCE_in {W : List Span} {n : Nat} : Covered ((each RESET_OUTPUT.FORCE) :: W) (RESET_OUTPUT.FORCE n) :=
  ⟨_, List.mem_cons_self, RESET_OUTPUT.FORCE_has _⟩
theorem RESET_OUTPUT.LAST_CHANGE_STAMP_has (n : Nat) : Span.has (each RESET_OUTPUT.LAST_CHANGE_STAMP) (RESET_OUTPUT.LAST_CHANGE_STAMP n) := ⟨n, 0, by simp only [RESET_OUTPUT.LAST_CHANGE_STAMP]; omega⟩
theorem RESET_OUTPUT.LAST_CHANGE_STAMP_wide {a b : List Span} {n : Nat} (h : Inside a ((each RESET_OUTPUT.LAST_CHANGE_STAMP) :: b)) :
    Inside (one (RESET_OUTPUT.LAST_CHANGE_STAMP n) :: a) ((each RESET_OUTPUT.LAST_CHANGE_STAMP) :: b) := Inside.wide (f := fun n => RESET_OUTPUT.LAST_CHANGE_STAMP n) RESET_OUTPUT.LAST_CHANGE_STAMP_has h
theorem RESET_OUTPUT.OUTPUT_has (n : Nat) : Span.has (each RESET_OUTPUT.OUTPUT) (RESET_OUTPUT.OUTPUT n) := ⟨n, 0, by simp only [RESET_OUTPUT.OUTPUT]; omega⟩
theorem RESET_OUTPUT.OUTPUT_wide {a b : List Span} {n : Nat} (h : Inside a ((each RESET_OUTPUT.OUTPUT) :: b)) :
    Inside (one (RESET_OUTPUT.OUTPUT n) :: a) ((each RESET_OUTPUT.OUTPUT) :: b) := Inside.wide (f := fun n => RESET_OUTPUT.OUTPUT n) RESET_OUTPUT.OUTPUT_has h
theorem RESET_UNTIL_has : Span.has (one RESET_UNTIL) (RESET_UNTIL) := ⟨0, 0, rfl⟩
theorem RESET_UNTIL_in {W : List Span} : Covered ((one RESET_UNTIL) :: W) (RESET_UNTIL) :=
  ⟨_, List.mem_cons_self, RESET_UNTIL_has⟩
theorem RET_CAPACITY_has : Span.has (one RET_CAPACITY) (RET_CAPACITY) := ⟨0, 0, rfl⟩
theorem RET_CAPACITY_in {W : List Span} : Covered ((one RET_CAPACITY) :: W) (RET_CAPACITY) :=
  ⟨_, List.mem_cons_self, RET_CAPACITY_has⟩
theorem RET_CASCADES_has : Span.has (one RET_CASCADES) (RET_CASCADES) := ⟨0, 0, rfl⟩
theorem RET_CASCADES_in {W : List Span} : Covered ((one RET_CASCADES) :: W) (RET_CASCADES) :=
  ⟨_, List.mem_cons_self, RET_CASCADES_has⟩
theorem RET_COB_has : Span.has (one RET_COB) (RET_COB) := ⟨0, 0, rfl⟩
theorem RET_COB_in {W : List Span} : Covered ((one RET_COB) :: W) (RET_COB) :=
  ⟨_, List.mem_cons_self, RET_COB_has⟩
theorem RET_ENTERED_has : Span.has (one RET_ENTERED) (RET_ENTERED) := ⟨0, 0, rfl⟩
theorem RET_ENTERED_in {W : List Span} : Covered ((one RET_ENTERED) :: W) (RET_ENTERED) :=
  ⟨_, List.mem_cons_self, RET_ENTERED_has⟩
theorem RET_ENTRY_has : Span.has (one RET_ENTRY) (RET_ENTRY) := ⟨0, 0, rfl⟩
theorem RET_ENTRY_in {W : List Span} : Covered ((one RET_ENTRY) :: W) (RET_ENTRY) :=
  ⟨_, List.mem_cons_self, RET_ENTRY_has⟩
theorem RET_ENTRY_TIME_has : Span.has (one RET_ENTRY_TIME) (RET_ENTRY_TIME) := ⟨0, 0, rfl⟩
theorem RET_ENTRY_TIME_in {W : List Span} : Covered ((one RET_ENTRY_TIME) :: W) (RET_ENTRY_TIME) :=
  ⟨_, List.mem_cons_self, RET_ENTRY_TIME_has⟩
theorem RET_LOCKOUTS_has : Span.has (one RET_LOCKOUTS) (RET_LOCKOUTS) := ⟨0, 0, rfl⟩
theorem RET_LOCKOUTS_in {W : List Span} : Covered ((one RET_LOCKOUTS) :: W) (RET_LOCKOUTS) :=
  ⟨_, List.mem_cons_self, RET_LOCKOUTS_has⟩
theorem RET_PORT_has : Span.has (one RET_PORT) (RET_PORT) := ⟨0, 0, rfl⟩
theorem RET_PORT_in {W : List Span} : Covered ((one RET_PORT) :: W) (RET_PORT) :=
  ⟨_, List.mem_cons_self, RET_PORT_has⟩
theorem RET_PROFILE_SKIP_has : Span.has (one RET_PROFILE_SKIP) (RET_PROFILE_SKIP) := ⟨0, 0, rfl⟩
theorem RET_PROFILE_SKIP_in {W : List Span} : Covered ((one RET_PROFILE_SKIP) :: W) (RET_PROFILE_SKIP) :=
  ⟨_, List.mem_cons_self, RET_PROFILE_SKIP_has⟩
theorem RET_RATE_has : Span.has (one RET_RATE) (RET_RATE) := ⟨0, 0, rfl⟩
theorem RET_RATE_in {W : List Span} : Covered ((one RET_RATE) :: W) (RET_RATE) :=
  ⟨_, List.mem_cons_self, RET_RATE_has⟩
theorem RET_RETRY_has : Span.has (one RET_RETRY) (RET_RETRY) := ⟨0, 0, rfl⟩
theorem RET_RETRY_in {W : List Span} : Covered ((one RET_RETRY) :: W) (RET_RETRY) :=
  ⟨_, List.mem_cons_self, RET_RETRY_has⟩
theorem RET_SAMPLE_has : Span.has (one RET_SAMPLE) (RET_SAMPLE) := ⟨0, 0, rfl⟩
theorem RET_SAMPLE_in {W : List Span} : Covered ((one RET_SAMPLE) :: W) (RET_SAMPLE) :=
  ⟨_, List.mem_cons_self, RET_SAMPLE_has⟩
theorem RET_SKIP_has : Span.has (one RET_SKIP) (RET_SKIP) := ⟨0, 0, rfl⟩
theorem RET_SKIP_in {W : List Span} : Covered ((one RET_SKIP) :: W) (RET_SKIP) :=
  ⟨_, List.mem_cons_self, RET_SKIP_has⟩
theorem RET_SOC_has : Span.has (one RET_SOC) (RET_SOC) := ⟨0, 0, rfl⟩
theorem RET_SOC_in {W : List Span} : Covered ((one RET_SOC) :: W) (RET_SOC) :=
  ⟨_, List.mem_cons_self, RET_SOC_has⟩
theorem RET_SOCI_has : Span.has (one RET_SOCI) (RET_SOCI) := ⟨0, 0, rfl⟩
theorem RET_SOCI_in {W : List Span} : Covered ((one RET_SOCI) :: W) (RET_SOCI) :=
  ⟨_, List.mem_cons_self, RET_SOCI_has⟩
theorem RET_STOPS_has : Span.has (one RET_STOPS) (RET_STOPS) := ⟨0, 0, rfl⟩
theorem RET_STOPS_in {W : List Span} : Covered ((one RET_STOPS) :: W) (RET_STOPS) :=
  ⟨_, List.mem_cons_self, RET_STOPS_has⟩
theorem RING.CAPACITY_has (n : Nat) : Span.has (each RING.CAPACITY) (RING.CAPACITY n) := ⟨n, 0, by simp only [RING.CAPACITY]; omega⟩
theorem RING.CAPACITY_wide {a b : List Span} {n : Nat} (h : Inside a ((each RING.CAPACITY) :: b)) :
    Inside (one (RING.CAPACITY n) :: a) ((each RING.CAPACITY) :: b) := Inside.wide (f := fun n => RING.CAPACITY n) RING.CAPACITY_has h
theorem RING.DROPS_has (n : Nat) : Span.has (each RING.DROPS) (RING.DROPS n) := ⟨n, 0, by simp only [RING.DROPS]; omega⟩
theorem RING.DROPS_wide {a b : List Span} {n : Nat} (h : Inside a ((each RING.DROPS) :: b)) :
    Inside (one (RING.DROPS n) :: a) ((each RING.DROPS) :: b) := Inside.wide (f := fun n => RING.DROPS n) RING.DROPS_has h
theorem RING.FILTER_ON_has (n : Nat) : Span.has (each RING.FILTER_ON) (RING.FILTER_ON n) := ⟨n, 0, by simp only [RING.FILTER_ON]; omega⟩
theorem RING.FILTER_ON_wide {a b : List Span} {n : Nat} (h : Inside a ((each RING.FILTER_ON) :: b)) :
    Inside (one (RING.FILTER_ON n) :: a) ((each RING.FILTER_ON) :: b) := Inside.wide (f := fun n => RING.FILTER_ON n) RING.FILTER_ON_has h
theorem RING.HIGH_WATER_has (n : Nat) : Span.has (each RING.HIGH_WATER) (RING.HIGH_WATER n) := ⟨n, 0, by simp only [RING.HIGH_WATER]; omega⟩
theorem RING.HIGH_WATER_wide {a b : List Span} {n : Nat} (h : Inside a ((each RING.HIGH_WATER) :: b)) :
    Inside (one (RING.HIGH_WATER n) :: a) ((each RING.HIGH_WATER) :: b) := Inside.wide (f := fun n => RING.HIGH_WATER n) RING.HIGH_WATER_has h
theorem RING.KIND_MASK_has (n : Nat) : Span.has (each RING.KIND_MASK) (RING.KIND_MASK n) := ⟨n, 0, by simp only [RING.KIND_MASK]; omega⟩
theorem RING.KIND_MASK_wide {a b : List Span} {n : Nat} (h : Inside a ((each RING.KIND_MASK) :: b)) :
    Inside (one (RING.KIND_MASK n) :: a) ((each RING.KIND_MASK) :: b) := Inside.wide (f := fun n => RING.KIND_MASK n) RING.KIND_MASK_has h
theorem RING.KIND_MATCH_has (n : Nat) : Span.has (each RING.KIND_MATCH) (RING.KIND_MATCH n) := ⟨n, 0, by simp only [RING.KIND_MATCH]; omega⟩
theorem RING.KIND_MATCH_wide {a b : List Span} {n : Nat} (h : Inside a ((each RING.KIND_MATCH) :: b)) :
    Inside (one (RING.KIND_MATCH n) :: a) ((each RING.KIND_MATCH) :: b) := Inside.wide (f := fun n => RING.KIND_MATCH n) RING.KIND_MATCH_has h
theorem RING.MIN_CLASS_has (n : Nat) : Span.has (each RING.MIN_CLASS) (RING.MIN_CLASS n) := ⟨n, 0, by simp only [RING.MIN_CLASS]; omega⟩
theorem RING.MIN_CLASS_wide {a b : List Span} {n : Nat} (h : Inside a ((each RING.MIN_CLASS) :: b)) :
    Inside (one (RING.MIN_CLASS n) :: a) ((each RING.MIN_CLASS) :: b) := Inside.wide (f := fun n => RING.MIN_CLASS n) RING.MIN_CLASS_has h
theorem RING.SEQUENCE_has (n : Nat) : Span.has (each RING.SEQUENCE) (RING.SEQUENCE n) := ⟨n, 0, by simp only [RING.SEQUENCE]; omega⟩
theorem RING.SEQUENCE_wide {a b : List Span} {n : Nat} (h : Inside a ((each RING.SEQUENCE) :: b)) :
    Inside (one (RING.SEQUENCE n) :: a) ((each RING.SEQUENCE) :: b) := Inside.wide (f := fun n => RING.SEQUENCE n) RING.SEQUENCE_has h
theorem RING.SITE_MASK_has (n : Nat) : Span.has (each RING.SITE_MASK) (RING.SITE_MASK n) := ⟨n, 0, by simp only [RING.SITE_MASK]; omega⟩
theorem RING.SITE_MASK_wide {a b : List Span} {n : Nat} (h : Inside a ((each RING.SITE_MASK) :: b)) :
    Inside (one (RING.SITE_MASK n) :: a) ((each RING.SITE_MASK) :: b) := Inside.wide (f := fun n => RING.SITE_MASK n) RING.SITE_MASK_has h
theorem RING.SITE_MATCH_has (n : Nat) : Span.has (each RING.SITE_MATCH) (RING.SITE_MATCH n) := ⟨n, 0, by simp only [RING.SITE_MATCH]; omega⟩
theorem RING.SITE_MATCH_wide {a b : List Span} {n : Nat} (h : Inside a ((each RING.SITE_MATCH) :: b)) :
    Inside (one (RING.SITE_MATCH n) :: a) ((each RING.SITE_MATCH) :: b) := Inside.wide (f := fun n => RING.SITE_MATCH n) RING.SITE_MATCH_has h
theorem RING.TARGETS_has (n : Nat) : Span.has (each RING.TARGETS) (RING.TARGETS n) := ⟨n, 0, by simp only [RING.TARGETS]; omega⟩
theorem RING.TARGETS_wide {a b : List Span} {n : Nat} (h : Inside a ((each RING.TARGETS) :: b)) :
    Inside (one (RING.TARGETS n) :: a) ((each RING.TARGETS) :: b) := Inside.wide (f := fun n => RING.TARGETS n) RING.TARGETS_has h
theorem RING.TYPES_has (n : Nat) : Span.has (each RING.TYPES) (RING.TYPES n) := ⟨n, 0, by simp only [RING.TYPES]; omega⟩
theorem RING.TYPES_wide {a b : List Span} {n : Nat} (h : Inside a ((each RING.TYPES) :: b)) :
    Inside (one (RING.TYPES n) :: a) ((each RING.TYPES) :: b) := Inside.wide (f := fun n => RING.TYPES n) RING.TYPES_has h
theorem RING_FENCE_has (n : Nat) : Span.has (each RING_FENCE) (RING_FENCE n) := ⟨n, 0, by simp only [RING_FENCE, internal]; omega⟩
theorem RING_FENCE_wide {a b : List Span} {n : Nat} (h : Inside a ((each RING_FENCE) :: b)) :
    Inside (one (RING_FENCE n) :: a) ((each RING_FENCE) :: b) := Inside.wide (f := fun n => RING_FENCE n) RING_FENCE_has h
theorem RING_RR_has (n : Nat) : Span.has (each RING_RR) (RING_RR n) := ⟨n, 0, by simp only [RING_RR, internal]; omega⟩
theorem RING_RR_wide {a b : List Span} {n : Nat} (h : Inside a ((each RING_RR) :: b)) :
    Inside (one (RING_RR n) :: a) ((each RING_RR) :: b) := Inside.wide (f := fun n => RING_RR n) RING_RR_has h
theorem RISE_AT_has (n : Nat) : Span.has (each RISE_AT) (RISE_AT n) := ⟨n, 0, by simp only [RISE_AT, internal]; omega⟩
theorem RISE_AT_wide {a b : List Span} {n : Nat} (h : Inside a ((each RISE_AT) :: b)) :
    Inside (one (RISE_AT n) :: a) ((each RISE_AT) :: b) := Inside.wide (f := fun n => RISE_AT n) RISE_AT_has h
theorem ROUND_NO_has (n : Nat) : Span.has (each ROUND_NO) (ROUND_NO n) := ⟨n, 0, by simp only [ROUND_NO, internal]; omega⟩
theorem ROUND_NO_wide {a b : List Span} {n : Nat} (h : Inside a ((each ROUND_NO) :: b)) :
    Inside (one (ROUND_NO n) :: a) ((each ROUND_NO) :: b) := Inside.wide (f := fun n => ROUND_NO n) ROUND_NO_has h
theorem RPDO_HAS_has (n : Nat) : Span.has (each RPDO_HAS) (RPDO_HAS n) := ⟨n, 0, by simp only [RPDO_HAS, internal]; omega⟩
theorem RPDO_HAS_in {W : List Span} {n : Nat} : Covered ((each RPDO_HAS) :: W) (RPDO_HAS n) :=
  ⟨_, List.mem_cons_self, RPDO_HAS_has _⟩
theorem RPDO_HELD_has (n : Nat) : Span.has (each RPDO_HELD) (RPDO_HELD n) := ⟨n, 0, by simp only [RPDO_HELD, internal]; omega⟩
theorem RPDO_HELD_in {W : List Span} {n : Nat} : Covered ((each RPDO_HELD) :: W) (RPDO_HELD n) :=
  ⟨_, List.mem_cons_self, RPDO_HELD_has _⟩
theorem RSO_GOOD_SINCE_has (n : Nat) : Span.has (each RSO_GOOD_SINCE) (RSO_GOOD_SINCE n) := ⟨n, 0, by simp only [RSO_GOOD_SINCE, internal]; omega⟩
theorem RSO_GOOD_SINCE_wide {a b : List Span} {n : Nat} (h : Inside a ((each RSO_GOOD_SINCE) :: b)) :
    Inside (one (RSO_GOOD_SINCE n) :: a) ((each RSO_GOOD_SINCE) :: b) := Inside.wide (f := fun n => RSO_GOOD_SINCE n) RSO_GOOD_SINCE_has h
theorem RSO_KEEP_has (n : Nat) : Span.has (each RSO_KEEP) (RSO_KEEP n) := ⟨n, 0, by simp only [RSO_KEEP, internal]; omega⟩
theorem RSO_KEEP_in {W : List Span} {n : Nat} : Covered ((each RSO_KEEP) :: W) (RSO_KEEP n) :=
  ⟨_, List.mem_cons_self, RSO_KEEP_has _⟩
theorem RSO_TOGGLE_AT_has (n : Nat) : Span.has (each RSO_TOGGLE_AT) (RSO_TOGGLE_AT n) := ⟨n, 0, by simp only [RSO_TOGGLE_AT, internal]; omega⟩
theorem RSO_TOGGLE_AT_in {W : List Span} {n : Nat} : Covered ((each RSO_TOGGLE_AT) :: W) (RSO_TOGGLE_AT n) :=
  ⟨_, List.mem_cons_self, RSO_TOGGLE_AT_has _⟩
theorem RSTOUT_HIGH_has : Span.has (one RSTOUT_HIGH) (RSTOUT_HIGH) := ⟨0, 0, rfl⟩
theorem RSTOUT_HIGH_in {W : List Span} : Covered ((one RSTOUT_HIGH) :: W) (RSTOUT_HIGH) :=
  ⟨_, List.mem_cons_self, RSTOUT_HIGH_has⟩
theorem RS_I_has : Span.has (one RS_I) (RS_I) := ⟨0, 0, rfl⟩
theorem RS_I_in {W : List Span} : Covered ((one RS_I) :: W) (RS_I) :=
  ⟨_, List.mem_cons_self, RS_I_has⟩
theorem RS_OK_has : Span.has (one RS_OK) (RS_OK) := ⟨0, 0, rfl⟩
theorem RS_OK_in {W : List Span} : Covered ((one RS_OK) :: W) (RS_OK) :=
  ⟨_, List.mem_cons_self, RS_OK_has⟩
theorem RS_V_has : Span.has (one RS_V) (RS_V) := ⟨0, 0, rfl⟩
theorem RS_V_in {W : List Span} : Covered ((one RS_V) :: W) (RS_V) :=
  ⟨_, List.mem_cons_self, RS_V_has⟩
theorem RTC.LAST_SET_STAMP_has : Span.has (one RTC.LAST_SET_STAMP) (RTC.LAST_SET_STAMP) := ⟨0, 0, rfl⟩
theorem RTC.LAST_SET_STAMP_in {W : List Span} : Covered ((one RTC.LAST_SET_STAMP) :: W) (RTC.LAST_SET_STAMP) :=
  ⟨_, List.mem_cons_self, RTC.LAST_SET_STAMP_has⟩
theorem RTC.RTC_FLAGS_has : Span.has (one RTC.RTC_FLAGS) (RTC.RTC_FLAGS) := ⟨0, 0, rfl⟩
theorem RTC.RTC_FLAGS_in {W : List Span} : Covered ((one RTC.RTC_FLAGS) :: W) (RTC.RTC_FLAGS) :=
  ⟨_, List.mem_cons_self, RTC.RTC_FLAGS_has⟩
theorem RTC.SET_SOURCE_has : Span.has (one RTC.SET_SOURCE) (RTC.SET_SOURCE) := ⟨0, 0, rfl⟩
theorem RTC.SET_SOURCE_in {W : List Span} : Covered ((one RTC.SET_SOURCE) :: W) (RTC.SET_SOURCE) :=
  ⟨_, List.mem_cons_self, RTC.SET_SOURCE_has⟩
theorem RTC_BASE_has : Span.has (one RTC_BASE) (RTC_BASE) := ⟨0, 0, rfl⟩
theorem RTC_BASE_in {W : List Span} : Covered ((one RTC_BASE) :: W) (RTC_BASE) :=
  ⟨_, List.mem_cons_self, RTC_BASE_has⟩
theorem RTC_FROM_has : Span.has (one RTC_FROM) (RTC_FROM) := ⟨0, 0, rfl⟩
theorem RTC_FROM_in {W : List Span} : Covered ((one RTC_FROM) :: W) (RTC_FROM) :=
  ⟨_, List.mem_cons_self, RTC_FROM_has⟩
theorem RUN_SINCE_has (n : Nat) : Span.has (each RUN_SINCE) (RUN_SINCE n) := ⟨n, 0, by simp only [RUN_SINCE, internal]; omega⟩
theorem RUN_SINCE_wide {a b : List Span} {n : Nat} (h : Inside a ((each RUN_SINCE) :: b)) :
    Inside (one (RUN_SINCE n) :: a) ((each RUN_SINCE) :: b) := Inside.wide (f := fun n => RUN_SINCE n) RUN_SINCE_has h
theorem RUN_SPENT_has (n : Nat) : Span.has (each RUN_SPENT) (RUN_SPENT n) := ⟨n, 0, by simp only [RUN_SPENT, internal]; omega⟩
theorem RUN_SPENT_wide {a b : List Span} {n : Nat} (h : Inside a ((each RUN_SPENT) :: b)) :
    Inside (one (RUN_SPENT n) :: a) ((each RUN_SPENT) :: b) := Inside.wide (f := fun n => RUN_SPENT n) RUN_SPENT_has h
theorem SAFE_WAIT_has (n : Nat) : Span.has (each SAFE_WAIT) (SAFE_WAIT n) := ⟨n, 0, by simp only [SAFE_WAIT, internal]; omega⟩
theorem SAFE_WAIT_in {W : List Span} {n : Nat} : Covered ((each SAFE_WAIT) :: W) (SAFE_WAIT n) :=
  ⟨_, List.mem_cons_self, SAFE_WAIT_has _⟩
theorem SAFE_WAIT_wide {a b : List Span} {n : Nat} (h : Inside a ((each SAFE_WAIT) :: b)) :
    Inside (one (SAFE_WAIT n) :: a) ((each SAFE_WAIT) :: b) := Inside.wide (f := fun n => SAFE_WAIT n) SAFE_WAIT_has h
theorem SAMPLE_I_has (n m : Nat) : Span.has (each2 SAMPLE_I) (SAMPLE_I n m) := ⟨n, m, by simp only [SAMPLE_I, internal]; omega⟩
theorem SAMPLE_I_wide {a b : List Span} {n m : Nat} (h : Inside a ((each2 SAMPLE_I) :: b)) :
    Inside (one (SAMPLE_I n m) :: a) ((each2 SAMPLE_I) :: b) := Inside.wide2 (f := fun n m => SAMPLE_I n m) SAMPLE_I_has h
theorem SAMPLE_V_has (n m : Nat) : Span.has (each2 SAMPLE_V) (SAMPLE_V n m) := ⟨n, m, by simp only [SAMPLE_V, internal]; omega⟩
theorem SAMPLE_V_wide {a b : List Span} {n m : Nat} (h : Inside a ((each2 SAMPLE_V) :: b)) :
    Inside (one (SAMPLE_V n m) :: a) ((each2 SAMPLE_V) :: b) := Inside.wide2 (f := fun n m => SAMPLE_V n m) SAMPLE_V_has h
theorem SATURATED_AT_has : Span.has (one SATURATED_AT) (SATURATED_AT) := ⟨0, 0, rfl⟩
theorem SATURATED_AT_in {W : List Span} : Covered ((one SATURATED_AT) :: W) (SATURATED_AT) :=
  ⟨_, List.mem_cons_self, SATURATED_AT_has⟩
theorem SECURITY_STATUS.AUTH_FAILED_TOTAL_has : Span.has (one SECURITY_STATUS.AUTH_FAILED_TOTAL) (SECURITY_STATUS.AUTH_FAILED_TOTAL) := ⟨0, 0, rfl⟩
theorem SECURITY_STATUS.AUTH_FAILED_TOTAL_in {W : List Span} : Covered ((one SECURITY_STATUS.AUTH_FAILED_TOTAL) :: W) (SECURITY_STATUS.AUTH_FAILED_TOTAL) :=
  ⟨_, List.mem_cons_self, SECURITY_STATUS.AUTH_FAILED_TOTAL_has⟩
theorem SECURITY_STATUS.RANDOM_STATE_has : Span.has (one SECURITY_STATUS.RANDOM_STATE) (SECURITY_STATUS.RANDOM_STATE) := ⟨0, 0, rfl⟩
theorem SECURITY_STATUS.RANDOM_STATE_in {W : List Span} : Covered ((one SECURITY_STATUS.RANDOM_STATE) :: W) (SECURITY_STATUS.RANDOM_STATE) :=
  ⟨_, List.mem_cons_self, SECURITY_STATUS.RANDOM_STATE_has⟩
theorem SECURITY_STATUS.SESSIONS_OPENED_has : Span.has (one SECURITY_STATUS.SESSIONS_OPENED) (SECURITY_STATUS.SESSIONS_OPENED) := ⟨0, 0, rfl⟩
theorem SECURITY_STATUS.SESSIONS_OPENED_in {W : List Span} : Covered ((one SECURITY_STATUS.SESSIONS_OPENED) :: W) (SECURITY_STATUS.SESSIONS_OPENED) :=
  ⟨_, List.mem_cons_self, SECURITY_STATUS.SESSIONS_OPENED_has⟩
theorem SECURITY_STATUS.SIGNATURES_has : Span.has (one SECURITY_STATUS.SIGNATURES) (SECURITY_STATUS.SIGNATURES) := ⟨0, 0, rfl⟩
theorem SECURITY_STATUS.SIGNATURES_in {W : List Span} : Covered ((one SECURITY_STATUS.SIGNATURES) :: W) (SECURITY_STATUS.SIGNATURES) :=
  ⟨_, List.mem_cons_self, SECURITY_STATUS.SIGNATURES_has⟩
theorem SEEN_has (n : Nat) : Span.has (each SEEN) (SEEN n) := ⟨n, 0, by simp only [SEEN, internal]; omega⟩
theorem SEEN_in {W : List Span} {n : Nat} : Covered ((each SEEN) :: W) (SEEN n) :=
  ⟨_, List.mem_cons_self, SEEN_has _⟩
theorem SESSION_CONTROL.AUTH_READ_REPLY_has (n : Nat) : Span.has (each SESSION_CONTROL.AUTH_READ_REPLY) (SESSION_CONTROL.AUTH_READ_REPLY n) := ⟨n, 0, by simp only [SESSION_CONTROL.AUTH_READ_REPLY]; omega⟩
theorem SESSION_CONTROL.AUTH_READ_REPLY_in {W : List Span} {n : Nat} : Covered ((each SESSION_CONTROL.AUTH_READ_REPLY) :: W) (SESSION_CONTROL.AUTH_READ_REPLY n) :=
  ⟨_, List.mem_cons_self, SESSION_CONTROL.AUTH_READ_REPLY_has _⟩
theorem SESSION_CONTROL.LAST_COUNTER_has (n : Nat) : Span.has (each SESSION_CONTROL.LAST_COUNTER) (SESSION_CONTROL.LAST_COUNTER n) := ⟨n, 0, by simp only [SESSION_CONTROL.LAST_COUNTER]; omega⟩
theorem SESSION_CONTROL.LAST_COUNTER_in {W : List Span} {n : Nat} : Covered ((each SESSION_CONTROL.LAST_COUNTER) :: W) (SESSION_CONTROL.LAST_COUNTER n) :=
  ⟨_, List.mem_cons_self, SESSION_CONTROL.LAST_COUNTER_has _⟩
theorem SESSION_CONTROL.SESSION_REPLY_has (n : Nat) : Span.has (each SESSION_CONTROL.SESSION_REPLY) (SESSION_CONTROL.SESSION_REPLY n) := ⟨n, 0, by simp only [SESSION_CONTROL.SESSION_REPLY]; omega⟩
theorem SESSION_CONTROL.SESSION_REPLY_in {W : List Span} {n : Nat} : Covered ((each SESSION_CONTROL.SESSION_REPLY) :: W) (SESSION_CONTROL.SESSION_REPLY n) :=
  ⟨_, List.mem_cons_self, SESSION_CONTROL.SESSION_REPLY_has _⟩
theorem SESSION_CONTROL.SESSION_STATE_has (n : Nat) : Span.has (each SESSION_CONTROL.SESSION_STATE) (SESSION_CONTROL.SESSION_STATE n) := ⟨n, 0, by simp only [SESSION_CONTROL.SESSION_STATE]; omega⟩
theorem SESSION_CONTROL.SESSION_STATE_in {W : List Span} {n : Nat} : Covered ((each SESSION_CONTROL.SESSION_STATE) :: W) (SESSION_CONTROL.SESSION_STATE n) :=
  ⟨_, List.mem_cons_self, SESSION_CONTROL.SESSION_STATE_has _⟩
theorem SESSION_ID_has (n : Nat) : Span.has (each SESSION_ID) (SESSION_ID n) := ⟨n, 0, by simp only [SESSION_ID, internal]; omega⟩
theorem SESSION_ID_in {W : List Span} {n : Nat} : Covered ((each SESSION_ID) :: W) (SESSION_ID n) :=
  ⟨_, List.mem_cons_self, SESSION_ID_has _⟩
theorem SHARE_END_has (n : Nat) : Span.has (each SHARE_END) (SHARE_END n) := ⟨n, 0, by simp only [SHARE_END, internal]; omega⟩
theorem SHARE_END_wide {a b : List Span} {n : Nat} (h : Inside a ((each SHARE_END) :: b)) :
    Inside (one (SHARE_END n) :: a) ((each SHARE_END) :: b) := Inside.wide (f := fun n => SHARE_END n) SHARE_END_has h
theorem SHARE_HELD_has (n : Nat) : Span.has (each SHARE_HELD) (SHARE_HELD n) := ⟨n, 0, by simp only [SHARE_HELD, internal]; omega⟩
theorem SHARE_HELD_in {W : List Span} {n : Nat} : Covered ((each SHARE_HELD) :: W) (SHARE_HELD n) :=
  ⟨_, List.mem_cons_self, SHARE_HELD_has _⟩
theorem SHARE_HELD_wide {a b : List Span} {n : Nat} (h : Inside a ((each SHARE_HELD) :: b)) :
    Inside (one (SHARE_HELD n) :: a) ((each SHARE_HELD) :: b) := Inside.wide (f := fun n => SHARE_HELD n) SHARE_HELD_has h
theorem SHARE_IN_has (n : Nat) : Span.has (each SHARE_IN) (SHARE_IN n) := ⟨n, 0, by simp only [SHARE_IN, internal]; omega⟩
theorem SHARE_IN_wide {a b : List Span} {n : Nat} (h : Inside a ((each SHARE_IN) :: b)) :
    Inside (one (SHARE_IN n) :: a) ((each SHARE_IN) :: b) := Inside.wide (f := fun n => SHARE_IN n) SHARE_IN_has h
theorem SHARE_OUT_has (n : Nat) : Span.has (each SHARE_OUT) (SHARE_OUT n) := ⟨n, 0, by simp only [SHARE_OUT, internal]; omega⟩
theorem SHARE_OUT_wide {a b : List Span} {n : Nat} (h : Inside a ((each SHARE_OUT) :: b)) :
    Inside (one (SHARE_OUT n) :: a) ((each SHARE_OUT) :: b) := Inside.wide (f := fun n => SHARE_OUT n) SHARE_OUT_has h
theorem SHARE_PEAK_has (n : Nat) : Span.has (each SHARE_PEAK) (SHARE_PEAK n) := ⟨n, 0, by simp only [SHARE_PEAK, internal]; omega⟩
theorem SHARE_PEAK_in {W : List Span} {n : Nat} : Covered ((each SHARE_PEAK) :: W) (SHARE_PEAK n) :=
  ⟨_, List.mem_cons_self, SHARE_PEAK_has _⟩
theorem SHARE_PEAK_wide {a b : List Span} {n : Nat} (h : Inside a ((each SHARE_PEAK) :: b)) :
    Inside (one (SHARE_PEAK n) :: a) ((each SHARE_PEAK) :: b) := Inside.wide (f := fun n => SHARE_PEAK n) SHARE_PEAK_has h
theorem SHARE_SET_has (n : Nat) : Span.has (each SHARE_SET) (SHARE_SET n) := ⟨n, 0, by simp only [SHARE_SET, internal]; omega⟩
theorem SHARE_SET_wide {a b : List Span} {n : Nat} (h : Inside a ((each SHARE_SET) :: b)) :
    Inside (one (SHARE_SET n) :: a) ((each SHARE_SET) :: b) := Inside.wide (f := fun n => SHARE_SET n) SHARE_SET_has h
theorem SHIP_AT_has : Span.has (one SHIP_AT) (SHIP_AT) := ⟨0, 0, rfl⟩
theorem SHIP_AT_in {W : List Span} : Covered ((one SHIP_AT) :: W) (SHIP_AT) :=
  ⟨_, List.mem_cons_self, SHIP_AT_has⟩
theorem SHIP_CONTROL.BTN_STATE_has : Span.has (one SHIP_CONTROL.BTN_STATE) (SHIP_CONTROL.BTN_STATE) := ⟨0, 0, rfl⟩
theorem SHIP_CONTROL.BTN_STATE_in {W : List Span} : Covered ((one SHIP_CONTROL.BTN_STATE) :: W) (SHIP_CONTROL.BTN_STATE) :=
  ⟨_, List.mem_cons_self, SHIP_CONTROL.BTN_STATE_has⟩
theorem SHIP_CONTROL.LAST_SHIP_DURATION_has : Span.has (one SHIP_CONTROL.LAST_SHIP_DURATION) (SHIP_CONTROL.LAST_SHIP_DURATION) := ⟨0, 0, rfl⟩
theorem SHIP_CONTROL.LAST_SHIP_DURATION_in {W : List Span} : Covered ((one SHIP_CONTROL.LAST_SHIP_DURATION) :: W) (SHIP_CONTROL.LAST_SHIP_DURATION) :=
  ⟨_, List.mem_cons_self, SHIP_CONTROL.LAST_SHIP_DURATION_has⟩
theorem SHIP_CONTROL.LONG_PRESSES_has : Span.has (one SHIP_CONTROL.LONG_PRESSES) (SHIP_CONTROL.LONG_PRESSES) := ⟨0, 0, rfl⟩
theorem SHIP_CONTROL.LONG_PRESSES_in {W : List Span} : Covered ((one SHIP_CONTROL.LONG_PRESSES) :: W) (SHIP_CONTROL.LONG_PRESSES) :=
  ⟨_, List.mem_cons_self, SHIP_CONTROL.LONG_PRESSES_has⟩
theorem SHIP_CONTROL.SHIP_ENTRIES_has : Span.has (one SHIP_CONTROL.SHIP_ENTRIES) (SHIP_CONTROL.SHIP_ENTRIES) := ⟨0, 0, rfl⟩
theorem SHIP_CONTROL.SHIP_ENTRIES_in {W : List Span} : Covered ((one SHIP_CONTROL.SHIP_ENTRIES) :: W) (SHIP_CONTROL.SHIP_ENTRIES) :=
  ⟨_, List.mem_cons_self, SHIP_CONTROL.SHIP_ENTRIES_has⟩
theorem SHIP_CONTROL.SHIP_STATE_has : Span.has (one SHIP_CONTROL.SHIP_STATE) (SHIP_CONTROL.SHIP_STATE) := ⟨0, 0, rfl⟩
theorem SHIP_CONTROL.SHIP_STATE_in {W : List Span} : Covered ((one SHIP_CONTROL.SHIP_STATE) :: W) (SHIP_CONTROL.SHIP_STATE) :=
  ⟨_, List.mem_cons_self, SHIP_CONTROL.SHIP_STATE_has⟩
theorem SHIP_IN_has : Span.has (one SHIP_IN) (SHIP_IN) := ⟨0, 0, rfl⟩
theorem SHIP_IN_in {W : List Span} : Covered ((one SHIP_IN) :: W) (SHIP_IN) :=
  ⟨_, List.mem_cons_self, SHIP_IN_has⟩
theorem SHUT_SINCE_has (n : Nat) : Span.has (each SHUT_SINCE) (SHUT_SINCE n) := ⟨n, 0, by simp only [SHUT_SINCE, internal]; omega⟩
theorem SHUT_SINCE_wide {a b : List Span} {n : Nat} (h : Inside a ((each SHUT_SINCE) :: b)) :
    Inside (one (SHUT_SINCE n) :: a) ((each SHUT_SINCE) :: b) := Inside.wide (f := fun n => SHUT_SINCE n) SHUT_SINCE_has h
theorem SLOT_SKIPPED_has (n : Nat) : Span.has (each SLOT_SKIPPED) (SLOT_SKIPPED n) := ⟨n, 0, by simp only [SLOT_SKIPPED, internal]; omega⟩
theorem SLOT_SKIPPED_wide {a b : List Span} {n : Nat} (h : Inside a ((each SLOT_SKIPPED) :: b)) :
    Inside (one (SLOT_SKIPPED n) :: a) ((each SLOT_SKIPPED) :: b) := Inside.wide (f := fun n => SLOT_SKIPPED n) SLOT_SKIPPED_has h
theorem SPI_PORT.BROKEN_FRAMES_has : Span.has (one SPI_PORT.BROKEN_FRAMES) (SPI_PORT.BROKEN_FRAMES) := ⟨0, 0, rfl⟩
theorem SPI_PORT.BROKEN_FRAMES_in {W : List Span} : Covered ((one SPI_PORT.BROKEN_FRAMES) :: W) (SPI_PORT.BROKEN_FRAMES) :=
  ⟨_, List.mem_cons_self, SPI_PORT.BROKEN_FRAMES_has⟩
theorem SPI_PORT.BUSY_ANSWERS_has : Span.has (one SPI_PORT.BUSY_ANSWERS) (SPI_PORT.BUSY_ANSWERS) := ⟨0, 0, rfl⟩
theorem SPI_PORT.BUSY_ANSWERS_in {W : List Span} : Covered ((one SPI_PORT.BUSY_ANSWERS) :: W) (SPI_PORT.BUSY_ANSWERS) :=
  ⟨_, List.mem_cons_self, SPI_PORT.BUSY_ANSWERS_has⟩
theorem SPI_PORT.CRC_ERRORS_has : Span.has (one SPI_PORT.CRC_ERRORS) (SPI_PORT.CRC_ERRORS) := ⟨0, 0, rfl⟩
theorem SPI_PORT.CRC_ERRORS_in {W : List Span} : Covered ((one SPI_PORT.CRC_ERRORS) :: W) (SPI_PORT.CRC_ERRORS) :=
  ⟨_, List.mem_cons_self, SPI_PORT.CRC_ERRORS_has⟩
theorem SPI_PORT.CS_CONFLICTS_has : Span.has (one SPI_PORT.CS_CONFLICTS) (SPI_PORT.CS_CONFLICTS) := ⟨0, 0, rfl⟩
theorem SPI_PORT.CS_CONFLICTS_in {W : List Span} : Covered ((one SPI_PORT.CS_CONFLICTS) :: W) (SPI_PORT.CS_CONFLICTS) :=
  ⟨_, List.mem_cons_self, SPI_PORT.CS_CONFLICTS_has⟩
theorem SPI_PORT.FRAMES_has : Span.has (one SPI_PORT.FRAMES) (SPI_PORT.FRAMES) := ⟨0, 0, rfl⟩
theorem SPI_PORT.FRAMES_in {W : List Span} : Covered ((one SPI_PORT.FRAMES) :: W) (SPI_PORT.FRAMES) :=
  ⟨_, List.mem_cons_self, SPI_PORT.FRAMES_has⟩
theorem STAND_DUE_has (n : Nat) : Span.has (each STAND_DUE) (STAND_DUE n) := ⟨n, 0, by simp only [STAND_DUE, internal]; omega⟩
theorem STAND_DUE_in {W : List Span} {n : Nat} : Covered ((each STAND_DUE) :: W) (STAND_DUE n) :=
  ⟨_, List.mem_cons_self, STAND_DUE_has _⟩
theorem STAND_ENTRY_has (n : Nat) : Span.has (each STAND_ENTRY) (STAND_ENTRY n) := ⟨n, 0, by simp only [STAND_ENTRY, internal]; omega⟩
theorem STAND_ENTRY_wide {a b : List Span} {n : Nat} (h : Inside a ((each STAND_ENTRY) :: b)) :
    Inside (one (STAND_ENTRY n) :: a) ((each STAND_ENTRY) :: b) := Inside.wide (f := fun n => STAND_ENTRY n) STAND_ENTRY_has h
theorem STAND_EVENTS_has (n : Nat) : Span.has (each STAND_EVENTS) (STAND_EVENTS n) := ⟨n, 0, by simp only [STAND_EVENTS, internal]; omega⟩
theorem STAND_EVENTS_in {W : List Span} {n : Nat} : Covered ((each STAND_EVENTS) :: W) (STAND_EVENTS n) :=
  ⟨_, List.mem_cons_self, STAND_EVENTS_has _⟩
theorem STAND_EVENTS_wide {a b : List Span} {n : Nat} (h : Inside a ((each STAND_EVENTS) :: b)) :
    Inside (one (STAND_EVENTS n) :: a) ((each STAND_EVENTS) :: b) := Inside.wide (f := fun n => STAND_EVENTS n) STAND_EVENTS_has h
theorem STAND_TRIGGERS_has (n : Nat) : Span.has (each STAND_TRIGGERS) (STAND_TRIGGERS n) := ⟨n, 0, by simp only [STAND_TRIGGERS, internal]; omega⟩
theorem STAND_TRIGGERS_wide {a b : List Span} {n : Nat} (h : Inside a ((each STAND_TRIGGERS) :: b)) :
    Inside (one (STAND_TRIGGERS n) :: a) ((each STAND_TRIGGERS) :: b) := Inside.wide (f := fun n => STAND_TRIGGERS n) STAND_TRIGGERS_has h
theorem START_AT_has (n : Nat) : Span.has (each START_AT) (START_AT n) := ⟨n, 0, by simp only [START_AT, internal]; omega⟩
theorem START_AT_wide {a b : List Span} {n : Nat} (h : Inside a ((each START_AT) :: b)) :
    Inside (one (START_AT n) :: a) ((each START_AT) :: b) := Inside.wide (f := fun n => START_AT n) START_AT_has h
theorem START_GENTLE_has (n : Nat) : Span.has (each START_GENTLE) (START_GENTLE n) := ⟨n, 0, by simp only [START_GENTLE, internal]; omega⟩
theorem START_GENTLE_wide {a b : List Span} {n : Nat} (h : Inside a ((each START_GENTLE) :: b)) :
    Inside (one (START_GENTLE n) :: a) ((each START_GENTLE) :: b) := Inside.wide (f := fun n => START_GENTLE n) START_GENTLE_has h
theorem STEP_ACT_AT_has (n : Nat) : Span.has (each STEP_ACT_AT) (STEP_ACT_AT n) := ⟨n, 0, by simp only [STEP_ACT_AT, internal]; omega⟩
theorem STEP_ACT_AT_in {W : List Span} {n : Nat} : Covered ((each STEP_ACT_AT) :: W) (STEP_ACT_AT n) :=
  ⟨_, List.mem_cons_self, STEP_ACT_AT_has _⟩
theorem STEP_AGAIN_has (n : Nat) : Span.has (each STEP_AGAIN) (STEP_AGAIN n) := ⟨n, 0, by simp only [STEP_AGAIN, internal]; omega⟩
theorem STEP_AGAIN_in {W : List Span} {n : Nat} : Covered ((each STEP_AGAIN) :: W) (STEP_AGAIN n) :=
  ⟨_, List.mem_cons_self, STEP_AGAIN_has _⟩
theorem STEP_AGAIN_wide {a b : List Span} {n : Nat} (h : Inside a ((each STEP_AGAIN) :: b)) :
    Inside (one (STEP_AGAIN n) :: a) ((each STEP_AGAIN) :: b) := Inside.wide (f := fun n => STEP_AGAIN n) STEP_AGAIN_has h
theorem STEP_MET_has (n : Nat) : Span.has (each STEP_MET) (STEP_MET n) := ⟨n, 0, by simp only [STEP_MET, internal]; omega⟩
theorem STEP_MET_in {W : List Span} {n : Nat} : Covered ((each STEP_MET) :: W) (STEP_MET n) :=
  ⟨_, List.mem_cons_self, STEP_MET_has _⟩
theorem STEP_MET_wide {a b : List Span} {n : Nat} (h : Inside a ((each STEP_MET) :: b)) :
    Inside (one (STEP_MET n) :: a) ((each STEP_MET) :: b) := Inside.wide (f := fun n => STEP_MET n) STEP_MET_has h
theorem STEP_MOVED_AT_has (n : Nat) : Span.has (each STEP_MOVED_AT) (STEP_MOVED_AT n) := ⟨n, 0, by simp only [STEP_MOVED_AT, internal]; omega⟩
theorem STEP_MOVED_AT_in {W : List Span} {n : Nat} : Covered ((each STEP_MOVED_AT) :: W) (STEP_MOVED_AT n) :=
  ⟨_, List.mem_cons_self, STEP_MOVED_AT_has _⟩
theorem STEP_MOVED_AT_wide {a b : List Span} {n : Nat} (h : Inside a ((each STEP_MOVED_AT) :: b)) :
    Inside (one (STEP_MOVED_AT n) :: a) ((each STEP_MOVED_AT) :: b) := Inside.wide (f := fun n => STEP_MOVED_AT n) STEP_MOVED_AT_has h
theorem STEP_READY_AT_has (n : Nat) : Span.has (each STEP_READY_AT) (STEP_READY_AT n) := ⟨n, 0, by simp only [STEP_READY_AT, internal]; omega⟩
theorem STEP_READY_AT_wide {a b : List Span} {n : Nat} (h : Inside a ((each STEP_READY_AT) :: b)) :
    Inside (one (STEP_READY_AT n) :: a) ((each STEP_READY_AT) :: b) := Inside.wide (f := fun n => STEP_READY_AT n) STEP_READY_AT_has h
theorem STEP_RUNS_has (n : Nat) : Span.has (each STEP_RUNS) (STEP_RUNS n) := ⟨n, 0, by simp only [STEP_RUNS, internal]; omega⟩
theorem STEP_RUNS_in {W : List Span} {n : Nat} : Covered ((each STEP_RUNS) :: W) (STEP_RUNS n) :=
  ⟨_, List.mem_cons_self, STEP_RUNS_has _⟩
theorem STEP_SEEN_AT_has (n : Nat) : Span.has (each STEP_SEEN_AT) (STEP_SEEN_AT n) := ⟨n, 0, by simp only [STEP_SEEN_AT, internal]; omega⟩
theorem STEP_SEEN_AT_in {W : List Span} {n : Nat} : Covered ((each STEP_SEEN_AT) :: W) (STEP_SEEN_AT n) :=
  ⟨_, List.mem_cons_self, STEP_SEEN_AT_has _⟩
theorem STEP_SNAP_has (n : Nat) : Span.has (each STEP_SNAP) (STEP_SNAP n) := ⟨n, 0, by simp only [STEP_SNAP, internal]; omega⟩
theorem STEP_SNAP_in {W : List Span} {n : Nat} : Covered ((each STEP_SNAP) :: W) (STEP_SNAP n) :=
  ⟨_, List.mem_cons_self, STEP_SNAP_has _⟩
theorem STEP_SNAP_wide {a b : List Span} {n : Nat} (h : Inside a ((each STEP_SNAP) :: b)) :
    Inside (one (STEP_SNAP n) :: a) ((each STEP_SNAP) :: b) := Inside.wide (f := fun n => STEP_SNAP n) STEP_SNAP_has h
theorem STEP_SPENT_has (n : Nat) : Span.has (each STEP_SPENT) (STEP_SPENT n) := ⟨n, 0, by simp only [STEP_SPENT, internal]; omega⟩
theorem STEP_SPENT_in {W : List Span} {n : Nat} : Covered ((each STEP_SPENT) :: W) (STEP_SPENT n) :=
  ⟨_, List.mem_cons_self, STEP_SPENT_has _⟩
theorem STOPPED_STEP_has : Span.has (one STOPPED_STEP) (STOPPED_STEP) := ⟨0, 0, rfl⟩
theorem STOPPED_STEP_in {W : List Span} : Covered ((one STOPPED_STEP) :: W) (STOPPED_STEP) :=
  ⟨_, List.mem_cons_self, STOPPED_STEP_has⟩
theorem STOP_AT_has : Span.has (one STOP_AT) (STOP_AT) := ⟨0, 0, rfl⟩
theorem STOP_AT_in {W : List Span} : Covered ((one STOP_AT) :: W) (STOP_AT) :=
  ⟨_, List.mem_cons_self, STOP_AT_has⟩
theorem STOP_MARK_has : Span.has (one STOP_MARK) (STOP_MARK) := ⟨0, 0, rfl⟩
theorem STOP_MARK_in {W : List Span} : Covered ((one STOP_MARK) :: W) (STOP_MARK) :=
  ⟨_, List.mem_cons_self, STOP_MARK_has⟩
theorem STOP_RUNS_has : Span.has (one STOP_RUNS) (STOP_RUNS) := ⟨0, 0, rfl⟩
theorem STOP_RUNS_in {W : List Span} : Covered ((one STOP_RUNS) :: W) (STOP_RUNS) :=
  ⟨_, List.mem_cons_self, STOP_RUNS_has⟩
theorem STORED_WAIT_has (n : Nat) : Span.has (each STORED_WAIT) (STORED_WAIT n) := ⟨n, 0, by simp only [STORED_WAIT, internal]; omega⟩
theorem STORED_WAIT_in {W : List Span} {n : Nat} : Covered ((each STORED_WAIT) :: W) (STORED_WAIT n) :=
  ⟨_, List.mem_cons_self, STORED_WAIT_has _⟩
theorem STORED_WAIT_wide {a b : List Span} {n : Nat} (h : Inside a ((each STORED_WAIT) :: b)) :
    Inside (one (STORED_WAIT n) :: a) ((each STORED_WAIT) :: b) := Inside.wide (f := fun n => STORED_WAIT n) STORED_WAIT_has h
theorem STORE_AT_has : Span.has (one STORE_AT) (STORE_AT) := ⟨0, 0, rfl⟩
theorem STORE_AT_in {W : List Span} : Covered ((one STORE_AT) :: W) (STORE_AT) :=
  ⟨_, List.mem_cons_self, STORE_AT_has⟩
theorem STORE_BUSY_has : Span.has (one STORE_BUSY) (STORE_BUSY) := ⟨0, 0, rfl⟩
theorem STORE_BUSY_in {W : List Span} : Covered ((one STORE_BUSY) :: W) (STORE_BUSY) :=
  ⟨_, List.mem_cons_self, STORE_BUSY_has⟩
theorem STORE_COPY_has (n : Nat) : Span.has (each STORE_COPY) (STORE_COPY n) := ⟨n, 0, by simp only [STORE_COPY, internal]; omega⟩
theorem STORE_COPY_in {W : List Span} {n : Nat} : Covered ((each STORE_COPY) :: W) (STORE_COPY n) :=
  ⟨_, List.mem_cons_self, STORE_COPY_has _⟩
theorem STORE_ERA_has : Span.has (one STORE_ERA) (STORE_ERA) := ⟨0, 0, rfl⟩
theorem STORE_ERA_in {W : List Span} : Covered ((one STORE_ERA) :: W) (STORE_ERA) :=
  ⟨_, List.mem_cons_self, STORE_ERA_has⟩
theorem STORE_ERASING_has : Span.has (one STORE_ERASING) (STORE_ERASING) := ⟨0, 0, rfl⟩
theorem STORE_ERASING_in {W : List Span} : Covered ((one STORE_ERASING) :: W) (STORE_ERASING) :=
  ⟨_, List.mem_cons_self, STORE_ERASING_has⟩
theorem STORE_HAS_has : Span.has (one STORE_HAS) (STORE_HAS) := ⟨0, 0, rfl⟩
theorem STORE_HAS_in {W : List Span} : Covered ((one STORE_HAS) :: W) (STORE_HAS) :=
  ⟨_, List.mem_cons_self, STORE_HAS_has⟩
theorem STORE_LOCKOUTS_has : Span.has (one STORE_LOCKOUTS) (STORE_LOCKOUTS) := ⟨0, 0, rfl⟩
theorem STORE_LOCKOUTS_in {W : List Span} : Covered ((one STORE_LOCKOUTS) :: W) (STORE_LOCKOUTS) :=
  ⟨_, List.mem_cons_self, STORE_LOCKOUTS_has⟩
theorem STORE_SEQ_has (n : Nat) : Span.has (each STORE_SEQ) (STORE_SEQ n) := ⟨n, 0, by simp only [STORE_SEQ, internal]; omega⟩
theorem STORE_SEQ_in {W : List Span} {n : Nat} : Covered ((each STORE_SEQ) :: W) (STORE_SEQ n) :=
  ⟨_, List.mem_cons_self, STORE_SEQ_has _⟩
theorem STORE_SIDE_has : Span.has (one STORE_SIDE) (STORE_SIDE) := ⟨0, 0, rfl⟩
theorem STORE_SIDE_in {W : List Span} : Covered ((one STORE_SIDE) :: W) (STORE_SIDE) :=
  ⟨_, List.mem_cons_self, STORE_SIDE_has⟩
theorem STORE_STOPS_has : Span.has (one STORE_STOPS) (STORE_STOPS) := ⟨0, 0, rfl⟩
theorem STORE_STOPS_in {W : List Span} : Covered ((one STORE_STOPS) :: W) (STORE_STOPS) :=
  ⟨_, List.mem_cons_self, STORE_STOPS_has⟩
theorem STRAPS.STRAP_UNSTABLE_has : Span.has (one STRAPS.STRAP_UNSTABLE) (STRAPS.STRAP_UNSTABLE) := ⟨0, 0, rfl⟩
theorem STRAPS.STRAP_UNSTABLE_in {W : List Span} : Covered ((one STRAPS.STRAP_UNSTABLE) :: W) (STRAPS.STRAP_UNSTABLE) :=
  ⟨_, List.mem_cons_self, STRAPS.STRAP_UNSTABLE_has⟩
theorem STRAPS.STRAP_VALUE_has : Span.has (one STRAPS.STRAP_VALUE) (STRAPS.STRAP_VALUE) := ⟨0, 0, rfl⟩
theorem STRAPS.STRAP_VALUE_in {W : List Span} : Covered ((one STRAPS.STRAP_VALUE) :: W) (STRAPS.STRAP_VALUE) :=
  ⟨_, List.mem_cons_self, STRAPS.STRAP_VALUE_has⟩
theorem STREAM.STREAM_STATE_has (n : Nat) : Span.has (each STREAM.STREAM_STATE) (STREAM.STREAM_STATE n) := ⟨n, 0, by simp only [STREAM.STREAM_STATE]; omega⟩
theorem STREAM.STREAM_STATE_wide {a b : List Span} {n : Nat} (h : Inside a ((each STREAM.STREAM_STATE) :: b)) :
    Inside (one (STREAM.STREAM_STATE n) :: a) ((each STREAM.STREAM_STATE) :: b) := Inside.wide (f := fun n => STREAM.STREAM_STATE n) STREAM.STREAM_STATE_has h
theorem SUMMARY_has (n m : Nat) : Span.has (each2 SUMMARY) (SUMMARY n m) := ⟨n, m, by simp only [SUMMARY, internal]; omega⟩
theorem SUMMARY_in {W : List Span} {n m : Nat} : Covered ((each2 SUMMARY) :: W) (SUMMARY n m) :=
  ⟨_, List.mem_cons_self, SUMMARY_has _ _⟩
theorem SUM_CNT_has (n m : Nat) : Span.has (each2 SUM_CNT) (SUM_CNT n m) := ⟨n, m, by simp only [SUM_CNT, internal]; omega⟩
theorem SUM_CNT_in {W : List Span} {n m : Nat} : Covered ((each2 SUM_CNT) :: W) (SUM_CNT n m) :=
  ⟨_, List.mem_cons_self, SUM_CNT_has _ _⟩
theorem SUM_CNTV_has (n m : Nat) : Span.has (each2 SUM_CNTV) (SUM_CNTV n m) := ⟨n, m, by simp only [SUM_CNTV, internal]; omega⟩
theorem SUM_CNTV_in {W : List Span} {n m : Nat} : Covered ((each2 SUM_CNTV) :: W) (SUM_CNTV n m) :=
  ⟨_, List.mem_cons_self, SUM_CNTV_has _ _⟩
theorem SUM_I_has (n m : Nat) : Span.has (each2 SUM_I) (SUM_I n m) := ⟨n, m, by simp only [SUM_I, internal]; omega⟩
theorem SUM_I_in {W : List Span} {n m : Nat} : Covered ((each2 SUM_I) :: W) (SUM_I n m) :=
  ⟨_, List.mem_cons_self, SUM_I_has _ _⟩
theorem SUM_SQ_has (n m : Nat) : Span.has (each2 SUM_SQ) (SUM_SQ n m) := ⟨n, m, by simp only [SUM_SQ, internal]; omega⟩
theorem SUM_SQ_in {W : List Span} {n m : Nat} : Covered ((each2 SUM_SQ) :: W) (SUM_SQ n m) :=
  ⟨_, List.mem_cons_self, SUM_SQ_has _ _⟩
theorem SUM_V_has (n m : Nat) : Span.has (each2 SUM_V) (SUM_V n m) := ⟨n, m, by simp only [SUM_V, internal]; omega⟩
theorem SUM_V_in {W : List Span} {n m : Nat} : Covered ((each2 SUM_V) :: W) (SUM_V n m) :=
  ⟨_, List.mem_cons_self, SUM_V_has _ _⟩
theorem SUPPLY_STATUS.HR_LIMIT_EVENTS_has : Span.has (one SUPPLY_STATUS.HR_LIMIT_EVENTS) (SUPPLY_STATUS.HR_LIMIT_EVENTS) := ⟨0, 0, rfl⟩
theorem SUPPLY_STATUS.HR_LIMIT_EVENTS_in {W : List Span} : Covered ((one SUPPLY_STATUS.HR_LIMIT_EVENTS) :: W) (SUPPLY_STATUS.HR_LIMIT_EVENTS) :=
  ⟨_, List.mem_cons_self, SUPPLY_STATUS.HR_LIMIT_EVENTS_has⟩
theorem SUPPLY_STATUS.SUPPLY_FLAGS_has : Span.has (one SUPPLY_STATUS.SUPPLY_FLAGS) (SUPPLY_STATUS.SUPPLY_FLAGS) := ⟨0, 0, rfl⟩
theorem SUPPLY_STATUS.SUPPLY_FLAGS_in {W : List Span} : Covered ((one SUPPLY_STATUS.SUPPLY_FLAGS) :: W) (SUPPLY_STATUS.SUPPLY_FLAGS) :=
  ⟨_, List.mem_cons_self, SUPPLY_STATUS.SUPPLY_FLAGS_has⟩
theorem SUPPLY_STATUS.V18_has : Span.has (one SUPPLY_STATUS.V18) (SUPPLY_STATUS.V18) := ⟨0, 0, rfl⟩
theorem SUPPLY_STATUS.V18_in {W : List Span} : Covered ((one SUPPLY_STATUS.V18) :: W) (SUPPLY_STATUS.V18) :=
  ⟨_, List.mem_cons_self, SUPPLY_STATUS.V18_has⟩
theorem SUPPLY_STATUS.VBAT_has : Span.has (one SUPPLY_STATUS.VBAT) (SUPPLY_STATUS.VBAT) := ⟨0, 0, rfl⟩
theorem SUPPLY_STATUS.VBAT_in {W : List Span} : Covered ((one SUPPLY_STATUS.VBAT) :: W) (SUPPLY_STATUS.VBAT) :=
  ⟨_, List.mem_cons_self, SUPPLY_STATUS.VBAT_has⟩
theorem SUPPLY_STATUS.VBK_has : Span.has (one SUPPLY_STATUS.VBK) (SUPPLY_STATUS.VBK) := ⟨0, 0, rfl⟩
theorem SUPPLY_STATUS.VBK_in {W : List Span} : Covered ((one SUPPLY_STATUS.VBK) :: W) (SUPPLY_STATUS.VBK) :=
  ⟨_, List.mem_cons_self, SUPPLY_STATUS.VBK_has⟩
theorem SUPPLY_STATUS.VCORE_has : Span.has (one SUPPLY_STATUS.VCORE) (SUPPLY_STATUS.VCORE) := ⟨0, 0, rfl⟩
theorem SUPPLY_STATUS.VCORE_in {W : List Span} : Covered ((one SUPPLY_STATUS.VCORE) :: W) (SUPPLY_STATUS.VCORE) :=
  ⟨_, List.mem_cons_self, SUPPLY_STATUS.VCORE_has⟩
theorem SUPPLY_STATUS.VH_has : Span.has (one SUPPLY_STATUS.VH) (SUPPLY_STATUS.VH) := ⟨0, 0, rfl⟩
theorem SUPPLY_STATUS.VH_in {W : List Span} : Covered ((one SUPPLY_STATUS.VH) :: W) (SUPPLY_STATUS.VH) :=
  ⟨_, List.mem_cons_self, SUPPLY_STATUS.VH_has⟩
theorem SUPPLY_STATUS.VIO_has : Span.has (one SUPPLY_STATUS.VIO) (SUPPLY_STATUS.VIO) := ⟨0, 0, rfl⟩
theorem SUPPLY_STATUS.VIO_in {W : List Span} : Covered ((one SUPPLY_STATUS.VIO) :: W) (SUPPLY_STATUS.VIO) :=
  ⟨_, List.mem_cons_self, SUPPLY_STATUS.VIO_has⟩
theorem SWAP_IN_has (n : Nat) : Span.has (each SWAP_IN) (SWAP_IN n) := ⟨n, 0, by simp only [SWAP_IN, internal]; omega⟩
theorem SWAP_IN_in {W : List Span} {n : Nat} : Covered ((each SWAP_IN) :: W) (SWAP_IN n) :=
  ⟨_, List.mem_cons_self, SWAP_IN_has _⟩
theorem SWAP_IN_wide {a b : List Span} {n : Nat} (h : Inside a ((each SWAP_IN) :: b)) :
    Inside (one (SWAP_IN n) :: a) ((each SWAP_IN) :: b) := Inside.wide (f := fun n => SWAP_IN n) SWAP_IN_has h
theorem SWAP_ON_AT_has (n : Nat) : Span.has (each SWAP_ON_AT) (SWAP_ON_AT n) := ⟨n, 0, by simp only [SWAP_ON_AT, internal]; omega⟩
theorem SWAP_ON_AT_in {W : List Span} {n : Nat} : Covered ((each SWAP_ON_AT) :: W) (SWAP_ON_AT n) :=
  ⟨_, List.mem_cons_self, SWAP_ON_AT_has _⟩
theorem SWAP_OVER_has (n : Nat) : Span.has (each SWAP_OVER) (SWAP_OVER n) := ⟨n, 0, by simp only [SWAP_OVER, internal]; omega⟩
theorem SWAP_OVER_in {W : List Span} {n : Nat} : Covered ((each SWAP_OVER) :: W) (SWAP_OVER n) :=
  ⟨_, List.mem_cons_self, SWAP_OVER_has _⟩
theorem SWAP_SIDE_has (n : Nat) : Span.has (each SWAP_SIDE) (SWAP_SIDE n) := ⟨n, 0, by simp only [SWAP_SIDE, internal]; omega⟩
theorem SWAP_SIDE_in {W : List Span} {n : Nat} : Covered ((each SWAP_SIDE) :: W) (SWAP_SIDE n) :=
  ⟨_, List.mem_cons_self, SWAP_SIDE_has _⟩
theorem SW_APPLIED_has (n : Nat) : Span.has (each SW_APPLIED) (SW_APPLIED n) := ⟨n, 0, by simp only [SW_APPLIED, internal]; omega⟩
theorem SW_APPLIED_in {W : List Span} {n : Nat} : Covered ((each SW_APPLIED) :: W) (SW_APPLIED n) :=
  ⟨_, List.mem_cons_self, SW_APPLIED_has _⟩
theorem SW_AT_has : Span.has (one SW_AT) (SW_AT) := ⟨0, 0, rfl⟩
theorem SW_AT_in {W : List Span} : Covered ((one SW_AT) :: W) (SW_AT) :=
  ⟨_, List.mem_cons_self, SW_AT_has⟩
theorem SW_CONN_AT_has : Span.has (one SW_CONN_AT) (SW_CONN_AT) := ⟨0, 0, rfl⟩
theorem SW_CONN_AT_in {W : List Span} : Covered ((one SW_CONN_AT) :: W) (SW_CONN_AT) :=
  ⟨_, List.mem_cons_self, SW_CONN_AT_has⟩
theorem SW_DEVICE_has : Span.has (one SW_DEVICE) (SW_DEVICE) := ⟨0, 0, rfl⟩
theorem SW_DEVICE_in {W : List Span} : Covered ((one SW_DEVICE) :: W) (SW_DEVICE) :=
  ⟨_, List.mem_cons_self, SW_DEVICE_has⟩
theorem SW_DIES_has : Span.has (one SW_DIES) (SW_DIES) := ⟨0, 0, rfl⟩
theorem SW_DIES_in {W : List Span} : Covered ((one SW_DIES) :: W) (SW_DIES) :=
  ⟨_, List.mem_cons_self, SW_DIES_has⟩
theorem SW_DRIFT_has : Span.has (one SW_DRIFT) (SW_DRIFT) := ⟨0, 0, rfl⟩
theorem SW_DRIFT_in {W : List Span} : Covered ((one SW_DRIFT) :: W) (SW_DRIFT) :=
  ⟨_, List.mem_cons_self, SW_DRIFT_has⟩
theorem SW_EXPECT_has (n : Nat) : Span.has (each SW_EXPECT) (SW_EXPECT n) := ⟨n, 0, by simp only [SW_EXPECT, internal]; omega⟩
theorem SW_EXPECT_in {W : List Span} {n : Nat} : Covered ((each SW_EXPECT) :: W) (SW_EXPECT n) :=
  ⟨_, List.mem_cons_self, SW_EXPECT_has _⟩
theorem SW_GEN_has (n : Nat) : Span.has (each SW_GEN) (SW_GEN n) := ⟨n, 0, by simp only [SW_GEN, internal]; omega⟩
theorem SW_GEN_in {W : List Span} {n : Nat} : Covered ((each SW_GEN) :: W) (SW_GEN n) :=
  ⟨_, List.mem_cons_self, SW_GEN_has _⟩
theorem SW_GLOBAL_has : Span.has (one SW_GLOBAL) (SW_GLOBAL) := ⟨0, 0, rfl⟩
theorem SW_GLOBAL_in {W : List Span} : Covered ((one SW_GLOBAL) :: W) (SW_GLOBAL) :=
  ⟨_, List.mem_cons_self, SW_GLOBAL_has⟩
theorem SW_MARK_has : Span.has (one SW_MARK) (SW_MARK) := ⟨0, 0, rfl⟩
theorem SW_MARK_in {W : List Span} : Covered ((one SW_MARK) :: W) (SW_MARK) :=
  ⟨_, List.mem_cons_self, SW_MARK_has⟩
theorem SW_ON_AT_has : Span.has (one SW_ON_AT) (SW_ON_AT) := ⟨0, 0, rfl⟩
theorem SW_ON_AT_in {W : List Span} : Covered ((one SW_ON_AT) :: W) (SW_ON_AT) :=
  ⟨_, List.mem_cons_self, SW_ON_AT_has⟩
theorem SW_RUNS_has : Span.has (one SW_RUNS) (SW_RUNS) := ⟨0, 0, rfl⟩
theorem SW_RUNS_in {W : List Span} : Covered ((one SW_RUNS) :: W) (SW_RUNS) :=
  ⟨_, List.mem_cons_self, SW_RUNS_has⟩
theorem SW_TENANT_has (n : Nat) : Span.has (each SW_TENANT) (SW_TENANT n) := ⟨n, 0, by simp only [SW_TENANT, internal]; omega⟩
theorem SW_TENANT_in {W : List Span} {n : Nat} : Covered ((each SW_TENANT) :: W) (SW_TENANT n) :=
  ⟨_, List.mem_cons_self, SW_TENANT_has _⟩
theorem SW_TOLD_has : Span.has (one SW_TOLD) (SW_TOLD) := ⟨0, 0, rfl⟩
theorem SW_TOLD_in {W : List Span} : Covered ((one SW_TOLD) :: W) (SW_TOLD) :=
  ⟨_, List.mem_cons_self, SW_TOLD_has⟩
theorem SW_TRIPPED_has : Span.has (one SW_TRIPPED) (SW_TRIPPED) := ⟨0, 0, rfl⟩
theorem SW_TRIPPED_in {W : List Span} : Covered ((one SW_TRIPPED) :: W) (SW_TRIPPED) :=
  ⟨_, List.mem_cons_self, SW_TRIPPED_has⟩
theorem SW_UNPOWERED_has : Span.has (one SW_UNPOWERED) (SW_UNPOWERED) := ⟨0, 0, rfl⟩
theorem SW_UNPOWERED_in {W : List Span} : Covered ((one SW_UNPOWERED) :: W) (SW_UNPOWERED) :=
  ⟨_, List.mem_cons_self, SW_UNPOWERED_has⟩
theorem SW_WAIT_AT_has : Span.has (one SW_WAIT_AT) (SW_WAIT_AT) := ⟨0, 0, rfl⟩
theorem SW_WAIT_AT_in {W : List Span} : Covered ((one SW_WAIT_AT) :: W) (SW_WAIT_AT) :=
  ⟨_, List.mem_cons_self, SW_WAIT_AT_has⟩
theorem TARGET.RAISES_has (n : Nat) : Span.has (each TARGET.RAISES) (TARGET.RAISES n) := ⟨n, 0, by simp only [TARGET.RAISES]; omega⟩
theorem TARGET.RAISES_wide {a b : List Span} {n : Nat} (h : Inside a ((each TARGET.RAISES) :: b)) :
    Inside (one (TARGET.RAISES n) :: a) ((each TARGET.RAISES) :: b) := Inside.wide (f := fun n => TARGET.RAISES n) TARGET.RAISES_has h
theorem TARGET.TARGET_STATE_has (n : Nat) : Span.has (each TARGET.TARGET_STATE) (TARGET.TARGET_STATE n) := ⟨n, 0, by simp only [TARGET.TARGET_STATE]; omega⟩
theorem TARGET.TARGET_STATE_in {W : List Span} {n : Nat} : Covered ((each TARGET.TARGET_STATE) :: W) (TARGET.TARGET_STATE n) :=
  ⟨_, List.mem_cons_self, TARGET.TARGET_STATE_has _⟩
theorem TARGET.TARGET_STATE_wide {a b : List Span} {n : Nat} (h : Inside a ((each TARGET.TARGET_STATE) :: b)) :
    Inside (one (TARGET.TARGET_STATE n) :: a) ((each TARGET.TARGET_STATE) :: b) := Inside.wide (f := fun n => TARGET.TARGET_STATE n) TARGET.TARGET_STATE_has h
theorem TENANT.TRUMP_HELD_has (n m : Nat) : Span.has (each2 TENANT.TRUMP_HELD) (TENANT.TRUMP_HELD n m) := ⟨n, m, by simp only [TENANT.TRUMP_HELD]; omega⟩
theorem TENANT.TRUMP_HELD_in {W : List Span} {n m : Nat} : Covered ((each2 TENANT.TRUMP_HELD) :: W) (TENANT.TRUMP_HELD n m) :=
  ⟨_, List.mem_cons_self, TENANT.TRUMP_HELD_has _ _⟩
theorem TENANT_DIGEST.DIGEST_TN_has (n : Nat) : Span.has (each TENANT_DIGEST.DIGEST_TN) (TENANT_DIGEST.DIGEST_TN n) := ⟨n, 0, by simp only [TENANT_DIGEST.DIGEST_TN]; omega⟩
theorem TENANT_DIGEST.DIGEST_TN_in {W : List Span} {n : Nat} : Covered ((each TENANT_DIGEST.DIGEST_TN) :: W) (TENANT_DIGEST.DIGEST_TN n) :=
  ⟨_, List.mem_cons_self, TENANT_DIGEST.DIGEST_TN_has _⟩
theorem TENANT_GENERATION.SNAP_GEN_TN_has (n : Nat) : Span.has (each TENANT_GENERATION.SNAP_GEN_TN) (TENANT_GENERATION.SNAP_GEN_TN n) := ⟨n, 0, by simp only [TENANT_GENERATION.SNAP_GEN_TN]; omega⟩
theorem TENANT_GENERATION.SNAP_GEN_TN_in {W : List Span} {n : Nat} : Covered ((each TENANT_GENERATION.SNAP_GEN_TN) :: W) (TENANT_GENERATION.SNAP_GEN_TN n) :=
  ⟨_, List.mem_cons_self, TENANT_GENERATION.SNAP_GEN_TN_has _⟩
theorem TG_BEGAN_has (n : Nat) : Span.has (each TG_BEGAN) (TG_BEGAN n) := ⟨n, 0, by simp only [TG_BEGAN, internal]; omega⟩
theorem TG_BEGAN_wide {a b : List Span} {n : Nat} (h : Inside a ((each TG_BEGAN) :: b)) :
    Inside (one (TG_BEGAN n) :: a) ((each TG_BEGAN) :: b) := Inside.wide (f := fun n => TG_BEGAN n) TG_BEGAN_has h
theorem TG_COUNT_has (n : Nat) : Span.has (each TG_COUNT) (TG_COUNT n) := ⟨n, 0, by simp only [TG_COUNT, internal]; omega⟩
theorem TG_COUNT_wide {a b : List Span} {n : Nat} (h : Inside a ((each TG_COUNT) :: b)) :
    Inside (one (TG_COUNT n) :: a) ((each TG_COUNT) :: b) := Inside.wide (f := fun n => TG_COUNT n) TG_COUNT_has h
theorem TG_LOW_has (n : Nat) : Span.has (each TG_LOW) (TG_LOW n) := ⟨n, 0, by simp only [TG_LOW, internal]; omega⟩
theorem TG_LOW_in {W : List Span} {n : Nat} : Covered ((each TG_LOW) :: W) (TG_LOW n) :=
  ⟨_, List.mem_cons_self, TG_LOW_has _⟩
theorem TG_LOW_wide {a b : List Span} {n : Nat} (h : Inside a ((each TG_LOW) :: b)) :
    Inside (one (TG_LOW n) :: a) ((each TG_LOW) :: b) := Inside.wide (f := fun n => TG_LOW n) TG_LOW_has h
theorem THERMAL.GLOBAL_MAX_has : Span.has (one THERMAL.GLOBAL_MAX) (THERMAL.GLOBAL_MAX) := ⟨0, 0, rfl⟩
theorem THERMAL.GLOBAL_MAX_in {W : List Span} : Covered ((one THERMAL.GLOBAL_MAX) :: W) (THERMAL.GLOBAL_MAX) :=
  ⟨_, List.mem_cons_self, THERMAL.GLOBAL_MAX_has⟩
theorem THERMAL.GLOBAL_MAX_SENSOR_has : Span.has (one THERMAL.GLOBAL_MAX_SENSOR) (THERMAL.GLOBAL_MAX_SENSOR) := ⟨0, 0, rfl⟩
theorem THERMAL.GLOBAL_MAX_SENSOR_in {W : List Span} : Covered ((one THERMAL.GLOBAL_MAX_SENSOR) :: W) (THERMAL.GLOBAL_MAX_SENSOR) :=
  ⟨_, List.mem_cons_self, THERMAL.GLOBAL_MAX_SENSOR_has⟩
theorem THERMAL.THERMAL_FLAGS_has : Span.has (one THERMAL.THERMAL_FLAGS) (THERMAL.THERMAL_FLAGS) := ⟨0, 0, rfl⟩
theorem THERMAL.THERMAL_FLAGS_in {W : List Span} : Covered ((one THERMAL.THERMAL_FLAGS) :: W) (THERMAL.THERMAL_FLAGS) :=
  ⟨_, List.mem_cons_self, THERMAL.THERMAL_FLAGS_has⟩
theorem THERMAL_DIE.DIE_MAX_has (n : Nat) : Span.has (each THERMAL_DIE.DIE_MAX) (THERMAL_DIE.DIE_MAX n) := ⟨n, 0, by simp only [THERMAL_DIE.DIE_MAX]; omega⟩
theorem THERMAL_DIE.DIE_MAX_in {W : List Span} {n : Nat} : Covered ((each THERMAL_DIE.DIE_MAX) :: W) (THERMAL_DIE.DIE_MAX n) :=
  ⟨_, List.mem_cons_self, THERMAL_DIE.DIE_MAX_has _⟩
theorem THERMAL_DIE.DIE_MIN_has (n : Nat) : Span.has (each THERMAL_DIE.DIE_MIN) (THERMAL_DIE.DIE_MIN n) := ⟨n, 0, by simp only [THERMAL_DIE.DIE_MIN]; omega⟩
theorem THERMAL_DIE.DIE_MIN_in {W : List Span} {n : Nat} : Covered ((each THERMAL_DIE.DIE_MIN) :: W) (THERMAL_DIE.DIE_MIN n) :=
  ⟨_, List.mem_cons_self, THERMAL_DIE.DIE_MIN_has _⟩
theorem THERMAL_DIE.DIE_STATE_has (n : Nat) : Span.has (each THERMAL_DIE.DIE_STATE) (THERMAL_DIE.DIE_STATE n) := ⟨n, 0, by simp only [THERMAL_DIE.DIE_STATE]; omega⟩
theorem THERMAL_DIE.DIE_STATE_wide {a b : List Span} {n : Nat} (h : Inside a ((each THERMAL_DIE.DIE_STATE) :: b)) :
    Inside (one (THERMAL_DIE.DIE_STATE n) :: a) ((each THERMAL_DIE.DIE_STATE) :: b) := Inside.wide (f := fun n => THERMAL_DIE.DIE_STATE n) THERMAL_DIE.DIE_STATE_has h
theorem THERMAL_DIE.FAILED_SENSORS_has (n : Nat) : Span.has (each THERMAL_DIE.FAILED_SENSORS) (THERMAL_DIE.FAILED_SENSORS n) := ⟨n, 0, by simp only [THERMAL_DIE.FAILED_SENSORS]; omega⟩
theorem THERMAL_DIE.FAILED_SENSORS_in {W : List Span} {n : Nat} : Covered ((each THERMAL_DIE.FAILED_SENSORS) :: W) (THERMAL_DIE.FAILED_SENSORS n) :=
  ⟨_, List.mem_cons_self, THERMAL_DIE.FAILED_SENSORS_has _⟩
theorem THERMAL_DIE.FAST_SAMPLING_has (n : Nat) : Span.has (each THERMAL_DIE.FAST_SAMPLING) (THERMAL_DIE.FAST_SAMPLING n) := ⟨n, 0, by simp only [THERMAL_DIE.FAST_SAMPLING]; omega⟩
theorem THERMAL_DIE.FAST_SAMPLING_in {W : List Span} {n : Nat} : Covered ((each THERMAL_DIE.FAST_SAMPLING) :: W) (THERMAL_DIE.FAST_SAMPLING n) :=
  ⟨_, List.mem_cons_self, THERMAL_DIE.FAST_SAMPLING_has _⟩
theorem THERMAL_DIE.PEAK_SINCE_OPENING_has (n : Nat) : Span.has (each THERMAL_DIE.PEAK_SINCE_OPENING) (THERMAL_DIE.PEAK_SINCE_OPENING n) := ⟨n, 0, by simp only [THERMAL_DIE.PEAK_SINCE_OPENING]; omega⟩
theorem THERMAL_DIE.PEAK_SINCE_OPENING_in {W : List Span} {n : Nat} : Covered ((each THERMAL_DIE.PEAK_SINCE_OPENING) :: W) (THERMAL_DIE.PEAK_SINCE_OPENING n) :=
  ⟨_, List.mem_cons_self, THERMAL_DIE.PEAK_SINCE_OPENING_has _⟩
theorem THERMAL_DIE.SENSOR_has (n m : Nat) : Span.has (each2 THERMAL_DIE.SENSOR) (THERMAL_DIE.SENSOR n m) :=
  ⟨n, m, by simp only [THERMAL_DIE.SENSOR]; omega⟩
theorem THERMAL_DIE.SENSOR_in {W : List Span} {n m : Nat} : Covered ((each2 THERMAL_DIE.SENSOR) :: W) (THERMAL_DIE.SENSOR n m) :=
  ⟨_, List.mem_cons_self, THERMAL_DIE.SENSOR_has _ _⟩
theorem THERMAL_DIE.SHUTDOWNS_has (n : Nat) : Span.has (each THERMAL_DIE.SHUTDOWNS) (THERMAL_DIE.SHUTDOWNS n) := ⟨n, 0, by simp only [THERMAL_DIE.SHUTDOWNS]; omega⟩
theorem THERMAL_DIE.SHUTDOWNS_in {W : List Span} {n : Nat} : Covered ((each THERMAL_DIE.SHUTDOWNS) :: W) (THERMAL_DIE.SHUTDOWNS n) :=
  ⟨_, List.mem_cons_self, THERMAL_DIE.SHUTDOWNS_has _⟩
theorem THERMAL_DIE.SHUTDOWNS_wide {a b : List Span} {n : Nat} (h : Inside a ((each THERMAL_DIE.SHUTDOWNS) :: b)) :
    Inside (one (THERMAL_DIE.SHUTDOWNS n) :: a) ((each THERMAL_DIE.SHUTDOWNS) :: b) := Inside.wide (f := fun n => THERMAL_DIE.SHUTDOWNS n) THERMAL_DIE.SHUTDOWNS_has h
theorem THR_SINCE_has (n : Nat) : Span.has (each THR_SINCE) (THR_SINCE n) := ⟨n, 0, by simp only [THR_SINCE, internal]; omega⟩
theorem THR_SINCE_in {W : List Span} {n : Nat} : Covered ((each THR_SINCE) :: W) (THR_SINCE n) :=
  ⟨_, List.mem_cons_self, THR_SINCE_has _⟩
theorem THR_SINCE_wide {a b : List Span} {n : Nat} (h : Inside a ((each THR_SINCE) :: b)) :
    Inside (one (THR_SINCE n) :: a) ((each THR_SINCE) :: b) := Inside.wide (f := fun n => THR_SINCE n) THR_SINCE_has h
theorem THR_SPENT_has (n : Nat) : Span.has (each THR_SPENT) (THR_SPENT n) := ⟨n, 0, by simp only [THR_SPENT, internal]; omega⟩
theorem THR_SPENT_in {W : List Span} {n : Nat} : Covered ((each THR_SPENT) :: W) (THR_SPENT n) :=
  ⟨_, List.mem_cons_self, THR_SPENT_has _⟩
theorem THR_SPENT_wide {a b : List Span} {n : Nat} (h : Inside a ((each THR_SPENT) :: b)) :
    Inside (one (THR_SPENT n) :: a) ((each THR_SPENT) :: b) := Inside.wide (f := fun n => THR_SPENT n) THR_SPENT_has h
theorem THR_STEP_AT_has : Span.has (one THR_STEP_AT) (THR_STEP_AT) := ⟨0, 0, rfl⟩
theorem THR_STEP_AT_in {W : List Span} : Covered ((one THR_STEP_AT) :: W) (THR_STEP_AT) :=
  ⟨_, List.mem_cons_self, THR_STEP_AT_has⟩
theorem TICK_OFFSET_has : Span.has (one TICK_OFFSET) (TICK_OFFSET) := ⟨0, 0, rfl⟩
theorem TICK_OFFSET_in {W : List Span} : Covered ((one TICK_OFFSET) :: W) (TICK_OFFSET) :=
  ⟨_, List.mem_cons_self, TICK_OFFSET_has⟩
theorem TRIP_FRAME_has (n : Nat) : Span.has (each TRIP_FRAME) (TRIP_FRAME n) := ⟨n, 0, by simp only [TRIP_FRAME, internal]; omega⟩
theorem TRIP_FRAME_wide {a b : List Span} {n : Nat} (h : Inside a ((each TRIP_FRAME) :: b)) :
    Inside (one (TRIP_FRAME n) :: a) ((each TRIP_FRAME) :: b) := Inside.wide (f := fun n => TRIP_FRAME n) TRIP_FRAME_has h
theorem TRIP_STATE_has (n : Nat) : Span.has (each TRIP_STATE) (TRIP_STATE n) := ⟨n, 0, by simp only [TRIP_STATE, internal]; omega⟩
theorem TRIP_STATE_wide {a b : List Span} {n : Nat} (h : Inside a ((each TRIP_STATE) :: b)) :
    Inside (one (TRIP_STATE n) :: a) ((each TRIP_STATE) :: b) := Inside.wide (f := fun n => TRIP_STATE n) TRIP_STATE_has h
theorem TRUNC_LONGEST_has (n : Nat) : Span.has (each TRUNC_LONGEST) (TRUNC_LONGEST n) := ⟨n, 0, by simp only [TRUNC_LONGEST, internal]; omega⟩
theorem TRUNC_LONGEST_wide {a b : List Span} {n : Nat} (h : Inside a ((each TRUNC_LONGEST) :: b)) :
    Inside (one (TRUNC_LONGEST n) :: a) ((each TRUNC_LONGEST) :: b) := Inside.wide (f := fun n => TRUNC_LONGEST n) TRUNC_LONGEST_has h
theorem TRUNC_SINCE_has (n : Nat) : Span.has (each TRUNC_SINCE) (TRUNC_SINCE n) := ⟨n, 0, by simp only [TRUNC_SINCE, internal]; omega⟩
theorem TRUNC_SINCE_wide {a b : List Span} {n : Nat} (h : Inside a ((each TRUNC_SINCE) :: b)) :
    Inside (one (TRUNC_SINCE n) :: a) ((each TRUNC_SINCE) :: b) := Inside.wide (f := fun n => TRUNC_SINCE n) TRUNC_SINCE_has h
theorem TRUNC_TOLD_AT_has (n : Nat) : Span.has (each TRUNC_TOLD_AT) (TRUNC_TOLD_AT n) := ⟨n, 0, by simp only [TRUNC_TOLD_AT, internal]; omega⟩
theorem TRUNC_TOLD_AT_wide {a b : List Span} {n : Nat} (h : Inside a ((each TRUNC_TOLD_AT) :: b)) :
    Inside (one (TRUNC_TOLD_AT n) :: a) ((each TRUNC_TOLD_AT) :: b) := Inside.wide (f := fun n => TRUNC_TOLD_AT n) TRUNC_TOLD_AT_has h
theorem TWO_WIRE_STATUS.ARB_LOSSES_has : Span.has (one TWO_WIRE_STATUS.ARB_LOSSES) (TWO_WIRE_STATUS.ARB_LOSSES) := ⟨0, 0, rfl⟩
theorem TWO_WIRE_STATUS.ARB_LOSSES_in {W : List Span} : Covered ((one TWO_WIRE_STATUS.ARB_LOSSES) :: W) (TWO_WIRE_STATUS.ARB_LOSSES) :=
  ⟨_, List.mem_cons_self, TWO_WIRE_STATUS.ARB_LOSSES_has⟩
theorem TWO_WIRE_STATUS.BROKEN_FRAMES_has : Span.has (one TWO_WIRE_STATUS.BROKEN_FRAMES) (TWO_WIRE_STATUS.BROKEN_FRAMES) := ⟨0, 0, rfl⟩
theorem TWO_WIRE_STATUS.BROKEN_FRAMES_in {W : List Span} : Covered ((one TWO_WIRE_STATUS.BROKEN_FRAMES) :: W) (TWO_WIRE_STATUS.BROKEN_FRAMES) :=
  ⟨_, List.mem_cons_self, TWO_WIRE_STATUS.BROKEN_FRAMES_has⟩
theorem TWO_WIRE_STATUS.BUSY_ANSWERS_has : Span.has (one TWO_WIRE_STATUS.BUSY_ANSWERS) (TWO_WIRE_STATUS.BUSY_ANSWERS) := ⟨0, 0, rfl⟩
theorem TWO_WIRE_STATUS.BUSY_ANSWERS_in {W : List Span} : Covered ((one TWO_WIRE_STATUS.BUSY_ANSWERS) :: W) (TWO_WIRE_STATUS.BUSY_ANSWERS) :=
  ⟨_, List.mem_cons_self, TWO_WIRE_STATUS.BUSY_ANSWERS_has⟩
theorem TWO_WIRE_STATUS.BUS_FLAGS_has : Span.has (one TWO_WIRE_STATUS.BUS_FLAGS) (TWO_WIRE_STATUS.BUS_FLAGS) := ⟨0, 0, rfl⟩
theorem TWO_WIRE_STATUS.BUS_FLAGS_in {W : List Span} : Covered ((one TWO_WIRE_STATUS.BUS_FLAGS) :: W) (TWO_WIRE_STATUS.BUS_FLAGS) :=
  ⟨_, List.mem_cons_self, TWO_WIRE_STATUS.BUS_FLAGS_has⟩
theorem TWO_WIRE_STATUS.BUS_STATE_has : Span.has (one TWO_WIRE_STATUS.BUS_STATE) (TWO_WIRE_STATUS.BUS_STATE) := ⟨0, 0, rfl⟩
theorem TWO_WIRE_STATUS.BUS_STATE_in {W : List Span} : Covered ((one TWO_WIRE_STATUS.BUS_STATE) :: W) (TWO_WIRE_STATUS.BUS_STATE) :=
  ⟨_, List.mem_cons_self, TWO_WIRE_STATUS.BUS_STATE_has⟩
theorem TWO_WIRE_STATUS.CLOCK_LOW_EVENTS_has : Span.has (one TWO_WIRE_STATUS.CLOCK_LOW_EVENTS) (TWO_WIRE_STATUS.CLOCK_LOW_EVENTS) := ⟨0, 0, rfl⟩
theorem TWO_WIRE_STATUS.CLOCK_LOW_EVENTS_in {W : List Span} : Covered ((one TWO_WIRE_STATUS.CLOCK_LOW_EVENTS) :: W) (TWO_WIRE_STATUS.CLOCK_LOW_EVENTS) :=
  ⟨_, List.mem_cons_self, TWO_WIRE_STATUS.CLOCK_LOW_EVENTS_has⟩
theorem TWO_WIRE_STATUS.CRC_ERRORS_has : Span.has (one TWO_WIRE_STATUS.CRC_ERRORS) (TWO_WIRE_STATUS.CRC_ERRORS) := ⟨0, 0, rfl⟩
theorem TWO_WIRE_STATUS.CRC_ERRORS_in {W : List Span} : Covered ((one TWO_WIRE_STATUS.CRC_ERRORS) :: W) (TWO_WIRE_STATUS.CRC_ERRORS) :=
  ⟨_, List.mem_cons_self, TWO_WIRE_STATUS.CRC_ERRORS_has⟩
theorem TWO_WIRE_STATUS.DATA_LOW_EVENTS_has : Span.has (one TWO_WIRE_STATUS.DATA_LOW_EVENTS) (TWO_WIRE_STATUS.DATA_LOW_EVENTS) := ⟨0, 0, rfl⟩
theorem TWO_WIRE_STATUS.DATA_LOW_EVENTS_in {W : List Span} : Covered ((one TWO_WIRE_STATUS.DATA_LOW_EVENTS) :: W) (TWO_WIRE_STATUS.DATA_LOW_EVENTS) :=
  ⟨_, List.mem_cons_self, TWO_WIRE_STATUS.DATA_LOW_EVENTS_has⟩
theorem TWO_WIRE_STATUS.LAST_ATTENTION_has : Span.has (one TWO_WIRE_STATUS.LAST_ATTENTION) (TWO_WIRE_STATUS.LAST_ATTENTION) := ⟨0, 0, rfl⟩
theorem TWO_WIRE_STATUS.LAST_ATTENTION_in {W : List Span} : Covered ((one TWO_WIRE_STATUS.LAST_ATTENTION) :: W) (TWO_WIRE_STATUS.LAST_ATTENTION) :=
  ⟨_, List.mem_cons_self, TWO_WIRE_STATUS.LAST_ATTENTION_has⟩
theorem TWO_WIRE_STATUS.REQUESTS_has : Span.has (one TWO_WIRE_STATUS.REQUESTS) (TWO_WIRE_STATUS.REQUESTS) := ⟨0, 0, rfl⟩
theorem TWO_WIRE_STATUS.REQUESTS_in {W : List Span} : Covered ((one TWO_WIRE_STATUS.REQUESTS) :: W) (TWO_WIRE_STATUS.REQUESTS) :=
  ⟨_, List.mem_cons_self, TWO_WIRE_STATUS.REQUESTS_has⟩
theorem TW_ADDR_has : Span.has (one TW_ADDR) (TW_ADDR) := ⟨0, 0, rfl⟩
theorem TW_ADDR_in {W : List Span} : Covered ((one TW_ADDR) :: W) (TW_ADDR) :=
  ⟨_, List.mem_cons_self, TW_ADDR_has⟩
theorem TW_ATTENTION_has : Span.has (one TW_ATTENTION) (TW_ATTENTION) := ⟨0, 0, rfl⟩
theorem TW_ATTENTION_in {W : List Span} : Covered ((one TW_ATTENTION) :: W) (TW_ATTENTION) :=
  ⟨_, List.mem_cons_self, TW_ATTENTION_has⟩
theorem TW_DATA_has : Span.has (one TW_DATA) (TW_DATA) := ⟨0, 0, rfl⟩
theorem TW_DATA_in {W : List Span} : Covered ((one TW_DATA) :: W) (TW_DATA) :=
  ⟨_, List.mem_cons_self, TW_DATA_has⟩
theorem TW_FREE_FROM_has : Span.has (one TW_FREE_FROM) (TW_FREE_FROM) := ⟨0, 0, rfl⟩
theorem TW_FREE_FROM_in {W : List Span} : Covered ((one TW_FREE_FROM) :: W) (TW_FREE_FROM) :=
  ⟨_, List.mem_cons_self, TW_FREE_FROM_has⟩
theorem TW_LEFT_has : Span.has (one TW_LEFT) (TW_LEFT) := ⟨0, 0, rfl⟩
theorem TW_LEFT_in {W : List Span} : Covered ((one TW_LEFT) :: W) (TW_LEFT) :=
  ⟨_, List.mem_cons_self, TW_LEFT_has⟩
theorem TW_READ_has : Span.has (one TW_READ) (TW_READ) := ⟨0, 0, rfl⟩
theorem TW_READ_in {W : List Span} : Covered ((one TW_READ) :: W) (TW_READ) :=
  ⟨_, List.mem_cons_self, TW_READ_has⟩
theorem USDO_AT_has (n : Nat) : Span.has (each USDO_AT) (USDO_AT n) := ⟨n, 0, by simp only [USDO_AT, internal]; omega⟩
theorem USDO_AT_wide {a b : List Span} {n : Nat} (h : Inside a ((each USDO_AT) :: b)) :
    Inside (one (USDO_AT n) :: a) ((each USDO_AT) :: b) := Inside.wide (f := fun n => USDO_AT n) USDO_AT_has h
theorem USDO_DATA_has (n : Nat) : Span.has (each USDO_DATA) (USDO_DATA n) := ⟨n, 0, by simp only [USDO_DATA, internal]; omega⟩
theorem USDO_DATA_wide {a b : List Span} {n : Nat} (h : Inside a ((each USDO_DATA) :: b)) :
    Inside (one (USDO_DATA n) :: a) ((each USDO_DATA) :: b) := Inside.wide (f := fun n => USDO_DATA n) USDO_DATA_has h
theorem USDO_OPEN_has (n : Nat) : Span.has (each USDO_OPEN) (USDO_OPEN n) := ⟨n, 0, by simp only [USDO_OPEN, internal]; omega⟩
theorem USDO_OPEN_wide {a b : List Span} {n : Nat} (h : Inside a ((each USDO_OPEN) :: b)) :
    Inside (one (USDO_OPEN n) :: a) ((each USDO_OPEN) :: b) := Inside.wide (f := fun n => USDO_OPEN n) USDO_OPEN_has h
theorem USDO_WRITES_has (n : Nat) : Span.has (each USDO_WRITES) (USDO_WRITES n) := ⟨n, 0, by simp only [USDO_WRITES, internal]; omega⟩
theorem USDO_WRITES_wide {a b : List Span} {n : Nat} (h : Inside a ((each USDO_WRITES) :: b)) :
    Inside (one (USDO_WRITES n) :: a) ((each USDO_WRITES) :: b) := Inside.wide (f := fun n => USDO_WRITES n) USDO_WRITES_has h
theorem V18_LOW_has : Span.has (one V18_LOW) (V18_LOW) := ⟨0, 0, rfl⟩
theorem V18_LOW_in {W : List Span} : Covered ((one V18_LOW) :: W) (V18_LOW) :=
  ⟨_, List.mem_cons_self, V18_LOW_has⟩
theorem VBAT_GONE_AT_has : Span.has (one VBAT_GONE_AT) (VBAT_GONE_AT) := ⟨0, 0, rfl⟩
theorem VBAT_GONE_AT_in {W : List Span} : Covered ((one VBAT_GONE_AT) :: W) (VBAT_GONE_AT) :=
  ⟨_, List.mem_cons_self, VBAT_GONE_AT_has⟩
theorem VBAT_OUT_has : Span.has (one VBAT_OUT) (VBAT_OUT) := ⟨0, 0, rfl⟩
theorem VBAT_OUT_in {W : List Span} : Covered ((one VBAT_OUT) :: W) (VBAT_OUT) :=
  ⟨_, List.mem_cons_self, VBAT_OUT_has⟩
theorem VBAT_ROSE_AT_has : Span.has (one VBAT_ROSE_AT) (VBAT_ROSE_AT) := ⟨0, 0, rfl⟩
theorem VBAT_ROSE_AT_in {W : List Span} : Covered ((one VBAT_ROSE_AT) :: W) (VBAT_ROSE_AT) :=
  ⟨_, List.mem_cons_self, VBAT_ROSE_AT_has⟩
theorem VBK_LAST_has : Span.has (one VBK_LAST) (VBK_LAST) := ⟨0, 0, rfl⟩
theorem VBK_LAST_in {W : List Span} : Covered ((one VBK_LAST) :: W) (VBK_LAST) :=
  ⟨_, List.mem_cons_self, VBK_LAST_has⟩
theorem VBUS_CNT_has (n m : Nat) : Span.has (each2 VBUS_CNT) (VBUS_CNT n m) := ⟨n, m, by simp only [VBUS_CNT, internal]; omega⟩
theorem VBUS_CNT_in {W : List Span} {n m : Nat} : Covered ((each2 VBUS_CNT) :: W) (VBUS_CNT n m) :=
  ⟨_, List.mem_cons_self, VBUS_CNT_has _ _⟩
theorem VBUS_SUM_has (n m : Nat) : Span.has (each2 VBUS_SUM) (VBUS_SUM n m) := ⟨n, m, by simp only [VBUS_SUM, internal]; omega⟩
theorem VBUS_SUM_in {W : List Span} {n m : Nat} : Covered ((each2 VBUS_SUM) :: W) (VBUS_SUM n m) :=
  ⟨_, List.mem_cons_self, VBUS_SUM_has _ _⟩
theorem WAIT_END_has (n : Nat) : Span.has (each WAIT_END) (WAIT_END n) := ⟨n, 0, by simp only [WAIT_END, internal]; omega⟩
theorem WAIT_END_wide {a b : List Span} {n : Nat} (h : Inside a ((each WAIT_END) :: b)) :
    Inside (one (WAIT_END n) :: a) ((each WAIT_END) :: b) := Inside.wide (f := fun n => WAIT_END n) WAIT_END_has h
theorem WAKE_CONFIG.WAKE_LATCHED_has : Span.has (one WAKE_CONFIG.WAKE_LATCHED) (WAKE_CONFIG.WAKE_LATCHED) := ⟨0, 0, rfl⟩
theorem WAKE_CONFIG.WAKE_LATCHED_in {W : List Span} : Covered ((one WAKE_CONFIG.WAKE_LATCHED) :: W) (WAKE_CONFIG.WAKE_LATCHED) :=
  ⟨_, List.mem_cons_self, WAKE_CONFIG.WAKE_LATCHED_has⟩
theorem WAKE_CONFIG.WAKE_LEVEL_has : Span.has (one WAKE_CONFIG.WAKE_LEVEL) (WAKE_CONFIG.WAKE_LEVEL) := ⟨0, 0, rfl⟩
theorem WAKE_CONFIG.WAKE_LEVEL_in {W : List Span} : Covered ((one WAKE_CONFIG.WAKE_LEVEL) :: W) (WAKE_CONFIG.WAKE_LEVEL) :=
  ⟨_, List.mem_cons_self, WAKE_CONFIG.WAKE_LEVEL_has⟩
theorem WAKE_PENDING_has : Span.has (one WAKE_PENDING) (WAKE_PENDING) := ⟨0, 0, rfl⟩
theorem WAKE_PENDING_in {W : List Span} : Covered ((one WAKE_PENDING) :: W) (WAKE_PENDING) :=
  ⟨_, List.mem_cons_self, WAKE_PENDING_has⟩
theorem WATCHDOG.EXPIRY_COUNT_has (n : Nat) : Span.has (each WATCHDOG.EXPIRY_COUNT) (WATCHDOG.EXPIRY_COUNT n) := ⟨n, 0, by simp only [WATCHDOG.EXPIRY_COUNT]; omega⟩
theorem WATCHDOG.EXPIRY_COUNT_in {W : List Span} {n : Nat} : Covered ((each WATCHDOG.EXPIRY_COUNT) :: W) (WATCHDOG.EXPIRY_COUNT n) :=
  ⟨_, List.mem_cons_self, WATCHDOG.EXPIRY_COUNT_has _⟩
theorem WDX_GAIN_has : Span.has (one WDX_GAIN) (WDX_GAIN) := ⟨0, 0, rfl⟩
theorem WDX_GAIN_in {W : List Span} : Covered ((one WDX_GAIN) :: W) (WDX_GAIN) :=
  ⟨_, List.mem_cons_self, WDX_GAIN_has⟩
theorem WDX_SERVED_has : Span.has (one WDX_SERVED) (WDX_SERVED) := ⟨0, 0, rfl⟩
theorem WDX_SERVED_in {W : List Span} : Covered ((one WDX_SERVED) :: W) (WDX_SERVED) :=
  ⟨_, List.mem_cons_self, WDX_SERVED_has⟩
theorem WDX_STORED_has : Span.has (one WDX_STORED) (WDX_STORED) := ⟨0, 0, rfl⟩
theorem WDX_STORED_in {W : List Span} : Covered ((one WDX_STORED) :: W) (WDX_STORED) :=
  ⟨_, List.mem_cons_self, WDX_STORED_has⟩
theorem WD_GAIN_has (n : Nat) : Span.has (each WD_GAIN) (WD_GAIN n) := ⟨n, 0, by simp only [WD_GAIN, internal]; omega⟩
theorem WD_GAIN_in {W : List Span} {n : Nat} : Covered ((each WD_GAIN) :: W) (WD_GAIN n) :=
  ⟨_, List.mem_cons_self, WD_GAIN_has _⟩
theorem WD_STORED_has (n : Nat) : Span.has (each WD_STORED) (WD_STORED n) := ⟨n, 0, by simp only [WD_STORED, internal]; omega⟩
theorem WD_STORED_in {W : List Span} {n : Nat} : Covered ((each WD_STORED) :: W) (WD_STORED n) :=
  ⟨_, List.mem_cons_self, WD_STORED_has _⟩
theorem WIN_has (n : Nat) : Span.has (each WIN) (WIN n) := ⟨n, 0, by simp only [WIN, internal]; omega⟩
theorem WIN_wide {a b : List Span} {n : Nat} (h : Inside a ((each WIN) :: b)) :
    Inside (one (WIN n) :: a) ((each WIN) :: b) := Inside.wide (f := fun n => WIN n) WIN_has h
theorem WIN_ACC_has (n m : Nat) : Span.has (each2 WIN_ACC) (WIN_ACC n m) := ⟨n, m, by simp only [WIN_ACC, internal]; omega⟩
theorem WIN_ACC_in {W : List Span} {n m : Nat} : Covered ((each2 WIN_ACC) :: W) (WIN_ACC n m) :=
  ⟨_, List.mem_cons_self, WIN_ACC_has _ _⟩
theorem WIN_ACC_wide {a b : List Span} {n m : Nat} (h : Inside a ((each2 WIN_ACC) :: b)) :
    Inside (one (WIN_ACC n m) :: a) ((each2 WIN_ACC) :: b) := Inside.wide2 (f := fun n m => WIN_ACC n m) WIN_ACC_has h
theorem WIN_COUNT_has (n m : Nat) : Span.has (each2 WIN_COUNT) (WIN_COUNT n m) := ⟨n, m, by simp only [WIN_COUNT, internal]; omega⟩
theorem WIN_COUNT_in {W : List Span} {n m : Nat} : Covered ((each2 WIN_COUNT) :: W) (WIN_COUNT n m) :=
  ⟨_, List.mem_cons_self, WIN_COUNT_has _ _⟩
theorem WIN_COUNT_wide {a b : List Span} {n m : Nat} (h : Inside a ((each2 WIN_COUNT) :: b)) :
    Inside (one (WIN_COUNT n m) :: a) ((each2 WIN_COUNT) :: b) := Inside.wide2 (f := fun n m => WIN_COUNT n m) WIN_COUNT_has h
theorem WIN_LAST_has (n : Nat) : Span.has (each WIN_LAST) (WIN_LAST n) := ⟨n, 0, by simp only [WIN_LAST, internal]; omega⟩
theorem WIN_LAST_wide {a b : List Span} {n : Nat} (h : Inside a ((each WIN_LAST) :: b)) :
    Inside (one (WIN_LAST n) :: a) ((each WIN_LAST) :: b) := Inside.wide (f := fun n => WIN_LAST n) WIN_LAST_has h
theorem WIRE1_has (n : Nat) : Span.has (each WIRE1) (WIRE1 n) := ⟨n, 0, by simp only [WIRE1, internal]; omega⟩
theorem WIRE1_wide {a b : List Span} {n : Nat} (h : Inside a ((each WIRE1) :: b)) :
    Inside (one (WIRE1 n) :: a) ((each WIRE1) :: b) := Inside.wide (f := fun n => WIRE1 n) WIRE1_has h
theorem WIRE2_has (n : Nat) : Span.has (each WIRE2) (WIRE2 n) := ⟨n, 0, by simp only [WIRE2, internal]; omega⟩
theorem WIRE2_wide {a b : List Span} {n : Nat} (h : Inside a ((each WIRE2) :: b)) :
    Inside (one (WIRE2 n) :: a) ((each WIRE2) :: b) := Inside.wide (f := fun n => WIRE2 n) WIRE2_has h
theorem WIRE_NOW_has (n : Nat) : Span.has (each WIRE_NOW) (WIRE_NOW n) := ⟨n, 0, by simp only [WIRE_NOW, internal]; omega⟩
theorem WIRE_NOW_wide {a b : List Span} {n : Nat} (h : Inside a ((each WIRE_NOW) :: b)) :
    Inside (one (WIRE_NOW n) :: a) ((each WIRE_NOW) :: b) := Inside.wide (f := fun n => WIRE_NOW n) WIRE_NOW_has h
theorem descWord_has (k w : Nat) : Span.has (each2 fun k w => (0x2A40 * 256 + 1) + 4 * k + w) (descWord k w) :=
  ⟨64 * (k / 32) + k % 32, w, by simp only [descWord]; omega⟩
theorem descWord_in {W : List Span} {n m : Nat} : Covered ((each2 fun k w => (0x2A40 * 256 + 1) + 4 * k + w) :: W) (descWord n m) :=
  ⟨_, List.mem_cons_self, descWord_has _ _⟩
theorem inForce_ALARM.ALARM_SECONDS_has : Span.has (one (inForce ALARM.ALARM_SECONDS)) (inForce (ALARM.ALARM_SECONDS)) := ⟨0, 0, rfl⟩
theorem inForce_ALARM.ALARM_SECONDS_in {W : List Span} : Covered ((one (inForce ALARM.ALARM_SECONDS)) :: W) (inForce (ALARM.ALARM_SECONDS)) :=
  ⟨_, List.mem_cons_self, inForce_ALARM.ALARM_SECONDS_has⟩
theorem inForce_BATTERY_SWITCH.MODE_has : Span.has (one (inForce BATTERY_SWITCH.MODE)) (inForce (BATTERY_SWITCH.MODE)) := ⟨0, 0, rfl⟩
theorem inForce_BATTERY_SWITCH.MODE_in {W : List Span} : Covered ((one (inForce BATTERY_SWITCH.MODE)) :: W) (inForce (BATTERY_SWITCH.MODE)) :=
  ⟨_, List.mem_cons_self, inForce_BATTERY_SWITCH.MODE_has⟩
theorem inForce_CHANNEL_CONFIG.REQUEST_has (n : Nat) : Span.has (each fun n => inForce (CHANNEL_CONFIG.REQUEST n)) (inForce (CHANNEL_CONFIG.REQUEST n)) := ⟨n, 0, by simp only [inForce, CHANNEL_CONFIG.REQUEST]; omega⟩
theorem inForce_CHANNEL_CONFIG.REQUEST_in {W : List Span} {n : Nat} : Covered ((each fun n => inForce (CHANNEL_CONFIG.REQUEST n)) :: W) (inForce (CHANNEL_CONFIG.REQUEST n)) :=
  ⟨_, List.mem_cons_self, inForce_CHANNEL_CONFIG.REQUEST_has _⟩
theorem inForce_CHANNEL_CONFIG.REQUEST_wide {a b : List Span} {n : Nat} (h : Inside a ((each fun n => inForce (CHANNEL_CONFIG.REQUEST n)) :: b)) :
    Inside (one (inForce (CHANNEL_CONFIG.REQUEST n)) :: a) ((each fun n => inForce (CHANNEL_CONFIG.REQUEST n)) :: b) := Inside.wide (f := fun n => inForce (CHANNEL_CONFIG.REQUEST n)) inForce_CHANNEL_CONFIG.REQUEST_has h
theorem inForce_CHARGER.CHARGE_ENABLE_has : Span.has (one (inForce CHARGER.CHARGE_ENABLE)) (inForce (CHARGER.CHARGE_ENABLE)) := ⟨0, 0, rfl⟩
theorem inForce_CHARGER.CHARGE_ENABLE_in {W : List Span} : Covered ((one (inForce CHARGER.CHARGE_ENABLE)) :: W) (inForce (CHARGER.CHARGE_ENABLE)) :=
  ⟨_, List.mem_cons_self, inForce_CHARGER.CHARGE_ENABLE_has⟩
theorem inForce_CONVERTER.ENABLE_has (n : Nat) : Span.has (each fun n => inForce (CONVERTER.ENABLE n)) (inForce (CONVERTER.ENABLE n)) := ⟨n, 0, by simp only [inForce, CONVERTER.ENABLE]; omega⟩
theorem inForce_CONVERTER.ENABLE_in {W : List Span} {n : Nat} : Covered ((each fun n => inForce (CONVERTER.ENABLE n)) :: W) (inForce (CONVERTER.ENABLE n)) :=
  ⟨_, List.mem_cons_self, inForce_CONVERTER.ENABLE_has _⟩
theorem inForce_CONVERTER.ENABLE_wide {a b : List Span} {n : Nat} (h : Inside a ((each fun n => inForce (CONVERTER.ENABLE n)) :: b)) :
    Inside (one (inForce (CONVERTER.ENABLE n)) :: a) ((each fun n => inForce (CONVERTER.ENABLE n)) :: b) := Inside.wide (f := fun n => inForce (CONVERTER.ENABLE n)) inForce_CONVERTER.ENABLE_has h
theorem inForce_EVENT_FABRIC.DEVICE_HOLD_has : Span.has (one (inForce EVENT_FABRIC.DEVICE_HOLD)) (inForce (EVENT_FABRIC.DEVICE_HOLD)) := ⟨0, 0, rfl⟩
theorem inForce_EVENT_FABRIC.DEVICE_HOLD_in {W : List Span} : Covered ((one (inForce EVENT_FABRIC.DEVICE_HOLD)) :: W) (inForce (EVENT_FABRIC.DEVICE_HOLD)) :=
  ⟨_, List.mem_cons_self, inForce_EVENT_FABRIC.DEVICE_HOLD_has⟩
theorem inForce_POWER_STATE.POWER_MODE_has : Span.has (one (inForce POWER_STATE.POWER_MODE)) (inForce (POWER_STATE.POWER_MODE)) := ⟨0, 0, rfl⟩
theorem inForce_POWER_STATE.POWER_MODE_in {W : List Span} : Covered ((one (inForce POWER_STATE.POWER_MODE)) :: W) (inForce (POWER_STATE.POWER_MODE)) :=
  ⟨_, List.mem_cons_self, inForce_POWER_STATE.POWER_MODE_has⟩
theorem inForce_RTC.RTC_TRIM_has : Span.has (one (inForce RTC.RTC_TRIM)) (inForce (RTC.RTC_TRIM)) := ⟨0, 0, rfl⟩
theorem inForce_RTC.RTC_TRIM_in {W : List Span} : Covered ((one (inForce RTC.RTC_TRIM)) :: W) (inForce (RTC.RTC_TRIM)) :=
  ⟨_, List.mem_cons_self, inForce_RTC.RTC_TRIM_has⟩
theorem inForce_TWO_WIRE_BUS.DATA_HOLD_has : Span.has (one (inForce TWO_WIRE_BUS.DATA_HOLD)) (inForce (TWO_WIRE_BUS.DATA_HOLD)) := ⟨0, 0, rfl⟩
theorem inForce_TWO_WIRE_BUS.DATA_HOLD_in {W : List Span} : Covered ((one (inForce TWO_WIRE_BUS.DATA_HOLD)) :: W) (inForce (TWO_WIRE_BUS.DATA_HOLD)) :=
  ⟨_, List.mem_cons_self, inForce_TWO_WIRE_BUS.DATA_HOLD_has⟩
theorem inForce_TWO_WIRE_BUS.DATA_SETUP_has : Span.has (one (inForce TWO_WIRE_BUS.DATA_SETUP)) (inForce (TWO_WIRE_BUS.DATA_SETUP)) := ⟨0, 0, rfl⟩
theorem inForce_TWO_WIRE_BUS.DATA_SETUP_in {W : List Span} : Covered ((one (inForce TWO_WIRE_BUS.DATA_SETUP)) :: W) (inForce (TWO_WIRE_BUS.DATA_SETUP)) :=
  ⟨_, List.mem_cons_self, inForce_TWO_WIRE_BUS.DATA_SETUP_has⟩
theorem inForce_TWO_WIRE_BUS.ROLE_has : Span.has (one (inForce TWO_WIRE_BUS.ROLE)) (inForce (TWO_WIRE_BUS.ROLE)) := ⟨0, 0, rfl⟩
theorem inForce_TWO_WIRE_BUS.ROLE_in {W : List Span} : Covered ((one (inForce TWO_WIRE_BUS.ROLE)) :: W) (inForce (TWO_WIRE_BUS.ROLE)) :=
  ⟨_, List.mem_cons_self, inForce_TWO_WIRE_BUS.ROLE_has⟩
theorem inForce_TWO_WIRE_BUS.SCL_HIGH_has : Span.has (one (inForce TWO_WIRE_BUS.SCL_HIGH)) (inForce (TWO_WIRE_BUS.SCL_HIGH)) := ⟨0, 0, rfl⟩
theorem inForce_TWO_WIRE_BUS.SCL_HIGH_in {W : List Span} : Covered ((one (inForce TWO_WIRE_BUS.SCL_HIGH)) :: W) (inForce (TWO_WIRE_BUS.SCL_HIGH)) :=
  ⟨_, List.mem_cons_self, inForce_TWO_WIRE_BUS.SCL_HIGH_has⟩
theorem inForce_TWO_WIRE_BUS.SCL_LOW_has : Span.has (one (inForce TWO_WIRE_BUS.SCL_LOW)) (inForce (TWO_WIRE_BUS.SCL_LOW)) := ⟨0, 0, rfl⟩
theorem inForce_TWO_WIRE_BUS.SCL_LOW_in {W : List Span} : Covered ((one (inForce TWO_WIRE_BUS.SCL_LOW)) :: W) (inForce (TWO_WIRE_BUS.SCL_LOW)) :=
  ⟨_, List.mem_cons_self, inForce_TWO_WIRE_BUS.SCL_LOW_has⟩
theorem inForce_TWO_WIRE_BUS.SPEED_MODE_has : Span.has (one (inForce TWO_WIRE_BUS.SPEED_MODE)) (inForce (TWO_WIRE_BUS.SPEED_MODE)) := ⟨0, 0, rfl⟩
theorem inForce_TWO_WIRE_BUS.SPEED_MODE_in {W : List Span} : Covered ((one (inForce TWO_WIRE_BUS.SPEED_MODE)) :: W) (inForce (TWO_WIRE_BUS.SPEED_MODE)) :=
  ⟨_, List.mem_cons_self, inForce_TWO_WIRE_BUS.SPEED_MODE_has⟩
theorem plan_OPENING_PLAN.END_FRAME_has (n : Nat) : Span.has (each fun p => ofPlan p OPENING_PLAN.END_FRAME) (ofPlan n OPENING_PLAN.END_FRAME) := ⟨n, 0, by simp only [ofPlan, OPENING_PLAN.END_FRAME]; omega⟩
theorem plan_OPENING_PLAN.END_FRAME_in {W : List Span} {n : Nat} : Covered ((each fun p => ofPlan p OPENING_PLAN.END_FRAME) :: W) (ofPlan n OPENING_PLAN.END_FRAME) :=
  ⟨_, List.mem_cons_self, plan_OPENING_PLAN.END_FRAME_has _⟩
theorem plan_OPENING_PLAN.PLAN_STATE_has (n : Nat) : Span.has (each fun p => ofPlan p OPENING_PLAN.PLAN_STATE) (ofPlan n OPENING_PLAN.PLAN_STATE) := ⟨n, 0, by simp only [ofPlan, OPENING_PLAN.PLAN_STATE]; omega⟩
theorem plan_OPENING_PLAN.PLAN_STATE_in {W : List Span} {n : Nat} : Covered ((each fun p => ofPlan p OPENING_PLAN.PLAN_STATE) :: W) (ofPlan n OPENING_PLAN.PLAN_STATE) :=
  ⟨_, List.mem_cons_self, plan_OPENING_PLAN.PLAN_STATE_has _⟩
theorem plan_OPENING_PLAN.RESULT_has (n : Nat) : Span.has (each fun p => ofPlan p OPENING_PLAN.RESULT) (ofPlan n OPENING_PLAN.RESULT) := ⟨n, 0, by simp only [ofPlan, OPENING_PLAN.RESULT]; omega⟩
theorem plan_OPENING_PLAN.RESULT_in {W : List Span} {n : Nat} : Covered ((each fun p => ofPlan p OPENING_PLAN.RESULT) :: W) (ofPlan n OPENING_PLAN.RESULT) :=
  ⟨_, List.mem_cons_self, plan_OPENING_PLAN.RESULT_has _⟩
theorem plan_OPENING_PLAN.RUNS_has (n : Nat) : Span.has (each fun p => ofPlan p OPENING_PLAN.RUNS) (ofPlan n OPENING_PLAN.RUNS) := ⟨n, 0, by simp only [ofPlan, OPENING_PLAN.RUNS]; omega⟩
theorem plan_OPENING_PLAN.RUNS_in {W : List Span} {n : Nat} : Covered ((each fun p => ofPlan p OPENING_PLAN.RUNS) :: W) (ofPlan n OPENING_PLAN.RUNS) :=
  ⟨_, List.mem_cons_self, plan_OPENING_PLAN.RUNS_has _⟩
theorem plan_OPENING_PLAN.SKIPPED_STEPS_has (n : Nat) : Span.has (each fun p => ofPlan p OPENING_PLAN.SKIPPED_STEPS) (ofPlan n OPENING_PLAN.SKIPPED_STEPS) := ⟨n, 0, by simp only [ofPlan, OPENING_PLAN.SKIPPED_STEPS]; omega⟩
theorem plan_OPENING_PLAN.SKIPPED_STEPS_in {W : List Span} {n : Nat} : Covered ((each fun p => ofPlan p OPENING_PLAN.SKIPPED_STEPS) :: W) (ofPlan n OPENING_PLAN.SKIPPED_STEPS) :=
  ⟨_, List.mem_cons_self, plan_OPENING_PLAN.SKIPPED_STEPS_has _⟩
theorem plan_OPENING_PLAN.STALEMATES_has (n : Nat) : Span.has (each fun p => ofPlan p OPENING_PLAN.STALEMATES) (ofPlan n OPENING_PLAN.STALEMATES) := ⟨n, 0, by simp only [ofPlan, OPENING_PLAN.STALEMATES]; omega⟩
theorem plan_OPENING_PLAN.STALEMATES_in {W : List Span} {n : Nat} : Covered ((each fun p => ofPlan p OPENING_PLAN.STALEMATES) :: W) (ofPlan n OPENING_PLAN.STALEMATES) :=
  ⟨_, List.mem_cons_self, plan_OPENING_PLAN.STALEMATES_has _⟩
theorem plan_OPENING_PLAN.START_FRAME_has (n : Nat) : Span.has (each fun p => ofPlan p OPENING_PLAN.START_FRAME) (ofPlan n OPENING_PLAN.START_FRAME) := ⟨n, 0, by simp only [ofPlan, OPENING_PLAN.START_FRAME]; omega⟩
theorem plan_OPENING_PLAN.START_FRAME_in {W : List Span} {n : Nat} : Covered ((each fun p => ofPlan p OPENING_PLAN.START_FRAME) :: W) (ofPlan n OPENING_PLAN.START_FRAME) :=
  ⟨_, List.mem_cons_self, plan_OPENING_PLAN.START_FRAME_has _⟩
theorem plan_OPENING_STEP_STATE.STATE_has (n m : Nat) : Span.has (each2 fun p i => ofPlan p (OPENING_STEP_STATE.STATE i)) (ofPlan n (OPENING_STEP_STATE.STATE m)) := ⟨n, m, by simp only [ofPlan, OPENING_STEP_STATE.STATE]; omega⟩
theorem plan_OPENING_STEP_STATE.STATE_in {W : List Span} {n m : Nat} : Covered ((each2 fun p i => ofPlan p (OPENING_STEP_STATE.STATE i)) :: W) (ofPlan n (OPENING_STEP_STATE.STATE m)) :=
  ⟨_, List.mem_cons_self, plan_OPENING_STEP_STATE.STATE_has _ _⟩

theorem tripCounter_in {W : List Span} {n c : Nat} (h1 : Covered W (CHANNEL_SUPERVISION.HARD_TRIPS n))
    (h2 : Covered W (CHANNEL_SUPERVISION.MODEL_TRIPS n)) (h3 : Covered W (CHANNEL_SUPERVISION.TIMEOUT_TRIPS n)) :
    Covered W (tripCounter n c) := by
  unfold tripCounter
  split
  · exact h1
  · exact h2
  · exact h2
  · exact h3

theorem sensorKey_in {W : List Span} {i : Nat} : Covered (each2 THERMAL_DIE.SENSOR :: W) (sensorKey i) :=
  THERMAL_DIE.SENSOR_in

end Sys2Proof.Machine
end

