-- ==== Sys2Proof/Laws/FramesA.lean ====
section
/-!
SUPPORT. The frames of Ops, Flags, Good, Channel, Models, Admission, Castling, Standing, Protect, Windows: what each definition leaves unchanged.
-/
namespace Sys2Proof.Machine

set_option Elab.async false

theorem idle_leaves {W : List Span} {L : List Part} {org s : State} (h : Leaves W L org s) (hL : Within ([.time] : List Part) L) :
    Leaves W L org (idle s) := by
  delta idle
  repeat' first
    | with_reducible assumption
    | with_reducible refine Leaves.ite ?_ ?_
    | with_reducible refine Leaves.update ?_ ?_ ?_ ?_ ?_ ?_ ?_ ?_ ?_ ?_ ?_ ?_ ?_ ?_ ?_ ?_ ?_ ?_ ?_
    | with_reducible exact Or.inl rfl
    | with_reducible exact Or.inr (hL _ (by decide +kernel))

theorem State.raise_leaves {W : List Span} {L : List Part} {org s : State} (k : Kind) (site tenant obj : Nat) (fields : List (Nat × Int)) (h : Leaves W L org s) (hL : Within ([.collector] : List Part) L) :
    Leaves W L org (State.raise s k site tenant obj fields) := by
  delta State.raise
  repeat' first
    | with_reducible assumption
    | with_reducible refine Leaves.update ?_ ?_ ?_ ?_ ?_ ?_ ?_ ?_ ?_ ?_ ?_ ?_ ?_ ?_ ?_ ?_ ?_ ?_ ?_
    | with_reducible exact Or.inl rfl
    | with_reducible exact Or.inr (hL _ (by decide +kernel))

theorem State.raiseDie_leaves {W : List Span} {L : List Part} {org s : State} (d : Nat) (k : Kind) (site tenant obj : Nat) (fields : List (Nat × Int)) (h : Leaves W L org s) (hL : Within ([.dieMsgs] : List Part) L) :
    Leaves W L org (State.raiseDie s d k site tenant obj fields) := by
  delta State.raiseDie
  repeat' first
    | with_reducible assumption
    | with_reducible refine Leaves.update ?_ ?_ ?_ ?_ ?_ ?_ ?_ ?_ ?_ ?_ ?_ ?_ ?_ ?_ ?_ ?_ ?_ ?_ ?_
    | with_reducible exact Or.inl rfl
    | with_reducible exact Or.inr (hL _ (by decide +kernel))

theorem State.raiseChannel_leaves {W : List Span} {L : List Part} {org s : State} (k : Kind) (n e obj : Nat) (fields : List (Nat × Int)) (h : Leaves W L org s) (hL : Within ([.dieMsgs] : List Part) L) :
    Leaves W L org (State.raiseChannel s k n e obj fields) := by
  delta State.raiseChannel
  repeat' first
    | with_reducible assumption
    | with_reducible apply State.raiseDie_leaves
    | (with_reducible refine Within.trans ?_ hL; decide +kernel)

theorem State.land_leaves {W : List Span} {L : List Part} {org s : State} (tenant delay : Nat) (a : LandAct) (h : Leaves W L org s) (hL : Within ([.landing] : List Part) L) :
    Leaves W L org (State.land s tenant delay a) := by
  delta State.land
  repeat' first
    | with_reducible assumption
    | with_reducible refine Leaves.update ?_ ?_ ?_ ?_ ?_ ?_ ?_ ?_ ?_ ?_ ?_ ?_ ?_ ?_ ?_ ?_ ?_ ?_ ?_
    | with_reducible exact Or.inl rfl
    | with_reducible exact Or.inr (hL _ (by decide +kernel))

theorem State.emit_leaves {W : List Span} {L : List Part} {org s : State} (o : Out) (h : Leaves W L org s) (hL : Within ([.out] : List Part) L) :
    Leaves W L org (State.emit s o) := by
  delta State.emit
  repeat' first
    | with_reducible assumption
    | with_reducible refine Leaves.update ?_ ?_ ?_ ?_ ?_ ?_ ?_ ?_ ?_ ?_ ?_ ?_ ?_ ?_ ?_ ?_ ?_ ?_ ?_
    | with_reducible exact Or.inl rfl
    | with_reducible exact Or.inr (hL _ (by decide +kernel))

theorem State.answer_leaves {W : List Span} {L : List Part} {org s : State} (r : Resp) (h : Leaves W L org s) (hL : Within ([.resp] : List Part) L) :
    Leaves W L org (State.answer s r) := by
  delta State.answer
  repeat' first
    | with_reducible assumption
    | with_reducible refine Leaves.update ?_ ?_ ?_ ?_ ?_ ?_ ?_ ?_ ?_ ?_ ?_ ?_ ?_ ?_ ?_ ?_ ?_ ?_ ?_
    | with_reducible exact Or.inl rfl
    | with_reducible exact Or.inr (hL _ (by decide +kernel))

theorem State.setChFlag_leaves {W : List Span} {L : List Part} {org s : State} (n b : Nat) (on : Bool) (h : Leaves W L org s)
    (hW : Inside (one (CHANNEL_STATUS.FLAGS n) :: []) W) :
    Leaves W L org (State.setChFlag s n b on) := by
  delta State.setChFlag
  repeat' first
    | with_reducible assumption
    | with_reducible apply State.setBit_leaves
    | (with_unfolding_none refine hW.covers ?_; repeat first | with_unfolding_none exact Covered.here | with_unfolding_none refine Covered.next ?_)

theorem State.setModelFlag_leaves {W : List Span} {L : List Part} {org s : State} (n b : Nat) (on : Bool) (h : Leaves W L org s)
    (hW : Inside (one (CHANNEL_PROTECTION.MODEL_FLAGS n) :: []) W) :
    Leaves W L org (State.setModelFlag s n b on) := by
  delta State.setModelFlag
  repeat' first
    | with_reducible assumption
    | with_reducible apply State.setBit_leaves
    | (with_unfolding_none refine hW.covers ?_; repeat first | with_unfolding_none exact Covered.here | with_unfolding_none refine Covered.next ?_)

theorem State.setBankFlag_leaves {W : List Span} {L : List Part} {org s : State} (k b mirror : Nat) (on : Bool) (h : Leaves W L org s)
    (hW : Inside (one (BANK.BANK_FLAGS k) :: each CHANNEL_STATUS.FLAGS :: []) W) :
    Leaves W L org (State.setBankFlag s k b mirror on) := by
  delta State.setBankFlag
  repeat' first
    | with_reducible assumption
    | with_reducible apply State.setBit_leaves
    | with_reducible apply State.setChFlag_leaves
    | (with_unfolding_none refine hW.covers ?_; repeat first | with_unfolding_none exact Covered.here | with_unfolding_none refine Covered.next ?_)
    | with_unfolding_none apply hW.sub (inSkip (CHANNEL_STATUS.FLAGS_wide inNil))
    | with_reducible refine forBelow_leaves ?_ (fun _ _ _ => ?_)

theorem State.showState_leaves {W : List Span} {L : List Part} {org s : State} (n : Nat) (h : Leaves W L org s)
    (hW : Inside (one (CHANNEL_STATUS.STANDING_GATE n) :: one (CHANNEL_STATUS.STATE n) :: []) W) :
    Leaves W L org (State.showState s n) := by
  delta State.showState
  repeat' first
    | with_reducible assumption
    | with_reducible apply State.setN_leaves
    | (with_unfolding_none refine hW.covers ?_; repeat first | with_unfolding_none exact Covered.here | with_unfolding_none refine Covered.next ?_)
    | with_reducible refine Leaves.ite ?_ ?_

theorem State.rsoChange_leaves {W : List Span} {L : List Part} {org s : State} (r : Nat) (asserted : Bool) (cause : Nat) (h : Leaves W L org s)
    (hW : Inside (one (RESET_OUTPUT.ASSERT_COUNT r) :: one (RESET_OUTPUT.LAST_CHANGE_STAMP r) :: one (RESET_OUTPUT.OUTPUT r) :: []) W) (hL : Within ([.collector] : List Part) L) :
    Leaves W L org (State.rsoChange s r asserted cause) := by
  delta State.rsoChange
  repeat' first
    | with_reducible assumption
    | with_reducible apply State.setN_leaves
    | with_reducible apply State.setFlag_leaves
    | with_reducible apply State.count_leaves
    | with_reducible apply State.raise_leaves
    | (with_unfolding_none refine hW.covers ?_; repeat first | with_unfolding_none exact Covered.here | with_unfolding_none refine Covered.next ?_)
    | with_unfolding_none apply hW.sub (inNil)
    | (with_reducible refine Within.trans ?_ hL; decide +kernel)
    | (extract_lets +onlyGivenNames letX; have letT : True := (by clear_value letX; guard_hyp letX : State; trivial); clear letT; refine Leaves.cut (W := W) (L := L) (r := org) (v := letX) ?_ (fun letH => ?_); (focus subst letX); rotate_left; clear_value letX; revert letX; intro _ _)
    | with_reducible refine Leaves.ite ?_ ?_

theorem State.rsoFollow_leaves {W : List Span} {L : List Part} {org s : State} (r : Nat) (h : Leaves W L org s)
    (hW : Inside (one (RESET_OUTPUT.ASSERT_COUNT r) :: one (RESET_OUTPUT.LAST_CHANGE_STAMP r) :: one (RESET_OUTPUT.OUTPUT r) :: one (RSO_GOOD_SINCE r) :: []) W) (hL : Within ([.collector] : List Part) L) :
    Leaves W L org (State.rsoFollow s r) := by
  delta State.rsoFollow
  repeat' first
    | with_reducible assumption
    | with_reducible apply State.setN_leaves
    | with_reducible apply State.rsoChange_leaves
    | (with_unfolding_none refine hW.covers ?_; repeat first | with_unfolding_none exact Covered.here | with_unfolding_none refine Covered.next ?_)
    | with_unfolding_none apply hW.sub (inBoth (inBoth (inBoth inNil)))
    | (with_reducible refine Within.trans ?_ hL; decide +kernel)
    | with_reducible refine Leaves.ite ?_ ?_

theorem State.rsoForce_leaves {W : List Span} {L : List Part} {org s : State} (r v : Nat) (h : Leaves W L org s)
    (hW : Inside (one (RESET_OUTPUT.ASSERT_COUNT r) :: one (RESET_OUTPUT.LAST_CHANGE_STAMP r) :: one (RESET_OUTPUT.OUTPUT r) :: one (RSO_CLEAR_AT r) :: one (inForce (RESET_OUTPUT.FORCE r)) :: []) W) (hL : Within ([.collector] : List Part) L) :
    Leaves W L org (State.rsoForce s r v) := by
  delta State.rsoForce
  repeat' first
    | with_reducible assumption
    | with_reducible apply State.setN_leaves
    | with_reducible apply State.rsoChange_leaves
    | (with_unfolding_none refine hW.covers ?_; repeat first | with_unfolding_none exact Covered.here | with_unfolding_none refine Covered.next ?_)
    | with_unfolding_none apply hW.sub (inBoth (inBoth (inBoth inNil)))
    | (with_reducible refine Within.trans ?_ hL; decide +kernel)
    | (extract_lets +onlyGivenNames letX; have letT : True := (by clear_value letX; guard_hyp letX : State; trivial); clear letT; refine Leaves.cut (W := W) (L := L) (r := org) (v := letX) ?_ (fun letH => ?_); (focus subst letX); rotate_left; clear_value letX; revert letX; intro _ _)
    | with_reducible refine Leaves.ite ?_ ?_

theorem State.rsoRelease_leaves {W : List Span} {L : List Part} {org s : State} (r : Nat) (h : Leaves W L org s)
    (hW : Inside (one (RESET_OUTPUT.ASSERT_COUNT r) :: one (RESET_OUTPUT.LAST_CHANGE_STAMP r) :: one (RESET_OUTPUT.OUTPUT r) :: []) W) (hL : Within ([.collector] : List Part) L) :
    Leaves W L org (State.rsoRelease s r) := by
  delta State.rsoRelease
  repeat' first
    | with_reducible assumption
    | with_reducible apply State.rsoChange_leaves
    | with_unfolding_none apply hW.sub (inBoth (inBoth (inBoth inNil)))
    | (with_reducible refine Within.trans ?_ hL; decide +kernel)
    | (extract_lets +onlyGivenNames letX; clear_value letX; revert letX; intro _)
    | with_reducible refine Leaves.ite ?_ ?_

theorem State.updateGood_leaves {W : List Span} {L : List Part} {org s : State} (n : Nat) (h : Leaves W L org s)
    (hW : Inside (each RESET_OUTPUT.ASSERT_COUNT :: each RESET_OUTPUT.LAST_CHANGE_STAMP :: each RESET_OUTPUT.OUTPUT :: each RSO_GOOD_SINCE :: one (WIN n) :: []) W) (hL : Within ([.collector, .dieMsgs] : List Part) L) :
    Leaves W L org (State.updateGood s n) := by
  delta State.updateGood
  repeat' first
    | with_reducible assumption
    | with_reducible apply State.setBit_leaves
    | with_reducible apply State.raiseChannel_leaves
    | with_reducible apply State.rsoFollow_leaves
    | (with_unfolding_none refine hW.covers ?_; repeat first | with_unfolding_none exact Covered.here | with_unfolding_none refine Covered.next ?_)
    | with_unfolding_none apply hW.sub (inNil)
    | with_unfolding_none apply hW.sub (RESET_OUTPUT.ASSERT_COUNT_wide (inSkip (RESET_OUTPUT.LAST_CHANGE_STAMP_wide (inSkip (RESET_OUTPUT.OUTPUT_wide (inSkip (RSO_GOOD_SINCE_wide inNil)))))))
    | (with_reducible refine Within.trans ?_ hL; decide +kernel)
    | (extract_lets +onlyGivenNames letX; have letT : True := (by clear_value letX; guard_hyp letX : State; trivial); clear letT; refine Leaves.cut (W := W) (L := L) (r := org) (v := letX) ?_ (fun letH => ?_); (focus subst letX); rotate_left; clear_value letX; revert letX; intro _ _)
    | with_reducible refine Leaves.ite ?_ ?_
    | with_reducible refine forBelow_leaves ?_ (fun _ _ _ => ?_)

theorem State.showCell_leaves {W : List Span} {L : List Part} {org s : State} (n : Nat) (h : Leaves W L org s)
    (hW : Inside (one (CHANNEL_STATUS.STANDING_GATE n) :: one (CHANNEL_STATUS.STATE n) :: each RESET_OUTPUT.ASSERT_COUNT :: each RESET_OUTPUT.LAST_CHANGE_STAMP :: each RESET_OUTPUT.OUTPUT :: each RSO_GOOD_SINCE :: one (WIN n) :: []) W) (hL : Within ([.collector, .dieMsgs] : List Part) L) :
    Leaves W L org (State.showCell s n) := by
  delta State.showCell
  repeat' first
    | with_reducible assumption
    | with_reducible apply State.showState_leaves
    | with_reducible apply State.updateGood_leaves
    | with_unfolding_none apply hW.sub (inBoth (inBoth inNil))
    | with_unfolding_none apply hW.sub (inSkip (inSkip (inBoth (inBoth (inBoth (inBoth (inBoth inNil)))))))
    | (with_reducible refine Within.trans ?_ hL; decide +kernel)

theorem State.pumpUpdate_leaves {W : List Span} {L : List Part} {org s : State} (k : Nat) (h : Leaves W L org s)
    (hW : Inside (one (BANK.BANK_FLAGS k) :: one (PUMP_START k) :: one (PUMP_STOP_AT k) :: []) W) :
    Leaves W L org (State.pumpUpdate s k) := by
  delta State.pumpUpdate
  repeat' first
    | with_reducible assumption
    | with_reducible apply State.setN_leaves
    | with_reducible apply State.setBit_leaves
    | (with_unfolding_none refine hW.covers ?_; repeat first | with_unfolding_none exact Covered.here | with_unfolding_none refine Covered.next ?_)
    | (extract_lets +onlyGivenNames letX; clear_value letX; revert letX; intro _)
    | with_reducible refine Leaves.ite ?_ ?_

theorem State.runClock_leaves {W : List Span} {L : List Part} {org s : State} (n st : Nat) (h : Leaves W L org s)
    (hW : Inside (one (RUN_SINCE n) :: one (RUN_SPENT n) :: []) W) :
    Leaves W L org (State.runClock s n st) := by
  delta State.runClock
  repeat' first
    | with_reducible assumption
    | with_reducible apply State.setN_leaves
    | (with_unfolding_none refine hW.covers ?_; repeat first | with_unfolding_none exact Covered.here | with_unfolding_none refine Covered.next ?_)
    | (extract_lets +onlyGivenNames letX; clear_value letX; revert letX; intro _)
    | with_reducible refine Leaves.ite ?_ ?_

theorem State.limitClock_leaves {W : List Span} {L : List Part} {org s : State} (n st : Nat) (h : Leaves W L org s)
    (hW : Inside (one (LIMIT_EPISODE n) :: one (LIMIT_LEFT n) :: one (LIMIT_SINCE n) :: one (LIMIT_SPENT n) :: []) W) :
    Leaves W L org (State.limitClock s n st) := by
  delta State.limitClock
  repeat' first
    | with_reducible assumption
    | with_reducible apply State.setN_leaves
    | (with_unfolding_none refine hW.covers ?_; repeat first | with_unfolding_none exact Covered.here | with_unfolding_none refine Covered.next ?_)
    | (extract_lets +onlyGivenNames letX; have letT : True := (by clear_value letX; guard_hyp letX : State; trivial); clear letT; refine Leaves.cut (W := W) (L := L) (r := org) (v := letX) ?_ (fun letH => ?_); (focus subst letX); rotate_left; clear_value letX; revert letX; intro _ _)
    | with_reducible refine Leaves.ite ?_ ?_

theorem State.cellTo_leaves {W : List Span} {L : List Part} {org s : State} (n st : Nat) (h : Leaves W L org s)
    (hW : Inside (one (BANK.BANK_FLAGS ((bankOf n))) :: one (CELL n) :: one (CHANNEL_PROTECTION.MODEL_FLAGS n) :: one (CHANNEL_STATUS.FLAGS n) :: one (CHANNEL_STATUS.STANDING_GATE n) :: one (CHANNEL_STATUS.STATE n) :: one (GATE n) :: one (LAMP_LOW n) :: one (LAMP_TOLD n) :: one (LATCH n) :: one (LIMIT_EPISODE n) :: one (LIMIT_LEFT n) :: one (LIMIT_SINCE n) :: one (LIMIT_SPENT n) :: one (PUMP_START ((bankOf n))) :: one (PUMP_STOP_AT ((bankOf n))) :: each RESET_OUTPUT.ASSERT_COUNT :: each RESET_OUTPUT.LAST_CHANGE_STAMP :: each RESET_OUTPUT.OUTPUT :: each RSO_GOOD_SINCE :: one (RUN_SINCE n) :: one (RUN_SPENT n) :: one (WIN n) :: []) W) (hL : Within ([.collector, .dieMsgs] : List Part) L) :
    Leaves W L org (State.cellTo s n st) := by
  delta State.cellTo
  repeat' first
    | with_reducible assumption
    | with_reducible apply State.setN_leaves
    | with_reducible apply State.setFlag_leaves
    | with_reducible apply State.runClock_leaves
    | with_reducible apply State.limitClock_leaves
    | with_reducible apply State.setChFlag_leaves
    | with_reducible apply State.setModelFlag_leaves
    | with_reducible apply State.showCell_leaves
    | with_reducible apply State.pumpUpdate_leaves
    | (with_unfolding_none refine hW.covers ?_; repeat first | with_unfolding_none exact Covered.here | with_unfolding_none refine Covered.next ?_)
    | with_unfolding_none apply hW.sub (inSkip (inSkip (inSkip (inSkip (inSkip (inSkip (inSkip (inSkip (inSkip (inSkip (inSkip (inSkip (inSkip (inSkip (inSkip (inSkip (inSkip (inSkip (inSkip (inSkip (inBoth (inBoth inNil))))))))))))))))))))))
    | with_unfolding_none apply hW.sub (inSkip (inSkip (inSkip (inSkip (inSkip (inSkip (inSkip (inSkip (inSkip (inSkip (inBoth (inBoth (inBoth (inBoth inNil))))))))))))))
    | with_unfolding_none apply hW.sub (inSkip (inSkip (inSkip (inBoth inNil))))
    | with_unfolding_none apply hW.sub (inSkip (inSkip (inBoth inNil)))
    | with_unfolding_none apply hW.sub (inSkip (inSkip (inSkip (inSkip (inBoth (inBoth (inSkip (inSkip (inSkip (inSkip (inSkip (inSkip (inSkip (inSkip (inSkip (inSkip (inBoth (inBoth (inBoth (inBoth (inSkip (inSkip (inBoth inNil)))))))))))))))))))))))
    | with_unfolding_none apply hW.sub (inBoth (inSkip (inSkip (inSkip (inSkip (inSkip (inSkip (inSkip (inSkip (inSkip (inSkip (inSkip (inSkip (inSkip (inBoth (inBoth inNil))))))))))))))))
    | (with_reducible refine Within.trans ?_ hL; decide +kernel)
    | (extract_lets +onlyGivenNames letX; have letT : True := (by clear_value letX; guard_hyp letX : State; trivial); clear letT; refine Leaves.cut (W := W) (L := L) (r := org) (v := letX) ?_ (fun letH => ?_); (focus subst letX); rotate_left; clear_value letX; revert letX; intro _ _)
    | with_reducible refine Leaves.ite ?_ ?_

theorem State.withdraw_leaves {W : List Span} {L : List Part} {org s : State} (n : Nat) (h : Leaves W L org s)
    (hW : Inside (one (ADMIT_KIND n) :: one (CHANNEL_STATUS.FLAGS n) :: one (START_AT n) :: []) W) :
    Leaves W L org (State.withdraw s n) := by
  delta State.withdraw
  repeat' first
    | with_reducible assumption
    | with_reducible apply State.setN_leaves
    | with_reducible apply State.setChFlag_leaves
    | (with_unfolding_none refine hW.covers ?_; repeat first | with_unfolding_none exact Covered.here | with_unfolding_none refine Covered.next ?_)
    | with_unfolding_none apply hW.sub (inSkip (inBoth inNil))

theorem State.turnOff_leaves {W : List Span} {L : List Part} {org s : State} (n stage : Nat) (h : Leaves W L org s)
    (hW : Inside (one (ADMIT_KIND n) :: one (BANK.BANK_FLAGS ((bankOf n))) :: one (CELL n) :: one (CHANNEL_PROTECTION.MODEL_FLAGS n) :: one (CHANNEL_STATUS.FLAGS n) :: one (CHANNEL_STATUS.STANDING_GATE n) :: one (CHANNEL_STATUS.STATE n) :: one (GATE n) :: one (LAMP_LOW n) :: one (LAMP_TOLD n) :: one (LATCH n) :: one (LIMIT_EPISODE n) :: one (LIMIT_LEFT n) :: one (LIMIT_SINCE n) :: one (LIMIT_SPENT n) :: one (PEND n) :: one (PUMP_START ((bankOf n))) :: one (PUMP_STOP_AT ((bankOf n))) :: one (PWM_HIGH n) :: each RESET_OUTPUT.ASSERT_COUNT :: each RESET_OUTPUT.LAST_CHANGE_STAMP :: each RESET_OUTPUT.OUTPUT :: each RSO_GOOD_SINCE :: one (RUN_SINCE n) :: one (RUN_SPENT n) :: one (START_AT n) :: one (WIN n) :: []) W) (hL : Within ([.collector, .dieMsgs, .staged] : List Part) L) :
    Leaves W L org (State.turnOff s n stage) := by
  delta State.turnOff
  repeat' first
    | with_reducible assumption
    | with_reducible apply State.setN_leaves
    | with_reducible apply State.withdraw_leaves
    | with_reducible apply State.cellTo_leaves
    | with_reducible apply State.stage_leaves
    | (with_unfolding_none refine hW.covers ?_; repeat first | with_unfolding_none exact Covered.here | with_unfolding_none refine Covered.next ?_)
    | with_unfolding_none apply hW.sub (inBoth (inSkip (inSkip (inSkip (inBoth (inSkip (inSkip (inSkip (inSkip (inSkip (inSkip (inSkip (inSkip (inSkip (inSkip (inSkip (inSkip (inSkip (inSkip (inSkip (inSkip (inSkip (inSkip (inSkip (inSkip (inBoth inNil))))))))))))))))))))))))))
    | with_unfolding_none apply hW.sub (inSkip (inBoth (inBoth (inBoth (inBoth (inBoth (inBoth (inBoth (inBoth (inBoth (inBoth (inBoth (inBoth (inBoth (inBoth (inSkip (inBoth (inBoth (inSkip (inBoth (inBoth (inBoth (inBoth (inBoth (inBoth (inSkip (inBoth inNil)))))))))))))))))))))))))))
    | with_unfolding_none apply hW.sub (inNil)
    | (with_reducible refine Within.trans ?_ hL; decide +kernel)

theorem State.openShadow_leaves {W : List Span} {L : List Part} {org s : State} (cause subject closing : Nat) (h : Leaves W L org s) (hL : Within ([.shadows] : List Part) L) :
    Leaves W L org (State.openShadow s cause subject closing) := by
  delta State.openShadow
  repeat' first
    | with_reducible assumption
    | with_reducible refine Leaves.update ?_ ?_ ?_ ?_ ?_ ?_ ?_ ?_ ?_ ?_ ?_ ?_ ?_ ?_ ?_ ?_ ?_ ?_ ?_
    | with_reducible exact Or.inl rfl
    | with_reducible exact Or.inr (hL _ (by decide +kernel))

theorem State.setClosing_leaves {W : List Span} {L : List Part} {org s : State} (cause subject closing : Nat) (h : Leaves W L org s) (hL : Within ([.shadows] : List Part) L) :
    Leaves W L org (State.setClosing s cause subject closing) := by
  delta State.setClosing
  repeat' first
    | with_reducible assumption
    | with_reducible refine Leaves.ite ?_ ?_
    | with_reducible refine Leaves.update ?_ ?_ ?_ ?_ ?_ ?_ ?_ ?_ ?_ ?_ ?_ ?_ ?_ ?_ ?_ ?_ ?_ ?_ ?_
    | with_reducible exact Or.inl rfl
    | with_reducible exact Or.inr (hL _ (by decide +kernel))

theorem State.gateHeld_leaves {W : List Span} {L : List Part} {org s : State} (n : Nat) (h : Leaves W L org s)
    (hW : Inside (one (GATE n) :: []) W) :
    Leaves W L org (State.gateHeld s n) := by
  delta State.gateHeld
  repeat' first
    | with_reducible assumption
    | with_reducible apply State.setN_leaves
    | (with_unfolding_none refine hW.covers ?_; repeat first | with_unfolding_none exact Covered.here | with_unfolding_none refine Covered.next ?_)
    | with_reducible refine Leaves.ite ?_ ?_

theorem State.gateSettles_leaves {W : List Span} {L : List Part} {org s : State} (n : Nat) (h : Leaves W L org s)
    (hW : Inside (one (GATE n) :: []) W) (hL : Within ([.free, .shadows] : List Part) L) :
    Leaves W L org (State.gateSettles s n) := by
  delta State.gateSettles
  repeat' first
    | with_reducible assumption
    | with_reducible apply State.setN_leaves
    | with_reducible apply State.takeFreeIn_leaves
    | with_reducible apply State.setClosing_leaves
    | (with_unfolding_none refine hW.covers ?_; repeat first | with_unfolding_none exact Covered.here | with_unfolding_none refine Covered.next ?_)
    | with_unfolding_none apply hW.sub (inNil)
    | (with_reducible refine Within.trans ?_ hL; decide +kernel)
    | with_reducible exact hL _ (by decide +kernel)
    | (extract_lets +onlyGivenNames letX; have letT : True := (by clear_value letX; revert letX; with_reducible exact Keeps.isPair); clear letT; refine Leaves.cut (W := W) (L := L) (r := org) (v := letX.2) ?_ (fun letH => ?_); (focus subst letX); rotate_left; clear_value letX; revert letX; intro _ _)
    | (extract_lets +onlyGivenNames letX; clear_value letX; revert letX; intro _)
    | with_reducible refine Leaves.iteP ?_ ?_
    | with_reducible refine Leaves.ite ?_ ?_

theorem State.askAdmission_leaves {W : List Span} {L : List Part} {org s : State} (n kind : Nat) (h : Leaves W L org s)
    (hW : Inside (one (ADMIT_KIND n) :: one (ADMIT_SINCE n) :: one (CHANNEL_PROTECTION.ADMIT_WAIT n) :: one (CHANNEL_STATUS.FLAGS n) :: []) W) :
    Leaves W L org (State.askAdmission s n kind) := by
  delta State.askAdmission
  repeat' first
    | with_reducible assumption
    | with_reducible apply State.setN_leaves
    | with_reducible apply State.setChFlag_leaves
    | (with_unfolding_none refine hW.covers ?_; repeat first | with_unfolding_none exact Covered.here | with_unfolding_none refine Covered.next ?_)
    | with_unfolding_none apply hW.sub (inSkip (inSkip (inSkip (inBoth inNil))))

theorem State.lampStart_leaves {W : List Span} {L : List Part} {org s : State} (n : Nat) (h : Leaves W L org s)
    (hW : Inside (one (CHANNEL_PROTECTION.MODEL_FLAGS n) :: one (LAMP_AT n) :: []) W) :
    Leaves W L org (State.lampStart s n) := by
  delta State.lampStart
  repeat' first
    | with_reducible assumption
    | with_reducible apply State.setN_leaves
    | with_reducible apply State.setModelFlag_leaves
    | (with_unfolding_none refine hW.covers ?_; repeat first | with_unfolding_none exact Covered.here | with_unfolding_none refine Covered.next ?_)
    | with_unfolding_none apply hW.sub (inBoth inNil)
    | with_reducible refine Leaves.ite ?_ ?_

theorem State.startRamp_leaves {W : List Span} {L : List Part} {org s : State} (n : Nat) (gentle retry : Bool) (h : Leaves W L org s)
    (hW : Inside (one (ADMIT_KIND n) :: one (BANK.BANK_FLAGS ((bankOf n))) :: one (BLANK_UNTIL n) :: one (CELL n) :: one (CHANNEL_PROTECTION.MODEL_FLAGS n) :: one (CHANNEL_STATUS.FLAGS n) :: one (CHANNEL_STATUS.STANDING_GATE n) :: one (CHANNEL_STATUS.STATE n) :: one (CHANNEL_SUPERVISION.RETRIES n) :: one (CHANNEL_SUPERVISION.STARTS n) :: one (GATE n) :: one (LAMP_AT n) :: one (LAMP_LOW n) :: one (LAMP_TOLD n) :: one (LATCH n) :: one (LIMIT_EPISODE n) :: one (LIMIT_LEFT n) :: one (LIMIT_SINCE n) :: one (LIMIT_SPENT n) :: one (ND_GROUP n) :: one (PUMP_START ((bankOf n))) :: one (PUMP_STOP_AT ((bankOf n))) :: one (RAMP_RETRY n) :: one (RAMP_START n) :: each RESET_OUTPUT.ASSERT_COUNT :: each RESET_OUTPUT.LAST_CHANGE_STAMP :: each RESET_OUTPUT.OUTPUT :: each RSO_GOOD_SINCE :: one (RUN_SINCE n) :: one (RUN_SPENT n) :: one (START_AT n) :: one (WIN n) :: []) W) (hL : Within ([.collector, .dieMsgs] : List Part) L) :
    Leaves W L org (State.startRamp s n gentle retry) := by
  delta State.startRamp
  repeat' first
    | with_reducible assumption
    | with_reducible apply State.setN_leaves
    | with_reducible apply State.setFlag_leaves
    | with_reducible apply State.setBit_leaves
    | with_reducible apply State.count_leaves
    | with_reducible apply State.withdraw_leaves
    | with_reducible apply State.raiseChannel_leaves
    | with_reducible apply State.setChFlag_leaves
    | with_reducible apply State.cellTo_leaves
    | with_reducible apply State.lampStart_leaves
    | with_reducible refine Covered.ite ?_ ?_
    | (with_unfolding_none refine hW.covers ?_; repeat first | with_unfolding_none exact Covered.here | with_unfolding_none refine Covered.next ?_)
    | with_unfolding_none apply hW.sub (inBoth (inSkip (inSkip (inSkip (inSkip (inBoth (inSkip (inSkip (inSkip (inSkip (inSkip (inSkip (inSkip (inSkip (inSkip (inSkip (inSkip (inSkip (inSkip (inSkip (inSkip (inSkip (inSkip (inSkip (inSkip (inSkip (inSkip (inSkip (inSkip (inSkip (inBoth inNil)))))))))))))))))))))))))))))))
    | with_unfolding_none apply hW.sub (inNil)
    | with_unfolding_none apply hW.sub (inSkip (inSkip (inSkip (inSkip (inSkip (inBoth inNil))))))
    | with_unfolding_none apply hW.sub (inSkip (inBoth (inSkip (inBoth (inBoth (inBoth (inBoth (inBoth (inSkip (inSkip (inBoth (inSkip (inBoth (inBoth (inBoth (inBoth (inBoth (inBoth (inBoth (inSkip (inBoth (inBoth (inSkip (inSkip (inBoth (inBoth (inBoth (inBoth (inBoth (inBoth (inSkip (inBoth inNil))))))))))))))))))))))))))))))))
    | with_unfolding_none apply hW.sub (inSkip (inSkip (inSkip (inSkip (inBoth (inSkip (inSkip (inSkip (inSkip (inSkip (inSkip (inBoth inNil))))))))))))
    | (with_reducible refine Within.trans ?_ hL; decide +kernel)
    | (extract_lets +onlyGivenNames letX; have letT : True := (by clear_value letX; guard_hyp letX : State; trivial); clear letT; refine Leaves.cut (W := W) (L := L) (r := org) (v := letX) ?_ (fun letH => ?_); (focus subst letX); rotate_left; clear_value letX; revert letX; intro _ _)
    | with_reducible refine Leaves.ite ?_ ?_

theorem State.pendPwm_leaves {W : List Span} {L : List Part} {org s : State} (n : Nat) (h : Leaves W L org s)
    (hW : Inside (one (PEND n) :: one (PWM_NEXT n) :: []) W) :
    Leaves W L org (State.pendPwm s n) := by
  delta State.pendPwm
  repeat' first
    | with_reducible assumption
    | with_reducible apply State.setN_leaves
    | (with_unfolding_none refine hW.covers ?_; repeat first | with_unfolding_none exact Covered.here | with_unfolding_none refine Covered.next ?_)

theorem State.riseEdge_leaves {W : List Span} {L : List Part} {org s : State} (n : Nat) (h : Leaves W L org s)
    (hW : Inside (one (BLANK_UNTIL n) :: one (CHANNEL_PROTECTION.MODEL_FLAGS n) :: one (GATE n) :: one (LAMP_AT n) :: one (PWM_HELD n) :: one (PWM_HIGH n) :: one (RISE_AT n) :: []) W) :
    Leaves W L org (State.riseEdge s n) := by
  delta State.riseEdge
  repeat' first
    | with_reducible assumption
    | with_reducible apply State.setN_leaves
    | with_reducible apply State.lampStart_leaves
    | (with_unfolding_none refine hW.covers ?_; repeat first | with_unfolding_none exact Covered.here | with_unfolding_none refine Covered.next ?_)
    | with_unfolding_none apply hW.sub (inSkip (inBoth (inSkip (inBoth inNil))))

theorem State.bankPauses_leaves {W : List Span} {L : List Part} {org s : State} (k : Nat) (h : Leaves W L org s)
    (hW : Inside (each BLANK_UNTIL :: each CHANNEL_PROTECTION.MODEL_FLAGS :: each GATE :: each LAMP_AT :: each PWM_HELD :: each PWM_HIGH :: each RISE_AT :: []) W) :
    Leaves W L org (State.bankPauses s k) := by
  delta State.bankPauses
  repeat' first
    | with_reducible assumption
    | with_reducible apply State.setN_leaves
    | with_reducible apply State.riseEdge_leaves
    | (with_unfolding_none refine hW.covers ?_; repeat first | with_unfolding_none exact Covered.here | with_unfolding_none exact BLANK_UNTIL_in | with_unfolding_none exact GATE_in | with_unfolding_none refine Covered.next ?_)
    | with_unfolding_none apply hW.sub (BLANK_UNTIL_wide (inSkip (CHANNEL_PROTECTION.MODEL_FLAGS_wide (inSkip (GATE_wide (inSkip (LAMP_AT_wide (inSkip (PWM_HELD_wide (inSkip (PWM_HIGH_wide (inSkip (RISE_AT_wide inNil)))))))))))))
    | (extract_lets +onlyGivenNames letX; have letT : True := (by clear_value letX; guard_hyp letX : State; trivial); clear letT; refine Leaves.cut (W := W) (L := L) (r := org) (v := letX) ?_ (fun letH => ?_); (focus subst letX); rotate_left; clear_value letX; revert letX; intro _ _)
    | (extract_lets +onlyGivenNames letX; clear_value letX; revert letX; intro _)
    | with_reducible refine Leaves.ite ?_ ?_
    | with_reducible refine forBelow_leaves ?_ (fun _ _ _ => ?_)

theorem State.requestFromOff_leaves {W : List Span} {L : List Part} {org s : State} (n : Nat) (h : Leaves W L org s)
    (hW : Inside (one (ADMIT_KIND n) :: one (ADMIT_SINCE n) :: one (CHANNEL_PROTECTION.ADMIT_WAIT n) :: one (CHANNEL_PROTECTION.MODEL_FLAGS n) :: one (CHANNEL_PROTECTION.RETRIES_LEFT n) :: one (CHANNEL_STATUS.FLAGS n) :: one (STORED_WAIT n) :: []) W) :
    Leaves W L org (State.requestFromOff s n) := by
  delta State.requestFromOff
  repeat' first
    | with_reducible assumption
    | with_reducible apply State.setN_leaves
    | with_reducible apply State.setModelFlag_leaves
    | with_reducible apply State.askAdmission_leaves
    | (with_unfolding_none refine hW.covers ?_; repeat first | with_unfolding_none exact Covered.here | with_unfolding_none refine Covered.next ?_)
    | with_unfolding_none apply hW.sub (inSkip (inSkip (inSkip (inBoth inNil))))
    | with_unfolding_none apply hW.sub (inBoth (inBoth (inBoth (inSkip (inSkip (inBoth inNil))))))
    | (extract_lets +onlyGivenNames letX; have letT : True := (by clear_value letX; guard_hyp letX : State; trivial); clear letT; refine Leaves.cut (W := W) (L := L) (r := org) (v := letX) ?_ (fun letH => ?_); (focus subst letX); rotate_left; clear_value letX; revert letX; intro _ _)
    | with_reducible refine Leaves.ite ?_ ?_

theorem State.requestOff_leaves {W : List Span} {L : List Part} {org s : State} (n : Nat) (h : Leaves W L org s)
    (hW : Inside (one (ADMIT_KIND n) :: one (BANK.BANK_FLAGS ((bankOf n))) :: one (CELL n) :: one (CHANNEL_PROTECTION.MODEL_FLAGS n) :: one (CHANNEL_STATUS.FLAGS n) :: one (CHANNEL_STATUS.STANDING_GATE n) :: one (CHANNEL_STATUS.STATE n) :: one (GATE n) :: one (LAMP_LOW n) :: one (LAMP_TOLD n) :: one (LATCH n) :: one (LIMIT_EPISODE n) :: one (LIMIT_LEFT n) :: one (LIMIT_SINCE n) :: one (LIMIT_SPENT n) :: one (PEND n) :: one (PUMP_START ((bankOf n))) :: one (PUMP_STOP_AT ((bankOf n))) :: one (PWM_HIGH n) :: each RESET_OUTPUT.ASSERT_COUNT :: each RESET_OUTPUT.LAST_CHANGE_STAMP :: each RESET_OUTPUT.OUTPUT :: each RSO_GOOD_SINCE :: one (RUN_SINCE n) :: one (RUN_SPENT n) :: one (START_AT n) :: one (STORED_WAIT n) :: one (TRIP_STATE n) :: one (WIN n) :: []) W) (hL : Within ([.collector, .dieMsgs, .staged] : List Part) L) :
    Leaves W L org (State.requestOff s n) := by
  delta State.requestOff
  repeat' first
    | with_reducible assumption
    | with_reducible apply State.setN_leaves
    | with_reducible apply State.setModelFlag_leaves
    | with_reducible apply State.turnOff_leaves
    | with_reducible apply State.withdraw_leaves
    | (with_unfolding_none refine hW.covers ?_; repeat first | with_unfolding_none exact Covered.here | with_unfolding_none refine Covered.next ?_)
    | with_unfolding_none apply hW.sub (inSkip (inSkip (inSkip (inBoth inNil))))
    | with_unfolding_none apply hW.sub (inBoth (inBoth (inBoth (inBoth (inBoth (inBoth (inBoth (inBoth (inBoth (inBoth (inBoth (inBoth (inBoth (inBoth (inBoth (inBoth (inBoth (inBoth (inBoth (inBoth (inBoth (inBoth (inBoth (inBoth (inBoth (inBoth (inSkip (inSkip (inBoth inNil)))))))))))))))))))))))))))))
    | with_unfolding_none apply hW.sub (inBoth (inSkip (inSkip (inSkip (inBoth (inSkip (inSkip (inSkip (inSkip (inSkip (inSkip (inSkip (inSkip (inSkip (inSkip (inSkip (inSkip (inSkip (inSkip (inSkip (inSkip (inSkip (inSkip (inSkip (inSkip (inBoth inNil))))))))))))))))))))))))))
    | (with_reducible refine Within.trans ?_ hL; decide +kernel)
    | (extract_lets +onlyGivenNames letX; have letT : True := (by clear_value letX; guard_hyp letX : State; trivial); clear letT; refine Leaves.cut (W := W) (L := L) (r := org) (v := letX) ?_ (fun letH => ?_); (focus subst letX); rotate_left; clear_value letX; revert letX; intro _ _)
    | split
    | with_reducible refine Leaves.ofPair (by assumption) ?_

theorem State.requestOn_leaves {W : List Span} {L : List Part} {org s : State} (n : Nat) (h : Leaves W L org s)
    (hW : Inside (one (ADMIT_KIND n) :: one (ADMIT_SINCE n) :: one (CHANNEL_PROTECTION.ADMIT_WAIT n) :: one (CHANNEL_PROTECTION.MODEL_FLAGS n) :: one (CHANNEL_PROTECTION.RETRIES_LEFT n) :: one (CHANNEL_STATUS.FLAGS n) :: one (PEND n) :: one (STORED_WAIT n) :: []) W) :
    Leaves W L org (State.requestOn s n) := by
  delta State.requestOn
  repeat' first
    | with_reducible assumption
    | with_reducible apply State.setN_leaves
    | with_reducible apply State.requestFromOff_leaves
    | (with_unfolding_none refine hW.covers ?_; repeat first | with_unfolding_none exact Covered.here | with_unfolding_none refine Covered.next ?_)
    | with_unfolding_none apply hW.sub (inBoth (inBoth (inBoth (inBoth (inBoth (inBoth (inSkip (inBoth inNil))))))))
    | with_reducible refine Leaves.ite ?_ ?_
    | split
    | with_reducible refine Leaves.ofPair (by assumption) ?_

theorem State.requestPwm_leaves {W : List Span} {L : List Part} {org s : State} (n : Nat) (h : Leaves W L org s)
    (hW : Inside (one (ADMIT_KIND n) :: one (ADMIT_SINCE n) :: one (CHANNEL_PROTECTION.ADMIT_WAIT n) :: one (CHANNEL_PROTECTION.MODEL_FLAGS n) :: one (CHANNEL_PROTECTION.RETRIES_LEFT n) :: one (CHANNEL_STATUS.FLAGS n) :: one (PEND n) :: one (PWM_NEXT n) :: one (STORED_WAIT n) :: []) W) :
    Leaves W L org (State.requestPwm s n) := by
  delta State.requestPwm
  repeat' first
    | with_reducible assumption
    | with_reducible apply State.setN_leaves
    | with_reducible apply State.requestFromOff_leaves
    | with_reducible apply State.pendPwm_leaves
    | (with_unfolding_none refine hW.covers ?_; repeat first | with_unfolding_none exact Covered.here | with_unfolding_none refine Covered.next ?_)
    | with_unfolding_none apply hW.sub (inBoth (inBoth (inBoth (inBoth (inBoth (inBoth (inSkip (inSkip (inBoth inNil)))))))))
    | with_unfolding_none apply hW.sub (inSkip (inSkip (inSkip (inSkip (inSkip (inSkip (inBoth (inBoth inNil))))))))
    | with_reducible refine Leaves.ite ?_ ?_
    | split
    | with_reducible refine Leaves.ofPair (by assumption) ?_

theorem State.actOnRequest_leaves {W : List Span} {L : List Part} {org s : State} (n : Nat) (h : Leaves W L org s)
    (hW : Inside (one (ADMIT_KIND n) :: one (ADMIT_SINCE n) :: one (BANK.BANK_FLAGS ((bankOf n))) :: one (CELL n) :: one (CHANNEL_PROTECTION.ADMIT_WAIT n) :: one (CHANNEL_PROTECTION.MODEL_FLAGS n) :: one (CHANNEL_PROTECTION.RETRIES_LEFT n) :: one (CHANNEL_STATUS.FLAGS n) :: one (CHANNEL_STATUS.STANDING_GATE n) :: one (CHANNEL_STATUS.STATE n) :: one (GATE n) :: one (LAMP_LOW n) :: one (LAMP_TOLD n) :: one (LATCH n) :: one (LIMIT_EPISODE n) :: one (LIMIT_LEFT n) :: one (LIMIT_SINCE n) :: one (LIMIT_SPENT n) :: one (PEND n) :: one (PUMP_START ((bankOf n))) :: one (PUMP_STOP_AT ((bankOf n))) :: one (PWM_HIGH n) :: one (PWM_NEXT n) :: each RESET_OUTPUT.ASSERT_COUNT :: each RESET_OUTPUT.LAST_CHANGE_STAMP :: each RESET_OUTPUT.OUTPUT :: each RSO_GOOD_SINCE :: one (RUN_SINCE n) :: one (RUN_SPENT n) :: one (START_AT n) :: one (STORED_WAIT n) :: one (TRIP_STATE n) :: one (WIN n) :: []) W) (hL : Within ([.collector, .dieMsgs, .staged] : List Part) L) :
    Leaves W L org (State.actOnRequest s n) := by
  delta State.actOnRequest
  repeat' first
    | with_reducible assumption
    | with_reducible apply State.setN_leaves
    | with_reducible apply State.requestOff_leaves
    | with_reducible apply State.requestOn_leaves
    | with_reducible apply State.requestPwm_leaves
    | (with_unfolding_none refine hW.covers ?_; repeat first | with_unfolding_none exact Covered.here | with_unfolding_none refine Covered.next ?_)
    | with_unfolding_none apply hW.sub (inBoth (inSkip (inBoth (inBoth (inSkip (inBoth (inSkip (inBoth (inBoth (inBoth (inBoth (inBoth (inBoth (inBoth (inBoth (inBoth (inBoth (inBoth (inBoth (inBoth (inBoth (inBoth (inSkip (inBoth (inBoth (inBoth (inBoth (inBoth (inBoth (inBoth (inBoth (inBoth (inBoth inNil)))))))))))))))))))))))))))))))))
    | with_unfolding_none apply hW.sub (inBoth (inBoth (inSkip (inSkip (inBoth (inBoth (inBoth (inBoth (inSkip (inSkip (inSkip (inSkip (inSkip (inSkip (inSkip (inSkip (inSkip (inSkip (inBoth (inSkip (inSkip (inSkip (inSkip (inSkip (inSkip (inSkip (inSkip (inSkip (inSkip (inSkip (inBoth inNil)))))))))))))))))))))))))))))))
    | with_unfolding_none apply hW.sub (inBoth (inBoth (inSkip (inSkip (inBoth (inBoth (inBoth (inBoth (inSkip (inSkip (inSkip (inSkip (inSkip (inSkip (inSkip (inSkip (inSkip (inSkip (inBoth (inSkip (inSkip (inSkip (inBoth (inSkip (inSkip (inSkip (inSkip (inSkip (inSkip (inSkip (inBoth inNil)))))))))))))))))))))))))))))))
    | (with_reducible refine Within.trans ?_ hL; decide +kernel)
    | with_reducible refine Leaves.ite ?_ ?_
    | split
    | with_reducible refine Leaves.ofPair (by assumption) ?_

theorem State.setRequest_leaves {W : List Span} {L : List Part} {org s : State} (n v : Nat) (h : Leaves W L org s)
    (hW : Inside (one (CHANNEL_CONFIG.REQUEST n) :: one (inForce (CHANNEL_CONFIG.REQUEST n)) :: []) W) :
    Leaves W L org (State.setRequest s n v) := by
  delta State.setRequest
  repeat' first
    | with_reducible assumption
    | with_reducible apply State.setN_leaves
    | (with_unfolding_none refine hW.covers ?_; repeat first | with_unfolding_none exact Covered.here | with_unfolding_none refine Covered.next ?_)

theorem State.trip_leaves {W : List Span} {L : List Part} {org s : State} (n cause stage : Nat) (h : Leaves W L org s)
    (hW : Inside (one (ADMIT_KIND n) :: one (BANK.BANK_FLAGS ((bankOf n))) :: one (CELL n) :: one (CHANNEL_PROTECTION.MODEL_FLAGS n) :: one (CHANNEL_STATUS.FLAGS n) :: one (CHANNEL_STATUS.STANDING_GATE n) :: one (CHANNEL_STATUS.STATE n) :: one (CHANNEL_STATUS.TRIP_CAUSE n) :: one (CHANNEL_SUPERVISION.HARD_TRIPS n) :: one (CHANNEL_SUPERVISION.MODEL_TRIPS n) :: one (CHANNEL_SUPERVISION.TIMEOUT_TRIPS n) :: one (GATE n) :: one (LAMP_LOW n) :: one (LAMP_TOLD n) :: one (LATCH n) :: one (LIFE_NEW n) :: one (LIMIT_EPISODE n) :: one (LIMIT_LEFT n) :: one (LIMIT_SINCE n) :: one (LIMIT_SPENT n) :: one (PEND n) :: one (PUMP_START ((bankOf n))) :: one (PUMP_STOP_AT ((bankOf n))) :: one (PWM_HIGH n) :: each RESET_OUTPUT.ASSERT_COUNT :: each RESET_OUTPUT.LAST_CHANGE_STAMP :: each RESET_OUTPUT.OUTPUT :: each RSO_GOOD_SINCE :: one (RUN_SINCE n) :: one (RUN_SPENT n) :: one (STAND_EVENTS n) :: one (START_AT n) :: one (TRIP_FRAME n) :: one (TRIP_STATE n) :: one (WAIT_END n) :: one (WIN n) :: []) W) (hL : Within ([.collector, .dieMsgs, .shadows, .staged] : List Part) L) :
    Leaves W L org (State.trip s n cause stage) := by
  delta State.trip
  repeat' first
    | with_reducible assumption
    | with_reducible apply State.setN_leaves
    | with_reducible apply State.count_leaves
    | with_reducible apply State.setModelFlag_leaves
    | with_reducible apply State.withdraw_leaves
    | with_reducible apply State.cellTo_leaves
    | with_reducible apply State.stage_leaves
    | with_reducible apply State.openShadow_leaves
    | with_unfolding_none refine tripCounter_in ?_ ?_ ?_
    | (with_unfolding_none refine hW.covers ?_; repeat first | with_unfolding_none exact Covered.here | with_unfolding_none refine Covered.next ?_)
    | with_unfolding_none apply hW.sub (inSkip (inSkip (inSkip (inBoth inNil))))
    | with_unfolding_none apply hW.sub (inBoth (inSkip (inSkip (inSkip (inBoth (inSkip (inSkip (inSkip (inSkip (inSkip (inSkip (inSkip (inSkip (inSkip (inSkip (inSkip (inSkip (inSkip (inSkip (inSkip (inSkip (inSkip (inSkip (inSkip (inSkip (inSkip (inSkip (inSkip (inSkip (inSkip (inSkip (inBoth inNil))))))))))))))))))))))))))))))))
    | with_unfolding_none apply hW.sub (inSkip (inBoth (inBoth (inBoth (inBoth (inBoth (inBoth (inSkip (inSkip (inSkip (inSkip (inBoth (inBoth (inBoth (inBoth (inSkip (inBoth (inBoth (inBoth (inBoth (inSkip (inBoth (inBoth (inSkip (inBoth (inBoth (inBoth (inBoth (inBoth (inBoth (inSkip (inSkip (inSkip (inSkip (inSkip (inBoth inNil))))))))))))))))))))))))))))))))))))
    | with_unfolding_none apply hW.sub (inNil)
    | (with_reducible refine Within.trans ?_ hL; decide +kernel)
    | (extract_lets +onlyGivenNames letX; have letT : True := (by clear_value letX; guard_hyp letX : State; trivial); clear letT; refine Leaves.cut (W := W) (L := L) (r := org) (v := letX) ?_ (fun letH => ?_); (focus subst letX); rotate_left; clear_value letX; revert letX; intro _ _)
    | with_reducible refine Leaves.ite ?_ ?_

theorem State.lockoutTold_leaves {W : List Span} {L : List Part} {org s : State} (n : Nat) (h : Leaves W L org s) (hL : Within ([.dieMsgs] : List Part) L) :
    Leaves W L org (State.lockoutTold s n) := by
  delta State.lockoutTold
  repeat' first
    | with_reducible assumption
    | with_reducible apply State.raiseChannel_leaves
    | (with_reducible refine Within.trans ?_ hL; decide +kernel)
    | with_reducible refine Leaves.ite ?_ ?_

theorem State.raiseCell_leaves {W : List Span} {L : List Part} {org s : State} (k : Kind) (n e c obj : Nat) (fields : List (Nat × Int)) (h : Leaves W L org s) (hL : Within ([.dieMsgs] : List Part) L) :
    Leaves W L org (State.raiseCell s k n e c obj fields) := by
  delta State.raiseCell
  repeat' first
    | with_reducible assumption
    | with_reducible apply State.raiseDie_leaves
    | (with_reducible refine Within.trans ?_ hL; decide +kernel)

theorem State.staleEpisode_leaves {W : List Span} {L : List Part} {org s : State} (k e : Nat) (h : Leaves W L org s)
    (hW : Inside (one k :: []) W) :
    Leaves W L org (State.staleEpisode s k e).2 := by
  delta State.staleEpisode
  repeat' first
    | with_reducible assumption
    | with_reducible apply State.setN_leaves
    | (with_unfolding_none refine hW.covers ?_; repeat first | with_unfolding_none exact Covered.here | with_unfolding_none refine Covered.next ?_)
    | (extract_lets +onlyGivenNames letX; clear_value letX; revert letX; intro _)
    | with_reducible refine Leaves.iteP ?_ ?_
    | with_reducible refine Leaves.ite ?_ ?_

theorem State.takeShuntTemp_leaves {W : List Span} {L : List Part} {org s : State} (n : Nat) (h : Leaves W L org s)
    (hW : Inside (one (CHANNEL_STATUS.FLAGS n) :: one (CHANNEL_STATUS.SHUNT_TEMP n) :: one ((STALE_TOLD n 2)) :: []) W) (hL : Within ([.dieMsgs] : List Part) L) :
    Leaves W L org (State.takeShuntTemp s n) := by
  delta State.takeShuntTemp
  repeat' first
    | with_reducible assumption
    | with_reducible apply State.set_leaves
    | with_reducible apply State.staleEpisode_leaves
    | with_reducible apply State.setChFlag_leaves
    | with_reducible apply State.raiseChannel_leaves
    | (with_unfolding_none refine hW.covers ?_; repeat first | with_unfolding_none exact Covered.here | with_unfolding_none refine Covered.next ?_)
    | with_unfolding_none apply hW.sub (inSkip (inSkip (inBoth inNil)))
    | with_unfolding_none apply hW.sub (inBoth inNil)
    | with_unfolding_none apply hW.sub (inNil)
    | (with_reducible refine Within.trans ?_ hL; decide +kernel)
    | (extract_lets +onlyGivenNames letX; have letT : True := (by clear_value letX; guard_hyp letX : State; trivial); clear letT; refine Leaves.cut (W := W) (L := L) (r := org) (v := letX) ?_ (fun letH => ?_); (focus subst letX); rotate_left; clear_value letX; revert letX; intro _ _)
    | (extract_lets +onlyGivenNames letX; have letT : True := (by clear_value letX; revert letX; with_reducible exact Keeps.isPair); clear letT; refine Leaves.cut (W := W) (L := L) (r := org) (v := letX.2) ?_ (fun letH => ?_); (focus subst letX); rotate_left; clear_value letX; revert letX; intro _ _)
    | (extract_lets +onlyGivenNames letX; clear_value letX; revert letX; intro _)
    | with_reducible refine Leaves.iteP ?_ ?_
    | with_reducible refine Leaves.ite ?_ ?_

theorem State.takeRefs_leaves {W : List Span} {L : List Part} {org s : State} (n : Nat) (h : Leaves W L org s)
    (hW : Inside (one (CHANNEL_PROTECTION.MODEL_FLAGS n) :: one (FET_REF n) :: one (WIRE_REF n) :: one ((STALE_TOLD n 0)) :: one ((STALE_TOLD n 1)) :: []) W) (hL : Within ([.dieMsgs] : List Part) L) :
    Leaves W L org (State.takeRefs s n) := by
  delta State.takeRefs
  repeat' first
    | with_reducible assumption
    | with_reducible apply State.set_leaves
    | with_reducible apply State.staleEpisode_leaves
    | with_reducible apply State.setModelFlag_leaves
    | with_reducible apply State.raiseChannel_leaves
    | (with_unfolding_none refine hW.covers ?_; repeat first | with_unfolding_none exact Covered.here | with_unfolding_none refine Covered.next ?_)
    | with_unfolding_none apply hW.sub (inSkip (inSkip (inSkip (inBoth inNil))))
    | with_unfolding_none apply hW.sub (inSkip (inSkip (inSkip (inSkip (inBoth inNil)))))
    | with_unfolding_none apply hW.sub (inBoth inNil)
    | with_unfolding_none apply hW.sub (inNil)
    | (with_reducible refine Within.trans ?_ hL; decide +kernel)
    | (extract_lets +onlyGivenNames letX; have letT : True := (by clear_value letX; guard_hyp letX : State; trivial); clear letT; refine Leaves.cut (W := W) (L := L) (r := org) (v := letX) ?_ (fun letH => ?_); (focus subst letX); rotate_left; clear_value letX; revert letX; intro _ _)
    | (extract_lets +onlyGivenNames letX; have letT : True := (by clear_value letX; revert letX; with_reducible exact Keeps.isPair); clear letT; refine Leaves.cut (W := W) (L := L) (r := org) (v := letX.2) ?_ (fun letH => ?_); (focus subst letX); rotate_left; clear_value letX; revert letX; intro _ _)
    | (extract_lets +onlyGivenNames letX; clear_value letX; revert letX; intro _)
    | with_reducible refine Leaves.iteP ?_ ?_
    | with_reducible refine Leaves.ite ?_ ?_

theorem State.wireStep_leaves {W : List Span} {L : List Part} {org s : State} (n : Nat) (h : Leaves W L org s)
    (hW : Inside (one (WIRE1 n) :: one (WIRE2 n) :: one (WIRE_NOW n) :: []) W) (hL : Within ([.free] : List Part) L) :
    Leaves W L org (State.wireStep s n) := by
  delta State.wireStep
  repeat' first
    | with_reducible assumption
    | with_reducible apply State.set_leaves
    | with_reducible apply State.takeFreeIn_leaves
    | (with_unfolding_none refine hW.covers ?_; repeat first | with_unfolding_none exact Covered.here | with_unfolding_none refine Covered.next ?_)
    | with_reducible exact hL _ (by decide +kernel)
    | (extract_lets +onlyGivenNames letX; have letT : True := (by clear_value letX; guard_hyp letX : State; trivial); clear letT; refine Leaves.cut (W := W) (L := L) (r := org) (v := letX) ?_ (fun letH => ?_); (focus subst letX); rotate_left; clear_value letX; revert letX; intro _ _)
    | (extract_lets +onlyGivenNames letX; have letT : True := (by clear_value letX; revert letX; with_reducible exact Keeps.isPair); clear letT; refine Leaves.cut (W := W) (L := L) (r := org) (v := letX.2) ?_ (fun letH => ?_); (focus subst letX); rotate_left; clear_value letX; revert letX; intro _ _)
    | (extract_lets +onlyGivenNames letX; clear_value letX; revert letX; intro _)
    | with_reducible refine Leaves.iteP ?_ ?_
    | with_reducible refine Leaves.ite ?_ ?_

theorem State.fetStep_leaves {W : List Span} {L : List Part} {org s : State} (n : Nat) (h : Leaves W L org s)
    (hW : Inside (one (FET1 n) :: one (FET2 n) :: one (FET_NOW n) :: []) W) (hL : Within ([.free] : List Part) L) :
    Leaves W L org (State.fetStep s n) := by
  delta State.fetStep
  repeat' first
    | with_reducible assumption
    | with_reducible apply State.set_leaves
    | with_reducible apply State.takeFreeIn_leaves
    | (with_unfolding_none refine hW.covers ?_; repeat first | with_unfolding_none exact Covered.here | with_unfolding_none refine Covered.next ?_)
    | with_reducible exact hL _ (by decide +kernel)
    | (extract_lets +onlyGivenNames letX; have letT : True := (by clear_value letX; guard_hyp letX : State; trivial); clear letT; refine Leaves.cut (W := W) (L := L) (r := org) (v := letX) ?_ (fun letH => ?_); (focus subst letX); rotate_left; clear_value letX; revert letX; intro _ _)
    | (extract_lets +onlyGivenNames letX; have letT : True := (by clear_value letX; revert letX; with_reducible exact Keeps.isPair); clear letT; refine Leaves.cut (W := W) (L := L) (r := org) (v := letX.2) ?_ (fun letH => ?_); (focus subst letX); rotate_left; clear_value letX; revert letX; intro _ _)
    | (extract_lets +onlyGivenNames letX; clear_value letX; revert letX; intro _)
    | with_reducible refine Leaves.iteP ?_ ?_
    | with_reducible refine Leaves.ite ?_ ?_

theorem State.wireStart_leaves {W : List Span} {L : List Part} {org s : State} (n : Nat) (warm : Bool) (h : Leaves W L org s)
    (hW : Inside (one (WIRE1 n) :: one (WIRE2 n) :: one (WIRE_NOW n) :: []) W) :
    Leaves W L org (State.wireStart s n warm) := by
  delta State.wireStart
  repeat' first
    | with_reducible assumption
    | with_reducible apply State.set_leaves
    | (with_unfolding_none refine hW.covers ?_; repeat first | with_unfolding_none exact Covered.here | with_unfolding_none refine Covered.next ?_)
    | (extract_lets +onlyGivenNames letX; have letT : True := (by clear_value letX; guard_hyp letX : State; trivial); clear letT; refine Leaves.cut (W := W) (L := L) (r := org) (v := letX) ?_ (fun letH => ?_); (focus subst letX); rotate_left; clear_value letX; revert letX; intro _ _)
    | (extract_lets +onlyGivenNames letX; clear_value letX; revert letX; intro _)
    | with_reducible refine Leaves.ite ?_ ?_

theorem State.fetStart_leaves {W : List Span} {L : List Part} {org s : State} (n : Nat) (warm : Bool) (h : Leaves W L org s)
    (hW : Inside (one (FET1 n) :: one (FET2 n) :: one (FET_NOW n) :: []) W) :
    Leaves W L org (State.fetStart s n warm) := by
  delta State.fetStart
  repeat' first
    | with_reducible assumption
    | with_reducible apply State.set_leaves
    | (with_unfolding_none refine hW.covers ?_; repeat first | with_unfolding_none exact Covered.here | with_unfolding_none refine Covered.next ?_)
    | (extract_lets +onlyGivenNames letX; have letT : True := (by clear_value letX; guard_hyp letX : State; trivial); clear letT; refine Leaves.cut (W := W) (L := L) (r := org) (v := letX) ?_ (fun letH => ?_); (focus subst letX); rotate_left; clear_value letX; revert letX; intro _ _)
    | (extract_lets +onlyGivenNames letX; clear_value letX; revert letX; intro _)
    | with_reducible refine Leaves.ite ?_ ?_

theorem State.modelWarnings_leaves {W : List Span} {L : List Part} {org s : State} (n : Nat) (h : Leaves W L org s)
    (hW : Inside (one (CHANNEL_PROTECTION.MODEL_FLAGS n) :: []) W) (hL : Within ([.dieMsgs] : List Part) L) :
    Leaves W L org (State.modelWarnings s n) := by
  delta State.modelWarnings
  repeat' first
    | with_reducible assumption
    | with_reducible apply State.setModelFlag_leaves
    | with_reducible apply State.raiseChannel_leaves
    | with_unfolding_none apply hW.sub (inBoth inNil)
    | with_unfolding_none apply hW.sub (inNil)
    | (with_reducible refine Within.trans ?_ hL; decide +kernel)
    | (extract_lets +onlyGivenNames letX; have letT : True := (by clear_value letX; guard_hyp letX : State; trivial); clear letT; refine Leaves.cut (W := W) (L := L) (r := org) (v := letX) ?_ (fun letH => ?_); (focus subst letX); rotate_left; clear_value letX; revert letX; intro _ _)
    | (extract_lets +onlyGivenNames letX; clear_value letX; revert letX; intro _)
    | with_reducible refine Leaves.ite ?_ ?_

theorem State.captureSees_leaves {W : List Span} {L : List Part} {org s : State} (n : Nat) (h : Leaves W L org s)
    (hW : Inside (each CAP_SEEN :: []) W) :
    Leaves W L org (State.captureSees s n) := by
  delta State.captureSees
  repeat' first
    | with_reducible assumption
    | with_reducible apply State.setN_leaves
    | (with_unfolding_none refine hW.covers ?_; repeat first | with_unfolding_none exact Covered.here | with_unfolding_none exact CAP_SEEN_in | with_unfolding_none refine Covered.next ?_)
    | (extract_lets +onlyGivenNames letX; clear_value letX; revert letX; intro _)
    | with_reducible refine Leaves.ite ?_ ?_

theorem State.modelTrips_leaves {W : List Span} {L : List Part} {org s : State} (n : Nat) (h : Leaves W L org s)
    (hW : Inside (one (ADMIT_KIND n) :: one (BANK.BANK_FLAGS ((bankOf n))) :: each CAP_SEEN :: one (CELL n) :: one (CHANNEL_PROTECTION.MODEL_FLAGS n) :: one (CHANNEL_STATUS.FLAGS n) :: one (CHANNEL_STATUS.STANDING_GATE n) :: one (CHANNEL_STATUS.STATE n) :: one (CHANNEL_STATUS.TRIP_CAUSE n) :: one (CHANNEL_SUPERVISION.HARD_TRIPS n) :: one (CHANNEL_SUPERVISION.MODEL_TRIPS n) :: one (CHANNEL_SUPERVISION.TIMEOUT_TRIPS n) :: one (GATE n) :: one (LAMP_LOW n) :: one (LAMP_TOLD n) :: one (LATCH n) :: one (LIFE_NEW n) :: one (LIMIT_EPISODE n) :: one (LIMIT_LEFT n) :: one (LIMIT_SINCE n) :: one (LIMIT_SPENT n) :: one (PEND n) :: one (PUMP_START ((bankOf n))) :: one (PUMP_STOP_AT ((bankOf n))) :: one (PWM_HIGH n) :: each RESET_OUTPUT.ASSERT_COUNT :: each RESET_OUTPUT.LAST_CHANGE_STAMP :: each RESET_OUTPUT.OUTPUT :: each RSO_GOOD_SINCE :: one (RUN_SINCE n) :: one (RUN_SPENT n) :: one (STAND_EVENTS n) :: one (START_AT n) :: one (TRIP_FRAME n) :: one (TRIP_STATE n) :: one (WAIT_END n) :: one (WIN n) :: []) W) (hL : Within ([.collector, .dieMsgs, .shadows, .staged] : List Part) L) :
    Leaves W L org (State.modelTrips s n) := by
  delta State.modelTrips
  repeat' first
    | with_reducible assumption
    | with_reducible apply State.captureSees_leaves
    | with_reducible apply State.trip_leaves
    | with_reducible apply State.setModelFlag_leaves
    | with_reducible apply State.raiseChannel_leaves
    | with_reducible apply State.lockoutTold_leaves
    | with_unfolding_none apply hW.sub (inSkip (inSkip (inBoth inNil)))
    | with_unfolding_none apply hW.sub (inBoth (inBoth (inSkip (inBoth (inBoth (inBoth (inBoth (inBoth (inBoth (inBoth (inBoth (inBoth (inBoth (inBoth (inBoth (inBoth (inBoth (inBoth (inBoth (inBoth (inBoth (inBoth (inBoth (inBoth (inBoth (inBoth (inBoth (inBoth (inBoth (inBoth (inBoth (inBoth (inBoth (inBoth (inBoth (inBoth (inBoth inNil)))))))))))))))))))))))))))))))))))))
    | with_unfolding_none apply hW.sub (inSkip (inSkip (inSkip (inSkip (inBoth inNil)))))
    | with_unfolding_none apply hW.sub (inNil)
    | (with_reducible refine Within.trans ?_ hL; decide +kernel)
    | (extract_lets +onlyGivenNames letX; have letT : True := (by clear_value letX; guard_hyp letX : State; trivial); clear letT; refine Leaves.cut (W := W) (L := L) (r := org) (v := letX) ?_ (fun letH => ?_); (focus subst letX); rotate_left; clear_value letX; revert letX; intro _ _)
    | (extract_lets +onlyGivenNames letX; clear_value letX; revert letX; intro _)
    | with_reducible refine Leaves.ite ?_ ?_

theorem State.coolingRelease_leaves {W : List Span} {L : List Part} {org s : State} (n : Nat) (h : Leaves W L org s)
    (hW : Inside (one (ADMIT_KIND n) :: one (ADMIT_SINCE n) :: one (CHANNEL_PROTECTION.ADMIT_WAIT n) :: one (CHANNEL_PROTECTION.MODEL_FLAGS n) :: one (CHANNEL_STATUS.FLAGS n) :: []) W) (hL : Within ([.dieMsgs] : List Part) L) :
    Leaves W L org (State.coolingRelease s n) := by
  delta State.coolingRelease
  repeat' first
    | with_reducible assumption
    | with_reducible apply State.setN_leaves
    | with_reducible apply State.setModelFlag_leaves
    | with_reducible apply State.raiseCell_leaves
    | with_reducible apply State.askAdmission_leaves
    | (with_unfolding_none refine hW.covers ?_; repeat first | with_unfolding_none exact Covered.here | with_unfolding_none refine Covered.next ?_)
    | with_unfolding_none apply hW.sub (inSkip (inSkip (inSkip (inBoth inNil))))
    | with_unfolding_none apply hW.sub (inNil)
    | with_unfolding_none apply hW.sub (inBoth (inBoth (inBoth (inSkip (inBoth inNil)))))
    | (with_reducible refine Within.trans ?_ hL; decide +kernel)
    | (extract_lets +onlyGivenNames letX; have letT : True := (by clear_value letX; guard_hyp letX : State; trivial); clear letT; refine Leaves.cut (W := W) (L := L) (r := org) (v := letX) ?_ (fun letH => ?_); (focus subst letX); rotate_left; clear_value letX; revert letX; intro _ _)
    | with_reducible refine Leaves.ite ?_ ?_

theorem State.modelUpdate_leaves {W : List Span} {L : List Part} {org s : State} (n : Nat) (h : Leaves W L org s)
    (hW : Inside (one (ADMIT_KIND n) :: one (ADMIT_SINCE n) :: one (BANK.BANK_FLAGS ((bankOf n))) :: each CAP_SEEN :: one (CELL n) :: one (CHANNEL_PROTECTION.ADMIT_WAIT n) :: one (CHANNEL_PROTECTION.MODEL_FLAGS n) :: one (CHANNEL_STATUS.FLAGS n) :: one (CHANNEL_STATUS.STANDING_GATE n) :: one (CHANNEL_STATUS.STATE n) :: one (CHANNEL_STATUS.TRIP_CAUSE n) :: one (CHANNEL_SUPERVISION.HARD_TRIPS n) :: one (CHANNEL_SUPERVISION.MODEL_TRIPS n) :: one (CHANNEL_SUPERVISION.TIMEOUT_TRIPS n) :: one (FET1 n) :: one (FET2 n) :: one (FET_NOW n) :: one (GATE n) :: one (LAMP_LOW n) :: one (LAMP_TOLD n) :: one (LATCH n) :: one (LIFE_NEW n) :: one (LIMIT_EPISODE n) :: one (LIMIT_LEFT n) :: one (LIMIT_SINCE n) :: one (LIMIT_SPENT n) :: one (PEND n) :: one (PUMP_START ((bankOf n))) :: one (PUMP_STOP_AT ((bankOf n))) :: one (PWM_HIGH n) :: each RESET_OUTPUT.ASSERT_COUNT :: each RESET_OUTPUT.LAST_CHANGE_STAMP :: each RESET_OUTPUT.OUTPUT :: each RSO_GOOD_SINCE :: one (RUN_SINCE n) :: one (RUN_SPENT n) :: one (STAND_EVENTS n) :: one (START_AT n) :: one (TRIP_FRAME n) :: one (TRIP_STATE n) :: one (WAIT_END n) :: one (WIN n) :: one (WIRE1 n) :: one (WIRE2 n) :: one (WIRE_NOW n) :: []) W) (hL : Within ([.collector, .dieMsgs, .free, .shadows, .staged] : List Part) L) :
    Leaves W L org (State.modelUpdate s n) := by
  delta State.modelUpdate
  repeat' first
    | with_reducible assumption
    | with_reducible apply State.wireStep_leaves
    | with_reducible apply State.fetStep_leaves
    | with_reducible apply State.modelTrips_leaves
    | with_reducible apply State.modelWarnings_leaves
    | with_reducible apply State.coolingRelease_leaves
    | with_unfolding_none apply hW.sub (inSkip (inSkip (inSkip (inSkip (inSkip (inSkip (inSkip (inSkip (inSkip (inSkip (inSkip (inSkip (inSkip (inSkip (inSkip (inSkip (inSkip (inSkip (inSkip (inSkip (inSkip (inSkip (inSkip (inSkip (inSkip (inSkip (inSkip (inSkip (inSkip (inSkip (inSkip (inSkip (inSkip (inSkip (inSkip (inSkip (inSkip (inSkip (inSkip (inSkip (inSkip (inSkip (inBoth (inBoth (inBoth inNil)))))))))))))))))))))))))))))))))))))))))))))
    | with_unfolding_none apply hW.sub (inSkip (inSkip (inSkip (inSkip (inSkip (inSkip (inSkip (inSkip (inSkip (inSkip (inSkip (inSkip (inSkip (inSkip (inBoth (inBoth (inBoth inNil)))))))))))))))))
    | with_unfolding_none apply hW.sub (inBoth (inSkip (inBoth (inBoth (inBoth (inSkip (inBoth (inBoth (inBoth (inBoth (inBoth (inBoth (inBoth (inBoth (inSkip (inSkip (inSkip (inBoth (inBoth (inBoth (inBoth (inBoth (inBoth (inBoth (inBoth (inBoth (inBoth (inBoth (inBoth (inBoth (inBoth (inBoth (inBoth (inBoth (inBoth (inBoth (inBoth (inBoth (inBoth (inBoth (inBoth (inBoth inNil))))))))))))))))))))))))))))))))))))))))))
    | with_unfolding_none apply hW.sub (inSkip (inSkip (inSkip (inSkip (inSkip (inSkip (inBoth inNil)))))))
    | with_unfolding_none apply hW.sub (inBoth (inBoth (inSkip (inSkip (inSkip (inBoth (inBoth (inBoth inNil))))))))
    | (with_reducible refine Within.trans ?_ hL; decide +kernel)
    | with_reducible refine Leaves.ite ?_ ?_

theorem State.endShares_leaves {W : List Span} {L : List Part} {org s : State} (l : List Nat) (h : Leaves W L org s)
    (hW : Inside (each SHARE_HELD :: each SHARE_PEAK :: []) W) :
    Leaves W L org (State.endShares s l) := by
  delta State.endShares
  repeat' first
    | with_reducible assumption
    | with_reducible apply State.setN_leaves
    | (with_unfolding_none refine hW.covers ?_; repeat first | with_unfolding_none exact Covered.here | with_unfolding_none exact SHARE_HELD_in | with_unfolding_none exact SHARE_PEAK_in | with_unfolding_none refine Covered.next ?_)
    | with_reducible refine Leaves.ite ?_ ?_
    | with_reducible refine forEach_leaves ?_ (fun _ _ _ => ?_)

theorem State.grantStart_leaves {W : List Span} {L : List Part} {org s : State} (n : Nat) (forced : Bool) (h : Leaves W L org s)
    (hW : Inside (one (CHANNEL_STATUS.FLAGS n) :: one (SHARE_END n) :: one (SHARE_HELD n) :: one (SHARE_PEAK n) :: one (START_AT n) :: one (START_GENTLE n) :: []) W) :
    Leaves W L org (State.grantStart s n forced) := by
  delta State.grantStart
  repeat' first
    | with_reducible assumption
    | with_reducible apply State.setN_leaves
    | with_reducible apply State.setFlag_leaves
    | with_reducible apply State.setChFlag_leaves
    | (with_unfolding_none refine hW.covers ?_; repeat first | with_unfolding_none exact Covered.here | with_unfolding_none refine Covered.next ?_)
    | with_unfolding_none apply hW.sub (inBoth inNil)
    | (extract_lets +onlyGivenNames letX; have letT : True := (by clear_value letX; guard_hyp letX : State; trivial); clear letT; refine Leaves.cut (W := W) (L := L) (r := org) (v := letX) ?_ (fun letH => ?_); (focus subst letX); rotate_left; clear_value letX; revert letX; intro _ _)
    | (extract_lets +onlyGivenNames letX; clear_value letX; revert letX; intro _)
    | with_reducible refine Leaves.ite ?_ ?_

theorem State.ordinaryPass_leaves {W : List Span} {L : List Part} {org s : State} (budget load left shares : Nat) (l : List Nat)
    (h : Leaves W L org s)
    (hW : Inside (each CHANNEL_STATUS.FLAGS :: each SHARE_END :: each SHARE_HELD :: each SHARE_PEAK :: each START_AT :: each START_GENTLE :: []) W) :
    Leaves W L org (State.ordinaryPass budget load left shares l s) := by
  induction l generalizing s load left shares with
  | nil => exact h
  | cons n l ih =>
    unfold State.ordinaryPass
    repeat' first
      | with_reducible assumption
      | with_reducible apply ih
      | with_reducible apply State.grantStart_leaves
      | with_unfolding_none apply hW.sub (CHANNEL_STATUS.FLAGS_wide (inSkip (SHARE_END_wide (inSkip (SHARE_HELD_wide (inSkip (SHARE_PEAK_wide (inSkip (START_AT_wide (inSkip (START_GENTLE_wide inNil)))))))))))
      | (with_reducible refine Within.trans ?_ hL; decide +kernel)
      | with_reducible refine Leaves.ite ?_ ?_
      | (extract_lets +onlyGivenNames letX; clear_value letX; revert letX; intro _)

theorem State.admissionRun_leaves {W : List Span} {L : List Part} {org s : State} (g : Nat) (h : Leaves W L org s)
    (hW : Inside (one (BUDGET_GROUP.FORCED_COUNT g) :: one (BUDGET_GROUP.GROUP_LOAD g) :: one (BUDGET_GROUP.LONGEST_WAIT g) :: one (BUDGET_GROUP.SHARES_HELD g) :: one (BUDGET_GROUP.WAITING g) :: one (BUDGET_OVER g) :: each CHANNEL_PROTECTION.ADMIT_WAIT :: each CHANNEL_STATUS.FLAGS :: each SHARE_END :: each SHARE_HELD :: each SHARE_PEAK :: each START_AT :: each START_GENTLE :: []) W) (hL : Within ([.collector] : List Part) L) :
    Leaves W L org (State.admissionRun s g) := by
  delta State.admissionRun
  repeat' first
    | with_reducible assumption
    | with_reducible apply State.setN_leaves
    | with_reducible apply State.count_leaves
    | with_reducible apply State.endShares_leaves
    | with_reducible apply State.grantStart_leaves
    | with_reducible apply State.ordinaryPass_leaves
    | with_reducible apply State.raise_leaves
    | (with_unfolding_none refine hW.covers ?_; repeat first | with_unfolding_none exact Covered.here | with_unfolding_none exact CHANNEL_PROTECTION.ADMIT_WAIT_in | with_unfolding_none refine Covered.next ?_)
    | with_unfolding_none apply hW.sub (inSkip (inSkip (inSkip (inSkip (inSkip (inSkip (inSkip (inSkip (inSkip (inBoth (inBoth inNil)))))))))))
    | with_unfolding_none apply hW.sub (inSkip (inSkip (inSkip (inSkip (inSkip (inSkip (inSkip (CHANNEL_STATUS.FLAGS_wide (inSkip (SHARE_END_wide (inSkip (SHARE_HELD_wide (inSkip (SHARE_PEAK_wide (inSkip (START_AT_wide (inSkip (START_GENTLE_wide inNil))))))))))))))))))
    | with_unfolding_none apply hW.sub (inSkip (inSkip (inSkip (inSkip (inSkip (inSkip (inSkip (inBoth (inBoth (inBoth (inBoth (inBoth (inBoth inNil)))))))))))))
    | with_unfolding_none apply hW.sub (inNil)
    | (with_reducible refine Within.trans ?_ hL; decide +kernel)
    | (extract_lets +onlyGivenNames letX; have letT : True := (by clear_value letX; guard_hyp letX : State; trivial); clear letT; refine Leaves.cut (W := W) (L := L) (r := org) (v := letX) ?_ (fun letH => ?_); (focus subst letX); rotate_left; clear_value letX; revert letX; intro _ _)
    | (extract_lets +onlyGivenNames letX; clear_value letX; revert letX; intro _)
    | with_reducible refine Leaves.ite ?_ ?_
    | with_reducible refine forEach_leaves ?_ (fun _ _ _ => ?_)

theorem State.admittedStarts_leaves {W : List Span} {L : List Part} {org s : State} (h : Leaves W L org s)
    (hW : Inside (each ADMIT_KIND :: each BANK.BANK_FLAGS :: each BLANK_UNTIL :: each CELL :: each CHANNEL_PROTECTION.MODEL_FLAGS :: each CHANNEL_STATUS.FLAGS :: each CHANNEL_STATUS.STANDING_GATE :: each CHANNEL_STATUS.STATE :: each CHANNEL_SUPERVISION.RETRIES :: each CHANNEL_SUPERVISION.STARTS :: each GATE :: each LAMP_AT :: each LAMP_LOW :: each LAMP_TOLD :: each LATCH :: each LIMIT_EPISODE :: each LIMIT_LEFT :: each LIMIT_SINCE :: each LIMIT_SPENT :: each ND_GROUP :: each PUMP_START :: each PUMP_STOP_AT :: each RAMP_RETRY :: each RAMP_START :: each RESET_OUTPUT.ASSERT_COUNT :: each RESET_OUTPUT.LAST_CHANGE_STAMP :: each RESET_OUTPUT.OUTPUT :: each RSO_GOOD_SINCE :: each RUN_SINCE :: each RUN_SPENT :: each START_AT :: each WIN :: []) W) (hL : Within ([.collector, .dieMsgs] : List Part) L) :
    Leaves W L org (State.admittedStarts s) := by
  delta State.admittedStarts
  repeat' first
    | with_reducible assumption
    | with_reducible apply State.startRamp_leaves
    | with_unfolding_none apply hW.sub (ADMIT_KIND_wide (inSkip (BANK.BANK_FLAGS_wide (inSkip (BLANK_UNTIL_wide (inSkip (CELL_wide (inSkip (CHANNEL_PROTECTION.MODEL_FLAGS_wide (inSkip (CHANNEL_STATUS.FLAGS_wide (inSkip (CHANNEL_STATUS.STANDING_GATE_wide (inSkip (CHANNEL_STATUS.STATE_wide (inSkip (CHANNEL_SUPERVISION.RETRIES_wide (inSkip (CHANNEL_SUPERVISION.STARTS_wide (inSkip (GATE_wide (inSkip (LAMP_AT_wide (inSkip (LAMP_LOW_wide (inSkip (LAMP_TOLD_wide (inSkip (LATCH_wide (inSkip (LIMIT_EPISODE_wide (inSkip (LIMIT_LEFT_wide (inSkip (LIMIT_SINCE_wide (inSkip (LIMIT_SPENT_wide (inSkip (ND_GROUP_wide (inSkip (PUMP_START_wide (inSkip (PUMP_STOP_AT_wide (inSkip (RAMP_RETRY_wide (inSkip (RAMP_START_wide (inSkip (inBoth (inBoth (inBoth (inBoth (RUN_SINCE_wide (inSkip (RUN_SPENT_wide (inSkip (START_AT_wide (inSkip (WIN_wide inNil)))))))))))))))))))))))))))))))))))))))))))))))))))))))))))
    | (with_reducible refine Within.trans ?_ hL; decide +kernel)
    | (extract_lets +onlyGivenNames letX; clear_value letX; revert letX; intro _)
    | with_reducible refine Leaves.ite ?_ ?_
    | with_reducible refine forBelow_leaves ?_ (fun _ _ _ => ?_)

theorem State.swapAbort_leaves {W : List Span} {L : List Part} {org s : State} (p result : Nat) (h : Leaves W L org s)
    (hW : Inside (each ADMIT_KIND :: each BANK.BANK_FLAGS :: one (CASTLING_PAIR.SWAP_RESULT p) :: one (CASTLING_PAIR.SWAP_STATE p) :: each CELL :: each CHANNEL_CONFIG.REQUEST :: each CHANNEL_PROTECTION.MODEL_FLAGS :: each CHANNEL_STATUS.FLAGS :: each CHANNEL_STATUS.STANDING_GATE :: each CHANNEL_STATUS.STATE :: each FOLD_WAIT :: each GATE :: each LAMP_LOW :: each LAMP_TOLD :: each LATCH :: each LIMIT_EPISODE :: each LIMIT_LEFT :: each LIMIT_SINCE :: each LIMIT_SPENT :: each PEND :: each PUMP_START :: each PUMP_STOP_AT :: each PWM_HIGH :: each RESET_OUTPUT.ASSERT_COUNT :: each RESET_OUTPUT.LAST_CHANGE_STAMP :: each RESET_OUTPUT.OUTPUT :: each RSO_GOOD_SINCE :: each RUN_SINCE :: each RUN_SPENT :: each START_AT :: each STORED_WAIT :: one (SWAP_IN p) :: each TRIP_STATE :: each WIN :: (each fun n => inForce (CHANNEL_CONFIG.REQUEST n)) :: []) W) (hL : Within ([.collector, .dieMsgs, .staged] : List Part) L) :
    Leaves W L org (State.swapAbort s p result) := by
  delta State.swapAbort
  repeat' first
    | with_reducible assumption
    | with_reducible apply State.setN_leaves
    | with_reducible apply State.setRequest_leaves
    | with_reducible apply State.requestOff_leaves
    | with_reducible apply State.raise_leaves
    | (with_unfolding_none refine hW.covers ?_; repeat first | with_unfolding_none exact Covered.here | with_unfolding_none exact FOLD_WAIT_in | with_unfolding_none refine Covered.next ?_)
    | with_unfolding_none apply hW.sub (inSkip (inSkip (inSkip (inSkip (inSkip (CHANNEL_CONFIG.REQUEST_wide (inSkip (inSkip (inSkip (inSkip (inSkip (inSkip (inSkip (inSkip (inSkip (inSkip (inSkip (inSkip (inSkip (inSkip (inSkip (inSkip (inSkip (inSkip (inSkip (inSkip (inSkip (inSkip (inSkip (inSkip (inSkip (inSkip (inSkip (inSkip (inSkip (inForce_CHANNEL_CONFIG.REQUEST_wide inNil))))))))))))))))))))))))))))))))))))
    | with_unfolding_none apply hW.sub (ADMIT_KIND_wide (inSkip (BANK.BANK_FLAGS_wide (inSkip (inSkip (inSkip (CELL_wide (inSkip (inSkip (CHANNEL_PROTECTION.MODEL_FLAGS_wide (inSkip (CHANNEL_STATUS.FLAGS_wide (inSkip (CHANNEL_STATUS.STANDING_GATE_wide (inSkip (CHANNEL_STATUS.STATE_wide (inSkip (inSkip (GATE_wide (inSkip (LAMP_LOW_wide (inSkip (LAMP_TOLD_wide (inSkip (LATCH_wide (inSkip (LIMIT_EPISODE_wide (inSkip (LIMIT_LEFT_wide (inSkip (LIMIT_SINCE_wide (inSkip (LIMIT_SPENT_wide (inSkip (PEND_wide (inSkip (PUMP_START_wide (inSkip (PUMP_STOP_AT_wide (inSkip (PWM_HIGH_wide (inSkip (inBoth (inBoth (inBoth (inBoth (RUN_SINCE_wide (inSkip (RUN_SPENT_wide (inSkip (START_AT_wide (inSkip (STORED_WAIT_wide (inSkip (inSkip (TRIP_STATE_wide (inSkip (WIN_wide inNil))))))))))))))))))))))))))))))))))))))))))))))))))))))))))
    | with_unfolding_none apply hW.sub (inNil)
    | (with_reducible refine Within.trans ?_ hL; decide +kernel)
    | (extract_lets +onlyGivenNames letX; have letT : True := (by clear_value letX; guard_hyp letX : State; trivial); clear letT; refine Leaves.cut (W := W) (L := L) (r := org) (v := letX) ?_ (fun letH => ?_); (focus subst letX); rotate_left; clear_value letX; revert letX; intro _ _)
    | (extract_lets +onlyGivenNames letX; clear_value letX; revert letX; intro _)
    | with_reducible refine Leaves.ite ?_ ?_

theorem State.swapTrip_leaves {W : List Span} {L : List Part} {org s : State} (n : Nat) (h : Leaves W L org s)
    (hW : Inside (each ADMIT_KIND :: each BANK.BANK_FLAGS :: each CASTLING_PAIR.SWAP_RESULT :: each CASTLING_PAIR.SWAP_STATE :: each CELL :: each CHANNEL_CONFIG.REQUEST :: each CHANNEL_PROTECTION.MODEL_FLAGS :: each CHANNEL_STATUS.FLAGS :: each CHANNEL_STATUS.STANDING_GATE :: each CHANNEL_STATUS.STATE :: each FOLD_WAIT :: each GATE :: each LAMP_LOW :: each LAMP_TOLD :: each LATCH :: each LIMIT_EPISODE :: each LIMIT_LEFT :: each LIMIT_SINCE :: each LIMIT_SPENT :: each PEND :: each PUMP_START :: each PUMP_STOP_AT :: each PWM_HIGH :: each RESET_OUTPUT.ASSERT_COUNT :: each RESET_OUTPUT.LAST_CHANGE_STAMP :: each RESET_OUTPUT.OUTPUT :: each RSO_GOOD_SINCE :: each RUN_SINCE :: each RUN_SPENT :: each START_AT :: each STORED_WAIT :: each SWAP_IN :: each SWAP_SIDE :: each TRIP_STATE :: each WIN :: (each fun n => inForce (CHANNEL_CONFIG.REQUEST n)) :: []) W) (hL : Within ([.collector, .dieMsgs, .staged] : List Part) L) :
    Leaves W L org (State.swapTrip s n) := by
  delta State.swapTrip
  repeat' first
    | with_reducible assumption
    | with_reducible apply State.setN_leaves
    | with_reducible apply State.swapAbort_leaves
    | (with_unfolding_none refine hW.covers ?_; repeat first | with_unfolding_none exact Covered.here | with_unfolding_none exact SWAP_SIDE_in | with_unfolding_none refine Covered.next ?_)
    | with_unfolding_none apply hW.sub (inBoth (inBoth (CASTLING_PAIR.SWAP_RESULT_wide (inSkip (CASTLING_PAIR.SWAP_STATE_wide (inSkip (inBoth (inBoth (inBoth (inBoth (inBoth (inBoth (inBoth (inBoth (inBoth (inBoth (inBoth (inBoth (inBoth (inBoth (inBoth (inBoth (inBoth (inBoth (inBoth (inBoth (inBoth (inBoth (inBoth (inBoth (inBoth (inBoth (inBoth (SWAP_IN_wide (inSkip (inSkip (inBoth (inBoth (inBoth inNil)))))))))))))))))))))))))))))))))))))))
    | (with_reducible refine Within.trans ?_ hL; decide +kernel)
    | with_reducible refine Leaves.ite ?_ ?_
    | split
    | with_reducible refine Leaves.ofPair (by assumption) ?_

theorem State.swapInterrupt_leaves {W : List Span} {L : List Part} {org s : State} (n : Nat) (h : Leaves W L org s)
    (hW : Inside (each ADMIT_KIND :: each BANK.BANK_FLAGS :: each CASTLING_PAIR.SWAP_RESULT :: each CASTLING_PAIR.SWAP_STATE :: each CELL :: each CHANNEL_CONFIG.REQUEST :: each CHANNEL_PROTECTION.MODEL_FLAGS :: each CHANNEL_STATUS.FLAGS :: each CHANNEL_STATUS.STANDING_GATE :: each CHANNEL_STATUS.STATE :: each FOLD_WAIT :: each GATE :: each LAMP_LOW :: each LAMP_TOLD :: each LATCH :: each LIMIT_EPISODE :: each LIMIT_LEFT :: each LIMIT_SINCE :: each LIMIT_SPENT :: each PEND :: each PUMP_START :: each PUMP_STOP_AT :: each PWM_HIGH :: each RESET_OUTPUT.ASSERT_COUNT :: each RESET_OUTPUT.LAST_CHANGE_STAMP :: each RESET_OUTPUT.OUTPUT :: each RSO_GOOD_SINCE :: each RUN_SINCE :: each RUN_SPENT :: each START_AT :: each STORED_WAIT :: each SWAP_IN :: each TRIP_STATE :: each WIN :: (each fun n => inForce (CHANNEL_CONFIG.REQUEST n)) :: []) W) (hL : Within ([.collector, .dieMsgs, .staged] : List Part) L) :
    Leaves W L org (State.swapInterrupt s n) := by
  delta State.swapInterrupt
  repeat' first
    | with_reducible assumption
    | with_reducible apply State.swapAbort_leaves
    | with_unfolding_none apply hW.sub (inBoth (inBoth (CASTLING_PAIR.SWAP_RESULT_wide (inSkip (CASTLING_PAIR.SWAP_STATE_wide (inSkip (inBoth (inBoth (inBoth (inBoth (inBoth (inBoth (inBoth (inBoth (inBoth (inBoth (inBoth (inBoth (inBoth (inBoth (inBoth (inBoth (inBoth (inBoth (inBoth (inBoth (inBoth (inBoth (inBoth (inBoth (inBoth (inBoth (inBoth (SWAP_IN_wide (inSkip (inBoth (inBoth (inBoth inNil))))))))))))))))))))))))))))))))))))))
    | (with_reducible refine Within.trans ?_ hL; decide +kernel)
    | with_reducible refine Leaves.ite ?_ ?_
    | split
    | with_reducible refine Leaves.ofPair (by assumption) ?_

theorem State.swapDieStands_leaves {W : List Span} {L : List Part} {org s : State} (d : Nat) (h : Leaves W L org s)
    (hW : Inside (each ADMIT_KIND :: each BANK.BANK_FLAGS :: each CASTLING_PAIR.SWAP_RESULT :: each CASTLING_PAIR.SWAP_STATE :: each CELL :: each CHANNEL_CONFIG.REQUEST :: each CHANNEL_PROTECTION.MODEL_FLAGS :: each CHANNEL_STATUS.FLAGS :: each CHANNEL_STATUS.STANDING_GATE :: each CHANNEL_STATUS.STATE :: each FOLD_WAIT :: each GATE :: each LAMP_LOW :: each LAMP_TOLD :: each LATCH :: each LIMIT_EPISODE :: each LIMIT_LEFT :: each LIMIT_SINCE :: each LIMIT_SPENT :: each PEND :: each PUMP_START :: each PUMP_STOP_AT :: each PWM_HIGH :: each RESET_OUTPUT.ASSERT_COUNT :: each RESET_OUTPUT.LAST_CHANGE_STAMP :: each RESET_OUTPUT.OUTPUT :: each RSO_GOOD_SINCE :: each RUN_SINCE :: each RUN_SPENT :: each START_AT :: each STORED_WAIT :: each SWAP_IN :: each TRIP_STATE :: each WIN :: (each fun n => inForce (CHANNEL_CONFIG.REQUEST n)) :: []) W) (hL : Within ([.collector, .dieMsgs, .staged] : List Part) L) :
    Leaves W L org (State.swapDieStands s d) := by
  delta State.swapDieStands
  repeat' first
    | with_reducible assumption
    | with_reducible apply State.setN_leaves
    | with_reducible apply State.swapAbort_leaves
    | with_reducible apply State.withdraw_leaves
    | with_reducible apply State.setRequest_leaves
    | with_reducible apply State.raise_leaves
    | (with_unfolding_none refine hW.covers ?_; repeat first | with_unfolding_none exact Covered.here | with_unfolding_none exact CASTLING_PAIR.SWAP_RESULT_in | with_unfolding_none exact CASTLING_PAIR.SWAP_STATE_in | with_unfolding_none exact SWAP_IN_in | with_unfolding_none refine Covered.next ?_)
    | with_unfolding_none apply hW.sub (inBoth (inBoth (CASTLING_PAIR.SWAP_RESULT_wide (inSkip (CASTLING_PAIR.SWAP_STATE_wide (inSkip (inBoth (inBoth (inBoth (inBoth (inBoth (inBoth (inBoth (inBoth (inBoth (inBoth (inBoth (inBoth (inBoth (inBoth (inBoth (inBoth (inBoth (inBoth (inBoth (inBoth (inBoth (inBoth (inBoth (inBoth (inBoth (inBoth (inBoth (SWAP_IN_wide (inSkip (inBoth (inBoth (inBoth inNil))))))))))))))))))))))))))))))))))))))
    | with_unfolding_none apply hW.sub (ADMIT_KIND_wide (inSkip (inSkip (inSkip (inSkip (inSkip (inSkip (inSkip (CHANNEL_STATUS.FLAGS_wide (inSkip (inSkip (inSkip (inSkip (inSkip (inSkip (inSkip (inSkip (inSkip (inSkip (inSkip (inSkip (inSkip (inSkip (inSkip (inSkip (inSkip (inSkip (inSkip (inSkip (inSkip (inSkip (START_AT_wide inNil))))))))))))))))))))))))))))))))
    | with_unfolding_none apply hW.sub (inSkip (inSkip (inSkip (inSkip (inSkip (CHANNEL_CONFIG.REQUEST_wide (inSkip (inSkip (inSkip (inSkip (inSkip (inSkip (inSkip (inSkip (inSkip (inSkip (inSkip (inSkip (inSkip (inSkip (inSkip (inSkip (inSkip (inSkip (inSkip (inSkip (inSkip (inSkip (inSkip (inSkip (inSkip (inSkip (inSkip (inSkip (inSkip (inForce_CHANNEL_CONFIG.REQUEST_wide inNil))))))))))))))))))))))))))))))))))))
    | with_unfolding_none apply hW.sub (inNil)
    | (with_reducible refine Within.trans ?_ hL; decide +kernel)
    | (extract_lets +onlyGivenNames letX; have letT : True := (by clear_value letX; guard_hyp letX : State; trivial); clear letT; refine Leaves.cut (W := W) (L := L) (r := org) (v := letX) ?_ (fun letH => ?_); (focus subst letX); rotate_left; clear_value letX; revert letX; intro _ _)
    | (extract_lets +onlyGivenNames letX; clear_value letX; revert letX; intro _)
    | with_reducible refine Leaves.ite ?_ ?_
    | with_reducible refine forBelow_leaves ?_ (fun _ _ _ => ?_)

theorem State.swapBegin_leaves {W : List Span} {L : List Part} {org s : State} (p which : Nat) (h : Leaves W L org s)
    (hW : Inside (each ADMIT_KIND :: each ADMIT_SINCE :: one (CASTLING_PAIR.ACTIVE p) :: one (CASTLING_PAIR.SWAP_RESULT p) :: one (CASTLING_PAIR.SWAP_STATE p) :: each CHANNEL_CONFIG.REQUEST :: each CHANNEL_PROTECTION.ADMIT_WAIT :: each CHANNEL_PROTECTION.RETRIES_LEFT :: each CHANNEL_STATUS.FLAGS :: each STORED_WAIT :: one (SWAP_AT p) :: one (SWAP_IN p) :: one (SWAP_OUT p) :: one (SWAP_SIDE p) :: (each fun n => inForce (CHANNEL_CONFIG.REQUEST n)) :: []) W) :
    Leaves W L org (State.swapBegin s p which) := by
  delta State.swapBegin
  repeat' first
    | with_reducible assumption
    | with_reducible apply State.setN_leaves
    | with_reducible apply State.setRequest_leaves
    | with_reducible apply State.askAdmission_leaves
    | (with_unfolding_none refine hW.covers ?_; repeat first | with_unfolding_none exact Covered.here | with_unfolding_none exact CHANNEL_PROTECTION.RETRIES_LEFT_in | with_unfolding_none exact STORED_WAIT_in | with_unfolding_none refine Covered.next ?_)
    | with_unfolding_none apply hW.sub (inSkip (inSkip (inSkip (inSkip (inSkip (CHANNEL_CONFIG.REQUEST_wide (inSkip (inSkip (inSkip (inSkip (inSkip (inSkip (inSkip (inSkip (inSkip (inForce_CHANNEL_CONFIG.REQUEST_wide inNil))))))))))))))))
    | with_unfolding_none apply hW.sub (ADMIT_KIND_wide (inSkip (ADMIT_SINCE_wide (inSkip (inSkip (inSkip (inSkip (inSkip (CHANNEL_PROTECTION.ADMIT_WAIT_wide (inSkip (inSkip (CHANNEL_STATUS.FLAGS_wide inNil))))))))))))
    | (extract_lets +onlyGivenNames letX; have letT : True := (by clear_value letX; guard_hyp letX : State; trivial); clear letT; refine Leaves.cut (W := W) (L := L) (r := org) (v := letX) ?_ (fun letH => ?_); (focus subst letX); rotate_left; clear_value letX; revert letX; intro _ _)
    | (extract_lets +onlyGivenNames letX; clear_value letX; revert letX; intro _)
    | with_reducible refine Leaves.ite ?_ ?_

theorem State.swapOnMet_leaves {W : List Span} {L : List Part} {org s : State} (n : Nat) (h : Leaves W L org s)
    (hW : Inside (each CASTLING_PAIR.SWAP_STATE :: each SWAP_ON_AT :: each SWAP_OVER :: []) W) :
    Leaves W L org (State.swapOnMet s n) := by
  delta State.swapOnMet
  repeat' first
    | with_reducible assumption
    | with_reducible apply State.set_leaves
    | with_reducible apply State.setN_leaves
    | (with_unfolding_none refine hW.covers ?_; repeat first | with_unfolding_none exact Covered.here | with_unfolding_none exact CASTLING_PAIR.SWAP_STATE_in | with_unfolding_none exact SWAP_ON_AT_in | with_unfolding_none exact SWAP_OVER_in | with_unfolding_none refine Covered.next ?_)
    | with_reducible refine Leaves.ite ?_ ?_
    | split
    | with_reducible refine Leaves.ofPair (by assumption) ?_

theorem State.swapComplete_leaves {W : List Span} {L : List Part} {org s : State} (p : Nat) (h : Leaves W L org s)
    (hW : Inside (each ADMIT_KIND :: each BANK.BANK_FLAGS :: one (CASTLING_PAIR.ACTIVE p) :: one (CASTLING_PAIR.SWAP_COUNT p) :: one (CASTLING_PAIR.SWAP_RESULT p) :: one (CASTLING_PAIR.SWAP_STATE p) :: each CELL :: each CHANNEL_CONFIG.REQUEST :: each CHANNEL_PROTECTION.MODEL_FLAGS :: each CHANNEL_STATUS.FLAGS :: each CHANNEL_STATUS.STANDING_GATE :: each CHANNEL_STATUS.STATE :: each GATE :: each LAMP_LOW :: each LAMP_TOLD :: each LATCH :: each LIMIT_EPISODE :: each LIMIT_LEFT :: each LIMIT_SINCE :: each LIMIT_SPENT :: each PEND :: each PUMP_START :: each PUMP_STOP_AT :: each PWM_HIGH :: each RESET_OUTPUT.ASSERT_COUNT :: each RESET_OUTPUT.LAST_CHANGE_STAMP :: each RESET_OUTPUT.OUTPUT :: each RSO_GOOD_SINCE :: each RUN_SINCE :: each RUN_SPENT :: each START_AT :: each STORED_WAIT :: one (SWAP_IN p) :: each TRIP_STATE :: each WIN :: (each fun n => inForce (CHANNEL_CONFIG.REQUEST n)) :: []) W) (hL : Within ([.collector, .dieMsgs, .staged] : List Part) L) :
    Leaves W L org (State.swapComplete s p) := by
  delta State.swapComplete
  repeat' first
    | with_reducible assumption
    | with_reducible apply State.setN_leaves
    | with_reducible apply State.wrapCount_leaves
    | with_reducible apply State.setRequest_leaves
    | with_reducible apply State.requestOff_leaves
    | with_reducible apply State.raise_leaves
    | (with_unfolding_none refine hW.covers ?_; repeat first | with_unfolding_none exact Covered.here | with_unfolding_none refine Covered.next ?_)
    | with_unfolding_none apply hW.sub (inSkip (inSkip (inSkip (inSkip (inSkip (inSkip (inSkip (CHANNEL_CONFIG.REQUEST_wide (inSkip (inSkip (inSkip (inSkip (inSkip (inSkip (inSkip (inSkip (inSkip (inSkip (inSkip (inSkip (inSkip (inSkip (inSkip (inSkip (inSkip (inSkip (inSkip (inSkip (inSkip (inSkip (inSkip (inSkip (inSkip (inSkip (inSkip (inSkip (inForce_CHANNEL_CONFIG.REQUEST_wide inNil)))))))))))))))))))))))))))))))))))))
    | with_unfolding_none apply hW.sub (ADMIT_KIND_wide (inSkip (BANK.BANK_FLAGS_wide (inSkip (inSkip (inSkip (inSkip (inSkip (CELL_wide (inSkip (inSkip (CHANNEL_PROTECTION.MODEL_FLAGS_wide (inSkip (CHANNEL_STATUS.FLAGS_wide (inSkip (CHANNEL_STATUS.STANDING_GATE_wide (inSkip (CHANNEL_STATUS.STATE_wide (inSkip (GATE_wide (inSkip (LAMP_LOW_wide (inSkip (LAMP_TOLD_wide (inSkip (LATCH_wide (inSkip (LIMIT_EPISODE_wide (inSkip (LIMIT_LEFT_wide (inSkip (LIMIT_SINCE_wide (inSkip (LIMIT_SPENT_wide (inSkip (PEND_wide (inSkip (PUMP_START_wide (inSkip (PUMP_STOP_AT_wide (inSkip (PWM_HIGH_wide (inSkip (inBoth (inBoth (inBoth (inBoth (RUN_SINCE_wide (inSkip (RUN_SPENT_wide (inSkip (START_AT_wide (inSkip (STORED_WAIT_wide (inSkip (inSkip (TRIP_STATE_wide (inSkip (WIN_wide inNil)))))))))))))))))))))))))))))))))))))))))))))))))))))))))))
    | with_unfolding_none apply hW.sub (inNil)
    | (with_reducible refine Within.trans ?_ hL; decide +kernel)
    | (extract_lets +onlyGivenNames letX; have letT : True := (by clear_value letX; guard_hyp letX : State; trivial); clear letT; refine Leaves.cut (W := W) (L := L) (r := org) (v := letX) ?_ (fun letH => ?_); (focus subst letX); rotate_left; clear_value letX; revert letX; intro _ _)
    | (extract_lets +onlyGivenNames letX; clear_value letX; revert letX; intro _)
    | with_reducible refine Leaves.ite ?_ ?_

theorem State.pairBoundary_leaves {W : List Span} {L : List Part} {org s : State} (p : Nat) (h : Leaves W L org s)
    (hW : Inside (each ADMIT_KIND :: each BANK.BANK_FLAGS :: one (CASTLING_PAIR.ACTIVE p) :: one (CASTLING_PAIR.SWAP_RESULT p) :: one (CASTLING_PAIR.SWAP_STATE p) :: each CELL :: each CHANNEL_CONFIG.REQUEST :: each CHANNEL_PROTECTION.MODEL_FLAGS :: each CHANNEL_STATUS.FLAGS :: each CHANNEL_STATUS.STANDING_GATE :: each CHANNEL_STATUS.STATE :: each FOLD_WAIT :: each GATE :: each LAMP_LOW :: each LAMP_TOLD :: each LATCH :: each LIMIT_EPISODE :: each LIMIT_LEFT :: each LIMIT_SINCE :: each LIMIT_SPENT :: each PEND :: each PUMP_START :: each PUMP_STOP_AT :: each PWM_HIGH :: each RESET_OUTPUT.ASSERT_COUNT :: each RESET_OUTPUT.LAST_CHANGE_STAMP :: each RESET_OUTPUT.OUTPUT :: each RSO_GOOD_SINCE :: each RUN_SINCE :: each RUN_SPENT :: each START_AT :: each STORED_WAIT :: one (SWAP_IN p) :: each TRIP_STATE :: each WIN :: (each fun n => inForce (CHANNEL_CONFIG.REQUEST n)) :: []) W) (hL : Within ([.collector, .dieMsgs, .staged] : List Part) L) :
    Leaves W L org (State.pairBoundary s p) := by
  delta State.pairBoundary
  repeat' first
    | with_reducible assumption
    | with_reducible apply State.setN_leaves
    | with_reducible apply State.swapAbort_leaves
    | (with_unfolding_none refine hW.covers ?_; repeat first | with_unfolding_none exact Covered.here | with_unfolding_none refine Covered.next ?_)
    | with_unfolding_none apply hW.sub (inBoth (inBoth (inSkip (inBoth (inBoth (inBoth (inBoth (inBoth (inBoth (inBoth (inBoth (inBoth (inBoth (inBoth (inBoth (inBoth (inBoth (inBoth (inBoth (inBoth (inBoth (inBoth (inBoth (inBoth (inBoth (inBoth (inBoth (inBoth (inBoth (inBoth (inBoth (inBoth (inBoth (inBoth (inBoth (inBoth inNil))))))))))))))))))))))))))))))))))))
    | (with_reducible refine Within.trans ?_ hL; decide +kernel)
    | (extract_lets +onlyGivenNames letX; have letT : True := (by clear_value letX; guard_hyp letX : State; trivial); clear letT; refine Leaves.cut (W := W) (L := L) (r := org) (v := letX) ?_ (fun letH => ?_); (focus subst letX); rotate_left; clear_value letX; revert letX; intro _ _)
    | with_reducible refine Leaves.ite ?_ ?_

theorem State.applyOrder_leaves {W : List Span} {L : List Part} {org s : State} (n cause : Nat) (h : Leaves W L org s)
    (hW : Inside (one (ADMIT_KIND n) :: one (BANK.BANK_FLAGS ((bankOf n))) :: one (BLANK_UNTIL n) :: one (CELL n) :: one (CHANNEL_PROTECTION.MODEL_FLAGS n) :: one (CHANNEL_STATUS.FLAGS n) :: one (CHANNEL_STATUS.STANDING_GATE n) :: one (CHANNEL_STATUS.STATE n) :: one (CHANNEL_SUPERVISION.RETRIES n) :: one (CHANNEL_SUPERVISION.STARTS n) :: one (GATE n) :: one (LAMP_AT n) :: one (LAMP_LOW n) :: one (LAMP_TOLD n) :: one (LATCH n) :: one (LIMIT_EPISODE n) :: one (LIMIT_LEFT n) :: one (LIMIT_SINCE n) :: one (LIMIT_SPENT n) :: one (ND_GROUP n) :: one (PEND n) :: one (PUMP_START ((bankOf n))) :: one (PUMP_STOP_AT ((bankOf n))) :: one (PWM_HIGH n) :: one (RAMP_RETRY n) :: one (RAMP_START n) :: each RESET_OUTPUT.ASSERT_COUNT :: each RESET_OUTPUT.LAST_CHANGE_STAMP :: each RESET_OUTPUT.OUTPUT :: each RSO_GOOD_SINCE :: one (RUN_SINCE n) :: one (RUN_SPENT n) :: one (SAFE_WAIT n) :: one (START_AT n) :: one (STORED_WAIT n) :: one (WIN n) :: []) W) (hL : Within ([.collector, .dieMsgs, .staged] : List Part) L) :
    Leaves W L org (State.applyOrder s n cause) := by
  delta State.applyOrder
  repeat' first
    | with_reducible assumption
    | with_reducible apply State.setN_leaves
    | with_reducible apply State.setModelFlag_leaves
    | with_reducible apply State.withdraw_leaves
    | with_reducible apply State.turnOff_leaves
    | with_reducible apply State.startRamp_leaves
    | (with_unfolding_none refine hW.covers ?_; repeat first | with_unfolding_none exact Covered.here | with_unfolding_none refine Covered.next ?_)
    | with_unfolding_none apply hW.sub (inSkip (inSkip (inSkip (inSkip (inBoth inNil)))))
    | with_unfolding_none apply hW.sub (inBoth (inSkip (inSkip (inSkip (inSkip (inBoth (inSkip (inSkip (inSkip (inSkip (inSkip (inSkip (inSkip (inSkip (inSkip (inSkip (inSkip (inSkip (inSkip (inSkip (inSkip (inSkip (inSkip (inSkip (inSkip (inSkip (inSkip (inSkip (inSkip (inSkip (inSkip (inSkip (inSkip (inBoth inNil))))))))))))))))))))))))))))))))))
    | with_unfolding_none apply hW.sub (inBoth (inBoth (inSkip (inBoth (inBoth (inBoth (inBoth (inBoth (inSkip (inSkip (inBoth (inSkip (inBoth (inBoth (inBoth (inBoth (inBoth (inBoth (inBoth (inSkip (inBoth (inBoth (inBoth (inBoth (inSkip (inSkip (inBoth (inBoth (inBoth (inBoth (inBoth (inBoth (inSkip (inBoth (inSkip (inBoth inNil))))))))))))))))))))))))))))))))))))
    | with_unfolding_none apply hW.sub (inBoth (inBoth (inBoth (inBoth (inBoth (inBoth (inBoth (inBoth (inBoth (inBoth (inBoth (inBoth (inBoth (inBoth (inBoth (inBoth (inBoth (inBoth (inBoth (inBoth (inSkip (inBoth (inBoth (inSkip (inBoth (inBoth (inBoth (inBoth (inBoth (inBoth (inBoth (inBoth (inSkip (inBoth (inSkip (inBoth inNil))))))))))))))))))))))))))))))))))))
    | (with_reducible refine Within.trans ?_ hL; decide +kernel)
    | (extract_lets +onlyGivenNames letX; have letT : True := (by clear_value letX; guard_hyp letX : State; trivial); clear letT; refine Leaves.cut (W := W) (L := L) (r := org) (v := letX) ?_ (fun letH => ?_); (focus subst letX); rotate_left; clear_value letX; revert letX; intro _ _)
    | (extract_lets +onlyGivenNames letX; clear_value letX; revert letX; intro _)
    | with_reducible refine Leaves.ite ?_ ?_
    | split
    | with_reducible refine Leaves.ofPair (by assumption) ?_

theorem State.standChannel_leaves {W : List Span} {L : List Part} {org s : State} (n cause : Nat) (h : Leaves W L org s)
    (hW : Inside (one (ADMIT_KIND n) :: one (BANK.BANK_FLAGS ((bankOf n))) :: one (BLANK_UNTIL n) :: one (CELL n) :: one (CHANNEL_PROTECTION.MODEL_FLAGS n) :: one (CHANNEL_STATUS.FLAGS n) :: one (CHANNEL_STATUS.STANDING_CAUSE n) :: one (CHANNEL_STATUS.STANDING_GATE n) :: one (CHANNEL_STATUS.STATE n) :: one (CHANNEL_SUPERVISION.RETRIES n) :: one (CHANNEL_SUPERVISION.STARTS n) :: one (GATE n) :: one (LAMP_AT n) :: one (LAMP_LOW n) :: one (LAMP_TOLD n) :: one (LATCH n) :: one (LIMIT_EPISODE n) :: one (LIMIT_LEFT n) :: one (LIMIT_SINCE n) :: one (LIMIT_SPENT n) :: one (ND_GROUP n) :: one (PEND n) :: one (PUMP_START ((bankOf n))) :: one (PUMP_STOP_AT ((bankOf n))) :: one (PWM_HIGH n) :: one (RAMP_RETRY n) :: one (RAMP_START n) :: each RESET_OUTPUT.ASSERT_COUNT :: each RESET_OUTPUT.LAST_CHANGE_STAMP :: each RESET_OUTPUT.OUTPUT :: each RSO_GOOD_SINCE :: one (RUN_SINCE n) :: one (RUN_SPENT n) :: one (SAFE_WAIT n) :: one (STAND_ENTRY n) :: one (STAND_EVENTS n) :: one (START_AT n) :: one (STORED_WAIT n) :: one (WIN n) :: []) W) (hL : Within ([.collector, .dieMsgs, .staged] : List Part) L) :
    Leaves W L org (State.standChannel s n cause) := by
  delta State.standChannel
  repeat' first
    | with_reducible assumption
    | with_reducible apply State.setN_leaves
    | with_reducible apply State.applyOrder_leaves
    | with_reducible apply State.showCell_leaves
    | (with_unfolding_none refine hW.covers ?_; repeat first | with_unfolding_none exact Covered.here | with_unfolding_none refine Covered.next ?_)
    | with_unfolding_none apply hW.sub (inBoth (inBoth (inBoth (inBoth (inBoth (inBoth (inSkip (inBoth (inBoth (inBoth (inBoth (inBoth (inBoth (inBoth (inBoth (inBoth (inBoth (inBoth (inBoth (inBoth (inBoth (inBoth (inBoth (inBoth (inBoth (inBoth (inBoth (inBoth (inBoth (inBoth (inBoth (inBoth (inBoth (inBoth (inSkip (inSkip (inBoth (inBoth (inBoth inNil)))))))))))))))))))))))))))))))))))))))
    | with_unfolding_none apply hW.sub (inSkip (inSkip (inSkip (inSkip (inSkip (inSkip (inSkip (inBoth (inBoth (inSkip (inSkip (inSkip (inSkip (inSkip (inSkip (inSkip (inSkip (inSkip (inSkip (inSkip (inSkip (inSkip (inSkip (inSkip (inSkip (inSkip (inSkip (inBoth (inBoth (inBoth (inBoth (inSkip (inSkip (inSkip (inSkip (inSkip (inSkip (inSkip (inBoth inNil)))))))))))))))))))))))))))))))))))))))
    | (with_reducible refine Within.trans ?_ hL; decide +kernel)
    | (extract_lets +onlyGivenNames letX; have letT : True := (by clear_value letX; guard_hyp letX : State; trivial); clear letT; refine Leaves.cut (W := W) (L := L) (r := org) (v := letX) ?_ (fun letH => ?_); (focus subst letX); rotate_left; clear_value letX; revert letX; intro _ _)
    | (extract_lets +onlyGivenNames letX; clear_value letX; revert letX; intro _)
    | with_reducible refine Leaves.ite ?_ ?_

theorem State.safeOnNext_leaves {W : List Span} {L : List Part} {org s : State} (k : Nat) (h : Leaves W L org s)
    (hW : Inside (each ADMIT_KIND :: each BANK.BANK_FLAGS :: each BLANK_UNTIL :: each CELL :: each CHANNEL_PROTECTION.MODEL_FLAGS :: each CHANNEL_STATUS.FLAGS :: each CHANNEL_STATUS.STANDING_GATE :: each CHANNEL_STATUS.STATE :: each CHANNEL_SUPERVISION.RETRIES :: each CHANNEL_SUPERVISION.STARTS :: each GATE :: each LAMP_AT :: each LAMP_LOW :: each LAMP_TOLD :: each LATCH :: each LIMIT_EPISODE :: each LIMIT_LEFT :: each LIMIT_SINCE :: each LIMIT_SPENT :: each ND_GROUP :: each PUMP_START :: each PUMP_STOP_AT :: each RAMP_RETRY :: each RAMP_START :: each RESET_OUTPUT.ASSERT_COUNT :: each RESET_OUTPUT.LAST_CHANGE_STAMP :: each RESET_OUTPUT.OUTPUT :: each RSO_GOOD_SINCE :: each RUN_SINCE :: each RUN_SPENT :: each SAFE_WAIT :: each START_AT :: each WIN :: []) W) (hL : Within ([.collector, .dieMsgs] : List Part) L) :
    Leaves W L org (State.safeOnNext s k) := by
  delta State.safeOnNext
  repeat' first
    | with_reducible assumption
    | with_reducible apply State.setN_leaves
    | with_reducible apply State.startRamp_leaves
    | with_reducible apply State.raiseChannel_leaves
    | (with_unfolding_none refine hW.covers ?_; repeat first | with_unfolding_none exact Covered.here | with_unfolding_none exact SAFE_WAIT_in | with_unfolding_none refine Covered.next ?_)
    | with_unfolding_none apply hW.sub (ADMIT_KIND_wide (inSkip (BANK.BANK_FLAGS_wide (inSkip (BLANK_UNTIL_wide (inSkip (CELL_wide (inSkip (CHANNEL_PROTECTION.MODEL_FLAGS_wide (inSkip (CHANNEL_STATUS.FLAGS_wide (inSkip (CHANNEL_STATUS.STANDING_GATE_wide (inSkip (CHANNEL_STATUS.STATE_wide (inSkip (CHANNEL_SUPERVISION.RETRIES_wide (inSkip (CHANNEL_SUPERVISION.STARTS_wide (inSkip (GATE_wide (inSkip (LAMP_AT_wide (inSkip (LAMP_LOW_wide (inSkip (LAMP_TOLD_wide (inSkip (LATCH_wide (inSkip (LIMIT_EPISODE_wide (inSkip (LIMIT_LEFT_wide (inSkip (LIMIT_SINCE_wide (inSkip (LIMIT_SPENT_wide (inSkip (ND_GROUP_wide (inSkip (PUMP_START_wide (inSkip (PUMP_STOP_AT_wide (inSkip (RAMP_RETRY_wide (inSkip (RAMP_START_wide (inSkip (inBoth (inBoth (inBoth (inBoth (RUN_SINCE_wide (inSkip (RUN_SPENT_wide (inSkip (inSkip (START_AT_wide (inSkip (WIN_wide inNil))))))))))))))))))))))))))))))))))))))))))))))))))))))))))))
    | with_unfolding_none apply hW.sub (inNil)
    | (with_reducible refine Within.trans ?_ hL; decide +kernel)
    | with_reducible refine Leaves.ite ?_ ?_
    | split
    | with_reducible refine Leaves.ofPair (by assumption) ?_

theorem State.standDie_leaves {W : List Span} {L : List Part} {org s : State} (d cause : Nat) (h : Leaves W L org s)
    (hW : Inside (each ADMIT_KIND :: each BANK.BANK_FLAGS :: each BLANK_UNTIL :: each CASTLING_PAIR.SWAP_RESULT :: each CASTLING_PAIR.SWAP_STATE :: each CELL :: each CHANNEL_CONFIG.REQUEST :: each CHANNEL_PROTECTION.MODEL_FLAGS :: each CHANNEL_STATUS.FLAGS :: each CHANNEL_STATUS.STANDING_CAUSE :: each CHANNEL_STATUS.STANDING_GATE :: each CHANNEL_STATUS.STATE :: each CHANNEL_SUPERVISION.RETRIES :: each CHANNEL_SUPERVISION.STARTS :: each FOLD_WAIT :: each GATE :: each LAMP_AT :: each LAMP_LOW :: each LAMP_TOLD :: each LATCH :: each LIMIT_EPISODE :: each LIMIT_LEFT :: each LIMIT_SINCE :: each LIMIT_SPENT :: each ND_GROUP :: each PEND :: each PUMP_START :: each PUMP_STOP_AT :: each PWM_HIGH :: each RAMP_RETRY :: each RAMP_START :: each RESET_OUTPUT.ASSERT_COUNT :: each RESET_OUTPUT.LAST_CHANGE_STAMP :: each RESET_OUTPUT.OUTPUT :: each RSO_GOOD_SINCE :: each RUN_SINCE :: each RUN_SPENT :: each SAFE_WAIT :: each STAND_ENTRY :: each STAND_EVENTS :: one (STAND_TRIGGERS d) :: each START_AT :: each STORED_WAIT :: each SWAP_IN :: each TRIP_STATE :: each WIN :: (each fun n => inForce (CHANNEL_CONFIG.REQUEST n)) :: []) W) (hL : Within ([.collector, .dieMsgs, .staged] : List Part) L) :
    Leaves W L org (State.standDie s d cause) := by
  delta State.standDie
  repeat' first
    | with_reducible assumption
    | with_reducible apply State.count_leaves
    | with_reducible apply State.swapDieStands_leaves
    | with_reducible apply State.standChannel_leaves
    | with_reducible apply State.raiseDie_leaves
    | with_reducible apply State.safeOnNext_leaves
    | (with_unfolding_none refine hW.covers ?_; repeat first | with_unfolding_none exact Covered.here | with_unfolding_none refine Covered.next ?_)
    | with_unfolding_none apply hW.sub (inBoth (inBoth (inSkip (inBoth (inBoth (inBoth (inBoth (inBoth (inBoth (inSkip (inBoth (inBoth (inSkip (inSkip (inBoth (inBoth (inSkip (inBoth (inBoth (inBoth (inBoth (inBoth (inBoth (inBoth (inSkip (inBoth (inBoth (inBoth (inBoth (inSkip (inSkip (inBoth (inBoth (inBoth (inBoth (inBoth (inBoth (inSkip (inSkip (inSkip (inSkip (inBoth (inBoth (inBoth (inBoth (inBoth (inBoth inNil)))))))))))))))))))))))))))))))))))))))))))))))
    | with_unfolding_none apply hW.sub (ADMIT_KIND_wide (inSkip (BANK.BANK_FLAGS_wide (inSkip (BLANK_UNTIL_wide (inSkip (inSkip (inSkip (CELL_wide (inSkip (inSkip (CHANNEL_PROTECTION.MODEL_FLAGS_wide (inSkip (CHANNEL_STATUS.FLAGS_wide (inSkip (CHANNEL_STATUS.STANDING_CAUSE_wide (inSkip (CHANNEL_STATUS.STANDING_GATE_wide (inSkip (CHANNEL_STATUS.STATE_wide (inSkip (CHANNEL_SUPERVISION.RETRIES_wide (inSkip (CHANNEL_SUPERVISION.STARTS_wide (inSkip (inSkip (GATE_wide (inSkip (LAMP_AT_wide (inSkip (LAMP_LOW_wide (inSkip (LAMP_TOLD_wide (inSkip (LATCH_wide (inSkip (LIMIT_EPISODE_wide (inSkip (LIMIT_LEFT_wide (inSkip (LIMIT_SINCE_wide (inSkip (LIMIT_SPENT_wide (inSkip (ND_GROUP_wide (inSkip (PEND_wide (inSkip (PUMP_START_wide (inSkip (PUMP_STOP_AT_wide (inSkip (PWM_HIGH_wide (inSkip (RAMP_RETRY_wide (inSkip (RAMP_START_wide (inSkip (inBoth (inBoth (inBoth (inBoth (RUN_SINCE_wide (inSkip (RUN_SPENT_wide (inSkip (SAFE_WAIT_wide (inSkip (STAND_ENTRY_wide (inSkip (STAND_EVENTS_wide (inSkip (inSkip (START_AT_wide (inSkip (STORED_WAIT_wide (inSkip (inSkip (inSkip (WIN_wide inNil))))))))))))))))))))))))))))))))))))))))))))))))))))))))))))))))))))))))))))))))
    | with_unfolding_none apply hW.sub (inNil)
    | with_unfolding_none apply hW.sub (inBoth (inBoth (inBoth (inSkip (inSkip (inBoth (inSkip (inBoth (inBoth (inSkip (inBoth (inBoth (inBoth (inBoth (inSkip (inBoth (inBoth (inBoth (inBoth (inBoth (inBoth (inBoth (inBoth (inBoth (inBoth (inSkip (inBoth (inBoth (inSkip (inBoth (inBoth (inBoth (inBoth (inBoth (inBoth (inBoth (inBoth (inBoth (inSkip (inSkip (inSkip (inBoth (inSkip (inSkip (inSkip (inBoth inNil))))))))))))))))))))))))))))))))))))))))))))))
    | (with_reducible refine Within.trans ?_ hL; decide +kernel)
    | (extract_lets +onlyGivenNames letX; have letT : True := (by clear_value letX; guard_hyp letX : State; trivial); clear letT; refine Leaves.cut (W := W) (L := L) (r := org) (v := letX) ?_ (fun letH => ?_); (focus subst letX); rotate_left; clear_value letX; revert letX; intro _ _)
    | (extract_lets +onlyGivenNames letX; clear_value letX; revert letX; intro _)
    | with_reducible refine Leaves.ite ?_ ?_
    | with_reducible refine forEach_leaves ?_ (fun _ _ _ => ?_)
    | with_reducible refine forBelow_leaves ?_ (fun _ _ _ => ?_)

theorem State.standingReport_leaves {W : List Span} {L : List Part} {org s : State} (n : Nat) (h : Leaves W L org s)
    (hW : Inside (one (STAND_ENTRY n) :: one (STAND_EVENTS n) :: []) W) (hL : Within ([.collector] : List Part) L) :
    Leaves W L org (State.standingReport s n) := by
  delta State.standingReport
  repeat' first
    | with_reducible assumption
    | with_reducible apply State.setN_leaves
    | with_reducible apply State.raise_leaves
    | (with_unfolding_none refine hW.covers ?_; repeat first | with_unfolding_none exact Covered.here | with_unfolding_none refine Covered.next ?_)
    | with_unfolding_none apply hW.sub (inNil)
    | (with_reducible refine Within.trans ?_ hL; decide +kernel)
    | (extract_lets +onlyGivenNames letX; have letT : True := (by clear_value letX; guard_hyp letX : State; trivial); clear letT; refine Leaves.cut (W := W) (L := L) (r := org) (v := letX) ?_ (fun letH => ?_); (focus subst letX); rotate_left; clear_value letX; revert letX; intro _ _)
    | (extract_lets +onlyGivenNames letX; clear_value letX; revert letX; intro _)
    | with_reducible refine Leaves.ite ?_ ?_

theorem State.releaseStanding_leaves {W : List Span} {L : List Part} {org s : State} (n by_ : Nat) (h : Leaves W L org s)
    (hW : Inside (one (ADMIT_KIND n) :: one (ADMIT_SINCE n) :: one (BANK.BANK_FLAGS ((bankOf n))) :: one (CELL n) :: one (CHANNEL_PROTECTION.ADMIT_WAIT n) :: one (CHANNEL_PROTECTION.MODEL_FLAGS n) :: one (CHANNEL_PROTECTION.RETRIES_LEFT n) :: one (CHANNEL_STATUS.FLAGS n) :: one (CHANNEL_STATUS.STANDING_CAUSE n) :: one (CHANNEL_STATUS.STANDING_GATE n) :: one (CHANNEL_STATUS.STATE n) :: one (CMD_NOTED n) :: one (GATE n) :: one (LAMP_LOW n) :: one (LAMP_TOLD n) :: one (LATCH n) :: one (LIMIT_EPISODE n) :: one (LIMIT_LEFT n) :: one (LIMIT_SINCE n) :: one (LIMIT_SPENT n) :: one (PEND n) :: one (PUMP_START ((bankOf n))) :: one (PUMP_STOP_AT ((bankOf n))) :: one (PWM_HIGH n) :: one (PWM_NEXT n) :: each RESET_OUTPUT.ASSERT_COUNT :: each RESET_OUTPUT.LAST_CHANGE_STAMP :: each RESET_OUTPUT.OUTPUT :: each RSO_GOOD_SINCE :: one (RUN_SINCE n) :: one (RUN_SPENT n) :: one (SAFE_WAIT n) :: one (START_AT n) :: one (STORED_WAIT n) :: one (TRIP_STATE n) :: one (WIN n) :: one (inForce (CHANNEL_CONFIG.PWM_DUTY n)) :: one (inForce (CHANNEL_CONFIG.PWM_PERIOD n)) :: one (inForce (CHANNEL_CONFIG.REQUEST n)) :: []) W) (hL : Within ([.collector, .dieMsgs, .staged] : List Part) L) :
    Leaves W L org (State.releaseStanding s n by_) := by
  delta State.releaseStanding
  repeat' first
    | with_reducible assumption
    | with_reducible apply State.set_leaves
    | with_reducible apply State.setN_leaves
    | with_reducible apply State.count_leaves
    | with_reducible apply State.actOnRequest_leaves
    | with_reducible apply State.showCell_leaves
    | with_reducible apply State.raise_leaves
    | (with_unfolding_none refine hW.covers ?_; repeat first | with_unfolding_none exact Covered.here | with_unfolding_none refine Covered.next ?_)
    | with_unfolding_none apply hW.sub (inBoth (inBoth (inBoth (inBoth (inBoth (inBoth (inBoth (inBoth (inSkip (inBoth (inBoth (inSkip (inBoth (inBoth (inBoth (inBoth (inBoth (inBoth (inBoth (inBoth (inBoth (inBoth (inBoth (inBoth (inBoth (inBoth (inBoth (inBoth (inBoth (inBoth (inBoth (inSkip (inBoth (inBoth (inBoth (inBoth inNil))))))))))))))))))))))))))))))))))))
    | with_unfolding_none apply hW.sub (inSkip (inSkip (inSkip (inSkip (inSkip (inSkip (inSkip (inSkip (inSkip (inBoth (inBoth (inSkip (inSkip (inSkip (inSkip (inSkip (inSkip (inSkip (inSkip (inSkip (inSkip (inSkip (inSkip (inSkip (inSkip (inBoth (inBoth (inBoth (inBoth (inSkip (inSkip (inSkip (inSkip (inSkip (inSkip (inBoth inNil))))))))))))))))))))))))))))))))))))
    | with_unfolding_none apply hW.sub (inNil)
    | (with_reducible refine Within.trans ?_ hL; decide +kernel)
    | (extract_lets +onlyGivenNames letX; have letT : True := (by clear_value letX; guard_hyp letX : State; trivial); clear letT; refine Leaves.cut (W := W) (L := L) (r := org) (v := letX) ?_ (fun letH => ?_); (focus subst letX); rotate_left; clear_value letX; revert letX; intro _ _)
    | with_reducible refine Leaves.ite ?_ ?_

theorem State.clearLockout_leaves {W : List Span} {L : List Part} {org s : State} (n : Nat) (h : Leaves W L org s)
    (hW : Inside (one (BANK.BANK_FLAGS ((bankOf n))) :: one (CELL n) :: one (CHANNEL_CONFIG.REQUEST n) :: one (CHANNEL_PROTECTION.MODEL_FLAGS n) :: one (CHANNEL_PROTECTION.RETRIES_LEFT n) :: one (CHANNEL_STATUS.FLAGS n) :: one (CHANNEL_STATUS.STANDING_GATE n) :: one (CHANNEL_STATUS.STATE n) :: one (CMD_NOTED n) :: one (GATE n) :: one (LAMP_LOW n) :: one (LAMP_TOLD n) :: one (LATCH n) :: one (LIMIT_EPISODE n) :: one (LIMIT_LEFT n) :: one (LIMIT_SINCE n) :: one (LIMIT_SPENT n) :: one (PUMP_START ((bankOf n))) :: one (PUMP_STOP_AT ((bankOf n))) :: each RESET_OUTPUT.ASSERT_COUNT :: each RESET_OUTPUT.LAST_CHANGE_STAMP :: each RESET_OUTPUT.OUTPUT :: each RSO_GOOD_SINCE :: one (RUN_SINCE n) :: one (RUN_SPENT n) :: one (WIN n) :: one (inForce (CHANNEL_CONFIG.REQUEST n)) :: []) W) (hL : Within ([.collector, .dieMsgs] : List Part) L) :
    Leaves W L org (State.clearLockout s n) := by
  delta State.clearLockout
  repeat' first
    | with_reducible assumption
    | with_reducible apply State.setN_leaves
    | with_reducible apply State.count_leaves
    | with_reducible apply State.setRequest_leaves
    | with_reducible apply State.cellTo_leaves
    | (with_unfolding_none refine hW.covers ?_; repeat first | with_unfolding_none exact Covered.here | with_unfolding_none refine Covered.next ?_)
    | with_unfolding_none apply hW.sub (inSkip (inSkip (inBoth (inSkip (inSkip (inSkip (inSkip (inSkip (inSkip (inSkip (inSkip (inSkip (inSkip (inSkip (inSkip (inSkip (inSkip (inSkip (inSkip (inSkip (inSkip (inSkip (inSkip (inSkip (inSkip (inSkip (inBoth inNil)))))))))))))))))))))))))))
    | with_unfolding_none apply hW.sub (inBoth (inBoth (inSkip (inBoth (inSkip (inBoth (inBoth (inBoth (inSkip (inBoth (inBoth (inBoth (inBoth (inBoth (inBoth (inBoth (inBoth (inBoth (inBoth (inBoth (inBoth (inBoth (inBoth (inBoth (inBoth (inBoth inNil))))))))))))))))))))))))))
    | (with_reducible refine Within.trans ?_ hL; decide +kernel)
    | with_reducible refine Leaves.ite ?_ ?_

theorem State.logicLost_leaves {W : List Span} {L : List Part} {org s : State} (n : Nat) (h : Leaves W L org s)
    (hW : Inside (one (ADMIT_KIND n) :: one (CHANNEL_PROTECTION.MODEL_FLAGS n) :: one (CHANNEL_STATUS.FLAGS n) :: one (PEND n) :: one (PWM_HIGH n) :: one (SAFE_WAIT n) :: one (START_AT n) :: one (STORED_WAIT n) :: []) W) :
    Leaves W L org (State.logicLost s n) := by
  delta State.logicLost
  repeat' first
    | with_reducible assumption
    | with_reducible apply State.setN_leaves
    | with_reducible apply State.withdraw_leaves
    | with_reducible apply State.setModelFlag_leaves
    | (with_unfolding_none refine hW.covers ?_; repeat first | with_unfolding_none exact Covered.here | with_unfolding_none refine Covered.next ?_)
    | with_unfolding_none apply hW.sub (inBoth (inSkip (inBoth (inSkip (inSkip (inSkip (inBoth inNil)))))))
    | with_unfolding_none apply hW.sub (inSkip (inBoth inNil))
    | (extract_lets +onlyGivenNames letX; have letT : True := (by clear_value letX; guard_hyp letX : State; trivial); clear letT; refine Leaves.cut (W := W) (L := L) (r := org) (v := letX) ?_ (fun letH => ?_); (focus subst letX); rotate_left; clear_value letX; revert letX; intro _ _)

theorem State.holdLatch_leaves {W : List Span} {L : List Part} {org s : State} (n : Nat) (h : Leaves W L org s)
    (hW : Inside (one (ADMIT_KIND n) :: one (CELL n) :: one (CHANNEL_PROTECTION.MODEL_FLAGS n) :: one (CHANNEL_STATUS.FLAGS n) :: one (GATE n) :: one (LATCH n) :: one (LATCH_PULLED n) :: one (PEND n) :: one (PWM_HIGH n) :: one (SAFE_WAIT n) :: one (START_AT n) :: one (STORED_WAIT n) :: []) W) :
    Leaves W L org (State.holdLatch s n) := by
  delta State.holdLatch
  repeat' first
    | with_reducible assumption
    | with_reducible apply State.setN_leaves
    | with_reducible apply State.setFlag_leaves
    | with_reducible apply State.logicLost_leaves
    | (with_unfolding_none refine hW.covers ?_; repeat first | with_unfolding_none exact Covered.here | with_unfolding_none refine Covered.next ?_)
    | with_unfolding_none apply hW.sub (inBoth (inSkip (inBoth (inBoth (inSkip (inSkip (inSkip (inBoth (inBoth (inBoth (inBoth (inBoth inNil))))))))))))
    | (extract_lets +onlyGivenNames letX; have letT : True := (by clear_value letX; guard_hyp letX : State; trivial); clear letT; refine Leaves.cut (W := W) (L := L) (r := org) (v := letX) ?_ (fun letH => ?_); (focus subst letX); rotate_left; clear_value letX; revert letX; intro _ _)
    | (extract_lets +onlyGivenNames letX; clear_value letX; revert letX; intro _)
    | with_reducible refine Leaves.ite ?_ ?_

theorem State.floatGate_leaves {W : List Span} {L : List Part} {org s : State} (n : Nat) (h : Leaves W L org s)
    (hW : Inside (one (ADMIT_KIND n) :: one (CELL n) :: one (CHANNEL_PROTECTION.MODEL_FLAGS n) :: one (CHANNEL_STATUS.FLAGS n) :: one (GATE n) :: one (PEND n) :: one (PWM_HIGH n) :: one (SAFE_WAIT n) :: one (START_AT n) :: one (STORED_WAIT n) :: []) W) :
    Leaves W L org (State.floatGate s n) := by
  delta State.floatGate
  repeat' first
    | with_reducible assumption
    | with_reducible apply State.setN_leaves
    | with_reducible apply State.logicLost_leaves
    | (with_unfolding_none refine hW.covers ?_; repeat first | with_unfolding_none exact Covered.here | with_unfolding_none refine Covered.next ?_)
    | with_unfolding_none apply hW.sub (inBoth (inSkip (inBoth (inBoth (inSkip (inBoth (inBoth (inBoth (inBoth (inBoth inNil))))))))))

theorem State.logicFails_leaves {W : List Span} {L : List Part} {org s : State} (d : Nat) (h : Leaves W L org s)
    (hW : Inside (each ADMIT_KIND :: each BANK.BANK_FLAGS :: each CELL :: each CHANNEL_PROTECTION.MODEL_FLAGS :: each CHANNEL_STATUS.FLAGS :: each GATE :: one (HEART_LOST d) :: each LATCH :: each LATCH_PULLED :: one (LOGIC_OFF d) :: one (LOGIC_OFF_AT d) :: each PEND :: each PUMP_START :: each PUMP_STOP_AT :: each PWM_HIGH :: each SAFE_WAIT :: each START_AT :: each STORED_WAIT :: []) W) :
    Leaves W L org (State.logicFails s d) := by
  delta State.logicFails
  repeat' first
    | with_reducible assumption
    | with_reducible apply State.setN_leaves
    | with_reducible apply State.holdLatch_leaves
    | with_reducible apply State.floatGate_leaves
    | with_reducible apply State.pumpUpdate_leaves
    | (with_unfolding_none refine hW.covers ?_; repeat first | with_unfolding_none exact Covered.here | with_unfolding_none refine Covered.next ?_)
    | with_unfolding_none apply hW.sub (ADMIT_KIND_wide (inSkip (inSkip (CELL_wide (inSkip (CHANNEL_PROTECTION.MODEL_FLAGS_wide (inSkip (CHANNEL_STATUS.FLAGS_wide (inSkip (GATE_wide (inSkip (inSkip (LATCH_wide (inSkip (LATCH_PULLED_wide (inSkip (inSkip (inSkip (PEND_wide (inSkip (inSkip (inSkip (PWM_HIGH_wide (inSkip (SAFE_WAIT_wide (inSkip (START_AT_wide (inSkip (STORED_WAIT_wide inNil)))))))))))))))))))))))))))))
    | with_unfolding_none apply hW.sub (ADMIT_KIND_wide (inSkip (inSkip (CELL_wide (inSkip (CHANNEL_PROTECTION.MODEL_FLAGS_wide (inSkip (CHANNEL_STATUS.FLAGS_wide (inSkip (GATE_wide (inSkip (inSkip (inSkip (inSkip (inSkip (inSkip (PEND_wide (inSkip (inSkip (inSkip (PWM_HIGH_wide (inSkip (SAFE_WAIT_wide (inSkip (START_AT_wide (inSkip (STORED_WAIT_wide inNil)))))))))))))))))))))))))))
    | with_unfolding_none apply hW.sub (inSkip (BANK.BANK_FLAGS_wide (inSkip (inSkip (inSkip (inSkip (inSkip (inSkip (inSkip (inSkip (inSkip (inSkip (inSkip (PUMP_START_wide (inSkip (PUMP_STOP_AT_wide inNil))))))))))))))))
    | (extract_lets +onlyGivenNames letX; have letT : True := (by clear_value letX; guard_hyp letX : State; trivial); clear letT; refine Leaves.cut (W := W) (L := L) (r := org) (v := letX) ?_ (fun letH => ?_); (focus subst letX); rotate_left; clear_value letX; revert letX; intro _ _)
    | with_reducible refine Leaves.ite ?_ ?_
    | with_reducible refine forEach_leaves ?_ (fun _ _ _ => ?_)
    | with_reducible refine forBelow_leaves ?_ (fun _ _ _ => ?_)

theorem State.clearCounters_leaves {W : List Span} {L : List Part} {org s : State} (n : Nat) (h : Leaves W L org s)
    (hW : Inside (one (CHANNEL_SUPERVISION.DISCHARGE_TIMEOUTS n) :: one (CHANNEL_SUPERVISION.HARD_TRIPS n) :: one (CHANNEL_SUPERVISION.LIMIT_ENTRIES n) :: one (CHANNEL_SUPERVISION.MODEL_TRIPS n) :: one (CHANNEL_SUPERVISION.OV_COUNT n) :: one (CHANNEL_SUPERVISION.RETRIES n) :: one (CHANNEL_SUPERVISION.STARTS n) :: one (CHANNEL_SUPERVISION.TIMEOUT_TRIPS n) :: one (CHANNEL_SUPERVISION.UV_COUNT n) :: []) W) :
    Leaves W L org (State.clearCounters s n) := by
  delta State.clearCounters
  repeat' first
    | with_reducible assumption
    | with_reducible apply State.setN_leaves
    | (with_unfolding_none refine hW.covers ?_; repeat first | with_unfolding_none exact Covered.here | with_unfolding_none refine Covered.next ?_)
    | (extract_lets +onlyGivenNames letX; have letT : True := (by clear_value letX; guard_hyp letX : State; trivial); clear letT; refine Leaves.cut (W := W) (L := L) (r := org) (v := letX) ?_ (fun letH => ?_); (focus subst letX); rotate_left; clear_value letX; revert letX; intro _ _)

theorem State.channelLogicReset_leaves {W : List Span} {L : List Part} {org s : State} (n : Nat) (warm : Bool) (h : Leaves W L org s)
    (hW : Inside (one (ADMIT_KIND n) :: one (CAL_AT n) :: one (CHANNEL_PROTECTION.MODEL_FLAGS n) :: one (CHANNEL_STATUS.FLAGS n) :: one (CHANNEL_SUPERVISION.DISCHARGE_TIMEOUTS n) :: one (CHANNEL_SUPERVISION.HARD_TRIPS n) :: one (CHANNEL_SUPERVISION.LIMIT_ENTRIES n) :: one (CHANNEL_SUPERVISION.MODEL_TRIPS n) :: one (CHANNEL_SUPERVISION.OV_COUNT n) :: one (CHANNEL_SUPERVISION.RETRIES n) :: one (CHANNEL_SUPERVISION.STARTS n) :: one (CHANNEL_SUPERVISION.TIMEOUT_TRIPS n) :: one (CHANNEL_SUPERVISION.UV_COUNT n) :: one (FET1 n) :: one (FET2 n) :: one (FET_NOW n) :: one (FRAMES_SEEN n) :: one (LIMIT_EPISODE n) :: one (PEND n) :: one (PWM_HIGH n) :: one (RUN_SPENT n) :: one (SAFE_WAIT n) :: one (START_AT n) :: one (STORED_WAIT n) :: one (WIRE1 n) :: one (WIRE2 n) :: one (WIRE_NOW n) :: []) W) :
    Leaves W L org (State.channelLogicReset s n warm) := by
  delta State.channelLogicReset
  repeat' first
    | with_reducible assumption
    | with_reducible apply State.setN_leaves
    | with_reducible apply State.withdraw_leaves
    | with_reducible apply State.setModelFlag_leaves
    | with_reducible apply State.clearCounters_leaves
    | with_reducible apply State.wireStart_leaves
    | with_reducible apply State.fetStart_leaves
    | (with_unfolding_none refine hW.covers ?_; repeat first | with_unfolding_none exact Covered.here | with_unfolding_none refine Covered.next ?_)
    | with_unfolding_none apply hW.sub (inBoth (inSkip (inSkip (inBoth (inSkip (inSkip (inSkip (inSkip (inSkip (inSkip (inSkip (inSkip (inSkip (inSkip (inSkip (inSkip (inSkip (inSkip (inSkip (inSkip (inSkip (inSkip (inBoth inNil)))))))))))))))))))))))
    | with_unfolding_none apply hW.sub (inSkip (inSkip (inBoth inNil)))
    | with_unfolding_none apply hW.sub (inSkip (inSkip (inSkip (inSkip (inBoth (inBoth (inBoth (inBoth (inBoth (inBoth (inBoth (inBoth (inBoth inNil)))))))))))))
    | with_unfolding_none apply hW.sub (inSkip (inSkip (inSkip (inSkip (inSkip (inSkip (inSkip (inSkip (inSkip (inSkip (inSkip (inSkip (inSkip (inSkip (inSkip (inSkip (inSkip (inSkip (inSkip (inSkip (inSkip (inSkip (inSkip (inSkip (inBoth (inBoth (inBoth inNil)))))))))))))))))))))))))))
    | with_unfolding_none apply hW.sub (inSkip (inSkip (inSkip (inSkip (inSkip (inSkip (inSkip (inSkip (inSkip (inSkip (inSkip (inSkip (inSkip (inBoth (inBoth (inBoth inNil))))))))))))))))
    | (extract_lets +onlyGivenNames letX; have letT : True := (by clear_value letX; guard_hyp letX : State; trivial); clear letT; refine Leaves.cut (W := W) (L := L) (r := org) (v := letX) ?_ (fun letH => ?_); (focus subst letX); rotate_left; clear_value letX; revert letX; intro _ _)

theorem State.anchorReturns_leaves {W : List Span} {L : List Part} {org s : State} (n : Nat) (h : Leaves W L org s)
    (hW : Inside (one (ADMIT_KIND n) :: one (BANK.BANK_FLAGS ((bankOf n))) :: one (CAL_AT n) :: one (CELL n) :: one (CHANNEL_PROTECTION.MODEL_FLAGS n) :: one (CHANNEL_STATUS.FLAGS n) :: one (CHANNEL_STATUS.STANDING_CAUSE n) :: one (CHANNEL_STATUS.STANDING_GATE n) :: one (CHANNEL_STATUS.STATE n) :: one (CHANNEL_STATUS.TRIP_CAUSE n) :: one (CHANNEL_SUPERVISION.DISCHARGE_TIMEOUTS n) :: one (CHANNEL_SUPERVISION.HARD_TRIPS n) :: one (CHANNEL_SUPERVISION.LIMIT_ENTRIES n) :: one (CHANNEL_SUPERVISION.MODEL_TRIPS n) :: one (CHANNEL_SUPERVISION.OV_COUNT n) :: one (CHANNEL_SUPERVISION.RETRIES n) :: one (CHANNEL_SUPERVISION.STARTS n) :: one (CHANNEL_SUPERVISION.TIMEOUT_TRIPS n) :: one (CHANNEL_SUPERVISION.UV_COUNT n) :: one (FET1 n) :: one (FET2 n) :: one (FET_NOW n) :: one (FRAMES_SEEN n) :: one (GATE n) :: one (LAMP_LOW n) :: one (LAMP_TOLD n) :: one (LATCH n) :: one (LATCH_PULLED n) :: one (LIFE_NEW n) :: one (LIMIT_EPISODE n) :: one (LIMIT_LEFT n) :: one (LIMIT_SINCE n) :: one (LIMIT_SPENT n) :: one (PEND n) :: one (PUMP_START ((bankOf n))) :: one (PUMP_STOP_AT ((bankOf n))) :: one (PWM_HIGH n) :: each RESET_OUTPUT.ASSERT_COUNT :: each RESET_OUTPUT.LAST_CHANGE_STAMP :: each RESET_OUTPUT.OUTPUT :: each RSO_GOOD_SINCE :: one (RUN_SINCE n) :: one (RUN_SPENT n) :: one (SAFE_WAIT n) :: one (STAND_EVENTS n) :: one (START_AT n) :: one (STORED_WAIT n) :: one (TRIP_FRAME n) :: one (TRIP_STATE n) :: one (WAIT_END n) :: one (WIN n) :: one (WIRE1 n) :: one (WIRE2 n) :: one (WIRE_NOW n) :: []) W) (hL : Within ([.collector, .dieMsgs, .shadows, .staged] : List Part) L) :
    Leaves W L org (State.anchorReturns s n) := by
  delta State.anchorReturns
  repeat' first
    | with_reducible assumption
    | with_reducible apply State.setN_leaves
    | with_reducible apply State.channelLogicReset_leaves
    | with_reducible apply State.trip_leaves
    | with_reducible apply State.raiseChannel_leaves
    | with_reducible apply State.lockoutTold_leaves
    | with_reducible apply State.cellTo_leaves
    | (with_unfolding_none refine hW.covers ?_; repeat first | with_unfolding_none exact Covered.here | with_unfolding_none refine Covered.next ?_)
    | with_unfolding_none apply hW.sub (inBoth (inSkip (inBoth (inSkip (inBoth (inBoth (inSkip (inSkip (inSkip (inSkip (inBoth (inBoth (inBoth (inBoth (inBoth (inBoth (inBoth (inBoth (inBoth (inBoth (inBoth (inBoth (inBoth (inSkip (inSkip (inSkip (inSkip (inSkip (inSkip (inBoth (inSkip (inSkip (inSkip (inBoth (inSkip (inSkip (inBoth (inSkip (inSkip (inSkip (inSkip (inSkip (inBoth (inBoth (inSkip (inBoth (inBoth (inSkip (inSkip (inSkip (inSkip (inBoth (inBoth (inBoth inNil))))))))))))))))))))))))))))))))))))))))))))))))))))))
    | with_unfolding_none apply hW.sub (inBoth (inBoth (inSkip (inBoth (inBoth (inBoth (inSkip (inBoth (inBoth (inBoth (inSkip (inBoth (inSkip (inBoth (inSkip (inSkip (inSkip (inBoth (inSkip (inSkip (inSkip (inSkip (inSkip (inBoth (inBoth (inBoth (inBoth (inSkip (inBoth (inBoth (inBoth (inBoth (inBoth (inBoth (inBoth (inBoth (inBoth (inBoth (inBoth (inBoth (inBoth (inBoth (inBoth (inSkip (inBoth (inBoth (inSkip (inBoth (inBoth (inBoth (inBoth inNil)))))))))))))))))))))))))))))))))))))))))))))))))))
    | with_unfolding_none apply hW.sub (inNil)
    | with_unfolding_none apply hW.sub (inSkip (inBoth (inSkip (inBoth (inBoth (inBoth (inSkip (inBoth (inBoth (inSkip (inSkip (inSkip (inSkip (inSkip (inSkip (inSkip (inSkip (inSkip (inSkip (inSkip (inSkip (inSkip (inSkip (inBoth (inBoth (inBoth (inBoth (inSkip (inSkip (inBoth (inBoth (inBoth (inBoth (inSkip (inBoth (inBoth (inSkip (inBoth (inBoth (inBoth (inBoth (inBoth (inBoth (inSkip (inSkip (inSkip (inSkip (inSkip (inSkip (inSkip (inBoth inNil)))))))))))))))))))))))))))))))))))))))))))))))))))
    | (with_reducible refine Within.trans ?_ hL; decide +kernel)
    | (extract_lets +onlyGivenNames letX; have letT : True := (by clear_value letX; guard_hyp letX : State; trivial); clear letT; refine Leaves.cut (W := W) (L := L) (r := org) (v := letX) ?_ (fun letH => ?_); (focus subst letX); rotate_left; clear_value letX; revert letX; intro _ _)
    | with_reducible refine Leaves.ite ?_ ?_

theorem State.cellReturns_leaves {W : List Span} {L : List Part} {org s : State} (n : Nat) (h : Leaves W L org s)
    (hW : Inside (one (ADMIT_KIND n) :: one (BANK.BANK_FLAGS ((bankOf n))) :: one (CAL_AT n) :: one (CELL n) :: one (CHANNEL_PROTECTION.MODEL_FLAGS n) :: one (CHANNEL_STATUS.FLAGS n) :: one (CHANNEL_STATUS.STANDING_CAUSE n) :: one (CHANNEL_STATUS.STANDING_GATE n) :: one (CHANNEL_STATUS.STATE n) :: one (CHANNEL_SUPERVISION.DISCHARGE_TIMEOUTS n) :: one (CHANNEL_SUPERVISION.HARD_TRIPS n) :: one (CHANNEL_SUPERVISION.LIMIT_ENTRIES n) :: one (CHANNEL_SUPERVISION.MODEL_TRIPS n) :: one (CHANNEL_SUPERVISION.OV_COUNT n) :: one (CHANNEL_SUPERVISION.RETRIES n) :: one (CHANNEL_SUPERVISION.STARTS n) :: one (CHANNEL_SUPERVISION.TIMEOUT_TRIPS n) :: one (CHANNEL_SUPERVISION.UV_COUNT n) :: one (FET1 n) :: one (FET2 n) :: one (FET_NOW n) :: one (FRAMES_SEEN n) :: one (GATE n) :: one (LAMP_LOW n) :: one (LAMP_TOLD n) :: one (LATCH n) :: one (LIMIT_EPISODE n) :: one (LIMIT_LEFT n) :: one (LIMIT_SINCE n) :: one (LIMIT_SPENT n) :: one (PEND n) :: one (PUMP_START ((bankOf n))) :: one (PUMP_STOP_AT ((bankOf n))) :: one (PWM_HIGH n) :: each RESET_OUTPUT.ASSERT_COUNT :: each RESET_OUTPUT.LAST_CHANGE_STAMP :: each RESET_OUTPUT.OUTPUT :: each RSO_GOOD_SINCE :: one (RUN_SINCE n) :: one (RUN_SPENT n) :: one (SAFE_WAIT n) :: one (START_AT n) :: one (STORED_WAIT n) :: one (WIN n) :: one (WIRE1 n) :: one (WIRE2 n) :: one (WIRE_NOW n) :: []) W) (hL : Within ([.collector, .dieMsgs] : List Part) L) :
    Leaves W L org (State.cellReturns s n) := by
  delta State.cellReturns
  repeat' first
    | with_reducible assumption
    | with_reducible apply State.setN_leaves
    | with_reducible apply State.channelLogicReset_leaves
    | with_reducible apply State.cellTo_leaves
    | (with_unfolding_none refine hW.covers ?_; repeat first | with_unfolding_none exact Covered.here | with_unfolding_none refine Covered.next ?_)
    | with_unfolding_none apply hW.sub (inBoth (inSkip (inBoth (inSkip (inBoth (inBoth (inSkip (inSkip (inSkip (inBoth (inBoth (inBoth (inBoth (inBoth (inBoth (inBoth (inBoth (inBoth (inBoth (inBoth (inBoth (inBoth (inSkip (inSkip (inSkip (inSkip (inBoth (inSkip (inSkip (inSkip (inBoth (inSkip (inSkip (inBoth (inSkip (inSkip (inSkip (inSkip (inSkip (inBoth (inBoth (inBoth (inBoth (inSkip (inBoth (inBoth (inBoth inNil)))))))))))))))))))))))))))))))))))))))))))))))
    | with_unfolding_none apply hW.sub (inSkip (inBoth (inSkip (inBoth (inBoth (inBoth (inSkip (inBoth (inBoth (inSkip (inSkip (inSkip (inSkip (inSkip (inSkip (inSkip (inSkip (inSkip (inSkip (inSkip (inSkip (inSkip (inBoth (inBoth (inBoth (inBoth (inBoth (inBoth (inBoth (inBoth (inSkip (inBoth (inBoth (inSkip (inBoth (inBoth (inBoth (inBoth (inBoth (inBoth (inSkip (inSkip (inSkip (inBoth inNil))))))))))))))))))))))))))))))))))))))))))))
    | (with_reducible refine Within.trans ?_ hL; decide +kernel)

theorem State.logicReturns_leaves {W : List Span} {L : List Part} {org s : State} (d : Nat) (h : Leaves W L org s)
    (hW : Inside (each ADMIT_KIND :: each BANK.BANK_FLAGS :: each BLANK_UNTIL :: each CAL_AT :: each CASTLING_PAIR.SWAP_RESULT :: each CASTLING_PAIR.SWAP_STATE :: each CELL :: each CHANNEL_CONFIG.REQUEST :: each CHANNEL_PROTECTION.MODEL_FLAGS :: each CHANNEL_STATUS.FLAGS :: each CHANNEL_STATUS.STANDING_CAUSE :: each CHANNEL_STATUS.STANDING_GATE :: each CHANNEL_STATUS.STATE :: each CHANNEL_STATUS.TRIP_CAUSE :: each CHANNEL_SUPERVISION.DISCHARGE_TIMEOUTS :: each CHANNEL_SUPERVISION.HARD_TRIPS :: each CHANNEL_SUPERVISION.LIMIT_ENTRIES :: each CHANNEL_SUPERVISION.MODEL_TRIPS :: each CHANNEL_SUPERVISION.OV_COUNT :: each CHANNEL_SUPERVISION.RETRIES :: each CHANNEL_SUPERVISION.STARTS :: each CHANNEL_SUPERVISION.TIMEOUT_TRIPS :: each CHANNEL_SUPERVISION.UV_COUNT :: each FET1 :: each FET2 :: each FET_NOW :: each FOLD_WAIT :: each FRAMES_SEEN :: each GATE :: each LAMP_AT :: each LAMP_LOW :: each LAMP_TOLD :: each LATCH :: each LATCH_PULLED :: each LIFE_NEW :: each LIMIT_EPISODE :: each LIMIT_LEFT :: each LIMIT_SINCE :: each LIMIT_SPENT :: one (LOGIC_OFF d) :: each ND_GROUP :: each PEND :: each PUMP_START :: each PUMP_STOP_AT :: each PWM_HIGH :: each RAMP_RETRY :: each RAMP_START :: each RESET_OUTPUT.ASSERT_COUNT :: each RESET_OUTPUT.LAST_CHANGE_STAMP :: each RESET_OUTPUT.OUTPUT :: each RSO_GOOD_SINCE :: each RUN_SINCE :: each RUN_SPENT :: each SAFE_WAIT :: each STAND_ENTRY :: each STAND_EVENTS :: one (STAND_TRIGGERS d) :: each START_AT :: each STORED_WAIT :: each SWAP_IN :: each TRIP_FRAME :: each TRIP_STATE :: each WAIT_END :: each WIN :: each WIRE1 :: each WIRE2 :: each WIRE_NOW :: (each fun n => inForce (CHANNEL_CONFIG.REQUEST n)) :: []) W) (hL : Within ([.collector, .dieMsgs, .shadows, .staged] : List Part) L) :
    Leaves W L org (State.logicReturns s d) := by
  delta State.logicReturns
  repeat' first
    | with_reducible assumption
    | with_reducible apply State.setN_leaves
    | with_reducible apply State.anchorReturns_leaves
    | with_reducible apply State.cellReturns_leaves
    | with_reducible apply State.standDie_leaves
    | with_reducible apply State.raiseDie_leaves
    | (with_unfolding_none refine hW.covers ?_; repeat first | with_unfolding_none exact Covered.here | with_unfolding_none exact STAND_EVENTS_in | with_unfolding_none refine Covered.next ?_)
    | with_unfolding_none apply hW.sub (ADMIT_KIND_wide (inSkip (BANK.BANK_FLAGS_wide (inSkip (inSkip (CAL_AT_wide (inSkip (inSkip (inSkip (CELL_wide (inSkip (inSkip (CHANNEL_PROTECTION.MODEL_FLAGS_wide (inSkip (CHANNEL_STATUS.FLAGS_wide (inSkip (CHANNEL_STATUS.STANDING_CAUSE_wide (inSkip (CHANNEL_STATUS.STANDING_GATE_wide (inSkip (CHANNEL_STATUS.STATE_wide (inSkip (CHANNEL_STATUS.TRIP_CAUSE_wide (inSkip (CHANNEL_SUPERVISION.DISCHARGE_TIMEOUTS_wide (inSkip (CHANNEL_SUPERVISION.HARD_TRIPS_wide (inSkip (CHANNEL_SUPERVISION.LIMIT_ENTRIES_wide (inSkip (CHANNEL_SUPERVISION.MODEL_TRIPS_wide (inSkip (CHANNEL_SUPERVISION.OV_COUNT_wide (inSkip (CHANNEL_SUPERVISION.RETRIES_wide (inSkip (CHANNEL_SUPERVISION.STARTS_wide (inSkip (CHANNEL_SUPERVISION.TIMEOUT_TRIPS_wide (inSkip (CHANNEL_SUPERVISION.UV_COUNT_wide (inSkip (FET1_wide (inSkip (FET2_wide (inSkip (FET_NOW_wide (inSkip (inSkip (FRAMES_SEEN_wide (inSkip (GATE_wide (inSkip (inSkip (LAMP_LOW_wide (inSkip (LAMP_TOLD_wide (inSkip (LATCH_wide (inSkip (LATCH_PULLED_wide (inSkip (LIFE_NEW_wide (inSkip (LIMIT_EPISODE_wide (inSkip (LIMIT_LEFT_wide (inSkip (LIMIT_SINCE_wide (inSkip (LIMIT_SPENT_wide (inSkip (inSkip (inSkip (PEND_wide (inSkip (PUMP_START_wide (inSkip (PUMP_STOP_AT_wide (inSkip (PWM_HIGH_wide (inSkip (inSkip (inSkip (inBoth (inBoth (inBoth (inBoth (RUN_SINCE_wide (inSkip (RUN_SPENT_wide (inSkip (SAFE_WAIT_wide (inSkip (inSkip (STAND_EVENTS_wide (inSkip (inSkip (START_AT_wide (inSkip (STORED_WAIT_wide (inSkip (inSkip (TRIP_FRAME_wide (inSkip (TRIP_STATE_wide (inSkip (WAIT_END_wide (inSkip (WIN_wide (inSkip (WIRE1_wide (inSkip (WIRE2_wide (inSkip (WIRE_NOW_wide inNil))))))))))))))))))))))))))))))))))))))))))))))))))))))))))))))))))))))))))))))))))))))))))))))))))))))))))))))))))))
    | with_unfolding_none apply hW.sub (ADMIT_KIND_wide (inSkip (BANK.BANK_FLAGS_wide (inSkip (inSkip (CAL_AT_wide (inSkip (inSkip (inSkip (CELL_wide (inSkip (inSkip (CHANNEL_PROTECTION.MODEL_FLAGS_wide (inSkip (CHANNEL_STATUS.FLAGS_wide (inSkip (CHANNEL_STATUS.STANDING_CAUSE_wide (inSkip (CHANNEL_STATUS.STANDING_GATE_wide (inSkip (CHANNEL_STATUS.STATE_wide (inSkip (inSkip (CHANNEL_SUPERVISION.DISCHARGE_TIMEOUTS_wide (inSkip (CHANNEL_SUPERVISION.HARD_TRIPS_wide (inSkip (CHANNEL_SUPERVISION.LIMIT_ENTRIES_wide (inSkip (CHANNEL_SUPERVISION.MODEL_TRIPS_wide (inSkip (CHANNEL_SUPERVISION.OV_COUNT_wide (inSkip (CHANNEL_SUPERVISION.RETRIES_wide (inSkip (CHANNEL_SUPERVISION.STARTS_wide (inSkip (CHANNEL_SUPERVISION.TIMEOUT_TRIPS_wide (inSkip (CHANNEL_SUPERVISION.UV_COUNT_wide (inSkip (FET1_wide (inSkip (FET2_wide (inSkip (FET_NOW_wide (inSkip (inSkip (FRAMES_SEEN_wide (inSkip (GATE_wide (inSkip (inSkip (LAMP_LOW_wide (inSkip (LAMP_TOLD_wide (inSkip (LATCH_wide (inSkip (inSkip (inSkip (LIMIT_EPISODE_wide (inSkip (LIMIT_LEFT_wide (inSkip (LIMIT_SINCE_wide (inSkip (LIMIT_SPENT_wide (inSkip (inSkip (inSkip (PEND_wide (inSkip (PUMP_START_wide (inSkip (PUMP_STOP_AT_wide (inSkip (PWM_HIGH_wide (inSkip (inSkip (inSkip (inBoth (inBoth (inBoth (inBoth (RUN_SINCE_wide (inSkip (RUN_SPENT_wide (inSkip (SAFE_WAIT_wide (inSkip (inSkip (inSkip (inSkip (START_AT_wide (inSkip (STORED_WAIT_wide (inSkip (inSkip (inSkip (inSkip (inSkip (WIN_wide (inSkip (WIRE1_wide (inSkip (WIRE2_wide (inSkip (WIRE_NOW_wide inNil)))))))))))))))))))))))))))))))))))))))))))))))))))))))))))))))))))))))))))))))))))))))))))))))))))))))))))))
    | with_unfolding_none apply hW.sub (inBoth (inBoth (inBoth (inSkip (inBoth (inBoth (inBoth (inBoth (inBoth (inBoth (inBoth (inBoth (inBoth (inSkip (inSkip (inSkip (inSkip (inSkip (inSkip (inBoth (inBoth (inSkip (inSkip (inSkip (inSkip (inSkip (inBoth (inSkip (inBoth (inBoth (inBoth (inBoth (inBoth (inSkip (inSkip (inBoth (inBoth (inBoth (inBoth (inSkip (inBoth (inBoth (inBoth (inBoth (inBoth (inBoth (inBoth (inBoth (inBoth (inBoth (inBoth (inBoth (inBoth (inBoth (inBoth (inBoth (inBoth (inBoth (inBoth (inBoth (inSkip (inBoth (inSkip (inBoth (inSkip (inSkip (inSkip (inBoth inNil))))))))))))))))))))))))))))))))))))))))))))))))))))))))))))))))))))
    | with_unfolding_none apply hW.sub (inNil)
    | (with_reducible refine Within.trans ?_ hL; decide +kernel)
    | (extract_lets +onlyGivenNames letX; have letT : True := (by clear_value letX; guard_hyp letX : State; trivial); clear letT; refine Leaves.cut (W := W) (L := L) (r := org) (v := letX) ?_ (fun letH => ?_); (focus subst letX); rotate_left; clear_value letX; revert letX; intro _ _)
    | (extract_lets +onlyGivenNames letX; clear_value letX; revert letX; intro _)
    | with_reducible refine Leaves.ite ?_ ?_
    | with_reducible refine forEach_leaves ?_ (fun _ _ _ => ?_)

theorem State.pumpLow_leaves {W : List Span} {L : List Part} {org s : State} (k : Nat) (h : Leaves W L org s)
    (hW : Inside (one (BANK.BANK_FLAGS k) :: each BLANK_UNTIL :: each CHANNEL_PROTECTION.MODEL_FLAGS :: each CHANNEL_STATUS.FLAGS :: each GATE :: each LAMP_AT :: each PWM_HELD :: each PWM_HIGH :: each RISE_AT :: []) W) (hL : Within ([.dieMsgs] : List Part) L) :
    Leaves W L org (State.pumpLow s k) := by
  delta State.pumpLow
  repeat' first
    | with_reducible assumption
    | with_reducible apply State.setBankFlag_leaves
    | with_reducible apply State.bankPauses_leaves
    | with_reducible apply State.raiseDie_leaves
    | with_unfolding_none apply hW.sub (inBoth (inSkip (inSkip (inBoth inNil))))
    | with_unfolding_none apply hW.sub (inSkip (inBoth (inBoth (inSkip (inBoth (inBoth (inBoth (inBoth (inBoth inNil)))))))))
    | with_unfolding_none apply hW.sub (inNil)
    | (with_reducible refine Within.trans ?_ hL; decide +kernel)
    | (extract_lets +onlyGivenNames letX; have letT : True := (by clear_value letX; guard_hyp letX : State; trivial); clear letT; refine Leaves.cut (W := W) (L := L) (r := org) (v := letX) ?_ (fun letH => ?_); (focus subst letX); rotate_left; clear_value letX; revert letX; intro _ _)
    | with_reducible refine Leaves.ite ?_ ?_

theorem State.pumpReady_leaves {W : List Span} {L : List Part} {org s : State} (k : Nat) (headroom : Int) (h : Leaves W L org s)
    (hW : Inside (one (BANK.BANK_FLAGS k) :: each BLANK_UNTIL :: each CHANNEL_PROTECTION.MODEL_FLAGS :: each CHANNEL_STATUS.FLAGS :: each GATE :: each LAMP_AT :: each PWM_HELD :: each PWM_HIGH :: each RISE_AT :: []) W) :
    Leaves W L org (State.pumpReady s k headroom) := by
  delta State.pumpReady
  repeat' first
    | with_reducible assumption
    | with_reducible apply State.setBit_leaves
    | with_reducible apply State.setBankFlag_leaves
    | with_reducible apply State.bankPauses_leaves
    | (with_unfolding_none refine hW.covers ?_; repeat first | with_unfolding_none exact Covered.here | with_unfolding_none refine Covered.next ?_)
    | with_unfolding_none apply hW.sub (inBoth (inSkip (inSkip (inBoth inNil))))
    | with_unfolding_none apply hW.sub (inSkip (inBoth (inBoth (inSkip (inBoth (inBoth (inBoth (inBoth (inBoth inNil)))))))))
    | with_reducible refine Leaves.ite ?_ ?_

theorem State.pumpStartTimeout_leaves {W : List Span} {L : List Part} {org s : State} (k : Nat) (h : Leaves W L org s)
    (hW : Inside (one (BANK.BANK_FLAGS k) :: each BLANK_UNTIL :: each CHANNEL_PROTECTION.MODEL_FLAGS :: each CHANNEL_STATUS.FLAGS :: each GATE :: each LAMP_AT :: each PWM_HELD :: each PWM_HIGH :: each RISE_AT :: []) W) (hL : Within ([.dieMsgs] : List Part) L) :
    Leaves W L org (State.pumpStartTimeout s k) := by
  delta State.pumpStartTimeout
  repeat' first
    | with_reducible assumption
    | with_reducible apply State.pumpLow_leaves
    | with_unfolding_none apply hW.sub (inBoth (inBoth (inBoth (inBoth (inBoth (inBoth (inBoth (inBoth (inBoth inNil)))))))))
    | (with_reducible refine Within.trans ?_ hL; decide +kernel)
    | with_reducible refine Leaves.ite ?_ ?_

theorem State.pumpHeadroomLow_leaves {W : List Span} {L : List Part} {org s : State} (k : Nat) (headroom : Int) (h : Leaves W L org s)
    (hW : Inside (one (BANK.BANK_FLAGS k) :: each BLANK_UNTIL :: each CHANNEL_PROTECTION.MODEL_FLAGS :: each CHANNEL_STATUS.FLAGS :: each GATE :: each LAMP_AT :: each PWM_HELD :: each PWM_HIGH :: each RISE_AT :: []) W) (hL : Within ([.dieMsgs] : List Part) L) :
    Leaves W L org (State.pumpHeadroomLow s k headroom) := by
  delta State.pumpHeadroomLow
  repeat' first
    | with_reducible assumption
    | with_reducible apply State.pumpLow_leaves
    | with_unfolding_none apply hW.sub (inBoth (inBoth (inBoth (inBoth (inBoth (inBoth (inBoth (inBoth (inBoth inNil)))))))))
    | (with_reducible refine Within.trans ?_ hL; decide +kernel)
    | with_reducible refine Leaves.ite ?_ ?_

theorem State.pumpStop_leaves {W : List Span} {L : List Part} {org s : State} (k : Nat) (h : Leaves W L org s)
    (hW : Inside (one (BANK.BANK_FLAGS k) :: each CHANNEL_STATUS.FLAGS :: one (PUMP_STOP_AT k) :: []) W) :
    Leaves W L org (State.pumpStop s k) := by
  delta State.pumpStop
  repeat' first
    | with_reducible assumption
    | with_reducible apply State.setN_leaves
    | with_reducible apply State.setBit_leaves
    | with_reducible apply State.setBankFlag_leaves
    | (with_unfolding_none refine hW.covers ?_; repeat first | with_unfolding_none exact Covered.here | with_unfolding_none refine Covered.next ?_)
    | with_unfolding_none apply hW.sub (inBoth (inBoth inNil))
    | (extract_lets +onlyGivenNames letX; have letT : True := (by clear_value letX; guard_hyp letX : State; trivial); clear letT; refine Leaves.cut (W := W) (L := L) (r := org) (v := letX) ?_ (fun letH => ?_); (focus subst letX); rotate_left; clear_value letX; revert letX; intro _ _)
    | with_reducible refine Leaves.ite ?_ ?_

theorem State.busUndervoltage_leaves {W : List Span} {L : List Part} {org s : State} (k : Nat) (vbus : Int) (h : Leaves W L org s)
    (hW : Inside (one (BANK.BANK_FLAGS k) :: each BLANK_UNTIL :: each CHANNEL_PROTECTION.MODEL_FLAGS :: each CHANNEL_STATUS.FLAGS :: each GATE :: each LAMP_AT :: one (PUMP_START k) :: one (PUMP_STOP_AT k) :: each PWM_HELD :: each PWM_HIGH :: each RISE_AT :: []) W) (hL : Within ([.dieMsgs] : List Part) L) :
    Leaves W L org (State.busUndervoltage s k vbus) := by
  delta State.busUndervoltage
  repeat' first
    | with_reducible assumption
    | with_reducible apply State.setBankFlag_leaves
    | with_reducible apply State.bankPauses_leaves
    | with_reducible apply State.pumpUpdate_leaves
    | with_reducible apply State.raiseDie_leaves
    | with_unfolding_none apply hW.sub (inBoth (inSkip (inSkip (inBoth inNil))))
    | with_unfolding_none apply hW.sub (inSkip (inBoth (inBoth (inSkip (inBoth (inBoth (inSkip (inSkip (inBoth (inBoth (inBoth inNil)))))))))))
    | with_unfolding_none apply hW.sub (inBoth (inSkip (inSkip (inSkip (inSkip (inSkip (inBoth (inBoth inNil))))))))
    | with_unfolding_none apply hW.sub (inNil)
    | (with_reducible refine Within.trans ?_ hL; decide +kernel)
    | (extract_lets +onlyGivenNames letX; have letT : True := (by clear_value letX; guard_hyp letX : State; trivial); clear letT; refine Leaves.cut (W := W) (L := L) (r := org) (v := letX) ?_ (fun letH => ?_); (focus subst letX); rotate_left; clear_value letX; revert letX; intro _ _)
    | with_reducible refine Leaves.ite ?_ ?_

theorem State.busUvCleared_leaves {W : List Span} {L : List Part} {org s : State} (k : Nat) (vbus : Int) (h : Leaves W L org s)
    (hW : Inside (one (BANK.BANK_FLAGS k) :: each BLANK_UNTIL :: each CHANNEL_PROTECTION.MODEL_FLAGS :: each CHANNEL_STATUS.FLAGS :: each GATE :: each LAMP_AT :: one (PUMP_START k) :: one (PUMP_STOP_AT k) :: each PWM_HELD :: each PWM_HIGH :: each RISE_AT :: []) W) :
    Leaves W L org (State.busUvCleared s k vbus) := by
  delta State.busUvCleared
  repeat' first
    | with_reducible assumption
    | with_reducible apply State.setBankFlag_leaves
    | with_reducible apply State.bankPauses_leaves
    | with_reducible apply State.pumpUpdate_leaves
    | with_unfolding_none apply hW.sub (inBoth (inSkip (inSkip (inBoth inNil))))
    | with_unfolding_none apply hW.sub (inSkip (inBoth (inBoth (inSkip (inBoth (inBoth (inSkip (inSkip (inBoth (inBoth (inBoth inNil)))))))))))
    | with_unfolding_none apply hW.sub (inBoth (inSkip (inSkip (inSkip (inSkip (inSkip (inBoth (inBoth inNil))))))))
    | with_reducible refine Leaves.ite ?_ ?_

theorem execPumpReady_frame {W : List Span} {L : List Part} {org s : State} (k : Bank) (headroom : Int) (h : Leaves W L org s)
    (hW : Inside (one (BANK.BANK_FLAGS k) :: each BLANK_UNTIL :: each CHANNEL_PROTECTION.MODEL_FLAGS :: each CHANNEL_STATUS.FLAGS :: each GATE :: each LAMP_AT :: each PWM_HELD :: each PWM_HIGH :: each RISE_AT :: []) W)
    : RunsIn W L org (execPumpReady k headroom s) := by
  delta execPumpReady
  repeat' first
    | with_reducible assumption
    | with_reducible refine RunsIn.next ?_
    | with_reducible apply State.pumpReady_leaves
    | with_unfolding_none apply hW.sub (inBoth (inBoth (inBoth (inBoth (inBoth (inBoth (inBoth (inBoth (inBoth inNil)))))))))

theorem execPumpStartTimeout_frame {W : List Span} {L : List Part} {org s : State} (k : Bank) (h : Leaves W L org s)
    (hW : Inside (one (BANK.BANK_FLAGS k) :: each BLANK_UNTIL :: each CHANNEL_PROTECTION.MODEL_FLAGS :: each CHANNEL_STATUS.FLAGS :: each GATE :: each LAMP_AT :: each PWM_HELD :: each PWM_HIGH :: each RISE_AT :: []) W)
    (hL : Within ([.dieMsgs] : List Part) L) : RunsIn W L org (execPumpStartTimeout k s) := by
  delta execPumpStartTimeout
  repeat' first
    | with_reducible assumption
    | with_reducible refine RunsIn.next ?_
    | with_reducible apply State.pumpStartTimeout_leaves
    | with_unfolding_none apply hW.sub (inBoth (inBoth (inBoth (inBoth (inBoth (inBoth (inBoth (inBoth (inBoth inNil)))))))))

theorem execPumpHeadroomLow_frame {W : List Span} {L : List Part} {org s : State} (k : Bank) (headroom : Int) (h : Leaves W L org s)
    (hW : Inside (one (BANK.BANK_FLAGS k) :: each BLANK_UNTIL :: each CHANNEL_PROTECTION.MODEL_FLAGS :: each CHANNEL_STATUS.FLAGS :: each GATE :: each LAMP_AT :: each PWM_HELD :: each PWM_HIGH :: each RISE_AT :: []) W)
    (hL : Within ([.dieMsgs] : List Part) L) : RunsIn W L org (execPumpHeadroomLow k headroom s) := by
  delta execPumpHeadroomLow
  repeat' first
    | with_reducible assumption
    | with_reducible refine RunsIn.next ?_
    | with_reducible apply State.pumpHeadroomLow_leaves
    | with_unfolding_none apply hW.sub (inBoth (inBoth (inBoth (inBoth (inBoth (inBoth (inBoth (inBoth (inBoth inNil)))))))))

theorem execPumpStop_frame {W : List Span} {L : List Part} {org s : State} (k : Bank) (h : Leaves W L org s)
    (hW : Inside (one (BANK.BANK_FLAGS k) :: each CHANNEL_STATUS.FLAGS :: one (PUMP_STOP_AT k) :: []) W)
    : RunsIn W L org (execPumpStop k s) := by
  delta execPumpStop
  repeat' first
    | with_reducible assumption
    | with_reducible refine RunsIn.next ?_
    | with_reducible apply State.pumpStop_leaves
    | with_unfolding_none apply hW.sub (inBoth (inBoth (inBoth inNil)))

theorem execBusUndervoltage_frame {W : List Span} {L : List Part} {org s : State} (k : Bank) (vbus : Int) (h : Leaves W L org s)
    (hW : Inside (one (BANK.BANK_FLAGS k) :: each BLANK_UNTIL :: each CHANNEL_PROTECTION.MODEL_FLAGS :: each CHANNEL_STATUS.FLAGS :: each GATE :: each LAMP_AT :: one (PUMP_START k) :: one (PUMP_STOP_AT k) :: each PWM_HELD :: each PWM_HIGH :: each RISE_AT :: []) W)
    (hL : Within ([.dieMsgs] : List Part) L) : RunsIn W L org (execBusUndervoltage k vbus s) := by
  delta execBusUndervoltage
  repeat' first
    | with_reducible assumption
    | with_reducible refine RunsIn.next ?_
    | with_reducible apply State.busUndervoltage_leaves
    | with_unfolding_none apply hW.sub (inBoth (inBoth (inBoth (inBoth (inBoth (inBoth (inBoth (inBoth (inBoth (inBoth (inBoth inNil)))))))))))

theorem execBusUvCleared_frame {W : List Span} {L : List Part} {org s : State} (k : Bank) (vbus : Int) (h : Leaves W L org s)
    (hW : Inside (one (BANK.BANK_FLAGS k) :: each BLANK_UNTIL :: each CHANNEL_PROTECTION.MODEL_FLAGS :: each CHANNEL_STATUS.FLAGS :: each GATE :: each LAMP_AT :: one (PUMP_START k) :: one (PUMP_STOP_AT k) :: each PWM_HELD :: each PWM_HIGH :: each RISE_AT :: []) W)
    : RunsIn W L org (execBusUvCleared k vbus s) := by
  delta execBusUvCleared
  repeat' first
    | with_reducible assumption
    | with_reducible refine RunsIn.next ?_
    | with_reducible apply State.busUvCleared_leaves
    | with_unfolding_none apply hW.sub (inBoth (inBoth (inBoth (inBoth (inBoth (inBoth (inBoth (inBoth (inBoth (inBoth (inBoth inNil)))))))))))

theorem State.rampDone_leaves {W : List Span} {L : List Part} {org s : State} (n : Nat) (drop1 drop2 vgs1 vgs2 : Int) (h : Leaves W L org s)
    (hW : Inside (one (BANK.BANK_FLAGS ((bankOf n))) :: each CASTLING_PAIR.SWAP_STATE :: one (CELL n) :: one (CHANNEL_PROTECTION.MODEL_FLAGS n) :: one (CHANNEL_STATUS.FLAGS n) :: one (CHANNEL_STATUS.STANDING_GATE n) :: one (CHANNEL_STATUS.STATE n) :: one (GATE n) :: one (LAMP_LOW n) :: one (LAMP_TOLD n) :: one (LATCH n) :: one (LIMIT_EPISODE n) :: one (LIMIT_LEFT n) :: one (LIMIT_SINCE n) :: one (LIMIT_SPENT n) :: one (PEND n) :: one (PUMP_START ((bankOf n))) :: one (PUMP_STOP_AT ((bankOf n))) :: one (PWM_NEXT n) :: each RESET_OUTPUT.ASSERT_COUNT :: each RESET_OUTPUT.LAST_CHANGE_STAMP :: each RESET_OUTPUT.OUTPUT :: each RSO_GOOD_SINCE :: one (RUN_SINCE n) :: one (RUN_SPENT n) :: each SWAP_ON_AT :: each SWAP_OVER :: one (WIN n) :: []) W) (hL : Within ([.collector, .dieMsgs] : List Part) L) :
    Leaves W L org (State.rampDone s n drop1 drop2 vgs1 vgs2) := by
  delta State.rampDone
  repeat' first
    | with_reducible assumption
    | with_reducible apply State.cellTo_leaves
    | with_reducible apply State.swapOnMet_leaves
    | with_reducible apply State.pendPwm_leaves
    | with_unfolding_none apply hW.sub (inBoth (inSkip (inBoth (inBoth (inBoth (inBoth (inBoth (inBoth (inBoth (inBoth (inBoth (inBoth (inBoth (inBoth (inBoth (inSkip (inBoth (inBoth (inSkip (inBoth (inBoth (inBoth (inBoth (inBoth (inBoth (inSkip (inSkip (inBoth inNil))))))))))))))))))))))))))))
    | with_unfolding_none apply hW.sub (inSkip (inBoth (inSkip (inSkip (inSkip (inSkip (inSkip (inSkip (inSkip (inSkip (inSkip (inSkip (inSkip (inSkip (inSkip (inSkip (inSkip (inSkip (inSkip (inSkip (inSkip (inSkip (inSkip (inSkip (inSkip (inBoth (inBoth inNil)))))))))))))))))))))))))))
    | with_unfolding_none apply hW.sub (inSkip (inSkip (inSkip (inSkip (inSkip (inSkip (inSkip (inSkip (inSkip (inSkip (inSkip (inSkip (inSkip (inSkip (inSkip (inBoth (inSkip (inSkip (inBoth inNil)))))))))))))))))))
    | (with_reducible refine Within.trans ?_ hL; decide +kernel)
    | (extract_lets +onlyGivenNames letX; have letT : True := (by clear_value letX; guard_hyp letX : State; trivial); clear letT; refine Leaves.cut (W := W) (L := L) (r := org) (v := letX) ?_ (fun letH => ?_); (focus subst letX); rotate_left; clear_value letX; revert letX; intro _ _)
    | with_reducible refine Leaves.ite ?_ ?_

theorem State.rampTimeout_leaves {W : List Span} {L : List Part} {org s : State} (n : Nat) (vgs vload : Int) (h : Leaves W L org s)
    (hW : Inside (each ADMIT_KIND :: each BANK.BANK_FLAGS :: each CASTLING_PAIR.SWAP_RESULT :: each CASTLING_PAIR.SWAP_STATE :: each CELL :: each CHANNEL_CONFIG.REQUEST :: each CHANNEL_PROTECTION.MODEL_FLAGS :: each CHANNEL_STATUS.FLAGS :: each CHANNEL_STATUS.STANDING_GATE :: each CHANNEL_STATUS.STATE :: one (CHANNEL_STATUS.TRIP_CAUSE n) :: one (CHANNEL_SUPERVISION.HARD_TRIPS n) :: one (CHANNEL_SUPERVISION.MODEL_TRIPS n) :: one (CHANNEL_SUPERVISION.TIMEOUT_TRIPS n) :: each FOLD_WAIT :: each GATE :: each LAMP_LOW :: each LAMP_TOLD :: each LATCH :: one (LIFE_NEW n) :: each LIMIT_EPISODE :: each LIMIT_LEFT :: each LIMIT_SINCE :: each LIMIT_SPENT :: each PEND :: each PUMP_START :: each PUMP_STOP_AT :: each PWM_HIGH :: each RESET_OUTPUT.ASSERT_COUNT :: each RESET_OUTPUT.LAST_CHANGE_STAMP :: each RESET_OUTPUT.OUTPUT :: each RSO_GOOD_SINCE :: each RUN_SINCE :: each RUN_SPENT :: one (STAND_EVENTS n) :: each START_AT :: each STORED_WAIT :: each SWAP_IN :: each SWAP_SIDE :: one (TRIP_FRAME n) :: each TRIP_STATE :: one (WAIT_END n) :: each WIN :: (each fun n => inForce (CHANNEL_CONFIG.REQUEST n)) :: []) W) (hL : Within ([.collector, .dieMsgs, .shadows, .staged] : List Part) L) :
    Leaves W L org (State.rampTimeout s n vgs vload) := by
  delta State.rampTimeout
  repeat' first
    | with_reducible assumption
    | with_reducible apply State.trip_leaves
    | with_reducible apply State.raiseChannel_leaves
    | with_reducible apply State.lockoutTold_leaves
    | with_reducible apply State.swapTrip_leaves
    | with_unfolding_none apply hW.sub (ADMIT_KIND_wide (inSkip (BANK.BANK_FLAGS_wide (inSkip (inSkip (inSkip (CELL_wide (inSkip (inSkip (CHANNEL_PROTECTION.MODEL_FLAGS_wide (inSkip (CHANNEL_STATUS.FLAGS_wide (inSkip (CHANNEL_STATUS.STANDING_GATE_wide (inSkip (CHANNEL_STATUS.STATE_wide (inSkip (inBoth (inBoth (inBoth (inBoth (inSkip (GATE_wide (inSkip (LAMP_LOW_wide (inSkip (LAMP_TOLD_wide (inSkip (LATCH_wide (inSkip (inBoth (LIMIT_EPISODE_wide (inSkip (LIMIT_LEFT_wide (inSkip (LIMIT_SINCE_wide (inSkip (LIMIT_SPENT_wide (inSkip (PEND_wide (inSkip (PUMP_START_wide (inSkip (PUMP_STOP_AT_wide (inSkip (PWM_HIGH_wide (inSkip (inBoth (inBoth (inBoth (inBoth (RUN_SINCE_wide (inSkip (RUN_SPENT_wide (inSkip (inBoth (START_AT_wide (inSkip (inSkip (inSkip (inSkip (inBoth (TRIP_STATE_wide (inSkip (inBoth (WIN_wide inNil))))))))))))))))))))))))))))))))))))))))))))))))))))))))))))))))))
    | with_unfolding_none apply hW.sub (inNil)
    | with_unfolding_none apply hW.sub (inBoth (inBoth (inBoth (inBoth (inBoth (inBoth (inBoth (inBoth (inBoth (inBoth (inSkip (inSkip (inSkip (inSkip (inBoth (inBoth (inBoth (inBoth (inBoth (inSkip (inBoth (inBoth (inBoth (inBoth (inBoth (inBoth (inBoth (inBoth (inBoth (inBoth (inBoth (inBoth (inBoth (inBoth (inSkip (inBoth (inBoth (inBoth (inBoth (inSkip (inBoth (inSkip (inBoth (inBoth inNil))))))))))))))))))))))))))))))))))))))))))))
    | (with_reducible refine Within.trans ?_ hL; decide +kernel)
    | (extract_lets +onlyGivenNames letX; clear_value letX; revert letX; intro _)
    | with_reducible refine Leaves.ite ?_ ?_

theorem execRampDone_frame {W : List Span} {L : List Part} {org s : State} (n : Chan) (drop1 drop2 vgs1 vgs2 : Int) (h : Leaves W L org s)
    (hW : Inside (one (BANK.BANK_FLAGS ((bankOf n))) :: each CASTLING_PAIR.SWAP_STATE :: one (CELL n) :: one (CHANNEL_PROTECTION.MODEL_FLAGS n) :: one (CHANNEL_STATUS.FLAGS n) :: one (CHANNEL_STATUS.STANDING_GATE n) :: one (CHANNEL_STATUS.STATE n) :: one (GATE n) :: one (LAMP_LOW n) :: one (LAMP_TOLD n) :: one (LATCH n) :: one (LIMIT_EPISODE n) :: one (LIMIT_LEFT n) :: one (LIMIT_SINCE n) :: one (LIMIT_SPENT n) :: one (PEND n) :: one (PUMP_START ((bankOf n))) :: one (PUMP_STOP_AT ((bankOf n))) :: one (PWM_NEXT n) :: each RESET_OUTPUT.ASSERT_COUNT :: each RESET_OUTPUT.LAST_CHANGE_STAMP :: each RESET_OUTPUT.OUTPUT :: each RSO_GOOD_SINCE :: one (RUN_SINCE n) :: one (RUN_SPENT n) :: each SWAP_ON_AT :: each SWAP_OVER :: one (WIN n) :: []) W)
    (hL : Within ([.collector, .dieMsgs] : List Part) L) : RunsIn W L org (execRampDone n drop1 drop2 vgs1 vgs2 s) := by
  delta execRampDone
  repeat' first
    | with_reducible assumption
    | with_reducible refine RunsIn.next ?_
    | with_reducible apply State.rampDone_leaves
    | with_unfolding_none apply hW.sub (inBoth (inBoth (inBoth (inBoth (inBoth (inBoth (inBoth (inBoth (inBoth (inBoth (inBoth (inBoth (inBoth (inBoth (inBoth (inBoth (inBoth (inBoth (inBoth (inBoth (inBoth (inBoth (inBoth (inBoth (inBoth (inBoth (inBoth (inBoth inNil))))))))))))))))))))))))))))

theorem execRampTimeout_frame {W : List Span} {L : List Part} {org s : State} (n : Chan) (vgs vload : Int) (h : Leaves W L org s)
    (hW : Inside (each ADMIT_KIND :: each BANK.BANK_FLAGS :: each CASTLING_PAIR.SWAP_RESULT :: each CASTLING_PAIR.SWAP_STATE :: each CELL :: each CHANNEL_CONFIG.REQUEST :: each CHANNEL_PROTECTION.MODEL_FLAGS :: each CHANNEL_STATUS.FLAGS :: each CHANNEL_STATUS.STANDING_GATE :: each CHANNEL_STATUS.STATE :: one (CHANNEL_STATUS.TRIP_CAUSE n) :: one (CHANNEL_SUPERVISION.HARD_TRIPS n) :: one (CHANNEL_SUPERVISION.MODEL_TRIPS n) :: one (CHANNEL_SUPERVISION.TIMEOUT_TRIPS n) :: each FOLD_WAIT :: each GATE :: each LAMP_LOW :: each LAMP_TOLD :: each LATCH :: one (LIFE_NEW n) :: each LIMIT_EPISODE :: each LIMIT_LEFT :: each LIMIT_SINCE :: each LIMIT_SPENT :: each PEND :: each PUMP_START :: each PUMP_STOP_AT :: each PWM_HIGH :: each RESET_OUTPUT.ASSERT_COUNT :: each RESET_OUTPUT.LAST_CHANGE_STAMP :: each RESET_OUTPUT.OUTPUT :: each RSO_GOOD_SINCE :: each RUN_SINCE :: each RUN_SPENT :: one (STAND_EVENTS n) :: each START_AT :: each STORED_WAIT :: each SWAP_IN :: each SWAP_SIDE :: one (TRIP_FRAME n) :: each TRIP_STATE :: one (WAIT_END n) :: each WIN :: (each fun n => inForce (CHANNEL_CONFIG.REQUEST n)) :: []) W)
    (hL : Within ([.collector, .dieMsgs, .shadows, .staged] : List Part) L) : RunsIn W L org (execRampTimeout n vgs vload s) := by
  delta execRampTimeout
  repeat' first
    | with_reducible assumption
    | with_reducible refine RunsIn.next ?_
    | with_reducible apply State.rampTimeout_leaves
    | with_unfolding_none apply hW.sub (inBoth (inBoth (inBoth (inBoth (inBoth (inBoth (inBoth (inBoth (inBoth (inBoth (inBoth (inBoth (inBoth (inBoth (inBoth (inBoth (inBoth (inBoth (inBoth (inBoth (inBoth (inBoth (inBoth (inBoth (inBoth (inBoth (inBoth (inBoth (inBoth (inBoth (inBoth (inBoth (inBoth (inBoth (inBoth (inBoth (inBoth (inBoth (inBoth (inBoth (inBoth (inBoth (inBoth (inBoth inNil))))))))))))))))))))))))))))))))))))))))))))

theorem State.lampPeriod_leaves {W : List Span} {L : List Part} {org s : State} (n : Nat) (h : Leaves W L org s)
    (hW : Inside (one (LAMP_LOW n) :: []) W) :
    Leaves W L org (State.lampPeriod s n) := by
  delta State.lampPeriod
  repeat' first
    | with_reducible assumption
    | with_reducible apply State.setN_leaves
    | with_reducible apply State.count_leaves
    | (with_unfolding_none refine hW.covers ?_; repeat first | with_unfolding_none exact Covered.here | with_unfolding_none refine Covered.next ?_)
    | (extract_lets +onlyGivenNames letX; clear_value letX; revert letX; intro _)
    | with_reducible refine Leaves.ite ?_ ?_

theorem State.pwmPeriodEnds_leaves {W : List Span} {L : List Part} {org s : State} (n : Nat) (h : Leaves W L org s)
    (hW : Inside (one (LAMP_LOW n) :: one (PWM_PERIODS n) :: one (PWM_RMS n) :: []) W) :
    Leaves W L org (State.pwmPeriodEnds s n) := by
  delta State.pwmPeriodEnds
  repeat' first
    | with_reducible assumption
    | with_reducible apply State.setN_leaves
    | with_reducible apply State.count_leaves
    | with_reducible apply State.lampPeriod_leaves
    | (with_unfolding_none refine hW.covers ?_; repeat first | with_unfolding_none exact Covered.here | with_unfolding_none refine Covered.next ?_)
    | with_unfolding_none apply hW.sub (inBoth inNil)
    | (extract_lets +onlyGivenNames letX; have letT : True := (by clear_value letX; guard_hyp letX : State; trivial); clear letT; refine Leaves.cut (W := W) (L := L) (r := org) (v := letX) ?_ (fun letH => ?_); (focus subst letX); rotate_left; clear_value letX; revert letX; intro _ _)
    | with_reducible refine Leaves.ite ?_ ?_

theorem State.pwmPeriodBegins_leaves {W : List Span} {L : List Part} {org s : State} (n : Nat) (h : Leaves W L org s)
    (hW : Inside (one (BLANK_UNTIL n) :: one (CHANNEL_PROTECTION.MODEL_FLAGS n) :: one (GATE n) :: one (LAMP_AT n) :: one (PWM_AT n) :: one (PWM_CNT n) :: one (PWM_HELD n) :: one (PWM_HIGH n) :: one (PWM_NEXT n) :: one (PWM_OFF n) :: one (PWM_SQ n) :: one (RISE_AT n) :: []) W) :
    Leaves W L org (State.pwmPeriodBegins s n) := by
  delta State.pwmPeriodBegins
  repeat' first
    | with_reducible assumption
    | with_reducible apply State.setN_leaves
    | with_reducible apply State.riseEdge_leaves
    | (with_unfolding_none refine hW.covers ?_; repeat first | with_unfolding_none exact Covered.here | with_unfolding_none refine Covered.next ?_)
    | with_unfolding_none apply hW.sub (inBoth (inBoth (inBoth (inBoth (inSkip (inSkip (inBoth (inBoth (inSkip (inSkip (inSkip (inBoth inNil))))))))))))
    | (extract_lets +onlyGivenNames letX; have letT : True := (by clear_value letX; guard_hyp letX : State; trivial); clear letT; refine Leaves.cut (W := W) (L := L) (r := org) (v := letX) ?_ (fun letH => ?_); (focus subst letX); rotate_left; clear_value letX; revert letX; intro _ _)
    | (extract_lets +onlyGivenNames letX; clear_value letX; revert letX; intro _)
    | with_reducible refine Leaves.ite ?_ ?_

theorem State.phaseInstant_leaves {W : List Span} {L : List Part} {org s : State} (n : Nat) (h : Leaves W L org s)
    (hW : Inside (one (BANK.BANK_FLAGS ((bankOf n))) :: one (BLANK_UNTIL n) :: one (CELL n) :: one (CHANNEL_PROTECTION.MODEL_FLAGS n) :: one (CHANNEL_STATUS.FLAGS n) :: one (CHANNEL_STATUS.STANDING_GATE n) :: one (CHANNEL_STATUS.STATE n) :: one (GATE n) :: one (LAMP_AT n) :: one (LAMP_LOW n) :: one (LAMP_TOLD n) :: one (LATCH n) :: one (LIMIT_EPISODE n) :: one (LIMIT_LEFT n) :: one (LIMIT_SINCE n) :: one (LIMIT_SPENT n) :: one (PEND n) :: one (PUMP_START ((bankOf n))) :: one (PUMP_STOP_AT ((bankOf n))) :: one (PWM_AT n) :: one (PWM_CNT n) :: one (PWM_HELD n) :: one (PWM_HIGH n) :: one (PWM_NEXT n) :: one (PWM_OFF n) :: one (PWM_PERIODS n) :: one (PWM_RMS n) :: one (PWM_SQ n) :: each RESET_OUTPUT.ASSERT_COUNT :: each RESET_OUTPUT.LAST_CHANGE_STAMP :: each RESET_OUTPUT.OUTPUT :: one (RISE_AT n) :: each RSO_GOOD_SINCE :: one (RUN_SINCE n) :: one (RUN_SPENT n) :: one (WIN n) :: []) W) (hL : Within ([.collector, .dieMsgs] : List Part) L) :
    Leaves W L org (State.phaseInstant s n) := by
  delta State.phaseInstant
  repeat' first
    | with_reducible assumption
    | with_reducible apply State.setN_leaves
    | with_reducible apply State.pwmPeriodEnds_leaves
    | with_reducible apply State.cellTo_leaves
    | with_reducible apply State.pwmPeriodBegins_leaves
    | (with_unfolding_none refine hW.covers ?_; repeat first | with_unfolding_none exact Covered.here | with_unfolding_none refine Covered.next ?_)
    | with_unfolding_none apply hW.sub (inSkip (inSkip (inSkip (inSkip (inSkip (inSkip (inSkip (inSkip (inSkip (inBoth (inSkip (inSkip (inSkip (inSkip (inSkip (inSkip (inSkip (inSkip (inSkip (inSkip (inSkip (inSkip (inSkip (inSkip (inSkip (inBoth (inBoth inNil)))))))))))))))))))))))))))
    | with_unfolding_none apply hW.sub (inBoth (inSkip (inBoth (inBoth (inBoth (inBoth (inBoth (inBoth (inSkip (inBoth (inBoth (inBoth (inBoth (inBoth (inBoth (inBoth (inSkip (inBoth (inBoth (inSkip (inSkip (inSkip (inSkip (inSkip (inSkip (inSkip (inSkip (inSkip (inBoth (inBoth (inBoth (inSkip (inBoth (inBoth (inBoth (inBoth inNil))))))))))))))))))))))))))))))))))))
    | with_unfolding_none apply hW.sub (inSkip (inBoth (inSkip (inBoth (inSkip (inSkip (inSkip (inBoth (inBoth (inSkip (inSkip (inSkip (inSkip (inSkip (inSkip (inSkip (inSkip (inSkip (inSkip (inBoth (inBoth (inBoth (inBoth (inBoth (inBoth (inSkip (inSkip (inBoth (inSkip (inSkip (inSkip (inBoth inNil))))))))))))))))))))))))))))))))
    | (with_reducible refine Within.trans ?_ hL; decide +kernel)
    | (extract_lets +onlyGivenNames letX; have letT : True := (by clear_value letX; guard_hyp letX : State; trivial); clear letT; refine Leaves.cut (W := W) (L := L) (r := org) (v := letX) ?_ (fun letH => ?_); (focus subst letX); rotate_left; clear_value letX; revert letX; intro _ _)
    | (extract_lets +onlyGivenNames letX; clear_value letX; revert letX; intro _)
    | with_reducible refine Leaves.ite ?_ ?_

theorem State.offEdge_leaves {W : List Span} {L : List Part} {org s : State} (n : Nat) (h : Leaves W L org s)
    (hW : Inside (one (BANK.BANK_FLAGS ((bankOf n))) :: one (CELL n) :: one (CHANNEL_PROTECTION.MODEL_FLAGS n) :: one (CHANNEL_STATUS.FLAGS n) :: one (CHANNEL_STATUS.STANDING_GATE n) :: one (CHANNEL_STATUS.STATE n) :: one (GATE n) :: one (LAMP_LOW n) :: one (LAMP_TOLD n) :: one (LATCH n) :: one (LIMIT_EPISODE n) :: one (LIMIT_LEFT n) :: one (LIMIT_SINCE n) :: one (LIMIT_SPENT n) :: one (PEND n) :: one (PUMP_START ((bankOf n))) :: one (PUMP_STOP_AT ((bankOf n))) :: one (PWM_HELD n) :: one (PWM_HIGH n) :: each RESET_OUTPUT.ASSERT_COUNT :: each RESET_OUTPUT.LAST_CHANGE_STAMP :: each RESET_OUTPUT.OUTPUT :: each RSO_GOOD_SINCE :: one (RUN_SINCE n) :: one (RUN_SPENT n) :: one (WIN n) :: []) W) (hL : Within ([.collector, .dieMsgs] : List Part) L) :
    Leaves W L org (State.offEdge s n) := by
  delta State.offEdge
  repeat' first
    | with_reducible assumption
    | with_reducible apply State.setN_leaves
    | with_reducible apply State.cellTo_leaves
    | (with_unfolding_none refine hW.covers ?_; repeat first | with_unfolding_none exact Covered.here | with_unfolding_none refine Covered.next ?_)
    | with_unfolding_none apply hW.sub (inBoth (inBoth (inBoth (inBoth (inBoth (inBoth (inBoth (inBoth (inBoth (inBoth (inBoth (inBoth (inBoth (inBoth (inSkip (inBoth (inBoth (inSkip (inSkip (inBoth (inBoth (inBoth (inBoth (inBoth (inBoth (inBoth inNil))))))))))))))))))))))))))
    | (with_reducible refine Within.trans ?_ hL; decide +kernel)
    | (extract_lets +onlyGivenNames letX; have letT : True := (by clear_value letX; guard_hyp letX : State; trivial); clear letT; refine Leaves.cut (W := W) (L := L) (r := org) (v := letX) ?_ (fun letH => ?_); (focus subst letX); rotate_left; clear_value letX; revert letX; intro _ _)
    | (extract_lets +onlyGivenNames letX; clear_value letX; revert letX; intro _)
    | with_reducible refine Leaves.ite ?_ ?_

theorem execPwmPhaseInstant_frame {W : List Span} {L : List Part} {org s : State} (n : Chan) (h : Leaves W L org s)
    (hW : Inside (one (BANK.BANK_FLAGS ((bankOf n))) :: one (BLANK_UNTIL n) :: one (CELL n) :: one (CHANNEL_PROTECTION.MODEL_FLAGS n) :: one (CHANNEL_STATUS.FLAGS n) :: one (CHANNEL_STATUS.STANDING_GATE n) :: one (CHANNEL_STATUS.STATE n) :: one (GATE n) :: one (LAMP_AT n) :: one (LAMP_LOW n) :: one (LAMP_TOLD n) :: one (LATCH n) :: one (LIMIT_EPISODE n) :: one (LIMIT_LEFT n) :: one (LIMIT_SINCE n) :: one (LIMIT_SPENT n) :: one (PEND n) :: one (PUMP_START ((bankOf n))) :: one (PUMP_STOP_AT ((bankOf n))) :: one (PWM_AT n) :: one (PWM_CNT n) :: one (PWM_HELD n) :: one (PWM_HIGH n) :: one (PWM_NEXT n) :: one (PWM_OFF n) :: one (PWM_PERIODS n) :: one (PWM_RMS n) :: one (PWM_SQ n) :: each RESET_OUTPUT.ASSERT_COUNT :: each RESET_OUTPUT.LAST_CHANGE_STAMP :: each RESET_OUTPUT.OUTPUT :: one (RISE_AT n) :: each RSO_GOOD_SINCE :: one (RUN_SINCE n) :: one (RUN_SPENT n) :: one (WIN n) :: []) W)
    (hL : Within ([.collector, .dieMsgs] : List Part) L) : RunsIn W L org (execPwmPhaseInstant n s) := by
  delta execPwmPhaseInstant
  repeat' first
    | with_reducible assumption
    | with_reducible refine RunsIn.next ?_
    | with_reducible apply State.phaseInstant_leaves
    | with_unfolding_none apply hW.sub (inBoth (inBoth (inBoth (inBoth (inBoth (inBoth (inBoth (inBoth (inBoth (inBoth (inBoth (inBoth (inBoth (inBoth (inBoth (inBoth (inBoth (inBoth (inBoth (inBoth (inBoth (inBoth (inBoth (inBoth (inBoth (inBoth (inBoth (inBoth (inBoth (inBoth (inBoth (inBoth (inBoth (inBoth (inBoth (inBoth inNil))))))))))))))))))))))))))))))))))))

theorem execPwmOffEdge_frame {W : List Span} {L : List Part} {org s : State} (n : Chan) (h : Leaves W L org s)
    (hW : Inside (one (BANK.BANK_FLAGS ((bankOf n))) :: one (CELL n) :: one (CHANNEL_PROTECTION.MODEL_FLAGS n) :: one (CHANNEL_STATUS.FLAGS n) :: one (CHANNEL_STATUS.STANDING_GATE n) :: one (CHANNEL_STATUS.STATE n) :: one (GATE n) :: one (LAMP_LOW n) :: one (LAMP_TOLD n) :: one (LATCH n) :: one (LIMIT_EPISODE n) :: one (LIMIT_LEFT n) :: one (LIMIT_SINCE n) :: one (LIMIT_SPENT n) :: one (PEND n) :: one (PUMP_START ((bankOf n))) :: one (PUMP_STOP_AT ((bankOf n))) :: one (PWM_HELD n) :: one (PWM_HIGH n) :: each RESET_OUTPUT.ASSERT_COUNT :: each RESET_OUTPUT.LAST_CHANGE_STAMP :: each RESET_OUTPUT.OUTPUT :: each RSO_GOOD_SINCE :: one (RUN_SINCE n) :: one (RUN_SPENT n) :: one (WIN n) :: []) W)
    (hL : Within ([.collector, .dieMsgs] : List Part) L) : RunsIn W L org (execPwmOffEdge n s) := by
  delta execPwmOffEdge
  repeat' first
    | with_reducible assumption
    | with_reducible refine RunsIn.next ?_
    | with_reducible apply State.offEdge_leaves
    | with_unfolding_none apply hW.sub (inBoth (inBoth (inBoth (inBoth (inBoth (inBoth (inBoth (inBoth (inBoth (inBoth (inBoth (inBoth (inBoth (inBoth (inBoth (inBoth (inBoth (inBoth (inBoth (inBoth (inBoth (inBoth (inBoth (inBoth (inBoth (inBoth inNil))))))))))))))))))))))))))

theorem State.hardShort_leaves {W : List Span} {L : List Part} {org s : State} (n : Nat) (h : Leaves W L org s)
    (hW : Inside (each ADMIT_KIND :: each BANK.BANK_FLAGS :: each CAP_SEEN :: each CASTLING_PAIR.SWAP_RESULT :: each CASTLING_PAIR.SWAP_STATE :: each CELL :: each CHANNEL_CONFIG.REQUEST :: each CHANNEL_PROTECTION.MODEL_FLAGS :: each CHANNEL_STATUS.FLAGS :: each CHANNEL_STATUS.STANDING_GATE :: each CHANNEL_STATUS.STATE :: one (CHANNEL_STATUS.TRIP_CAUSE n) :: one (CHANNEL_SUPERVISION.HARD_TRIPS n) :: one (CHANNEL_SUPERVISION.MODEL_TRIPS n) :: one (CHANNEL_SUPERVISION.TIMEOUT_TRIPS n) :: each FOLD_WAIT :: each GATE :: each LAMP_LOW :: each LAMP_TOLD :: each LATCH :: one (LIFE_NEW n) :: each LIMIT_EPISODE :: each LIMIT_LEFT :: each LIMIT_SINCE :: each LIMIT_SPENT :: each PEND :: each PUMP_START :: each PUMP_STOP_AT :: each PWM_HIGH :: each RESET_OUTPUT.ASSERT_COUNT :: each RESET_OUTPUT.LAST_CHANGE_STAMP :: each RESET_OUTPUT.OUTPUT :: each RSO_GOOD_SINCE :: each RUN_SINCE :: each RUN_SPENT :: one (STAND_EVENTS n) :: each START_AT :: each STORED_WAIT :: each SWAP_IN :: each SWAP_SIDE :: one (TRIP_FRAME n) :: each TRIP_STATE :: one (WAIT_END n) :: each WIN :: (each fun n => inForce (CHANNEL_CONFIG.REQUEST n)) :: []) W) (hL : Within ([.collector, .dieMsgs, .shadows, .staged] : List Part) L) :
    Leaves W L org (State.hardShort s n) := by
  delta State.hardShort
  repeat' first
    | with_reducible assumption
    | with_reducible apply State.captureSees_leaves
    | with_reducible apply State.trip_leaves
    | with_reducible apply State.raiseChannel_leaves
    | with_reducible apply State.lockoutTold_leaves
    | with_reducible apply State.swapTrip_leaves
    | with_unfolding_none apply hW.sub (inSkip (inSkip (inBoth inNil)))
    | with_unfolding_none apply hW.sub (ADMIT_KIND_wide (inSkip (BANK.BANK_FLAGS_wide (inSkip (inSkip (inSkip (inSkip (CELL_wide (inSkip (inSkip (CHANNEL_PROTECTION.MODEL_FLAGS_wide (inSkip (CHANNEL_STATUS.FLAGS_wide (inSkip (CHANNEL_STATUS.STANDING_GATE_wide (inSkip (CHANNEL_STATUS.STATE_wide (inSkip (inBoth (inBoth (inBoth (inBoth (inSkip (GATE_wide (inSkip (LAMP_LOW_wide (inSkip (LAMP_TOLD_wide (inSkip (LATCH_wide (inSkip (inBoth (LIMIT_EPISODE_wide (inSkip (LIMIT_LEFT_wide (inSkip (LIMIT_SINCE_wide (inSkip (LIMIT_SPENT_wide (inSkip (PEND_wide (inSkip (PUMP_START_wide (inSkip (PUMP_STOP_AT_wide (inSkip (PWM_HIGH_wide (inSkip (inBoth (inBoth (inBoth (inBoth (RUN_SINCE_wide (inSkip (RUN_SPENT_wide (inSkip (inBoth (START_AT_wide (inSkip (inSkip (inSkip (inSkip (inBoth (TRIP_STATE_wide (inSkip (inBoth (WIN_wide inNil)))))))))))))))))))))))))))))))))))))))))))))))))))))))))))))))))))
    | with_unfolding_none apply hW.sub (inNil)
    | with_unfolding_none apply hW.sub (inBoth (inBoth (inSkip (inBoth (inBoth (inBoth (inBoth (inBoth (inBoth (inBoth (inBoth (inSkip (inSkip (inSkip (inSkip (inBoth (inBoth (inBoth (inBoth (inBoth (inSkip (inBoth (inBoth (inBoth (inBoth (inBoth (inBoth (inBoth (inBoth (inBoth (inBoth (inBoth (inBoth (inBoth (inBoth (inSkip (inBoth (inBoth (inBoth (inBoth (inSkip (inBoth (inSkip (inBoth (inBoth inNil)))))))))))))))))))))))))))))))))))))))))))))
    | (with_reducible refine Within.trans ?_ hL; decide +kernel)
    | (extract_lets +onlyGivenNames letX; have letT : True := (by clear_value letX; guard_hyp letX : State; trivial); clear letT; refine Leaves.cut (W := W) (L := L) (r := org) (v := letX) ?_ (fun letH => ?_); (focus subst letX); rotate_left; clear_value letX; revert letX; intro _ _)
    | (extract_lets +onlyGivenNames letX; clear_value letX; revert letX; intro _)

theorem State.outagePullDown_leaves {W : List Span} {L : List Part} {org s : State} (n : Nat) (h : Leaves W L org s)
    (hW : Inside (one (BANK.BANK_FLAGS ((bankOf n))) :: one (CELL n) :: one (GATE n) :: one (LATCH n) :: one (LATCH_PULLED n) :: one (PUMP_START ((bankOf n))) :: one (PUMP_STOP_AT ((bankOf n))) :: []) W) :
    Leaves W L org (State.outagePullDown s n) := by
  delta State.outagePullDown
  repeat' first
    | with_reducible assumption
    | with_reducible apply State.setN_leaves
    | with_reducible apply State.pumpUpdate_leaves
    | (with_unfolding_none refine hW.covers ?_; repeat first | with_unfolding_none exact Covered.here | with_unfolding_none refine Covered.next ?_)
    | with_unfolding_none apply hW.sub (inBoth (inSkip (inSkip (inSkip (inSkip (inBoth (inBoth inNil)))))))
    | with_reducible refine Leaves.ite ?_ ?_

theorem State.shortActs_leaves {W : List Span} {L : List Part} {org s : State} (n : Nat) (h : Leaves W L org s)
    (hW : Inside (each ADMIT_KIND :: each BANK.BANK_FLAGS :: each CAP_SEEN :: each CASTLING_PAIR.SWAP_RESULT :: each CASTLING_PAIR.SWAP_STATE :: each CELL :: each CHANNEL_CONFIG.REQUEST :: each CHANNEL_PROTECTION.MODEL_FLAGS :: each CHANNEL_STATUS.FLAGS :: each CHANNEL_STATUS.STANDING_GATE :: each CHANNEL_STATUS.STATE :: one (CHANNEL_STATUS.TRIP_CAUSE n) :: one (CHANNEL_SUPERVISION.HARD_TRIPS n) :: one (CHANNEL_SUPERVISION.MODEL_TRIPS n) :: one (CHANNEL_SUPERVISION.TIMEOUT_TRIPS n) :: each FOLD_WAIT :: each GATE :: each LAMP_LOW :: each LAMP_TOLD :: each LATCH :: one (LATCH_PULLED n) :: one (LIFE_NEW n) :: each LIMIT_EPISODE :: each LIMIT_LEFT :: each LIMIT_SINCE :: each LIMIT_SPENT :: each PEND :: each PUMP_START :: each PUMP_STOP_AT :: each PWM_HIGH :: each RESET_OUTPUT.ASSERT_COUNT :: each RESET_OUTPUT.LAST_CHANGE_STAMP :: each RESET_OUTPUT.OUTPUT :: each RSO_GOOD_SINCE :: each RUN_SINCE :: each RUN_SPENT :: one (STAND_EVENTS n) :: each START_AT :: each STORED_WAIT :: each SWAP_IN :: each SWAP_SIDE :: one (TRIP_FRAME n) :: each TRIP_STATE :: one (WAIT_END n) :: each WIN :: (each fun n => inForce (CHANNEL_CONFIG.REQUEST n)) :: []) W) (hL : Within ([.collector, .dieMsgs, .shadows, .staged] : List Part) L) :
    Leaves W L org (State.shortActs s n) := by
  delta State.shortActs
  repeat' first
    | with_reducible assumption
    | with_reducible apply State.outagePullDown_leaves
    | with_reducible apply State.hardShort_leaves
    | with_unfolding_none apply hW.sub (inSkip (BANK.BANK_FLAGS_wide (inSkip (inSkip (inSkip (inSkip (CELL_wide (inSkip (inSkip (inSkip (inSkip (inSkip (inSkip (inSkip (inSkip (inSkip (inSkip (inSkip (GATE_wide (inSkip (inSkip (inSkip (LATCH_wide (inSkip (inBoth (inSkip (inSkip (inSkip (inSkip (inSkip (inSkip (PUMP_START_wide (inSkip (PUMP_STOP_AT_wide inNil))))))))))))))))))))))))))))))))))
    | with_unfolding_none apply hW.sub (inBoth (inBoth (inBoth (inBoth (inBoth (inBoth (inBoth (inBoth (inBoth (inBoth (inBoth (inBoth (inBoth (inBoth (inBoth (inBoth (inBoth (inBoth (inBoth (inBoth (inSkip (inBoth (inBoth (inBoth (inBoth (inBoth (inBoth (inBoth (inBoth (inBoth (inBoth (inBoth (inBoth (inBoth (inBoth (inBoth (inBoth (inBoth (inBoth (inBoth (inBoth (inBoth (inBoth (inBoth (inBoth (inBoth inNil))))))))))))))))))))))))))))))))))))))))))))))
    | (with_reducible refine Within.trans ?_ hL; decide +kernel)
    | with_reducible refine Leaves.ite ?_ ?_

theorem State.hardShortCrossing_leaves {W : List Span} {L : List Part} {org s : State} (n ns : Nat) (vsh : Int) (h : Leaves W L org s)
    (hW : Inside (each ADMIT_KIND :: each BANK.BANK_FLAGS :: each CAP_SEEN :: each CASTLING_PAIR.SWAP_RESULT :: each CASTLING_PAIR.SWAP_STATE :: each CELL :: each CHANNEL_CONFIG.REQUEST :: each CHANNEL_PROTECTION.MODEL_FLAGS :: each CHANNEL_STATUS.FLAGS :: each CHANNEL_STATUS.STANDING_GATE :: each CHANNEL_STATUS.STATE :: one (CHANNEL_STATUS.TRIP_CAUSE n) :: one (CHANNEL_SUPERVISION.HARD_TRIPS n) :: one (CHANNEL_SUPERVISION.MODEL_TRIPS n) :: one (CHANNEL_SUPERVISION.TIMEOUT_TRIPS n) :: each FOLD_WAIT :: each GATE :: each LAMP_LOW :: each LAMP_TOLD :: each LATCH :: one (LATCH_PULLED n) :: one (LIFE_NEW n) :: each LIMIT_EPISODE :: each LIMIT_LEFT :: each LIMIT_SINCE :: each LIMIT_SPENT :: each PEND :: each PUMP_START :: each PUMP_STOP_AT :: each PWM_HIGH :: each RESET_OUTPUT.ASSERT_COUNT :: each RESET_OUTPUT.LAST_CHANGE_STAMP :: each RESET_OUTPUT.OUTPUT :: each RSO_GOOD_SINCE :: each RUN_SINCE :: each RUN_SPENT :: one (STAND_EVENTS n) :: each START_AT :: each STORED_WAIT :: each SWAP_IN :: each SWAP_SIDE :: one (TRIP_FRAME n) :: each TRIP_STATE :: one (WAIT_END n) :: each WIN :: (each fun n => inForce (CHANNEL_CONFIG.REQUEST n)) :: []) W) (hL : Within ([.collector, .dieMsgs, .free, .shadows, .staged] : List Part) L) :
    Leaves W L org (State.hardShortCrossing s n ns vsh) := by
  delta State.hardShortCrossing
  repeat' first
    | with_reducible assumption
    | with_reducible apply State.takeFreeIn_leaves
    | with_reducible apply State.shortActs_leaves
    | with_unfolding_none apply hW.sub (inBoth (inBoth (inBoth (inBoth (inBoth (inBoth (inBoth (inBoth (inBoth (inBoth (inBoth (inBoth (inBoth (inBoth (inBoth (inBoth (inBoth (inBoth (inBoth (inBoth (inBoth (inBoth (inBoth (inBoth (inBoth (inBoth (inBoth (inBoth (inBoth (inBoth (inBoth (inBoth (inBoth (inBoth (inBoth (inBoth (inBoth (inBoth (inBoth (inBoth (inBoth (inBoth (inBoth (inBoth (inBoth (inBoth inNil))))))))))))))))))))))))))))))))))))))))))))))
    | (with_reducible refine Within.trans ?_ hL; decide +kernel)
    | with_reducible exact hL _ (by decide +kernel)
    | (extract_lets +onlyGivenNames letX; have letT : True := (by clear_value letX; revert letX; with_reducible exact Keeps.isPair); clear letT; refine Leaves.cut (W := W) (L := L) (r := org) (v := letX.2) ?_ (fun letH => ?_); (focus subst letX); rotate_left; clear_value letX; revert letX; intro _ _)
    | (extract_lets +onlyGivenNames letX; clear_value letX; revert letX; intro _)
    | with_reducible refine Leaves.iteP ?_ ?_
    | with_reducible refine Leaves.ite ?_ ?_

theorem execHardShortTrip_frame {W : List Span} {L : List Part} {org s : State} (n : Chan) (ns : Nat) (vsh : Int := 0) (h : Leaves W L org s)
    (hW : Inside (each ADMIT_KIND :: each BANK.BANK_FLAGS :: each CAP_SEEN :: each CASTLING_PAIR.SWAP_RESULT :: each CASTLING_PAIR.SWAP_STATE :: each CELL :: each CHANNEL_CONFIG.REQUEST :: each CHANNEL_PROTECTION.MODEL_FLAGS :: each CHANNEL_STATUS.FLAGS :: each CHANNEL_STATUS.STANDING_GATE :: each CHANNEL_STATUS.STATE :: one (CHANNEL_STATUS.TRIP_CAUSE n) :: one (CHANNEL_SUPERVISION.HARD_TRIPS n) :: one (CHANNEL_SUPERVISION.MODEL_TRIPS n) :: one (CHANNEL_SUPERVISION.TIMEOUT_TRIPS n) :: each FOLD_WAIT :: each GATE :: each LAMP_LOW :: each LAMP_TOLD :: each LATCH :: one (LATCH_PULLED n) :: one (LIFE_NEW n) :: each LIMIT_EPISODE :: each LIMIT_LEFT :: each LIMIT_SINCE :: each LIMIT_SPENT :: each PEND :: each PUMP_START :: each PUMP_STOP_AT :: each PWM_HIGH :: each RESET_OUTPUT.ASSERT_COUNT :: each RESET_OUTPUT.LAST_CHANGE_STAMP :: each RESET_OUTPUT.OUTPUT :: each RSO_GOOD_SINCE :: each RUN_SINCE :: each RUN_SPENT :: one (STAND_EVENTS n) :: each START_AT :: each STORED_WAIT :: each SWAP_IN :: each SWAP_SIDE :: one (TRIP_FRAME n) :: each TRIP_STATE :: one (WAIT_END n) :: each WIN :: (each fun n => inForce (CHANNEL_CONFIG.REQUEST n)) :: []) W)
    (hL : Within ([.collector, .dieMsgs, .free, .shadows, .staged] : List Part) L) : RunsIn W L org (execHardShortTrip n ns s vsh) := by
  delta execHardShortTrip
  repeat' first
    | with_reducible assumption
    | with_reducible refine RunsIn.next ?_
    | with_reducible apply State.hardShortCrossing_leaves
    | with_unfolding_none apply hW.sub (inBoth (inBoth (inBoth (inBoth (inBoth (inBoth (inBoth (inBoth (inBoth (inBoth (inBoth (inBoth (inBoth (inBoth (inBoth (inBoth (inBoth (inBoth (inBoth (inBoth (inBoth (inBoth (inBoth (inBoth (inBoth (inBoth (inBoth (inBoth (inBoth (inBoth (inBoth (inBoth (inBoth (inBoth (inBoth (inBoth (inBoth (inBoth (inBoth (inBoth (inBoth (inBoth (inBoth (inBoth (inBoth (inBoth inNil))))))))))))))))))))))))))))))))))))))))))))))

theorem State.limitEntered_leaves {W : List Span} {L : List Part} {org s : State} (n : Nat) (vsh : Int) (h : Leaves W L org s)
    (hW : Inside (one (BANK.BANK_FLAGS ((bankOf n))) :: each CAP_SEEN :: one (CELL n) :: one (CHANNEL_PROTECTION.MODEL_FLAGS n) :: one (CHANNEL_STATUS.FLAGS n) :: one (CHANNEL_STATUS.STANDING_GATE n) :: one (CHANNEL_STATUS.STATE n) :: one (CHANNEL_SUPERVISION.LIMIT_ENTRIES n) :: one (GATE n) :: one (LAMP_LOW n) :: one (LAMP_TOLD n) :: one (LATCH n) :: one (LIMIT_EPISODE n) :: one (LIMIT_FROM n) :: one (LIMIT_LEFT n) :: one (LIMIT_SINCE n) :: one (LIMIT_SPENT n) :: one (PUMP_START ((bankOf n))) :: one (PUMP_STOP_AT ((bankOf n))) :: each RESET_OUTPUT.ASSERT_COUNT :: each RESET_OUTPUT.LAST_CHANGE_STAMP :: each RESET_OUTPUT.OUTPUT :: each RSO_GOOD_SINCE :: one (RUN_SINCE n) :: one (RUN_SPENT n) :: one (STAND_EVENTS n) :: one (WIN n) :: []) W) (hL : Within ([.collector, .dieMsgs] : List Part) L) :
    Leaves W L org (State.limitEntered s n vsh) := by
  delta State.limitEntered
  repeat' first
    | with_reducible assumption
    | with_reducible apply State.setN_leaves
    | with_reducible apply State.count_leaves
    | with_reducible apply State.captureSees_leaves
    | with_reducible apply State.cellTo_leaves
    | with_reducible apply State.raiseChannel_leaves
    | (with_unfolding_none refine hW.covers ?_; repeat first | with_unfolding_none exact Covered.here | with_unfolding_none refine Covered.next ?_)
    | with_unfolding_none apply hW.sub (inSkip (inBoth inNil))
    | with_unfolding_none apply hW.sub (inBoth (inSkip (inBoth (inBoth (inBoth (inBoth (inBoth (inSkip (inBoth (inBoth (inBoth (inBoth (inBoth (inSkip (inBoth (inBoth (inBoth (inBoth (inBoth (inBoth (inBoth (inBoth (inBoth (inBoth (inBoth (inSkip (inBoth inNil)))))))))))))))))))))))))))
    | with_unfolding_none apply hW.sub (inNil)
    | (with_reducible refine Within.trans ?_ hL; decide +kernel)
    | (extract_lets +onlyGivenNames letX; have letT : True := (by clear_value letX; guard_hyp letX : State; trivial); clear letT; refine Leaves.cut (W := W) (L := L) (r := org) (v := letX) ?_ (fun letH => ?_); (focus subst letX); rotate_left; clear_value letX; revert letX; intro _ _)
    | (extract_lets +onlyGivenNames letX; clear_value letX; revert letX; intro _)
    | with_reducible refine Leaves.ite ?_ ?_

theorem State.limitSaturated_leaves {W : List Span} {L : List Part} {org s : State} (n : Nat) (room1 room2 : Int) (h : Leaves W L org s)
    (hW : Inside (one (BANK.BANK_FLAGS ((bankOf n))) :: one (CELL n) :: one (CHANNEL_PROTECTION.MODEL_FLAGS n) :: one (CHANNEL_STATUS.FLAGS n) :: one (CHANNEL_STATUS.STANDING_GATE n) :: one (CHANNEL_STATUS.STATE n) :: one (GATE n) :: one (LAMP_LOW n) :: one (LAMP_TOLD n) :: one (LATCH n) :: one (LIMIT_EPISODE n) :: one (LIMIT_LEFT n) :: one (LIMIT_SINCE n) :: one (LIMIT_SPENT n) :: one (PUMP_START ((bankOf n))) :: one (PUMP_STOP_AT ((bankOf n))) :: each RESET_OUTPUT.ASSERT_COUNT :: each RESET_OUTPUT.LAST_CHANGE_STAMP :: each RESET_OUTPUT.OUTPUT :: each RSO_GOOD_SINCE :: one (RUN_SINCE n) :: one (RUN_SPENT n) :: one (WIN n) :: []) W) (hL : Within ([.collector, .dieMsgs] : List Part) L) :
    Leaves W L org (State.limitSaturated s n room1 room2) := by
  delta State.limitSaturated
  repeat' first
    | with_reducible assumption
    | with_reducible apply State.cellTo_leaves
    | with_unfolding_none apply hW.sub (inBoth (inBoth (inBoth (inBoth (inBoth (inBoth (inBoth (inBoth (inBoth (inBoth (inBoth (inBoth (inBoth (inBoth (inBoth (inBoth (inBoth (inBoth (inBoth (inBoth (inBoth (inBoth (inBoth inNil)))))))))))))))))))))))
    | (with_reducible refine Within.trans ?_ hL; decide +kernel)
    | with_reducible refine Leaves.ite ?_ ?_

theorem State.limitTimeout_leaves {W : List Span} {L : List Part} {org s : State} (n : Nat) (h : Leaves W L org s)
    (hW : Inside (each ADMIT_KIND :: each BANK.BANK_FLAGS :: each CASTLING_PAIR.SWAP_RESULT :: each CASTLING_PAIR.SWAP_STATE :: each CELL :: each CHANNEL_CONFIG.REQUEST :: each CHANNEL_PROTECTION.MODEL_FLAGS :: each CHANNEL_STATUS.FLAGS :: each CHANNEL_STATUS.STANDING_GATE :: each CHANNEL_STATUS.STATE :: one (CHANNEL_STATUS.TRIP_CAUSE n) :: one (CHANNEL_SUPERVISION.HARD_TRIPS n) :: one (CHANNEL_SUPERVISION.MODEL_TRIPS n) :: one (CHANNEL_SUPERVISION.TIMEOUT_TRIPS n) :: each FOLD_WAIT :: each GATE :: each LAMP_LOW :: each LAMP_TOLD :: each LATCH :: one (LIFE_NEW n) :: each LIMIT_EPISODE :: each LIMIT_LEFT :: each LIMIT_SINCE :: each LIMIT_SPENT :: each PEND :: each PUMP_START :: each PUMP_STOP_AT :: each PWM_HIGH :: each RESET_OUTPUT.ASSERT_COUNT :: each RESET_OUTPUT.LAST_CHANGE_STAMP :: each RESET_OUTPUT.OUTPUT :: each RSO_GOOD_SINCE :: each RUN_SINCE :: each RUN_SPENT :: one (STAND_EVENTS n) :: each START_AT :: each STORED_WAIT :: each SWAP_IN :: each SWAP_SIDE :: one (TRIP_FRAME n) :: each TRIP_STATE :: one (WAIT_END n) :: each WIN :: (each fun n => inForce (CHANNEL_CONFIG.REQUEST n)) :: []) W) (hL : Within ([.collector, .dieMsgs, .shadows, .staged] : List Part) L) :
    Leaves W L org (State.limitTimeout s n) := by
  delta State.limitTimeout
  repeat' first
    | with_reducible assumption
    | with_reducible apply State.trip_leaves
    | with_reducible apply State.raiseChannel_leaves
    | with_reducible apply State.lockoutTold_leaves
    | with_reducible apply State.swapTrip_leaves
    | with_unfolding_none apply hW.sub (ADMIT_KIND_wide (inSkip (BANK.BANK_FLAGS_wide (inSkip (inSkip (inSkip (CELL_wide (inSkip (inSkip (CHANNEL_PROTECTION.MODEL_FLAGS_wide (inSkip (CHANNEL_STATUS.FLAGS_wide (inSkip (CHANNEL_STATUS.STANDING_GATE_wide (inSkip (CHANNEL_STATUS.STATE_wide (inSkip (inBoth (inBoth (inBoth (inBoth (inSkip (GATE_wide (inSkip (LAMP_LOW_wide (inSkip (LAMP_TOLD_wide (inSkip (LATCH_wide (inSkip (inBoth (LIMIT_EPISODE_wide (inSkip (LIMIT_LEFT_wide (inSkip (LIMIT_SINCE_wide (inSkip (LIMIT_SPENT_wide (inSkip (PEND_wide (inSkip (PUMP_START_wide (inSkip (PUMP_STOP_AT_wide (inSkip (PWM_HIGH_wide (inSkip (inBoth (inBoth (inBoth (inBoth (RUN_SINCE_wide (inSkip (RUN_SPENT_wide (inSkip (inBoth (START_AT_wide (inSkip (inSkip (inSkip (inSkip (inBoth (TRIP_STATE_wide (inSkip (inBoth (WIN_wide inNil))))))))))))))))))))))))))))))))))))))))))))))))))))))))))))))))))
    | with_unfolding_none apply hW.sub (inNil)
    | with_unfolding_none apply hW.sub (inBoth (inBoth (inBoth (inBoth (inBoth (inBoth (inBoth (inBoth (inBoth (inBoth (inSkip (inSkip (inSkip (inSkip (inBoth (inBoth (inBoth (inBoth (inBoth (inSkip (inBoth (inBoth (inBoth (inBoth (inBoth (inBoth (inBoth (inBoth (inBoth (inBoth (inBoth (inBoth (inBoth (inBoth (inSkip (inBoth (inBoth (inBoth (inBoth (inSkip (inBoth (inSkip (inBoth (inBoth inNil))))))))))))))))))))))))))))))))))))))))))))
    | (with_reducible refine Within.trans ?_ hL; decide +kernel)
    | (extract_lets +onlyGivenNames letX; clear_value letX; revert letX; intro _)
    | with_reducible refine Leaves.ite ?_ ?_

theorem State.limitEpisodeEnd_leaves {W : List Span} {L : List Part} {org s : State} (n : Nat) (h : Leaves W L org s)
    (hW : Inside (one (LIMIT_EPISODE n) :: one (LIMIT_SPENT n) :: []) W) :
    Leaves W L org (State.limitEpisodeEnd s n) := by
  delta State.limitEpisodeEnd
  repeat' first
    | with_reducible assumption
    | with_reducible apply State.setN_leaves
    | (with_unfolding_none refine hW.covers ?_; repeat first | with_unfolding_none exact Covered.here | with_unfolding_none refine Covered.next ?_)
    | with_reducible refine Leaves.ite ?_ ?_

theorem execLimitEntered_frame {W : List Span} {L : List Part} {org s : State} (n : Chan) (vsh : Int) (h : Leaves W L org s)
    (hW : Inside (one (BANK.BANK_FLAGS ((bankOf n))) :: each CAP_SEEN :: one (CELL n) :: one (CHANNEL_PROTECTION.MODEL_FLAGS n) :: one (CHANNEL_STATUS.FLAGS n) :: one (CHANNEL_STATUS.STANDING_GATE n) :: one (CHANNEL_STATUS.STATE n) :: one (CHANNEL_SUPERVISION.LIMIT_ENTRIES n) :: one (GATE n) :: one (LAMP_LOW n) :: one (LAMP_TOLD n) :: one (LATCH n) :: one (LIMIT_EPISODE n) :: one (LIMIT_FROM n) :: one (LIMIT_LEFT n) :: one (LIMIT_SINCE n) :: one (LIMIT_SPENT n) :: one (PUMP_START ((bankOf n))) :: one (PUMP_STOP_AT ((bankOf n))) :: each RESET_OUTPUT.ASSERT_COUNT :: each RESET_OUTPUT.LAST_CHANGE_STAMP :: each RESET_OUTPUT.OUTPUT :: each RSO_GOOD_SINCE :: one (RUN_SINCE n) :: one (RUN_SPENT n) :: one (STAND_EVENTS n) :: one (WIN n) :: []) W)
    (hL : Within ([.collector, .dieMsgs] : List Part) L) : RunsIn W L org (execLimitEntered n vsh s) := by
  delta execLimitEntered
  repeat' first
    | with_reducible assumption
    | with_reducible refine RunsIn.next ?_
    | with_reducible apply State.limitEntered_leaves
    | with_unfolding_none apply hW.sub (inBoth (inBoth (inBoth (inBoth (inBoth (inBoth (inBoth (inBoth (inBoth (inBoth (inBoth (inBoth (inBoth (inBoth (inBoth (inBoth (inBoth (inBoth (inBoth (inBoth (inBoth (inBoth (inBoth (inBoth (inBoth (inBoth (inBoth inNil)))))))))))))))))))))))))))

theorem execLimitSaturatedExit_frame {W : List Span} {L : List Part} {org s : State} (n : Chan) (room1 room2 : Int) (h : Leaves W L org s)
    (hW : Inside (one (BANK.BANK_FLAGS ((bankOf n))) :: one (CELL n) :: one (CHANNEL_PROTECTION.MODEL_FLAGS n) :: one (CHANNEL_STATUS.FLAGS n) :: one (CHANNEL_STATUS.STANDING_GATE n) :: one (CHANNEL_STATUS.STATE n) :: one (GATE n) :: one (LAMP_LOW n) :: one (LAMP_TOLD n) :: one (LATCH n) :: one (LIMIT_EPISODE n) :: one (LIMIT_LEFT n) :: one (LIMIT_SINCE n) :: one (LIMIT_SPENT n) :: one (PUMP_START ((bankOf n))) :: one (PUMP_STOP_AT ((bankOf n))) :: each RESET_OUTPUT.ASSERT_COUNT :: each RESET_OUTPUT.LAST_CHANGE_STAMP :: each RESET_OUTPUT.OUTPUT :: each RSO_GOOD_SINCE :: one (RUN_SINCE n) :: one (RUN_SPENT n) :: one (WIN n) :: []) W)
    (hL : Within ([.collector, .dieMsgs] : List Part) L) : RunsIn W L org (execLimitSaturatedExit n room1 room2 s) := by
  delta execLimitSaturatedExit
  repeat' first
    | with_reducible assumption
    | with_reducible refine RunsIn.next ?_
    | with_reducible apply State.limitSaturated_leaves
    | with_unfolding_none apply hW.sub (inBoth (inBoth (inBoth (inBoth (inBoth (inBoth (inBoth (inBoth (inBoth (inBoth (inBoth (inBoth (inBoth (inBoth (inBoth (inBoth (inBoth (inBoth (inBoth (inBoth (inBoth (inBoth (inBoth inNil)))))))))))))))))))))))

theorem execLimitTimeoutTrip_frame {W : List Span} {L : List Part} {org s : State} (n : Chan) (h : Leaves W L org s)
    (hW : Inside (each ADMIT_KIND :: each BANK.BANK_FLAGS :: each CASTLING_PAIR.SWAP_RESULT :: each CASTLING_PAIR.SWAP_STATE :: each CELL :: each CHANNEL_CONFIG.REQUEST :: each CHANNEL_PROTECTION.MODEL_FLAGS :: each CHANNEL_STATUS.FLAGS :: each CHANNEL_STATUS.STANDING_GATE :: each CHANNEL_STATUS.STATE :: one (CHANNEL_STATUS.TRIP_CAUSE n) :: one (CHANNEL_SUPERVISION.HARD_TRIPS n) :: one (CHANNEL_SUPERVISION.MODEL_TRIPS n) :: one (CHANNEL_SUPERVISION.TIMEOUT_TRIPS n) :: each FOLD_WAIT :: each GATE :: each LAMP_LOW :: each LAMP_TOLD :: each LATCH :: one (LIFE_NEW n) :: each LIMIT_EPISODE :: each LIMIT_LEFT :: each LIMIT_SINCE :: each LIMIT_SPENT :: each PEND :: each PUMP_START :: each PUMP_STOP_AT :: each PWM_HIGH :: each RESET_OUTPUT.ASSERT_COUNT :: each RESET_OUTPUT.LAST_CHANGE_STAMP :: each RESET_OUTPUT.OUTPUT :: each RSO_GOOD_SINCE :: each RUN_SINCE :: each RUN_SPENT :: one (STAND_EVENTS n) :: each START_AT :: each STORED_WAIT :: each SWAP_IN :: each SWAP_SIDE :: one (TRIP_FRAME n) :: each TRIP_STATE :: one (WAIT_END n) :: each WIN :: (each fun n => inForce (CHANNEL_CONFIG.REQUEST n)) :: []) W)
    (hL : Within ([.collector, .dieMsgs, .shadows, .staged] : List Part) L) : RunsIn W L org (execLimitTimeoutTrip n s) := by
  delta execLimitTimeoutTrip
  repeat' first
    | with_reducible assumption
    | with_reducible refine RunsIn.next ?_
    | with_reducible apply State.limitTimeout_leaves
    | with_unfolding_none apply hW.sub (inBoth (inBoth (inBoth (inBoth (inBoth (inBoth (inBoth (inBoth (inBoth (inBoth (inBoth (inBoth (inBoth (inBoth (inBoth (inBoth (inBoth (inBoth (inBoth (inBoth (inBoth (inBoth (inBoth (inBoth (inBoth (inBoth (inBoth (inBoth (inBoth (inBoth (inBoth (inBoth (inBoth (inBoth (inBoth (inBoth (inBoth (inBoth (inBoth (inBoth (inBoth (inBoth (inBoth (inBoth inNil))))))))))))))))))))))))))))))))))))))))))))

theorem execLimitEpisodeEnd_frame {W : List Span} {L : List Part} {org s : State} (n : Chan) (h : Leaves W L org s)
    (hW : Inside (one (LIMIT_EPISODE n) :: one (LIMIT_SPENT n) :: []) W)
    : RunsIn W L org (execLimitEpisodeEnd n s) := by
  delta execLimitEpisodeEnd
  repeat' first
    | with_reducible assumption
    | with_reducible refine RunsIn.next ?_
    | with_reducible apply State.limitEpisodeEnd_leaves
    | with_unfolding_none apply hW.sub (inBoth (inBoth inNil))

theorem State.tripSettled_leaves {W : List Span} {L : List Part} {org s : State} (n : Nat) (vgs : Int) (h : Leaves W L org s)
    (hW : Inside (one (ADMIT_KIND n) :: one (BANK.BANK_FLAGS ((bankOf n))) :: one (CELL n) :: one (CHANNEL_PROTECTION.MODEL_FLAGS n) :: one (CHANNEL_STATUS.FLAGS n) :: one (CHANNEL_STATUS.STANDING_GATE n) :: one (CHANNEL_STATUS.STATE n) :: one (GATE n) :: one (LAMP_LOW n) :: one (LAMP_TOLD n) :: one (LATCH n) :: one (LIMIT_EPISODE n) :: one (LIMIT_LEFT n) :: one (LIMIT_SINCE n) :: one (LIMIT_SPENT n) :: one (PEND n) :: one (PUMP_START ((bankOf n))) :: one (PUMP_STOP_AT ((bankOf n))) :: one (PWM_HIGH n) :: each RESET_OUTPUT.ASSERT_COUNT :: each RESET_OUTPUT.LAST_CHANGE_STAMP :: each RESET_OUTPUT.OUTPUT :: each RSO_GOOD_SINCE :: one (RUN_SINCE n) :: one (RUN_SPENT n) :: one (START_AT n) :: one (WIN n) :: []) W) (hL : Within ([.collector, .dieMsgs, .shadows, .staged] : List Part) L) :
    Leaves W L org (State.tripSettled s n vgs) := by
  delta State.tripSettled
  repeat' first
    | with_reducible assumption
    | with_reducible apply State.setClosing_leaves
    | with_reducible apply State.gateHeld_leaves
    | with_reducible apply State.cellTo_leaves
    | with_reducible apply State.turnOff_leaves
    | with_unfolding_none apply hW.sub (inNil)
    | with_unfolding_none apply hW.sub (inSkip (inSkip (inSkip (inSkip (inSkip (inSkip (inSkip (inBoth inNil))))))))
    | with_unfolding_none apply hW.sub (inSkip (inBoth (inBoth (inBoth (inBoth (inBoth (inBoth (inBoth (inBoth (inBoth (inBoth (inBoth (inBoth (inBoth (inBoth (inSkip (inBoth (inBoth (inSkip (inBoth (inBoth (inBoth (inBoth (inBoth (inBoth (inSkip (inBoth inNil)))))))))))))))))))))))))))
    | with_unfolding_none apply hW.sub (inBoth (inBoth (inBoth (inBoth (inBoth (inBoth (inBoth (inBoth (inBoth (inBoth (inBoth (inBoth (inBoth (inBoth (inBoth (inBoth (inBoth (inBoth (inBoth (inBoth (inBoth (inBoth (inBoth (inBoth (inBoth (inBoth (inBoth inNil)))))))))))))))))))))))))))
    | (with_reducible refine Within.trans ?_ hL; decide +kernel)
    | (extract_lets +onlyGivenNames letX; have letT : True := (by clear_value letX; guard_hyp letX : State; trivial); clear letT; refine Leaves.cut (W := W) (L := L) (r := org) (v := letX) ?_ (fun letH => ?_); (focus subst letX); rotate_left; clear_value letX; revert letX; intro _ _)
    | with_reducible refine Leaves.ite ?_ ?_

theorem State.retryDue_leaves {W : List Span} {L : List Part} {org s : State} (n : Nat) (h : Leaves W L org s)
    (hW : Inside (one (ADMIT_KIND n) :: one (ADMIT_SINCE n) :: one (BANK.BANK_FLAGS ((bankOf n))) :: one (BLANK_UNTIL n) :: one (CELL n) :: one (CHANNEL_PROTECTION.ADMIT_WAIT n) :: one (CHANNEL_PROTECTION.MODEL_FLAGS n) :: one (CHANNEL_PROTECTION.RETRIES_LEFT n) :: one (CHANNEL_STATUS.FLAGS n) :: one (CHANNEL_STATUS.STANDING_GATE n) :: one (CHANNEL_STATUS.STATE n) :: one (CHANNEL_SUPERVISION.RETRIES n) :: one (CHANNEL_SUPERVISION.STARTS n) :: one (GATE n) :: one (LAMP_AT n) :: one (LAMP_LOW n) :: one (LAMP_TOLD n) :: one (LATCH n) :: one (LIMIT_EPISODE n) :: one (LIMIT_LEFT n) :: one (LIMIT_SINCE n) :: one (LIMIT_SPENT n) :: one (ND_GROUP n) :: one (PUMP_START ((bankOf n))) :: one (PUMP_STOP_AT ((bankOf n))) :: one (RAMP_RETRY n) :: one (RAMP_START n) :: each RESET_OUTPUT.ASSERT_COUNT :: each RESET_OUTPUT.LAST_CHANGE_STAMP :: each RESET_OUTPUT.OUTPUT :: one (RETRY_STRETCH n) :: each RSO_GOOD_SINCE :: one (RUN_SINCE n) :: one (RUN_SPENT n) :: one (START_AT n) :: one (WIN n) :: []) W) (hL : Within ([.collector, .dieMsgs] : List Part) L) :
    Leaves W L org (State.retryDue s n) := by
  delta State.retryDue
  repeat' first
    | with_reducible assumption
    | with_reducible apply State.setN_leaves
    | with_reducible apply State.startRamp_leaves
    | with_reducible apply State.askAdmission_leaves
    | (with_unfolding_none refine hW.covers ?_; repeat first | with_unfolding_none exact Covered.here | with_unfolding_none refine Covered.next ?_)
    | with_unfolding_none apply hW.sub (inBoth (inSkip (inBoth (inBoth (inBoth (inSkip (inBoth (inSkip (inBoth (inBoth (inBoth (inBoth (inBoth (inBoth (inBoth (inBoth (inBoth (inBoth (inBoth (inBoth (inBoth (inBoth (inBoth (inBoth (inBoth (inBoth (inBoth (inBoth (inBoth (inBoth (inSkip (inBoth (inBoth (inBoth (inBoth (inBoth inNil))))))))))))))))))))))))))))))))))))
    | with_unfolding_none apply hW.sub (inBoth (inBoth (inSkip (inSkip (inSkip (inBoth (inSkip (inSkip (inBoth inNil)))))))))
    | (with_reducible refine Within.trans ?_ hL; decide +kernel)
    | (extract_lets +onlyGivenNames letX; have letT : True := (by clear_value letX; guard_hyp letX : State; trivial); clear letT; refine Leaves.cut (W := W) (L := L) (r := org) (v := letX) ?_ (fun letH => ?_); (focus subst letX); rotate_left; clear_value letX; revert letX; intro _ _)
    | (extract_lets +onlyGivenNames letX; clear_value letX; revert letX; intro _)
    | with_reducible refine Leaves.ite ?_ ?_

theorem State.retryReset_leaves {W : List Span} {L : List Part} {org s : State} (n : Nat) (h : Leaves W L org s)
    (hW : Inside (one (CHANNEL_PROTECTION.RETRIES_LEFT n) :: []) W) :
    Leaves W L org (State.retryReset s n) := by
  delta State.retryReset
  repeat' first
    | with_reducible assumption
    | with_reducible apply State.setN_leaves
    | (with_unfolding_none refine hW.covers ?_; repeat first | with_unfolding_none exact Covered.here | with_unfolding_none refine Covered.next ?_)
    | (extract_lets +onlyGivenNames letX; clear_value letX; revert letX; intro _)
    | with_reducible refine Leaves.ite ?_ ?_

theorem execTripSettled_frame {W : List Span} {L : List Part} {org s : State} (n : Chan) (vgs : Int) (h : Leaves W L org s)
    (hW : Inside (one (ADMIT_KIND n) :: one (BANK.BANK_FLAGS ((bankOf n))) :: one (CELL n) :: one (CHANNEL_PROTECTION.MODEL_FLAGS n) :: one (CHANNEL_STATUS.FLAGS n) :: one (CHANNEL_STATUS.STANDING_GATE n) :: one (CHANNEL_STATUS.STATE n) :: one (GATE n) :: one (LAMP_LOW n) :: one (LAMP_TOLD n) :: one (LATCH n) :: one (LIMIT_EPISODE n) :: one (LIMIT_LEFT n) :: one (LIMIT_SINCE n) :: one (LIMIT_SPENT n) :: one (PEND n) :: one (PUMP_START ((bankOf n))) :: one (PUMP_STOP_AT ((bankOf n))) :: one (PWM_HIGH n) :: each RESET_OUTPUT.ASSERT_COUNT :: each RESET_OUTPUT.LAST_CHANGE_STAMP :: each RESET_OUTPUT.OUTPUT :: each RSO_GOOD_SINCE :: one (RUN_SINCE n) :: one (RUN_SPENT n) :: one (START_AT n) :: one (WIN n) :: []) W)
    (hL : Within ([.collector, .dieMsgs, .shadows, .staged] : List Part) L) : RunsIn W L org (execTripSettled n vgs s) := by
  delta execTripSettled
  repeat' first
    | with_reducible assumption
    | with_reducible refine RunsIn.next ?_
    | with_reducible apply State.tripSettled_leaves
    | with_unfolding_none apply hW.sub (inBoth (inBoth (inBoth (inBoth (inBoth (inBoth (inBoth (inBoth (inBoth (inBoth (inBoth (inBoth (inBoth (inBoth (inBoth (inBoth (inBoth (inBoth (inBoth (inBoth (inBoth (inBoth (inBoth (inBoth (inBoth (inBoth (inBoth inNil)))))))))))))))))))))))))))

theorem execRetryDue_frame {W : List Span} {L : List Part} {org s : State} (n : Chan) (h : Leaves W L org s)
    (hW : Inside (one (ADMIT_KIND n) :: one (ADMIT_SINCE n) :: one (BANK.BANK_FLAGS ((bankOf n))) :: one (BLANK_UNTIL n) :: one (CELL n) :: one (CHANNEL_PROTECTION.ADMIT_WAIT n) :: one (CHANNEL_PROTECTION.MODEL_FLAGS n) :: one (CHANNEL_PROTECTION.RETRIES_LEFT n) :: one (CHANNEL_STATUS.FLAGS n) :: one (CHANNEL_STATUS.STANDING_GATE n) :: one (CHANNEL_STATUS.STATE n) :: one (CHANNEL_SUPERVISION.RETRIES n) :: one (CHANNEL_SUPERVISION.STARTS n) :: one (GATE n) :: one (LAMP_AT n) :: one (LAMP_LOW n) :: one (LAMP_TOLD n) :: one (LATCH n) :: one (LIMIT_EPISODE n) :: one (LIMIT_LEFT n) :: one (LIMIT_SINCE n) :: one (LIMIT_SPENT n) :: one (ND_GROUP n) :: one (PUMP_START ((bankOf n))) :: one (PUMP_STOP_AT ((bankOf n))) :: one (RAMP_RETRY n) :: one (RAMP_START n) :: each RESET_OUTPUT.ASSERT_COUNT :: each RESET_OUTPUT.LAST_CHANGE_STAMP :: each RESET_OUTPUT.OUTPUT :: one (RETRY_STRETCH n) :: each RSO_GOOD_SINCE :: one (RUN_SINCE n) :: one (RUN_SPENT n) :: one (START_AT n) :: one (WIN n) :: []) W)
    (hL : Within ([.collector, .dieMsgs] : List Part) L) : RunsIn W L org (execRetryDue n s) := by
  delta execRetryDue
  repeat' first
    | with_reducible assumption
    | with_reducible refine RunsIn.next ?_
    | with_reducible apply State.retryDue_leaves
    | with_unfolding_none apply hW.sub (inBoth (inBoth (inBoth (inBoth (inBoth (inBoth (inBoth (inBoth (inBoth (inBoth (inBoth (inBoth (inBoth (inBoth (inBoth (inBoth (inBoth (inBoth (inBoth (inBoth (inBoth (inBoth (inBoth (inBoth (inBoth (inBoth (inBoth (inBoth (inBoth (inBoth (inBoth (inBoth (inBoth (inBoth (inBoth (inBoth inNil))))))))))))))))))))))))))))))))))))

theorem execRetryResetTime_frame {W : List Span} {L : List Part} {org s : State} (n : Chan) (h : Leaves W L org s)
    (hW : Inside (one (CHANNEL_PROTECTION.RETRIES_LEFT n) :: []) W)
    : RunsIn W L org (execRetryResetTime n s) := by
  delta execRetryResetTime
  repeat' first
    | with_reducible assumption
    | with_reducible refine RunsIn.next ?_
    | with_reducible apply State.retryReset_leaves
    | with_unfolding_none apply hW.sub (inBoth inNil)

theorem State.lampEnds_leaves {W : List Span} {L : List Part} {org s : State} (n : Nat) (h : Leaves W L org s)
    (hW : Inside (one (CHANNEL_PROTECTION.MODEL_FLAGS n) :: []) W) :
    Leaves W L org (State.lampEnds s n) := by
  delta State.lampEnds
  repeat' first
    | with_reducible assumption
    | with_reducible apply State.setModelFlag_leaves
    | with_unfolding_none apply hW.sub (inBoth inNil)
    | with_reducible refine Leaves.ite ?_ ?_

theorem State.openLamp_leaves {W : List Span} {L : List Part} {org s : State} (n : Nat) (h : Leaves W L org s)
    (hW : Inside (one (CHANNEL_PROTECTION.MODEL_FLAGS n) :: one (LAMP_TOLD n) :: []) W) (hL : Within ([.dieMsgs] : List Part) L) :
    Leaves W L org (State.openLamp s n) := by
  delta State.openLamp
  repeat' first
    | with_reducible assumption
    | with_reducible apply State.setN_leaves
    | with_reducible apply State.setModelFlag_leaves
    | with_reducible apply State.raiseChannel_leaves
    | (with_unfolding_none refine hW.covers ?_; repeat first | with_unfolding_none exact Covered.here | with_unfolding_none refine Covered.next ?_)
    | with_unfolding_none apply hW.sub (inBoth inNil)
    | with_unfolding_none apply hW.sub (inNil)
    | (with_reducible refine Within.trans ?_ hL; decide +kernel)
    | (extract_lets +onlyGivenNames letX; have letT : True := (by clear_value letX; guard_hyp letX : State; trivial); clear letT; refine Leaves.cut (W := W) (L := L) (r := org) (v := letX) ?_ (fun letH => ?_); (focus subst letX); rotate_left; clear_value letX; revert letX; intro _ _)
    | (extract_lets +onlyGivenNames letX; clear_value letX; revert letX; intro _)
    | with_reducible refine Leaves.ite ?_ ?_

theorem execLampEnvelopeEnd_frame {W : List Span} {L : List Part} {org s : State} (n : Chan) (h : Leaves W L org s)
    (hW : Inside (one (CHANNEL_PROTECTION.MODEL_FLAGS n) :: []) W)
    : RunsIn W L org (execLampEnvelopeEnd n s) := by
  delta execLampEnvelopeEnd
  repeat' first
    | with_reducible assumption
    | with_reducible refine RunsIn.next ?_
    | with_reducible apply State.lampEnds_leaves
    | with_unfolding_none apply hW.sub (inBoth inNil)

theorem execOpenLamp_frame {W : List Span} {L : List Part} {org s : State} (n : Chan) (h : Leaves W L org s)
    (hW : Inside (one (CHANNEL_PROTECTION.MODEL_FLAGS n) :: one (LAMP_TOLD n) :: []) W)
    (hL : Within ([.dieMsgs] : List Part) L) : RunsIn W L org (execOpenLamp n s) := by
  delta execOpenLamp
  repeat' first
    | with_reducible assumption
    | with_reducible refine RunsIn.next ?_
    | with_reducible apply State.openLamp_leaves
    | with_unfolding_none apply hW.sub (inBoth (inBoth inNil))

theorem State.swapTimeout_leaves {W : List Span} {L : List Part} {org s : State} (p : Nat) (h : Leaves W L org s)
    (hW : Inside (each ADMIT_KIND :: each BANK.BANK_FLAGS :: one (CASTLING_PAIR.SWAP_RESULT p) :: one (CASTLING_PAIR.SWAP_STATE p) :: each CELL :: each CHANNEL_CONFIG.REQUEST :: each CHANNEL_PROTECTION.MODEL_FLAGS :: each CHANNEL_STATUS.FLAGS :: each CHANNEL_STATUS.STANDING_GATE :: each CHANNEL_STATUS.STATE :: each FOLD_WAIT :: each GATE :: each LAMP_LOW :: each LAMP_TOLD :: each LATCH :: each LIMIT_EPISODE :: each LIMIT_LEFT :: each LIMIT_SINCE :: each LIMIT_SPENT :: each PEND :: each PUMP_START :: each PUMP_STOP_AT :: each PWM_HIGH :: each RESET_OUTPUT.ASSERT_COUNT :: each RESET_OUTPUT.LAST_CHANGE_STAMP :: each RESET_OUTPUT.OUTPUT :: each RSO_GOOD_SINCE :: each RUN_SINCE :: each RUN_SPENT :: each START_AT :: each STORED_WAIT :: one (SWAP_IN p) :: each TRIP_STATE :: each WIN :: (each fun n => inForce (CHANNEL_CONFIG.REQUEST n)) :: []) W) (hL : Within ([.collector, .dieMsgs, .staged] : List Part) L) :
    Leaves W L org (State.swapTimeout s p) := by
  delta State.swapTimeout
  repeat' first
    | with_reducible assumption
    | with_reducible apply State.swapAbort_leaves
    | with_unfolding_none apply hW.sub (inBoth (inBoth (inBoth (inBoth (inBoth (inBoth (inBoth (inBoth (inBoth (inBoth (inBoth (inBoth (inBoth (inBoth (inBoth (inBoth (inBoth (inBoth (inBoth (inBoth (inBoth (inBoth (inBoth (inBoth (inBoth (inBoth (inBoth (inBoth (inBoth (inBoth (inBoth (inBoth (inBoth (inBoth (inBoth inNil)))))))))))))))))))))))))))))))))))
    | (with_reducible refine Within.trans ?_ hL; decide +kernel)
    | with_reducible refine Leaves.ite ?_ ?_

theorem State.swapOverlapEnd_leaves {W : List Span} {L : List Part} {org s : State} (p : Nat) (h : Leaves W L org s)
    (hW : Inside (each ADMIT_KIND :: each BANK.BANK_FLAGS :: one (CASTLING_PAIR.ACTIVE p) :: one (CASTLING_PAIR.SWAP_COUNT p) :: one (CASTLING_PAIR.SWAP_RESULT p) :: one (CASTLING_PAIR.SWAP_STATE p) :: each CELL :: each CHANNEL_CONFIG.REQUEST :: each CHANNEL_PROTECTION.MODEL_FLAGS :: each CHANNEL_STATUS.FLAGS :: each CHANNEL_STATUS.STANDING_GATE :: each CHANNEL_STATUS.STATE :: each GATE :: each LAMP_LOW :: each LAMP_TOLD :: each LATCH :: each LIMIT_EPISODE :: each LIMIT_LEFT :: each LIMIT_SINCE :: each LIMIT_SPENT :: each PEND :: each PUMP_START :: each PUMP_STOP_AT :: each PWM_HIGH :: each RESET_OUTPUT.ASSERT_COUNT :: each RESET_OUTPUT.LAST_CHANGE_STAMP :: each RESET_OUTPUT.OUTPUT :: each RSO_GOOD_SINCE :: each RUN_SINCE :: each RUN_SPENT :: each START_AT :: each STORED_WAIT :: one (SWAP_IN p) :: each TRIP_STATE :: each WIN :: (each fun n => inForce (CHANNEL_CONFIG.REQUEST n)) :: []) W) (hL : Within ([.collector, .dieMsgs, .staged] : List Part) L) :
    Leaves W L org (State.swapOverlapEnd s p) := by
  delta State.swapOverlapEnd
  repeat' first
    | with_reducible assumption
    | with_reducible apply State.swapComplete_leaves
    | with_unfolding_none apply hW.sub (inBoth (inBoth (inBoth (inBoth (inBoth (inBoth (inBoth (inBoth (inBoth (inBoth (inBoth (inBoth (inBoth (inBoth (inBoth (inBoth (inBoth (inBoth (inBoth (inBoth (inBoth (inBoth (inBoth (inBoth (inBoth (inBoth (inBoth (inBoth (inBoth (inBoth (inBoth (inBoth (inBoth (inBoth (inBoth (inBoth inNil))))))))))))))))))))))))))))))))))))
    | (with_reducible refine Within.trans ?_ hL; decide +kernel)
    | with_reducible refine Leaves.ite ?_ ?_

theorem execSwapOverlapEnd_frame {W : List Span} {L : List Part} {org s : State} (p : Pair) (h : Leaves W L org s)
    (hW : Inside (each ADMIT_KIND :: each BANK.BANK_FLAGS :: one (CASTLING_PAIR.ACTIVE p) :: one (CASTLING_PAIR.SWAP_COUNT p) :: one (CASTLING_PAIR.SWAP_RESULT p) :: one (CASTLING_PAIR.SWAP_STATE p) :: each CELL :: each CHANNEL_CONFIG.REQUEST :: each CHANNEL_PROTECTION.MODEL_FLAGS :: each CHANNEL_STATUS.FLAGS :: each CHANNEL_STATUS.STANDING_GATE :: each CHANNEL_STATUS.STATE :: each GATE :: each LAMP_LOW :: each LAMP_TOLD :: each LATCH :: each LIMIT_EPISODE :: each LIMIT_LEFT :: each LIMIT_SINCE :: each LIMIT_SPENT :: each PEND :: each PUMP_START :: each PUMP_STOP_AT :: each PWM_HIGH :: each RESET_OUTPUT.ASSERT_COUNT :: each RESET_OUTPUT.LAST_CHANGE_STAMP :: each RESET_OUTPUT.OUTPUT :: each RSO_GOOD_SINCE :: each RUN_SINCE :: each RUN_SPENT :: each START_AT :: each STORED_WAIT :: one (SWAP_IN p) :: each TRIP_STATE :: each WIN :: (each fun n => inForce (CHANNEL_CONFIG.REQUEST n)) :: []) W)
    (hL : Within ([.collector, .dieMsgs, .staged] : List Part) L) : RunsIn W L org (execSwapOverlapEnd p s) := by
  delta execSwapOverlapEnd
  repeat' first
    | with_reducible assumption
    | with_reducible refine RunsIn.next ?_
    | with_reducible apply State.swapOverlapEnd_leaves
    | with_unfolding_none apply hW.sub (inBoth (inBoth (inBoth (inBoth (inBoth (inBoth (inBoth (inBoth (inBoth (inBoth (inBoth (inBoth (inBoth (inBoth (inBoth (inBoth (inBoth (inBoth (inBoth (inBoth (inBoth (inBoth (inBoth (inBoth (inBoth (inBoth (inBoth (inBoth (inBoth (inBoth (inBoth (inBoth (inBoth (inBoth (inBoth (inBoth inNil))))))))))))))))))))))))))))))))))))

theorem execSwapTimeout_frame {W : List Span} {L : List Part} {org s : State} (p : Pair) (h : Leaves W L org s)
    (hW : Inside (each ADMIT_KIND :: each BANK.BANK_FLAGS :: one (CASTLING_PAIR.SWAP_RESULT p) :: one (CASTLING_PAIR.SWAP_STATE p) :: each CELL :: each CHANNEL_CONFIG.REQUEST :: each CHANNEL_PROTECTION.MODEL_FLAGS :: each CHANNEL_STATUS.FLAGS :: each CHANNEL_STATUS.STANDING_GATE :: each CHANNEL_STATUS.STATE :: each FOLD_WAIT :: each GATE :: each LAMP_LOW :: each LAMP_TOLD :: each LATCH :: each LIMIT_EPISODE :: each LIMIT_LEFT :: each LIMIT_SINCE :: each LIMIT_SPENT :: each PEND :: each PUMP_START :: each PUMP_STOP_AT :: each PWM_HIGH :: each RESET_OUTPUT.ASSERT_COUNT :: each RESET_OUTPUT.LAST_CHANGE_STAMP :: each RESET_OUTPUT.OUTPUT :: each RSO_GOOD_SINCE :: each RUN_SINCE :: each RUN_SPENT :: each START_AT :: each STORED_WAIT :: one (SWAP_IN p) :: each TRIP_STATE :: each WIN :: (each fun n => inForce (CHANNEL_CONFIG.REQUEST n)) :: []) W)
    (hL : Within ([.collector, .dieMsgs, .staged] : List Part) L) : RunsIn W L org (execSwapTimeout p s) := by
  delta execSwapTimeout
  repeat' first
    | with_reducible assumption
    | with_reducible refine RunsIn.next ?_
    | with_reducible apply State.swapTimeout_leaves
    | with_unfolding_none apply hW.sub (inBoth (inBoth (inBoth (inBoth (inBoth (inBoth (inBoth (inBoth (inBoth (inBoth (inBoth (inBoth (inBoth (inBoth (inBoth (inBoth (inBoth (inBoth (inBoth (inBoth (inBoth (inBoth (inBoth (inBoth (inBoth (inBoth (inBoth (inBoth (inBoth (inBoth (inBoth (inBoth (inBoth (inBoth (inBoth inNil)))))))))))))))))))))))))))))))))))

theorem State.captureTrigger_leaves {W : List Span} {L : List Part} {org s : State} (d : Nat) (h : Leaves W L org s)
    (hW : Inside (one (BANK.CAPTURE_STATE (8 * d)) :: one (BANK.TRIGGER_STAMP (8 * d)) :: each2 CAP_RING :: []) W) :
    Leaves W L org (State.captureTrigger s d) := by
  delta State.captureTrigger
  repeat' first
    | with_reducible assumption
    | with_reducible apply State.setN_leaves
    | with_reducible apply State.setBlob_leaves
    | (with_unfolding_none refine hW.covers ?_; repeat first | with_unfolding_none exact Covered.here | with_unfolding_none exact CAP_RING_in | with_unfolding_none refine Covered.next ?_)
    | (extract_lets +onlyGivenNames letX; have letT : True := (by clear_value letX; guard_hyp letX : State; trivial); clear letT; refine Leaves.cut (W := W) (L := L) (r := org) (v := letX) ?_ (fun letH => ?_); (focus subst letX); rotate_left; clear_value letX; revert letX; intro _ _)
    | (extract_lets +onlyGivenNames letX; clear_value letX; revert letX; intro _)
    | with_reducible refine Leaves.ite ?_ ?_
    | with_reducible refine forBelow_leaves ?_ (fun _ _ _ => ?_)

theorem State.captureComplete_leaves {W : List Span} {L : List Part} {org s : State} (d : Nat) (h : Leaves W L org s)
    (hW : Inside (one (BANK.CAPTURE_DATA (8 * d)) :: one (BANK.CAPTURE_STATE (8 * d)) :: []) W) (hL : Within ([.dieMsgs] : List Part) L) :
    Leaves W L org (State.captureComplete s d) := by
  delta State.captureComplete
  repeat' first
    | with_reducible assumption
    | with_reducible apply State.setN_leaves
    | with_reducible apply State.setBlob_leaves
    | with_reducible apply State.raiseDie_leaves
    | (with_unfolding_none refine hW.covers ?_; repeat first | with_unfolding_none exact Covered.here | with_unfolding_none refine Covered.next ?_)
    | with_unfolding_none apply hW.sub (inNil)
    | (with_reducible refine Within.trans ?_ hL; decide +kernel)
    | (extract_lets +onlyGivenNames letX; have letT : True := (by clear_value letX; guard_hyp letX : State; trivial); clear letT; refine Leaves.cut (W := W) (L := L) (r := org) (v := letX) ?_ (fun letH => ?_); (focus subst letX); rotate_left; clear_value letX; revert letX; intro _ _)
    | (extract_lets +onlyGivenNames letX; clear_value letX; revert letX; intro _)
    | with_reducible refine Leaves.ite ?_ ?_

theorem State.captureArm_leaves {W : List Span} {L : List Part} {org s : State} (d : Nat) (h : Leaves W L org s)
    (hW : Inside (one (BANK.CAPTURE_DATA (8 * d)) :: one (BANK.CAPTURE_STATE (8 * d)) :: one (CAP_FROM d) :: each2 CAP_RING :: one (CAP_SEEN d) :: one DMA_REARMED :: []) W) :
    Leaves W L org (State.captureArm s d) := by
  delta State.captureArm
  repeat' first
    | with_reducible assumption
    | with_reducible apply State.setN_leaves
    | with_reducible apply State.setBlob_leaves
    | (with_unfolding_none refine hW.covers ?_; repeat first | with_unfolding_none exact Covered.here | with_unfolding_none exact CAP_RING_in | with_unfolding_none exact DMA_REARMED_in | with_unfolding_none refine Covered.next ?_)
    | (extract_lets +onlyGivenNames letX; have letT : True := (by clear_value letX; guard_hyp letX : State; trivial); clear letT; refine Leaves.cut (W := W) (L := L) (r := org) (v := letX) ?_ (fun letH => ?_); (focus subst letX); rotate_left; clear_value letX; revert letX; intro _ _)
    | (extract_lets +onlyGivenNames letX; clear_value letX; revert letX; intro _)
    | with_reducible refine Leaves.ite ?_ ?_
    | with_reducible refine forBelow_leaves ?_ (fun _ _ _ => ?_)

theorem State.capturePush_leaves {W : List Span} {L : List Part} {org s : State} (d i : Nat) (sample : Int) (times : Nat) (h : Leaves W L org s)
    (hW : Inside (one (CAP_RING d i) :: []) W) :
    Leaves W L org (State.capturePush s d i sample times) := by
  delta State.capturePush
  repeat' first
    | with_reducible assumption
    | with_reducible apply State.setBlob_leaves
    | (with_unfolding_none refine hW.covers ?_; repeat first | with_unfolding_none exact Covered.here | with_unfolding_none refine Covered.next ?_)
    | (extract_lets +onlyGivenNames letX; clear_value letX; revert letX; intro _)
    | with_reducible refine Leaves.ite ?_ ?_

theorem execCaptureTrigger_frame {W : List Span} {L : List Part} {org s : State} (d : Die) (h : Leaves W L org s)
    (hW : Inside (one (BANK.CAPTURE_STATE (8 * d)) :: one (BANK.TRIGGER_STAMP (8 * d)) :: each2 CAP_RING :: []) W)
    : RunsIn W L org (execCaptureTrigger d s) := by
  delta execCaptureTrigger
  repeat' first
    | with_reducible assumption
    | with_reducible refine RunsIn.next ?_
    | with_reducible apply State.captureTrigger_leaves
    | with_unfolding_none apply hW.sub (inBoth (inBoth (inBoth inNil)))

theorem execCaptureComplete_frame {W : List Span} {L : List Part} {org s : State} (d : Die) (h : Leaves W L org s)
    (hW : Inside (one (BANK.CAPTURE_DATA (8 * d)) :: one (BANK.CAPTURE_STATE (8 * d)) :: []) W)
    (hL : Within ([.dieMsgs] : List Part) L) : RunsIn W L org (execCaptureComplete d s) := by
  delta execCaptureComplete
  repeat' first
    | with_reducible assumption
    | with_reducible refine RunsIn.next ?_
    | with_reducible apply State.captureComplete_leaves
    | with_unfolding_none apply hW.sub (inBoth (inBoth inNil))

theorem State.showDegraded_leaves {W : List Span} {L : List Part} {org s : State} (k : Nat) (h : Leaves W L org s)
    (hW : Inside (one (BANK.BANK_FLAGS k) :: []) W) :
    Leaves W L org (State.showDegraded s k) := by
  delta State.showDegraded
  repeat' first
    | with_reducible assumption
    | with_reducible apply State.setBit_leaves
    | (with_unfolding_none refine hW.covers ?_; repeat first | with_unfolding_none exact Covered.here | with_unfolding_none refine Covered.next ?_)

theorem State.calJudge_leaves {W : List Span} {L : List Part} {org s : State} (k u p : Nat) (gain offset : Int) (h : Leaves W L org s)
    (hW : Inside (one (CAL_AT u) :: one (CAL_DIFF u p) :: one (CAL_GAIN u p) :: one (CAL_OFFSET u p) :: one (CHANNEL_STATUS.FLAGS u) :: []) W) (hL : Within ([.dieMsgs, .free] : List Part) L) :
    Leaves W L org (State.calJudge s k u p gain offset) := by
  delta State.calJudge
  repeat' first
    | with_reducible assumption
    | with_reducible apply State.set_leaves
    | with_reducible apply State.setN_leaves
    | with_reducible apply State.takeFreeIn_leaves
    | with_reducible apply State.setChFlag_leaves
    | with_reducible apply State.raiseCell_leaves
    | with_reducible apply State.raiseDie_leaves
    | (with_unfolding_none refine hW.covers ?_; repeat first | with_unfolding_none exact Covered.here | with_unfolding_none refine Covered.next ?_)
    | with_unfolding_none apply hW.sub (inSkip (inSkip (inSkip (inSkip (inBoth inNil)))))
    | with_unfolding_none apply hW.sub (inNil)
    | (with_reducible refine Within.trans ?_ hL; decide +kernel)
    | with_reducible exact hL _ (by decide +kernel)
    | (extract_lets +onlyGivenNames letX; have letT : True := (by clear_value letX; guard_hyp letX : State; trivial); clear letT; refine Leaves.cut (W := W) (L := L) (r := org) (v := letX) ?_ (fun letH => ?_); (focus subst letX); rotate_left; clear_value letX; revert letX; intro _ _)
    | (extract_lets +onlyGivenNames letX; have letT : True := (by clear_value letX; revert letX; with_reducible exact Keeps.isPair); clear letT; refine Leaves.cut (W := W) (L := L) (r := org) (v := letX.2) ?_ (fun letH => ?_); (focus subst letX); rotate_left; clear_value letX; revert letX; intro _ _)
    | (extract_lets +onlyGivenNames letX; clear_value letX; revert letX; intro _)
    | with_reducible refine Leaves.iteP ?_ ?_
    | with_reducible refine Leaves.ite ?_ ?_

theorem State.calClear_leaves {W : List Span} {L : List Part} {org s : State} (u : Nat) (h : Leaves W L org s)
    (hW : Inside (one (CHANNEL_STATUS.FLAGS u) :: []) W) :
    Leaves W L org (State.calClear s u) := by
  delta State.calClear
  repeat' first
    | with_reducible assumption
    | with_reducible apply State.setChFlag_leaves
    | with_unfolding_none apply hW.sub (inBoth inNil)
    | with_reducible refine Leaves.ite ?_ ?_

theorem State.calibrationEnd_leaves {W : List Span} {L : List Part} {org s : State} (k : Nat) (gainI offsetI gainV offsetV : Int) (h : Leaves W L org s)
    (hW : Inside (one (BANK.BANK_FLAGS k) :: each CAL_AT :: each2 CAL_DIFF :: each2 CAL_GAIN :: each2 CAL_OFFSET :: one (CAL_PAUSED k) :: one (CAL_POS k) :: one (CAL_POS_AT k) :: each CHANNEL_STATUS.FLAGS :: []) W) (hL : Within ([.dieMsgs, .free] : List Part) L) :
    Leaves W L org (State.calibrationEnd s k gainI offsetI gainV offsetV) := by
  delta State.calibrationEnd
  repeat' first
    | with_reducible assumption
    | with_reducible apply State.setN_leaves
    | with_reducible apply State.calJudge_leaves
    | with_reducible apply State.calClear_leaves
    | with_reducible apply State.showDegraded_leaves
    | (with_unfolding_none refine hW.covers ?_; repeat first | with_unfolding_none exact Covered.here | with_unfolding_none refine Covered.next ?_)
    | with_unfolding_none apply hW.sub (inSkip (CAL_AT_wide (inSkip (CAL_DIFF_wide (inSkip (CAL_GAIN_wide (inSkip (CAL_OFFSET_wide (inSkip (inSkip (inSkip (inSkip (CHANNEL_STATUS.FLAGS_wide inNil)))))))))))))
    | with_unfolding_none apply hW.sub (inSkip (inSkip (inSkip (inSkip (inSkip (inSkip (inSkip (inSkip (CHANNEL_STATUS.FLAGS_wide inNil)))))))))
    | with_unfolding_none apply hW.sub (inBoth inNil)
    | (with_reducible refine Within.trans ?_ hL; decide +kernel)
    | (extract_lets +onlyGivenNames letX; have letT : True := (by clear_value letX; guard_hyp letX : State; trivial); clear letT; refine Leaves.cut (W := W) (L := L) (r := org) (v := letX) ?_ (fun letH => ?_); (focus subst letX); rotate_left; clear_value letX; revert letX; intro _ _)
    | (extract_lets +onlyGivenNames letX; clear_value letX; revert letX; intro _)
    | with_reducible refine Leaves.ite ?_ ?_

theorem execCalibrationPositionEnd_frame {W : List Span} {L : List Part} {org s : State} (k : Bank) (gainI offsetI gainV offsetV : Int) (h : Leaves W L org s)
    (hW : Inside (one (BANK.BANK_FLAGS k) :: each CAL_AT :: each2 CAL_DIFF :: each2 CAL_GAIN :: each2 CAL_OFFSET :: one (CAL_PAUSED k) :: one (CAL_POS k) :: one (CAL_POS_AT k) :: each CHANNEL_STATUS.FLAGS :: []) W)
    (hL : Within ([.dieMsgs, .free] : List Part) L) : RunsIn W L org (execCalibrationPositionEnd k gainI offsetI gainV offsetV s) := by
  delta execCalibrationPositionEnd
  repeat' first
    | with_reducible assumption
    | with_reducible refine RunsIn.next ?_
    | with_reducible apply State.calibrationEnd_leaves
    | with_unfolding_none apply hW.sub (inBoth (inBoth (inBoth (inBoth (inBoth (inBoth (inBoth (inBoth (inBoth inNil)))))))))

theorem State.linkLossStanding_leaves {W : List Span} {L : List Part} {org s : State} (d : Nat) (h : Leaves W L org s)
    (hW : Inside (each ADMIT_KIND :: one (AMLOR_LINK.LOSS_EVENTS d) :: each BANK.BANK_FLAGS :: each BLANK_UNTIL :: each CASTLING_PAIR.SWAP_RESULT :: each CASTLING_PAIR.SWAP_STATE :: each CELL :: each CHANNEL_CONFIG.REQUEST :: each CHANNEL_PROTECTION.MODEL_FLAGS :: each CHANNEL_STATUS.FLAGS :: each CHANNEL_STATUS.STANDING_CAUSE :: each CHANNEL_STATUS.STANDING_GATE :: each CHANNEL_STATUS.STATE :: each CHANNEL_SUPERVISION.RETRIES :: each CHANNEL_SUPERVISION.STARTS :: each FOLD_WAIT :: each GATE :: each LAMP_AT :: each LAMP_LOW :: each LAMP_TOLD :: each LATCH :: each LIMIT_EPISODE :: each LIMIT_LEFT :: each LIMIT_SINCE :: each LIMIT_SPENT :: one (LOSS_STOOD d) :: each ND_GROUP :: each PEND :: each PUMP_START :: each PUMP_STOP_AT :: each PWM_HIGH :: each RAMP_RETRY :: each RAMP_START :: each RESET_OUTPUT.ASSERT_COUNT :: each RESET_OUTPUT.LAST_CHANGE_STAMP :: each RESET_OUTPUT.OUTPUT :: each RSO_GOOD_SINCE :: each RUN_SINCE :: each RUN_SPENT :: each SAFE_WAIT :: each STAND_ENTRY :: each STAND_EVENTS :: one (STAND_TRIGGERS d) :: each START_AT :: each STORED_WAIT :: each SWAP_IN :: each TRIP_STATE :: each WIN :: (each fun n => inForce (CHANNEL_CONFIG.REQUEST n)) :: []) W) (hL : Within ([.collector, .dieMsgs, .staged] : List Part) L) :
    Leaves W L org (State.linkLossStanding s d) := by
  delta State.linkLossStanding
  repeat' first
    | with_reducible assumption
    | with_reducible apply State.setN_leaves
    | with_reducible apply State.count_leaves
    | with_reducible apply State.standDie_leaves
    | (with_unfolding_none refine hW.covers ?_; repeat first | with_unfolding_none exact Covered.here | with_unfolding_none refine Covered.next ?_)
    | with_unfolding_none apply hW.sub (inBoth (inSkip (inBoth (inBoth (inBoth (inBoth (inBoth (inBoth (inBoth (inBoth (inBoth (inBoth (inBoth (inBoth (inBoth (inBoth (inBoth (inBoth (inBoth (inBoth (inBoth (inBoth (inBoth (inBoth (inBoth (inSkip (inBoth (inBoth (inBoth (inBoth (inBoth (inBoth (inBoth (inBoth (inBoth (inBoth (inBoth (inBoth (inBoth (inBoth (inBoth (inBoth (inBoth (inBoth (inBoth (inBoth (inBoth (inBoth (inBoth inNil)))))))))))))))))))))))))))))))))))))))))))))))))
    | (with_reducible refine Within.trans ?_ hL; decide +kernel)
    | with_reducible refine Leaves.ite ?_ ?_

theorem State.resetIndication_leaves {W : List Span} {L : List Part} {org s : State} (h : Leaves W L org s)
    (hW : Inside (each ADMIT_KIND :: each BANK.BANK_FLAGS :: each BLANK_UNTIL :: each CASTLING_PAIR.SWAP_RESULT :: each CASTLING_PAIR.SWAP_STATE :: each CELL :: each CHANNEL_CONFIG.REQUEST :: each CHANNEL_PROTECTION.MODEL_FLAGS :: each CHANNEL_STATUS.FLAGS :: each CHANNEL_STATUS.STANDING_CAUSE :: each CHANNEL_STATUS.STANDING_GATE :: each CHANNEL_STATUS.STATE :: each CHANNEL_SUPERVISION.RETRIES :: each CHANNEL_SUPERVISION.STARTS :: each FOLD_WAIT :: each GATE :: each LAMP_AT :: each LAMP_LOW :: each LAMP_TOLD :: each LATCH :: each LIMIT_EPISODE :: each LIMIT_LEFT :: each LIMIT_SINCE :: each LIMIT_SPENT :: each ND_GROUP :: each PEND :: each PUMP_START :: each PUMP_STOP_AT :: each PWM_HIGH :: each RAMP_RETRY :: each RAMP_START :: each RESET_OUTPUT.ASSERT_COUNT :: each RESET_OUTPUT.LAST_CHANGE_STAMP :: each RESET_OUTPUT.OUTPUT :: each RSO_GOOD_SINCE :: each RUN_SINCE :: each RUN_SPENT :: each SAFE_WAIT :: each STAND_ENTRY :: each STAND_EVENTS :: each STAND_TRIGGERS :: each START_AT :: each STORED_WAIT :: each SWAP_IN :: each TRIP_STATE :: each WIN :: (each fun n => inForce (CHANNEL_CONFIG.REQUEST n)) :: []) W) (hL : Within ([.collector, .dieMsgs, .staged] : List Part) L) :
    Leaves W L org (State.resetIndication s) := by
  delta State.resetIndication
  repeat' first
    | with_reducible assumption
    | with_reducible apply State.standDie_leaves
    | with_unfolding_none apply hW.sub (inBoth (inBoth (inBoth (inBoth (inBoth (inBoth (inBoth (inBoth (inBoth (inBoth (inBoth (inBoth (inBoth (inBoth (inBoth (inBoth (inBoth (inBoth (inBoth (inBoth (inBoth (inBoth (inBoth (inBoth (inBoth (inBoth (inBoth (inBoth (inBoth (inBoth (inBoth (inBoth (inBoth (inBoth (inBoth (inBoth (inBoth (inBoth (inBoth (inBoth (STAND_TRIGGERS_wide (inSkip (inBoth (inBoth (inBoth (inBoth (inBoth (inBoth inNil))))))))))))))))))))))))))))))))))))))))))))))))
    | (with_reducible refine Within.trans ?_ hL; decide +kernel)
    | with_reducible refine Leaves.ite ?_ ?_
    | with_reducible refine forBelow_leaves ?_ (fun _ _ _ => ?_)

theorem State.standBlock_leaves {W : List Span} {L : List Part} {org s : State} (d : Nat) (h : Leaves W L org s)
    (hW : Inside (each ADMIT_KIND :: each BANK.BANK_FLAGS :: each BLANK_UNTIL :: each CASTLING_PAIR.SWAP_RESULT :: each CASTLING_PAIR.SWAP_STATE :: each CELL :: each CHANNEL_CONFIG.REQUEST :: each CHANNEL_PROTECTION.MODEL_FLAGS :: each CHANNEL_STATUS.FLAGS :: each CHANNEL_STATUS.STANDING_CAUSE :: each CHANNEL_STATUS.STANDING_GATE :: each CHANNEL_STATUS.STATE :: each CHANNEL_SUPERVISION.RETRIES :: each CHANNEL_SUPERVISION.STARTS :: each FOLD_WAIT :: each GATE :: each LAMP_AT :: each LAMP_LOW :: each LAMP_TOLD :: each LATCH :: each LIMIT_EPISODE :: each LIMIT_LEFT :: each LIMIT_SINCE :: each LIMIT_SPENT :: each ND_GROUP :: each PEND :: each PUMP_START :: each PUMP_STOP_AT :: each PWM_HIGH :: each RAMP_RETRY :: each RAMP_START :: each RESET_OUTPUT.ASSERT_COUNT :: each RESET_OUTPUT.LAST_CHANGE_STAMP :: each RESET_OUTPUT.OUTPUT :: each RSO_GOOD_SINCE :: each RUN_SINCE :: each RUN_SPENT :: each SAFE_WAIT :: one (STAND_DUE d) :: each STAND_ENTRY :: each STAND_EVENTS :: one (STAND_TRIGGERS d) :: each START_AT :: each STORED_WAIT :: each SWAP_IN :: each TRIP_STATE :: each WIN :: (each fun n => inForce (CHANNEL_CONFIG.REQUEST n)) :: []) W) (hL : Within ([.collector, .dieMsgs, .staged] : List Part) L) :
    Leaves W L org (State.standBlock s d) := by
  delta State.standBlock
  repeat' first
    | with_reducible assumption
    | with_reducible apply State.setN_leaves
    | with_reducible apply State.standDie_leaves
    | (with_unfolding_none refine hW.covers ?_; repeat first | with_unfolding_none exact Covered.here | with_unfolding_none refine Covered.next ?_)
    | with_unfolding_none apply hW.sub (inBoth (inBoth (inBoth (inBoth (inBoth (inBoth (inBoth (inBoth (inBoth (inBoth (inBoth (inBoth (inBoth (inBoth (inBoth (inBoth (inBoth (inBoth (inBoth (inBoth (inBoth (inBoth (inBoth (inBoth (inBoth (inBoth (inBoth (inBoth (inBoth (inBoth (inBoth (inBoth (inBoth (inBoth (inBoth (inBoth (inBoth (inBoth (inSkip (inBoth (inBoth (inBoth (inBoth (inBoth (inBoth (inBoth (inBoth (inBoth inNil))))))))))))))))))))))))))))))))))))))))))))))))
    | (with_reducible refine Within.trans ?_ hL; decide +kernel)
    | (extract_lets +onlyGivenNames letX; clear_value letX; revert letX; intro _)
    | with_reducible refine Leaves.ite ?_ ?_

theorem execLinkLossStanding_frame {W : List Span} {L : List Part} {org s : State} (d : Die) (h : Leaves W L org s)
    (hW : Inside (each ADMIT_KIND :: one (AMLOR_LINK.LOSS_EVENTS d) :: each BANK.BANK_FLAGS :: each BLANK_UNTIL :: each CASTLING_PAIR.SWAP_RESULT :: each CASTLING_PAIR.SWAP_STATE :: each CELL :: each CHANNEL_CONFIG.REQUEST :: each CHANNEL_PROTECTION.MODEL_FLAGS :: each CHANNEL_STATUS.FLAGS :: each CHANNEL_STATUS.STANDING_CAUSE :: each CHANNEL_STATUS.STANDING_GATE :: each CHANNEL_STATUS.STATE :: each CHANNEL_SUPERVISION.RETRIES :: each CHANNEL_SUPERVISION.STARTS :: each FOLD_WAIT :: each GATE :: each LAMP_AT :: each LAMP_LOW :: each LAMP_TOLD :: each LATCH :: each LIMIT_EPISODE :: each LIMIT_LEFT :: each LIMIT_SINCE :: each LIMIT_SPENT :: one (LOSS_STOOD d) :: each ND_GROUP :: each PEND :: each PUMP_START :: each PUMP_STOP_AT :: each PWM_HIGH :: each RAMP_RETRY :: each RAMP_START :: each RESET_OUTPUT.ASSERT_COUNT :: each RESET_OUTPUT.LAST_CHANGE_STAMP :: each RESET_OUTPUT.OUTPUT :: each RSO_GOOD_SINCE :: each RUN_SINCE :: each RUN_SPENT :: each SAFE_WAIT :: each STAND_ENTRY :: each STAND_EVENTS :: one (STAND_TRIGGERS d) :: each START_AT :: each STORED_WAIT :: each SWAP_IN :: each TRIP_STATE :: each WIN :: (each fun n => inForce (CHANNEL_CONFIG.REQUEST n)) :: []) W)
    (hL : Within ([.collector, .dieMsgs, .staged] : List Part) L) : RunsIn W L org (execLinkLossStanding d s) := by
  delta execLinkLossStanding
  repeat' first
    | with_reducible assumption
    | with_reducible refine RunsIn.next ?_
    | with_reducible apply State.linkLossStanding_leaves
    | with_unfolding_none apply hW.sub (inBoth (inBoth (inBoth (inBoth (inBoth (inBoth (inBoth (inBoth (inBoth (inBoth (inBoth (inBoth (inBoth (inBoth (inBoth (inBoth (inBoth (inBoth (inBoth (inBoth (inBoth (inBoth (inBoth (inBoth (inBoth (inBoth (inBoth (inBoth (inBoth (inBoth (inBoth (inBoth (inBoth (inBoth (inBoth (inBoth (inBoth (inBoth (inBoth (inBoth (inBoth (inBoth (inBoth (inBoth (inBoth (inBoth (inBoth (inBoth (inBoth inNil)))))))))))))))))))))))))))))))))))))))))))))))))

theorem execControlDieResetIndication_frame {W : List Span} {L : List Part} {org s : State} (h : Leaves W L org s)
    (hW : Inside (each ADMIT_KIND :: each BANK.BANK_FLAGS :: each BLANK_UNTIL :: each CASTLING_PAIR.SWAP_RESULT :: each CASTLING_PAIR.SWAP_STATE :: each CELL :: each CHANNEL_CONFIG.REQUEST :: each CHANNEL_PROTECTION.MODEL_FLAGS :: each CHANNEL_STATUS.FLAGS :: each CHANNEL_STATUS.STANDING_CAUSE :: each CHANNEL_STATUS.STANDING_GATE :: each CHANNEL_STATUS.STATE :: each CHANNEL_SUPERVISION.RETRIES :: each CHANNEL_SUPERVISION.STARTS :: each FOLD_WAIT :: each GATE :: each LAMP_AT :: each LAMP_LOW :: each LAMP_TOLD :: each LATCH :: each LIMIT_EPISODE :: each LIMIT_LEFT :: each LIMIT_SINCE :: each LIMIT_SPENT :: each ND_GROUP :: each PEND :: each PUMP_START :: each PUMP_STOP_AT :: each PWM_HIGH :: each RAMP_RETRY :: each RAMP_START :: each RESET_OUTPUT.ASSERT_COUNT :: each RESET_OUTPUT.LAST_CHANGE_STAMP :: each RESET_OUTPUT.OUTPUT :: each RSO_GOOD_SINCE :: each RUN_SINCE :: each RUN_SPENT :: each SAFE_WAIT :: each STAND_ENTRY :: each STAND_EVENTS :: each STAND_TRIGGERS :: each START_AT :: each STORED_WAIT :: each SWAP_IN :: each TRIP_STATE :: each WIN :: (each fun n => inForce (CHANNEL_CONFIG.REQUEST n)) :: []) W)
    (hL : Within ([.collector, .dieMsgs, .staged] : List Part) L) : RunsIn W L org (execControlDieResetIndication s) := by
  delta execControlDieResetIndication
  repeat' first
    | with_reducible assumption
    | with_reducible refine RunsIn.next ?_
    | with_reducible apply State.resetIndication_leaves
    | with_unfolding_none apply hW.sub (inBoth (inBoth (inBoth (inBoth (inBoth (inBoth (inBoth (inBoth (inBoth (inBoth (inBoth (inBoth (inBoth (inBoth (inBoth (inBoth (inBoth (inBoth (inBoth (inBoth (inBoth (inBoth (inBoth (inBoth (inBoth (inBoth (inBoth (inBoth (inBoth (inBoth (inBoth (inBoth (inBoth (inBoth (inBoth (inBoth (inBoth (inBoth (inBoth (inBoth (inBoth (inBoth (inBoth (inBoth (inBoth (inBoth (inBoth inNil)))))))))))))))))))))))))))))))))))))))))))))))

theorem execStandBlock_frame {W : List Span} {L : List Part} {org s : State} (d : Die) (h : Leaves W L org s)
    (hW : Inside (each ADMIT_KIND :: each BANK.BANK_FLAGS :: each BLANK_UNTIL :: each CASTLING_PAIR.SWAP_RESULT :: each CASTLING_PAIR.SWAP_STATE :: each CELL :: each CHANNEL_CONFIG.REQUEST :: each CHANNEL_PROTECTION.MODEL_FLAGS :: each CHANNEL_STATUS.FLAGS :: each CHANNEL_STATUS.STANDING_CAUSE :: each CHANNEL_STATUS.STANDING_GATE :: each CHANNEL_STATUS.STATE :: each CHANNEL_SUPERVISION.RETRIES :: each CHANNEL_SUPERVISION.STARTS :: each FOLD_WAIT :: each GATE :: each LAMP_AT :: each LAMP_LOW :: each LAMP_TOLD :: each LATCH :: each LIMIT_EPISODE :: each LIMIT_LEFT :: each LIMIT_SINCE :: each LIMIT_SPENT :: each ND_GROUP :: each PEND :: each PUMP_START :: each PUMP_STOP_AT :: each PWM_HIGH :: each RAMP_RETRY :: each RAMP_START :: each RESET_OUTPUT.ASSERT_COUNT :: each RESET_OUTPUT.LAST_CHANGE_STAMP :: each RESET_OUTPUT.OUTPUT :: each RSO_GOOD_SINCE :: each RUN_SINCE :: each RUN_SPENT :: each SAFE_WAIT :: one (STAND_DUE d) :: each STAND_ENTRY :: each STAND_EVENTS :: one (STAND_TRIGGERS d) :: each START_AT :: each STORED_WAIT :: each SWAP_IN :: each TRIP_STATE :: each WIN :: (each fun n => inForce (CHANNEL_CONFIG.REQUEST n)) :: []) W)
    (hL : Within ([.collector, .dieMsgs, .staged] : List Part) L) : RunsIn W L org (execStandBlock d s) := by
  delta execStandBlock
  repeat' first
    | with_reducible assumption
    | with_reducible refine RunsIn.next ?_
    | with_reducible apply State.standBlock_leaves
    | with_unfolding_none apply hW.sub (inBoth (inBoth (inBoth (inBoth (inBoth (inBoth (inBoth (inBoth (inBoth (inBoth (inBoth (inBoth (inBoth (inBoth (inBoth (inBoth (inBoth (inBoth (inBoth (inBoth (inBoth (inBoth (inBoth (inBoth (inBoth (inBoth (inBoth (inBoth (inBoth (inBoth (inBoth (inBoth (inBoth (inBoth (inBoth (inBoth (inBoth (inBoth (inBoth (inBoth (inBoth (inBoth (inBoth (inBoth (inBoth (inBoth (inBoth (inBoth inNil))))))))))))))))))))))))))))))))))))))))))))))))

theorem execAnchorBrownout_frame {W : List Span} {L : List Part} {org s : State} (d : Die) (h : Leaves W L org s)
    (hW : Inside (each ADMIT_KIND :: each BANK.BANK_FLAGS :: each BLANK_UNTIL :: each CAL_AT :: each CASTLING_PAIR.SWAP_RESULT :: each CASTLING_PAIR.SWAP_STATE :: each CELL :: each CHANNEL_CONFIG.REQUEST :: each CHANNEL_PROTECTION.MODEL_FLAGS :: each CHANNEL_STATUS.FLAGS :: each CHANNEL_STATUS.STANDING_CAUSE :: each CHANNEL_STATUS.STANDING_GATE :: each CHANNEL_STATUS.STATE :: each CHANNEL_STATUS.TRIP_CAUSE :: each CHANNEL_SUPERVISION.DISCHARGE_TIMEOUTS :: each CHANNEL_SUPERVISION.HARD_TRIPS :: each CHANNEL_SUPERVISION.LIMIT_ENTRIES :: each CHANNEL_SUPERVISION.MODEL_TRIPS :: each CHANNEL_SUPERVISION.OV_COUNT :: each CHANNEL_SUPERVISION.RETRIES :: each CHANNEL_SUPERVISION.STARTS :: each CHANNEL_SUPERVISION.TIMEOUT_TRIPS :: each CHANNEL_SUPERVISION.UV_COUNT :: each FET1 :: each FET2 :: each FET_NOW :: each FOLD_WAIT :: each FRAMES_SEEN :: each GATE :: each LAMP_AT :: each LAMP_LOW :: each LAMP_TOLD :: each LATCH :: each LATCH_PULLED :: each LIFE_NEW :: each LIMIT_EPISODE :: each LIMIT_LEFT :: each LIMIT_SINCE :: each LIMIT_SPENT :: one (LOGIC_OFF d) :: each ND_GROUP :: each PEND :: each PUMP_START :: each PUMP_STOP_AT :: each PWM_HIGH :: each RAMP_RETRY :: each RAMP_START :: each RESET_OUTPUT.ASSERT_COUNT :: each RESET_OUTPUT.LAST_CHANGE_STAMP :: each RESET_OUTPUT.OUTPUT :: each RSO_GOOD_SINCE :: each RUN_SINCE :: each RUN_SPENT :: each SAFE_WAIT :: each STAND_ENTRY :: each STAND_EVENTS :: one (STAND_TRIGGERS d) :: each START_AT :: each STORED_WAIT :: each SWAP_IN :: each TRIP_FRAME :: each TRIP_STATE :: each WAIT_END :: each WIN :: each WIRE1 :: each WIRE2 :: each WIRE_NOW :: (each fun n => inForce (CHANNEL_CONFIG.REQUEST n)) :: []) W)
    (hL : Within ([.collector, .dieMsgs, .shadows, .staged] : List Part) L) : RunsIn W L org (execAnchorBrownout d s) := by
  delta execAnchorBrownout
  repeat' first
    | with_reducible assumption
    | with_reducible refine RunsIn.next ?_
    | with_reducible apply State.logicReturns_leaves
    | with_unfolding_none apply hW.sub (inBoth (inBoth (inBoth (inBoth (inBoth (inBoth (inBoth (inBoth (inBoth (inBoth (inBoth (inBoth (inBoth (inBoth (inBoth (inBoth (inBoth (inBoth (inBoth (inBoth (inBoth (inBoth (inBoth (inBoth (inBoth (inBoth (inBoth (inBoth (inBoth (inBoth (inBoth (inBoth (inBoth (inBoth (inBoth (inBoth (inBoth (inBoth (inBoth (inBoth (inBoth (inBoth (inBoth (inBoth (inBoth (inBoth (inBoth (inBoth (inBoth (inBoth (inBoth (inBoth (inBoth (inBoth (inBoth (inBoth (inBoth (inBoth (inBoth (inBoth (inBoth (inBoth (inBoth (inBoth (inBoth (inBoth (inBoth (inBoth inNil))))))))))))))))))))))))))))))))))))))))))))))))))))))))))))))))))))
    | (with_reducible refine Within.trans ?_ hL; decide +kernel)
    | with_reducible refine Leaves.ite ?_ ?_

theorem State.setUnder_leaves {W : List Span} {L : List Part} {org s : State} (n : Nat) (on : Bool) (h : Leaves W L org s)
    (hW : Inside (one (WIN n) :: []) W) (hL : Within ([.dieMsgs] : List Part) L) :
    Leaves W L org (State.setUnder s n on) := by
  delta State.setUnder
  repeat' first
    | with_reducible assumption
    | with_reducible apply State.setBit_leaves
    | with_reducible apply State.raiseChannel_leaves
    | (with_unfolding_none refine hW.covers ?_; repeat first | with_unfolding_none exact Covered.here | with_unfolding_none refine Covered.next ?_)
    | with_unfolding_none apply hW.sub (inNil)
    | (with_reducible refine Within.trans ?_ hL; decide +kernel)
    | with_reducible refine Leaves.ite ?_ ?_

theorem State.setOver_leaves {W : List Span} {L : List Part} {org s : State} (n : Nat) (on : Bool) (h : Leaves W L org s)
    (hW : Inside (one (WIN n) :: []) W) (hL : Within ([.dieMsgs] : List Part) L) :
    Leaves W L org (State.setOver s n on) := by
  delta State.setOver
  repeat' first
    | with_reducible assumption
    | with_reducible apply State.setBit_leaves
    | with_reducible apply State.raiseChannel_leaves
    | (with_unfolding_none refine hW.covers ?_; repeat first | with_unfolding_none exact Covered.here | with_unfolding_none refine Covered.next ?_)
    | with_unfolding_none apply hW.sub (inNil)
    | (with_reducible refine Within.trans ?_ hL; decide +kernel)
    | with_reducible refine Leaves.ite ?_ ?_

theorem State.lowerEdge_leaves {W : List Span} {L : List Part} {org s : State} (n : Nat) (now : Bool) (h : Leaves W L org s)
    (hW : Inside (one (WIN n) :: each2 WIN_COUNT :: []) W) (hL : Within ([.dieMsgs] : List Part) L) :
    Leaves W L org (State.lowerEdge s n now) := by
  delta State.lowerEdge
  repeat' first
    | with_reducible assumption
    | with_reducible apply State.setN_leaves
    | with_reducible apply State.setBit_leaves
    | with_reducible apply State.setUnder_leaves
    | (with_unfolding_none refine hW.covers ?_; repeat first | with_unfolding_none exact Covered.here | with_unfolding_none exact WIN_COUNT_in | with_unfolding_none refine Covered.next ?_)
    | with_unfolding_none apply hW.sub (inBoth inNil)
    | (with_reducible refine Within.trans ?_ hL; decide +kernel)
    | (extract_lets +onlyGivenNames letX; have letT : True := (by clear_value letX; guard_hyp letX : State; trivial); clear letT; refine Leaves.cut (W := W) (L := L) (r := org) (v := letX) ?_ (fun letH => ?_); (focus subst letX); rotate_left; clear_value letX; revert letX; intro _ _)
    | with_reducible refine Leaves.ite ?_ ?_
    | with_reducible refine forBelow_leaves ?_ (fun _ _ _ => ?_)

theorem State.filterCount_leaves {W : List Span} {L : List Part} {org s : State} (n c : Nat) (holds : Bool) (h : Leaves W L org s)
    (hW : Inside (one (WIN_COUNT n c) :: []) W) :
    Leaves W L org (State.filterCount s n c holds) := by
  delta State.filterCount
  repeat' first
    | with_reducible assumption
    | with_reducible apply State.setN_leaves
    | with_reducible apply State.count_leaves
    | (with_unfolding_none refine hW.covers ?_; repeat first | with_unfolding_none exact Covered.here | with_unfolding_none refine Covered.next ?_)
    | with_reducible refine Leaves.ite ?_ ?_

theorem State.judgeLow_leaves {W : List Span} {L : List Part} {org s : State} (n : Nat) (v : Int) (h : Leaves W L org s)
    (hW : Inside (one (WIN n) :: one (WIN_COUNT n 0) :: one (WIN_COUNT n 1) :: one (WIN_COUNT n 2) :: one (WIN_LAST n) :: []) W) :
    Leaves W L org (State.judgeLow s n v) := by
  delta State.judgeLow
  repeat' first
    | with_reducible assumption
    | with_reducible apply State.set_leaves
    | with_reducible apply State.setBit_leaves
    | with_reducible apply State.filterCount_leaves
    | (with_unfolding_none refine hW.covers ?_; repeat first | with_unfolding_none exact Covered.here | with_unfolding_none refine Covered.next ?_)
    | with_unfolding_none apply hW.sub (inSkip (inBoth inNil))
    | with_unfolding_none apply hW.sub (inSkip (inSkip (inBoth inNil)))
    | with_unfolding_none apply hW.sub (inSkip (inSkip (inSkip (inBoth inNil))))
    | (extract_lets +onlyGivenNames letX; have letT : True := (by clear_value letX; guard_hyp letX : State; trivial); clear letT; refine Leaves.cut (W := W) (L := L) (r := org) (v := letX) ?_ (fun letH => ?_); (focus subst letX); rotate_left; clear_value letX; revert letX; intro _ _)
    | (extract_lets +onlyGivenNames letX; clear_value letX; revert letX; intro _)
    | with_reducible refine Leaves.ite ?_ ?_

theorem State.judgeHigh_leaves {W : List Span} {L : List Part} {org s : State} (n : Nat) (v : Int) (h : Leaves W L org s)
    (hW : Inside (one (WIN n) :: one (WIN_COUNT n 3) :: one (WIN_COUNT n 4) :: one (WIN_COUNT n 5) :: one (WIN_LAST n) :: []) W) :
    Leaves W L org (State.judgeHigh s n v) := by
  delta State.judgeHigh
  repeat' first
    | with_reducible assumption
    | with_reducible apply State.set_leaves
    | with_reducible apply State.setBit_leaves
    | with_reducible apply State.filterCount_leaves
    | (with_unfolding_none refine hW.covers ?_; repeat first | with_unfolding_none exact Covered.here | with_unfolding_none refine Covered.next ?_)
    | with_unfolding_none apply hW.sub (inSkip (inBoth inNil))
    | with_unfolding_none apply hW.sub (inSkip (inSkip (inBoth inNil)))
    | with_unfolding_none apply hW.sub (inSkip (inSkip (inSkip (inBoth inNil))))
    | (extract_lets +onlyGivenNames letX; have letT : True := (by clear_value letX; guard_hyp letX : State; trivial); clear letT; refine Leaves.cut (W := W) (L := L) (r := org) (v := letX) ?_ (fun letH => ?_); (focus subst letX); rotate_left; clear_value letX; revert letX; intro _ _)
    | (extract_lets +onlyGivenNames letX; clear_value letX; revert letX; intro _)
    | with_reducible refine Leaves.ite ?_ ?_

theorem State.judgeSample_leaves {W : List Span} {L : List Part} {org s : State} (n : Nat) (v : Int) (low : Bool) (h : Leaves W L org s)
    (hW : Inside (one (WIN n) :: one (WIN_ACC n 0) :: one (WIN_ACC n 1) :: one (WIN_ACC n 2) :: one (WIN_ACC n 3) :: one (WIN_COUNT n 0) :: one (WIN_COUNT n 1) :: one (WIN_COUNT n 2) :: one (WIN_COUNT n 3) :: one (WIN_COUNT n 4) :: one (WIN_COUNT n 5) :: one (WIN_LAST n) :: []) W) :
    Leaves W L org (State.judgeSample s n v low) := by
  delta State.judgeSample
  repeat' first
    | with_reducible assumption
    | with_reducible apply State.set_leaves
    | with_reducible apply State.setN_leaves
    | with_reducible apply State.judgeHigh_leaves
    | with_reducible apply State.judgeLow_leaves
    | (with_unfolding_none refine hW.covers ?_; repeat first | with_unfolding_none exact Covered.here | with_unfolding_none refine Covered.next ?_)
    | with_unfolding_none apply hW.sub (inBoth (inSkip (inSkip (inSkip (inSkip (inSkip (inSkip (inSkip (inBoth (inBoth (inBoth (inBoth inNil))))))))))))
    | with_unfolding_none apply hW.sub (inBoth (inSkip (inSkip (inSkip (inSkip (inBoth (inBoth (inBoth (inSkip (inSkip (inSkip (inBoth inNil))))))))))))
    | (extract_lets +onlyGivenNames letX; have letT : True := (by clear_value letX; guard_hyp letX : State; trivial); clear letT; refine Leaves.cut (W := W) (L := L) (r := org) (v := letX) ?_ (fun letH => ?_); (focus subst letX); rotate_left; clear_value letX; revert letX; intro _ _)
    | with_reducible refine Leaves.ite ?_ ?_

theorem State.judgeFrame_leaves {W : List Span} {L : List Part} {org s : State} (n : Nat) (h : Leaves W L org s)
    (hW : Inside (one (WIN n) :: each2 WIN_ACC :: one (WIN_COUNT n 0) :: one (WIN_COUNT n 1) :: one (WIN_COUNT n 2) :: one (WIN_COUNT n 3) :: one (WIN_COUNT n 4) :: one (WIN_COUNT n 5) :: one (WIN_LAST n) :: []) W) :
    Leaves W L org (State.judgeFrame s n) := by
  delta State.judgeFrame
  repeat' first
    | with_reducible assumption
    | with_reducible apply State.setN_leaves
    | with_reducible apply State.judgeHigh_leaves
    | with_reducible apply State.judgeLow_leaves
    | (with_unfolding_none refine hW.covers ?_; repeat first | with_unfolding_none exact Covered.here | with_unfolding_none exact WIN_ACC_in | with_unfolding_none refine Covered.next ?_)
    | with_unfolding_none apply hW.sub (inBoth (inSkip (inSkip (inSkip (inSkip (inBoth (inBoth (inBoth (inBoth inNil)))))))))
    | with_unfolding_none apply hW.sub (inBoth (inSkip (inBoth (inBoth (inBoth (inSkip (inSkip (inSkip (inBoth inNil)))))))))
    | (extract_lets +onlyGivenNames letX; have letT : True := (by clear_value letX; guard_hyp letX : State; trivial); clear letT; refine Leaves.cut (W := W) (L := L) (r := org) (v := letX) ?_ (fun letH => ?_); (focus subst letX); rotate_left; clear_value letX; revert letX; intro _ _)
    | with_reducible refine Leaves.ite ?_ ?_
    | with_reducible refine forBelow_leaves ?_ (fun _ _ _ => ?_)

theorem State.judgeRound_leaves {W : List Span} {L : List Part} {org s : State} (n : Nat) (v : Int) (skipped last : Bool) (h : Leaves W L org s)
    (hW : Inside (each RESET_OUTPUT.ASSERT_COUNT :: each RESET_OUTPUT.LAST_CHANGE_STAMP :: each RESET_OUTPUT.OUTPUT :: each RSO_GOOD_SINCE :: one (WIN n) :: each2 WIN_ACC :: each2 WIN_COUNT :: one (WIN_LAST n) :: []) W) (hL : Within ([.collector, .dieMsgs] : List Part) L) :
    Leaves W L org (State.judgeRound s n v skipped last) := by
  delta State.judgeRound
  repeat' first
    | with_reducible assumption
    | with_reducible apply State.set_leaves
    | with_reducible apply State.lowerEdge_leaves
    | with_reducible apply State.judgeSample_leaves
    | with_reducible apply State.judgeFrame_leaves
    | with_reducible apply State.updateGood_leaves
    | (with_unfolding_none refine hW.covers ?_; repeat first | with_unfolding_none exact Covered.here | with_unfolding_none refine Covered.next ?_)
    | with_unfolding_none apply hW.sub (inSkip (inSkip (inSkip (inSkip (inBoth (inSkip (inBoth inNil)))))))
    | with_unfolding_none apply hW.sub (inSkip (inSkip (inSkip (inSkip (inBoth (WIN_ACC_wide (WIN_ACC_wide (WIN_ACC_wide (WIN_ACC_wide (inSkip (WIN_COUNT_wide (WIN_COUNT_wide (WIN_COUNT_wide (WIN_COUNT_wide (WIN_COUNT_wide (WIN_COUNT_wide (inSkip (inBoth inNil))))))))))))))))))
    | with_unfolding_none apply hW.sub (inSkip (inSkip (inSkip (inSkip (inBoth (inBoth (WIN_COUNT_wide (WIN_COUNT_wide (WIN_COUNT_wide (WIN_COUNT_wide (WIN_COUNT_wide (WIN_COUNT_wide (inSkip (inBoth inNil))))))))))))))
    | with_unfolding_none apply hW.sub (inBoth (inBoth (inBoth (inBoth (inBoth inNil)))))
    | (with_reducible refine Within.trans ?_ hL; decide +kernel)
    | (extract_lets +onlyGivenNames letX; have letT : True := (by clear_value letX; guard_hyp letX : State; trivial); clear letT; refine Leaves.cut (W := W) (L := L) (r := org) (v := letX) ?_ (fun letH => ?_); (focus subst letX); rotate_left; clear_value letX; revert letX; intro _ _)
    | (extract_lets +onlyGivenNames letX; clear_value letX; revert letX; intro _)
    | with_reducible refine Leaves.ite ?_ ?_

theorem State.windowMode_leaves {W : List Span} {L : List Part} {org s : State} (n : Nat) (h : Leaves W L org s)
    (hW : Inside (each RESET_OUTPUT.ASSERT_COUNT :: each RESET_OUTPUT.LAST_CHANGE_STAMP :: each RESET_OUTPUT.OUTPUT :: each RSO_GOOD_SINCE :: one (WIN n) :: each2 WIN_COUNT :: []) W) (hL : Within ([.collector, .dieMsgs] : List Part) L) :
    Leaves W L org (State.windowMode s n) := by
  delta State.windowMode
  repeat' first
    | with_reducible assumption
    | with_reducible apply State.setN_leaves
    | with_reducible apply State.setBit_leaves
    | with_reducible apply State.setUnder_leaves
    | with_reducible apply State.updateGood_leaves
    | (with_unfolding_none refine hW.covers ?_; repeat first | with_unfolding_none exact Covered.here | with_unfolding_none exact WIN_COUNT_in | with_unfolding_none refine Covered.next ?_)
    | with_unfolding_none apply hW.sub (inSkip (inSkip (inSkip (inSkip (inBoth inNil)))))
    | with_unfolding_none apply hW.sub (inBoth (inBoth (inBoth (inBoth (inBoth inNil)))))
    | (with_reducible refine Within.trans ?_ hL; decide +kernel)
    | (extract_lets +onlyGivenNames letX; have letT : True := (by clear_value letX; guard_hyp letX : State; trivial); clear letT; refine Leaves.cut (W := W) (L := L) (r := org) (v := letX) ?_ (fun letH => ?_); (focus subst letX); rotate_left; clear_value letX; revert letX; intro _ _)
    | with_reducible refine Leaves.ite ?_ ?_
    | with_reducible refine forBelow_leaves ?_ (fun _ _ _ => ?_)

theorem State.undervoltage_leaves {W : List Span} {L : List Part} {org s : State} (n : Nat) (h : Leaves W L org s)
    (hW : Inside (one (CHANNEL_SUPERVISION.UV_COUNT n) :: each RESET_OUTPUT.ASSERT_COUNT :: each RESET_OUTPUT.LAST_CHANGE_STAMP :: each RESET_OUTPUT.OUTPUT :: each RSO_GOOD_SINCE :: one (WIN n) :: []) W) (hL : Within ([.collector, .dieMsgs] : List Part) L) :
    Leaves W L org (State.undervoltage s n) := by
  delta State.undervoltage
  repeat' first
    | with_reducible assumption
    | with_reducible apply State.count_leaves
    | with_reducible apply State.setUnder_leaves
    | with_reducible apply State.updateGood_leaves
    | (with_unfolding_none refine hW.covers ?_; repeat first | with_unfolding_none exact Covered.here | with_unfolding_none refine Covered.next ?_)
    | with_unfolding_none apply hW.sub (inSkip (inSkip (inSkip (inSkip (inSkip (inBoth inNil))))))
    | with_unfolding_none apply hW.sub (inSkip (inBoth (inBoth (inBoth (inBoth (inBoth inNil))))))
    | (with_reducible refine Within.trans ?_ hL; decide +kernel)
    | with_reducible refine Leaves.ite ?_ ?_

theorem State.overvoltage_leaves {W : List Span} {L : List Part} {org s : State} (n : Nat) (h : Leaves W L org s)
    (hW : Inside (one (CHANNEL_SUPERVISION.OV_COUNT n) :: each RESET_OUTPUT.ASSERT_COUNT :: each RESET_OUTPUT.LAST_CHANGE_STAMP :: each RESET_OUTPUT.OUTPUT :: each RSO_GOOD_SINCE :: one (WIN n) :: []) W) (hL : Within ([.collector, .dieMsgs] : List Part) L) :
    Leaves W L org (State.overvoltage s n) := by
  delta State.overvoltage
  repeat' first
    | with_reducible assumption
    | with_reducible apply State.count_leaves
    | with_reducible apply State.setOver_leaves
    | with_reducible apply State.updateGood_leaves
    | (with_unfolding_none refine hW.covers ?_; repeat first | with_unfolding_none exact Covered.here | with_unfolding_none refine Covered.next ?_)
    | with_unfolding_none apply hW.sub (inSkip (inSkip (inSkip (inSkip (inSkip (inBoth inNil))))))
    | with_unfolding_none apply hW.sub (inSkip (inBoth (inBoth (inBoth (inBoth (inBoth inNil))))))
    | (with_reducible refine Within.trans ?_ hL; decide +kernel)
    | with_reducible refine Leaves.ite ?_ ?_

theorem State.underCleared_leaves {W : List Span} {L : List Part} {org s : State} (n : Nat) (h : Leaves W L org s)
    (hW : Inside (each RESET_OUTPUT.ASSERT_COUNT :: each RESET_OUTPUT.LAST_CHANGE_STAMP :: each RESET_OUTPUT.OUTPUT :: each RSO_GOOD_SINCE :: one (WIN n) :: []) W) (hL : Within ([.collector, .dieMsgs] : List Part) L) :
    Leaves W L org (State.underCleared s n) := by
  delta State.underCleared
  repeat' first
    | with_reducible assumption
    | with_reducible apply State.setBit_leaves
    | with_reducible apply State.setUnder_leaves
    | with_reducible apply State.updateGood_leaves
    | (with_unfolding_none refine hW.covers ?_; repeat first | with_unfolding_none exact Covered.here | with_unfolding_none refine Covered.next ?_)
    | with_unfolding_none apply hW.sub (inSkip (inSkip (inSkip (inSkip (inBoth inNil)))))
    | with_unfolding_none apply hW.sub (inBoth (inBoth (inBoth (inBoth (inBoth inNil)))))
    | (with_reducible refine Within.trans ?_ hL; decide +kernel)
    | with_reducible refine Leaves.ite ?_ ?_

theorem State.overCleared_leaves {W : List Span} {L : List Part} {org s : State} (n : Nat) (h : Leaves W L org s)
    (hW : Inside (each RESET_OUTPUT.ASSERT_COUNT :: each RESET_OUTPUT.LAST_CHANGE_STAMP :: each RESET_OUTPUT.OUTPUT :: each RSO_GOOD_SINCE :: one (WIN n) :: []) W) (hL : Within ([.collector, .dieMsgs] : List Part) L) :
    Leaves W L org (State.overCleared s n) := by
  delta State.overCleared
  repeat' first
    | with_reducible assumption
    | with_reducible apply State.setBit_leaves
    | with_reducible apply State.setOver_leaves
    | with_reducible apply State.updateGood_leaves
    | (with_unfolding_none refine hW.covers ?_; repeat first | with_unfolding_none exact Covered.here | with_unfolding_none refine Covered.next ?_)
    | with_unfolding_none apply hW.sub (inSkip (inSkip (inSkip (inSkip (inBoth inNil)))))
    | with_unfolding_none apply hW.sub (inBoth (inBoth (inBoth (inBoth (inBoth inNil)))))
    | (with_reducible refine Within.trans ?_ hL; decide +kernel)
    | with_reducible refine Leaves.ite ?_ ?_

theorem execUndervoltage_frame {W : List Span} {L : List Part} {org s : State} (n : Chan) (h : Leaves W L org s)
    (hW : Inside (one (CHANNEL_SUPERVISION.UV_COUNT n) :: each RESET_OUTPUT.ASSERT_COUNT :: each RESET_OUTPUT.LAST_CHANGE_STAMP :: each RESET_OUTPUT.OUTPUT :: each RSO_GOOD_SINCE :: one (WIN n) :: []) W)
    (hL : Within ([.collector, .dieMsgs] : List Part) L) : RunsIn W L org (execUndervoltage n s) := by
  delta execUndervoltage
  repeat' first
    | with_reducible assumption
    | with_reducible refine RunsIn.next ?_
    | with_reducible apply State.undervoltage_leaves
    | with_unfolding_none apply hW.sub (inBoth (inBoth (inBoth (inBoth (inBoth (inBoth inNil))))))

theorem execOvervoltage_frame {W : List Span} {L : List Part} {org s : State} (n : Chan) (h : Leaves W L org s)
    (hW : Inside (one (CHANNEL_SUPERVISION.OV_COUNT n) :: each RESET_OUTPUT.ASSERT_COUNT :: each RESET_OUTPUT.LAST_CHANGE_STAMP :: each RESET_OUTPUT.OUTPUT :: each RSO_GOOD_SINCE :: one (WIN n) :: []) W)
    (hL : Within ([.collector, .dieMsgs] : List Part) L) : RunsIn W L org (execOvervoltage n s) := by
  delta execOvervoltage
  repeat' first
    | with_reducible assumption
    | with_reducible refine RunsIn.next ?_
    | with_reducible apply State.overvoltage_leaves
    | with_unfolding_none apply hW.sub (inBoth (inBoth (inBoth (inBoth (inBoth (inBoth inNil))))))

theorem execUnderCleared_frame {W : List Span} {L : List Part} {org s : State} (n : Chan) (h : Leaves W L org s)
    (hW : Inside (each RESET_OUTPUT.ASSERT_COUNT :: each RESET_OUTPUT.LAST_CHANGE_STAMP :: each RESET_OUTPUT.OUTPUT :: each RSO_GOOD_SINCE :: one (WIN n) :: []) W)
    (hL : Within ([.collector, .dieMsgs] : List Part) L) : RunsIn W L org (execUnderCleared n s) := by
  delta execUnderCleared
  repeat' first
    | with_reducible assumption
    | with_reducible refine RunsIn.next ?_
    | with_reducible apply State.underCleared_leaves
    | with_unfolding_none apply hW.sub (inBoth (inBoth (inBoth (inBoth (inBoth inNil)))))

theorem execOverCleared_frame {W : List Span} {L : List Part} {org s : State} (n : Chan) (h : Leaves W L org s)
    (hW : Inside (each RESET_OUTPUT.ASSERT_COUNT :: each RESET_OUTPUT.LAST_CHANGE_STAMP :: each RESET_OUTPUT.OUTPUT :: each RSO_GOOD_SINCE :: one (WIN n) :: []) W)
    (hL : Within ([.collector, .dieMsgs] : List Part) L) : RunsIn W L org (execOverCleared n s) := by
  delta execOverCleared
  repeat' first
    | with_reducible assumption
    | with_reducible refine RunsIn.next ?_
    | with_reducible apply State.overCleared_leaves
    | with_unfolding_none apply hW.sub (inBoth (inBoth (inBoth (inBoth (inBoth inNil)))))

theorem State.keeperToggle_leaves {W : List Span} {L : List Part} {org s : State} (r : Nat) (h : Leaves W L org s)
    (hW : Inside (one (RESET_OUTPUT.OUTPUT r) :: one (RSO_TOGGLE_AT r) :: []) W) :
    Leaves W L org (State.keeperToggle s r) := by
  delta State.keeperToggle
  repeat' first
    | with_reducible assumption
    | with_reducible apply State.setN_leaves
    | with_reducible apply State.setFlag_leaves
    | (with_unfolding_none refine hW.covers ?_; repeat first | with_unfolding_none exact Covered.here | with_unfolding_none refine Covered.next ?_)
    | with_reducible refine Leaves.ite ?_ ?_

theorem execRsoRelease_frame {W : List Span} {L : List Part} {org s : State} (r : Rso) (h : Leaves W L org s)
    (hW : Inside (one (RESET_OUTPUT.ASSERT_COUNT r) :: one (RESET_OUTPUT.LAST_CHANGE_STAMP r) :: one (RESET_OUTPUT.OUTPUT r) :: []) W)
    (hL : Within ([.collector] : List Part) L) : RunsIn W L org (execRsoRelease r s) := by
  delta execRsoRelease
  repeat' first
    | with_reducible assumption
    | with_reducible refine RunsIn.next ?_
    | with_reducible apply State.rsoRelease_leaves
    | with_unfolding_none apply hW.sub (inBoth (inBoth (inBoth inNil)))

theorem execKeeperReportToggle_frame {W : List Span} {L : List Part} {org s : State} (r : Rso) (h : Leaves W L org s)
    (hW : Inside (one (RESET_OUTPUT.OUTPUT r) :: one (RSO_TOGGLE_AT r) :: []) W)
    : RunsIn W L org (execKeeperReportToggle r s) := by
  delta execKeeperReportToggle
  repeat' first
    | with_reducible assumption
    | with_reducible refine RunsIn.next ?_
    | with_reducible apply State.keeperToggle_leaves
    | with_unfolding_none apply hW.sub (inBoth (inBoth inNil))

end Sys2Proof.Machine
end

