-- ==== Sys2Proof/Laws/FramesB.lean ====
section
/-!
SUPPORT. The frames of Converter, Backup, Battery: what each definition leaves unchanged.
-/
namespace Sys2Proof.Machine

set_option Elab.async false

theorem State.setConvFlag_leaves {W : List Span} {L : List Part} {org s : State} (m b : Nat) (on : Bool) (h : Leaves W L org s)
    (hW : Inside (one (CONVERTER_STATUS.CONV_FLAGS m) :: []) W) :
    Leaves W L org (State.setConvFlag s m b on) := by
  delta State.setConvFlag
  repeat' first
    | with_reducible assumption
    | with_reducible apply State.setBit_leaves
    | (with_unfolding_none refine hW.covers ?_; repeat first | with_unfolding_none exact Covered.here | with_unfolding_none refine Covered.next ?_)

theorem State.raiseConverter_leaves {W : List Span} {L : List Part} {org s : State} (k : Kind) (m e : Nat) (fields : List (Nat × Int)) (h : Leaves W L org s) (hL : Within ([.collector] : List Part) L) :
    Leaves W L org (State.raiseConverter s k m e fields) := by
  delta State.raiseConverter
  repeat' first
    | with_reducible assumption
    | with_reducible apply State.raise_leaves
    | (with_reducible refine Within.trans ?_ hL; decide +kernel)

theorem State.setEdges_leaves {W : List Span} {L : List Part} {org s : State} (l : Nat) (e : List Int) (h : Leaves W L org s)
    (hW : Inside (each2 LANE_EDGE :: []) W) :
    Leaves W L org (State.setEdges s l e) := by
  delta State.setEdges
  repeat' first
    | with_reducible assumption
    | with_reducible apply State.set_leaves
    | (with_unfolding_none refine hW.covers ?_; repeat first | with_unfolding_none exact Covered.here | with_unfolding_none exact LANE_EDGE_in | with_unfolding_none refine Covered.next ?_)
    | with_reducible refine forBelow_leaves ?_ (fun _ _ _ => ?_)

theorem State.laneLow_leaves {W : List Span} {L : List Part} {org s : State} (l : Nat) (h : Leaves W L org s)
    (hW : Inside (each2 LANE_EDGE :: []) W) :
    Leaves W L org (State.laneLow s l) := by
  delta State.laneLow
  repeat' first
    | with_reducible assumption
    | with_reducible apply State.setEdges_leaves
    | with_unfolding_none apply hW.sub (inBoth inNil)

theorem State.pwmFloat_leaves {W : List Span} {L : List Part} {org s : State} (h : Leaves W L org s)
    (hW : Inside (each2 LANE_EDGE :: []) W) :
    Leaves W L org (State.pwmFloat s) := by
  delta State.pwmFloat
  repeat' first
    | with_reducible assumption
    | with_reducible apply State.setEdges_leaves
    | with_unfolding_none apply hW.sub (inBoth inNil)
    | with_reducible refine forBelow_leaves ?_ (fun _ _ _ => ?_)

theorem State.pwmLow_leaves {W : List Span} {L : List Part} {org s : State} (h : Leaves W L org s)
    (hW : Inside (each2 LANE_EDGE :: []) W) :
    Leaves W L org (State.pwmLow s) := by
  delta State.pwmLow
  repeat' first
    | with_reducible assumption
    | with_reducible apply State.laneLow_leaves
    | with_unfolding_none apply hW.sub (inBoth inNil)
    | with_reducible refine forBelow_leaves ?_ (fun _ _ _ => ?_)

theorem State.laneParks_leaves {W : List Span} {L : List Part} {org s : State} (l : Nat) (h : Leaves W L org s)
    (hW : Inside (each2 LANE_EDGE :: one (LANE_OFFSET l) :: []) W) :
    Leaves W L org (State.laneParks s l) := by
  delta State.laneParks
  repeat' first
    | with_reducible assumption
    | with_reducible apply State.setN_leaves
    | with_reducible apply State.laneLow_leaves
    | (with_unfolding_none refine hW.covers ?_; repeat first | with_unfolding_none exact Covered.here | with_unfolding_none refine Covered.next ?_)
    | with_unfolding_none apply hW.sub (inBoth inNil)
    | (extract_lets +onlyGivenNames letX; have letT : True := (by clear_value letX; guard_hyp letX : State; trivial); clear letT; refine Leaves.cut (W := W) (L := L) (r := org) (v := letX) ?_ (fun letH => ?_); (focus subst letX); rotate_left; clear_value letX; revert letX; intro _ _)
    | with_reducible refine Leaves.ite ?_ ?_

theorem State.planEdges_leaves {W : List Span} {L : List Part} {org s : State} (l u : Nat) (h : Leaves W L org s)
    (hW : Inside (each2 LANE_EDGE :: one (LANE_EXTRA l) :: one (LANE_FROM l) :: one (LANE_FROM (l + 1)) :: []) W) :
    Leaves W L org (State.planEdges s l u) := by
  delta State.planEdges
  repeat' first
    | with_reducible assumption
    | with_reducible apply State.setN_leaves
    | with_reducible apply State.setEdges_leaves
    | (with_unfolding_none refine hW.covers ?_; repeat first | with_unfolding_none exact Covered.here | with_unfolding_none refine Covered.next ?_)
    | with_unfolding_none apply hW.sub (inBoth inNil)
    | (extract_lets +onlyGivenNames letX; have letT : True := (by clear_value letX; guard_hyp letX : State; trivial); clear letT; refine Leaves.cut (W := W) (L := L) (r := org) (v := letX) ?_ (fun letH => ?_); (focus subst letX); rotate_left; clear_value letX; revert letX; intro _ _)
    | (extract_lets +onlyGivenNames letX; clear_value letX; revert letX; intro _)
    | with_reducible refine Leaves.ite ?_ ?_

theorem State.laneMoves_leaves {W : List Span} {L : List Part} {org s : State} (l u old new : Nat) (h : Leaves W L org s)
    (hW : Inside (each2 LANE_EDGE :: one (LANE_EXTRA l) :: one (LANE_FROM l) :: one (LANE_HELD l) :: one (LANE_OFFSET l) :: []) W) :
    Leaves W L org (State.laneMoves s l u old new) := by
  delta State.laneMoves
  repeat' first
    | with_reducible assumption
    | with_reducible apply State.setN_leaves
    | with_reducible apply State.setEdges_leaves
    | (with_unfolding_none refine hW.covers ?_; repeat first | with_unfolding_none exact Covered.here | with_unfolding_none refine Covered.next ?_)
    | with_unfolding_none apply hW.sub (inBoth inNil)
    | (extract_lets +onlyGivenNames letX; have letT : True := (by clear_value letX; guard_hyp letX : State; trivial); clear letT; refine Leaves.cut (W := W) (L := L) (r := org) (v := letX) ?_ (fun letH => ?_); (focus subst letX); rotate_left; clear_value letX; revert letX; intro _ _)
    | (extract_lets +onlyGivenNames letX; clear_value letX; revert letX; intro _)
    | with_reducible refine Leaves.ite ?_ ?_

theorem State.laneBegins_leaves {W : List Span} {L : List Part} {org s : State} (l u : Nat) (h : Leaves W L org s)
    (hW : Inside (each2 LANE_EDGE :: one (LANE_EXTRA l) :: one (LANE_FROM l) :: one (LANE_FROM (l + 1)) :: one (LANE_HELD l) :: one (LANE_OFFSET l) :: []) W) :
    Leaves W L org (State.laneBegins s l u) := by
  delta State.laneBegins
  repeat' first
    | with_reducible assumption
    | with_reducible apply State.setN_leaves
    | with_reducible apply State.planEdges_leaves
    | with_reducible apply State.laneMoves_leaves
    | (with_unfolding_none refine hW.covers ?_; repeat first | with_unfolding_none exact Covered.here | with_unfolding_none refine Covered.next ?_)
    | with_unfolding_none apply hW.sub (inBoth (inBoth (inBoth (inBoth inNil))))
    | with_unfolding_none apply hW.sub (inBoth (inBoth (inBoth (inSkip (inBoth (inBoth inNil))))))
    | (extract_lets +onlyGivenNames letX; clear_value letX; revert letX; intro _)
    | with_reducible refine Leaves.ite ?_ ?_

theorem State.laneCut_leaves {W : List Span} {L : List Part} {org s : State} (l a : Nat) (h : Leaves W L org s)
    (hW : Inside (each2 LANE_EDGE :: []) W) :
    Leaves W L org (State.laneCut s l a) := by
  delta State.laneCut
  repeat' first
    | with_reducible assumption
    | with_reducible apply State.setEdges_leaves
    | with_unfolding_none apply hW.sub (inBoth inNil)
    | (extract_lets +onlyGivenNames letX; clear_value letX; revert letX; intro _)

theorem State.intervalCut_leaves {W : List Span} {L : List Part} {org s : State} (l a : Nat) (h : Leaves W L org s)
    (hW : Inside (each2 LANE_EDGE :: []) W) :
    Leaves W L org (State.intervalCut s l a) := by
  delta State.intervalCut
  repeat' first
    | with_reducible assumption
    | with_reducible apply State.setEdges_leaves
    | with_reducible apply State.laneCut_leaves
    | with_unfolding_none apply hW.sub (inBoth inNil)
    | (extract_lets +onlyGivenNames letX; clear_value letX; revert letX; intro _)
    | with_reducible refine Leaves.ite ?_ ?_

theorem State.laneEnds_leaves {W : List Span} {L : List Part} {org s : State} (l : Nat) (h : Leaves W L org s)
    (hW : Inside (each2 LANE_EDGE :: []) W) :
    Leaves W L org (State.laneEnds s l) := by
  delta State.laneEnds
  repeat' first
    | with_reducible assumption
    | with_reducible apply State.setEdges_leaves
    | with_reducible apply State.laneLow_leaves
    | with_unfolding_none apply hW.sub (inBoth inNil)
    | (extract_lets +onlyGivenNames letX; clear_value letX; revert letX; intro _)
    | with_reducible refine Leaves.ite ?_ ?_

theorem State.outSamples_leaves {W : List Span} {L : List Part} {org s : State} (m : Nat) (samples : List Int) (h : Leaves W L org s)
    (hW : Inside (one (CONVERTER_STATUS.CONV_FLAGS m) :: one (CONV_LAST m) :: each2 CONV_VCNT :: each2 CONV_VSUM :: []) W) :
    Leaves W L org (State.outSamples s m samples) := by
  delta State.outSamples
  repeat' first
    | with_reducible assumption
    | with_reducible apply State.set_leaves
    | with_reducible apply State.setN_leaves
    | with_reducible apply State.setConvFlag_leaves
    | (with_unfolding_none refine hW.covers ?_; repeat first | with_unfolding_none exact Covered.here | with_unfolding_none exact CONV_VCNT_in | with_unfolding_none exact CONV_VSUM_in | with_unfolding_none refine Covered.next ?_)
    | with_unfolding_none apply hW.sub (inBoth inNil)
    | (extract_lets +onlyGivenNames letX; have letT : True := (by clear_value letX; guard_hyp letX : State; trivial); clear letT; refine Leaves.cut (W := W) (L := L) (r := org) (v := letX) ?_ (fun letH => ?_); (focus subst letX); rotate_left; clear_value letX; revert letX; intro _ _)
    | (extract_lets +onlyGivenNames letX; clear_value letX; revert letX; intro _)
    | with_reducible refine Leaves.ite ?_ ?_

theorem State.overrides_leaves {W : List Span} {L : List Part} {org s : State} (m : Nat) (ref max min : Int) (h : Leaves W L org s)
    (hW : Inside (one (CONVERTER_STATUS.CONV_FLAGS m) :: one (OVR_END m) :: one (OVR_MAX m) :: one (OVR_MIN m) :: one (OVR_ON m) :: one (OVR_REF m) :: []) W) :
    Leaves W L org (State.overrides s m ref max min) := by
  delta State.overrides
  repeat' first
    | with_reducible assumption
    | with_reducible apply State.set_leaves
    | with_reducible apply State.setN_leaves
    | with_reducible apply State.setConvFlag_leaves
    | (with_unfolding_none refine hW.covers ?_; repeat first | with_unfolding_none exact Covered.here | with_unfolding_none refine Covered.next ?_)
    | with_unfolding_none apply hW.sub (inBoth inNil)
    | (extract_lets +onlyGivenNames letX; have letT : True := (by clear_value letX; guard_hyp letX : State; trivial); clear letT; refine Leaves.cut (W := W) (L := L) (r := org) (v := letX) ?_ (fun letH => ?_); (focus subst letX); rotate_left; clear_value letX; revert letX; intro _ _)

theorem State.overrideDrop_leaves {W : List Span} {L : List Part} {org s : State} (m : Nat) (h : Leaves W L org s)
    (hW : Inside (one (CONVERTER_STATUS.CONV_FLAGS m) :: one (OVR_END m) :: one (OVR_ON m) :: []) W) :
    Leaves W L org (State.overrideDrop s m) := by
  delta State.overrideDrop
  repeat' first
    | with_reducible assumption
    | with_reducible apply State.setN_leaves
    | with_reducible apply State.setConvFlag_leaves
    | (with_unfolding_none refine hW.covers ?_; repeat first | with_unfolding_none exact Covered.here | with_unfolding_none refine Covered.next ?_)
    | with_unfolding_none apply hW.sub (inBoth inNil)

theorem State.overridesEnd_leaves {W : List Span} {L : List Part} {org s : State} (h : Leaves W L org s)
    (hW : Inside (each CONVERTER_STATUS.CONV_FLAGS :: each OVR_END :: each OVR_ON :: []) W) :
    Leaves W L org (State.overridesEnd s) := by
  delta State.overridesEnd
  repeat' first
    | with_reducible assumption
    | with_reducible apply State.overrideDrop_leaves
    | with_unfolding_none apply hW.sub (CONVERTER_STATUS.CONV_FLAGS_wide (inSkip (OVR_END_wide (inSkip (OVR_ON_wide inNil)))))
    | with_reducible refine Leaves.ite ?_ ?_
    | with_reducible refine forBelow_leaves ?_ (fun _ _ _ => ?_)

theorem State.voltageLoop_leaves {W : List Span} {L : List Part} {org s : State} (m : Nat) (vout : Int) (h : Leaves W L org s)
    (hW : Inside (one (CONVERTER_STATUS.CONV_FLAGS m) :: one (CONVERTER_STATUS.IREF m) :: one (CONV_E m 0) :: one (CONV_E m 1) :: one (CONV_E m 2) :: one (CONV_Y m 0) :: one (CONV_Y m 1) :: one (CONV_Y m 2) :: each LANE_STATUS.I_REF :: []) W) :
    Leaves W L org (State.voltageLoop s m vout) := by
  delta State.voltageLoop
  repeat' first
    | with_reducible assumption
    | with_reducible apply State.set_leaves
    | with_reducible apply State.setConvFlag_leaves
    | (with_unfolding_none refine hW.covers ?_; repeat first | with_unfolding_none exact Covered.here | with_unfolding_none exact LANE_STATUS.I_REF_in | with_unfolding_none refine Covered.next ?_)
    | with_unfolding_none apply hW.sub (inBoth inNil)
    | (extract_lets +onlyGivenNames letX; have letT : True := (by clear_value letX; guard_hyp letX : State; trivial); clear letT; refine Leaves.cut (W := W) (L := L) (r := org) (v := letX) ?_ (fun letH => ?_); (focus subst letX); rotate_left; clear_value letX; revert letX; intro _ _)
    | (extract_lets +onlyGivenNames letX; clear_value letX; revert letX; intro _)
    | with_reducible refine forEach_leaves ?_ (fun _ _ _ => ?_)

theorem State.currentLoop_leaves {W : List Span} {L : List Part} {org s : State} (m l : Nat) (i : Int) (h : Leaves W L org s)
    (hW : Inside (one (LANE_E l 0) :: one (LANE_E l 1) :: one (LANE_STATUS.DUTY l) :: one (LANE_U l 0) :: one (LANE_U l 1) :: []) W) :
    Leaves W L org (State.currentLoop s m l i) := by
  delta State.currentLoop
  repeat' first
    | with_reducible assumption
    | with_reducible apply State.set_leaves
    | (with_unfolding_none refine hW.covers ?_; repeat first | with_unfolding_none exact Covered.here | with_unfolding_none refine Covered.next ?_)
    | (extract_lets +onlyGivenNames letX; have letT : True := (by clear_value letX; guard_hyp letX : State; trivial); clear letT; refine Leaves.cut (W := W) (L := L) (r := org) (v := letX) ?_ (fun letH => ?_); (focus subst letX); rotate_left; clear_value letX; revert letX; intro _ _)
    | (extract_lets +onlyGivenNames letX; clear_value letX; revert letX; intro _)

theorem State.softStartDone_leaves {W : List Span} {L : List Part} {org s : State} (m : Nat) (h : Leaves W L org s)
    (hW : Inside (one (CONVERTER_STATUS.CONV_FLAGS m) :: one (CONVERTER_STATUS.STATE m) :: one (CONV_RUN_AT m) :: []) W) (hL : Within ([.collector, .shadows] : List Part) L) :
    Leaves W L org (State.softStartDone s m) := by
  delta State.softStartDone
  repeat' first
    | with_reducible assumption
    | with_reducible apply State.setN_leaves
    | with_reducible apply State.setConvFlag_leaves
    | with_reducible apply State.setClosing_leaves
    | with_reducible apply State.raiseConverter_leaves
    | (with_unfolding_none refine hW.covers ?_; repeat first | with_unfolding_none exact Covered.here | with_unfolding_none refine Covered.next ?_)
    | with_unfolding_none apply hW.sub (inBoth inNil)
    | with_unfolding_none apply hW.sub (inNil)
    | (with_reducible refine Within.trans ?_ hL; decide +kernel)
    | (extract_lets +onlyGivenNames letX; have letT : True := (by clear_value letX; guard_hyp letX : State; trivial); clear letT; refine Leaves.cut (W := W) (L := L) (r := org) (v := letX) ?_ (fun letH => ?_); (focus subst letX); rotate_left; clear_value letX; revert letX; intro _ _)

theorem State.moveReference_leaves {W : List Span} {L : List Part} {org s : State} (m : Nat) (h : Leaves W L org s)
    (hW : Inside (one (CONVERTER_STATUS.CONV_FLAGS m) :: one (CONVERTER_STATUS.STATE m) :: one (CONVERTER_STATUS.VREF m) :: one (CONV_REF_AT m) :: one (CONV_RUN_AT m) :: []) W) (hL : Within ([.collector, .shadows] : List Part) L) :
    Leaves W L org (State.moveReference s m) := by
  delta State.moveReference
  repeat' first
    | with_reducible assumption
    | with_reducible apply State.set_leaves
    | with_reducible apply State.setN_leaves
    | with_reducible apply State.softStartDone_leaves
    | (with_unfolding_none refine hW.covers ?_; repeat first | with_unfolding_none exact Covered.here | with_unfolding_none refine Covered.next ?_)
    | with_unfolding_none apply hW.sub (inBoth (inBoth (inSkip (inSkip (inBoth inNil)))))
    | (with_reducible refine Within.trans ?_ hL; decide +kernel)
    | (extract_lets +onlyGivenNames letX; have letT : True := (by clear_value letX; guard_hyp letX : State; trivial); clear letT; refine Leaves.cut (W := W) (L := L) (r := org) (v := letX) ?_ (fun letH => ?_); (focus subst letX); rotate_left; clear_value letX; revert letX; intro _ _)
    | (extract_lets +onlyGivenNames letX; clear_value letX; revert letX; intro _)
    | with_reducible refine Leaves.ite ?_ ?_

theorem State.convGood_leaves {W : List Span} {L : List Part} {org s : State} (m : Nat) (h : Leaves W L org s)
    (hW : Inside (one (CWIN m) :: []) W) (hL : Within ([.collector] : List Part) L) :
    Leaves W L org (State.convGood s m) := by
  delta State.convGood
  repeat' first
    | with_reducible assumption
    | with_reducible apply State.setBit_leaves
    | with_reducible apply State.raiseConverter_leaves
    | (with_unfolding_none refine hW.covers ?_; repeat first | with_unfolding_none exact Covered.here | with_unfolding_none refine Covered.next ?_)
    | with_unfolding_none apply hW.sub (inNil)
    | (with_reducible refine Within.trans ?_ hL; decide +kernel)
    | (extract_lets +onlyGivenNames letX; have letT : True := (by clear_value letX; guard_hyp letX : State; trivial); clear letT; refine Leaves.cut (W := W) (L := L) (r := org) (v := letX) ?_ (fun letH => ?_); (focus subst letX); rotate_left; clear_value letX; revert letX; intro _ _)
    | with_reducible refine Leaves.ite ?_ ?_

theorem State.convUnder_leaves {W : List Span} {L : List Part} {org s : State} (m : Nat) (on : Bool) (v : Int) (h : Leaves W L org s)
    (hW : Inside (one (CWIN m) :: []) W) (hL : Within ([.collector] : List Part) L) :
    Leaves W L org (State.convUnder s m on v) := by
  delta State.convUnder
  repeat' first
    | with_reducible assumption
    | with_reducible apply State.setBit_leaves
    | with_reducible apply State.raiseConverter_leaves
    | (with_unfolding_none refine hW.covers ?_; repeat first | with_unfolding_none exact Covered.here | with_unfolding_none refine Covered.next ?_)
    | with_unfolding_none apply hW.sub (inNil)
    | (with_reducible refine Within.trans ?_ hL; decide +kernel)
    | with_reducible refine Leaves.ite ?_ ?_

theorem State.convOver_leaves {W : List Span} {L : List Part} {org s : State} (m : Nat) (on : Bool) (v : Int) (h : Leaves W L org s)
    (hW : Inside (one (CWIN m) :: []) W) (hL : Within ([.collector] : List Part) L) :
    Leaves W L org (State.convOver s m on v) := by
  delta State.convOver
  repeat' first
    | with_reducible assumption
    | with_reducible apply State.setBit_leaves
    | with_reducible apply State.raiseConverter_leaves
    | (with_unfolding_none refine hW.covers ?_; repeat first | with_unfolding_none exact Covered.here | with_unfolding_none refine Covered.next ?_)
    | with_unfolding_none apply hW.sub (inNil)
    | (with_reducible refine Within.trans ?_ hL; decide +kernel)
    | with_reducible refine Leaves.ite ?_ ?_

theorem State.convLower_leaves {W : List Span} {L : List Part} {org s : State} (m : Nat) (h : Leaves W L org s)
    (hW : Inside (one (CWIN m) :: one (CWIN_AT m 0) :: []) W) (hL : Within ([.collector] : List Part) L) :
    Leaves W L org (State.convLower s m) := by
  delta State.convLower
  repeat' first
    | with_reducible assumption
    | with_reducible apply State.setN_leaves
    | with_reducible apply State.setBit_leaves
    | with_reducible apply State.convUnder_leaves
    | with_reducible apply State.convGood_leaves
    | (with_unfolding_none refine hW.covers ?_; repeat first | with_unfolding_none exact Covered.here | with_unfolding_none refine Covered.next ?_)
    | with_unfolding_none apply hW.sub (inBoth inNil)
    | (with_reducible refine Within.trans ?_ hL; decide +kernel)
    | (extract_lets +onlyGivenNames letX; have letT : True := (by clear_value letX; guard_hyp letX : State; trivial); clear letT; refine Leaves.cut (W := W) (L := L) (r := org) (v := letX) ?_ (fun letH => ?_); (focus subst letX); rotate_left; clear_value letX; revert letX; intro _ _)
    | (extract_lets +onlyGivenNames letX; clear_value letX; revert letX; intro _)
    | with_reducible refine Leaves.ite ?_ ?_

theorem State.convWindowMode_leaves {W : List Span} {L : List Part} {org s : State} (m : Nat) (h : Leaves W L org s)
    (hW : Inside (one (CWIN m) :: one (CWIN_AT m 0) :: one (CWIN_AT m 1) :: []) W) (hL : Within ([.collector] : List Part) L) :
    Leaves W L org (State.convWindowMode s m) := by
  delta State.convWindowMode
  repeat' first
    | with_reducible assumption
    | with_reducible apply State.setN_leaves
    | with_reducible apply State.setBit_leaves
    | with_reducible apply State.convUnder_leaves
    | with_reducible apply State.convGood_leaves
    | (with_unfolding_none refine hW.covers ?_; repeat first | with_unfolding_none exact Covered.here | with_unfolding_none refine Covered.next ?_)
    | with_unfolding_none apply hW.sub (inBoth inNil)
    | (with_reducible refine Within.trans ?_ hL; decide +kernel)
    | (extract_lets +onlyGivenNames letX; have letT : True := (by clear_value letX; guard_hyp letX : State; trivial); clear letT; refine Leaves.cut (W := W) (L := L) (r := org) (v := letX) ?_ (fun letH => ?_); (focus subst letX); rotate_left; clear_value letX; revert letX; intro _ _)
    | with_reducible refine Leaves.ite ?_ ?_

theorem State.converterUndervoltage_leaves {W : List Span} {L : List Part} {org s : State} (m : Nat) (units : List (List Int)) (h : Leaves W L org s)
    (hW : Inside (one (CONVERTER_WINDOW.UV_COUNT m) :: one (CWIN m) :: []) W) (hL : Within ([.collector] : List Part) L) :
    Leaves W L org (State.converterUndervoltage s m units) := by
  delta State.converterUndervoltage
  repeat' first
    | with_reducible assumption
    | with_reducible apply State.setBit_leaves
    | with_reducible apply State.count_leaves
    | with_reducible apply State.convUnder_leaves
    | with_reducible apply State.convGood_leaves
    | (with_unfolding_none refine hW.covers ?_; repeat first | with_unfolding_none exact Covered.here | with_unfolding_none refine Covered.next ?_)
    | with_unfolding_none apply hW.sub (inSkip (inBoth inNil))
    | (with_reducible refine Within.trans ?_ hL; decide +kernel)
    | (extract_lets +onlyGivenNames letX; have letT : True := (by clear_value letX; guard_hyp letX : State; trivial); clear letT; refine Leaves.cut (W := W) (L := L) (r := org) (v := letX) ?_ (fun letH => ?_); (focus subst letX); rotate_left; clear_value letX; revert letX; intro _ _)
    | (extract_lets +onlyGivenNames letX; clear_value letX; revert letX; intro _)
    | with_reducible refine Leaves.ite ?_ ?_

theorem State.converterOvervoltage_leaves {W : List Span} {L : List Part} {org s : State} (m : Nat) (units : List (List Int)) (h : Leaves W L org s)
    (hW : Inside (one (CONVERTER_WINDOW.OV_COUNT m) :: one (CWIN m) :: []) W) (hL : Within ([.collector] : List Part) L) :
    Leaves W L org (State.converterOvervoltage s m units) := by
  delta State.converterOvervoltage
  repeat' first
    | with_reducible assumption
    | with_reducible apply State.setBit_leaves
    | with_reducible apply State.count_leaves
    | with_reducible apply State.convOver_leaves
    | with_reducible apply State.convGood_leaves
    | (with_unfolding_none refine hW.covers ?_; repeat first | with_unfolding_none exact Covered.here | with_unfolding_none refine Covered.next ?_)
    | with_unfolding_none apply hW.sub (inSkip (inBoth inNil))
    | (with_reducible refine Within.trans ?_ hL; decide +kernel)
    | (extract_lets +onlyGivenNames letX; have letT : True := (by clear_value letX; guard_hyp letX : State; trivial); clear letT; refine Leaves.cut (W := W) (L := L) (r := org) (v := letX) ?_ (fun letH => ?_); (focus subst letX); rotate_left; clear_value letX; revert letX; intro _ _)
    | (extract_lets +onlyGivenNames letX; clear_value letX; revert letX; intro _)
    | with_reducible refine Leaves.ite ?_ ?_

theorem State.converterUnderCleared_leaves {W : List Span} {L : List Part} {org s : State} (m : Nat) (units : List (List Int)) (h : Leaves W L org s)
    (hW : Inside (one (CWIN m) :: []) W) (hL : Within ([.collector] : List Part) L) :
    Leaves W L org (State.converterUnderCleared s m units) := by
  delta State.converterUnderCleared
  repeat' first
    | with_reducible assumption
    | with_reducible apply State.setBit_leaves
    | with_reducible apply State.convUnder_leaves
    | with_reducible apply State.convGood_leaves
    | (with_unfolding_none refine hW.covers ?_; repeat first | with_unfolding_none exact Covered.here | with_unfolding_none refine Covered.next ?_)
    | with_unfolding_none apply hW.sub (inBoth inNil)
    | (with_reducible refine Within.trans ?_ hL; decide +kernel)
    | (extract_lets +onlyGivenNames letX; clear_value letX; revert letX; intro _)
    | with_reducible refine Leaves.ite ?_ ?_

theorem State.converterOverCleared_leaves {W : List Span} {L : List Part} {org s : State} (m : Nat) (units : List (List Int)) (h : Leaves W L org s)
    (hW : Inside (one (CWIN m) :: []) W) (hL : Within ([.collector] : List Part) L) :
    Leaves W L org (State.converterOverCleared s m units) := by
  delta State.converterOverCleared
  repeat' first
    | with_reducible assumption
    | with_reducible apply State.setBit_leaves
    | with_reducible apply State.convOver_leaves
    | with_reducible apply State.convGood_leaves
    | (with_unfolding_none refine hW.covers ?_; repeat first | with_unfolding_none exact Covered.here | with_unfolding_none refine Covered.next ?_)
    | with_unfolding_none apply hW.sub (inBoth inNil)
    | (with_reducible refine Within.trans ?_ hL; decide +kernel)
    | (extract_lets +onlyGivenNames letX; clear_value letX; revert letX; intro _)
    | with_reducible refine Leaves.ite ?_ ?_

theorem State.convLow_leaves {W : List Span} {L : List Part} {org s : State} (m : Nat) (h : Leaves W L org s)
    (hW : Inside (each2 LANE_EDGE :: []) W) :
    Leaves W L org (State.convLow s m) := by
  delta State.convLow
  repeat' first
    | with_reducible assumption
    | with_reducible apply State.laneLow_leaves
    | with_unfolding_none apply hW.sub (inBoth inNil)
    | with_reducible refine forEach_leaves ?_ (fun _ _ _ => ?_)

theorem State.convBegin_leaves {W : List Span} {L : List Part} {org s : State} (m : Nat) (h : Leaves W L org s)
    (hW : Inside (one (CONV_PHASE m) :: one (CONV_T0 m) :: each2 LANE_EDGE :: each LANE_PARK :: []) W) :
    Leaves W L org (State.convBegin s m) := by
  delta State.convBegin
  repeat' first
    | with_reducible assumption
    | with_reducible apply State.setN_leaves
    | with_reducible apply State.convLow_leaves
    | (with_unfolding_none refine hW.covers ?_; repeat first | with_unfolding_none exact Covered.here | with_unfolding_none exact LANE_PARK_in | with_unfolding_none refine Covered.next ?_)
    | with_unfolding_none apply hW.sub (inSkip (inSkip (inBoth inNil)))
    | (extract_lets +onlyGivenNames letX; have letT : True := (by clear_value letX; guard_hyp letX : State; trivial); clear letT; refine Leaves.cut (W := W) (L := L) (r := org) (v := letX) ?_ (fun letH => ?_); (focus subst letX); rotate_left; clear_value letX; revert letX; intro _ _)
    | with_reducible refine forEach_leaves ?_ (fun _ _ _ => ?_)

theorem State.storeOffsets_leaves {W : List Span} {L : List Part} {org s : State} (m : Nat) (off : List Int) (h : Leaves W L org s)
    (hW : Inside (each LANE_STATUS.ADC_OFFSET :: []) W) :
    Leaves W L org (State.storeOffsets s m off) := by
  delta State.storeOffsets
  repeat' first
    | with_reducible assumption
    | with_reducible apply State.set_leaves
    | (with_unfolding_none refine hW.covers ?_; repeat first | with_unfolding_none exact Covered.here | with_unfolding_none exact LANE_STATUS.ADC_OFFSET_in | with_unfolding_none refine Covered.next ?_)
    | with_reducible refine forEach_leaves ?_ (fun _ _ _ => ?_)

theorem State.clearLoops_leaves {W : List Span} {L : List Part} {org s : State} (m : Nat) (h : Leaves W L org s)
    (hW : Inside (one (CONVERTER_STATUS.CONV_FLAGS m) :: one (CONVERTER_STATUS.IREF m) :: one (CONV_CUT m) :: one (CONV_CUT_LANES m) :: one (CONV_CYCLES m) :: each2 CONV_E :: one (CONV_LIMIT m) :: one (CONV_SCNT m) :: one (CONV_SUM m) :: each2 CONV_Y :: each2 LANE_E :: each LANE_NEXT :: each LANE_OFFSET :: each LANE_STATUS.DUTY :: each LANE_STATUS.I_REF :: each2 LANE_U :: []) W) :
    Leaves W L org (State.clearLoops s m) := by
  delta State.clearLoops
  repeat' first
    | with_reducible assumption
    | with_reducible apply State.set_leaves
    | with_reducible apply State.setN_leaves
    | with_reducible apply State.setConvFlag_leaves
    | (with_unfolding_none refine hW.covers ?_; repeat first | with_unfolding_none exact Covered.here | with_unfolding_none exact CONV_E_in | with_unfolding_none exact CONV_Y_in | with_unfolding_none exact LANE_E_in | with_unfolding_none exact LANE_NEXT_in | with_unfolding_none exact LANE_OFFSET_in | with_unfolding_none exact LANE_STATUS.DUTY_in | with_unfolding_none exact LANE_STATUS.I_REF_in | with_unfolding_none exact LANE_U_in | with_unfolding_none refine Covered.next ?_)
    | with_unfolding_none apply hW.sub (inBoth inNil)
    | (extract_lets +onlyGivenNames letX; have letT : True := (by clear_value letX; guard_hyp letX : State; trivial); clear letT; refine Leaves.cut (W := W) (L := L) (r := org) (v := letX) ?_ (fun letH => ?_); (focus subst letX); rotate_left; clear_value letX; revert letX; intro _ _)
    | with_reducible refine forEach_leaves ?_ (fun _ _ _ => ?_)
    | with_reducible refine forBelow_leaves ?_ (fun _ _ _ => ?_)

theorem State.convFirstCycle_leaves {W : List Span} {L : List Part} {org s : State} (m : Nat) (h : Leaves W L org s)
    (hW : Inside (one (CONVERTER_STATUS.CONV_FLAGS m) :: one (CONVERTER_STATUS.HICCUPS_LEFT m) :: one (CONVERTER_STATUS.IREF m) :: one (CONVERTER_STATUS.STATE m) :: one (CONVERTER_STATUS.VREF m) :: one (CONV_CUT m) :: one (CONV_CUT_LANES m) :: one (CONV_CYCLES m) :: each2 CONV_E :: one (CONV_LIMIT m) :: one (CONV_PHASE m) :: one (CONV_REF_AT m) :: one (CONV_RUN_AT m) :: one (CONV_SCNT m) :: one (CONV_SLOPE m) :: one (CONV_SST m) :: one (CONV_SUM m) :: one (CONV_T0 m) :: each2 CONV_Y :: one (CWIN m) :: one (CWIN_AT m 0) :: each2 LANE_E :: each2 LANE_EDGE :: each LANE_EXTRA :: each LANE_FROM :: each LANE_HELD :: each LANE_NEXT :: each LANE_OFFSET :: each LANE_STATUS.DUTY :: each LANE_STATUS.I_REF :: each2 LANE_U :: []) W) (hL : Within ([.collector, .shadows] : List Part) L) :
    Leaves W L org (State.convFirstCycle s m) := by
  delta State.convFirstCycle
  repeat' first
    | with_reducible assumption
    | with_reducible apply State.set_leaves
    | with_reducible apply State.setN_leaves
    | with_reducible apply State.clearLoops_leaves
    | with_reducible apply State.setConvFlag_leaves
    | with_reducible apply State.raiseConverter_leaves
    | with_reducible apply State.softStartDone_leaves
    | with_reducible apply State.convLower_leaves
    | with_reducible apply State.laneBegins_leaves
    | (with_unfolding_none refine hW.covers ?_; repeat first | with_unfolding_none exact Covered.here | with_unfolding_none refine Covered.next ?_)
    | with_unfolding_none apply hW.sub (inBoth (inSkip (inBoth (inSkip (inSkip (inBoth (inBoth (inBoth (inBoth (inBoth (inSkip (inSkip (inSkip (inBoth (inSkip (inSkip (inBoth (inSkip (inBoth (inSkip (inSkip (inBoth (inSkip (inSkip (inSkip (inSkip (inBoth (inBoth (inBoth (inBoth (inBoth inNil)))))))))))))))))))))))))))))))
    | with_unfolding_none apply hW.sub (inBoth inNil)
    | with_unfolding_none apply hW.sub (inNil)
    | with_unfolding_none apply hW.sub (inBoth (inSkip (inSkip (inBoth (inSkip (inSkip (inSkip (inSkip (inSkip (inSkip (inSkip (inSkip (inBoth inNil)))))))))))))
    | with_unfolding_none apply hW.sub (inSkip (inSkip (inSkip (inSkip (inSkip (inSkip (inSkip (inSkip (inSkip (inSkip (inSkip (inSkip (inSkip (inSkip (inSkip (inSkip (inSkip (inSkip (inSkip (inBoth (inBoth inNil)))))))))))))))))))))
    | with_unfolding_none apply hW.sub (inSkip (inSkip (inSkip (inSkip (inSkip (inSkip (inSkip (inSkip (inSkip (inSkip (inSkip (inSkip (inSkip (inSkip (inSkip (inSkip (inSkip (inSkip (inSkip (inSkip (inSkip (inSkip (inBoth (LANE_EXTRA_wide (inSkip (LANE_FROM_wide (LANE_FROM_wide (inSkip (LANE_HELD_wide (inSkip (inSkip (LANE_OFFSET_wide inNil))))))))))))))))))))))))))))))))
    | (with_reducible refine Within.trans ?_ hL; decide +kernel)
    | (extract_lets +onlyGivenNames letX; have letT : True := (by clear_value letX; guard_hyp letX : State; trivial); clear letT; refine Leaves.cut (W := W) (L := L) (r := org) (v := letX) ?_ (fun letH => ?_); (focus subst letX); rotate_left; clear_value letX; revert letX; intro _ _)
    | (extract_lets +onlyGivenNames letX; clear_value letX; revert letX; intro _)
    | with_reducible refine Leaves.ite ?_ ?_
    | with_reducible refine forEach_leaves ?_ (fun _ _ _ => ?_)

theorem State.startsBegin_leaves {W : List Span} {L : List Part} {org s : State} (h : Leaves W L org s)
    (hW : Inside (each CONVERTER_STATUS.CONV_FLAGS :: each CONVERTER_STATUS.HICCUPS_LEFT :: each CONVERTER_STATUS.IREF :: each CONVERTER_STATUS.STATE :: each CONVERTER_STATUS.VREF :: each CONV_CUT :: each CONV_CUT_LANES :: each CONV_CYCLES :: each2 CONV_E :: each CONV_LIMIT :: each CONV_PHASE :: each CONV_REF_AT :: each CONV_RUN_AT :: each CONV_SCNT :: each CONV_SLOPE :: each CONV_SST :: each CONV_SUM :: each CONV_T0 :: each2 CONV_Y :: each CWIN :: each2 CWIN_AT :: each2 LANE_E :: each2 LANE_EDGE :: each LANE_EXTRA :: each LANE_FROM :: each LANE_HELD :: each LANE_NEXT :: each LANE_OFFSET :: each LANE_STATUS.DUTY :: each LANE_STATUS.I_REF :: each2 LANE_U :: []) W) (hL : Within ([.collector, .shadows] : List Part) L) :
    Leaves W L org (State.startsBegin s) := by
  delta State.startsBegin
  repeat' first
    | with_reducible assumption
    | with_reducible apply State.convFirstCycle_leaves
    | with_unfolding_none apply hW.sub (CONVERTER_STATUS.CONV_FLAGS_wide (inSkip (CONVERTER_STATUS.HICCUPS_LEFT_wide (inSkip (CONVERTER_STATUS.IREF_wide (inSkip (CONVERTER_STATUS.STATE_wide (inSkip (CONVERTER_STATUS.VREF_wide (inSkip (CONV_CUT_wide (inSkip (CONV_CUT_LANES_wide (inSkip (CONV_CYCLES_wide (inSkip (inBoth (CONV_LIMIT_wide (inSkip (CONV_PHASE_wide (inSkip (CONV_REF_AT_wide (inSkip (CONV_RUN_AT_wide (inSkip (CONV_SCNT_wide (inSkip (CONV_SLOPE_wide (inSkip (CONV_SST_wide (inSkip (CONV_SUM_wide (inSkip (CONV_T0_wide (inSkip (inBoth (CWIN_wide (inSkip (CWIN_AT_wide (inSkip (inBoth (inBoth (inBoth (inBoth (inBoth (inBoth (inBoth (inBoth (inBoth (inBoth inNil))))))))))))))))))))))))))))))))))))))))))))))))))
    | (with_reducible refine Within.trans ?_ hL; decide +kernel)
    | with_reducible refine Leaves.ite ?_ ?_
    | with_reducible refine forBelow_leaves ?_ (fun _ _ _ => ?_)

theorem State.converterStartCheck_leaves {W : List Span} {L : List Part} {org s : State} (m : Nat) (samples off : List Int) (h : Leaves W L org s)
    (hW : Inside (one (CONVERTER.ENABLE m) :: one (CONVERTER_STATUS.CONV_FLAGS m) :: one (CONVERTER_STATUS.START_REFUSE_REASON m) :: one (CONV_LAST m) :: one (CONV_PHASE m) :: one (CONV_V0 m) :: each2 CONV_VCNT :: each2 CONV_VSUM :: each LANE_STATUS.ADC_OFFSET :: one (inForce (CONVERTER.ENABLE m)) :: []) W) (hL : Within ([.collector] : List Part) L) :
    Leaves W L org (State.converterStartCheck s m samples off) := by
  delta State.converterStartCheck
  repeat' first
    | with_reducible assumption
    | with_reducible apply State.set_leaves
    | with_reducible apply State.setN_leaves
    | with_reducible apply State.outSamples_leaves
    | with_reducible apply State.storeOffsets_leaves
    | with_reducible apply State.raiseConverter_leaves
    | (with_unfolding_none refine hW.covers ?_; repeat first | with_unfolding_none exact Covered.here | with_unfolding_none refine Covered.next ?_)
    | with_unfolding_none apply hW.sub (inSkip (inBoth (inSkip (inBoth (inSkip (inSkip (inBoth (inBoth inNil))))))))
    | with_unfolding_none apply hW.sub (inSkip (inSkip (inSkip (inSkip (inSkip (inSkip (inSkip (inSkip (inBoth inNil)))))))))
    | with_unfolding_none apply hW.sub (inNil)
    | (with_reducible refine Within.trans ?_ hL; decide +kernel)
    | (extract_lets +onlyGivenNames letX; have letT : True := (by clear_value letX; guard_hyp letX : State; trivial); clear letT; refine Leaves.cut (W := W) (L := L) (r := org) (v := letX) ?_ (fun letH => ?_); (focus subst letX); rotate_left; clear_value letX; revert letX; intro _ _)
    | (extract_lets +onlyGivenNames letX; clear_value letX; revert letX; intro _)
    | with_reducible refine Leaves.ite ?_ ?_

theorem State.raiseAssist_leaves {W : List Span} {L : List Part} {org s : State} (k : Kind) (fields : List (Nat × Int)) (h : Leaves W L org s) (hL : Within ([.collector] : List Part) L) :
    Leaves W L org (State.raiseAssist s k fields) := by
  delta State.raiseAssist
  repeat' first
    | with_reducible assumption
    | with_reducible apply State.raise_leaves
    | (with_reducible refine Within.trans ?_ hL; decide +kernel)

theorem State.asFinish_leaves {W : List Span} {L : List Part} {org s : State} (result : Nat) (h : Leaves W L org s)
    (hW : Inside (one ASSIST_STATUS.ASSIST_CURRENT :: one ASSIST_STATUS.ASSIST_RESULT :: one ASSIST_STATUS.ASSIST_STATE :: one AS_CLOSED :: one AS_END :: one AS_TIME :: one (OVR_END 2) :: []) W) (hL : Within ([.collector] : List Part) L) :
    Leaves W L org (State.asFinish s result) := by
  delta State.asFinish
  repeat' first
    | with_reducible assumption
    | with_reducible apply State.setN_leaves
    | with_reducible apply State.setFlag_leaves
    | with_reducible apply State.raiseAssist_leaves
    | (with_unfolding_none refine hW.covers ?_; repeat first | with_unfolding_none exact Covered.here | with_unfolding_none exact ASSIST_STATUS.ASSIST_CURRENT_in | with_unfolding_none exact ASSIST_STATUS.ASSIST_RESULT_in | with_unfolding_none exact ASSIST_STATUS.ASSIST_STATE_in | with_unfolding_none exact AS_CLOSED_in | with_unfolding_none exact AS_END_in | with_unfolding_none exact AS_TIME_in | with_unfolding_none refine Covered.next ?_)
    | with_unfolding_none apply hW.sub (inNil)
    | (with_reducible refine Within.trans ?_ hL; decide +kernel)
    | (extract_lets +onlyGivenNames letX; have letT : True := (by clear_value letX; guard_hyp letX : State; trivial); clear letT; refine Leaves.cut (W := W) (L := L) (r := org) (v := letX) ?_ (fun letH => ?_); (focus subst letX); rotate_left; clear_value letX; revert letX; intro _ _)
    | with_reducible refine Leaves.ite ?_ ?_

theorem State.truncationEnds_leaves {W : List Span} {L : List Part} {org s : State} (m : Nat) (h : Leaves W L org s)
    (hW : Inside (one (CONVERTER_STATUS.CONV_FLAGS m) :: one (TRUNC_LONGEST m) :: one (TRUNC_SINCE m) :: one (TRUNC_TOLD_AT m) :: []) W) (hL : Within ([.collector] : List Part) L) :
    Leaves W L org (State.truncationEnds s m) := by
  delta State.truncationEnds
  repeat' first
    | with_reducible assumption
    | with_reducible apply State.setN_leaves
    | with_reducible apply State.setConvFlag_leaves
    | with_reducible apply State.raiseConverter_leaves
    | (with_unfolding_none refine hW.covers ?_; repeat first | with_unfolding_none exact Covered.here | with_unfolding_none refine Covered.next ?_)
    | with_unfolding_none apply hW.sub (inBoth inNil)
    | with_unfolding_none apply hW.sub (inNil)
    | (with_reducible refine Within.trans ?_ hL; decide +kernel)
    | (extract_lets +onlyGivenNames letX; have letT : True := (by clear_value letX; guard_hyp letX : State; trivial); clear letT; refine Leaves.cut (W := W) (L := L) (r := org) (v := letX) ?_ (fun letH => ?_); (focus subst letX); rotate_left; clear_value letX; revert letX; intro _ _)
    | (extract_lets +onlyGivenNames letX; clear_value letX; revert letX; intro _)
    | with_reducible refine Leaves.ite ?_ ?_

theorem State.convQuits_leaves {W : List Span} {L : List Part} {org s : State} (m st : Nat) (planned : Bool) (h : Leaves W L org s)
    (hW : Inside (one ASSIST_STATUS.ASSIST_CURRENT :: one ASSIST_STATUS.ASSIST_RESULT :: one ASSIST_STATUS.ASSIST_STATE :: one AS_CLOSED :: one AS_END :: one AS_TIME :: one (CONVERTER_STATUS.CONV_FLAGS m) :: one (CONVERTER_STATUS.STATE m) :: one (CONV_LIMIT m) :: one (CONV_PHASE m) :: one (CWIN m) :: one (CWIN_AT m 0) :: each2 LANE_EDGE :: one (OVR_END 2) :: one (TRUNC_LONGEST m) :: one (TRUNC_SINCE m) :: one (TRUNC_TOLD_AT m) :: []) W) (hL : Within ([.collector, .shadows] : List Part) L) :
    Leaves W L org (State.convQuits s m st planned) := by
  delta State.convQuits
  repeat' first
    | with_reducible assumption
    | with_reducible apply State.setN_leaves
    | with_reducible apply State.asFinish_leaves
    | with_reducible apply State.truncationEnds_leaves
    | with_reducible apply State.setConvFlag_leaves
    | with_reducible apply State.laneEnds_leaves
    | with_reducible apply State.laneLow_leaves
    | with_reducible apply State.convLower_leaves
    | with_reducible apply State.openShadow_leaves
    | with_reducible apply State.setClosing_leaves
    | (with_unfolding_none refine hW.covers ?_; repeat first | with_unfolding_none exact Covered.here | with_unfolding_none refine Covered.next ?_)
    | with_unfolding_none apply hW.sub (inBoth (inBoth (inBoth (inBoth (inBoth (inBoth (inSkip (inSkip (inSkip (inSkip (inSkip (inSkip (inSkip (inBoth inNil))))))))))))))
    | with_unfolding_none apply hW.sub (inSkip (inSkip (inSkip (inSkip (inSkip (inSkip (inBoth (inSkip (inSkip (inSkip (inSkip (inSkip (inSkip (inSkip (inBoth (inBoth (inBoth inNil)))))))))))))))))
    | with_unfolding_none apply hW.sub (inSkip (inSkip (inSkip (inSkip (inSkip (inSkip (inBoth inNil)))))))
    | with_unfolding_none apply hW.sub (inSkip (inSkip (inSkip (inSkip (inSkip (inSkip (inSkip (inSkip (inSkip (inSkip (inSkip (inSkip (inBoth inNil)))))))))))))
    | with_unfolding_none apply hW.sub (inSkip (inSkip (inSkip (inSkip (inSkip (inSkip (inSkip (inSkip (inSkip (inSkip (inBoth (inBoth inNil))))))))))))
    | with_unfolding_none apply hW.sub (inNil)
    | (with_reducible refine Within.trans ?_ hL; decide +kernel)
    | (extract_lets +onlyGivenNames letX; have letT : True := (by clear_value letX; guard_hyp letX : State; trivial); clear letT; refine Leaves.cut (W := W) (L := L) (r := org) (v := letX) ?_ (fun letH => ?_); (focus subst letX); rotate_left; clear_value letX; revert letX; intro _ _)
    | with_reducible refine Leaves.ite ?_ ?_
    | with_reducible refine forEach_leaves ?_ (fun _ _ _ => ?_)

theorem State.convLeave_leaves {W : List Span} {L : List Part} {org s : State} (m st : Nat) (h : Leaves W L org s)
    (hW : Inside (one ASSIST_STATUS.ASSIST_CURRENT :: one ASSIST_STATUS.ASSIST_RESULT :: one ASSIST_STATUS.ASSIST_STATE :: one AS_CLOSED :: one AS_END :: one AS_TIME :: one (CONVERTER_STATUS.CONV_FLAGS m) :: one (CONVERTER_STATUS.STATE m) :: one (CONV_LIMIT m) :: one (CONV_PHASE m) :: one (CWIN m) :: one (CWIN_AT m 0) :: each2 LANE_EDGE :: one (OVR_END 2) :: one (TRUNC_LONGEST m) :: one (TRUNC_SINCE m) :: one (TRUNC_TOLD_AT m) :: []) W) (hL : Within ([.collector, .shadows] : List Part) L) :
    Leaves W L org (State.convLeave s m st) := by
  delta State.convLeave
  repeat' first
    | with_reducible assumption
    | with_reducible apply State.convQuits_leaves
    | with_unfolding_none apply hW.sub (inBoth (inBoth (inBoth (inBoth (inBoth (inBoth (inBoth (inBoth (inBoth (inBoth (inBoth (inBoth (inBoth (inBoth (inBoth (inBoth (inBoth inNil)))))))))))))))))
    | (with_reducible refine Within.trans ?_ hL; decide +kernel)

theorem State.convStop_leaves {W : List Span} {L : List Part} {org s : State} (m cause : Nat) (h : Leaves W L org s)
    (hW : Inside (one ASSIST_STATUS.ASSIST_CURRENT :: one ASSIST_STATUS.ASSIST_RESULT :: one ASSIST_STATUS.ASSIST_STATE :: one AS_CLOSED :: one AS_END :: one AS_TIME :: one (CONVERTER_STATUS.CONV_FLAGS m) :: one (CONVERTER_STATUS.STATE m) :: one (CONV_LIMIT m) :: one (CONV_PHASE m) :: one (CWIN m) :: one (CWIN_AT m 0) :: each2 LANE_EDGE :: one (OVR_END 2) :: one (TRUNC_LONGEST m) :: one (TRUNC_SINCE m) :: one (TRUNC_TOLD_AT m) :: []) W) (hL : Within ([.collector, .shadows] : List Part) L) :
    Leaves W L org (State.convStop s m cause) := by
  delta State.convStop
  repeat' first
    | with_reducible assumption
    | with_reducible apply State.setN_leaves
    | with_reducible apply State.convLeave_leaves
    | with_reducible apply State.convQuits_leaves
    | with_reducible apply State.raiseConverter_leaves
    | (with_unfolding_none refine hW.covers ?_; repeat first | with_unfolding_none exact Covered.here | with_unfolding_none refine Covered.next ?_)
    | with_unfolding_none apply hW.sub (inBoth (inBoth (inBoth (inBoth (inBoth (inBoth (inBoth (inBoth (inBoth (inBoth (inBoth (inBoth (inBoth (inBoth (inBoth (inBoth (inBoth inNil)))))))))))))))))
    | with_unfolding_none apply hW.sub (inNil)
    | (with_reducible refine Within.trans ?_ hL; decide +kernel)
    | with_reducible refine Leaves.ite ?_ ?_

theorem State.convEnable_leaves {W : List Span} {L : List Part} {org s : State} (m v : Nat) (h : Leaves W L org s)
    (hW : Inside (one ASSIST_STATUS.ASSIST_CURRENT :: one ASSIST_STATUS.ASSIST_RESULT :: one ASSIST_STATUS.ASSIST_STATE :: one AS_CLOSED :: one AS_END :: one AS_TIME :: one (CONVERTER_STATUS.CONV_FLAGS m) :: one (CONVERTER_STATUS.STATE m) :: one (CONV_LIMIT m) :: one (CONV_PHASE m) :: one (CONV_T0 m) :: one (CWIN m) :: one (CWIN_AT m 0) :: each2 LANE_EDGE :: each LANE_PARK :: one (OVR_END 2) :: one (TRUNC_LONGEST m) :: one (TRUNC_SINCE m) :: one (TRUNC_TOLD_AT m) :: one (inForce (CONVERTER.ENABLE m)) :: []) W) (hL : Within ([.collector, .shadows] : List Part) L) :
    Leaves W L org (State.convEnable s m v) := by
  delta State.convEnable
  repeat' first
    | with_reducible assumption
    | with_reducible apply State.setN_leaves
    | with_reducible apply State.convStop_leaves
    | with_reducible apply State.convBegin_leaves
    | (with_unfolding_none refine hW.covers ?_; repeat first | with_unfolding_none exact Covered.here | with_unfolding_none refine Covered.next ?_)
    | with_unfolding_none apply hW.sub (inBoth (inBoth (inBoth (inBoth (inBoth (inBoth (inBoth (inBoth (inBoth (inBoth (inSkip (inBoth (inBoth (inBoth (inSkip (inBoth (inBoth (inBoth (inBoth inNil)))))))))))))))))))
    | with_unfolding_none apply hW.sub (inSkip (inSkip (inSkip (inSkip (inSkip (inSkip (inSkip (inSkip (inSkip (inBoth (inBoth (inSkip (inSkip (inBoth (inBoth inNil)))))))))))))))
    | (with_reducible refine Within.trans ?_ hL; decide +kernel)
    | (extract_lets +onlyGivenNames letX; have letT : True := (by clear_value letX; guard_hyp letX : State; trivial); clear letT; refine Leaves.cut (W := W) (L := L) (r := org) (v := letX) ?_ (fun letH => ?_); (focus subst letX); rotate_left; clear_value letX; revert letX; intro _ _)
    | with_reducible refine Leaves.ite ?_ ?_

theorem State.convRing_leaves {W : List Span} {L : List Part} {org s : State} (m : Nat) (vout : Int) (h : Leaves W L org s)
    (hW : Inside (one (CONV_CYCLE8 m) :: one (CONV_RING m) :: []) W) :
    Leaves W L org (State.convRing s m vout) := by
  delta State.convRing
  repeat' first
    | with_reducible assumption
    | with_reducible apply State.setN_leaves
    | with_reducible apply State.setBlob_leaves
    | (with_unfolding_none refine hW.covers ?_; repeat first | with_unfolding_none exact Covered.here | with_unfolding_none refine Covered.next ?_)
    | (extract_lets +onlyGivenNames letX; clear_value letX; revert letX; intro _)
    | with_reducible refine Leaves.ite ?_ ?_

theorem State.freezeRecord_leaves {W : List Span} {L : List Part} {org s : State} (m cause kind site : Nat) (h : Leaves W L org s)
    (hW : Inside (one (CONVERTER_STATUS.RECORDS_SKIPPED m) :: one (CONV_FROZEN m) :: one (CONV_WRITING m) :: []) W) (hL : Within ([.collector] : List Part) L) :
    Leaves W L org (State.freezeRecord s m cause kind site) := by
  delta State.freezeRecord
  repeat' first
    | with_reducible assumption
    | with_reducible apply State.setN_leaves
    | with_reducible apply State.count_leaves
    | with_reducible apply State.setBlob_leaves
    | with_reducible apply State.raiseConverter_leaves
    | (with_unfolding_none refine hW.covers ?_; repeat first | with_unfolding_none exact Covered.here | with_unfolding_none refine Covered.next ?_)
    | with_unfolding_none apply hW.sub (inNil)
    | (with_reducible refine Within.trans ?_ hL; decide +kernel)
    | (extract_lets +onlyGivenNames letX; clear_value letX; revert letX; intro _)
    | with_reducible refine Leaves.ite ?_ ?_

theorem State.faultRecordWritten_leaves {W : List Span} {L : List Part} {org s : State} (m : Nat) (h : Leaves W L org s)
    (hW : Inside (one (CONV_FROZEN m) :: one (CONV_LIFE m) :: one (CONV_WRITING m) :: one (FAULT_RECORD.RECORD m) :: one (FAULT_RECORD.RECORD_CAUSE m) :: one (FAULT_RECORD.RECORD_STAMP m) :: []) W) (hL : Within ([.collector] : List Part) L) :
    Leaves W L org (State.faultRecordWritten s m) := by
  delta State.faultRecordWritten
  repeat' first
    | with_reducible assumption
    | with_reducible apply State.setN_leaves
    | with_reducible apply State.count_leaves
    | with_reducible apply State.setBlob_leaves
    | with_reducible apply State.raiseConverter_leaves
    | (with_unfolding_none refine hW.covers ?_; repeat first | with_unfolding_none exact Covered.here | with_unfolding_none refine Covered.next ?_)
    | with_unfolding_none apply hW.sub (inNil)
    | (with_reducible refine Within.trans ?_ hL; decide +kernel)
    | (extract_lets +onlyGivenNames letX; have letT : True := (by clear_value letX; guard_hyp letX : State; trivial); clear letT; refine Leaves.cut (W := W) (L := L) (r := org) (v := letX) ?_ (fun letH => ?_); (focus subst letX); rotate_left; clear_value letX; revert letX; intro _ _)
    | (extract_lets +onlyGivenNames letX; clear_value letX; revert letX; intro _)
    | with_reducible refine Leaves.ite ?_ ?_

theorem State.convLatch_leaves {W : List Span} {L : List Part} {org s : State} (m cause : Nat) (h : Leaves W L org s)
    (hW : Inside (one ASSIST_STATUS.ASSIST_CURRENT :: one ASSIST_STATUS.ASSIST_RESULT :: one ASSIST_STATUS.ASSIST_STATE :: one AS_CLOSED :: one AS_END :: one AS_TIME :: one (CONVERTER_STATUS.CONV_FLAGS m) :: one (CONVERTER_STATUS.LATCH_CAUSE m) :: one (CONVERTER_STATUS.RECORDS_SKIPPED m) :: one (CONVERTER_STATUS.STATE m) :: one (CONV_FROZEN m) :: one (CONV_LIMIT m) :: one (CONV_PHASE m) :: one (CONV_WRITING m) :: one (CWIN m) :: one (CWIN_AT m 0) :: each2 LANE_EDGE :: one (OVR_END 2) :: one (TRUNC_LONGEST m) :: one (TRUNC_SINCE m) :: one (TRUNC_TOLD_AT m) :: []) W) (hL : Within ([.collector, .shadows] : List Part) L) :
    Leaves W L org (State.convLatch s m cause) := by
  delta State.convLatch
  repeat' first
    | with_reducible assumption
    | with_reducible apply State.setN_leaves
    | with_reducible apply State.freezeRecord_leaves
    | with_reducible apply State.convLeave_leaves
    | with_reducible apply State.openShadow_leaves
    | with_reducible apply State.raiseConverter_leaves
    | (with_unfolding_none refine hW.covers ?_; repeat first | with_unfolding_none exact Covered.here | with_unfolding_none refine Covered.next ?_)
    | with_unfolding_none apply hW.sub (inSkip (inSkip (inSkip (inSkip (inSkip (inSkip (inSkip (inSkip (inBoth (inSkip (inBoth (inSkip (inSkip (inBoth inNil))))))))))))))
    | with_unfolding_none apply hW.sub (inBoth (inBoth (inBoth (inBoth (inBoth (inBoth (inBoth (inSkip (inSkip (inBoth (inSkip (inBoth (inBoth (inSkip (inBoth (inBoth (inBoth (inBoth (inBoth (inBoth (inBoth inNil)))))))))))))))))))))
    | with_unfolding_none apply hW.sub (inNil)
    | (with_reducible refine Within.trans ?_ hL; decide +kernel)
    | (extract_lets +onlyGivenNames letX; have letT : True := (by clear_value letX; guard_hyp letX : State; trivial); clear letT; refine Leaves.cut (W := W) (L := L) (r := org) (v := letX) ?_ (fun letH => ?_); (focus subst letX); rotate_left; clear_value letX; revert letX; intro _ _)
    | with_reducible refine Leaves.ite ?_ ?_

theorem State.hiccup_leaves {W : List Span} {L : List Part} {org s : State} (m : Nat) (h : Leaves W L org s)
    (hW : Inside (one ASSIST_STATUS.ASSIST_CURRENT :: one ASSIST_STATUS.ASSIST_RESULT :: one ASSIST_STATUS.ASSIST_STATE :: one AS_CLOSED :: one AS_END :: one AS_TIME :: one (CONVERTER_STATUS.CONV_FLAGS m) :: one (CONVERTER_STATUS.HICCUPS_LEFT m) :: one (CONVERTER_STATUS.HICCUP_COUNT m) :: one (CONVERTER_STATUS.LATCH_CAUSE m) :: one (CONVERTER_STATUS.RECORDS_SKIPPED m) :: one (CONVERTER_STATUS.STATE m) :: one (CONV_FROZEN m) :: one (CONV_LIMIT m) :: one (CONV_PHASE m) :: one (CONV_RESUME m) :: one (CONV_WRITING m) :: one (CWIN m) :: one (CWIN_AT m 0) :: each2 LANE_EDGE :: one (OVR_END 2) :: one (TRUNC_LONGEST m) :: one (TRUNC_SINCE m) :: one (TRUNC_TOLD_AT m) :: []) W) (hL : Within ([.collector, .shadows] : List Part) L) :
    Leaves W L org (State.hiccup s m) := by
  delta State.hiccup
  repeat' first
    | with_reducible assumption
    | with_reducible apply State.setN_leaves
    | with_reducible apply State.count_leaves
    | with_reducible apply State.convLeave_leaves
    | with_reducible apply State.raiseConverter_leaves
    | with_reducible apply State.convLatch_leaves
    | (with_unfolding_none refine hW.covers ?_; repeat first | with_unfolding_none exact Covered.here | with_unfolding_none refine Covered.next ?_)
    | with_unfolding_none apply hW.sub (inBoth (inBoth (inBoth (inBoth (inBoth (inBoth (inBoth (inSkip (inSkip (inSkip (inSkip (inBoth (inSkip (inBoth (inBoth (inSkip (inSkip (inBoth (inBoth (inBoth (inBoth (inBoth (inBoth (inBoth inNil))))))))))))))))))))))))
    | with_unfolding_none apply hW.sub (inNil)
    | with_unfolding_none apply hW.sub (inBoth (inBoth (inBoth (inBoth (inBoth (inBoth (inBoth (inSkip (inSkip (inBoth (inBoth (inBoth (inBoth (inBoth (inBoth (inSkip (inBoth (inBoth (inBoth (inBoth (inBoth (inBoth (inBoth (inBoth inNil))))))))))))))))))))))))
    | (with_reducible refine Within.trans ?_ hL; decide +kernel)
    | (extract_lets +onlyGivenNames letX; have letT : True := (by clear_value letX; guard_hyp letX : State; trivial); clear letT; refine Leaves.cut (W := W) (L := L) (r := org) (v := letX) ?_ (fun letH => ?_); (focus subst letX); rotate_left; clear_value letX; revert letX; intro _ _)
    | (extract_lets +onlyGivenNames letX; clear_value letX; revert letX; intro _)
    | with_reducible refine Leaves.ite ?_ ?_

theorem State.limitCount_leaves {W : List Span} {L : List Part} {org s : State} (m : Nat) (atMax : Bool) (h : Leaves W L org s)
    (hW : Inside (one ASSIST_STATUS.ASSIST_CURRENT :: one ASSIST_STATUS.ASSIST_RESULT :: one ASSIST_STATUS.ASSIST_STATE :: one AS_CLOSED :: one AS_END :: one AS_TIME :: one (CONVERTER_STATUS.CONV_FLAGS m) :: one (CONVERTER_STATUS.HICCUPS_LEFT m) :: one (CONVERTER_STATUS.HICCUP_COUNT m) :: one (CONVERTER_STATUS.LATCH_CAUSE m) :: one (CONVERTER_STATUS.RECORDS_SKIPPED m) :: one (CONVERTER_STATUS.STATE m) :: one (CONV_CUT_LANES m) :: one (CONV_FROZEN m) :: one (CONV_LIMIT m) :: one (CONV_PHASE m) :: one (CONV_RESUME m) :: one (CONV_WRITING m) :: one (CWIN m) :: one (CWIN_AT m 0) :: each2 LANE_EDGE :: one (OVR_END 2) :: one (TRUNC_LONGEST m) :: one (TRUNC_SINCE m) :: one (TRUNC_TOLD_AT m) :: []) W) (hL : Within ([.collector, .shadows] : List Part) L) :
    Leaves W L org (State.limitCount s m atMax) := by
  delta State.limitCount
  repeat' first
    | with_reducible assumption
    | with_reducible apply State.setN_leaves
    | with_reducible apply State.hiccup_leaves
    | (with_unfolding_none refine hW.covers ?_; repeat first | with_unfolding_none exact Covered.here | with_unfolding_none refine Covered.next ?_)
    | with_unfolding_none apply hW.sub (inBoth (inBoth (inBoth (inBoth (inBoth (inBoth (inBoth (inBoth (inBoth (inBoth (inBoth (inBoth (inSkip (inBoth (inBoth (inBoth (inBoth (inBoth (inBoth (inBoth (inBoth (inBoth (inBoth (inBoth (inBoth inNil)))))))))))))))))))))))))
    | (with_reducible refine Within.trans ?_ hL; decide +kernel)
    | (extract_lets +onlyGivenNames letX; have letT : True := (by clear_value letX; guard_hyp letX : State; trivial); clear letT; refine Leaves.cut (W := W) (L := L) (r := org) (v := letX) ?_ (fun letH => ?_); (focus subst letX); rotate_left; clear_value letX; revert letX; intro _ _)
    | (extract_lets +onlyGivenNames letX; clear_value letX; revert letX; intro _)
    | with_reducible refine Leaves.ite ?_ ?_

theorem State.convStale_leaves {W : List Span} {L : List Part} {org s : State} (m : Nat) (h : Leaves W L org s)
    (hW : Inside (one (CONVERTER_STATUS.CONV_FLAGS m) :: []) W) :
    Leaves W L org (State.convStale s m) := by
  delta State.convStale
  repeat' first
    | with_reducible assumption
    | with_reducible apply State.setConvFlag_leaves
    | with_unfolding_none apply hW.sub (inBoth inNil)

theorem State.loopCycle_leaves {W : List Span} {L : List Part} {org s : State} (m : Nat) (samples : List Int) (h : Leaves W L org s)
    (hW : Inside (one (CONVERTER_STATUS.CONV_FLAGS m) :: one (CONVERTER_STATUS.IREF m) :: one (CONV_CYCLES m) :: one (CONV_E m 0) :: one (CONV_E m 1) :: one (CONV_E m 2) :: one (CONV_SCNT m) :: one (CONV_SUM m) :: one (CONV_Y m 0) :: one (CONV_Y m 1) :: one (CONV_Y m 2) :: each LANE_STATUS.I_REF :: []) W) :
    Leaves W L org (State.loopCycle s m samples) := by
  delta State.loopCycle
  repeat' first
    | with_reducible assumption
    | with_reducible apply State.set_leaves
    | with_reducible apply State.setN_leaves
    | with_reducible apply State.voltageLoop_leaves
    | (with_unfolding_none refine hW.covers ?_; repeat first | with_unfolding_none exact Covered.here | with_unfolding_none refine Covered.next ?_)
    | with_unfolding_none apply hW.sub (inBoth (inBoth (inSkip (inBoth (inBoth (inBoth (inSkip (inSkip (inBoth (inBoth (inBoth (inBoth inNil))))))))))))
    | (extract_lets +onlyGivenNames letX; have letT : True := (by clear_value letX; guard_hyp letX : State; trivial); clear letT; refine Leaves.cut (W := W) (L := L) (r := org) (v := letX) ?_ (fun letH => ?_); (focus subst letX); rotate_left; clear_value letX; revert letX; intro _ _)
    | with_reducible refine Leaves.ite ?_ ?_

theorem State.cycleFlags_leaves {W : List Span} {L : List Part} {org s : State} (m : Nat) (h : Leaves W L org s)
    (hW : Inside (one (CONVERTER_STATUS.CONV_FLAGS m) :: one (CONV_CUT m) :: []) W) :
    Leaves W L org (State.cycleFlags s m) := by
  delta State.cycleFlags
  repeat' first
    | with_reducible assumption
    | with_reducible apply State.setN_leaves
    | with_reducible apply State.setConvFlag_leaves
    | (with_unfolding_none refine hW.covers ?_; repeat first | with_unfolding_none exact Covered.here | with_unfolding_none refine Covered.next ?_)
    | with_unfolding_none apply hW.sub (inBoth inNil)
    | (extract_lets +onlyGivenNames letX; have letT : True := (by clear_value letX; guard_hyp letX : State; trivial); clear letT; refine Leaves.cut (W := W) (L := L) (r := org) (v := letX) ?_ (fun letH => ?_); (focus subst letX); rotate_left; clear_value letX; revert letX; intro _ _)

theorem State.converterCycleEnd_leaves {W : List Span} {L : List Part} {org s : State} (m : Nat) (samples : List Int) (h : Leaves W L org s)
    (hW : Inside (one ASSIST_STATUS.ASSIST_CURRENT :: one ASSIST_STATUS.ASSIST_RESULT :: one ASSIST_STATUS.ASSIST_STATE :: one AS_CLOSED :: one AS_END :: one AS_TIME :: one (CONVERTER_STATUS.CONV_FLAGS m) :: one (CONVERTER_STATUS.HICCUPS_LEFT m) :: one (CONVERTER_STATUS.HICCUP_COUNT m) :: one (CONVERTER_STATUS.IREF m) :: one (CONVERTER_STATUS.LATCH_CAUSE m) :: one (CONVERTER_STATUS.RECORDS_SKIPPED m) :: one (CONVERTER_STATUS.STATE m) :: one (CONVERTER_STATUS.VREF m) :: one (CONV_CUT m) :: one (CONV_CUT_LANES m) :: one (CONV_CYCLE8 m) :: one (CONV_CYCLES m) :: one (CONV_E m 0) :: one (CONV_E m 1) :: one (CONV_E m 2) :: one (CONV_FROZEN m) :: one (CONV_LAST m) :: one (CONV_LIMIT m) :: one (CONV_PHASE m) :: one (CONV_REF_AT m) :: one (CONV_RESUME m) :: one (CONV_RING m) :: one (CONV_RUN_AT m) :: one (CONV_SCNT m) :: one (CONV_SUM m) :: each2 CONV_VCNT :: each2 CONV_VSUM :: one (CONV_WRITING m) :: one (CONV_Y m 0) :: one (CONV_Y m 1) :: one (CONV_Y m 2) :: one (CWIN m) :: one (CWIN_AT m 0) :: each2 LANE_EDGE :: each LANE_STATUS.I_REF :: one (OVR_END 2) :: one (TRUNC_LONGEST m) :: one (TRUNC_SINCE m) :: one (TRUNC_TOLD_AT m) :: []) W) (hL : Within ([.collector, .shadows] : List Part) L) :
    Leaves W L org (State.converterCycleEnd s m samples) := by
  delta State.converterCycleEnd
  repeat' first
    | with_reducible assumption
    | with_reducible apply State.outSamples_leaves
    | with_reducible apply State.convLatch_leaves
    | with_reducible apply State.moveReference_leaves
    | with_reducible apply State.convLower_leaves
    | with_reducible apply State.loopCycle_leaves
    | with_reducible apply State.cycleFlags_leaves
    | with_reducible apply State.convRing_leaves
    | with_reducible apply State.limitCount_leaves
    | with_unfolding_none apply hW.sub (inSkip (inSkip (inSkip (inSkip (inSkip (inSkip (inBoth (inSkip (inSkip (inSkip (inSkip (inSkip (inSkip (inSkip (inSkip (inSkip (inSkip (inSkip (inSkip (inSkip (inSkip (inSkip (inBoth (inSkip (inSkip (inSkip (inSkip (inSkip (inSkip (inSkip (inSkip (inBoth (inBoth inNil)))))))))))))))))))))))))))))))))
    | with_unfolding_none apply hW.sub (inBoth (inBoth (inBoth (inBoth (inBoth (inBoth (inBoth (inSkip (inSkip (inSkip (inBoth (inBoth (inBoth (inSkip (inSkip (inSkip (inSkip (inSkip (inSkip (inSkip (inSkip (inBoth (inSkip (inBoth (inBoth (inSkip (inSkip (inSkip (inSkip (inSkip (inSkip (inSkip (inSkip (inBoth (inSkip (inSkip (inSkip (inBoth (inBoth (inBoth (inSkip (inBoth (inBoth (inBoth (inBoth inNil)))))))))))))))))))))))))))))))))))))))))))))
    | with_unfolding_none apply hW.sub (inSkip (inSkip (inSkip (inSkip (inSkip (inSkip (inBoth (inSkip (inSkip (inSkip (inSkip (inSkip (inBoth (inBoth (inSkip (inSkip (inSkip (inSkip (inSkip (inSkip (inSkip (inSkip (inSkip (inSkip (inSkip (inBoth (inSkip (inSkip (inBoth inNil)))))))))))))))))))))))))))))
    | with_unfolding_none apply hW.sub (inSkip (inSkip (inSkip (inSkip (inSkip (inSkip (inSkip (inSkip (inSkip (inSkip (inSkip (inSkip (inSkip (inSkip (inSkip (inSkip (inSkip (inSkip (inSkip (inSkip (inSkip (inSkip (inSkip (inSkip (inSkip (inSkip (inSkip (inSkip (inSkip (inSkip (inSkip (inSkip (inSkip (inSkip (inSkip (inSkip (inSkip (inBoth (inBoth inNil)))))))))))))))))))))))))))))))))))))))
    | with_unfolding_none apply hW.sub (inSkip (inSkip (inSkip (inSkip (inSkip (inSkip (inBoth (inSkip (inSkip (inBoth (inSkip (inSkip (inSkip (inSkip (inSkip (inSkip (inSkip (inBoth (inBoth (inBoth (inBoth (inSkip (inSkip (inSkip (inSkip (inSkip (inSkip (inSkip (inSkip (inBoth (inBoth (inSkip (inSkip (inSkip (inBoth (inBoth (inBoth (inSkip (inSkip (inSkip (inBoth inNil)))))))))))))))))))))))))))))))))))))))))
    | with_unfolding_none apply hW.sub (inSkip (inSkip (inSkip (inSkip (inSkip (inSkip (inBoth (inSkip (inSkip (inSkip (inSkip (inSkip (inSkip (inSkip (inBoth inNil)))))))))))))))
    | with_unfolding_none apply hW.sub (inSkip (inSkip (inSkip (inSkip (inSkip (inSkip (inSkip (inSkip (inSkip (inSkip (inSkip (inSkip (inSkip (inSkip (inSkip (inSkip (inBoth (inSkip (inSkip (inSkip (inSkip (inSkip (inSkip (inSkip (inSkip (inSkip (inSkip (inBoth inNil))))))))))))))))))))))))))))
    | with_unfolding_none apply hW.sub (inBoth (inBoth (inBoth (inBoth (inBoth (inBoth (inBoth (inBoth (inBoth (inSkip (inBoth (inBoth (inBoth (inSkip (inSkip (inBoth (inSkip (inSkip (inSkip (inSkip (inSkip (inBoth (inSkip (inBoth (inBoth (inSkip (inBoth (inSkip (inSkip (inSkip (inSkip (inSkip (inSkip (inBoth (inSkip (inSkip (inSkip (inBoth (inBoth (inBoth (inSkip (inBoth (inBoth (inBoth (inBoth inNil)))))))))))))))))))))))))))))))))))))))))))))
    | (with_reducible refine Within.trans ?_ hL; decide +kernel)
    | (extract_lets +onlyGivenNames letX; have letT : True := (by clear_value letX; guard_hyp letX : State; trivial); clear letT; refine Leaves.cut (W := W) (L := L) (r := org) (v := letX) ?_ (fun letH => ?_); (focus subst letX); rotate_left; clear_value letX; revert letX; intro _ _)
    | (extract_lets +onlyGivenNames letX; clear_value letX; revert letX; intro _)
    | with_reducible refine Leaves.ite ?_ ?_

theorem State.laneSample_leaves {W : List Span} {L : List Part} {org s : State} (l : Nat) (i : Int) (h : Leaves W L org s)
    (hW : Inside (one (LANE_I l) :: each2 LANE_ICNT :: each2 LANE_ISUM :: each2 LANE_RSUM :: []) W) :
    Leaves W L org (State.laneSample s l i) := by
  delta State.laneSample
  repeat' first
    | with_reducible assumption
    | with_reducible apply State.set_leaves
    | with_reducible apply State.setN_leaves
    | (with_unfolding_none refine hW.covers ?_; repeat first | with_unfolding_none exact Covered.here | with_unfolding_none exact LANE_ICNT_in | with_unfolding_none exact LANE_ISUM_in | with_unfolding_none exact LANE_RSUM_in | with_unfolding_none refine Covered.next ?_)
    | (extract_lets +onlyGivenNames letX; have letT : True := (by clear_value letX; guard_hyp letX : State; trivial); clear letT; refine Leaves.cut (W := W) (L := L) (r := org) (v := letX) ?_ (fun letH => ?_); (focus subst letX); rotate_left; clear_value letX; revert letX; intro _ _)
    | (extract_lets +onlyGivenNames letX; clear_value letX; revert letX; intro _)

theorem State.lanePeriodEnd_leaves {W : List Span} {L : List Part} {org s : State} (l : Nat) (vcs vs : Int) (h : Leaves W L org s)
    (hW : Inside (each CONVERTER_STATUS.CONV_FLAGS :: one (LANE_E l 0) :: one (LANE_E l 1) :: each2 LANE_EDGE :: one (LANE_EXTRA l) :: one (LANE_FROM l) :: one (LANE_FROM (l + 1)) :: one (LANE_HELD l) :: one (LANE_I l) :: each2 LANE_ICNT :: each2 LANE_ISUM :: one (LANE_NEXT l) :: one (LANE_OFFSET l) :: each2 LANE_RSUM :: one (LANE_STATUS.DUTY l) :: one (LANE_U l 0) :: one (LANE_U l 1) :: each TRUNC_LONGEST :: each TRUNC_SINCE :: each TRUNC_TOLD_AT :: []) W) (hL : Within ([.collector] : List Part) L) :
    Leaves W L org (State.lanePeriodEnd s l vcs vs) := by
  delta State.lanePeriodEnd
  repeat' first
    | with_reducible assumption
    | with_reducible apply State.set_leaves
    | with_reducible apply State.laneSample_leaves
    | with_reducible apply State.truncationEnds_leaves
    | with_reducible apply State.planEdges_leaves
    | with_reducible apply State.laneBegins_leaves
    | with_reducible apply State.currentLoop_leaves
    | with_reducible apply State.laneParks_leaves
    | (with_unfolding_none refine hW.covers ?_; repeat first | with_unfolding_none exact Covered.here | with_unfolding_none refine Covered.next ?_)
    | with_unfolding_none apply hW.sub (inSkip (inSkip (inSkip (inSkip (inSkip (inSkip (inSkip (inSkip (inBoth (inBoth (inBoth (inSkip (inSkip (inBoth inNil))))))))))))))
    | with_unfolding_none apply hW.sub (CONVERTER_STATUS.CONV_FLAGS_wide (inSkip (inSkip (inSkip (inSkip (inSkip (inSkip (inSkip (inSkip (inSkip (inSkip (inSkip (inSkip (inSkip (inSkip (inSkip (inSkip (inSkip (TRUNC_LONGEST_wide (inSkip (TRUNC_SINCE_wide (inSkip (TRUNC_TOLD_AT_wide inNil)))))))))))))))))))))))
    | with_unfolding_none apply hW.sub (inSkip (inSkip (inSkip (inBoth (inBoth (inBoth (inBoth inNil)))))))
    | with_unfolding_none apply hW.sub (inSkip (inSkip (inSkip (inBoth (inBoth (inBoth (inBoth (inBoth (inSkip (inSkip (inSkip (inSkip (inBoth inNil)))))))))))))
    | with_unfolding_none apply hW.sub (inSkip (inBoth (inBoth (inSkip (inSkip (inSkip (inSkip (inSkip (inSkip (inSkip (inSkip (inSkip (inSkip (inSkip (inBoth (inBoth (inBoth inNil)))))))))))))))))
    | with_unfolding_none apply hW.sub (inSkip (inSkip (inSkip (inBoth (inSkip (inSkip (inSkip (inSkip (inSkip (inSkip (inSkip (inSkip (inBoth inNil)))))))))))))
    | (with_reducible refine Within.trans ?_ hL; decide +kernel)
    | (extract_lets +onlyGivenNames letX; have letT : True := (by clear_value letX; guard_hyp letX : State; trivial); clear letT; refine Leaves.cut (W := W) (L := L) (r := org) (v := letX) ?_ (fun letH => ?_); (focus subst letX); rotate_left; clear_value letX; revert letX; intro _ _)
    | (extract_lets +onlyGivenNames letX; clear_value letX; revert letX; intro _)
    | with_reducible refine Leaves.ite ?_ ?_

theorem State.truncate_leaves {W : List Span} {L : List Part} {org s : State} (m : Nat) (steps : List Nat) (h : Leaves W L org s)
    (hW : Inside (one (CONVERTER_STATUS.CONV_FLAGS m) :: one (CONVERTER_STATUS.TRUNC_EPISODES m) :: each2 LANE_EDGE :: one (TRUNC_AT m) :: []) W) :
    Leaves W L org (State.truncate s m steps) := by
  delta State.truncate
  repeat' first
    | with_reducible assumption
    | with_reducible apply State.setN_leaves
    | with_reducible apply State.count_leaves
    | with_reducible apply State.setConvFlag_leaves
    | with_reducible apply State.laneCut_leaves
    | (with_unfolding_none refine hW.covers ?_; repeat first | with_unfolding_none exact Covered.here | with_unfolding_none refine Covered.next ?_)
    | with_unfolding_none apply hW.sub (inBoth inNil)
    | with_unfolding_none apply hW.sub (inSkip (inSkip (inBoth inNil)))
    | (extract_lets +onlyGivenNames letX; have letT : True := (by clear_value letX; guard_hyp letX : State; trivial); clear letT; refine Leaves.cut (W := W) (L := L) (r := org) (v := letX) ?_ (fun letH => ?_); (focus subst letX); rotate_left; clear_value letX; revert letX; intro _ _)
    | with_reducible refine forEach_leaves ?_ (fun _ _ _ => ?_)

theorem State.truncationCrossing_leaves {W : List Span} {L : List Part} {org s : State} (m : Nat) (vs : Int) (steps : List Nat) (h : Leaves W L org s)
    (hW : Inside (one (CONVERTER_STATUS.CONV_FLAGS m) :: one (CONVERTER_STATUS.TRUNC_EPISODES m) :: each2 LANE_EDGE :: one (TRUNC_AT m) :: []) W) (hL : Within ([.free] : List Part) L) :
    Leaves W L org (State.truncationCrossing s m vs steps) := by
  delta State.truncationCrossing
  repeat' first
    | with_reducible assumption
    | with_reducible apply State.takeFreeIn_leaves
    | with_reducible apply State.truncate_leaves
    | with_unfolding_none apply hW.sub (inBoth (inBoth (inBoth (inBoth inNil))))
    | (with_reducible refine Within.trans ?_ hL; decide +kernel)
    | with_reducible exact hL _ (by decide +kernel)
    | (extract_lets +onlyGivenNames letX; have letT : True := (by clear_value letX; revert letX; with_reducible exact Keeps.isPair); clear letT; refine Leaves.cut (W := W) (L := L) (r := org) (v := letX.2) ?_ (fun letH => ?_); (focus subst letX); rotate_left; clear_value letX; revert letX; intro _ _)
    | (extract_lets +onlyGivenNames letX; clear_value letX; revert letX; intro _)
    | with_reducible refine Leaves.iteP ?_ ?_
    | with_reducible refine Leaves.ite ?_ ?_

theorem State.truncationLatch_leaves {W : List Span} {L : List Part} {org s : State} (m : Nat) (h : Leaves W L org s)
    (hW : Inside (one ASSIST_STATUS.ASSIST_CURRENT :: one ASSIST_STATUS.ASSIST_RESULT :: one ASSIST_STATUS.ASSIST_STATE :: one AS_CLOSED :: one AS_END :: one AS_TIME :: one (CONVERTER_STATUS.CONV_FLAGS m) :: one (CONVERTER_STATUS.LATCH_CAUSE m) :: one (CONVERTER_STATUS.RECORDS_SKIPPED m) :: one (CONVERTER_STATUS.STATE m) :: one (CONV_FROZEN m) :: one (CONV_LIMIT m) :: one (CONV_PHASE m) :: one (CONV_WRITING m) :: one (CWIN m) :: one (CWIN_AT m 0) :: each2 LANE_EDGE :: one (OVR_END 2) :: one (TRUNC_LONGEST m) :: one (TRUNC_SINCE m) :: one (TRUNC_TOLD_AT m) :: []) W) (hL : Within ([.collector, .shadows] : List Part) L) :
    Leaves W L org (State.truncationLatch s m) := by
  delta State.truncationLatch
  repeat' first
    | with_reducible assumption
    | with_reducible apply State.convLatch_leaves
    | with_unfolding_none apply hW.sub (inBoth (inBoth (inBoth (inBoth (inBoth (inBoth (inBoth (inBoth (inBoth (inBoth (inBoth (inBoth (inBoth (inBoth (inBoth (inBoth (inBoth (inBoth (inBoth (inBoth (inBoth inNil)))))))))))))))))))))
    | (with_reducible refine Within.trans ?_ hL; decide +kernel)
    | (extract_lets +onlyGivenNames letX; clear_value letX; revert letX; intro _)
    | with_reducible refine Leaves.ite ?_ ?_

theorem State.peakCut_leaves {W : List Span} {L : List Part} {org s : State} (l step : Nat) (vcs : Int) (h : Leaves W L org s)
    (hW : Inside (each CONV_CUT :: each CONV_CUT_LANES :: each2 LANE_EDGE :: one (LANE_STATUS.PEAK_CUTS l) :: []) W) :
    Leaves W L org (State.peakCut s l step vcs) := by
  delta State.peakCut
  repeat' first
    | with_reducible assumption
    | with_reducible apply State.setN_leaves
    | with_reducible apply State.setBit_leaves
    | with_reducible apply State.count_leaves
    | with_reducible apply State.intervalCut_leaves
    | with_reducible apply State.laneCut_leaves
    | (with_unfolding_none refine hW.covers ?_; repeat first | with_unfolding_none exact Covered.here | with_unfolding_none exact CONV_CUT_in | with_unfolding_none exact CONV_CUT_LANES_in | with_unfolding_none refine Covered.next ?_)
    | with_unfolding_none apply hW.sub (inSkip (inSkip (inBoth inNil)))
    | (extract_lets +onlyGivenNames letX; have letT : True := (by clear_value letX; guard_hyp letX : State; trivial); clear letT; refine Leaves.cut (W := W) (L := L) (r := org) (v := letX) ?_ (fun letH => ?_); (focus subst letX); rotate_left; clear_value letX; revert letX; intro _ _)
    | (extract_lets +onlyGivenNames letX; clear_value letX; revert letX; intro _)
    | with_reducible refine Leaves.ite ?_ ?_

theorem State.hiccupResume_leaves {W : List Span} {L : List Part} {org s : State} (m : Nat) (samples off : List Int) (h : Leaves W L org s)
    (hW : Inside (one (CONVERTER_STATUS.CONV_FLAGS m) :: one (CONV_LAST m) :: one (CONV_PHASE m) :: one (CONV_T0 m) :: one (CONV_V0 m) :: each2 CONV_VCNT :: each2 CONV_VSUM :: each LANE_STATUS.ADC_OFFSET :: []) W) :
    Leaves W L org (State.hiccupResume s m samples off) := by
  delta State.hiccupResume
  repeat' first
    | with_reducible assumption
    | with_reducible apply State.set_leaves
    | with_reducible apply State.setN_leaves
    | with_reducible apply State.outSamples_leaves
    | with_reducible apply State.storeOffsets_leaves
    | (with_unfolding_none refine hW.covers ?_; repeat first | with_unfolding_none exact Covered.here | with_unfolding_none refine Covered.next ?_)
    | with_unfolding_none apply hW.sub (inBoth (inBoth (inSkip (inSkip (inSkip (inBoth (inBoth inNil)))))))
    | with_unfolding_none apply hW.sub (inSkip (inSkip (inSkip (inSkip (inSkip (inSkip (inSkip (inBoth inNil))))))))
    | (extract_lets +onlyGivenNames letX; have letT : True := (by clear_value letX; guard_hyp letX : State; trivial); clear letT; refine Leaves.cut (W := W) (L := L) (r := org) (v := letX) ?_ (fun letH => ?_); (focus subst letX); rotate_left; clear_value letX; revert letX; intro _ _)
    | with_reducible refine Leaves.ite ?_ ?_

theorem State.hiccupReset_leaves {W : List Span} {L : List Part} {org s : State} (m : Nat) (h : Leaves W L org s)
    (hW : Inside (one (CONVERTER_STATUS.HICCUPS_LEFT m) :: []) W) :
    Leaves W L org (State.hiccupReset s m) := by
  delta State.hiccupReset
  repeat' first
    | with_reducible assumption
    | with_reducible apply State.setN_leaves
    | (with_unfolding_none refine hW.covers ?_; repeat first | with_unfolding_none exact Covered.here | with_unfolding_none refine Covered.next ?_)
    | with_reducible refine Leaves.ite ?_ ?_

theorem State.shareImbalance_leaves {W : List Span} {L : List Part} {org s : State} (l : Nat) (h : Leaves W L org s)
    (hW : Inside (each CONVERTER_STATUS.CONV_FLAGS :: one (SHARE_SET l) :: []) W) (hL : Within ([.collector] : List Part) L) :
    Leaves W L org (State.shareImbalance s l) := by
  delta State.shareImbalance
  repeat' first
    | with_reducible assumption
    | with_reducible apply State.setN_leaves
    | with_reducible apply State.setConvFlag_leaves
    | with_reducible apply State.raise_leaves
    | (with_unfolding_none refine hW.covers ?_; repeat first | with_unfolding_none exact Covered.here | with_unfolding_none refine Covered.next ?_)
    | with_unfolding_none apply hW.sub (CONVERTER_STATUS.CONV_FLAGS_wide inNil)
    | with_unfolding_none apply hW.sub (inNil)
    | (with_reducible refine Within.trans ?_ hL; decide +kernel)
    | (extract_lets +onlyGivenNames letX; clear_value letX; revert letX; intro _)
    | with_reducible refine Leaves.ite ?_ ?_

theorem State.shareBoundary_leaves {W : List Span} {L : List Part} {org s : State} (l : Nat) (i r : Int) (h : Leaves W L org s)
    (hW : Inside (each CONVERTER_STATUS.CONV_FLAGS :: one (SHARE_IN l) :: one (SHARE_OUT l) :: one (SHARE_SET l) :: []) W) :
    Leaves W L org (State.shareBoundary s l i r) := by
  delta State.shareBoundary
  repeat' first
    | with_reducible assumption
    | with_reducible apply State.setN_leaves
    | with_reducible apply State.setConvFlag_leaves
    | (with_unfolding_none refine hW.covers ?_; repeat first | with_unfolding_none exact Covered.here | with_unfolding_none refine Covered.next ?_)
    | with_unfolding_none apply hW.sub (CONVERTER_STATUS.CONV_FLAGS_wide inNil)
    | (extract_lets +onlyGivenNames letX; have letT : True := (by clear_value letX; guard_hyp letX : State; trivial); clear letT; refine Leaves.cut (W := W) (L := L) (r := org) (v := letX) ?_ (fun letH => ?_); (focus subst letX); rotate_left; clear_value letX; revert letX; intro _ _)
    | (extract_lets +onlyGivenNames letX; clear_value letX; revert letX; intro _)
    | with_reducible refine Leaves.ite ?_ ?_

theorem State.laneBoundary_leaves {W : List Span} {L : List Part} {org s : State} (l : Nat) (h : Leaves W L org s)
    (hW : Inside (each CONVERTER_STATUS.CONV_FLAGS :: one (LANE_STATUS.I_MEAN l) :: one (SHARE_IN l) :: one (SHARE_OUT l) :: one (SHARE_SET l) :: []) W) :
    Leaves W L org (State.laneBoundary s l) := by
  delta State.laneBoundary
  repeat' first
    | with_reducible assumption
    | with_reducible apply State.set_leaves
    | with_reducible apply State.setN_leaves
    | with_reducible apply State.shareBoundary_leaves
    | (with_unfolding_none refine hW.covers ?_; repeat first | with_unfolding_none exact Covered.here | with_unfolding_none refine Covered.next ?_)
    | with_unfolding_none apply hW.sub (inBoth (inSkip (inBoth (inBoth (inBoth inNil)))))
    | split
    | with_reducible refine Leaves.ofPair (by assumption) ?_

theorem State.convBoundary_leaves {W : List Span} {L : List Part} {org s : State} (m : Nat) (h : Leaves W L org s)
    (hW : Inside (one (CONVERTER_STATUS.CONV_FLAGS m) :: one (CONVERTER_STATUS.IOUT m) :: one (CONVERTER_STATUS.VOUT m) :: one (CONVERTER_STATUS.VOUT_INST m) :: []) W) :
    Leaves W L org (State.convBoundary s m) := by
  delta State.convBoundary
  repeat' first
    | with_reducible assumption
    | with_reducible apply State.set_leaves
    | with_reducible apply State.convStale_leaves
    | (with_unfolding_none refine hW.covers ?_; repeat first | with_unfolding_none exact Covered.here | with_unfolding_none refine Covered.next ?_)
    | with_unfolding_none apply hW.sub (inBoth inNil)
    | (extract_lets +onlyGivenNames letX; have letT : True := (by clear_value letX; guard_hyp letX : State; trivial); clear letT; refine Leaves.cut (W := W) (L := L) (r := org) (v := letX) ?_ (fun letH => ?_); (focus subst letX); rotate_left; clear_value letX; revert letX; intro _ _)
    | (extract_lets +onlyGivenNames letX; clear_value letX; revert letX; intro _)
    | with_reducible refine Leaves.ite ?_ ?_

theorem State.convertersBoundary_leaves {W : List Span} {L : List Part} {org s : State} (h : Leaves W L org s)
    (hW : Inside (each CONVERTER_STATUS.CONV_FLAGS :: each CONVERTER_STATUS.IOUT :: each CONVERTER_STATUS.VOUT :: each CONVERTER_STATUS.VOUT_INST :: each2 CONV_VCNT :: each2 CONV_VSUM :: each2 LANE_ICNT :: each2 LANE_ISUM :: each2 LANE_RSUM :: each LANE_STATUS.I_MEAN :: each SHARE_IN :: each SHARE_OUT :: each SHARE_SET :: []) W) :
    Leaves W L org (State.convertersBoundary s) := by
  delta State.convertersBoundary
  repeat' first
    | with_reducible assumption
    | with_reducible apply State.set_leaves
    | with_reducible apply State.setN_leaves
    | with_reducible apply State.convBoundary_leaves
    | with_reducible apply State.laneBoundary_leaves
    | (with_unfolding_none refine hW.covers ?_; repeat first | with_unfolding_none exact Covered.here | with_unfolding_none exact CONV_VCNT_in | with_unfolding_none exact CONV_VSUM_in | with_unfolding_none exact LANE_ICNT_in | with_unfolding_none exact LANE_ISUM_in | with_unfolding_none exact LANE_RSUM_in | with_unfolding_none refine Covered.next ?_)
    | with_unfolding_none apply hW.sub (CONVERTER_STATUS.CONV_FLAGS_wide (inSkip (CONVERTER_STATUS.IOUT_wide (inSkip (CONVERTER_STATUS.VOUT_wide (inSkip (CONVERTER_STATUS.VOUT_INST_wide inNil)))))))
    | with_unfolding_none apply hW.sub (inBoth (inSkip (inSkip (inSkip (inSkip (inSkip (inSkip (inSkip (inSkip (LANE_STATUS.I_MEAN_wide (inSkip (SHARE_IN_wide (inSkip (SHARE_OUT_wide (inSkip (SHARE_SET_wide inNil))))))))))))))))
    | (extract_lets +onlyGivenNames letX; have letT : True := (by clear_value letX; guard_hyp letX : State; trivial); clear letT; refine Leaves.cut (W := W) (L := L) (r := org) (v := letX) ?_ (fun letH => ?_); (focus subst letX); rotate_left; clear_value letX; revert letX; intro _ _)
    | (extract_lets +onlyGivenNames letX; clear_value letX; revert letX; intro _)
    | with_reducible refine forBelow_leaves ?_ (fun _ _ _ => ?_)

theorem State.convHouseStop_leaves {W : List Span} {L : List Part} {org s : State} (kind site : Nat) (h : Leaves W L org s)
    (hW : Inside (one ASSIST_STATUS.ASSIST_CURRENT :: one ASSIST_STATUS.ASSIST_RESULT :: one ASSIST_STATUS.ASSIST_STATE :: one AS_CLOSED :: one AS_END :: one AS_TIME :: each CONVERTER.ENABLE :: each CONVERTER_STATUS.CONV_FLAGS :: each CONVERTER_STATUS.RECORDS_SKIPPED :: each CONVERTER_STATUS.STATE :: each CONV_FROZEN :: each CONV_LIMIT :: each CONV_PHASE :: each CONV_WRITING :: each CWIN :: each2 CWIN_AT :: each2 LANE_EDGE :: one (OVR_END 2) :: each TRUNC_LONGEST :: each TRUNC_SINCE :: each TRUNC_TOLD_AT :: (each fun n => inForce (CONVERTER.ENABLE n)) :: []) W) (hL : Within ([.collector, .shadows] : List Part) L) :
    Leaves W L org (State.convHouseStop s kind site) := by
  delta State.convHouseStop
  repeat' first
    | with_reducible assumption
    | with_reducible apply State.setN_leaves
    | with_reducible apply State.freezeRecord_leaves
    | with_reducible apply State.convLeave_leaves
    | (with_unfolding_none refine hW.covers ?_; repeat first | with_unfolding_none exact Covered.here | with_unfolding_none exact CONVERTER.ENABLE_in | with_unfolding_none exact CONV_PHASE_in | with_unfolding_none exact inForce_CONVERTER.ENABLE_in | with_unfolding_none refine Covered.next ?_)
    | with_unfolding_none apply hW.sub (inSkip (inSkip (inSkip (inSkip (inSkip (inSkip (inSkip (inSkip (CONVERTER_STATUS.RECORDS_SKIPPED_wide (inSkip (inSkip (CONV_FROZEN_wide (inSkip (inSkip (inSkip (CONV_WRITING_wide inNil))))))))))))))))
    | with_unfolding_none apply hW.sub (inBoth (inBoth (inBoth (inBoth (inBoth (inBoth (inSkip (CONVERTER_STATUS.CONV_FLAGS_wide (inSkip (inSkip (CONVERTER_STATUS.STATE_wide (inSkip (inSkip (CONV_LIMIT_wide (inSkip (CONV_PHASE_wide (inSkip (inSkip (CWIN_wide (inSkip (CWIN_AT_wide (inSkip (inBoth (inBoth (TRUNC_LONGEST_wide (inSkip (TRUNC_SINCE_wide (inSkip (TRUNC_TOLD_AT_wide inNil)))))))))))))))))))))))))))))
    | (with_reducible refine Within.trans ?_ hL; decide +kernel)
    | (extract_lets +onlyGivenNames letX; have letT : True := (by clear_value letX; guard_hyp letX : State; trivial); clear letT; refine Leaves.cut (W := W) (L := L) (r := org) (v := letX) ?_ (fun letH => ?_); (focus subst letX); rotate_left; clear_value letX; revert letX; intro _ _)
    | with_reducible refine Leaves.ite ?_ ?_
    | with_reducible refine forBelow_leaves ?_ (fun _ _ _ => ?_)

theorem execConverterStartCheck_frame {W : List Span} {L : List Part} {org s : State} (m : Conv) (samples offsets : List Int) (h : Leaves W L org s)
    (hW : Inside (one (CONVERTER.ENABLE m) :: one (CONVERTER_STATUS.CONV_FLAGS m) :: one (CONVERTER_STATUS.START_REFUSE_REASON m) :: one (CONV_LAST m) :: one (CONV_PHASE m) :: one (CONV_V0 m) :: each2 CONV_VCNT :: each2 CONV_VSUM :: each LANE_STATUS.ADC_OFFSET :: one (inForce (CONVERTER.ENABLE m)) :: []) W)
    (hL : Within ([.collector] : List Part) L) : RunsIn W L org (execConverterStartCheck m samples offsets s) := by
  delta execConverterStartCheck
  repeat' first
    | with_reducible assumption
    | with_reducible refine RunsIn.next ?_
    | with_reducible apply State.converterStartCheck_leaves
    | with_unfolding_none apply hW.sub (inBoth (inBoth (inBoth (inBoth (inBoth (inBoth (inBoth (inBoth (inBoth (inBoth inNil))))))))))

theorem execConverterCycleEnd_frame {W : List Span} {L : List Part} {org s : State} (m : Conv) (samples : List Int) (h : Leaves W L org s)
    (hW : Inside (one ASSIST_STATUS.ASSIST_CURRENT :: one ASSIST_STATUS.ASSIST_RESULT :: one ASSIST_STATUS.ASSIST_STATE :: one AS_CLOSED :: one AS_END :: one AS_TIME :: one (CONVERTER_STATUS.CONV_FLAGS m) :: one (CONVERTER_STATUS.HICCUPS_LEFT m) :: one (CONVERTER_STATUS.HICCUP_COUNT m) :: one (CONVERTER_STATUS.IREF m) :: one (CONVERTER_STATUS.LATCH_CAUSE m) :: one (CONVERTER_STATUS.RECORDS_SKIPPED m) :: one (CONVERTER_STATUS.STATE m) :: one (CONVERTER_STATUS.VREF m) :: one (CONV_CUT m) :: one (CONV_CUT_LANES m) :: one (CONV_CYCLE8 m) :: one (CONV_CYCLES m) :: one (CONV_E m 0) :: one (CONV_E m 1) :: one (CONV_E m 2) :: one (CONV_FROZEN m) :: one (CONV_LAST m) :: one (CONV_LIMIT m) :: one (CONV_PHASE m) :: one (CONV_REF_AT m) :: one (CONV_RESUME m) :: one (CONV_RING m) :: one (CONV_RUN_AT m) :: one (CONV_SCNT m) :: one (CONV_SUM m) :: each2 CONV_VCNT :: each2 CONV_VSUM :: one (CONV_WRITING m) :: one (CONV_Y m 0) :: one (CONV_Y m 1) :: one (CONV_Y m 2) :: one (CWIN m) :: one (CWIN_AT m 0) :: each2 LANE_EDGE :: each LANE_STATUS.I_REF :: one (OVR_END 2) :: one (TRUNC_LONGEST m) :: one (TRUNC_SINCE m) :: one (TRUNC_TOLD_AT m) :: []) W)
    (hL : Within ([.collector, .shadows] : List Part) L) : RunsIn W L org (execConverterCycleEnd m samples s) := by
  delta execConverterCycleEnd
  repeat' first
    | with_reducible assumption
    | with_reducible refine RunsIn.next ?_
    | with_reducible apply State.converterCycleEnd_leaves
    | with_unfolding_none apply hW.sub (inBoth (inBoth (inBoth (inBoth (inBoth (inBoth (inBoth (inBoth (inBoth (inBoth (inBoth (inBoth (inBoth (inBoth (inBoth (inBoth (inBoth (inBoth (inBoth (inBoth (inBoth (inBoth (inBoth (inBoth (inBoth (inBoth (inBoth (inBoth (inBoth (inBoth (inBoth (inBoth (inBoth (inBoth (inBoth (inBoth (inBoth (inBoth (inBoth (inBoth (inBoth (inBoth (inBoth (inBoth (inBoth inNil)))))))))))))))))))))))))))))))))))))))))))))

theorem execLanePeriodEnd_frame {W : List Span} {L : List Part} {org s : State} (l : Lane) (vcs vs : Int) (h : Leaves W L org s)
    (hW : Inside (each CONVERTER_STATUS.CONV_FLAGS :: one (LANE_E l 0) :: one (LANE_E l 1) :: each2 LANE_EDGE :: one (LANE_EXTRA l) :: one (LANE_FROM l) :: one (LANE_FROM (l + 1)) :: one (LANE_HELD l) :: one (LANE_I l) :: each2 LANE_ICNT :: each2 LANE_ISUM :: one (LANE_NEXT l) :: one (LANE_OFFSET l) :: each2 LANE_RSUM :: one (LANE_STATUS.DUTY l) :: one (LANE_U l 0) :: one (LANE_U l 1) :: each TRUNC_LONGEST :: each TRUNC_SINCE :: each TRUNC_TOLD_AT :: []) W)
    (hL : Within ([.collector] : List Part) L) : RunsIn W L org (execLanePeriodEnd l vcs vs s) := by
  delta execLanePeriodEnd
  repeat' first
    | with_reducible assumption
    | with_reducible refine RunsIn.next ?_
    | with_reducible apply State.lanePeriodEnd_leaves
    | with_unfolding_none apply hW.sub (inBoth (inBoth (inBoth (inBoth (inBoth (inBoth (inBoth (inBoth (inBoth (inBoth (inBoth (inBoth (inBoth (inBoth (inBoth (inBoth (inBoth (inBoth (inBoth (inBoth inNil))))))))))))))))))))

theorem execShareImbalance_frame {W : List Span} {L : List Part} {org s : State} (l : Lane) (h : Leaves W L org s)
    (hW : Inside (each CONVERTER_STATUS.CONV_FLAGS :: one (SHARE_SET l) :: []) W)
    (hL : Within ([.collector] : List Part) L) : RunsIn W L org (execShareImbalance l s) := by
  delta execShareImbalance
  repeat' first
    | with_reducible assumption
    | with_reducible refine RunsIn.next ?_
    | with_reducible apply State.shareImbalance_leaves
    | with_unfolding_none apply hW.sub (inBoth (inBoth inNil))

theorem execTruncationCrossing_frame {W : List Span} {L : List Part} {org s : State} (m : Conv) (vs : Int := 0) (steps : List Nat := List.replicate 16 0) (h : Leaves W L org s)
    (hW : Inside (one (CONVERTER_STATUS.CONV_FLAGS m) :: one (CONVERTER_STATUS.TRUNC_EPISODES m) :: each2 LANE_EDGE :: one (TRUNC_AT m) :: []) W)
    (hL : Within ([.free] : List Part) L) : RunsIn W L org (execTruncationCrossing m s vs steps) := by
  delta execTruncationCrossing
  repeat' first
    | with_reducible assumption
    | with_reducible refine RunsIn.next ?_
    | with_reducible apply State.truncationCrossing_leaves
    | with_unfolding_none apply hW.sub (inBoth (inBoth (inBoth (inBoth inNil))))
    | (with_reducible refine Within.trans ?_ hL; decide +kernel)

theorem execTruncationLatch_frame {W : List Span} {L : List Part} {org s : State} (m : Conv) (h : Leaves W L org s)
    (hW : Inside (one ASSIST_STATUS.ASSIST_CURRENT :: one ASSIST_STATUS.ASSIST_RESULT :: one ASSIST_STATUS.ASSIST_STATE :: one AS_CLOSED :: one AS_END :: one AS_TIME :: one (CONVERTER_STATUS.CONV_FLAGS m) :: one (CONVERTER_STATUS.LATCH_CAUSE m) :: one (CONVERTER_STATUS.RECORDS_SKIPPED m) :: one (CONVERTER_STATUS.STATE m) :: one (CONV_FROZEN m) :: one (CONV_LIMIT m) :: one (CONV_PHASE m) :: one (CONV_WRITING m) :: one (CWIN m) :: one (CWIN_AT m 0) :: each2 LANE_EDGE :: one (OVR_END 2) :: one (TRUNC_LONGEST m) :: one (TRUNC_SINCE m) :: one (TRUNC_TOLD_AT m) :: []) W)
    (hL : Within ([.collector, .shadows] : List Part) L) : RunsIn W L org (execTruncationLatch m s) := by
  delta execTruncationLatch
  repeat' first
    | with_reducible assumption
    | with_reducible refine RunsIn.next ?_
    | with_reducible apply State.truncationLatch_leaves
    | with_unfolding_none apply hW.sub (inBoth (inBoth (inBoth (inBoth (inBoth (inBoth (inBoth (inBoth (inBoth (inBoth (inBoth (inBoth (inBoth (inBoth (inBoth (inBoth (inBoth (inBoth (inBoth (inBoth (inBoth inNil)))))))))))))))))))))

theorem execPeakCut_frame {W : List Span} {L : List Part} {org s : State} (l : Lane) (step : Nat) (vcs : Int := 0) (h : Leaves W L org s)
    (hW : Inside (each CONV_CUT :: each CONV_CUT_LANES :: each2 LANE_EDGE :: one (LANE_STATUS.PEAK_CUTS l) :: []) W)
    : RunsIn W L org (execPeakCut l step s vcs) := by
  delta execPeakCut
  repeat' first
    | with_reducible assumption
    | with_reducible refine RunsIn.next ?_
    | with_reducible apply State.peakCut_leaves
    | with_unfolding_none apply hW.sub (inBoth (inBoth (inBoth (inBoth inNil))))

theorem execHiccupResume_frame {W : List Span} {L : List Part} {org s : State} (m : Conv) (samples offsets : List Int) (h : Leaves W L org s)
    (hW : Inside (one (CONVERTER_STATUS.CONV_FLAGS m) :: one (CONV_LAST m) :: one (CONV_PHASE m) :: one (CONV_T0 m) :: one (CONV_V0 m) :: each2 CONV_VCNT :: each2 CONV_VSUM :: each LANE_STATUS.ADC_OFFSET :: []) W)
    : RunsIn W L org (execHiccupResume m samples offsets s) := by
  delta execHiccupResume
  repeat' first
    | with_reducible assumption
    | with_reducible refine RunsIn.next ?_
    | with_reducible apply State.hiccupResume_leaves
    | with_unfolding_none apply hW.sub (inBoth (inBoth (inBoth (inBoth (inBoth (inBoth (inBoth (inBoth inNil))))))))

theorem execHiccupResetTime_frame {W : List Span} {L : List Part} {org s : State} (m : Conv) (h : Leaves W L org s)
    (hW : Inside (one (CONVERTER_STATUS.HICCUPS_LEFT m) :: []) W)
    : RunsIn W L org (execHiccupResetTime m s) := by
  delta execHiccupResetTime
  repeat' first
    | with_reducible assumption
    | with_reducible refine RunsIn.next ?_
    | with_reducible apply State.hiccupReset_leaves
    | with_unfolding_none apply hW.sub (inBoth inNil)

theorem execFaultRecordWritten_frame {W : List Span} {L : List Part} {org s : State} (m : Conv) (h : Leaves W L org s)
    (hW : Inside (one (CONV_FROZEN m) :: one (CONV_LIFE m) :: one (CONV_WRITING m) :: one (FAULT_RECORD.RECORD m) :: one (FAULT_RECORD.RECORD_CAUSE m) :: one (FAULT_RECORD.RECORD_STAMP m) :: []) W)
    (hL : Within ([.collector] : List Part) L) : RunsIn W L org (execFaultRecordWritten m s) := by
  delta execFaultRecordWritten
  repeat' first
    | with_reducible assumption
    | with_reducible refine RunsIn.next ?_
    | with_reducible apply State.faultRecordWritten_leaves
    | with_unfolding_none apply hW.sub (inBoth (inBoth (inBoth (inBoth (inBoth (inBoth inNil))))))

theorem execConverterUndervoltage_frame {W : List Span} {L : List Part} {org s : State} (m : Conv) (units : List (List Int)) (h : Leaves W L org s)
    (hW : Inside (one (CONVERTER_WINDOW.UV_COUNT m) :: one (CWIN m) :: []) W)
    (hL : Within ([.collector] : List Part) L) : RunsIn W L org (execConverterUndervoltage m units s) := by
  delta execConverterUndervoltage
  repeat' first
    | with_reducible assumption
    | with_reducible refine RunsIn.next ?_
    | with_reducible apply State.converterUndervoltage_leaves
    | with_unfolding_none apply hW.sub (inBoth (inBoth inNil))

theorem execConverterOvervoltage_frame {W : List Span} {L : List Part} {org s : State} (m : Conv) (units : List (List Int)) (h : Leaves W L org s)
    (hW : Inside (one (CONVERTER_WINDOW.OV_COUNT m) :: one (CWIN m) :: []) W)
    (hL : Within ([.collector] : List Part) L) : RunsIn W L org (execConverterOvervoltage m units s) := by
  delta execConverterOvervoltage
  repeat' first
    | with_reducible assumption
    | with_reducible refine RunsIn.next ?_
    | with_reducible apply State.converterOvervoltage_leaves
    | with_unfolding_none apply hW.sub (inBoth (inBoth inNil))

theorem execConverterUnderCleared_frame {W : List Span} {L : List Part} {org s : State} (m : Conv) (units : List (List Int)) (h : Leaves W L org s)
    (hW : Inside (one (CWIN m) :: []) W)
    (hL : Within ([.collector] : List Part) L) : RunsIn W L org (execConverterUnderCleared m units s) := by
  delta execConverterUnderCleared
  repeat' first
    | with_reducible assumption
    | with_reducible refine RunsIn.next ?_
    | with_reducible apply State.converterUnderCleared_leaves
    | with_unfolding_none apply hW.sub (inBoth inNil)

theorem execConverterOverCleared_frame {W : List Span} {L : List Part} {org s : State} (m : Conv) (units : List (List Int)) (h : Leaves W L org s)
    (hW : Inside (one (CWIN m) :: []) W)
    (hL : Within ([.collector] : List Part) L) : RunsIn W L org (execConverterOverCleared m units s) := by
  delta execConverterOverCleared
  repeat' first
    | with_reducible assumption
    | with_reducible refine RunsIn.next ?_
    | with_reducible apply State.converterOverCleared_leaves
    | with_unfolding_none apply hW.sub (inBoth inNil)

theorem State.setRtcFlag_leaves {W : List Span} {L : List Part} {org s : State} (b : Nat) (on : Bool) (h : Leaves W L org s)
    (hW : Inside (one RTC.RTC_FLAGS :: []) W) :
    Leaves W L org (State.setRtcFlag s b on) := by
  delta State.setRtcFlag
  repeat' first
    | with_reducible assumption
    | with_reducible apply State.setBit_leaves
    | (with_unfolding_none refine hW.covers ?_; repeat first | with_unfolding_none exact Covered.here | with_unfolding_none exact RTC.RTC_FLAGS_in | with_unfolding_none refine Covered.next ?_)

theorem State.keepCopies_leaves {W : List Span} {L : List Part} {org s : State} (h : Leaves W L org s)
    (hW : Inside (one BACKUP_LOCKED :: one BACK_ALARM :: one BACK_ENABLE :: one BACK_FILTER :: one BACK_POLARITY :: one BACK_REPEAT :: one BACK_SENSE :: one BACK_SOURCES :: one BACK_TRIM :: []) W) :
    Leaves W L org (State.keepCopies s) := by
  delta State.keepCopies
  repeat' first
    | with_reducible assumption
    | with_reducible apply State.set_leaves
    | with_reducible apply State.setN_leaves
    | (with_unfolding_none refine hW.covers ?_; repeat first | with_unfolding_none exact Covered.here | with_unfolding_none exact BACKUP_LOCKED_in | with_unfolding_none exact BACK_ALARM_in | with_unfolding_none exact BACK_ENABLE_in | with_unfolding_none exact BACK_FILTER_in | with_unfolding_none exact BACK_POLARITY_in | with_unfolding_none exact BACK_REPEAT_in | with_unfolding_none exact BACK_SENSE_in | with_unfolding_none exact BACK_SOURCES_in | with_unfolding_none exact BACK_TRIM_in | with_unfolding_none refine Covered.next ?_)
    | (extract_lets +onlyGivenNames letX; have letT : True := (by clear_value letX; guard_hyp letX : State; trivial); clear letT; refine Leaves.cut (W := W) (L := L) (r := org) (v := letX) ?_ (fun letH => ?_); (focus subst letX); rotate_left; clear_value letX; revert letX; intro _ _)
    | (extract_lets +onlyGivenNames letX; clear_value letX; revert letX; intro _)
    | with_reducible refine Leaves.ite ?_ ?_

theorem State.rebase_leaves {W : List Span} {L : List Part} {org s : State} (h : Leaves W L org s)
    (hW : Inside (one MONO_BASE :: one MONO_FROM :: one RTC_BASE :: one RTC_FROM :: []) W) :
    Leaves W L org (State.rebase s) := by
  delta State.rebase
  repeat' first
    | with_reducible assumption
    | with_reducible apply State.setN_leaves
    | (with_unfolding_none refine hW.covers ?_; repeat first | with_unfolding_none exact Covered.here | with_unfolding_none exact MONO_BASE_in | with_unfolding_none exact MONO_FROM_in | with_unfolding_none exact RTC_BASE_in | with_unfolding_none exact RTC_FROM_in | with_unfolding_none refine Covered.next ?_)
    | (extract_lets +onlyGivenNames letX; clear_value letX; revert letX; intro _)

theorem State.loadTick_leaves {W : List Span} {L : List Part} {org s : State} (c : Nat) (h : Leaves W L org s)
    (hW : Inside (one LAST_BOUNDARY :: one TICK_OFFSET :: []) W) :
    Leaves W L org (State.loadTick s c) := by
  delta State.loadTick
  repeat' first
    | with_reducible assumption
    | with_reducible apply State.set_leaves
    | with_reducible apply State.setN_leaves
    | (with_unfolding_none refine hW.covers ?_; repeat first | with_unfolding_none exact Covered.here | with_unfolding_none exact LAST_BOUNDARY_in | with_unfolding_none exact TICK_OFFSET_in | with_unfolding_none refine Covered.next ?_)

theorem State.oscStops_leaves {W : List Span} {L : List Part} {org s : State} (h : Leaves W L org s)
    (hW : Inside (one MONO_BASE :: one MONO_FROM :: one OSC_OFF :: one RTC.RTC_FLAGS :: one RTC_BASE :: one RTC_FROM :: []) W) (hL : Within ([.collector] : List Part) L) :
    Leaves W L org (State.oscStops s) := by
  delta State.oscStops
  repeat' first
    | with_reducible assumption
    | with_reducible apply State.setN_leaves
    | with_reducible apply State.setRtcFlag_leaves
    | with_reducible apply State.raise_leaves
    | with_reducible apply State.rebase_leaves
    | (with_unfolding_none refine hW.covers ?_; repeat first | with_unfolding_none exact Covered.here | with_unfolding_none exact OSC_OFF_in | with_unfolding_none refine Covered.next ?_)
    | with_unfolding_none apply hW.sub (inSkip (inSkip (inSkip (inBoth inNil))))
    | with_unfolding_none apply hW.sub (inNil)
    | with_unfolding_none apply hW.sub (inBoth (inBoth (inSkip (inSkip (inBoth (inBoth inNil))))))
    | (with_reducible refine Within.trans ?_ hL; decide +kernel)
    | (extract_lets +onlyGivenNames letX; have letT : True := (by clear_value letX; guard_hyp letX : State; trivial); clear letT; refine Leaves.cut (W := W) (L := L) (r := org) (v := letX) ?_ (fun letH => ?_); (focus subst letX); rotate_left; clear_value letX; revert letX; intro _ _)
    | with_reducible refine Leaves.ite ?_ ?_

theorem State.oscRestarts_leaves {W : List Span} {L : List Part} {org s : State} (h : Leaves W L org s)
    (hW : Inside (one MONO_FROM :: one OSC_OFF :: one RTC_FROM :: []) W) :
    Leaves W L org (State.oscRestarts s) := by
  delta State.oscRestarts
  repeat' first
    | with_reducible assumption
    | with_reducible apply State.setN_leaves
    | (with_unfolding_none refine hW.covers ?_; repeat first | with_unfolding_none exact Covered.here | with_unfolding_none exact MONO_FROM_in | with_unfolding_none exact OSC_OFF_in | with_unfolding_none exact RTC_FROM_in | with_unfolding_none refine Covered.next ?_)
    | with_reducible refine Leaves.ite ?_ ?_

theorem State.pon_leaves {W : List Span} {L : List Part} {org s : State} (on : Bool) (cause : Nat) (h : Leaves W L org s)
    (hW : Inside (one PON_CONTROL.PON_CHANGES :: one PON_CONTROL.PON_LAST_CAUSE :: one PON_CONTROL.PON_STATE :: []) W) (hL : Within ([.collector] : List Part) L) :
    Leaves W L org (State.pon s on cause) := by
  delta State.pon
  repeat' first
    | with_reducible assumption
    | with_reducible apply State.setN_leaves
    | with_reducible apply State.setFlag_leaves
    | with_reducible apply State.count_leaves
    | with_reducible apply State.raise_leaves
    | (with_unfolding_none refine hW.covers ?_; repeat first | with_unfolding_none exact Covered.here | with_unfolding_none exact PON_CONTROL.PON_CHANGES_in | with_unfolding_none exact PON_CONTROL.PON_LAST_CAUSE_in | with_unfolding_none exact PON_CONTROL.PON_STATE_in | with_unfolding_none refine Covered.next ?_)
    | with_unfolding_none apply hW.sub (inNil)
    | (with_reducible refine Within.trans ?_ hL; decide +kernel)
    | (extract_lets +onlyGivenNames letX; have letT : True := (by clear_value letX; guard_hyp letX : State; trivial); clear letT; refine Leaves.cut (W := W) (L := L) (r := org) (v := letX) ?_ (fun letH => ?_); (focus subst letX); rotate_left; clear_value letX; revert letX; intro _ _)
    | with_reducible refine Leaves.ite ?_ ?_

theorem State.ponCommand_leaves {W : List Span} {L : List Part} {org s : State} (on : Bool) (h : Leaves W L org s)
    (hW : Inside (one PON_CONTROL.PON_CHANGES :: one PON_CONTROL.PON_LAST_CAUSE :: one PON_CONTROL.PON_STATE :: []) W) (hL : Within ([.collector] : List Part) L) :
    Leaves W L org (State.ponCommand s on) := by
  delta State.ponCommand
  repeat' first
    | with_reducible assumption
    | with_reducible apply State.pon_leaves
    | with_unfolding_none apply hW.sub (inBoth (inBoth (inBoth inNil)))
    | (with_reducible refine Within.trans ?_ hL; decide +kernel)
    | with_reducible refine Leaves.ite ?_ ?_

theorem State.parkAbort_leaves {W : List Span} {L : List Part} {org s : State} (causes : Nat) (h : Leaves W L org s)
    (hW : Inside (one PARK_STAGE :: one POWER_STATE.PARK_ABORTS :: one POWER_STATE.STATE :: []) W) (hL : Within ([.collector] : List Part) L) :
    Leaves W L org (State.parkAbort s causes) := by
  delta State.parkAbort
  repeat' first
    | with_reducible assumption
    | with_reducible apply State.setN_leaves
    | with_reducible apply State.count_leaves
    | with_reducible apply State.raise_leaves
    | (with_unfolding_none refine hW.covers ?_; repeat first | with_unfolding_none exact Covered.here | with_unfolding_none exact PARK_STAGE_in | with_unfolding_none exact POWER_STATE.PARK_ABORTS_in | with_unfolding_none exact POWER_STATE.STATE_in | with_unfolding_none refine Covered.next ?_)
    | with_unfolding_none apply hW.sub (inNil)
    | (with_reducible refine Within.trans ?_ hL; decide +kernel)
    | (extract_lets +onlyGivenNames letX; have letT : True := (by clear_value letX; guard_hyp letX : State; trivial); clear letT; refine Leaves.cut (W := W) (L := L) (r := org) (v := letX) ?_ (fun letH => ?_); (focus subst letX); rotate_left; clear_value letX; revert letX; intro _ _)

theorem State.wakeBy_leaves {W : List Span} {L : List Part} {org s : State} (b : Nat) (h : Leaves W L org s)
    (hW : Inside (one PARK_STAGE :: one POWER_STATE.PARK_ABORTS :: one POWER_STATE.STATE :: one WAKE_PENDING :: []) W) (hL : Within ([.collector] : List Part) L) :
    Leaves W L org (State.wakeBy s b) := by
  delta State.wakeBy
  repeat' first
    | with_reducible assumption
    | with_reducible apply State.setBit_leaves
    | with_reducible apply State.parkAbort_leaves
    | (with_unfolding_none refine hW.covers ?_; repeat first | with_unfolding_none exact Covered.here | with_unfolding_none exact WAKE_PENDING_in | with_unfolding_none refine Covered.next ?_)
    | with_unfolding_none apply hW.sub (inBoth (inBoth (inBoth inNil)))
    | (with_reducible refine Within.trans ?_ hL; decide +kernel)
    | with_reducible refine Leaves.ite ?_ ?_

theorem State.latchSet_leaves {W : List Span} {L : List Part} {org s : State} (b : Nat) (h : Leaves W L org s)
    (hW : Inside (one PARK_STAGE :: one PON_CONTROL.PON_CHANGES :: one PON_CONTROL.PON_LAST_CAUSE :: one PON_CONTROL.PON_STATE :: one POWER_STATE.PARK_ABORTS :: one POWER_STATE.STATE :: one WAKE_CONFIG.WAKE_LATCHED :: one WAKE_PENDING :: []) W) (hL : Within ([.collector] : List Part) L) :
    Leaves W L org (State.latchSet s b) := by
  delta State.latchSet
  repeat' first
    | with_reducible assumption
    | with_reducible apply State.setBit_leaves
    | with_reducible apply State.pon_leaves
    | with_reducible apply State.raise_leaves
    | with_reducible apply State.wakeBy_leaves
    | (with_unfolding_none refine hW.covers ?_; repeat first | with_unfolding_none exact Covered.here | with_unfolding_none exact WAKE_CONFIG.WAKE_LATCHED_in | with_unfolding_none refine Covered.next ?_)
    | with_unfolding_none apply hW.sub (inSkip (inBoth (inBoth (inBoth inNil))))
    | with_unfolding_none apply hW.sub (inNil)
    | with_unfolding_none apply hW.sub (inBoth (inSkip (inSkip (inSkip (inBoth (inBoth (inSkip (inBoth inNil))))))))
    | (with_reducible refine Within.trans ?_ hL; decide +kernel)
    | (extract_lets +onlyGivenNames letX; have letT : True := (by clear_value letX; guard_hyp letX : State; trivial); clear letT; refine Leaves.cut (W := W) (L := L) (r := org) (v := letX) ?_ (fun letH => ?_); (focus subst letX); rotate_left; clear_value letX; revert letX; intro _ _)
    | with_reducible refine Leaves.ite ?_ ?_

theorem State.senseLevels_leaves {W : List Span} {L : List Part} {org s : State} (h : Leaves W L org s)
    (hW : Inside (one PARK_STAGE :: one PON_CONTROL.PON_CHANGES :: one PON_CONTROL.PON_LAST_CAUSE :: one PON_CONTROL.PON_STATE :: one POWER_STATE.PARK_ABORTS :: one POWER_STATE.STATE :: one WAKE_CONFIG.WAKE_LATCHED :: one WAKE_PENDING :: []) W) (hL : Within ([.collector] : List Part) L) :
    Leaves W L org (State.senseLevels s) := by
  delta State.senseLevels
  repeat' first
    | with_reducible assumption
    | with_reducible apply State.latchSet_leaves
    | with_unfolding_none apply hW.sub (inBoth (inBoth (inBoth (inBoth (inBoth (inBoth (inBoth (inBoth inNil))))))))
    | (with_reducible refine Within.trans ?_ hL; decide +kernel)
    | with_reducible refine Leaves.ite ?_ ?_
    | with_reducible refine forBelow_leaves ?_ (fun _ _ _ => ?_)

theorem State.wakeInput_leaves {W : List Span} {L : List Part} {org s : State} (i : Nat) (high : Bool) (us : Nat) (h : Leaves W L org s)
    (hW : Inside (one (ENDGAME_ARMED i) :: one PARK_STAGE :: one PON_CONTROL.PON_CHANGES :: one PON_CONTROL.PON_LAST_CAUSE :: one PON_CONTROL.PON_STATE :: one POWER_STATE.PARK_ABORTS :: one POWER_STATE.STATE :: one WAKE_CONFIG.WAKE_LATCHED :: one WAKE_CONFIG.WAKE_LEVEL :: one WAKE_PENDING :: []) W) (hL : Within ([.collector] : List Part) L) :
    Leaves W L org (State.wakeInput s i high us) := by
  delta State.wakeInput
  repeat' first
    | with_reducible assumption
    | with_reducible apply State.setN_leaves
    | with_reducible apply State.setBit_leaves
    | with_reducible apply State.latchSet_leaves
    | (with_unfolding_none refine hW.covers ?_; repeat first | with_unfolding_none exact Covered.here | with_unfolding_none exact WAKE_CONFIG.WAKE_LEVEL_in | with_unfolding_none refine Covered.next ?_)
    | with_unfolding_none apply hW.sub (inSkip (inBoth (inBoth (inBoth (inBoth (inBoth (inBoth (inBoth (inSkip (inBoth inNil))))))))))
    | (with_reducible refine Within.trans ?_ hL; decide +kernel)
    | (extract_lets +onlyGivenNames letX; have letT : True := (by clear_value letX; guard_hyp letX : State; trivial); clear letT; refine Leaves.cut (W := W) (L := L) (r := org) (v := letX) ?_ (fun letH => ?_); (focus subst letX); rotate_left; clear_value letX; revert letX; intro _ _)
    | (extract_lets +onlyGivenNames letX; clear_value letX; revert letX; intro _)
    | with_reducible refine Leaves.ite ?_ ?_

theorem State.wakeClear_leaves {W : List Span} {L : List Part} {org s : State} (mask : Nat) (h : Leaves W L org s)
    (hW : Inside (one PARK_STAGE :: one PON_CONTROL.PON_CHANGES :: one PON_CONTROL.PON_LAST_CAUSE :: one PON_CONTROL.PON_STATE :: one POWER_STATE.PARK_ABORTS :: one POWER_STATE.STATE :: one WAKE_CONFIG.WAKE_LATCHED :: one WAKE_PENDING :: []) W) (hL : Within ([.collector] : List Part) L) :
    Leaves W L org (State.wakeClear s mask) := by
  delta State.wakeClear
  repeat' first
    | with_reducible assumption
    | with_reducible apply State.setBit_leaves
    | with_reducible apply State.senseLevels_leaves
    | (with_unfolding_none refine hW.covers ?_; repeat first | with_unfolding_none exact Covered.here | with_unfolding_none exact WAKE_CONFIG.WAKE_LATCHED_in | with_unfolding_none refine Covered.next ?_)
    | with_unfolding_none apply hW.sub (inBoth (inBoth (inBoth (inBoth (inBoth (inBoth (inBoth (inBoth inNil))))))))
    | (with_reducible refine Within.trans ?_ hL; decide +kernel)
    | with_reducible refine Leaves.ite ?_ ?_
    | with_reducible refine forBelow_leaves ?_ (fun _ _ _ => ?_)

theorem State.alarmFires_leaves {W : List Span} {L : List Part} {org s : State} (h : Leaves W L org s)
    (hW : Inside (one ALARM.ALARMS_FIRED :: one ALARM.ALARM_SECONDS :: one ALARM.ALARM_STATE :: one BACK_ALARM :: one PARK_STAGE :: one PON_CONTROL.PON_CHANGES :: one PON_CONTROL.PON_LAST_CAUSE :: one PON_CONTROL.PON_STATE :: one POWER_STATE.PARK_ABORTS :: one POWER_STATE.STATE :: one WAKE_CONFIG.WAKE_LATCHED :: one WAKE_PENDING :: one (inForce ALARM.ALARM_SECONDS) :: []) W) (hL : Within ([.collector] : List Part) L) :
    Leaves W L org (State.alarmFires s) := by
  delta State.alarmFires
  repeat' first
    | with_reducible assumption
    | with_reducible apply State.setN_leaves
    | with_reducible apply State.count_leaves
    | with_reducible apply State.latchSet_leaves
    | with_reducible apply State.wakeBy_leaves
    | with_reducible apply State.pon_leaves
    | with_reducible apply State.raise_leaves
    | (with_unfolding_none refine hW.covers ?_; repeat first | with_unfolding_none exact Covered.here | with_unfolding_none exact ALARM.ALARMS_FIRED_in | with_unfolding_none exact ALARM.ALARM_SECONDS_in | with_unfolding_none exact ALARM.ALARM_STATE_in | with_unfolding_none exact BACK_ALARM_in | with_unfolding_none exact inForce_ALARM.ALARM_SECONDS_in | with_unfolding_none refine Covered.next ?_)
    | with_unfolding_none apply hW.sub (inSkip (inSkip (inSkip (inSkip (inBoth (inBoth (inBoth (inBoth (inBoth (inBoth (inBoth (inBoth inNil))))))))))))
    | with_unfolding_none apply hW.sub (inSkip (inSkip (inSkip (inSkip (inBoth (inSkip (inSkip (inSkip (inBoth (inBoth (inSkip (inBoth inNil))))))))))))
    | with_unfolding_none apply hW.sub (inSkip (inSkip (inSkip (inSkip (inSkip (inBoth (inBoth (inBoth inNil))))))))
    | with_unfolding_none apply hW.sub (inNil)
    | (with_reducible refine Within.trans ?_ hL; decide +kernel)
    | (extract_lets +onlyGivenNames letX; have letT : True := (by clear_value letX; guard_hyp letX : State; trivial); clear letT; refine Leaves.cut (W := W) (L := L) (r := org) (v := letX) ?_ (fun letH => ?_); (focus subst letX); rotate_left; clear_value letX; revert letX; intro _ _)
    | (extract_lets +onlyGivenNames letX; clear_value letX; revert letX; intro _)
    | with_reducible refine Leaves.ite ?_ ?_

theorem State.alarmCheck_leaves {W : List Span} {L : List Part} {org s : State} (h : Leaves W L org s)
    (hW : Inside (one ALARM.ALARMS_FIRED :: one ALARM.ALARM_SECONDS :: one ALARM.ALARM_STATE :: one BACK_ALARM :: one PARK_STAGE :: one PON_CONTROL.PON_CHANGES :: one PON_CONTROL.PON_LAST_CAUSE :: one PON_CONTROL.PON_STATE :: one POWER_STATE.PARK_ABORTS :: one POWER_STATE.STATE :: one WAKE_CONFIG.WAKE_LATCHED :: one WAKE_PENDING :: one (inForce ALARM.ALARM_SECONDS) :: []) W) (hL : Within ([.collector] : List Part) L) :
    Leaves W L org (State.alarmCheck s) := by
  delta State.alarmCheck
  repeat' first
    | with_reducible assumption
    | with_reducible apply State.alarmFires_leaves
    | with_unfolding_none apply hW.sub (inBoth (inBoth (inBoth (inBoth (inBoth (inBoth (inBoth (inBoth (inBoth (inBoth (inBoth (inBoth (inBoth inNil)))))))))))))
    | (with_reducible refine Within.trans ?_ hL; decide +kernel)
    | with_reducible refine Leaves.ite ?_ ?_

theorem State.alarmSet_leaves {W : List Span} {L : List Part} {org s : State} (v : Nat) (h : Leaves W L org s)
    (hW : Inside (one ALARM.ALARM_STATE :: one (inForce ALARM.ALARM_SECONDS) :: []) W) :
    Leaves W L org (State.alarmSet s v) := by
  delta State.alarmSet
  repeat' first
    | with_reducible assumption
    | with_reducible apply State.setN_leaves
    | (with_unfolding_none refine hW.covers ?_; repeat first | with_unfolding_none exact Covered.here | with_unfolding_none exact ALARM.ALARM_STATE_in | with_unfolding_none exact inForce_ALARM.ALARM_SECONDS_in | with_unfolding_none refine Covered.next ?_)
    | with_reducible refine Leaves.ite ?_ ?_

theorem State.setClock_leaves {W : List Span} {L : List Part} {org s : State} (count source : Nat) (h : Leaves W L org s)
    (hW : Inside (one ALARM.ALARMS_FIRED :: one ALARM.ALARM_SECONDS :: one ALARM.ALARM_STATE :: one BACK_ALARM :: one MONO_BASE :: one MONO_FROM :: one PARK_STAGE :: one PON_CONTROL.PON_CHANGES :: one PON_CONTROL.PON_LAST_CAUSE :: one PON_CONTROL.PON_STATE :: one POWER_STATE.PARK_ABORTS :: one POWER_STATE.STATE :: one RTC.LAST_SET_STAMP :: one RTC.RTC_FLAGS :: one RTC.SET_SOURCE :: one RTC_BASE :: one RTC_FROM :: one WAKE_CONFIG.WAKE_LATCHED :: one WAKE_PENDING :: one (inForce ALARM.ALARM_SECONDS) :: []) W) (hL : Within ([.collector] : List Part) L) :
    Leaves W L org (State.setClock s count source) := by
  delta State.setClock
  repeat' first
    | with_reducible assumption
    | with_reducible apply State.setN_leaves
    | with_reducible apply State.setRtcFlag_leaves
    | with_reducible apply State.raise_leaves
    | with_reducible apply State.alarmCheck_leaves
    | with_reducible apply State.rebase_leaves
    | (with_unfolding_none refine hW.covers ?_; repeat first | with_unfolding_none exact Covered.here | with_unfolding_none exact RTC.LAST_SET_STAMP_in | with_unfolding_none exact RTC.SET_SOURCE_in | with_unfolding_none exact RTC_BASE_in | with_unfolding_none refine Covered.next ?_)
    | with_unfolding_none apply hW.sub (inSkip (inSkip (inSkip (inSkip (inSkip (inSkip (inSkip (inSkip (inSkip (inSkip (inSkip (inSkip (inSkip (inBoth inNil))))))))))))))
    | with_unfolding_none apply hW.sub (inNil)
    | with_unfolding_none apply hW.sub (inBoth (inBoth (inBoth (inBoth (inSkip (inSkip (inBoth (inBoth (inBoth (inBoth (inBoth (inBoth (inSkip (inSkip (inSkip (inSkip (inSkip (inBoth (inBoth (inBoth inNil))))))))))))))))))))
    | with_unfolding_none apply hW.sub (inSkip (inSkip (inSkip (inSkip (inBoth (inBoth (inSkip (inSkip (inSkip (inSkip (inSkip (inSkip (inSkip (inSkip (inSkip (inBoth (inBoth inNil)))))))))))))))))
    | (with_reducible refine Within.trans ?_ hL; decide +kernel)
    | (extract_lets +onlyGivenNames letX; have letT : True := (by clear_value letX; guard_hyp letX : State; trivial); clear letT; refine Leaves.cut (W := W) (L := L) (r := org) (v := letX) ?_ (fun letH => ?_); (focus subst letX); rotate_left; clear_value letX; revert letX; intro _ _)
    | (extract_lets +onlyGivenNames letX; clear_value letX; revert letX; intro _)

theorem State.setTrim_leaves {W : List Span} {L : List Part} {org s : State} (v : Int) (h : Leaves W L org s)
    (hW : Inside (one MONO_BASE :: one MONO_FROM :: one RTC_BASE :: one RTC_FROM :: one (inForce RTC.RTC_TRIM) :: []) W) :
    Leaves W L org (State.setTrim s v) := by
  delta State.setTrim
  repeat' first
    | with_reducible assumption
    | with_reducible apply State.set_leaves
    | with_reducible apply State.rebase_leaves
    | (with_unfolding_none refine hW.covers ?_; repeat first | with_unfolding_none exact Covered.here | with_unfolding_none exact inForce_RTC.RTC_TRIM_in | with_unfolding_none refine Covered.next ?_)
    | with_unfolding_none apply hW.sub (inBoth (inBoth (inBoth (inBoth inNil))))

theorem State.lowBackup_leaves {W : List Span} {L : List Part} {org s : State} (h : Leaves W L org s)
    (hW : Inside (one RTC.RTC_FLAGS :: []) W) :
    Leaves W L org (State.lowBackup s) := by
  delta State.lowBackup
  repeat' first
    | with_reducible assumption
    | with_reducible apply State.setRtcFlag_leaves
    | with_unfolding_none apply hW.sub (inBoth inNil)

theorem State.cellLow_leaves {W : List Span} {L : List Part} {org s : State} (vbk : Int) (us : Nat) (h : Leaves W L org s)
    (hW : Inside (one MONO_BASE :: one MONO_FROM :: one RSTOUT_HIGH :: one RTC.RTC_FLAGS :: one RTC_BASE :: one RTC_FROM :: one VBK_LAST :: []) W) (hL : Within ([.collector, .free] : List Part) L) :
    Leaves W L org (State.cellLow s vbk us) := by
  delta State.cellLow
  repeat' first
    | with_reducible assumption
    | with_reducible apply State.set_leaves
    | with_reducible apply State.setN_leaves
    | with_reducible apply State.setFree_leaves
    | with_reducible apply State.lowBackup_leaves
    | with_reducible apply State.setRtcFlag_leaves
    | with_reducible apply State.raise_leaves
    | with_reducible apply State.rebase_leaves
    | (with_unfolding_none refine hW.covers ?_; repeat first | with_unfolding_none exact Covered.here | with_unfolding_none exact RSTOUT_HIGH_in | with_unfolding_none exact RTC_BASE_in | with_unfolding_none exact VBK_LAST_in | with_unfolding_none refine Covered.next ?_)
    | with_unfolding_none apply hW.sub (inSkip (inSkip (inSkip (inBoth inNil))))
    | with_unfolding_none apply hW.sub (inNil)
    | with_unfolding_none apply hW.sub (inBoth (inBoth (inSkip (inSkip (inBoth (inBoth inNil))))))
    | (with_reducible refine Within.trans ?_ hL; decide +kernel)
    | with_reducible exact hL _ (by decide +kernel)
    | (extract_lets +onlyGivenNames letX; have letT : True := (by clear_value letX; guard_hyp letX : State; trivial); clear letT; refine Leaves.cut (W := W) (L := L) (r := org) (v := letX) ?_ (fun letH => ?_); (focus subst letX); rotate_left; clear_value letX; revert letX; intro _ _)
    | with_reducible refine Leaves.ite ?_ ?_

theorem State.backupStarts_leaves {W : List Span} {L : List Part} {org s : State} (h : Leaves W L org s)
    (hW : Inside (one ALARM.ALARM_STATE :: one BACKUP_ANEW :: one BACK_ALARM :: one BACK_ENABLE :: one BACK_FILTER :: one BACK_POLARITY :: one BACK_REPEAT :: one BACK_SENSE :: one BACK_SOURCES :: one BACK_TRIM :: one KEEPER.FAILED_OPENINGS :: one KEEPER.HOLDS :: one KEEPER.LAST_HOLD_SECONDS :: one KEEPER.RETRY_SERIES :: one KEEPER_HOLDING :: one KEEPER_TOLD :: one MONO_BASE :: one MONO_FROM :: one PON_CONTROL.PON_CHANGES :: one PON_CONTROL.PON_LAST_CAUSE :: one PON_CONTROL.PON_STATE :: one POWER_STATE.LAST_WAKE_CAUSE :: one RSTOUT_HIGH :: one RTC.RTC_FLAGS :: one RTC_BASE :: one RTC_FROM :: one STRAPS.STRAP_VALUE :: one WAKE_CONFIG.WAKE_LATCHED :: one WAKE_PENDING :: []) W) (hL : Within ([.collector, .free] : List Part) L) :
    Leaves W L org (State.backupStarts s) := by
  delta State.backupStarts
  repeat' first
    | with_reducible assumption
    | with_reducible apply State.set_leaves
    | with_reducible apply State.setN_leaves
    | with_reducible apply State.setFree_leaves
    | with_reducible apply State.setRtcFlag_leaves
    | with_reducible apply State.pon_leaves
    | with_reducible apply State.rebase_leaves
    | with_reducible apply State.lowBackup_leaves
    | (with_unfolding_none refine hW.covers ?_; repeat first | with_unfolding_none exact Covered.here | with_unfolding_none exact ALARM.ALARM_STATE_in | with_unfolding_none exact BACKUP_ANEW_in | with_unfolding_none exact BACK_ALARM_in | with_unfolding_none exact BACK_ENABLE_in | with_unfolding_none exact BACK_FILTER_in | with_unfolding_none exact BACK_POLARITY_in | with_unfolding_none exact BACK_REPEAT_in | with_unfolding_none exact BACK_SENSE_in | with_unfolding_none exact BACK_SOURCES_in | with_unfolding_none exact BACK_TRIM_in | with_unfolding_none exact KEEPER.FAILED_OPENINGS_in | with_unfolding_none exact KEEPER.HOLDS_in | with_unfolding_none exact KEEPER.LAST_HOLD_SECONDS_in | with_unfolding_none exact KEEPER.RETRY_SERIES_in | with_unfolding_none exact KEEPER_HOLDING_in | with_unfolding_none exact KEEPER_TOLD_in | with_unfolding_none exact MONO_BASE_in | with_unfolding_none exact POWER_STATE.LAST_WAKE_CAUSE_in | with_unfolding_none exact RSTOUT_HIGH_in | with_unfolding_none exact RTC_BASE_in | with_unfolding_none exact STRAPS.STRAP_VALUE_in | with_unfolding_none exact WAKE_CONFIG.WAKE_LATCHED_in | with_unfolding_none exact WAKE_PENDING_in | with_unfolding_none refine Covered.next ?_)
    | with_unfolding_none apply hW.sub (inSkip (inSkip (inSkip (inSkip (inSkip (inSkip (inSkip (inSkip (inSkip (inSkip (inSkip (inSkip (inSkip (inSkip (inSkip (inSkip (inSkip (inSkip (inSkip (inSkip (inSkip (inSkip (inSkip (inBoth inNil))))))))))))))))))))))))
    | with_unfolding_none apply hW.sub (inSkip (inSkip (inSkip (inSkip (inSkip (inSkip (inSkip (inSkip (inSkip (inSkip (inSkip (inSkip (inSkip (inSkip (inSkip (inSkip (inSkip (inSkip (inBoth (inBoth (inBoth inNil)))))))))))))))))))))
    | with_unfolding_none apply hW.sub (inSkip (inSkip (inSkip (inSkip (inSkip (inSkip (inSkip (inSkip (inSkip (inSkip (inSkip (inSkip (inSkip (inSkip (inSkip (inSkip (inBoth (inBoth (inSkip (inSkip (inSkip (inSkip (inSkip (inSkip (inBoth (inBoth inNil))))))))))))))))))))))))))
    | (with_reducible refine Within.trans ?_ hL; decide +kernel)
    | with_reducible exact hL _ (by decide +kernel)
    | (extract_lets +onlyGivenNames letX; have letT : True := (by clear_value letX; guard_hyp letX : State; trivial); clear letT; refine Leaves.cut (W := W) (L := L) (r := org) (v := letX) ?_ (fun letH => ?_); (focus subst letX); rotate_left; clear_value letX; revert letX; intro _ _)

theorem State.vbkReturns_leaves {W : List Span} {L : List Part} {org s : State} (vbk : Int) (fromNothing : Bool) (h : Leaves W L org s)
    (hW : Inside (one ALARM.ALARM_STATE :: one BACKUP_ANEW :: one BACK_ALARM :: one BACK_ENABLE :: one BACK_FILTER :: one BACK_POLARITY :: one BACK_REPEAT :: one BACK_SENSE :: one BACK_SOURCES :: one BACK_TRIM :: one KEEPER.FAILED_OPENINGS :: one KEEPER.HOLDS :: one KEEPER.LAST_HOLD_SECONDS :: one KEEPER.RETRY_SERIES :: one KEEPER_HOLDING :: one KEEPER_TOLD :: one MONO_BASE :: one MONO_FROM :: one PON_CONTROL.PON_CHANGES :: one PON_CONTROL.PON_LAST_CAUSE :: one PON_CONTROL.PON_STATE :: one POWER_STATE.LAST_WAKE_CAUSE :: one RSTOUT_HIGH :: one RTC.RTC_FLAGS :: one RTC_BASE :: one RTC_FROM :: one STRAPS.STRAP_VALUE :: one VBK_LAST :: one WAKE_CONFIG.WAKE_LATCHED :: one WAKE_PENDING :: []) W) (hL : Within ([.collector, .free] : List Part) L) :
    Leaves W L org (State.vbkReturns s vbk fromNothing) := by
  delta State.vbkReturns
  repeat' first
    | with_reducible assumption
    | with_reducible apply State.set_leaves
    | with_reducible apply State.setN_leaves
    | with_reducible apply State.backupStarts_leaves
    | with_reducible apply State.setRtcFlag_leaves
    | (with_unfolding_none refine hW.covers ?_; repeat first | with_unfolding_none exact Covered.here | with_unfolding_none exact RSTOUT_HIGH_in | with_unfolding_none exact VBK_LAST_in | with_unfolding_none refine Covered.next ?_)
    | with_unfolding_none apply hW.sub (inBoth (inBoth (inBoth (inBoth (inBoth (inBoth (inBoth (inBoth (inBoth (inBoth (inBoth (inBoth (inBoth (inBoth (inBoth (inBoth (inBoth (inBoth (inBoth (inBoth (inBoth (inBoth (inBoth (inBoth (inBoth (inBoth (inBoth (inSkip (inBoth (inBoth inNil))))))))))))))))))))))))))))))
    | with_unfolding_none apply hW.sub (inSkip (inSkip (inSkip (inSkip (inSkip (inSkip (inSkip (inSkip (inSkip (inSkip (inSkip (inSkip (inSkip (inSkip (inSkip (inSkip (inSkip (inSkip (inSkip (inSkip (inSkip (inSkip (inSkip (inBoth inNil))))))))))))))))))))))))
    | (with_reducible refine Within.trans ?_ hL; decide +kernel)
    | (extract_lets +onlyGivenNames letX; have letT : True := (by clear_value letX; guard_hyp letX : State; trivial); clear letT; refine Leaves.cut (W := W) (L := L) (r := org) (v := letX) ?_ (fun letH => ?_); (focus subst letX); rotate_left; clear_value letX; revert letX; intro _ _)
    | with_reducible refine Leaves.ite ?_ ?_

theorem execAlarmFired_frame {W : List Span} {L : List Part} {org s : State} (h : Leaves W L org s)
    (hW : Inside (one ALARM.ALARMS_FIRED :: one ALARM.ALARM_SECONDS :: one ALARM.ALARM_STATE :: one BACK_ALARM :: one PARK_STAGE :: one PON_CONTROL.PON_CHANGES :: one PON_CONTROL.PON_LAST_CAUSE :: one PON_CONTROL.PON_STATE :: one POWER_STATE.PARK_ABORTS :: one POWER_STATE.STATE :: one WAKE_CONFIG.WAKE_LATCHED :: one WAKE_PENDING :: one (inForce ALARM.ALARM_SECONDS) :: []) W)
    (hL : Within ([.collector] : List Part) L) : RunsIn W L org (execAlarmFired s) := by
  delta execAlarmFired
  repeat' first
    | with_reducible assumption
    | with_reducible refine RunsIn.next ?_
    | with_reducible apply State.alarmCheck_leaves
    | with_unfolding_none apply hW.sub (inBoth (inBoth (inBoth (inBoth (inBoth (inBoth (inBoth (inBoth (inBoth (inBoth (inBoth (inBoth (inBoth inNil)))))))))))))

theorem execRtcOscStopped_frame {W : List Span} {L : List Part} {org s : State} (h : Leaves W L org s)
    (hW : Inside (one MONO_BASE :: one MONO_FROM :: one OSC_OFF :: one RTC.RTC_FLAGS :: one RTC_BASE :: one RTC_FROM :: []) W)
    (hL : Within ([.collector] : List Part) L) : RunsIn W L org (execRtcOscStopped s) := by
  delta execRtcOscStopped
  repeat' first
    | with_reducible assumption
    | with_reducible refine RunsIn.next ?_
    | with_reducible apply State.oscStops_leaves
    | with_unfolding_none apply hW.sub (inBoth (inBoth (inBoth (inBoth (inBoth (inBoth inNil))))))

theorem execRtcOscRestart_frame {W : List Span} {L : List Part} {org s : State} (h : Leaves W L org s)
    (hW : Inside (one MONO_FROM :: one OSC_OFF :: one RTC_FROM :: []) W)
    : RunsIn W L org (execRtcOscRestart s) := by
  delta execRtcOscRestart
  repeat' first
    | with_reducible assumption
    | with_reducible refine RunsIn.next ?_
    | with_reducible apply State.oscRestarts_leaves
    | with_unfolding_none apply hW.sub (inBoth (inBoth (inBoth inNil)))

theorem execBackupCellLow_frame {W : List Span} {L : List Part} {org s : State} (vbk : Int) (us : Nat) (h : Leaves W L org s)
    (hW : Inside (one MONO_BASE :: one MONO_FROM :: one RSTOUT_HIGH :: one RTC.RTC_FLAGS :: one RTC_BASE :: one RTC_FROM :: one VBK_LAST :: []) W)
    (hL : Within ([.collector, .free] : List Part) L) : RunsIn W L org (execBackupCellLow vbk us s) := by
  delta execBackupCellLow
  repeat' first
    | with_reducible assumption
    | with_reducible refine RunsIn.next ?_
    | with_reducible apply State.cellLow_leaves
    | with_unfolding_none apply hW.sub (inBoth (inBoth (inBoth (inBoth (inBoth (inBoth (inBoth inNil)))))))

theorem execVbkLowClear_frame {W : List Span} {L : List Part} {org s : State} (vbk : Int) (fromNothing : Bool) (h : Leaves W L org s)
    (hW : Inside (one ALARM.ALARM_STATE :: one BACKUP_ANEW :: one BACK_ALARM :: one BACK_ENABLE :: one BACK_FILTER :: one BACK_POLARITY :: one BACK_REPEAT :: one BACK_SENSE :: one BACK_SOURCES :: one BACK_TRIM :: one KEEPER.FAILED_OPENINGS :: one KEEPER.HOLDS :: one KEEPER.LAST_HOLD_SECONDS :: one KEEPER.RETRY_SERIES :: one KEEPER_HOLDING :: one KEEPER_TOLD :: one MONO_BASE :: one MONO_FROM :: one PON_CONTROL.PON_CHANGES :: one PON_CONTROL.PON_LAST_CAUSE :: one PON_CONTROL.PON_STATE :: one POWER_STATE.LAST_WAKE_CAUSE :: one RSTOUT_HIGH :: one RTC.RTC_FLAGS :: one RTC_BASE :: one RTC_FROM :: one STRAPS.STRAP_VALUE :: one VBK_LAST :: one WAKE_CONFIG.WAKE_LATCHED :: one WAKE_PENDING :: []) W)
    (hL : Within ([.collector, .free] : List Part) L) : RunsIn W L org (execVbkLowClear vbk fromNothing s) := by
  delta execVbkLowClear
  repeat' first
    | with_reducible assumption
    | with_reducible refine RunsIn.next ?_
    | with_reducible apply State.vbkReturns_leaves
    | with_unfolding_none apply hW.sub (inBoth (inBoth (inBoth (inBoth (inBoth (inBoth (inBoth (inBoth (inBoth (inBoth (inBoth (inBoth (inBoth (inBoth (inBoth (inBoth (inBoth (inBoth (inBoth (inBoth (inBoth (inBoth (inBoth (inBoth (inBoth (inBoth (inBoth (inBoth (inBoth (inBoth inNil))))))))))))))))))))))))))))))

theorem execBackupSwitchover_frame {W : List Span} {L : List Part} {org s : State} (vh : Int) (h : Leaves W L org s)
    (hW : Inside (one ON_VBK :: []) W)
    : RunsIn W L org (execBackupSwitchover vh s) := by
  delta execBackupSwitchover
  repeat' first
    | with_reducible assumption
    | with_reducible refine RunsIn.next ?_
    | with_reducible apply State.setFlag_leaves
    | (with_unfolding_none refine hW.covers ?_; repeat first | with_unfolding_none exact Covered.here | with_unfolding_none exact ON_VBK_in | with_unfolding_none refine Covered.next ?_)

theorem execWakeLatchSet_frame {W : List Span} {L : List Part} {org s : State} (i : Fin 8) (high : Bool) (us : Nat) (h : Leaves W L org s)
    (hW : Inside (one (ENDGAME_ARMED i.val) :: one PARK_STAGE :: one PON_CONTROL.PON_CHANGES :: one PON_CONTROL.PON_LAST_CAUSE :: one PON_CONTROL.PON_STATE :: one POWER_STATE.PARK_ABORTS :: one POWER_STATE.STATE :: one WAKE_CONFIG.WAKE_LATCHED :: one WAKE_CONFIG.WAKE_LEVEL :: one WAKE_PENDING :: []) W)
    (hL : Within ([.collector] : List Part) L) : RunsIn W L org (execWakeLatchSet i high us s) := by
  delta execWakeLatchSet
  repeat' first
    | with_reducible assumption
    | with_reducible refine RunsIn.next ?_
    | with_reducible apply State.wakeInput_leaves
    | with_unfolding_none apply hW.sub (inBoth (inBoth (inBoth (inBoth (inBoth (inBoth (inBoth (inBoth (inBoth (inBoth inNil))))))))))

theorem State.raiseSwitch_leaves {W : List Span} {L : List Part} {org s : State} (k : Kind) (fields : List (Nat × Int)) (h : Leaves W L org s) (hL : Within ([.dieMsgs] : List Part) L) :
    Leaves W L org (State.raiseSwitch s k fields) := by
  delta State.raiseSwitch
  repeat' first
    | with_reducible assumption
    | with_reducible apply State.raiseDie_leaves
    | (with_reducible refine Within.trans ?_ hL; decide +kernel)

theorem State.swTo_leaves {W : List Span} {L : List Part} {org s : State} (mode cause : Nat) (h : Leaves W L org s)
    (hW : Inside (one BATTERY_SWITCH.FORWARD :: one BATTERY_SWITCH.MODE_IN_EFFECT :: one BATTERY_SWITCH.OPEN_CAUSE :: one SW_CONN_AT :: one SW_ON_AT :: []) W) (hL : Within ([.dieMsgs] : List Part) L) :
    Leaves W L org (State.swTo s mode cause) := by
  delta State.swTo
  repeat' first
    | with_reducible assumption
    | with_reducible apply State.setN_leaves
    | with_reducible apply State.raiseSwitch_leaves
    | (with_unfolding_none refine hW.covers ?_; repeat first | with_unfolding_none exact Covered.here | with_unfolding_none exact BATTERY_SWITCH.FORWARD_in | with_unfolding_none exact BATTERY_SWITCH.MODE_IN_EFFECT_in | with_unfolding_none exact BATTERY_SWITCH.OPEN_CAUSE_in | with_unfolding_none exact SW_CONN_AT_in | with_unfolding_none exact SW_ON_AT_in | with_unfolding_none refine Covered.next ?_)
    | with_unfolding_none apply hW.sub (inNil)
    | (with_reducible refine Within.trans ?_ hL; decide +kernel)
    | (extract_lets +onlyGivenNames letX; have letT : True := (by clear_value letX; guard_hyp letX : State; trivial); clear letT; refine Leaves.cut (W := W) (L := L) (r := org) (v := letX) ?_ (fun letH => ?_); (focus subst letX); rotate_left; clear_value letX; revert letX; intro _ _)
    | (extract_lets +onlyGivenNames letX; clear_value letX; revert letX; intro _)
    | with_reducible refine Leaves.ite ?_ ?_

theorem State.swWrite_leaves {W : List Span} {L : List Part} {org s : State} (v : Nat) (h : Leaves W L org s)
    (hW : Inside (one BATTERY_SWITCH.FORWARD :: one BATTERY_SWITCH.MODE_IN_EFFECT :: one BATTERY_SWITCH.OPEN_CAUSE :: one SW_CONN_AT :: one SW_MARK :: one SW_ON_AT :: one SW_TOLD :: one SW_TRIPPED :: one SW_WAIT_AT :: one (inForce BATTERY_SWITCH.MODE) :: []) W) (hL : Within ([.dieMsgs] : List Part) L) :
    Leaves W L org (State.swWrite s v) := by
  delta State.swWrite
  repeat' first
    | with_reducible assumption
    | with_reducible apply State.setN_leaves
    | with_reducible apply State.swTo_leaves
    | (with_unfolding_none refine hW.covers ?_; repeat first | with_unfolding_none exact Covered.here | with_unfolding_none exact SW_MARK_in | with_unfolding_none exact SW_TOLD_in | with_unfolding_none exact SW_TRIPPED_in | with_unfolding_none exact SW_WAIT_AT_in | with_unfolding_none exact inForce_BATTERY_SWITCH.MODE_in | with_unfolding_none refine Covered.next ?_)
    | with_unfolding_none apply hW.sub (inBoth (inBoth (inBoth (inBoth (inSkip (inBoth inNil))))))
    | (with_reducible refine Within.trans ?_ hL; decide +kernel)
    | (extract_lets +onlyGivenNames letX; have letT : True := (by clear_value letX; guard_hyp letX : State; trivial); clear letT; refine Leaves.cut (W := W) (L := L) (r := org) (v := letX) ?_ (fun letH => ?_); (focus subst letX); rotate_left; clear_value letX; revert letX; intro _ _)
    | with_reducible refine Leaves.ite ?_ ?_
    | split
    | with_reducible refine Leaves.ofPair (by assumption) ?_

theorem State.swNoClosed_leaves {W : List Span} {L : List Part} {org s : State} (h : Leaves W L org s)
    (hW : Inside (one BATTERY_SWITCH.FORWARD :: one BATTERY_SWITCH.MODE_IN_EFFECT :: one BATTERY_SWITCH.OPEN_CAUSE :: one SW_CONN_AT :: one SW_ON_AT :: []) W) (hL : Within ([.dieMsgs] : List Part) L) :
    Leaves W L org (State.swNoClosed s) := by
  delta State.swNoClosed
  repeat' first
    | with_reducible assumption
    | with_reducible apply State.swTo_leaves
    | with_unfolding_none apply hW.sub (inBoth (inBoth (inBoth (inBoth (inBoth inNil)))))
    | (with_reducible refine Within.trans ?_ hL; decide +kernel)
    | with_reducible refine Leaves.ite ?_ ?_

theorem State.swRelease_leaves {W : List Span} {L : List Part} {org s : State} (h : Leaves W L org s)
    (hW : Inside (one BATTERY_SWITCH.FORWARD :: one BATTERY_SWITCH.MODE_IN_EFFECT :: one BATTERY_SWITCH.OPEN_CAUSE :: one SW_CONN_AT :: one SW_ON_AT :: []) W) (hL : Within ([.dieMsgs] : List Part) L) :
    Leaves W L org (State.swRelease s) := by
  delta State.swRelease
  repeat' first
    | with_reducible assumption
    | with_reducible apply State.setN_leaves
    | with_reducible apply State.swTo_leaves
    | (with_unfolding_none refine hW.covers ?_; repeat first | with_unfolding_none exact Covered.here | with_unfolding_none exact BATTERY_SWITCH.OPEN_CAUSE_in | with_unfolding_none refine Covered.next ?_)
    | with_unfolding_none apply hW.sub (inBoth (inBoth (inBoth (inBoth (inBoth inNil)))))
    | (with_reducible refine Within.trans ?_ hL; decide +kernel)
    | with_reducible refine Leaves.ite ?_ ?_

theorem State.swClose_leaves {W : List Span} {L : List Part} {org s : State} (diff : Int) (h : Leaves W L org s)
    (hW : Inside (one BATTERY_SWITCH.FORWARD :: one BATTERY_SWITCH.MODE_IN_EFFECT :: one BATTERY_SWITCH.OPEN_CAUSE :: one SW_CONN_AT :: one SW_ON_AT :: []) W) (hL : Within ([.dieMsgs] : List Part) L) :
    Leaves W L org (State.swClose s diff) := by
  delta State.swClose
  repeat' first
    | with_reducible assumption
    | with_reducible apply State.swTo_leaves
    | with_unfolding_none apply hW.sub (inBoth (inBoth (inBoth (inBoth (inBoth inNil)))))
    | (with_reducible refine Within.trans ?_ hL; decide +kernel)
    | with_reducible refine Leaves.ite ?_ ?_

theorem State.swDeferred_leaves {W : List Span} {L : List Part} {org s : State} (diff : Int) (h : Leaves W L org s)
    (hW : Inside (one SW_TOLD :: []) W) (hL : Within ([.dieMsgs] : List Part) L) :
    Leaves W L org (State.swDeferred s diff) := by
  delta State.swDeferred
  repeat' first
    | with_reducible assumption
    | with_reducible apply State.setN_leaves
    | with_reducible apply State.raiseSwitch_leaves
    | (with_unfolding_none refine hW.covers ?_; repeat first | with_unfolding_none exact Covered.here | with_unfolding_none exact SW_TOLD_in | with_unfolding_none refine Covered.next ?_)
    | with_unfolding_none apply hW.sub (inNil)
    | (with_reducible refine Within.trans ?_ hL; decide +kernel)
    | with_reducible refine Leaves.ite ?_ ?_

theorem State.swReverse_leaves {W : List Span} {L : List Part} {org s : State} (excess : Int) (h : Leaves W L org s)
    (hW : Inside (one BATTERY_SWITCH.FORWARD :: []) W) (hL : Within ([.free] : List Part) L) :
    Leaves W L org (State.swReverse s excess) := by
  delta State.swReverse
  repeat' first
    | with_reducible assumption
    | with_reducible apply State.setN_leaves
    | with_reducible apply State.setFree_leaves
    | (with_unfolding_none refine hW.covers ?_; repeat first | with_unfolding_none exact Covered.here | with_unfolding_none exact BATTERY_SWITCH.FORWARD_in | with_unfolding_none refine Covered.next ?_)
    | with_reducible exact hL _ (by decide +kernel)
    | with_reducible refine Leaves.ite ?_ ?_

theorem State.swShort_leaves {W : List Span} {L : List Part} {org s : State} (diff : Int) (us : Nat) (h : Leaves W L org s)
    (hW : Inside (one BATTERY_SWITCH.FORWARD :: one BATTERY_SWITCH.MODE_IN_EFFECT :: one BATTERY_SWITCH.OPEN_CAUSE :: one BATTERY_SWITCH.SWITCH_TRIPS :: one SW_CONN_AT :: one SW_MARK :: one SW_ON_AT :: one SW_TRIPPED :: []) W) (hL : Within ([.dieMsgs, .shadows] : List Part) L) :
    Leaves W L org (State.swShort s diff us) := by
  delta State.swShort
  repeat' first
    | with_reducible assumption
    | with_reducible apply State.setN_leaves
    | with_reducible apply State.count_leaves
    | with_reducible apply State.swTo_leaves
    | with_reducible apply State.openShadow_leaves
    | with_reducible apply State.raiseSwitch_leaves
    | (with_unfolding_none refine hW.covers ?_; repeat first | with_unfolding_none exact Covered.here | with_unfolding_none exact BATTERY_SWITCH.SWITCH_TRIPS_in | with_unfolding_none exact SW_MARK_in | with_unfolding_none exact SW_TRIPPED_in | with_unfolding_none refine Covered.next ?_)
    | with_unfolding_none apply hW.sub (inBoth (inBoth (inBoth (inSkip (inBoth (inSkip (inBoth inNil)))))))
    | with_unfolding_none apply hW.sub (inNil)
    | (with_reducible refine Within.trans ?_ hL; decide +kernel)
    | (extract_lets +onlyGivenNames letX; have letT : True := (by clear_value letX; guard_hyp letX : State; trivial); clear letT; refine Leaves.cut (W := W) (L := L) (r := org) (v := letX) ?_ (fun letH => ?_); (focus subst letX); rotate_left; clear_value letX; revert letX; intro _ _)
    | (extract_lets +onlyGivenNames letX; clear_value letX; revert letX; intro _)
    | with_reducible refine Leaves.ite ?_ ?_

theorem State.swCutoff_leaves {W : List Span} {L : List Part} {org s : State} (bswb : Int) (us : Nat) (h : Leaves W L org s)
    (hW : Inside (one BATTERY_SWITCH.FORWARD :: one BATTERY_SWITCH.MODE_IN_EFFECT :: one BATTERY_SWITCH.OPEN_CAUSE :: one SW_CONN_AT :: one SW_ON_AT :: []) W) (hL : Within ([.dieMsgs, .shadows] : List Part) L) :
    Leaves W L org (State.swCutoff s bswb us) := by
  delta State.swCutoff
  repeat' first
    | with_reducible assumption
    | with_reducible apply State.swTo_leaves
    | with_reducible apply State.openShadow_leaves
    | with_reducible apply State.raiseSwitch_leaves
    | with_unfolding_none apply hW.sub (inBoth (inBoth (inBoth (inBoth (inBoth inNil)))))
    | with_unfolding_none apply hW.sub (inNil)
    | (with_reducible refine Within.trans ?_ hL; decide +kernel)
    | (extract_lets +onlyGivenNames letX; clear_value letX; revert letX; intro _)
    | with_reducible refine Leaves.ite ?_ ?_

theorem State.swChargeDrop_leaves {W : List Span} {L : List Part} {org s : State} (samples : List Int) (h : Leaves W L org s)
    (hW : Inside (one BATTERY_SWITCH.MODE :: []) W) (hL : Within ([.dieMsgs, .landing] : List Part) L) :
    Leaves W L org (State.swChargeDrop s samples) := by
  delta State.swChargeDrop
  repeat' first
    | with_reducible assumption
    | with_reducible apply State.setN_leaves
    | with_reducible apply State.land_leaves
    | with_reducible apply State.raiseSwitch_leaves
    | (with_unfolding_none refine hW.covers ?_; repeat first | with_unfolding_none exact Covered.here | with_unfolding_none exact BATTERY_SWITCH.MODE_in | with_unfolding_none refine Covered.next ?_)
    | with_unfolding_none apply hW.sub (inNil)
    | (with_reducible refine Within.trans ?_ hL; decide +kernel)
    | (extract_lets +onlyGivenNames letX; have letT : True := (by clear_value letX; guard_hyp letX : State; trivial); clear letT; refine Leaves.cut (W := W) (L := L) (r := org) (v := letX) ?_ (fun letH => ?_); (focus subst letX); rotate_left; clear_value letX; revert letX; intro _ _)
    | (extract_lets +onlyGivenNames letX; clear_value letX; revert letX; intro _)
    | with_reducible refine Leaves.ite ?_ ?_

theorem State.swPowerUp_leaves {W : List Span} {L : List Part} {org s : State} (h : Leaves W L org s)
    (hW : Inside (one BATTERY_SWITCH.FORWARD :: one BATTERY_SWITCH.MODE_IN_EFFECT :: one BATTERY_SWITCH.OPEN_CAUSE :: one SW_CONN_AT :: one SW_MARK :: one SW_ON_AT :: one SW_UNPOWERED :: []) W) (hL : Within ([.dieMsgs] : List Part) L) :
    Leaves W L org (State.swPowerUp s) := by
  delta State.swPowerUp
  repeat' first
    | with_reducible assumption
    | with_reducible apply State.setN_leaves
    | with_reducible apply State.swTo_leaves
    | (with_unfolding_none refine hW.covers ?_; repeat first | with_unfolding_none exact Covered.here | with_unfolding_none exact SW_MARK_in | with_unfolding_none exact SW_UNPOWERED_in | with_unfolding_none refine Covered.next ?_)
    | with_unfolding_none apply hW.sub (inBoth (inBoth (inBoth (inBoth (inSkip (inBoth inNil))))))
    | (with_reducible refine Within.trans ?_ hL; decide +kernel)
    | with_reducible refine Leaves.ite ?_ ?_

theorem State.swPowerLoss_leaves {W : List Span} {L : List Part} {org s : State} (h : Leaves W L org s)
    (hW : Inside (one BATTERY_SWITCH.FORWARD :: one BATTERY_SWITCH.MODE_IN_EFFECT :: one BATTERY_SWITCH.OPEN_CAUSE :: one SW_CONN_AT :: one SW_MARK :: one SW_ON_AT :: one SW_UNPOWERED :: []) W) (hL : Within ([.dieMsgs] : List Part) L) :
    Leaves W L org (State.swPowerLoss s) := by
  delta State.swPowerLoss
  repeat' first
    | with_reducible assumption
    | with_reducible apply State.setN_leaves
    | with_reducible apply State.swTo_leaves
    | (with_unfolding_none refine hW.covers ?_; repeat first | with_unfolding_none exact Covered.here | with_unfolding_none exact SW_MARK_in | with_unfolding_none exact SW_UNPOWERED_in | with_unfolding_none refine Covered.next ?_)
    | with_unfolding_none apply hW.sub (inBoth (inBoth (inBoth (inBoth (inSkip (inBoth inNil))))))
    | (with_reducible refine Within.trans ?_ hL; decide +kernel)
    | with_reducible refine Leaves.ite ?_ ?_

theorem State.swRound_leaves {W : List Span} {L : List Part} {org s : State} (bswb bswn : Int) (h : Leaves W L org s)
    (hW : Inside (one BATTERY_SWITCH.FORWARD :: one SW_ON_AT :: []) W) :
    Leaves W L org (State.swRound s bswb bswn) := by
  delta State.swRound
  repeat' first
    | with_reducible assumption
    | with_reducible apply State.setN_leaves
    | with_reducible apply State.setFlag_leaves
    | (with_unfolding_none refine hW.covers ?_; repeat first | with_unfolding_none exact Covered.here | with_unfolding_none exact BATTERY_SWITCH.FORWARD_in | with_unfolding_none exact SW_ON_AT_in | with_unfolding_none refine Covered.next ?_)
    | (extract_lets +onlyGivenNames letX; have letT : True := (by clear_value letX; guard_hyp letX : State; trivial); clear letT; refine Leaves.cut (W := W) (L := L) (r := org) (v := letX) ?_ (fun letH => ?_); (focus subst letX); rotate_left; clear_value letX; revert letX; intro _ _)
    | with_reducible refine Leaves.ite ?_ ?_

theorem State.raiseCharger_leaves {W : List Span} {L : List Part} {org s : State} (k : Kind) (fields : List (Nat × Int)) (h : Leaves W L org s) (hL : Within ([.collector] : List Part) L) :
    Leaves W L org (State.raiseCharger s k fields) := by
  delta State.raiseCharger
  repeat' first
    | with_reducible assumption
    | with_reducible apply State.raise_leaves
    | (with_reducible refine Within.trans ?_ hL; decide +kernel)

theorem State.chClamps_leaves {W : List Span} {L : List Part} {org s : State} (i : Int) (h : Leaves W L org s)
    (hW : Inside (one (CONVERTER_STATUS.CONV_FLAGS 1) :: one (OVR_END 1) :: one (OVR_MAX 1) :: one (OVR_MIN 1) :: one (OVR_ON 1) :: one (OVR_REF 1) :: []) W) :
    Leaves W L org (State.chClamps s i) := by
  delta State.chClamps
  repeat' first
    | with_reducible assumption
    | with_reducible apply State.overrides_leaves
    | with_unfolding_none apply hW.sub (inBoth (inBoth (inBoth (inBoth (inBoth (inBoth inNil))))))

theorem State.chStage_leaves {W : List Span} {L : List Part} {org s : State} (stage : Nat) (i : Int) (h : Leaves W L org s)
    (hW : Inside (one CHARGER_STATUS.STAGE :: one CH_STAGE_AT :: one (CONVERTER_STATUS.CONV_FLAGS 1) :: one (OVR_END 1) :: one (OVR_MAX 1) :: one (OVR_MIN 1) :: one (OVR_ON 1) :: one (OVR_REF 1) :: []) W) (hL : Within ([.staged] : List Part) L) :
    Leaves W L org (State.chStage s stage i) := by
  delta State.chStage
  repeat' first
    | with_reducible assumption
    | with_reducible apply State.setN_leaves
    | with_reducible apply State.stage_leaves
    | with_reducible apply State.chClamps_leaves
    | (with_unfolding_none refine hW.covers ?_; repeat first | with_unfolding_none exact Covered.here | with_unfolding_none exact CHARGER_STATUS.STAGE_in | with_unfolding_none exact CH_STAGE_AT_in | with_unfolding_none refine Covered.next ?_)
    | with_unfolding_none apply hW.sub (inSkip (inSkip (inBoth (inBoth (inBoth (inBoth (inBoth (inBoth inNil))))))))
    | with_unfolding_none apply hW.sub (inNil)
    | (with_reducible refine Within.trans ?_ hL; decide +kernel)

theorem State.chPulse_leaves {W : List Span} {L : List Part} {org s : State} (i : Int) (ms : Nat) (h : Leaves W L org s)
    (hW : Inside (one CHARGER_STATUS.ON_TIME :: one CHARGER_STATUS.PULSES :: one CHARGER_STATUS.STAGE :: one CH_STAGE_AT :: one (CONVERTER_STATUS.CONV_FLAGS 1) :: one (OVR_END 1) :: one (OVR_MAX 1) :: one (OVR_MIN 1) :: one (OVR_ON 1) :: one (OVR_REF 1) :: []) W) (hL : Within ([.staged] : List Part) L) :
    Leaves W L org (State.chPulse s i ms) := by
  delta State.chPulse
  repeat' first
    | with_reducible assumption
    | with_reducible apply State.setN_leaves
    | with_reducible apply State.wrapCount_leaves
    | with_reducible apply State.chStage_leaves
    | (with_unfolding_none refine hW.covers ?_; repeat first | with_unfolding_none exact Covered.here | with_unfolding_none exact CHARGER_STATUS.ON_TIME_in | with_unfolding_none exact CHARGER_STATUS.PULSES_in | with_unfolding_none refine Covered.next ?_)
    | with_unfolding_none apply hW.sub (inSkip (inSkip (inBoth (inBoth (inBoth (inBoth (inBoth (inBoth (inBoth (inBoth inNil))))))))))
    | (with_reducible refine Within.trans ?_ hL; decide +kernel)

theorem State.chEnter_leaves {W : List Span} {L : List Part} {org s : State} (p : Nat) (h : Leaves W L org s)
    (hW : Inside (one CHARGER_STATUS.PHASE :: one CH_CLOCK :: one CH_CLOCK_AT :: one CH_FULL :: one CH_HOLD_AT :: one CH_PHASE_AT :: one CH_QUALIFY_AT :: []) W) (hL : Within ([.collector] : List Part) L) :
    Leaves W L org (State.chEnter s p) := by
  delta State.chEnter
  repeat' first
    | with_reducible assumption
    | with_reducible apply State.setN_leaves
    | with_reducible apply State.raiseCharger_leaves
    | (with_unfolding_none refine hW.covers ?_; repeat first | with_unfolding_none exact Covered.here | with_unfolding_none exact CHARGER_STATUS.PHASE_in | with_unfolding_none exact CH_CLOCK_in | with_unfolding_none exact CH_CLOCK_AT_in | with_unfolding_none exact CH_FULL_in | with_unfolding_none exact CH_HOLD_AT_in | with_unfolding_none exact CH_PHASE_AT_in | with_unfolding_none exact CH_QUALIFY_AT_in | with_unfolding_none refine Covered.next ?_)
    | with_unfolding_none apply hW.sub (inNil)
    | (with_reducible refine Within.trans ?_ hL; decide +kernel)
    | (extract_lets +onlyGivenNames letX; have letT : True := (by clear_value letX; guard_hyp letX : State; trivial); clear letT; refine Leaves.cut (W := W) (L := L) (r := org) (v := letX) ?_ (fun letH => ?_); (focus subst letX); rotate_left; clear_value letX; revert letX; intro _ _)
    | (extract_lets +onlyGivenNames letX; clear_value letX; revert letX; intro _)
    | with_reducible refine Leaves.ite ?_ ?_

theorem State.chFault_leaves {W : List Span} {L : List Part} {org s : State} (cause : Nat) (h : Leaves W L org s)
    (hW : Inside (one CHARGER_STATUS.FAULT_CAUSE :: one CHARGER_STATUS.PHASE :: one CHARGER_STATUS.STAGE :: one CH_CLOCK :: one CH_CLOCK_AT :: one CH_FULL :: one CH_HOLD_AT :: one CH_PHASE_AT :: one CH_QUALIFY_AT :: one CH_STAGE_AT :: one (CONVERTER_STATUS.CONV_FLAGS 1) :: one (OVR_END 1) :: one (OVR_MAX 1) :: one (OVR_MIN 1) :: one (OVR_ON 1) :: one (OVR_REF 1) :: []) W) (hL : Within ([.collector, .staged] : List Part) L) :
    Leaves W L org (State.chFault s cause) := by
  delta State.chFault
  repeat' first
    | with_reducible assumption
    | with_reducible apply State.setN_leaves
    | with_reducible apply State.raiseCharger_leaves
    | with_reducible apply State.chEnter_leaves
    | with_reducible apply State.chStage_leaves
    | (with_unfolding_none refine hW.covers ?_; repeat first | with_unfolding_none exact Covered.here | with_unfolding_none exact CHARGER_STATUS.FAULT_CAUSE_in | with_unfolding_none refine Covered.next ?_)
    | with_unfolding_none apply hW.sub (inNil)
    | with_unfolding_none apply hW.sub (inSkip (inBoth (inSkip (inBoth (inBoth (inBoth (inBoth (inBoth (inBoth inNil)))))))))
    | with_unfolding_none apply hW.sub (inSkip (inSkip (inBoth (inSkip (inSkip (inSkip (inSkip (inSkip (inSkip (inBoth (inBoth (inBoth (inBoth (inBoth (inBoth (inBoth inNil))))))))))))))))
    | (with_reducible refine Within.trans ?_ hL; decide +kernel)
    | (extract_lets +onlyGivenNames letX; have letT : True := (by clear_value letX; guard_hyp letX : State; trivial); clear letT; refine Leaves.cut (W := W) (L := L) (r := org) (v := letX) ?_ (fun letH => ?_); (focus subst letX); rotate_left; clear_value letX; revert letX; intro _ _)
    | (extract_lets +onlyGivenNames letX; clear_value letX; revert letX; intro _)

theorem State.chQualify_leaves {W : List Span} {L : List Part} {org s : State} (h : Leaves W L org s)
    (hW : Inside (one CHARGER_STATUS.PHASE :: one CHARGER_STATUS.STAGE :: one CHARGER_STATUS.SUSPEND_CAUSE :: one CH_CLOCK :: one CH_CLOCK_AT :: one CH_FULL :: one CH_HOLD_AT :: one CH_PHASE_AT :: one CH_QUALIFY_AT :: one CH_STAGE_AT :: one (CONVERTER_STATUS.CONV_FLAGS 1) :: one (OVR_END 1) :: one (OVR_MAX 1) :: one (OVR_MIN 1) :: one (OVR_ON 1) :: one (OVR_REF 1) :: []) W) (hL : Within ([.collector, .staged] : List Part) L) :
    Leaves W L org (State.chQualify s) := by
  delta State.chQualify
  repeat' first
    | with_reducible assumption
    | with_reducible apply State.setN_leaves
    | with_reducible apply State.chEnter_leaves
    | with_reducible apply State.chStage_leaves
    | (with_unfolding_none refine hW.covers ?_; repeat first | with_unfolding_none exact Covered.here | with_unfolding_none exact CHARGER_STATUS.SUSPEND_CAUSE_in | with_unfolding_none refine Covered.next ?_)
    | with_unfolding_none apply hW.sub (inBoth (inSkip (inSkip (inBoth (inBoth (inBoth (inBoth (inBoth (inBoth inNil)))))))))
    | with_unfolding_none apply hW.sub (inSkip (inBoth (inSkip (inSkip (inSkip (inSkip (inSkip (inSkip (inSkip (inBoth (inBoth (inBoth (inBoth (inBoth (inBoth (inBoth inNil))))))))))))))))
    | (with_reducible refine Within.trans ?_ hL; decide +kernel)

theorem State.chEnable_leaves {W : List Span} {L : List Part} {org s : State} (v : Nat) (h : Leaves W L org s)
    (hW : Inside (one CHARGER_STATUS.FAULT_CAUSE :: one CHARGER_STATUS.PHASE :: one CHARGER_STATUS.PULSES :: one CHARGER_STATUS.STAGE :: one CHARGER_STATUS.SUSPEND_CAUSE :: one CH_CLOCK :: one CH_CLOCK_AT :: one CH_FULL :: one CH_HOLD_AT :: one CH_PHASE_AT :: one CH_QUALIFY_AT :: one CH_STAGE_AT :: one (CONVERTER_STATUS.CONV_FLAGS 1) :: one (OVR_END 1) :: one (OVR_MAX 1) :: one (OVR_MIN 1) :: one (OVR_ON 1) :: one (OVR_REF 1) :: one (inForce CHARGER.CHARGE_ENABLE) :: []) W) (hL : Within ([.collector, .staged] : List Part) L) :
    Leaves W L org (State.chEnable s v) := by
  delta State.chEnable
  repeat' first
    | with_reducible assumption
    | with_reducible apply State.setN_leaves
    | with_reducible apply State.chEnter_leaves
    | with_reducible apply State.chClamps_leaves
    | with_reducible apply State.chQualify_leaves
    | with_reducible apply State.chFault_leaves
    | (with_unfolding_none refine hW.covers ?_; repeat first | with_unfolding_none exact Covered.here | with_unfolding_none exact CHARGER_STATUS.FAULT_CAUSE_in | with_unfolding_none exact CHARGER_STATUS.PULSES_in | with_unfolding_none exact CHARGER_STATUS.STAGE_in | with_unfolding_none exact CHARGER_STATUS.SUSPEND_CAUSE_in | with_unfolding_none exact inForce_CHARGER.CHARGE_ENABLE_in | with_unfolding_none refine Covered.next ?_)
    | with_unfolding_none apply hW.sub (inSkip (inBoth (inSkip (inSkip (inSkip (inBoth (inBoth (inBoth (inBoth (inBoth (inBoth inNil)))))))))))
    | with_unfolding_none apply hW.sub (inSkip (inSkip (inSkip (inSkip (inSkip (inSkip (inSkip (inSkip (inSkip (inSkip (inSkip (inSkip (inBoth (inBoth (inBoth (inBoth (inBoth (inBoth inNil))))))))))))))))))
    | with_unfolding_none apply hW.sub (inSkip (inBoth (inSkip (inBoth (inBoth (inBoth (inBoth (inBoth (inBoth (inBoth (inBoth (inBoth (inBoth (inBoth (inBoth (inBoth (inBoth (inBoth inNil))))))))))))))))))
    | with_unfolding_none apply hW.sub (inBoth (inBoth (inSkip (inBoth (inSkip (inBoth (inBoth (inBoth (inBoth (inBoth (inBoth (inBoth (inBoth (inBoth (inBoth (inBoth (inBoth (inBoth inNil))))))))))))))))))
    | (with_reducible refine Within.trans ?_ hL; decide +kernel)
    | (extract_lets +onlyGivenNames letX; have letT : True := (by clear_value letX; guard_hyp letX : State; trivial); clear letT; refine Leaves.cut (W := W) (L := L) (r := org) (v := letX) ?_ (fun letH => ?_); (focus subst letX); rotate_left; clear_value letX; revert letX; intro _ _)
    | with_reducible refine Leaves.ite ?_ ?_

theorem State.chTaper_leaves {W : List Span} {L : List Part} {org s : State} (t : Nat) (v : Int) (h : Leaves W L org s)
    (hW : Inside (one CHARGER_STATUS.ON_TIME :: one CHARGER_STATUS.PULSES :: one CHARGER_STATUS.STAGE :: one CH_STAGE_AT :: one CH_T_PREV :: one (CONVERTER_STATUS.CONV_FLAGS 1) :: one (OVR_END 1) :: one (OVR_MAX 1) :: one (OVR_MIN 1) :: one (OVR_ON 1) :: one (OVR_REF 1) :: []) W) (hL : Within ([.free, .staged] : List Part) L) :
    Leaves W L org (State.chTaper s t v) := by
  delta State.chTaper
  repeat' first
    | with_reducible assumption
    | with_reducible apply State.set_leaves
    | with_reducible apply State.setFree_leaves
    | with_reducible apply State.chPulse_leaves
    | (with_unfolding_none refine hW.covers ?_; repeat first | with_unfolding_none exact Covered.here | with_unfolding_none exact CH_T_PREV_in | with_unfolding_none refine Covered.next ?_)
    | with_unfolding_none apply hW.sub (inBoth (inBoth (inBoth (inBoth (inSkip (inBoth (inBoth (inBoth (inBoth (inBoth (inBoth inNil)))))))))))
    | (with_reducible refine Within.trans ?_ hL; decide +kernel)
    | with_reducible exact hL _ (by decide +kernel)
    | (extract_lets +onlyGivenNames letX; have letT : True := (by clear_value letX; guard_hyp letX : State; trivial); clear letT; refine Leaves.cut (W := W) (L := L) (r := org) (v := letX) ?_ (fun letH => ?_); (focus subst letX); rotate_left; clear_value letX; revert letX; intro _ _)
    | (extract_lets +onlyGivenNames letX; clear_value letX; revert letX; intro _)
    | with_reducible refine Leaves.ite ?_ ?_

theorem State.chToHold_leaves {W : List Span} {L : List Part} {org s : State} (h : Leaves W L org s)
    (hW : Inside (one CHARGER_STATUS.PHASE :: one CHARGER_STATUS.STAGE :: one CH_CLOCK :: one CH_CLOCK_AT :: one CH_FULL :: one CH_HOLD_AT :: one CH_PHASE_AT :: one CH_QUALIFY_AT :: one CH_STAGE_AT :: one (CONVERTER_STATUS.CONV_FLAGS 1) :: one (OVR_END 1) :: one (OVR_MAX 1) :: one (OVR_MIN 1) :: one (OVR_ON 1) :: one (OVR_REF 1) :: []) W) (hL : Within ([.collector, .staged] : List Part) L) :
    Leaves W L org (State.chToHold s) := by
  delta State.chToHold
  repeat' first
    | with_reducible assumption
    | with_reducible apply State.chEnter_leaves
    | with_reducible apply State.chStage_leaves
    | with_unfolding_none apply hW.sub (inBoth (inSkip (inBoth (inBoth (inBoth (inBoth (inBoth (inBoth inNil))))))))
    | with_unfolding_none apply hW.sub (inSkip (inBoth (inSkip (inSkip (inSkip (inSkip (inSkip (inSkip (inBoth (inBoth (inBoth (inBoth (inBoth (inBoth (inBoth inNil)))))))))))))))
    | (with_reducible refine Within.trans ?_ hL; decide +kernel)

theorem State.chDecide_leaves {W : List Span} {L : List Part} {org s : State} (v : Int) (h : Leaves W L org s)
    (hW : Inside (one CHARGER_STATUS.ON_TIME :: one CHARGER_STATUS.PHASE :: one CHARGER_STATUS.PULSES :: one CHARGER_STATUS.STAGE :: one CH_CLOCK :: one CH_CLOCK_AT :: one CH_FULL :: one CH_HOLD_AT :: one CH_PHASE_AT :: one CH_QUALIFY_AT :: one CH_STAGE_AT :: one CH_T_PREV :: one (CONVERTER_STATUS.CONV_FLAGS 1) :: one (OVR_END 1) :: one (OVR_MAX 1) :: one (OVR_MIN 1) :: one (OVR_ON 1) :: one (OVR_REF 1) :: []) W) (hL : Within ([.collector, .free, .staged] : List Part) L) :
    Leaves W L org (State.chDecide s v) := by
  delta State.chDecide
  repeat' first
    | with_reducible assumption
    | with_reducible apply State.chToHold_leaves
    | with_reducible apply State.chEnter_leaves
    | with_reducible apply State.chTaper_leaves
    | with_reducible apply State.chPulse_leaves
    | with_unfolding_none apply hW.sub (inSkip (inBoth (inSkip (inBoth (inBoth (inBoth (inBoth (inBoth (inBoth (inBoth (inBoth (inSkip (inBoth (inBoth (inBoth (inBoth (inBoth (inBoth inNil))))))))))))))))))
    | with_unfolding_none apply hW.sub (inSkip (inBoth (inSkip (inSkip (inBoth (inBoth (inBoth (inBoth (inBoth (inBoth inNil))))))))))
    | with_unfolding_none apply hW.sub (inBoth (inSkip (inBoth (inBoth (inSkip (inSkip (inSkip (inSkip (inSkip (inSkip (inBoth (inBoth (inBoth (inBoth (inBoth (inBoth (inBoth (inBoth inNil))))))))))))))))))
    | with_unfolding_none apply hW.sub (inBoth (inSkip (inBoth (inBoth (inSkip (inSkip (inSkip (inSkip (inSkip (inSkip (inBoth (inSkip (inBoth (inBoth (inBoth (inBoth (inBoth (inBoth inNil))))))))))))))))))
    | (with_reducible refine Within.trans ?_ hL; decide +kernel)
    | (extract_lets +onlyGivenNames letX; clear_value letX; revert letX; intro _)
    | with_reducible refine Leaves.ite ?_ ?_
    | split
    | with_reducible refine Leaves.ofPair (by assumption) ?_

theorem State.chRest_leaves {W : List Span} {L : List Part} {org s : State} (v imax imean : Int) (h : Leaves W L org s)
    (hW : Inside (one CHARGER_STATUS.REST_INVALID :: one CHARGER_STATUS.V_REST :: one EST_SHORT :: one EST_SHORT_STAMP :: one RS_I :: one RS_OK :: one RS_V :: []) W) (hL : Within ([.collector] : List Part) L) :
    Leaves W L org (State.chRest s v imax imean) := by
  delta State.chRest
  repeat' first
    | with_reducible assumption
    | with_reducible apply State.set_leaves
    | with_reducible apply State.setN_leaves
    | with_reducible apply State.count_leaves
    | with_reducible apply State.raiseCharger_leaves
    | (with_unfolding_none refine hW.covers ?_; repeat first | with_unfolding_none exact Covered.here | with_unfolding_none exact CHARGER_STATUS.REST_INVALID_in | with_unfolding_none exact CHARGER_STATUS.V_REST_in | with_unfolding_none exact EST_SHORT_in | with_unfolding_none exact EST_SHORT_STAMP_in | with_unfolding_none exact RS_I_in | with_unfolding_none exact RS_OK_in | with_unfolding_none exact RS_V_in | with_unfolding_none refine Covered.next ?_)
    | with_unfolding_none apply hW.sub (inNil)
    | (with_reducible refine Within.trans ?_ hL; decide +kernel)
    | (extract_lets +onlyGivenNames letX; have letT : True := (by clear_value letX; guard_hyp letX : State; trivial); clear letT; refine Leaves.cut (W := W) (L := L) (r := org) (v := letX) ?_ (fun letH => ?_); (focus subst letX); rotate_left; clear_value letX; revert letX; intro _ _)
    | (extract_lets +onlyGivenNames letX; clear_value letX; revert letX; intro _)
    | with_reducible refine Leaves.ite ?_ ?_

theorem State.chRestEnd_leaves {W : List Span} {L : List Part} {org s : State} (v imax imean : Int) (h : Leaves W L org s)
    (hW : Inside (one CHARGER_STATUS.ON_TIME :: one CHARGER_STATUS.PHASE :: one CHARGER_STATUS.PULSES :: one CHARGER_STATUS.REST_INVALID :: one CHARGER_STATUS.STAGE :: one CHARGER_STATUS.V_REST :: one CH_CLOCK :: one CH_CLOCK_AT :: one CH_FULL :: one CH_HOLD_AT :: one CH_PHASE_AT :: one CH_QUALIFY_AT :: one CH_STAGE_AT :: one CH_T_PREV :: one (CONVERTER_STATUS.CONV_FLAGS 1) :: one EST_SHORT :: one EST_SHORT_STAMP :: one (OVR_END 1) :: one (OVR_MAX 1) :: one (OVR_MIN 1) :: one (OVR_ON 1) :: one (OVR_REF 1) :: one RS_I :: one RS_OK :: one RS_V :: []) W) (hL : Within ([.collector, .free, .staged] : List Part) L) :
    Leaves W L org (State.chRestEnd s v imax imean) := by
  delta State.chRestEnd
  repeat' first
    | with_reducible assumption
    | with_reducible apply State.chRest_leaves
    | with_reducible apply State.chDecide_leaves
    | with_unfolding_none apply hW.sub (inSkip (inSkip (inSkip (inBoth (inSkip (inBoth (inSkip (inSkip (inSkip (inSkip (inSkip (inSkip (inSkip (inSkip (inSkip (inBoth (inBoth (inSkip (inSkip (inSkip (inSkip (inSkip (inBoth (inBoth (inBoth inNil)))))))))))))))))))))))))
    | with_unfolding_none apply hW.sub (inBoth (inBoth (inBoth (inSkip (inBoth (inSkip (inBoth (inBoth (inBoth (inBoth (inBoth (inBoth (inBoth (inBoth (inBoth (inSkip (inSkip (inBoth (inBoth (inBoth (inBoth (inBoth inNil))))))))))))))))))))))
    | (with_reducible refine Within.trans ?_ hL; decide +kernel)
    | (extract_lets +onlyGivenNames letX; have letT : True := (by clear_value letX; guard_hyp letX : State; trivial); clear letT; refine Leaves.cut (W := W) (L := L) (r := org) (v := letX) ?_ (fun letH => ?_); (focus subst letX); rotate_left; clear_value letX; revert letX; intro _ _)
    | with_reducible refine Leaves.ite ?_ ?_

theorem State.chPulseEnd_leaves {W : List Span} {L : List Part} {org s : State} (h : Leaves W L org s)
    (hW : Inside (one CHARGER_STATUS.STAGE :: one CH_STAGE_AT :: one (CONVERTER_STATUS.CONV_FLAGS 1) :: one (OVR_END 1) :: one (OVR_MAX 1) :: one (OVR_MIN 1) :: one (OVR_ON 1) :: one (OVR_REF 1) :: []) W) (hL : Within ([.staged] : List Part) L) :
    Leaves W L org (State.chPulseEnd s) := by
  delta State.chPulseEnd
  repeat' first
    | with_reducible assumption
    | with_reducible apply State.chStage_leaves
    | with_unfolding_none apply hW.sub (inBoth (inBoth (inBoth (inBoth (inBoth (inBoth (inBoth (inBoth inNil))))))))
    | (with_reducible refine Within.trans ?_ hL; decide +kernel)
    | with_reducible refine Leaves.ite ?_ ?_

theorem State.chCut_leaves {W : List Span} {L : List Part} {org s : State} (us : Nat) (h : Leaves W L org s)
    (hW : Inside (one CHARGER_STATUS.STAGE :: one CH_STAGE_AT :: one (CONVERTER_STATUS.CONV_FLAGS 1) :: one (OVR_END 1) :: one (OVR_MAX 1) :: one (OVR_MIN 1) :: one (OVR_ON 1) :: one (OVR_REF 1) :: []) W) (hL : Within ([.collector, .staged] : List Part) L) :
    Leaves W L org (State.chCut s us) := by
  delta State.chCut
  repeat' first
    | with_reducible assumption
    | with_reducible apply State.raiseCharger_leaves
    | with_reducible apply State.chStage_leaves
    | with_unfolding_none apply hW.sub (inNil)
    | with_unfolding_none apply hW.sub (inBoth (inBoth (inBoth (inBoth (inBoth (inBoth (inBoth (inBoth inNil))))))))
    | (with_reducible refine Within.trans ?_ hL; decide +kernel)
    | (extract_lets +onlyGivenNames letX; have letT : True := (by clear_value letX; guard_hyp letX : State; trivial); clear letT; refine Leaves.cut (W := W) (L := L) (r := org) (v := letX) ?_ (fun letH => ?_); (focus subst letX); rotate_left; clear_value letX; revert letX; intro _ _)
    | (extract_lets +onlyGivenNames letX; clear_value letX; revert letX; intro _)
    | with_reducible refine Leaves.ite ?_ ?_

theorem State.chHoldSample_leaves {W : List Span} {L : List Part} {org s : State} (v imax imean : Int) (h : Leaves W L org s)
    (hW : Inside (one CHARGER_STATUS.ON_TIME :: one CHARGER_STATUS.PHASE :: one CHARGER_STATUS.PULSES :: one CHARGER_STATUS.REST_INVALID :: one CHARGER_STATUS.STAGE :: one CHARGER_STATUS.V_REST :: one CH_CLOCK :: one CH_CLOCK_AT :: one CH_FULL :: one CH_HOLD_AT :: one CH_PHASE_AT :: one CH_QUALIFY_AT :: one CH_STAGE_AT :: one CH_T_PREV :: one (CONVERTER_STATUS.CONV_FLAGS 1) :: one EST_SHORT :: one EST_SHORT_STAMP :: one (OVR_END 1) :: one (OVR_MAX 1) :: one (OVR_MIN 1) :: one (OVR_ON 1) :: one (OVR_REF 1) :: one RS_I :: one RS_OK :: one RS_V :: []) W) (hL : Within ([.collector, .staged] : List Part) L) :
    Leaves W L org (State.chHoldSample s v imax imean) := by
  delta State.chHoldSample
  repeat' first
    | with_reducible assumption
    | with_reducible apply State.setN_leaves
    | with_reducible apply State.chRest_leaves
    | with_reducible apply State.chEnter_leaves
    | with_reducible apply State.chPulse_leaves
    | (with_unfolding_none refine hW.covers ?_; repeat first | with_unfolding_none exact Covered.here | with_unfolding_none exact CH_HOLD_AT_in | with_unfolding_none exact CH_T_PREV_in | with_unfolding_none refine Covered.next ?_)
    | with_unfolding_none apply hW.sub (inSkip (inSkip (inSkip (inBoth (inSkip (inBoth (inSkip (inSkip (inSkip (inSkip (inSkip (inSkip (inSkip (inSkip (inSkip (inBoth (inBoth (inSkip (inSkip (inSkip (inSkip (inSkip (inBoth (inBoth (inBoth inNil)))))))))))))))))))))))))
    | with_unfolding_none apply hW.sub (inSkip (inBoth (inSkip (inSkip (inSkip (inSkip (inBoth (inBoth (inBoth (inBoth (inBoth (inBoth inNil))))))))))))
    | with_unfolding_none apply hW.sub (inBoth (inSkip (inBoth (inSkip (inBoth (inSkip (inSkip (inSkip (inSkip (inSkip (inSkip (inSkip (inBoth (inSkip (inBoth (inSkip (inSkip (inBoth (inBoth (inBoth (inBoth (inBoth inNil))))))))))))))))))))))
    | (with_reducible refine Within.trans ?_ hL; decide +kernel)
    | (extract_lets +onlyGivenNames letX; have letT : True := (by clear_value letX; guard_hyp letX : State; trivial); clear letT; refine Leaves.cut (W := W) (L := L) (r := org) (v := letX) ?_ (fun letH => ?_); (focus subst letX); rotate_left; clear_value letX; revert letX; intro _ _)
    | with_reducible refine Leaves.ite ?_ ?_

theorem State.chQualifyTimeout_leaves {W : List Span} {L : List Part} {org s : State} (h : Leaves W L org s)
    (hW : Inside (one CHARGER_STATUS.FAULT_CAUSE :: one CHARGER_STATUS.PHASE :: one CHARGER_STATUS.STAGE :: one CH_CLOCK :: one CH_CLOCK_AT :: one CH_FULL :: one CH_HOLD_AT :: one CH_PHASE_AT :: one CH_QUALIFY_AT :: one CH_STAGE_AT :: one (CONVERTER_STATUS.CONV_FLAGS 1) :: one (OVR_END 1) :: one (OVR_MAX 1) :: one (OVR_MIN 1) :: one (OVR_ON 1) :: one (OVR_REF 1) :: []) W) (hL : Within ([.collector, .staged] : List Part) L) :
    Leaves W L org (State.chQualifyTimeout s) := by
  delta State.chQualifyTimeout
  repeat' first
    | with_reducible assumption
    | with_reducible apply State.chFault_leaves
    | with_unfolding_none apply hW.sub (inBoth (inBoth (inBoth (inBoth (inBoth (inBoth (inBoth (inBoth (inBoth (inBoth (inBoth (inBoth (inBoth (inBoth (inBoth (inBoth inNil))))))))))))))))
    | (with_reducible refine Within.trans ?_ hL; decide +kernel)
    | with_reducible refine Leaves.ite ?_ ?_

theorem State.chTimeout_leaves {W : List Span} {L : List Part} {org s : State} (h : Leaves W L org s)
    (hW : Inside (one CHARGER_STATUS.FAULT_CAUSE :: one CHARGER_STATUS.PHASE :: one CHARGER_STATUS.STAGE :: one CH_CLOCK :: one CH_CLOCK_AT :: one CH_FULL :: one CH_HOLD_AT :: one CH_PHASE_AT :: one CH_QUALIFY_AT :: one CH_STAGE_AT :: one (CONVERTER_STATUS.CONV_FLAGS 1) :: one (OVR_END 1) :: one (OVR_MAX 1) :: one (OVR_MIN 1) :: one (OVR_ON 1) :: one (OVR_REF 1) :: []) W) (hL : Within ([.collector, .staged] : List Part) L) :
    Leaves W L org (State.chTimeout s) := by
  delta State.chTimeout
  repeat' first
    | with_reducible assumption
    | with_reducible apply State.chFault_leaves
    | with_unfolding_none apply hW.sub (inBoth (inBoth (inBoth (inBoth (inBoth (inBoth (inBoth (inBoth (inBoth (inBoth (inBoth (inBoth (inBoth (inBoth (inBoth (inBoth inNil))))))))))))))))
    | (with_reducible refine Within.trans ?_ hL; decide +kernel)
    | with_reducible refine Leaves.ite ?_ ?_

theorem State.chBoundary_leaves {W : List Span} {L : List Part} {org s : State} (h : Leaves W L org s)
    (hW : Inside (one CHARGER_STATUS.PHASE :: one CHARGER_STATUS.STAGE :: one CHARGER_STATUS.SUSPEND_CAUSE :: one CH_CLOCK :: one CH_CLOCK_AT :: one CH_FULL :: one CH_HOLD_AT :: one CH_PHASE_AT :: one CH_QUALIFY_AT :: one CH_STAGE_AT :: one (CONVERTER_STATUS.CONV_FLAGS 1) :: one (OVR_END 1) :: one (OVR_MAX 1) :: one (OVR_MIN 1) :: one (OVR_ON 1) :: one (OVR_REF 1) :: []) W) (hL : Within ([.collector, .staged] : List Part) L) :
    Leaves W L org (State.chBoundary s) := by
  delta State.chBoundary
  repeat' first
    | with_reducible assumption
    | with_reducible apply State.setN_leaves
    | with_reducible apply State.chQualify_leaves
    | with_reducible apply State.raiseCharger_leaves
    | with_reducible apply State.chEnter_leaves
    | with_reducible apply State.chStage_leaves
    | (with_unfolding_none refine hW.covers ?_; repeat first | with_unfolding_none exact Covered.here | with_unfolding_none exact CHARGER_STATUS.SUSPEND_CAUSE_in | with_unfolding_none refine Covered.next ?_)
    | with_unfolding_none apply hW.sub (inBoth (inBoth (inBoth (inBoth (inBoth (inBoth (inBoth (inBoth (inBoth (inBoth (inBoth (inBoth (inBoth (inBoth (inBoth (inBoth inNil))))))))))))))))
    | with_unfolding_none apply hW.sub (inNil)
    | with_unfolding_none apply hW.sub (inBoth (inSkip (inSkip (inBoth (inBoth (inBoth (inBoth (inBoth (inBoth inNil)))))))))
    | with_unfolding_none apply hW.sub (inSkip (inBoth (inSkip (inSkip (inSkip (inSkip (inSkip (inSkip (inSkip (inBoth (inBoth (inBoth (inBoth (inBoth (inBoth (inBoth inNil))))))))))))))))
    | (with_reducible refine Within.trans ?_ hL; decide +kernel)
    | (extract_lets +onlyGivenNames letX; have letT : True := (by clear_value letX; guard_hyp letX : State; trivial); clear letT; refine Leaves.cut (W := W) (L := L) (r := org) (v := letX) ?_ (fun letH => ?_); (focus subst letX); rotate_left; clear_value letX; revert letX; intro _ _)
    | (extract_lets +onlyGivenNames letX; clear_value letX; revert letX; intro _)
    | with_reducible refine Leaves.ite ?_ ?_

theorem State.asClamps_leaves {W : List Span} {L : List Part} {org s : State} (ref i : Int) (h : Leaves W L org s)
    (hW : Inside (one (CONVERTER_STATUS.CONV_FLAGS 2) :: one (OVR_END 2) :: one (OVR_MAX 2) :: one (OVR_MIN 2) :: one (OVR_ON 2) :: one (OVR_REF 2) :: []) W) :
    Leaves W L org (State.asClamps s ref i) := by
  delta State.asClamps
  repeat' first
    | with_reducible assumption
    | with_reducible apply State.overrides_leaves
    | with_unfolding_none apply hW.sub (inBoth (inBoth (inBoth (inBoth (inBoth (inBoth inNil))))))

theorem State.asEnter_leaves {W : List Span} {L : List Part} {org s : State} (st : Nat) (h : Leaves W L org s)
    (hW : Inside (one ASSIST_STATUS.ASSIST_STATE :: one AS_STATE_AT :: []) W) :
    Leaves W L org (State.asEnter s st) := by
  delta State.asEnter
  repeat' first
    | with_reducible assumption
    | with_reducible apply State.setN_leaves
    | (with_unfolding_none refine hW.covers ?_; repeat first | with_unfolding_none exact Covered.here | with_unfolding_none exact ASSIST_STATUS.ASSIST_STATE_in | with_unfolding_none exact AS_STATE_AT_in | with_unfolding_none refine Covered.next ?_)

theorem State.asDrop_leaves {W : List Span} {L : List Part} {org s : State} (h : Leaves W L org s)
    (hW : Inside (one ASSIST_STATUS.ASSIST_STATE :: one AS_CLOSED :: one AS_END :: one AS_TIME :: one (CONVERTER_STATUS.CONV_FLAGS 2) :: one (OVR_END 2) :: one (OVR_ON 2) :: []) W) :
    Leaves W L org (State.asDrop s) := by
  delta State.asDrop
  repeat' first
    | with_reducible assumption
    | with_reducible apply State.setN_leaves
    | with_reducible apply State.overrideDrop_leaves
    | (with_unfolding_none refine hW.covers ?_; repeat first | with_unfolding_none exact Covered.here | with_unfolding_none exact ASSIST_STATUS.ASSIST_STATE_in | with_unfolding_none exact AS_CLOSED_in | with_unfolding_none exact AS_END_in | with_unfolding_none exact AS_TIME_in | with_unfolding_none refine Covered.next ?_)
    | with_unfolding_none apply hW.sub (inSkip (inSkip (inSkip (inSkip (inBoth (inBoth (inBoth inNil)))))))
    | (extract_lets +onlyGivenNames letX; have letT : True := (by clear_value letX; guard_hyp letX : State; trivial); clear letT; refine Leaves.cut (W := W) (L := L) (r := org) (v := letX) ?_ (fun letH => ?_); (focus subst letX); rotate_left; clear_value letX; revert letX; intro _ _)

theorem State.asOrdinary_leaves {W : List Span} {L : List Part} {org s : State} (result : Nat) (h : Leaves W L org s)
    (hW : Inside (one AS_END :: one AS_END_AT :: one (CONVERTER_STATUS.CONV_FLAGS 2) :: one (OVR_END 2) :: one (OVR_MAX 2) :: one (OVR_MIN 2) :: one (OVR_ON 2) :: one (OVR_REF 2) :: []) W) :
    Leaves W L org (State.asOrdinary s result) := by
  delta State.asOrdinary
  repeat' first
    | with_reducible assumption
    | with_reducible apply State.setN_leaves
    | with_reducible apply State.asClamps_leaves
    | (with_unfolding_none refine hW.covers ?_; repeat first | with_unfolding_none exact Covered.here | with_unfolding_none exact AS_END_in | with_unfolding_none exact AS_END_AT_in | with_unfolding_none refine Covered.next ?_)
    | with_unfolding_none apply hW.sub (inSkip (inSkip (inBoth (inBoth (inBoth (inBoth (inBoth (inBoth inNil))))))))
    | with_reducible refine Leaves.ite ?_ ?_

theorem State.asStart_leaves {W : List Span} {L : List Part} {org s : State} (h : Leaves W L org s)
    (hW : Inside (one ASSIST_STATUS.ASSIST_RESULT :: one ASSIST_STATUS.ASSIST_STATE :: one ASSIST_STATUS.DELIVERED_CHARGE :: one ASSIST_STATUS.SESSIONS :: one AS_AT :: one AS_STATE_AT :: []) W) (hL : Within ([.collector] : List Part) L) :
    Leaves W L org (State.asStart s) := by
  delta State.asStart
  repeat' first
    | with_reducible assumption
    | with_reducible apply State.setN_leaves
    | with_reducible apply State.count_leaves
    | with_reducible apply State.raiseAssist_leaves
    | with_reducible apply State.asEnter_leaves
    | (with_unfolding_none refine hW.covers ?_; repeat first | with_unfolding_none exact Covered.here | with_unfolding_none exact ASSIST_STATUS.ASSIST_RESULT_in | with_unfolding_none exact ASSIST_STATUS.DELIVERED_CHARGE_in | with_unfolding_none exact ASSIST_STATUS.SESSIONS_in | with_unfolding_none exact AS_AT_in | with_unfolding_none refine Covered.next ?_)
    | with_unfolding_none apply hW.sub (inNil)
    | with_unfolding_none apply hW.sub (inSkip (inBoth (inSkip (inSkip (inSkip (inBoth inNil))))))
    | (with_reducible refine Within.trans ?_ hL; decide +kernel)
    | (extract_lets +onlyGivenNames letX; have letT : True := (by clear_value letX; guard_hyp letX : State; trivial); clear letT; refine Leaves.cut (W := W) (L := L) (r := org) (v := letX) ?_ (fun letH => ?_); (focus subst letX); rotate_left; clear_value letX; revert letX; intro _ _)
    | with_reducible refine Leaves.ite ?_ ?_

theorem State.asRefuse_leaves {W : List Span} {L : List Part} {org s : State} (result : Nat) (asv : Int) (h : Leaves W L org s)
    (hW : Inside (one ASSIST_STATUS.ASSIST_RESULT :: one ASSIST_STATUS.ASSIST_STATE :: one AS_TIME :: []) W) (hL : Within ([.collector] : List Part) L) :
    Leaves W L org (State.asRefuse s result asv) := by
  delta State.asRefuse
  repeat' first
    | with_reducible assumption
    | with_reducible apply State.setN_leaves
    | with_reducible apply State.raiseAssist_leaves
    | (with_unfolding_none refine hW.covers ?_; repeat first | with_unfolding_none exact Covered.here | with_unfolding_none exact ASSIST_STATUS.ASSIST_RESULT_in | with_unfolding_none exact ASSIST_STATUS.ASSIST_STATE_in | with_unfolding_none exact AS_TIME_in | with_unfolding_none refine Covered.next ?_)
    | with_unfolding_none apply hW.sub (inNil)
    | (with_reducible refine Within.trans ?_ hL; decide +kernel)
    | (extract_lets +onlyGivenNames letX; have letT : True := (by clear_value letX; guard_hyp letX : State; trivial); clear letT; refine Leaves.cut (W := W) (L := L) (r := org) (v := letX) ?_ (fun letH => ?_); (focus subst letX); rotate_left; clear_value letX; revert letX; intro _ _)

theorem State.asCheck_leaves {W : List Span} {L : List Part} {org s : State} (asv : Int) (h : Leaves W L org s)
    (hW : Inside (one ASSIST_STATUS.ASSIST_RESULT :: one ASSIST_STATUS.ASSIST_STATE :: one AS_CLOSED :: one AS_STATE_AT :: one AS_TIME :: one (CONVERTER_STATUS.CONV_FLAGS 2) :: one (OVR_END 2) :: one (OVR_MAX 2) :: one (OVR_MIN 2) :: one (OVR_ON 2) :: one (OVR_REF 2) :: []) W) (hL : Within ([.collector] : List Part) L) :
    Leaves W L org (State.asCheck s asv) := by
  delta State.asCheck
  repeat' first
    | with_reducible assumption
    | with_reducible apply State.setN_leaves
    | with_reducible apply State.asRefuse_leaves
    | with_reducible apply State.asEnter_leaves
    | with_reducible apply State.asClamps_leaves
    | with_reducible apply State.raiseAssist_leaves
    | (with_unfolding_none refine hW.covers ?_; repeat first | with_unfolding_none exact Covered.here | with_unfolding_none exact AS_CLOSED_in | with_unfolding_none refine Covered.next ?_)
    | with_unfolding_none apply hW.sub (inBoth (inBoth (inSkip (inSkip (inBoth inNil)))))
    | with_unfolding_none apply hW.sub (inSkip (inBoth (inSkip (inBoth inNil))))
    | with_unfolding_none apply hW.sub (inSkip (inSkip (inSkip (inSkip (inSkip (inBoth (inBoth (inBoth (inBoth (inBoth (inBoth inNil)))))))))))
    | with_unfolding_none apply hW.sub (inNil)
    | (with_reducible refine Within.trans ?_ hL; decide +kernel)
    | (extract_lets +onlyGivenNames letX; have letT : True := (by clear_value letX; guard_hyp letX : State; trivial); clear letT; refine Leaves.cut (W := W) (L := L) (r := org) (v := letX) ?_ (fun letH => ?_); (focus subst letX); rotate_left; clear_value letX; revert letX; intro _ _)
    | (extract_lets +onlyGivenNames letX; clear_value letX; revert letX; intro _)
    | with_reducible refine Leaves.ite ?_ ?_

theorem State.asSupply_leaves {W : List Span} {L : List Part} {org s : State} (h : Leaves W L org s)
    (hW : Inside (one ASSIST_STATUS.ASSIST_STATE :: one AS_CLOSED :: one AS_STATE_AT :: one (CONVERTER_STATUS.CONV_FLAGS 2) :: one (OVR_END 2) :: one (OVR_MAX 2) :: one (OVR_MIN 2) :: one (OVR_ON 2) :: one (OVR_REF 2) :: []) W) :
    Leaves W L org (State.asSupply s) := by
  delta State.asSupply
  repeat' first
    | with_reducible assumption
    | with_reducible apply State.setN_leaves
    | with_reducible apply State.asEnter_leaves
    | with_reducible apply State.asClamps_leaves
    | (with_unfolding_none refine hW.covers ?_; repeat first | with_unfolding_none exact Covered.here | with_unfolding_none exact AS_CLOSED_in | with_unfolding_none refine Covered.next ?_)
    | with_unfolding_none apply hW.sub (inBoth (inSkip (inBoth inNil)))
    | with_unfolding_none apply hW.sub (inSkip (inSkip (inSkip (inBoth (inBoth (inBoth (inBoth (inBoth (inBoth inNil)))))))))

theorem State.asPrecharged_leaves {W : List Span} {L : List Part} {org s : State} (asv : Int) (us : Nat) (h : Leaves W L org s)
    (hW : Inside (one ASSIST_STATUS.ASSIST_STATE :: one AS_CLOSED :: one AS_STATE_AT :: one (CONVERTER_STATUS.CONV_FLAGS 2) :: one (OVR_END 2) :: one (OVR_MAX 2) :: one (OVR_MIN 2) :: one (OVR_ON 2) :: one (OVR_REF 2) :: []) W) :
    Leaves W L org (State.asPrecharged s asv us) := by
  delta State.asPrecharged
  repeat' first
    | with_reducible assumption
    | with_reducible apply State.asSupply_leaves
    | with_unfolding_none apply hW.sub (inBoth (inBoth (inBoth (inBoth (inBoth (inBoth (inBoth (inBoth (inBoth inNil)))))))))
    | with_reducible refine Leaves.ite ?_ ?_

theorem State.asPrechargeTimeout_leaves {W : List Span} {L : List Part} {org s : State} (h : Leaves W L org s)
    (hW : Inside (one AS_END :: one AS_END_AT :: one (CONVERTER_STATUS.CONV_FLAGS 2) :: one (OVR_END 2) :: one (OVR_MAX 2) :: one (OVR_MIN 2) :: one (OVR_ON 2) :: one (OVR_REF 2) :: []) W) :
    Leaves W L org (State.asPrechargeTimeout s) := by
  delta State.asPrechargeTimeout
  repeat' first
    | with_reducible assumption
    | with_reducible apply State.asOrdinary_leaves
    | with_unfolding_none apply hW.sub (inBoth (inBoth (inBoth (inBoth (inBoth (inBoth (inBoth (inBoth inNil))))))))
    | with_reducible refine Leaves.ite ?_ ?_

theorem State.asMatch_leaves {W : List Span} {L : List Part} {org s : State} (diff : Int) (h : Leaves W L org s)
    (hW : Inside (one ASSIST_STATUS.ASSIST_STATE :: one AS_CLOSED :: one AS_STATE_AT :: one (CONVERTER_STATUS.CONV_FLAGS 2) :: one (OVR_END 2) :: one (OVR_MAX 2) :: one (OVR_MIN 2) :: one (OVR_ON 2) :: one (OVR_REF 2) :: []) W) :
    Leaves W L org (State.asMatch s diff) := by
  delta State.asMatch
  repeat' first
    | with_reducible assumption
    | with_reducible apply State.asSupply_leaves
    | with_unfolding_none apply hW.sub (inBoth (inBoth (inBoth (inBoth (inBoth (inBoth (inBoth (inBoth (inBoth inNil)))))))))
    | with_reducible refine Leaves.ite ?_ ?_

theorem State.asMatchTimeout_leaves {W : List Span} {L : List Part} {org s : State} (h : Leaves W L org s)
    (hW : Inside (one ASSIST_STATUS.ASSIST_CURRENT :: one ASSIST_STATUS.ASSIST_RESULT :: one ASSIST_STATUS.ASSIST_STATE :: one AS_CLOSED :: one AS_END :: one AS_TIME :: one (OVR_END 2) :: []) W) (hL : Within ([.collector] : List Part) L) :
    Leaves W L org (State.asMatchTimeout s) := by
  delta State.asMatchTimeout
  repeat' first
    | with_reducible assumption
    | with_reducible apply State.asFinish_leaves
    | with_unfolding_none apply hW.sub (inBoth (inBoth (inBoth (inBoth (inBoth (inBoth (inBoth inNil)))))))
    | (with_reducible refine Within.trans ?_ hL; decide +kernel)
    | with_reducible refine Leaves.ite ?_ ?_

theorem State.asTimeout_leaves {W : List Span} {L : List Part} {org s : State} (h : Leaves W L org s)
    (hW : Inside (one AS_END :: one AS_END_AT :: one (CONVERTER_STATUS.CONV_FLAGS 2) :: one (OVR_END 2) :: one (OVR_MAX 2) :: one (OVR_MIN 2) :: one (OVR_ON 2) :: one (OVR_REF 2) :: []) W) :
    Leaves W L org (State.asTimeout s) := by
  delta State.asTimeout
  repeat' first
    | with_reducible assumption
    | with_reducible apply State.asOrdinary_leaves
    | with_unfolding_none apply hW.sub (inBoth (inBoth (inBoth (inBoth (inBoth (inBoth (inBoth (inBoth inNil))))))))
    | with_reducible refine Leaves.ite ?_ ?_

theorem State.asForeign_leaves {W : List Span} {L : List Part} {org s : State} (asv : Int) (us : Nat) (h : Leaves W L org s)
    (hW : Inside (one AS_END :: one AS_END_AT :: one (CONVERTER_STATUS.CONV_FLAGS 2) :: one (OVR_END 2) :: one (OVR_MAX 2) :: one (OVR_MIN 2) :: one (OVR_ON 2) :: one (OVR_REF 2) :: []) W) :
    Leaves W L org (State.asForeign s asv us) := by
  delta State.asForeign
  repeat' first
    | with_reducible assumption
    | with_reducible apply State.asOrdinary_leaves
    | with_unfolding_none apply hW.sub (inBoth (inBoth (inBoth (inBoth (inBoth (inBoth (inBoth (inBoth inNil))))))))
    | with_reducible refine Leaves.ite ?_ ?_

theorem State.asOpen_leaves {W : List Span} {L : List Part} {org s : State} (h : Leaves W L org s)
    (hW : Inside (one ASSIST_STATUS.ASSIST_CURRENT :: one ASSIST_STATUS.ASSIST_RESULT :: one ASSIST_STATUS.ASSIST_STATE :: one AS_CLOSED :: one AS_END :: one AS_TIME :: one (OVR_END 2) :: []) W) (hL : Within ([.collector] : List Part) L) :
    Leaves W L org (State.asOpen s) := by
  delta State.asOpen
  repeat' first
    | with_reducible assumption
    | with_reducible apply State.asFinish_leaves
    | with_unfolding_none apply hW.sub (inBoth (inBoth (inBoth (inBoth (inBoth (inBoth (inBoth inNil)))))))
    | (with_reducible refine Within.trans ?_ hL; decide +kernel)
    | with_reducible refine Leaves.ite ?_ ?_

theorem State.asBoundary_leaves {W : List Span} {L : List Part} {org s : State} (h : Leaves W L org s)
    (hW : Inside (one ASSIST_STATUS.ASSIST_CURRENT :: one ASSIST_STATUS.ASSIST_RESULT :: one ASSIST_STATUS.ASSIST_STATE :: one ASSIST_STATUS.DELIVERED_CHARGE :: one AS_CLOSED :: one AS_END :: one AS_TIME :: one (OVR_END 2) :: []) W) (hL : Within ([.collector] : List Part) L) :
    Leaves W L org (State.asBoundary s) := by
  delta State.asBoundary
  repeat' first
    | with_reducible assumption
    | with_reducible apply State.set_leaves
    | with_reducible apply State.asFinish_leaves
    | (with_unfolding_none refine hW.covers ?_; repeat first | with_unfolding_none exact Covered.here | with_unfolding_none exact ASSIST_STATUS.ASSIST_CURRENT_in | with_unfolding_none exact ASSIST_STATUS.DELIVERED_CHARGE_in | with_unfolding_none refine Covered.next ?_)
    | with_unfolding_none apply hW.sub (inBoth (inBoth (inBoth (inSkip (inBoth (inBoth (inBoth (inBoth inNil))))))))
    | (with_reducible refine Within.trans ?_ hL; decide +kernel)
    | (extract_lets +onlyGivenNames letX; have letT : True := (by clear_value letX; guard_hyp letX : State; trivial); clear letT; refine Leaves.cut (W := W) (L := L) (r := org) (v := letX) ?_ (fun letH => ?_); (focus subst letX); rotate_left; clear_value letX; revert letX; intro _ _)
    | (extract_lets +onlyGivenNames letX; clear_value letX; revert letX; intro _)
    | with_reducible refine Leaves.ite ?_ ?_

theorem State.convertersOut_leaves {W : List Span} {L : List Part} {org s : State} (h : Leaves W L org s)
    (hW : Inside (one ASSIST_STATUS.ASSIST_CURRENT :: one ASSIST_STATUS.ASSIST_RESULT :: one ASSIST_STATUS.ASSIST_STATE :: one AS_CLOSED :: one AS_END :: one AS_TIME :: each CONVERTER.ENABLE :: each CONVERTER_STATUS.CONV_FLAGS :: each CONVERTER_STATUS.STATE :: each CONV_LIMIT :: each CONV_PHASE :: each CWIN :: each2 CWIN_AT :: each2 LANE_EDGE :: one (OVR_END 2) :: each TRUNC_LONGEST :: each TRUNC_SINCE :: each TRUNC_TOLD_AT :: (each fun n => inForce (CONVERTER.ENABLE n)) :: []) W) (hL : Within ([.collector, .shadows] : List Part) L) :
    Leaves W L org (State.convertersOut s) := by
  delta State.convertersOut
  repeat' first
    | with_reducible assumption
    | with_reducible apply State.setN_leaves
    | with_reducible apply State.convLeave_leaves
    | (with_unfolding_none refine hW.covers ?_; repeat first | with_unfolding_none exact Covered.here | with_unfolding_none exact CONVERTER.ENABLE_in | with_unfolding_none exact CONV_PHASE_in | with_unfolding_none exact inForce_CONVERTER.ENABLE_in | with_unfolding_none refine Covered.next ?_)
    | with_unfolding_none apply hW.sub (inBoth (inBoth (inBoth (inBoth (inBoth (inBoth (inSkip (CONVERTER_STATUS.CONV_FLAGS_wide (inSkip (CONVERTER_STATUS.STATE_wide (inSkip (CONV_LIMIT_wide (inSkip (CONV_PHASE_wide (inSkip (CWIN_wide (inSkip (CWIN_AT_wide (inSkip (inBoth (inBoth (TRUNC_LONGEST_wide (inSkip (TRUNC_SINCE_wide (inSkip (TRUNC_TOLD_AT_wide inNil))))))))))))))))))))))))))
    | (with_reducible refine Within.trans ?_ hL; decide +kernel)
    | (extract_lets +onlyGivenNames letX; have letT : True := (by clear_value letX; guard_hyp letX : State; trivial); clear letT; refine Leaves.cut (W := W) (L := L) (r := org) (v := letX) ?_ (fun letH => ?_); (focus subst letX); rotate_left; clear_value letX; revert letX; intro _ _)
    | with_reducible refine Leaves.ite ?_ ?_
    | with_reducible refine forBelow_leaves ?_ (fun _ _ _ => ?_)

theorem State.holdEnds_leaves {W : List Span} {L : List Part} {org s : State} (h : Leaves W L org s)
    (hW : Inside (one KEEPER.LAST_HOLD_SECONDS :: one KEEPER_HOLDING :: []) W) :
    Leaves W L org (State.holdEnds s) := by
  delta State.holdEnds
  repeat' first
    | with_reducible assumption
    | with_reducible apply State.setN_leaves
    | (with_unfolding_none refine hW.covers ?_; repeat first | with_unfolding_none exact Covered.here | with_unfolding_none exact KEEPER.LAST_HOLD_SECONDS_in | with_unfolding_none exact KEEPER_HOLDING_in | with_unfolding_none refine Covered.next ?_)
    | with_reducible refine Leaves.ite ?_ ?_

theorem State.powerCycle_leaves {W : List Span} {L : List Part} {org s : State} (h : Leaves W L org s)
    (hW : Inside (one KEEPER.FAILED_OPENINGS :: one KEEPER.LAST_HOLD_SECONDS :: one KEEPER.RETRY_SERIES :: one KEEPER_HOLDING :: []) W) :
    Leaves W L org (State.powerCycle s) := by
  delta State.powerCycle
  repeat' first
    | with_reducible assumption
    | with_reducible apply State.setN_leaves
    | with_reducible apply State.holdEnds_leaves
    | (with_unfolding_none refine hW.covers ?_; repeat first | with_unfolding_none exact Covered.here | with_unfolding_none exact KEEPER.FAILED_OPENINGS_in | with_unfolding_none exact KEEPER.RETRY_SERIES_in | with_unfolding_none refine Covered.next ?_)
    | with_unfolding_none apply hW.sub (inSkip (inBoth (inSkip (inBoth inNil))))

theorem State.btnPress_leaves {W : List Span} {L : List Part} {org s : State} (h : Leaves W L org s)
    (hW : Inside (one BTN_FELL :: one BTN_LONG :: one PARK_STAGE :: one PON_CONTROL.PON_CHANGES :: one PON_CONTROL.PON_LAST_CAUSE :: one PON_CONTROL.PON_STATE :: one POWER_STATE.PARK_ABORTS :: one POWER_STATE.STATE :: one SHIP_CONTROL.BTN_STATE :: one WAKE_CONFIG.WAKE_LATCHED :: one WAKE_PENDING :: []) W) (hL : Within ([.collector] : List Part) L) :
    Leaves W L org (State.btnPress s) := by
  delta State.btnPress
  repeat' first
    | with_reducible assumption
    | with_reducible apply State.setN_leaves
    | with_reducible apply State.latchSet_leaves
    | with_reducible apply State.wakeBy_leaves
    | (with_unfolding_none refine hW.covers ?_; repeat first | with_unfolding_none exact Covered.here | with_unfolding_none exact BTN_FELL_in | with_unfolding_none exact BTN_LONG_in | with_unfolding_none exact SHIP_CONTROL.BTN_STATE_in | with_unfolding_none refine Covered.next ?_)
    | with_unfolding_none apply hW.sub (inSkip (inSkip (inBoth (inBoth (inBoth (inBoth (inBoth (inBoth (inSkip (inBoth (inBoth inNil)))))))))))
    | with_unfolding_none apply hW.sub (inSkip (inSkip (inBoth (inSkip (inSkip (inSkip (inBoth (inBoth (inSkip (inSkip (inBoth inNil)))))))))))
    | (with_reducible refine Within.trans ?_ hL; decide +kernel)
    | (extract_lets +onlyGivenNames letX; have letT : True := (by clear_value letX; guard_hyp letX : State; trivial); clear letT; refine Leaves.cut (W := W) (L := L) (r := org) (v := letX) ?_ (fun letH => ?_); (focus subst letX); rotate_left; clear_value letX; revert letX; intro _ _)
    | with_reducible refine Leaves.ite ?_ ?_

theorem State.longPress_leaves {W : List Span} {L : List Part} {org s : State} (h : Leaves W L org s)
    (hW : Inside (one ASSIST_STATUS.ASSIST_CURRENT :: one ASSIST_STATUS.ASSIST_RESULT :: one ASSIST_STATUS.ASSIST_STATE :: one AS_CLOSED :: one AS_END :: one AS_TIME :: one BATTERY_SWITCH.FORWARD :: one BATTERY_SWITCH.MODE_IN_EFFECT :: one BATTERY_SWITCH.OPEN_CAUSE :: one BTN_LONG :: each CONVERTER.ENABLE :: each CONVERTER_STATUS.CONV_FLAGS :: each CONVERTER_STATUS.STATE :: each CONV_LIMIT :: each CONV_PHASE :: each CWIN :: each2 CWIN_AT :: one KEEPER.FAILED_OPENINGS :: one KEEPER.LAST_HOLD_SECONDS :: one KEEPER.RETRY_SERIES :: one KEEPER_HOLDING :: each2 LANE_EDGE :: one LONG_AT :: one (OVR_END 2) :: one (OVR_ON 2) :: one PON_CONTROL.PON_CHANGES :: one PON_CONTROL.PON_LAST_CAUSE :: one PON_CONTROL.PON_STATE :: one RESET_CAUSE.CAUSES_SEEN :: one SHIP_CONTROL.LONG_PRESSES :: one SW_CONN_AT :: one SW_ON_AT :: each TRUNC_LONGEST :: each TRUNC_SINCE :: each TRUNC_TOLD_AT :: (each fun n => inForce (CONVERTER.ENABLE n)) :: []) W) (hL : Within ([.collector, .dieMsgs, .shadows] : List Part) L) :
    Leaves W L org (State.longPress s) := by
  delta State.longPress
  repeat' first
    | with_reducible assumption
    | with_reducible apply State.setN_leaves
    | with_reducible apply State.setBit_leaves
    | with_reducible apply State.count_leaves
    | with_reducible apply State.asDrop_leaves
    | with_reducible apply State.convertersOut_leaves
    | with_reducible apply State.pon_leaves
    | with_reducible apply State.swTo_leaves
    | with_reducible apply State.powerCycle_leaves
    | (with_unfolding_none refine hW.covers ?_; repeat first | with_unfolding_none exact Covered.here | with_unfolding_none exact BTN_LONG_in | with_unfolding_none exact LONG_AT_in | with_unfolding_none exact RESET_CAUSE.CAUSES_SEEN_in | with_unfolding_none exact SHIP_CONTROL.LONG_PRESSES_in | with_unfolding_none refine Covered.next ?_)
    | with_unfolding_none apply hW.sub (inSkip (inSkip (inBoth (inBoth (inBoth (inBoth (inSkip (inSkip (inSkip (inSkip (inSkip (CONVERTER_STATUS.CONV_FLAGS_wide (inSkip (inSkip (inSkip (inSkip (inSkip (inSkip (inSkip (inSkip (inSkip (inSkip (inSkip (inSkip (inBoth (inBoth inNil))))))))))))))))))))))))))
    | with_unfolding_none apply hW.sub (inBoth (inBoth (inBoth (inBoth (inBoth (inBoth (inSkip (inSkip (inSkip (inSkip (inBoth (inBoth (inBoth (inBoth (inBoth (inBoth (inBoth (inSkip (inSkip (inSkip (inSkip (inBoth (inSkip (inBoth (inSkip (inSkip (inSkip (inSkip (inSkip (inSkip (inSkip (inSkip (inBoth (inBoth (inBoth (inBoth inNil))))))))))))))))))))))))))))))))))))
    | with_unfolding_none apply hW.sub (inSkip (inSkip (inSkip (inSkip (inSkip (inSkip (inSkip (inSkip (inSkip (inSkip (inSkip (inSkip (inSkip (inSkip (inSkip (inSkip (inSkip (inSkip (inSkip (inSkip (inSkip (inSkip (inSkip (inSkip (inSkip (inBoth (inBoth (inBoth inNil))))))))))))))))))))))))))))
    | with_unfolding_none apply hW.sub (inSkip (inSkip (inSkip (inSkip (inSkip (inSkip (inBoth (inBoth (inBoth (inSkip (inSkip (inSkip (inSkip (inSkip (inSkip (inSkip (inSkip (inSkip (inSkip (inSkip (inSkip (inSkip (inSkip (inSkip (inSkip (inSkip (inSkip (inSkip (inSkip (inSkip (inBoth (inBoth inNil))))))))))))))))))))))))))))))))
    | with_unfolding_none apply hW.sub (inSkip (inSkip (inSkip (inSkip (inSkip (inSkip (inSkip (inSkip (inSkip (inSkip (inSkip (inSkip (inSkip (inSkip (inSkip (inSkip (inSkip (inBoth (inBoth (inBoth (inBoth inNil)))))))))))))))))))))
    | (with_reducible refine Within.trans ?_ hL; decide +kernel)
    | (extract_lets +onlyGivenNames letX; have letT : True := (by clear_value letX; guard_hyp letX : State; trivial); clear letT; refine Leaves.cut (W := W) (L := L) (r := org) (v := letX) ?_ (fun letH => ?_); (focus subst letX); rotate_left; clear_value letX; revert letX; intro _ _)
    | with_reducible refine Leaves.ite ?_ ?_

theorem State.longRestore_leaves {W : List Span} {L : List Part} {org s : State} (h : Leaves W L org s)
    (hW : Inside (one BATTERY_SWITCH.FORWARD :: one BATTERY_SWITCH.MODE_IN_EFFECT :: one BATTERY_SWITCH.OPEN_CAUSE :: one LONG_AT :: one SW_CONN_AT :: one SW_MARK :: one SW_ON_AT :: []) W) (hL : Within ([.collector, .dieMsgs] : List Part) L) :
    Leaves W L org (State.longRestore s) := by
  delta State.longRestore
  repeat' first
    | with_reducible assumption
    | with_reducible apply State.setN_leaves
    | with_reducible apply State.swTo_leaves
    | with_reducible apply State.raise_leaves
    | (with_unfolding_none refine hW.covers ?_; repeat first | with_unfolding_none exact Covered.here | with_unfolding_none exact LONG_AT_in | with_unfolding_none exact SW_MARK_in | with_unfolding_none refine Covered.next ?_)
    | with_unfolding_none apply hW.sub (inBoth (inBoth (inBoth (inSkip (inBoth (inSkip (inBoth inNil)))))))
    | with_unfolding_none apply hW.sub (inNil)
    | (with_reducible refine Within.trans ?_ hL; decide +kernel)
    | (extract_lets +onlyGivenNames letX; have letT : True := (by clear_value letX; guard_hyp letX : State; trivial); clear letT; refine Leaves.cut (W := W) (L := L) (r := org) (v := letX) ?_ (fun letH => ?_); (focus subst letX); rotate_left; clear_value letX; revert letX; intro _ _)
    | with_reducible refine Leaves.ite ?_ ?_

theorem State.shipArm_leaves {W : List Span} {L : List Part} {org s : State} (arm : Bool) (h : Leaves W L org s)
    (hW : Inside (one SHIP_AT :: one SHIP_CONTROL.SHIP_STATE :: []) W) (hL : Within ([.collector] : List Part) L) :
    Leaves W L org (State.shipArm s arm) := by
  delta State.shipArm
  repeat' first
    | with_reducible assumption
    | with_reducible apply State.setN_leaves
    | with_reducible apply State.raise_leaves
    | (with_unfolding_none refine hW.covers ?_; repeat first | with_unfolding_none exact Covered.here | with_unfolding_none exact SHIP_AT_in | with_unfolding_none exact SHIP_CONTROL.SHIP_STATE_in | with_unfolding_none refine Covered.next ?_)
    | with_unfolding_none apply hW.sub (inNil)
    | (with_reducible refine Within.trans ?_ hL; decide +kernel)
    | with_reducible refine Leaves.ite ?_ ?_

theorem State.shipWindow_leaves {W : List Span} {L : List Part} {org s : State} (h : Leaves W L org s)
    (hW : Inside (one SHIP_CONTROL.SHIP_STATE :: []) W) :
    Leaves W L org (State.shipWindow s) := by
  delta State.shipWindow
  repeat' first
    | with_reducible assumption
    | with_reducible apply State.setN_leaves
    | (with_unfolding_none refine hW.covers ?_; repeat first | with_unfolding_none exact Covered.here | with_unfolding_none exact SHIP_CONTROL.SHIP_STATE_in | with_unfolding_none refine Covered.next ?_)
    | with_reducible refine Leaves.ite ?_ ?_

theorem State.shipEnter_leaves {W : List Span} {L : List Part} {org s : State} (h : Leaves W L org s)
    (hW : Inside (one ASSIST_STATUS.ASSIST_CURRENT :: one ASSIST_STATUS.ASSIST_RESULT :: one ASSIST_STATUS.ASSIST_STATE :: one AS_CLOSED :: one AS_END :: one AS_TIME :: one BATTERY_SWITCH.FORWARD :: one BATTERY_SWITCH.MODE_IN_EFFECT :: one BATTERY_SWITCH.OPEN_CAUSE :: each CONVERTER.ENABLE :: each CONVERTER_STATUS.CONV_FLAGS :: each CONVERTER_STATUS.STATE :: each CONV_LIMIT :: each CONV_PHASE :: each CWIN :: each2 CWIN_AT :: each2 LANE_EDGE :: one (OVR_END 2) :: one (OVR_ON 2) :: one PON_CONTROL.PON_CHANGES :: one PON_CONTROL.PON_LAST_CAUSE :: one PON_CONTROL.PON_STATE :: one RET_ENTERED :: one SHIP_CONTROL.SHIP_ENTRIES :: one SHIP_CONTROL.SHIP_STATE :: one SHIP_IN :: one SW_CONN_AT :: one SW_ON_AT :: each TRUNC_LONGEST :: each TRUNC_SINCE :: each TRUNC_TOLD_AT :: one WAKE_PENDING :: (each fun n => inForce (CONVERTER.ENABLE n)) :: []) W) (hL : Within ([.collector, .dieMsgs, .shadows] : List Part) L) :
    Leaves W L org (State.shipEnter s) := by
  delta State.shipEnter
  repeat' first
    | with_reducible assumption
    | with_reducible apply State.setN_leaves
    | with_reducible apply State.count_leaves
    | with_reducible apply State.pon_leaves
    | with_reducible apply State.swTo_leaves
    | with_reducible apply State.asDrop_leaves
    | with_reducible apply State.convertersOut_leaves
    | (with_unfolding_none refine hW.covers ?_; repeat first | with_unfolding_none exact Covered.here | with_unfolding_none exact RET_ENTERED_in | with_unfolding_none exact SHIP_CONTROL.SHIP_ENTRIES_in | with_unfolding_none exact SHIP_CONTROL.SHIP_STATE_in | with_unfolding_none exact SHIP_IN_in | with_unfolding_none exact WAKE_PENDING_in | with_unfolding_none refine Covered.next ?_)
    | with_unfolding_none apply hW.sub (inSkip (inSkip (inSkip (inSkip (inSkip (inSkip (inSkip (inSkip (inSkip (inSkip (inSkip (inSkip (inSkip (inSkip (inSkip (inSkip (inSkip (inSkip (inSkip (inBoth (inBoth (inBoth inNil))))))))))))))))))))))
    | with_unfolding_none apply hW.sub (inSkip (inSkip (inSkip (inSkip (inSkip (inSkip (inBoth (inBoth (inBoth (inSkip (inSkip (inSkip (inSkip (inSkip (inSkip (inSkip (inSkip (inSkip (inSkip (inSkip (inSkip (inSkip (inSkip (inSkip (inSkip (inSkip (inBoth (inBoth inNil))))))))))))))))))))))))))))
    | with_unfolding_none apply hW.sub (inSkip (inSkip (inBoth (inBoth (inBoth (inBoth (inSkip (inSkip (inSkip (inSkip (CONVERTER_STATUS.CONV_FLAGS_wide (inSkip (inSkip (inSkip (inSkip (inSkip (inSkip (inSkip (inBoth (inBoth inNil))))))))))))))))))))
    | with_unfolding_none apply hW.sub (inBoth (inBoth (inBoth (inBoth (inBoth (inBoth (inSkip (inSkip (inSkip (inBoth (inBoth (inBoth (inBoth (inBoth (inBoth (inBoth (inBoth (inBoth (inSkip (inSkip (inSkip (inSkip (inSkip (inSkip (inSkip (inSkip (inSkip (inSkip (inBoth (inBoth (inBoth (inSkip (inBoth inNil)))))))))))))))))))))))))))))))))
    | (with_reducible refine Within.trans ?_ hL; decide +kernel)
    | (extract_lets +onlyGivenNames letX; have letT : True := (by clear_value letX; guard_hyp letX : State; trivial); clear letT; refine Leaves.cut (W := W) (L := L) (r := org) (v := letX) ?_ (fun letH => ?_); (focus subst letX); rotate_left; clear_value letX; revert letX; intro _ _)

theorem State.btnRelease_leaves {W : List Span} {L : List Part} {org s : State} (h : Leaves W L org s)
    (hW : Inside (one ASSIST_STATUS.ASSIST_CURRENT :: one ASSIST_STATUS.ASSIST_RESULT :: one ASSIST_STATUS.ASSIST_STATE :: one AS_CLOSED :: one AS_END :: one AS_TIME :: one BATTERY_SWITCH.FORWARD :: one BATTERY_SWITCH.MODE_IN_EFFECT :: one BATTERY_SWITCH.OPEN_CAUSE :: one BTN_FELL :: one BTN_LONG :: each CONVERTER.ENABLE :: each CONVERTER_STATUS.CONV_FLAGS :: each CONVERTER_STATUS.STATE :: each CONV_LIMIT :: each CONV_PHASE :: each CWIN :: each2 CWIN_AT :: each2 LANE_EDGE :: one (OVR_END 2) :: one (OVR_ON 2) :: one PON_CONTROL.PON_CHANGES :: one PON_CONTROL.PON_LAST_CAUSE :: one PON_CONTROL.PON_STATE :: one RET_ENTERED :: one SHIP_CONTROL.BTN_STATE :: one SHIP_CONTROL.SHIP_ENTRIES :: one SHIP_CONTROL.SHIP_STATE :: one SHIP_IN :: one SW_CONN_AT :: one SW_ON_AT :: each TRUNC_LONGEST :: each TRUNC_SINCE :: each TRUNC_TOLD_AT :: one WAKE_PENDING :: (each fun n => inForce (CONVERTER.ENABLE n)) :: []) W) (hL : Within ([.collector, .dieMsgs, .shadows] : List Part) L) :
    Leaves W L org (State.btnRelease s) := by
  delta State.btnRelease
  repeat' first
    | with_reducible assumption
    | with_reducible apply State.setN_leaves
    | with_reducible apply State.shipEnter_leaves
    | (with_unfolding_none refine hW.covers ?_; repeat first | with_unfolding_none exact Covered.here | with_unfolding_none exact BTN_FELL_in | with_unfolding_none exact BTN_LONG_in | with_unfolding_none exact SHIP_CONTROL.BTN_STATE_in | with_unfolding_none refine Covered.next ?_)
    | with_unfolding_none apply hW.sub (inBoth (inBoth (inBoth (inBoth (inBoth (inBoth (inBoth (inBoth (inBoth (inSkip (inSkip (inBoth (inBoth (inBoth (inBoth (inBoth (inBoth (inBoth (inBoth (inBoth (inBoth (inBoth (inBoth (inBoth (inBoth (inSkip (inBoth (inBoth (inBoth (inBoth (inBoth (inBoth (inBoth (inBoth (inBoth (inBoth inNil))))))))))))))))))))))))))))))))))))
    | (with_reducible refine Within.trans ?_ hL; decide +kernel)
    | (extract_lets +onlyGivenNames letX; have letT : True := (by clear_value letX; guard_hyp letX : State; trivial); clear letT; refine Leaves.cut (W := W) (L := L) (r := org) (v := letX) ?_ (fun letH => ?_); (focus subst letX); rotate_left; clear_value letX; revert letX; intro _ _)
    | (extract_lets +onlyGivenNames letX; clear_value letX; revert letX; intro _)
    | with_reducible refine Leaves.ite ?_ ?_

theorem State.shipExit_leaves {W : List Span} {L : List Part} {org s : State} (h : Leaves W L org s)
    (hW : Inside (one BATTERY_SWITCH.FORWARD :: one BATTERY_SWITCH.MODE_IN_EFFECT :: one BATTERY_SWITCH.OPEN_CAUSE :: one POWER_STATE.LAST_WAKE_CAUSE :: one SHIP_CONTROL.LAST_SHIP_DURATION :: one SHIP_IN :: one SW_CONN_AT :: one SW_ON_AT :: one WAKE_PENDING :: []) W) (hL : Within ([.collector, .dieMsgs] : List Part) L) :
    Leaves W L org (State.shipExit s) := by
  delta State.shipExit
  repeat' first
    | with_reducible assumption
    | with_reducible apply State.setN_leaves
    | with_reducible apply State.swTo_leaves
    | with_reducible apply State.raise_leaves
    | (with_unfolding_none refine hW.covers ?_; repeat first | with_unfolding_none exact Covered.here | with_unfolding_none exact POWER_STATE.LAST_WAKE_CAUSE_in | with_unfolding_none exact SHIP_CONTROL.LAST_SHIP_DURATION_in | with_unfolding_none exact SHIP_IN_in | with_unfolding_none exact WAKE_PENDING_in | with_unfolding_none refine Covered.next ?_)
    | with_unfolding_none apply hW.sub (inBoth (inBoth (inBoth (inSkip (inSkip (inSkip (inBoth (inBoth inNil))))))))
    | with_unfolding_none apply hW.sub (inNil)
    | (with_reducible refine Within.trans ?_ hL; decide +kernel)
    | (extract_lets +onlyGivenNames letX; have letT : True := (by clear_value letX; guard_hyp letX : State; trivial); clear letT; refine Leaves.cut (W := W) (L := L) (r := org) (v := letX) ?_ (fun letH => ?_); (focus subst letX); rotate_left; clear_value letX; revert letX; intro _ _)
    | (extract_lets +onlyGivenNames letX; clear_value letX; revert letX; intro _)
    | with_reducible refine Leaves.ite ?_ ?_

theorem State.logicOutage_leaves {W : List Span} {L : List Part} {org s : State} (d : Nat) (h : Leaves W L org s)
    (hW : Inside (each ADMIT_KIND :: one ASSIST_STATUS.ASSIST_STATE :: one AS_CLOSED :: one AS_END :: one AS_TIME :: each BANK.BANK_FLAGS :: each CELL :: each CHANNEL_PROTECTION.MODEL_FLAGS :: each CHANNEL_STATUS.FLAGS :: one (CONVERTER_STATUS.CONV_FLAGS 2) :: each GATE :: one (HEART_LOST d) :: each LATCH :: each LATCH_PULLED :: one (LOGIC_OFF d) :: one (LOGIC_OFF_AT d) :: one (OVR_END 2) :: one (OVR_ON 2) :: each PEND :: each PUMP_START :: each PUMP_STOP_AT :: each PWM_HIGH :: each SAFE_WAIT :: each START_AT :: each STORED_WAIT :: []) W) :
    Leaves W L org (State.logicOutage s d) := by
  delta State.logicOutage
  repeat' first
    | with_reducible assumption
    | with_reducible apply State.asDrop_leaves
    | with_reducible apply State.logicFails_leaves
    | with_unfolding_none apply hW.sub (inSkip (inBoth (inBoth (inBoth (inBoth (inSkip (inSkip (inSkip (inSkip (inBoth (inSkip (inSkip (inSkip (inSkip (inSkip (inSkip (inBoth (inBoth inNil))))))))))))))))))
    | with_unfolding_none apply hW.sub (inBoth (inSkip (inSkip (inSkip (inSkip (inBoth (inBoth (inBoth (inBoth (inSkip (inBoth (inBoth (inBoth (inBoth (inBoth (inBoth (inSkip (inSkip (inBoth (inBoth (inBoth (inBoth (inBoth (inBoth (inBoth inNil)))))))))))))))))))))))))
    | with_reducible refine Leaves.ite ?_ ?_

theorem execLogicDomainFail_frame {W : List Span} {L : List Part} {org s : State} (d : Die) (h : Leaves W L org s)
    (hW : Inside (each ADMIT_KIND :: one ASSIST_STATUS.ASSIST_STATE :: one AS_CLOSED :: one AS_END :: one AS_TIME :: each BANK.BANK_FLAGS :: each CELL :: each CHANNEL_PROTECTION.MODEL_FLAGS :: each CHANNEL_STATUS.FLAGS :: one (CONVERTER_STATUS.CONV_FLAGS 2) :: each GATE :: one (HEART_LOST d) :: each LATCH :: each LATCH_PULLED :: one (LOGIC_OFF d) :: one (LOGIC_OFF_AT d) :: one (OVR_END 2) :: one (OVR_ON 2) :: each PEND :: each PUMP_START :: each PUMP_STOP_AT :: each PWM_HIGH :: each SAFE_WAIT :: each START_AT :: each STORED_WAIT :: []) W)
    : RunsIn W L org (execLogicDomainFail d s) := by
  delta execLogicDomainFail
  repeat' first
    | with_reducible assumption
    | with_reducible refine RunsIn.next ?_
    | with_reducible apply State.logicOutage_leaves
    | with_unfolding_none apply hW.sub (inBoth (inBoth (inBoth (inBoth (inBoth (inBoth (inBoth (inBoth (inBoth (inBoth (inBoth (inBoth (inBoth (inBoth (inBoth (inBoth (inBoth (inBoth (inBoth (inBoth (inBoth (inBoth (inBoth (inBoth (inBoth inNil)))))))))))))))))))))))))

theorem execSwitchCloseDone_frame {W : List Span} {L : List Part} {org s : State} (diff : Int) (h : Leaves W L org s)
    (hW : Inside (one BATTERY_SWITCH.FORWARD :: one BATTERY_SWITCH.MODE_IN_EFFECT :: one BATTERY_SWITCH.OPEN_CAUSE :: one SW_CONN_AT :: one SW_ON_AT :: []) W)
    (hL : Within ([.dieMsgs] : List Part) L) : RunsIn W L org (execSwitchCloseDone diff s) := by
  delta execSwitchCloseDone
  repeat' first
    | with_reducible assumption
    | with_reducible refine RunsIn.next ?_
    | with_reducible apply State.swClose_leaves
    | with_unfolding_none apply hW.sub (inBoth (inBoth (inBoth (inBoth (inBoth inNil)))))

theorem execCloseDeferred_frame {W : List Span} {L : List Part} {org s : State} (diff : Int) (h : Leaves W L org s)
    (hW : Inside (one SW_TOLD :: []) W)
    (hL : Within ([.dieMsgs] : List Part) L) : RunsIn W L org (execCloseDeferred diff s) := by
  delta execCloseDeferred
  repeat' first
    | with_reducible assumption
    | with_reducible refine RunsIn.next ?_
    | with_reducible apply State.swDeferred_leaves
    | with_unfolding_none apply hW.sub (inBoth inNil)

theorem execIdealDiodeReverse_frame {W : List Span} {L : List Part} {org s : State} (excess : Int) (h : Leaves W L org s)
    (hW : Inside (one BATTERY_SWITCH.FORWARD :: []) W)
    (hL : Within ([.free] : List Part) L) : RunsIn W L org (execIdealDiodeReverse excess s) := by
  delta execIdealDiodeReverse
  repeat' first
    | with_reducible assumption
    | with_reducible refine RunsIn.next ?_
    | with_reducible apply State.swReverse_leaves
    | with_unfolding_none apply hW.sub (inBoth inNil)

theorem execSwitchShortTrip_frame {W : List Span} {L : List Part} {org s : State} (diff : Int) (us : Nat) (h : Leaves W L org s)
    (hW : Inside (one BATTERY_SWITCH.FORWARD :: one BATTERY_SWITCH.MODE_IN_EFFECT :: one BATTERY_SWITCH.OPEN_CAUSE :: one BATTERY_SWITCH.SWITCH_TRIPS :: one SW_CONN_AT :: one SW_MARK :: one SW_ON_AT :: one SW_TRIPPED :: []) W)
    (hL : Within ([.dieMsgs, .shadows] : List Part) L) : RunsIn W L org (execSwitchShortTrip diff us s) := by
  delta execSwitchShortTrip
  repeat' first
    | with_reducible assumption
    | with_reducible refine RunsIn.next ?_
    | with_reducible apply State.swShort_leaves
    | with_unfolding_none apply hW.sub (inBoth (inBoth (inBoth (inBoth (inBoth (inBoth (inBoth (inBoth inNil))))))))

theorem execSwitchUvCutoff_frame {W : List Span} {L : List Part} {org s : State} (bswb : Int) (us : Nat) (h : Leaves W L org s)
    (hW : Inside (one BATTERY_SWITCH.FORWARD :: one BATTERY_SWITCH.MODE_IN_EFFECT :: one BATTERY_SWITCH.OPEN_CAUSE :: one SW_CONN_AT :: one SW_ON_AT :: []) W)
    (hL : Within ([.dieMsgs, .shadows] : List Part) L) : RunsIn W L org (execSwitchUvCutoff bswb us s) := by
  delta execSwitchUvCutoff
  repeat' first
    | with_reducible assumption
    | with_reducible refine RunsIn.next ?_
    | with_reducible apply State.swCutoff_leaves
    | with_unfolding_none apply hW.sub (inBoth (inBoth (inBoth (inBoth (inBoth inNil)))))

theorem execClosedChargeDrop_frame {W : List Span} {L : List Part} {org s : State} (samples : List Int) (h : Leaves W L org s)
    (hW : Inside (one BATTERY_SWITCH.MODE :: []) W)
    (hL : Within ([.dieMsgs, .landing] : List Part) L) : RunsIn W L org (execClosedChargeDrop samples s) := by
  delta execClosedChargeDrop
  repeat' first
    | with_reducible assumption
    | with_reducible refine RunsIn.next ?_
    | with_reducible apply State.swChargeDrop_leaves
    | with_unfolding_none apply hW.sub (inBoth inNil)

theorem execSwitchDriverPowerUp_frame {W : List Span} {L : List Part} {org s : State} (h : Leaves W L org s)
    (hW : Inside (one BATTERY_SWITCH.FORWARD :: one BATTERY_SWITCH.MODE_IN_EFFECT :: one BATTERY_SWITCH.OPEN_CAUSE :: one SW_CONN_AT :: one SW_MARK :: one SW_ON_AT :: one SW_UNPOWERED :: []) W)
    (hL : Within ([.dieMsgs] : List Part) L) : RunsIn W L org (execSwitchDriverPowerUp s) := by
  delta execSwitchDriverPowerUp
  repeat' first
    | with_reducible assumption
    | with_reducible refine RunsIn.next ?_
    | with_reducible apply State.swPowerUp_leaves
    | with_unfolding_none apply hW.sub (inBoth (inBoth (inBoth (inBoth (inBoth (inBoth (inBoth inNil)))))))

theorem execSwitchDriverPowerLoss_frame {W : List Span} {L : List Part} {org s : State} (h : Leaves W L org s)
    (hW : Inside (one BATTERY_SWITCH.FORWARD :: one BATTERY_SWITCH.MODE_IN_EFFECT :: one BATTERY_SWITCH.OPEN_CAUSE :: one SW_CONN_AT :: one SW_MARK :: one SW_ON_AT :: one SW_UNPOWERED :: []) W)
    (hL : Within ([.dieMsgs] : List Part) L) : RunsIn W L org (execSwitchDriverPowerLoss s) := by
  delta execSwitchDriverPowerLoss
  repeat' first
    | with_reducible assumption
    | with_reducible refine RunsIn.next ?_
    | with_reducible apply State.swPowerLoss_leaves
    | with_unfolding_none apply hW.sub (inBoth (inBoth (inBoth (inBoth (inBoth (inBoth (inBoth inNil)))))))

theorem execChargePulseEnd_frame {W : List Span} {L : List Part} {org s : State} (h : Leaves W L org s)
    (hW : Inside (one CHARGER_STATUS.STAGE :: one CH_STAGE_AT :: one (CONVERTER_STATUS.CONV_FLAGS 1) :: one (OVR_END 1) :: one (OVR_MAX 1) :: one (OVR_MIN 1) :: one (OVR_ON 1) :: one (OVR_REF 1) :: []) W)
    (hL : Within ([.staged] : List Part) L) : RunsIn W L org (execChargePulseEnd s) := by
  delta execChargePulseEnd
  repeat' first
    | with_reducible assumption
    | with_reducible refine RunsIn.next ?_
    | with_reducible apply State.chPulseEnd_leaves
    | with_unfolding_none apply hW.sub (inBoth (inBoth (inBoth (inBoth (inBoth (inBoth (inBoth (inBoth inNil))))))))

theorem execChargeRestEnd_frame {W : List Span} {L : List Part} {org s : State} (v imax imean : Int) (h : Leaves W L org s)
    (hW : Inside (one CHARGER_STATUS.ON_TIME :: one CHARGER_STATUS.PHASE :: one CHARGER_STATUS.PULSES :: one CHARGER_STATUS.REST_INVALID :: one CHARGER_STATUS.STAGE :: one CHARGER_STATUS.V_REST :: one CH_CLOCK :: one CH_CLOCK_AT :: one CH_FULL :: one CH_HOLD_AT :: one CH_PHASE_AT :: one CH_QUALIFY_AT :: one CH_STAGE_AT :: one CH_T_PREV :: one (CONVERTER_STATUS.CONV_FLAGS 1) :: one EST_SHORT :: one EST_SHORT_STAMP :: one (OVR_END 1) :: one (OVR_MAX 1) :: one (OVR_MIN 1) :: one (OVR_ON 1) :: one (OVR_REF 1) :: one RS_I :: one RS_OK :: one RS_V :: []) W)
    (hL : Within ([.collector, .free, .staged] : List Part) L) : RunsIn W L org (execChargeRestEnd v imax imean s) := by
  delta execChargeRestEnd
  repeat' first
    | with_reducible assumption
    | with_reducible refine RunsIn.next ?_
    | with_reducible apply State.chRestEnd_leaves
    | with_unfolding_none apply hW.sub (inBoth (inBoth (inBoth (inBoth (inBoth (inBoth (inBoth (inBoth (inBoth (inBoth (inBoth (inBoth (inBoth (inBoth (inBoth (inBoth (inBoth (inBoth (inBoth (inBoth (inBoth (inBoth (inBoth (inBoth (inBoth inNil)))))))))))))))))))))))))

theorem execPulseCutDiode_frame {W : List Span} {L : List Part} {org s : State} (us : Nat) (h : Leaves W L org s)
    (hW : Inside (one CHARGER_STATUS.STAGE :: one CH_STAGE_AT :: one (CONVERTER_STATUS.CONV_FLAGS 1) :: one (OVR_END 1) :: one (OVR_MAX 1) :: one (OVR_MIN 1) :: one (OVR_ON 1) :: one (OVR_REF 1) :: []) W)
    (hL : Within ([.collector, .staged] : List Part) L) : RunsIn W L org (execPulseCutDiode us s) := by
  delta execPulseCutDiode
  repeat' first
    | with_reducible assumption
    | with_reducible refine RunsIn.next ?_
    | with_reducible apply State.chCut_leaves
    | with_unfolding_none apply hW.sub (inBoth (inBoth (inBoth (inBoth (inBoth (inBoth (inBoth (inBoth inNil))))))))

theorem execHoldRestSample_frame {W : List Span} {L : List Part} {org s : State} (v imax imean : Int) (h : Leaves W L org s)
    (hW : Inside (one CHARGER_STATUS.ON_TIME :: one CHARGER_STATUS.PHASE :: one CHARGER_STATUS.PULSES :: one CHARGER_STATUS.REST_INVALID :: one CHARGER_STATUS.STAGE :: one CHARGER_STATUS.V_REST :: one CH_CLOCK :: one CH_CLOCK_AT :: one CH_FULL :: one CH_HOLD_AT :: one CH_PHASE_AT :: one CH_QUALIFY_AT :: one CH_STAGE_AT :: one CH_T_PREV :: one (CONVERTER_STATUS.CONV_FLAGS 1) :: one EST_SHORT :: one EST_SHORT_STAMP :: one (OVR_END 1) :: one (OVR_MAX 1) :: one (OVR_MIN 1) :: one (OVR_ON 1) :: one (OVR_REF 1) :: one RS_I :: one RS_OK :: one RS_V :: []) W)
    (hL : Within ([.collector, .staged] : List Part) L) : RunsIn W L org (execHoldRestSample v imax imean s) := by
  delta execHoldRestSample
  repeat' first
    | with_reducible assumption
    | with_reducible refine RunsIn.next ?_
    | with_reducible apply State.chHoldSample_leaves
    | with_unfolding_none apply hW.sub (inBoth (inBoth (inBoth (inBoth (inBoth (inBoth (inBoth (inBoth (inBoth (inBoth (inBoth (inBoth (inBoth (inBoth (inBoth (inBoth (inBoth (inBoth (inBoth (inBoth (inBoth (inBoth (inBoth (inBoth (inBoth inNil)))))))))))))))))))))))))

theorem execQualifyTimeout_frame {W : List Span} {L : List Part} {org s : State} (h : Leaves W L org s)
    (hW : Inside (one CHARGER_STATUS.FAULT_CAUSE :: one CHARGER_STATUS.PHASE :: one CHARGER_STATUS.STAGE :: one CH_CLOCK :: one CH_CLOCK_AT :: one CH_FULL :: one CH_HOLD_AT :: one CH_PHASE_AT :: one CH_QUALIFY_AT :: one CH_STAGE_AT :: one (CONVERTER_STATUS.CONV_FLAGS 1) :: one (OVR_END 1) :: one (OVR_MAX 1) :: one (OVR_MIN 1) :: one (OVR_ON 1) :: one (OVR_REF 1) :: []) W)
    (hL : Within ([.collector, .staged] : List Part) L) : RunsIn W L org (execQualifyTimeout s) := by
  delta execQualifyTimeout
  repeat' first
    | with_reducible assumption
    | with_reducible refine RunsIn.next ?_
    | with_reducible apply State.chQualifyTimeout_leaves
    | with_unfolding_none apply hW.sub (inBoth (inBoth (inBoth (inBoth (inBoth (inBoth (inBoth (inBoth (inBoth (inBoth (inBoth (inBoth (inBoth (inBoth (inBoth (inBoth inNil))))))))))))))))

theorem execChargeTimeout_frame {W : List Span} {L : List Part} {org s : State} (h : Leaves W L org s)
    (hW : Inside (one CHARGER_STATUS.FAULT_CAUSE :: one CHARGER_STATUS.PHASE :: one CHARGER_STATUS.STAGE :: one CH_CLOCK :: one CH_CLOCK_AT :: one CH_FULL :: one CH_HOLD_AT :: one CH_PHASE_AT :: one CH_QUALIFY_AT :: one CH_STAGE_AT :: one (CONVERTER_STATUS.CONV_FLAGS 1) :: one (OVR_END 1) :: one (OVR_MAX 1) :: one (OVR_MIN 1) :: one (OVR_ON 1) :: one (OVR_REF 1) :: []) W)
    (hL : Within ([.collector, .staged] : List Part) L) : RunsIn W L org (execChargeTimeout s) := by
  delta execChargeTimeout
  repeat' first
    | with_reducible assumption
    | with_reducible refine RunsIn.next ?_
    | with_reducible apply State.chTimeout_leaves
    | with_unfolding_none apply hW.sub (inBoth (inBoth (inBoth (inBoth (inBoth (inBoth (inBoth (inBoth (inBoth (inBoth (inBoth (inBoth (inBoth (inBoth (inBoth (inBoth inNil))))))))))))))))

theorem execBtnPress_frame {W : List Span} {L : List Part} {org s : State} (h : Leaves W L org s)
    (hW : Inside (one BTN_FELL :: one BTN_LONG :: one PARK_STAGE :: one PON_CONTROL.PON_CHANGES :: one PON_CONTROL.PON_LAST_CAUSE :: one PON_CONTROL.PON_STATE :: one POWER_STATE.PARK_ABORTS :: one POWER_STATE.STATE :: one SHIP_CONTROL.BTN_STATE :: one WAKE_CONFIG.WAKE_LATCHED :: one WAKE_PENDING :: []) W)
    (hL : Within ([.collector] : List Part) L) : RunsIn W L org (execBtnPress s) := by
  delta execBtnPress
  repeat' first
    | with_reducible assumption
    | with_reducible refine RunsIn.next ?_
    | with_reducible apply State.btnPress_leaves
    | with_unfolding_none apply hW.sub (inBoth (inBoth (inBoth (inBoth (inBoth (inBoth (inBoth (inBoth (inBoth (inBoth (inBoth inNil)))))))))))

theorem execBtnRelease_frame {W : List Span} {L : List Part} {org s : State} (h : Leaves W L org s)
    (hW : Inside (one ASSIST_STATUS.ASSIST_CURRENT :: one ASSIST_STATUS.ASSIST_RESULT :: one ASSIST_STATUS.ASSIST_STATE :: one AS_CLOSED :: one AS_END :: one AS_TIME :: one BATTERY_SWITCH.FORWARD :: one BATTERY_SWITCH.MODE_IN_EFFECT :: one BATTERY_SWITCH.OPEN_CAUSE :: one BTN_FELL :: one BTN_LONG :: each CONVERTER.ENABLE :: each CONVERTER_STATUS.CONV_FLAGS :: each CONVERTER_STATUS.STATE :: each CONV_LIMIT :: each CONV_PHASE :: each CWIN :: each2 CWIN_AT :: each2 LANE_EDGE :: one (OVR_END 2) :: one (OVR_ON 2) :: one PON_CONTROL.PON_CHANGES :: one PON_CONTROL.PON_LAST_CAUSE :: one PON_CONTROL.PON_STATE :: one RET_ENTERED :: one SHIP_CONTROL.BTN_STATE :: one SHIP_CONTROL.SHIP_ENTRIES :: one SHIP_CONTROL.SHIP_STATE :: one SHIP_IN :: one SW_CONN_AT :: one SW_ON_AT :: each TRUNC_LONGEST :: each TRUNC_SINCE :: each TRUNC_TOLD_AT :: one WAKE_PENDING :: (each fun n => inForce (CONVERTER.ENABLE n)) :: []) W)
    (hL : Within ([.collector, .dieMsgs, .shadows] : List Part) L) : RunsIn W L org (execBtnRelease s) := by
  delta execBtnRelease
  repeat' first
    | with_reducible assumption
    | with_reducible refine RunsIn.next ?_
    | with_reducible apply State.btnRelease_leaves
    | with_unfolding_none apply hW.sub (inBoth (inBoth (inBoth (inBoth (inBoth (inBoth (inBoth (inBoth (inBoth (inBoth (inBoth (inBoth (inBoth (inBoth (inBoth (inBoth (inBoth (inBoth (inBoth (inBoth (inBoth (inBoth (inBoth (inBoth (inBoth (inBoth (inBoth (inBoth (inBoth (inBoth (inBoth (inBoth (inBoth (inBoth (inBoth (inBoth inNil))))))))))))))))))))))))))))))))))))

theorem execLongPress_frame {W : List Span} {L : List Part} {org s : State} (h : Leaves W L org s)
    (hW : Inside (one ASSIST_STATUS.ASSIST_CURRENT :: one ASSIST_STATUS.ASSIST_RESULT :: one ASSIST_STATUS.ASSIST_STATE :: one AS_CLOSED :: one AS_END :: one AS_TIME :: one BATTERY_SWITCH.FORWARD :: one BATTERY_SWITCH.MODE_IN_EFFECT :: one BATTERY_SWITCH.OPEN_CAUSE :: one BTN_LONG :: each CONVERTER.ENABLE :: each CONVERTER_STATUS.CONV_FLAGS :: each CONVERTER_STATUS.STATE :: each CONV_LIMIT :: each CONV_PHASE :: each CWIN :: each2 CWIN_AT :: one KEEPER.FAILED_OPENINGS :: one KEEPER.LAST_HOLD_SECONDS :: one KEEPER.RETRY_SERIES :: one KEEPER_HOLDING :: each2 LANE_EDGE :: one LONG_AT :: one (OVR_END 2) :: one (OVR_ON 2) :: one PON_CONTROL.PON_CHANGES :: one PON_CONTROL.PON_LAST_CAUSE :: one PON_CONTROL.PON_STATE :: one RESET_CAUSE.CAUSES_SEEN :: one SHIP_CONTROL.LONG_PRESSES :: one SW_CONN_AT :: one SW_ON_AT :: each TRUNC_LONGEST :: each TRUNC_SINCE :: each TRUNC_TOLD_AT :: (each fun n => inForce (CONVERTER.ENABLE n)) :: []) W)
    (hL : Within ([.collector, .dieMsgs, .shadows] : List Part) L) : RunsIn W L org (execLongPress s) := by
  delta execLongPress
  repeat' first
    | with_reducible assumption
    | with_reducible refine RunsIn.next ?_
    | with_reducible apply State.longPress_leaves
    | with_unfolding_none apply hW.sub (inBoth (inBoth (inBoth (inBoth (inBoth (inBoth (inBoth (inBoth (inBoth (inBoth (inBoth (inBoth (inBoth (inBoth (inBoth (inBoth (inBoth (inBoth (inBoth (inBoth (inBoth (inBoth (inBoth (inBoth (inBoth (inBoth (inBoth (inBoth (inBoth (inBoth (inBoth (inBoth (inBoth (inBoth (inBoth (inBoth inNil))))))))))))))))))))))))))))))))))))

theorem execLongPressSwitchRestore_frame {W : List Span} {L : List Part} {org s : State} (h : Leaves W L org s)
    (hW : Inside (one BATTERY_SWITCH.FORWARD :: one BATTERY_SWITCH.MODE_IN_EFFECT :: one BATTERY_SWITCH.OPEN_CAUSE :: one LONG_AT :: one SW_CONN_AT :: one SW_MARK :: one SW_ON_AT :: []) W)
    (hL : Within ([.collector, .dieMsgs] : List Part) L) : RunsIn W L org (execLongPressSwitchRestore s) := by
  delta execLongPressSwitchRestore
  repeat' first
    | with_reducible assumption
    | with_reducible refine RunsIn.next ?_
    | with_reducible apply State.longRestore_leaves
    | with_unfolding_none apply hW.sub (inBoth (inBoth (inBoth (inBoth (inBoth (inBoth (inBoth inNil)))))))

theorem execShipWindowEnd_frame {W : List Span} {L : List Part} {org s : State} (h : Leaves W L org s)
    (hW : Inside (one SHIP_CONTROL.SHIP_STATE :: []) W)
    : RunsIn W L org (execShipWindowEnd s) := by
  delta execShipWindowEnd
  repeat' first
    | with_reducible assumption
    | with_reducible refine RunsIn.next ?_
    | with_reducible apply State.shipWindow_leaves
    | with_unfolding_none apply hW.sub (inBoth inNil)

theorem execShipExit_frame {W : List Span} {L : List Part} {org s : State} (h : Leaves W L org s)
    (hW : Inside (one BATTERY_SWITCH.FORWARD :: one BATTERY_SWITCH.MODE_IN_EFFECT :: one BATTERY_SWITCH.OPEN_CAUSE :: one POWER_STATE.LAST_WAKE_CAUSE :: one SHIP_CONTROL.LAST_SHIP_DURATION :: one SHIP_IN :: one SW_CONN_AT :: one SW_ON_AT :: one WAKE_PENDING :: []) W)
    (hL : Within ([.collector, .dieMsgs] : List Part) L) : RunsIn W L org (execShipExit s) := by
  delta execShipExit
  repeat' first
    | with_reducible assumption
    | with_reducible refine RunsIn.next ?_
    | with_reducible apply State.shipExit_leaves
    | with_unfolding_none apply hW.sub (inBoth (inBoth (inBoth (inBoth (inBoth (inBoth (inBoth (inBoth (inBoth inNil)))))))))

theorem execAssistCheck_frame {W : List Span} {L : List Part} {org s : State} (asv : Int) (h : Leaves W L org s)
    (hW : Inside (one ASSIST_STATUS.ASSIST_RESULT :: one ASSIST_STATUS.ASSIST_STATE :: one AS_CLOSED :: one AS_STATE_AT :: one AS_TIME :: one (CONVERTER_STATUS.CONV_FLAGS 2) :: one (OVR_END 2) :: one (OVR_MAX 2) :: one (OVR_MIN 2) :: one (OVR_ON 2) :: one (OVR_REF 2) :: []) W)
    (hL : Within ([.collector] : List Part) L) : RunsIn W L org (execAssistCheck asv s) := by
  delta execAssistCheck
  repeat' first
    | with_reducible assumption
    | with_reducible refine RunsIn.next ?_
    | with_reducible apply State.asCheck_leaves
    | with_unfolding_none apply hW.sub (inBoth (inBoth (inBoth (inBoth (inBoth (inBoth (inBoth (inBoth (inBoth (inBoth (inBoth inNil)))))))))))

theorem execAssistPrechargeDone_frame {W : List Span} {L : List Part} {org s : State} (asv : Int) (us : Nat) (h : Leaves W L org s)
    (hW : Inside (one ASSIST_STATUS.ASSIST_STATE :: one AS_CLOSED :: one AS_STATE_AT :: one (CONVERTER_STATUS.CONV_FLAGS 2) :: one (OVR_END 2) :: one (OVR_MAX 2) :: one (OVR_MIN 2) :: one (OVR_ON 2) :: one (OVR_REF 2) :: []) W)
    : RunsIn W L org (execAssistPrechargeDone asv us s) := by
  delta execAssistPrechargeDone
  repeat' first
    | with_reducible assumption
    | with_reducible refine RunsIn.next ?_
    | with_reducible apply State.asPrecharged_leaves
    | with_unfolding_none apply hW.sub (inBoth (inBoth (inBoth (inBoth (inBoth (inBoth (inBoth (inBoth (inBoth inNil)))))))))

theorem execAssistPrechargeTimeout_frame {W : List Span} {L : List Part} {org s : State} (h : Leaves W L org s)
    (hW : Inside (one AS_END :: one AS_END_AT :: one (CONVERTER_STATUS.CONV_FLAGS 2) :: one (OVR_END 2) :: one (OVR_MAX 2) :: one (OVR_MIN 2) :: one (OVR_ON 2) :: one (OVR_REF 2) :: []) W)
    : RunsIn W L org (execAssistPrechargeTimeout s) := by
  delta execAssistPrechargeTimeout
  repeat' first
    | with_reducible assumption
    | with_reducible refine RunsIn.next ?_
    | with_reducible apply State.asPrechargeTimeout_leaves
    | with_unfolding_none apply hW.sub (inBoth (inBoth (inBoth (inBoth (inBoth (inBoth (inBoth (inBoth inNil))))))))

theorem execAssistMatch_frame {W : List Span} {L : List Part} {org s : State} (diff : Int) (h : Leaves W L org s)
    (hW : Inside (one ASSIST_STATUS.ASSIST_STATE :: one AS_CLOSED :: one AS_STATE_AT :: one (CONVERTER_STATUS.CONV_FLAGS 2) :: one (OVR_END 2) :: one (OVR_MAX 2) :: one (OVR_MIN 2) :: one (OVR_ON 2) :: one (OVR_REF 2) :: []) W)
    : RunsIn W L org (execAssistMatch diff s) := by
  delta execAssistMatch
  repeat' first
    | with_reducible assumption
    | with_reducible refine RunsIn.next ?_
    | with_reducible apply State.asMatch_leaves
    | with_unfolding_none apply hW.sub (inBoth (inBoth (inBoth (inBoth (inBoth (inBoth (inBoth (inBoth (inBoth inNil)))))))))

theorem execAssistMatchTimeout_frame {W : List Span} {L : List Part} {org s : State} (h : Leaves W L org s)
    (hW : Inside (one ASSIST_STATUS.ASSIST_CURRENT :: one ASSIST_STATUS.ASSIST_RESULT :: one ASSIST_STATUS.ASSIST_STATE :: one AS_CLOSED :: one AS_END :: one AS_TIME :: one (OVR_END 2) :: []) W)
    (hL : Within ([.collector] : List Part) L) : RunsIn W L org (execAssistMatchTimeout s) := by
  delta execAssistMatchTimeout
  repeat' first
    | with_reducible assumption
    | with_reducible refine RunsIn.next ?_
    | with_reducible apply State.asMatchTimeout_leaves
    | with_unfolding_none apply hW.sub (inBoth (inBoth (inBoth (inBoth (inBoth (inBoth (inBoth inNil)))))))

theorem execAssistSessionTimeout_frame {W : List Span} {L : List Part} {org s : State} (h : Leaves W L org s)
    (hW : Inside (one AS_END :: one AS_END_AT :: one (CONVERTER_STATUS.CONV_FLAGS 2) :: one (OVR_END 2) :: one (OVR_MAX 2) :: one (OVR_MIN 2) :: one (OVR_ON 2) :: one (OVR_REF 2) :: []) W)
    : RunsIn W L org (execAssistSessionTimeout s) := by
  delta execAssistSessionTimeout
  repeat' first
    | with_reducible assumption
    | with_reducible refine RunsIn.next ?_
    | with_reducible apply State.asTimeout_leaves
    | with_unfolding_none apply hW.sub (inBoth (inBoth (inBoth (inBoth (inBoth (inBoth (inBoth (inBoth inNil))))))))

theorem execAssistForeignOvervoltage_frame {W : List Span} {L : List Part} {org s : State} (asv : Int) (us : Nat) (h : Leaves W L org s)
    (hW : Inside (one AS_END :: one AS_END_AT :: one (CONVERTER_STATUS.CONV_FLAGS 2) :: one (OVR_END 2) :: one (OVR_MAX 2) :: one (OVR_MIN 2) :: one (OVR_ON 2) :: one (OVR_REF 2) :: []) W)
    : RunsIn W L org (execAssistForeignOvervoltage asv us s) := by
  delta execAssistForeignOvervoltage
  repeat' first
    | with_reducible assumption
    | with_reducible refine RunsIn.next ?_
    | with_reducible apply State.asForeign_leaves
    | with_unfolding_none apply hW.sub (inBoth (inBoth (inBoth (inBoth (inBoth (inBoth (inBoth (inBoth inNil))))))))

theorem execAssistSwitchOpen_frame {W : List Span} {L : List Part} {org s : State} (h : Leaves W L org s)
    (hW : Inside (one ASSIST_STATUS.ASSIST_CURRENT :: one ASSIST_STATUS.ASSIST_RESULT :: one ASSIST_STATUS.ASSIST_STATE :: one AS_CLOSED :: one AS_END :: one AS_TIME :: one (OVR_END 2) :: []) W)
    (hL : Within ([.collector] : List Part) L) : RunsIn W L org (execAssistSwitchOpen s) := by
  delta execAssistSwitchOpen
  repeat' first
    | with_reducible assumption
    | with_reducible refine RunsIn.next ?_
    | with_reducible apply State.asOpen_leaves
    | with_unfolding_none apply hW.sub (inBoth (inBoth (inBoth (inBoth (inBoth (inBoth (inBoth inNil)))))))

end Sys2Proof.Machine
end

