-- ==== Sys2Proof/Laws/FramesC.lean ====
section
/-!
SUPPORT. The frames of Estimator, Plans, Rings, Watchdog, Deal, Commit, Records: what each definition leaves unchanged.
-/
namespace Sys2Proof.Machine

set_option Elab.async false

theorem State.setEstFlag_leaves {W : List Span} {L : List Part} {org s : State} (b : Nat) (on : Bool) (h : Leaves W L org s)
    (hW : Inside (one ESTIMATOR_STATUS.EST_FLAGS :: []) W) :
    Leaves W L org (State.setEstFlag s b on) := by
  delta State.setEstFlag
  repeat' first
    | with_reducible assumption
    | with_reducible apply State.setBit_leaves
    | (with_unfolding_none refine hW.covers ?_; repeat first | with_unfolding_none exact Covered.here | with_unfolding_none exact ESTIMATOR_STATUS.EST_FLAGS_in | with_unfolding_none refine Covered.next ?_)

theorem State.raiseEst_leaves {W : List Span} {L : List Part} {org s : State} (k : Kind) (fields : List (Nat × Int)) (h : Leaves W L org s) (hL : Within ([.collector] : List Part) L) :
    Leaves W L org (State.raiseEst s k fields) := by
  delta State.raiseEst
  repeat' first
    | with_reducible assumption
    | with_reducible apply State.raise_leaves
    | (with_reducible refine Within.trans ?_ hL; decide +kernel)

theorem State.countCharge_leaves {W : List Span} {L : List Part} {org s : State} (code : Int) (h : Leaves W L org s)
    (hW : Inside (anyKey :: []) W) :
    Leaves W L org (State.countCharge s code) := by
  delta State.countCharge
  repeat' first
    | with_reducible assumption
    | with_reducible apply State.set_leaves
    | with_reducible apply State.setN_leaves
    | (with_unfolding_none refine hW.covers ?_; repeat first | with_unfolding_none exact dyn_in | with_unfolding_none refine Covered.next ?_)
    | (extract_lets +onlyGivenNames letX; have letT : True := (by clear_value letX; guard_hyp letX : State; trivial); clear letT; refine Leaves.cut (W := W) (L := L) (r := org) (v := letX) ?_ (fun letH => ?_); (focus subst letX); rotate_left; clear_value letX; revert letX; intro _ _)
    | (extract_lets +onlyGivenNames letX; clear_value letX; revert letX; intro _)
    | with_reducible refine Leaves.ite ?_ ?_

theorem State.battOverrange_leaves {W : List Span} {L : List Part} {org s : State} (code : Int) (h : Leaves W L org s)
    (hW : Inside (one ESTIMATOR_STATUS.EST_FLAGS :: one EST_OVER :: one EST_OVER_AT :: []) W) (hL : Within ([.collector] : List Part) L) :
    Leaves W L org (State.battOverrange s code) := by
  delta State.battOverrange
  repeat' first
    | with_reducible assumption
    | with_reducible apply State.setN_leaves
    | with_reducible apply State.setEstFlag_leaves
    | with_reducible apply State.raiseEst_leaves
    | (with_unfolding_none refine hW.covers ?_; repeat first | with_unfolding_none exact Covered.here | with_unfolding_none exact EST_OVER_in | with_unfolding_none exact EST_OVER_AT_in | with_unfolding_none refine Covered.next ?_)
    | with_unfolding_none apply hW.sub (inBoth inNil)
    | with_unfolding_none apply hW.sub (inNil)
    | (with_reducible refine Within.trans ?_ hL; decide +kernel)
    | (extract_lets +onlyGivenNames letX; have letT : True := (by clear_value letX; guard_hyp letX : State; trivial); clear letT; refine Leaves.cut (W := W) (L := L) (r := org) (v := letX) ?_ (fun letH => ?_); (focus subst letX); rotate_left; clear_value letX; revert letX; intro _ _)
    | with_reducible refine Leaves.ite ?_ ?_

theorem State.battExtremes_leaves {W : List Span} {L : List Part} {org s : State} (i : Int) (h : Leaves W L org s)
    (hW : Inside (one REC_I_MAX :: one REC_I_MIN :: []) W) :
    Leaves W L org (State.battExtremes s i) := by
  delta State.battExtremes
  repeat' first
    | with_reducible assumption
    | with_reducible apply State.set_leaves
    | (with_unfolding_none refine hW.covers ?_; repeat first | with_unfolding_none exact Covered.here | with_unfolding_none exact REC_I_MAX_in | with_unfolding_none exact REC_I_MIN_in | with_unfolding_none refine Covered.next ?_)

theorem State.battMeans_leaves {W : List Span} {L : List Part} {org s : State} (i : Int) (h : Leaves W L org s)
    (hW : Inside (one ESTIMATOR_STATUS.I_BATT :: one EST_MS_CNT :: one EST_MS_SUM :: one REC_I_MAX :: one REC_I_MIN :: []) W) :
    Leaves W L org (State.battMeans s i) := by
  delta State.battMeans
  repeat' first
    | with_reducible assumption
    | with_reducible apply State.set_leaves
    | with_reducible apply State.setN_leaves
    | with_reducible apply State.battExtremes_leaves
    | (with_unfolding_none refine hW.covers ?_; repeat first | with_unfolding_none exact Covered.here | with_unfolding_none exact ESTIMATOR_STATUS.I_BATT_in | with_unfolding_none exact EST_MS_CNT_in | with_unfolding_none exact EST_MS_SUM_in | with_unfolding_none refine Covered.next ?_)
    | with_unfolding_none apply hW.sub (inSkip (inSkip (inSkip (inBoth (inBoth inNil)))))
    | (extract_lets +onlyGivenNames letX; have letT : True := (by clear_value letX; guard_hyp letX : State; trivial); clear letT; refine Leaves.cut (W := W) (L := L) (r := org) (v := letX) ?_ (fun letH => ?_); (focus subst letX); rotate_left; clear_value letX; revert letX; intro _ _)
    | (extract_lets +onlyGivenNames letX; clear_value letX; revert letX; intro _)
    | with_reducible refine Leaves.ite ?_ ?_

theorem State.sigmaSample_leaves {W : List Span} {L : List Part} {org s : State} (raw : Int) (h : Leaves W L org s)
    (hW : Inside (anyKey :: []) W) (hL : Within ([.collector] : List Part) L) :
    Leaves W L org (State.sigmaSample s raw) := by
  delta State.sigmaSample
  repeat' first
    | with_reducible assumption
    | with_reducible apply State.set_leaves
    | with_reducible apply State.setN_leaves
    | with_reducible apply State.battOverrange_leaves
    | with_reducible apply State.countCharge_leaves
    | with_reducible apply State.battMeans_leaves
    | (with_unfolding_none refine hW.covers ?_; repeat first | with_unfolding_none exact dyn_in | with_unfolding_none refine Covered.next ?_)
    | with_unfolding_none apply hW.sub (inAny)
    | (with_reducible refine Within.trans ?_ hL; decide +kernel)
    | (extract_lets +onlyGivenNames letX; have letT : True := (by clear_value letX; guard_hyp letX : State; trivial); clear letT; refine Leaves.cut (W := W) (L := L) (r := org) (v := letX) ?_ (fun letH => ?_); (focus subst letX); rotate_left; clear_value letX; revert letX; intro _ _)
    | (extract_lets +onlyGivenNames letX; clear_value letX; revert letX; intro _)
    | with_reducible refine Leaves.ite ?_ ?_

theorem State.estBoundary_leaves {W : List Span} {L : List Part} {org s : State} (h : Leaves W L org s)
    (hW : Inside (one ESTIMATOR_STATUS.BATT_SHUNT_TEMP :: one ESTIMATOR_STATUS.EST_FLAGS :: one ESTIMATOR_STATUS.I_BATT :: one ESTIMATOR_STATUS.I_BATT_1S :: one ESTIMATOR_STATUS.I_BATT_INST :: []) W) (hL : Within ([.collector] : List Part) L) :
    Leaves W L org (State.estBoundary s) := by
  delta State.estBoundary
  repeat' first
    | with_reducible assumption
    | with_reducible apply State.set_leaves
    | with_reducible apply State.setEstFlag_leaves
    | with_reducible apply State.raiseEst_leaves
    | (with_unfolding_none refine hW.covers ?_; repeat first | with_unfolding_none exact Covered.here | with_unfolding_none exact ESTIMATOR_STATUS.BATT_SHUNT_TEMP_in | with_unfolding_none exact ESTIMATOR_STATUS.I_BATT_in | with_unfolding_none exact ESTIMATOR_STATUS.I_BATT_1S_in | with_unfolding_none exact ESTIMATOR_STATUS.I_BATT_INST_in | with_unfolding_none refine Covered.next ?_)
    | with_unfolding_none apply hW.sub (inSkip (inBoth inNil))
    | with_unfolding_none apply hW.sub (inNil)
    | (with_reducible refine Within.trans ?_ hL; decide +kernel)
    | (extract_lets +onlyGivenNames letX; have letT : True := (by clear_value letX; guard_hyp letX : State; trivial); clear letT; refine Leaves.cut (W := W) (L := L) (r := org) (v := letX) ?_ (fun letH => ?_); (focus subst letX); rotate_left; clear_value letX; revert letX; intro _ _)
    | (extract_lets +onlyGivenNames letX; clear_value letX; revert letX; intro _)
    | with_reducible refine Leaves.ite ?_ ?_

theorem State.estPublish_leaves {W : List Span} {L : List Part} {org s : State} (h : Leaves W L org s)
    (hW : Inside (one ESTIMATOR_STATUS.CAPACITY_IN_USE :: one ESTIMATOR_STATUS.SOC :: one ESTIMATOR_STATUS.SOC_INTERNAL :: one ESTIMATOR_STATUS.SOH_CAPACITY :: one ESTIMATOR_STATUS.SOH_RESISTANCE :: []) W) :
    Leaves W L org (State.estPublish s) := by
  delta State.estPublish
  repeat' first
    | with_reducible assumption
    | with_reducible apply State.set_leaves
    | with_reducible apply State.setN_leaves
    | (with_unfolding_none refine hW.covers ?_; repeat first | with_unfolding_none exact Covered.here | with_unfolding_none exact ESTIMATOR_STATUS.CAPACITY_IN_USE_in | with_unfolding_none exact ESTIMATOR_STATUS.SOC_in | with_unfolding_none exact ESTIMATOR_STATUS.SOC_INTERNAL_in | with_unfolding_none exact ESTIMATOR_STATUS.SOH_CAPACITY_in | with_unfolding_none exact ESTIMATOR_STATUS.SOH_RESISTANCE_in | with_unfolding_none refine Covered.next ?_)
    | (extract_lets +onlyGivenNames letX; have letT : True := (by clear_value letX; guard_hyp letX : State; trivial); clear letT; refine Leaves.cut (W := W) (L := L) (r := org) (v := letX) ?_ (fun letH => ?_); (focus subst letX); rotate_left; clear_value letX; revert letX; intro _ _)

theorem State.setAnchor_leaves {W : List Span} {L : List Part} {org s : State} (soc : Int) (h : Leaves W L org s)
    (hW : Inside (one ESTIMATOR_STATUS.EST_FLAGS :: one EST_ANCHOR :: one EST_ANCHOR_QE :: []) W) :
    Leaves W L org (State.setAnchor s soc) := by
  delta State.setAnchor
  repeat' first
    | with_reducible assumption
    | with_reducible apply State.set_leaves
    | with_reducible apply State.setEstFlag_leaves
    | (with_unfolding_none refine hW.covers ?_; repeat first | with_unfolding_none exact Covered.here | with_unfolding_none exact EST_ANCHOR_in | with_unfolding_none exact EST_ANCHOR_QE_in | with_unfolding_none refine Covered.next ?_)
    | with_unfolding_none apply hW.sub (inBoth inNil)

theorem State.estFirst_leaves {W : List Span} {L : List Part} {org s : State} (soc : Int) (source : Nat) (h : Leaves W L org s)
    (hW : Inside (one ESTIMATOR_STATUS.SOC_SOURCE :: one EST_NA :: one EST_SOC :: one EST_SOCI :: []) W) :
    Leaves W L org (State.estFirst s soc source) := by
  delta State.estFirst
  repeat' first
    | with_reducible assumption
    | with_reducible apply State.set_leaves
    | with_reducible apply State.setN_leaves
    | (with_unfolding_none refine hW.covers ?_; repeat first | with_unfolding_none exact Covered.here | with_unfolding_none exact ESTIMATOR_STATUS.SOC_SOURCE_in | with_unfolding_none exact EST_NA_in | with_unfolding_none exact EST_SOC_in | with_unfolding_none exact EST_SOCI_in | with_unfolding_none refine Covered.next ?_)

theorem State.restCorrect_leaves {W : List Span} {L : List Part} {org s : State} (kind : Nat) (v : Int) (h : Leaves W L org s)
    (hW : Inside (one ESTIMATOR_STATUS.EST_FLAGS :: one ESTIMATOR_STATUS.LAST_REST_SOC :: one ESTIMATOR_STATUS.LAST_REST_VOLTAGE :: one ESTIMATOR_STATUS.RESTS_UNUSED :: one ESTIMATOR_STATUS.SOC_SOURCE :: one EST_ANCHOR :: one EST_ANCHOR_QE :: one EST_NA :: one EST_SOC :: one EST_SOCI :: []) W) (hL : Within ([.collector] : List Part) L) :
    Leaves W L org (State.restCorrect s kind v) := by
  delta State.restCorrect
  repeat' first
    | with_reducible assumption
    | with_reducible apply State.set_leaves
    | with_reducible apply State.count_leaves
    | with_reducible apply State.estFirst_leaves
    | with_reducible apply State.setEstFlag_leaves
    | with_reducible apply State.raiseEst_leaves
    | with_reducible apply State.setAnchor_leaves
    | (with_unfolding_none refine hW.covers ?_; repeat first | with_unfolding_none exact Covered.here | with_unfolding_none exact ESTIMATOR_STATUS.LAST_REST_SOC_in | with_unfolding_none exact ESTIMATOR_STATUS.LAST_REST_VOLTAGE_in | with_unfolding_none exact ESTIMATOR_STATUS.RESTS_UNUSED_in | with_unfolding_none exact EST_SOCI_in | with_unfolding_none refine Covered.next ?_)
    | with_unfolding_none apply hW.sub (inSkip (inSkip (inSkip (inSkip (inBoth (inSkip (inSkip (inBoth (inBoth (inBoth inNil))))))))))
    | with_unfolding_none apply hW.sub (inBoth inNil)
    | with_unfolding_none apply hW.sub (inNil)
    | with_unfolding_none apply hW.sub (inBoth (inSkip (inSkip (inSkip (inSkip (inBoth (inBoth inNil)))))))
    | (with_reducible refine Within.trans ?_ hL; decide +kernel)
    | (extract_lets +onlyGivenNames letX; have letT : True := (by clear_value letX; guard_hyp letX : State; trivial); clear letT; refine Leaves.cut (W := W) (L := L) (r := org) (v := letX) ?_ (fun letH => ?_); (focus subst letX); rotate_left; clear_value letX; revert letX; intro _ _)
    | (extract_lets +onlyGivenNames letX; have letT : True := (by clear_value letX; revert letX; with_reducible exact Keeps.isPair); clear letT; refine Leaves.cut (W := W) (L := L) (r := org) (v := letX.2) ?_ (fun letH => ?_); (focus subst letX); rotate_left; clear_value letX; revert letX; intro _ _)
    | (extract_lets +onlyGivenNames letX; clear_value letX; revert letX; intro _)
    | with_reducible refine Leaves.ite ?_ ?_

theorem State.takeRests_leaves {W : List Span} {L : List Part} {org s : State} (h : Leaves W L org s)
    (hW : Inside (one ESTIMATOR_STATUS.EST_FLAGS :: one ESTIMATOR_STATUS.LAST_REST_SOC :: one ESTIMATOR_STATUS.LAST_REST_VOLTAGE :: one ESTIMATOR_STATUS.RESTS_UNUSED :: one ESTIMATOR_STATUS.SOC_SOURCE :: one EST_ANCHOR :: one EST_ANCHOR_QE :: one EST_LONG :: one EST_NA :: one EST_SHORT :: one EST_SOC :: one EST_SOCI :: []) W) (hL : Within ([.collector] : List Part) L) :
    Leaves W L org (State.takeRests s) := by
  delta State.takeRests
  repeat' first
    | with_reducible assumption
    | with_reducible apply State.set_leaves
    | with_reducible apply State.restCorrect_leaves
    | (with_unfolding_none refine hW.covers ?_; repeat first | with_unfolding_none exact Covered.here | with_unfolding_none exact EST_LONG_in | with_unfolding_none exact EST_SHORT_in | with_unfolding_none refine Covered.next ?_)
    | with_unfolding_none apply hW.sub (inBoth (inBoth (inBoth (inBoth (inBoth (inBoth (inBoth (inSkip (inBoth (inSkip (inBoth (inBoth inNil))))))))))))
    | (with_reducible refine Within.trans ?_ hL; decide +kernel)
    | (extract_lets +onlyGivenNames letX; have letT : True := (by clear_value letX; guard_hyp letX : State; trivial); clear letT; refine Leaves.cut (W := W) (L := L) (r := org) (v := letX) ?_ (fun letH => ?_); (focus subst letX); rotate_left; clear_value letX; revert letX; intro _ _)
    | (extract_lets +onlyGivenNames letX; clear_value letX; revert letX; intro _)
    | with_reducible refine Leaves.ite ?_ ?_

theorem State.learnCapacity_leaves {W : List Span} {L : List Part} {org s : State} (sample : Nat) (h : Leaves W L org s)
    (hW : Inside (one ESTIMATOR_STATUS.LEARNED_CAPACITY :: one REC_CAP_N :: []) W) (hL : Within ([.collector] : List Part) L) :
    Leaves W L org (State.learnCapacity s sample) := by
  delta State.learnCapacity
  repeat' first
    | with_reducible assumption
    | with_reducible apply State.set_leaves
    | with_reducible apply State.count_leaves
    | with_reducible apply State.raiseEst_leaves
    | (with_unfolding_none refine hW.covers ?_; repeat first | with_unfolding_none exact Covered.here | with_unfolding_none exact ESTIMATOR_STATUS.LEARNED_CAPACITY_in | with_unfolding_none exact REC_CAP_N_in | with_unfolding_none refine Covered.next ?_)
    | with_unfolding_none apply hW.sub (inNil)
    | (with_reducible refine Within.trans ?_ hL; decide +kernel)
    | (extract_lets +onlyGivenNames letX; have letT : True := (by clear_value letX; guard_hyp letX : State; trivial); clear letT; refine Leaves.cut (W := W) (L := L) (r := org) (v := letX) ?_ (fun letH => ?_); (focus subst letX); rotate_left; clear_value letX; revert letX; intro _ _)
    | (extract_lets +onlyGivenNames letX; clear_value letX; revert letX; intro _)
    | with_reducible refine Leaves.ite ?_ ?_

theorem State.fullCharge_leaves {W : List Span} {L : List Part} {org s : State} (h : Leaves W L org s)
    (hW : Inside (one CH_FULL :: one ESTIMATOR_STATUS.EST_FLAGS :: one ESTIMATOR_STATUS.LEARNED_CAPACITY :: one ESTIMATOR_STATUS.SOC_SOURCE :: one EST_NA :: one EST_SOC :: one EST_SOCI :: one REC_CAP_N :: []) W) (hL : Within ([.collector] : List Part) L) :
    Leaves W L org (State.fullCharge s) := by
  delta State.fullCharge
  repeat' first
    | with_reducible assumption
    | with_reducible apply State.set_leaves
    | with_reducible apply State.setN_leaves
    | with_reducible apply State.raiseEst_leaves
    | with_reducible apply State.learnCapacity_leaves
    | with_reducible apply State.estFirst_leaves
    | with_reducible apply State.setEstFlag_leaves
    | (with_unfolding_none refine hW.covers ?_; repeat first | with_unfolding_none exact Covered.here | with_unfolding_none exact CH_FULL_in | with_unfolding_none exact EST_SOCI_in | with_unfolding_none refine Covered.next ?_)
    | with_unfolding_none apply hW.sub (inNil)
    | with_unfolding_none apply hW.sub (inSkip (inSkip (inBoth (inSkip (inSkip (inSkip (inSkip (inBoth inNil))))))))
    | with_unfolding_none apply hW.sub (inSkip (inSkip (inSkip (inBoth (inBoth (inBoth (inBoth inNil)))))))
    | with_unfolding_none apply hW.sub (inSkip (inBoth inNil))
    | (with_reducible refine Within.trans ?_ hL; decide +kernel)
    | with_reducible refine Leaves.ite ?_ ?_

theorem State.socMoves_leaves {W : List Span} {L : List Part} {org s : State} (d i : Int) (h : Leaves W L org s)
    (hW : Inside (one EST_SOC :: []) W) :
    Leaves W L org (State.socMoves s d i) := by
  delta State.socMoves
  repeat' first
    | with_reducible assumption
    | with_reducible apply State.set_leaves
    | (with_unfolding_none refine hW.covers ?_; repeat first | with_unfolding_none exact Covered.here | with_unfolding_none exact EST_SOC_in | with_unfolding_none refine Covered.next ?_)
    | (extract_lets +onlyGivenNames letX; clear_value letX; revert letX; intro _)
    | with_reducible refine Leaves.ite ?_ ?_

theorem State.restBand_leaves {W : List Span} {L : List Part} {org s : State} (i : Int) (h : Leaves W L org s)
    (hW : Inside (one ESTIMATOR_STATUS.EST_FLAGS :: one EST_REST_DONE :: one EST_REST_SINCE :: []) W) :
    Leaves W L org (State.restBand s i) := by
  delta State.restBand
  repeat' first
    | with_reducible assumption
    | with_reducible apply State.setN_leaves
    | with_reducible apply State.setEstFlag_leaves
    | (with_unfolding_none refine hW.covers ?_; repeat first | with_unfolding_none exact Covered.here | with_unfolding_none exact EST_REST_DONE_in | with_unfolding_none exact EST_REST_SINCE_in | with_unfolding_none refine Covered.next ?_)
    | with_unfolding_none apply hW.sub (inBoth inNil)
    | (extract_lets +onlyGivenNames letX; clear_value letX; revert letX; intro _)
    | with_reducible refine Leaves.ite ?_ ?_

theorem State.longRest_leaves {W : List Span} {L : List Part} {org s : State} (h : Leaves W L org s)
    (hW : Inside (one EST_LONG :: one EST_REST_DONE :: one EST_REST_DUE :: []) W) :
    Leaves W L org (State.longRest s) := by
  delta State.longRest
  repeat' first
    | with_reducible assumption
    | with_reducible apply State.set_leaves
    | with_reducible apply State.setN_leaves
    | (with_unfolding_none refine hW.covers ?_; repeat first | with_unfolding_none exact Covered.here | with_unfolding_none exact EST_LONG_in | with_unfolding_none exact EST_REST_DONE_in | with_unfolding_none exact EST_REST_DUE_in | with_unfolding_none refine Covered.next ?_)
    | with_reducible refine Leaves.ite ?_ ?_

theorem State.estParks_leaves {W : List Span} {L : List Part} {org s : State} (h : Leaves W L org s)
    (hW : Inside (one EST_PARK_MAX :: one PARK_BAND :: one PARK_REST :: one PARK_SHUNT :: []) W) :
    Leaves W L org (State.estParks s) := by
  delta State.estParks
  repeat' first
    | with_reducible assumption
    | with_reducible apply State.set_leaves
    | with_reducible apply State.setN_leaves
    | (with_unfolding_none refine hW.covers ?_; repeat first | with_unfolding_none exact Covered.here | with_unfolding_none exact EST_PARK_MAX_in | with_unfolding_none exact PARK_BAND_in | with_unfolding_none exact PARK_REST_in | with_unfolding_none exact PARK_SHUNT_in | with_unfolding_none refine Covered.next ?_)
    | (extract_lets +onlyGivenNames letX; have letT : True := (by clear_value letX; guard_hyp letX : State; trivial); clear letT; refine Leaves.cut (W := W) (L := L) (r := org) (v := letX) ?_ (fun letH => ?_); (focus subst letX); rotate_left; clear_value letX; revert letX; intro _ _)
    | with_reducible refine Leaves.ite ?_ ?_

theorem State.estUnparks_leaves {W : List Span} {L : List Part} {org s : State} (secs : Nat) (h : Leaves W L org s)
    (hW : Inside (one EST_PARKED :: one EST_PARK_S :: one EST_REST_DUE :: one (PARK_CHARGE 0) :: one (PARK_CHARGE 1) :: one REC_IN :: one REC_OUT :: []) W) :
    Leaves W L org (State.estUnparks s secs) := by
  delta State.estUnparks
  repeat' first
    | with_reducible assumption
    | with_reducible apply State.set_leaves
    | with_reducible apply State.setN_leaves
    | with_reducible apply State.setFlag_leaves
    | (with_unfolding_none refine hW.covers ?_; repeat first | with_unfolding_none exact Covered.here | with_unfolding_none exact EST_PARKED_in | with_unfolding_none exact EST_PARK_S_in | with_unfolding_none exact EST_REST_DUE_in | with_unfolding_none exact REC_IN_in | with_unfolding_none exact REC_OUT_in | with_unfolding_none refine Covered.next ?_)
    | (extract_lets +onlyGivenNames letX; have letT : True := (by clear_value letX; guard_hyp letX : State; trivial); clear letT; refine Leaves.cut (W := W) (L := L) (r := org) (v := letX) ?_ (fun letH => ?_); (focus subst letX); rotate_left; clear_value letX; revert letX; intro _ _)
    | (extract_lets +onlyGivenNames letX; clear_value letX; revert letX; intro _)

theorem State.addSeconds_leaves {W : List Span} {L : List Part} {org s : State} (k n : Nat) (h : Leaves W L org s) (hk : Covered W k) :
    Leaves W L org (State.addSeconds s k n) := by
  delta State.addSeconds
  repeat' first
    | with_reducible assumption
    | with_reducible apply State.setN_leaves
    | with_reducible exact hk

theorem State.binSeconds_leaves {W : List Span} {L : List Part} {org s : State} (n : Nat) (h : Leaves W L org s)
    (hW : Inside (each REC_GRID :: each REC_HIST :: one REC_UNBINNED :: []) W) :
    Leaves W L org (State.binSeconds s n) := by
  delta State.binSeconds
  repeat' first
    | with_reducible assumption
    | with_reducible apply State.addSeconds_leaves
    | (with_unfolding_none refine hW.covers ?_; repeat first | with_unfolding_none exact Covered.here | with_unfolding_none exact REC_GRID_in | with_unfolding_none exact REC_HIST_in | with_unfolding_none exact REC_UNBINNED_in | with_unfolding_none refine Covered.next ?_)
    | with_unfolding_none apply hW.sub (inNil)
    | (extract_lets +onlyGivenNames letX; have letT : True := (by clear_value letX; guard_hyp letX : State; trivial); clear letT; refine Leaves.cut (W := W) (L := L) (r := org) (v := letX) ?_ (fun letH => ?_); (focus subst letX); rotate_left; clear_value letX; revert letX; intro _ _)
    | with_reducible refine Leaves.ite ?_ ?_

theorem State.takeBins_leaves {W : List Span} {L : List Part} {org s : State} (i : Int) (h : Leaves W L org s)
    (hW : Inside (one EST_BIN :: one EST_IBIN :: one EST_PARK_S :: each REC_GRID :: each REC_HIST :: one REC_UNBINNED :: []) W) :
    Leaves W L org (State.takeBins s i) := by
  delta State.takeBins
  repeat' first
    | with_reducible assumption
    | with_reducible apply State.setN_leaves
    | with_reducible apply State.binSeconds_leaves
    | (with_unfolding_none refine hW.covers ?_; repeat first | with_unfolding_none exact Covered.here | with_unfolding_none exact EST_BIN_in | with_unfolding_none exact EST_IBIN_in | with_unfolding_none exact EST_PARK_S_in | with_unfolding_none refine Covered.next ?_)
    | with_unfolding_none apply hW.sub (inSkip (inSkip (inSkip (inBoth (inBoth (inBoth inNil))))))
    | (extract_lets +onlyGivenNames letX; have letT : True := (by clear_value letX; guard_hyp letX : State; trivial); clear letT; refine Leaves.cut (W := W) (L := L) (r := org) (v := letX) ?_ (fun letH => ?_); (focus subst letX); rotate_left; clear_value letX; revert letX; intro _ _)
    | (extract_lets +onlyGivenNames letX; clear_value letX; revert letX; intro _)
    | with_reducible refine Leaves.ite ?_ ?_

theorem State.retainedCopy_leaves {W : List Span} {L : List Part} {org s : State} (h : Leaves W L org s)
    (hW : Inside (one RET_CAPACITY :: one RET_SOC :: one RET_SOCI :: []) W) :
    Leaves W L org (State.retainedCopy s) := by
  delta State.retainedCopy
  repeat' first
    | with_reducible assumption
    | with_reducible apply State.set_leaves
    | with_reducible apply State.setN_leaves
    | (with_unfolding_none refine hW.covers ?_; repeat first | with_unfolding_none exact Covered.here | with_unfolding_none exact RET_CAPACITY_in | with_unfolding_none exact RET_SOC_in | with_unfolding_none exact RET_SOCI_in | with_unfolding_none refine Covered.next ?_)

theorem State.estUpdate_leaves {W : List Span} {L : List Part} {org s : State} (h : Leaves W L org s)
    (hW : Inside (one CH_FULL :: one ESTIMATOR_STATUS.CAPACITY_IN_USE :: one ESTIMATOR_STATUS.EST_FLAGS :: one ESTIMATOR_STATUS.I_BATT_1S :: one ESTIMATOR_STATUS.LAST_REST_SOC :: one ESTIMATOR_STATUS.LAST_REST_VOLTAGE :: one ESTIMATOR_STATUS.LEARNED_CAPACITY :: one ESTIMATOR_STATUS.RESTS_UNUSED :: one ESTIMATOR_STATUS.SOC :: one ESTIMATOR_STATUS.SOC_INTERNAL :: one ESTIMATOR_STATUS.SOC_SOURCE :: one ESTIMATOR_STATUS.SOH_CAPACITY :: one ESTIMATOR_STATUS.SOH_RESISTANCE :: one EST_ANCHOR :: one EST_ANCHOR_QE :: one EST_BIN :: one EST_CNT :: one EST_IBIN :: one EST_LONG :: one EST_NA :: one EST_OVER :: one EST_PARKED :: one EST_PARK_MAX :: one EST_PARK_S :: one EST_QE :: one EST_QM :: one EST_QP :: one EST_REST_DONE :: one EST_REST_DUE :: one EST_REST_SINCE :: one EST_SHORT :: one EST_SOC :: one EST_SOCI :: one EST_SUM :: one EST_UPDATED :: one REC_CAP_N :: each REC_GRID :: each REC_HIST :: one REC_UNBINNED :: one RET_CAPACITY :: one RET_SOC :: one RET_SOCI :: []) W) (hL : Within ([.collector] : List Part) L) :
    Leaves W L org (State.estUpdate s) := by
  delta State.estUpdate
  repeat' first
    | with_reducible assumption
    | with_reducible apply State.set_leaves
    | with_reducible apply State.setN_leaves
    | with_reducible apply State.takeRests_leaves
    | with_reducible apply State.fullCharge_leaves
    | with_reducible apply State.socMoves_leaves
    | with_reducible apply State.estPublish_leaves
    | with_reducible apply State.restBand_leaves
    | with_reducible apply State.takeBins_leaves
    | with_reducible apply State.setEstFlag_leaves
    | with_reducible apply State.retainedCopy_leaves
    | (with_unfolding_none refine hW.covers ?_; repeat first | with_unfolding_none exact Covered.here | with_unfolding_none exact ESTIMATOR_STATUS.I_BATT_1S_in | with_unfolding_none exact EST_CNT_in | with_unfolding_none exact EST_OVER_in | with_unfolding_none exact EST_PARKED_in | with_unfolding_none exact EST_PARK_MAX_in | with_unfolding_none exact EST_QE_in | with_unfolding_none exact EST_QM_in | with_unfolding_none exact EST_QP_in | with_unfolding_none exact EST_REST_DUE_in | with_unfolding_none exact EST_SOCI_in | with_unfolding_none exact EST_SUM_in | with_unfolding_none exact EST_UPDATED_in | with_unfolding_none refine Covered.next ?_)
    | with_unfolding_none apply hW.sub (inSkip (inSkip (inBoth (inSkip (inBoth (inBoth (inSkip (inBoth (inSkip (inSkip (inBoth (inSkip (inSkip (inBoth (inBoth (inSkip (inSkip (inSkip (inBoth (inBoth (inSkip (inSkip (inSkip (inSkip (inSkip (inSkip (inSkip (inSkip (inSkip (inSkip (inBoth (inBoth (inBoth inNil)))))))))))))))))))))))))))))))))
    | with_unfolding_none apply hW.sub (inBoth (inSkip (inBoth (inSkip (inSkip (inSkip (inBoth (inSkip (inSkip (inSkip (inBoth (inSkip (inSkip (inSkip (inSkip (inSkip (inSkip (inSkip (inSkip (inBoth (inSkip (inSkip (inSkip (inSkip (inSkip (inSkip (inSkip (inSkip (inSkip (inSkip (inSkip (inBoth (inBoth (inSkip (inSkip (inBoth inNil))))))))))))))))))))))))))))))))))))
    | with_unfolding_none apply hW.sub (inSkip (inSkip (inSkip (inSkip (inSkip (inSkip (inSkip (inSkip (inSkip (inSkip (inSkip (inSkip (inSkip (inSkip (inSkip (inSkip (inSkip (inSkip (inSkip (inSkip (inSkip (inSkip (inSkip (inSkip (inSkip (inSkip (inSkip (inSkip (inSkip (inSkip (inSkip (inBoth inNil))))))))))))))))))))))))))))))))
    | with_unfolding_none apply hW.sub (inSkip (inBoth (inSkip (inSkip (inSkip (inSkip (inSkip (inSkip (inBoth (inBoth (inSkip (inBoth (inBoth inNil)))))))))))))
    | with_unfolding_none apply hW.sub (inSkip (inSkip (inBoth (inSkip (inSkip (inSkip (inSkip (inSkip (inSkip (inSkip (inSkip (inSkip (inSkip (inSkip (inSkip (inSkip (inSkip (inSkip (inSkip (inSkip (inSkip (inSkip (inSkip (inSkip (inSkip (inSkip (inSkip (inBoth (inSkip (inBoth inNil))))))))))))))))))))))))))))))
    | with_unfolding_none apply hW.sub (inSkip (inSkip (inSkip (inSkip (inSkip (inSkip (inSkip (inSkip (inSkip (inSkip (inSkip (inSkip (inSkip (inSkip (inSkip (inBoth (inSkip (inBoth (inSkip (inSkip (inSkip (inSkip (inSkip (inBoth (inSkip (inSkip (inSkip (inSkip (inSkip (inSkip (inSkip (inSkip (inSkip (inSkip (inSkip (inSkip (inBoth (inBoth (inBoth inNil)))))))))))))))))))))))))))))))))))))))
    | with_unfolding_none apply hW.sub (inSkip (inSkip (inBoth inNil)))
    | with_unfolding_none apply hW.sub (inSkip (inSkip (inSkip (inSkip (inSkip (inSkip (inSkip (inSkip (inSkip (inSkip (inSkip (inSkip (inSkip (inSkip (inSkip (inSkip (inSkip (inSkip (inSkip (inSkip (inSkip (inSkip (inSkip (inSkip (inSkip (inSkip (inSkip (inSkip (inSkip (inSkip (inSkip (inSkip (inSkip (inSkip (inSkip (inSkip (inSkip (inSkip (inSkip (inBoth (inBoth (inBoth inNil))))))))))))))))))))))))))))))))))))))))))
    | (with_reducible refine Within.trans ?_ hL; decide +kernel)
    | (extract_lets +onlyGivenNames letX; have letT : True := (by clear_value letX; guard_hyp letX : State; trivial); clear letT; refine Leaves.cut (W := W) (L := L) (r := org) (v := letX) ?_ (fun letH => ?_); (focus subst letX); rotate_left; clear_value letX; revert letX; intro _ _)
    | (extract_lets +onlyGivenNames letX; clear_value letX; revert letX; intro _)
    | with_reducible refine Leaves.ite ?_ ?_

theorem State.estimatorUpdate_leaves {W : List Span} {L : List Part} {org s : State} (h : Leaves W L org s)
    (hW : Inside (one CH_FULL :: one ESTIMATOR_STATUS.CAPACITY_IN_USE :: one ESTIMATOR_STATUS.EST_FLAGS :: one ESTIMATOR_STATUS.I_BATT_1S :: one ESTIMATOR_STATUS.LAST_REST_SOC :: one ESTIMATOR_STATUS.LAST_REST_VOLTAGE :: one ESTIMATOR_STATUS.LEARNED_CAPACITY :: one ESTIMATOR_STATUS.RESTS_UNUSED :: one ESTIMATOR_STATUS.SOC :: one ESTIMATOR_STATUS.SOC_INTERNAL :: one ESTIMATOR_STATUS.SOC_SOURCE :: one ESTIMATOR_STATUS.SOH_CAPACITY :: one ESTIMATOR_STATUS.SOH_RESISTANCE :: one EST_ANCHOR :: one EST_ANCHOR_QE :: one EST_BIN :: one EST_CNT :: one EST_IBIN :: one EST_LONG :: one EST_NA :: one EST_OVER :: one EST_PARKED :: one EST_PARK_MAX :: one EST_PARK_S :: one EST_QE :: one EST_QM :: one EST_QP :: one EST_REST_DONE :: one EST_REST_DUE :: one EST_REST_SINCE :: one EST_SHORT :: one EST_SOC :: one EST_SOCI :: one EST_SUM :: one EST_UPDATED :: one REC_CAP_N :: each REC_GRID :: each REC_HIST :: one REC_UNBINNED :: one RET_CAPACITY :: one RET_SOC :: one RET_SOCI :: []) W) (hL : Within ([.collector] : List Part) L) :
    Leaves W L org (State.estimatorUpdate s) := by
  delta State.estimatorUpdate
  repeat' first
    | with_reducible assumption
    | with_reducible apply State.estUpdate_leaves
    | with_unfolding_none apply hW.sub (inBoth (inBoth (inBoth (inBoth (inBoth (inBoth (inBoth (inBoth (inBoth (inBoth (inBoth (inBoth (inBoth (inBoth (inBoth (inBoth (inBoth (inBoth (inBoth (inBoth (inBoth (inBoth (inBoth (inBoth (inBoth (inBoth (inBoth (inBoth (inBoth (inBoth (inBoth (inBoth (inBoth (inBoth (inBoth (inBoth (inBoth (inBoth (inBoth (inBoth (inBoth (inBoth inNil))))))))))))))))))))))))))))))))))))))))))
    | (with_reducible refine Within.trans ?_ hL; decide +kernel)
    | with_reducible refine Leaves.ite ?_ ?_

theorem State.resistanceSample_leaves {W : List Span} {L : List Part} {org s : State} (v i : Int) (h : Leaves W L org s)
    (hW : Inside (one ESTIMATOR_STATUS.CAPACITY_IN_USE :: one ESTIMATOR_STATUS.RESISTANCE :: one ESTIMATOR_STATUS.SOC :: one ESTIMATOR_STATUS.SOC_INTERNAL :: one ESTIMATOR_STATUS.SOH_CAPACITY :: one ESTIMATOR_STATUS.SOH_RESISTANCE :: one REC_RES_N :: one RS_OK :: []) W) (hL : Within ([.free] : List Part) L) :
    Leaves W L org (State.resistanceSample s v i) := by
  delta State.resistanceSample
  repeat' first
    | with_reducible assumption
    | with_reducible apply State.set_leaves
    | with_reducible apply State.setN_leaves
    | with_reducible apply State.count_leaves
    | with_reducible apply State.setFree_leaves
    | with_reducible apply State.estPublish_leaves
    | (with_unfolding_none refine hW.covers ?_; repeat first | with_unfolding_none exact Covered.here | with_unfolding_none exact ESTIMATOR_STATUS.RESISTANCE_in | with_unfolding_none exact REC_RES_N_in | with_unfolding_none exact RS_OK_in | with_unfolding_none refine Covered.next ?_)
    | with_unfolding_none apply hW.sub (inBoth (inSkip (inBoth (inBoth (inBoth (inBoth inNil))))))
    | (with_reducible refine Within.trans ?_ hL; decide +kernel)
    | with_reducible exact hL _ (by decide +kernel)
    | (extract_lets +onlyGivenNames letX; have letT : True := (by clear_value letX; guard_hyp letX : State; trivial); clear letT; refine Leaves.cut (W := W) (L := L) (r := org) (v := letX) ?_ (fun letH => ?_); (focus subst letX); rotate_left; clear_value letX; revert letX; intro _ _)
    | (extract_lets +onlyGivenNames letX; clear_value letX; revert letX; intro _)
    | with_reducible refine Leaves.ite ?_ ?_

theorem State.battTempExtremes_leaves {W : List Span} {L : List Part} {org s : State} (t : Int) (h : Leaves W L org s)
    (hW : Inside (one REC_T_MAX :: one REC_T_MIN :: []) W) :
    Leaves W L org (State.battTempExtremes s t) := by
  delta State.battTempExtremes
  repeat' first
    | with_reducible assumption
    | with_reducible apply State.set_leaves
    | (with_unfolding_none refine hW.covers ?_; repeat first | with_unfolding_none exact Covered.here | with_unfolding_none exact REC_T_MAX_in | with_unfolding_none exact REC_T_MIN_in | with_unfolding_none refine Covered.next ?_)

theorem State.battVoltExtremes_leaves {W : List Span} {L : List Part} {org s : State} (v : Int) (h : Leaves W L org s)
    (hW : Inside (one REC_V_MAX :: one REC_V_MIN :: []) W) :
    Leaves W L org (State.battVoltExtremes s v) := by
  delta State.battVoltExtremes
  repeat' first
    | with_reducible assumption
    | with_reducible apply State.set_leaves
    | (with_unfolding_none refine hW.covers ?_; repeat first | with_unfolding_none exact Covered.here | with_unfolding_none exact REC_V_MAX_in | with_unfolding_none exact REC_V_MIN_in | with_unfolding_none refine Covered.next ?_)

theorem State.recordWritten_leaves {W : List Span} {L : List Part} {org s : State} (h : Leaves W L org s)
    (hW : Inside (one BATTERY_RECORD.SEQUENCE :: one STORE_BUSY :: each STORE_SEQ :: one STORE_SIDE :: []) W) (hL : Within ([.collector] : List Part) L) :
    Leaves W L org (State.recordWritten s) := by
  delta State.recordWritten
  repeat' first
    | with_reducible assumption
    | with_reducible apply State.setN_leaves
    | with_reducible apply State.raiseEst_leaves
    | (with_unfolding_none refine hW.covers ?_; repeat first | with_unfolding_none exact Covered.here | with_unfolding_none exact BATTERY_RECORD.SEQUENCE_in | with_unfolding_none exact STORE_BUSY_in | with_unfolding_none exact STORE_SEQ_in | with_unfolding_none exact STORE_SIDE_in | with_unfolding_none refine Covered.next ?_)
    | with_unfolding_none apply hW.sub (inNil)
    | (with_reducible refine Within.trans ?_ hL; decide +kernel)
    | (extract_lets +onlyGivenNames letX; have letT : True := (by clear_value letX; guard_hyp letX : State; trivial); clear letT; refine Leaves.cut (W := W) (L := L) (r := org) (v := letX) ?_ (fun letH => ?_); (focus subst letX); rotate_left; clear_value letX; revert letX; intro _ _)
    | (extract_lets +onlyGivenNames letX; clear_value letX; revert letX; intro _)
    | with_reducible refine Leaves.ite ?_ ?_

theorem State.recordWrite_leaves {W : List Span} {L : List Part} {org s : State} (h : Leaves W L org s)
    (hW : Inside (one BATTERY_RECORD.SEQUENCE :: one STORE_BUSY :: each STORE_COPY :: each STORE_SEQ :: one STORE_SIDE :: []) W) (hL : Within ([.collector] : List Part) L) :
    Leaves W L org (State.recordWrite s) := by
  delta State.recordWrite
  repeat' first
    | with_reducible assumption
    | with_reducible apply State.setN_leaves
    | with_reducible apply State.setBlob_leaves
    | with_reducible apply State.recordWritten_leaves
    | (with_unfolding_none refine hW.covers ?_; repeat first | with_unfolding_none exact Covered.here | with_unfolding_none exact STORE_BUSY_in | with_unfolding_none exact STORE_COPY_in | with_unfolding_none refine Covered.next ?_)
    | with_unfolding_none apply hW.sub (inBoth (inBoth (inSkip (inBoth (inBoth inNil)))))
    | (with_reducible refine Within.trans ?_ hL; decide +kernel)
    | (extract_lets +onlyGivenNames letX; have letT : True := (by clear_value letX; guard_hyp letX : State; trivial); clear letT; refine Leaves.cut (W := W) (L := L) (r := org) (v := letX) ?_ (fun letH => ?_); (focus subst letX); rotate_left; clear_value letX; revert letX; intro _ _)
    | (extract_lets +onlyGivenNames letX; clear_value letX; revert letX; intro _)
    | with_reducible refine Leaves.ite ?_ ?_

theorem State.recordCut_leaves {W : List Span} {L : List Part} {org s : State} (h : Leaves W L org s)
    (hW : Inside (one STORE_BUSY :: each STORE_COPY :: one STORE_ERASING :: each STORE_SEQ :: []) W) :
    Leaves W L org (State.recordCut s) := by
  delta State.recordCut
  repeat' first
    | with_reducible assumption
    | with_reducible apply State.setN_leaves
    | with_reducible apply State.setBlob_leaves
    | (with_unfolding_none refine hW.covers ?_; repeat first | with_unfolding_none exact Covered.here | with_unfolding_none exact STORE_BUSY_in | with_unfolding_none exact STORE_COPY_in | with_unfolding_none exact STORE_ERASING_in | with_unfolding_none exact STORE_SEQ_in | with_unfolding_none refine Covered.next ?_)
    | with_reducible refine Leaves.ite ?_ ?_

theorem State.storeTrips_leaves {W : List Span} {L : List Part} {org s : State} (h : Leaves W L org s)
    (hW : Inside (each LIFE_NEW :: each LIFE_STORED :: []) W) :
    Leaves W L org (State.storeTrips s) := by
  delta State.storeTrips
  repeat' first
    | with_reducible assumption
    | with_reducible apply State.setN_leaves
    | (with_unfolding_none refine hW.covers ?_; repeat first | with_unfolding_none exact Covered.here | with_unfolding_none exact LIFE_NEW_in | with_unfolding_none exact LIFE_STORED_in | with_unfolding_none refine Covered.next ?_)
    | with_reducible refine Leaves.ite ?_ ?_
    | with_reducible refine forBelow_leaves ?_ (fun _ _ _ => ?_)

theorem State.storePeriodic_leaves {W : List Span} {L : List Part} {org s : State} (h : Leaves W L org s)
    (hW : Inside (one BATTERY_RECORD.SEQUENCE :: each LIFE_NEW :: each LIFE_STORED :: one STORE_AT :: one STORE_BUSY :: each STORE_COPY :: each STORE_SEQ :: one STORE_SIDE :: []) W) (hL : Within ([.collector] : List Part) L) :
    Leaves W L org (State.storePeriodic s) := by
  delta State.storePeriodic
  repeat' first
    | with_reducible assumption
    | with_reducible apply State.setN_leaves
    | with_reducible apply State.recordWrite_leaves
    | with_reducible apply State.storeTrips_leaves
    | (with_unfolding_none refine hW.covers ?_; repeat first | with_unfolding_none exact Covered.here | with_unfolding_none exact STORE_AT_in | with_unfolding_none refine Covered.next ?_)
    | with_unfolding_none apply hW.sub (inBoth (inSkip (inSkip (inSkip (inBoth (inBoth (inBoth (inBoth inNil))))))))
    | with_unfolding_none apply hW.sub (inSkip (inBoth (inBoth inNil)))
    | (with_reducible refine Within.trans ?_ hL; decide +kernel)
    | with_reducible refine Leaves.ite ?_ ?_

theorem State.recordEmpty_leaves {W : List Span} {L : List Part} {org s : State} (h : Leaves W L org s)
    (hW : Inside (one ESTIMATOR_STATUS.LEARNED_CAPACITY :: one ESTIMATOR_STATUS.RESISTANCE :: one REC_CAP_N :: each REC_GRID :: each REC_HIST :: one REC_IN :: one REC_I_MAX :: one REC_I_MIN :: one REC_OUT :: one REC_REPLACED :: one REC_RES_N :: one REC_T_MAX :: one REC_T_MIN :: one REC_UNBINNED :: one REC_V_MAX :: one REC_V_MIN :: []) W) :
    Leaves W L org (State.recordEmpty s) := by
  delta State.recordEmpty
  repeat' first
    | with_reducible assumption
    | with_reducible apply State.set_leaves
    | with_reducible apply State.setN_leaves
    | with_reducible apply State.restore_leaves
    | (with_unfolding_none refine hW.covers ?_; repeat first | with_unfolding_none exact Covered.here | with_unfolding_none exact ESTIMATOR_STATUS.LEARNED_CAPACITY_in | with_unfolding_none exact ESTIMATOR_STATUS.RESISTANCE_in | with_unfolding_none exact REC_CAP_N_in | with_unfolding_none exact REC_GRID_in | with_unfolding_none exact REC_HIST_in | with_unfolding_none exact REC_IN_in | with_unfolding_none exact REC_I_MAX_in | with_unfolding_none exact REC_I_MIN_in | with_unfolding_none exact REC_OUT_in | with_unfolding_none exact REC_REPLACED_in | with_unfolding_none exact REC_RES_N_in | with_unfolding_none exact REC_T_MAX_in | with_unfolding_none exact REC_T_MIN_in | with_unfolding_none exact REC_UNBINNED_in | with_unfolding_none exact REC_V_MAX_in | with_unfolding_none exact REC_V_MIN_in | with_unfolding_none refine Covered.next ?_)
    | (extract_lets +onlyGivenNames letX; have letT : True := (by clear_value letX; guard_hyp letX : State; trivial); clear letT; refine Leaves.cut (W := W) (L := L) (r := org) (v := letX) ?_ (fun letH => ?_); (focus subst letX); rotate_left; clear_value letX; revert letX; intro _ _)
    | with_reducible refine forBelow_leaves ?_ (fun _ _ _ => ?_)

theorem State.recordLoad_leaves {W : List Span} {L : List Part} {org s : State} (b : List Byte) (h : Leaves W L org s)
    (hW : Inside (one ESTIMATOR_STATUS.LEARNED_CAPACITY :: one ESTIMATOR_STATUS.RESISTANCE :: one REC_CAP_N :: each REC_GRID :: each REC_HIST :: one REC_IN :: one REC_I_MAX :: one REC_I_MIN :: one REC_OUT :: one REC_REPLACED :: one REC_RES_N :: one REC_T_MAX :: one REC_T_MIN :: one REC_UNBINNED :: one REC_V_MAX :: one REC_V_MIN :: []) W) :
    Leaves W L org (State.recordLoad s b) := by
  delta State.recordLoad
  repeat' first
    | with_reducible assumption
    | with_reducible apply State.set_leaves
    | with_reducible apply State.setN_leaves
    | (with_unfolding_none refine hW.covers ?_; repeat first | with_unfolding_none exact Covered.here | with_unfolding_none exact ESTIMATOR_STATUS.LEARNED_CAPACITY_in | with_unfolding_none exact ESTIMATOR_STATUS.RESISTANCE_in | with_unfolding_none exact REC_CAP_N_in | with_unfolding_none exact REC_GRID_in | with_unfolding_none exact REC_HIST_in | with_unfolding_none exact REC_IN_in | with_unfolding_none exact REC_I_MAX_in | with_unfolding_none exact REC_I_MIN_in | with_unfolding_none exact REC_OUT_in | with_unfolding_none exact REC_REPLACED_in | with_unfolding_none exact REC_RES_N_in | with_unfolding_none exact REC_T_MAX_in | with_unfolding_none exact REC_T_MIN_in | with_unfolding_none exact REC_UNBINNED_in | with_unfolding_none exact REC_V_MAX_in | with_unfolding_none exact REC_V_MIN_in | with_unfolding_none refine Covered.next ?_)
    | (extract_lets +onlyGivenNames letX; have letT : True := (by clear_value letX; guard_hyp letX : State; trivial); clear letT; refine Leaves.cut (W := W) (L := L) (r := org) (v := letX) ?_ (fun letH => ?_); (focus subst letX); rotate_left; clear_value letX; revert letX; intro _ _)
    | with_reducible refine forBelow_leaves ?_ (fun _ _ _ => ?_)

theorem State.estRestore_leaves {W : List Span} {L : List Part} {org s : State} (soci : Int) (soc source : Nat) (h : Leaves W L org s)
    (hW : Inside (one ESTIMATOR_STATUS.SOC_SOURCE :: one EST_NA :: one EST_SOC :: one EST_SOCI :: []) W) :
    Leaves W L org (State.estRestore s soci soc source) := by
  delta State.estRestore
  repeat' first
    | with_reducible assumption
    | with_reducible apply State.set_leaves
    | with_reducible apply State.setN_leaves
    | with_reducible apply State.setFlag_leaves
    | (with_unfolding_none refine hW.covers ?_; repeat first | with_unfolding_none exact Covered.here | with_unfolding_none exact ESTIMATOR_STATUS.SOC_SOURCE_in | with_unfolding_none exact EST_NA_in | with_unfolding_none exact EST_SOC_in | with_unfolding_none exact EST_SOCI_in | with_unfolding_none refine Covered.next ?_)

theorem State.estOpening_leaves {W : List Span} {L : List Part} {org s : State} (retained : Bool) (h : Leaves W L org s)
    (hW : Inside (one BATTERY_RECORD.SEQUENCE :: one ESTIMATOR_STATUS.CAPACITY_IN_USE :: one ESTIMATOR_STATUS.EST_FLAGS :: one ESTIMATOR_STATUS.LEARNED_CAPACITY :: one ESTIMATOR_STATUS.RESISTANCE :: one ESTIMATOR_STATUS.SOC :: one ESTIMATOR_STATUS.SOC_INTERNAL :: one ESTIMATOR_STATUS.SOC_SOURCE :: one ESTIMATOR_STATUS.SOH_CAPACITY :: one ESTIMATOR_STATUS.SOH_RESISTANCE :: one EST_NA :: one EST_QE :: one EST_SOC :: one EST_SOCI :: one REC_CAP_N :: each REC_GRID :: each REC_HIST :: one REC_IN :: one REC_I_MAX :: one REC_I_MIN :: one REC_OUT :: one REC_REPLACED :: one REC_RES_N :: one REC_T_MAX :: one REC_T_MIN :: one REC_UNBINNED :: one REC_V_MAX :: one REC_V_MIN :: one STORE_AT :: one STORE_SIDE :: []) W) (hL : Within ([.collector] : List Part) L) :
    Leaves W L org (State.estOpening s retained) := by
  delta State.estOpening
  repeat' first
    | with_reducible assumption
    | with_reducible apply State.set_leaves
    | with_reducible apply State.setN_leaves
    | with_reducible apply State.recordLoad_leaves
    | with_reducible apply State.recordEmpty_leaves
    | with_reducible apply State.raiseEst_leaves
    | with_reducible apply State.setEstFlag_leaves
    | with_reducible apply State.estRestore_leaves
    | with_reducible apply State.estPublish_leaves
    | (with_unfolding_none refine hW.covers ?_; repeat first | with_unfolding_none exact Covered.here | with_unfolding_none exact BATTERY_RECORD.SEQUENCE_in | with_unfolding_none exact ESTIMATOR_STATUS.SOC_SOURCE_in | with_unfolding_none exact EST_QE_in | with_unfolding_none exact STORE_AT_in | with_unfolding_none exact STORE_SIDE_in | with_unfolding_none refine Covered.next ?_)
    | with_unfolding_none apply hW.sub (inSkip (inSkip (inSkip (inBoth (inBoth (inSkip (inSkip (inSkip (inSkip (inSkip (inSkip (inSkip (inSkip (inSkip (inBoth (inBoth (inBoth (inBoth (inBoth (inBoth (inBoth (inBoth (inBoth (inBoth (inBoth (inBoth (inBoth (inBoth inNil))))))))))))))))))))))))))))
    | with_unfolding_none apply hW.sub (inNil)
    | with_unfolding_none apply hW.sub (inSkip (inSkip (inBoth inNil)))
    | with_unfolding_none apply hW.sub (inSkip (inSkip (inSkip (inSkip (inSkip (inSkip (inSkip (inBoth (inSkip (inSkip (inBoth (inSkip (inBoth (inBoth inNil))))))))))))))
    | with_unfolding_none apply hW.sub (inSkip (inBoth (inSkip (inSkip (inSkip (inBoth (inBoth (inSkip (inBoth (inBoth inNil))))))))))
    | (with_reducible refine Within.trans ?_ hL; decide +kernel)
    | with_reducible refine Leaves.ite ?_ ?_
    | split
    | with_reducible refine Leaves.ofPair (by assumption) ?_

theorem State.batteryReplaced_leaves {W : List Span} {L : List Part} {org s : State} (h : Leaves W L org s)
    (hW : Inside (one BATTERY_RECORD.SEQUENCE :: one ESTIMATOR_STATUS.CAPACITY_IN_USE :: one ESTIMATOR_STATUS.EST_FLAGS :: one ESTIMATOR_STATUS.LEARNED_CAPACITY :: one ESTIMATOR_STATUS.RESISTANCE :: one ESTIMATOR_STATUS.SOC :: one ESTIMATOR_STATUS.SOC_INTERNAL :: one ESTIMATOR_STATUS.SOC_SOURCE :: one ESTIMATOR_STATUS.SOH_CAPACITY :: one ESTIMATOR_STATUS.SOH_RESISTANCE :: one REC_CAP_N :: each REC_GRID :: each REC_HIST :: one REC_IN :: one REC_I_MAX :: one REC_I_MIN :: one REC_OUT :: one REC_REPLACED :: one REC_RES_N :: one REC_T_MAX :: one REC_T_MIN :: one REC_UNBINNED :: one REC_V_MAX :: one REC_V_MIN :: one RET_CAPACITY :: one RET_SOC :: one RET_SOCI :: one STORE_BUSY :: each STORE_COPY :: each STORE_SEQ :: one STORE_SIDE :: []) W) (hL : Within ([.collector] : List Part) L) :
    Leaves W L org (State.batteryReplaced s) := by
  delta State.batteryReplaced
  repeat' first
    | with_reducible assumption
    | with_reducible apply State.set_leaves
    | with_reducible apply State.setN_leaves
    | with_reducible apply State.setEstFlag_leaves
    | with_reducible apply State.estPublish_leaves
    | with_reducible apply State.raiseEst_leaves
    | with_reducible apply State.recordEmpty_leaves
    | with_reducible apply State.recordWrite_leaves
    | (with_unfolding_none refine hW.covers ?_; repeat first | with_unfolding_none exact Covered.here | with_unfolding_none exact ESTIMATOR_STATUS.SOC_SOURCE_in | with_unfolding_none exact REC_REPLACED_in | with_unfolding_none exact RET_CAPACITY_in | with_unfolding_none exact RET_SOC_in | with_unfolding_none exact RET_SOCI_in | with_unfolding_none refine Covered.next ?_)
    | with_unfolding_none apply hW.sub (inSkip (inSkip (inBoth inNil)))
    | with_unfolding_none apply hW.sub (inSkip (inBoth (inSkip (inSkip (inSkip (inBoth (inBoth (inSkip (inBoth (inBoth inNil))))))))))
    | with_unfolding_none apply hW.sub (inNil)
    | with_unfolding_none apply hW.sub (inBoth (inSkip (inSkip (inSkip (inSkip (inSkip (inSkip (inSkip (inSkip (inSkip (inSkip (inSkip (inSkip (inSkip (inSkip (inSkip (inSkip (inSkip (inSkip (inSkip (inSkip (inSkip (inSkip (inSkip (inSkip (inSkip (inSkip (inBoth (inBoth (inBoth (inBoth inNil)))))))))))))))))))))))))))))))
    | with_unfolding_none apply hW.sub (inSkip (inSkip (inSkip (inBoth (inBoth (inSkip (inSkip (inSkip (inSkip (inSkip (inBoth (inBoth (inBoth (inBoth (inBoth (inBoth (inBoth (inBoth (inBoth (inBoth (inBoth (inBoth (inBoth (inBoth inNil))))))))))))))))))))))))
    | (with_reducible refine Within.trans ?_ hL; decide +kernel)
    | (extract_lets +onlyGivenNames letX; have letT : True := (by clear_value letX; guard_hyp letX : State; trivial); clear letT; refine Leaves.cut (W := W) (L := L) (r := org) (v := letX) ?_ (fun letH => ?_); (focus subst letX); rotate_left; clear_value letX; revert letX; intro _ _)
    | (extract_lets +onlyGivenNames letX; clear_value letX; revert letX; intro _)

theorem execSigmaSample_frame {W : List Span} {L : List Part} {org s : State} (code : Int) (h : Leaves W L org s)
    (hW : Inside (anyKey :: []) W)
    (hL : Within ([.collector] : List Part) L) : RunsIn W L org (execSigmaSample code s) := by
  delta execSigmaSample
  repeat' first
    | with_reducible assumption
    | with_reducible refine RunsIn.next ?_
    | with_reducible apply State.sigmaSample_leaves
    | with_unfolding_none apply hW.sub (inAny)

theorem execEstimatorUpdate_frame {W : List Span} {L : List Part} {org s : State} (h : Leaves W L org s)
    (hW : Inside (one CH_FULL :: one ESTIMATOR_STATUS.CAPACITY_IN_USE :: one ESTIMATOR_STATUS.EST_FLAGS :: one ESTIMATOR_STATUS.I_BATT_1S :: one ESTIMATOR_STATUS.LAST_REST_SOC :: one ESTIMATOR_STATUS.LAST_REST_VOLTAGE :: one ESTIMATOR_STATUS.LEARNED_CAPACITY :: one ESTIMATOR_STATUS.RESTS_UNUSED :: one ESTIMATOR_STATUS.SOC :: one ESTIMATOR_STATUS.SOC_INTERNAL :: one ESTIMATOR_STATUS.SOC_SOURCE :: one ESTIMATOR_STATUS.SOH_CAPACITY :: one ESTIMATOR_STATUS.SOH_RESISTANCE :: one EST_ANCHOR :: one EST_ANCHOR_QE :: one EST_BIN :: one EST_CNT :: one EST_IBIN :: one EST_LONG :: one EST_NA :: one EST_OVER :: one EST_PARKED :: one EST_PARK_MAX :: one EST_PARK_S :: one EST_QE :: one EST_QM :: one EST_QP :: one EST_REST_DONE :: one EST_REST_DUE :: one EST_REST_SINCE :: one EST_SHORT :: one EST_SOC :: one EST_SOCI :: one EST_SUM :: one EST_UPDATED :: one REC_CAP_N :: each REC_GRID :: each REC_HIST :: one REC_UNBINNED :: one RET_CAPACITY :: one RET_SOC :: one RET_SOCI :: []) W)
    (hL : Within ([.collector] : List Part) L) : RunsIn W L org (execEstimatorUpdate s) := by
  delta execEstimatorUpdate
  repeat' first
    | with_reducible assumption
    | with_reducible refine RunsIn.next ?_
    | with_reducible apply State.estimatorUpdate_leaves
    | with_unfolding_none apply hW.sub (inBoth (inBoth (inBoth (inBoth (inBoth (inBoth (inBoth (inBoth (inBoth (inBoth (inBoth (inBoth (inBoth (inBoth (inBoth (inBoth (inBoth (inBoth (inBoth (inBoth (inBoth (inBoth (inBoth (inBoth (inBoth (inBoth (inBoth (inBoth (inBoth (inBoth (inBoth (inBoth (inBoth (inBoth (inBoth (inBoth (inBoth (inBoth (inBoth (inBoth (inBoth (inBoth inNil))))))))))))))))))))))))))))))))))))))))))

theorem execLongRest_frame {W : List Span} {L : List Part} {org s : State} (h : Leaves W L org s)
    (hW : Inside (one EST_LONG :: one EST_REST_DONE :: one EST_REST_DUE :: []) W)
    : RunsIn W L org (execLongRest s) := by
  delta execLongRest
  repeat' first
    | with_reducible assumption
    | with_reducible refine RunsIn.next ?_
    | with_reducible apply State.longRest_leaves
    | with_unfolding_none apply hW.sub (inBoth (inBoth (inBoth inNil)))

theorem execResistanceSample_frame {W : List Span} {L : List Part} {org s : State} (v i : Int) (h : Leaves W L org s)
    (hW : Inside (one ESTIMATOR_STATUS.CAPACITY_IN_USE :: one ESTIMATOR_STATUS.RESISTANCE :: one ESTIMATOR_STATUS.SOC :: one ESTIMATOR_STATUS.SOC_INTERNAL :: one ESTIMATOR_STATUS.SOH_CAPACITY :: one ESTIMATOR_STATUS.SOH_RESISTANCE :: one REC_RES_N :: one RS_OK :: []) W)
    (hL : Within ([.free] : List Part) L) : RunsIn W L org (execResistanceSample v i s) := by
  delta execResistanceSample
  repeat' first
    | with_reducible assumption
    | with_reducible refine RunsIn.next ?_
    | with_reducible apply State.resistanceSample_leaves
    | with_unfolding_none apply hW.sub (inBoth (inBoth (inBoth (inBoth (inBoth (inBoth (inBoth (inBoth inNil))))))))

theorem execRecordStorePeriodicWrite_frame {W : List Span} {L : List Part} {org s : State} (h : Leaves W L org s)
    (hW : Inside (one BATTERY_RECORD.SEQUENCE :: each LIFE_NEW :: each LIFE_STORED :: one STORE_AT :: one STORE_BUSY :: each STORE_COPY :: each STORE_SEQ :: one STORE_SIDE :: []) W)
    (hL : Within ([.collector] : List Part) L) : RunsIn W L org (execRecordStorePeriodicWrite s) := by
  delta execRecordStorePeriodicWrite
  repeat' first
    | with_reducible assumption
    | with_reducible refine RunsIn.next ?_
    | with_reducible apply State.storePeriodic_leaves
    | with_unfolding_none apply hW.sub (inBoth (inBoth (inBoth (inBoth (inBoth (inBoth (inBoth (inBoth inNil))))))))

theorem execBatteryRecordWritten_frame {W : List Span} {L : List Part} {org s : State} (h : Leaves W L org s)
    (hW : Inside (one BATTERY_RECORD.SEQUENCE :: one STORE_BUSY :: each STORE_SEQ :: one STORE_SIDE :: []) W)
    (hL : Within ([.collector] : List Part) L) : RunsIn W L org (execBatteryRecordWritten s) := by
  delta execBatteryRecordWritten
  repeat' first
    | with_reducible assumption
    | with_reducible refine RunsIn.next ?_
    | with_reducible apply State.recordWritten_leaves
    | with_unfolding_none apply hW.sub (inBoth (inBoth (inBoth (inBoth inNil))))

theorem State.setStep_leaves {W : List Span} {L : List Part} {org s : State} (p i st : Nat) (h : Leaves W L org s)
    (hW : Inside ((each2 fun p i => ofPlan p (OPENING_STEP_STATE.STATE i)) :: []) W) :
    Leaves W L org (State.setStep s p i st) := by
  delta State.setStep
  repeat' first
    | with_reducible assumption
    | with_reducible apply State.setN_leaves
    | (with_unfolding_none refine hW.covers ?_; repeat first | with_unfolding_none exact Covered.here | with_unfolding_none exact plan_OPENING_STEP_STATE.STATE_in | with_unfolding_none refine Covered.next ?_)

theorem State.raisePlan_leaves {W : List Span} {L : List Part} {org s : State} (k : Kind) (p i : Nat) (fields : List (Nat × Int)) (h : Leaves W L org s) (hL : Within ([.collector] : List Part) L) :
    Leaves W L org (State.raisePlan s k p i fields) := by
  delta State.raisePlan
  repeat' first
    | with_reducible assumption
    | with_reducible apply State.raise_leaves
    | (with_reducible refine Within.trans ?_ hL; decide +kernel)

theorem State.stepMoved_leaves {W : List Span} {L : List Part} {org s : State} (p i : Nat) (h : Leaves W L org s)
    (hW : Inside (one (STEP_MOVED_AT (stepOf p i)) :: []) W) :
    Leaves W L org (State.stepMoved s p i) := by
  delta State.stepMoved
  repeat' first
    | with_reducible assumption
    | with_reducible apply State.setN_leaves
    | (with_unfolding_none refine hW.covers ?_; repeat first | with_unfolding_none exact Covered.here | with_unfolding_none refine Covered.next ?_)

theorem State.stepSkip_leaves {W : List Span} {L : List Part} {org s : State} (p i cause : Nat) (h : Leaves W L org s)
    (hW : Inside (one (STEP_MOVED_AT (stepOf p i)) :: (each fun p => ofPlan p OPENING_PLAN.SKIPPED_STEPS) :: (each2 fun p i => ofPlan p (OPENING_STEP_STATE.STATE i)) :: []) W) (hL : Within ([.collector] : List Part) L) :
    Leaves W L org (State.stepSkip s p i cause) := by
  delta State.stepSkip
  repeat' first
    | with_reducible assumption
    | with_reducible apply State.count_leaves
    | with_reducible apply State.setStep_leaves
    | with_reducible apply State.stepMoved_leaves
    | with_reducible apply State.raisePlan_leaves
    | (with_unfolding_none refine hW.covers ?_; repeat first | with_unfolding_none exact Covered.here | with_unfolding_none exact plan_OPENING_PLAN.SKIPPED_STEPS_in | with_unfolding_none refine Covered.next ?_)
    | with_unfolding_none apply hW.sub (inSkip (inSkip (inBoth inNil)))
    | with_unfolding_none apply hW.sub (inBoth inNil)
    | with_unfolding_none apply hW.sub (inNil)
    | (with_reducible refine Within.trans ?_ hL; decide +kernel)
    | (extract_lets +onlyGivenNames letX; have letT : True := (by clear_value letX; guard_hyp letX : State; trivial); clear letT; refine Leaves.cut (W := W) (L := L) (r := org) (v := letX) ?_ (fun letH => ?_); (focus subst letX); rotate_left; clear_value letX; revert letX; intro _ _)

theorem State.planEnd_leaves {W : List Span} {L : List Part} {org s : State} (p result : Nat) (h : Leaves W L org s)
    (hW : Inside (one BATTERY_RECORD.SEQUENCE :: each LIFE_NEW :: each LIFE_STORED :: one PON_CONTROL.PON_CHANGES :: one PON_CONTROL.PON_LAST_CAUSE :: one PON_CONTROL.PON_STATE :: one STORE_BUSY :: each STORE_COPY :: each STORE_SEQ :: one STORE_SIDE :: (each fun p => ofPlan p OPENING_PLAN.END_FRAME) :: (each fun p => ofPlan p OPENING_PLAN.PLAN_STATE) :: (each fun p => ofPlan p OPENING_PLAN.RESULT) :: (each2 fun p i => ofPlan p (OPENING_STEP_STATE.STATE i)) :: []) W) (hL : Within ([.collector] : List Part) L) :
    Leaves W L org (State.planEnd s p result) := by
  delta State.planEnd
  repeat' first
    | with_reducible assumption
    | with_reducible apply State.setN_leaves
    | with_reducible apply State.setStep_leaves
    | with_reducible apply State.raisePlan_leaves
    | with_reducible apply State.recordWrite_leaves
    | with_reducible apply State.pon_leaves
    | with_reducible apply State.storeTrips_leaves
    | (with_unfolding_none refine hW.covers ?_; repeat first | with_unfolding_none exact Covered.here | with_unfolding_none exact plan_OPENING_PLAN.END_FRAME_in | with_unfolding_none exact plan_OPENING_PLAN.PLAN_STATE_in | with_unfolding_none exact plan_OPENING_PLAN.RESULT_in | with_unfolding_none refine Covered.next ?_)
    | with_unfolding_none apply hW.sub (inSkip (inSkip (inSkip (inSkip (inSkip (inSkip (inSkip (inSkip (inSkip (inSkip (inSkip (inSkip (inSkip (inBoth inNil))))))))))))))
    | with_unfolding_none apply hW.sub (inNil)
    | with_unfolding_none apply hW.sub (inBoth (inSkip (inSkip (inSkip (inSkip (inSkip (inBoth (inBoth (inBoth (inBoth inNil))))))))))
    | with_unfolding_none apply hW.sub (inSkip (inSkip (inSkip (inBoth (inBoth (inBoth inNil))))))
    | with_unfolding_none apply hW.sub (inSkip (inBoth (inBoth inNil)))
    | (with_reducible refine Within.trans ?_ hL; decide +kernel)
    | (extract_lets +onlyGivenNames letX; have letT : True := (by clear_value letX; guard_hyp letX : State; trivial); clear letT; refine Leaves.cut (W := W) (L := L) (r := org) (v := letX) ?_ (fun letH => ?_); (focus subst letX); rotate_left; clear_value letX; revert letX; intro _ _)
    | (extract_lets +onlyGivenNames letX; clear_value letX; revert letX; intro _)
    | with_reducible refine Leaves.ite ?_ ?_
    | with_reducible refine forBelow_leaves ?_ (fun _ _ _ => ?_)

theorem State.planAbort_leaves {W : List Span} {L : List Part} {org s : State} (p result : Nat) (h : Leaves W L org s)
    (hW : Inside (one BATTERY_RECORD.SEQUENCE :: each LIFE_NEW :: each LIFE_STORED :: one PON_CONTROL.PON_CHANGES :: one PON_CONTROL.PON_LAST_CAUSE :: one PON_CONTROL.PON_STATE :: one STORE_BUSY :: each STORE_COPY :: each STORE_SEQ :: one STORE_SIDE :: (each fun p => ofPlan p OPENING_PLAN.END_FRAME) :: (each fun p => ofPlan p OPENING_PLAN.PLAN_STATE) :: (each fun p => ofPlan p OPENING_PLAN.RESULT) :: (each2 fun p i => ofPlan p (OPENING_STEP_STATE.STATE i)) :: []) W) (hL : Within ([.collector] : List Part) L) :
    Leaves W L org (State.planAbort s p result) := by
  delta State.planAbort
  repeat' first
    | with_reducible assumption
    | with_reducible apply State.planEnd_leaves
    | with_unfolding_none apply hW.sub (inBoth (inBoth (inBoth (inBoth (inBoth (inBoth (inBoth (inBoth (inBoth (inBoth (inBoth (inBoth (inBoth (inBoth inNil))))))))))))))
    | (with_reducible refine Within.trans ?_ hL; decide +kernel)
    | with_reducible refine Leaves.ite ?_ ?_

theorem State.planRequest_leaves {W : List Span} {L : List Part} {org s : State} (n v : Nat) (h : Leaves W L org s)
    (hW : Inside (one (CHANNEL_CONFIG.REQUEST n) :: []) W) (hL : Within ([.landing] : List Part) L) :
    Leaves W L org (State.planRequest s n v) := by
  delta State.planRequest
  repeat' first
    | with_reducible assumption
    | with_reducible apply State.setN_leaves
    | with_reducible apply State.land_leaves
    | (with_unfolding_none refine hW.covers ?_; repeat first | with_unfolding_none exact Covered.here | with_unfolding_none refine Covered.next ?_)
    | with_unfolding_none apply hW.sub (inNil)
    | (with_reducible refine Within.trans ?_ hL; decide +kernel)

theorem State.takeSnapshot_leaves {W : List Span} {L : List Part} {org s : State} (p i : Nat) (h : Leaves W L org s)
    (hW : Inside (one (STEP_MET (stepOf p i)) :: one (STEP_SNAP (stepOf p i)) :: []) W) (hL : Within ([.collector] : List Part) L) :
    Leaves W L org (State.takeSnapshot s p i) := by
  delta State.takeSnapshot
  repeat' first
    | with_reducible assumption
    | with_reducible apply State.setN_leaves
    | with_reducible apply State.raisePlan_leaves
    | (with_unfolding_none refine hW.covers ?_; repeat first | with_unfolding_none exact Covered.here | with_unfolding_none refine Covered.next ?_)
    | with_unfolding_none apply hW.sub (inNil)
    | (with_reducible refine Within.trans ?_ hL; decide +kernel)
    | (extract_lets +onlyGivenNames letX; have letT : True := (by clear_value letX; guard_hyp letX : State; trivial); clear letT; refine Leaves.cut (W := W) (L := L) (r := org) (v := letX) ?_ (fun letH => ?_); (focus subst letX); rotate_left; clear_value letX; revert letX; intro _ _)
    | (extract_lets +onlyGivenNames letX; clear_value letX; revert letX; intro _)
    | with_reducible refine forEach_leaves ?_ (fun _ _ _ => ?_)

theorem State.planOn_leaves {W : List Span} {L : List Part} {org s : State} (n : Nat) (h : Leaves W L org s)
    (hW : Inside (one (CHANNEL_CONFIG.REQUEST n) :: []) W) (hL : Within ([.landing] : List Part) L) :
    Leaves W L org (State.planOn s n) := by
  delta State.planOn
  repeat' first
    | with_reducible assumption
    | with_reducible apply State.planRequest_leaves
    | with_unfolding_none apply hW.sub (inBoth inNil)
    | (with_reducible refine Within.trans ?_ hL; decide +kernel)
    | with_reducible refine Leaves.ite ?_ ?_

theorem State.stepAct_leaves {W : List Span} {L : List Part} {org s : State} (p i : Nat) (h : Leaves W L org s)
    (hW : Inside (each CHANNEL_CONFIG.REQUEST :: each RESET_OUTPUT.FORCE :: each STEP_ACT_AT :: each STEP_AGAIN :: one (STEP_MET (stepOf p i)) :: one (STEP_MOVED_AT (stepOf p i)) :: each STEP_RUNS :: each STEP_SEEN_AT :: each STEP_SNAP :: each STEP_SPENT :: (each2 fun p i => ofPlan p (OPENING_STEP_STATE.STATE i)) :: []) W) (hL : Within ([.collector, .landing] : List Part) L) :
    Leaves W L org (State.stepAct s p i) := by
  delta State.stepAct
  repeat' first
    | with_reducible assumption
    | with_reducible apply State.setN_leaves
    | with_reducible apply State.setFlag_leaves
    | with_reducible apply State.setStep_leaves
    | with_reducible apply State.land_leaves
    | with_reducible apply State.takeSnapshot_leaves
    | with_reducible apply State.stepMoved_leaves
    | with_reducible apply State.planOn_leaves
    | with_reducible apply State.planRequest_leaves
    | (with_unfolding_none refine hW.covers ?_; repeat first | with_unfolding_none exact Covered.here | with_unfolding_none exact RESET_OUTPUT.FORCE_in | with_unfolding_none exact STEP_ACT_AT_in | with_unfolding_none exact STEP_AGAIN_in | with_unfolding_none exact STEP_RUNS_in | with_unfolding_none exact STEP_SEEN_AT_in | with_unfolding_none exact STEP_SNAP_in | with_unfolding_none exact STEP_SPENT_in | with_unfolding_none refine Covered.next ?_)
    | with_unfolding_none apply hW.sub (inSkip (inSkip (inSkip (inSkip (inSkip (inSkip (inSkip (inSkip (inSkip (inSkip (inBoth inNil)))))))))))
    | with_unfolding_none apply hW.sub (inNil)
    | with_unfolding_none apply hW.sub (inSkip (inSkip (inSkip (inSkip (inBoth (inSkip (inSkip (inSkip (STEP_SNAP_wide inNil)))))))))
    | with_unfolding_none apply hW.sub (inSkip (inSkip (inSkip (inSkip (inSkip (inBoth inNil))))))
    | with_unfolding_none apply hW.sub (CHANNEL_CONFIG.REQUEST_wide inNil)
    | (with_reducible refine Within.trans ?_ hL; decide +kernel)
    | (extract_lets +onlyGivenNames letX; have letT : True := (by clear_value letX; guard_hyp letX : State; trivial); clear letT; refine Leaves.cut (W := W) (L := L) (r := org) (v := letX) ?_ (fun letH => ?_); (focus subst letX); rotate_left; clear_value letX; revert letX; intro _ _)
    | (extract_lets +onlyGivenNames letX; clear_value letX; revert letX; intro _)
    | with_reducible refine Leaves.ite ?_ ?_
    | with_reducible refine forEach_leaves ?_ (fun _ _ _ => ?_)
    | split
    | with_reducible refine Leaves.ofPair (by assumption) ?_

theorem State.stepTimer_leaves {W : List Span} {L : List Part} {org s : State} (p i : Nat) (progress : Bool) (h : Leaves W L org s)
    (hW : Inside (one (STEP_MOVED_AT (stepOf p i)) :: each STEP_RUNS :: each STEP_SEEN_AT :: each STEP_SPENT :: []) W) :
    Leaves W L org (State.stepTimer s p i progress) := by
  delta State.stepTimer
  repeat' first
    | with_reducible assumption
    | with_reducible apply State.setN_leaves
    | with_reducible apply State.setFlag_leaves
    | with_reducible apply State.stepMoved_leaves
    | (with_unfolding_none refine hW.covers ?_; repeat first | with_unfolding_none exact Covered.here | with_unfolding_none exact STEP_RUNS_in | with_unfolding_none exact STEP_SEEN_AT_in | with_unfolding_none exact STEP_SPENT_in | with_unfolding_none refine Covered.next ?_)
    | with_unfolding_none apply hW.sub (inBoth inNil)
    | (extract_lets +onlyGivenNames letX; have letT : True := (by clear_value letX; guard_hyp letX : State; trivial); clear letT; refine Leaves.cut (W := W) (L := L) (r := org) (v := letX) ?_ (fun letH => ?_); (focus subst letX); rotate_left; clear_value letX; revert letX; intro _ _)
    | (extract_lets +onlyGivenNames letX; clear_value letX; revert letX; intro _)
    | with_reducible refine Leaves.ite ?_ ?_

theorem State.evalPending_leaves {W : List Span} {L : List Part} {org s : State} (p i : Nat) (h : Leaves W L org s)
    (hW : Inside (each CHANNEL_CONFIG.REQUEST :: each RESET_OUTPUT.FORCE :: each STEP_ACT_AT :: each STEP_AGAIN :: one (STEP_MET (stepOf p i)) :: one (STEP_MOVED_AT (stepOf p i)) :: one (STEP_READY_AT (stepOf p i)) :: each STEP_RUNS :: each STEP_SEEN_AT :: each STEP_SNAP :: each STEP_SPENT :: (each2 fun p i => ofPlan p (OPENING_STEP_STATE.STATE i)) :: []) W) (hL : Within ([.collector, .landing] : List Part) L) :
    Leaves W L org (State.evalPending s p i) := by
  delta State.evalPending
  repeat' first
    | with_reducible assumption
    | with_reducible apply State.setN_leaves
    | with_reducible apply State.setFlag_leaves
    | with_reducible apply State.stepAct_leaves
    | with_reducible apply State.setStep_leaves
    | (with_unfolding_none refine hW.covers ?_; repeat first | with_unfolding_none exact Covered.here | with_unfolding_none exact STEP_RUNS_in | with_unfolding_none exact STEP_SEEN_AT_in | with_unfolding_none exact STEP_SPENT_in | with_unfolding_none refine Covered.next ?_)
    | with_unfolding_none apply hW.sub (inBoth (inBoth (inBoth (inBoth (inBoth (inBoth (inSkip (inBoth (inBoth (inBoth (inBoth (inBoth inNil))))))))))))
    | with_unfolding_none apply hW.sub (inSkip (inSkip (inSkip (inSkip (inSkip (inSkip (inSkip (inSkip (inSkip (inSkip (inSkip (inBoth inNil))))))))))))
    | (with_reducible refine Within.trans ?_ hL; decide +kernel)
    | (extract_lets +onlyGivenNames letX; have letT : True := (by clear_value letX; guard_hyp letX : State; trivial); clear letT; refine Leaves.cut (W := W) (L := L) (r := org) (v := letX) ?_ (fun letH => ?_); (focus subst letX); rotate_left; clear_value letX; revert letX; intro _ _)
    | (extract_lets +onlyGivenNames letX; clear_value letX; revert letX; intro _)
    | with_reducible refine Leaves.ite ?_ ?_

theorem State.evalActing_leaves {W : List Span} {L : List Part} {org s : State} (p i : Nat) (h : Leaves W L org s)
    (hW : Inside (each STEP_MET :: one (STEP_MOVED_AT (stepOf p i)) :: each STEP_RUNS :: each STEP_SEEN_AT :: each STEP_SPENT :: (each2 fun p i => ofPlan p (OPENING_STEP_STATE.STATE i)) :: []) W) :
    Leaves W L org (State.evalActing s p i) := by
  delta State.evalActing
  repeat' first
    | with_reducible assumption
    | with_reducible apply State.setN_leaves
    | with_reducible apply State.setStep_leaves
    | with_reducible apply State.stepMoved_leaves
    | with_reducible apply State.stepTimer_leaves
    | (with_unfolding_none refine hW.covers ?_; repeat first | with_unfolding_none exact Covered.here | with_unfolding_none exact STEP_MET_in | with_unfolding_none refine Covered.next ?_)
    | with_unfolding_none apply hW.sub (inSkip (inSkip (inSkip (inSkip (inSkip (inBoth inNil))))))
    | with_unfolding_none apply hW.sub (inSkip (inBoth inNil))
    | with_unfolding_none apply hW.sub (inSkip (inBoth (inBoth (inBoth (inBoth inNil)))))
    | (extract_lets +onlyGivenNames letX; have letT : True := (by clear_value letX; guard_hyp letX : State; trivial); clear letT; refine Leaves.cut (W := W) (L := L) (r := org) (v := letX) ?_ (fun letH => ?_); (focus subst letX); rotate_left; clear_value letX; revert letX; intro _ _)
    | (extract_lets +onlyGivenNames letX; clear_value letX; revert letX; intro _)
    | with_reducible refine Leaves.ite ?_ ?_

theorem State.evalStep_leaves {W : List Span} {L : List Part} {org s : State} (p i : Nat) (h : Leaves W L org s)
    (hW : Inside (each CHANNEL_CONFIG.REQUEST :: each RESET_OUTPUT.FORCE :: each STEP_ACT_AT :: each STEP_AGAIN :: each STEP_MET :: one (STEP_MOVED_AT (stepOf p i)) :: one (STEP_READY_AT (stepOf p i)) :: each STEP_RUNS :: each STEP_SEEN_AT :: each STEP_SNAP :: each STEP_SPENT :: (each fun p => ofPlan p OPENING_PLAN.SKIPPED_STEPS) :: (each2 fun p i => ofPlan p (OPENING_STEP_STATE.STATE i)) :: []) W) (hL : Within ([.collector, .landing] : List Part) L) :
    Leaves W L org (State.evalStep s p i) := by
  delta State.evalStep
  repeat' first
    | with_reducible assumption
    | with_reducible apply State.stepSkip_leaves
    | with_reducible apply State.evalPending_leaves
    | with_reducible apply State.stepAct_leaves
    | with_reducible apply State.evalActing_leaves
    | with_unfolding_none apply hW.sub (inSkip (inSkip (inSkip (inSkip (inSkip (inBoth (inSkip (inSkip (inSkip (inSkip (inSkip (inBoth (inBoth inNil)))))))))))))
    | with_unfolding_none apply hW.sub (inBoth (inBoth (inBoth (inBoth (STEP_MET_wide (inSkip (inBoth (inBoth (inBoth (inBoth (inBoth (inBoth (inSkip (inBoth inNil))))))))))))))
    | with_unfolding_none apply hW.sub (inBoth (inBoth (inBoth (inBoth (STEP_MET_wide (inSkip (inBoth (inSkip (inBoth (inBoth (inBoth (inBoth (inSkip (inBoth inNil))))))))))))))
    | with_unfolding_none apply hW.sub (inSkip (inSkip (inSkip (inSkip (inBoth (inBoth (inSkip (inBoth (inBoth (inSkip (inBoth (inSkip (inBoth inNil)))))))))))))
    | (with_reducible refine Within.trans ?_ hL; decide +kernel)
    | with_reducible refine Leaves.ite ?_ ?_
    | split
    | with_reducible refine Leaves.ofPair (by assumption) ?_

theorem State.planSettle_leaves {W : List Span} {L : List Part} {org s : State} (p : Nat) (h : Leaves W L org s)
    (hW : Inside (one BATTERY_RECORD.SEQUENCE :: each LIFE_NEW :: each LIFE_STORED :: one PON_CONTROL.PON_CHANGES :: one PON_CONTROL.PON_LAST_CAUSE :: one PON_CONTROL.PON_STATE :: one STORE_BUSY :: each STORE_COPY :: each STORE_SEQ :: one STORE_SIDE :: (each fun p => ofPlan p OPENING_PLAN.END_FRAME) :: (each fun p => ofPlan p OPENING_PLAN.PLAN_STATE) :: (each fun p => ofPlan p OPENING_PLAN.RESULT) :: (each2 fun p i => ofPlan p (OPENING_STEP_STATE.STATE i)) :: []) W) (hL : Within ([.collector] : List Part) L) :
    Leaves W L org (State.planSettle s p) := by
  delta State.planSettle
  repeat' first
    | with_reducible assumption
    | with_reducible apply State.setN_leaves
    | with_reducible apply State.planEnd_leaves
    | (with_unfolding_none refine hW.covers ?_; repeat first | with_unfolding_none exact Covered.here | with_unfolding_none exact plan_OPENING_PLAN.PLAN_STATE_in | with_unfolding_none refine Covered.next ?_)
    | with_unfolding_none apply hW.sub (inBoth (inBoth (inBoth (inBoth (inBoth (inBoth (inBoth (inBoth (inBoth (inBoth (inBoth (inBoth (inBoth (inBoth inNil))))))))))))))
    | (with_reducible refine Within.trans ?_ hL; decide +kernel)
    | (extract_lets +onlyGivenNames letX; clear_value letX; revert letX; intro _)
    | with_reducible refine Leaves.ite ?_ ?_

theorem State.planEvaluate_leaves {W : List Span} {L : List Part} {org s : State} (p : Nat) (h : Leaves W L org s)
    (hW : Inside (one BATTERY_RECORD.SEQUENCE :: each CHANNEL_CONFIG.REQUEST :: each LIFE_NEW :: each LIFE_STORED :: one PON_CONTROL.PON_CHANGES :: one PON_CONTROL.PON_LAST_CAUSE :: one PON_CONTROL.PON_STATE :: each RESET_OUTPUT.FORCE :: each STEP_ACT_AT :: each STEP_AGAIN :: each STEP_MET :: each STEP_MOVED_AT :: each STEP_READY_AT :: each STEP_RUNS :: each STEP_SEEN_AT :: each STEP_SNAP :: each STEP_SPENT :: one STORE_BUSY :: each STORE_COPY :: each STORE_SEQ :: one STORE_SIDE :: (each fun p => ofPlan p OPENING_PLAN.END_FRAME) :: (each fun p => ofPlan p OPENING_PLAN.PLAN_STATE) :: (each fun p => ofPlan p OPENING_PLAN.RESULT) :: (each fun p => ofPlan p OPENING_PLAN.SKIPPED_STEPS) :: (each2 fun p i => ofPlan p (OPENING_STEP_STATE.STATE i)) :: []) W) (hL : Within ([.collector, .landing] : List Part) L) :
    Leaves W L org (State.planEvaluate s p) := by
  delta State.planEvaluate
  repeat' first
    | with_reducible assumption
    | with_reducible apply State.evalStep_leaves
    | with_reducible apply State.planSettle_leaves
    | with_unfolding_none apply hW.sub (inSkip (inBoth (inSkip (inSkip (inSkip (inSkip (inSkip (inBoth (inBoth (inBoth (inBoth (STEP_MOVED_AT_wide (inSkip (STEP_READY_AT_wide (inSkip (inBoth (inBoth (inBoth (inBoth (inSkip (inSkip (inSkip (inSkip (inSkip (inSkip (inSkip (inBoth (inBoth inNil))))))))))))))))))))))))))))
    | with_unfolding_none apply hW.sub (inBoth (inSkip (inBoth (inBoth (inBoth (inBoth (inBoth (inSkip (inSkip (inSkip (inSkip (inSkip (inSkip (inSkip (inSkip (inSkip (inSkip (inBoth (inBoth (inBoth (inBoth (inBoth (inBoth (inBoth (inSkip (inBoth inNil))))))))))))))))))))))))))
    | (with_reducible refine Within.trans ?_ hL; decide +kernel)
    | with_reducible refine Leaves.ite ?_ ?_
    | with_reducible refine forBelow_leaves ?_ (fun _ _ _ => ?_)

theorem State.stepDelayEnd_leaves {W : List Span} {L : List Part} {org s : State} (p i : Nat) (h : Leaves W L org s)
    (hW : Inside (one BATTERY_RECORD.SEQUENCE :: each CHANNEL_CONFIG.REQUEST :: each LIFE_NEW :: each LIFE_STORED :: one PON_CONTROL.PON_CHANGES :: one PON_CONTROL.PON_LAST_CAUSE :: one PON_CONTROL.PON_STATE :: each RESET_OUTPUT.FORCE :: each STEP_ACT_AT :: each STEP_AGAIN :: each STEP_MET :: each STEP_MOVED_AT :: each STEP_READY_AT :: each STEP_RUNS :: each STEP_SEEN_AT :: each STEP_SNAP :: each STEP_SPENT :: one STORE_BUSY :: each STORE_COPY :: each STORE_SEQ :: one STORE_SIDE :: (each fun p => ofPlan p OPENING_PLAN.END_FRAME) :: (each fun p => ofPlan p OPENING_PLAN.PLAN_STATE) :: (each fun p => ofPlan p OPENING_PLAN.RESULT) :: (each fun p => ofPlan p OPENING_PLAN.SKIPPED_STEPS) :: (each2 fun p i => ofPlan p (OPENING_STEP_STATE.STATE i)) :: []) W) (hL : Within ([.collector, .landing] : List Part) L) :
    Leaves W L org (State.stepDelayEnd s p i) := by
  delta State.stepDelayEnd
  repeat' first
    | with_reducible assumption
    | with_reducible apply State.stepAct_leaves
    | with_reducible apply State.planEvaluate_leaves
    | with_unfolding_none apply hW.sub (inSkip (inBoth (inSkip (inSkip (inSkip (inSkip (inSkip (inBoth (inBoth (inBoth (STEP_MET_wide (inSkip (STEP_MOVED_AT_wide (inSkip (inSkip (inBoth (inBoth (inBoth (inBoth (inSkip (inSkip (inSkip (inSkip (inSkip (inSkip (inSkip (inSkip (inBoth inNil))))))))))))))))))))))))))))
    | with_unfolding_none apply hW.sub (inBoth (inBoth (inBoth (inBoth (inBoth (inBoth (inBoth (inBoth (inBoth (inBoth (inBoth (inBoth (inBoth (inBoth (inBoth (inBoth (inBoth (inBoth (inBoth (inBoth (inBoth (inBoth (inBoth (inBoth (inBoth (inBoth inNil))))))))))))))))))))))))))
    | (with_reducible refine Within.trans ?_ hL; decide +kernel)
    | with_reducible refine Leaves.ite ?_ ?_

theorem State.stalemate_leaves {W : List Span} {L : List Part} {org s : State} (p i : Nat) (h : Leaves W L org s)
    (hW : Inside (one BATTERY_RECORD.SEQUENCE :: each CHANNEL_CONFIG.REQUEST :: each LIFE_NEW :: each LIFE_STORED :: one PON_CONTROL.PON_CHANGES :: one PON_CONTROL.PON_LAST_CAUSE :: one PON_CONTROL.PON_STATE :: each RESET_OUTPUT.FORCE :: each STEP_ACT_AT :: each STEP_AGAIN :: each STEP_MET :: each STEP_MOVED_AT :: each STEP_READY_AT :: each STEP_RUNS :: each STEP_SEEN_AT :: each STEP_SNAP :: each STEP_SPENT :: one STORE_BUSY :: each STORE_COPY :: each STORE_SEQ :: one STORE_SIDE :: (each fun p => ofPlan p OPENING_PLAN.END_FRAME) :: (each fun p => ofPlan p OPENING_PLAN.PLAN_STATE) :: (each fun p => ofPlan p OPENING_PLAN.RESULT) :: (each fun p => ofPlan p OPENING_PLAN.SKIPPED_STEPS) :: (each fun p => ofPlan p OPENING_PLAN.STALEMATES) :: (each2 fun p i => ofPlan p (OPENING_STEP_STATE.STATE i)) :: []) W) (hL : Within ([.collector, .landing] : List Part) L) :
    Leaves W L org (State.stalemate s p i) := by
  delta State.stalemate
  repeat' first
    | with_reducible assumption
    | with_reducible apply State.count_leaves
    | with_reducible apply State.raisePlan_leaves
    | with_reducible apply State.stepSkip_leaves
    | with_reducible apply State.planEvaluate_leaves
    | with_reducible apply State.planEnd_leaves
    | with_reducible apply State.setStep_leaves
    | with_reducible apply State.planSettle_leaves
    | (with_unfolding_none refine hW.covers ?_; repeat first | with_unfolding_none exact Covered.here | with_unfolding_none exact plan_OPENING_PLAN.STALEMATES_in | with_unfolding_none refine Covered.next ?_)
    | with_unfolding_none apply hW.sub (inNil)
    | with_unfolding_none apply hW.sub (inSkip (inSkip (inSkip (inSkip (inSkip (inSkip (inSkip (inSkip (inSkip (inSkip (inSkip (STEP_MOVED_AT_wide (inSkip (inSkip (inSkip (inSkip (inSkip (inSkip (inSkip (inSkip (inSkip (inSkip (inSkip (inSkip (inSkip (inBoth (inSkip (inBoth inNil))))))))))))))))))))))))))))
    | with_unfolding_none apply hW.sub (inBoth (inBoth (inBoth (inBoth (inBoth (inBoth (inBoth (inBoth (inBoth (inBoth (inBoth (inBoth (inBoth (inBoth (inBoth (inBoth (inBoth (inBoth (inBoth (inBoth (inBoth (inBoth (inBoth (inBoth (inBoth (inSkip (inBoth inNil)))))))))))))))))))))))))))
    | with_unfolding_none apply hW.sub (inBoth (inSkip (inBoth (inBoth (inBoth (inBoth (inBoth (inSkip (inSkip (inSkip (inSkip (inSkip (inSkip (inSkip (inSkip (inSkip (inSkip (inBoth (inBoth (inBoth (inBoth (inBoth (inBoth (inBoth (inSkip (inSkip (inBoth inNil)))))))))))))))))))))))))))
    | with_unfolding_none apply hW.sub (inSkip (inSkip (inSkip (inSkip (inSkip (inSkip (inSkip (inSkip (inSkip (inSkip (inSkip (inSkip (inSkip (inSkip (inSkip (inSkip (inSkip (inSkip (inSkip (inSkip (inSkip (inSkip (inSkip (inSkip (inSkip (inSkip (inBoth inNil)))))))))))))))))))))))))))
    | (with_reducible refine Within.trans ?_ hL; decide +kernel)
    | (extract_lets +onlyGivenNames letX; have letT : True := (by clear_value letX; guard_hyp letX : State; trivial); clear letT; refine Leaves.cut (W := W) (L := L) (r := org) (v := letX) ?_ (fun letH => ?_); (focus subst letX); rotate_left; clear_value letX; revert letX; intro _ _)
    | (extract_lets +onlyGivenNames letX; clear_value letX; revert letX; intro _)
    | with_reducible refine Leaves.ite ?_ ?_
    | split
    | with_reducible refine Leaves.ofPair (by assumption) ?_

theorem State.notDischarged_leaves {W : List Span} {L : List Part} {org s : State} (g n : Nat) (h : Leaves W L org s)
    (hW : Inside (one (CHANNEL_SUPERVISION.DISCHARGE_TIMEOUTS n) :: one (ND_GROUP n) :: one (WIN n) :: []) W) (hL : Within ([.dieMsgs] : List Part) L) :
    Leaves W L org (State.notDischarged s g n) := by
  delta State.notDischarged
  repeat' first
    | with_reducible assumption
    | with_reducible apply State.setN_leaves
    | with_reducible apply State.setBit_leaves
    | with_reducible apply State.count_leaves
    | with_reducible apply State.raiseChannel_leaves
    | (with_unfolding_none refine hW.covers ?_; repeat first | with_unfolding_none exact Covered.here | with_unfolding_none refine Covered.next ?_)
    | with_unfolding_none apply hW.sub (inNil)
    | (with_reducible refine Within.trans ?_ hL; decide +kernel)
    | (extract_lets +onlyGivenNames letX; have letT : True := (by clear_value letX; guard_hyp letX : State; trivial); clear letT; refine Leaves.cut (W := W) (L := L) (r := org) (v := letX) ?_ (fun letH => ?_); (focus subst letX); rotate_left; clear_value letX; revert letX; intro _ _)

theorem State.dischargeTimeout_leaves {W : List Span} {L : List Part} {org s : State} (p i : Nat) (h : Leaves W L org s)
    (hW : Inside (one BATTERY_RECORD.SEQUENCE :: each CHANNEL_CONFIG.REQUEST :: each CHANNEL_SUPERVISION.DISCHARGE_TIMEOUTS :: each LIFE_NEW :: each LIFE_STORED :: each ND_GROUP :: one PON_CONTROL.PON_CHANGES :: one PON_CONTROL.PON_LAST_CAUSE :: one PON_CONTROL.PON_STATE :: each RESET_OUTPUT.FORCE :: each STEP_ACT_AT :: each STEP_AGAIN :: each STEP_MET :: each STEP_MOVED_AT :: each STEP_READY_AT :: each STEP_RUNS :: each STEP_SEEN_AT :: each STEP_SNAP :: each STEP_SPENT :: one STORE_BUSY :: each STORE_COPY :: each STORE_SEQ :: one STORE_SIDE :: each WIN :: (each fun p => ofPlan p OPENING_PLAN.END_FRAME) :: (each fun p => ofPlan p OPENING_PLAN.PLAN_STATE) :: (each fun p => ofPlan p OPENING_PLAN.RESULT) :: (each fun p => ofPlan p OPENING_PLAN.SKIPPED_STEPS) :: (each2 fun p i => ofPlan p (OPENING_STEP_STATE.STATE i)) :: []) W) (hL : Within ([.collector, .dieMsgs, .landing] : List Part) L) :
    Leaves W L org (State.dischargeTimeout s p i) := by
  delta State.dischargeTimeout
  repeat' first
    | with_reducible assumption
    | with_reducible apply State.notDischarged_leaves
    | with_reducible apply State.setStep_leaves
    | with_reducible apply State.stepMoved_leaves
    | with_reducible apply State.planEvaluate_leaves
    | with_unfolding_none apply hW.sub (inSkip (inSkip (CHANNEL_SUPERVISION.DISCHARGE_TIMEOUTS_wide (inSkip (inSkip (inSkip (ND_GROUP_wide (inSkip (inSkip (inSkip (inSkip (inSkip (inSkip (inSkip (inSkip (inSkip (inSkip (inSkip (inSkip (inSkip (inSkip (inSkip (inSkip (inSkip (inSkip (WIN_wide inNil))))))))))))))))))))))))))
    | with_unfolding_none apply hW.sub (inSkip (inSkip (inSkip (inSkip (inSkip (inSkip (inSkip (inSkip (inSkip (inSkip (inSkip (inSkip (inSkip (inSkip (inSkip (inSkip (inSkip (inSkip (inSkip (inSkip (inSkip (inSkip (inSkip (inSkip (inSkip (inSkip (inSkip (inSkip (inBoth inNil)))))))))))))))))))))))))))))
    | with_unfolding_none apply hW.sub (inSkip (inSkip (inSkip (inSkip (inSkip (inSkip (inSkip (inSkip (inSkip (inSkip (inSkip (inSkip (inSkip (STEP_MOVED_AT_wide inNil))))))))))))))
    | with_unfolding_none apply hW.sub (inBoth (inBoth (inSkip (inBoth (inBoth (inSkip (inBoth (inBoth (inBoth (inBoth (inBoth (inBoth (inBoth (inBoth (inBoth (inBoth (inBoth (inBoth (inBoth (inBoth (inBoth (inBoth (inBoth (inSkip (inBoth (inBoth (inBoth (inBoth (inBoth inNil)))))))))))))))))))))))))))))
    | (with_reducible refine Within.trans ?_ hL; decide +kernel)
    | (extract_lets +onlyGivenNames letX; have letT : True := (by clear_value letX; guard_hyp letX : State; trivial); clear letT; refine Leaves.cut (W := W) (L := L) (r := org) (v := letX) ?_ (fun letH => ?_); (focus subst letX); rotate_left; clear_value letX; revert letX; intro _ _)
    | (extract_lets +onlyGivenNames letX; clear_value letX; revert letX; intro _)
    | with_reducible refine Leaves.ite ?_ ?_
    | with_reducible refine forEach_leaves ?_ (fun _ _ _ => ?_)

theorem State.planBegin_leaves {W : List Span} {L : List Part} {org s : State} (p trigger : Nat) (h : Leaves W L org s)
    (hW : Inside (one BATTERY_RECORD.SEQUENCE :: each LIFE_NEW :: each LIFE_STORED :: one (PLAN_TRIGGER p) :: one PON_CONTROL.PON_CHANGES :: one PON_CONTROL.PON_LAST_CAUSE :: one PON_CONTROL.PON_STATE :: each STEP_AGAIN :: each STEP_MOVED_AT :: each STEP_RUNS :: each STEP_SEEN_AT :: each STEP_SPENT :: one STORE_BUSY :: each STORE_COPY :: each STORE_SEQ :: one STORE_SIDE :: (each fun p => ofPlan p OPENING_PLAN.END_FRAME) :: (each fun p => ofPlan p OPENING_PLAN.PLAN_STATE) :: (each fun p => ofPlan p OPENING_PLAN.RESULT) :: (each fun p => ofPlan p OPENING_PLAN.RUNS) :: (each fun p => ofPlan p OPENING_PLAN.SKIPPED_STEPS) :: (each fun p => ofPlan p OPENING_PLAN.START_FRAME) :: (each2 fun p i => ofPlan p (OPENING_STEP_STATE.STATE i)) :: []) W) (hL : Within ([.collector] : List Part) L) :
    Leaves W L org (State.planBegin s p trigger) := by
  delta State.planBegin
  repeat' first
    | with_reducible assumption
    | with_reducible apply State.setN_leaves
    | with_reducible apply State.count_leaves
    | with_reducible apply State.planAbort_leaves
    | with_reducible apply State.setStep_leaves
    | with_reducible apply State.raisePlan_leaves
    | (with_unfolding_none refine hW.covers ?_; repeat first | with_unfolding_none exact Covered.here | with_unfolding_none exact STEP_AGAIN_in | with_unfolding_none exact STEP_MOVED_AT_in | with_unfolding_none exact STEP_RUNS_in | with_unfolding_none exact STEP_SEEN_AT_in | with_unfolding_none exact STEP_SPENT_in | with_unfolding_none exact plan_OPENING_PLAN.PLAN_STATE_in | with_unfolding_none exact plan_OPENING_PLAN.RUNS_in | with_unfolding_none exact plan_OPENING_PLAN.SKIPPED_STEPS_in | with_unfolding_none exact plan_OPENING_PLAN.START_FRAME_in | with_unfolding_none refine Covered.next ?_)
    | with_unfolding_none apply hW.sub (inBoth (inBoth (inBoth (inSkip (inBoth (inBoth (inBoth (inSkip (inSkip (inSkip (inSkip (inSkip (inBoth (inBoth (inBoth (inBoth (inBoth (inBoth (inBoth (inSkip (inSkip (inSkip (inBoth inNil)))))))))))))))))))))))
    | with_unfolding_none apply hW.sub (inSkip (inSkip (inSkip (inSkip (inSkip (inSkip (inSkip (inSkip (inSkip (inSkip (inSkip (inSkip (inSkip (inSkip (inSkip (inSkip (inSkip (inSkip (inSkip (inSkip (inSkip (inSkip (inBoth inNil)))))))))))))))))))))))
    | with_unfolding_none apply hW.sub (inNil)
    | (with_reducible refine Within.trans ?_ hL; decide +kernel)
    | (extract_lets +onlyGivenNames letX; have letT : True := (by clear_value letX; guard_hyp letX : State; trivial); clear letT; refine Leaves.cut (W := W) (L := L) (r := org) (v := letX) ?_ (fun letH => ?_); (focus subst letX); rotate_left; clear_value letX; revert letX; intro _ _)
    | (extract_lets +onlyGivenNames letX; clear_value letX; revert letX; intro _)
    | with_reducible refine Leaves.ite ?_ ?_
    | with_reducible refine forBelow_leaves ?_ (fun _ _ _ => ?_)

theorem State.planResolve_leaves {W : List Span} {L : List Part} {org s : State} (p op i : Nat) (h : Leaves W L org s)
    (hW : Inside (one (STEP_AGAIN (stepOf p i)) :: one (STEP_MOVED_AT (stepOf p i)) :: (each fun p => ofPlan p OPENING_PLAN.SKIPPED_STEPS) :: (each2 fun p i => ofPlan p (OPENING_STEP_STATE.STATE i)) :: []) W) (hL : Within ([.collector] : List Part) L) :
    Leaves W L org (State.planResolve s p op i) := by
  delta State.planResolve
  repeat' first
    | with_reducible assumption
    | with_reducible apply State.setN_leaves
    | with_reducible apply State.stepSkip_leaves
    | with_reducible apply State.setStep_leaves
    | (with_unfolding_none refine hW.covers ?_; repeat first | with_unfolding_none exact Covered.here | with_unfolding_none refine Covered.next ?_)
    | with_unfolding_none apply hW.sub (inSkip (inBoth (inBoth (inBoth inNil))))
    | with_unfolding_none apply hW.sub (inSkip (inSkip (inSkip (inBoth inNil))))
    | (with_reducible refine Within.trans ?_ hL; decide +kernel)
    | with_reducible refine Leaves.ite ?_ ?_

theorem State.endgameTrigger_leaves {W : List Span} {L : List Part} {org s : State} (us : Nat) (h : Leaves W L org s)
    (hW : Inside (each ENDGAME_ARMED :: one ENDGAME_DUE :: []) W) :
    Leaves W L org (State.endgameTrigger s us) := by
  delta State.endgameTrigger
  repeat' first
    | with_reducible assumption
    | with_reducible apply State.setN_leaves
    | (with_unfolding_none refine hW.covers ?_; repeat first | with_unfolding_none exact Covered.here | with_unfolding_none exact ENDGAME_ARMED_in | with_unfolding_none exact ENDGAME_DUE_in | with_unfolding_none refine Covered.next ?_)
    | (extract_lets +onlyGivenNames letX; clear_value letX; revert letX; intro _)
    | with_reducible refine Leaves.ite ?_ ?_
    | with_reducible refine forBelow_leaves ?_ (fun _ _ _ => ?_)

theorem State.endgameBoundary_leaves {W : List Span} {L : List Part} {org s : State} (h : Leaves W L org s)
    (hW : Inside (one BATTERY_RECORD.SEQUENCE :: each ENDGAME_ARMED :: one ENDGAME_DUE :: each LIFE_NEW :: each LIFE_STORED :: one (PLAN_TRIGGER 1) :: one PON_CONTROL.PON_CHANGES :: one PON_CONTROL.PON_LAST_CAUSE :: one PON_CONTROL.PON_STATE :: each STEP_AGAIN :: each STEP_MOVED_AT :: each STEP_RUNS :: each STEP_SEEN_AT :: each STEP_SPENT :: one STORE_BUSY :: each STORE_COPY :: each STORE_SEQ :: one STORE_SIDE :: (each fun p => ofPlan p OPENING_PLAN.END_FRAME) :: (each fun p => ofPlan p OPENING_PLAN.PLAN_STATE) :: (each fun p => ofPlan p OPENING_PLAN.RESULT) :: (each fun p => ofPlan p OPENING_PLAN.RUNS) :: (each fun p => ofPlan p OPENING_PLAN.SKIPPED_STEPS) :: (each fun p => ofPlan p OPENING_PLAN.START_FRAME) :: (each2 fun p i => ofPlan p (OPENING_STEP_STATE.STATE i)) :: []) W) (hL : Within ([.collector] : List Part) L) :
    Leaves W L org (State.endgameBoundary s) := by
  delta State.endgameBoundary
  repeat' first
    | with_reducible assumption
    | with_reducible apply State.setN_leaves
    | with_reducible apply State.planBegin_leaves
    | (with_unfolding_none refine hW.covers ?_; repeat first | with_unfolding_none exact Covered.here | with_unfolding_none exact ENDGAME_ARMED_in | with_unfolding_none exact ENDGAME_DUE_in | with_unfolding_none refine Covered.next ?_)
    | with_unfolding_none apply hW.sub (inBoth (inSkip (inSkip (inBoth (inBoth (inBoth (inBoth (inBoth (inBoth (inBoth (inBoth (inBoth (inBoth (inBoth (inBoth (inBoth (inBoth (inBoth (inBoth (inBoth (inBoth (inBoth (inBoth (inBoth (inBoth inNil)))))))))))))))))))))))))
    | (with_reducible refine Within.trans ?_ hL; decide +kernel)
    | (extract_lets +onlyGivenNames letX; have letT : True := (by clear_value letX; guard_hyp letX : State; trivial); clear letT; refine Leaves.cut (W := W) (L := L) (r := org) (v := letX) ?_ (fun letH => ?_); (focus subst letX); rotate_left; clear_value letX; revert letX; intro _ _)
    | (extract_lets +onlyGivenNames letX; clear_value letX; revert letX; intro _)
    | with_reducible refine Leaves.ite ?_ ?_

theorem execStepDelayEnd_frame {W : List Span} {L : List Part} {org s : State} (p : Fin 2) (i : Fin 128) (h : Leaves W L org s)
    (hW : Inside (one BATTERY_RECORD.SEQUENCE :: each CHANNEL_CONFIG.REQUEST :: each LIFE_NEW :: each LIFE_STORED :: one PON_CONTROL.PON_CHANGES :: one PON_CONTROL.PON_LAST_CAUSE :: one PON_CONTROL.PON_STATE :: each RESET_OUTPUT.FORCE :: each STEP_ACT_AT :: each STEP_AGAIN :: each STEP_MET :: each STEP_MOVED_AT :: each STEP_READY_AT :: each STEP_RUNS :: each STEP_SEEN_AT :: each STEP_SNAP :: each STEP_SPENT :: one STORE_BUSY :: each STORE_COPY :: each STORE_SEQ :: one STORE_SIDE :: (each fun p => ofPlan p OPENING_PLAN.END_FRAME) :: (each fun p => ofPlan p OPENING_PLAN.PLAN_STATE) :: (each fun p => ofPlan p OPENING_PLAN.RESULT) :: (each fun p => ofPlan p OPENING_PLAN.SKIPPED_STEPS) :: (each2 fun p i => ofPlan p (OPENING_STEP_STATE.STATE i)) :: []) W)
    (hL : Within ([.collector, .landing] : List Part) L) : RunsIn W L org (execStepDelayEnd p i s) := by
  delta execStepDelayEnd
  repeat' first
    | with_reducible assumption
    | with_reducible refine RunsIn.next ?_
    | with_reducible apply State.stepDelayEnd_leaves
    | with_unfolding_none apply hW.sub (inBoth (inBoth (inBoth (inBoth (inBoth (inBoth (inBoth (inBoth (inBoth (inBoth (inBoth (inBoth (inBoth (inBoth (inBoth (inBoth (inBoth (inBoth (inBoth (inBoth (inBoth (inBoth (inBoth (inBoth (inBoth (inBoth inNil))))))))))))))))))))))))))

theorem execStalemate_frame {W : List Span} {L : List Part} {org s : State} (p : Fin 2) (i : Fin 128) (h : Leaves W L org s)
    (hW : Inside (one BATTERY_RECORD.SEQUENCE :: each CHANNEL_CONFIG.REQUEST :: each LIFE_NEW :: each LIFE_STORED :: one PON_CONTROL.PON_CHANGES :: one PON_CONTROL.PON_LAST_CAUSE :: one PON_CONTROL.PON_STATE :: each RESET_OUTPUT.FORCE :: each STEP_ACT_AT :: each STEP_AGAIN :: each STEP_MET :: each STEP_MOVED_AT :: each STEP_READY_AT :: each STEP_RUNS :: each STEP_SEEN_AT :: each STEP_SNAP :: each STEP_SPENT :: one STORE_BUSY :: each STORE_COPY :: each STORE_SEQ :: one STORE_SIDE :: (each fun p => ofPlan p OPENING_PLAN.END_FRAME) :: (each fun p => ofPlan p OPENING_PLAN.PLAN_STATE) :: (each fun p => ofPlan p OPENING_PLAN.RESULT) :: (each fun p => ofPlan p OPENING_PLAN.SKIPPED_STEPS) :: (each fun p => ofPlan p OPENING_PLAN.STALEMATES) :: (each2 fun p i => ofPlan p (OPENING_STEP_STATE.STATE i)) :: []) W)
    (hL : Within ([.collector, .landing] : List Part) L) : RunsIn W L org (execStalemate p i s) := by
  delta execStalemate
  repeat' first
    | with_reducible assumption
    | with_reducible refine RunsIn.next ?_
    | with_reducible apply State.stalemate_leaves
    | with_unfolding_none apply hW.sub (inBoth (inBoth (inBoth (inBoth (inBoth (inBoth (inBoth (inBoth (inBoth (inBoth (inBoth (inBoth (inBoth (inBoth (inBoth (inBoth (inBoth (inBoth (inBoth (inBoth (inBoth (inBoth (inBoth (inBoth (inBoth (inBoth (inBoth inNil)))))))))))))))))))))))))))

theorem execDischargeTimeout_frame {W : List Span} {L : List Part} {org s : State} (p : Fin 2) (i : Fin 128) (h : Leaves W L org s)
    (hW : Inside (one BATTERY_RECORD.SEQUENCE :: each CHANNEL_CONFIG.REQUEST :: each CHANNEL_SUPERVISION.DISCHARGE_TIMEOUTS :: each LIFE_NEW :: each LIFE_STORED :: each ND_GROUP :: one PON_CONTROL.PON_CHANGES :: one PON_CONTROL.PON_LAST_CAUSE :: one PON_CONTROL.PON_STATE :: each RESET_OUTPUT.FORCE :: each STEP_ACT_AT :: each STEP_AGAIN :: each STEP_MET :: each STEP_MOVED_AT :: each STEP_READY_AT :: each STEP_RUNS :: each STEP_SEEN_AT :: each STEP_SNAP :: each STEP_SPENT :: one STORE_BUSY :: each STORE_COPY :: each STORE_SEQ :: one STORE_SIDE :: each WIN :: (each fun p => ofPlan p OPENING_PLAN.END_FRAME) :: (each fun p => ofPlan p OPENING_PLAN.PLAN_STATE) :: (each fun p => ofPlan p OPENING_PLAN.RESULT) :: (each fun p => ofPlan p OPENING_PLAN.SKIPPED_STEPS) :: (each2 fun p i => ofPlan p (OPENING_STEP_STATE.STATE i)) :: []) W)
    (hL : Within ([.collector, .dieMsgs, .landing] : List Part) L) : RunsIn W L org (execDischargeTimeout p i s) := by
  delta execDischargeTimeout
  repeat' first
    | with_reducible assumption
    | with_reducible refine RunsIn.next ?_
    | with_reducible apply State.dischargeTimeout_leaves
    | with_unfolding_none apply hW.sub (inBoth (inBoth (inBoth (inBoth (inBoth (inBoth (inBoth (inBoth (inBoth (inBoth (inBoth (inBoth (inBoth (inBoth (inBoth (inBoth (inBoth (inBoth (inBoth (inBoth (inBoth (inBoth (inBoth (inBoth (inBoth (inBoth (inBoth (inBoth (inBoth inNil)))))))))))))))))))))))))))))

theorem execEndgameTrigger_frame {W : List Span} {L : List Part} {org s : State} (us : Nat) (h : Leaves W L org s)
    (hW : Inside (each ENDGAME_ARMED :: one ENDGAME_DUE :: []) W)
    : RunsIn W L org (execEndgameTrigger us s) := by
  delta execEndgameTrigger
  repeat' first
    | with_reducible assumption
    | with_reducible refine RunsIn.next ?_
    | with_reducible apply State.endgameTrigger_leaves
    | with_unfolding_none apply hW.sub (inBoth (inBoth inNil))

theorem State.setRing_leaves {W : List Span} {L : List Part} {org s : State} (q : Nat) (recs : List Record) (h : Leaves W L org s) (hL : Within ([.rings] : List Part) L) :
    Leaves W L org (State.setRing s q recs) := by
  delta State.setRing
  repeat' first
    | with_reducible assumption
    | with_reducible refine Leaves.update ?_ ?_ ?_ ?_ ?_ ?_ ?_ ?_ ?_ ?_ ?_ ?_ ?_ ?_ ?_ ?_ ?_ ?_ ?_
    | with_reducible exact Or.inl rfl
    | with_reducible exact Or.inr (hL _ (by decide +kernel))

theorem State.tgRaise_leaves {W : List Span} {L : List Part} {org s : State} (g : Nat) (h : Leaves W L org s)
    (hW : Inside (one (MSIX_HELD g) :: one (TARGET.RAISES g) :: one (TARGET.TARGET_STATE g) :: one (TG_LOW g) :: []) W) (hL : Within ([.out] : List Part) L) :
    Leaves W L org (State.tgRaise s g) := by
  delta State.tgRaise
  repeat' first
    | with_reducible assumption
    | with_reducible apply State.setN_leaves
    | with_reducible apply State.setBit_leaves
    | with_reducible apply State.wrapCount_leaves
    | with_reducible apply State.emit_leaves
    | (with_unfolding_none refine hW.covers ?_; repeat first | with_unfolding_none exact Covered.here | with_unfolding_none refine Covered.next ?_)
    | with_unfolding_none apply hW.sub (inNil)
    | (with_reducible refine Within.trans ?_ hL; decide +kernel)
    | (extract_lets +onlyGivenNames letX; have letT : True := (by clear_value letX; guard_hyp letX : State; trivial); clear letT; refine Leaves.cut (W := W) (L := L) (r := org) (v := letX) ?_ (fun letH => ?_); (focus subst letX); rotate_left; clear_value letX; revert letX; intro _ _)
    | with_reducible refine Leaves.ite ?_ ?_

theorem State.tgMore_leaves {W : List Span} {L : List Part} {org s : State} (g n : Nat) (h : Leaves W L org s)
    (hW : Inside (one (MSIX_HELD g) :: one (TARGET.RAISES g) :: one (TARGET.TARGET_STATE g) :: one (TG_BEGAN g) :: one (TG_COUNT g) :: one (TG_LOW g) :: []) W) (hL : Within ([.out] : List Part) L) :
    Leaves W L org (State.tgMore s g n) := by
  delta State.tgMore
  repeat' first
    | with_reducible assumption
    | with_reducible apply State.setN_leaves
    | with_reducible apply State.setBit_leaves
    | with_reducible apply State.tgRaise_leaves
    | (with_unfolding_none refine hW.covers ?_; repeat first | with_unfolding_none exact Covered.here | with_unfolding_none refine Covered.next ?_)
    | with_unfolding_none apply hW.sub (inBoth (inBoth (inBoth (inSkip (inSkip (inBoth inNil))))))
    | (with_reducible refine Within.trans ?_ hL; decide +kernel)
    | (extract_lets +onlyGivenNames letX; have letT : True := (by clear_value letX; guard_hyp letX : State; trivial); clear letT; refine Leaves.cut (W := W) (L := L) (r := org) (v := letX) ?_ (fun letH => ?_); (focus subst letX); rotate_left; clear_value letX; revert letX; intro _ _)
    | with_reducible refine Leaves.ite ?_ ?_

theorem State.tgSettle_leaves {W : List Span} {L : List Part} {org s : State} (h : Leaves W L org s)
    (hW : Inside (each TARGET.TARGET_STATE :: each TG_LOW :: []) W) :
    Leaves W L org (State.tgSettle s) := by
  delta State.tgSettle
  repeat' first
    | with_reducible assumption
    | with_reducible apply State.setN_leaves
    | with_reducible apply State.setBit_leaves
    | (with_unfolding_none refine hW.covers ?_; repeat first | with_unfolding_none exact Covered.here | with_unfolding_none exact TARGET.TARGET_STATE_in | with_unfolding_none exact TG_LOW_in | with_unfolding_none refine Covered.next ?_)
    | (extract_lets +onlyGivenNames letX; have letT : True := (by clear_value letX; guard_hyp letX : State; trivial); clear letT; refine Leaves.cut (W := W) (L := L) (r := org) (v := letX) ?_ (fun letH => ?_); (focus subst letX); rotate_left; clear_value letX; revert letX; intro _ _)
    | with_reducible refine Leaves.ite ?_ ?_
    | with_reducible refine forBelow_leaves ?_ (fun _ _ _ => ?_)

theorem State.tgArm_leaves {W : List Span} {L : List Part} {org s : State} (g : Nat) (h : Leaves W L org s)
    (hW : Inside (one (MSIX_HELD g) :: one (TARGET.RAISES g) :: one (TARGET.TARGET_STATE g) :: one (TG_LOW g) :: []) W) (hL : Within ([.out] : List Part) L) :
    Leaves W L org (State.tgArm s g) := by
  delta State.tgArm
  repeat' first
    | with_reducible assumption
    | with_reducible apply State.setBit_leaves
    | with_reducible apply State.tgRaise_leaves
    | (with_unfolding_none refine hW.covers ?_; repeat first | with_unfolding_none exact Covered.here | with_unfolding_none refine Covered.next ?_)
    | with_unfolding_none apply hW.sub (inBoth (inBoth (inBoth (inBoth inNil))))
    | (with_reducible refine Within.trans ?_ hL; decide +kernel)
    | (extract_lets +onlyGivenNames letX; have letT : True := (by clear_value letX; guard_hyp letX : State; trivial); clear letT; refine Leaves.cut (W := W) (L := L) (r := org) (v := letX) ?_ (fun letH => ?_); (focus subst letX); rotate_left; clear_value letX; revert letX; intro _ _)
    | with_reducible refine Leaves.ite ?_ ?_

theorem State.tgTimeout_leaves {W : List Span} {L : List Part} {org s : State} (g : Nat) (h : Leaves W L org s)
    (hW : Inside (one (MSIX_HELD g) :: one (TARGET.RAISES g) :: one (TARGET.TARGET_STATE g) :: one (TG_LOW g) :: []) W) (hL : Within ([.out] : List Part) L) :
    Leaves W L org (State.tgTimeout s g) := by
  delta State.tgTimeout
  repeat' first
    | with_reducible assumption
    | with_reducible apply State.tgRaise_leaves
    | with_unfolding_none apply hW.sub (inBoth (inBoth (inBoth (inBoth inNil))))
    | (with_reducible refine Within.trans ?_ hL; decide +kernel)
    | with_reducible refine Leaves.ite ?_ ?_

theorem State.tgHoldChange_leaves {W : List Span} {L : List Part} {org s : State} (excess : Nat → Bool) (h : Leaves W L org s)
    (hW : Inside (each MSIX_HELD :: each TARGET.RAISES :: each TARGET.TARGET_STATE :: each TG_LOW :: []) W) (hL : Within ([.out] : List Part) L) :
    Leaves W L org (State.tgHoldChange s excess) := by
  delta State.tgHoldChange
  repeat' first
    | with_reducible assumption
    | with_reducible apply State.setBit_leaves
    | with_reducible apply State.tgRaise_leaves
    | (with_unfolding_none refine hW.covers ?_; repeat first | with_unfolding_none exact Covered.here | with_unfolding_none exact TARGET.TARGET_STATE_in | with_unfolding_none refine Covered.next ?_)
    | with_unfolding_none apply hW.sub (MSIX_HELD_wide (inSkip (TARGET.RAISES_wide (inSkip (TARGET.TARGET_STATE_wide (inSkip (TG_LOW_wide inNil)))))))
    | (with_reducible refine Within.trans ?_ hL; decide +kernel)
    | (extract_lets +onlyGivenNames letX; have letT : True := (by clear_value letX; guard_hyp letX : State; trivial); clear letT; refine Leaves.cut (W := W) (L := L) (r := org) (v := letX) ?_ (fun letH => ?_); (focus subst letX); rotate_left; clear_value letX; revert letX; intro _ _)
    | (extract_lets +onlyGivenNames letX; clear_value letX; revert letX; intro _)
    | with_reducible refine Leaves.ite ?_ ?_
    | with_reducible refine forBelow_leaves ?_ (fun _ _ _ => ?_)

theorem State.tenantHold_leaves {W : List Span} {L : List Part} {org s : State} (t : Nat) (on : Bool) (h : Leaves W L org s)
    (hW : Inside (one (HOLD_STATE.HOLD_TN t) :: each MSIX_HELD :: each TARGET.RAISES :: each TARGET.TARGET_STATE :: each TG_LOW :: []) W) (hL : Within ([.collector, .out] : List Part) L) :
    Leaves W L org (State.tenantHold s t on) := by
  delta State.tenantHold
  repeat' first
    | with_reducible assumption
    | with_reducible apply State.setFlag_leaves
    | with_reducible apply State.tgHoldChange_leaves
    | with_reducible apply State.raise_leaves
    | (with_unfolding_none refine hW.covers ?_; repeat first | with_unfolding_none exact Covered.here | with_unfolding_none refine Covered.next ?_)
    | with_unfolding_none apply hW.sub (inSkip (inBoth (inBoth (inBoth (inBoth inNil)))))
    | with_unfolding_none apply hW.sub (inNil)
    | (with_reducible refine Within.trans ?_ hL; decide +kernel)
    | (extract_lets +onlyGivenNames letX; have letT : True := (by clear_value letX; guard_hyp letX : State; trivial); clear letT; refine Leaves.cut (W := W) (L := L) (r := org) (v := letX) ?_ (fun letH => ?_); (focus subst letX); rotate_left; clear_value letX; revert letX; intro _ _)
    | (extract_lets +onlyGivenNames letX; clear_value letX; revert letX; intro _)
    | with_reducible refine Leaves.ite ?_ ?_

theorem State.deviceHold_leaves {W : List Span} {L : List Part} {org s : State} (v : Nat) (h : Leaves W L org s)
    (hW : Inside (each MSIX_HELD :: each TARGET.RAISES :: each TARGET.TARGET_STATE :: each TG_LOW :: one (inForce EVENT_FABRIC.DEVICE_HOLD) :: []) W) (hL : Within ([.collector, .out] : List Part) L) :
    Leaves W L org (State.deviceHold s v) := by
  delta State.deviceHold
  repeat' first
    | with_reducible assumption
    | with_reducible apply State.setN_leaves
    | with_reducible apply State.tgHoldChange_leaves
    | with_reducible apply State.raise_leaves
    | (with_unfolding_none refine hW.covers ?_; repeat first | with_unfolding_none exact Covered.here | with_unfolding_none exact inForce_EVENT_FABRIC.DEVICE_HOLD_in | with_unfolding_none refine Covered.next ?_)
    | with_unfolding_none apply hW.sub (inBoth (inBoth (inBoth (inBoth inNil))))
    | with_unfolding_none apply hW.sub (inNil)
    | (with_reducible refine Within.trans ?_ hL; decide +kernel)
    | (extract_lets +onlyGivenNames letX; have letT : True := (by clear_value letX; guard_hyp letX : State; trivial); clear letT; refine Leaves.cut (W := W) (L := L) (r := org) (v := letX) ?_ (fun letH => ?_); (focus subst letX); rotate_left; clear_value letX; revert letX; intro _ _)
    | (extract_lets +onlyGivenNames letX; clear_value letX; revert letX; intro _)
    | with_reducible refine Leaves.ite ?_ ?_

theorem State.tgEnable_leaves {W : List Span} {L : List Part} {org s : State} (g : Nat) (on : Bool) (h : Leaves W L org s)
    (hW : Inside (one (TARGET.TARGET_STATE g) :: one (TG_LOW g) :: []) W) :
    Leaves W L org (State.tgEnable s g on) := by
  delta State.tgEnable
  repeat' first
    | with_reducible assumption
    | with_reducible apply State.setN_leaves
    | with_reducible apply State.setBit_leaves
    | (with_unfolding_none refine hW.covers ?_; repeat first | with_unfolding_none exact Covered.here | with_unfolding_none refine Covered.next ?_)
    | with_reducible refine Leaves.ite ?_ ?_

theorem State.msixUnmask_leaves {W : List Span} {L : List Part} {org s : State} (g : Nat) (h : Leaves W L org s)
    (hW : Inside (one (MSIX_HELD g) :: one (MSIX_OPEN g) :: []) W) (hL : Within ([.out] : List Part) L) :
    Leaves W L org (State.msixUnmask s g) := by
  delta State.msixUnmask
  repeat' first
    | with_reducible assumption
    | with_reducible apply State.setN_leaves
    | with_reducible apply State.emit_leaves
    | (with_unfolding_none refine hW.covers ?_; repeat first | with_unfolding_none exact Covered.here | with_unfolding_none refine Covered.next ?_)
    | with_unfolding_none apply hW.sub (inNil)
    | (with_reducible refine Within.trans ?_ hL; decide +kernel)
    | (extract_lets +onlyGivenNames letX; have letT : True := (by clear_value letX; guard_hyp letX : State; trivial); clear letT; refine Leaves.cut (W := W) (L := L) (r := org) (v := letX) ?_ (fun letH => ?_); (focus subst letX); rotate_left; clear_value letX; revert letX; intro _ _)
    | (extract_lets +onlyGivenNames letX; clear_value letX; revert letX; intro _)
    | with_reducible refine Leaves.ite ?_ ?_

theorem State.takeSeq_leaves {W : List Span} {L : List Part} {org s : State} (q : Nat) (h : Leaves W L org s)
    (hW : Inside (one (RING.SEQUENCE q) :: []) W) :
    Leaves W L org (State.takeSeq s q).2 := by
  delta State.takeSeq
  repeat' first
    | with_reducible assumption
    | with_reducible apply State.wrapCount_leaves
    | (with_unfolding_none refine hW.covers ?_; repeat first | with_unfolding_none exact Covered.here | with_unfolding_none refine Covered.next ?_)
    | with_reducible refine Leaves.iteP ?_ ?_

theorem State.enter_leaves {W : List Span} {L : List Part} {org s : State} (q : Nat) (recs : List Record) (h : Leaves W L org s)
    (hW : Inside (one EVENT_FABRIC.RECORDS_PLACED :: each MSIX_HELD :: one (RING.HIGH_WATER q) :: one (RING.SEQUENCE q) :: one (RING_RR q) :: each TARGET.RAISES :: each TARGET.TARGET_STATE :: each TG_BEGAN :: each TG_COUNT :: each TG_LOW :: []) W) (hL : Within ([.out, .rings] : List Part) L) :
    Leaves W L org (State.enter s q recs) := by
  delta State.enter
  repeat' first
    | with_reducible assumption
    | with_reducible apply State.setN_leaves
    | with_reducible apply State.wrapCount_leaves
    | with_reducible apply State.takeSeq_leaves
    | with_reducible apply State.setRing_leaves
    | with_reducible apply State.tgMore_leaves
    | (with_unfolding_none refine hW.covers ?_; repeat first | with_unfolding_none exact Covered.here | with_unfolding_none exact EVENT_FABRIC.RECORDS_PLACED_in | with_unfolding_none refine Covered.next ?_)
    | with_unfolding_none apply hW.sub (inSkip (inSkip (inSkip (inBoth inNil))))
    | with_unfolding_none apply hW.sub (inSkip (MSIX_HELD_wide (inSkip (inSkip (inSkip (inSkip (TARGET.RAISES_wide (inSkip (TARGET.TARGET_STATE_wide (inSkip (TG_BEGAN_wide (inSkip (TG_COUNT_wide (inSkip (TG_LOW_wide inNil)))))))))))))))
    | with_unfolding_none apply hW.sub (inNil)
    | (with_reducible refine Within.trans ?_ hL; decide +kernel)
    | (extract_lets +onlyGivenNames letX; have letT : True := (by clear_value letX; guard_hyp letX : State; trivial); clear letT; refine Leaves.cut (W := W) (L := L) (r := org) (v := letX) ?_ (fun letH => ?_); (focus subst letX); rotate_left; clear_value letX; revert letX; intro _ _)
    | (extract_lets +onlyGivenNames letX; have letT : True := (by clear_value letX; revert letX; with_reducible exact Keeps.isPair); clear letT; refine Leaves.cut (W := W) (L := L) (r := org) (v := letX.2) ?_ (fun letH => ?_); (focus subst letX); rotate_left; clear_value letX; revert letX; intro _ _)
    | (extract_lets +onlyGivenNames letX; clear_value letX; revert letX; intro _)
    | with_reducible refine Leaves.iteP ?_ ?_
    | with_reducible refine Leaves.ite ?_ ?_
    | with_reducible refine forEach_leaves ?_ (fun _ _ _ => ?_)
    | with_reducible refine Leaves.update ?_ ?_ ?_ ?_ ?_ ?_ ?_ ?_ ?_ ?_ ?_ ?_ ?_ ?_ ?_ ?_ ?_ ?_ ?_
    | with_reducible exact Or.inl rfl
    | with_reducible exact Or.inr (hL _ (by decide +kernel))

theorem State.marker_leaves {W : List Span} {L : List Part} {org s : State} (q : Nat) (h : Leaves W L org s)
    (hW : Inside (one EVENT_FABRIC.RECORDS_PLACED :: each MSIX_HELD :: one (OVF_DROPS q) :: one (RING.HIGH_WATER q) :: one (RING.SEQUENCE q) :: one (RING_RR q) :: each TARGET.RAISES :: each TARGET.TARGET_STATE :: each TG_BEGAN :: each TG_COUNT :: each TG_LOW :: []) W) (hL : Within ([.out, .rings] : List Part) L) :
    Leaves W L org (State.marker s q) := by
  delta State.marker
  repeat' first
    | with_reducible assumption
    | with_reducible apply State.setN_leaves
    | with_reducible apply State.enter_leaves
    | (with_unfolding_none refine hW.covers ?_; repeat first | with_unfolding_none exact Covered.here | with_unfolding_none refine Covered.next ?_)
    | with_unfolding_none apply hW.sub (inBoth (inBoth (inSkip (inBoth (inBoth (inBoth (inBoth (inBoth (inBoth (inBoth (inBoth inNil)))))))))))
    | (with_reducible refine Within.trans ?_ hL; decide +kernel)
    | (extract_lets +onlyGivenNames letX; clear_value letX; revert letX; intro _)
    | with_reducible refine Leaves.ite ?_ ?_

theorem State.dropAt_leaves {W : List Span} {L : List Part} {org s : State} (q stamp n : Nat) (h : Leaves W L org s)
    (hW : Inside (one EVENT_FABRIC.RECORDS_PLACED :: each MSIX_HELD :: one (OVF_DROPS q) :: one (OVF_FIRST q) :: one (OVF_LAST q) :: one (RING.DROPS q) :: one (RING.HIGH_WATER q) :: one (RING.SEQUENCE q) :: one (RING_RR q) :: each TARGET.RAISES :: each TARGET.TARGET_STATE :: each TG_BEGAN :: each TG_COUNT :: each TG_LOW :: []) W) (hL : Within ([.out, .rings] : List Part) L) :
    Leaves W L org (State.dropAt s q stamp n) := by
  delta State.dropAt
  repeat' first
    | with_reducible assumption
    | with_reducible apply State.setN_leaves
    | with_reducible apply State.setRing_leaves
    | with_reducible apply State.marker_leaves
    | (with_unfolding_none refine hW.covers ?_; repeat first | with_unfolding_none exact Covered.here | with_unfolding_none refine Covered.next ?_)
    | with_unfolding_none apply hW.sub (inNil)
    | with_unfolding_none apply hW.sub (inBoth (inBoth (inBoth (inSkip (inSkip (inSkip (inBoth (inBoth (inBoth (inBoth (inBoth (inBoth (inBoth (inBoth inNil))))))))))))))
    | (with_reducible refine Within.trans ?_ hL; decide +kernel)
    | (extract_lets +onlyGivenNames letX; have letT : True := (by clear_value letX; guard_hyp letX : State; trivial); clear letT; refine Leaves.cut (W := W) (L := L) (r := org) (v := letX) ?_ (fun letH => ?_); (focus subst letX); rotate_left; clear_value letX; revert letX; intro _ _)
    | with_reducible refine Leaves.ite ?_ ?_

theorem State.arrive_leaves {W : List Span} {L : List Part} {org s : State} (q : Nat) (recs : List Record) (h : Leaves W L org s)
    (hW : Inside (one EVENT_FABRIC.LATE_RECORDS :: one EVENT_FABRIC.RECORDS_PLACED :: each MSIX_HELD :: one (OVF_DROPS q) :: one (OVF_FIRST q) :: one (OVF_LAST q) :: one (RING.DROPS q) :: one (RING.HIGH_WATER q) :: one (RING.SEQUENCE q) :: one (RING_RR q) :: each TARGET.RAISES :: each TARGET.TARGET_STATE :: each TG_BEGAN :: each TG_COUNT :: each TG_LOW :: []) W) (hL : Within ([.out, .rings] : List Part) L) :
    Leaves W L org (State.arrive s q recs) := by
  delta State.arrive
  repeat' first
    | with_reducible assumption
    | with_reducible apply State.setN_leaves
    | with_reducible apply State.marker_leaves
    | with_reducible apply State.enter_leaves
    | with_reducible apply State.dropAt_leaves
    | (with_unfolding_none refine hW.covers ?_; repeat first | with_unfolding_none exact Covered.here | with_unfolding_none exact EVENT_FABRIC.LATE_RECORDS_in | with_unfolding_none refine Covered.next ?_)
    | with_unfolding_none apply hW.sub (inSkip (inBoth (inBoth (inBoth (inSkip (inSkip (inSkip (inBoth (inBoth (inBoth (inBoth (inBoth (inBoth (inBoth (inBoth inNil)))))))))))))))
    | with_unfolding_none apply hW.sub (inSkip (inBoth (inBoth (inSkip (inSkip (inSkip (inSkip (inBoth (inBoth (inBoth (inBoth (inBoth (inBoth (inBoth (inBoth inNil)))))))))))))))
    | with_unfolding_none apply hW.sub (inSkip (inBoth (inBoth (inBoth (inBoth (inBoth (inBoth (inBoth (inBoth (inBoth (inBoth (inBoth (inBoth (inBoth (inBoth inNil)))))))))))))))
    | (with_reducible refine Within.trans ?_ hL; decide +kernel)
    | (extract_lets +onlyGivenNames letX; have letT : True := (by clear_value letX; guard_hyp letX : State; trivial); clear letT; refine Leaves.cut (W := W) (L := L) (r := org) (v := letX) ?_ (fun letH => ?_); (focus subst letX); rotate_left; clear_value letX; revert letX; intro _ _)
    | (extract_lets +onlyGivenNames letX; clear_value letX; revert letX; intro _)
    | with_reducible refine Leaves.ite ?_ ?_
    | with_reducible refine Leaves.update ?_ ?_ ?_ ?_ ?_ ?_ ?_ ?_ ?_ ?_ ?_ ?_ ?_ ?_ ?_ ?_ ?_ ?_ ?_
    | with_reducible exact Or.inl rfl
    | with_reducible exact Or.inr (hL _ (by decide +kernel))

theorem State.placeRecord_leaves {W : List Span} {L : List Part} {org s : State} (p : Placing) (h : Leaves W L org s)
    (hW : Inside (one EVENT_FABRIC.LATE_RECORDS :: one EVENT_FABRIC.RECORDS_PLACED :: each MSIX_HELD :: each OVF_DROPS :: each OVF_FIRST :: each OVF_LAST :: each RING.DROPS :: each RING.HIGH_WATER :: each RING.SEQUENCE :: each RING_RR :: each TARGET.RAISES :: each TARGET.TARGET_STATE :: each TG_BEGAN :: each TG_COUNT :: each TG_LOW :: []) W) (hL : Within ([.out, .rings] : List Part) L) :
    Leaves W L org (State.placeRecord s p) := by
  delta State.placeRecord
  repeat' first
    | with_reducible assumption
    | with_reducible apply State.arrive_leaves
    | with_unfolding_none apply hW.sub (inBoth (inBoth (inBoth (OVF_DROPS_wide (inSkip (OVF_FIRST_wide (inSkip (OVF_LAST_wide (inSkip (RING.DROPS_wide (inSkip (RING.HIGH_WATER_wide (inSkip (RING.SEQUENCE_wide (inSkip (RING_RR_wide (inSkip (inBoth (inBoth (inBoth (inBoth (inBoth inNil))))))))))))))))))))))
    | (with_reducible refine Within.trans ?_ hL; decide +kernel)
    | (extract_lets +onlyGivenNames letX; clear_value letX; revert letX; intro _)
    | with_reducible refine forEach_leaves ?_ (fun _ _ _ => ?_)
    | split
    | with_reducible refine Leaves.update ?_ ?_ ?_ ?_ ?_ ?_ ?_ ?_ ?_ ?_ ?_ ?_ ?_ ?_ ?_ ?_ ?_ ?_ ?_
    | with_reducible exact Or.inl rfl
    | with_reducible exact Or.inr (hL _ (by decide +kernel))
    | with_reducible refine Leaves.ofPair (by assumption) ?_

theorem State.recordPlaced_leaves {W : List Span} {L : List Part} {org s : State} (h : Leaves W L org s)
    (hW : Inside (one EVENT_FABRIC.LATE_RECORDS :: one EVENT_FABRIC.RECORDS_PLACED :: one LOAD_MONITOR.LONGEST_DETECTION :: each MSIX_HELD :: each OVF_DROPS :: each OVF_FIRST :: each OVF_LAST :: each RING.DROPS :: each RING.HIGH_WATER :: each RING.SEQUENCE :: each RING_RR :: each TARGET.RAISES :: each TARGET.TARGET_STATE :: each TG_BEGAN :: each TG_COUNT :: each TG_LOW :: []) W) (hL : Within ([.out, .placing, .rings] : List Part) L) :
    Leaves W L org (State.recordPlaced s) := by
  delta State.recordPlaced
  repeat' first
    | with_reducible assumption
    | with_reducible apply State.setN_leaves
    | with_reducible apply State.placeRecord_leaves
    | (with_unfolding_none refine hW.covers ?_; repeat first | with_unfolding_none exact Covered.here | with_unfolding_none exact LOAD_MONITOR.LONGEST_DETECTION_in | with_unfolding_none refine Covered.next ?_)
    | with_unfolding_none apply hW.sub (inBoth (inBoth (inSkip (inBoth (inBoth (inBoth (inBoth (inBoth (inBoth (inBoth (inBoth (inBoth (inBoth (inBoth (inBoth (inBoth inNil))))))))))))))))
    | (with_reducible refine Within.trans ?_ hL; decide +kernel)
    | (extract_lets +onlyGivenNames letX; have letT : True := (by clear_value letX; guard_hyp letX : State; trivial); clear letT; refine Leaves.cut (W := W) (L := L) (r := org) (v := letX) ?_ (fun letH => ?_); (focus subst letX); rotate_left; clear_value letX; revert letX; intro _ _)
    | (extract_lets +onlyGivenNames letX; clear_value letX; revert letX; intro _)
    | with_reducible refine Leaves.ite ?_ ?_
    | split
    | with_reducible refine Leaves.update ?_ ?_ ?_ ?_ ?_ ?_ ?_ ?_ ?_ ?_ ?_ ?_ ?_ ?_ ?_ ?_ ?_ ?_ ?_
    | with_reducible exact Or.inl rfl
    | with_reducible exact Or.inr (hL _ (by decide +kernel))
    | with_reducible refine Leaves.ofPair (by assumption) ?_

theorem State.afterPop_leaves {W : List Span} {L : List Part} {org s : State} (q n : Nat) (h : Leaves W L org s)
    (hW : Inside (one EVENT_FABRIC.RECORDS_PLACED :: each MSIX_HELD :: one (OVF_DROPS q) :: one (RING.HIGH_WATER q) :: one (RING.SEQUENCE q) :: one (RING_RR q) :: each TARGET.RAISES :: each TARGET.TARGET_STATE :: each TG_BEGAN :: each TG_COUNT :: each TG_LOW :: []) W) (hL : Within ([.out, .rings] : List Part) L) :
    Leaves W L org (State.afterPop s q n) := by
  delta State.afterPop
  repeat' first
    | with_reducible assumption
    | with_reducible apply State.setRing_leaves
    | with_reducible apply State.marker_leaves
    | with_reducible apply State.tgSettle_leaves
    | with_unfolding_none apply hW.sub (inNil)
    | with_unfolding_none apply hW.sub (inBoth (inBoth (inBoth (inBoth (inBoth (inBoth (inBoth (inBoth (inBoth (inBoth (inBoth inNil)))))))))))
    | with_unfolding_none apply hW.sub (inSkip (inSkip (inSkip (inSkip (inSkip (inSkip (inSkip (inBoth (inSkip (inSkip (inBoth inNil)))))))))))
    | (with_reducible refine Within.trans ?_ hL; decide +kernel)

theorem State.flushRing_leaves {W : List Span} {L : List Part} {org s : State} (q : Nat) (h : Leaves W L org s)
    (hW : Inside (one (OVF_DROPS q) :: each TARGET.TARGET_STATE :: each TG_LOW :: []) W) (hL : Within ([.rings] : List Part) L) :
    Leaves W L org (State.flushRing s q) := by
  delta State.flushRing
  repeat' first
    | with_reducible assumption
    | with_reducible apply State.setN_leaves
    | with_reducible apply State.setRing_leaves
    | with_reducible apply State.tgSettle_leaves
    | (with_unfolding_none refine hW.covers ?_; repeat first | with_unfolding_none exact Covered.here | with_unfolding_none refine Covered.next ?_)
    | with_unfolding_none apply hW.sub (inNil)
    | with_unfolding_none apply hW.sub (inSkip (inBoth (inBoth inNil)))
    | (with_reducible refine Within.trans ?_ hL; decide +kernel)

theorem State.ringResize_leaves {W : List Span} {L : List Part} {org s : State} (q : Nat) (h : Leaves W L org s)
    (hW : Inside (one EVENT_FABRIC.RECORDS_PLACED :: each MSIX_HELD :: one (OVF_DROPS q) :: one (OVF_FIRST q) :: one (OVF_LAST q) :: one (RING.DROPS q) :: one (RING.HIGH_WATER q) :: one (RING.SEQUENCE q) :: one (RING_RR q) :: each TARGET.RAISES :: each TARGET.TARGET_STATE :: each TG_BEGAN :: each TG_COUNT :: each TG_LOW :: []) W) (hL : Within ([.out, .rings] : List Part) L) :
    Leaves W L org (State.ringResize s q) := by
  delta State.ringResize
  repeat' first
    | with_reducible assumption
    | with_reducible apply State.setN_leaves
    | with_reducible apply State.marker_leaves
    | with_reducible apply State.setRing_leaves
    | with_reducible apply State.tgSettle_leaves
    | (with_unfolding_none refine hW.covers ?_; repeat first | with_unfolding_none exact Covered.here | with_unfolding_none refine Covered.next ?_)
    | with_unfolding_none apply hW.sub (inBoth (inBoth (inBoth (inSkip (inSkip (inSkip (inBoth (inBoth (inBoth (inBoth (inBoth (inBoth (inBoth (inBoth inNil))))))))))))))
    | with_unfolding_none apply hW.sub (inNil)
    | with_unfolding_none apply hW.sub (inSkip (inSkip (inSkip (inSkip (inSkip (inSkip (inSkip (inSkip (inSkip (inSkip (inBoth (inSkip (inSkip (inBoth inNil))))))))))))))
    | (with_reducible refine Within.trans ?_ hL; decide +kernel)
    | (extract_lets +onlyGivenNames letX; have letT : True := (by clear_value letX; guard_hyp letX : State; trivial); clear letT; refine Leaves.cut (W := W) (L := L) (r := org) (v := letX) ?_ (fun letH => ?_); (focus subst letX); rotate_left; clear_value letX; revert letX; intro _ _)
    | (extract_lets +onlyGivenNames letX; clear_value letX; revert letX; intro _)
    | with_reducible refine Leaves.ite ?_ ?_

theorem State.ringRestart_leaves {W : List Span} {L : List Part} {org s : State} (q : Nat) (h : Leaves W L org s)
    (hW : Inside (one (OVF_DROPS q) :: one (RING.SEQUENCE q) :: one (RING_FENCE q) :: each TARGET.TARGET_STATE :: each TG_LOW :: []) W) (hL : Within ([.rings] : List Part) L) :
    Leaves W L org (State.ringRestart s q) := by
  delta State.ringRestart
  repeat' first
    | with_reducible assumption
    | with_reducible apply State.setN_leaves
    | with_reducible apply State.flushRing_leaves
    | (with_unfolding_none refine hW.covers ?_; repeat first | with_unfolding_none exact Covered.here | with_unfolding_none refine Covered.next ?_)
    | with_unfolding_none apply hW.sub (inBoth (inSkip (inSkip (inBoth (inBoth inNil)))))
    | (with_reducible refine Within.trans ?_ hL; decide +kernel)

theorem State.ringMoves_leaves {W : List Span} {L : List Part} {org s : State} (q : Nat) (h : Leaves W L org s)
    (hW : Inside (one (OVF_DROPS q) :: one (RING.CAPACITY q) :: one (RING.DROPS q) :: one (RING.FILTER_ON q) :: one (RING.KIND_MASK q) :: one (RING.KIND_MATCH q) :: one (RING.MIN_CLASS q) :: one (RING.SEQUENCE q) :: one (RING.SITE_MASK q) :: one (RING.SITE_MATCH q) :: one (RING.TARGETS q) :: one (RING.TYPES q) :: one (RING_FENCE q) :: each TARGET.TARGET_STATE :: each TG_LOW :: []) W) (hL : Within ([.rings] : List Part) L) :
    Leaves W L org (State.ringMoves s q) := by
  delta State.ringMoves
  repeat' first
    | with_reducible assumption
    | with_reducible apply State.setN_leaves
    | with_reducible apply State.restore_leaves
    | with_reducible apply State.ringRestart_leaves
    | (with_unfolding_none refine hW.covers ?_; repeat first | with_unfolding_none exact Covered.here | with_unfolding_none refine Covered.next ?_)
    | with_unfolding_none apply hW.sub (inBoth (inSkip (inSkip (inSkip (inSkip (inSkip (inSkip (inBoth (inSkip (inSkip (inSkip (inSkip (inBoth (inBoth (inBoth inNil)))))))))))))))
    | (with_reducible refine Within.trans ?_ hL; decide +kernel)
    | (extract_lets +onlyGivenNames letX; have letT : True := (by clear_value letX; guard_hyp letX : State; trivial); clear letT; refine Leaves.cut (W := W) (L := L) (r := org) (v := letX) ?_ (fun letH => ?_); (focus subst letX); rotate_left; clear_value letX; revert letX; intro _ _)

theorem State.fenceWrite_leaves {W : List Span} {L : List Part} {org s : State} (t v : Nat) (h : Leaves W L org s)
    (hW : Inside (one (FENCE_CONTROL.FENCE_STAMP t) :: []) W) (hL : Within ([.fences] : List Part) L) :
    Leaves W L org (State.fenceWrite s t v) := by
  delta State.fenceWrite
  repeat' first
    | with_reducible assumption
    | with_reducible apply State.setN_leaves
    | (with_unfolding_none refine hW.covers ?_; repeat first | with_unfolding_none exact Covered.here | with_unfolding_none refine Covered.next ?_)
    | (extract_lets +onlyGivenNames letX; have letT : True := (by clear_value letX; guard_hyp letX : State; trivial); clear letT; refine Leaves.cut (W := W) (L := L) (r := org) (v := letX) ?_ (fun letH => ?_); (focus subst letX); rotate_left; clear_value letX; revert letX; intro _ _)
    | (extract_lets +onlyGivenNames letX; clear_value letX; revert letX; intro _)
    | with_reducible refine Leaves.ite ?_ ?_
    | with_reducible refine Leaves.update ?_ ?_ ?_ ?_ ?_ ?_ ?_ ?_ ?_ ?_ ?_ ?_ ?_ ?_ ?_ ?_ ?_ ?_ ?_
    | with_reducible exact Or.inl rfl
    | with_reducible exact Or.inr (hL _ (by decide +kernel))

theorem State.fenceReport_leaves {W : List Span} {L : List Part} {org s : State} (d stamp : Nat) (h : Leaves W L org s) (hL : Within ([.fences] : List Part) L) :
    Leaves W L org (State.fenceReport s d stamp) := by
  delta State.fenceReport
  repeat' first
    | with_reducible assumption
    | with_reducible refine Leaves.ite ?_ ?_
    | with_reducible refine Leaves.update ?_ ?_ ?_ ?_ ?_ ?_ ?_ ?_ ?_ ?_ ?_ ?_ ?_ ?_ ?_ ?_ ?_ ?_ ?_
    | with_reducible exact Or.inl rfl
    | with_reducible exact Or.inr (hL _ (by decide +kernel))

theorem State.fenceExcuse_leaves {W : List Span} {L : List Part} {org s : State} (d : Nat) (h : Leaves W L org s) (hL : Within ([.fences] : List Part) L) :
    Leaves W L org (State.fenceExcuse s d) := by
  delta State.fenceExcuse
  repeat' first
    | with_reducible assumption
    | with_reducible refine Leaves.ite ?_ ?_
    | with_reducible refine Leaves.update ?_ ?_ ?_ ?_ ?_ ?_ ?_ ?_ ?_ ?_ ?_ ?_ ?_ ?_ ?_ ?_ ?_ ?_ ?_
    | with_reducible exact Or.inl rfl
    | with_reducible exact Or.inr (hL _ (by decide +kernel))

theorem State.placeFence_leaves {W : List Span} {L : List Part} {org s : State} (f : Fence) (q : Nat) (h : Leaves W L org s)
    (hW : Inside (one EVENT_FABRIC.LATE_RECORDS :: one EVENT_FABRIC.RECORDS_PLACED :: each MSIX_HELD :: one (OVF_DROPS q) :: one (OVF_FIRST q) :: one (OVF_LAST q) :: one (RING.DROPS q) :: one (RING.HIGH_WATER q) :: one (RING.SEQUENCE q) :: one (RING_FENCE q) :: one (RING_RR q) :: each TARGET.RAISES :: each TARGET.TARGET_STATE :: each TG_BEGAN :: each TG_COUNT :: each TG_LOW :: []) W) (hL : Within ([.out, .rings] : List Part) L) :
    Leaves W L org (State.placeFence s f q) := by
  delta State.placeFence
  repeat' first
    | with_reducible assumption
    | with_reducible apply State.setN_leaves
    | with_reducible apply State.marker_leaves
    | with_reducible apply State.arrive_leaves
    | (with_unfolding_none refine hW.covers ?_; repeat first | with_unfolding_none exact Covered.here | with_unfolding_none refine Covered.next ?_)
    | with_unfolding_none apply hW.sub (inSkip (inBoth (inBoth (inBoth (inSkip (inSkip (inSkip (inBoth (inBoth (inSkip (inBoth (inBoth (inBoth (inBoth (inBoth (inBoth inNil))))))))))))))))
    | with_unfolding_none apply hW.sub (inBoth (inBoth (inBoth (inBoth (inBoth (inBoth (inBoth (inBoth (inBoth (inSkip (inBoth (inBoth (inBoth (inBoth (inBoth (inBoth inNil))))))))))))))))
    | (with_reducible refine Within.trans ?_ hL; decide +kernel)
    | (extract_lets +onlyGivenNames letX; have letT : True := (by clear_value letX; guard_hyp letX : State; trivial); clear letT; refine Leaves.cut (W := W) (L := L) (r := org) (v := letX) ?_ (fun letH => ?_); (focus subst letX); rotate_left; clear_value letX; revert letX; intro _ _)
    | (extract_lets +onlyGivenNames letX; clear_value letX; revert letX; intro _)
    | with_reducible refine Leaves.ite ?_ ?_

theorem State.fencePlaced_leaves {W : List Span} {L : List Part} {org s : State} (h : Leaves W L org s)
    (hW : Inside (one EVENT_FABRIC.LATE_RECORDS :: one EVENT_FABRIC.RECORDS_PLACED :: each FENCE_CONTROL.FENCE_DONE :: each MSIX_HELD :: each OVF_DROPS :: each OVF_FIRST :: each OVF_LAST :: each RING.DROPS :: each RING.HIGH_WATER :: each RING.SEQUENCE :: each RING_FENCE :: each RING_RR :: each TARGET.RAISES :: each TARGET.TARGET_STATE :: each TG_BEGAN :: each TG_COUNT :: each TG_LOW :: []) W) (hL : Within ([.fences, .out, .rings] : List Part) L) :
    Leaves W L org (State.fencePlaced s) := by
  delta State.fencePlaced
  repeat' first
    | with_reducible assumption
    | with_reducible apply State.setN_leaves
    | with_reducible apply State.placeFence_leaves
    | (with_unfolding_none refine hW.covers ?_; repeat first | with_unfolding_none exact Covered.here | with_unfolding_none exact FENCE_CONTROL.FENCE_DONE_in | with_unfolding_none refine Covered.next ?_)
    | with_unfolding_none apply hW.sub (inBoth (inBoth (inSkip (inBoth (OVF_DROPS_wide (inSkip (OVF_FIRST_wide (inSkip (OVF_LAST_wide (inSkip (RING.DROPS_wide (inSkip (RING.HIGH_WATER_wide (inSkip (RING.SEQUENCE_wide (inSkip (RING_FENCE_wide (inSkip (RING_RR_wide (inSkip (inBoth (inBoth (inBoth (inBoth (inBoth inNil)))))))))))))))))))))))))
    | (with_reducible refine Within.trans ?_ hL; decide +kernel)
    | (extract_lets +onlyGivenNames letX; have letT : True := (by clear_value letX; guard_hyp letX : State; trivial); clear letT; refine Leaves.cut (W := W) (L := L) (r := org) (v := letX) ?_ (fun letH => ?_); (focus subst letX); rotate_left; clear_value letX; revert letX; intro _ _)
    | (extract_lets +onlyGivenNames letX; clear_value letX; revert letX; intro _)
    | with_reducible refine Leaves.ite ?_ ?_
    | with_reducible refine forEach_leaves ?_ (fun _ _ _ => ?_)
    | split
    | with_reducible refine Leaves.update ?_ ?_ ?_ ?_ ?_ ?_ ?_ ?_ ?_ ?_ ?_ ?_ ?_ ?_ ?_ ?_ ?_ ?_ ?_
    | with_reducible exact Or.inl rfl
    | with_reducible exact Or.inr (hL _ (by decide +kernel))
    | with_reducible refine Leaves.ofPair (by assumption) ?_

theorem State.fenceCancel_leaves {W : List Span} {L : List Part} {org s : State} (t : Nat) (h : Leaves W L org s) (hL : Within ([.fences] : List Part) L) :
    Leaves W L org (State.fenceCancel s t) := by
  delta State.fenceCancel
  repeat' first
    | with_reducible assumption
    | with_reducible refine Leaves.update ?_ ?_ ?_ ?_ ?_ ?_ ?_ ?_ ?_ ?_ ?_ ?_ ?_ ?_ ?_ ?_ ?_ ?_ ?_
    | with_reducible exact Or.inl rfl
    | with_reducible exact Or.inr (hL _ (by decide +kernel))

theorem State.eraAdvanced_leaves {W : List Span} {L : List Part} {org s : State} (h : Leaves W L org s)
    (hW : Inside (one ERA_TOLD :: one STORE_ERA :: []) W) (hL : Within ([.collector] : List Part) L) :
    Leaves W L org (State.eraAdvanced s) := by
  delta State.eraAdvanced
  repeat' first
    | with_reducible assumption
    | with_reducible apply State.setN_leaves
    | with_reducible apply State.raise_leaves
    | (with_unfolding_none refine hW.covers ?_; repeat first | with_unfolding_none exact Covered.here | with_unfolding_none exact ERA_TOLD_in | with_unfolding_none exact STORE_ERA_in | with_unfolding_none refine Covered.next ?_)
    | with_unfolding_none apply hW.sub (inNil)
    | (with_reducible refine Within.trans ?_ hL; decide +kernel)
    | (extract_lets +onlyGivenNames letX; have letT : True := (by clear_value letX; guard_hyp letX : State; trivial); clear letT; refine Leaves.cut (W := W) (L := L) (r := org) (v := letX) ?_ (fun letH => ?_); (focus subst letX); rotate_left; clear_value letX; revert letX; intro _ _)
    | with_reducible refine Leaves.ite ?_ ?_

theorem execRecordPlaced_frame {W : List Span} {L : List Part} {org s : State} (h : Leaves W L org s)
    (hW : Inside (one EVENT_FABRIC.LATE_RECORDS :: one EVENT_FABRIC.RECORDS_PLACED :: one LOAD_MONITOR.LONGEST_DETECTION :: each MSIX_HELD :: each OVF_DROPS :: each OVF_FIRST :: each OVF_LAST :: each RING.DROPS :: each RING.HIGH_WATER :: each RING.SEQUENCE :: each RING_RR :: each TARGET.RAISES :: each TARGET.TARGET_STATE :: each TG_BEGAN :: each TG_COUNT :: each TG_LOW :: []) W)
    (hL : Within ([.out, .placing, .rings] : List Part) L) : RunsIn W L org (execRecordPlaced s) := by
  delta execRecordPlaced
  repeat' first
    | with_reducible assumption
    | with_reducible refine RunsIn.next ?_
    | with_reducible apply State.recordPlaced_leaves
    | with_unfolding_none apply hW.sub (inBoth (inBoth (inBoth (inBoth (inBoth (inBoth (inBoth (inBoth (inBoth (inBoth (inBoth (inBoth (inBoth (inBoth (inBoth (inBoth inNil))))))))))))))))

theorem execTargetModerationTimeout_frame {W : List Span} {L : List Part} {org s : State} (g : TargetId) (h : Leaves W L org s)
    (hW : Inside (one (MSIX_HELD g.val) :: one (TARGET.RAISES g.val) :: one (TARGET.TARGET_STATE g.val) :: one (TG_LOW g.val) :: []) W)
    (hL : Within ([.out] : List Part) L) : RunsIn W L org (execTargetModerationTimeout g s) := by
  delta execTargetModerationTimeout
  repeat' first
    | with_reducible assumption
    | with_reducible refine RunsIn.next ?_
    | with_reducible apply State.tgTimeout_leaves
    | with_unfolding_none apply hW.sub (inBoth (inBoth (inBoth (inBoth inNil))))

theorem execFencePlaced_frame {W : List Span} {L : List Part} {org s : State} (h : Leaves W L org s)
    (hW : Inside (one EVENT_FABRIC.LATE_RECORDS :: one EVENT_FABRIC.RECORDS_PLACED :: each FENCE_CONTROL.FENCE_DONE :: each MSIX_HELD :: each OVF_DROPS :: each OVF_FIRST :: each OVF_LAST :: each RING.DROPS :: each RING.HIGH_WATER :: each RING.SEQUENCE :: each RING_FENCE :: each RING_RR :: each TARGET.RAISES :: each TARGET.TARGET_STATE :: each TG_BEGAN :: each TG_COUNT :: each TG_LOW :: []) W)
    (hL : Within ([.fences, .out, .rings] : List Part) L) : RunsIn W L org (execFencePlaced s) := by
  delta execFencePlaced
  repeat' first
    | with_reducible assumption
    | with_reducible refine RunsIn.next ?_
    | with_reducible apply State.fencePlaced_leaves
    | with_unfolding_none apply hW.sub (inBoth (inBoth (inBoth (inBoth (inBoth (inBoth (inBoth (inBoth (inBoth (inBoth (inBoth (inBoth (inBoth (inBoth (inBoth (inBoth (inBoth inNil)))))))))))))))))

theorem execEraAdvanced_frame {W : List Span} {L : List Part} {org s : State} (h : Leaves W L org s)
    (hW : Inside (one ERA_TOLD :: one STORE_ERA :: []) W)
    (hL : Within ([.collector] : List Part) L) : RunsIn W L org (execEraAdvanced s) := by
  delta execEraAdvanced
  repeat' first
    | with_reducible assumption
    | with_reducible refine RunsIn.next ?_
    | with_reducible apply State.eraAdvanced_leaves
    | with_unfolding_none apply hW.sub (inBoth (inBoth inNil))

theorem execMsixUnmask_frame {W : List Span} {L : List Part} {org s : State} (f : Func) (v : Fin 12) (h : Leaves W L org s)
    (hW : Inside (one (MSIX_HELD ((16 + 12 * f.val + v.val))) :: one (MSIX_OPEN ((16 + 12 * f.val + v.val))) :: []) W)
    (hL : Within ([.out] : List Part) L) : RunsIn W L org (execMsixUnmask f v s) := by
  delta execMsixUnmask
  repeat' first
    | with_reducible assumption
    | with_reducible refine RunsIn.next ?_
    | with_reducible apply State.msixUnmask_leaves
    | with_unfolding_none apply hW.sub (inBoth (inBoth inNil))

theorem State.wdPeriod_leaves {W : List Span} {L : List Part} {org s : State} (t at_ : Nat) (h : Leaves W L org s)
    (hW : Inside (one (WATCHDOG.PERIOD_START t) :: one (WATCHDOG.QUESTION t) :: one (WD_ANSWERS t) :: one (WD_AT t) :: one (WD_CLOSED t) :: one (WD_FAILED t) :: one (WD_VALID t) :: []) W) (hL : Within ([.free] : List Part) L) :
    Leaves W L org (State.wdPeriod s t at_) := by
  delta State.wdPeriod
  repeat' first
    | with_reducible assumption
    | with_reducible apply State.setN_leaves
    | with_reducible apply State.setFree_leaves
    | (with_unfolding_none refine hW.covers ?_; repeat first | with_unfolding_none exact Covered.here | with_unfolding_none refine Covered.next ?_)
    | with_reducible exact hL _ (by decide +kernel)
    | (extract_lets +onlyGivenNames letX; have letT : True := (by clear_value letX; guard_hyp letX : State; trivial); clear letT; refine Leaves.cut (W := W) (L := L) (r := org) (v := letX) ?_ (fun letH => ?_); (focus subst letX); rotate_left; clear_value letX; revert letX; intro _ _)

theorem State.wdExpire_leaves {W : List Span} {L : List Part} {org s : State} (t cause : Nat) (h : Leaves W L org s)
    (hW : Inside (one (WATCHDOG.EXPIRY_COUNT t) :: one (WATCHDOG.WD_STATE t) :: one (WD_GAIN t) :: []) W) (hL : Within ([.collector] : List Part) L) :
    Leaves W L org (State.wdExpire s t cause) := by
  delta State.wdExpire
  repeat' first
    | with_reducible assumption
    | with_reducible apply State.setN_leaves
    | with_reducible apply State.count_leaves
    | with_reducible apply State.raise_leaves
    | (with_unfolding_none refine hW.covers ?_; repeat first | with_unfolding_none exact Covered.here | with_unfolding_none refine Covered.next ?_)
    | with_unfolding_none apply hW.sub (inNil)
    | (with_reducible refine Within.trans ?_ hL; decide +kernel)
    | (extract_lets +onlyGivenNames letX; have letT : True := (by clear_value letX; guard_hyp letX : State; trivial); clear letT; refine Leaves.cut (W := W) (L := L) (r := org) (v := letX) ?_ (fun letH => ?_); (focus subst letX); rotate_left; clear_value letX; revert letX; intro _ _)

theorem State.wdPeriodEnd_leaves {W : List Span} {L : List Part} {org s : State} (t : Nat) (h : Leaves W L org s)
    (hW : Inside (one (WATCHDOG.EXPIRY_COUNT t) :: one (WATCHDOG.PERIOD_START t) :: one (WATCHDOG.QUESTION t) :: one (WATCHDOG.WD_STATE t) :: one (WD_ANSWERS t) :: one (WD_AT t) :: one (WD_CLOSED t) :: one (WD_FAILED t) :: one (WD_GAIN t) :: one (WD_VALID t) :: []) W) (hL : Within ([.collector, .free] : List Part) L) :
    Leaves W L org (State.wdPeriodEnd s t) := by
  delta State.wdPeriodEnd
  repeat' first
    | with_reducible assumption
    | with_reducible apply State.wdPeriod_leaves
    | with_reducible apply State.wdExpire_leaves
    | with_unfolding_none apply hW.sub (inSkip (inBoth (inBoth (inSkip (inBoth (inBoth (inBoth (inBoth (inSkip (inBoth inNil))))))))))
    | with_unfolding_none apply hW.sub (inBoth (inSkip (inSkip (inBoth (inSkip (inSkip (inSkip (inSkip (inBoth inNil)))))))))
    | (with_reducible refine Within.trans ?_ hL; decide +kernel)
    | with_reducible refine Leaves.ite ?_ ?_

theorem State.wdAdjournEnd_leaves {W : List Span} {L : List Part} {org s : State} (t : Nat) (h : Leaves W L org s)
    (hW : Inside (one (WATCHDOG.EXPIRY_COUNT t) :: one (WATCHDOG.WD_STATE t) :: one (WD_GAIN t) :: []) W) (hL : Within ([.collector] : List Part) L) :
    Leaves W L org (State.wdAdjournEnd s t) := by
  delta State.wdAdjournEnd
  repeat' first
    | with_reducible assumption
    | with_reducible apply State.wdExpire_leaves
    | with_unfolding_none apply hW.sub (inBoth (inBoth (inBoth inNil)))
    | (with_reducible refine Within.trans ?_ hL; decide +kernel)
    | with_reducible refine Leaves.ite ?_ ?_

theorem State.wdClosedHalf_leaves {W : List Span} {L : List Part} {org s : State} (t : Nat) (h : Leaves W L org s)
    (hW : Inside (one (WD_CLOSED t) :: []) W) :
    Leaves W L org (State.wdClosedHalf s t) := by
  delta State.wdClosedHalf
  repeat' first
    | with_reducible assumption
    | with_reducible apply State.setN_leaves
    | (with_unfolding_none refine hW.covers ?_; repeat first | with_unfolding_none exact Covered.here | with_unfolding_none refine Covered.next ?_)
    | with_reducible refine Leaves.ite ?_ ?_

theorem State.wdDue_leaves {W : List Span} {L : List Part} {org s : State} (t : Nat) (h : Leaves W L org s)
    (hW : Inside (one (WATCHDOG.EXPIRY_COUNT t) :: one (WATCHDOG.PERIOD_START t) :: one (WATCHDOG.QUESTION t) :: one (WATCHDOG.WD_STATE t) :: one (WD_ANSWERS t) :: one (WD_AT t) :: one (WD_CLOSED t) :: one (WD_FAILED t) :: one (WD_GAIN t) :: one (WD_VALID t) :: []) W) (hL : Within ([.collector, .free] : List Part) L) :
    Leaves W L org (State.wdDue s t) := by
  delta State.wdDue
  repeat' first
    | with_reducible assumption
    | with_reducible apply State.wdPeriodEnd_leaves
    | with_reducible apply State.wdAdjournEnd_leaves
    | with_reducible apply State.wdClosedHalf_leaves
    | with_unfolding_none apply hW.sub (inBoth (inBoth (inBoth (inBoth (inBoth (inBoth (inBoth (inBoth (inBoth (inBoth inNil))))))))))
    | with_unfolding_none apply hW.sub (inBoth (inSkip (inSkip (inBoth (inSkip (inSkip (inSkip (inSkip (inBoth inNil)))))))))
    | with_unfolding_none apply hW.sub (inSkip (inSkip (inSkip (inSkip (inSkip (inSkip (inBoth inNil)))))))
    | (with_reducible refine Within.trans ?_ hL; decide +kernel)

theorem State.wdArm_leaves {W : List Span} {L : List Part} {org s : State} (t v : Nat) (h : Leaves W L org s)
    (hW : Inside (one (WATCHDOG.ANSWER_COUNT t) :: one (WATCHDOG.PERIOD t) :: one (WATCHDOG.PERIOD_START t) :: one (WATCHDOG.QUESTION t) :: one (WATCHDOG.WD_STATE t) :: one (WATCHDOG.WRONG_ANSWERS t) :: one (WD_ANSWERS t) :: one (WD_AT t) :: one (WD_CLOSED t) :: one (WD_FAILED t) :: one (WD_SEED t) :: one (WD_VALID t) :: []) W) (hL : Within ([.collector, .free] : List Part) L) :
    Leaves W L org (State.wdArm s t v) := by
  delta State.wdArm
  repeat' first
    | with_reducible assumption
    | with_reducible apply State.setN_leaves
    | with_reducible apply State.wdPeriod_leaves
    | with_reducible apply State.raise_leaves
    | (with_unfolding_none refine hW.covers ?_; repeat first | with_unfolding_none exact Covered.here | with_unfolding_none refine Covered.next ?_)
    | with_unfolding_none apply hW.sub (inSkip (inSkip (inBoth (inBoth (inSkip (inSkip (inBoth (inBoth (inBoth (inBoth (inSkip (inBoth inNil))))))))))))
    | with_unfolding_none apply hW.sub (inNil)
    | (with_reducible refine Within.trans ?_ hL; decide +kernel)
    | (extract_lets +onlyGivenNames letX; have letT : True := (by clear_value letX; guard_hyp letX : State; trivial); clear letT; refine Leaves.cut (W := W) (L := L) (r := org) (v := letX) ?_ (fun letH => ?_); (focus subst letX); rotate_left; clear_value letX; revert letX; intro _ _)

theorem State.wdAnswer_leaves {W : List Span} {L : List Part} {org s : State} (t token : Nat) (h : Leaves W L org s)
    (hW : Inside (one (WATCHDOG.ANSWER_COUNT t) :: one (WATCHDOG.EXPIRY_COUNT t) :: one (WATCHDOG.PERIOD_START t) :: one (WATCHDOG.QUESTION t) :: one (WATCHDOG.WD_STATE t) :: one (WATCHDOG.WRONG_ANSWERS t) :: one (WD_ANSWERS t) :: one (WD_AT t) :: one (WD_CLOSED t) :: one (WD_FAILED t) :: one (WD_GAIN t) :: one (WD_VALID t) :: []) W) (hL : Within ([.collector, .free] : List Part) L) :
    Leaves W L org (State.wdAnswer s t token) := by
  delta State.wdAnswer
  repeat' first
    | with_reducible assumption
    | with_reducible apply State.setN_leaves
    | with_reducible apply State.count_leaves
    | with_reducible apply State.wrapCount_leaves
    | with_reducible apply State.wdPeriod_leaves
    | with_reducible apply State.raise_leaves
    | with_reducible apply State.wdExpire_leaves
    | (with_unfolding_none refine hW.covers ?_; repeat first | with_unfolding_none exact Covered.here | with_unfolding_none refine Covered.next ?_)
    | with_unfolding_none apply hW.sub (inSkip (inSkip (inBoth (inBoth (inSkip (inSkip (inBoth (inBoth (inBoth (inBoth (inSkip (inBoth inNil))))))))))))
    | with_unfolding_none apply hW.sub (inNil)
    | with_unfolding_none apply hW.sub (inSkip (inBoth (inSkip (inSkip (inBoth (inSkip (inSkip (inSkip (inSkip (inSkip (inBoth inNil)))))))))))
    | (with_reducible refine Within.trans ?_ hL; decide +kernel)
    | (extract_lets +onlyGivenNames letX; have letT : True := (by clear_value letX; guard_hyp letX : State; trivial); clear letT; refine Leaves.cut (W := W) (L := L) (r := org) (v := letX) ?_ (fun letH => ?_); (focus subst letX); rotate_left; clear_value letX; revert letX; intro _ _)
    | with_reducible refine Leaves.ite ?_ ?_
    | split
    | with_reducible refine Leaves.ofPair (by assumption) ?_

theorem State.wdAdjourn_leaves {W : List Span} {L : List Part} {org s : State} (t ms : Nat) (h : Leaves W L org s)
    (hW : Inside (one (WATCHDOG.ADJOURN_USED t) :: one (WATCHDOG.PERIOD_START t) :: one (WATCHDOG.QUESTION t) :: one (WATCHDOG.WD_STATE t) :: one (WD_ANSWERS t) :: one (WD_AT t) :: one (WD_CLOSED t) :: one (WD_FAILED t) :: one (WD_LEN t) :: one (WD_VALID t) :: []) W) (hL : Within ([.collector, .free] : List Part) L) :
    Leaves W L org (State.wdAdjourn s t ms) := by
  delta State.wdAdjourn
  repeat' first
    | with_reducible assumption
    | with_reducible apply State.setN_leaves
    | with_reducible apply State.wdPeriod_leaves
    | with_reducible apply State.raise_leaves
    | (with_unfolding_none refine hW.covers ?_; repeat first | with_unfolding_none exact Covered.here | with_unfolding_none refine Covered.next ?_)
    | with_unfolding_none apply hW.sub (inSkip (inBoth (inBoth (inSkip (inBoth (inBoth (inBoth (inBoth (inSkip (inBoth inNil))))))))))
    | with_unfolding_none apply hW.sub (inNil)
    | (with_reducible refine Within.trans ?_ hL; decide +kernel)
    | (extract_lets +onlyGivenNames letX; have letT : True := (by clear_value letX; guard_hyp letX : State; trivial); clear letT; refine Leaves.cut (W := W) (L := L) (r := org) (v := letX) ?_ (fun letH => ?_); (focus subst letX); rotate_left; clear_value letX; revert letX; intro _ _)

theorem State.wdDisarm_leaves {W : List Span} {L : List Part} {org s : State} (t : Nat) (h : Leaves W L org s)
    (hW : Inside (one (WATCHDOG.ANSWER_COUNT t) :: one (WATCHDOG.PERIOD t) :: one (WATCHDOG.PERIOD_START t) :: one (WATCHDOG.QUESTION t) :: one (WATCHDOG.WD_STATE t) :: one (WATCHDOG.WRONG_ANSWERS t) :: one (WD_ANSWERS t) :: one (WD_FAILED t) :: one (WD_VALID t) :: []) W) :
    Leaves W L org (State.wdDisarm s t) := by
  delta State.wdDisarm
  repeat' first
    | with_reducible assumption
    | with_reducible apply State.setN_leaves
    | (with_unfolding_none refine hW.covers ?_; repeat first | with_unfolding_none exact Covered.here | with_unfolding_none refine Covered.next ?_)
    | (extract_lets +onlyGivenNames letX; have letT : True := (by clear_value letX; guard_hyp letX : State; trivial); clear letT; refine Leaves.cut (W := W) (L := L) (r := org) (v := letX) ?_ (fun letH => ?_); (focus subst letX); rotate_left; clear_value letX; revert letX; intro _ _)

theorem State.wdCopy_leaves {W : List Span} {L : List Part} {org s : State} (h : Leaves W L org s)
    (hW : Inside (one WDX_GAIN :: one WDX_STORED :: each WD_GAIN :: each WD_STORED :: []) W) :
    Leaves W L org (State.wdCopy s) := by
  delta State.wdCopy
  repeat' first
    | with_reducible assumption
    | with_reducible apply State.setN_leaves
    | (with_unfolding_none refine hW.covers ?_; repeat first | with_unfolding_none exact Covered.here | with_unfolding_none exact WDX_GAIN_in | with_unfolding_none exact WDX_STORED_in | with_unfolding_none exact WD_GAIN_in | with_unfolding_none exact WD_STORED_in | with_unfolding_none refine Covered.next ?_)
    | (extract_lets +onlyGivenNames letX; have letT : True := (by clear_value letX; guard_hyp letX : State; trivial); clear letT; refine Leaves.cut (W := W) (L := L) (r := org) (v := letX) ?_ (fun letH => ?_); (focus subst letX); rotate_left; clear_value letX; revert letX; intro _ _)
    | with_reducible refine forBelow_leaves ?_ (fun _ _ _ => ?_)

theorem State.wdForget_leaves {W : List Span} {L : List Part} {org s : State} (h : Leaves W L org s)
    (hW : Inside (one DEVICE_WATCHDOG.WDX_RESETS :: each WATCHDOG.EXPIRY_COUNT :: one WDX_GAIN :: each WD_GAIN :: []) W) :
    Leaves W L org (State.wdForget s) := by
  delta State.wdForget
  repeat' first
    | with_reducible assumption
    | with_reducible apply State.setN_leaves
    | (with_unfolding_none refine hW.covers ?_; repeat first | with_unfolding_none exact Covered.here | with_unfolding_none exact DEVICE_WATCHDOG.WDX_RESETS_in | with_unfolding_none exact WATCHDOG.EXPIRY_COUNT_in | with_unfolding_none exact WDX_GAIN_in | with_unfolding_none exact WD_GAIN_in | with_unfolding_none refine Covered.next ?_)
    | (extract_lets +onlyGivenNames letX; have letT : True := (by clear_value letX; guard_hyp letX : State; trivial); clear letT; refine Leaves.cut (W := W) (L := L) (r := org) (v := letX) ?_ (fun letH => ?_); (focus subst letX); rotate_left; clear_value letX; revert letX; intro _ _)
    | with_reducible refine forBelow_leaves ?_ (fun _ _ _ => ?_)

theorem State.wdxServe_leaves {W : List Span} {L : List Part} {org s : State} (h : Leaves W L org s)
    (hW : Inside (one WDX_SERVED :: []) W) :
    Leaves W L org (State.wdxServe s) := by
  delta State.wdxServe
  repeat' first
    | with_reducible assumption
    | with_reducible apply State.setN_leaves
    | (with_unfolding_none refine hW.covers ?_; repeat first | with_unfolding_none exact Covered.here | with_unfolding_none exact WDX_SERVED_in | with_unfolding_none refine Covered.next ?_)

theorem State.wdxExpires_leaves {W : List Span} {L : List Part} {org s : State} (h : Leaves W L org s)
    (hW : Inside (one DEVICE_WATCHDOG.LAST_WDX_STAMP :: one DEVICE_WATCHDOG.WDX_RESETS :: one WDX_GAIN :: []) W) :
    Leaves W L org (State.wdxExpires s) := by
  delta State.wdxExpires
  repeat' first
    | with_reducible assumption
    | with_reducible apply State.setN_leaves
    | with_reducible apply State.count_leaves
    | (with_unfolding_none refine hW.covers ?_; repeat first | with_unfolding_none exact Covered.here | with_unfolding_none exact DEVICE_WATCHDOG.LAST_WDX_STAMP_in | with_unfolding_none exact DEVICE_WATCHDOG.WDX_RESETS_in | with_unfolding_none exact WDX_GAIN_in | with_unfolding_none refine Covered.next ?_)
    | (extract_lets +onlyGivenNames letX; have letT : True := (by clear_value letX; guard_hyp letX : State; trivial); clear letT; refine Leaves.cut (W := W) (L := L) (r := org) (v := letX) ?_ (fun letH => ?_); (focus subst letX); rotate_left; clear_value letX; revert letX; intro _ _)

theorem execWatchdogClosedHalf_frame {W : List Span} {L : List Part} {org s : State} (t : Tenant) (h : Leaves W L org s)
    (hW : Inside (one (WD_CLOSED t.val) :: []) W)
    : RunsIn W L org (execWatchdogClosedHalf t s) := by
  delta execWatchdogClosedHalf
  repeat' first
    | with_reducible assumption
    | with_reducible refine RunsIn.next ?_
    | with_reducible apply State.wdClosedHalf_leaves
    | with_unfolding_none apply hW.sub (inBoth inNil)

theorem execWatchdogPeriodEnd_frame {W : List Span} {L : List Part} {org s : State} (t : Tenant) (h : Leaves W L org s)
    (hW : Inside (one (WATCHDOG.EXPIRY_COUNT t.val) :: one (WATCHDOG.PERIOD_START t.val) :: one (WATCHDOG.QUESTION t.val) :: one (WATCHDOG.WD_STATE t.val) :: one (WD_ANSWERS t.val) :: one (WD_AT t.val) :: one (WD_CLOSED t.val) :: one (WD_FAILED t.val) :: one (WD_GAIN t.val) :: one (WD_VALID t.val) :: []) W)
    (hL : Within ([.collector, .free] : List Part) L) : RunsIn W L org (execWatchdogPeriodEnd t s) := by
  delta execWatchdogPeriodEnd
  repeat' first
    | with_reducible assumption
    | with_reducible refine RunsIn.next ?_
    | with_reducible apply State.wdPeriodEnd_leaves
    | with_unfolding_none apply hW.sub (inBoth (inBoth (inBoth (inBoth (inBoth (inBoth (inBoth (inBoth (inBoth (inBoth inNil))))))))))

theorem execAdjournEnd_frame {W : List Span} {L : List Part} {org s : State} (t : Tenant) (h : Leaves W L org s)
    (hW : Inside (one (WATCHDOG.EXPIRY_COUNT t.val) :: one (WATCHDOG.WD_STATE t.val) :: one (WD_GAIN t.val) :: []) W)
    (hL : Within ([.collector] : List Part) L) : RunsIn W L org (execAdjournEnd t s) := by
  delta execAdjournEnd
  repeat' first
    | with_reducible assumption
    | with_reducible refine RunsIn.next ?_
    | with_reducible apply State.wdAdjournEnd_leaves
    | with_unfolding_none apply hW.sub (inBoth (inBoth (inBoth inNil)))

theorem State.overlay_leaves {W : List Span} {L : List Part} {org s : State} (vals : List (Nat × Int)) (h : Leaves W L org s)
    (hW : Inside (anyKey :: []) W) :
    Leaves W L org (State.overlay s vals) := by
  delta State.overlay
  repeat' first
    | with_reducible assumption
    | with_reducible apply State.set_leaves
    | (with_unfolding_none refine hW.covers ?_; repeat first | with_unfolding_none exact dyn_in | with_unfolding_none refine Covered.next ?_)
    | with_reducible refine forEach_leaves ?_ (fun _ _ _ => ?_)

theorem State.accept_leaves {W : List Span} {L : List Part} {org s : State} (t : Nat) (a : LandAct) (h : Leaves W L org s) (hL : Within ([.landing] : List Part) L) :
    Leaves W L org (State.accept s t a) := by
  delta State.accept
  repeat' first
    | with_reducible assumption
    | with_reducible apply State.land_leaves
    | (with_reducible refine Within.trans ?_ hL; decide +kernel)
    | (extract_lets +onlyGivenNames letX; clear_value letX; revert letX; intro _)
    | split
    | with_reducible refine Leaves.ofPair (by assumption) ?_

theorem State.barrierWrite_leaves {W : List Span} {L : List Part} {org s : State} (t id : Nat) (h : Leaves W L org s)
    (hW : Inside (one (BARRIER.BARRIER_DONE t) :: []) W) (hL : Within ([.barriers] : List Part) L) :
    Leaves W L org (State.barrierWrite s t id) := by
  delta State.barrierWrite
  repeat' first
    | with_reducible assumption
    | with_reducible apply State.setN_leaves
    | (with_unfolding_none refine hW.covers ?_; repeat first | with_unfolding_none exact Covered.here | with_unfolding_none refine Covered.next ?_)
    | (extract_lets +onlyGivenNames letX; clear_value letX; revert letX; intro _)
    | split
    | with_reducible refine Leaves.update ?_ ?_ ?_ ?_ ?_ ?_ ?_ ?_ ?_ ?_ ?_ ?_ ?_ ?_ ?_ ?_ ?_ ?_ ?_
    | with_reducible exact Or.inl rfl
    | with_reducible exact Or.inr (hL _ (by decide +kernel))
    | with_reducible refine Leaves.ofPair (by assumption) ?_

theorem State.stage_leaves {W : List Span} {L : List Part} {org s : State} (t key : Nat) (v : Int) (h : Leaves W L org s) (hL : Within ([.staged] : List Part) L) :
    Leaves W L org (State.stage s t key v) := by
  delta State.stage
  repeat' first
    | with_reducible assumption
    | (extract_lets +onlyGivenNames letX; clear_value letX; revert letX; intro _)
    | with_reducible refine Leaves.ite ?_ ?_
    | with_reducible refine Leaves.update ?_ ?_ ?_ ?_ ?_ ?_ ?_ ?_ ?_ ?_ ?_ ?_ ?_ ?_ ?_ ?_ ?_ ?_ ?_
    | with_reducible exact Or.inl rfl
    | with_reducible exact Or.inr (hL _ (by decide +kernel))

theorem State.unstage_leaves {W : List Span} {L : List Part} {org s : State} (t : Nat) (h : Leaves W L org s) (hL : Within ([.staged] : List Part) L) :
    Leaves W L org (State.unstage s t) := by
  delta State.unstage
  repeat' first
    | with_reducible assumption
    | with_reducible refine Leaves.update ?_ ?_ ?_ ?_ ?_ ?_ ?_ ?_ ?_ ?_ ?_ ?_ ?_ ?_ ?_ ?_ ?_ ?_ ?_
    | with_reducible exact Or.inl rfl
    | with_reducible exact Or.inr (hL _ (by decide +kernel))

theorem State.ackStaging_leaves {W : List Span} {L : List Part} {org s : State} (d : Nat) (h : Leaves W L org s) (hL : Within ([.staged] : List Part) L) :
    Leaves W L org (State.ackStaging s d) := by
  delta State.ackStaging
  repeat' first
    | with_reducible assumption
    | with_reducible refine Leaves.ite ?_ ?_
    | with_reducible refine Leaves.update ?_ ?_ ?_ ?_ ?_ ?_ ?_ ?_ ?_ ?_ ?_ ?_ ?_ ?_ ?_ ?_ ?_ ?_ ?_
    | with_reducible exact Or.inl rfl
    | with_reducible exact Or.inr (hL _ (by decide +kernel))

theorem State.raiseServer_leaves {W : List Span} {L : List Part} {org s : State} (k : Kind) (t : Nat) (fields : List (Nat × Int)) (h : Leaves W L org s) (hL : Within ([.collector] : List Part) L) :
    Leaves W L org (State.raiseServer s k t fields) := by
  delta State.raiseServer
  repeat' first
    | with_reducible assumption
    | with_reducible apply State.raise_leaves
    | (with_reducible refine Within.trans ?_ hL; decide +kernel)

theorem State.commitReject_leaves {W : List Span} {L : List Part} {org s : State} (t reason obj : Nat) (h : Leaves W L org s)
    (hW : Inside (one (COMMIT_CONTROL.LAST_OBJECT t) :: one (COMMIT_CONTROL.LAST_REASON t) :: one (COMMIT_CONTROL.STATUS t) :: []) W) (hL : Within ([.collector, .staged] : List Part) L) :
    Leaves W L org (State.commitReject s t reason obj) := by
  delta State.commitReject
  repeat' first
    | with_reducible assumption
    | with_reducible apply State.setN_leaves
    | with_reducible apply State.unstage_leaves
    | with_reducible apply State.raiseServer_leaves
    | (with_unfolding_none refine hW.covers ?_; repeat first | with_unfolding_none exact Covered.here | with_unfolding_none refine Covered.next ?_)
    | with_unfolding_none apply hW.sub (inNil)
    | (with_reducible refine Within.trans ?_ hL; decide +kernel)
    | (extract_lets +onlyGivenNames letX; have letT : True := (by clear_value letX; guard_hyp letX : State; trivial); clear letT; refine Leaves.cut (W := W) (L := L) (r := org) (v := letX) ?_ (fun letH => ?_); (focus subst letX); rotate_left; clear_value letX; revert letX; intro _ _)
    | with_reducible refine Leaves.ite ?_ ?_

theorem State.commitFlag_leaves {W : List Span} {L : List Part} {org s : State} (t accepted : Nat) (h : Leaves W L org s)
    (hW : Inside (one (COMMIT_CONTROL.STATUS t) :: []) W) (hL : Within ([.landing] : List Part) L) :
    Leaves W L org (State.commitFlag s t accepted) := by
  delta State.commitFlag
  repeat' first
    | with_reducible assumption
    | with_reducible apply State.setN_leaves
    | (with_unfolding_none refine hW.covers ?_; repeat first | with_unfolding_none exact Covered.here | with_unfolding_none refine Covered.next ?_)
    | (extract_lets +onlyGivenNames letX; have letT : True := (by clear_value letX; guard_hyp letX : State; trivial); clear letT; refine Leaves.cut (W := W) (L := L) (r := org) (v := letX) ?_ (fun letH => ?_); (focus subst letX); rotate_left; clear_value letX; revert letX; intro _ _)
    | (extract_lets +onlyGivenNames letX; have letT : True := (by clear_value letX; revert letX; with_reducible exact Keeps.isPair); clear letT; refine Leaves.cut (W := W) (L := L) (r := org) (v := letX.2) ?_ (fun letH => ?_); (focus subst letX); rotate_left; clear_value letX; revert letX; intro _ _)
    | (extract_lets +onlyGivenNames letX; clear_value letX; revert letX; intro _)
    | with_reducible refine Leaves.update ?_ ?_ ?_ ?_ ?_ ?_ ?_ ?_ ?_ ?_ ?_ ?_ ?_ ?_ ?_ ?_ ?_ ?_ ?_
    | with_reducible exact Or.inl rfl
    | with_reducible exact Or.inr (hL _ (by decide +kernel))

theorem State.commitAccept_leaves {W : List Span} {L : List Part} {org s : State} (t : Nat) (h : Leaves W L org s)
    (hW : Inside (one (CM_STAMP t) :: one (COMMIT_CONTROL.LAST_OBJECT t) :: one (COMMIT_CONTROL.LAST_REASON t) :: one (COMMIT_CONTROL.STATUS t) :: []) W) (hL : Within ([.landing] : List Part) L) :
    Leaves W L org (State.commitAccept s t) := by
  delta State.commitAccept
  repeat' first
    | with_reducible assumption
    | with_reducible apply State.setN_leaves
    | with_reducible apply State.commitFlag_leaves
    | (with_unfolding_none refine hW.covers ?_; repeat first | with_unfolding_none exact Covered.here | with_unfolding_none refine Covered.next ?_)
    | with_unfolding_none apply hW.sub (inSkip (inSkip (inSkip (inBoth inNil))))
    | (with_reducible refine Within.trans ?_ hL; decide +kernel)
    | (extract_lets +onlyGivenNames letX; have letT : True := (by clear_value letX; guard_hyp letX : State; trivial); clear letT; refine Leaves.cut (W := W) (L := L) (r := org) (v := letX) ?_ (fun letH => ?_); (focus subst letX); rotate_left; clear_value letX; revert letX; intro _ _)
    | with_reducible refine Leaves.ite ?_ ?_

theorem State.commitChecks_leaves {W : List Span} {L : List Part} {org s : State} (t : Nat) (h : Leaves W L org s)
    (hW : Inside (one (CM_STAGE_END t) :: one (CM_STAMP t) :: one (COMMIT_CONTROL.LAST_OBJECT t) :: one (COMMIT_CONTROL.LAST_REASON t) :: one (COMMIT_CONTROL.STATUS t) :: []) W) (hL : Within ([.collector, .landing, .staged] : List Part) L) :
    Leaves W L org (State.commitChecks s t) := by
  delta State.commitChecks
  repeat' first
    | with_reducible assumption
    | with_reducible apply State.setN_leaves
    | with_reducible apply State.commitReject_leaves
    | with_reducible apply State.commitAccept_leaves
    | (with_unfolding_none refine hW.covers ?_; repeat first | with_unfolding_none exact Covered.here | with_unfolding_none refine Covered.next ?_)
    | with_unfolding_none apply hW.sub (inSkip (inSkip (inBoth (inBoth (inBoth inNil)))))
    | with_unfolding_none apply hW.sub (inSkip (inBoth (inBoth (inBoth (inBoth inNil)))))
    | (with_reducible refine Within.trans ?_ hL; decide +kernel)
    | with_reducible refine Leaves.ite ?_ ?_
    | split
    | with_reducible refine Leaves.ofPair (by assumption) ?_

theorem State.commitNow_leaves {W : List Span} {L : List Part} {org s : State} (t v : Nat) (h : Leaves W L org s)
    (hW : Inside (one (CM_STAGE_END t) :: one (CM_STAMP t) :: one (CM_VALUE t) :: one (COMMIT_CONTROL.LAST_OBJECT t) :: one (COMMIT_CONTROL.LAST_REASON t) :: one (COMMIT_CONTROL.STATUS t) :: []) W) (hL : Within ([.collector, .landing, .staged] : List Part) L) :
    Leaves W L org (State.commitNow s t v) := by
  delta State.commitNow
  repeat' first
    | with_reducible assumption
    | with_reducible apply State.setN_leaves
    | with_reducible apply State.raiseServer_leaves
    | with_reducible apply State.commitReject_leaves
    | with_reducible apply State.commitChecks_leaves
    | (with_unfolding_none refine hW.covers ?_; repeat first | with_unfolding_none exact Covered.here | with_unfolding_none refine Covered.next ?_)
    | with_unfolding_none apply hW.sub (inNil)
    | with_unfolding_none apply hW.sub (inSkip (inSkip (inSkip (inBoth (inBoth (inBoth inNil))))))
    | with_unfolding_none apply hW.sub (inBoth (inBoth (inSkip (inBoth (inBoth (inBoth inNil))))))
    | (with_reducible refine Within.trans ?_ hL; decide +kernel)
    | with_reducible refine Leaves.ite ?_ ?_

theorem State.commitWaits_leaves {W : List Span} {L : List Part} {org s : State} (t v : Nat) (h : Leaves W L org s)
    (hW : Inside (one (CM_VALUE t) :: one (COMMIT_CONTROL.STATUS t) :: []) W) (hL : Within ([.barriers] : List Part) L) :
    Leaves W L org (State.commitWaits s t v) := by
  delta State.commitWaits
  repeat' first
    | with_reducible assumption
    | with_reducible apply State.setN_leaves
    | (with_unfolding_none refine hW.covers ?_; repeat first | with_unfolding_none exact Covered.here | with_unfolding_none refine Covered.next ?_)
    | (extract_lets +onlyGivenNames letX; have letT : True := (by clear_value letX; guard_hyp letX : State; trivial); clear letT; refine Leaves.cut (W := W) (L := L) (r := org) (v := letX) ?_ (fun letH => ?_); (focus subst letX); rotate_left; clear_value letX; revert letX; intro _ _)
    | with_reducible refine Leaves.ite ?_ ?_
    | with_reducible refine Leaves.update ?_ ?_ ?_ ?_ ?_ ?_ ?_ ?_ ?_ ?_ ?_ ?_ ?_ ?_ ?_ ?_ ?_ ?_ ?_
    | with_reducible exact Or.inl rfl
    | with_reducible exact Or.inr (hL _ (by decide +kernel))

theorem State.commitTurn_leaves {W : List Span} {L : List Part} {org s : State} (t v : Nat) (h : Leaves W L org s)
    (hW : Inside (one (CM_STAGE_END t) :: one (CM_STAMP t) :: one (CM_VALUE t) :: one (COMMIT_CONTROL.LAST_OBJECT t) :: one (COMMIT_CONTROL.LAST_REASON t) :: one (COMMIT_CONTROL.STATUS t) :: []) W) (hL : Within ([.collector, .landing, .staged] : List Part) L) :
    Leaves W L org (State.commitTurn s t v) := by
  delta State.commitTurn
  repeat' first
    | with_reducible assumption
    | with_reducible apply State.setN_leaves
    | with_reducible apply State.commitNow_leaves
    | (with_unfolding_none refine hW.covers ?_; repeat first | with_unfolding_none exact Covered.here | with_unfolding_none refine Covered.next ?_)
    | with_unfolding_none apply hW.sub (inBoth (inBoth (inBoth (inBoth (inBoth (inBoth inNil))))))
    | (with_reducible refine Within.trans ?_ hL; decide +kernel)
    | with_reducible refine Leaves.ite ?_ ?_

theorem State.commitWrite_leaves {W : List Span} {L : List Part} {org s : State} (t v : Nat) (h : Leaves W L org s)
    (hW : Inside (one (CM_STAGE_END t) :: one (CM_STAMP t) :: one (CM_VALUE t) :: one (COMMIT_CONTROL.LAST_OBJECT t) :: one (COMMIT_CONTROL.LAST_REASON t) :: one (COMMIT_CONTROL.STATUS t) :: []) W) (hL : Within ([.barriers, .collector, .landing, .staged] : List Part) L) :
    Leaves W L org (State.commitWrite s t v) := by
  delta State.commitWrite
  repeat' first
    | with_reducible assumption
    | with_reducible apply State.commitWaits_leaves
    | with_reducible apply State.commitNow_leaves
    | with_unfolding_none apply hW.sub (inSkip (inSkip (inBoth (inSkip (inSkip (inBoth inNil))))))
    | with_unfolding_none apply hW.sub (inBoth (inBoth (inBoth (inBoth (inBoth (inBoth inNil))))))
    | (with_reducible refine Within.trans ?_ hL; decide +kernel)
    | with_reducible refine Leaves.ite ?_ ?_

theorem State.stageAck_leaves {W : List Span} {L : List Part} {org s : State} (t : Nat) (h : Leaves W L org s)
    (hW : Inside (one (CM_STAMP t) :: one (COMMIT_CONTROL.LAST_OBJECT t) :: one (COMMIT_CONTROL.LAST_REASON t) :: one (COMMIT_CONTROL.STATUS t) :: []) W) (hL : Within ([.landing] : List Part) L) :
    Leaves W L org (State.stageAck s t) := by
  delta State.stageAck
  repeat' first
    | with_reducible assumption
    | with_reducible apply State.commitAccept_leaves
    | with_unfolding_none apply hW.sub (inBoth (inBoth (inBoth (inBoth inNil))))
    | (with_reducible refine Within.trans ?_ hL; decide +kernel)
    | with_reducible refine Leaves.ite ?_ ?_

theorem State.stageTimeout_leaves {W : List Span} {L : List Part} {org s : State} (t : Nat) (h : Leaves W L org s)
    (hW : Inside (one (COMMIT_CONTROL.LAST_OBJECT t) :: one (COMMIT_CONTROL.LAST_REASON t) :: one (COMMIT_CONTROL.STATUS t) :: []) W) (hL : Within ([.collector, .staged] : List Part) L) :
    Leaves W L org (State.stageTimeout s t) := by
  delta State.stageTimeout
  repeat' first
    | with_reducible assumption
    | with_reducible apply State.commitReject_leaves
    | with_unfolding_none apply hW.sub (inBoth (inBoth (inBoth inNil)))
    | (with_reducible refine Within.trans ?_ hL; decide +kernel)
    | with_reducible refine Leaves.ite ?_ ?_

theorem State.dropWaiting_leaves {W : List Span} {L : List Part} {org s : State} (t : Nat) (h : Leaves W L org s) (hL : Within ([.barriers] : List Part) L) :
    Leaves W L org (State.dropWaiting s t) := by
  delta State.dropWaiting
  repeat' first
    | with_reducible assumption
    | with_reducible refine Leaves.ite ?_ ?_
    | with_reducible refine Leaves.update ?_ ?_ ?_ ?_ ?_ ?_ ?_ ?_ ?_ ?_ ?_ ?_ ?_ ?_ ?_ ?_ ?_ ?_ ?_
    | with_reducible exact Or.inl rfl
    | with_reducible exact Or.inr (hL _ (by decide +kernel))

theorem State.commitCancel_leaves {W : List Span} {L : List Part} {org s : State} (t sent : Nat) (h : Leaves W L org s)
    (hW : Inside (one (COMMIT_CONTROL.LAST_OBJECT t) :: one (COMMIT_CONTROL.LAST_REASON t) :: one (COMMIT_CONTROL.STATUS t) :: []) W) (hL : Within ([.barriers, .collector, .landing, .staged] : List Part) L) :
    Leaves W L org (State.commitCancel s t sent) := by
  delta State.commitCancel
  repeat' first
    | with_reducible assumption
    | with_reducible apply State.dropWaiting_leaves
    | with_reducible apply State.commitReject_leaves
    | with_unfolding_none apply hW.sub (inNil)
    | with_unfolding_none apply hW.sub (inBoth (inBoth (inBoth inNil)))
    | (with_reducible refine Within.trans ?_ hL; decide +kernel)
    | (extract_lets +onlyGivenNames letX; have letT : True := (by clear_value letX; guard_hyp letX : State; trivial); clear letT; refine Leaves.cut (W := W) (L := L) (r := org) (v := letX) ?_ (fun letH => ?_); (focus subst letX); rotate_left; clear_value letX; revert letX; intro _ _)
    | with_reducible refine Leaves.ite ?_ ?_
    | split
    | with_reducible refine Leaves.update ?_ ?_ ?_ ?_ ?_ ?_ ?_ ?_ ?_ ?_ ?_ ?_ ?_ ?_ ?_ ?_ ?_ ?_ ?_
    | with_reducible exact Or.inl rfl
    | with_reducible exact Or.inr (hL _ (by decide +kernel))
    | with_reducible refine Leaves.ofPair (by assumption) ?_

theorem State.discard_leaves {W : List Span} {L : List Part} {org s : State} (t : Nat) (h : Leaves W L org s)
    (hW : Inside (one (COMMIT_CONTROL.LAST_OBJECT t) :: one (COMMIT_CONTROL.LAST_REASON t) :: one (COMMIT_CONTROL.STATUS t) :: []) W) (hL : Within ([.barriers, .collector, .landing, .staged] : List Part) L) :
    Leaves W L org (State.discard s t) := by
  delta State.discard
  repeat' first
    | with_reducible assumption
    | with_reducible apply State.commitCancel_leaves
    | with_reducible apply State.unstage_leaves
    | with_unfolding_none apply hW.sub (inBoth (inBoth (inBoth inNil)))
    | with_unfolding_none apply hW.sub (inNil)
    | (with_reducible refine Within.trans ?_ hL; decide +kernel)

theorem State.commitsEnd_leaves {W : List Span} {L : List Part} {org s : State} (h : Leaves W L org s)
    (hW : Inside (each COMMIT_CONTROL.STATUS :: []) W) (hL : Within ([.barriers, .landing] : List Part) L) :
    Leaves W L org (State.commitsEnd s) := by
  delta State.commitsEnd
  repeat' first
    | with_reducible assumption
    | with_reducible apply State.setN_leaves
    | (with_unfolding_none refine hW.covers ?_; repeat first | with_unfolding_none exact Covered.here | with_unfolding_none exact COMMIT_CONTROL.STATUS_in | with_unfolding_none refine Covered.next ?_)
    | (extract_lets +onlyGivenNames letX; have letT : True := (by clear_value letX; guard_hyp letX : State; trivial); clear letT; refine Leaves.cut (W := W) (L := L) (r := org) (v := letX) ?_ (fun letH => ?_); (focus subst letX); rotate_left; clear_value letX; revert letX; intro _ _)
    | with_reducible refine Leaves.ite ?_ ?_
    | with_reducible refine forBelow_leaves ?_ (fun _ _ _ => ?_)
    | split
    | with_reducible refine Leaves.update ?_ ?_ ?_ ?_ ?_ ?_ ?_ ?_ ?_ ?_ ?_ ?_ ?_ ?_ ?_ ?_ ?_ ?_ ?_
    | with_reducible exact Or.inl rfl
    | with_reducible exact Or.inr (hL _ (by decide +kernel))
    | with_reducible refine Leaves.ofPair (by assumption) ?_

theorem State.syncReject_leaves {W : List Span} {L : List Part} {org s : State} (t reason : Nat) (counter : Int) (h : Leaves W L org s)
    (hW : Inside (one (COMMIT_CONTROL.LAST_OBJECT t) :: one (COMMIT_CONTROL.LAST_REASON t) :: one (COMMIT_CONTROL.STATUS t) :: []) W) (hL : Within ([.collector, .staged] : List Part) L) :
    Leaves W L org (State.syncReject s t reason counter) := by
  delta State.syncReject
  repeat' first
    | with_reducible assumption
    | with_reducible apply State.commitReject_leaves
    | with_reducible apply State.raiseServer_leaves
    | with_unfolding_none apply hW.sub (inBoth (inBoth (inBoth inNil)))
    | with_unfolding_none apply hW.sub (inNil)
    | (with_reducible refine Within.trans ?_ hL; decide +kernel)

theorem State.syncJudge_leaves {W : List Span} {L : List Part} {org s : State} (p counter : Nat) (h : Leaves W L org s)
    (hW : Inside (each COMMIT_CONTROL.LAST_OBJECT :: each COMMIT_CONTROL.LAST_REASON :: each COMMIT_CONTROL.STATUS :: []) W) (hL : Within ([.collector, .landing, .staged] : List Part) L) :
    Leaves W L org (State.syncJudge s p counter) := by
  delta State.syncJudge
  repeat' first
    | with_reducible assumption
    | with_reducible apply State.commitFlag_leaves
    | with_reducible apply State.syncReject_leaves
    | with_unfolding_none apply hW.sub (inSkip (inSkip (COMMIT_CONTROL.STATUS_wide inNil)))
    | with_unfolding_none apply hW.sub (COMMIT_CONTROL.LAST_OBJECT_wide (inSkip (COMMIT_CONTROL.LAST_REASON_wide (inSkip (COMMIT_CONTROL.STATUS_wide inNil)))))
    | (with_reducible refine Within.trans ?_ hL; decide +kernel)
    | (extract_lets +onlyGivenNames letX; clear_value letX; revert letX; intro _)
    | with_reducible refine Leaves.ite ?_ ?_
    | with_reducible refine forEach_leaves ?_ (fun _ _ _ => ?_)

theorem State.syncSeen_leaves {W : List Span} {L : List Part} {org s : State} (p : Nat) (counter : Option Nat) (h : Leaves W L org s)
    (hW : Inside (one (CAN_PORT.LAST_SYNC_COUNTER p) :: each COMMIT_CONTROL.LAST_OBJECT :: each COMMIT_CONTROL.LAST_REASON :: each COMMIT_CONTROL.STATUS :: one (SYNC_AT p) :: one (SYNC_C p) :: []) W) (hL : Within ([.collector, .landing, .staged] : List Part) L) :
    Leaves W L org (State.syncSeen s p counter) := by
  delta State.syncSeen
  repeat' first
    | with_reducible assumption
    | with_reducible apply State.setN_leaves
    | with_reducible apply State.syncJudge_leaves
    | (with_unfolding_none refine hW.covers ?_; repeat first | with_unfolding_none exact Covered.here | with_unfolding_none refine Covered.next ?_)
    | with_unfolding_none apply hW.sub (inSkip (inBoth (inBoth (inBoth inNil))))
    | (with_reducible refine Within.trans ?_ hL; decide +kernel)
    | (extract_lets +onlyGivenNames letX; have letT : True := (by clear_value letX; guard_hyp letX : State; trivial); clear letT; refine Leaves.cut (W := W) (L := L) (r := org) (v := letX) ?_ (fun letH => ?_); (focus subst letX); rotate_left; clear_value letX; revert letX; intro _ _)
    | split
    | with_reducible refine Leaves.ofPair (by assumption) ?_

theorem State.syncTimeout_leaves {W : List Span} {L : List Part} {org s : State} (p : Nat) (h : Leaves W L org s)
    (hW : Inside (each COMMIT_CONTROL.LAST_OBJECT :: each COMMIT_CONTROL.LAST_REASON :: each COMMIT_CONTROL.STATUS :: []) W) (hL : Within ([.collector, .staged] : List Part) L) :
    Leaves W L org (State.syncTimeout s p) := by
  delta State.syncTimeout
  repeat' first
    | with_reducible assumption
    | with_reducible apply State.syncReject_leaves
    | with_unfolding_none apply hW.sub (COMMIT_CONTROL.LAST_OBJECT_wide (inSkip (COMMIT_CONTROL.LAST_REASON_wide (inSkip (COMMIT_CONTROL.STATUS_wide inNil)))))
    | (with_reducible refine Within.trans ?_ hL; decide +kernel)
    | with_reducible refine Leaves.ite ?_ ?_
    | with_reducible refine forEach_leaves ?_ (fun _ _ _ => ?_)

theorem State.syncRange_leaves {W : List Span} {L : List Part} {org s : State} (p : Nat) (h : Leaves W L org s)
    (hW : Inside (each COMMIT_CONTROL.LAST_OBJECT :: each COMMIT_CONTROL.LAST_REASON :: each COMMIT_CONTROL.STATUS :: []) W) (hL : Within ([.collector, .staged] : List Part) L) :
    Leaves W L org (State.syncRange s p) := by
  delta State.syncRange
  repeat' first
    | with_reducible assumption
    | with_reducible apply State.syncReject_leaves
    | with_unfolding_none apply hW.sub (COMMIT_CONTROL.LAST_OBJECT_wide (inSkip (COMMIT_CONTROL.LAST_REASON_wide (inSkip (COMMIT_CONTROL.STATUS_wide inNil)))))
    | (with_reducible refine Within.trans ?_ hL; decide +kernel)
    | (extract_lets +onlyGivenNames letX; clear_value letX; revert letX; intro _)
    | with_reducible refine Leaves.ite ?_ ?_
    | with_reducible refine forEach_leaves ?_ (fun _ _ _ => ?_)

theorem State.barrierClose_leaves {W : List Span} {L : List Part} {org s : State} (t : Nat) (h : Leaves W L org s)
    (hW : Inside (one (BARRIER.BARRIER_DONE t) :: one (CM_STAGE_END t) :: one (CM_STAMP t) :: one (CM_VALUE t) :: one (COMMIT_CONTROL.LAST_OBJECT t) :: one (COMMIT_CONTROL.LAST_REASON t) :: one (COMMIT_CONTROL.STATUS t) :: []) W) (hL : Within ([.barriers, .collector, .landing, .staged] : List Part) L) :
    Leaves W L org (State.barrierClose s t) := by
  delta State.barrierClose
  repeat' first
    | with_reducible assumption
    | with_reducible apply State.setN_leaves
    | with_reducible apply State.commitTurn_leaves
    | (with_unfolding_none refine hW.covers ?_; repeat first | with_unfolding_none exact Covered.here | with_unfolding_none refine Covered.next ?_)
    | with_unfolding_none apply hW.sub (inSkip (inBoth (inBoth (inBoth (inBoth (inBoth (inBoth inNil)))))))
    | (with_reducible refine Within.trans ?_ hL; decide +kernel)
    | (extract_lets +onlyGivenNames letX; have letT : True := (by clear_value letX; guard_hyp letX : State; trivial); clear letT; refine Leaves.cut (W := W) (L := L) (r := org) (v := letX) ?_ (fun letH => ?_); (focus subst letX); rotate_left; clear_value letX; revert letX; intro _ _)
    | (extract_lets +onlyGivenNames letX; clear_value letX; revert letX; intro _)
    | with_reducible refine forEach_leaves ?_ (fun _ _ _ => ?_)
    | split
    | with_reducible refine Leaves.update ?_ ?_ ?_ ?_ ?_ ?_ ?_ ?_ ?_ ?_ ?_ ?_ ?_ ?_ ?_ ?_ ?_ ?_ ?_
    | with_reducible exact Or.inl rfl
    | with_reducible exact Or.inr (hL _ (by decide +kernel))
    | with_reducible refine Leaves.ofPair (by assumption) ?_

theorem State.barrierDrop_leaves {W : List Span} {L : List Part} {org s : State} (t : Nat) (h : Leaves W L org s) (hL : Within ([.barriers, .heldWrites, .landing] : List Part) L) :
    Leaves W L org (State.barrierDrop s t) := by
  delta State.barrierDrop
  repeat' first
    | with_reducible assumption
    | split
    | with_reducible refine Leaves.update ?_ ?_ ?_ ?_ ?_ ?_ ?_ ?_ ?_ ?_ ?_ ?_ ?_ ?_ ?_ ?_ ?_ ?_ ?_
    | with_reducible exact Or.inl rfl
    | with_reducible exact Or.inr (hL _ (by decide +kernel))
    | with_reducible refine Leaves.ofPair (by assumption) ?_

theorem execCommitStageAck_frame {W : List Span} {L : List Part} {org s : State} (t : Tenant) (h : Leaves W L org s)
    (hW : Inside (one (CM_STAMP t.val) :: one (COMMIT_CONTROL.LAST_OBJECT t.val) :: one (COMMIT_CONTROL.LAST_REASON t.val) :: one (COMMIT_CONTROL.STATUS t.val) :: []) W)
    (hL : Within ([.landing] : List Part) L) : RunsIn W L org (execCommitStageAck t s) := by
  delta execCommitStageAck
  repeat' first
    | with_reducible assumption
    | with_reducible refine RunsIn.next ?_
    | with_reducible apply State.stageAck_leaves
    | with_unfolding_none apply hW.sub (inBoth (inBoth (inBoth (inBoth inNil))))

theorem execCommitStageAckTimeout_frame {W : List Span} {L : List Part} {org s : State} (t : Tenant) (h : Leaves W L org s)
    (hW : Inside (one (COMMIT_CONTROL.LAST_OBJECT t.val) :: one (COMMIT_CONTROL.LAST_REASON t.val) :: one (COMMIT_CONTROL.STATUS t.val) :: []) W)
    (hL : Within ([.collector, .staged] : List Part) L) : RunsIn W L org (execCommitStageAckTimeout t s) := by
  delta execCommitStageAckTimeout
  repeat' first
    | with_reducible assumption
    | with_reducible refine RunsIn.next ?_
    | with_reducible apply State.stageTimeout_leaves
    | with_unfolding_none apply hW.sub (inBoth (inBoth (inBoth inNil)))

theorem execSyncTimeout_frame {W : List Span} {L : List Part} {org s : State} (p : CanPort) (h : Leaves W L org s)
    (hW : Inside (each COMMIT_CONTROL.LAST_OBJECT :: each COMMIT_CONTROL.LAST_REASON :: each COMMIT_CONTROL.STATUS :: []) W)
    (hL : Within ([.collector, .staged] : List Part) L) : RunsIn W L org (execSyncTimeout p s) := by
  delta execSyncTimeout
  repeat' first
    | with_reducible assumption
    | with_reducible refine RunsIn.next ?_
    | with_reducible apply State.syncTimeout_leaves
    | with_unfolding_none apply hW.sub (inBoth (inBoth (inBoth inNil)))

theorem State.recordNow_leaves {W : List Span} {L : List Part} {org s : State} (k : Kind) (site tenant : Nat) (fields : List (Nat × Int)) (h : Leaves W L org s)
    (hW : Inside (one EVENT_FABRIC.LATE_RECORDS :: one EVENT_FABRIC.RECORDS_PLACED :: one (FAULT_STATUS.COUNT_F 0) :: each MSIX_HELD :: each OVF_DROPS :: each OVF_FIRST :: each OVF_LAST :: each RING.DROPS :: each RING.HIGH_WATER :: each RING.SEQUENCE :: each RING_RR :: each TARGET.RAISES :: each TARGET.TARGET_STATE :: each TG_BEGAN :: each TG_COUNT :: each TG_LOW :: []) W) (hL : Within ([.out, .placing, .rings] : List Part) L) :
    Leaves W L org (State.recordNow s k site tenant fields) := by
  delta State.recordNow
  repeat' first
    | with_reducible assumption
    | with_reducible apply State.count_leaves
    | with_reducible apply State.placeRecord_leaves
    | (with_unfolding_none refine hW.covers ?_; repeat first | with_unfolding_none exact Covered.here | with_unfolding_none refine Covered.next ?_)
    | with_unfolding_none apply hW.sub (inBoth (inBoth (inSkip (inBoth (inBoth (inBoth (inBoth (inBoth (inBoth (inBoth (inBoth (inBoth (inBoth (inBoth (inBoth (inBoth inNil))))))))))))))))
    | (with_reducible refine Within.trans ?_ hL; decide +kernel)
    | (extract_lets +onlyGivenNames letX; have letT : True := (by clear_value letX; guard_hyp letX : State; trivial); clear letT; refine Leaves.cut (W := W) (L := L) (r := org) (v := letX) ?_ (fun letH => ?_); (focus subst letX); rotate_left; clear_value letX; revert letX; intro _ _)
    | (extract_lets +onlyGivenNames letX; clear_value letX; revert letX; intro _)
    | with_reducible refine Leaves.ite ?_ ?_
    | with_reducible refine Leaves.update ?_ ?_ ?_ ?_ ?_ ?_ ?_ ?_ ?_ ?_ ?_ ?_ ?_ ?_ ?_ ?_ ?_ ?_ ?_
    | with_reducible exact Or.inl rfl
    | with_reducible exact Or.inr (hL _ (by decide +kernel))

end Sys2Proof.Machine
end

