-- ==== Sys2Proof/Laws/FramesD.lean ====
section
/-!
SUPPORT. The frames of Security, Reads, Dma, CanBus, Tenants, TwoWire, Hk, Thermal, Keep, Power, Link, Reset: what each definition leaves unchanged.
-/
namespace Sys2Proof.Machine

set_option Elab.async false

theorem State.raiseSecurity_leaves {W : List Span} {L : List Part} {org s : State} (k : Kind) (t : Nat) (fields : List (Nat × Int)) (h : Leaves W L org s) (hL : Within ([.collector] : List Part) L) :
    Leaves W L org (State.raiseSecurity s k t fields) := by
  delta State.raiseSecurity
  repeat' first
    | with_reducible assumption
    | with_reducible apply State.raise_leaves
    | (with_reducible refine Within.trans ?_ hL; decide +kernel)

theorem State.attest_leaves {W : List Span} {L : List Part} {org s : State} (t : Nat) (challenge : List Byte) (h : Leaves W L org s)
    (hW : Inside (one (ATTEST_CONTROL.ATTEST_STATE t) :: []) W) (hL : Within ([.signing] : List Part) L) :
    Leaves W L org (State.attest s t challenge) := by
  delta State.attest
  repeat' first
    | with_reducible assumption
    | with_reducible apply State.setN_leaves
    | (with_unfolding_none refine hW.covers ?_; repeat first | with_unfolding_none exact Covered.here | with_unfolding_none refine Covered.next ?_)
    | (extract_lets +onlyGivenNames letX; have letT : True := (by clear_value letX; guard_hyp letX : State; trivial); clear letT; refine Leaves.cut (W := W) (L := L) (r := org) (v := letX) ?_ (fun letH => ?_); (focus subst letX); rotate_left; clear_value letX; revert letX; intro _ _)
    | (extract_lets +onlyGivenNames letX; have letT : True := (by clear_value letX; revert letX; with_reducible exact Keeps.isPair); clear letT; refine Leaves.cut (W := W) (L := L) (r := org) (v := letX.2) ?_ (fun letH => ?_); (focus subst letX); rotate_left; clear_value letX; revert letX; intro _ _)
    | (extract_lets +onlyGivenNames letX; clear_value letX; revert letX; intro _)
    | with_reducible refine Leaves.update ?_ ?_ ?_ ?_ ?_ ?_ ?_ ?_ ?_ ?_ ?_ ?_ ?_ ?_ ?_ ?_ ?_ ?_ ?_
    | with_reducible exact Or.inl rfl
    | with_reducible exact Or.inr (hL _ (by decide +kernel))

theorem State.draw_leaves {W : List Span} {L : List Part} {org s : State} (h : Leaves W L org s) (hL : Within ([.free] : List Part) L) :
    Leaves W L org (State.draw s).2 := by
  delta State.draw
  repeat' first
    | with_reducible assumption
    | with_reducible refine Leaves.iteP ?_ ?_
    | with_reducible refine Leaves.update ?_ ?_ ?_ ?_ ?_ ?_ ?_ ?_ ?_ ?_ ?_ ?_ ?_ ?_ ?_ ?_ ?_ ?_ ?_
    | with_reducible exact Or.inl rfl
    | with_reducible exact Or.inr (hL _ (by decide +kernel))

theorem State.attested_leaves {W : List Span} {L : List Part} {org s : State} (h : Leaves W L org s)
    (hW : Inside (each ATTEST_CONTROL.ATTESTATION :: each ATTEST_CONTROL.ATTEST_STATE :: one SECURITY_STATUS.SIGNATURES :: []) W) (hL : Within ([.collector, .free, .signing] : List Part) L) :
    Leaves W L org (State.attested s) := by
  delta State.attested
  repeat' first
    | with_reducible assumption
    | with_reducible apply State.setN_leaves
    | with_reducible apply State.wrapCount_leaves
    | with_reducible apply State.setBlob_leaves
    | with_reducible apply State.draw_leaves
    | with_reducible apply State.raiseSecurity_leaves
    | (with_unfolding_none refine hW.covers ?_; repeat first | with_unfolding_none exact Covered.here | with_unfolding_none exact ATTEST_CONTROL.ATTESTATION_in | with_unfolding_none exact ATTEST_CONTROL.ATTEST_STATE_in | with_unfolding_none exact SECURITY_STATUS.SIGNATURES_in | with_unfolding_none refine Covered.next ?_)
    | with_unfolding_none apply hW.sub (inNil)
    | (with_reducible refine Within.trans ?_ hL; decide +kernel)
    | (extract_lets +onlyGivenNames letX; have letT : True := (by clear_value letX; guard_hyp letX : State; trivial); clear letT; refine Leaves.cut (W := W) (L := L) (r := org) (v := letX) ?_ (fun letH => ?_); (focus subst letX); rotate_left; clear_value letX; revert letX; intro _ _)
    | (extract_lets +onlyGivenNames letX; have letT : True := (by clear_value letX; revert letX; with_reducible exact Keeps.isPair); clear letT; refine Leaves.cut (W := W) (L := L) (r := org) (v := letX.2) ?_ (fun letH => ?_); (focus subst letX); rotate_left; clear_value letX; revert letX; intro _ _)
    | (extract_lets +onlyGivenNames letX; clear_value letX; revert letX; intro _)
    | with_reducible refine Leaves.iteP ?_ ?_
    | split
    | with_reducible refine Leaves.update ?_ ?_ ?_ ?_ ?_ ?_ ?_ ?_ ?_ ?_ ?_ ?_ ?_ ?_ ?_ ?_ ?_ ?_ ?_
    | with_reducible exact Or.inl rfl
    | with_reducible exact Or.inr (hL _ (by decide +kernel))
    | with_reducible refine Leaves.ofPair (by assumption) ?_

theorem State.sessionEnd_leaves {W : List Span} {L : List Part} {org s : State} (t cause : Nat) (h : Leaves W L org s)
    (hW : Inside (one (KEY_DH t) :: one (KEY_HD t) :: one (SESSION_CONTROL.SESSION_STATE t) :: one (SESSION_ID t) :: []) W) (hL : Within ([.collector, .signing] : List Part) L) :
    Leaves W L org (State.sessionEnd s t cause) := by
  delta State.sessionEnd
  repeat' first
    | with_reducible assumption
    | with_reducible apply State.setN_leaves
    | with_reducible apply State.setBlob_leaves
    | with_reducible apply State.raiseSecurity_leaves
    | (with_unfolding_none refine hW.covers ?_; repeat first | with_unfolding_none exact Covered.here | with_unfolding_none refine Covered.next ?_)
    | with_unfolding_none apply hW.sub (inNil)
    | (with_reducible refine Within.trans ?_ hL; decide +kernel)
    | (extract_lets +onlyGivenNames letX; have letT : True := (by clear_value letX; guard_hyp letX : State; trivial); clear letT; refine Leaves.cut (W := W) (L := L) (r := org) (v := letX) ?_ (fun letH => ?_); (focus subst letX); rotate_left; clear_value letX; revert letX; intro _ _)
    | (extract_lets +onlyGivenNames letX; clear_value letX; revert letX; intro _)
    | with_reducible refine Leaves.ite ?_ ?_
    | with_reducible refine Leaves.update ?_ ?_ ?_ ?_ ?_ ?_ ?_ ?_ ?_ ?_ ?_ ?_ ?_ ?_ ?_ ?_ ?_ ?_ ?_
    | with_reducible exact Or.inl rfl
    | with_reducible exact Or.inr (hL _ (by decide +kernel))

theorem State.sessionOpen_leaves {W : List Span} {L : List Part} {org s : State} (t : Nat) (hostKey : List Byte) (h : Leaves W L org s)
    (hW : Inside (one (KEY_DH t) :: one (KEY_HD t) :: one (SESSION_CONTROL.SESSION_STATE t) :: one (SESSION_ID t) :: []) W) (hL : Within ([.collector, .signing] : List Part) L) :
    Leaves W L org (State.sessionOpen s t hostKey) := by
  delta State.sessionOpen
  repeat' first
    | with_reducible assumption
    | with_reducible apply State.setN_leaves
    | with_reducible apply State.sessionEnd_leaves
    | (with_unfolding_none refine hW.covers ?_; repeat first | with_unfolding_none exact Covered.here | with_unfolding_none refine Covered.next ?_)
    | with_unfolding_none apply hW.sub (inBoth (inBoth (inBoth (inBoth inNil))))
    | (with_reducible refine Within.trans ?_ hL; decide +kernel)
    | (extract_lets +onlyGivenNames letX; have letT : True := (by clear_value letX; guard_hyp letX : State; trivial); clear letT; refine Leaves.cut (W := W) (L := L) (r := org) (v := letX) ?_ (fun letH => ?_); (focus subst letX); rotate_left; clear_value letX; revert letX; intro _ _)
    | with_reducible refine Leaves.update ?_ ?_ ?_ ?_ ?_ ?_ ?_ ?_ ?_ ?_ ?_ ?_ ?_ ?_ ?_ ?_ ?_ ?_ ?_
    | with_reducible exact Or.inl rfl
    | with_reducible exact Or.inr (hL _ (by decide +kernel))

theorem State.sessionOpened_leaves {W : List Span} {L : List Part} {org s : State} (h : Leaves W L org s)
    (hW : Inside (each KEY_DH :: each KEY_HD :: one SECURITY_STATUS.SESSIONS_OPENED :: one SECURITY_STATUS.SIGNATURES :: each SESSION_CONTROL.LAST_COUNTER :: each SESSION_CONTROL.SESSION_REPLY :: each SESSION_CONTROL.SESSION_STATE :: each SESSION_ID :: []) W) (hL : Within ([.collector, .free, .signing] : List Part) L) :
    Leaves W L org (State.sessionOpened s) := by
  delta State.sessionOpened
  repeat' first
    | with_reducible assumption
    | with_reducible apply State.setN_leaves
    | with_reducible apply State.wrapCount_leaves
    | with_reducible apply State.setFree_leaves
    | with_reducible apply State.setBlob_leaves
    | with_reducible apply State.draw_leaves
    | with_reducible apply State.raiseSecurity_leaves
    | (with_unfolding_none refine hW.covers ?_; repeat first | with_unfolding_none exact Covered.here | with_unfolding_none exact KEY_DH_in | with_unfolding_none exact KEY_HD_in | with_unfolding_none exact SECURITY_STATUS.SESSIONS_OPENED_in | with_unfolding_none exact SECURITY_STATUS.SIGNATURES_in | with_unfolding_none exact SESSION_CONTROL.LAST_COUNTER_in | with_unfolding_none exact SESSION_CONTROL.SESSION_REPLY_in | with_unfolding_none exact SESSION_CONTROL.SESSION_STATE_in | with_unfolding_none exact SESSION_ID_in | with_unfolding_none refine Covered.next ?_)
    | with_unfolding_none apply hW.sub (inNil)
    | (with_reducible refine Within.trans ?_ hL; decide +kernel)
    | with_reducible exact hL _ (by decide +kernel)
    | (extract_lets +onlyGivenNames letX; have letT : True := (by clear_value letX; guard_hyp letX : State; trivial); clear letT; refine Leaves.cut (W := W) (L := L) (r := org) (v := letX) ?_ (fun letH => ?_); (focus subst letX); rotate_left; clear_value letX; revert letX; intro _ _)
    | (extract_lets +onlyGivenNames letX; have letT : True := (by clear_value letX; revert letX; with_reducible exact Keeps.isPair); clear letT; refine Leaves.cut (W := W) (L := L) (r := org) (v := letX.2) ?_ (fun letH => ?_); (focus subst letX); rotate_left; clear_value letX; revert letX; intro _ _)
    | (extract_lets +onlyGivenNames letX; clear_value letX; revert letX; intro _)
    | with_reducible refine Leaves.iteP ?_ ?_
    | split
    | with_reducible refine Leaves.update ?_ ?_ ?_ ?_ ?_ ?_ ?_ ?_ ?_ ?_ ?_ ?_ ?_ ?_ ?_ ?_ ?_ ?_ ?_
    | with_reducible exact Or.inl rfl
    | with_reducible exact Or.inr (hL _ (by decide +kernel))
    | with_reducible refine Leaves.ofPair (by assumption) ?_

theorem State.envelopeFails_leaves {W : List Span} {L : List Part} {org s : State} (t cause : Nat) (b : List Byte) (h : Leaves W L org s)
    (hW : Inside (one (KEY_DH t) :: one (KEY_HD t) :: one SECURITY_STATUS.AUTH_FAILED_TOTAL :: one (SESSION_CONTROL.AUTH_FAILURES t) :: one (SESSION_CONTROL.SESSION_STATE t) :: one (SESSION_ID t) :: []) W) (hL : Within ([.collector, .signing] : List Part) L) :
    Leaves W L org (State.envelopeFails s t cause b) := by
  delta State.envelopeFails
  repeat' first
    | with_reducible assumption
    | with_reducible apply State.count_leaves
    | with_reducible apply State.raiseSecurity_leaves
    | with_reducible apply State.sessionEnd_leaves
    | (with_unfolding_none refine hW.covers ?_; repeat first | with_unfolding_none exact Covered.here | with_unfolding_none exact SECURITY_STATUS.AUTH_FAILED_TOTAL_in | with_unfolding_none refine Covered.next ?_)
    | with_unfolding_none apply hW.sub (inNil)
    | with_unfolding_none apply hW.sub (inBoth (inBoth (inSkip (inSkip (inBoth (inBoth inNil))))))
    | (with_reducible refine Within.trans ?_ hL; decide +kernel)
    | (extract_lets +onlyGivenNames letX; have letT : True := (by clear_value letX; guard_hyp letX : State; trivial); clear letT; refine Leaves.cut (W := W) (L := L) (r := org) (v := letX) ?_ (fun letH => ?_); (focus subst letX); rotate_left; clear_value letX; revert letX; intro _ _)
    | with_reducible refine Leaves.ite ?_ ?_

theorem State.envelopePasses_leaves {W : List Span} {L : List Part} {org s : State} (t : Nat) (b : List Byte) (h : Leaves W L org s)
    (hW : Inside (one (SESSION_CONTROL.AUTH_FAILURES t) :: one (SESSION_CONTROL.LAST_COUNTER t) :: []) W) :
    Leaves W L org (State.envelopePasses s t b) := by
  delta State.envelopePasses
  repeat' first
    | with_reducible assumption
    | with_reducible apply State.setN_leaves
    | (with_unfolding_none refine hW.covers ?_; repeat first | with_unfolding_none exact Covered.here | with_unfolding_none refine Covered.next ?_)

theorem State.counterSpent_leaves {W : List Span} {L : List Part} {org s : State} (t : Nat) (b : List Byte) (h : Leaves W L org s)
    (hW : Inside (one (KEY_DH t) :: one (KEY_HD t) :: one (SESSION_CONTROL.SESSION_STATE t) :: one (SESSION_ID t) :: []) W) (hL : Within ([.collector, .signing] : List Part) L) :
    Leaves W L org (State.counterSpent s t b) := by
  delta State.counterSpent
  repeat' first
    | with_reducible assumption
    | with_reducible apply State.sessionEnd_leaves
    | with_unfolding_none apply hW.sub (inBoth (inBoth (inBoth (inBoth inNil))))
    | (with_reducible refine Within.trans ?_ hL; decide +kernel)
    | with_reducible refine Leaves.ite ?_ ?_

theorem State.readReply_leaves {W : List Span} {L : List Part} {org s : State} (t : Nat) (b : List Byte) (abort : Nat) (v : List Byte) (h : Leaves W L org s)
    (hW : Inside (one (SESSION_CONTROL.AUTH_READ_REPLY t) :: []) W) :
    Leaves W L org (State.readReply s t b abort v) := by
  delta State.readReply
  repeat' first
    | with_reducible assumption
    | with_reducible apply State.setBlob_leaves
    | (with_unfolding_none refine hW.covers ?_; repeat first | with_unfolding_none exact Covered.here | with_unfolding_none refine Covered.next ?_)
    | (extract_lets +onlyGivenNames letX; clear_value letX; revert letX; intro _)

theorem State.randomFails_leaves {W : List Span} {L : List Part} {org s : State} (test : Nat) (h : Leaves W L org s)
    (hW : Inside (each ATTEST_CONTROL.ATTEST_STATE :: one SECURITY_STATUS.RANDOM_STATE :: each SESSION_CONTROL.SESSION_STATE :: []) W) (hL : Within ([.collector, .signing] : List Part) L) :
    Leaves W L org (State.randomFails s test) := by
  delta State.randomFails
  repeat' first
    | with_reducible assumption
    | with_reducible apply State.setN_leaves
    | with_reducible apply State.raise_leaves
    | (with_unfolding_none refine hW.covers ?_; repeat first | with_unfolding_none exact Covered.here | with_unfolding_none exact ATTEST_CONTROL.ATTEST_STATE_in | with_unfolding_none exact SECURITY_STATUS.RANDOM_STATE_in | with_unfolding_none exact SESSION_CONTROL.SESSION_STATE_in | with_unfolding_none refine Covered.next ?_)
    | with_unfolding_none apply hW.sub (inNil)
    | (with_reducible refine Within.trans ?_ hL; decide +kernel)
    | (extract_lets +onlyGivenNames letX; have letT : True := (by clear_value letX; guard_hyp letX : State; trivial); clear letT; refine Leaves.cut (W := W) (L := L) (r := org) (v := letX) ?_ (fun letH => ?_); (focus subst letX); rotate_left; clear_value letX; revert letX; intro _ _)
    | with_reducible refine Leaves.ite ?_ ?_
    | with_reducible refine forBelow_leaves ?_ (fun _ _ _ => ?_)
    | with_reducible refine Leaves.update ?_ ?_ ?_ ?_ ?_ ?_ ?_ ?_ ?_ ?_ ?_ ?_ ?_ ?_ ?_ ?_ ?_ ?_ ?_
    | with_reducible exact Or.inl rfl
    | with_reducible exact Or.inr (hL _ (by decide +kernel))

theorem State.securityClears_leaves {W : List Span} {L : List Part} {org s : State} (h : Leaves W L org s)
    (hW : Inside (each ATTEST_CONTROL.ATTESTATION :: each KEY_DH :: each KEY_HD :: each SESSION_CONTROL.AUTH_READ_REPLY :: each SESSION_CONTROL.SESSION_REPLY :: each SESSION_ID :: []) W) (hL : Within ([.signing] : List Part) L) :
    Leaves W L org (State.securityClears s) := by
  delta State.securityClears
  repeat' first
    | with_reducible assumption
    | with_reducible apply State.setN_leaves
    | with_reducible apply State.setBlob_leaves
    | (with_unfolding_none refine hW.covers ?_; repeat first | with_unfolding_none exact Covered.here | with_unfolding_none exact ATTEST_CONTROL.ATTESTATION_in | with_unfolding_none exact KEY_DH_in | with_unfolding_none exact KEY_HD_in | with_unfolding_none exact SESSION_CONTROL.AUTH_READ_REPLY_in | with_unfolding_none exact SESSION_CONTROL.SESSION_REPLY_in | with_unfolding_none exact SESSION_ID_in | with_unfolding_none refine Covered.next ?_)
    | (extract_lets +onlyGivenNames letX; have letT : True := (by clear_value letX; guard_hyp letX : State; trivial); clear letT; refine Leaves.cut (W := W) (L := L) (r := org) (v := letX) ?_ (fun letH => ?_); (focus subst letX); rotate_left; clear_value letX; revert letX; intro _ _)
    | with_reducible refine forBelow_leaves ?_ (fun _ _ _ => ?_)
    | with_reducible refine Leaves.update ?_ ?_ ?_ ?_ ?_ ?_ ?_ ?_ ?_ ?_ ?_ ?_ ?_ ?_ ?_ ?_ ?_ ?_ ?_
    | with_reducible exact Or.inl rfl
    | with_reducible exact Or.inr (hL _ (by decide +kernel))

theorem execAttestationSigned_frame {W : List Span} {L : List Part} {org s : State} (h : Leaves W L org s)
    (hW : Inside (each ATTEST_CONTROL.ATTESTATION :: each ATTEST_CONTROL.ATTEST_STATE :: one SECURITY_STATUS.SIGNATURES :: []) W)
    (hL : Within ([.collector, .free, .signing] : List Part) L) : RunsIn W L org (execAttestationSigned s) := by
  delta execAttestationSigned
  repeat' first
    | with_reducible assumption
    | with_reducible refine RunsIn.next ?_
    | with_reducible apply State.attested_leaves
    | with_unfolding_none apply hW.sub (inBoth (inBoth (inBoth inNil)))

theorem execSessionOpened_frame {W : List Span} {L : List Part} {org s : State} (h : Leaves W L org s)
    (hW : Inside (each KEY_DH :: each KEY_HD :: one SECURITY_STATUS.SESSIONS_OPENED :: one SECURITY_STATUS.SIGNATURES :: each SESSION_CONTROL.LAST_COUNTER :: each SESSION_CONTROL.SESSION_REPLY :: each SESSION_CONTROL.SESSION_STATE :: each SESSION_ID :: []) W)
    (hL : Within ([.collector, .free, .signing] : List Part) L) : RunsIn W L org (execSessionOpened s) := by
  delta execSessionOpened
  repeat' first
    | with_reducible assumption
    | with_reducible refine RunsIn.next ?_
    | with_reducible apply State.sessionOpened_leaves
    | with_unfolding_none apply hW.sub (inBoth (inBoth (inBoth (inBoth (inBoth (inBoth (inBoth (inBoth inNil))))))))

theorem execRandomSourceFault_frame {W : List Span} {L : List Part} {org s : State} (test : Nat) (h : Leaves W L org s)
    (hW : Inside (each ATTEST_CONTROL.ATTEST_STATE :: one SECURITY_STATUS.RANDOM_STATE :: each SESSION_CONTROL.SESSION_STATE :: []) W)
    (hL : Within ([.collector, .signing] : List Part) L) : RunsIn W L org (execRandomSourceFault test s) := by
  delta execRandomSourceFault
  repeat' first
    | with_reducible assumption
    | with_reducible refine RunsIn.next ?_
    | with_reducible apply State.randomFails_leaves
    | with_unfolding_none apply hW.sub (inBoth (inBoth (inBoth inNil)))

theorem State.countAccess_leaves {W : List Span} {L : List Part} {org s : State} (n bytes : Nat) (h : Leaves W L org s)
    (hW : Inside (one LOAD_ACCESS :: []) W) :
    Leaves W L org (State.countAccess s n bytes) := by
  delta State.countAccess
  repeat' first
    | with_reducible assumption
    | with_reducible apply State.setN_leaves
    | (with_unfolding_none refine hW.covers ?_; repeat first | with_unfolding_none exact Covered.here | with_unfolding_none exact LOAD_ACCESS_in | with_unfolding_none refine Covered.next ?_)

theorem State.afterRead_leaves {W : List Span} {L : List Part} {org s : State} (t addr : Nat) (h : Leaves W L org s)
    (hW : Inside (one EVENT_FABRIC.RECORDS_PLACED :: each MSIX_HELD :: each OVF_DROPS :: each RING.HIGH_WATER :: each RING.SEQUENCE :: each RING_RR :: each TARGET.RAISES :: each TARGET.TARGET_STATE :: each TG_BEGAN :: each TG_COUNT :: each TG_LOW :: one (keyOf t addr) :: []) W) (hL : Within ([.out, .rings] : List Part) L) :
    Leaves W L org (State.afterRead s t addr) := by
  delta State.afterRead
  repeat' first
    | with_reducible assumption
    | with_reducible apply State.restore_leaves
    | with_reducible apply State.afterPop_leaves
    | (with_unfolding_none refine hW.covers ?_; repeat first | with_unfolding_none exact Covered.here | with_unfolding_none refine Covered.next ?_)
    | with_unfolding_none apply hW.sub (inBoth (inBoth (OVF_DROPS_wide (inSkip (RING.HIGH_WATER_wide (inSkip (RING.SEQUENCE_wide (inSkip (RING_RR_wide (inSkip (inBoth (inBoth (inBoth (inBoth (inBoth inNil)))))))))))))))
    | (with_reducible refine Within.trans ?_ hL; decide +kernel)
    | (extract_lets +onlyGivenNames letX; clear_value letX; revert letX; intro _)
    | with_reducible refine Leaves.ite ?_ ?_

theorem State.raiseStream_leaves {W : List Span} {L : List Part} {org s : State} (k : Kind) (d : Nat) (fields : List (Nat × Int)) (h : Leaves W L org s) (hL : Within ([.collector] : List Part) L) :
    Leaves W L org (State.raiseStream s k d fields) := by
  delta State.raiseStream
  repeat' first
    | with_reducible assumption
    | with_reducible apply State.raise_leaves
    | (with_reducible refine Within.trans ?_ hL; decide +kernel)

theorem State.dsShow_leaves {W : List Span} {L : List Part} {org s : State} (d : Nat) (h : Leaves W L org s)
    (hW : Inside (one (STREAM.STREAM_STATE d) :: []) W) :
    Leaves W L org (State.dsShow s d) := by
  delta State.dsShow
  repeat' first
    | with_reducible assumption
    | with_reducible apply State.setN_leaves
    | (with_unfolding_none refine hW.covers ?_; repeat first | with_unfolding_none exact Covered.here | with_unfolding_none refine Covered.next ?_)
    | with_reducible refine Leaves.ite ?_ ?_

theorem State.dsDefaults_leaves {W : List Span} {L : List Part} {org s : State} (d : Nat) (h : Leaves W L org s)
    (hW : Inside (anyKey :: []) W) :
    Leaves W L org (State.dsDefaults s d) := by
  delta State.dsDefaults
  repeat' first
    | with_reducible assumption
    | with_reducible apply State.restore_leaves
    | with_reducible apply State.dsShow_leaves
    | (with_unfolding_none refine hW.covers ?_; repeat first | with_unfolding_none exact dyn_in | with_unfolding_none refine Covered.next ?_)
    | with_unfolding_none apply hW.sub (inAny)
    | (extract_lets +onlyGivenNames letX; have letT : True := (by clear_value letX; guard_hyp letX : State; trivial); clear letT; refine Leaves.cut (W := W) (L := L) (r := org) (v := letX) ?_ (fun letH => ?_); (focus subst letX); rotate_left; clear_value letX; revert letX; intro _ _)
    | (extract_lets +onlyGivenNames letX; clear_value letX; revert letX; intro _)
    | with_reducible refine forEach_leaves ?_ (fun _ _ _ => ?_)
    | with_reducible refine forBelow_leaves ?_ (fun _ _ _ => ?_)

theorem State.dsStopped_leaves {W : List Span} {L : List Part} {org s : State} (d : Nat) (h : Leaves W L org s)
    (hW : Inside (anyKey :: []) W) (hL : Within ([.collector] : List Part) L) :
    Leaves W L org (State.dsStopped s d) := by
  delta State.dsStopped
  repeat' first
    | with_reducible assumption
    | with_reducible apply State.setN_leaves
    | with_reducible apply State.raiseStream_leaves
    | with_reducible apply State.dsDefaults_leaves
    | (with_unfolding_none refine hW.covers ?_; repeat first | with_unfolding_none exact dyn_in | with_unfolding_none refine Covered.next ?_)
    | with_unfolding_none apply hW.sub (inNil)
    | with_unfolding_none apply hW.sub (inAny)
    | (with_reducible refine Within.trans ?_ hL; decide +kernel)
    | (extract_lets +onlyGivenNames letX; have letT : True := (by clear_value letX; guard_hyp letX : State; trivial); clear letT; refine Leaves.cut (W := W) (L := L) (r := org) (v := letX) ?_ (fun letH => ?_); (focus subst letX); rotate_left; clear_value letX; revert letX; intro _ _)
    | (extract_lets +onlyGivenNames letX; clear_value letX; revert letX; intro _)
    | with_reducible refine Leaves.ite ?_ ?_

theorem State.dsStop_leaves {W : List Span} {L : List Part} {org s : State} (d cause : Nat) (h : Leaves W L org s)
    (hW : Inside (anyKey :: []) W) (hL : Within ([.collector] : List Part) L) :
    Leaves W L org (State.dsStop s d cause) := by
  delta State.dsStop
  repeat' first
    | with_reducible assumption
    | with_reducible apply State.setN_leaves
    | with_reducible apply State.dsDefaults_leaves
    | with_reducible apply State.dsStopped_leaves
    | (with_unfolding_none refine hW.covers ?_; repeat first | with_unfolding_none exact dyn_in | with_unfolding_none refine Covered.next ?_)
    | with_unfolding_none apply hW.sub (inAny)
    | (with_reducible refine Within.trans ?_ hL; decide +kernel)
    | (extract_lets +onlyGivenNames letX; have letT : True := (by clear_value letX; guard_hyp letX : State; trivial); clear letT; refine Leaves.cut (W := W) (L := L) (r := org) (v := letX) ?_ (fun letH => ?_); (focus subst letX); rotate_left; clear_value letX; revert letX; intro _ _)
    | with_reducible refine Leaves.ite ?_ ?_

theorem State.dsRun_leaves {W : List Span} {L : List Part} {org s : State} (d v : Nat) (h : Leaves W L org s)
    (hW : Inside (anyKey :: []) W) (hL : Within ([.collector] : List Part) L) :
    Leaves W L org (State.dsRun s d v) := by
  delta State.dsRun
  repeat' first
    | with_reducible assumption
    | with_reducible apply State.setN_leaves
    | with_reducible apply State.dsShow_leaves
    | with_reducible apply State.dsStopped_leaves
    | (with_unfolding_none refine hW.covers ?_; repeat first | with_unfolding_none exact dyn_in | with_unfolding_none refine Covered.next ?_)
    | with_unfolding_none apply hW.sub (inAny)
    | (with_reducible refine Within.trans ?_ hL; decide +kernel)
    | (extract_lets +onlyGivenNames letX; have letT : True := (by clear_value letX; guard_hyp letX : State; trivial); clear letT; refine Leaves.cut (W := W) (L := L) (r := org) (v := letX) ?_ (fun letH => ?_); (focus subst letX); rotate_left; clear_value letX; revert letX; intro _ _)
    | with_reducible refine Leaves.ite ?_ ?_

theorem State.dsTail_leaves {W : List Span} {L : List Part} {org s : State} (d v : Nat) (h : Leaves W L org s)
    (hW : Inside (each DESC_DOOMED :: one (STREAM.STREAM_STATE d) :: (each2 fun k w => (0x2A40 * 256 + 1) + 4 * k + w) :: one (inForce (STREAM.TAIL d)) :: []) W) :
    Leaves W L org (State.dsTail s d v) := by
  delta State.dsTail
  repeat' first
    | with_reducible assumption
    | with_reducible apply State.setN_leaves
    | with_reducible apply State.dsShow_leaves
    | (with_unfolding_none refine hW.covers ?_; repeat first | with_unfolding_none exact Covered.here | with_unfolding_none exact DESC_DOOMED_in | with_unfolding_none exact descWord_in | with_unfolding_none refine Covered.next ?_)
    | with_unfolding_none apply hW.sub (inSkip (inBoth inNil))
    | (extract_lets +onlyGivenNames letX; have letT : True := (by clear_value letX; guard_hyp letX : State; trivial); clear letT; refine Leaves.cut (W := W) (L := L) (r := org) (v := letX) ?_ (fun letH => ?_); (focus subst letX); rotate_left; clear_value letX; revert letX; intro _ _)
    | (extract_lets +onlyGivenNames letX; clear_value letX; revert letX; intro _)
    | with_reducible refine forEach_leaves ?_ (fun _ _ _ => ?_)

theorem State.dsTailLands_leaves {W : List Span} {L : List Part} {org s : State} (d v : Nat) (h : Leaves W L org s)
    (hW : Inside (each DESC_DOOMED :: one (STREAM.STREAM_STATE d) :: one (TAIL_DUE d) :: (each2 fun k w => (0x2A40 * 256 + 1) + 4 * k + w) :: one (inForce (STREAM.TAIL d)) :: []) W) :
    Leaves W L org (State.dsTailLands s d v) := by
  delta State.dsTailLands
  repeat' first
    | with_reducible assumption
    | with_reducible apply State.setN_leaves
    | with_reducible apply State.dsTail_leaves
    | (with_unfolding_none refine hW.covers ?_; repeat first | with_unfolding_none exact Covered.here | with_unfolding_none refine Covered.next ?_)
    | with_unfolding_none apply hW.sub (inBoth (inBoth (inSkip (inBoth (inBoth inNil)))))
    | with_reducible refine Leaves.ite ?_ ?_

theorem State.dmaClears_leaves {W : List Span} {L : List Part} {org s : State} (h : Leaves W L org s)
    (hW : Inside (anyKey :: []) W) :
    Leaves W L org (State.dmaClears s) := by
  delta State.dmaClears
  repeat' first
    | with_reducible assumption
    | with_reducible apply State.restore_leaves
    | with_reducible apply State.setBlob_leaves
    | with_reducible apply State.dsDefaults_leaves
    | (with_unfolding_none refine hW.covers ?_; repeat first | with_unfolding_none exact dyn_in | with_unfolding_none refine Covered.next ?_)
    | with_unfolding_none apply hW.sub (inAny)
    | (extract_lets +onlyGivenNames letX; have letT : True := (by clear_value letX; guard_hyp letX : State; trivial); clear letT; refine Leaves.cut (W := W) (L := L) (r := org) (v := letX) ?_ (fun letH => ?_); (focus subst letX); rotate_left; clear_value letX; revert letX; intro _ _)
    | with_reducible refine forEach_leaves ?_ (fun _ _ _ => ?_)
    | with_reducible refine forBelow_leaves ?_ (fun _ _ _ => ?_)

theorem State.dmaTake_leaves {W : List Span} {L : List Part} {org s : State} (d w0 : Nat) (h : Leaves W L org s)
    (hW : Inside (anyKey :: []) W) (hL : Within ([.out, .rings] : List Part) L) :
    Leaves W L org (State.dmaTake s d w0) := by
  delta State.dmaTake
  repeat' first
    | with_reducible assumption
    | with_reducible apply State.countAccess_leaves
    | with_reducible apply State.afterRead_leaves
    | with_unfolding_none apply hW.sub (inAny)
    | (with_reducible refine Within.trans ?_ hL; decide +kernel)
    | (extract_lets +onlyGivenNames letX; have letT : True := (by clear_value letX; guard_hyp letX : State; trivial); clear letT; refine Leaves.cut (W := W) (L := L) (r := org) (v := letX) ?_ (fun letH => ?_); (focus subst letX); rotate_left; clear_value letX; revert letX; intro _ _)
    | (extract_lets +onlyGivenNames letX; clear_value letX; revert letX; intro _)
    | with_reducible refine Leaves.ite ?_ ?_
    | with_reducible refine forEach_leaves ?_ (fun _ _ _ => ?_)
    | split
    | with_reducible refine Leaves.ofPair (by assumption) ?_

theorem State.descriptorStart_leaves {W : List Span} {L : List Part} {org s : State} (d : Nat) (h : Leaves W L org s)
    (hW : Inside (anyKey :: []) W) (hL : Within ([.out, .rings] : List Part) L) :
    Leaves W L org (State.descriptorStart s d) := by
  delta State.descriptorStart
  repeat' first
    | with_reducible assumption
    | with_reducible apply State.setN_leaves
    | with_reducible apply State.setBlob_leaves
    | with_reducible apply State.dmaTake_leaves
    | with_reducible apply State.dsShow_leaves
    | (with_unfolding_none refine hW.covers ?_; repeat first | with_unfolding_none exact dyn_in | with_unfolding_none refine Covered.next ?_)
    | with_unfolding_none apply hW.sub (inAny)
    | (with_reducible refine Within.trans ?_ hL; decide +kernel)
    | (extract_lets +onlyGivenNames letX; have letT : True := (by clear_value letX; guard_hyp letX : State; trivial); clear letT; refine Leaves.cut (W := W) (L := L) (r := org) (v := letX) ?_ (fun letH => ?_); (focus subst letX); rotate_left; clear_value letX; revert letX; intro _ _)
    | (extract_lets +onlyGivenNames letX; clear_value letX; revert letX; intro _)
    | with_reducible refine Leaves.ite ?_ ?_

theorem State.toHost_leaves {W : List Span} {L : List Part} {org s : State} (f addr : Nat) (b : List Byte) (h : Leaves W L org s) (hL : Within ([.out] : List Part) L) :
    Leaves W L org (State.toHost s f addr b) := by
  delta State.toHost
  repeat' first
    | with_reducible assumption
    | with_reducible refine Leaves.update ?_ ?_ ?_ ?_ ?_ ?_ ?_ ?_ ?_ ?_ ?_ ?_ ?_ ?_ ?_ ?_ ?_ ?_ ?_
    | with_reducible exact Or.inl rfl
    | with_reducible exact Or.inr (hL _ (by decide +kernel))

theorem State.toMailbox_leaves {W : List Span} {L : List Part} {org s : State} (d off : Nat) (b : List Byte) (h : Leaves W L org s)
    (hW : Inside (one (MAILBOX.DATA d) :: []) W) :
    Leaves W L org (State.toMailbox s d off b) := by
  delta State.toMailbox
  repeat' first
    | with_reducible assumption
    | with_reducible apply State.setBlob_leaves
    | (with_unfolding_none refine hW.covers ?_; repeat first | with_unfolding_none exact Covered.here | with_unfolding_none refine Covered.next ?_)
    | with_reducible refine Leaves.ite ?_ ?_

theorem State.completionRecord_leaves {W : List Span} {L : List Part} {org s : State} (d err moved : Nat) (h : Leaves W L org s) (hL : Within ([.out] : List Part) L) :
    Leaves W L org (State.completionRecord s d err moved) := by
  delta State.completionRecord
  repeat' first
    | with_reducible assumption
    | with_reducible apply State.toHost_leaves
    | (with_reducible refine Within.trans ?_ hL; decide +kernel)
    | (extract_lets +onlyGivenNames letX; clear_value letX; revert letX; intro _)
    | with_reducible refine Leaves.ite ?_ ?_
    | split
    | with_reducible refine Leaves.ofPair (by assumption) ?_

theorem State.descriptorEnds_leaves {W : List Span} {L : List Part} {org s : State} (d err moved : Nat) (h : Leaves W L org s)
    (hW : Inside (anyKey :: []) W) (hL : Within ([.collector, .out] : List Part) L) :
    Leaves W L org (State.descriptorEnds s d err moved) := by
  delta State.descriptorEnds
  repeat' first
    | with_reducible assumption
    | with_reducible apply State.setN_leaves
    | with_reducible apply State.count_leaves
    | with_reducible apply State.wrapCount_leaves
    | with_reducible apply State.setBlob_leaves
    | with_reducible apply State.completionRecord_leaves
    | with_reducible apply State.raiseStream_leaves
    | with_reducible apply State.dsStopped_leaves
    | with_reducible apply State.dsShow_leaves
    | (with_unfolding_none refine hW.covers ?_; repeat first | with_unfolding_none exact dyn_in | with_unfolding_none refine Covered.next ?_)
    | with_unfolding_none apply hW.sub (inNil)
    | with_unfolding_none apply hW.sub (inAny)
    | (with_reducible refine Within.trans ?_ hL; decide +kernel)
    | (extract_lets +onlyGivenNames letX; have letT : True := (by clear_value letX; guard_hyp letX : State; trivial); clear letT; refine Leaves.cut (W := W) (L := L) (r := org) (v := letX) ?_ (fun letH => ?_); (focus subst letX); rotate_left; clear_value letX; revert letX; intro _ _)
    | (extract_lets +onlyGivenNames letX; clear_value letX; revert letX; intro _)
    | with_reducible refine Leaves.ite ?_ ?_

theorem State.dmaPops_leaves {W : List Span} {L : List Part} {org s : State} (q n : Nat) (h : Leaves W L org s)
    (hW : Inside (one EVENT_FABRIC.RECORDS_PLACED :: each MSIX_HELD :: one (OVF_DROPS q) :: one (RING.HIGH_WATER q) :: one (RING.SEQUENCE q) :: one (RING_RR q) :: each TARGET.RAISES :: each TARGET.TARGET_STATE :: each TG_BEGAN :: each TG_COUNT :: each TG_LOW :: []) W) (hL : Within ([.out, .rings] : List Part) L) :
    Leaves W L org (State.dmaPops s q n) := by
  delta State.dmaPops
  repeat' first
    | with_reducible assumption
    | with_reducible apply State.setRing_leaves
    | with_reducible apply State.marker_leaves
    | with_reducible apply State.tgSettle_leaves
    | with_unfolding_none apply hW.sub (inNil)
    | with_unfolding_none apply hW.sub (inBoth (inBoth (inBoth (inBoth (inBoth (inBoth (inBoth (inBoth (inBoth (inBoth (inBoth inNil)))))))))))
    | with_unfolding_none apply hW.sub (inSkip (inSkip (inSkip (inSkip (inSkip (inSkip (inSkip (inBoth (inSkip (inSkip (inBoth inNil)))))))))))
    | (with_reducible refine Within.trans ?_ hL; decide +kernel)
    | (extract_lets +onlyGivenNames letX; clear_value letX; revert letX; intro _)
    | with_reducible refine Leaves.ite ?_ ?_

theorem State.descriptorComplete_leaves {W : List Span} {L : List Part} {org s : State} (d fail moved : Nat) (h : Leaves W L org s)
    (hW : Inside (anyKey :: []) W) (hL : Within ([.collector, .out, .rings] : List Part) L) :
    Leaves W L org (State.descriptorComplete s d fail moved) := by
  delta State.descriptorComplete
  repeat' first
    | with_reducible assumption
    | with_reducible apply State.dmaPops_leaves
    | with_reducible apply State.toMailbox_leaves
    | with_reducible apply State.toHost_leaves
    | with_reducible apply State.descriptorEnds_leaves
    | with_unfolding_none apply hW.sub (inAny)
    | with_unfolding_none apply hW.sub (inNil)
    | (with_reducible refine Within.trans ?_ hL; decide +kernel)
    | (extract_lets +onlyGivenNames letX; have letT : True := (by clear_value letX; guard_hyp letX : State; trivial); clear letT; refine Leaves.cut (W := W) (L := L) (r := org) (v := letX) ?_ (fun letH => ?_); (focus subst letX); rotate_left; clear_value letX; revert letX; intro _ _)
    | (extract_lets +onlyGivenNames letX; clear_value letX; revert letX; intro _)
    | with_reducible refine Leaves.ite ?_ ?_

theorem State.passStart_leaves {W : List Span} {L : List Part} {org s : State} (d : Nat) (h : Leaves W L org s)
    (hW : Inside (one (PASS_AT d) :: one (PASS_RUNS d) :: one (STREAM.HEAD d) :: one (STREAM.OVERRUNS d) :: one (STREAM.STREAM_STATE d) :: one (TAIL_DUE d) :: (each2 fun k w => (0x2A40 * 256 + 1) + 4 * k + w) :: one (inForce (STREAM.TAIL d)) :: []) W) (hL : Within ([.collector] : List Part) L) :
    Leaves W L org (State.passStart s d) := by
  delta State.passStart
  repeat' first
    | with_reducible assumption
    | with_reducible apply State.setN_leaves
    | with_reducible apply State.count_leaves
    | with_reducible apply State.raiseStream_leaves
    | with_reducible apply State.dsShow_leaves
    | (with_unfolding_none refine hW.covers ?_; repeat first | with_unfolding_none exact Covered.here | with_unfolding_none exact descWord_in | with_unfolding_none refine Covered.next ?_)
    | with_unfolding_none apply hW.sub (inNil)
    | with_unfolding_none apply hW.sub (inSkip (inSkip (inSkip (inSkip (inBoth inNil)))))
    | (with_reducible refine Within.trans ?_ hL; decide +kernel)
    | (extract_lets +onlyGivenNames letX; have letT : True := (by clear_value letX; guard_hyp letX : State; trivial); clear letT; refine Leaves.cut (W := W) (L := L) (r := org) (v := letX) ?_ (fun letH => ?_); (focus subst letX); rotate_left; clear_value letX; revert letX; intro _ _)
    | (extract_lets +onlyGivenNames letX; clear_value letX; revert letX; intro _)
    | with_reducible refine Leaves.ite ?_ ?_
    | with_reducible refine forBelow_leaves ?_ (fun _ _ _ => ?_)

theorem State.doomDescriptors_leaves {W : List Span} {L : List Part} {org s : State} (f : Nat) (lost : Bool) (h : Leaves W L org s)
    (hW : Inside (each DESC_DOOMED :: one DMA_LOST :: []) W) :
    Leaves W L org (State.doomDescriptors s f lost) := by
  delta State.doomDescriptors
  repeat' first
    | with_reducible assumption
    | with_reducible apply State.setN_leaves
    | (with_unfolding_none refine hW.covers ?_; repeat first | with_unfolding_none exact Covered.here | with_unfolding_none exact DESC_DOOMED_in | with_unfolding_none exact DMA_LOST_in | with_unfolding_none refine Covered.next ?_)
    | (extract_lets +onlyGivenNames letX; have letT : True := (by clear_value letX; guard_hyp letX : State; trivial); clear letT; refine Leaves.cut (W := W) (L := L) (r := org) (v := letX) ?_ (fun letH => ?_); (focus subst letX); rotate_left; clear_value letX; revert letX; intro _ _)
    | (extract_lets +onlyGivenNames letX; clear_value letX; revert letX; intro _)
    | with_reducible refine Leaves.ite ?_ ?_
    | with_reducible refine forEach_leaves ?_ (fun _ _ _ => ?_)
    | with_reducible refine forBelow_leaves ?_ (fun _ _ _ => ?_)

theorem execDescriptorStart_frame {W : List Span} {L : List Part} {org s : State} (d : StreamId) (h : Leaves W L org s)
    (hW : Inside (anyKey :: []) W)
    (hL : Within ([.out, .rings] : List Part) L) : RunsIn W L org (execDescriptorStart d s) := by
  delta execDescriptorStart
  repeat' first
    | with_reducible assumption
    | with_reducible refine RunsIn.next ?_
    | with_reducible apply State.descriptorStart_leaves
    | with_unfolding_none apply hW.sub (inAny)

theorem execDescriptorComplete_frame {W : List Span} {L : List Part} {org s : State} (d : StreamId) (fail moved : Nat) (h : Leaves W L org s)
    (hW : Inside (anyKey :: []) W)
    (hL : Within ([.collector, .out, .rings] : List Part) L) : RunsIn W L org (execDescriptorComplete d fail moved s) := by
  delta execDescriptorComplete
  repeat' first
    | with_reducible assumption
    | with_reducible refine RunsIn.next ?_
    | with_reducible apply State.descriptorComplete_leaves
    | with_unfolding_none apply hW.sub (inAny)

theorem execPeriodicPassStart_frame {W : List Span} {L : List Part} {org s : State} (d : StreamId) (h : Leaves W L org s)
    (hW : Inside (one (PASS_AT d.val) :: one (PASS_RUNS d.val) :: one (STREAM.HEAD d.val) :: one (STREAM.OVERRUNS d.val) :: one (STREAM.STREAM_STATE d.val) :: one (TAIL_DUE d.val) :: (each2 fun k w => (0x2A40 * 256 + 1) + 4 * k + w) :: one (inForce (STREAM.TAIL d.val)) :: []) W)
    (hL : Within ([.collector] : List Part) L) : RunsIn W L org (execPeriodicPassStart d s) := by
  delta execPeriodicPassStart
  repeat' first
    | with_reducible assumption
    | with_reducible refine RunsIn.next ?_
    | with_reducible apply State.passStart_leaves
    | with_unfolding_none apply hW.sub (inBoth (inBoth (inBoth (inBoth (inBoth (inBoth (inBoth (inBoth inNil))))))))

theorem State.canSend_leaves {W : List Span} {L : List Part} {org s : State} (p cob : Nat) (form : CanForm) (data : List Byte) (h : Leaves W L org s)
    (hW : Inside (one (CAN_PORT.TX_FRAMES p) :: []) W) (hL : Within ([.canQueue, .out] : List Part) L) :
    Leaves W L org (State.canSend s p cob form data) := by
  delta State.canSend
  repeat' first
    | with_reducible assumption
    | with_reducible apply State.wrapCount_leaves
    | with_reducible apply State.emit_leaves
    | (with_unfolding_none refine hW.covers ?_; repeat first | with_unfolding_none exact Covered.here | with_unfolding_none refine Covered.next ?_)
    | with_unfolding_none apply hW.sub (inNil)
    | (with_reducible refine Within.trans ?_ hL; decide +kernel)
    | with_reducible refine Leaves.ite ?_ ?_
    | with_reducible refine Leaves.update ?_ ?_ ?_ ?_ ?_ ?_ ?_ ?_ ?_ ?_ ?_ ?_ ?_ ?_ ?_ ?_ ?_ ?_ ?_
    | with_reducible exact Or.inl rfl
    | with_reducible exact Or.inr (hL _ (by decide +kernel))

theorem State.canJoin_leaves {W : List Span} {L : List Part} {org s : State} (p : Nat) (h : Leaves W L org s)
    (hW : Inside (one (CAN_PORT.BUS_STATE p) :: one (CAN_PORT.TX_FRAMES p) :: []) W) (hL : Within ([.canQueue, .out] : List Part) L) :
    Leaves W L org (State.canJoin s p) := by
  delta State.canJoin
  repeat' first
    | with_reducible assumption
    | with_reducible apply State.setN_leaves
    | with_reducible apply State.wrapCount_leaves
    | with_reducible apply State.emit_leaves
    | (with_unfolding_none refine hW.covers ?_; repeat first | with_unfolding_none exact Covered.here | with_unfolding_none refine Covered.next ?_)
    | with_unfolding_none apply hW.sub (inNil)
    | (with_reducible refine Within.trans ?_ hL; decide +kernel)
    | (extract_lets +onlyGivenNames letX; have letT : True := (by clear_value letX; guard_hyp letX : State; trivial); clear letT; refine Leaves.cut (W := W) (L := L) (r := org) (v := letX) ?_ (fun letH => ?_); (focus subst letX); rotate_left; clear_value letX; revert letX; intro _ _)
    | (extract_lets +onlyGivenNames letX; clear_value letX; revert letX; intro _)
    | with_reducible refine forEach_leaves ?_ (fun _ _ _ => ?_)
    | with_reducible refine Leaves.update ?_ ?_ ?_ ?_ ?_ ?_ ?_ ?_ ?_ ?_ ?_ ?_ ?_ ?_ ?_ ?_ ?_ ?_ ?_
    | with_reducible exact Or.inl rfl
    | with_reducible exact Or.inr (hL _ (by decide +kernel))

theorem State.canBusOff_leaves {W : List Span} {L : List Part} {org s : State} (p tec rec_ : Nat) (h : Leaves W L org s)
    (hW : Inside (one (CAN_MAY p) :: one (CAN_PORT.BUS_OFF_COUNT p) :: one (CAN_PORT.BUS_STATE p) :: one (CAN_PORT.REC p) :: one (CAN_PORT.TEC p) :: []) W) (hL : Within ([.canQueue, .collector] : List Part) L) :
    Leaves W L org (State.canBusOff s p tec rec_) := by
  delta State.canBusOff
  repeat' first
    | with_reducible assumption
    | with_reducible apply State.setN_leaves
    | with_reducible apply State.count_leaves
    | with_reducible apply State.raise_leaves
    | (with_unfolding_none refine hW.covers ?_; repeat first | with_unfolding_none exact Covered.here | with_unfolding_none refine Covered.next ?_)
    | with_unfolding_none apply hW.sub (inNil)
    | (with_reducible refine Within.trans ?_ hL; decide +kernel)
    | (extract_lets +onlyGivenNames letX; have letT : True := (by clear_value letX; guard_hyp letX : State; trivial); clear letT; refine Leaves.cut (W := W) (L := L) (r := org) (v := letX) ?_ (fun letH => ?_); (focus subst letX); rotate_left; clear_value letX; revert letX; intro _ _)
    | with_reducible refine Leaves.ite ?_ ?_
    | with_reducible refine Leaves.update ?_ ?_ ?_ ?_ ?_ ?_ ?_ ?_ ?_ ?_ ?_ ?_ ?_ ?_ ?_ ?_ ?_ ?_ ?_
    | with_reducible exact Or.inl rfl
    | with_reducible exact Or.inr (hL _ (by decide +kernel))

theorem State.canBack_leaves {W : List Span} {L : List Part} {org s : State} (p : Nat) (h : Leaves W L org s)
    (hW : Inside (one (CAN_MAY p) :: one (CAN_PORT.BUS_STATE p) :: one (CAN_PORT.REC p) :: one (CAN_PORT.TEC p) :: one (CAN_PORT.TX_FRAMES p) :: []) W) (hL : Within ([.canQueue, .collector, .out] : List Part) L) :
    Leaves W L org (State.canBack s p) := by
  delta State.canBack
  repeat' first
    | with_reducible assumption
    | with_reducible apply State.setN_leaves
    | with_reducible apply State.canJoin_leaves
    | with_reducible apply State.raise_leaves
    | (with_unfolding_none refine hW.covers ?_; repeat first | with_unfolding_none exact Covered.here | with_unfolding_none refine Covered.next ?_)
    | with_unfolding_none apply hW.sub (inSkip (inBoth (inSkip (inSkip (inBoth inNil)))))
    | with_unfolding_none apply hW.sub (inNil)
    | (with_reducible refine Within.trans ?_ hL; decide +kernel)
    | (extract_lets +onlyGivenNames letX; have letT : True := (by clear_value letX; guard_hyp letX : State; trivial); clear letT; refine Leaves.cut (W := W) (L := L) (r := org) (v := letX) ?_ (fun letH => ?_); (focus subst letX); rotate_left; clear_value letX; revert letX; intro _ _)

theorem State.canRecovered_leaves {W : List Span} {L : List Part} {org s : State} (p : Nat) (h : Leaves W L org s)
    (hW : Inside (one (CAN_MAY p) :: one (CAN_PORT.BUS_STATE p) :: one (CAN_PORT.REC p) :: one (CAN_PORT.TEC p) :: one (CAN_PORT.TX_FRAMES p) :: []) W) (hL : Within ([.canQueue, .collector, .out] : List Part) L) :
    Leaves W L org (State.canRecovered s p) := by
  delta State.canRecovered
  repeat' first
    | with_reducible assumption
    | with_reducible apply State.canBack_leaves
    | with_unfolding_none apply hW.sub (inBoth (inBoth (inBoth (inBoth (inBoth inNil)))))
    | (with_reducible refine Within.trans ?_ hL; decide +kernel)
    | with_reducible refine Leaves.ite ?_ ?_

theorem State.canRejoin_leaves {W : List Span} {L : List Part} {org s : State} (p : Nat) (h : Leaves W L org s)
    (hW : Inside (one (CAN_MAY p) :: one (CAN_PORT.BUS_STATE p) :: one (CAN_PORT.REC p) :: one (CAN_PORT.TEC p) :: one (CAN_PORT.TX_FRAMES p) :: []) W) (hL : Within ([.canQueue, .collector, .out] : List Part) L) :
    Leaves W L org (State.canRejoin s p) := by
  delta State.canRejoin
  repeat' first
    | with_reducible assumption
    | with_reducible apply State.canBack_leaves
    | with_reducible apply State.canJoin_leaves
    | with_unfolding_none apply hW.sub (inBoth (inBoth (inBoth (inBoth (inBoth inNil)))))
    | with_unfolding_none apply hW.sub (inSkip (inBoth (inSkip (inSkip (inBoth inNil)))))
    | (with_reducible refine Within.trans ?_ hL; decide +kernel)
    | with_reducible refine Leaves.ite ?_ ?_

theorem State.canRates_leaves {W : List Span} {L : List Part} {org s : State} (p : Nat) (rates auto : Bool) (h : Leaves W L org s)
    (hW : Inside (one (CAN_MAY p) :: one (CAN_PORT.BUS_STATE p) :: one (CAN_PORT.REC p) :: one (CAN_PORT.TEC p) :: one (CAN_PORT.TX_FRAMES p) :: []) W) (hL : Within ([.canQueue, .collector, .out] : List Part) L) :
    Leaves W L org (State.canRates s p rates auto) := by
  delta State.canRates
  repeat' first
    | with_reducible assumption
    | with_reducible apply State.setN_leaves
    | with_reducible apply State.canBack_leaves
    | (with_unfolding_none refine hW.covers ?_; repeat first | with_unfolding_none exact Covered.here | with_unfolding_none refine Covered.next ?_)
    | with_unfolding_none apply hW.sub (inBoth (inBoth (inBoth (inBoth (inBoth inNil)))))
    | (with_reducible refine Within.trans ?_ hL; decide +kernel)
    | with_reducible refine Leaves.ite ?_ ?_

theorem State.nodeSend_leaves {W : List Span} {L : List Part} {org s : State} (t code : Nat) (h : Leaves W L org s)
    (hW : Inside (each CAN_PORT.TX_FRAMES :: []) W) (hL : Within ([.canQueue, .out] : List Part) L) :
    Leaves W L org (State.nodeSend s t code) := by
  delta State.nodeSend
  repeat' first
    | with_reducible assumption
    | with_reducible apply State.canSend_leaves
    | with_unfolding_none apply hW.sub (CAN_PORT.TX_FRAMES_wide inNil)
    | (with_reducible refine Within.trans ?_ hL; decide +kernel)
    | split
    | with_reducible refine Leaves.ofPair (by assumption) ?_

theorem State.nodeBoot_leaves {W : List Span} {L : List Part} {org s : State} (t : Nat) (h : Leaves W L org s)
    (hW : Inside (each CAN_PORT.TX_FRAMES :: one (HB_AT t) :: one (NMT_STATE t) :: []) W) (hL : Within ([.canQueue, .out] : List Part) L) :
    Leaves W L org (State.nodeBoot s t) := by
  delta State.nodeBoot
  repeat' first
    | with_reducible assumption
    | with_reducible apply State.setN_leaves
    | with_reducible apply State.nodeSend_leaves
    | (with_unfolding_none refine hW.covers ?_; repeat first | with_unfolding_none exact Covered.here | with_unfolding_none refine Covered.next ?_)
    | with_unfolding_none apply hW.sub (inBoth inNil)
    | (with_reducible refine Within.trans ?_ hL; decide +kernel)
    | with_reducible refine Leaves.ite ?_ ?_

theorem State.heartbeat_leaves {W : List Span} {L : List Part} {org s : State} (t : Nat) (h : Leaves W L org s)
    (hW : Inside (each CAN_PORT.TX_FRAMES :: one (HB_AT t) :: []) W) (hL : Within ([.canQueue, .out] : List Part) L) :
    Leaves W L org (State.heartbeat s t) := by
  delta State.heartbeat
  repeat' first
    | with_reducible assumption
    | with_reducible apply State.setN_leaves
    | with_reducible apply State.nodeSend_leaves
    | (with_unfolding_none refine hW.covers ?_; repeat first | with_unfolding_none exact Covered.here | with_unfolding_none refine Covered.next ?_)
    | with_unfolding_none apply hW.sub (inBoth inNil)
    | (with_reducible refine Within.trans ?_ hL; decide +kernel)
    | (extract_lets +onlyGivenNames letX; clear_value letX; revert letX; intro _)
    | with_reducible refine Leaves.ite ?_ ?_

theorem State.usdoClose_leaves {W : List Span} {L : List Part} {org s : State} (t : Nat) (h : Leaves W L org s)
    (hW : Inside (one (USDO_AT t) :: one (USDO_DATA t) :: one (USDO_OPEN t) :: one (USDO_WRITES t) :: []) W) :
    Leaves W L org (State.usdoClose s t) := by
  delta State.usdoClose
  repeat' first
    | with_reducible assumption
    | with_reducible apply State.setN_leaves
    | with_reducible apply State.setBlob_leaves
    | (with_unfolding_none refine hW.covers ?_; repeat first | with_unfolding_none exact Covered.here | with_unfolding_none refine Covered.next ?_)

theorem State.usdoAbort_leaves {W : List Span} {L : List Part} {org s : State} (t code : Nat) (h : Leaves W L org s)
    (hW : Inside (one (USDO_AT t) :: one (USDO_DATA t) :: one (USDO_OPEN t) :: one (USDO_WRITES t) :: []) W) (hL : Within ([.resp] : List Part) L) :
    Leaves W L org (State.usdoAbort s t code) := by
  delta State.usdoAbort
  repeat' first
    | with_reducible assumption
    | with_reducible apply State.usdoClose_leaves
    | with_reducible apply State.answer_leaves
    | with_unfolding_none apply hW.sub (inBoth (inBoth (inBoth (inBoth inNil))))
    | with_unfolding_none apply hW.sub (inNil)
    | (with_reducible refine Within.trans ?_ hL; decide +kernel)
    | with_reducible refine Leaves.ite ?_ ?_

theorem State.usdoTimeout_leaves {W : List Span} {L : List Part} {org s : State} (t : Nat) (h : Leaves W L org s)
    (hW : Inside (one (USDO_AT t) :: one (USDO_DATA t) :: one (USDO_OPEN t) :: one (USDO_WRITES t) :: []) W) (hL : Within ([.resp] : List Part) L) :
    Leaves W L org (State.usdoTimeout s t) := by
  delta State.usdoTimeout
  repeat' first
    | with_reducible assumption
    | with_reducible apply State.usdoAbort_leaves
    | with_unfolding_none apply hW.sub (inBoth (inBoth (inBoth (inBoth inNil))))
    | (with_reducible refine Within.trans ?_ hL; decide +kernel)
    | with_reducible refine Leaves.ite ?_ ?_

theorem State.emcySend_leaves {W : List Span} {L : List Part} {org s : State} (t : Nat) (r : Record) (h : Leaves W L org s)
    (hW : Inside (each CAN_PORT.EMCY_DROPS :: each CAN_PORT.TX_FRAMES :: []) W) (hL : Within ([.canQueue, .out] : List Part) L) :
    Leaves W L org (State.emcySend s t r) := by
  delta State.emcySend
  repeat' first
    | with_reducible assumption
    | with_reducible apply State.count_leaves
    | with_reducible apply State.canSend_leaves
    | (with_unfolding_none refine hW.covers ?_; repeat first | with_unfolding_none exact Covered.here | with_unfolding_none exact CAN_PORT.EMCY_DROPS_in | with_unfolding_none refine Covered.next ?_)
    | with_unfolding_none apply hW.sub (inSkip (CAN_PORT.TX_FRAMES_wide inNil))
    | (with_reducible refine Within.trans ?_ hL; decide +kernel)
    | (extract_lets +onlyGivenNames letX; clear_value letX; revert letX; intro _)
    | with_reducible refine Leaves.ite ?_ ?_
    | split
    | with_reducible refine Leaves.ofPair (by assumption) ?_

theorem State.timeReceived_leaves {W : List Span} {L : List Part} {org s : State} (p m d : Nat) (h : Leaves W L org s)
    (hW : Inside (one ALARM.ALARMS_FIRED :: one ALARM.ALARM_SECONDS :: one ALARM.ALARM_STATE :: one BACK_ALARM :: one (CAN_PORT.RX_FRAMES p) :: one MONO_BASE :: one MONO_FROM :: one PARK_STAGE :: one PON_CONTROL.PON_CHANGES :: one PON_CONTROL.PON_LAST_CAUSE :: one PON_CONTROL.PON_STATE :: one POWER_STATE.PARK_ABORTS :: one POWER_STATE.STATE :: one RTC.LAST_SET_STAMP :: one RTC.RTC_FLAGS :: one RTC.SET_SOURCE :: one RTC_BASE :: one RTC_FROM :: one WAKE_CONFIG.WAKE_LATCHED :: one WAKE_PENDING :: one (inForce ALARM.ALARM_SECONDS) :: []) W) (hL : Within ([.collector] : List Part) L) :
    Leaves W L org (State.timeReceived s p m d) := by
  delta State.timeReceived
  repeat' first
    | with_reducible assumption
    | with_reducible apply State.wrapCount_leaves
    | with_reducible apply State.raise_leaves
    | with_reducible apply State.setClock_leaves
    | (with_unfolding_none refine hW.covers ?_; repeat first | with_unfolding_none exact Covered.here | with_unfolding_none refine Covered.next ?_)
    | with_unfolding_none apply hW.sub (inNil)
    | with_unfolding_none apply hW.sub (inBoth (inBoth (inBoth (inBoth (inSkip (inBoth (inBoth (inBoth (inBoth (inBoth (inBoth (inBoth (inBoth (inBoth (inBoth (inBoth (inBoth (inBoth (inBoth (inBoth (inBoth inNil)))))))))))))))))))))
    | (with_reducible refine Within.trans ?_ hL; decide +kernel)
    | (extract_lets +onlyGivenNames letX; have letT : True := (by clear_value letX; guard_hyp letX : State; trivial); clear letT; refine Leaves.cut (W := W) (L := L) (r := org) (v := letX) ?_ (fun letH => ?_); (focus subst letX); rotate_left; clear_value letX; revert letX; intro _ _)
    | with_reducible refine Leaves.ite ?_ ?_

theorem execCanBusOff_frame {W : List Span} {L : List Part} {org s : State} (p : CanPort) (tec rec_ : Nat) (h : Leaves W L org s)
    (hW : Inside (one (CAN_MAY p.val) :: one (CAN_PORT.BUS_OFF_COUNT p.val) :: one (CAN_PORT.BUS_STATE p.val) :: one (CAN_PORT.REC p.val) :: one (CAN_PORT.TEC p.val) :: []) W)
    (hL : Within ([.canQueue, .collector] : List Part) L) : RunsIn W L org (execCanBusOff p tec rec_ s) := by
  delta execCanBusOff
  repeat' first
    | with_reducible assumption
    | with_reducible refine RunsIn.next ?_
    | with_reducible apply State.canBusOff_leaves
    | with_unfolding_none apply hW.sub (inBoth (inBoth (inBoth (inBoth (inBoth inNil)))))

theorem execCanBusRecovered_frame {W : List Span} {L : List Part} {org s : State} (p : CanPort) (h : Leaves W L org s)
    (hW : Inside (one (CAN_MAY p.val) :: one (CAN_PORT.BUS_STATE p.val) :: one (CAN_PORT.REC p.val) :: one (CAN_PORT.TEC p.val) :: one (CAN_PORT.TX_FRAMES p.val) :: []) W)
    (hL : Within ([.canQueue, .collector, .out] : List Part) L) : RunsIn W L org (execCanBusRecovered p s) := by
  delta execCanBusRecovered
  repeat' first
    | with_reducible assumption
    | with_reducible refine RunsIn.next ?_
    | with_reducible apply State.canRecovered_leaves
    | with_unfolding_none apply hW.sub (inBoth (inBoth (inBoth (inBoth (inBoth inNil)))))

theorem execCanRejoin_frame {W : List Span} {L : List Part} {org s : State} (p : CanPort) (h : Leaves W L org s)
    (hW : Inside (one (CAN_MAY p.val) :: one (CAN_PORT.BUS_STATE p.val) :: one (CAN_PORT.REC p.val) :: one (CAN_PORT.TEC p.val) :: one (CAN_PORT.TX_FRAMES p.val) :: []) W)
    (hL : Within ([.canQueue, .collector, .out] : List Part) L) : RunsIn W L org (execCanRejoin p s) := by
  delta execCanRejoin
  repeat' first
    | with_reducible assumption
    | with_reducible refine RunsIn.next ?_
    | with_reducible apply State.canRejoin_leaves
    | with_unfolding_none apply hW.sub (inBoth (inBoth (inBoth (inBoth (inBoth inNil)))))

theorem execHeartbeatSend_frame {W : List Span} {L : List Part} {org s : State} (t : Tenant) (h : Leaves W L org s)
    (hW : Inside (each CAN_PORT.TX_FRAMES :: one (HB_AT t.val) :: []) W)
    (hL : Within ([.canQueue, .out] : List Part) L) : RunsIn W L org (execHeartbeatSend t s) := by
  delta execHeartbeatSend
  repeat' first
    | with_reducible assumption
    | with_reducible refine RunsIn.next ?_
    | with_reducible apply State.heartbeat_leaves
    | with_unfolding_none apply hW.sub (inBoth (inBoth inNil))

theorem execUsdoSessionTimeout_frame {W : List Span} {L : List Part} {org s : State} (t : Tenant) (h : Leaves W L org s)
    (hW : Inside (one (USDO_AT t.val) :: one (USDO_DATA t.val) :: one (USDO_OPEN t.val) :: one (USDO_WRITES t.val) :: []) W)
    (hL : Within ([.resp] : List Part) L) : RunsIn W L org (execUsdoSessionTimeout t s) := by
  delta execUsdoSessionTimeout
  repeat' first
    | with_reducible assumption
    | with_reducible refine RunsIn.next ?_
    | with_reducible apply State.usdoTimeout_leaves
    | with_unfolding_none apply hW.sub (inBoth (inBoth (inBoth (inBoth inNil))))

theorem execTimeReceived_frame {W : List Span} {L : List Part} {org s : State} (p : CanPort) (ms days : Nat) (h : Leaves W L org s)
    (hW : Inside (one ALARM.ALARMS_FIRED :: one ALARM.ALARM_SECONDS :: one ALARM.ALARM_STATE :: one BACK_ALARM :: one (CAN_PORT.RX_FRAMES p.val) :: one MONO_BASE :: one MONO_FROM :: one PARK_STAGE :: one PON_CONTROL.PON_CHANGES :: one PON_CONTROL.PON_LAST_CAUSE :: one PON_CONTROL.PON_STATE :: one POWER_STATE.PARK_ABORTS :: one POWER_STATE.STATE :: one RTC.LAST_SET_STAMP :: one RTC.RTC_FLAGS :: one RTC.SET_SOURCE :: one RTC_BASE :: one RTC_FROM :: one WAKE_CONFIG.WAKE_LATCHED :: one WAKE_PENDING :: one (inForce ALARM.ALARM_SECONDS) :: []) W)
    (hL : Within ([.collector] : List Part) L) : RunsIn W L org (execTimeReceived p ms days s) := by
  delta execTimeReceived
  repeat' first
    | with_reducible assumption
    | with_reducible refine RunsIn.next ?_
    | with_reducible apply State.timeReceived_leaves
    | with_unfolding_none apply hW.sub (inBoth (inBoth (inBoth (inBoth (inBoth (inBoth (inBoth (inBoth (inBoth (inBoth (inBoth (inBoth (inBoth (inBoth (inBoth (inBoth (inBoth (inBoth (inBoth (inBoth (inBoth inNil)))))))))))))))))))))

theorem State.foldNow_leaves {W : List Span} {L : List Part} {org s : State} (n : Nat) (hold : Bool) (h : Leaves W L org s)
    (hW : Inside (one (ADMIT_KIND n) :: one (BANK.BANK_FLAGS ((bankOf n))) :: one (CELL n) :: one (CHANNEL_CONFIG.REQUEST n) :: one (CHANNEL_PROTECTION.MODEL_FLAGS n) :: one (CHANNEL_STATUS.FLAGS n) :: one (CHANNEL_STATUS.STANDING_GATE n) :: one (CHANNEL_STATUS.STATE n) :: one (GATE n) :: one (LAMP_LOW n) :: one (LAMP_TOLD n) :: one (LATCH n) :: one (LIMIT_EPISODE n) :: one (LIMIT_LEFT n) :: one (LIMIT_SINCE n) :: one (LIMIT_SPENT n) :: one (PEND n) :: one (PUMP_START ((bankOf n))) :: one (PUMP_STOP_AT ((bankOf n))) :: one (PWM_HIGH n) :: each RESET_OUTPUT.ASSERT_COUNT :: each RESET_OUTPUT.LAST_CHANGE_STAMP :: each RESET_OUTPUT.OUTPUT :: each RSO_GOOD_SINCE :: one (RUN_SINCE n) :: one (RUN_SPENT n) :: one (START_AT n) :: one (STORED_WAIT n) :: one (TRIP_STATE n) :: one (WIN n) :: one (inForce (CHANNEL_CONFIG.REQUEST n)) :: []) W) (hL : Within ([.collector, .dieMsgs, .staged] : List Part) L) :
    Leaves W L org (State.foldNow s n hold) := by
  delta State.foldNow
  repeat' first
    | with_reducible assumption
    | with_reducible apply State.setN_leaves
    | with_reducible apply State.setRequest_leaves
    | with_reducible apply State.requestOff_leaves
    | (with_unfolding_none refine hW.covers ?_; repeat first | with_unfolding_none exact Covered.here | with_unfolding_none refine Covered.next ?_)
    | with_unfolding_none apply hW.sub (inSkip (inSkip (inSkip (inBoth (inSkip (inSkip (inSkip (inSkip (inSkip (inSkip (inSkip (inSkip (inSkip (inSkip (inSkip (inSkip (inSkip (inSkip (inSkip (inSkip (inSkip (inSkip (inSkip (inSkip (inSkip (inSkip (inSkip (inSkip (inSkip (inSkip (inBoth inNil)))))))))))))))))))))))))))))))
    | with_unfolding_none apply hW.sub (inBoth (inBoth (inBoth (inSkip (inBoth (inBoth (inBoth (inBoth (inBoth (inBoth (inBoth (inBoth (inBoth (inBoth (inBoth (inBoth (inBoth (inBoth (inBoth (inBoth (inBoth (inBoth (inBoth (inBoth (inBoth (inBoth (inBoth (inBoth (inBoth (inBoth inNil))))))))))))))))))))))))))))))
    | (with_reducible refine Within.trans ?_ hL; decide +kernel)
    | with_reducible refine Leaves.ite ?_ ?_

theorem State.foldChannel_leaves {W : List Span} {L : List Part} {org s : State} (n : Nat) (hold : Bool) (h : Leaves W L org s)
    (hW : Inside (each ADMIT_KIND :: each BANK.BANK_FLAGS :: each CASTLING_PAIR.SWAP_RESULT :: each CASTLING_PAIR.SWAP_STATE :: each CELL :: each CHANNEL_CONFIG.REQUEST :: each CHANNEL_PROTECTION.MODEL_FLAGS :: each CHANNEL_STATUS.FLAGS :: each CHANNEL_STATUS.STANDING_GATE :: each CHANNEL_STATUS.STATE :: each FOLD_WAIT :: each GATE :: each LAMP_LOW :: each LAMP_TOLD :: each LATCH :: each LIMIT_EPISODE :: each LIMIT_LEFT :: each LIMIT_SINCE :: each LIMIT_SPENT :: each PEND :: each PUMP_START :: each PUMP_STOP_AT :: each PWM_HIGH :: each RESET_OUTPUT.ASSERT_COUNT :: each RESET_OUTPUT.LAST_CHANGE_STAMP :: each RESET_OUTPUT.OUTPUT :: each RSO_GOOD_SINCE :: each RUN_SINCE :: each RUN_SPENT :: each START_AT :: each STORED_WAIT :: each SWAP_IN :: each TRIP_STATE :: each WIN :: (each fun n => inForce (CHANNEL_CONFIG.REQUEST n)) :: []) W) (hL : Within ([.collector, .dieMsgs, .staged] : List Part) L) :
    Leaves W L org (State.foldChannel s n hold) := by
  delta State.foldChannel
  repeat' first
    | with_reducible assumption
    | with_reducible apply State.setN_leaves
    | with_reducible apply State.swapInterrupt_leaves
    | with_reducible apply State.foldNow_leaves
    | (with_unfolding_none refine hW.covers ?_; repeat first | with_unfolding_none exact Covered.here | with_unfolding_none exact FOLD_WAIT_in | with_unfolding_none refine Covered.next ?_)
    | with_unfolding_none apply hW.sub (inBoth (inBoth (inBoth (inBoth (inBoth (inBoth (inBoth (inBoth (inBoth (inBoth (inBoth (inBoth (inBoth (inBoth (inBoth (inBoth (inBoth (inBoth (inBoth (inBoth (inBoth (inBoth (inBoth (inBoth (inBoth (inBoth (inBoth (inBoth (inBoth (inBoth (inBoth (inBoth (inBoth (inBoth (inBoth inNil)))))))))))))))))))))))))))))))))))
    | with_unfolding_none apply hW.sub (ADMIT_KIND_wide (inSkip (BANK.BANK_FLAGS_wide (inSkip (inSkip (inSkip (CELL_wide (inSkip (CHANNEL_CONFIG.REQUEST_wide (inSkip (CHANNEL_PROTECTION.MODEL_FLAGS_wide (inSkip (CHANNEL_STATUS.FLAGS_wide (inSkip (CHANNEL_STATUS.STANDING_GATE_wide (inSkip (CHANNEL_STATUS.STATE_wide (inSkip (inSkip (GATE_wide (inSkip (LAMP_LOW_wide (inSkip (LAMP_TOLD_wide (inSkip (LATCH_wide (inSkip (LIMIT_EPISODE_wide (inSkip (LIMIT_LEFT_wide (inSkip (LIMIT_SINCE_wide (inSkip (LIMIT_SPENT_wide (inSkip (PEND_wide (inSkip (PUMP_START_wide (inSkip (PUMP_STOP_AT_wide (inSkip (PWM_HIGH_wide (inSkip (inBoth (inBoth (inBoth (inBoth (RUN_SINCE_wide (inSkip (RUN_SPENT_wide (inSkip (START_AT_wide (inSkip (STORED_WAIT_wide (inSkip (inSkip (TRIP_STATE_wide (inSkip (WIN_wide (inSkip (inForce_CHANNEL_CONFIG.REQUEST_wide inNil)))))))))))))))))))))))))))))))))))))))))))))))))))))))))))))
    | (with_reducible refine Within.trans ?_ hL; decide +kernel)
    | (extract_lets +onlyGivenNames letX; have letT : True := (by clear_value letX; guard_hyp letX : State; trivial); clear letT; refine Leaves.cut (W := W) (L := L) (r := org) (v := letX) ?_ (fun letH => ?_); (focus subst letX); rotate_left; clear_value letX; revert letX; intro _ _)
    | with_reducible refine Leaves.ite ?_ ?_

theorem State.foldSettle_leaves {W : List Span} {L : List Part} {org s : State} (n : Nat) (h : Leaves W L org s)
    (hW : Inside (one (ADMIT_KIND n) :: one (BANK.BANK_FLAGS ((bankOf n))) :: one (CELL n) :: one (CHANNEL_CONFIG.REQUEST n) :: one (CHANNEL_PROTECTION.MODEL_FLAGS n) :: one (CHANNEL_STATUS.FLAGS n) :: one (CHANNEL_STATUS.STANDING_GATE n) :: one (CHANNEL_STATUS.STATE n) :: one (FOLD_WAIT n) :: one (GATE n) :: one (LAMP_LOW n) :: one (LAMP_TOLD n) :: one (LATCH n) :: one (LIMIT_EPISODE n) :: one (LIMIT_LEFT n) :: one (LIMIT_SINCE n) :: one (LIMIT_SPENT n) :: one (PEND n) :: one (PUMP_START ((bankOf n))) :: one (PUMP_STOP_AT ((bankOf n))) :: one (PWM_HIGH n) :: each RESET_OUTPUT.ASSERT_COUNT :: each RESET_OUTPUT.LAST_CHANGE_STAMP :: each RESET_OUTPUT.OUTPUT :: each RSO_GOOD_SINCE :: one (RUN_SINCE n) :: one (RUN_SPENT n) :: one (START_AT n) :: one (STORED_WAIT n) :: one (TRIP_STATE n) :: one (WIN n) :: one (inForce (CHANNEL_CONFIG.REQUEST n)) :: []) W) (hL : Within ([.collector, .dieMsgs, .staged] : List Part) L) :
    Leaves W L org (State.foldSettle s n) := by
  delta State.foldSettle
  repeat' first
    | with_reducible assumption
    | with_reducible apply State.setN_leaves
    | with_reducible apply State.foldNow_leaves
    | (with_unfolding_none refine hW.covers ?_; repeat first | with_unfolding_none exact Covered.here | with_unfolding_none refine Covered.next ?_)
    | with_unfolding_none apply hW.sub (inBoth (inBoth (inBoth (inBoth (inBoth (inBoth (inBoth (inBoth (inSkip (inBoth (inBoth (inBoth (inBoth (inBoth (inBoth (inBoth (inBoth (inBoth (inBoth (inBoth (inBoth (inBoth (inBoth (inBoth (inBoth (inBoth (inBoth (inBoth (inBoth (inBoth (inBoth (inBoth inNil))))))))))))))))))))))))))))))))
    | (with_reducible refine Within.trans ?_ hL; decide +kernel)
    | (extract_lets +onlyGivenNames letX; clear_value letX; revert letX; intro _)
    | with_reducible refine Leaves.ite ?_ ?_

theorem State.foldConverter_leaves {W : List Span} {L : List Part} {org s : State} (m : Nat) (hold : Bool) (h : Leaves W L org s)
    (hW : Inside (one ASSIST_STATUS.ASSIST_CURRENT :: one ASSIST_STATUS.ASSIST_RESULT :: one ASSIST_STATUS.ASSIST_STATE :: one AS_CLOSED :: one AS_END :: one AS_TIME :: one BATTERY_SWITCH.FORWARD :: one BATTERY_SWITCH.MODE_IN_EFFECT :: one BATTERY_SWITCH.OPEN_CAUSE :: one (CONVERTER.ENABLE m) :: one (CONVERTER_STATUS.CONV_FLAGS m) :: one (CONVERTER_STATUS.STATE m) :: one (CONV_LIMIT m) :: one (CONV_PHASE m) :: one (CWIN m) :: one (CWIN_AT m 0) :: each2 LANE_EDGE :: one (OVR_END 2) :: one SW_CONN_AT :: one SW_ON_AT :: one (TRUNC_LONGEST m) :: one (TRUNC_SINCE m) :: one (TRUNC_TOLD_AT m) :: one (inForce (CONVERTER.ENABLE m)) :: []) W) (hL : Within ([.collector, .dieMsgs, .shadows] : List Part) L) :
    Leaves W L org (State.foldConverter s m hold) := by
  delta State.foldConverter
  repeat' first
    | with_reducible assumption
    | with_reducible apply State.setN_leaves
    | with_reducible apply State.swNoClosed_leaves
    | with_reducible apply State.asFinish_leaves
    | with_reducible apply State.convStop_leaves
    | (with_unfolding_none refine hW.covers ?_; repeat first | with_unfolding_none exact Covered.here | with_unfolding_none refine Covered.next ?_)
    | with_unfolding_none apply hW.sub (inSkip (inSkip (inSkip (inSkip (inSkip (inSkip (inBoth (inBoth (inBoth (inSkip (inSkip (inSkip (inSkip (inSkip (inSkip (inSkip (inSkip (inSkip (inBoth (inBoth inNil))))))))))))))))))))
    | with_unfolding_none apply hW.sub (inBoth (inBoth (inBoth (inBoth (inBoth (inBoth (inSkip (inSkip (inSkip (inSkip (inSkip (inSkip (inSkip (inSkip (inSkip (inSkip (inSkip (inBoth inNil))))))))))))))))))
    | with_unfolding_none apply hW.sub (inBoth (inBoth (inBoth (inBoth (inBoth (inBoth (inSkip (inSkip (inSkip (inSkip (inBoth (inBoth (inBoth (inBoth (inBoth (inBoth (inBoth (inBoth (inSkip (inSkip (inBoth (inBoth (inBoth inNil)))))))))))))))))))))))
    | (with_reducible refine Within.trans ?_ hL; decide +kernel)
    | (extract_lets +onlyGivenNames letX; have letT : True := (by clear_value letX; guard_hyp letX : State; trivial); clear letT; refine Leaves.cut (W := W) (L := L) (r := org) (v := letX) ?_ (fun letH => ?_); (focus subst letX); rotate_left; clear_value letX; revert letX; intro _ _)
    | with_reducible refine Leaves.ite ?_ ?_

theorem State.foldAll_leaves {W : List Span} {L : List Part} {org s : State} (t : Nat) (h : Leaves W L org s)
    (hW : Inside (each ADMIT_KIND :: one ASSIST_STATUS.ASSIST_CURRENT :: one ASSIST_STATUS.ASSIST_RESULT :: one ASSIST_STATUS.ASSIST_STATE :: one AS_CLOSED :: one AS_END :: one AS_TIME :: each BANK.BANK_FLAGS :: one BATTERY_SWITCH.FORWARD :: one BATTERY_SWITCH.MODE_IN_EFFECT :: one BATTERY_SWITCH.OPEN_CAUSE :: each CASTLING_PAIR.SWAP_RESULT :: each CASTLING_PAIR.SWAP_STATE :: each CELL :: each CHANNEL_CONFIG.REQUEST :: each CHANNEL_PROTECTION.MODEL_FLAGS :: each CHANNEL_STATUS.FLAGS :: each CHANNEL_STATUS.STANDING_GATE :: each CHANNEL_STATUS.STATE :: each CONVERTER.ENABLE :: each CONVERTER_STATUS.CONV_FLAGS :: each CONVERTER_STATUS.STATE :: each CONV_LIMIT :: each CONV_PHASE :: each CWIN :: each2 CWIN_AT :: each FOLD_WAIT :: each GATE :: each LAMP_LOW :: each LAMP_TOLD :: each2 LANE_EDGE :: each LATCH :: each LIMIT_EPISODE :: each LIMIT_LEFT :: each LIMIT_SINCE :: each LIMIT_SPENT :: one (OVR_END 2) :: each PEND :: each PUMP_START :: each PUMP_STOP_AT :: each PWM_HIGH :: each RESET_OUTPUT.ASSERT_COUNT :: each RESET_OUTPUT.LAST_CHANGE_STAMP :: each RESET_OUTPUT.OUTPUT :: each RSO_GOOD_SINCE :: each RUN_SINCE :: each RUN_SPENT :: each START_AT :: each STORED_WAIT :: each SWAP_IN :: one SW_CONN_AT :: one SW_ON_AT :: each TRIP_STATE :: each TRUNC_LONGEST :: each TRUNC_SINCE :: each TRUNC_TOLD_AT :: each WIN :: (each fun n => inForce (CHANNEL_CONFIG.REQUEST n)) :: (each fun n => inForce (CONVERTER.ENABLE n)) :: []) W) (hL : Within ([.collector, .dieMsgs, .shadows, .staged] : List Part) L) :
    Leaves W L org (State.foldAll s t) := by
  delta State.foldAll
  repeat' first
    | with_reducible assumption
    | with_reducible apply State.foldChannel_leaves
    | with_reducible apply State.foldConverter_leaves
    | with_unfolding_none apply hW.sub (inBoth (inSkip (inSkip (inSkip (inSkip (inSkip (inSkip (inBoth (inSkip (inSkip (inSkip (inBoth (inBoth (inBoth (inBoth (inBoth (inBoth (inBoth (inBoth (inSkip (inSkip (inSkip (inSkip (inSkip (inSkip (inSkip (inBoth (inBoth (inBoth (inBoth (inSkip (inBoth (inBoth (inBoth (inBoth (inBoth (inSkip (inBoth (inBoth (inBoth (inBoth (inBoth (inBoth (inBoth (inBoth (inBoth (inBoth (inBoth (inBoth (inBoth (inSkip (inSkip (inBoth (inSkip (inSkip (inSkip (inBoth (inBoth inNil))))))))))))))))))))))))))))))))))))))))))))))))))))))))))
    | with_unfolding_none apply hW.sub (inSkip (inBoth (inBoth (inBoth (inBoth (inBoth (inBoth (inSkip (inBoth (inBoth (inBoth (inSkip (inSkip (inSkip (inSkip (inSkip (inSkip (inSkip (inSkip (CONVERTER.ENABLE_wide (inSkip (CONVERTER_STATUS.CONV_FLAGS_wide (inSkip (CONVERTER_STATUS.STATE_wide (inSkip (CONV_LIMIT_wide (inSkip (CONV_PHASE_wide (inSkip (CWIN_wide (inSkip (CWIN_AT_wide (inSkip (inSkip (inSkip (inSkip (inSkip (inBoth (inSkip (inSkip (inSkip (inSkip (inSkip (inBoth (inSkip (inSkip (inSkip (inSkip (inSkip (inSkip (inSkip (inSkip (inSkip (inSkip (inSkip (inSkip (inSkip (inBoth (inBoth (inSkip (TRUNC_LONGEST_wide (inSkip (TRUNC_SINCE_wide (inSkip (TRUNC_TOLD_AT_wide (inSkip (inSkip (inSkip (inForce_CONVERTER.ENABLE_wide inNil)))))))))))))))))))))))))))))))))))))))))))))))))))))))))))))))))))))
    | (with_reducible refine Within.trans ?_ hL; decide +kernel)
    | (extract_lets +onlyGivenNames letX; have letT : True := (by clear_value letX; guard_hyp letX : State; trivial); clear letT; refine Leaves.cut (W := W) (L := L) (r := org) (v := letX) ?_ (fun letH => ?_); (focus subst letX); rotate_left; clear_value letX; revert letX; intro _ _)
    | with_reducible refine Leaves.ite ?_ ?_
    | with_reducible refine forEach_leaves ?_ (fun _ _ _ => ?_)
    | with_reducible refine forBelow_leaves ?_ (fun _ _ _ => ?_)

theorem State.foldHand_leaves {W : List Span} {L : List Part} {org s : State} (t cause : Nat) (h : Leaves W L org s)
    (hW : Inside (each ADMIT_KIND :: one ASSIST_STATUS.ASSIST_CURRENT :: one ASSIST_STATUS.ASSIST_RESULT :: one ASSIST_STATUS.ASSIST_STATE :: one AS_CLOSED :: one AS_END :: one AS_TIME :: each BANK.BANK_FLAGS :: one BATTERY_SWITCH.FORWARD :: one BATTERY_SWITCH.MODE_IN_EFFECT :: one BATTERY_SWITCH.OPEN_CAUSE :: each CASTLING_PAIR.SWAP_RESULT :: each CASTLING_PAIR.SWAP_STATE :: each CELL :: each CHANNEL_CONFIG.REQUEST :: each CHANNEL_PROTECTION.MODEL_FLAGS :: each CHANNEL_STATUS.FLAGS :: each CHANNEL_STATUS.STANDING_GATE :: each CHANNEL_STATUS.STATE :: each CONVERTER.ENABLE :: each CONVERTER_STATUS.CONV_FLAGS :: each CONVERTER_STATUS.STATE :: each CONV_LIMIT :: each CONV_PHASE :: each CWIN :: each2 CWIN_AT :: each FOLD_WAIT :: each GATE :: each LAMP_LOW :: each LAMP_TOLD :: each2 LANE_EDGE :: each LATCH :: each LIMIT_EPISODE :: each LIMIT_LEFT :: each LIMIT_SINCE :: each LIMIT_SPENT :: one (OVR_END 2) :: each PEND :: each PUMP_START :: each PUMP_STOP_AT :: each PWM_HIGH :: each RESET_OUTPUT.ASSERT_COUNT :: each RESET_OUTPUT.LAST_CHANGE_STAMP :: each RESET_OUTPUT.OUTPUT :: each RSO_GOOD_SINCE :: each RUN_SINCE :: each RUN_SPENT :: each START_AT :: each STORED_WAIT :: each SWAP_IN :: one SW_CONN_AT :: one SW_ON_AT :: one (TENANT.FOLD_COUNT t) :: one (TENANT.LAST_FOLD_CAUSE t) :: each TRIP_STATE :: each TRUNC_LONGEST :: each TRUNC_SINCE :: each TRUNC_TOLD_AT :: each WIN :: (each fun n => inForce (CHANNEL_CONFIG.REQUEST n)) :: (each fun n => inForce (CONVERTER.ENABLE n)) :: []) W) (hL : Within ([.collector, .dieMsgs, .shadows, .staged] : List Part) L) :
    Leaves W L org (State.foldHand s t cause) := by
  delta State.foldHand
  repeat' first
    | with_reducible assumption
    | with_reducible apply State.setN_leaves
    | with_reducible apply State.count_leaves
    | with_reducible apply State.foldAll_leaves
    | with_reducible apply State.raiseServer_leaves
    | (with_unfolding_none refine hW.covers ?_; repeat first | with_unfolding_none exact Covered.here | with_unfolding_none refine Covered.next ?_)
    | with_unfolding_none apply hW.sub (inBoth (inBoth (inBoth (inBoth (inBoth (inBoth (inBoth (inBoth (inBoth (inBoth (inBoth (inBoth (inBoth (inBoth (inBoth (inBoth (inBoth (inBoth (inBoth (inBoth (inBoth (inBoth (inBoth (inBoth (inBoth (inBoth (inBoth (inBoth (inBoth (inBoth (inBoth (inBoth (inBoth (inBoth (inBoth (inBoth (inBoth (inBoth (inBoth (inBoth (inBoth (inBoth (inBoth (inBoth (inBoth (inBoth (inBoth (inBoth (inBoth (inBoth (inBoth (inBoth (inSkip (inSkip (inBoth (inBoth (inBoth (inBoth (inBoth (inBoth (inBoth inNil)))))))))))))))))))))))))))))))))))))))))))))))))))))))))))))
    | with_unfolding_none apply hW.sub (inNil)
    | (with_reducible refine Within.trans ?_ hL; decide +kernel)
    | (extract_lets +onlyGivenNames letX; have letT : True := (by clear_value letX; guard_hyp letX : State; trivial); clear letT; refine Leaves.cut (W := W) (L := L) (r := org) (v := letX) ?_ (fun letH => ?_); (focus subst letX); rotate_left; clear_value letX; revert letX; intro _ _)
    | (extract_lets +onlyGivenNames letX; clear_value letX; revert letX; intro _)

theorem State.scheduleFold_leaves {W : List Span} {L : List Part} {org s : State} (t cause : Nat) (h : Leaves W L org s) (hL : Within ([.landing, .shadows] : List Part) L) :
    Leaves W L org (State.scheduleFold s t cause) := by
  delta State.scheduleFold
  repeat' first
    | with_reducible assumption
    | with_reducible apply State.land_leaves
    | with_reducible apply State.openShadow_leaves
    | (with_reducible refine Within.trans ?_ hL; decide +kernel)
    | with_reducible refine Leaves.ite ?_ ?_

theorem State.tenantResetAccept_leaves {W : List Span} {L : List Part} {org s : State} (t source : Nat) (h : Leaves W L org s)
    (hW : Inside (one (USDO_AT t) :: one (USDO_DATA t) :: one (USDO_OPEN t) :: one (USDO_WRITES t) :: []) W) (hL : Within ([.barriers, .heldWrites, .landing, .resp, .shadows] : List Part) L) :
    Leaves W L org (State.tenantResetAccept s t source) := by
  delta State.tenantResetAccept
  repeat' first
    | with_reducible assumption
    | with_reducible apply State.barrierDrop_leaves
    | with_reducible apply State.usdoAbort_leaves
    | with_reducible apply State.land_leaves
    | with_reducible apply State.openShadow_leaves
    | with_unfolding_none apply hW.sub (inNil)
    | with_unfolding_none apply hW.sub (inBoth (inBoth (inBoth (inBoth inNil))))
    | (with_reducible refine Within.trans ?_ hL; decide +kernel)
    | (extract_lets +onlyGivenNames letX; have letT : True := (by clear_value letX; guard_hyp letX : State; trivial); clear letT; refine Leaves.cut (W := W) (L := L) (r := org) (v := letX) ?_ (fun letH => ?_); (focus subst letX); rotate_left; clear_value letX; revert letX; intro _ _)
    | (extract_lets +onlyGivenNames letX; clear_value letX; revert letX; intro _)
    | with_reducible refine Leaves.ite ?_ ?_

theorem State.trumpLands_leaves {W : List Span} {L : List Part} {org s : State} (n sub v : Nat) (h : Leaves W L org s)
    (hW : Inside (each2 TENANT.TRUMP_HELD :: []) W) (hL : Within ([.collector] : List Part) L) :
    Leaves W L org (State.trumpLands s n sub v) := by
  delta State.trumpLands
  repeat' first
    | with_reducible assumption
    | with_reducible apply State.setBit_leaves
    | with_reducible apply State.raise_leaves
    | (with_unfolding_none refine hW.covers ?_; repeat first | with_unfolding_none exact Covered.here | with_unfolding_none exact TENANT.TRUMP_HELD_in | with_unfolding_none refine Covered.next ?_)
    | with_unfolding_none apply hW.sub (inNil)
    | (with_reducible refine Within.trans ?_ hL; decide +kernel)
    | (extract_lets +onlyGivenNames letX; clear_value letX; revert letX; intro _)
    | with_reducible refine Leaves.ite ?_ ?_

theorem State.trumpReleased_leaves {W : List Span} {L : List Part} {org s : State} (n : Nat) (h : Leaves W L org s)
    (hW : Inside (each2 TENANT.TRUMP_HELD :: []) W) :
    Leaves W L org (State.trumpReleased s n) := by
  delta State.trumpReleased
  repeat' first
    | with_reducible assumption
    | with_reducible apply State.setBit_leaves
    | (with_unfolding_none refine hW.covers ?_; repeat first | with_unfolding_none exact Covered.here | with_unfolding_none exact TENANT.TRUMP_HELD_in | with_unfolding_none refine Covered.next ?_)
    | (extract_lets +onlyGivenNames letX; clear_value letX; revert letX; intro _)

theorem State.channelsMove_leaves {W : List Span} {L : List Part} {org s : State} (old : State) (h : Leaves W L org s)
    (hW : Inside (each2 TENANT.TRUMP_HELD :: []) W) :
    Leaves W L org (State.channelsMove old s) := by
  delta State.channelsMove
  repeat' first
    | with_reducible assumption
    | with_reducible apply State.setBit_leaves
    | (with_unfolding_none refine hW.covers ?_; repeat first | with_unfolding_none exact Covered.here | with_unfolding_none exact TENANT.TRUMP_HELD_in | with_unfolding_none refine Covered.next ?_)
    | (extract_lets +onlyGivenNames letX; clear_value letX; revert letX; intro _)
    | with_reducible refine Leaves.ite ?_ ?_
    | with_reducible refine forBelow_leaves ?_ (fun _ _ _ => ?_)

theorem State.ringsMove_leaves {W : List Span} {L : List Part} {org s : State} (old : State) (h : Leaves W L org s)
    (hW : Inside (each OVF_DROPS :: each RING.CAPACITY :: each RING.DROPS :: each RING.FILTER_ON :: each RING.KIND_MASK :: each RING.KIND_MATCH :: each RING.MIN_CLASS :: each RING.SEQUENCE :: each RING.SITE_MASK :: each RING.SITE_MATCH :: each RING.TARGETS :: each RING.TYPES :: each RING_FENCE :: each TARGET.TARGET_STATE :: each TG_LOW :: []) W) (hL : Within ([.rings] : List Part) L) :
    Leaves W L org (State.ringsMove old s) := by
  delta State.ringsMove
  repeat' first
    | with_reducible assumption
    | with_reducible apply State.ringMoves_leaves
    | with_unfolding_none apply hW.sub (OVF_DROPS_wide (inSkip (RING.CAPACITY_wide (inSkip (RING.DROPS_wide (inSkip (RING.FILTER_ON_wide (inSkip (RING.KIND_MASK_wide (inSkip (RING.KIND_MATCH_wide (inSkip (RING.MIN_CLASS_wide (inSkip (RING.SEQUENCE_wide (inSkip (RING.SITE_MASK_wide (inSkip (RING.SITE_MATCH_wide (inSkip (RING.TARGETS_wide (inSkip (RING.TYPES_wide (inSkip (RING_FENCE_wide (inSkip (inBoth (inBoth inNil))))))))))))))))))))))))))))
    | (with_reducible refine Within.trans ?_ hL; decide +kernel)
    | with_reducible refine Leaves.ite ?_ ?_
    | with_reducible refine forEach_leaves ?_ (fun _ _ _ => ?_)

theorem State.dealApplies_leaves {W : List Span} {L : List Part} {org s : State} (old : State) (h : Leaves W L org s)
    (hW : Inside (one ASSIST_STATUS.ASSIST_CURRENT :: one ASSIST_STATUS.ASSIST_RESULT :: one ASSIST_STATUS.ASSIST_STATE :: one AS_CLOSED :: one AS_END :: one AS_TIME :: each CAN_PORT.TX_FRAMES :: each HB_AT :: each MSIX_HELD :: each NMT_STATE :: each OVF_DROPS :: one (OVR_END 2) :: each RING.CAPACITY :: each RING.DROPS :: each RING.FILTER_ON :: each RING.KIND_MASK :: each RING.KIND_MATCH :: each RING.MIN_CLASS :: each RING.SEQUENCE :: each RING.SITE_MASK :: each RING.SITE_MATCH :: each RING.TARGETS :: each RING.TYPES :: each RING_FENCE :: each TARGET.RAISES :: each TARGET.TARGET_STATE :: each2 TENANT.TRUMP_HELD :: each TG_LOW :: []) W) (hL : Within ([.canQueue, .collector, .out, .rings] : List Part) L) :
    Leaves W L org (State.dealApplies old s) := by
  delta State.dealApplies
  repeat' first
    | with_reducible assumption
    | with_reducible apply State.setN_leaves
    | with_reducible apply State.ringsMove_leaves
    | with_reducible apply State.channelsMove_leaves
    | with_reducible apply State.asFinish_leaves
    | with_reducible apply State.tgHoldChange_leaves
    | with_reducible apply State.nodeBoot_leaves
    | with_reducible apply State.raiseServer_leaves
    | (with_unfolding_none refine hW.covers ?_; repeat first | with_unfolding_none exact Covered.here | with_unfolding_none exact NMT_STATE_in | with_unfolding_none refine Covered.next ?_)
    | with_unfolding_none apply hW.sub (inSkip (inSkip (inSkip (inSkip (inSkip (inSkip (inSkip (inSkip (inSkip (inSkip (inBoth (inSkip (inBoth (inBoth (inBoth (inBoth (inBoth (inBoth (inBoth (inBoth (inBoth (inBoth (inBoth (inBoth (inSkip (inBoth (inSkip (inBoth inNil))))))))))))))))))))))))))))
    | with_unfolding_none apply hW.sub (inSkip (inSkip (inSkip (inSkip (inSkip (inSkip (inSkip (inSkip (inSkip (inSkip (inSkip (inSkip (inSkip (inSkip (inSkip (inSkip (inSkip (inSkip (inSkip (inSkip (inSkip (inSkip (inSkip (inSkip (inSkip (inSkip (inBoth inNil)))))))))))))))))))))))))))
    | with_unfolding_none apply hW.sub (inBoth (inBoth (inBoth (inBoth (inBoth (inBoth (inSkip (inSkip (inSkip (inSkip (inSkip (inBoth inNil))))))))))))
    | with_unfolding_none apply hW.sub (inSkip (inSkip (inSkip (inSkip (inSkip (inSkip (inSkip (inSkip (inBoth (inSkip (inSkip (inSkip (inSkip (inSkip (inSkip (inSkip (inSkip (inSkip (inSkip (inSkip (inSkip (inSkip (inSkip (inSkip (inBoth (inBoth (inSkip (inBoth inNil))))))))))))))))))))))))))))
    | with_unfolding_none apply hW.sub (inSkip (inSkip (inSkip (inSkip (inSkip (inSkip (inBoth (HB_AT_wide (inSkip (inSkip (NMT_STATE_wide inNil)))))))))))
    | with_unfolding_none apply hW.sub (inNil)
    | (with_reducible refine Within.trans ?_ hL; decide +kernel)
    | (extract_lets +onlyGivenNames letX; have letT : True := (by clear_value letX; guard_hyp letX : State; trivial); clear letT; refine Leaves.cut (W := W) (L := L) (r := org) (v := letX) ?_ (fun letH => ?_); (focus subst letX); rotate_left; clear_value letX; revert letX; intro _ _)
    | with_reducible refine Leaves.ite ?_ ?_
    | with_reducible refine forEach_leaves ?_ (fun _ _ _ => ?_)

theorem State.twAdopt_leaves {W : List Span} {L : List Part} {org s : State} (h : Leaves W L org s)
    (hW : Inside (one (inForce TWO_WIRE_BUS.DATA_HOLD) :: one (inForce TWO_WIRE_BUS.DATA_SETUP) :: one (inForce TWO_WIRE_BUS.ROLE) :: one (inForce TWO_WIRE_BUS.SCL_HIGH) :: one (inForce TWO_WIRE_BUS.SCL_LOW) :: one (inForce TWO_WIRE_BUS.SPEED_MODE) :: []) W) :
    Leaves W L org (State.twAdopt s) := by
  delta State.twAdopt
  repeat' first
    | with_reducible assumption
    | with_reducible apply State.set_leaves
    | (with_unfolding_none refine hW.covers ?_; repeat first | with_unfolding_none exact Covered.here | with_unfolding_none exact inForce_TWO_WIRE_BUS.DATA_HOLD_in | with_unfolding_none exact inForce_TWO_WIRE_BUS.DATA_SETUP_in | with_unfolding_none exact inForce_TWO_WIRE_BUS.ROLE_in | with_unfolding_none exact inForce_TWO_WIRE_BUS.SCL_HIGH_in | with_unfolding_none exact inForce_TWO_WIRE_BUS.SCL_LOW_in | with_unfolding_none exact inForce_TWO_WIRE_BUS.SPEED_MODE_in | with_unfolding_none refine Covered.next ?_)
    | (extract_lets +onlyGivenNames letX; have letT : True := (by clear_value letX; guard_hyp letX : State; trivial); clear letT; refine Leaves.cut (W := W) (L := L) (r := org) (v := letX) ?_ (fun letH => ?_); (focus subst letX); rotate_left; clear_value letX; revert letX; intro _ _)
    | with_reducible refine Leaves.ite ?_ ?_

theorem State.twAttention_leaves {W : List Span} {L : List Part} {org s : State} (byte : Nat) (h : Leaves W L org s)
    (hW : Inside (one TWO_WIRE_STATUS.LAST_ATTENTION :: []) W) (hL : Within ([.collector] : List Part) L) :
    Leaves W L org (State.twAttention s byte) := by
  delta State.twAttention
  repeat' first
    | with_reducible assumption
    | with_reducible apply State.setN_leaves
    | with_reducible apply State.raise_leaves
    | (with_unfolding_none refine hW.covers ?_; repeat first | with_unfolding_none exact Covered.here | with_unfolding_none exact TWO_WIRE_STATUS.LAST_ATTENTION_in | with_unfolding_none refine Covered.next ?_)
    | with_unfolding_none apply hW.sub (inNil)
    | (with_reducible refine Within.trans ?_ hL; decide +kernel)

theorem State.twAttentions_leaves {W : List Span} {L : List Part} {org s : State} (h : Leaves W L org s)
    (hW : Inside (one TWO_WIRE_STATUS.LAST_ATTENTION :: one TW_ATTENTION :: []) W) (hL : Within ([.collector, .out] : List Part) L) :
    Leaves W L org (State.twAttentions s) := by
  delta State.twAttentions
  repeat' first
    | with_reducible assumption
    | with_reducible apply State.setBlob_leaves
    | with_reducible apply State.emit_leaves
    | with_reducible apply State.twAttention_leaves
    | (with_unfolding_none refine hW.covers ?_; repeat first | with_unfolding_none exact Covered.here | with_unfolding_none exact TW_ATTENTION_in | with_unfolding_none refine Covered.next ?_)
    | with_unfolding_none apply hW.sub (inNil)
    | with_unfolding_none apply hW.sub (inBoth inNil)
    | (with_reducible refine Within.trans ?_ hL; decide +kernel)
    | (extract_lets +onlyGivenNames letX; clear_value letX; revert letX; intro _)
    | with_reducible refine forEach_leaves ?_ (fun _ _ _ => ?_)

theorem State.twRuns_leaves {W : List Span} {L : List Part} {org s : State} (h : Leaves W L org s)
    (hW : Inside (one TWO_WIRE_STATUS.BUS_STATE :: []) W) (hL : Within ([.out] : List Part) L) :
    Leaves W L org (State.twRuns s) := by
  delta State.twRuns
  repeat' first
    | with_reducible assumption
    | with_reducible apply State.setN_leaves
    | with_reducible apply State.emit_leaves
    | (with_unfolding_none refine hW.covers ?_; repeat first | with_unfolding_none exact Covered.here | with_unfolding_none exact TWO_WIRE_STATUS.BUS_STATE_in | with_unfolding_none refine Covered.next ?_)
    | with_unfolding_none apply hW.sub (inNil)
    | (with_reducible refine Within.trans ?_ hL; decide +kernel)

theorem State.twStart_leaves {W : List Span} {L : List Part} {org s : State} (h : Leaves W L org s)
    (hW : Inside (one CONTROLLER_TRANSFER.TRANSFER_RESULT :: one TWO_WIRE_STATUS.BUS_STATE :: one TW_ADDR :: one TW_DATA :: one TW_LEFT :: one TW_READ :: []) W) (hL : Within ([.out] : List Part) L) :
    Leaves W L org (State.twStart s) := by
  delta State.twStart
  repeat' first
    | with_reducible assumption
    | with_reducible apply State.setN_leaves
    | with_reducible apply State.setBlob_leaves
    | with_reducible apply State.twRuns_leaves
    | (with_unfolding_none refine hW.covers ?_; repeat first | with_unfolding_none exact Covered.here | with_unfolding_none exact CONTROLLER_TRANSFER.TRANSFER_RESULT_in | with_unfolding_none exact TW_ADDR_in | with_unfolding_none exact TW_DATA_in | with_unfolding_none exact TW_LEFT_in | with_unfolding_none exact TW_READ_in | with_unfolding_none refine Covered.next ?_)
    | with_unfolding_none apply hW.sub (inSkip (inBoth inNil))
    | (with_reducible refine Within.trans ?_ hL; decide +kernel)
    | (extract_lets +onlyGivenNames letX; have letT : True := (by clear_value letX; guard_hyp letX : State; trivial); clear letT; refine Leaves.cut (W := W) (L := L) (r := org) (v := letX) ?_ (fun letH => ?_); (focus subst letX); rotate_left; clear_value letX; revert letX; intro _ _)
    | with_reducible refine Leaves.ite ?_ ?_

theorem State.twEnds_leaves {W : List Span} {L : List Part} {org s : State} (result written : Nat) (read : List Byte) (h : Leaves W L org s)
    (hW : Inside (one CONTROLLER_TRANSFER.NACK_INDEX :: one CONTROLLER_TRANSFER.READ_DATA :: one CONTROLLER_TRANSFER.TRANSFER_RESULT :: one TWO_WIRE_STATUS.BUS_STATE :: one TWO_WIRE_STATUS.LAST_ATTENTION :: one TW_ATTENTION :: one TW_FREE_FROM :: one (inForce TWO_WIRE_BUS.DATA_HOLD) :: one (inForce TWO_WIRE_BUS.DATA_SETUP) :: one (inForce TWO_WIRE_BUS.ROLE) :: one (inForce TWO_WIRE_BUS.SCL_HIGH) :: one (inForce TWO_WIRE_BUS.SCL_LOW) :: one (inForce TWO_WIRE_BUS.SPEED_MODE) :: []) W) (hL : Within ([.collector, .out] : List Part) L) :
    Leaves W L org (State.twEnds s result written read) := by
  delta State.twEnds
  repeat' first
    | with_reducible assumption
    | with_reducible apply State.setN_leaves
    | with_reducible apply State.setBlob_leaves
    | with_reducible apply State.raise_leaves
    | with_reducible apply State.twAttentions_leaves
    | with_reducible apply State.twAdopt_leaves
    | (with_unfolding_none refine hW.covers ?_; repeat first | with_unfolding_none exact Covered.here | with_unfolding_none exact CONTROLLER_TRANSFER.NACK_INDEX_in | with_unfolding_none exact CONTROLLER_TRANSFER.READ_DATA_in | with_unfolding_none exact CONTROLLER_TRANSFER.TRANSFER_RESULT_in | with_unfolding_none exact TWO_WIRE_STATUS.BUS_STATE_in | with_unfolding_none exact TW_FREE_FROM_in | with_unfolding_none refine Covered.next ?_)
    | with_unfolding_none apply hW.sub (inNil)
    | with_unfolding_none apply hW.sub (inSkip (inSkip (inSkip (inSkip (inBoth (inBoth inNil))))))
    | with_unfolding_none apply hW.sub (inSkip (inSkip (inSkip (inSkip (inSkip (inSkip (inSkip (inBoth (inBoth (inBoth (inBoth (inBoth (inBoth inNil)))))))))))))
    | (with_reducible refine Within.trans ?_ hL; decide +kernel)
    | (extract_lets +onlyGivenNames letX; have letT : True := (by clear_value letX; guard_hyp letX : State; trivial); clear letT; refine Leaves.cut (W := W) (L := L) (r := org) (v := letX) ?_ (fun letH => ?_); (focus subst letX); rotate_left; clear_value letX; revert letX; intro _ _)
    | with_reducible refine Leaves.ite ?_ ?_

theorem State.twDone_leaves {W : List Span} {L : List Part} {org s : State} (result written : Nat) (read : List Byte) (h : Leaves W L org s)
    (hW : Inside (one CONTROLLER_TRANSFER.NACK_INDEX :: one CONTROLLER_TRANSFER.READ_DATA :: one CONTROLLER_TRANSFER.TRANSFER_RESULT :: one TWO_WIRE_STATUS.BUS_STATE :: one TWO_WIRE_STATUS.LAST_ATTENTION :: one TW_ATTENTION :: one TW_FREE_FROM :: one (inForce TWO_WIRE_BUS.DATA_HOLD) :: one (inForce TWO_WIRE_BUS.DATA_SETUP) :: one (inForce TWO_WIRE_BUS.ROLE) :: one (inForce TWO_WIRE_BUS.SCL_HIGH) :: one (inForce TWO_WIRE_BUS.SCL_LOW) :: one (inForce TWO_WIRE_BUS.SPEED_MODE) :: []) W) (hL : Within ([.collector, .out] : List Part) L) :
    Leaves W L org (State.twDone s result written read) := by
  delta State.twDone
  repeat' first
    | with_reducible assumption
    | with_reducible apply State.twEnds_leaves
    | with_unfolding_none apply hW.sub (inBoth (inBoth (inBoth (inBoth (inBoth (inBoth (inBoth (inBoth (inBoth (inBoth (inBoth (inBoth (inBoth inNil)))))))))))))
    | (with_reducible refine Within.trans ?_ hL; decide +kernel)
    | (extract_lets +onlyGivenNames letX; clear_value letX; revert letX; intro _)
    | with_reducible refine Leaves.ite ?_ ?_

theorem State.twLost_leaves {W : List Span} {L : List Part} {org s : State} (sent : Option Nat) (written : Nat) (h : Leaves W L org s)
    (hW : Inside (one CONTROLLER_TRANSFER.NACK_INDEX :: one CONTROLLER_TRANSFER.READ_DATA :: one CONTROLLER_TRANSFER.TRANSFER_RESULT :: one TWO_WIRE_STATUS.ARB_LOSSES :: one TWO_WIRE_STATUS.BUS_STATE :: one TWO_WIRE_STATUS.LAST_ATTENTION :: one TW_ATTENTION :: one TW_FREE_FROM :: one TW_LEFT :: one (inForce TWO_WIRE_BUS.DATA_HOLD) :: one (inForce TWO_WIRE_BUS.DATA_SETUP) :: one (inForce TWO_WIRE_BUS.ROLE) :: one (inForce TWO_WIRE_BUS.SCL_HIGH) :: one (inForce TWO_WIRE_BUS.SCL_LOW) :: one (inForce TWO_WIRE_BUS.SPEED_MODE) :: []) W) (hL : Within ([.collector, .out] : List Part) L) :
    Leaves W L org (State.twLost s sent written) := by
  delta State.twLost
  repeat' first
    | with_reducible assumption
    | with_reducible apply State.setN_leaves
    | with_reducible apply State.count_leaves
    | with_reducible apply State.raise_leaves
    | with_reducible apply State.twEnds_leaves
    | with_reducible apply State.twRuns_leaves
    | (with_unfolding_none refine hW.covers ?_; repeat first | with_unfolding_none exact Covered.here | with_unfolding_none exact TWO_WIRE_STATUS.ARB_LOSSES_in | with_unfolding_none exact TWO_WIRE_STATUS.BUS_STATE_in | with_unfolding_none exact TW_LEFT_in | with_unfolding_none refine Covered.next ?_)
    | with_unfolding_none apply hW.sub (inNil)
    | with_unfolding_none apply hW.sub (inBoth (inBoth (inBoth (inSkip (inBoth (inBoth (inBoth (inBoth (inSkip (inBoth (inBoth (inBoth (inBoth (inBoth (inBoth inNil)))))))))))))))
    | with_unfolding_none apply hW.sub (inSkip (inSkip (inSkip (inSkip (inBoth inNil)))))
    | (with_reducible refine Within.trans ?_ hL; decide +kernel)
    | (extract_lets +onlyGivenNames letX; have letT : True := (by clear_value letX; guard_hyp letX : State; trivial); clear letT; refine Leaves.cut (W := W) (L := L) (r := org) (v := letX) ?_ (fun letH => ?_); (focus subst letX); rotate_left; clear_value letX; revert letX; intro _ _)
    | (extract_lets +onlyGivenNames letX; clear_value letX; revert letX; intro _)
    | with_reducible refine Leaves.ite ?_ ?_
    | split
    | with_reducible refine Leaves.ofPair (by assumption) ?_

theorem State.twClockLow_leaves {W : List Span} {L : List Part} {org s : State} (target written : Nat) (h : Leaves W L org s)
    (hW : Inside (one CONTROLLER_TRANSFER.NACK_INDEX :: one CONTROLLER_TRANSFER.READ_DATA :: one CONTROLLER_TRANSFER.TRANSFER_RESULT :: one (FRAME_RESP target) :: one TWO_WIRE_STATUS.BUS_FLAGS :: one TWO_WIRE_STATUS.BUS_STATE :: one TWO_WIRE_STATUS.CLOCK_LOW_EVENTS :: one TWO_WIRE_STATUS.LAST_ATTENTION :: one TW_ATTENTION :: one TW_FREE_FROM :: one (inForce TWO_WIRE_BUS.DATA_HOLD) :: one (inForce TWO_WIRE_BUS.DATA_SETUP) :: one (inForce TWO_WIRE_BUS.ROLE) :: one (inForce TWO_WIRE_BUS.SCL_HIGH) :: one (inForce TWO_WIRE_BUS.SCL_LOW) :: one (inForce TWO_WIRE_BUS.SPEED_MODE) :: []) W) (hL : Within ([.collector, .out] : List Part) L) :
    Leaves W L org (State.twClockLow s target written) := by
  delta State.twClockLow
  repeat' first
    | with_reducible assumption
    | with_reducible apply State.setN_leaves
    | with_reducible apply State.setBit_leaves
    | with_reducible apply State.count_leaves
    | with_reducible apply State.setBlob_leaves
    | with_reducible apply State.twEnds_leaves
    | with_reducible apply State.raise_leaves
    | (with_unfolding_none refine hW.covers ?_; repeat first | with_unfolding_none exact Covered.here | with_unfolding_none exact TWO_WIRE_STATUS.BUS_FLAGS_in | with_unfolding_none exact TWO_WIRE_STATUS.BUS_STATE_in | with_unfolding_none exact TWO_WIRE_STATUS.CLOCK_LOW_EVENTS_in | with_unfolding_none refine Covered.next ?_)
    | with_unfolding_none apply hW.sub (inBoth (inBoth (inBoth (inSkip (inSkip (inBoth (inSkip (inBoth (inBoth (inBoth (inBoth (inBoth (inBoth (inBoth (inBoth (inBoth inNil))))))))))))))))
    | with_unfolding_none apply hW.sub (inNil)
    | (with_reducible refine Within.trans ?_ hL; decide +kernel)
    | (extract_lets +onlyGivenNames letX; have letT : True := (by clear_value letX; guard_hyp letX : State; trivial); clear letT; refine Leaves.cut (W := W) (L := L) (r := org) (v := letX) ?_ (fun letH => ?_); (focus subst letX); rotate_left; clear_value letX; revert letX; intro _ _)
    | (extract_lets +onlyGivenNames letX; clear_value letX; revert letX; intro _)
    | with_reducible refine Leaves.ite ?_ ?_

theorem State.twClockHigh_leaves {W : List Span} {L : List Part} {org s : State} (h : Leaves W L org s)
    (hW : Inside (one TWO_WIRE_STATUS.BUS_FLAGS :: one TWO_WIRE_STATUS.BUS_STATE :: one TW_FREE_FROM :: []) W) :
    Leaves W L org (State.twClockHigh s) := by
  delta State.twClockHigh
  repeat' first
    | with_reducible assumption
    | with_reducible apply State.setN_leaves
    | with_reducible apply State.setBit_leaves
    | (with_unfolding_none refine hW.covers ?_; repeat first | with_unfolding_none exact Covered.here | with_unfolding_none exact TWO_WIRE_STATUS.BUS_FLAGS_in | with_unfolding_none exact TWO_WIRE_STATUS.BUS_STATE_in | with_unfolding_none exact TW_FREE_FROM_in | with_unfolding_none refine Covered.next ?_)
    | with_reducible refine Leaves.ite ?_ ?_

theorem State.twInband_leaves {W : List Span} {L : List Part} {org s : State} (byte : Nat) (h : Leaves W L org s)
    (hW : Inside (one TWO_WIRE_STATUS.LAST_ATTENTION :: one TWO_WIRE_STATUS.REQUESTS :: one TW_ATTENTION :: []) W) (hL : Within ([.collector, .free, .out] : List Part) L) :
    Leaves W L org (State.twInband s byte) := by
  delta State.twInband
  repeat' first
    | with_reducible assumption
    | with_reducible apply State.count_leaves
    | with_reducible apply State.setBlob_leaves
    | with_reducible apply State.takeFree_leaves
    | with_reducible apply State.raise_leaves
    | with_reducible apply State.emit_leaves
    | with_reducible apply State.twAttention_leaves
    | (with_unfolding_none refine hW.covers ?_; repeat first | with_unfolding_none exact Covered.here | with_unfolding_none exact TWO_WIRE_STATUS.REQUESTS_in | with_unfolding_none exact TW_ATTENTION_in | with_unfolding_none refine Covered.next ?_)
    | with_unfolding_none apply hW.sub (inNil)
    | with_unfolding_none apply hW.sub (inBoth inNil)
    | (with_reducible refine Within.trans ?_ hL; decide +kernel)
    | with_reducible exact hL _ (by decide +kernel)
    | (extract_lets +onlyGivenNames letX; have letT : True := (by clear_value letX; guard_hyp letX : State; trivial); clear letT; refine Leaves.cut (W := W) (L := L) (r := org) (v := letX) ?_ (fun letH => ?_); (focus subst letX); rotate_left; clear_value letX; revert letX; intro _ _)
    | (extract_lets +onlyGivenNames letX; clear_value letX; revert letX; intro _)
    | with_reducible refine Leaves.ite ?_ ?_
    | split
    | with_reducible refine Leaves.ofPair (by assumption) ?_

theorem State.twDataLow_leaves {W : List Span} {L : List Part} {org s : State} (pulses written : Nat) (h : Leaves W L org s)
    (hW : Inside (one CONTROLLER_TRANSFER.NACK_INDEX :: one CONTROLLER_TRANSFER.READ_DATA :: one CONTROLLER_TRANSFER.TRANSFER_RESULT :: one TWO_WIRE_STATUS.BUS_FLAGS :: one TWO_WIRE_STATUS.BUS_STATE :: one TWO_WIRE_STATUS.DATA_LOW_EVENTS :: one TWO_WIRE_STATUS.LAST_ATTENTION :: one TW_ATTENTION :: one TW_FREE_FROM :: one (inForce TWO_WIRE_BUS.DATA_HOLD) :: one (inForce TWO_WIRE_BUS.DATA_SETUP) :: one (inForce TWO_WIRE_BUS.ROLE) :: one (inForce TWO_WIRE_BUS.SCL_HIGH) :: one (inForce TWO_WIRE_BUS.SCL_LOW) :: one (inForce TWO_WIRE_BUS.SPEED_MODE) :: []) W) (hL : Within ([.collector, .out] : List Part) L) :
    Leaves W L org (State.twDataLow s pulses written) := by
  delta State.twDataLow
  repeat' first
    | with_reducible assumption
    | with_reducible apply State.setBit_leaves
    | with_reducible apply State.count_leaves
    | with_reducible apply State.twEnds_leaves
    | with_reducible apply State.raise_leaves
    | (with_unfolding_none refine hW.covers ?_; repeat first | with_unfolding_none exact Covered.here | with_unfolding_none exact TWO_WIRE_STATUS.BUS_FLAGS_in | with_unfolding_none exact TWO_WIRE_STATUS.DATA_LOW_EVENTS_in | with_unfolding_none refine Covered.next ?_)
    | with_unfolding_none apply hW.sub (inBoth (inBoth (inBoth (inSkip (inBoth (inSkip (inBoth (inBoth (inBoth (inBoth (inBoth (inBoth (inBoth (inBoth (inBoth inNil)))))))))))))))
    | with_unfolding_none apply hW.sub (inNil)
    | (with_reducible refine Within.trans ?_ hL; decide +kernel)
    | (extract_lets +onlyGivenNames letX; have letT : True := (by clear_value letX; guard_hyp letX : State; trivial); clear letT; refine Leaves.cut (W := W) (L := L) (r := org) (v := letX) ?_ (fun letH => ?_); (focus subst letX); rotate_left; clear_value letX; revert letX; intro _ _)
    | (extract_lets +onlyGivenNames letX; clear_value letX; revert letX; intro _)
    | with_reducible refine Leaves.ite ?_ ?_

theorem State.twDataHigh_leaves {W : List Span} {L : List Part} {org s : State} (h : Leaves W L org s)
    (hW : Inside (one TWO_WIRE_STATUS.BUS_FLAGS :: []) W) :
    Leaves W L org (State.twDataHigh s) := by
  delta State.twDataHigh
  repeat' first
    | with_reducible assumption
    | with_reducible apply State.setBit_leaves
    | (with_unfolding_none refine hW.covers ?_; repeat first | with_unfolding_none exact Covered.here | with_unfolding_none exact TWO_WIRE_STATUS.BUS_FLAGS_in | with_unfolding_none refine Covered.next ?_)

theorem execTransferDone_frame {W : List Span} {L : List Part} {org s : State} (result written : Nat) (read : List Byte) (h : Leaves W L org s)
    (hW : Inside (one CONTROLLER_TRANSFER.NACK_INDEX :: one CONTROLLER_TRANSFER.READ_DATA :: one CONTROLLER_TRANSFER.TRANSFER_RESULT :: one TWO_WIRE_STATUS.BUS_STATE :: one TWO_WIRE_STATUS.LAST_ATTENTION :: one TW_ATTENTION :: one TW_FREE_FROM :: one (inForce TWO_WIRE_BUS.DATA_HOLD) :: one (inForce TWO_WIRE_BUS.DATA_SETUP) :: one (inForce TWO_WIRE_BUS.ROLE) :: one (inForce TWO_WIRE_BUS.SCL_HIGH) :: one (inForce TWO_WIRE_BUS.SCL_LOW) :: one (inForce TWO_WIRE_BUS.SPEED_MODE) :: []) W)
    (hL : Within ([.collector, .out] : List Part) L) : RunsIn W L org (execTransferDone result written read s) := by
  delta execTransferDone
  repeat' first
    | with_reducible assumption
    | with_reducible refine RunsIn.next ?_
    | with_reducible apply State.twDone_leaves
    | with_unfolding_none apply hW.sub (inBoth (inBoth (inBoth (inBoth (inBoth (inBoth (inBoth (inBoth (inBoth (inBoth (inBoth (inBoth (inBoth inNil)))))))))))))

theorem execArbitrationLost_frame {W : List Span} {L : List Part} {org s : State} (sent : Option Nat) (written : Nat) (h : Leaves W L org s)
    (hW : Inside (one CONTROLLER_TRANSFER.NACK_INDEX :: one CONTROLLER_TRANSFER.READ_DATA :: one CONTROLLER_TRANSFER.TRANSFER_RESULT :: one TWO_WIRE_STATUS.ARB_LOSSES :: one TWO_WIRE_STATUS.BUS_STATE :: one TWO_WIRE_STATUS.LAST_ATTENTION :: one TW_ATTENTION :: one TW_FREE_FROM :: one TW_LEFT :: one (inForce TWO_WIRE_BUS.DATA_HOLD) :: one (inForce TWO_WIRE_BUS.DATA_SETUP) :: one (inForce TWO_WIRE_BUS.ROLE) :: one (inForce TWO_WIRE_BUS.SCL_HIGH) :: one (inForce TWO_WIRE_BUS.SCL_LOW) :: one (inForce TWO_WIRE_BUS.SPEED_MODE) :: []) W)
    (hL : Within ([.collector, .out] : List Part) L) : RunsIn W L org (execArbitrationLost sent written s) := by
  delta execArbitrationLost
  repeat' first
    | with_reducible assumption
    | with_reducible refine RunsIn.next ?_
    | with_reducible apply State.twLost_leaves
    | with_unfolding_none apply hW.sub (inBoth (inBoth (inBoth (inBoth (inBoth (inBoth (inBoth (inBoth (inBoth (inBoth (inBoth (inBoth (inBoth (inBoth (inBoth inNil)))))))))))))))

theorem execClockLowTimeout_frame {W : List Span} {L : List Part} {org s : State} (target written : Nat) (h : Leaves W L org s)
    (hW : Inside (one CONTROLLER_TRANSFER.NACK_INDEX :: one CONTROLLER_TRANSFER.READ_DATA :: one CONTROLLER_TRANSFER.TRANSFER_RESULT :: one (FRAME_RESP target) :: one TWO_WIRE_STATUS.BUS_FLAGS :: one TWO_WIRE_STATUS.BUS_STATE :: one TWO_WIRE_STATUS.CLOCK_LOW_EVENTS :: one TWO_WIRE_STATUS.LAST_ATTENTION :: one TW_ATTENTION :: one TW_FREE_FROM :: one (inForce TWO_WIRE_BUS.DATA_HOLD) :: one (inForce TWO_WIRE_BUS.DATA_SETUP) :: one (inForce TWO_WIRE_BUS.ROLE) :: one (inForce TWO_WIRE_BUS.SCL_HIGH) :: one (inForce TWO_WIRE_BUS.SCL_LOW) :: one (inForce TWO_WIRE_BUS.SPEED_MODE) :: []) W)
    (hL : Within ([.collector, .out] : List Part) L) : RunsIn W L org (execClockLowTimeout target written s) := by
  delta execClockLowTimeout
  repeat' first
    | with_reducible assumption
    | with_reducible refine RunsIn.next ?_
    | with_reducible apply State.twClockLow_leaves
    | with_unfolding_none apply hW.sub (inBoth (inBoth (inBoth (inBoth (inBoth (inBoth (inBoth (inBoth (inBoth (inBoth (inBoth (inBoth (inBoth (inBoth (inBoth (inBoth inNil))))))))))))))))

theorem execClockLowClear_frame {W : List Span} {L : List Part} {org s : State} (h : Leaves W L org s)
    (hW : Inside (one TWO_WIRE_STATUS.BUS_FLAGS :: one TWO_WIRE_STATUS.BUS_STATE :: one TW_FREE_FROM :: []) W)
    : RunsIn W L org (execClockLowClear s) := by
  delta execClockLowClear
  repeat' first
    | with_reducible assumption
    | with_reducible refine RunsIn.next ?_
    | with_reducible apply State.twClockHigh_leaves
    | with_unfolding_none apply hW.sub (inBoth (inBoth (inBoth inNil)))

theorem execInbandRequest_frame {W : List Span} {L : List Part} {org s : State} (byte : Nat) (h : Leaves W L org s)
    (hW : Inside (one TWO_WIRE_STATUS.LAST_ATTENTION :: one TWO_WIRE_STATUS.REQUESTS :: one TW_ATTENTION :: []) W)
    (hL : Within ([.collector, .free, .out] : List Part) L) : RunsIn W L org (execInbandRequest byte s) := by
  delta execInbandRequest
  repeat' first
    | with_reducible assumption
    | with_reducible refine RunsIn.next ?_
    | with_reducible apply State.twInband_leaves
    | with_unfolding_none apply hW.sub (inBoth (inBoth (inBoth inNil)))

theorem execDataLowTimeout_frame {W : List Span} {L : List Part} {org s : State} (pulses written : Nat) (h : Leaves W L org s)
    (hW : Inside (one CONTROLLER_TRANSFER.NACK_INDEX :: one CONTROLLER_TRANSFER.READ_DATA :: one CONTROLLER_TRANSFER.TRANSFER_RESULT :: one TWO_WIRE_STATUS.BUS_FLAGS :: one TWO_WIRE_STATUS.BUS_STATE :: one TWO_WIRE_STATUS.DATA_LOW_EVENTS :: one TWO_WIRE_STATUS.LAST_ATTENTION :: one TW_ATTENTION :: one TW_FREE_FROM :: one (inForce TWO_WIRE_BUS.DATA_HOLD) :: one (inForce TWO_WIRE_BUS.DATA_SETUP) :: one (inForce TWO_WIRE_BUS.ROLE) :: one (inForce TWO_WIRE_BUS.SCL_HIGH) :: one (inForce TWO_WIRE_BUS.SCL_LOW) :: one (inForce TWO_WIRE_BUS.SPEED_MODE) :: []) W)
    (hL : Within ([.collector, .out] : List Part) L) : RunsIn W L org (execDataLowTimeout pulses written s) := by
  delta execDataLowTimeout
  repeat' first
    | with_reducible assumption
    | with_reducible refine RunsIn.next ?_
    | with_reducible apply State.twDataLow_leaves
    | with_unfolding_none apply hW.sub (inBoth (inBoth (inBoth (inBoth (inBoth (inBoth (inBoth (inBoth (inBoth (inBoth (inBoth (inBoth (inBoth (inBoth (inBoth inNil)))))))))))))))

theorem execDataLowClear_frame {W : List Span} {L : List Part} {org s : State} (h : Leaves W L org s)
    (hW : Inside (one TWO_WIRE_STATUS.BUS_FLAGS :: []) W)
    : RunsIn W L org (execDataLowClear s) := by
  delta execDataLowClear
  repeat' first
    | with_reducible assumption
    | with_reducible refine RunsIn.next ?_
    | with_reducible apply State.twDataHigh_leaves
    | with_unfolding_none apply hW.sub (inBoth inNil)

theorem State.hkSetValue_leaves {W : List Span} {L : List Part} {org s : State} (e : Nat) (v : Int) (h : Leaves W L org s)
    (hW : Inside (one (HK_ENTRY.VALUE e) :: []) W) (hL : Within ([.free] : List Part) L) :
    Leaves W L org (State.hkSetValue s e v) := by
  delta State.hkSetValue
  repeat' first
    | with_reducible assumption
    | with_reducible apply State.set_leaves
    | with_reducible apply State.setFree_leaves
    | (with_unfolding_none refine hW.covers ?_; repeat first | with_unfolding_none exact Covered.here | with_unfolding_none refine Covered.next ?_)
    | with_reducible exact hL _ (by decide +kernel)
    | with_reducible refine Leaves.ite ?_ ?_

theorem State.hkGoesStale_leaves {W : List Span} {L : List Part} {org s : State} (e cause : Nat) (h : Leaves W L org s)
    (hW : Inside (one (HK_ENTRY.ENTRY_STATUS e) :: []) W) (hL : Within ([.collector] : List Part) L) :
    Leaves W L org (State.hkGoesStale s e cause) := by
  delta State.hkGoesStale
  repeat' first
    | with_reducible assumption
    | with_reducible apply State.setBit_leaves
    | with_reducible apply State.raise_leaves
    | (with_unfolding_none refine hW.covers ?_; repeat first | with_unfolding_none exact Covered.here | with_unfolding_none refine Covered.next ?_)
    | with_unfolding_none apply hW.sub (inNil)
    | (with_reducible refine Within.trans ?_ hL; decide +kernel)
    | with_reducible refine Leaves.ite ?_ ?_

theorem State.hkAges_leaves {W : List Span} {L : List Part} {org s : State} (e : Nat) (h : Leaves W L org s)
    (hW : Inside (one (HK_ENTRY.ENTRY_STATUS e) :: []) W) (hL : Within ([.collector] : List Part) L) :
    Leaves W L org (State.hkAges s e) := by
  delta State.hkAges
  repeat' first
    | with_reducible assumption
    | with_reducible apply State.hkGoesStale_leaves
    | with_unfolding_none apply hW.sub (inBoth inNil)
    | (with_reducible refine Within.trans ?_ hL; decide +kernel)
    | (extract_lets +onlyGivenNames letX; clear_value letX; revert letX; intro _)
    | with_reducible refine Leaves.ite ?_ ?_

theorem State.hkShow_leaves {W : List Span} {L : List Part} {org s : State} (q : Nat) (h : Leaves W L org s)
    (hW : Inside (one (HK_SEQUENCE.SEQ_STATE q) :: []) W) :
    Leaves W L org (State.hkShow s q) := by
  delta State.hkShow
  repeat' first
    | with_reducible assumption
    | with_reducible apply State.setN_leaves
    | (with_unfolding_none refine hW.covers ?_; repeat first | with_unfolding_none exact Covered.here | with_unfolding_none refine Covered.next ?_)
    | with_reducible refine Leaves.ite ?_ ?_

theorem State.hkDelay_leaves {W : List Span} {L : List Part} {org s : State} (q : Nat) (h : Leaves W L org s)
    (hW : Inside (one (HK_DELAY q) :: []) W) :
    Leaves W L org (State.hkDelay s q) := by
  delta State.hkDelay
  repeat' first
    | with_reducible assumption
    | with_reducible apply State.setN_leaves
    | (with_unfolding_none refine hW.covers ?_; repeat first | with_unfolding_none exact Covered.here | with_unfolding_none refine Covered.next ?_)

theorem State.hkBoundary_leaves {W : List Span} {L : List Part} {org s : State} (q : Nat) (h : Leaves W L org s)
    (hW : Inside (one (HK_DELAY q) :: one (HK_PRE q) :: one (HK_SEQUENCE.SEQ_STATE q) :: []) W) :
    Leaves W L org (State.hkBoundary s q) := by
  delta State.hkBoundary
  repeat' first
    | with_reducible assumption
    | with_reducible apply State.setN_leaves
    | with_reducible apply State.hkShow_leaves
    | with_reducible apply State.hkDelay_leaves
    | (with_unfolding_none refine hW.covers ?_; repeat first | with_unfolding_none exact Covered.here | with_unfolding_none refine Covered.next ?_)
    | with_unfolding_none apply hW.sub (inSkip (inSkip (inBoth inNil)))
    | with_unfolding_none apply hW.sub (inBoth inNil)
    | with_reducible refine Leaves.ite ?_ ?_

theorem State.hkArbitrate_leaves {W : List Span} {L : List Part} {org s : State} (h : Leaves W L org s)
    (hW : Inside (each HK_DELAY :: each HK_PRE :: each HK_SEQUENCE.SEQ_STATE :: []) W) :
    Leaves W L org (State.hkArbitrate s) := by
  delta State.hkArbitrate
  repeat' first
    | with_reducible assumption
    | with_reducible apply State.hkBoundary_leaves
    | with_reducible apply State.hkShow_leaves
    | with_unfolding_none apply hW.sub (HK_DELAY_wide (inSkip (HK_PRE_wide (inSkip (HK_SEQUENCE.SEQ_STATE_wide inNil)))))
    | with_unfolding_none apply hW.sub (inSkip (inSkip (HK_SEQUENCE.SEQ_STATE_wide inNil)))
    | with_reducible refine Leaves.ite ?_ ?_
    | with_reducible refine forBelow_leaves ?_ (fun _ _ _ => ?_)

theorem State.hkBegin_leaves {W : List Span} {L : List Part} {org s : State} (q : Nat) (h : Leaves W L org s)
    (hW : Inside (one (HK_AT q) :: each HK_DELAY :: each HK_DONE :: each HK_PRE :: one (HK_RUN q) :: each HK_SEQUENCE.SEQ_STATE :: each HK_SUM :: []) W) :
    Leaves W L org (State.hkBegin s q) := by
  delta State.hkBegin
  repeat' first
    | with_reducible assumption
    | with_reducible apply State.setN_leaves
    | with_reducible apply State.hkArbitrate_leaves
    | (with_unfolding_none refine hW.covers ?_; repeat first | with_unfolding_none exact Covered.here | with_unfolding_none exact HK_DONE_in | with_unfolding_none exact HK_PRE_in | with_unfolding_none exact HK_SUM_in | with_unfolding_none refine Covered.next ?_)
    | with_unfolding_none apply hW.sub (inSkip (inBoth (inSkip (inBoth (inSkip (inBoth inNil))))))
    | (extract_lets +onlyGivenNames letX; have letT : True := (by clear_value letX; guard_hyp letX : State; trivial); clear letT; refine Leaves.cut (W := W) (L := L) (r := org) (v := letX) ?_ (fun letH => ?_); (focus subst letX); rotate_left; clear_value letX; revert letX; intro _ _)
    | (extract_lets +onlyGivenNames letX; clear_value letX; revert letX; intro _)

theorem State.hkTrigger_leaves {W : List Span} {L : List Part} {org s : State} (q : Nat) (h : Leaves W L org s)
    (hW : Inside (one (HK_AT q) :: each HK_DELAY :: each HK_DONE :: one (HK_DROPS q) :: one (HK_LATCH q) :: each HK_PRE :: one (HK_RUN q) :: one (HK_SEQUENCE.OVERRUN_COUNT q) :: each HK_SEQUENCE.SEQ_STATE :: each HK_SUM :: []) W) :
    Leaves W L org (State.hkTrigger s q) := by
  delta State.hkTrigger
  repeat' first
    | with_reducible assumption
    | with_reducible apply State.setN_leaves
    | with_reducible apply State.count_leaves
    | with_reducible apply State.hkBegin_leaves
    | with_reducible apply State.hkShow_leaves
    | (with_unfolding_none refine hW.covers ?_; repeat first | with_unfolding_none exact Covered.here | with_unfolding_none refine Covered.next ?_)
    | with_unfolding_none apply hW.sub (inBoth (inBoth (inBoth (inSkip (inSkip (inBoth (inBoth (inSkip (inBoth (inBoth inNil))))))))))
    | with_unfolding_none apply hW.sub (inSkip (inSkip (inSkip (inSkip (inSkip (inSkip (inSkip (inSkip (HK_SEQUENCE.SEQ_STATE_wide inNil)))))))))
    | with_reducible refine Leaves.ite ?_ ?_

theorem State.hkWritten_leaves {W : List Span} {L : List Part} {org s : State} (q : Nat) (h : Leaves W L org s)
    (hW : Inside (one (HK_AT q) :: each HK_DELAY :: each HK_DONE :: one (HK_DROPS q) :: one (HK_LATCH q) :: each HK_PRE :: one (HK_RUN q) :: one (HK_SEQUENCE.OVERRUN_COUNT q) :: each HK_SEQUENCE.SEQ_STATE :: each HK_SUM :: []) W) :
    Leaves W L org (State.hkWritten s q) := by
  delta State.hkWritten
  repeat' first
    | with_reducible assumption
    | with_reducible apply State.hkTrigger_leaves
    | with_unfolding_none apply hW.sub (inBoth (inBoth (inBoth (inBoth (inBoth (inBoth (inBoth (inBoth (inBoth (inBoth inNil))))))))))
    | with_reducible refine Leaves.ite ?_ ?_

theorem State.hkPeriod_leaves {W : List Span} {L : List Part} {org s : State} (q : Nat) (h : Leaves W L org s)
    (hW : Inside (one (HK_AT q) :: each HK_DELAY :: each HK_DONE :: one (HK_DROPS q) :: one (HK_LATCH q) :: each HK_PRE :: one (HK_RUN q) :: one (HK_SEQUENCE.OVERRUN_COUNT q) :: each HK_SEQUENCE.SEQ_STATE :: each HK_SUM :: one (HK_TRIG q) :: []) W) :
    Leaves W L org (State.hkPeriod s q) := by
  delta State.hkPeriod
  repeat' first
    | with_reducible assumption
    | with_reducible apply State.setN_leaves
    | with_reducible apply State.hkTrigger_leaves
    | (with_unfolding_none refine hW.covers ?_; repeat first | with_unfolding_none exact Covered.here | with_unfolding_none refine Covered.next ?_)
    | with_unfolding_none apply hW.sub (inBoth (inBoth (inBoth (inBoth (inBoth (inBoth (inBoth (inBoth (inBoth (inBoth inNil))))))))))
    | with_reducible refine Leaves.ite ?_ ?_

theorem State.hkRunEnd_leaves {W : List Span} {L : List Part} {org s : State} (q : Nat) (h : Leaves W L org s)
    (hW : Inside (each HK_AT :: each HK_DELAY :: each HK_DONE :: each HK_DROPS :: each HK_LATCH :: each HK_PRE :: each HK_RUN :: each HK_SEQUENCE.OVERRUN_COUNT :: one (HK_SEQUENCE.RUNS q) :: each HK_SEQUENCE.SEQ_STATE :: each HK_SUM :: []) W) (hL : Within ([.collector] : List Part) L) :
    Leaves W L org (State.hkRunEnd s q) := by
  delta State.hkRunEnd
  repeat' first
    | with_reducible assumption
    | with_reducible apply State.setN_leaves
    | with_reducible apply State.wrapCount_leaves
    | with_reducible apply State.hkBegin_leaves
    | with_reducible apply State.raise_leaves
    | with_reducible apply State.hkArbitrate_leaves
    | with_reducible apply State.hkTrigger_leaves
    | (with_unfolding_none refine hW.covers ?_; repeat first | with_unfolding_none exact Covered.here | with_unfolding_none exact HK_DROPS_in | with_unfolding_none exact HK_LATCH_in | with_unfolding_none exact HK_RUN_in | with_unfolding_none refine Covered.next ?_)
    | with_unfolding_none apply hW.sub (HK_AT_wide (inSkip (inBoth (inBoth (inSkip (inSkip (inBoth (HK_RUN_wide (inSkip (inSkip (inSkip (inBoth (inBoth inNil)))))))))))))
    | with_unfolding_none apply hW.sub (inNil)
    | with_unfolding_none apply hW.sub (inSkip (inBoth (inSkip (inSkip (inSkip (inBoth (inSkip (inSkip (inSkip (inBoth inNil))))))))))
    | with_unfolding_none apply hW.sub (HK_AT_wide (inSkip (inBoth (inBoth (HK_DROPS_wide (inSkip (HK_LATCH_wide (inSkip (inBoth (HK_RUN_wide (inSkip (HK_SEQUENCE.OVERRUN_COUNT_wide (inSkip (inSkip (inBoth (inBoth inNil))))))))))))))))
    | (with_reducible refine Within.trans ?_ hL; decide +kernel)
    | (extract_lets +onlyGivenNames letX; have letT : True := (by clear_value letX; guard_hyp letX : State; trivial); clear letT; refine Leaves.cut (W := W) (L := L) (r := org) (v := letX) ?_ (fun letH => ?_); (focus subst letX); rotate_left; clear_value letX; revert letX; intro _ _)
    | (extract_lets +onlyGivenNames letX; clear_value letX; revert letX; intro _)
    | with_reducible refine Leaves.ite ?_ ?_
    | with_reducible refine forBelow_leaves ?_ (fun _ _ _ => ?_)

theorem State.hkConversion_leaves {W : List Span} {L : List Part} {org s : State} (q code : Nat) (h : Leaves W L org s)
    (hW : Inside (one HK_ADC.CONVERSIONS :: one (HK_DELAY q) :: each HK_DONE :: each HK_LAST :: one (HK_PRE q) :: one (HK_SEQUENCE.SEQ_STATE q) :: each HK_SUM :: []) W) :
    Leaves W L org (State.hkConversion s q code) := by
  delta State.hkConversion
  repeat' first
    | with_reducible assumption
    | with_reducible apply State.set_leaves
    | with_reducible apply State.setN_leaves
    | with_reducible apply State.wrapCount_leaves
    | with_reducible apply State.hkBoundary_leaves
    | (with_unfolding_none refine hW.covers ?_; repeat first | with_unfolding_none exact Covered.here | with_unfolding_none exact HK_ADC.CONVERSIONS_in | with_unfolding_none exact HK_DONE_in | with_unfolding_none exact HK_LAST_in | with_unfolding_none exact HK_SUM_in | with_unfolding_none refine Covered.next ?_)
    | with_unfolding_none apply hW.sub (inSkip (inBoth (inSkip (inSkip (inBoth (inBoth inNil))))))
    | (extract_lets +onlyGivenNames letX; have letT : True := (by clear_value letX; guard_hyp letX : State; trivial); clear letT; refine Leaves.cut (W := W) (L := L) (r := org) (v := letX) ?_ (fun letH => ?_); (focus subst letX); rotate_left; clear_value letX; revert letX; intro _ _)
    | (extract_lets +onlyGivenNames letX; clear_value letX; revert letX; intro _)
    | with_reducible refine Leaves.ite ?_ ?_

theorem State.hkInjected_leaves {W : List Span} {L : List Part} {org s : State} (e : Nat) (x : Int) (h : Leaves W L org s)
    (hW : Inside (one (HK_ENTRY.ENTRY_STATUS e) :: one (HK_OK e) :: []) W) (hL : Within ([.collector] : List Part) L) :
    Leaves W L org (State.hkInjected s e x) := by
  delta State.hkInjected
  repeat' first
    | with_reducible assumption
    | with_reducible apply State.setN_leaves
    | with_reducible apply State.setBit_leaves
    | with_reducible apply State.raise_leaves
    | with_reducible apply State.hkGoesStale_leaves
    | (with_unfolding_none refine hW.covers ?_; repeat first | with_unfolding_none exact Covered.here | with_unfolding_none refine Covered.next ?_)
    | with_unfolding_none apply hW.sub (inNil)
    | with_unfolding_none apply hW.sub (inBoth inNil)
    | (with_reducible refine Within.trans ?_ hL; decide +kernel)
    | (extract_lets +onlyGivenNames letX; have letT : True := (by clear_value letX; guard_hyp letX : State; trivial); clear letT; refine Leaves.cut (W := W) (L := L) (r := org) (v := letX) ?_ (fun letH => ?_); (focus subst letX); rotate_left; clear_value letX; revert letX; intro _ _)
    | (extract_lets +onlyGivenNames letX; have letT : True := (by clear_value letX; revert letX; with_reducible exact Keeps.isPair); clear letT; refine Leaves.cut (W := W) (L := L) (r := org) (v := letX.2) ?_ (fun letH => ?_); (focus subst letX); rotate_left; clear_value letX; revert letX; intro _ _)
    | (extract_lets +onlyGivenNames letX; clear_value letX; revert letX; intro _)
    | with_reducible refine Leaves.ite ?_ ?_

theorem State.hkClean_leaves {W : List Span} {L : List Part} {org s : State} (e : Nat) (sum : Int) (rep : Nat) (h : Leaves W L org s)
    (hW : Inside (one (HK_ENTRY.ENTRY_STATUS e) :: one (HK_ENTRY.RAW e) :: one (HK_ENTRY.RESULT_STAMP e) :: one (HK_ENTRY.VALUE e) :: one REC_T_MAX :: one REC_T_MIN :: []) W) (hL : Within ([.collector, .free] : List Part) L) :
    Leaves W L org (State.hkClean s e sum rep) := by
  delta State.hkClean
  repeat' first
    | with_reducible assumption
    | with_reducible apply State.setN_leaves
    | with_reducible apply State.setBit_leaves
    | with_reducible apply State.hkSetValue_leaves
    | with_reducible apply State.battTempExtremes_leaves
    | with_reducible apply State.raise_leaves
    | (with_unfolding_none refine hW.covers ?_; repeat first | with_unfolding_none exact Covered.here | with_unfolding_none refine Covered.next ?_)
    | with_unfolding_none apply hW.sub (inSkip (inSkip (inSkip (inBoth inNil))))
    | with_unfolding_none apply hW.sub (inSkip (inSkip (inSkip (inSkip (inBoth (inBoth inNil))))))
    | with_unfolding_none apply hW.sub (inNil)
    | (with_reducible refine Within.trans ?_ hL; decide +kernel)
    | (extract_lets +onlyGivenNames letX; have letT : True := (by clear_value letX; guard_hyp letX : State; trivial); clear letT; refine Leaves.cut (W := W) (L := L) (r := org) (v := letX) ?_ (fun letH => ?_); (focus subst letX); rotate_left; clear_value letX; revert letX; intro _ _)
    | (extract_lets +onlyGivenNames letX; have letT : True := (by clear_value letX; revert letX; with_reducible exact Keeps.isPair); clear letT; refine Leaves.cut (W := W) (L := L) (r := org) (v := letX.2) ?_ (fun letH => ?_); (focus subst letX); rotate_left; clear_value letX; revert letX; intro _ _)
    | (extract_lets +onlyGivenNames letX; clear_value letX; revert letX; intro _)
    | with_reducible refine Leaves.ite ?_ ?_

theorem State.hkPassEnd_leaves {W : List Span} {L : List Part} {org s : State} (q : Nat) (h : Leaves W L org s)
    (hW : Inside (one (HK_AT q) :: each HK_DELAY :: each HK_DONE :: each HK_ENTRY.ENTRY_STATUS :: each HK_ENTRY.RAW :: each HK_ENTRY.RESULT_STAMP :: each HK_ENTRY.VALUE :: each HK_INJECT :: each HK_OK :: each HK_PASS_AT :: each HK_PRE :: each HK_SEQUENCE.SEQ_STATE :: each HK_SUM :: one REC_T_MAX :: one REC_T_MIN :: []) W) (hL : Within ([.collector, .free] : List Part) L) :
    Leaves W L org (State.hkPassEnd s q) := by
  delta State.hkPassEnd
  repeat' first
    | with_reducible assumption
    | with_reducible apply State.setN_leaves
    | with_reducible apply State.hkInjected_leaves
    | with_reducible apply State.hkClean_leaves
    | with_reducible apply State.hkArbitrate_leaves
    | (with_unfolding_none refine hW.covers ?_; repeat first | with_unfolding_none exact Covered.here | with_unfolding_none exact HK_DONE_in | with_unfolding_none exact HK_INJECT_in | with_unfolding_none exact HK_PASS_AT_in | with_unfolding_none exact HK_PRE_in | with_unfolding_none exact HK_SUM_in | with_unfolding_none refine Covered.next ?_)
    | with_unfolding_none apply hW.sub (inSkip (inSkip (inSkip (HK_ENTRY.ENTRY_STATUS_wide (inSkip (inSkip (inSkip (inSkip (inSkip (HK_OK_wide inNil))))))))))
    | with_unfolding_none apply hW.sub (inSkip (inSkip (inSkip (HK_ENTRY.ENTRY_STATUS_wide (inSkip (HK_ENTRY.RAW_wide (inSkip (HK_ENTRY.RESULT_STAMP_wide (inSkip (HK_ENTRY.VALUE_wide (inSkip (inSkip (inSkip (inSkip (inSkip (inSkip (inSkip (inBoth (inBoth inNil)))))))))))))))))))
    | with_unfolding_none apply hW.sub (inSkip (inBoth (inSkip (inSkip (inSkip (inSkip (inSkip (inSkip (inSkip (inSkip (inBoth (inBoth inNil))))))))))))
    | (with_reducible refine Within.trans ?_ hL; decide +kernel)
    | (extract_lets +onlyGivenNames letX; have letT : True := (by clear_value letX; guard_hyp letX : State; trivial); clear letT; refine Leaves.cut (W := W) (L := L) (r := org) (v := letX) ?_ (fun letH => ?_); (focus subst letX); rotate_left; clear_value letX; revert letX; intro _ _)
    | (extract_lets +onlyGivenNames letX; clear_value letX; revert letX; intro _)
    | with_reducible refine Leaves.ite ?_ ?_

theorem State.hkRestart_leaves {W : List Span} {L : List Part} {org s : State} (q : Nat) (h : Leaves W L org s)
    (hW : Inside (one (HK_AT q) :: each HK_DELAY :: each HK_DONE :: one (HK_DROPS q) :: one (HK_LATCH q) :: each HK_PRE :: one (HK_RUN q) :: each HK_SEQUENCE.SEQ_STATE :: each HK_SUM :: []) W) :
    Leaves W L org (State.hkRestart s q) := by
  delta State.hkRestart
  repeat' first
    | with_reducible assumption
    | with_reducible apply State.setN_leaves
    | with_reducible apply State.hkBegin_leaves
    | with_reducible apply State.hkShow_leaves
    | with_reducible apply State.hkArbitrate_leaves
    | (with_unfolding_none refine hW.covers ?_; repeat first | with_unfolding_none exact Covered.here | with_unfolding_none exact HK_PRE_in | with_unfolding_none refine Covered.next ?_)
    | with_unfolding_none apply hW.sub (inBoth (inBoth (inBoth (inSkip (inSkip (inBoth (inBoth (inBoth (inBoth inNil)))))))))
    | with_unfolding_none apply hW.sub (inSkip (inSkip (inSkip (inSkip (inSkip (inSkip (inSkip (HK_SEQUENCE.SEQ_STATE_wide inNil))))))))
    | with_unfolding_none apply hW.sub (inSkip (inBoth (inSkip (inSkip (inSkip (inBoth (inSkip (inBoth inNil))))))))
    | (extract_lets +onlyGivenNames letX; have letT : True := (by clear_value letX; guard_hyp letX : State; trivial); clear letT; refine Leaves.cut (W := W) (L := L) (r := org) (v := letX) ?_ (fun letH => ?_); (focus subst letX); rotate_left; clear_value letX; revert letX; intro _ _)
    | with_reducible refine Leaves.ite ?_ ?_

theorem State.hkStarts_leaves {W : List Span} {L : List Part} {org s : State} (h : Leaves W L org s)
    (hW : Inside (each HK_AT :: each HK_DELAY :: each HK_DONE :: each HK_DROPS :: each HK_LATCH :: each HK_PRE :: each HK_RUN :: each HK_SEQUENCE.SEQ_STATE :: each HK_SUM :: []) W) (hL : Within ([.collector] : List Part) L) :
    Leaves W L org (State.hkStarts s) := by
  delta State.hkStarts
  repeat' first
    | with_reducible assumption
    | with_reducible apply State.raise_leaves
    | with_reducible apply State.hkRestart_leaves
    | with_unfolding_none apply hW.sub (inNil)
    | with_unfolding_none apply hW.sub (HK_AT_wide (inSkip (inBoth (inBoth (HK_DROPS_wide (inSkip (HK_LATCH_wide (inSkip (inBoth (HK_RUN_wide (inSkip (inBoth (inBoth inNil)))))))))))))
    | (with_reducible refine Within.trans ?_ hL; decide +kernel)
    | (extract_lets +onlyGivenNames letX; have letT : True := (by clear_value letX; guard_hyp letX : State; trivial); clear letT; refine Leaves.cut (W := W) (L := L) (r := org) (v := letX) ?_ (fun letH => ?_); (focus subst letX); rotate_left; clear_value letX; revert letX; intro _ _)
    | with_reducible refine forBelow_leaves ?_ (fun _ _ _ => ?_)

theorem State.hkCommitted_leaves {W : List Span} {L : List Part} {org s : State} (keys : List Nat) (h : Leaves W L org s)
    (hW : Inside (each HK_AT :: each HK_DELAY :: each HK_DONE :: each HK_DROPS :: each HK_INJECT :: each HK_LATCH :: each HK_PRE :: each HK_RUN :: each HK_SEQUENCE.SEQ_STATE :: each HK_SUM :: []) W) :
    Leaves W L org (State.hkCommitted s keys) := by
  delta State.hkCommitted
  repeat' first
    | with_reducible assumption
    | with_reducible apply State.setN_leaves
    | with_reducible apply State.hkRestart_leaves
    | (with_unfolding_none refine hW.covers ?_; repeat first | with_unfolding_none exact Covered.here | with_unfolding_none exact HK_INJECT_in | with_unfolding_none refine Covered.next ?_)
    | with_unfolding_none apply hW.sub (HK_AT_wide (inSkip (inBoth (inBoth (HK_DROPS_wide (inSkip (inSkip (HK_LATCH_wide (inSkip (inBoth (HK_RUN_wide (inSkip (inBoth (inBoth inNil))))))))))))))
    | (extract_lets +onlyGivenNames letX; have letT : True := (by clear_value letX; guard_hyp letX : State; trivial); clear letT; refine Leaves.cut (W := W) (L := L) (r := org) (v := letX) ?_ (fun letH => ?_); (focus subst letX); rotate_left; clear_value letX; revert letX; intro _ _)
    | (extract_lets +onlyGivenNames letX; clear_value letX; revert letX; intro _)
    | with_reducible refine Leaves.ite ?_ ?_
    | with_reducible refine forEach_leaves ?_ (fun _ _ _ => ?_)
    | with_reducible refine forBelow_leaves ?_ (fun _ _ _ => ?_)

theorem State.houseConversion_leaves {W : List Span} {L : List Part} {org s : State} (vbat vh vcore vio v18 vbk : Int) (faults : List (Fin 2 × Nat)) (h : Leaves W L org s)
    (hW : Inside (one HK_ADC.CONVERSIONS :: each HK_DELAY :: one SUPPLY_STATUS.SUPPLY_FLAGS :: one SUPPLY_STATUS.V18 :: one SUPPLY_STATUS.VBAT :: one SUPPLY_STATUS.VBK :: one SUPPLY_STATUS.VCORE :: one SUPPLY_STATUS.VH :: one SUPPLY_STATUS.VIO :: []) W) (hL : Within ([.collector] : List Part) L) :
    Leaves W L org (State.houseConversion s vbat vh vcore vio v18 vbk faults) := by
  delta State.houseConversion
  repeat' first
    | with_reducible assumption
    | with_reducible apply State.set_leaves
    | with_reducible apply State.setN_leaves
    | with_reducible apply State.setBit_leaves
    | with_reducible apply State.hkDelay_leaves
    | with_reducible apply State.raise_leaves
    | (with_unfolding_none refine hW.covers ?_; repeat first | with_unfolding_none exact Covered.here | with_unfolding_none exact HK_ADC.CONVERSIONS_in | with_unfolding_none exact SUPPLY_STATUS.SUPPLY_FLAGS_in | with_unfolding_none exact SUPPLY_STATUS.V18_in | with_unfolding_none exact SUPPLY_STATUS.VBAT_in | with_unfolding_none exact SUPPLY_STATUS.VBK_in | with_unfolding_none exact SUPPLY_STATUS.VCORE_in | with_unfolding_none exact SUPPLY_STATUS.VH_in | with_unfolding_none exact SUPPLY_STATUS.VIO_in | with_unfolding_none refine Covered.next ?_)
    | with_unfolding_none apply hW.sub (inSkip (HK_DELAY_wide inNil))
    | with_unfolding_none apply hW.sub (inNil)
    | (with_reducible refine Within.trans ?_ hL; decide +kernel)
    | (extract_lets +onlyGivenNames letX; have letT : True := (by clear_value letX; guard_hyp letX : State; trivial); clear letT; refine Leaves.cut (W := W) (L := L) (r := org) (v := letX) ?_ (fun letH => ?_); (focus subst letX); rotate_left; clear_value letX; revert letX; intro _ _)
    | with_reducible refine Leaves.ite ?_ ?_
    | with_reducible refine forEach_leaves ?_ (fun _ _ _ => ?_)
    | with_reducible refine forBelow_leaves ?_ (fun _ _ _ => ?_)

theorem execHkPeriodTrigger_frame {W : List Span} {L : List Part} {org s : State} (q : Seq) (h : Leaves W L org s)
    (hW : Inside (one (HK_AT q.val) :: each HK_DELAY :: each HK_DONE :: one (HK_DROPS q.val) :: one (HK_LATCH q.val) :: each HK_PRE :: one (HK_RUN q.val) :: one (HK_SEQUENCE.OVERRUN_COUNT q.val) :: each HK_SEQUENCE.SEQ_STATE :: each HK_SUM :: one (HK_TRIG q.val) :: []) W)
    : RunsIn W L org (execHkPeriodTrigger q s) := by
  delta execHkPeriodTrigger
  repeat' first
    | with_reducible assumption
    | with_reducible refine RunsIn.next ?_
    | with_reducible apply State.hkPeriod_leaves
    | with_unfolding_none apply hW.sub (inBoth (inBoth (inBoth (inBoth (inBoth (inBoth (inBoth (inBoth (inBoth (inBoth (inBoth inNil)))))))))))

theorem execHkConversionEnd_frame {W : List Span} {L : List Part} {org s : State} (q : Seq) (code : Nat) (h : Leaves W L org s)
    (hW : Inside (one HK_ADC.CONVERSIONS :: one (HK_DELAY q.val) :: each HK_DONE :: each HK_LAST :: one (HK_PRE q.val) :: one (HK_SEQUENCE.SEQ_STATE q.val) :: each HK_SUM :: []) W)
    : RunsIn W L org (execHkConversionEnd q code s) := by
  delta execHkConversionEnd
  repeat' first
    | with_reducible assumption
    | with_reducible refine RunsIn.next ?_
    | with_reducible apply State.hkConversion_leaves
    | with_unfolding_none apply hW.sub (inBoth (inBoth (inBoth (inBoth (inBoth (inBoth (inBoth inNil)))))))

theorem execHkPassEnd_frame {W : List Span} {L : List Part} {org s : State} (q : Seq) (h : Leaves W L org s)
    (hW : Inside (one (HK_AT q.val) :: each HK_DELAY :: each HK_DONE :: each HK_ENTRY.ENTRY_STATUS :: each HK_ENTRY.RAW :: each HK_ENTRY.RESULT_STAMP :: each HK_ENTRY.VALUE :: each HK_INJECT :: each HK_OK :: each HK_PASS_AT :: each HK_PRE :: each HK_SEQUENCE.SEQ_STATE :: each HK_SUM :: one REC_T_MAX :: one REC_T_MIN :: []) W)
    (hL : Within ([.collector, .free] : List Part) L) : RunsIn W L org (execHkPassEnd q s) := by
  delta execHkPassEnd
  repeat' first
    | with_reducible assumption
    | with_reducible refine RunsIn.next ?_
    | with_reducible apply State.hkPassEnd_leaves
    | with_unfolding_none apply hW.sub (inBoth (inBoth (inBoth (inBoth (inBoth (inBoth (inBoth (inBoth (inBoth (inBoth (inBoth (inBoth (inBoth (inBoth (inBoth inNil)))))))))))))))

theorem execHkRunEnd_frame {W : List Span} {L : List Part} {org s : State} (q : Seq) (h : Leaves W L org s)
    (hW : Inside (each HK_AT :: each HK_DELAY :: each HK_DONE :: each HK_DROPS :: each HK_LATCH :: each HK_PRE :: each HK_RUN :: each HK_SEQUENCE.OVERRUN_COUNT :: one (HK_SEQUENCE.RUNS q.val) :: each HK_SEQUENCE.SEQ_STATE :: each HK_SUM :: []) W)
    (hL : Within ([.collector] : List Part) L) : RunsIn W L org (execHkRunEnd q s) := by
  delta execHkRunEnd
  repeat' first
    | with_reducible assumption
    | with_reducible refine RunsIn.next ?_
    | with_reducible apply State.hkRunEnd_leaves
    | with_unfolding_none apply hW.sub (inBoth (inBoth (inBoth (inBoth (inBoth (inBoth (inBoth (inBoth (inBoth (inBoth (inBoth inNil)))))))))))

theorem execEntryStale_frame {W : List Span} {L : List Part} {org s : State} (e : Entry) (h : Leaves W L org s)
    (hW : Inside (one (HK_ENTRY.ENTRY_STATUS e.val) :: []) W)
    (hL : Within ([.collector] : List Part) L) : RunsIn W L org (execEntryStale e s) := by
  delta execEntryStale
  repeat' first
    | with_reducible assumption
    | with_reducible refine RunsIn.next ?_
    | with_reducible apply State.hkAges_leaves
    | with_unfolding_none apply hW.sub (inBoth inNil)

theorem execHouseConversion_frame {W : List Span} {L : List Part} {org s : State} (vbat vh vcore vio v18 vbk : Int) (faults : List (Fin 2 × Nat)) (h : Leaves W L org s)
    (hW : Inside (one HK_ADC.CONVERSIONS :: each HK_DELAY :: one SUPPLY_STATUS.SUPPLY_FLAGS :: one SUPPLY_STATUS.V18 :: one SUPPLY_STATUS.VBAT :: one SUPPLY_STATUS.VBK :: one SUPPLY_STATUS.VCORE :: one SUPPLY_STATUS.VH :: one SUPPLY_STATUS.VIO :: []) W)
    (hL : Within ([.collector] : List Part) L) : RunsIn W L org (execHouseConversion vbat vh vcore vio v18 vbk faults s) := by
  delta execHouseConversion
  repeat' first
    | with_reducible assumption
    | with_reducible refine RunsIn.next ?_
    | with_reducible apply State.houseConversion_leaves
    | with_unfolding_none apply hW.sub (inBoth (inBoth (inBoth (inBoth (inBoth (inBoth (inBoth (inBoth (inBoth inNil)))))))))

theorem State.raiseThermal_leaves {W : List Span} {L : List Part} {org s : State} (d : Nat) (k : Kind) (site : Nat) (fields : List (Nat × Int)) (h : Leaves W L org s) (hL : Within ([.collector, .dieMsgs] : List Part) L) :
    Leaves W L org (State.raiseThermal s d k site fields) := by
  delta State.raiseThermal
  repeat' first
    | with_reducible assumption
    | with_reducible apply State.raise_leaves
    | with_reducible apply State.raiseDie_leaves
    | (with_reducible refine Within.trans ?_ hL; decide +kernel)
    | with_reducible refine Leaves.ite ?_ ?_

theorem State.sensorFails_leaves {W : List Span} {L : List Part} {org s : State} (i : Nat) (t : Int) (h : Leaves W L org s)
    (hW : Inside (each THERMAL_DIE.FAILED_SENSORS :: []) W) (hL : Within ([.collector, .dieMsgs, .free] : List Part) L) :
    Leaves W L org (State.sensorFails s i t) := by
  delta State.sensorFails
  repeat' first
    | with_reducible assumption
    | with_reducible apply State.setBit_leaves
    | with_reducible apply State.takeFree_leaves
    | with_reducible apply State.raiseThermal_leaves
    | (with_unfolding_none refine hW.covers ?_; repeat first | with_unfolding_none exact Covered.here | with_unfolding_none exact THERMAL_DIE.FAILED_SENSORS_in | with_unfolding_none refine Covered.next ?_)
    | with_unfolding_none apply hW.sub (inNil)
    | (with_reducible refine Within.trans ?_ hL; decide +kernel)
    | with_reducible exact hL _ (by decide +kernel)
    | (extract_lets +onlyGivenNames letX; have letT : True := (by clear_value letX; guard_hyp letX : State; trivial); clear letT; refine Leaves.cut (W := W) (L := L) (r := org) (v := letX) ?_ (fun letH => ?_); (focus subst letX); rotate_left; clear_value letX; revert letX; intro _ _)
    | (extract_lets +onlyGivenNames letX; clear_value letX; revert letX; intro _)
    | with_reducible refine Leaves.ite ?_ ?_
    | split
    | with_reducible refine Leaves.ofPair (by assumption) ?_

theorem State.sensorJudge_leaves {W : List Span} {L : List Part} {org s : State} (i : Nat) (t : Int) (h : Leaves W L org s)
    (hW : Inside (one (TEMP_ODD i) :: each THERMAL_DIE.FAILED_SENSORS :: []) W) (hL : Within ([.collector, .dieMsgs, .free] : List Part) L) :
    Leaves W L org (State.sensorJudge s i t) := by
  delta State.sensorJudge
  repeat' first
    | with_reducible assumption
    | with_reducible apply State.setN_leaves
    | with_reducible apply State.sensorFails_leaves
    | (with_unfolding_none refine hW.covers ?_; repeat first | with_unfolding_none exact Covered.here | with_unfolding_none refine Covered.next ?_)
    | with_unfolding_none apply hW.sub (inSkip (inBoth inNil))
    | (with_reducible refine Within.trans ?_ hL; decide +kernel)
    | (extract_lets +onlyGivenNames letX; have letT : True := (by clear_value letX; guard_hyp letX : State; trivial); clear letT; refine Leaves.cut (W := W) (L := L) (r := org) (v := letX) ?_ (fun letH => ?_); (focus subst letX); rotate_left; clear_value letX; revert letX; intro _ _)
    | (extract_lets +onlyGivenNames letX; clear_value letX; revert letX; intro _)
    | with_reducible refine Leaves.ite ?_ ?_
    | split
    | with_reducible refine Leaves.ofPair (by assumption) ?_

theorem State.thermalMaxima_leaves {W : List Span} {L : List Part} {org s : State} (d : Nat) (h : Leaves W L org s)
    (hW : Inside (one THERMAL.GLOBAL_MAX :: one THERMAL.GLOBAL_MAX_SENSOR :: each THERMAL_DIE.DIE_MAX :: each THERMAL_DIE.DIE_MIN :: each THERMAL_DIE.PEAK_SINCE_OPENING :: []) W) :
    Leaves W L org (State.thermalMaxima s d) := by
  delta State.thermalMaxima
  repeat' first
    | with_reducible assumption
    | with_reducible apply State.set_leaves
    | with_reducible apply State.setN_leaves
    | (with_unfolding_none refine hW.covers ?_; repeat first | with_unfolding_none exact Covered.here | with_unfolding_none exact THERMAL.GLOBAL_MAX_in | with_unfolding_none exact THERMAL.GLOBAL_MAX_SENSOR_in | with_unfolding_none exact THERMAL_DIE.DIE_MAX_in | with_unfolding_none exact THERMAL_DIE.DIE_MIN_in | with_unfolding_none exact THERMAL_DIE.PEAK_SINCE_OPENING_in | with_unfolding_none refine Covered.next ?_)
    | (extract_lets +onlyGivenNames letX; have letT : True := (by clear_value letX; guard_hyp letX : State; trivial); clear letT; refine Leaves.cut (W := W) (L := L) (r := org) (v := letX) ?_ (fun letH => ?_); (focus subst letX); rotate_left; clear_value letX; revert letX; intro _ _)
    | (extract_lets +onlyGivenNames letX; clear_value letX; revert letX; intro _)
    | with_reducible refine Leaves.ite ?_ ?_
    | split
    | with_reducible refine Leaves.ofPair (by assumption) ?_

theorem State.shutChannel_leaves {W : List Span} {L : List Part} {org s : State} (n : Nat) (h : Leaves W L org s)
    (hW : Inside (one (ADMIT_KIND n) :: one (BANK.BANK_FLAGS ((bankOf n))) :: one (CELL n) :: one (CHANNEL_CONFIG.REQUEST n) :: one (CHANNEL_PROTECTION.MODEL_FLAGS n) :: one (CHANNEL_STATUS.FLAGS n) :: one (CHANNEL_STATUS.STANDING_GATE n) :: one (CHANNEL_STATUS.STATE n) :: one (GATE n) :: one (LAMP_LOW n) :: one (LAMP_TOLD n) :: one (LATCH n) :: one (LIMIT_EPISODE n) :: one (LIMIT_LEFT n) :: one (LIMIT_SINCE n) :: one (LIMIT_SPENT n) :: one (PEND n) :: one (PUMP_START ((bankOf n))) :: one (PUMP_STOP_AT ((bankOf n))) :: one (PWM_HIGH n) :: each RESET_OUTPUT.ASSERT_COUNT :: each RESET_OUTPUT.LAST_CHANGE_STAMP :: each RESET_OUTPUT.OUTPUT :: each RSO_GOOD_SINCE :: one (RUN_SINCE n) :: one (RUN_SPENT n) :: one (SAFE_WAIT n) :: one (START_AT n) :: one (STORED_WAIT n) :: one (WIN n) :: one (inForce (CHANNEL_CONFIG.REQUEST n)) :: []) W) (hL : Within ([.collector, .dieMsgs, .staged] : List Part) L) :
    Leaves W L org (State.shutChannel s n) := by
  delta State.shutChannel
  repeat' first
    | with_reducible assumption
    | with_reducible apply State.setN_leaves
    | with_reducible apply State.setRequest_leaves
    | with_reducible apply State.turnOff_leaves
    | with_reducible apply State.withdraw_leaves
    | (with_unfolding_none refine hW.covers ?_; repeat first | with_unfolding_none exact Covered.here | with_unfolding_none refine Covered.next ?_)
    | with_unfolding_none apply hW.sub (inSkip (inSkip (inSkip (inBoth (inSkip (inSkip (inSkip (inSkip (inSkip (inSkip (inSkip (inSkip (inSkip (inSkip (inSkip (inSkip (inSkip (inSkip (inSkip (inSkip (inSkip (inSkip (inSkip (inSkip (inSkip (inSkip (inSkip (inSkip (inSkip (inSkip (inBoth inNil)))))))))))))))))))))))))))))))
    | with_unfolding_none apply hW.sub (inBoth (inBoth (inBoth (inSkip (inBoth (inBoth (inBoth (inBoth (inBoth (inBoth (inBoth (inBoth (inBoth (inBoth (inBoth (inBoth (inBoth (inBoth (inBoth (inBoth (inBoth (inBoth (inBoth (inBoth (inBoth (inBoth (inSkip (inBoth (inSkip (inBoth inNil))))))))))))))))))))))))))))))
    | with_unfolding_none apply hW.sub (inBoth (inSkip (inSkip (inSkip (inSkip (inBoth (inSkip (inSkip (inSkip (inSkip (inSkip (inSkip (inSkip (inSkip (inSkip (inSkip (inSkip (inSkip (inSkip (inSkip (inSkip (inSkip (inSkip (inSkip (inSkip (inSkip (inSkip (inBoth inNil))))))))))))))))))))))))))))
    | (with_reducible refine Within.trans ?_ hL; decide +kernel)
    | (extract_lets +onlyGivenNames letX; have letT : True := (by clear_value letX; guard_hyp letX : State; trivial); clear letT; refine Leaves.cut (W := W) (L := L) (r := org) (v := letX) ?_ (fun letH => ?_); (focus subst letX); rotate_left; clear_value letX; revert letX; intro _ _)
    | (extract_lets +onlyGivenNames letX; clear_value letX; revert letX; intro _)
    | with_reducible refine Leaves.ite ?_ ?_

theorem State.dieShuts_leaves {W : List Span} {L : List Part} {org s : State} (d : Nat) (h : Leaves W L org s)
    (hW : Inside (each ADMIT_KIND :: each BANK.BANK_FLAGS :: each CELL :: each CHANNEL_CONFIG.REQUEST :: each CHANNEL_PROTECTION.MODEL_FLAGS :: each CHANNEL_STATUS.FLAGS :: each CHANNEL_STATUS.STANDING_GATE :: each CHANNEL_STATUS.STATE :: each GATE :: each LAMP_LOW :: each LAMP_TOLD :: each LATCH :: each LIMIT_EPISODE :: each LIMIT_LEFT :: each LIMIT_SINCE :: each LIMIT_SPENT :: each PEND :: each PUMP_START :: each PUMP_STOP_AT :: each PWM_HIGH :: each RESET_OUTPUT.ASSERT_COUNT :: each RESET_OUTPUT.LAST_CHANGE_STAMP :: each RESET_OUTPUT.OUTPUT :: each RSO_GOOD_SINCE :: each RUN_SINCE :: each RUN_SPENT :: each SAFE_WAIT :: each START_AT :: each STORED_WAIT :: each WIN :: (each fun n => inForce (CHANNEL_CONFIG.REQUEST n)) :: []) W) (hL : Within ([.collector, .dieMsgs, .staged] : List Part) L) :
    Leaves W L org (State.dieShuts s d) := by
  delta State.dieShuts
  repeat' first
    | with_reducible assumption
    | with_reducible apply State.shutChannel_leaves
    | with_reducible apply State.raiseThermal_leaves
    | with_unfolding_none apply hW.sub (ADMIT_KIND_wide (inSkip (BANK.BANK_FLAGS_wide (inSkip (CELL_wide (inSkip (CHANNEL_CONFIG.REQUEST_wide (inSkip (CHANNEL_PROTECTION.MODEL_FLAGS_wide (inSkip (CHANNEL_STATUS.FLAGS_wide (inSkip (CHANNEL_STATUS.STANDING_GATE_wide (inSkip (CHANNEL_STATUS.STATE_wide (inSkip (GATE_wide (inSkip (LAMP_LOW_wide (inSkip (LAMP_TOLD_wide (inSkip (LATCH_wide (inSkip (LIMIT_EPISODE_wide (inSkip (LIMIT_LEFT_wide (inSkip (LIMIT_SINCE_wide (inSkip (LIMIT_SPENT_wide (inSkip (PEND_wide (inSkip (PUMP_START_wide (inSkip (PUMP_STOP_AT_wide (inSkip (PWM_HIGH_wide (inSkip (inBoth (inBoth (inBoth (inBoth (RUN_SINCE_wide (inSkip (RUN_SPENT_wide (inSkip (SAFE_WAIT_wide (inSkip (START_AT_wide (inSkip (STORED_WAIT_wide (inSkip (WIN_wide (inSkip (inForce_CHANNEL_CONFIG.REQUEST_wide inNil)))))))))))))))))))))))))))))))))))))))))))))))))))))))))
    | with_unfolding_none apply hW.sub (inNil)
    | (with_reducible refine Within.trans ?_ hL; decide +kernel)
    | (extract_lets +onlyGivenNames letX; have letT : True := (by clear_value letX; guard_hyp letX : State; trivial); clear letT; refine Leaves.cut (W := W) (L := L) (r := org) (v := letX) ?_ (fun letH => ?_); (focus subst letX); rotate_left; clear_value letX; revert letX; intro _ _)
    | (extract_lets +onlyGivenNames letX; clear_value letX; revert letX; intro _)
    | with_reducible refine forEach_leaves ?_ (fun _ _ _ => ?_)

theorem State.storedAsks_leaves {W : List Span} {L : List Part} {org s : State} (n : Nat) (h : Leaves W L org s)
    (hW : Inside (one (ADMIT_KIND n) :: one (ADMIT_SINCE n) :: one (BANK.BANK_FLAGS ((bankOf n))) :: one (CELL n) :: one (CHANNEL_PROTECTION.ADMIT_WAIT n) :: one (CHANNEL_PROTECTION.MODEL_FLAGS n) :: one (CHANNEL_PROTECTION.RETRIES_LEFT n) :: one (CHANNEL_STATUS.FLAGS n) :: one (CHANNEL_STATUS.STANDING_GATE n) :: one (CHANNEL_STATUS.STATE n) :: one (GATE n) :: one (LAMP_LOW n) :: one (LAMP_TOLD n) :: one (LATCH n) :: one (LIMIT_EPISODE n) :: one (LIMIT_LEFT n) :: one (LIMIT_SINCE n) :: one (LIMIT_SPENT n) :: one (PEND n) :: one (PUMP_START ((bankOf n))) :: one (PUMP_STOP_AT ((bankOf n))) :: one (PWM_HIGH n) :: one (PWM_NEXT n) :: each RESET_OUTPUT.ASSERT_COUNT :: each RESET_OUTPUT.LAST_CHANGE_STAMP :: each RESET_OUTPUT.OUTPUT :: each RSO_GOOD_SINCE :: one (RUN_SINCE n) :: one (RUN_SPENT n) :: one (START_AT n) :: one (STORED_WAIT n) :: one (TRIP_STATE n) :: one (WIN n) :: []) W) (hL : Within ([.collector, .dieMsgs, .staged] : List Part) L) :
    Leaves W L org (State.storedAsks s n) := by
  delta State.storedAsks
  repeat' first
    | with_reducible assumption
    | with_reducible apply State.setN_leaves
    | with_reducible apply State.actOnRequest_leaves
    | with_reducible apply State.askAdmission_leaves
    | with_reducible apply State.setModelFlag_leaves
    | (with_unfolding_none refine hW.covers ?_; repeat first | with_unfolding_none exact Covered.here | with_unfolding_none refine Covered.next ?_)
    | with_unfolding_none apply hW.sub (inBoth (inBoth (inBoth (inBoth (inBoth (inBoth (inBoth (inBoth (inBoth (inBoth (inBoth (inBoth (inBoth (inBoth (inBoth (inBoth (inBoth (inBoth (inBoth (inBoth (inBoth (inBoth (inBoth (inBoth (inBoth (inBoth (inBoth (inBoth (inBoth (inBoth (inBoth (inBoth (inBoth inNil)))))))))))))))))))))))))))))))))
    | with_unfolding_none apply hW.sub (inBoth (inBoth (inSkip (inSkip (inBoth (inSkip (inSkip (inBoth inNil))))))))
    | with_unfolding_none apply hW.sub (inSkip (inSkip (inSkip (inSkip (inSkip (inBoth inNil))))))
    | (with_reducible refine Within.trans ?_ hL; decide +kernel)
    | (extract_lets +onlyGivenNames letX; have letT : True := (by clear_value letX; guard_hyp letX : State; trivial); clear letT; refine Leaves.cut (W := W) (L := L) (r := org) (v := letX) ?_ (fun letH => ?_); (focus subst letX); rotate_left; clear_value letX; revert letX; intro _ _)
    | with_reducible refine Leaves.ite ?_ ?_

theorem State.calResumes_leaves {W : List Span} {L : List Part} {org s : State} (k : Nat) (h : Leaves W L org s)
    (hW : Inside (one (CAL_PAUSED k) :: one (CAL_POS_AT k) :: []) W) :
    Leaves W L org (State.calResumes s k) := by
  delta State.calResumes
  repeat' first
    | with_reducible assumption
    | with_reducible apply State.setN_leaves
    | (with_unfolding_none refine hW.covers ?_; repeat first | with_unfolding_none exact Covered.here | with_unfolding_none refine Covered.next ?_)
    | with_reducible refine Leaves.ite ?_ ?_

theorem State.dieStateTo_leaves {W : List Span} {L : List Part} {org s : State} (d old new : Nat) (h : Leaves W L org s)
    (hW : Inside (each ADMIT_KIND :: each ADMIT_SINCE :: each BANK.BANK_FLAGS :: each CAL_PAUSED :: each CAL_POS_AT :: each CELL :: each CHANNEL_CONFIG.REQUEST :: each CHANNEL_PROTECTION.ADMIT_WAIT :: each CHANNEL_PROTECTION.MODEL_FLAGS :: each CHANNEL_PROTECTION.RETRIES_LEFT :: each CHANNEL_STATUS.FLAGS :: each CHANNEL_STATUS.STANDING_GATE :: each CHANNEL_STATUS.STATE :: each GATE :: each LAMP_LOW :: each LAMP_TOLD :: each LATCH :: each LIMIT_EPISODE :: each LIMIT_LEFT :: each LIMIT_SINCE :: each LIMIT_SPENT :: each PEND :: one PERFORMANCE.THERMAL_FLOOR :: each PUMP_START :: each PUMP_STOP_AT :: each PWM_HIGH :: each PWM_NEXT :: each RESET_OUTPUT.ASSERT_COUNT :: each RESET_OUTPUT.LAST_CHANGE_STAMP :: each RESET_OUTPUT.OUTPUT :: each RSO_GOOD_SINCE :: each RUN_SINCE :: each RUN_SPENT :: each SAFE_WAIT :: one (SHUT_SINCE d) :: each START_AT :: each STORED_WAIT :: one (THERMAL_DIE.DIE_STATE d) :: one (THERMAL_DIE.SHUTDOWNS d) :: one (THR_SINCE d) :: one (THR_SPENT d) :: one THR_STEP_AT :: each TRIP_STATE :: each WIN :: (each fun n => inForce (CHANNEL_CONFIG.REQUEST n)) :: []) W) (hL : Within ([.collector, .dieMsgs, .staged] : List Part) L) :
    Leaves W L org (State.dieStateTo s d old new) := by
  delta State.dieStateTo
  repeat' first
    | with_reducible assumption
    | with_reducible apply State.setN_leaves
    | with_reducible apply State.count_leaves
    | with_reducible apply State.raiseThermal_leaves
    | with_reducible apply State.dieShuts_leaves
    | with_reducible apply State.storedAsks_leaves
    | with_reducible apply State.calResumes_leaves
    | (with_unfolding_none refine hW.covers ?_; repeat first | with_unfolding_none exact Covered.here | with_unfolding_none exact PERFORMANCE.THERMAL_FLOOR_in | with_unfolding_none exact THR_STEP_AT_in | with_unfolding_none refine Covered.next ?_)
    | with_unfolding_none apply hW.sub (inNil)
    | with_unfolding_none apply hW.sub (inBoth (inSkip (inBoth (inSkip (inSkip (inBoth (inBoth (inSkip (inBoth (inSkip (inBoth (inBoth (inBoth (inBoth (inBoth (inBoth (inBoth (inBoth (inBoth (inBoth (inBoth (inBoth (inSkip (inBoth (inBoth (inBoth (inSkip (inBoth (inBoth (inBoth (inBoth (inBoth (inBoth (inBoth (inSkip (inBoth (inBoth (inSkip (inSkip (inSkip (inSkip (inSkip (inSkip (inBoth (inBoth inNil)))))))))))))))))))))))))))))))))))))))))))))
    | with_unfolding_none apply hW.sub (ADMIT_KIND_wide (inSkip (ADMIT_SINCE_wide (inSkip (BANK.BANK_FLAGS_wide (inSkip (inSkip (inSkip (CELL_wide (inSkip (inSkip (CHANNEL_PROTECTION.ADMIT_WAIT_wide (inSkip (CHANNEL_PROTECTION.MODEL_FLAGS_wide (inSkip (CHANNEL_PROTECTION.RETRIES_LEFT_wide (inSkip (CHANNEL_STATUS.FLAGS_wide (inSkip (CHANNEL_STATUS.STANDING_GATE_wide (inSkip (CHANNEL_STATUS.STATE_wide (inSkip (GATE_wide (inSkip (LAMP_LOW_wide (inSkip (LAMP_TOLD_wide (inSkip (LATCH_wide (inSkip (LIMIT_EPISODE_wide (inSkip (LIMIT_LEFT_wide (inSkip (LIMIT_SINCE_wide (inSkip (LIMIT_SPENT_wide (inSkip (PEND_wide (inSkip (inSkip (PUMP_START_wide (inSkip (PUMP_STOP_AT_wide (inSkip (PWM_HIGH_wide (inSkip (PWM_NEXT_wide (inSkip (inBoth (inBoth (inBoth (inBoth (RUN_SINCE_wide (inSkip (RUN_SPENT_wide (inSkip (inSkip (inSkip (START_AT_wide (inSkip (STORED_WAIT_wide (inSkip (inSkip (inSkip (inSkip (inSkip (inSkip (TRIP_STATE_wide (inSkip (WIN_wide inNil))))))))))))))))))))))))))))))))))))))))))))))))))))))))))))))))))))))))
    | with_unfolding_none apply hW.sub (inSkip (inSkip (inSkip (CAL_PAUSED_wide (inSkip (CAL_POS_AT_wide inNil))))))
    | (with_reducible refine Within.trans ?_ hL; decide +kernel)
    | (extract_lets +onlyGivenNames letX; have letT : True := (by clear_value letX; guard_hyp letX : State; trivial); clear letT; refine Leaves.cut (W := W) (L := L) (r := org) (v := letX) ?_ (fun letH => ?_); (focus subst letX); rotate_left; clear_value letX; revert letX; intro _ _)
    | (extract_lets +onlyGivenNames letX; clear_value letX; revert letX; intro _)
    | with_reducible refine Leaves.ite ?_ ?_
    | with_reducible refine forEach_leaves ?_ (fun _ _ _ => ?_)
    | with_reducible refine forBelow_leaves ?_ (fun _ _ _ => ?_)

theorem State.coldJudge_leaves {W : List Span} {L : List Part} {org s : State} (d : Nat) (h : Leaves W L org s)
    (hW : Inside (each COLD :: one THERMAL.THERMAL_FLAGS :: []) W) (hL : Within ([.collector, .dieMsgs] : List Part) L) :
    Leaves W L org (State.coldJudge s d) := by
  delta State.coldJudge
  repeat' first
    | with_reducible assumption
    | with_reducible apply State.setFlag_leaves
    | with_reducible apply State.setBit_leaves
    | with_reducible apply State.raiseThermal_leaves
    | (with_unfolding_none refine hW.covers ?_; repeat first | with_unfolding_none exact Covered.here | with_unfolding_none exact COLD_in | with_unfolding_none exact THERMAL.THERMAL_FLAGS_in | with_unfolding_none refine Covered.next ?_)
    | with_unfolding_none apply hW.sub (inNil)
    | (with_reducible refine Within.trans ?_ hL; decide +kernel)
    | (extract_lets +onlyGivenNames letX; have letT : True := (by clear_value letX; guard_hyp letX : State; trivial); clear letT; refine Leaves.cut (W := W) (L := L) (r := org) (v := letX) ?_ (fun letH => ?_); (focus subst letX); rotate_left; clear_value letX; revert letX; intro _ _)
    | (extract_lets +onlyGivenNames letX; clear_value letX; revert letX; intro _)
    | with_reducible refine Leaves.ite ?_ ?_

theorem State.coldStart_leaves {W : List Span} {L : List Part} {org s : State} (h : Leaves W L org s)
    (hW : Inside (one COLD_JUDGED :: one THERMAL.THERMAL_FLAGS :: []) W) (hL : Within ([.collector, .dieMsgs] : List Part) L) :
    Leaves W L org (State.coldStart s) := by
  delta State.coldStart
  repeat' first
    | with_reducible assumption
    | with_reducible apply State.setN_leaves
    | with_reducible apply State.setBit_leaves
    | with_reducible apply State.raiseThermal_leaves
    | (with_unfolding_none refine hW.covers ?_; repeat first | with_unfolding_none exact Covered.here | with_unfolding_none exact COLD_JUDGED_in | with_unfolding_none exact THERMAL.THERMAL_FLAGS_in | with_unfolding_none refine Covered.next ?_)
    | with_unfolding_none apply hW.sub (inNil)
    | (with_reducible refine Within.trans ?_ hL; decide +kernel)
    | (extract_lets +onlyGivenNames letX; have letT : True := (by clear_value letX; guard_hyp letX : State; trivial); clear letT; refine Leaves.cut (W := W) (L := L) (r := org) (v := letX) ?_ (fun letH => ?_); (focus subst letX); rotate_left; clear_value letX; revert letX; intro _ _)
    | (extract_lets +onlyGivenNames letX; clear_value letX; revert letX; intro _)
    | with_reducible refine Leaves.ite ?_ ?_

theorem State.tempSample_leaves {W : List Span} {L : List Part} {org s : State} (i : Nat) (t : Int) (h : Leaves W L org s)
    (hW : Inside (each ADMIT_KIND :: each ADMIT_SINCE :: each BANK.BANK_FLAGS :: each CAL_PAUSED :: each CAL_POS_AT :: each CELL :: each CHANNEL_CONFIG.REQUEST :: each CHANNEL_PROTECTION.ADMIT_WAIT :: each CHANNEL_PROTECTION.MODEL_FLAGS :: each CHANNEL_PROTECTION.RETRIES_LEFT :: each CHANNEL_STATUS.FLAGS :: each CHANNEL_STATUS.STANDING_GATE :: each CHANNEL_STATUS.STATE :: each COLD :: one COLD_JUDGED :: each GATE :: each LAMP_LOW :: each LAMP_TOLD :: each LATCH :: each LIMIT_EPISODE :: each LIMIT_LEFT :: each LIMIT_SINCE :: each LIMIT_SPENT :: each PEND :: one PERFORMANCE.THERMAL_FLOOR :: each PUMP_START :: each PUMP_STOP_AT :: each PWM_HIGH :: each PWM_NEXT :: each RESET_OUTPUT.ASSERT_COUNT :: each RESET_OUTPUT.LAST_CHANGE_STAMP :: each RESET_OUTPUT.OUTPUT :: each RSO_GOOD_SINCE :: each RUN_SINCE :: each RUN_SPENT :: each SAFE_WAIT :: each SHUT_SINCE :: each START_AT :: each STORED_WAIT :: one (TEMP_ODD i) :: one THERMAL.GLOBAL_MAX :: one THERMAL.GLOBAL_MAX_SENSOR :: one THERMAL.THERMAL_FLAGS :: each THERMAL_DIE.DIE_MAX :: each THERMAL_DIE.DIE_MIN :: each THERMAL_DIE.DIE_STATE :: each THERMAL_DIE.FAILED_SENSORS :: each THERMAL_DIE.FAST_SAMPLING :: each THERMAL_DIE.PEAK_SINCE_OPENING :: each2 THERMAL_DIE.SENSOR :: each THERMAL_DIE.SHUTDOWNS :: each THR_SINCE :: each THR_SPENT :: one THR_STEP_AT :: each TRIP_STATE :: each WIN :: (each fun n => inForce (CHANNEL_CONFIG.REQUEST n)) :: []) W) (hL : Within ([.collector, .dieMsgs, .free, .staged] : List Part) L) :
    Leaves W L org (State.tempSample s i t) := by
  delta State.tempSample
  repeat' first
    | with_reducible assumption
    | with_reducible apply State.set_leaves
    | with_reducible apply State.setN_leaves
    | with_reducible apply State.setBit_leaves
    | with_reducible apply State.sensorJudge_leaves
    | with_reducible apply State.thermalMaxima_leaves
    | with_reducible apply State.dieStateTo_leaves
    | with_reducible apply State.coldJudge_leaves
    | with_reducible apply State.coldStart_leaves
    | (with_unfolding_none refine hW.covers ?_; repeat first | with_unfolding_none exact Covered.here | with_unfolding_none exact PERFORMANCE.THERMAL_FLOOR_in | with_unfolding_none exact THERMAL_DIE.FAST_SAMPLING_in | with_unfolding_none exact THERMAL_DIE.SENSOR_in | with_unfolding_none exact sensorKey_in | with_unfolding_none refine Covered.next ?_)
    | with_unfolding_none apply hW.sub (inSkip (inSkip (inSkip (inSkip (inSkip (inSkip (inSkip (inSkip (inSkip (inSkip (inSkip (inSkip (inSkip (inSkip (inSkip (inSkip (inSkip (inSkip (inSkip (inSkip (inSkip (inSkip (inSkip (inSkip (inSkip (inSkip (inSkip (inSkip (inSkip (inSkip (inSkip (inSkip (inSkip (inSkip (inSkip (inSkip (inSkip (inSkip (inSkip (inBoth (inSkip (inSkip (inSkip (inSkip (inSkip (inSkip (inBoth inNil)))))))))))))))))))))))))))))))))))))))))))))))
    | with_unfolding_none apply hW.sub (inSkip (inSkip (inSkip (inSkip (inSkip (inSkip (inSkip (inSkip (inSkip (inSkip (inSkip (inSkip (inSkip (inSkip (inSkip (inSkip (inSkip (inSkip (inSkip (inSkip (inSkip (inSkip (inSkip (inSkip (inSkip (inSkip (inSkip (inSkip (inSkip (inSkip (inSkip (inSkip (inSkip (inSkip (inSkip (inSkip (inSkip (inSkip (inSkip (inSkip (inBoth (inBoth (inSkip (inBoth (inBoth (inSkip (inSkip (inSkip (inBoth inNil)))))))))))))))))))))))))))))))))))))))))))))))))
    | with_unfolding_none apply hW.sub (inBoth (inBoth (inBoth (inBoth (inBoth (inBoth (inBoth (inBoth (inBoth (inBoth (inBoth (inBoth (inBoth (inSkip (inSkip (inBoth (inBoth (inBoth (inBoth (inBoth (inBoth (inBoth (inBoth (inBoth (inBoth (inBoth (inBoth (inBoth (inBoth (inBoth (inBoth (inBoth (inBoth (inBoth (inBoth (inBoth (SHUT_SINCE_wide (inSkip (inBoth (inBoth (inSkip (inSkip (inSkip (inSkip (inSkip (inSkip (THERMAL_DIE.DIE_STATE_wide (inSkip (inSkip (inSkip (inSkip (inSkip (THERMAL_DIE.SHUTDOWNS_wide (inSkip (THR_SINCE_wide (inSkip (THR_SPENT_wide (inSkip (inBoth (inBoth (inBoth (inBoth inNil))))))))))))))))))))))))))))))))))))))))))))))))))))))))))))))
    | with_unfolding_none apply hW.sub (inSkip (inSkip (inSkip (inSkip (inSkip (inSkip (inSkip (inSkip (inSkip (inSkip (inSkip (inSkip (inSkip (inBoth (inSkip (inSkip (inSkip (inSkip (inSkip (inSkip (inSkip (inSkip (inSkip (inSkip (inSkip (inSkip (inSkip (inSkip (inSkip (inSkip (inSkip (inSkip (inSkip (inSkip (inSkip (inSkip (inSkip (inSkip (inSkip (inSkip (inSkip (inSkip (inBoth inNil)))))))))))))))))))))))))))))))))))))))))))
    | with_unfolding_none apply hW.sub (inSkip (inSkip (inSkip (inSkip (inSkip (inSkip (inSkip (inSkip (inSkip (inSkip (inSkip (inSkip (inSkip (inSkip (inBoth (inSkip (inSkip (inSkip (inSkip (inSkip (inSkip (inSkip (inSkip (inSkip (inSkip (inSkip (inSkip (inSkip (inSkip (inSkip (inSkip (inSkip (inSkip (inSkip (inSkip (inSkip (inSkip (inSkip (inSkip (inSkip (inSkip (inSkip (inBoth inNil)))))))))))))))))))))))))))))))))))))))))))
    | (with_reducible refine Within.trans ?_ hL; decide +kernel)
    | (extract_lets +onlyGivenNames letX; have letT : True := (by clear_value letX; guard_hyp letX : State; trivial); clear letT; refine Leaves.cut (W := W) (L := L) (r := org) (v := letX) ?_ (fun letH => ?_); (focus subst letX); rotate_left; clear_value letX; revert letX; intro _ _)
    | (extract_lets +onlyGivenNames letX; clear_value letX; revert letX; intro _)
    | with_reducible refine Leaves.ite ?_ ?_

theorem State.floorStep_leaves {W : List Span} {L : List Part} {org s : State} (h : Leaves W L org s)
    (hW : Inside (one PERFORMANCE.THERMAL_FLOOR :: one THR_STEP_AT :: []) W) :
    Leaves W L org (State.floorStep s) := by
  delta State.floorStep
  repeat' first
    | with_reducible assumption
    | with_reducible apply State.setN_leaves
    | (with_unfolding_none refine hW.covers ?_; repeat first | with_unfolding_none exact Covered.here | with_unfolding_none exact PERFORMANCE.THERMAL_FLOOR_in | with_unfolding_none exact THR_STEP_AT_in | with_unfolding_none refine Covered.next ?_)
    | (extract_lets +onlyGivenNames letX; clear_value letX; revert letX; intro _)
    | with_reducible refine Leaves.ite ?_ ?_

theorem State.thermalOpening_leaves {W : List Span} {L : List Part} {org s : State} (h : Leaves W L org s)
    (hW : Inside (one COLD_JUDGED :: one THERMAL.THERMAL_FLAGS :: each THERMAL_DIE.FAILED_SENSORS :: each THERMAL_DIE.PEAK_SINCE_OPENING :: each THERMAL_DIE.SHUTDOWNS :: each THR_SINCE :: each THR_SPENT :: one THR_STEP_AT :: []) W) :
    Leaves W L org (State.thermalOpening s) := by
  delta State.thermalOpening
  repeat' first
    | with_reducible assumption
    | with_reducible apply State.setN_leaves
    | with_reducible apply State.setBit_leaves
    | with_reducible apply State.restore_leaves
    | (with_unfolding_none refine hW.covers ?_; repeat first | with_unfolding_none exact Covered.here | with_unfolding_none exact COLD_JUDGED_in | with_unfolding_none exact THERMAL.THERMAL_FLAGS_in | with_unfolding_none exact THERMAL_DIE.FAILED_SENSORS_in | with_unfolding_none exact THERMAL_DIE.PEAK_SINCE_OPENING_in | with_unfolding_none exact THERMAL_DIE.SHUTDOWNS_in | with_unfolding_none exact THR_SINCE_in | with_unfolding_none exact THR_SPENT_in | with_unfolding_none exact THR_STEP_AT_in | with_unfolding_none refine Covered.next ?_)
    | (extract_lets +onlyGivenNames letX; have letT : True := (by clear_value letX; guard_hyp letX : State; trivial); clear letT; refine Leaves.cut (W := W) (L := L) (r := org) (v := letX) ?_ (fun letH => ?_); (focus subst letX); rotate_left; clear_value letX; revert letX; intro _ _)
    | with_reducible refine Leaves.ite ?_ ?_
    | with_reducible refine forBelow_leaves ?_ (fun _ _ _ => ?_)

theorem execTempSample_frame {W : List Span} {L : List Part} {org s : State} (i : Sensor) (t : Int) (h : Leaves W L org s)
    (hW : Inside (each ADMIT_KIND :: each ADMIT_SINCE :: each BANK.BANK_FLAGS :: each CAL_PAUSED :: each CAL_POS_AT :: each CELL :: each CHANNEL_CONFIG.REQUEST :: each CHANNEL_PROTECTION.ADMIT_WAIT :: each CHANNEL_PROTECTION.MODEL_FLAGS :: each CHANNEL_PROTECTION.RETRIES_LEFT :: each CHANNEL_STATUS.FLAGS :: each CHANNEL_STATUS.STANDING_GATE :: each CHANNEL_STATUS.STATE :: each COLD :: one COLD_JUDGED :: each GATE :: each LAMP_LOW :: each LAMP_TOLD :: each LATCH :: each LIMIT_EPISODE :: each LIMIT_LEFT :: each LIMIT_SINCE :: each LIMIT_SPENT :: each PEND :: one PERFORMANCE.THERMAL_FLOOR :: each PUMP_START :: each PUMP_STOP_AT :: each PWM_HIGH :: each PWM_NEXT :: each RESET_OUTPUT.ASSERT_COUNT :: each RESET_OUTPUT.LAST_CHANGE_STAMP :: each RESET_OUTPUT.OUTPUT :: each RSO_GOOD_SINCE :: each RUN_SINCE :: each RUN_SPENT :: each SAFE_WAIT :: each SHUT_SINCE :: each START_AT :: each STORED_WAIT :: one (TEMP_ODD i.val) :: one THERMAL.GLOBAL_MAX :: one THERMAL.GLOBAL_MAX_SENSOR :: one THERMAL.THERMAL_FLAGS :: each THERMAL_DIE.DIE_MAX :: each THERMAL_DIE.DIE_MIN :: each THERMAL_DIE.DIE_STATE :: each THERMAL_DIE.FAILED_SENSORS :: each THERMAL_DIE.FAST_SAMPLING :: each THERMAL_DIE.PEAK_SINCE_OPENING :: each2 THERMAL_DIE.SENSOR :: each THERMAL_DIE.SHUTDOWNS :: each THR_SINCE :: each THR_SPENT :: one THR_STEP_AT :: each TRIP_STATE :: each WIN :: (each fun n => inForce (CHANNEL_CONFIG.REQUEST n)) :: []) W)
    (hL : Within ([.collector, .dieMsgs, .free, .staged] : List Part) L) : RunsIn W L org (execTempSample i t s) := by
  delta execTempSample
  repeat' first
    | with_reducible assumption
    | with_reducible refine RunsIn.next ?_
    | with_reducible apply State.tempSample_leaves
    | with_unfolding_none apply hW.sub (inBoth (inBoth (inBoth (inBoth (inBoth (inBoth (inBoth (inBoth (inBoth (inBoth (inBoth (inBoth (inBoth (inBoth (inBoth (inBoth (inBoth (inBoth (inBoth (inBoth (inBoth (inBoth (inBoth (inBoth (inBoth (inBoth (inBoth (inBoth (inBoth (inBoth (inBoth (inBoth (inBoth (inBoth (inBoth (inBoth (inBoth (inBoth (inBoth (inBoth (inBoth (inBoth (inBoth (inBoth (inBoth (inBoth (inBoth (inBoth (inBoth (inBoth (inBoth (inBoth (inBoth (inBoth (inBoth (inBoth (inBoth inNil)))))))))))))))))))))))))))))))))))))))))))))))))))))))))

theorem execThermalFloorStep_frame {W : List Span} {L : List Part} {org s : State} (h : Leaves W L org s)
    (hW : Inside (one PERFORMANCE.THERMAL_FLOOR :: one THR_STEP_AT :: []) W)
    : RunsIn W L org (execThermalFloorStep s) := by
  delta execThermalFloorStep
  repeat' first
    | with_reducible assumption
    | with_reducible refine RunsIn.next ?_
    | with_reducible apply State.floorStep_leaves
    | with_unfolding_none apply hW.sub (inBoth (inBoth inNil))

theorem State.wipe_leaves {W : List Span} {L : List Part} {org s : State} (full park : Bool) (h : Leaves W L org s)
    (hW : Inside (anyKey :: []) W) (hL : Within ([.barriers, .canQueue, .collector, .dieMsgs, .fences, .heldWrites, .landing, .late, .placing, .resp, .rings, .shadows, .signing, .staged] : List Part) L) :
    Leaves W L org (State.wipe s full park) := by
  delta State.wipe
  refine forEach_leaves ?_ fun _ _ hx => State.setChFlag_leaves _ _ _ (State.setChFlag_leaves _ _ _ hx (Inside.trans inAny hW)) (Inside.trans inAny hW)
  refine h.trans ⟨fun k hk => ?_, fun k hk => ?_, fun p hp => ?_, rfl⟩
  · exact absurd (hW k dyn_in) fun hc => hc.elim fun x hx => hk x hx.1 hx.2
  · exact absurd (hW k dyn_in) fun hc => hc.elim fun x hx => hk x hx.1 hx.2
  · have hn := fun hm => hp (hL p hm)
    cases p <;> first | rfl | exact absurd (by decide +kernel) hn

theorem State.vbatOver_leaves {W : List Span} {L : List Part} {org s : State} (vbat : Int) (h : Leaves W L org s)
    (hW : Inside (one SUPPLY_STATUS.SUPPLY_FLAGS :: []) W) (hL : Within ([.collector] : List Part) L) :
    Leaves W L org (State.vbatOver s vbat) := by
  delta State.vbatOver
  repeat' first
    | with_reducible assumption
    | with_reducible apply State.setBit_leaves
    | with_reducible apply State.raise_leaves
    | (with_unfolding_none refine hW.covers ?_; repeat first | with_unfolding_none exact Covered.here | with_unfolding_none exact SUPPLY_STATUS.SUPPLY_FLAGS_in | with_unfolding_none refine Covered.next ?_)
    | with_unfolding_none apply hW.sub (inNil)
    | (with_reducible refine Within.trans ?_ hL; decide +kernel)
    | with_reducible refine Leaves.ite ?_ ?_

theorem State.vbatOverEnds_leaves {W : List Span} {L : List Part} {org s : State} (vbat : Int) (h : Leaves W L org s)
    (hW : Inside (one SUPPLY_STATUS.SUPPLY_FLAGS :: []) W) :
    Leaves W L org (State.vbatOverEnds s vbat) := by
  delta State.vbatOverEnds
  repeat' first
    | with_reducible assumption
    | with_reducible apply State.setBit_leaves
    | (with_unfolding_none refine hW.covers ?_; repeat first | with_unfolding_none exact Covered.here | with_unfolding_none exact SUPPLY_STATUS.SUPPLY_FLAGS_in | with_unfolding_none refine Covered.next ?_)
    | with_reducible refine Leaves.ite ?_ ?_

theorem State.hrLimit_leaves {W : List Span} {L : List Part} {org s : State} (r : Nat) (on : Bool) (volts : Int) (h : Leaves W L org s)
    (hW : Inside (one (HR_TOLD r) :: one SUPPLY_STATUS.HR_LIMIT_EVENTS :: one SUPPLY_STATUS.SUPPLY_FLAGS :: []) W) (hL : Within ([.dieMsgs] : List Part) L) :
    Leaves W L org (State.hrLimit s r on volts) := by
  delta State.hrLimit
  repeat' first
    | with_reducible assumption
    | with_reducible apply State.setN_leaves
    | with_reducible apply State.setBit_leaves
    | with_reducible apply State.count_leaves
    | with_reducible apply State.raiseDie_leaves
    | (with_unfolding_none refine hW.covers ?_; repeat first | with_unfolding_none exact Covered.here | with_unfolding_none exact SUPPLY_STATUS.HR_LIMIT_EVENTS_in | with_unfolding_none exact SUPPLY_STATUS.SUPPLY_FLAGS_in | with_unfolding_none refine Covered.next ?_)
    | with_unfolding_none apply hW.sub (inNil)
    | (with_reducible refine Within.trans ?_ hL; decide +kernel)
    | (extract_lets +onlyGivenNames letX; have letT : True := (by clear_value letX; guard_hyp letX : State; trivial); clear letT; refine Leaves.cut (W := W) (L := L) (r := org) (v := letX) ?_ (fun letH => ?_); (focus subst letX); rotate_left; clear_value letX; revert letX; intro _ _)
    | (extract_lets +onlyGivenNames letX; clear_value letX; revert letX; intro _)
    | with_reducible refine Leaves.ite ?_ ?_

theorem State.supply18_leaves {W : List Span} {L : List Part} {org s : State} (v18 : Int) (us : Nat) (h : Leaves W L org s)
    (hW : Inside (one SUPPLY_STATUS.SUPPLY_FLAGS :: one V18_LOW :: []) W) (hL : Within ([.dieMsgs] : List Part) L) :
    Leaves W L org (State.supply18 s v18 us) := by
  delta State.supply18
  repeat' first
    | with_reducible assumption
    | with_reducible apply State.setN_leaves
    | with_reducible apply State.setBit_leaves
    | with_reducible apply State.raiseDie_leaves
    | (with_unfolding_none refine hW.covers ?_; repeat first | with_unfolding_none exact Covered.here | with_unfolding_none exact SUPPLY_STATUS.SUPPLY_FLAGS_in | with_unfolding_none exact V18_LOW_in | with_unfolding_none refine Covered.next ?_)
    | with_unfolding_none apply hW.sub (inNil)
    | (with_reducible refine Within.trans ?_ hL; decide +kernel)
    | (extract_lets +onlyGivenNames letX; have letT : True := (by clear_value letX; guard_hyp letX : State; trivial); clear letT; refine Leaves.cut (W := W) (L := L) (r := org) (v := letX) ?_ (fun letH => ?_); (focus subst letX); rotate_left; clear_value letX; revert letX; intro _ _)
    | with_reducible refine Leaves.ite ?_ ?_

theorem State.levelTo_leaves {W : List Span} {L : List Part} {org s : State} (l : Nat) (h : Leaves W L org s)
    (hW : Inside (one CLOCK_STATUS.CORE_RATE :: one PERFORMANCE.LEVEL_IN_FORCE :: []) W) :
    Leaves W L org (State.levelTo s l) := by
  delta State.levelTo
  repeat' first
    | with_reducible assumption
    | with_reducible apply State.setN_leaves
    | (with_unfolding_none refine hW.covers ?_; repeat first | with_unfolding_none exact Covered.here | with_unfolding_none exact CLOCK_STATUS.CORE_RATE_in | with_unfolding_none exact PERFORMANCE.LEVEL_IN_FORCE_in | with_unfolding_none refine Covered.next ?_)

theorem State.levelStep_leaves {W : List Span} {L : List Part} {org s : State} (h : Leaves W L org s)
    (hW : Inside (one CLOCK_STATUS.CORE_RATE :: one PERFORMANCE.LEVEL_CHANGES :: one PERFORMANCE.LEVEL_IN_FORCE :: []) W) (hL : Within ([.collector] : List Part) L) :
    Leaves W L org (State.levelStep s) := by
  delta State.levelStep
  repeat' first
    | with_reducible assumption
    | with_reducible apply State.count_leaves
    | with_reducible apply State.levelTo_leaves
    | with_reducible apply State.raise_leaves
    | (with_unfolding_none refine hW.covers ?_; repeat first | with_unfolding_none exact Covered.here | with_unfolding_none exact PERFORMANCE.LEVEL_CHANGES_in | with_unfolding_none refine Covered.next ?_)
    | with_unfolding_none apply hW.sub (inBoth (inSkip (inBoth inNil)))
    | with_unfolding_none apply hW.sub (inNil)
    | (with_reducible refine Within.trans ?_ hL; decide +kernel)
    | (extract_lets +onlyGivenNames letX; clear_value letX; revert letX; intro _)
    | with_reducible refine Leaves.ite ?_ ?_

theorem State.powerMode_leaves {W : List Span} {L : List Part} {org s : State} (v : Nat) (h : Leaves W L org s)
    (hW : Inside (one POWER_STATE.STATE :: one (inForce POWER_STATE.POWER_MODE) :: []) W) (hL : Within ([.collector] : List Part) L) :
    Leaves W L org (State.powerMode s v) := by
  delta State.powerMode
  repeat' first
    | with_reducible assumption
    | with_reducible apply State.setN_leaves
    | with_reducible apply State.raise_leaves
    | (with_unfolding_none refine hW.covers ?_; repeat first | with_unfolding_none exact Covered.here | with_unfolding_none exact POWER_STATE.STATE_in | with_unfolding_none exact inForce_POWER_STATE.POWER_MODE_in | with_unfolding_none refine Covered.next ?_)
    | with_unfolding_none apply hW.sub (inNil)
    | (with_reducible refine Within.trans ?_ hL; decide +kernel)
    | (extract_lets +onlyGivenNames letX; have letT : True := (by clear_value letX; guard_hyp letX : State; trivial); clear letT; refine Leaves.cut (W := W) (L := L) (r := org) (v := letX) ?_ (fun letH => ?_); (focus subst letX); rotate_left; clear_value letX; revert letX; intro _ _)
    | (extract_lets +onlyGivenNames letX; clear_value letX; revert letX; intro _)
    | with_reducible refine Leaves.ite ?_ ?_

theorem State.parkBegins_leaves {W : List Span} {L : List Part} {org s : State} (h : Leaves W L org s)
    (hW : Inside (one ASSIST_STATUS.ASSIST_CURRENT :: one ASSIST_STATUS.ASSIST_RESULT :: one ASSIST_STATUS.ASSIST_STATE :: one AS_CLOSED :: one AS_END :: one AS_TIME :: one BATTERY_RECORD.SEQUENCE :: one BATTERY_SWITCH.FORWARD :: one BATTERY_SWITCH.MODE_IN_EFFECT :: one BATTERY_SWITCH.OPEN_CAUSE :: each CONVERTER.ENABLE :: each CONVERTER_STATUS.CONV_FLAGS :: each CONVERTER_STATUS.STATE :: each CONV_LIMIT :: each CONV_PHASE :: each CWIN :: each2 CWIN_AT :: each2 LANE_EDGE :: each LIFE_NEW :: each LIFE_STORED :: one (OVR_END 2) :: one PARK_STAGE :: one POWER_STATE.STATE :: one RET_CAPACITY :: one RET_SOC :: one RET_SOCI :: one STORE_BUSY :: each STORE_COPY :: each STORE_SEQ :: one STORE_SIDE :: one SW_CONN_AT :: one SW_ON_AT :: each TRUNC_LONGEST :: each TRUNC_SINCE :: each TRUNC_TOLD_AT :: one WAKE_PENDING :: (each fun n => inForce (CONVERTER.ENABLE n)) :: []) W) (hL : Within ([.collector, .dieMsgs, .shadows] : List Part) L) :
    Leaves W L org (State.parkBegins s) := by
  delta State.parkBegins
  repeat' first
    | with_reducible assumption
    | with_reducible apply State.setN_leaves
    | with_reducible apply State.convStop_leaves
    | with_reducible apply State.raise_leaves
    | with_reducible apply State.retainedCopy_leaves
    | with_reducible apply State.swNoClosed_leaves
    | with_reducible apply State.storeTrips_leaves
    | with_reducible apply State.recordWrite_leaves
    | (with_unfolding_none refine hW.covers ?_; repeat first | with_unfolding_none exact Covered.here | with_unfolding_none exact CONVERTER.ENABLE_in | with_unfolding_none exact PARK_STAGE_in | with_unfolding_none exact POWER_STATE.STATE_in | with_unfolding_none exact WAKE_PENDING_in | with_unfolding_none exact inForce_CONVERTER.ENABLE_in | with_unfolding_none refine Covered.next ?_)
    | with_unfolding_none apply hW.sub (inBoth (inBoth (inBoth (inBoth (inBoth (inBoth (inSkip (inSkip (inSkip (inSkip (inSkip (CONVERTER_STATUS.CONV_FLAGS_wide (inSkip (CONVERTER_STATUS.STATE_wide (inSkip (CONV_LIMIT_wide (inSkip (CONV_PHASE_wide (inSkip (CWIN_wide (inSkip (CWIN_AT_wide (inSkip (inBoth (inSkip (inSkip (inBoth (inSkip (inSkip (inSkip (inSkip (inSkip (inSkip (inSkip (inSkip (inSkip (inSkip (inSkip (TRUNC_LONGEST_wide (inSkip (TRUNC_SINCE_wide (inSkip (TRUNC_TOLD_AT_wide inNil)))))))))))))))))))))))))))))))))))))))))))
    | with_unfolding_none apply hW.sub (inNil)
    | with_unfolding_none apply hW.sub (inSkip (inSkip (inSkip (inSkip (inSkip (inSkip (inSkip (inSkip (inSkip (inSkip (inSkip (inSkip (inSkip (inSkip (inSkip (inSkip (inSkip (inSkip (inSkip (inSkip (inSkip (inSkip (inSkip (inBoth (inBoth (inBoth inNil))))))))))))))))))))))))))
    | with_unfolding_none apply hW.sub (inSkip (inSkip (inSkip (inSkip (inSkip (inSkip (inSkip (inSkip (inSkip (inSkip (inSkip (inSkip (inSkip (inSkip (inSkip (inSkip (inSkip (inSkip (inBoth (inBoth inNil))))))))))))))))))))
    | with_unfolding_none apply hW.sub (inSkip (inSkip (inSkip (inSkip (inSkip (inSkip (inBoth (inSkip (inSkip (inSkip (inSkip (inSkip (inSkip (inSkip (inSkip (inSkip (inSkip (inSkip (inSkip (inSkip (inSkip (inSkip (inSkip (inSkip (inSkip (inSkip (inBoth (inBoth (inBoth (inBoth inNil))))))))))))))))))))))))))))))
    | with_unfolding_none apply hW.sub (inSkip (inSkip (inSkip (inSkip (inSkip (inSkip (inSkip (inBoth (inBoth (inBoth (inSkip (inSkip (inSkip (inSkip (inSkip (inSkip (inSkip (inSkip (inSkip (inSkip (inSkip (inSkip (inSkip (inSkip (inSkip (inSkip (inSkip (inSkip (inSkip (inSkip (inBoth (inBoth inNil))))))))))))))))))))))))))))))))
    | (with_reducible refine Within.trans ?_ hL; decide +kernel)
    | (extract_lets +onlyGivenNames letX; have letT : True := (by clear_value letX; guard_hyp letX : State; trivial); clear letT; refine Leaves.cut (W := W) (L := L) (r := org) (v := letX) ?_ (fun letH => ?_); (focus subst letX); rotate_left; clear_value letX; revert letX; intro _ _)
    | with_reducible refine Leaves.ite ?_ ?_
    | with_reducible refine forBelow_leaves ?_ (fun _ _ _ => ?_)

theorem State.parkCommits_leaves {W : List Span} {L : List Part} {org s : State} (h : Leaves W L org s)
    (hW : Inside (one PARK_FRAME :: one PARK_STAGE :: each STAND_DUE :: []) W) :
    Leaves W L org (State.parkCommits s) := by
  delta State.parkCommits
  repeat' first
    | with_reducible assumption
    | with_reducible apply State.setN_leaves
    | (with_unfolding_none refine hW.covers ?_; repeat first | with_unfolding_none exact Covered.here | with_unfolding_none exact PARK_FRAME_in | with_unfolding_none exact PARK_STAGE_in | with_unfolding_none exact STAND_DUE_in | with_unfolding_none refine Covered.next ?_)
    | (extract_lets +onlyGivenNames letX; have letT : True := (by clear_value letX; guard_hyp letX : State; trivial); clear letT; refine Leaves.cut (W := W) (L := L) (r := org) (v := letX) ?_ (fun letH => ?_); (focus subst letX); rotate_left; clear_value letX; revert letX; intro _ _)
    | with_reducible refine Leaves.ite ?_ ?_
    | with_reducible refine forBelow_leaves ?_ (fun _ _ _ => ?_)

theorem State.parkDown_leaves {W : List Span} {L : List Part} {org s : State} (h : Leaves W L org s)
    (hW : Inside (anyKey :: []) W) (hL : Within ([.barriers, .canQueue, .collector, .dieMsgs, .fences, .heldWrites, .landing, .late, .placing, .resp, .rings, .shadows, .signing, .staged] : List Part) L) :
    Leaves W L org (State.parkDown s) := by
  delta State.parkDown
  repeat' first
    | with_reducible assumption
    | with_reducible apply State.setN_leaves
    | with_reducible apply State.count_leaves
    | with_reducible apply State.dsStop_leaves
    | with_reducible apply State.wipe_leaves
    | with_reducible apply State.pwmFloat_leaves
    | with_reducible apply State.estParks_leaves
    | with_reducible apply State.keepCopies_leaves
    | (with_unfolding_none refine hW.covers ?_; repeat first | with_unfolding_none exact dyn_in | with_unfolding_none refine Covered.next ?_)
    | with_unfolding_none apply hW.sub (inAny)
    | (with_reducible refine Within.trans ?_ hL; decide +kernel)
    | (extract_lets +onlyGivenNames letX; have letT : True := (by clear_value letX; guard_hyp letX : State; trivial); clear letT; refine Leaves.cut (W := W) (L := L) (r := org) (v := letX) ?_ (fun letH => ?_); (focus subst letX); rotate_left; clear_value letX; revert letX; intro _ _)
    | with_reducible refine Leaves.ite ?_ ?_
    | with_reducible refine forBelow_leaves ?_ (fun _ _ _ => ?_)

theorem execVbatOvervoltage_frame {W : List Span} {L : List Part} {org s : State} (vbat : Int) (h : Leaves W L org s)
    (hW : Inside (one SUPPLY_STATUS.SUPPLY_FLAGS :: []) W)
    (hL : Within ([.collector] : List Part) L) : RunsIn W L org (execVbatOvervoltage vbat s) := by
  delta execVbatOvervoltage
  repeat' first
    | with_reducible assumption
    | with_reducible refine RunsIn.next ?_
    | with_reducible apply State.vbatOver_leaves
    | with_unfolding_none apply hW.sub (inBoth inNil)

theorem execVbatOvervoltageEnd_frame {W : List Span} {L : List Part} {org s : State} (vbat : Int) (h : Leaves W L org s)
    (hW : Inside (one SUPPLY_STATUS.SUPPLY_FLAGS :: []) W)
    : RunsIn W L org (execVbatOvervoltageEnd vbat s) := by
  delta execVbatOvervoltageEnd
  repeat' first
    | with_reducible assumption
    | with_reducible refine RunsIn.next ?_
    | with_reducible apply State.vbatOverEnds_leaves
    | with_unfolding_none apply hW.sub (inBoth inNil)

theorem execHrCurrentLimit_frame {W : List Span} {L : List Part} {org s : State} (r : Fin 4) (on : Bool) (volts : Int) (h : Leaves W L org s)
    (hW : Inside (one (HR_TOLD r.val) :: one SUPPLY_STATUS.HR_LIMIT_EVENTS :: one SUPPLY_STATUS.SUPPLY_FLAGS :: []) W)
    (hL : Within ([.dieMsgs] : List Part) L) : RunsIn W L org (execHrCurrentLimit r on volts s) := by
  delta execHrCurrentLimit
  repeat' first
    | with_reducible assumption
    | with_reducible refine RunsIn.next ?_
    | with_reducible apply State.hrLimit_leaves
    | with_unfolding_none apply hW.sub (inBoth (inBoth (inBoth inNil)))

theorem execSupply18Low_frame {W : List Span} {L : List Part} {org s : State} (v18 : Int) (us : Nat) (h : Leaves W L org s)
    (hW : Inside (one SUPPLY_STATUS.SUPPLY_FLAGS :: one V18_LOW :: []) W)
    (hL : Within ([.dieMsgs] : List Part) L) : RunsIn W L org (execSupply18Low v18 us s) := by
  delta execSupply18Low
  repeat' first
    | with_reducible assumption
    | with_reducible refine RunsIn.next ?_
    | with_reducible apply State.supply18_leaves
    | with_unfolding_none apply hW.sub (inBoth (inBoth inNil))

theorem execLevelStep_frame {W : List Span} {L : List Part} {org s : State} (h : Leaves W L org s)
    (hW : Inside (one CLOCK_STATUS.CORE_RATE :: one PERFORMANCE.LEVEL_CHANGES :: one PERFORMANCE.LEVEL_IN_FORCE :: []) W)
    (hL : Within ([.collector] : List Part) L) : RunsIn W L org (execLevelStep s) := by
  delta execLevelStep
  repeat' first
    | with_reducible assumption
    | with_reducible refine RunsIn.next ?_
    | with_reducible apply State.levelStep_leaves
    | with_unfolding_none apply hW.sub (inBoth (inBoth (inBoth inNil)))

theorem execParkPointOfNoReturn_frame {W : List Span} {L : List Part} {org s : State} (h : Leaves W L org s)
    (hW : Inside (one PARK_FRAME :: one PARK_STAGE :: each STAND_DUE :: []) W)
    : RunsIn W L org (execParkPointOfNoReturn s) := by
  delta execParkPointOfNoReturn
  repeat' first
    | with_reducible assumption
    | with_reducible refine RunsIn.next ?_
    | with_reducible apply State.parkCommits_leaves
    | with_unfolding_none apply hW.sub (inBoth (inBoth (inBoth inNil)))

theorem execParkPowerDown_frame {W : List Span} {L : List Part} {org s : State} (h : Leaves W L org s)
    (hW : Inside (anyKey :: []) W)
    (hL : Within ([.barriers, .canQueue, .collector, .dieMsgs, .fences, .heldWrites, .landing, .late, .placing, .resp, .rings, .shadows, .signing, .staged] : List Part) L) : RunsIn W L org (execParkPowerDown s) := by
  delta execParkPowerDown
  repeat' first
    | with_reducible assumption
    | with_reducible refine RunsIn.next ?_
    | with_reducible apply State.parkDown_leaves
    | with_unfolding_none apply hW.sub (inAny)

theorem State.addBlockErrors_leaves {W : List Span} {L : List Part} {org s : State} (d n : Nat) (h : Leaves W L org s)
    (hW : Inside (one (AMLOR_LINK.BLOCK_ERRORS d) :: []) W) :
    Leaves W L org (State.addBlockErrors s d n) := by
  delta State.addBlockErrors
  repeat' first
    | with_reducible assumption
    | with_reducible apply State.setN_leaves
    | (with_unfolding_none refine hW.covers ?_; repeat first | with_unfolding_none exact Covered.here | with_unfolding_none refine Covered.next ?_)

theorem State.takeSummary_leaves {W : List Span} {L : List Part} {org s : State} (n : Nat) (h : Leaves W L org s)
    (hW : Inside (each2 RECEIVED :: []) W) :
    Leaves W L org (State.takeSummary s n) := by
  delta State.takeSummary
  repeat' first
    | with_reducible assumption
    | with_reducible apply State.set_leaves
    | (with_unfolding_none refine hW.covers ?_; repeat first | with_unfolding_none exact Covered.here | with_unfolding_none exact RECEIVED_in | with_unfolding_none refine Covered.next ?_)
    | with_reducible refine forBelow_leaves ?_ (fun _ _ _ => ?_)

theorem State.takeSummaries_leaves {W : List Span} {L : List Part} {org s : State} (d : Nat) (lost : List Nat) (h : Leaves W L org s)
    (hW : Inside (each2 RECEIVED :: []) W) :
    Leaves W L org (State.takeSummaries s d lost) := by
  delta State.takeSummaries
  repeat' first
    | with_reducible assumption
    | with_reducible apply State.takeSummary_leaves
    | with_unfolding_none apply hW.sub (inBoth inNil)
    | (extract_lets +onlyGivenNames letX; have letT : True := (by clear_value letX; guard_hyp letX : State; trivial); clear letT; refine Leaves.cut (W := W) (L := L) (r := org) (v := letX) ?_ (fun letH => ?_); (focus subst letX); rotate_left; clear_value letX; revert letX; intro _ _)
    | with_reducible refine Leaves.ite ?_ ?_
    | with_reducible refine forEach_leaves ?_ (fun _ _ _ => ?_)
    | with_reducible refine forBelow_leaves ?_ (fun _ _ _ => ?_)

theorem State.refTold_leaves {W : List Span} {L : List Part} {org s : State} (d : Nat) (h : Leaves W L org s)
    (hW : Inside (one (REF_TOLD d) :: []) W) (hL : Within ([.collector] : List Part) L) :
    Leaves W L org (State.refTold s d) := by
  delta State.refTold
  repeat' first
    | with_reducible assumption
    | with_reducible apply State.setN_leaves
    | with_reducible apply State.raise_leaves
    | (with_unfolding_none refine hW.covers ?_; repeat first | with_unfolding_none exact Covered.here | with_unfolding_none refine Covered.next ?_)
    | with_unfolding_none apply hW.sub (inNil)
    | (with_reducible refine Within.trans ?_ hL; decide +kernel)
    | with_reducible refine Leaves.ite ?_ ?_

theorem State.uplinkFrame_leaves {W : List Span} {L : List Part} {org s : State} (d : Nat) (valid : Bool) (errors : Nat) (lost : List Nat) (h : Leaves W L org s)
    (hW : Inside (one (AMLOR_LINK.BLOCK_ERRORS d) :: one (AMLOR_LINK.INVALID_FRAMES d) :: one (BAD_FRAMES d) :: each2 RECEIVED :: one (REF_TOLD d) :: []) W) (hL : Within ([.collector, .fences] : List Part) L) :
    Leaves W L org (State.uplinkFrame s d valid errors lost) := by
  delta State.uplinkFrame
  repeat' first
    | with_reducible assumption
    | with_reducible apply State.setN_leaves
    | with_reducible apply State.count_leaves
    | with_reducible apply State.addBlockErrors_leaves
    | with_reducible apply State.takeSummaries_leaves
    | with_reducible apply State.fenceReport_leaves
    | with_reducible apply State.refTold_leaves
    | (with_unfolding_none refine hW.covers ?_; repeat first | with_unfolding_none exact Covered.here | with_unfolding_none refine Covered.next ?_)
    | with_unfolding_none apply hW.sub (inBoth inNil)
    | with_unfolding_none apply hW.sub (inSkip (inSkip (inSkip (inBoth inNil))))
    | with_unfolding_none apply hW.sub (inNil)
    | with_unfolding_none apply hW.sub (inSkip (inSkip (inSkip (inSkip (inBoth inNil)))))
    | (with_reducible refine Within.trans ?_ hL; decide +kernel)
    | (extract_lets +onlyGivenNames letX; have letT : True := (by clear_value letX; guard_hyp letX : State; trivial); clear letT; refine Leaves.cut (W := W) (L := L) (r := org) (v := letX) ?_ (fun letH => ?_); (focus subst letX); rotate_left; clear_value letX; revert letX; intro _ _)
    | with_reducible refine Leaves.ite ?_ ?_

theorem State.resendAcked_leaves {W : List Span} {L : List Part} {org s : State} (d : Nat) (h : Leaves W L org s)
    (hW : Inside (one (DRIFT_DUE d) :: []) W) :
    Leaves W L org (State.resendAcked s d) := by
  delta State.resendAcked
  repeat' first
    | with_reducible assumption
    | with_reducible apply State.setN_leaves
    | (with_unfolding_none refine hW.covers ?_; repeat first | with_unfolding_none exact Covered.here | with_unfolding_none refine Covered.next ?_)
    | with_reducible refine Leaves.ite ?_ ?_

theorem State.downlinkValid_leaves {W : List Span} {L : List Part} {org s : State} (d : Nat) (lost : List Nat) (h : Leaves W L org s)
    (hW : Inside (one (DIE_OFFSET d) :: one (DL_BAD d) :: one (DRIFT_DUE d) :: one (LAST_VALID d) :: one (LOSS_STOOD d) :: []) W) (hL : Within ([.landing, .staged] : List Part) L) :
    Leaves W L org (State.downlinkValid s d lost) := by
  delta State.downlinkValid
  repeat' first
    | with_reducible assumption
    | with_reducible apply State.set_leaves
    | with_reducible apply State.setN_leaves
    | with_reducible apply State.ackStaging_leaves
    | with_reducible apply State.resendAcked_leaves
    | (with_unfolding_none refine hW.covers ?_; repeat first | with_unfolding_none exact Covered.here | with_unfolding_none refine Covered.next ?_)
    | with_unfolding_none apply hW.sub (inNil)
    | with_unfolding_none apply hW.sub (inSkip (inSkip (inBoth inNil)))
    | (with_reducible refine Within.trans ?_ hL; decide +kernel)
    | (extract_lets +onlyGivenNames letX; have letT : True := (by clear_value letX; guard_hyp letX : State; trivial); clear letT; refine Leaves.cut (W := W) (L := L) (r := org) (v := letX) ?_ (fun letH => ?_); (focus subst letX); rotate_left; clear_value letX; revert letX; intro _ _)
    | with_reducible refine Leaves.update ?_ ?_ ?_ ?_ ?_ ?_ ?_ ?_ ?_ ?_ ?_ ?_ ?_ ?_ ?_ ?_ ?_ ?_ ?_
    | with_reducible exact Or.inl rfl
    | with_reducible exact Or.inr (hL _ (by decide +kernel))

theorem State.downlinkFrame_leaves {W : List Span} {L : List Part} {org s : State} (d : Nat) (valid : Bool) (errors : Nat) (lost : List Nat) (h : Leaves W L org s)
    (hW : Inside (one (AMLOR_LINK.BLOCK_ERRORS d) :: one (AMLOR_LINK.INVALID_FRAMES d) :: one (DIE_OFFSET d) :: one (DL_BAD d) :: one (DRIFT_DUE d) :: one (LAST_VALID d) :: one (LOSS_STOOD d) :: []) W) (hL : Within ([.landing, .staged] : List Part) L) :
    Leaves W L org (State.downlinkFrame s d valid errors lost) := by
  delta State.downlinkFrame
  repeat' first
    | with_reducible assumption
    | with_reducible apply State.setN_leaves
    | with_reducible apply State.count_leaves
    | with_reducible apply State.addBlockErrors_leaves
    | with_reducible apply State.downlinkValid_leaves
    | (with_unfolding_none refine hW.covers ?_; repeat first | with_unfolding_none exact Covered.here | with_unfolding_none refine Covered.next ?_)
    | with_unfolding_none apply hW.sub (inBoth inNil)
    | with_unfolding_none apply hW.sub (inSkip (inSkip (inBoth (inBoth (inBoth (inBoth (inBoth inNil)))))))
    | (with_reducible refine Within.trans ?_ hL; decide +kernel)
    | (extract_lets +onlyGivenNames letX; have letT : True := (by clear_value letX; guard_hyp letX : State; trivial); clear letT; refine Leaves.cut (W := W) (L := L) (r := org) (v := letX) ?_ (fun letH => ?_); (focus subst letX); rotate_left; clear_value letX; revert letX; intro _ _)
    | with_reducible refine Leaves.ite ?_ ?_

theorem State.channelWakes_leaves {W : List Span} {L : List Part} {org s : State} (l : List DieMsg) (h : Leaves W L org s)
    (hW : Inside (one PARK_STAGE :: one PON_CONTROL.PON_CHANGES :: one PON_CONTROL.PON_LAST_CAUSE :: one PON_CONTROL.PON_STATE :: one POWER_STATE.PARK_ABORTS :: one POWER_STATE.STATE :: one WAKE_CONFIG.WAKE_LATCHED :: one WAKE_PENDING :: []) W) (hL : Within ([.collector] : List Part) L) :
    Leaves W L org (State.channelWakes s l) := by
  delta State.channelWakes
  repeat' first
    | with_reducible assumption
    | with_reducible apply State.latchSet_leaves
    | with_unfolding_none apply hW.sub (inBoth (inBoth (inBoth (inBoth (inBoth (inBoth (inBoth (inBoth inNil))))))))
    | (with_reducible refine Within.trans ?_ hL; decide +kernel)
    | with_reducible refine Leaves.ite ?_ ?_

theorem State.eventBlock_leaves {W : List Span} {L : List Part} {org s : State} (d : Nat) (h : Leaves W L org s)
    (hW : Inside (one PARK_STAGE :: one PON_CONTROL.PON_CHANGES :: one PON_CONTROL.PON_LAST_CAUSE :: one PON_CONTROL.PON_STATE :: one POWER_STATE.PARK_ABORTS :: one POWER_STATE.STATE :: one WAKE_CONFIG.WAKE_LATCHED :: one WAKE_PENDING :: []) W) (hL : Within ([.collector, .dieMsgs] : List Part) L) :
    Leaves W L org (State.eventBlock s d) := by
  delta State.eventBlock
  repeat' first
    | with_reducible assumption
    | with_reducible apply State.channelWakes_leaves
    | with_unfolding_none apply hW.sub (inBoth (inBoth (inBoth (inBoth (inBoth (inBoth (inBoth (inBoth inNil))))))))
    | (with_reducible refine Within.trans ?_ hL; decide +kernel)
    | with_reducible refine Leaves.ite ?_ ?_
    | split
    | with_reducible refine Leaves.update ?_ ?_ ?_ ?_ ?_ ?_ ?_ ?_ ?_ ?_ ?_ ?_ ?_ ?_ ?_ ?_ ?_ ?_ ?_
    | with_reducible exact Or.inl rfl
    | with_reducible exact Or.inr (hL _ (by decide +kernel))
    | with_reducible refine Leaves.ofPair (by assumption) ?_

theorem State.seeLast_leaves {W : List Span} {L : List Part} {org s : State} (d : Nat) (h : Leaves W L org s)
    (hW : Inside (each SEEN :: []) W) :
    Leaves W L org (State.seeLast s d) := by
  delta State.seeLast
  repeat' first
    | with_reducible assumption
    | with_reducible apply State.setN_leaves
    | (with_unfolding_none refine hW.covers ?_; repeat first | with_unfolding_none exact Covered.here | with_unfolding_none exact SEEN_in | with_unfolding_none refine Covered.next ?_)
    | with_reducible refine Leaves.ite ?_ ?_
    | with_reducible refine forEach_leaves ?_ (fun _ _ _ => ?_)

theorem State.linkRetrain_leaves {W : List Span} {L : List Part} {org s : State} (d : Nat) (h : Leaves W L org s)
    (hW : Inside (one (AMLOR_LINK.LINK_STATE d) :: one (AMLOR_LINK.RETRAINS d) :: one (BAD_FRAMES d) :: each SEEN :: []) W) (hL : Within ([.fences, .shadows] : List Part) L) :
    Leaves W L org (State.linkRetrain s d) := by
  delta State.linkRetrain
  repeat' first
    | with_reducible assumption
    | with_reducible apply State.setN_leaves
    | with_reducible apply State.count_leaves
    | with_reducible apply State.seeLast_leaves
    | with_reducible apply State.openShadow_leaves
    | with_reducible apply State.fenceExcuse_leaves
    | (with_unfolding_none refine hW.covers ?_; repeat first | with_unfolding_none exact Covered.here | with_unfolding_none refine Covered.next ?_)
    | with_unfolding_none apply hW.sub (inSkip (inSkip (inSkip (inBoth inNil))))
    | with_unfolding_none apply hW.sub (inNil)
    | (with_reducible refine Within.trans ?_ hL; decide +kernel)
    | (extract_lets +onlyGivenNames letX; have letT : True := (by clear_value letX; guard_hyp letX : State; trivial); clear letT; refine Leaves.cut (W := W) (L := L) (r := org) (v := letX) ?_ (fun letH => ?_); (focus subst letX); rotate_left; clear_value letX; revert letX; intro _ _)
    | with_reducible refine Leaves.ite ?_ ?_

theorem State.correctStamps_leaves {W : List Span} {L : List Part} {org s : State} (d : Nat) (h : Leaves W L org s)
    (hW : Inside (one (DIE_OFFSET d) :: []) W) (hL : Within ([.dieMsgs] : List Part) L) :
    Leaves W L org (State.correctStamps s d) := by
  delta State.correctStamps
  repeat' first
    | with_reducible assumption
    | with_reducible apply State.set_leaves
    | (with_unfolding_none refine hW.covers ?_; repeat first | with_unfolding_none exact Covered.here | with_unfolding_none refine Covered.next ?_)
    | (extract_lets +onlyGivenNames letX; clear_value letX; revert letX; intro _)
    | with_reducible refine Leaves.ite ?_ ?_
    | with_reducible refine Leaves.update ?_ ?_ ?_ ?_ ?_ ?_ ?_ ?_ ?_ ?_ ?_ ?_ ?_ ?_ ?_ ?_ ?_ ?_ ?_
    | with_reducible exact Or.inl rfl
    | with_reducible exact Or.inr (hL _ (by decide +kernel))

theorem State.linkComesUp_leaves {W : List Span} {L : List Part} {org s : State} (d : Nat) (two : Bool) (h : Leaves W L org s)
    (hW : Inside (one (AMLOR_LINK.LINK_STATE d) :: one (BAD_FRAMES d) :: one (DIE_OFFSET d) :: one (DL_BAD d) :: each STAND_ENTRY :: each STAND_EVENTS :: one (STAND_TRIGGERS d) :: []) W) (hL : Within ([.collector, .dieMsgs, .shadows] : List Part) L) :
    Leaves W L org (State.linkComesUp s d two) := by
  delta State.linkComesUp
  repeat' first
    | with_reducible assumption
    | with_reducible apply State.setN_leaves
    | with_reducible apply State.raise_leaves
    | with_reducible apply State.setClosing_leaves
    | with_reducible apply State.correctStamps_leaves
    | with_reducible apply State.standingReport_leaves
    | (with_unfolding_none refine hW.covers ?_; repeat first | with_unfolding_none exact Covered.here | with_unfolding_none refine Covered.next ?_)
    | with_unfolding_none apply hW.sub (inNil)
    | with_unfolding_none apply hW.sub (inSkip (inSkip (inBoth inNil)))
    | with_unfolding_none apply hW.sub (inSkip (inSkip (inSkip (inSkip (STAND_ENTRY_wide (inSkip (STAND_EVENTS_wide inNil)))))))
    | (with_reducible refine Within.trans ?_ hL; decide +kernel)
    | (extract_lets +onlyGivenNames letX; have letT : True := (by clear_value letX; guard_hyp letX : State; trivial); clear letT; refine Leaves.cut (W := W) (L := L) (r := org) (v := letX) ?_ (fun letH => ?_); (focus subst letX); rotate_left; clear_value letX; revert letX; intro _ _)
    | with_reducible refine Leaves.ite ?_ ?_
    | with_reducible refine forEach_leaves ?_ (fun _ _ _ => ?_)

theorem State.linkTrained_leaves {W : List Span} {L : List Part} {org s : State} (d : Nat) (two : Bool) (h : Leaves W L org s)
    (hW : Inside (one (AMLOR_LINK.LINK_STATE d) :: one (BAD_FRAMES d) :: one (DIE_OFFSET d) :: one (DL_BAD d) :: each STAND_ENTRY :: each STAND_EVENTS :: one (STAND_TRIGGERS d) :: []) W) (hL : Within ([.collector, .dieMsgs, .shadows] : List Part) L) :
    Leaves W L org (State.linkTrained s d two) := by
  delta State.linkTrained
  repeat' first
    | with_reducible assumption
    | with_reducible apply State.setN_leaves
    | with_reducible apply State.linkComesUp_leaves
    | (with_unfolding_none refine hW.covers ?_; repeat first | with_unfolding_none exact Covered.here | with_unfolding_none refine Covered.next ?_)
    | with_unfolding_none apply hW.sub (inBoth (inBoth (inBoth (inBoth (inBoth (inBoth (inBoth inNil)))))))
    | (with_reducible refine Within.trans ?_ hL; decide +kernel)
    | with_reducible refine Leaves.ite ?_ ?_

theorem State.rootFalls_leaves {W : List Span} {L : List Part} {org s : State} (cause : Nat) (h : Leaves W L org s)
    (hW : Inside (one CLOCK_STATUS.FALLBACK_COUNT :: one CLOCK_STATUS.ROOT_SOURCE :: []) W) (hL : Within ([.collector] : List Part) L) :
    Leaves W L org (State.rootFalls s cause) := by
  delta State.rootFalls
  repeat' first
    | with_reducible assumption
    | with_reducible apply State.setN_leaves
    | with_reducible apply State.count_leaves
    | with_reducible apply State.raise_leaves
    | (with_unfolding_none refine hW.covers ?_; repeat first | with_unfolding_none exact Covered.here | with_unfolding_none exact CLOCK_STATUS.FALLBACK_COUNT_in | with_unfolding_none exact CLOCK_STATUS.ROOT_SOURCE_in | with_unfolding_none refine Covered.next ?_)
    | with_unfolding_none apply hW.sub (inNil)
    | (with_reducible refine Within.trans ?_ hL; decide +kernel)
    | (extract_lets +onlyGivenNames letX; clear_value letX; revert letX; intro _)
    | with_reducible refine Leaves.ite ?_ ?_

theorem State.rootChecked_leaves {W : List Span} {L : List Part} {org s : State} (ppm : Int) (h : Leaves W L org s)
    (hW : Inside (one CLOCK_STATUS.FALLBACK_COUNT :: one CLOCK_STATUS.ROOT_SOURCE :: []) W) (hL : Within ([.collector, .free] : List Part) L) :
    Leaves W L org (State.rootChecked s ppm) := by
  delta State.rootChecked
  repeat' first
    | with_reducible assumption
    | with_reducible apply State.takeFreeIn_leaves
    | with_reducible apply State.rootFalls_leaves
    | with_unfolding_none apply hW.sub (inBoth (inBoth inNil))
    | (with_reducible refine Within.trans ?_ hL; decide +kernel)
    | with_reducible exact hL _ (by decide +kernel)
    | (extract_lets +onlyGivenNames letX; have letT : True := (by clear_value letX; revert letX; with_reducible exact Keeps.isPair); clear letT; refine Leaves.cut (W := W) (L := L) (r := org) (v := letX.2) ?_ (fun letH => ?_); (focus subst letX); rotate_left; clear_value letX; revert letX; intro _ _)
    | (extract_lets +onlyGivenNames letX; clear_value letX; revert letX; intro _)
    | with_reducible refine Leaves.iteP ?_ ?_
    | with_reducible refine Leaves.ite ?_ ?_

theorem State.dieRefLost_leaves {W : List Span} {L : List Part} {org s : State} (d : Nat) (h : Leaves W L org s)
    (hW : Inside (one (AMLOR_LINK.DIE_REF_SOURCE d) :: one (REF_TOLD d) :: []) W) :
    Leaves W L org (State.dieRefLost s d) := by
  delta State.dieRefLost
  repeat' first
    | with_reducible assumption
    | with_reducible apply State.setN_leaves
    | (with_unfolding_none refine hW.covers ?_; repeat first | with_unfolding_none exact Covered.here | with_unfolding_none refine Covered.next ?_)
    | (extract_lets +onlyGivenNames letX; have letT : True := (by clear_value letX; guard_hyp letX : State; trivial); clear letT; refine Leaves.cut (W := W) (L := L) (r := org) (v := letX) ?_ (fun letH => ?_); (focus subst letX); rotate_left; clear_value letX; revert letX; intro _ _)
    | with_reducible refine Leaves.ite ?_ ?_

theorem execUplinkFrameReceived_frame {W : List Span} {L : List Part} {org s : State} (d : Die) (valid : Bool) (errors : Nat) (lost : List Nat) (h : Leaves W L org s)
    (hW : Inside (one (AMLOR_LINK.BLOCK_ERRORS d.val) :: one (AMLOR_LINK.INVALID_FRAMES d.val) :: one (BAD_FRAMES d.val) :: each2 RECEIVED :: one (REF_TOLD d.val) :: []) W)
    (hL : Within ([.collector, .fences] : List Part) L) : RunsIn W L org (execUplinkFrameReceived d valid errors lost s) := by
  delta execUplinkFrameReceived
  repeat' first
    | with_reducible assumption
    | with_reducible refine RunsIn.next ?_
    | with_reducible apply State.uplinkFrame_leaves
    | with_unfolding_none apply hW.sub (inBoth (inBoth (inBoth (inBoth (inBoth inNil)))))

theorem execDownlinkFrameReceived_frame {W : List Span} {L : List Part} {org s : State} (d : Die) (valid : Bool) (errors : Nat) (lost : List Nat := []) (h : Leaves W L org s)
    (hW : Inside (one (AMLOR_LINK.BLOCK_ERRORS d.val) :: one (AMLOR_LINK.INVALID_FRAMES d.val) :: one (DIE_OFFSET d.val) :: one (DL_BAD d.val) :: one (DRIFT_DUE d.val) :: one (LAST_VALID d.val) :: one (LOSS_STOOD d.val) :: []) W)
    (hL : Within ([.landing, .staged] : List Part) L) : RunsIn W L org (execDownlinkFrameReceived d valid errors s lost) := by
  delta execDownlinkFrameReceived
  repeat' first
    | with_reducible assumption
    | with_reducible refine RunsIn.next ?_
    | with_reducible apply State.downlinkFrame_leaves
    | with_unfolding_none apply hW.sub (inBoth (inBoth (inBoth (inBoth (inBoth (inBoth (inBoth inNil)))))))

theorem execEventBlockReceived_frame {W : List Span} {L : List Part} {org s : State} (d : Die) (h : Leaves W L org s)
    (hW : Inside (one PARK_STAGE :: one PON_CONTROL.PON_CHANGES :: one PON_CONTROL.PON_LAST_CAUSE :: one PON_CONTROL.PON_STATE :: one POWER_STATE.PARK_ABORTS :: one POWER_STATE.STATE :: one WAKE_CONFIG.WAKE_LATCHED :: one WAKE_PENDING :: []) W)
    (hL : Within ([.collector, .dieMsgs] : List Part) L) : RunsIn W L org (execEventBlockReceived d s) := by
  delta execEventBlockReceived
  repeat' first
    | with_reducible assumption
    | with_reducible refine RunsIn.next ?_
    | with_reducible apply State.eventBlock_leaves
    | with_unfolding_none apply hW.sub (inBoth (inBoth (inBoth (inBoth (inBoth (inBoth (inBoth (inBoth inNil))))))))

theorem execLinkRetrain_frame {W : List Span} {L : List Part} {org s : State} (d : Die) (h : Leaves W L org s)
    (hW : Inside (one (AMLOR_LINK.LINK_STATE d.val) :: one (AMLOR_LINK.RETRAINS d.val) :: one (BAD_FRAMES d.val) :: each SEEN :: []) W)
    (hL : Within ([.fences, .shadows] : List Part) L) : RunsIn W L org (execLinkRetrain d s) := by
  delta execLinkRetrain
  repeat' first
    | with_reducible assumption
    | with_reducible refine RunsIn.next ?_
    | with_reducible apply State.linkRetrain_leaves
    | with_unfolding_none apply hW.sub (inBoth (inBoth (inBoth (inBoth inNil))))

theorem execLinkTrained_frame {W : List Span} {L : List Part} {org s : State} (d : Die) (two : Bool) (h : Leaves W L org s)
    (hW : Inside (one (AMLOR_LINK.LINK_STATE d.val) :: one (BAD_FRAMES d.val) :: one (DIE_OFFSET d.val) :: one (DL_BAD d.val) :: each STAND_ENTRY :: each STAND_EVENTS :: one (STAND_TRIGGERS d.val) :: []) W)
    (hL : Within ([.collector, .dieMsgs, .shadows] : List Part) L) : RunsIn W L org (execLinkTrained d two s) := by
  delta execLinkTrained
  repeat' first
    | with_reducible assumption
    | with_reducible refine RunsIn.next ?_
    | with_reducible apply State.linkTrained_leaves
    | with_unfolding_none apply hW.sub (inBoth (inBoth (inBoth (inBoth (inBoth (inBoth (inBoth inNil)))))))

theorem execReferenceEdgeLoss_frame {W : List Span} {L : List Part} {org s : State} (h : Leaves W L org s)
    (hW : Inside (one CLOCK_STATUS.FALLBACK_COUNT :: one CLOCK_STATUS.ROOT_SOURCE :: []) W)
    (hL : Within ([.collector] : List Part) L) : RunsIn W L org (execReferenceEdgeLoss s) := by
  delta execReferenceEdgeLoss
  repeat' first
    | with_reducible assumption
    | with_reducible refine RunsIn.next ?_
    | with_reducible apply State.rootFalls_leaves
    | with_unfolding_none apply hW.sub (inBoth (inBoth inNil))

theorem execReferenceFrequencyCheck_frame {W : List Span} {L : List Part} {org s : State} (ppm : Int) (h : Leaves W L org s)
    (hW : Inside (one CLOCK_STATUS.FALLBACK_COUNT :: one CLOCK_STATUS.ROOT_SOURCE :: []) W)
    (hL : Within ([.collector, .free] : List Part) L) : RunsIn W L org (execReferenceFrequencyCheck ppm s) := by
  delta execReferenceFrequencyCheck
  repeat' first
    | with_reducible assumption
    | with_reducible refine RunsIn.next ?_
    | with_reducible apply State.rootChecked_leaves
    | with_unfolding_none apply hW.sub (inBoth (inBoth inNil))

theorem execDieReferenceLoss_frame {W : List Span} {L : List Part} {org s : State} (d : Die) (h : Leaves W L org s)
    (hW : Inside (one (AMLOR_LINK.DIE_REF_SOURCE d.val) :: one (REF_TOLD d.val) :: []) W)
    : RunsIn W L org (execDieReferenceLoss d s) := by
  delta execDieReferenceLoss
  repeat' first
    | with_reducible assumption
    | with_reducible refine RunsIn.next ?_
    | with_reducible apply State.dieRefLost_leaves
    | with_unfolding_none apply hW.sub (inBoth (inBoth inNil))

theorem State.setEntry_leaves {W : List Span} {L : List Part} {org s : State} (v : Nat) (h : Leaves W L org s)
    (hW : Inside (one (OPENING_JOURNAL.ENTRY 0) :: one RET_ENTRY :: []) W) :
    Leaves W L org (State.setEntry s v) := by
  delta State.setEntry
  repeat' first
    | with_reducible assumption
    | with_reducible apply State.setN_leaves
    | (with_unfolding_none refine hW.covers ?_; repeat first | with_unfolding_none exact Covered.here | with_unfolding_none exact RET_ENTRY_in | with_unfolding_none refine Covered.next ?_)

theorem State.entryEnds_leaves {W : List Span} {L : List Part} {org s : State} (outcome failed reached : Nat) (h : Leaves W L org s)
    (hW : Inside (one (OPENING_JOURNAL.ENTRY 0) :: one RET_ENTRY :: []) W) :
    Leaves W L org (State.entryEnds s outcome failed reached) := by
  delta State.entryEnds
  repeat' first
    | with_reducible assumption
    | with_reducible apply State.setEntry_leaves
    | with_unfolding_none apply hW.sub (inBoth (inBoth inNil))
    | (extract_lets +onlyGivenNames letX; clear_value letX; revert letX; intro _)

theorem State.openingCut_leaves {W : List Span} {L : List Part} {org s : State} (cause : Nat) (h : Leaves W L org s)
    (hW : Inside (one KEEPER.FAILED_OPENINGS :: one (OPENING_JOURNAL.ENTRY 0) :: one RET_ENTRY :: []) W) :
    Leaves W L org (State.openingCut s cause) := by
  delta State.openingCut
  repeat' first
    | with_reducible assumption
    | with_reducible apply State.count_leaves
    | with_reducible apply State.entryEnds_leaves
    | (with_unfolding_none refine hW.covers ?_; repeat first | with_unfolding_none exact Covered.here | with_unfolding_none exact KEEPER.FAILED_OPENINGS_in | with_unfolding_none refine Covered.next ?_)
    | with_unfolding_none apply hW.sub (inSkip (inBoth (inBoth inNil)))
    | (extract_lets +onlyGivenNames letX; have letT : True := (by clear_value letX; guard_hyp letX : State; trivial); clear letT; refine Leaves.cut (W := W) (L := L) (r := org) (v := letX) ?_ (fun letH => ?_); (focus subst letX); rotate_left; clear_value letX; revert letX; intro _ _)
    | (extract_lets +onlyGivenNames letX; clear_value letX; revert letX; intro _)
    | with_reducible refine Leaves.ite ?_ ?_

theorem State.addCause_leaves {W : List Span} {L : List Part} {org s : State} (cause site : Nat) (h : Leaves W L org s)
    (hW : Inside (one RESET_CAUSE.CAUSES_SEEN :: one RESET_CAUSE.CAUSE_SITE :: one RESET_CAUSE.LAST_CAUSE :: one RESET_CAUSE.LAST_KIND :: one RESET_UNTIL :: []) W) :
    Leaves W L org (State.addCause s cause site) := by
  delta State.addCause
  repeat' first
    | with_reducible assumption
    | with_reducible apply State.setN_leaves
    | with_reducible apply State.setBit_leaves
    | (with_unfolding_none refine hW.covers ?_; repeat first | with_unfolding_none exact Covered.here | with_unfolding_none exact RESET_CAUSE.CAUSES_SEEN_in | with_unfolding_none exact RESET_CAUSE.CAUSE_SITE_in | with_unfolding_none exact RESET_CAUSE.LAST_CAUSE_in | with_unfolding_none exact RESET_CAUSE.LAST_KIND_in | with_unfolding_none exact RESET_UNTIL_in | with_unfolding_none refine Covered.next ?_)
    | (extract_lets +onlyGivenNames letX; have letT : True := (by clear_value letX; guard_hyp letX : State; trivial); clear letT; refine Leaves.cut (W := W) (L := L) (r := org) (v := letX) ?_ (fun letH => ?_); (focus subst letX); rotate_left; clear_value letX; revert letX; intro _ _)
    | (extract_lets +onlyGivenNames letX; clear_value letX; revert letX; intro _)
    | with_reducible refine Leaves.ite ?_ ?_

theorem State.gateUnpowered_leaves {W : List Span} {L : List Part} {org s : State} (n : Nat) (h : Leaves W L org s)
    (hW : Inside (one (CELL n) :: one (GATE n) :: one (LATCH n) :: []) W) :
    Leaves W L org (State.gateUnpowered s n) := by
  delta State.gateUnpowered
  repeat' first
    | with_reducible assumption
    | with_reducible apply State.setN_leaves
    | (with_unfolding_none refine hW.covers ?_; repeat first | with_unfolding_none exact Covered.here | with_unfolding_none refine Covered.next ?_)
    | with_reducible refine Leaves.ite ?_ ?_

theorem State.clearAll_leaves {W : List Span} {L : List Part} {org s : State} (full : Bool) (h : Leaves W L org s)
    (hW : Inside (anyKey :: []) W) (hL : Within ([.barriers, .canQueue, .collector, .dieMsgs, .fences, .heldWrites, .landing, .late, .placing, .resp, .rings, .shadows, .signing, .staged] : List Part) L) :
    Leaves W L org (State.clearAll s full) := by
  delta State.clearAll
  repeat' first
    | with_reducible assumption
    | with_reducible apply State.wipe_leaves
    | with_unfolding_none apply hW.sub (inAny)
    | (with_reducible refine Within.trans ?_ hL; decide +kernel)
    | (extract_lets +onlyGivenNames letX; have letT : True := (by clear_value letX; guard_hyp letX : State; trivial); clear letT; refine Leaves.cut (W := W) (L := L) (r := org) (v := letX) ?_ (fun letH => ?_); (focus subst letX); rotate_left; clear_value letX; revert letX; intro _ _)
    | (extract_lets +onlyGivenNames letX; have letT : True := (by clear_value letX; revert letX; with_reducible exact Keeps.isPair); clear letT; refine Leaves.cut (W := W) (L := L) (r := org) (v := letX.2) ?_ (fun letH => ?_); (focus subst letX); rotate_left; clear_value letX; revert letX; intro _ _)
    | (extract_lets +onlyGivenNames letX; clear_value letX; revert letX; intro _)
    | with_reducible refine Leaves.ite ?_ ?_
    | with_reducible refine Leaves.update ?_ ?_ ?_ ?_ ?_ ?_ ?_ ?_ ?_ ?_ ?_ ?_ ?_ ?_ ?_ ?_ ?_ ?_ ?_
    | with_reducible exact Or.inl rfl
    | with_reducible exact Or.inr (hL _ (by decide +kernel))

theorem State.diesOff_leaves {W : List Span} {L : List Part} {org s : State} (absent : Bool) (h : Leaves W L org s)
    (hW : Inside (anyKey :: []) W) (hL : Within ([.barriers, .canQueue, .collector, .dieMsgs, .fences, .heldWrites, .landing, .late, .placing, .resp, .rings, .shadows, .signing, .staged] : List Part) L) :
    Leaves W L org (State.diesOff s absent) := by
  delta State.diesOff
  repeat' first
    | with_reducible assumption
    | with_reducible apply State.setN_leaves
    | with_reducible apply State.logicFails_leaves
    | with_reducible apply State.clearAll_leaves
    | (with_unfolding_none refine hW.covers ?_; repeat first | with_unfolding_none exact dyn_in | with_unfolding_none refine Covered.next ?_)
    | with_unfolding_none apply hW.sub (inAny)
    | (with_reducible refine Within.trans ?_ hL; decide +kernel)
    | (extract_lets +onlyGivenNames letX; have letT : True := (by clear_value letX; guard_hyp letX : State; trivial); clear letT; refine Leaves.cut (W := W) (L := L) (r := org) (v := letX) ?_ (fun letH => ?_); (focus subst letX); rotate_left; clear_value letX; revert letX; intro _ _)
    | (extract_lets +onlyGivenNames letX; clear_value letX; revert letX; intro _)
    | with_reducible refine forEach_leaves ?_ (fun _ _ _ => ?_)
    | with_reducible refine forBelow_leaves ?_ (fun _ _ _ => ?_)

theorem State.diesReleased_leaves {W : List Span} {L : List Part} {org s : State} (h : Leaves W L org s)
    (hW : Inside (each BANK.BANK_FLAGS :: each CAL_AT :: each CELL :: each CHANNEL_PROTECTION.MODEL_FLAGS :: each CHANNEL_STATUS.FLAGS :: each CHANNEL_STATUS.STANDING_GATE :: each CHANNEL_STATUS.STATE :: one DIES_HELD :: each GATE :: each LAMP_LOW :: each LAMP_TOLD :: each LAST_VALID :: each LATCH :: each LIMIT_EPISODE :: each LIMIT_LEFT :: each LIMIT_SINCE :: each LIMIT_SPENT :: each LOGIC_OFF :: each PUMP_START :: each PUMP_STOP_AT :: each RESET_OUTPUT.ASSERT_COUNT :: each RESET_OUTPUT.LAST_CHANGE_STAMP :: each RESET_OUTPUT.OUTPUT :: each RSO_GOOD_SINCE :: each RUN_SINCE :: each RUN_SPENT :: each WIN :: []) W) (hL : Within ([.collector, .dieMsgs] : List Part) L) :
    Leaves W L org (State.diesReleased s) := by
  delta State.diesReleased
  repeat' first
    | with_reducible assumption
    | with_reducible apply State.setN_leaves
    | with_reducible apply State.cellTo_leaves
    | (with_unfolding_none refine hW.covers ?_; repeat first | with_unfolding_none exact Covered.here | with_unfolding_none exact CAL_AT_in | with_unfolding_none exact DIES_HELD_in | with_unfolding_none exact LAST_VALID_in | with_unfolding_none exact LOGIC_OFF_in | with_unfolding_none refine Covered.next ?_)
    | with_unfolding_none apply hW.sub (BANK.BANK_FLAGS_wide (inSkip (inSkip (CELL_wide (inSkip (CHANNEL_PROTECTION.MODEL_FLAGS_wide (inSkip (CHANNEL_STATUS.FLAGS_wide (inSkip (CHANNEL_STATUS.STANDING_GATE_wide (inSkip (CHANNEL_STATUS.STATE_wide (inSkip (inSkip (GATE_wide (inSkip (LAMP_LOW_wide (inSkip (LAMP_TOLD_wide (inSkip (inSkip (LATCH_wide (inSkip (LIMIT_EPISODE_wide (inSkip (LIMIT_LEFT_wide (inSkip (LIMIT_SINCE_wide (inSkip (LIMIT_SPENT_wide (inSkip (inSkip (PUMP_START_wide (inSkip (PUMP_STOP_AT_wide (inSkip (inBoth (inBoth (inBoth (inBoth (RUN_SINCE_wide (inSkip (RUN_SPENT_wide (inSkip (WIN_wide inNil)))))))))))))))))))))))))))))))))))))))))))))
    | (with_reducible refine Within.trans ?_ hL; decide +kernel)
    | (extract_lets +onlyGivenNames letX; have letT : True := (by clear_value letX; guard_hyp letX : State; trivial); clear letT; refine Leaves.cut (W := W) (L := L) (r := org) (v := letX) ?_ (fun letH => ?_); (focus subst letX); rotate_left; clear_value letX; revert letX; intro _ _)
    | with_reducible refine Leaves.ite ?_ ?_
    | with_reducible refine forBelow_leaves ?_ (fun _ _ _ => ?_)

theorem State.resetBegin_leaves {W : List Span} {L : List Part} {org s : State} (cause site : Nat) (full absent : Bool) (h : Leaves W L org s)
    (hW : Inside (anyKey :: []) W) (hL : Within ([.barriers, .canQueue, .collector, .dieMsgs, .fences, .heldWrites, .landing, .late, .placing, .resp, .rings, .shadows, .signing, .staged] : List Part) L) :
    Leaves W L org (State.resetBegin s cause site full absent) := by
  delta State.resetBegin
  repeat' first
    | with_reducible assumption
    | with_reducible apply State.setN_leaves
    | with_reducible apply State.setFlag_leaves
    | with_reducible apply State.count_leaves
    | with_reducible apply State.diesOff_leaves
    | with_reducible apply State.addCause_leaves
    | with_reducible apply State.openingCut_leaves
    | with_reducible apply State.convertersOut_leaves
    | with_reducible apply State.keepCopies_leaves
    | with_reducible apply State.recordCut_leaves
    | with_reducible apply State.clearAll_leaves
    | with_reducible apply State.swNoClosed_leaves
    | with_reducible apply State.asDrop_leaves
    | (with_unfolding_none refine hW.covers ?_; repeat first | with_unfolding_none exact dyn_in | with_unfolding_none refine Covered.next ?_)
    | with_unfolding_none apply hW.sub (inAny)
    | (with_reducible refine Within.trans ?_ hL; decide +kernel)
    | (extract_lets +onlyGivenNames letX; have letT : True := (by clear_value letX; guard_hyp letX : State; trivial); clear letT; refine Leaves.cut (W := W) (L := L) (r := org) (v := letX) ?_ (fun letH => ?_); (focus subst letX); rotate_left; clear_value letX; revert letX; intro _ _)
    | with_reducible refine Leaves.ite ?_ ?_

theorem State.vbatFalls_leaves {W : List Span} {L : List Part} {org s : State} (h : Leaves W L org s)
    (hW : Inside (anyKey :: []) W) (hL : Within ([.barriers, .canQueue, .collector, .dieMsgs, .fences, .heldWrites, .landing, .late, .placing, .resp, .rings, .shadows, .signing, .staged] : List Part) L) :
    Leaves W L org (State.vbatFalls s) := by
  delta State.vbatFalls
  repeat' first
    | with_reducible assumption
    | with_reducible apply State.setN_leaves
    | with_reducible apply State.gateUnpowered_leaves
    | with_reducible apply State.resetBegin_leaves
    | with_reducible apply State.addCause_leaves
    | with_reducible apply State.pwmFloat_leaves
    | (with_unfolding_none refine hW.covers ?_; repeat first | with_unfolding_none exact dyn_in | with_unfolding_none refine Covered.next ?_)
    | with_unfolding_none apply hW.sub (inAny)
    | (with_reducible refine Within.trans ?_ hL; decide +kernel)
    | (extract_lets +onlyGivenNames letX; have letT : True := (by clear_value letX; guard_hyp letX : State; trivial); clear letT; refine Leaves.cut (W := W) (L := L) (r := org) (v := letX) ?_ (fun letH => ?_); (focus subst letX); rotate_left; clear_value letX; revert letX; intro _ _)
    | (extract_lets +onlyGivenNames letX; clear_value letX; revert letX; intro _)
    | with_reducible refine Leaves.ite ?_ ?_
    | with_reducible refine forBelow_leaves ?_ (fun _ _ _ => ?_)

theorem State.vbatRises_leaves {W : List Span} {L : List Part} {org s : State} (h : Leaves W L org s)
    (hW : Inside (each CELL :: one DEV_STATE :: each GATE :: each2 LANE_EDGE :: each LATCH :: one RSTOUT_HIGH :: one VBAT_GONE_AT :: one VBAT_OUT :: one VBAT_ROSE_AT :: []) W) :
    Leaves W L org (State.vbatRises s) := by
  delta State.vbatRises
  repeat' first
    | with_reducible assumption
    | with_reducible apply State.setN_leaves
    | with_reducible apply State.pwmLow_leaves
    | (with_unfolding_none refine hW.covers ?_; repeat first | with_unfolding_none exact Covered.here | with_unfolding_none exact CELL_in | with_unfolding_none exact DEV_STATE_in | with_unfolding_none exact GATE_in | with_unfolding_none exact LATCH_in | with_unfolding_none exact RSTOUT_HIGH_in | with_unfolding_none exact VBAT_GONE_AT_in | with_unfolding_none exact VBAT_OUT_in | with_unfolding_none exact VBAT_ROSE_AT_in | with_unfolding_none refine Covered.next ?_)
    | with_unfolding_none apply hW.sub (inSkip (inSkip (inSkip (inBoth inNil))))
    | (extract_lets +onlyGivenNames letX; have letT : True := (by clear_value letX; guard_hyp letX : State; trivial); clear letT; refine Leaves.cut (W := W) (L := L) (r := org) (v := letX) ?_ (fun letH => ?_); (focus subst letX); rotate_left; clear_value letX; revert letX; intro _ _)
    | (extract_lets +onlyGivenNames letX; clear_value letX; revert letX; intro _)
    | with_reducible refine Leaves.ite ?_ ?_
    | with_reducible refine forEach_leaves ?_ (fun _ _ _ => ?_)
    | with_reducible refine forBelow_leaves ?_ (fun _ _ _ => ?_)

theorem State.vbatCycle_leaves {W : List Span} {L : List Part} {org s : State} (h : Leaves W L org s)
    (hW : Inside (one KEEPER.FAILED_OPENINGS :: one KEEPER.LAST_HOLD_SECONDS :: one KEEPER.RETRY_SERIES :: one KEEPER_HOLDING :: []) W) :
    Leaves W L org (State.vbatCycle s) := by
  delta State.vbatCycle
  repeat' first
    | with_reducible assumption
    | with_reducible apply State.powerCycle_leaves
    | with_unfolding_none apply hW.sub (inBoth (inBoth (inBoth (inBoth inNil))))
    | with_reducible refine Leaves.ite ?_ ?_

theorem State.supplySeen_leaves {W : List Span} {L : List Part} {org s : State} (i us : Nat) (low : Bool) (h : Leaves W L org s)
    (hW : Inside (one (SUPPLY_LOW i) :: []) W) :
    Leaves W L org (State.supplySeen s i us low) := by
  delta State.supplySeen
  repeat' first
    | with_reducible assumption
    | with_reducible apply State.setN_leaves
    | (with_unfolding_none refine hW.covers ?_; repeat first | with_unfolding_none exact Covered.here | with_unfolding_none refine Covered.next ?_)
    | with_reducible refine Leaves.ite ?_ ?_

theorem State.vhLow_leaves {W : List Span} {L : List Part} {org s : State} (vh : Int) (us : Nat) (h : Leaves W L org s)
    (hW : Inside (anyKey :: []) W) (hL : Within ([.barriers, .canQueue, .collector, .dieMsgs, .fences, .heldWrites, .landing, .late, .placing, .resp, .rings, .shadows, .signing, .staged] : List Part) L) :
    Leaves W L org (State.vhLow s vh us) := by
  delta State.vhLow
  repeat' first
    | with_reducible assumption
    | with_reducible apply State.supplySeen_leaves
    | with_reducible apply State.resetBegin_leaves
    | with_unfolding_none apply hW.sub (inAny)
    | (with_reducible refine Within.trans ?_ hL; decide +kernel)
    | (extract_lets +onlyGivenNames letX; have letT : True := (by clear_value letX; guard_hyp letX : State; trivial); clear letT; refine Leaves.cut (W := W) (L := L) (r := org) (v := letX) ?_ (fun letH => ?_); (focus subst letX); rotate_left; clear_value letX; revert letX; intro _ _)
    | with_reducible refine Leaves.ite ?_ ?_

theorem State.vcoreLow_leaves {W : List Span} {L : List Part} {org s : State} (v : Int) (us : Nat) (h : Leaves W L org s)
    (hW : Inside (anyKey :: []) W) (hL : Within ([.barriers, .canQueue, .collector, .dieMsgs, .fences, .heldWrites, .landing, .late, .placing, .resp, .rings, .shadows, .signing, .staged] : List Part) L) :
    Leaves W L org (State.vcoreLow s v us) := by
  delta State.vcoreLow
  repeat' first
    | with_reducible assumption
    | with_reducible apply State.supplySeen_leaves
    | with_reducible apply State.resetBegin_leaves
    | with_unfolding_none apply hW.sub (inAny)
    | (with_reducible refine Within.trans ?_ hL; decide +kernel)
    | (extract_lets +onlyGivenNames letX; have letT : True := (by clear_value letX; guard_hyp letX : State; trivial); clear letT; refine Leaves.cut (W := W) (L := L) (r := org) (v := letX) ?_ (fun letH => ?_); (focus subst letX); rotate_left; clear_value letX; revert letX; intro _ _)
    | (extract_lets +onlyGivenNames letX; clear_value letX; revert letX; intro _)
    | with_reducible refine Leaves.ite ?_ ?_

theorem State.vioLow_leaves {W : List Span} {L : List Part} {org s : State} (v : Int) (us : Nat) (h : Leaves W L org s)
    (hW : Inside (anyKey :: []) W) (hL : Within ([.barriers, .canQueue, .collector, .dieMsgs, .fences, .heldWrites, .landing, .late, .placing, .resp, .rings, .shadows, .signing, .staged] : List Part) L) :
    Leaves W L org (State.vioLow s v us) := by
  delta State.vioLow
  repeat' first
    | with_reducible assumption
    | with_reducible apply State.supplySeen_leaves
    | with_reducible apply State.resetBegin_leaves
    | with_unfolding_none apply hW.sub (inAny)
    | (with_reducible refine Within.trans ?_ hL; decide +kernel)
    | (extract_lets +onlyGivenNames letX; have letT : True := (by clear_value letX; guard_hyp letX : State; trivial); clear letT; refine Leaves.cut (W := W) (L := L) (r := org) (v := letX) ?_ (fun letH => ?_); (focus subst letX); rotate_left; clear_value letX; revert letX; intro _ _)
    | with_reducible refine Leaves.ite ?_ ?_

theorem State.rstinLow_leaves {W : List Span} {L : List Part} {org s : State} (us : Nat) (h : Leaves W L org s)
    (hW : Inside (anyKey :: []) W) (hL : Within ([.barriers, .canQueue, .collector, .dieMsgs, .fences, .free, .heldWrites, .landing, .late, .placing, .resp, .rings, .shadows, .signing, .staged] : List Part) L) :
    Leaves W L org (State.rstinLow s us) := by
  delta State.rstinLow
  repeat' first
    | with_reducible assumption
    | with_reducible apply State.setN_leaves
    | with_reducible apply State.takeFreeIn_leaves
    | with_reducible apply State.resetBegin_leaves
    | (with_unfolding_none refine hW.covers ?_; repeat first | with_unfolding_none exact dyn_in | with_unfolding_none refine Covered.next ?_)
    | with_unfolding_none apply hW.sub (inAny)
    | (with_reducible refine Within.trans ?_ hL; decide +kernel)
    | with_reducible exact hL _ (by decide +kernel)
    | (extract_lets +onlyGivenNames letX; have letT : True := (by clear_value letX; guard_hyp letX : State; trivial); clear letT; refine Leaves.cut (W := W) (L := L) (r := org) (v := letX) ?_ (fun letH => ?_); (focus subst letX); rotate_left; clear_value letX; revert letX; intro _ _)
    | (extract_lets +onlyGivenNames letX; have letT : True := (by clear_value letX; revert letX; with_reducible exact Keeps.isPair); clear letT; refine Leaves.cut (W := W) (L := L) (r := org) (v := letX.2) ?_ (fun letH => ?_); (focus subst letX); rotate_left; clear_value letX; revert letX; intro _ _)
    | (extract_lets +onlyGivenNames letX; clear_value letX; revert letX; intro _)
    | with_reducible refine Leaves.iteP ?_ ?_
    | with_reducible refine Leaves.ite ?_ ?_

theorem State.wdxExpiry_leaves {W : List Span} {L : List Part} {org s : State} (h : Leaves W L org s)
    (hW : Inside (anyKey :: []) W) (hL : Within ([.barriers, .canQueue, .collector, .dieMsgs, .fences, .heldWrites, .landing, .late, .placing, .resp, .rings, .shadows, .signing, .staged] : List Part) L) :
    Leaves W L org (State.wdxExpiry s) := by
  delta State.wdxExpiry
  repeat' first
    | with_reducible assumption
    | with_reducible apply State.resetBegin_leaves
    | with_reducible apply State.wdxExpires_leaves
    | with_unfolding_none apply hW.sub (inAny)
    | (with_reducible refine Within.trans ?_ hL; decide +kernel)
    | with_reducible refine Leaves.ite ?_ ?_

theorem State.channelDieReset_leaves {W : List Span} {L : List Part} {org s : State} (d site : Nat) (h : Leaves W L org s)
    (hW : Inside (anyKey :: []) W) (hL : Within ([.collector, .dieMsgs, .late, .shadows, .staged] : List Part) L) :
    Leaves W L org (State.channelDieReset s d site) := by
  delta State.channelDieReset
  repeat' first
    | with_reducible assumption
    | with_reducible apply State.setN_leaves
    | with_reducible apply State.count_leaves
    | with_reducible apply State.restore_leaves
    | with_reducible apply State.setBlob_leaves
    | with_reducible apply State.channelLogicReset_leaves
    | with_reducible apply State.cellTo_leaves
    | with_reducible apply State.asDrop_leaves
    | with_reducible apply State.standDie_leaves
    | with_reducible apply State.openShadow_leaves
    | with_reducible apply State.raiseDie_leaves
    | with_reducible apply State.swNoClosed_leaves
    | (with_unfolding_none refine hW.covers ?_; repeat first | with_unfolding_none exact dyn_in | with_unfolding_none refine Covered.next ?_)
    | with_unfolding_none apply hW.sub (inAny)
    | with_unfolding_none apply hW.sub (inNil)
    | (with_reducible refine Within.trans ?_ hL; decide +kernel)
    | (extract_lets +onlyGivenNames letX; have letT : True := (by clear_value letX; guard_hyp letX : State; trivial); clear letT; refine Leaves.cut (W := W) (L := L) (r := org) (v := letX) ?_ (fun letH => ?_); (focus subst letX); rotate_left; clear_value letX; revert letX; intro _ _)
    | (extract_lets +onlyGivenNames letX; clear_value letX; revert letX; intro _)
    | with_reducible refine Leaves.ite ?_ ?_
    | with_reducible refine forEach_leaves ?_ (fun _ _ _ => ?_)
    | with_reducible refine Leaves.update ?_ ?_ ?_ ?_ ?_ ?_ ?_ ?_ ?_ ?_ ?_ ?_ ?_ ?_ ?_ ?_ ?_ ?_ ?_
    | with_reducible exact Or.inl rfl
    | with_reducible exact Or.inr (hL _ (by decide +kernel))

theorem State.criticalError_leaves {W : List Span} {L : List Part} {org s : State} (die : Option Die) (site : Nat) (h : Leaves W L org s)
    (hW : Inside (anyKey :: []) W) (hL : Within ([.barriers, .canQueue, .collector, .dieMsgs, .fences, .heldWrites, .landing, .late, .placing, .resp, .rings, .shadows, .signing, .staged] : List Part) L) :
    Leaves W L org (State.criticalError s die site) := by
  delta State.criticalError
  repeat' first
    | with_reducible assumption
    | with_reducible apply State.channelDieReset_leaves
    | with_reducible apply State.resetBegin_leaves
    | with_unfolding_none apply hW.sub (inAny)
    | (with_reducible refine Within.trans ?_ hL; decide +kernel)
    | with_reducible refine Leaves.ite ?_ ?_
    | split
    | with_reducible refine Leaves.ofPair (by assumption) ?_

theorem State.keeperHolds_leaves {W : List Span} {L : List Part} {org s : State} (kind : Nat) (h : Leaves W L org s)
    (hW : Inside (each ADMIT_KIND :: each BANK.BANK_FLAGS :: each BLANK_UNTIL :: each CAL_AT :: each CASTLING_PAIR.SWAP_RESULT :: each CASTLING_PAIR.SWAP_STATE :: each CELL :: each CHANNEL_CONFIG.REQUEST :: each CHANNEL_PROTECTION.MODEL_FLAGS :: each CHANNEL_STATUS.FLAGS :: each CHANNEL_STATUS.STANDING_CAUSE :: each CHANNEL_STATUS.STANDING_GATE :: each CHANNEL_STATUS.STATE :: each CHANNEL_SUPERVISION.RETRIES :: each CHANNEL_SUPERVISION.STARTS :: one DIES_HELD :: each FOLD_WAIT :: each GATE :: one KEEPER.HOLDS :: one KEEPER_AT :: one KEEPER_HOLDING :: one KEEPER_LAST :: one KEEPER_TOLD :: each LAMP_AT :: each LAMP_LOW :: each LAMP_TOLD :: each LAST_VALID :: each LATCH :: each LIMIT_EPISODE :: each LIMIT_LEFT :: each LIMIT_SINCE :: each LIMIT_SPENT :: each LOGIC_OFF :: each ND_GROUP :: each PEND :: each PUMP_START :: each PUMP_STOP_AT :: each PWM_HIGH :: each RAMP_RETRY :: each RAMP_START :: one RESET_FULL :: each RESET_OUTPUT.ASSERT_COUNT :: each RESET_OUTPUT.LAST_CHANGE_STAMP :: each RESET_OUTPUT.OUTPUT :: each RSO_GOOD_SINCE :: each RSO_TOGGLE_AT :: each RUN_SINCE :: each RUN_SPENT :: each SAFE_WAIT :: each STAND_ENTRY :: each STAND_EVENTS :: each STAND_TRIGGERS :: each START_AT :: each STORED_WAIT :: each SWAP_IN :: each TRIP_STATE :: each WIN :: (each fun n => inForce (CHANNEL_CONFIG.REQUEST n)) :: []) W) (hL : Within ([.collector, .dieMsgs, .staged] : List Part) L) :
    Leaves W L org (State.keeperHolds s kind) := by
  delta State.keeperHolds
  repeat' first
    | with_reducible assumption
    | with_reducible apply State.setN_leaves
    | with_reducible apply State.count_leaves
    | with_reducible apply State.standDie_leaves
    | with_reducible apply State.diesReleased_leaves
    | (with_unfolding_none refine hW.covers ?_; repeat first | with_unfolding_none exact Covered.here | with_unfolding_none exact KEEPER.HOLDS_in | with_unfolding_none exact KEEPER_AT_in | with_unfolding_none exact KEEPER_HOLDING_in | with_unfolding_none exact KEEPER_LAST_in | with_unfolding_none exact KEEPER_TOLD_in | with_unfolding_none exact RESET_FULL_in | with_unfolding_none exact RSO_TOGGLE_AT_in | with_unfolding_none refine Covered.next ?_)
    | with_unfolding_none apply hW.sub (inBoth (inBoth (inBoth (inSkip (inBoth (inBoth (inBoth (inBoth (inBoth (inBoth (inBoth (inBoth (inBoth (inBoth (inBoth (inSkip (inBoth (inBoth (inSkip (inSkip (inSkip (inSkip (inSkip (inBoth (inBoth (inBoth (inSkip (inBoth (inBoth (inBoth (inBoth (inBoth (inSkip (inBoth (inBoth (inBoth (inBoth (inBoth (inBoth (inBoth (inSkip (inBoth (inBoth (inBoth (inBoth (inSkip (inBoth (inBoth (inBoth (inBoth (inBoth (STAND_TRIGGERS_wide (inSkip (inBoth (inBoth (inBoth (inBoth (inBoth (inBoth inNil)))))))))))))))))))))))))))))))))))))))))))))))))))))))))))
    | with_unfolding_none apply hW.sub (inSkip (inBoth (inSkip (inBoth (inSkip (inSkip (inBoth (inSkip (inBoth (inBoth (inSkip (inBoth (inBoth (inSkip (inSkip (inBoth (inSkip (inBoth (inSkip (inSkip (inSkip (inSkip (inSkip (inSkip (inBoth (inBoth (inBoth (inBoth (inBoth (inBoth (inBoth (inBoth (inBoth (inSkip (inSkip (inBoth (inBoth (inSkip (inSkip (inSkip (inSkip (inBoth (inBoth (inBoth (inBoth (inSkip (inBoth (inBoth (inSkip (inSkip (inSkip (inSkip (inSkip (inSkip (inSkip (inSkip (inBoth inNil)))))))))))))))))))))))))))))))))))))))))))))))))))))))))
    | (with_reducible refine Within.trans ?_ hL; decide +kernel)
    | (extract_lets +onlyGivenNames letX; have letT : True := (by clear_value letX; guard_hyp letX : State; trivial); clear letT; refine Leaves.cut (W := W) (L := L) (r := org) (v := letX) ?_ (fun letH => ?_); (focus subst letX); rotate_left; clear_value letX; revert letX; intro _ _)
    | with_reducible refine Leaves.ite ?_ ?_
    | with_reducible refine forBelow_leaves ?_ (fun _ _ _ => ?_)

theorem State.houseStopReset_leaves {W : List Span} {L : List Part} {org s : State} (h : Leaves W L org s)
    (hW : Inside (anyKey :: []) W) (hL : Within ([.barriers, .canQueue, .collector, .dieMsgs, .fences, .heldWrites, .landing, .late, .placing, .resp, .rings, .shadows, .signing, .staged] : List Part) L) :
    Leaves W L org (State.houseStopReset s) := by
  delta State.houseStopReset
  repeat' first
    | with_reducible assumption
    | with_reducible apply State.resetBegin_leaves
    | with_reducible apply State.keeperHolds_leaves
    | with_unfolding_none apply hW.sub (inAny)
    | (with_reducible refine Within.trans ?_ hL; decide +kernel)
    | (extract_lets +onlyGivenNames letX; have letT : True := (by clear_value letX; guard_hyp letX : State; trivial); clear letT; refine Leaves.cut (W := W) (L := L) (r := org) (v := letX) ?_ (fun letH => ?_); (focus subst letX); rotate_left; clear_value letX; revert letX; intro _ _)
    | (extract_lets +onlyGivenNames letX; clear_value letX; revert letX; intro _)
    | with_reducible refine Leaves.ite ?_ ?_

theorem State.keeperRetry_leaves {W : List Span} {L : List Part} {org s : State} (h : Leaves W L org s)
    (hW : Inside (one KEEPER.LAST_HOLD_SECONDS :: one KEEPER.RETRY_SERIES :: one KEEPER_HOLDING :: one KEEPER_PASS :: one RESET_CAUSE.CAUSES_SEEN :: one RESET_CAUSE.CAUSE_SITE :: one RESET_CAUSE.LAST_CAUSE :: one RESET_CAUSE.LAST_KIND :: one RESET_UNTIL :: []) W) :
    Leaves W L org (State.keeperRetry s) := by
  delta State.keeperRetry
  repeat' first
    | with_reducible assumption
    | with_reducible apply State.setN_leaves
    | with_reducible apply State.count_leaves
    | with_reducible apply State.addCause_leaves
    | with_reducible apply State.holdEnds_leaves
    | (with_unfolding_none refine hW.covers ?_; repeat first | with_unfolding_none exact Covered.here | with_unfolding_none exact KEEPER.RETRY_SERIES_in | with_unfolding_none exact KEEPER_PASS_in | with_unfolding_none exact RESET_CAUSE.CAUSES_SEEN_in | with_unfolding_none refine Covered.next ?_)
    | with_unfolding_none apply hW.sub (inSkip (inSkip (inSkip (inSkip (inBoth (inBoth (inBoth (inBoth (inBoth inNil)))))))))
    | with_unfolding_none apply hW.sub (inBoth (inSkip (inBoth inNil)))
    | (extract_lets +onlyGivenNames letX; have letT : True := (by clear_value letX; guard_hyp letX : State; trivial); clear letT; refine Leaves.cut (W := W) (L := L) (r := org) (v := letX) ?_ (fun letH => ?_); (focus subst letX); rotate_left; clear_value letX; revert letX; intro _ _)
    | with_reducible refine Leaves.ite ?_ ?_

theorem State.keeperFrame_leaves {W : List Span} {L : List Part} {org s : State} (lost : Nat) (h : Leaves W L org s)
    (hW : Inside (one KEEPER_LAST :: []) W) (hL : Within ([.out] : List Part) L) :
    Leaves W L org (State.keeperFrame s lost) := by
  delta State.keeperFrame
  repeat' first
    | with_reducible assumption
    | with_reducible apply State.setN_leaves
    | with_reducible apply State.emit_leaves
    | (with_unfolding_none refine hW.covers ?_; repeat first | with_unfolding_none exact Covered.here | with_unfolding_none exact KEEPER_LAST_in | with_unfolding_none refine Covered.next ?_)
    | with_unfolding_none apply hW.sub (inNil)
    | (with_reducible refine Within.trans ?_ hL; decide +kernel)
    | (extract_lets +onlyGivenNames letX; have letT : True := (by clear_value letX; guard_hyp letX : State; trivial); clear letT; refine Leaves.cut (W := W) (L := L) (r := org) (v := letX) ?_ (fun letH => ?_); (focus subst letX); rotate_left; clear_value letX; revert letX; intro _ _)
    | with_reducible refine Leaves.ite ?_ ?_
    | with_reducible refine forBelow_leaves ?_ (fun _ _ _ => ?_)

theorem State.keeperHeartbeat_leaves {W : List Span} {L : List Part} {org s : State} (d : Nat) (h : Leaves W L org s)
    (hW : Inside (one (HEART_LOST d) :: []) W) :
    Leaves W L org (State.keeperHeartbeat s d) := by
  delta State.keeperHeartbeat
  repeat' first
    | with_reducible assumption
    | with_reducible apply State.setN_leaves
    | (with_unfolding_none refine hW.covers ?_; repeat first | with_unfolding_none exact Covered.here | with_unfolding_none refine Covered.next ?_)
    | with_reducible refine Leaves.ite ?_ ?_

theorem State.heartbeatLost_leaves {W : List Span} {L : List Part} {org s : State} (d : Nat) (h : Leaves W L org s)
    (hW : Inside (one (HEART_LOST d) :: []) W) :
    Leaves W L org (State.heartbeatLost s d) := by
  delta State.heartbeatLost
  repeat' first
    | with_reducible assumption
    | with_reducible apply State.setN_leaves
    | (with_unfolding_none refine hW.covers ?_; repeat first | with_unfolding_none exact Covered.here | with_unfolding_none refine Covered.next ?_)
    | with_reducible refine Leaves.ite ?_ ?_

theorem execVbatBrownout_frame {W : List Span} {L : List Part} {org s : State} (h : Leaves W L org s)
    (hW : Inside (anyKey :: []) W)
    (hL : Within ([.barriers, .canQueue, .collector, .dieMsgs, .fences, .heldWrites, .landing, .late, .placing, .resp, .rings, .shadows, .signing, .staged] : List Part) L) : RunsIn W L org (execVbatBrownout s) := by
  delta execVbatBrownout
  repeat' first
    | with_reducible assumption
    | with_reducible refine RunsIn.next ?_
    | with_reducible apply State.vbatFalls_leaves
    | with_unfolding_none apply hW.sub (inAny)

theorem execVbatPowerUp_frame {W : List Span} {L : List Part} {org s : State} (h : Leaves W L org s)
    (hW : Inside (each CELL :: one DEV_STATE :: each GATE :: each2 LANE_EDGE :: each LATCH :: one RSTOUT_HIGH :: one VBAT_GONE_AT :: one VBAT_OUT :: one VBAT_ROSE_AT :: []) W)
    : RunsIn W L org (execVbatPowerUp s) := by
  delta execVbatPowerUp
  repeat' first
    | with_reducible assumption
    | with_reducible refine RunsIn.next ?_
    | with_reducible apply State.vbatRises_leaves
    | with_unfolding_none apply hW.sub (inBoth (inBoth (inBoth (inBoth (inBoth (inBoth (inBoth (inBoth (inBoth inNil)))))))))

theorem execPowerCycle_frame {W : List Span} {L : List Part} {org s : State} (h : Leaves W L org s)
    (hW : Inside (one KEEPER.FAILED_OPENINGS :: one KEEPER.LAST_HOLD_SECONDS :: one KEEPER.RETRY_SERIES :: one KEEPER_HOLDING :: []) W)
    : RunsIn W L org (execPowerCycle s) := by
  delta execPowerCycle
  repeat' first
    | with_reducible assumption
    | with_reducible refine RunsIn.next ?_
    | with_reducible apply State.vbatCycle_leaves
    | with_unfolding_none apply hW.sub (inBoth (inBoth (inBoth (inBoth inNil))))

theorem execVhBrownout_frame {W : List Span} {L : List Part} {org s : State} (vh : Int) (us : Nat) (h : Leaves W L org s)
    (hW : Inside (anyKey :: []) W)
    (hL : Within ([.barriers, .canQueue, .collector, .dieMsgs, .fences, .heldWrites, .landing, .late, .placing, .resp, .rings, .shadows, .signing, .staged] : List Part) L) : RunsIn W L org (execVhBrownout vh us s) := by
  delta execVhBrownout
  repeat' first
    | with_reducible assumption
    | with_reducible refine RunsIn.next ?_
    | with_reducible apply State.vhLow_leaves
    | with_unfolding_none apply hW.sub (inAny)

theorem execVcoreBrownout_frame {W : List Span} {L : List Part} {org s : State} (v : Int) (us : Nat) (h : Leaves W L org s)
    (hW : Inside (anyKey :: []) W)
    (hL : Within ([.barriers, .canQueue, .collector, .dieMsgs, .fences, .heldWrites, .landing, .late, .placing, .resp, .rings, .shadows, .signing, .staged] : List Part) L) : RunsIn W L org (execVcoreBrownout v us s) := by
  delta execVcoreBrownout
  repeat' first
    | with_reducible assumption
    | with_reducible refine RunsIn.next ?_
    | with_reducible apply State.vcoreLow_leaves
    | with_unfolding_none apply hW.sub (inAny)

theorem execVioBrownout_frame {W : List Span} {L : List Part} {org s : State} (v : Int) (us : Nat) (h : Leaves W L org s)
    (hW : Inside (anyKey :: []) W)
    (hL : Within ([.barriers, .canQueue, .collector, .dieMsgs, .fences, .heldWrites, .landing, .late, .placing, .resp, .rings, .shadows, .signing, .staged] : List Part) L) : RunsIn W L org (execVioBrownout v us s) := by
  delta execVioBrownout
  repeat' first
    | with_reducible assumption
    | with_reducible refine RunsIn.next ?_
    | with_reducible apply State.vioLow_leaves
    | with_unfolding_none apply hW.sub (inAny)

theorem execRstinNLow_frame {W : List Span} {L : List Part} {org s : State} (us : Nat) (h : Leaves W L org s)
    (hW : Inside (anyKey :: []) W)
    (hL : Within ([.barriers, .canQueue, .collector, .dieMsgs, .fences, .free, .heldWrites, .landing, .late, .placing, .resp, .rings, .shadows, .signing, .staged] : List Part) L) : RunsIn W L org (execRstinNLow us s) := by
  delta execRstinNLow
  repeat' first
    | with_reducible assumption
    | with_reducible refine RunsIn.next ?_
    | with_reducible apply State.rstinLow_leaves
    | with_unfolding_none apply hW.sub (inAny)

theorem execWdxExpiry_frame {W : List Span} {L : List Part} {org s : State} (h : Leaves W L org s)
    (hW : Inside (anyKey :: []) W)
    (hL : Within ([.barriers, .canQueue, .collector, .dieMsgs, .fences, .heldWrites, .landing, .late, .placing, .resp, .rings, .shadows, .signing, .staged] : List Part) L) : RunsIn W L org (execWdxExpiry s) := by
  delta execWdxExpiry
  repeat' first
    | with_reducible assumption
    | with_reducible refine RunsIn.next ?_
    | with_reducible apply State.wdxExpiry_leaves
    | with_unfolding_none apply hW.sub (inAny)

theorem execLockstepMismatch_frame {W : List Span} {L : List Part} {org s : State} (h : Leaves W L org s)
    (hW : Inside (anyKey :: []) W)
    (hL : Within ([.barriers, .canQueue, .collector, .dieMsgs, .fences, .heldWrites, .landing, .late, .placing, .resp, .rings, .shadows, .signing, .staged] : List Part) L) : RunsIn W L org (execLockstepMismatch s) := by
  delta execLockstepMismatch
  repeat' first
    | with_reducible assumption
    | with_reducible refine RunsIn.next ?_
    | with_reducible apply State.resetBegin_leaves
    | with_unfolding_none apply hW.sub (inAny)
    | (with_reducible refine Within.trans ?_ hL; decide +kernel)
    | with_reducible refine Leaves.ite ?_ ?_

theorem execCriticalMemoryError_frame {W : List Span} {L : List Part} {org s : State} (die : Option Die) (site : Nat) (h : Leaves W L org s)
    (hW : Inside (anyKey :: []) W)
    (hL : Within ([.barriers, .canQueue, .collector, .dieMsgs, .fences, .heldWrites, .landing, .late, .placing, .resp, .rings, .shadows, .signing, .staged] : List Part) L) : RunsIn W L org (execCriticalMemoryError die site s) := by
  delta execCriticalMemoryError
  repeat' first
    | with_reducible assumption
    | with_reducible refine RunsIn.next ?_
    | with_reducible apply State.criticalError_leaves
    | with_unfolding_none apply hW.sub (inAny)

theorem execHouseStopReset_frame {W : List Span} {L : List Part} {org s : State} (h : Leaves W L org s)
    (hW : Inside (anyKey :: []) W)
    (hL : Within ([.barriers, .canQueue, .collector, .dieMsgs, .fences, .heldWrites, .landing, .late, .placing, .resp, .rings, .shadows, .signing, .staged] : List Part) L) : RunsIn W L org (execHouseStopReset s) := by
  delta execHouseStopReset
  repeat' first
    | with_reducible assumption
    | with_reducible refine RunsIn.next ?_
    | with_reducible apply State.houseStopReset_leaves
    | with_unfolding_none apply hW.sub (inAny)

theorem execKeeperRetry_frame {W : List Span} {L : List Part} {org s : State} (h : Leaves W L org s)
    (hW : Inside (one KEEPER.LAST_HOLD_SECONDS :: one KEEPER.RETRY_SERIES :: one KEEPER_HOLDING :: one KEEPER_PASS :: one RESET_CAUSE.CAUSES_SEEN :: one RESET_CAUSE.CAUSE_SITE :: one RESET_CAUSE.LAST_CAUSE :: one RESET_CAUSE.LAST_KIND :: one RESET_UNTIL :: []) W)
    : RunsIn W L org (execKeeperRetry s) := by
  delta execKeeperRetry
  repeat' first
    | with_reducible assumption
    | with_reducible refine RunsIn.next ?_
    | with_reducible apply State.keeperRetry_leaves
    | with_unfolding_none apply hW.sub (inBoth (inBoth (inBoth (inBoth (inBoth (inBoth (inBoth (inBoth (inBoth inNil)))))))))

theorem execKeeperFrame_frame {W : List Span} {L : List Part} {org s : State} (lost : Nat := 0) (h : Leaves W L org s)
    (hW : Inside (one KEEPER_LAST :: []) W)
    (hL : Within ([.out] : List Part) L) : RunsIn W L org (execKeeperFrame s lost) := by
  delta execKeeperFrame
  repeat' first
    | with_reducible assumption
    | with_reducible refine RunsIn.next ?_
    | with_reducible apply State.keeperFrame_leaves
    | with_unfolding_none apply hW.sub (inBoth inNil)

theorem execKeeperHeartbeat_frame {W : List Span} {L : List Part} {org s : State} (d : Die) (h : Leaves W L org s)
    (hW : Inside (one (HEART_LOST d.val) :: []) W)
    : RunsIn W L org (execKeeperHeartbeat d s) := by
  delta execKeeperHeartbeat
  repeat' first
    | with_reducible assumption
    | with_reducible refine RunsIn.next ?_
    | with_reducible apply State.keeperHeartbeat_leaves
    | with_unfolding_none apply hW.sub (inBoth inNil)

theorem execDieHeartbeatTimeout_frame {W : List Span} {L : List Part} {org s : State} (d : Die) (h : Leaves W L org s)
    (hW : Inside (one (HEART_LOST d.val) :: []) W)
    : RunsIn W L org (execDieHeartbeatTimeout d s) := by
  delta execDieHeartbeatTimeout
  repeat' first
    | with_reducible assumption
    | with_reducible refine RunsIn.next ?_
    | with_reducible apply State.heartbeatLost_leaves
    | with_unfolding_none apply hW.sub (inBoth inNil)

end Sys2Proof.Machine
end

