-- ==== Sys2Proof/Laws/FramesE.lean ====
section
/-!
SUPPORT. The frames of Opening, Faults, Load, Pdo, Pcie, Apply: what each definition leaves unchanged.
-/
namespace Sys2Proof.Machine

set_option Elab.async false

theorem State.journalShift_leaves {W : List Span} {L : List Part} {org s : State} (cause back : Nat) (lost : Bool) (h : Leaves W L org s)
    (hW : Inside (each OPENING_JOURNAL.ENTRY :: each OPENING_JOURNAL.ENTRY_TIME :: one OPENING_STATUS.OPENINGS :: one RET_ENTRY :: one RET_ENTRY_TIME :: one STORE_HAS :: []) W) :
    Leaves W L org (State.journalShift s cause back lost) := by
  delta State.journalShift
  repeat' first
    | with_reducible assumption
    | with_reducible apply State.setN_leaves
    | with_reducible apply State.count_leaves
    | with_reducible apply State.setEntry_leaves
    | (with_unfolding_none refine hW.covers ?_; repeat first | with_unfolding_none exact Covered.here | with_unfolding_none exact OPENING_JOURNAL.ENTRY_in | with_unfolding_none exact OPENING_JOURNAL.ENTRY_TIME_in | with_unfolding_none exact OPENING_STATUS.OPENINGS_in | with_unfolding_none exact RET_ENTRY_TIME_in | with_unfolding_none exact STORE_HAS_in | with_unfolding_none refine Covered.next ?_)
    | with_unfolding_none apply hW.sub (OPENING_JOURNAL.ENTRY_wide (inSkip (inSkip (inSkip (inBoth inNil)))))
    | (extract_lets +onlyGivenNames letX; have letT : True := (by clear_value letX; guard_hyp letX : State; trivial); clear letT; refine Leaves.cut (W := W) (L := L) (r := org) (v := letX) ?_ (fun letH => ?_); (focus subst letX); rotate_left; clear_value letX; revert letX; intro _ _)
    | (extract_lets +onlyGivenNames letX; clear_value letX; revert letX; intro _)
    | with_reducible refine Leaves.ite ?_ ?_
    | with_reducible refine forBelow_leaves ?_ (fun _ _ _ => ?_)

theorem State.journalCopied_leaves {W : List Span} {L : List Part} {org s : State} (h : Leaves W L org s)
    (hW : Inside (one STORE_HAS :: one (STORE_JOURNAL 0) :: one (STORE_JOURNAL 1) :: one (STORE_JOURNAL 2) :: one (STORE_JOURNAL 3) :: []) W) :
    Leaves W L org (State.journalCopied s) := by
  delta State.journalCopied
  repeat' first
    | with_reducible assumption
    | with_reducible apply State.setN_leaves
    | (with_unfolding_none refine hW.covers ?_; repeat first | with_unfolding_none exact Covered.here | with_unfolding_none exact STORE_HAS_in | with_unfolding_none refine Covered.next ?_)
    | (extract_lets +onlyGivenNames letX; have letT : True := (by clear_value letX; guard_hyp letX : State; trivial); clear letT; refine Leaves.cut (W := W) (L := L) (r := org) (v := letX) ?_ (fun letH => ?_); (focus subst letX); rotate_left; clear_value letX; revert letX; intro _ _)
    | with_reducible refine Leaves.ite ?_ ?_

theorem State.retainJournal_leaves {W : List Span} {L : List Part} {org s : State} (step : Nat) (h : Leaves W L org s)
    (hW : Inside (one (OPENING_JOURNAL.ENTRY 0) :: one OPENING_STATUS.STEP :: one RET_ENTRY :: one RET_PROFILE_SKIP :: one RET_SKIP :: []) W) :
    Leaves W L org (State.retainJournal s step) := by
  delta State.retainJournal
  repeat' first
    | with_reducible assumption
    | with_reducible apply State.setN_leaves
    | with_reducible apply State.entryEnds_leaves
    | (with_unfolding_none refine hW.covers ?_; repeat first | with_unfolding_none exact Covered.here | with_unfolding_none exact OPENING_STATUS.STEP_in | with_unfolding_none exact RET_PROFILE_SKIP_in | with_unfolding_none exact RET_SKIP_in | with_unfolding_none refine Covered.next ?_)
    | with_unfolding_none apply hW.sub (inBoth (inSkip (inBoth inNil)))
    | (extract_lets +onlyGivenNames letX; have letT : True := (by clear_value letX; guard_hyp letX : State; trivial); clear letT; refine Leaves.cut (W := W) (L := L) (r := org) (v := letX) ?_ (fun letH => ?_); (focus subst letX); rotate_left; clear_value letX; revert letX; intro _ _)

theorem State.stepFails_leaves {W : List Span} {L : List Part} {org s : State} (step mode ch : Nat) (h : Leaves W L org s)
    (hW : Inside (one OPENING_STATUS.FAILED_STEP :: []) W) (hL : Within ([.collector] : List Part) L) :
    Leaves W L org (State.stepFails s step mode ch) := by
  delta State.stepFails
  repeat' first
    | with_reducible assumption
    | with_reducible apply State.setN_leaves
    | with_reducible apply State.raise_leaves
    | (with_unfolding_none refine hW.covers ?_; repeat first | with_unfolding_none exact Covered.here | with_unfolding_none exact OPENING_STATUS.FAILED_STEP_in | with_unfolding_none refine Covered.next ?_)
    | with_unfolding_none apply hW.sub (inNil)
    | (with_reducible refine Within.trans ?_ hL; decide +kernel)
    | (extract_lets +onlyGivenNames letX; clear_value letX; revert letX; intro _)
    | with_reducible refine Leaves.ite ?_ ?_

theorem State.stepSkipped_leaves {W : List Span} {L : List Part} {org s : State} (step ch : Nat) (h : Leaves W L org s) (hL : Within ([.collector] : List Part) L) :
    Leaves W L org (State.stepSkipped s step ch) := by
  delta State.stepSkipped
  repeat' first
    | with_reducible assumption
    | with_reducible apply State.raise_leaves
    | (with_reducible refine Within.trans ?_ hL; decide +kernel)

theorem State.stepMarked_leaves {W : List Span} {L : List Part} {org s : State} (step ch : Nat) (h : Leaves W L org s)
    (hW : Inside (one OPENING_STATUS.PROFILE_SKIP :: one OPENING_STATUS.SKIP_MASK :: one RET_PROFILE_SKIP :: one RET_SKIP :: []) W) (hL : Within ([.collector] : List Part) L) :
    Leaves W L org (State.stepMarked s step ch) := by
  delta State.stepMarked
  repeat' first
    | with_reducible assumption
    | with_reducible apply State.setN_leaves
    | with_reducible apply State.setBit_leaves
    | with_reducible apply State.stepSkipped_leaves
    | (with_unfolding_none refine hW.covers ?_; repeat first | with_unfolding_none exact Covered.here | with_unfolding_none exact OPENING_STATUS.PROFILE_SKIP_in | with_unfolding_none exact OPENING_STATUS.SKIP_MASK_in | with_unfolding_none exact RET_PROFILE_SKIP_in | with_unfolding_none exact RET_SKIP_in | with_unfolding_none refine Covered.next ?_)
    | with_unfolding_none apply hW.sub (inNil)
    | (with_reducible refine Within.trans ?_ hL; decide +kernel)
    | (extract_lets +onlyGivenNames letX; have letT : True := (by clear_value letX; guard_hyp letX : State; trivial); clear letT; refine Leaves.cut (W := W) (L := L) (r := org) (v := letX) ?_ (fun letH => ?_); (focus subst letX); rotate_left; clear_value letX; revert letX; intro _ _)
    | with_reducible refine Leaves.ite ?_ ?_

theorem State.journalAck_leaves {W : List Span} {L : List Part} {org s : State} (h : Leaves W L org s)
    (hW : Inside (one OPENING_STATUS.PROFILE_SKIP :: one OPENING_STATUS.SKIP_MASK :: one RET_PROFILE_SKIP :: one RET_SKIP :: one (STORE_JOURNAL 2) :: one (STORE_JOURNAL 3) :: []) W) :
    Leaves W L org (State.journalAck s) := by
  delta State.journalAck
  repeat' first
    | with_reducible assumption
    | with_reducible apply State.setN_leaves
    | (with_unfolding_none refine hW.covers ?_; repeat first | with_unfolding_none exact Covered.here | with_unfolding_none exact OPENING_STATUS.PROFILE_SKIP_in | with_unfolding_none exact OPENING_STATUS.SKIP_MASK_in | with_unfolding_none exact RET_PROFILE_SKIP_in | with_unfolding_none exact RET_SKIP_in | with_unfolding_none refine Covered.next ?_)
    | (extract_lets +onlyGivenNames letX; have letT : True := (by clear_value letX; guard_hyp letX : State; trivial); clear letT; refine Leaves.cut (W := W) (L := L) (r := org) (v := letX) ?_ (fun letH => ?_); (focus subst letX); rotate_left; clear_value letX; revert letX; intro _ _)

theorem State.stepFallback_leaves {W : List Span} {L : List Part} {org s : State} (step pfailed : Nat) (h : Leaves W L org s)
    (hW : Inside (one OPENING_STATUS.FALLBACK_MASK :: []) W) (hL : Within ([.collector] : List Part) L) :
    Leaves W L org (State.stepFallback s step pfailed) := by
  delta State.stepFallback
  repeat' first
    | with_reducible assumption
    | with_reducible apply State.setBit_leaves
    | with_reducible apply State.raise_leaves
    | (with_unfolding_none refine hW.covers ?_; repeat first | with_unfolding_none exact Covered.here | with_unfolding_none exact OPENING_STATUS.FALLBACK_MASK_in | with_unfolding_none refine Covered.next ?_)
    | with_unfolding_none apply hW.sub (inNil)
    | (with_reducible refine Within.trans ?_ hL; decide +kernel)

theorem State.openingStops_leaves {W : List Span} {L : List Part} {org s : State} (step : Nat) (h : Leaves W L org s)
    (hW : Inside (one OPENING_STATUS.OPENING_STATE :: one STOPPED_STEP :: []) W) (hL : Within ([.collector] : List Part) L) :
    Leaves W L org (State.openingStops s step) := by
  delta State.openingStops
  repeat' first
    | with_reducible assumption
    | with_reducible apply State.setN_leaves
    | with_reducible apply State.raise_leaves
    | (with_unfolding_none refine hW.covers ?_; repeat first | with_unfolding_none exact Covered.here | with_unfolding_none exact OPENING_STATUS.OPENING_STATE_in | with_unfolding_none exact STOPPED_STEP_in | with_unfolding_none refine Covered.next ?_)
    | with_unfolding_none apply hW.sub (inNil)
    | (with_reducible refine Within.trans ?_ hL; decide +kernel)

theorem State.runStep_leaves {W : List Span} {L : List Part} {org s : State} (entry step mode : Nat) (pass : Bool) (h : Leaves W L org s)
    (hW : Inside (one (OPENING_JOURNAL.ENTRY 0) :: one OPENING_STATUS.FAILED_STEP :: one OPENING_STATUS.FALLBACK_MASK :: one OPENING_STATUS.OPENING_STATE :: one OPENING_STATUS.PROFILE_SKIP :: one OPENING_STATUS.SKIP_MASK :: one OPENING_STATUS.STEP :: one RET_ENTRY :: one RET_PROFILE_SKIP :: one RET_SKIP :: one STOPPED_STEP :: []) W) (hL : Within ([.collector] : List Part) L) :
    Leaves W L org (State.runStep s entry step mode pass) := by
  delta State.runStep
  repeat' first
    | with_reducible assumption
    | with_reducible apply State.retainJournal_leaves
    | with_reducible apply State.stepSkipped_leaves
    | with_reducible apply State.stepFallback_leaves
    | with_reducible apply State.stepFails_leaves
    | with_reducible apply State.stepMarked_leaves
    | with_reducible apply State.openingStops_leaves
    | with_unfolding_none apply hW.sub (inBoth (inSkip (inSkip (inSkip (inSkip (inSkip (inBoth (inBoth (inBoth (inBoth inNil))))))))))
    | with_unfolding_none apply hW.sub (inNil)
    | with_unfolding_none apply hW.sub (inSkip (inSkip (inBoth inNil)))
    | with_unfolding_none apply hW.sub (inSkip (inBoth inNil))
    | with_unfolding_none apply hW.sub (inSkip (inSkip (inSkip (inSkip (inBoth (inBoth (inSkip (inSkip (inBoth (inBoth inNil))))))))))
    | with_unfolding_none apply hW.sub (inSkip (inSkip (inSkip (inBoth (inSkip (inSkip (inSkip (inSkip (inSkip (inSkip (inBoth inNil)))))))))))
    | (with_reducible refine Within.trans ?_ hL; decide +kernel)
    | (extract_lets +onlyGivenNames letX; have letT : True := (by clear_value letX; guard_hyp letX : State; trivial); clear letT; refine Leaves.cut (W := W) (L := L) (r := org) (v := letX) ?_ (fun letH => ?_); (focus subst letX); rotate_left; clear_value letX; revert letX; intro _ _)
    | with_reducible refine Leaves.ite ?_ ?_

theorem State.zeroAll_leaves {W : List Span} {L : List Part} {org s : State} (l : List Nat) (h : Leaves W L org s)
    (hW : Inside (anyKey :: []) W) :
    Leaves W L org (State.zeroAll s l) := by
  delta State.zeroAll
  repeat' first
    | with_reducible assumption
    | with_reducible apply State.setN_leaves
    | (with_unfolding_none refine hW.covers ?_; repeat first | with_unfolding_none exact dyn_in | with_unfolding_none refine Covered.next ?_)
    | with_reducible refine forEach_leaves ?_ (fun _ _ _ => ?_)

theorem State.initRegion_leaves {W : List Span} {L : List Part} {org s : State} (r : Nat) (h : Leaves W L org s)
    (hW : Inside (anyKey :: []) W) :
    Leaves W L org (State.initRegion s r) := by
  delta State.initRegion
  repeat' first
    | with_reducible assumption
    | with_reducible apply State.setN_leaves
    | with_reducible apply State.setBlob_leaves
    | with_reducible apply State.zeroAll_leaves
    | (with_unfolding_none refine hW.covers ?_; repeat first | with_unfolding_none exact dyn_in | with_unfolding_none refine Covered.next ?_)
    | with_unfolding_none apply hW.sub (inAny)
    | with_reducible refine forBelow_leaves ?_ (fun _ _ _ => ?_)
    | split
    | with_reducible refine Leaves.ofPair (by assumption) ?_

theorem State.regionsLost_leaves {W : List Span} {L : List Part} {org s : State} (mask : Nat) (low : Bool) (h : Leaves W L org s)
    (hW : Inside (anyKey :: []) W) (hL : Within ([.collector] : List Part) L) :
    Leaves W L org (State.regionsLost s mask low) := by
  delta State.regionsLost
  repeat' first
    | with_reducible assumption
    | with_reducible apply State.setN_leaves
    | with_reducible apply State.initRegion_leaves
    | with_reducible apply State.raise_leaves
    | (with_unfolding_none refine hW.covers ?_; repeat first | with_unfolding_none exact dyn_in | with_unfolding_none refine Covered.next ?_)
    | with_unfolding_none apply hW.sub (inAny)
    | with_unfolding_none apply hW.sub (inNil)
    | (with_reducible refine Within.trans ?_ hL; decide +kernel)
    | (extract_lets +onlyGivenNames letX; have letT : True := (by clear_value letX; guard_hyp letX : State; trivial); clear letT; refine Leaves.cut (W := W) (L := L) (r := org) (v := letX) ?_ (fun letH => ?_); (focus subst letX); rotate_left; clear_value letX; revert letX; intro _ _)
    | with_reducible refine Leaves.ite ?_ ?_
    | with_reducible refine forBelow_leaves ?_ (fun _ _ _ => ?_)

theorem State.openTick_leaves {W : List Span} {L : List Part} {org s : State} (low stampLost storeOff : Bool) (h : Leaves W L org s)
    (hW : Inside (one ERA_OPEN :: one ERA_TOLD :: one EVENT_FABRIC.TICK_SOURCE :: one LAST_BOUNDARY :: one STORE_ERA :: one TICK_OFFSET :: []) W) (hL : Within ([.collector, .shadows] : List Part) L) :
    Leaves W L org (State.openTick s low stampLost storeOff) := by
  delta State.openTick
  repeat' first
    | with_reducible assumption
    | with_reducible apply State.setN_leaves
    | with_reducible apply State.setFlag_leaves
    | with_reducible apply State.loadTick_leaves
    | with_reducible apply State.raise_leaves
    | (with_unfolding_none refine hW.covers ?_; repeat first | with_unfolding_none exact Covered.here | with_unfolding_none exact ERA_OPEN_in | with_unfolding_none exact ERA_TOLD_in | with_unfolding_none exact EVENT_FABRIC.TICK_SOURCE_in | with_unfolding_none exact STORE_ERA_in | with_unfolding_none refine Covered.next ?_)
    | with_unfolding_none apply hW.sub (inSkip (inSkip (inSkip (inBoth (inSkip (inBoth inNil))))))
    | with_unfolding_none apply hW.sub (inNil)
    | (with_reducible refine Within.trans ?_ hL; decide +kernel)
    | (extract_lets +onlyGivenNames letX; have letT : True := (by clear_value letX; guard_hyp letX : State; trivial); clear letT; refine Leaves.cut (W := W) (L := L) (r := org) (v := letX) ?_ (fun letH => ?_); (focus subst letX); rotate_left; clear_value letX; revert letX; intro _ _)
    | (extract_lets +onlyGivenNames letX; clear_value letX; revert letX; intro _)
    | with_reducible refine Leaves.ite ?_ ?_
    | with_reducible refine Leaves.update ?_ ?_ ?_ ?_ ?_ ?_ ?_ ?_ ?_ ?_ ?_ ?_ ?_ ?_ ?_ ?_ ?_ ?_ ?_
    | with_reducible exact Or.inl rfl
    | with_reducible exact Or.inr (hL _ (by decide +kernel))

theorem State.openClock_leaves {W : List Span} {L : List Part} {org s : State} (o : Opening) (entry skips : Nat) (h : Leaves W L org s)
    (hW : Inside (one CLOCK_STATUS.ROOT_LOCKED :: one CLOCK_STATUS.ROOT_SOURCE :: one (OPENING_JOURNAL.ENTRY 0) :: one OPENING_STATUS.FAILED_STEP :: one OPENING_STATUS.FALLBACK_MASK :: one OPENING_STATUS.OPENING_STATE :: one OPENING_STATUS.PROFILE_SKIP :: one OPENING_STATUS.SKIP_MASK :: one OPENING_STATUS.STEP :: one RET_ENTRY :: one RET_PROFILE_SKIP :: one RET_SKIP :: one STOPPED_STEP :: []) W) (hL : Within ([.collector] : List Part) L) :
    Leaves W L org (State.openClock s o entry skips) := by
  delta State.openClock
  repeat' first
    | with_reducible assumption
    | with_reducible apply State.setN_leaves
    | with_reducible apply State.runStep_leaves
    | (with_unfolding_none refine hW.covers ?_; repeat first | with_unfolding_none exact Covered.here | with_unfolding_none exact CLOCK_STATUS.ROOT_LOCKED_in | with_unfolding_none exact CLOCK_STATUS.ROOT_SOURCE_in | with_unfolding_none refine Covered.next ?_)
    | with_unfolding_none apply hW.sub (inSkip (inSkip (inBoth (inBoth (inBoth (inBoth (inBoth (inBoth (inBoth (inBoth (inBoth (inBoth (inBoth inNil)))))))))))))
    | (with_reducible refine Within.trans ?_ hL; decide +kernel)
    | (extract_lets +onlyGivenNames letX; have letT : True := (by clear_value letX; guard_hyp letX : State; trivial); clear letT; refine Leaves.cut (W := W) (L := L) (r := org) (v := letX) ?_ (fun letH => ?_); (focus subst letX); rotate_left; clear_value letX; revert letX; intro _ _)
    | (extract_lets +onlyGivenNames letX; clear_value letX; revert letX; intro _)
    | with_reducible refine Leaves.ite ?_ ?_

theorem State.openArbiter_leaves {W : List Span} {L : List Part} {org s : State} (h : Leaves W L org s)
    (hW : Inside (one (TENANT.ADMITTED 0) :: one (TENANT.ENDPOINT 0) :: []) W) (hL : Within ([.collector] : List Part) L) :
    Leaves W L org (State.openArbiter s) := by
  delta State.openArbiter
  repeat' first
    | with_reducible assumption
    | with_reducible apply State.setN_leaves
    | with_reducible apply State.raise_leaves
    | (with_unfolding_none refine hW.covers ?_; repeat first | with_unfolding_none exact Covered.here | with_unfolding_none refine Covered.next ?_)
    | with_unfolding_none apply hW.sub (inNil)
    | (with_reducible refine Within.trans ?_ hL; decide +kernel)
    | (extract_lets +onlyGivenNames letX; have letT : True := (by clear_value letX; guard_hyp letX : State; trivial); clear letT; refine Leaves.cut (W := W) (L := L) (r := org) (v := letX) ?_ (fun letH => ?_); (focus subst letX); rotate_left; clear_value letX; revert letX; intro _ _)
    | (extract_lets +onlyGivenNames letX; clear_value letX; revert letX; intro _)
    | with_reducible refine Leaves.ite ?_ ?_

theorem State.strapsRead_leaves {W : List Span} {L : List Part} {org s : State} (reads : List Nat) (h : Leaves W L org s)
    (hW : Inside (one STRAPS.STRAP_UNSTABLE :: one STRAPS.STRAP_VALUE :: []) W) (hL : Within ([.collector] : List Part) L) :
    Leaves W L org (State.strapsRead s reads) := by
  delta State.strapsRead
  repeat' first
    | with_reducible assumption
    | with_reducible apply State.setN_leaves
    | with_reducible apply State.raise_leaves
    | (with_unfolding_none refine hW.covers ?_; repeat first | with_unfolding_none exact Covered.here | with_unfolding_none exact STRAPS.STRAP_UNSTABLE_in | with_unfolding_none exact STRAPS.STRAP_VALUE_in | with_unfolding_none refine Covered.next ?_)
    | with_unfolding_none apply hW.sub (inNil)
    | (with_reducible refine Within.trans ?_ hL; decide +kernel)
    | (extract_lets +onlyGivenNames letX; have letT : True := (by clear_value letX; guard_hyp letX : State; trivial); clear letT; refine Leaves.cut (W := W) (L := L) (r := org) (v := letX) ?_ (fun letH => ?_); (focus subst letX); rotate_left; clear_value letX; revert letX; intro _ _)
    | with_reducible refine Leaves.ite ?_ ?_

theorem State.openStraps_leaves {W : List Span} {L : List Part} {org s : State} (o : Opening) (entry skips : Nat) (h : Leaves W L org s)
    (hW : Inside (one (OPENING_JOURNAL.ENTRY 0) :: one OPENING_STATUS.FAILED_STEP :: one OPENING_STATUS.FALLBACK_MASK :: one OPENING_STATUS.OPENING_STATE :: one OPENING_STATUS.PROFILE_SKIP :: one OPENING_STATUS.SKIP_MASK :: one OPENING_STATUS.STEP :: one RET_ENTRY :: one RET_PROFILE_SKIP :: one RET_SKIP :: one STOPPED_STEP :: one STRAPS.STRAP_UNSTABLE :: one STRAPS.STRAP_VALUE :: one (TENANT.ADMITTED 0) :: one (TENANT.ENDPOINT 0) :: []) W) (hL : Within ([.collector] : List Part) L) :
    Leaves W L org (State.openStraps s o entry skips) := by
  delta State.openStraps
  repeat' first
    | with_reducible assumption
    | with_reducible apply State.strapsRead_leaves
    | with_reducible apply State.runStep_leaves
    | with_reducible apply State.openArbiter_leaves
    | with_unfolding_none apply hW.sub (inSkip (inSkip (inSkip (inSkip (inSkip (inSkip (inSkip (inSkip (inSkip (inSkip (inSkip (inBoth (inBoth inNil)))))))))))))
    | with_unfolding_none apply hW.sub (inBoth (inBoth (inBoth (inBoth (inBoth (inBoth (inBoth (inBoth (inBoth (inBoth (inBoth inNil)))))))))))
    | with_unfolding_none apply hW.sub (inSkip (inSkip (inSkip (inSkip (inSkip (inSkip (inSkip (inSkip (inSkip (inSkip (inSkip (inSkip (inSkip (inBoth (inBoth inNil)))))))))))))))
    | (with_reducible refine Within.trans ?_ hL; decide +kernel)
    | (extract_lets +onlyGivenNames letX; clear_value letX; revert letX; intro _)
    | with_reducible refine Leaves.ite ?_ ?_

theorem State.openLink0_leaves {W : List Span} {L : List Part} {org s : State} (entry skips lanes us : Nat) (h : Leaves W L org s)
    (hW : Inside (one (AMLOR_LINK.LINK_STATE 0) :: one (BAD_FRAMES 0) :: one (DIE_OFFSET 0) :: one (DL_BAD 0) :: one (OPENING_JOURNAL.ENTRY 0) :: one OPENING_STATUS.FAILED_STEP :: one OPENING_STATUS.FALLBACK_MASK :: one OPENING_STATUS.OPENING_STATE :: one OPENING_STATUS.PROFILE_SKIP :: one OPENING_STATUS.SKIP_MASK :: one OPENING_STATUS.STEP :: one RET_ENTRY :: one RET_PROFILE_SKIP :: one RET_SKIP :: each STAND_ENTRY :: each STAND_EVENTS :: one (STAND_TRIGGERS 0) :: one STOPPED_STEP :: []) W) (hL : Within ([.collector, .dieMsgs, .shadows] : List Part) L) :
    Leaves W L org (State.openLink0 s entry skips lanes us) := by
  delta State.openLink0
  repeat' first
    | with_reducible assumption
    | with_reducible apply State.setN_leaves
    | with_reducible apply State.runStep_leaves
    | with_reducible apply State.linkComesUp_leaves
    | (with_unfolding_none refine hW.covers ?_; repeat first | with_unfolding_none exact Covered.here | with_unfolding_none refine Covered.next ?_)
    | with_unfolding_none apply hW.sub (inSkip (inSkip (inSkip (inSkip (inBoth (inBoth (inBoth (inBoth (inBoth (inBoth (inBoth (inBoth (inBoth (inBoth (inSkip (inSkip (inSkip (inBoth inNil))))))))))))))))))
    | with_unfolding_none apply hW.sub (inBoth (inBoth (inBoth (inBoth (inSkip (inSkip (inSkip (inSkip (inSkip (inSkip (inSkip (inSkip (inSkip (inSkip (inBoth (inBoth (inBoth inNil)))))))))))))))))
    | (with_reducible refine Within.trans ?_ hL; decide +kernel)
    | (extract_lets +onlyGivenNames letX; have letT : True := (by clear_value letX; guard_hyp letX : State; trivial); clear letT; refine Leaves.cut (W := W) (L := L) (r := org) (v := letX) ?_ (fun letH => ?_); (focus subst letX); rotate_left; clear_value letX; revert letX; intro _ _)
    | (extract_lets +onlyGivenNames letX; clear_value letX; revert letX; intro _)
    | with_reducible refine Leaves.ite ?_ ?_

theorem State.openLinks_leaves {W : List Span} {L : List Part} {org s : State} (entry skips : Nat) (lanes : List (Nat × Nat)) (h : Leaves W L org s)
    (hW : Inside (each AMLOR_LINK.LINK_STATE :: each BAD_FRAMES :: each DIE_OFFSET :: each DL_BAD :: one (OPENING_JOURNAL.ENTRY 0) :: one OPENING_STATUS.FAILED_STEP :: one OPENING_STATUS.FALLBACK_MASK :: one OPENING_STATUS.OPENING_STATE :: one OPENING_STATUS.PROFILE_SKIP :: one OPENING_STATUS.SKIP_MASK :: one OPENING_STATUS.STEP :: one RET_ENTRY :: one RET_PROFILE_SKIP :: one RET_SKIP :: each STAND_ENTRY :: each STAND_EVENTS :: each STAND_TRIGGERS :: one STOPPED_STEP :: []) W) (hL : Within ([.collector, .dieMsgs, .shadows] : List Part) L) :
    Leaves W L org (State.openLinks s entry skips lanes) := by
  delta State.openLinks
  repeat' first
    | with_reducible assumption
    | with_reducible apply State.setN_leaves
    | with_reducible apply State.runStep_leaves
    | with_reducible apply State.linkComesUp_leaves
    | (with_unfolding_none refine hW.covers ?_; repeat first | with_unfolding_none exact Covered.here | with_unfolding_none exact AMLOR_LINK.LINK_STATE_in | with_unfolding_none refine Covered.next ?_)
    | with_unfolding_none apply hW.sub (inSkip (inSkip (inSkip (inSkip (inBoth (inBoth (inBoth (inBoth (inBoth (inBoth (inBoth (inBoth (inBoth (inBoth (inSkip (inSkip (inSkip (inBoth inNil))))))))))))))))))
    | with_unfolding_none apply hW.sub (AMLOR_LINK.LINK_STATE_wide (inSkip (BAD_FRAMES_wide (inSkip (DIE_OFFSET_wide (inSkip (DL_BAD_wide (inSkip (inSkip (inSkip (inSkip (inSkip (inSkip (inSkip (inSkip (inSkip (inSkip (inSkip (inBoth (inBoth (STAND_TRIGGERS_wide inNil)))))))))))))))))))))
    | (with_reducible refine Within.trans ?_ hL; decide +kernel)
    | (extract_lets +onlyGivenNames letX; have letT : True := (by clear_value letX; guard_hyp letX : State; trivial); clear letT; refine Leaves.cut (W := W) (L := L) (r := org) (v := letX) ?_ (fun letH => ?_); (focus subst letX); rotate_left; clear_value letX; revert letX; intro _ _)
    | (extract_lets +onlyGivenNames letX; clear_value letX; revert letX; intro _)
    | with_reducible refine Leaves.ite ?_ ?_
    | with_reducible refine forEach_leaves ?_ (fun _ _ _ => ?_)

theorem State.stopsCopied_leaves {W : List Span} {L : List Part} {org s : State} (h : Leaves W L org s)
    (hW : Inside (one FAULT_STATUS.HOUSE_STOPS :: one FAULT_STATUS.LOCKOUTS :: one RET_LOCKOUTS :: one RET_STOPS :: one STORE_LOCKOUTS :: one STORE_STOPS :: []) W) :
    Leaves W L org (State.stopsCopied s) := by
  delta State.stopsCopied
  repeat' first
    | with_reducible assumption
    | with_reducible apply State.setN_leaves
    | (with_unfolding_none refine hW.covers ?_; repeat first | with_unfolding_none exact Covered.here | with_unfolding_none exact FAULT_STATUS.HOUSE_STOPS_in | with_unfolding_none exact FAULT_STATUS.LOCKOUTS_in | with_unfolding_none exact RET_LOCKOUTS_in | with_unfolding_none exact RET_STOPS_in | with_unfolding_none exact STORE_LOCKOUTS_in | with_unfolding_none exact STORE_STOPS_in | with_unfolding_none refine Covered.next ?_)
    | (extract_lets +onlyGivenNames letX; have letT : True := (by clear_value letX; guard_hyp letX : State; trivial); clear letT; refine Leaves.cut (W := W) (L := L) (r := org) (v := letX) ?_ (fun letH => ?_); (focus subst letX); rotate_left; clear_value letX; revert letX; intro _ _)

theorem State.openRecords_leaves {W : List Span} {L : List Part} {org s : State} (o : Opening) (entry skips pskips lost : Nat) (low : Bool) (h : Leaves W L org s)
    (hW : Inside (anyKey :: []) W) (hL : Within ([.collector] : List Part) L) :
    Leaves W L org (State.openRecords s o entry skips pskips lost low) := by
  delta State.openRecords
  repeat' first
    | with_reducible assumption
    | with_reducible apply State.setN_leaves
    | with_reducible apply State.runStep_leaves
    | with_reducible apply State.regionsLost_leaves
    | with_reducible apply State.journalCopied_leaves
    | with_reducible apply State.estOpening_leaves
    | with_reducible apply State.setRtcFlag_leaves
    | with_reducible apply State.stopsCopied_leaves
    | with_reducible apply State.wdCopy_leaves
    | (with_unfolding_none refine hW.covers ?_; repeat first | with_unfolding_none exact dyn_in | with_unfolding_none refine Covered.next ?_)
    | with_unfolding_none apply hW.sub (inAny)
    | (with_reducible refine Within.trans ?_ hL; decide +kernel)
    | (extract_lets +onlyGivenNames letX; have letT : True := (by clear_value letX; guard_hyp letX : State; trivial); clear letT; refine Leaves.cut (W := W) (L := L) (r := org) (v := letX) ?_ (fun letH => ?_); (focus subst letX); rotate_left; clear_value letX; revert letX; intro _ _)
    | (extract_lets +onlyGivenNames letX; clear_value letX; revert letX; intro _)
    | with_reducible refine Leaves.ite ?_ ?_

theorem State.openPorts_leaves {W : List Span} {L : List Part} {org s : State} (time_ : Nat) (h : Leaves W L org s)
    (hW : Inside (each CAN_PORT.TX_FRAMES :: one (HB_AT 0) :: each HK_AT :: each HK_DELAY :: each HK_DONE :: each HK_DROPS :: each HK_LATCH :: each HK_PRE :: each HK_RUN :: each HK_SEQUENCE.SEQ_STATE :: each HK_SUM :: one (NMT_STATE 0) :: one OPENING_STATUS.PORTS_READY_TIME :: one PORTS_READY :: []) W) (hL : Within ([.canQueue, .collector, .out, .shadows] : List Part) L) :
    Leaves W L org (State.openPorts s time_) := by
  delta State.openPorts
  repeat' first
    | with_reducible assumption
    | with_reducible apply State.setN_leaves
    | with_reducible apply State.setClosing_leaves
    | with_reducible apply State.hkStarts_leaves
    | with_reducible apply State.nodeBoot_leaves
    | (with_unfolding_none refine hW.covers ?_; repeat first | with_unfolding_none exact Covered.here | with_unfolding_none exact OPENING_STATUS.PORTS_READY_TIME_in | with_unfolding_none exact PORTS_READY_in | with_unfolding_none refine Covered.next ?_)
    | with_unfolding_none apply hW.sub (inNil)
    | with_unfolding_none apply hW.sub (inSkip (inSkip (inBoth (inBoth (inBoth (inBoth (inBoth (inBoth (inBoth (inBoth (inBoth inNil)))))))))))
    | with_unfolding_none apply hW.sub (inBoth (inBoth (inSkip (inSkip (inSkip (inSkip (inSkip (inSkip (inSkip (inSkip (inSkip (inBoth inNil))))))))))))
    | (with_reducible refine Within.trans ?_ hL; decide +kernel)
    | (extract_lets +onlyGivenNames letX; have letT : True := (by clear_value letX; guard_hyp letX : State; trivial); clear letT; refine Leaves.cut (W := W) (L := L) (r := org) (v := letX) ?_ (fun letH => ?_); (focus subst letX); rotate_left; clear_value letX; revert letX; intro _ _)
    | with_reducible refine Leaves.ite ?_ ?_

theorem State.openPort_leaves {W : List Span} {L : List Part} {org s : State} (o : Opening) (entry skips limit : Nat) (h : Leaves W L org s)
    (hW : Inside (one ARB_AT :: one ARB_DOWN :: each CAN_PORT.TX_FRAMES :: one (HB_AT 0) :: each HK_AT :: each HK_DELAY :: each HK_DONE :: each HK_DROPS :: each HK_LATCH :: each HK_PRE :: each HK_RUN :: each HK_SEQUENCE.SEQ_STATE :: each HK_SUM :: one (NMT_STATE 0) :: one (OPENING_JOURNAL.ENTRY 0) :: one OPENING_STATUS.FAILED_STEP :: one OPENING_STATUS.FALLBACK_MASK :: one OPENING_STATUS.OPENING_STATE :: one OPENING_STATUS.PORTS_READY_TIME :: one OPENING_STATUS.PROFILE_SKIP :: one OPENING_STATUS.SKIP_MASK :: one OPENING_STATUS.STEP :: one PORTS_READY :: one RET_ENTRY :: one RET_PROFILE_SKIP :: one RET_SKIP :: one STOPPED_STEP :: []) W) (hL : Within ([.canQueue, .collector, .out, .shadows] : List Part) L) :
    Leaves W L org (State.openPort s o entry skips limit) := by
  delta State.openPort
  repeat' first
    | with_reducible assumption
    | with_reducible apply State.setN_leaves
    | with_reducible apply State.runStep_leaves
    | with_reducible apply State.openPorts_leaves
    | (with_unfolding_none refine hW.covers ?_; repeat first | with_unfolding_none exact Covered.here | with_unfolding_none exact ARB_AT_in | with_unfolding_none exact ARB_DOWN_in | with_unfolding_none refine Covered.next ?_)
    | with_unfolding_none apply hW.sub (inSkip (inSkip (inSkip (inSkip (inSkip (inSkip (inSkip (inSkip (inSkip (inSkip (inSkip (inSkip (inSkip (inSkip (inBoth (inBoth (inBoth (inBoth (inSkip (inBoth (inBoth (inBoth (inSkip (inBoth (inBoth (inBoth (inBoth inNil)))))))))))))))))))))))))))
    | with_unfolding_none apply hW.sub (inSkip (inSkip (inBoth (inBoth (inBoth (inBoth (inBoth (inBoth (inBoth (inBoth (inBoth (inBoth (inBoth (inBoth (inSkip (inSkip (inSkip (inSkip (inBoth (inSkip (inSkip (inSkip (inBoth inNil)))))))))))))))))))))))
    | (with_reducible refine Within.trans ?_ hL; decide +kernel)
    | (extract_lets +onlyGivenNames letX; have letT : True := (by clear_value letX; guard_hyp letX : State; trivial); clear letT; refine Leaves.cut (W := W) (L := L) (r := org) (v := letX) ?_ (fun letH => ?_); (focus subst letX); rotate_left; clear_value letX; revert letX; intro _ _)
    | (extract_lets +onlyGivenNames letX; clear_value letX; revert letX; intro _)
    | with_reducible refine Leaves.ite ?_ ?_

theorem State.openingDone_leaves {W : List Span} {L : List Part} {org s : State} (h : Leaves W L org s)
    (hW : Inside (one (OPENING_JOURNAL.ENTRY 0) :: one OPENING_STATUS.OPENING_STATE :: one RET_ENTRY :: one STORE_HAS :: one (STORE_JOURNAL 0) :: one (STORE_JOURNAL 1) :: one (STORE_JOURNAL 2) :: one (STORE_JOURNAL 3) :: []) W) (hL : Within ([.collector] : List Part) L) :
    Leaves W L org (State.openingDone s) := by
  delta State.openingDone
  repeat' first
    | with_reducible assumption
    | with_reducible apply State.setN_leaves
    | with_reducible apply State.entryEnds_leaves
    | with_reducible apply State.raise_leaves
    | with_reducible apply State.journalCopied_leaves
    | (with_unfolding_none refine hW.covers ?_; repeat first | with_unfolding_none exact Covered.here | with_unfolding_none exact OPENING_STATUS.OPENING_STATE_in | with_unfolding_none refine Covered.next ?_)
    | with_unfolding_none apply hW.sub (inBoth (inSkip (inBoth inNil)))
    | with_unfolding_none apply hW.sub (inNil)
    | with_unfolding_none apply hW.sub (inSkip (inSkip (inSkip (inBoth (inBoth (inBoth (inBoth (inBoth inNil))))))))
    | (with_reducible refine Within.trans ?_ hL; decide +kernel)
    | (extract_lets +onlyGivenNames letX; have letT : True := (by clear_value letX; guard_hyp letX : State; trivial); clear letT; refine Leaves.cut (W := W) (L := L) (r := org) (v := letX) ?_ (fun letH => ?_); (focus subst letX); rotate_left; clear_value letX; revert letX; intro _ _)

theorem State.openingGoesOn_leaves {W : List Span} {L : List Part} {org s : State} (seven : Bool) (h : Leaves W L org s)
    (hW : Inside (one (OPENING_JOURNAL.ENTRY 0) :: one OPENING_STATUS.OPENING_STATE :: one RET_ENTRY :: one STORE_HAS :: one (STORE_JOURNAL 0) :: one (STORE_JOURNAL 1) :: one (STORE_JOURNAL 2) :: one (STORE_JOURNAL 3) :: []) W) (hL : Within ([.collector] : List Part) L) :
    Leaves W L org (State.openingGoesOn s seven) := by
  delta State.openingGoesOn
  repeat' first
    | with_reducible assumption
    | with_reducible apply State.entryEnds_leaves
    | with_reducible apply State.journalCopied_leaves
    | with_reducible apply State.openingDone_leaves
    | with_unfolding_none apply hW.sub (inBoth (inSkip (inBoth inNil)))
    | with_unfolding_none apply hW.sub (inSkip (inSkip (inSkip (inBoth (inBoth (inBoth (inBoth (inBoth inNil))))))))
    | with_unfolding_none apply hW.sub (inBoth (inBoth (inBoth (inBoth (inBoth (inBoth (inBoth (inBoth inNil))))))))
    | (with_reducible refine Within.trans ?_ hL; decide +kernel)
    | (extract_lets +onlyGivenNames letX; clear_value letX; revert letX; intro _)
    | with_reducible refine Leaves.ite ?_ ?_

theorem State.openProfile_leaves {W : List Span} {L : List Part} {org s : State} (entry : Nat) (h : Leaves W L org s)
    (hW : Inside (anyKey :: []) W) (hL : Within ([.collector] : List Part) L) :
    Leaves W L org (State.openProfile s entry) := by
  delta State.openProfile
  repeat' first
    | with_reducible assumption
    | with_reducible apply State.set_leaves
    | with_reducible apply State.setN_leaves
    | with_reducible apply State.retainJournal_leaves
    | with_reducible apply State.stepFallback_leaves
    | with_reducible apply State.stepSkipped_leaves
    | (with_unfolding_none refine hW.covers ?_; repeat first | with_unfolding_none exact dyn_in | with_unfolding_none refine Covered.next ?_)
    | with_unfolding_none apply hW.sub (inAny)
    | with_unfolding_none apply hW.sub (inNil)
    | (with_reducible refine Within.trans ?_ hL; decide +kernel)
    | (extract_lets +onlyGivenNames letX; have letT : True := (by clear_value letX; guard_hyp letX : State; trivial); clear letT; refine Leaves.cut (W := W) (L := L) (r := org) (v := letX) ?_ (fun letH => ?_); (focus subst letX); rotate_left; clear_value letX; revert letX; intro _ _)
    | (extract_lets +onlyGivenNames letX; clear_value letX; revert letX; intro _)
    | with_reducible refine Leaves.ite ?_ ?_
    | with_reducible refine forEach_leaves ?_ (fun _ _ _ => ?_)
    | with_reducible refine forBelow_leaves ?_ (fun _ _ _ => ?_)

theorem State.profileRequests_leaves {W : List Span} {L : List Part} {org s : State} (h : Leaves W L org s)
    (hW : Inside (each ADMIT_KIND :: each ADMIT_SINCE :: each BANK.BANK_FLAGS :: each CELL :: each CHANNEL_CONFIG.REQUEST :: each CHANNEL_PROTECTION.ADMIT_WAIT :: each CHANNEL_PROTECTION.MODEL_FLAGS :: each CHANNEL_PROTECTION.RETRIES_LEFT :: each CHANNEL_STATUS.FLAGS :: each CHANNEL_STATUS.STANDING_GATE :: each CHANNEL_STATUS.STATE :: each GATE :: each LAMP_LOW :: each LAMP_TOLD :: each LATCH :: each LIMIT_EPISODE :: each LIMIT_LEFT :: each LIMIT_SINCE :: each LIMIT_SPENT :: each PEND :: one PROFILE_DONE :: one PROFILE_OFF :: each PUMP_START :: each PUMP_STOP_AT :: each PWM_HIGH :: each PWM_NEXT :: each RESET_OUTPUT.ASSERT_COUNT :: each RESET_OUTPUT.LAST_CHANGE_STAMP :: each RESET_OUTPUT.OUTPUT :: each RSO_GOOD_SINCE :: each RUN_SINCE :: each RUN_SPENT :: each START_AT :: each STORED_WAIT :: each TRIP_STATE :: each WIN :: (each fun n => inForce (CHANNEL_CONFIG.REQUEST n)) :: []) W) (hL : Within ([.collector, .dieMsgs, .staged] : List Part) L) :
    Leaves W L org (State.profileRequests s) := by
  delta State.profileRequests
  repeat' first
    | with_reducible assumption
    | with_reducible apply State.setN_leaves
    | with_reducible apply State.setBit_leaves
    | with_reducible apply State.setRequest_leaves
    | with_reducible apply State.actOnRequest_leaves
    | with_reducible apply State.turnOff_leaves
    | (with_unfolding_none refine hW.covers ?_; repeat first | with_unfolding_none exact Covered.here | with_unfolding_none exact PROFILE_DONE_in | with_unfolding_none exact PROFILE_OFF_in | with_unfolding_none refine Covered.next ?_)
    | with_unfolding_none apply hW.sub (inSkip (inSkip (inSkip (inSkip (CHANNEL_CONFIG.REQUEST_wide (inSkip (inSkip (inSkip (inSkip (inSkip (inSkip (inSkip (inSkip (inSkip (inSkip (inSkip (inSkip (inSkip (inSkip (inSkip (inSkip (inSkip (inSkip (inSkip (inSkip (inSkip (inSkip (inSkip (inSkip (inSkip (inSkip (inSkip (inSkip (inSkip (inSkip (inSkip (inSkip (inForce_CHANNEL_CONFIG.REQUEST_wide inNil))))))))))))))))))))))))))))))))))))))
    | with_unfolding_none apply hW.sub (ADMIT_KIND_wide (inSkip (ADMIT_SINCE_wide (inSkip (BANK.BANK_FLAGS_wide (inSkip (CELL_wide (inSkip (inSkip (CHANNEL_PROTECTION.ADMIT_WAIT_wide (inSkip (CHANNEL_PROTECTION.MODEL_FLAGS_wide (inSkip (CHANNEL_PROTECTION.RETRIES_LEFT_wide (inSkip (CHANNEL_STATUS.FLAGS_wide (inSkip (CHANNEL_STATUS.STANDING_GATE_wide (inSkip (CHANNEL_STATUS.STATE_wide (inSkip (GATE_wide (inSkip (LAMP_LOW_wide (inSkip (LAMP_TOLD_wide (inSkip (LATCH_wide (inSkip (LIMIT_EPISODE_wide (inSkip (LIMIT_LEFT_wide (inSkip (LIMIT_SINCE_wide (inSkip (LIMIT_SPENT_wide (inSkip (PEND_wide (inSkip (inSkip (inSkip (PUMP_START_wide (inSkip (PUMP_STOP_AT_wide (inSkip (PWM_HIGH_wide (inSkip (PWM_NEXT_wide (inSkip (inBoth (inBoth (inBoth (inBoth (RUN_SINCE_wide (inSkip (RUN_SPENT_wide (inSkip (START_AT_wide (inSkip (STORED_WAIT_wide (inSkip (TRIP_STATE_wide (inSkip (WIN_wide inNil))))))))))))))))))))))))))))))))))))))))))))))))))))))))))))))))
    | with_unfolding_none apply hW.sub (ADMIT_KIND_wide (inSkip (inSkip (BANK.BANK_FLAGS_wide (inSkip (CELL_wide (inSkip (inSkip (inSkip (CHANNEL_PROTECTION.MODEL_FLAGS_wide (inSkip (inSkip (CHANNEL_STATUS.FLAGS_wide (inSkip (CHANNEL_STATUS.STANDING_GATE_wide (inSkip (CHANNEL_STATUS.STATE_wide (inSkip (GATE_wide (inSkip (LAMP_LOW_wide (inSkip (LAMP_TOLD_wide (inSkip (LATCH_wide (inSkip (LIMIT_EPISODE_wide (inSkip (LIMIT_LEFT_wide (inSkip (LIMIT_SINCE_wide (inSkip (LIMIT_SPENT_wide (inSkip (PEND_wide (inSkip (inSkip (inSkip (PUMP_START_wide (inSkip (PUMP_STOP_AT_wide (inSkip (PWM_HIGH_wide (inSkip (inSkip (inBoth (inBoth (inBoth (inBoth (RUN_SINCE_wide (inSkip (RUN_SPENT_wide (inSkip (START_AT_wide (inSkip (inSkip (inSkip (WIN_wide inNil))))))))))))))))))))))))))))))))))))))))))))))))))))))))))
    | (with_reducible refine Within.trans ?_ hL; decide +kernel)
    | (extract_lets +onlyGivenNames letX; have letT : True := (by clear_value letX; guard_hyp letX : State; trivial); clear letT; refine Leaves.cut (W := W) (L := L) (r := org) (v := letX) ?_ (fun letH => ?_); (focus subst letX); rotate_left; clear_value letX; revert letX; intro _ _)
    | with_reducible refine Leaves.ite ?_ ?_
    | with_reducible refine forBelow_leaves ?_ (fun _ _ _ => ?_)

theorem State.profileJudge_leaves {W : List Span} {L : List Part} {org s : State} (n : Nat) (h : Leaves W L org s)
    (hW : Inside (one OPENING_STATUS.FAILED_STEP :: one OPENING_STATUS.PROFILE_SKIP :: one OPENING_STATUS.SKIP_MASK :: one PROFILE_FAILED :: one PROFILE_JUDGED :: one RET_PROFILE_SKIP :: one RET_SKIP :: []) W) (hL : Within ([.collector] : List Part) L) :
    Leaves W L org (State.profileJudge s n) := by
  delta State.profileJudge
  repeat' first
    | with_reducible assumption
    | with_reducible apply State.setBit_leaves
    | with_reducible apply State.stepFails_leaves
    | with_reducible apply State.stepMarked_leaves
    | (with_unfolding_none refine hW.covers ?_; repeat first | with_unfolding_none exact Covered.here | with_unfolding_none exact PROFILE_FAILED_in | with_unfolding_none exact PROFILE_JUDGED_in | with_unfolding_none refine Covered.next ?_)
    | with_unfolding_none apply hW.sub (inBoth inNil)
    | with_unfolding_none apply hW.sub (inSkip (inBoth (inBoth (inSkip (inSkip (inBoth (inBoth inNil)))))))
    | (with_reducible refine Within.trans ?_ hL; decide +kernel)
    | (extract_lets +onlyGivenNames letX; have letT : True := (by clear_value letX; guard_hyp letX : State; trivial); clear letT; refine Leaves.cut (W := W) (L := L) (r := org) (v := letX) ?_ (fun letH => ?_); (focus subst letX); rotate_left; clear_value letX; revert letX; intro _ _)
    | (extract_lets +onlyGivenNames letX; clear_value letX; revert letX; intro _)
    | with_reducible refine Leaves.ite ?_ ?_

theorem State.profileBoundary_leaves {W : List Span} {L : List Part} {org s : State} (h : Leaves W L org s)
    (hW : Inside (one (OPENING_JOURNAL.ENTRY 0) :: one OPENING_STATUS.FAILED_STEP :: one OPENING_STATUS.OPENING_STATE :: one OPENING_STATUS.PROFILE_SKIP :: one OPENING_STATUS.SKIP_MASK :: one PROFILE_FAILED :: one PROFILE_JUDGED :: one RET_ENTRY :: one RET_PROFILE_SKIP :: one RET_SKIP :: one STORE_HAS :: one (STORE_JOURNAL 0) :: one (STORE_JOURNAL 1) :: one (STORE_JOURNAL 2) :: one (STORE_JOURNAL 3) :: []) W) (hL : Within ([.collector] : List Part) L) :
    Leaves W L org (State.profileBoundary s) := by
  delta State.profileBoundary
  repeat' first
    | with_reducible assumption
    | with_reducible apply State.profileJudge_leaves
    | with_reducible apply State.openingDone_leaves
    | with_reducible apply State.entryEnds_leaves
    | with_reducible apply State.journalCopied_leaves
    | with_unfolding_none apply hW.sub (inSkip (inBoth (inSkip (inBoth (inBoth (inBoth (inBoth (inSkip (inBoth (inBoth inNil))))))))))
    | with_unfolding_none apply hW.sub (inBoth (inSkip (inBoth (inSkip (inSkip (inSkip (inSkip (inBoth (inSkip (inSkip (inBoth (inBoth (inBoth (inBoth (inBoth inNil)))))))))))))))
    | with_unfolding_none apply hW.sub (inBoth (inSkip (inSkip (inSkip (inSkip (inSkip (inSkip (inBoth inNil))))))))
    | with_unfolding_none apply hW.sub (inSkip (inSkip (inSkip (inSkip (inSkip (inSkip (inSkip (inSkip (inSkip (inSkip (inBoth (inBoth (inBoth (inBoth (inBoth inNil)))))))))))))))
    | (with_reducible refine Within.trans ?_ hL; decide +kernel)
    | (extract_lets +onlyGivenNames letX; have letT : True := (by clear_value letX; guard_hyp letX : State; trivial); clear letT; refine Leaves.cut (W := W) (L := L) (r := org) (v := letX) ?_ (fun letH => ?_); (focus subst letX); rotate_left; clear_value letX; revert letX; intro _ _)
    | (extract_lets +onlyGivenNames letX; clear_value letX; revert letX; intro _)
    | with_reducible refine Leaves.ite ?_ ?_
    | with_reducible refine forBelow_leaves ?_ (fun _ _ _ => ?_)

theorem State.openKeys_leaves {W : List Span} {L : List Part} {org s : State} (bad : Bool) (h : Leaves W L org s)
    (hW : Inside (one IDENTITY_DATA.IDENTITY_STATE :: []) W) (hL : Within ([.collector] : List Part) L) :
    Leaves W L org (State.openKeys s bad) := by
  delta State.openKeys
  repeat' first
    | with_reducible assumption
    | with_reducible apply State.setFlag_leaves
    | with_reducible apply State.raise_leaves
    | (with_unfolding_none refine hW.covers ?_; repeat first | with_unfolding_none exact Covered.here | with_unfolding_none exact IDENTITY_DATA.IDENTITY_STATE_in | with_unfolding_none refine Covered.next ?_)
    | with_unfolding_none apply hW.sub (inNil)
    | (with_reducible refine Within.trans ?_ hL; decide +kernel)
    | (extract_lets +onlyGivenNames letX; have letT : True := (by clear_value letX; guard_hyp letX : State; trivial); clear letT; refine Leaves.cut (W := W) (L := L) (r := org) (v := letX) ?_ (fun letH => ?_); (focus subst letX); rotate_left; clear_value letX; revert letX; intro _ _)
    | with_reducible refine Leaves.ite ?_ ?_

theorem State.copiesDefault_leaves {W : List Span} {L : List Part} {org s : State} (h : Leaves W L org s)
    (hW : Inside (one ALARM.ALARM_STATE :: one BACKUP_LOCKED :: one PARK_STAGE :: one PON_CONTROL.PON_CHANGES :: one PON_CONTROL.PON_LAST_CAUSE :: one PON_CONTROL.PON_STATE :: one POWER_STATE.PARK_ABORTS :: one POWER_STATE.STATE :: one WAKE_CONFIG.WAKE_LATCHED :: one WAKE_PENDING :: []) W) (hL : Within ([.collector] : List Part) L) :
    Leaves W L org (State.copiesDefault s) := by
  delta State.copiesDefault
  repeat' first
    | with_reducible assumption
    | with_reducible apply State.setN_leaves
    | with_reducible apply State.senseLevels_leaves
    | (with_unfolding_none refine hW.covers ?_; repeat first | with_unfolding_none exact Covered.here | with_unfolding_none exact ALARM.ALARM_STATE_in | with_unfolding_none exact BACKUP_LOCKED_in | with_unfolding_none refine Covered.next ?_)
    | with_unfolding_none apply hW.sub (inSkip (inSkip (inBoth (inBoth (inBoth (inBoth (inBoth (inBoth (inBoth (inBoth inNil))))))))))
    | (with_reducible refine Within.trans ?_ hL; decide +kernel)

theorem State.placeAfterReset_leaves {W : List Span} {L : List Part} {org s : State} (p : Placing) (h : Leaves W L org s)
    (hW : Inside (one EVENT_FABRIC.LATE_RECORDS :: one EVENT_FABRIC.RECORDS_PLACED :: each MSIX_HELD :: each OVF_DROPS :: each OVF_FIRST :: each OVF_LAST :: each RING.DROPS :: each RING.HIGH_WATER :: each RING.SEQUENCE :: each RING_RR :: each TARGET.RAISES :: each TARGET.TARGET_STATE :: each TG_BEGAN :: each TG_COUNT :: each TG_LOW :: []) W) (hL : Within ([.out, .placing, .rings] : List Part) L) :
    Leaves W L org (State.placeAfterReset s p) := by
  delta State.placeAfterReset
  repeat' first
    | with_reducible assumption
    | with_reducible apply State.placeRecord_leaves
    | with_unfolding_none apply hW.sub (inBoth (inBoth (inBoth (inBoth (inBoth (inBoth (inBoth (inBoth (inBoth (inBoth (inBoth (inBoth (inBoth (inBoth (inBoth inNil)))))))))))))))
    | (with_reducible refine Within.trans ?_ hL; decide +kernel)
    | with_reducible refine Leaves.ite ?_ ?_
    | split
    | with_reducible refine Leaves.update ?_ ?_ ?_ ?_ ?_ ?_ ?_ ?_ ?_ ?_ ?_ ?_ ?_ ?_ ?_ ?_ ?_ ?_ ?_
    | with_reducible exact Or.inl rfl
    | with_reducible exact Or.inr (hL _ (by decide +kernel))
    | with_reducible refine Leaves.ofPair (by assumption) ?_

theorem State.openStop_leaves {W : List Span} {L : List Part} {org s : State} (h : Leaves W L org s)
    (hW : Inside (one EVENT_FABRIC.LATE_RECORDS :: one EVENT_FABRIC.RECORDS_PLACED :: each MSIX_HELD :: each OVF_DROPS :: each OVF_FIRST :: each OVF_LAST :: each RING.DROPS :: each RING.HIGH_WATER :: each RING.SEQUENCE :: each RING_RR :: one STOP_MARK :: each TARGET.RAISES :: each TARGET.TARGET_STATE :: each TG_BEGAN :: each TG_COUNT :: each TG_LOW :: []) W) (hL : Within ([.out, .placing, .rings] : List Part) L) :
    Leaves W L org (State.openStop s) := by
  delta State.openStop
  repeat' first
    | with_reducible assumption
    | with_reducible apply State.setN_leaves
    | with_reducible apply State.placeAfterReset_leaves
    | (with_unfolding_none refine hW.covers ?_; repeat first | with_unfolding_none exact Covered.here | with_unfolding_none exact STOP_MARK_in | with_unfolding_none refine Covered.next ?_)
    | with_unfolding_none apply hW.sub (inBoth (inBoth (inBoth (inBoth (inBoth (inBoth (inBoth (inBoth (inBoth (inBoth (inSkip (inBoth (inBoth (inBoth (inBoth (inBoth inNil))))))))))))))))
    | (with_reducible refine Within.trans ?_ hL; decide +kernel)
    | (extract_lets +onlyGivenNames letX; have letT : True := (by clear_value letX; guard_hyp letX : State; trivial); clear letT; refine Leaves.cut (W := W) (L := L) (r := org) (v := letX) ?_ (fun letH => ?_); (focus subst letX); rotate_left; clear_value letX; revert letX; intro _ _)
    | with_reducible refine Leaves.ite ?_ ?_

theorem State.openReports_leaves {W : List Span} {L : List Part} {org s : State} (h : Leaves W L org s)
    (hW : Inside (one EVENT_FABRIC.LATE_RECORDS :: one EVENT_FABRIC.RECORDS_PLACED :: one KEEPER_TOLD :: one LONG_RESET :: each MSIX_HELD :: each OVF_DROPS :: each OVF_FIRST :: each OVF_LAST :: each RING.DROPS :: each RING.HIGH_WATER :: each RING.SEQUENCE :: each RING_RR :: one STOP_MARK :: each TARGET.RAISES :: each TARGET.TARGET_STATE :: each TG_BEGAN :: each TG_COUNT :: each TG_LOW :: []) W) (hL : Within ([.collector, .out, .placing, .rings] : List Part) L) :
    Leaves W L org (State.openReports s) := by
  delta State.openReports
  repeat' first
    | with_reducible assumption
    | with_reducible apply State.setN_leaves
    | with_reducible apply State.openStop_leaves
    | with_reducible apply State.raise_leaves
    | (with_unfolding_none refine hW.covers ?_; repeat first | with_unfolding_none exact Covered.here | with_unfolding_none exact KEEPER_TOLD_in | with_unfolding_none exact LONG_RESET_in | with_unfolding_none refine Covered.next ?_)
    | with_unfolding_none apply hW.sub (inBoth (inBoth (inSkip (inSkip (inBoth (inBoth (inBoth (inBoth (inBoth (inBoth (inBoth (inBoth (inBoth (inBoth (inBoth (inBoth (inBoth (inBoth inNil))))))))))))))))))
    | with_unfolding_none apply hW.sub (inNil)
    | (with_reducible refine Within.trans ?_ hL; decide +kernel)
    | (extract_lets +onlyGivenNames letX; have letT : True := (by clear_value letX; guard_hyp letX : State; trivial); clear letT; refine Leaves.cut (W := W) (L := L) (r := org) (v := letX) ?_ (fun letH => ?_); (focus subst letX); rotate_left; clear_value letX; revert letX; intro _ _)
    | with_reducible refine Leaves.ite ?_ ?_

theorem State.openStep_leaves {W : List Span} {L : List Part} {org s : State} (o : Opening) (e4 k4 e5 k5 p5 lost : Nat) (low full : Bool) (step : Nat) (h : Leaves W L org s)
    (hW : Inside (anyKey :: []) W) (hL : Within ([.canQueue, .collector, .dieMsgs, .out, .shadows] : List Part) L) :
    Leaves W L org (State.openStep s o e4 k4 e5 k5 p5 lost low full step) := by
  delta State.openStep
  repeat' first
    | with_reducible assumption
    | with_reducible apply State.openClock_leaves
    | with_reducible apply State.openStraps_leaves
    | with_reducible apply State.openLink0_leaves
    | with_reducible apply State.openLinks_leaves
    | with_reducible apply State.openRecords_leaves
    | with_reducible apply State.openPort_leaves
    | with_unfolding_none apply hW.sub (inAny)
    | (with_reducible refine Within.trans ?_ hL; decide +kernel)
    | (extract_lets +onlyGivenNames letX; clear_value letX; revert letX; intro _)
    | with_reducible refine Leaves.ite ?_ ?_
    | split
    | with_reducible refine Leaves.ofPair (by assumption) ?_

theorem State.openEnds_leaves {W : List Span} {L : List Part} {org s : State} (o : Opening) (full : Bool) (e5 : Nat) (order ran : List Nat) (h : Leaves W L org s)
    (hW : Inside (anyKey :: []) W) (hL : Within ([.collector] : List Part) L) :
    Leaves W L org (State.openEnds s o full e5 order ran) := by
  delta State.openEnds
  repeat' first
    | with_reducible assumption
    | with_reducible apply State.setN_leaves
    | with_reducible apply State.retainJournal_leaves
    | with_reducible apply State.openProfile_leaves
    | with_reducible apply State.openingGoesOn_leaves
    | (with_unfolding_none refine hW.covers ?_; repeat first | with_unfolding_none exact dyn_in | with_unfolding_none refine Covered.next ?_)
    | with_unfolding_none apply hW.sub (inAny)
    | (with_reducible refine Within.trans ?_ hL; decide +kernel)
    | (extract_lets +onlyGivenNames letX; have letT : True := (by clear_value letX; guard_hyp letX : State; trivial); clear letT; refine Leaves.cut (W := W) (L := L) (r := org) (v := letX) ?_ (fun letH => ?_); (focus subst letX); rotate_left; clear_value letX; revert letX; intro _ _)
    | (extract_lets +onlyGivenNames letX; clear_value letX; revert letX; intro _)
    | with_reducible refine Leaves.ite ?_ ?_
    | split
    | with_reducible refine Leaves.ofPair (by assumption) ?_

theorem State.opening_leaves {W : List Span} {L : List Part} {org s : State} (o : Opening) (full : Bool) (cause : Nat) (h : Leaves W L org s)
    (hW : Inside (anyKey :: []) W) (hL : Within ([.canQueue, .collector, .dieMsgs, .out, .shadows] : List Part) L) :
    Leaves W L org (State.opening s o full cause) := by
  delta State.opening
  repeat' first
    | with_reducible assumption
    | with_reducible apply State.setN_leaves
    | with_reducible apply State.openTick_leaves
    | with_reducible apply State.journalShift_leaves
    | with_reducible apply State.diesReleased_leaves
    | with_reducible apply State.swRelease_leaves
    | with_reducible apply State.copiesDefault_leaves
    | with_reducible apply State.levelTo_leaves
    | with_reducible apply State.openKeys_leaves
    | with_reducible apply State.openStep_leaves
    | with_reducible apply State.openEnds_leaves
    | with_reducible apply State.thermalOpening_leaves
    | (with_unfolding_none refine hW.covers ?_; repeat first | with_unfolding_none exact dyn_in | with_unfolding_none refine Covered.next ?_)
    | with_unfolding_none apply hW.sub (inAny)
    | (with_reducible refine Within.trans ?_ hL; decide +kernel)
    | (extract_lets +onlyGivenNames letX; have letT : True := (by clear_value letX; guard_hyp letX : State; trivial); clear letT; refine Leaves.cut (W := W) (L := L) (r := org) (v := letX) ?_ (fun letH => ?_); (focus subst letX); rotate_left; clear_value letX; revert letX; intro _ _)
    | (extract_lets +onlyGivenNames letX; clear_value letX; revert letX; intro _)
    | with_reducible refine Leaves.ite ?_ ?_
    | with_reducible refine forEach_leaves ?_ (fun _ _ _ => ?_)
    | with_reducible refine Leaves.update ?_ ?_ ?_ ?_ ?_ ?_ ?_ ?_ ?_ ?_ ?_ ?_ ?_ ?_ ?_ ?_ ?_ ?_ ?_
    | with_reducible exact Or.inl rfl
    | with_reducible exact Or.inr (hL _ (by decide +kernel))

theorem State.openingWaits_leaves {W : List Span} {L : List Part} {org s : State} (o : Opening) (h : Leaves W L org s)
    (hW : Inside (anyKey :: []) W) (hL : Within ([.canQueue, .collector, .dieMsgs, .out, .placing, .rings, .shadows] : List Part) L) :
    Leaves W L org (State.openingWaits s o) := by
  delta State.openingWaits
  repeat' first
    | with_reducible assumption
    | with_reducible apply State.setN_leaves
    | with_reducible apply State.openStep_leaves
    | with_reducible apply State.openEnds_leaves
    | with_reducible apply State.openStop_leaves
    | (with_unfolding_none refine hW.covers ?_; repeat first | with_unfolding_none exact dyn_in | with_unfolding_none refine Covered.next ?_)
    | with_unfolding_none apply hW.sub (inAny)
    | (with_reducible refine Within.trans ?_ hL; decide +kernel)
    | (extract_lets +onlyGivenNames letX; have letT : True := (by clear_value letX; guard_hyp letX : State; trivial); clear letT; refine Leaves.cut (W := W) (L := L) (r := org) (v := letX) ?_ (fun letH => ?_); (focus subst letX); rotate_left; clear_value letX; revert letX; intro _ _)
    | (extract_lets +onlyGivenNames letX; clear_value letX; revert letX; intro _)
    | with_reducible refine Leaves.ite ?_ ?_
    | with_reducible refine forEach_leaves ?_ (fun _ _ _ => ?_)

theorem State.resetRelease_leaves {W : List Span} {L : List Part} {org s : State} (o : Opening) (h : Leaves W L org s)
    (hW : Inside (anyKey :: []) W) (hL : Within ([.canQueue, .collector, .dieMsgs, .out, .placing, .rings, .shadows, .staged] : List Part) L) :
    Leaves W L org (State.resetRelease s o) := by
  delta State.resetRelease
  repeat' first
    | with_reducible assumption
    | with_reducible apply State.setN_leaves
    | with_reducible apply State.openingWaits_leaves
    | with_reducible apply State.keeperHolds_leaves
    | with_reducible apply State.opening_leaves
    | with_reducible apply State.recordNow_leaves
    | with_reducible apply State.openReports_leaves
    | (with_unfolding_none refine hW.covers ?_; repeat first | with_unfolding_none exact dyn_in | with_unfolding_none refine Covered.next ?_)
    | with_unfolding_none apply hW.sub (inAny)
    | (with_reducible refine Within.trans ?_ hL; decide +kernel)
    | (extract_lets +onlyGivenNames letX; have letT : True := (by clear_value letX; guard_hyp letX : State; trivial); clear letT; refine Leaves.cut (W := W) (L := L) (r := org) (v := letX) ?_ (fun letH => ?_); (focus subst letX); rotate_left; clear_value letX; revert letX; intro _ _)
    | (extract_lets +onlyGivenNames letX; clear_value letX; revert letX; intro _)
    | with_reducible refine Leaves.ite ?_ ?_

theorem State.parkExit_leaves {W : List Span} {L : List Part} {org s : State} (o : Opening) (h : Leaves W L org s)
    (hW : Inside (anyKey :: []) W) (hL : Within ([.canQueue, .collector, .dieMsgs, .out, .shadows] : List Part) L) :
    Leaves W L org (State.parkExit s o) := by
  delta State.parkExit
  repeat' first
    | with_reducible assumption
    | with_reducible apply State.setN_leaves
    | with_reducible apply State.pwmLow_leaves
    | with_reducible apply State.opening_leaves
    | with_reducible apply State.estUnparks_leaves
    | with_reducible apply State.raise_leaves
    | (with_unfolding_none refine hW.covers ?_; repeat first | with_unfolding_none exact dyn_in | with_unfolding_none refine Covered.next ?_)
    | with_unfolding_none apply hW.sub (inAny)
    | with_unfolding_none apply hW.sub (inNil)
    | (with_reducible refine Within.trans ?_ hL; decide +kernel)
    | (extract_lets +onlyGivenNames letX; have letT : True := (by clear_value letX; guard_hyp letX : State; trivial); clear letT; refine Leaves.cut (W := W) (L := L) (r := org) (v := letX) ?_ (fun letH => ?_); (focus subst letX); rotate_left; clear_value letX; revert letX; intro _ _)
    | (extract_lets +onlyGivenNames letX; clear_value letX; revert letX; intro _)
    | with_reducible refine Leaves.ite ?_ ?_

theorem State.openingResume_leaves {W : List Span} {L : List Part} {org s : State} (v : Nat) (h : Leaves W L org s)
    (hW : Inside (anyKey :: []) W) (hL : Within ([.canQueue, .collector, .dieMsgs, .out, .shadows] : List Part) L) :
    Leaves W L org (State.openingResume s v) := by
  delta State.openingResume
  repeat' first
    | with_reducible assumption
    | with_reducible apply State.setN_leaves
    | with_reducible apply State.strapsRead_leaves
    | with_reducible apply State.nodeBoot_leaves
    | with_reducible apply State.stepFails_leaves
    | with_reducible apply State.openLink0_leaves
    | with_reducible apply State.linkComesUp_leaves
    | with_reducible apply State.openLinks_leaves
    | with_reducible apply State.openProfile_leaves
    | with_reducible apply State.openingGoesOn_leaves
    | with_reducible apply State.openArbiter_leaves
    | (with_unfolding_none refine hW.covers ?_; repeat first | with_unfolding_none exact dyn_in | with_unfolding_none refine Covered.next ?_)
    | with_unfolding_none apply hW.sub (inAny)
    | (with_reducible refine Within.trans ?_ hL; decide +kernel)
    | (extract_lets +onlyGivenNames letX; have letT : True := (by clear_value letX; guard_hyp letX : State; trivial); clear letT; refine Leaves.cut (W := W) (L := L) (r := org) (v := letX) ?_ (fun letH => ?_); (focus subst letX); rotate_left; clear_value letX; revert letX; intro _ _)
    | (extract_lets +onlyGivenNames letX; clear_value letX; revert letX; intro _)
    | with_reducible refine Leaves.ite ?_ ?_

theorem State.arbiterRetry_leaves {W : List Span} {L : List Part} {org s : State} (ok : Bool) (h : Leaves W L org s)
    (hW : Inside (one ARB_AT :: one ARB_DOWN :: each CAN_PORT.TX_FRAMES :: one (HB_AT 0) :: one (NMT_STATE 0) :: []) W) (hL : Within ([.canQueue, .out] : List Part) L) :
    Leaves W L org (State.arbiterRetry s ok) := by
  delta State.arbiterRetry
  repeat' first
    | with_reducible assumption
    | with_reducible apply State.setN_leaves
    | with_reducible apply State.nodeBoot_leaves
    | (with_unfolding_none refine hW.covers ?_; repeat first | with_unfolding_none exact Covered.here | with_unfolding_none exact ARB_AT_in | with_unfolding_none exact ARB_DOWN_in | with_unfolding_none refine Covered.next ?_)
    | with_unfolding_none apply hW.sub (inSkip (inSkip (inBoth (inBoth (inBoth inNil)))))
    | (with_reducible refine Within.trans ?_ hL; decide +kernel)
    | (extract_lets +onlyGivenNames letX; have letT : True := (by clear_value letX; guard_hyp letX : State; trivial); clear letT; refine Leaves.cut (W := W) (L := L) (r := org) (v := letX) ?_ (fun letH => ?_); (focus subst letX); rotate_left; clear_value letX; revert letX; intro _ _)
    | with_reducible refine Leaves.ite ?_ ?_

theorem State.rstoutRelease_leaves {W : List Span} {L : List Part} {org s : State} (h : Leaves W L org s)
    (hW : Inside (one RSTOUT_HIGH :: []) W) :
    Leaves W L org (State.rstoutRelease s) := by
  delta State.rstoutRelease
  repeat' first
    | with_reducible assumption
    | with_reducible apply State.setN_leaves
    | (with_unfolding_none refine hW.covers ?_; repeat first | with_unfolding_none exact Covered.here | with_unfolding_none exact RSTOUT_HIGH_in | with_unfolding_none refine Covered.next ?_)
    | with_reducible refine Leaves.ite ?_ ?_

theorem execResetRelease_frame {W : List Span} {L : List Part} {org s : State} (o : Opening) (h : Leaves W L org s)
    (hW : Inside (anyKey :: []) W)
    (hL : Within ([.canQueue, .collector, .dieMsgs, .out, .placing, .rings, .shadows, .staged] : List Part) L) : RunsIn W L org (execResetRelease o s) := by
  delta execResetRelease
  repeat' first
    | with_reducible assumption
    | with_reducible refine RunsIn.next ?_
    | with_reducible apply State.resetRelease_leaves
    | with_unfolding_none apply hW.sub (inAny)

theorem execParkExit_frame {W : List Span} {L : List Part} {org s : State} (o : Opening) (h : Leaves W L org s)
    (hW : Inside (anyKey :: []) W)
    (hL : Within ([.canQueue, .collector, .dieMsgs, .out, .shadows] : List Part) L) : RunsIn W L org (execParkExit o s) := by
  delta execParkExit
  repeat' first
    | with_reducible assumption
    | with_reducible refine RunsIn.next ?_
    | with_reducible apply State.parkExit_leaves
    | with_unfolding_none apply hW.sub (inAny)

theorem execProfileChannelRequest_frame {W : List Span} {L : List Part} {org s : State} (h : Leaves W L org s)
    (hW : Inside (each ADMIT_KIND :: each ADMIT_SINCE :: each BANK.BANK_FLAGS :: each CELL :: each CHANNEL_CONFIG.REQUEST :: each CHANNEL_PROTECTION.ADMIT_WAIT :: each CHANNEL_PROTECTION.MODEL_FLAGS :: each CHANNEL_PROTECTION.RETRIES_LEFT :: each CHANNEL_STATUS.FLAGS :: each CHANNEL_STATUS.STANDING_GATE :: each CHANNEL_STATUS.STATE :: each GATE :: each LAMP_LOW :: each LAMP_TOLD :: each LATCH :: each LIMIT_EPISODE :: each LIMIT_LEFT :: each LIMIT_SINCE :: each LIMIT_SPENT :: each PEND :: one PROFILE_DONE :: one PROFILE_OFF :: each PUMP_START :: each PUMP_STOP_AT :: each PWM_HIGH :: each PWM_NEXT :: each RESET_OUTPUT.ASSERT_COUNT :: each RESET_OUTPUT.LAST_CHANGE_STAMP :: each RESET_OUTPUT.OUTPUT :: each RSO_GOOD_SINCE :: each RUN_SINCE :: each RUN_SPENT :: each START_AT :: each STORED_WAIT :: each TRIP_STATE :: each WIN :: (each fun n => inForce (CHANNEL_CONFIG.REQUEST n)) :: []) W)
    (hL : Within ([.collector, .dieMsgs, .staged] : List Part) L) : RunsIn W L org (execProfileChannelRequest s) := by
  delta execProfileChannelRequest
  repeat' first
    | with_reducible assumption
    | with_reducible refine RunsIn.next ?_
    | with_reducible apply State.profileRequests_leaves
    | with_unfolding_none apply hW.sub (inBoth (inBoth (inBoth (inBoth (inBoth (inBoth (inBoth (inBoth (inBoth (inBoth (inBoth (inBoth (inBoth (inBoth (inBoth (inBoth (inBoth (inBoth (inBoth (inBoth (inBoth (inBoth (inBoth (inBoth (inBoth (inBoth (inBoth (inBoth (inBoth (inBoth (inBoth (inBoth (inBoth (inBoth (inBoth (inBoth (inBoth inNil)))))))))))))))))))))))))))))))))))))

theorem execArbiterPortRetry_frame {W : List Span} {L : List Part} {org s : State} (ok : Bool) (h : Leaves W L org s)
    (hW : Inside (one ARB_AT :: one ARB_DOWN :: each CAN_PORT.TX_FRAMES :: one (HB_AT 0) :: one (NMT_STATE 0) :: []) W)
    (hL : Within ([.canQueue, .out] : List Part) L) : RunsIn W L org (execArbiterPortRetry ok s) := by
  delta execArbiterPortRetry
  repeat' first
    | with_reducible assumption
    | with_reducible refine RunsIn.next ?_
    | with_reducible apply State.arbiterRetry_leaves
    | with_unfolding_none apply hW.sub (inBoth (inBoth (inBoth (inBoth (inBoth inNil)))))

theorem execRstoutNRelease_frame {W : List Span} {L : List Part} {org s : State} (h : Leaves W L org s)
    (hW : Inside (one RSTOUT_HIGH :: []) W)
    : RunsIn W L org (execRstoutNRelease s) := by
  delta execRstoutNRelease
  repeat' first
    | with_reducible assumption
    | with_reducible refine RunsIn.next ?_
    | with_reducible apply State.rstoutRelease_leaves
    | with_unfolding_none apply hW.sub (inBoth inNil)

theorem State.collectorRecord_leaves {W : List Span} {L : List Part} {org s : State} (k : Kind) (c : Nat) (fields : List (Nat × Int)) (h : Leaves W L org s) (hL : Within ([.placing] : List Part) L) :
    Leaves W L org (State.collectorRecord s k c fields) := by
  delta State.collectorRecord
  repeat' first
    | with_reducible assumption
    | (extract_lets +onlyGivenNames letX; clear_value letX; revert letX; intro _)
    | with_reducible refine Leaves.update ?_ ?_ ?_ ?_ ?_ ?_ ?_ ?_ ?_ ?_ ?_ ?_ ?_ ?_ ?_ ?_ ?_ ?_ ?_
    | with_reducible exact Or.inl rfl
    | with_reducible exact Or.inr (hL _ (by decide +kernel))

theorem State.cascade_leaves {W : List Span} {L : List Part} {org s : State} (m : Msg) (c : Nat) (h : Leaves W L org s)
    (hW : Inside (one FAULT_STATUS.CASCADES :: one FAULT_STATUS.ESCALATIONS :: one (RET_CASCADE 0) :: one (RET_CASCADE 1) :: one RET_CASCADES :: []) W) (hL : Within ([.placing] : List Part) L) :
    Leaves W L org (State.cascade s m c).2 := by
  delta State.cascade
  repeat' first
    | with_reducible assumption
    | with_reducible apply State.setN_leaves
    | with_reducible apply State.count_leaves
    | with_reducible apply State.collectorRecord_leaves
    | (with_unfolding_none refine hW.covers ?_; repeat first | with_unfolding_none exact Covered.here | with_unfolding_none exact FAULT_STATUS.CASCADES_in | with_unfolding_none exact FAULT_STATUS.ESCALATIONS_in | with_unfolding_none exact RET_CASCADES_in | with_unfolding_none refine Covered.next ?_)
    | with_unfolding_none apply hW.sub (inNil)
    | (with_reducible refine Within.trans ?_ hL; decide +kernel)
    | (extract_lets +onlyGivenNames letX; have letT : True := (by clear_value letX; guard_hyp letX : State; trivial); clear letT; refine Leaves.cut (W := W) (L := L) (r := org) (v := letX) ?_ (fun letH => ?_); (focus subst letX); rotate_left; clear_value letX; revert letX; intro _ _)
    | with_reducible refine Leaves.iteP ?_ ?_
    | with_reducible refine Leaves.ite ?_ ?_

theorem State.collectorDrop_leaves {W : List Span} {L : List Part} {org s : State} (h : Leaves W L org s)
    (hW : Inside (one DROP_TIMES :: one FAULT_STATUS.COLLECTOR_DROPS :: one OVERRUN_AT :: []) W) (hL : Within ([.collector] : List Part) L) :
    Leaves W L org (State.collectorDrop s) := by
  delta State.collectorDrop
  repeat' first
    | with_reducible assumption
    | with_reducible apply State.setN_leaves
    | with_reducible apply State.count_leaves
    | with_reducible apply State.setBlob_leaves
    | with_reducible apply State.raise_leaves
    | (with_unfolding_none refine hW.covers ?_; repeat first | with_unfolding_none exact Covered.here | with_unfolding_none exact DROP_TIMES_in | with_unfolding_none exact FAULT_STATUS.COLLECTOR_DROPS_in | with_unfolding_none exact OVERRUN_AT_in | with_unfolding_none refine Covered.next ?_)
    | with_unfolding_none apply hW.sub (inNil)
    | (with_reducible refine Within.trans ?_ hL; decide +kernel)
    | (extract_lets +onlyGivenNames letX; have letT : True := (by clear_value letX; guard_hyp letX : State; trivial); clear letT; refine Leaves.cut (W := W) (L := L) (r := org) (v := letX) ?_ (fun letH => ?_); (focus subst letX); rotate_left; clear_value letX; revert letX; intro _ _)
    | (extract_lets +onlyGivenNames letX; clear_value letX; revert letX; intro _)
    | with_reducible refine Leaves.ite ?_ ?_

theorem State.toRecording_leaves {W : List Span} {L : List Part} {org s : State} (m : Msg) (c : Nat) (shadow : Bool) (h : Leaves W L org s)
    (hW : Inside (one DROP_TIMES :: one FAULT_STATUS.COLLECTOR_DROPS :: one OVERRUN_AT :: []) W) (hL : Within ([.collector, .placing] : List Part) L) :
    Leaves W L org (State.toRecording s m c shadow) := by
  delta State.toRecording
  repeat' first
    | with_reducible assumption
    | with_reducible apply State.collectorDrop_leaves
    | with_unfolding_none apply hW.sub (inBoth (inBoth (inBoth inNil)))
    | (with_reducible refine Within.trans ?_ hL; decide +kernel)
    | with_reducible refine Leaves.ite ?_ ?_
    | with_reducible refine Leaves.update ?_ ?_ ?_ ?_ ?_ ?_ ?_ ?_ ?_ ?_ ?_ ?_ ?_ ?_ ?_ ?_ ?_ ?_ ?_
    | with_reducible exact Or.inl rfl
    | with_reducible exact Or.inr (hL _ (by decide +kernel))

theorem State.emcyFor_leaves {W : List Span} {L : List Part} {org s : State} (r : Record) (h : Leaves W L org s)
    (hW : Inside (each CAN_PORT.EMCY_DROPS :: each CAN_PORT.TX_FRAMES :: []) W) (hL : Within ([.canQueue, .out] : List Part) L) :
    Leaves W L org (State.emcyFor s r) := by
  delta State.emcyFor
  repeat' first
    | with_reducible assumption
    | with_reducible apply State.emcySend_leaves
    | with_unfolding_none apply hW.sub (inBoth (inBoth inNil))
    | (with_reducible refine Within.trans ?_ hL; decide +kernel)
    | with_reducible refine Leaves.ite ?_ ?_
    | with_reducible refine forBelow_leaves ?_ (fun _ _ _ => ?_)

theorem State.unitStop_leaves {W : List Span} {L : List Part} {org s : State} (site : Nat) (h : Leaves W L org s)
    (hW : Inside (one ASSIST_STATUS.ASSIST_CURRENT :: one ASSIST_STATUS.ASSIST_RESULT :: one ASSIST_STATUS.ASSIST_STATE :: one AS_CLOSED :: one AS_END :: one AS_TIME :: each CONVERTER_STATUS.CONV_FLAGS :: each CONVERTER_STATUS.LATCH_CAUSE :: each CONVERTER_STATUS.RECORDS_SKIPPED :: each CONVERTER_STATUS.STATE :: each CONV_FROZEN :: each CONV_LIMIT :: each CONV_PHASE :: each CONV_WRITING :: each CWIN :: each2 CWIN_AT :: each2 LANE_EDGE :: each LANE_OFFSET :: each LANE_PARK :: one (OVR_END 2) :: each TRUNC_LONGEST :: each TRUNC_SINCE :: each TRUNC_TOLD_AT :: []) W) (hL : Within ([.collector, .landing, .shadows] : List Part) L) :
    Leaves W L org (State.unitStop s site) := by
  delta State.unitStop
  repeat' first
    | with_reducible assumption
    | with_reducible apply State.setN_leaves
    | with_reducible apply State.convLatch_leaves
    | with_reducible apply State.openShadow_leaves
    | with_reducible apply State.laneParks_leaves
    | with_reducible apply State.land_leaves
    | (with_unfolding_none refine hW.covers ?_; repeat first | with_unfolding_none exact Covered.here | with_unfolding_none exact LANE_PARK_in | with_unfolding_none refine Covered.next ?_)
    | with_unfolding_none apply hW.sub (inBoth (inBoth (inBoth (inBoth (inBoth (inBoth (CONVERTER_STATUS.CONV_FLAGS_wide (inSkip (CONVERTER_STATUS.LATCH_CAUSE_wide (inSkip (CONVERTER_STATUS.RECORDS_SKIPPED_wide (inSkip (CONVERTER_STATUS.STATE_wide (inSkip (CONV_FROZEN_wide (inSkip (CONV_LIMIT_wide (inSkip (CONV_PHASE_wide (inSkip (CONV_WRITING_wide (inSkip (CWIN_wide (inSkip (CWIN_AT_wide (inSkip (inBoth (inSkip (inSkip (inBoth (TRUNC_LONGEST_wide (inSkip (TRUNC_SINCE_wide (inSkip (TRUNC_TOLD_AT_wide inNil)))))))))))))))))))))))))))))))))))
    | with_unfolding_none apply hW.sub (inNil)
    | with_unfolding_none apply hW.sub (inSkip (inSkip (inSkip (inSkip (inSkip (inSkip (inSkip (inSkip (inSkip (inSkip (inSkip (inSkip (inSkip (inSkip (inSkip (inSkip (inBoth (LANE_OFFSET_wide inNil))))))))))))))))))
    | (with_reducible refine Within.trans ?_ hL; decide +kernel)
    | (extract_lets +onlyGivenNames letX; have letT : True := (by clear_value letX; guard_hyp letX : State; trivial); clear letT; refine Leaves.cut (W := W) (L := L) (r := org) (v := letX) ?_ (fun letH => ?_); (focus subst letX); rotate_left; clear_value letX; revert letX; intro _ _)
    | with_reducible refine Leaves.ite ?_ ?_
    | split
    | with_reducible refine Leaves.ofPair (by assumption) ?_

theorem State.lockOut_leaves {W : List Span} {L : List Part} {org s : State} (n : Nat) (h : Leaves W L org s)
    (hW : Inside (each ADMIT_KIND :: each BANK.BANK_FLAGS :: each CASTLING_PAIR.SWAP_RESULT :: each CASTLING_PAIR.SWAP_STATE :: each CELL :: each CHANNEL_CONFIG.REQUEST :: each CHANNEL_PROTECTION.MODEL_FLAGS :: each CHANNEL_STATUS.FLAGS :: each CHANNEL_STATUS.STANDING_GATE :: each CHANNEL_STATUS.STATE :: each FOLD_WAIT :: each GATE :: each LAMP_LOW :: each LAMP_TOLD :: each LATCH :: each LIMIT_EPISODE :: each LIMIT_LEFT :: each LIMIT_SINCE :: each LIMIT_SPENT :: each PEND :: each PUMP_START :: each PUMP_STOP_AT :: each PWM_HIGH :: each RESET_OUTPUT.ASSERT_COUNT :: each RESET_OUTPUT.LAST_CHANGE_STAMP :: each RESET_OUTPUT.OUTPUT :: each RSO_GOOD_SINCE :: each RUN_SINCE :: each RUN_SPENT :: each START_AT :: each STORED_WAIT :: each SWAP_IN :: each TRIP_STATE :: each WIN :: (each fun n => inForce (CHANNEL_CONFIG.REQUEST n)) :: []) W) (hL : Within ([.collector, .dieMsgs, .staged] : List Part) L) :
    Leaves W L org (State.lockOut s n) := by
  delta State.lockOut
  repeat' first
    | with_reducible assumption
    | with_reducible apply State.setN_leaves
    | with_reducible apply State.swapInterrupt_leaves
    | with_reducible apply State.setModelFlag_leaves
    | with_reducible apply State.withdraw_leaves
    | with_reducible apply State.cellTo_leaves
    | (with_unfolding_none refine hW.covers ?_; repeat first | with_unfolding_none exact Covered.here | with_unfolding_none exact GATE_in | with_unfolding_none exact PEND_in | with_unfolding_none exact PWM_HIGH_in | with_unfolding_none exact STORED_WAIT_in | with_unfolding_none refine Covered.next ?_)
    | with_unfolding_none apply hW.sub (inBoth (inBoth (inBoth (inBoth (inBoth (inBoth (inBoth (inBoth (inBoth (inBoth (inBoth (inBoth (inBoth (inBoth (inBoth (inBoth (inBoth (inBoth (inBoth (inBoth (inBoth (inBoth (inBoth (inBoth (inBoth (inBoth (inBoth (inBoth (inBoth (inBoth (inBoth (inBoth (inBoth (inBoth (inBoth inNil)))))))))))))))))))))))))))))))))))
    | with_unfolding_none apply hW.sub (inSkip (inSkip (inSkip (inSkip (inSkip (inSkip (CHANNEL_PROTECTION.MODEL_FLAGS_wide inNil)))))))
    | with_unfolding_none apply hW.sub (ADMIT_KIND_wide (inSkip (inSkip (inSkip (inSkip (inSkip (inSkip (inSkip (CHANNEL_STATUS.FLAGS_wide (inSkip (inSkip (inSkip (inSkip (inSkip (inSkip (inSkip (inSkip (inSkip (inSkip (inSkip (inSkip (inSkip (inSkip (inSkip (inSkip (inSkip (inSkip (inSkip (inSkip (inSkip (inSkip (START_AT_wide inNil))))))))))))))))))))))))))))))))
    | with_unfolding_none apply hW.sub (inSkip (BANK.BANK_FLAGS_wide (inSkip (inSkip (inSkip (CELL_wide (inSkip (inSkip (CHANNEL_PROTECTION.MODEL_FLAGS_wide (inSkip (CHANNEL_STATUS.FLAGS_wide (inSkip (CHANNEL_STATUS.STANDING_GATE_wide (inSkip (CHANNEL_STATUS.STATE_wide (inSkip (inSkip (GATE_wide (inSkip (LAMP_LOW_wide (inSkip (LAMP_TOLD_wide (inSkip (LATCH_wide (inSkip (LIMIT_EPISODE_wide (inSkip (LIMIT_LEFT_wide (inSkip (LIMIT_SINCE_wide (inSkip (LIMIT_SPENT_wide (inSkip (inSkip (PUMP_START_wide (inSkip (PUMP_STOP_AT_wide (inSkip (inSkip (inBoth (inBoth (inBoth (inBoth (RUN_SINCE_wide (inSkip (RUN_SPENT_wide (inSkip (inSkip (inSkip (inSkip (inSkip (WIN_wide inNil))))))))))))))))))))))))))))))))))))))))))))))))))))
    | (with_reducible refine Within.trans ?_ hL; decide +kernel)
    | (extract_lets +onlyGivenNames letX; have letT : True := (by clear_value letX; guard_hyp letX : State; trivial); clear letT; refine Leaves.cut (W := W) (L := L) (r := org) (v := letX) ?_ (fun letH => ?_); (focus subst letX); rotate_left; clear_value letX; revert letX; intro _ _)
    | (extract_lets +onlyGivenNames letX; clear_value letX; revert letX; intro _)
    | with_reducible refine Leaves.ite ?_ ?_

theorem State.unitStopLands_leaves {W : List Span} {L : List Part} {org s : State} (site : Nat) (h : Leaves W L org s)
    (hW : Inside (each ADMIT_KIND :: each BANK.BANK_FLAGS :: each CASTLING_PAIR.SWAP_RESULT :: each CASTLING_PAIR.SWAP_STATE :: each CELL :: each CHANNEL_CONFIG.REQUEST :: each CHANNEL_PROTECTION.MODEL_FLAGS :: each CHANNEL_STATUS.FLAGS :: each CHANNEL_STATUS.STANDING_GATE :: each CHANNEL_STATUS.STATE :: each FOLD_WAIT :: each GATE :: each LAMP_LOW :: each LAMP_TOLD :: each LATCH :: each LIMIT_EPISODE :: each LIMIT_LEFT :: each LIMIT_SINCE :: each LIMIT_SPENT :: each PEND :: each PUMP_START :: each PUMP_STOP_AT :: each PWM_HIGH :: each RESET_OUTPUT.ASSERT_COUNT :: each RESET_OUTPUT.LAST_CHANGE_STAMP :: each RESET_OUTPUT.OUTPUT :: each RSO_GOOD_SINCE :: each RUN_SINCE :: each RUN_SPENT :: each START_AT :: each STORED_WAIT :: each SWAP_IN :: each TRIP_STATE :: each WIN :: (each fun n => inForce (CHANNEL_CONFIG.REQUEST n)) :: []) W) (hL : Within ([.collector, .dieMsgs, .staged] : List Part) L) :
    Leaves W L org (State.unitStopLands s site) := by
  delta State.unitStopLands
  repeat' first
    | with_reducible assumption
    | with_reducible apply State.lockOut_leaves
    | with_unfolding_none apply hW.sub (inBoth (inBoth (inBoth (inBoth (inBoth (inBoth (inBoth (inBoth (inBoth (inBoth (inBoth (inBoth (inBoth (inBoth (inBoth (inBoth (inBoth (inBoth (inBoth (inBoth (inBoth (inBoth (inBoth (inBoth (inBoth (inBoth (inBoth (inBoth (inBoth (inBoth (inBoth (inBoth (inBoth (inBoth (inBoth inNil)))))))))))))))))))))))))))))))))))
    | (with_reducible refine Within.trans ?_ hL; decide +kernel)
    | with_reducible refine forEach_leaves ?_ (fun _ _ _ => ?_)

theorem State.unitShadows_leaves {W : List Span} {L : List Part} {org s : State} (h : Leaves W L org s) (hL : Within ([.shadows] : List Part) L) :
    Leaves W L org (State.unitShadows s) := by
  delta State.unitShadows
  repeat' first
    | with_reducible assumption
    | with_reducible refine Leaves.ite ?_ ?_
    | with_reducible refine Leaves.update ?_ ?_ ?_ ?_ ?_ ?_ ?_ ?_ ?_ ?_ ?_ ?_ ?_ ?_ ?_ ?_ ?_ ?_ ?_
    | with_reducible exact Or.inl rfl
    | with_reducible exact Or.inr (hL _ (by decide +kernel))

theorem State.stopsOvertaken_leaves {W : List Span} {L : List Part} {org s : State} (t : Nat) (h : Leaves W L org s)
    (hW : Inside (one ASSIST_STATUS.ASSIST_CURRENT :: one ASSIST_STATUS.ASSIST_RESULT :: one ASSIST_STATUS.ASSIST_STATE :: one AS_CLOSED :: one AS_END :: one AS_TIME :: each CONVERTER_STATUS.CONV_FLAGS :: each CONVERTER_STATUS.LATCH_CAUSE :: each CONVERTER_STATUS.RECORDS_SKIPPED :: each CONVERTER_STATUS.STATE :: each CONV_FROZEN :: each CONV_LIMIT :: each CONV_PHASE :: each CONV_WRITING :: each CWIN :: each2 CWIN_AT :: each2 LANE_EDGE :: each LANE_OFFSET :: each LANE_PARK :: one (OVR_END 2) :: each TRUNC_LONGEST :: each TRUNC_SINCE :: each TRUNC_TOLD_AT :: []) W) (hL : Within ([.collector, .landing, .shadows] : List Part) L) :
    Leaves W L org (State.stopsOvertaken s t) := by
  delta State.stopsOvertaken
  repeat' first
    | with_reducible assumption
    | with_reducible apply State.unitStop_leaves
    | with_unfolding_none apply hW.sub (inBoth (inBoth (inBoth (inBoth (inBoth (inBoth (inBoth (inBoth (inBoth (inBoth (inBoth (inBoth (inBoth (inBoth (inBoth (inBoth (inBoth (inBoth (inBoth (inBoth (inBoth (inBoth (inBoth inNil)))))))))))))))))))))))
    | (with_reducible refine Within.trans ?_ hL; decide +kernel)
    | with_reducible refine Leaves.ite ?_ ?_
    | split
    | with_reducible refine Leaves.update ?_ ?_ ?_ ?_ ?_ ?_ ?_ ?_ ?_ ?_ ?_ ?_ ?_ ?_ ?_ ?_ ?_ ?_ ?_
    | with_reducible exact Or.inl rfl
    | with_reducible exact Or.inr (hL _ (by decide +kernel))
    | with_reducible refine Leaves.ofPair (by assumption) ?_

theorem State.handStop_leaves {W : List Span} {L : List Part} {org s : State} (m : Msg) (h : Leaves W L org s)
    (hW : Inside (one ASSIST_STATUS.ASSIST_CURRENT :: one ASSIST_STATUS.ASSIST_RESULT :: one ASSIST_STATUS.ASSIST_STATE :: one AS_CLOSED :: one AS_END :: one AS_TIME :: each CONVERTER_STATUS.CONV_FLAGS :: each CONVERTER_STATUS.LATCH_CAUSE :: each CONVERTER_STATUS.RECORDS_SKIPPED :: each CONVERTER_STATUS.STATE :: each CONV_FROZEN :: each CONV_LIMIT :: each CONV_PHASE :: each CONV_WRITING :: each CWIN :: each2 CWIN_AT :: each2 LANE_EDGE :: each LANE_OFFSET :: each LANE_PARK :: one (OVR_END 2) :: each TRUNC_LONGEST :: each TRUNC_SINCE :: each TRUNC_TOLD_AT :: []) W) (hL : Within ([.collector, .landing, .shadows] : List Part) L) :
    Leaves W L org (State.handStop s m) := by
  delta State.handStop
  repeat' first
    | with_reducible assumption
    | with_reducible apply State.stopsOvertaken_leaves
    | with_reducible apply State.scheduleFold_leaves
    | with_unfolding_none apply hW.sub (inBoth (inBoth (inBoth (inBoth (inBoth (inBoth (inBoth (inBoth (inBoth (inBoth (inBoth (inBoth (inBoth (inBoth (inBoth (inBoth (inBoth (inBoth (inBoth (inBoth (inBoth (inBoth (inBoth inNil)))))))))))))))))))))))
    | with_unfolding_none apply hW.sub (inNil)
    | (with_reducible refine Within.trans ?_ hL; decide +kernel)
    | with_reducible refine Leaves.ite ?_ ?_
    | with_reducible refine forEach_leaves ?_ (fun _ _ _ => ?_)

theorem State.stopKept_leaves {W : List Span} {L : List Part} {org s : State} (m : Msg) (c : Nat) (lockout : Bool) (h : Leaves W L org s)
    (hW : Inside (one FAULT_STATUS.HOUSE_STOPS :: one FAULT_STATUS.LAST_STOP :: one FAULT_STATUS.LOCKOUTS :: one RET_LOCKOUTS :: one RET_STOPS :: one STOP_MARK :: one STOP_RUNS :: []) W) :
    Leaves W L org (State.stopKept s m c lockout) := by
  delta State.stopKept
  repeat' first
    | with_reducible assumption
    | with_reducible apply State.setN_leaves
    | with_reducible apply State.count_leaves
    | with_reducible apply State.setBlob_leaves
    | (with_unfolding_none refine hW.covers ?_; repeat first | with_unfolding_none exact Covered.here | with_unfolding_none exact FAULT_STATUS.HOUSE_STOPS_in | with_unfolding_none exact FAULT_STATUS.LAST_STOP_in | with_unfolding_none exact FAULT_STATUS.LOCKOUTS_in | with_unfolding_none exact RET_LOCKOUTS_in | with_unfolding_none exact RET_STOPS_in | with_unfolding_none exact STOP_MARK_in | with_unfolding_none exact STOP_RUNS_in | with_unfolding_none refine Covered.next ?_)
    | (extract_lets +onlyGivenNames letX; have letT : True := (by clear_value letX; guard_hyp letX : State; trivial); clear letT; refine Leaves.cut (W := W) (L := L) (r := org) (v := letX) ?_ (fun letH => ?_); (focus subst letX); rotate_left; clear_value letX; revert letX; intro _ _)
    | with_reducible refine Leaves.ite ?_ ?_

theorem State.dropFolds_leaves {W : List Span} {L : List Part} {org s : State} (h : Leaves W L org s)
    (hW : Inside (one ASSIST_STATUS.ASSIST_CURRENT :: one ASSIST_STATUS.ASSIST_RESULT :: one ASSIST_STATUS.ASSIST_STATE :: one AS_CLOSED :: one AS_END :: one AS_TIME :: each CONVERTER_STATUS.CONV_FLAGS :: each CONVERTER_STATUS.LATCH_CAUSE :: each CONVERTER_STATUS.RECORDS_SKIPPED :: each CONVERTER_STATUS.STATE :: each CONV_FROZEN :: each CONV_LIMIT :: each CONV_PHASE :: each CONV_WRITING :: each CWIN :: each2 CWIN_AT :: each2 LANE_EDGE :: each LANE_OFFSET :: each LANE_PARK :: one (OVR_END 2) :: each TRUNC_LONGEST :: each TRUNC_SINCE :: each TRUNC_TOLD_AT :: []) W) (hL : Within ([.collector, .landing, .shadows] : List Part) L) :
    Leaves W L org (State.dropFolds s) := by
  delta State.dropFolds
  repeat' first
    | with_reducible assumption
    | with_reducible apply State.unitStop_leaves
    | with_unfolding_none apply hW.sub (inBoth (inBoth (inBoth (inBoth (inBoth (inBoth (inBoth (inBoth (inBoth (inBoth (inBoth (inBoth (inBoth (inBoth (inBoth (inBoth (inBoth (inBoth (inBoth (inBoth (inBoth (inBoth (inBoth inNil)))))))))))))))))))))))
    | (with_reducible refine Within.trans ?_ hL; decide +kernel)
    | split
    | with_reducible refine Leaves.update ?_ ?_ ?_ ?_ ?_ ?_ ?_ ?_ ?_ ?_ ?_ ?_ ?_ ?_ ?_ ?_ ?_ ?_ ?_
    | with_reducible exact Or.inl rfl
    | with_reducible exact Or.inr (hL _ (by decide +kernel))
    | with_reducible refine Leaves.ofPair (by assumption) ?_

theorem State.houseStop_leaves {W : List Span} {L : List Part} {org s : State} (m : Msg) (c : Nat) (lockout : Bool) (h : Leaves W L org s)
    (hW : Inside (one ASSIST_STATUS.ASSIST_CURRENT :: one ASSIST_STATUS.ASSIST_RESULT :: one ASSIST_STATUS.ASSIST_STATE :: one AS_CLOSED :: one AS_END :: one AS_TIME :: one BATTERY_RECORD.SEQUENCE :: one BATTERY_SWITCH.FORWARD :: one BATTERY_SWITCH.MODE_IN_EFFECT :: one BATTERY_SWITCH.OPEN_CAUSE :: each COMMIT_CONTROL.STATUS :: each CONVERTER.ENABLE :: each CONVERTER_STATUS.CONV_FLAGS :: each CONVERTER_STATUS.LATCH_CAUSE :: each CONVERTER_STATUS.RECORDS_SKIPPED :: each CONVERTER_STATUS.STATE :: each CONV_FROZEN :: each CONV_LIMIT :: each CONV_PHASE :: each CONV_WRITING :: each CWIN :: each2 CWIN_AT :: one FAULT_STATUS.HOUSE_STOPS :: one FAULT_STATUS.LAST_STOP :: one FAULT_STATUS.LOCKOUTS :: each2 LANE_EDGE :: each LANE_OFFSET :: each LANE_PARK :: each LIFE_NEW :: each LIFE_STORED :: one (OVR_END 2) :: one PON_CONTROL.PON_CHANGES :: one PON_CONTROL.PON_LAST_CAUSE :: one PON_CONTROL.PON_STATE :: one RET_LOCKOUTS :: one RET_STOPS :: each STAND_DUE :: one STOP_AT :: one STOP_MARK :: one STOP_RUNS :: one STORE_BUSY :: each STORE_COPY :: each STORE_SEQ :: one STORE_SIDE :: one SW_CONN_AT :: one SW_ON_AT :: each TRUNC_LONGEST :: each TRUNC_SINCE :: each TRUNC_TOLD_AT :: (each fun n => inForce (CONVERTER.ENABLE n)) :: (each fun p => ofPlan p OPENING_PLAN.END_FRAME) :: (each fun p => ofPlan p OPENING_PLAN.PLAN_STATE) :: (each fun p => ofPlan p OPENING_PLAN.RESULT) :: (each2 fun p i => ofPlan p (OPENING_STEP_STATE.STATE i)) :: []) W) (hL : Within ([.barriers, .collector, .dieMsgs, .landing, .shadows] : List Part) L) :
    Leaves W L org (State.houseStop s m c lockout) := by
  delta State.houseStop
  repeat' first
    | with_reducible assumption
    | with_reducible apply State.setN_leaves
    | with_reducible apply State.stopKept_leaves
    | with_reducible apply State.dropFolds_leaves
    | with_reducible apply State.planAbort_leaves
    | with_reducible apply State.asFinish_leaves
    | with_reducible apply State.convHouseStop_leaves
    | with_reducible apply State.swNoClosed_leaves
    | with_reducible apply State.openShadow_leaves
    | with_reducible apply State.commitsEnd_leaves
    | (with_unfolding_none refine hW.covers ?_; repeat first | with_unfolding_none exact Covered.here | with_unfolding_none exact STAND_DUE_in | with_unfolding_none exact STOP_AT_in | with_unfolding_none refine Covered.next ?_)
    | with_unfolding_none apply hW.sub (inSkip (inSkip (inSkip (inSkip (inSkip (inSkip (inSkip (inSkip (inSkip (inSkip (inSkip (inSkip (inSkip (inSkip (inSkip (inSkip (inSkip (inSkip (inSkip (inSkip (inSkip (inSkip (inBoth (inBoth (inBoth (inSkip (inSkip (inSkip (inSkip (inSkip (inSkip (inSkip (inSkip (inSkip (inBoth (inBoth (inSkip (inSkip (inBoth (inBoth inNil))))))))))))))))))))))))))))))))))))))))
    | with_unfolding_none apply hW.sub (inBoth (inBoth (inBoth (inBoth (inBoth (inBoth (inSkip (inSkip (inSkip (inSkip (inSkip (inSkip (inBoth (inBoth (inBoth (inBoth (inBoth (inBoth (inBoth (inBoth (inBoth (inBoth (inSkip (inSkip (inSkip (inBoth (inBoth (inBoth (inSkip (inSkip (inBoth (inSkip (inSkip (inSkip (inSkip (inSkip (inSkip (inSkip (inSkip (inSkip (inSkip (inSkip (inSkip (inSkip (inSkip (inSkip (inBoth (inBoth (inBoth inNil)))))))))))))))))))))))))))))))))))))))))))))))))
    | with_unfolding_none apply hW.sub (inSkip (inSkip (inSkip (inSkip (inSkip (inSkip (inBoth (inSkip (inSkip (inSkip (inSkip (inSkip (inSkip (inSkip (inSkip (inSkip (inSkip (inSkip (inSkip (inSkip (inSkip (inSkip (inSkip (inSkip (inSkip (inSkip (inSkip (inSkip (inBoth (inBoth (inSkip (inBoth (inBoth (inBoth (inSkip (inSkip (inSkip (inSkip (inSkip (inSkip (inBoth (inBoth (inBoth (inBoth (inSkip (inSkip (inSkip (inSkip (inSkip (inSkip (inBoth (inBoth (inBoth (inBoth inNil))))))))))))))))))))))))))))))))))))))))))))))))))))))
    | with_unfolding_none apply hW.sub (inBoth (inBoth (inBoth (inBoth (inBoth (inBoth (inSkip (inSkip (inSkip (inSkip (inSkip (inSkip (inSkip (inSkip (inSkip (inSkip (inSkip (inSkip (inSkip (inSkip (inSkip (inSkip (inSkip (inSkip (inSkip (inSkip (inSkip (inSkip (inSkip (inSkip (inBoth inNil)))))))))))))))))))))))))))))))
    | with_unfolding_none apply hW.sub (inBoth (inBoth (inBoth (inBoth (inBoth (inBoth (inSkip (inSkip (inSkip (inSkip (inSkip (inBoth (inBoth (inSkip (inBoth (inBoth (inBoth (inBoth (inBoth (inBoth (inBoth (inBoth (inSkip (inSkip (inSkip (inBoth (inSkip (inSkip (inSkip (inSkip (inBoth (inSkip (inSkip (inSkip (inSkip (inSkip (inSkip (inSkip (inSkip (inSkip (inSkip (inSkip (inSkip (inSkip (inSkip (inSkip (inBoth (inBoth (inBoth (inBoth inNil))))))))))))))))))))))))))))))))))))))))))))))))))
    | with_unfolding_none apply hW.sub (inSkip (inSkip (inSkip (inSkip (inSkip (inSkip (inSkip (inBoth (inBoth (inBoth (inSkip (inSkip (inSkip (inSkip (inSkip (inSkip (inSkip (inSkip (inSkip (inSkip (inSkip (inSkip (inSkip (inSkip (inSkip (inSkip (inSkip (inSkip (inSkip (inSkip (inSkip (inSkip (inSkip (inSkip (inSkip (inSkip (inSkip (inSkip (inSkip (inSkip (inSkip (inSkip (inSkip (inSkip (inBoth (inBoth inNil))))))))))))))))))))))))))))))))))))))))))))))
    | with_unfolding_none apply hW.sub (inNil)
    | with_unfolding_none apply hW.sub (inSkip (inSkip (inSkip (inSkip (inSkip (inSkip (inSkip (inSkip (inSkip (inSkip (inBoth inNil)))))))))))
    | (with_reducible refine Within.trans ?_ hL; decide +kernel)
    | (extract_lets +onlyGivenNames letX; have letT : True := (by clear_value letX; guard_hyp letX : State; trivial); clear letT; refine Leaves.cut (W := W) (L := L) (r := org) (v := letX) ?_ (fun letH => ?_); (focus subst letX); rotate_left; clear_value letX; revert letX; intro _ _)
    | with_reducible refine Leaves.ite ?_ ?_
    | with_reducible refine forBelow_leaves ?_ (fun _ _ _ => ?_)

theorem State.deviceStop_leaves {W : List Span} {L : List Part} {org s : State} (m : Msg) (before c : Nat) (h : Leaves W L org s)
    (hW : Inside (one ASSIST_STATUS.ASSIST_CURRENT :: one ASSIST_STATUS.ASSIST_RESULT :: one ASSIST_STATUS.ASSIST_STATE :: one AS_CLOSED :: one AS_END :: one AS_TIME :: one BATTERY_RECORD.SEQUENCE :: one BATTERY_SWITCH.FORWARD :: one BATTERY_SWITCH.MODE_IN_EFFECT :: one BATTERY_SWITCH.OPEN_CAUSE :: each COMMIT_CONTROL.STATUS :: each CONVERTER.ENABLE :: each CONVERTER_STATUS.CONV_FLAGS :: each CONVERTER_STATUS.LATCH_CAUSE :: each CONVERTER_STATUS.RECORDS_SKIPPED :: each CONVERTER_STATUS.STATE :: each CONV_FROZEN :: each CONV_LIMIT :: each CONV_PHASE :: each CONV_WRITING :: each CWIN :: each2 CWIN_AT :: one FAULT_STATUS.HOUSE_STOPS :: one FAULT_STATUS.LAST_STOP :: one FAULT_STATUS.LOCKOUTS :: each2 LANE_EDGE :: each LANE_OFFSET :: each LANE_PARK :: each LIFE_NEW :: each LIFE_STORED :: one (OVR_END 2) :: one PON_CONTROL.PON_CHANGES :: one PON_CONTROL.PON_LAST_CAUSE :: one PON_CONTROL.PON_STATE :: one RET_LOCKOUTS :: one RET_STOPS :: each STAND_DUE :: one STOP_AT :: one STOP_MARK :: one STOP_RUNS :: one STORE_BUSY :: each STORE_COPY :: each STORE_SEQ :: one STORE_SIDE :: one SW_CONN_AT :: one SW_ON_AT :: each TRUNC_LONGEST :: each TRUNC_SINCE :: each TRUNC_TOLD_AT :: (each fun n => inForce (CONVERTER.ENABLE n)) :: (each fun p => ofPlan p OPENING_PLAN.END_FRAME) :: (each fun p => ofPlan p OPENING_PLAN.PLAN_STATE) :: (each fun p => ofPlan p OPENING_PLAN.RESULT) :: (each2 fun p i => ofPlan p (OPENING_STEP_STATE.STATE i)) :: []) W) (hL : Within ([.barriers, .collector, .dieMsgs, .landing, .shadows] : List Part) L) :
    Leaves W L org (State.deviceStop s m before c) := by
  delta State.deviceStop
  repeat' first
    | with_reducible assumption
    | with_reducible apply State.setN_leaves
    | with_reducible apply State.houseStop_leaves
    | with_reducible apply State.stopKept_leaves
    | (with_unfolding_none refine hW.covers ?_; repeat first | with_unfolding_none exact Covered.here | with_unfolding_none exact FAULT_STATUS.HOUSE_STOPS_in | with_unfolding_none exact RET_STOPS_in | with_unfolding_none refine Covered.next ?_)
    | with_unfolding_none apply hW.sub (inBoth (inBoth (inBoth (inBoth (inBoth (inBoth (inBoth (inBoth (inBoth (inBoth (inBoth (inBoth (inBoth (inBoth (inBoth (inBoth (inBoth (inBoth (inBoth (inBoth (inBoth (inBoth (inBoth (inBoth (inBoth (inBoth (inBoth (inBoth (inBoth (inBoth (inBoth (inBoth (inBoth (inBoth (inBoth (inBoth (inBoth (inBoth (inBoth (inBoth (inBoth (inBoth (inBoth (inBoth (inBoth (inBoth (inBoth (inBoth (inBoth (inBoth (inBoth (inBoth (inBoth (inBoth inNil))))))))))))))))))))))))))))))))))))))))))))))))))))))
    | with_unfolding_none apply hW.sub (inSkip (inSkip (inSkip (inSkip (inSkip (inSkip (inSkip (inSkip (inSkip (inSkip (inSkip (inSkip (inSkip (inSkip (inSkip (inSkip (inSkip (inSkip (inSkip (inSkip (inSkip (inSkip (inBoth (inBoth (inBoth (inSkip (inSkip (inSkip (inSkip (inSkip (inSkip (inSkip (inSkip (inSkip (inBoth (inBoth (inSkip (inSkip (inBoth (inBoth inNil))))))))))))))))))))))))))))))))))))))))
    | (with_reducible refine Within.trans ?_ hL; decide +kernel)
    | (extract_lets +onlyGivenNames letX; have letT : True := (by clear_value letX; guard_hyp letX : State; trivial); clear letT; refine Leaves.cut (W := W) (L := L) (r := org) (v := letX) ?_ (fun letH => ?_); (focus subst letX); rotate_left; clear_value letX; revert letX; intro _ _)
    | with_reducible refine Leaves.ite ?_ ?_
    | with_reducible refine Leaves.update ?_ ?_ ?_ ?_ ?_ ?_ ?_ ?_ ?_ ?_ ?_ ?_ ?_ ?_ ?_ ?_ ?_ ?_ ?_
    | with_reducible exact Or.inl rfl
    | with_reducible exact Or.inr (hL _ (by decide +kernel))

theorem State.react_leaves {W : List Span} {L : List Part} {org s : State} (m : Msg) (before c : Nat) (h : Leaves W L org s)
    (hW : Inside (one ASSIST_STATUS.ASSIST_CURRENT :: one ASSIST_STATUS.ASSIST_RESULT :: one ASSIST_STATUS.ASSIST_STATE :: one AS_CLOSED :: one AS_END :: one AS_TIME :: one BATTERY_RECORD.SEQUENCE :: one BATTERY_SWITCH.FORWARD :: one BATTERY_SWITCH.MODE_IN_EFFECT :: one BATTERY_SWITCH.OPEN_CAUSE :: each COMMIT_CONTROL.STATUS :: each CONVERTER.ENABLE :: each CONVERTER_STATUS.CONV_FLAGS :: each CONVERTER_STATUS.LATCH_CAUSE :: each CONVERTER_STATUS.RECORDS_SKIPPED :: each CONVERTER_STATUS.STATE :: each CONV_FROZEN :: each CONV_LIMIT :: each CONV_PHASE :: each CONV_WRITING :: each CWIN :: each2 CWIN_AT :: one FAULT_STATUS.HOUSE_STOPS :: one FAULT_STATUS.LAST_STOP :: one FAULT_STATUS.LOCKOUTS :: each2 LANE_EDGE :: each LANE_OFFSET :: each LANE_PARK :: each LIFE_NEW :: each LIFE_STORED :: one (OVR_END 2) :: one PON_CONTROL.PON_CHANGES :: one PON_CONTROL.PON_LAST_CAUSE :: one PON_CONTROL.PON_STATE :: one RET_LOCKOUTS :: one RET_STOPS :: each STAND_DUE :: one STOP_AT :: one STOP_MARK :: one STOP_RUNS :: one STORE_BUSY :: each STORE_COPY :: each STORE_SEQ :: one STORE_SIDE :: one SW_CONN_AT :: one SW_ON_AT :: each TRUNC_LONGEST :: each TRUNC_SINCE :: each TRUNC_TOLD_AT :: (each fun n => inForce (CONVERTER.ENABLE n)) :: (each fun p => ofPlan p OPENING_PLAN.END_FRAME) :: (each fun p => ofPlan p OPENING_PLAN.PLAN_STATE) :: (each fun p => ofPlan p OPENING_PLAN.RESULT) :: (each2 fun p i => ofPlan p (OPENING_STEP_STATE.STATE i)) :: []) W) (hL : Within ([.barriers, .collector, .dieMsgs, .landing, .shadows] : List Part) L) :
    Leaves W L org (State.react s m before c) := by
  delta State.react
  repeat' first
    | with_reducible assumption
    | with_reducible apply State.deviceStop_leaves
    | with_reducible apply State.handStop_leaves
    | with_reducible apply State.unitStop_leaves
    | with_unfolding_none apply hW.sub (inBoth (inBoth (inBoth (inBoth (inBoth (inBoth (inBoth (inBoth (inBoth (inBoth (inBoth (inBoth (inBoth (inBoth (inBoth (inBoth (inBoth (inBoth (inBoth (inBoth (inBoth (inBoth (inBoth (inBoth (inBoth (inBoth (inBoth (inBoth (inBoth (inBoth (inBoth (inBoth (inBoth (inBoth (inBoth (inBoth (inBoth (inBoth (inBoth (inBoth (inBoth (inBoth (inBoth (inBoth (inBoth (inBoth (inBoth (inBoth (inBoth (inBoth (inBoth (inBoth (inBoth (inBoth inNil))))))))))))))))))))))))))))))))))))))))))))))))))))))
    | with_unfolding_none apply hW.sub (inBoth (inBoth (inBoth (inBoth (inBoth (inBoth (inSkip (inSkip (inSkip (inSkip (inSkip (inSkip (inBoth (inBoth (inBoth (inBoth (inBoth (inBoth (inBoth (inBoth (inBoth (inBoth (inSkip (inSkip (inSkip (inBoth (inBoth (inBoth (inSkip (inSkip (inBoth (inSkip (inSkip (inSkip (inSkip (inSkip (inSkip (inSkip (inSkip (inSkip (inSkip (inSkip (inSkip (inSkip (inSkip (inSkip (inBoth (inBoth (inBoth inNil)))))))))))))))))))))))))))))))))))))))))))))))))
    | (with_reducible refine Within.trans ?_ hL; decide +kernel)
    | with_reducible refine Leaves.ite ?_ ?_

theorem State.classify_leaves {W : List Span} {L : List Part} {org s : State} (m : Msg) (h : Leaves W L org s)
    (hW : Inside (one ASSIST_STATUS.ASSIST_CURRENT :: one ASSIST_STATUS.ASSIST_RESULT :: one ASSIST_STATUS.ASSIST_STATE :: one AS_CLOSED :: one AS_END :: one AS_TIME :: one BATTERY_RECORD.SEQUENCE :: one BATTERY_SWITCH.FORWARD :: one BATTERY_SWITCH.MODE_IN_EFFECT :: one BATTERY_SWITCH.OPEN_CAUSE :: each CAN_PORT.EMCY_DROPS :: each CAN_PORT.TX_FRAMES :: each COMMIT_CONTROL.STATUS :: each CONVERTER.ENABLE :: each CONVERTER_STATUS.CONV_FLAGS :: each CONVERTER_STATUS.LATCH_CAUSE :: each CONVERTER_STATUS.RECORDS_SKIPPED :: each CONVERTER_STATUS.STATE :: each CONV_FROZEN :: each CONV_LIMIT :: each CONV_PHASE :: each CONV_WRITING :: each CWIN :: each2 CWIN_AT :: one DROP_TIMES :: one FAULT_STATUS.CASCADES :: one FAULT_STATUS.COLLECTOR_DROPS :: each FAULT_STATUS.COUNT_F :: one FAULT_STATUS.ESCALATIONS :: one FAULT_STATUS.HOUSE_STOPS :: one FAULT_STATUS.LAST_KIND :: one FAULT_STATUS.LAST_SITE :: one FAULT_STATUS.LAST_STOP :: one FAULT_STATUS.LOCKOUTS :: one FAULT_STATUS.SHADOWED :: each2 LANE_EDGE :: each LANE_OFFSET :: each LANE_PARK :: each LIFE_NEW :: each LIFE_STORED :: one OVERRUN_AT :: one (OVR_END 2) :: one PON_CONTROL.PON_CHANGES :: one PON_CONTROL.PON_LAST_CAUSE :: one PON_CONTROL.PON_STATE :: one (RET_CASCADE 0) :: one (RET_CASCADE 1) :: one RET_CASCADES :: one RET_LOCKOUTS :: one RET_STOPS :: each STAND_DUE :: one STOP_AT :: one STOP_MARK :: one STOP_RUNS :: one STORE_BUSY :: each STORE_COPY :: each STORE_SEQ :: one STORE_SIDE :: one SW_CONN_AT :: one SW_ON_AT :: each TRUNC_LONGEST :: each TRUNC_SINCE :: each TRUNC_TOLD_AT :: (each fun n => inForce (CONVERTER.ENABLE n)) :: (each fun p => ofPlan p OPENING_PLAN.END_FRAME) :: (each fun p => ofPlan p OPENING_PLAN.PLAN_STATE) :: (each fun p => ofPlan p OPENING_PLAN.RESULT) :: (each2 fun p i => ofPlan p (OPENING_STEP_STATE.STATE i)) :: []) W) (hL : Within ([.barriers, .canQueue, .collector, .dieMsgs, .landing, .out, .placing, .shadows] : List Part) L) :
    Leaves W L org (State.classify s m) := by
  delta State.classify
  repeat' first
    | with_reducible assumption
    | with_reducible apply State.setN_leaves
    | with_reducible apply State.count_leaves
    | with_reducible apply State.cascade_leaves
    | with_reducible apply State.toRecording_leaves
    | with_reducible apply State.emcyFor_leaves
    | with_reducible apply State.react_leaves
    | (with_unfolding_none refine hW.covers ?_; repeat first | with_unfolding_none exact Covered.here | with_unfolding_none exact FAULT_STATUS.COUNT_F_in | with_unfolding_none exact FAULT_STATUS.LAST_KIND_in | with_unfolding_none exact FAULT_STATUS.LAST_SITE_in | with_unfolding_none exact FAULT_STATUS.SHADOWED_in | with_unfolding_none refine Covered.next ?_)
    | with_unfolding_none apply hW.sub (inSkip (inSkip (inSkip (inSkip (inSkip (inSkip (inSkip (inSkip (inSkip (inSkip (inSkip (inSkip (inSkip (inSkip (inSkip (inSkip (inSkip (inSkip (inSkip (inSkip (inSkip (inSkip (inSkip (inSkip (inSkip (inBoth (inSkip (inSkip (inBoth (inSkip (inSkip (inSkip (inSkip (inSkip (inSkip (inSkip (inSkip (inSkip (inSkip (inSkip (inSkip (inSkip (inSkip (inSkip (inSkip (inBoth (inBoth (inBoth inNil))))))))))))))))))))))))))))))))))))))))))))))))
    | with_unfolding_none apply hW.sub (inSkip (inSkip (inSkip (inSkip (inSkip (inSkip (inSkip (inSkip (inSkip (inSkip (inSkip (inSkip (inSkip (inSkip (inSkip (inSkip (inSkip (inSkip (inSkip (inSkip (inSkip (inSkip (inSkip (inSkip (inBoth (inSkip (inBoth (inSkip (inSkip (inSkip (inSkip (inSkip (inSkip (inSkip (inSkip (inSkip (inSkip (inSkip (inSkip (inSkip (inBoth inNil)))))))))))))))))))))))))))))))))))))))))
    | with_unfolding_none apply hW.sub (inSkip (inSkip (inSkip (inSkip (inSkip (inSkip (inSkip (inSkip (inSkip (inSkip (inBoth (inBoth inNil))))))))))))
    | with_unfolding_none apply hW.sub (inBoth (inBoth (inBoth (inBoth (inBoth (inBoth (inBoth (inBoth (inBoth (inBoth (inSkip (inSkip (inBoth (inBoth (inBoth (inBoth (inBoth (inBoth (inBoth (inBoth (inBoth (inBoth (inBoth (inBoth (inSkip (inSkip (inSkip (inSkip (inSkip (inBoth (inSkip (inSkip (inBoth (inBoth (inSkip (inBoth (inBoth (inBoth (inBoth (inBoth (inSkip (inBoth (inBoth (inBoth (inBoth (inSkip (inSkip (inSkip (inBoth (inBoth (inBoth (inBoth (inBoth (inBoth (inBoth (inBoth (inBoth (inBoth (inBoth (inBoth (inBoth (inBoth (inBoth (inBoth (inBoth (inBoth (inBoth (inBoth inNil))))))))))))))))))))))))))))))))))))))))))))))))))))))))))))))))))))
    | (with_reducible refine Within.trans ?_ hL; decide +kernel)
    | (extract_lets +onlyGivenNames letX; have letT : True := (by clear_value letX; guard_hyp letX : State; trivial); clear letT; refine Leaves.cut (W := W) (L := L) (r := org) (v := letX) ?_ (fun letH => ?_); (focus subst letX); rotate_left; clear_value letX; revert letX; intro _ _)
    | (extract_lets +onlyGivenNames letX; have letT : True := (by clear_value letX; revert letX; with_reducible exact Keeps.isPair); clear letT; refine Leaves.cut (W := W) (L := L) (r := org) (v := letX.2) ?_ (fun letH => ?_); (focus subst letX); rotate_left; clear_value letX; revert letX; intro _ _)
    | (extract_lets +onlyGivenNames letX; clear_value letX; revert letX; intro _)
    | with_reducible refine Leaves.iteP ?_ ?_
    | with_reducible refine Leaves.ite ?_ ?_

theorem State.raiseAt_leaves {W : List Span} {L : List Part} {org s : State} (k : Kind) (site : Nat) (fields : List (Nat × Int)) (h : Leaves W L org s) (hL : Within ([.collector, .dieMsgs] : List Part) L) :
    Leaves W L org (State.raiseAt s k site fields) := by
  delta State.raiseAt
  repeat' first
    | with_reducible assumption
    | with_reducible apply State.raiseDie_leaves
    | with_reducible apply State.raise_leaves
    | (with_reducible refine Within.trans ?_ hL; decide +kernel)
    | (extract_lets +onlyGivenNames letX; clear_value letX; revert letX; intro _)
    | with_reducible refine Leaves.ite ?_ ?_

theorem State.valueLost_leaves {W : List Span} {L : List Part} {org s : State} (k : Nat) (h : Leaves W L org s)
    (hW : Inside (one (inForce k) :: one k :: []) W) :
    Leaves W L org (State.valueLost s k) := by
  delta State.valueLost
  repeat' first
    | with_reducible assumption
    | with_reducible apply State.set_leaves
    | with_reducible apply State.setBlob_leaves
    | (with_unfolding_none refine hW.covers ?_; repeat first | with_unfolding_none exact Covered.here | with_unfolding_none refine Covered.next ?_)
    | (extract_lets +onlyGivenNames letX; have letT : True := (by clear_value letX; guard_hyp letX : State; trivial); clear letT; refine Leaves.cut (W := W) (L := L) (r := org) (v := letX) ?_ (fun letH => ?_); (focus subst letX); rotate_left; clear_value letX; revert letX; intro _ _)
    | with_reducible refine Leaves.ite ?_ ?_

theorem State.recordsLost_leaves {W : List Span} {L : List Part} {org s : State} (q : Nat) (places : List Nat) (h : Leaves W L org s)
    (hW : Inside (one EVENT_FABRIC.RECORDS_PLACED :: each MSIX_HELD :: one (OVF_DROPS q) :: one (RING.HIGH_WATER q) :: one (RING.SEQUENCE q) :: one (RING_RR q) :: each TARGET.RAISES :: each TARGET.TARGET_STATE :: each TG_BEGAN :: each TG_COUNT :: each TG_LOW :: []) W) (hL : Within ([.out, .rings] : List Part) L) :
    Leaves W L org (State.recordsLost s q places) := by
  delta State.recordsLost
  repeat' first
    | with_reducible assumption
    | with_reducible apply State.setRing_leaves
    | with_reducible apply State.marker_leaves
    | with_reducible apply State.tgSettle_leaves
    | with_unfolding_none apply hW.sub (inNil)
    | with_unfolding_none apply hW.sub (inBoth (inBoth (inBoth (inBoth (inBoth (inBoth (inBoth (inBoth (inBoth (inBoth (inBoth inNil)))))))))))
    | with_unfolding_none apply hW.sub (inSkip (inSkip (inSkip (inSkip (inSkip (inSkip (inSkip (inBoth (inSkip (inSkip (inBoth inNil)))))))))))
    | (with_reducible refine Within.trans ?_ hL; decide +kernel)
    | (extract_lets +onlyGivenNames letX; clear_value letX; revert letX; intro _)
    | with_reducible refine Leaves.ite ?_ ?_

theorem State.reported_leaves {W : List Span} {L : List Part} {org s : State} (r : Report) (h : Leaves W L org s)
    (hW : Inside (anyKey :: []) W) (hL : Within ([.collector, .dieMsgs, .out, .rings] : List Part) L) :
    Leaves W L org (State.reported s r) := by
  delta State.reported
  repeat' first
    | with_reducible assumption
    | with_reducible apply State.raiseAt_leaves
    | with_reducible apply State.valueLost_leaves
    | with_reducible apply State.recordsLost_leaves
    | with_unfolding_none apply hW.sub (inNil)
    | with_unfolding_none apply hW.sub (inAny)
    | (with_reducible refine Within.trans ?_ hL; decide +kernel)
    | (extract_lets +onlyGivenNames letX; have letT : True := (by clear_value letX; guard_hyp letX : State; trivial); clear letT; refine Leaves.cut (W := W) (L := L) (r := org) (v := letX) ?_ (fun letH => ?_); (focus subst letX); rotate_left; clear_value letX; revert letX; intro _ _)
    | with_reducible refine Leaves.ite ?_ ?_
    | with_reducible refine forEach_leaves ?_ (fun _ _ _ => ?_)
    | split
    | with_reducible refine Leaves.ofPair (by assumption) ?_

theorem State.oldestClassified_leaves {W : List Span} {L : List Part} {org s : State} (h : Leaves W L org s)
    (hW : Inside (one ASSIST_STATUS.ASSIST_CURRENT :: one ASSIST_STATUS.ASSIST_RESULT :: one ASSIST_STATUS.ASSIST_STATE :: one AS_CLOSED :: one AS_END :: one AS_TIME :: one BATTERY_RECORD.SEQUENCE :: one BATTERY_SWITCH.FORWARD :: one BATTERY_SWITCH.MODE_IN_EFFECT :: one BATTERY_SWITCH.OPEN_CAUSE :: each CAN_PORT.EMCY_DROPS :: each CAN_PORT.TX_FRAMES :: each COMMIT_CONTROL.STATUS :: each CONVERTER.ENABLE :: each CONVERTER_STATUS.CONV_FLAGS :: each CONVERTER_STATUS.LATCH_CAUSE :: each CONVERTER_STATUS.RECORDS_SKIPPED :: each CONVERTER_STATUS.STATE :: each CONV_FROZEN :: each CONV_LIMIT :: each CONV_PHASE :: each CONV_WRITING :: each CWIN :: each2 CWIN_AT :: one DROP_TIMES :: one FAULT_STATUS.CASCADES :: one FAULT_STATUS.COLLECTOR_DROPS :: each FAULT_STATUS.COUNT_F :: one FAULT_STATUS.ESCALATIONS :: one FAULT_STATUS.HOUSE_STOPS :: one FAULT_STATUS.LAST_KIND :: one FAULT_STATUS.LAST_SITE :: one FAULT_STATUS.LAST_STOP :: one FAULT_STATUS.LOCKOUTS :: one FAULT_STATUS.SHADOWED :: each2 LANE_EDGE :: each LANE_OFFSET :: each LANE_PARK :: each LIFE_NEW :: each LIFE_STORED :: one OVERRUN_AT :: one (OVR_END 2) :: one PON_CONTROL.PON_CHANGES :: one PON_CONTROL.PON_LAST_CAUSE :: one PON_CONTROL.PON_STATE :: one (RET_CASCADE 0) :: one (RET_CASCADE 1) :: one RET_CASCADES :: one RET_LOCKOUTS :: one RET_STOPS :: each STAND_DUE :: one STOP_AT :: one STOP_MARK :: one STOP_RUNS :: one STORE_BUSY :: each STORE_COPY :: each STORE_SEQ :: one STORE_SIDE :: one SW_CONN_AT :: one SW_ON_AT :: each TRUNC_LONGEST :: each TRUNC_SINCE :: each TRUNC_TOLD_AT :: (each fun n => inForce (CONVERTER.ENABLE n)) :: (each fun p => ofPlan p OPENING_PLAN.END_FRAME) :: (each fun p => ofPlan p OPENING_PLAN.PLAN_STATE) :: (each fun p => ofPlan p OPENING_PLAN.RESULT) :: (each2 fun p i => ofPlan p (OPENING_STEP_STATE.STATE i)) :: []) W) (hL : Within ([.barriers, .canQueue, .collector, .dieMsgs, .landing, .out, .placing, .shadows] : List Part) L) :
    Leaves W L org (State.oldestClassified s) := by
  delta State.oldestClassified
  repeat' first
    | with_reducible assumption
    | with_reducible apply State.classify_leaves
    | with_unfolding_none apply hW.sub (inBoth (inBoth (inBoth (inBoth (inBoth (inBoth (inBoth (inBoth (inBoth (inBoth (inBoth (inBoth (inBoth (inBoth (inBoth (inBoth (inBoth (inBoth (inBoth (inBoth (inBoth (inBoth (inBoth (inBoth (inBoth (inBoth (inBoth (inBoth (inBoth (inBoth (inBoth (inBoth (inBoth (inBoth (inBoth (inBoth (inBoth (inBoth (inBoth (inBoth (inBoth (inBoth (inBoth (inBoth (inBoth (inBoth (inBoth (inBoth (inBoth (inBoth (inBoth (inBoth (inBoth (inBoth (inBoth (inBoth (inBoth (inBoth (inBoth (inBoth (inBoth (inBoth (inBoth (inBoth (inBoth (inBoth (inBoth (inBoth inNil))))))))))))))))))))))))))))))))))))))))))))))))))))))))))))))))))))
    | (with_reducible refine Within.trans ?_ hL; decide +kernel)
    | with_reducible refine Leaves.ite ?_ ?_
    | split
    | with_reducible refine Leaves.update ?_ ?_ ?_ ?_ ?_ ?_ ?_ ?_ ?_ ?_ ?_ ?_ ?_ ?_ ?_ ?_ ?_ ?_ ?_
    | with_reducible exact Or.inl rfl
    | with_reducible exact Or.inr (hL _ (by decide +kernel))
    | with_reducible refine Leaves.ofPair (by assumption) ?_

theorem State.faultMessage_leaves {W : List Span} {L : List Part} {org s : State} (r : Option Report) (h : Leaves W L org s)
    (hW : Inside (anyKey :: []) W) (hL : Within ([.barriers, .canQueue, .collector, .dieMsgs, .landing, .out, .placing, .rings, .shadows] : List Part) L) :
    Leaves W L org (State.faultMessage s r) := by
  delta State.faultMessage
  repeat' first
    | with_reducible assumption
    | with_reducible apply State.reported_leaves
    | with_reducible apply State.oldestClassified_leaves
    | with_unfolding_none apply hW.sub (inAny)
    | (with_reducible refine Within.trans ?_ hL; decide +kernel)
    | split
    | with_reducible refine Leaves.ofPair (by assumption) ?_

theorem State.shadowsClose_leaves {W : List Span} {L : List Part} {org s : State} (h : Leaves W L org s) (hL : Within ([.shadows] : List Part) L) :
    Leaves W L org (State.shadowsClose s) := by
  delta State.shadowsClose
  repeat' first
    | with_reducible assumption
    | (extract_lets +onlyGivenNames letX; clear_value letX; revert letX; intro _)
    | with_reducible refine Leaves.update ?_ ?_ ?_ ?_ ?_ ?_ ?_ ?_ ?_ ?_ ?_ ?_ ?_ ?_ ?_ ?_ ?_ ?_ ?_
    | with_reducible exact Or.inl rfl
    | with_reducible exact Or.inr (hL _ (by decide +kernel))

theorem execFaultMessage_frame {W : List Span} {L : List Part} {org s : State} (r : Option Report := none) (h : Leaves W L org s)
    (hW : Inside (anyKey :: []) W)
    (hL : Within ([.barriers, .canQueue, .collector, .dieMsgs, .landing, .out, .placing, .rings, .shadows] : List Part) L) : RunsIn W L org (execFaultMessage s r) := by
  delta execFaultMessage
  repeat' first
    | with_reducible assumption
    | with_reducible refine RunsIn.next ?_
    | with_reducible apply State.faultMessage_leaves
    | with_unfolding_none apply hW.sub (inAny)

theorem execShadowClose_frame {W : List Span} {L : List Part} {org s : State} (h : Leaves W L org s)
    (hW : Inside ([]) W)
    (hL : Within ([.shadows] : List Part) L) : RunsIn W L org (execShadowClose s) := by
  delta execShadowClose
  repeat' first
    | with_reducible assumption
    | with_reducible refine RunsIn.next ?_
    | with_reducible apply State.shadowsClose_leaves
    | (with_reducible refine Within.trans ?_ hL; decide +kernel)

theorem State.loadWindow_leaves {W : List Span} {L : List Part} {org s : State} (h : Leaves W L org s)
    (hW : Inside (one LOAD_ACCESS :: one LOAD_AT :: one LOAD_MONITOR.ACCESS_LOAD :: one LOAD_MONITOR.ACCESS_LOAD_PEAK :: one LOAD_MONITOR.FABRIC_LOAD :: one LOAD_MONITOR.FABRIC_LOAD_PEAK :: one LOAD_MONITOR.OVERLOAD_WINDOWS :: one LOAD_PLACED :: one OVERLOAD_AT :: one SATURATED_AT :: []) W) (hL : Within ([.collector] : List Part) L) :
    Leaves W L org (State.loadWindow s) := by
  delta State.loadWindow
  repeat' first
    | with_reducible assumption
    | with_reducible apply State.setN_leaves
    | with_reducible apply State.count_leaves
    | with_reducible apply State.raise_leaves
    | (with_unfolding_none refine hW.covers ?_; repeat first | with_unfolding_none exact Covered.here | with_unfolding_none exact LOAD_ACCESS_in | with_unfolding_none exact LOAD_AT_in | with_unfolding_none exact LOAD_MONITOR.ACCESS_LOAD_in | with_unfolding_none exact LOAD_MONITOR.ACCESS_LOAD_PEAK_in | with_unfolding_none exact LOAD_MONITOR.FABRIC_LOAD_in | with_unfolding_none exact LOAD_MONITOR.FABRIC_LOAD_PEAK_in | with_unfolding_none exact LOAD_MONITOR.OVERLOAD_WINDOWS_in | with_unfolding_none exact LOAD_PLACED_in | with_unfolding_none exact OVERLOAD_AT_in | with_unfolding_none exact SATURATED_AT_in | with_unfolding_none refine Covered.next ?_)
    | with_unfolding_none apply hW.sub (inNil)
    | (with_reducible refine Within.trans ?_ hL; decide +kernel)
    | (extract_lets +onlyGivenNames letX; have letT : True := (by clear_value letX; guard_hyp letX : State; trivial); clear letT; refine Leaves.cut (W := W) (L := L) (r := org) (v := letX) ?_ (fun letH => ?_); (focus subst letX); rotate_left; clear_value letX; revert letX; intro _ _)
    | (extract_lets +onlyGivenNames letX; clear_value letX; revert letX; intro _)
    | with_reducible refine Leaves.ite ?_ ?_

theorem execLoadWindowEnd_frame {W : List Span} {L : List Part} {org s : State} (h : Leaves W L org s)
    (hW : Inside (one LOAD_ACCESS :: one LOAD_AT :: one LOAD_MONITOR.ACCESS_LOAD :: one LOAD_MONITOR.ACCESS_LOAD_PEAK :: one LOAD_MONITOR.FABRIC_LOAD :: one LOAD_MONITOR.FABRIC_LOAD_PEAK :: one LOAD_MONITOR.OVERLOAD_WINDOWS :: one LOAD_PLACED :: one OVERLOAD_AT :: one SATURATED_AT :: []) W)
    (hL : Within ([.collector] : List Part) L) : RunsIn W L org (execLoadWindowEnd s) := by
  delta execLoadWindowEnd
  repeat' first
    | with_reducible assumption
    | with_reducible refine RunsIn.next ?_
    | with_reducible apply State.loadWindow_leaves
    | with_unfolding_none apply hW.sub (inBoth (inBoth (inBoth (inBoth (inBoth (inBoth (inBoth (inBoth (inBoth (inBoth inNil))))))))))

theorem State.tpdoSend_leaves {W : List Span} {L : List Part} {org s : State} (x : Nat) (h : Leaves W L org s)
    (hW : Inside (one (CAN_PORT.TX_FRAMES ((x / 64))) :: one (PDO_AT x) :: one (PDO_DUE x) :: one (PDO_EVT x) :: one (PDO_SENT x) :: []) W) (hL : Within ([.canQueue, .out] : List Part) L) :
    Leaves W L org (State.tpdoSend s x) := by
  delta State.tpdoSend
  repeat' first
    | with_reducible assumption
    | with_reducible apply State.setN_leaves
    | with_reducible apply State.setBlob_leaves
    | with_reducible apply State.canSend_leaves
    | (with_unfolding_none refine hW.covers ?_; repeat first | with_unfolding_none exact Covered.here | with_unfolding_none refine Covered.next ?_)
    | with_unfolding_none apply hW.sub (inBoth inNil)
    | (with_reducible refine Within.trans ?_ hL; decide +kernel)
    | (extract_lets +onlyGivenNames letX; have letT : True := (by clear_value letX; guard_hyp letX : State; trivial); clear letT; refine Leaves.cut (W := W) (L := L) (r := org) (v := letX) ?_ (fun letH => ?_); (focus subst letX); rotate_left; clear_value letX; revert letX; intro _ _)

theorem State.tpdoEvent_leaves {W : List Span} {L : List Part} {org s : State} (x : Nat) (h : Leaves W L org s)
    (hW : Inside (one (CAN_PORT.TX_FRAMES ((x / 64))) :: one (PDO_AT x) :: one (PDO_DUE x) :: one (PDO_EVT x) :: one (PDO_SENT x) :: []) W) (hL : Within ([.canQueue, .out] : List Part) L) :
    Leaves W L org (State.tpdoEvent s x) := by
  delta State.tpdoEvent
  repeat' first
    | with_reducible assumption
    | with_reducible apply State.setN_leaves
    | with_reducible apply State.tpdoSend_leaves
    | (with_unfolding_none refine hW.covers ?_; repeat first | with_unfolding_none exact Covered.here | with_unfolding_none refine Covered.next ?_)
    | with_unfolding_none apply hW.sub (inBoth (inBoth (inBoth (inBoth (inBoth inNil)))))
    | (with_reducible refine Within.trans ?_ hL; decide +kernel)
    | with_reducible refine Leaves.ite ?_ ?_

theorem State.tpdoBoundary_leaves {W : List Span} {L : List Part} {org s : State} (x : Nat) (h : Leaves W L org s)
    (hW : Inside (one (CAN_PORT.TX_FRAMES ((x / 64))) :: one (PDO_AT x) :: one (PDO_DATA x) :: one (PDO_DUE x) :: one (PDO_EVT x) :: one (PDO_SENT x) :: []) W) (hL : Within ([.canQueue, .out] : List Part) L) :
    Leaves W L org (State.tpdoBoundary s x) := by
  delta State.tpdoBoundary
  repeat' first
    | with_reducible assumption
    | with_reducible apply State.setBlob_leaves
    | with_reducible apply State.tpdoEvent_leaves
    | (with_unfolding_none refine hW.covers ?_; repeat first | with_unfolding_none exact Covered.here | with_unfolding_none refine Covered.next ?_)
    | with_unfolding_none apply hW.sub (inBoth (inBoth (inSkip (inBoth (inBoth (inBoth inNil))))))
    | (with_reducible refine Within.trans ?_ hL; decide +kernel)
    | (extract_lets +onlyGivenNames letX; have letT : True := (by clear_value letX; guard_hyp letX : State; trivial); clear letT; refine Leaves.cut (W := W) (L := L) (r := org) (v := letX) ?_ (fun letH => ?_); (focus subst letX); rotate_left; clear_value letX; revert letX; intro _ _)
    | (extract_lets +onlyGivenNames letX; clear_value letX; revert letX; intro _)
    | with_reducible refine Leaves.ite ?_ ?_

theorem State.tpdoSync_leaves {W : List Span} {L : List Part} {org s : State} (x : Nat) (counter : Option Nat) (h : Leaves W L org s)
    (hW : Inside (one (CAN_PORT.TX_FRAMES ((x / 64))) :: one (PDO_AT x) :: one (PDO_COUNT x) :: one (PDO_DUE x) :: one (PDO_EVT x) :: one (PDO_SENT x) :: []) W) (hL : Within ([.canQueue, .out] : List Part) L) :
    Leaves W L org (State.tpdoSync s x counter) := by
  delta State.tpdoSync
  repeat' first
    | with_reducible assumption
    | with_reducible apply State.setN_leaves
    | with_reducible apply State.tpdoEvent_leaves
    | (with_unfolding_none refine hW.covers ?_; repeat first | with_unfolding_none exact Covered.here | with_unfolding_none refine Covered.next ?_)
    | with_unfolding_none apply hW.sub (inBoth (inBoth (inSkip (inBoth (inBoth (inBoth inNil))))))
    | (with_reducible refine Within.trans ?_ hL; decide +kernel)
    | (extract_lets +onlyGivenNames letX; have letT : True := (by clear_value letX; guard_hyp letX : State; trivial); clear letT; refine Leaves.cut (W := W) (L := L) (r := org) (v := letX) ?_ (fun letH => ?_); (focus subst letX); rotate_left; clear_value letX; revert letX; intro _ _)
    | (extract_lets +onlyGivenNames letX; clear_value letX; revert letX; intro _)
    | with_reducible refine Leaves.ite ?_ ?_

theorem State.tpdoTimer_leaves {W : List Span} {L : List Part} {org s : State} (x : Nat) (h : Leaves W L org s)
    (hW : Inside (one (CAN_PORT.TX_FRAMES ((x / 64))) :: one (PDO_AT x) :: one (PDO_DUE x) :: one (PDO_EVT x) :: one (PDO_SENT x) :: []) W) (hL : Within ([.canQueue, .out] : List Part) L) :
    Leaves W L org (State.tpdoTimer s x) := by
  delta State.tpdoTimer
  repeat' first
    | with_reducible assumption
    | with_reducible apply State.setN_leaves
    | with_reducible apply State.tpdoEvent_leaves
    | (with_unfolding_none refine hW.covers ?_; repeat first | with_unfolding_none exact Covered.here | with_unfolding_none refine Covered.next ?_)
    | with_unfolding_none apply hW.sub (inBoth (inBoth (inBoth (inBoth (inBoth inNil)))))
    | (with_reducible refine Within.trans ?_ hL; decide +kernel)
    | (extract_lets +onlyGivenNames letX; clear_value letX; revert letX; intro _)
    | with_reducible refine Leaves.ite ?_ ?_

theorem State.tpdoInhibitEnd_leaves {W : List Span} {L : List Part} {org s : State} (x : Nat) (h : Leaves W L org s)
    (hW : Inside (one (CAN_PORT.TX_FRAMES ((x / 64))) :: one (PDO_AT x) :: one (PDO_DUE x) :: one (PDO_EVT x) :: one (PDO_SENT x) :: []) W) (hL : Within ([.canQueue, .out] : List Part) L) :
    Leaves W L org (State.tpdoInhibitEnd s x) := by
  delta State.tpdoInhibitEnd
  repeat' first
    | with_reducible assumption
    | with_reducible apply State.setN_leaves
    | with_reducible apply State.tpdoSend_leaves
    | (with_unfolding_none refine hW.covers ?_; repeat first | with_unfolding_none exact Covered.here | with_unfolding_none refine Covered.next ?_)
    | with_unfolding_none apply hW.sub (inBoth (inBoth (inBoth (inBoth (inBoth inNil)))))
    | (with_reducible refine Within.trans ?_ hL; decide +kernel)
    | with_reducible refine Leaves.ite ?_ ?_

theorem State.tpdoRestart_leaves {W : List Span} {L : List Part} {org s : State} (x : Nat) (h : Leaves W L org s)
    (hW : Inside (one (PDO_COUNT x) :: one (PDO_DATA x) :: one (PDO_DUE x) :: one (PDO_EVT x) :: []) W) :
    Leaves W L org (State.tpdoRestart s x) := by
  delta State.tpdoRestart
  repeat' first
    | with_reducible assumption
    | with_reducible apply State.setN_leaves
    | with_reducible apply State.setBlob_leaves
    | (with_unfolding_none refine hW.covers ?_; repeat first | with_unfolding_none exact Covered.here | with_unfolding_none refine Covered.next ?_)
    | with_reducible refine Leaves.ite ?_ ?_

theorem State.pdosRestart_leaves {W : List Span} {L : List Part} {org s : State} (t : Nat) (h : Leaves W L org s)
    (hW : Inside (each PDO_COUNT :: each PDO_DATA :: each PDO_DUE :: each PDO_EVT :: each RPDO_HAS :: each RPDO_HELD :: []) W) :
    Leaves W L org (State.pdosRestart s t) := by
  delta State.pdosRestart
  repeat' first
    | with_reducible assumption
    | with_reducible apply State.setN_leaves
    | with_reducible apply State.setBlob_leaves
    | with_reducible apply State.tpdoRestart_leaves
    | (with_unfolding_none refine hW.covers ?_; repeat first | with_unfolding_none exact Covered.here | with_unfolding_none exact RPDO_HAS_in | with_unfolding_none exact RPDO_HELD_in | with_unfolding_none refine Covered.next ?_)
    | with_unfolding_none apply hW.sub (PDO_COUNT_wide (inSkip (PDO_DATA_wide (inSkip (PDO_DUE_wide (inSkip (PDO_EVT_wide inNil)))))))
    | (extract_lets +onlyGivenNames letX; have letT : True := (by clear_value letX; guard_hyp letX : State; trivial); clear letT; refine Leaves.cut (W := W) (L := L) (r := org) (v := letX) ?_ (fun letH => ?_); (focus subst letX); rotate_left; clear_value letX; revert letX; intro _ _)
    | with_reducible refine Leaves.ite ?_ ?_
    | with_reducible refine forBelow_leaves ?_ (fun _ _ _ => ?_)

theorem State.nmt_leaves {W : List Span} {L : List Part} {org s : State} (p node : Nat) (f : Nat → State → State) (h : Leaves W L org s) (hf : ∀ a x, Leaves W L org x → Leaves W L org (f a x))
    (hW : Inside (one (CAN_PORT.RX_FRAMES p) :: []) W) :
    Leaves W L org (State.nmt s p node f) := by
  delta State.nmt
  repeat' first
    | with_reducible assumption
    | with_reducible apply State.wrapCount_leaves
    | (with_unfolding_none refine hW.covers ?_; repeat first | with_unfolding_none exact Covered.here | with_unfolding_none refine Covered.next ?_)
    | with_reducible refine Leaves.ite ?_ ?_
    | with_reducible refine forEach_leaves ?_ (fun _ _ _ => ?_)
    | (with_reducible apply hf)

theorem State.nmtTo_leaves {W : List Span} {L : List Part} {org s : State} (t st : Nat) (h : Leaves W L org s)
    (hW : Inside (one (NMT_STATE t) :: each PDO_COUNT :: each PDO_DATA :: each PDO_DUE :: each PDO_EVT :: each RPDO_HAS :: each RPDO_HELD :: []) W) :
    Leaves W L org (State.nmtTo s t st) := by
  delta State.nmtTo
  repeat' first
    | with_reducible assumption
    | with_reducible apply State.setN_leaves
    | with_reducible apply State.pdosRestart_leaves
    | (with_unfolding_none refine hW.covers ?_; repeat first | with_unfolding_none exact Covered.here | with_unfolding_none refine Covered.next ?_)
    | with_unfolding_none apply hW.sub (inSkip (inBoth (inBoth (inBoth (inBoth (inBoth (inBoth inNil)))))))
    | (extract_lets +onlyGivenNames letX; have letT : True := (by clear_value letX; guard_hyp letX : State; trivial); clear letT; refine Leaves.cut (W := W) (L := L) (r := org) (v := letX) ?_ (fun letH => ?_); (focus subst letX); rotate_left; clear_value letX; revert letX; intro _ _)
    | (extract_lets +onlyGivenNames letX; clear_value letX; revert letX; intro _)
    | with_reducible refine Leaves.ite ?_ ?_

theorem State.nmtResetCommunication_leaves {W : List Span} {L : List Part} {org s : State} (t : Nat) (h : Leaves W L org s)
    (hW : Inside (each CAN_PORT.TX_FRAMES :: one (HB_AT t) :: one (NMT_STATE t) :: each PDO_COUNT :: each PDO_DATA :: each PDO_DUE :: each PDO_EVT :: each RPDO_HAS :: each RPDO_HELD :: []) W) (hL : Within ([.canQueue, .out] : List Part) L) :
    Leaves W L org (State.nmtResetCommunication s t) := by
  delta State.nmtResetCommunication
  repeat' first
    | with_reducible assumption
    | with_reducible apply State.pdosRestart_leaves
    | with_reducible apply State.nodeBoot_leaves
    | with_unfolding_none apply hW.sub (inSkip (inSkip (inSkip (inBoth (inBoth (inBoth (inBoth (inBoth (inBoth inNil)))))))))
    | with_unfolding_none apply hW.sub (inBoth (inBoth (inBoth inNil)))
    | (with_reducible refine Within.trans ?_ hL; decide +kernel)

theorem State.nmtResetNode_leaves {W : List Span} {L : List Part} {org s : State} (t : Nat) (h : Leaves W L org s)
    (hW : Inside (one (NMT_BOOT t) :: one (USDO_AT t) :: one (USDO_DATA t) :: one (USDO_OPEN t) :: one (USDO_WRITES t) :: []) W) (hL : Within ([.barriers, .heldWrites, .landing, .resp, .shadows] : List Part) L) :
    Leaves W L org (State.nmtResetNode s t) := by
  delta State.nmtResetNode
  repeat' first
    | with_reducible assumption
    | with_reducible apply State.setN_leaves
    | with_reducible apply State.tenantResetAccept_leaves
    | (with_unfolding_none refine hW.covers ?_; repeat first | with_unfolding_none exact Covered.here | with_unfolding_none refine Covered.next ?_)
    | with_unfolding_none apply hW.sub (inSkip (inBoth (inBoth (inBoth (inBoth inNil)))))
    | (with_reducible refine Within.trans ?_ hL; decide +kernel)

theorem execNmtStart_frame {W : List Span} {L : List Part} {org s : State} (p : CanPort) (node : Nat) (h : Leaves W L org s)
    (hW : Inside (one (CAN_PORT.RX_FRAMES p.val) :: each NMT_STATE :: each PDO_COUNT :: each PDO_DATA :: each PDO_DUE :: each PDO_EVT :: each RPDO_HAS :: each RPDO_HELD :: []) W)
    : RunsIn W L org (execNmtStart p node s) := by
  delta execNmtStart
  repeat' first
    | with_reducible assumption
    | with_reducible refine RunsIn.next ?_
    | with_reducible apply State.nmt_leaves
    | with_reducible apply State.nmtTo_leaves
    | with_unfolding_none apply hW.sub (inBoth inNil)
    | with_unfolding_none apply hW.sub (inSkip (NMT_STATE_wide (inSkip (inBoth (inBoth (inBoth (inBoth (inBoth (inBoth inNil)))))))))
    | (intro _ _ _)
    | (intro _ _)

theorem execNmtStop_frame {W : List Span} {L : List Part} {org s : State} (p : CanPort) (node : Nat) (h : Leaves W L org s)
    (hW : Inside (one (CAN_PORT.RX_FRAMES p.val) :: each NMT_STATE :: each PDO_COUNT :: each PDO_DATA :: each PDO_DUE :: each PDO_EVT :: each RPDO_HAS :: each RPDO_HELD :: []) W)
    : RunsIn W L org (execNmtStop p node s) := by
  delta execNmtStop
  repeat' first
    | with_reducible assumption
    | with_reducible refine RunsIn.next ?_
    | with_reducible apply State.nmt_leaves
    | with_reducible apply State.nmtTo_leaves
    | with_unfolding_none apply hW.sub (inBoth inNil)
    | with_unfolding_none apply hW.sub (inSkip (NMT_STATE_wide (inSkip (inBoth (inBoth (inBoth (inBoth (inBoth (inBoth inNil)))))))))
    | (intro _ _ _)
    | (intro _ _)

theorem execNmtEnterPreoperational_frame {W : List Span} {L : List Part} {org s : State} (p : CanPort) (node : Nat) (h : Leaves W L org s)
    (hW : Inside (one (CAN_PORT.RX_FRAMES p.val) :: each NMT_STATE :: each PDO_COUNT :: each PDO_DATA :: each PDO_DUE :: each PDO_EVT :: each RPDO_HAS :: each RPDO_HELD :: []) W)
    : RunsIn W L org (execNmtEnterPreoperational p node s) := by
  delta execNmtEnterPreoperational
  repeat' first
    | with_reducible assumption
    | with_reducible refine RunsIn.next ?_
    | with_reducible apply State.nmt_leaves
    | with_reducible apply State.nmtTo_leaves
    | with_unfolding_none apply hW.sub (inBoth inNil)
    | with_unfolding_none apply hW.sub (inSkip (NMT_STATE_wide (inSkip (inBoth (inBoth (inBoth (inBoth (inBoth (inBoth inNil)))))))))
    | (intro _ _ _)
    | (intro _ _)

theorem execNmtResetNode_frame {W : List Span} {L : List Part} {org s : State} (p : CanPort) (node : Nat) (h : Leaves W L org s)
    (hW : Inside (one (CAN_PORT.RX_FRAMES p.val) :: each NMT_BOOT :: each USDO_AT :: each USDO_DATA :: each USDO_OPEN :: each USDO_WRITES :: []) W)
    (hL : Within ([.barriers, .heldWrites, .landing, .resp, .shadows] : List Part) L) : RunsIn W L org (execNmtResetNode p node s) := by
  delta execNmtResetNode
  repeat' first
    | with_reducible assumption
    | with_reducible refine RunsIn.next ?_
    | with_reducible apply State.nmt_leaves
    | with_reducible apply State.nmtResetNode_leaves
    | with_unfolding_none apply hW.sub (inBoth inNil)
    | with_unfolding_none apply hW.sub (inSkip (NMT_BOOT_wide (inSkip (USDO_AT_wide (inSkip (USDO_DATA_wide (inSkip (USDO_OPEN_wide (inSkip (USDO_WRITES_wide inNil))))))))))
    | (with_reducible refine Within.trans ?_ hL; decide +kernel)
    | (intro _ _ _)
    | (intro _ _)

theorem execNmtResetCommunication_frame {W : List Span} {L : List Part} {org s : State} (p : CanPort) (node : Nat) (h : Leaves W L org s)
    (hW : Inside (one (CAN_PORT.RX_FRAMES p.val) :: each CAN_PORT.TX_FRAMES :: each HB_AT :: each NMT_STATE :: each PDO_COUNT :: each PDO_DATA :: each PDO_DUE :: each PDO_EVT :: each RPDO_HAS :: each RPDO_HELD :: []) W)
    (hL : Within ([.canQueue, .out] : List Part) L) : RunsIn W L org (execNmtResetCommunication p node s) := by
  delta execNmtResetCommunication
  repeat' first
    | with_reducible assumption
    | with_reducible refine RunsIn.next ?_
    | with_reducible apply State.nmt_leaves
    | with_reducible apply State.nmtResetCommunication_leaves
    | with_unfolding_none apply hW.sub (inBoth inNil)
    | with_unfolding_none apply hW.sub (inSkip (inBoth (HB_AT_wide (inSkip (NMT_STATE_wide (inSkip (inBoth (inBoth (inBoth (inBoth (inBoth (inBoth inNil))))))))))))
    | (with_reducible refine Within.trans ?_ hL; decide +kernel)
    | (intro _ _ _)
    | (intro _ _)

theorem execTpdoEventTimer_frame {W : List Span} {L : List Part} {org s : State} (x : Fin 128) (h : Leaves W L org s)
    (hW : Inside (one (CAN_PORT.TX_FRAMES ((x.val / 64))) :: one (PDO_AT x.val) :: one (PDO_DUE x.val) :: one (PDO_EVT x.val) :: one (PDO_SENT x.val) :: []) W)
    (hL : Within ([.canQueue, .out] : List Part) L) : RunsIn W L org (execTpdoEventTimer x s) := by
  delta execTpdoEventTimer
  repeat' first
    | with_reducible assumption
    | with_reducible refine RunsIn.next ?_
    | with_reducible apply State.tpdoTimer_leaves
    | with_unfolding_none apply hW.sub (inBoth (inBoth (inBoth (inBoth (inBoth inNil)))))

theorem execTpdoInhibitEnd_frame {W : List Span} {L : List Part} {org s : State} (x : Fin 128) (h : Leaves W L org s)
    (hW : Inside (one (CAN_PORT.TX_FRAMES ((x.val / 64))) :: one (PDO_AT x.val) :: one (PDO_DUE x.val) :: one (PDO_EVT x.val) :: one (PDO_SENT x.val) :: []) W)
    (hL : Within ([.canQueue, .out] : List Part) L) : RunsIn W L org (execTpdoInhibitEnd x s) := by
  delta execTpdoInhibitEnd
  repeat' first
    | with_reducible assumption
    | with_reducible refine RunsIn.next ?_
    | with_reducible apply State.tpdoInhibitEnd_leaves
    | with_unfolding_none apply hW.sub (inBoth (inBoth (inBoth (inBoth (inBoth inNil)))))

theorem State.pcieLost_leaves {W : List Span} {L : List Part} {org s : State} (h : Leaves W L org s)
    (hW : Inside (one DMA_LOST :: []) W) :
    Leaves W L org (State.pcieLost s) := by
  delta State.pcieLost
  repeat' first
    | with_reducible assumption
    | with_reducible apply State.setN_leaves
    | (with_unfolding_none refine hW.covers ?_; repeat first | with_unfolding_none exact Covered.here | with_unfolding_none exact DMA_LOST_in | with_unfolding_none refine Covered.next ?_)
    | with_reducible refine Leaves.ite ?_ ?_

theorem State.pcieLink_leaves {W : List Span} {L : List Part} {org s : State} (st speed : Nat) (h : Leaves W L org s)
    (hW : Inside (one DMA_LOST :: one PCIE_PORT.LINK_DOWNS :: one PCIE_PORT.LINK_SPEED :: one PCIE_PORT.LINK_STATE :: []) W) (hL : Within ([.collector] : List Part) L) :
    Leaves W L org (State.pcieLink s st speed) := by
  delta State.pcieLink
  repeat' first
    | with_reducible assumption
    | with_reducible apply State.setN_leaves
    | with_reducible apply State.count_leaves
    | with_reducible apply State.pcieLost_leaves
    | with_reducible apply State.raise_leaves
    | (with_unfolding_none refine hW.covers ?_; repeat first | with_unfolding_none exact Covered.here | with_unfolding_none exact PCIE_PORT.LINK_DOWNS_in | with_unfolding_none exact PCIE_PORT.LINK_SPEED_in | with_unfolding_none exact PCIE_PORT.LINK_STATE_in | with_unfolding_none refine Covered.next ?_)
    | with_unfolding_none apply hW.sub (inBoth inNil)
    | with_unfolding_none apply hW.sub (inNil)
    | (with_reducible refine Within.trans ?_ hL; decide +kernel)
    | (extract_lets +onlyGivenNames letX; have letT : True := (by clear_value letX; guard_hyp letX : State; trivial); clear letT; refine Leaves.cut (W := W) (L := L) (r := org) (v := letX) ?_ (fun letH => ?_); (focus subst letX); rotate_left; clear_value letX; revert letX; intro _ _)
    | (extract_lets +onlyGivenNames letX; clear_value letX; revert letX; intro _)
    | with_reducible refine Leaves.ite ?_ ?_

theorem State.pcieChanged_leaves {W : List Span} {L : List Part} {org s : State} (st speed masters payload : Nat) (h : Leaves W L org s)
    (hW : Inside (one DMA_LOST :: each PCIE_PAYLOAD :: one PCIE_PORT.BUS_MASTER :: one PCIE_PORT.LINK_DOWNS :: one PCIE_PORT.LINK_SPEED :: one PCIE_PORT.LINK_STATE :: []) W) (hL : Within ([.collector] : List Part) L) :
    Leaves W L org (State.pcieChanged s st speed masters payload) := by
  delta State.pcieChanged
  repeat' first
    | with_reducible assumption
    | with_reducible apply State.setN_leaves
    | with_reducible apply State.pcieLink_leaves
    | (with_unfolding_none refine hW.covers ?_; repeat first | with_unfolding_none exact Covered.here | with_unfolding_none exact PCIE_PAYLOAD_in | with_unfolding_none exact PCIE_PORT.BUS_MASTER_in | with_unfolding_none refine Covered.next ?_)
    | with_unfolding_none apply hW.sub (inBoth (inSkip (inSkip (inBoth (inBoth (inBoth inNil))))))
    | (with_reducible refine Within.trans ?_ hL; decide +kernel)
    | (extract_lets +onlyGivenNames letX; have letT : True := (by clear_value letX; guard_hyp letX : State; trivial); clear letT; refine Leaves.cut (W := W) (L := L) (r := org) (v := letX) ?_ (fun letH => ?_); (focus subst letX); rotate_left; clear_value letX; revert letX; intro _ _)
    | (extract_lets +onlyGivenNames letX; clear_value letX; revert letX; intro _)
    | with_reducible refine Leaves.ite ?_ ?_
    | with_reducible refine forBelow_leaves ?_ (fun _ _ _ => ?_)

theorem State.pcieRetrain_leaves {W : List Span} {L : List Part} {org s : State} (h : Leaves W L org s)
    (hW : Inside (one DMA_LOST :: one PCIE_PORT.LINK_DOWNS :: one PCIE_PORT.LINK_SPEED :: one PCIE_PORT.LINK_STATE :: []) W) (hL : Within ([.collector] : List Part) L) :
    Leaves W L org (State.pcieRetrain s) := by
  delta State.pcieRetrain
  repeat' first
    | with_reducible assumption
    | with_reducible apply State.pcieLink_leaves
    | with_unfolding_none apply hW.sub (inBoth (inBoth (inBoth (inBoth inNil))))
    | (with_reducible refine Within.trans ?_ hL; decide +kernel)
    | with_reducible refine Leaves.ite ?_ ?_

theorem State.functionClears_leaves {W : List Span} {L : List Part} {org s : State} (f : Nat) (h : Leaves W L org s)
    (hW : Inside (each MSIX_HELD :: each MSIX_OPEN :: one (PCIE_PAYLOAD f) :: one PCIE_PORT.BUS_MASTER :: []) W) :
    Leaves W L org (State.functionClears s f) := by
  delta State.functionClears
  repeat' first
    | with_reducible assumption
    | with_reducible apply State.setN_leaves
    | with_reducible apply State.setBit_leaves
    | with_reducible apply State.restore_leaves
    | (with_unfolding_none refine hW.covers ?_; repeat first | with_unfolding_none exact Covered.here | with_unfolding_none exact MSIX_HELD_in | with_unfolding_none exact MSIX_OPEN_in | with_unfolding_none exact PCIE_PORT.BUS_MASTER_in | with_unfolding_none refine Covered.next ?_)
    | (extract_lets +onlyGivenNames letX; have letT : True := (by clear_value letX; guard_hyp letX : State; trivial); clear letT; refine Leaves.cut (W := W) (L := L) (r := org) (v := letX) ?_ (fun letH => ?_); (focus subst letX); rotate_left; clear_value letX; revert letX; intro _ _)
    | with_reducible refine forBelow_leaves ?_ (fun _ _ _ => ?_)

theorem State.functionReset_leaves {W : List Span} {L : List Part} {org s : State} (f cause : Nat) (h : Leaves W L org s)
    (hW : Inside (each DESC_DOOMED :: one DMA_LOST :: each MSIX_HELD :: each MSIX_OPEN :: one (PCIE_PAYLOAD f) :: one PCIE_PORT.BUS_MASTER :: []) W) (hL : Within ([.collector] : List Part) L) :
    Leaves W L org (State.functionReset s f cause) := by
  delta State.functionReset
  repeat' first
    | with_reducible assumption
    | with_reducible apply State.functionClears_leaves
    | with_reducible apply State.doomDescriptors_leaves
    | with_reducible apply State.raise_leaves
    | with_unfolding_none apply hW.sub (inSkip (inSkip (inBoth (inBoth (inBoth (inBoth inNil))))))
    | with_unfolding_none apply hW.sub (inBoth (inBoth inNil))
    | with_unfolding_none apply hW.sub (inNil)
    | (with_reducible refine Within.trans ?_ hL; decide +kernel)

theorem State.perst_leaves {W : List Span} {L : List Part} {org s : State} (low : Bool) (h : Leaves W L org s)
    (hW : Inside (each DESC_DOOMED :: one DMA_LOST :: each MSIX_HELD :: each MSIX_OPEN :: each PCIE_PAYLOAD :: one PCIE_PORT.BUS_MASTER :: one PCIE_PORT.LINK_DOWNS :: one PCIE_PORT.LINK_SPEED :: one PCIE_PORT.LINK_STATE :: one PCIE_PORT.PERSTS :: one PERST_LOW :: each POP_BUF :: each POP_RESULT :: each PT_ADDR :: each PT_BUF :: each PT_RESULT :: []) W) (hL : Within ([.collector] : List Part) L) :
    Leaves W L org (State.perst s low) := by
  delta State.perst
  repeat' first
    | with_reducible assumption
    | with_reducible apply State.setFlag_leaves
    | with_reducible apply State.count_leaves
    | with_reducible apply State.restore_leaves
    | with_reducible apply State.setBlob_leaves
    | with_reducible apply State.pcieLink_leaves
    | with_reducible apply State.functionReset_leaves
    | (with_unfolding_none refine hW.covers ?_; repeat first | with_unfolding_none exact Covered.here | with_unfolding_none exact PCIE_PORT.PERSTS_in | with_unfolding_none exact PERST_LOW_in | with_unfolding_none exact POP_BUF_in | with_unfolding_none exact POP_RESULT_in | with_unfolding_none exact PT_ADDR_in | with_unfolding_none exact PT_BUF_in | with_unfolding_none exact PT_RESULT_in | with_unfolding_none refine Covered.next ?_)
    | with_unfolding_none apply hW.sub (inSkip (inBoth (inSkip (inSkip (inSkip (inSkip (inBoth (inBoth (inBoth inNil)))))))))
    | with_unfolding_none apply hW.sub (inBoth (inBoth (inBoth (inBoth (PCIE_PAYLOAD_wide (inSkip (inBoth inNil)))))))
    | (with_reducible refine Within.trans ?_ hL; decide +kernel)
    | (extract_lets +onlyGivenNames letX; have letT : True := (by clear_value letX; guard_hyp letX : State; trivial); clear letT; refine Leaves.cut (W := W) (L := L) (r := org) (v := letX) ?_ (fun letH => ?_); (focus subst letX); rotate_left; clear_value letX; revert letX; intro _ _)
    | with_reducible refine Leaves.ite ?_ ?_
    | with_reducible refine forBelow_leaves ?_ (fun _ _ _ => ?_)

theorem State.functionLevelReset_leaves {W : List Span} {L : List Part} {org s : State} (f : Nat) (h : Leaves W L org s)
    (hW : Inside (each DESC_DOOMED :: one DMA_LOST :: each MSIX_HELD :: each MSIX_OPEN :: one (PCIE_PAYLOAD f) :: one PCIE_PORT.BUS_MASTER :: one PCIE_PORT.FLRS :: []) W) (hL : Within ([.collector] : List Part) L) :
    Leaves W L org (State.functionLevelReset s f) := by
  delta State.functionLevelReset
  repeat' first
    | with_reducible assumption
    | with_reducible apply State.count_leaves
    | with_reducible apply State.functionReset_leaves
    | (with_unfolding_none refine hW.covers ?_; repeat first | with_unfolding_none exact Covered.here | with_unfolding_none exact PCIE_PORT.FLRS_in | with_unfolding_none refine Covered.next ?_)
    | with_unfolding_none apply hW.sub (inBoth (inBoth (inBoth (inBoth (inBoth (inBoth inNil))))))
    | (with_reducible refine Within.trans ?_ hL; decide +kernel)
    | with_reducible refine Leaves.ite ?_ ?_

theorem execPciePerst_frame {W : List Span} {L : List Part} {org s : State} (low : Bool) (h : Leaves W L org s)
    (hW : Inside (each DESC_DOOMED :: one DMA_LOST :: each MSIX_HELD :: each MSIX_OPEN :: each PCIE_PAYLOAD :: one PCIE_PORT.BUS_MASTER :: one PCIE_PORT.LINK_DOWNS :: one PCIE_PORT.LINK_SPEED :: one PCIE_PORT.LINK_STATE :: one PCIE_PORT.PERSTS :: one PERST_LOW :: each POP_BUF :: each POP_RESULT :: each PT_ADDR :: each PT_BUF :: each PT_RESULT :: []) W)
    (hL : Within ([.collector] : List Part) L) : RunsIn W L org (execPciePerst low s) := by
  delta execPciePerst
  repeat' first
    | with_reducible assumption
    | with_reducible refine RunsIn.next ?_
    | with_reducible apply State.perst_leaves
    | with_unfolding_none apply hW.sub (inBoth (inBoth (inBoth (inBoth (inBoth (inBoth (inBoth (inBoth (inBoth (inBoth (inBoth (inBoth (inBoth (inBoth (inBoth (inBoth inNil))))))))))))))))

theorem execFunctionLevelReset_frame {W : List Span} {L : List Part} {org s : State} (f : Func) (h : Leaves W L org s)
    (hW : Inside (each DESC_DOOMED :: one DMA_LOST :: each MSIX_HELD :: each MSIX_OPEN :: one (PCIE_PAYLOAD f.val) :: one PCIE_PORT.BUS_MASTER :: one PCIE_PORT.FLRS :: []) W)
    (hL : Within ([.collector] : List Part) L) : RunsIn W L org (execFunctionLevelReset f s) := by
  delta execFunctionLevelReset
  repeat' first
    | with_reducible assumption
    | with_reducible refine RunsIn.next ?_
    | with_reducible apply State.functionLevelReset_leaves
    | with_unfolding_none apply hW.sub (inBoth (inBoth (inBoth (inBoth (inBoth (inBoth (inBoth inNil)))))))

theorem execPcieLinkChanged_frame {W : List Span} {L : List Part} {org s : State} (link speed masters payload : Nat) (h : Leaves W L org s)
    (hW : Inside (one DMA_LOST :: each PCIE_PAYLOAD :: one PCIE_PORT.BUS_MASTER :: one PCIE_PORT.LINK_DOWNS :: one PCIE_PORT.LINK_SPEED :: one PCIE_PORT.LINK_STATE :: []) W)
    (hL : Within ([.collector] : List Part) L) : RunsIn W L org (execPcieLinkChanged link speed masters payload s) := by
  delta execPcieLinkChanged
  repeat' first
    | with_reducible assumption
    | with_reducible refine RunsIn.next ?_
    | with_reducible apply State.pcieChanged_leaves
    | with_unfolding_none apply hW.sub (inBoth (inBoth (inBoth (inBoth (inBoth (inBoth inNil))))))

theorem State.modelsStart_leaves {W : List Span} {L : List Part} {org s : State} (old : State) (keys : List Nat) (h : Leaves W L org s)
    (hW : Inside (each CHANNEL_PROTECTION.MODEL_FLAGS :: each FET1 :: each FET2 :: each FET_NOW :: each WIRE1 :: each WIRE2 :: each WIRE_NOW :: []) W) :
    Leaves W L org (State.modelsStart old s keys) := by
  delta State.modelsStart
  repeat' first
    | with_reducible assumption
    | with_reducible apply State.setModelFlag_leaves
    | with_reducible apply State.wireStart_leaves
    | with_reducible apply State.fetStart_leaves
    | with_unfolding_none apply hW.sub (CHANNEL_PROTECTION.MODEL_FLAGS_wide inNil)
    | with_unfolding_none apply hW.sub (inSkip (inSkip (inSkip (inSkip (WIRE1_wide (inSkip (WIRE2_wide (inSkip (WIRE_NOW_wide inNil)))))))))
    | with_unfolding_none apply hW.sub (inSkip (FET1_wide (inSkip (FET2_wide (inSkip (FET_NOW_wide inNil))))))
    | (extract_lets +onlyGivenNames letX; have letT : True := (by clear_value letX; guard_hyp letX : State; trivial); clear letT; refine Leaves.cut (W := W) (L := L) (r := org) (v := letX) ?_ (fun letH => ?_); (focus subst letX); rotate_left; clear_value letX; revert letX; intro _ _)
    | (extract_lets +onlyGivenNames letX; clear_value letX; revert letX; intro _)
    | with_reducible refine Leaves.ite ?_ ?_
    | with_reducible refine forEach_leaves ?_ (fun _ _ _ => ?_)

theorem State.keeperCopies_leaves {W : List Span} {L : List Part} {org s : State} (h : Leaves W L org s)
    (hW : Inside (one RET_COB :: one RET_PORT :: one RET_RATE :: one RET_RETRY :: one RET_SAMPLE :: each RSO_KEEP :: []) W) :
    Leaves W L org (State.keeperCopies s) := by
  delta State.keeperCopies
  repeat' first
    | with_reducible assumption
    | with_reducible apply State.set_leaves
    | with_reducible apply State.setN_leaves
    | (with_unfolding_none refine hW.covers ?_; repeat first | with_unfolding_none exact Covered.here | with_unfolding_none exact RET_COB_in | with_unfolding_none exact RET_PORT_in | with_unfolding_none exact RET_RATE_in | with_unfolding_none exact RET_RETRY_in | with_unfolding_none exact RET_SAMPLE_in | with_unfolding_none exact RSO_KEEP_in | with_unfolding_none refine Covered.next ?_)
    | (extract_lets +onlyGivenNames letX; have letT : True := (by clear_value letX; guard_hyp letX : State; trivial); clear letT; refine Leaves.cut (W := W) (L := L) (r := org) (v := letX) ?_ (fun letH => ?_); (focus subst letX); rotate_left; clear_value letX; revert letX; intro _ _)
    | (extract_lets +onlyGivenNames letX; clear_value letX; revert letX; intro _)
    | with_reducible refine Leaves.ite ?_ ?_
    | with_reducible refine forBelow_leaves ?_ (fun _ _ _ => ?_)

theorem State.canChanged_leaves {W : List Span} {L : List Part} {org s : State} (old : State) (p : Nat) (keys : List Nat) (h : Leaves W L org s)
    (hW : Inside (one (CAN_MAY p) :: one (CAN_PORT.BUS_STATE p) :: one (CAN_PORT.REC p) :: one (CAN_PORT.TEC p) :: one (CAN_PORT.TX_FRAMES p) :: each COMMIT_CONTROL.LAST_OBJECT :: each COMMIT_CONTROL.LAST_REASON :: each COMMIT_CONTROL.STATUS :: []) W) (hL : Within ([.canQueue, .collector, .out, .staged] : List Part) L) :
    Leaves W L org (State.canChanged old s p keys) := by
  delta State.canChanged
  repeat' first
    | with_reducible assumption
    | with_reducible apply State.canRates_leaves
    | with_reducible apply State.syncRange_leaves
    | with_unfolding_none apply hW.sub (inBoth (inBoth (inBoth (inBoth (inBoth inNil)))))
    | with_unfolding_none apply hW.sub (inSkip (inSkip (inSkip (inSkip (inSkip (inBoth (inBoth (inBoth inNil))))))))
    | (with_reducible refine Within.trans ?_ hL; decide +kernel)
    | (extract_lets +onlyGivenNames letX; have letT : True := (by clear_value letX; guard_hyp letX : State; trivial); clear letT; refine Leaves.cut (W := W) (L := L) (r := org) (v := letX) ?_ (fun letH => ?_); (focus subst letX); rotate_left; clear_value letX; revert letX; intro _ _)
    | (extract_lets +onlyGivenNames letX; clear_value letX; revert letX; intro _)
    | with_reducible refine Leaves.ite ?_ ?_

theorem State.pdosChanged_leaves {W : List Span} {L : List Part} {org s : State} (keys : List Nat) (h : Leaves W L org s)
    (hW : Inside (each PDO_COUNT :: each PDO_DATA :: each PDO_DUE :: each PDO_EVT :: each RPDO_HAS :: each RPDO_HELD :: []) W) :
    Leaves W L org (State.pdosChanged s keys) := by
  delta State.pdosChanged
  repeat' first
    | with_reducible assumption
    | with_reducible apply State.setN_leaves
    | with_reducible apply State.setBlob_leaves
    | with_reducible apply State.tpdoRestart_leaves
    | (with_unfolding_none refine hW.covers ?_; repeat first | with_unfolding_none exact Covered.here | with_unfolding_none exact RPDO_HAS_in | with_unfolding_none exact RPDO_HELD_in | with_unfolding_none refine Covered.next ?_)
    | with_unfolding_none apply hW.sub (PDO_COUNT_wide (inSkip (PDO_DATA_wide (inSkip (PDO_DUE_wide (inSkip (PDO_EVT_wide inNil)))))))
    | (extract_lets +onlyGivenNames letX; have letT : True := (by clear_value letX; guard_hyp letX : State; trivial); clear letT; refine Leaves.cut (W := W) (L := L) (r := org) (v := letX) ?_ (fun letH => ?_); (focus subst letX); rotate_left; clear_value letX; revert letX; intro _ _)
    | with_reducible refine Leaves.ite ?_ ?_
    | with_reducible refine forBelow_leaves ?_ (fun _ _ _ => ?_)

theorem State.channelsChanged_leaves {W : List Span} {L : List Part} {org s : State} (old : State) (keys : List Nat) (h : Leaves W L org s)
    (hW : Inside (each BANK.BANK_FLAGS :: each CHANNEL_PROTECTION.MODEL_FLAGS :: each CHANNEL_STATUS.FLAGS :: each FET1 :: each FET2 :: each FET_NOW :: each PUMP_START :: each PUMP_STOP_AT :: each RESET_OUTPUT.ASSERT_COUNT :: each RESET_OUTPUT.LAST_CHANGE_STAMP :: each RESET_OUTPUT.OUTPUT :: each RSO_GOOD_SINCE :: each WIN :: each2 WIN_COUNT :: each WIRE1 :: each WIRE2 :: each WIRE_NOW :: []) W) (hL : Within ([.collector, .dieMsgs] : List Part) L) :
    Leaves W L org (State.channelsChanged old s keys) := by
  delta State.channelsChanged
  repeat' first
    | with_reducible assumption
    | with_reducible apply State.modelsStart_leaves
    | with_reducible apply State.windowMode_leaves
    | with_reducible apply State.setChFlag_leaves
    | with_reducible apply State.pumpUpdate_leaves
    | with_reducible apply State.rsoFollow_leaves
    | with_unfolding_none apply hW.sub (inSkip (inBoth (inSkip (inBoth (inBoth (inBoth (inSkip (inSkip (inSkip (inSkip (inSkip (inSkip (inSkip (inSkip (inBoth (inBoth (inBoth inNil)))))))))))))))))
    | with_unfolding_none apply hW.sub (inSkip (inSkip (inSkip (inSkip (inSkip (inSkip (inSkip (inSkip (inBoth (inBoth (inBoth (inBoth (WIN_wide (inSkip (inBoth inNil)))))))))))))))
    | with_unfolding_none apply hW.sub (inSkip (inSkip (CHANNEL_STATUS.FLAGS_wide inNil)))
    | with_unfolding_none apply hW.sub (BANK.BANK_FLAGS_wide (inSkip (inSkip (inSkip (inSkip (inSkip (inSkip (PUMP_START_wide (inSkip (PUMP_STOP_AT_wide inNil))))))))))
    | with_unfolding_none apply hW.sub (inSkip (inSkip (inSkip (inSkip (inSkip (inSkip (inSkip (inSkip (RESET_OUTPUT.ASSERT_COUNT_wide (inSkip (RESET_OUTPUT.LAST_CHANGE_STAMP_wide (inSkip (RESET_OUTPUT.OUTPUT_wide (inSkip (RSO_GOOD_SINCE_wide inNil)))))))))))))))
    | (with_reducible refine Within.trans ?_ hL; decide +kernel)
    | (extract_lets +onlyGivenNames letX; have letT : True := (by clear_value letX; guard_hyp letX : State; trivial); clear letT; refine Leaves.cut (W := W) (L := L) (r := org) (v := letX) ?_ (fun letH => ?_); (focus subst letX); rotate_left; clear_value letX; revert letX; intro _ _)
    | (extract_lets +onlyGivenNames letX; clear_value letX; revert letX; intro _)
    | with_reducible refine Leaves.ite ?_ ?_
    | with_reducible refine forEach_leaves ?_ (fun _ _ _ => ?_)
    | with_reducible refine forBelow_leaves ?_ (fun _ _ _ => ?_)

theorem State.settingsChanged_leaves {W : List Span} {L : List Part} {org s : State} (old : State) (keys : List Nat) (h : Leaves W L org s)
    (hW : Inside (each BANK.BANK_FLAGS :: each CAN_MAY :: each CAN_PORT.BUS_STATE :: each CAN_PORT.REC :: each CAN_PORT.TEC :: each CAN_PORT.TX_FRAMES :: each CHANNEL_PROTECTION.MODEL_FLAGS :: each CHANNEL_STATUS.FLAGS :: each COMMIT_CONTROL.LAST_OBJECT :: each COMMIT_CONTROL.LAST_REASON :: each COMMIT_CONTROL.STATUS :: each CWIN :: each2 CWIN_AT :: one DMA_LOST :: one EVENT_FABRIC.RECORDS_PLACED :: each FET1 :: each FET2 :: each FET_NOW :: each HK_AT :: each HK_DELAY :: each HK_DONE :: each HK_DROPS :: each HK_INJECT :: each HK_LATCH :: each HK_PRE :: each HK_RUN :: each HK_SEQUENCE.SEQ_STATE :: each HK_SUM :: each MSIX_HELD :: each OVF_DROPS :: each OVF_FIRST :: each OVF_LAST :: one PARK_STAGE :: one PCIE_PORT.LINK_DOWNS :: one PCIE_PORT.LINK_SPEED :: one PCIE_PORT.LINK_STATE :: each PDO_COUNT :: each PDO_DATA :: each PDO_DUE :: each PDO_EVT :: one PON_CONTROL.PON_CHANGES :: one PON_CONTROL.PON_LAST_CAUSE :: one PON_CONTROL.PON_STATE :: one POWER_STATE.PARK_ABORTS :: one POWER_STATE.STATE :: each PUMP_START :: each PUMP_STOP_AT :: each RESET_OUTPUT.ASSERT_COUNT :: each RESET_OUTPUT.LAST_CHANGE_STAMP :: each RESET_OUTPUT.OUTPUT :: one RET_COB :: one RET_PORT :: one RET_RATE :: one RET_RETRY :: one RET_SAMPLE :: each RING.DROPS :: each RING.HIGH_WATER :: each RING.SEQUENCE :: each RING_RR :: each RPDO_HAS :: each RPDO_HELD :: each RSO_GOOD_SINCE :: each RSO_KEEP :: each STREAM.STREAM_STATE :: each TARGET.RAISES :: each TARGET.TARGET_STATE :: each TG_BEGAN :: each TG_COUNT :: each TG_LOW :: one WAKE_CONFIG.WAKE_LATCHED :: one WAKE_PENDING :: each WIN :: each2 WIN_COUNT :: each WIRE1 :: each WIRE2 :: each WIRE_NOW :: one (inForce TWO_WIRE_BUS.DATA_HOLD) :: one (inForce TWO_WIRE_BUS.DATA_SETUP) :: one (inForce TWO_WIRE_BUS.ROLE) :: one (inForce TWO_WIRE_BUS.SCL_HIGH) :: one (inForce TWO_WIRE_BUS.SCL_LOW) :: one (inForce TWO_WIRE_BUS.SPEED_MODE) :: []) W) (hL : Within ([.canQueue, .collector, .dieMsgs, .out, .rings, .staged] : List Part) L) :
    Leaves W L org (State.settingsChanged old s keys) := by
  delta State.settingsChanged
  repeat' first
    | with_reducible assumption
    | with_reducible apply State.channelsChanged_leaves
    | with_reducible apply State.convWindowMode_leaves
    | with_reducible apply State.ringResize_leaves
    | with_reducible apply State.tgEnable_leaves
    | with_reducible apply State.canChanged_leaves
    | with_reducible apply State.pdosChanged_leaves
    | with_reducible apply State.hkCommitted_leaves
    | with_reducible apply State.twAdopt_leaves
    | with_reducible apply State.senseLevels_leaves
    | with_reducible apply State.dsShow_leaves
    | with_reducible apply State.pcieRetrain_leaves
    | with_reducible apply State.keeperCopies_leaves
    | with_reducible apply State.raise_leaves
    | with_unfolding_none apply hW.sub (inBoth (inSkip (inSkip (inSkip (inSkip (inSkip (inBoth (inBoth (inSkip (inSkip (inSkip (inSkip (inSkip (inSkip (inSkip (inBoth (inBoth (inBoth (inSkip (inSkip (inSkip (inSkip (inSkip (inSkip (inSkip (inSkip (inSkip (inSkip (inSkip (inSkip (inSkip (inSkip (inSkip (inSkip (inSkip (inSkip (inSkip (inSkip (inSkip (inSkip (inSkip (inSkip (inSkip (inSkip (inSkip (inBoth (inBoth (inBoth (inBoth (inBoth (inSkip (inSkip (inSkip (inSkip (inSkip (inSkip (inSkip (inSkip (inSkip (inSkip (inSkip (inBoth (inSkip (inSkip (inSkip (inSkip (inSkip (inSkip (inSkip (inSkip (inSkip (inBoth (inBoth (inBoth (inBoth (inBoth inNil))))))))))))))))))))))))))))))))))))))))))))))))))))))))))))))))))))))))))))
    | with_unfolding_none apply hW.sub (inSkip (inSkip (inSkip (inSkip (inSkip (inSkip (inSkip (inSkip (inSkip (inSkip (inSkip (CWIN_wide (inSkip (CWIN_AT_wide (CWIN_AT_wide inNil)))))))))))))))
    | with_unfolding_none apply hW.sub (inSkip (inSkip (inSkip (inSkip (inSkip (inSkip (inSkip (inSkip (inSkip (inSkip (inSkip (inSkip (inSkip (inSkip (inBoth (inSkip (inSkip (inSkip (inSkip (inSkip (inSkip (inSkip (inSkip (inSkip (inSkip (inSkip (inSkip (inSkip (inBoth (OVF_DROPS_wide (inSkip (OVF_FIRST_wide (inSkip (OVF_LAST_wide (inSkip (inSkip (inSkip (inSkip (inSkip (inSkip (inSkip (inSkip (inSkip (inSkip (inSkip (inSkip (inSkip (inSkip (inSkip (inSkip (inSkip (inSkip (inSkip (inSkip (inSkip (inSkip (inSkip (inSkip (RING.DROPS_wide (inSkip (RING.HIGH_WATER_wide (inSkip (RING.SEQUENCE_wide (inSkip (RING_RR_wide (inSkip (inSkip (inSkip (inSkip (inSkip (inSkip (inBoth (inBoth (inBoth (inBoth (inBoth inNil))))))))))))))))))))))))))))))))))))))))))))))))))))))))))))))))))))))))))))
    | with_unfolding_none apply hW.sub (inSkip (inSkip (inSkip (inSkip (inSkip (inSkip (inSkip (inSkip (inSkip (inSkip (inSkip (inSkip (inSkip (inSkip (inSkip (inSkip (inSkip (inSkip (inSkip (inSkip (inSkip (inSkip (inSkip (inSkip (inSkip (inSkip (inSkip (inSkip (inSkip (inSkip (inSkip (inSkip (inSkip (inSkip (inSkip (inSkip (inSkip (inSkip (inSkip (inSkip (inSkip (inSkip (inSkip (inSkip (inSkip (inSkip (inSkip (inSkip (inSkip (inSkip (inSkip (inSkip (inSkip (inSkip (inSkip (inSkip (inSkip (inSkip (inSkip (inSkip (inSkip (inSkip (inSkip (inSkip (inSkip (TARGET.TARGET_STATE_wide (inSkip (inSkip (inSkip (TG_LOW_wide inNil))))))))))))))))))))))))))))))))))))))))))))))))))))))))))))))))))))))
    | with_unfolding_none apply hW.sub (inSkip (CAN_MAY_wide (inSkip (CAN_PORT.BUS_STATE_wide (inSkip (CAN_PORT.REC_wide (inSkip (CAN_PORT.TEC_wide (inSkip (CAN_PORT.TX_FRAMES_wide (inSkip (inSkip (inSkip (inBoth (inBoth (inBoth inNil))))))))))))))))
    | with_unfolding_none apply hW.sub (inSkip (inSkip (inSkip (inSkip (inSkip (inSkip (inSkip (inSkip (inSkip (inSkip (inSkip (inSkip (inSkip (inSkip (inSkip (inSkip (inSkip (inSkip (inSkip (inSkip (inSkip (inSkip (inSkip (inSkip (inSkip (inSkip (inSkip (inSkip (inSkip (inSkip (inSkip (inSkip (inSkip (inSkip (inSkip (inSkip (inBoth (inBoth (inBoth (inBoth (inSkip (inSkip (inSkip (inSkip (inSkip (inSkip (inSkip (inSkip (inSkip (inSkip (inSkip (inSkip (inSkip (inSkip (inSkip (inSkip (inSkip (inSkip (inSkip (inBoth (inBoth inNil)))))))))))))))))))))))))))))))))))))))))))))))))))))))))))))
    | with_unfolding_none apply hW.sub (inSkip (inSkip (inSkip (inSkip (inSkip (inSkip (inSkip (inSkip (inSkip (inSkip (inSkip (inSkip (inSkip (inSkip (inSkip (inSkip (inSkip (inSkip (inBoth (inBoth (inBoth (inBoth (inBoth (inBoth (inBoth (inBoth (inBoth (inBoth inNil))))))))))))))))))))))))))))
    | with_unfolding_none apply hW.sub (inSkip (inSkip (inSkip (inSkip (inSkip (inSkip (inSkip (inSkip (inSkip (inSkip (inSkip (inSkip (inSkip (inSkip (inSkip (inSkip (inSkip (inSkip (inSkip (inSkip (inSkip (inSkip (inSkip (inSkip (inSkip (inSkip (inSkip (inSkip (inSkip (inSkip (inSkip (inSkip (inSkip (inSkip (inSkip (inSkip (inSkip (inSkip (inSkip (inSkip (inSkip (inSkip (inSkip (inSkip (inSkip (inSkip (inSkip (inSkip (inSkip (inSkip (inSkip (inSkip (inSkip (inSkip (inSkip (inSkip (inSkip (inSkip (inSkip (inSkip (inSkip (inSkip (inSkip (inSkip (inSkip (inSkip (inSkip (inSkip (inSkip (inSkip (inSkip (inSkip (inSkip (inSkip (inSkip (inSkip (inBoth (inBoth (inBoth (inBoth (inBoth (inBoth inNil))))))))))))))))))))))))))))))))))))))))))))))))))))))))))))))))))))))))))))))))))
    | with_unfolding_none apply hW.sub (inSkip (inSkip (inSkip (inSkip (inSkip (inSkip (inSkip (inSkip (inSkip (inSkip (inSkip (inSkip (inSkip (inSkip (inSkip (inSkip (inSkip (inSkip (inSkip (inSkip (inSkip (inSkip (inSkip (inSkip (inSkip (inSkip (inSkip (inSkip (inSkip (inSkip (inSkip (inSkip (inBoth (inSkip (inSkip (inSkip (inSkip (inSkip (inSkip (inSkip (inBoth (inBoth (inBoth (inBoth (inBoth (inSkip (inSkip (inSkip (inSkip (inSkip (inSkip (inSkip (inSkip (inSkip (inSkip (inSkip (inSkip (inSkip (inSkip (inSkip (inSkip (inSkip (inSkip (inSkip (inSkip (inSkip (inSkip (inSkip (inSkip (inBoth (inBoth inNil)))))))))))))))))))))))))))))))))))))))))))))))))))))))))))))))))))))))
    | with_unfolding_none apply hW.sub (inSkip (inSkip (inSkip (inSkip (inSkip (inSkip (inSkip (inSkip (inSkip (inSkip (inSkip (inSkip (inSkip (inSkip (inSkip (inSkip (inSkip (inSkip (inSkip (inSkip (inSkip (inSkip (inSkip (inSkip (inSkip (inSkip (inSkip (inSkip (inSkip (inSkip (inSkip (inSkip (inSkip (inSkip (inSkip (inSkip (inSkip (inSkip (inSkip (inSkip (inSkip (inSkip (inSkip (inSkip (inSkip (inSkip (inSkip (inSkip (inSkip (inSkip (inSkip (inSkip (inSkip (inSkip (inSkip (inSkip (inSkip (inSkip (inSkip (inSkip (inSkip (inSkip (inSkip (STREAM.STREAM_STATE_wide inNil))))))))))))))))))))))))))))))))))))))))))))))))))))))))))))))))
    | with_unfolding_none apply hW.sub (inSkip (inSkip (inSkip (inSkip (inSkip (inSkip (inSkip (inSkip (inSkip (inSkip (inSkip (inSkip (inSkip (inBoth (inSkip (inSkip (inSkip (inSkip (inSkip (inSkip (inSkip (inSkip (inSkip (inSkip (inSkip (inSkip (inSkip (inSkip (inSkip (inSkip (inSkip (inSkip (inSkip (inBoth (inBoth (inBoth inNil))))))))))))))))))))))))))))))))))))
    | with_unfolding_none apply hW.sub (inSkip (inSkip (inSkip (inSkip (inSkip (inSkip (inSkip (inSkip (inSkip (inSkip (inSkip (inSkip (inSkip (inSkip (inSkip (inSkip (inSkip (inSkip (inSkip (inSkip (inSkip (inSkip (inSkip (inSkip (inSkip (inSkip (inSkip (inSkip (inSkip (inSkip (inSkip (inSkip (inSkip (inSkip (inSkip (inSkip (inSkip (inSkip (inSkip (inSkip (inSkip (inSkip (inSkip (inSkip (inSkip (inSkip (inSkip (inSkip (inSkip (inSkip (inBoth (inBoth (inBoth (inBoth (inBoth (inSkip (inSkip (inSkip (inSkip (inSkip (inSkip (inSkip (inBoth inNil)))))))))))))))))))))))))))))))))))))))))))))))))))))))))))))))
    | with_unfolding_none apply hW.sub (inNil)
    | (with_reducible refine Within.trans ?_ hL; decide +kernel)
    | (extract_lets +onlyGivenNames letX; have letT : True := (by clear_value letX; guard_hyp letX : State; trivial); clear letT; refine Leaves.cut (W := W) (L := L) (r := org) (v := letX) ?_ (fun letH => ?_); (focus subst letX); rotate_left; clear_value letX; revert letX; intro _ _)
    | (extract_lets +onlyGivenNames letX; clear_value letX; revert letX; intro _)
    | with_reducible refine Leaves.ite ?_ ?_
    | with_reducible refine forEach_leaves ?_ (fun _ _ _ => ?_)
    | with_reducible refine forBelow_leaves ?_ (fun _ _ _ => ?_)

theorem State.notKept_leaves {W : List Span} {L : List Part} {org s : State} (k : Nat) (h : Leaves W L org s)
    (hW : Inside (each CHANNEL_STATUS.FLAGS :: each2 KEPT :: []) W) :
    Leaves W L org (State.notKept s k) := by
  delta State.notKept
  repeat' first
    | with_reducible assumption
    | with_reducible apply State.setBit_leaves
    | with_reducible apply State.setChFlag_leaves
    | (with_unfolding_none refine hW.covers ?_; repeat first | with_unfolding_none exact Covered.here | with_unfolding_none exact KEPT_in | with_unfolding_none refine Covered.next ?_)
    | with_unfolding_none apply hW.sub (CHANNEL_STATUS.FLAGS_wide inNil)
    | (extract_lets +onlyGivenNames letX; have letT : True := (by clear_value letX; guard_hyp letX : State; trivial); clear letT; refine Leaves.cut (W := W) (L := L) (r := org) (v := letX) ?_ (fun letH => ?_); (focus subst letX); rotate_left; clear_value letX; revert letX; intro _ _)
    | (extract_lets +onlyGivenNames letX; clear_value letX; revert letX; intro _)
    | split
    | with_reducible refine Leaves.ofPair (by assumption) ?_

theorem State.keepSettings_leaves {W : List Span} {L : List Part} {org s : State} (n : Nat) (h : Leaves W L org s)
    (hW : Inside (one (CHANNEL_STATUS.FLAGS n) :: one (KEPT n 0) :: one (KEPT n 1) :: one (KEPT n 2) :: []) W) :
    Leaves W L org (State.keepSettings s n) := by
  delta State.keepSettings
  repeat' first
    | with_reducible assumption
    | with_reducible apply State.setN_leaves
    | with_reducible apply State.setChFlag_leaves
    | (with_unfolding_none refine hW.covers ?_; repeat first | with_unfolding_none exact Covered.here | with_unfolding_none refine Covered.next ?_)
    | with_unfolding_none apply hW.sub (inBoth inNil)
    | (extract_lets +onlyGivenNames letX; have letT : True := (by clear_value letX; guard_hyp letX : State; trivial); clear letT; refine Leaves.cut (W := W) (L := L) (r := org) (v := letX) ?_ (fun letH => ?_); (focus subst letX); rotate_left; clear_value letX; revert letX; intro _ _)

theorem State.keepNothing_leaves {W : List Span} {L : List Part} {org s : State} (n : Nat) (h : Leaves W L org s)
    (hW : Inside (one (CHANNEL_STATUS.FLAGS n) :: one (KEPT n 0) :: one (KEPT n 1) :: one (KEPT n 2) :: []) W) :
    Leaves W L org (State.keepNothing s n) := by
  delta State.keepNothing
  repeat' first
    | with_reducible assumption
    | with_reducible apply State.setN_leaves
    | with_reducible apply State.setChFlag_leaves
    | (with_unfolding_none refine hW.covers ?_; repeat first | with_unfolding_none exact Covered.here | with_unfolding_none refine Covered.next ?_)
    | with_unfolding_none apply hW.sub (inBoth inNil)

theorem State.lateValues_leaves {W : List Span} {L : List Part} {org s : State} (vals : List (Nat × Int)) (t accepted : Nat) (told : Bool) (h : Leaves W L org s) (hL : Within ([.landing] : List Part) L) :
    Leaves W L org (State.lateValues s vals t accepted told) := by
  delta State.lateValues
  repeat' first
    | with_reducible assumption
    | with_reducible refine Leaves.update ?_ ?_ ?_ ?_ ?_ ?_ ?_ ?_ ?_ ?_ ?_ ?_ ?_ ?_ ?_ ?_ ?_ ?_ ?_
    | with_reducible exact Or.inl rfl
    | with_reducible exact Or.inr (hL _ (by decide +kernel))

theorem State.notHeld_leaves {W : List Span} {L : List Part} {org s : State} (keys : List Nat) (h : Leaves W L org s) (hL : Within ([.late] : List Part) L) :
    Leaves W L org (State.notHeld s keys) := by
  delta State.notHeld
  repeat' first
    | with_reducible assumption
    | with_reducible refine Leaves.update ?_ ?_ ?_ ?_ ?_ ?_ ?_ ?_ ?_ ?_ ?_ ?_ ?_ ?_ ?_ ?_ ?_ ?_ ?_
    | with_reducible exact Or.inl rfl
    | with_reducible exact Or.inr (hL _ (by decide +kernel))

theorem State.applyValues_leaves {W : List Span} {L : List Part} {org s : State} (vals : List (Nat × Int)) (t accepted : Nat) (told : Bool) (h : Leaves W L org s)
    (hW : Inside (anyKey :: []) W) (hL : Within ([.canQueue, .collector, .dieMsgs, .landing, .late, .out, .rings, .staged] : List Part) L) :
    Leaves W L org (State.applyValues s vals t accepted told) := by
  delta State.applyValues
  repeat' first
    | with_reducible assumption
    | with_reducible apply State.notHeld_leaves
    | with_reducible apply State.lateValues_leaves
    | with_reducible apply State.settingsChanged_leaves
    | with_reducible apply State.overlay_leaves
    | with_unfolding_none apply hW.sub (inNil)
    | with_unfolding_none apply hW.sub (inAny)
    | (with_reducible refine Within.trans ?_ hL; decide +kernel)
    | (extract_lets +onlyGivenNames letX; have letT : True := (by clear_value letX; guard_hyp letX : State; trivial); clear letT; refine Leaves.cut (W := W) (L := L) (r := org) (v := letX) ?_ (fun letH => ?_); (focus subst letX); rotate_left; clear_value letX; revert letX; intro _ _)
    | (extract_lets +onlyGivenNames letX; clear_value letX; revert letX; intro _)

theorem State.lateArrives_leaves {W : List Span} {L : List Part} {org s : State} (d due : Nat) (told : Bool) (vals : List (Nat × Int)) (h : Leaves W L org s)
    (hW : Inside (anyKey :: []) W) (hL : Within ([.canQueue, .collector, .dieMsgs, .late, .out, .rings, .staged] : List Part) L) :
    Leaves W L org (State.lateArrives s d due told vals) := by
  delta State.lateArrives
  repeat' first
    | with_reducible assumption
    | with_reducible apply State.notHeld_leaves
    | with_reducible apply State.settingsChanged_leaves
    | with_reducible apply State.overlay_leaves
    | with_reducible apply State.raise_leaves
    | with_unfolding_none apply hW.sub (inNil)
    | with_unfolding_none apply hW.sub (inAny)
    | (with_reducible refine Within.trans ?_ hL; decide +kernel)
    | (extract_lets +onlyGivenNames letX; have letT : True := (by clear_value letX; guard_hyp letX : State; trivial); clear letT; refine Leaves.cut (W := W) (L := L) (r := org) (v := letX) ?_ (fun letH => ?_); (focus subst letX); rotate_left; clear_value letX; revert letX; intro _ _)
    | (extract_lets +onlyGivenNames letX; clear_value letX; revert letX; intro _)
    | with_reducible refine Leaves.ite ?_ ?_

theorem State.takeHeld_leaves {W : List Span} {L : List Part} {org s : State} (n : Nat) (h : Leaves W L org s)
    (hW : Inside (anyKey :: []) W) (hL : Within ([.canQueue, .collector, .dieMsgs, .late, .out, .rings, .staged] : List Part) L) :
    Leaves W L org (State.takeHeld s n) := by
  delta State.takeHeld
  repeat' first
    | with_reducible assumption
    | with_reducible apply State.notHeld_leaves
    | with_reducible apply State.settingsChanged_leaves
    | with_reducible apply State.overlay_leaves
    | with_unfolding_none apply hW.sub (inNil)
    | with_unfolding_none apply hW.sub (inAny)
    | (with_reducible refine Within.trans ?_ hL; decide +kernel)
    | (extract_lets +onlyGivenNames letX; have letT : True := (by clear_value letX; guard_hyp letX : State; trivial); clear letT; refine Leaves.cut (W := W) (L := L) (r := org) (v := letX) ?_ (fun letH => ?_); (focus subst letX); rotate_left; clear_value letX; revert letX; intro _ _)
    | (extract_lets +onlyGivenNames letX; clear_value letX; revert letX; intro _)
    | with_reducible refine Leaves.ite ?_ ?_

theorem State.landRequest_leaves {W : List Span} {L : List Part} {org s : State} (t n v : Nat) (h : Leaves W L org s)
    (hW : Inside (each ADMIT_KIND :: one (ADMIT_SINCE n) :: each BANK.BANK_FLAGS :: each CASTLING_PAIR.SWAP_RESULT :: each CASTLING_PAIR.SWAP_STATE :: each CELL :: each CHANNEL_CONFIG.REQUEST :: one (CHANNEL_PROTECTION.ADMIT_WAIT n) :: each CHANNEL_PROTECTION.MODEL_FLAGS :: one (CHANNEL_PROTECTION.RETRIES_LEFT n) :: each CHANNEL_STATUS.FLAGS :: each CHANNEL_STATUS.STANDING_GATE :: each CHANNEL_STATUS.STATE :: each FOLD_WAIT :: each GATE :: each LAMP_LOW :: each LAMP_TOLD :: each LATCH :: each LIMIT_EPISODE :: each LIMIT_LEFT :: each LIMIT_SINCE :: each LIMIT_SPENT :: each PEND :: each PUMP_START :: each PUMP_STOP_AT :: each PWM_HIGH :: one (PWM_NEXT n) :: each RESET_OUTPUT.ASSERT_COUNT :: each RESET_OUTPUT.LAST_CHANGE_STAMP :: each RESET_OUTPUT.OUTPUT :: each RSO_GOOD_SINCE :: each RUN_SINCE :: each RUN_SPENT :: each START_AT :: each STORED_WAIT :: each SWAP_IN :: each2 TENANT.TRUMP_HELD :: each TRIP_STATE :: each WIN :: (each fun n => inForce (CHANNEL_CONFIG.REQUEST n)) :: []) W) (hL : Within ([.collector, .dieMsgs, .staged] : List Part) L) :
    Leaves W L org (State.landRequest s t n v) := by
  delta State.landRequest
  repeat' first
    | with_reducible assumption
    | with_reducible apply State.set_leaves
    | with_reducible apply State.setN_leaves
    | with_reducible apply State.swapInterrupt_leaves
    | with_reducible apply State.trumpLands_leaves
    | with_reducible apply State.actOnRequest_leaves
    | (with_unfolding_none refine hW.covers ?_; repeat first | with_unfolding_none exact Covered.here | with_unfolding_none exact CHANNEL_CONFIG.REQUEST_in | with_unfolding_none exact inForce_CHANNEL_CONFIG.REQUEST_in | with_unfolding_none refine Covered.next ?_)
    | with_unfolding_none apply hW.sub (inBoth (inSkip (inBoth (inBoth (inBoth (inBoth (inBoth (inSkip (inBoth (inSkip (inBoth (inBoth (inBoth (inBoth (inBoth (inBoth (inBoth (inBoth (inBoth (inBoth (inBoth (inBoth (inBoth (inBoth (inBoth (inBoth (inSkip (inBoth (inBoth (inBoth (inBoth (inBoth (inBoth (inBoth (inBoth (inBoth (inSkip (inBoth (inBoth (inBoth inNil))))))))))))))))))))))))))))))))))))))))
    | with_unfolding_none apply hW.sub (inSkip (inSkip (inSkip (inSkip (inSkip (inSkip (inSkip (inSkip (inSkip (inSkip (inSkip (inSkip (inSkip (inSkip (inSkip (inSkip (inSkip (inSkip (inSkip (inSkip (inSkip (inSkip (inSkip (inSkip (inSkip (inSkip (inSkip (inSkip (inSkip (inSkip (inSkip (inSkip (inSkip (inSkip (inSkip (inSkip (inBoth inNil)))))))))))))))))))))))))))))))))))))
    | with_unfolding_none apply hW.sub (ADMIT_KIND_wide (inSkip (inBoth (BANK.BANK_FLAGS_wide (inSkip (inSkip (inSkip (CELL_wide (inSkip (inSkip (inBoth (CHANNEL_PROTECTION.MODEL_FLAGS_wide (inSkip (inBoth (CHANNEL_STATUS.FLAGS_wide (inSkip (CHANNEL_STATUS.STANDING_GATE_wide (inSkip (CHANNEL_STATUS.STATE_wide (inSkip (inSkip (GATE_wide (inSkip (LAMP_LOW_wide (inSkip (LAMP_TOLD_wide (inSkip (LATCH_wide (inSkip (LIMIT_EPISODE_wide (inSkip (LIMIT_LEFT_wide (inSkip (LIMIT_SINCE_wide (inSkip (LIMIT_SPENT_wide (inSkip (PEND_wide (inSkip (PUMP_START_wide (inSkip (PUMP_STOP_AT_wide (inSkip (PWM_HIGH_wide (inSkip (inBoth (inBoth (inBoth (inBoth (inBoth (RUN_SINCE_wide (inSkip (RUN_SPENT_wide (inSkip (START_AT_wide (inSkip (STORED_WAIT_wide (inSkip (inSkip (inSkip (TRIP_STATE_wide (inSkip (WIN_wide inNil)))))))))))))))))))))))))))))))))))))))))))))))))))))))))))))))
    | (with_reducible refine Within.trans ?_ hL; decide +kernel)
    | (extract_lets +onlyGivenNames letX; have letT : True := (by clear_value letX; guard_hyp letX : State; trivial); clear letT; refine Leaves.cut (W := W) (L := L) (r := org) (v := letX) ?_ (fun letH => ?_); (focus subst letX); rotate_left; clear_value letX; revert letX; intro _ _)
    | with_reducible refine Leaves.ite ?_ ?_

theorem State.landChannel_leaves {W : List Span} {L : List Part} {org s : State} (t k : Nat) (v : Int) (h : Leaves W L org s)
    (hW : Inside (each ADMIT_KIND :: each ADMIT_SINCE :: each BANK.BANK_FLAGS :: each CASTLING_PAIR.SWAP_RESULT :: each CASTLING_PAIR.SWAP_STATE :: each CELL :: each CHANNEL_CONFIG.REQUEST :: each CHANNEL_PROTECTION.ADMIT_WAIT :: each CHANNEL_PROTECTION.MODEL_FLAGS :: each CHANNEL_PROTECTION.RETRIES_LEFT :: each CHANNEL_STATUS.FLAGS :: each CHANNEL_STATUS.STANDING_GATE :: each CHANNEL_STATUS.STATE :: each FOLD_WAIT :: each GATE :: each LAMP_LOW :: each LAMP_TOLD :: each LATCH :: each LIMIT_EPISODE :: each LIMIT_LEFT :: each LIMIT_SINCE :: each LIMIT_SPENT :: each PEND :: each PUMP_START :: each PUMP_STOP_AT :: each PWM_HIGH :: each PWM_NEXT :: each RESET_OUTPUT.ASSERT_COUNT :: each RESET_OUTPUT.LAST_CHANGE_STAMP :: each RESET_OUTPUT.OUTPUT :: each RSO_GOOD_SINCE :: each RUN_SINCE :: each RUN_SPENT :: each START_AT :: each STORED_WAIT :: each SWAP_IN :: each2 TENANT.TRUMP_HELD :: each TRIP_STATE :: each WIN :: one (inForce k) :: (each fun n => inForce (CHANNEL_CONFIG.REQUEST n)) :: []) W) (hL : Within ([.collector, .dieMsgs, .staged] : List Part) L) :
    Leaves W L org (State.landChannel s t k v) := by
  delta State.landChannel
  repeat' first
    | with_reducible assumption
    | with_reducible apply State.set_leaves
    | with_reducible apply State.landRequest_leaves
    | (with_unfolding_none refine hW.covers ?_; repeat first | with_unfolding_none exact Covered.here | with_unfolding_none refine Covered.next ?_)
    | with_unfolding_none apply hW.sub (inBoth (ADMIT_SINCE_wide (inSkip (inBoth (inBoth (inBoth (inBoth (inBoth (CHANNEL_PROTECTION.ADMIT_WAIT_wide (inSkip (inBoth (CHANNEL_PROTECTION.RETRIES_LEFT_wide (inSkip (inBoth (inBoth (inBoth (inBoth (inBoth (inBoth (inBoth (inBoth (inBoth (inBoth (inBoth (inBoth (inBoth (inBoth (inBoth (inBoth (PWM_NEXT_wide (inSkip (inBoth (inBoth (inBoth (inBoth (inBoth (inBoth (inBoth (inBoth (inBoth (inBoth (inBoth (inBoth (inSkip (inBoth inNil)))))))))))))))))))))))))))))))))))))))))))))
    | (with_reducible refine Within.trans ?_ hL; decide +kernel)
    | (extract_lets +onlyGivenNames letX; clear_value letX; revert letX; intro _)
    | with_reducible refine Leaves.ite ?_ ?_

theorem State.landPower_leaves {W : List Span} {L : List Part} {org s : State} (k : Nat) (v : Int) (h : Leaves W L org s)
    (hW : Inside (one ASSIST_STATUS.ASSIST_CURRENT :: one ASSIST_STATUS.ASSIST_RESULT :: one ASSIST_STATUS.ASSIST_STATE :: one AS_CLOSED :: one AS_END :: one AS_TIME :: one BATTERY_SWITCH.FORWARD :: one BATTERY_SWITCH.MODE_IN_EFFECT :: one BATTERY_SWITCH.OPEN_CAUSE :: one CHARGER_STATUS.FAULT_CAUSE :: one CHARGER_STATUS.PHASE :: one CHARGER_STATUS.PULSES :: one CHARGER_STATUS.STAGE :: one CHARGER_STATUS.SUSPEND_CAUSE :: one CH_CLOCK :: one CH_CLOCK_AT :: one CH_FULL :: one CH_HOLD_AT :: one CH_PHASE_AT :: one CH_QUALIFY_AT :: one CH_STAGE_AT :: each CONVERTER_STATUS.CONV_FLAGS :: each CONVERTER_STATUS.STATE :: each CONV_LIMIT :: each CONV_PHASE :: each CONV_T0 :: each CWIN :: each2 CWIN_AT :: each2 LANE_EDGE :: each LANE_PARK :: one (OVR_END 1) :: one (OVR_END 2) :: one (OVR_MAX 1) :: one (OVR_MIN 1) :: one (OVR_ON 1) :: one (OVR_REF 1) :: one SW_CONN_AT :: one SW_MARK :: one SW_ON_AT :: one SW_TOLD :: one SW_TRIPPED :: one SW_WAIT_AT :: each TRUNC_LONGEST :: each TRUNC_SINCE :: each TRUNC_TOLD_AT :: one (inForce k) :: one (inForce BATTERY_SWITCH.MODE) :: one (inForce CHARGER.CHARGE_ENABLE) :: (each fun n => inForce (CONVERTER.ENABLE n)) :: []) W) (hL : Within ([.collector, .dieMsgs, .shadows, .staged] : List Part) L) :
    Leaves W L org (State.landPower s k v) := by
  delta State.landPower
  repeat' first
    | with_reducible assumption
    | with_reducible apply State.set_leaves
    | with_reducible apply State.swWrite_leaves
    | with_reducible apply State.chEnable_leaves
    | with_reducible apply State.convEnable_leaves
    | (with_unfolding_none refine hW.covers ?_; repeat first | with_unfolding_none exact Covered.here | with_unfolding_none refine Covered.next ?_)
    | with_unfolding_none apply hW.sub (inSkip (inSkip (inSkip (inSkip (inSkip (inSkip (inBoth (inBoth (inBoth (inSkip (inSkip (inSkip (inSkip (inSkip (inSkip (inSkip (inSkip (inSkip (inSkip (inSkip (inSkip (inSkip (inSkip (inSkip (inSkip (inSkip (inSkip (inSkip (inSkip (inSkip (inSkip (inSkip (inSkip (inSkip (inSkip (inSkip (inBoth (inBoth (inBoth (inBoth (inBoth (inBoth (inSkip (inSkip (inSkip (inSkip (inBoth inNil)))))))))))))))))))))))))))))))))))))))))))))))
    | with_unfolding_none apply hW.sub (inSkip (inSkip (inSkip (inSkip (inSkip (inSkip (inSkip (inSkip (inSkip (inBoth (inBoth (inBoth (inBoth (inBoth (inBoth (inBoth (inBoth (inBoth (inBoth (inBoth (inBoth (CONVERTER_STATUS.CONV_FLAGS_wide (inSkip (inSkip (inSkip (inSkip (inSkip (inSkip (inSkip (inSkip (inSkip (inBoth (inSkip (inBoth (inBoth (inBoth (inBoth (inSkip (inSkip (inSkip (inSkip (inSkip (inSkip (inSkip (inSkip (inSkip (inSkip (inSkip (inBoth inNil)))))))))))))))))))))))))))))))))))))))))))))))))
    | with_unfolding_none apply hW.sub (inBoth (inBoth (inBoth (inBoth (inBoth (inBoth (inSkip (inSkip (inSkip (inSkip (inSkip (inSkip (inSkip (inSkip (inSkip (inSkip (inSkip (inSkip (inSkip (inSkip (inSkip (CONVERTER_STATUS.CONV_FLAGS_wide (inSkip (CONVERTER_STATUS.STATE_wide (inSkip (CONV_LIMIT_wide (inSkip (CONV_PHASE_wide (inSkip (CONV_T0_wide (inSkip (CWIN_wide (inSkip (CWIN_AT_wide (inSkip (inBoth (inBoth (inSkip (inBoth (inSkip (inSkip (inSkip (inSkip (inSkip (inSkip (inSkip (inSkip (inSkip (inSkip (TRUNC_LONGEST_wide (inSkip (TRUNC_SINCE_wide (inSkip (TRUNC_TOLD_AT_wide (inSkip (inSkip (inSkip (inSkip (inForce_CONVERTER.ENABLE_wide inNil)))))))))))))))))))))))))))))))))))))))))))))))))))))))))))
    | (with_reducible refine Within.trans ?_ hL; decide +kernel)
    | (extract_lets +onlyGivenNames letX; clear_value letX; revert letX; intro _)
    | with_reducible refine Leaves.ite ?_ ?_

theorem State.landCore_leaves {W : List Span} {L : List Part} {org s : State} (k : Nat) (v : Int) (h : Leaves W L org s)
    (hW : Inside (one ALARM.ALARM_STATE :: one (HB_AT (k % 256 - 1)) :: one MONO_BASE :: one MONO_FROM :: each MSIX_HELD :: one POWER_STATE.STATE :: one RTC_BASE :: one RTC_FROM :: each TARGET.RAISES :: each TARGET.TARGET_STATE :: each TG_LOW :: one (inForce k) :: one (inForce ALARM.ALARM_SECONDS) :: one (inForce EVENT_FABRIC.DEVICE_HOLD) :: one (inForce POWER_STATE.POWER_MODE) :: one (inForce RTC.RTC_TRIM) :: []) W) (hL : Within ([.collector, .out] : List Part) L) :
    Leaves W L org (State.landCore s k v) := by
  delta State.landCore
  repeat' first
    | with_reducible assumption
    | with_reducible apply State.set_leaves
    | with_reducible apply State.setN_leaves
    | with_reducible apply State.powerMode_leaves
    | with_reducible apply State.setTrim_leaves
    | with_reducible apply State.alarmSet_leaves
    | with_reducible apply State.deviceHold_leaves
    | (with_unfolding_none refine hW.covers ?_; repeat first | with_unfolding_none exact Covered.here | with_unfolding_none refine Covered.next ?_)
    | with_unfolding_none apply hW.sub (inSkip (inSkip (inSkip (inSkip (inSkip (inBoth (inSkip (inSkip (inSkip (inSkip (inSkip (inSkip (inSkip (inSkip (inBoth inNil)))))))))))))))
    | with_unfolding_none apply hW.sub (inSkip (inSkip (inBoth (inBoth (inSkip (inSkip (inBoth (inBoth (inSkip (inSkip (inSkip (inSkip (inSkip (inSkip (inSkip (inBoth inNil))))))))))))))))
    | with_unfolding_none apply hW.sub (inBoth (inSkip (inSkip (inSkip (inSkip (inSkip (inSkip (inSkip (inSkip (inSkip (inSkip (inSkip (inBoth inNil)))))))))))))
    | with_unfolding_none apply hW.sub (inSkip (inSkip (inSkip (inSkip (inBoth (inSkip (inSkip (inSkip (inBoth (inBoth (inBoth (inSkip (inSkip (inBoth inNil))))))))))))))
    | (with_reducible refine Within.trans ?_ hL; decide +kernel)
    | with_reducible refine Leaves.ite ?_ ?_

theorem State.landStream_leaves {W : List Span} {L : List Part} {org s : State} (k : Nat) (v : Int) (h : Leaves W L org s)
    (hW : Inside (anyKey :: []) W) (hL : Within ([.collector] : List Part) L) :
    Leaves W L org (State.landStream s k v) := by
  delta State.landStream
  repeat' first
    | with_reducible assumption
    | with_reducible apply State.set_leaves
    | with_reducible apply State.dsRun_leaves
    | with_reducible apply State.dsTailLands_leaves
    | (with_unfolding_none refine hW.covers ?_; repeat first | with_unfolding_none exact dyn_in | with_unfolding_none refine Covered.next ?_)
    | with_unfolding_none apply hW.sub (inAny)
    | (with_reducible refine Within.trans ?_ hL; decide +kernel)
    | (extract_lets +onlyGivenNames letX; clear_value letX; revert letX; intro _)
    | with_reducible refine Leaves.ite ?_ ?_

theorem State.landValue_leaves {W : List Span} {L : List Part} {org s : State} (t k : Nat) (v : Int) (h : Leaves W L org s)
    (hW : Inside (anyKey :: []) W) (hL : Within ([.collector, .dieMsgs, .out, .shadows, .staged] : List Part) L) :
    Leaves W L org (State.landValue s t k v) := by
  delta State.landValue
  repeat' first
    | with_reducible assumption
    | with_reducible apply State.set_leaves
    | with_reducible apply State.notKept_leaves
    | with_reducible apply State.landChannel_leaves
    | with_reducible apply State.rsoForce_leaves
    | with_reducible apply State.landPower_leaves
    | with_reducible apply State.landStream_leaves
    | with_reducible apply State.landCore_leaves
    | (with_unfolding_none refine hW.covers ?_; repeat first | with_unfolding_none exact dyn_in | with_unfolding_none refine Covered.next ?_)
    | with_unfolding_none apply hW.sub (inAny)
    | (with_reducible refine Within.trans ?_ hL; decide +kernel)
    | (extract_lets +onlyGivenNames letX; have letT : True := (by clear_value letX; guard_hyp letX : State; trivial); clear letT; refine Leaves.cut (W := W) (L := L) (r := org) (v := letX) ?_ (fun letH => ?_); (focus subst letX); rotate_left; clear_value letX; revert letX; intro _ _)
    | (extract_lets +onlyGivenNames letX; clear_value letX; revert letX; intro _)
    | with_reducible refine Leaves.ite ?_ ?_
    | split
    | with_reducible refine Leaves.ofPair (by assumption) ?_

theorem State.landChannelAction_leaves {W : List Span} {L : List Part} {org s : State} (t addr v : Nat) (h : Leaves W L org s)
    (hW : Inside (anyKey :: []) W) (hL : Within ([.canQueue, .collector, .dieMsgs, .late, .out, .rings, .staged] : List Part) L) :
    Leaves W L org (State.landChannelAction s t addr v) := by
  delta State.landChannelAction
  repeat' first
    | with_reducible assumption
    | with_reducible apply State.trumpLands_leaves
    | with_reducible apply State.takeHeld_leaves
    | with_reducible apply State.releaseStanding_leaves
    | with_reducible apply State.clearLockout_leaves
    | with_reducible apply State.clearCounters_leaves
    | with_reducible apply State.captureArm_leaves
    | with_unfolding_none apply hW.sub (inAny)
    | (with_reducible refine Within.trans ?_ hL; decide +kernel)
    | (extract_lets +onlyGivenNames letX; clear_value letX; revert letX; intro _)
    | with_reducible refine Leaves.ite ?_ ?_

theorem State.landPlanAction_leaves {W : List Span} {L : List Part} {org s : State} (addr v : Nat) (h : Leaves W L org s)
    (hW : Inside (one BATTERY_RECORD.SEQUENCE :: each LIFE_NEW :: each LIFE_STORED :: each PLAN_TRIGGER :: one PON_CONTROL.PON_CHANGES :: one PON_CONTROL.PON_LAST_CAUSE :: one PON_CONTROL.PON_STATE :: each STEP_AGAIN :: each STEP_MOVED_AT :: each STEP_RUNS :: each STEP_SEEN_AT :: each STEP_SPENT :: one STORE_BUSY :: each STORE_COPY :: each STORE_SEQ :: one STORE_SIDE :: (each fun p => ofPlan p OPENING_PLAN.END_FRAME) :: (each fun p => ofPlan p OPENING_PLAN.PLAN_STATE) :: (each fun p => ofPlan p OPENING_PLAN.RESULT) :: (each fun p => ofPlan p OPENING_PLAN.RUNS) :: (each fun p => ofPlan p OPENING_PLAN.SKIPPED_STEPS) :: (each fun p => ofPlan p OPENING_PLAN.START_FRAME) :: (each2 fun p i => ofPlan p (OPENING_STEP_STATE.STATE i)) :: []) W) (hL : Within ([.collector] : List Part) L) :
    Leaves W L org (State.landPlanAction s addr v) := by
  delta State.landPlanAction
  repeat' first
    | with_reducible assumption
    | with_reducible apply State.planBegin_leaves
    | with_reducible apply State.planAbort_leaves
    | with_reducible apply State.planResolve_leaves
    | with_unfolding_none apply hW.sub (inBoth (inBoth (inBoth (PLAN_TRIGGER_wide (inSkip (inBoth (inBoth (inBoth (inBoth (inBoth (inBoth (inBoth (inBoth (inBoth (inBoth (inBoth (inBoth (inBoth (inBoth (inBoth (inBoth (inBoth (inBoth (inBoth inNil))))))))))))))))))))))))
    | with_unfolding_none apply hW.sub (inBoth (inBoth (inBoth (inSkip (inBoth (inBoth (inBoth (inSkip (inSkip (inSkip (inSkip (inSkip (inBoth (inBoth (inBoth (inBoth (inBoth (inBoth (inBoth (inSkip (inSkip (inSkip (inBoth inNil)))))))))))))))))))))))
    | with_unfolding_none apply hW.sub (inSkip (inSkip (inSkip (inSkip (inSkip (inSkip (inSkip (STEP_AGAIN_wide (inSkip (STEP_MOVED_AT_wide (inSkip (inSkip (inSkip (inSkip (inSkip (inSkip (inSkip (inSkip (inSkip (inSkip (inSkip (inSkip (inBoth (inSkip (inBoth inNil)))))))))))))))))))))))))
    | (with_reducible refine Within.trans ?_ hL; decide +kernel)
    | (extract_lets +onlyGivenNames letX; clear_value letX; revert letX; intro _)
    | with_reducible refine Leaves.ite ?_ ?_
    | split
    | with_reducible refine Leaves.ofPair (by assumption) ?_

theorem State.landPowerAction_leaves {W : List Span} {L : List Part} {org s : State} (addr v : Nat) (h : Leaves W L org s)
    (hW : Inside (one ASSIST_STATUS.ASSIST_RESULT :: one ASSIST_STATUS.ASSIST_STATE :: one ASSIST_STATUS.DELIVERED_CHARGE :: one ASSIST_STATUS.SESSIONS :: one AS_AT :: one AS_END :: one AS_END_AT :: one AS_STATE_AT :: one BATTERY_RECORD.SEQUENCE :: one (CONVERTER_STATUS.CONV_FLAGS 2) :: one ESTIMATOR_STATUS.CAPACITY_IN_USE :: one ESTIMATOR_STATUS.EST_FLAGS :: one ESTIMATOR_STATUS.LEARNED_CAPACITY :: one ESTIMATOR_STATUS.RESISTANCE :: one ESTIMATOR_STATUS.SOC :: one ESTIMATOR_STATUS.SOC_INTERNAL :: one ESTIMATOR_STATUS.SOC_SOURCE :: one ESTIMATOR_STATUS.SOH_CAPACITY :: one ESTIMATOR_STATUS.SOH_RESISTANCE :: one (OVR_END 2) :: one (OVR_MAX 2) :: one (OVR_MIN 2) :: one (OVR_ON 2) :: one (OVR_REF 2) :: one REC_CAP_N :: each REC_GRID :: each REC_HIST :: one REC_IN :: one REC_I_MAX :: one REC_I_MIN :: one REC_OUT :: one REC_REPLACED :: one REC_RES_N :: one REC_T_MAX :: one REC_T_MIN :: one REC_UNBINNED :: one REC_V_MAX :: one REC_V_MIN :: one RET_CAPACITY :: one RET_SOC :: one RET_SOCI :: one SHIP_AT :: one SHIP_CONTROL.SHIP_STATE :: one STORE_BUSY :: each STORE_COPY :: each STORE_SEQ :: one STORE_SIDE :: []) W) (hL : Within ([.collector] : List Part) L) :
    Leaves W L org (State.landPowerAction s addr v) := by
  delta State.landPowerAction
  repeat' first
    | with_reducible assumption
    | with_reducible apply State.shipArm_leaves
    | with_reducible apply State.asStart_leaves
    | with_reducible apply State.asOrdinary_leaves
    | with_reducible apply State.batteryReplaced_leaves
    | with_unfolding_none apply hW.sub (inSkip (inSkip (inSkip (inSkip (inSkip (inSkip (inSkip (inSkip (inSkip (inSkip (inSkip (inSkip (inSkip (inSkip (inSkip (inSkip (inSkip (inSkip (inSkip (inSkip (inSkip (inSkip (inSkip (inSkip (inSkip (inSkip (inSkip (inSkip (inSkip (inSkip (inSkip (inSkip (inSkip (inSkip (inSkip (inSkip (inSkip (inSkip (inSkip (inSkip (inSkip (inBoth (inBoth inNil)))))))))))))))))))))))))))))))))))))))))))
    | with_unfolding_none apply hW.sub (inBoth (inBoth (inBoth (inBoth (inBoth (inSkip (inSkip (inBoth inNil))))))))
    | with_unfolding_none apply hW.sub (inSkip (inSkip (inSkip (inSkip (inSkip (inBoth (inBoth (inSkip (inSkip (inBoth (inSkip (inSkip (inSkip (inSkip (inSkip (inSkip (inSkip (inSkip (inSkip (inBoth (inBoth (inBoth (inBoth (inBoth inNil))))))))))))))))))))))))
    | with_unfolding_none apply hW.sub (inSkip (inSkip (inSkip (inSkip (inSkip (inSkip (inSkip (inSkip (inBoth (inSkip (inBoth (inBoth (inBoth (inBoth (inBoth (inBoth (inBoth (inBoth (inBoth (inSkip (inSkip (inSkip (inSkip (inSkip (inBoth (inBoth (inBoth (inBoth (inBoth (inBoth (inBoth (inBoth (inBoth (inBoth (inBoth (inBoth (inBoth (inBoth (inBoth (inBoth (inBoth (inSkip (inSkip (inBoth (inBoth (inBoth (inBoth inNil)))))))))))))))))))))))))))))))))))))))))))))))
    | (with_reducible refine Within.trans ?_ hL; decide +kernel)
    | with_reducible refine Leaves.ite ?_ ?_

theorem State.landCoreAction_leaves {W : List Span} {L : List Part} {org s : State} (addr v : Nat) (h : Leaves W L org s)
    (hW : Inside (anyKey :: []) W) (hL : Within ([.barriers, .canQueue, .collector, .dieMsgs, .fences, .heldWrites, .landing, .late, .out, .placing, .resp, .rings, .shadows, .signing, .staged] : List Part) L) :
    Leaves W L org (State.landCoreAction s addr v) := by
  delta State.landCoreAction
  repeat' first
    | with_reducible assumption
    | with_reducible apply State.resetBegin_leaves
    | with_reducible apply State.openingResume_leaves
    | with_reducible apply State.journalAck_leaves
    | with_reducible apply State.parkBegins_leaves
    | with_reducible apply State.wakeClear_leaves
    | with_reducible apply State.twStart_leaves
    | with_reducible apply State.ponCommand_leaves
    | with_reducible apply State.trumpReleased_leaves
    | with_unfolding_none apply hW.sub (inAny)
    | (with_reducible refine Within.trans ?_ hL; decide +kernel)
    | with_reducible refine Leaves.ite ?_ ?_

theorem State.landAction_leaves {W : List Span} {L : List Part} {org s : State} (t addr : Nat) (v : Int) (h : Leaves W L org s)
    (hW : Inside (anyKey :: []) W) (hL : Within ([.barriers, .canQueue, .collector, .dieMsgs, .fences, .heldWrites, .landing, .late, .out, .placing, .resp, .rings, .shadows, .signing, .staged] : List Part) L) :
    Leaves W L org (State.landAction s t addr v) := by
  delta State.landAction
  repeat' first
    | with_reducible assumption
    | with_reducible apply State.landCoreAction_leaves
    | with_reducible apply State.landPowerAction_leaves
    | with_reducible apply State.landChannelAction_leaves
    | with_reducible apply State.swapBegin_leaves
    | with_reducible apply State.landPlanAction_leaves
    | with_unfolding_none apply hW.sub (inAny)
    | (with_reducible refine Within.trans ?_ hL; decide +kernel)
    | (extract_lets +onlyGivenNames letX; clear_value letX; revert letX; intro _)
    | with_reducible refine Leaves.ite ?_ ?_

theorem State.defaultLands_leaves {W : List Span} {L : List Part} {org s : State} (k : Nat) (v : Int) (h : Leaves W L org s)
    (hW : Inside (anyKey :: []) W) (hL : Within ([.collector, .dieMsgs, .out, .shadows, .staged] : List Part) L) :
    Leaves W L org (State.defaultLands s k v) := by
  delta State.defaultLands
  repeat' first
    | with_reducible assumption
    | with_reducible apply State.set_leaves
    | with_reducible apply State.actOnRequest_leaves
    | with_reducible apply State.landValue_leaves
    | (with_unfolding_none refine hW.covers ?_; repeat first | with_unfolding_none exact dyn_in | with_unfolding_none refine Covered.next ?_)
    | with_unfolding_none apply hW.sub (inAny)
    | (with_reducible refine Within.trans ?_ hL; decide +kernel)
    | (extract_lets +onlyGivenNames letX; have letT : True := (by clear_value letX; guard_hyp letX : State; trivial); clear letT; refine Leaves.cut (W := W) (L := L) (r := org) (v := letX) ?_ (fun letH => ?_); (focus subst letX); rotate_left; clear_value letX; revert letX; intro _ _)
    | (extract_lets +onlyGivenNames letX; clear_value letX; revert letX; intro _)
    | with_reducible refine Leaves.ite ?_ ?_

theorem State.handDefaults_leaves {W : List Span} {L : List Part} {org s : State} (t accepted : Nat) (chans : List Nat) (h : Leaves W L org s)
    (hW : Inside (anyKey :: []) W) (hL : Within ([.canQueue, .collector, .dieMsgs, .landing, .late, .out, .rings, .shadows, .staged] : List Part) L) :
    Leaves W L org (State.handDefaults s t accepted chans) := by
  delta State.handDefaults
  repeat' first
    | with_reducible assumption
    | with_reducible apply State.setBlob_leaves
    | with_reducible apply State.defaultLands_leaves
    | with_reducible apply State.applyValues_leaves
    | (with_unfolding_none refine hW.covers ?_; repeat first | with_unfolding_none exact dyn_in | with_unfolding_none refine Covered.next ?_)
    | with_unfolding_none apply hW.sub (inAny)
    | (with_reducible refine Within.trans ?_ hL; decide +kernel)
    | (extract_lets +onlyGivenNames letX; have letT : True := (by clear_value letX; guard_hyp letX : State; trivial); clear letT; refine Leaves.cut (W := W) (L := L) (r := org) (v := letX) ?_ (fun letH => ?_); (focus subst letX); rotate_left; clear_value letX; revert letX; intro _ _)
    | (extract_lets +onlyGivenNames letX; clear_value letX; revert letX; intro _)
    | with_reducible refine Leaves.ite ?_ ?_
    | with_reducible refine forEach_leaves ?_ (fun _ _ _ => ?_)

theorem State.generationsAdvance_leaves {W : List Span} {L : List Part} {org s : State} (t : Nat) (h : Leaves W L org s)
    (hW : Inside (one DEVICE_DIGEST.GLOBAL_GENERATION :: one (TENANT_GENERATION.GEN_TN t) :: one (WATCHDOG.ADJOURN_USED t) :: []) W) :
    Leaves W L org (State.generationsAdvance s t) := by
  delta State.generationsAdvance
  repeat' first
    | with_reducible assumption
    | with_reducible apply State.setN_leaves
    | with_reducible apply State.wrapCount_leaves
    | (with_unfolding_none refine hW.covers ?_; repeat first | with_unfolding_none exact Covered.here | with_unfolding_none exact DEVICE_DIGEST.GLOBAL_GENERATION_in | with_unfolding_none refine Covered.next ?_)

theorem State.tenantEnds_leaves {W : List Span} {L : List Part} {org s : State} (t : Nat) (h : Leaves W L org s)
    (hW : Inside (anyKey :: []) W) (hL : Within ([.collector, .fences, .out, .signing, .staged] : List Part) L) :
    Leaves W L org (State.tenantEnds s t) := by
  delta State.tenantEnds
  repeat' first
    | with_reducible assumption
    | with_reducible apply State.restore_leaves
    | with_reducible apply State.setBlob_leaves
    | with_reducible apply State.dsStop_leaves
    | with_reducible apply State.wdDisarm_leaves
    | with_reducible apply State.sessionEnd_leaves
    | with_reducible apply State.fenceCancel_leaves
    | with_reducible apply State.tenantHold_leaves
    | with_reducible apply State.unstage_leaves
    | (with_unfolding_none refine hW.covers ?_; repeat first | with_unfolding_none exact dyn_in | with_unfolding_none refine Covered.next ?_)
    | with_unfolding_none apply hW.sub (inAny)
    | with_unfolding_none apply hW.sub (inNil)
    | (with_reducible refine Within.trans ?_ hL; decide +kernel)
    | (extract_lets +onlyGivenNames letX; have letT : True := (by clear_value letX; guard_hyp letX : State; trivial); clear letT; refine Leaves.cut (W := W) (L := L) (r := org) (v := letX) ?_ (fun letH => ?_); (focus subst letX); rotate_left; clear_value letX; revert letX; intro _ _)
    | with_reducible refine Leaves.ite ?_ ?_
    | with_reducible refine forBelow_leaves ?_ (fun _ _ _ => ?_)

theorem State.arbiterResets_leaves {W : List Span} {L : List Part} {org s : State} (h : Leaves W L org s)
    (hW : Inside (anyKey :: []) W) (hL : Within ([.collector] : List Part) L) :
    Leaves W L org (State.arbiterResets s) := by
  delta State.arbiterResets
  repeat' first
    | with_reducible assumption
    | with_reducible apply State.setN_leaves
    | with_reducible apply State.restore_leaves
    | with_reducible apply State.planAbort_leaves
    | (with_unfolding_none refine hW.covers ?_; repeat first | with_unfolding_none exact dyn_in | with_unfolding_none refine Covered.next ?_)
    | with_unfolding_none apply hW.sub (inAny)
    | (with_reducible refine Within.trans ?_ hL; decide +kernel)
    | (extract_lets +onlyGivenNames letX; have letT : True := (by clear_value letX; guard_hyp letX : State; trivial); clear letT; refine Leaves.cut (W := W) (L := L) (r := org) (v := letX) ?_ (fun letH => ?_); (focus subst letX); rotate_left; clear_value letX; revert letX; intro _ _)
    | with_reducible refine forEach_leaves ?_ (fun _ _ _ => ?_)
    | with_reducible refine forBelow_leaves ?_ (fun _ _ _ => ?_)

theorem State.tenantResets_leaves {W : List Span} {L : List Part} {org s : State} (t source accepted : Nat) (h : Leaves W L org s)
    (hW : Inside (anyKey :: []) W) (hL : Within ([.barriers, .canQueue, .collector, .dieMsgs, .fences, .landing, .late, .out, .placing, .rings, .shadows, .signing, .staged] : List Part) L) :
    Leaves W L org (State.tenantResets s t source accepted) := by
  delta State.tenantResets
  repeat' first
    | with_reducible assumption
    | with_reducible apply State.setN_leaves
    | with_reducible apply State.count_leaves
    | with_reducible apply State.commitCancel_leaves
    | with_reducible apply State.foldAll_leaves
    | with_reducible apply State.foldHand_leaves
    | with_reducible apply State.arbiterResets_leaves
    | with_reducible apply State.tenantEnds_leaves
    | with_reducible apply State.handDefaults_leaves
    | with_reducible apply State.keepSettings_leaves
    | with_reducible apply State.keepNothing_leaves
    | with_reducible apply State.ringRestart_leaves
    | with_reducible apply State.generationsAdvance_leaves
    | with_reducible apply State.recordNow_leaves
    | with_reducible apply State.pdosRestart_leaves
    | with_reducible apply State.nodeBoot_leaves
    | (with_unfolding_none refine hW.covers ?_; repeat first | with_unfolding_none exact dyn_in | with_unfolding_none refine Covered.next ?_)
    | with_unfolding_none apply hW.sub (inAny)
    | (with_reducible refine Within.trans ?_ hL; decide +kernel)
    | (extract_lets +onlyGivenNames letX; have letT : True := (by clear_value letX; guard_hyp letX : State; trivial); clear letT; refine Leaves.cut (W := W) (L := L) (r := org) (v := letX) ?_ (fun letH => ?_); (focus subst letX); rotate_left; clear_value letX; revert letX; intro _ _)
    | (extract_lets +onlyGivenNames letX; clear_value letX; revert letX; intro _)
    | with_reducible refine Leaves.ite ?_ ?_
    | with_reducible refine forEach_leaves ?_ (fun _ _ _ => ?_)

theorem State.withdrawalResets_leaves {W : List Span} {L : List Part} {org s : State} (u accepted : Nat) (h : Leaves W L org s)
    (hW : Inside (anyKey :: []) W) (hL : Within ([.barriers, .canQueue, .collector, .dieMsgs, .fences, .heldWrites, .landing, .late, .out, .placing, .resp, .rings, .shadows, .signing, .staged] : List Part) L) :
    Leaves W L org (State.withdrawalResets s u accepted) := by
  delta State.withdrawalResets
  repeat' first
    | with_reducible assumption
    | with_reducible apply State.barrierDrop_leaves
    | with_reducible apply State.usdoAbort_leaves
    | with_reducible apply State.tenantResets_leaves
    | with_unfolding_none apply hW.sub (inNil)
    | with_unfolding_none apply hW.sub (inAny)
    | (with_reducible refine Within.trans ?_ hL; decide +kernel)
    | (extract_lets +onlyGivenNames letX; have letT : True := (by clear_value letX; guard_hyp letX : State; trivial); clear letT; refine Leaves.cut (W := W) (L := L) (r := org) (v := letX) ?_ (fun letH => ?_); (focus subst letX); rotate_left; clear_value letX; revert letX; intro _ _)
    | (extract_lets +onlyGivenNames letX; clear_value letX; revert letX; intro _)
    | with_reducible refine Leaves.ite ?_ ?_
    | split
    | with_reducible refine Leaves.update ?_ ?_ ?_ ?_ ?_ ?_ ?_ ?_ ?_ ?_ ?_ ?_ ?_ ?_ ?_ ?_ ?_ ?_ ?_
    | with_reducible exact Or.inl rfl
    | with_reducible exact Or.inr (hL _ (by decide +kernel))
    | with_reducible refine Leaves.ofPair (by assumption) ?_

theorem State.commitApplies_leaves {W : List Span} {L : List Part} {org s : State} (t accepted : Nat) (vals : List (Nat × Int)) (h : Leaves W L org s)
    (hW : Inside (anyKey :: []) W) (hL : Within ([.barriers, .canQueue, .collector, .dieMsgs, .fences, .heldWrites, .landing, .late, .out, .placing, .resp, .rings, .shadows, .signing, .staged] : List Part) L) :
    Leaves W L org (State.commitApplies s t accepted vals) := by
  delta State.commitApplies
  repeat' first
    | with_reducible assumption
    | with_reducible apply State.setN_leaves
    | with_reducible apply State.generationsAdvance_leaves
    | with_reducible apply State.unstage_leaves
    | with_reducible apply State.notKept_leaves
    | with_reducible apply State.applyValues_leaves
    | with_reducible apply State.raiseServer_leaves
    | with_reducible apply State.withdrawalResets_leaves
    | with_reducible apply State.dealApplies_leaves
    | (with_unfolding_none refine hW.covers ?_; repeat first | with_unfolding_none exact dyn_in | with_unfolding_none refine Covered.next ?_)
    | with_unfolding_none apply hW.sub (inAny)
    | with_unfolding_none apply hW.sub (inNil)
    | (with_reducible refine Within.trans ?_ hL; decide +kernel)
    | (extract_lets +onlyGivenNames letX; have letT : True := (by clear_value letX; guard_hyp letX : State; trivial); clear letT; refine Leaves.cut (W := W) (L := L) (r := org) (v := letX) ?_ (fun letH => ?_); (focus subst letX); rotate_left; clear_value letX; revert letX; intro _ _)
    | (extract_lets +onlyGivenNames letX; clear_value letX; revert letX; intro _)
    | with_reducible refine Leaves.ite ?_ ?_
    | with_reducible refine forEach_leaves ?_ (fun _ _ _ => ?_)

theorem State.actService_leaves {W : List Span} {L : List Part} {org s : State} (t addr : Nat) (v : Int) (b : List Byte) (h : Leaves W L org s)
    (hW : Inside (one ALARM.ALARMS_FIRED :: one ALARM.ALARM_SECONDS :: one ALARM.ALARM_STATE :: one (ATTEST_CONTROL.ATTEST_STATE t) :: one BACK_ALARM :: one (KEY_DH t) :: one (KEY_HD t) :: one MONO_BASE :: one MONO_FROM :: one PARK_STAGE :: one PON_CONTROL.PON_CHANGES :: one PON_CONTROL.PON_LAST_CAUSE :: one PON_CONTROL.PON_STATE :: one POWER_STATE.PARK_ABORTS :: one POWER_STATE.STATE :: one RTC.LAST_SET_STAMP :: one RTC.RTC_FLAGS :: one RTC.SET_SOURCE :: one RTC_BASE :: one RTC_FROM :: one (SESSION_CONTROL.SESSION_STATE t) :: one (SESSION_ID t) :: one WAKE_CONFIG.WAKE_LATCHED :: one WAKE_PENDING :: one (WATCHDOG.ADJOURN_USED t) :: one (WATCHDOG.ANSWER_COUNT t) :: one (WATCHDOG.PERIOD t) :: one (WATCHDOG.PERIOD_START t) :: one (WATCHDOG.QUESTION t) :: one (WATCHDOG.WD_STATE t) :: one (WATCHDOG.WRONG_ANSWERS t) :: one (WD_ANSWERS t) :: one (WD_AT t) :: one (WD_CLOSED t) :: one (WD_FAILED t) :: one (WD_LEN t) :: one (WD_SEED t) :: one (WD_VALID t) :: one (inForce ALARM.ALARM_SECONDS) :: []) W) (hL : Within ([.collector, .free, .signing] : List Part) L) :
    Leaves W L org (State.actService s t addr v b) := by
  delta State.actService
  repeat' first
    | with_reducible assumption
    | with_reducible apply State.wdArm_leaves
    | with_reducible apply State.wdAdjourn_leaves
    | with_reducible apply State.setClock_leaves
    | with_reducible apply State.attest_leaves
    | with_reducible apply State.sessionOpen_leaves
    | with_reducible apply State.sessionEnd_leaves
    | with_unfolding_none apply hW.sub (inSkip (inSkip (inSkip (inSkip (inSkip (inSkip (inSkip (inSkip (inSkip (inSkip (inSkip (inSkip (inSkip (inSkip (inSkip (inSkip (inSkip (inSkip (inSkip (inSkip (inSkip (inSkip (inSkip (inSkip (inSkip (inBoth (inBoth (inBoth (inBoth (inBoth (inBoth (inBoth (inBoth (inBoth (inBoth (inSkip (inBoth (inBoth inNil))))))))))))))))))))))))))))))))))))))
    | with_unfolding_none apply hW.sub (inSkip (inSkip (inSkip (inSkip (inSkip (inSkip (inSkip (inSkip (inSkip (inSkip (inSkip (inSkip (inSkip (inSkip (inSkip (inSkip (inSkip (inSkip (inSkip (inSkip (inSkip (inSkip (inSkip (inSkip (inBoth (inSkip (inSkip (inBoth (inBoth (inBoth (inSkip (inBoth (inBoth (inBoth (inBoth (inBoth (inSkip (inBoth inNil))))))))))))))))))))))))))))))))))))))
    | with_unfolding_none apply hW.sub (inBoth (inBoth (inBoth (inSkip (inBoth (inSkip (inSkip (inBoth (inBoth (inBoth (inBoth (inBoth (inBoth (inBoth (inBoth (inBoth (inBoth (inBoth (inBoth (inBoth (inSkip (inSkip (inBoth (inBoth (inSkip (inSkip (inSkip (inSkip (inSkip (inSkip (inSkip (inSkip (inSkip (inSkip (inSkip (inSkip (inSkip (inSkip (inBoth inNil)))))))))))))))))))))))))))))))))))))))
    | with_unfolding_none apply hW.sub (inSkip (inSkip (inSkip (inBoth inNil))))
    | with_unfolding_none apply hW.sub (inSkip (inSkip (inSkip (inSkip (inSkip (inBoth (inBoth (inSkip (inSkip (inSkip (inSkip (inSkip (inSkip (inSkip (inSkip (inSkip (inSkip (inSkip (inSkip (inSkip (inBoth (inBoth inNil))))))))))))))))))))))
    | (with_reducible refine Within.trans ?_ hL; decide +kernel)
    | (extract_lets +onlyGivenNames letX; clear_value letX; revert letX; intro _)
    | with_reducible refine Leaves.ite ?_ ?_

theorem State.actNow_leaves {W : List Span} {L : List Part} {org s : State} (t addr : Nat) (v : Int) (b : List Byte) (h : Leaves W L org s)
    (hW : Inside (one ALARM.ALARMS_FIRED :: one ALARM.ALARM_SECONDS :: one ALARM.ALARM_STATE :: one (ATTEST_CONTROL.ATTEST_STATE t) :: one BACK_ALARM :: one (BARRIER.BARRIER_DONE t) :: one (CM_STAGE_END t) :: one (CM_STAMP t) :: one (CM_VALUE t) :: one (COMMIT_CONTROL.LAST_OBJECT t) :: one (COMMIT_CONTROL.LAST_REASON t) :: one (COMMIT_CONTROL.STATUS t) :: one (FENCE_CONTROL.FENCE_STAMP t) :: each HK_AT :: each HK_DELAY :: each HK_DONE :: each HK_DROPS :: each HK_LATCH :: each HK_PRE :: each HK_RUN :: each HK_SEQUENCE.OVERRUN_COUNT :: each HK_SEQUENCE.SEQ_STATE :: each HK_SUM :: one (HOLD_STATE.HOLD_TN t) :: one (KEY_DH t) :: one (KEY_HD t) :: one (KIND_QUERY.QUERY_RESULT t) :: one MONO_BASE :: one MONO_FROM :: each MSIX_HELD :: each OVF_DROPS :: one PARK_STAGE :: one PON_CONTROL.PON_CHANGES :: one PON_CONTROL.PON_LAST_CAUSE :: one PON_CONTROL.PON_STATE :: one POWER_STATE.PARK_ABORTS :: one POWER_STATE.STATE :: one RTC.LAST_SET_STAMP :: one RTC.RTC_FLAGS :: one RTC.SET_SOURCE :: one RTC_BASE :: one RTC_FROM :: one (SESSION_CONTROL.SESSION_STATE t) :: one (SESSION_ID t) :: each TARGET.RAISES :: each TARGET.TARGET_STATE :: each TG_LOW :: each USDO_AT :: each USDO_DATA :: each USDO_OPEN :: each USDO_WRITES :: one WAKE_CONFIG.WAKE_LATCHED :: one WAKE_PENDING :: one (WATCHDOG.ADJOURN_USED t) :: one (WATCHDOG.ANSWER_COUNT t) :: one (WATCHDOG.PERIOD t) :: one (WATCHDOG.PERIOD_START t) :: one (WATCHDOG.QUESTION t) :: one (WATCHDOG.WD_STATE t) :: one (WATCHDOG.WRONG_ANSWERS t) :: one (WD_ANSWERS t) :: one (WD_AT t) :: one (WD_CLOSED t) :: one (WD_FAILED t) :: one (WD_LEN t) :: one (WD_SEED t) :: one (WD_VALID t) :: one (inForce ALARM.ALARM_SECONDS) :: []) W) (hL : Within ([.barriers, .collector, .fences, .free, .heldWrites, .landing, .out, .resp, .rings, .shadows, .signing, .staged] : List Part) L) :
    Leaves W L org (State.actNow s t addr v b) := by
  delta State.actNow
  repeat' first
    | with_reducible assumption
    | with_reducible apply State.setN_leaves
    | with_reducible apply State.tenantResetAccept_leaves
    | with_reducible apply State.commitWrite_leaves
    | with_reducible apply State.discard_leaves
    | with_reducible apply State.barrierWrite_leaves
    | with_reducible apply State.fenceWrite_leaves
    | with_reducible apply State.hkWritten_leaves
    | with_reducible apply State.tenantHold_leaves
    | with_reducible apply State.tgArm_leaves
    | with_reducible apply State.flushRing_leaves
    | with_reducible apply State.actService_leaves
    | (with_unfolding_none refine hW.covers ?_; repeat first | with_unfolding_none exact Covered.here | with_unfolding_none refine Covered.next ?_)
    | with_unfolding_none apply hW.sub (inSkip (inSkip (inSkip (inSkip (inSkip (inSkip (inSkip (inSkip (inSkip (inSkip (inSkip (inSkip (inSkip (inSkip (inSkip (inSkip (inSkip (inSkip (inSkip (inSkip (inSkip (inSkip (inSkip (inSkip (inSkip (inSkip (inSkip (inSkip (inSkip (inSkip (inSkip (inSkip (inSkip (inSkip (inSkip (inSkip (inSkip (inSkip (inSkip (inSkip (inSkip (inSkip (inSkip (inSkip (inSkip (inSkip (inSkip (USDO_AT_wide (inSkip (USDO_DATA_wide (inSkip (USDO_OPEN_wide (inSkip (USDO_WRITES_wide inNil))))))))))))))))))))))))))))))))))))))))))))))))))))))
    | with_unfolding_none apply hW.sub (inSkip (inSkip (inSkip (inSkip (inSkip (inSkip (inBoth (inBoth (inBoth (inBoth (inBoth (inBoth inNil))))))))))))
    | with_unfolding_none apply hW.sub (inSkip (inSkip (inSkip (inSkip (inSkip (inSkip (inSkip (inSkip (inSkip (inBoth (inBoth (inBoth inNil))))))))))))
    | with_unfolding_none apply hW.sub (inSkip (inSkip (inSkip (inSkip (inSkip (inBoth inNil))))))
    | with_unfolding_none apply hW.sub (inSkip (inSkip (inSkip (inSkip (inSkip (inSkip (inSkip (inSkip (inSkip (inSkip (inSkip (inSkip (inBoth inNil)))))))))))))
    | with_unfolding_none apply hW.sub (inSkip (inSkip (inSkip (inSkip (inSkip (inSkip (inSkip (inSkip (inSkip (inSkip (inSkip (inSkip (inSkip (HK_AT_wide (inSkip (inBoth (inBoth (HK_DROPS_wide (inSkip (HK_LATCH_wide (inSkip (inBoth (HK_RUN_wide (inSkip (HK_SEQUENCE.OVERRUN_COUNT_wide (inSkip (inBoth (inBoth inNil))))))))))))))))))))))))))))
    | with_unfolding_none apply hW.sub (inSkip (inSkip (inSkip (inSkip (inSkip (inSkip (inSkip (inSkip (inSkip (inSkip (inSkip (inSkip (inSkip (inSkip (inSkip (inSkip (inSkip (inSkip (inSkip (inSkip (inSkip (inSkip (inSkip (inBoth (inSkip (inSkip (inSkip (inSkip (inSkip (inBoth (inSkip (inSkip (inSkip (inSkip (inSkip (inSkip (inSkip (inSkip (inSkip (inSkip (inSkip (inSkip (inSkip (inSkip (inBoth (inBoth (inBoth inNil)))))))))))))))))))))))))))))))))))))))))))))))
    | with_unfolding_none apply hW.sub (inSkip (inSkip (inSkip (inSkip (inSkip (inSkip (inSkip (inSkip (inSkip (inSkip (inSkip (inSkip (inSkip (inSkip (inSkip (inSkip (inSkip (inSkip (inSkip (inSkip (inSkip (inSkip (inSkip (inSkip (inSkip (inSkip (inSkip (inSkip (inSkip (MSIX_HELD_wide (inSkip (inSkip (inSkip (inSkip (inSkip (inSkip (inSkip (inSkip (inSkip (inSkip (inSkip (inSkip (inSkip (inSkip (inSkip (TARGET.RAISES_wide (inSkip (TARGET.TARGET_STATE_wide (inSkip (TG_LOW_wide inNil))))))))))))))))))))))))))))))))))))))))))))))))))
    | with_unfolding_none apply hW.sub (inSkip (inSkip (inSkip (inSkip (inSkip (inSkip (inSkip (inSkip (inSkip (inSkip (inSkip (inSkip (inSkip (inSkip (inSkip (inSkip (inSkip (inSkip (inSkip (inSkip (inSkip (inSkip (inSkip (inSkip (inSkip (inSkip (inSkip (inSkip (inSkip (inSkip (OVF_DROPS_wide (inSkip (inSkip (inSkip (inSkip (inSkip (inSkip (inSkip (inSkip (inSkip (inSkip (inSkip (inSkip (inSkip (inSkip (inSkip (inBoth (inBoth inNil))))))))))))))))))))))))))))))))))))))))))))))))
    | with_unfolding_none apply hW.sub (inBoth (inBoth (inBoth (inBoth (inBoth (inSkip (inSkip (inSkip (inSkip (inSkip (inSkip (inSkip (inSkip (inSkip (inSkip (inSkip (inSkip (inSkip (inSkip (inSkip (inSkip (inSkip (inSkip (inSkip (inBoth (inBoth (inSkip (inBoth (inBoth (inSkip (inSkip (inBoth (inBoth (inBoth (inBoth (inBoth (inBoth (inBoth (inBoth (inBoth (inBoth (inBoth (inBoth (inBoth (inSkip (inSkip (inSkip (inSkip (inSkip (inSkip (inSkip (inBoth (inBoth (inBoth (inBoth (inBoth (inBoth (inBoth (inBoth (inBoth (inBoth (inBoth (inBoth (inBoth (inBoth (inBoth (inBoth (inBoth inNil))))))))))))))))))))))))))))))))))))))))))))))))))))))))))))))))))))
    | (with_reducible refine Within.trans ?_ hL; decide +kernel)
    | (extract_lets +onlyGivenNames letX; clear_value letX; revert letX; intro _)
    | with_reducible refine Leaves.ite ?_ ?_

theorem State.landOne_leaves {W : List Span} {L : List Part} {org s : State} (l : Landing) (h : Leaves W L org s)
    (hW : Inside (anyKey :: []) W) (hL : Within ([.barriers, .canQueue, .collector, .dieMsgs, .fences, .free, .heldWrites, .landing, .late, .out, .placing, .resp, .rings, .shadows, .signing, .staged] : List Part) L) :
    Leaves W L org (State.landOne s l) := by
  delta State.landOne
  repeat' first
    | with_reducible assumption
    | with_reducible apply State.setBlob_leaves
    | with_reducible apply State.landValue_leaves
    | with_reducible apply State.landAction_leaves
    | with_reducible apply State.actNow_leaves
    | with_reducible apply State.commitApplies_leaves
    | with_reducible apply State.lateArrives_leaves
    | with_reducible apply State.tenantResets_leaves
    | with_reducible apply State.foldHand_leaves
    | with_reducible apply State.unitStop_leaves
    | with_reducible apply State.unitStopLands_leaves
    | (with_unfolding_none refine hW.covers ?_; repeat first | with_unfolding_none exact dyn_in | with_unfolding_none refine Covered.next ?_)
    | with_unfolding_none apply hW.sub (inAny)
    | (with_reducible refine Within.trans ?_ hL; decide +kernel)
    | split
    | with_reducible refine Leaves.ofPair (by assumption) ?_

theorem State.landAll_leaves {W : List Span} {L : List Part} {org s : State} (h : Leaves W L org s)
    (hW : Inside (anyKey :: []) W) (hL : Within ([.barriers, .canQueue, .collector, .dieMsgs, .fences, .free, .heldWrites, .landing, .late, .out, .placing, .resp, .rings, .shadows, .signing, .staged] : List Part) L) :
    Leaves W L org (State.landAll s) := by
  delta State.landAll
  repeat' first
    | with_reducible assumption
    | with_reducible apply State.landOne_leaves
    | with_unfolding_none apply hW.sub (inAny)
    | (with_reducible refine Within.trans ?_ hL; decide +kernel)
    | (extract_lets +onlyGivenNames letX; have letT : True := (by clear_value letX; guard_hyp letX : State; trivial); clear letT; refine Leaves.cut (W := W) (L := L) (r := org) (v := letX) ?_ (fun letH => ?_); (focus subst letX); rotate_left; clear_value letX; revert letX; intro _ _)
    | with_reducible refine Leaves.ite ?_ ?_
    | with_reducible refine forEach_leaves ?_ (fun _ _ _ => ?_)
    | with_reducible refine Leaves.update ?_ ?_ ?_ ?_ ?_ ?_ ?_ ?_ ?_ ?_ ?_ ?_ ?_ ?_ ?_ ?_ ?_ ?_ ?_
    | with_reducible exact Or.inl rfl
    | with_reducible exact Or.inr (hL _ (by decide +kernel))

end Sys2Proof.Machine
end

