-- ==== Sys2Proof/Laws/FramesF.lean ====
section
/-!
SUPPORT. The frames of Digest, Measure, Frame, Access, Ports, HostRows, PortRows: what each definition leaves unchanged.
-/
namespace Sys2Proof.Machine

set_option Elab.async false

theorem State.sweepStart_leaves {W : List Span} {L : List Part} {org s : State} (h : Leaves W L org s)
    (hW : Inside (each SW_APPLIED :: one SW_AT :: one SW_DEVICE :: one SW_DIES :: each SW_EXPECT :: each SW_GEN :: one SW_GLOBAL :: one SW_RUNS :: each SW_TENANT :: []) W) :
    Leaves W L org (State.sweepStart s) := by
  delta State.sweepStart
  repeat' first
    | with_reducible assumption
    | with_reducible apply State.setN_leaves
    | (with_unfolding_none refine hW.covers ?_; repeat first | with_unfolding_none exact Covered.here | with_unfolding_none exact SW_APPLIED_in | with_unfolding_none exact SW_AT_in | with_unfolding_none exact SW_DEVICE_in | with_unfolding_none exact SW_DIES_in | with_unfolding_none exact SW_EXPECT_in | with_unfolding_none exact SW_GEN_in | with_unfolding_none exact SW_GLOBAL_in | with_unfolding_none exact SW_RUNS_in | with_unfolding_none exact SW_TENANT_in | with_unfolding_none refine Covered.next ?_)
    | (extract_lets +onlyGivenNames letX; have letT : True := (by clear_value letX; guard_hyp letX : State; trivial); clear letT; refine Leaves.cut (W := W) (L := L) (r := org) (v := letX) ?_ (fun letH => ?_); (focus subst letX); rotate_left; clear_value letX; revert letX; intro _ _)
    | (extract_lets +onlyGivenNames letX; clear_value letX; revert letX; intro _)
    | with_reducible refine Leaves.ite ?_ ?_
    | with_reducible refine forBelow_leaves ?_ (fun _ _ _ => ?_)

theorem State.diePublish_leaves {W : List Span} {L : List Part} {org s : State} (d applied expected : Nat) (kind : Kind) (h : Leaves W L org s)
    (hW : Inside (one (DIE_DIGEST.APPLIED_CD d) :: one (DIE_DIGEST.EXPECTED_CD d) :: []) W) (hL : Within ([.collector] : List Part) L) :
    Leaves W L org (State.diePublish s d applied expected kind) := by
  delta State.diePublish
  repeat' first
    | with_reducible assumption
    | with_reducible apply State.setN_leaves
    | with_reducible apply State.raise_leaves
    | (with_unfolding_none refine hW.covers ?_; repeat first | with_unfolding_none exact Covered.here | with_unfolding_none refine Covered.next ?_)
    | with_unfolding_none apply hW.sub (inNil)
    | (with_reducible refine Within.trans ?_ hL; decide +kernel)
    | (extract_lets +onlyGivenNames letX; have letT : True := (by clear_value letX; guard_hyp letX : State; trivial); clear letT; refine Leaves.cut (W := W) (L := L) (r := org) (v := letX) ?_ (fun letH => ?_); (focus subst letX); rotate_left; clear_value letX; revert letX; intro _ _)
    | with_reducible refine Leaves.ite ?_ ?_

theorem State.sweepEnd_leaves {W : List Span} {L : List Part} {org s : State} (upsets : List Nat) (h : Leaves W L org s)
    (hW : Inside (one DEVICE_DIGEST.DIGEST :: one DEVICE_DIGEST.DRIFT_EVENTS :: one DEVICE_DIGEST.SNAPSHOT_FRAME :: one DEVICE_DIGEST.SNAPSHOT_GENERATION :: one DEVICE_DIGEST.SWEEPS :: each DIE_DIGEST.APPLIED_CD :: each DIE_DIGEST.EXPECTED_CD :: each DRIFT_DUE :: one SW_DRIFT :: one SW_RUNS :: each TENANT_DIGEST.DIGEST_TN :: each TENANT_GENERATION.SNAP_GEN_TN :: []) W) (hL : Within ([.collector] : List Part) L) :
    Leaves W L org (State.sweepEnd s upsets) := by
  delta State.sweepEnd
  repeat' first
    | with_reducible assumption
    | with_reducible apply State.setN_leaves
    | with_reducible apply State.count_leaves
    | with_reducible apply State.wrapCount_leaves
    | with_reducible apply State.diePublish_leaves
    | (with_unfolding_none refine hW.covers ?_; repeat first | with_unfolding_none exact Covered.here | with_unfolding_none exact DEVICE_DIGEST.DIGEST_in | with_unfolding_none exact DEVICE_DIGEST.DRIFT_EVENTS_in | with_unfolding_none exact DEVICE_DIGEST.SNAPSHOT_FRAME_in | with_unfolding_none exact DEVICE_DIGEST.SNAPSHOT_GENERATION_in | with_unfolding_none exact DEVICE_DIGEST.SWEEPS_in | with_unfolding_none exact DRIFT_DUE_in | with_unfolding_none exact SW_DRIFT_in | with_unfolding_none exact SW_RUNS_in | with_unfolding_none exact TENANT_DIGEST.DIGEST_TN_in | with_unfolding_none exact TENANT_GENERATION.SNAP_GEN_TN_in | with_unfolding_none refine Covered.next ?_)
    | with_unfolding_none apply hW.sub (inSkip (inSkip (inSkip (inSkip (inSkip (DIE_DIGEST.APPLIED_CD_wide (inSkip (DIE_DIGEST.EXPECTED_CD_wide inNil))))))))
    | (with_reducible refine Within.trans ?_ hL; decide +kernel)
    | (extract_lets +onlyGivenNames letX; have letT : True := (by clear_value letX; guard_hyp letX : State; trivial); clear letT; refine Leaves.cut (W := W) (L := L) (r := org) (v := letX) ?_ (fun letH => ?_); (focus subst letX); rotate_left; clear_value letX; revert letX; intro _ _)
    | (extract_lets +onlyGivenNames letX; clear_value letX; revert letX; intro _)
    | with_reducible refine Leaves.ite ?_ ?_
    | with_reducible refine forBelow_leaves ?_ (fun _ _ _ => ?_)

theorem State.dieRecheck_leaves {W : List Span} {L : List Part} {org s : State} (d upset : Nat) (h : Leaves W L org s)
    (hW : Inside (one (DIE_DIGEST.APPLIED_CD d) :: one (DIE_DIGEST.EXPECTED_CD d) :: one (DRIFT_DUE d) :: []) W) (hL : Within ([.collector] : List Part) L) :
    Leaves W L org (State.dieRecheck s d upset) := by
  delta State.dieRecheck
  repeat' first
    | with_reducible assumption
    | with_reducible apply State.setN_leaves
    | with_reducible apply State.diePublish_leaves
    | (with_unfolding_none refine hW.covers ?_; repeat first | with_unfolding_none exact Covered.here | with_unfolding_none refine Covered.next ?_)
    | with_unfolding_none apply hW.sub (inBoth (inBoth inNil))
    | (with_reducible refine Within.trans ?_ hL; decide +kernel)
    | with_reducible refine Leaves.ite ?_ ?_

theorem execAuditSweepStart_frame {W : List Span} {L : List Part} {org s : State} (h : Leaves W L org s)
    (hW : Inside (each SW_APPLIED :: one SW_AT :: one SW_DEVICE :: one SW_DIES :: each SW_EXPECT :: each SW_GEN :: one SW_GLOBAL :: one SW_RUNS :: each SW_TENANT :: []) W)
    : RunsIn W L org (execAuditSweepStart s) := by
  delta execAuditSweepStart
  repeat' first
    | with_reducible assumption
    | with_reducible refine RunsIn.next ?_
    | with_reducible apply State.sweepStart_leaves
    | with_unfolding_none apply hW.sub (inBoth (inBoth (inBoth (inBoth (inBoth (inBoth (inBoth (inBoth (inBoth inNil)))))))))

theorem execAuditSweepEnd_frame {W : List Span} {L : List Part} {org s : State} (upsets : List Nat) (h : Leaves W L org s)
    (hW : Inside (one DEVICE_DIGEST.DIGEST :: one DEVICE_DIGEST.DRIFT_EVENTS :: one DEVICE_DIGEST.SNAPSHOT_FRAME :: one DEVICE_DIGEST.SNAPSHOT_GENERATION :: one DEVICE_DIGEST.SWEEPS :: each DIE_DIGEST.APPLIED_CD :: each DIE_DIGEST.EXPECTED_CD :: each DRIFT_DUE :: one SW_DRIFT :: one SW_RUNS :: each TENANT_DIGEST.DIGEST_TN :: each TENANT_GENERATION.SNAP_GEN_TN :: []) W)
    (hL : Within ([.collector] : List Part) L) : RunsIn W L org (execAuditSweepEnd upsets s) := by
  delta execAuditSweepEnd
  repeat' first
    | with_reducible assumption
    | with_reducible refine RunsIn.next ?_
    | with_reducible apply State.sweepEnd_leaves
    | with_unfolding_none apply hW.sub (inBoth (inBoth (inBoth (inBoth (inBoth (inBoth (inBoth (inBoth (inBoth (inBoth (inBoth (inBoth inNil))))))))))))

theorem execDieRecheck_frame {W : List Span} {L : List Part} {org s : State} (d : Die) (upset : Nat) (h : Leaves W L org s)
    (hW : Inside (one (DIE_DIGEST.APPLIED_CD d.val) :: one (DIE_DIGEST.EXPECTED_CD d.val) :: one (DRIFT_DUE d.val) :: []) W)
    (hL : Within ([.collector] : List Part) L) : RunsIn W L org (execDieRecheck d upset s) := by
  delta execDieRecheck
  repeat' first
    | with_reducible assumption
    | with_reducible refine RunsIn.next ?_
    | with_reducible apply State.dieRecheck_leaves
    | with_unfolding_none apply hW.sub (inBoth (inBoth (inBoth inNil)))

theorem State.overrange_leaves {W : List Span} {L : List Part} {org s : State} (n : Nat) (i : Int) (h : Leaves W L org s)
    (hW : Inside (one (OVER_NOW n) :: []) W) (hL : Within ([.dieMsgs] : List Part) L) :
    Leaves W L org (State.overrange s n i) := by
  delta State.overrange
  repeat' first
    | with_reducible assumption
    | with_reducible apply State.setN_leaves
    | with_reducible apply State.raiseChannel_leaves
    | (with_unfolding_none refine hW.covers ?_; repeat first | with_unfolding_none exact Covered.here | with_unfolding_none refine Covered.next ?_)
    | with_unfolding_none apply hW.sub (inNil)
    | (with_reducible refine Within.trans ?_ hL; decide +kernel)
    | (extract_lets +onlyGivenNames letX; have letT : True := (by clear_value letX; guard_hyp letX : State; trivial); clear letT; refine Leaves.cut (W := W) (L := L) (r := org) (v := letX) ?_ (fun letH => ?_); (focus subst letX); rotate_left; clear_value letX; revert letX; intro _ _)
    | with_reducible refine Leaves.ite ?_ ?_

theorem State.pwmSample_leaves {W : List Span} {L : List Part} {org s : State} (n : Nat) (i : Int) (h : Leaves W L org s)
    (hW : Inside (one (PWM_CNT n) :: one (PWM_SQ n) :: []) W) :
    Leaves W L org (State.pwmSample s n i) := by
  delta State.pwmSample
  repeat' first
    | with_reducible assumption
    | with_reducible apply State.setN_leaves
    | (with_unfolding_none refine hW.covers ?_; repeat first | with_unfolding_none exact Covered.here | with_unfolding_none refine Covered.next ?_)
    | with_reducible refine Leaves.ite ?_ ?_

theorem State.sampleChannel_leaves {W : List Span} {L : List Part} {org s : State} (n r : Nat) (vsh vload : Int) (h : Leaves W L org s)
    (hW : Inside (one (OVER_NOW n) :: one (PWM_CNT n) :: one (PWM_SQ n) :: each RESET_OUTPUT.ASSERT_COUNT :: each RESET_OUTPUT.LAST_CHANGE_STAMP :: each RESET_OUTPUT.OUTPUT :: each RSO_GOOD_SINCE :: one (SAMPLE_I n r) :: one (SAMPLE_V n r) :: one (SLOT_SKIPPED n) :: one (WIN n) :: each2 WIN_ACC :: each2 WIN_COUNT :: one (WIN_LAST n) :: []) W) (hL : Within ([.collector, .dieMsgs] : List Part) L) :
    Leaves W L org (State.sampleChannel s n r vsh vload) := by
  delta State.sampleChannel
  repeat' first
    | with_reducible assumption
    | with_reducible apply State.set_leaves
    | with_reducible apply State.setBit_leaves
    | with_reducible apply State.overrange_leaves
    | with_reducible apply State.pwmSample_leaves
    | with_reducible apply State.judgeRound_leaves
    | (with_unfolding_none refine hW.covers ?_; repeat first | with_unfolding_none exact Covered.here | with_unfolding_none refine Covered.next ?_)
    | with_unfolding_none apply hW.sub (inBoth inNil)
    | with_unfolding_none apply hW.sub (inSkip (inBoth (inBoth inNil)))
    | with_unfolding_none apply hW.sub (inSkip (inSkip (inSkip (inBoth (inBoth (inBoth (inBoth (inSkip (inSkip (inSkip (inBoth (inBoth (inBoth (inBoth inNil))))))))))))))
    | (with_reducible refine Within.trans ?_ hL; decide +kernel)
    | (extract_lets +onlyGivenNames letX; have letT : True := (by clear_value letX; guard_hyp letX : State; trivial); clear letT; refine Leaves.cut (W := W) (L := L) (r := org) (v := letX) ?_ (fun letH => ?_); (focus subst letX); rotate_left; clear_value letX; revert letX; intro _ _)
    | (extract_lets +onlyGivenNames letX; clear_value letX; revert letX; intro _)
    | with_reducible refine Leaves.ite ?_ ?_

theorem State.captureRound_leaves {W : List Span} {L : List Part} {org s : State} (k r : Nat) (vsh vload : List Int) (vbus : Int) (h : Leaves W L org s)
    (hW : Inside (each2 CAP_RING :: []) W) :
    Leaves W L org (State.captureRound s k r vsh vload vbus) := by
  delta State.captureRound
  repeat' first
    | with_reducible assumption
    | with_reducible apply State.capturePush_leaves
    | with_unfolding_none apply hW.sub (CAP_RING_wide inNil)
    | (extract_lets +onlyGivenNames letX; clear_value letX; revert letX; intro _)
    | with_reducible refine forBelow_leaves ?_ (fun _ _ _ => ?_)
    | split
    | with_reducible refine Leaves.ofPair (by assumption) ?_

theorem State.sagTest_leaves {W : List Span} {L : List Part} {org s : State} (k : Nat) (vbus : Int) (h : Leaves W L org s)
    (hW : Inside (one (BANK.BANK_FLAGS k) :: each BLANK_UNTIL :: each CHANNEL_PROTECTION.MODEL_FLAGS :: each GATE :: each LAMP_AT :: each PWM_HELD :: each PWM_HIGH :: each RISE_AT :: []) W) (hL : Within ([.dieMsgs] : List Part) L) :
    Leaves W L org (State.sagTest s k vbus) := by
  delta State.sagTest
  repeat' first
    | with_reducible assumption
    | with_reducible apply State.setBit_leaves
    | with_reducible apply State.bankPauses_leaves
    | with_reducible apply State.raiseDie_leaves
    | (with_unfolding_none refine hW.covers ?_; repeat first | with_unfolding_none exact Covered.here | with_unfolding_none refine Covered.next ?_)
    | with_unfolding_none apply hW.sub (inSkip (inBoth (inBoth (inBoth (inBoth (inBoth (inBoth (inBoth inNil))))))))
    | with_unfolding_none apply hW.sub (inNil)
    | (with_reducible refine Within.trans ?_ hL; decide +kernel)
    | (extract_lets +onlyGivenNames letX; have letT : True := (by clear_value letX; guard_hyp letX : State; trivial); clear letT; refine Leaves.cut (W := W) (L := L) (r := org) (v := letX) ?_ (fun letH => ?_); (focus subst letX); rotate_left; clear_value letX; revert letX; intro _ _)
    | (extract_lets +onlyGivenNames letX; clear_value letX; revert letX; intro _)
    | with_reducible refine Leaves.ite ?_ ?_

theorem State.sampleBus_leaves {W : List Span} {L : List Part} {org s : State} (k : Nat) (vbus headroom : Int) (h : Leaves W L org s)
    (hW : Inside (one (BANK.BANK_FLAGS k) :: each BLANK_UNTIL :: each CHANNEL_PROTECTION.MODEL_FLAGS :: each GATE :: one (HEAD_LAST k) :: each2 HEAD_SUM :: each LAMP_AT :: one (PUMP_START k) :: one (PUMP_STOP_AT k) :: each PWM_HELD :: each PWM_HIGH :: each RISE_AT :: each2 VBUS_CNT :: one (VBUS_LAST k) :: each2 VBUS_SUM :: []) W) (hL : Within ([.dieMsgs] : List Part) L) :
    Leaves W L org (State.sampleBus s k vbus headroom) := by
  delta State.sampleBus
  repeat' first
    | with_reducible assumption
    | with_reducible apply State.set_leaves
    | with_reducible apply State.setN_leaves
    | with_reducible apply State.pumpUpdate_leaves
    | with_reducible apply State.sagTest_leaves
    | (with_unfolding_none refine hW.covers ?_; repeat first | with_unfolding_none exact Covered.here | with_unfolding_none exact HEAD_SUM_in | with_unfolding_none exact VBUS_CNT_in | with_unfolding_none exact VBUS_SUM_in | with_unfolding_none refine Covered.next ?_)
    | with_unfolding_none apply hW.sub (inBoth (inSkip (inSkip (inSkip (inSkip (inSkip (inSkip (inBoth (inBoth inNil)))))))))
    | with_unfolding_none apply hW.sub (inBoth (inBoth (inBoth (inBoth (inSkip (inSkip (inBoth (inSkip (inSkip (inBoth (inBoth (inBoth inNil))))))))))))
    | (with_reducible refine Within.trans ?_ hL; decide +kernel)
    | (extract_lets +onlyGivenNames letX; have letT : True := (by clear_value letX; guard_hyp letX : State; trivial); clear letT; refine Leaves.cut (W := W) (L := L) (r := org) (v := letX) ?_ (fun letH => ?_); (focus subst letX); rotate_left; clear_value letX; revert letX; intro _ _)
    | (extract_lets +onlyGivenNames letX; clear_value letX; revert letX; intro _)

theorem State.sampleSwitch_leaves {W : List Span} {L : List Part} {org s : State} (bswb bswn asv : Int) (h : Leaves W L org s)
    (hW : Inside (one BATTERY_SWITCH.FORWARD :: each BSW_CNT :: each2 BSW_SUM :: one SW_ON_AT :: []) W) :
    Leaves W L org (State.sampleSwitch s bswb bswn asv) := by
  delta State.sampleSwitch
  repeat' first
    | with_reducible assumption
    | with_reducible apply State.set_leaves
    | with_reducible apply State.setN_leaves
    | with_reducible apply State.swRound_leaves
    | (with_unfolding_none refine hW.covers ?_; repeat first | with_unfolding_none exact Covered.here | with_unfolding_none exact BSW_CNT_in | with_unfolding_none exact BSW_SUM_in | with_unfolding_none refine Covered.next ?_)
    | with_unfolding_none apply hW.sub (inBoth (inSkip (inSkip (inBoth inNil))))
    | (extract_lets +onlyGivenNames letX; clear_value letX; revert letX; intro _)

theorem State.round_leaves {W : List Span} {L : List Part} {org s : State} (k : Nat) (vsh vload : List Int) (vbus headroom bswb bswn asv : Int) (h : Leaves W L org s)
    (hW : Inside (one (BANK.BANK_FLAGS k) :: one BATTERY_SWITCH.FORWARD :: each BLANK_UNTIL :: each BSW_CNT :: each2 BSW_SUM :: each2 CAP_RING :: each CHANNEL_PROTECTION.MODEL_FLAGS :: each GATE :: one (HEAD_LAST k) :: each2 HEAD_SUM :: each LAMP_AT :: each OVER_NOW :: one (PUMP_START k) :: one (PUMP_STOP_AT k) :: each PWM_CNT :: each PWM_HELD :: each PWM_HIGH :: each PWM_SQ :: each RESET_OUTPUT.ASSERT_COUNT :: each RESET_OUTPUT.LAST_CHANGE_STAMP :: each RESET_OUTPUT.OUTPUT :: each RISE_AT :: one (ROUND_NO k) :: each RSO_GOOD_SINCE :: each2 SAMPLE_I :: each2 SAMPLE_V :: each SLOT_SKIPPED :: one SW_ON_AT :: each2 VBUS_CNT :: one (VBUS_LAST k) :: each2 VBUS_SUM :: each WIN :: each2 WIN_ACC :: each2 WIN_COUNT :: each WIN_LAST :: []) W) (hL : Within ([.collector, .dieMsgs] : List Part) L) :
    Leaves W L org (State.round s k vsh vload vbus headroom bswb bswn asv) := by
  delta State.round
  repeat' first
    | with_reducible assumption
    | with_reducible apply State.setN_leaves
    | with_reducible apply State.sampleChannel_leaves
    | with_reducible apply State.sampleBus_leaves
    | with_reducible apply State.captureRound_leaves
    | with_reducible apply State.sampleSwitch_leaves
    | (with_unfolding_none refine hW.covers ?_; repeat first | with_unfolding_none exact Covered.here | with_unfolding_none refine Covered.next ?_)
    | with_unfolding_none apply hW.sub (inSkip (inSkip (inSkip (inSkip (inSkip (inSkip (inSkip (inSkip (inSkip (inSkip (inSkip (OVER_NOW_wide (inSkip (inSkip (inSkip (PWM_CNT_wide (inSkip (inSkip (inSkip (PWM_SQ_wide (inSkip (inBoth (inBoth (inBoth (inSkip (inSkip (inBoth (SAMPLE_I_wide (inSkip (SAMPLE_V_wide (inSkip (SLOT_SKIPPED_wide (inSkip (inSkip (inSkip (inSkip (inSkip (WIN_wide (inSkip (inBoth (inBoth (WIN_LAST_wide inNil))))))))))))))))))))))))))))))))))))))))))
    | with_unfolding_none apply hW.sub (inBoth (inSkip (inBoth (inSkip (inSkip (inSkip (inBoth (inBoth (inBoth (inBoth (inBoth (inSkip (inBoth (inBoth (inSkip (inBoth (inBoth (inSkip (inSkip (inSkip (inSkip (inBoth (inSkip (inSkip (inSkip (inSkip (inSkip (inSkip (inBoth (inBoth (inBoth inNil)))))))))))))))))))))))))))))))
    | with_unfolding_none apply hW.sub (inSkip (inSkip (inSkip (inSkip (inSkip (inBoth inNil))))))
    | with_unfolding_none apply hW.sub (inSkip (inBoth (inSkip (inBoth (inBoth (inSkip (inSkip (inSkip (inSkip (inSkip (inSkip (inSkip (inSkip (inSkip (inSkip (inSkip (inSkip (inSkip (inSkip (inSkip (inSkip (inSkip (inSkip (inSkip (inSkip (inSkip (inSkip (inBoth inNil))))))))))))))))))))))))))))
    | (with_reducible refine Within.trans ?_ hL; decide +kernel)
    | (extract_lets +onlyGivenNames letX; have letT : True := (by clear_value letX; guard_hyp letX : State; trivial); clear letT; refine Leaves.cut (W := W) (L := L) (r := org) (v := letX) ?_ (fun letH => ?_); (focus subst letX); rotate_left; clear_value letX; revert letX; intro _ _)
    | (extract_lets +onlyGivenNames letX; clear_value letX; revert letX; intro _)
    | with_reducible refine Leaves.ite ?_ ?_
    | with_reducible refine forBelow_leaves ?_ (fun _ _ _ => ?_)

theorem execMeasurementRound_frame {W : List Span} {L : List Part} {org s : State} (k : Bank) (vsh vload : List Int) (vbus headroom bswb bswn asv : Int) (h : Leaves W L org s)
    (hW : Inside (one (BANK.BANK_FLAGS k.val) :: one BATTERY_SWITCH.FORWARD :: each BLANK_UNTIL :: each BSW_CNT :: each2 BSW_SUM :: each2 CAP_RING :: each CHANNEL_PROTECTION.MODEL_FLAGS :: each GATE :: one (HEAD_LAST k.val) :: each2 HEAD_SUM :: each LAMP_AT :: each OVER_NOW :: one (PUMP_START k.val) :: one (PUMP_STOP_AT k.val) :: each PWM_CNT :: each PWM_HELD :: each PWM_HIGH :: each PWM_SQ :: each RESET_OUTPUT.ASSERT_COUNT :: each RESET_OUTPUT.LAST_CHANGE_STAMP :: each RESET_OUTPUT.OUTPUT :: each RISE_AT :: one (ROUND_NO k.val) :: each RSO_GOOD_SINCE :: each2 SAMPLE_I :: each2 SAMPLE_V :: each SLOT_SKIPPED :: one SW_ON_AT :: each2 VBUS_CNT :: one (VBUS_LAST k.val) :: each2 VBUS_SUM :: each WIN :: each2 WIN_ACC :: each2 WIN_COUNT :: each WIN_LAST :: []) W)
    (hL : Within ([.collector, .dieMsgs] : List Part) L) : RunsIn W L org (execMeasurementRound k vsh vload vbus headroom bswb bswn asv s) := by
  delta execMeasurementRound
  repeat' first
    | with_reducible assumption
    | with_reducible refine RunsIn.next ?_
    | with_reducible apply State.round_leaves
    | with_unfolding_none apply hW.sub (inBoth (inBoth (inBoth (inBoth (inBoth (inBoth (inBoth (inBoth (inBoth (inBoth (inBoth (inBoth (inBoth (inBoth (inBoth (inBoth (inBoth (inBoth (inBoth (inBoth (inBoth (inBoth (inBoth (inBoth (inBoth (inBoth (inBoth (inBoth (inBoth (inBoth (inBoth (inBoth (inBoth (inBoth (inBoth inNil)))))))))))))))))))))))))))))))))))

theorem State.frameSums_leaves {W : List Span} {L : List Part} {org s : State} (n : Nat) (h : Leaves W L org s)
    (hW : Inside (one (FRAMES_SEEN n) :: each2 SUM_CNT :: each2 SUM_CNTV :: each2 SUM_I :: each2 SUM_SQ :: each2 SUM_V :: []) W) :
    Leaves W L org (State.frameSums s n) := by
  delta State.frameSums
  repeat' first
    | with_reducible assumption
    | with_reducible apply State.set_leaves
    | with_reducible apply State.setN_leaves
    | (with_unfolding_none refine hW.covers ?_; repeat first | with_unfolding_none exact Covered.here | with_unfolding_none exact SUM_CNT_in | with_unfolding_none exact SUM_CNTV_in | with_unfolding_none exact SUM_I_in | with_unfolding_none exact SUM_SQ_in | with_unfolding_none exact SUM_V_in | with_unfolding_none refine Covered.next ?_)
    | (extract_lets +onlyGivenNames letX; have letT : True := (by clear_value letX; guard_hyp letX : State; trivial); clear letT; refine Leaves.cut (W := W) (L := L) (r := org) (v := letX) ?_ (fun letH => ?_); (focus subst letX); rotate_left; clear_value letX; revert letX; intro _ _)
    | (extract_lets +onlyGivenNames letX; clear_value letX; revert letX; intro _)
    | with_reducible refine Leaves.ite ?_ ?_

theorem State.putSummary_leaves {W : List Span} {L : List Part} {org s : State} (n : Nat) (l : List Int) (h : Leaves W L org s)
    (hW : Inside (each2 SUMMARY :: []) W) :
    Leaves W L org (State.putSummary s n l) := by
  delta State.putSummary
  repeat' first
    | with_reducible assumption
    | with_reducible apply State.set_leaves
    | (with_unfolding_none refine hW.covers ?_; repeat first | with_unfolding_none exact Covered.here | with_unfolding_none exact SUMMARY_in | with_unfolding_none refine Covered.next ?_)
    | with_reducible refine forBelow_leaves ?_ (fun _ _ _ => ?_)

theorem State.channelFrameEnds_leaves {W : List Span} {L : List Part} {org s : State} (n : Nat) (h : Leaves W L org s)
    (hW : Inside (one (FRAMES_SEEN n) :: one (OVER_AT n) :: one (OVER_NOW n) :: one (SLOT_SKIPPED n) :: each2 SUMMARY :: each2 SUM_CNT :: each2 SUM_CNTV :: each2 SUM_I :: each2 SUM_SQ :: each2 SUM_V :: []) W) :
    Leaves W L org (State.channelFrameEnds s n) := by
  delta State.channelFrameEnds
  repeat' first
    | with_reducible assumption
    | with_reducible apply State.setN_leaves
    | with_reducible apply State.frameSums_leaves
    | with_reducible apply State.putSummary_leaves
    | (with_unfolding_none refine hW.covers ?_; repeat first | with_unfolding_none exact Covered.here | with_unfolding_none refine Covered.next ?_)
    | with_unfolding_none apply hW.sub (inBoth (inSkip (inSkip (inSkip (inSkip (inBoth (inBoth (inBoth (inBoth (inBoth inNil))))))))))
    | with_unfolding_none apply hW.sub (inSkip (inSkip (inSkip (inSkip (inBoth inNil)))))
    | (extract_lets +onlyGivenNames letX; have letT : True := (by clear_value letX; guard_hyp letX : State; trivial); clear letT; refine Leaves.cut (W := W) (L := L) (r := org) (v := letX) ?_ (fun letH => ?_); (focus subst letX); rotate_left; clear_value letX; revert letX; intro _ _)
    | with_reducible refine Leaves.ite ?_ ?_

theorem State.bankFrameBegins_leaves {W : List Span} {L : List Part} {org s : State} (k : Nat) (h : Leaves W L org s)
    (hW : Inside (each BSW_CNT :: each2 BSW_SUM :: each2 HEAD_SUM :: one (ROUND_NO k) :: each2 VBUS_CNT :: each2 VBUS_SUM :: []) W) :
    Leaves W L org (State.bankFrameBegins s k) := by
  delta State.bankFrameBegins
  repeat' first
    | with_reducible assumption
    | with_reducible apply State.setN_leaves
    | (with_unfolding_none refine hW.covers ?_; repeat first | with_unfolding_none exact Covered.here | with_unfolding_none exact BSW_CNT_in | with_unfolding_none exact BSW_SUM_in | with_unfolding_none exact HEAD_SUM_in | with_unfolding_none exact VBUS_CNT_in | with_unfolding_none exact VBUS_SUM_in | with_unfolding_none refine Covered.next ?_)
    | (extract_lets +onlyGivenNames letX; have letT : True := (by clear_value letX; guard_hyp letX : State; trivial); clear letT; refine Leaves.cut (W := W) (L := L) (r := org) (v := letX) ?_ (fun letH => ?_); (focus subst letX); rotate_left; clear_value letX; revert letX; intro _ _)
    | (extract_lets +onlyGivenNames letX; clear_value letX; revert letX; intro _)
    | with_reducible refine Leaves.ite ?_ ?_
    | with_reducible refine forBelow_leaves ?_ (fun _ _ _ => ?_)

theorem State.bankFrameEnds_leaves {W : List Span} {L : List Part} {org s : State} (k : Nat) (h : Leaves W L org s)
    (hW : Inside (each2 SUMMARY :: []) W) :
    Leaves W L org (State.bankFrameEnds s k) := by
  delta State.bankFrameEnds
  repeat' first
    | with_reducible assumption
    | with_reducible apply State.putSummary_leaves
    | with_unfolding_none apply hW.sub (inBoth inNil)
    | (extract_lets +onlyGivenNames letX; have letT : True := (by clear_value letX; guard_hyp letX : State; trivial); clear letT; refine Leaves.cut (W := W) (L := L) (r := org) (v := letX) ?_ (fun letH => ?_); (focus subst letX); rotate_left; clear_value letX; revert letX; intro _ _)
    | (extract_lets +onlyGivenNames letX; clear_value letX; revert letX; intro _)
    | with_reducible refine Leaves.ite ?_ ?_

theorem State.dieFrameEnds_leaves {W : List Span} {L : List Part} {org s : State} (d : Nat) (h : Leaves W L org s)
    (hW : Inside (each ADMIT_KIND :: each ADMIT_SINCE :: each BANK.BANK_FLAGS :: each BSW_CNT :: each2 BSW_SUM :: each CAP_SEEN :: each CELL :: each CHANNEL_PROTECTION.ADMIT_WAIT :: each CHANNEL_PROTECTION.MODEL_FLAGS :: each CHANNEL_STATUS.FLAGS :: each CHANNEL_STATUS.STANDING_GATE :: each CHANNEL_STATUS.STATE :: each CHANNEL_STATUS.TRIP_CAUSE :: each CHANNEL_SUPERVISION.HARD_TRIPS :: each CHANNEL_SUPERVISION.MODEL_TRIPS :: each CHANNEL_SUPERVISION.TIMEOUT_TRIPS :: each FET1 :: each FET2 :: each FET_NOW :: each FRAMES_SEEN :: each GATE :: each2 HEAD_SUM :: each LAMP_LOW :: each LAMP_TOLD :: each LATCH :: each LIFE_NEW :: each LIMIT_EPISODE :: each LIMIT_LEFT :: each LIMIT_SINCE :: each LIMIT_SPENT :: each OVER_AT :: each OVER_NOW :: each PEND :: each PUMP_START :: each PUMP_STOP_AT :: each PWM_HIGH :: each RESET_OUTPUT.ASSERT_COUNT :: each RESET_OUTPUT.LAST_CHANGE_STAMP :: each RESET_OUTPUT.OUTPUT :: each ROUND_NO :: each RSO_GOOD_SINCE :: each RUN_SINCE :: each RUN_SPENT :: each SLOT_SKIPPED :: each STAND_EVENTS :: each START_AT :: each2 SUMMARY :: each2 SUM_CNT :: each2 SUM_CNTV :: each2 SUM_I :: each2 SUM_SQ :: each2 SUM_V :: each TRIP_FRAME :: each TRIP_STATE :: each2 VBUS_CNT :: each2 VBUS_SUM :: each WAIT_END :: each WIN :: each WIRE1 :: each WIRE2 :: each WIRE_NOW :: []) W) (hL : Within ([.collector, .dieMsgs, .free, .shadows, .staged] : List Part) L) :
    Leaves W L org (State.dieFrameEnds s d) := by
  delta State.dieFrameEnds
  repeat' first
    | with_reducible assumption
    | with_reducible apply State.bankFrameEnds_leaves
    | with_reducible apply State.modelUpdate_leaves
    | with_reducible apply State.channelFrameEnds_leaves
    | with_reducible apply State.bankFrameBegins_leaves
    | with_unfolding_none apply hW.sub (inSkip (inSkip (inSkip (inSkip (inSkip (inSkip (inSkip (inSkip (inSkip (inSkip (inSkip (inSkip (inSkip (inSkip (inSkip (inSkip (inSkip (inSkip (inSkip (inSkip (inSkip (inSkip (inSkip (inSkip (inSkip (inSkip (inSkip (inSkip (inSkip (inSkip (inSkip (inSkip (inSkip (inSkip (inSkip (inSkip (inSkip (inSkip (inSkip (inSkip (inSkip (inSkip (inSkip (inSkip (inSkip (inSkip (inBoth inNil)))))))))))))))))))))))))))))))))))))))))))))))
    | with_unfolding_none apply hW.sub (ADMIT_KIND_wide (inSkip (ADMIT_SINCE_wide (inSkip (BANK.BANK_FLAGS_wide (inSkip (inSkip (inSkip (inBoth (CELL_wide (inSkip (CHANNEL_PROTECTION.ADMIT_WAIT_wide (inSkip (CHANNEL_PROTECTION.MODEL_FLAGS_wide (inSkip (CHANNEL_STATUS.FLAGS_wide (inSkip (CHANNEL_STATUS.STANDING_GATE_wide (inSkip (CHANNEL_STATUS.STATE_wide (inSkip (CHANNEL_STATUS.TRIP_CAUSE_wide (inSkip (CHANNEL_SUPERVISION.HARD_TRIPS_wide (inSkip (CHANNEL_SUPERVISION.MODEL_TRIPS_wide (inSkip (CHANNEL_SUPERVISION.TIMEOUT_TRIPS_wide (inSkip (FET1_wide (inSkip (FET2_wide (inSkip (FET_NOW_wide (inSkip (inSkip (GATE_wide (inSkip (inSkip (LAMP_LOW_wide (inSkip (LAMP_TOLD_wide (inSkip (LATCH_wide (inSkip (LIFE_NEW_wide (inSkip (LIMIT_EPISODE_wide (inSkip (LIMIT_LEFT_wide (inSkip (LIMIT_SINCE_wide (inSkip (LIMIT_SPENT_wide (inSkip (inSkip (inSkip (PEND_wide (inSkip (PUMP_START_wide (inSkip (PUMP_STOP_AT_wide (inSkip (PWM_HIGH_wide (inSkip (inBoth (inBoth (inBoth (inSkip (inBoth (RUN_SINCE_wide (inSkip (RUN_SPENT_wide (inSkip (inSkip (STAND_EVENTS_wide (inSkip (START_AT_wide (inSkip (inSkip (inSkip (inSkip (inSkip (inSkip (inSkip (TRIP_FRAME_wide (inSkip (TRIP_STATE_wide (inSkip (inSkip (inSkip (WAIT_END_wide (inSkip (WIN_wide (inSkip (WIRE1_wide (inSkip (WIRE2_wide (inSkip (WIRE_NOW_wide inNil))))))))))))))))))))))))))))))))))))))))))))))))))))))))))))))))))))))))))))))))))))))))))))))))))))
    | with_unfolding_none apply hW.sub (inSkip (inSkip (inSkip (inSkip (inSkip (inSkip (inSkip (inSkip (inSkip (inSkip (inSkip (inSkip (inSkip (inSkip (inSkip (inSkip (inSkip (inSkip (inSkip (FRAMES_SEEN_wide (inSkip (inSkip (inSkip (inSkip (inSkip (inSkip (inSkip (inSkip (inSkip (inSkip (inSkip (OVER_AT_wide (inSkip (OVER_NOW_wide (inSkip (inSkip (inSkip (inSkip (inSkip (inSkip (inSkip (inSkip (inSkip (inSkip (inSkip (inSkip (SLOT_SKIPPED_wide (inSkip (inSkip (inSkip (inBoth (inBoth (inBoth (inBoth (inBoth (inBoth inNil))))))))))))))))))))))))))))))))))))))))))))))))))))))))
    | with_unfolding_none apply hW.sub (inSkip (inSkip (inSkip (inBoth (inBoth (inSkip (inSkip (inSkip (inSkip (inSkip (inSkip (inSkip (inSkip (inSkip (inSkip (inSkip (inSkip (inSkip (inSkip (inSkip (inSkip (inBoth (inSkip (inSkip (inSkip (inSkip (inSkip (inSkip (inSkip (inSkip (inSkip (inSkip (inSkip (inSkip (inSkip (inSkip (inSkip (inSkip (inSkip (ROUND_NO_wide (inSkip (inSkip (inSkip (inSkip (inSkip (inSkip (inSkip (inSkip (inSkip (inSkip (inSkip (inSkip (inSkip (inSkip (inSkip (inBoth (inBoth inNil)))))))))))))))))))))))))))))))))))))))))))))))))))))))))
    | (with_reducible refine Within.trans ?_ hL; decide +kernel)
    | (extract_lets +onlyGivenNames letX; have letT : True := (by clear_value letX; guard_hyp letX : State; trivial); clear letT; refine Leaves.cut (W := W) (L := L) (r := org) (v := letX) ?_ (fun letH => ?_); (focus subst letX); rotate_left; clear_value letX; revert letX; intro _ _)
    | with_reducible refine Leaves.ite ?_ ?_
    | with_reducible refine forEach_leaves ?_ (fun _ _ _ => ?_)
    | with_reducible refine forBelow_leaves ?_ (fun _ _ _ => ?_)

theorem State.takePeak_leaves {W : List Span} {L : List Part} {org s : State} (k : Nat) (v : Int) (h : Leaves W L org s) (hk : Covered W k) :
    Leaves W L org (State.takePeak s k v) := by
  delta State.takePeak
  repeat' first
    | with_reducible assumption
    | with_reducible apply State.set_leaves
    | with_reducible exact hk
    | with_reducible refine Leaves.ite ?_ ?_

theorem State.lampFrame_leaves {W : List Span} {L : List Part} {org s : State} (n : Nat) (h : Leaves W L org s)
    (hW : Inside (one (LAMP_LOW n) :: []) W) :
    Leaves W L org (State.lampFrame s n) := by
  delta State.lampFrame
  repeat' first
    | with_reducible assumption
    | with_reducible apply State.setN_leaves
    | with_reducible apply State.count_leaves
    | (with_unfolding_none refine hW.covers ?_; repeat first | with_unfolding_none exact Covered.here | with_unfolding_none refine Covered.next ?_)
    | (extract_lets +onlyGivenNames letX; clear_value letX; revert letX; intro _)
    | with_reducible refine Leaves.ite ?_ ?_

theorem State.dischargeSeen_leaves {W : List Span} {L : List Part} {org s : State} (n : Nat) (h : Leaves W L org s)
    (hW : Inside (one (ND_GROUP n) :: one (WIN n) :: []) W) :
    Leaves W L org (State.dischargeSeen s n) := by
  delta State.dischargeSeen
  repeat' first
    | with_reducible assumption
    | with_reducible apply State.setN_leaves
    | with_reducible apply State.setBit_leaves
    | (with_unfolding_none refine hW.covers ?_; repeat first | with_unfolding_none exact Covered.here | with_unfolding_none refine Covered.next ?_)
    | with_reducible refine Leaves.ite ?_ ?_

theorem State.publish_leaves {W : List Span} {L : List Part} {org s : State} (n : Nat) (h : Leaves W L org s)
    (hW : Inside (one (CHANNEL_PROTECTION.FET_TEMP n) :: one (CHANNEL_PROTECTION.WIRE_RISE n) :: one (CHANNEL_STATUS.FLAGS n) :: one (CHANNEL_STATUS.I_INST n) :: one (CHANNEL_STATUS.I_MEAN n) :: each2 CHANNEL_STATUS.I_PEAK :: one (CHANNEL_STATUS.I_RMS n) :: one (CHANNEL_STATUS.MEAS_FRAME n) :: one (CHANNEL_STATUS.V_INST n) :: one (CHANNEL_STATUS.V_MEAN n) :: each2 CHANNEL_STATUS.V_PEAK :: one (LAMP_LOW n) :: one (ND_GROUP n) :: one (RECEIVED n 12) :: one (WIN n) :: []) W) :
    Leaves W L org (State.publish s n) := by
  delta State.publish
  repeat' first
    | with_reducible assumption
    | with_reducible apply State.set_leaves
    | with_reducible apply State.setN_leaves
    | with_reducible apply State.setChFlag_leaves
    | with_reducible apply State.takePeak_leaves
    | with_reducible apply State.lampFrame_leaves
    | with_reducible apply State.dischargeSeen_leaves
    | (with_unfolding_none refine hW.covers ?_; repeat first | with_unfolding_none exact Covered.here | with_unfolding_none exact CHANNEL_STATUS.I_PEAK_in | with_unfolding_none exact CHANNEL_STATUS.V_PEAK_in | with_unfolding_none refine Covered.next ?_)
    | with_unfolding_none apply hW.sub (inSkip (inSkip (inBoth inNil)))
    | with_unfolding_none apply hW.sub (inNil)
    | with_unfolding_none apply hW.sub (inSkip (inSkip (inSkip (inSkip (inSkip (inSkip (inSkip (inSkip (inSkip (inSkip (inSkip (inBoth inNil))))))))))))
    | with_unfolding_none apply hW.sub (inSkip (inSkip (inSkip (inSkip (inSkip (inSkip (inSkip (inSkip (inSkip (inSkip (inSkip (inSkip (inBoth (inSkip (inBoth inNil)))))))))))))))
    | (extract_lets +onlyGivenNames letX; have letT : True := (by clear_value letX; guard_hyp letX : State; trivial); clear letT; refine Leaves.cut (W := W) (L := L) (r := org) (v := letX) ?_ (fun letH => ?_); (focus subst letX); rotate_left; clear_value letX; revert letX; intro _ _)
    | (extract_lets +onlyGivenNames letX; clear_value letX; revert letX; intro _)
    | with_reducible refine Leaves.ite ?_ ?_
    | with_reducible refine forBelow_leaves ?_ (fun _ _ _ => ?_)

theorem State.publishBank_leaves {W : List Span} {L : List Part} {org s : State} (k : Nat) (h : Leaves W L org s)
    (hW : Inside (one (BANK.PUMP_HEADROOM k) :: one (BANK.VBUS k) :: one (BANK.VBUS_INST k) :: one (RECEIVED (512 + k) 12) :: []) W) :
    Leaves W L org (State.publishBank s k) := by
  delta State.publishBank
  repeat' first
    | with_reducible assumption
    | with_reducible apply State.set_leaves
    | with_reducible apply State.setN_leaves
    | (with_unfolding_none refine hW.covers ?_; repeat first | with_unfolding_none exact Covered.here | with_unfolding_none refine Covered.next ?_)
    | (extract_lets +onlyGivenNames letX; have letT : True := (by clear_value letX; guard_hyp letX : State; trivial); clear letT; refine Leaves.cut (W := W) (L := L) (r := org) (v := letX) ?_ (fun letH => ?_); (focus subst letX); rotate_left; clear_value letX; revert letX; intro _ _)
    | (extract_lets +onlyGivenNames letX; clear_value letX; revert letX; intro _)
    | with_reducible refine Leaves.ite ?_ ?_

theorem State.publishSwitch_leaves {W : List Span} {L : List Part} {org s : State} (h : Leaves W L org s)
    (hW : Inside (one ASSIST_STATUS.ASV :: one BATTERY_SWITCH.V_BATTERY :: one BATTERY_SWITCH.V_NETWORK :: one (RECEIVED 544 12) :: one REC_V_MAX :: one REC_V_MIN :: []) W) :
    Leaves W L org (State.publishSwitch s) := by
  delta State.publishSwitch
  repeat' first
    | with_reducible assumption
    | with_reducible apply State.set_leaves
    | with_reducible apply State.setN_leaves
    | with_reducible apply State.battVoltExtremes_leaves
    | (with_unfolding_none refine hW.covers ?_; repeat first | with_unfolding_none exact Covered.here | with_unfolding_none exact ASSIST_STATUS.ASV_in | with_unfolding_none exact BATTERY_SWITCH.V_BATTERY_in | with_unfolding_none exact BATTERY_SWITCH.V_NETWORK_in | with_unfolding_none refine Covered.next ?_)
    | with_unfolding_none apply hW.sub (inSkip (inSkip (inSkip (inSkip (inBoth (inBoth inNil))))))
    | (extract_lets +onlyGivenNames letX; have letT : True := (by clear_value letX; guard_hyp letX : State; trivial); clear letT; refine Leaves.cut (W := W) (L := L) (r := org) (v := letX) ?_ (fun letH => ?_); (focus subst letX); rotate_left; clear_value letX; revert letX; intro _ _)
    | (extract_lets +onlyGivenNames letX; clear_value letX; revert letX; intro _)
    | with_reducible refine Leaves.ite ?_ ?_

theorem State.publishAll_leaves {W : List Span} {L : List Part} {org s : State} (h : Leaves W L org s)
    (hW : Inside (one ASSIST_STATUS.ASV :: each BANK.PUMP_HEADROOM :: each BANK.VBUS :: each BANK.VBUS_INST :: one BATTERY_SWITCH.V_BATTERY :: one BATTERY_SWITCH.V_NETWORK :: each CHANNEL_PROTECTION.FET_TEMP :: each CHANNEL_PROTECTION.WIRE_RISE :: each CHANNEL_STATUS.FLAGS :: each CHANNEL_STATUS.I_INST :: each CHANNEL_STATUS.I_MEAN :: each2 CHANNEL_STATUS.I_PEAK :: each CHANNEL_STATUS.I_RMS :: each CHANNEL_STATUS.MEAS_FRAME :: each CHANNEL_STATUS.V_INST :: each CHANNEL_STATUS.V_MEAN :: each2 CHANNEL_STATUS.V_PEAK :: each LAMP_LOW :: each ND_GROUP :: each2 RECEIVED :: one REC_V_MAX :: one REC_V_MIN :: each WIN :: []) W) :
    Leaves W L org (State.publishAll s) := by
  delta State.publishAll
  repeat' first
    | with_reducible assumption
    | with_reducible apply State.publishBank_leaves
    | with_reducible apply State.publish_leaves
    | with_reducible apply State.publishSwitch_leaves
    | with_unfolding_none apply hW.sub (inSkip (BANK.PUMP_HEADROOM_wide (inSkip (BANK.VBUS_wide (inSkip (BANK.VBUS_INST_wide (inSkip (inSkip (inSkip (inSkip (inSkip (inSkip (inSkip (inSkip (inSkip (inSkip (inSkip (inSkip (inSkip (inSkip (inSkip (inSkip (RECEIVED_wide inNil)))))))))))))))))))))))
    | with_unfolding_none apply hW.sub (inSkip (inSkip (inSkip (inSkip (inSkip (inSkip (CHANNEL_PROTECTION.FET_TEMP_wide (inSkip (CHANNEL_PROTECTION.WIRE_RISE_wide (inSkip (CHANNEL_STATUS.FLAGS_wide (inSkip (CHANNEL_STATUS.I_INST_wide (inSkip (CHANNEL_STATUS.I_MEAN_wide (inSkip (inBoth (CHANNEL_STATUS.I_RMS_wide (inSkip (CHANNEL_STATUS.MEAS_FRAME_wide (inSkip (CHANNEL_STATUS.V_INST_wide (inSkip (CHANNEL_STATUS.V_MEAN_wide (inSkip (inBoth (LAMP_LOW_wide (inSkip (ND_GROUP_wide (inSkip (RECEIVED_wide (inSkip (inSkip (inSkip (WIN_wide inNil)))))))))))))))))))))))))))))))))))
    | with_unfolding_none apply hW.sub (inBoth (inSkip (inSkip (inSkip (inBoth (inBoth (inSkip (inSkip (inSkip (inSkip (inSkip (inSkip (inSkip (inSkip (inSkip (inSkip (inSkip (inSkip (inSkip (RECEIVED_wide (inSkip (inBoth (inBoth inNil)))))))))))))))))))))))
    | with_reducible refine forBelow_leaves ?_ (fun _ _ _ => ?_)

theorem State.nextFrame_leaves {W : List Span} {L : List Part} {org s : State} (h : Leaves W L org s)
    (hW : Inside (each ADMIT_KIND :: each ADMIT_SINCE :: each BANK.BANK_FLAGS :: each BSW_CNT :: each2 BSW_SUM :: each CAP_SEEN :: each CELL :: each CHANNEL_PROTECTION.ADMIT_WAIT :: each CHANNEL_PROTECTION.MODEL_FLAGS :: each CHANNEL_STATUS.FLAGS :: each CHANNEL_STATUS.STANDING_GATE :: each CHANNEL_STATUS.STATE :: each CHANNEL_STATUS.TRIP_CAUSE :: each CHANNEL_SUPERVISION.HARD_TRIPS :: each CHANNEL_SUPERVISION.MODEL_TRIPS :: each CHANNEL_SUPERVISION.TIMEOUT_TRIPS :: each FET1 :: each FET2 :: each FET_NOW :: each FRAMES_SEEN :: each GATE :: each2 HEAD_SUM :: each LAMP_LOW :: each LAMP_TOLD :: one LAST_BOUNDARY :: each LATCH :: each LIFE_NEW :: each LIMIT_EPISODE :: each LIMIT_LEFT :: each LIMIT_SINCE :: each LIMIT_SPENT :: each OVER_AT :: each OVER_NOW :: each PEND :: each PUMP_START :: each PUMP_STOP_AT :: each PWM_HIGH :: each RESET_OUTPUT.ASSERT_COUNT :: each RESET_OUTPUT.LAST_CHANGE_STAMP :: each RESET_OUTPUT.OUTPUT :: each ROUND_NO :: each RSO_GOOD_SINCE :: each RUN_SINCE :: each RUN_SPENT :: each SLOT_SKIPPED :: each STAND_EVENTS :: each START_AT :: each2 SUMMARY :: each2 SUM_CNT :: each2 SUM_CNTV :: each2 SUM_I :: each2 SUM_SQ :: each2 SUM_V :: each TRIP_FRAME :: each TRIP_STATE :: each2 VBUS_CNT :: each2 VBUS_SUM :: each WAIT_END :: each WIN :: each WIRE1 :: each WIRE2 :: each WIRE_NOW :: []) W) (hL : Within ([.collector, .dieMsgs, .frame, .free, .shadows, .staged, .time] : List Part) L) :
    Leaves W L org (State.nextFrame s) := by
  have ht : Leaves W L org { s with time := s.nextBoundary } := Leaves.update h (.inr (hL _ (by decide +kernel)))
    (.inl rfl) (.inl rfl) (.inl rfl) (.inl rfl) (.inl rfl) (.inl rfl) (.inl rfl) (.inl rfl) (.inl rfl) (.inl rfl) (.inl rfl)
    (.inl rfl) (.inl rfl) (.inl rfl) (.inl rfl) (.inl rfl) (.inl rfl)
  have hd := forBelow_leaves (n := 4) (f := fun d s => s.dieFrameEnds d) ht fun d _ hx =>
    State.dieFrameEnds_leaves d hx (by first | with_unfolding_none apply hW.sub (inBoth (inBoth (inBoth (inBoth (inBoth (inBoth (inBoth (inBoth (inBoth (inBoth (inBoth (inBoth (inBoth (inBoth (inBoth (inBoth (inBoth (inBoth (inBoth (inBoth (inBoth (inBoth (inBoth (inBoth (inSkip (inBoth (inBoth (inBoth (inBoth (inBoth (inBoth (inBoth (inBoth (inBoth (inBoth (inBoth (inBoth (inBoth (inBoth (inBoth (inBoth (inBoth (inBoth (inBoth (inBoth (inBoth (inBoth (inBoth (inBoth (inBoth (inBoth (inBoth (inBoth (inBoth (inBoth (inBoth (inBoth (inBoth (inBoth (inBoth (inBoth (inBoth inNil))))))))))))))))))))))))))))))))))))))))))))))))))))))))))))))) (Within.trans (by decide +kernel) hL)
  refine State.setN_leaves (Leaves.update hd (.inl rfl) (.inr (hL _ (by decide +kernel)))
    (.inl rfl) (.inl rfl) (.inl rfl) (.inl rfl) (.inl rfl) (.inl rfl) (.inl rfl) (.inl rfl) (.inl rfl) (.inl rfl)
    (.inl rfl) (.inl rfl) (.inl rfl) (.inl rfl) (.inl rfl) (.inl rfl)) (hW.covers (by repeat first | with_unfolding_none exact Covered.here | with_unfolding_none exact LAST_BOUNDARY_in | with_unfolding_none refine Covered.next ?_))

theorem State.channelsBegin_leaves {W : List Span} {L : List Part} {org s : State} (h : Leaves W L org s)
    (hW : Inside (anyKey :: []) W) (hL : Within ([.collector, .dieMsgs, .free, .shadows, .staged] : List Part) L) :
    Leaves W L org (State.channelsBegin s) := by
  delta State.channelsBegin
  repeat' first
    | with_reducible assumption
    | with_reducible apply State.foldSettle_leaves
    | with_reducible apply State.gateSettles_leaves
    | with_reducible apply State.unitShadows_leaves
    | with_reducible apply State.takeShuntTemp_leaves
    | with_reducible apply State.takeRefs_leaves
    | with_reducible apply State.admittedStarts_leaves
    | with_reducible apply State.safeOnNext_leaves
    | with_reducible apply State.pairBoundary_leaves
    | with_unfolding_none apply hW.sub (inAny)
    | with_unfolding_none apply hW.sub (inNil)
    | (with_reducible refine Within.trans ?_ hL; decide +kernel)
    | (extract_lets +onlyGivenNames letX; have letT : True := (by clear_value letX; guard_hyp letX : State; trivial); clear letT; refine Leaves.cut (W := W) (L := L) (r := org) (v := letX) ?_ (fun letH => ?_); (focus subst letX); rotate_left; clear_value letX; revert letX; intro _ _)
    | with_reducible refine Leaves.ite ?_ ?_
    | with_reducible refine forBelow_leaves ?_ (fun _ _ _ => ?_)

theorem State.services_leaves {W : List Span} {L : List Part} {org s : State} (h : Leaves W L org s)
    (hW : Inside (one BATTERY_RECORD.SEQUENCE :: each BUDGET_GROUP.FORCED_COUNT :: each BUDGET_GROUP.GROUP_LOAD :: each BUDGET_GROUP.LONGEST_WAIT :: each BUDGET_GROUP.SHARES_HELD :: each BUDGET_GROUP.WAITING :: each BUDGET_OVER :: each CAN_PORT.TX_FRAMES :: each CHANNEL_CONFIG.REQUEST :: each CHANNEL_PROTECTION.ADMIT_WAIT :: each CHANNEL_STATUS.FLAGS :: each ENDGAME_ARMED :: one ENDGAME_DUE :: each LIFE_NEW :: each LIFE_STORED :: one (OPENING_JOURNAL.ENTRY 0) :: one OPENING_STATUS.FAILED_STEP :: one OPENING_STATUS.OPENING_STATE :: one OPENING_STATUS.PROFILE_SKIP :: one OPENING_STATUS.SKIP_MASK :: each PDO_AT :: each PDO_DATA :: each PDO_DUE :: each PDO_EVT :: each PDO_SENT :: one (PLAN_TRIGGER 1) :: one PON_CONTROL.PON_CHANGES :: one PON_CONTROL.PON_LAST_CAUSE :: one PON_CONTROL.PON_STATE :: one PROFILE_FAILED :: one PROFILE_JUDGED :: each RESET_OUTPUT.FORCE :: one RET_ENTRY :: one RET_PROFILE_SKIP :: one RET_SKIP :: each SHARE_END :: each SHARE_HELD :: each SHARE_PEAK :: each START_AT :: each START_GENTLE :: each STEP_ACT_AT :: each STEP_AGAIN :: each STEP_MET :: each STEP_MOVED_AT :: each STEP_READY_AT :: each STEP_RUNS :: each STEP_SEEN_AT :: each STEP_SNAP :: each STEP_SPENT :: one STORE_BUSY :: each STORE_COPY :: one STORE_HAS :: one (STORE_JOURNAL 0) :: one (STORE_JOURNAL 1) :: one (STORE_JOURNAL 2) :: one (STORE_JOURNAL 3) :: each STORE_SEQ :: one STORE_SIDE :: one WDX_SERVED :: (each fun p => ofPlan p OPENING_PLAN.END_FRAME) :: (each fun p => ofPlan p OPENING_PLAN.PLAN_STATE) :: (each fun p => ofPlan p OPENING_PLAN.RESULT) :: (each fun p => ofPlan p OPENING_PLAN.RUNS) :: (each fun p => ofPlan p OPENING_PLAN.SKIPPED_STEPS) :: (each fun p => ofPlan p OPENING_PLAN.START_FRAME) :: (each2 fun p i => ofPlan p (OPENING_STEP_STATE.STATE i)) :: []) W) (hL : Within ([.canQueue, .collector, .landing, .out] : List Part) L) :
    Leaves W L org (State.services s) := by
  delta State.services
  repeat' first
    | with_reducible assumption
    | with_reducible apply State.admissionRun_leaves
    | with_reducible apply State.planEvaluate_leaves
    | with_reducible apply State.profileBoundary_leaves
    | with_reducible apply State.tpdoBoundary_leaves
    | with_reducible apply State.wdxServe_leaves
    | with_reducible apply State.endgameBoundary_leaves
    | with_unfolding_none apply hW.sub (inSkip (BUDGET_GROUP.FORCED_COUNT_wide (inSkip (BUDGET_GROUP.GROUP_LOAD_wide (inSkip (BUDGET_GROUP.LONGEST_WAIT_wide (inSkip (BUDGET_GROUP.SHARES_HELD_wide (inSkip (BUDGET_GROUP.WAITING_wide (inSkip (BUDGET_OVER_wide (inSkip (inSkip (inSkip (inBoth (inBoth (inSkip (inSkip (inSkip (inSkip (inSkip (inSkip (inSkip (inSkip (inSkip (inSkip (inSkip (inSkip (inSkip (inSkip (inSkip (inSkip (inSkip (inSkip (inSkip (inSkip (inSkip (inSkip (inSkip (inSkip (inBoth (inBoth (inBoth (inBoth (inBoth inNil))))))))))))))))))))))))))))))))))))))))))))))
    | with_unfolding_none apply hW.sub (inBoth (inSkip (inSkip (inSkip (inSkip (inSkip (inSkip (inSkip (inBoth (inSkip (inSkip (inSkip (inSkip (inBoth (inBoth (inSkip (inSkip (inSkip (inSkip (inSkip (inSkip (inSkip (inSkip (inSkip (inSkip (inSkip (inBoth (inBoth (inBoth (inSkip (inSkip (inBoth (inSkip (inSkip (inSkip (inSkip (inSkip (inSkip (inSkip (inSkip (inBoth (inBoth (inBoth (inBoth (inBoth (inBoth (inBoth (inBoth (inBoth (inBoth (inBoth (inSkip (inSkip (inSkip (inSkip (inSkip (inBoth (inBoth (inSkip (inBoth (inBoth (inBoth (inSkip (inBoth (inSkip (inBoth inNil))))))))))))))))))))))))))))))))))))))))))))))))))))))))))))))))))
    | with_unfolding_none apply hW.sub (inSkip (inSkip (inSkip (inSkip (inSkip (inSkip (inSkip (inSkip (inSkip (inSkip (inSkip (inSkip (inSkip (inSkip (inSkip (inBoth (inBoth (inBoth (inBoth (inBoth (inSkip (inSkip (inSkip (inSkip (inSkip (inSkip (inSkip (inSkip (inSkip (inBoth (inBoth (inSkip (inBoth (inBoth (inBoth (inSkip (inSkip (inSkip (inSkip (inSkip (inSkip (inSkip (inSkip (inSkip (inSkip (inSkip (inSkip (inSkip (inSkip (inSkip (inSkip (inBoth (inBoth (inBoth (inBoth (inBoth inNil))))))))))))))))))))))))))))))))))))))))))))))))))))))))
    | with_unfolding_none apply hW.sub (inSkip (inSkip (inSkip (inSkip (inSkip (inSkip (inSkip (CAN_PORT.TX_FRAMES_wide (inSkip (inSkip (inSkip (inSkip (inSkip (inSkip (inSkip (inSkip (inSkip (inSkip (inSkip (inSkip (inSkip (PDO_AT_wide (inSkip (PDO_DATA_wide (inSkip (PDO_DUE_wide (inSkip (PDO_EVT_wide (inSkip (PDO_SENT_wide inNil))))))))))))))))))))))))))))))
    | with_unfolding_none apply hW.sub (inSkip (inSkip (inSkip (inSkip (inSkip (inSkip (inSkip (inSkip (inSkip (inSkip (inSkip (inSkip (inSkip (inSkip (inSkip (inSkip (inSkip (inSkip (inSkip (inSkip (inSkip (inSkip (inSkip (inSkip (inSkip (inSkip (inSkip (inSkip (inSkip (inSkip (inSkip (inSkip (inSkip (inSkip (inSkip (inSkip (inSkip (inSkip (inSkip (inSkip (inSkip (inSkip (inSkip (inSkip (inSkip (inSkip (inSkip (inSkip (inSkip (inSkip (inSkip (inSkip (inSkip (inSkip (inSkip (inSkip (inSkip (inSkip (inBoth inNil)))))))))))))))))))))))))))))))))))))))))))))))))))))))))))
    | with_unfolding_none apply hW.sub (inBoth (inSkip (inSkip (inSkip (inSkip (inSkip (inSkip (inSkip (inSkip (inSkip (inSkip (inBoth (inBoth (inBoth (inBoth (inSkip (inSkip (inSkip (inSkip (inSkip (inSkip (inSkip (inSkip (inSkip (inSkip (inBoth (inBoth (inBoth (inBoth (inSkip (inSkip (inSkip (inSkip (inSkip (inSkip (inSkip (inSkip (inSkip (inSkip (inSkip (inSkip (inBoth (inSkip (inBoth (inSkip (inBoth (inBoth (inSkip (inBoth (inBoth (inBoth (inSkip (inSkip (inSkip (inSkip (inSkip (inBoth (inBoth (inSkip (inBoth (inBoth (inBoth (inBoth (inBoth (inBoth (inBoth inNil))))))))))))))))))))))))))))))))))))))))))))))))))))))))))))))))))
    | (with_reducible refine Within.trans ?_ hL; decide +kernel)
    | (extract_lets +onlyGivenNames letX; have letT : True := (by clear_value letX; guard_hyp letX : State; trivial); clear letT; refine Leaves.cut (W := W) (L := L) (r := org) (v := letX) ?_ (fun letH => ?_); (focus subst letX); rotate_left; clear_value letX; revert letX; intro _ _)
    | with_reducible refine Leaves.ite ?_ ?_
    | with_reducible refine forBelow_leaves ?_ (fun _ _ _ => ?_)

theorem State.controlBoundary_leaves {W : List Span} {L : List Part} {org s : State} (h : Leaves W L org s)
    (hW : Inside (anyKey :: []) W) (hL : Within ([.barriers, .canQueue, .collector, .dieMsgs, .fences, .free, .heldWrites, .landing, .late, .out, .placing, .resp, .rings, .shadows, .signing, .staged] : List Part) L) :
    Leaves W L org (State.controlBoundary s) := by
  delta State.controlBoundary
  repeat' first
    | with_reducible assumption
    | with_reducible apply State.setN_leaves
    | with_reducible apply State.overridesEnd_leaves
    | with_reducible apply State.landAll_leaves
    | with_reducible apply State.asBoundary_leaves
    | with_reducible apply State.estBoundary_leaves
    | with_reducible apply State.services_leaves
    | with_reducible apply State.startsBegin_leaves
    | with_reducible apply State.publishAll_leaves
    | with_reducible apply State.channelsBegin_leaves
    | with_reducible apply State.convertersBoundary_leaves
    | with_reducible apply State.chBoundary_leaves
    | (with_unfolding_none refine hW.covers ?_; repeat first | with_unfolding_none exact dyn_in | with_unfolding_none refine Covered.next ?_)
    | with_unfolding_none apply hW.sub (inAny)
    | (with_reducible refine Within.trans ?_ hL; decide +kernel)
    | (extract_lets +onlyGivenNames letX; have letT : True := (by clear_value letX; guard_hyp letX : State; trivial); clear letT; refine Leaves.cut (W := W) (L := L) (r := org) (v := letX) ?_ (fun letH => ?_); (focus subst letX); rotate_left; clear_value letX; revert letX; intro _ _)

theorem State.frameBoundary_leaves {W : List Span} {L : List Part} {org s : State} (h : Leaves W L org s)
    (hW : Inside (anyKey :: []) W) (hL : Within ([.barriers, .canQueue, .collector, .dieMsgs, .fences, .frame, .free, .heldWrites, .landing, .late, .out, .placing, .resp, .rings, .shadows, .signing, .staged, .time] : List Part) L) :
    Leaves W L org (State.frameBoundary s) := by
  delta State.frameBoundary
  repeat' first
    | with_reducible assumption
    | with_reducible apply State.nextFrame_leaves
    | with_reducible apply State.controlBoundary_leaves
    | with_reducible apply State.channelWakes_leaves
    | with_reducible apply State.channelsBegin_leaves
    | with_unfolding_none apply hW.sub (inAny)
    | (with_reducible refine Within.trans ?_ hL; decide +kernel)
    | (extract_lets +onlyGivenNames letX; have letT : True := (by clear_value letX; guard_hyp letX : State; trivial); clear letT; refine Leaves.cut (W := W) (L := L) (r := org) (v := letX) ?_ (fun letH => ?_); (focus subst letX); rotate_left; clear_value letX; revert letX; intro _ _)
    | (extract_lets +onlyGivenNames letX; clear_value letX; revert letX; intro _)
    | with_reducible refine Leaves.ite ?_ ?_

theorem execFrameBoundary_frame {W : List Span} {L : List Part} {org s : State} (h : Leaves W L org s)
    (hW : Inside (anyKey :: []) W)
    (hL : Within ([.barriers, .canQueue, .collector, .dieMsgs, .fences, .frame, .free, .heldWrites, .landing, .late, .out, .placing, .resp, .rings, .shadows, .signing, .staged, .time] : List Part) L) : RunsIn W L org (execFrameBoundary s) := by
  delta execFrameBoundary
  repeat' first
    | with_reducible assumption
    | with_reducible refine RunsIn.next ?_
    | with_reducible apply State.frameBoundary_leaves
    | with_unfolding_none apply hW.sub (inAny)

theorem State.accessFails_leaves {W : List Span} {L : List Part} {org s : State} (t addr : Nat) (a : Abort) (h : Leaves W L org s)
    (hW : Inside (one (LAST_ACCESS.ABORT_COUNT t) :: one (LAST_ACCESS.LAST_ABORT t) :: one (LAST_ACCESS.LAST_ABORT_ADDRESS t) :: []) W) :
    Leaves W L org (State.accessFails s t addr a) := by
  delta State.accessFails
  repeat' first
    | with_reducible assumption
    | with_reducible apply State.setN_leaves
    | with_reducible apply State.wrapCount_leaves
    | (with_unfolding_none refine hW.covers ?_; repeat first | with_unfolding_none exact Covered.here | with_unfolding_none refine Covered.next ?_)

theorem State.writeLevelView_leaves {W : List Span} {L : List Part} {org s : State} (t n sub : Nat) (v : Int)
    (h : Leaves W L org s) (hL : Within ([.staged] : List Part) L) : Leaves W L org (State.writeLevelView s t n sub v).2 := by
  delta State.writeLevelView
  extract_lets c cur base
  split
  · exact h
  · exact h
  · split
    · exact h
    · extract_lets full
      have hf : Leaves W L org full.2 := foldl_leaves h fun a b ha => State.stage_leaves _ _ _ ha (Within.trans (by decide +kernel) hL)
      clear_value full
      split
      · exact h
      · exact hf

theorem State.writeStaged_leaves {W : List Span} {L : List Part} {org s : State} (t addr : Nat) (v : Int) (h : Leaves W L org s) (hL : Within ([.staged] : List Part) L) :
    Leaves W L org (State.writeStaged s t addr v).2 := by
  delta State.writeStaged
  repeat' first
    | with_reducible assumption
    | with_reducible apply State.writeLevelView_leaves
    | with_reducible apply State.stage_leaves
    | (with_reducible refine Within.trans ?_ hL; decide +kernel)
    | (extract_lets +onlyGivenNames letX; clear_value letX; revert letX; intro _)
    | with_reducible refine Leaves.iteP ?_ ?_
    | with_reducible refine Leaves.ite ?_ ?_

theorem State.writeImmediate_leaves {W : List Span} {L : List Part} {org s : State} (t addr : Nat) (r : Sub) (v : Int) (b : List Byte) (h : Leaves W L org s)
    (hW : Inside (one addr :: []) W) (hL : Within ([.landing] : List Part) L) :
    Leaves W L org (State.writeImmediate s t addr r v b) := by
  delta State.writeImmediate
  repeat' first
    | with_reducible assumption
    | with_reducible apply State.set_leaves
    | with_reducible apply State.setBlob_leaves
    | with_reducible apply State.accept_leaves
    | (with_unfolding_none refine hW.covers ?_; repeat first | with_unfolding_none exact Covered.here | with_unfolding_none refine Covered.next ?_)
    | with_unfolding_none apply hW.sub (inNil)
    | (with_reducible refine Within.trans ?_ hL; decide +kernel)
    | with_reducible refine Leaves.ite ?_ ?_

theorem State.writeAnswer_leaves {W : List Span} {L : List Part} {org s : State} (t token : Nat) (h : Leaves W L org s)
    (hW : Inside (one (WATCHDOG.ANSWER_COUNT t) :: one (WATCHDOG.EXPIRY_COUNT t) :: one (WATCHDOG.PERIOD_START t) :: one (WATCHDOG.QUESTION t) :: one (WATCHDOG.WD_STATE t) :: one (WATCHDOG.WRONG_ANSWERS t) :: one (WD_ANSWERS t) :: one (WD_AT t) :: one (WD_CLOSED t) :: one (WD_FAILED t) :: one (WD_GAIN t) :: one (WD_VALID t) :: []) W) (hL : Within ([.collector, .free] : List Part) L) :
    Leaves W L org (State.writeAnswer s t token).2 := by
  delta State.writeAnswer
  repeat' first
    | with_reducible assumption
    | with_reducible apply State.wdAnswer_leaves
    | with_unfolding_none apply hW.sub (inBoth (inBoth (inBoth (inBoth (inBoth (inBoth (inBoth (inBoth (inBoth (inBoth (inBoth (inBoth inNil))))))))))))
    | (with_reducible refine Within.trans ?_ hL; decide +kernel)
    | with_reducible refine Leaves.iteP ?_ ?_
    | with_reducible refine Leaves.ite ?_ ?_

theorem State.writeResume_leaves {W : List Span} {L : List Part} {org s : State} (t : Nat) (v : Int) (h : Leaves W L org s) (hL : Within ([.free, .landing] : List Part) L) :
    Leaves W L org (State.writeResume s t v) := by
  delta State.writeResume
  repeat' first
    | with_reducible assumption
    | with_reducible apply State.takeFreeIn_leaves
    | with_reducible apply State.accept_leaves
    | (with_reducible refine Within.trans ?_ hL; decide +kernel)
    | with_reducible exact hL _ (by decide +kernel)
    | (extract_lets +onlyGivenNames letX; have letT : True := (by clear_value letX; revert letX; with_reducible exact Keeps.isPair); clear letT; refine Leaves.cut (W := W) (L := L) (r := org) (v := letX.2) ?_ (fun letH => ?_); (focus subst letX); rotate_left; clear_value letX; revert letX; intro _ _)
    | (extract_lets +onlyGivenNames letX; clear_value letX; revert letX; intro _)
    | with_reducible refine Leaves.iteP ?_ ?_

theorem State.writeAction_leaves {W : List Span} {L : List Part} {org s : State} (t addr : Nat) (v : Int) (b : List Byte) (h : Leaves W L org s)
    (hW : Inside (one ALARM.ALARMS_FIRED :: one ALARM.ALARM_SECONDS :: one ALARM.ALARM_STATE :: one (ATTEST_CONTROL.ATTEST_STATE t) :: one BACK_ALARM :: one (BARRIER.BARRIER_DONE t) :: one (CM_STAGE_END t) :: one (CM_STAMP t) :: one (CM_VALUE t) :: one (COMMIT_CONTROL.LAST_OBJECT t) :: one (COMMIT_CONTROL.LAST_REASON t) :: one (COMMIT_CONTROL.STATUS t) :: one (FENCE_CONTROL.FENCE_STAMP t) :: each HK_AT :: each HK_DELAY :: each HK_DONE :: each HK_DROPS :: each HK_LATCH :: each HK_PRE :: each HK_RUN :: each HK_SEQUENCE.OVERRUN_COUNT :: each HK_SEQUENCE.SEQ_STATE :: each HK_SUM :: one (HOLD_STATE.HOLD_TN t) :: one (KEY_DH t) :: one (KEY_HD t) :: one (KIND_QUERY.QUERY_RESULT t) :: one MONO_BASE :: one MONO_FROM :: each MSIX_HELD :: each OVF_DROPS :: one PARK_STAGE :: one PON_CONTROL.PON_CHANGES :: one PON_CONTROL.PON_LAST_CAUSE :: one PON_CONTROL.PON_STATE :: one POWER_STATE.PARK_ABORTS :: one POWER_STATE.STATE :: one RTC.LAST_SET_STAMP :: one RTC.RTC_FLAGS :: one RTC.SET_SOURCE :: one RTC_BASE :: one RTC_FROM :: one (SESSION_CONTROL.SESSION_STATE t) :: one (SESSION_ID t) :: each TARGET.RAISES :: each TARGET.TARGET_STATE :: each TG_LOW :: each USDO_AT :: each USDO_DATA :: each USDO_OPEN :: each USDO_WRITES :: one WAKE_CONFIG.WAKE_LATCHED :: one WAKE_PENDING :: one (WATCHDOG.ADJOURN_USED t) :: one (WATCHDOG.ANSWER_COUNT t) :: one (WATCHDOG.EXPIRY_COUNT t) :: one (WATCHDOG.PERIOD t) :: one (WATCHDOG.PERIOD_START t) :: one (WATCHDOG.QUESTION t) :: one (WATCHDOG.WD_STATE t) :: one (WATCHDOG.WRONG_ANSWERS t) :: one (WD_ANSWERS t) :: one (WD_AT t) :: one (WD_CLOSED t) :: one (WD_FAILED t) :: one (WD_GAIN t) :: one (WD_LEN t) :: one (WD_SEED t) :: one (WD_VALID t) :: one (inForce ALARM.ALARM_SECONDS) :: []) W) (hL : Within ([.barriers, .collector, .fences, .free, .heldWrites, .landing, .out, .resp, .rings, .shadows, .signing, .staged] : List Part) L) :
    Leaves W L org (State.writeAction s t addr v b).2 := by
  delta State.writeAction
  repeat' first
    | with_reducible assumption
    | with_reducible apply State.writeResume_leaves
    | with_reducible apply State.accept_leaves
    | with_reducible apply State.writeAnswer_leaves
    | with_reducible apply State.actNow_leaves
    | with_unfolding_none apply hW.sub (inNil)
    | with_unfolding_none apply hW.sub (inSkip (inSkip (inSkip (inSkip (inSkip (inSkip (inSkip (inSkip (inSkip (inSkip (inSkip (inSkip (inSkip (inSkip (inSkip (inSkip (inSkip (inSkip (inSkip (inSkip (inSkip (inSkip (inSkip (inSkip (inSkip (inSkip (inSkip (inSkip (inSkip (inSkip (inSkip (inSkip (inSkip (inSkip (inSkip (inSkip (inSkip (inSkip (inSkip (inSkip (inSkip (inSkip (inSkip (inSkip (inSkip (inSkip (inSkip (inSkip (inSkip (inSkip (inSkip (inSkip (inSkip (inSkip (inBoth (inBoth (inSkip (inBoth (inBoth (inBoth (inBoth (inBoth (inBoth (inBoth (inBoth (inBoth (inSkip (inSkip (inBoth inNil)))))))))))))))))))))))))))))))))))))))))))))))))))))))))))))))))))))
    | with_unfolding_none apply hW.sub (inBoth (inBoth (inBoth (inBoth (inBoth (inBoth (inBoth (inBoth (inBoth (inBoth (inBoth (inBoth (inBoth (inBoth (inBoth (inBoth (inBoth (inBoth (inBoth (inBoth (inBoth (inBoth (inBoth (inBoth (inBoth (inBoth (inBoth (inBoth (inBoth (inBoth (inBoth (inBoth (inBoth (inBoth (inBoth (inBoth (inBoth (inBoth (inBoth (inBoth (inBoth (inBoth (inBoth (inBoth (inBoth (inBoth (inBoth (inBoth (inBoth (inBoth (inBoth (inBoth (inBoth (inBoth (inBoth (inSkip (inBoth (inBoth (inBoth (inBoth (inBoth (inBoth (inBoth (inBoth (inBoth (inSkip (inBoth (inBoth (inBoth (inBoth inNil))))))))))))))))))))))))))))))))))))))))))))))))))))))))))))))))))))))
    | (with_reducible refine Within.trans ?_ hL; decide +kernel)
    | with_reducible refine Leaves.iteP ?_ ?_
    | with_reducible refine Leaves.ite ?_ ?_

theorem State.writeChecked_leaves {W : List Span} {L : List Part} {org s : State} (t addr : Nat) (r : Sub) (b : List Byte) (h : Leaves W L org s)
    (hW : Inside (one ALARM.ALARMS_FIRED :: one ALARM.ALARM_SECONDS :: one ALARM.ALARM_STATE :: one (ATTEST_CONTROL.ATTEST_STATE t) :: one BACK_ALARM :: one (BARRIER.BARRIER_DONE t) :: one (CM_STAGE_END t) :: one (CM_STAMP t) :: one (CM_VALUE t) :: one (COMMIT_CONTROL.LAST_OBJECT t) :: one (COMMIT_CONTROL.LAST_REASON t) :: one (COMMIT_CONTROL.STATUS t) :: one (FENCE_CONTROL.FENCE_STAMP t) :: each HK_AT :: each HK_DELAY :: each HK_DONE :: each HK_DROPS :: each HK_LATCH :: each HK_PRE :: each HK_RUN :: each HK_SEQUENCE.OVERRUN_COUNT :: each HK_SEQUENCE.SEQ_STATE :: each HK_SUM :: one (HOLD_STATE.HOLD_TN t) :: one (KEY_DH t) :: one (KEY_HD t) :: one (KIND_QUERY.QUERY_RESULT t) :: one MONO_BASE :: one MONO_FROM :: each MSIX_HELD :: each OVF_DROPS :: one PARK_STAGE :: one PON_CONTROL.PON_CHANGES :: one PON_CONTROL.PON_LAST_CAUSE :: one PON_CONTROL.PON_STATE :: one POWER_STATE.PARK_ABORTS :: one POWER_STATE.STATE :: one RTC.LAST_SET_STAMP :: one RTC.RTC_FLAGS :: one RTC.SET_SOURCE :: one RTC_BASE :: one RTC_FROM :: one (SESSION_CONTROL.SESSION_STATE t) :: one (SESSION_ID t) :: each TARGET.RAISES :: each TARGET.TARGET_STATE :: each TG_LOW :: each USDO_AT :: each USDO_DATA :: each USDO_OPEN :: each USDO_WRITES :: one WAKE_CONFIG.WAKE_LATCHED :: one WAKE_PENDING :: one (WATCHDOG.ADJOURN_USED t) :: one (WATCHDOG.ANSWER_COUNT t) :: one (WATCHDOG.EXPIRY_COUNT t) :: one (WATCHDOG.PERIOD t) :: one (WATCHDOG.PERIOD_START t) :: one (WATCHDOG.QUESTION t) :: one (WATCHDOG.WD_STATE t) :: one (WATCHDOG.WRONG_ANSWERS t) :: one (WD_ANSWERS t) :: one (WD_AT t) :: one (WD_CLOSED t) :: one (WD_FAILED t) :: one (WD_GAIN t) :: one (WD_LEN t) :: one (WD_SEED t) :: one (WD_VALID t) :: one addr :: one (inForce ALARM.ALARM_SECONDS) :: []) W) (hL : Within ([.barriers, .collector, .fences, .free, .heldWrites, .landing, .out, .resp, .rings, .shadows, .signing, .staged] : List Part) L) :
    Leaves W L org (State.writeChecked s t addr r b).2 := by
  delta State.writeChecked
  repeat' first
    | with_reducible assumption
    | with_reducible apply State.writeAction_leaves
    | with_reducible apply State.writeStaged_leaves
    | with_reducible apply State.writeImmediate_leaves
    | with_unfolding_none apply hW.sub (inBoth (inBoth (inBoth (inBoth (inBoth (inBoth (inBoth (inBoth (inBoth (inBoth (inBoth (inBoth (inBoth (inBoth (inBoth (inBoth (inBoth (inBoth (inBoth (inBoth (inBoth (inBoth (inBoth (inBoth (inBoth (inBoth (inBoth (inBoth (inBoth (inBoth (inBoth (inBoth (inBoth (inBoth (inBoth (inBoth (inBoth (inBoth (inBoth (inBoth (inBoth (inBoth (inBoth (inBoth (inBoth (inBoth (inBoth (inBoth (inBoth (inBoth (inBoth (inBoth (inBoth (inBoth (inBoth (inBoth (inBoth (inBoth (inBoth (inBoth (inBoth (inBoth (inBoth (inBoth (inBoth (inBoth (inBoth (inBoth (inBoth (inSkip (inBoth inNil)))))))))))))))))))))))))))))))))))))))))))))))))))))))))))))))))))))))
    | with_unfolding_none apply hW.sub (inNil)
    | with_unfolding_none apply hW.sub (inSkip (inSkip (inSkip (inSkip (inSkip (inSkip (inSkip (inSkip (inSkip (inSkip (inSkip (inSkip (inSkip (inSkip (inSkip (inSkip (inSkip (inSkip (inSkip (inSkip (inSkip (inSkip (inSkip (inSkip (inSkip (inSkip (inSkip (inSkip (inSkip (inSkip (inSkip (inSkip (inSkip (inSkip (inSkip (inSkip (inSkip (inSkip (inSkip (inSkip (inSkip (inSkip (inSkip (inSkip (inSkip (inSkip (inSkip (inSkip (inSkip (inSkip (inSkip (inSkip (inSkip (inSkip (inSkip (inSkip (inSkip (inSkip (inSkip (inSkip (inSkip (inSkip (inSkip (inSkip (inSkip (inSkip (inSkip (inSkip (inSkip (inBoth inNil))))))))))))))))))))))))))))))))))))))))))))))))))))))))))))))))))))))
    | (with_reducible refine Within.trans ?_ hL; decide +kernel)
    | (extract_lets +onlyGivenNames letX; clear_value letX; revert letX; intro _)
    | with_reducible refine Leaves.iteP ?_ ?_
    | with_reducible refine Leaves.ite ?_ ?_
    | split
    | with_reducible refine Leaves.ofPair (by assumption) ?_

theorem State.envelopeOpen_leaves {W : List Span} {L : List Part} {org s : State} (t : Nat) (b : List Byte) (sized : Bool) (h : Leaves W L org s)
    (hW : Inside (one (KEY_DH t) :: one (KEY_HD t) :: one SECURITY_STATUS.AUTH_FAILED_TOTAL :: one (SESSION_CONTROL.AUTH_FAILURES t) :: one (SESSION_CONTROL.LAST_COUNTER t) :: one (SESSION_CONTROL.SESSION_STATE t) :: one (SESSION_ID t) :: []) W) (hL : Within ([.collector, .signing] : List Part) L) :
    Leaves W L org (State.envelopeOpen s t b sized).2 := by
  delta State.envelopeOpen
  repeat' first
    | with_reducible assumption
    | with_reducible apply State.envelopeFails_leaves
    | with_reducible apply State.envelopePasses_leaves
    | with_unfolding_none apply hW.sub (inBoth (inBoth (inBoth (inBoth (inSkip (inBoth (inBoth inNil)))))))
    | with_unfolding_none apply hW.sub (inSkip (inSkip (inSkip (inBoth (inBoth inNil)))))
    | (with_reducible refine Within.trans ?_ hL; decide +kernel)
    | with_reducible refine Leaves.iteP ?_ ?_
    | split
    | with_reducible refine Leaves.ofPair (by assumption) ?_

theorem State.readAs_leavesP {W : List Span} {L : List Part} {org s : State} {t : Option Nat} {via : Via} {addr : Nat}
    {p : List Byte × State} (h : Leaves W L org s) (hW : Inside (anyKey :: []) W) (hL : Within ([.out, .rings] : List Part) L)
    (e : s.readAs t via addr = .ok p) : Leaves W L org p.2 := by
  delta State.readAs at e
  split at e
  · cases e
  · cases e
    exact State.afterRead_leaves _ _ h (Inside.trans inAny hW) (Within.trans (by decide +kernel) hL)

theorem State.readAs_leavesOk {W : List Span} {L : List Part} {org s s' : State} {t : Option Nat} {via : Via} {addr : Nat} {b : List Byte}
    (h : Leaves W L org s) (hW : Inside (anyKey :: []) W) (hL : Within ([.out, .rings] : List Part) L) (e : s.readAs t via addr = .ok (b, s')) :
    Leaves W L org s' := State.readAs_leavesP h hW hL e

theorem State.readEnvelope_leaves {W : List Span} {L : List Part} {org s : State} (t : Nat) (b : List Byte) (h : Leaves W L org s)
    (hW : Inside (anyKey :: []) W) (hL : Within ([.collector, .out, .rings, .signing] : List Part) L) :
    Leaves W L org (State.readEnvelope s t b).2 := by
  delta State.readEnvelope
  repeat' first
    | with_reducible assumption
    | with_reducible apply State.envelopeOpen_leaves
    | with_reducible apply State.readAs_leaves
    | with_reducible apply State.accessFails_leaves
    | with_reducible apply State.readReply_leaves
    | with_reducible apply State.counterSpent_leaves
    | with_unfolding_none apply hW.sub (inAny)
    | (with_reducible refine Within.trans ?_ hL; decide +kernel)
    | (extract_lets +onlyGivenNames letX; have letT : True := (by clear_value letX; guard_hyp letX : State; trivial); clear letT; refine Leaves.cut (W := W) (L := L) (r := org) (v := letX) ?_ (fun letH => ?_); (focus subst letX); rotate_left; clear_value letX; revert letX; intro _ _)
    | (extract_lets +onlyGivenNames letX; clear_value letX; revert letX; intro _)
    | with_reducible refine Leaves.iteP ?_ ?_
    | split
    | (refine State.readAs_leavesOk ?_ (Inside.trans inAny hW) ?_ (by assumption))
    | (refine State.readAs_leavesP ?_ (Inside.trans inAny hW) ?_ (by assumption))
    | with_reducible refine Leaves.ofPair (by assumption) ?_

theorem State.writeEnvelope_leaves {W : List Span} {L : List Part} {org s : State} (inner : State → Option Abort × State) (t : Nat)
    (b : List Byte) (h : Leaves W L org s) (hf : ∀ x, Leaves W L org x → Leaves W L org (inner x).2)
    (hW : Inside (anyKey :: []) W) (hL : Within ([.collector, .signing] : List Part) L) :
    Leaves W L org (State.writeEnvelope inner s t b).2 := by
  delta State.writeEnvelope
  extract_lets len
  split
  · exact Leaves.ofPair (by assumption) (State.envelopeOpen_leaves _ _ _ h (Inside.trans inAny hW) (Within.trans (by decide +kernel) hL))
  · exact State.counterSpent_leaves _ _ (hf _ (Leaves.ofPair (by assumption) (State.envelopeOpen_leaves _ _ _ h (Inside.trans inAny hW) (Within.trans (by decide +kernel) hL)))) (Inside.trans inAny hW) (Within.trans (by decide +kernel) hL)

theorem State.writeWith_leaves {W : List Span} {L : List Part} {org s : State} (inner : State → Option Abort × State) (t : Nat)
    (via : Via) (addr : Nat) (b : List Byte) (h : Leaves W L org s)
    (hf : ∀ x, Leaves W L org x → Leaves W L org (inner x).2)
    (hW : Inside (anyKey :: []) W) (hL : Within ([.barriers, .collector, .fences, .free, .heldWrites, .landing, .out, .resp, .rings, .shadows, .signing, .staged] : List Part) L) :
    Leaves W L org (State.writeWith inner s t via addr b).2 := by
  delta State.writeWith
  extract_lets x
  have hx : Leaves W L org x := Leaves.ite (State.wdDue_leaves _ h (Inside.trans inAny hW) (Within.trans (by decide +kernel) hL)) h
  clear_value x
  generalize x.writeCheck (some t) via addr b = c
  generalize subAt addr = sb
  split
  · exact hx
  · exact hx
  · exact Leaves.iteP (Leaves.iteP hx (Leaves.iteP (State.readEnvelope_leaves _ _ hx (Inside.trans inAny hW) (Within.trans (by decide +kernel) hL)) (State.writeEnvelope_leaves _ _ _ hx hf (Inside.trans inAny hW) (Within.trans (by decide +kernel) hL))))
      (State.writeChecked_leaves _ _ _ _ hx (Inside.trans inAny hW) (Within.trans (by decide +kernel) hL))

theorem State.writeAs_leaves {W : List Span} {L : List Part} {org s : State} (fuel : Nat) (t : Nat) (via : Via) (addr : Nat)
    (b : List Byte) (h : Leaves W L org s)
    (hW : Inside (anyKey :: []) W) (hL : Within ([.barriers, .collector, .fences, .free, .heldWrites, .landing, .out, .resp, .rings, .shadows, .signing, .staged] : List Part) L) : Leaves W L org (State.writeAs fuel s t via addr b).2 := by
  induction fuel generalizing s via addr b with
  | zero => exact State.writeWith_leaves _ _ _ _ _ h (fun _ hx => hx) hW hL
  | succ fuel ih => exact State.writeWith_leaves _ _ _ _ _ h (fun _ hx => ih _ _ _ hx) hW hL

theorem State.countMoved_leaves {W : List Span} {L : List Part} {org s : State} (addr : Nat) (b : List Byte) (h : Leaves W L org s)
    (hW : Inside (one LOAD_ACCESS :: []) W) :
    Leaves W L org (State.countMoved s addr b) := by
  delta State.countMoved
  repeat' first
    | with_reducible assumption
    | with_reducible apply State.countAccess_leaves
    | with_unfolding_none apply hW.sub (inBoth inNil)
    | with_reducible refine Leaves.ite ?_ ?_

theorem State.writeBy_leaves {W : List Span} {L : List Part} {org s : State} (t : Option Nat) (via : Via) (addr : Nat) (b : List Byte) (h : Leaves W L org s)
    (hW : Inside (anyKey :: []) W) (hL : Within ([.barriers, .collector, .fences, .free, .heldWrites, .landing, .out, .resp, .rings, .shadows, .signing, .staged] : List Part) L) :
    Leaves W L org (State.writeBy s t via addr b).2 := by
  delta State.writeBy
  repeat' first
    | with_reducible assumption
    | with_reducible apply State.writeAs_leaves
    | with_reducible apply State.countMoved_leaves
    | with_reducible apply State.accessFails_leaves
    | with_unfolding_none apply hW.sub (inAny)
    | (with_reducible refine Within.trans ?_ hL; decide +kernel)
    | with_reducible refine Leaves.iteP ?_ ?_
    | split
    | with_reducible refine Leaves.ofPair (by assumption) ?_

theorem State.readBy_leaves {W : List Span} {L : List Part} {org s : State} (t : Option Nat) (via : Via) (addr : Nat) (h : Leaves W L org s)
    (hW : Inside (anyKey :: []) W) (hL : Within ([.out, .rings] : List Part) L) :
    Leaves W L org (State.readBy s t via addr).2 := by
  delta State.readBy
  repeat' first
    | with_reducible assumption
    | with_reducible apply State.readAs_leaves
    | with_reducible apply State.countMoved_leaves
    | with_reducible apply State.accessFails_leaves
    | with_unfolding_none apply hW.sub (inAny)
    | (with_reducible refine Within.trans ?_ hL; decide +kernel)
    | with_reducible refine Leaves.iteP ?_ ?_
    | split
    | (refine State.readAs_leavesOk ?_ (Inside.trans inAny hW) ?_ (by assumption))
    | (refine State.readAs_leavesP ?_ (Inside.trans inAny hW) ?_ (by assumption))
    | with_reducible refine Leaves.ofPair (by assumption) ?_

theorem State.accessArrives_leaves {W : List Span} {L : List Part} {org s : State} (ep : Endpoint) (h : Leaves W L org s)
    (hW : Inside (each CAN_PORT.RX_FRAMES :: one SPI_PORT.FRAMES :: []) W) :
    Leaves W L org (State.accessArrives s ep) := by
  delta State.accessArrives
  repeat' first
    | with_reducible assumption
    | with_reducible apply State.wrapCount_leaves
    | (with_unfolding_none refine hW.covers ?_; repeat first | with_unfolding_none exact Covered.here | with_unfolding_none exact CAN_PORT.RX_FRAMES_in | with_unfolding_none exact SPI_PORT.FRAMES_in | with_unfolding_none refine Covered.next ?_)
    | split
    | with_reducible refine Leaves.ofPair (by assumption) ?_

theorem State.respond_leaves {W : List Span} {L : List Part} {org s : State} (ep : Endpoint) (status : Nat) (b : List Byte) (h : Leaves W L org s)
    (hW : Inside (each FRAME_RESP :: []) W) (hL : Within ([.resp] : List Part) L) :
    Leaves W L org (State.respond s ep status b) := by
  delta State.respond
  repeat' first
    | with_reducible assumption
    | with_reducible apply State.setBlob_leaves
    | with_reducible apply State.answer_leaves
    | (with_unfolding_none refine hW.covers ?_; repeat first | with_unfolding_none exact Covered.here | with_unfolding_none exact FRAME_RESP_in | with_unfolding_none refine Covered.next ?_)
    | with_unfolding_none apply hW.sub (inNil)
    | (with_reducible refine Within.trans ?_ hL; decide +kernel)
    | split
    | with_reducible refine Leaves.ofPair (by assumption) ?_

theorem State.frameError_leaves {W : List Span} {L : List Part} {org s : State} (ep : Endpoint) (status : Nat) (h : Leaves W L org s)
    (hW : Inside (each FRAME_RESP :: one SPI_PORT.BUSY_ANSWERS :: one SPI_PORT.CRC_ERRORS :: one TWO_WIRE_STATUS.BUSY_ANSWERS :: one TWO_WIRE_STATUS.CRC_ERRORS :: []) W) (hL : Within ([.resp] : List Part) L) :
    Leaves W L org (State.frameError s ep status) := by
  delta State.frameError
  repeat' first
    | with_reducible assumption
    | with_reducible apply State.count_leaves
    | with_reducible apply State.respond_leaves
    | (with_unfolding_none refine hW.covers ?_; repeat first | with_unfolding_none exact Covered.here | with_unfolding_none exact SPI_PORT.BUSY_ANSWERS_in | with_unfolding_none exact SPI_PORT.CRC_ERRORS_in | with_unfolding_none exact TWO_WIRE_STATUS.BUSY_ANSWERS_in | with_unfolding_none exact TWO_WIRE_STATUS.CRC_ERRORS_in | with_unfolding_none refine Covered.next ?_)
    | with_unfolding_none apply hW.sub (inBoth inNil)
    | (with_reducible refine Within.trans ?_ hL; decide +kernel)
    | (extract_lets +onlyGivenNames letX; have letT : True := (by clear_value letX; guard_hyp letX : State; trivial); clear letT; refine Leaves.cut (W := W) (L := L) (r := org) (v := letX) ?_ (fun letH => ?_); (focus subst letX); rotate_left; clear_value letX; revert letX; intro _ _)
    | split
    | with_reducible refine Leaves.ofPair (by assumption) ?_

theorem State.usdoAnswer_leaves {W : List Span} {L : List Part} {org s : State} (p : CanPort) (r : Resp) (h : Leaves W L org s)
    (hW : Inside (one (CAN_PORT.TX_FRAMES p) :: []) W) (hL : Within ([.resp] : List Part) L) :
    Leaves W L org (State.usdoAnswer s p r) := by
  delta State.usdoAnswer
  repeat' first
    | with_reducible assumption
    | with_reducible apply State.wrapCount_leaves
    | with_reducible apply State.answer_leaves
    | (with_unfolding_none refine hW.covers ?_; repeat first | with_unfolding_none exact Covered.here | with_unfolding_none refine Covered.next ?_)
    | with_unfolding_none apply hW.sub (inNil)
    | (with_reducible refine Within.trans ?_ hL; decide +kernel)

theorem State.transferResult_leaves {W : List Span} {L : List Part} {org s : State} (f st moved code : Nat) (h : Leaves W L org s)
    (hW : Inside (one (PT_RESULT f) :: []) W) :
    Leaves W L org (State.transferResult s f st moved code) := by
  delta State.transferResult
  repeat' first
    | with_reducible assumption
    | with_reducible apply State.setN_leaves
    | (with_unfolding_none refine hW.covers ?_; repeat first | with_unfolding_none exact Covered.here | with_unfolding_none refine Covered.next ?_)

theorem State.writeAnswered_leaves {W : List Span} {L : List Part} {org s : State} (ep : Endpoint) (form : WriteForm) (n : Nat) (a : Option Abort) (h : Leaves W L org s)
    (hW : Inside (each CAN_PORT.TX_FRAMES :: each FRAME_RESP :: each PT_RESULT :: []) W) (hL : Within ([.resp] : List Part) L) :
    Leaves W L org (State.writeAnswered s ep form n a) := by
  delta State.writeAnswered
  repeat' first
    | with_reducible assumption
    | with_reducible apply State.usdoAnswer_leaves
    | with_reducible apply State.transferResult_leaves
    | with_reducible apply State.answer_leaves
    | with_reducible apply State.respond_leaves
    | with_unfolding_none apply hW.sub (CAN_PORT.TX_FRAMES_wide inNil)
    | with_unfolding_none apply hW.sub (inSkip (inSkip (PT_RESULT_wide inNil)))
    | with_unfolding_none apply hW.sub (inNil)
    | with_unfolding_none apply hW.sub (inSkip (inBoth inNil))
    | (with_reducible refine Within.trans ?_ hL; decide +kernel)
    | (extract_lets +onlyGivenNames letX; have letT : True := (by clear_value letX; guard_hyp letX : State; trivial); clear letT; refine Leaves.cut (W := W) (L := L) (r := org) (v := letX) ?_ (fun letH => ?_); (focus subst letX); rotate_left; clear_value letX; revert letX; intro _ _)
    | with_reducible refine Leaves.ite ?_ ?_
    | split
    | with_reducible refine Leaves.ofPair (by assumption) ?_

theorem State.rpdoWrite_leaves {W : List Span} {L : List Part} {org s : State} (x : Nat) (data : List Byte) (h : Leaves W L org s)
    (hW : Inside (anyKey :: []) W) (hL : Within ([.barriers, .collector, .fences, .free, .heldWrites, .landing, .out, .resp, .rings, .shadows, .signing, .staged] : List Part) L) :
    Leaves W L org (State.rpdoWrite s x data) := by
  delta State.rpdoWrite
  repeat' first
    | with_reducible assumption
    | with_reducible apply State.count_leaves
    | with_reducible apply State.rpdoFailure_leaves
    | with_reducible apply State.writeAs_leaves
    | with_reducible apply State.countAccess_leaves
    | with_reducible apply State.accessFails_leaves
    | with_reducible apply State.raise_leaves
    | (with_unfolding_none refine hW.covers ?_; repeat first | with_unfolding_none exact dyn_in | with_unfolding_none refine Covered.next ?_)
    | with_unfolding_none apply hW.sub (inAny)
    | with_unfolding_none apply hW.sub (inNil)
    | (with_reducible refine Within.trans ?_ hL; decide +kernel)
    | (extract_lets +onlyGivenNames letX; have letT : True := (by clear_value letX; guard_hyp letX : State; trivial); clear letT; refine Leaves.cut (W := W) (L := L) (r := org) (v := letX) ?_ (fun letH => ?_); (focus subst letX); rotate_left; clear_value letX; revert letX; intro _ _)
    | (extract_lets +onlyGivenNames letX; clear_value letX; revert letX; intro _)
    | with_reducible refine Leaves.iteP ?_ ?_
    | with_reducible refine forEach_leaves ?_ (fun _ _ _ => ?_)
    | split
    | with_reducible refine Leaves.ofPair (by assumption) ?_

theorem State.answerWrite_leaves {W : List Span} {L : List Part} {org s : State} (h : HeldWrite) (hs : Leaves W L org s)
    (hW : Inside (anyKey :: []) W) (hL : Within ([.barriers, .collector, .fences, .free, .heldWrites, .landing, .out, .resp, .rings, .shadows, .signing, .staged] : List Part) L) :
    Leaves W L org (State.answerWrite s h) := by
  delta State.answerWrite
  repeat' first
    | with_reducible assumption
    | with_reducible apply State.accessFails_leaves
    | with_reducible apply State.writeBy_leaves
    | with_reducible apply State.writeAnswered_leaves
    | with_unfolding_none apply hW.sub (inAny)
    | (with_reducible refine Within.trans ?_ hL; decide +kernel)
    | (extract_lets +onlyGivenNames letX; have letT : True := (by clear_value letX; revert letX; with_reducible exact Keeps.isPair); clear letT; refine Leaves.cut (W := W) (L := L) (r := org) (v := letX.2) ?_ (fun letH => ?_); (focus subst letX); rotate_left; clear_value letX; revert letX; intro _ _)
    | (extract_lets +onlyGivenNames letX; clear_value letX; revert letX; intro _)
    | with_reducible refine Leaves.iteP ?_ ?_
    | with_reducible refine Leaves.ite ?_ ?_
    | split
    | with_reducible refine Leaves.ofPair (by assumption) ?_

theorem State.performWrite_leaves {W : List Span} {L : List Part} {org s : State} (h : HeldWrite) (hs : Leaves W L org s)
    (hW : Inside (anyKey :: []) W) (hL : Within ([.barriers, .collector, .fences, .free, .heldWrites, .landing, .out, .resp, .rings, .shadows, .signing, .staged] : List Part) L) :
    Leaves W L org (State.performWrite s h) := by
  delta State.performWrite
  repeat' first
    | with_reducible assumption
    | with_reducible apply State.rpdoWrite_leaves
    | with_reducible apply State.answerWrite_leaves
    | with_unfolding_none apply hW.sub (inAny)
    | (with_reducible refine Within.trans ?_ hL; decide +kernel)
    | with_reducible refine Leaves.ite ?_ ?_

theorem State.holdBack_leaves {W : List Span} {L : List Part} {org s : State} (h : HeldWrite) (hs : Leaves W L org s)
    (hW : Inside (each FRAME_RESP :: each PT_RESULT :: one SPI_PORT.BUSY_ANSWERS :: one SPI_PORT.CRC_ERRORS :: one TWO_WIRE_STATUS.BUSY_ANSWERS :: one TWO_WIRE_STATUS.CRC_ERRORS :: []) W) (hL : Within ([.heldWrites, .resp] : List Part) L) :
    Leaves W L org (State.holdBack s h) := by
  delta State.holdBack
  repeat' first
    | with_reducible assumption
    | with_reducible apply State.frameError_leaves
    | with_reducible apply State.transferResult_leaves
    | with_reducible apply State.answer_leaves
    | with_unfolding_none apply hW.sub (inBoth (inSkip (inBoth (inBoth (inBoth (inBoth inNil))))))
    | with_unfolding_none apply hW.sub (inSkip (PT_RESULT_wide inNil))
    | with_unfolding_none apply hW.sub (inNil)
    | (with_reducible refine Within.trans ?_ hL; decide +kernel)
    | (extract_lets +onlyGivenNames letX; have letT : True := (by clear_value letX; guard_hyp letX : State; trivial); clear letT; refine Leaves.cut (W := W) (L := L) (r := org) (v := letX) ?_ (fun letH => ?_); (focus subst letX); rotate_left; clear_value letX; revert letX; intro _ _)
    | with_reducible refine Leaves.ite ?_ ?_
    | split
    | with_reducible refine Leaves.update ?_ ?_ ?_ ?_ ?_ ?_ ?_ ?_ ?_ ?_ ?_ ?_ ?_ ?_ ?_ ?_ ?_ ?_ ?_
    | with_reducible exact Or.inl rfl
    | with_reducible exact Or.inr (hL _ (by decide +kernel))
    | with_reducible refine Leaves.ofPair (by assumption) ?_

theorem State.takeWrite_leaves {W : List Span} {L : List Part} {org s : State} (h : HeldWrite) (hs : Leaves W L org s)
    (hW : Inside (anyKey :: []) W) (hL : Within ([.barriers, .collector, .fences, .free, .heldWrites, .landing, .out, .resp, .rings, .shadows, .signing, .staged] : List Part) L) :
    Leaves W L org (State.takeWrite s h) := by
  delta State.takeWrite
  repeat' first
    | with_reducible assumption
    | with_reducible apply State.holdBack_leaves
    | with_reducible apply State.performWrite_leaves
    | with_unfolding_none apply hW.sub (inAny)
    | (with_reducible refine Within.trans ?_ hL; decide +kernel)
    | with_reducible refine Leaves.ite ?_ ?_

theorem State.usdoSecond_leaves {W : List Span} {L : List Part} {org s : State} (p : CanPort) (t addr : Nat) (h : Leaves W L org s)
    (hW : Inside (one (CAN_PORT.TX_FRAMES p) :: one (LAST_ACCESS.ABORT_COUNT t) :: one (LAST_ACCESS.LAST_ABORT t) :: one (LAST_ACCESS.LAST_ABORT_ADDRESS t) :: []) W) (hL : Within ([.resp] : List Part) L) :
    Leaves W L org (State.usdoSecond s p t addr) := by
  delta State.usdoSecond
  repeat' first
    | with_reducible assumption
    | with_reducible apply State.accessFails_leaves
    | with_reducible apply State.usdoAnswer_leaves
    | with_unfolding_none apply hW.sub (inSkip (inBoth (inBoth (inBoth inNil))))
    | with_unfolding_none apply hW.sub (inBoth inNil)
    | (with_reducible refine Within.trans ?_ hL; decide +kernel)

theorem State.windowWrite_leaves {W : List Span} {L : List Part} {org s : State} (f : Func) (addr : Nat) (data : List Byte) (h : Leaves W L org s)
    (hW : Inside (anyKey :: []) W) (hL : Within ([.barriers, .collector, .fences, .free, .heldWrites, .landing, .out, .resp, .rings, .shadows, .signing, .staged] : List Part) L) :
    Leaves W L org (State.windowWrite s f addr data) := by
  delta State.windowWrite
  repeat' first
    | with_reducible assumption
    | with_reducible apply State.answer_leaves
    | with_reducible apply State.takeWrite_leaves
    | with_unfolding_none apply hW.sub (inNil)
    | with_unfolding_none apply hW.sub (inAny)
    | (with_reducible refine Within.trans ?_ hL; decide +kernel)
    | with_reducible refine Leaves.ite ?_ ?_
    | with_reducible refine forBelow_leaves ?_ (fun _ _ _ => ?_)
    | split
    | with_reducible refine Leaves.ofPair (by assumption) ?_

theorem State.hostWrite_leaves {W : List Span} {L : List Part} {org s : State} (ep : Endpoint) (form : WriteForm) (addr : Nat) (data : List Byte) (h : Leaves W L org s)
    (hW : Inside (anyKey :: []) W) (hL : Within ([.barriers, .collector, .fences, .free, .heldWrites, .landing, .out, .resp, .rings, .shadows, .signing, .staged] : List Part) L) :
    Leaves W L org (State.hostWrite s ep form addr data) := by
  delta State.hostWrite
  repeat' first
    | with_reducible assumption
    | with_reducible apply State.answer_leaves
    | with_reducible apply State.accessArrives_leaves
    | with_reducible apply State.usdoSecond_leaves
    | with_reducible apply State.windowWrite_leaves
    | with_reducible apply State.takeWrite_leaves
    | with_reducible apply State.respond_leaves
    | with_unfolding_none apply hW.sub (inNil)
    | with_unfolding_none apply hW.sub (inAny)
    | (with_reducible refine Within.trans ?_ hL; decide +kernel)
    | (extract_lets +onlyGivenNames letX; have letT : True := (by clear_value letX; guard_hyp letX : State; trivial); clear letT; refine Leaves.cut (W := W) (L := L) (r := org) (v := letX) ?_ (fun letH => ?_); (focus subst letX); rotate_left; clear_value letX; revert letX; intro _ _)
    | with_reducible refine Leaves.ite ?_ ?_
    | split
    | with_reducible refine Leaves.ofPair (by assumption) ?_

theorem State.hostWriteInt_leaves {W : List Span} {L : List Part} {org s : State} (ep : Endpoint) (addr : Nat) (v : Int) (h : Leaves W L org s)
    (hW : Inside (anyKey :: []) W) (hL : Within ([.barriers, .collector, .fences, .free, .heldWrites, .landing, .out, .resp, .rings, .shadows, .signing, .staged] : List Part) L) :
    Leaves W L org (State.hostWriteInt s ep addr v) := by
  delta State.hostWriteInt
  repeat' first
    | with_reducible assumption
    | with_reducible apply State.hostWrite_leaves
    | with_unfolding_none apply hW.sub (inAny)
    | (with_reducible refine Within.trans ?_ hL; decide +kernel)

theorem releaseWrites_leaves {W : List Span} {L : List Part} {org s : State} (l : List HeldWrite) (hs : Leaves W L org s)
    (hW : Inside (anyKey :: []) W) (hL : Within ([.barriers, .collector, .fences, .free, .heldWrites, .landing, .out, .resp, .rings, .shadows, .signing, .staged] : List Part) L) :
    Leaves W L org (releaseWrites l s) := by
  induction l generalizing s with
  | nil => exact hs
  | cons h l ih =>
    unfold releaseWrites
    split
    · exact hs
    · refine ih (State.performWrite_leaves h (Leaves.update hs (.inl rfl) (.inl rfl) (.inl rfl) (.inl rfl) (.inl rfl)
        (.inr (hL _ (by decide +kernel))) (.inl rfl) (.inl rfl) (.inl rfl) (.inl rfl) (.inl rfl) (.inl rfl)
        (.inl rfl) (.inl rfl) (.inl rfl) (.inl rfl) (.inl rfl) (.inl rfl)) (Inside.trans inAny hW) (Within.trans (by decide +kernel) hL))

theorem State.barrierDone_leaves {W : List Span} {L : List Part} {org s : State} (t : Nat) (h : Leaves W L org s)
    (hW : Inside (anyKey :: []) W) (hL : Within ([.barriers, .collector, .fences, .free, .heldWrites, .landing, .out, .resp, .rings, .shadows, .signing, .staged] : List Part) L) :
    Leaves W L org (State.barrierDone s t) := by
  delta State.barrierDone
  repeat' first
    | with_reducible assumption
    | with_reducible apply State.barrierClose_leaves
    | with_reducible apply releaseWrites_leaves
    | with_unfolding_none apply hW.sub (inAny)
    | (with_reducible refine Within.trans ?_ hL; decide +kernel)
    | (extract_lets +onlyGivenNames letX; have letT : True := (by clear_value letX; guard_hyp letX : State; trivial); clear letT; refine Leaves.cut (W := W) (L := L) (r := org) (v := letX) ?_ (fun letH => ?_); (focus subst letX); rotate_left; clear_value letX; revert letX; intro _ _)

theorem State.slotRead_leaves {W : List Span} {L : List Part} {org s : State} (f : Func) (addr : Nat) (h : Leaves W L org s)
    (hW : Inside (anyKey :: []) W) (hL : Within ([.out, .resp, .rings] : List Part) L) :
    Leaves W L org (State.slotRead s f addr) := by
  delta State.slotRead
  repeat' first
    | with_reducible assumption
    | with_reducible apply State.countAccess_leaves
    | with_reducible apply State.answer_leaves
    | with_reducible apply State.readBy_leaves
    | with_unfolding_none apply hW.sub (inAny)
    | with_unfolding_none apply hW.sub (inNil)
    | (with_reducible refine Within.trans ?_ hL; decide +kernel)
    | (extract_lets +onlyGivenNames letX; clear_value letX; revert letX; intro _)
    | with_reducible refine Leaves.iteP ?_ ?_
    | with_reducible refine Leaves.ite ?_ ?_
    | split
    | with_reducible refine Leaves.ofPair (by assumption) ?_

theorem State.frameRead_leaves {W : List Span} {L : List Part} {org s : State} (ep : Endpoint) (addr off len : Nat) (h : Leaves W L org s)
    (hW : Inside (anyKey :: []) W) (hL : Within ([.out, .resp, .rings] : List Part) L) :
    Leaves W L org (State.frameRead s ep addr off len) := by
  delta State.frameRead
  repeat' first
    | with_reducible assumption
    | with_reducible apply State.readBy_leaves
    | with_reducible apply State.respond_leaves
    | with_unfolding_none apply hW.sub (inAny)
    | (with_reducible refine Within.trans ?_ hL; decide +kernel)
    | (extract_lets +onlyGivenNames letX; clear_value letX; revert letX; intro _)
    | with_reducible refine Leaves.iteP ?_ ?_
    | split
    | with_reducible refine Leaves.ofPair (by assumption) ?_

theorem State.usdoRead_leaves {W : List Span} {L : List Part} {org s : State} (p : CanPort) (t addr : Nat) (h : Leaves W L org s)
    (hW : Inside (anyKey :: []) W) (hL : Within ([.out, .resp, .rings] : List Part) L) :
    Leaves W L org (State.usdoRead s p t addr) := by
  delta State.usdoRead
  repeat' first
    | with_reducible assumption
    | with_reducible apply State.readBy_leaves
    | with_reducible apply State.usdoAnswer_leaves
    | with_unfolding_none apply hW.sub (inAny)
    | (with_reducible refine Within.trans ?_ hL; decide +kernel)
    | with_reducible refine Leaves.iteP ?_ ?_
    | split
    | with_reducible refine Leaves.ofPair (by assumption) ?_

theorem State.hostRead_leaves {W : List Span} {L : List Part} {org s : State} (ep : Endpoint) (addr : Nat) (h : Leaves W L org s)
    (hW : Inside (anyKey :: []) W) (hL : Within ([.out, .resp, .rings] : List Part) L) :
    Leaves W L org (State.hostRead s ep addr) := by
  delta State.hostRead
  repeat' first
    | with_reducible assumption
    | with_reducible apply State.answer_leaves
    | with_reducible apply State.accessArrives_leaves
    | with_reducible apply State.usdoSecond_leaves
    | with_reducible apply State.usdoRead_leaves
    | with_reducible apply State.slotRead_leaves
    | with_reducible apply State.frameRead_leaves
    | with_unfolding_none apply hW.sub (inNil)
    | with_unfolding_none apply hW.sub (inAny)
    | (with_reducible refine Within.trans ?_ hL; decide +kernel)
    | (extract_lets +onlyGivenNames letX; have letT : True := (by clear_value letX; guard_hyp letX : State; trivial); clear letT; refine Leaves.cut (W := W) (L := L) (r := org) (v := letX) ?_ (fun letH => ?_); (focus subst letX); rotate_left; clear_value letX; revert letX; intro _ _)
    | with_reducible refine Leaves.ite ?_ ?_
    | split
    | with_reducible refine Leaves.ofPair (by assumption) ?_

theorem State.requestFrame_leaves {W : List Span} {L : List Part} {org s : State} (ep : Endpoint) (cmd addr len : Nat) (more : List Byte) (crc : Nat) (badLen : Bool) (act : State → State) (h : Leaves W L org s) (hf : ∀ x, Leaves W L org x → Leaves W L org (act x))
    (hW : Inside (each CAN_PORT.RX_FRAMES :: each FRAME_RESP :: one SPI_PORT.BUSY_ANSWERS :: one SPI_PORT.CRC_ERRORS :: one SPI_PORT.FRAMES :: one TWO_WIRE_STATUS.BUSY_ANSWERS :: one TWO_WIRE_STATUS.CRC_ERRORS :: []) W) (hL : Within ([.resp] : List Part) L) :
    Leaves W L org (State.requestFrame s ep cmd addr len more crc badLen act) := by
  delta State.requestFrame
  repeat' first
    | with_reducible assumption
    | with_reducible apply State.answer_leaves
    | with_reducible apply State.accessArrives_leaves
    | with_reducible apply State.frameError_leaves
    | with_reducible apply State.respond_leaves
    | with_unfolding_none apply hW.sub (inNil)
    | with_unfolding_none apply hW.sub (inBoth (inSkip (inSkip (inSkip (inBoth inNil)))))
    | with_unfolding_none apply hW.sub (inSkip (inBoth (inBoth (inBoth (inSkip (inBoth (inBoth inNil)))))))
    | with_unfolding_none apply hW.sub (inSkip (inBoth inNil))
    | (with_reducible refine Within.trans ?_ hL; decide +kernel)
    | (extract_lets +onlyGivenNames letX; have letT : True := (by clear_value letX; guard_hyp letX : State; trivial); clear letT; refine Leaves.cut (W := W) (L := L) (r := org) (v := letX) ?_ (fun letH => ?_); (focus subst letX); rotate_left; clear_value letX; revert letX; intro _ _)
    | with_reducible refine Leaves.ite ?_ ?_
    | (with_reducible apply hf)

theorem State.frameLoad_leaves {W : List Span} {L : List Part} {org s : State} (ep : Endpoint) (off : Nat) (data : List Byte) (h : Leaves W L org s)
    (hW : Inside (each FRAME_BUF :: each FRAME_RESP :: []) W) (hL : Within ([.resp] : List Part) L) :
    Leaves W L org (State.frameLoad s ep off data) := by
  delta State.frameLoad
  repeat' first
    | with_reducible assumption
    | with_reducible apply State.setBlob_leaves
    | with_reducible apply State.respond_leaves
    | (with_unfolding_none refine hW.covers ?_; repeat first | with_unfolding_none exact Covered.here | with_unfolding_none exact FRAME_BUF_in | with_unfolding_none refine Covered.next ?_)
    | with_unfolding_none apply hW.sub (inSkip (inBoth inNil))
    | (with_reducible refine Within.trans ?_ hL; decide +kernel)
    | (extract_lets +onlyGivenNames letX; clear_value letX; revert letX; intro _)

theorem State.frameBuffer_leaves {W : List Span} {L : List Part} {org s : State} (ep : Endpoint) (addr len : Nat) (h : Leaves W L org s)
    (hW : Inside (anyKey :: []) W) (hL : Within ([.barriers, .collector, .fences, .free, .heldWrites, .landing, .out, .resp, .rings, .shadows, .signing, .staged] : List Part) L) :
    Leaves W L org (State.frameBuffer s ep addr len) := by
  delta State.frameBuffer
  repeat' first
    | with_reducible assumption
    | with_reducible apply State.takeWrite_leaves
    | with_unfolding_none apply hW.sub (inAny)
    | (with_reducible refine Within.trans ?_ hL; decide +kernel)

theorem State.frameBroken_leaves {W : List Span} {L : List Part} {org s : State} (ep : Endpoint) (h : Leaves W L org s)
    (hW : Inside (one SPI_PORT.BROKEN_FRAMES :: one TWO_WIRE_STATUS.BROKEN_FRAMES :: []) W) :
    Leaves W L org (State.frameBroken s ep) := by
  delta State.frameBroken
  repeat' first
    | with_reducible assumption
    | with_reducible apply State.count_leaves
    | (with_unfolding_none refine hW.covers ?_; repeat first | with_unfolding_none exact Covered.here | with_unfolding_none exact SPI_PORT.BROKEN_FRAMES_in | with_unfolding_none exact TWO_WIRE_STATUS.BROKEN_FRAMES_in | with_unfolding_none refine Covered.next ?_)
    | with_reducible refine Leaves.ite ?_ ?_
    | split
    | with_reducible refine Leaves.ofPair (by assumption) ?_

theorem State.spiConflict_leaves {W : List Span} {L : List Part} {org s : State} (h : Leaves W L org s)
    (hW : Inside (one SPI_PORT.CS_CONFLICTS :: []) W) :
    Leaves W L org (State.spiConflict s) := by
  delta State.spiConflict
  repeat' first
    | with_reducible assumption
    | with_reducible apply State.count_leaves
    | (with_unfolding_none refine hW.covers ?_; repeat first | with_unfolding_none exact Covered.here | with_unfolding_none exact SPI_PORT.CS_CONFLICTS_in | with_unfolding_none refine Covered.next ?_)
    | with_reducible refine Leaves.ite ?_ ?_

theorem State.responseFetch_leaves {W : List Span} {L : List Part} {org s : State} (a : Nat) (h : Leaves W L org s)
    (hW : Inside (one (FRAME_RESP (a % 256)) :: []) W) (hL : Within ([.resp] : List Part) L) :
    Leaves W L org (State.responseFetch s a) := by
  delta State.responseFetch
  repeat' first
    | with_reducible assumption
    | with_reducible apply State.setBlob_leaves
    | with_reducible apply State.answer_leaves
    | (with_unfolding_none refine hW.covers ?_; repeat first | with_unfolding_none exact Covered.here | with_unfolding_none refine Covered.next ?_)
    | with_unfolding_none apply hW.sub (inNil)
    | (with_reducible refine Within.trans ?_ hL; decide +kernel)
    | with_reducible refine Leaves.ite ?_ ?_
    | split
    | with_reducible refine Leaves.ofPair (by assumption) ?_

theorem State.usdoAccess_leaves {W : List Span} {L : List Part} {org s : State} (p : CanPort) (t : Nat) (write : Bool) (addr : Nat) (data : List Byte) (h : Leaves W L org s)
    (hW : Inside (anyKey :: []) W) (hL : Within ([.barriers, .collector, .fences, .free, .heldWrites, .landing, .out, .resp, .rings, .shadows, .signing, .staged] : List Part) L) :
    Leaves W L org (State.usdoAccess s p t write addr data) := by
  delta State.usdoAccess
  repeat' first
    | with_reducible assumption
    | with_reducible apply State.takeWrite_leaves
    | with_reducible apply State.usdoRead_leaves
    | with_unfolding_none apply hW.sub (inAny)
    | (with_reducible refine Within.trans ?_ hL; decide +kernel)
    | with_reducible refine Leaves.ite ?_ ?_

theorem State.usdoOpens_leaves {W : List Span} {L : List Part} {org s : State} (t : Nat) (write : Bool) (addr : Nat) (h : Leaves W L org s)
    (hW : Inside (one (USDO_AT t) :: one (USDO_OPEN t) :: one (USDO_WRITES t) :: []) W) :
    Leaves W L org (State.usdoOpens s t write addr) := by
  delta State.usdoOpens
  repeat' first
    | with_reducible assumption
    | with_reducible apply State.setN_leaves
    | with_reducible apply State.setFlag_leaves
    | (with_unfolding_none refine hW.covers ?_; repeat first | with_unfolding_none exact Covered.here | with_unfolding_none refine Covered.next ?_)

theorem State.usdoBegin_leaves {W : List Span} {L : List Part} {org s : State} (p : CanPort) (t : Nat) (write last : Bool) (addr : Nat) (data : List Byte) (h : Leaves W L org s)
    (hW : Inside (anyKey :: []) W) (hL : Within ([.barriers, .collector, .fences, .free, .heldWrites, .landing, .out, .resp, .rings, .shadows, .signing, .staged] : List Part) L) :
    Leaves W L org (State.usdoBegin s p t write last addr data) := by
  delta State.usdoBegin
  repeat' first
    | with_reducible assumption
    | with_reducible apply State.setBlob_leaves
    | with_reducible apply State.usdoAccess_leaves
    | with_reducible apply State.usdoOpens_leaves
    | with_reducible apply State.usdoAnswer_leaves
    | with_reducible apply State.readBy_leaves
    | (with_unfolding_none refine hW.covers ?_; repeat first | with_unfolding_none exact dyn_in | with_unfolding_none refine Covered.next ?_)
    | with_unfolding_none apply hW.sub (inAny)
    | (with_reducible refine Within.trans ?_ hL; decide +kernel)
    | with_reducible refine Leaves.iteP ?_ ?_
    | with_reducible refine Leaves.ite ?_ ?_
    | split
    | with_reducible refine Leaves.ofPair (by assumption) ?_

theorem State.usdoGoesOn_leaves {W : List Span} {L : List Part} {org s : State} (p : CanPort) (t : Nat) (last : Bool) (data : List Byte) (h : Leaves W L org s)
    (hW : Inside (anyKey :: []) W) (hL : Within ([.barriers, .collector, .fences, .free, .heldWrites, .landing, .out, .resp, .rings, .shadows, .signing, .staged] : List Part) L) :
    Leaves W L org (State.usdoGoesOn s p t last data) := by
  delta State.usdoGoesOn
  repeat' first
    | with_reducible assumption
    | with_reducible apply State.setN_leaves
    | with_reducible apply State.setBlob_leaves
    | with_reducible apply State.usdoClose_leaves
    | with_reducible apply State.usdoAccess_leaves
    | with_reducible apply State.usdoAnswer_leaves
    | (with_unfolding_none refine hW.covers ?_; repeat first | with_unfolding_none exact dyn_in | with_unfolding_none refine Covered.next ?_)
    | with_unfolding_none apply hW.sub (inAny)
    | (with_reducible refine Within.trans ?_ hL; decide +kernel)
    | (extract_lets +onlyGivenNames letX; have letT : True := (by clear_value letX; guard_hyp letX : State; trivial); clear letT; refine Leaves.cut (W := W) (L := L) (r := org) (v := letX) ?_ (fun letH => ?_); (focus subst letX); rotate_left; clear_value letX; revert letX; intro _ _)
    | (extract_lets +onlyGivenNames letX; clear_value letX; revert letX; intro _)
    | with_reducible refine Leaves.ite ?_ ?_

theorem State.usdoRequest_leaves {W : List Span} {L : List Part} {org s : State} (t : Nat) (begins write last : Bool) (addr : Nat) (data : List Byte) (h : Leaves W L org s)
    (hW : Inside (anyKey :: []) W) (hL : Within ([.barriers, .collector, .fences, .free, .heldWrites, .landing, .out, .resp, .rings, .shadows, .signing, .staged] : List Part) L) :
    Leaves W L org (State.usdoRequest s t begins write last addr data) := by
  delta State.usdoRequest
  repeat' first
    | with_reducible assumption
    | with_reducible apply State.answer_leaves
    | with_reducible apply State.accessArrives_leaves
    | with_reducible apply State.usdoSecond_leaves
    | with_reducible apply State.usdoBegin_leaves
    | with_reducible apply State.usdoGoesOn_leaves
    | with_reducible apply State.usdoAnswer_leaves
    | with_unfolding_none apply hW.sub (inNil)
    | with_unfolding_none apply hW.sub (inAny)
    | (with_reducible refine Within.trans ?_ hL; decide +kernel)
    | (extract_lets +onlyGivenNames letX; have letT : True := (by clear_value letX; guard_hyp letX : State; trivial); clear letT; refine Leaves.cut (W := W) (L := L) (r := org) (v := letX) ?_ (fun letH => ?_); (focus subst letX); rotate_left; clear_value letX; revert letX; intro _ _)
    | with_reducible refine Leaves.ite ?_ ?_
    | split
    | with_reducible refine Leaves.ofPair (by assumption) ?_

theorem State.rpdoTake_leaves {W : List Span} {L : List Part} {org s : State} (x : Nat) (data : List Byte) (h : Leaves W L org s)
    (hW : Inside (anyKey :: []) W) (hL : Within ([.barriers, .collector, .fences, .free, .heldWrites, .landing, .out, .resp, .rings, .shadows, .signing, .staged] : List Part) L) :
    Leaves W L org (State.rpdoTake s x data) := by
  delta State.rpdoTake
  repeat' first
    | with_reducible assumption
    | with_reducible apply State.performWrite_leaves
    | with_unfolding_none apply hW.sub (inAny)
    | (with_reducible refine Within.trans ?_ hL; decide +kernel)
    | (extract_lets +onlyGivenNames letX; clear_value letX; revert letX; intro _)
    | with_reducible refine Leaves.ite ?_ ?_
    | with_reducible refine Leaves.update ?_ ?_ ?_ ?_ ?_ ?_ ?_ ?_ ?_ ?_ ?_ ?_ ?_ ?_ ?_ ?_ ?_ ?_ ?_
    | with_reducible exact Or.inl rfl
    | with_reducible exact Or.inr (hL _ (by decide +kernel))

theorem State.rpdoReceived_leaves {W : List Span} {L : List Part} {org s : State} (x : Nat) (data : List Byte) (h : Leaves W L org s)
    (hW : Inside (anyKey :: []) W) (hL : Within ([.barriers, .collector, .fences, .free, .heldWrites, .landing, .out, .resp, .rings, .shadows, .signing, .staged] : List Part) L) :
    Leaves W L org (State.rpdoReceived s x data) := by
  delta State.rpdoReceived
  repeat' first
    | with_reducible assumption
    | with_reducible apply State.setN_leaves
    | with_reducible apply State.count_leaves
    | with_reducible apply State.wrapCount_leaves
    | with_reducible apply State.setBlob_leaves
    | with_reducible apply State.raise_leaves
    | with_reducible apply State.rpdoTake_leaves
    | (with_unfolding_none refine hW.covers ?_; repeat first | with_unfolding_none exact dyn_in | with_unfolding_none refine Covered.next ?_)
    | with_unfolding_none apply hW.sub (inNil)
    | with_unfolding_none apply hW.sub (inAny)
    | (with_reducible refine Within.trans ?_ hL; decide +kernel)
    | (extract_lets +onlyGivenNames letX; have letT : True := (by clear_value letX; guard_hyp letX : State; trivial); clear letT; refine Leaves.cut (W := W) (L := L) (r := org) (v := letX) ?_ (fun letH => ?_); (focus subst letX); rotate_left; clear_value letX; revert letX; intro _ _)
    | (extract_lets +onlyGivenNames letX; clear_value letX; revert letX; intro _)
    | with_reducible refine Leaves.ite ?_ ?_

theorem State.rpdoSync_leaves {W : List Span} {L : List Part} {org s : State} (x : Nat) (h : Leaves W L org s)
    (hW : Inside (anyKey :: []) W) (hL : Within ([.barriers, .collector, .fences, .free, .heldWrites, .landing, .out, .resp, .rings, .shadows, .signing, .staged] : List Part) L) :
    Leaves W L org (State.rpdoSync s x) := by
  delta State.rpdoSync
  repeat' first
    | with_reducible assumption
    | with_reducible apply State.setN_leaves
    | with_reducible apply State.setBlob_leaves
    | with_reducible apply State.rpdoTake_leaves
    | (with_unfolding_none refine hW.covers ?_; repeat first | with_unfolding_none exact dyn_in | with_unfolding_none refine Covered.next ?_)
    | with_unfolding_none apply hW.sub (inAny)
    | (with_reducible refine Within.trans ?_ hL; decide +kernel)
    | (extract_lets +onlyGivenNames letX; clear_value letX; revert letX; intro _)
    | with_reducible refine Leaves.ite ?_ ?_

theorem State.syncReceived_leaves {W : List Span} {L : List Part} {org s : State} (p : Nat) (counter : Option Nat) (h : Leaves W L org s)
    (hW : Inside (anyKey :: []) W) (hL : Within ([.barriers, .canQueue, .collector, .fences, .free, .heldWrites, .landing, .out, .resp, .rings, .shadows, .signing, .staged] : List Part) L) :
    Leaves W L org (State.syncReceived s p counter) := by
  delta State.syncReceived
  repeat' first
    | with_reducible assumption
    | with_reducible apply State.wrapCount_leaves
    | with_reducible apply State.syncSeen_leaves
    | with_reducible apply State.tpdoSync_leaves
    | with_reducible apply State.rpdoSync_leaves
    | (with_unfolding_none refine hW.covers ?_; repeat first | with_unfolding_none exact dyn_in | with_unfolding_none refine Covered.next ?_)
    | with_unfolding_none apply hW.sub (inAny)
    | (with_reducible refine Within.trans ?_ hL; decide +kernel)
    | (extract_lets +onlyGivenNames letX; have letT : True := (by clear_value letX; guard_hyp letX : State; trivial); clear letT; refine Leaves.cut (W := W) (L := L) (r := org) (v := letX) ?_ (fun letH => ?_); (focus subst letX); rotate_left; clear_value letX; revert letX; intro _ _)
    | with_reducible refine Leaves.ite ?_ ?_
    | with_reducible refine forBelow_leaves ?_ (fun _ _ _ => ?_)

theorem State.transferFails_leaves {W : List Span} {L : List Part} {org s : State} (f : Func) (addr : Nat) (a : Abort) (h : Leaves W L org s)
    (hW : Inside (each LAST_ACCESS.ABORT_COUNT :: each LAST_ACCESS.LAST_ABORT :: each LAST_ACCESS.LAST_ABORT_ADDRESS :: []) W) :
    Leaves W L org (State.transferFails s f addr a) := by
  delta State.transferFails
  repeat' first
    | with_reducible assumption
    | with_reducible apply State.accessFails_leaves
    | with_unfolding_none apply hW.sub (LAST_ACCESS.ABORT_COUNT_wide (inSkip (LAST_ACCESS.LAST_ABORT_wide (inSkip (LAST_ACCESS.LAST_ABORT_ADDRESS_wide inNil)))))
    | split
    | with_reducible refine Leaves.ofPair (by assumption) ?_

theorem State.transfer_leaves {W : List Span} {L : List Part} {org s : State} (f : Func) (addr off len : Nat) (act : State → State) (h : Leaves W L org s) (hf : ∀ x, Leaves W L org x → Leaves W L org (act x))
    (hW : Inside (each LAST_ACCESS.ABORT_COUNT :: each LAST_ACCESS.LAST_ABORT :: each LAST_ACCESS.LAST_ABORT_ADDRESS :: one (PT_ADDR f) :: one (PT_RESULT f) :: []) W) (hL : Within ([.resp] : List Part) L) :
    Leaves W L org (State.transfer s f addr off len act) := by
  delta State.transfer
  repeat' first
    | with_reducible assumption
    | with_reducible apply State.setN_leaves
    | with_reducible apply State.answer_leaves
    | with_reducible apply State.transferFails_leaves
    | with_reducible apply State.transferResult_leaves
    | (with_unfolding_none refine hW.covers ?_; repeat first | with_unfolding_none exact Covered.here | with_unfolding_none refine Covered.next ?_)
    | with_unfolding_none apply hW.sub (inNil)
    | with_unfolding_none apply hW.sub (inBoth (inBoth (inBoth inNil)))
    | with_unfolding_none apply hW.sub (inSkip (inSkip (inSkip (inSkip (inBoth inNil)))))
    | (with_reducible refine Within.trans ?_ hL; decide +kernel)
    | (extract_lets +onlyGivenNames letX; have letT : True := (by clear_value letX; guard_hyp letX : State; trivial); clear letT; refine Leaves.cut (W := W) (L := L) (r := org) (v := letX) ?_ (fun letH => ?_); (focus subst letX); rotate_left; clear_value letX; revert letX; intro _ _)
    | with_reducible refine Leaves.ite ?_ ?_
    | (with_reducible apply hf)

theorem State.transferRead_leaves {W : List Span} {L : List Part} {org s : State} (f : Func) (addr off len : Nat) (h : Leaves W L org s)
    (hW : Inside (anyKey :: []) W) (hL : Within ([.out, .resp, .rings] : List Part) L) :
    Leaves W L org (State.transferRead s f addr off len) := by
  delta State.transferRead
  repeat' first
    | with_reducible assumption
    | with_reducible apply State.setBlob_leaves
    | with_reducible apply State.transfer_leaves
    | with_reducible apply State.readBy_leaves
    | with_reducible apply State.transferResult_leaves
    | with_reducible apply State.answer_leaves
    | (with_unfolding_none refine hW.covers ?_; repeat first | with_unfolding_none exact dyn_in | with_unfolding_none refine Covered.next ?_)
    | with_unfolding_none apply hW.sub (inAny)
    | with_unfolding_none apply hW.sub (inNil)
    | (with_reducible refine Within.trans ?_ hL; decide +kernel)
    | (extract_lets +onlyGivenNames letX; clear_value letX; revert letX; intro _)
    | with_reducible refine Leaves.iteP ?_ ?_
    | (intro _ _ _)
    | (intro _ _)
    | split
    | with_reducible refine Leaves.ofPair (by assumption) ?_

theorem State.transferWrite_leaves {W : List Span} {L : List Part} {org s : State} (f : Func) (addr len : Nat) (data : List Byte) (h : Leaves W L org s)
    (hW : Inside (anyKey :: []) W) (hL : Within ([.barriers, .collector, .fences, .free, .heldWrites, .landing, .out, .resp, .rings, .shadows, .signing, .staged] : List Part) L) :
    Leaves W L org (State.transferWrite s f addr len data) := by
  delta State.transferWrite
  repeat' first
    | with_reducible assumption
    | with_reducible apply State.setBlob_leaves
    | with_reducible apply State.transfer_leaves
    | with_reducible apply State.takeWrite_leaves
    | (with_unfolding_none refine hW.covers ?_; repeat first | with_unfolding_none exact dyn_in | with_unfolding_none refine Covered.next ?_)
    | with_unfolding_none apply hW.sub (inAny)
    | (with_reducible refine Within.trans ?_ hL; decide +kernel)
    | (extract_lets +onlyGivenNames letX; have letT : True := (by clear_value letX; guard_hyp letX : State; trivial); clear letT; refine Leaves.cut (W := W) (L := L) (r := org) (v := letX) ?_ (fun letH => ?_); (focus subst letX); rotate_left; clear_value letX; revert letX; intro _ _)
    | with_reducible refine Leaves.ite ?_ ?_
    | (intro _ _ _)
    | (intro _ _)

theorem State.ringHeadPop_leaves {W : List Span} {L : List Part} {org s : State} (f : Func) (i k : Nat) (h : Leaves W L org s)
    (hW : Inside (one EVENT_FABRIC.RECORDS_PLACED :: each LAST_ACCESS.ABORT_COUNT :: each LAST_ACCESS.LAST_ABORT :: each LAST_ACCESS.LAST_ABORT_ADDRESS :: one LOAD_ACCESS :: each MSIX_HELD :: each OVF_DROPS :: one (POP_BUF f) :: one (POP_RESULT f) :: each RING.HIGH_WATER :: each RING.SEQUENCE :: each RING_RR :: each TARGET.RAISES :: each TARGET.TARGET_STATE :: each TG_BEGAN :: each TG_COUNT :: each TG_LOW :: []) W) (hL : Within ([.free, .out, .rings] : List Part) L) :
    Leaves W L org (State.ringHeadPop s f i k) := by
  delta State.ringHeadPop
  repeat' first
    | with_reducible assumption
    | with_reducible apply State.setN_leaves
    | with_reducible apply State.setBlob_leaves
    | with_reducible apply State.takeFreeIn_leaves
    | with_reducible apply State.accessFails_leaves
    | with_reducible apply State.afterPop_leaves
    | with_reducible apply State.countAccess_leaves
    | (with_unfolding_none refine hW.covers ?_; repeat first | with_unfolding_none exact Covered.here | with_unfolding_none refine Covered.next ?_)
    | with_unfolding_none apply hW.sub (inSkip (LAST_ACCESS.ABORT_COUNT_wide (inSkip (LAST_ACCESS.LAST_ABORT_wide (inSkip (LAST_ACCESS.LAST_ABORT_ADDRESS_wide inNil))))))
    | with_unfolding_none apply hW.sub (inBoth (inSkip (inSkip (inSkip (inSkip (inBoth (OVF_DROPS_wide (inSkip (inSkip (inSkip (RING.HIGH_WATER_wide (inSkip (RING.SEQUENCE_wide (inSkip (RING_RR_wide (inSkip (inBoth (inBoth (inBoth (inBoth (inBoth inNil)))))))))))))))))))))
    | with_unfolding_none apply hW.sub (inSkip (inSkip (inSkip (inSkip (inBoth inNil)))))
    | (with_reducible refine Within.trans ?_ hL; decide +kernel)
    | with_reducible exact hL _ (by decide +kernel)
    | (extract_lets +onlyGivenNames letX; have letT : True := (by clear_value letX; guard_hyp letX : State; trivial); clear letT; refine Leaves.cut (W := W) (L := L) (r := org) (v := letX) ?_ (fun letH => ?_); (focus subst letX); rotate_left; clear_value letX; revert letX; intro _ _)
    | (extract_lets +onlyGivenNames letX; have letT : True := (by clear_value letX; revert letX; with_reducible exact Keeps.isPair); clear letT; refine Leaves.cut (W := W) (L := L) (r := org) (v := letX.2) ?_ (fun letH => ?_); (focus subst letX); rotate_left; clear_value letX; revert letX; intro _ _)
    | (extract_lets +onlyGivenNames letX; clear_value letX; revert letX; intro _)
    | with_reducible refine Leaves.iteP ?_ ?_
    | with_reducible refine Leaves.ite ?_ ?_
    | split
    | with_reducible refine Leaves.ofPair (by assumption) ?_

theorem execObjectWrite_frame {W : List Span} {L : List Part} {org s : State} (ep : Endpoint) (addr : Nat) (data : List Byte) (h : Leaves W L org s)
    (hW : Inside (anyKey :: []) W)
    (hL : Within ([.barriers, .collector, .fences, .free, .heldWrites, .landing, .out, .resp, .rings, .shadows, .signing, .staged] : List Part) L) : RunsIn W L org (execObjectWrite ep addr data s) := by
  delta execObjectWrite
  repeat' first
    | with_reducible assumption
    | with_reducible refine RunsIn.next ?_
    | with_reducible apply State.hostWrite_leaves
    | with_unfolding_none apply hW.sub (inAny)

theorem execLevelViewWrite_frame {W : List Span} {L : List Part} {org s : State} (ep : Endpoint) (n : Chan) (sub : Fin 4) (v : Int) (h : Leaves W L org s)
    (hW : Inside (anyKey :: []) W)
    (hL : Within ([.barriers, .collector, .fences, .free, .heldWrites, .landing, .out, .resp, .rings, .shadows, .signing, .staged] : List Part) L) : RunsIn W L org (execLevelViewWrite ep n sub v s) := by
  delta execLevelViewWrite
  repeat' first
    | with_reducible assumption
    | with_reducible refine RunsIn.next ?_
    | with_reducible apply State.hostWriteInt_leaves
    | with_unfolding_none apply hW.sub (inAny)

theorem execCommit_frame {W : List Span} {L : List Part} {org s : State} (ep : Endpoint) (v : Nat) (h : Leaves W L org s)
    (hW : Inside (anyKey :: []) W)
    (hL : Within ([.barriers, .collector, .fences, .free, .heldWrites, .landing, .out, .resp, .rings, .shadows, .signing, .staged] : List Part) L) : RunsIn W L org (execCommit ep v s) := by
  delta execCommit
  repeat' first
    | with_reducible assumption
    | with_reducible refine RunsIn.next ?_
    | with_reducible apply State.hostWriteInt_leaves
    | with_unfolding_none apply hW.sub (inAny)

theorem execDiscard_frame {W : List Span} {L : List Part} {org s : State} (ep : Endpoint) (h : Leaves W L org s)
    (hW : Inside (anyKey :: []) W)
    (hL : Within ([.barriers, .collector, .fences, .free, .heldWrites, .landing, .out, .resp, .rings, .shadows, .signing, .staged] : List Part) L) : RunsIn W L org (execDiscard ep s) := by
  delta execDiscard
  repeat' first
    | with_reducible assumption
    | with_reducible refine RunsIn.next ?_
    | with_reducible apply State.hostWriteInt_leaves
    | with_unfolding_none apply hW.sub (inAny)

theorem execSyncReceived_frame {W : List Span} {L : List Part} {org s : State} (p : CanPort) (counter : Option Nat) (h : Leaves W L org s)
    (hW : Inside (anyKey :: []) W)
    (hL : Within ([.barriers, .canQueue, .collector, .fences, .free, .heldWrites, .landing, .out, .resp, .rings, .shadows, .signing, .staged] : List Part) L) : RunsIn W L org (execSyncReceived p counter s) := by
  delta execSyncReceived
  repeat' first
    | with_reducible assumption
    | with_reducible refine RunsIn.next ?_
    | with_reducible apply State.syncReceived_leaves
    | with_unfolding_none apply hW.sub (inAny)

theorem execBarrierId_frame {W : List Span} {L : List Part} {org s : State} (ep : Endpoint) (v : Nat) (h : Leaves W L org s)
    (hW : Inside (anyKey :: []) W)
    (hL : Within ([.barriers, .collector, .fences, .free, .heldWrites, .landing, .out, .resp, .rings, .shadows, .signing, .staged] : List Part) L) : RunsIn W L org (execBarrierId ep v s) := by
  delta execBarrierId
  repeat' first
    | with_reducible assumption
    | with_reducible refine RunsIn.next ?_
    | with_reducible apply State.hostWriteInt_leaves
    | with_unfolding_none apply hW.sub (inAny)

theorem execBarrierDone_frame {W : List Span} {L : List Part} {org s : State} (t : Tenant) (h : Leaves W L org s)
    (hW : Inside (anyKey :: []) W)
    (hL : Within ([.barriers, .collector, .fences, .free, .heldWrites, .landing, .out, .resp, .rings, .shadows, .signing, .staged] : List Part) L) : RunsIn W L org (execBarrierDone t s) := by
  delta execBarrierDone
  repeat' first
    | with_reducible assumption
    | with_reducible refine RunsIn.next ?_
    | with_reducible apply State.barrierDone_leaves
    | with_unfolding_none apply hW.sub (inAny)

theorem execTenantReset_frame {W : List Span} {L : List Part} {org s : State} (ep : Endpoint) (t : Tenant) (h : Leaves W L org s)
    (hW : Inside (anyKey :: []) W)
    (hL : Within ([.barriers, .collector, .fences, .free, .heldWrites, .landing, .out, .resp, .rings, .shadows, .signing, .staged] : List Part) L) : RunsIn W L org (execTenantReset ep t s) := by
  delta execTenantReset
  repeat' first
    | with_reducible assumption
    | with_reducible refine RunsIn.next ?_
    | with_reducible apply State.hostWriteInt_leaves
    | with_unfolding_none apply hW.sub (inAny)

theorem execTrumpRelease_frame {W : List Span} {L : List Part} {org s : State} (ep : Endpoint) (t : Tenant) (n : Nat) (h : Leaves W L org s)
    (hW : Inside (anyKey :: []) W)
    (hL : Within ([.barriers, .collector, .fences, .free, .heldWrites, .landing, .out, .resp, .rings, .shadows, .signing, .staged] : List Part) L) : RunsIn W L org (execTrumpRelease ep t n s) := by
  delta execTrumpRelease
  repeat' first
    | with_reducible assumption
    | with_reducible refine RunsIn.next ?_
    | with_reducible apply State.hostWriteInt_leaves
    | with_unfolding_none apply hW.sub (inAny)

theorem execRequestOff_frame {W : List Span} {L : List Part} {org s : State} (ep : Endpoint) (n : Chan) (h : Leaves W L org s)
    (hW : Inside (anyKey :: []) W)
    (hL : Within ([.barriers, .collector, .fences, .free, .heldWrites, .landing, .out, .resp, .rings, .shadows, .signing, .staged] : List Part) L) : RunsIn W L org (execRequestOff ep n s) := by
  delta execRequestOff
  repeat' first
    | with_reducible assumption
    | with_reducible refine RunsIn.next ?_
    | with_reducible apply State.hostWriteInt_leaves
    | with_unfolding_none apply hW.sub (inAny)

theorem execRequestOn_frame {W : List Span} {L : List Part} {org s : State} (ep : Endpoint) (n : Chan) (h : Leaves W L org s)
    (hW : Inside (anyKey :: []) W)
    (hL : Within ([.barriers, .collector, .fences, .free, .heldWrites, .landing, .out, .resp, .rings, .shadows, .signing, .staged] : List Part) L) : RunsIn W L org (execRequestOn ep n s) := by
  delta execRequestOn
  repeat' first
    | with_reducible assumption
    | with_reducible refine RunsIn.next ?_
    | with_reducible apply State.hostWriteInt_leaves
    | with_unfolding_none apply hW.sub (inAny)

theorem execRequestPwm_frame {W : List Span} {L : List Part} {org s : State} (ep : Endpoint) (n : Chan) (h : Leaves W L org s)
    (hW : Inside (anyKey :: []) W)
    (hL : Within ([.barriers, .collector, .fences, .free, .heldWrites, .landing, .out, .resp, .rings, .shadows, .signing, .staged] : List Part) L) : RunsIn W L org (execRequestPwm ep n s) := by
  delta execRequestPwm
  repeat' first
    | with_reducible assumption
    | with_reducible refine RunsIn.next ?_
    | with_reducible apply State.hostWriteInt_leaves
    | with_unfolding_none apply hW.sub (inAny)

theorem execClearLockout_frame {W : List Span} {L : List Part} {org s : State} (ep : Endpoint) (n : Chan) (h : Leaves W L org s)
    (hW : Inside (anyKey :: []) W)
    (hL : Within ([.barriers, .collector, .fences, .free, .heldWrites, .landing, .out, .resp, .rings, .shadows, .signing, .staged] : List Part) L) : RunsIn W L org (execClearLockout ep n s) := by
  delta execClearLockout
  repeat' first
    | with_reducible assumption
    | with_reducible refine RunsIn.next ?_
    | with_reducible apply State.hostWriteInt_leaves
    | with_unfolding_none apply hW.sub (inAny)

theorem execReleaseStanding_frame {W : List Span} {L : List Part} {org s : State} (ep : Endpoint) (n : Chan) (h : Leaves W L org s)
    (hW : Inside (anyKey :: []) W)
    (hL : Within ([.barriers, .collector, .fences, .free, .heldWrites, .landing, .out, .resp, .rings, .shadows, .signing, .staged] : List Part) L) : RunsIn W L org (execReleaseStanding ep n s) := by
  delta execReleaseStanding
  repeat' first
    | with_reducible assumption
    | with_reducible refine RunsIn.next ?_
    | with_reducible apply State.hostWriteInt_leaves
    | with_unfolding_none apply hW.sub (inAny)

theorem execCaptureArm_frame {W : List Span} {L : List Part} {org s : State} (ep : Endpoint) (d : Die) (h : Leaves W L org s)
    (hW : Inside (anyKey :: []) W)
    (hL : Within ([.barriers, .collector, .fences, .free, .heldWrites, .landing, .out, .resp, .rings, .shadows, .signing, .staged] : List Part) L) : RunsIn W L org (execCaptureArm ep d s) := by
  delta execCaptureArm
  repeat' first
    | with_reducible assumption
    | with_reducible refine RunsIn.next ?_
    | with_reducible apply State.hostWriteInt_leaves
    | with_unfolding_none apply hW.sub (inAny)

theorem execSwapRequest_frame {W : List Span} {L : List Part} {org s : State} (ep : Endpoint) (p : Pair) (b : Bool) (h : Leaves W L org s)
    (hW : Inside (anyKey :: []) W)
    (hL : Within ([.barriers, .collector, .fences, .free, .heldWrites, .landing, .out, .resp, .rings, .shadows, .signing, .staged] : List Part) L) : RunsIn W L org (execSwapRequest ep p b s) := by
  delta execSwapRequest
  repeat' first
    | with_reducible assumption
    | with_reducible refine RunsIn.next ?_
    | with_reducible apply State.hostWriteInt_leaves
    | with_unfolding_none apply hW.sub (inAny)

theorem execPlanStart_frame {W : List Span} {L : List Part} {org s : State} (ep : Endpoint) (p : Fin 2) (h : Leaves W L org s)
    (hW : Inside (anyKey :: []) W)
    (hL : Within ([.barriers, .collector, .fences, .free, .heldWrites, .landing, .out, .resp, .rings, .shadows, .signing, .staged] : List Part) L) : RunsIn W L org (execPlanStart ep p s) := by
  delta execPlanStart
  repeat' first
    | with_reducible assumption
    | with_reducible refine RunsIn.next ?_
    | with_reducible apply State.hostWriteInt_leaves
    | with_unfolding_none apply hW.sub (inAny)

theorem execPlanAbort_frame {W : List Span} {L : List Part} {org s : State} (ep : Endpoint) (p : Fin 2) (h : Leaves W L org s)
    (hW : Inside (anyKey :: []) W)
    (hL : Within ([.barriers, .collector, .fences, .free, .heldWrites, .landing, .out, .resp, .rings, .shadows, .signing, .staged] : List Part) L) : RunsIn W L org (execPlanAbort ep p s) := by
  delta execPlanAbort
  repeat' first
    | with_reducible assumption
    | with_reducible refine RunsIn.next ?_
    | with_reducible apply State.hostWriteInt_leaves
    | with_unfolding_none apply hW.sub (inAny)

theorem execResolveSkip_frame {W : List Span} {L : List Part} {org s : State} (ep : Endpoint) (p : Fin 2) (i : Nat) (h : Leaves W L org s)
    (hW : Inside (anyKey :: []) W)
    (hL : Within ([.barriers, .collector, .fences, .free, .heldWrites, .landing, .out, .resp, .rings, .shadows, .signing, .staged] : List Part) L) : RunsIn W L org (execResolveSkip ep p i s) := by
  delta execResolveSkip
  repeat' first
    | with_reducible assumption
    | with_reducible refine RunsIn.next ?_
    | with_reducible apply State.hostWriteInt_leaves
    | with_unfolding_none apply hW.sub (inAny)

theorem execResolveRetry_frame {W : List Span} {L : List Part} {org s : State} (ep : Endpoint) (p : Fin 2) (i : Nat) (h : Leaves W L org s)
    (hW : Inside (anyKey :: []) W)
    (hL : Within ([.barriers, .collector, .fences, .free, .heldWrites, .landing, .out, .resp, .rings, .shadows, .signing, .staged] : List Part) L) : RunsIn W L org (execResolveRetry ep p i s) := by
  delta execResolveRetry
  repeat' first
    | with_reducible assumption
    | with_reducible refine RunsIn.next ?_
    | with_reducible apply State.hostWriteInt_leaves
    | with_unfolding_none apply hW.sub (inAny)

theorem execRsoForceAssert_frame {W : List Span} {L : List Part} {org s : State} (ep : Endpoint) (r : Rso) (h : Leaves W L org s)
    (hW : Inside (anyKey :: []) W)
    (hL : Within ([.barriers, .collector, .fences, .free, .heldWrites, .landing, .out, .resp, .rings, .shadows, .signing, .staged] : List Part) L) : RunsIn W L org (execRsoForceAssert ep r s) := by
  delta execRsoForceAssert
  repeat' first
    | with_reducible assumption
    | with_reducible refine RunsIn.next ?_
    | with_reducible apply State.hostWriteInt_leaves
    | with_unfolding_none apply hW.sub (inAny)

theorem execRsoForceRelease_frame {W : List Span} {L : List Part} {org s : State} (ep : Endpoint) (r : Rso) (h : Leaves W L org s)
    (hW : Inside (anyKey :: []) W)
    (hL : Within ([.barriers, .collector, .fences, .free, .heldWrites, .landing, .out, .resp, .rings, .shadows, .signing, .staged] : List Part) L) : RunsIn W L org (execRsoForceRelease ep r s) := by
  delta execRsoForceRelease
  repeat' first
    | with_reducible assumption
    | with_reducible refine RunsIn.next ?_
    | with_reducible apply State.hostWriteInt_leaves
    | with_unfolding_none apply hW.sub (inAny)

theorem execCounterClear_frame {W : List Span} {L : List Part} {org s : State} (ep : Endpoint) (n : Chan) (h : Leaves W L org s)
    (hW : Inside (anyKey :: []) W)
    (hL : Within ([.barriers, .collector, .fences, .free, .heldWrites, .landing, .out, .resp, .rings, .shadows, .signing, .staged] : List Part) L) : RunsIn W L org (execCounterClear ep n s) := by
  delta execCounterClear
  repeat' first
    | with_reducible assumption
    | with_reducible refine RunsIn.next ?_
    | with_reducible apply State.hostWriteInt_leaves
    | with_unfolding_none apply hW.sub (inAny)

theorem execEnableOn_frame {W : List Span} {L : List Part} {org s : State} (ep : Endpoint) (m : Conv) (h : Leaves W L org s)
    (hW : Inside (anyKey :: []) W)
    (hL : Within ([.barriers, .collector, .fences, .free, .heldWrites, .landing, .out, .resp, .rings, .shadows, .signing, .staged] : List Part) L) : RunsIn W L org (execEnableOn ep m s) := by
  delta execEnableOn
  repeat' first
    | with_reducible assumption
    | with_reducible refine RunsIn.next ?_
    | with_reducible apply State.hostWriteInt_leaves
    | with_unfolding_none apply hW.sub (inAny)

theorem execEnableOff_frame {W : List Span} {L : List Part} {org s : State} (ep : Endpoint) (m : Conv) (h : Leaves W L org s)
    (hW : Inside (anyKey :: []) W)
    (hL : Within ([.barriers, .collector, .fences, .free, .heldWrites, .landing, .out, .resp, .rings, .shadows, .signing, .staged] : List Part) L) : RunsIn W L org (execEnableOff ep m s) := by
  delta execEnableOff
  repeat' first
    | with_reducible assumption
    | with_reducible refine RunsIn.next ?_
    | with_reducible apply State.hostWriteInt_leaves
    | with_unfolding_none apply hW.sub (inAny)

theorem execSwitchModeOpen_frame {W : List Span} {L : List Part} {org s : State} (ep : Endpoint) (h : Leaves W L org s)
    (hW : Inside (anyKey :: []) W)
    (hL : Within ([.barriers, .collector, .fences, .free, .heldWrites, .landing, .out, .resp, .rings, .shadows, .signing, .staged] : List Part) L) : RunsIn W L org (execSwitchModeOpen ep s) := by
  delta execSwitchModeOpen
  repeat' first
    | with_reducible assumption
    | with_reducible refine RunsIn.next ?_
    | with_reducible apply State.hostWriteInt_leaves
    | with_unfolding_none apply hW.sub (inAny)

theorem execSwitchModeIdealDiode_frame {W : List Span} {L : List Part} {org s : State} (ep : Endpoint) (h : Leaves W L org s)
    (hW : Inside (anyKey :: []) W)
    (hL : Within ([.barriers, .collector, .fences, .free, .heldWrites, .landing, .out, .resp, .rings, .shadows, .signing, .staged] : List Part) L) : RunsIn W L org (execSwitchModeIdealDiode ep s) := by
  delta execSwitchModeIdealDiode
  repeat' first
    | with_reducible assumption
    | with_reducible refine RunsIn.next ?_
    | with_reducible apply State.hostWriteInt_leaves
    | with_unfolding_none apply hW.sub (inAny)

theorem execSwitchModeClosed_frame {W : List Span} {L : List Part} {org s : State} (ep : Endpoint) (h : Leaves W L org s)
    (hW : Inside (anyKey :: []) W)
    (hL : Within ([.barriers, .collector, .fences, .free, .heldWrites, .landing, .out, .resp, .rings, .shadows, .signing, .staged] : List Part) L) : RunsIn W L org (execSwitchModeClosed ep s) := by
  delta execSwitchModeClosed
  repeat' first
    | with_reducible assumption
    | with_reducible refine RunsIn.next ?_
    | with_reducible apply State.hostWriteInt_leaves
    | with_unfolding_none apply hW.sub (inAny)

theorem execChargeEnableOn_frame {W : List Span} {L : List Part} {org s : State} (ep : Endpoint) (h : Leaves W L org s)
    (hW : Inside (anyKey :: []) W)
    (hL : Within ([.barriers, .collector, .fences, .free, .heldWrites, .landing, .out, .resp, .rings, .shadows, .signing, .staged] : List Part) L) : RunsIn W L org (execChargeEnableOn ep s) := by
  delta execChargeEnableOn
  repeat' first
    | with_reducible assumption
    | with_reducible refine RunsIn.next ?_
    | with_reducible apply State.hostWriteInt_leaves
    | with_unfolding_none apply hW.sub (inAny)

theorem execChargeEnableOff_frame {W : List Span} {L : List Part} {org s : State} (ep : Endpoint) (h : Leaves W L org s)
    (hW : Inside (anyKey :: []) W)
    (hL : Within ([.barriers, .collector, .fences, .free, .heldWrites, .landing, .out, .resp, .rings, .shadows, .signing, .staged] : List Part) L) : RunsIn W L org (execChargeEnableOff ep s) := by
  delta execChargeEnableOff
  repeat' first
    | with_reducible assumption
    | with_reducible refine RunsIn.next ?_
    | with_reducible apply State.hostWriteInt_leaves
    | with_unfolding_none apply hW.sub (inAny)

theorem execShipArm_frame {W : List Span} {L : List Part} {org s : State} (ep : Endpoint) (h : Leaves W L org s)
    (hW : Inside (anyKey :: []) W)
    (hL : Within ([.barriers, .collector, .fences, .free, .heldWrites, .landing, .out, .resp, .rings, .shadows, .signing, .staged] : List Part) L) : RunsIn W L org (execShipArm ep s) := by
  delta execShipArm
  repeat' first
    | with_reducible assumption
    | with_reducible refine RunsIn.next ?_
    | with_reducible apply State.hostWriteInt_leaves
    | with_unfolding_none apply hW.sub (inAny)

theorem execShipCancel_frame {W : List Span} {L : List Part} {org s : State} (ep : Endpoint) (h : Leaves W L org s)
    (hW : Inside (anyKey :: []) W)
    (hL : Within ([.barriers, .collector, .fences, .free, .heldWrites, .landing, .out, .resp, .rings, .shadows, .signing, .staged] : List Part) L) : RunsIn W L org (execShipCancel ep s) := by
  delta execShipCancel
  repeat' first
    | with_reducible assumption
    | with_reducible refine RunsIn.next ?_
    | with_reducible apply State.hostWriteInt_leaves
    | with_unfolding_none apply hW.sub (inAny)

theorem execAssistStart_frame {W : List Span} {L : List Part} {org s : State} (ep : Endpoint) (h : Leaves W L org s)
    (hW : Inside (anyKey :: []) W)
    (hL : Within ([.barriers, .collector, .fences, .free, .heldWrites, .landing, .out, .resp, .rings, .shadows, .signing, .staged] : List Part) L) : RunsIn W L org (execAssistStart ep s) := by
  delta execAssistStart
  repeat' first
    | with_reducible assumption
    | with_reducible refine RunsIn.next ?_
    | with_reducible apply State.hostWriteInt_leaves
    | with_unfolding_none apply hW.sub (inAny)

theorem execAssistStop_frame {W : List Span} {L : List Part} {org s : State} (ep : Endpoint) (h : Leaves W L org s)
    (hW : Inside (anyKey :: []) W)
    (hL : Within ([.barriers, .collector, .fences, .free, .heldWrites, .landing, .out, .resp, .rings, .shadows, .signing, .staged] : List Part) L) : RunsIn W L org (execAssistStop ep s) := by
  delta execAssistStop
  repeat' first
    | with_reducible assumption
    | with_reducible refine RunsIn.next ?_
    | with_reducible apply State.hostWriteInt_leaves
    | with_unfolding_none apply hW.sub (inAny)

theorem execBatteryReplaced_frame {W : List Span} {L : List Part} {org s : State} (ep : Endpoint) (h : Leaves W L org s)
    (hW : Inside (anyKey :: []) W)
    (hL : Within ([.barriers, .collector, .fences, .free, .heldWrites, .landing, .out, .resp, .rings, .shadows, .signing, .staged] : List Part) L) : RunsIn W L org (execBatteryReplaced ep s) := by
  delta execBatteryReplaced
  repeat' first
    | with_reducible assumption
    | with_reducible refine RunsIn.next ?_
    | with_reducible apply State.hostWriteInt_leaves
    | with_unfolding_none apply hW.sub (inAny)

theorem execDeviceResetControlDie_frame {W : List Span} {L : List Part} {org s : State} (ep : Endpoint) (h : Leaves W L org s)
    (hW : Inside (anyKey :: []) W)
    (hL : Within ([.barriers, .collector, .fences, .free, .heldWrites, .landing, .out, .resp, .rings, .shadows, .signing, .staged] : List Part) L) : RunsIn W L org (execDeviceResetControlDie ep s) := by
  delta execDeviceResetControlDie
  repeat' first
    | with_reducible assumption
    | with_reducible refine RunsIn.next ?_
    | with_reducible apply State.hostWriteInt_leaves
    | with_unfolding_none apply hW.sub (inAny)

theorem execDeviceResetFull_frame {W : List Span} {L : List Part} {org s : State} (ep : Endpoint) (h : Leaves W L org s)
    (hW : Inside (anyKey :: []) W)
    (hL : Within ([.barriers, .collector, .fences, .free, .heldWrites, .landing, .out, .resp, .rings, .shadows, .signing, .staged] : List Part) L) : RunsIn W L org (execDeviceResetFull ep s) := by
  delta execDeviceResetFull
  repeat' first
    | with_reducible assumption
    | with_reducible refine RunsIn.next ?_
    | with_reducible apply State.hostWriteInt_leaves
    | with_unfolding_none apply hW.sub (inAny)

theorem execOpeningResume_frame {W : List Span} {L : List Part} {org s : State} (ep : Endpoint) (h : Leaves W L org s)
    (hW : Inside (anyKey :: []) W)
    (hL : Within ([.barriers, .collector, .fences, .free, .heldWrites, .landing, .out, .resp, .rings, .shadows, .signing, .staged] : List Part) L) : RunsIn W L org (execOpeningResume ep s) := by
  delta execOpeningResume
  repeat' first
    | with_reducible assumption
    | with_reducible refine RunsIn.next ?_
    | with_reducible apply State.hostWriteInt_leaves
    | with_unfolding_none apply hW.sub (inAny)

theorem execJournalAck_frame {W : List Span} {L : List Part} {org s : State} (ep : Endpoint) (h : Leaves W L org s)
    (hW : Inside (anyKey :: []) W)
    (hL : Within ([.barriers, .collector, .fences, .free, .heldWrites, .landing, .out, .resp, .rings, .shadows, .signing, .staged] : List Part) L) : RunsIn W L org (execJournalAck ep s) := by
  delta execJournalAck
  repeat' first
    | with_reducible assumption
    | with_reducible refine RunsIn.next ?_
    | with_reducible apply State.hostWriteInt_leaves
    | with_unfolding_none apply hW.sub (inAny)

theorem execPowerModeRun_frame {W : List Span} {L : List Part} {org s : State} (ep : Endpoint) (h : Leaves W L org s)
    (hW : Inside (anyKey :: []) W)
    (hL : Within ([.barriers, .collector, .fences, .free, .heldWrites, .landing, .out, .resp, .rings, .shadows, .signing, .staged] : List Part) L) : RunsIn W L org (execPowerModeRun ep s) := by
  delta execPowerModeRun
  repeat' first
    | with_reducible assumption
    | with_reducible refine RunsIn.next ?_
    | with_reducible apply State.hostWriteInt_leaves
    | with_unfolding_none apply hW.sub (inAny)

theorem execPowerModeHold_frame {W : List Span} {L : List Part} {org s : State} (ep : Endpoint) (h : Leaves W L org s)
    (hW : Inside (anyKey :: []) W)
    (hL : Within ([.barriers, .collector, .fences, .free, .heldWrites, .landing, .out, .resp, .rings, .shadows, .signing, .staged] : List Part) L) : RunsIn W L org (execPowerModeHold ep s) := by
  delta execPowerModeHold
  repeat' first
    | with_reducible assumption
    | with_reducible refine RunsIn.next ?_
    | with_reducible apply State.hostWriteInt_leaves
    | with_unfolding_none apply hW.sub (inAny)

theorem execPark_frame {W : List Span} {L : List Part} {org s : State} (ep : Endpoint) (h : Leaves W L org s)
    (hW : Inside (anyKey :: []) W)
    (hL : Within ([.barriers, .collector, .fences, .free, .heldWrites, .landing, .out, .resp, .rings, .shadows, .signing, .staged] : List Part) L) : RunsIn W L org (execPark ep s) := by
  delta execPark
  repeat' first
    | with_reducible assumption
    | with_reducible refine RunsIn.next ?_
    | with_reducible apply State.hostWriteInt_leaves
    | with_unfolding_none apply hW.sub (inAny)

theorem execWakeClear_frame {W : List Span} {L : List Part} {org s : State} (ep : Endpoint) (mask : Nat) (h : Leaves W L org s)
    (hW : Inside (anyKey :: []) W)
    (hL : Within ([.barriers, .collector, .fences, .free, .heldWrites, .landing, .out, .resp, .rings, .shadows, .signing, .staged] : List Part) L) : RunsIn W L org (execWakeClear ep mask s) := by
  delta execWakeClear
  repeat' first
    | with_reducible assumption
    | with_reducible refine RunsIn.next ?_
    | with_reducible apply State.hostWriteInt_leaves
    | with_unfolding_none apply hW.sub (inAny)

theorem execQueryKind_frame {W : List Span} {L : List Part} {org s : State} (ep : Endpoint) (code : Nat) (h : Leaves W L org s)
    (hW : Inside (anyKey :: []) W)
    (hL : Within ([.barriers, .collector, .fences, .free, .heldWrites, .landing, .out, .resp, .rings, .shadows, .signing, .staged] : List Part) L) : RunsIn W L org (execQueryKind ep code s) := by
  delta execQueryKind
  repeat' first
    | with_reducible assumption
    | with_reducible refine RunsIn.next ?_
    | with_reducible apply State.hostWriteInt_leaves
    | with_unfolding_none apply hW.sub (inAny)

theorem execPop_frame {W : List Span} {L : List Part} {org s : State} (ep : Endpoint) (q : RingId) (h : Leaves W L org s)
    (hW : Inside (anyKey :: []) W)
    (hL : Within ([.out, .resp, .rings] : List Part) L) : RunsIn W L org (execPop ep q s) := by
  delta execPop
  repeat' first
    | with_reducible assumption
    | with_reducible refine RunsIn.next ?_
    | with_reducible apply State.hostRead_leaves
    | with_unfolding_none apply hW.sub (inAny)

theorem execFlush_frame {W : List Span} {L : List Part} {org s : State} (ep : Endpoint) (q : RingId) (h : Leaves W L org s)
    (hW : Inside (anyKey :: []) W)
    (hL : Within ([.barriers, .collector, .fences, .free, .heldWrites, .landing, .out, .resp, .rings, .shadows, .signing, .staged] : List Part) L) : RunsIn W L org (execFlush ep q s) := by
  delta execFlush
  repeat' first
    | with_reducible assumption
    | with_reducible refine RunsIn.next ?_
    | with_reducible apply State.hostWriteInt_leaves
    | with_unfolding_none apply hW.sub (inAny)

theorem execArm_frame {W : List Span} {L : List Part} {org s : State} (ep : Endpoint) (g : TargetId) (h : Leaves W L org s)
    (hW : Inside (anyKey :: []) W)
    (hL : Within ([.barriers, .collector, .fences, .free, .heldWrites, .landing, .out, .resp, .rings, .shadows, .signing, .staged] : List Part) L) : RunsIn W L org (execArm ep g s) := by
  delta execArm
  repeat' first
    | with_reducible assumption
    | with_reducible refine RunsIn.next ?_
    | with_reducible apply State.hostWriteInt_leaves
    | with_unfolding_none apply hW.sub (inAny)

theorem execHold_frame {W : List Span} {L : List Part} {org s : State} (ep : Endpoint) (h : Leaves W L org s)
    (hW : Inside (anyKey :: []) W)
    (hL : Within ([.barriers, .collector, .fences, .free, .heldWrites, .landing, .out, .resp, .rings, .shadows, .signing, .staged] : List Part) L) : RunsIn W L org (execHold ep s) := by
  delta execHold
  repeat' first
    | with_reducible assumption
    | with_reducible refine RunsIn.next ?_
    | with_reducible apply State.hostWriteInt_leaves
    | with_unfolding_none apply hW.sub (inAny)

theorem execHoldRelease_frame {W : List Span} {L : List Part} {org s : State} (ep : Endpoint) (h : Leaves W L org s)
    (hW : Inside (anyKey :: []) W)
    (hL : Within ([.barriers, .collector, .fences, .free, .heldWrites, .landing, .out, .resp, .rings, .shadows, .signing, .staged] : List Part) L) : RunsIn W L org (execHoldRelease ep s) := by
  delta execHoldRelease
  repeat' first
    | with_reducible assumption
    | with_reducible refine RunsIn.next ?_
    | with_reducible apply State.hostWriteInt_leaves
    | with_unfolding_none apply hW.sub (inAny)

theorem execDeviceHoldSet_frame {W : List Span} {L : List Part} {org s : State} (ep : Endpoint) (h : Leaves W L org s)
    (hW : Inside (anyKey :: []) W)
    (hL : Within ([.barriers, .collector, .fences, .free, .heldWrites, .landing, .out, .resp, .rings, .shadows, .signing, .staged] : List Part) L) : RunsIn W L org (execDeviceHoldSet ep s) := by
  delta execDeviceHoldSet
  repeat' first
    | with_reducible assumption
    | with_reducible refine RunsIn.next ?_
    | with_reducible apply State.hostWriteInt_leaves
    | with_unfolding_none apply hW.sub (inAny)

theorem execDeviceHoldClear_frame {W : List Span} {L : List Part} {org s : State} (ep : Endpoint) (h : Leaves W L org s)
    (hW : Inside (anyKey :: []) W)
    (hL : Within ([.barriers, .collector, .fences, .free, .heldWrites, .landing, .out, .resp, .rings, .shadows, .signing, .staged] : List Part) L) : RunsIn W L org (execDeviceHoldClear ep s) := by
  delta execDeviceHoldClear
  repeat' first
    | with_reducible assumption
    | with_reducible refine RunsIn.next ?_
    | with_reducible apply State.hostWriteInt_leaves
    | with_unfolding_none apply hW.sub (inAny)

theorem execFence_frame {W : List Span} {L : List Part} {org s : State} (ep : Endpoint) (v : Nat) (h : Leaves W L org s)
    (hW : Inside (anyKey :: []) W)
    (hL : Within ([.barriers, .collector, .fences, .free, .heldWrites, .landing, .out, .resp, .rings, .shadows, .signing, .staged] : List Part) L) : RunsIn W L org (execFence ep v s) := by
  delta execFence
  repeat' first
    | with_reducible assumption
    | with_reducible refine RunsIn.next ?_
    | with_reducible apply State.hostWriteInt_leaves
    | with_unfolding_none apply hW.sub (inAny)

theorem execStreamRun_frame {W : List Span} {L : List Part} {org s : State} (ep : Endpoint) (d : StreamId) (h : Leaves W L org s)
    (hW : Inside (anyKey :: []) W)
    (hL : Within ([.barriers, .collector, .fences, .free, .heldWrites, .landing, .out, .resp, .rings, .shadows, .signing, .staged] : List Part) L) : RunsIn W L org (execStreamRun ep d s) := by
  delta execStreamRun
  repeat' first
    | with_reducible assumption
    | with_reducible refine RunsIn.next ?_
    | with_reducible apply State.hostWriteInt_leaves
    | with_unfolding_none apply hW.sub (inAny)

theorem execStreamStop_frame {W : List Span} {L : List Part} {org s : State} (ep : Endpoint) (d : StreamId) (h : Leaves W L org s)
    (hW : Inside (anyKey :: []) W)
    (hL : Within ([.barriers, .collector, .fences, .free, .heldWrites, .landing, .out, .resp, .rings, .shadows, .signing, .staged] : List Part) L) : RunsIn W L org (execStreamStop ep d s) := by
  delta execStreamStop
  repeat' first
    | with_reducible assumption
    | with_reducible refine RunsIn.next ?_
    | with_reducible apply State.hostWriteInt_leaves
    | with_unfolding_none apply hW.sub (inAny)

theorem execTailWrite_frame {W : List Span} {L : List Part} {org s : State} (ep : Endpoint) (d : StreamId) (v : Nat) (bell : Bool) (h : Leaves W L org s)
    (hW : Inside (anyKey :: []) W)
    (hL : Within ([.barriers, .collector, .fences, .free, .heldWrites, .landing, .out, .resp, .rings, .shadows, .signing, .staged] : List Part) L) : RunsIn W L org (execTailWrite ep d v bell s) := by
  delta execTailWrite
  repeat' first
    | with_reducible assumption
    | with_reducible refine RunsIn.next ?_
    | with_reducible apply State.hostWrite_leaves
    | with_unfolding_none apply hW.sub (inAny)

theorem execTransferStart_frame {W : List Span} {L : List Part} {org s : State} (ep : Endpoint) (h : Leaves W L org s)
    (hW : Inside (anyKey :: []) W)
    (hL : Within ([.barriers, .collector, .fences, .free, .heldWrites, .landing, .out, .resp, .rings, .shadows, .signing, .staged] : List Part) L) : RunsIn W L org (execTransferStart ep s) := by
  delta execTransferStart
  repeat' first
    | with_reducible assumption
    | with_reducible refine RunsIn.next ?_
    | with_reducible apply State.hostWriteInt_leaves
    | with_unfolding_none apply hW.sub (inAny)

theorem execTrigger_frame {W : List Span} {L : List Part} {org s : State} (ep : Endpoint) (q : Seq) (h : Leaves W L org s)
    (hW : Inside (anyKey :: []) W)
    (hL : Within ([.barriers, .collector, .fences, .free, .heldWrites, .landing, .out, .resp, .rings, .shadows, .signing, .staged] : List Part) L) : RunsIn W L org (execTrigger ep q s) := by
  delta execTrigger
  repeat' first
    | with_reducible assumption
    | with_reducible refine RunsIn.next ?_
    | with_reducible apply State.hostWriteInt_leaves
    | with_unfolding_none apply hW.sub (inAny)

theorem execWatchdogArm_frame {W : List Span} {L : List Part} {org s : State} (ep : Endpoint) (t : Tenant) (v : Nat) (h : Leaves W L org s)
    (hW : Inside (anyKey :: []) W)
    (hL : Within ([.barriers, .collector, .fences, .free, .heldWrites, .landing, .out, .resp, .rings, .shadows, .signing, .staged] : List Part) L) : RunsIn W L org (execWatchdogArm ep t v s) := by
  delta execWatchdogArm
  repeat' first
    | with_reducible assumption
    | with_reducible refine RunsIn.next ?_
    | with_reducible apply State.hostWriteInt_leaves
    | with_unfolding_none apply hW.sub (inAny)

theorem execAnswer_frame {W : List Span} {L : List Part} {org s : State} (ep : Endpoint) (t : Tenant) (token : Nat) (h : Leaves W L org s)
    (hW : Inside (anyKey :: []) W)
    (hL : Within ([.barriers, .collector, .fences, .free, .heldWrites, .landing, .out, .resp, .rings, .shadows, .signing, .staged] : List Part) L) : RunsIn W L org (execAnswer ep t token s) := by
  delta execAnswer
  repeat' first
    | with_reducible assumption
    | with_reducible refine RunsIn.next ?_
    | with_reducible apply State.hostWriteInt_leaves
    | with_unfolding_none apply hW.sub (inAny)

theorem execAdjourn_frame {W : List Span} {L : List Part} {org s : State} (ep : Endpoint) (t : Tenant) (ms : Nat) (h : Leaves W L org s)
    (hW : Inside (anyKey :: []) W)
    (hL : Within ([.barriers, .collector, .fences, .free, .heldWrites, .landing, .out, .resp, .rings, .shadows, .signing, .staged] : List Part) L) : RunsIn W L org (execAdjourn ep t ms s) := by
  delta execAdjourn
  repeat' first
    | with_reducible assumption
    | with_reducible refine RunsIn.next ?_
    | with_reducible apply State.hostWriteInt_leaves
    | with_unfolding_none apply hW.sub (inAny)

theorem execRtcSet_frame {W : List Span} {L : List Part} {org s : State} (ep : Endpoint) (v : Nat) (h : Leaves W L org s)
    (hW : Inside (anyKey :: []) W)
    (hL : Within ([.barriers, .collector, .fences, .free, .heldWrites, .landing, .out, .resp, .rings, .shadows, .signing, .staged] : List Part) L) : RunsIn W L org (execRtcSet ep v s) := by
  delta execRtcSet
  repeat' first
    | with_reducible assumption
    | with_reducible refine RunsIn.next ?_
    | with_reducible apply State.hostWriteInt_leaves
    | with_unfolding_none apply hW.sub (inAny)

theorem execPonAssert_frame {W : List Span} {L : List Part} {org s : State} (ep : Endpoint) (h : Leaves W L org s)
    (hW : Inside (anyKey :: []) W)
    (hL : Within ([.barriers, .collector, .fences, .free, .heldWrites, .landing, .out, .resp, .rings, .shadows, .signing, .staged] : List Part) L) : RunsIn W L org (execPonAssert ep s) := by
  delta execPonAssert
  repeat' first
    | with_reducible assumption
    | with_reducible refine RunsIn.next ?_
    | with_reducible apply State.hostWriteInt_leaves
    | with_unfolding_none apply hW.sub (inAny)

theorem execPonRelease_frame {W : List Span} {L : List Part} {org s : State} (ep : Endpoint) (h : Leaves W L org s)
    (hW : Inside (anyKey :: []) W)
    (hL : Within ([.barriers, .collector, .fences, .free, .heldWrites, .landing, .out, .resp, .rings, .shadows, .signing, .staged] : List Part) L) : RunsIn W L org (execPonRelease ep s) := by
  delta execPonRelease
  repeat' first
    | with_reducible assumption
    | with_reducible refine RunsIn.next ?_
    | with_reducible apply State.hostWriteInt_leaves
    | with_unfolding_none apply hW.sub (inAny)

theorem execAttestChallenge_frame {W : List Span} {L : List Part} {org s : State} (ep : Endpoint) (data : List Byte) (h : Leaves W L org s)
    (hW : Inside (anyKey :: []) W)
    (hL : Within ([.barriers, .collector, .fences, .free, .heldWrites, .landing, .out, .resp, .rings, .shadows, .signing, .staged] : List Part) L) : RunsIn W L org (execAttestChallenge ep data s) := by
  delta execAttestChallenge
  repeat' first
    | with_reducible assumption
    | with_reducible refine RunsIn.next ?_
    | with_reducible apply State.hostWrite_leaves
    | with_unfolding_none apply hW.sub (inAny)

theorem execSessionOpen_frame {W : List Span} {L : List Part} {org s : State} (ep : Endpoint) (data : List Byte) (h : Leaves W L org s)
    (hW : Inside (anyKey :: []) W)
    (hL : Within ([.barriers, .collector, .fences, .free, .heldWrites, .landing, .out, .resp, .rings, .shadows, .signing, .staged] : List Part) L) : RunsIn W L org (execSessionOpen ep data s) := by
  delta execSessionOpen
  repeat' first
    | with_reducible assumption
    | with_reducible refine RunsIn.next ?_
    | with_reducible apply State.hostWrite_leaves
    | with_unfolding_none apply hW.sub (inAny)

theorem execSessionClose_frame {W : List Span} {L : List Part} {org s : State} (ep : Endpoint) (h : Leaves W L org s)
    (hW : Inside (anyKey :: []) W)
    (hL : Within ([.barriers, .collector, .fences, .free, .heldWrites, .landing, .out, .resp, .rings, .shadows, .signing, .staged] : List Part) L) : RunsIn W L org (execSessionClose ep s) := by
  delta execSessionClose
  repeat' first
    | with_reducible assumption
    | with_reducible refine RunsIn.next ?_
    | with_reducible apply State.hostWriteInt_leaves
    | with_unfolding_none apply hW.sub (inAny)

theorem execAuthWrite_frame {W : List Span} {L : List Part} {org s : State} (ep : Endpoint) (data : List Byte) (h : Leaves W L org s)
    (hW : Inside (anyKey :: []) W)
    (hL : Within ([.barriers, .collector, .fences, .free, .heldWrites, .landing, .out, .resp, .rings, .shadows, .signing, .staged] : List Part) L) : RunsIn W L org (execAuthWrite ep data s) := by
  delta execAuthWrite
  repeat' first
    | with_reducible assumption
    | with_reducible refine RunsIn.next ?_
    | with_reducible apply State.hostWrite_leaves
    | with_unfolding_none apply hW.sub (inAny)

theorem execAuthReadRequest_frame {W : List Span} {L : List Part} {org s : State} (ep : Endpoint) (data : List Byte) (h : Leaves W L org s)
    (hW : Inside (anyKey :: []) W)
    (hL : Within ([.barriers, .collector, .fences, .free, .heldWrites, .landing, .out, .resp, .rings, .shadows, .signing, .staged] : List Part) L) : RunsIn W L org (execAuthReadRequest ep data s) := by
  delta execAuthReadRequest
  repeat' first
    | with_reducible assumption
    | with_reducible refine RunsIn.next ?_
    | with_reducible apply State.hostWrite_leaves
    | with_unfolding_none apply hW.sub (inAny)

theorem execUsdoRequest_frame {W : List Span} {L : List Part} {org s : State} (t : Tenant) (begins write last : Bool) (addr : Nat) (data : List Byte) (h : Leaves W L org s)
    (hW : Inside (anyKey :: []) W)
    (hL : Within ([.barriers, .collector, .fences, .free, .heldWrites, .landing, .out, .resp, .rings, .shadows, .signing, .staged] : List Part) L) : RunsIn W L org (execUsdoRequest t begins write last addr data s) := by
  delta execUsdoRequest
  repeat' first
    | with_reducible assumption
    | with_reducible refine RunsIn.next ?_
    | with_reducible apply State.usdoRequest_leaves
    | with_unfolding_none apply hW.sub (inAny)

theorem execRpdoReceived_frame {W : List Span} {L : List Part} {org s : State} (x : Fin 64) (data : List Byte) (h : Leaves W L org s)
    (hW : Inside (anyKey :: []) W)
    (hL : Within ([.barriers, .collector, .fences, .free, .heldWrites, .landing, .out, .resp, .rings, .shadows, .signing, .staged] : List Part) L) : RunsIn W L org (execRpdoReceived x data s) := by
  delta execRpdoReceived
  repeat' first
    | with_reducible assumption
    | with_reducible refine RunsIn.next ?_
    | with_reducible apply State.rpdoReceived_leaves
    | with_unfolding_none apply hW.sub (inAny)

theorem execTransferRead_frame {W : List Span} {L : List Part} {org s : State} (f : Func) (addr off len : Nat) (h : Leaves W L org s)
    (hW : Inside (anyKey :: []) W)
    (hL : Within ([.out, .resp, .rings] : List Part) L) : RunsIn W L org (execTransferRead f addr off len s) := by
  delta execTransferRead
  repeat' first
    | with_reducible assumption
    | with_reducible refine RunsIn.next ?_
    | with_reducible apply State.transferRead_leaves
    | with_unfolding_none apply hW.sub (inAny)

theorem execTransferWrite_frame {W : List Span} {L : List Part} {org s : State} (f : Func) (addr len : Nat) (data : List Byte) (h : Leaves W L org s)
    (hW : Inside (anyKey :: []) W)
    (hL : Within ([.barriers, .collector, .fences, .free, .heldWrites, .landing, .out, .resp, .rings, .shadows, .signing, .staged] : List Part) L) : RunsIn W L org (execTransferWrite f addr len data s) := by
  delta execTransferWrite
  repeat' first
    | with_reducible assumption
    | with_reducible refine RunsIn.next ?_
    | with_reducible apply State.transferWrite_leaves
    | with_unfolding_none apply hW.sub (inAny)

theorem execRingHeadPop_frame {W : List Span} {L : List Part} {org s : State} (f : Func) (i k : Nat) (h : Leaves W L org s)
    (hW : Inside (one EVENT_FABRIC.RECORDS_PLACED :: each LAST_ACCESS.ABORT_COUNT :: each LAST_ACCESS.LAST_ABORT :: each LAST_ACCESS.LAST_ABORT_ADDRESS :: one LOAD_ACCESS :: each MSIX_HELD :: each OVF_DROPS :: one (POP_BUF f) :: one (POP_RESULT f) :: each RING.HIGH_WATER :: each RING.SEQUENCE :: each RING_RR :: each TARGET.RAISES :: each TARGET.TARGET_STATE :: each TG_BEGAN :: each TG_COUNT :: each TG_LOW :: []) W)
    (hL : Within ([.free, .out, .rings] : List Part) L) : RunsIn W L org (execRingHeadPop f i k s) := by
  delta execRingHeadPop
  repeat' first
    | with_reducible assumption
    | with_reducible refine RunsIn.next ?_
    | with_reducible apply State.ringHeadPop_leaves
    | with_unfolding_none apply hW.sub (inBoth (inBoth (inBoth (inBoth (inBoth (inBoth (inBoth (inBoth (inBoth (inBoth (inBoth (inBoth (inBoth (inBoth (inBoth (inBoth (inBoth inNil)))))))))))))))))

theorem execPeakRead_frame {W : List Span} {L : List Part} {org s : State} (f : Func) (n : Chan) (volt : Bool) (h : Leaves W L org s)
    (hW : Inside (anyKey :: []) W)
    (hL : Within ([.out, .resp, .rings] : List Part) L) : RunsIn W L org (execPeakRead f n volt s) := by
  delta execPeakRead
  repeat' first
    | with_reducible assumption
    | with_reducible refine RunsIn.next ?_
    | with_reducible apply State.slotRead_leaves
    | with_reducible apply State.answer_leaves
    | with_unfolding_none apply hW.sub (inAny)
    | with_unfolding_none apply hW.sub (inNil)
    | (with_reducible refine Within.trans ?_ hL; decide +kernel)
    | with_reducible refine Leaves.ite ?_ ?_

theorem execRead_frame {W : List Span} {L : List Part} {org s : State} (ep : Endpoint) (addr len crc : Nat) (h : Leaves W L org s)
    (hW : Inside (anyKey :: []) W)
    (hL : Within ([.out, .resp, .rings] : List Part) L) : RunsIn W L org (execRead ep addr len crc s) := by
  delta execRead
  repeat' first
    | with_reducible assumption
    | with_reducible refine RunsIn.next ?_
    | with_reducible apply State.requestFrame_leaves
    | with_reducible apply State.frameRead_leaves
    | with_unfolding_none apply hW.sub (inAny)
    | (with_reducible refine Within.trans ?_ hL; decide +kernel)
    | (intro _ _ _)
    | (intro _ _)

theorem execWrite_frame {W : List Span} {L : List Part} {org s : State} (ep : Endpoint) (addr : Nat) (data : List Byte) (crc : Nat) (h : Leaves W L org s)
    (hW : Inside (anyKey :: []) W)
    (hL : Within ([.barriers, .collector, .fences, .free, .heldWrites, .landing, .out, .resp, .rings, .shadows, .signing, .staged] : List Part) L) : RunsIn W L org (execWrite ep addr data crc s) := by
  delta execWrite
  repeat' first
    | with_reducible assumption
    | with_reducible refine RunsIn.next ?_
    | with_reducible apply State.requestFrame_leaves
    | with_reducible apply State.takeWrite_leaves
    | with_unfolding_none apply hW.sub (inAny)
    | (with_reducible refine Within.trans ?_ hL; decide +kernel)
    | (intro _ _ _)
    | (intro _ _)

theorem execReadAt_frame {W : List Span} {L : List Part} {org s : State} (ep : Endpoint) (addr len off crc : Nat) (h : Leaves W L org s)
    (hW : Inside (anyKey :: []) W)
    (hL : Within ([.out, .resp, .rings] : List Part) L) : RunsIn W L org (execReadAt ep addr len off crc s) := by
  delta execReadAt
  repeat' first
    | with_reducible assumption
    | with_reducible refine RunsIn.next ?_
    | with_reducible apply State.requestFrame_leaves
    | with_reducible apply State.frameRead_leaves
    | with_unfolding_none apply hW.sub (inAny)
    | (with_reducible refine Within.trans ?_ hL; decide +kernel)
    | (intro _ _ _)
    | (intro _ _)

theorem execLoad_frame {W : List Span} {L : List Part} {org s : State} (ep : Endpoint) (off : Nat) (data : List Byte) (crc : Nat) (h : Leaves W L org s)
    (hW : Inside (each CAN_PORT.RX_FRAMES :: each FRAME_BUF :: each FRAME_RESP :: one SPI_PORT.BUSY_ANSWERS :: one SPI_PORT.CRC_ERRORS :: one SPI_PORT.FRAMES :: one TWO_WIRE_STATUS.BUSY_ANSWERS :: one TWO_WIRE_STATUS.CRC_ERRORS :: []) W)
    (hL : Within ([.resp] : List Part) L) : RunsIn W L org (execLoad ep off data crc s) := by
  delta execLoad
  repeat' first
    | with_reducible assumption
    | with_reducible refine RunsIn.next ?_
    | with_reducible apply State.requestFrame_leaves
    | with_reducible apply State.frameLoad_leaves
    | with_unfolding_none apply hW.sub (inBoth (inSkip (inBoth (inBoth (inBoth (inBoth (inBoth (inBoth inNil))))))))
    | with_unfolding_none apply hW.sub (inSkip (inBoth (inBoth inNil)))
    | (with_reducible refine Within.trans ?_ hL; decide +kernel)
    | (intro _ _)

theorem execWriteBuffer_frame {W : List Span} {L : List Part} {org s : State} (ep : Endpoint) (addr len crc : Nat) (h : Leaves W L org s)
    (hW : Inside (anyKey :: []) W)
    (hL : Within ([.barriers, .collector, .fences, .free, .heldWrites, .landing, .out, .resp, .rings, .shadows, .signing, .staged] : List Part) L) : RunsIn W L org (execWriteBuffer ep addr len crc s) := by
  delta execWriteBuffer
  repeat' first
    | with_reducible assumption
    | with_reducible refine RunsIn.next ?_
    | with_reducible apply State.requestFrame_leaves
    | with_reducible apply State.frameBuffer_leaves
    | with_unfolding_none apply hW.sub (inAny)
    | (with_reducible refine Within.trans ?_ hL; decide +kernel)
    | (intro _ _ _)
    | (intro _ _)

theorem execBrokenFrame_frame {W : List Span} {L : List Part} {org s : State} (ep : Endpoint) (h : Leaves W L org s)
    (hW : Inside (one SPI_PORT.BROKEN_FRAMES :: one TWO_WIRE_STATUS.BROKEN_FRAMES :: []) W)
    : RunsIn W L org (execBrokenFrame ep s) := by
  delta execBrokenFrame
  repeat' first
    | with_reducible assumption
    | with_reducible refine RunsIn.next ?_
    | with_reducible apply State.frameBroken_leaves
    | with_unfolding_none apply hW.sub (inBoth (inBoth inNil))

theorem execCsConflict_frame {W : List Span} {L : List Part} {org s : State} (h : Leaves W L org s)
    (hW : Inside (one SPI_PORT.CS_CONFLICTS :: []) W)
    : RunsIn W L org (execCsConflict s) := by
  delta execCsConflict
  repeat' first
    | with_reducible assumption
    | with_reducible refine RunsIn.next ?_
    | with_reducible apply State.spiConflict_leaves
    | with_unfolding_none apply hW.sub (inBoth inNil)

theorem execResponseFetch_frame {W : List Span} {L : List Part} {org s : State} (a : Nat) (h : Leaves W L org s)
    (hW : Inside (one (FRAME_RESP (a % 256)) :: []) W)
    (hL : Within ([.resp] : List Part) L) : RunsIn W L org (execResponseFetch a s) := by
  delta execResponseFetch
  repeat' first
    | with_reducible assumption
    | with_reducible refine RunsIn.next ?_
    | with_reducible apply State.responseFetch_leaves
    | with_unfolding_none apply hW.sub (inBoth inNil)

end Sys2Proof.Machine
end

