-- ==== Sys2Proof/Laws/KeepsA.lean ====
section
/-!
SUPPORT. The laws of Ops, Flags, Good, Channel, Models, Admission, Castling, Standing, Protect, Windows: each definition that answers a state keeps what Keeps says.
-/
namespace Sys2Proof.Machine

theorem State.setN_keeps {org s : State} (k v : Nat) (h : Keeps org s) :
    Keeps org (State.setN s k v) := by
  delta State.setN
  repeat' first
    | with_reducible assumption
    | with_reducible apply State.set_keeps

theorem State.setFlag_keeps {org s : State} (k : Nat) (b : Bool) (h : Keeps org s) :
    Keeps org (State.setFlag s k b) := by
  delta State.setFlag
  repeat' first
    | with_reducible assumption
    | with_reducible apply State.setN_keeps

theorem State.setBit_keeps {org s : State} (k b : Nat) (on : Bool) (h : Keeps org s) :
    Keeps org (State.setBit s k b on) := by
  delta State.setBit
  repeat' first
    | with_reducible assumption
    | with_reducible apply State.setN_keeps

theorem State.count_keeps {org s : State} (k mx : Nat) (h : Keeps org s) :
    Keeps org (State.count s k mx) := by
  delta State.count
  repeat' first
    | with_reducible assumption
    | with_reducible apply State.setN_keeps

theorem State.wrapCount_keeps {org s : State} (k w : Nat) (h : Keeps org s) :
    Keeps org (State.wrapCount s k w) := by
  delta State.wrapCount
  repeat' first
    | with_reducible assumption
    | with_reducible apply State.setN_keeps

theorem State.restore_keeps {org s : State} (k : Nat) (h : Keeps org s) :
    Keeps org (State.restore s k) := by
  delta State.restore
  repeat' first
    | with_reducible assumption
    | with_reducible apply State.set_keeps

theorem idle_keeps {org s : State} (h : Keeps org s) :
    Keeps org (idle s) := by
  delta idle
  repeat' first
    | with_reducible assumption
    | with_reducible refine Keeps.ite ?_ ?_
    | with_reducible refine Keeps.update ?_

theorem State.setFree_keeps {org s : State} (k : Nat) (lo hi : Int) (h : Keeps org s) :
    Keeps org (State.setFree s k lo hi) := by
  delta State.setFree
  repeat' first
    | with_reducible assumption
    | with_reducible apply State.takeFreeIn_keeps
    | with_reducible apply State.set_keeps

theorem State.raise_keeps {org s : State} (k : Kind) (site tenant obj : Nat) (fields : List (Nat × Int)) (h : Keeps org s) :
    Keeps org (State.raise s k site tenant obj fields) := by
  delta State.raise
  repeat' first
    | with_reducible assumption
    | with_reducible refine Keeps.update ?_

theorem State.raiseDie_keeps {org s : State} (d : Nat) (k : Kind) (site tenant obj : Nat) (fields : List (Nat × Int)) (h : Keeps org s) :
    Keeps org (State.raiseDie s d k site tenant obj fields) := by
  delta State.raiseDie
  repeat' first
    | with_reducible assumption
    | with_reducible refine Keeps.update ?_

theorem State.raiseChannel_keeps {org s : State} (k : Kind) (n e obj : Nat) (fields : List (Nat × Int)) (h : Keeps org s) :
    Keeps org (State.raiseChannel s k n e obj fields) := by
  delta State.raiseChannel
  repeat' first
    | with_reducible assumption
    | with_reducible apply State.raiseDie_keeps

theorem State.land_keeps {org s : State} (tenant delay : Nat) (a : LandAct) (h : Keeps org s) :
    Keeps org (State.land s tenant delay a) := by
  delta State.land
  repeat' first
    | with_reducible assumption
    | with_reducible refine Keeps.update ?_

theorem State.answer_keeps {org s : State} (r : Resp) (h : Keeps org s) :
    Keeps org (State.answer s r) := by
  delta State.answer
  repeat' first
    | with_reducible assumption
    | with_reducible refine Keeps.update ?_

theorem State.setChFlag_keeps {org s : State} (n b : Nat) (on : Bool) (h : Keeps org s) :
    Keeps org (State.setChFlag s n b on) := by
  delta State.setChFlag
  repeat' first
    | with_reducible assumption
    | with_reducible apply State.setBit_keeps

theorem State.setModelFlag_keeps {org s : State} (n b : Nat) (on : Bool) (h : Keeps org s) :
    Keeps org (State.setModelFlag s n b on) := by
  delta State.setModelFlag
  repeat' first
    | with_reducible assumption
    | with_reducible apply State.setBit_keeps

theorem State.setBankFlag_keeps {org s : State} (k b mirror : Nat) (on : Bool) (h : Keeps org s) :
    Keeps org (State.setBankFlag s k b mirror on) := by
  delta State.setBankFlag
  repeat' first
    | with_reducible assumption
    | with_reducible apply State.setChFlag_keeps
    | with_reducible apply State.setBit_keeps
    | with_reducible refine forBelow_keeps ?_ (fun _ _ _ => ?_)

theorem State.showState_keeps {org s : State} (n : Nat) (h : Keeps org s) :
    Keeps org (State.showState s n) := by
  delta State.showState
  repeat' first
    | with_reducible assumption
    | with_reducible apply State.setN_keeps
    | with_reducible refine Keeps.ite ?_ ?_

theorem State.rsoChange_keeps {org s : State} (r : Nat) (asserted : Bool) (cause : Nat) (h : Keeps org s) :
    Keeps org (State.rsoChange s r asserted cause) := by
  delta State.rsoChange
  repeat' first
    | with_reducible assumption
    | with_reducible apply State.setFlag_keeps
    | with_reducible apply State.setN_keeps
    | with_reducible apply State.count_keeps
    | with_reducible apply State.raise_keeps
    | (extract_lets +onlyGivenNames letX; have letT : True := (by clear_value letX; guard_hyp letX : State; trivial); clear letT; refine Keeps.cut (r := org) (v := letX) ?_ (fun letH => ?_); (focus subst letX); rotate_left; clear_value letX; revert letX; intro _ _)
    | with_reducible refine Keeps.ite ?_ ?_
    | with_reducible refine Keeps.iteP ?_ ?_

theorem State.rsoFollow_keeps {org s : State} (r : Nat) (h : Keeps org s) :
    Keeps org (State.rsoFollow s r) := by
  delta State.rsoFollow
  repeat' first
    | with_reducible assumption
    | with_reducible apply State.setN_keeps
    | with_reducible apply State.rsoChange_keeps
    | with_reducible refine Keeps.ite ?_ ?_

theorem State.rsoForce_keeps {org s : State} (r v : Nat) (h : Keeps org s) :
    Keeps org (State.rsoForce s r v) := by
  delta State.rsoForce
  repeat' first
    | with_reducible assumption
    | with_reducible apply State.setN_keeps
    | with_reducible apply State.rsoChange_keeps
    | (extract_lets +onlyGivenNames letX; have letT : True := (by clear_value letX; guard_hyp letX : State; trivial); clear letT; refine Keeps.cut (r := org) (v := letX) ?_ (fun letH => ?_); (focus subst letX); rotate_left; clear_value letX; revert letX; intro _ _)
    | with_reducible refine Keeps.ite ?_ ?_
    | with_reducible refine Keeps.iteP ?_ ?_

theorem State.rsoRelease_keeps {org s : State} (r : Nat) (h : Keeps org s) :
    Keeps org (State.rsoRelease s r) := by
  delta State.rsoRelease
  repeat' first
    | with_reducible assumption
    | with_reducible apply State.rsoChange_keeps
    | (extract_lets +onlyGivenNames letX; clear_value letX; revert letX; intro _)
    | with_reducible refine Keeps.ite ?_ ?_
    | with_reducible refine Keeps.iteP ?_ ?_

theorem State.updateGood_keeps {org s : State} (n : Nat) (h : Keeps org s) :
    Keeps org (State.updateGood s n) := by
  delta State.updateGood
  repeat' first
    | with_reducible assumption
    | with_reducible apply State.setBit_keeps
    | with_reducible apply State.raiseChannel_keeps
    | with_reducible apply State.rsoFollow_keeps
    | (extract_lets +onlyGivenNames letX; have letT : True := (by clear_value letX; guard_hyp letX : State; trivial); clear letT; refine Keeps.cut (r := org) (v := letX) ?_ (fun letH => ?_); (focus subst letX); rotate_left; clear_value letX; revert letX; intro _ _)
    | with_reducible refine Keeps.ite ?_ ?_
    | with_reducible refine Keeps.iteP ?_ ?_
    | with_reducible refine forBelow_keeps ?_ (fun _ _ _ => ?_)

theorem State.showCell_keeps {org s : State} (n : Nat) (h : Keeps org s) :
    Keeps org (State.showCell s n) := by
  delta State.showCell
  repeat' first
    | with_reducible assumption
    | with_reducible apply State.showState_keeps
    | with_reducible apply State.updateGood_keeps

theorem State.pumpUpdate_keeps {org s : State} (k : Nat) (h : Keeps org s) :
    Keeps org (State.pumpUpdate s k) := by
  delta State.pumpUpdate
  repeat' first
    | with_reducible assumption
    | with_reducible apply State.setN_keeps
    | with_reducible apply State.setBit_keeps
    | (extract_lets +onlyGivenNames letX; clear_value letX; revert letX; intro _)
    | with_reducible refine Keeps.ite ?_ ?_
    | with_reducible refine Keeps.iteP ?_ ?_

theorem State.runClock_keeps {org s : State} (n st : Nat) (h : Keeps org s) :
    Keeps org (State.runClock s n st) := by
  delta State.runClock
  repeat' first
    | with_reducible assumption
    | with_reducible apply State.setN_keeps
    | (extract_lets +onlyGivenNames letX; clear_value letX; revert letX; intro _)
    | with_reducible refine Keeps.ite ?_ ?_
    | with_reducible refine Keeps.iteP ?_ ?_

theorem State.limitClock_keeps {org s : State} (n st : Nat) (h : Keeps org s) :
    Keeps org (State.limitClock s n st) := by
  delta State.limitClock
  repeat' first
    | with_reducible assumption
    | with_reducible apply State.setN_keeps
    | (extract_lets +onlyGivenNames letX; have letT : True := (by clear_value letX; guard_hyp letX : State; trivial); clear letT; refine Keeps.cut (r := org) (v := letX) ?_ (fun letH => ?_); (focus subst letX); rotate_left; clear_value letX; revert letX; intro _ _)
    | with_reducible refine Keeps.ite ?_ ?_
    | with_reducible refine Keeps.iteP ?_ ?_

theorem State.cellTo_keeps {org s : State} (n st : Nat) (h : Keeps org s) :
    Keeps org (State.cellTo s n st) := by
  delta State.cellTo
  repeat' first
    | with_reducible assumption
    | with_reducible apply State.runClock_keeps
    | with_reducible apply State.limitClock_keeps
    | with_reducible apply State.setN_keeps
    | with_reducible apply State.setChFlag_keeps
    | with_reducible apply State.setModelFlag_keeps
    | with_reducible apply State.setFlag_keeps
    | with_reducible apply State.showCell_keeps
    | with_reducible apply State.pumpUpdate_keeps
    | (extract_lets +onlyGivenNames letX; have letT : True := (by clear_value letX; guard_hyp letX : State; trivial); clear letT; refine Keeps.cut (r := org) (v := letX) ?_ (fun letH => ?_); (focus subst letX); rotate_left; clear_value letX; revert letX; intro _ _)
    | with_reducible refine Keeps.ite ?_ ?_
    | with_reducible refine Keeps.iteP ?_ ?_

theorem State.withdraw_keeps {org s : State} (n : Nat) (h : Keeps org s) :
    Keeps org (State.withdraw s n) := by
  delta State.withdraw
  repeat' first
    | with_reducible assumption
    | with_reducible apply State.setN_keeps
    | with_reducible apply State.setChFlag_keeps

theorem State.turnOff_keeps {org s : State} (n stage : Nat) (h : Keeps org s) :
    Keeps org (State.turnOff s n stage) := by
  delta State.turnOff
  repeat' first
    | with_reducible assumption
    | with_reducible apply State.withdraw_keeps
    | with_reducible apply State.setN_keeps
    | with_reducible apply State.cellTo_keeps
    | with_reducible apply State.stage_keeps

theorem State.openShadow_keeps {org s : State} (cause subject closing : Nat) (h : Keeps org s) :
    Keeps org (State.openShadow s cause subject closing) := by
  delta State.openShadow
  repeat' first
    | with_reducible assumption
    | with_reducible refine Keeps.update ?_

theorem State.setClosing_keeps {org s : State} (cause subject closing : Nat) (h : Keeps org s) :
    Keeps org (State.setClosing s cause subject closing) := by
  delta State.setClosing
  repeat' first
    | with_reducible assumption
    | with_reducible refine Keeps.ite ?_ ?_
    | with_reducible refine Keeps.update ?_

theorem State.gateHeld_keeps {org s : State} (n : Nat) (h : Keeps org s) :
    Keeps org (State.gateHeld s n) := by
  delta State.gateHeld
  repeat' first
    | with_reducible assumption
    | with_reducible apply State.setN_keeps
    | with_reducible refine Keeps.ite ?_ ?_

theorem State.gateSettles_keeps {org s : State} (n : Nat) (h : Keeps org s) :
    Keeps org (State.gateSettles s n) := by
  delta State.gateSettles
  repeat' first
    | with_reducible assumption
    | with_reducible apply State.takeFreeIn_keeps
    | with_reducible apply State.setN_keeps
    | with_reducible apply State.setClosing_keeps
    | (extract_lets +onlyGivenNames letX; have letT : True := (by clear_value letX; revert letX; with_reducible exact Keeps.isPair); clear letT; refine Keeps.cut (r := org) (v := letX.2) ?_ (fun letH => ?_); (focus subst letX); rotate_left; clear_value letX; revert letX; intro _ _)
    | (extract_lets +onlyGivenNames letX; clear_value letX; revert letX; intro _)
    | with_reducible refine Keeps.ite ?_ ?_
    | with_reducible refine Keeps.iteP ?_ ?_

theorem State.askAdmission_keeps {org s : State} (n kind : Nat) (h : Keeps org s) :
    Keeps org (State.askAdmission s n kind) := by
  delta State.askAdmission
  repeat' first
    | with_reducible assumption
    | with_reducible apply State.setN_keeps
    | with_reducible apply State.setChFlag_keeps

theorem State.lampStart_keeps {org s : State} (n : Nat) (h : Keeps org s) :
    Keeps org (State.lampStart s n) := by
  delta State.lampStart
  repeat' first
    | with_reducible assumption
    | with_reducible apply State.setN_keeps
    | with_reducible apply State.setModelFlag_keeps
    | with_reducible refine Keeps.ite ?_ ?_

theorem State.startRamp_keeps {org s : State} (n : Nat) (gentle retry : Bool) (h : Keeps org s) :
    Keeps org (State.startRamp s n gentle retry) := by
  delta State.startRamp
  repeat' first
    | with_reducible assumption
    | with_reducible apply State.withdraw_keeps
    | with_reducible apply State.count_keeps
    | with_reducible apply State.setBit_keeps
    | with_reducible apply State.setN_keeps
    | with_reducible apply State.setFlag_keeps
    | with_reducible apply State.raiseChannel_keeps
    | with_reducible apply State.setChFlag_keeps
    | with_reducible apply State.cellTo_keeps
    | with_reducible apply State.lampStart_keeps
    | (extract_lets +onlyGivenNames letX; have letT : True := (by clear_value letX; guard_hyp letX : State; trivial); clear letT; refine Keeps.cut (r := org) (v := letX) ?_ (fun letH => ?_); (focus subst letX); rotate_left; clear_value letX; revert letX; intro _ _)
    | with_reducible refine Keeps.ite ?_ ?_
    | with_reducible refine Keeps.iteP ?_ ?_

theorem State.pendPwm_keeps {org s : State} (n : Nat) (h : Keeps org s) :
    Keeps org (State.pendPwm s n) := by
  delta State.pendPwm
  repeat' first
    | with_reducible assumption
    | with_reducible apply State.setN_keeps

theorem State.riseEdge_keeps {org s : State} (n : Nat) (h : Keeps org s) :
    Keeps org (State.riseEdge s n) := by
  delta State.riseEdge
  repeat' first
    | with_reducible assumption
    | with_reducible apply State.setN_keeps
    | with_reducible apply State.lampStart_keeps

theorem State.bankPauses_keeps {org s : State} (k : Nat) (h : Keeps org s) :
    Keeps org (State.bankPauses s k) := by
  delta State.bankPauses
  repeat' first
    | with_reducible assumption
    | with_reducible apply State.setN_keeps
    | with_reducible apply State.riseEdge_keeps
    | (extract_lets +onlyGivenNames letX; have letT : True := (by clear_value letX; guard_hyp letX : State; trivial); clear letT; refine Keeps.cut (r := org) (v := letX) ?_ (fun letH => ?_); (focus subst letX); rotate_left; clear_value letX; revert letX; intro _ _)
    | (extract_lets +onlyGivenNames letX; clear_value letX; revert letX; intro _)
    | with_reducible refine Keeps.ite ?_ ?_
    | with_reducible refine Keeps.iteP ?_ ?_
    | with_reducible refine forBelow_keeps ?_ (fun _ _ _ => ?_)

theorem State.requestFromOff_keeps {org s : State} (n : Nat) (h : Keeps org s) :
    Keeps org (State.requestFromOff s n) := by
  delta State.requestFromOff
  repeat' first
    | with_reducible assumption
    | with_reducible apply State.setN_keeps
    | with_reducible apply State.setModelFlag_keeps
    | with_reducible apply State.askAdmission_keeps
    | (extract_lets +onlyGivenNames letX; have letT : True := (by clear_value letX; guard_hyp letX : State; trivial); clear letT; refine Keeps.cut (r := org) (v := letX) ?_ (fun letH => ?_); (focus subst letX); rotate_left; clear_value letX; revert letX; intro _ _)
    | with_reducible refine Keeps.ite ?_ ?_
    | with_reducible refine Keeps.iteP ?_ ?_

theorem State.requestOff_keeps {org s : State} (n : Nat) (h : Keeps org s) :
    Keeps org (State.requestOff s n) := by
  delta State.requestOff
  repeat' first
    | with_reducible assumption
    | with_reducible apply State.setModelFlag_keeps
    | with_reducible apply State.setN_keeps
    | with_reducible apply State.turnOff_keeps
    | with_reducible apply State.withdraw_keeps
    | (extract_lets +onlyGivenNames letX; have letT : True := (by clear_value letX; guard_hyp letX : State; trivial); clear letT; refine Keeps.cut (r := org) (v := letX) ?_ (fun letH => ?_); (focus subst letX); rotate_left; clear_value letX; revert letX; intro _ _)
    | with_reducible refine Keeps.iteP ?_ ?_
    | split

theorem State.requestOn_keeps {org s : State} (n : Nat) (h : Keeps org s) :
    Keeps org (State.requestOn s n) := by
  delta State.requestOn
  repeat' first
    | with_reducible assumption
    | with_reducible apply State.requestFromOff_keeps
    | with_reducible apply State.setN_keeps
    | with_reducible refine Keeps.ite ?_ ?_
    | split

theorem State.requestPwm_keeps {org s : State} (n : Nat) (h : Keeps org s) :
    Keeps org (State.requestPwm s n) := by
  delta State.requestPwm
  repeat' first
    | with_reducible assumption
    | with_reducible apply State.requestFromOff_keeps
    | with_reducible apply State.pendPwm_keeps
    | with_reducible apply State.setN_keeps
    | with_reducible refine Keeps.ite ?_ ?_
    | split

theorem State.actOnRequest_keeps {org s : State} (n : Nat) (h : Keeps org s) :
    Keeps org (State.actOnRequest s n) := by
  delta State.actOnRequest
  repeat' first
    | with_reducible assumption
    | with_reducible apply State.requestOff_keeps
    | with_reducible apply State.setN_keeps
    | with_reducible apply State.requestOn_keeps
    | with_reducible apply State.requestPwm_keeps
    | with_reducible refine Keeps.ite ?_ ?_
    | split

theorem State.setRequest_keeps {org s : State} (n v : Nat) (h : Keeps org s) :
    Keeps org (State.setRequest s n v) := by
  delta State.setRequest
  repeat' first
    | with_reducible assumption
    | with_reducible apply State.setN_keeps

theorem State.trip_keeps {org s : State} (n cause stage : Nat) (h : Keeps org s) :
    Keeps org (State.trip s n cause stage) := by
  delta State.trip
  repeat' first
    | with_reducible assumption
    | with_reducible apply State.setN_keeps
    | with_reducible apply State.setModelFlag_keeps
    | with_reducible apply State.count_keeps
    | with_reducible apply State.withdraw_keeps
    | with_reducible apply State.cellTo_keeps
    | with_reducible apply State.stage_keeps
    | with_reducible apply State.openShadow_keeps
    | (extract_lets +onlyGivenNames letX; have letT : True := (by clear_value letX; guard_hyp letX : State; trivial); clear letT; refine Keeps.cut (r := org) (v := letX) ?_ (fun letH => ?_); (focus subst letX); rotate_left; clear_value letX; revert letX; intro _ _)
    | with_reducible refine Keeps.ite ?_ ?_
    | with_reducible refine Keeps.iteP ?_ ?_

theorem State.lockoutTold_keeps {org s : State} (n : Nat) (h : Keeps org s) :
    Keeps org (State.lockoutTold s n) := by
  delta State.lockoutTold
  repeat' first
    | with_reducible assumption
    | with_reducible apply State.raiseChannel_keeps
    | with_reducible refine Keeps.ite ?_ ?_

theorem State.raiseCell_keeps {org s : State} (k : Kind) (n e c obj : Nat) (fields : List (Nat × Int)) (h : Keeps org s) :
    Keeps org (State.raiseCell s k n e c obj fields) := by
  delta State.raiseCell
  repeat' first
    | with_reducible assumption
    | with_reducible apply State.raiseDie_keeps

theorem State.staleEpisode_keeps {org s : State} (k e : Nat) (h : Keeps org s) :
    Keeps org (State.staleEpisode s k e).2 := by
  delta State.staleEpisode
  repeat' first
    | with_reducible assumption
    | with_reducible apply State.setN_keeps
    | (extract_lets +onlyGivenNames letX; clear_value letX; revert letX; intro _)
    | with_reducible refine Keeps.iteP ?_ ?_
    | with_reducible refine Keeps.ite ?_ ?_

theorem State.takeShuntTemp_keeps {org s : State} (n : Nat) (h : Keeps org s) :
    Keeps org (State.takeShuntTemp s n) := by
  delta State.takeShuntTemp
  repeat' first
    | with_reducible assumption
    | with_reducible apply State.staleEpisode_keeps
    | with_reducible apply State.set_keeps
    | with_reducible apply State.setChFlag_keeps
    | with_reducible apply State.raiseChannel_keeps
    | (extract_lets +onlyGivenNames letX; have letT : True := (by clear_value letX; guard_hyp letX : State; trivial); clear letT; refine Keeps.cut (r := org) (v := letX) ?_ (fun letH => ?_); (focus subst letX); rotate_left; clear_value letX; revert letX; intro _ _)
    | (extract_lets +onlyGivenNames letX; have letT : True := (by clear_value letX; revert letX; with_reducible exact Keeps.isPair); clear letT; refine Keeps.cut (r := org) (v := letX.2) ?_ (fun letH => ?_); (focus subst letX); rotate_left; clear_value letX; revert letX; intro _ _)
    | (extract_lets +onlyGivenNames letX; clear_value letX; revert letX; intro _)
    | with_reducible refine Keeps.ite ?_ ?_
    | with_reducible refine Keeps.iteP ?_ ?_

theorem State.takeRefs_keeps {org s : State} (n : Nat) (h : Keeps org s) :
    Keeps org (State.takeRefs s n) := by
  delta State.takeRefs
  repeat' first
    | with_reducible assumption
    | with_reducible apply State.set_keeps
    | with_reducible apply State.staleEpisode_keeps
    | with_reducible apply State.setModelFlag_keeps
    | with_reducible apply State.raiseChannel_keeps
    | (extract_lets +onlyGivenNames letX; have letT : True := (by clear_value letX; guard_hyp letX : State; trivial); clear letT; refine Keeps.cut (r := org) (v := letX) ?_ (fun letH => ?_); (focus subst letX); rotate_left; clear_value letX; revert letX; intro _ _)
    | (extract_lets +onlyGivenNames letX; have letT : True := (by clear_value letX; revert letX; with_reducible exact Keeps.isPair); clear letT; refine Keeps.cut (r := org) (v := letX.2) ?_ (fun letH => ?_); (focus subst letX); rotate_left; clear_value letX; revert letX; intro _ _)
    | (extract_lets +onlyGivenNames letX; clear_value letX; revert letX; intro _)
    | with_reducible refine Keeps.ite ?_ ?_
    | with_reducible refine Keeps.iteP ?_ ?_

theorem State.wireStep_keeps {org s : State} (n : Nat) (h : Keeps org s) :
    Keeps org (State.wireStep s n) := by
  delta State.wireStep
  repeat' first
    | with_reducible assumption
    | with_reducible apply State.takeFreeIn_keeps
    | with_reducible apply State.set_keeps
    | (extract_lets +onlyGivenNames letX; have letT : True := (by clear_value letX; guard_hyp letX : State; trivial); clear letT; refine Keeps.cut (r := org) (v := letX) ?_ (fun letH => ?_); (focus subst letX); rotate_left; clear_value letX; revert letX; intro _ _)
    | (extract_lets +onlyGivenNames letX; have letT : True := (by clear_value letX; revert letX; with_reducible exact Keeps.isPair); clear letT; refine Keeps.cut (r := org) (v := letX.2) ?_ (fun letH => ?_); (focus subst letX); rotate_left; clear_value letX; revert letX; intro _ _)
    | (extract_lets +onlyGivenNames letX; clear_value letX; revert letX; intro _)
    | with_reducible refine Keeps.ite ?_ ?_
    | with_reducible refine Keeps.iteP ?_ ?_

theorem State.fetStep_keeps {org s : State} (n : Nat) (h : Keeps org s) :
    Keeps org (State.fetStep s n) := by
  delta State.fetStep
  repeat' first
    | with_reducible assumption
    | with_reducible apply State.takeFreeIn_keeps
    | with_reducible apply State.set_keeps
    | (extract_lets +onlyGivenNames letX; have letT : True := (by clear_value letX; guard_hyp letX : State; trivial); clear letT; refine Keeps.cut (r := org) (v := letX) ?_ (fun letH => ?_); (focus subst letX); rotate_left; clear_value letX; revert letX; intro _ _)
    | (extract_lets +onlyGivenNames letX; have letT : True := (by clear_value letX; revert letX; with_reducible exact Keeps.isPair); clear letT; refine Keeps.cut (r := org) (v := letX.2) ?_ (fun letH => ?_); (focus subst letX); rotate_left; clear_value letX; revert letX; intro _ _)
    | (extract_lets +onlyGivenNames letX; clear_value letX; revert letX; intro _)
    | with_reducible refine Keeps.ite ?_ ?_
    | with_reducible refine Keeps.iteP ?_ ?_

theorem State.wireStart_keeps {org s : State} (n : Nat) (warm : Bool) (h : Keeps org s) :
    Keeps org (State.wireStart s n warm) := by
  delta State.wireStart
  repeat' first
    | with_reducible assumption
    | with_reducible apply State.set_keeps
    | (extract_lets +onlyGivenNames letX; have letT : True := (by clear_value letX; guard_hyp letX : State; trivial); clear letT; refine Keeps.cut (r := org) (v := letX) ?_ (fun letH => ?_); (focus subst letX); rotate_left; clear_value letX; revert letX; intro _ _)

theorem State.fetStart_keeps {org s : State} (n : Nat) (warm : Bool) (h : Keeps org s) :
    Keeps org (State.fetStart s n warm) := by
  delta State.fetStart
  repeat' first
    | with_reducible assumption
    | with_reducible apply State.set_keeps
    | (extract_lets +onlyGivenNames letX; have letT : True := (by clear_value letX; guard_hyp letX : State; trivial); clear letT; refine Keeps.cut (r := org) (v := letX) ?_ (fun letH => ?_); (focus subst letX); rotate_left; clear_value letX; revert letX; intro _ _)

theorem State.modelWarnings_keeps {org s : State} (n : Nat) (h : Keeps org s) :
    Keeps org (State.modelWarnings s n) := by
  delta State.modelWarnings
  repeat' first
    | with_reducible assumption
    | with_reducible apply State.setModelFlag_keeps
    | with_reducible apply State.raiseChannel_keeps
    | (extract_lets +onlyGivenNames letX; have letT : True := (by clear_value letX; guard_hyp letX : State; trivial); clear letT; refine Keeps.cut (r := org) (v := letX) ?_ (fun letH => ?_); (focus subst letX); rotate_left; clear_value letX; revert letX; intro _ _)
    | (extract_lets +onlyGivenNames letX; clear_value letX; revert letX; intro _)
    | with_reducible refine Keeps.ite ?_ ?_
    | with_reducible refine Keeps.iteP ?_ ?_

theorem State.captureSees_keeps {org s : State} (n : Nat) (h : Keeps org s) :
    Keeps org (State.captureSees s n) := by
  delta State.captureSees
  repeat' first
    | with_reducible assumption
    | with_reducible apply State.setN_keeps
    | (extract_lets +onlyGivenNames letX; clear_value letX; revert letX; intro _)
    | with_reducible refine Keeps.ite ?_ ?_
    | with_reducible refine Keeps.iteP ?_ ?_

theorem State.modelTrips_keeps {org s : State} (n : Nat) (h : Keeps org s) :
    Keeps org (State.modelTrips s n) := by
  delta State.modelTrips
  repeat' first
    | with_reducible assumption
    | with_reducible apply State.captureSees_keeps
    | with_reducible apply State.trip_keeps
    | with_reducible apply State.setModelFlag_keeps
    | with_reducible apply State.raiseChannel_keeps
    | with_reducible apply State.lockoutTold_keeps
    | (extract_lets +onlyGivenNames letX; have letT : True := (by clear_value letX; guard_hyp letX : State; trivial); clear letT; refine Keeps.cut (r := org) (v := letX) ?_ (fun letH => ?_); (focus subst letX); rotate_left; clear_value letX; revert letX; intro _ _)
    | (extract_lets +onlyGivenNames letX; clear_value letX; revert letX; intro _)
    | with_reducible refine Keeps.ite ?_ ?_
    | with_reducible refine Keeps.iteP ?_ ?_

theorem State.coolingRelease_keeps {org s : State} (n : Nat) (h : Keeps org s) :
    Keeps org (State.coolingRelease s n) := by
  delta State.coolingRelease
  repeat' first
    | with_reducible assumption
    | with_reducible apply State.setModelFlag_keeps
    | with_reducible apply State.raiseCell_keeps
    | with_reducible apply State.askAdmission_keeps
    | with_reducible apply State.setN_keeps
    | (extract_lets +onlyGivenNames letX; have letT : True := (by clear_value letX; guard_hyp letX : State; trivial); clear letT; refine Keeps.cut (r := org) (v := letX) ?_ (fun letH => ?_); (focus subst letX); rotate_left; clear_value letX; revert letX; intro _ _)
    | with_reducible refine Keeps.ite ?_ ?_
    | with_reducible refine Keeps.iteP ?_ ?_

theorem State.modelUpdate_keeps {org s : State} (n : Nat) (h : Keeps org s) :
    Keeps org (State.modelUpdate s n) := by
  delta State.modelUpdate
  repeat' first
    | with_reducible assumption
    | with_reducible apply State.wireStep_keeps
    | with_reducible apply State.fetStep_keeps
    | with_reducible apply State.modelTrips_keeps
    | with_reducible apply State.modelWarnings_keeps
    | with_reducible apply State.coolingRelease_keeps
    | with_reducible refine Keeps.ite ?_ ?_

theorem State.endShares_keeps {org s : State} (l : List Nat) (h : Keeps org s) :
    Keeps org (State.endShares s l) := by
  delta State.endShares
  repeat' first
    | with_reducible assumption
    | with_reducible apply State.setN_keeps
    | with_reducible refine Keeps.ite ?_ ?_
    | with_reducible refine forEach_keeps ?_ (fun _ _ _ => ?_)

theorem State.grantStart_keeps {org s : State} (n : Nat) (forced : Bool) (h : Keeps org s) :
    Keeps org (State.grantStart s n forced) := by
  delta State.grantStart
  repeat' first
    | with_reducible assumption
    | with_reducible apply State.setN_keeps
    | with_reducible apply State.setFlag_keeps
    | with_reducible apply State.setChFlag_keeps
    | (extract_lets +onlyGivenNames letX; have letT : True := (by clear_value letX; guard_hyp letX : State; trivial); clear letT; refine Keeps.cut (r := org) (v := letX) ?_ (fun letH => ?_); (focus subst letX); rotate_left; clear_value letX; revert letX; intro _ _)

theorem State.ordinaryPass_keeps {org s : State} (budget load left shares : Nat) (l : List Nat) (h : Keeps org s) :
    Keeps org (State.ordinaryPass budget load left shares l s) := by
  induction l generalizing s load left shares with
  | nil => exact h
  | cons n l ih =>
    unfold State.ordinaryPass
    repeat' first
      | with_reducible assumption
      | with_reducible apply ih
      | with_reducible apply State.grantStart_keeps
      | with_reducible refine Keeps.ite ?_ ?_
      | (extract_lets +onlyGivenNames letX; clear_value letX; revert letX; intro _)

theorem State.admissionRun_keeps {org s : State} (g : Nat) (h : Keeps org s) :
    Keeps org (State.admissionRun s g) := by
  delta State.admissionRun
  repeat' first
    | with_reducible assumption
    | with_reducible apply State.endShares_keeps
    | with_reducible apply State.setN_keeps
    | with_reducible apply State.grantStart_keeps
    | with_reducible apply State.ordinaryPass_keeps
    | with_reducible apply State.count_keeps
    | with_reducible apply State.raise_keeps
    | (extract_lets +onlyGivenNames letX; have letT : True := (by clear_value letX; guard_hyp letX : State; trivial); clear letT; refine Keeps.cut (r := org) (v := letX) ?_ (fun letH => ?_); (focus subst letX); rotate_left; clear_value letX; revert letX; intro _ _)
    | (extract_lets +onlyGivenNames letX; clear_value letX; revert letX; intro _)
    | with_reducible refine Keeps.ite ?_ ?_
    | with_reducible refine Keeps.iteP ?_ ?_
    | with_reducible refine forEach_keeps ?_ (fun _ _ _ => ?_)

theorem State.admittedStarts_keeps {org s : State} (h : Keeps org s) :
    Keeps org (State.admittedStarts s) := by
  delta State.admittedStarts
  repeat' first
    | with_reducible assumption
    | with_reducible apply State.startRamp_keeps
    | (extract_lets +onlyGivenNames letX; clear_value letX; revert letX; intro _)
    | with_reducible refine Keeps.ite ?_ ?_
    | with_reducible refine Keeps.iteP ?_ ?_
    | with_reducible refine forBelow_keeps ?_ (fun _ _ _ => ?_)

theorem State.swapAbort_keeps {org s : State} (p result : Nat) (h : Keeps org s) :
    Keeps org (State.swapAbort s p result) := by
  delta State.swapAbort
  repeat' first
    | with_reducible assumption
    | with_reducible apply State.setN_keeps
    | with_reducible apply State.setRequest_keeps
    | with_reducible apply State.requestOff_keeps
    | with_reducible apply State.raise_keeps
    | (extract_lets +onlyGivenNames letX; have letT : True := (by clear_value letX; guard_hyp letX : State; trivial); clear letT; refine Keeps.cut (r := org) (v := letX) ?_ (fun letH => ?_); (focus subst letX); rotate_left; clear_value letX; revert letX; intro _ _)
    | (extract_lets +onlyGivenNames letX; clear_value letX; revert letX; intro _)
    | with_reducible refine Keeps.ite ?_ ?_
    | with_reducible refine Keeps.iteP ?_ ?_

theorem State.swapTrip_keeps {org s : State} (n : Nat) (h : Keeps org s) :
    Keeps org (State.swapTrip s n) := by
  delta State.swapTrip
  repeat' first
    | with_reducible assumption
    | with_reducible apply State.swapAbort_keeps
    | with_reducible apply State.setN_keeps
    | with_reducible refine Keeps.ite ?_ ?_
    | split

theorem State.swapInterrupt_keeps {org s : State} (n : Nat) (h : Keeps org s) :
    Keeps org (State.swapInterrupt s n) := by
  delta State.swapInterrupt
  repeat' first
    | with_reducible assumption
    | with_reducible apply State.swapAbort_keeps
    | with_reducible refine Keeps.ite ?_ ?_
    | split

theorem State.swapDieStands_keeps {org s : State} (d : Nat) (h : Keeps org s) :
    Keeps org (State.swapDieStands s d) := by
  delta State.swapDieStands
  repeat' first
    | with_reducible assumption
    | with_reducible apply State.swapAbort_keeps
    | with_reducible apply State.setN_keeps
    | with_reducible apply State.withdraw_keeps
    | with_reducible apply State.setRequest_keeps
    | with_reducible apply State.raise_keeps
    | (extract_lets +onlyGivenNames letX; have letT : True := (by clear_value letX; guard_hyp letX : State; trivial); clear letT; refine Keeps.cut (r := org) (v := letX) ?_ (fun letH => ?_); (focus subst letX); rotate_left; clear_value letX; revert letX; intro _ _)
    | (extract_lets +onlyGivenNames letX; clear_value letX; revert letX; intro _)
    | with_reducible refine Keeps.ite ?_ ?_
    | with_reducible refine Keeps.iteP ?_ ?_
    | with_reducible refine forBelow_keeps ?_ (fun _ _ _ => ?_)

theorem State.swapBegin_keeps {org s : State} (p which : Nat) (h : Keeps org s) :
    Keeps org (State.swapBegin s p which) := by
  delta State.swapBegin
  repeat' first
    | with_reducible assumption
    | with_reducible apply State.setN_keeps
    | with_reducible apply State.setRequest_keeps
    | with_reducible apply State.askAdmission_keeps
    | (extract_lets +onlyGivenNames letX; have letT : True := (by clear_value letX; guard_hyp letX : State; trivial); clear letT; refine Keeps.cut (r := org) (v := letX) ?_ (fun letH => ?_); (focus subst letX); rotate_left; clear_value letX; revert letX; intro _ _)
    | (extract_lets +onlyGivenNames letX; clear_value letX; revert letX; intro _)
    | with_reducible refine Keeps.ite ?_ ?_
    | with_reducible refine Keeps.iteP ?_ ?_

theorem State.swapOnMet_keeps {org s : State} (n : Nat) (h : Keeps org s) :
    Keeps org (State.swapOnMet s n) := by
  delta State.swapOnMet
  repeat' first
    | with_reducible assumption
    | with_reducible apply State.setN_keeps
    | with_reducible apply State.set_keeps
    | with_reducible refine Keeps.ite ?_ ?_
    | split

theorem State.swapComplete_keeps {org s : State} (p : Nat) (h : Keeps org s) :
    Keeps org (State.swapComplete s p) := by
  delta State.swapComplete
  repeat' first
    | with_reducible assumption
    | with_reducible apply State.setRequest_keeps
    | with_reducible apply State.requestOff_keeps
    | with_reducible apply State.setN_keeps
    | with_reducible apply State.wrapCount_keeps
    | with_reducible apply State.raise_keeps
    | (extract_lets +onlyGivenNames letX; have letT : True := (by clear_value letX; guard_hyp letX : State; trivial); clear letT; refine Keeps.cut (r := org) (v := letX) ?_ (fun letH => ?_); (focus subst letX); rotate_left; clear_value letX; revert letX; intro _ _)
    | (extract_lets +onlyGivenNames letX; clear_value letX; revert letX; intro _)
    | with_reducible refine Keeps.ite ?_ ?_
    | with_reducible refine Keeps.iteP ?_ ?_

theorem State.pairBoundary_keeps {org s : State} (p : Nat) (h : Keeps org s) :
    Keeps org (State.pairBoundary s p) := by
  delta State.pairBoundary
  repeat' first
    | with_reducible assumption
    | with_reducible apply State.swapAbort_keeps
    | with_reducible apply State.setN_keeps
    | (extract_lets +onlyGivenNames letX; have letT : True := (by clear_value letX; guard_hyp letX : State; trivial); clear letT; refine Keeps.cut (r := org) (v := letX) ?_ (fun letH => ?_); (focus subst letX); rotate_left; clear_value letX; revert letX; intro _ _)
    | with_reducible refine Keeps.ite ?_ ?_
    | with_reducible refine Keeps.iteP ?_ ?_

theorem State.applyOrder_keeps {org s : State} (n cause : Nat) (h : Keeps org s) :
    Keeps org (State.applyOrder s n cause) := by
  delta State.applyOrder
  repeat' first
    | with_reducible assumption
    | with_reducible apply State.setModelFlag_keeps
    | with_reducible apply State.setN_keeps
    | with_reducible apply State.withdraw_keeps
    | with_reducible apply State.turnOff_keeps
    | with_reducible apply State.startRamp_keeps
    | (extract_lets +onlyGivenNames letX; have letT : True := (by clear_value letX; guard_hyp letX : State; trivial); clear letT; refine Keeps.cut (r := org) (v := letX) ?_ (fun letH => ?_); (focus subst letX); rotate_left; clear_value letX; revert letX; intro _ _)
    | (extract_lets +onlyGivenNames letX; clear_value letX; revert letX; intro _)
    | with_reducible refine Keeps.ite ?_ ?_
    | with_reducible refine Keeps.iteP ?_ ?_
    | split

theorem State.standChannel_keeps {org s : State} (n cause : Nat) (h : Keeps org s) :
    Keeps org (State.standChannel s n cause) := by
  delta State.standChannel
  repeat' first
    | with_reducible assumption
    | with_reducible apply State.setN_keeps
    | with_reducible apply State.applyOrder_keeps
    | with_reducible apply State.showCell_keeps
    | (extract_lets +onlyGivenNames letX; have letT : True := (by clear_value letX; guard_hyp letX : State; trivial); clear letT; refine Keeps.cut (r := org) (v := letX) ?_ (fun letH => ?_); (focus subst letX); rotate_left; clear_value letX; revert letX; intro _ _)
    | (extract_lets +onlyGivenNames letX; clear_value letX; revert letX; intro _)
    | with_reducible refine Keeps.ite ?_ ?_
    | with_reducible refine Keeps.iteP ?_ ?_

theorem State.safeOnNext_keeps {org s : State} (k : Nat) (h : Keeps org s) :
    Keeps org (State.safeOnNext s k) := by
  delta State.safeOnNext
  repeat' first
    | with_reducible assumption
    | with_reducible apply State.setN_keeps
    | with_reducible apply State.startRamp_keeps
    | with_reducible apply State.raiseChannel_keeps
    | with_reducible refine Keeps.ite ?_ ?_
    | split

theorem State.standDie_keeps {org s : State} (d cause : Nat) (h : Keeps org s) :
    Keeps org (State.standDie s d cause) := by
  delta State.standDie
  repeat' first
    | with_reducible assumption
    | with_reducible apply State.count_keeps
    | with_reducible apply State.swapDieStands_keeps
    | with_reducible apply State.standChannel_keeps
    | with_reducible apply State.raiseDie_keeps
    | with_reducible apply State.safeOnNext_keeps
    | (extract_lets +onlyGivenNames letX; have letT : True := (by clear_value letX; guard_hyp letX : State; trivial); clear letT; refine Keeps.cut (r := org) (v := letX) ?_ (fun letH => ?_); (focus subst letX); rotate_left; clear_value letX; revert letX; intro _ _)
    | (extract_lets +onlyGivenNames letX; clear_value letX; revert letX; intro _)
    | with_reducible refine Keeps.ite ?_ ?_
    | with_reducible refine Keeps.iteP ?_ ?_
    | with_reducible refine forEach_keeps ?_ (fun _ _ _ => ?_)
    | with_reducible refine forBelow_keeps ?_ (fun _ _ _ => ?_)

theorem State.standingReport_keeps {org s : State} (n : Nat) (h : Keeps org s) :
    Keeps org (State.standingReport s n) := by
  delta State.standingReport
  repeat' first
    | with_reducible assumption
    | with_reducible apply State.raise_keeps
    | with_reducible apply State.setN_keeps
    | (extract_lets +onlyGivenNames letX; have letT : True := (by clear_value letX; guard_hyp letX : State; trivial); clear letT; refine Keeps.cut (r := org) (v := letX) ?_ (fun letH => ?_); (focus subst letX); rotate_left; clear_value letX; revert letX; intro _ _)
    | (extract_lets +onlyGivenNames letX; clear_value letX; revert letX; intro _)
    | with_reducible refine Keeps.ite ?_ ?_
    | with_reducible refine Keeps.iteP ?_ ?_

theorem State.releaseStanding_keeps {org s : State} (n by_ : Nat) (h : Keeps org s) :
    Keeps org (State.releaseStanding s n by_) := by
  delta State.releaseStanding
  repeat' first
    | with_reducible assumption
    | with_reducible apply State.set_keeps
    | with_reducible apply State.setN_keeps
    | with_reducible apply State.actOnRequest_keeps
    | with_reducible apply State.showCell_keeps
    | with_reducible apply State.raise_keeps
    | with_reducible apply State.count_keeps
    | (extract_lets +onlyGivenNames letX; have letT : True := (by clear_value letX; guard_hyp letX : State; trivial); clear letT; refine Keeps.cut (r := org) (v := letX) ?_ (fun letH => ?_); (focus subst letX); rotate_left; clear_value letX; revert letX; intro _ _)
    | with_reducible refine Keeps.ite ?_ ?_
    | with_reducible refine Keeps.iteP ?_ ?_

theorem State.clearLockout_keeps {org s : State} (n : Nat) (h : Keeps org s) :
    Keeps org (State.clearLockout s n) := by
  delta State.clearLockout
  repeat' first
    | with_reducible assumption
    | with_reducible apply State.setRequest_keeps
    | with_reducible apply State.setN_keeps
    | with_reducible apply State.cellTo_keeps
    | with_reducible apply State.count_keeps
    | with_reducible refine Keeps.ite ?_ ?_

theorem State.logicLost_keeps {org s : State} (n : Nat) (h : Keeps org s) :
    Keeps org (State.logicLost s n) := by
  delta State.logicLost
  repeat' first
    | with_reducible assumption
    | with_reducible apply State.withdraw_keeps
    | with_reducible apply State.setN_keeps
    | with_reducible apply State.setModelFlag_keeps
    | (extract_lets +onlyGivenNames letX; have letT : True := (by clear_value letX; guard_hyp letX : State; trivial); clear letT; refine Keeps.cut (r := org) (v := letX) ?_ (fun letH => ?_); (focus subst letX); rotate_left; clear_value letX; revert letX; intro _ _)
    | with_reducible refine Keeps.iteP ?_ ?_

theorem State.holdLatch_keeps {org s : State} (n : Nat) (h : Keeps org s) :
    Keeps org (State.holdLatch s n) := by
  delta State.holdLatch
  repeat' first
    | with_reducible assumption
    | with_reducible apply State.logicLost_keeps
    | with_reducible apply State.setFlag_keeps
    | with_reducible apply State.setN_keeps
    | (extract_lets +onlyGivenNames letX; have letT : True := (by clear_value letX; guard_hyp letX : State; trivial); clear letT; refine Keeps.cut (r := org) (v := letX) ?_ (fun letH => ?_); (focus subst letX); rotate_left; clear_value letX; revert letX; intro _ _)

theorem State.floatGate_keeps {org s : State} (n : Nat) (h : Keeps org s) :
    Keeps org (State.floatGate s n) := by
  delta State.floatGate
  repeat' first
    | with_reducible assumption
    | with_reducible apply State.logicLost_keeps
    | with_reducible apply State.setN_keeps

theorem State.logicFails_keeps {org s : State} (d : Nat) (h : Keeps org s) :
    Keeps org (State.logicFails s d) := by
  delta State.logicFails
  repeat' first
    | with_reducible assumption
    | with_reducible apply State.setN_keeps
    | with_reducible apply State.holdLatch_keeps
    | with_reducible apply State.floatGate_keeps
    | with_reducible apply State.pumpUpdate_keeps
    | (extract_lets +onlyGivenNames letX; have letT : True := (by clear_value letX; guard_hyp letX : State; trivial); clear letT; refine Keeps.cut (r := org) (v := letX) ?_ (fun letH => ?_); (focus subst letX); rotate_left; clear_value letX; revert letX; intro _ _)
    | with_reducible refine Keeps.ite ?_ ?_
    | with_reducible refine Keeps.iteP ?_ ?_
    | with_reducible refine forEach_keeps ?_ (fun _ _ _ => ?_)
    | with_reducible refine forBelow_keeps ?_ (fun _ _ _ => ?_)

theorem State.clearCounters_keeps {org s : State} (n : Nat) (h : Keeps org s) :
    Keeps org (State.clearCounters s n) := by
  delta State.clearCounters
  repeat' first
    | with_reducible assumption
    | with_reducible apply State.setN_keeps
    | (extract_lets +onlyGivenNames letX; have letT : True := (by clear_value letX; guard_hyp letX : State; trivial); clear letT; refine Keeps.cut (r := org) (v := letX) ?_ (fun letH => ?_); (focus subst letX); rotate_left; clear_value letX; revert letX; intro _ _)

theorem State.channelLogicReset_keeps {org s : State} (n : Nat) (warm : Bool) (h : Keeps org s) :
    Keeps org (State.channelLogicReset s n warm) := by
  delta State.channelLogicReset
  repeat' first
    | with_reducible assumption
    | with_reducible apply State.withdraw_keeps
    | with_reducible apply State.setN_keeps
    | with_reducible apply State.setModelFlag_keeps
    | with_reducible apply State.clearCounters_keeps
    | with_reducible apply State.wireStart_keeps
    | with_reducible apply State.fetStart_keeps
    | (extract_lets +onlyGivenNames letX; have letT : True := (by clear_value letX; guard_hyp letX : State; trivial); clear letT; refine Keeps.cut (r := org) (v := letX) ?_ (fun letH => ?_); (focus subst letX); rotate_left; clear_value letX; revert letX; intro _ _)

theorem State.anchorReturns_keeps {org s : State} (n : Nat) (h : Keeps org s) :
    Keeps org (State.anchorReturns s n) := by
  delta State.anchorReturns
  repeat' first
    | with_reducible assumption
    | with_reducible apply State.channelLogicReset_keeps
    | with_reducible apply State.setN_keeps
    | with_reducible apply State.trip_keeps
    | with_reducible apply State.raiseChannel_keeps
    | with_reducible apply State.lockoutTold_keeps
    | with_reducible apply State.cellTo_keeps
    | (extract_lets +onlyGivenNames letX; have letT : True := (by clear_value letX; guard_hyp letX : State; trivial); clear letT; refine Keeps.cut (r := org) (v := letX) ?_ (fun letH => ?_); (focus subst letX); rotate_left; clear_value letX; revert letX; intro _ _)
    | with_reducible refine Keeps.ite ?_ ?_
    | with_reducible refine Keeps.iteP ?_ ?_

theorem State.cellReturns_keeps {org s : State} (n : Nat) (h : Keeps org s) :
    Keeps org (State.cellReturns s n) := by
  delta State.cellReturns
  repeat' first
    | with_reducible assumption
    | with_reducible apply State.channelLogicReset_keeps
    | with_reducible apply State.setN_keeps
    | with_reducible apply State.cellTo_keeps

theorem State.logicReturns_keeps {org s : State} (d : Nat) (h : Keeps org s) :
    Keeps org (State.logicReturns s d) := by
  delta State.logicReturns
  repeat' first
    | with_reducible assumption
    | with_reducible apply State.setN_keeps
    | with_reducible apply State.anchorReturns_keeps
    | with_reducible apply State.cellReturns_keeps
    | with_reducible apply State.standDie_keeps
    | with_reducible apply State.raiseDie_keeps
    | (extract_lets +onlyGivenNames letX; have letT : True := (by clear_value letX; guard_hyp letX : State; trivial); clear letT; refine Keeps.cut (r := org) (v := letX) ?_ (fun letH => ?_); (focus subst letX); rotate_left; clear_value letX; revert letX; intro _ _)
    | (extract_lets +onlyGivenNames letX; clear_value letX; revert letX; intro _)
    | with_reducible refine Keeps.ite ?_ ?_
    | with_reducible refine Keeps.iteP ?_ ?_
    | with_reducible refine forEach_keeps ?_ (fun _ _ _ => ?_)

theorem State.pumpLow_keeps {org s : State} (k : Nat) (h : Keeps org s) :
    Keeps org (State.pumpLow s k) := by
  delta State.pumpLow
  repeat' first
    | with_reducible assumption
    | with_reducible apply State.setBankFlag_keeps
    | with_reducible apply State.bankPauses_keeps
    | with_reducible apply State.raiseDie_keeps
    | (extract_lets +onlyGivenNames letX; have letT : True := (by clear_value letX; guard_hyp letX : State; trivial); clear letT; refine Keeps.cut (r := org) (v := letX) ?_ (fun letH => ?_); (focus subst letX); rotate_left; clear_value letX; revert letX; intro _ _)
    | with_reducible refine Keeps.ite ?_ ?_
    | with_reducible refine Keeps.iteP ?_ ?_

theorem State.pumpReady_keeps {org s : State} (k : Nat) (headroom : Int) (h : Keeps org s) :
    Keeps org (State.pumpReady s k headroom) := by
  delta State.pumpReady
  repeat' first
    | with_reducible assumption
    | with_reducible apply State.setBit_keeps
    | with_reducible apply State.setBankFlag_keeps
    | with_reducible apply State.bankPauses_keeps
    | with_reducible refine Keeps.ite ?_ ?_

theorem State.pumpStartTimeout_keeps {org s : State} (k : Nat) (h : Keeps org s) :
    Keeps org (State.pumpStartTimeout s k) := by
  delta State.pumpStartTimeout
  repeat' first
    | with_reducible assumption
    | with_reducible apply State.pumpLow_keeps
    | with_reducible refine Keeps.ite ?_ ?_

theorem State.pumpHeadroomLow_keeps {org s : State} (k : Nat) (headroom : Int) (h : Keeps org s) :
    Keeps org (State.pumpHeadroomLow s k headroom) := by
  delta State.pumpHeadroomLow
  repeat' first
    | with_reducible assumption
    | with_reducible apply State.pumpLow_keeps
    | with_reducible refine Keeps.ite ?_ ?_

theorem State.pumpStop_keeps {org s : State} (k : Nat) (h : Keeps org s) :
    Keeps org (State.pumpStop s k) := by
  delta State.pumpStop
  repeat' first
    | with_reducible assumption
    | with_reducible apply State.setBit_keeps
    | with_reducible apply State.setBankFlag_keeps
    | with_reducible apply State.setN_keeps
    | (extract_lets +onlyGivenNames letX; have letT : True := (by clear_value letX; guard_hyp letX : State; trivial); clear letT; refine Keeps.cut (r := org) (v := letX) ?_ (fun letH => ?_); (focus subst letX); rotate_left; clear_value letX; revert letX; intro _ _)
    | with_reducible refine Keeps.ite ?_ ?_
    | with_reducible refine Keeps.iteP ?_ ?_

theorem State.busUndervoltage_keeps {org s : State} (k : Nat) (vbus : Int) (h : Keeps org s) :
    Keeps org (State.busUndervoltage s k vbus) := by
  delta State.busUndervoltage
  repeat' first
    | with_reducible assumption
    | with_reducible apply State.setBankFlag_keeps
    | with_reducible apply State.bankPauses_keeps
    | with_reducible apply State.pumpUpdate_keeps
    | with_reducible apply State.raiseDie_keeps
    | (extract_lets +onlyGivenNames letX; have letT : True := (by clear_value letX; guard_hyp letX : State; trivial); clear letT; refine Keeps.cut (r := org) (v := letX) ?_ (fun letH => ?_); (focus subst letX); rotate_left; clear_value letX; revert letX; intro _ _)
    | with_reducible refine Keeps.ite ?_ ?_
    | with_reducible refine Keeps.iteP ?_ ?_

theorem State.busUvCleared_keeps {org s : State} (k : Nat) (vbus : Int) (h : Keeps org s) :
    Keeps org (State.busUvCleared s k vbus) := by
  delta State.busUvCleared
  repeat' first
    | with_reducible assumption
    | with_reducible apply State.setBankFlag_keeps
    | with_reducible apply State.bankPauses_keeps
    | with_reducible apply State.pumpUpdate_keeps
    | with_reducible refine Keeps.ite ?_ ?_

theorem execPumpReady_runs {org s : State} (k : Bank) (headroom : Int) (h : Keeps org s) :
    Runs org (execPumpReady k headroom s) := by
  delta execPumpReady
  repeat' first
    | with_reducible assumption
    | with_reducible refine Runs.next ?_
    | with_reducible apply State.pumpReady_keeps
    | with_reducible refine Runs.ite ?_ ?_

theorem execPumpStartTimeout_runs {org s : State} (k : Bank) (h : Keeps org s) :
    Runs org (execPumpStartTimeout k s) := by
  delta execPumpStartTimeout
  repeat' first
    | with_reducible assumption
    | with_reducible refine Runs.next ?_
    | with_reducible apply State.pumpStartTimeout_keeps
    | with_reducible refine Runs.ite ?_ ?_

theorem execPumpHeadroomLow_runs {org s : State} (k : Bank) (headroom : Int) (h : Keeps org s) :
    Runs org (execPumpHeadroomLow k headroom s) := by
  delta execPumpHeadroomLow
  repeat' first
    | with_reducible assumption
    | with_reducible refine Runs.next ?_
    | with_reducible apply State.pumpHeadroomLow_keeps
    | with_reducible refine Runs.ite ?_ ?_

theorem execPumpStop_runs {org s : State} (k : Bank) (h : Keeps org s) :
    Runs org (execPumpStop k s) := by
  delta execPumpStop
  repeat' first
    | with_reducible assumption
    | with_reducible refine Runs.next ?_
    | with_reducible apply State.pumpStop_keeps
    | with_reducible refine Runs.ite ?_ ?_

theorem execBusUndervoltage_runs {org s : State} (k : Bank) (vbus : Int) (h : Keeps org s) :
    Runs org (execBusUndervoltage k vbus s) := by
  delta execBusUndervoltage
  repeat' first
    | with_reducible assumption
    | with_reducible refine Runs.next ?_
    | with_reducible apply State.busUndervoltage_keeps
    | with_reducible refine Runs.ite ?_ ?_

theorem execBusUvCleared_runs {org s : State} (k : Bank) (vbus : Int) (h : Keeps org s) :
    Runs org (execBusUvCleared k vbus s) := by
  delta execBusUvCleared
  repeat' first
    | with_reducible assumption
    | with_reducible refine Runs.next ?_
    | with_reducible apply State.busUvCleared_keeps
    | with_reducible refine Runs.ite ?_ ?_

theorem State.rampDone_keeps {org s : State} (n : Nat) (drop1 drop2 vgs1 vgs2 : Int) (h : Keeps org s) :
    Keeps org (State.rampDone s n drop1 drop2 vgs1 vgs2) := by
  delta State.rampDone
  repeat' first
    | with_reducible assumption
    | with_reducible apply State.cellTo_keeps
    | with_reducible apply State.swapOnMet_keeps
    | with_reducible apply State.pendPwm_keeps
    | (extract_lets +onlyGivenNames letX; have letT : True := (by clear_value letX; guard_hyp letX : State; trivial); clear letT; refine Keeps.cut (r := org) (v := letX) ?_ (fun letH => ?_); (focus subst letX); rotate_left; clear_value letX; revert letX; intro _ _)
    | with_reducible refine Keeps.ite ?_ ?_
    | with_reducible refine Keeps.iteP ?_ ?_

theorem State.rampTimeout_keeps {org s : State} (n : Nat) (vgs vload : Int) (h : Keeps org s) :
    Keeps org (State.rampTimeout s n vgs vload) := by
  delta State.rampTimeout
  repeat' first
    | with_reducible assumption
    | with_reducible apply State.trip_keeps
    | with_reducible apply State.raiseChannel_keeps
    | with_reducible apply State.lockoutTold_keeps
    | with_reducible apply State.swapTrip_keeps
    | (extract_lets +onlyGivenNames letX; clear_value letX; revert letX; intro _)
    | with_reducible refine Keeps.ite ?_ ?_
    | with_reducible refine Keeps.iteP ?_ ?_

theorem execRampDone_runs {org s : State} (n : Chan) (drop1 drop2 vgs1 vgs2 : Int) (h : Keeps org s) :
    Runs org (execRampDone n drop1 drop2 vgs1 vgs2 s) := by
  delta execRampDone
  repeat' first
    | with_reducible assumption
    | with_reducible refine Runs.next ?_
    | with_reducible apply State.rampDone_keeps
    | with_reducible refine Runs.ite ?_ ?_

theorem execRampTimeout_runs {org s : State} (n : Chan) (vgs vload : Int) (h : Keeps org s) :
    Runs org (execRampTimeout n vgs vload s) := by
  delta execRampTimeout
  repeat' first
    | with_reducible assumption
    | with_reducible refine Runs.next ?_
    | with_reducible apply State.rampTimeout_keeps
    | with_reducible refine Runs.ite ?_ ?_

theorem State.lampPeriod_keeps {org s : State} (n : Nat) (h : Keeps org s) :
    Keeps org (State.lampPeriod s n) := by
  delta State.lampPeriod
  repeat' first
    | with_reducible assumption
    | with_reducible apply State.count_keeps
    | with_reducible apply State.setN_keeps
    | (extract_lets +onlyGivenNames letX; clear_value letX; revert letX; intro _)
    | with_reducible refine Keeps.ite ?_ ?_
    | with_reducible refine Keeps.iteP ?_ ?_

theorem State.pwmPeriodEnds_keeps {org s : State} (n : Nat) (h : Keeps org s) :
    Keeps org (State.pwmPeriodEnds s n) := by
  delta State.pwmPeriodEnds
  repeat' first
    | with_reducible assumption
    | with_reducible apply State.setN_keeps
    | with_reducible apply State.count_keeps
    | with_reducible apply State.lampPeriod_keeps
    | (extract_lets +onlyGivenNames letX; have letT : True := (by clear_value letX; guard_hyp letX : State; trivial); clear letT; refine Keeps.cut (r := org) (v := letX) ?_ (fun letH => ?_); (focus subst letX); rotate_left; clear_value letX; revert letX; intro _ _)
    | with_reducible refine Keeps.ite ?_ ?_
    | with_reducible refine Keeps.iteP ?_ ?_

theorem State.pwmPeriodBegins_keeps {org s : State} (n : Nat) (h : Keeps org s) :
    Keeps org (State.pwmPeriodBegins s n) := by
  delta State.pwmPeriodBegins
  repeat' first
    | with_reducible assumption
    | with_reducible apply State.setN_keeps
    | with_reducible apply State.riseEdge_keeps
    | (extract_lets +onlyGivenNames letX; have letT : True := (by clear_value letX; guard_hyp letX : State; trivial); clear letT; refine Keeps.cut (r := org) (v := letX) ?_ (fun letH => ?_); (focus subst letX); rotate_left; clear_value letX; revert letX; intro _ _)
    | (extract_lets +onlyGivenNames letX; clear_value letX; revert letX; intro _)
    | with_reducible refine Keeps.ite ?_ ?_
    | with_reducible refine Keeps.iteP ?_ ?_

theorem State.phaseInstant_keeps {org s : State} (n : Nat) (h : Keeps org s) :
    Keeps org (State.phaseInstant s n) := by
  delta State.phaseInstant
  repeat' first
    | with_reducible assumption
    | with_reducible apply State.pwmPeriodEnds_keeps
    | with_reducible apply State.setN_keeps
    | with_reducible apply State.cellTo_keeps
    | with_reducible apply State.pwmPeriodBegins_keeps
    | (extract_lets +onlyGivenNames letX; have letT : True := (by clear_value letX; guard_hyp letX : State; trivial); clear letT; refine Keeps.cut (r := org) (v := letX) ?_ (fun letH => ?_); (focus subst letX); rotate_left; clear_value letX; revert letX; intro _ _)
    | (extract_lets +onlyGivenNames letX; clear_value letX; revert letX; intro _)
    | with_reducible refine Keeps.ite ?_ ?_
    | with_reducible refine Keeps.iteP ?_ ?_

theorem State.offEdge_keeps {org s : State} (n : Nat) (h : Keeps org s) :
    Keeps org (State.offEdge s n) := by
  delta State.offEdge
  repeat' first
    | with_reducible assumption
    | with_reducible apply State.cellTo_keeps
    | with_reducible apply State.setN_keeps
    | (extract_lets +onlyGivenNames letX; have letT : True := (by clear_value letX; guard_hyp letX : State; trivial); clear letT; refine Keeps.cut (r := org) (v := letX) ?_ (fun letH => ?_); (focus subst letX); rotate_left; clear_value letX; revert letX; intro _ _)
    | (extract_lets +onlyGivenNames letX; clear_value letX; revert letX; intro _)
    | with_reducible refine Keeps.ite ?_ ?_
    | with_reducible refine Keeps.iteP ?_ ?_

theorem execPwmPhaseInstant_runs {org s : State} (n : Chan) (h : Keeps org s) :
    Runs org (execPwmPhaseInstant n s) := by
  delta execPwmPhaseInstant
  repeat' first
    | with_reducible assumption
    | with_reducible refine Runs.next ?_
    | with_reducible apply State.phaseInstant_keeps
    | with_reducible refine Runs.ite ?_ ?_

theorem execPwmOffEdge_runs {org s : State} (n : Chan) (h : Keeps org s) :
    Runs org (execPwmOffEdge n s) := by
  delta execPwmOffEdge
  repeat' first
    | with_reducible assumption
    | with_reducible refine Runs.next ?_
    | with_reducible apply State.offEdge_keeps
    | with_reducible refine Runs.ite ?_ ?_

theorem State.hardShort_keeps {org s : State} (n : Nat) (h : Keeps org s) :
    Keeps org (State.hardShort s n) := by
  delta State.hardShort
  repeat' first
    | with_reducible assumption
    | with_reducible apply State.captureSees_keeps
    | with_reducible apply State.trip_keeps
    | with_reducible apply State.raiseChannel_keeps
    | with_reducible apply State.lockoutTold_keeps
    | with_reducible apply State.swapTrip_keeps
    | (extract_lets +onlyGivenNames letX; have letT : True := (by clear_value letX; guard_hyp letX : State; trivial); clear letT; refine Keeps.cut (r := org) (v := letX) ?_ (fun letH => ?_); (focus subst letX); rotate_left; clear_value letX; revert letX; intro _ _)

theorem State.outagePullDown_keeps {org s : State} (n : Nat) (h : Keeps org s) :
    Keeps org (State.outagePullDown s n) := by
  delta State.outagePullDown
  repeat' first
    | with_reducible assumption
    | with_reducible apply State.setN_keeps
    | with_reducible apply State.pumpUpdate_keeps
    | with_reducible refine Keeps.ite ?_ ?_

theorem State.shortActs_keeps {org s : State} (n : Nat) (h : Keeps org s) :
    Keeps org (State.shortActs s n) := by
  delta State.shortActs
  repeat' first
    | with_reducible assumption
    | with_reducible apply State.outagePullDown_keeps
    | with_reducible apply State.hardShort_keeps
    | with_reducible refine Keeps.ite ?_ ?_

theorem State.hardShortCrossing_keeps {org s : State} (n ns : Nat) (vsh : Int) (h : Keeps org s) :
    Keeps org (State.hardShortCrossing s n ns vsh) := by
  delta State.hardShortCrossing
  repeat' first
    | with_reducible assumption
    | with_reducible apply State.shortActs_keeps
    | with_reducible apply State.takeFreeIn_keeps
    | (extract_lets +onlyGivenNames letX; have letT : True := (by clear_value letX; revert letX; with_reducible exact Keeps.isPair); clear letT; refine Keeps.cut (r := org) (v := letX.2) ?_ (fun letH => ?_); (focus subst letX); rotate_left; clear_value letX; revert letX; intro _ _)
    | (extract_lets +onlyGivenNames letX; clear_value letX; revert letX; intro _)
    | with_reducible refine Keeps.ite ?_ ?_
    | with_reducible refine Keeps.iteP ?_ ?_

theorem execHardShortTrip_runs {org s : State} (n : Chan) (ns : Nat) (vsh : Int := 0) (h : Keeps org s) :
    Runs org (execHardShortTrip n ns s vsh) := by
  delta execHardShortTrip
  repeat' first
    | with_reducible assumption
    | with_reducible refine Runs.next ?_
    | with_reducible apply State.hardShortCrossing_keeps
    | with_reducible refine Runs.ite ?_ ?_

theorem State.limitEntered_keeps {org s : State} (n : Nat) (vsh : Int) (h : Keeps org s) :
    Keeps org (State.limitEntered s n vsh) := by
  delta State.limitEntered
  repeat' first
    | with_reducible assumption
    | with_reducible apply State.captureSees_keeps
    | with_reducible apply State.setN_keeps
    | with_reducible apply State.cellTo_keeps
    | with_reducible apply State.count_keeps
    | with_reducible apply State.raiseChannel_keeps
    | (extract_lets +onlyGivenNames letX; have letT : True := (by clear_value letX; guard_hyp letX : State; trivial); clear letT; refine Keeps.cut (r := org) (v := letX) ?_ (fun letH => ?_); (focus subst letX); rotate_left; clear_value letX; revert letX; intro _ _)
    | (extract_lets +onlyGivenNames letX; clear_value letX; revert letX; intro _)
    | with_reducible refine Keeps.ite ?_ ?_
    | with_reducible refine Keeps.iteP ?_ ?_

theorem State.limitSaturated_keeps {org s : State} (n : Nat) (room1 room2 : Int) (h : Keeps org s) :
    Keeps org (State.limitSaturated s n room1 room2) := by
  delta State.limitSaturated
  repeat' first
    | with_reducible assumption
    | with_reducible apply State.cellTo_keeps
    | with_reducible refine Keeps.ite ?_ ?_

theorem State.limitTimeout_keeps {org s : State} (n : Nat) (h : Keeps org s) :
    Keeps org (State.limitTimeout s n) := by
  delta State.limitTimeout
  repeat' first
    | with_reducible assumption
    | with_reducible apply State.trip_keeps
    | with_reducible apply State.raiseChannel_keeps
    | with_reducible apply State.lockoutTold_keeps
    | with_reducible apply State.swapTrip_keeps
    | (extract_lets +onlyGivenNames letX; clear_value letX; revert letX; intro _)
    | with_reducible refine Keeps.ite ?_ ?_
    | with_reducible refine Keeps.iteP ?_ ?_

theorem State.limitEpisodeEnd_keeps {org s : State} (n : Nat) (h : Keeps org s) :
    Keeps org (State.limitEpisodeEnd s n) := by
  delta State.limitEpisodeEnd
  repeat' first
    | with_reducible assumption
    | with_reducible apply State.setN_keeps
    | with_reducible refine Keeps.ite ?_ ?_

theorem execLimitEntered_runs {org s : State} (n : Chan) (vsh : Int) (h : Keeps org s) :
    Runs org (execLimitEntered n vsh s) := by
  delta execLimitEntered
  repeat' first
    | with_reducible assumption
    | with_reducible refine Runs.next ?_
    | with_reducible apply State.limitEntered_keeps
    | with_reducible refine Runs.ite ?_ ?_

theorem execLimitSaturatedExit_runs {org s : State} (n : Chan) (room1 room2 : Int) (h : Keeps org s) :
    Runs org (execLimitSaturatedExit n room1 room2 s) := by
  delta execLimitSaturatedExit
  repeat' first
    | with_reducible assumption
    | with_reducible refine Runs.next ?_
    | with_reducible apply State.limitSaturated_keeps
    | with_reducible refine Runs.ite ?_ ?_

theorem execLimitTimeoutTrip_runs {org s : State} (n : Chan) (h : Keeps org s) :
    Runs org (execLimitTimeoutTrip n s) := by
  delta execLimitTimeoutTrip
  repeat' first
    | with_reducible assumption
    | with_reducible refine Runs.next ?_
    | with_reducible apply State.limitTimeout_keeps
    | with_reducible refine Runs.ite ?_ ?_

theorem execLimitEpisodeEnd_runs {org s : State} (n : Chan) (h : Keeps org s) :
    Runs org (execLimitEpisodeEnd n s) := by
  delta execLimitEpisodeEnd
  repeat' first
    | with_reducible assumption
    | with_reducible refine Runs.next ?_
    | with_reducible apply State.limitEpisodeEnd_keeps
    | with_reducible refine Runs.ite ?_ ?_

theorem State.tripSettled_keeps {org s : State} (n : Nat) (vgs : Int) (h : Keeps org s) :
    Keeps org (State.tripSettled s n vgs) := by
  delta State.tripSettled
  repeat' first
    | with_reducible assumption
    | with_reducible apply State.setClosing_keeps
    | with_reducible apply State.gateHeld_keeps
    | with_reducible apply State.cellTo_keeps
    | with_reducible apply State.turnOff_keeps
    | (extract_lets +onlyGivenNames letX; have letT : True := (by clear_value letX; guard_hyp letX : State; trivial); clear letT; refine Keeps.cut (r := org) (v := letX) ?_ (fun letH => ?_); (focus subst letX); rotate_left; clear_value letX; revert letX; intro _ _)
    | with_reducible refine Keeps.ite ?_ ?_
    | with_reducible refine Keeps.iteP ?_ ?_

theorem State.retryDue_keeps {org s : State} (n : Nat) (h : Keeps org s) :
    Keeps org (State.retryDue s n) := by
  delta State.retryDue
  repeat' first
    | with_reducible assumption
    | with_reducible apply State.setN_keeps
    | with_reducible apply State.startRamp_keeps
    | with_reducible apply State.askAdmission_keeps
    | (extract_lets +onlyGivenNames letX; have letT : True := (by clear_value letX; guard_hyp letX : State; trivial); clear letT; refine Keeps.cut (r := org) (v := letX) ?_ (fun letH => ?_); (focus subst letX); rotate_left; clear_value letX; revert letX; intro _ _)
    | (extract_lets +onlyGivenNames letX; clear_value letX; revert letX; intro _)
    | with_reducible refine Keeps.ite ?_ ?_
    | with_reducible refine Keeps.iteP ?_ ?_

theorem State.retryReset_keeps {org s : State} (n : Nat) (h : Keeps org s) :
    Keeps org (State.retryReset s n) := by
  delta State.retryReset
  repeat' first
    | with_reducible assumption
    | with_reducible apply State.setN_keeps
    | (extract_lets +onlyGivenNames letX; clear_value letX; revert letX; intro _)
    | with_reducible refine Keeps.ite ?_ ?_
    | with_reducible refine Keeps.iteP ?_ ?_

theorem execTripSettled_runs {org s : State} (n : Chan) (vgs : Int) (h : Keeps org s) :
    Runs org (execTripSettled n vgs s) := by
  delta execTripSettled
  repeat' first
    | with_reducible assumption
    | with_reducible refine Runs.next ?_
    | with_reducible apply State.tripSettled_keeps
    | with_reducible refine Runs.ite ?_ ?_

theorem execRetryDue_runs {org s : State} (n : Chan) (h : Keeps org s) :
    Runs org (execRetryDue n s) := by
  delta execRetryDue
  repeat' first
    | with_reducible assumption
    | with_reducible refine Runs.next ?_
    | with_reducible apply State.retryDue_keeps
    | with_reducible refine Runs.ite ?_ ?_

theorem execRetryResetTime_runs {org s : State} (n : Chan) (h : Keeps org s) :
    Runs org (execRetryResetTime n s) := by
  delta execRetryResetTime
  repeat' first
    | with_reducible assumption
    | with_reducible refine Runs.next ?_
    | with_reducible apply State.retryReset_keeps
    | with_reducible refine Runs.ite ?_ ?_

theorem State.lampEnds_keeps {org s : State} (n : Nat) (h : Keeps org s) :
    Keeps org (State.lampEnds s n) := by
  delta State.lampEnds
  repeat' first
    | with_reducible assumption
    | with_reducible apply State.setModelFlag_keeps
    | with_reducible refine Keeps.ite ?_ ?_

theorem State.openLamp_keeps {org s : State} (n : Nat) (h : Keeps org s) :
    Keeps org (State.openLamp s n) := by
  delta State.openLamp
  repeat' first
    | with_reducible assumption
    | with_reducible apply State.setModelFlag_keeps
    | with_reducible apply State.setN_keeps
    | with_reducible apply State.raiseChannel_keeps
    | (extract_lets +onlyGivenNames letX; have letT : True := (by clear_value letX; guard_hyp letX : State; trivial); clear letT; refine Keeps.cut (r := org) (v := letX) ?_ (fun letH => ?_); (focus subst letX); rotate_left; clear_value letX; revert letX; intro _ _)
    | (extract_lets +onlyGivenNames letX; clear_value letX; revert letX; intro _)
    | with_reducible refine Keeps.ite ?_ ?_
    | with_reducible refine Keeps.iteP ?_ ?_

theorem execLampEnvelopeEnd_runs {org s : State} (n : Chan) (h : Keeps org s) :
    Runs org (execLampEnvelopeEnd n s) := by
  delta execLampEnvelopeEnd
  repeat' first
    | with_reducible assumption
    | with_reducible refine Runs.next ?_
    | with_reducible apply State.lampEnds_keeps
    | with_reducible refine Runs.ite ?_ ?_

theorem execOpenLamp_runs {org s : State} (n : Chan) (h : Keeps org s) :
    Runs org (execOpenLamp n s) := by
  delta execOpenLamp
  repeat' first
    | with_reducible assumption
    | with_reducible refine Runs.next ?_
    | with_reducible apply State.openLamp_keeps
    | with_reducible refine Runs.ite ?_ ?_

theorem State.swapTimeout_keeps {org s : State} (p : Nat) (h : Keeps org s) :
    Keeps org (State.swapTimeout s p) := by
  delta State.swapTimeout
  repeat' first
    | with_reducible assumption
    | with_reducible apply State.swapAbort_keeps
    | with_reducible refine Keeps.ite ?_ ?_

theorem State.swapOverlapEnd_keeps {org s : State} (p : Nat) (h : Keeps org s) :
    Keeps org (State.swapOverlapEnd s p) := by
  delta State.swapOverlapEnd
  repeat' first
    | with_reducible assumption
    | with_reducible apply State.swapComplete_keeps
    | with_reducible refine Keeps.ite ?_ ?_
    | with_reducible refine Keeps.iteP ?_ ?_

theorem execSwapOverlapEnd_runs {org s : State} (p : Pair) (h : Keeps org s) :
    Runs org (execSwapOverlapEnd p s) := by
  delta execSwapOverlapEnd
  repeat' first
    | with_reducible assumption
    | with_reducible refine Runs.next ?_
    | with_reducible apply State.swapOverlapEnd_keeps
    | with_reducible refine Runs.ite ?_ ?_

theorem execSwapTimeout_runs {org s : State} (p : Pair) (h : Keeps org s) :
    Runs org (execSwapTimeout p s) := by
  delta execSwapTimeout
  repeat' first
    | with_reducible assumption
    | with_reducible refine Runs.next ?_
    | with_reducible apply State.swapTimeout_keeps
    | with_reducible refine Runs.ite ?_ ?_

theorem State.captureTrigger_keeps {org s : State} (d : Nat) (h : Keeps org s) :
    Keeps org (State.captureTrigger s d) := by
  delta State.captureTrigger
  repeat' first
    | with_reducible assumption
    | with_reducible apply State.setN_keeps
    | with_reducible apply State.setBlob_keeps
    | (extract_lets +onlyGivenNames letX; have letT : True := (by clear_value letX; guard_hyp letX : State; trivial); clear letT; refine Keeps.cut (r := org) (v := letX) ?_ (fun letH => ?_); (focus subst letX); rotate_left; clear_value letX; revert letX; intro _ _)
    | (extract_lets +onlyGivenNames letX; clear_value letX; revert letX; intro _)
    | with_reducible refine Keeps.ite ?_ ?_
    | with_reducible refine Keeps.iteP ?_ ?_
    | with_reducible refine forBelow_keeps ?_ (fun _ _ _ => ?_)

theorem State.captureComplete_keeps {org s : State} (d : Nat) (h : Keeps org s) :
    Keeps org (State.captureComplete s d) := by
  delta State.captureComplete
  repeat' first
    | with_reducible assumption
    | with_reducible apply State.setN_keeps
    | with_reducible apply State.setBlob_keeps
    | with_reducible apply State.raiseDie_keeps
    | (extract_lets +onlyGivenNames letX; have letT : True := (by clear_value letX; guard_hyp letX : State; trivial); clear letT; refine Keeps.cut (r := org) (v := letX) ?_ (fun letH => ?_); (focus subst letX); rotate_left; clear_value letX; revert letX; intro _ _)
    | (extract_lets +onlyGivenNames letX; clear_value letX; revert letX; intro _)
    | with_reducible refine Keeps.ite ?_ ?_
    | with_reducible refine Keeps.iteP ?_ ?_

theorem State.captureArm_keeps {org s : State} (d : Nat) (h : Keeps org s) :
    Keeps org (State.captureArm s d) := by
  delta State.captureArm
  repeat' first
    | with_reducible assumption
    | with_reducible apply State.setN_keeps
    | with_reducible apply State.setBlob_keeps
    | (extract_lets +onlyGivenNames letX; have letT : True := (by clear_value letX; guard_hyp letX : State; trivial); clear letT; refine Keeps.cut (r := org) (v := letX) ?_ (fun letH => ?_); (focus subst letX); rotate_left; clear_value letX; revert letX; intro _ _)
    | (extract_lets +onlyGivenNames letX; clear_value letX; revert letX; intro _)
    | with_reducible refine Keeps.ite ?_ ?_
    | with_reducible refine Keeps.iteP ?_ ?_
    | with_reducible refine forBelow_keeps ?_ (fun _ _ _ => ?_)

theorem State.capturePush_keeps {org s : State} (d i : Nat) (sample : Int) (times : Nat) (h : Keeps org s) :
    Keeps org (State.capturePush s d i sample times) := by
  delta State.capturePush
  repeat' first
    | with_reducible assumption
    | with_reducible apply State.setBlob_keeps
    | (extract_lets +onlyGivenNames letX; clear_value letX; revert letX; intro _)
    | with_reducible refine Keeps.ite ?_ ?_
    | with_reducible refine Keeps.iteP ?_ ?_

theorem execCaptureTrigger_runs {org s : State} (d : Die) (h : Keeps org s) :
    Runs org (execCaptureTrigger d s) := by
  delta execCaptureTrigger
  repeat' first
    | with_reducible assumption
    | with_reducible refine Runs.next ?_
    | with_reducible apply State.captureTrigger_keeps
    | with_reducible refine Runs.ite ?_ ?_

theorem execCaptureComplete_runs {org s : State} (d : Die) (h : Keeps org s) :
    Runs org (execCaptureComplete d s) := by
  delta execCaptureComplete
  repeat' first
    | with_reducible assumption
    | with_reducible refine Runs.next ?_
    | with_reducible apply State.captureComplete_keeps
    | with_reducible refine Runs.ite ?_ ?_

theorem State.showDegraded_keeps {org s : State} (k : Nat) (h : Keeps org s) :
    Keeps org (State.showDegraded s k) := by
  delta State.showDegraded
  repeat' first
    | with_reducible assumption
    | with_reducible apply State.setBit_keeps

theorem State.calJudge_keeps {org s : State} (k u p : Nat) (gain offset : Int) (h : Keeps org s) :
    Keeps org (State.calJudge s k u p gain offset) := by
  delta State.calJudge
  repeat' first
    | with_reducible assumption
    | with_reducible apply State.setChFlag_keeps
    | with_reducible apply State.raiseCell_keeps
    | with_reducible apply State.takeFreeIn_keeps
    | with_reducible apply State.raiseDie_keeps
    | with_reducible apply State.setN_keeps
    | with_reducible apply State.set_keeps
    | (extract_lets +onlyGivenNames letX; have letT : True := (by clear_value letX; guard_hyp letX : State; trivial); clear letT; refine Keeps.cut (r := org) (v := letX) ?_ (fun letH => ?_); (focus subst letX); rotate_left; clear_value letX; revert letX; intro _ _)
    | (extract_lets +onlyGivenNames letX; have letT : True := (by clear_value letX; revert letX; with_reducible exact Keeps.isPair); clear letT; refine Keeps.cut (r := org) (v := letX.2) ?_ (fun letH => ?_); (focus subst letX); rotate_left; clear_value letX; revert letX; intro _ _)
    | (extract_lets +onlyGivenNames letX; clear_value letX; revert letX; intro _)
    | with_reducible refine Keeps.ite ?_ ?_
    | with_reducible refine Keeps.iteP ?_ ?_

theorem State.calClear_keeps {org s : State} (u : Nat) (h : Keeps org s) :
    Keeps org (State.calClear s u) := by
  delta State.calClear
  repeat' first
    | with_reducible assumption
    | with_reducible apply State.setChFlag_keeps
    | with_reducible refine Keeps.ite ?_ ?_

theorem State.calibrationEnd_keeps {org s : State} (k : Nat) (gainI offsetI gainV offsetV : Int) (h : Keeps org s) :
    Keeps org (State.calibrationEnd s k gainI offsetI gainV offsetV) := by
  delta State.calibrationEnd
  repeat' first
    | with_reducible assumption
    | with_reducible apply State.calJudge_keeps
    | with_reducible apply State.calClear_keeps
    | with_reducible apply State.showDegraded_keeps
    | with_reducible apply State.setN_keeps
    | (extract_lets +onlyGivenNames letX; have letT : True := (by clear_value letX; guard_hyp letX : State; trivial); clear letT; refine Keeps.cut (r := org) (v := letX) ?_ (fun letH => ?_); (focus subst letX); rotate_left; clear_value letX; revert letX; intro _ _)
    | (extract_lets +onlyGivenNames letX; clear_value letX; revert letX; intro _)
    | with_reducible refine Keeps.ite ?_ ?_
    | with_reducible refine Keeps.iteP ?_ ?_

theorem execCalibrationPositionEnd_runs {org s : State} (k : Bank) (gainI offsetI gainV offsetV : Int) (h : Keeps org s) :
    Runs org (execCalibrationPositionEnd k gainI offsetI gainV offsetV s) := by
  delta execCalibrationPositionEnd
  repeat' first
    | with_reducible assumption
    | with_reducible refine Runs.next ?_
    | with_reducible apply State.calibrationEnd_keeps
    | with_reducible refine Runs.ite ?_ ?_

theorem State.linkLossStanding_keeps {org s : State} (d : Nat) (h : Keeps org s) :
    Keeps org (State.linkLossStanding s d) := by
  delta State.linkLossStanding
  repeat' first
    | with_reducible assumption
    | with_reducible apply State.setN_keeps
    | with_reducible apply State.count_keeps
    | with_reducible apply State.standDie_keeps
    | with_reducible refine Keeps.ite ?_ ?_

theorem State.resetIndication_keeps {org s : State} (h : Keeps org s) :
    Keeps org (State.resetIndication s) := by
  delta State.resetIndication
  repeat' first
    | with_reducible assumption
    | with_reducible apply State.standDie_keeps
    | with_reducible refine Keeps.ite ?_ ?_
    | with_reducible refine forBelow_keeps ?_ (fun _ _ _ => ?_)

theorem State.standBlock_keeps {org s : State} (d : Nat) (h : Keeps org s) :
    Keeps org (State.standBlock s d) := by
  delta State.standBlock
  repeat' first
    | with_reducible assumption
    | with_reducible apply State.setN_keeps
    | with_reducible apply State.standDie_keeps
    | (extract_lets +onlyGivenNames letX; clear_value letX; revert letX; intro _)
    | with_reducible refine Keeps.ite ?_ ?_
    | with_reducible refine Keeps.iteP ?_ ?_

theorem execLinkLossStanding_runs {org s : State} (d : Die) (h : Keeps org s) :
    Runs org (execLinkLossStanding d s) := by
  delta execLinkLossStanding
  repeat' first
    | with_reducible assumption
    | with_reducible refine Runs.next ?_
    | with_reducible apply State.linkLossStanding_keeps
    | with_reducible refine Runs.ite ?_ ?_

theorem execControlDieResetIndication_runs {org s : State} (h : Keeps org s) :
    Runs org (execControlDieResetIndication s) := by
  delta execControlDieResetIndication
  repeat' first
    | with_reducible assumption
    | with_reducible refine Runs.next ?_
    | with_reducible apply State.resetIndication_keeps
    | with_reducible refine Runs.ite ?_ ?_

theorem execStandBlock_runs {org s : State} (d : Die) (h : Keeps org s) :
    Runs org (execStandBlock d s) := by
  delta execStandBlock
  repeat' first
    | with_reducible assumption
    | with_reducible refine Runs.next ?_
    | with_reducible apply State.standBlock_keeps
    | with_reducible refine Runs.ite ?_ ?_

theorem execAnchorBrownout_runs {org s : State} (d : Die) (h : Keeps org s) :
    Runs org (execAnchorBrownout d s) := by
  delta execAnchorBrownout
  repeat' first
    | with_reducible assumption
    | with_reducible refine Runs.next ?_
    | with_reducible apply State.logicReturns_keeps
    | with_reducible refine Runs.ite ?_ ?_
    | with_reducible refine Keeps.ite ?_ ?_

theorem State.setUnder_keeps {org s : State} (n : Nat) (on : Bool) (h : Keeps org s) :
    Keeps org (State.setUnder s n on) := by
  delta State.setUnder
  repeat' first
    | with_reducible assumption
    | with_reducible apply State.setBit_keeps
    | with_reducible apply State.raiseChannel_keeps
    | with_reducible refine Keeps.ite ?_ ?_

theorem State.setOver_keeps {org s : State} (n : Nat) (on : Bool) (h : Keeps org s) :
    Keeps org (State.setOver s n on) := by
  delta State.setOver
  repeat' first
    | with_reducible assumption
    | with_reducible apply State.setBit_keeps
    | with_reducible apply State.raiseChannel_keeps
    | with_reducible refine Keeps.ite ?_ ?_

theorem State.lowerEdge_keeps {org s : State} (n : Nat) (now : Bool) (h : Keeps org s) :
    Keeps org (State.lowerEdge s n now) := by
  delta State.lowerEdge
  repeat' first
    | with_reducible assumption
    | with_reducible apply State.setBit_keeps
    | with_reducible apply State.setN_keeps
    | with_reducible apply State.setUnder_keeps
    | (extract_lets +onlyGivenNames letX; have letT : True := (by clear_value letX; guard_hyp letX : State; trivial); clear letT; refine Keeps.cut (r := org) (v := letX) ?_ (fun letH => ?_); (focus subst letX); rotate_left; clear_value letX; revert letX; intro _ _)
    | with_reducible refine Keeps.ite ?_ ?_
    | with_reducible refine Keeps.iteP ?_ ?_
    | with_reducible refine forBelow_keeps ?_ (fun _ _ _ => ?_)

theorem State.filterCount_keeps {org s : State} (n c : Nat) (holds : Bool) (h : Keeps org s) :
    Keeps org (State.filterCount s n c holds) := by
  delta State.filterCount
  repeat' first
    | with_reducible assumption
    | with_reducible apply State.count_keeps
    | with_reducible apply State.setN_keeps
    | with_reducible refine Keeps.ite ?_ ?_

theorem State.judgeLow_keeps {org s : State} (n : Nat) (v : Int) (h : Keeps org s) :
    Keeps org (State.judgeLow s n v) := by
  delta State.judgeLow
  repeat' first
    | with_reducible assumption
    | with_reducible apply State.filterCount_keeps
    | with_reducible apply State.set_keeps
    | with_reducible apply State.setBit_keeps
    | (extract_lets +onlyGivenNames letX; have letT : True := (by clear_value letX; guard_hyp letX : State; trivial); clear letT; refine Keeps.cut (r := org) (v := letX) ?_ (fun letH => ?_); (focus subst letX); rotate_left; clear_value letX; revert letX; intro _ _)
    | (extract_lets +onlyGivenNames letX; clear_value letX; revert letX; intro _)
    | with_reducible refine Keeps.ite ?_ ?_
    | with_reducible refine Keeps.iteP ?_ ?_

theorem State.judgeHigh_keeps {org s : State} (n : Nat) (v : Int) (h : Keeps org s) :
    Keeps org (State.judgeHigh s n v) := by
  delta State.judgeHigh
  repeat' first
    | with_reducible assumption
    | with_reducible apply State.filterCount_keeps
    | with_reducible apply State.set_keeps
    | with_reducible apply State.setBit_keeps
    | (extract_lets +onlyGivenNames letX; have letT : True := (by clear_value letX; guard_hyp letX : State; trivial); clear letT; refine Keeps.cut (r := org) (v := letX) ?_ (fun letH => ?_); (focus subst letX); rotate_left; clear_value letX; revert letX; intro _ _)
    | (extract_lets +onlyGivenNames letX; clear_value letX; revert letX; intro _)
    | with_reducible refine Keeps.ite ?_ ?_
    | with_reducible refine Keeps.iteP ?_ ?_

theorem State.judgeSample_keeps {org s : State} (n : Nat) (v : Int) (low : Bool) (h : Keeps org s) :
    Keeps org (State.judgeSample s n v low) := by
  delta State.judgeSample
  repeat' first
    | with_reducible assumption
    | with_reducible apply State.judgeHigh_keeps
    | with_reducible apply State.judgeLow_keeps
    | with_reducible apply State.setN_keeps
    | with_reducible apply State.set_keeps
    | (extract_lets +onlyGivenNames letX; have letT : True := (by clear_value letX; guard_hyp letX : State; trivial); clear letT; refine Keeps.cut (r := org) (v := letX) ?_ (fun letH => ?_); (focus subst letX); rotate_left; clear_value letX; revert letX; intro _ _)
    | with_reducible refine Keeps.ite ?_ ?_
    | with_reducible refine Keeps.iteP ?_ ?_

theorem State.judgeFrame_keeps {org s : State} (n : Nat) (h : Keeps org s) :
    Keeps org (State.judgeFrame s n) := by
  delta State.judgeFrame
  repeat' first
    | with_reducible assumption
    | with_reducible apply State.judgeHigh_keeps
    | with_reducible apply State.judgeLow_keeps
    | with_reducible apply State.setN_keeps
    | (extract_lets +onlyGivenNames letX; have letT : True := (by clear_value letX; guard_hyp letX : State; trivial); clear letT; refine Keeps.cut (r := org) (v := letX) ?_ (fun letH => ?_); (focus subst letX); rotate_left; clear_value letX; revert letX; intro _ _)
    | with_reducible refine Keeps.ite ?_ ?_
    | with_reducible refine Keeps.iteP ?_ ?_
    | with_reducible refine forBelow_keeps ?_ (fun _ _ _ => ?_)

theorem State.judgeRound_keeps {org s : State} (n : Nat) (v : Int) (skipped last : Bool) (h : Keeps org s) :
    Keeps org (State.judgeRound s n v skipped last) := by
  delta State.judgeRound
  repeat' first
    | with_reducible assumption
    | with_reducible apply State.set_keeps
    | with_reducible apply State.lowerEdge_keeps
    | with_reducible apply State.judgeSample_keeps
    | with_reducible apply State.judgeFrame_keeps
    | with_reducible apply State.updateGood_keeps
    | (extract_lets +onlyGivenNames letX; have letT : True := (by clear_value letX; guard_hyp letX : State; trivial); clear letT; refine Keeps.cut (r := org) (v := letX) ?_ (fun letH => ?_); (focus subst letX); rotate_left; clear_value letX; revert letX; intro _ _)
    | (extract_lets +onlyGivenNames letX; clear_value letX; revert letX; intro _)
    | with_reducible refine Keeps.ite ?_ ?_
    | with_reducible refine Keeps.iteP ?_ ?_

theorem State.windowMode_keeps {org s : State} (n : Nat) (h : Keeps org s) :
    Keeps org (State.windowMode s n) := by
  delta State.windowMode
  repeat' first
    | with_reducible assumption
    | with_reducible apply State.setBit_keeps
    | with_reducible apply State.setUnder_keeps
    | with_reducible apply State.setN_keeps
    | with_reducible apply State.updateGood_keeps
    | (extract_lets +onlyGivenNames letX; have letT : True := (by clear_value letX; guard_hyp letX : State; trivial); clear letT; refine Keeps.cut (r := org) (v := letX) ?_ (fun letH => ?_); (focus subst letX); rotate_left; clear_value letX; revert letX; intro _ _)
    | with_reducible refine Keeps.ite ?_ ?_
    | with_reducible refine Keeps.iteP ?_ ?_
    | with_reducible refine forBelow_keeps ?_ (fun _ _ _ => ?_)

theorem State.undervoltage_keeps {org s : State} (n : Nat) (h : Keeps org s) :
    Keeps org (State.undervoltage s n) := by
  delta State.undervoltage
  repeat' first
    | with_reducible assumption
    | with_reducible apply State.count_keeps
    | with_reducible apply State.setUnder_keeps
    | with_reducible apply State.updateGood_keeps
    | with_reducible refine Keeps.ite ?_ ?_

theorem State.overvoltage_keeps {org s : State} (n : Nat) (h : Keeps org s) :
    Keeps org (State.overvoltage s n) := by
  delta State.overvoltage
  repeat' first
    | with_reducible assumption
    | with_reducible apply State.count_keeps
    | with_reducible apply State.setOver_keeps
    | with_reducible apply State.updateGood_keeps
    | with_reducible refine Keeps.ite ?_ ?_

theorem State.underCleared_keeps {org s : State} (n : Nat) (h : Keeps org s) :
    Keeps org (State.underCleared s n) := by
  delta State.underCleared
  repeat' first
    | with_reducible assumption
    | with_reducible apply State.setBit_keeps
    | with_reducible apply State.setUnder_keeps
    | with_reducible apply State.updateGood_keeps
    | with_reducible refine Keeps.ite ?_ ?_

theorem State.overCleared_keeps {org s : State} (n : Nat) (h : Keeps org s) :
    Keeps org (State.overCleared s n) := by
  delta State.overCleared
  repeat' first
    | with_reducible assumption
    | with_reducible apply State.setBit_keeps
    | with_reducible apply State.setOver_keeps
    | with_reducible apply State.updateGood_keeps
    | with_reducible refine Keeps.ite ?_ ?_

theorem execUndervoltage_runs {org s : State} (n : Chan) (h : Keeps org s) :
    Runs org (execUndervoltage n s) := by
  delta execUndervoltage
  repeat' first
    | with_reducible assumption
    | with_reducible refine Runs.next ?_
    | with_reducible apply State.undervoltage_keeps
    | with_reducible refine Runs.ite ?_ ?_

theorem execOvervoltage_runs {org s : State} (n : Chan) (h : Keeps org s) :
    Runs org (execOvervoltage n s) := by
  delta execOvervoltage
  repeat' first
    | with_reducible assumption
    | with_reducible refine Runs.next ?_
    | with_reducible apply State.overvoltage_keeps
    | with_reducible refine Runs.ite ?_ ?_

theorem execUnderCleared_runs {org s : State} (n : Chan) (h : Keeps org s) :
    Runs org (execUnderCleared n s) := by
  delta execUnderCleared
  repeat' first
    | with_reducible assumption
    | with_reducible refine Runs.next ?_
    | with_reducible apply State.underCleared_keeps
    | with_reducible refine Runs.ite ?_ ?_

theorem execOverCleared_runs {org s : State} (n : Chan) (h : Keeps org s) :
    Runs org (execOverCleared n s) := by
  delta execOverCleared
  repeat' first
    | with_reducible assumption
    | with_reducible refine Runs.next ?_
    | with_reducible apply State.overCleared_keeps
    | with_reducible refine Runs.ite ?_ ?_

theorem State.keeperToggle_keeps {org s : State} (r : Nat) (h : Keeps org s) :
    Keeps org (State.keeperToggle s r) := by
  delta State.keeperToggle
  repeat' first
    | with_reducible assumption
    | with_reducible apply State.setFlag_keeps
    | with_reducible apply State.setN_keeps
    | with_reducible refine Keeps.ite ?_ ?_

theorem execRsoRelease_runs {org s : State} (r : Rso) (h : Keeps org s) :
    Runs org (execRsoRelease r s) := by
  delta execRsoRelease
  repeat' first
    | with_reducible assumption
    | with_reducible refine Runs.next ?_
    | with_reducible apply State.rsoRelease_keeps
    | with_reducible refine Runs.ite ?_ ?_

theorem execKeeperReportToggle_runs {org s : State} (r : Rso) (h : Keeps org s) :
    Runs org (execKeeperReportToggle r s) := by
  delta execKeeperReportToggle
  repeat' first
    | with_reducible assumption
    | with_reducible refine Runs.next ?_
    | with_reducible apply State.keeperToggle_keeps
    | with_reducible refine Runs.ite ?_ ?_

end Sys2Proof.Machine
end

