-- ==== Sys2Proof/Laws/KeepsB.lean ====
section
/-!
SUPPORT. The laws of Converter, Backup, Battery: each definition that answers a state keeps what Keeps says.
-/
namespace Sys2Proof.Machine

theorem State.setConvFlag_keeps {org s : State} (m b : Nat) (on : Bool) (h : Keeps org s) :
    Keeps org (State.setConvFlag s m b on) := by
  delta State.setConvFlag
  repeat' first
    | with_reducible assumption
    | with_reducible apply State.setBit_keeps

theorem State.raiseConverter_keeps {org s : State} (k : Kind) (m e : Nat) (fields : List (Nat × Int)) (h : Keeps org s) :
    Keeps org (State.raiseConverter s k m e fields) := by
  delta State.raiseConverter
  repeat' first
    | with_reducible assumption
    | with_reducible apply State.raise_keeps

theorem State.setEdges_keeps {org s : State} (l : Nat) (e : List Int) (h : Keeps org s) :
    Keeps org (State.setEdges s l e) := by
  delta State.setEdges
  repeat' first
    | with_reducible assumption
    | with_reducible apply State.set_keeps
    | with_reducible refine forBelow_keeps ?_ (fun _ _ _ => ?_)

theorem State.laneLow_keeps {org s : State} (l : Nat) (h : Keeps org s) :
    Keeps org (State.laneLow s l) := by
  delta State.laneLow
  repeat' first
    | with_reducible assumption
    | with_reducible apply State.setEdges_keeps

theorem State.pwmFloat_keeps {org s : State} (h : Keeps org s) :
    Keeps org (State.pwmFloat s) := by
  delta State.pwmFloat
  repeat' first
    | with_reducible assumption
    | with_reducible apply State.setEdges_keeps
    | with_reducible refine forBelow_keeps ?_ (fun _ _ _ => ?_)

theorem State.pwmLow_keeps {org s : State} (h : Keeps org s) :
    Keeps org (State.pwmLow s) := by
  delta State.pwmLow
  repeat' first
    | with_reducible assumption
    | with_reducible apply State.laneLow_keeps
    | with_reducible refine forBelow_keeps ?_ (fun _ _ _ => ?_)

theorem State.laneParks_keeps {org s : State} (l : Nat) (h : Keeps org s) :
    Keeps org (State.laneParks s l) := by
  delta State.laneParks
  repeat' first
    | with_reducible assumption
    | with_reducible apply State.laneLow_keeps
    | with_reducible apply State.setN_keeps
    | (extract_lets +onlyGivenNames letX; have letT : True := (by clear_value letX; guard_hyp letX : State; trivial); clear letT; refine Keeps.cut (r := org) (v := letX) ?_ (fun letH => ?_); (focus subst letX); rotate_left; clear_value letX; revert letX; intro _ _)
    | with_reducible refine Keeps.ite ?_ ?_
    | with_reducible refine Keeps.iteP ?_ ?_

theorem State.planEdges_keeps {org s : State} (l u : Nat) (h : Keeps org s) :
    Keeps org (State.planEdges s l u) := by
  delta State.planEdges
  repeat' first
    | with_reducible assumption
    | with_reducible apply State.setN_keeps
    | with_reducible apply State.setEdges_keeps
    | (extract_lets +onlyGivenNames letX; have letT : True := (by clear_value letX; guard_hyp letX : State; trivial); clear letT; refine Keeps.cut (r := org) (v := letX) ?_ (fun letH => ?_); (focus subst letX); rotate_left; clear_value letX; revert letX; intro _ _)
    | (extract_lets +onlyGivenNames letX; clear_value letX; revert letX; intro _)
    | with_reducible refine Keeps.ite ?_ ?_
    | with_reducible refine Keeps.iteP ?_ ?_

theorem State.laneMoves_keeps {org s : State} (l u old new : Nat) (h : Keeps org s) :
    Keeps org (State.laneMoves s l u old new) := by
  delta State.laneMoves
  repeat' first
    | with_reducible assumption
    | with_reducible apply State.setN_keeps
    | with_reducible apply State.setEdges_keeps
    | (extract_lets +onlyGivenNames letX; have letT : True := (by clear_value letX; guard_hyp letX : State; trivial); clear letT; refine Keeps.cut (r := org) (v := letX) ?_ (fun letH => ?_); (focus subst letX); rotate_left; clear_value letX; revert letX; intro _ _)
    | (extract_lets +onlyGivenNames letX; clear_value letX; revert letX; intro _)
    | with_reducible refine Keeps.ite ?_ ?_
    | with_reducible refine Keeps.iteP ?_ ?_

theorem State.laneBegins_keeps {org s : State} (l u : Nat) (h : Keeps org s) :
    Keeps org (State.laneBegins s l u) := by
  delta State.laneBegins
  repeat' first
    | with_reducible assumption
    | with_reducible apply State.setN_keeps
    | with_reducible apply State.planEdges_keeps
    | with_reducible apply State.laneMoves_keeps
    | (extract_lets +onlyGivenNames letX; clear_value letX; revert letX; intro _)
    | with_reducible refine Keeps.ite ?_ ?_
    | with_reducible refine Keeps.iteP ?_ ?_

theorem State.laneCut_keeps {org s : State} (l a : Nat) (h : Keeps org s) :
    Keeps org (State.laneCut s l a) := by
  delta State.laneCut
  repeat' first
    | with_reducible assumption
    | with_reducible apply State.setEdges_keeps
    | (extract_lets +onlyGivenNames letX; clear_value letX; revert letX; intro _)
    | with_reducible refine Keeps.iteP ?_ ?_

theorem State.intervalCut_keeps {org s : State} (l a : Nat) (h : Keeps org s) :
    Keeps org (State.intervalCut s l a) := by
  delta State.intervalCut
  repeat' first
    | with_reducible assumption
    | with_reducible apply State.setEdges_keeps
    | with_reducible apply State.laneCut_keeps
    | (extract_lets +onlyGivenNames letX; clear_value letX; revert letX; intro _)
    | with_reducible refine Keeps.ite ?_ ?_
    | with_reducible refine Keeps.iteP ?_ ?_

theorem State.laneEnds_keeps {org s : State} (l : Nat) (h : Keeps org s) :
    Keeps org (State.laneEnds s l) := by
  delta State.laneEnds
  repeat' first
    | with_reducible assumption
    | with_reducible apply State.setEdges_keeps
    | with_reducible apply State.laneLow_keeps
    | (extract_lets +onlyGivenNames letX; clear_value letX; revert letX; intro _)
    | with_reducible refine Keeps.ite ?_ ?_
    | with_reducible refine Keeps.iteP ?_ ?_

theorem State.outSamples_keeps {org s : State} (m : Nat) (samples : List Int) (h : Keeps org s) :
    Keeps org (State.outSamples s m samples) := by
  delta State.outSamples
  repeat' first
    | with_reducible assumption
    | with_reducible apply State.setConvFlag_keeps
    | with_reducible apply State.set_keeps
    | with_reducible apply State.setN_keeps
    | (extract_lets +onlyGivenNames letX; have letT : True := (by clear_value letX; guard_hyp letX : State; trivial); clear letT; refine Keeps.cut (r := org) (v := letX) ?_ (fun letH => ?_); (focus subst letX); rotate_left; clear_value letX; revert letX; intro _ _)
    | (extract_lets +onlyGivenNames letX; clear_value letX; revert letX; intro _)
    | with_reducible refine Keeps.ite ?_ ?_
    | with_reducible refine Keeps.iteP ?_ ?_

theorem State.overrides_keeps {org s : State} (m : Nat) (ref max min : Int) (h : Keeps org s) :
    Keeps org (State.overrides s m ref max min) := by
  delta State.overrides
  repeat' first
    | with_reducible assumption
    | with_reducible apply State.setN_keeps
    | with_reducible apply State.set_keeps
    | with_reducible apply State.setConvFlag_keeps
    | (extract_lets +onlyGivenNames letX; have letT : True := (by clear_value letX; guard_hyp letX : State; trivial); clear letT; refine Keeps.cut (r := org) (v := letX) ?_ (fun letH => ?_); (focus subst letX); rotate_left; clear_value letX; revert letX; intro _ _)
    | with_reducible refine Keeps.iteP ?_ ?_

theorem State.overrideDrop_keeps {org s : State} (m : Nat) (h : Keeps org s) :
    Keeps org (State.overrideDrop s m) := by
  delta State.overrideDrop
  repeat' first
    | with_reducible assumption
    | with_reducible apply State.setN_keeps
    | with_reducible apply State.setConvFlag_keeps

theorem State.overridesEnd_keeps {org s : State} (h : Keeps org s) :
    Keeps org (State.overridesEnd s) := by
  delta State.overridesEnd
  repeat' first
    | with_reducible assumption
    | with_reducible apply State.overrideDrop_keeps
    | with_reducible refine Keeps.ite ?_ ?_
    | with_reducible refine forBelow_keeps ?_ (fun _ _ _ => ?_)

theorem State.voltageLoop_keeps {org s : State} (m : Nat) (vout : Int) (h : Keeps org s) :
    Keeps org (State.voltageLoop s m vout) := by
  delta State.voltageLoop
  repeat' first
    | with_reducible assumption
    | with_reducible apply State.set_keeps
    | with_reducible apply State.setConvFlag_keeps
    | (extract_lets +onlyGivenNames letX; have letT : True := (by clear_value letX; guard_hyp letX : State; trivial); clear letT; refine Keeps.cut (r := org) (v := letX) ?_ (fun letH => ?_); (focus subst letX); rotate_left; clear_value letX; revert letX; intro _ _)
    | (extract_lets +onlyGivenNames letX; clear_value letX; revert letX; intro _)
    | with_reducible refine Keeps.iteP ?_ ?_
    | with_reducible refine forEach_keeps ?_ (fun _ _ _ => ?_)

theorem State.currentLoop_keeps {org s : State} (m l : Nat) (i : Int) (h : Keeps org s) :
    Keeps org (State.currentLoop s m l i) := by
  delta State.currentLoop
  repeat' first
    | with_reducible assumption
    | with_reducible apply State.set_keeps
    | (extract_lets +onlyGivenNames letX; have letT : True := (by clear_value letX; guard_hyp letX : State; trivial); clear letT; refine Keeps.cut (r := org) (v := letX) ?_ (fun letH => ?_); (focus subst letX); rotate_left; clear_value letX; revert letX; intro _ _)

theorem State.softStartDone_keeps {org s : State} (m : Nat) (h : Keeps org s) :
    Keeps org (State.softStartDone s m) := by
  delta State.softStartDone
  repeat' first
    | with_reducible assumption
    | with_reducible apply State.setN_keeps
    | with_reducible apply State.setConvFlag_keeps
    | with_reducible apply State.setClosing_keeps
    | with_reducible apply State.raiseConverter_keeps
    | (extract_lets +onlyGivenNames letX; have letT : True := (by clear_value letX; guard_hyp letX : State; trivial); clear letT; refine Keeps.cut (r := org) (v := letX) ?_ (fun letH => ?_); (focus subst letX); rotate_left; clear_value letX; revert letX; intro _ _)

theorem State.moveReference_keeps {org s : State} (m : Nat) (h : Keeps org s) :
    Keeps org (State.moveReference s m) := by
  delta State.moveReference
  repeat' first
    | with_reducible assumption
    | with_reducible apply State.setN_keeps
    | with_reducible apply State.softStartDone_keeps
    | with_reducible apply State.set_keeps
    | (extract_lets +onlyGivenNames letX; have letT : True := (by clear_value letX; guard_hyp letX : State; trivial); clear letT; refine Keeps.cut (r := org) (v := letX) ?_ (fun letH => ?_); (focus subst letX); rotate_left; clear_value letX; revert letX; intro _ _)
    | (extract_lets +onlyGivenNames letX; clear_value letX; revert letX; intro _)
    | with_reducible refine Keeps.ite ?_ ?_
    | with_reducible refine Keeps.iteP ?_ ?_

theorem State.convGood_keeps {org s : State} (m : Nat) (h : Keeps org s) :
    Keeps org (State.convGood s m) := by
  delta State.convGood
  repeat' first
    | with_reducible assumption
    | with_reducible apply State.setBit_keeps
    | with_reducible apply State.raiseConverter_keeps
    | (extract_lets +onlyGivenNames letX; have letT : True := (by clear_value letX; guard_hyp letX : State; trivial); clear letT; refine Keeps.cut (r := org) (v := letX) ?_ (fun letH => ?_); (focus subst letX); rotate_left; clear_value letX; revert letX; intro _ _)
    | with_reducible refine Keeps.ite ?_ ?_
    | with_reducible refine Keeps.iteP ?_ ?_

theorem State.convUnder_keeps {org s : State} (m : Nat) (on : Bool) (v : Int) (h : Keeps org s) :
    Keeps org (State.convUnder s m on v) := by
  delta State.convUnder
  repeat' first
    | with_reducible assumption
    | with_reducible apply State.setBit_keeps
    | with_reducible apply State.raiseConverter_keeps
    | with_reducible refine Keeps.ite ?_ ?_

theorem State.convOver_keeps {org s : State} (m : Nat) (on : Bool) (v : Int) (h : Keeps org s) :
    Keeps org (State.convOver s m on v) := by
  delta State.convOver
  repeat' first
    | with_reducible assumption
    | with_reducible apply State.setBit_keeps
    | with_reducible apply State.raiseConverter_keeps
    | with_reducible refine Keeps.ite ?_ ?_

theorem State.convLower_keeps {org s : State} (m : Nat) (h : Keeps org s) :
    Keeps org (State.convLower s m) := by
  delta State.convLower
  repeat' first
    | with_reducible assumption
    | with_reducible apply State.setN_keeps
    | with_reducible apply State.setBit_keeps
    | with_reducible apply State.convUnder_keeps
    | with_reducible apply State.convGood_keeps
    | (extract_lets +onlyGivenNames letX; have letT : True := (by clear_value letX; guard_hyp letX : State; trivial); clear letT; refine Keeps.cut (r := org) (v := letX) ?_ (fun letH => ?_); (focus subst letX); rotate_left; clear_value letX; revert letX; intro _ _)
    | (extract_lets +onlyGivenNames letX; clear_value letX; revert letX; intro _)
    | with_reducible refine Keeps.ite ?_ ?_
    | with_reducible refine Keeps.iteP ?_ ?_

theorem State.convWindowMode_keeps {org s : State} (m : Nat) (h : Keeps org s) :
    Keeps org (State.convWindowMode s m) := by
  delta State.convWindowMode
  repeat' first
    | with_reducible assumption
    | with_reducible apply State.setN_keeps
    | with_reducible apply State.setBit_keeps
    | with_reducible apply State.convUnder_keeps
    | with_reducible apply State.convGood_keeps
    | (extract_lets +onlyGivenNames letX; have letT : True := (by clear_value letX; guard_hyp letX : State; trivial); clear letT; refine Keeps.cut (r := org) (v := letX) ?_ (fun letH => ?_); (focus subst letX); rotate_left; clear_value letX; revert letX; intro _ _)
    | with_reducible refine Keeps.ite ?_ ?_
    | with_reducible refine Keeps.iteP ?_ ?_

theorem State.converterUndervoltage_keeps {org s : State} (m : Nat) (units : List (List Int)) (h : Keeps org s) :
    Keeps org (State.converterUndervoltage s m units) := by
  delta State.converterUndervoltage
  repeat' first
    | with_reducible assumption
    | with_reducible apply State.setBit_keeps
    | with_reducible apply State.count_keeps
    | with_reducible apply State.convUnder_keeps
    | with_reducible apply State.convGood_keeps
    | (extract_lets +onlyGivenNames letX; have letT : True := (by clear_value letX; guard_hyp letX : State; trivial); clear letT; refine Keeps.cut (r := org) (v := letX) ?_ (fun letH => ?_); (focus subst letX); rotate_left; clear_value letX; revert letX; intro _ _)
    | (extract_lets +onlyGivenNames letX; clear_value letX; revert letX; intro _)
    | with_reducible refine Keeps.ite ?_ ?_
    | with_reducible refine Keeps.iteP ?_ ?_

theorem State.converterOvervoltage_keeps {org s : State} (m : Nat) (units : List (List Int)) (h : Keeps org s) :
    Keeps org (State.converterOvervoltage s m units) := by
  delta State.converterOvervoltage
  repeat' first
    | with_reducible assumption
    | with_reducible apply State.setBit_keeps
    | with_reducible apply State.count_keeps
    | with_reducible apply State.convOver_keeps
    | with_reducible apply State.convGood_keeps
    | (extract_lets +onlyGivenNames letX; have letT : True := (by clear_value letX; guard_hyp letX : State; trivial); clear letT; refine Keeps.cut (r := org) (v := letX) ?_ (fun letH => ?_); (focus subst letX); rotate_left; clear_value letX; revert letX; intro _ _)
    | (extract_lets +onlyGivenNames letX; clear_value letX; revert letX; intro _)
    | with_reducible refine Keeps.ite ?_ ?_
    | with_reducible refine Keeps.iteP ?_ ?_

theorem State.converterUnderCleared_keeps {org s : State} (m : Nat) (units : List (List Int)) (h : Keeps org s) :
    Keeps org (State.converterUnderCleared s m units) := by
  delta State.converterUnderCleared
  repeat' first
    | with_reducible assumption
    | with_reducible apply State.setBit_keeps
    | with_reducible apply State.convUnder_keeps
    | with_reducible apply State.convGood_keeps
    | (extract_lets +onlyGivenNames letX; clear_value letX; revert letX; intro _)
    | with_reducible refine Keeps.ite ?_ ?_
    | with_reducible refine Keeps.iteP ?_ ?_

theorem State.converterOverCleared_keeps {org s : State} (m : Nat) (units : List (List Int)) (h : Keeps org s) :
    Keeps org (State.converterOverCleared s m units) := by
  delta State.converterOverCleared
  repeat' first
    | with_reducible assumption
    | with_reducible apply State.setBit_keeps
    | with_reducible apply State.convOver_keeps
    | with_reducible apply State.convGood_keeps
    | (extract_lets +onlyGivenNames letX; clear_value letX; revert letX; intro _)
    | with_reducible refine Keeps.ite ?_ ?_
    | with_reducible refine Keeps.iteP ?_ ?_

theorem State.convLow_keeps {org s : State} (m : Nat) (h : Keeps org s) :
    Keeps org (State.convLow s m) := by
  delta State.convLow
  repeat' first
    | with_reducible assumption
    | with_reducible apply State.laneLow_keeps
    | with_reducible refine forEach_keeps ?_ (fun _ _ _ => ?_)

theorem State.convBegin_keeps {org s : State} (m : Nat) (h : Keeps org s) :
    Keeps org (State.convBegin s m) := by
  delta State.convBegin
  repeat' first
    | with_reducible assumption
    | with_reducible apply State.setN_keeps
    | with_reducible apply State.convLow_keeps
    | (extract_lets +onlyGivenNames letX; have letT : True := (by clear_value letX; guard_hyp letX : State; trivial); clear letT; refine Keeps.cut (r := org) (v := letX) ?_ (fun letH => ?_); (focus subst letX); rotate_left; clear_value letX; revert letX; intro _ _)
    | with_reducible refine Keeps.iteP ?_ ?_
    | with_reducible refine forEach_keeps ?_ (fun _ _ _ => ?_)

theorem State.storeOffsets_keeps {org s : State} (m : Nat) (off : List Int) (h : Keeps org s) :
    Keeps org (State.storeOffsets s m off) := by
  delta State.storeOffsets
  repeat' first
    | with_reducible assumption
    | with_reducible apply State.set_keeps
    | with_reducible refine forEach_keeps ?_ (fun _ _ _ => ?_)

theorem State.clearLoops_keeps {org s : State} (m : Nat) (h : Keeps org s) :
    Keeps org (State.clearLoops s m) := by
  delta State.clearLoops
  repeat' first
    | with_reducible assumption
    | with_reducible apply State.set_keeps
    | with_reducible apply State.setN_keeps
    | with_reducible apply State.setConvFlag_keeps
    | (extract_lets +onlyGivenNames letX; have letT : True := (by clear_value letX; guard_hyp letX : State; trivial); clear letT; refine Keeps.cut (r := org) (v := letX) ?_ (fun letH => ?_); (focus subst letX); rotate_left; clear_value letX; revert letX; intro _ _)
    | with_reducible refine Keeps.iteP ?_ ?_
    | with_reducible refine forEach_keeps ?_ (fun _ _ _ => ?_)
    | with_reducible refine forBelow_keeps ?_ (fun _ _ _ => ?_)

theorem State.convFirstCycle_keeps {org s : State} (m : Nat) (h : Keeps org s) :
    Keeps org (State.convFirstCycle s m) := by
  delta State.convFirstCycle
  repeat' first
    | with_reducible assumption
    | with_reducible apply State.setN_keeps
    | with_reducible apply State.clearLoops_keeps
    | with_reducible apply State.set_keeps
    | with_reducible apply State.setConvFlag_keeps
    | with_reducible apply State.raiseConverter_keeps
    | with_reducible apply State.softStartDone_keeps
    | with_reducible apply State.convLower_keeps
    | with_reducible apply State.laneBegins_keeps
    | (extract_lets +onlyGivenNames letX; have letT : True := (by clear_value letX; guard_hyp letX : State; trivial); clear letT; refine Keeps.cut (r := org) (v := letX) ?_ (fun letH => ?_); (focus subst letX); rotate_left; clear_value letX; revert letX; intro _ _)
    | (extract_lets +onlyGivenNames letX; clear_value letX; revert letX; intro _)
    | with_reducible refine Keeps.ite ?_ ?_
    | with_reducible refine Keeps.iteP ?_ ?_
    | with_reducible refine forEach_keeps ?_ (fun _ _ _ => ?_)

theorem State.startsBegin_keeps {org s : State} (h : Keeps org s) :
    Keeps org (State.startsBegin s) := by
  delta State.startsBegin
  repeat' first
    | with_reducible assumption
    | with_reducible apply State.convFirstCycle_keeps
    | with_reducible refine Keeps.ite ?_ ?_
    | with_reducible refine forBelow_keeps ?_ (fun _ _ _ => ?_)

theorem State.converterStartCheck_keeps {org s : State} (m : Nat) (samples off : List Int) (h : Keeps org s) :
    Keeps org (State.converterStartCheck s m samples off) := by
  delta State.converterStartCheck
  repeat' first
    | with_reducible assumption
    | with_reducible apply State.outSamples_keeps
    | with_reducible apply State.storeOffsets_keeps
    | with_reducible apply State.set_keeps
    | with_reducible apply State.setN_keeps
    | with_reducible apply State.raiseConverter_keeps
    | (extract_lets +onlyGivenNames letX; have letT : True := (by clear_value letX; guard_hyp letX : State; trivial); clear letT; refine Keeps.cut (r := org) (v := letX) ?_ (fun letH => ?_); (focus subst letX); rotate_left; clear_value letX; revert letX; intro _ _)
    | (extract_lets +onlyGivenNames letX; clear_value letX; revert letX; intro _)
    | with_reducible refine Keeps.ite ?_ ?_
    | with_reducible refine Keeps.iteP ?_ ?_

theorem State.raiseAssist_keeps {org s : State} (k : Kind) (fields : List (Nat × Int)) (h : Keeps org s) :
    Keeps org (State.raiseAssist s k fields) := by
  delta State.raiseAssist
  repeat' first
    | with_reducible assumption
    | with_reducible apply State.raise_keeps

theorem State.asFinish_keeps {org s : State} (result : Nat) (h : Keeps org s) :
    Keeps org (State.asFinish s result) := by
  delta State.asFinish
  repeat' first
    | with_reducible assumption
    | with_reducible apply State.setN_keeps
    | with_reducible apply State.setFlag_keeps
    | with_reducible apply State.raiseAssist_keeps
    | (extract_lets +onlyGivenNames letX; have letT : True := (by clear_value letX; guard_hyp letX : State; trivial); clear letT; refine Keeps.cut (r := org) (v := letX) ?_ (fun letH => ?_); (focus subst letX); rotate_left; clear_value letX; revert letX; intro _ _)
    | with_reducible refine Keeps.ite ?_ ?_
    | with_reducible refine Keeps.iteP ?_ ?_

theorem State.truncationEnds_keeps {org s : State} (m : Nat) (h : Keeps org s) :
    Keeps org (State.truncationEnds s m) := by
  delta State.truncationEnds
  repeat' first
    | with_reducible assumption
    | with_reducible apply State.setConvFlag_keeps
    | with_reducible apply State.setN_keeps
    | with_reducible apply State.raiseConverter_keeps
    | (extract_lets +onlyGivenNames letX; have letT : True := (by clear_value letX; guard_hyp letX : State; trivial); clear letT; refine Keeps.cut (r := org) (v := letX) ?_ (fun letH => ?_); (focus subst letX); rotate_left; clear_value letX; revert letX; intro _ _)
    | (extract_lets +onlyGivenNames letX; clear_value letX; revert letX; intro _)
    | with_reducible refine Keeps.ite ?_ ?_
    | with_reducible refine Keeps.iteP ?_ ?_

theorem State.convQuits_keeps {org s : State} (m st : Nat) (planned : Bool) (h : Keeps org s) :
    Keeps org (State.convQuits s m st planned) := by
  delta State.convQuits
  repeat' first
    | with_reducible assumption
    | with_reducible apply State.asFinish_keeps
    | with_reducible apply State.truncationEnds_keeps
    | with_reducible apply State.setN_keeps
    | with_reducible apply State.setConvFlag_keeps
    | with_reducible apply State.laneEnds_keeps
    | with_reducible apply State.laneLow_keeps
    | with_reducible apply State.convLower_keeps
    | with_reducible apply State.openShadow_keeps
    | with_reducible apply State.setClosing_keeps
    | (extract_lets +onlyGivenNames letX; have letT : True := (by clear_value letX; guard_hyp letX : State; trivial); clear letT; refine Keeps.cut (r := org) (v := letX) ?_ (fun letH => ?_); (focus subst letX); rotate_left; clear_value letX; revert letX; intro _ _)
    | with_reducible refine Keeps.ite ?_ ?_
    | with_reducible refine Keeps.iteP ?_ ?_
    | with_reducible refine forEach_keeps ?_ (fun _ _ _ => ?_)

theorem State.convLeave_keeps {org s : State} (m st : Nat) (h : Keeps org s) :
    Keeps org (State.convLeave s m st) := by
  delta State.convLeave
  repeat' first
    | with_reducible assumption
    | with_reducible apply State.convQuits_keeps

theorem State.convStop_keeps {org s : State} (m cause : Nat) (h : Keeps org s) :
    Keeps org (State.convStop s m cause) := by
  delta State.convStop
  repeat' first
    | with_reducible assumption
    | with_reducible apply State.setN_keeps
    | with_reducible apply State.convLeave_keeps
    | with_reducible apply State.convQuits_keeps
    | with_reducible apply State.raiseConverter_keeps
    | with_reducible refine Keeps.ite ?_ ?_

theorem State.convEnable_keeps {org s : State} (m v : Nat) (h : Keeps org s) :
    Keeps org (State.convEnable s m v) := by
  delta State.convEnable
  repeat' first
    | with_reducible assumption
    | with_reducible apply State.setN_keeps
    | with_reducible apply State.convStop_keeps
    | with_reducible apply State.convBegin_keeps
    | (extract_lets +onlyGivenNames letX; have letT : True := (by clear_value letX; guard_hyp letX : State; trivial); clear letT; refine Keeps.cut (r := org) (v := letX) ?_ (fun letH => ?_); (focus subst letX); rotate_left; clear_value letX; revert letX; intro _ _)
    | with_reducible refine Keeps.ite ?_ ?_
    | with_reducible refine Keeps.iteP ?_ ?_

theorem State.convRing_keeps {org s : State} (m : Nat) (vout : Int) (h : Keeps org s) :
    Keeps org (State.convRing s m vout) := by
  delta State.convRing
  repeat' first
    | with_reducible assumption
    | with_reducible apply State.setN_keeps
    | with_reducible apply State.setBlob_keeps
    | (extract_lets +onlyGivenNames letX; clear_value letX; revert letX; intro _)
    | with_reducible refine Keeps.ite ?_ ?_
    | with_reducible refine Keeps.iteP ?_ ?_

theorem State.freezeRecord_keeps {org s : State} (m cause kind site : Nat) (h : Keeps org s) :
    Keeps org (State.freezeRecord s m cause kind site) := by
  delta State.freezeRecord
  repeat' first
    | with_reducible assumption
    | with_reducible apply State.count_keeps
    | with_reducible apply State.raiseConverter_keeps
    | with_reducible apply State.setN_keeps
    | with_reducible apply State.setBlob_keeps
    | (extract_lets +onlyGivenNames letX; clear_value letX; revert letX; intro _)
    | with_reducible refine Keeps.ite ?_ ?_
    | with_reducible refine Keeps.iteP ?_ ?_

theorem State.faultRecordWritten_keeps {org s : State} (m : Nat) (h : Keeps org s) :
    Keeps org (State.faultRecordWritten s m) := by
  delta State.faultRecordWritten
  repeat' first
    | with_reducible assumption
    | with_reducible apply State.setBlob_keeps
    | with_reducible apply State.setN_keeps
    | with_reducible apply State.count_keeps
    | with_reducible apply State.raiseConverter_keeps
    | (extract_lets +onlyGivenNames letX; have letT : True := (by clear_value letX; guard_hyp letX : State; trivial); clear letT; refine Keeps.cut (r := org) (v := letX) ?_ (fun letH => ?_); (focus subst letX); rotate_left; clear_value letX; revert letX; intro _ _)
    | (extract_lets +onlyGivenNames letX; clear_value letX; revert letX; intro _)
    | with_reducible refine Keeps.ite ?_ ?_
    | with_reducible refine Keeps.iteP ?_ ?_

theorem State.convLatch_keeps {org s : State} (m cause : Nat) (h : Keeps org s) :
    Keeps org (State.convLatch s m cause) := by
  delta State.convLatch
  repeat' first
    | with_reducible assumption
    | with_reducible apply State.freezeRecord_keeps
    | with_reducible apply State.convLeave_keeps
    | with_reducible apply State.setN_keeps
    | with_reducible apply State.openShadow_keeps
    | with_reducible apply State.raiseConverter_keeps
    | (extract_lets +onlyGivenNames letX; have letT : True := (by clear_value letX; guard_hyp letX : State; trivial); clear letT; refine Keeps.cut (r := org) (v := letX) ?_ (fun letH => ?_); (focus subst letX); rotate_left; clear_value letX; revert letX; intro _ _)
    | with_reducible refine Keeps.ite ?_ ?_
    | with_reducible refine Keeps.iteP ?_ ?_

theorem State.hiccup_keeps {org s : State} (m : Nat) (h : Keeps org s) :
    Keeps org (State.hiccup s m) := by
  delta State.hiccup
  repeat' first
    | with_reducible assumption
    | with_reducible apply State.setN_keeps
    | with_reducible apply State.convLeave_keeps
    | with_reducible apply State.count_keeps
    | with_reducible apply State.raiseConverter_keeps
    | with_reducible apply State.convLatch_keeps
    | (extract_lets +onlyGivenNames letX; have letT : True := (by clear_value letX; guard_hyp letX : State; trivial); clear letT; refine Keeps.cut (r := org) (v := letX) ?_ (fun letH => ?_); (focus subst letX); rotate_left; clear_value letX; revert letX; intro _ _)
    | (extract_lets +onlyGivenNames letX; clear_value letX; revert letX; intro _)
    | with_reducible refine Keeps.ite ?_ ?_
    | with_reducible refine Keeps.iteP ?_ ?_

theorem State.limitCount_keeps {org s : State} (m : Nat) (atMax : Bool) (h : Keeps org s) :
    Keeps org (State.limitCount s m atMax) := by
  delta State.limitCount
  repeat' first
    | with_reducible assumption
    | with_reducible apply State.setN_keeps
    | with_reducible apply State.hiccup_keeps
    | (extract_lets +onlyGivenNames letX; have letT : True := (by clear_value letX; guard_hyp letX : State; trivial); clear letT; refine Keeps.cut (r := org) (v := letX) ?_ (fun letH => ?_); (focus subst letX); rotate_left; clear_value letX; revert letX; intro _ _)
    | (extract_lets +onlyGivenNames letX; clear_value letX; revert letX; intro _)
    | with_reducible refine Keeps.ite ?_ ?_
    | with_reducible refine Keeps.iteP ?_ ?_

theorem State.convStale_keeps {org s : State} (m : Nat) (h : Keeps org s) :
    Keeps org (State.convStale s m) := by
  delta State.convStale
  repeat' first
    | with_reducible assumption
    | with_reducible apply State.setConvFlag_keeps

theorem State.loopCycle_keeps {org s : State} (m : Nat) (samples : List Int) (h : Keeps org s) :
    Keeps org (State.loopCycle s m samples) := by
  delta State.loopCycle
  repeat' first
    | with_reducible assumption
    | with_reducible apply State.set_keeps
    | with_reducible apply State.setN_keeps
    | with_reducible apply State.voltageLoop_keeps
    | (extract_lets +onlyGivenNames letX; have letT : True := (by clear_value letX; guard_hyp letX : State; trivial); clear letT; refine Keeps.cut (r := org) (v := letX) ?_ (fun letH => ?_); (focus subst letX); rotate_left; clear_value letX; revert letX; intro _ _)
    | with_reducible refine Keeps.ite ?_ ?_
    | with_reducible refine Keeps.iteP ?_ ?_

theorem State.cycleFlags_keeps {org s : State} (m : Nat) (h : Keeps org s) :
    Keeps org (State.cycleFlags s m) := by
  delta State.cycleFlags
  repeat' first
    | with_reducible assumption
    | with_reducible apply State.setConvFlag_keeps
    | with_reducible apply State.setN_keeps
    | (extract_lets +onlyGivenNames letX; have letT : True := (by clear_value letX; guard_hyp letX : State; trivial); clear letT; refine Keeps.cut (r := org) (v := letX) ?_ (fun letH => ?_); (focus subst letX); rotate_left; clear_value letX; revert letX; intro _ _)
    | with_reducible refine Keeps.iteP ?_ ?_

theorem State.converterCycleEnd_keeps {org s : State} (m : Nat) (samples : List Int) (h : Keeps org s) :
    Keeps org (State.converterCycleEnd s m samples) := by
  delta State.converterCycleEnd
  repeat' first
    | with_reducible assumption
    | with_reducible apply State.outSamples_keeps
    | with_reducible apply State.convLatch_keeps
    | with_reducible apply State.moveReference_keeps
    | with_reducible apply State.convLower_keeps
    | with_reducible apply State.loopCycle_keeps
    | with_reducible apply State.cycleFlags_keeps
    | with_reducible apply State.convRing_keeps
    | with_reducible apply State.limitCount_keeps
    | (extract_lets +onlyGivenNames letX; have letT : True := (by clear_value letX; guard_hyp letX : State; trivial); clear letT; refine Keeps.cut (r := org) (v := letX) ?_ (fun letH => ?_); (focus subst letX); rotate_left; clear_value letX; revert letX; intro _ _)
    | (extract_lets +onlyGivenNames letX; clear_value letX; revert letX; intro _)
    | with_reducible refine Keeps.ite ?_ ?_
    | with_reducible refine Keeps.iteP ?_ ?_

theorem State.laneSample_keeps {org s : State} (l : Nat) (i : Int) (h : Keeps org s) :
    Keeps org (State.laneSample s l i) := by
  delta State.laneSample
  repeat' first
    | with_reducible assumption
    | with_reducible apply State.set_keeps
    | with_reducible apply State.setN_keeps
    | (extract_lets +onlyGivenNames letX; have letT : True := (by clear_value letX; guard_hyp letX : State; trivial); clear letT; refine Keeps.cut (r := org) (v := letX) ?_ (fun letH => ?_); (focus subst letX); rotate_left; clear_value letX; revert letX; intro _ _)
    | (extract_lets +onlyGivenNames letX; clear_value letX; revert letX; intro _)
    | with_reducible refine Keeps.iteP ?_ ?_

theorem State.lanePeriodEnd_keeps {org s : State} (l : Nat) (vcs vs : Int) (h : Keeps org s) :
    Keeps org (State.lanePeriodEnd s l vcs vs) := by
  delta State.lanePeriodEnd
  repeat' first
    | with_reducible assumption
    | with_reducible apply State.laneSample_keeps
    | with_reducible apply State.truncationEnds_keeps
    | with_reducible apply State.planEdges_keeps
    | with_reducible apply State.laneBegins_keeps
    | with_reducible apply State.currentLoop_keeps
    | with_reducible apply State.set_keeps
    | with_reducible apply State.laneParks_keeps
    | (extract_lets +onlyGivenNames letX; have letT : True := (by clear_value letX; guard_hyp letX : State; trivial); clear letT; refine Keeps.cut (r := org) (v := letX) ?_ (fun letH => ?_); (focus subst letX); rotate_left; clear_value letX; revert letX; intro _ _)
    | (extract_lets +onlyGivenNames letX; clear_value letX; revert letX; intro _)
    | with_reducible refine Keeps.ite ?_ ?_
    | with_reducible refine Keeps.iteP ?_ ?_

theorem State.truncate_keeps {org s : State} (m : Nat) (steps : List Nat) (h : Keeps org s) :
    Keeps org (State.truncate s m steps) := by
  delta State.truncate
  repeat' first
    | with_reducible assumption
    | with_reducible apply State.setConvFlag_keeps
    | with_reducible apply State.setN_keeps
    | with_reducible apply State.count_keeps
    | with_reducible apply State.laneCut_keeps
    | (extract_lets +onlyGivenNames letX; have letT : True := (by clear_value letX; guard_hyp letX : State; trivial); clear letT; refine Keeps.cut (r := org) (v := letX) ?_ (fun letH => ?_); (focus subst letX); rotate_left; clear_value letX; revert letX; intro _ _)
    | with_reducible refine Keeps.iteP ?_ ?_
    | with_reducible refine forEach_keeps ?_ (fun _ _ _ => ?_)

theorem State.truncationCrossing_keeps {org s : State} (m : Nat) (vs : Int) (steps : List Nat) (h : Keeps org s) :
    Keeps org (State.truncationCrossing s m vs steps) := by
  delta State.truncationCrossing
  repeat' first
    | with_reducible assumption
    | with_reducible apply State.truncate_keeps
    | with_reducible apply State.takeFreeIn_keeps
    | (extract_lets +onlyGivenNames letX; have letT : True := (by clear_value letX; revert letX; with_reducible exact Keeps.isPair); clear letT; refine Keeps.cut (r := org) (v := letX.2) ?_ (fun letH => ?_); (focus subst letX); rotate_left; clear_value letX; revert letX; intro _ _)
    | (extract_lets +onlyGivenNames letX; clear_value letX; revert letX; intro _)
    | with_reducible refine Keeps.ite ?_ ?_
    | with_reducible refine Keeps.iteP ?_ ?_

theorem State.truncationLatch_keeps {org s : State} (m : Nat) (h : Keeps org s) :
    Keeps org (State.truncationLatch s m) := by
  delta State.truncationLatch
  repeat' first
    | with_reducible assumption
    | with_reducible apply State.convLatch_keeps
    | (extract_lets +onlyGivenNames letX; clear_value letX; revert letX; intro _)
    | with_reducible refine Keeps.ite ?_ ?_
    | with_reducible refine Keeps.iteP ?_ ?_

theorem State.peakCut_keeps {org s : State} (l step : Nat) (vcs : Int) (h : Keeps org s) :
    Keeps org (State.peakCut s l step vcs) := by
  delta State.peakCut
  repeat' first
    | with_reducible assumption
    | with_reducible apply State.intervalCut_keeps
    | with_reducible apply State.laneCut_keeps
    | with_reducible apply State.count_keeps
    | with_reducible apply State.setN_keeps
    | with_reducible apply State.setBit_keeps
    | (extract_lets +onlyGivenNames letX; have letT : True := (by clear_value letX; guard_hyp letX : State; trivial); clear letT; refine Keeps.cut (r := org) (v := letX) ?_ (fun letH => ?_); (focus subst letX); rotate_left; clear_value letX; revert letX; intro _ _)
    | (extract_lets +onlyGivenNames letX; clear_value letX; revert letX; intro _)
    | with_reducible refine Keeps.ite ?_ ?_
    | with_reducible refine Keeps.iteP ?_ ?_

theorem State.hiccupResume_keeps {org s : State} (m : Nat) (samples off : List Int) (h : Keeps org s) :
    Keeps org (State.hiccupResume s m samples off) := by
  delta State.hiccupResume
  repeat' first
    | with_reducible assumption
    | with_reducible apply State.outSamples_keeps
    | with_reducible apply State.storeOffsets_keeps
    | with_reducible apply State.setN_keeps
    | with_reducible apply State.set_keeps
    | (extract_lets +onlyGivenNames letX; have letT : True := (by clear_value letX; guard_hyp letX : State; trivial); clear letT; refine Keeps.cut (r := org) (v := letX) ?_ (fun letH => ?_); (focus subst letX); rotate_left; clear_value letX; revert letX; intro _ _)
    | with_reducible refine Keeps.ite ?_ ?_
    | with_reducible refine Keeps.iteP ?_ ?_

theorem State.hiccupReset_keeps {org s : State} (m : Nat) (h : Keeps org s) :
    Keeps org (State.hiccupReset s m) := by
  delta State.hiccupReset
  repeat' first
    | with_reducible assumption
    | with_reducible apply State.setN_keeps
    | with_reducible refine Keeps.ite ?_ ?_

theorem State.shareImbalance_keeps {org s : State} (l : Nat) (h : Keeps org s) :
    Keeps org (State.shareImbalance s l) := by
  delta State.shareImbalance
  repeat' first
    | with_reducible assumption
    | with_reducible apply State.setN_keeps
    | with_reducible apply State.setConvFlag_keeps
    | with_reducible apply State.raise_keeps
    | (extract_lets +onlyGivenNames letX; clear_value letX; revert letX; intro _)
    | with_reducible refine Keeps.ite ?_ ?_
    | with_reducible refine Keeps.iteP ?_ ?_

theorem State.shareBoundary_keeps {org s : State} (l : Nat) (i r : Int) (h : Keeps org s) :
    Keeps org (State.shareBoundary s l i r) := by
  delta State.shareBoundary
  repeat' first
    | with_reducible assumption
    | with_reducible apply State.setN_keeps
    | with_reducible apply State.setConvFlag_keeps
    | (extract_lets +onlyGivenNames letX; have letT : True := (by clear_value letX; guard_hyp letX : State; trivial); clear letT; refine Keeps.cut (r := org) (v := letX) ?_ (fun letH => ?_); (focus subst letX); rotate_left; clear_value letX; revert letX; intro _ _)
    | (extract_lets +onlyGivenNames letX; clear_value letX; revert letX; intro _)
    | with_reducible refine Keeps.ite ?_ ?_
    | with_reducible refine Keeps.iteP ?_ ?_

theorem State.laneBoundary_keeps {org s : State} (l : Nat) (h : Keeps org s) :
    Keeps org (State.laneBoundary s l) := by
  delta State.laneBoundary
  repeat' first
    | with_reducible assumption
    | with_reducible apply State.set_keeps
    | with_reducible apply State.shareBoundary_keeps
    | with_reducible apply State.setN_keeps
    | split

theorem State.convBoundary_keeps {org s : State} (m : Nat) (h : Keeps org s) :
    Keeps org (State.convBoundary s m) := by
  delta State.convBoundary
  repeat' first
    | with_reducible assumption
    | with_reducible apply State.set_keeps
    | with_reducible apply State.convStale_keeps
    | (extract_lets +onlyGivenNames letX; have letT : True := (by clear_value letX; guard_hyp letX : State; trivial); clear letT; refine Keeps.cut (r := org) (v := letX) ?_ (fun letH => ?_); (focus subst letX); rotate_left; clear_value letX; revert letX; intro _ _)
    | (extract_lets +onlyGivenNames letX; clear_value letX; revert letX; intro _)
    | with_reducible refine Keeps.ite ?_ ?_
    | with_reducible refine Keeps.iteP ?_ ?_

theorem State.convertersBoundary_keeps {org s : State} (h : Keeps org s) :
    Keeps org (State.convertersBoundary s) := by
  delta State.convertersBoundary
  repeat' first
    | with_reducible assumption
    | with_reducible apply State.convBoundary_keeps
    | with_reducible apply State.laneBoundary_keeps
    | with_reducible apply State.set_keeps
    | with_reducible apply State.setN_keeps
    | (extract_lets +onlyGivenNames letX; have letT : True := (by clear_value letX; guard_hyp letX : State; trivial); clear letT; refine Keeps.cut (r := org) (v := letX) ?_ (fun letH => ?_); (focus subst letX); rotate_left; clear_value letX; revert letX; intro _ _)
    | (extract_lets +onlyGivenNames letX; clear_value letX; revert letX; intro _)
    | with_reducible refine Keeps.iteP ?_ ?_
    | with_reducible refine forBelow_keeps ?_ (fun _ _ _ => ?_)

theorem State.convHouseStop_keeps {org s : State} (kind site : Nat) (h : Keeps org s) :
    Keeps org (State.convHouseStop s kind site) := by
  delta State.convHouseStop
  repeat' first
    | with_reducible assumption
    | with_reducible apply State.setN_keeps
    | with_reducible apply State.freezeRecord_keeps
    | with_reducible apply State.convLeave_keeps
    | (extract_lets +onlyGivenNames letX; have letT : True := (by clear_value letX; guard_hyp letX : State; trivial); clear letT; refine Keeps.cut (r := org) (v := letX) ?_ (fun letH => ?_); (focus subst letX); rotate_left; clear_value letX; revert letX; intro _ _)
    | with_reducible refine Keeps.ite ?_ ?_
    | with_reducible refine Keeps.iteP ?_ ?_
    | with_reducible refine forBelow_keeps ?_ (fun _ _ _ => ?_)

theorem execConverterStartCheck_runs {org s : State} (m : Conv) (samples offsets : List Int) (h : Keeps org s) :
    Runs org (execConverterStartCheck m samples offsets s) := by
  delta execConverterStartCheck
  repeat' first
    | with_reducible assumption
    | with_reducible refine Runs.next ?_
    | with_reducible apply State.converterStartCheck_keeps
    | with_reducible refine Runs.ite ?_ ?_

theorem execConverterCycleEnd_runs {org s : State} (m : Conv) (samples : List Int) (h : Keeps org s) :
    Runs org (execConverterCycleEnd m samples s) := by
  delta execConverterCycleEnd
  repeat' first
    | with_reducible assumption
    | with_reducible refine Runs.next ?_
    | with_reducible apply State.converterCycleEnd_keeps
    | with_reducible refine Runs.ite ?_ ?_

theorem execLanePeriodEnd_runs {org s : State} (l : Lane) (vcs vs : Int) (h : Keeps org s) :
    Runs org (execLanePeriodEnd l vcs vs s) := by
  delta execLanePeriodEnd
  repeat' first
    | with_reducible assumption
    | with_reducible refine Runs.next ?_
    | with_reducible apply State.lanePeriodEnd_keeps
    | with_reducible refine Runs.ite ?_ ?_

theorem execShareImbalance_runs {org s : State} (l : Lane) (h : Keeps org s) :
    Runs org (execShareImbalance l s) := by
  delta execShareImbalance
  repeat' first
    | with_reducible assumption
    | with_reducible refine Runs.next ?_
    | with_reducible apply State.shareImbalance_keeps
    | with_reducible refine Runs.ite ?_ ?_

theorem execTruncationCrossing_runs {org s : State} (m : Conv) (vs : Int := 0) (steps : List Nat := List.replicate 16 0) (h : Keeps org s) :
    Runs org (execTruncationCrossing m s vs steps) := by
  delta execTruncationCrossing
  repeat' first
    | with_reducible assumption
    | with_reducible refine Runs.next ?_
    | with_reducible apply State.truncationCrossing_keeps
    | with_reducible refine Runs.ite ?_ ?_

theorem execTruncationLatch_runs {org s : State} (m : Conv) (h : Keeps org s) :
    Runs org (execTruncationLatch m s) := by
  delta execTruncationLatch
  repeat' first
    | with_reducible assumption
    | with_reducible refine Runs.next ?_
    | with_reducible apply State.truncationLatch_keeps
    | with_reducible refine Runs.ite ?_ ?_

theorem execPeakCut_runs {org s : State} (l : Lane) (step : Nat) (vcs : Int := 0) (h : Keeps org s) :
    Runs org (execPeakCut l step s vcs) := by
  delta execPeakCut
  repeat' first
    | with_reducible assumption
    | with_reducible refine Runs.next ?_
    | with_reducible apply State.peakCut_keeps
    | with_reducible refine Runs.ite ?_ ?_

theorem execHiccupResume_runs {org s : State} (m : Conv) (samples offsets : List Int) (h : Keeps org s) :
    Runs org (execHiccupResume m samples offsets s) := by
  delta execHiccupResume
  repeat' first
    | with_reducible assumption
    | with_reducible refine Runs.next ?_
    | with_reducible apply State.hiccupResume_keeps
    | with_reducible refine Runs.ite ?_ ?_

theorem execHiccupResetTime_runs {org s : State} (m : Conv) (h : Keeps org s) :
    Runs org (execHiccupResetTime m s) := by
  delta execHiccupResetTime
  repeat' first
    | with_reducible assumption
    | with_reducible refine Runs.next ?_
    | with_reducible apply State.hiccupReset_keeps
    | with_reducible refine Runs.ite ?_ ?_

theorem execFaultRecordWritten_runs {org s : State} (m : Conv) (h : Keeps org s) :
    Runs org (execFaultRecordWritten m s) := by
  delta execFaultRecordWritten
  repeat' first
    | with_reducible assumption
    | with_reducible refine Runs.next ?_
    | with_reducible apply State.faultRecordWritten_keeps
    | with_reducible refine Runs.ite ?_ ?_

theorem execConverterUndervoltage_runs {org s : State} (m : Conv) (units : List (List Int)) (h : Keeps org s) :
    Runs org (execConverterUndervoltage m units s) := by
  delta execConverterUndervoltage
  repeat' first
    | with_reducible assumption
    | with_reducible refine Runs.next ?_
    | with_reducible apply State.converterUndervoltage_keeps
    | with_reducible refine Runs.ite ?_ ?_

theorem execConverterOvervoltage_runs {org s : State} (m : Conv) (units : List (List Int)) (h : Keeps org s) :
    Runs org (execConverterOvervoltage m units s) := by
  delta execConverterOvervoltage
  repeat' first
    | with_reducible assumption
    | with_reducible refine Runs.next ?_
    | with_reducible apply State.converterOvervoltage_keeps
    | with_reducible refine Runs.ite ?_ ?_

theorem execConverterUnderCleared_runs {org s : State} (m : Conv) (units : List (List Int)) (h : Keeps org s) :
    Runs org (execConverterUnderCleared m units s) := by
  delta execConverterUnderCleared
  repeat' first
    | with_reducible assumption
    | with_reducible refine Runs.next ?_
    | with_reducible apply State.converterUnderCleared_keeps
    | with_reducible refine Runs.ite ?_ ?_

theorem execConverterOverCleared_runs {org s : State} (m : Conv) (units : List (List Int)) (h : Keeps org s) :
    Runs org (execConverterOverCleared m units s) := by
  delta execConverterOverCleared
  repeat' first
    | with_reducible assumption
    | with_reducible refine Runs.next ?_
    | with_reducible apply State.converterOverCleared_keeps
    | with_reducible refine Runs.ite ?_ ?_

theorem State.setRtcFlag_keeps {org s : State} (b : Nat) (on : Bool) (h : Keeps org s) :
    Keeps org (State.setRtcFlag s b on) := by
  delta State.setRtcFlag
  repeat' first
    | with_reducible assumption
    | with_reducible apply State.setBit_keeps

theorem State.keepCopies_keeps {org s : State} (h : Keeps org s) :
    Keeps org (State.keepCopies s) := by
  delta State.keepCopies
  repeat' first
    | with_reducible assumption
    | with_reducible apply State.set_keeps
    | with_reducible apply State.setN_keeps
    | (extract_lets +onlyGivenNames letX; have letT : True := (by clear_value letX; guard_hyp letX : State; trivial); clear letT; refine Keeps.cut (r := org) (v := letX) ?_ (fun letH => ?_); (focus subst letX); rotate_left; clear_value letX; revert letX; intro _ _)
    | (extract_lets +onlyGivenNames letX; clear_value letX; revert letX; intro _)
    | with_reducible refine Keeps.ite ?_ ?_
    | with_reducible refine Keeps.iteP ?_ ?_

theorem State.rebase_keeps {org s : State} (h : Keeps org s) :
    Keeps org (State.rebase s) := by
  delta State.rebase
  repeat' first
    | with_reducible assumption
    | with_reducible apply State.setN_keeps
    | (extract_lets +onlyGivenNames letX; clear_value letX; revert letX; intro _)

theorem State.loadTick_keeps {org s : State} (c : Nat) (h : Keeps org s) :
    Keeps org (State.loadTick s c) := by
  delta State.loadTick
  repeat' first
    | with_reducible assumption
    | with_reducible apply State.set_keeps
    | with_reducible apply State.setN_keeps

theorem State.oscStops_keeps {org s : State} (h : Keeps org s) :
    Keeps org (State.oscStops s) := by
  delta State.oscStops
  repeat' first
    | with_reducible assumption
    | with_reducible apply State.setN_keeps
    | with_reducible apply State.setRtcFlag_keeps
    | with_reducible apply State.raise_keeps
    | with_reducible apply State.rebase_keeps
    | (extract_lets +onlyGivenNames letX; have letT : True := (by clear_value letX; guard_hyp letX : State; trivial); clear letT; refine Keeps.cut (r := org) (v := letX) ?_ (fun letH => ?_); (focus subst letX); rotate_left; clear_value letX; revert letX; intro _ _)
    | with_reducible refine Keeps.ite ?_ ?_
    | with_reducible refine Keeps.iteP ?_ ?_

theorem State.oscRestarts_keeps {org s : State} (h : Keeps org s) :
    Keeps org (State.oscRestarts s) := by
  delta State.oscRestarts
  repeat' first
    | with_reducible assumption
    | with_reducible apply State.setN_keeps
    | with_reducible refine Keeps.ite ?_ ?_

theorem State.pon_keeps {org s : State} (on : Bool) (cause : Nat) (h : Keeps org s) :
    Keeps org (State.pon s on cause) := by
  delta State.pon
  repeat' first
    | with_reducible assumption
    | with_reducible apply State.setFlag_keeps
    | with_reducible apply State.setN_keeps
    | with_reducible apply State.count_keeps
    | with_reducible apply State.raise_keeps
    | (extract_lets +onlyGivenNames letX; have letT : True := (by clear_value letX; guard_hyp letX : State; trivial); clear letT; refine Keeps.cut (r := org) (v := letX) ?_ (fun letH => ?_); (focus subst letX); rotate_left; clear_value letX; revert letX; intro _ _)
    | with_reducible refine Keeps.ite ?_ ?_
    | with_reducible refine Keeps.iteP ?_ ?_

theorem State.ponCommand_keeps {org s : State} (on : Bool) (h : Keeps org s) :
    Keeps org (State.ponCommand s on) := by
  delta State.ponCommand
  repeat' first
    | with_reducible assumption
    | with_reducible apply State.pon_keeps
    | with_reducible refine Keeps.ite ?_ ?_

theorem State.parkAbort_keeps {org s : State} (causes : Nat) (h : Keeps org s) :
    Keeps org (State.parkAbort s causes) := by
  delta State.parkAbort
  repeat' first
    | with_reducible assumption
    | with_reducible apply State.setN_keeps
    | with_reducible apply State.count_keeps
    | with_reducible apply State.raise_keeps
    | (extract_lets +onlyGivenNames letX; have letT : True := (by clear_value letX; guard_hyp letX : State; trivial); clear letT; refine Keeps.cut (r := org) (v := letX) ?_ (fun letH => ?_); (focus subst letX); rotate_left; clear_value letX; revert letX; intro _ _)

theorem State.wakeBy_keeps {org s : State} (b : Nat) (h : Keeps org s) :
    Keeps org (State.wakeBy s b) := by
  delta State.wakeBy
  repeat' first
    | with_reducible assumption
    | with_reducible apply State.parkAbort_keeps
    | with_reducible apply State.setBit_keeps
    | with_reducible refine Keeps.ite ?_ ?_

theorem State.latchSet_keeps {org s : State} (b : Nat) (h : Keeps org s) :
    Keeps org (State.latchSet s b) := by
  delta State.latchSet
  repeat' first
    | with_reducible assumption
    | with_reducible apply State.setBit_keeps
    | with_reducible apply State.pon_keeps
    | with_reducible apply State.raise_keeps
    | with_reducible apply State.wakeBy_keeps
    | (extract_lets +onlyGivenNames letX; have letT : True := (by clear_value letX; guard_hyp letX : State; trivial); clear letT; refine Keeps.cut (r := org) (v := letX) ?_ (fun letH => ?_); (focus subst letX); rotate_left; clear_value letX; revert letX; intro _ _)
    | with_reducible refine Keeps.ite ?_ ?_
    | with_reducible refine Keeps.iteP ?_ ?_

theorem State.senseLevels_keeps {org s : State} (h : Keeps org s) :
    Keeps org (State.senseLevels s) := by
  delta State.senseLevels
  repeat' first
    | with_reducible assumption
    | with_reducible apply State.latchSet_keeps
    | with_reducible refine Keeps.ite ?_ ?_
    | with_reducible refine forBelow_keeps ?_ (fun _ _ _ => ?_)

theorem State.wakeInput_keeps {org s : State} (i : Nat) (high : Bool) (us : Nat) (h : Keeps org s) :
    Keeps org (State.wakeInput s i high us) := by
  delta State.wakeInput
  repeat' first
    | with_reducible assumption
    | with_reducible apply State.setBit_keeps
    | with_reducible apply State.setN_keeps
    | with_reducible apply State.latchSet_keeps
    | (extract_lets +onlyGivenNames letX; have letT : True := (by clear_value letX; guard_hyp letX : State; trivial); clear letT; refine Keeps.cut (r := org) (v := letX) ?_ (fun letH => ?_); (focus subst letX); rotate_left; clear_value letX; revert letX; intro _ _)
    | (extract_lets +onlyGivenNames letX; clear_value letX; revert letX; intro _)
    | with_reducible refine Keeps.ite ?_ ?_
    | with_reducible refine Keeps.iteP ?_ ?_

theorem State.wakeClear_keeps {org s : State} (mask : Nat) (h : Keeps org s) :
    Keeps org (State.wakeClear s mask) := by
  delta State.wakeClear
  repeat' first
    | with_reducible assumption
    | with_reducible apply State.setBit_keeps
    | with_reducible apply State.senseLevels_keeps
    | with_reducible refine Keeps.ite ?_ ?_
    | with_reducible refine forBelow_keeps ?_ (fun _ _ _ => ?_)

theorem State.alarmFires_keeps {org s : State} (h : Keeps org s) :
    Keeps org (State.alarmFires s) := by
  delta State.alarmFires
  repeat' first
    | with_reducible assumption
    | with_reducible apply State.setN_keeps
    | with_reducible apply State.count_keeps
    | with_reducible apply State.latchSet_keeps
    | with_reducible apply State.wakeBy_keeps
    | with_reducible apply State.pon_keeps
    | with_reducible apply State.raise_keeps
    | (extract_lets +onlyGivenNames letX; have letT : True := (by clear_value letX; guard_hyp letX : State; trivial); clear letT; refine Keeps.cut (r := org) (v := letX) ?_ (fun letH => ?_); (focus subst letX); rotate_left; clear_value letX; revert letX; intro _ _)
    | (extract_lets +onlyGivenNames letX; clear_value letX; revert letX; intro _)
    | with_reducible refine Keeps.ite ?_ ?_
    | with_reducible refine Keeps.iteP ?_ ?_

theorem State.alarmCheck_keeps {org s : State} (h : Keeps org s) :
    Keeps org (State.alarmCheck s) := by
  delta State.alarmCheck
  repeat' first
    | with_reducible assumption
    | with_reducible apply State.alarmFires_keeps
    | with_reducible refine Keeps.ite ?_ ?_

theorem State.alarmSet_keeps {org s : State} (v : Nat) (h : Keeps org s) :
    Keeps org (State.alarmSet s v) := by
  delta State.alarmSet
  repeat' first
    | with_reducible assumption
    | with_reducible apply State.setN_keeps
    | with_reducible refine Keeps.ite ?_ ?_

theorem State.setClock_keeps {org s : State} (count source : Nat) (h : Keeps org s) :
    Keeps org (State.setClock s count source) := by
  delta State.setClock
  repeat' first
    | with_reducible assumption
    | with_reducible apply State.setN_keeps
    | with_reducible apply State.count_keeps
    | with_reducible apply State.setRtcFlag_keeps
    | with_reducible apply State.raise_keeps
    | with_reducible apply State.alarmCheck_keeps
    | with_reducible apply State.rebase_keeps
    | (extract_lets +onlyGivenNames letX; have letT : True := (by clear_value letX; guard_hyp letX : State; trivial); clear letT; refine Keeps.cut (r := org) (v := letX) ?_ (fun letH => ?_); (focus subst letX); rotate_left; clear_value letX; revert letX; intro _ _)

theorem State.setTrim_keeps {org s : State} (v : Int) (h : Keeps org s) :
    Keeps org (State.setTrim s v) := by
  delta State.setTrim
  repeat' first
    | with_reducible assumption
    | with_reducible apply State.set_keeps
    | with_reducible apply State.rebase_keeps

theorem State.lowBackup_keeps {org s : State} (h : Keeps org s) :
    Keeps org (State.lowBackup s) := by
  delta State.lowBackup
  repeat' first
    | with_reducible assumption
    | with_reducible apply State.setRtcFlag_keeps

theorem State.cellLow_keeps {org s : State} (vbk : Int) (us : Nat) (h : Keeps org s) :
    Keeps org (State.cellLow s vbk us) := by
  delta State.cellLow
  repeat' first
    | with_reducible assumption
    | with_reducible apply State.set_keeps
    | with_reducible apply State.lowBackup_keeps
    | with_reducible apply State.setFree_keeps
    | with_reducible apply State.setN_keeps
    | with_reducible apply State.setRtcFlag_keeps
    | with_reducible apply State.raise_keeps
    | with_reducible apply State.rebase_keeps
    | (extract_lets +onlyGivenNames letX; have letT : True := (by clear_value letX; guard_hyp letX : State; trivial); clear letT; refine Keeps.cut (r := org) (v := letX) ?_ (fun letH => ?_); (focus subst letX); rotate_left; clear_value letX; revert letX; intro _ _)
    | with_reducible refine Keeps.ite ?_ ?_
    | with_reducible refine Keeps.iteP ?_ ?_

theorem State.backupStarts_keeps {org s : State} (h : Keeps org s) :
    Keeps org (State.backupStarts s) := by
  delta State.backupStarts
  repeat' first
    | with_reducible assumption
    | with_reducible apply State.setFree_keeps
    | with_reducible apply State.setN_keeps
    | with_reducible apply State.set_keeps
    | with_reducible apply State.setRtcFlag_keeps
    | with_reducible apply State.pon_keeps
    | with_reducible apply State.rebase_keeps
    | with_reducible apply State.lowBackup_keeps
    | (extract_lets +onlyGivenNames letX; have letT : True := (by clear_value letX; guard_hyp letX : State; trivial); clear letT; refine Keeps.cut (r := org) (v := letX) ?_ (fun letH => ?_); (focus subst letX); rotate_left; clear_value letX; revert letX; intro _ _)

theorem State.vbkReturns_keeps {org s : State} (vbk : Int) (fromNothing : Bool) (h : Keeps org s) :
    Keeps org (State.vbkReturns s vbk fromNothing) := by
  delta State.vbkReturns
  repeat' first
    | with_reducible assumption
    | with_reducible apply State.set_keeps
    | with_reducible apply State.setN_keeps
    | with_reducible apply State.backupStarts_keeps
    | with_reducible apply State.setRtcFlag_keeps
    | (extract_lets +onlyGivenNames letX; have letT : True := (by clear_value letX; guard_hyp letX : State; trivial); clear letT; refine Keeps.cut (r := org) (v := letX) ?_ (fun letH => ?_); (focus subst letX); rotate_left; clear_value letX; revert letX; intro _ _)
    | with_reducible refine Keeps.ite ?_ ?_
    | with_reducible refine Keeps.iteP ?_ ?_

theorem execAlarmFired_runs {org s : State} (h : Keeps org s) :
    Runs org (execAlarmFired s) := by
  delta execAlarmFired
  repeat' first
    | with_reducible assumption
    | with_reducible refine Runs.next ?_
    | with_reducible apply State.alarmCheck_keeps
    | with_reducible refine Runs.ite ?_ ?_

theorem execRtcOscStopped_runs {org s : State} (h : Keeps org s) :
    Runs org (execRtcOscStopped s) := by
  delta execRtcOscStopped
  repeat' first
    | with_reducible assumption
    | with_reducible refine Runs.next ?_
    | with_reducible apply State.oscStops_keeps
    | with_reducible refine Runs.ite ?_ ?_

theorem execRtcOscRestart_runs {org s : State} (h : Keeps org s) :
    Runs org (execRtcOscRestart s) := by
  delta execRtcOscRestart
  repeat' first
    | with_reducible assumption
    | with_reducible refine Runs.next ?_
    | with_reducible apply State.oscRestarts_keeps
    | with_reducible refine Runs.ite ?_ ?_

theorem execBackupCellLow_runs {org s : State} (vbk : Int) (us : Nat) (h : Keeps org s) :
    Runs org (execBackupCellLow vbk us s) := by
  delta execBackupCellLow
  repeat' first
    | with_reducible assumption
    | with_reducible refine Runs.next ?_
    | with_reducible apply State.cellLow_keeps
    | with_reducible refine Runs.ite ?_ ?_

theorem execVbkLowClear_runs {org s : State} (vbk : Int) (fromNothing : Bool) (h : Keeps org s) :
    Runs org (execVbkLowClear vbk fromNothing s) := by
  delta execVbkLowClear
  repeat' first
    | with_reducible assumption
    | with_reducible refine Runs.next ?_
    | with_reducible apply State.vbkReturns_keeps
    | with_reducible refine Runs.ite ?_ ?_

theorem execBackupSwitchover_runs {org s : State} (vh : Int) (h : Keeps org s) :
    Runs org (execBackupSwitchover vh s) := by
  delta execBackupSwitchover
  repeat' first
    | with_reducible assumption
    | with_reducible refine Runs.next ?_
    | with_reducible apply State.setFlag_keeps
    | with_reducible refine Runs.ite ?_ ?_

theorem execWakeLatchSet_runs {org s : State} (i : Fin 8) (high : Bool) (us : Nat) (h : Keeps org s) :
    Runs org (execWakeLatchSet i high us s) := by
  delta execWakeLatchSet
  repeat' first
    | with_reducible assumption
    | with_reducible refine Runs.next ?_
    | with_reducible apply State.wakeInput_keeps
    | with_reducible refine Runs.ite ?_ ?_

theorem State.raiseSwitch_keeps {org s : State} (k : Kind) (fields : List (Nat × Int)) (h : Keeps org s) :
    Keeps org (State.raiseSwitch s k fields) := by
  delta State.raiseSwitch
  repeat' first
    | with_reducible assumption
    | with_reducible apply State.raiseDie_keeps

theorem State.swTo_keeps {org s : State} (mode cause : Nat) (h : Keeps org s) :
    Keeps org (State.swTo s mode cause) := by
  delta State.swTo
  repeat' first
    | with_reducible assumption
    | with_reducible apply State.setN_keeps
    | with_reducible apply State.raiseSwitch_keeps
    | (extract_lets +onlyGivenNames letX; have letT : True := (by clear_value letX; guard_hyp letX : State; trivial); clear letT; refine Keeps.cut (r := org) (v := letX) ?_ (fun letH => ?_); (focus subst letX); rotate_left; clear_value letX; revert letX; intro _ _)
    | (extract_lets +onlyGivenNames letX; clear_value letX; revert letX; intro _)
    | with_reducible refine Keeps.ite ?_ ?_
    | with_reducible refine Keeps.iteP ?_ ?_

theorem State.swWrite_keeps {org s : State} (v : Nat) (h : Keeps org s) :
    Keeps org (State.swWrite s v) := by
  delta State.swWrite
  repeat' first
    | with_reducible assumption
    | with_reducible apply State.setN_keeps
    | with_reducible apply State.swTo_keeps
    | (extract_lets +onlyGivenNames letX; have letT : True := (by clear_value letX; guard_hyp letX : State; trivial); clear letT; refine Keeps.cut (r := org) (v := letX) ?_ (fun letH => ?_); (focus subst letX); rotate_left; clear_value letX; revert letX; intro _ _)
    | with_reducible refine Keeps.ite ?_ ?_
    | with_reducible refine Keeps.iteP ?_ ?_
    | split

theorem State.swNoClosed_keeps {org s : State} (h : Keeps org s) :
    Keeps org (State.swNoClosed s) := by
  delta State.swNoClosed
  repeat' first
    | with_reducible assumption
    | with_reducible apply State.swTo_keeps
    | with_reducible refine Keeps.ite ?_ ?_

theorem State.swRelease_keeps {org s : State} (h : Keeps org s) :
    Keeps org (State.swRelease s) := by
  delta State.swRelease
  repeat' first
    | with_reducible assumption
    | with_reducible apply State.setN_keeps
    | with_reducible apply State.swTo_keeps
    | with_reducible refine Keeps.ite ?_ ?_

theorem State.swClose_keeps {org s : State} (diff : Int) (h : Keeps org s) :
    Keeps org (State.swClose s diff) := by
  delta State.swClose
  repeat' first
    | with_reducible assumption
    | with_reducible apply State.swTo_keeps
    | with_reducible refine Keeps.ite ?_ ?_

theorem State.swDeferred_keeps {org s : State} (diff : Int) (h : Keeps org s) :
    Keeps org (State.swDeferred s diff) := by
  delta State.swDeferred
  repeat' first
    | with_reducible assumption
    | with_reducible apply State.setN_keeps
    | with_reducible apply State.raiseSwitch_keeps
    | with_reducible refine Keeps.ite ?_ ?_

theorem State.swReverse_keeps {org s : State} (excess : Int) (h : Keeps org s) :
    Keeps org (State.swReverse s excess) := by
  delta State.swReverse
  repeat' first
    | with_reducible assumption
    | with_reducible apply State.setN_keeps
    | with_reducible apply State.setFree_keeps
    | with_reducible refine Keeps.ite ?_ ?_

theorem State.swShort_keeps {org s : State} (diff : Int) (us : Nat) (h : Keeps org s) :
    Keeps org (State.swShort s diff us) := by
  delta State.swShort
  repeat' first
    | with_reducible assumption
    | with_reducible apply State.swTo_keeps
    | with_reducible apply State.setN_keeps
    | with_reducible apply State.openShadow_keeps
    | with_reducible apply State.count_keeps
    | with_reducible apply State.raiseSwitch_keeps
    | (extract_lets +onlyGivenNames letX; have letT : True := (by clear_value letX; guard_hyp letX : State; trivial); clear letT; refine Keeps.cut (r := org) (v := letX) ?_ (fun letH => ?_); (focus subst letX); rotate_left; clear_value letX; revert letX; intro _ _)
    | (extract_lets +onlyGivenNames letX; clear_value letX; revert letX; intro _)
    | with_reducible refine Keeps.ite ?_ ?_
    | with_reducible refine Keeps.iteP ?_ ?_

theorem State.swCutoff_keeps {org s : State} (bswb : Int) (us : Nat) (h : Keeps org s) :
    Keeps org (State.swCutoff s bswb us) := by
  delta State.swCutoff
  repeat' first
    | with_reducible assumption
    | with_reducible apply State.swTo_keeps
    | with_reducible apply State.openShadow_keeps
    | with_reducible apply State.raiseSwitch_keeps
    | (extract_lets +onlyGivenNames letX; clear_value letX; revert letX; intro _)
    | with_reducible refine Keeps.ite ?_ ?_
    | with_reducible refine Keeps.iteP ?_ ?_

theorem State.swChargeDrop_keeps {org s : State} (samples : List Int) (h : Keeps org s) :
    Keeps org (State.swChargeDrop s samples) := by
  delta State.swChargeDrop
  repeat' first
    | with_reducible assumption
    | with_reducible apply State.setN_keeps
    | with_reducible apply State.land_keeps
    | with_reducible apply State.raiseSwitch_keeps
    | (extract_lets +onlyGivenNames letX; have letT : True := (by clear_value letX; guard_hyp letX : State; trivial); clear letT; refine Keeps.cut (r := org) (v := letX) ?_ (fun letH => ?_); (focus subst letX); rotate_left; clear_value letX; revert letX; intro _ _)
    | (extract_lets +onlyGivenNames letX; clear_value letX; revert letX; intro _)
    | with_reducible refine Keeps.ite ?_ ?_
    | with_reducible refine Keeps.iteP ?_ ?_

theorem State.swPowerUp_keeps {org s : State} (h : Keeps org s) :
    Keeps org (State.swPowerUp s) := by
  delta State.swPowerUp
  repeat' first
    | with_reducible assumption
    | with_reducible apply State.setN_keeps
    | with_reducible apply State.swTo_keeps
    | with_reducible refine Keeps.ite ?_ ?_

theorem State.swPowerLoss_keeps {org s : State} (h : Keeps org s) :
    Keeps org (State.swPowerLoss s) := by
  delta State.swPowerLoss
  repeat' first
    | with_reducible assumption
    | with_reducible apply State.swTo_keeps
    | with_reducible apply State.setN_keeps
    | with_reducible refine Keeps.ite ?_ ?_

theorem State.swRound_keeps {org s : State} (bswb bswn : Int) (h : Keeps org s) :
    Keeps org (State.swRound s bswb bswn) := by
  delta State.swRound
  repeat' first
    | with_reducible assumption
    | with_reducible apply State.setN_keeps
    | with_reducible apply State.setFlag_keeps
    | (extract_lets +onlyGivenNames letX; have letT : True := (by clear_value letX; guard_hyp letX : State; trivial); clear letT; refine Keeps.cut (r := org) (v := letX) ?_ (fun letH => ?_); (focus subst letX); rotate_left; clear_value letX; revert letX; intro _ _)
    | with_reducible refine Keeps.ite ?_ ?_
    | with_reducible refine Keeps.iteP ?_ ?_

theorem State.raiseCharger_keeps {org s : State} (k : Kind) (fields : List (Nat × Int)) (h : Keeps org s) :
    Keeps org (State.raiseCharger s k fields) := by
  delta State.raiseCharger
  repeat' first
    | with_reducible assumption
    | with_reducible apply State.raise_keeps

theorem State.chClamps_keeps {org s : State} (i : Int) (h : Keeps org s) :
    Keeps org (State.chClamps s i) := by
  delta State.chClamps
  repeat' first
    | with_reducible assumption
    | with_reducible apply State.overrides_keeps

theorem State.chStage_keeps {org s : State} (stage : Nat) (i : Int) (h : Keeps org s) :
    Keeps org (State.chStage s stage i) := by
  delta State.chStage
  repeat' first
    | with_reducible assumption
    | with_reducible apply State.setN_keeps
    | with_reducible apply State.stage_keeps
    | with_reducible apply State.chClamps_keeps

theorem State.chPulse_keeps {org s : State} (i : Int) (ms : Nat) (h : Keeps org s) :
    Keeps org (State.chPulse s i ms) := by
  delta State.chPulse
  repeat' first
    | with_reducible assumption
    | with_reducible apply State.setN_keeps
    | with_reducible apply State.wrapCount_keeps
    | with_reducible apply State.chStage_keeps

theorem State.chEnter_keeps {org s : State} (p : Nat) (h : Keeps org s) :
    Keeps org (State.chEnter s p) := by
  delta State.chEnter
  repeat' first
    | with_reducible assumption
    | with_reducible apply State.setN_keeps
    | with_reducible apply State.raiseCharger_keeps
    | (extract_lets +onlyGivenNames letX; have letT : True := (by clear_value letX; guard_hyp letX : State; trivial); clear letT; refine Keeps.cut (r := org) (v := letX) ?_ (fun letH => ?_); (focus subst letX); rotate_left; clear_value letX; revert letX; intro _ _)
    | (extract_lets +onlyGivenNames letX; clear_value letX; revert letX; intro _)
    | with_reducible refine Keeps.ite ?_ ?_
    | with_reducible refine Keeps.iteP ?_ ?_

theorem State.chFault_keeps {org s : State} (cause : Nat) (h : Keeps org s) :
    Keeps org (State.chFault s cause) := by
  delta State.chFault
  repeat' first
    | with_reducible assumption
    | with_reducible apply State.setN_keeps
    | with_reducible apply State.raiseCharger_keeps
    | with_reducible apply State.chEnter_keeps
    | with_reducible apply State.chStage_keeps
    | (extract_lets +onlyGivenNames letX; have letT : True := (by clear_value letX; guard_hyp letX : State; trivial); clear letT; refine Keeps.cut (r := org) (v := letX) ?_ (fun letH => ?_); (focus subst letX); rotate_left; clear_value letX; revert letX; intro _ _)

theorem State.chQualify_keeps {org s : State} (h : Keeps org s) :
    Keeps org (State.chQualify s) := by
  delta State.chQualify
  repeat' first
    | with_reducible assumption
    | with_reducible apply State.setN_keeps
    | with_reducible apply State.chEnter_keeps
    | with_reducible apply State.chStage_keeps

theorem State.chEnable_keeps {org s : State} (v : Nat) (h : Keeps org s) :
    Keeps org (State.chEnable s v) := by
  delta State.chEnable
  repeat' first
    | with_reducible assumption
    | with_reducible apply State.setN_keeps
    | with_reducible apply State.chEnter_keeps
    | with_reducible apply State.chClamps_keeps
    | with_reducible apply State.chQualify_keeps
    | with_reducible apply State.chFault_keeps
    | (extract_lets +onlyGivenNames letX; have letT : True := (by clear_value letX; guard_hyp letX : State; trivial); clear letT; refine Keeps.cut (r := org) (v := letX) ?_ (fun letH => ?_); (focus subst letX); rotate_left; clear_value letX; revert letX; intro _ _)
    | with_reducible refine Keeps.ite ?_ ?_
    | with_reducible refine Keeps.iteP ?_ ?_

theorem State.chTaper_keeps {org s : State} (t : Nat) (v : Int) (h : Keeps org s) :
    Keeps org (State.chTaper s t v) := by
  delta State.chTaper
  repeat' first
    | with_reducible assumption
    | with_reducible apply State.set_keeps
    | with_reducible apply State.setFree_keeps
    | with_reducible apply State.chPulse_keeps
    | (extract_lets +onlyGivenNames letX; have letT : True := (by clear_value letX; guard_hyp letX : State; trivial); clear letT; refine Keeps.cut (r := org) (v := letX) ?_ (fun letH => ?_); (focus subst letX); rotate_left; clear_value letX; revert letX; intro _ _)
    | (extract_lets +onlyGivenNames letX; clear_value letX; revert letX; intro _)
    | with_reducible refine Keeps.ite ?_ ?_
    | with_reducible refine Keeps.iteP ?_ ?_

theorem State.chToHold_keeps {org s : State} (h : Keeps org s) :
    Keeps org (State.chToHold s) := by
  delta State.chToHold
  repeat' first
    | with_reducible assumption
    | with_reducible apply State.chEnter_keeps
    | with_reducible apply State.chStage_keeps

theorem State.chDecide_keeps {org s : State} (v : Int) (h : Keeps org s) :
    Keeps org (State.chDecide s v) := by
  delta State.chDecide
  repeat' first
    | with_reducible assumption
    | with_reducible apply State.chToHold_keeps
    | with_reducible apply State.chEnter_keeps
    | with_reducible apply State.chTaper_keeps
    | with_reducible apply State.chPulse_keeps
    | (extract_lets +onlyGivenNames letX; clear_value letX; revert letX; intro _)
    | with_reducible refine Keeps.ite ?_ ?_
    | with_reducible refine Keeps.iteP ?_ ?_
    | split

theorem State.chRest_keeps {org s : State} (v imax imean : Int) (h : Keeps org s) :
    Keeps org (State.chRest s v imax imean) := by
  delta State.chRest
  repeat' first
    | with_reducible assumption
    | with_reducible apply State.set_keeps
    | with_reducible apply State.setN_keeps
    | with_reducible apply State.count_keeps
    | with_reducible apply State.raiseCharger_keeps
    | (extract_lets +onlyGivenNames letX; have letT : True := (by clear_value letX; guard_hyp letX : State; trivial); clear letT; refine Keeps.cut (r := org) (v := letX) ?_ (fun letH => ?_); (focus subst letX); rotate_left; clear_value letX; revert letX; intro _ _)
    | (extract_lets +onlyGivenNames letX; clear_value letX; revert letX; intro _)
    | with_reducible refine Keeps.ite ?_ ?_
    | with_reducible refine Keeps.iteP ?_ ?_

theorem State.chRestEnd_keeps {org s : State} (v imax imean : Int) (h : Keeps org s) :
    Keeps org (State.chRestEnd s v imax imean) := by
  delta State.chRestEnd
  repeat' first
    | with_reducible assumption
    | with_reducible apply State.chRest_keeps
    | with_reducible apply State.chDecide_keeps
    | (extract_lets +onlyGivenNames letX; have letT : True := (by clear_value letX; guard_hyp letX : State; trivial); clear letT; refine Keeps.cut (r := org) (v := letX) ?_ (fun letH => ?_); (focus subst letX); rotate_left; clear_value letX; revert letX; intro _ _)
    | with_reducible refine Keeps.ite ?_ ?_
    | with_reducible refine Keeps.iteP ?_ ?_

theorem State.chPulseEnd_keeps {org s : State} (h : Keeps org s) :
    Keeps org (State.chPulseEnd s) := by
  delta State.chPulseEnd
  repeat' first
    | with_reducible assumption
    | with_reducible apply State.chStage_keeps
    | with_reducible refine Keeps.ite ?_ ?_

theorem State.chCut_keeps {org s : State} (us : Nat) (h : Keeps org s) :
    Keeps org (State.chCut s us) := by
  delta State.chCut
  repeat' first
    | with_reducible assumption
    | with_reducible apply State.raiseCharger_keeps
    | with_reducible apply State.chStage_keeps
    | (extract_lets +onlyGivenNames letX; have letT : True := (by clear_value letX; guard_hyp letX : State; trivial); clear letT; refine Keeps.cut (r := org) (v := letX) ?_ (fun letH => ?_); (focus subst letX); rotate_left; clear_value letX; revert letX; intro _ _)
    | (extract_lets +onlyGivenNames letX; clear_value letX; revert letX; intro _)
    | with_reducible refine Keeps.ite ?_ ?_
    | with_reducible refine Keeps.iteP ?_ ?_

theorem State.chHoldSample_keeps {org s : State} (v imax imean : Int) (h : Keeps org s) :
    Keeps org (State.chHoldSample s v imax imean) := by
  delta State.chHoldSample
  repeat' first
    | with_reducible assumption
    | with_reducible apply State.setN_keeps
    | with_reducible apply State.chRest_keeps
    | with_reducible apply State.chEnter_keeps
    | with_reducible apply State.chPulse_keeps
    | (extract_lets +onlyGivenNames letX; have letT : True := (by clear_value letX; guard_hyp letX : State; trivial); clear letT; refine Keeps.cut (r := org) (v := letX) ?_ (fun letH => ?_); (focus subst letX); rotate_left; clear_value letX; revert letX; intro _ _)
    | with_reducible refine Keeps.ite ?_ ?_
    | with_reducible refine Keeps.iteP ?_ ?_

theorem State.chQualifyTimeout_keeps {org s : State} (h : Keeps org s) :
    Keeps org (State.chQualifyTimeout s) := by
  delta State.chQualifyTimeout
  repeat' first
    | with_reducible assumption
    | with_reducible apply State.chFault_keeps
    | with_reducible refine Keeps.ite ?_ ?_

theorem State.chTimeout_keeps {org s : State} (h : Keeps org s) :
    Keeps org (State.chTimeout s) := by
  delta State.chTimeout
  repeat' first
    | with_reducible assumption
    | with_reducible apply State.chFault_keeps
    | with_reducible refine Keeps.ite ?_ ?_

theorem State.chBoundary_keeps {org s : State} (h : Keeps org s) :
    Keeps org (State.chBoundary s) := by
  delta State.chBoundary
  repeat' first
    | with_reducible assumption
    | with_reducible apply State.chQualify_keeps
    | with_reducible apply State.setN_keeps
    | with_reducible apply State.raiseCharger_keeps
    | with_reducible apply State.chEnter_keeps
    | with_reducible apply State.chStage_keeps
    | (extract_lets +onlyGivenNames letX; have letT : True := (by clear_value letX; guard_hyp letX : State; trivial); clear letT; refine Keeps.cut (r := org) (v := letX) ?_ (fun letH => ?_); (focus subst letX); rotate_left; clear_value letX; revert letX; intro _ _)
    | (extract_lets +onlyGivenNames letX; clear_value letX; revert letX; intro _)
    | with_reducible refine Keeps.ite ?_ ?_
    | with_reducible refine Keeps.iteP ?_ ?_

theorem State.asClamps_keeps {org s : State} (ref i : Int) (h : Keeps org s) :
    Keeps org (State.asClamps s ref i) := by
  delta State.asClamps
  repeat' first
    | with_reducible assumption
    | with_reducible apply State.overrides_keeps

theorem State.asEnter_keeps {org s : State} (st : Nat) (h : Keeps org s) :
    Keeps org (State.asEnter s st) := by
  delta State.asEnter
  repeat' first
    | with_reducible assumption
    | with_reducible apply State.setN_keeps

theorem State.asDrop_keeps {org s : State} (h : Keeps org s) :
    Keeps org (State.asDrop s) := by
  delta State.asDrop
  repeat' first
    | with_reducible assumption
    | with_reducible apply State.setN_keeps
    | with_reducible apply State.overrideDrop_keeps
    | (extract_lets +onlyGivenNames letX; have letT : True := (by clear_value letX; guard_hyp letX : State; trivial); clear letT; refine Keeps.cut (r := org) (v := letX) ?_ (fun letH => ?_); (focus subst letX); rotate_left; clear_value letX; revert letX; intro _ _)

theorem State.asOrdinary_keeps {org s : State} (result : Nat) (h : Keeps org s) :
    Keeps org (State.asOrdinary s result) := by
  delta State.asOrdinary
  repeat' first
    | with_reducible assumption
    | with_reducible apply State.asClamps_keeps
    | with_reducible apply State.setN_keeps
    | with_reducible refine Keeps.ite ?_ ?_

theorem State.asStart_keeps {org s : State} (h : Keeps org s) :
    Keeps org (State.asStart s) := by
  delta State.asStart
  repeat' first
    | with_reducible assumption
    | with_reducible apply State.setN_keeps
    | with_reducible apply State.raiseAssist_keeps
    | with_reducible apply State.asEnter_keeps
    | with_reducible apply State.count_keeps
    | (extract_lets +onlyGivenNames letX; have letT : True := (by clear_value letX; guard_hyp letX : State; trivial); clear letT; refine Keeps.cut (r := org) (v := letX) ?_ (fun letH => ?_); (focus subst letX); rotate_left; clear_value letX; revert letX; intro _ _)
    | with_reducible refine Keeps.ite ?_ ?_
    | with_reducible refine Keeps.iteP ?_ ?_

theorem State.asRefuse_keeps {org s : State} (result : Nat) (asv : Int) (h : Keeps org s) :
    Keeps org (State.asRefuse s result asv) := by
  delta State.asRefuse
  repeat' first
    | with_reducible assumption
    | with_reducible apply State.setN_keeps
    | with_reducible apply State.raiseAssist_keeps
    | (extract_lets +onlyGivenNames letX; have letT : True := (by clear_value letX; guard_hyp letX : State; trivial); clear letT; refine Keeps.cut (r := org) (v := letX) ?_ (fun letH => ?_); (focus subst letX); rotate_left; clear_value letX; revert letX; intro _ _)

theorem State.asCheck_keeps {org s : State} (asv : Int) (h : Keeps org s) :
    Keeps org (State.asCheck s asv) := by
  delta State.asCheck
  repeat' first
    | with_reducible assumption
    | with_reducible apply State.asRefuse_keeps
    | with_reducible apply State.asEnter_keeps
    | with_reducible apply State.setN_keeps
    | with_reducible apply State.asClamps_keeps
    | with_reducible apply State.raiseAssist_keeps
    | (extract_lets +onlyGivenNames letX; have letT : True := (by clear_value letX; guard_hyp letX : State; trivial); clear letT; refine Keeps.cut (r := org) (v := letX) ?_ (fun letH => ?_); (focus subst letX); rotate_left; clear_value letX; revert letX; intro _ _)
    | (extract_lets +onlyGivenNames letX; clear_value letX; revert letX; intro _)
    | with_reducible refine Keeps.ite ?_ ?_
    | with_reducible refine Keeps.iteP ?_ ?_

theorem State.asSupply_keeps {org s : State} (h : Keeps org s) :
    Keeps org (State.asSupply s) := by
  delta State.asSupply
  repeat' first
    | with_reducible assumption
    | with_reducible apply State.asEnter_keeps
    | with_reducible apply State.setN_keeps
    | with_reducible apply State.asClamps_keeps

theorem State.asPrecharged_keeps {org s : State} (asv : Int) (us : Nat) (h : Keeps org s) :
    Keeps org (State.asPrecharged s asv us) := by
  delta State.asPrecharged
  repeat' first
    | with_reducible assumption
    | with_reducible apply State.asSupply_keeps
    | with_reducible refine Keeps.ite ?_ ?_

theorem State.asPrechargeTimeout_keeps {org s : State} (h : Keeps org s) :
    Keeps org (State.asPrechargeTimeout s) := by
  delta State.asPrechargeTimeout
  repeat' first
    | with_reducible assumption
    | with_reducible apply State.asOrdinary_keeps
    | with_reducible refine Keeps.ite ?_ ?_

theorem State.asMatch_keeps {org s : State} (diff : Int) (h : Keeps org s) :
    Keeps org (State.asMatch s diff) := by
  delta State.asMatch
  repeat' first
    | with_reducible assumption
    | with_reducible apply State.asSupply_keeps
    | with_reducible refine Keeps.ite ?_ ?_

theorem State.asMatchTimeout_keeps {org s : State} (h : Keeps org s) :
    Keeps org (State.asMatchTimeout s) := by
  delta State.asMatchTimeout
  repeat' first
    | with_reducible assumption
    | with_reducible apply State.asFinish_keeps
    | with_reducible refine Keeps.ite ?_ ?_

theorem State.asTimeout_keeps {org s : State} (h : Keeps org s) :
    Keeps org (State.asTimeout s) := by
  delta State.asTimeout
  repeat' first
    | with_reducible assumption
    | with_reducible apply State.asOrdinary_keeps
    | with_reducible refine Keeps.ite ?_ ?_

theorem State.asForeign_keeps {org s : State} (asv : Int) (us : Nat) (h : Keeps org s) :
    Keeps org (State.asForeign s asv us) := by
  delta State.asForeign
  repeat' first
    | with_reducible assumption
    | with_reducible apply State.asOrdinary_keeps
    | with_reducible refine Keeps.ite ?_ ?_

theorem State.asOpen_keeps {org s : State} (h : Keeps org s) :
    Keeps org (State.asOpen s) := by
  delta State.asOpen
  repeat' first
    | with_reducible assumption
    | with_reducible apply State.asFinish_keeps
    | with_reducible refine Keeps.ite ?_ ?_

theorem State.asBoundary_keeps {org s : State} (h : Keeps org s) :
    Keeps org (State.asBoundary s) := by
  delta State.asBoundary
  repeat' first
    | with_reducible assumption
    | with_reducible apply State.set_keeps
    | with_reducible apply State.asFinish_keeps
    | (extract_lets +onlyGivenNames letX; have letT : True := (by clear_value letX; guard_hyp letX : State; trivial); clear letT; refine Keeps.cut (r := org) (v := letX) ?_ (fun letH => ?_); (focus subst letX); rotate_left; clear_value letX; revert letX; intro _ _)
    | (extract_lets +onlyGivenNames letX; clear_value letX; revert letX; intro _)
    | with_reducible refine Keeps.ite ?_ ?_
    | with_reducible refine Keeps.iteP ?_ ?_

theorem State.convertersOut_keeps {org s : State} (h : Keeps org s) :
    Keeps org (State.convertersOut s) := by
  delta State.convertersOut
  repeat' first
    | with_reducible assumption
    | with_reducible apply State.setN_keeps
    | with_reducible apply State.convLeave_keeps
    | (extract_lets +onlyGivenNames letX; have letT : True := (by clear_value letX; guard_hyp letX : State; trivial); clear letT; refine Keeps.cut (r := org) (v := letX) ?_ (fun letH => ?_); (focus subst letX); rotate_left; clear_value letX; revert letX; intro _ _)
    | with_reducible refine Keeps.ite ?_ ?_
    | with_reducible refine Keeps.iteP ?_ ?_
    | with_reducible refine forBelow_keeps ?_ (fun _ _ _ => ?_)

theorem State.holdEnds_keeps {org s : State} (h : Keeps org s) :
    Keeps org (State.holdEnds s) := by
  delta State.holdEnds
  repeat' first
    | with_reducible assumption
    | with_reducible apply State.setN_keeps
    | with_reducible refine Keeps.ite ?_ ?_

theorem State.powerCycle_keeps {org s : State} (h : Keeps org s) :
    Keeps org (State.powerCycle s) := by
  delta State.powerCycle
  repeat' first
    | with_reducible assumption
    | with_reducible apply State.setN_keeps
    | with_reducible apply State.holdEnds_keeps

theorem State.btnPress_keeps {org s : State} (h : Keeps org s) :
    Keeps org (State.btnPress s) := by
  delta State.btnPress
  repeat' first
    | with_reducible assumption
    | with_reducible apply State.setN_keeps
    | with_reducible apply State.latchSet_keeps
    | with_reducible apply State.wakeBy_keeps
    | (extract_lets +onlyGivenNames letX; have letT : True := (by clear_value letX; guard_hyp letX : State; trivial); clear letT; refine Keeps.cut (r := org) (v := letX) ?_ (fun letH => ?_); (focus subst letX); rotate_left; clear_value letX; revert letX; intro _ _)
    | with_reducible refine Keeps.ite ?_ ?_
    | with_reducible refine Keeps.iteP ?_ ?_

theorem State.longPress_keeps {org s : State} (h : Keeps org s) :
    Keeps org (State.longPress s) := by
  delta State.longPress
  repeat' first
    | with_reducible assumption
    | with_reducible apply State.setN_keeps
    | with_reducible apply State.asDrop_keeps
    | with_reducible apply State.convertersOut_keeps
    | with_reducible apply State.pon_keeps
    | with_reducible apply State.swTo_keeps
    | with_reducible apply State.count_keeps
    | with_reducible apply State.powerCycle_keeps
    | with_reducible apply State.setBit_keeps
    | (extract_lets +onlyGivenNames letX; have letT : True := (by clear_value letX; guard_hyp letX : State; trivial); clear letT; refine Keeps.cut (r := org) (v := letX) ?_ (fun letH => ?_); (focus subst letX); rotate_left; clear_value letX; revert letX; intro _ _)
    | with_reducible refine Keeps.ite ?_ ?_
    | with_reducible refine Keeps.iteP ?_ ?_

theorem State.longRestore_keeps {org s : State} (h : Keeps org s) :
    Keeps org (State.longRestore s) := by
  delta State.longRestore
  repeat' first
    | with_reducible assumption
    | with_reducible apply State.setN_keeps
    | with_reducible apply State.swTo_keeps
    | with_reducible apply State.raise_keeps
    | (extract_lets +onlyGivenNames letX; have letT : True := (by clear_value letX; guard_hyp letX : State; trivial); clear letT; refine Keeps.cut (r := org) (v := letX) ?_ (fun letH => ?_); (focus subst letX); rotate_left; clear_value letX; revert letX; intro _ _)
    | with_reducible refine Keeps.ite ?_ ?_
    | with_reducible refine Keeps.iteP ?_ ?_

theorem State.shipArm_keeps {org s : State} (arm : Bool) (h : Keeps org s) :
    Keeps org (State.shipArm s arm) := by
  delta State.shipArm
  repeat' first
    | with_reducible assumption
    | with_reducible apply State.setN_keeps
    | with_reducible apply State.raise_keeps
    | with_reducible refine Keeps.ite ?_ ?_

theorem State.shipWindow_keeps {org s : State} (h : Keeps org s) :
    Keeps org (State.shipWindow s) := by
  delta State.shipWindow
  repeat' first
    | with_reducible assumption
    | with_reducible apply State.setN_keeps
    | with_reducible refine Keeps.ite ?_ ?_

theorem State.shipEnter_keeps {org s : State} (h : Keeps org s) :
    Keeps org (State.shipEnter s) := by
  delta State.shipEnter
  repeat' first
    | with_reducible assumption
    | with_reducible apply State.pon_keeps
    | with_reducible apply State.swTo_keeps
    | with_reducible apply State.count_keeps
    | with_reducible apply State.setN_keeps
    | with_reducible apply State.asDrop_keeps
    | with_reducible apply State.convertersOut_keeps
    | (extract_lets +onlyGivenNames letX; have letT : True := (by clear_value letX; guard_hyp letX : State; trivial); clear letT; refine Keeps.cut (r := org) (v := letX) ?_ (fun letH => ?_); (focus subst letX); rotate_left; clear_value letX; revert letX; intro _ _)

theorem State.btnRelease_keeps {org s : State} (h : Keeps org s) :
    Keeps org (State.btnRelease s) := by
  delta State.btnRelease
  repeat' first
    | with_reducible assumption
    | with_reducible apply State.setN_keeps
    | with_reducible apply State.shipEnter_keeps
    | (extract_lets +onlyGivenNames letX; have letT : True := (by clear_value letX; guard_hyp letX : State; trivial); clear letT; refine Keeps.cut (r := org) (v := letX) ?_ (fun letH => ?_); (focus subst letX); rotate_left; clear_value letX; revert letX; intro _ _)
    | (extract_lets +onlyGivenNames letX; clear_value letX; revert letX; intro _)
    | with_reducible refine Keeps.ite ?_ ?_
    | with_reducible refine Keeps.iteP ?_ ?_

theorem State.shipExit_keeps {org s : State} (h : Keeps org s) :
    Keeps org (State.shipExit s) := by
  delta State.shipExit
  repeat' first
    | with_reducible assumption
    | with_reducible apply State.setN_keeps
    | with_reducible apply State.swTo_keeps
    | with_reducible apply State.raise_keeps
    | (extract_lets +onlyGivenNames letX; have letT : True := (by clear_value letX; guard_hyp letX : State; trivial); clear letT; refine Keeps.cut (r := org) (v := letX) ?_ (fun letH => ?_); (focus subst letX); rotate_left; clear_value letX; revert letX; intro _ _)
    | (extract_lets +onlyGivenNames letX; clear_value letX; revert letX; intro _)
    | with_reducible refine Keeps.ite ?_ ?_
    | with_reducible refine Keeps.iteP ?_ ?_

theorem State.logicOutage_keeps {org s : State} (d : Nat) (h : Keeps org s) :
    Keeps org (State.logicOutage s d) := by
  delta State.logicOutage
  repeat' first
    | with_reducible assumption
    | with_reducible apply State.asDrop_keeps
    | with_reducible apply State.logicFails_keeps
    | with_reducible refine Keeps.ite ?_ ?_

theorem execLogicDomainFail_runs {org s : State} (d : Die) (h : Keeps org s) :
    Runs org (execLogicDomainFail d s) := by
  delta execLogicDomainFail
  repeat' first
    | with_reducible assumption
    | with_reducible refine Runs.next ?_
    | with_reducible apply State.logicOutage_keeps
    | with_reducible refine Runs.ite ?_ ?_

theorem execSwitchCloseDone_runs {org s : State} (diff : Int) (h : Keeps org s) :
    Runs org (execSwitchCloseDone diff s) := by
  delta execSwitchCloseDone
  repeat' first
    | with_reducible assumption
    | with_reducible refine Runs.next ?_
    | with_reducible apply State.swClose_keeps
    | with_reducible refine Runs.ite ?_ ?_

theorem execCloseDeferred_runs {org s : State} (diff : Int) (h : Keeps org s) :
    Runs org (execCloseDeferred diff s) := by
  delta execCloseDeferred
  repeat' first
    | with_reducible assumption
    | with_reducible refine Runs.next ?_
    | with_reducible apply State.swDeferred_keeps
    | with_reducible refine Runs.ite ?_ ?_

theorem execIdealDiodeReverse_runs {org s : State} (excess : Int) (h : Keeps org s) :
    Runs org (execIdealDiodeReverse excess s) := by
  delta execIdealDiodeReverse
  repeat' first
    | with_reducible assumption
    | with_reducible refine Runs.next ?_
    | with_reducible apply State.swReverse_keeps
    | with_reducible refine Runs.ite ?_ ?_

theorem execSwitchShortTrip_runs {org s : State} (diff : Int) (us : Nat) (h : Keeps org s) :
    Runs org (execSwitchShortTrip diff us s) := by
  delta execSwitchShortTrip
  repeat' first
    | with_reducible assumption
    | with_reducible refine Runs.next ?_
    | with_reducible apply State.swShort_keeps
    | with_reducible refine Runs.ite ?_ ?_

theorem execSwitchUvCutoff_runs {org s : State} (bswb : Int) (us : Nat) (h : Keeps org s) :
    Runs org (execSwitchUvCutoff bswb us s) := by
  delta execSwitchUvCutoff
  repeat' first
    | with_reducible assumption
    | with_reducible refine Runs.next ?_
    | with_reducible apply State.swCutoff_keeps
    | with_reducible refine Runs.ite ?_ ?_

theorem execClosedChargeDrop_runs {org s : State} (samples : List Int) (h : Keeps org s) :
    Runs org (execClosedChargeDrop samples s) := by
  delta execClosedChargeDrop
  repeat' first
    | with_reducible assumption
    | with_reducible refine Runs.next ?_
    | with_reducible apply State.swChargeDrop_keeps
    | with_reducible refine Runs.ite ?_ ?_

theorem execSwitchDriverPowerUp_runs {org s : State} (h : Keeps org s) :
    Runs org (execSwitchDriverPowerUp s) := by
  delta execSwitchDriverPowerUp
  repeat' first
    | with_reducible assumption
    | with_reducible refine Runs.next ?_
    | with_reducible apply State.swPowerUp_keeps
    | with_reducible refine Runs.ite ?_ ?_

theorem execSwitchDriverPowerLoss_runs {org s : State} (h : Keeps org s) :
    Runs org (execSwitchDriverPowerLoss s) := by
  delta execSwitchDriverPowerLoss
  repeat' first
    | with_reducible assumption
    | with_reducible refine Runs.next ?_
    | with_reducible apply State.swPowerLoss_keeps
    | with_reducible refine Runs.ite ?_ ?_

theorem execChargePulseEnd_runs {org s : State} (h : Keeps org s) :
    Runs org (execChargePulseEnd s) := by
  delta execChargePulseEnd
  repeat' first
    | with_reducible assumption
    | with_reducible refine Runs.next ?_
    | with_reducible apply State.chPulseEnd_keeps
    | with_reducible refine Runs.ite ?_ ?_

theorem execChargeRestEnd_runs {org s : State} (v imax imean : Int) (h : Keeps org s) :
    Runs org (execChargeRestEnd v imax imean s) := by
  delta execChargeRestEnd
  repeat' first
    | with_reducible assumption
    | with_reducible refine Runs.next ?_
    | with_reducible apply State.chRestEnd_keeps
    | with_reducible refine Runs.ite ?_ ?_

theorem execPulseCutDiode_runs {org s : State} (us : Nat) (h : Keeps org s) :
    Runs org (execPulseCutDiode us s) := by
  delta execPulseCutDiode
  repeat' first
    | with_reducible assumption
    | with_reducible refine Runs.next ?_
    | with_reducible apply State.chCut_keeps
    | with_reducible refine Runs.ite ?_ ?_

theorem execHoldRestSample_runs {org s : State} (v imax imean : Int) (h : Keeps org s) :
    Runs org (execHoldRestSample v imax imean s) := by
  delta execHoldRestSample
  repeat' first
    | with_reducible assumption
    | with_reducible refine Runs.next ?_
    | with_reducible apply State.chHoldSample_keeps
    | with_reducible refine Runs.ite ?_ ?_

theorem execQualifyTimeout_runs {org s : State} (h : Keeps org s) :
    Runs org (execQualifyTimeout s) := by
  delta execQualifyTimeout
  repeat' first
    | with_reducible assumption
    | with_reducible refine Runs.next ?_
    | with_reducible apply State.chQualifyTimeout_keeps
    | with_reducible refine Runs.ite ?_ ?_

theorem execChargeTimeout_runs {org s : State} (h : Keeps org s) :
    Runs org (execChargeTimeout s) := by
  delta execChargeTimeout
  repeat' first
    | with_reducible assumption
    | with_reducible refine Runs.next ?_
    | with_reducible apply State.chTimeout_keeps
    | with_reducible refine Runs.ite ?_ ?_

theorem execBtnPress_runs {org s : State} (h : Keeps org s) :
    Runs org (execBtnPress s) := by
  delta execBtnPress
  repeat' first
    | with_reducible assumption
    | with_reducible refine Runs.next ?_
    | with_reducible apply State.btnPress_keeps
    | with_reducible refine Runs.ite ?_ ?_

theorem execBtnRelease_runs {org s : State} (h : Keeps org s) :
    Runs org (execBtnRelease s) := by
  delta execBtnRelease
  repeat' first
    | with_reducible assumption
    | with_reducible refine Runs.next ?_
    | with_reducible apply State.btnRelease_keeps
    | with_reducible refine Runs.ite ?_ ?_

theorem execLongPress_runs {org s : State} (h : Keeps org s) :
    Runs org (execLongPress s) := by
  delta execLongPress
  repeat' first
    | with_reducible assumption
    | with_reducible refine Runs.next ?_
    | with_reducible apply State.longPress_keeps
    | with_reducible refine Runs.ite ?_ ?_

theorem execLongPressSwitchRestore_runs {org s : State} (h : Keeps org s) :
    Runs org (execLongPressSwitchRestore s) := by
  delta execLongPressSwitchRestore
  repeat' first
    | with_reducible assumption
    | with_reducible refine Runs.next ?_
    | with_reducible apply State.longRestore_keeps
    | with_reducible refine Runs.ite ?_ ?_

theorem execShipWindowEnd_runs {org s : State} (h : Keeps org s) :
    Runs org (execShipWindowEnd s) := by
  delta execShipWindowEnd
  repeat' first
    | with_reducible assumption
    | with_reducible refine Runs.next ?_
    | with_reducible apply State.shipWindow_keeps
    | with_reducible refine Runs.ite ?_ ?_

theorem execShipExit_runs {org s : State} (h : Keeps org s) :
    Runs org (execShipExit s) := by
  delta execShipExit
  repeat' first
    | with_reducible assumption
    | with_reducible refine Runs.next ?_
    | with_reducible apply State.shipExit_keeps
    | with_reducible refine Runs.ite ?_ ?_

theorem execAssistCheck_runs {org s : State} (asv : Int) (h : Keeps org s) :
    Runs org (execAssistCheck asv s) := by
  delta execAssistCheck
  repeat' first
    | with_reducible assumption
    | with_reducible refine Runs.next ?_
    | with_reducible apply State.asCheck_keeps
    | with_reducible refine Runs.ite ?_ ?_

theorem execAssistPrechargeDone_runs {org s : State} (asv : Int) (us : Nat) (h : Keeps org s) :
    Runs org (execAssistPrechargeDone asv us s) := by
  delta execAssistPrechargeDone
  repeat' first
    | with_reducible assumption
    | with_reducible refine Runs.next ?_
    | with_reducible apply State.asPrecharged_keeps
    | with_reducible refine Runs.ite ?_ ?_

theorem execAssistPrechargeTimeout_runs {org s : State} (h : Keeps org s) :
    Runs org (execAssistPrechargeTimeout s) := by
  delta execAssistPrechargeTimeout
  repeat' first
    | with_reducible assumption
    | with_reducible refine Runs.next ?_
    | with_reducible apply State.asPrechargeTimeout_keeps
    | with_reducible refine Runs.ite ?_ ?_

theorem execAssistMatch_runs {org s : State} (diff : Int) (h : Keeps org s) :
    Runs org (execAssistMatch diff s) := by
  delta execAssistMatch
  repeat' first
    | with_reducible assumption
    | with_reducible refine Runs.next ?_
    | with_reducible apply State.asMatch_keeps
    | with_reducible refine Runs.ite ?_ ?_

theorem execAssistMatchTimeout_runs {org s : State} (h : Keeps org s) :
    Runs org (execAssistMatchTimeout s) := by
  delta execAssistMatchTimeout
  repeat' first
    | with_reducible assumption
    | with_reducible refine Runs.next ?_
    | with_reducible apply State.asMatchTimeout_keeps
    | with_reducible refine Runs.ite ?_ ?_

theorem execAssistSessionTimeout_runs {org s : State} (h : Keeps org s) :
    Runs org (execAssistSessionTimeout s) := by
  delta execAssistSessionTimeout
  repeat' first
    | with_reducible assumption
    | with_reducible refine Runs.next ?_
    | with_reducible apply State.asTimeout_keeps
    | with_reducible refine Runs.ite ?_ ?_

theorem execAssistForeignOvervoltage_runs {org s : State} (asv : Int) (us : Nat) (h : Keeps org s) :
    Runs org (execAssistForeignOvervoltage asv us s) := by
  delta execAssistForeignOvervoltage
  repeat' first
    | with_reducible assumption
    | with_reducible refine Runs.next ?_
    | with_reducible apply State.asForeign_keeps
    | with_reducible refine Runs.ite ?_ ?_

theorem execAssistSwitchOpen_runs {org s : State} (h : Keeps org s) :
    Runs org (execAssistSwitchOpen s) := by
  delta execAssistSwitchOpen
  repeat' first
    | with_reducible assumption
    | with_reducible refine Runs.next ?_
    | with_reducible apply State.asOpen_keeps
    | with_reducible refine Runs.ite ?_ ?_

end Sys2Proof.Machine
end

