-- ==== Sys2Proof/Laws/KeepsC.lean ====
section
/-!
SUPPORT. The laws of Estimator, Plans, Rings, Watchdog, Deal, Commit: each definition that answers a state keeps what Keeps says.
-/
namespace Sys2Proof.Machine

theorem State.setEstFlag_keeps {org s : State} (b : Nat) (on : Bool) (h : Keeps org s) :
    Keeps org (State.setEstFlag s b on) := by
  delta State.setEstFlag
  repeat' first
    | with_reducible assumption
    | with_reducible apply State.setBit_keeps

theorem State.raiseEst_keeps {org s : State} (k : Kind) (fields : List (Nat × Int)) (h : Keeps org s) :
    Keeps org (State.raiseEst s k fields) := by
  delta State.raiseEst
  repeat' first
    | with_reducible assumption
    | with_reducible apply State.raise_keeps

theorem State.countCharge_keeps {org s : State} (code : Int) (h : Keeps org s) :
    Keeps org (State.countCharge s code) := by
  delta State.countCharge
  repeat' first
    | with_reducible assumption
    | with_reducible apply State.set_keeps
    | with_reducible apply State.setN_keeps
    | (extract_lets +onlyGivenNames letX; have letT : True := (by clear_value letX; guard_hyp letX : State; trivial); clear letT; refine Keeps.cut (r := org) (v := letX) ?_ (fun letH => ?_); (focus subst letX); rotate_left; clear_value letX; revert letX; intro _ _)
    | (extract_lets +onlyGivenNames letX; clear_value letX; revert letX; intro _)
    | with_reducible refine Keeps.ite ?_ ?_
    | with_reducible refine Keeps.iteP ?_ ?_

theorem State.battOverrange_keeps {org s : State} (code : Int) (h : Keeps org s) :
    Keeps org (State.battOverrange s code) := by
  delta State.battOverrange
  repeat' first
    | with_reducible assumption
    | with_reducible apply State.setN_keeps
    | with_reducible apply State.setEstFlag_keeps
    | with_reducible apply State.raiseEst_keeps
    | (extract_lets +onlyGivenNames letX; have letT : True := (by clear_value letX; guard_hyp letX : State; trivial); clear letT; refine Keeps.cut (r := org) (v := letX) ?_ (fun letH => ?_); (focus subst letX); rotate_left; clear_value letX; revert letX; intro _ _)
    | with_reducible refine Keeps.ite ?_ ?_
    | with_reducible refine Keeps.iteP ?_ ?_

theorem State.battExtremes_keeps {org s : State} (i : Int) (h : Keeps org s) :
    Keeps org (State.battExtremes s i) := by
  delta State.battExtremes
  repeat' first
    | with_reducible assumption
    | with_reducible apply State.set_keeps

theorem State.battMeans_keeps {org s : State} (i : Int) (h : Keeps org s) :
    Keeps org (State.battMeans s i) := by
  delta State.battMeans
  repeat' first
    | with_reducible assumption
    | with_reducible apply State.set_keeps
    | with_reducible apply State.setN_keeps
    | with_reducible apply State.battExtremes_keeps
    | (extract_lets +onlyGivenNames letX; have letT : True := (by clear_value letX; guard_hyp letX : State; trivial); clear letT; refine Keeps.cut (r := org) (v := letX) ?_ (fun letH => ?_); (focus subst letX); rotate_left; clear_value letX; revert letX; intro _ _)
    | (extract_lets +onlyGivenNames letX; clear_value letX; revert letX; intro _)
    | with_reducible refine Keeps.ite ?_ ?_
    | with_reducible refine Keeps.iteP ?_ ?_

theorem State.sigmaSample_keeps {org s : State} (raw : Int) (h : Keeps org s) :
    Keeps org (State.sigmaSample s raw) := by
  delta State.sigmaSample
  repeat' first
    | with_reducible assumption
    | with_reducible apply State.battOverrange_keeps
    | with_reducible apply State.countCharge_keeps
    | with_reducible apply State.set_keeps
    | with_reducible apply State.setN_keeps
    | with_reducible apply State.battMeans_keeps
    | (extract_lets +onlyGivenNames letX; have letT : True := (by clear_value letX; guard_hyp letX : State; trivial); clear letT; refine Keeps.cut (r := org) (v := letX) ?_ (fun letH => ?_); (focus subst letX); rotate_left; clear_value letX; revert letX; intro _ _)
    | (extract_lets +onlyGivenNames letX; clear_value letX; revert letX; intro _)
    | with_reducible refine Keeps.ite ?_ ?_
    | with_reducible refine Keeps.iteP ?_ ?_

theorem State.estBoundary_keeps {org s : State} (h : Keeps org s) :
    Keeps org (State.estBoundary s) := by
  delta State.estBoundary
  repeat' first
    | with_reducible assumption
    | with_reducible apply State.set_keeps
    | with_reducible apply State.setEstFlag_keeps
    | with_reducible apply State.raiseEst_keeps
    | (extract_lets +onlyGivenNames letX; have letT : True := (by clear_value letX; guard_hyp letX : State; trivial); clear letT; refine Keeps.cut (r := org) (v := letX) ?_ (fun letH => ?_); (focus subst letX); rotate_left; clear_value letX; revert letX; intro _ _)
    | (extract_lets +onlyGivenNames letX; clear_value letX; revert letX; intro _)
    | with_reducible refine Keeps.ite ?_ ?_
    | with_reducible refine Keeps.iteP ?_ ?_

theorem State.estPublish_keeps {org s : State} (h : Keeps org s) :
    Keeps org (State.estPublish s) := by
  delta State.estPublish
  repeat' first
    | with_reducible assumption
    | with_reducible apply State.set_keeps
    | with_reducible apply State.setN_keeps
    | (extract_lets +onlyGivenNames letX; have letT : True := (by clear_value letX; guard_hyp letX : State; trivial); clear letT; refine Keeps.cut (r := org) (v := letX) ?_ (fun letH => ?_); (focus subst letX); rotate_left; clear_value letX; revert letX; intro _ _)

theorem State.setAnchor_keeps {org s : State} (soc : Int) (h : Keeps org s) :
    Keeps org (State.setAnchor s soc) := by
  delta State.setAnchor
  repeat' first
    | with_reducible assumption
    | with_reducible apply State.setEstFlag_keeps
    | with_reducible apply State.set_keeps

theorem State.estFirst_keeps {org s : State} (soc : Int) (source : Nat) (h : Keeps org s) :
    Keeps org (State.estFirst s soc source) := by
  delta State.estFirst
  repeat' first
    | with_reducible assumption
    | with_reducible apply State.set_keeps
    | with_reducible apply State.setN_keeps

theorem State.restCorrect_keeps {org s : State} (kind : Nat) (v : Int) (h : Keeps org s) :
    Keeps org (State.restCorrect s kind v) := by
  delta State.restCorrect
  repeat' first
    | with_reducible assumption
    | with_reducible apply State.set_keeps
    | with_reducible apply State.count_keeps
    | with_reducible apply State.estFirst_keeps
    | with_reducible apply State.setEstFlag_keeps
    | with_reducible apply State.raiseEst_keeps
    | with_reducible apply State.setAnchor_keeps
    | (extract_lets +onlyGivenNames letX; have letT : True := (by clear_value letX; guard_hyp letX : State; trivial); clear letT; refine Keeps.cut (r := org) (v := letX) ?_ (fun letH => ?_); (focus subst letX); rotate_left; clear_value letX; revert letX; intro _ _)
    | (extract_lets +onlyGivenNames letX; have letT : True := (by clear_value letX; revert letX; with_reducible exact Keeps.isPair); clear letT; refine Keeps.cut (r := org) (v := letX.2) ?_ (fun letH => ?_); (focus subst letX); rotate_left; clear_value letX; revert letX; intro _ _)
    | with_reducible refine Keeps.ite ?_ ?_
    | with_reducible refine Keeps.iteP ?_ ?_

theorem State.takeRests_keeps {org s : State} (h : Keeps org s) :
    Keeps org (State.takeRests s) := by
  delta State.takeRests
  repeat' first
    | with_reducible assumption
    | with_reducible apply State.set_keeps
    | with_reducible apply State.restCorrect_keeps
    | (extract_lets +onlyGivenNames letX; have letT : True := (by clear_value letX; guard_hyp letX : State; trivial); clear letT; refine Keeps.cut (r := org) (v := letX) ?_ (fun letH => ?_); (focus subst letX); rotate_left; clear_value letX; revert letX; intro _ _)
    | (extract_lets +onlyGivenNames letX; clear_value letX; revert letX; intro _)
    | with_reducible refine Keeps.ite ?_ ?_
    | with_reducible refine Keeps.iteP ?_ ?_

theorem State.learnCapacity_keeps {org s : State} (sample : Nat) (h : Keeps org s) :
    Keeps org (State.learnCapacity s sample) := by
  delta State.learnCapacity
  repeat' first
    | with_reducible assumption
    | with_reducible apply State.set_keeps
    | with_reducible apply State.count_keeps
    | with_reducible apply State.raiseEst_keeps
    | (extract_lets +onlyGivenNames letX; have letT : True := (by clear_value letX; guard_hyp letX : State; trivial); clear letT; refine Keeps.cut (r := org) (v := letX) ?_ (fun letH => ?_); (focus subst letX); rotate_left; clear_value letX; revert letX; intro _ _)
    | (extract_lets +onlyGivenNames letX; clear_value letX; revert letX; intro _)
    | with_reducible refine Keeps.ite ?_ ?_
    | with_reducible refine Keeps.iteP ?_ ?_

theorem State.fullCharge_keeps {org s : State} (h : Keeps org s) :
    Keeps org (State.fullCharge s) := by
  delta State.fullCharge
  repeat' first
    | with_reducible assumption
    | with_reducible apply State.setN_keeps
    | with_reducible apply State.raiseEst_keeps
    | with_reducible apply State.learnCapacity_keeps
    | with_reducible apply State.set_keeps
    | with_reducible apply State.estFirst_keeps
    | with_reducible apply State.setEstFlag_keeps
    | with_reducible refine Keeps.ite ?_ ?_
    | with_reducible refine Keeps.iteP ?_ ?_

theorem State.socMoves_keeps {org s : State} (d i : Int) (h : Keeps org s) :
    Keeps org (State.socMoves s d i) := by
  delta State.socMoves
  repeat' first
    | with_reducible assumption
    | with_reducible apply State.set_keeps
    | (extract_lets +onlyGivenNames letX; clear_value letX; revert letX; intro _)

theorem State.restBand_keeps {org s : State} (i : Int) (h : Keeps org s) :
    Keeps org (State.restBand s i) := by
  delta State.restBand
  repeat' first
    | with_reducible assumption
    | with_reducible apply State.setN_keeps
    | with_reducible apply State.setEstFlag_keeps
    | (extract_lets +onlyGivenNames letX; clear_value letX; revert letX; intro _)
    | with_reducible refine Keeps.ite ?_ ?_
    | with_reducible refine Keeps.iteP ?_ ?_

theorem State.longRest_keeps {org s : State} (h : Keeps org s) :
    Keeps org (State.longRest s) := by
  delta State.longRest
  repeat' first
    | with_reducible assumption
    | with_reducible apply State.setN_keeps
    | with_reducible apply State.set_keeps
    | with_reducible refine Keeps.ite ?_ ?_

theorem State.estParks_keeps {org s : State} (h : Keeps org s) :
    Keeps org (State.estParks s) := by
  delta State.estParks
  repeat' first
    | with_reducible assumption
    | with_reducible apply State.setN_keeps
    | with_reducible apply State.set_keeps
    | (extract_lets +onlyGivenNames letX; have letT : True := (by clear_value letX; guard_hyp letX : State; trivial); clear letT; refine Keeps.cut (r := org) (v := letX) ?_ (fun letH => ?_); (focus subst letX); rotate_left; clear_value letX; revert letX; intro _ _)
    | with_reducible refine Keeps.ite ?_ ?_
    | with_reducible refine Keeps.iteP ?_ ?_

theorem State.estUnparks_keeps {org s : State} (secs : Nat) (h : Keeps org s) :
    Keeps org (State.estUnparks s secs) := by
  delta State.estUnparks
  repeat' first
    | with_reducible assumption
    | with_reducible apply State.setN_keeps
    | with_reducible apply State.setFlag_keeps
    | with_reducible apply State.set_keeps
    | (extract_lets +onlyGivenNames letX; have letT : True := (by clear_value letX; guard_hyp letX : State; trivial); clear letT; refine Keeps.cut (r := org) (v := letX) ?_ (fun letH => ?_); (focus subst letX); rotate_left; clear_value letX; revert letX; intro _ _)
    | (extract_lets +onlyGivenNames letX; clear_value letX; revert letX; intro _)
    | with_reducible refine Keeps.iteP ?_ ?_

theorem State.addSeconds_keeps {org s : State} (k n : Nat) (h : Keeps org s) :
    Keeps org (State.addSeconds s k n) := by
  delta State.addSeconds
  repeat' first
    | with_reducible assumption
    | with_reducible apply State.setN_keeps

theorem State.binSeconds_keeps {org s : State} (n : Nat) (h : Keeps org s) :
    Keeps org (State.binSeconds s n) := by
  delta State.binSeconds
  repeat' first
    | with_reducible assumption
    | with_reducible apply State.addSeconds_keeps
    | (extract_lets +onlyGivenNames letX; have letT : True := (by clear_value letX; guard_hyp letX : State; trivial); clear letT; refine Keeps.cut (r := org) (v := letX) ?_ (fun letH => ?_); (focus subst letX); rotate_left; clear_value letX; revert letX; intro _ _)
    | with_reducible refine Keeps.ite ?_ ?_
    | with_reducible refine Keeps.iteP ?_ ?_

theorem State.takeBins_keeps {org s : State} (i : Int) (h : Keeps org s) :
    Keeps org (State.takeBins s i) := by
  delta State.takeBins
  repeat' first
    | with_reducible assumption
    | with_reducible apply State.binSeconds_keeps
    | with_reducible apply State.setN_keeps
    | (extract_lets +onlyGivenNames letX; have letT : True := (by clear_value letX; guard_hyp letX : State; trivial); clear letT; refine Keeps.cut (r := org) (v := letX) ?_ (fun letH => ?_); (focus subst letX); rotate_left; clear_value letX; revert letX; intro _ _)
    | (extract_lets +onlyGivenNames letX; clear_value letX; revert letX; intro _)
    | with_reducible refine Keeps.ite ?_ ?_
    | with_reducible refine Keeps.iteP ?_ ?_

theorem State.retainedCopy_keeps {org s : State} (h : Keeps org s) :
    Keeps org (State.retainedCopy s) := by
  delta State.retainedCopy
  repeat' first
    | with_reducible assumption
    | with_reducible apply State.set_keeps
    | with_reducible apply State.setN_keeps

theorem State.estUpdate_keeps {org s : State} (h : Keeps org s) :
    Keeps org (State.estUpdate s) := by
  delta State.estUpdate
  repeat' first
    | with_reducible assumption
    | with_reducible apply State.set_keeps
    | with_reducible apply State.setN_keeps
    | with_reducible apply State.takeRests_keeps
    | with_reducible apply State.fullCharge_keeps
    | with_reducible apply State.socMoves_keeps
    | with_reducible apply State.estPublish_keeps
    | with_reducible apply State.restBand_keeps
    | with_reducible apply State.takeBins_keeps
    | with_reducible apply State.setEstFlag_keeps
    | with_reducible apply State.retainedCopy_keeps
    | (extract_lets +onlyGivenNames letX; have letT : True := (by clear_value letX; guard_hyp letX : State; trivial); clear letT; refine Keeps.cut (r := org) (v := letX) ?_ (fun letH => ?_); (focus subst letX); rotate_left; clear_value letX; revert letX; intro _ _)
    | (extract_lets +onlyGivenNames letX; clear_value letX; revert letX; intro _)
    | with_reducible refine Keeps.ite ?_ ?_
    | with_reducible refine Keeps.iteP ?_ ?_

theorem State.estimatorUpdate_keeps {org s : State} (h : Keeps org s) :
    Keeps org (State.estimatorUpdate s) := by
  delta State.estimatorUpdate
  repeat' first
    | with_reducible assumption
    | with_reducible apply State.estUpdate_keeps
    | with_reducible refine Keeps.ite ?_ ?_

theorem State.resistanceSample_keeps {org s : State} (v i : Int) (h : Keeps org s) :
    Keeps org (State.resistanceSample s v i) := by
  delta State.resistanceSample
  repeat' first
    | with_reducible assumption
    | with_reducible apply State.setN_keeps
    | with_reducible apply State.count_keeps
    | with_reducible apply State.set_keeps
    | with_reducible apply State.setFree_keeps
    | with_reducible apply State.estPublish_keeps
    | (extract_lets +onlyGivenNames letX; have letT : True := (by clear_value letX; guard_hyp letX : State; trivial); clear letT; refine Keeps.cut (r := org) (v := letX) ?_ (fun letH => ?_); (focus subst letX); rotate_left; clear_value letX; revert letX; intro _ _)
    | (extract_lets +onlyGivenNames letX; clear_value letX; revert letX; intro _)
    | with_reducible refine Keeps.ite ?_ ?_
    | with_reducible refine Keeps.iteP ?_ ?_

theorem State.battTempExtremes_keeps {org s : State} (t : Int) (h : Keeps org s) :
    Keeps org (State.battTempExtremes s t) := by
  delta State.battTempExtremes
  repeat' first
    | with_reducible assumption
    | with_reducible apply State.set_keeps

theorem State.battVoltExtremes_keeps {org s : State} (v : Int) (h : Keeps org s) :
    Keeps org (State.battVoltExtremes s v) := by
  delta State.battVoltExtremes
  repeat' first
    | with_reducible assumption
    | with_reducible apply State.set_keeps

theorem State.recordWritten_keeps {org s : State} (h : Keeps org s) :
    Keeps org (State.recordWritten s) := by
  delta State.recordWritten
  repeat' first
    | with_reducible assumption
    | with_reducible apply State.setN_keeps
    | with_reducible apply State.raiseEst_keeps
    | (extract_lets +onlyGivenNames letX; have letT : True := (by clear_value letX; guard_hyp letX : State; trivial); clear letT; refine Keeps.cut (r := org) (v := letX) ?_ (fun letH => ?_); (focus subst letX); rotate_left; clear_value letX; revert letX; intro _ _)
    | (extract_lets +onlyGivenNames letX; clear_value letX; revert letX; intro _)
    | with_reducible refine Keeps.ite ?_ ?_
    | with_reducible refine Keeps.iteP ?_ ?_

theorem State.recordWrite_keeps {org s : State} (h : Keeps org s) :
    Keeps org (State.recordWrite s) := by
  delta State.recordWrite
  repeat' first
    | with_reducible assumption
    | with_reducible apply State.recordWritten_keeps
    | with_reducible apply State.setN_keeps
    | with_reducible apply State.setBlob_keeps
    | (extract_lets +onlyGivenNames letX; have letT : True := (by clear_value letX; guard_hyp letX : State; trivial); clear letT; refine Keeps.cut (r := org) (v := letX) ?_ (fun letH => ?_); (focus subst letX); rotate_left; clear_value letX; revert letX; intro _ _)
    | (extract_lets +onlyGivenNames letX; clear_value letX; revert letX; intro _)
    | with_reducible refine Keeps.ite ?_ ?_
    | with_reducible refine Keeps.iteP ?_ ?_

theorem State.recordCut_keeps {org s : State} (h : Keeps org s) :
    Keeps org (State.recordCut s) := by
  delta State.recordCut
  repeat' first
    | with_reducible assumption
    | with_reducible apply State.setN_keeps
    | with_reducible apply State.setBlob_keeps
    | with_reducible refine Keeps.ite ?_ ?_

theorem State.storeTrips_keeps {org s : State} (h : Keeps org s) :
    Keeps org (State.storeTrips s) := by
  delta State.storeTrips
  repeat' first
    | with_reducible assumption
    | with_reducible apply State.setN_keeps
    | with_reducible refine Keeps.ite ?_ ?_
    | with_reducible refine forBelow_keeps ?_ (fun _ _ _ => ?_)

theorem State.storePeriodic_keeps {org s : State} (h : Keeps org s) :
    Keeps org (State.storePeriodic s) := by
  delta State.storePeriodic
  repeat' first
    | with_reducible assumption
    | with_reducible apply State.setN_keeps
    | with_reducible apply State.recordWrite_keeps
    | with_reducible apply State.storeTrips_keeps
    | with_reducible refine Keeps.ite ?_ ?_

theorem State.recordEmpty_keeps {org s : State} (h : Keeps org s) :
    Keeps org (State.recordEmpty s) := by
  delta State.recordEmpty
  repeat' first
    | with_reducible assumption
    | with_reducible apply State.setN_keeps
    | with_reducible apply State.restore_keeps
    | with_reducible apply State.set_keeps
    | (extract_lets +onlyGivenNames letX; have letT : True := (by clear_value letX; guard_hyp letX : State; trivial); clear letT; refine Keeps.cut (r := org) (v := letX) ?_ (fun letH => ?_); (focus subst letX); rotate_left; clear_value letX; revert letX; intro _ _)
    | with_reducible refine Keeps.iteP ?_ ?_
    | with_reducible refine forBelow_keeps ?_ (fun _ _ _ => ?_)

theorem State.recordLoad_keeps {org s : State} (b : List Byte) (h : Keeps org s) :
    Keeps org (State.recordLoad s b) := by
  delta State.recordLoad
  repeat' first
    | with_reducible assumption
    | with_reducible apply State.setN_keeps
    | with_reducible apply State.set_keeps
    | (extract_lets +onlyGivenNames letX; have letT : True := (by clear_value letX; guard_hyp letX : State; trivial); clear letT; refine Keeps.cut (r := org) (v := letX) ?_ (fun letH => ?_); (focus subst letX); rotate_left; clear_value letX; revert letX; intro _ _)
    | with_reducible refine Keeps.iteP ?_ ?_
    | with_reducible refine forBelow_keeps ?_ (fun _ _ _ => ?_)

theorem State.estRestore_keeps {org s : State} (soci : Int) (soc source : Nat) (h : Keeps org s) :
    Keeps org (State.estRestore s soci soc source) := by
  delta State.estRestore
  repeat' first
    | with_reducible assumption
    | with_reducible apply State.set_keeps
    | with_reducible apply State.setN_keeps
    | with_reducible apply State.setFlag_keeps

theorem State.estOpening_keeps {org s : State} (retained : Bool) (h : Keeps org s) :
    Keeps org (State.estOpening s retained) := by
  delta State.estOpening
  repeat' first
    | with_reducible assumption
    | with_reducible apply State.recordLoad_keeps
    | with_reducible apply State.setN_keeps
    | with_reducible apply State.recordEmpty_keeps
    | with_reducible apply State.raiseEst_keeps
    | with_reducible apply State.setEstFlag_keeps
    | with_reducible apply State.set_keeps
    | with_reducible apply State.estRestore_keeps
    | with_reducible apply State.estPublish_keeps
    | with_reducible refine Keeps.ite ?_ ?_
    | with_reducible refine Keeps.iteP ?_ ?_
    | split

theorem State.batteryReplaced_keeps {org s : State} (h : Keeps org s) :
    Keeps org (State.batteryReplaced s) := by
  delta State.batteryReplaced
  repeat' first
    | with_reducible assumption
    | with_reducible apply State.setN_keeps
    | with_reducible apply State.setEstFlag_keeps
    | with_reducible apply State.estPublish_keeps
    | with_reducible apply State.set_keeps
    | with_reducible apply State.raiseEst_keeps
    | with_reducible apply State.recordEmpty_keeps
    | with_reducible apply State.recordWrite_keeps
    | (extract_lets +onlyGivenNames letX; have letT : True := (by clear_value letX; guard_hyp letX : State; trivial); clear letT; refine Keeps.cut (r := org) (v := letX) ?_ (fun letH => ?_); (focus subst letX); rotate_left; clear_value letX; revert letX; intro _ _)

theorem execSigmaSample_runs {org s : State} (code : Int) (h : Keeps org s) :
    Runs org (execSigmaSample code s) := by
  delta execSigmaSample
  repeat' first
    | with_reducible assumption
    | with_reducible refine Runs.next ?_
    | with_reducible apply State.sigmaSample_keeps
    | with_reducible refine Runs.ite ?_ ?_

theorem execEstimatorUpdate_runs {org s : State} (h : Keeps org s) :
    Runs org (execEstimatorUpdate s) := by
  delta execEstimatorUpdate
  repeat' first
    | with_reducible assumption
    | with_reducible refine Runs.next ?_
    | with_reducible apply State.estimatorUpdate_keeps
    | with_reducible refine Runs.ite ?_ ?_

theorem execLongRest_runs {org s : State} (h : Keeps org s) :
    Runs org (execLongRest s) := by
  delta execLongRest
  repeat' first
    | with_reducible assumption
    | with_reducible refine Runs.next ?_
    | with_reducible apply State.longRest_keeps
    | with_reducible refine Runs.ite ?_ ?_

theorem execResistanceSample_runs {org s : State} (v i : Int) (h : Keeps org s) :
    Runs org (execResistanceSample v i s) := by
  delta execResistanceSample
  repeat' first
    | with_reducible assumption
    | with_reducible refine Runs.next ?_
    | with_reducible apply State.resistanceSample_keeps
    | with_reducible refine Runs.ite ?_ ?_

theorem execRecordStorePeriodicWrite_runs {org s : State} (h : Keeps org s) :
    Runs org (execRecordStorePeriodicWrite s) := by
  delta execRecordStorePeriodicWrite
  repeat' first
    | with_reducible assumption
    | with_reducible refine Runs.next ?_
    | with_reducible apply State.storePeriodic_keeps
    | with_reducible refine Runs.ite ?_ ?_

theorem execBatteryRecordWritten_runs {org s : State} (h : Keeps org s) :
    Runs org (execBatteryRecordWritten s) := by
  delta execBatteryRecordWritten
  repeat' first
    | with_reducible assumption
    | with_reducible refine Runs.next ?_
    | with_reducible apply State.recordWritten_keeps
    | with_reducible refine Runs.ite ?_ ?_

theorem State.setStep_keeps {org s : State} (p i st : Nat) (h : Keeps org s) :
    Keeps org (State.setStep s p i st) := by
  delta State.setStep
  repeat' first
    | with_reducible assumption
    | with_reducible apply State.setN_keeps

theorem State.raisePlan_keeps {org s : State} (k : Kind) (p i : Nat) (fields : List (Nat × Int)) (h : Keeps org s) :
    Keeps org (State.raisePlan s k p i fields) := by
  delta State.raisePlan
  repeat' first
    | with_reducible assumption
    | with_reducible apply State.raise_keeps

theorem State.stepMoved_keeps {org s : State} (p i : Nat) (h : Keeps org s) :
    Keeps org (State.stepMoved s p i) := by
  delta State.stepMoved
  repeat' first
    | with_reducible assumption
    | with_reducible apply State.setN_keeps

theorem State.stepSkip_keeps {org s : State} (p i cause : Nat) (h : Keeps org s) :
    Keeps org (State.stepSkip s p i cause) := by
  delta State.stepSkip
  repeat' first
    | with_reducible assumption
    | with_reducible apply State.setStep_keeps
    | with_reducible apply State.stepMoved_keeps
    | with_reducible apply State.count_keeps
    | with_reducible apply State.raisePlan_keeps
    | (extract_lets +onlyGivenNames letX; have letT : True := (by clear_value letX; guard_hyp letX : State; trivial); clear letT; refine Keeps.cut (r := org) (v := letX) ?_ (fun letH => ?_); (focus subst letX); rotate_left; clear_value letX; revert letX; intro _ _)

theorem State.planEnd_keeps {org s : State} (p result : Nat) (h : Keeps org s) :
    Keeps org (State.planEnd s p result) := by
  delta State.planEnd
  repeat' first
    | with_reducible assumption
    | with_reducible apply State.setStep_keeps
    | with_reducible apply State.setN_keeps
    | with_reducible apply State.raisePlan_keeps
    | with_reducible apply State.recordWrite_keeps
    | with_reducible apply State.pon_keeps
    | with_reducible apply State.storeTrips_keeps
    | (extract_lets +onlyGivenNames letX; have letT : True := (by clear_value letX; guard_hyp letX : State; trivial); clear letT; refine Keeps.cut (r := org) (v := letX) ?_ (fun letH => ?_); (focus subst letX); rotate_left; clear_value letX; revert letX; intro _ _)
    | (extract_lets +onlyGivenNames letX; clear_value letX; revert letX; intro _)
    | with_reducible refine Keeps.ite ?_ ?_
    | with_reducible refine Keeps.iteP ?_ ?_
    | with_reducible refine forBelow_keeps ?_ (fun _ _ _ => ?_)

theorem State.planAbort_keeps {org s : State} (p result : Nat) (h : Keeps org s) :
    Keeps org (State.planAbort s p result) := by
  delta State.planAbort
  repeat' first
    | with_reducible assumption
    | with_reducible apply State.planEnd_keeps
    | with_reducible refine Keeps.ite ?_ ?_

theorem State.planRequest_keeps {org s : State} (n v : Nat) (h : Keeps org s) :
    Keeps org (State.planRequest s n v) := by
  delta State.planRequest
  repeat' first
    | with_reducible assumption
    | with_reducible apply State.setN_keeps
    | with_reducible apply State.land_keeps

theorem State.takeSnapshot_keeps {org s : State} (p i : Nat) (h : Keeps org s) :
    Keeps org (State.takeSnapshot s p i) := by
  delta State.takeSnapshot
  repeat' first
    | with_reducible assumption
    | with_reducible apply State.raisePlan_keeps
    | with_reducible apply State.setN_keeps
    | (extract_lets +onlyGivenNames letX; have letT : True := (by clear_value letX; guard_hyp letX : State; trivial); clear letT; refine Keeps.cut (r := org) (v := letX) ?_ (fun letH => ?_); (focus subst letX); rotate_left; clear_value letX; revert letX; intro _ _)
    | (extract_lets +onlyGivenNames letX; clear_value letX; revert letX; intro _)
    | with_reducible refine Keeps.iteP ?_ ?_
    | with_reducible refine forEach_keeps ?_ (fun _ _ _ => ?_)

theorem State.planOn_keeps {org s : State} (n : Nat) (h : Keeps org s) :
    Keeps org (State.planOn s n) := by
  delta State.planOn
  repeat' first
    | with_reducible assumption
    | with_reducible apply State.planRequest_keeps
    | with_reducible refine Keeps.ite ?_ ?_

theorem State.stepAct_keeps {org s : State} (p i : Nat) (h : Keeps org s) :
    Keeps org (State.stepAct s p i) := by
  delta State.stepAct
  repeat' first
    | with_reducible assumption
    | with_reducible apply State.setStep_keeps
    | with_reducible apply State.setN_keeps
    | with_reducible apply State.setFlag_keeps
    | with_reducible apply State.land_keeps
    | with_reducible apply State.takeSnapshot_keeps
    | with_reducible apply State.stepMoved_keeps
    | with_reducible apply State.planOn_keeps
    | with_reducible apply State.planRequest_keeps
    | (extract_lets +onlyGivenNames letX; have letT : True := (by clear_value letX; guard_hyp letX : State; trivial); clear letT; refine Keeps.cut (r := org) (v := letX) ?_ (fun letH => ?_); (focus subst letX); rotate_left; clear_value letX; revert letX; intro _ _)
    | (extract_lets +onlyGivenNames letX; clear_value letX; revert letX; intro _)
    | with_reducible refine Keeps.ite ?_ ?_
    | with_reducible refine Keeps.iteP ?_ ?_
    | with_reducible refine forEach_keeps ?_ (fun _ _ _ => ?_)
    | split

theorem State.stepTimer_keeps {org s : State} (p i : Nat) (progress : Bool) (h : Keeps org s) :
    Keeps org (State.stepTimer s p i progress) := by
  delta State.stepTimer
  repeat' first
    | with_reducible assumption
    | with_reducible apply State.setN_keeps
    | with_reducible apply State.setFlag_keeps
    | with_reducible apply State.stepMoved_keeps
    | (extract_lets +onlyGivenNames letX; have letT : True := (by clear_value letX; guard_hyp letX : State; trivial); clear letT; refine Keeps.cut (r := org) (v := letX) ?_ (fun letH => ?_); (focus subst letX); rotate_left; clear_value letX; revert letX; intro _ _)
    | (extract_lets +onlyGivenNames letX; clear_value letX; revert letX; intro _)
    | with_reducible refine Keeps.ite ?_ ?_
    | with_reducible refine Keeps.iteP ?_ ?_

theorem State.evalPending_keeps {org s : State} (p i : Nat) (h : Keeps org s) :
    Keeps org (State.evalPending s p i) := by
  delta State.evalPending
  repeat' first
    | with_reducible assumption
    | with_reducible apply State.setN_keeps
    | with_reducible apply State.stepAct_keeps
    | with_reducible apply State.setStep_keeps
    | with_reducible apply State.setFlag_keeps
    | (extract_lets +onlyGivenNames letX; have letT : True := (by clear_value letX; guard_hyp letX : State; trivial); clear letT; refine Keeps.cut (r := org) (v := letX) ?_ (fun letH => ?_); (focus subst letX); rotate_left; clear_value letX; revert letX; intro _ _)
    | (extract_lets +onlyGivenNames letX; clear_value letX; revert letX; intro _)
    | with_reducible refine Keeps.ite ?_ ?_
    | with_reducible refine Keeps.iteP ?_ ?_

theorem State.evalActing_keeps {org s : State} (p i : Nat) (h : Keeps org s) :
    Keeps org (State.evalActing s p i) := by
  delta State.evalActing
  repeat' first
    | with_reducible assumption
    | with_reducible apply State.setStep_keeps
    | with_reducible apply State.stepMoved_keeps
    | with_reducible apply State.setN_keeps
    | with_reducible apply State.stepTimer_keeps
    | (extract_lets +onlyGivenNames letX; have letT : True := (by clear_value letX; guard_hyp letX : State; trivial); clear letT; refine Keeps.cut (r := org) (v := letX) ?_ (fun letH => ?_); (focus subst letX); rotate_left; clear_value letX; revert letX; intro _ _)
    | (extract_lets +onlyGivenNames letX; clear_value letX; revert letX; intro _)
    | with_reducible refine Keeps.ite ?_ ?_
    | with_reducible refine Keeps.iteP ?_ ?_

theorem State.evalStep_keeps {org s : State} (p i : Nat) (h : Keeps org s) :
    Keeps org (State.evalStep s p i) := by
  delta State.evalStep
  repeat' first
    | with_reducible assumption
    | with_reducible apply State.stepSkip_keeps
    | with_reducible apply State.evalPending_keeps
    | with_reducible apply State.stepAct_keeps
    | with_reducible apply State.evalActing_keeps
    | with_reducible refine Keeps.ite ?_ ?_
    | split

theorem State.planSettle_keeps {org s : State} (p : Nat) (h : Keeps org s) :
    Keeps org (State.planSettle s p) := by
  delta State.planSettle
  repeat' first
    | with_reducible assumption
    | with_reducible apply State.planEnd_keeps
    | with_reducible apply State.setN_keeps
    | (extract_lets +onlyGivenNames letX; clear_value letX; revert letX; intro _)
    | with_reducible refine Keeps.ite ?_ ?_
    | with_reducible refine Keeps.iteP ?_ ?_

theorem State.planEvaluate_keeps {org s : State} (p : Nat) (h : Keeps org s) :
    Keeps org (State.planEvaluate s p) := by
  delta State.planEvaluate
  repeat' first
    | with_reducible assumption
    | with_reducible apply State.evalStep_keeps
    | with_reducible apply State.planSettle_keeps
    | with_reducible refine Keeps.ite ?_ ?_
    | with_reducible refine forBelow_keeps ?_ (fun _ _ _ => ?_)

theorem State.stepDelayEnd_keeps {org s : State} (p i : Nat) (h : Keeps org s) :
    Keeps org (State.stepDelayEnd s p i) := by
  delta State.stepDelayEnd
  repeat' first
    | with_reducible assumption
    | with_reducible apply State.stepAct_keeps
    | with_reducible apply State.planEvaluate_keeps
    | with_reducible refine Keeps.ite ?_ ?_

theorem State.stalemate_keeps {org s : State} (p i : Nat) (h : Keeps org s) :
    Keeps org (State.stalemate s p i) := by
  delta State.stalemate
  repeat' first
    | with_reducible assumption
    | with_reducible apply State.count_keeps
    | with_reducible apply State.raisePlan_keeps
    | with_reducible apply State.stepSkip_keeps
    | with_reducible apply State.planEvaluate_keeps
    | with_reducible apply State.planEnd_keeps
    | with_reducible apply State.setStep_keeps
    | with_reducible apply State.planSettle_keeps
    | (extract_lets +onlyGivenNames letX; have letT : True := (by clear_value letX; guard_hyp letX : State; trivial); clear letT; refine Keeps.cut (r := org) (v := letX) ?_ (fun letH => ?_); (focus subst letX); rotate_left; clear_value letX; revert letX; intro _ _)
    | (extract_lets +onlyGivenNames letX; clear_value letX; revert letX; intro _)
    | with_reducible refine Keeps.ite ?_ ?_
    | with_reducible refine Keeps.iteP ?_ ?_
    | split

theorem State.notDischarged_keeps {org s : State} (g n : Nat) (h : Keeps org s) :
    Keeps org (State.notDischarged s g n) := by
  delta State.notDischarged
  repeat' first
    | with_reducible assumption
    | with_reducible apply State.setBit_keeps
    | with_reducible apply State.setN_keeps
    | with_reducible apply State.count_keeps
    | with_reducible apply State.raiseChannel_keeps
    | (extract_lets +onlyGivenNames letX; have letT : True := (by clear_value letX; guard_hyp letX : State; trivial); clear letT; refine Keeps.cut (r := org) (v := letX) ?_ (fun letH => ?_); (focus subst letX); rotate_left; clear_value letX; revert letX; intro _ _)

theorem State.dischargeTimeout_keeps {org s : State} (p i : Nat) (h : Keeps org s) :
    Keeps org (State.dischargeTimeout s p i) := by
  delta State.dischargeTimeout
  repeat' first
    | with_reducible assumption
    | with_reducible apply State.notDischarged_keeps
    | with_reducible apply State.setStep_keeps
    | with_reducible apply State.stepMoved_keeps
    | with_reducible apply State.planEvaluate_keeps
    | (extract_lets +onlyGivenNames letX; have letT : True := (by clear_value letX; guard_hyp letX : State; trivial); clear letT; refine Keeps.cut (r := org) (v := letX) ?_ (fun letH => ?_); (focus subst letX); rotate_left; clear_value letX; revert letX; intro _ _)
    | (extract_lets +onlyGivenNames letX; clear_value letX; revert letX; intro _)
    | with_reducible refine Keeps.ite ?_ ?_
    | with_reducible refine Keeps.iteP ?_ ?_
    | with_reducible refine forEach_keeps ?_ (fun _ _ _ => ?_)

theorem State.planBegin_keeps {org s : State} (p trigger : Nat) (h : Keeps org s) :
    Keeps org (State.planBegin s p trigger) := by
  delta State.planBegin
  repeat' first
    | with_reducible assumption
    | with_reducible apply State.planAbort_keeps
    | with_reducible apply State.count_keeps
    | with_reducible apply State.setStep_keeps
    | with_reducible apply State.setN_keeps
    | with_reducible apply State.raisePlan_keeps
    | (extract_lets +onlyGivenNames letX; have letT : True := (by clear_value letX; guard_hyp letX : State; trivial); clear letT; refine Keeps.cut (r := org) (v := letX) ?_ (fun letH => ?_); (focus subst letX); rotate_left; clear_value letX; revert letX; intro _ _)
    | (extract_lets +onlyGivenNames letX; clear_value letX; revert letX; intro _)
    | with_reducible refine Keeps.ite ?_ ?_
    | with_reducible refine Keeps.iteP ?_ ?_
    | with_reducible refine forBelow_keeps ?_ (fun _ _ _ => ?_)

theorem State.planResolve_keeps {org s : State} (p op i : Nat) (h : Keeps org s) :
    Keeps org (State.planResolve s p op i) := by
  delta State.planResolve
  repeat' first
    | with_reducible assumption
    | with_reducible apply State.stepSkip_keeps
    | with_reducible apply State.setStep_keeps
    | with_reducible apply State.setN_keeps
    | with_reducible refine Keeps.ite ?_ ?_

theorem State.endgameTrigger_keeps {org s : State} (us : Nat) (h : Keeps org s) :
    Keeps org (State.endgameTrigger s us) := by
  delta State.endgameTrigger
  repeat' first
    | with_reducible assumption
    | with_reducible apply State.setN_keeps
    | (extract_lets +onlyGivenNames letX; clear_value letX; revert letX; intro _)
    | with_reducible refine Keeps.ite ?_ ?_
    | with_reducible refine Keeps.iteP ?_ ?_
    | with_reducible refine forBelow_keeps ?_ (fun _ _ _ => ?_)

theorem State.endgameBoundary_keeps {org s : State} (h : Keeps org s) :
    Keeps org (State.endgameBoundary s) := by
  delta State.endgameBoundary
  repeat' first
    | with_reducible assumption
    | with_reducible apply State.planBegin_keeps
    | with_reducible apply State.setN_keeps
    | (extract_lets +onlyGivenNames letX; have letT : True := (by clear_value letX; guard_hyp letX : State; trivial); clear letT; refine Keeps.cut (r := org) (v := letX) ?_ (fun letH => ?_); (focus subst letX); rotate_left; clear_value letX; revert letX; intro _ _)
    | (extract_lets +onlyGivenNames letX; clear_value letX; revert letX; intro _)
    | with_reducible refine Keeps.ite ?_ ?_
    | with_reducible refine Keeps.iteP ?_ ?_

theorem execStepDelayEnd_runs {org s : State} (p : Fin 2) (i : Fin 128) (h : Keeps org s) :
    Runs org (execStepDelayEnd p i s) := by
  delta execStepDelayEnd
  repeat' first
    | with_reducible assumption
    | with_reducible refine Runs.next ?_
    | with_reducible apply State.stepDelayEnd_keeps
    | with_reducible refine Runs.ite ?_ ?_

theorem execStalemate_runs {org s : State} (p : Fin 2) (i : Fin 128) (h : Keeps org s) :
    Runs org (execStalemate p i s) := by
  delta execStalemate
  repeat' first
    | with_reducible assumption
    | with_reducible refine Runs.next ?_
    | with_reducible apply State.stalemate_keeps
    | with_reducible refine Runs.ite ?_ ?_

theorem execDischargeTimeout_runs {org s : State} (p : Fin 2) (i : Fin 128) (h : Keeps org s) :
    Runs org (execDischargeTimeout p i s) := by
  delta execDischargeTimeout
  repeat' first
    | with_reducible assumption
    | with_reducible refine Runs.next ?_
    | with_reducible apply State.dischargeTimeout_keeps
    | with_reducible refine Runs.ite ?_ ?_

theorem execEndgameTrigger_runs {org s : State} (us : Nat) (h : Keeps org s) :
    Runs org (execEndgameTrigger us s) := by
  delta execEndgameTrigger
  repeat' first
    | with_reducible assumption
    | with_reducible refine Runs.next ?_
    | with_reducible apply State.endgameTrigger_keeps
    | with_reducible refine Runs.ite ?_ ?_

theorem State.setRing_keeps {org s : State} (q : Nat) (recs : List Record) (h : Keeps org s) :
    Keeps org (State.setRing s q recs) := by
  delta State.setRing
  repeat' first
    | with_reducible assumption
    | with_reducible refine Keeps.update ?_

theorem State.tgRaise_keeps {org s : State} (g : Nat) (h : Keeps org s) :
    Keeps org (State.tgRaise s g) := by
  delta State.tgRaise
  repeat' first
    | with_reducible assumption
    | with_reducible apply State.setBit_keeps
    | with_reducible apply State.wrapCount_keeps
    | with_reducible apply State.setN_keeps
    | with_reducible apply State.emit_keeps
    | (extract_lets +onlyGivenNames letX; have letT : True := (by clear_value letX; guard_hyp letX : State; trivial); clear letT; refine Keeps.cut (r := org) (v := letX) ?_ (fun letH => ?_); (focus subst letX); rotate_left; clear_value letX; revert letX; intro _ _)
    | with_reducible refine Keeps.ite ?_ ?_
    | with_reducible refine Keeps.iteP ?_ ?_

theorem State.tgMore_keeps {org s : State} (g n : Nat) (h : Keeps org s) :
    Keeps org (State.tgMore s g n) := by
  delta State.tgMore
  repeat' first
    | with_reducible assumption
    | with_reducible apply State.setBit_keeps
    | with_reducible apply State.setN_keeps
    | with_reducible apply State.tgRaise_keeps
    | (extract_lets +onlyGivenNames letX; have letT : True := (by clear_value letX; guard_hyp letX : State; trivial); clear letT; refine Keeps.cut (r := org) (v := letX) ?_ (fun letH => ?_); (focus subst letX); rotate_left; clear_value letX; revert letX; intro _ _)
    | with_reducible refine Keeps.ite ?_ ?_
    | with_reducible refine Keeps.iteP ?_ ?_

theorem State.tgSettle_keeps {org s : State} (h : Keeps org s) :
    Keeps org (State.tgSettle s) := by
  delta State.tgSettle
  repeat' first
    | with_reducible assumption
    | with_reducible apply State.setBit_keeps
    | with_reducible apply State.setN_keeps
    | (extract_lets +onlyGivenNames letX; have letT : True := (by clear_value letX; guard_hyp letX : State; trivial); clear letT; refine Keeps.cut (r := org) (v := letX) ?_ (fun letH => ?_); (focus subst letX); rotate_left; clear_value letX; revert letX; intro _ _)
    | with_reducible refine Keeps.ite ?_ ?_
    | with_reducible refine Keeps.iteP ?_ ?_
    | with_reducible refine forBelow_keeps ?_ (fun _ _ _ => ?_)

theorem State.tgArm_keeps {org s : State} (g : Nat) (h : Keeps org s) :
    Keeps org (State.tgArm s g) := by
  delta State.tgArm
  repeat' first
    | with_reducible assumption
    | with_reducible apply State.setBit_keeps
    | with_reducible apply State.tgRaise_keeps
    | (extract_lets +onlyGivenNames letX; have letT : True := (by clear_value letX; guard_hyp letX : State; trivial); clear letT; refine Keeps.cut (r := org) (v := letX) ?_ (fun letH => ?_); (focus subst letX); rotate_left; clear_value letX; revert letX; intro _ _)
    | with_reducible refine Keeps.ite ?_ ?_
    | with_reducible refine Keeps.iteP ?_ ?_

theorem State.tgTimeout_keeps {org s : State} (g : Nat) (h : Keeps org s) :
    Keeps org (State.tgTimeout s g) := by
  delta State.tgTimeout
  repeat' first
    | with_reducible assumption
    | with_reducible apply State.tgRaise_keeps
    | with_reducible refine Keeps.ite ?_ ?_

theorem State.tgHoldChange_keeps {org s : State} (excess : Nat → Bool) (h : Keeps org s) :
    Keeps org (State.tgHoldChange s excess) := by
  delta State.tgHoldChange
  repeat' first
    | with_reducible assumption
    | with_reducible apply State.setBit_keeps
    | with_reducible apply State.tgRaise_keeps
    | (extract_lets +onlyGivenNames letX; have letT : True := (by clear_value letX; guard_hyp letX : State; trivial); clear letT; refine Keeps.cut (r := org) (v := letX) ?_ (fun letH => ?_); (focus subst letX); rotate_left; clear_value letX; revert letX; intro _ _)
    | (extract_lets +onlyGivenNames letX; clear_value letX; revert letX; intro _)
    | with_reducible refine Keeps.ite ?_ ?_
    | with_reducible refine Keeps.iteP ?_ ?_
    | with_reducible refine forBelow_keeps ?_ (fun _ _ _ => ?_)

theorem State.tenantHold_keeps {org s : State} (t : Nat) (on : Bool) (h : Keeps org s) :
    Keeps org (State.tenantHold s t on) := by
  delta State.tenantHold
  repeat' first
    | with_reducible assumption
    | with_reducible apply State.setFlag_keeps
    | with_reducible apply State.tgHoldChange_keeps
    | with_reducible apply State.raise_keeps
    | (extract_lets +onlyGivenNames letX; have letT : True := (by clear_value letX; guard_hyp letX : State; trivial); clear letT; refine Keeps.cut (r := org) (v := letX) ?_ (fun letH => ?_); (focus subst letX); rotate_left; clear_value letX; revert letX; intro _ _)
    | (extract_lets +onlyGivenNames letX; clear_value letX; revert letX; intro _)
    | with_reducible refine Keeps.ite ?_ ?_
    | with_reducible refine Keeps.iteP ?_ ?_

theorem State.deviceHold_keeps {org s : State} (v : Nat) (h : Keeps org s) :
    Keeps org (State.deviceHold s v) := by
  delta State.deviceHold
  repeat' first
    | with_reducible assumption
    | with_reducible apply State.setN_keeps
    | with_reducible apply State.tgHoldChange_keeps
    | with_reducible apply State.raise_keeps
    | (extract_lets +onlyGivenNames letX; have letT : True := (by clear_value letX; guard_hyp letX : State; trivial); clear letT; refine Keeps.cut (r := org) (v := letX) ?_ (fun letH => ?_); (focus subst letX); rotate_left; clear_value letX; revert letX; intro _ _)
    | (extract_lets +onlyGivenNames letX; clear_value letX; revert letX; intro _)
    | with_reducible refine Keeps.ite ?_ ?_
    | with_reducible refine Keeps.iteP ?_ ?_

theorem State.tgEnable_keeps {org s : State} (g : Nat) (on : Bool) (h : Keeps org s) :
    Keeps org (State.tgEnable s g on) := by
  delta State.tgEnable
  repeat' first
    | with_reducible assumption
    | with_reducible apply State.setBit_keeps
    | with_reducible apply State.setN_keeps
    | with_reducible refine Keeps.ite ?_ ?_

theorem State.msixUnmask_keeps {org s : State} (g : Nat) (h : Keeps org s) :
    Keeps org (State.msixUnmask s g) := by
  delta State.msixUnmask
  repeat' first
    | with_reducible assumption
    | with_reducible apply State.setN_keeps
    | with_reducible apply State.emit_keeps
    | (extract_lets +onlyGivenNames letX; have letT : True := (by clear_value letX; guard_hyp letX : State; trivial); clear letT; refine Keeps.cut (r := org) (v := letX) ?_ (fun letH => ?_); (focus subst letX); rotate_left; clear_value letX; revert letX; intro _ _)
    | (extract_lets +onlyGivenNames letX; clear_value letX; revert letX; intro _)
    | with_reducible refine Keeps.ite ?_ ?_
    | with_reducible refine Keeps.iteP ?_ ?_

theorem State.takeSeq_keeps {org s : State} (q : Nat) (h : Keeps org s) :
    Keeps org (State.takeSeq s q).2 := by
  delta State.takeSeq
  repeat' first
    | with_reducible assumption
    | with_reducible apply State.wrapCount_keeps
    | with_reducible refine Keeps.iteP ?_ ?_

theorem State.enter_keeps {org s : State} (q : Nat) (recs : List Record) (h : Keeps org s) :
    Keeps org (State.enter s q recs) := by
  delta State.enter
  repeat' first
    | with_reducible assumption
    | with_reducible apply State.takeSeq_keeps
    | with_reducible apply State.setRing_keeps
    | with_reducible apply State.wrapCount_keeps
    | with_reducible apply State.setN_keeps
    | with_reducible apply State.tgMore_keeps
    | (extract_lets +onlyGivenNames letX; have letT : True := (by clear_value letX; guard_hyp letX : State; trivial); clear letT; refine Keeps.cut (r := org) (v := letX) ?_ (fun letH => ?_); (focus subst letX); rotate_left; clear_value letX; revert letX; intro _ _)
    | (extract_lets +onlyGivenNames letX; have letT : True := (by clear_value letX; revert letX; with_reducible exact Keeps.isPair); clear letT; refine Keeps.cut (r := org) (v := letX.2) ?_ (fun letH => ?_); (focus subst letX); rotate_left; clear_value letX; revert letX; intro _ _)
    | (extract_lets +onlyGivenNames letX; clear_value letX; revert letX; intro _)
    | with_reducible refine Keeps.ite ?_ ?_
    | with_reducible refine Keeps.iteP ?_ ?_
    | with_reducible refine forEach_keeps ?_ (fun _ _ _ => ?_)
    | with_reducible refine Keeps.update ?_

theorem State.marker_keeps {org s : State} (q : Nat) (h : Keeps org s) :
    Keeps org (State.marker s q) := by
  delta State.marker
  repeat' first
    | with_reducible assumption
    | with_reducible apply State.setN_keeps
    | with_reducible apply State.enter_keeps
    | (extract_lets +onlyGivenNames letX; clear_value letX; revert letX; intro _)
    | with_reducible refine Keeps.ite ?_ ?_
    | with_reducible refine Keeps.iteP ?_ ?_

theorem State.dropAt_keeps {org s : State} (q stamp n : Nat) (h : Keeps org s) :
    Keeps org (State.dropAt s q stamp n) := by
  delta State.dropAt
  repeat' first
    | with_reducible assumption
    | with_reducible apply State.setRing_keeps
    | with_reducible apply State.setN_keeps
    | with_reducible apply State.marker_keeps
    | (extract_lets +onlyGivenNames letX; have letT : True := (by clear_value letX; guard_hyp letX : State; trivial); clear letT; refine Keeps.cut (r := org) (v := letX) ?_ (fun letH => ?_); (focus subst letX); rotate_left; clear_value letX; revert letX; intro _ _)
    | with_reducible refine Keeps.ite ?_ ?_
    | with_reducible refine Keeps.iteP ?_ ?_

theorem State.arrive_keeps {org s : State} (q : Nat) (recs : List Record) (h : Keeps org s) :
    Keeps org (State.arrive s q recs) := by
  delta State.arrive
  repeat' first
    | with_reducible assumption
    | with_reducible apply State.marker_keeps
    | with_reducible apply State.setN_keeps
    | with_reducible apply State.enter_keeps
    | with_reducible apply State.dropAt_keeps
    | (extract_lets +onlyGivenNames letX; have letT : True := (by clear_value letX; guard_hyp letX : State; trivial); clear letT; refine Keeps.cut (r := org) (v := letX) ?_ (fun letH => ?_); (focus subst letX); rotate_left; clear_value letX; revert letX; intro _ _)
    | (extract_lets +onlyGivenNames letX; clear_value letX; revert letX; intro _)
    | with_reducible refine Keeps.ite ?_ ?_
    | with_reducible refine Keeps.iteP ?_ ?_
    | with_reducible refine Keeps.update ?_

theorem State.placeRecord_keeps {org s : State} (p : Placing) (h : Keeps org s) :
    Keeps org (State.placeRecord s p) := by
  delta State.placeRecord
  repeat' first
    | with_reducible assumption
    | with_reducible apply State.arrive_keeps
    | (extract_lets +onlyGivenNames letX; clear_value letX; revert letX; intro _)
    | with_reducible refine Keeps.iteP ?_ ?_
    | with_reducible refine forEach_keeps ?_ (fun _ _ _ => ?_)
    | split

theorem State.recordPlaced_keeps {org s : State} (h : Keeps org s) :
    Keeps org (State.recordPlaced s) := by
  delta State.recordPlaced
  repeat' first
    | with_reducible assumption
    | with_reducible apply State.setN_keeps
    | with_reducible apply State.placeRecord_keeps
    | (extract_lets +onlyGivenNames letX; have letT : True := (by clear_value letX; guard_hyp letX : State; trivial); clear letT; refine Keeps.cut (r := org) (v := letX) ?_ (fun letH => ?_); (focus subst letX); rotate_left; clear_value letX; revert letX; intro _ _)
    | with_reducible refine Keeps.iteP ?_ ?_
    | split
    | with_reducible refine Keeps.update ?_

theorem State.afterPop_keeps {org s : State} (q n : Nat) (h : Keeps org s) :
    Keeps org (State.afterPop s q n) := by
  delta State.afterPop
  repeat' first
    | with_reducible assumption
    | with_reducible apply State.setRing_keeps
    | with_reducible apply State.marker_keeps
    | with_reducible apply State.tgSettle_keeps

theorem State.flushRing_keeps {org s : State} (q : Nat) (h : Keeps org s) :
    Keeps org (State.flushRing s q) := by
  delta State.flushRing
  repeat' first
    | with_reducible assumption
    | with_reducible apply State.setRing_keeps
    | with_reducible apply State.setN_keeps
    | with_reducible apply State.tgSettle_keeps

theorem State.ringResize_keeps {org s : State} (q : Nat) (h : Keeps org s) :
    Keeps org (State.ringResize s q) := by
  delta State.ringResize
  repeat' first
    | with_reducible assumption
    | with_reducible apply State.marker_keeps
    | with_reducible apply State.setRing_keeps
    | with_reducible apply State.setN_keeps
    | with_reducible apply State.tgSettle_keeps
    | (extract_lets +onlyGivenNames letX; have letT : True := (by clear_value letX; guard_hyp letX : State; trivial); clear letT; refine Keeps.cut (r := org) (v := letX) ?_ (fun letH => ?_); (focus subst letX); rotate_left; clear_value letX; revert letX; intro _ _)
    | (extract_lets +onlyGivenNames letX; clear_value letX; revert letX; intro _)
    | with_reducible refine Keeps.ite ?_ ?_
    | with_reducible refine Keeps.iteP ?_ ?_

theorem State.ringRestart_keeps {org s : State} (q : Nat) (h : Keeps org s) :
    Keeps org (State.ringRestart s q) := by
  delta State.ringRestart
  repeat' first
    | with_reducible assumption
    | with_reducible apply State.flushRing_keeps
    | with_reducible apply State.setN_keeps

theorem State.ringMoves_keeps {org s : State} (q : Nat) (h : Keeps org s) :
    Keeps org (State.ringMoves s q) := by
  delta State.ringMoves
  repeat' first
    | with_reducible assumption
    | with_reducible apply State.ringRestart_keeps
    | with_reducible apply State.setN_keeps
    | with_reducible apply State.restore_keeps
    | (extract_lets +onlyGivenNames letX; have letT : True := (by clear_value letX; guard_hyp letX : State; trivial); clear letT; refine Keeps.cut (r := org) (v := letX) ?_ (fun letH => ?_); (focus subst letX); rotate_left; clear_value letX; revert letX; intro _ _)

theorem State.fenceWrite_keeps {org s : State} (t v : Nat) (h : Keeps org s) :
    Keeps org (State.fenceWrite s t v) := by
  delta State.fenceWrite
  repeat' first
    | with_reducible assumption
    | with_reducible apply State.setN_keeps
    | (extract_lets +onlyGivenNames letX; have letT : True := (by clear_value letX; guard_hyp letX : State; trivial); clear letT; refine Keeps.cut (r := org) (v := letX) ?_ (fun letH => ?_); (focus subst letX); rotate_left; clear_value letX; revert letX; intro _ _)
    | (extract_lets +onlyGivenNames letX; clear_value letX; revert letX; intro _)
    | with_reducible refine Keeps.ite ?_ ?_
    | with_reducible refine Keeps.iteP ?_ ?_
    | with_reducible refine Keeps.update ?_

theorem State.fenceReport_keeps {org s : State} (d stamp : Nat) (h : Keeps org s) :
    Keeps org (State.fenceReport s d stamp) := by
  delta State.fenceReport
  repeat' first
    | with_reducible assumption
    | with_reducible refine Keeps.ite ?_ ?_
    | with_reducible refine Keeps.update ?_

theorem State.fenceExcuse_keeps {org s : State} (d : Nat) (h : Keeps org s) :
    Keeps org (State.fenceExcuse s d) := by
  delta State.fenceExcuse
  repeat' first
    | with_reducible assumption
    | with_reducible refine Keeps.ite ?_ ?_
    | with_reducible refine Keeps.update ?_

theorem State.placeFence_keeps {org s : State} (f : Fence) (q : Nat) (h : Keeps org s) :
    Keeps org (State.placeFence s f q) := by
  delta State.placeFence
  repeat' first
    | with_reducible assumption
    | with_reducible apply State.marker_keeps
    | with_reducible apply State.arrive_keeps
    | with_reducible apply State.setN_keeps
    | (extract_lets +onlyGivenNames letX; have letT : True := (by clear_value letX; guard_hyp letX : State; trivial); clear letT; refine Keeps.cut (r := org) (v := letX) ?_ (fun letH => ?_); (focus subst letX); rotate_left; clear_value letX; revert letX; intro _ _)
    | (extract_lets +onlyGivenNames letX; clear_value letX; revert letX; intro _)
    | with_reducible refine Keeps.ite ?_ ?_
    | with_reducible refine Keeps.iteP ?_ ?_

theorem State.fencePlaced_keeps {org s : State} (h : Keeps org s) :
    Keeps org (State.fencePlaced s) := by
  delta State.fencePlaced
  repeat' first
    | with_reducible assumption
    | with_reducible apply State.placeFence_keeps
    | with_reducible apply State.setN_keeps
    | (extract_lets +onlyGivenNames letX; have letT : True := (by clear_value letX; guard_hyp letX : State; trivial); clear letT; refine Keeps.cut (r := org) (v := letX) ?_ (fun letH => ?_); (focus subst letX); rotate_left; clear_value letX; revert letX; intro _ _)
    | (extract_lets +onlyGivenNames letX; clear_value letX; revert letX; intro _)
    | with_reducible refine Keeps.ite ?_ ?_
    | with_reducible refine Keeps.iteP ?_ ?_
    | with_reducible refine forEach_keeps ?_ (fun _ _ _ => ?_)
    | split
    | with_reducible refine Keeps.update ?_

theorem State.fenceCancel_keeps {org s : State} (t : Nat) (h : Keeps org s) :
    Keeps org (State.fenceCancel s t) := by
  delta State.fenceCancel
  repeat' first
    | with_reducible assumption
    | with_reducible refine Keeps.update ?_

theorem State.eraAdvanced_keeps {org s : State} (h : Keeps org s) :
    Keeps org (State.eraAdvanced s) := by
  delta State.eraAdvanced
  repeat' first
    | with_reducible assumption
    | with_reducible apply State.setN_keeps
    | with_reducible apply State.raise_keeps
    | (extract_lets +onlyGivenNames letX; have letT : True := (by clear_value letX; guard_hyp letX : State; trivial); clear letT; refine Keeps.cut (r := org) (v := letX) ?_ (fun letH => ?_); (focus subst letX); rotate_left; clear_value letX; revert letX; intro _ _)
    | with_reducible refine Keeps.ite ?_ ?_
    | with_reducible refine Keeps.iteP ?_ ?_

theorem execRecordPlaced_runs {org s : State} (h : Keeps org s) :
    Runs org (execRecordPlaced s) := by
  delta execRecordPlaced
  repeat' first
    | with_reducible assumption
    | with_reducible refine Runs.next ?_
    | with_reducible apply State.recordPlaced_keeps
    | with_reducible refine Runs.ite ?_ ?_

theorem execTargetModerationTimeout_runs {org s : State} (g : TargetId) (h : Keeps org s) :
    Runs org (execTargetModerationTimeout g s) := by
  delta execTargetModerationTimeout
  repeat' first
    | with_reducible assumption
    | with_reducible refine Runs.next ?_
    | with_reducible apply State.tgTimeout_keeps
    | with_reducible refine Runs.ite ?_ ?_

theorem execFencePlaced_runs {org s : State} (h : Keeps org s) :
    Runs org (execFencePlaced s) := by
  delta execFencePlaced
  repeat' first
    | with_reducible assumption
    | with_reducible refine Runs.next ?_
    | with_reducible apply State.fencePlaced_keeps
    | with_reducible refine Runs.ite ?_ ?_

theorem execEraAdvanced_runs {org s : State} (h : Keeps org s) :
    Runs org (execEraAdvanced s) := by
  delta execEraAdvanced
  repeat' first
    | with_reducible assumption
    | with_reducible refine Runs.next ?_
    | with_reducible apply State.eraAdvanced_keeps
    | with_reducible refine Runs.ite ?_ ?_

theorem execMsixUnmask_runs {org s : State} (f : Func) (v : Fin 12) (h : Keeps org s) :
    Runs org (execMsixUnmask f v s) := by
  delta execMsixUnmask
  repeat' first
    | with_reducible assumption
    | with_reducible refine Runs.next ?_
    | with_reducible apply State.msixUnmask_keeps
    | with_reducible refine Runs.ite ?_ ?_

theorem State.wdPeriod_keeps {org s : State} (t at_ : Nat) (h : Keeps org s) :
    Keeps org (State.wdPeriod s t at_) := by
  delta State.wdPeriod
  repeat' first
    | with_reducible assumption
    | with_reducible apply State.setFree_keeps
    | with_reducible apply State.setN_keeps
    | (extract_lets +onlyGivenNames letX; have letT : True := (by clear_value letX; guard_hyp letX : State; trivial); clear letT; refine Keeps.cut (r := org) (v := letX) ?_ (fun letH => ?_); (focus subst letX); rotate_left; clear_value letX; revert letX; intro _ _)

theorem State.wdExpire_keeps {org s : State} (t cause : Nat) (h : Keeps org s) :
    Keeps org (State.wdExpire s t cause) := by
  delta State.wdExpire
  repeat' first
    | with_reducible assumption
    | with_reducible apply State.setN_keeps
    | with_reducible apply State.count_keeps
    | with_reducible apply State.raise_keeps
    | (extract_lets +onlyGivenNames letX; have letT : True := (by clear_value letX; guard_hyp letX : State; trivial); clear letT; refine Keeps.cut (r := org) (v := letX) ?_ (fun letH => ?_); (focus subst letX); rotate_left; clear_value letX; revert letX; intro _ _)

theorem State.wdPeriodEnd_keeps {org s : State} (t : Nat) (h : Keeps org s) :
    Keeps org (State.wdPeriodEnd s t) := by
  delta State.wdPeriodEnd
  repeat' first
    | with_reducible assumption
    | with_reducible apply State.wdPeriod_keeps
    | with_reducible apply State.wdExpire_keeps
    | with_reducible refine Keeps.ite ?_ ?_

theorem State.wdAdjournEnd_keeps {org s : State} (t : Nat) (h : Keeps org s) :
    Keeps org (State.wdAdjournEnd s t) := by
  delta State.wdAdjournEnd
  repeat' first
    | with_reducible assumption
    | with_reducible apply State.wdExpire_keeps
    | with_reducible refine Keeps.ite ?_ ?_

theorem State.wdClosedHalf_keeps {org s : State} (t : Nat) (h : Keeps org s) :
    Keeps org (State.wdClosedHalf s t) := by
  delta State.wdClosedHalf
  repeat' first
    | with_reducible assumption
    | with_reducible apply State.setN_keeps
    | with_reducible refine Keeps.ite ?_ ?_

theorem State.wdDue_keeps {org s : State} (t : Nat) (h : Keeps org s) :
    Keeps org (State.wdDue s t) := by
  delta State.wdDue
  repeat' first
    | with_reducible assumption
    | with_reducible apply State.wdPeriodEnd_keeps
    | with_reducible apply State.wdAdjournEnd_keeps
    | with_reducible apply State.wdClosedHalf_keeps

theorem State.wdArm_keeps {org s : State} (t v : Nat) (h : Keeps org s) :
    Keeps org (State.wdArm s t v) := by
  delta State.wdArm
  repeat' first
    | with_reducible assumption
    | with_reducible apply State.setN_keeps
    | with_reducible apply State.wdPeriod_keeps
    | with_reducible apply State.raise_keeps
    | (extract_lets +onlyGivenNames letX; have letT : True := (by clear_value letX; guard_hyp letX : State; trivial); clear letT; refine Keeps.cut (r := org) (v := letX) ?_ (fun letH => ?_); (focus subst letX); rotate_left; clear_value letX; revert letX; intro _ _)

theorem State.wdAnswer_keeps {org s : State} (t token : Nat) (h : Keeps org s) :
    Keeps org (State.wdAnswer s t token) := by
  delta State.wdAnswer
  repeat' first
    | with_reducible assumption
    | with_reducible apply State.wrapCount_keeps
    | with_reducible apply State.setN_keeps
    | with_reducible apply State.wdPeriod_keeps
    | with_reducible apply State.count_keeps
    | with_reducible apply State.raise_keeps
    | with_reducible apply State.wdExpire_keeps
    | (extract_lets +onlyGivenNames letX; have letT : True := (by clear_value letX; guard_hyp letX : State; trivial); clear letT; refine Keeps.cut (r := org) (v := letX) ?_ (fun letH => ?_); (focus subst letX); rotate_left; clear_value letX; revert letX; intro _ _)
    | with_reducible refine Keeps.ite ?_ ?_
    | with_reducible refine Keeps.iteP ?_ ?_
    | split

theorem State.wdAdjourn_keeps {org s : State} (t ms : Nat) (h : Keeps org s) :
    Keeps org (State.wdAdjourn s t ms) := by
  delta State.wdAdjourn
  repeat' first
    | with_reducible assumption
    | with_reducible apply State.setN_keeps
    | with_reducible apply State.wdPeriod_keeps
    | with_reducible apply State.raise_keeps
    | (extract_lets +onlyGivenNames letX; have letT : True := (by clear_value letX; guard_hyp letX : State; trivial); clear letT; refine Keeps.cut (r := org) (v := letX) ?_ (fun letH => ?_); (focus subst letX); rotate_left; clear_value letX; revert letX; intro _ _)

theorem State.wdDisarm_keeps {org s : State} (t : Nat) (h : Keeps org s) :
    Keeps org (State.wdDisarm s t) := by
  delta State.wdDisarm
  repeat' first
    | with_reducible assumption
    | with_reducible apply State.setN_keeps
    | (extract_lets +onlyGivenNames letX; have letT : True := (by clear_value letX; guard_hyp letX : State; trivial); clear letT; refine Keeps.cut (r := org) (v := letX) ?_ (fun letH => ?_); (focus subst letX); rotate_left; clear_value letX; revert letX; intro _ _)

theorem State.wdCopy_keeps {org s : State} (h : Keeps org s) :
    Keeps org (State.wdCopy s) := by
  delta State.wdCopy
  repeat' first
    | with_reducible assumption
    | with_reducible apply State.setN_keeps
    | (extract_lets +onlyGivenNames letX; have letT : True := (by clear_value letX; guard_hyp letX : State; trivial); clear letT; refine Keeps.cut (r := org) (v := letX) ?_ (fun letH => ?_); (focus subst letX); rotate_left; clear_value letX; revert letX; intro _ _)
    | with_reducible refine Keeps.iteP ?_ ?_
    | with_reducible refine forBelow_keeps ?_ (fun _ _ _ => ?_)

theorem State.wdForget_keeps {org s : State} (h : Keeps org s) :
    Keeps org (State.wdForget s) := by
  delta State.wdForget
  repeat' first
    | with_reducible assumption
    | with_reducible apply State.setN_keeps
    | (extract_lets +onlyGivenNames letX; have letT : True := (by clear_value letX; guard_hyp letX : State; trivial); clear letT; refine Keeps.cut (r := org) (v := letX) ?_ (fun letH => ?_); (focus subst letX); rotate_left; clear_value letX; revert letX; intro _ _)
    | with_reducible refine Keeps.iteP ?_ ?_
    | with_reducible refine forBelow_keeps ?_ (fun _ _ _ => ?_)

theorem State.wdxServe_keeps {org s : State} (h : Keeps org s) :
    Keeps org (State.wdxServe s) := by
  delta State.wdxServe
  repeat' first
    | with_reducible assumption
    | with_reducible apply State.setN_keeps

theorem State.wdxExpires_keeps {org s : State} (h : Keeps org s) :
    Keeps org (State.wdxExpires s) := by
  delta State.wdxExpires
  repeat' first
    | with_reducible assumption
    | with_reducible apply State.count_keeps
    | with_reducible apply State.setN_keeps
    | (extract_lets +onlyGivenNames letX; have letT : True := (by clear_value letX; guard_hyp letX : State; trivial); clear letT; refine Keeps.cut (r := org) (v := letX) ?_ (fun letH => ?_); (focus subst letX); rotate_left; clear_value letX; revert letX; intro _ _)

theorem execWatchdogClosedHalf_runs {org s : State} (t : Tenant) (h : Keeps org s) :
    Runs org (execWatchdogClosedHalf t s) := by
  delta execWatchdogClosedHalf
  repeat' first
    | with_reducible assumption
    | with_reducible refine Runs.next ?_
    | with_reducible apply State.wdClosedHalf_keeps
    | with_reducible refine Runs.ite ?_ ?_

theorem execWatchdogPeriodEnd_runs {org s : State} (t : Tenant) (h : Keeps org s) :
    Runs org (execWatchdogPeriodEnd t s) := by
  delta execWatchdogPeriodEnd
  repeat' first
    | with_reducible assumption
    | with_reducible refine Runs.next ?_
    | with_reducible apply State.wdPeriodEnd_keeps
    | with_reducible refine Runs.ite ?_ ?_

theorem execAdjournEnd_runs {org s : State} (t : Tenant) (h : Keeps org s) :
    Runs org (execAdjournEnd t s) := by
  delta execAdjournEnd
  repeat' first
    | with_reducible assumption
    | with_reducible refine Runs.next ?_
    | with_reducible apply State.wdAdjournEnd_keeps
    | with_reducible refine Runs.ite ?_ ?_

theorem State.overlay_keeps {org s : State} (vals : List (Nat × Int)) (h : Keeps org s) :
    Keeps org (State.overlay s vals) := by
  delta State.overlay
  repeat' first
    | with_reducible assumption
    | with_reducible apply State.set_keeps
    | with_reducible refine forEach_keeps ?_ (fun _ _ _ => ?_)

theorem State.control_keeps {org s : State} (h : Keeps org s) :
    Keeps org (State.control s) := by
  delta State.control
  repeat' first
    | with_reducible assumption
    | with_reducible apply State.overlay_keeps

theorem State.accept_keeps {org s : State} (t : Nat) (a : LandAct) (h : Keeps org s) :
    Keeps org (State.accept s t a) := by
  delta State.accept
  repeat' first
    | with_reducible assumption
    | with_reducible apply State.land_keeps
    | (extract_lets +onlyGivenNames letX; clear_value letX; revert letX; intro _)

theorem State.barrierWrite_keeps {org s : State} (t id : Nat) (h : Keeps org s) :
    Keeps org (State.barrierWrite s t id) := by
  delta State.barrierWrite
  repeat' first
    | with_reducible assumption
    | with_reducible apply State.setN_keeps
    | (extract_lets +onlyGivenNames letX; clear_value letX; revert letX; intro _)
    | with_reducible refine Keeps.iteP ?_ ?_
    | split
    | with_reducible refine Keeps.update ?_

theorem State.stage_keeps {org s : State} (t key : Nat) (v : Int) (h : Keeps org s) :
    Keeps org (State.stage s t key v) := by
  delta State.stage
  repeat' first
    | with_reducible assumption
    | (extract_lets +onlyGivenNames letX; clear_value letX; revert letX; intro _)
    | with_reducible refine Keeps.ite ?_ ?_
    | with_reducible refine Keeps.iteP ?_ ?_
    | with_reducible refine Keeps.update ?_

theorem State.unstage_keeps {org s : State} (t : Nat) (h : Keeps org s) :
    Keeps org (State.unstage s t) := by
  delta State.unstage
  repeat' first
    | with_reducible assumption
    | with_reducible refine Keeps.update ?_

theorem State.ackStaging_keeps {org s : State} (d : Nat) (h : Keeps org s) :
    Keeps org (State.ackStaging s d) := by
  delta State.ackStaging
  repeat' first
    | with_reducible assumption
    | with_reducible refine Keeps.ite ?_ ?_
    | with_reducible refine Keeps.update ?_

theorem State.raiseServer_keeps {org s : State} (k : Kind) (t : Nat) (fields : List (Nat × Int)) (h : Keeps org s) :
    Keeps org (State.raiseServer s k t fields) := by
  delta State.raiseServer
  repeat' first
    | with_reducible assumption
    | with_reducible apply State.raise_keeps

theorem State.commitReject_keeps {org s : State} (t reason obj : Nat) (h : Keeps org s) :
    Keeps org (State.commitReject s t reason obj) := by
  delta State.commitReject
  repeat' first
    | with_reducible assumption
    | with_reducible apply State.setN_keeps
    | with_reducible apply State.unstage_keeps
    | with_reducible apply State.raiseServer_keeps
    | (extract_lets +onlyGivenNames letX; have letT : True := (by clear_value letX; guard_hyp letX : State; trivial); clear letT; refine Keeps.cut (r := org) (v := letX) ?_ (fun letH => ?_); (focus subst letX); rotate_left; clear_value letX; revert letX; intro _ _)
    | with_reducible refine Keeps.ite ?_ ?_
    | with_reducible refine Keeps.iteP ?_ ?_

theorem State.commitFlag_keeps {org s : State} (t accepted : Nat) (h : Keeps org s) :
    Keeps org (State.commitFlag s t accepted) := by
  delta State.commitFlag
  repeat' first
    | with_reducible assumption
    | with_reducible apply State.setN_keeps
    | (extract_lets +onlyGivenNames letX; have letT : True := (by clear_value letX; guard_hyp letX : State; trivial); clear letT; refine Keeps.cut (r := org) (v := letX) ?_ (fun letH => ?_); (focus subst letX); rotate_left; clear_value letX; revert letX; intro _ _)
    | (extract_lets +onlyGivenNames letX; have letT : True := (by clear_value letX; revert letX; with_reducible exact Keeps.isPair); clear letT; refine Keeps.cut (r := org) (v := letX.2) ?_ (fun letH => ?_); (focus subst letX); rotate_left; clear_value letX; revert letX; intro _ _)
    | with_reducible refine Keeps.iteP ?_ ?_
    | with_reducible refine Keeps.update ?_

theorem State.commitAccept_keeps {org s : State} (t : Nat) (h : Keeps org s) :
    Keeps org (State.commitAccept s t) := by
  delta State.commitAccept
  repeat' first
    | with_reducible assumption
    | with_reducible apply State.setN_keeps
    | with_reducible apply State.commitFlag_keeps
    | (extract_lets +onlyGivenNames letX; have letT : True := (by clear_value letX; guard_hyp letX : State; trivial); clear letT; refine Keeps.cut (r := org) (v := letX) ?_ (fun letH => ?_); (focus subst letX); rotate_left; clear_value letX; revert letX; intro _ _)
    | with_reducible refine Keeps.ite ?_ ?_
    | with_reducible refine Keeps.iteP ?_ ?_

theorem State.commitChecks_keeps {org s : State} (t : Nat) (h : Keeps org s) :
    Keeps org (State.commitChecks s t) := by
  delta State.commitChecks
  repeat' first
    | with_reducible assumption
    | with_reducible apply State.commitReject_keeps
    | with_reducible apply State.commitAccept_keeps
    | with_reducible apply State.setN_keeps
    | with_reducible refine Keeps.ite ?_ ?_
    | split

theorem State.commitNow_keeps {org s : State} (t v : Nat) (h : Keeps org s) :
    Keeps org (State.commitNow s t v) := by
  delta State.commitNow
  repeat' first
    | with_reducible assumption
    | with_reducible apply State.raiseServer_keeps
    | with_reducible apply State.commitReject_keeps
    | with_reducible apply State.setN_keeps
    | with_reducible apply State.commitChecks_keeps
    | with_reducible refine Keeps.ite ?_ ?_

theorem State.commitWaits_keeps {org s : State} (t v : Nat) (h : Keeps org s) :
    Keeps org (State.commitWaits s t v) := by
  delta State.commitWaits
  repeat' first
    | with_reducible assumption
    | with_reducible apply State.setN_keeps
    | (extract_lets +onlyGivenNames letX; have letT : True := (by clear_value letX; guard_hyp letX : State; trivial); clear letT; refine Keeps.cut (r := org) (v := letX) ?_ (fun letH => ?_); (focus subst letX); rotate_left; clear_value letX; revert letX; intro _ _)
    | with_reducible refine Keeps.ite ?_ ?_
    | with_reducible refine Keeps.iteP ?_ ?_
    | with_reducible refine Keeps.update ?_

theorem State.commitTurn_keeps {org s : State} (t v : Nat) (h : Keeps org s) :
    Keeps org (State.commitTurn s t v) := by
  delta State.commitTurn
  repeat' first
    | with_reducible assumption
    | with_reducible apply State.setN_keeps
    | with_reducible apply State.commitNow_keeps
    | with_reducible refine Keeps.ite ?_ ?_

theorem State.commitWrite_keeps {org s : State} (t v : Nat) (h : Keeps org s) :
    Keeps org (State.commitWrite s t v) := by
  delta State.commitWrite
  repeat' first
    | with_reducible assumption
    | with_reducible apply State.commitWaits_keeps
    | with_reducible apply State.commitNow_keeps
    | with_reducible refine Keeps.ite ?_ ?_

theorem State.stageAck_keeps {org s : State} (t : Nat) (h : Keeps org s) :
    Keeps org (State.stageAck s t) := by
  delta State.stageAck
  repeat' first
    | with_reducible assumption
    | with_reducible apply State.commitAccept_keeps
    | with_reducible refine Keeps.ite ?_ ?_

theorem State.stageTimeout_keeps {org s : State} (t : Nat) (h : Keeps org s) :
    Keeps org (State.stageTimeout s t) := by
  delta State.stageTimeout
  repeat' first
    | with_reducible assumption
    | with_reducible apply State.commitReject_keeps
    | with_reducible refine Keeps.ite ?_ ?_

theorem State.dropWaiting_keeps {org s : State} (t : Nat) (h : Keeps org s) :
    Keeps org (State.dropWaiting s t) := by
  delta State.dropWaiting
  repeat' first
    | with_reducible assumption
    | with_reducible refine Keeps.ite ?_ ?_
    | with_reducible refine Keeps.update ?_

theorem State.commitCancel_keeps {org s : State} (t sent : Nat) (h : Keeps org s) :
    Keeps org (State.commitCancel s t sent) := by
  delta State.commitCancel
  repeat' first
    | with_reducible assumption
    | with_reducible apply State.dropWaiting_keeps
    | with_reducible apply State.commitReject_keeps
    | (extract_lets +onlyGivenNames letX; have letT : True := (by clear_value letX; guard_hyp letX : State; trivial); clear letT; refine Keeps.cut (r := org) (v := letX) ?_ (fun letH => ?_); (focus subst letX); rotate_left; clear_value letX; revert letX; intro _ _)
    | with_reducible refine Keeps.ite ?_ ?_
    | with_reducible refine Keeps.iteP ?_ ?_
    | split
    | with_reducible refine Keeps.update ?_

theorem State.discard_keeps {org s : State} (t : Nat) (h : Keeps org s) :
    Keeps org (State.discard s t) := by
  delta State.discard
  repeat' first
    | with_reducible assumption
    | with_reducible apply State.commitCancel_keeps
    | with_reducible apply State.unstage_keeps

theorem State.commitsEnd_keeps {org s : State} (h : Keeps org s) :
    Keeps org (State.commitsEnd s) := by
  delta State.commitsEnd
  repeat' first
    | with_reducible assumption
    | with_reducible apply State.setN_keeps
    | (extract_lets +onlyGivenNames letX; have letT : True := (by clear_value letX; guard_hyp letX : State; trivial); clear letT; refine Keeps.cut (r := org) (v := letX) ?_ (fun letH => ?_); (focus subst letX); rotate_left; clear_value letX; revert letX; intro _ _)
    | with_reducible refine Keeps.ite ?_ ?_
    | with_reducible refine Keeps.iteP ?_ ?_
    | with_reducible refine forBelow_keeps ?_ (fun _ _ _ => ?_)
    | split
    | with_reducible refine Keeps.update ?_

theorem State.syncReject_keeps {org s : State} (t reason : Nat) (counter : Int) (h : Keeps org s) :
    Keeps org (State.syncReject s t reason counter) := by
  delta State.syncReject
  repeat' first
    | with_reducible assumption
    | with_reducible apply State.commitReject_keeps
    | with_reducible apply State.raiseServer_keeps

theorem State.syncJudge_keeps {org s : State} (p counter : Nat) (h : Keeps org s) :
    Keeps org (State.syncJudge s p counter) := by
  delta State.syncJudge
  repeat' first
    | with_reducible assumption
    | with_reducible apply State.commitFlag_keeps
    | with_reducible apply State.syncReject_keeps
    | (extract_lets +onlyGivenNames letX; clear_value letX; revert letX; intro _)
    | with_reducible refine Keeps.ite ?_ ?_
    | with_reducible refine Keeps.iteP ?_ ?_
    | with_reducible refine forEach_keeps ?_ (fun _ _ _ => ?_)

theorem State.syncSeen_keeps {org s : State} (p : Nat) (counter : Option Nat) (h : Keeps org s) :
    Keeps org (State.syncSeen s p counter) := by
  delta State.syncSeen
  repeat' first
    | with_reducible assumption
    | with_reducible apply State.setN_keeps
    | with_reducible apply State.syncJudge_keeps
    | (extract_lets +onlyGivenNames letX; have letT : True := (by clear_value letX; guard_hyp letX : State; trivial); clear letT; refine Keeps.cut (r := org) (v := letX) ?_ (fun letH => ?_); (focus subst letX); rotate_left; clear_value letX; revert letX; intro _ _)
    | with_reducible refine Keeps.iteP ?_ ?_
    | split

theorem State.syncTimeout_keeps {org s : State} (p : Nat) (h : Keeps org s) :
    Keeps org (State.syncTimeout s p) := by
  delta State.syncTimeout
  repeat' first
    | with_reducible assumption
    | with_reducible apply State.syncReject_keeps
    | with_reducible refine Keeps.ite ?_ ?_
    | with_reducible refine forEach_keeps ?_ (fun _ _ _ => ?_)

theorem State.syncRange_keeps {org s : State} (p : Nat) (h : Keeps org s) :
    Keeps org (State.syncRange s p) := by
  delta State.syncRange
  repeat' first
    | with_reducible assumption
    | with_reducible apply State.syncReject_keeps
    | (extract_lets +onlyGivenNames letX; clear_value letX; revert letX; intro _)
    | with_reducible refine Keeps.ite ?_ ?_
    | with_reducible refine Keeps.iteP ?_ ?_
    | with_reducible refine forEach_keeps ?_ (fun _ _ _ => ?_)

theorem State.barrierClose_keeps {org s : State} (t : Nat) (h : Keeps org s) :
    Keeps org (State.barrierClose s t) := by
  delta State.barrierClose
  repeat' first
    | with_reducible assumption
    | with_reducible apply State.setN_keeps
    | with_reducible apply State.commitTurn_keeps
    | (extract_lets +onlyGivenNames letX; have letT : True := (by clear_value letX; guard_hyp letX : State; trivial); clear letT; refine Keeps.cut (r := org) (v := letX) ?_ (fun letH => ?_); (focus subst letX); rotate_left; clear_value letX; revert letX; intro _ _)
    | (extract_lets +onlyGivenNames letX; clear_value letX; revert letX; intro _)
    | with_reducible refine Keeps.iteP ?_ ?_
    | with_reducible refine forEach_keeps ?_ (fun _ _ _ => ?_)
    | split
    | with_reducible refine Keeps.update ?_

theorem State.barrierDrop_keeps {org s : State} (t : Nat) (h : Keeps org s) :
    Keeps org (State.barrierDrop s t) := by
  delta State.barrierDrop
  repeat' first
    | with_reducible assumption
    | split
    | with_reducible refine Keeps.update ?_

theorem execCommitStageAck_runs {org s : State} (t : Tenant) (h : Keeps org s) :
    Runs org (execCommitStageAck t s) := by
  delta execCommitStageAck
  repeat' first
    | with_reducible assumption
    | with_reducible refine Runs.next ?_
    | with_reducible apply State.stageAck_keeps
    | with_reducible refine Runs.ite ?_ ?_

theorem execCommitStageAckTimeout_runs {org s : State} (t : Tenant) (h : Keeps org s) :
    Runs org (execCommitStageAckTimeout t s) := by
  delta execCommitStageAckTimeout
  repeat' first
    | with_reducible assumption
    | with_reducible refine Runs.next ?_
    | with_reducible apply State.stageTimeout_keeps
    | with_reducible refine Runs.ite ?_ ?_

theorem execSyncTimeout_runs {org s : State} (p : CanPort) (h : Keeps org s) :
    Runs org (execSyncTimeout p s) := by
  delta execSyncTimeout
  repeat' first
    | with_reducible assumption
    | with_reducible refine Runs.next ?_
    | with_reducible apply State.syncTimeout_keeps
    | with_reducible refine Runs.ite ?_ ?_

end Sys2Proof.Machine
end

