-- ==== Sys2Proof/Laws/KeepsD.lean ====
section
/-!
SUPPORT. The laws of Records, Security, Reads, Dma, CanBus, Tenants, TwoWire, Hk, Thermal, Keep, Power, Link: each definition that answers a state keeps what Keeps says.
-/
namespace Sys2Proof.Machine

theorem State.recordNow_keeps {org s : State} (k : Kind) (site tenant : Nat) (fields : List (Nat × Int)) (h : Keeps org s) :
    Keeps org (State.recordNow s k site tenant fields) := by
  delta State.recordNow
  repeat' first
    | with_reducible assumption
    | with_reducible apply State.count_keeps
    | with_reducible apply State.placeRecord_keeps
    | (extract_lets +onlyGivenNames letX; have letT : True := (by clear_value letX; guard_hyp letX : State; trivial); clear letT; refine Keeps.cut (r := org) (v := letX) ?_ (fun letH => ?_); (focus subst letX); rotate_left; clear_value letX; revert letX; intro _ _)
    | (extract_lets +onlyGivenNames letX; clear_value letX; revert letX; intro _)
    | with_reducible refine Keeps.ite ?_ ?_
    | with_reducible refine Keeps.update ?_

theorem State.raiseSecurity_keeps {org s : State} (k : Kind) (t : Nat) (fields : List (Nat × Int)) (h : Keeps org s) :
    Keeps org (State.raiseSecurity s k t fields) := by
  delta State.raiseSecurity
  repeat' first
    | with_reducible assumption
    | with_reducible apply State.raise_keeps

theorem State.attest_keeps {org s : State} (t : Nat) (challenge : List Byte) (h : Keeps org s) :
    Keeps org (State.attest s t challenge) := by
  delta State.attest
  repeat' first
    | with_reducible assumption
    | with_reducible apply State.setN_keeps
    | (extract_lets +onlyGivenNames letX; have letT : True := (by clear_value letX; guard_hyp letX : State; trivial); clear letT; refine Keeps.cut (r := org) (v := letX) ?_ (fun letH => ?_); (focus subst letX); rotate_left; clear_value letX; revert letX; intro _ _)
    | (extract_lets +onlyGivenNames letX; have letT : True := (by clear_value letX; revert letX; with_reducible exact Keeps.isPair); clear letT; refine Keeps.cut (r := org) (v := letX.2) ?_ (fun letH => ?_); (focus subst letX); rotate_left; clear_value letX; revert letX; intro _ _)
    | with_reducible refine Keeps.iteP ?_ ?_
    | with_reducible refine Keeps.update ?_

theorem State.draw_keeps {org s : State} (h : Keeps org s) : Keeps org (State.draw s).2 :=
  h.same rfl rfl rfl (Nat.le_refl _) (Nat.le_succ _) (List.prefix_refl _)

theorem State.attested_keeps {org s : State} (h : Keeps org s) :
    Keeps org (State.attested s) := by
  delta State.attested
  repeat' first
    | with_reducible assumption
    | with_reducible apply State.draw_keeps
    | with_reducible apply State.setBlob_keeps
    | with_reducible apply State.setN_keeps
    | with_reducible apply State.wrapCount_keeps
    | with_reducible apply State.raiseSecurity_keeps
    | (extract_lets +onlyGivenNames letX; have letT : True := (by clear_value letX; guard_hyp letX : State; trivial); clear letT; refine Keeps.cut (r := org) (v := letX) ?_ (fun letH => ?_); (focus subst letX); rotate_left; clear_value letX; revert letX; intro _ _)
    | (extract_lets +onlyGivenNames letX; have letT : True := (by clear_value letX; revert letX; with_reducible exact Keeps.isPair); clear letT; refine Keeps.cut (r := org) (v := letX.2) ?_ (fun letH => ?_); (focus subst letX); rotate_left; clear_value letX; revert letX; intro _ _)
    | (extract_lets +onlyGivenNames letX; clear_value letX; revert letX; intro _)
    | split
    | with_reducible refine Keeps.update ?_

theorem State.sessionEnd_keeps {org s : State} (t cause : Nat) (h : Keeps org s) :
    Keeps org (State.sessionEnd s t cause) := by
  delta State.sessionEnd
  repeat' first
    | with_reducible assumption
    | with_reducible apply State.setBlob_keeps
    | with_reducible apply State.setN_keeps
    | with_reducible apply State.raiseSecurity_keeps
    | (extract_lets +onlyGivenNames letX; have letT : True := (by clear_value letX; guard_hyp letX : State; trivial); clear letT; refine Keeps.cut (r := org) (v := letX) ?_ (fun letH => ?_); (focus subst letX); rotate_left; clear_value letX; revert letX; intro _ _)
    | (extract_lets +onlyGivenNames letX; clear_value letX; revert letX; intro _)
    | with_reducible refine Keeps.ite ?_ ?_
    | with_reducible refine Keeps.iteP ?_ ?_
    | with_reducible refine Keeps.update ?_

theorem State.sessionOpen_keeps {org s : State} (t : Nat) (hostKey : List Byte) (h : Keeps org s) :
    Keeps org (State.sessionOpen s t hostKey) := by
  delta State.sessionOpen
  repeat' first
    | with_reducible assumption
    | with_reducible apply State.sessionEnd_keeps
    | with_reducible apply State.setN_keeps
    | (extract_lets +onlyGivenNames letX; have letT : True := (by clear_value letX; guard_hyp letX : State; trivial); clear letT; refine Keeps.cut (r := org) (v := letX) ?_ (fun letH => ?_); (focus subst letX); rotate_left; clear_value letX; revert letX; intro _ _)
    | with_reducible refine Keeps.iteP ?_ ?_
    | with_reducible refine Keeps.update ?_

theorem State.sessionOpened_keeps {org s : State} (h : Keeps org s) :
    Keeps org (State.sessionOpened s) := by
  delta State.sessionOpened
  repeat' first
    | with_reducible assumption
    | with_reducible apply State.draw_keeps
    | with_reducible apply State.setFree_keeps
    | with_reducible apply State.setBlob_keeps
    | with_reducible apply State.setN_keeps
    | with_reducible apply State.wrapCount_keeps
    | with_reducible apply State.raiseSecurity_keeps
    | (extract_lets +onlyGivenNames letX; have letT : True := (by clear_value letX; guard_hyp letX : State; trivial); clear letT; refine Keeps.cut (r := org) (v := letX) ?_ (fun letH => ?_); (focus subst letX); rotate_left; clear_value letX; revert letX; intro _ _)
    | (extract_lets +onlyGivenNames letX; have letT : True := (by clear_value letX; revert letX; with_reducible exact Keeps.isPair); clear letT; refine Keeps.cut (r := org) (v := letX.2) ?_ (fun letH => ?_); (focus subst letX); rotate_left; clear_value letX; revert letX; intro _ _)
    | (extract_lets +onlyGivenNames letX; clear_value letX; revert letX; intro _)
    | with_reducible refine Keeps.iteP ?_ ?_
    | split
    | with_reducible refine Keeps.update ?_

theorem State.envelopeFails_keeps {org s : State} (t cause : Nat) (b : List Byte) (h : Keeps org s) :
    Keeps org (State.envelopeFails s t cause b) := by
  delta State.envelopeFails
  repeat' first
    | with_reducible assumption
    | with_reducible apply State.count_keeps
    | with_reducible apply State.raiseSecurity_keeps
    | with_reducible apply State.sessionEnd_keeps
    | (extract_lets +onlyGivenNames letX; have letT : True := (by clear_value letX; guard_hyp letX : State; trivial); clear letT; refine Keeps.cut (r := org) (v := letX) ?_ (fun letH => ?_); (focus subst letX); rotate_left; clear_value letX; revert letX; intro _ _)
    | with_reducible refine Keeps.ite ?_ ?_
    | with_reducible refine Keeps.iteP ?_ ?_

theorem State.envelopePasses_keeps {org s : State} (t : Nat) (b : List Byte) (h : Keeps org s) :
    Keeps org (State.envelopePasses s t b) := by
  delta State.envelopePasses
  repeat' first
    | with_reducible assumption
    | with_reducible apply State.setN_keeps

theorem State.counterSpent_keeps {org s : State} (t : Nat) (b : List Byte) (h : Keeps org s) :
    Keeps org (State.counterSpent s t b) := by
  delta State.counterSpent
  repeat' first
    | with_reducible assumption
    | with_reducible apply State.sessionEnd_keeps
    | with_reducible refine Keeps.ite ?_ ?_

theorem State.readReply_keeps {org s : State} (t : Nat) (b : List Byte) (abort : Nat) (v : List Byte) (h : Keeps org s) :
    Keeps org (State.readReply s t b abort v) := by
  delta State.readReply
  repeat' first
    | with_reducible assumption
    | with_reducible apply State.setBlob_keeps
    | (extract_lets +onlyGivenNames letX; clear_value letX; revert letX; intro _)

theorem State.randomFails_keeps {org s : State} (test : Nat) (h : Keeps org s) :
    Keeps org (State.randomFails s test) := by
  delta State.randomFails
  repeat' first
    | with_reducible assumption
    | with_reducible apply State.setN_keeps
    | with_reducible apply State.raise_keeps
    | (extract_lets +onlyGivenNames letX; have letT : True := (by clear_value letX; guard_hyp letX : State; trivial); clear letT; refine Keeps.cut (r := org) (v := letX) ?_ (fun letH => ?_); (focus subst letX); rotate_left; clear_value letX; revert letX; intro _ _)
    | with_reducible refine Keeps.ite ?_ ?_
    | with_reducible refine Keeps.iteP ?_ ?_
    | with_reducible refine forBelow_keeps ?_ (fun _ _ _ => ?_)
    | with_reducible refine Keeps.update ?_

theorem State.securityClears_keeps {org s : State} (h : Keeps org s) :
    Keeps org (State.securityClears s) := by
  delta State.securityClears
  repeat' first
    | with_reducible assumption
    | with_reducible apply State.setBlob_keeps
    | with_reducible apply State.setN_keeps
    | (extract_lets +onlyGivenNames letX; have letT : True := (by clear_value letX; guard_hyp letX : State; trivial); clear letT; refine Keeps.cut (r := org) (v := letX) ?_ (fun letH => ?_); (focus subst letX); rotate_left; clear_value letX; revert letX; intro _ _)
    | with_reducible refine Keeps.iteP ?_ ?_
    | with_reducible refine forBelow_keeps ?_ (fun _ _ _ => ?_)
    | with_reducible refine Keeps.update ?_

theorem execAttestationSigned_runs {org s : State} (h : Keeps org s) :
    Runs org (execAttestationSigned s) := by
  delta execAttestationSigned
  repeat' first
    | with_reducible assumption
    | with_reducible refine Runs.next ?_
    | with_reducible apply State.attested_keeps
    | with_reducible refine Runs.ite ?_ ?_

theorem execSessionOpened_runs {org s : State} (h : Keeps org s) :
    Runs org (execSessionOpened s) := by
  delta execSessionOpened
  repeat' first
    | with_reducible assumption
    | with_reducible refine Runs.next ?_
    | with_reducible apply State.sessionOpened_keeps
    | with_reducible refine Runs.ite ?_ ?_

theorem execRandomSourceFault_runs {org s : State} (test : Nat) (h : Keeps org s) :
    Runs org (execRandomSourceFault test s) := by
  delta execRandomSourceFault
  repeat' first
    | with_reducible assumption
    | with_reducible refine Runs.next ?_
    | with_reducible apply State.randomFails_keeps
    | with_reducible refine Runs.ite ?_ ?_

theorem State.countAccess_keeps {org s : State} (n bytes : Nat) (h : Keeps org s) :
    Keeps org (State.countAccess s n bytes) := by
  delta State.countAccess
  repeat' first
    | with_reducible assumption
    | with_reducible apply State.setN_keeps

theorem State.afterRead_keeps {org s : State} (t addr : Nat) (h : Keeps org s) :
    Keeps org (State.afterRead s t addr) := by
  delta State.afterRead
  repeat' first
    | with_reducible assumption
    | with_reducible apply State.afterPop_keeps
    | with_reducible apply State.restore_keeps
    | (extract_lets +onlyGivenNames letX; clear_value letX; revert letX; intro _)
    | with_reducible refine Keeps.ite ?_ ?_
    | with_reducible refine Keeps.iteP ?_ ?_

theorem State.raiseStream_keeps {org s : State} (k : Kind) (d : Nat) (fields : List (Nat × Int)) (h : Keeps org s) :
    Keeps org (State.raiseStream s k d fields) := by
  delta State.raiseStream
  repeat' first
    | with_reducible assumption
    | with_reducible apply State.raise_keeps

theorem State.dsShow_keeps {org s : State} (d : Nat) (h : Keeps org s) :
    Keeps org (State.dsShow s d) := by
  delta State.dsShow
  repeat' first
    | with_reducible assumption
    | with_reducible apply State.setN_keeps
    | with_reducible refine Keeps.ite ?_ ?_

theorem State.dsDefaults_keeps {org s : State} (d : Nat) (h : Keeps org s) :
    Keeps org (State.dsDefaults s d) := by
  delta State.dsDefaults
  repeat' first
    | with_reducible assumption
    | with_reducible apply State.restore_keeps
    | with_reducible apply State.dsShow_keeps
    | (extract_lets +onlyGivenNames letX; have letT : True := (by clear_value letX; guard_hyp letX : State; trivial); clear letT; refine Keeps.cut (r := org) (v := letX) ?_ (fun letH => ?_); (focus subst letX); rotate_left; clear_value letX; revert letX; intro _ _)
    | with_reducible refine Keeps.iteP ?_ ?_
    | with_reducible refine forEach_keeps ?_ (fun _ _ _ => ?_)
    | with_reducible refine forBelow_keeps ?_ (fun _ _ _ => ?_)

theorem State.dsStopped_keeps {org s : State} (d : Nat) (h : Keeps org s) :
    Keeps org (State.dsStopped s d) := by
  delta State.dsStopped
  repeat' first
    | with_reducible assumption
    | with_reducible apply State.setN_keeps
    | with_reducible apply State.raiseStream_keeps
    | with_reducible apply State.dsDefaults_keeps
    | (extract_lets +onlyGivenNames letX; have letT : True := (by clear_value letX; guard_hyp letX : State; trivial); clear letT; refine Keeps.cut (r := org) (v := letX) ?_ (fun letH => ?_); (focus subst letX); rotate_left; clear_value letX; revert letX; intro _ _)
    | (extract_lets +onlyGivenNames letX; clear_value letX; revert letX; intro _)
    | with_reducible refine Keeps.ite ?_ ?_
    | with_reducible refine Keeps.iteP ?_ ?_

theorem State.dsStop_keeps {org s : State} (d cause : Nat) (h : Keeps org s) :
    Keeps org (State.dsStop s d cause) := by
  delta State.dsStop
  repeat' first
    | with_reducible assumption
    | with_reducible apply State.dsDefaults_keeps
    | with_reducible apply State.setN_keeps
    | with_reducible apply State.dsStopped_keeps
    | (extract_lets +onlyGivenNames letX; have letT : True := (by clear_value letX; guard_hyp letX : State; trivial); clear letT; refine Keeps.cut (r := org) (v := letX) ?_ (fun letH => ?_); (focus subst letX); rotate_left; clear_value letX; revert letX; intro _ _)
    | with_reducible refine Keeps.ite ?_ ?_
    | with_reducible refine Keeps.iteP ?_ ?_

theorem State.dsRun_keeps {org s : State} (d v : Nat) (h : Keeps org s) :
    Keeps org (State.dsRun s d v) := by
  delta State.dsRun
  repeat' first
    | with_reducible assumption
    | with_reducible apply State.setN_keeps
    | with_reducible apply State.dsShow_keeps
    | with_reducible apply State.dsStopped_keeps
    | (extract_lets +onlyGivenNames letX; have letT : True := (by clear_value letX; guard_hyp letX : State; trivial); clear letT; refine Keeps.cut (r := org) (v := letX) ?_ (fun letH => ?_); (focus subst letX); rotate_left; clear_value letX; revert letX; intro _ _)
    | with_reducible refine Keeps.ite ?_ ?_
    | with_reducible refine Keeps.iteP ?_ ?_

theorem State.dsTail_keeps {org s : State} (d v : Nat) (h : Keeps org s) :
    Keeps org (State.dsTail s d v) := by
  delta State.dsTail
  repeat' first
    | with_reducible assumption
    | with_reducible apply State.setN_keeps
    | with_reducible apply State.dsShow_keeps
    | (extract_lets +onlyGivenNames letX; have letT : True := (by clear_value letX; guard_hyp letX : State; trivial); clear letT; refine Keeps.cut (r := org) (v := letX) ?_ (fun letH => ?_); (focus subst letX); rotate_left; clear_value letX; revert letX; intro _ _)
    | (extract_lets +onlyGivenNames letX; clear_value letX; revert letX; intro _)
    | with_reducible refine Keeps.iteP ?_ ?_
    | with_reducible refine forEach_keeps ?_ (fun _ _ _ => ?_)

theorem State.dsTailLands_keeps {org s : State} (d v : Nat) (h : Keeps org s) :
    Keeps org (State.dsTailLands s d v) := by
  delta State.dsTailLands
  repeat' first
    | with_reducible assumption
    | with_reducible apply State.setN_keeps
    | with_reducible apply State.dsTail_keeps
    | with_reducible refine Keeps.ite ?_ ?_

theorem State.dmaClears_keeps {org s : State} (h : Keeps org s) :
    Keeps org (State.dmaClears s) := by
  delta State.dmaClears
  repeat' first
    | with_reducible assumption
    | with_reducible apply State.restore_keeps
    | with_reducible apply State.setBlob_keeps
    | with_reducible apply State.dsDefaults_keeps
    | (extract_lets +onlyGivenNames letX; have letT : True := (by clear_value letX; guard_hyp letX : State; trivial); clear letT; refine Keeps.cut (r := org) (v := letX) ?_ (fun letH => ?_); (focus subst letX); rotate_left; clear_value letX; revert letX; intro _ _)
    | with_reducible refine Keeps.iteP ?_ ?_
    | with_reducible refine forEach_keeps ?_ (fun _ _ _ => ?_)
    | with_reducible refine forBelow_keeps ?_ (fun _ _ _ => ?_)

theorem State.dmaTake_keeps {org s : State} (d w0 : Nat) (h : Keeps org s) :
    Keeps org (State.dmaTake s d w0) := by
  delta State.dmaTake
  repeat' first
    | with_reducible assumption
    | with_reducible apply State.countAccess_keeps
    | with_reducible apply State.afterRead_keeps
    | (extract_lets +onlyGivenNames letX; have letT : True := (by clear_value letX; guard_hyp letX : State; trivial); clear letT; refine Keeps.cut (r := org) (v := letX) ?_ (fun letH => ?_); (focus subst letX); rotate_left; clear_value letX; revert letX; intro _ _)
    | (extract_lets +onlyGivenNames letX; clear_value letX; revert letX; intro _)
    | with_reducible refine Keeps.ite ?_ ?_
    | with_reducible refine Keeps.iteP ?_ ?_
    | with_reducible refine forEach_keeps ?_ (fun _ _ _ => ?_)
    | split
    | with_reducible refine Keeps.ofPair (by assumption) ?_

theorem State.descriptorStart_keeps {org s : State} (d : Nat) (h : Keeps org s) :
    Keeps org (State.descriptorStart s d) := by
  delta State.descriptorStart
  repeat' first
    | with_reducible assumption
    | with_reducible apply State.dmaTake_keeps
    | with_reducible apply State.setN_keeps
    | with_reducible apply State.setBlob_keeps
    | with_reducible apply State.dsShow_keeps
    | (extract_lets +onlyGivenNames letX; have letT : True := (by clear_value letX; guard_hyp letX : State; trivial); clear letT; refine Keeps.cut (r := org) (v := letX) ?_ (fun letH => ?_); (focus subst letX); rotate_left; clear_value letX; revert letX; intro _ _)
    | (extract_lets +onlyGivenNames letX; clear_value letX; revert letX; intro _)
    | with_reducible refine Keeps.ite ?_ ?_
    | with_reducible refine Keeps.iteP ?_ ?_

theorem State.toHost_keeps {org s : State} (f addr : Nat) (b : List Byte) (h : Keeps org s) :
    Keeps org (State.toHost s f addr b) :=
  h.same rfl rfl rfl (Nat.le_refl _) (Nat.le_refl _) (List.prefix_append _ _)

theorem State.toMailbox_keeps {org s : State} (d off : Nat) (b : List Byte) (h : Keeps org s) :
    Keeps org (State.toMailbox s d off b) := by
  delta State.toMailbox
  repeat' first
    | with_reducible assumption
    | with_reducible apply State.setBlob_keeps
    | with_reducible refine Keeps.ite ?_ ?_

theorem State.completionRecord_keeps {org s : State} (d err moved : Nat) (h : Keeps org s) :
    Keeps org (State.completionRecord s d err moved) := by
  delta State.completionRecord
  repeat' first
    | with_reducible assumption
    | with_reducible apply State.toHost_keeps
    | (extract_lets +onlyGivenNames letX; clear_value letX; revert letX; intro _)
    | with_reducible refine Keeps.ite ?_ ?_
    | with_reducible refine Keeps.iteP ?_ ?_
    | split

theorem State.descriptorEnds_keeps {org s : State} (d err moved : Nat) (h : Keeps org s) :
    Keeps org (State.descriptorEnds s d err moved) := by
  delta State.descriptorEnds
  repeat' first
    | with_reducible assumption
    | with_reducible apply State.setN_keeps
    | with_reducible apply State.wrapCount_keeps
    | with_reducible apply State.completionRecord_keeps
    | with_reducible apply State.raiseStream_keeps
    | with_reducible apply State.count_keeps
    | with_reducible apply State.setBlob_keeps
    | with_reducible apply State.dsStopped_keeps
    | with_reducible apply State.dsShow_keeps
    | (extract_lets +onlyGivenNames letX; have letT : True := (by clear_value letX; guard_hyp letX : State; trivial); clear letT; refine Keeps.cut (r := org) (v := letX) ?_ (fun letH => ?_); (focus subst letX); rotate_left; clear_value letX; revert letX; intro _ _)
    | (extract_lets +onlyGivenNames letX; clear_value letX; revert letX; intro _)
    | with_reducible refine Keeps.ite ?_ ?_
    | with_reducible refine Keeps.iteP ?_ ?_

theorem State.dmaPops_keeps {org s : State} (q n : Nat) (h : Keeps org s) :
    Keeps org (State.dmaPops s q n) := by
  delta State.dmaPops
  repeat' first
    | with_reducible assumption
    | with_reducible apply State.setRing_keeps
    | with_reducible apply State.marker_keeps
    | with_reducible apply State.tgSettle_keeps
    | (extract_lets +onlyGivenNames letX; clear_value letX; revert letX; intro _)
    | with_reducible refine Keeps.ite ?_ ?_
    | with_reducible refine Keeps.iteP ?_ ?_

theorem State.descriptorComplete_keeps {org s : State} (d fail moved : Nat) (h : Keeps org s) :
    Keeps org (State.descriptorComplete s d fail moved) := by
  delta State.descriptorComplete
  repeat' first
    | with_reducible assumption
    | with_reducible apply State.dmaPops_keeps
    | with_reducible apply State.toMailbox_keeps
    | with_reducible apply State.toHost_keeps
    | with_reducible apply State.descriptorEnds_keeps
    | (extract_lets +onlyGivenNames letX; have letT : True := (by clear_value letX; guard_hyp letX : State; trivial); clear letT; refine Keeps.cut (r := org) (v := letX) ?_ (fun letH => ?_); (focus subst letX); rotate_left; clear_value letX; revert letX; intro _ _)
    | (extract_lets +onlyGivenNames letX; clear_value letX; revert letX; intro _)
    | with_reducible refine Keeps.ite ?_ ?_
    | with_reducible refine Keeps.iteP ?_ ?_

theorem State.passStart_keeps {org s : State} (d : Nat) (h : Keeps org s) :
    Keeps org (State.passStart s d) := by
  delta State.passStart
  repeat' first
    | with_reducible assumption
    | with_reducible apply State.setN_keeps
    | with_reducible apply State.count_keeps
    | with_reducible apply State.raiseStream_keeps
    | with_reducible apply State.dsShow_keeps
    | (extract_lets +onlyGivenNames letX; have letT : True := (by clear_value letX; guard_hyp letX : State; trivial); clear letT; refine Keeps.cut (r := org) (v := letX) ?_ (fun letH => ?_); (focus subst letX); rotate_left; clear_value letX; revert letX; intro _ _)
    | (extract_lets +onlyGivenNames letX; clear_value letX; revert letX; intro _)
    | with_reducible refine Keeps.ite ?_ ?_
    | with_reducible refine Keeps.iteP ?_ ?_
    | with_reducible refine forBelow_keeps ?_ (fun _ _ _ => ?_)

theorem State.doomDescriptors_keeps {org s : State} (f : Nat) (lost : Bool) (h : Keeps org s) :
    Keeps org (State.doomDescriptors s f lost) := by
  delta State.doomDescriptors
  repeat' first
    | with_reducible assumption
    | with_reducible apply State.setN_keeps
    | (extract_lets +onlyGivenNames letX; have letT : True := (by clear_value letX; guard_hyp letX : State; trivial); clear letT; refine Keeps.cut (r := org) (v := letX) ?_ (fun letH => ?_); (focus subst letX); rotate_left; clear_value letX; revert letX; intro _ _)
    | (extract_lets +onlyGivenNames letX; clear_value letX; revert letX; intro _)
    | with_reducible refine Keeps.ite ?_ ?_
    | with_reducible refine Keeps.iteP ?_ ?_
    | with_reducible refine forEach_keeps ?_ (fun _ _ _ => ?_)
    | with_reducible refine forBelow_keeps ?_ (fun _ _ _ => ?_)

theorem execDescriptorStart_runs {org s : State} (d : StreamId) (h : Keeps org s) :
    Runs org (execDescriptorStart d s) := by
  delta execDescriptorStart
  repeat' first
    | with_reducible assumption
    | with_reducible refine Runs.next ?_
    | with_reducible apply State.descriptorStart_keeps
    | with_reducible refine Runs.ite ?_ ?_

theorem execDescriptorComplete_runs {org s : State} (d : StreamId) (fail moved : Nat) (h : Keeps org s) :
    Runs org (execDescriptorComplete d fail moved s) := by
  delta execDescriptorComplete
  repeat' first
    | with_reducible assumption
    | with_reducible refine Runs.next ?_
    | with_reducible apply State.descriptorComplete_keeps
    | with_reducible refine Runs.ite ?_ ?_

theorem execPeriodicPassStart_runs {org s : State} (d : StreamId) (h : Keeps org s) :
    Runs org (execPeriodicPassStart d s) := by
  delta execPeriodicPassStart
  repeat' first
    | with_reducible assumption
    | with_reducible refine Runs.next ?_
    | with_reducible apply State.passStart_keeps
    | with_reducible refine Runs.ite ?_ ?_

theorem State.canSend_keeps {org s : State} (p cob : Nat) (form : CanForm) (data : List Byte) (h : Keeps org s) :
    Keeps org (State.canSend s p cob form data) := by
  delta State.canSend
  repeat' first
    | with_reducible assumption
    | with_reducible apply State.wrapCount_keeps
    | with_reducible apply State.emit_keeps
    | with_reducible refine Keeps.ite ?_ ?_
    | with_reducible refine Keeps.update ?_

theorem State.canJoin_keeps {org s : State} (p : Nat) (h : Keeps org s) :
    Keeps org (State.canJoin s p) := by
  delta State.canJoin
  repeat' first
    | with_reducible assumption
    | with_reducible apply State.setN_keeps
    | with_reducible apply State.wrapCount_keeps
    | with_reducible apply State.emit_keeps
    | (extract_lets +onlyGivenNames letX; have letT : True := (by clear_value letX; guard_hyp letX : State; trivial); clear letT; refine Keeps.cut (r := org) (v := letX) ?_ (fun letH => ?_); (focus subst letX); rotate_left; clear_value letX; revert letX; intro _ _)
    | (extract_lets +onlyGivenNames letX; clear_value letX; revert letX; intro _)
    | with_reducible refine Keeps.iteP ?_ ?_
    | with_reducible refine forEach_keeps ?_ (fun _ _ _ => ?_)
    | with_reducible refine Keeps.update ?_

theorem State.canBusOff_keeps {org s : State} (p tec rec_ : Nat) (h : Keeps org s) :
    Keeps org (State.canBusOff s p tec rec_) := by
  delta State.canBusOff
  repeat' first
    | with_reducible assumption
    | with_reducible apply State.setN_keeps
    | with_reducible apply State.count_keeps
    | with_reducible apply State.raise_keeps
    | (extract_lets +onlyGivenNames letX; have letT : True := (by clear_value letX; guard_hyp letX : State; trivial); clear letT; refine Keeps.cut (r := org) (v := letX) ?_ (fun letH => ?_); (focus subst letX); rotate_left; clear_value letX; revert letX; intro _ _)
    | with_reducible refine Keeps.ite ?_ ?_
    | with_reducible refine Keeps.iteP ?_ ?_
    | with_reducible refine Keeps.update ?_

theorem State.canBack_keeps {org s : State} (p : Nat) (h : Keeps org s) :
    Keeps org (State.canBack s p) := by
  delta State.canBack
  repeat' first
    | with_reducible assumption
    | with_reducible apply State.setN_keeps
    | with_reducible apply State.canJoin_keeps
    | with_reducible apply State.raise_keeps
    | (extract_lets +onlyGivenNames letX; have letT : True := (by clear_value letX; guard_hyp letX : State; trivial); clear letT; refine Keeps.cut (r := org) (v := letX) ?_ (fun letH => ?_); (focus subst letX); rotate_left; clear_value letX; revert letX; intro _ _)
    | with_reducible refine Keeps.iteP ?_ ?_

theorem State.canRecovered_keeps {org s : State} (p : Nat) (h : Keeps org s) :
    Keeps org (State.canRecovered s p) := by
  delta State.canRecovered
  repeat' first
    | with_reducible assumption
    | with_reducible apply State.canBack_keeps
    | with_reducible refine Keeps.ite ?_ ?_

theorem State.canRejoin_keeps {org s : State} (p : Nat) (h : Keeps org s) :
    Keeps org (State.canRejoin s p) := by
  delta State.canRejoin
  repeat' first
    | with_reducible assumption
    | with_reducible apply State.canBack_keeps
    | with_reducible apply State.canJoin_keeps
    | with_reducible refine Keeps.ite ?_ ?_

theorem State.canRates_keeps {org s : State} (p : Nat) (rates auto : Bool) (h : Keeps org s) :
    Keeps org (State.canRates s p rates auto) := by
  delta State.canRates
  repeat' first
    | with_reducible assumption
    | with_reducible apply State.setN_keeps
    | with_reducible apply State.canBack_keeps
    | with_reducible refine Keeps.ite ?_ ?_

theorem State.nodeSend_keeps {org s : State} (t code : Nat) (h : Keeps org s) :
    Keeps org (State.nodeSend s t code) := by
  delta State.nodeSend
  repeat' first
    | with_reducible assumption
    | with_reducible apply State.canSend_keeps
    | split

theorem State.nodeBoot_keeps {org s : State} (t : Nat) (h : Keeps org s) :
    Keeps org (State.nodeBoot s t) := by
  delta State.nodeBoot
  repeat' first
    | with_reducible assumption
    | with_reducible apply State.setN_keeps
    | with_reducible apply State.nodeSend_keeps
    | with_reducible refine Keeps.ite ?_ ?_

theorem State.heartbeat_keeps {org s : State} (t : Nat) (h : Keeps org s) :
    Keeps org (State.heartbeat s t) := by
  delta State.heartbeat
  repeat' first
    | with_reducible assumption
    | with_reducible apply State.setN_keeps
    | with_reducible apply State.nodeSend_keeps
    | (extract_lets +onlyGivenNames letX; clear_value letX; revert letX; intro _)
    | with_reducible refine Keeps.ite ?_ ?_
    | with_reducible refine Keeps.iteP ?_ ?_

theorem State.usdoClose_keeps {org s : State} (t : Nat) (h : Keeps org s) :
    Keeps org (State.usdoClose s t) := by
  delta State.usdoClose
  repeat' first
    | with_reducible assumption
    | with_reducible apply State.setN_keeps
    | with_reducible apply State.setBlob_keeps

theorem State.usdoAbort_keeps {org s : State} (t code : Nat) (h : Keeps org s) :
    Keeps org (State.usdoAbort s t code) := by
  delta State.usdoAbort
  repeat' first
    | with_reducible assumption
    | with_reducible apply State.usdoClose_keeps
    | with_reducible apply State.answer_keeps
    | with_reducible refine Keeps.ite ?_ ?_

theorem State.usdoTimeout_keeps {org s : State} (t : Nat) (h : Keeps org s) :
    Keeps org (State.usdoTimeout s t) := by
  delta State.usdoTimeout
  repeat' first
    | with_reducible assumption
    | with_reducible apply State.usdoAbort_keeps
    | with_reducible refine Keeps.ite ?_ ?_

theorem State.emcySend_keeps {org s : State} (t : Nat) (r : Record) (h : Keeps org s) :
    Keeps org (State.emcySend s t r) := by
  delta State.emcySend
  repeat' first
    | with_reducible assumption
    | with_reducible apply State.count_keeps
    | with_reducible apply State.canSend_keeps
    | (extract_lets +onlyGivenNames letX; clear_value letX; revert letX; intro _)
    | with_reducible refine Keeps.ite ?_ ?_
    | with_reducible refine Keeps.iteP ?_ ?_
    | split

theorem State.timeReceived_keeps {org s : State} (p m d : Nat) (h : Keeps org s) :
    Keeps org (State.timeReceived s p m d) := by
  delta State.timeReceived
  repeat' first
    | with_reducible assumption
    | with_reducible apply State.wrapCount_keeps
    | with_reducible apply State.raise_keeps
    | with_reducible apply State.setClock_keeps
    | (extract_lets +onlyGivenNames letX; have letT : True := (by clear_value letX; guard_hyp letX : State; trivial); clear letT; refine Keeps.cut (r := org) (v := letX) ?_ (fun letH => ?_); (focus subst letX); rotate_left; clear_value letX; revert letX; intro _ _)
    | with_reducible refine Keeps.ite ?_ ?_
    | with_reducible refine Keeps.iteP ?_ ?_

theorem execCanBusOff_runs {org s : State} (p : CanPort) (tec rec_ : Nat) (h : Keeps org s) :
    Runs org (execCanBusOff p tec rec_ s) := by
  delta execCanBusOff
  repeat' first
    | with_reducible assumption
    | with_reducible refine Runs.next ?_
    | with_reducible apply State.canBusOff_keeps
    | with_reducible refine Runs.ite ?_ ?_

theorem execCanBusRecovered_runs {org s : State} (p : CanPort) (h : Keeps org s) :
    Runs org (execCanBusRecovered p s) := by
  delta execCanBusRecovered
  repeat' first
    | with_reducible assumption
    | with_reducible refine Runs.next ?_
    | with_reducible apply State.canRecovered_keeps
    | with_reducible refine Runs.ite ?_ ?_

theorem execCanRejoin_runs {org s : State} (p : CanPort) (h : Keeps org s) :
    Runs org (execCanRejoin p s) := by
  delta execCanRejoin
  repeat' first
    | with_reducible assumption
    | with_reducible refine Runs.next ?_
    | with_reducible apply State.canRejoin_keeps
    | with_reducible refine Runs.ite ?_ ?_

theorem execHeartbeatSend_runs {org s : State} (t : Tenant) (h : Keeps org s) :
    Runs org (execHeartbeatSend t s) := by
  delta execHeartbeatSend
  repeat' first
    | with_reducible assumption
    | with_reducible refine Runs.next ?_
    | with_reducible apply State.heartbeat_keeps
    | with_reducible refine Runs.ite ?_ ?_

theorem execUsdoSessionTimeout_runs {org s : State} (t : Tenant) (h : Keeps org s) :
    Runs org (execUsdoSessionTimeout t s) := by
  delta execUsdoSessionTimeout
  repeat' first
    | with_reducible assumption
    | with_reducible refine Runs.next ?_
    | with_reducible apply State.usdoTimeout_keeps
    | with_reducible refine Runs.ite ?_ ?_

theorem execTimeReceived_runs {org s : State} (p : CanPort) (ms days : Nat) (h : Keeps org s) :
    Runs org (execTimeReceived p ms days s) := by
  delta execTimeReceived
  repeat' first
    | with_reducible assumption
    | with_reducible refine Runs.next ?_
    | with_reducible apply State.timeReceived_keeps
    | with_reducible refine Runs.ite ?_ ?_

theorem State.foldNow_keeps {org s : State} (n : Nat) (hold : Bool) (h : Keeps org s) :
    Keeps org (State.foldNow s n hold) := by
  delta State.foldNow
  repeat' first
    | with_reducible assumption
    | with_reducible apply State.setN_keeps
    | with_reducible apply State.setRequest_keeps
    | with_reducible apply State.requestOff_keeps
    | with_reducible refine Keeps.ite ?_ ?_

theorem State.foldChannel_keeps {org s : State} (n : Nat) (hold : Bool) (h : Keeps org s) :
    Keeps org (State.foldChannel s n hold) := by
  delta State.foldChannel
  repeat' first
    | with_reducible assumption
    | with_reducible apply State.swapInterrupt_keeps
    | with_reducible apply State.setN_keeps
    | with_reducible apply State.foldNow_keeps
    | (extract_lets +onlyGivenNames letX; have letT : True := (by clear_value letX; guard_hyp letX : State; trivial); clear letT; refine Keeps.cut (r := org) (v := letX) ?_ (fun letH => ?_); (focus subst letX); rotate_left; clear_value letX; revert letX; intro _ _)
    | with_reducible refine Keeps.ite ?_ ?_
    | with_reducible refine Keeps.iteP ?_ ?_

theorem State.foldSettle_keeps {org s : State} (n : Nat) (h : Keeps org s) :
    Keeps org (State.foldSettle s n) := by
  delta State.foldSettle
  repeat' first
    | with_reducible assumption
    | with_reducible apply State.setN_keeps
    | with_reducible apply State.foldNow_keeps
    | (extract_lets +onlyGivenNames letX; clear_value letX; revert letX; intro _)
    | with_reducible refine Keeps.ite ?_ ?_
    | with_reducible refine Keeps.iteP ?_ ?_

theorem State.foldConverter_keeps {org s : State} (m : Nat) (hold : Bool) (h : Keeps org s) :
    Keeps org (State.foldConverter s m hold) := by
  delta State.foldConverter
  repeat' first
    | with_reducible assumption
    | with_reducible apply State.swNoClosed_keeps
    | with_reducible apply State.asFinish_keeps
    | with_reducible apply State.setN_keeps
    | with_reducible apply State.convStop_keeps
    | (extract_lets +onlyGivenNames letX; have letT : True := (by clear_value letX; guard_hyp letX : State; trivial); clear letT; refine Keeps.cut (r := org) (v := letX) ?_ (fun letH => ?_); (focus subst letX); rotate_left; clear_value letX; revert letX; intro _ _)
    | with_reducible refine Keeps.ite ?_ ?_
    | with_reducible refine Keeps.iteP ?_ ?_

theorem State.foldAll_keeps {org s : State} (t : Nat) (h : Keeps org s) :
    Keeps org (State.foldAll s t) := by
  delta State.foldAll
  repeat' first
    | with_reducible assumption
    | with_reducible apply State.foldChannel_keeps
    | with_reducible apply State.foldConverter_keeps
    | (extract_lets +onlyGivenNames letX; have letT : True := (by clear_value letX; guard_hyp letX : State; trivial); clear letT; refine Keeps.cut (r := org) (v := letX) ?_ (fun letH => ?_); (focus subst letX); rotate_left; clear_value letX; revert letX; intro _ _)
    | with_reducible refine Keeps.ite ?_ ?_
    | with_reducible refine Keeps.iteP ?_ ?_
    | with_reducible refine forEach_keeps ?_ (fun _ _ _ => ?_)
    | with_reducible refine forBelow_keeps ?_ (fun _ _ _ => ?_)

theorem State.foldHand_keeps {org s : State} (t cause : Nat) (h : Keeps org s) :
    Keeps org (State.foldHand s t cause) := by
  delta State.foldHand
  repeat' first
    | with_reducible assumption
    | with_reducible apply State.foldAll_keeps
    | with_reducible apply State.count_keeps
    | with_reducible apply State.setN_keeps
    | with_reducible apply State.raiseServer_keeps
    | (extract_lets +onlyGivenNames letX; have letT : True := (by clear_value letX; guard_hyp letX : State; trivial); clear letT; refine Keeps.cut (r := org) (v := letX) ?_ (fun letH => ?_); (focus subst letX); rotate_left; clear_value letX; revert letX; intro _ _)

theorem State.scheduleFold_keeps {org s : State} (t cause : Nat) (h : Keeps org s) :
    Keeps org (State.scheduleFold s t cause) := by
  delta State.scheduleFold
  repeat' first
    | with_reducible assumption
    | with_reducible apply State.land_keeps
    | with_reducible apply State.openShadow_keeps
    | with_reducible refine Keeps.ite ?_ ?_

theorem State.tenantResetAccept_keeps {org s : State} (t source : Nat) (h : Keeps org s) :
    Keeps org (State.tenantResetAccept s t source) := by
  delta State.tenantResetAccept
  repeat' first
    | with_reducible assumption
    | with_reducible apply State.barrierDrop_keeps
    | with_reducible apply State.usdoAbort_keeps
    | with_reducible apply State.land_keeps
    | with_reducible apply State.openShadow_keeps
    | (extract_lets +onlyGivenNames letX; have letT : True := (by clear_value letX; guard_hyp letX : State; trivial); clear letT; refine Keeps.cut (r := org) (v := letX) ?_ (fun letH => ?_); (focus subst letX); rotate_left; clear_value letX; revert letX; intro _ _)
    | (extract_lets +onlyGivenNames letX; clear_value letX; revert letX; intro _)
    | with_reducible refine Keeps.ite ?_ ?_
    | with_reducible refine Keeps.iteP ?_ ?_

theorem State.trumpLands_keeps {org s : State} (n sub v : Nat) (h : Keeps org s) :
    Keeps org (State.trumpLands s n sub v) := by
  delta State.trumpLands
  repeat' first
    | with_reducible assumption
    | with_reducible apply State.setBit_keeps
    | with_reducible apply State.raise_keeps
    | (extract_lets +onlyGivenNames letX; clear_value letX; revert letX; intro _)
    | with_reducible refine Keeps.ite ?_ ?_
    | with_reducible refine Keeps.iteP ?_ ?_

theorem State.trumpReleased_keeps {org s : State} (n : Nat) (h : Keeps org s) :
    Keeps org (State.trumpReleased s n) := by
  delta State.trumpReleased
  repeat' first
    | with_reducible assumption
    | with_reducible apply State.setBit_keeps
    | (extract_lets +onlyGivenNames letX; clear_value letX; revert letX; intro _)

theorem State.channelsMove_keeps {org s : State} (old : State) (h : Keeps org s) :
    Keeps org (State.channelsMove old s) := by
  delta State.channelsMove
  repeat' first
    | with_reducible assumption
    | with_reducible apply State.setBit_keeps
    | (extract_lets +onlyGivenNames letX; clear_value letX; revert letX; intro _)
    | with_reducible refine Keeps.ite ?_ ?_
    | with_reducible refine Keeps.iteP ?_ ?_
    | with_reducible refine forBelow_keeps ?_ (fun _ _ _ => ?_)

theorem State.ringsMove_keeps {org s : State} (old : State) (h : Keeps org s) :
    Keeps org (State.ringsMove old s) := by
  delta State.ringsMove
  repeat' first
    | with_reducible assumption
    | with_reducible apply State.ringMoves_keeps
    | with_reducible refine Keeps.ite ?_ ?_
    | with_reducible refine forEach_keeps ?_ (fun _ _ _ => ?_)

theorem State.dealApplies_keeps {org s : State} (old : State) (h : Keeps org s) :
    Keeps org (State.dealApplies old s) := by
  delta State.dealApplies
  repeat' first
    | with_reducible assumption
    | with_reducible apply State.ringsMove_keeps
    | with_reducible apply State.channelsMove_keeps
    | with_reducible apply State.asFinish_keeps
    | with_reducible apply State.tgHoldChange_keeps
    | with_reducible apply State.setN_keeps
    | with_reducible apply State.nodeBoot_keeps
    | with_reducible apply State.raiseServer_keeps
    | (extract_lets +onlyGivenNames letX; have letT : True := (by clear_value letX; guard_hyp letX : State; trivial); clear letT; refine Keeps.cut (r := org) (v := letX) ?_ (fun letH => ?_); (focus subst letX); rotate_left; clear_value letX; revert letX; intro _ _)
    | with_reducible refine Keeps.ite ?_ ?_
    | with_reducible refine Keeps.iteP ?_ ?_
    | with_reducible refine forEach_keeps ?_ (fun _ _ _ => ?_)

theorem State.twAdopt_keeps {org s : State} (h : Keeps org s) :
    Keeps org (State.twAdopt s) := by
  delta State.twAdopt
  repeat' first
    | with_reducible assumption
    | with_reducible apply State.set_keeps
    | (extract_lets +onlyGivenNames letX; have letT : True := (by clear_value letX; guard_hyp letX : State; trivial); clear letT; refine Keeps.cut (r := org) (v := letX) ?_ (fun letH => ?_); (focus subst letX); rotate_left; clear_value letX; revert letX; intro _ _)
    | with_reducible refine Keeps.ite ?_ ?_
    | with_reducible refine Keeps.iteP ?_ ?_

theorem State.twAttention_keeps {org s : State} (byte : Nat) (h : Keeps org s) :
    Keeps org (State.twAttention s byte) := by
  delta State.twAttention
  repeat' first
    | with_reducible assumption
    | with_reducible apply State.setN_keeps
    | with_reducible apply State.raise_keeps

theorem State.twAttentions_keeps {org s : State} (h : Keeps org s) :
    Keeps org (State.twAttentions s) := by
  delta State.twAttentions
  repeat' first
    | with_reducible assumption
    | with_reducible apply State.emit_keeps
    | with_reducible apply State.twAttention_keeps
    | with_reducible apply State.setBlob_keeps
    | (extract_lets +onlyGivenNames letX; clear_value letX; revert letX; intro _)
    | with_reducible refine Keeps.iteP ?_ ?_
    | with_reducible refine forEach_keeps ?_ (fun _ _ _ => ?_)

theorem State.twRuns_keeps {org s : State} (h : Keeps org s) :
    Keeps org (State.twRuns s) := by
  delta State.twRuns
  repeat' first
    | with_reducible assumption
    | with_reducible apply State.setN_keeps
    | with_reducible apply State.emit_keeps

theorem State.twStart_keeps {org s : State} (h : Keeps org s) :
    Keeps org (State.twStart s) := by
  delta State.twStart
  repeat' first
    | with_reducible assumption
    | with_reducible apply State.setN_keeps
    | with_reducible apply State.setBlob_keeps
    | with_reducible apply State.twRuns_keeps
    | (extract_lets +onlyGivenNames letX; have letT : True := (by clear_value letX; guard_hyp letX : State; trivial); clear letT; refine Keeps.cut (r := org) (v := letX) ?_ (fun letH => ?_); (focus subst letX); rotate_left; clear_value letX; revert letX; intro _ _)
    | with_reducible refine Keeps.ite ?_ ?_
    | with_reducible refine Keeps.iteP ?_ ?_

theorem State.twEnds_keeps {org s : State} (result written : Nat) (read : List Byte) (h : Keeps org s) :
    Keeps org (State.twEnds s result written read) := by
  delta State.twEnds
  repeat' first
    | with_reducible assumption
    | with_reducible apply State.setN_keeps
    | with_reducible apply State.setBlob_keeps
    | with_reducible apply State.raise_keeps
    | with_reducible apply State.twAttentions_keeps
    | with_reducible apply State.twAdopt_keeps
    | (extract_lets +onlyGivenNames letX; have letT : True := (by clear_value letX; guard_hyp letX : State; trivial); clear letT; refine Keeps.cut (r := org) (v := letX) ?_ (fun letH => ?_); (focus subst letX); rotate_left; clear_value letX; revert letX; intro _ _)

theorem State.twDone_keeps {org s : State} (result written : Nat) (read : List Byte) (h : Keeps org s) :
    Keeps org (State.twDone s result written read) := by
  delta State.twDone
  repeat' first
    | with_reducible assumption
    | with_reducible apply State.twEnds_keeps
    | (extract_lets +onlyGivenNames letX; clear_value letX; revert letX; intro _)
    | with_reducible refine Keeps.ite ?_ ?_
    | with_reducible refine Keeps.iteP ?_ ?_

theorem State.twLost_keeps {org s : State} (sent : Option Nat) (written : Nat) (h : Keeps org s) :
    Keeps org (State.twLost s sent written) := by
  delta State.twLost
  repeat' first
    | with_reducible assumption
    | with_reducible apply State.count_keeps
    | with_reducible apply State.raise_keeps
    | with_reducible apply State.twEnds_keeps
    | with_reducible apply State.setN_keeps
    | with_reducible apply State.twRuns_keeps
    | (extract_lets +onlyGivenNames letX; have letT : True := (by clear_value letX; guard_hyp letX : State; trivial); clear letT; refine Keeps.cut (r := org) (v := letX) ?_ (fun letH => ?_); (focus subst letX); rotate_left; clear_value letX; revert letX; intro _ _)
    | (extract_lets +onlyGivenNames letX; clear_value letX; revert letX; intro _)
    | with_reducible refine Keeps.ite ?_ ?_
    | with_reducible refine Keeps.iteP ?_ ?_

theorem State.twClockLow_keeps {org s : State} (target written : Nat) (h : Keeps org s) :
    Keeps org (State.twClockLow s target written) := by
  delta State.twClockLow
  repeat' first
    | with_reducible assumption
    | with_reducible apply State.setBlob_keeps
    | with_reducible apply State.twEnds_keeps
    | with_reducible apply State.setBit_keeps
    | with_reducible apply State.count_keeps
    | with_reducible apply State.setN_keeps
    | with_reducible apply State.raise_keeps
    | (extract_lets +onlyGivenNames letX; have letT : True := (by clear_value letX; guard_hyp letX : State; trivial); clear letT; refine Keeps.cut (r := org) (v := letX) ?_ (fun letH => ?_); (focus subst letX); rotate_left; clear_value letX; revert letX; intro _ _)
    | (extract_lets +onlyGivenNames letX; clear_value letX; revert letX; intro _)
    | with_reducible refine Keeps.ite ?_ ?_
    | with_reducible refine Keeps.iteP ?_ ?_

theorem State.twClockHigh_keeps {org s : State} (h : Keeps org s) :
    Keeps org (State.twClockHigh s) := by
  delta State.twClockHigh
  repeat' first
    | with_reducible assumption
    | with_reducible apply State.setBit_keeps
    | with_reducible apply State.setN_keeps
    | with_reducible refine Keeps.ite ?_ ?_

theorem State.twInband_keeps {org s : State} (byte : Nat) (h : Keeps org s) :
    Keeps org (State.twInband s byte) := by
  delta State.twInband
  repeat' first
    | with_reducible assumption
    | with_reducible apply State.count_keeps
    | with_reducible apply State.takeFree_keeps
    | with_reducible apply State.raise_keeps
    | with_reducible apply State.emit_keeps
    | with_reducible apply State.twAttention_keeps
    | with_reducible apply State.setBlob_keeps
    | (extract_lets +onlyGivenNames letX; have letT : True := (by clear_value letX; guard_hyp letX : State; trivial); clear letT; refine Keeps.cut (r := org) (v := letX) ?_ (fun letH => ?_); (focus subst letX); rotate_left; clear_value letX; revert letX; intro _ _)
    | (extract_lets +onlyGivenNames letX; clear_value letX; revert letX; intro _)
    | with_reducible refine Keeps.ite ?_ ?_
    | with_reducible refine Keeps.iteP ?_ ?_

theorem State.twDataLow_keeps {org s : State} (pulses written : Nat) (h : Keeps org s) :
    Keeps org (State.twDataLow s pulses written) := by
  delta State.twDataLow
  repeat' first
    | with_reducible assumption
    | with_reducible apply State.twEnds_keeps
    | with_reducible apply State.setBit_keeps
    | with_reducible apply State.count_keeps
    | with_reducible apply State.raise_keeps
    | (extract_lets +onlyGivenNames letX; have letT : True := (by clear_value letX; guard_hyp letX : State; trivial); clear letT; refine Keeps.cut (r := org) (v := letX) ?_ (fun letH => ?_); (focus subst letX); rotate_left; clear_value letX; revert letX; intro _ _)
    | (extract_lets +onlyGivenNames letX; clear_value letX; revert letX; intro _)
    | with_reducible refine Keeps.ite ?_ ?_
    | with_reducible refine Keeps.iteP ?_ ?_

theorem State.twDataHigh_keeps {org s : State} (h : Keeps org s) :
    Keeps org (State.twDataHigh s) := by
  delta State.twDataHigh
  repeat' first
    | with_reducible assumption
    | with_reducible apply State.setBit_keeps

theorem execTransferDone_runs {org s : State} (result written : Nat) (read : List Byte) (h : Keeps org s) :
    Runs org (execTransferDone result written read s) := by
  delta execTransferDone
  repeat' first
    | with_reducible assumption
    | with_reducible refine Runs.next ?_
    | with_reducible apply State.twDone_keeps
    | with_reducible refine Runs.ite ?_ ?_

theorem execArbitrationLost_runs {org s : State} (sent : Option Nat) (written : Nat) (h : Keeps org s) :
    Runs org (execArbitrationLost sent written s) := by
  delta execArbitrationLost
  repeat' first
    | with_reducible assumption
    | with_reducible refine Runs.next ?_
    | with_reducible apply State.twLost_keeps
    | with_reducible refine Runs.ite ?_ ?_

theorem execClockLowTimeout_runs {org s : State} (target written : Nat) (h : Keeps org s) :
    Runs org (execClockLowTimeout target written s) := by
  delta execClockLowTimeout
  repeat' first
    | with_reducible assumption
    | with_reducible refine Runs.next ?_
    | with_reducible apply State.twClockLow_keeps
    | with_reducible refine Runs.ite ?_ ?_

theorem execClockLowClear_runs {org s : State} (h : Keeps org s) :
    Runs org (execClockLowClear s) := by
  delta execClockLowClear
  repeat' first
    | with_reducible assumption
    | with_reducible refine Runs.next ?_
    | with_reducible apply State.twClockHigh_keeps
    | with_reducible refine Runs.ite ?_ ?_

theorem execInbandRequest_runs {org s : State} (byte : Nat) (h : Keeps org s) :
    Runs org (execInbandRequest byte s) := by
  delta execInbandRequest
  repeat' first
    | with_reducible assumption
    | with_reducible refine Runs.next ?_
    | with_reducible apply State.twInband_keeps
    | with_reducible refine Runs.ite ?_ ?_

theorem execDataLowTimeout_runs {org s : State} (pulses written : Nat) (h : Keeps org s) :
    Runs org (execDataLowTimeout pulses written s) := by
  delta execDataLowTimeout
  repeat' first
    | with_reducible assumption
    | with_reducible refine Runs.next ?_
    | with_reducible apply State.twDataLow_keeps
    | with_reducible refine Runs.ite ?_ ?_

theorem execDataLowClear_runs {org s : State} (h : Keeps org s) :
    Runs org (execDataLowClear s) := by
  delta execDataLowClear
  repeat' first
    | with_reducible assumption
    | with_reducible refine Runs.next ?_
    | with_reducible apply State.twDataHigh_keeps
    | with_reducible refine Runs.ite ?_ ?_

theorem State.hkSetValue_keeps {org s : State} (e : Nat) (v : Int) (h : Keeps org s) :
    Keeps org (State.hkSetValue s e v) := by
  delta State.hkSetValue
  repeat' first
    | with_reducible assumption
    | with_reducible apply State.set_keeps
    | with_reducible apply State.setFree_keeps
    | with_reducible refine Keeps.ite ?_ ?_

theorem State.hkGoesStale_keeps {org s : State} (e cause : Nat) (h : Keeps org s) :
    Keeps org (State.hkGoesStale s e cause) := by
  delta State.hkGoesStale
  repeat' first
    | with_reducible assumption
    | with_reducible apply State.setBit_keeps
    | with_reducible apply State.raise_keeps
    | with_reducible refine Keeps.ite ?_ ?_

theorem State.hkAges_keeps {org s : State} (e : Nat) (h : Keeps org s) :
    Keeps org (State.hkAges s e) := by
  delta State.hkAges
  repeat' first
    | with_reducible assumption
    | with_reducible apply State.hkGoesStale_keeps
    | (extract_lets +onlyGivenNames letX; clear_value letX; revert letX; intro _)
    | with_reducible refine Keeps.ite ?_ ?_
    | with_reducible refine Keeps.iteP ?_ ?_

theorem State.hkShow_keeps {org s : State} (q : Nat) (h : Keeps org s) :
    Keeps org (State.hkShow s q) := by
  delta State.hkShow
  repeat' first
    | with_reducible assumption
    | with_reducible apply State.setN_keeps
    | with_reducible refine Keeps.ite ?_ ?_

theorem State.hkDelay_keeps {org s : State} (q : Nat) (h : Keeps org s) :
    Keeps org (State.hkDelay s q) := by
  delta State.hkDelay
  repeat' first
    | with_reducible assumption
    | with_reducible apply State.setN_keeps

theorem State.hkBoundary_keeps {org s : State} (q : Nat) (h : Keeps org s) :
    Keeps org (State.hkBoundary s q) := by
  delta State.hkBoundary
  repeat' first
    | with_reducible assumption
    | with_reducible apply State.setN_keeps
    | with_reducible apply State.hkShow_keeps
    | with_reducible apply State.hkDelay_keeps
    | with_reducible refine Keeps.ite ?_ ?_

theorem State.hkArbitrate_keeps {org s : State} (h : Keeps org s) :
    Keeps org (State.hkArbitrate s) := by
  delta State.hkArbitrate
  repeat' first
    | with_reducible assumption
    | with_reducible apply State.hkBoundary_keeps
    | with_reducible apply State.hkShow_keeps
    | with_reducible refine Keeps.ite ?_ ?_
    | with_reducible refine forBelow_keeps ?_ (fun _ _ _ => ?_)

theorem State.hkBegin_keeps {org s : State} (q : Nat) (h : Keeps org s) :
    Keeps org (State.hkBegin s q) := by
  delta State.hkBegin
  repeat' first
    | with_reducible assumption
    | with_reducible apply State.setN_keeps
    | with_reducible apply State.hkArbitrate_keeps
    | (extract_lets +onlyGivenNames letX; have letT : True := (by clear_value letX; guard_hyp letX : State; trivial); clear letT; refine Keeps.cut (r := org) (v := letX) ?_ (fun letH => ?_); (focus subst letX); rotate_left; clear_value letX; revert letX; intro _ _)

theorem State.hkTrigger_keeps {org s : State} (q : Nat) (h : Keeps org s) :
    Keeps org (State.hkTrigger s q) := by
  delta State.hkTrigger
  repeat' first
    | with_reducible assumption
    | with_reducible apply State.hkBegin_keeps
    | with_reducible apply State.count_keeps
    | with_reducible apply State.setN_keeps
    | with_reducible apply State.hkShow_keeps
    | with_reducible refine Keeps.ite ?_ ?_

theorem State.hkWritten_keeps {org s : State} (q : Nat) (h : Keeps org s) :
    Keeps org (State.hkWritten s q) := by
  delta State.hkWritten
  repeat' first
    | with_reducible assumption
    | with_reducible apply State.hkTrigger_keeps
    | with_reducible refine Keeps.ite ?_ ?_

theorem State.hkPeriod_keeps {org s : State} (q : Nat) (h : Keeps org s) :
    Keeps org (State.hkPeriod s q) := by
  delta State.hkPeriod
  repeat' first
    | with_reducible assumption
    | with_reducible apply State.setN_keeps
    | with_reducible apply State.hkTrigger_keeps
    | with_reducible refine Keeps.ite ?_ ?_

theorem State.hkRunEnd_keeps {org s : State} (q : Nat) (h : Keeps org s) :
    Keeps org (State.hkRunEnd s q) := by
  delta State.hkRunEnd
  repeat' first
    | with_reducible assumption
    | with_reducible apply State.wrapCount_keeps
    | with_reducible apply State.hkBegin_keeps
    | with_reducible apply State.raise_keeps
    | with_reducible apply State.setN_keeps
    | with_reducible apply State.hkArbitrate_keeps
    | with_reducible apply State.hkTrigger_keeps
    | (extract_lets +onlyGivenNames letX; have letT : True := (by clear_value letX; guard_hyp letX : State; trivial); clear letT; refine Keeps.cut (r := org) (v := letX) ?_ (fun letH => ?_); (focus subst letX); rotate_left; clear_value letX; revert letX; intro _ _)
    | (extract_lets +onlyGivenNames letX; clear_value letX; revert letX; intro _)
    | with_reducible refine Keeps.ite ?_ ?_
    | with_reducible refine Keeps.iteP ?_ ?_
    | with_reducible refine forBelow_keeps ?_ (fun _ _ _ => ?_)

theorem State.hkConversion_keeps {org s : State} (q code : Nat) (h : Keeps org s) :
    Keeps org (State.hkConversion s q code) := by
  delta State.hkConversion
  repeat' first
    | with_reducible assumption
    | with_reducible apply State.wrapCount_keeps
    | with_reducible apply State.setN_keeps
    | with_reducible apply State.set_keeps
    | with_reducible apply State.hkBoundary_keeps
    | (extract_lets +onlyGivenNames letX; have letT : True := (by clear_value letX; guard_hyp letX : State; trivial); clear letT; refine Keeps.cut (r := org) (v := letX) ?_ (fun letH => ?_); (focus subst letX); rotate_left; clear_value letX; revert letX; intro _ _)
    | (extract_lets +onlyGivenNames letX; clear_value letX; revert letX; intro _)
    | with_reducible refine Keeps.ite ?_ ?_
    | with_reducible refine Keeps.iteP ?_ ?_

theorem State.hkInjected_keeps {org s : State} (e : Nat) (x : Int) (h : Keeps org s) :
    Keeps org (State.hkInjected s e x) := by
  delta State.hkInjected
  repeat' first
    | with_reducible assumption
    | with_reducible apply State.setN_keeps
    | with_reducible apply State.setBit_keeps
    | with_reducible apply State.raise_keeps
    | with_reducible apply State.hkGoesStale_keeps
    | (extract_lets +onlyGivenNames letX; have letT : True := (by clear_value letX; guard_hyp letX : State; trivial); clear letT; refine Keeps.cut (r := org) (v := letX) ?_ (fun letH => ?_); (focus subst letX); rotate_left; clear_value letX; revert letX; intro _ _)
    | (extract_lets +onlyGivenNames letX; have letT : True := (by clear_value letX; revert letX; with_reducible exact Keeps.isPair); clear letT; refine Keeps.cut (r := org) (v := letX.2) ?_ (fun letH => ?_); (focus subst letX); rotate_left; clear_value letX; revert letX; intro _ _)
    | with_reducible refine Keeps.ite ?_ ?_
    | with_reducible refine Keeps.iteP ?_ ?_

theorem State.hkClean_keeps {org s : State} (e : Nat) (sum : Int) (rep : Nat) (h : Keeps org s) :
    Keeps org (State.hkClean s e sum rep) := by
  delta State.hkClean
  repeat' first
    | with_reducible assumption
    | with_reducible apply State.setN_keeps
    | with_reducible apply State.setBit_keeps
    | with_reducible apply State.hkSetValue_keeps
    | with_reducible apply State.battTempExtremes_keeps
    | with_reducible apply State.raise_keeps
    | (extract_lets +onlyGivenNames letX; have letT : True := (by clear_value letX; guard_hyp letX : State; trivial); clear letT; refine Keeps.cut (r := org) (v := letX) ?_ (fun letH => ?_); (focus subst letX); rotate_left; clear_value letX; revert letX; intro _ _)
    | (extract_lets +onlyGivenNames letX; have letT : True := (by clear_value letX; revert letX; with_reducible exact Keeps.isPair); clear letT; refine Keeps.cut (r := org) (v := letX.2) ?_ (fun letH => ?_); (focus subst letX); rotate_left; clear_value letX; revert letX; intro _ _)
    | with_reducible refine Keeps.ite ?_ ?_
    | with_reducible refine Keeps.iteP ?_ ?_

theorem State.hkPassEnd_keeps {org s : State} (q : Nat) (h : Keeps org s) :
    Keeps org (State.hkPassEnd s q) := by
  delta State.hkPassEnd
  repeat' first
    | with_reducible assumption
    | with_reducible apply State.setN_keeps
    | with_reducible apply State.hkInjected_keeps
    | with_reducible apply State.hkClean_keeps
    | with_reducible apply State.hkArbitrate_keeps
    | (extract_lets +onlyGivenNames letX; have letT : True := (by clear_value letX; guard_hyp letX : State; trivial); clear letT; refine Keeps.cut (r := org) (v := letX) ?_ (fun letH => ?_); (focus subst letX); rotate_left; clear_value letX; revert letX; intro _ _)
    | (extract_lets +onlyGivenNames letX; clear_value letX; revert letX; intro _)
    | with_reducible refine Keeps.ite ?_ ?_
    | with_reducible refine Keeps.iteP ?_ ?_

theorem State.hkRestart_keeps {org s : State} (q : Nat) (h : Keeps org s) :
    Keeps org (State.hkRestart s q) := by
  delta State.hkRestart
  repeat' first
    | with_reducible assumption
    | with_reducible apply State.setN_keeps
    | with_reducible apply State.hkBegin_keeps
    | with_reducible apply State.hkShow_keeps
    | with_reducible apply State.hkArbitrate_keeps
    | (extract_lets +onlyGivenNames letX; have letT : True := (by clear_value letX; guard_hyp letX : State; trivial); clear letT; refine Keeps.cut (r := org) (v := letX) ?_ (fun letH => ?_); (focus subst letX); rotate_left; clear_value letX; revert letX; intro _ _)
    | with_reducible refine Keeps.ite ?_ ?_
    | with_reducible refine Keeps.iteP ?_ ?_

theorem State.hkStarts_keeps {org s : State} (h : Keeps org s) :
    Keeps org (State.hkStarts s) := by
  delta State.hkStarts
  repeat' first
    | with_reducible assumption
    | with_reducible apply State.raise_keeps
    | with_reducible apply State.hkRestart_keeps
    | (extract_lets +onlyGivenNames letX; have letT : True := (by clear_value letX; guard_hyp letX : State; trivial); clear letT; refine Keeps.cut (r := org) (v := letX) ?_ (fun letH => ?_); (focus subst letX); rotate_left; clear_value letX; revert letX; intro _ _)
    | with_reducible refine Keeps.iteP ?_ ?_
    | with_reducible refine forBelow_keeps ?_ (fun _ _ _ => ?_)

theorem State.hkCommitted_keeps {org s : State} (keys : List Nat) (h : Keeps org s) :
    Keeps org (State.hkCommitted s keys) := by
  delta State.hkCommitted
  repeat' first
    | with_reducible assumption
    | with_reducible apply State.setN_keeps
    | with_reducible apply State.hkRestart_keeps
    | (extract_lets +onlyGivenNames letX; have letT : True := (by clear_value letX; guard_hyp letX : State; trivial); clear letT; refine Keeps.cut (r := org) (v := letX) ?_ (fun letH => ?_); (focus subst letX); rotate_left; clear_value letX; revert letX; intro _ _)
    | (extract_lets +onlyGivenNames letX; clear_value letX; revert letX; intro _)
    | with_reducible refine Keeps.ite ?_ ?_
    | with_reducible refine Keeps.iteP ?_ ?_
    | with_reducible refine forEach_keeps ?_ (fun _ _ _ => ?_)
    | with_reducible refine forBelow_keeps ?_ (fun _ _ _ => ?_)

theorem State.houseConversion_keeps {org s : State} (vbat vh vcore vio v18 vbk : Int) (faults : List (Fin 2 × Nat)) (h : Keeps org s) :
    Keeps org (State.houseConversion s vbat vh vcore vio v18 vbk faults) := by
  delta State.houseConversion
  repeat' first
    | with_reducible assumption
    | with_reducible apply State.setBit_keeps
    | with_reducible apply State.set_keeps
    | with_reducible apply State.setN_keeps
    | with_reducible apply State.hkDelay_keeps
    | with_reducible apply State.raise_keeps
    | (extract_lets +onlyGivenNames letX; have letT : True := (by clear_value letX; guard_hyp letX : State; trivial); clear letT; refine Keeps.cut (r := org) (v := letX) ?_ (fun letH => ?_); (focus subst letX); rotate_left; clear_value letX; revert letX; intro _ _)
    | with_reducible refine Keeps.ite ?_ ?_
    | with_reducible refine Keeps.iteP ?_ ?_
    | with_reducible refine forEach_keeps ?_ (fun _ _ _ => ?_)
    | with_reducible refine forBelow_keeps ?_ (fun _ _ _ => ?_)

theorem execHkPeriodTrigger_runs {org s : State} (q : Seq) (h : Keeps org s) :
    Runs org (execHkPeriodTrigger q s) := by
  delta execHkPeriodTrigger
  repeat' first
    | with_reducible assumption
    | with_reducible refine Runs.next ?_
    | with_reducible apply State.hkPeriod_keeps
    | with_reducible refine Runs.ite ?_ ?_

theorem execHkConversionEnd_runs {org s : State} (q : Seq) (code : Nat) (h : Keeps org s) :
    Runs org (execHkConversionEnd q code s) := by
  delta execHkConversionEnd
  repeat' first
    | with_reducible assumption
    | with_reducible refine Runs.next ?_
    | with_reducible apply State.hkConversion_keeps
    | with_reducible refine Runs.ite ?_ ?_

theorem execHkPassEnd_runs {org s : State} (q : Seq) (h : Keeps org s) :
    Runs org (execHkPassEnd q s) := by
  delta execHkPassEnd
  repeat' first
    | with_reducible assumption
    | with_reducible refine Runs.next ?_
    | with_reducible apply State.hkPassEnd_keeps
    | with_reducible refine Runs.ite ?_ ?_

theorem execHkRunEnd_runs {org s : State} (q : Seq) (h : Keeps org s) :
    Runs org (execHkRunEnd q s) := by
  delta execHkRunEnd
  repeat' first
    | with_reducible assumption
    | with_reducible refine Runs.next ?_
    | with_reducible apply State.hkRunEnd_keeps
    | with_reducible refine Runs.ite ?_ ?_

theorem execEntryStale_runs {org s : State} (e : Entry) (h : Keeps org s) :
    Runs org (execEntryStale e s) := by
  delta execEntryStale
  repeat' first
    | with_reducible assumption
    | with_reducible refine Runs.next ?_
    | with_reducible apply State.hkAges_keeps
    | with_reducible refine Runs.ite ?_ ?_

theorem execHouseConversion_runs {org s : State} (vbat vh vcore vio v18 vbk : Int) (faults : List (Fin 2 × Nat)) (h : Keeps org s) :
    Runs org (execHouseConversion vbat vh vcore vio v18 vbk faults s) := by
  delta execHouseConversion
  repeat' first
    | with_reducible assumption
    | with_reducible refine Runs.next ?_
    | with_reducible apply State.houseConversion_keeps
    | with_reducible refine Runs.ite ?_ ?_

theorem State.raiseThermal_keeps {org s : State} (d : Nat) (k : Kind) (site : Nat) (fields : List (Nat × Int)) (h : Keeps org s) :
    Keeps org (State.raiseThermal s d k site fields) := by
  delta State.raiseThermal
  repeat' first
    | with_reducible assumption
    | with_reducible apply State.raise_keeps
    | with_reducible apply State.raiseDie_keeps
    | with_reducible refine Keeps.ite ?_ ?_

theorem State.sensorFails_keeps {org s : State} (i : Nat) (t : Int) (h : Keeps org s) :
    Keeps org (State.sensorFails s i t) := by
  delta State.sensorFails
  repeat' first
    | with_reducible assumption
    | with_reducible apply State.setBit_keeps
    | with_reducible apply State.raiseThermal_keeps
    | with_reducible apply State.takeFree_keeps
    | (extract_lets +onlyGivenNames letX; have letT : True := (by clear_value letX; guard_hyp letX : State; trivial); clear letT; refine Keeps.cut (r := org) (v := letX) ?_ (fun letH => ?_); (focus subst letX); rotate_left; clear_value letX; revert letX; intro _ _)
    | (extract_lets +onlyGivenNames letX; clear_value letX; revert letX; intro _)
    | with_reducible refine Keeps.ite ?_ ?_
    | with_reducible refine Keeps.iteP ?_ ?_
    | split

theorem State.sensorJudge_keeps {org s : State} (i : Nat) (t : Int) (h : Keeps org s) :
    Keeps org (State.sensorJudge s i t) := by
  delta State.sensorJudge
  repeat' first
    | with_reducible assumption
    | with_reducible apply State.sensorFails_keeps
    | with_reducible apply State.setN_keeps
    | (extract_lets +onlyGivenNames letX; have letT : True := (by clear_value letX; guard_hyp letX : State; trivial); clear letT; refine Keeps.cut (r := org) (v := letX) ?_ (fun letH => ?_); (focus subst letX); rotate_left; clear_value letX; revert letX; intro _ _)
    | (extract_lets +onlyGivenNames letX; clear_value letX; revert letX; intro _)
    | with_reducible refine Keeps.ite ?_ ?_
    | with_reducible refine Keeps.iteP ?_ ?_
    | split

theorem State.thermalMaxima_keeps {org s : State} (d : Nat) (h : Keeps org s) :
    Keeps org (State.thermalMaxima s d) := by
  delta State.thermalMaxima
  repeat' first
    | with_reducible assumption
    | with_reducible apply State.set_keeps
    | with_reducible apply State.setN_keeps
    | (extract_lets +onlyGivenNames letX; have letT : True := (by clear_value letX; guard_hyp letX : State; trivial); clear letT; refine Keeps.cut (r := org) (v := letX) ?_ (fun letH => ?_); (focus subst letX); rotate_left; clear_value letX; revert letX; intro _ _)
    | (extract_lets +onlyGivenNames letX; clear_value letX; revert letX; intro _)
    | with_reducible refine Keeps.ite ?_ ?_
    | with_reducible refine Keeps.iteP ?_ ?_
    | split

theorem State.shutChannel_keeps {org s : State} (n : Nat) (h : Keeps org s) :
    Keeps org (State.shutChannel s n) := by
  delta State.shutChannel
  repeat' first
    | with_reducible assumption
    | with_reducible apply State.setRequest_keeps
    | with_reducible apply State.turnOff_keeps
    | with_reducible apply State.setN_keeps
    | with_reducible apply State.withdraw_keeps
    | (extract_lets +onlyGivenNames letX; have letT : True := (by clear_value letX; guard_hyp letX : State; trivial); clear letT; refine Keeps.cut (r := org) (v := letX) ?_ (fun letH => ?_); (focus subst letX); rotate_left; clear_value letX; revert letX; intro _ _)
    | (extract_lets +onlyGivenNames letX; clear_value letX; revert letX; intro _)
    | with_reducible refine Keeps.ite ?_ ?_
    | with_reducible refine Keeps.iteP ?_ ?_

theorem State.dieShuts_keeps {org s : State} (d : Nat) (h : Keeps org s) :
    Keeps org (State.dieShuts s d) := by
  delta State.dieShuts
  repeat' first
    | with_reducible assumption
    | with_reducible apply State.count_keeps
    | with_reducible apply State.shutChannel_keeps
    | with_reducible apply State.raiseThermal_keeps
    | (extract_lets +onlyGivenNames letX; have letT : True := (by clear_value letX; guard_hyp letX : State; trivial); clear letT; refine Keeps.cut (r := org) (v := letX) ?_ (fun letH => ?_); (focus subst letX); rotate_left; clear_value letX; revert letX; intro _ _)
    | with_reducible refine forEach_keeps ?_ (fun _ _ _ => ?_)

theorem State.storedAsks_keeps {org s : State} (n : Nat) (h : Keeps org s) :
    Keeps org (State.storedAsks s n) := by
  delta State.storedAsks
  repeat' first
    | with_reducible assumption
    | with_reducible apply State.setN_keeps
    | with_reducible apply State.actOnRequest_keeps
    | with_reducible apply State.askAdmission_keeps
    | with_reducible apply State.setModelFlag_keeps
    | (extract_lets +onlyGivenNames letX; have letT : True := (by clear_value letX; guard_hyp letX : State; trivial); clear letT; refine Keeps.cut (r := org) (v := letX) ?_ (fun letH => ?_); (focus subst letX); rotate_left; clear_value letX; revert letX; intro _ _)
    | with_reducible refine Keeps.ite ?_ ?_
    | with_reducible refine Keeps.iteP ?_ ?_

theorem State.calResumes_keeps {org s : State} (k : Nat) (h : Keeps org s) :
    Keeps org (State.calResumes s k) := by
  delta State.calResumes
  repeat' first
    | with_reducible assumption
    | with_reducible apply State.setN_keeps
    | with_reducible refine Keeps.ite ?_ ?_

theorem State.dieStateTo_keeps {org s : State} (d old new : Nat) (h : Keeps org s) :
    Keeps org (State.dieStateTo s d old new) := by
  delta State.dieStateTo
  repeat' first
    | with_reducible assumption
    | with_reducible apply State.setN_keeps
    | with_reducible apply State.raiseThermal_keeps
    | with_reducible apply State.dieShuts_keeps
    | with_reducible apply State.count_keeps
    | with_reducible apply State.storedAsks_keeps
    | with_reducible apply State.calResumes_keeps
    | (extract_lets +onlyGivenNames letX; have letT : True := (by clear_value letX; guard_hyp letX : State; trivial); clear letT; refine Keeps.cut (r := org) (v := letX) ?_ (fun letH => ?_); (focus subst letX); rotate_left; clear_value letX; revert letX; intro _ _)
    | (extract_lets +onlyGivenNames letX; clear_value letX; revert letX; intro _)
    | with_reducible refine Keeps.ite ?_ ?_
    | with_reducible refine Keeps.iteP ?_ ?_
    | with_reducible refine forEach_keeps ?_ (fun _ _ _ => ?_)
    | with_reducible refine forBelow_keeps ?_ (fun _ _ _ => ?_)

theorem State.coldJudge_keeps {org s : State} (d : Nat) (h : Keeps org s) :
    Keeps org (State.coldJudge s d) := by
  delta State.coldJudge
  repeat' first
    | with_reducible assumption
    | with_reducible apply State.setFlag_keeps
    | with_reducible apply State.setBit_keeps
    | with_reducible apply State.raiseThermal_keeps
    | (extract_lets +onlyGivenNames letX; have letT : True := (by clear_value letX; guard_hyp letX : State; trivial); clear letT; refine Keeps.cut (r := org) (v := letX) ?_ (fun letH => ?_); (focus subst letX); rotate_left; clear_value letX; revert letX; intro _ _)
    | (extract_lets +onlyGivenNames letX; clear_value letX; revert letX; intro _)
    | with_reducible refine Keeps.ite ?_ ?_
    | with_reducible refine Keeps.iteP ?_ ?_

theorem State.coldStart_keeps {org s : State} (h : Keeps org s) :
    Keeps org (State.coldStart s) := by
  delta State.coldStart
  repeat' first
    | with_reducible assumption
    | with_reducible apply State.setN_keeps
    | with_reducible apply State.setBit_keeps
    | with_reducible apply State.raiseThermal_keeps
    | (extract_lets +onlyGivenNames letX; have letT : True := (by clear_value letX; guard_hyp letX : State; trivial); clear letT; refine Keeps.cut (r := org) (v := letX) ?_ (fun letH => ?_); (focus subst letX); rotate_left; clear_value letX; revert letX; intro _ _)
    | (extract_lets +onlyGivenNames letX; clear_value letX; revert letX; intro _)
    | with_reducible refine Keeps.ite ?_ ?_
    | with_reducible refine Keeps.iteP ?_ ?_

theorem State.tempSample_keeps {org s : State} (i : Nat) (t : Int) (h : Keeps org s) :
    Keeps org (State.tempSample s i t) := by
  delta State.tempSample
  repeat' first
    | with_reducible assumption
    | with_reducible apply State.sensorJudge_keeps
    | with_reducible apply State.set_keeps
    | with_reducible apply State.setBit_keeps
    | with_reducible apply State.thermalMaxima_keeps
    | with_reducible apply State.dieStateTo_keeps
    | with_reducible apply State.setN_keeps
    | with_reducible apply State.coldJudge_keeps
    | with_reducible apply State.coldStart_keeps
    | (extract_lets +onlyGivenNames letX; have letT : True := (by clear_value letX; guard_hyp letX : State; trivial); clear letT; refine Keeps.cut (r := org) (v := letX) ?_ (fun letH => ?_); (focus subst letX); rotate_left; clear_value letX; revert letX; intro _ _)
    | (extract_lets +onlyGivenNames letX; clear_value letX; revert letX; intro _)
    | with_reducible refine Keeps.ite ?_ ?_
    | with_reducible refine Keeps.iteP ?_ ?_

theorem State.floorStep_keeps {org s : State} (h : Keeps org s) :
    Keeps org (State.floorStep s) := by
  delta State.floorStep
  repeat' first
    | with_reducible assumption
    | with_reducible apply State.setN_keeps
    | (extract_lets +onlyGivenNames letX; clear_value letX; revert letX; intro _)
    | with_reducible refine Keeps.ite ?_ ?_
    | with_reducible refine Keeps.iteP ?_ ?_

theorem State.thermalOpening_keeps {org s : State} (h : Keeps org s) :
    Keeps org (State.thermalOpening s) := by
  delta State.thermalOpening
  repeat' first
    | with_reducible assumption
    | with_reducible apply State.setN_keeps
    | with_reducible apply State.setBit_keeps
    | with_reducible apply State.restore_keeps
    | (extract_lets +onlyGivenNames letX; have letT : True := (by clear_value letX; guard_hyp letX : State; trivial); clear letT; refine Keeps.cut (r := org) (v := letX) ?_ (fun letH => ?_); (focus subst letX); rotate_left; clear_value letX; revert letX; intro _ _)
    | with_reducible refine Keeps.ite ?_ ?_
    | with_reducible refine Keeps.iteP ?_ ?_
    | with_reducible refine forBelow_keeps ?_ (fun _ _ _ => ?_)

theorem execTempSample_runs {org s : State} (i : Sensor) (t : Int) (h : Keeps org s) :
    Runs org (execTempSample i t s) := by
  delta execTempSample
  repeat' first
    | with_reducible assumption
    | with_reducible refine Runs.next ?_
    | with_reducible apply State.tempSample_keeps
    | with_reducible refine Runs.ite ?_ ?_

theorem execThermalFloorStep_runs {org s : State} (h : Keeps org s) :
    Runs org (execThermalFloorStep s) := by
  delta execThermalFloorStep
  repeat' first
    | with_reducible assumption
    | with_reducible refine Runs.next ?_
    | with_reducible apply State.floorStep_keeps
    | with_reducible refine Runs.ite ?_ ?_

/-- A reset clears registers: what it leaves stands in order. -/
theorem Keeps.filtered {org s t : State} (p : Nat → Bool) (h : Keeps org s)
    (hr : t.regs = s.regs.filter fun x => p x.1) (hb : t.blobs = s.blobs.filter fun x => p x.1)
    (hp : t.pending = s.pending) (hf : s.frame ≤ t.frame) (hn : s.free ≤ t.free) (ho : s.out <+: t.out) :
    Keeps org t := by
  refine h.trans ⟨fun c => ?_, fun c => ?_, hp, hf, hn, ho⟩
  · unfold State.Canonical
    rw [hr]
    exact ⟨c.1.filter _, fun q hq => c.2 q (List.mem_filter.1 hq).1⟩
  · unfold State.BlobsCanonical
    rw [hb]
    exact ⟨c.1.filter _, fun q hq => c.2 q (List.mem_filter.1 hq).1⟩

theorem State.wipe_keeps {org s : State} (full park : Bool) (h : Keeps org s) :
    Keeps org (State.wipe s full park) := by
  delta State.wipe
  refine forEach_keeps ?_ fun _ _ hx => State.setChFlag_keeps _ _ _ (State.setChFlag_keeps _ _ _ hx)
  exact h.filtered (keptKey full park) rfl rfl rfl (Nat.le_refl _) (Nat.le_refl _) (List.prefix_refl _)

theorem State.vbatOver_keeps {org s : State} (vbat : Int) (h : Keeps org s) :
    Keeps org (State.vbatOver s vbat) := by
  delta State.vbatOver
  repeat' first
    | with_reducible assumption
    | with_reducible apply State.setBit_keeps
    | with_reducible apply State.raise_keeps
    | with_reducible refine Keeps.ite ?_ ?_

theorem State.vbatOverEnds_keeps {org s : State} (vbat : Int) (h : Keeps org s) :
    Keeps org (State.vbatOverEnds s vbat) := by
  delta State.vbatOverEnds
  repeat' first
    | with_reducible assumption
    | with_reducible apply State.setBit_keeps
    | with_reducible refine Keeps.ite ?_ ?_

theorem State.hrLimit_keeps {org s : State} (r : Nat) (on : Bool) (volts : Int) (h : Keeps org s) :
    Keeps org (State.hrLimit s r on volts) := by
  delta State.hrLimit
  repeat' first
    | with_reducible assumption
    | with_reducible apply State.setBit_keeps
    | with_reducible apply State.count_keeps
    | with_reducible apply State.setN_keeps
    | with_reducible apply State.raiseDie_keeps
    | (extract_lets +onlyGivenNames letX; have letT : True := (by clear_value letX; guard_hyp letX : State; trivial); clear letT; refine Keeps.cut (r := org) (v := letX) ?_ (fun letH => ?_); (focus subst letX); rotate_left; clear_value letX; revert letX; intro _ _)
    | (extract_lets +onlyGivenNames letX; clear_value letX; revert letX; intro _)
    | with_reducible refine Keeps.ite ?_ ?_
    | with_reducible refine Keeps.iteP ?_ ?_

theorem State.supply18_keeps {org s : State} (v18 : Int) (us : Nat) (h : Keeps org s) :
    Keeps org (State.supply18 s v18 us) := by
  delta State.supply18
  repeat' first
    | with_reducible assumption
    | with_reducible apply State.setN_keeps
    | with_reducible apply State.setBit_keeps
    | with_reducible apply State.raiseDie_keeps
    | (extract_lets +onlyGivenNames letX; have letT : True := (by clear_value letX; guard_hyp letX : State; trivial); clear letT; refine Keeps.cut (r := org) (v := letX) ?_ (fun letH => ?_); (focus subst letX); rotate_left; clear_value letX; revert letX; intro _ _)
    | with_reducible refine Keeps.ite ?_ ?_
    | with_reducible refine Keeps.iteP ?_ ?_

theorem State.levelTo_keeps {org s : State} (l : Nat) (h : Keeps org s) :
    Keeps org (State.levelTo s l) := by
  delta State.levelTo
  repeat' first
    | with_reducible assumption
    | with_reducible apply State.setN_keeps

theorem State.levelStep_keeps {org s : State} (h : Keeps org s) :
    Keeps org (State.levelStep s) := by
  delta State.levelStep
  repeat' first
    | with_reducible assumption
    | with_reducible apply State.levelTo_keeps
    | with_reducible apply State.count_keeps
    | with_reducible apply State.raise_keeps
    | (extract_lets +onlyGivenNames letX; clear_value letX; revert letX; intro _)
    | with_reducible refine Keeps.ite ?_ ?_
    | with_reducible refine Keeps.iteP ?_ ?_

theorem State.powerMode_keeps {org s : State} (v : Nat) (h : Keeps org s) :
    Keeps org (State.powerMode s v) := by
  delta State.powerMode
  repeat' first
    | with_reducible assumption
    | with_reducible apply State.setN_keeps
    | with_reducible apply State.raise_keeps
    | (extract_lets +onlyGivenNames letX; have letT : True := (by clear_value letX; guard_hyp letX : State; trivial); clear letT; refine Keeps.cut (r := org) (v := letX) ?_ (fun letH => ?_); (focus subst letX); rotate_left; clear_value letX; revert letX; intro _ _)
    | (extract_lets +onlyGivenNames letX; clear_value letX; revert letX; intro _)
    | with_reducible refine Keeps.ite ?_ ?_
    | with_reducible refine Keeps.iteP ?_ ?_

theorem State.parkBegins_keeps {org s : State} (h : Keeps org s) :
    Keeps org (State.parkBegins s) := by
  delta State.parkBegins
  repeat' first
    | with_reducible assumption
    | with_reducible apply State.setN_keeps
    | with_reducible apply State.convStop_keeps
    | with_reducible apply State.raise_keeps
    | with_reducible apply State.retainedCopy_keeps
    | with_reducible apply State.swNoClosed_keeps
    | with_reducible apply State.storeTrips_keeps
    | with_reducible apply State.recordWrite_keeps
    | (extract_lets +onlyGivenNames letX; have letT : True := (by clear_value letX; guard_hyp letX : State; trivial); clear letT; refine Keeps.cut (r := org) (v := letX) ?_ (fun letH => ?_); (focus subst letX); rotate_left; clear_value letX; revert letX; intro _ _)
    | with_reducible refine Keeps.ite ?_ ?_
    | with_reducible refine Keeps.iteP ?_ ?_
    | with_reducible refine forBelow_keeps ?_ (fun _ _ _ => ?_)

theorem State.parkCommits_keeps {org s : State} (h : Keeps org s) :
    Keeps org (State.parkCommits s) := by
  delta State.parkCommits
  repeat' first
    | with_reducible assumption
    | with_reducible apply State.setN_keeps
    | (extract_lets +onlyGivenNames letX; have letT : True := (by clear_value letX; guard_hyp letX : State; trivial); clear letT; refine Keeps.cut (r := org) (v := letX) ?_ (fun letH => ?_); (focus subst letX); rotate_left; clear_value letX; revert letX; intro _ _)
    | with_reducible refine Keeps.ite ?_ ?_
    | with_reducible refine Keeps.iteP ?_ ?_
    | with_reducible refine forBelow_keeps ?_ (fun _ _ _ => ?_)

theorem State.parkDown_keeps {org s : State} (h : Keeps org s) :
    Keeps org (State.parkDown s) := by
  delta State.parkDown
  repeat' first
    | with_reducible assumption
    | with_reducible apply State.dsStop_keeps
    | with_reducible apply State.count_keeps
    | with_reducible apply State.setN_keeps
    | with_reducible apply State.wipe_keeps
    | with_reducible apply State.pwmFloat_keeps
    | with_reducible apply State.estParks_keeps
    | with_reducible apply State.keepCopies_keeps
    | (extract_lets +onlyGivenNames letX; have letT : True := (by clear_value letX; guard_hyp letX : State; trivial); clear letT; refine Keeps.cut (r := org) (v := letX) ?_ (fun letH => ?_); (focus subst letX); rotate_left; clear_value letX; revert letX; intro _ _)
    | with_reducible refine Keeps.ite ?_ ?_
    | with_reducible refine Keeps.iteP ?_ ?_
    | with_reducible refine forBelow_keeps ?_ (fun _ _ _ => ?_)

theorem execVbatOvervoltage_runs {org s : State} (vbat : Int) (h : Keeps org s) :
    Runs org (execVbatOvervoltage vbat s) := by
  delta execVbatOvervoltage
  repeat' first
    | with_reducible assumption
    | with_reducible refine Runs.next ?_
    | with_reducible apply State.vbatOver_keeps
    | with_reducible refine Runs.ite ?_ ?_

theorem execVbatOvervoltageEnd_runs {org s : State} (vbat : Int) (h : Keeps org s) :
    Runs org (execVbatOvervoltageEnd vbat s) := by
  delta execVbatOvervoltageEnd
  repeat' first
    | with_reducible assumption
    | with_reducible refine Runs.next ?_
    | with_reducible apply State.vbatOverEnds_keeps
    | with_reducible refine Runs.ite ?_ ?_

theorem execHrCurrentLimit_runs {org s : State} (r : Fin 4) (on : Bool) (volts : Int) (h : Keeps org s) :
    Runs org (execHrCurrentLimit r on volts s) := by
  delta execHrCurrentLimit
  repeat' first
    | with_reducible assumption
    | with_reducible refine Runs.next ?_
    | with_reducible apply State.hrLimit_keeps
    | with_reducible refine Runs.ite ?_ ?_

theorem execSupply18Low_runs {org s : State} (v18 : Int) (us : Nat) (h : Keeps org s) :
    Runs org (execSupply18Low v18 us s) := by
  delta execSupply18Low
  repeat' first
    | with_reducible assumption
    | with_reducible refine Runs.next ?_
    | with_reducible apply State.supply18_keeps
    | with_reducible refine Runs.ite ?_ ?_

theorem execLevelStep_runs {org s : State} (h : Keeps org s) :
    Runs org (execLevelStep s) := by
  delta execLevelStep
  repeat' first
    | with_reducible assumption
    | with_reducible refine Runs.next ?_
    | with_reducible apply State.levelStep_keeps
    | with_reducible refine Runs.ite ?_ ?_

theorem execParkPointOfNoReturn_runs {org s : State} (h : Keeps org s) :
    Runs org (execParkPointOfNoReturn s) := by
  delta execParkPointOfNoReturn
  repeat' first
    | with_reducible assumption
    | with_reducible refine Runs.next ?_
    | with_reducible apply State.parkCommits_keeps
    | with_reducible refine Runs.ite ?_ ?_

theorem execParkPowerDown_runs {org s : State} (h : Keeps org s) :
    Runs org (execParkPowerDown s) := by
  delta execParkPowerDown
  repeat' first
    | with_reducible assumption
    | with_reducible refine Runs.next ?_
    | with_reducible apply State.parkDown_keeps
    | with_reducible refine Runs.ite ?_ ?_

theorem State.addBlockErrors_keeps {org s : State} (d n : Nat) (h : Keeps org s) :
    Keeps org (State.addBlockErrors s d n) := by
  delta State.addBlockErrors
  repeat' first
    | with_reducible assumption
    | with_reducible apply State.setN_keeps

theorem State.takeSummary_keeps {org s : State} (n : Nat) (h : Keeps org s) :
    Keeps org (State.takeSummary s n) := by
  delta State.takeSummary
  repeat' first
    | with_reducible assumption
    | with_reducible apply State.set_keeps
    | with_reducible refine forBelow_keeps ?_ (fun _ _ _ => ?_)

theorem State.takeSummaries_keeps {org s : State} (d : Nat) (lost : List Nat) (h : Keeps org s) :
    Keeps org (State.takeSummaries s d lost) := by
  delta State.takeSummaries
  repeat' first
    | with_reducible assumption
    | with_reducible apply State.takeSummary_keeps
    | (extract_lets +onlyGivenNames letX; have letT : True := (by clear_value letX; guard_hyp letX : State; trivial); clear letT; refine Keeps.cut (r := org) (v := letX) ?_ (fun letH => ?_); (focus subst letX); rotate_left; clear_value letX; revert letX; intro _ _)
    | with_reducible refine Keeps.ite ?_ ?_
    | with_reducible refine Keeps.iteP ?_ ?_
    | with_reducible refine forEach_keeps ?_ (fun _ _ _ => ?_)
    | with_reducible refine forBelow_keeps ?_ (fun _ _ _ => ?_)

theorem State.refTold_keeps {org s : State} (d : Nat) (h : Keeps org s) :
    Keeps org (State.refTold s d) := by
  delta State.refTold
  repeat' first
    | with_reducible assumption
    | with_reducible apply State.setN_keeps
    | with_reducible apply State.raise_keeps
    | with_reducible refine Keeps.ite ?_ ?_

theorem State.uplinkFrame_keeps {org s : State} (d : Nat) (valid : Bool) (errors : Nat) (lost : List Nat) (h : Keeps org s) :
    Keeps org (State.uplinkFrame s d valid errors lost) := by
  delta State.uplinkFrame
  repeat' first
    | with_reducible assumption
    | with_reducible apply State.addBlockErrors_keeps
    | with_reducible apply State.setN_keeps
    | with_reducible apply State.takeSummaries_keeps
    | with_reducible apply State.fenceReport_keeps
    | with_reducible apply State.refTold_keeps
    | with_reducible apply State.count_keeps
    | (extract_lets +onlyGivenNames letX; have letT : True := (by clear_value letX; guard_hyp letX : State; trivial); clear letT; refine Keeps.cut (r := org) (v := letX) ?_ (fun letH => ?_); (focus subst letX); rotate_left; clear_value letX; revert letX; intro _ _)
    | with_reducible refine Keeps.ite ?_ ?_
    | with_reducible refine Keeps.iteP ?_ ?_

theorem State.resendAcked_keeps {org s : State} (d : Nat) (h : Keeps org s) :
    Keeps org (State.resendAcked s d) := by
  delta State.resendAcked
  repeat' first
    | with_reducible assumption
    | with_reducible apply State.setN_keeps
    | with_reducible refine Keeps.ite ?_ ?_

theorem State.downlinkValid_keeps {org s : State} (d : Nat) (lost : List Nat) (h : Keeps org s) :
    Keeps org (State.downlinkValid s d lost) := by
  delta State.downlinkValid
  repeat' first
    | with_reducible assumption
    | with_reducible apply State.setN_keeps
    | with_reducible apply State.set_keeps
    | with_reducible apply State.ackStaging_keeps
    | with_reducible apply State.resendAcked_keeps
    | (extract_lets +onlyGivenNames letX; have letT : True := (by clear_value letX; guard_hyp letX : State; trivial); clear letT; refine Keeps.cut (r := org) (v := letX) ?_ (fun letH => ?_); (focus subst letX); rotate_left; clear_value letX; revert letX; intro _ _)
    | with_reducible refine Keeps.iteP ?_ ?_
    | with_reducible refine Keeps.update ?_

theorem State.downlinkFrame_keeps {org s : State} (d : Nat) (valid : Bool) (errors : Nat) (lost : List Nat) (h : Keeps org s) :
    Keeps org (State.downlinkFrame s d valid errors lost) := by
  delta State.downlinkFrame
  repeat' first
    | with_reducible assumption
    | with_reducible apply State.addBlockErrors_keeps
    | with_reducible apply State.downlinkValid_keeps
    | with_reducible apply State.setN_keeps
    | with_reducible apply State.count_keeps
    | (extract_lets +onlyGivenNames letX; have letT : True := (by clear_value letX; guard_hyp letX : State; trivial); clear letT; refine Keeps.cut (r := org) (v := letX) ?_ (fun letH => ?_); (focus subst letX); rotate_left; clear_value letX; revert letX; intro _ _)
    | with_reducible refine Keeps.ite ?_ ?_
    | with_reducible refine Keeps.iteP ?_ ?_

theorem State.channelWakes_keeps {org s : State} (l : List DieMsg) (h : Keeps org s) :
    Keeps org (State.channelWakes s l) := by
  delta State.channelWakes
  repeat' first
    | with_reducible assumption
    | with_reducible apply State.latchSet_keeps
    | with_reducible refine Keeps.ite ?_ ?_

theorem State.eventBlock_keeps {org s : State} (d : Nat) (h : Keeps org s) :
    Keeps org (State.eventBlock s d) := by
  delta State.eventBlock
  repeat' first
    | with_reducible assumption
    | with_reducible apply State.channelWakes_keeps
    | with_reducible refine Keeps.ite ?_ ?_
    | split
    | with_reducible refine Keeps.update ?_

theorem State.seeLast_keeps {org s : State} (d : Nat) (h : Keeps org s) :
    Keeps org (State.seeLast s d) := by
  delta State.seeLast
  repeat' first
    | with_reducible assumption
    | with_reducible apply State.setN_keeps
    | with_reducible refine Keeps.ite ?_ ?_
    | with_reducible refine forEach_keeps ?_ (fun _ _ _ => ?_)

theorem State.linkRetrain_keeps {org s : State} (d : Nat) (h : Keeps org s) :
    Keeps org (State.linkRetrain s d) := by
  delta State.linkRetrain
  repeat' first
    | with_reducible assumption
    | with_reducible apply State.seeLast_keeps
    | with_reducible apply State.setN_keeps
    | with_reducible apply State.count_keeps
    | with_reducible apply State.openShadow_keeps
    | with_reducible apply State.fenceExcuse_keeps
    | (extract_lets +onlyGivenNames letX; have letT : True := (by clear_value letX; guard_hyp letX : State; trivial); clear letT; refine Keeps.cut (r := org) (v := letX) ?_ (fun letH => ?_); (focus subst letX); rotate_left; clear_value letX; revert letX; intro _ _)
    | with_reducible refine Keeps.ite ?_ ?_
    | with_reducible refine Keeps.iteP ?_ ?_

theorem State.correctStamps_keeps {org s : State} (d : Nat) (h : Keeps org s) :
    Keeps org (State.correctStamps s d) := by
  delta State.correctStamps
  repeat' first
    | with_reducible assumption
    | with_reducible apply State.set_keeps
    | (extract_lets +onlyGivenNames letX; clear_value letX; revert letX; intro _)
    | with_reducible refine Keeps.ite ?_ ?_
    | with_reducible refine Keeps.iteP ?_ ?_
    | with_reducible refine Keeps.update ?_

theorem State.linkComesUp_keeps {org s : State} (d : Nat) (two : Bool) (h : Keeps org s) :
    Keeps org (State.linkComesUp s d two) := by
  delta State.linkComesUp
  repeat' first
    | with_reducible assumption
    | with_reducible apply State.setN_keeps
    | with_reducible apply State.raise_keeps
    | with_reducible apply State.setClosing_keeps
    | with_reducible apply State.correctStamps_keeps
    | with_reducible apply State.standingReport_keeps
    | (extract_lets +onlyGivenNames letX; have letT : True := (by clear_value letX; guard_hyp letX : State; trivial); clear letT; refine Keeps.cut (r := org) (v := letX) ?_ (fun letH => ?_); (focus subst letX); rotate_left; clear_value letX; revert letX; intro _ _)
    | with_reducible refine Keeps.ite ?_ ?_
    | with_reducible refine Keeps.iteP ?_ ?_
    | with_reducible refine forEach_keeps ?_ (fun _ _ _ => ?_)

theorem State.linkTrained_keeps {org s : State} (d : Nat) (two : Bool) (h : Keeps org s) :
    Keeps org (State.linkTrained s d two) := by
  delta State.linkTrained
  repeat' first
    | with_reducible assumption
    | with_reducible apply State.linkComesUp_keeps
    | with_reducible apply State.setN_keeps
    | with_reducible refine Keeps.ite ?_ ?_

theorem State.rootFalls_keeps {org s : State} (cause : Nat) (h : Keeps org s) :
    Keeps org (State.rootFalls s cause) := by
  delta State.rootFalls
  repeat' first
    | with_reducible assumption
    | with_reducible apply State.setN_keeps
    | with_reducible apply State.count_keeps
    | with_reducible apply State.raise_keeps
    | (extract_lets +onlyGivenNames letX; clear_value letX; revert letX; intro _)
    | with_reducible refine Keeps.ite ?_ ?_
    | with_reducible refine Keeps.iteP ?_ ?_

theorem State.rootChecked_keeps {org s : State} (ppm : Int) (h : Keeps org s) :
    Keeps org (State.rootChecked s ppm) := by
  delta State.rootChecked
  repeat' first
    | with_reducible assumption
    | with_reducible apply State.rootFalls_keeps
    | with_reducible apply State.takeFreeIn_keeps
    | (extract_lets +onlyGivenNames letX; have letT : True := (by clear_value letX; revert letX; with_reducible exact Keeps.isPair); clear letT; refine Keeps.cut (r := org) (v := letX.2) ?_ (fun letH => ?_); (focus subst letX); rotate_left; clear_value letX; revert letX; intro _ _)
    | (extract_lets +onlyGivenNames letX; clear_value letX; revert letX; intro _)
    | with_reducible refine Keeps.ite ?_ ?_
    | with_reducible refine Keeps.iteP ?_ ?_

theorem State.dieRefLost_keeps {org s : State} (d : Nat) (h : Keeps org s) :
    Keeps org (State.dieRefLost s d) := by
  delta State.dieRefLost
  repeat' first
    | with_reducible assumption
    | with_reducible apply State.setN_keeps
    | (extract_lets +onlyGivenNames letX; have letT : True := (by clear_value letX; guard_hyp letX : State; trivial); clear letT; refine Keeps.cut (r := org) (v := letX) ?_ (fun letH => ?_); (focus subst letX); rotate_left; clear_value letX; revert letX; intro _ _)
    | with_reducible refine Keeps.ite ?_ ?_
    | with_reducible refine Keeps.iteP ?_ ?_

theorem execUplinkFrameReceived_runs {org s : State} (d : Die) (valid : Bool) (errors : Nat) (lost : List Nat) (h : Keeps org s) :
    Runs org (execUplinkFrameReceived d valid errors lost s) := by
  delta execUplinkFrameReceived
  repeat' first
    | with_reducible assumption
    | with_reducible refine Runs.next ?_
    | with_reducible apply State.uplinkFrame_keeps
    | with_reducible refine Runs.ite ?_ ?_

theorem execDownlinkFrameReceived_runs {org s : State} (d : Die) (valid : Bool) (errors : Nat) (lost : List Nat := []) (h : Keeps org s) :
    Runs org (execDownlinkFrameReceived d valid errors s lost) := by
  delta execDownlinkFrameReceived
  repeat' first
    | with_reducible assumption
    | with_reducible refine Runs.next ?_
    | with_reducible apply State.downlinkFrame_keeps
    | with_reducible refine Runs.ite ?_ ?_

theorem execEventBlockReceived_runs {org s : State} (d : Die) (h : Keeps org s) :
    Runs org (execEventBlockReceived d s) := by
  delta execEventBlockReceived
  repeat' first
    | with_reducible assumption
    | with_reducible refine Runs.next ?_
    | with_reducible apply State.eventBlock_keeps
    | with_reducible refine Runs.ite ?_ ?_

theorem execLinkRetrain_runs {org s : State} (d : Die) (h : Keeps org s) :
    Runs org (execLinkRetrain d s) := by
  delta execLinkRetrain
  repeat' first
    | with_reducible assumption
    | with_reducible refine Runs.next ?_
    | with_reducible apply State.linkRetrain_keeps
    | with_reducible refine Runs.ite ?_ ?_

theorem execLinkTrained_runs {org s : State} (d : Die) (two : Bool) (h : Keeps org s) :
    Runs org (execLinkTrained d two s) := by
  delta execLinkTrained
  repeat' first
    | with_reducible assumption
    | with_reducible refine Runs.next ?_
    | with_reducible apply State.linkTrained_keeps
    | with_reducible refine Runs.ite ?_ ?_

theorem execReferenceEdgeLoss_runs {org s : State} (h : Keeps org s) :
    Runs org (execReferenceEdgeLoss s) := by
  delta execReferenceEdgeLoss
  repeat' first
    | with_reducible assumption
    | with_reducible refine Runs.next ?_
    | with_reducible apply State.rootFalls_keeps
    | with_reducible refine Runs.ite ?_ ?_

theorem execReferenceFrequencyCheck_runs {org s : State} (ppm : Int) (h : Keeps org s) :
    Runs org (execReferenceFrequencyCheck ppm s) := by
  delta execReferenceFrequencyCheck
  repeat' first
    | with_reducible assumption
    | with_reducible refine Runs.next ?_
    | with_reducible apply State.rootChecked_keeps
    | with_reducible refine Runs.ite ?_ ?_

theorem execDieReferenceLoss_runs {org s : State} (d : Die) (h : Keeps org s) :
    Runs org (execDieReferenceLoss d s) := by
  delta execDieReferenceLoss
  repeat' first
    | with_reducible assumption
    | with_reducible refine Runs.next ?_
    | with_reducible apply State.dieRefLost_keeps
    | with_reducible refine Runs.ite ?_ ?_

end Sys2Proof.Machine
end

