-- ==== Sys2Proof/Laws/KeepsE.lean ====
section
/-!
SUPPORT. The laws of Reset, Opening, Faults, Load, Pdo, Pcie, Apply: each definition that answers a state keeps what Keeps says.
-/
namespace Sys2Proof.Machine

theorem State.setEntry_keeps {org s : State} (v : Nat) (h : Keeps org s) :
    Keeps org (State.setEntry s v) := by
  delta State.setEntry
  repeat' first
    | with_reducible assumption
    | with_reducible apply State.setN_keeps

theorem State.entryEnds_keeps {org s : State} (outcome failed reached : Nat) (h : Keeps org s) :
    Keeps org (State.entryEnds s outcome failed reached) := by
  delta State.entryEnds
  repeat' first
    | with_reducible assumption
    | with_reducible apply State.setEntry_keeps
    | (extract_lets +onlyGivenNames letX; clear_value letX; revert letX; intro _)

theorem State.openingCut_keeps {org s : State} (cause : Nat) (h : Keeps org s) :
    Keeps org (State.openingCut s cause) := by
  delta State.openingCut
  repeat' first
    | with_reducible assumption
    | with_reducible apply State.entryEnds_keeps
    | with_reducible apply State.count_keeps
    | (extract_lets +onlyGivenNames letX; have letT : True := (by clear_value letX; guard_hyp letX : State; trivial); clear letT; refine Keeps.cut (r := org) (v := letX) ?_ (fun letH => ?_); (focus subst letX); rotate_left; clear_value letX; revert letX; intro _ _)
    | (extract_lets +onlyGivenNames letX; clear_value letX; revert letX; intro _)
    | with_reducible refine Keeps.ite ?_ ?_
    | with_reducible refine Keeps.iteP ?_ ?_

theorem State.addCause_keeps {org s : State} (cause site : Nat) (h : Keeps org s) :
    Keeps org (State.addCause s cause site) := by
  delta State.addCause
  repeat' first
    | with_reducible assumption
    | with_reducible apply State.setBit_keeps
    | with_reducible apply State.setN_keeps
    | (extract_lets +onlyGivenNames letX; have letT : True := (by clear_value letX; guard_hyp letX : State; trivial); clear letT; refine Keeps.cut (r := org) (v := letX) ?_ (fun letH => ?_); (focus subst letX); rotate_left; clear_value letX; revert letX; intro _ _)
    | (extract_lets +onlyGivenNames letX; clear_value letX; revert letX; intro _)
    | with_reducible refine Keeps.ite ?_ ?_
    | with_reducible refine Keeps.iteP ?_ ?_

theorem State.gateUnpowered_keeps {org s : State} (n : Nat) (h : Keeps org s) :
    Keeps org (State.gateUnpowered s n) := by
  delta State.gateUnpowered
  repeat' first
    | with_reducible assumption
    | with_reducible apply State.setN_keeps
    | with_reducible refine Keeps.ite ?_ ?_

theorem State.clearAll_keeps {org s : State} (full : Bool) (h : Keeps org s) :
    Keeps org (State.clearAll s full) := by
  delta State.clearAll
  repeat' first
    | with_reducible assumption
    | with_reducible apply State.wipe_keeps
    | (extract_lets +onlyGivenNames letX; have letT : True := (by clear_value letX; guard_hyp letX : State; trivial); clear letT; refine Keeps.cut (r := org) (v := letX) ?_ (fun letH => ?_); (focus subst letX); rotate_left; clear_value letX; revert letX; intro _ _)
    | (extract_lets +onlyGivenNames letX; have letT : True := (by clear_value letX; revert letX; with_reducible exact Keeps.isPair); clear letT; refine Keeps.cut (r := org) (v := letX.2) ?_ (fun letH => ?_); (focus subst letX); rotate_left; clear_value letX; revert letX; intro _ _)
    | with_reducible refine Keeps.ite ?_ ?_
    | with_reducible refine Keeps.iteP ?_ ?_
    | with_reducible refine Keeps.update ?_

theorem State.diesOff_keeps {org s : State} (absent : Bool) (h : Keeps org s) :
    Keeps org (State.diesOff s absent) := by
  delta State.diesOff
  repeat' first
    | with_reducible assumption
    | with_reducible apply State.logicFails_keeps
    | with_reducible apply State.setN_keeps
    | with_reducible apply State.clearAll_keeps
    | (extract_lets +onlyGivenNames letX; have letT : True := (by clear_value letX; guard_hyp letX : State; trivial); clear letT; refine Keeps.cut (r := org) (v := letX) ?_ (fun letH => ?_); (focus subst letX); rotate_left; clear_value letX; revert letX; intro _ _)
    | (extract_lets +onlyGivenNames letX; clear_value letX; revert letX; intro _)
    | with_reducible refine Keeps.iteP ?_ ?_
    | with_reducible refine forEach_keeps ?_ (fun _ _ _ => ?_)
    | with_reducible refine forBelow_keeps ?_ (fun _ _ _ => ?_)

theorem State.diesReleased_keeps {org s : State} (h : Keeps org s) :
    Keeps org (State.diesReleased s) := by
  delta State.diesReleased
  repeat' first
    | with_reducible assumption
    | with_reducible apply State.setN_keeps
    | with_reducible apply State.cellTo_keeps
    | (extract_lets +onlyGivenNames letX; have letT : True := (by clear_value letX; guard_hyp letX : State; trivial); clear letT; refine Keeps.cut (r := org) (v := letX) ?_ (fun letH => ?_); (focus subst letX); rotate_left; clear_value letX; revert letX; intro _ _)
    | with_reducible refine Keeps.ite ?_ ?_
    | with_reducible refine Keeps.iteP ?_ ?_
    | with_reducible refine forBelow_keeps ?_ (fun _ _ _ => ?_)

theorem State.resetBegin_keeps {org s : State} (cause site : Nat) (full absent : Bool) (h : Keeps org s) :
    Keeps org (State.resetBegin s cause site full absent) := by
  delta State.resetBegin
  repeat' first
    | with_reducible assumption
    | with_reducible apply State.setN_keeps
    | with_reducible apply State.diesOff_keeps
    | with_reducible apply State.addCause_keeps
    | with_reducible apply State.openingCut_keeps
    | with_reducible apply State.convertersOut_keeps
    | with_reducible apply State.keepCopies_keeps
    | with_reducible apply State.recordCut_keeps
    | with_reducible apply State.setFlag_keeps
    | with_reducible apply State.clearAll_keeps
    | with_reducible apply State.count_keeps
    | with_reducible apply State.swNoClosed_keeps
    | with_reducible apply State.asDrop_keeps
    | (extract_lets +onlyGivenNames letX; have letT : True := (by clear_value letX; guard_hyp letX : State; trivial); clear letT; refine Keeps.cut (r := org) (v := letX) ?_ (fun letH => ?_); (focus subst letX); rotate_left; clear_value letX; revert letX; intro _ _)
    | with_reducible refine Keeps.ite ?_ ?_
    | with_reducible refine Keeps.iteP ?_ ?_

theorem State.vbatFalls_keeps {org s : State} (h : Keeps org s) :
    Keeps org (State.vbatFalls s) := by
  delta State.vbatFalls
  repeat' first
    | with_reducible assumption
    | with_reducible apply State.setN_keeps
    | with_reducible apply State.gateUnpowered_keeps
    | with_reducible apply State.resetBegin_keeps
    | with_reducible apply State.addCause_keeps
    | with_reducible apply State.pwmFloat_keeps
    | (extract_lets +onlyGivenNames letX; have letT : True := (by clear_value letX; guard_hyp letX : State; trivial); clear letT; refine Keeps.cut (r := org) (v := letX) ?_ (fun letH => ?_); (focus subst letX); rotate_left; clear_value letX; revert letX; intro _ _)
    | (extract_lets +onlyGivenNames letX; clear_value letX; revert letX; intro _)
    | with_reducible refine Keeps.ite ?_ ?_
    | with_reducible refine Keeps.iteP ?_ ?_
    | with_reducible refine forBelow_keeps ?_ (fun _ _ _ => ?_)

theorem State.vbatRises_keeps {org s : State} (h : Keeps org s) :
    Keeps org (State.vbatRises s) := by
  delta State.vbatRises
  repeat' first
    | with_reducible assumption
    | with_reducible apply State.setN_keeps
    | with_reducible apply State.pwmLow_keeps
    | (extract_lets +onlyGivenNames letX; have letT : True := (by clear_value letX; guard_hyp letX : State; trivial); clear letT; refine Keeps.cut (r := org) (v := letX) ?_ (fun letH => ?_); (focus subst letX); rotate_left; clear_value letX; revert letX; intro _ _)
    | (extract_lets +onlyGivenNames letX; clear_value letX; revert letX; intro _)
    | with_reducible refine Keeps.ite ?_ ?_
    | with_reducible refine Keeps.iteP ?_ ?_
    | with_reducible refine forEach_keeps ?_ (fun _ _ _ => ?_)
    | with_reducible refine forBelow_keeps ?_ (fun _ _ _ => ?_)

theorem State.vbatCycle_keeps {org s : State} (h : Keeps org s) :
    Keeps org (State.vbatCycle s) := by
  delta State.vbatCycle
  repeat' first
    | with_reducible assumption
    | with_reducible apply State.powerCycle_keeps
    | with_reducible refine Keeps.ite ?_ ?_

theorem State.supplySeen_keeps {org s : State} (i us : Nat) (low : Bool) (h : Keeps org s) :
    Keeps org (State.supplySeen s i us low) := by
  delta State.supplySeen
  repeat' first
    | with_reducible assumption
    | with_reducible apply State.setN_keeps
    | with_reducible refine Keeps.ite ?_ ?_

theorem State.vhLow_keeps {org s : State} (vh : Int) (us : Nat) (h : Keeps org s) :
    Keeps org (State.vhLow s vh us) := by
  delta State.vhLow
  repeat' first
    | with_reducible assumption
    | with_reducible apply State.supplySeen_keeps
    | with_reducible apply State.resetBegin_keeps
    | (extract_lets +onlyGivenNames letX; have letT : True := (by clear_value letX; guard_hyp letX : State; trivial); clear letT; refine Keeps.cut (r := org) (v := letX) ?_ (fun letH => ?_); (focus subst letX); rotate_left; clear_value letX; revert letX; intro _ _)
    | with_reducible refine Keeps.ite ?_ ?_
    | with_reducible refine Keeps.iteP ?_ ?_

theorem State.vcoreLow_keeps {org s : State} (v : Int) (us : Nat) (h : Keeps org s) :
    Keeps org (State.vcoreLow s v us) := by
  delta State.vcoreLow
  repeat' first
    | with_reducible assumption
    | with_reducible apply State.supplySeen_keeps
    | with_reducible apply State.resetBegin_keeps
    | (extract_lets +onlyGivenNames letX; have letT : True := (by clear_value letX; guard_hyp letX : State; trivial); clear letT; refine Keeps.cut (r := org) (v := letX) ?_ (fun letH => ?_); (focus subst letX); rotate_left; clear_value letX; revert letX; intro _ _)
    | (extract_lets +onlyGivenNames letX; clear_value letX; revert letX; intro _)
    | with_reducible refine Keeps.ite ?_ ?_
    | with_reducible refine Keeps.iteP ?_ ?_

theorem State.vioLow_keeps {org s : State} (v : Int) (us : Nat) (h : Keeps org s) :
    Keeps org (State.vioLow s v us) := by
  delta State.vioLow
  repeat' first
    | with_reducible assumption
    | with_reducible apply State.supplySeen_keeps
    | with_reducible apply State.resetBegin_keeps
    | (extract_lets +onlyGivenNames letX; have letT : True := (by clear_value letX; guard_hyp letX : State; trivial); clear letT; refine Keeps.cut (r := org) (v := letX) ?_ (fun letH => ?_); (focus subst letX); rotate_left; clear_value letX; revert letX; intro _ _)
    | with_reducible refine Keeps.ite ?_ ?_
    | with_reducible refine Keeps.iteP ?_ ?_

theorem State.rstinLow_keeps {org s : State} (us : Nat) (h : Keeps org s) :
    Keeps org (State.rstinLow s us) := by
  delta State.rstinLow
  repeat' first
    | with_reducible assumption
    | with_reducible apply State.takeFreeIn_keeps
    | with_reducible apply State.resetBegin_keeps
    | with_reducible apply State.setN_keeps
    | (extract_lets +onlyGivenNames letX; have letT : True := (by clear_value letX; guard_hyp letX : State; trivial); clear letT; refine Keeps.cut (r := org) (v := letX) ?_ (fun letH => ?_); (focus subst letX); rotate_left; clear_value letX; revert letX; intro _ _)
    | (extract_lets +onlyGivenNames letX; have letT : True := (by clear_value letX; revert letX; with_reducible exact Keeps.isPair); clear letT; refine Keeps.cut (r := org) (v := letX.2) ?_ (fun letH => ?_); (focus subst letX); rotate_left; clear_value letX; revert letX; intro _ _)
    | (extract_lets +onlyGivenNames letX; clear_value letX; revert letX; intro _)
    | with_reducible refine Keeps.ite ?_ ?_
    | with_reducible refine Keeps.iteP ?_ ?_

theorem State.wdxExpiry_keeps {org s : State} (h : Keeps org s) :
    Keeps org (State.wdxExpiry s) := by
  delta State.wdxExpiry
  repeat' first
    | with_reducible assumption
    | with_reducible apply State.resetBegin_keeps
    | with_reducible apply State.wdxExpires_keeps
    | with_reducible refine Keeps.ite ?_ ?_

theorem State.channelDieReset_keeps {org s : State} (d site : Nat) (h : Keeps org s) :
    Keeps org (State.channelDieReset s d site) := by
  delta State.channelDieReset
  repeat' first
    | with_reducible assumption
    | with_reducible apply State.control_keeps
    | with_reducible apply State.channelLogicReset_keeps
    | with_reducible apply State.setN_keeps
    | with_reducible apply State.cellTo_keeps
    | with_reducible apply State.restore_keeps
    | with_reducible apply State.setBlob_keeps
    | with_reducible apply State.asDrop_keeps
    | with_reducible apply State.standDie_keeps
    | with_reducible apply State.count_keeps
    | with_reducible apply State.openShadow_keeps
    | with_reducible apply State.raiseDie_keeps
    | with_reducible apply State.swNoClosed_keeps
    | (extract_lets +onlyGivenNames letX; have letT : True := (by clear_value letX; guard_hyp letX : State; trivial); clear letT; refine Keeps.cut (r := org) (v := letX) ?_ (fun letH => ?_); (focus subst letX); rotate_left; clear_value letX; revert letX; intro _ _)
    | (extract_lets +onlyGivenNames letX; clear_value letX; revert letX; intro _)
    | with_reducible refine Keeps.ite ?_ ?_
    | with_reducible refine Keeps.iteP ?_ ?_
    | with_reducible refine forEach_keeps ?_ (fun _ _ _ => ?_)
    | with_reducible refine Keeps.update ?_

theorem State.criticalError_keeps {org s : State} (die : Option Die) (site : Nat) (h : Keeps org s) :
    Keeps org (State.criticalError s die site) := by
  delta State.criticalError
  repeat' first
    | with_reducible assumption
    | with_reducible apply State.channelDieReset_keeps
    | with_reducible apply State.resetBegin_keeps
    | with_reducible refine Keeps.ite ?_ ?_
    | split

theorem State.keeperHolds_keeps {org s : State} (kind : Nat) (h : Keeps org s) :
    Keeps org (State.keeperHolds s kind) := by
  delta State.keeperHolds
  repeat' first
    | with_reducible assumption
    | with_reducible apply State.standDie_keeps
    | with_reducible apply State.diesReleased_keeps
    | with_reducible apply State.setN_keeps
    | with_reducible apply State.count_keeps
    | (extract_lets +onlyGivenNames letX; have letT : True := (by clear_value letX; guard_hyp letX : State; trivial); clear letT; refine Keeps.cut (r := org) (v := letX) ?_ (fun letH => ?_); (focus subst letX); rotate_left; clear_value letX; revert letX; intro _ _)
    | with_reducible refine Keeps.ite ?_ ?_
    | with_reducible refine Keeps.iteP ?_ ?_
    | with_reducible refine forBelow_keeps ?_ (fun _ _ _ => ?_)

theorem State.houseStopReset_keeps {org s : State} (h : Keeps org s) :
    Keeps org (State.houseStopReset s) := by
  delta State.houseStopReset
  repeat' first
    | with_reducible assumption
    | with_reducible apply State.resetBegin_keeps
    | with_reducible apply State.keeperHolds_keeps
    | (extract_lets +onlyGivenNames letX; have letT : True := (by clear_value letX; guard_hyp letX : State; trivial); clear letT; refine Keeps.cut (r := org) (v := letX) ?_ (fun letH => ?_); (focus subst letX); rotate_left; clear_value letX; revert letX; intro _ _)
    | (extract_lets +onlyGivenNames letX; clear_value letX; revert letX; intro _)
    | with_reducible refine Keeps.ite ?_ ?_
    | with_reducible refine Keeps.iteP ?_ ?_

theorem State.keeperRetry_keeps {org s : State} (h : Keeps org s) :
    Keeps org (State.keeperRetry s) := by
  delta State.keeperRetry
  repeat' first
    | with_reducible assumption
    | with_reducible apply State.setN_keeps
    | with_reducible apply State.count_keeps
    | with_reducible apply State.addCause_keeps
    | with_reducible apply State.holdEnds_keeps
    | (extract_lets +onlyGivenNames letX; have letT : True := (by clear_value letX; guard_hyp letX : State; trivial); clear letT; refine Keeps.cut (r := org) (v := letX) ?_ (fun letH => ?_); (focus subst letX); rotate_left; clear_value letX; revert letX; intro _ _)
    | with_reducible refine Keeps.ite ?_ ?_
    | with_reducible refine Keeps.iteP ?_ ?_

theorem State.keeperFrame_keeps {org s : State} (lost : Nat) (h : Keeps org s) :
    Keeps org (State.keeperFrame s lost) := by
  delta State.keeperFrame
  repeat' first
    | with_reducible assumption
    | with_reducible apply State.setN_keeps
    | with_reducible apply State.emit_keeps
    | (extract_lets +onlyGivenNames letX; have letT : True := (by clear_value letX; guard_hyp letX : State; trivial); clear letT; refine Keeps.cut (r := org) (v := letX) ?_ (fun letH => ?_); (focus subst letX); rotate_left; clear_value letX; revert letX; intro _ _)
    | with_reducible refine Keeps.ite ?_ ?_
    | with_reducible refine Keeps.iteP ?_ ?_
    | with_reducible refine forBelow_keeps ?_ (fun _ _ _ => ?_)

theorem State.keeperHeartbeat_keeps {org s : State} (d : Nat) (h : Keeps org s) :
    Keeps org (State.keeperHeartbeat s d) := by
  delta State.keeperHeartbeat
  repeat' first
    | with_reducible assumption
    | with_reducible apply State.setN_keeps
    | with_reducible refine Keeps.ite ?_ ?_

theorem State.heartbeatLost_keeps {org s : State} (d : Nat) (h : Keeps org s) :
    Keeps org (State.heartbeatLost s d) := by
  delta State.heartbeatLost
  repeat' first
    | with_reducible assumption
    | with_reducible apply State.setN_keeps
    | with_reducible refine Keeps.ite ?_ ?_

theorem execVbatBrownout_runs {org s : State} (h : Keeps org s) :
    Runs org (execVbatBrownout s) := by
  delta execVbatBrownout
  repeat' first
    | with_reducible assumption
    | with_reducible refine Runs.next ?_
    | with_reducible apply State.vbatFalls_keeps
    | with_reducible refine Runs.ite ?_ ?_

theorem execVbatPowerUp_runs {org s : State} (h : Keeps org s) :
    Runs org (execVbatPowerUp s) := by
  delta execVbatPowerUp
  repeat' first
    | with_reducible assumption
    | with_reducible refine Runs.next ?_
    | with_reducible apply State.vbatRises_keeps
    | with_reducible refine Runs.ite ?_ ?_

theorem execPowerCycle_runs {org s : State} (h : Keeps org s) :
    Runs org (execPowerCycle s) := by
  delta execPowerCycle
  repeat' first
    | with_reducible assumption
    | with_reducible refine Runs.next ?_
    | with_reducible apply State.vbatCycle_keeps
    | with_reducible refine Runs.ite ?_ ?_

theorem execVhBrownout_runs {org s : State} (vh : Int) (us : Nat) (h : Keeps org s) :
    Runs org (execVhBrownout vh us s) := by
  delta execVhBrownout
  repeat' first
    | with_reducible assumption
    | with_reducible refine Runs.next ?_
    | with_reducible apply State.vhLow_keeps
    | with_reducible refine Runs.ite ?_ ?_

theorem execVcoreBrownout_runs {org s : State} (v : Int) (us : Nat) (h : Keeps org s) :
    Runs org (execVcoreBrownout v us s) := by
  delta execVcoreBrownout
  repeat' first
    | with_reducible assumption
    | with_reducible refine Runs.next ?_
    | with_reducible apply State.vcoreLow_keeps
    | with_reducible refine Runs.ite ?_ ?_

theorem execVioBrownout_runs {org s : State} (v : Int) (us : Nat) (h : Keeps org s) :
    Runs org (execVioBrownout v us s) := by
  delta execVioBrownout
  repeat' first
    | with_reducible assumption
    | with_reducible refine Runs.next ?_
    | with_reducible apply State.vioLow_keeps
    | with_reducible refine Runs.ite ?_ ?_

theorem execRstinNLow_runs {org s : State} (us : Nat) (h : Keeps org s) :
    Runs org (execRstinNLow us s) := by
  delta execRstinNLow
  repeat' first
    | with_reducible assumption
    | with_reducible refine Runs.next ?_
    | with_reducible apply State.rstinLow_keeps
    | with_reducible refine Runs.ite ?_ ?_

theorem execWdxExpiry_runs {org s : State} (h : Keeps org s) :
    Runs org (execWdxExpiry s) := by
  delta execWdxExpiry
  repeat' first
    | with_reducible assumption
    | with_reducible refine Runs.next ?_
    | with_reducible apply State.wdxExpiry_keeps
    | with_reducible refine Runs.ite ?_ ?_

theorem execLockstepMismatch_runs {org s : State} (h : Keeps org s) :
    Runs org (execLockstepMismatch s) := by
  delta execLockstepMismatch
  repeat' first
    | with_reducible assumption
    | with_reducible refine Runs.next ?_
    | with_reducible apply State.resetBegin_keeps
    | with_reducible refine Runs.ite ?_ ?_
    | with_reducible refine Keeps.ite ?_ ?_

theorem execCriticalMemoryError_runs {org s : State} (die : Option Die) (site : Nat) (h : Keeps org s) :
    Runs org (execCriticalMemoryError die site s) := by
  delta execCriticalMemoryError
  repeat' first
    | with_reducible assumption
    | with_reducible refine Runs.next ?_
    | with_reducible apply State.criticalError_keeps
    | with_reducible refine Runs.ite ?_ ?_

theorem execHouseStopReset_runs {org s : State} (h : Keeps org s) :
    Runs org (execHouseStopReset s) := by
  delta execHouseStopReset
  repeat' first
    | with_reducible assumption
    | with_reducible refine Runs.next ?_
    | with_reducible apply State.houseStopReset_keeps
    | with_reducible refine Runs.ite ?_ ?_

theorem execKeeperRetry_runs {org s : State} (h : Keeps org s) :
    Runs org (execKeeperRetry s) := by
  delta execKeeperRetry
  repeat' first
    | with_reducible assumption
    | with_reducible refine Runs.next ?_
    | with_reducible apply State.keeperRetry_keeps
    | with_reducible refine Runs.ite ?_ ?_

theorem execKeeperFrame_runs {org s : State} (lost : Nat := 0) (h : Keeps org s) :
    Runs org (execKeeperFrame s lost) := by
  delta execKeeperFrame
  repeat' first
    | with_reducible assumption
    | with_reducible refine Runs.next ?_
    | with_reducible apply State.keeperFrame_keeps
    | with_reducible refine Runs.ite ?_ ?_

theorem execKeeperHeartbeat_runs {org s : State} (d : Die) (h : Keeps org s) :
    Runs org (execKeeperHeartbeat d s) := by
  delta execKeeperHeartbeat
  repeat' first
    | with_reducible assumption
    | with_reducible refine Runs.next ?_
    | with_reducible apply State.keeperHeartbeat_keeps
    | with_reducible refine Runs.ite ?_ ?_

theorem execDieHeartbeatTimeout_runs {org s : State} (d : Die) (h : Keeps org s) :
    Runs org (execDieHeartbeatTimeout d s) := by
  delta execDieHeartbeatTimeout
  repeat' first
    | with_reducible assumption
    | with_reducible refine Runs.next ?_
    | with_reducible apply State.heartbeatLost_keeps
    | with_reducible refine Runs.ite ?_ ?_

theorem State.journalShift_keeps {org s : State} (cause back : Nat) (lost : Bool) (h : Keeps org s) :
    Keeps org (State.journalShift s cause back lost) := by
  delta State.journalShift
  repeat' first
    | with_reducible assumption
    | with_reducible apply State.setN_keeps
    | with_reducible apply State.count_keeps
    | with_reducible apply State.setEntry_keeps
    | (extract_lets +onlyGivenNames letX; have letT : True := (by clear_value letX; guard_hyp letX : State; trivial); clear letT; refine Keeps.cut (r := org) (v := letX) ?_ (fun letH => ?_); (focus subst letX); rotate_left; clear_value letX; revert letX; intro _ _)
    | with_reducible refine Keeps.ite ?_ ?_
    | with_reducible refine forBelow_keeps ?_ (fun _ _ _ => ?_)

theorem State.journalCopied_keeps {org s : State} (h : Keeps org s) :
    Keeps org (State.journalCopied s) := by
  delta State.journalCopied
  repeat' first
    | with_reducible assumption
    | with_reducible apply State.setN_keeps
    | (extract_lets +onlyGivenNames letX; have letT : True := (by clear_value letX; guard_hyp letX : State; trivial); clear letT; refine Keeps.cut (r := org) (v := letX) ?_ (fun letH => ?_); (focus subst letX); rotate_left; clear_value letX; revert letX; intro _ _)
    | with_reducible refine Keeps.ite ?_ ?_
    | with_reducible refine Keeps.iteP ?_ ?_

theorem State.retainJournal_keeps {org s : State} (step : Nat) (h : Keeps org s) :
    Keeps org (State.retainJournal s step) := by
  delta State.retainJournal
  repeat' first
    | with_reducible assumption
    | with_reducible apply State.setN_keeps
    | with_reducible apply State.entryEnds_keeps
    | (extract_lets +onlyGivenNames letX; have letT : True := (by clear_value letX; guard_hyp letX : State; trivial); clear letT; refine Keeps.cut (r := org) (v := letX) ?_ (fun letH => ?_); (focus subst letX); rotate_left; clear_value letX; revert letX; intro _ _)
    | with_reducible refine Keeps.iteP ?_ ?_

theorem State.stepFails_keeps {org s : State} (step mode ch : Nat) (h : Keeps org s) :
    Keeps org (State.stepFails s step mode ch) := by
  delta State.stepFails
  repeat' first
    | with_reducible assumption
    | with_reducible apply State.setN_keeps
    | with_reducible apply State.raise_keeps
    | (extract_lets +onlyGivenNames letX; clear_value letX; revert letX; intro _)
    | with_reducible refine Keeps.ite ?_ ?_
    | with_reducible refine Keeps.iteP ?_ ?_

theorem State.stepSkipped_keeps {org s : State} (step ch : Nat) (h : Keeps org s) :
    Keeps org (State.stepSkipped s step ch) := by
  delta State.stepSkipped
  repeat' first
    | with_reducible assumption
    | with_reducible apply State.raise_keeps

theorem State.stepMarked_keeps {org s : State} (step ch : Nat) (h : Keeps org s) :
    Keeps org (State.stepMarked s step ch) := by
  delta State.stepMarked
  repeat' first
    | with_reducible assumption
    | with_reducible apply State.setBit_keeps
    | with_reducible apply State.setN_keeps
    | with_reducible apply State.stepSkipped_keeps
    | (extract_lets +onlyGivenNames letX; have letT : True := (by clear_value letX; guard_hyp letX : State; trivial); clear letT; refine Keeps.cut (r := org) (v := letX) ?_ (fun letH => ?_); (focus subst letX); rotate_left; clear_value letX; revert letX; intro _ _)
    | with_reducible refine Keeps.ite ?_ ?_
    | with_reducible refine Keeps.iteP ?_ ?_

theorem State.journalAck_keeps {org s : State} (h : Keeps org s) :
    Keeps org (State.journalAck s) := by
  delta State.journalAck
  repeat' first
    | with_reducible assumption
    | with_reducible apply State.setN_keeps
    | (extract_lets +onlyGivenNames letX; have letT : True := (by clear_value letX; guard_hyp letX : State; trivial); clear letT; refine Keeps.cut (r := org) (v := letX) ?_ (fun letH => ?_); (focus subst letX); rotate_left; clear_value letX; revert letX; intro _ _)
    | with_reducible refine Keeps.iteP ?_ ?_

theorem State.stepFallback_keeps {org s : State} (step pfailed : Nat) (h : Keeps org s) :
    Keeps org (State.stepFallback s step pfailed) := by
  delta State.stepFallback
  repeat' first
    | with_reducible assumption
    | with_reducible apply State.setBit_keeps
    | with_reducible apply State.raise_keeps

theorem State.openingStops_keeps {org s : State} (step : Nat) (h : Keeps org s) :
    Keeps org (State.openingStops s step) := by
  delta State.openingStops
  repeat' first
    | with_reducible assumption
    | with_reducible apply State.setN_keeps
    | with_reducible apply State.raise_keeps

theorem State.runStep_keeps {org s : State} (entry step mode : Nat) (pass : Bool) (h : Keeps org s) :
    Keeps org (State.runStep s entry step mode pass) := by
  delta State.runStep
  repeat' first
    | with_reducible assumption
    | with_reducible apply State.retainJournal_keeps
    | with_reducible apply State.stepSkipped_keeps
    | with_reducible apply State.stepFallback_keeps
    | with_reducible apply State.stepFails_keeps
    | with_reducible apply State.stepMarked_keeps
    | with_reducible apply State.openingStops_keeps
    | (extract_lets +onlyGivenNames letX; have letT : True := (by clear_value letX; guard_hyp letX : State; trivial); clear letT; refine Keeps.cut (r := org) (v := letX) ?_ (fun letH => ?_); (focus subst letX); rotate_left; clear_value letX; revert letX; intro _ _)
    | with_reducible refine Keeps.ite ?_ ?_
    | with_reducible refine Keeps.iteP ?_ ?_

theorem State.zeroAll_keeps {org s : State} (l : List Nat) (h : Keeps org s) :
    Keeps org (State.zeroAll s l) := by
  delta State.zeroAll
  repeat' first
    | with_reducible assumption
    | with_reducible apply State.setN_keeps
    | with_reducible refine forEach_keeps ?_ (fun _ _ _ => ?_)

theorem State.initRegion_keeps {org s : State} (r : Nat) (h : Keeps org s) :
    Keeps org (State.initRegion s r) := by
  delta State.initRegion
  repeat' first
    | with_reducible assumption
    | with_reducible apply State.zeroAll_keeps
    | with_reducible apply State.setN_keeps
    | with_reducible apply State.setBlob_keeps
    | with_reducible refine forBelow_keeps ?_ (fun _ _ _ => ?_)
    | split

theorem State.regionsLost_keeps {org s : State} (mask : Nat) (low : Bool) (h : Keeps org s) :
    Keeps org (State.regionsLost s mask low) := by
  delta State.regionsLost
  repeat' first
    | with_reducible assumption
    | with_reducible apply State.initRegion_keeps
    | with_reducible apply State.setN_keeps
    | with_reducible apply State.raise_keeps
    | (extract_lets +onlyGivenNames letX; have letT : True := (by clear_value letX; guard_hyp letX : State; trivial); clear letT; refine Keeps.cut (r := org) (v := letX) ?_ (fun letH => ?_); (focus subst letX); rotate_left; clear_value letX; revert letX; intro _ _)
    | with_reducible refine Keeps.ite ?_ ?_
    | with_reducible refine Keeps.iteP ?_ ?_
    | with_reducible refine forBelow_keeps ?_ (fun _ _ _ => ?_)

theorem State.openTick_keeps {org s : State} (low stampLost storeOff : Bool) (h : Keeps org s) :
    Keeps org (State.openTick s low stampLost storeOff) := by
  delta State.openTick
  repeat' first
    | with_reducible assumption
    | with_reducible apply State.loadTick_keeps
    | with_reducible apply State.setN_keeps
    | with_reducible apply State.setFlag_keeps
    | with_reducible apply State.raise_keeps
    | (extract_lets +onlyGivenNames letX; have letT : True := (by clear_value letX; guard_hyp letX : State; trivial); clear letT; refine Keeps.cut (r := org) (v := letX) ?_ (fun letH => ?_); (focus subst letX); rotate_left; clear_value letX; revert letX; intro _ _)
    | (extract_lets +onlyGivenNames letX; clear_value letX; revert letX; intro _)
    | with_reducible refine Keeps.ite ?_ ?_
    | with_reducible refine Keeps.iteP ?_ ?_
    | with_reducible refine Keeps.update ?_

theorem State.openClock_keeps {org s : State} (o : Opening) (entry skips : Nat) (h : Keeps org s) :
    Keeps org (State.openClock s o entry skips) := by
  delta State.openClock
  repeat' first
    | with_reducible assumption
    | with_reducible apply State.runStep_keeps
    | with_reducible apply State.setN_keeps
    | (extract_lets +onlyGivenNames letX; have letT : True := (by clear_value letX; guard_hyp letX : State; trivial); clear letT; refine Keeps.cut (r := org) (v := letX) ?_ (fun letH => ?_); (focus subst letX); rotate_left; clear_value letX; revert letX; intro _ _)

theorem State.openArbiter_keeps {org s : State} (h : Keeps org s) :
    Keeps org (State.openArbiter s) := by
  delta State.openArbiter
  repeat' first
    | with_reducible assumption
    | with_reducible apply State.setN_keeps
    | with_reducible apply State.raise_keeps
    | (extract_lets +onlyGivenNames letX; have letT : True := (by clear_value letX; guard_hyp letX : State; trivial); clear letT; refine Keeps.cut (r := org) (v := letX) ?_ (fun letH => ?_); (focus subst letX); rotate_left; clear_value letX; revert letX; intro _ _)
    | (extract_lets +onlyGivenNames letX; clear_value letX; revert letX; intro _)
    | with_reducible refine Keeps.ite ?_ ?_
    | with_reducible refine Keeps.iteP ?_ ?_

theorem State.strapsRead_keeps {org s : State} (reads : List Nat) (h : Keeps org s) :
    Keeps org (State.strapsRead s reads) := by
  delta State.strapsRead
  repeat' first
    | with_reducible assumption
    | with_reducible apply State.setN_keeps
    | with_reducible apply State.raise_keeps
    | (extract_lets +onlyGivenNames letX; have letT : True := (by clear_value letX; guard_hyp letX : State; trivial); clear letT; refine Keeps.cut (r := org) (v := letX) ?_ (fun letH => ?_); (focus subst letX); rotate_left; clear_value letX; revert letX; intro _ _)
    | with_reducible refine Keeps.ite ?_ ?_
    | with_reducible refine Keeps.iteP ?_ ?_

theorem State.openStraps_keeps {org s : State} (o : Opening) (entry skips : Nat) (h : Keeps org s) :
    Keeps org (State.openStraps s o entry skips) := by
  delta State.openStraps
  repeat' first
    | with_reducible assumption
    | with_reducible apply State.strapsRead_keeps
    | with_reducible apply State.runStep_keeps
    | with_reducible apply State.openArbiter_keeps
    | (extract_lets +onlyGivenNames letX; clear_value letX; revert letX; intro _)
    | with_reducible refine Keeps.ite ?_ ?_
    | with_reducible refine Keeps.iteP ?_ ?_

theorem State.openLink0_keeps {org s : State} (entry skips lanes us : Nat) (h : Keeps org s) :
    Keeps org (State.openLink0 s entry skips lanes us) := by
  delta State.openLink0
  repeat' first
    | with_reducible assumption
    | with_reducible apply State.runStep_keeps
    | with_reducible apply State.linkComesUp_keeps
    | with_reducible apply State.setN_keeps
    | (extract_lets +onlyGivenNames letX; have letT : True := (by clear_value letX; guard_hyp letX : State; trivial); clear letT; refine Keeps.cut (r := org) (v := letX) ?_ (fun letH => ?_); (focus subst letX); rotate_left; clear_value letX; revert letX; intro _ _)
    | (extract_lets +onlyGivenNames letX; clear_value letX; revert letX; intro _)
    | with_reducible refine Keeps.ite ?_ ?_
    | with_reducible refine Keeps.iteP ?_ ?_

theorem State.openLinks_keeps {org s : State} (entry skips : Nat) (lanes : List (Nat × Nat)) (h : Keeps org s) :
    Keeps org (State.openLinks s entry skips lanes) := by
  delta State.openLinks
  repeat' first
    | with_reducible assumption
    | with_reducible apply State.runStep_keeps
    | with_reducible apply State.linkComesUp_keeps
    | with_reducible apply State.setN_keeps
    | (extract_lets +onlyGivenNames letX; have letT : True := (by clear_value letX; guard_hyp letX : State; trivial); clear letT; refine Keeps.cut (r := org) (v := letX) ?_ (fun letH => ?_); (focus subst letX); rotate_left; clear_value letX; revert letX; intro _ _)
    | (extract_lets +onlyGivenNames letX; clear_value letX; revert letX; intro _)
    | with_reducible refine Keeps.ite ?_ ?_
    | with_reducible refine Keeps.iteP ?_ ?_
    | with_reducible refine forEach_keeps ?_ (fun _ _ _ => ?_)

theorem State.stopsCopied_keeps {org s : State} (h : Keeps org s) :
    Keeps org (State.stopsCopied s) := by
  delta State.stopsCopied
  repeat' first
    | with_reducible assumption
    | with_reducible apply State.setN_keeps
    | (extract_lets +onlyGivenNames letX; have letT : True := (by clear_value letX; guard_hyp letX : State; trivial); clear letT; refine Keeps.cut (r := org) (v := letX) ?_ (fun letH => ?_); (focus subst letX); rotate_left; clear_value letX; revert letX; intro _ _)

theorem State.openRecords_keeps {org s : State} (o : Opening) (entry skips pskips lost : Nat) (low : Bool) (h : Keeps org s) :
    Keeps org (State.openRecords s o entry skips pskips lost low) := by
  delta State.openRecords
  repeat' first
    | with_reducible assumption
    | with_reducible apply State.setN_keeps
    | with_reducible apply State.runStep_keeps
    | with_reducible apply State.regionsLost_keeps
    | with_reducible apply State.journalCopied_keeps
    | with_reducible apply State.estOpening_keeps
    | with_reducible apply State.setRtcFlag_keeps
    | with_reducible apply State.stopsCopied_keeps
    | with_reducible apply State.wdCopy_keeps
    | (extract_lets +onlyGivenNames letX; have letT : True := (by clear_value letX; guard_hyp letX : State; trivial); clear letT; refine Keeps.cut (r := org) (v := letX) ?_ (fun letH => ?_); (focus subst letX); rotate_left; clear_value letX; revert letX; intro _ _)
    | (extract_lets +onlyGivenNames letX; clear_value letX; revert letX; intro _)
    | with_reducible refine Keeps.ite ?_ ?_
    | with_reducible refine Keeps.iteP ?_ ?_

theorem State.openPorts_keeps {org s : State} (time_ : Nat) (h : Keeps org s) :
    Keeps org (State.openPorts s time_) := by
  delta State.openPorts
  repeat' first
    | with_reducible assumption
    | with_reducible apply State.setN_keeps
    | with_reducible apply State.setClosing_keeps
    | with_reducible apply State.hkStarts_keeps
    | with_reducible apply State.nodeBoot_keeps
    | (extract_lets +onlyGivenNames letX; have letT : True := (by clear_value letX; guard_hyp letX : State; trivial); clear letT; refine Keeps.cut (r := org) (v := letX) ?_ (fun letH => ?_); (focus subst letX); rotate_left; clear_value letX; revert letX; intro _ _)
    | with_reducible refine Keeps.ite ?_ ?_
    | with_reducible refine Keeps.iteP ?_ ?_

theorem State.openPort_keeps {org s : State} (o : Opening) (entry skips limit : Nat) (h : Keeps org s) :
    Keeps org (State.openPort s o entry skips limit) := by
  delta State.openPort
  repeat' first
    | with_reducible assumption
    | with_reducible apply State.runStep_keeps
    | with_reducible apply State.setN_keeps
    | with_reducible apply State.openPorts_keeps
    | (extract_lets +onlyGivenNames letX; have letT : True := (by clear_value letX; guard_hyp letX : State; trivial); clear letT; refine Keeps.cut (r := org) (v := letX) ?_ (fun letH => ?_); (focus subst letX); rotate_left; clear_value letX; revert letX; intro _ _)
    | (extract_lets +onlyGivenNames letX; clear_value letX; revert letX; intro _)
    | with_reducible refine Keeps.ite ?_ ?_
    | with_reducible refine Keeps.iteP ?_ ?_

theorem State.openingDone_keeps {org s : State} (h : Keeps org s) :
    Keeps org (State.openingDone s) := by
  delta State.openingDone
  repeat' first
    | with_reducible assumption
    | with_reducible apply State.entryEnds_keeps
    | with_reducible apply State.setN_keeps
    | with_reducible apply State.raise_keeps
    | with_reducible apply State.journalCopied_keeps
    | (extract_lets +onlyGivenNames letX; have letT : True := (by clear_value letX; guard_hyp letX : State; trivial); clear letT; refine Keeps.cut (r := org) (v := letX) ?_ (fun letH => ?_); (focus subst letX); rotate_left; clear_value letX; revert letX; intro _ _)

theorem State.openingGoesOn_keeps {org s : State} (seven : Bool) (h : Keeps org s) :
    Keeps org (State.openingGoesOn s seven) := by
  delta State.openingGoesOn
  repeat' first
    | with_reducible assumption
    | with_reducible apply State.entryEnds_keeps
    | with_reducible apply State.journalCopied_keeps
    | with_reducible apply State.openingDone_keeps
    | (extract_lets +onlyGivenNames letX; clear_value letX; revert letX; intro _)
    | with_reducible refine Keeps.ite ?_ ?_
    | with_reducible refine Keeps.iteP ?_ ?_

theorem State.openProfile_keeps {org s : State} (entry : Nat) (h : Keeps org s) :
    Keeps org (State.openProfile s entry) := by
  delta State.openProfile
  repeat' first
    | with_reducible assumption
    | with_reducible apply State.retainJournal_keeps
    | with_reducible apply State.setN_keeps
    | with_reducible apply State.stepFallback_keeps
    | with_reducible apply State.stepSkipped_keeps
    | with_reducible apply State.set_keeps
    | (extract_lets +onlyGivenNames letX; have letT : True := (by clear_value letX; guard_hyp letX : State; trivial); clear letT; refine Keeps.cut (r := org) (v := letX) ?_ (fun letH => ?_); (focus subst letX); rotate_left; clear_value letX; revert letX; intro _ _)
    | (extract_lets +onlyGivenNames letX; clear_value letX; revert letX; intro _)
    | with_reducible refine Keeps.ite ?_ ?_
    | with_reducible refine Keeps.iteP ?_ ?_
    | with_reducible refine forEach_keeps ?_ (fun _ _ _ => ?_)
    | with_reducible refine forBelow_keeps ?_ (fun _ _ _ => ?_)

theorem State.profileRequests_keeps {org s : State} (h : Keeps org s) :
    Keeps org (State.profileRequests s) := by
  delta State.profileRequests
  repeat' first
    | with_reducible assumption
    | with_reducible apply State.setBit_keeps
    | with_reducible apply State.setRequest_keeps
    | with_reducible apply State.actOnRequest_keeps
    | with_reducible apply State.turnOff_keeps
    | with_reducible apply State.setN_keeps
    | (extract_lets +onlyGivenNames letX; have letT : True := (by clear_value letX; guard_hyp letX : State; trivial); clear letT; refine Keeps.cut (r := org) (v := letX) ?_ (fun letH => ?_); (focus subst letX); rotate_left; clear_value letX; revert letX; intro _ _)
    | with_reducible refine Keeps.ite ?_ ?_
    | with_reducible refine Keeps.iteP ?_ ?_
    | with_reducible refine forBelow_keeps ?_ (fun _ _ _ => ?_)

theorem State.profileJudge_keeps {org s : State} (n : Nat) (h : Keeps org s) :
    Keeps org (State.profileJudge s n) := by
  delta State.profileJudge
  repeat' first
    | with_reducible assumption
    | with_reducible apply State.setBit_keeps
    | with_reducible apply State.stepFails_keeps
    | with_reducible apply State.stepMarked_keeps
    | (extract_lets +onlyGivenNames letX; have letT : True := (by clear_value letX; guard_hyp letX : State; trivial); clear letT; refine Keeps.cut (r := org) (v := letX) ?_ (fun letH => ?_); (focus subst letX); rotate_left; clear_value letX; revert letX; intro _ _)
    | (extract_lets +onlyGivenNames letX; clear_value letX; revert letX; intro _)
    | with_reducible refine Keeps.ite ?_ ?_
    | with_reducible refine Keeps.iteP ?_ ?_

theorem State.profileBoundary_keeps {org s : State} (h : Keeps org s) :
    Keeps org (State.profileBoundary s) := by
  delta State.profileBoundary
  repeat' first
    | with_reducible assumption
    | with_reducible apply State.profileJudge_keeps
    | with_reducible apply State.openingDone_keeps
    | with_reducible apply State.entryEnds_keeps
    | with_reducible apply State.journalCopied_keeps
    | (extract_lets +onlyGivenNames letX; have letT : True := (by clear_value letX; guard_hyp letX : State; trivial); clear letT; refine Keeps.cut (r := org) (v := letX) ?_ (fun letH => ?_); (focus subst letX); rotate_left; clear_value letX; revert letX; intro _ _)
    | (extract_lets +onlyGivenNames letX; clear_value letX; revert letX; intro _)
    | with_reducible refine Keeps.ite ?_ ?_
    | with_reducible refine Keeps.iteP ?_ ?_
    | with_reducible refine forBelow_keeps ?_ (fun _ _ _ => ?_)

theorem State.openKeys_keeps {org s : State} (bad : Bool) (h : Keeps org s) :
    Keeps org (State.openKeys s bad) := by
  delta State.openKeys
  repeat' first
    | with_reducible assumption
    | with_reducible apply State.setFlag_keeps
    | with_reducible apply State.raise_keeps
    | (extract_lets +onlyGivenNames letX; have letT : True := (by clear_value letX; guard_hyp letX : State; trivial); clear letT; refine Keeps.cut (r := org) (v := letX) ?_ (fun letH => ?_); (focus subst letX); rotate_left; clear_value letX; revert letX; intro _ _)
    | with_reducible refine Keeps.ite ?_ ?_
    | with_reducible refine Keeps.iteP ?_ ?_

theorem State.copiesDefault_keeps {org s : State} (h : Keeps org s) :
    Keeps org (State.copiesDefault s) := by
  delta State.copiesDefault
  repeat' first
    | with_reducible assumption
    | with_reducible apply State.setN_keeps
    | with_reducible apply State.senseLevels_keeps

theorem State.placeAfterReset_keeps {org s : State} (p : Placing) (h : Keeps org s) :
    Keeps org (State.placeAfterReset s p) := by
  delta State.placeAfterReset
  repeat' first
    | with_reducible assumption
    | with_reducible apply State.placeRecord_keeps
    | with_reducible refine Keeps.ite ?_ ?_
    | split
    | with_reducible refine Keeps.update ?_

theorem State.openStop_keeps {org s : State} (h : Keeps org s) :
    Keeps org (State.openStop s) := by
  delta State.openStop
  repeat' first
    | with_reducible assumption
    | with_reducible apply State.setN_keeps
    | with_reducible apply State.placeAfterReset_keeps
    | (extract_lets +onlyGivenNames letX; have letT : True := (by clear_value letX; guard_hyp letX : State; trivial); clear letT; refine Keeps.cut (r := org) (v := letX) ?_ (fun letH => ?_); (focus subst letX); rotate_left; clear_value letX; revert letX; intro _ _)
    | with_reducible refine Keeps.ite ?_ ?_
    | with_reducible refine Keeps.iteP ?_ ?_

theorem State.openReports_keeps {org s : State} (h : Keeps org s) :
    Keeps org (State.openReports s) := by
  delta State.openReports
  repeat' first
    | with_reducible assumption
    | with_reducible apply State.openStop_keeps
    | with_reducible apply State.raise_keeps
    | with_reducible apply State.setN_keeps
    | (extract_lets +onlyGivenNames letX; have letT : True := (by clear_value letX; guard_hyp letX : State; trivial); clear letT; refine Keeps.cut (r := org) (v := letX) ?_ (fun letH => ?_); (focus subst letX); rotate_left; clear_value letX; revert letX; intro _ _)
    | with_reducible refine Keeps.ite ?_ ?_
    | with_reducible refine Keeps.iteP ?_ ?_

theorem State.openStep_keeps {org s : State} (o : Opening) (e4 k4 e5 k5 p5 lost : Nat) (low full : Bool) (step : Nat) (h : Keeps org s) :
    Keeps org (State.openStep s o e4 k4 e5 k5 p5 lost low full step) := by
  delta State.openStep
  repeat' first
    | with_reducible assumption
    | with_reducible apply State.openClock_keeps
    | with_reducible apply State.openStraps_keeps
    | with_reducible apply State.openLink0_keeps
    | with_reducible apply State.openLinks_keeps
    | with_reducible apply State.openRecords_keeps
    | with_reducible apply State.openPort_keeps
    | (extract_lets +onlyGivenNames letX; clear_value letX; revert letX; intro _)
    | with_reducible refine Keeps.ite ?_ ?_
    | with_reducible refine Keeps.iteP ?_ ?_
    | split

theorem State.openEnds_keeps {org s : State} (o : Opening) (full : Bool) (e5 : Nat) (order ran : List Nat) (h : Keeps org s) :
    Keeps org (State.openEnds s o full e5 order ran) := by
  delta State.openEnds
  repeat' first
    | with_reducible assumption
    | with_reducible apply State.setN_keeps
    | with_reducible apply State.retainJournal_keeps
    | with_reducible apply State.openProfile_keeps
    | with_reducible apply State.openingGoesOn_keeps
    | (extract_lets +onlyGivenNames letX; have letT : True := (by clear_value letX; guard_hyp letX : State; trivial); clear letT; refine Keeps.cut (r := org) (v := letX) ?_ (fun letH => ?_); (focus subst letX); rotate_left; clear_value letX; revert letX; intro _ _)
    | (extract_lets +onlyGivenNames letX; clear_value letX; revert letX; intro _)
    | with_reducible refine Keeps.ite ?_ ?_
    | with_reducible refine Keeps.iteP ?_ ?_
    | split

theorem State.opening_keeps {org s : State} (o : Opening) (full : Bool) (cause : Nat) (h : Keeps org s) :
    Keeps org (State.opening s o full cause) := by
  delta State.opening
  repeat' first
    | with_reducible assumption
    | with_reducible apply State.setN_keeps
    | with_reducible apply State.openTick_keeps
    | with_reducible apply State.journalShift_keeps
    | with_reducible apply State.diesReleased_keeps
    | with_reducible apply State.swRelease_keeps
    | with_reducible apply State.copiesDefault_keeps
    | with_reducible apply State.levelTo_keeps
    | with_reducible apply State.openKeys_keeps
    | with_reducible apply State.openStep_keeps
    | with_reducible apply State.openEnds_keeps
    | with_reducible apply State.thermalOpening_keeps
    | (extract_lets +onlyGivenNames letX; have letT : True := (by clear_value letX; guard_hyp letX : State; trivial); clear letT; refine Keeps.cut (r := org) (v := letX) ?_ (fun letH => ?_); (focus subst letX); rotate_left; clear_value letX; revert letX; intro _ _)
    | with_reducible refine Keeps.ite ?_ ?_
    | with_reducible refine Keeps.iteP ?_ ?_
    | with_reducible refine forEach_keeps ?_ (fun _ _ _ => ?_)
    | with_reducible refine Keeps.update ?_

theorem State.openingWaits_keeps {org s : State} (o : Opening) (h : Keeps org s) :
    Keeps org (State.openingWaits s o) := by
  delta State.openingWaits
  repeat' first
    | with_reducible assumption
    | with_reducible apply State.setN_keeps
    | with_reducible apply State.openStep_keeps
    | with_reducible apply State.openEnds_keeps
    | with_reducible apply State.openStop_keeps
    | (extract_lets +onlyGivenNames letX; have letT : True := (by clear_value letX; guard_hyp letX : State; trivial); clear letT; refine Keeps.cut (r := org) (v := letX) ?_ (fun letH => ?_); (focus subst letX); rotate_left; clear_value letX; revert letX; intro _ _)
    | (extract_lets +onlyGivenNames letX; clear_value letX; revert letX; intro _)
    | with_reducible refine Keeps.ite ?_ ?_
    | with_reducible refine Keeps.iteP ?_ ?_
    | with_reducible refine forEach_keeps ?_ (fun _ _ _ => ?_)

theorem State.resetRelease_keeps {org s : State} (o : Opening) (h : Keeps org s) :
    Keeps org (State.resetRelease s o) := by
  delta State.resetRelease
  repeat' first
    | with_reducible assumption
    | with_reducible apply State.openingWaits_keeps
    | with_reducible apply State.keeperHolds_keeps
    | with_reducible apply State.setN_keeps
    | with_reducible apply State.opening_keeps
    | with_reducible apply State.recordNow_keeps
    | with_reducible apply State.openReports_keeps
    | (extract_lets +onlyGivenNames letX; have letT : True := (by clear_value letX; guard_hyp letX : State; trivial); clear letT; refine Keeps.cut (r := org) (v := letX) ?_ (fun letH => ?_); (focus subst letX); rotate_left; clear_value letX; revert letX; intro _ _)
    | (extract_lets +onlyGivenNames letX; clear_value letX; revert letX; intro _)
    | with_reducible refine Keeps.ite ?_ ?_
    | with_reducible refine Keeps.iteP ?_ ?_

theorem State.parkExit_keeps {org s : State} (o : Opening) (h : Keeps org s) :
    Keeps org (State.parkExit s o) := by
  delta State.parkExit
  repeat' first
    | with_reducible assumption
    | with_reducible apply State.setN_keeps
    | with_reducible apply State.pwmLow_keeps
    | with_reducible apply State.opening_keeps
    | with_reducible apply State.estUnparks_keeps
    | with_reducible apply State.raise_keeps
    | (extract_lets +onlyGivenNames letX; have letT : True := (by clear_value letX; guard_hyp letX : State; trivial); clear letT; refine Keeps.cut (r := org) (v := letX) ?_ (fun letH => ?_); (focus subst letX); rotate_left; clear_value letX; revert letX; intro _ _)
    | (extract_lets +onlyGivenNames letX; clear_value letX; revert letX; intro _)
    | with_reducible refine Keeps.ite ?_ ?_
    | with_reducible refine Keeps.iteP ?_ ?_

theorem State.openingResume_keeps {org s : State} (v : Nat) (h : Keeps org s) :
    Keeps org (State.openingResume s v) := by
  delta State.openingResume
  repeat' first
    | with_reducible assumption
    | with_reducible apply State.setN_keeps
    | with_reducible apply State.strapsRead_keeps
    | with_reducible apply State.nodeBoot_keeps
    | with_reducible apply State.stepFails_keeps
    | with_reducible apply State.openLink0_keeps
    | with_reducible apply State.linkComesUp_keeps
    | with_reducible apply State.openLinks_keeps
    | with_reducible apply State.openProfile_keeps
    | with_reducible apply State.openingGoesOn_keeps
    | with_reducible apply State.openArbiter_keeps
    | (extract_lets +onlyGivenNames letX; have letT : True := (by clear_value letX; guard_hyp letX : State; trivial); clear letT; refine Keeps.cut (r := org) (v := letX) ?_ (fun letH => ?_); (focus subst letX); rotate_left; clear_value letX; revert letX; intro _ _)
    | (extract_lets +onlyGivenNames letX; clear_value letX; revert letX; intro _)
    | with_reducible refine Keeps.ite ?_ ?_
    | with_reducible refine Keeps.iteP ?_ ?_

theorem State.arbiterRetry_keeps {org s : State} (ok : Bool) (h : Keeps org s) :
    Keeps org (State.arbiterRetry s ok) := by
  delta State.arbiterRetry
  repeat' first
    | with_reducible assumption
    | with_reducible apply State.setN_keeps
    | with_reducible apply State.nodeBoot_keeps
    | (extract_lets +onlyGivenNames letX; have letT : True := (by clear_value letX; guard_hyp letX : State; trivial); clear letT; refine Keeps.cut (r := org) (v := letX) ?_ (fun letH => ?_); (focus subst letX); rotate_left; clear_value letX; revert letX; intro _ _)
    | with_reducible refine Keeps.ite ?_ ?_
    | with_reducible refine Keeps.iteP ?_ ?_

theorem State.rstoutRelease_keeps {org s : State} (h : Keeps org s) :
    Keeps org (State.rstoutRelease s) := by
  delta State.rstoutRelease
  repeat' first
    | with_reducible assumption
    | with_reducible apply State.setN_keeps
    | with_reducible refine Keeps.ite ?_ ?_

theorem execResetRelease_runs {org s : State} (o : Opening) (h : Keeps org s) :
    Runs org (execResetRelease o s) := by
  delta execResetRelease
  repeat' first
    | with_reducible assumption
    | with_reducible refine Runs.next ?_
    | with_reducible apply State.resetRelease_keeps
    | with_reducible refine Runs.ite ?_ ?_

theorem execParkExit_runs {org s : State} (o : Opening) (h : Keeps org s) :
    Runs org (execParkExit o s) := by
  delta execParkExit
  repeat' first
    | with_reducible assumption
    | with_reducible refine Runs.next ?_
    | with_reducible apply State.parkExit_keeps
    | with_reducible refine Runs.ite ?_ ?_

theorem execProfileChannelRequest_runs {org s : State} (h : Keeps org s) :
    Runs org (execProfileChannelRequest s) := by
  delta execProfileChannelRequest
  repeat' first
    | with_reducible assumption
    | with_reducible refine Runs.next ?_
    | with_reducible apply State.profileRequests_keeps
    | with_reducible refine Runs.ite ?_ ?_

theorem execArbiterPortRetry_runs {org s : State} (ok : Bool) (h : Keeps org s) :
    Runs org (execArbiterPortRetry ok s) := by
  delta execArbiterPortRetry
  repeat' first
    | with_reducible assumption
    | with_reducible refine Runs.next ?_
    | with_reducible apply State.arbiterRetry_keeps
    | with_reducible refine Runs.ite ?_ ?_

theorem execRstoutNRelease_runs {org s : State} (h : Keeps org s) :
    Runs org (execRstoutNRelease s) := by
  delta execRstoutNRelease
  repeat' first
    | with_reducible assumption
    | with_reducible refine Runs.next ?_
    | with_reducible apply State.rstoutRelease_keeps
    | with_reducible refine Runs.ite ?_ ?_

theorem State.collectorRecord_keeps {org s : State} (k : Kind) (c : Nat) (fields : List (Nat × Int)) (h : Keeps org s) :
    Keeps org (State.collectorRecord s k c fields) := by
  delta State.collectorRecord
  repeat' first
    | with_reducible assumption
    | (extract_lets +onlyGivenNames letX; clear_value letX; revert letX; intro _)
    | with_reducible refine Keeps.iteP ?_ ?_
    | with_reducible refine Keeps.update ?_

theorem State.cascade_keeps {org s : State} (m : Msg) (c : Nat) (h : Keeps org s) :
    Keeps org (State.cascade s m c).2 := by
  delta State.cascade
  repeat' first
    | with_reducible assumption
    | with_reducible apply State.count_keeps
    | with_reducible apply State.setN_keeps
    | with_reducible apply State.collectorRecord_keeps
    | (extract_lets +onlyGivenNames letX; have letT : True := (by clear_value letX; guard_hyp letX : State; trivial); clear letT; refine Keeps.cut (r := org) (v := letX) ?_ (fun letH => ?_); (focus subst letX); rotate_left; clear_value letX; revert letX; intro _ _)
    | with_reducible refine Keeps.iteP ?_ ?_
    | with_reducible refine Keeps.ite ?_ ?_

theorem State.collectorDrop_keeps {org s : State} (h : Keeps org s) :
    Keeps org (State.collectorDrop s) := by
  delta State.collectorDrop
  repeat' first
    | with_reducible assumption
    | with_reducible apply State.setBlob_keeps
    | with_reducible apply State.count_keeps
    | with_reducible apply State.setN_keeps
    | with_reducible apply State.raise_keeps
    | (extract_lets +onlyGivenNames letX; have letT : True := (by clear_value letX; guard_hyp letX : State; trivial); clear letT; refine Keeps.cut (r := org) (v := letX) ?_ (fun letH => ?_); (focus subst letX); rotate_left; clear_value letX; revert letX; intro _ _)
    | (extract_lets +onlyGivenNames letX; clear_value letX; revert letX; intro _)
    | with_reducible refine Keeps.ite ?_ ?_
    | with_reducible refine Keeps.iteP ?_ ?_

theorem State.toRecording_keeps {org s : State} (m : Msg) (c : Nat) (shadow : Bool) (h : Keeps org s) :
    Keeps org (State.toRecording s m c shadow) := by
  delta State.toRecording
  repeat' first
    | with_reducible assumption
    | with_reducible apply State.collectorDrop_keeps
    | with_reducible refine Keeps.ite ?_ ?_
    | with_reducible refine Keeps.update ?_

theorem State.emcyFor_keeps {org s : State} (r : Record) (h : Keeps org s) :
    Keeps org (State.emcyFor s r) := by
  delta State.emcyFor
  repeat' first
    | with_reducible assumption
    | with_reducible apply State.emcySend_keeps
    | with_reducible refine Keeps.ite ?_ ?_
    | with_reducible refine forBelow_keeps ?_ (fun _ _ _ => ?_)

theorem State.unitStop_keeps {org s : State} (site : Nat) (h : Keeps org s) :
    Keeps org (State.unitStop s site) := by
  delta State.unitStop
  repeat' first
    | with_reducible assumption
    | with_reducible apply State.convLatch_keeps
    | with_reducible apply State.openShadow_keeps
    | with_reducible apply State.setN_keeps
    | with_reducible apply State.laneParks_keeps
    | with_reducible apply State.land_keeps
    | (extract_lets +onlyGivenNames letX; have letT : True := (by clear_value letX; guard_hyp letX : State; trivial); clear letT; refine Keeps.cut (r := org) (v := letX) ?_ (fun letH => ?_); (focus subst letX); rotate_left; clear_value letX; revert letX; intro _ _)
    | with_reducible refine Keeps.iteP ?_ ?_
    | split

theorem State.lockOut_keeps {org s : State} (n : Nat) (h : Keeps org s) :
    Keeps org (State.lockOut s n) := by
  delta State.lockOut
  repeat' first
    | with_reducible assumption
    | with_reducible apply State.swapInterrupt_keeps
    | with_reducible apply State.setModelFlag_keeps
    | with_reducible apply State.setN_keeps
    | with_reducible apply State.withdraw_keeps
    | with_reducible apply State.cellTo_keeps
    | (extract_lets +onlyGivenNames letX; have letT : True := (by clear_value letX; guard_hyp letX : State; trivial); clear letT; refine Keeps.cut (r := org) (v := letX) ?_ (fun letH => ?_); (focus subst letX); rotate_left; clear_value letX; revert letX; intro _ _)
    | (extract_lets +onlyGivenNames letX; clear_value letX; revert letX; intro _)
    | with_reducible refine Keeps.ite ?_ ?_
    | with_reducible refine Keeps.iteP ?_ ?_

theorem State.unitStopLands_keeps {org s : State} (site : Nat) (h : Keeps org s) :
    Keeps org (State.unitStopLands s site) := by
  delta State.unitStopLands
  repeat' first
    | with_reducible assumption
    | with_reducible apply State.lockOut_keeps
    | with_reducible refine forEach_keeps ?_ (fun _ _ _ => ?_)

theorem State.unitShadows_keeps {org s : State} (h : Keeps org s) :
    Keeps org (State.unitShadows s) := by
  delta State.unitShadows
  repeat' first
    | with_reducible assumption
    | with_reducible refine Keeps.ite ?_ ?_
    | with_reducible refine Keeps.update ?_

theorem State.stopsOvertaken_keeps {org s : State} (t : Nat) (h : Keeps org s) :
    Keeps org (State.stopsOvertaken s t) := by
  delta State.stopsOvertaken
  repeat' first
    | with_reducible assumption
    | with_reducible apply State.unitStop_keeps
    | with_reducible refine Keeps.ite ?_ ?_
    | split
    | with_reducible refine Keeps.update ?_

theorem State.handStop_keeps {org s : State} (m : Msg) (h : Keeps org s) :
    Keeps org (State.handStop s m) := by
  delta State.handStop
  repeat' first
    | with_reducible assumption
    | with_reducible apply State.stopsOvertaken_keeps
    | with_reducible apply State.scheduleFold_keeps
    | with_reducible refine Keeps.ite ?_ ?_
    | with_reducible refine forEach_keeps ?_ (fun _ _ _ => ?_)

theorem State.stopKept_keeps {org s : State} (m : Msg) (c : Nat) (lockout : Bool) (h : Keeps org s) :
    Keeps org (State.stopKept s m c lockout) := by
  delta State.stopKept
  repeat' first
    | with_reducible assumption
    | with_reducible apply State.setBlob_keeps
    | with_reducible apply State.setN_keeps
    | with_reducible apply State.count_keeps
    | (extract_lets +onlyGivenNames letX; have letT : True := (by clear_value letX; guard_hyp letX : State; trivial); clear letT; refine Keeps.cut (r := org) (v := letX) ?_ (fun letH => ?_); (focus subst letX); rotate_left; clear_value letX; revert letX; intro _ _)
    | with_reducible refine Keeps.ite ?_ ?_
    | with_reducible refine Keeps.iteP ?_ ?_

theorem State.dropFolds_keeps {org s : State} (h : Keeps org s) :
    Keeps org (State.dropFolds s) := by
  delta State.dropFolds
  repeat' first
    | with_reducible assumption
    | with_reducible apply State.unitStop_keeps
    | split
    | with_reducible refine Keeps.update ?_

theorem State.houseStop_keeps {org s : State} (m : Msg) (c : Nat) (lockout : Bool) (h : Keeps org s) :
    Keeps org (State.houseStop s m c lockout) := by
  delta State.houseStop
  repeat' first
    | with_reducible assumption
    | with_reducible apply State.stopKept_keeps
    | with_reducible apply State.setN_keeps
    | with_reducible apply State.dropFolds_keeps
    | with_reducible apply State.planAbort_keeps
    | with_reducible apply State.asFinish_keeps
    | with_reducible apply State.convHouseStop_keeps
    | with_reducible apply State.swNoClosed_keeps
    | with_reducible apply State.openShadow_keeps
    | with_reducible apply State.commitsEnd_keeps
    | (extract_lets +onlyGivenNames letX; have letT : True := (by clear_value letX; guard_hyp letX : State; trivial); clear letT; refine Keeps.cut (r := org) (v := letX) ?_ (fun letH => ?_); (focus subst letX); rotate_left; clear_value letX; revert letX; intro _ _)
    | with_reducible refine Keeps.ite ?_ ?_
    | with_reducible refine Keeps.iteP ?_ ?_
    | with_reducible refine forBelow_keeps ?_ (fun _ _ _ => ?_)

theorem State.deviceStop_keeps {org s : State} (m : Msg) (before c : Nat) (h : Keeps org s) :
    Keeps org (State.deviceStop s m before c) := by
  delta State.deviceStop
  repeat' first
    | with_reducible assumption
    | with_reducible apply State.houseStop_keeps
    | with_reducible apply State.setN_keeps
    | with_reducible apply State.stopKept_keeps
    | (extract_lets +onlyGivenNames letX; have letT : True := (by clear_value letX; guard_hyp letX : State; trivial); clear letT; refine Keeps.cut (r := org) (v := letX) ?_ (fun letH => ?_); (focus subst letX); rotate_left; clear_value letX; revert letX; intro _ _)
    | with_reducible refine Keeps.ite ?_ ?_
    | with_reducible refine Keeps.iteP ?_ ?_
    | with_reducible refine Keeps.update ?_

theorem State.react_keeps {org s : State} (m : Msg) (before c : Nat) (h : Keeps org s) :
    Keeps org (State.react s m before c) := by
  delta State.react
  repeat' first
    | with_reducible assumption
    | with_reducible apply State.deviceStop_keeps
    | with_reducible apply State.handStop_keeps
    | with_reducible apply State.unitStop_keeps
    | with_reducible refine Keeps.ite ?_ ?_

theorem State.classify_keeps {org s : State} (m : Msg) (h : Keeps org s) :
    Keeps org (State.classify s m) := by
  delta State.classify
  repeat' first
    | with_reducible assumption
    | with_reducible apply State.cascade_keeps
    | with_reducible apply State.count_keeps
    | with_reducible apply State.toRecording_keeps
    | with_reducible apply State.setN_keeps
    | with_reducible apply State.emcyFor_keeps
    | with_reducible apply State.react_keeps
    | (extract_lets +onlyGivenNames letX; have letT : True := (by clear_value letX; guard_hyp letX : State; trivial); clear letT; refine Keeps.cut (r := org) (v := letX) ?_ (fun letH => ?_); (focus subst letX); rotate_left; clear_value letX; revert letX; intro _ _)
    | (extract_lets +onlyGivenNames letX; have letT : True := (by clear_value letX; revert letX; with_reducible exact Keeps.isPair); clear letT; refine Keeps.cut (r := org) (v := letX.2) ?_ (fun letH => ?_); (focus subst letX); rotate_left; clear_value letX; revert letX; intro _ _)
    | (extract_lets +onlyGivenNames letX; clear_value letX; revert letX; intro _)
    | with_reducible refine Keeps.ite ?_ ?_
    | with_reducible refine Keeps.iteP ?_ ?_

theorem State.raiseAt_keeps {org s : State} (k : Kind) (site : Nat) (fields : List (Nat × Int)) (h : Keeps org s) :
    Keeps org (State.raiseAt s k site fields) := by
  delta State.raiseAt
  repeat' first
    | with_reducible assumption
    | with_reducible apply State.raiseDie_keeps
    | with_reducible apply State.raise_keeps
    | (extract_lets +onlyGivenNames letX; clear_value letX; revert letX; intro _)
    | with_reducible refine Keeps.ite ?_ ?_
    | with_reducible refine Keeps.iteP ?_ ?_

theorem State.valueLost_keeps {org s : State} (k : Nat) (h : Keeps org s) :
    Keeps org (State.valueLost s k) := by
  delta State.valueLost
  repeat' first
    | with_reducible assumption
    | with_reducible apply State.set_keeps
    | with_reducible apply State.setBlob_keeps
    | (extract_lets +onlyGivenNames letX; have letT : True := (by clear_value letX; guard_hyp letX : State; trivial); clear letT; refine Keeps.cut (r := org) (v := letX) ?_ (fun letH => ?_); (focus subst letX); rotate_left; clear_value letX; revert letX; intro _ _)
    | with_reducible refine Keeps.ite ?_ ?_
    | with_reducible refine Keeps.iteP ?_ ?_

theorem State.recordsLost_keeps {org s : State} (q : Nat) (places : List Nat) (h : Keeps org s) :
    Keeps org (State.recordsLost s q places) := by
  delta State.recordsLost
  repeat' first
    | with_reducible assumption
    | with_reducible apply State.setRing_keeps
    | with_reducible apply State.marker_keeps
    | with_reducible apply State.tgSettle_keeps
    | (extract_lets +onlyGivenNames letX; clear_value letX; revert letX; intro _)
    | with_reducible refine Keeps.ite ?_ ?_
    | with_reducible refine Keeps.iteP ?_ ?_

theorem State.reported_keeps {org s : State} (r : Report) (h : Keeps org s) :
    Keeps org (State.reported s r) := by
  delta State.reported
  repeat' first
    | with_reducible assumption
    | with_reducible apply State.raiseAt_keeps
    | with_reducible apply State.valueLost_keeps
    | with_reducible apply State.recordsLost_keeps
    | (extract_lets +onlyGivenNames letX; have letT : True := (by clear_value letX; guard_hyp letX : State; trivial); clear letT; refine Keeps.cut (r := org) (v := letX) ?_ (fun letH => ?_); (focus subst letX); rotate_left; clear_value letX; revert letX; intro _ _)
    | with_reducible refine Keeps.ite ?_ ?_
    | with_reducible refine Keeps.iteP ?_ ?_
    | with_reducible refine forEach_keeps ?_ (fun _ _ _ => ?_)
    | split

theorem State.oldestClassified_keeps {org s : State} (h : Keeps org s) :
    Keeps org (State.oldestClassified s) := by
  delta State.oldestClassified
  repeat' first
    | with_reducible assumption
    | with_reducible apply State.classify_keeps
    | with_reducible refine Keeps.ite ?_ ?_
    | split
    | with_reducible refine Keeps.update ?_

theorem State.faultMessage_keeps {org s : State} (r : Option Report) (h : Keeps org s) :
    Keeps org (State.faultMessage s r) := by
  delta State.faultMessage
  repeat' first
    | with_reducible assumption
    | with_reducible apply State.reported_keeps
    | with_reducible apply State.oldestClassified_keeps
    | split

theorem State.shadowsClose_keeps {org s : State} (h : Keeps org s) :
    Keeps org (State.shadowsClose s) := by
  delta State.shadowsClose
  repeat' first
    | with_reducible assumption
    | (extract_lets +onlyGivenNames letX; clear_value letX; revert letX; intro _)
    | with_reducible refine Keeps.iteP ?_ ?_
    | with_reducible refine Keeps.update ?_

theorem execFaultMessage_runs {org s : State} (r : Option Report := none) (h : Keeps org s) :
    Runs org (execFaultMessage s r) := by
  delta execFaultMessage
  repeat' first
    | with_reducible assumption
    | with_reducible refine Runs.next ?_
    | with_reducible apply State.faultMessage_keeps
    | with_reducible refine Runs.ite ?_ ?_

theorem execShadowClose_runs {org s : State} (h : Keeps org s) :
    Runs org (execShadowClose s) := by
  delta execShadowClose
  repeat' first
    | with_reducible assumption
    | with_reducible refine Runs.next ?_
    | with_reducible apply State.shadowsClose_keeps
    | with_reducible refine Runs.ite ?_ ?_

theorem State.loadWindow_keeps {org s : State} (h : Keeps org s) :
    Keeps org (State.loadWindow s) := by
  delta State.loadWindow
  repeat' first
    | with_reducible assumption
    | with_reducible apply State.setN_keeps
    | with_reducible apply State.count_keeps
    | with_reducible apply State.raise_keeps
    | (extract_lets +onlyGivenNames letX; have letT : True := (by clear_value letX; guard_hyp letX : State; trivial); clear letT; refine Keeps.cut (r := org) (v := letX) ?_ (fun letH => ?_); (focus subst letX); rotate_left; clear_value letX; revert letX; intro _ _)
    | (extract_lets +onlyGivenNames letX; clear_value letX; revert letX; intro _)
    | with_reducible refine Keeps.ite ?_ ?_
    | with_reducible refine Keeps.iteP ?_ ?_

theorem execLoadWindowEnd_runs {org s : State} (h : Keeps org s) :
    Runs org (execLoadWindowEnd s) := by
  delta execLoadWindowEnd
  repeat' first
    | with_reducible assumption
    | with_reducible refine Runs.next ?_
    | with_reducible apply State.loadWindow_keeps
    | with_reducible refine Runs.ite ?_ ?_

theorem State.tpdoSend_keeps {org s : State} (x : Nat) (h : Keeps org s) :
    Keeps org (State.tpdoSend s x) := by
  delta State.tpdoSend
  repeat' first
    | with_reducible assumption
    | with_reducible apply State.setN_keeps
    | with_reducible apply State.setBlob_keeps
    | with_reducible apply State.canSend_keeps
    | (extract_lets +onlyGivenNames letX; have letT : True := (by clear_value letX; guard_hyp letX : State; trivial); clear letT; refine Keeps.cut (r := org) (v := letX) ?_ (fun letH => ?_); (focus subst letX); rotate_left; clear_value letX; revert letX; intro _ _)

theorem State.tpdoEvent_keeps {org s : State} (x : Nat) (h : Keeps org s) :
    Keeps org (State.tpdoEvent s x) := by
  delta State.tpdoEvent
  repeat' first
    | with_reducible assumption
    | with_reducible apply State.setN_keeps
    | with_reducible apply State.tpdoSend_keeps
    | with_reducible refine Keeps.ite ?_ ?_

theorem State.tpdoBoundary_keeps {org s : State} (x : Nat) (h : Keeps org s) :
    Keeps org (State.tpdoBoundary s x) := by
  delta State.tpdoBoundary
  repeat' first
    | with_reducible assumption
    | with_reducible apply State.setBlob_keeps
    | with_reducible apply State.tpdoEvent_keeps
    | (extract_lets +onlyGivenNames letX; have letT : True := (by clear_value letX; guard_hyp letX : State; trivial); clear letT; refine Keeps.cut (r := org) (v := letX) ?_ (fun letH => ?_); (focus subst letX); rotate_left; clear_value letX; revert letX; intro _ _)
    | (extract_lets +onlyGivenNames letX; clear_value letX; revert letX; intro _)
    | with_reducible refine Keeps.ite ?_ ?_
    | with_reducible refine Keeps.iteP ?_ ?_

theorem State.tpdoSync_keeps {org s : State} (x : Nat) (counter : Option Nat) (h : Keeps org s) :
    Keeps org (State.tpdoSync s x counter) := by
  delta State.tpdoSync
  repeat' first
    | with_reducible assumption
    | with_reducible apply State.tpdoEvent_keeps
    | with_reducible apply State.setN_keeps
    | (extract_lets +onlyGivenNames letX; have letT : True := (by clear_value letX; guard_hyp letX : State; trivial); clear letT; refine Keeps.cut (r := org) (v := letX) ?_ (fun letH => ?_); (focus subst letX); rotate_left; clear_value letX; revert letX; intro _ _)
    | (extract_lets +onlyGivenNames letX; clear_value letX; revert letX; intro _)
    | with_reducible refine Keeps.ite ?_ ?_
    | with_reducible refine Keeps.iteP ?_ ?_

theorem State.tpdoTimer_keeps {org s : State} (x : Nat) (h : Keeps org s) :
    Keeps org (State.tpdoTimer s x) := by
  delta State.tpdoTimer
  repeat' first
    | with_reducible assumption
    | with_reducible apply State.setN_keeps
    | with_reducible apply State.tpdoEvent_keeps
    | (extract_lets +onlyGivenNames letX; clear_value letX; revert letX; intro _)
    | with_reducible refine Keeps.ite ?_ ?_
    | with_reducible refine Keeps.iteP ?_ ?_

theorem State.tpdoInhibitEnd_keeps {org s : State} (x : Nat) (h : Keeps org s) :
    Keeps org (State.tpdoInhibitEnd s x) := by
  delta State.tpdoInhibitEnd
  repeat' first
    | with_reducible assumption
    | with_reducible apply State.tpdoSend_keeps
    | with_reducible apply State.setN_keeps
    | with_reducible refine Keeps.ite ?_ ?_

theorem State.tpdoRestart_keeps {org s : State} (x : Nat) (h : Keeps org s) :
    Keeps org (State.tpdoRestart s x) := by
  delta State.tpdoRestart
  repeat' first
    | with_reducible assumption
    | with_reducible apply State.setN_keeps
    | with_reducible apply State.setBlob_keeps
    | with_reducible refine Keeps.ite ?_ ?_

theorem State.pdosRestart_keeps {org s : State} (t : Nat) (h : Keeps org s) :
    Keeps org (State.pdosRestart s t) := by
  delta State.pdosRestart
  repeat' first
    | with_reducible assumption
    | with_reducible apply State.tpdoRestart_keeps
    | with_reducible apply State.setN_keeps
    | with_reducible apply State.setBlob_keeps
    | (extract_lets +onlyGivenNames letX; have letT : True := (by clear_value letX; guard_hyp letX : State; trivial); clear letT; refine Keeps.cut (r := org) (v := letX) ?_ (fun letH => ?_); (focus subst letX); rotate_left; clear_value letX; revert letX; intro _ _)
    | with_reducible refine Keeps.ite ?_ ?_
    | with_reducible refine Keeps.iteP ?_ ?_
    | with_reducible refine forBelow_keeps ?_ (fun _ _ _ => ?_)

theorem State.nmt_keeps {org s : State} (p node : Nat) (f : Nat → State → State) (h : Keeps org s) (hf : ∀ a x, Keeps org x → Keeps org (f a x)) :
    Keeps org (State.nmt s p node f) := by
  delta State.nmt
  repeat' first
    | with_reducible assumption
    | with_reducible apply State.wrapCount_keeps
    | with_reducible refine Keeps.ite ?_ ?_
    | with_reducible refine forEach_keeps ?_ (fun _ _ _ => ?_)
    | (with_reducible apply hf)

theorem State.nmtTo_keeps {org s : State} (t st : Nat) (h : Keeps org s) :
    Keeps org (State.nmtTo s t st) := by
  delta State.nmtTo
  repeat' first
    | with_reducible assumption
    | with_reducible apply State.setN_keeps
    | with_reducible apply State.pdosRestart_keeps
    | (extract_lets +onlyGivenNames letX; have letT : True := (by clear_value letX; guard_hyp letX : State; trivial); clear letT; refine Keeps.cut (r := org) (v := letX) ?_ (fun letH => ?_); (focus subst letX); rotate_left; clear_value letX; revert letX; intro _ _)
    | (extract_lets +onlyGivenNames letX; clear_value letX; revert letX; intro _)
    | with_reducible refine Keeps.ite ?_ ?_
    | with_reducible refine Keeps.iteP ?_ ?_

theorem State.nmtResetCommunication_keeps {org s : State} (t : Nat) (h : Keeps org s) :
    Keeps org (State.nmtResetCommunication s t) := by
  delta State.nmtResetCommunication
  repeat' first
    | with_reducible assumption
    | with_reducible apply State.pdosRestart_keeps
    | with_reducible apply State.nodeBoot_keeps

theorem State.nmtResetNode_keeps {org s : State} (t : Nat) (h : Keeps org s) :
    Keeps org (State.nmtResetNode s t) := by
  delta State.nmtResetNode
  repeat' first
    | with_reducible assumption
    | with_reducible apply State.tenantResetAccept_keeps
    | with_reducible apply State.setN_keeps

theorem execNmtStart_runs {org s : State} (p : CanPort) (node : Nat) (h : Keeps org s) :
    Runs org (execNmtStart p node s) := by
  delta execNmtStart
  repeat' first
    | with_reducible assumption
    | with_reducible refine Runs.next ?_
    | with_reducible apply State.nmt_keeps
    | with_reducible apply State.nmtTo_keeps
    | with_reducible refine Runs.ite ?_ ?_
    | (intro _ _ _)
    | (intro _ _)

theorem execNmtStop_runs {org s : State} (p : CanPort) (node : Nat) (h : Keeps org s) :
    Runs org (execNmtStop p node s) := by
  delta execNmtStop
  repeat' first
    | with_reducible assumption
    | with_reducible refine Runs.next ?_
    | with_reducible apply State.nmt_keeps
    | with_reducible apply State.nmtTo_keeps
    | with_reducible refine Runs.ite ?_ ?_
    | (intro _ _ _)
    | (intro _ _)

theorem execNmtEnterPreoperational_runs {org s : State} (p : CanPort) (node : Nat) (h : Keeps org s) :
    Runs org (execNmtEnterPreoperational p node s) := by
  delta execNmtEnterPreoperational
  repeat' first
    | with_reducible assumption
    | with_reducible refine Runs.next ?_
    | with_reducible apply State.nmt_keeps
    | with_reducible apply State.nmtTo_keeps
    | with_reducible refine Runs.ite ?_ ?_
    | (intro _ _ _)
    | (intro _ _)

theorem execNmtResetNode_runs {org s : State} (p : CanPort) (node : Nat) (h : Keeps org s) :
    Runs org (execNmtResetNode p node s) := by
  delta execNmtResetNode
  repeat' first
    | with_reducible assumption
    | with_reducible refine Runs.next ?_
    | with_reducible apply State.nmt_keeps
    | with_reducible apply State.nmtResetNode_keeps
    | with_reducible refine Runs.ite ?_ ?_
    | (intro _ _ _)
    | (intro _ _)

theorem execNmtResetCommunication_runs {org s : State} (p : CanPort) (node : Nat) (h : Keeps org s) :
    Runs org (execNmtResetCommunication p node s) := by
  delta execNmtResetCommunication
  repeat' first
    | with_reducible assumption
    | with_reducible refine Runs.next ?_
    | with_reducible apply State.nmt_keeps
    | with_reducible apply State.nmtResetCommunication_keeps
    | with_reducible refine Runs.ite ?_ ?_
    | (intro _ _ _)
    | (intro _ _)

theorem execTpdoEventTimer_runs {org s : State} (x : Fin 128) (h : Keeps org s) :
    Runs org (execTpdoEventTimer x s) := by
  delta execTpdoEventTimer
  repeat' first
    | with_reducible assumption
    | with_reducible refine Runs.next ?_
    | with_reducible apply State.tpdoTimer_keeps
    | with_reducible refine Runs.ite ?_ ?_

theorem execTpdoInhibitEnd_runs {org s : State} (x : Fin 128) (h : Keeps org s) :
    Runs org (execTpdoInhibitEnd x s) := by
  delta execTpdoInhibitEnd
  repeat' first
    | with_reducible assumption
    | with_reducible refine Runs.next ?_
    | with_reducible apply State.tpdoInhibitEnd_keeps
    | with_reducible refine Runs.ite ?_ ?_

theorem State.pcieLost_keeps {org s : State} (h : Keeps org s) :
    Keeps org (State.pcieLost s) := by
  delta State.pcieLost
  repeat' first
    | with_reducible assumption
    | with_reducible apply State.setN_keeps
    | with_reducible refine Keeps.ite ?_ ?_

theorem State.pcieLink_keeps {org s : State} (st speed : Nat) (h : Keeps org s) :
    Keeps org (State.pcieLink s st speed) := by
  delta State.pcieLink
  repeat' first
    | with_reducible assumption
    | with_reducible apply State.count_keeps
    | with_reducible apply State.pcieLost_keeps
    | with_reducible apply State.setN_keeps
    | with_reducible apply State.raise_keeps
    | (extract_lets +onlyGivenNames letX; have letT : True := (by clear_value letX; guard_hyp letX : State; trivial); clear letT; refine Keeps.cut (r := org) (v := letX) ?_ (fun letH => ?_); (focus subst letX); rotate_left; clear_value letX; revert letX; intro _ _)
    | (extract_lets +onlyGivenNames letX; clear_value letX; revert letX; intro _)
    | with_reducible refine Keeps.ite ?_ ?_
    | with_reducible refine Keeps.iteP ?_ ?_

theorem State.pcieChanged_keeps {org s : State} (st speed masters payload : Nat) (h : Keeps org s) :
    Keeps org (State.pcieChanged s st speed masters payload) := by
  delta State.pcieChanged
  repeat' first
    | with_reducible assumption
    | with_reducible apply State.pcieLink_keeps
    | with_reducible apply State.setN_keeps
    | (extract_lets +onlyGivenNames letX; have letT : True := (by clear_value letX; guard_hyp letX : State; trivial); clear letT; refine Keeps.cut (r := org) (v := letX) ?_ (fun letH => ?_); (focus subst letX); rotate_left; clear_value letX; revert letX; intro _ _)
    | (extract_lets +onlyGivenNames letX; clear_value letX; revert letX; intro _)
    | with_reducible refine Keeps.ite ?_ ?_
    | with_reducible refine Keeps.iteP ?_ ?_
    | with_reducible refine forBelow_keeps ?_ (fun _ _ _ => ?_)

theorem State.pcieRetrain_keeps {org s : State} (h : Keeps org s) :
    Keeps org (State.pcieRetrain s) := by
  delta State.pcieRetrain
  repeat' first
    | with_reducible assumption
    | with_reducible apply State.pcieLink_keeps
    | with_reducible refine Keeps.ite ?_ ?_

theorem State.functionClears_keeps {org s : State} (f : Nat) (h : Keeps org s) :
    Keeps org (State.functionClears s f) := by
  delta State.functionClears
  repeat' first
    | with_reducible assumption
    | with_reducible apply State.setBit_keeps
    | with_reducible apply State.restore_keeps
    | with_reducible apply State.setN_keeps
    | (extract_lets +onlyGivenNames letX; have letT : True := (by clear_value letX; guard_hyp letX : State; trivial); clear letT; refine Keeps.cut (r := org) (v := letX) ?_ (fun letH => ?_); (focus subst letX); rotate_left; clear_value letX; revert letX; intro _ _)
    | with_reducible refine Keeps.iteP ?_ ?_
    | with_reducible refine forBelow_keeps ?_ (fun _ _ _ => ?_)

theorem State.functionReset_keeps {org s : State} (f cause : Nat) (h : Keeps org s) :
    Keeps org (State.functionReset s f cause) := by
  delta State.functionReset
  repeat' first
    | with_reducible assumption
    | with_reducible apply State.functionClears_keeps
    | with_reducible apply State.doomDescriptors_keeps
    | with_reducible apply State.raise_keeps

theorem State.perst_keeps {org s : State} (low : Bool) (h : Keeps org s) :
    Keeps org (State.perst s low) := by
  delta State.perst
  repeat' first
    | with_reducible assumption
    | with_reducible apply State.setFlag_keeps
    | with_reducible apply State.count_keeps
    | with_reducible apply State.pcieLink_keeps
    | with_reducible apply State.functionReset_keeps
    | with_reducible apply State.restore_keeps
    | with_reducible apply State.setBlob_keeps
    | (extract_lets +onlyGivenNames letX; have letT : True := (by clear_value letX; guard_hyp letX : State; trivial); clear letT; refine Keeps.cut (r := org) (v := letX) ?_ (fun letH => ?_); (focus subst letX); rotate_left; clear_value letX; revert letX; intro _ _)
    | with_reducible refine Keeps.ite ?_ ?_
    | with_reducible refine Keeps.iteP ?_ ?_
    | with_reducible refine forBelow_keeps ?_ (fun _ _ _ => ?_)

theorem State.functionLevelReset_keeps {org s : State} (f : Nat) (h : Keeps org s) :
    Keeps org (State.functionLevelReset s f) := by
  delta State.functionLevelReset
  repeat' first
    | with_reducible assumption
    | with_reducible apply State.count_keeps
    | with_reducible apply State.functionReset_keeps
    | with_reducible refine Keeps.ite ?_ ?_

theorem execPciePerst_runs {org s : State} (low : Bool) (h : Keeps org s) :
    Runs org (execPciePerst low s) := by
  delta execPciePerst
  repeat' first
    | with_reducible assumption
    | with_reducible refine Runs.next ?_
    | with_reducible apply State.perst_keeps
    | with_reducible refine Runs.ite ?_ ?_

theorem execFunctionLevelReset_runs {org s : State} (f : Func) (h : Keeps org s) :
    Runs org (execFunctionLevelReset f s) := by
  delta execFunctionLevelReset
  repeat' first
    | with_reducible assumption
    | with_reducible refine Runs.next ?_
    | with_reducible apply State.functionLevelReset_keeps
    | with_reducible refine Runs.ite ?_ ?_

theorem execPcieLinkChanged_runs {org s : State} (link speed masters payload : Nat) (h : Keeps org s) :
    Runs org (execPcieLinkChanged link speed masters payload s) := by
  delta execPcieLinkChanged
  repeat' first
    | with_reducible assumption
    | with_reducible refine Runs.next ?_
    | with_reducible apply State.pcieChanged_keeps
    | with_reducible refine Runs.ite ?_ ?_

theorem State.modelsStart_keeps {org s : State} (old : State) (keys : List Nat) (h : Keeps org s) :
    Keeps org (State.modelsStart old s keys) := by
  delta State.modelsStart
  repeat' first
    | with_reducible assumption
    | with_reducible apply State.setModelFlag_keeps
    | with_reducible apply State.wireStart_keeps
    | with_reducible apply State.fetStart_keeps
    | (extract_lets +onlyGivenNames letX; have letT : True := (by clear_value letX; guard_hyp letX : State; trivial); clear letT; refine Keeps.cut (r := org) (v := letX) ?_ (fun letH => ?_); (focus subst letX); rotate_left; clear_value letX; revert letX; intro _ _)
    | (extract_lets +onlyGivenNames letX; clear_value letX; revert letX; intro _)
    | with_reducible refine Keeps.ite ?_ ?_
    | with_reducible refine Keeps.iteP ?_ ?_
    | with_reducible refine forEach_keeps ?_ (fun _ _ _ => ?_)

theorem State.keeperCopies_keeps {org s : State} (h : Keeps org s) :
    Keeps org (State.keeperCopies s) := by
  delta State.keeperCopies
  repeat' first
    | with_reducible assumption
    | with_reducible apply State.set_keeps
    | with_reducible apply State.setN_keeps
    | (extract_lets +onlyGivenNames letX; have letT : True := (by clear_value letX; guard_hyp letX : State; trivial); clear letT; refine Keeps.cut (r := org) (v := letX) ?_ (fun letH => ?_); (focus subst letX); rotate_left; clear_value letX; revert letX; intro _ _)
    | (extract_lets +onlyGivenNames letX; clear_value letX; revert letX; intro _)
    | with_reducible refine Keeps.ite ?_ ?_
    | with_reducible refine Keeps.iteP ?_ ?_
    | with_reducible refine forBelow_keeps ?_ (fun _ _ _ => ?_)

theorem State.canChanged_keeps {org s : State} (old : State) (p : Nat) (keys : List Nat) (h : Keeps org s) :
    Keeps org (State.canChanged old s p keys) := by
  delta State.canChanged
  repeat' first
    | with_reducible assumption
    | with_reducible apply State.canRates_keeps
    | with_reducible apply State.syncRange_keeps
    | (extract_lets +onlyGivenNames letX; have letT : True := (by clear_value letX; guard_hyp letX : State; trivial); clear letT; refine Keeps.cut (r := org) (v := letX) ?_ (fun letH => ?_); (focus subst letX); rotate_left; clear_value letX; revert letX; intro _ _)
    | (extract_lets +onlyGivenNames letX; clear_value letX; revert letX; intro _)
    | with_reducible refine Keeps.ite ?_ ?_
    | with_reducible refine Keeps.iteP ?_ ?_

theorem State.pdosChanged_keeps {org s : State} (keys : List Nat) (h : Keeps org s) :
    Keeps org (State.pdosChanged s keys) := by
  delta State.pdosChanged
  repeat' first
    | with_reducible assumption
    | with_reducible apply State.tpdoRestart_keeps
    | with_reducible apply State.setN_keeps
    | with_reducible apply State.setBlob_keeps
    | (extract_lets +onlyGivenNames letX; have letT : True := (by clear_value letX; guard_hyp letX : State; trivial); clear letT; refine Keeps.cut (r := org) (v := letX) ?_ (fun letH => ?_); (focus subst letX); rotate_left; clear_value letX; revert letX; intro _ _)
    | with_reducible refine Keeps.ite ?_ ?_
    | with_reducible refine Keeps.iteP ?_ ?_
    | with_reducible refine forBelow_keeps ?_ (fun _ _ _ => ?_)

theorem State.channelsChanged_keeps {org s : State} (old : State) (keys : List Nat) (h : Keeps org s) :
    Keeps org (State.channelsChanged old s keys) := by
  delta State.channelsChanged
  repeat' first
    | with_reducible assumption
    | with_reducible apply State.modelsStart_keeps
    | with_reducible apply State.windowMode_keeps
    | with_reducible apply State.setChFlag_keeps
    | with_reducible apply State.pumpUpdate_keeps
    | with_reducible apply State.rsoFollow_keeps
    | (extract_lets +onlyGivenNames letX; have letT : True := (by clear_value letX; guard_hyp letX : State; trivial); clear letT; refine Keeps.cut (r := org) (v := letX) ?_ (fun letH => ?_); (focus subst letX); rotate_left; clear_value letX; revert letX; intro _ _)
    | (extract_lets +onlyGivenNames letX; clear_value letX; revert letX; intro _)
    | with_reducible refine Keeps.ite ?_ ?_
    | with_reducible refine Keeps.iteP ?_ ?_
    | with_reducible refine forEach_keeps ?_ (fun _ _ _ => ?_)
    | with_reducible refine forBelow_keeps ?_ (fun _ _ _ => ?_)

theorem State.settingsChanged_keeps {org s : State} (old : State) (keys : List Nat) (h : Keeps org s) :
    Keeps org (State.settingsChanged old s keys) := by
  delta State.settingsChanged
  repeat' first
    | with_reducible assumption
    | with_reducible apply State.channelsChanged_keeps
    | with_reducible apply State.convWindowMode_keeps
    | with_reducible apply State.ringResize_keeps
    | with_reducible apply State.tgEnable_keeps
    | with_reducible apply State.canChanged_keeps
    | with_reducible apply State.pdosChanged_keeps
    | with_reducible apply State.hkCommitted_keeps
    | with_reducible apply State.twAdopt_keeps
    | with_reducible apply State.senseLevels_keeps
    | with_reducible apply State.dsShow_keeps
    | with_reducible apply State.pcieRetrain_keeps
    | with_reducible apply State.keeperCopies_keeps
    | with_reducible apply State.raise_keeps
    | (extract_lets +onlyGivenNames letX; have letT : True := (by clear_value letX; guard_hyp letX : State; trivial); clear letT; refine Keeps.cut (r := org) (v := letX) ?_ (fun letH => ?_); (focus subst letX); rotate_left; clear_value letX; revert letX; intro _ _)
    | (extract_lets +onlyGivenNames letX; clear_value letX; revert letX; intro _)
    | with_reducible refine Keeps.ite ?_ ?_
    | with_reducible refine Keeps.iteP ?_ ?_
    | with_reducible refine forEach_keeps ?_ (fun _ _ _ => ?_)
    | with_reducible refine forBelow_keeps ?_ (fun _ _ _ => ?_)

theorem State.notKept_keeps {org s : State} (k : Nat) (h : Keeps org s) :
    Keeps org (State.notKept s k) := by
  delta State.notKept
  repeat' first
    | with_reducible assumption
    | with_reducible apply State.setBit_keeps
    | with_reducible apply State.setChFlag_keeps
    | (extract_lets +onlyGivenNames letX; have letT : True := (by clear_value letX; guard_hyp letX : State; trivial); clear letT; refine Keeps.cut (r := org) (v := letX) ?_ (fun letH => ?_); (focus subst letX); rotate_left; clear_value letX; revert letX; intro _ _)
    | with_reducible refine Keeps.iteP ?_ ?_
    | split

theorem State.keepSettings_keeps {org s : State} (n : Nat) (h : Keeps org s) :
    Keeps org (State.keepSettings s n) := by
  delta State.keepSettings
  repeat' first
    | with_reducible assumption
    | with_reducible apply State.setN_keeps
    | with_reducible apply State.setChFlag_keeps
    | (extract_lets +onlyGivenNames letX; have letT : True := (by clear_value letX; guard_hyp letX : State; trivial); clear letT; refine Keeps.cut (r := org) (v := letX) ?_ (fun letH => ?_); (focus subst letX); rotate_left; clear_value letX; revert letX; intro _ _)

theorem State.keepNothing_keeps {org s : State} (n : Nat) (h : Keeps org s) :
    Keeps org (State.keepNothing s n) := by
  delta State.keepNothing
  repeat' first
    | with_reducible assumption
    | with_reducible apply State.setN_keeps
    | with_reducible apply State.setChFlag_keeps

theorem State.lateValues_keeps {org s : State} (vals : List (Nat × Int)) (t accepted : Nat) (told : Bool) (h : Keeps org s) :
    Keeps org (State.lateValues s vals t accepted told) := by
  delta State.lateValues
  repeat' first
    | with_reducible assumption
    | with_reducible refine Keeps.update ?_

theorem State.notHeld_keeps {org s : State} (keys : List Nat) (h : Keeps org s) :
    Keeps org (State.notHeld s keys) := by
  delta State.notHeld
  repeat' first
    | with_reducible assumption
    | with_reducible refine Keeps.update ?_

theorem State.applyValues_keeps {org s : State} (vals : List (Nat × Int)) (t accepted : Nat) (told : Bool) (h : Keeps org s) :
    Keeps org (State.applyValues s vals t accepted told) := by
  delta State.applyValues
  repeat' first
    | with_reducible assumption
    | with_reducible apply State.notHeld_keeps
    | with_reducible apply State.lateValues_keeps
    | with_reducible apply State.settingsChanged_keeps
    | with_reducible apply State.overlay_keeps
    | (extract_lets +onlyGivenNames letX; have letT : True := (by clear_value letX; guard_hyp letX : State; trivial); clear letT; refine Keeps.cut (r := org) (v := letX) ?_ (fun letH => ?_); (focus subst letX); rotate_left; clear_value letX; revert letX; intro _ _)

theorem State.lateArrives_keeps {org s : State} (d due : Nat) (told : Bool) (vals : List (Nat × Int)) (h : Keeps org s) :
    Keeps org (State.lateArrives s d due told vals) := by
  delta State.lateArrives
  repeat' first
    | with_reducible assumption
    | with_reducible apply State.notHeld_keeps
    | with_reducible apply State.settingsChanged_keeps
    | with_reducible apply State.overlay_keeps
    | with_reducible apply State.raise_keeps
    | (extract_lets +onlyGivenNames letX; have letT : True := (by clear_value letX; guard_hyp letX : State; trivial); clear letT; refine Keeps.cut (r := org) (v := letX) ?_ (fun letH => ?_); (focus subst letX); rotate_left; clear_value letX; revert letX; intro _ _)
    | (extract_lets +onlyGivenNames letX; clear_value letX; revert letX; intro _)
    | with_reducible refine Keeps.ite ?_ ?_
    | with_reducible refine Keeps.iteP ?_ ?_

theorem State.takeHeld_keeps {org s : State} (n : Nat) (h : Keeps org s) :
    Keeps org (State.takeHeld s n) := by
  delta State.takeHeld
  repeat' first
    | with_reducible assumption
    | with_reducible apply State.notHeld_keeps
    | with_reducible apply State.settingsChanged_keeps
    | with_reducible apply State.overlay_keeps
    | (extract_lets +onlyGivenNames letX; have letT : True := (by clear_value letX; guard_hyp letX : State; trivial); clear letT; refine Keeps.cut (r := org) (v := letX) ?_ (fun letH => ?_); (focus subst letX); rotate_left; clear_value letX; revert letX; intro _ _)
    | (extract_lets +onlyGivenNames letX; clear_value letX; revert letX; intro _)
    | with_reducible refine Keeps.ite ?_ ?_
    | with_reducible refine Keeps.iteP ?_ ?_

theorem State.landRequest_keeps {org s : State} (t n v : Nat) (h : Keeps org s) :
    Keeps org (State.landRequest s t n v) := by
  delta State.landRequest
  repeat' first
    | with_reducible assumption
    | with_reducible apply State.swapInterrupt_keeps
    | with_reducible apply State.set_keeps
    | with_reducible apply State.trumpLands_keeps
    | with_reducible apply State.setN_keeps
    | with_reducible apply State.actOnRequest_keeps
    | (extract_lets +onlyGivenNames letX; have letT : True := (by clear_value letX; guard_hyp letX : State; trivial); clear letT; refine Keeps.cut (r := org) (v := letX) ?_ (fun letH => ?_); (focus subst letX); rotate_left; clear_value letX; revert letX; intro _ _)
    | with_reducible refine Keeps.ite ?_ ?_
    | with_reducible refine Keeps.iteP ?_ ?_

theorem State.landChannel_keeps {org s : State} (t k : Nat) (v : Int) (h : Keeps org s) :
    Keeps org (State.landChannel s t k v) := by
  delta State.landChannel
  repeat' first
    | with_reducible assumption
    | with_reducible apply State.landRequest_keeps
    | with_reducible apply State.set_keeps
    | (extract_lets +onlyGivenNames letX; clear_value letX; revert letX; intro _)
    | with_reducible refine Keeps.ite ?_ ?_
    | with_reducible refine Keeps.iteP ?_ ?_

theorem State.landPower_keeps {org s : State} (k : Nat) (v : Int) (h : Keeps org s) :
    Keeps org (State.landPower s k v) := by
  delta State.landPower
  repeat' first
    | with_reducible assumption
    | with_reducible apply State.swWrite_keeps
    | with_reducible apply State.chEnable_keeps
    | with_reducible apply State.convEnable_keeps
    | with_reducible apply State.set_keeps
    | (extract_lets +onlyGivenNames letX; clear_value letX; revert letX; intro _)
    | with_reducible refine Keeps.ite ?_ ?_
    | with_reducible refine Keeps.iteP ?_ ?_

theorem State.landCore_keeps {org s : State} (k : Nat) (v : Int) (h : Keeps org s) :
    Keeps org (State.landCore s k v) := by
  delta State.landCore
  repeat' first
    | with_reducible assumption
    | with_reducible apply State.powerMode_keeps
    | with_reducible apply State.setTrim_keeps
    | with_reducible apply State.alarmSet_keeps
    | with_reducible apply State.deviceHold_keeps
    | with_reducible apply State.set_keeps
    | with_reducible apply State.setN_keeps
    | with_reducible refine Keeps.ite ?_ ?_

theorem State.landStream_keeps {org s : State} (k : Nat) (v : Int) (h : Keeps org s) :
    Keeps org (State.landStream s k v) := by
  delta State.landStream
  repeat' first
    | with_reducible assumption
    | with_reducible apply State.dsRun_keeps
    | with_reducible apply State.dsTailLands_keeps
    | with_reducible apply State.set_keeps
    | (extract_lets +onlyGivenNames letX; clear_value letX; revert letX; intro _)
    | with_reducible refine Keeps.ite ?_ ?_
    | with_reducible refine Keeps.iteP ?_ ?_

theorem State.landValue_keeps {org s : State} (t k : Nat) (v : Int) (h : Keeps org s) :
    Keeps org (State.landValue s t k v) := by
  delta State.landValue
  repeat' first
    | with_reducible assumption
    | with_reducible apply State.set_keeps
    | with_reducible apply State.notKept_keeps
    | with_reducible apply State.landChannel_keeps
    | with_reducible apply State.rsoForce_keeps
    | with_reducible apply State.landPower_keeps
    | with_reducible apply State.landStream_keeps
    | with_reducible apply State.landCore_keeps
    | (extract_lets +onlyGivenNames letX; have letT : True := (by clear_value letX; guard_hyp letX : State; trivial); clear letT; refine Keeps.cut (r := org) (v := letX) ?_ (fun letH => ?_); (focus subst letX); rotate_left; clear_value letX; revert letX; intro _ _)
    | (extract_lets +onlyGivenNames letX; clear_value letX; revert letX; intro _)
    | with_reducible refine Keeps.ite ?_ ?_
    | with_reducible refine Keeps.iteP ?_ ?_

theorem State.landChannelAction_keeps {org s : State} (t addr v : Nat) (h : Keeps org s) :
    Keeps org (State.landChannelAction s t addr v) := by
  delta State.landChannelAction
  repeat' first
    | with_reducible assumption
    | with_reducible apply State.trumpLands_keeps
    | with_reducible apply State.takeHeld_keeps
    | with_reducible apply State.releaseStanding_keeps
    | with_reducible apply State.clearLockout_keeps
    | with_reducible apply State.clearCounters_keeps
    | with_reducible apply State.captureArm_keeps
    | (extract_lets +onlyGivenNames letX; clear_value letX; revert letX; intro _)
    | with_reducible refine Keeps.ite ?_ ?_
    | with_reducible refine Keeps.iteP ?_ ?_

theorem State.landPlanAction_keeps {org s : State} (addr v : Nat) (h : Keeps org s) :
    Keeps org (State.landPlanAction s addr v) := by
  delta State.landPlanAction
  repeat' first
    | with_reducible assumption
    | with_reducible apply State.planBegin_keeps
    | with_reducible apply State.planAbort_keeps
    | with_reducible apply State.planResolve_keeps
    | (extract_lets +onlyGivenNames letX; clear_value letX; revert letX; intro _)
    | with_reducible refine Keeps.ite ?_ ?_
    | with_reducible refine Keeps.iteP ?_ ?_
    | split

theorem State.landPowerAction_keeps {org s : State} (addr v : Nat) (h : Keeps org s) :
    Keeps org (State.landPowerAction s addr v) := by
  delta State.landPowerAction
  repeat' first
    | with_reducible assumption
    | with_reducible apply State.shipArm_keeps
    | with_reducible apply State.asStart_keeps
    | with_reducible apply State.asOrdinary_keeps
    | with_reducible apply State.batteryReplaced_keeps
    | with_reducible refine Keeps.ite ?_ ?_

theorem State.landCoreAction_keeps {org s : State} (addr v : Nat) (h : Keeps org s) :
    Keeps org (State.landCoreAction s addr v) := by
  delta State.landCoreAction
  repeat' first
    | with_reducible assumption
    | with_reducible apply State.resetBegin_keeps
    | with_reducible apply State.openingResume_keeps
    | with_reducible apply State.journalAck_keeps
    | with_reducible apply State.parkBegins_keeps
    | with_reducible apply State.wakeClear_keeps
    | with_reducible apply State.twStart_keeps
    | with_reducible apply State.ponCommand_keeps
    | with_reducible apply State.trumpReleased_keeps
    | with_reducible refine Keeps.ite ?_ ?_

theorem State.landAction_keeps {org s : State} (t addr : Nat) (v : Int) (h : Keeps org s) :
    Keeps org (State.landAction s t addr v) := by
  delta State.landAction
  repeat' first
    | with_reducible assumption
    | with_reducible apply State.landCoreAction_keeps
    | with_reducible apply State.landPowerAction_keeps
    | with_reducible apply State.landChannelAction_keeps
    | with_reducible apply State.swapBegin_keeps
    | with_reducible apply State.landPlanAction_keeps
    | (extract_lets +onlyGivenNames letX; clear_value letX; revert letX; intro _)
    | with_reducible refine Keeps.ite ?_ ?_
    | with_reducible refine Keeps.iteP ?_ ?_

theorem State.defaultLands_keeps {org s : State} (k : Nat) (v : Int) (h : Keeps org s) :
    Keeps org (State.defaultLands s k v) := by
  delta State.defaultLands
  repeat' first
    | with_reducible assumption
    | with_reducible apply State.set_keeps
    | with_reducible apply State.actOnRequest_keeps
    | with_reducible apply State.landValue_keeps
    | (extract_lets +onlyGivenNames letX; have letT : True := (by clear_value letX; guard_hyp letX : State; trivial); clear letT; refine Keeps.cut (r := org) (v := letX) ?_ (fun letH => ?_); (focus subst letX); rotate_left; clear_value letX; revert letX; intro _ _)
    | (extract_lets +onlyGivenNames letX; clear_value letX; revert letX; intro _)
    | with_reducible refine Keeps.ite ?_ ?_
    | with_reducible refine Keeps.iteP ?_ ?_

theorem State.handDefaults_keeps {org s : State} (t accepted : Nat) (chans : List Nat) (h : Keeps org s) :
    Keeps org (State.handDefaults s t accepted chans) := by
  delta State.handDefaults
  repeat' first
    | with_reducible assumption
    | with_reducible apply State.defaultLands_keeps
    | with_reducible apply State.setBlob_keeps
    | with_reducible apply State.applyValues_keeps
    | (extract_lets +onlyGivenNames letX; have letT : True := (by clear_value letX; guard_hyp letX : State; trivial); clear letT; refine Keeps.cut (r := org) (v := letX) ?_ (fun letH => ?_); (focus subst letX); rotate_left; clear_value letX; revert letX; intro _ _)
    | (extract_lets +onlyGivenNames letX; clear_value letX; revert letX; intro _)
    | with_reducible refine Keeps.ite ?_ ?_
    | with_reducible refine Keeps.iteP ?_ ?_
    | with_reducible refine forEach_keeps ?_ (fun _ _ _ => ?_)

theorem State.generationsAdvance_keeps {org s : State} (t : Nat) (h : Keeps org s) :
    Keeps org (State.generationsAdvance s t) := by
  delta State.generationsAdvance
  repeat' first
    | with_reducible assumption
    | with_reducible apply State.wrapCount_keeps
    | with_reducible apply State.setN_keeps

theorem State.tenantEnds_keeps {org s : State} (t : Nat) (h : Keeps org s) :
    Keeps org (State.tenantEnds s t) := by
  delta State.tenantEnds
  repeat' first
    | with_reducible assumption
    | with_reducible apply State.dsStop_keeps
    | with_reducible apply State.wdDisarm_keeps
    | with_reducible apply State.sessionEnd_keeps
    | with_reducible apply State.fenceCancel_keeps
    | with_reducible apply State.tenantHold_keeps
    | with_reducible apply State.unstage_keeps
    | with_reducible apply State.setBlob_keeps
    | with_reducible apply State.restore_keeps
    | (extract_lets +onlyGivenNames letX; have letT : True := (by clear_value letX; guard_hyp letX : State; trivial); clear letT; refine Keeps.cut (r := org) (v := letX) ?_ (fun letH => ?_); (focus subst letX); rotate_left; clear_value letX; revert letX; intro _ _)
    | with_reducible refine Keeps.ite ?_ ?_
    | with_reducible refine Keeps.iteP ?_ ?_
    | with_reducible refine forBelow_keeps ?_ (fun _ _ _ => ?_)

theorem State.arbiterResets_keeps {org s : State} (h : Keeps org s) :
    Keeps org (State.arbiterResets s) := by
  delta State.arbiterResets
  repeat' first
    | with_reducible assumption
    | with_reducible apply State.planAbort_keeps
    | with_reducible apply State.restore_keeps
    | with_reducible apply State.setN_keeps
    | (extract_lets +onlyGivenNames letX; have letT : True := (by clear_value letX; guard_hyp letX : State; trivial); clear letT; refine Keeps.cut (r := org) (v := letX) ?_ (fun letH => ?_); (focus subst letX); rotate_left; clear_value letX; revert letX; intro _ _)
    | with_reducible refine Keeps.iteP ?_ ?_
    | with_reducible refine forEach_keeps ?_ (fun _ _ _ => ?_)
    | with_reducible refine forBelow_keeps ?_ (fun _ _ _ => ?_)

theorem State.tenantResets_keeps {org s : State} (t source accepted : Nat) (h : Keeps org s) :
    Keeps org (State.tenantResets s t source accepted) := by
  delta State.tenantResets
  repeat' first
    | with_reducible assumption
    | with_reducible apply State.commitCancel_keeps
    | with_reducible apply State.foldAll_keeps
    | with_reducible apply State.setN_keeps
    | with_reducible apply State.foldHand_keeps
    | with_reducible apply State.arbiterResets_keeps
    | with_reducible apply State.tenantEnds_keeps
    | with_reducible apply State.handDefaults_keeps
    | with_reducible apply State.keepSettings_keeps
    | with_reducible apply State.keepNothing_keeps
    | with_reducible apply State.ringRestart_keeps
    | with_reducible apply State.generationsAdvance_keeps
    | with_reducible apply State.count_keeps
    | with_reducible apply State.recordNow_keeps
    | with_reducible apply State.pdosRestart_keeps
    | with_reducible apply State.nodeBoot_keeps
    | (extract_lets +onlyGivenNames letX; have letT : True := (by clear_value letX; guard_hyp letX : State; trivial); clear letT; refine Keeps.cut (r := org) (v := letX) ?_ (fun letH => ?_); (focus subst letX); rotate_left; clear_value letX; revert letX; intro _ _)
    | (extract_lets +onlyGivenNames letX; clear_value letX; revert letX; intro _)
    | with_reducible refine Keeps.ite ?_ ?_
    | with_reducible refine Keeps.iteP ?_ ?_
    | with_reducible refine forEach_keeps ?_ (fun _ _ _ => ?_)

theorem State.withdrawalResets_keeps {org s : State} (u accepted : Nat) (h : Keeps org s) :
    Keeps org (State.withdrawalResets s u accepted) := by
  delta State.withdrawalResets
  repeat' first
    | with_reducible assumption
    | with_reducible apply State.barrierDrop_keeps
    | with_reducible apply State.usdoAbort_keeps
    | with_reducible apply State.tenantResets_keeps
    | (extract_lets +onlyGivenNames letX; have letT : True := (by clear_value letX; guard_hyp letX : State; trivial); clear letT; refine Keeps.cut (r := org) (v := letX) ?_ (fun letH => ?_); (focus subst letX); rotate_left; clear_value letX; revert letX; intro _ _)
    | (extract_lets +onlyGivenNames letX; clear_value letX; revert letX; intro _)
    | with_reducible refine Keeps.ite ?_ ?_
    | with_reducible refine Keeps.iteP ?_ ?_
    | split
    | with_reducible refine Keeps.update ?_

theorem State.commitApplies_keeps {org s : State} (t accepted : Nat) (vals : List (Nat × Int)) (h : Keeps org s) :
    Keeps org (State.commitApplies s t accepted vals) := by
  delta State.commitApplies
  repeat' first
    | with_reducible assumption
    | with_reducible apply State.generationsAdvance_keeps
    | with_reducible apply State.setN_keeps
    | with_reducible apply State.unstage_keeps
    | with_reducible apply State.notKept_keeps
    | with_reducible apply State.applyValues_keeps
    | with_reducible apply State.raiseServer_keeps
    | with_reducible apply State.withdrawalResets_keeps
    | with_reducible apply State.dealApplies_keeps
    | (extract_lets +onlyGivenNames letX; have letT : True := (by clear_value letX; guard_hyp letX : State; trivial); clear letT; refine Keeps.cut (r := org) (v := letX) ?_ (fun letH => ?_); (focus subst letX); rotate_left; clear_value letX; revert letX; intro _ _)
    | (extract_lets +onlyGivenNames letX; clear_value letX; revert letX; intro _)
    | with_reducible refine Keeps.ite ?_ ?_
    | with_reducible refine Keeps.iteP ?_ ?_
    | with_reducible refine forEach_keeps ?_ (fun _ _ _ => ?_)

theorem State.actService_keeps {org s : State} (t addr : Nat) (v : Int) (b : List Byte) (h : Keeps org s) :
    Keeps org (State.actService s t addr v b) := by
  delta State.actService
  repeat' first
    | with_reducible assumption
    | with_reducible apply State.wdArm_keeps
    | with_reducible apply State.wdAdjourn_keeps
    | with_reducible apply State.setClock_keeps
    | with_reducible apply State.attest_keeps
    | with_reducible apply State.sessionOpen_keeps
    | with_reducible apply State.sessionEnd_keeps
    | (extract_lets +onlyGivenNames letX; clear_value letX; revert letX; intro _)
    | with_reducible refine Keeps.ite ?_ ?_
    | with_reducible refine Keeps.iteP ?_ ?_

theorem State.actNow_keeps {org s : State} (t addr : Nat) (v : Int) (b : List Byte) (h : Keeps org s) :
    Keeps org (State.actNow s t addr v b) := by
  delta State.actNow
  repeat' first
    | with_reducible assumption
    | with_reducible apply State.tenantResetAccept_keeps
    | with_reducible apply State.commitWrite_keeps
    | with_reducible apply State.discard_keeps
    | with_reducible apply State.barrierWrite_keeps
    | with_reducible apply State.fenceWrite_keeps
    | with_reducible apply State.hkWritten_keeps
    | with_reducible apply State.tenantHold_keeps
    | with_reducible apply State.tgArm_keeps
    | with_reducible apply State.flushRing_keeps
    | with_reducible apply State.setN_keeps
    | with_reducible apply State.actService_keeps
    | (extract_lets +onlyGivenNames letX; clear_value letX; revert letX; intro _)
    | with_reducible refine Keeps.ite ?_ ?_
    | with_reducible refine Keeps.iteP ?_ ?_

theorem State.landOne_keeps {org s : State} (l : Landing) (h : Keeps org s) :
    Keeps org (State.landOne s l) := by
  delta State.landOne
  repeat' first
    | with_reducible assumption
    | with_reducible apply State.landValue_keeps
    | with_reducible apply State.setBlob_keeps
    | with_reducible apply State.landAction_keeps
    | with_reducible apply State.actNow_keeps
    | with_reducible apply State.commitApplies_keeps
    | with_reducible apply State.lateArrives_keeps
    | with_reducible apply State.tenantResets_keeps
    | with_reducible apply State.foldHand_keeps
    | with_reducible apply State.unitStop_keeps
    | with_reducible apply State.unitStopLands_keeps
    | split

theorem State.landAll_keeps {org s : State} (h : Keeps org s) :
    Keeps org (State.landAll s) := by
  delta State.landAll
  repeat' first
    | with_reducible assumption
    | with_reducible apply State.landOne_keeps
    | (extract_lets +onlyGivenNames letX; have letT : True := (by clear_value letX; guard_hyp letX : State; trivial); clear letT; refine Keeps.cut (r := org) (v := letX) ?_ (fun letH => ?_); (focus subst letX); rotate_left; clear_value letX; revert letX; intro _ _)
    | with_reducible refine Keeps.ite ?_ ?_
    | with_reducible refine Keeps.iteP ?_ ?_
    | with_reducible refine forEach_keeps ?_ (fun _ _ _ => ?_)
    | with_reducible refine Keeps.update ?_

end Sys2Proof.Machine
end

