-- ==== Sys2Proof/Laws/KeepsF.lean ====
section
/-!
SUPPORT. The laws of Digest, Measure, Frame, Access, Ports, HostRows, PortRows: each definition that answers a state keeps what Keeps says.
-/
namespace Sys2Proof.Machine

theorem State.sweepStart_keeps {org s : State} (h : Keeps org s) :
    Keeps org (State.sweepStart s) := by
  delta State.sweepStart
  repeat' first
    | with_reducible assumption
    | with_reducible apply State.setN_keeps
    | (extract_lets +onlyGivenNames letX; have letT : True := (by clear_value letX; guard_hyp letX : State; trivial); clear letT; refine Keeps.cut (r := org) (v := letX) ?_ (fun letH => ?_); (focus subst letX); rotate_left; clear_value letX; revert letX; intro _ _)
    | (extract_lets +onlyGivenNames letX; clear_value letX; revert letX; intro _)
    | with_reducible refine Keeps.ite ?_ ?_
    | with_reducible refine Keeps.iteP ?_ ?_
    | with_reducible refine forBelow_keeps ?_ (fun _ _ _ => ?_)

theorem State.diePublish_keeps {org s : State} (d applied expected : Nat) (kind : Kind) (h : Keeps org s) :
    Keeps org (State.diePublish s d applied expected kind) := by
  delta State.diePublish
  repeat' first
    | with_reducible assumption
    | with_reducible apply State.setN_keeps
    | with_reducible apply State.raise_keeps
    | (extract_lets +onlyGivenNames letX; have letT : True := (by clear_value letX; guard_hyp letX : State; trivial); clear letT; refine Keeps.cut (r := org) (v := letX) ?_ (fun letH => ?_); (focus subst letX); rotate_left; clear_value letX; revert letX; intro _ _)
    | with_reducible refine Keeps.ite ?_ ?_
    | with_reducible refine Keeps.iteP ?_ ?_

theorem State.sweepEnd_keeps {org s : State} (upsets : List Nat) (h : Keeps org s) :
    Keeps org (State.sweepEnd s upsets) := by
  delta State.sweepEnd
  repeat' first
    | with_reducible assumption
    | with_reducible apply State.setN_keeps
    | with_reducible apply State.wrapCount_keeps
    | with_reducible apply State.diePublish_keeps
    | with_reducible apply State.count_keeps
    | (extract_lets +onlyGivenNames letX; have letT : True := (by clear_value letX; guard_hyp letX : State; trivial); clear letT; refine Keeps.cut (r := org) (v := letX) ?_ (fun letH => ?_); (focus subst letX); rotate_left; clear_value letX; revert letX; intro _ _)
    | (extract_lets +onlyGivenNames letX; clear_value letX; revert letX; intro _)
    | with_reducible refine Keeps.ite ?_ ?_
    | with_reducible refine Keeps.iteP ?_ ?_
    | with_reducible refine forBelow_keeps ?_ (fun _ _ _ => ?_)

theorem State.dieRecheck_keeps {org s : State} (d upset : Nat) (h : Keeps org s) :
    Keeps org (State.dieRecheck s d upset) := by
  delta State.dieRecheck
  repeat' first
    | with_reducible assumption
    | with_reducible apply State.setN_keeps
    | with_reducible apply State.diePublish_keeps
    | with_reducible refine Keeps.ite ?_ ?_

theorem execAuditSweepStart_runs {org s : State} (h : Keeps org s) :
    Runs org (execAuditSweepStart s) := by
  delta execAuditSweepStart
  repeat' first
    | with_reducible assumption
    | with_reducible refine Runs.next ?_
    | with_reducible apply State.sweepStart_keeps
    | with_reducible refine Runs.ite ?_ ?_

theorem execAuditSweepEnd_runs {org s : State} (upsets : List Nat) (h : Keeps org s) :
    Runs org (execAuditSweepEnd upsets s) := by
  delta execAuditSweepEnd
  repeat' first
    | with_reducible assumption
    | with_reducible refine Runs.next ?_
    | with_reducible apply State.sweepEnd_keeps
    | with_reducible refine Runs.ite ?_ ?_

theorem execDieRecheck_runs {org s : State} (d : Die) (upset : Nat) (h : Keeps org s) :
    Runs org (execDieRecheck d upset s) := by
  delta execDieRecheck
  repeat' first
    | with_reducible assumption
    | with_reducible refine Runs.next ?_
    | with_reducible apply State.dieRecheck_keeps
    | with_reducible refine Runs.ite ?_ ?_

theorem State.overrange_keeps {org s : State} (n : Nat) (i : Int) (h : Keeps org s) :
    Keeps org (State.overrange s n i) := by
  delta State.overrange
  repeat' first
    | with_reducible assumption
    | with_reducible apply State.setN_keeps
    | with_reducible apply State.raiseChannel_keeps
    | (extract_lets +onlyGivenNames letX; have letT : True := (by clear_value letX; guard_hyp letX : State; trivial); clear letT; refine Keeps.cut (r := org) (v := letX) ?_ (fun letH => ?_); (focus subst letX); rotate_left; clear_value letX; revert letX; intro _ _)
    | with_reducible refine Keeps.ite ?_ ?_
    | with_reducible refine Keeps.iteP ?_ ?_

theorem State.pwmSample_keeps {org s : State} (n : Nat) (i : Int) (h : Keeps org s) :
    Keeps org (State.pwmSample s n i) := by
  delta State.pwmSample
  repeat' first
    | with_reducible assumption
    | with_reducible apply State.setN_keeps
    | with_reducible refine Keeps.ite ?_ ?_

theorem State.sampleChannel_keeps {org s : State} (n r : Nat) (vsh vload : Int) (h : Keeps org s) :
    Keeps org (State.sampleChannel s n r vsh vload) := by
  delta State.sampleChannel
  repeat' first
    | with_reducible assumption
    | with_reducible apply State.set_keeps
    | with_reducible apply State.setBit_keeps
    | with_reducible apply State.overrange_keeps
    | with_reducible apply State.pwmSample_keeps
    | with_reducible apply State.judgeRound_keeps
    | (extract_lets +onlyGivenNames letX; have letT : True := (by clear_value letX; guard_hyp letX : State; trivial); clear letT; refine Keeps.cut (r := org) (v := letX) ?_ (fun letH => ?_); (focus subst letX); rotate_left; clear_value letX; revert letX; intro _ _)
    | (extract_lets +onlyGivenNames letX; clear_value letX; revert letX; intro _)
    | with_reducible refine Keeps.ite ?_ ?_
    | with_reducible refine Keeps.iteP ?_ ?_

theorem State.captureRound_keeps {org s : State} (k r : Nat) (vsh vload : List Int) (vbus : Int) (h : Keeps org s) :
    Keeps org (State.captureRound s k r vsh vload vbus) := by
  delta State.captureRound
  repeat' first
    | with_reducible assumption
    | with_reducible apply State.capturePush_keeps
    | (extract_lets +onlyGivenNames letX; clear_value letX; revert letX; intro _)
    | with_reducible refine Keeps.iteP ?_ ?_
    | with_reducible refine forBelow_keeps ?_ (fun _ _ _ => ?_)
    | split

theorem State.sagTest_keeps {org s : State} (k : Nat) (vbus : Int) (h : Keeps org s) :
    Keeps org (State.sagTest s k vbus) := by
  delta State.sagTest
  repeat' first
    | with_reducible assumption
    | with_reducible apply State.setBit_keeps
    | with_reducible apply State.bankPauses_keeps
    | with_reducible apply State.raiseDie_keeps
    | (extract_lets +onlyGivenNames letX; have letT : True := (by clear_value letX; guard_hyp letX : State; trivial); clear letT; refine Keeps.cut (r := org) (v := letX) ?_ (fun letH => ?_); (focus subst letX); rotate_left; clear_value letX; revert letX; intro _ _)
    | (extract_lets +onlyGivenNames letX; clear_value letX; revert letX; intro _)
    | with_reducible refine Keeps.ite ?_ ?_
    | with_reducible refine Keeps.iteP ?_ ?_

theorem State.sampleBus_keeps {org s : State} (k : Nat) (vbus headroom : Int) (h : Keeps org s) :
    Keeps org (State.sampleBus s k vbus headroom) := by
  delta State.sampleBus
  repeat' first
    | with_reducible assumption
    | with_reducible apply State.set_keeps
    | with_reducible apply State.pumpUpdate_keeps
    | with_reducible apply State.setN_keeps
    | with_reducible apply State.sagTest_keeps
    | (extract_lets +onlyGivenNames letX; have letT : True := (by clear_value letX; guard_hyp letX : State; trivial); clear letT; refine Keeps.cut (r := org) (v := letX) ?_ (fun letH => ?_); (focus subst letX); rotate_left; clear_value letX; revert letX; intro _ _)

theorem State.sampleSwitch_keeps {org s : State} (bswb bswn asv : Int) (h : Keeps org s) :
    Keeps org (State.sampleSwitch s bswb bswn asv) := by
  delta State.sampleSwitch
  repeat' first
    | with_reducible assumption
    | with_reducible apply State.set_keeps
    | with_reducible apply State.setN_keeps
    | with_reducible apply State.swRound_keeps
    | (extract_lets +onlyGivenNames letX; clear_value letX; revert letX; intro _)

theorem State.round_keeps {org s : State} (k : Nat) (vsh vload : List Int) (vbus headroom bswb bswn asv : Int) (h : Keeps org s) :
    Keeps org (State.round s k vsh vload vbus headroom bswb bswn asv) := by
  delta State.round
  repeat' first
    | with_reducible assumption
    | with_reducible apply State.sampleChannel_keeps
    | with_reducible apply State.sampleBus_keeps
    | with_reducible apply State.captureRound_keeps
    | with_reducible apply State.sampleSwitch_keeps
    | with_reducible apply State.setN_keeps
    | (extract_lets +onlyGivenNames letX; have letT : True := (by clear_value letX; guard_hyp letX : State; trivial); clear letT; refine Keeps.cut (r := org) (v := letX) ?_ (fun letH => ?_); (focus subst letX); rotate_left; clear_value letX; revert letX; intro _ _)
    | (extract_lets +onlyGivenNames letX; clear_value letX; revert letX; intro _)
    | with_reducible refine Keeps.ite ?_ ?_
    | with_reducible refine Keeps.iteP ?_ ?_
    | with_reducible refine forBelow_keeps ?_ (fun _ _ _ => ?_)

theorem execMeasurementRound_runs {org s : State} (k : Bank) (vsh vload : List Int) (vbus headroom bswb bswn asv : Int) (h : Keeps org s) :
    Runs org (execMeasurementRound k vsh vload vbus headroom bswb bswn asv s) := by
  delta execMeasurementRound
  repeat' first
    | with_reducible assumption
    | with_reducible refine Runs.next ?_
    | with_reducible apply State.round_keeps
    | with_reducible refine Runs.ite ?_ ?_

theorem State.frameSums_keeps {org s : State} (n : Nat) (h : Keeps org s) :
    Keeps org (State.frameSums s n) := by
  delta State.frameSums
  repeat' first
    | with_reducible assumption
    | with_reducible apply State.set_keeps
    | with_reducible apply State.setN_keeps
    | (extract_lets +onlyGivenNames letX; have letT : True := (by clear_value letX; guard_hyp letX : State; trivial); clear letT; refine Keeps.cut (r := org) (v := letX) ?_ (fun letH => ?_); (focus subst letX); rotate_left; clear_value letX; revert letX; intro _ _)

theorem State.putSummary_keeps {org s : State} (n : Nat) (l : List Int) (h : Keeps org s) :
    Keeps org (State.putSummary s n l) := by
  delta State.putSummary
  repeat' first
    | with_reducible assumption
    | with_reducible apply State.set_keeps
    | with_reducible refine forBelow_keeps ?_ (fun _ _ _ => ?_)

theorem State.channelFrameEnds_keeps {org s : State} (n : Nat) (h : Keeps org s) :
    Keeps org (State.channelFrameEnds s n) := by
  delta State.channelFrameEnds
  repeat' first
    | with_reducible assumption
    | with_reducible apply State.frameSums_keeps
    | with_reducible apply State.putSummary_keeps
    | with_reducible apply State.setN_keeps
    | (extract_lets +onlyGivenNames letX; have letT : True := (by clear_value letX; guard_hyp letX : State; trivial); clear letT; refine Keeps.cut (r := org) (v := letX) ?_ (fun letH => ?_); (focus subst letX); rotate_left; clear_value letX; revert letX; intro _ _)
    | with_reducible refine Keeps.ite ?_ ?_
    | with_reducible refine Keeps.iteP ?_ ?_

theorem State.bankFrameBegins_keeps {org s : State} (k : Nat) (h : Keeps org s) :
    Keeps org (State.bankFrameBegins s k) := by
  delta State.bankFrameBegins
  repeat' first
    | with_reducible assumption
    | with_reducible apply State.setN_keeps
    | (extract_lets +onlyGivenNames letX; have letT : True := (by clear_value letX; guard_hyp letX : State; trivial); clear letT; refine Keeps.cut (r := org) (v := letX) ?_ (fun letH => ?_); (focus subst letX); rotate_left; clear_value letX; revert letX; intro _ _)
    | (extract_lets +onlyGivenNames letX; clear_value letX; revert letX; intro _)
    | with_reducible refine Keeps.ite ?_ ?_
    | with_reducible refine Keeps.iteP ?_ ?_
    | with_reducible refine forBelow_keeps ?_ (fun _ _ _ => ?_)

theorem State.bankFrameEnds_keeps {org s : State} (k : Nat) (h : Keeps org s) :
    Keeps org (State.bankFrameEnds s k) := by
  delta State.bankFrameEnds
  repeat' first
    | with_reducible assumption
    | with_reducible apply State.putSummary_keeps
    | (extract_lets +onlyGivenNames letX; have letT : True := (by clear_value letX; guard_hyp letX : State; trivial); clear letT; refine Keeps.cut (r := org) (v := letX) ?_ (fun letH => ?_); (focus subst letX); rotate_left; clear_value letX; revert letX; intro _ _)
    | (extract_lets +onlyGivenNames letX; clear_value letX; revert letX; intro _)
    | with_reducible refine Keeps.ite ?_ ?_
    | with_reducible refine Keeps.iteP ?_ ?_

theorem State.dieFrameEnds_keeps {org s : State} (d : Nat) (h : Keeps org s) :
    Keeps org (State.dieFrameEnds s d) := by
  delta State.dieFrameEnds
  repeat' first
    | with_reducible assumption
    | with_reducible apply State.bankFrameEnds_keeps
    | with_reducible apply State.modelUpdate_keeps
    | with_reducible apply State.channelFrameEnds_keeps
    | with_reducible apply State.bankFrameBegins_keeps
    | (extract_lets +onlyGivenNames letX; have letT : True := (by clear_value letX; guard_hyp letX : State; trivial); clear letT; refine Keeps.cut (r := org) (v := letX) ?_ (fun letH => ?_); (focus subst letX); rotate_left; clear_value letX; revert letX; intro _ _)
    | with_reducible refine Keeps.ite ?_ ?_
    | with_reducible refine Keeps.iteP ?_ ?_
    | with_reducible refine forEach_keeps ?_ (fun _ _ _ => ?_)
    | with_reducible refine forBelow_keeps ?_ (fun _ _ _ => ?_)

theorem State.takePeak_keeps {org s : State} (k : Nat) (v : Int) (h : Keeps org s) :
    Keeps org (State.takePeak s k v) := by
  delta State.takePeak
  repeat' first
    | with_reducible assumption
    | with_reducible apply State.set_keeps
    | with_reducible refine Keeps.ite ?_ ?_

theorem State.lampFrame_keeps {org s : State} (n : Nat) (h : Keeps org s) :
    Keeps org (State.lampFrame s n) := by
  delta State.lampFrame
  repeat' first
    | with_reducible assumption
    | with_reducible apply State.count_keeps
    | with_reducible apply State.setN_keeps
    | (extract_lets +onlyGivenNames letX; clear_value letX; revert letX; intro _)
    | with_reducible refine Keeps.ite ?_ ?_
    | with_reducible refine Keeps.iteP ?_ ?_

theorem State.dischargeSeen_keeps {org s : State} (n : Nat) (h : Keeps org s) :
    Keeps org (State.dischargeSeen s n) := by
  delta State.dischargeSeen
  repeat' first
    | with_reducible assumption
    | with_reducible apply State.setBit_keeps
    | with_reducible apply State.setN_keeps
    | with_reducible refine Keeps.ite ?_ ?_

theorem State.publish_keeps {org s : State} (n : Nat) (h : Keeps org s) :
    Keeps org (State.publish s n) := by
  delta State.publish
  repeat' first
    | with_reducible assumption
    | with_reducible apply State.set_keeps
    | with_reducible apply State.setChFlag_keeps
    | with_reducible apply State.takePeak_keeps
    | with_reducible apply State.setN_keeps
    | with_reducible apply State.lampFrame_keeps
    | with_reducible apply State.dischargeSeen_keeps
    | (extract_lets +onlyGivenNames letX; have letT : True := (by clear_value letX; guard_hyp letX : State; trivial); clear letT; refine Keeps.cut (r := org) (v := letX) ?_ (fun letH => ?_); (focus subst letX); rotate_left; clear_value letX; revert letX; intro _ _)
    | (extract_lets +onlyGivenNames letX; clear_value letX; revert letX; intro _)
    | with_reducible refine Keeps.ite ?_ ?_
    | with_reducible refine Keeps.iteP ?_ ?_
    | with_reducible refine forBelow_keeps ?_ (fun _ _ _ => ?_)

theorem State.publishBank_keeps {org s : State} (k : Nat) (h : Keeps org s) :
    Keeps org (State.publishBank s k) := by
  delta State.publishBank
  repeat' first
    | with_reducible assumption
    | with_reducible apply State.set_keeps
    | with_reducible apply State.setN_keeps
    | (extract_lets +onlyGivenNames letX; have letT : True := (by clear_value letX; guard_hyp letX : State; trivial); clear letT; refine Keeps.cut (r := org) (v := letX) ?_ (fun letH => ?_); (focus subst letX); rotate_left; clear_value letX; revert letX; intro _ _)
    | (extract_lets +onlyGivenNames letX; clear_value letX; revert letX; intro _)
    | with_reducible refine Keeps.ite ?_ ?_
    | with_reducible refine Keeps.iteP ?_ ?_

theorem State.publishSwitch_keeps {org s : State} (h : Keeps org s) :
    Keeps org (State.publishSwitch s) := by
  delta State.publishSwitch
  repeat' first
    | with_reducible assumption
    | with_reducible apply State.set_keeps
    | with_reducible apply State.setN_keeps
    | with_reducible apply State.battVoltExtremes_keeps
    | (extract_lets +onlyGivenNames letX; have letT : True := (by clear_value letX; guard_hyp letX : State; trivial); clear letT; refine Keeps.cut (r := org) (v := letX) ?_ (fun letH => ?_); (focus subst letX); rotate_left; clear_value letX; revert letX; intro _ _)
    | (extract_lets +onlyGivenNames letX; clear_value letX; revert letX; intro _)
    | with_reducible refine Keeps.ite ?_ ?_
    | with_reducible refine Keeps.iteP ?_ ?_

theorem State.publishAll_keeps {org s : State} (h : Keeps org s) :
    Keeps org (State.publishAll s) := by
  delta State.publishAll
  repeat' first
    | with_reducible assumption
    | with_reducible apply State.publishBank_keeps
    | with_reducible apply State.publish_keeps
    | with_reducible apply State.publishSwitch_keeps
    | with_reducible refine forBelow_keeps ?_ (fun _ _ _ => ?_)

theorem State.nextFrame_keeps {org s : State} (h : Keeps org s) : Keeps org (State.nextFrame s) :=
  State.setN_keeps _ _ (Keeps.frameNext (forBelow_keeps (Keeps.update h) fun d _ hx => State.dieFrameEnds_keeps d hx))

theorem State.channelsBegin_keeps {org s : State} (h : Keeps org s) :
    Keeps org (State.channelsBegin s) := by
  delta State.channelsBegin
  repeat' first
    | with_reducible assumption
    | with_reducible apply State.foldSettle_keeps
    | with_reducible apply State.gateSettles_keeps
    | with_reducible apply State.unitShadows_keeps
    | with_reducible apply State.takeShuntTemp_keeps
    | with_reducible apply State.takeRefs_keeps
    | with_reducible apply State.admittedStarts_keeps
    | with_reducible apply State.safeOnNext_keeps
    | with_reducible apply State.pairBoundary_keeps
    | (extract_lets +onlyGivenNames letX; have letT : True := (by clear_value letX; guard_hyp letX : State; trivial); clear letT; refine Keeps.cut (r := org) (v := letX) ?_ (fun letH => ?_); (focus subst letX); rotate_left; clear_value letX; revert letX; intro _ _)
    | with_reducible refine Keeps.ite ?_ ?_
    | with_reducible refine Keeps.iteP ?_ ?_
    | with_reducible refine forBelow_keeps ?_ (fun _ _ _ => ?_)

theorem State.services_keeps {org s : State} (h : Keeps org s) :
    Keeps org (State.services s) := by
  delta State.services
  repeat' first
    | with_reducible assumption
    | with_reducible apply State.admissionRun_keeps
    | with_reducible apply State.planEvaluate_keeps
    | with_reducible apply State.profileBoundary_keeps
    | with_reducible apply State.tpdoBoundary_keeps
    | with_reducible apply State.wdxServe_keeps
    | with_reducible apply State.endgameBoundary_keeps
    | (extract_lets +onlyGivenNames letX; have letT : True := (by clear_value letX; guard_hyp letX : State; trivial); clear letT; refine Keeps.cut (r := org) (v := letX) ?_ (fun letH => ?_); (focus subst letX); rotate_left; clear_value letX; revert letX; intro _ _)
    | with_reducible refine Keeps.ite ?_ ?_
    | with_reducible refine Keeps.iteP ?_ ?_
    | with_reducible refine forBelow_keeps ?_ (fun _ _ _ => ?_)

theorem State.controlBoundary_keeps {org s : State} (h : Keeps org s) :
    Keeps org (State.controlBoundary s) := by
  delta State.controlBoundary
  repeat' first
    | with_reducible assumption
    | with_reducible apply State.overridesEnd_keeps
    | with_reducible apply State.landAll_keeps
    | with_reducible apply State.asBoundary_keeps
    | with_reducible apply State.estBoundary_keeps
    | with_reducible apply State.services_keeps
    | with_reducible apply State.setN_keeps
    | with_reducible apply State.startsBegin_keeps
    | with_reducible apply State.publishAll_keeps
    | with_reducible apply State.channelsBegin_keeps
    | with_reducible apply State.convertersBoundary_keeps
    | with_reducible apply State.chBoundary_keeps
    | (extract_lets +onlyGivenNames letX; have letT : True := (by clear_value letX; guard_hyp letX : State; trivial); clear letT; refine Keeps.cut (r := org) (v := letX) ?_ (fun letH => ?_); (focus subst letX); rotate_left; clear_value letX; revert letX; intro _ _)

theorem State.frameBoundary_keeps {org s : State} (h : Keeps org s) :
    Keeps org (State.frameBoundary s) := by
  delta State.frameBoundary
  repeat' first
    | with_reducible assumption
    | with_reducible apply State.nextFrame_keeps
    | with_reducible apply State.controlBoundary_keeps
    | with_reducible apply State.channelWakes_keeps
    | with_reducible apply State.channelsBegin_keeps
    | (extract_lets +onlyGivenNames letX; have letT : True := (by clear_value letX; guard_hyp letX : State; trivial); clear letT; refine Keeps.cut (r := org) (v := letX) ?_ (fun letH => ?_); (focus subst letX); rotate_left; clear_value letX; revert letX; intro _ _)
    | (extract_lets +onlyGivenNames letX; clear_value letX; revert letX; intro _)
    | with_reducible refine Keeps.ite ?_ ?_
    | with_reducible refine Keeps.iteP ?_ ?_

theorem execFrameBoundary_runs {org s : State} (h : Keeps org s) :
    Runs org (execFrameBoundary s) := by
  delta execFrameBoundary
  repeat' first
    | with_reducible assumption
    | with_reducible refine Runs.next ?_
    | with_reducible apply State.frameBoundary_keeps
    | with_reducible refine Runs.ite ?_ ?_

theorem State.accessFails_keeps {org s : State} (t addr : Nat) (a : Abort) (h : Keeps org s) :
    Keeps org (State.accessFails s t addr a) := by
  delta State.accessFails
  repeat' first
    | with_reducible assumption
    | with_reducible apply State.wrapCount_keeps
    | with_reducible apply State.setN_keeps

theorem State.writeLevelView_keeps {org s : State} (t n sub : Nat) (v : Int) (h : Keeps org s) :
    Keeps org (State.writeLevelView s t n sub v).2 := by
  delta State.writeLevelView
  extract_lets c cur base
  split
  · exact h
  · exact h
  · split
    · exact h
    · extract_lets full
      have hf : Keeps org full.2 := foldl_keeps h fun a b ha => State.stage_keeps _ _ _ ha
      clear_value full
      split
      · exact h
      · exact hf

theorem State.writeStaged_keeps {org s : State} (t addr : Nat) (v : Int) (h : Keeps org s) :
    Keeps org (State.writeStaged s t addr v).2 := by
  delta State.writeStaged
  repeat' first
    | with_reducible assumption
    | with_reducible apply State.writeLevelView_keeps
    | with_reducible apply State.stage_keeps
    | (extract_lets +onlyGivenNames letX; clear_value letX; revert letX; intro _)
    | with_reducible refine Keeps.iteP ?_ ?_
    | with_reducible refine Keeps.ite ?_ ?_

theorem State.writeImmediate_keeps {org s : State} (t addr : Nat) (r : Sub) (v : Int) (b : List Byte) (h : Keeps org s) :
    Keeps org (State.writeImmediate s t addr r v b) := by
  delta State.writeImmediate
  repeat' first
    | with_reducible assumption
    | with_reducible apply State.setBlob_keeps
    | with_reducible apply State.accept_keeps
    | with_reducible apply State.set_keeps
    | with_reducible refine Keeps.ite ?_ ?_

theorem State.writeAnswer_keeps {org s : State} (t token : Nat) (h : Keeps org s) :
    Keeps org (State.writeAnswer s t token).2 := by
  delta State.writeAnswer
  repeat' first
    | with_reducible assumption
    | with_reducible apply State.wdAnswer_keeps
    | with_reducible refine Keeps.iteP ?_ ?_
    | with_reducible refine Keeps.ite ?_ ?_

theorem State.writeResume_keeps {org s : State} (t : Nat) (v : Int) (h : Keeps org s) :
    Keeps org (State.writeResume s t v) := by
  delta State.writeResume
  repeat' first
    | with_reducible assumption
    | with_reducible apply State.takeFreeIn_keeps
    | with_reducible apply State.accept_keeps
    | (extract_lets +onlyGivenNames letX; have letT : True := (by clear_value letX; revert letX; with_reducible exact Keeps.isPair); clear letT; refine Keeps.cut (r := org) (v := letX.2) ?_ (fun letH => ?_); (focus subst letX); rotate_left; clear_value letX; revert letX; intro _ _)

theorem State.writeAction_keeps {org s : State} (t addr : Nat) (v : Int) (b : List Byte) (h : Keeps org s) :
    Keeps org (State.writeAction s t addr v b).2 := by
  delta State.writeAction
  repeat' first
    | with_reducible assumption
    | with_reducible apply State.writeResume_keeps
    | with_reducible apply State.accept_keeps
    | with_reducible apply State.writeAnswer_keeps
    | with_reducible apply State.actNow_keeps
    | with_reducible refine Keeps.iteP ?_ ?_
    | with_reducible refine Keeps.ite ?_ ?_

theorem State.writeChecked_keeps {org s : State} (t addr : Nat) (r : Sub) (b : List Byte) (h : Keeps org s) :
    Keeps org (State.writeChecked s t addr r b).2 := by
  delta State.writeChecked
  repeat' first
    | with_reducible assumption
    | with_reducible apply State.writeAction_keeps
    | with_reducible apply State.writeStaged_keeps
    | with_reducible apply State.writeImmediate_keeps
    | (extract_lets +onlyGivenNames letX; clear_value letX; revert letX; intro _)
    | with_reducible refine Keeps.iteP ?_ ?_
    | with_reducible refine Keeps.ite ?_ ?_
    | split

theorem State.envelopeOpen_keeps {org s : State} (t : Nat) (b : List Byte) (sized : Bool) (h : Keeps org s) :
    Keeps org (State.envelopeOpen s t b sized).2 := by
  delta State.envelopeOpen
  repeat' first
    | with_reducible assumption
    | with_reducible apply State.envelopeFails_keeps
    | with_reducible apply State.envelopePasses_keeps
    | with_reducible refine Keeps.iteP ?_ ?_
    | split

theorem State.readAs_okP {org s : State} {t : Option Nat} {via : Via} {addr : Nat} {p : List Byte × State}
    (h : Keeps org s) (e : s.readAs t via addr = .ok p) : Keeps org p.2 := by
  delta State.readAs at e
  split at e
  · cases e
  · cases e
    exact State.afterRead_keeps _ _ h

theorem State.readAs_ok {org s s' : State} {t : Option Nat} {via : Via} {addr : Nat} {b : List Byte}
    (h : Keeps org s) (e : s.readAs t via addr = .ok (b, s')) : Keeps org s' := State.readAs_okP h e

theorem State.readEnvelope_keeps {org s : State} (t : Nat) (b : List Byte) (h : Keeps org s) :
    Keeps org (State.readEnvelope s t b).2 := by
  delta State.readEnvelope
  repeat' first
    | with_reducible assumption
    | with_reducible apply State.envelopeOpen_keeps
    | with_reducible apply State.accessFails_keeps
    | with_reducible apply State.readReply_keeps
    | with_reducible apply State.counterSpent_keeps
    | (extract_lets +onlyGivenNames letX; have letT : True := (by clear_value letX; guard_hyp letX : State; trivial); clear letT; refine Keeps.cut (r := org) (v := letX) ?_ (fun letH => ?_); (focus subst letX); rotate_left; clear_value letX; revert letX; intro _ _)
    | (extract_lets +onlyGivenNames letX; clear_value letX; revert letX; intro _)
    | with_reducible refine Keeps.iteP ?_ ?_
    | split
    | (refine State.readAs_ok ?_ (by assumption))
    | (refine State.readAs_okP ?_ (by assumption))
    | with_reducible refine Keeps.ofPair (by assumption) ?_

theorem State.writeEnvelope_keeps {org s : State} (inner : State → Option Abort × State) (t : Nat) (b : List Byte)
    (h : Keeps org s) (hf : ∀ x, Keeps org x → Keeps org (inner x).2) :
    Keeps org (State.writeEnvelope inner s t b).2 := by
  delta State.writeEnvelope
  extract_lets len
  split
  · exact Keeps.ofPair (by assumption) (State.envelopeOpen_keeps _ _ _ h)
  · exact State.counterSpent_keeps _ _ (hf _ (Keeps.ofPair (by assumption) (State.envelopeOpen_keeps _ _ _ h)))

theorem State.writeWith_keeps {org s : State} (inner : State → Option Abort × State) (t : Nat) (via : Via) (addr : Nat)
    (b : List Byte) (h : Keeps org s) (hf : ∀ x, Keeps org x → Keeps org (inner x).2) :
    Keeps org (State.writeWith inner s t via addr b).2 := by
  delta State.writeWith
  extract_lets x
  have hx : Keeps org x := Keeps.ite (State.wdDue_keeps _ h) h
  clear_value x
  generalize x.writeCheck (some t) via addr b = c
  generalize subAt addr = sb
  split
  · exact hx
  · exact hx
  · exact Keeps.iteP (Keeps.iteP hx (Keeps.iteP (State.readEnvelope_keeps _ _ hx) (State.writeEnvelope_keeps _ _ _ hx hf)))
      (State.writeChecked_keeps _ _ _ _ hx)

theorem State.writeAs_keeps {org s : State} (fuel : Nat) (t : Nat) (via : Via) (addr : Nat) (b : List Byte)
    (h : Keeps org s) : Keeps org (State.writeAs fuel s t via addr b).2 := by
  induction fuel generalizing s via addr b with
  | zero => exact State.writeWith_keeps _ _ _ _ _ h fun _ hx => hx
  | succ fuel ih => exact State.writeWith_keeps _ _ _ _ _ h fun _ hx => ih _ _ _ hx

theorem State.countMoved_keeps {org s : State} (addr : Nat) (b : List Byte) (h : Keeps org s) :
    Keeps org (State.countMoved s addr b) := by
  delta State.countMoved
  repeat' first
    | with_reducible assumption
    | with_reducible apply State.countAccess_keeps
    | with_reducible refine Keeps.ite ?_ ?_

theorem State.writeBy_keeps {org s : State} (t : Option Nat) (via : Via) (addr : Nat) (b : List Byte) (h : Keeps org s) :
    Keeps org (State.writeBy s t via addr b).2 := by
  delta State.writeBy
  repeat' first
    | with_reducible assumption
    | with_reducible apply State.writeAs_keeps
    | with_reducible apply State.countMoved_keeps
    | with_reducible apply State.accessFails_keeps
    | with_reducible refine Keeps.iteP ?_ ?_
    | split
    | with_reducible refine Keeps.ofPair (by assumption) ?_

theorem State.readBy_keeps {org s : State} (t : Option Nat) (via : Via) (addr : Nat) (h : Keeps org s) :
    Keeps org (State.readBy s t via addr).2 := by
  delta State.readBy
  repeat' first
    | with_reducible assumption
    | with_reducible apply State.countMoved_keeps
    | with_reducible apply State.accessFails_keeps
    | with_reducible refine Keeps.iteP ?_ ?_
    | split
    | (refine State.readAs_ok ?_ (by assumption))
    | (refine State.readAs_okP ?_ (by assumption))

theorem State.accessArrives_keeps {org s : State} (ep : Endpoint) (h : Keeps org s) :
    Keeps org (State.accessArrives s ep) := by
  delta State.accessArrives
  repeat' first
    | with_reducible assumption
    | with_reducible apply State.wrapCount_keeps
    | split

theorem State.respond_keeps {org s : State} (ep : Endpoint) (status : Nat) (b : List Byte) (h : Keeps org s) :
    Keeps org (State.respond s ep status b) := by
  delta State.respond
  repeat' first
    | with_reducible assumption
    | with_reducible apply State.answer_keeps
    | with_reducible apply State.setBlob_keeps
    | split

theorem State.frameError_keeps {org s : State} (ep : Endpoint) (status : Nat) (h : Keeps org s) :
    Keeps org (State.frameError s ep status) := by
  delta State.frameError
  repeat' first
    | with_reducible assumption
    | with_reducible apply State.count_keeps
    | with_reducible apply State.respond_keeps
    | (extract_lets +onlyGivenNames letX; have letT : True := (by clear_value letX; guard_hyp letX : State; trivial); clear letT; refine Keeps.cut (r := org) (v := letX) ?_ (fun letH => ?_); (focus subst letX); rotate_left; clear_value letX; revert letX; intro _ _)
    | split

theorem State.usdoAnswer_keeps {org s : State} (p : CanPort) (r : Resp) (h : Keeps org s) :
    Keeps org (State.usdoAnswer s p r) := by
  delta State.usdoAnswer
  repeat' first
    | with_reducible assumption
    | with_reducible apply State.wrapCount_keeps
    | with_reducible apply State.answer_keeps

theorem State.transferResult_keeps {org s : State} (f st moved code : Nat) (h : Keeps org s) :
    Keeps org (State.transferResult s f st moved code) := by
  delta State.transferResult
  repeat' first
    | with_reducible assumption
    | with_reducible apply State.setN_keeps

theorem State.writeAnswered_keeps {org s : State} (ep : Endpoint) (form : WriteForm) (n : Nat) (a : Option Abort) (h : Keeps org s) :
    Keeps org (State.writeAnswered s ep form n a) := by
  delta State.writeAnswered
  repeat' first
    | with_reducible assumption
    | with_reducible apply State.usdoAnswer_keeps
    | with_reducible apply State.transferResult_keeps
    | with_reducible apply State.answer_keeps
    | with_reducible apply State.respond_keeps
    | (extract_lets +onlyGivenNames letX; have letT : True := (by clear_value letX; guard_hyp letX : State; trivial); clear letT; refine Keeps.cut (r := org) (v := letX) ?_ (fun letH => ?_); (focus subst letX); rotate_left; clear_value letX; revert letX; intro _ _)
    | with_reducible refine Keeps.iteP ?_ ?_
    | split

theorem State.rpdoWrite_keeps {org s : State} (x : Nat) (data : List Byte) (h : Keeps org s) :
    Keeps org (State.rpdoWrite s x data) := by
  delta State.rpdoWrite
  repeat' first
    | with_reducible assumption
    | with_reducible apply State.writeAs_keeps
    | with_reducible apply State.countAccess_keeps
    | with_reducible apply State.accessFails_keeps
    | with_reducible apply State.count_keeps
    | with_reducible apply State.raise_keeps
    | (extract_lets +onlyGivenNames letX; have letT : True := (by clear_value letX; guard_hyp letX : State; trivial); clear letT; refine Keeps.cut (r := org) (v := letX) ?_ (fun letH => ?_); (focus subst letX); rotate_left; clear_value letX; revert letX; intro _ _)
    | (extract_lets +onlyGivenNames letX; clear_value letX; revert letX; intro _)
    | with_reducible refine Keeps.iteP ?_ ?_
    | with_reducible refine forEach_keeps ?_ (fun _ _ _ => ?_)
    | split
    | with_reducible refine Keeps.ofPair (by assumption) ?_

theorem State.answerWrite_keeps {org s : State} (h : HeldWrite) (hs : Keeps org s) :
    Keeps org (State.answerWrite s h) := by
  delta State.answerWrite
  repeat' first
    | with_reducible assumption
    | with_reducible apply State.accessFails_keeps
    | with_reducible apply State.writeBy_keeps
    | with_reducible apply State.writeAnswered_keeps
    | (extract_lets +onlyGivenNames letX; have letT : True := (by clear_value letX; revert letX; with_reducible exact Keeps.isPair); clear letT; refine Keeps.cut (r := org) (v := letX.2) ?_ (fun letH => ?_); (focus subst letX); rotate_left; clear_value letX; revert letX; intro _ _)
    | (extract_lets +onlyGivenNames letX; clear_value letX; revert letX; intro _)
    | with_reducible refine Keeps.ite ?_ ?_
    | with_reducible refine Keeps.iteP ?_ ?_
    | split
    | with_reducible refine Keeps.ofPair (by assumption) ?_

theorem State.performWrite_keeps {org s : State} (h : HeldWrite) (hs : Keeps org s) :
    Keeps org (State.performWrite s h) := by
  delta State.performWrite
  repeat' first
    | with_reducible assumption
    | with_reducible apply State.rpdoWrite_keeps
    | with_reducible apply State.answerWrite_keeps
    | with_reducible refine Keeps.ite ?_ ?_

theorem State.holdBack_keeps {org s : State} (h : HeldWrite) (hs : Keeps org s) :
    Keeps org (State.holdBack s h) := by
  delta State.holdBack
  repeat' first
    | with_reducible assumption
    | with_reducible apply State.frameError_keeps
    | with_reducible apply State.transferResult_keeps
    | with_reducible apply State.answer_keeps
    | (extract_lets +onlyGivenNames letX; have letT : True := (by clear_value letX; guard_hyp letX : State; trivial); clear letT; refine Keeps.cut (r := org) (v := letX) ?_ (fun letH => ?_); (focus subst letX); rotate_left; clear_value letX; revert letX; intro _ _)
    | with_reducible refine Keeps.iteP ?_ ?_
    | split
    | with_reducible refine Keeps.update ?_

theorem State.takeWrite_keeps {org s : State} (h : HeldWrite) (hs : Keeps org s) :
    Keeps org (State.takeWrite s h) := by
  delta State.takeWrite
  repeat' first
    | with_reducible assumption
    | with_reducible apply State.holdBack_keeps
    | with_reducible apply State.performWrite_keeps
    | with_reducible refine Keeps.ite ?_ ?_

theorem State.usdoSecond_keeps {org s : State} (p : CanPort) (t addr : Nat) (h : Keeps org s) :
    Keeps org (State.usdoSecond s p t addr) := by
  delta State.usdoSecond
  repeat' first
    | with_reducible assumption
    | with_reducible apply State.accessFails_keeps
    | with_reducible apply State.usdoAnswer_keeps

theorem State.windowWrite_keeps {org s : State} (f : Func) (addr : Nat) (data : List Byte) (h : Keeps org s) :
    Keeps org (State.windowWrite s f addr data) := by
  delta State.windowWrite
  repeat' first
    | with_reducible assumption
    | with_reducible apply State.answer_keeps
    | with_reducible apply State.takeWrite_keeps
    | with_reducible refine Keeps.ite ?_ ?_
    | with_reducible refine forBelow_keeps ?_ (fun _ _ _ => ?_)
    | split

theorem State.hostWrite_keeps {org s : State} (ep : Endpoint) (form : WriteForm) (addr : Nat) (data : List Byte) (h : Keeps org s) :
    Keeps org (State.hostWrite s ep form addr data) := by
  delta State.hostWrite
  repeat' first
    | with_reducible assumption
    | with_reducible apply State.answer_keeps
    | with_reducible apply State.accessArrives_keeps
    | with_reducible apply State.usdoSecond_keeps
    | with_reducible apply State.windowWrite_keeps
    | with_reducible apply State.takeWrite_keeps
    | with_reducible apply State.respond_keeps
    | (extract_lets +onlyGivenNames letX; have letT : True := (by clear_value letX; guard_hyp letX : State; trivial); clear letT; refine Keeps.cut (r := org) (v := letX) ?_ (fun letH => ?_); (focus subst letX); rotate_left; clear_value letX; revert letX; intro _ _)
    | with_reducible refine Keeps.ite ?_ ?_
    | with_reducible refine Keeps.iteP ?_ ?_
    | split

theorem State.hostWriteInt_keeps {org s : State} (ep : Endpoint) (addr : Nat) (v : Int) (h : Keeps org s) :
    Keeps org (State.hostWriteInt s ep addr v) := by
  delta State.hostWriteInt
  repeat' first
    | with_reducible assumption
    | with_reducible apply State.hostWrite_keeps

theorem releaseWrites_keeps {org s : State} (l : List HeldWrite) (hs : Keeps org s) : Keeps org (releaseWrites l s) := by
  induction l generalizing s with
  | nil => exact hs
  | cons h l ih =>
    unfold releaseWrites
    split
    · exact hs
    · exact ih (State.performWrite_keeps h (Keeps.update hs))

theorem State.barrierDone_keeps {org s : State} (t : Nat) (h : Keeps org s) :
    Keeps org (State.barrierDone s t) := by
  delta State.barrierDone
  repeat' first
    | with_reducible assumption
    | with_reducible apply State.barrierClose_keeps
    | with_reducible apply releaseWrites_keeps
    | (extract_lets +onlyGivenNames letX; have letT : True := (by clear_value letX; guard_hyp letX : State; trivial); clear letT; refine Keeps.cut (r := org) (v := letX) ?_ (fun letH => ?_); (focus subst letX); rotate_left; clear_value letX; revert letX; intro _ _)

theorem State.slotRead_keeps {org s : State} (f : Func) (addr : Nat) (h : Keeps org s) :
    Keeps org (State.slotRead s f addr) := by
  delta State.slotRead
  repeat' first
    | with_reducible assumption
    | with_reducible apply State.countAccess_keeps
    | with_reducible apply State.answer_keeps
    | with_reducible apply State.readBy_keeps
    | (extract_lets +onlyGivenNames letX; clear_value letX; revert letX; intro _)
    | with_reducible refine Keeps.ite ?_ ?_
    | with_reducible refine Keeps.iteP ?_ ?_
    | split
    | with_reducible refine Keeps.ofPair (by assumption) ?_

theorem State.frameRead_keeps {org s : State} (ep : Endpoint) (addr off len : Nat) (h : Keeps org s) :
    Keeps org (State.frameRead s ep addr off len) := by
  delta State.frameRead
  repeat' first
    | with_reducible assumption
    | with_reducible apply State.readBy_keeps
    | with_reducible apply State.respond_keeps
    | (extract_lets +onlyGivenNames letX; clear_value letX; revert letX; intro _)
    | split
    | with_reducible refine Keeps.ofPair (by assumption) ?_

theorem State.usdoRead_keeps {org s : State} (p : CanPort) (t addr : Nat) (h : Keeps org s) :
    Keeps org (State.usdoRead s p t addr) := by
  delta State.usdoRead
  repeat' first
    | with_reducible assumption
    | with_reducible apply State.readBy_keeps
    | with_reducible apply State.usdoAnswer_keeps
    | split
    | with_reducible refine Keeps.ofPair (by assumption) ?_

theorem State.hostRead_keeps {org s : State} (ep : Endpoint) (addr : Nat) (h : Keeps org s) :
    Keeps org (State.hostRead s ep addr) := by
  delta State.hostRead
  repeat' first
    | with_reducible assumption
    | with_reducible apply State.answer_keeps
    | with_reducible apply State.accessArrives_keeps
    | with_reducible apply State.usdoSecond_keeps
    | with_reducible apply State.usdoRead_keeps
    | with_reducible apply State.slotRead_keeps
    | with_reducible apply State.frameRead_keeps
    | (extract_lets +onlyGivenNames letX; have letT : True := (by clear_value letX; guard_hyp letX : State; trivial); clear letT; refine Keeps.cut (r := org) (v := letX) ?_ (fun letH => ?_); (focus subst letX); rotate_left; clear_value letX; revert letX; intro _ _)
    | with_reducible refine Keeps.ite ?_ ?_
    | with_reducible refine Keeps.iteP ?_ ?_
    | split

theorem State.requestFrame_keeps {org s : State} (ep : Endpoint) (cmd addr len : Nat) (more : List Byte) (crc : Nat) (badLen : Bool) (act : State → State) (h : Keeps org s) (hf : ∀ x, Keeps org x → Keeps org (act x)) :
    Keeps org (State.requestFrame s ep cmd addr len more crc badLen act) := by
  delta State.requestFrame
  repeat' first
    | with_reducible assumption
    | with_reducible apply State.answer_keeps
    | with_reducible apply State.accessArrives_keeps
    | with_reducible apply State.frameError_keeps
    | with_reducible apply State.respond_keeps
    | (extract_lets +onlyGivenNames letX; have letT : True := (by clear_value letX; guard_hyp letX : State; trivial); clear letT; refine Keeps.cut (r := org) (v := letX) ?_ (fun letH => ?_); (focus subst letX); rotate_left; clear_value letX; revert letX; intro _ _)
    | with_reducible refine Keeps.ite ?_ ?_
    | with_reducible refine Keeps.iteP ?_ ?_
    | (with_reducible apply hf)

theorem State.frameLoad_keeps {org s : State} (ep : Endpoint) (off : Nat) (data : List Byte) (h : Keeps org s) :
    Keeps org (State.frameLoad s ep off data) := by
  delta State.frameLoad
  repeat' first
    | with_reducible assumption
    | with_reducible apply State.setBlob_keeps
    | with_reducible apply State.respond_keeps
    | (extract_lets +onlyGivenNames letX; clear_value letX; revert letX; intro _)

theorem State.frameBuffer_keeps {org s : State} (ep : Endpoint) (addr len : Nat) (h : Keeps org s) :
    Keeps org (State.frameBuffer s ep addr len) := by
  delta State.frameBuffer
  repeat' first
    | with_reducible assumption
    | with_reducible apply State.takeWrite_keeps

theorem State.frameBroken_keeps {org s : State} (ep : Endpoint) (h : Keeps org s) :
    Keeps org (State.frameBroken s ep) := by
  delta State.frameBroken
  repeat' first
    | with_reducible assumption
    | with_reducible apply State.count_keeps
    | with_reducible refine Keeps.ite ?_ ?_
    | split

theorem State.spiConflict_keeps {org s : State} (h : Keeps org s) :
    Keeps org (State.spiConflict s) := by
  delta State.spiConflict
  repeat' first
    | with_reducible assumption
    | with_reducible apply State.count_keeps
    | with_reducible refine Keeps.ite ?_ ?_

theorem State.responseFetch_keeps {org s : State} (a : Nat) (h : Keeps org s) :
    Keeps org (State.responseFetch s a) := by
  delta State.responseFetch
  repeat' first
    | with_reducible assumption
    | with_reducible apply State.answer_keeps
    | with_reducible apply State.setBlob_keeps
    | with_reducible refine Keeps.ite ?_ ?_
    | split

theorem State.usdoAccess_keeps {org s : State} (p : CanPort) (t : Nat) (write : Bool) (addr : Nat) (data : List Byte) (h : Keeps org s) :
    Keeps org (State.usdoAccess s p t write addr data) := by
  delta State.usdoAccess
  repeat' first
    | with_reducible assumption
    | with_reducible apply State.takeWrite_keeps
    | with_reducible apply State.usdoRead_keeps
    | with_reducible refine Keeps.ite ?_ ?_

theorem State.usdoOpens_keeps {org s : State} (t : Nat) (write : Bool) (addr : Nat) (h : Keeps org s) :
    Keeps org (State.usdoOpens s t write addr) := by
  delta State.usdoOpens
  repeat' first
    | with_reducible assumption
    | with_reducible apply State.setN_keeps
    | with_reducible apply State.setFlag_keeps

theorem State.usdoBegin_keeps {org s : State} (p : CanPort) (t : Nat) (write last : Bool) (addr : Nat) (data : List Byte) (h : Keeps org s) :
    Keeps org (State.usdoBegin s p t write last addr data) := by
  delta State.usdoBegin
  repeat' first
    | with_reducible assumption
    | with_reducible apply State.usdoAccess_keeps
    | with_reducible apply State.usdoOpens_keeps
    | with_reducible apply State.setBlob_keeps
    | with_reducible apply State.usdoAnswer_keeps
    | with_reducible apply State.readBy_keeps
    | with_reducible refine Keeps.ite ?_ ?_
    | split
    | with_reducible refine Keeps.ofPair (by assumption) ?_

theorem State.usdoGoesOn_keeps {org s : State} (p : CanPort) (t : Nat) (last : Bool) (data : List Byte) (h : Keeps org s) :
    Keeps org (State.usdoGoesOn s p t last data) := by
  delta State.usdoGoesOn
  repeat' first
    | with_reducible assumption
    | with_reducible apply State.usdoClose_keeps
    | with_reducible apply State.usdoAccess_keeps
    | with_reducible apply State.usdoAnswer_keeps
    | with_reducible apply State.setN_keeps
    | with_reducible apply State.setBlob_keeps
    | (extract_lets +onlyGivenNames letX; have letT : True := (by clear_value letX; guard_hyp letX : State; trivial); clear letT; refine Keeps.cut (r := org) (v := letX) ?_ (fun letH => ?_); (focus subst letX); rotate_left; clear_value letX; revert letX; intro _ _)
    | (extract_lets +onlyGivenNames letX; clear_value letX; revert letX; intro _)
    | with_reducible refine Keeps.ite ?_ ?_
    | with_reducible refine Keeps.iteP ?_ ?_

theorem State.usdoRequest_keeps {org s : State} (t : Nat) (begins write last : Bool) (addr : Nat) (data : List Byte) (h : Keeps org s) :
    Keeps org (State.usdoRequest s t begins write last addr data) := by
  delta State.usdoRequest
  repeat' first
    | with_reducible assumption
    | with_reducible apply State.answer_keeps
    | with_reducible apply State.accessArrives_keeps
    | with_reducible apply State.usdoSecond_keeps
    | with_reducible apply State.usdoBegin_keeps
    | with_reducible apply State.usdoGoesOn_keeps
    | with_reducible apply State.usdoAnswer_keeps
    | (extract_lets +onlyGivenNames letX; have letT : True := (by clear_value letX; guard_hyp letX : State; trivial); clear letT; refine Keeps.cut (r := org) (v := letX) ?_ (fun letH => ?_); (focus subst letX); rotate_left; clear_value letX; revert letX; intro _ _)
    | with_reducible refine Keeps.ite ?_ ?_
    | with_reducible refine Keeps.iteP ?_ ?_
    | split

theorem State.rpdoTake_keeps {org s : State} (x : Nat) (data : List Byte) (h : Keeps org s) :
    Keeps org (State.rpdoTake s x data) := by
  delta State.rpdoTake
  repeat' first
    | with_reducible assumption
    | with_reducible apply State.performWrite_keeps
    | (extract_lets +onlyGivenNames letX; clear_value letX; revert letX; intro _)
    | with_reducible refine Keeps.ite ?_ ?_
    | with_reducible refine Keeps.iteP ?_ ?_
    | with_reducible refine Keeps.update ?_

theorem State.rpdoReceived_keeps {org s : State} (x : Nat) (data : List Byte) (h : Keeps org s) :
    Keeps org (State.rpdoReceived s x data) := by
  delta State.rpdoReceived
  repeat' first
    | with_reducible assumption
    | with_reducible apply State.wrapCount_keeps
    | with_reducible apply State.count_keeps
    | with_reducible apply State.raise_keeps
    | with_reducible apply State.rpdoTake_keeps
    | with_reducible apply State.setBlob_keeps
    | with_reducible apply State.setN_keeps
    | (extract_lets +onlyGivenNames letX; have letT : True := (by clear_value letX; guard_hyp letX : State; trivial); clear letT; refine Keeps.cut (r := org) (v := letX) ?_ (fun letH => ?_); (focus subst letX); rotate_left; clear_value letX; revert letX; intro _ _)
    | (extract_lets +onlyGivenNames letX; clear_value letX; revert letX; intro _)
    | with_reducible refine Keeps.ite ?_ ?_
    | with_reducible refine Keeps.iteP ?_ ?_

theorem State.rpdoSync_keeps {org s : State} (x : Nat) (h : Keeps org s) :
    Keeps org (State.rpdoSync s x) := by
  delta State.rpdoSync
  repeat' first
    | with_reducible assumption
    | with_reducible apply State.setN_keeps
    | with_reducible apply State.setBlob_keeps
    | with_reducible apply State.rpdoTake_keeps
    | (extract_lets +onlyGivenNames letX; clear_value letX; revert letX; intro _)
    | with_reducible refine Keeps.ite ?_ ?_
    | with_reducible refine Keeps.iteP ?_ ?_

theorem State.syncReceived_keeps {org s : State} (p : Nat) (counter : Option Nat) (h : Keeps org s) :
    Keeps org (State.syncReceived s p counter) := by
  delta State.syncReceived
  repeat' first
    | with_reducible assumption
    | with_reducible apply State.wrapCount_keeps
    | with_reducible apply State.syncSeen_keeps
    | with_reducible apply State.tpdoSync_keeps
    | with_reducible apply State.rpdoSync_keeps
    | (extract_lets +onlyGivenNames letX; have letT : True := (by clear_value letX; guard_hyp letX : State; trivial); clear letT; refine Keeps.cut (r := org) (v := letX) ?_ (fun letH => ?_); (focus subst letX); rotate_left; clear_value letX; revert letX; intro _ _)
    | with_reducible refine Keeps.ite ?_ ?_
    | with_reducible refine Keeps.iteP ?_ ?_
    | with_reducible refine forBelow_keeps ?_ (fun _ _ _ => ?_)

theorem State.transferFails_keeps {org s : State} (f : Func) (addr : Nat) (a : Abort) (h : Keeps org s) :
    Keeps org (State.transferFails s f addr a) := by
  delta State.transferFails
  repeat' first
    | with_reducible assumption
    | with_reducible apply State.accessFails_keeps
    | split

theorem State.transfer_keeps {org s : State} (f : Func) (addr off len : Nat) (act : State → State) (h : Keeps org s) (hf : ∀ x, Keeps org x → Keeps org (act x)) :
    Keeps org (State.transfer s f addr off len act) := by
  delta State.transfer
  repeat' first
    | with_reducible assumption
    | with_reducible apply State.answer_keeps
    | with_reducible apply State.transferFails_keeps
    | with_reducible apply State.setN_keeps
    | with_reducible apply State.transferResult_keeps
    | (extract_lets +onlyGivenNames letX; have letT : True := (by clear_value letX; guard_hyp letX : State; trivial); clear letT; refine Keeps.cut (r := org) (v := letX) ?_ (fun letH => ?_); (focus subst letX); rotate_left; clear_value letX; revert letX; intro _ _)
    | with_reducible refine Keeps.ite ?_ ?_
    | with_reducible refine Keeps.iteP ?_ ?_
    | (with_reducible apply hf)

theorem State.transferRead_keeps {org s : State} (f : Func) (addr off len : Nat) (h : Keeps org s) :
    Keeps org (State.transferRead s f addr off len) := by
  delta State.transferRead
  repeat' first
    | with_reducible assumption
    | with_reducible apply State.transfer_keeps
    | with_reducible apply State.readBy_keeps
    | with_reducible apply State.setBlob_keeps
    | with_reducible apply State.transferResult_keeps
    | with_reducible apply State.answer_keeps
    | (extract_lets +onlyGivenNames letX; clear_value letX; revert letX; intro _)
    | split
    | (intro _ _ _)
    | (intro _ _)
    | with_reducible refine Keeps.ofPair (by assumption) ?_

theorem State.transferWrite_keeps {org s : State} (f : Func) (addr len : Nat) (data : List Byte) (h : Keeps org s) :
    Keeps org (State.transferWrite s f addr len data) := by
  delta State.transferWrite
  repeat' first
    | with_reducible assumption
    | with_reducible apply State.setBlob_keeps
    | with_reducible apply State.transfer_keeps
    | with_reducible apply State.takeWrite_keeps
    | (extract_lets +onlyGivenNames letX; have letT : True := (by clear_value letX; guard_hyp letX : State; trivial); clear letT; refine Keeps.cut (r := org) (v := letX) ?_ (fun letH => ?_); (focus subst letX); rotate_left; clear_value letX; revert letX; intro _ _)
    | with_reducible refine Keeps.ite ?_ ?_
    | with_reducible refine Keeps.iteP ?_ ?_
    | (intro _ _ _)
    | (intro _ _)

theorem State.ringHeadPop_keeps {org s : State} (f : Func) (i k : Nat) (h : Keeps org s) :
    Keeps org (State.ringHeadPop s f i k) := by
  delta State.ringHeadPop
  repeat' first
    | with_reducible assumption
    | with_reducible apply State.accessFails_keeps
    | with_reducible apply State.takeFreeIn_keeps
    | with_reducible apply State.afterPop_keeps
    | with_reducible apply State.countAccess_keeps
    | with_reducible apply State.setBlob_keeps
    | with_reducible apply State.setN_keeps
    | (extract_lets +onlyGivenNames letX; have letT : True := (by clear_value letX; guard_hyp letX : State; trivial); clear letT; refine Keeps.cut (r := org) (v := letX) ?_ (fun letH => ?_); (focus subst letX); rotate_left; clear_value letX; revert letX; intro _ _)
    | (extract_lets +onlyGivenNames letX; have letT : True := (by clear_value letX; revert letX; with_reducible exact Keeps.isPair); clear letT; refine Keeps.cut (r := org) (v := letX.2) ?_ (fun letH => ?_); (focus subst letX); rotate_left; clear_value letX; revert letX; intro _ _)
    | (extract_lets +onlyGivenNames letX; clear_value letX; revert letX; intro _)
    | with_reducible refine Keeps.ite ?_ ?_
    | with_reducible refine Keeps.iteP ?_ ?_
    | split

theorem execObjectWrite_runs {org s : State} (ep : Endpoint) (addr : Nat) (data : List Byte) (h : Keeps org s) :
    Runs org (execObjectWrite ep addr data s) := by
  delta execObjectWrite
  repeat' first
    | with_reducible assumption
    | with_reducible refine Runs.next ?_
    | with_reducible apply State.hostWrite_keeps
    | with_reducible refine Runs.ite ?_ ?_

theorem execLevelViewWrite_runs {org s : State} (ep : Endpoint) (n : Chan) (sub : Fin 4) (v : Int) (h : Keeps org s) :
    Runs org (execLevelViewWrite ep n sub v s) := by
  delta execLevelViewWrite
  repeat' first
    | with_reducible assumption
    | with_reducible refine Runs.next ?_
    | with_reducible apply State.hostWriteInt_keeps
    | with_reducible refine Runs.ite ?_ ?_

theorem execCommit_runs {org s : State} (ep : Endpoint) (v : Nat) (h : Keeps org s) :
    Runs org (execCommit ep v s) := by
  delta execCommit
  repeat' first
    | with_reducible assumption
    | with_reducible refine Runs.next ?_
    | with_reducible apply State.hostWriteInt_keeps
    | with_reducible refine Runs.ite ?_ ?_

theorem execDiscard_runs {org s : State} (ep : Endpoint) (h : Keeps org s) :
    Runs org (execDiscard ep s) := by
  delta execDiscard
  repeat' first
    | with_reducible assumption
    | with_reducible refine Runs.next ?_
    | with_reducible apply State.hostWriteInt_keeps
    | with_reducible refine Runs.ite ?_ ?_

theorem execSyncReceived_runs {org s : State} (p : CanPort) (counter : Option Nat) (h : Keeps org s) :
    Runs org (execSyncReceived p counter s) := by
  delta execSyncReceived
  repeat' first
    | with_reducible assumption
    | with_reducible refine Runs.next ?_
    | with_reducible apply State.syncReceived_keeps
    | with_reducible refine Runs.ite ?_ ?_

theorem execBarrierId_runs {org s : State} (ep : Endpoint) (v : Nat) (h : Keeps org s) :
    Runs org (execBarrierId ep v s) := by
  delta execBarrierId
  repeat' first
    | with_reducible assumption
    | with_reducible refine Runs.next ?_
    | with_reducible apply State.hostWriteInt_keeps
    | with_reducible refine Runs.ite ?_ ?_

theorem execBarrierDone_runs {org s : State} (t : Tenant) (h : Keeps org s) :
    Runs org (execBarrierDone t s) := by
  delta execBarrierDone
  repeat' first
    | with_reducible assumption
    | with_reducible refine Runs.next ?_
    | with_reducible apply State.barrierDone_keeps
    | with_reducible refine Runs.ite ?_ ?_

theorem execTenantReset_runs {org s : State} (ep : Endpoint) (t : Tenant) (h : Keeps org s) :
    Runs org (execTenantReset ep t s) := by
  delta execTenantReset
  repeat' first
    | with_reducible assumption
    | with_reducible refine Runs.next ?_
    | with_reducible apply State.hostWriteInt_keeps
    | with_reducible refine Runs.ite ?_ ?_

theorem execTrumpRelease_runs {org s : State} (ep : Endpoint) (t : Tenant) (n : Nat) (h : Keeps org s) :
    Runs org (execTrumpRelease ep t n s) := by
  delta execTrumpRelease
  repeat' first
    | with_reducible assumption
    | with_reducible refine Runs.next ?_
    | with_reducible apply State.hostWriteInt_keeps
    | with_reducible refine Runs.ite ?_ ?_

theorem execRequestOff_runs {org s : State} (ep : Endpoint) (n : Chan) (h : Keeps org s) :
    Runs org (execRequestOff ep n s) := by
  delta execRequestOff
  repeat' first
    | with_reducible assumption
    | with_reducible refine Runs.next ?_
    | with_reducible apply State.hostWriteInt_keeps
    | with_reducible refine Runs.ite ?_ ?_

theorem execRequestOn_runs {org s : State} (ep : Endpoint) (n : Chan) (h : Keeps org s) :
    Runs org (execRequestOn ep n s) := by
  delta execRequestOn
  repeat' first
    | with_reducible assumption
    | with_reducible refine Runs.next ?_
    | with_reducible apply State.hostWriteInt_keeps
    | with_reducible refine Runs.ite ?_ ?_

theorem execRequestPwm_runs {org s : State} (ep : Endpoint) (n : Chan) (h : Keeps org s) :
    Runs org (execRequestPwm ep n s) := by
  delta execRequestPwm
  repeat' first
    | with_reducible assumption
    | with_reducible refine Runs.next ?_
    | with_reducible apply State.hostWriteInt_keeps
    | with_reducible refine Runs.ite ?_ ?_

theorem execClearLockout_runs {org s : State} (ep : Endpoint) (n : Chan) (h : Keeps org s) :
    Runs org (execClearLockout ep n s) := by
  delta execClearLockout
  repeat' first
    | with_reducible assumption
    | with_reducible refine Runs.next ?_
    | with_reducible apply State.hostWriteInt_keeps
    | with_reducible refine Runs.ite ?_ ?_

theorem execReleaseStanding_runs {org s : State} (ep : Endpoint) (n : Chan) (h : Keeps org s) :
    Runs org (execReleaseStanding ep n s) := by
  delta execReleaseStanding
  repeat' first
    | with_reducible assumption
    | with_reducible refine Runs.next ?_
    | with_reducible apply State.hostWriteInt_keeps
    | with_reducible refine Runs.ite ?_ ?_

theorem execCaptureArm_runs {org s : State} (ep : Endpoint) (d : Die) (h : Keeps org s) :
    Runs org (execCaptureArm ep d s) := by
  delta execCaptureArm
  repeat' first
    | with_reducible assumption
    | with_reducible refine Runs.next ?_
    | with_reducible apply State.hostWriteInt_keeps
    | with_reducible refine Runs.ite ?_ ?_

theorem execSwapRequest_runs {org s : State} (ep : Endpoint) (p : Pair) (b : Bool) (h : Keeps org s) :
    Runs org (execSwapRequest ep p b s) := by
  delta execSwapRequest
  repeat' first
    | with_reducible assumption
    | with_reducible refine Runs.next ?_
    | with_reducible apply State.hostWriteInt_keeps
    | with_reducible refine Runs.ite ?_ ?_

theorem execPlanStart_runs {org s : State} (ep : Endpoint) (p : Fin 2) (h : Keeps org s) :
    Runs org (execPlanStart ep p s) := by
  delta execPlanStart
  repeat' first
    | with_reducible assumption
    | with_reducible refine Runs.next ?_
    | with_reducible apply State.hostWriteInt_keeps
    | with_reducible refine Runs.ite ?_ ?_

theorem execPlanAbort_runs {org s : State} (ep : Endpoint) (p : Fin 2) (h : Keeps org s) :
    Runs org (execPlanAbort ep p s) := by
  delta execPlanAbort
  repeat' first
    | with_reducible assumption
    | with_reducible refine Runs.next ?_
    | with_reducible apply State.hostWriteInt_keeps
    | with_reducible refine Runs.ite ?_ ?_

theorem execResolveSkip_runs {org s : State} (ep : Endpoint) (p : Fin 2) (i : Nat) (h : Keeps org s) :
    Runs org (execResolveSkip ep p i s) := by
  delta execResolveSkip
  repeat' first
    | with_reducible assumption
    | with_reducible refine Runs.next ?_
    | with_reducible apply State.hostWriteInt_keeps
    | with_reducible refine Runs.ite ?_ ?_

theorem execResolveRetry_runs {org s : State} (ep : Endpoint) (p : Fin 2) (i : Nat) (h : Keeps org s) :
    Runs org (execResolveRetry ep p i s) := by
  delta execResolveRetry
  repeat' first
    | with_reducible assumption
    | with_reducible refine Runs.next ?_
    | with_reducible apply State.hostWriteInt_keeps
    | with_reducible refine Runs.ite ?_ ?_

theorem execRsoForceAssert_runs {org s : State} (ep : Endpoint) (r : Rso) (h : Keeps org s) :
    Runs org (execRsoForceAssert ep r s) := by
  delta execRsoForceAssert
  repeat' first
    | with_reducible assumption
    | with_reducible refine Runs.next ?_
    | with_reducible apply State.hostWriteInt_keeps
    | with_reducible refine Runs.ite ?_ ?_

theorem execRsoForceRelease_runs {org s : State} (ep : Endpoint) (r : Rso) (h : Keeps org s) :
    Runs org (execRsoForceRelease ep r s) := by
  delta execRsoForceRelease
  repeat' first
    | with_reducible assumption
    | with_reducible refine Runs.next ?_
    | with_reducible apply State.hostWriteInt_keeps
    | with_reducible refine Runs.ite ?_ ?_

theorem execCounterClear_runs {org s : State} (ep : Endpoint) (n : Chan) (h : Keeps org s) :
    Runs org (execCounterClear ep n s) := by
  delta execCounterClear
  repeat' first
    | with_reducible assumption
    | with_reducible refine Runs.next ?_
    | with_reducible apply State.hostWriteInt_keeps
    | with_reducible refine Runs.ite ?_ ?_

theorem execEnableOn_runs {org s : State} (ep : Endpoint) (m : Conv) (h : Keeps org s) :
    Runs org (execEnableOn ep m s) := by
  delta execEnableOn
  repeat' first
    | with_reducible assumption
    | with_reducible refine Runs.next ?_
    | with_reducible apply State.hostWriteInt_keeps
    | with_reducible refine Runs.ite ?_ ?_

theorem execEnableOff_runs {org s : State} (ep : Endpoint) (m : Conv) (h : Keeps org s) :
    Runs org (execEnableOff ep m s) := by
  delta execEnableOff
  repeat' first
    | with_reducible assumption
    | with_reducible refine Runs.next ?_
    | with_reducible apply State.hostWriteInt_keeps
    | with_reducible refine Runs.ite ?_ ?_

theorem execSwitchModeOpen_runs {org s : State} (ep : Endpoint) (h : Keeps org s) :
    Runs org (execSwitchModeOpen ep s) := by
  delta execSwitchModeOpen
  repeat' first
    | with_reducible assumption
    | with_reducible refine Runs.next ?_
    | with_reducible apply State.hostWriteInt_keeps
    | with_reducible refine Runs.ite ?_ ?_

theorem execSwitchModeIdealDiode_runs {org s : State} (ep : Endpoint) (h : Keeps org s) :
    Runs org (execSwitchModeIdealDiode ep s) := by
  delta execSwitchModeIdealDiode
  repeat' first
    | with_reducible assumption
    | with_reducible refine Runs.next ?_
    | with_reducible apply State.hostWriteInt_keeps
    | with_reducible refine Runs.ite ?_ ?_

theorem execSwitchModeClosed_runs {org s : State} (ep : Endpoint) (h : Keeps org s) :
    Runs org (execSwitchModeClosed ep s) := by
  delta execSwitchModeClosed
  repeat' first
    | with_reducible assumption
    | with_reducible refine Runs.next ?_
    | with_reducible apply State.hostWriteInt_keeps
    | with_reducible refine Runs.ite ?_ ?_

theorem execChargeEnableOn_runs {org s : State} (ep : Endpoint) (h : Keeps org s) :
    Runs org (execChargeEnableOn ep s) := by
  delta execChargeEnableOn
  repeat' first
    | with_reducible assumption
    | with_reducible refine Runs.next ?_
    | with_reducible apply State.hostWriteInt_keeps
    | with_reducible refine Runs.ite ?_ ?_

theorem execChargeEnableOff_runs {org s : State} (ep : Endpoint) (h : Keeps org s) :
    Runs org (execChargeEnableOff ep s) := by
  delta execChargeEnableOff
  repeat' first
    | with_reducible assumption
    | with_reducible refine Runs.next ?_
    | with_reducible apply State.hostWriteInt_keeps
    | with_reducible refine Runs.ite ?_ ?_

theorem execShipArm_runs {org s : State} (ep : Endpoint) (h : Keeps org s) :
    Runs org (execShipArm ep s) := by
  delta execShipArm
  repeat' first
    | with_reducible assumption
    | with_reducible refine Runs.next ?_
    | with_reducible apply State.hostWriteInt_keeps
    | with_reducible refine Runs.ite ?_ ?_

theorem execShipCancel_runs {org s : State} (ep : Endpoint) (h : Keeps org s) :
    Runs org (execShipCancel ep s) := by
  delta execShipCancel
  repeat' first
    | with_reducible assumption
    | with_reducible refine Runs.next ?_
    | with_reducible apply State.hostWriteInt_keeps
    | with_reducible refine Runs.ite ?_ ?_

theorem execAssistStart_runs {org s : State} (ep : Endpoint) (h : Keeps org s) :
    Runs org (execAssistStart ep s) := by
  delta execAssistStart
  repeat' first
    | with_reducible assumption
    | with_reducible refine Runs.next ?_
    | with_reducible apply State.hostWriteInt_keeps
    | with_reducible refine Runs.ite ?_ ?_

theorem execAssistStop_runs {org s : State} (ep : Endpoint) (h : Keeps org s) :
    Runs org (execAssistStop ep s) := by
  delta execAssistStop
  repeat' first
    | with_reducible assumption
    | with_reducible refine Runs.next ?_
    | with_reducible apply State.hostWriteInt_keeps
    | with_reducible refine Runs.ite ?_ ?_

theorem execBatteryReplaced_runs {org s : State} (ep : Endpoint) (h : Keeps org s) :
    Runs org (execBatteryReplaced ep s) := by
  delta execBatteryReplaced
  repeat' first
    | with_reducible assumption
    | with_reducible refine Runs.next ?_
    | with_reducible apply State.hostWriteInt_keeps
    | with_reducible refine Runs.ite ?_ ?_

theorem execDeviceResetControlDie_runs {org s : State} (ep : Endpoint) (h : Keeps org s) :
    Runs org (execDeviceResetControlDie ep s) := by
  delta execDeviceResetControlDie
  repeat' first
    | with_reducible assumption
    | with_reducible refine Runs.next ?_
    | with_reducible apply State.hostWriteInt_keeps
    | with_reducible refine Runs.ite ?_ ?_

theorem execDeviceResetFull_runs {org s : State} (ep : Endpoint) (h : Keeps org s) :
    Runs org (execDeviceResetFull ep s) := by
  delta execDeviceResetFull
  repeat' first
    | with_reducible assumption
    | with_reducible refine Runs.next ?_
    | with_reducible apply State.hostWriteInt_keeps
    | with_reducible refine Runs.ite ?_ ?_

theorem execOpeningResume_runs {org s : State} (ep : Endpoint) (h : Keeps org s) :
    Runs org (execOpeningResume ep s) := by
  delta execOpeningResume
  repeat' first
    | with_reducible assumption
    | with_reducible refine Runs.next ?_
    | with_reducible apply State.hostWriteInt_keeps
    | with_reducible refine Runs.ite ?_ ?_

theorem execJournalAck_runs {org s : State} (ep : Endpoint) (h : Keeps org s) :
    Runs org (execJournalAck ep s) := by
  delta execJournalAck
  repeat' first
    | with_reducible assumption
    | with_reducible refine Runs.next ?_
    | with_reducible apply State.hostWriteInt_keeps
    | with_reducible refine Runs.ite ?_ ?_

theorem execPowerModeRun_runs {org s : State} (ep : Endpoint) (h : Keeps org s) :
    Runs org (execPowerModeRun ep s) := by
  delta execPowerModeRun
  repeat' first
    | with_reducible assumption
    | with_reducible refine Runs.next ?_
    | with_reducible apply State.hostWriteInt_keeps
    | with_reducible refine Runs.ite ?_ ?_

theorem execPowerModeHold_runs {org s : State} (ep : Endpoint) (h : Keeps org s) :
    Runs org (execPowerModeHold ep s) := by
  delta execPowerModeHold
  repeat' first
    | with_reducible assumption
    | with_reducible refine Runs.next ?_
    | with_reducible apply State.hostWriteInt_keeps
    | with_reducible refine Runs.ite ?_ ?_

theorem execPark_runs {org s : State} (ep : Endpoint) (h : Keeps org s) :
    Runs org (execPark ep s) := by
  delta execPark
  repeat' first
    | with_reducible assumption
    | with_reducible refine Runs.next ?_
    | with_reducible apply State.hostWriteInt_keeps
    | with_reducible refine Runs.ite ?_ ?_

theorem execWakeClear_runs {org s : State} (ep : Endpoint) (mask : Nat) (h : Keeps org s) :
    Runs org (execWakeClear ep mask s) := by
  delta execWakeClear
  repeat' first
    | with_reducible assumption
    | with_reducible refine Runs.next ?_
    | with_reducible apply State.hostWriteInt_keeps
    | with_reducible refine Runs.ite ?_ ?_

theorem execQueryKind_runs {org s : State} (ep : Endpoint) (code : Nat) (h : Keeps org s) :
    Runs org (execQueryKind ep code s) := by
  delta execQueryKind
  repeat' first
    | with_reducible assumption
    | with_reducible refine Runs.next ?_
    | with_reducible apply State.hostWriteInt_keeps
    | with_reducible refine Runs.ite ?_ ?_

theorem execPop_runs {org s : State} (ep : Endpoint) (q : RingId) (h : Keeps org s) :
    Runs org (execPop ep q s) := by
  delta execPop
  repeat' first
    | with_reducible assumption
    | with_reducible refine Runs.next ?_
    | with_reducible apply State.hostRead_keeps
    | with_reducible refine Runs.ite ?_ ?_

theorem execFlush_runs {org s : State} (ep : Endpoint) (q : RingId) (h : Keeps org s) :
    Runs org (execFlush ep q s) := by
  delta execFlush
  repeat' first
    | with_reducible assumption
    | with_reducible refine Runs.next ?_
    | with_reducible apply State.hostWriteInt_keeps
    | with_reducible refine Runs.ite ?_ ?_

theorem execArm_runs {org s : State} (ep : Endpoint) (g : TargetId) (h : Keeps org s) :
    Runs org (execArm ep g s) := by
  delta execArm
  repeat' first
    | with_reducible assumption
    | with_reducible refine Runs.next ?_
    | with_reducible apply State.hostWriteInt_keeps
    | with_reducible refine Runs.ite ?_ ?_

theorem execHold_runs {org s : State} (ep : Endpoint) (h : Keeps org s) :
    Runs org (execHold ep s) := by
  delta execHold
  repeat' first
    | with_reducible assumption
    | with_reducible refine Runs.next ?_
    | with_reducible apply State.hostWriteInt_keeps
    | with_reducible refine Runs.ite ?_ ?_

theorem execHoldRelease_runs {org s : State} (ep : Endpoint) (h : Keeps org s) :
    Runs org (execHoldRelease ep s) := by
  delta execHoldRelease
  repeat' first
    | with_reducible assumption
    | with_reducible refine Runs.next ?_
    | with_reducible apply State.hostWriteInt_keeps
    | with_reducible refine Runs.ite ?_ ?_

theorem execDeviceHoldSet_runs {org s : State} (ep : Endpoint) (h : Keeps org s) :
    Runs org (execDeviceHoldSet ep s) := by
  delta execDeviceHoldSet
  repeat' first
    | with_reducible assumption
    | with_reducible refine Runs.next ?_
    | with_reducible apply State.hostWriteInt_keeps
    | with_reducible refine Runs.ite ?_ ?_

theorem execDeviceHoldClear_runs {org s : State} (ep : Endpoint) (h : Keeps org s) :
    Runs org (execDeviceHoldClear ep s) := by
  delta execDeviceHoldClear
  repeat' first
    | with_reducible assumption
    | with_reducible refine Runs.next ?_
    | with_reducible apply State.hostWriteInt_keeps
    | with_reducible refine Runs.ite ?_ ?_

theorem execFence_runs {org s : State} (ep : Endpoint) (v : Nat) (h : Keeps org s) :
    Runs org (execFence ep v s) := by
  delta execFence
  repeat' first
    | with_reducible assumption
    | with_reducible refine Runs.next ?_
    | with_reducible apply State.hostWriteInt_keeps
    | with_reducible refine Runs.ite ?_ ?_

theorem execStreamRun_runs {org s : State} (ep : Endpoint) (d : StreamId) (h : Keeps org s) :
    Runs org (execStreamRun ep d s) := by
  delta execStreamRun
  repeat' first
    | with_reducible assumption
    | with_reducible refine Runs.next ?_
    | with_reducible apply State.hostWriteInt_keeps
    | with_reducible refine Runs.ite ?_ ?_

theorem execStreamStop_runs {org s : State} (ep : Endpoint) (d : StreamId) (h : Keeps org s) :
    Runs org (execStreamStop ep d s) := by
  delta execStreamStop
  repeat' first
    | with_reducible assumption
    | with_reducible refine Runs.next ?_
    | with_reducible apply State.hostWriteInt_keeps
    | with_reducible refine Runs.ite ?_ ?_

theorem execTailWrite_runs {org s : State} (ep : Endpoint) (d : StreamId) (v : Nat) (bell : Bool) (h : Keeps org s) :
    Runs org (execTailWrite ep d v bell s) := by
  delta execTailWrite
  repeat' first
    | with_reducible assumption
    | with_reducible refine Runs.next ?_
    | with_reducible apply State.hostWrite_keeps
    | with_reducible refine Runs.ite ?_ ?_

theorem execTransferStart_runs {org s : State} (ep : Endpoint) (h : Keeps org s) :
    Runs org (execTransferStart ep s) := by
  delta execTransferStart
  repeat' first
    | with_reducible assumption
    | with_reducible refine Runs.next ?_
    | with_reducible apply State.hostWriteInt_keeps
    | with_reducible refine Runs.ite ?_ ?_

theorem execTrigger_runs {org s : State} (ep : Endpoint) (q : Seq) (h : Keeps org s) :
    Runs org (execTrigger ep q s) := by
  delta execTrigger
  repeat' first
    | with_reducible assumption
    | with_reducible refine Runs.next ?_
    | with_reducible apply State.hostWriteInt_keeps
    | with_reducible refine Runs.ite ?_ ?_

theorem execWatchdogArm_runs {org s : State} (ep : Endpoint) (t : Tenant) (v : Nat) (h : Keeps org s) :
    Runs org (execWatchdogArm ep t v s) := by
  delta execWatchdogArm
  repeat' first
    | with_reducible assumption
    | with_reducible refine Runs.next ?_
    | with_reducible apply State.hostWriteInt_keeps
    | with_reducible refine Runs.ite ?_ ?_

theorem execAnswer_runs {org s : State} (ep : Endpoint) (t : Tenant) (token : Nat) (h : Keeps org s) :
    Runs org (execAnswer ep t token s) := by
  delta execAnswer
  repeat' first
    | with_reducible assumption
    | with_reducible refine Runs.next ?_
    | with_reducible apply State.hostWriteInt_keeps
    | with_reducible refine Runs.ite ?_ ?_

theorem execAdjourn_runs {org s : State} (ep : Endpoint) (t : Tenant) (ms : Nat) (h : Keeps org s) :
    Runs org (execAdjourn ep t ms s) := by
  delta execAdjourn
  repeat' first
    | with_reducible assumption
    | with_reducible refine Runs.next ?_
    | with_reducible apply State.hostWriteInt_keeps
    | with_reducible refine Runs.ite ?_ ?_

theorem execRtcSet_runs {org s : State} (ep : Endpoint) (v : Nat) (h : Keeps org s) :
    Runs org (execRtcSet ep v s) := by
  delta execRtcSet
  repeat' first
    | with_reducible assumption
    | with_reducible refine Runs.next ?_
    | with_reducible apply State.hostWriteInt_keeps
    | with_reducible refine Runs.ite ?_ ?_

theorem execPonAssert_runs {org s : State} (ep : Endpoint) (h : Keeps org s) :
    Runs org (execPonAssert ep s) := by
  delta execPonAssert
  repeat' first
    | with_reducible assumption
    | with_reducible refine Runs.next ?_
    | with_reducible apply State.hostWriteInt_keeps
    | with_reducible refine Runs.ite ?_ ?_

theorem execPonRelease_runs {org s : State} (ep : Endpoint) (h : Keeps org s) :
    Runs org (execPonRelease ep s) := by
  delta execPonRelease
  repeat' first
    | with_reducible assumption
    | with_reducible refine Runs.next ?_
    | with_reducible apply State.hostWriteInt_keeps
    | with_reducible refine Runs.ite ?_ ?_

theorem execAttestChallenge_runs {org s : State} (ep : Endpoint) (data : List Byte) (h : Keeps org s) :
    Runs org (execAttestChallenge ep data s) := by
  delta execAttestChallenge
  repeat' first
    | with_reducible assumption
    | with_reducible refine Runs.next ?_
    | with_reducible apply State.hostWrite_keeps
    | with_reducible refine Runs.ite ?_ ?_

theorem execSessionOpen_runs {org s : State} (ep : Endpoint) (data : List Byte) (h : Keeps org s) :
    Runs org (execSessionOpen ep data s) := by
  delta execSessionOpen
  repeat' first
    | with_reducible assumption
    | with_reducible refine Runs.next ?_
    | with_reducible apply State.hostWrite_keeps
    | with_reducible refine Runs.ite ?_ ?_

theorem execSessionClose_runs {org s : State} (ep : Endpoint) (h : Keeps org s) :
    Runs org (execSessionClose ep s) := by
  delta execSessionClose
  repeat' first
    | with_reducible assumption
    | with_reducible refine Runs.next ?_
    | with_reducible apply State.hostWriteInt_keeps
    | with_reducible refine Runs.ite ?_ ?_

theorem execAuthWrite_runs {org s : State} (ep : Endpoint) (data : List Byte) (h : Keeps org s) :
    Runs org (execAuthWrite ep data s) := by
  delta execAuthWrite
  repeat' first
    | with_reducible assumption
    | with_reducible refine Runs.next ?_
    | with_reducible apply State.hostWrite_keeps
    | with_reducible refine Runs.ite ?_ ?_

theorem execAuthReadRequest_runs {org s : State} (ep : Endpoint) (data : List Byte) (h : Keeps org s) :
    Runs org (execAuthReadRequest ep data s) := by
  delta execAuthReadRequest
  repeat' first
    | with_reducible assumption
    | with_reducible refine Runs.next ?_
    | with_reducible apply State.hostWrite_keeps
    | with_reducible refine Runs.ite ?_ ?_

theorem execUsdoRequest_runs {org s : State} (t : Tenant) (begins write last : Bool) (addr : Nat) (data : List Byte) (h : Keeps org s) :
    Runs org (execUsdoRequest t begins write last addr data s) := by
  delta execUsdoRequest
  repeat' first
    | with_reducible assumption
    | with_reducible refine Runs.next ?_
    | with_reducible apply State.usdoRequest_keeps
    | with_reducible refine Runs.ite ?_ ?_

theorem execRpdoReceived_runs {org s : State} (x : Fin 64) (data : List Byte) (h : Keeps org s) :
    Runs org (execRpdoReceived x data s) := by
  delta execRpdoReceived
  repeat' first
    | with_reducible assumption
    | with_reducible refine Runs.next ?_
    | with_reducible apply State.rpdoReceived_keeps
    | with_reducible refine Runs.ite ?_ ?_

theorem execTransferRead_runs {org s : State} (f : Func) (addr off len : Nat) (h : Keeps org s) :
    Runs org (execTransferRead f addr off len s) := by
  delta execTransferRead
  repeat' first
    | with_reducible assumption
    | with_reducible refine Runs.next ?_
    | with_reducible apply State.transferRead_keeps
    | with_reducible refine Runs.ite ?_ ?_

theorem execTransferWrite_runs {org s : State} (f : Func) (addr len : Nat) (data : List Byte) (h : Keeps org s) :
    Runs org (execTransferWrite f addr len data s) := by
  delta execTransferWrite
  repeat' first
    | with_reducible assumption
    | with_reducible refine Runs.next ?_
    | with_reducible apply State.transferWrite_keeps
    | with_reducible refine Runs.ite ?_ ?_

theorem execRingHeadPop_runs {org s : State} (f : Func) (i k : Nat) (h : Keeps org s) :
    Runs org (execRingHeadPop f i k s) := by
  delta execRingHeadPop
  repeat' first
    | with_reducible assumption
    | with_reducible refine Runs.next ?_
    | with_reducible apply State.ringHeadPop_keeps
    | with_reducible refine Runs.ite ?_ ?_

theorem execPeakRead_runs {org s : State} (f : Func) (n : Chan) (volt : Bool) (h : Keeps org s) :
    Runs org (execPeakRead f n volt s) := by
  delta execPeakRead
  repeat' first
    | with_reducible assumption
    | with_reducible refine Runs.next ?_
    | with_reducible apply State.slotRead_keeps
    | with_reducible apply State.answer_keeps
    | with_reducible refine Runs.ite ?_ ?_
    | with_reducible refine Keeps.ite ?_ ?_

theorem execRead_runs {org s : State} (ep : Endpoint) (addr len crc : Nat) (h : Keeps org s) :
    Runs org (execRead ep addr len crc s) := by
  delta execRead
  repeat' first
    | with_reducible assumption
    | with_reducible refine Runs.next ?_
    | with_reducible apply State.requestFrame_keeps
    | with_reducible apply State.frameRead_keeps
    | with_reducible refine Runs.ite ?_ ?_
    | (intro _ _ _)
    | (intro _ _)

theorem execWrite_runs {org s : State} (ep : Endpoint) (addr : Nat) (data : List Byte) (crc : Nat) (h : Keeps org s) :
    Runs org (execWrite ep addr data crc s) := by
  delta execWrite
  repeat' first
    | with_reducible assumption
    | with_reducible refine Runs.next ?_
    | with_reducible apply State.requestFrame_keeps
    | with_reducible apply State.takeWrite_keeps
    | with_reducible refine Runs.ite ?_ ?_
    | (intro _ _ _)
    | (intro _ _)

theorem execReadAt_runs {org s : State} (ep : Endpoint) (addr len off crc : Nat) (h : Keeps org s) :
    Runs org (execReadAt ep addr len off crc s) := by
  delta execReadAt
  repeat' first
    | with_reducible assumption
    | with_reducible refine Runs.next ?_
    | with_reducible apply State.requestFrame_keeps
    | with_reducible apply State.frameRead_keeps
    | with_reducible refine Runs.ite ?_ ?_
    | (intro _ _ _)
    | (intro _ _)

theorem execLoad_runs {org s : State} (ep : Endpoint) (off : Nat) (data : List Byte) (crc : Nat) (h : Keeps org s) :
    Runs org (execLoad ep off data crc s) := by
  delta execLoad
  repeat' first
    | with_reducible assumption
    | with_reducible refine Runs.next ?_
    | with_reducible apply State.requestFrame_keeps
    | with_reducible apply State.frameLoad_keeps
    | with_reducible refine Runs.ite ?_ ?_
    | (intro _ _ _)
    | (intro _ _)

theorem execWriteBuffer_runs {org s : State} (ep : Endpoint) (addr len crc : Nat) (h : Keeps org s) :
    Runs org (execWriteBuffer ep addr len crc s) := by
  delta execWriteBuffer
  repeat' first
    | with_reducible assumption
    | with_reducible refine Runs.next ?_
    | with_reducible apply State.requestFrame_keeps
    | with_reducible apply State.frameBuffer_keeps
    | with_reducible refine Runs.ite ?_ ?_
    | (intro _ _ _)
    | (intro _ _)

theorem execBrokenFrame_runs {org s : State} (ep : Endpoint) (h : Keeps org s) :
    Runs org (execBrokenFrame ep s) := by
  delta execBrokenFrame
  repeat' first
    | with_reducible assumption
    | with_reducible refine Runs.next ?_
    | with_reducible apply State.frameBroken_keeps
    | with_reducible refine Runs.ite ?_ ?_

theorem execCsConflict_runs {org s : State} (h : Keeps org s) :
    Runs org (execCsConflict s) := by
  delta execCsConflict
  repeat' first
    | with_reducible assumption
    | with_reducible refine Runs.next ?_
    | with_reducible apply State.spiConflict_keeps
    | with_reducible refine Runs.ite ?_ ?_

theorem execResponseFetch_runs {org s : State} (a : Nat) (h : Keeps org s) :
    Runs org (execResponseFetch a s) := by
  delta execResponseFetch
  repeat' first
    | with_reducible assumption
    | with_reducible refine Runs.next ?_
    | with_reducible apply State.responseFetch_keeps
    | with_reducible refine Runs.ite ?_ ?_

end Sys2Proof.Machine
end

