-- ==== Sys2Proof/Tests/Slice0.lean ====
section
/-!
SUPPORT. The model's own tests: an ill-formed command for each check of WellFormed, the worked examples of the spec (each
test names its place), published test vectors of the ciphers, and for each statement with hypotheses a state and operands
that meet them together.
-/
namespace Sys2Proof.Tests
open Sys2Proof Sys2Proof.Machine

set_option Elab.async false

/-- The reset state but for the time, the frame count and the given registers. -/
def st (time frame : Nat) (regs : List (Nat × Int)) : State :=
  { regs.foldl (fun s r => s.set r.1 r.2) State.reset with time := time, frame := frame }

/-- Whether a command answers a next state that passes a check. -/
def after (c : Instr) (s : State) (f : State → Bool) : Bool :=
  match exec c s with
  | .next t => f t
  | _ => false

/-- The bytes of a list of numbers. -/
def by8 (l : List Nat) : List Byte := l.map (BitVec.ofNat 8 ·)

/-- A site with nothing unusual about it. -/
def plain : Opening :=
  { clockUs := 100, external := false, straps := [0, 0, 0], lanes := [(2, 50), (2, 50), (2, 50), (2, 50)], recordsUs := 100,
    readyUs := 2000, bringUs := 100, lost := 0, hang := 0 }

/-! ### WellFormed -/

/-- R65: node IDs are 1 to 127, chip selects 0 to 3, target addresses 0x08 to 0x77. -/
theorem test_wellFormed_endpoint :
    (Instr.hold (.can 0 1)).wellFormed = true ∧ (Instr.hold (.can 0 127)).wellFormed = true ∧
    (Instr.hold (.can 0 0)).wellFormed = false ∧ (Instr.hold (.can 1 128)).wellFormed = false ∧
    (Instr.hold (.spi 3)).wellFormed = true ∧ (Instr.hold (.spi 4)).wellFormed = false ∧
    (Instr.hold (.twoWire 0x08)).wellFormed = true ∧ (Instr.hold (.twoWire 0x77)).wellFormed = true ∧
    (Instr.hold (.twoWire 0x07)).wellFormed = false ∧ (Instr.hold (.twoWire 0x78)).wellFormed = false := by decide

/-- R384, R391: frames arrive on SPI and on the two-wire bus alone; their fields have 24, 16 and 32 bits. -/
theorem test_wellFormed_frames :
    (Instr.read (.spi 0) 0xFFFFFF 1 0xFFFF).wellFormed = true ∧ (Instr.read (.pcie 0) 0 1 0).wellFormed = false ∧
    (Instr.read (.spi 0) 0x1000000 1 0).wellFormed = false ∧ (Instr.read (.spi 0) 0 0x10000 0).wellFormed = false ∧
    (Instr.read (.spi 0) 0 1 0x10000).wellFormed = false ∧ (Instr.write (.can 0 1) 0 [] 0).wellFormed = false ∧
    (Instr.readAt (.spi 0) 0 1 0x100000000 0).wellFormed = false ∧ (Instr.load (.spi 0) 0x1000000 [] 0).wellFormed = false ∧
    (Instr.writeBuffer (.twoWire 0x20) 0 0x10000 0).wellFormed = false ∧ (Instr.brokenFrame (.pcie 1)).wellFormed = false := by
  decide

/-- The widths of the operands that a write carries. -/
theorem test_wellFormed_values :
    (Instr.objectWrite (.spi 0) 0x1000000 []).wellFormed = false ∧
    (Instr.levelViewWrite (.spi 0) 0 0 0x80000000).wellFormed = false ∧
    (Instr.levelViewWrite (.spi 0) 0 0 (-0x80000000)).wellFormed = true ∧
    (Instr.commit (.spi 0) 0x100000000).wellFormed = false ∧ (Instr.barrierId (.spi 0) 0x100000000).wellFormed = false ∧
    (Instr.trumpRelease (.spi 0) 0 0x10000).wellFormed = false ∧ (Instr.resolveSkip (.spi 0) 0 256).wellFormed = false ∧
    (Instr.resolveRetry (.spi 0) 0 256).wellFormed = false ∧ (Instr.fence (.spi 0) (2 ^ 64)).wellFormed = false ∧
    (Instr.watchdogArm (.spi 0) 0 (2 ^ 64)).wellFormed = false ∧ (Instr.answer (.spi 0) 0 (2 ^ 32)).wellFormed = false ∧
    (Instr.rtcSet (.spi 0) (2 ^ 64)).wellFormed = false ∧ (Instr.wakeClear (.spi 0) 0x10000).wellFormed = false ∧
    (Instr.tailWrite (.spi 0) 0 0x10000 false).wellFormed = false ∧ (Instr.queryKind (.spi 0) 0x10000).wellFormed = false := by
  decide

/-- The counts of samples and what the ports carry. -/
theorem test_wellFormed_events :
    (Instr.measurementRound 0 [] [] 0 0 0 0 0).wellFormed = false ∧ (Instr.uplinkFrameReceived 0 true 0 [512]).wellFormed = false ∧
    (Instr.syncReceived 0 (some 256)).wellFormed = false ∧ (Instr.auditSweepEnd [0]).wellFormed = false ∧
    (Instr.dieRecheck 0 (2 ^ 64)).wellFormed = false ∧ (Instr.converterStartCheck 0 [] []).wellFormed = false ∧ (Instr.converterStartCheck 0 [0] [0]).wellFormed = false ∧ (Instr.converterCycleEnd 0 []).wellFormed = false ∧
    (Instr.truncationCrossing 0 0 []).wellFormed = false ∧ (Instr.converterUndervoltage 0 [[]]).wellFormed = false ∧
    (Instr.hiccupResume 0 [] []).wellFormed = false ∧ (Instr.rpdoReceived 0 (List.replicate 65 0)).wellFormed = false ∧
    (Instr.closedChargeDrop [1, 2, 3]).wellFormed = false ∧ (Instr.sigmaSample 0x800000).wellFormed = false ∧
    (Instr.sigmaSample (-0x800000)).wellFormed = true ∧ (Instr.criticalMemoryError none (2 ^ 32)).wellFormed = false ∧
    (Instr.descriptorComplete 0 1 0).wellFormed = false ∧ (Instr.nmtStart 0 128).wellFormed = false ∧
    (Instr.usdoRequest 0 true true true 0x1000000 []).wellFormed = false ∧
    (Instr.timeReceived 0 (2 ^ 28) 0).wellFormed = false ∧ (Instr.transferRead 0 0 0 (2 ^ 32)).wellFormed = false ∧
    (Instr.ringHeadPop 0 0 (2 ^ 32)).wellFormed = false ∧ (Instr.transferDone 5 0 []).wellFormed = false ∧
    (Instr.arbitrationLost (some 128) 0).wellFormed = false ∧ (Instr.clockLowTimeout 128 0).wellFormed = false ∧
    (Instr.inbandRequest 256).wellFormed = false ∧ (Instr.randomSourceFault 256).wellFormed = false ∧
    (Instr.pcieLinkChanged 3 0 0 0).wellFormed = false ∧ (Instr.pcieLinkChanged 2 4 0 0).wellFormed = false := by decide

/-- R7, R306: die codes 5 and 6 are never issued, a site names the die that its message comes from, and the codes, addresses and
words of a report have their widths. -/
theorem test_wellFormed_sites :
    (Instr.criticalMemoryError none 0x00800000).wellFormed = true ∧ (Instr.criticalMemoryError none 0xA0000000).wellFormed = false ∧
    (Instr.criticalMemoryError (some 2) 0x60000000).wellFormed = true ∧
    (Instr.criticalMemoryError (some 2) 0x40000000).wellFormed = false ∧ (Instr.faultMessage none).wellFormed = true ∧
    (Instr.faultMessage (some (.unknown 0x10000 0))).wellFormed = false ∧
    (Instr.faultMessage (some (.corrected 0xC0000000 0 0))).wellFormed = false ∧
    (Instr.faultMessage (some (.uncorrectable 0 0 0x10000 [] []))).wellFormed = false := by decide

/-- R268, R271: an opening with a step, a lane count, a region or a strap read that there is not. -/
theorem test_wellFormed_opening :
    (Instr.resetRelease plain).wellFormed = true ∧ (Instr.resetRelease { plain with hang := 7 }).wellFormed = false ∧
    (Instr.parkExit { plain with lanes := [] }).wellFormed = false ∧ (Instr.parkExit { plain with lost := 512 }).wellFormed = false ∧
    (Instr.resetRelease { plain with straps := [256] }).wellFormed = false ∧
    (Instr.resetRelease { plain with lanes := [(3, 0), (2, 0), (2, 0), (2, 0)] }).wellFormed = false := by decide

/-! ### The worked examples of the spec -/

/-- R7, R8, R18, R19: the sites worked out in 00_scope (CH300), 01_architecture (BK21, L07), 06 (step 4, RSO04), 07 (CV0, L05),
13 (CH150) and 19 (WD07). -/
theorem test_sites :
    siteChannel 300 0 = 0x6B000000 ∧ siteBank 21 0x81 = 0x74204000 ∧ siteBlock 0x17 0 0 = 0x05C00000 ∧
    siteBlock 0x7F 1 4 = 0x1FC04004 ∧ siteRso 4 = 0x1FC50000 ∧ siteConverter 0 0 = 0x0C000000 ∧
    siteBlock 0x15 0x02 0 = 0x05408000 ∧ siteChannel 150 0 = 0x45800000 ∧ siteWd 7 = 0x1FC80007 := by decide

/-- The object addresses of 25_object_index (HARD_SHORT_LEVEL of CH210, held on CD1), 15 (I_MEAN of CH181), 13 (ADMIT_WAIT of
CH150), 21 (AUTH_WRITE) and 14 (descriptor 100 of DS06). -/
theorem test_addresses :
    CHANNEL_PROTECTION.HARD_SHORT_LEVEL 210 = 0x32D201 ∧ heldDie 0x32D201 = some 1 ∧ CHANNEL_STATUS.I_MEAN 181 = 0x34B505 ∧
    CHANNEL_PROTECTION.ADMIT_WAIT 150 = 0x32962D ∧ SESSION_CONTROL.AUTH_WRITE 0 = 0x280207 ∧ descWord 100 0 = 0x2A4311 ∧
    descWord 101 2 = 0x2A4317 := by decide

/-- R60, the example of 02: the serialisation of a shunt of 1.5 mΩ and of 0x3005:03 = 2. -/
theorem test_serialisation :
    let s := st 0 0 [(CHANNEL_CONFIG.SHUNT_RESISTANCE 5, 1500000), (0x300503, 2)]
    [0x300502, 0x300503].flatMap s.digestEntry = by8 [0x02, 0x05, 0x30, 0x60, 0xE3, 0x16, 0x00, 0x03, 0x05, 0x30, 0x02] := by
  decide +kernel

/-- R384, the example of 15: the CRC of the request 01 05 B5 34 04 00. -/
theorem test_crc16 : crc16 (by8 [0x01, 0x05, 0xB5, 0x34, 0x04, 0x00]) = 0xF0D2 := by decide +kernel

/-- R384, R385, the example of 15: the safety supervisor on chip select 2 reads 31.2456 A from CH181. -/
theorem test_spi_read :
    after (.read (.spi 2) 0x34B505 4 0xF0D2)
      (st 0 0 [(DEV_STATE, 1), (PORTS_READY, 1), (TENANT.ENDPOINT 3, 0x3002), (TENANT.ADMITTED 3, 1),
        (CHANNEL_CONFIG.SHUNT_RESISTANCE 181, 1500000), (CHANNEL_STATUS.I_MEAN 181, 312456)])
      (fun t => t.resp == .frame (responseBytes 0 (by8 [0x04, 0x00, 0x88, 0xC4, 0x04, 0x00]))) = true := by decide +kernel

/-- R174, the example of 06: LV_UV_FAULT := 200,000 and then LV_UV_WARN := 220,000 stage UV_LEVEL 200,000 and UV_HYST 20,000, and
so they do in the opposite order. -/
theorem test_level_view :
    let a := (((st 0 0 []).writeLevelView 3 7 0x0D 200000).2.writeLevelView 3 7 0x0C 220000).2.stagedValues 3
    let b := (((st 0 0 []).writeLevelView 3 7 0x0C 220000).2.writeLevelView 3 7 0x0D 200000).2.stagedValues 3
    lookupKey a (CHANNEL_SUPERVISION.UV_LEVEL 7) = some 200000 ∧ lookupKey a (CHANNEL_SUPERVISION.UV_HYST 7) = some 20000 ∧
    lookupKey b (CHANNEL_SUPERVISION.UV_LEVEL 7) = some 200000 ∧ lookupKey b (CHANNEL_SUPERVISION.UV_HYST 7) = some 20000 := by
  decide +kernel

/-- R233, the example of 08: the rest after the last bulk pulse at 54.12 V begins the taper, with 108,000 ms. -/
theorem test_taper_begins :
    after (.chargeRestEnd 541200 0 0)
      (st 10000000 0 [(CHARGER.CHARGE_VOLTAGE_MAX, 556000), (CHARGER.TARGET_VOLTAGE, 552000), (CHARGER.TAPER_START, 540000),
        (CHARGER.BULK_CURRENT, 400000), (CHARGER.BULK_ON_TIME, 120000), (CHARGER.REST_TIME, 10000),
        (ESTIMATOR.BATT_SHUNT_RESISTANCE, 100000), (CHARGER_STATUS.STAGE, 2), (CHARGER_STATUS.PHASE, 2)])
      (fun t => t.chPhase == 3 && t.nat CHARGER_STATUS.ON_TIME == 108000) = true := by decide +kernel

/-- R233, the example of 08: after T3 at 54.99 V the next pulse lasts 3,969 ms, and after T4 at 55.11 V 1,000 ms. -/
theorem test_taper_goes_on :
    let s := fun (t : Int) => st 10000000 0 [(CHARGER.CHARGE_VOLTAGE_MAX, 556000), (CHARGER.TARGET_VOLTAGE, 552000),
      (CHARGER.TAPER_START, 540000), (CHARGER.BULK_CURRENT, 400000), (CHARGER.BULK_ON_TIME, 120000), (CHARGER.REST_TIME, 10000),
      (ESTIMATOR.BATT_SHUNT_RESISTANCE, 100000), (CHARGER_STATUS.STAGE, 2), (CHARGER_STATUS.PHASE, 3), (CH_T_PREV, t)]
    after (.chargeRestEnd 549900 0 0) (s 22680) (fun t => t.nat CHARGER_STATUS.ON_TIME == 3969) = true ∧
    after (.chargeRestEnd 551100 0 0) (s 3969) (fun t => t.nat CHARGER_STATUS.ON_TIME == 1000) = true ∧
    after (.chargeRestEnd 552100 0 0) (s 1000) (fun t => t.chPhase == 4) = true := by decide +kernel

/-- R66, the example of 10: CFG1, CFG3 and CFG4 high give CAN1 with node 0x01, profile 3, PCIe off and the target address 0x52. -/
theorem test_straps :
    let s := st 0 0 [(STRAPS.STRAP_VALUE, 0x1A)]
    s.openArbiter.nat (TENANT.ENDPOINT 0) = 0x2001 ∧ s.openArbiter.nat (TENANT.ADMITTED 0) = 1 ∧ s.profile = 3 := by
  decide +kernel

/-- R405, the example of 17: x = 52,429 with SCALE 1 and SCALE_GAIN 10,000,000 gives 8,000,031. -/
theorem test_hk_scale :
    (st 0 0 [(HK_ENTRY.SCALE 0, 1), (HK_ENTRY.SCALE_GAIN 0, 10000000)]).hkValue 0 52429 1 = (8000031, false) := by decide +kernel

/-- R444, the example of 20: 984,551,400 s are Friday 2031-03-14T06:30:00. -/
theorem test_calendar : calendarOf 984551400 = 0x07EF030E061E0004 := by decide +kernel

/-- R373, the example of 20: the TIME message with D = 17,239 and m = 23,400,000 sets that time. -/
theorem test_time_message :
    after (.timeReceived 0 23400000 17239) (st 0 0 [(DEV_STATE, 1), (PORTS_READY, 1), (CAN_PORT.BUS_STATE 0, 0), (CAN_PORT.TIME_ACCEPT 0, 1)])
      (fun t => t.rtcSeconds == 984551400) = true := by decide +kernel

/-- R428, the example of 19: the bytes of the token for QUESTION 0x7A13C6E5 and ANSWER_COUNT 0. -/
theorem test_token_bytes :
    leBytes 4 0x7A13C6E5 ++ leBytes 4 0x2C91A04E ++ leBytes 4 0 =
      by8 [0xE5, 0xC6, 0x13, 0x7A, 0x4E, 0xA0, 0x91, 0x2C, 0, 0, 0, 0] := by decide +kernel

/-- R462, the example of 21: the ten bytes of the envelope carry counter 261, REQUEST of CH181, length 1 and the value 1. -/
theorem test_envelope :
    let b := by8 [0x05, 0x01, 0x00, 0x00, 0x01, 0xB5, 0x30, 0x01, 0x00, 0x01]
    envCounter b = 261 ∧ envAddress b = 0x30B501 ∧ envLength b = 1 ∧ envValue b = [0x01#8] := by decide +kernel

/-- R353, the example of 14: the 17 bytes of descriptor 100 go out as one write of five doublewords. -/
theorem test_beats :
    beatsOf 4 0x7F3000001006
        (by8 [0xFB, 0x1A, 0x06, 0x00, 0x20, 0x0C, 0x02, 0x00, 0xE4, 0x0B, 0x54, 0x02, 0x00, 0x01, 0x00, 0x06, 0x18]) =
      [⟨0x7F3000001004, 12, by8 [0, 0, 0xFB, 0x1A]⟩, ⟨0x7F3000001008, 15, by8 [0x06, 0x00, 0x20, 0x0C]⟩,
        ⟨0x7F300000100C, 15, by8 [0x02, 0x00, 0xE4, 0x0B]⟩, ⟨0x7F3000001010, 15, by8 [0x54, 0x02, 0x00, 0x01]⟩,
        ⟨0x7F3000001014, 7, by8 [0x00, 0x06, 0x18, 0]⟩] := by decide +kernel

/-! ### Published vectors -/

/-- RFC 6979, A.2.5: the public key on P-256, and the signature of "sample" with SHA-256. -/
theorem test_ecdsa :
    let d := 0xC9AFA9D845BA75166B5C215767B1D6934E50C3DB36E89B127B8A622B120F6721
    let k := 0xA6E3C57DD01ABE90086538398355DD4C3B17AA873382B0F24D6129493D8AAD60
    P256.publicOf d =
      beBytes 32 0x60FED4BA255A9D31C961EB74C6356D68C049B8923B61FA6CE669622E60F29FB6 ++
        beBytes 32 0x7903FE1008B8BC99A41AE9E95628BC64F2F1B20C2D7E9F5177A3C294D4462299 ∧
    P256.sign d k (sha256 (asciiBytes "sample")) =
      beBytes 32 0xEFD48B2AACB6A8FD1140DD9CD45E81D69D2C877B56AAF991C34D0EA84EAF3716 ++
        beBytes 32 0xF7CB1C942D657C41D436C7A1B6E29F65F3E900DBB9AFF4064DC4AB2F843ACDA8 := by decide +kernel

/-- FIPS 180-4: SHA-256 of "abc" begins with ba7816bf 8f01cfea. -/
theorem test_sha256 :
    (sha256 (asciiBytes "abc")).take 8 = by8 [0xBA, 0x78, 0x16, 0xBF, 0x8F, 0x01, 0xCF, 0xEA] := by decide +kernel

/-- FIPS 197: the S-box sends 0x53 to 0xED and 0x00 to 0x63, and the column db 13 53 45 mixes into 8e 4d a1 bc. -/
theorem test_aes_parts :
    subByte 0x53 = 0xED ∧ subByte 0x00 = 0x63 ∧ mixColumn (by8 [0xDB, 0x13, 0x53, 0x45]) = by8 [0x8E, 0x4D, 0xA1, 0xBC] := by
  decide +kernel

/-- RFC 3720: CRC-32C of 32 bytes of 0 is 0x8A9136AA. -/
theorem test_crc32c : crc32c (List.replicate 32 0) = 0x8A9136AA := by decide +kernel

/-! ### States and operands that meet the hypotheses of the statements

One theorem for each statement with hypotheses, one witness for each of its clauses. -/

/-- The state after a command (the same state where it stops). -/
def next (c : Instr) (s : State) : State :=
  match exec c s with
  | .next t => t
  | _ => s

/-- The checks of Accepts, evaluated. -/
def acceptsB (s : State) (ep : Endpoint) (u : Nat) (form : WriteForm) (addr : Nat) (v : Int) (b : List Byte) : Bool :=
  s.endpointUp ep && s.tenantAt ep == some u && s.inSession ep == none && !frameLengthBad ep b.length && !slotTooSmall ep form addr &&
    (form != .object || fitsSlot ep b.length) && !s.mustWait ⟨ep, form, addr, b⟩ && s.heldWrites.all (fun x => x.ep != ep) &&
    s.writeCheck (some u) form.via addr b == none && s.valueCheck u addr v b == none &&
    (match subAt addr with
     | none => true
     | some r => s.stateCheck u addr r v == none && v == if r.ty.isString then 0 else r.ty.decode b)

/-- What acceptsB answers is what Accepts says. -/
theorem accepts_iff (s : State) (ep : Endpoint) (u : Nat) (form : WriteForm) (addr : Nat) (v : Int) (b : List Byte) :
    acceptsB s ep u form addr v b = true ↔ Accepts s ep u form addr v b := by
  unfold acceptsB
  constructor
  · intro h
    simp only [Bool.and_eq_true, beq_iff_eq, Bool.not_eq_true', Bool.or_eq_true, bne_iff_ne, List.all_eq_true] at h
    obtain ⟨⟨⟨⟨⟨⟨⟨⟨⟨⟨h1, h2⟩, h3⟩, h4⟩, h5⟩, h6⟩, h7⟩, h8⟩, h9⟩, h10⟩, h11⟩ := h
    refine ⟨h1, h2, h3, ⟨h4, h5⟩, fun e => h6.resolve_left (fun hn => hn e), ⟨h7, h8⟩, h9, h10, ?_, ?_⟩ <;>
      · intro r hr
        simp only [hr, Bool.and_eq_true, beq_iff_eq] at h11
        first | exact h11.1 | exact h11.2
  · intro h
    simp only [Bool.and_eq_true, beq_iff_eq, Bool.not_eq_true', Bool.or_eq_true, bne_iff_ne, List.all_eq_true]
    refine ⟨⟨⟨⟨⟨⟨⟨⟨⟨⟨h.up, h.tenant⟩, h.session⟩, h.fits.1⟩, h.fits.2⟩, ?_⟩, h.free.1⟩, h.free.2⟩, h.checks⟩, h.value⟩, ?_⟩
    · by_cases e : form = .object
      · exact Or.inr (h.slot e)
      · exact Or.inl e
    · cases hr : subAt addr with
      | none => rfl
      | some r => simpa using ⟨h.state r hr, h.spells r hr⟩

/-- The state of the witnesses of the envelopes: TN00 on SPI, with an open session and its key. -/
def sessionState : State :=
  (st 0 0 [(SESSION_CONTROL.SESSION_STATE 0, 2), (TENANT.ENDPOINT 0, 0x3000), (DEV_STATE, 1), (PORTS_READY, 1)]).setBlob (KEY_HD 0)
    (List.replicate 16 1)

/-- R464: an envelope under the key of TN00's session in that state. -/
def envelope (body : List Byte) : List Byte :=
  body ++ cmac (sessionState.blob (KEY_HD 0)) (leInt 4 (sessionState.get (SESSION_ID 0)) ++ body)

/-- An envelope with its own tag, of the right size and with a counter above the last, passes. -/
theorem envelope_passes (body : List Byte) (sized : Bool) (hz : sized = true)
    (hl : (cmac (sessionState.blob (KEY_HD 0)) (leInt 4 (sessionState.get (SESSION_ID 0)) ++ body)).length = 8)
    (hc : sessionState.nat (SESSION_CONTROL.LAST_COUNTER 0) < envCounter (envelope body)) :
    sessionState.envelopeFailure 0 (envelope body) sized = none := by
  have hs : sessionState.nat (SESSION_CONTROL.SESSION_STATE 0) = 2 := by decide +kernel
  have hn : (envelope body).length - 8 = body.length := by simp [envelope, hl]
  have ht : (envelope body).take body.length = body := by simp [envelope]
  have hd : (envelope body).drop body.length =
      cmac (sessionState.blob (KEY_HD 0)) (leInt 4 (sessionState.get (SESSION_ID 0)) ++ body) := by simp [envelope]
  simp only [State.envelopeFailure, hn, ht, hd, hs, hz]
  simp [Nat.not_le.mpr hc]

/-- EveryStepKeepsSafe, CommandsLeaveTheRest, StepIdlesOnAnEmptyQueue: the block right after reset. -/
theorem met_EveryStepKeepsSafe :
    Safe State.reset ∧ State.reset.pending = [] ∧ (∃ t, step State.reset = .next t) ∧ ∃ t, exec .frameBoundary State.reset = .next t :=
  ⟨by decide +kernel, rfl, ⟨_, rfl⟩, ⟨_, rfl⟩⟩

/-- The state in which most writes of the statements about the host's ports are accepted: TN00 on SPI. -/
def hostState (regs : List (Nat × Int)) : State := st 0 0 ([(TENANT.ENDPOINT 0, 0x3000), (DEV_STATE, 1), (PORTS_READY, 1)] ++ regs)

/-- ValuesWaitForTheirBoundary: a state that accepts each of its writes. -/
theorem met_ValuesWaitForTheirBoundary :
    (∀ w ∈ ([(CHANNEL_CONFIG.REQUEST 0, 0), (CHANNEL_CONFIG.REQUEST 0, 1), (CHANNEL_CONFIG.REQUEST 511, 2), (RESET_OUTPUT.FORCE 0, 1),
        (RESET_OUTPUT.FORCE 0, 0), (CONVERTER.ENABLE 0, 1), (CONVERTER.ENABLE 3, 0), (BATTERY_SWITCH.MODE, 0), (BATTERY_SWITCH.MODE, 1),
        (BATTERY_SWITCH.MODE, 2), (CHARGER.CHARGE_ENABLE, 1), (CHARGER.CHARGE_ENABLE, 0), (POWER_STATE.POWER_MODE, 0),
        (POWER_STATE.POWER_MODE, 1), (EVENT_FABRIC.DEVICE_HOLD, 1), (EVENT_FABRIC.DEVICE_HOLD, 0), (STREAM.RUN 0, 1),
        (STREAM.RUN 0, 0)] : List (Nat × Int)),
      Accepts (hostState []) (.spi 0) 0 .object w.1 w.2 (bytesOf w.1 w.2)) ∧
    Accepts (hostState [(STREAM.DESC_COUNT 0, 2)]) (.spi 0) 0 .object (STREAM.TAIL 0) 1 (leBytes 2 1) := by
  simp only [← accepts_iff]
  decide +kernel

/-- ActionsWaitForTheirBoundary: states that accept each of its writes. -/
theorem met_ActionsWaitForTheirBoundary :
    (∀ w ∈ ([(CHANNEL_CONFIG.CLEAR_LOCKOUT 0, 0xA5), (CHANNEL_SUPERVISION.COUNTER_CLEAR 0, 0xA5), (BANK.CAPTURE_ARM 0, 0xA5),
        (CASTLING_PAIR.SWAP_REQUEST 0, 0), (CASTLING_PAIR.SWAP_REQUEST 0, 1), (OPENING_PLAN.START, 0xA5), (ENDGAME_PLAN.START, 0xA5),
        (OPENING_PLAN.ABORT, 0xA5), (ENDGAME_PLAN.ABORT, 0xA5), (TENANT.TRUMP_RELEASE 0, 0), (SHIP_CONTROL.SHIP_ARM, 0x5A),
        (ASSIST_PORT.ASSIST_START, 0xA5), (ASSIST_PORT.ASSIST_STOP, 0xA5), (BATTERY_RECORD.BATTERY_REPLACED, 0xA5),
        (RESET_CONTROL.DEVICE_RESET, 0xA5), (RESET_CONTROL.DEVICE_RESET, 0x5A), (OPENING_STATUS.JOURNAL_ACK, 0xA5),
        (WAKE_CONFIG.WAKE_CLEAR, 1), (PON_CONTROL.PON_COMMAND, 0xA5), (PON_CONTROL.PON_COMMAND, 0x5A)] : List (Nat × Int)),
      Accepts (hostState []) (.spi 0) 0 .object w.1 w.2 (bytesOf w.1 w.2)) ∧
    (∀ w ∈ ([(CHANNEL_CONFIG.RELEASE_STANDING 0, 0xA5), (SHIP_CONTROL.SHIP_ARM, 0xA5), (CONTROLLER_TRANSFER.TRANSFER_START, 0xA5),
        (OPENING_PLAN.RESOLVE, 1), (OPENING_PLAN.RESOLVE, 257), (OPENING_STATUS.OPENING_RESUME, 0xA5)] : List (Nat × Int)),
      Accepts (hostState [(AMLOR_LINK.LINK_STATE 0, 2), (RTC.RTC_FLAGS, 0), (inForce TWO_WIRE_BUS.ROLE, 1), (OPENING_PLAN.PLAN_STATE, 2),
        (OPENING_STEP_STATE.STATE 0, 5), (OPENING_STATUS.OPENING_STATE, 2)]) (.spi 0) 0 .object w.1 w.2 (bytesOf w.1 w.2)) ∧
    Accepts (hostState [(OPENING_STATUS.OPENING_STATE, 1)]) (.spi 0) 0 .object POWER_STATE.PARK 0xA5 (bytesOf POWER_STATE.PARK 0xA5) := by
  simp only [← accepts_iff]
  decide +kernel

/-- ActsAtAcceptance: a state that accepts each of its writes, with no barrier, no commit in progress and nothing waiting; one with a
barrier; and one with a commit in progress. -/
theorem met_ActsAtAcceptance :
    (∀ w ∈ ([(COMMIT_CONTROL.COMMIT 0, 0), (COMMIT_CONTROL.DISCARD 0, 0xA5), (BARRIER.BARRIER_ID 0, 1), (TENANT.TENANT_RESET 0, 0xA5),
        (KIND_QUERY.QUERY_KIND 0, 0), (RING.FLUSH 0, 0xA5), (TARGET.ARM 0, 0xA5), (HOLD_CONTROL.HOLD 0, 0xA5),
        (HOLD_CONTROL.HOLD 0, 0x5A), (FENCE_CONTROL.FENCE 0, 1), (RTC.RTC_SET, 0)] : List (Nat × Int)),
      Accepts (hostState []) (.spi 0) 0 .object w.1 w.2 (bytesOf w.1 w.2) ∧
        Accepts { hostState [] with barriers := [⟨0, 1, 3, []⟩] } (.spi 0) 0 .object w.1 w.2 (bytesOf w.1 w.2)) ∧
    (hostState []).committing 0 = false ∧ (hostState []).commitBusy 0 = false ∧ (hostState []).barrierEnd 0 = none ∧
    ({ hostState [] with barriers := [⟨0, 1, 3, []⟩] } : State).barrierEnd 0 = some 3 ∧
    Accepts (hostState [(COMMIT_CONTROL.STATUS 0, 3)]) (.spi 0) 0 .object (COMMIT_CONTROL.COMMIT 0) 0
      (bytesOf (COMMIT_CONTROL.COMMIT 0) 0) ∧
    (hostState [(COMMIT_CONTROL.STATUS 0, 3)]).committing 0 = true := by
  simp only [← accepts_iff]
  decide +kernel

/-- LanePeriods: a lane that leads a converter in RUN, whose period has no extra time behind it: switching, in a truncation episode
above the level, and parked by a weight of 0. -/
theorem met_LanePeriods :
    (∃ l : Lane, ∃ s : State, s.nat (LANE.CONVERTER l) < 4 ∧ s.convSwitches (s.nat (LANE.CONVERTER l)) = true ∧
      s.nat (LANE.LANE_MODE l) = 0 ∧ (s.activeLanes (s.nat (LANE.CONVERTER l))).contains l.val = true ∧
      s.convFlag (s.nat (LANE.CONVERTER l)) CFLAG.TRUNCATING = false ∧ s.flag (LANE_EXTRA l) = false ∧
      s.nat (LANE_OFFSET l) = s.laneOffset l + 1) ∧
    (∃ l : Lane, ∃ vs : Int, ∃ s : State, s.nat (LANE.CONVERTER l) < 4 ∧ s.convSwitches (s.nat (LANE.CONVERTER l)) = true ∧
      s.nat (LANE.LANE_MODE l) = 0 ∧ (s.activeLanes (s.nat (LANE.CONVERTER l))).contains l.val = true ∧
      s.convFlag (s.nat (LANE.CONVERTER l)) CFLAG.TRUNCATING = true ∧ s.truncReleased (s.nat (LANE.CONVERTER l)) vs = false ∧
      s.flag (LANE_EXTRA l) = false ∧ s.nat (LANE_OFFSET l) = s.laneOffset l + 1) ∧
    (∃ l : Lane, ∃ s : State, s.nat (LANE.CONVERTER l) < 4 ∧ s.convSwitches (s.nat (LANE.CONVERTER l)) = true ∧
      s.nat (LANE.LANE_MODE l) = 0 ∧ (s.activeLanes (s.nat (LANE.CONVERTER l))).contains l.val = false) :=
  ⟨⟨0, st 0 0 [(LANE.CONVERTER 0, 0), (LANE.SHARE_WEIGHT 0, 1), (LANE.LANE_MODE 0, 0), (CONVERTER_STATUS.STATE 0, 2),
      (LANE_OFFSET 0, 1)], by decide +kernel⟩,
    ⟨0, 1000000, st 0 0 [(LANE.CONVERTER 0, 0), (LANE.SHARE_WEIGHT 0, 1), (LANE.LANE_MODE 0, 0), (CONVERTER_STATUS.STATE 0, 2),
      (LANE_OFFSET 0, 1), (CONVERTER_STATUS.CONV_FLAGS 0, 1), (CONVERTER.TRUNC_LEVEL 0, 0), (CONVERTER.TRUNC_HYST 0, 0)],
      by decide +kernel⟩,
    ⟨0, st 0 0 [(LANE.CONVERTER 0, 0), (LANE.SHARE_WEIGHT 0, 0), (LANE.LANE_MODE 0, 0), (CONVERTER_STATUS.STATE 0, 2)],
      by decide +kernel⟩⟩

/-- The second half of CommitsAndAudits: a sweep that begins, one that ends with a die apart from what is expected of it, and a die whose
digest is asked for again and stays apart: of two values of the upset one makes it so. -/
theorem met_AuditSweeps :
    (∃ s : State, s.portsReady = true ∧ s.flag SW_RUNS = false ∧ s.tick % 100000 = 0 ∧ s.nat LAST_BOUNDARY = s.time) ∧
    (∃ d : Die, ∃ upsets : List Nat, ∃ s : State, s.portsReady = true ∧ s.flag SW_RUNS = true ∧ s.bit SW_DIES d = true ∧
      (s.nat (SW_APPLIED d)).xor (upsets.getD d 0 % 2 ^ 64) ≠ s.nat (SW_EXPECT d)) ∧
    (∃ d : Die, ∃ upset : Nat, ∃ s : State, s.portsReady = true ∧ s.nat (DRIFT_DUE d) = 2 ∧ s.linkUp d = true ∧
      (s.dieDigest d).xor (upset % 2 ^ 64) ≠ s.digest (digestedOnDie d)) := by
  refine ⟨⟨st 1000000 0 [(LAST_BOUNDARY, 1000000), (DEV_STATE, 1), (PORTS_READY, 1)], by decide +kernel⟩,
    ⟨0, [], st 0 0 [(SW_RUNS, 1), (SW_DIES, 1), (SW_EXPECT 0, 1), (DEV_STATE, 1), (PORTS_READY, 1)], by decide +kernel⟩, 0, ?_⟩
  let s := st 0 0 [(DRIFT_DUE 0, 2), (AMLOR_LINK.LINK_STATE 0, 2), (DEV_STATE, 1), (PORTS_READY, 1)]
  have h : s.portsReady = true ∧ s.nat (DRIFT_DUE 0) = 2 ∧ s.linkUp 0 = true := by decide +kernel
  by_cases e : s.dieDigest 0 = s.digest (digestedOnDie 0)
  · refine ⟨1, s, h.1, h.2.1, h.2.2, fun x => ?_⟩
    have y : s.digest (digestedOnDie 0) ^^^ 1 = s.digest (digestedOnDie 0) := by
      rw [show ((0 : Die) : Nat) = 0 from rfl, e] at x
      exact x
    have z := congrArg (s.digest (digestedOnDie 0) ^^^ ·) y
    simp [← Nat.xor_assoc] at z
  · refine ⟨0, s, h.1, h.2.1, h.2.2, fun x => e ?_⟩
    exact (Nat.xor_zero _).symm.trans x

/-- States and operands that meet the hypotheses of LinkFrames, clause by clause. -/
theorem met_LinkFrames :
    (∃ d : Die, ∃ s : State, s.live = true ∧ s.linkUp d = true ∧ s.nat (AMLOR_LINK.LINK_STATE d) = 2 ∧ dieOf 0 = d ∧ 0 < 13) ∧
    (∃ d : Die, ∃ m : DieMsg, ∃ s : State, s.live = true ∧ s.linkUp d = true ∧ s.dieMsgs.find? (fun x => x.die == d.val) = some
      m) :=
  ⟨⟨0, st 0 0 [(AMLOR_LINK.LINK_STATE 0, 2), (DEV_STATE, 1)], by decide +kernel⟩,
    ⟨0, ⟨0, ⟨281474976712056, 1614282752, Kind.CLOCK_FALLBACK, 0, 2, [(1, 0)], true⟩⟩, { st 0 0 [(AMLOR_LINK.LINK_STATE 0, 2),
      (DEV_STATE, 1)] with dieMsgs := [⟨0, ⟨281474976712056, 1614282752, Kind.CLOCK_FALLBACK, 0, 2, [(1, 0)], true⟩⟩] },
      by decide +kernel⟩⟩

/-- States and operands that meet the hypotheses of LinkTrainingAndClocks, clause by clause. -/
theorem met_LinkTrainingAndClocks :
    (∃ d : Die, ∃ s : State, s.live = true ∧ s.linkUp d = true ∧ 3 ≤ s.nat (BAD_FRAMES d)) ∧
    (∃ d : Die, ∃ s : State, s.live = true ∧ s.nat (BAD_FRAMES d) < 3) ∧
    (∃ d : Die, ∃ s : State, s.live = true ∧ s.nat (AMLOR_LINK.LINK_STATE d) = 1) ∧
    (∃ ppm : Int, ∃ s : State, s.live = true ∧ s.nat CLOCK_STATUS.ROOT_SOURCE ≠ 2 ∧ 70000 < ppm.natAbs) ∧
    (∃ ppm : Int, ∃ s : State, s.live = true ∧ s.nat CLOCK_STATUS.ROOT_SOURCE ≠ 2 ∧ ppm.natAbs ≤ 30000) ∧
    (∃ d : Die, ∃ s : State, s.live = true ∧ s.nat CLOCK_STATUS.ROOT_SOURCE ≠ 2 ∧ s.nat (AMLOR_LINK.DIE_REF_SOURCE d) ≠ 1 ∧
      s.nat PARK_STAGE ≠ 2) :=
  ⟨⟨0, st 0 0 [(AMLOR_LINK.LINK_STATE 0, 2), (BAD_FRAMES 0, 3), (DEV_STATE, 1)], by decide +kernel⟩,
    ⟨0, st 0 0 [(DEV_STATE, 1)], by decide +kernel⟩,
    ⟨0, st 0 0 [(AMLOR_LINK.LINK_STATE 0, 1), (DEV_STATE, 1)], by decide +kernel⟩,
    ⟨70001, st 0 0 [(DEV_STATE, 1)], by decide +kernel⟩,
    ⟨0, st 0 0 [(DEV_STATE, 1)], by decide +kernel⟩,
    ⟨0, st 0 0 [(DEV_STATE, 1)], by decide +kernel⟩⟩

/-- States and operands that meet the hypotheses of DiesStand, clause by clause. -/
theorem met_DiesStand :
    (∃ d : Die, ∃ s : State, s.flag (LOGIC_OFF d) = false ∧ s.flag (LOSS_STOOD d) = false ∧ s.nat (LAST_VALID d) + 200 ≤ s.time
      ∧ dieOf 0 = d) ∧
    (∃ d : Die, ∃ s : State, s.flag (LOGIC_OFF d) = false ∧ s.nat DEV_STATE = 0 ∧ dieOf 0 = d) ∧
    (∃ d : Die, ∃ s : State, s.flag (LOGIC_OFF d) = false ∧ s.nat (STAND_DUE d) ≠ 0 ∧ dieOf 0 = d) ∧
    (∃ d : Die, ∃ s : State, s.flag (LOGIC_OFF d) = true ∧ s.nat DEV_STATE = 1 ∧ dieOf 0 = d) ∧
    (∃ d : Die, ∃ s : State, s.flag (LOGIC_OFF d) = false ∧ dieOf 0 = d ∧ isAnchored 0 = true ∧ s.cell 0 ≠ ST.PWM) ∧
    (∃ d : Die, ∃ s : State, s.flag (LOGIC_OFF d) = false ∧ dieOf 12 = d ∧ isAnchored 12 = true ∧ s.cell 12 = ST.PWM) ∧
    (∃ d : Die, ∃ s : State, s.flag (LOGIC_OFF d) = false ∧ dieOf 16 = d ∧ isAnchored 16 = false) :=
  ⟨⟨0, st 200 0 [], by decide +kernel⟩,
    ⟨0, st 0 0 [], by decide +kernel⟩,
    ⟨0, st 0 0 [(STAND_DUE 0, 1)], by decide +kernel⟩,
    ⟨0, st 0 0 [(LOGIC_OFF 0, 1), (DEV_STATE, 1)], by decide +kernel⟩,
    ⟨0, st 0 0 [], by decide +kernel⟩,
    ⟨0, st 0 0 [(CELL 12, 3)], by decide +kernel⟩,
    ⟨0, st 0 0 [], by decide +kernel⟩⟩

/-- States and operands that meet the hypotheses of FramesAndLanding, clause by clause. -/
theorem met_FramesAndLanding :
    (∃ s : State, ∃ l : Landing, s.landing = [l] ∧ s.frame < l.due) ∧
    (∃ s : State, ∃ l : Landing, s.landing = [l] ∧ l.due ≤ s.frame ∧ l.lost = false ∧ s.reaches l = true ∧ s.barred l = false ∧
      s.afterCommit l = false) ∧
    (∃ s : State, ∃ l : Landing, s.landing = [l] ∧ l.due ≤ s.frame ∧ ((l.lost = true ∨ s.reaches l = false ∨ s.barred l = true ∨
      s.afterCommit l = true))) :=
  ⟨⟨{ st 0 0 [] with landing := [⟨4, 70, 1001400, LandAct.fold 1, false⟩] }, ⟨4, 70, 1001400, LandAct.fold 1, false⟩,
      by decide +kernel⟩,
    ⟨{ st 0 70 [] with landing := [⟨4, 70, 1001400, LandAct.fold 1, false⟩] }, ⟨4, 70, 1001400, LandAct.fold 1, false⟩,
      by decide +kernel⟩,
    ⟨{ st 0 70 [] with landing := [⟨5, 70, 1001400, LandAct.fold 0, true⟩] }, ⟨5, 70, 1001400, LandAct.fold 0, true⟩,
      by decide +kernel⟩⟩

/-- States and operands that meet the hypotheses of Measurement, clause by clause. -/
theorem met_Measurement :
    (∃ k : Bank, ∃ s : State, s.flag (LOGIC_OFF (k.val / 8)) = false ∧ s.nat (ROUND_NO k) < 5 ∧ 4 * s.nat (ROUND_NO k) ≤ s.tick
      % 20 ∧ s.slotSkipped (16 * k.val + 0) (s.nat (ROUND_NO k)) = false) ∧
    (∃ k : Bank, ∃ s : State, s.flag (LOGIC_OFF (k.val / 8)) = false ∧ 5 ≤ s.nat (ROUND_NO k)) ∧
    (∃ n : Chan, ∃ s : State, s.nat (RECEIVED n 12) ≠ 0) ∧
    (∃ n : Chan, ∃ s : State, s.nat (RECEIVED n 12) = 0) :=
  ⟨⟨0, st 0 0 [], by decide +kernel⟩,
    ⟨0, st 0 0 [(ROUND_NO 0, 5)], by decide +kernel⟩,
    ⟨0, st 0 0 [(RECEIVED 0 12, 1)], by decide +kernel⟩,
    ⟨13, st 0 0 [], by decide +kernel⟩⟩

/-- States and operands that meet the hypotheses of PumpsAndBuses, clause by clause. -/
theorem met_PumpsAndBuses :
    (∃ k : Bank, ∃ v : Int, ∃ s : State, s.bankFlag k BFLAG.RUNNING = true ∧ 100000 ≤ v) ∧
    (∃ k : Bank, ∃ s : State, s.bankFlag k BFLAG.RUNNING = true ∧ s.bankFlag k BFLAG.READY = false ∧ s.nat (PUMP_START k) + 200
      ≤ s.time ∧ s.bankFlag k BFLAG.PUMP_LOW = false) ∧
    (∃ k : Bank, ∃ v : Int, ∃ s : State, s.bankFlag k BFLAG.RUNNING = true ∧ s.bankFlag k BFLAG.READY = true ∧ v < 90000 ∧
      s.bankFlag k BFLAG.PUMP_LOW = false) ∧
    (∃ k : Bank, ∃ s : State, s.bankFlag k BFLAG.RUNNING = true ∧ s.nat (PUMP_STOP_AT k) ≠ 0 ∧ s.nat (PUMP_STOP_AT k) ≤ s.time ∧
      s.pumpNeeded k = false) ∧
    (∃ k : Bank, ∃ v : Int, ∃ s : State, v < s.get (BANK.BUS_UV_LEVEL k) ∧ s.bankFlag k BFLAG.BUS_UV = false) ∧
    (∃ k : Bank, ∃ v : Int, ∃ s : State, s.bankFlag k BFLAG.BUS_UV = true ∧ s.get (BANK.BUS_UV_LEVEL k) + 5000 ≤ v) :=
  ⟨⟨0, 100000, st 0 0 [(BANK.BANK_FLAGS 0, 1)], by decide +kernel⟩,
    ⟨0, st 200 0 [(BANK.BANK_FLAGS 0, 1)], by decide +kernel⟩,
    ⟨0, 0, st 0 0 [(BANK.BANK_FLAGS 0, 3)], by decide +kernel⟩,
    ⟨0, st 1 0 [(BANK.BANK_FLAGS 0, 1), (PUMP_STOP_AT 0, 1)], by decide +kernel⟩,
    ⟨0, 0, st 0 0 [], by decide +kernel⟩,
    ⟨0, 85000, st 0 0 [(BANK.BANK_FLAGS 0, 8)], by decide +kernel⟩⟩

/-- States and operands that meet the hypotheses of RampsAndPwm, clause by clause. -/
theorem met_RampsAndPwm :
    (∃ n : Chan, ∃ d1 : Int, ∃ d2 : Int, ∃ v1 : Int, ∃ v2 : Int, ∃ s : State, s.cell n = ST.RAMP ∧ d1 ≤ s.get
      (CHANNEL_CONFIG.RAMP_DONE_DROP n) ∧ d2 ≤ s.get (CHANNEL_CONFIG.RAMP_DONE_DROP n) ∧ 90000 < v1 ∧ 90000 < v2 ∧ s.nat
      (inForce (CHANNEL_CONFIG.REQUEST n)) = 2 ∧ (s.standing n = false ∨ s.flag (RAMP_RETRY n) = true)) ∧
    (∃ n : Chan, ∃ s : State, s.cell n = ST.RAMP ∧ s.nat (RAMP_START n) + s.nat (CHANNEL_CONFIG.RAMP_TIMEOUT n) ≤ s.time) ∧
    (∃ n : Chan, ∃ s : State, s.flag (LOGIC_OFF (dieOf n)) = false ∧ s.nat (PWM_NEXT n) ≤ s.time ∧ s.nextPhase n s.time = s.time
      ∧ s.nat (PEND n) = 2 ∧ s.cell n = ST.ON) ∧
    (∃ n : Chan, ∃ s : State, s.cell n = ST.PWM ∧ s.flag (PWM_HIGH n) = true ∧ s.nat (PEND n) ≠ 1 ∧ s.nat (PWM_OFF n) ≤ s.time *
      160 + 159) :=
  ⟨⟨0, 0, -200000, 90001, 90001, st 0 0 [(inForce (CHANNEL_CONFIG.REQUEST 0), 2), (CELL 0, 1)], by decide +kernel⟩,
    ⟨0, st 50000 0 [(CELL 0, 1)], by decide +kernel⟩,
    ⟨0, st 0 0 [(CELL 0, 2), (PEND 0, 2)], by decide +kernel⟩,
    ⟨0, st 0 0 [(CELL 0, 3), (PWM_HIGH 0, 1)], by decide +kernel⟩⟩

/-- States and operands that meet the hypotheses of HardShortTrips, clause by clause. -/
theorem met_HardShortTrips :
    (∃ n : Chan, ∃ ns : Nat, ∃ vsh : Int, ∃ s : State, s.flag (LOGIC_OFF (dieOf n)) = false ∧ s.comparatorArmed n = true ∧
      s.blanked n = false ∧ 150 ≤ ns ∧ (s.shortLevel n + s.shortLevel n / 50 + 250000 : Nat) < vsh) ∧
    (∃ n : Chan, ∃ ns : Nat, ∃ vsh : Int, ∃ s : State, s.flag (LOGIC_OFF (dieOf n)) = true ∧ isAnchored n = true ∧ s.flag (LATCH
      n) = true ∧ 150 ≤ ns ∧ (s.shortLevel n + s.shortLevel n / 50 + 250000 : Nat) < vsh) ∧
    (∃ n : Chan, ∃ ns : Nat, ∃ vsh : Int, ∃ s : State, (ns < 50 ∨ vsh ≤ s.shortLevel n - (s.shortLevel n / 50 + 250000 : Nat) ∨
      (s.flag (LOGIC_OFF (dieOf n)) = false ∧ (s.blanked n = true ∨ s.comparatorArmed n = false)))) :=
  ⟨⟨0, 1000000, 51250001, st 0 0 [(CELL 0, 1)], by decide +kernel⟩,
    ⟨0, 150, 250001, st 0 0 [(CHANNEL_PROTECTION.HARD_SHORT_LEVEL 0, 0), (LATCH 0, 1), (LOGIC_OFF 0, 1)], by decide +kernel⟩,
    ⟨0, 0, 0, st 0 0 [], by decide +kernel⟩⟩

/-- States and operands that meet the hypotheses of CurrentLimit, clause by clause. -/
theorem met_CurrentLimit :
    (∃ n : Chan, ∃ vsh : Int, ∃ s : State, s.flag (LOGIC_OFF (dieOf n)) = false ∧ (s.cell n = ST.RAMP ∨ s.cell n = ST.ON ∨
      (s.cell n = ST.PWM ∧ s.flag (PWM_HIGH n) = true)) ∧ s.effectiveLimit n ≠ 0 ∧ (s.effectiveLimit n : Int) < vsh) ∧
    (∃ n : Chan, ∃ r1 : Int, ∃ r2 : Int, ∃ s : State, s.cell n = ST.LIMIT ∧ r1 ≤ 5000 ∧ r2 ≤ 5000) ∧
    (∃ n : Chan, ∃ s : State, s.cell n = ST.LIMIT ∧ s.nat (CHANNEL_PROTECTION.LIMIT_MAX_TIME n) ≤ s.limitTime n) ∧
    (∃ n : Chan, ∃ s : State, s.flag (LIMIT_EPISODE n) = true ∧ s.cell n ≠ ST.LIMIT ∧ s.nat (LIMIT_LEFT n) + 1000 ≤ s.time) :=
  ⟨⟨0, 40000001, st 0 0 [(CELL 0, 1)], by decide +kernel⟩,
    ⟨0, 0, 0, st 0 0 [(CELL 0, 4)], by decide +kernel⟩,
    ⟨0, st 2000 0 [(CELL 0, 4)], by decide +kernel⟩,
    ⟨0, st 1000 0 [(LIMIT_EPISODE 0, 1)], by decide +kernel⟩⟩

/-- States and operands that meet the hypotheses of TripsAndRetries, clause by clause. -/
theorem met_TripsAndRetries :
    (∃ n : Chan, ∃ vgs : Int, ∃ s : State, s.cell n = ST.TRIP ∧ (s.nat (GATE n) = 4 ∨ s.nat (GATE n) = 5) ∧ vgs < 10000 ∧
      s.frame ≤ s.nat (TRIP_FRAME n)) ∧
    (∃ n : Chan, ∃ vgs : Int, ∃ s : State, s.cell n = ST.TRIP ∧ vgs < 10000 ∧ s.nat (TRIP_FRAME n) < s.frame ∧ s.nat
      (CHANNEL_PROTECTION.RETRIES_LEFT n) = 0) ∧
    (∃ n : Chan, ∃ vgs : Int, ∃ s : State, s.cell n = ST.TRIP ∧ vgs < 10000 ∧ s.nat (TRIP_FRAME n) < s.frame ∧ s.nat
      (CHANNEL_PROTECTION.RETRIES_LEFT n) ≠ 0 ∧ (s.nat (inForce (CHANNEL_CONFIG.REQUEST n)) ≠ 0 ∨ s.standing n = true)) ∧
    (∃ n : Chan, ∃ vgs : Int, ∃ s : State, s.cell n = ST.TRIP ∧ vgs < 10000 ∧ s.nat (TRIP_FRAME n) < s.frame ∧ s.nat
      (CHANNEL_PROTECTION.RETRIES_LEFT n) ≠ 0 ∧ s.nat (inForce (CHANNEL_CONFIG.REQUEST n)) = 0 ∧ s.standing n = false) ∧
    (∃ n : Chan, ∃ s : State, s.cell n = ST.RETRY ∧ s.nat (WAIT_END n) ≤ s.time ∧ s.coolingOwed n = false ∧ s.waiting n = false
      ∧ s.flag (LOGIC_OFF (dieOf n)) = false ∧ s.standing n = false) ∧
    (∃ n : Chan, ∃ s : State, s.cell n = ST.RETRY ∧ s.nat (WAIT_END n) ≤ s.time ∧ s.coolingOwed n = false ∧ s.waiting n = false
      ∧ s.flag (LOGIC_OFF (dieOf n)) = false ∧ s.standing n = true) ∧
    (∃ n : Chan, ∃ s : State, s.flag (LOGIC_OFF (dieOf n)) = false ∧ (s.cell n = ST.ON ∨ s.cell n = ST.PWM) ∧ s.nat
      (CHANNEL_PROTECTION.RETRY_RESET_TIME n) ≤ s.nat (RUN_SPENT n) + (s.time - s.nat (RUN_SINCE n))) :=
  ⟨⟨0, 0, st 0 0 [(CELL 0, 5), (GATE 0, 4)], by decide +kernel⟩,
    ⟨0, -7, st 0 1 [(CELL 0, 5)], by decide +kernel⟩,
    ⟨0, -131, st 0 1 [(CHANNEL_PROTECTION.RETRIES_LEFT 0, 1), (inForce (CHANNEL_CONFIG.REQUEST 0), 1), (CELL 0, 5)],
      by decide +kernel⟩,
    ⟨0, 0, st 0 1 [(CHANNEL_PROTECTION.RETRIES_LEFT 0, 1), (CELL 0, 5)], by decide +kernel⟩,
    ⟨0, st 0 0 [(CELL 0, 6)], by decide +kernel⟩,
    ⟨0, st 0 0 [(CHANNEL_STATUS.STANDING_CAUSE 0, 1), (CELL 0, 6)], by decide +kernel⟩,
    ⟨0, st 1000000 0 [(CELL 0, 2)], by decide +kernel⟩⟩

/-- States and operands that meet the hypotheses of LampsAndSwaps, clause by clause. -/
theorem met_LampsAndSwaps :
    (∃ n : Chan, ∃ s : State, s.modelFlag n MFLAG.LAMP_ENVELOPE = true ∧ s.nat (LAMP_AT n) + s.nat
      (CHANNEL_PROTECTION.LAMP_DECAY_TIME n) ≤ s.time) ∧
    (∃ n : Chan, ∃ s : State, s.flag (CHANNEL_PROTECTION.LAMP_MODE n) = true ∧ s.nat (CHANNEL_PROTECTION.LAMP_OPEN_FRACTION n) ≠
      0 ∧ ((s.cell n = ST.ON ∧ 50 ≤ s.nat (LAMP_LOW n)) ∨ (s.cell n = ST.PWM ∧ 2 ≤ s.nat (LAMP_LOW n))) ∧ s.flag (LAMP_TOLD n) =
      false) ∧
    (∃ n : Chan, ∃ s : State, s.flag (CHANNEL_PROTECTION.LAMP_MODE n) = true ∧ s.nat (CHANNEL_PROTECTION.LAMP_OPEN_FRACTION n) ≠
      0 ∧ ((s.cell n = ST.ON ∧ 50 ≤ s.nat (LAMP_LOW n)) ∨ (s.cell n = ST.PWM ∧ 2 ≤ s.nat (LAMP_LOW n))) ∧ s.flag (LAMP_TOLD n) =
      true) ∧
    (∃ p : Pair, ∃ s : State, s.time = s.nat LAST_BOUNDARY ∧ s.nat (CASTLING_PAIR.SWAP_STATE p) = 2 ∧ s.swapOut p < 512 ∧
      s.commands (s.swapOut p) = true ∧ s.nat (SWAP_ON_AT p) + s.nat (SWAP_OVER p) ≤ s.time) ∧
    (∃ p : Pair, ∃ s : State, s.nat (CASTLING_PAIR.SWAP_STATE p) = 1 ∧ s.swapIn p < 512 ∧ s.nat (SWAP_AT p) + s.nat
      (CASTLING_PAIR.SWAP_TIMEOUT p) ≤ s.time) :=
  ⟨⟨0, st 100000 0 [(CHANNEL_PROTECTION.MODEL_FLAGS 0, 256)], by decide +kernel⟩,
    ⟨0, st 0 0 [(CHANNEL_PROTECTION.LAMP_MODE 0, 1), (CELL 0, 2), (LAMP_LOW 0, 50)], by decide +kernel⟩,
    ⟨0, st 0 0 [(CHANNEL_PROTECTION.LAMP_MODE 0, 1), (CELL 0, 2), (LAMP_LOW 0, 50), (LAMP_TOLD 0, 1)], by decide +kernel⟩,
    ⟨0, st 31 0 [(AMLOR_LINK.LINK_STATE 0, 2), (CASTLING_PAIR.SWAP_STATE 0, 2), (LAST_BOUNDARY, 31), (DEV_STATE, 1)],
      by decide +kernel⟩,
    ⟨4, st 100000 0 [(CASTLING_PAIR.SWAP_STATE 4, 1)], by decide +kernel⟩⟩

/-- States and operands that meet the hypotheses of CaptureAndCalibration, clause by clause. -/
theorem met_CaptureAndCalibration :
    (∃ d : Die, ∃ s : State, s.nat (BANK.CAPTURE_STATE (8 * d.val)) = 1 ∧ s.triggered d = true) ∧
    (∃ d : Die, ∃ s : State, s.nat (BANK.CAPTURE_STATE (8 * d.val)) = 2 ∧ ((∀ i < s.nat (BANK.CAPTURE_SIGNALS (8 * d.val)),
      s.captureLength d ≤ s.captureCount d i))) ∧
    (∃ k : Bank, ∃ s : State, s.flag (CAL_PAUSED k) = false ∧ s.nat (CAL_POS_AT k) + 4096 ≤ s.time) :=
  ⟨⟨0, (st 0 0 [(BANK.CAPTURE_STATE 0, 1)]).setBlob (CAP_RING 0 0) (by8 [46, 16, 0, 0]), by decide +kernel⟩,
    ⟨0, st 0 0 [(BANK.CAPTURE_SIGNALS 0, 0), (BANK.CAPTURE_STATE 0, 2)], by decide +kernel⟩,
    ⟨0, st 4096 0 [], by decide +kernel⟩⟩

/-- States and operands that meet the hypotheses of Plans, clause by clause. -/
theorem met_Plans :
    (∃ p : Fin 2, ∃ i : Fin 128, ∃ s : State, s.planInstant p.val = true ∧ i.val < s.nat (ofPlan p.val OPENING_PLAN.STEP_COUNT)
      ∧ s.nat (ofPlan p.val OPENING_PLAN.STEP_COUNT) ≤ 128 ∧ s.stepState p.val (i.val + 1) = 1 ∧ s.nat (STEP_READY_AT (stepOf
      p.val (i.val + 1))) + 1000 * SW.delay (s.stepWord p.val (i.val + 1)) ≤ s.time ∧ SW.depMode (s.stepWord p.val (i.val + 1))
      = 0) ∧
    (∃ p : Fin 2, ∃ i : Fin 128, ∃ s : State, s.planInstant p.val = true ∧ i.val < s.nat (ofPlan p.val OPENING_PLAN.STEP_COUNT)
      ∧ s.nat (ofPlan p.val OPENING_PLAN.STEP_COUNT) ≤ 128 ∧ s.stepState p.val (i.val + 1) = 1 ∧ s.nat (STEP_READY_AT (stepOf
      p.val (i.val + 1))) + 1000 * SW.delay (s.stepWord p.val (i.val + 1)) ≤ s.time ∧ (SW.action (s.stepWord p.val (i.val + 1))
      = 1 ∨ SW.action (s.stepWord p.val (i.val + 1)) = 2) ∧ (0 : Nat) ∈ s.members (SW.group (s.stepWord p.val (i.val + 1))) ∧
      s.trumpHeld 0 = false ∧ ((SW.action (s.stepWord p.val (i.val + 1)) = 1 → s.seenState 0 ≠ ST.PWM ∧ s.seenState 0 ≠
      ST.LIMIT))) ∧
    (∃ p : Fin 2, ∃ i : Fin 128, ∃ s : State, s.planInstant p.val = true ∧ i.val < s.nat (ofPlan p.val OPENING_PLAN.STEP_COUNT)
      ∧ s.nat (ofPlan p.val OPENING_PLAN.STEP_COUNT) ≤ 128 ∧ (s.stepState p.val (i.val + 1) = 0 ∨ (s.stepState p.val (i.val + 1)
      = 2 ∧ SW.action (s.stepWord p.val (i.val + 1)) ≠ 4)) ∧ SW.timeout (s.stepWord p.val (i.val + 1)) ≠ 0 ∧ 1000 * SW.timeout
      (s.stepWord p.val (i.val + 1)) ≤ s.nat (STEP_SPENT (stepOf p.val (i.val + 1))) ∧ SW.policy (s.stepWord p.val (i.val + 1))
      = 0) ∧
    (∃ p : Fin 2, ∃ i : Fin 128, ∃ s : State, s.planInstant p.val = true ∧ i.val < s.nat (ofPlan p.val OPENING_PLAN.STEP_COUNT)
      ∧ s.nat (ofPlan p.val OPENING_PLAN.STEP_COUNT) ≤ 128 ∧ (s.stepState p.val (i.val + 1) = 0 ∨ (s.stepState p.val (i.val + 1)
      = 2 ∧ SW.action (s.stepWord p.val (i.val + 1)) ≠ 4)) ∧ SW.timeout (s.stepWord p.val (i.val + 1)) ≠ 0 ∧ 1000 * SW.timeout
      (s.stepWord p.val (i.val + 1)) ≤ s.nat (STEP_SPENT (stepOf p.val (i.val + 1))) ∧ SW.policy (s.stepWord p.val (i.val + 1))
      = 1) ∧
    (∃ p : Fin 2, ∃ i : Fin 128, ∃ s : State, s.planInstant p.val = true ∧ i.val < s.nat (ofPlan p.val OPENING_PLAN.STEP_COUNT)
      ∧ s.nat (ofPlan p.val OPENING_PLAN.STEP_COUNT) ≤ 128 ∧ (s.stepState p.val (i.val + 1) = 0 ∨ (s.stepState p.val (i.val + 1)
      = 2 ∧ SW.action (s.stepWord p.val (i.val + 1)) ≠ 4)) ∧ SW.timeout (s.stepWord p.val (i.val + 1)) ≠ 0 ∧ 1000 * SW.timeout
      (s.stepWord p.val (i.val + 1)) ≤ s.nat (STEP_SPENT (stepOf p.val (i.val + 1))) ∧ SW.policy (s.stepWord p.val (i.val + 1))
      = 2) ∧
    (∃ p : Fin 2, ∃ i : Fin 128, ∃ s : State, s.planInstant p.val = true ∧ i.val < s.nat (ofPlan p.val OPENING_PLAN.STEP_COUNT)
      ∧ s.nat (ofPlan p.val OPENING_PLAN.STEP_COUNT) ≤ 128 ∧ s.stepState p.val (i.val + 1) = 2 ∧ SW.action (s.stepWord p.val
      (i.val + 1)) = 4 ∧ s.nat (STEP_ACT_AT (stepOf p.val (i.val + 1))) + s.nat (SEQ_GROUP.DISCHARGE_TIMEOUT (SW.group
      (s.stepWord p.val (i.val + 1)))) ≤ s.time ∧ (s.nat (STEP_SNAP (stepOf p.val (i.val + 1)))).testBit 0 = true ∧ (s.metNow
      p.val (i.val + 1)).testBit 0 = false) ∧
    (∃ us : Nat, ∃ s : State, s.live = true ∧ s.nat ENDGAME_PLAN.TRIGGER ≠ 0 ∧ s.nat ENDGAME_PLAN.TRIGGER ≤ 8 ∧ s.planRuns 1 =
      false ∧ s.flag (ENDGAME_ARMED (s.nat ENDGAME_PLAN.TRIGGER - 1)) = true ∧ s.wakeActive (s.nat ENDGAME_PLAN.TRIGGER - 1) =
      false ∧ s.nat ENDGAME_PLAN.TRIGGER_DELAY ≤ us) ∧
    (∃ us : Nat, ∃ s : State, us < s.nat ENDGAME_PLAN.TRIGGER_DELAY) ∧
    (∃ s : State, s.flag ENDGAME_DUE = true ∧ s.planRuns 1 = false ∧ s.nat OPENING_PLAN.STEP_COUNT ≤ 128 ∧ s.nat
      ENDGAME_PLAN.STEP_COUNT ≤ 128 ∧ s.planRuns 0 = true) :=
  ⟨⟨0, 0, st 1001400 0 [(OPENING_PLAN.STEP_COUNT, 1), (OPENING_PLAN.PLAN_STATE, 1), (OPENING_STEP_STATE.STATE 0, 1),
      (LAST_BOUNDARY, 1001400), (DEV_STATE, 1)], by decide +kernel⟩,
    ⟨0, 0, st 1000000 0 [(OPENING_STEPS.STEP 0, 2 ^ 39), (OPENING_STEP_STATE.STATE 0, 1), (SEQ_GROUP.MEMBERS 0 0, 1),
      (OPENING_PLAN.STEP_COUNT, 1), (OPENING_PLAN.PLAN_STATE, 1), (LAST_BOUNDARY, 1000000), (DEV_STATE, 1)], by decide +kernel⟩,
    ⟨0, 0, st 1001400 0 [(OPENING_PLAN.STEP_COUNT, 1), (OPENING_PLAN.PLAN_STATE, 1), (OPENING_STEPS.STEP 0, 1), (LAST_BOUNDARY,
      1001400), (STEP_SPENT 0, 1000), (DEV_STATE, 1)], by decide +kernel⟩,
    ⟨0, 0, st 1000000 0 [(OPENING_STEPS.STEP 0, 2 ^ 37 + 1), (STEP_SPENT 0, 1000), (OPENING_PLAN.STEP_COUNT, 1),
      (OPENING_PLAN.PLAN_STATE, 1), (LAST_BOUNDARY, 1000000), (DEV_STATE, 1)], by decide +kernel⟩,
    ⟨0, 0, st 1000000 0 [(OPENING_STEPS.STEP 0, 2 ^ 38 + 1), (STEP_SPENT 0, 1000), (OPENING_PLAN.STEP_COUNT, 1),
      (OPENING_PLAN.PLAN_STATE, 1), (LAST_BOUNDARY, 1000000), (DEV_STATE, 1)], by decide +kernel⟩,
    ⟨0, 0, st 1000000 0 [(SEQ_GROUP.DISCHARGE_LEVEL 0, 0), (SEQ_GROUP.DISCHARGE_TIMEOUT 0, 1000), (OPENING_STEPS.STEP 0, 2 ^
      41), (OPENING_STEP_STATE.STATE 0, 2), (STEP_SNAP 0, 1), (OPENING_PLAN.STEP_COUNT, 1), (OPENING_PLAN.PLAN_STATE, 1),
      (LAST_BOUNDARY, 1000000), (DEV_STATE, 1)], by decide +kernel⟩,
    ⟨0, st 0 0 [(ENDGAME_PLAN.TRIGGER, 1), (ENDGAME_PLAN.TRIGGER_DELAY, 0), (ENDGAME_ARMED 0, 1), (DEV_STATE, 1)],
      by decide +kernel⟩,
    ⟨0, st 0 0 [], by decide +kernel⟩,
    ⟨st 0 0 [(OPENING_PLAN.PLAN_STATE, 1), (ENDGAME_DUE, 1)], by decide +kernel⟩⟩

/-- States and operands that meet the hypotheses of Windows, clause by clause. -/
theorem met_Windows :
    (∃ n : Chan, ∃ s : State, s.nat (CHANNEL_SUPERVISION.WINDOW_MODE n) = 1 ∧ s.bit (WIN n) WFLAG.UNDER = false ∧ s.nat
      (CHANNEL_SUPERVISION.UV_SET_FILTER n) ≤ s.nat (WIN_COUNT n 0)) ∧
    (∃ n : Chan, ∃ s : State, s.nat (CHANNEL_SUPERVISION.WINDOW_MODE n) = 1 ∧ s.bit (WIN n) WFLAG.OVER = false ∧ s.nat
      (CHANNEL_SUPERVISION.OV_SET_FILTER n) ≤ s.nat (WIN_COUNT n 3)) ∧
    (∃ n : Chan, ∃ s : State, s.nat (CHANNEL_SUPERVISION.WINDOW_MODE n) = 1 ∧ s.nat (CHANNEL_SUPERVISION.UV_CLEAR_FILTER n) ≤
      s.nat (WIN_COUNT n 2)) ∧
    (∃ n : Chan, ∃ s : State, s.nat (CHANNEL_SUPERVISION.WINDOW_MODE n) = 1 ∧ s.nat (CHANNEL_SUPERVISION.OV_CLEAR_FILTER n) ≤
      s.nat (WIN_COUNT n 5)) ∧
    (∃ n : Chan, ∃ s : State, s.nat (CHANNEL_SUPERVISION.WINDOW_MODE n) ≠ 1) :=
  ⟨⟨0, st 0 0 [(CHANNEL_SUPERVISION.WINDOW_MODE 0, 1), (CHANNEL_SUPERVISION.UV_SET_FILTER 0, 0)], by decide +kernel⟩,
    ⟨0, st 0 0 [(CHANNEL_SUPERVISION.WINDOW_MODE 0, 1), (WIN_COUNT 0 3, 5)], by decide +kernel⟩,
    ⟨0, st 0 0 [(CHANNEL_SUPERVISION.WINDOW_MODE 0, 1), (WIN_COUNT 0 2, 5)], by decide +kernel⟩,
    ⟨0, st 0 0 [(CHANNEL_SUPERVISION.WINDOW_MODE 0, 1), (WIN_COUNT 0 5, 5)], by decide +kernel⟩,
    ⟨0, st 0 0 [], by decide +kernel⟩⟩

/-- States and operands that meet the hypotheses of ResetOutputs, clause by clause. -/
theorem met_ResetOutputs :
    (∃ r : Rso, ∃ s : State, s.nat (inForce (RESET_OUTPUT.FORCE r)) = 0 ∧ s.nat (RSO_GOOD_SINCE r) ≠ 0 ∧ s.flag
      (RESET_OUTPUT.OUTPUT r) = true ∧ max (s.nat (RSO_GOOD_SINCE r) - 1) (s.nat (RSO_CLEAR_AT r)) + 1000 * s.nat
      (RESET_OUTPUT.STRETCH r) ≤ s.time) ∧
    (∃ r : Rso, ∃ s : State, (s.nat (inForce (RESET_OUTPUT.FORCE r)) ≠ 0 ∨ s.nat (RSO_GOOD_SINCE r) = 0)) ∧
    (∃ r : Rso, ∃ s : State, s.flag KEEPER_HOLDING = true ∧ s.flag (RSO_KEEP r) = true ∧ s.nat (RSO_TOGGLE_AT r) + 500000 ≤
      s.time) ∧
    (∃ r : Rso, ∃ s : State, s.flag (RSO_KEEP r) = false) ∧
    (∃ r : Rso, ∃ s : State, s.flag (RESET_OUTPUT.OUTPUT r) = false) :=
  ⟨⟨0, st 100000 0 [(RSO_GOOD_SINCE 0, 1)], by decide +kernel⟩,
    ⟨0, st 0 0 [], by decide +kernel⟩,
    ⟨0, st 500000 0 [(RSO_KEEP 0, 1), (KEEPER_HOLDING, 1)], by decide +kernel⟩,
    ⟨0, st 0 0 [], by decide +kernel⟩,
    ⟨0, st 0 0 [(RESET_OUTPUT.OUTPUT 0, 0)], by decide +kernel⟩⟩

/-- States and operands that meet the hypotheses of CommitsAndAudits, clause by clause. -/
theorem met_CommitsAndAudits :
    (∃ t : Tenant, ∃ s : State, s.nat (COMMIT_CONTROL.STATUS t) = 2 ∧ s.allAcked t.val = true ∧ s.frame < s.nat (CM_STAGE_END t)
      ∧ (s.nat (CM_VALUE t)).testBit 24 = false) ∧
    (∃ t : Tenant, ∃ s : State, s.nat (COMMIT_CONTROL.STATUS t) = 2 ∧ s.allAcked t.val = true ∧ s.frame < s.nat (CM_STAGE_END t)
      ∧ (s.nat (CM_VALUE t)).testBit 24 = true) ∧
    (∃ t : Tenant, ∃ s : State, s.nat (COMMIT_CONTROL.STATUS t) = 2 ∧ s.allAcked t.val = false ∧ s.nat (CM_STAGE_END t) ≤
      s.frame) ∧
    (∃ t : Tenant, ∃ p : CanPort, ∃ s : State, s.nat (COMMIT_CONTROL.STATUS t) = 4 ∧ s.syncPort t.val (s.nat (CM_VALUE t)) =
      p.val ∧ s.nat (SYNC_AT p) + 1000000 ≤ s.time) ∧
    (∃ t : Tenant, ∃ p : CanPort, ∃ c : Nat, ∃ s : State, s.nat (COMMIT_CONTROL.STATUS t) = 4 ∧ s.syncPort t.val (s.nat
      (CM_VALUE t)) = p.val ∧ s.canOnBus p = true ∧ ((∀ i < 32, s.flag (RPDO_HAS (32 * p.val + i)) = false)) ∧ ((field (s.nat
      (CM_VALUE t)) 16 8 : Nat) - c : Int) % s.nat (SYNC_OVERFLOW.VALUE p) = 0) ∧
    (∃ t : Tenant, ∃ p : CanPort, ∃ c : Nat, ∃ s : State, s.nat (COMMIT_CONTROL.STATUS t) = 4 ∧ s.syncPort t.val (s.nat
      (CM_VALUE t)) = p.val ∧ s.canOnBus p = true ∧ ((∀ i < 32, s.flag (RPDO_HAS (32 * p.val + i)) = false)) ∧ (s.nat
      (SYNC_OVERFLOW.VALUE p) / 2 : Nat) < ((field (s.nat (CM_VALUE t)) 16 8 : Nat) - c : Int) % s.nat (SYNC_OVERFLOW.VALUE p)) ∧
    (∃ t : Tenant, ∃ b : OpenBarrier, ∃ s : State, (s.barriers.filter fun x => x.tenant == t.val && x.closes ≤ s.frame &&
      !s.earlierLeft x).getLast? = some b ∧ ((∀ x ∈ (s.barriers.filter fun x => x.tenant == t.val && x.closes ≤ s.frame &&
      !s.earlierLeft x), x.commits = [])) ∧ s.heldWrites = []) ∧
    (∃ t : Tenant, ∃ s : State, (s.barrierEnd t.val).isSome = true ∧ s.committing t = false) :=
  ⟨⟨0, st 0 0 [(COMMIT_CONTROL.STATUS 0, 2), (CM_STAGE_END 0, 1)], by decide +kernel⟩,
    ⟨0, st 0 0 [(COMMIT_CONTROL.STATUS 0, 2), (CM_VALUE 0, 16777216), (CM_STAGE_END 0, 1)], by decide +kernel⟩,
    ⟨0, { st 0 5 [(COMMIT_CONTROL.STATUS 0, 2), (CM_STAGE_END 0, 5)] with staged := [⟨0, CHANNEL_CONFIG.SHUNT_RESISTANCE 0, 1,
      false⟩] }, by decide +kernel⟩,
    ⟨0, 0, st 1000000 0 [(COMMIT_CONTROL.STATUS 0, 4)], by decide +kernel⟩,
    ⟨0, 0, 0, st 0 0 [(CAN_PORT.BUS_STATE 0, 0), (COMMIT_CONTROL.STATUS 0, 4), (DEV_STATE, 1), (PORTS_READY, 1)],
      by decide +kernel⟩,
    ⟨0, 0, 1, st 0 0 [(SYNC_OVERFLOW.VALUE 0, 3), (CAN_PORT.BUS_STATE 0, 0), (COMMIT_CONTROL.STATUS 0, 4), (DEV_STATE, 1),
      (PORTS_READY, 1)], by decide +kernel⟩,
    ⟨0, ⟨0, 1, 1, []⟩, { st 0 1 [] with barriers := [⟨0, 1, 1, []⟩] }, by decide +kernel⟩,
    ⟨0, { st 0 0 [] with barriers := [⟨0, 5, 70, [2]⟩] }, by decide +kernel⟩⟩

/-- States and operands that meet the hypotheses of ConvertersStart, clause by clause. -/
theorem met_ConvertersStart :
    (∃ m : Conv, ∃ s : State, s.nat (CONV_PHASE m) = 1 ∧ s.nat (CONV_T0 m) + 6 ≤ s.time ∧ s.activeLanes m = []) ∧
    (∃ m : Conv, ∃ off : List Int, ∃ s : State, s.nat (CONV_PHASE m) = 1 ∧ s.nat (CONV_T0 m) + 6 ≤ s.time ∧ ((s.storeOffsets m
      off).startCheck m) ≠ 0) ∧
    (∃ m : Conv, ∃ off : List Int, ∃ s : State, s.nat (CONV_PHASE m) = 1 ∧ s.nat (CONV_T0 m) + 6 ≤ s.time ∧ ((s.storeOffsets m
      off).startCheck m) = 0) ∧
    (∃ m : Conv, ∃ s : State, s.nat (CONV_PHASE m) = 2 ∧ s.nat (CONV_T0 m) + 10 ≤ s.time ∧ s.conv m = CS.OFF) ∧
    (∃ m : Conv, ∃ s : State, s.nat (CONV_PHASE m) = 2 ∧ s.nat (CONV_T0 m) + 10 ≤ s.time ∧ (0 : Nat) ∈ s.activeLanes m ∧ ((∀ i <
      16, s.nat (LANE.LANE_MODE i) = 0)) ∧ s.convFlag m CFLAG.TRUNCATING = false) ∧
    (∃ m : Conv, ∃ s : State, s.conv m = CS.OFF ∧ s.nat (CONV_PHASE m) = 0 ∧ (0 : Nat) ∈ s.lanesOf m) ∧
    (∃ m : Conv, ∃ s : State, s.conv m ≠ CS.OFF ∧ (0 : Nat) ∈ s.lanesOf m ∧ ((s.get (LANE_EDGE 0 0) ≤ (6400 * ((s.time : Int) -
      s.get (LANE_FROM 0))) ∧ (6400 * ((s.time : Int) - s.get (LANE_FROM 0))) < s.get (LANE_EDGE 0 1))) ∧ s.conv m ≠ CS.LATCHED) ∧
    (∃ m : Conv, ∃ s : State, s.conv m ≠ CS.OFF ∧ (0 : Nat) ∈ s.lanesOf m ∧ (¬(s.get (LANE_EDGE 0 0) ≤ (6400 * ((s.time : Int) -
      s.get (LANE_FROM 0))) ∧ (6400 * ((s.time : Int) - s.get (LANE_FROM 0))) < s.get (LANE_EDGE 0 1)) ∨ s.conv m = CS.LATCHED)) ∧
    (∃ m : Conv, ∃ s : State, s.conv m ≠ CS.OFF ∧ s.conv m ≠ CS.LATCHED) :=
  ⟨⟨0, st 6 0 [(CONV_PHASE 0, 1)], by decide +kernel⟩,
    ⟨0, [0, 0, 0, 0], st 6 0 [(CONV_PHASE 0, 1)], by decide +kernel⟩,
    ⟨0, [0], st 6 0 [(CONV_PHASE 0, 1), (LANE.CONVERTER 0, 0), (LANE.SHARE_WEIGHT 0, 1), (LANE.LANE_MODE 0, 0),
      (CONVERTER.IREF_MIN 0, 0), (CONVERTER.IREF_MAX 0, 1), (CONVERTER_LOOP.VB 0 0, 1), (CONVERTER_LOOP.IB 0 0, 1), (inForce
      (CONVERTER.VOUT_SET 0), 1), (CONVERTER.TRUNC_LEVEL 0, 2), (CONVERTER.TRUNC_HYST 0, 0)], by decide +kernel⟩,
    ⟨0, st 10 0 [(CONV_PHASE 0, 2)], by decide +kernel⟩,
    ⟨0, st 10 0 [(CONV_PHASE 0, 2), (LANE.CONVERTER 0, 0), (LANE.SHARE_WEIGHT 0, 1)], by decide +kernel⟩,
    ⟨0, st 0 0 [(LANE.CONVERTER 0, 0), (LANE.SHARE_WEIGHT 0, 1)], by decide +kernel⟩,
    ⟨0, st 0 0 [(LANE.CONVERTER 0, 0), (LANE.SHARE_WEIGHT 0, 1), (CONVERTER_STATUS.STATE 0, 1), (LANE_EDGE 0 1, 1)],
      by decide +kernel⟩,
    ⟨0, st 0 0 [(LANE.CONVERTER 0, 0), (LANE.SHARE_WEIGHT 0, 1), (CONVERTER_STATUS.STATE 0, 1)], by decide +kernel⟩,
    ⟨0, st 0 0 [(CONVERTER_STATUS.STATE 0, 1)], by decide +kernel⟩⟩

/-- States and operands that meet the hypotheses of ConverterCycles, clause by clause. -/
theorem met_ConverterCycles :
    (∃ m : Conv, ∃ samples : List Int, ∃ s : State, samples ≠ [] ∧ s.convSwitches m = false) ∧
    (∃ m : Conv, ∃ samples : List Int, ∃ s : State, samples ≠ [] ∧ s.convSwitches m = true ∧ s.activeLanes m = []) ∧
    (∃ m : Conv, ∃ samples : List Int, ∃ s : State, samples ≠ [] ∧ s.convSwitches m = true ∧ s.activeLanes m ≠ [] ∧ (¬(s.nat
      (CONVERTER.VLOOP_DIV m) ≤ s.nat (CONV_CYCLES m) + 1) ∨ s.convFlag m CFLAG.TRUNCATING = true)) ∧
    (∃ m : Conv, ∃ samples : List Int, ∃ s : State, samples ≠ [] ∧ s.convSwitches m = true ∧ s.activeLanes m ≠ [] ∧ (s.nat
      (CONVERTER.VLOOP_DIV m) ≤ s.nat (CONV_CYCLES m) + 1) ∧ s.convFlag m CFLAG.TRUNCATING = false ∧ s.conv m = CS.RUN ∧
      s.convTarget m = s.get (CONVERTER_STATUS.VREF m)) ∧
    (∃ m : Conv, ∃ samples : List Int, ∃ s : State, samples ≠ [] ∧ s.convSwitches m = true ∧ s.activeLanes m ≠ [] ∧ s.flag
      (CONV_CUT m) = false ∧ s.flag (CONVERTER.HICCUP_ON_CLAMP m) = false) ∧
    (∃ m : Conv, ∃ samples : List Int, ∃ s : State, samples ≠ [] ∧ s.convSwitches m = true ∧ s.activeLanes m ≠ [] ∧ s.flag
      (CONV_CUT m) = true ∧ s.nat (CONV_LIMIT m) + 1 < s.nat (CONVERTER.HICCUP_CYCLES m)) ∧
    (∃ m : Conv, ∃ samples : List Int, ∃ s : State, samples ≠ [] ∧ s.convSwitches m = true ∧ s.activeLanes m ≠ [] ∧ s.flag
      (CONV_CUT m) = true ∧ s.nat (CONV_LIMIT m) + 1 = s.nat (CONVERTER.HICCUP_CYCLES m) ∧ (s.nat (CONVERTER.HICCUP_RETRIES m) =
      0 ∨ 0 < s.nat (CONVERTER_STATUS.HICCUPS_LEFT m))) ∧
    (∃ m : Conv, ∃ samples : List Int, ∃ s : State, samples ≠ [] ∧ s.convSwitches m = true ∧ s.activeLanes m ≠ [] ∧ s.flag
      (CONV_CUT m) = true ∧ s.nat (CONV_LIMIT m) + 1 = s.nat (CONVERTER.HICCUP_CYCLES m) ∧ s.nat (CONVERTER.HICCUP_RETRIES m) ≠
      0 ∧ s.nat (CONVERTER_STATUS.HICCUPS_LEFT m) = 0) :=
  ⟨⟨0, [0, 0, 0, 0], st 0 0 [], by decide +kernel⟩,
    ⟨0, [0, 0, 0, 0], st 0 0 [(CONVERTER_STATUS.STATE 0, 1)], by decide +kernel⟩,
    ⟨0, [0, 0, 0, 0], st 0 0 [(CONVERTER.VLOOP_DIV 0, 2), (LANE.CONVERTER 14, 0), (CONVERTER_STATUS.STATE 0, 1)],
      by decide +kernel⟩,
    ⟨0, [0, 0, 0, 0], st 0 0 [(LANE.CONVERTER 14, 0), (CONVERTER_STATUS.STATE 0, 2)], by decide +kernel⟩,
    ⟨0, [0, 0, 0, 0], st 0 0 [(LANE.CONVERTER 14, 0), (CONVERTER_STATUS.STATE 0, 1)], by decide +kernel⟩,
    ⟨0, [0, 0, 0, 0], st 0 0 [(LANE.CONVERTER 14, 0), (CONVERTER_STATUS.STATE 0, 1), (CONV_CUT 0, 1)], by decide +kernel⟩,
    ⟨0, [0, 0, 0, 0], st 0 0 [(CONVERTER.HICCUP_CYCLES 0, 1), (CONVERTER.HICCUP_RETRIES 0, 0), (LANE.CONVERTER 14, 0),
      (CONVERTER_STATUS.STATE 0, 1), (CONV_CUT 0, 1)], by decide +kernel⟩,
    ⟨0, [0, 0, 0, 0], st 0 0 [(CONVERTER.HICCUP_CYCLES 0, 1), (LANE.CONVERTER 14, 0), (CONVERTER_STATUS.STATE 0, 1), (CONV_CUT
      0, 1)], by decide +kernel⟩⟩

/-- States and operands that meet the hypotheses of ConverterProtection, clause by clause. -/
theorem met_ConverterProtection :
    (∃ m : Conv, ∃ l : Lane, ∃ vs : Int, ∃ s : State, s.convSwitches m = true ∧ s.convFlag m CFLAG.TRUNCATING = false ∧ (s.get
      (CONVERTER.TRUNC_LEVEL m) * 10000000000) + ((s.get (CONVERTER.TRUNC_LEVEL m) * 10000000000) * 3 / 1000 + 2000000 * s.nat
      (CONVERTER.VS_GAIN m)) < vs * s.nat (CONVERTER.VS_GAIN m) ∧ (0 : Nat) ∈ s.lanesOf m) ∧
    (∃ m : Conv, ∃ vs : Int, ∃ s : State, s.convSwitches m = true ∧ s.convFlag m CFLAG.TRUNCATING = false ∧ vs * s.nat
      (CONVERTER.VS_GAIN m) < (s.get (CONVERTER.TRUNC_LEVEL m) * 10000000000) - ((s.get (CONVERTER.TRUNC_LEVEL m) * 10000000000)
      * 3 / 1000 + 2000000 * s.nat (CONVERTER.VS_GAIN m))) ∧
    (∃ m : Conv, ∃ s : State, s.convSwitches m = true ∧ s.convFlag m CFLAG.TRUNCATING = true ∧ s.nat (CONVERTER.TRUNC_LATCH_TIME
      m) ≠ 0 ∧ s.nat (TRUNC_AT m) + s.nat (CONVERTER.TRUNC_LATCH_TIME m) ≤ s.time) ∧
    (∃ m : Conv, ∃ l : Lane, ∃ step : Nat, ∃ vcs : Int, ∃ s : State, s.nat (LANE.CONVERTER l) = m.val ∧ s.convSwitches m = true
      ∧ (s.activeLanes m).contains l.val = true ∧ s.convFlag m CFLAG.TRUNCATING = false ∧ 80 ≤ step ∧ s.pulseOn l step = true ∧
      s.nat (LANE.PEAK_LEVEL l) * 500000 < vcs.natAbs ∧ s.nat (LANE.LANE_MODE l) = 0) ∧
    (∃ l : Lane, ∃ step : Nat, ∃ vcs : Int, ∃ s : State, (step < 80 ∨ vcs.natAbs ≤ s.nat (LANE.PEAK_LEVEL l) * 500000)) ∧
    (∃ m : Conv, ∃ s : State, s.conv m = CS.HICCUP ∧ s.nat (CONV_PHASE m) = 0 ∧ s.nat (CONV_RESUME m) ≤ s.time) ∧
    (∃ m : Conv, ∃ s : State, s.conv m = CS.RUN ∧ s.nat (CONV_RUN_AT m) + s.nat (CONVERTER.HICCUP_RESET_TIME m) ≤ s.time) ∧
    (∃ m : Conv, ∃ l : Lane, ∃ s : State, s.nat (LANE.CONVERTER l) = m.val ∧ 500 ≤ s.nat (SHARE_OUT l) ∧ s.flag (SHARE_SET l) =
      false) ∧
    (∃ m : Conv, ∃ s : State, s.flag (CONV_WRITING m) = true) ∧
    (∃ m : Conv, ∃ units : List (List Int), ∃ s : State, s.nat (CONVERTER_WINDOW.WINDOW_MODE m) = 1 ∧ s.conv m = CS.RUN ∧ s.bit
      (CWIN m) WFLAG.UNDER = false ∧ lastAll (s.nat (CONVERTER_WINDOW.UV_SET_FILTER m)) (s.judged m 0 units) (fun v => v < s.get
      (CONVERTER_WINDOW.UV_LEVEL m)) = true) ∧
    (∃ m : Conv, ∃ units : List (List Int), ∃ s : State, s.nat (CONVERTER_WINDOW.WINDOW_MODE m) = 1 ∧ s.bit (CWIN m) WFLAG.OVER
      = false ∧ lastAll (s.nat (CONVERTER_WINDOW.OV_SET_FILTER m)) (s.judged m 1 units) (fun v => s.get
      (CONVERTER_WINDOW.OV_LEVEL m) < v) = true) ∧
    (∃ m : Conv, ∃ units : List (List Int), ∃ s : State, s.nat (CONVERTER_WINDOW.WINDOW_MODE m) = 1 ∧ s.conv m = CS.RUN ∧
      lastAll (s.nat (CONVERTER_WINDOW.UV_CLEAR_FILTER m)) (s.judged m 0 units) (fun v => s.get (CONVERTER_WINDOW.UV_LEVEL m) +
      s.get (CONVERTER_WINDOW.UV_HYST m) ≤ v) = true) ∧
    (∃ m : Conv, ∃ units : List (List Int), ∃ s : State, s.nat (CONVERTER_WINDOW.WINDOW_MODE m) = 1 ∧ lastAll (s.nat
      (CONVERTER_WINDOW.OV_CLEAR_FILTER m)) (s.judged m 1 units) (fun v => v ≤ s.get (CONVERTER_WINDOW.OV_LEVEL m) - s.get
      (CONVERTER_WINDOW.OV_HYST m)) = true) ∧
    (∃ m : Conv, ∃ s : State, s.nat (CONVERTER_WINDOW.WINDOW_MODE m) ≠ 1) :=
  ⟨⟨0, 0, 2000001, st 0 0 [(CONVERTER.TRUNC_LEVEL 0, 0), (LANE.CONVERTER 0, 0), (LANE.SHARE_WEIGHT 0, 1),
      (CONVERTER_STATUS.STATE 0, 1)], by decide +kernel⟩,
    ⟨0, 0, st 0 0 [(CONVERTER_STATUS.STATE 0, 1)], by decide +kernel⟩,
    ⟨0, st 1 0 [(CONVERTER.TRUNC_LATCH_TIME 0, 1), (CONVERTER_STATUS.STATE 0, 1), (CONVERTER_STATUS.CONV_FLAGS 0, 1)],
      by decide +kernel⟩,
    ⟨0, 0, 80, 1, st 0 0 [(LANE.CONVERTER 0, 0), (LANE.SHARE_WEIGHT 0, 1), (LANE.PEAK_LEVEL 0, 0), (CONVERTER_STATUS.STATE 0,
      2), (LANE_EDGE 0 0, 0), (LANE_EDGE 0 1, 200), (LANE.LANE_MODE 0, 0)], by decide +kernel⟩,
    ⟨0, 0, 0, st 0 0 [], by decide +kernel⟩,
    ⟨0, st 0 0 [(CONVERTER_STATUS.STATE 0, 3)], by decide +kernel⟩,
    ⟨0, st 1000000 0 [(CONVERTER_STATUS.STATE 0, 2)], by decide +kernel⟩,
    ⟨0, 0, st 0 0 [(LANE.CONVERTER 0, 0), (SHARE_OUT 0, 500)], by decide +kernel⟩,
    ⟨0, st 0 0 [(CONV_WRITING 0, 1)], by decide +kernel⟩,
    ⟨0, [], st 0 0 [(CONVERTER_STATUS.STATE 0, 2), (CONVERTER_WINDOW.WINDOW_MODE 0, 1), (CONVERTER_WINDOW.UV_SET_FILTER 0, 0)],
      by decide +kernel⟩,
    ⟨0, [[0], []], st 0 0 [(CONVERTER_WINDOW.WINDOW_MODE 0, 1), (CONVERTER_WINDOW.OV_SET_FILTER 0, 0)], by decide +kernel⟩,
    ⟨0, [], st 0 0 [(CONVERTER_STATUS.STATE 0, 2), (CONVERTER_WINDOW.WINDOW_MODE 0, 1), (CONVERTER_WINDOW.UV_CLEAR_FILTER 0,
      0)], by decide +kernel⟩,
    ⟨0, [], st 0 0 [(CONVERTER_WINDOW.WINDOW_MODE 0, 1), (CONVERTER_WINDOW.OV_CLEAR_FILTER 0, 0)], by decide +kernel⟩,
    ⟨0, st 0 0 [], by decide +kernel⟩⟩

/-- States and operands that meet the hypotheses of BatterySwitch, clause by clause. -/
theorem met_BatterySwitch :
    (∃ s : State, s.flag SW_UNPOWERED = false) ∧
    (∃ diff : Int, ∃ s : State, s.swMode = 3 ∧ -5000 ≤ diff ∧ diff ≤ 5000) ∧
    (∃ diff : Int, (diff < -5000 ∨ 5000 < diff)) ∧
    (∃ s : State, s.swMode = 3 ∧ s.flag SW_TOLD = false ∧ s.nat SW_WAIT_AT + 1000000 ≤ s.time) ∧
    (∃ excess : Int, ∃ s : State, (s.swMode = 1 ∨ s.swMode = 3) ∧ 50 < excess) ∧
    (∃ excess : Int, ∃ s : State, (s.swMode = 1 ∨ s.swMode = 3) ∧ excess < -50) ∧
    (∃ diff : Int, ∃ us : Nat, ∃ s : State, s.swMode ≠ 0 ∧ (s.get BATTERY_SWITCH.SHORT_LEVEL < diff ∨ diff < -s.get
      BATTERY_SWITCH.SHORT_LEVEL) ∧ 1 ≤ us ∧ s.nat SW_ON_AT + s.nat BATTERY_SWITCH.SHORT_BLANK + us ≤ s.time) ∧
    (∃ bswb : Int, ∃ us : Nat, ∃ s : State, s.swMode ≠ 0 ∧ s.get BATTERY_SWITCH.UV_CUTOFF ≠ 0 ∧ bswb < s.get
      BATTERY_SWITCH.UV_CUTOFF ∧ s.nat BATTERY_SWITCH.UV_CUTOFF_TIME ≤ us ∧ us ≤ s.time - s.nat SW_CONN_AT) ∧
    (∃ samples : List Int, ∃ s : State, s.swMode = 2 ∧ s.get BATTERY_SWITCH.CLOSED_CHARGE_LIMIT ≠ 0 ∧ s.nat
      ESTIMATOR.BATT_SHUNT_RESISTANCE ≠ 0 ∧ samples.length = 4 ∧ ((∀ i ∈ samples, s.get BATTERY_SWITCH.CLOSED_CHARGE_LIMIT <
      i))) ∧
    (∃ s : State, s.flag SW_UNPOWERED = false) ∧
    (∃ s : State, s.flag SW_UNPOWERED = true) :=
  ⟨⟨st 0 0 [], by decide +kernel⟩,
    ⟨0, st 0 0 [(BATTERY_SWITCH.MODE_IN_EFFECT, 3)], by decide +kernel⟩,
    ⟨5001, by decide +kernel⟩,
    ⟨st 1000000 0 [(BATTERY_SWITCH.MODE_IN_EFFECT, 3)], by decide +kernel⟩,
    ⟨51, st 0 0 [], by decide +kernel⟩,
    ⟨-200, st 0 0 [], by decide +kernel⟩,
    ⟨3001, 1, st 11 0 [], by decide +kernel⟩,
    ⟨0, 0, st 0 0 [(BATTERY_SWITCH.UV_CUTOFF, 1), (BATTERY_SWITCH.UV_CUTOFF_TIME, 0)], by decide +kernel⟩,
    ⟨[2, 2, 2, 2], st 0 0 [(BATTERY_SWITCH.MODE_IN_EFFECT, 2), (BATTERY_SWITCH.CLOSED_CHARGE_LIMIT, 1),
      (ESTIMATOR.BATT_SHUNT_RESISTANCE, 1)], by decide +kernel⟩,
    ⟨st 0 0 [], by decide +kernel⟩,
    ⟨st 0 0 [(SW_UNPOWERED, 1)], by decide +kernel⟩⟩

/-- States and operands that meet the hypotheses of Charger, clause by clause. -/
theorem met_Charger :
    (∃ s : State, s.flag (OVR_ON 1) = true) ∧
    (∃ s : State, s.chPhase ≠ 7 ∧ s.chSettings = true) ∧
    (∃ s : State, s.chPhase ≠ 7 ∧ s.chSettings = false) ∧
    (∃ s : State, s.nat CHARGER_STATUS.STAGE = 1 ∧ s.nat CH_STAGE_AT + 1000 * s.nat CHARGER_STATUS.ON_TIME ≤ s.time) ∧
    (∃ v : Int, ∃ imax : Int, ∃ s : State, s.nat CHARGER_STATUS.STAGE = 2 ∧ s.nat CH_STAGE_AT + 1000 * s.nat CHARGER.REST_TIME ≤
      s.time ∧ s.nat ESTIMATOR.BATT_SHUNT_RESISTANCE ≠ 0 ∧ -s.get CHARGER.REST_CURRENT_MAX ≤ imax ∧ imax ≤ s.get
      CHARGER.REST_CURRENT_MAX ∧ 1 ≤ s.chPhase ∧ s.chPhase ≤ 5 ∧ s.chPhase ≠ 4 ∧ s.chPhase ≠ 2 ∧ s.get CHARGER.TARGET_VOLTAGE ≤
      v) ∧
    (∃ v : Int, ∃ imax : Int, ∃ s : State, s.nat CHARGER_STATUS.STAGE = 2 ∧ s.nat CH_STAGE_AT + 1000 * s.nat CHARGER.REST_TIME ≤
      s.time ∧ s.nat ESTIMATOR.BATT_SHUNT_RESISTANCE ≠ 0 ∧ -s.get CHARGER.REST_CURRENT_MAX ≤ imax ∧ imax ≤ s.get
      CHARGER.REST_CURRENT_MAX ∧ s.chPhase = 1 ∧ v < s.get CHARGER.TARGET_VOLTAGE ∧ s.get CHARGER.TAPER_START ≤ v) ∧
    (∃ v : Int, ∃ imax : Int, ∃ s : State, s.nat CHARGER_STATUS.STAGE = 2 ∧ s.nat CH_STAGE_AT + 1000 * s.nat CHARGER.REST_TIME ≤
      s.time ∧ s.nat ESTIMATOR.BATT_SHUNT_RESISTANCE ≠ 0 ∧ -s.get CHARGER.REST_CURRENT_MAX ≤ imax ∧ imax ≤ s.get
      CHARGER.REST_CURRENT_MAX ∧ s.chPhase = 2 ∧ s.get CHARGER.TAPER_START ≤ v) ∧
    (∃ v : Int, ∃ imax : Int, ∃ s : State, s.nat CHARGER_STATUS.STAGE = 2 ∧ s.nat CH_STAGE_AT + 1000 * s.nat CHARGER.REST_TIME ≤
      s.time ∧ s.nat ESTIMATOR.BATT_SHUNT_RESISTANCE ≠ 0 ∧ -s.get CHARGER.REST_CURRENT_MAX ≤ imax ∧ imax ≤ s.get
      CHARGER.REST_CURRENT_MAX ∧ s.chPhase = 1 ∧ v < s.get CHARGER.TARGET_VOLTAGE ∧ v < s.get CHARGER.TAPER_START ∧ s.get
      CHARGER.QUALIFY_VOLTAGE ≤ v) ∧
    (∃ v : Int, ∃ imax : Int, ∃ s : State, s.nat CHARGER_STATUS.STAGE = 2 ∧ s.nat CH_STAGE_AT + 1000 * s.nat CHARGER.REST_TIME ≤
      s.time ∧ s.nat ESTIMATOR.BATT_SHUNT_RESISTANCE ≠ 0 ∧ -s.get CHARGER.REST_CURRENT_MAX ≤ imax ∧ imax ≤ s.get
      CHARGER.REST_CURRENT_MAX ∧ s.chPhase = 1 ∧ v < s.get CHARGER.TARGET_VOLTAGE ∧ v < s.get CHARGER.TAPER_START ∧ v < s.get
      CHARGER.QUALIFY_VOLTAGE) ∧
    (∃ v : Int, ∃ imax : Int, ∃ s : State, s.nat CHARGER_STATUS.STAGE = 2 ∧ s.nat CH_STAGE_AT + 1000 * s.nat CHARGER.REST_TIME ≤
      s.time ∧ s.nat ESTIMATOR.BATT_SHUNT_RESISTANCE ≠ 0 ∧ -s.get CHARGER.REST_CURRENT_MAX ≤ imax ∧ imax ≤ s.get
      CHARGER.REST_CURRENT_MAX ∧ s.chPhase = 2 ∧ v < s.get CHARGER.TAPER_START) ∧
    (∃ v : Int, ∃ imax : Int, ∃ s : State, s.nat CHARGER_STATUS.STAGE = 2 ∧ s.nat CH_STAGE_AT + 1000 * s.nat CHARGER.REST_TIME ≤
      s.time ∧ s.nat ESTIMATOR.BATT_SHUNT_RESISTANCE ≠ 0 ∧ -s.get CHARGER.REST_CURRENT_MAX ≤ imax ∧ imax ≤ s.get
      CHARGER.REST_CURRENT_MAX ∧ s.chPhase = 3 ∧ v < s.get CHARGER.TARGET_VOLTAGE ∧ s.get CHARGER.TAPER_START < s.get
      CHARGER.TARGET_VOLTAGE) ∧
    (∃ imax : Int, ∃ s : State, s.nat CHARGER_STATUS.STAGE = 2 ∧ s.nat CH_STAGE_AT + 1000 * s.nat CHARGER.REST_TIME ≤ s.time ∧
      (imax < -s.get CHARGER.REST_CURRENT_MAX ∨ s.get CHARGER.REST_CURRENT_MAX < imax)) ∧
    (∃ us : Nat, ∃ s : State, s.nat CHARGER_STATUS.STAGE = 1 ∧ 1000 < us ∧ us ≤ s.time - s.nat CH_STAGE_AT) ∧
    (∃ v : Int, ∃ imax : Int, ∃ s : State, s.chPhase = 4 ∧ s.nat CH_HOLD_AT + 60000000 ≤ s.time ∧ s.nat
      ESTIMATOR.BATT_SHUNT_RESISTANCE ≠ 0 ∧ -s.get CHARGER.REST_CURRENT_MAX ≤ imax ∧ imax ≤ s.get CHARGER.REST_CURRENT_MAX ∧ v <
      s.get CHARGER.MAINTAIN_LEVEL) ∧
    (∃ v : Int, ∃ imax : Int, ∃ s : State, s.chPhase = 4 ∧ s.nat CH_HOLD_AT + 60000000 ≤ s.time ∧ s.nat
      ESTIMATOR.BATT_SHUNT_RESISTANCE ≠ 0 ∧ -s.get CHARGER.REST_CURRENT_MAX ≤ imax ∧ imax ≤ s.get CHARGER.REST_CURRENT_MAX ∧
      s.get CHARGER.MAINTAIN_LEVEL ≤ v) ∧
    (∃ s : State, s.chPhase = 1 ∧ s.nat CH_QUALIFY_AT + 1000000 * s.nat CHARGER.QUALIFY_TIMEOUT ≤ s.time) ∧
    (∃ s : State, (s.chPhase = 2 ∨ s.chPhase = 3) ∧ 1000000 * s.nat CHARGER.CHARGE_TIMEOUT < s.chClock) :=
  ⟨⟨st 0 0 [(OVR_ON 1, 1)], by decide +kernel⟩,
    ⟨st 0 0 [(CHARGER.CHARGE_VOLTAGE_MAX, 3), (CHARGER.TAPER_START, 2), (CHARGER.TARGET_VOLTAGE, 3), (CHARGER.QUALIFY_VOLTAGE,
      1), (CHARGER.MAINTAIN_LEVEL, 1), (CHARGER.BULK_CURRENT, 1), (CONVERTER.TRUNC_LEVEL 1, 4), (CONVERTER.TRUNC_HYST 1, 0)],
      by decide +kernel⟩,
    ⟨st 0 0 [], by decide +kernel⟩,
    ⟨st 0 0 [(CHARGER_STATUS.STAGE, 1)], by decide +kernel⟩,
    ⟨0, 0, st 0 0 [(CHARGER.REST_TIME, 0), (CHARGER_STATUS.PHASE, 1), (CHARGER_STATUS.STAGE, 2),
      (ESTIMATOR.BATT_SHUNT_RESISTANCE, 1)], by decide +kernel⟩,
    ⟨0, -10, st 0 0 [(CHARGER.REST_TIME, 0), (CHARGER.TARGET_VOLTAGE, 1), (CHARGER_STATUS.PHASE, 1), (CHARGER_STATUS.STAGE, 2),
      (ESTIMATOR.BATT_SHUNT_RESISTANCE, 1)], by decide +kernel⟩,
    ⟨0, 0, st 0 0 [(CHARGER.REST_TIME, 0), (CHARGER_STATUS.PHASE, 2), (CHARGER_STATUS.STAGE, 2),
      (ESTIMATOR.BATT_SHUNT_RESISTANCE, 1)], by decide +kernel⟩,
    ⟨0, -10, st 0 0 [(CHARGER.REST_TIME, 0), (CHARGER.TAPER_START, 1), (CHARGER.TARGET_VOLTAGE, 1), (CHARGER_STATUS.PHASE, 1),
      (CHARGER_STATUS.STAGE, 2), (ESTIMATOR.BATT_SHUNT_RESISTANCE, 1)], by decide +kernel⟩,
    ⟨-1, -10, st 0 0 [(CHARGER.REST_TIME, 0), (CHARGER_STATUS.PHASE, 1), (CHARGER_STATUS.STAGE, 2),
      (ESTIMATOR.BATT_SHUNT_RESISTANCE, 1)], by decide +kernel⟩,
    ⟨-8383607, 0, st 0 0 [(CHARGER.REST_TIME, 0), (CHARGER_STATUS.PHASE, 2), (CHARGER_STATUS.STAGE, 2),
      (ESTIMATOR.BATT_SHUNT_RESISTANCE, 1)], by decide +kernel⟩,
    ⟨0, 0, st 0 0 [(CHARGER.REST_TIME, 0), (CHARGER.TARGET_VOLTAGE, 1), (CHARGER_STATUS.PHASE, 3), (CHARGER_STATUS.STAGE, 2),
      (ESTIMATOR.BATT_SHUNT_RESISTANCE, 1)], by decide +kernel⟩,
    ⟨5001, st 0 0 [(CHARGER.REST_TIME, 0), (CHARGER_STATUS.STAGE, 2)], by decide +kernel⟩,
    ⟨1001, st 1001 0 [(CHARGER_STATUS.STAGE, 1)], by decide +kernel⟩,
    ⟨0, 0, st 60000000 0 [(CHARGER.MAINTAIN_LEVEL, 1), (CHARGER_STATUS.PHASE, 4), (ESTIMATOR.BATT_SHUNT_RESISTANCE, 1)],
      by decide +kernel⟩,
    ⟨0, 0, st 60000000 0 [(CHARGER_STATUS.PHASE, 4), (ESTIMATOR.BATT_SHUNT_RESISTANCE, 1)], by decide +kernel⟩,
    ⟨st 0 0 [(CHARGER.QUALIFY_TIMEOUT, 0), (CHARGER_STATUS.PHASE, 1)], by decide +kernel⟩,
    ⟨st 0 0 [(CHARGER_STATUS.PHASE, 2), (CH_CLOCK, 28800000001)], by decide +kernel⟩⟩

/-- States and operands that meet the hypotheses of ButtonAndShip, clause by clause. -/
theorem met_ButtonAndShip :
    (∃ s : State, s.nat BTN_FELL = 0) ∧
    (∃ s : State, s.nat BTN_FELL ≠ 0 ∧ s.nat SHIP_CONTROL.SHIP_STATE ≠ 1) ∧
    (∃ s : State, s.nat BTN_FELL ≠ 0 ∧ s.live = true ∧ s.nat SHIP_CONTROL.SHIP_STATE = 1 ∧ s.flag BTN_LONG = false ∧ 50000 ≤
      s.time - (s.nat BTN_FELL - 1) ∧ s.time - (s.nat BTN_FELL - 1) < 2000000) ∧
    (∃ s : State, s.nat BTN_FELL ≠ 0 ∧ s.flag BTN_LONG = false ∧ s.nat BTN_FELL - 1 + 10000000 ≤ s.time) ∧
    (∃ s : State, s.nat LONG_AT ≠ 0 ∧ s.nat LONG_AT - 1 + 2000000 ≤ s.time ∧ s.flag SW_UNPOWERED = false) ∧
    (∃ s : State, s.nat SHIP_CONTROL.SHIP_STATE = 1 ∧ s.nat SHIP_AT + s.nat SHIP_CONTROL.SHIP_WINDOW ≤ s.time) ∧
    (∃ s : State, s.flag SHIP_IN = true ∧ s.nat WAKE_PENDING ≠ 0 ∧ s.flag SW_UNPOWERED = false) :=
  ⟨⟨st 0 0 [], by decide +kernel⟩,
    ⟨st 0 0 [(BTN_FELL, 1)], by decide +kernel⟩,
    ⟨st 50000 0 [(SHIP_CONTROL.SHIP_STATE, 1), (DEV_STATE, 1), (BTN_FELL, 1)], by decide +kernel⟩,
    ⟨st 10000000 0 [(BTN_FELL, 1)], by decide +kernel⟩,
    ⟨st 2000000 0 [(LONG_AT, 1)], by decide +kernel⟩,
    ⟨st 1 0 [(SHIP_CONTROL.SHIP_WINDOW, 1), (SHIP_CONTROL.SHIP_STATE, 1)], by decide +kernel⟩,
    ⟨st 0 0 [(WAKE_PENDING, 1), (SHIP_IN, 1)], by decide +kernel⟩⟩

/-- States and operands that meet the hypotheses of AssistPort, clause by clause. -/
theorem met_AssistPort :
    (∃ s : State, s.flag ASSIST_STATUS.ASSIST_STATE = false ∧ s.conv 2 = CS.RUN) ∧
    (∃ s : State, s.flag ASSIST_STATUS.ASSIST_STATE = false ∧ s.conv 2 ≠ CS.RUN) ∧
    (∃ asv : Int, ∃ s : State, s.nat ASSIST_STATUS.ASSIST_STATE = 1 ∧ s.nat AS_AT + 10000 ≤ s.time ∧ s.get
      ASSIST_PORT.ASSIST_VOLTAGE ≤ s.get ASSIST_PORT.ASSIST_MAX_VOLTAGE ∧ asv < -5000) ∧
    (∃ asv : Int, ∃ s : State, s.nat ASSIST_STATUS.ASSIST_STATE = 1 ∧ s.nat AS_AT + 10000 ≤ s.time ∧ s.get
      ASSIST_PORT.ASSIST_VOLTAGE ≤ s.get ASSIST_PORT.ASSIST_MAX_VOLTAGE ∧ -5000 ≤ asv ∧ s.get ASSIST_PORT.ASSIST_MAX_VOLTAGE <
      asv) ∧
    (∃ asv : Int, ∃ s : State, s.nat ASSIST_STATUS.ASSIST_STATE = 1 ∧ s.nat AS_AT + 10000 ≤ s.time ∧ s.get
      ASSIST_PORT.ASSIST_VOLTAGE ≤ s.get ASSIST_PORT.ASSIST_MAX_VOLTAGE ∧ -5000 ≤ asv ∧ asv ≤ s.get
      ASSIST_PORT.ASSIST_MAX_VOLTAGE ∧ asv < 50000) ∧
    (∃ asv : Int, ∃ s : State, s.nat ASSIST_STATUS.ASSIST_STATE = 1 ∧ s.nat AS_AT + 10000 ≤ s.time ∧ s.get
      ASSIST_PORT.ASSIST_VOLTAGE ≤ s.get ASSIST_PORT.ASSIST_MAX_VOLTAGE ∧ 50000 ≤ asv ∧ asv ≤ s.get
      ASSIST_PORT.ASSIST_MAX_VOLTAGE) ∧
    (∃ asv : Int, ∃ us : Nat, ∃ s : State, s.nat ASSIST_STATUS.ASSIST_STATE = 2 ∧ s.nat AS_END = 0 ∧ 50000 ≤ asv ∧ 1000000 ≤ us
      ∧ us ≤ s.time - s.nat AS_STATE_AT) ∧
    (∃ s : State, s.nat ASSIST_STATUS.ASSIST_STATE = 2 ∧ s.nat AS_END = 0 ∧ s.nat AS_STATE_AT + 1000000 * s.nat
      ASSIST_PORT.PRECHARGE_TIME ≤ s.time) ∧
    (∃ diff : Int, ∃ s : State, s.nat ASSIST_STATUS.ASSIST_STATE = 3 ∧ -5000 ≤ diff ∧ diff ≤ 5000) ∧
    (∃ s : State, s.nat ASSIST_STATUS.ASSIST_STATE = 3 ∧ s.nat AS_STATE_AT + 100000 ≤ s.time) ∧
    (∃ s : State, s.nat ASSIST_STATUS.ASSIST_STATE = 4 ∧ s.nat AS_END = 0 ∧ s.nat AS_AT + 1000000 * s.nat
      ASSIST_PORT.SESSION_TIMEOUT ≤ s.time) ∧
    (∃ asv : Int, ∃ us : Nat, ∃ s : State, s.nat ASSIST_STATUS.ASSIST_STATE = 4 ∧ s.nat AS_END = 0 ∧ s.get
      ASSIST_PORT.ASSIST_MAX_VOLTAGE < asv ∧ 10000 ≤ us) ∧
    (∃ s : State, s.flag ASSIST_STATUS.ASSIST_STATE = true ∧ s.nat AS_END ≠ 0 ∧ s.nat AS_END_AT + 10000 ≤ s.time) :=
  ⟨⟨st 0 0 [(CONVERTER_STATUS.STATE 2, 2)], by decide +kernel⟩,
    ⟨st 0 0 [], by decide +kernel⟩,
    ⟨-2147483648, st 10000 0 [(ASSIST_STATUS.ASSIST_STATE, 1)], by decide +kernel⟩,
    ⟨300001, st 10000 0 [(ASSIST_STATUS.ASSIST_STATE, 1)], by decide +kernel⟩,
    ⟨0, st 10000 0 [(ASSIST_STATUS.ASSIST_STATE, 1)], by decide +kernel⟩,
    ⟨50000, st 10000 0 [(ASSIST_STATUS.ASSIST_STATE, 1)], by decide +kernel⟩,
    ⟨50000, 1000000, st 1000000 0 [(ASSIST_STATUS.ASSIST_STATE, 2)], by decide +kernel⟩,
    ⟨st 0 0 [(ASSIST_PORT.PRECHARGE_TIME, 0), (ASSIST_STATUS.ASSIST_STATE, 2)], by decide +kernel⟩,
    ⟨0, st 0 0 [(ASSIST_STATUS.ASSIST_STATE, 3)], by decide +kernel⟩,
    ⟨st 100000 0 [(ASSIST_STATUS.ASSIST_STATE, 3)], by decide +kernel⟩,
    ⟨st 0 0 [(ASSIST_PORT.SESSION_TIMEOUT, 0), (ASSIST_STATUS.ASSIST_STATE, 4)], by decide +kernel⟩,
    ⟨300001, 10000, st 0 0 [(ASSIST_STATUS.ASSIST_STATE, 4)], by decide +kernel⟩,
    ⟨st 10000 0 [(ASSIST_STATUS.ASSIST_STATE, 1), (AS_END, 1)], by decide +kernel⟩⟩

/-- States and operands that meet the hypotheses of BackupDomain, clause by clause. -/
theorem met_BackupDomain :
    (∃ s : State, s.alarmAt ≠ 0 ∧ s.nat ALARM.ALARM_STATE = 1 ∧ s.alarmAt ≤ s.rtcSeconds ∧ s.alarmRepeat = 0) ∧
    (∃ s : State, s.alarmAt ≠ 0 ∧ s.nat ALARM.ALARM_STATE = 1 ∧ s.alarmAt ≤ s.rtcSeconds ∧ s.alarmRepeat ≠ 0) ∧
    (∃ s : State, s.rtcSeconds < s.alarmAt) ∧
    (∃ s : State, s.flag OSC_OFF = false) ∧
    (∃ s : State, s.flag OSC_OFF = true) ∧
    (∃ vbk : Int, ∃ us : Nat, ∃ s : State, vbk < 20000 ∧ 1000 ≤ us ∧ s.flag ON_VBK = false ∧ s.rtcFlag TFLAG.VBK_LOW = false) ∧
    (∃ vbk : Int, ∃ us : Nat, ∃ s : State, vbk < 20000 ∧ 1000 ≤ us ∧ s.flag ON_VBK = true) ∧
    (∃ vbk : Int, 21000 ≤ vbk) ∧
    (∃ s : State, s.nat DEV_STATE = 3) ∧
    (∃ us : Nat, ∃ high : Bool, ∃ j : Fin 8, ∃ s : State, max 1 (1000 * s.wakeFilter) ≤ us ∧ high = s.wakePolarity.testBit j ∧
      (s.wakeSense.testBit j = false ∨ s.wakeActive j = false)) ∧
    (∃ us : Nat, ∃ s : State, us < max 1 (1000 * s.wakeFilter)) ∧
    (∃ s : State, s.flag BACKUP_LOCKED = false) ∧
    (∃ s : State, s.flag BACKUP_LOCKED = true) :=
  ⟨⟨st 1000000 0 [(ALARM.ALARM_STATE, 1), (inForce ALARM.ALARM_SECONDS, 1), (DEV_STATE, 1)], by decide +kernel⟩,
    ⟨st 1000000 0 [(ALARM.ALARM_STATE, 1), (inForce ALARM.ALARM_SECONDS, 1), (inForce ALARM.ALARM_REPEAT, 1), (DEV_STATE, 1)],
      by decide +kernel⟩,
    ⟨st 0 0 [(inForce ALARM.ALARM_SECONDS, 1), (DEV_STATE, 1)], by decide +kernel⟩,
    ⟨st 0 0 [], by decide +kernel⟩,
    ⟨st 0 0 [(OSC_OFF, 1)], by decide +kernel⟩,
    ⟨0, 60000000, st 0 0 [], by decide +kernel⟩,
    ⟨0, 60000000, st 0 0 [(ON_VBK, 1)], by decide +kernel⟩,
    ⟨21000, by decide +kernel⟩,
    ⟨st 0 0 [(DEV_STATE, 3)], by decide +kernel⟩,
    ⟨10000, true, 0, st 0 0 [], by decide +kernel⟩,
    ⟨0, st 0 0 [], by decide +kernel⟩,
    ⟨st 0 0 [], by decide +kernel⟩,
    ⟨st 0 0 [(BACKUP_LOCKED, 1)], by decide +kernel⟩⟩

/-- States and operands that meet the hypotheses of Estimator, clause by clause. -/
theorem met_Estimator :
    (∃ code : Int, ∃ s : State, -8388608 < code ∧ code < 8388607 ∧ s.shuntNow ≠ 0 ∧ s.live = true ∧ s.nat EST_MS_CNT = 3) ∧
    (∃ code : Int, ∃ s : State, -8388608 < code ∧ code < 8388607 ∧ s.shuntNow ≠ 0 ∧ s.nat DEV_STATE = 2) ∧
    (∃ s : State, s.live = true ∧ s.tick % 1000000 = 0 ∧ s.time = s.nat LAST_BOUNDARY ∧ s.nat EST_UPDATED ≠ s.time + 1 ∧ s.get
      EST_LONG = 0 ∧ s.get EST_SHORT = 0 ∧ s.flag CH_FULL = false ∧ s.socKnown = true) ∧
    (∃ s : State, s.nat EST_REST_SINCE ≠ 0 ∧ s.flag EST_REST_DONE = false ∧ s.nat EST_UPDATED = s.time + 1 ∧ s.nat
      EST_REST_SINCE - 1 + 1000000 * s.nat ESTIMATOR.EST_REST_TIME ≤ s.time) ∧
    (∃ i : Int, ∃ s : State, s.nat CHARGER_STATUS.STAGE = 1 ∧ s.flag RS_OK = true ∧ s.nat CH_STAGE_AT + 4000 ≤ s.time ∧ i -
      s.get RS_I < 100000) ∧
    (∃ v : Int, ∃ i : Int, ∃ s : State, s.nat CHARGER_STATUS.STAGE = 1 ∧ s.flag RS_OK = true ∧ s.nat CH_STAGE_AT + 4000 ≤ s.time
      ∧ 100000 ≤ i - s.get RS_I ∧ (s.nat ESTIMATOR.EST_TEMP_ENTRY) ≠ 0xFF ∧ s.hkStale (s.nat ESTIMATOR.EST_TEMP_ENTRY) = false ∧
      1500 ≤ s.get (HK_ENTRY.VALUE (s.nat ESTIMATOR.EST_TEMP_ENTRY)) ∧ s.get (HK_ENTRY.VALUE (s.nat ESTIMATOR.EST_TEMP_ENTRY)) ≤
      3500 ∧ s.nat REC_RES_N = 0 ∧ 0 ≤ (divNear ((v - s.get RS_V) * 1000000000) (i - s.get RS_I).toNat) ∧ (divNear ((v - s.get
      RS_V) * 1000000000) (i - s.get RS_I).toNat) < 2 ^ 32) :=
  ⟨⟨0, st 0 0 [(ESTIMATOR.BATT_SHUNT_RESISTANCE, 1), (DEV_STATE, 1), (EST_MS_CNT, 3)], by decide +kernel⟩,
    ⟨0, st 0 0 [(DEV_STATE, 2), (PARK_SHUNT, 1)], by decide +kernel⟩,
    ⟨st 1000000 0 [(ESTIMATOR.RATED_CAPACITY, 1), (ESTIMATOR_STATUS.SOC_SOURCE, 1), (LAST_BOUNDARY, 1000000), (DEV_STATE, 1)],
      by decide +kernel⟩,
    ⟨st 3 0 [(ESTIMATOR.EST_REST_TIME, 0), (EST_REST_SINCE, 1), (EST_UPDATED, 4)], by decide +kernel⟩,
    ⟨0, st 4000 0 [(CHARGER_STATUS.STAGE, 1), (RS_OK, 1)], by decide +kernel⟩,
    ⟨0, 100000, st 4000 0 [(HK_ENTRY.VALUE 1, 1500), (HK_ENTRY.ENTRY_STATUS 1, 2), (CHARGER_STATUS.STAGE, 1),
      (ESTIMATOR.EST_TEMP_ENTRY, 1), (RS_OK, 1)], by decide +kernel⟩⟩

/-- States and operands that meet the hypotheses of RecordStore, clause by clause. -/
theorem met_RecordStore :
    (∃ s : State, s.live = true ∧ s.nat STORE_AT + 600000000 ≤ s.time ∧ s.flag STORE_OFF = false) ∧
    (∃ s : State, s.live = true ∧ s.nat STORE_AT + 600000000 ≤ s.time ∧ s.flag STORE_OFF = false ∧ s.flag STORE_BUSY = false) ∧
    (∃ s : State, s.flag STORE_BUSY = true) :=
  ⟨⟨st 600000000 0 [(DEV_STATE, 1)], by decide +kernel⟩,
    ⟨st 600000000 0 [(DEV_STATE, 1)], by decide +kernel⟩,
    ⟨st 0 0 [(STORE_BUSY, 1)], by decide +kernel⟩⟩

/-- States and operands that meet the hypotheses of ResetsBegin, clause by clause. -/
theorem met_ResetsBegin :
    (∃ v : Int, ∃ us : Nat, ∃ s : State, s.live = true ∧ v < 45000 ∧ 2 ≤ us) ∧
    (∃ v : Int, ∃ us : Nat, ∃ s : State, s.live = true ∧ v < vcoreOf (s.nat PERFORMANCE.LEVEL_IN_FORCE) - 600 ∧ 2 ≤ us) ∧
    (∃ v : Int, ∃ us : Nat, ∃ s : State, s.live = true ∧ v < 29000 ∧ 2 ≤ us) ∧
    (∃ us : Nat, ∃ s : State, s.live = true ∧ 20 ≤ us) ∧
    (∃ us : Nat, ∃ s : State, s.live = true ∧ us < 10) ∧
    (∃ s : State, s.live = true ∧ s.nat WDX_SERVED + 10000 ≤ s.time ∧ s.nat PARK_STAGE ≠ 2) ∧
    (∃ site : Nat, ∃ s : State, s.live = true ∧ siteDieOf none site = true) ∧
    (∃ s : State, s.live = true ∧ s.flag STOP_RUNS = true ∧ s.nat STOP_AT + 10 ≤ s.time ∧ ((∀ m < 4, s.nat (CONV_WRITING m) =
      0)) ∧ s.nat STOP_RUNS = 2) :=
  ⟨⟨0, 60000000, st 0 0 [(DEV_STATE, 1)], by decide +kernel⟩,
    ⟨vcoreOf 0 - 601, 2, st 0 0 [(DEV_STATE, 1)],
      by refine ⟨by decide, ?_, by decide⟩; show vcoreOf 0 - 601 < vcoreOf 0 - 600; omega⟩,
    ⟨0, 60000000, st 0 0 [(DEV_STATE, 1)], by decide +kernel⟩,
    ⟨60000000, st 0 0 [(DEV_STATE, 1)], by decide +kernel⟩,
    ⟨0, st 0 0 [(DEV_STATE, 1)], by decide +kernel⟩,
    ⟨st 10000 0 [(DEV_STATE, 1)], by decide +kernel⟩,
    ⟨0, st 0 0 [(DEV_STATE, 1)], by decide +kernel⟩,
    ⟨st 10 0 [(STOP_RUNS, 2), (DEV_STATE, 1)], by decide +kernel⟩⟩

/-- States and operands that meet the hypotheses of SupplyLossAndDieReset, clause by clause. -/
theorem met_SupplyLossAndDieReset :
    (∃ s : State, s.live = true ∧ s.nat VBAT_GONE_AT = 0) ∧
    (∃ s : State, s.nat DEV_STATE = 3 ∧ isAnchored 0 = true ∧ (profileChannels s.profile).contains 0 = false) ∧
    (∃ s : State, s.nat VBAT_GONE_AT ≠ 0 ∧ s.nat VBAT_GONE_AT - 1 + 100000 ≤ s.time) ∧
    (∃ d : Die, ∃ site : Nat, ∃ s : State, s.flag (LOGIC_OFF d) = false ∧ siteDieOf (some d) site = true ∧ dieOf 0 = d) :=
  ⟨⟨st 0 0 [(DEV_STATE, 1)], by decide +kernel⟩,
    ⟨st 0 0 [(DEV_STATE, 3)], by decide +kernel⟩,
    ⟨st 100000 0 [(VBAT_GONE_AT, 1)], by decide +kernel⟩,
    ⟨0, siteChannel 0 0, st 0 0 [], by decide +kernel⟩⟩

/-- States and operands that meet the hypotheses of Openings, clause by clause. -/
theorem met_Openings :
    (∃ s : State, s.mayRelease = false ∧ s.flag V18_WAIT = false) ∧
    (∃ s : State, s.mayRelease = true ∧ 3 ≤ s.nat KEEPER.FAILED_OPENINGS ∧ s.flag KEEPER_PASS = false) ∧
    (∃ o : Opening, ∃ s : State, s.mayRelease = true ∧ (s.nat KEEPER.FAILED_OPENINGS < 3 ∨ s.flag KEEPER_PASS = true) ∧ o.hang =
      0 ∧ s.flag V18_LOW = false) ∧
    (∃ o : Opening, ∃ s : State, s.nat DEV_STATE = 2 ∧ s.wakeCauses ≠ 0 ∧ o.hang = 0 ∧ s.flag V18_LOW = false) ∧
    (∃ n : Nat, ∃ s : State, s.live = true ∧ s.nat OPENING_STATUS.STEP = 7 ∧ s.time = s.nat LAST_BOUNDARY ∧ n < 16 ∧ s.bit
      PROFILE_NAMED n = true ∧ s.bit PROFILE_DONE n = false ∧ s.profileTime n ≤ s.time ∧ s.commands n = true) ∧
    (∃ s : State, s.live = true ∧ s.flag ARB_DOWN = true ∧ s.nat ARB_AT + 100000 ≤ s.time) ∧
    (∃ s : State, s.portsReady = true ∧ s.nat RSTOUT_UNTIL ≤ s.time) ∧
    (∃ s : State, s.nat OPENING_STATUS.OPENING_STATE ≠ 2) :=
  ⟨⟨st 0 0 [(DEV_STATE, 1)], by decide +kernel⟩,
    ⟨st 0 0 [(KEEPER.FAILED_OPENINGS, 3)], by decide +kernel⟩,
    ⟨⟨100, false, [147, 147, 147], [(2, 918), (0, 2398), (2, 50), (2, 50)], 100, 2000, 100, 0, 0, false⟩, st 0 0 [],
      by decide +kernel⟩,
    ⟨⟨100, false, [147, 147, 147], [(2, 918), (0, 2398), (2, 50), (2, 50)], 100, 2000, 100, 0, 0, false⟩, st 0 0 [(DEV_STATE,
      2), (WAKE_PENDING, 1)], by decide +kernel⟩,
    ⟨0, st 1001400 0 [(AMLOR_LINK.LINK_STATE 0, 2), (OPENING_STATUS.STEP, 7), (LAST_BOUNDARY, 1001400), (DEV_STATE, 1),
      (PROFILE_NAMED, 1)], by decide +kernel⟩,
    ⟨st 100000 0 [(DEV_STATE, 1), (ARB_DOWN, 1)], by decide +kernel⟩,
    ⟨st 0 0 [(DEV_STATE, 1), (PORTS_READY, 1)], by decide +kernel⟩,
    ⟨st 0 0 [], by decide +kernel⟩⟩

/-- States and operands that meet the hypotheses of PowerStates, clause by clause. -/
theorem met_PowerStates :
    (∃ v : Int, ∃ s : State, s.live = true ∧ 640000 < v ∧ s.bit SUPPLY_STATUS.SUPPLY_FLAGS 1 = false) ∧
    (∃ v : Int, v ≤ 610000) ∧
    (∃ v : Int, v ≤ 595000) ∧
    (∃ r : Fin 4, ∃ s : State, s.live = true ∧ s.bit SUPPLY_STATUS.SUPPLY_FLAGS (2 + r.val) = false ∧ s.nat (HR_TOLD r) = 0) ∧
    (∃ v : Int, ∃ us : Nat, ∃ s : State, s.live = true ∧ v < 16200 ∧ 2 ≤ us ∧ s.flag V18_LOW = false) ∧
    (∃ v : Int, 16200 ≤ v) ∧
    (∃ s : State, s.live = true ∧ s.levelAim ≠ (s.nat PERFORMANCE.LEVEL_IN_FORCE)) ∧
    (∃ s : State, s.live = true ∧ s.levelAim = s.nat PERFORMANCE.LEVEL_IN_FORCE) ∧
    (∃ s : State, s.nat PARK_STAGE = 0) ∧
    (∃ s : State, s.live = true ∧ s.nat PARK_STAGE = 0) ∧
    (∃ d : Die, ∃ s : State, s.live = true ∧ s.nat PARK_STAGE = 1 ∧ s.flag STORE_BUSY = false ∧ ((∀ m < 4, s.flag (CONV_WRITING
      m) = false)) ∧ s.time = s.nat LAST_BOUNDARY ∧ s.linkUp d = true) ∧
    (∃ s : State, s.flag STORE_BUSY = true) ∧
    (∃ s : State, s.live = true ∧ s.nat PARK_STAGE = 2 ∧ s.nat PARK_FRAME < s.frame) :=
  ⟨⟨640001, st 0 0 [(DEV_STATE, 1)], by decide +kernel⟩,
    ⟨0, by decide +kernel⟩,
    ⟨0, by decide +kernel⟩,
    ⟨0, st 0 0 [(DEV_STATE, 1)], by decide +kernel⟩,
    ⟨0, 2, st 0 0 [(DEV_STATE, 1)], by decide +kernel⟩,
    ⟨16200, by decide +kernel⟩,
    ⟨st 0 0 [(inForce PERFORMANCE.LEVEL_REQUEST, 1), (DEV_STATE, 1)], by decide +kernel⟩,
    ⟨st 0 0 [(DEV_STATE, 1)], by decide +kernel⟩,
    ⟨st 0 0 [], by decide +kernel⟩,
    ⟨st 0 0 [(DEV_STATE, 1)], by decide +kernel⟩,
    ⟨2, st 165 0 [(AMLOR_LINK.LINK_STATE 2, 2), (LAST_BOUNDARY, 165), (DEV_STATE, 1), (PARK_STAGE, 1)], by decide +kernel⟩,
    ⟨st 0 0 [(STORE_BUSY, 1)], by decide +kernel⟩,
    ⟨st 0 1 [(DEV_STATE, 1), (PARK_STAGE, 2)], by decide +kernel⟩⟩

/-- States and operands that meet the hypotheses of FaultMessages, clause by clause. -/
theorem met_FaultMessages :
    (∃ s : State, s.live = true ∧ s.collector = []) ∧
    (∃ code : Nat, ∃ site : Nat, ∃ s : State, s.live = true ∧ Kind.ofCode code = none ∧ site < 2 ^ 29 ∧ s.collector ≠ []) ∧
    (∃ m : Msg, ∃ rest : List Msg, ∃ s : State, s.live = true ∧ s.collector = m :: rest ∧ s.shadowed m (s.classOf m.kind) =
      false ∧ s.classOf m.kind = 0 ∧ (s.placing.filter fun p => p.record.cls ≤ 1).length < 512) ∧
    (∃ m : Msg, ∃ rest : List Msg, ∃ s : State, s.live = true ∧ s.collector = m :: rest ∧ s.shadowed m (s.classOf m.kind) =
      false ∧ s.classShadowOpen = false ∧ s.flag STOP_RUNS = false ∧ s.classOf m.kind = 1) ∧
    (∃ m : Msg, ∃ rest : List Msg, ∃ s : State, s.live = true ∧ s.collector = m :: rest ∧ s.shadowed m (s.classOf m.kind) =
      false ∧ s.classShadowOpen = false ∧ s.flag STOP_RUNS = false ∧ s.classOf m.kind = 2 ∧ siteChannels m.site ≠ []) ∧
    (∃ m : Msg, ∃ rest : List Msg, ∃ s : State, s.live = true ∧ s.collector = m :: rest ∧ s.shadowed m (s.classOf m.kind) =
      false ∧ s.classShadowOpen = false ∧ s.flag STOP_RUNS = false ∧ s.classOf m.kind = 3 ∧ (2 : Nat) ∈ s.handsOf m ∧
      s.foldPending 2 = false ∧ s.resetPending 2 = false) ∧
    (∃ m : Msg, ∃ rest : List Msg, ∃ s : State, s.live = true ∧ s.collector = m :: rest ∧ s.shadowed m (s.classOf m.kind) =
      false ∧ s.classShadowOpen = false ∧ s.flag STOP_RUNS = false ∧ s.nat OPENING_PLAN.STEP_COUNT ≤ 128 ∧ s.nat
      ENDGAME_PLAN.STEP_COUNT ≤ 128 ∧ s.classOf m.kind = 4 ∧ s.linkUp 3 = true) ∧
    (∃ m : Msg, ∃ rest : List Msg, ∃ s : State, s.live = true ∧ s.collector = m :: rest ∧ s.shadowed m (s.classOf m.kind) =
      false ∧ s.classShadowOpen = false ∧ s.flag STOP_RUNS = false ∧ s.nat OPENING_PLAN.STEP_COUNT ≤ 128 ∧ s.nat
      ENDGAME_PLAN.STEP_COUNT ≤ 128 ∧ s.classOf m.kind = 4) ∧
    (∃ m : Msg, ∃ rest : List Msg, ∃ s : State, s.live = true ∧ s.collector = m :: rest ∧ s.shadowed m (s.classOf m.kind) =
      false ∧ s.classShadowOpen = false ∧ s.flag STOP_RUNS = false ∧ s.nat OPENING_PLAN.STEP_COUNT ≤ 128 ∧ s.nat
      ENDGAME_PLAN.STEP_COUNT ≤ 128 ∧ s.classOf m.kind = 5 ∧ s.linkUp 3 = true) ∧
    (∃ m : Msg, ∃ rest : List Msg, ∃ s : State, s.live = true ∧ s.collector = m :: rest ∧ s.shadowed m (s.classOf m.kind) =
      false ∧ s.classShadowOpen = false ∧ s.flag STOP_RUNS = false ∧ s.nat OPENING_PLAN.STEP_COUNT ≤ 128 ∧ s.nat
      ENDGAME_PLAN.STEP_COUNT ≤ 128 ∧ s.classOf m.kind = 5) ∧
    (∃ m : Msg, ∃ rest : List Msg, ∃ s : State, s.live = true ∧ s.collector = m :: rest ∧ s.shadowed m (s.classOf m.kind) =
      true) :=
  ⟨⟨st 0 0 [(DEV_STATE, 1)], by decide +kernel⟩,
    ⟨0, 0, { st 0 0 [(DEV_STATE, 1)] with collector := [⟨2 ^ 48, siteControl, .TICK_LOADED, 0, 0, [(1, 2), (1, 1)], false⟩] },
      by decide +kernel⟩,
    ⟨⟨2 ^ 48, siteControl, .TICK_LOADED, 0, 0, [(1, 2), (1, 1)], false⟩, [], { st 0 0 [(DEV_STATE, 1)] with collector := [⟨2 ^
      48, siteControl, .TICK_LOADED, 0, 0, [(1, 2), (1, 1)], false⟩] }, by decide +kernel⟩,
    ⟨⟨2 ^ 48, siteControl, .RETAINED_REGION_LOST, 0, 0, [(2, 511), (1, 1)], false⟩, [], { st 0 0 [(DEV_STATE, 1)] with collector
      := [⟨2 ^ 48, siteControl, .RETAINED_REGION_LOST, 0, 0, [(2, 511), (1, 1)], false⟩] }, by decide +kernel⟩,
    ⟨⟨2 ^ 48, siteChannel 5 0, .LOCKOUT_ENTERED, 0, 0, [], false⟩, [], { st 0 0 [(DEV_STATE, 1)] with collector := [⟨2 ^ 48,
      siteChannel 5 0, .LOCKOUT_ENTERED, 0, 0, [], false⟩] }, by decide +kernel⟩,
    ⟨⟨2 ^ 48, siteWd 2, .WATCHDOG_EXPIRED, 2, 0, [(1, 0)], false⟩, [], { st 0 0 [(DEV_STATE, 1)] with collector := [⟨2 ^ 48,
      siteWd 2, .WATCHDOG_EXPIRED, 2, 0, [(1, 0)], false⟩] }, by decide +kernel⟩,
    ⟨⟨2 ^ 48, siteControl, .HOUSE_STOP, 4, 0, [(1, 4)], false⟩, [], { st 0 0 [(DEV_STATE, 1), (AMLOR_LINK.LINK_STATE 3,
      2)] with collector := [⟨2 ^ 48, siteControl, .HOUSE_STOP, 4, 0, [(1, 4)], false⟩] }, by decide +kernel⟩,
    ⟨⟨2 ^ 48, siteControl, .HOUSE_STOP, 4, 0, [(1, 4)], false⟩, [], { st 0 0 [(DEV_STATE, 1)] with collector := [⟨2 ^ 48,
      siteControl, .HOUSE_STOP, 4, 0, [(1, 4)], false⟩] }, by decide +kernel⟩,
    ⟨⟨2 ^ 48, siteControl, .LOCKOUT, 0, 0, [], false⟩, [], { st 0 0 [(DEV_STATE, 1), (AMLOR_LINK.LINK_STATE 3,
      2)] with collector := [⟨2 ^ 48, siteControl, .LOCKOUT, 0, 0, [], false⟩] }, by decide +kernel⟩,
    ⟨⟨2 ^ 48, siteControl, .LOCKOUT, 0, 0, [], false⟩, [], { st 0 0 [(DEV_STATE, 1)] with collector := [⟨2 ^ 48, siteControl,
      .LOCKOUT, 0, 0, [], false⟩] }, by decide +kernel⟩,
    ⟨⟨2 ^ 48, siteChannel 5 0, .LIMIT_ENTERED, 0, 0, [], false⟩, [], { { st 0 0 [(DEV_STATE, 1)] with collector := [⟨2 ^ 48,
      siteChannel 5 0, .LIMIT_ENTERED, 0, 0, [], false⟩] } with shadows := [⟨1, 5, 0, 0⟩] }, by decide +kernel⟩⟩

/-- States and operands that meet the hypotheses of ShadowsAndKeeper, clause by clause. -/
theorem met_ShadowsAndKeeper :
    (∃ s : State, s.nat DEV_STATE = 0 ∧ s.nat KEEPER_HOLDING = 1 ∧ s.nat RET_RETRY ≠ 0 ∧ s.nat KEEPER_AT + 1000000 * s.nat
      RET_RETRY ≤ s.time) ∧
    (∃ s : State, s.nat KEEPER_HOLDING = 2) ∧
    (∃ s : State, s.nat DEV_STATE = 0 ∧ s.flag KEEPER_HOLDING = true ∧ s.nat KEEPER_LAST + 1000000 ≤ s.time ∧ s.nat RET_PORT ≠ 0
      ∧ s.nat CLOCK_STATUS.ROOT_SOURCE ≠ 2) ∧
    (∃ d : Die, ∃ s : State, s.flag (LOGIC_OFF d) = false) ∧
    (∃ d : Die, ∃ s : State, s.flag (LOGIC_OFF d) = true ∧ s.nat (LOGIC_OFF_AT d) + 3000 ≤ s.time) ∧
    (∃ d : Die, ∃ s : State, s.flag (LOGIC_OFF d) = false) :=
  ⟨⟨st 1000000 0 [(KEEPER_HOLDING, 1), (RET_RETRY, 1)], by decide +kernel⟩,
    ⟨st 0 0 [(KEEPER_HOLDING, 2)], by decide +kernel⟩,
    ⟨st 1000000 0 [(KEEPER_HOLDING, 1), (RET_PORT, 1)], by decide +kernel⟩,
    ⟨0, st 0 0 [], by decide +kernel⟩,
    ⟨0, st 3000 0 [(LOGIC_OFF 0, 1)], by decide +kernel⟩,
    ⟨0, st 0 0 [], by decide +kernel⟩⟩

/-- States and operands that meet the hypotheses of EventFabric, clause by clause. -/
theorem met_EventFabric :
    (∃ p : Placing, ∃ rest : List Placing, ∃ q : Nat, ∃ s : State, q < 8192 ∧ s.fences = [] ∧ s.flag ERA_OPEN = false ∧
      s.placing = p :: rest ∧ p.more = none ∧ s.ringsFor p = [q] ∧ s.nat (OVF_DROPS q) = 0 ∧ s.ringCount q < s.capacityOf q ∧
      s.nat (RING_FENCE q) = 0) ∧
    (∃ p : Placing, ∃ rest : List Placing, ∃ q : Nat, ∃ s : State, q < 8192 ∧ s.fences = [] ∧ s.flag ERA_OPEN = false ∧
      s.placing = p :: rest ∧ p.more = none ∧ s.ringsFor p = [q] ∧ s.nat (OVF_DROPS q) = 0 ∧ s.capacityOf q ≠ 0 ∧ s.ringCount q
      = s.capacityOf q) ∧
    (∃ g : TargetId, ∃ s : State, s.tgBit g TFL.EPISODE = true ∧ s.tgBit g TFL.RAISED = false ∧ s.nat (TARGET.MOD_TIME g) ≠ 0 ∧
      s.nat (TG_BEGAN g) + s.nat (TARGET.MOD_TIME g) ≤ s.time ∧ s.flag (TARGET.ENABLE g) = true ∧ s.tgHeld g = false ∧ g.val <
      16) ∧
    (∃ f : Fence, ∃ fs : List Fence, ∃ s : State, s.fences = f :: fs ∧ s.fenceReady f = true) ∧
    (∃ f : Fence, ∃ fs : List Fence, ∃ s : State, s.fences = f :: fs ∧ s.fenceReady f = false) ∧
    (∃ s : State, s.nat ERA_TOLD < s.era) :=
  ⟨⟨⟨⟨0, 281475076712056, 16777216, 672, 1, 1, 2, 9, 0, [0x00#8], 64⟩, none, [0]⟩, [], 0, { st 0 0 [] with placing := [⟨⟨0,
      281475076712056, 16777216, 672, 1, 1, 2, 9, 0, [0x00#8], 64⟩, none, [0]⟩] }, by decide +kernel⟩,
    ⟨⟨⟨0, 281475076712056, 16777216, 672, 1, 1, 2, 9, 0, [0x00#8], 64⟩, none, [0]⟩, [], 0, { { st 0 0 [(RING.CAPACITY 0,
      1)] with placing := [⟨⟨0, 281475076712056, 16777216, 672, 1, 1, 2, 9, 0, [0x00#8], 64⟩, none, [0]⟩] } with rings := [⟨0,
      [⟨0, 281474976710656, 532676608, 2561, 1, 128, 0, 0, 0, [0x01#8, 0x01#8, 0xff#8, 0xff#8, 0xff#8, 0xff#8], 64⟩]⟩] },
      by decide +kernel⟩,
    ⟨0, st 1 0 [(TARGET.ENABLE 0, 1), (TARGET.MOD_TIME 0, 1), (TARGET.TARGET_STATE 0, 66)], by decide +kernel⟩,
    ⟨⟨1, 6, 1600, [0], 1⟩, [], { st 0 0 [(CHANNEL_STATUS.STANDING_CAUSE 77, 1)] with fences := [⟨1, 6, 1600, [0], 1⟩] },
      by decide +kernel⟩,
    ⟨⟨1, 6, 1600, [0], 1⟩, [], { st 0 0 [] with fences := [⟨1, 6, 1600, [0], 1⟩] }, by decide +kernel⟩,
    ⟨st 1001600 0 [(TICK_OFFSET, 281474975709056)], by decide +kernel⟩⟩

/-- States and operands that meet the hypotheses of Streams, clause by clause. -/
theorem met_Streams :
    (∃ d : StreamId, ∃ s : State, s.live = true ∧ s.dsTurn d = true) ∧
    (∃ d : StreamId, ∃ s : State, s.dsTurn d = false) ∧
    (∃ d : StreamId, ∃ fail : Nat, ∃ moved : Nat, ∃ s : State, s.nat DMA_BUSY = d.val + 1 ∧ s.flag (STREAM_CAUSE d) = false ∧
      (s.nat DMA_DESC) < 1024 ∧ DW.dstKind (s.nat (DMA_WORD 0)) = 1 ∧ ((if (s.dmaFailure d fail) = 6 ∨ ((s.dmaFailure d fail) =
      0 ∧ s.flag DMA_REARMED = true) then min moved (if s.dmaFromRing then s.dmaRecords.flatMap Record.bytes else s.blob
      DMA_DATA).length else if (s.dmaFailure d fail) = 0 then (if s.dmaFromRing then s.dmaRecords.flatMap Record.bytes else
      s.blob DMA_DATA).length else 0) ≠ 0) ∧ ((s.nat (DMA_WORD 1)) + (if (s.dmaFailure d fail) = 6 ∨ ((s.dmaFailure d fail) = 0
      ∧ s.flag DMA_REARMED = true) then min moved (if s.dmaFromRing then s.dmaRecords.flatMap Record.bytes else s.blob
      DMA_DATA).length else if (s.dmaFailure d fail) = 0 then (if s.dmaFromRing then s.dmaRecords.flatMap Record.bytes else
      s.blob DMA_DATA).length else 0) ≤ 8192)) ∧
    (∃ d : StreamId, ∃ s : State, s.nat DMA_BUSY = d.val + 1 ∧ s.flag (STREAM_CAUSE d) = false ∧ (s.nat DMA_DESC) < 1024 ∧
      DW.dstKind (s.nat (DMA_WORD 0)) ≠ 1) ∧
    (∃ d : StreamId, ∃ fail : Nat, ∃ s : State, s.nat DMA_BUSY = d.val + 1 ∧ s.flag (STREAM_CAUSE d) = false ∧ (s.nat DMA_DESC)
      < 1024 ∧ s.dmaFromRing = true ∧ (s.dmaFailure d fail) = 0 ∧ s.flag DMA_REARMED = false ∧ (DW.src (s.nat (DMA_WORD 0))) <
      8192 ∧ s.nat (OVF_DROPS (DW.src (s.nat (DMA_WORD 0)))) = 0 ∧ (s.dmaRecords.getLast?.any fun r => r.flags.testBit 6) =
      false) ∧
    (∃ d : StreamId, ∃ fail : Nat, ∃ s : State, s.nat DMA_BUSY = d.val + 1 ∧ s.flag (STREAM_CAUSE d) = false ∧ (s.nat DMA_DESC)
      < 1024 ∧ (s.dmaFailure d fail) = 0 ∧ DW.notify (s.nat (DMA_WORD 0)) = true) ∧
    (∃ d : StreamId, ∃ fail : Nat, ∃ s : State, s.nat DMA_BUSY = d.val + 1 ∧ s.flag (STREAM_CAUSE d) = false ∧ (s.nat DMA_DESC)
      < 1024 ∧ (s.dmaFailure d fail) ≠ 0) ∧
    (∃ d : StreamId, ∃ s : State, s.live = true ∧ s.dsRuns d = true ∧ s.nat (STREAM.MODE d) = 1 ∧ s.time = s.nat LAST_BOUNDARY ∧
      s.nat (PASS_AT d) ≠ s.frame + 1 ∧ s.frameNumber % max 1 (s.nat (STREAM.PERIOD d)) = 0 ∧ s.flag (PASS_RUNS d) = true) ∧
    (∃ d : StreamId, ∃ s : State, s.live = true ∧ s.dsRuns d = true ∧ s.nat (STREAM.MODE d) = 1 ∧ s.time = s.nat LAST_BOUNDARY ∧
      s.nat (PASS_AT d) ≠ s.frame + 1 ∧ s.frameNumber % max 1 (s.nat (STREAM.PERIOD d)) = 0 ∧ s.flag (PASS_RUNS d) = false ∧
      s.nat (STREAM.DESC_BASE d) + (if s.flag (TAIL_DUE d) then s.nat (TAIL_DUE d) - 1 else s.nat (inForce (STREAM.TAIL d))) ≤
      1024 ∧ (0 : Nat) < (if s.flag (TAIL_DUE d) then s.nat (TAIL_DUE d) - 1 else s.nat (inForce (STREAM.TAIL d)))) ∧
    (∃ s : State, s.nat DMA_BUSY = 0) ∧
    (∃ d : StreamId, ∃ s : State, s.nat (STREAM.STREAM_STATE d) ≠ 0 ∧ s.nat DMA_BUSY = d.val + 1) ∧
    (∃ d : StreamId, ∃ s : State, s.nat (STREAM.STREAM_STATE d) ≠ 0 ∧ s.nat DMA_BUSY ≠ d.val + 1) ∧
    (∃ d : StreamId, ∃ v : Nat, ∃ s : State, s.nat (STREAM.MODE d) ≠ 1 ∧ 0 < s.descCount d ∧ s.nat (STREAM.DESC_BASE d) +
      s.descCount d ≤ 1024 ∧ (0 : Nat) ∈ s.offsetsTo d v ∧ 0 ∉ s.offsetsTo d (s.nat (inForce (STREAM.TAIL d)))) :=
  ⟨⟨0, st 0 0 [(inForce (STREAM.RUN 0), 1), (inForce (STREAM.TAIL 0), 1), (DEV_STATE, 1)], by decide +kernel⟩,
    ⟨0, st 0 0 [], by decide +kernel⟩,
    ⟨0, 0, 0, (st 0 0 [(DMA_BUSY, 1), (DMA_WORD 0, 2 ^ 56)]).setBlob DMA_DATA (by8 [1]), by decide +kernel⟩,
    ⟨0, st 0 0 [(DMA_BUSY, 1)], by decide +kernel⟩,
    ⟨0, 0, { (st 0 0 [(DMA_BUSY, 1), (DMA_WORD 0, 2 ^ 60)]).setBlob DMA_DATA (List.replicate 32 0) with rings := [⟨0, [⟨1, 0, 0,
      0, 0, 0, 7, 0, 0, [], 64⟩]⟩] }, by decide +kernel⟩,
    ⟨0, 0, st 0 0 [(DMA_BUSY, 1), (DMA_WORD 0, 2 ^ 55)], by decide +kernel⟩,
    ⟨0, 0, st 0 0 [(DMA_BUSY, 1), (DMA_LOST, 1)], by decide +kernel⟩,
    ⟨0, st 1001400 0 [(STREAM.MODE 0, 1), (STREAM.PERIOD 0, 0), (inForce (STREAM.RUN 0), 1), (LAST_BOUNDARY, 1001400),
      (DEV_STATE, 1), (PASS_RUNS 0, 1)], by decide +kernel⟩,
    ⟨0, st 1001400 0 [(STREAM.MODE 0, 1), (STREAM.PERIOD 0, 0), (inForce (STREAM.RUN 0), 1), (inForce (STREAM.TAIL 0), 1),
      (LAST_BOUNDARY, 1001400), (DEV_STATE, 1)], by decide +kernel⟩,
    ⟨st 0 0 [], by decide +kernel⟩,
    ⟨0, st 0 0 [(STREAM.STREAM_STATE 0, 1), (DMA_BUSY, 1)], by decide +kernel⟩,
    ⟨0, st 0 0 [(STREAM.STREAM_STATE 0, 1)], by decide +kernel⟩,
    ⟨0, 1, st 0 0 [(STREAM.DESC_COUNT 0, 2)], by decide +kernel⟩⟩

/-- States and operands that meet the hypotheses of CanPorts, clause by clause. -/
theorem met_CanPorts :
    (∃ p : CanPort, ∃ s : State, s.canOnBus p = true) ∧
    (∃ p : CanPort, ∃ s : State, s.portsReady = true ∧ s.nat (CAN_PORT.BUS_STATE p) = 2 ∧ s.flag (CAN_PORT.AUTO_RECOVER p) =
      true) ∧
    (∃ p : CanPort, ∃ s : State, s.portsReady = true ∧ s.nat (CAN_PORT.BUS_STATE p) = 3 ∧ s.flag (CAN_MAY p) = true) ∧
    (∃ p : CanPort, ∃ x : Tenant, ∃ s : State, s.canPortOf x = some p.val ∧ s.canOnBus p = true ∧ s.isNode x = true ∧ (s.nat
      (inForce (PRODUCER_HEARTBEAT_TIME.TIME x))) ≠ 0 ∧ s.nat (NMT_STATE x) ≠ 0 ∧ s.nat (HB_AT x) + 1000 * (s.nat (inForce
      (PRODUCER_HEARTBEAT_TIME.TIME x))) ≤ s.time) ∧
    (∃ p : CanPort, ∃ x : Tenant, ∃ node : Nat, ∃ s : State, s.canOnBus p = true ∧ s.canPortOf x = some p.val ∧ s.isNode x =
      true ∧ (node = 0 ∨ s.nodeId x = node) ∧ s.nat (NMT_STATE x) ≠ 0) ∧
    (∃ q : Fin 128, ∃ s : State, s.tpdoActive q = true ∧ s.canOnBus (q.val / 64) = true ∧ s.tpdoInhibited q = false ∧ 254 ≤
      s.nat (TPDO_COMM.TRANSMISSION_TYPE q) ∧ s.nat (TPDO_COMM.EVENT_TIMER q) ≠ 0 ∧ s.nat (PDO_EVT q) + 1000 * s.nat
      (TPDO_COMM.EVENT_TIMER q) ≤ s.time) ∧
    (∃ q : Fin 128, ∃ s : State, s.tpdoActive q = true ∧ s.canOnBus (q.val / 64) = true ∧ s.tpdoInhibited q = false ∧ s.flag
      (PDO_DUE q) = true) ∧
    (∃ p : CanPort, ∃ s : State, s.canOnBus p = true ∧ s.flag (CAN_PORT.TIME_ACCEPT p) = false) ∧
    (∃ p : CanPort, ∃ ms : Nat, ∃ days : Nat, ∃ s : State, s.canOnBus p = true ∧ s.flag (CAN_PORT.TIME_ACCEPT p) = true ∧ (days
      < 5844 ∨ 86400000 ≤ ms)) ∧
    (∃ p : CanPort, ∃ ms : Nat, ∃ days : Nat, ∃ s : State, s.canOnBus p = true ∧ s.flag (CAN_PORT.TIME_ACCEPT p) = true ∧ 5844 ≤
      days ∧ ms < 86400000) ∧
    (∃ p : CanPort, ∃ x : Tenant, ∃ addr : Nat, ∃ s : State, s.canPortOf x = some p.val ∧ s.endpointUp (.can p (s.nodeId x)) =
      true ∧ s.flag (USDO_OPEN x) = false ∧ (s.accessArrives (.can p (s.nodeId x))).readCheck (some x.val) .plain addr = none) ∧
    (∃ p : CanPort, ∃ x : Tenant, ∃ addr : Nat, ∃ s : State, s.canPortOf x = some p.val ∧ s.endpointUp (.can p (s.nodeId x)) =
      true ∧ s.flag (USDO_OPEN x) = false ∧ (s.accessArrives (.can p (s.nodeId x))).readCheck (some x.val) .plain addr = some
      .noObject) ∧
    (∃ p : CanPort, ∃ x : Tenant, ∃ s : State, s.canPortOf x = some p.val ∧ s.endpointUp (.can p (s.nodeId x)) = true ∧ s.flag
      (USDO_OPEN x) = false) ∧
    (∃ p : CanPort, ∃ x : Tenant, ∃ s : State, s.canPortOf x = some p.val ∧ s.endpointUp (.can p (s.nodeId x)) = true ∧ s.flag
      (USDO_OPEN x) = false) ∧
    (∃ p : CanPort, ∃ x : Tenant, ∃ s : State, s.canPortOf x = some p.val ∧ s.endpointUp (.can p (s.nodeId x)) = true ∧ s.flag
      (USDO_OPEN x) = true ∧ s.flag (USDO_WRITES x) = true) ∧
    (∃ p : CanPort, ∃ x : Tenant, ∃ s : State, s.canPortOf x = some p.val ∧ s.endpointUp (.can p (s.nodeId x)) = true ∧ s.flag
      (USDO_OPEN x) = true) ∧
    (∃ x : Tenant, ∃ s : State, s.portsReady = true ∧ s.flag (USDO_OPEN x) = true ∧ s.nat (USDO_AT x) + 1000000 ≤ s.time) ∧
    (∃ r : Fin 64, ∃ data : List Byte, ∃ s : State, s.rpdoActive r = true ∧ data.length < ((((s.mapping (RPDO_MAP.ENTRY r
      0)).map fun e => e.2 % 256).sum + 7) / 8)) ∧
    (∃ r : Fin 64, ∃ data : List Byte, ∃ s : State, s.rpdoActive r = true ∧ ((((s.mapping (RPDO_MAP.ENTRY r 0)).map fun e => e.2
      % 256).sum + 7) / 8) ≤ data.length ∧ s.nat (RPDO_COMM.TRANSMISSION_TYPE r) < 254) ∧
    (∃ r : Fin 64, ∃ data : List Byte, ∃ s : State, s.rpdoActive r = true ∧ ((((s.mapping (RPDO_MAP.ENTRY r 0)).map fun e => e.2
      % 256).sum + 7) / 8) ≤ data.length ∧ 254 ≤ s.nat (RPDO_COMM.TRANSMISSION_TYPE r) ∧ State.rpdoFailure (s.rpdoOwner r)
      (splitMapping (s.mapping (RPDO_MAP.ENTRY r 0)) data) (s.wrapCount (CAN_PORT.RX_FRAMES (r.val / 32)) 32) = some
      (DEVICE_TYPE, (by8 [0, 0, 0, 0]), Abort.readOnly)) ∧
    (∃ r : Fin 64, ∃ data : List Byte, ∃ s : State, s.rpdoActive r = true ∧ ((((s.mapping (RPDO_MAP.ENTRY r 0)).map fun e => e.2
      % 256).sum + 7) / 8) ≤ data.length ∧ 254 ≤ s.nat (RPDO_COMM.TRANSMISSION_TYPE r) ∧ splitMapping (s.mapping (RPDO_MAP.ENTRY
      r 0)) data = [((CHANNEL_CONFIG.REQUEST 0, by8 [1]))] ∧ subAt ((CHANNEL_CONFIG.REQUEST 0, by8 [1])).1 = some ((subAt
      (CHANNEL_CONFIG.REQUEST 0)).get (by decide)) ∧ ((subAt (CHANNEL_CONFIG.REQUEST 0)).get (by decide)).cls = .immediate ∧
      ((subAt (CHANNEL_CONFIG.REQUEST 0)).get (by decide)).acc ≠ .wo ∧ ((subAt (CHANNEL_CONFIG.REQUEST 0)).get (by
      decide)).ty.isString = false ∧ (s.wrapCount (CAN_PORT.RX_FRAMES (r.val / 32)) 32).writeCheck (some (s.rpdoOwner r)) .plain
      ((CHANNEL_CONFIG.REQUEST 0, by8 [1])).1 ((CHANNEL_CONFIG.REQUEST 0, by8 [1])).2 = none ∧ (s.wrapCount (CAN_PORT.RX_FRAMES
      (r.val / 32)) 32).valueCheck (s.rpdoOwner r) ((CHANNEL_CONFIG.REQUEST 0, by8 [1])).1 (((subAt (CHANNEL_CONFIG.REQUEST
      0)).get (by decide)).ty.decode ((CHANNEL_CONFIG.REQUEST 0, by8 [1])).2) ((CHANNEL_CONFIG.REQUEST 0, by8 [1])).2 = none ∧
      (s.wrapCount (CAN_PORT.RX_FRAMES (r.val / 32)) 32).stateCheck (s.rpdoOwner r) ((CHANNEL_CONFIG.REQUEST 0, by8 [1])).1
      ((subAt (CHANNEL_CONFIG.REQUEST 0)).get (by decide)) (((subAt (CHANNEL_CONFIG.REQUEST 0)).get (by decide)).ty.decode
      ((CHANNEL_CONFIG.REQUEST 0, by8 [1])).2) = none) :=
  ⟨⟨0, st 0 0 [(CAN_PORT.BUS_STATE 0, 0), (DEV_STATE, 1), (PORTS_READY, 1)], by decide +kernel⟩,
    ⟨0, st 0 0 [(CAN_PORT.BUS_STATE 0, 2), (DEV_STATE, 1), (PORTS_READY, 1)], by decide +kernel⟩,
    ⟨0, st 0 0 [(DEV_STATE, 1), (PORTS_READY, 1), (CAN_MAY 0, 1)], by decide +kernel⟩,
    ⟨0, 0, st 1000 0 [(CAN_PORT.BUS_STATE 0, 0), (TENANT.ENDPOINT 0, 4096), (inForce (PRODUCER_HEARTBEAT_TIME.TIME 0), 1),
      (DEV_STATE, 1), (PORTS_READY, 1), (NMT_STATE 0, 1)], by decide +kernel⟩,
    ⟨0, 0, 0, st 0 0 [(CAN_PORT.BUS_STATE 0, 0), (TENANT.ENDPOINT 0, 4096), (DEV_STATE, 1), (PORTS_READY, 1), (NMT_STATE 0, 1)],
      by decide +kernel⟩,
    ⟨0, st 1000 0 [(TPDO_COMM.COB_ID 0, 0x180), (TPDO_COMM.TRANSMISSION_TYPE 0, 254), (TPDO_COMM.EVENT_TIMER 0, 1), (NMT_STATE
      0, 2), (CAN_PORT.BUS_STATE 0, 0), (TENANT.ENDPOINT 0, 0x1000), (DEV_STATE, 1), (PORTS_READY, 1)], by decide +kernel⟩,
    ⟨0, st 1000 0 [(TPDO_COMM.COB_ID 0, 0x180), (PDO_DUE 0, 1), (NMT_STATE 0, 2), (CAN_PORT.BUS_STATE 0, 0), (TENANT.ENDPOINT 0,
      0x1000), (DEV_STATE, 1), (PORTS_READY, 1)], by decide +kernel⟩,
    ⟨0, st 0 0 [(CAN_PORT.BUS_STATE 0, 0), (DEV_STATE, 1), (PORTS_READY, 1)], by decide +kernel⟩,
    ⟨0, 0, 0, st 0 0 [(CAN_PORT.TIME_ACCEPT 0, 1), (CAN_PORT.BUS_STATE 0, 0), (DEV_STATE, 1), (PORTS_READY, 1)],
      by decide +kernel⟩,
    ⟨0, 0, 5844, st 0 0 [(CAN_PORT.TIME_ACCEPT 0, 1), (CAN_PORT.BUS_STATE 0, 0), (DEV_STATE, 1), (PORTS_READY, 1)],
      by decide +kernel⟩,
    ⟨0, 0, 2359808, st 0 0 [(CAN_PORT.BUS_STATE 0, 0), (TENANT.ENDPOINT 0, 4096), (DEV_STATE, 1), (PORTS_READY, 1), (NMT_STATE
      0, 1)], by decide +kernel⟩,
    ⟨0, 0, 0, st 0 0 [(NMT_STATE 0, 1), (CAN_PORT.BUS_STATE 0, 0), (TENANT.ENDPOINT 0, 0x1000), (DEV_STATE, 1), (PORTS_READY,
      1)], by decide +kernel⟩,
    ⟨0, 0, st 0 0 [(CAN_PORT.BUS_STATE 0, 0), (TENANT.ENDPOINT 0, 4096), (DEV_STATE, 1), (PORTS_READY, 1), (NMT_STATE 0, 1)],
      by decide +kernel⟩,
    ⟨0, 0, st 0 0 [(CAN_PORT.BUS_STATE 0, 0), (TENANT.ENDPOINT 0, 4096), (DEV_STATE, 1), (PORTS_READY, 1), (NMT_STATE 0, 1)],
      by decide +kernel⟩,
    ⟨0, 0, st 0 0 [(CAN_PORT.BUS_STATE 0, 0), (TENANT.ENDPOINT 0, 4096), (DEV_STATE, 1), (PORTS_READY, 1), (NMT_STATE 0, 1),
      (USDO_OPEN 0, 1), (USDO_WRITES 0, 1)], by decide +kernel⟩,
    ⟨0, 0, st 0 0 [(CAN_PORT.BUS_STATE 0, 0), (TENANT.ENDPOINT 0, 4096), (DEV_STATE, 1), (PORTS_READY, 1), (NMT_STATE 0, 1),
      (USDO_OPEN 0, 1)], by decide +kernel⟩,
    ⟨0, st 1000000 0 [(DEV_STATE, 1), (PORTS_READY, 1), (USDO_OPEN 0, 1)], by decide +kernel⟩,
    ⟨0, [], st 0 0 [(RPDO_MAP.ENTRY 0 0, CHANNEL_CONFIG.REQUEST 0 * 256 + 8), (RPDO_COMM.COB_ID 0, 0x200), (NMT_STATE 0, 2),
      (CAN_PORT.BUS_STATE 0, 0), (TENANT.ENDPOINT 0, 0x1000), (DEV_STATE, 1), (PORTS_READY, 1)], by decide +kernel⟩,
    ⟨0, [], st 0 0 [(RPDO_COMM.TRANSMISSION_TYPE 0, 1), (RPDO_COMM.COB_ID 0, 0x200), (NMT_STATE 0, 2), (CAN_PORT.BUS_STATE 0,
      0), (TENANT.ENDPOINT 0, 0x1000), (DEV_STATE, 1), (PORTS_READY, 1)], by decide +kernel⟩,
    ⟨0, by8 [0, 0, 0, 0], st 0 0 [(RPDO_COMM.TRANSMISSION_TYPE 0, 254), (RPDO_MAP.ENTRY 0 0, DEVICE_TYPE * 256 + 32),
      (RPDO_COMM.COB_ID 0, 0x200), (NMT_STATE 0, 2), (CAN_PORT.BUS_STATE 0, 0), (TENANT.ENDPOINT 0, 0x1000), (DEV_STATE, 1),
      (PORTS_READY, 1)], by decide +kernel⟩,
    ⟨0, by8 [1], st 0 0 [(RPDO_COMM.TRANSMISSION_TYPE 0, 255), (RPDO_MAP.ENTRY 0 0, CHANNEL_CONFIG.REQUEST 0 * 256 + 8),
      (RPDO_COMM.COB_ID 0, 0x200), (NMT_STATE 0, 2), (CAN_PORT.BUS_STATE 0, 0), (TENANT.ENDPOINT 0, 0x1000), (DEV_STATE, 1),
      (PORTS_READY, 1)], by decide +kernel⟩⟩

/-- States and operands that meet the hypotheses of PcieFunctions, clause by clause. -/
theorem met_PcieFunctions :
    (∃ s : State, s.flag PERST_LOW = false ∧ s.pcieOn = true) ∧
    (∃ s : State, s.pcieUp = true) ∧
    (∃ link : Nat, ∃ s : State, s.pcieOn = true ∧ s.flag PERST_LOW = false ∧ link = 2) ∧
    (∃ link : Nat, ∃ s : State, s.pcieOn = true ∧ s.flag PERST_LOW = false ∧ s.nat PCIE_PORT.LINK_STATE = 2 ∧ (min link 2) = 0) ∧
    (∃ link : Nat, ∃ s : State, s.pcieOn = true ∧ s.flag PERST_LOW = false ∧ s.nat PCIE_PORT.LINK_STATE ≠ (min link 2)) ∧
    (∃ f : Func, ∃ x : Tenant, ∃ addr : Nat, ∃ off : Nat, ∃ len : Nat, ∃ s : State, s.endpointUp (.pcie f) = true ∧ s.tenantAt
      (.pcie f) = some x.val ∧ s.nat (PT_RESULT f) / 2 ^ 56 ≠ 1 ∧ 1 ≤ len ∧ len ≤ 4096 ∧ (s.setN (PT_ADDR f) (addr % 2 ^ 24 +
      off % 2 ^ 32 * 2 ^ 32)).readCheck (some x.val) .plain addr = none) ∧
    (∃ f : Func, ∃ x : Tenant, ∃ addr : Nat, ∃ off : Nat, ∃ len : Nat, ∃ s : State, s.endpointUp (.pcie f) = true ∧ s.tenantAt
      (.pcie f) = some x.val ∧ s.nat (PT_RESULT f) / 2 ^ 56 ≠ 1 ∧ 1 ≤ len ∧ len ≤ 4096 ∧ (s.setN (PT_ADDR f) (addr % 2 ^ 24 +
      off % 2 ^ 32 * 2 ^ 32)).readCheck (some x.val) .plain addr = some .noObject) ∧
    (∃ f : Func, ∃ x : Tenant, ∃ s : State, s.endpointUp (.pcie f) = true ∧ s.tenantAt (.pcie f) = some x.val ∧ s.nat (PT_RESULT
      f) / 2 ^ 56 = 1) ∧
    (∃ f : Func, ∃ x : Tenant, ∃ addr : Nat, ∃ len : Nat, ∃ data : List Byte, ∃ s : State, s.endpointUp (.pcie f) = true ∧
      s.tenantAt (.pcie f) = some x.val ∧ s.nat (PT_RESULT f) / 2 ^ 56 ≠ 1 ∧ 1 ≤ len ∧ len ≤ 4096 ∧ ((s.setBlob (PT_BUF f)
      (putAtStart 4096 (s.blob (PT_BUF f)) data)).setN (PT_ADDR f) (addr % 2 ^ 24)).mustWait (⟨.pcie f, .window, addr, (padTo
      4096 (putAtStart 4096 (s.blob (PT_BUF f)) data)).take len⟩) = false ∧ ((∀ y ∈ s.heldWrites, y.ep ≠ .pcie f))) ∧
    (∃ f : Func, ∃ x : Tenant, ∃ i : Nat, ∃ k : Nat, ∃ q : Nat, ∃ s : State, s.endpointUp (.pcie f) = true ∧ s.tenantAt (.pcie
      f) = some x.val ∧ i < 2048 ∧ (s.rangeOf x)[i]? = some q ∧ q < 8192 ∧ s.mayPop x q = true ∧ 1 ≤ k ∧ k ≤ 32 ∧ s.nat
      (OVF_DROPS q) = 0) ∧
    (∃ f : Func, ∃ x : Tenant, ∃ i : Nat, ∃ k : Nat, ∃ q : Nat, ∃ s : State, s.endpointUp (.pcie f) = true ∧ s.tenantAt (.pcie
      f) = some x.val ∧ i < 2048 ∧ (s.rangeOf x)[i]? = some q ∧ s.mayPop x q = true ∧ k = 0) ∧
    (∃ f : Func, ∃ x : Tenant, ∃ n : Chan, ∃ volt : Bool, ∃ s : State, s.endpointUp (.pcie f) = true ∧ s.tenantAt (.pcie f) =
      some x.val ∧ s.readCheck (some x.val) .plain (if volt then CHANNEL_STATUS.V_PEAK n 0 else CHANNEL_STATUS.I_PEAK n 0) =
      none) :=
  ⟨⟨st 0 0 [(STRAPS.STRAP_VALUE, 64), (DEV_STATE, 1)], by decide +kernel⟩,
    ⟨st 0 0 [(STRAPS.STRAP_VALUE, 64), (PCIE_PORT.LINK_STATE, 2), (DEV_STATE, 1)], by decide +kernel⟩,
    ⟨2, st 0 0 [(STRAPS.STRAP_VALUE, 64), (DEV_STATE, 1)], by decide +kernel⟩,
    ⟨0, st 0 0 [(STRAPS.STRAP_VALUE, 64), (PCIE_PORT.LINK_STATE, 2), (DEV_STATE, 1)], by decide +kernel⟩,
    ⟨0, st 0 0 [(STRAPS.STRAP_VALUE, 64), (PCIE_PORT.LINK_STATE, 1), (DEV_STATE, 1)], by decide +kernel⟩,
    ⟨0, 0, DEVICE_TYPE, 0, 1, st 0 0 [(STRAPS.STRAP_VALUE, 64), (PCIE_PORT.LINK_STATE, 2), (TENANT.ENDPOINT 0, 0x4000),
      (DEV_STATE, 1), (PORTS_READY, 1)], by decide +kernel⟩,
    ⟨0, 0, 0, 0, 1, st 0 0 [(STRAPS.STRAP_VALUE, 64), (PCIE_PORT.LINK_STATE, 2), (TENANT.ENDPOINT 0, 0x4000), (DEV_STATE, 1),
      (PORTS_READY, 1)], by decide +kernel⟩,
    ⟨0, 0, st 0 0 [(PT_RESULT 0, 2 ^ 56), (STRAPS.STRAP_VALUE, 64), (PCIE_PORT.LINK_STATE, 2), (TENANT.ENDPOINT 0, 0x4000),
      (DEV_STATE, 1), (PORTS_READY, 1)], by decide +kernel⟩,
    ⟨0, 0, 0, 1, [0x01#8, 0x00#8, 0x00#8, 0x00#8, 0x01#8, 0x00#8, 0x30#8, 0x01#8, 0x00#8, 0x00#8], st 0 0 [(STRAPS.STRAP_VALUE,
      64), (PCIE_PORT.LINK_STATE, 2), (TENANT.ENDPOINT 0, 16384), (DEV_STATE, 1), (PORTS_READY, 1)], by decide +kernel⟩,
    ⟨0, 0, 0, 1, 0, st 0 0 [(STRAPS.STRAP_VALUE, 64), (PCIE_PORT.LINK_STATE, 2), (TENANT.ENDPOINT 0, 16384), (DEV_STATE, 1),
      (PORTS_READY, 1)], by decide +kernel⟩,
    ⟨0, 0, 0, 0, 0, st 0 0 [(STRAPS.STRAP_VALUE, 64), (PCIE_PORT.LINK_STATE, 2), (TENANT.ENDPOINT 0, 16384), (DEV_STATE, 1),
      (PORTS_READY, 1)], by decide +kernel⟩,
    ⟨0, 0, 0, false, st 0 0 [(STRAPS.STRAP_VALUE, 64), (PCIE_PORT.LINK_STATE, 2), (TENANT.ENDPOINT 0, 16384), (DEV_STATE, 1),
      (PORTS_READY, 1)], by decide +kernel⟩⟩

/-- States and operands that meet the hypotheses of SerialFrames, clause by clause. -/
theorem met_SerialFrames :
    (∃ ep : Endpoint, ∃ x : Tenant, ∃ addr : Nat, ∃ len : Nat, ∃ crc : Nat, ∃ s : State, s.frameUp ep = true ∧ s.tenantAt ep =
      some x.val ∧ crc16 (requestBytes 1 addr len []) = crc ∧ 1 ≤ len ∧ len ≤ 1024 ∧ (s.accessArrives ep).readCheck (some x.val)
      .plain addr = none) ∧
    (∃ ep : Endpoint, ∃ x : Tenant, ∃ addr : Nat, ∃ len : Nat, ∃ off : Nat, ∃ crc : Nat, ∃ s : State, s.frameUp ep = true ∧
      s.tenantAt ep = some x.val ∧ crc16 (requestBytes 3 addr len (leBytes 4 off)) = crc ∧ 1 ≤ len ∧ len ≤ 1024 ∧
      (s.accessArrives ep).readCheck (some x.val) .plain addr = none) ∧
    (∃ ep : Endpoint, ∃ x : Tenant, ∃ addr : Nat, ∃ crc : Nat, ∃ data : List Byte, ∃ s : State, s.frameUp ep = true ∧ s.tenantAt
      ep = some x.val ∧ crc16 (requestBytes 2 addr data.length data) = crc ∧ 1 ≤ data.length ∧ data.length ≤ 1024 ∧
      (s.accessArrives ep).mustWait ⟨ep, .object, addr, data⟩ = false ∧ ((∀ y ∈ s.heldWrites, y.ep ≠ ep)) ∧ ((s.accessArrives
      ep).writeBy (some x.val) .plain addr data).1 = none) ∧
    (∃ ep : Endpoint, ∃ x : Tenant, ∃ addr : Nat, ∃ crc : Nat, ∃ data : List Byte, ∃ s : State, s.frameUp ep = true ∧ s.tenantAt
      ep = some x.val ∧ crc16 (requestBytes 2 addr data.length data) = crc ∧ 1 ≤ data.length ∧ data.length ≤ 1024 ∧
      (s.accessArrives ep).mustWait ⟨ep, .object, addr, data⟩ = false ∧ ((∀ y ∈ s.heldWrites, y.ep ≠ ep)) ∧ ((s.accessArrives
      ep).writeBy (some x.val) .plain addr data).1 = some .readOnly) ∧
    (∃ ep : Endpoint, ∃ x : Tenant, ∃ off : Nat, ∃ crc : Nat, ∃ data : List Byte, ∃ s : State, s.frameUp ep = true ∧ s.tenantAt
      ep = some x.val ∧ crc16 (requestBytes 4 off data.length data) = crc ∧ 1 ≤ data.length ∧ data.length ≤ 1024 ∧ off +
      data.length ≤ 4096) ∧
    (∃ ep : Endpoint, ∃ x : Tenant, ∃ addr : Nat, ∃ len : Nat, ∃ crc : Nat, ∃ s : State, s.frameUp ep = true ∧ s.tenantAt ep =
      some x.val ∧ crc16 (requestBytes 5 addr len []) = crc ∧ 1 ≤ len ∧ len ≤ 4096 ∧ (s.accessArrives ep).mustWait ⟨ep, .object,
      addr, (padTo 4096 (s.blob (FRAME_BUF (endpointCode ep)))).take len⟩ = false ∧ ((∀ y ∈ s.heldWrites, y.ep ≠ ep)) ∧
      ((s.accessArrives ep).writeBy (some x.val) .plain addr ((padTo 4096 (s.blob (FRAME_BUF (endpointCode ep)))).take len)).1 =
      none) ∧
    (∃ ep : Endpoint, ∃ x : Tenant, ∃ addr : Nat, ∃ len : Nat, ∃ crc : Nat, ∃ s : State, s.frameUp ep = true ∧ s.tenantAt ep =
      some x.val ∧ crc16 (requestBytes 5 addr len []) = crc ∧ 1 ≤ len ∧ len ≤ 4096 ∧ (s.accessArrives ep).mustWait ⟨ep, .object,
      addr, (padTo 4096 (s.blob (FRAME_BUF (endpointCode ep)))).take len⟩ = false ∧ ((∀ y ∈ s.heldWrites, y.ep ≠ ep)) ∧
      ((s.accessArrives ep).writeBy (some x.val) .plain addr ((padTo 4096 (s.blob (FRAME_BUF (endpointCode ep)))).take len)).1 =
      some .readOnly) ∧
    (∃ ep : Endpoint, ∃ x : Tenant, ∃ addr : Nat, ∃ len : Nat, ∃ crc : Nat, ∃ s : State, s.frameUp ep = true ∧ s.tenantAt ep =
      some x.val ∧ crc16 (requestBytes 1 addr len []) ≠ crc ∧ (match ep with | .spi _ => true | _ => false) = true) ∧
    (∃ ep : Endpoint, ∃ x : Tenant, ∃ addr : Nat, ∃ len : Nat, ∃ crc : Nat, ∃ s : State, s.frameUp ep = true ∧ s.tenantAt ep =
      some x.val ∧ crc16 (requestBytes 1 addr len []) ≠ crc ∧ (match ep with | .spi _ => true | _ => false) = false) ∧
    (∃ ep : Endpoint, ∃ x : Tenant, ∃ addr : Nat, ∃ len : Nat, ∃ crc : Nat, ∃ s : State, s.frameUp ep = true ∧ s.tenantAt ep =
      some x.val ∧ crc16 (requestBytes 1 addr len []) = crc ∧ (len = 0 ∨ 1024 < len)) ∧
    (∃ ep : Endpoint, ∃ x : Tenant, ∃ s : State, s.frameUp ep = true ∧ s.tenantAt ep = some x.val ∧
      (match ep with | .spi _ => true | _ => false) = true) ∧
    (∃ ep : Endpoint, ∃ x : Tenant, ∃ s : State, s.frameUp ep = true ∧ s.tenantAt ep = some x.val ∧
      (match ep with | .spi _ => true | _ => false) = false) ∧
    (∃ s : State, s.portsReady = true) ∧
    (∃ a : Nat, ∃ s : State, s.endpointUp (.twoWire a) = true ∧ s.blob (FRAME_RESP (a % 256)) = []) ∧
    (∃ a : Nat, ∃ s : State, s.endpointUp (.twoWire a) = true ∧ s.blob (FRAME_RESP (a % 256)) ≠ []) :=
  ⟨⟨.spi 0, 0, DEVICE_TYPE, 4, crc16 (requestBytes 1 DEVICE_TYPE 4 []), st 0 0 [(TENANT.ENDPOINT 0, 0x3000), (DEV_STATE, 1),
      (PORTS_READY, 1)], by decide +kernel⟩,
    ⟨.spi 0, 0, DEVICE_TYPE, 4, 0, crc16 (requestBytes 3 DEVICE_TYPE 4 (leBytes 4 0)), st 0 0 [(TENANT.ENDPOINT 0, 0x3000),
      (DEV_STATE, 1), (PORTS_READY, 1)], by decide +kernel⟩,
    ⟨.spi 0, 0, CHANNEL_CONFIG.REQUEST 0, crc16 (requestBytes 2 (CHANNEL_CONFIG.REQUEST 0) 1 (by8 [1])), by8 [1], st 0 0
      [(TENANT.ENDPOINT 0, 0x3000), (DEV_STATE, 1), (PORTS_READY, 1)], by decide +kernel⟩,
    ⟨.spi 0, 0, DEVICE_TYPE, crc16 (requestBytes 2 DEVICE_TYPE 1 (by8 [1])), by8 [1], st 0 0 [(TENANT.ENDPOINT 0, 0x3000),
      (DEV_STATE, 1), (PORTS_READY, 1)], by decide +kernel⟩,
    ⟨.spi 0, 0, 4095, crc16 (requestBytes 4 4095 1 (by8 [1])), by8 [1], st 0 0 [(TENANT.ENDPOINT 0, 0x3000), (DEV_STATE, 1),
      (PORTS_READY, 1)], by decide +kernel⟩,
    ⟨.spi 0, 0, CHANNEL_CONFIG.REQUEST 0, 1, crc16 (requestBytes 5 (CHANNEL_CONFIG.REQUEST 0) 1 []), st 0 0 [(TENANT.ENDPOINT 0,
      0x3000), (DEV_STATE, 1), (PORTS_READY, 1)], by decide +kernel⟩,
    ⟨.spi 0, 0, DEVICE_TYPE, 1, crc16 (requestBytes 5 DEVICE_TYPE 1 []), st 0 0 [(TENANT.ENDPOINT 0, 0x3000), (DEV_STATE, 1),
      (PORTS_READY, 1)], by decide +kernel⟩,
    ⟨.spi 0, 0, DEVICE_TYPE, 4, 0, st 0 0 [(TENANT.ENDPOINT 0, 0x3000), (DEV_STATE, 1), (PORTS_READY, 1)], by decide +kernel⟩,
    ⟨.twoWire 0x20, 0, DEVICE_TYPE, 4, 0, st 0 0 [(TENANT.ENDPOINT 0, 0x5020), (DEV_STATE, 1), (PORTS_READY, 1)],
      by decide +kernel⟩,
    ⟨.spi 0, 0, DEVICE_TYPE, 0, crc16 (requestBytes 1 DEVICE_TYPE 0 []), st 0 0 [(TENANT.ENDPOINT 0, 0x3000), (DEV_STATE, 1),
      (PORTS_READY, 1)], by decide +kernel⟩,
    ⟨.spi 0, 0, st 0 0 [(TENANT.ENDPOINT 0, 0x3000), (DEV_STATE, 1), (PORTS_READY, 1)], by decide +kernel⟩,
    ⟨.twoWire 0x20, 0, st 0 0 [(TENANT.ENDPOINT 0, 0x5020), (DEV_STATE, 1), (PORTS_READY, 1)], by decide +kernel⟩,
    ⟨st 0 0 [(DEV_STATE, 1), (PORTS_READY, 1)], by decide +kernel⟩,
    ⟨82, st 0 0 [(DEV_STATE, 1), (PORTS_READY, 1)], by decide +kernel⟩,
    ⟨82, (st 0 0 [(DEV_STATE, 1), (PORTS_READY, 1)]).setBlob (FRAME_RESP 82) (by8 [247, 3, 0]), by decide +kernel⟩⟩

/-- States and operands that meet the hypotheses of TwoWireController, clause by clause. -/
theorem met_TwoWireController :
    (∃ s : State, s.twIdle = false ∧ s.flag TWO_WIRE_STATUS.BUS_FLAGS = false) ∧
    (∃ s : State, s.twIdle = true) ∧
    (∃ s : State, s.twIdle = false ∧ s.nat TW_LEFT = 0) ∧
    (∃ s : State, s.twIdle = false ∧ s.nat TW_LEFT ≠ 0) ∧
    (∃ s : State, s.portsReady = true ∧ s.bit TWO_WIRE_STATUS.BUS_FLAGS 0 = false ∧ s.twIdle = false) ∧
    (∃ target : Nat, ∃ s : State, s.portsReady = true ∧ s.bit TWO_WIRE_STATUS.BUS_FLAGS 0 = false ∧ target ≠ 0) ∧
    (∃ s : State, s.bit TWO_WIRE_STATUS.BUS_FLAGS 0 = true) ∧
    (∃ s : State, s.portsReady = true ∧ s.twRole ≠ 0 ∧ (s.nat TWO_WIRE_BUS.ATTENTION_ADDRESS) ≠ 0 ∧ s.twIdle = false) ∧
    (∃ s : State, s.portsReady = true ∧ s.twRole ≠ 0 ∧ (s.nat TWO_WIRE_BUS.ATTENTION_ADDRESS) ≠ 0 ∧ s.twIdle = true ∧ s.landing
      = []) ∧
    (∃ s : State, s.twRole = 0) ∧
    (∃ s : State, s.portsReady = true ∧ s.bit TWO_WIRE_STATUS.BUS_FLAGS 1 = false ∧ s.twIdle = false) ∧
    (∃ s : State, s.twIdle = true ∧ s.twRole ≠ 0) :=
  ⟨⟨st 0 0 [(CONTROLLER_TRANSFER.TRANSFER_RESULT, 1)], by decide +kernel⟩,
    ⟨st 0 0 [], by decide +kernel⟩,
    ⟨st 0 0 [(CONTROLLER_TRANSFER.TRANSFER_RESULT, 1)], by decide +kernel⟩,
    ⟨st 0 0 [(CONTROLLER_TRANSFER.TRANSFER_RESULT, 1), (TW_LEFT, 1)], by decide +kernel⟩,
    ⟨st 0 0 [(CONTROLLER_TRANSFER.TRANSFER_RESULT, 1), (DEV_STATE, 1), (PORTS_READY, 1)], by decide +kernel⟩,
    ⟨1, st 0 0 [(DEV_STATE, 1), (PORTS_READY, 1)], by decide +kernel⟩,
    ⟨st 0 0 [(TWO_WIRE_STATUS.BUS_FLAGS, 1)], by decide +kernel⟩,
    ⟨st 0 0 [(CONTROLLER_TRANSFER.TRANSFER_RESULT, 1), (inForce TWO_WIRE_BUS.ROLE, 1), (DEV_STATE, 1), (PORTS_READY, 1)],
      by decide +kernel⟩,
    ⟨st 0 0 [(inForce TWO_WIRE_BUS.ROLE, 1), (DEV_STATE, 1), (PORTS_READY, 1)], by decide +kernel⟩,
    ⟨st 0 0 [], by decide +kernel⟩,
    ⟨st 0 0 [(CONTROLLER_TRANSFER.TRANSFER_RESULT, 1), (DEV_STATE, 1), (PORTS_READY, 1)], by decide +kernel⟩,
    ⟨st 0 0 [(inForce TWO_WIRE_BUS.ROLE, 1)], by decide +kernel⟩⟩

/-- States and operands that meet the hypotheses of TriggersAreLatchedOneDeep, clause by clause. -/
theorem met_TriggersAreLatchedOneDeep :
    (∃ q : Seq, ∃ ep : Endpoint, ∃ u : Nat, ∃ s : State, s.hkOn = true ∧ s.nat (HK_SEQUENCE.MODE q) = 2 ∧ s.nat
      (HK_SEQUENCE.TRIGGER_SOURCE q) = 0 ∧ Accepts s ep u .object (HK_SEQUENCE.TRIGGER q) 0xA5 (bytesOf (HK_SEQUENCE.TRIGGER q)
      0xA5) ∧ s.barrierEnd u = none) ∧
    (∃ q : Seq, ∃ s : State, s.hkOn = true ∧ s.nat (HK_SEQUENCE.MODE q) = 2 ∧ s.nat (HK_SEQUENCE.TRIGGER_SOURCE q) = 1 ∧ s.time
      = s.nat LAST_BOUNDARY ∧ s.frameNumber % s.nat (HK_SEQUENCE.TRIGGER_PERIOD q) = 0 ∧ s.nat (HK_TRIG q) ≠ s.frame + 1) ∧
    (∃ q : Seq, ∃ r : Seq, ∃ s : State, s.hkOn = true ∧ s.nat (HK_SEQUENCE.MODE q) = 2 ∧ s.nat (HK_SEQUENCE.TRIGGER_SOURCE q) =
      2 ∧ s.nat (HK_SEQUENCE.TRIGGER_CHAIN q) = r.val ∧ r ≠ q ∧ s.nat (HK_SEQUENCE.MODE r) = 2 ∧ s.hkRuns r = true ∧ s.nat
      (HK_SEQUENCE.LAST_ENTRY r) < s.hkEntry r) ∧
    (∃ q : Seq, ∃ s : State, s.hkOn = true ∧ s.nat (HK_SEQUENCE.MODE q) = 2 ∧ s.hkRuns q = true ∧ s.nat (HK_SEQUENCE.LAST_ENTRY
      q) < s.hkEntry q ∧ s.flag (HK_LATCH q) = true) ∧
    (∃ q : Seq, ∃ s : State, s.hkOn = true ∧ s.nat (HK_SEQUENCE.MODE q) = 2 ∧ s.hkRuns q = true ∧ s.nat (HK_SEQUENCE.LAST_ENTRY
      q) < s.hkEntry q ∧ s.flag (HK_LATCH q) = false ∧ ((∀ x : Seq, s.nat (HK_SEQUENCE.TRIGGER_SOURCE x) ≠ 2))) ∧
    (∃ q : Seq, ∃ s : State, s.hkOn = true ∧ s.nat (HK_SEQUENCE.MODE q) = 2 ∧ s.hkRuns q = true ∧ s.nat (HK_SEQUENCE.LAST_ENTRY
      q) < s.hkEntry q ∧ s.get (HK_DROPS q) ≠ 0) ∧
    (∃ q : Seq, ∃ s : State, s.hkOn = true ∧ s.nat (HK_SEQUENCE.MODE q) = 2 ∧ s.hkRuns q = true ∧ s.nat (HK_SEQUENCE.LAST_ENTRY
      q) < s.hkEntry q ∧ s.get (HK_DROPS q) = 0) :=
  ⟨⟨0, Endpoint.can 0 0, 0, st 0 0 [(CAN_PORT.BUS_STATE 0, 1), (TENANT.ENDPOINT 0, 4096), (HK_SEQUENCE.MODE 0, 2), (DEV_STATE,
      1), (PORTS_READY, 1), (NMT_STATE 0, 1)], by simp only [← accepts_iff]; decide +kernel⟩,
    ⟨0, st 1001400 0 [(HK_SEQUENCE.MODE 0, 2), (HK_SEQUENCE.TRIGGER_SOURCE 0, 1), (HK_SEQUENCE.TRIGGER_PERIOD 0, 1),
      (LAST_BOUNDARY, 1001400), (DEV_STATE, 1), (PORTS_READY, 1)], by decide +kernel⟩,
    ⟨0, 1, st 0 0 [(HK_SEQUENCE.MODE 0, 2), (HK_SEQUENCE.TRIGGER_SOURCE 0, 2), (HK_SEQUENCE.TRIGGER_CHAIN 0, 1),
      (HK_SEQUENCE.MODE 1, 2), (DEV_STATE, 1), (PORTS_READY, 1), (HK_RUN 1, 1), (HK_AT 1, 1)], by decide +kernel⟩,
    ⟨0, st 0 0 [(HK_SEQUENCE.MODE 0, 2), (DEV_STATE, 1), (PORTS_READY, 1), (HK_RUN 0, 1), (HK_AT 0, 1), (HK_LATCH 0, 1)],
      by decide +kernel⟩,
    ⟨0, st 0 0 [(HK_SEQUENCE.MODE 0, 2), (DEV_STATE, 1), (PORTS_READY, 1), (HK_RUN 0, 1), (HK_AT 0, 1)], by decide +kernel⟩,
    ⟨0, st 0 0 [(HK_SEQUENCE.MODE 0, 2), (DEV_STATE, 1), (PORTS_READY, 1), (HK_RUN 0, 1), (HK_AT 0, 1), (HK_DROPS 0, 1)],
      by decide +kernel⟩,
    ⟨0, st 0 0 [(HK_SEQUENCE.MODE 0, 2), (DEV_STATE, 1), (PORTS_READY, 1), (HK_RUN 0, 1), (HK_AT 0, 1)], by decide +kernel⟩⟩

/-- States and operands that meet the hypotheses of ConversionsAndPasses, clause by clause. -/
theorem met_ConversionsAndPasses :
    (∃ q : Seq, ∃ e : Entry, ∃ s : State, s.hkOn = true ∧ s.hkRuns q = true ∧ s.hkDue q = true ∧ s.flag (HK_PRE q) = false ∧
      s.nat (HK_DELAY q) ≤ s.time ∧ s.hkEntry q = e.val ∧ s.nat (HK_DONE e) < s.nat (HK_ENTRY.REPEAT e)) ∧
    (∃ q : Seq, ∃ e : Entry, ∃ s : State, s.hkOn = true ∧ s.hkRuns q = true ∧ s.hkDue q = true ∧ s.hkEntry q = e.val ∧ (s.nat
      (HK_ENTRY.REPEAT e)) ≤ s.nat (HK_DONE e) ∧ s.flag (HK_INJECT e) = false ∧ ((s.bit (HK_ENTRY.ENTRY_STATUS e) 1) = false ∨
      s.flag (HK_OK e) = true) ∧ -2147483648 ≤ (s.hkValue e (s.get (HK_SUM e)) (s.nat (HK_ENTRY.REPEAT e))).1 ∧ (s.hkValue e
      (s.get (HK_SUM e)) (s.nat (HK_ENTRY.REPEAT e))).1 ≤ 2147483647) ∧
    (∃ q : Seq, ∃ e : Entry, ∃ s : State, s.hkOn = true ∧ s.hkRuns q = true ∧ s.hkDue q = true ∧ s.hkEntry q = e.val ∧ (s.nat
      (HK_ENTRY.REPEAT e)) ≤ s.nat (HK_DONE e) ∧ s.flag (HK_INJECT e) = false ∧ (s.bit (HK_ENTRY.ENTRY_STATUS e) 1) = true ∧
      s.flag (HK_OK e) = true) ∧
    (∃ q : Seq, ∃ e : Entry, ∃ s : State, s.hkOn = true ∧ s.hkRuns q = true ∧ s.hkDue q = true ∧ s.hkEntry q = e.val ∧ (s.nat
      (HK_ENTRY.REPEAT e)) ≤ s.nat (HK_DONE e) ∧ s.flag (HK_INJECT e) = false ∧ (s.bit (HK_ENTRY.ENTRY_STATUS e) 1) = true ∧
      s.flag (HK_OK e) = false) ∧
    (∃ q : Seq, ∃ e : Entry, ∃ s : State, s.hkOn = true ∧ s.hkRuns q = true ∧ s.hkDue q = true ∧ s.hkEntry q = e.val ∧ (s.nat
      (HK_ENTRY.REPEAT e)) ≤ s.nat (HK_DONE e) ∧ s.flag (HK_INJECT e) = true ∧ (s.hkThreshold e).1 ≤ (hkRound (s.hkSigned e)
      (s.get (HK_SUM e)) (s.nat (HK_ENTRY.REPEAT e))) ∧ (s.bit (HK_ENTRY.ENTRY_STATUS e) 1) = false) ∧
    (∃ q : Seq, ∃ e : Entry, ∃ s : State, s.hkOn = true ∧ s.hkRuns q = true ∧ s.hkDue q = true ∧ s.hkEntry q = e.val ∧ (s.nat
      (HK_ENTRY.REPEAT e)) ≤ s.nat (HK_DONE e) ∧ s.flag (HK_INJECT e) = true ∧ (hkRound (s.hkSigned e) (s.get (HK_SUM e)) (s.nat
      (HK_ENTRY.REPEAT e))) < (s.hkThreshold e).1) ∧
    (∃ q : Seq, ∃ s : State, s.hkOn = true ∧ s.hkRuns q = true ∧ s.nat (HK_SEQUENCE.LAST_ENTRY q) < s.hkEntry q ∧ s.nat
      (HK_SEQUENCE.MODE q) ≠ 2) :=
  ⟨⟨0, 0, st 0 0 [(DEV_STATE, 1), (PORTS_READY, 1), (HK_RUN 0, 1)], by decide +kernel⟩,
    ⟨0, 0, st 0 0 [(HK_ENTRY.REPEAT 0, 0), (DEV_STATE, 1), (PORTS_READY, 1), (HK_RUN 0, 1)], by decide +kernel⟩,
    ⟨0, 0, st 0 0 [(HK_ENTRY.REPEAT 0, 0), (HK_ENTRY.ENTRY_STATUS 0, 2), (DEV_STATE, 1), (PORTS_READY, 1), (HK_RUN 0, 1), (HK_OK
      0, 1)], by decide +kernel⟩,
    ⟨0, 0, st 0 0 [(HK_ENTRY.REPEAT 0, 0), (HK_ENTRY.ENTRY_STATUS 0, 2), (DEV_STATE, 1), (PORTS_READY, 1), (HK_RUN 0, 1)],
      by decide +kernel⟩,
    ⟨0, 0, st 0 0 [(HK_RUN 0, 1), (HK_ENTRY.REPEAT 0, 1), (HK_DONE 0, 1), (HK_SUM 0, 0xFC00), (HK_INJECT 0, 1), (DEV_STATE, 1),
      (PORTS_READY, 1)], by decide +kernel⟩,
    ⟨0, 0, st 0 0 [(HK_ENTRY.REPEAT 0, 0), (DEV_STATE, 1), (PORTS_READY, 1), (HK_RUN 0, 1), (HK_INJECT 0, 1)],
      by decide +kernel⟩,
    ⟨0, st 0 0 [(DEV_STATE, 1), (PORTS_READY, 1), (HK_RUN 0, 1), (HK_AT 0, 1)], by decide +kernel⟩⟩

/-- States and operands that meet the hypotheses of StaleEntriesAndHouseConversions, clause by clause. -/
theorem met_StaleEntriesAndHouseConversions :
    (∃ e : Entry, ∃ s : State, s.live = true ∧ s.nat (HK_PASS_AT e) ≠ 0 ∧ s.nat (HK_PASS_AT e) + 1000000 < s.time ∧ s.hkStale e
      = false) ∧
    (∃ e : Entry, ∃ s : State, s.live = true ∧ (s.time ≤ s.nat (HK_PASS_AT e) + 1000000 ∨ s.hkStale e = true)) ∧
    (∃ q : Seq, ∃ s : State, s.live = true ∧ s.hkDue q = true ∧ s.flag (HK_PRE q) = false ∧ s.nat (HK_SEQUENCE.CONVERTER q) ≠ 0) :=
  ⟨⟨0, st 1000002 0 [(HK_ENTRY.ENTRY_STATUS 0, 2450), (DEV_STATE, 1), (HK_PASS_AT 0, 1)], by decide +kernel⟩,
    ⟨0, st 0 0 [(DEV_STATE, 1)], by decide +kernel⟩,
    ⟨0, st 0 0 [(HK_SEQUENCE.CONVERTER 0, 1), (DEV_STATE, 1), (HK_RUN 0, 1)], by decide +kernel⟩⟩

/-- States and operands that meet the hypotheses of Temperatures, clause by clause. -/
theorem met_Temperatures :
    (∃ v : Int, ∃ s : State, s.nat DEV_STATE ≠ 3 ∧ (v < -6000 ∨ 20000 < v)) ∧
    (∃ i : Sensor, ∃ v : Int, ∃ s : State, s.nat DEV_STATE ≠ 3 ∧ (s.nat (THERMAL_DIE.DIE_STATE (sensorDie i))) < 2 ∧ 2 ≤ (if
      (next (.tempSample i v) s).blind (sensorDie i) then (if (sensorDie i) = 0 then (s.nat (THERMAL_DIE.DIE_STATE (sensorDie
      i))) else max (s.nat (THERMAL_DIE.DIE_STATE (sensorDie i))) 2) else dieStateNext (s.nat (THERMAL_DIE.DIE_STATE (sensorDie
      i))) ((next (.tempSample i v) s).get (THERMAL_DIE.DIE_MAX (sensorDie i)))) ∧ 1 ≤ (sensorDie i)) ∧
    (∃ i : Sensor, ∃ v : Int, ∃ s : State, s.nat DEV_STATE ≠ 3 ∧ (s.nat (THERMAL_DIE.DIE_STATE (sensorDie i))) < 2 ∧ 2 ≤ (if
      (next (.tempSample i v) s).blind (sensorDie i) then (if (sensorDie i) = 0 then (s.nat (THERMAL_DIE.DIE_STATE (sensorDie
      i))) else max (s.nat (THERMAL_DIE.DIE_STATE (sensorDie i))) 2) else dieStateNext (s.nat (THERMAL_DIE.DIE_STATE (sensorDie
      i))) ((next (.tempSample i v) s).get (THERMAL_DIE.DIE_MAX (sensorDie i)))) ∧ (sensorDie i) = 0 ∧ (next (.tempSample i v)
      s).blind 0 = false) ∧
    (∃ i : Sensor, ∃ v : Int, ∃ s : State, s.nat DEV_STATE ≠ 3 ∧ (sensorDie i) = 0 ∧ (next (.tempSample i v) s).blind 0 = true) ∧
    (∃ i : Sensor, ∃ v : Int, ∃ s : State, s.nat DEV_STATE ≠ 3 ∧ (s.nat (THERMAL_DIE.DIE_STATE (sensorDie i))) < 3 ∧ (if (next
      (.tempSample i v) s).blind (sensorDie i) then (if (sensorDie i) = 0 then (s.nat (THERMAL_DIE.DIE_STATE (sensorDie i)))
      else max (s.nat (THERMAL_DIE.DIE_STATE (sensorDie i))) 2) else dieStateNext (s.nat (THERMAL_DIE.DIE_STATE (sensorDie i)))
      ((next (.tempSample i v) s).get (THERMAL_DIE.DIE_MAX (sensorDie i)))) = 3 ∧ 1 ≤ (sensorDie i) ∧ dieOf 127 = (sensorDie i)
      - 1 ∧ s.shutsOff 127 = true) ∧
    (∃ s : State, s.nat DEV_STATE = 3) ∧
    (∃ s : State, s.live = true ∧ s.blind 0 = false ∧ 2 ≤ s.nat (THERMAL_DIE.DIE_STATE 0) ∧ (s.nat PERFORMANCE.THERMAL_FLOOR) <
      3 ∧ s.nat THR_STEP_AT + 10000 ≤ s.time) ∧
    (∃ s : State, s.live = true ∧ s.blind 0 = false ∧ s.nat (THERMAL_DIE.DIE_STATE 0) < 2 ∧ 0 < (s.nat
      PERFORMANCE.THERMAL_FLOOR) ∧ s.nat THR_STEP_AT + 100000 ≤ s.time) :=
  ⟨⟨20001, st 0 0 [], by decide +kernel⟩,
    ⟨4, 0, st 0 0 [(THERMAL_DIE.SENSOR 1 6, 14000)], by decide +kernel⟩,
    ⟨0, 0, st 0 0 [(THERMAL_DIE.SENSOR 0 2, 14000)], by decide +kernel⟩,
    ⟨0, 0, st 0 0 [(THERMAL_DIE.FAILED_SENSORS 0, 15)], by decide +kernel⟩,
    ⟨4, 0, st 0 0 [(THERMAL_DIE.SENSOR 1 6, 16000), (CELL 127, 1)], by decide +kernel⟩,
    ⟨st 0 0 [(DEV_STATE, 3)], by decide +kernel⟩,
    ⟨st 10000 0 [(THERMAL_DIE.DIE_STATE 0, 2), (DEV_STATE, 1)], by decide +kernel⟩,
    ⟨st 100000 0 [(PERFORMANCE.THERMAL_FLOOR, 1), (DEV_STATE, 1)], by decide +kernel⟩⟩

/-- States and operands that meet the hypotheses of Watchdogs, clause by clause. -/
theorem met_Watchdogs :
    (∃ x : Tenant, ∃ s : State, s.nat (WATCHDOG.WD_STATE x) = 1 ∧ s.nat (WD_AT x) + s.nat (WATCHDOG.PERIOD x) / 2 ≤ s.time) ∧
    (∃ x : Tenant, ∃ s : State, s.wdJudged x = true ∧ s.nat (WATCHDOG.WD_STATE x) = 1 ∧ s.nat (WD_AT x) + s.nat (WATCHDOG.PERIOD
      x) ≤ s.time ∧ s.flag (WD_VALID x) = true ∧ s.flag (WD_FAILED x) = false) ∧
    (∃ x : Tenant, ∃ s : State, s.wdJudged x = true ∧ s.nat (WATCHDOG.WD_STATE x) = 1 ∧ s.nat (WD_AT x) + s.nat (WATCHDOG.PERIOD
      x) ≤ s.time ∧ (s.flag (WD_VALID x) = false ∨ s.flag (WD_FAILED x) = true)) ∧
    (∃ x : Tenant, ∃ s : State, s.wdJudged x = true ∧ s.nat (WATCHDOG.WD_STATE x) = 2 ∧ s.nat (WD_AT x) + s.nat (WD_LEN x) ≤
      s.time) ∧
    (∃ x : Tenant, ∃ s : State, s.time < s.nat (WD_AT x) + s.nat (WD_LEN x)) ∧
    (∃ ep : Endpoint, ∃ x : Tenant, ∃ v : Nat, ∃ s : State, s.nat (WATCHDOG.WD_STATE x) = 0 ∧ Accepts s ep x .object
      (WATCHDOG.ARM x) v (bytesOf (WATCHDOG.ARM x) v) ∧ s.barrierEnd x = none) ∧
    (∃ ep : Endpoint, ∃ x : Tenant, ∃ s : State, s.nat (WATCHDOG.WD_STATE x) = 3 ∧ s.endpointUp ep = true ∧ s.tenantAt ep = some
      x.val ∧ s.inSession ep = none ∧ s.heldWrites = [] ∧ s.isKibitzer x = false) ∧
    (∃ ep : Endpoint, ∃ x : Tenant, ∃ v : Nat, ∃ s : State, s.nat (WATCHDOG.WD_STATE x) = 1 ∧ s.wdAnswers x = true ∧ s.flag
      (WD_CLOSED x) = true ∧ s.time < s.nat (WD_AT x) + s.nat (WATCHDOG.PERIOD x) ∧ Accepts s ep x .object (WATCHDOG.ANSWER x) v
      (bytesOf (WATCHDOG.ANSWER x) v)) ∧
    (∃ ep : Endpoint, ∃ x : Tenant, ∃ v : Nat, ∃ s : State, s.nat (WATCHDOG.WD_STATE x) = 1 ∧ s.wdAnswers x = true ∧ s.flag
      (WD_CLOSED x) = false ∧ s.nat (WD_ANSWERS x) ≠ 0 ∧ s.time < s.nat (WD_AT x) + s.nat (WATCHDOG.PERIOD x) / 2 ∧ Accepts s ep
      x .object (WATCHDOG.ANSWER x) v (bytesOf (WATCHDOG.ANSWER x) v)) ∧
    (∃ ep : Endpoint, ∃ x : Tenant, ∃ v : Nat, ∃ s : State, s.time < s.nat (WD_AT x) + s.nat (WATCHDOG.PERIOD x) ∧ Accepts s ep
      x .object (WATCHDOG.ADJOURN x) v (bytesOf (WATCHDOG.ADJOURN x) v) ∧ s.barrierEnd x = none) :=
  ⟨⟨0, st 0 0 [(WATCHDOG.WD_STATE 0, 1)], by decide +kernel⟩,
    ⟨0, st 0 0 [(WATCHDOG.WD_STATE 0, 1), (DEV_STATE, 1), (WD_VALID 0, 1)], by decide +kernel⟩,
    ⟨0, st 0 0 [(WATCHDOG.WD_STATE 0, 1), (DEV_STATE, 1)], by decide +kernel⟩,
    ⟨0, st 0 0 [(WATCHDOG.WD_STATE 0, 2), (DEV_STATE, 1)], by decide +kernel⟩,
    ⟨0, st 0 0 [(WD_LEN 0, 1)], by decide +kernel⟩,
    ⟨.spi 0, 0, 535892, st 0 0 [(TENANT.ENDPOINT 0, 0x3000), (DEV_STATE, 1), (PORTS_READY, 1)],
      by simp only [← accepts_iff]; decide +kernel⟩,
    ⟨Endpoint.can 0 0, 0, st 0 0 [(CAN_PORT.BUS_STATE 0, 0), (TENANT.ENDPOINT 0, 4096), (WATCHDOG.WD_STATE 0, 3), (DEV_STATE,
      1), (PORTS_READY, 1), (NMT_STATE 0, 1)], by decide +kernel⟩,
    ⟨.can 0 0, 0, 0, st 0 0 [(WATCHDOG.WD_STATE 0, 1), (WATCHDOG.PERIOD 0, 1), (WD_CLOSED 0, 1), (NMT_STATE 0, 1),
      (CAN_PORT.BUS_STATE 0, 0), (TENANT.ENDPOINT 0, 0x1000), (DEV_STATE, 1), (PORTS_READY, 1)],
      by simp only [← accepts_iff]; decide +kernel⟩,
    ⟨Endpoint.can 0 0, 0, 0, st 0 0 [(CAN_PORT.BUS_STATE 0, 0), (TENANT.ENDPOINT 0, 4096), (WATCHDOG.WD_STATE 0, 1),
      (WATCHDOG.PERIOD 0, 2), (DEV_STATE, 1), (WD_ANSWERS 0, 1), (PORTS_READY, 1), (NMT_STATE 0, 1)],
      by simp only [← accepts_iff]; decide +kernel⟩,
    ⟨Endpoint.can 0 0, 0, 1000, st 0 0 [(CAN_PORT.BUS_STATE 0, 0), (TENANT.ENDPOINT 0, 4096), (WATCHDOG.WD_STATE 0, 1),
      (WATCHDOG.PERIOD 0, 1), (DEV_STATE, 1), (PORTS_READY, 1), (NMT_STATE 0, 1)], by simp only [← accepts_iff]; decide +kernel⟩⟩

/-- States and operands that meet the hypotheses of SecurityAndLoads, clause by clause. -/
theorem met_SecurityAndLoads :
    (∃ x : Tenant, ∃ data : List Byte, ∃ rest : List SignJob, ∃ s : State, s.live = true ∧ s.signing = ⟨x, false, data⟩ :: rest) ∧
    (∃ x : Tenant, ∃ data : List Byte, ∃ rest : List SignJob, ∃ s : State, s.live = true ∧ s.signing = ⟨x, true, data⟩ :: rest) ∧
    (∃ s : State, s.live = true ∧ s.clockAt s.time % 1000 = 0 ∧ s.nat LOAD_AT ≠ s.time + 1 ∧ 9900 < s.fabricLoad ∧ s.pauseOver
      OVERLOAD_AT = true) ∧
    (∃ s : State, s.live = true ∧ s.clockAt s.time % 1000 = 0 ∧ s.nat LOAD_AT ≠ s.time + 1 ∧ 9900 ≤ s.accessLoad ∧ s.pauseOver
      SATURATED_AT = true) ∧
    (∃ ep : Endpoint, ∃ x : Tenant, ∃ data : List Byte, ∃ c : Nat, ∃ s : State, (fun (addr : Nat) => Accepts s ep x .object addr
      0 data) (SESSION_CONTROL.AUTH_WRITE 0) ∧ s.resetPending x = false ∧ s.envelopeFailure x data (data.length == 17 +
      envLength data && 1 ≤ envLength data && envLength data ≤ 1024) = some c) ∧
    (∃ ep : Endpoint, ∃ x : Tenant, ∃ data : List Byte, ∃ s : State, (fun (addr : Nat) => Accepts s ep x .object addr 0 data)
      (SESSION_CONTROL.AUTH_WRITE 0) ∧ s.resetPending x = false ∧ envCounter data ≠ 0xFFFFFFFF ∧ s.envelopeFailure x data
      (data.length == 17 + envLength data && 1 ≤ envLength data && envLength data ≤ 1024) = none ∧ subAt (envAddress data) =
      some ((subAt (CHANNEL_CONFIG.REQUEST 0)).get (by decide)) ∧ ((subAt (CHANNEL_CONFIG.REQUEST 0)).get (by decide)).cls =
      .immediate ∧ ((subAt (CHANNEL_CONFIG.REQUEST 0)).get (by decide)).acc ≠ .wo ∧ ((subAt (CHANNEL_CONFIG.REQUEST 0)).get (by
      decide)).ty.isString = false ∧ ((s.accessArrives ep).envelopePasses x data).writeCheck (some x.val) .envelope (envAddress
      data) (envValue data) = none ∧ ((s.accessArrives ep).envelopePasses x data).valueCheck x (envAddress data) (((subAt
      (CHANNEL_CONFIG.REQUEST 0)).get (by decide)).ty.decode (envValue data)) (envValue data) = none ∧ ((s.accessArrives
      ep).envelopePasses x data).stateCheck x (envAddress data) ((subAt (CHANNEL_CONFIG.REQUEST 0)).get (by decide)) (((subAt
      (CHANNEL_CONFIG.REQUEST 0)).get (by decide)).ty.decode (envValue data)) = none) ∧
    (∃ ep : Endpoint, ∃ x : Tenant, ∃ data : List Byte, ∃ s : State, (fun (addr : Nat) => Accepts s ep x .object addr 0 data)
      (SESSION_CONTROL.AUTH_READ_REQUEST 0) ∧ s.resetPending x = false ∧ envCounter data ≠ 0xFFFFFFFF ∧ s.envelopeFailure x data
      (data.length == 17 && 1 ≤ envLength data && envLength data ≤ 1024) = none ∧ ((s.accessArrives ep).envelopePasses x
      data).readCheck (some x.val) .envelope (envAddress data) = none) :=
  ⟨⟨0, by8 [1], [], { st 0 0 [(DEV_STATE, 1)] with signing := [⟨0, false, by8 [1]⟩] }, by decide +kernel⟩,
    ⟨0, by8 [1], [], { st 0 0 [(DEV_STATE, 1)] with signing := [⟨0, true, by8 [1]⟩] }, by decide +kernel⟩,
    ⟨st 0 0 [(DEV_STATE, 1), (LOAD_PLACED, 1)], by decide +kernel⟩,
    ⟨st 0 0 [(DEV_STATE, 1), (LOAD_ACCESS, 99000)], by decide +kernel⟩,
    ⟨Endpoint.can 0 0, 0, [0x72#8, 0x5e#8, 0xd6#8, 0x13#8, 0x55#8, 0x2c#8, 0xc4#8, 0xf1#8, 0x85#8, 0x77#8, 0xb9#8, 0xa4#8,
      0x49#8, 0x51#8, 0xfe#8, 0x4a#8, 0x52#8, 0x9f#8, 0x29#8, 0xd9#8, 0x81#8, 0xcb#8, 0xd0#8, 0xd7#8, 0x12#8, 0x9f#8, 0x6b#8,
      0xf6#8, 0x46#8, 0x99#8, 0xb3#8, 0xf5#8], 1, st 0 0 [(CAN_PORT.BUS_STATE 0, 1), (TENANT.ENDPOINT 0, 4096), (DEV_STATE, 1),
      (PORTS_READY, 1), (NMT_STATE 0, 1)], by simp only [← accepts_iff]; decide +kernel⟩,
    ⟨.spi 0, 0, envelope (by8 [1, 0, 0, 0, 1, 0, 0x30, 1, 0, 1]), sessionState, ⟨(accepts_iff ..).mp (by decide +kernel),
      by decide +kernel, by decide +kernel, envelope_passes _ _ (by decide +kernel) (by decide +kernel) (by decide +kernel),
      by decide +kernel⟩⟩,
    ⟨.spi 0, 0, envelope (by8 [1, 0, 0, 0, 0, 0, 0x10, 4, 0]), sessionState, ⟨(accepts_iff ..).mp (by decide +kernel),
      by decide +kernel, by decide +kernel, envelope_passes _ _ (by decide +kernel) (by decide +kernel) (by decide +kernel),
      by decide +kernel⟩⟩⟩

/-- States and operands that meet the hypotheses of StagedAndRefusedWrites, clause by clause. -/
theorem met_StagedAndRefusedWrites :
    (∃ ep : Endpoint, ∃ u : Nat, ∃ addr : Nat, ∃ data : List Byte, ∃ s : State, subAt addr = some ((subAt
      (CHANNEL_CONFIG.SHUNT_RESISTANCE 0)).get (by decide)) ∧ ((subAt (CHANNEL_CONFIG.SHUNT_RESISTANCE 0)).get (by decide)).cls
      = .staged ∧ ((subAt (CHANNEL_CONFIG.SHUNT_RESISTANCE 0)).get (by decide)).acc ≠ .wo ∧ Accepts s ep u .object addr (((subAt
      (CHANNEL_CONFIG.SHUNT_RESISTANCE 0)).get (by decide)).ty.decode data) data ∧ (¬(0x3600 ≤ addr / 256 ∧ addr / 256 < 0x3800
      ∧ 0x0C ≤ addr % 256 ∧ addr % 256 ≤ 0x0F)) ∧ s.stagingFull u addr = false ∧ ((∀ y ∈ s.stagedOf u, y.key ≠ addr))) ∧
    (∃ ep : Endpoint, ∃ u : Nat, ∃ addr : Nat, ∃ data : List Byte, ∃ s : State, subAt addr = some ((subAt
      (CHANNEL_CONFIG.SHUNT_RESISTANCE 0)).get (by decide)) ∧ ((subAt (CHANNEL_CONFIG.SHUNT_RESISTANCE 0)).get (by decide)).cls
      = .staged ∧ ((subAt (CHANNEL_CONFIG.SHUNT_RESISTANCE 0)).get (by decide)).acc ≠ .wo ∧ Accepts s ep u .object addr (((subAt
      (CHANNEL_CONFIG.SHUNT_RESISTANCE 0)).get (by decide)).ty.decode data) data ∧ (¬(0x3600 ≤ addr / 256 ∧ addr / 256 < 0x3800
      ∧ 0x0C ≤ addr % 256 ∧ addr % 256 ≤ 0x0F)) ∧ s.stagingFull u addr = false ∧ ((∃ y ∈ s.stagedOf u, y.key = addr))) ∧
    (∃ ep : Endpoint, ∃ u : Nat, ∃ addr : Nat, ∃ data : List Byte, ∃ s : State, subAt addr = some ((subAt
      (CHANNEL_CONFIG.SHUNT_RESISTANCE 0)).get (by decide)) ∧ ((subAt (CHANNEL_CONFIG.SHUNT_RESISTANCE 0)).get (by decide)).cls
      = .staged ∧ ((subAt (CHANNEL_CONFIG.SHUNT_RESISTANCE 0)).get (by decide)).acc ≠ .wo ∧ Accepts s ep u .object addr (((subAt
      (CHANNEL_CONFIG.SHUNT_RESISTANCE 0)).get (by decide)).ty.decode data) data ∧ (¬(0x3600 ≤ addr / 256 ∧ addr / 256 < 0x3800
      ∧ 0x0C ≤ addr % 256 ∧ addr % 256 ≤ 0x0F)) ∧ s.stagingFull u addr = true) ∧
    (∃ ep : Endpoint, ∃ u : Nat, ∃ n : Chan, ∃ sub : Fin 4, ∃ v : Int, ∃ s : State, Accepts s ep u .object
      (CHANNEL_SUPERVISION.UV_LEVEL n + 10 + sub.val) v (bytesOf (CHANNEL_SUPERVISION.UV_LEVEL n + 10 + sub.val) v) ∧
      ((s.accessArrives ep).writeLevelView u n (12 + sub.val) v).1 = none) ∧
    (∃ ep : Endpoint, ∃ u : Nat, ∃ n : Chan, ∃ sub : Fin 4, ∃ v : Int, ∃ s : State, Accepts s ep u .object
      (CHANNEL_SUPERVISION.UV_LEVEL n + 10 + sub.val) v (bytesOf (CHANNEL_SUPERVISION.UV_LEVEL n + 10 + sub.val) v) ∧
      ((s.accessArrives ep).writeLevelView u n (12 + sub.val) v).1 = some .tooLow) ∧
    (∃ ep : Endpoint, ∃ u : Nat, ∃ addr : Nat, ∃ data : List Byte, ∃ s : State, s.endpointUp ep = true ∧ s.tenantAt ep = some u
      ∧ s.inSession ep = none ∧ frameLengthBad ep data.length = false ∧ slotTooSmall ep .object addr = false ∧ fitsSlot ep
      data.length = true ∧ (s.accessArrives ep).mustWait ⟨ep, .object, addr, data⟩ = false ∧ ((∀ y ∈ s.heldWrites, y.ep ≠ ep)) ∧
      (¬(0x2600 ≤ addr / 256 ∧ addr / 256 < 0x2610)) ∧ (s.accessArrives ep).writeCheck (some u) .plain addr data = some
      .noObject) :=
  ⟨⟨.spi 0, 0, CHANNEL_CONFIG.SHUNT_RESISTANCE 0, by8 [0x60, 0xE3, 0x16, 0x00], st 0 0 [(TENANT.ENDPOINT 0, 0x3000), (DEV_STATE,
      1), (PORTS_READY, 1)], by simp only [← accepts_iff]; decide +kernel⟩,
    ⟨.spi 0, 0, CHANNEL_CONFIG.SHUNT_RESISTANCE 0, by8 [0x60, 0xE3, 0x16, 0x00], { st 0 0 [(TENANT.ENDPOINT 0, 0x3000),
      (DEV_STATE, 1), (PORTS_READY, 1)] with staged := [⟨0, CHANNEL_CONFIG.SHUNT_RESISTANCE 0, 1, true⟩] },
      by simp only [← accepts_iff]; decide +kernel⟩,
    ⟨.spi 0, 0, CHANNEL_CONFIG.SHUNT_RESISTANCE 0, by8 [0x60, 0xE3, 0x16, 0x00], { st 0 0 [(TENANT.ENDPOINT 0, 0x3000),
      (DEV_STATE, 1), (PORTS_READY, 1)] with staged := List.replicate 4096 ⟨0, 0, 0, false⟩ },
      by simp only [← accepts_iff]; decide +kernel⟩,
    ⟨.spi 0, 0, 0, 0, 0, st 0 0 [(TENANT.ENDPOINT 0, 0x3000), (DEV_STATE, 1), (PORTS_READY, 1)],
      by simp only [← accepts_iff]; decide +kernel⟩,
    ⟨.spi 0, 0, 0, 0, 0, st 0 0 [(CHANNEL_SUPERVISION.UV_LEVEL 0, 5), (TENANT.ENDPOINT 0, 0x3000), (DEV_STATE, 1), (PORTS_READY,
      1)], by simp only [← accepts_iff]; decide +kernel⟩,
    ⟨.spi 0, 0, 0, by8 [0], st 0 0 [(TENANT.ENDPOINT 0, 0x3000), (DEV_STATE, 1), (PORTS_READY, 1)], by decide +kernel⟩⟩

/-- States and operands that meet the hypotheses of Pops, clause by clause. -/
theorem met_Pops :
    (∃ ep : Endpoint, ∃ x : Tenant, ∃ q : RingId, ∃ s : State, s.endpointUp ep = true ∧ s.tenantAt ep = some x.val ∧ s.inSession
      ep = none ∧ s.mayPop x q = true ∧ (match ep with | .pcie _ => true | _ => false) = true) ∧
    (∃ ep : Endpoint, ∃ x : Tenant, ∃ q : RingId, ∃ s : State, s.endpointUp ep = true ∧ s.tenantAt ep = some x.val ∧ s.inSession
      ep = none ∧ s.mayPop x q = true ∧ (match ep with | .can _ _ => true | _ => false) = true ∧ s.nat (OVF_DROPS q) = 0) ∧
    (∃ ep : Endpoint, ∃ x : Tenant, ∃ q : RingId, ∃ s : State, s.endpointUp ep = true ∧ s.tenantAt ep = some x.val ∧ s.inSession
      ep = none ∧ s.mayPop x q = true ∧ (match ep with | .can _ _ => true | _ => false) = false ∧
      (match ep with | .pcie _ => true | _ => false) = false ∧ s.nat (OVF_DROPS q) = 0) :=
  ⟨⟨.pcie 0, 0, 0, st 0 0 [(STRAPS.STRAP_VALUE, 64), (PCIE_PORT.LINK_STATE, 2), (TENANT.ENDPOINT 0, 0x4000), (DEV_STATE, 1),
      (PORTS_READY, 1)], by decide +kernel⟩,
    ⟨.can 0 0, 0, 0, st 0 0 [(NMT_STATE 0, 1), (CAN_PORT.BUS_STATE 0, 0), (TENANT.ENDPOINT 0, 0x1000), (DEV_STATE, 1),
      (PORTS_READY, 1)], by decide +kernel⟩,
    ⟨.spi 0, 0, 0, st 0 0 [(TENANT.ENDPOINT 0, 0x3000), (DEV_STATE, 1), (PORTS_READY, 1)], by decide +kernel⟩⟩

/-- States and operands that meet the hypotheses of AnswersAreTheCrcOfTheirPeriod, clause by clause. -/
theorem met_AnswersAreTheCrcOfTheirPeriod :
    (∃ ep : Endpoint, ∃ x : Tenant, ∃ v : Nat, ∃ s : State, Accepts s ep x .object (WATCHDOG.ANSWER x) v (bytesOf
      (WATCHDOG.ANSWER x) v) ∧ s.wdAnswers x = true ∧ s.nat (WATCHDOG.WD_STATE x) = 1 ∧ s.nat (WATCHDOG.PERIOD x) ≠ 0 ∧ s.time <
      s.nat (WD_AT x) + s.nat (WATCHDOG.PERIOD x) / 2 ∧ s.flag (WD_CLOSED x) = false ∧ s.nat (WD_ANSWERS x) = 0 ∧ v = (crc32c
      (leBytes 4 (s.nat (WATCHDOG.QUESTION x)) ++ leBytes 4 (s.nat (WD_SEED x)) ++ leBytes 4 (s.nat (WATCHDOG.ANSWER_COUNT
      x))))) ∧
    (∃ ep : Endpoint, ∃ x : Tenant, ∃ v : Nat, ∃ s : State, Accepts s ep x .object (WATCHDOG.ANSWER x) v (bytesOf
      (WATCHDOG.ANSWER x) v) ∧ s.wdAnswers x = true ∧ s.nat (WATCHDOG.WD_STATE x) = 1 ∧ s.nat (WATCHDOG.PERIOD x) ≠ 0 ∧ s.time <
      s.nat (WD_AT x) + s.nat (WATCHDOG.PERIOD x) / 2 ∧ s.flag (WD_CLOSED x) = false ∧ s.nat (WD_ANSWERS x) = 0 ∧ v ≠ (crc32c
      (leBytes 4 (s.nat (WATCHDOG.QUESTION x)) ++ leBytes 4 (s.nat (WD_SEED x)) ++ leBytes 4 (s.nat (WATCHDOG.ANSWER_COUNT
      x))))) ∧
    (∃ ep : Endpoint, ∃ x : Tenant, ∃ v : Nat, ∃ s : State, Accepts s ep x .object (WATCHDOG.ANSWER x) v (bytesOf
      (WATCHDOG.ANSWER x) v) ∧ s.wdAnswers x = true ∧ s.nat (WATCHDOG.WD_STATE x) = 2 ∧ s.time < s.nat (WD_AT x) + s.nat (WD_LEN
      x) ∧ v = (crc32c (leBytes 4 (s.nat (WATCHDOG.QUESTION x)) ++ leBytes 4 (s.nat (WD_SEED x)) ++ leBytes 4 (s.nat
      (WATCHDOG.ANSWER_COUNT x))))) ∧
    (∃ ep : Endpoint, ∃ x : Tenant, ∃ v : Nat, ∃ s : State, Accepts s ep x .object (WATCHDOG.ANSWER x) v (bytesOf
      (WATCHDOG.ANSWER x) v) ∧ s.wdAnswers x = true ∧ s.nat (WATCHDOG.WD_STATE x) = 2 ∧ s.time < s.nat (WD_AT x) + s.nat (WD_LEN
      x) ∧ v ≠ (crc32c (leBytes 4 (s.nat (WATCHDOG.QUESTION x)) ++ leBytes 4 (s.nat (WD_SEED x)) ++ leBytes 4 (s.nat
      (WATCHDOG.ANSWER_COUNT x))))) :=
  ⟨⟨.can 0 0, 0, crc32c (leBytes 12 0), st 0 0 [(WATCHDOG.WD_STATE 0, 1), (WATCHDOG.PERIOD 0, 2), (NMT_STATE 0, 1),
      (CAN_PORT.BUS_STATE 0, 0), (TENANT.ENDPOINT 0, 0x1000), (DEV_STATE, 1), (PORTS_READY, 1)],
      by simp only [← accepts_iff]; decide +kernel⟩,
    ⟨Endpoint.can 0 0, 0, 0, st 0 0 [(CAN_PORT.BUS_STATE 0, 0), (TENANT.ENDPOINT 0, 4096), (WATCHDOG.WD_STATE 0, 1),
      (WATCHDOG.PERIOD 0, 2), (DEV_STATE, 1), (PORTS_READY, 1), (NMT_STATE 0, 1)], by simp only [← accepts_iff]; decide +kernel⟩,
    ⟨.can 0 0, 0, crc32c (leBytes 12 0), st 0 0 [(WATCHDOG.WD_STATE 0, 2), (WD_AT 0, 1), (NMT_STATE 0, 1), (CAN_PORT.BUS_STATE
      0, 0), (TENANT.ENDPOINT 0, 0x1000), (DEV_STATE, 1), (PORTS_READY, 1)], by simp only [← accepts_iff]; decide +kernel⟩,
    ⟨Endpoint.can 0 0, 0, 0, st 0 0 [(CAN_PORT.BUS_STATE 0, 0), (TENANT.ENDPOINT 0, 4096), (WATCHDOG.WD_STATE 0, 2), (DEV_STATE,
      1), (WD_AT 0, 1), (PORTS_READY, 1), (NMT_STATE 0, 1)], by simp only [← accepts_iff]; decide +kernel⟩⟩

/-- States and operands that meet the hypotheses of ChannelCommandsLand, clause by clause. -/
theorem met_ChannelCommandsLand :
    (∃ n : Chan, ∃ s : State, s.flag (LOGIC_OFF (dieOf n)) = false ∧ s.standing n = false ∧ s.swapOf n = none ∧ s.conducts n =
      true) ∧
    (∃ n : Chan, ∃ s : State, s.flag (LOGIC_OFF (dieOf n)) = false ∧ s.standing n = false ∧ s.swapOf n = none ∧ s.cell n =
      ST.OFF ∧ s.waiting n = false ∧ s.modelFlag n MFLAG.COOLING_WAIT = false ∧ s.flag (STORED_WAIT n) = false ∧ s.coolingOwed n
      = false ∧ s.nat (THERMAL_DIE.DIE_STATE (dieOf n + 1)) ≠ 3) ∧
    (∃ n : Chan, ∃ s : State, s.flag (LOGIC_OFF (dieOf n)) = false ∧ s.standing n = false ∧ s.swapOf n = none ∧ s.cell n =
      ST.ON) ∧
    (∃ n : Chan, ∃ s : State, s.flag (LOGIC_OFF (dieOf n)) = false ∧ s.standing n = false ∧ s.swapOf n = none ∧ s.cell n =
      ST.PWM) ∧
    (∃ n : Chan, ∃ s : State, s.flag (LOGIC_OFF (dieOf n)) = false ∧ s.standing n = false ∧ s.swapOf n = none ∧ s.cell n =
      ST.LOCKOUT) ∧
    (∃ n : Chan, ∃ s : State, s.flag (LOGIC_OFF (dieOf n)) = false ∧ s.standing n = true ∧ s.swapOf n = none) ∧
    (∃ n : Chan, ∃ s : State, s.flag (LOGIC_OFF (dieOf n)) = false ∧ s.standing n = false) ∧
    (∃ u : Nat, ∃ n : Chan, ∃ s : State, s.flag (LOGIC_OFF (dieOf n)) = false ∧ u = 0 ∧ (s.holderOfChannel n) ≠ 0 ∧ s.swapOf n =
      none) ∧
    (∃ n : Chan, ∃ s : State, s.flag (LOGIC_OFF (dieOf n)) = false ∧ s.standing n = false ∧ s.cell n = ST.LOCKOUT) ∧
    (∃ n : Chan, ∃ s : State, s.flag (LOGIC_OFF (dieOf n)) = false ∧ (s.standing n = true ∨ s.cell n ≠ ST.LOCKOUT)) ∧
    (∃ n : Chan, ∃ s : State, s.flag (LOGIC_OFF (dieOf n)) = false ∧ s.standing n = true ∧ s.late = [] ∧ s.conducts n = true ∧
      s.nat (CHANNEL_CONFIG.REQUEST n) = 0) ∧
    (∃ n : Chan, ∃ s : State, s.flag (LOGIC_OFF (dieOf n)) = false ∧ s.standing n = true ∧ s.late = [] ∧ s.conducts n = false ∧
      s.nat (CHANNEL_CONFIG.REQUEST n) = 0) ∧
    (∃ n : Chan, ∃ s : State, s.flag (LOGIC_OFF (dieOf n)) = false ∧ s.standing n = false) :=
  ⟨⟨1, st 0 0 [(CELL 1, 1)], by decide +kernel⟩,
    ⟨0, st 0 0 [], by decide +kernel⟩,
    ⟨1, st 0 0 [(CELL 1, 2)], by decide +kernel⟩,
    ⟨1, st 0 0 [(CELL 1, 3)], by decide +kernel⟩,
    ⟨1, st 0 0 [(CELL 1, 7)], by decide +kernel⟩,
    ⟨1, st 0 0 [(CHANNEL_STATUS.STANDING_CAUSE 1, 1)], by decide +kernel⟩,
    ⟨1, st 0 0 [], by decide +kernel⟩,
    ⟨0, 0, st 0 0 [(TENANT.CHANNELS 12 0, 1)], by decide +kernel⟩,
    ⟨1, st 0 0 [(CELL 1, 7)], by decide +kernel⟩,
    ⟨0, st 0 0 [], by decide +kernel⟩,
    ⟨1, st 0 0 [(CHANNEL_STATUS.STANDING_CAUSE 1, 1), (CELL 1, 1)], by decide +kernel⟩,
    ⟨0, st 0 0 [(CHANNEL_STATUS.STANDING_CAUSE 0, 1)], by decide +kernel⟩,
    ⟨0, st 0 0 [], by decide +kernel⟩⟩

/-- States and operands that meet the hypotheses of PairsAndPlansLand, clause by clause. -/
theorem met_PairsAndPlansLand :
    (∃ p : Pair, ∃ b : Fin 2, ∃ s : State, ((s.pairUsed p = true ∧ s.nat (CASTLING_PAIR.SWAP_STATE p) = 0 ∧ s.standing (if b = 0
      then (s.nat (CASTLING_PAIR.CHANNEL_B p)) else (s.nat (CASTLING_PAIR.CHANNEL_A p))) = false ∧ (s.cell (if b = 0 then (s.nat
      (CASTLING_PAIR.CHANNEL_B p)) else (s.nat (CASTLING_PAIR.CHANNEL_A p))) = ST.ON ∨ s.cell (if b = 0 then (s.nat
      (CASTLING_PAIR.CHANNEL_B p)) else (s.nat (CASTLING_PAIR.CHANNEL_A p))) = ST.LIMIT) ∧ s.standing (if b = 0 then (s.nat
      (CASTLING_PAIR.CHANNEL_A p)) else (s.nat (CASTLING_PAIR.CHANNEL_B p))) = false ∧ s.cell (if b = 0 then (s.nat
      (CASTLING_PAIR.CHANNEL_A p)) else (s.nat (CASTLING_PAIR.CHANNEL_B p))) = ST.OFF ∧ s.nat (inForce (CHANNEL_CONFIG.REQUEST
      (if b = 0 then (s.nat (CASTLING_PAIR.CHANNEL_A p)) else (s.nat (CASTLING_PAIR.CHANNEL_B p))))) = 0 ∧ s.coolingOwed (if b =
      0 then (s.nat (CASTLING_PAIR.CHANNEL_A p)) else (s.nat (CASTLING_PAIR.CHANNEL_B p))) = false)) ∧ s.nat
      (THERMAL_DIE.DIE_STATE (dieOf (if b = 0 then (s.nat (CASTLING_PAIR.CHANNEL_A p)) else (s.nat (CASTLING_PAIR.CHANNEL_B p)))
      + 1)) ≠ 3) ∧
    (∃ p : Pair, ∃ b : Fin 2, ∃ s : State, (¬(s.pairUsed p = true ∧ s.nat (CASTLING_PAIR.SWAP_STATE p) = 0 ∧ s.standing (if b =
      0 then (s.nat (CASTLING_PAIR.CHANNEL_B p)) else (s.nat (CASTLING_PAIR.CHANNEL_A p))) = false ∧ (s.cell (if b = 0 then
      (s.nat (CASTLING_PAIR.CHANNEL_B p)) else (s.nat (CASTLING_PAIR.CHANNEL_A p))) = ST.ON ∨ s.cell (if b = 0 then (s.nat
      (CASTLING_PAIR.CHANNEL_B p)) else (s.nat (CASTLING_PAIR.CHANNEL_A p))) = ST.LIMIT) ∧ s.standing (if b = 0 then (s.nat
      (CASTLING_PAIR.CHANNEL_A p)) else (s.nat (CASTLING_PAIR.CHANNEL_B p))) = false ∧ s.cell (if b = 0 then (s.nat
      (CASTLING_PAIR.CHANNEL_A p)) else (s.nat (CASTLING_PAIR.CHANNEL_B p))) = ST.OFF ∧ s.nat (inForce (CHANNEL_CONFIG.REQUEST
      (if b = 0 then (s.nat (CASTLING_PAIR.CHANNEL_A p)) else (s.nat (CASTLING_PAIR.CHANNEL_B p))))) = 0 ∧ s.coolingOwed (if b =
      0 then (s.nat (CASTLING_PAIR.CHANNEL_A p)) else (s.nat (CASTLING_PAIR.CHANNEL_B p))) = false))) ∧
    (∃ g : Fin 2, ∃ s : State, s.planRuns 0 = false ∧ s.planRuns 1 = false ∧ (s.nat (ofPlan g OPENING_PLAN.STEP_COUNT)) ≤ 128 ∧
      (0 : Nat) < (s.nat (ofPlan g OPENING_PLAN.STEP_COUNT))) ∧
    (∃ g : Fin 2, ∃ s : State, s.planRuns g = true ∧ s.nat (ofPlan g OPENING_PLAN.STEP_COUNT) ≤ 128) ∧
    (∃ g : Fin 2, ∃ s : State, s.planRuns g = false) ∧
    (∃ g : Fin 2, ∃ i : Nat, ∃ s : State, 1 ≤ i ∧ i ≤ 128 ∧ s.planRuns g = true ∧ s.stepState g i = 5) ∧
    (∃ s : State, s.flag BACKUP_LOCKED = false ∧ (256 : Nat).testBit 8 = true) :=
  ⟨⟨0, 0, st 0 0 [(CASTLING_PAIR.CHANNEL_A 0, 0), (CASTLING_PAIR.CHANNEL_B 0, 1), (CELL 1, 2)], by decide +kernel⟩,
    ⟨0, 0, st 0 0 [], by decide +kernel⟩,
    ⟨0, st 0 0 [(OPENING_PLAN.STEP_COUNT, 1)], by decide +kernel⟩,
    ⟨0, st 0 0 [(OPENING_PLAN.PLAN_STATE, 1)], by decide +kernel⟩,
    ⟨0, st 0 0 [], by decide +kernel⟩,
    ⟨0, 1, st 0 0 [(OPENING_PLAN.PLAN_STATE, 2), (OPENING_STEP_STATE.STATE 0, 5)], by decide +kernel⟩,
    ⟨st 0 0 [], by decide +kernel⟩⟩

/-- States and operands that meet the hypotheses of CommitsFoldsAndResetsLand, clause by clause. -/
theorem met_CommitsFoldsAndResetsLand :
    (∃ vals : List (Nat × Int), ∃ s : State, ((∀ v ∈ vals, ∃ row, subAt v.1 = some row ∧ row.cls = .staged ∧ row.acc ≠ .wo ∧
      row.ty.isString = false ∧ isDealField v.1 = false)) ∧ (vals.map (·.1)).Pairwise (· ≠ ·) ∧ ((∀ d < 4, s.dieHears d =
      true))) ∧
    (∃ x : Tenant, ∃ s : State, s.holderOfChannel 0 = x ∧ s.trumpHeld 0 = false ∧ s.foldHold 0 = false ∧ s.standing 0 = false ∧
      s.conducts 0 = true ∧ s.swapOf 0 = none ∧ s.dieHears (dieOf 0) = true) ∧
    (∃ x : Tenant, ∃ src : Nat, ∃ s : State, src < 256 ∧ s.nat (TENANT.RING_BASE x) + s.nat (TENANT.RING_COUNT x) ≤ 8192 ∧ ((∀ d
      : StreamId, s.nat (STREAM.DESC_BASE d) + s.nat (STREAM.DESC_COUNT d) ≤ 1024))) :=
  ⟨⟨[], st 0 0 [(AMLOR_LINK.LINK_STATE 0, 2), (AMLOR_LINK.LINK_STATE 1, 2), (AMLOR_LINK.LINK_STATE 2, 2), (AMLOR_LINK.LINK_STATE
      3, 2)], by decide +kernel⟩,
    ⟨0, st 0 0 [(CELL 0, 2), (AMLOR_LINK.LINK_STATE 0, 2), (AMLOR_LINK.LINK_STATE 1, 2), (AMLOR_LINK.LINK_STATE 2, 2),
      (AMLOR_LINK.LINK_STATE 3, 2)], by decide +kernel⟩,
    ⟨0, 0, st 0 0 [], by decide +kernel⟩⟩

end Sys2Proof.Tests
end

section
/-!
SUPPORT. How a register reads past an update of another register, past an operation whose families it lies outside of, and
past a loop; the channels of a die.
-/
open Sys2Proof
namespace Sys2Proof.Machine

/-! ### Reading registers past updates -/

theorem State.get_eq_of_regs {s t : State} (h : t.regs = s.regs) (k : Nat) : t.get k = s.get k := by
  simp only [State.get, h]

theorem State.nat_eq_of_regs {s t : State} (h : t.regs = s.regs) (k : Nat) : t.nat k = s.nat k := by
  simp only [State.nat, State.get_eq_of_regs h]

theorem State.nat_set_other (s : State) {k k' : Nat} {v : Int} (h : k' ≠ k) : (s.set k v).nat k' = s.nat k' := by
  simp only [State.nat, s.get_set_other k k' v h]

theorem State.nat_setN_other (s : State) {k k' v : Nat} (h : k' ≠ k) : (s.setN k v).nat k' = s.nat k' :=
  s.nat_set_other h

@[simp] theorem State.nat_count_self (s : State) (k mx : Nat) : (s.count k mx).nat k = satTo mx (s.nat k + 1) :=
  s.nat_setN_self k _

theorem State.get_count_other (s : State) {k k' mx : Nat} (h : k' ≠ k) : (s.count k mx).get k' = s.get k' :=
  s.get_set_other k k' _ h

theorem State.nat_count_other (s : State) {k k' mx : Nat} (h : k' ≠ k) : (s.count k mx).nat k' = s.nat k' :=
  s.nat_setN_other h

@[simp] theorem State.count_landing (s : State) (k mx : Nat) : (s.count k mx).landing = s.landing := s.setN_landing k _
@[simp] theorem State.count_staged (s : State) (k mx : Nat) : (s.count k mx).staged = s.staged := s.setN_staged k _
@[simp] theorem State.count_collector (s : State) (k mx : Nat) : (s.count k mx).collector = s.collector := s.setN_collector k _
@[simp] theorem State.setFlag_collector (s : State) (k : Nat) (b : Bool) : (s.setFlag k b).collector = s.collector :=
  s.setN_collector k _
@[simp] theorem State.setBit_collector (s : State) (k b : Nat) (on : Bool) : (s.setBit k b on).collector = s.collector :=
  s.setN_collector k _

@[simp] theorem State.count_time (s : State) (k mx : Nat) : (s.count k mx).time = s.time := s.setN_time k _

/-! ### Registers outside the families of an operation -/

/-- Register k lies in none of the families W. -/
def Outside (W : List Span) (k : Nat) : Prop := ∀ x ∈ W, ¬x.has k

theorem outside_nil {k : Nat} : Outside [] k ↔ True := by simp [Outside]

theorem outside_cons {W : List Span} {b i j k : Nat} :
    Outside (⟨b, i, j⟩ :: W) k ↔ (∀ n m, k ≠ b + i * n + j * m) ∧ Outside W k := by
  simp [Outside, Span.has]

theorem Leaves.get_eq {W : List Span} {L : List Part} {r t : State} (h : Leaves W L r t) {k : Nat} (hk : Outside W k) :
    t.get k = r.get k := h.regs k hk

theorem Leaves.nat_eq {W : List Span} {L : List Part} {r t : State} (h : Leaves W L r t) {k : Nat} (hk : Outside W k) :
    t.nat k = r.nat k := by simp only [State.nat, h.get_eq hk]

/-! ### Loops -/

/-- What every pass of a loop keeps, the loop keeps. -/
theorem forEach_induct {α : Type} {l : List α} {f : α → State → State} {P : State → Prop} {s : State} (h : P s)
    (keep : ∀ a ∈ l, ∀ x, P x → P (f a x)) : P (forEach l f s) := by
  unfold forEach
  induction l generalizing s with
  | nil => exact h
  | cons a l ih => exact ih (keep a List.mem_cons_self s h) fun b hb => keep b (List.mem_cons_of_mem _ hb)

theorem forBelow_induct {n : Nat} {f : Nat → State → State} {P : State → Prop} {s : State} (h : P s)
    (keep : ∀ i < n, ∀ x, P x → P (f i x)) : P (forBelow n f s) :=
  forEach_induct h fun i hi => keep i (List.mem_range.1 hi)

/-- What the pass of one element makes of a state that the others prepare, and what they keep, holds at the end of the loop. -/
theorem forEach_establishes {α : Type} {l : List α} {f : α → State → State} {Q P : State → Prop} {s : State} {a : α}
    (ha : a ∈ l) (hl : l.Nodup) (h : Q s) (before : ∀ b ∈ l, ∀ x, Q x → Q (f b x)) (here : ∀ x, Q x → P (f a x))
    (after : ∀ b ∈ l, b ≠ a → ∀ x, P x → P (f b x)) : P (forEach l f s) := by
  induction l generalizing s with
  | nil => cases ha
  | cons c l ih =>
    obtain ⟨hc, hl⟩ := List.nodup_cons.1 hl
    show P (forEach l f (f c s))
    rcases List.mem_cons.1 ha with rfl | ha
    · refine forEach_induct (here s h) fun b hb => after b (List.mem_cons_of_mem _ hb) ?_
      rintro rfl
      exact hc hb
    · exact ih ha hl (before c List.mem_cons_self s h) (fun b hb => before b (List.mem_cons_of_mem _ hb))
        fun b hb => after b (List.mem_cons_of_mem _ hb)

theorem forBelow_establishes {n i : Nat} {f : Nat → State → State} {Q P : State → Prop} {s : State} (hi : i < n) (h : Q s)
    (before : ∀ j < n, ∀ x, Q x → Q (f j x)) (here : ∀ x, Q x → P (f i x))
    (after : ∀ j < n, j ≠ i → ∀ x, P x → P (f j x)) : P (forBelow n f s) :=
  forEach_establishes (List.mem_range.2 hi) List.nodup_range h (fun j hj => before j (List.mem_range.1 hj)) here
    fun j hj => after j (List.mem_range.1 hj)

/-! ### The channels of a die -/

theorem mem_dieChannels {d n : Nat} : n ∈ dieChannels d ↔ dieOf n = d := by
  simp only [dieChannels, dieOf, List.mem_map, List.mem_range]
  constructor
  · rintro ⟨i, hi, rfl⟩
    omega
  · intro h
    exact ⟨n % 128, by omega, by omega⟩

theorem nodup_dieChannels (d : Nat) : (dieChannels d).Nodup :=
  List.nodup_range.map fun i j h => by simpa using h

/-! ### Messages -/

theorem State.stamp_eq {s t : State} (ht : t.time = s.time) (ho : t.get TICK_OFFSET = s.get TICK_OFFSET) :
    t.stamp = s.stamp := by
  simp only [State.stamp, State.stampAt, State.clockAt, ht, ho]

/-- What is put behind a list still stands behind it as the list grows. -/
theorem mem_drop_of_append_prefix {α : Type} {l j k : List α} {m : α} (h : j <+: k) (hj : j = l ++ [m]) :
    m ∈ k.drop l.length := by
  obtain ⟨r, rfl⟩ := h
  simp [hj]

theorem Raises.of_prefix {s t : State} {k : Kind} {site tenant obj : Nat} {fields : List (Nat × Int)}
    (h : s.collector ++ [⟨s.stamp, site, k, tenant, obj, fields, false⟩] <+: t.collector) :
    Raises s t k site tenant fields := ⟨obj, mem_drop_of_append_prefix h rfl⟩

theorem State.raise_collector_prefix (s : State) (k : Kind) (site tenant obj : Nat) (fields : List (Nat × Int)) :
    s.collector <+: (s.raise k site tenant obj fields).collector := List.prefix_append _ _

end Sys2Proof.Machine
end

section
/-!
CLAIM O6. The frames of a link that is up (R14, R15, R16, R25, R27).
-/
open Sys2Proof
namespace Sys2Proof.Machine

/-! ### Summaries (R27) -/

/-- The summaries that are being sent lie apart from those received. -/
theorem outside_received_summary (n f : Nat) : Outside [each2 RECEIVED] (SUMMARY n f) := by
  simp only [outside_cons, outside_nil, RECEIVED, SUMMARY, internal, and_true]
  omega

theorem outside_received_linkState (d : Nat) : Outside [each2 RECEIVED] (AMLOR_LINK.LINK_STATE d) := by
  simp only [outside_cons, outside_nil, RECEIVED, AMLOR_LINK.LINK_STATE, internal, and_true]
  omega

theorem State.takeSummary_leaves_received (s : State) (n : Nat) : Leaves [each2 RECEIVED] [] s (s.takeSummary n) :=
  State.takeSummary_leaves n (Leaves.refl s) Inside.refl

theorem State.takeSummary_self (s : State) (n : Nat) {f : Nat} (hf : f < 13) :
    (s.takeSummary n).get (RECEIVED n f) = s.get (SUMMARY n f) := by
  refine forBelow_establishes (Q := fun x => x.get (SUMMARY n f) = s.get (SUMMARY n f))
    (P := fun x => x.get (RECEIVED n f) = s.get (SUMMARY n f)) hf rfl (fun g _ x hx => ?_) (fun x hx => ?_)
    (fun g _ hg x hx => ?_)
  · rw [x.get_set_other, hx]
    simp only [RECEIVED, SUMMARY, internal]
    omega
  · rw [x.get_set_self, hx]
  · rw [x.get_set_other, hx]
    simp only [RECEIVED, internal]
    omega

theorem State.takeSummary_other (s : State) {n m f : Nat} (hm : m ≠ n) (hf : f < 13) :
    (s.takeSummary n).get (RECEIVED m f) = s.get (RECEIVED m f) := by
  refine forBelow_induct (P := fun x => x.get (RECEIVED m f) = s.get (RECEIVED m f)) rfl fun g hg x hx => ?_
  rw [x.get_set_other, hx]
  simp only [RECEIVED, internal]
  omega

/-- The summary of channel n is the same in two states, both the one that is being sent and the one received. -/
structure SameSummary (n f : Nat) (s t : State) : Prop where
  received : t.get (RECEIVED n f) = s.get (RECEIVED n f)
  sent : t.get (SUMMARY n f) = s.get (SUMMARY n f)

theorem SameSummary.takeSummary {s t : State} {n m f : Nat} (h : SameSummary n f s t) (hm : n ≠ m) (hf : f < 13) :
    SameSummary n f s (t.takeSummary m) :=
  ⟨(t.takeSummary_other hm hf).trans h.received,
    ((t.takeSummary_leaves_received m).get_eq (outside_received_summary n f)).trans h.sent⟩

/-- The summaries that the channels of a die send: each but those lost is received. -/
theorem State.takeChannelSummaries (s : State) (d : Nat) (lost : List Nat) {n f : Nat} (hn : dieOf n = d) (hf : f < 13) :
    (forEach ((dieChannels d).filter fun n => !lost.contains n) (fun n s => s.takeSummary n) s).get (RECEIVED n f) =
      if lost.contains n then s.get (RECEIVED n f) else s.get (SUMMARY n f) := by
  cases hl : lost.contains n with
  | true =>
    refine forEach_induct (P := fun x => x.get (RECEIVED n f) = s.get (RECEIVED n f)) rfl fun m hm x hx => ?_
    rw [x.takeSummary_other ?_ hf, hx]
    rintro rfl
    simp only [List.mem_filter, hl, Bool.not_true, Bool.false_eq_true, and_false] at hm
  | false =>
    have hmem : n ∈ (dieChannels d).filter fun n => !lost.contains n := by
      simp only [List.mem_filter, mem_dieChannels, hn, hl, Bool.not_false, and_self]
    refine forEach_establishes (Q := fun x => x.get (SUMMARY n f) = s.get (SUMMARY n f))
      (P := fun x => x.get (RECEIVED n f) = s.get (SUMMARY n f)) hmem ((nodup_dieChannels d).filter _) rfl
      (fun m _ x hx => ?_) (fun x hx => ?_) (fun m _ hm x hx => ?_)
    · rw [(x.takeSummary_leaves_received m).get_eq (outside_received_summary n f), hx]
    · rw [x.takeSummary_self n hf, hx]
    · rw [x.takeSummary_other hm.symm hf, hx]

/-- On two lanes the summaries of all channels of the die come but the lost ones; those of the banks and of the switch block of
CD0, which come first, are none of a channel. -/
theorem State.takeSummaries_received (s : State) {d n f : Nat} (lost : List Nat) (hd : d < 4) (hn : dieOf n = d) (hf : f < 13)
    (hl : s.nat (AMLOR_LINK.LINK_STATE d) = 2) :
    (s.takeSummaries d lost).get (RECEIVED n f) = if lost.contains n then s.get (RECEIVED n f) else s.get (SUMMARY n f) := by
  have hlow : n < 512 := by simp only [dieOf] at hn; omega
  have banks : SameSummary n f s (forBelow 8 (fun b s => s.takeSummary (512 + 8 * d + b)) s) :=
    forBelow_induct ⟨rfl, rfl⟩ fun b _ x hx => hx.takeSummary (by omega) hf
  have banksLink : (forBelow 8 (fun b s => s.takeSummary (512 + 8 * d + b)) s).nat (AMLOR_LINK.LINK_STATE d) = 2 := by
    refine forBelow_induct (P := fun x => x.nat (AMLOR_LINK.LINK_STATE d) = 2) hl fun b _ x hx => ?_
    rw [(x.takeSummary_leaves_received _).nat_eq (outside_received_linkState d), hx]
  unfold State.takeSummaries
  extract_lets u v
  have same : SameSummary n f s v ∧ v.nat (AMLOR_LINK.LINK_STATE d) = 2 := by
    simp only [v]
    split
    · exact ⟨banks.takeSummary (by omega) hf,
        ((u.takeSummary_leaves_received 544).nat_eq (outside_received_linkState d)).trans banksLink⟩
    · exact ⟨banks, banksLink⟩
  obtain ⟨same, link⟩ := same
  simp only [link, Nat.reduceEqDiff, decide_false, Bool.false_and, Bool.false_eq_true, if_false]
  rw [v.takeChannelSummaries d lost hn hf, same.received, same.sent]

/-! ### Uplink frames (R15, R16) -/

theorem State.uplinkFrame_invalid {s : State} {d : Nat} (errors : Nat) (lost : List Nat) (hl : s.live = true)
    (hu : s.linkUp d = true) :
    s.uplinkFrame d false errors lost =
      ((s.addBlockErrors d errors).count (AMLOR_LINK.INVALID_FRAMES d) 0xFFFFFFFF).count (BAD_FRAMES d) 0xFFFF := by
  simp [State.uplinkFrame, hl, hu]

theorem State.uplinkFrame_valid {s : State} {d : Nat} (errors : Nat) (lost : List Nat) (hl : s.live = true)
    (hu : s.linkUp d = true) :
    s.uplinkFrame d true errors lost =
      (((((s.addBlockErrors d errors).setN (BAD_FRAMES d) 0).takeSummaries d lost).fenceReport d
        (s.addBlockErrors d errors).stamp).refTold d) := by
  simp [State.uplinkFrame, hl, hu]

@[simp] theorem State.addBlockErrors_time (s : State) (d n : Nat) : (s.addBlockErrors d n).time = s.time := s.setN_time _ _

@[simp] theorem State.addBlockErrors_landing (s : State) (d n : Nat) : (s.addBlockErrors d n).landing = s.landing :=
  s.setN_landing _ _

@[simp] theorem State.addBlockErrors_staged (s : State) (d n : Nat) : (s.addBlockErrors d n).staged = s.staged :=
  s.setN_staged _ _

@[simp] theorem State.nat_addBlockErrors_self (s : State) (d n : Nat) :
    (s.addBlockErrors d n).nat (AMLOR_LINK.BLOCK_ERRORS d) = satTo 0xFFFFFFFF (s.nat (AMLOR_LINK.BLOCK_ERRORS d) + n) :=
  s.nat_setN_self _ _

theorem State.get_addBlockErrors_other (s : State) {d n k : Nat} (h : k ≠ AMLOR_LINK.BLOCK_ERRORS d) :
    (s.addBlockErrors d n).get k = s.get k := s.get_setN_other _ _ _ h

theorem State.nat_addBlockErrors_other (s : State) {d n k : Nat} (h : k ≠ AMLOR_LINK.BLOCK_ERRORS d) :
    (s.addBlockErrors d n).nat k = s.nat k := s.nat_setN_other h

/-- An invalid uplink frame counts in INVALID_FRAMES and towards the three of R16, and brings no summary. -/
theorem State.uplinkFrame_invalid_counts {s : State} {d : Nat} (errors : Nat) (lost : List Nat) (hl : s.live = true)
    (hu : s.linkUp d = true) :
    let t := s.uplinkFrame d false errors lost
    t.nat (AMLOR_LINK.BLOCK_ERRORS d) = satTo 0xFFFFFFFF (s.nat (AMLOR_LINK.BLOCK_ERRORS d) + errors) ∧
    t.nat (AMLOR_LINK.INVALID_FRAMES d) = satTo 0xFFFFFFFF (s.nat (AMLOR_LINK.INVALID_FRAMES d) + 1) ∧
    t.nat (BAD_FRAMES d) = satTo 0xFFFF (s.nat (BAD_FRAMES d) + 1) ∧
    ∀ n f, t.get (RECEIVED n f) = s.get (RECEIVED n f) := by
  rw [State.uplinkFrame_invalid errors lost hl hu]
  simp (disch := (simp only [AMLOR_LINK.BLOCK_ERRORS, AMLOR_LINK.INVALID_FRAMES, BAD_FRAMES, RECEIVED, internal]; omega)) only
    [State.nat_count_other, State.get_count_other, State.nat_count_self, State.nat_addBlockErrors_self,
      State.nat_addBlockErrors_other, State.get_addBlockErrors_other, implies_true, and_self]

/-- What a valid uplink frame brings after its errors are counted changes what has been received and REF_TOLD alone. -/
theorem State.uplinkBrings_leaves (u : State) (d : Nat) (lost : List Nat) (stamp : Nat) :
    Leaves [each2 RECEIVED, one (REF_TOLD d)] [.collector, .fences] u
      (((u.takeSummaries d lost).fenceReport d stamp).refTold d) :=
  State.refTold_leaves d
    (State.fenceReport_leaves d stamp (State.takeSummaries_leaves d lost (Leaves.refl u) (inBoth inNil)) (by decide))
    (inSkip (inBoth inNil)) (by decide)

theorem State.refTold_received (s : State) (d n f : Nat) : (s.refTold d).get (RECEIVED n f) = s.get (RECEIVED n f) := by
  refine (State.refTold_leaves (L := [.collector]) d (Leaves.refl s) Inside.refl (by decide)).get_eq ?_
  simp only [outside_cons, outside_nil, RECEIVED, REF_TOLD, internal, and_true]
  omega

/-- A valid uplink frame ends the count of R16 and brings the summaries of the channels that are not among the lost ones. -/
theorem State.uplinkFrame_valid_brings {s : State} {d : Nat} (errors : Nat) (lost : List Nat) (hd : d < 4) (hl : s.live = true)
    (hu : s.linkUp d = true) :
    let t := s.uplinkFrame d true errors lost
    t.nat (AMLOR_LINK.BLOCK_ERRORS d) = satTo 0xFFFFFFFF (s.nat (AMLOR_LINK.BLOCK_ERRORS d) + errors) ∧
    t.nat (AMLOR_LINK.INVALID_FRAMES d) = s.nat (AMLOR_LINK.INVALID_FRAMES d) ∧
    t.nat (BAD_FRAMES d) = 0 ∧
    (s.nat (AMLOR_LINK.LINK_STATE d) = 2 → ∀ n f, dieOf n = d → f < 13 →
      t.get (RECEIVED n f) = if lost.contains n then s.get (RECEIVED n f) else s.get (SUMMARY n f)) := by
  rw [State.uplinkFrame_valid errors lost hl hu]
  generalize (s.addBlockErrors d errors).stamp = stamp
  have brings := ((s.addBlockErrors d errors).setN (BAD_FRAMES d) 0).uplinkBrings_leaves d lost stamp
  have before {k : Nat} (hb : k ≠ BAD_FRAMES d) (he : k ≠ AMLOR_LINK.BLOCK_ERRORS d) :
      ((s.addBlockErrors d errors).setN (BAD_FRAMES d) 0).get k = s.get k := by
    rw [State.get_setN_other _ _ _ _ hb, State.get_addBlockErrors_other _ he]
  refine ⟨?_, ?_, ?_, fun two n f hn hf => ?_⟩
  · rw [brings.nat_eq, State.nat_setN_other, State.nat_addBlockErrors_self]
    all_goals simp only [outside_cons, outside_nil, AMLOR_LINK.BLOCK_ERRORS, BAD_FRAMES, RECEIVED, REF_TOLD, internal, and_true]
    all_goals and_intros <;> omega
  · rw [brings.nat_eq, State.nat, before, ← State.nat]
    all_goals simp only [outside_cons, outside_nil, AMLOR_LINK.BLOCK_ERRORS, AMLOR_LINK.INVALID_FRAMES, BAD_FRAMES, RECEIVED,
      REF_TOLD, internal, and_true]
    all_goals and_intros <;> omega
  · rw [brings.nat_eq, State.nat_setN_self]
    simp only [outside_cons, outside_nil, BAD_FRAMES, RECEIVED, REF_TOLD, internal, and_true]
    and_intros <;> omega
  · rw [State.refTold_received]
    refine (State.takeSummaries_received _ lost hd hn hf ?_).trans ?_
    · rw [State.nat, before, ← State.nat, two]
      all_goals simp only [AMLOR_LINK.LINK_STATE, AMLOR_LINK.BLOCK_ERRORS, BAD_FRAMES, internal]
      all_goals omega
    · rw [before, before]
      all_goals simp only [RECEIVED, SUMMARY, AMLOR_LINK.BLOCK_ERRORS, BAD_FRAMES, internal]
      all_goals omega

/-! ### Downlink frames (R15, R25) -/

theorem State.downlinkFrame_valid {s : State} {d : Nat} (errors : Nat) (lost : List Nat) (hl : s.live = true)
    (hu : s.linkUp d = true) :
    s.downlinkFrame d true errors lost = (s.addBlockErrors d errors).downlinkValid d lost := by
  simp [State.downlinkFrame, hl, hu]

theorem State.downlinkFrame_invalid {s : State} {d : Nat} (errors : Nat) (lost : List Nat) (hl : s.live = true)
    (hu : s.linkUp d = true) :
    s.downlinkFrame d false errors lost =
      ((s.addBlockErrors d errors).setN (DL_BAD d) 1).count (AMLOR_LINK.INVALID_FRAMES d) 0xFFFFFFFF := by
  simp [State.downlinkFrame, hl, hu]

/-- What die d notes as a valid downlink frame ends, before it takes the commands: that it heard one now, and the tick. -/
def State.downlinkHeard (s : State) (d : Nat) : State :=
  (((s.setN (LAST_VALID d) s.time).setN (LOSS_STOOD d) 0).setN (DL_BAD d) 0).set (DIE_OFFSET d)
    ((((s.setN (LAST_VALID d) s.time).setN (LOSS_STOOD d) 0).setN (DL_BAD d) 0).get TICK_OFFSET)

/-- The commands `l` of a valid downlink frame are taken, and what it brought is acknowledged. -/
def State.downlinkTaken (s : State) (d : Nat) (l : List Landing) : State :=
  (({ s with landing := l } : State).ackStaging d).resendAcked d

theorem State.downlinkValid_eq (s : State) (d : Nat) (lost : List Nat) :
    s.downlinkValid d lost =
      (s.downlinkHeard d).downlinkTaken d
        (loseCommands ((s.downlinkHeard d).inDownlink d) lost 0 (s.downlinkHeard d).landing) := by
  delta State.downlinkValid State.downlinkHeard State.downlinkTaken
  dsimp only

theorem State.downlinkTaken_get (s : State) (d : Nat) (l : List Landing) {k : Nat} (hk : k ≠ DRIFT_DUE d) :
    (s.downlinkTaken d l).get k = s.get k := by
  unfold State.downlinkTaken State.resendAcked
  split
  · rw [State.get_setN_other _ _ _ _ hk]
    exact State.get_eq_of_regs rfl k
  · exact State.get_eq_of_regs rfl k

theorem State.downlinkTaken_nat (s : State) (d : Nat) (l : List Landing) {k : Nat} (hk : k ≠ DRIFT_DUE d) :
    (s.downlinkTaken d l).nat k = s.nat k := by
  rw [State.nat, s.downlinkTaken_get d l hk, State.nat]

theorem State.downlinkTaken_landing (s : State) (d : Nat) (l : List Landing) : (s.downlinkTaken d l).landing = l := by
  unfold State.downlinkTaken State.resendAcked
  split
  · rw [State.setN_landing]
    rfl
  · rfl

theorem State.inDownlink_eq {s t : State} (h : t.frame = s.frame) (d : Nat) : t.inDownlink d = s.inDownlink d := by
  funext l
  rw [State.inDownlink, State.inDownlink, h]

theorem State.inDownlink_downlinkHeard (s : State) (d : Nat) : (s.downlinkHeard d).inDownlink d = s.inDownlink d :=
  State.inDownlink_eq (by rw [State.downlinkHeard, State.set_frame, State.setN_frame, State.setN_frame, State.setN_frame]) d

theorem State.downlinkHeard_landing (s : State) (d : Nat) : (s.downlinkHeard d).landing = s.landing := by
  rw [State.downlinkHeard, State.set_landing, State.setN_landing, State.setN_landing, State.setN_landing]

theorem State.inDownlink_addBlockErrors (s : State) (d n : Nat) : (s.addBlockErrors d n).inDownlink d = s.inDownlink d :=
  State.inDownlink_eq (s.setN_frame _ _) d

/-- What a valid downlink frame brings: the end of the loss is counted from it, the copy of the tick is corrected, and of the
commands those in discarded blocks are lost. -/
theorem State.downlinkValid_brings (s : State) (d : Nat) (lost : List Nat) :
    let t := s.downlinkValid d lost
    t.nat (LAST_VALID d) = s.time ∧ t.nat (LOSS_STOOD d) = 0 ∧ t.nat (DL_BAD d) = 0 ∧
    t.get (DIE_OFFSET d) = s.get TICK_OFFSET ∧ t.landing = loseCommands (s.inDownlink d) lost 0 s.landing ∧
    t.nat (AMLOR_LINK.INVALID_FRAMES d) = s.nat (AMLOR_LINK.INVALID_FRAMES d) := by
  rw [s.downlinkValid_eq]
  refine ⟨?_, ?_, ?_, ?_, ?_, ?_⟩
  on_goal 5 =>
    rw [State.downlinkTaken_landing, State.inDownlink_downlinkHeard, State.downlinkHeard_landing]
  all_goals
    simp (disch := (
      simp only [LAST_VALID, LOSS_STOOD, DL_BAD, DIE_OFFSET, DRIFT_DUE, TICK_OFFSET, AMLOR_LINK.INVALID_FRAMES, internal]
      omega))
      only [State.downlinkTaken_get, State.downlinkTaken_nat, State.downlinkHeard, State.nat_set_other,
      State.nat_setN_other, State.nat_setN_self, State.get_set_self, State.get_setN_other]

theorem State.downlinkFrame_valid_brings {s : State} {d : Nat} (errors : Nat) (lost : List Nat) (hl : s.live = true)
    (hu : s.linkUp d = true) :
    let t := s.downlinkFrame d true errors lost
    t.nat (LAST_VALID d) = s.time ∧ t.nat (LOSS_STOOD d) = 0 ∧ t.nat (DL_BAD d) = 0 ∧
    t.get (DIE_OFFSET d) = s.get TICK_OFFSET ∧ t.landing = loseCommands (s.inDownlink d) lost 0 s.landing ∧
    t.nat (AMLOR_LINK.INVALID_FRAMES d) = s.nat (AMLOR_LINK.INVALID_FRAMES d) := by
  rw [State.downlinkFrame_valid errors lost hl hu]
  obtain ⟨heard, stood, bad, offset, landing, invalid⟩ := (s.addBlockErrors d errors).downlinkValid_brings d lost
  refine ⟨heard.trans (s.addBlockErrors_time d errors), stood, bad, offset.trans ?_, landing.trans ?_, invalid.trans ?_⟩
  · rw [State.get_addBlockErrors_other]
    simp only [TICK_OFFSET, AMLOR_LINK.BLOCK_ERRORS, internal]
    omega
  · rw [State.inDownlink_addBlockErrors, State.addBlockErrors_landing]
  · rw [State.nat_addBlockErrors_other]
    simp only [AMLOR_LINK.INVALID_FRAMES, AMLOR_LINK.BLOCK_ERRORS]
    omega

/-- An invalid downlink frame counts in INVALID_FRAMES and brings the die nothing. -/
theorem State.downlinkFrame_invalid_counts {s : State} {d : Nat} (errors : Nat) (lost : List Nat) (hl : s.live = true)
    (hu : s.linkUp d = true) :
    let t := s.downlinkFrame d false errors lost
    t.nat (LAST_VALID d) = s.nat (LAST_VALID d) ∧ t.nat (DL_BAD d) = 1 ∧ t.landing = s.landing ∧
    t.nat (AMLOR_LINK.BLOCK_ERRORS d) = satTo 0xFFFFFFFF (s.nat (AMLOR_LINK.BLOCK_ERRORS d) + errors) ∧
    t.nat (AMLOR_LINK.INVALID_FRAMES d) = satTo 0xFFFFFFFF (s.nat (AMLOR_LINK.INVALID_FRAMES d) + 1) ∧
    t.staged = s.staged := by
  rw [State.downlinkFrame_invalid errors lost hl hu]
  simp (disch := (simp only [LAST_VALID, DL_BAD, AMLOR_LINK.BLOCK_ERRORS, AMLOR_LINK.INVALID_FRAMES, internal]; omega)) only
    [State.nat_count_other, State.nat_count_self, State.nat_setN_other, State.nat_setN_self, State.nat_addBlockErrors_self,
      State.nat_addBlockErrors_other, State.addBlockErrors_landing, State.addBlockErrors_staged, State.count_landing,
      State.count_staged, State.setN_landing, State.setN_staged, and_self]

/-! ### Event blocks (R14) -/

theorem State.pon_collector_prefix (s : State) (on : Bool) (cause : Nat) : s.collector <+: (s.pon on cause).collector := by
  unfold State.pon
  split
  · exact List.prefix_rfl
  · simp only [State.raise_collector, State.count_collector, State.setN_collector, State.setFlag_collector,
      List.prefix_append]

theorem State.wakeBy_collector_prefix (s : State) (b : Nat) : s.collector <+: (s.wakeBy b).collector := by
  unfold State.wakeBy State.parkAbort
  split
  · simp only [State.raise_collector, State.count_collector, State.setN_collector, List.prefix_append]
  · split
    · exact List.prefix_rfl
    · simp only [State.setBit_collector, List.prefix_rfl]

theorem State.latchSet_collector_prefix (s : State) (b : Nat) : s.collector <+: (s.latchSet b).collector := by
  unfold State.latchSet
  split
  · exact List.prefix_rfl
  · extract_lets u v w
    have hv : s.collector <+: v.collector := by
      simp only [v]
      split
      · exact u.pon_collector_prefix true 2
      · exact List.prefix_rfl
    have hw : v.collector <+: w.collector := by
      simp only [w]
      split
      · exact State.raise_collector_prefix _ _ _ _ _ _
      · exact List.prefix_rfl
    split
    · exact hv
    · split
      · exact (hv.trans hw).trans (w.wakeBy_collector_prefix b)
      · exact hv.trans hw

theorem State.channelWakes_collector_prefix (s : State) (l : List DieMsg) :
    s.collector <+: (s.channelWakes l).collector := by
  unfold State.channelWakes
  split
  · exact s.latchSet_collector_prefix 8
  · exact List.prefix_rfl

theorem State.eventBlock_some {s : State} {d : Nat} {m : DieMsg} (hl : s.live = true) (hu : s.linkUp d = true)
    (hm : s.dieMsgs.find? (fun x => x.die == d) = some m) :
    s.eventBlock d =
      ({ s with dieMsgs := s.dieMsgs.erase m, collector := s.collector ++ [m.msg] } : State).channelWakes [m] := by
  simp only [State.eventBlock, hl, hu, hm, Bool.not_true, Bool.or_self, Bool.false_eq_true, if_false]

theorem State.channelWakes_dieMsgs (s : State) (l : List DieMsg) : (s.channelWakes l).dieMsgs = s.dieMsgs :=
  (State.channelWakes_leaves (L := [.collector]) l (Leaves.refl s) Inside.refl (by decide)).parts .dieMsgs (by decide)

/-- The oldest message of the die reaches the collector, whatever it wakes behind it; the other messages stay. -/
theorem State.eventBlock_brings {s : State} {d : Nat} {m : DieMsg} (hl : s.live = true) (hu : s.linkUp d = true)
    (hm : s.dieMsgs.find? (fun x => x.die == d) = some m) :
    (s.eventBlock d).dieMsgs = s.dieMsgs.erase m ∧ m.msg ∈ (s.eventBlock d).collector.drop s.collector.length := by
  rw [State.eventBlock_some hl hu hm]
  exact ⟨State.channelWakes_dieMsgs _ _, mem_drop_of_append_prefix (State.channelWakes_collector_prefix _ _) rfl⟩

/-- Settles O6: each kind of frame of a link that is up by the lemma that says what it brings. -/
theorem linkFrames : Obligations.LinkFrames := by
  unfold Obligations.LinkFrames
  refine ⟨fun d errors lost s hl hu => ⟨⟨_, rfl, ?_⟩, ⟨_, rfl, ?_⟩, ⟨_, rfl, ?_⟩, ⟨_, rfl, ?_⟩⟩,
    fun d m s hl hu hm => ⟨_, rfl, State.eventBlock_brings hl hu hm⟩⟩
  · exact State.uplinkFrame_invalid_counts errors lost hl hu
  · exact State.uplinkFrame_valid_brings errors lost d.isLt hl hu
  · exact State.downlinkFrame_valid_brings errors lost hl hu
  · exact State.downlinkFrame_invalid_counts errors lost hl hu

end Sys2Proof.Machine
end

section
/-!
CLAIM O7. Retraining, lanes and clock fall back (R16, R17, R22, R23).
-/
open Sys2Proof
namespace Sys2Proof.Machine

/-! ### Retraining (R16) -/

/-- What the control die holds of the channels as the link goes down (R159) shows in no object and no count of the link. -/
theorem State.seeLast_nat (s : State) (d : Nat) {k : Nat} (hk : Outside [each SEEN] k) :
    (s.seeLast d).nat k = s.nat k :=
  (State.seeLast_leaves (L := []) d (Leaves.refl s) Inside.refl).nat_eq hk

/-- The shadow that a retraining opens and the fences that it excuses lie beside the registers. -/
theorem State.retrainEnds_regs (s : State) (d : Nat) : ((s.openShadow 7 d 0).fenceExcuse d).regs = s.regs := rfl

theorem State.linkRetrain_due {s : State} {d : Nat} (hl : s.live = true) (hu : s.linkUp d = true)
    (hb : 3 ≤ s.nat (BAD_FRAMES d)) :
    let t := s.linkRetrain d
    t.nat (AMLOR_LINK.LINK_STATE d) = 1 ∧
    t.nat (AMLOR_LINK.RETRAINS d) = satTo 0xFFFF (s.nat (AMLOR_LINK.RETRAINS d) + 1) ∧ t.nat (BAD_FRAMES d) = 0 := by
  unfold State.linkRetrain
  rw [if_pos (by simp only [hl, hu, hb, Bool.and_self, decide_true])]
  simp (disch := (
      simp only [outside_cons, outside_nil, AMLOR_LINK.LINK_STATE, AMLOR_LINK.RETRAINS, BAD_FRAMES, SEEN, internal, and_true]
      omega))
    only [State.nat_eq_of_regs (State.retrainEnds_regs _ _), State.nat_setN_other, State.nat_setN_self,
    State.nat_count_other, State.nat_count_self, State.seeLast_nat, and_self]

theorem State.linkRetrain_notDue {s : State} {d : Nat} (hb : s.nat (BAD_FRAMES d) < 3) : s.linkRetrain d = s := by
  simp [State.linkRetrain, hb]

/-! ### Training (R17, R115) -/

theorem State.setClosing_regs (s : State) (cause subject closing : Nat) :
    (s.setClosing cause subject closing).regs = s.regs := rfl

theorem State.setClosing_collector (s : State) (cause subject closing : Nat) :
    (s.setClosing cause subject closing).collector = s.collector := rfl

/-- As the link returns, the stamps of what the die holds are corrected and its standing channels report. -/
def State.linkReturns (s : State) (d : Nat) : State :=
  (forEach (dieChannels d) (fun n s => s.standingReport n)
    ((s.setClosing 7 d (s.stamp + 1000)).correctStamps d)).setN (STAND_TRIGGERS d) 0

/-- The link to die d is up with the given LINK_STATE, before anything is raised. -/
def State.linkSet (s : State) (d v : Nat) : State :=
  ((s.setN (AMLOR_LINK.LINK_STATE d) v).setN (BAD_FRAMES d) 0).setN (DL_BAD d) 0

theorem State.linkTrained_two {s : State} {d : Nat} (hl : s.live = true) (ht : s.nat (AMLOR_LINK.LINK_STATE d) = 1) :
    s.linkTrained d true = ((s.linkSet d 2).linkReturns d).setN (DL_BAD d) 1 := by
  simp only [State.linkTrained, hl, ht, decide_true, Bool.and_self, if_true, State.linkComesUp, State.linkSet,
    State.linkReturns]

theorem State.linkTrained_one {s : State} {d : Nat} (hl : s.live = true) (ht : s.nat (AMLOR_LINK.LINK_STATE d) = 1) :
    s.linkTrained d false =
      (((s.linkSet d 3).raise .LINK_DEGRADED (siteLink d) 0 0 [f8 (d + 1), f8 3]).linkReturns d).setN (DL_BAD d) 1 := by
  simp only [State.linkTrained, hl, ht, decide_true, Bool.and_self, if_true, State.linkComesUp, State.linkSet,
    State.linkReturns, Bool.false_eq_true, if_false]

theorem State.linkReturns_linkState (s : State) (d : Nat) :
    (s.linkReturns d).nat (AMLOR_LINK.LINK_STATE d) = s.nat (AMLOR_LINK.LINK_STATE d) := by
  have corrected : Leaves [one (DIE_OFFSET d)] [.dieMsgs] (s.setClosing 7 d (s.stamp + 1000))
      ((s.setClosing 7 d (s.stamp + 1000)).correctStamps d) :=
    State.correctStamps_leaves d (Leaves.refl _) Inside.refl (by decide)
  have reported (u : State) : Leaves [each STAND_ENTRY, each STAND_EVENTS] [.collector] u
      (forEach (dieChannels d) (fun n s => s.standingReport n) u) :=
    forEach_leaves (Leaves.refl u) fun n x hx =>
      State.standingReport_leaves n hx (STAND_ENTRY_wide (inSkip (STAND_EVENTS_wide inNil))) (by decide)
  rw [State.linkReturns, State.nat_setN_other, (reported _).nat_eq, corrected.nat_eq, State.nat, State.nat,
    State.get_eq_of_regs (s.setClosing_regs _ _ _)]
  all_goals simp only [outside_cons, outside_nil, AMLOR_LINK.LINK_STATE, STAND_ENTRY, STAND_EVENTS, STAND_TRIGGERS, DIE_OFFSET,
    internal, and_true]
  all_goals and_intros <;> omega

theorem State.standingReport_collector_prefix (s : State) (n : Nat) : s.collector <+: (s.standingReport n).collector := by
  unfold State.standingReport
  split
  · extract_lets g u
    split
    · simp only [u, State.setN_collector, State.raise_collector, List.prefix_append]
    · exact List.prefix_rfl
  · exact List.prefix_rfl

theorem State.correctStamps_collector (s : State) (d : Nat) : (s.correctStamps d).collector = s.collector :=
  (State.correctStamps_leaves (L := [.dieMsgs]) d (Leaves.refl s) Inside.refl (by decide)).parts .collector (by decide)

theorem State.linkReturns_collector_prefix (s : State) (d : Nat) : s.collector <+: (s.linkReturns d).collector := by
  rw [State.linkReturns, State.setN_collector]
  refine forEach_induct (P := fun x => s.collector <+: x.collector) ?_ fun n _ x hx =>
    hx.trans (x.standingReport_collector_prefix n)
  rw [State.correctStamps_collector, State.setClosing_collector]

theorem State.linkSet_stamp (s : State) (d v : Nat) : (s.linkSet d v).stamp = s.stamp := by
  refine State.stamp_eq ?_ ?_
  · rw [State.linkSet, State.setN_time, State.setN_time, State.setN_time]
  · rw [State.linkSet, State.get_setN_other, State.get_setN_other, State.get_setN_other]
    all_goals simp only [TICK_OFFSET, DL_BAD, BAD_FRAMES, AMLOR_LINK.LINK_STATE, internal]
    all_goals omega

theorem State.linkSet_collector (s : State) (d v : Nat) : (s.linkSet d v).collector = s.collector := by
  rw [State.linkSet, State.setN_collector, State.setN_collector, State.setN_collector]

theorem State.linkSet_linkState (s : State) (d v : Nat) : (s.linkSet d v).nat (AMLOR_LINK.LINK_STATE d) = v := by
  rw [State.linkSet, State.nat_setN_other, State.nat_setN_other, State.nat_setN_self]
  all_goals simp only [DL_BAD, BAD_FRAMES, AMLOR_LINK.LINK_STATE, internal]
  all_goals omega

theorem State.nat_linkState_setN_dlBad (s : State) (d v : Nat) :
    (s.setN (DL_BAD d) v).nat (AMLOR_LINK.LINK_STATE d) = s.nat (AMLOR_LINK.LINK_STATE d) := by
  rw [State.nat_setN_other]
  simp only [DL_BAD, AMLOR_LINK.LINK_STATE, internal]
  omega

theorem State.linkTrained_two_up {s : State} {d : Nat} (hl : s.live = true) (ht : s.nat (AMLOR_LINK.LINK_STATE d) = 1) :
    (s.linkTrained d true).nat (AMLOR_LINK.LINK_STATE d) = 2 := by
  rw [State.linkTrained_two hl ht, State.nat_linkState_setN_dlBad, State.linkReturns_linkState, State.linkSet_linkState]

theorem State.linkTrained_one_up {s : State} {d : Nat} (hl : s.live = true) (ht : s.nat (AMLOR_LINK.LINK_STATE d) = 1) :
    (s.linkTrained d false).nat (AMLOR_LINK.LINK_STATE d) = 3 := by
  rw [State.linkTrained_one hl ht, State.nat_linkState_setN_dlBad, State.linkReturns_linkState, State.raise_nat,
    State.linkSet_linkState]

/-- On one lane the link is degraded, and says so. -/
theorem State.linkTrained_one_raises {s : State} {d : Nat} (hl : s.live = true) (ht : s.nat (AMLOR_LINK.LINK_STATE d) = 1) :
    Raises s (s.linkTrained d false) .LINK_DEGRADED (siteLink d) 0 [f8 (d + 1), f8 3] := by
  refine Raises.of_prefix (obj := 0) ?_
  rw [State.linkTrained_one hl ht, State.setN_collector, ← s.linkSet_collector d 3, ← s.linkSet_stamp d 3]
  exact State.linkReturns_collector_prefix ((s.linkSet d 3).raise .LINK_DEGRADED (siteLink d) 0 0 [f8 (d + 1), f8 3]) d

/-! ### The root clock (R22) -/

theorem State.rootFalls_eq {s : State} (cause : Nat) (hl : s.live = true) (hr : s.nat CLOCK_STATUS.ROOT_SOURCE ≠ 2) :
    s.rootFalls cause =
      ((s.setN CLOCK_STATUS.ROOT_SOURCE 2).count CLOCK_STATUS.FALLBACK_COUNT 0xFFFF).raise .CLOCK_FALLBACK siteRoot 0 0
        [f8 cause, f8 (s.nat CLOCK_STATUS.ROOT_SOURCE)] := by
  simp only [State.rootFalls, hl, hr, Bool.not_true, decide_false, Bool.or_self, Bool.false_eq_true, if_false]

/-- The root falls back to the internal oscillator: it is counted, and the record says why and from what. -/
theorem State.rootFalls_to_internal {s : State} (cause : Nat) (hl : s.live = true) (hr : s.nat CLOCK_STATUS.ROOT_SOURCE ≠ 2) :
    let t := s.rootFalls cause
    t.nat CLOCK_STATUS.ROOT_SOURCE = 2 ∧
    t.nat CLOCK_STATUS.FALLBACK_COUNT = satTo 0xFFFF (s.nat CLOCK_STATUS.FALLBACK_COUNT + 1) ∧
    Raises s t .CLOCK_FALLBACK siteRoot 0 [f8 cause, f8 (s.nat CLOCK_STATUS.ROOT_SOURCE)] := by
  rw [State.rootFalls_eq cause hl hr]
  refine ⟨?_, ?_, Raises.of_prefix (obj := 0) ?_⟩
  · rw [State.raise_nat, State.nat_count_other _ (by decide), State.nat_setN_self]
  · rw [State.raise_nat, State.nat_count_self, State.nat_setN_other _ (by decide)]
  · have now : ((s.setN CLOCK_STATUS.ROOT_SOURCE 2).count CLOCK_STATUS.FALLBACK_COUNT 0xFFFF).stamp = s.stamp :=
      State.stamp_eq (by rw [State.count_time, State.setN_time])
        (by rw [State.get_count_other _ (by decide), State.get_setN_other _ _ _ _ (by decide)])
    rw [State.raise_collector, State.count_collector, State.setN_collector, now]

theorem State.rootChecked_far {s : State} {ppm : Int} (h : 70000 < ppm.natAbs) : s.rootChecked ppm = s.rootFalls 1 := by
  rw [State.rootChecked, if_neg (by omega), if_pos h]

theorem State.rootChecked_near {s : State} {ppm : Int} (h : ppm.natAbs ≤ 30000) : s.rootChecked ppm = s := by
  rw [State.rootChecked, if_pos h]

/-! ### The reference of a die (R23) -/

theorem State.dieRefLost_source (s : State) (d : Nat) : (s.dieRefLost d).nat (AMLOR_LINK.DIE_REF_SOURCE d) = 1 := by
  unfold State.dieRefLost
  split
  next h => exact h
  next =>
    extract_lets u
    split
    · exact State.nat_setN_self _ _ _
    · rw [State.nat_setN_other, State.nat_setN_self]
      simp only [AMLOR_LINK.DIE_REF_SOURCE, REF_TOLD, internal]
      omega

/-- Outside Park the loss is still to be told. -/
theorem State.dieRefLost_told {s : State} {d : Nat} (hl : s.live = true) (hr : s.nat (AMLOR_LINK.DIE_REF_SOURCE d) ≠ 1)
    (hp : s.nat PARK_STAGE ≠ 2) : (s.dieRefLost d).nat (REF_TOLD d) = 1 := by
  have running : s.nat DEV_STATE = 1 := by simpa only [State.live, beq_iff_eq] using hl
  have same {k : Nat} (hk : k ≠ AMLOR_LINK.DIE_REF_SOURCE d) : (s.setN (AMLOR_LINK.DIE_REF_SOURCE d) 1).nat k = s.nat k :=
    s.nat_setN_other hk
  unfold State.dieRefLost
  rw [if_neg hr]
  simp only
  rw [same, same, if_neg, State.nat_setN_self]
  · simp only [running, hp, Nat.reduceEqDiff, decide_false, Bool.or_self, Bool.false_eq_true, not_false_eq_true]
  all_goals simp only [AMLOR_LINK.DIE_REF_SOURCE, PARK_STAGE, DEV_STATE, internal]
  all_goals omega

theorem State.linkUp_of_linkState {s : State} {d v : Nat} (h : s.nat (AMLOR_LINK.LINK_STATE d) = v) (hv : 2 ≤ v) :
    s.linkUp d = true := by
  simp only [State.linkUp, h, hv, decide_true]

/-- Settles O7: retraining, training and the clocks, each by the lemma that says what the event makes of its condition. -/
theorem linkTrainingAndClocks : Obligations.LinkTrainingAndClocks := by
  unfold Obligations.LinkTrainingAndClocks
  refine ⟨fun d s hl => ⟨fun hu hb => ⟨_, rfl, State.linkRetrain_due hl hu hb⟩, fun hb => ?_, fun ht => ⟨?_, ?_⟩⟩,
    fun d ppm s hl hr => ⟨?_, fun far => ?_, fun near => ?_, ?_⟩⟩
  · exact congrArg Host.Outcome.next (State.linkRetrain_notDue hb)
  · exact ⟨_, rfl, State.linkTrained_two_up hl ht, State.linkUp_of_linkState (State.linkTrained_two_up hl ht) (by decide)⟩
  · exact ⟨_, rfl, State.linkTrained_one_up hl ht, State.linkUp_of_linkState (State.linkTrained_one_up hl ht) (by decide),
      State.linkTrained_one_raises hl ht⟩
  · exact ⟨_, rfl, State.rootFalls_to_internal 0 hl hr⟩
  · obtain ⟨source, -, raised⟩ := State.rootFalls_to_internal 1 hl hr
    exact ⟨_, congrArg Host.Outcome.next (State.rootChecked_far far), source, raised⟩
  · exact congrArg Host.Outcome.next (State.rootChecked_near near)
  · exact ⟨_, rfl, s.dieRefLost_source d, State.dieRefLost_told hl⟩

end Sys2Proof.Machine
end

section
/-!
CLAIM O8. What makes a channel die stand (R16, R89, R112, R113, R118): the clause on the return of the logic does not ask that
the dies are out of reset.
-/
open Sys2Proof
namespace Sys2Proof.Machine

/-- The logic of die d does not return while the channel dies are held in reset (R268). -/
theorem exec_anchorBrownout_held {s : State} (d : Die) (h : s.flag DIES_HELD = true) :
    exec (.anchorBrownout d) s = .next s :=
  congrArg Host.Outcome.next (if_pos h)

/-- The control die runs and the logic of CD0 is off, with the channel dies still in reset: so the block stands after a full reset
whose opening hangs before the dies are released. -/
def heldDies : State := (State.reset.setN (LOGIC_OFF 0) 1).setN DEV_STATE 1

theorem heldDies_held : heldDies.flag DIES_HELD = true := by decide +kernel

theorem heldDies_logicOff : heldDies.flag (LOGIC_OFF 0) = true := by decide +kernel

theorem heldDies_running : heldDies.nat DEV_STATE = 1 := by decide +kernel

/-- Refutes O8: with the channel dies held in reset, ANCHOR_BROWNOUT of CD0 leaves the state as it is, its logic off. -/
theorem not_diesStand : ¬ Obligations.DiesStand := by
  unfold Obligations.DiesStand
  intro h
  obtain ⟨-, -, -, returns, -⟩ := h 0 heldDies
  obtain ⟨t, ht, on, -⟩ := returns heldDies_logicOff heldDies_running
  rw [exec_anchorBrownout_held 0 heldDies_held] at ht
  obtain rfl : heldDies = t := by injection ht
  exact Bool.noConfusion (heldDies_logicOff.symm.trans on)

end Sys2Proof.Machine
end

section
/-!
CLAIM O10. A round of a bank and the publication of what it measured (R24, R27, R87, R97, R101, R103).
-/
open Sys2Proof
namespace Sys2Proof.Machine

/-! ### What a sample is made from (R101, R422) -/

/-- The registers from which a round judges and converts the slots of channel n. -/
def sampleInputs (n : Nat) : List Nat :=
  [CHANNEL_CONFIG.SHUNT_RESISTANCE n, CHANNEL_CONFIG.SHUNT_TEMPCO n, CHANNEL_STATUS.SHUNT_TEMP n, CHANNEL_CONFIG.SHUNT_REF_TEMP n,
    CELL n, THERMAL_DIE.DIE_STATE (dieOf n + 1)]

/-- The inputs of channel n are the same in two states. -/
def SameInputs (n : Nat) (s t : State) : Prop := ∀ k ∈ sampleInputs n, t.get k = s.get k

theorem SameInputs.shuntSet {n : Nat} {s t : State} (h : SameInputs n s t) : t.shuntSet n = s.shuntSet n := by
  rw [State.shuntSet, State.shuntSet, State.nat, State.nat, h (CHANNEL_CONFIG.SHUNT_RESISTANCE n) (by simp [sampleInputs])]

theorem SameInputs.currentOf {n : Nat} {s t : State} (h : SameInputs n s t) (x : Int) : t.currentOf n x = s.currentOf n x := by
  rw [State.currentOf, State.currentOf, h.shuntSet, State.rsh, State.rsh,
    h (CHANNEL_CONFIG.SHUNT_RESISTANCE n) (by simp [sampleInputs]), h (CHANNEL_CONFIG.SHUNT_TEMPCO n) (by simp [sampleInputs]),
    h (CHANNEL_STATUS.SHUNT_TEMP n) (by simp [sampleInputs]), h (CHANNEL_CONFIG.SHUNT_REF_TEMP n) (by simp [sampleInputs])]

theorem SameInputs.slotSkipped {n : Nat} {s t : State} (h : SameInputs n s t) (r : Nat) :
    t.slotSkipped n r = s.slotSkipped n r := by
  rw [State.slotSkipped, State.slotSkipped, State.cell, State.cell, State.nat, State.nat, State.nat, State.nat,
    h (CELL n) (by simp [sampleInputs]), h (THERMAL_DIE.DIE_STATE (dieOf n + 1)) (by simp [sampleInputs])]

/-- Where the inputs lie: under subindexes that the operations of a round write in no object, or among the cell states. -/
theorem sampleInputs_lie {n k : Nat} (h : k ∈ sampleInputs n) : k % 256 ≤ 5 ∨ k % 256 = 13 ∨ k % 1048576 = 1023 := by
  simp only [sampleInputs, List.mem_cons, List.not_mem_nil, or_false, CHANNEL_CONFIG.SHUNT_RESISTANCE,
    CHANNEL_CONFIG.SHUNT_TEMPCO, CHANNEL_STATUS.SHUNT_TEMP, CHANNEL_CONFIG.SHUNT_REF_TEMP, CELL, THERMAL_DIE.DIE_STATE,
    internal] at h
  omega

/-- A channel's slots change the inputs of no channel, its own among them. -/
theorem SameInputs.sampleChannel {n : Nat} {s t : State} (h : SameInputs n s t) (m r : Nat) (vsh vload : Int) :
    SameInputs n s (t.sampleChannel m r vsh vload) := by
  intro k hk
  refine ((State.sampleChannel_leaves (L := [.collector, .dieMsgs]) m r vsh vload (Leaves.refl t) Inside.refl
    (by decide)).get_eq ?_).trans (h k hk)
  have lie := sampleInputs_lie hk
  simp only [outside_cons, outside_nil, OVER_NOW, PWM_CNT, PWM_SQ, RESET_OUTPUT.ASSERT_COUNT, RESET_OUTPUT.LAST_CHANGE_STAMP,
    RESET_OUTPUT.OUTPUT, RSO_GOOD_SINCE, SAMPLE_I, SAMPLE_V, SLOT_SKIPPED, WIN, WIN_ACC, WIN_COUNT, WIN_LAST, internal, and_true]
  and_intros <;> omega

theorem SameInputs.overrange (s : State) (n m : Nat) (i : Int) : SameInputs n s (s.overrange m i) := by
  intro k hk
  refine (State.overrange_leaves (L := [.dieMsgs]) m i (Leaves.refl s) Inside.refl (by decide)).get_eq ?_
  have lie := sampleInputs_lie hk
  simp only [outside_cons, outside_nil, OVER_NOW, internal, and_true]
  omega

/-! ### Samples (R97) -/

/-- Sample r of channel n holds a load voltage and a current. -/
structure Sampled (n r : Nat) (v i : Int) (s : State) : Prop where
  voltage : s.get (SAMPLE_V n r) = v
  current : s.get (SAMPLE_I n r) = i

/-- An operation that leaves both registers of the sample leaves what they hold. -/
theorem Sampled.leaves {W : List Span} {L : List Part} {n r : Nat} {v i : Int} {s t : State} (h : Sampled n r v i s)
    (l : Leaves W L s t) (hv : Outside W (SAMPLE_V n r)) (hi : Outside W (SAMPLE_I n r)) : Sampled n r v i t :=
  ⟨(l.get_eq hv).trans h.voltage, (l.get_eq hi).trans h.current⟩

/-- Channel n in a round whose shunt voltage may lie at full scale. -/
def State.overrangeSeen (s : State) (n : Nat) (x : Int) : State :=
  if fullScale ≤ x || x ≤ -fullScale then s.overrange n (s.currentOf n x) else s

theorem SameInputs.overrangeSeen (s : State) (n : Nat) (x : Int) : SameInputs n s (s.overrangeSeen n x) := by
  unfold State.overrangeSeen
  split
  · exact SameInputs.overrange s n n _
  · exact fun _ _ => rfl

theorem State.sampleChannel_unskipped {s : State} {n r : Nat} (vsh vload : Int) (h : s.slotSkipped n r = false) :
    s.sampleChannel n r vsh vload =
      ((((s.overrangeSeen n (clampInt (-fullScale) fullScale vsh)).set (SAMPLE_I n r)
        (if (s.overrangeSeen n (clampInt (-fullScale) fullScale vsh)).shuntSet n then
          s.currentOf n (clampInt (-fullScale) fullScale vsh) else 0)).set (SAMPLE_V n r) (clampInt (-50000) 650000 vload)).pwmSample
        n (s.currentOf n (clampInt (-fullScale) fullScale vsh))).judgeRound n (clampInt (-50000) 650000 vload) false (r == 4) := by
  unfold State.sampleChannel State.overrangeSeen
  dsimp only
  rw [h, if_neg Bool.false_ne_true]

/-- A slot that is not skipped converts its load voltage and, with a shunt, its current. -/
theorem State.sampleChannel_converts {s : State} {n r : Nat} (vsh vload : Int) (h : s.slotSkipped n r = false) :
    Sampled n r (clampInt (-50000) 650000 vload)
      (if s.shuntSet n then s.currentOf n (clampInt (-fullScale) fullScale vsh) else 0) (s.sampleChannel n r vsh vload) := by
  rw [State.sampleChannel_unskipped vsh vload h, (SameInputs.overrangeSeen s n _).shuntSet]
  generalize s.overrangeSeen n _ = u
  generalize s.currentOf n _ = i
  have stored (v j : Int) : Sampled n r v j ((u.set (SAMPLE_I n r) j).set (SAMPLE_V n r) v) := by
    refine ⟨State.get_set_self _ _ _, ?_⟩
    rw [State.get_set_other, State.get_set_self]
    simp only [SAMPLE_I, SAMPLE_V, internal]
    omega
  refine ((stored _ _).leaves (State.pwmSample_leaves (L := []) n i (Leaves.refl _) Inside.refl) ?_ ?_).leaves
    (State.judgeRound_leaves (L := [.collector, .dieMsgs]) n _ false (r == 4) (Leaves.refl _) Inside.refl (by decide)) ?_ ?_
  all_goals
    simp only [outside_cons, outside_nil, PWM_CNT, PWM_SQ, RESET_OUTPUT.ASSERT_COUNT, RESET_OUTPUT.LAST_CHANGE_STAMP,
      RESET_OUTPUT.OUTPUT, RSO_GOOD_SINCE, SAMPLE_I, SAMPLE_V, WIN, WIN_ACC, WIN_COUNT, WIN_LAST, internal, and_true]
    and_intros <;> omega

/-- The slots of another channel leave the samples of this one. -/
theorem Sampled.sampleChannel_other {n m r : Nat} {v i : Int} {s : State} (h : Sampled n r v i s) (hm : m ≠ n)
    (vsh vload : Int) : Sampled n r v i (s.sampleChannel m r vsh vload) := by
  refine h.leaves (State.sampleChannel_leaves (L := [.collector, .dieMsgs]) m r vsh vload (Leaves.refl s) Inside.refl (by decide))
    ?_ ?_
  all_goals
    simp only [outside_cons, outside_nil, OVER_NOW, PWM_CNT, PWM_SQ, RESET_OUTPUT.ASSERT_COUNT, RESET_OUTPUT.LAST_CHANGE_STAMP,
      RESET_OUTPUT.OUTPUT, RSO_GOOD_SINCE, SAMPLE_I, SAMPLE_V, SLOT_SKIPPED, WIN, WIN_ACC, WIN_COUNT, WIN_LAST, internal, and_true]
    and_intros <;> omega

/-! ### The rest of a round: buses, captures, the switch block -/

theorem Sampled.sampleBus {n r : Nat} {v i : Int} {s : State} (h : Sampled n r v i s) (k : Nat) (vbus headroom : Int) :
    Sampled n r v i (s.sampleBus k vbus headroom) := by
  refine h.leaves (State.sampleBus_leaves (L := [.dieMsgs]) k vbus headroom (Leaves.refl s) Inside.refl (by decide)) ?_ ?_
  all_goals
    simp only [outside_cons, outside_nil, BANK.BANK_FLAGS, BLANK_UNTIL, CHANNEL_PROTECTION.MODEL_FLAGS, GATE, HEAD_LAST, HEAD_SUM,
      LAMP_AT, PUMP_START, PUMP_STOP_AT, PWM_HELD, PWM_HIGH, RISE_AT, VBUS_CNT, VBUS_LAST, VBUS_SUM, SAMPLE_I, SAMPLE_V, internal,
      and_true]
    and_intros <;> omega

theorem Sampled.captureRound {n r : Nat} {v i : Int} {s : State} (h : Sampled n r v i s) (k round : Nat)
    (vsh vload : List Int) (vbus : Int) : Sampled n r v i (s.captureRound k round vsh vload vbus) := by
  refine h.leaves (State.captureRound_leaves (L := []) k round vsh vload vbus (Leaves.refl s) Inside.refl) ?_ ?_
  all_goals
    simp only [outside_cons, outside_nil, CAP_RING, SAMPLE_I, SAMPLE_V, internal, and_true]
    omega

theorem Sampled.sampleSwitch {n r : Nat} {v i : Int} {s : State} (h : Sampled n r v i s) (bswb bswn asv : Int) :
    Sampled n r v i (s.sampleSwitch bswb bswn asv) := by
  refine h.leaves (State.sampleSwitch_leaves (L := []) bswb bswn asv (Leaves.refl s) Inside.refl) ?_ ?_
  all_goals
    simp only [outside_cons, outside_nil, BATTERY_SWITCH.FORWARD, BSW_CNT, BSW_SUM, SW_ON_AT, SAMPLE_I, SAMPLE_V, internal,
      and_true]
    and_intros <;> omega

theorem Sampled.roundEnds {n r : Nat} {v i : Int} {s : State} (h : Sampled n r v i s) (k rounds : Nat) :
    Sampled n r v i (s.setN (ROUND_NO k) rounds) := by
  refine ⟨(s.get_setN_other _ _ _ ?_).trans h.voltage, (s.get_setN_other _ _ _ ?_).trans h.current⟩
  all_goals
    simp only [ROUND_NO, SAMPLE_I, SAMPLE_V, internal]
    omega

/-! ### A round of a bank (R97) -/

/-- The sixteen channels of bank k convert in round r. -/
def State.sampleBank (s : State) (k r : Nat) (vsh vload : List Int) : State :=
  forBelow 16 (fun i s => s.sampleChannel (16 * k + i) r (vsh.getD i 0) (vload.getD i 0)) s

/-- What round r takes beside the samples of the channels. -/
def State.sampleRest (s : State) (k r : Nat) (vsh vload : List Int) (vbus headroom bswb bswn asv : Int) : State :=
  let sampled := (if s.oddRound r then s.sampleBus k vbus headroom else s).captureRound k r vsh vload vbus
  if k = 0 then sampled.sampleSwitch bswb bswn asv else sampled

theorem State.round_due {s : State} {k : Nat} (vsh vload : List Int) (vbus headroom bswb bswn asv : Int)
    (hr : s.nat (ROUND_NO k) < 5) (ht : 4 * s.nat (ROUND_NO k) ≤ s.tick % 20) (hl : s.flag (LOGIC_OFF (k / 8)) = false) :
    s.round k vsh vload vbus headroom bswb bswn asv =
      (((s.sampleBank k (s.nat (ROUND_NO k)) vsh vload).sampleRest k (s.nat (ROUND_NO k)) vsh vload vbus headroom bswb bswn
        asv).setN (ROUND_NO k) (s.nat (ROUND_NO k) + 1)) := by
  have due : ¬((decide (5 ≤ s.nat (ROUND_NO k)) || decide (s.tick % 20 < 4 * s.nat (ROUND_NO k)) ||
      s.flag (LOGIC_OFF (k / 8))) = true) := by
    simp only [hl, Bool.or_false, Bool.or_eq_true, decide_eq_true_eq]
    omega
  unfold State.round State.sampleBank State.sampleRest
  dsimp only
  rw [if_neg due]

theorem State.round_over {s : State} {k : Nat} (vsh vload : List Int) (vbus headroom bswb bswn asv : Int)
    (hr : 5 ≤ s.nat (ROUND_NO k)) : s.round k vsh vload vbus headroom bswb bswn asv = s := by
  rw [State.round, if_pos]
  simp only [hr, decide_true, Bool.true_or]

/-- In the loop over the bank each channel whose slots are not skipped is sampled, from what the round met. -/
theorem State.sampleBank_samples (s : State) {k r i : Nat} (vsh vload : List Int) (hi : i < 16)
    (h : s.slotSkipped (16 * k + i) r = false) :
    Sampled (16 * k + i) r (clampInt (-50000) 650000 (vload.getD i 0))
      (if s.shuntSet (16 * k + i) then s.currentOf (16 * k + i) (clampInt (-fullScale) fullScale (vsh.getD i 0)) else 0)
      (s.sampleBank k r vsh vload) := by
  refine forBelow_establishes (Q := SameInputs (16 * k + i) s) hi (fun _ _ => rfl)
    (fun j _ x hx => hx.sampleChannel _ r _ _) (fun x hx => ?_) (fun j _ hj x hx => hx.sampleChannel_other (by omega) _ _)
  rw [← hx.shuntSet, ← hx.currentOf]
  exact State.sampleChannel_converts _ _ ((hx.slotSkipped r).trans h)

theorem Sampled.sampleRest {n r : Nat} {v i : Int} {s : State} (h : Sampled n r v i s) (k round : Nat) (vsh vload : List Int)
    (vbus headroom bswb bswn asv : Int) :
    Sampled n r v i (s.sampleRest k round vsh vload vbus headroom bswb bswn asv) := by
  have bus : Sampled n r v i (if s.oddRound round then s.sampleBus k vbus headroom else s) := by
    split
    · exact h.sampleBus k vbus headroom
    · exact h
  unfold State.sampleRest
  dsimp only
  split
  · exact (bus.captureRound _ _ _ _ _).sampleSwitch _ _ _
  · exact bus.captureRound _ _ _ _ _

/-! ### Publication (R27, R103) -/

theorem State.publish_none {s : State} {n : Nat} (h : s.nat (RECEIVED n 12) = 0) : s.publish n = s := if_pos h

/-- The instants, the means, the RMS and the frame of the summary received are shown. -/
def State.showSummary (s : State) (n : Nat) : State :=
  (((((s.set (CHANNEL_STATUS.I_INST n) (s.get (RECEIVED n 0))).set (CHANNEL_STATUS.V_INST n) (s.get (RECEIVED n 1))).set
    (CHANNEL_STATUS.I_MEAN n) (s.get (RECEIVED n 2))).set (CHANNEL_STATUS.V_MEAN n) (s.get (RECEIVED n 3))).set
    (CHANNEL_STATUS.I_RMS n) (s.get (RECEIVED n 4))).set (CHANNEL_STATUS.MEAS_FRAME n) (s.get (RECEIVED n 11))

/-- The rises of the models, the overrange flag and the peaks of a summary `r` are shown; `own`: the current has a shunt. -/
def State.showModels (s : State) (n : Nat) (r : Nat → Int) (own : Bool) : State :=
  forBelow 16 (fun t s => (onlyIf own (fun s => s.takePeak (CHANNEL_STATUS.I_PEAK n t) (r 6)) s).takePeak
    (CHANNEL_STATUS.V_PEAK n t) (r 7))
    ((onlyIf (r 9 != notAvailable .i32) (fun s => s.set (CHANNEL_PROTECTION.FET_TEMP n) (r 9))
      (onlyIf (r 8 != notAvailable .i32) (fun s => s.set (CHANNEL_PROTECTION.WIRE_RISE n) (r 8)) s)).setChFlag n
        FLAG.CURRENT_OVERRANGE (r 10 != 0))

/-- The summary is marked as published, and what looks at published values looks at them. -/
def State.publishEnds (s : State) (n : Nat) : State := ((s.setN (RECEIVED n 12) 0).lampFrame n).dischargeSeen n

theorem State.publish_some {s : State} {n : Nat} (h : s.nat (RECEIVED n 12) ≠ 0) :
    s.publish n = (((s.showSummary n).showModels n (fun f => s.get (RECEIVED n f)) (s.shuntSet n)).publishEnds n) := by
  rw [State.publish, if_neg h]
  simp only [State.showSummary, State.showModels, State.publishEnds, onlyIf, bne_iff_ne, ne_eq, ite_not]

theorem State.showModels_leaves (s : State) (n : Nat) (r : Nat → Int) (own : Bool) :
    Leaves [one (CHANNEL_PROTECTION.WIRE_RISE n), one (CHANNEL_PROTECTION.FET_TEMP n), one (CHANNEL_STATUS.FLAGS n),
      each2 CHANNEL_STATUS.I_PEAK, each2 CHANNEL_STATUS.V_PEAK] [] s (s.showModels n r own) := by
  unfold State.showModels
  refine forBelow_leaves (State.setChFlag_leaves _ _ _ (onlyIf_leaves (onlyIf_leaves (Leaves.refl s) fun x hx => ?_)
    fun x hx => ?_) (inSkip (inSkip (inBoth inNil)))) fun t x hx => State.takePeak_leaves _ _ (onlyIf_leaves hx fun y hy =>
      State.takePeak_leaves _ _ hy ?_) ?_
  · exact State.set_leaves hx Covered.here
  · exact State.set_leaves hx Covered.here.next
  · exact CHANNEL_STATUS.I_PEAK_in.next.next.next
  · exact CHANNEL_STATUS.V_PEAK_in.next.next.next.next

theorem State.publishEnds_leaves (s : State) (n : Nat) :
    Leaves [one (LAMP_LOW n), one (ND_GROUP n), one (WIN n)] [] (s.setN (RECEIVED n 12) 0) (s.publishEnds n) :=
  State.dischargeSeen_leaves n (State.lampFrame_leaves n (Leaves.refl _) (inBoth inNil)) (inSkip (inBoth (inBoth inNil)))

theorem State.publishEnds_received (s : State) (n : Nat) : (s.publishEnds n).nat (RECEIVED n 12) = 0 := by
  rw [(s.publishEnds_leaves n).nat_eq, State.nat_setN_self]
  simp only [outside_cons, outside_nil, LAMP_LOW, ND_GROUP, WIN, RECEIVED, internal, and_true]
  and_intros <;> omega

/-- The objects of the channel status that a summary fills, at the subindexes 3 to 7 and 10, stay as shown. -/
theorem State.publish_shows {s : State} {n k : Nat} (h : s.nat (RECEIVED n 12) ≠ 0)
    (hk : 3 ≤ k % 256 ∧ k % 256 ≤ 7 ∨ k % 256 = 10) : (s.publish n).get k = (s.showSummary n).get k := by
  rw [State.publish_some h, (State.publishEnds_leaves _ n).get_eq, State.get_setN_other,
    (State.showModels_leaves _ n _ _).get_eq]
  all_goals
    simp only [outside_cons, outside_nil, CHANNEL_PROTECTION.WIRE_RISE, CHANNEL_PROTECTION.FET_TEMP, CHANNEL_STATUS.FLAGS,
      CHANNEL_STATUS.I_PEAK, CHANNEL_STATUS.V_PEAK, LAMP_LOW, ND_GROUP, WIN, RECEIVED, internal, and_true]
    and_intros <;> omega

/-- What has been received of a channel is published, and only once. -/
theorem State.publish_publishes {s : State} {n : Nat} (h : s.nat (RECEIVED n 12) ≠ 0) :
    let t := s.publish n
    t.get (CHANNEL_STATUS.I_INST n) = s.get (RECEIVED n 0) ∧ t.get (CHANNEL_STATUS.V_INST n) = s.get (RECEIVED n 1) ∧
    t.get (CHANNEL_STATUS.I_MEAN n) = s.get (RECEIVED n 2) ∧ t.get (CHANNEL_STATUS.V_MEAN n) = s.get (RECEIVED n 3) ∧
    t.get (CHANNEL_STATUS.I_RMS n) = s.get (RECEIVED n 4) ∧ t.get (CHANNEL_STATUS.MEAS_FRAME n) = s.get (RECEIVED n 11) ∧
    t.nat (RECEIVED n 12) = 0 ∧ t.publish n = t := by
  have once : (s.publish n).nat (RECEIVED n 12) = 0 := by
    rw [State.publish_some h, State.publishEnds_received]
  refine ⟨?_, ?_, ?_, ?_, ?_, ?_, once, State.publish_none once⟩
  all_goals
    rw [State.publish_shows h (by
      simp only [CHANNEL_STATUS.I_INST, CHANNEL_STATUS.V_INST, CHANNEL_STATUS.I_MEAN, CHANNEL_STATUS.V_MEAN,
        CHANNEL_STATUS.I_RMS, CHANNEL_STATUS.MEAS_FRAME]
      omega)]
    simp (disch := (simp only [CHANNEL_STATUS.I_INST, CHANNEL_STATUS.V_INST, CHANNEL_STATUS.I_MEAN, CHANNEL_STATUS.V_MEAN,
      CHANNEL_STATUS.I_RMS, CHANNEL_STATUS.MEAS_FRAME]; omega)) only [State.showSummary, State.get_set_self, State.get_set_other]

/-- Settles O10: a due round by the loop over its bank, and a publication by what it shows. -/
theorem measurement : Obligations.Measurement := by
  unfold Obligations.Measurement
  refine ⟨fun k vsh vload vbus head bswb bswn asv s hl => ⟨fun hr ht => ⟨_, rfl, ?_⟩, fun hr => ?_⟩,
    fun n s => ⟨State.publish_publishes, State.publish_none⟩⟩
  · have due := State.round_due vsh vload vbus head bswb bswn asv hr ht hl
    rw [due]
    refine ⟨State.nat_setN_self _ _ _, fun i hi unskipped => ?_⟩
    obtain ⟨voltage, current⟩ := ((s.sampleBank_samples vsh vload hi unskipped).sampleRest k.val (s.nat (ROUND_NO k)) vsh vload
      vbus head bswb bswn asv).roundEnds k.val (s.nat (ROUND_NO k) + 1)
    exact ⟨voltage, current⟩
  · exact congrArg Host.Outcome.next (State.round_over vsh vload vbus head bswb bswn asv hr)

end Sys2Proof.Machine
end

section
/-!
SUPPORT. Writes that meet nothing which turns them away: an access that arrives counts its frame and leaves every check as it is, and
a write that passes all of them has its effect, counts in the access load, and is answered.
-/
open Sys2Proof
namespace Sys2Proof.Machine

/-- Register k is none of those that count the frames arriving at a port. -/
def Uncounted (k : Nat) : Prop := k ≠ CAN_PORT.RX_FRAMES 0 ∧ k ≠ CAN_PORT.RX_FRAMES 1 ∧ k ≠ SPI_PORT.FRAMES

theorem uncounted_iff {k : Nat} : Uncounted k ↔ k ≠ 0x22000B ∧ k ≠ 0x22010B ∧ k ≠ 0x220C01 := Iff.rfl

/-- w is s but for the frame counters of the ports. -/
structure FrameCounted (s w : State) : Prop where
  get : ∀ k, Uncounted k → w.get k = s.get k
  time : w.time = s.time
  frame : w.frame = s.frame
  landing : w.landing = s.landing
  staged : w.staged = s.staged
  barriers : w.barriers = s.barriers
  heldWrites : w.heldWrites = s.heldWrites

theorem FrameCounted.refl (s : State) : FrameCounted s s := ⟨fun _ _ => rfl, rfl, rfl, rfl, rfl, rfl, rfl⟩

theorem FrameCounted.wrapCount (s : State) {k : Nat} (n : Nat) (h : ∀ x, Uncounted x → x ≠ k) :
    FrameCounted s (s.wrapCount k n) :=
  ⟨fun x hx => s.get_set_other _ _ _ (h x hx), rfl, rfl, rfl, rfl, rfl, rfl⟩

/-- An access that arrives counts its frame, and no more. -/
theorem State.accessArrives_counted (s : State) (ep : Endpoint) : FrameCounted s (s.accessArrives ep) := by
  cases ep with
  | can p node =>
    refine FrameCounted.wrapCount s 32 fun x hx => ?_
    match p with
    | 0 => exact hx.1
    | 1 => exact hx.2.1
  | spi cs => exact FrameCounted.wrapCount s 32 fun x hx => hx.2.2
  | pcie f => exact FrameCounted.refl s
  | twoWire a => exact FrameCounted.refl s

section
variable {s w : State} (h : FrameCounted s w)
include h

theorem FrameCounted.tenantAt (ep : Endpoint) : w.tenantAt ep = s.tenantAt ep := by
  simp (disch := (simp only [uncounted_iff, TENANT.ENDPOINT, TENANT.ADMITTED]; omega)) only
    [State.tenantAt, State.attachedTo, State.admitted, State.flag, State.nat, h.get]
  rfl

theorem FrameCounted.inSession (ep : Endpoint) : w.inSession ep = s.inSession ep := by
  simp (disch := (simp only [uncounted_iff, USDO_OPEN, internal]; omega)) only
    [State.inSession, h.tenantAt, State.flag, h.get]
  rfl

theorem FrameCounted.barrierEnd (t : Nat) : w.barrierEnd t = s.barrierEnd t := by
  simp only [State.barrierEnd, h.barriers]

theorem FrameCounted.mustWait (x : HeldWrite) (hx : x.form ≠ .rpdo) : w.mustWait x = s.mustWait x := by
  simp only [State.mustWait, State.queues, hx, if_false, State.barrierFull, h.tenantAt, h.barrierEnd, h.landing]

theorem FrameCounted.nat {k : Nat} (hk : 0x220C02 ≤ k) : w.nat k = s.nat k := by
  simp (disch := (simp only [uncounted_iff]; omega)) only [State.nat, h.get]

theorem FrameCounted.dieDelay {d : Nat} (hd : d < 4) : w.dieDelay d = s.dieDelay d := by
  simp (disch := (simp only [uncounted_iff, AMLOR_LINK.LINK_STATE]; omega)) only [State.dieDelay, State.nat, h.get]
  rfl

theorem FrameCounted.linkUp {d : Nat} (hd : d < 4) : w.linkUp d = s.linkUp d := by
  simp (disch := (simp only [uncounted_iff, AMLOR_LINK.LINK_STATE]; omega)) only [State.linkUp, State.nat, h.get]
  rfl

/-! The objects of the tenants, 0x2300 to 0x230F, and the deal that they hold. -/

theorem FrameCounted.tenant (t i : Nat) : w.nat ((0x2300 + t) * 256 + i) = s.nat ((0x2300 + t) * 256 + i) := h.nat (by omega)

theorem FrameCounted.channels (t i : Nat) : w.nat (TENANT.CHANNELS t i) = s.nat (TENANT.CHANNELS t i) := h.nat (by simp only [TENANT.CHANNELS]; omega)

theorem FrameCounted.trumpHeld (t i : Nat) : w.nat (TENANT.TRUMP_HELD t i) = s.nat (TENANT.TRUMP_HELD t i) := h.nat (by simp only [TENANT.TRUMP_HELD]; omega)

theorem FrameCounted.isKibitzer (t : Nat) : w.isKibitzer t = s.isKibitzer t := by
  simp (disch := (simp only [uncounted_iff, TENANT.KIBITZER]; omega)) only [State.isKibitzer, State.flag, h.get]

theorem FrameCounted.holderOfChannel (n : Nat) : w.holderOfChannel n = s.holderOfChannel n := by
  simp only [State.holderOfChannel, State.dealtTo, State.bit, h.channels]

theorem FrameCounted.holderOfConverter (m : Nat) : w.holderOfConverter m = s.holderOfConverter m := by
  simp only [State.holderOfConverter, State.dealtTo, State.bit, h.tenant]

theorem FrameCounted.holderOfPair (p : Nat) : w.holderOfPair p = s.holderOfPair p := by
  simp only [State.holderOfPair, State.dealtTo, State.bit, h.tenant]

theorem FrameCounted.holderOfGroup (g : Nat) : w.holderOfGroup g = s.holderOfGroup g := by
  simp only [State.holderOfGroup, State.dealtTo, State.bit, h.tenant]

theorem FrameCounted.holderOfBudget (g : Nat) : w.holderOfBudget g = s.holderOfBudget g := by
  simp only [State.holderOfBudget, State.dealtTo, State.bit, h.tenant]

theorem FrameCounted.holderOfStream (d : Nat) : w.holderOfStream d = s.holderOfStream d := by
  simp only [State.holderOfStream, State.dealtTo, State.bit, h.tenant]

theorem FrameCounted.dealtTarget (g : Nat) : w.dealtTarget g = s.dealtTarget g := by
  simp only [State.dealtTarget, State.dealtTo, State.bit, h.tenant]

theorem FrameCounted.holderOfTarget (g : Nat) : w.holderOfTarget g = s.holderOfTarget g := by
  simp only [State.holderOfTarget, h.dealtTarget, h.isKibitzer]

theorem FrameCounted.holderOfRing (q : Nat) : w.holderOfRing q = s.holderOfRing q := by
  simp only [State.holderOfRing, State.dealtRing, State.ringInRange, h.tenant, h.isKibitzer]
  rfl

theorem FrameCounted.streamOfDescriptor (k : Nat) : w.streamOfDescriptor k = s.streamOfDescriptor k := by
  have base (d : Nat) : w.nat (STREAM.DESC_BASE d) = s.nat (STREAM.DESC_BASE d) := h.nat (by simp only [STREAM.DESC_BASE]; omega)
  have count (d : Nat) : w.nat (STREAM.DESC_COUNT d) = s.nat (STREAM.DESC_COUNT d) := h.nat (by simp only [STREAM.DESC_COUNT]; omega)
  simp only [State.streamOfDescriptor, base, count]

theorem FrameCounted.pdoOwner (x : Nat) : w.pdoOwner x = s.pdoOwner x := by
  have owner {k : Nat} (hk : 0x220401 ≤ k) (hk' : k < 0x220C00) : w.nat k = s.nat k := by
    simp (disch := (simp only [uncounted_iff]; omega)) only [State.nat, h.get]
  unfold State.pdoOwner
  dsimp only
  rw [owner, owner, owner, owner]
  all_goals
    simp only [PDO_OWNER.RPDO_CAN0, PDO_OWNER.RPDO_CAN1, PDO_OWNER.TPDO_CAN0, PDO_OWNER.TPDO_CAN1]
    omega

theorem FrameCounted.ownerOf (a : Nat) : w.ownerOf a = s.ownerOf a := by
  have lane (l : Nat) : w.nat (LANE.CONVERTER l) = s.nat (LANE.CONVERTER l) := h.nat (by simp only [LANE.CONVERTER]; omega)
  have capture (k : Nat) : w.nat (BANK.CAPTURE_OWNER k) = s.nat (BANK.CAPTURE_OWNER k) := h.nat (by simp only [BANK.CAPTURE_OWNER]; omega)
  simp only [State.ownerOf, h.pdoOwner, h.holderOfTarget, h.holderOfStream, h.streamOfDescriptor, State.holderOfLane, lane,
    h.holderOfConverter, h.holderOfChannel, capture, h.holderOfBudget, h.holderOfGroup, h.holderOfPair, h.holderOfRing]

theorem FrameCounted.trumpHolds (n : Nat) : w.trumpHolds n = s.trumpHolds n := by
  simp only [State.trumpHolds, State.bit, h.trumpHeld, h.holderOfChannel, h.landing]

theorem FrameCounted.mayAct (t a : Nat) : w.mayAct t a = s.mayAct t a := by
  have capture (k : Nat) : w.nat (BANK.CAPTURE_OWNER k) = s.nat (BANK.CAPTURE_OWNER k) := h.nat (by simp only [BANK.CAPTURE_OWNER]; omega)
  simp only [State.mayAct, h.holderOfChannel, capture, h.holderOfPair, h.holderOfConverter, h.holderOfTarget, h.dealtTarget,
    h.holderOfRing]

theorem FrameCounted.kibitzerMayWrite (t a : Nat) : w.kibitzerMayWrite t a = s.kibitzerMayWrite t a := by
  simp only [State.kibitzerMayWrite, h.dealtTarget]

theorem FrameCounted.mayWrite (t a : Nat) (acc : Acc) : w.mayWrite t a acc = s.mayWrite t a acc := by
  simp only [State.mayWrite, h.isKibitzer, h.kibitzerMayWrite, h.ownerOf, h.trumpHolds, h.mayAct]

theorem FrameCounted.accessCheck (t : Option Nat) (via : Via) (a : Nat) (acc : Acc) :
    w.accessCheck t via a acc = s.accessCheck t via a acc := by
  have state (t : Nat) : w.nat (WATCHDOG.WD_STATE t) = s.nat (WATCHDOG.WD_STATE t) := h.nat (by simp only [WATCHDOG.WD_STATE]; omega)
  have mode (t : Nat) : w.nat (AUTH_POLICY.AUTH_MODE_TN t) = s.nat (AUTH_POLICY.AUTH_MODE_TN t) := h.nat (by simp only [AUTH_POLICY.AUTH_MODE_TN]; omega)
  simp only [State.accessCheck, h.isKibitzer, h.kibitzerMayWrite, h.mayWrite, state, mode]

theorem FrameCounted.writeCheck (t : Option Nat) (via : Via) (a : Nat) (b : List Byte) :
    w.writeCheck t via a b = s.writeCheck t via a b := by
  simp only [State.writeCheck, h.accessCheck]

theorem FrameCounted.planRuns (p : Nat) : w.planRuns p = s.planRuns p := by
  have state : w.nat (ofPlan p OPENING_PLAN.PLAN_STATE) = s.nat (ofPlan p OPENING_PLAN.PLAN_STATE) :=
    h.nat (by simp only [ofPlan, OPENING_PLAN.PLAN_STATE]; omega)
  simp only [State.planRuns, state]

theorem FrameCounted.resolveCheck (p v : Nat) : w.resolveCheck p v = s.resolveCheck p v := by
  have step (i : Nat) : w.nat (ofPlan p (OPENING_STEP_STATE.STATE i)) = s.nat (ofPlan p (OPENING_STEP_STATE.STATE i)) :=
    h.nat (by simp only [ofPlan, OPENING_STEP_STATE.STATE]; omega)
  simp only [State.resolveCheck, h.planRuns, State.stepState, step]

theorem FrameCounted.tailCheck (d v : Nat) : w.tailCheck d v = s.tailCheck d v := by
  have stream (i : Nat) : w.nat ((0x2A10 + d) * 256 + i) = s.nat ((0x2A10 + d) * 256 + i) := h.nat (by omega)
  simp only [State.tailCheck, State.descCount, State.dsHead, stream]
  rfl

theorem FrameCounted.valueCheck (t a : Nat) (v : Int) (b : List Byte) : w.valueCheck t a v b = s.valueCheck t a v b := by
  have vout (m : Nat) : w.voutTooHigh m v = s.voutTooHigh m v := by
    simp (disch := (simp only [uncounted_iff, CONVERTER.TRUNC_LEVEL, CONVERTER.TRUNC_HYST]; omega)) only [State.voutTooHigh, h.get]
  simp only [State.valueCheck, vout, h.tailCheck, h.resolveCheck, State.fenceCheck, State.fenceOutside, h.tenant]

theorem FrameCounted.resetPending (t : Nat) : w.resetPending t = s.resetPending t := by
  simp only [State.resetPending, h.landing]

theorem FrameCounted.committing (t : Nat) : w.committing t = s.committing t := by
  have status : w.nat (COMMIT_CONTROL.STATUS t) = s.nat (COMMIT_CONTROL.STATUS t) :=
    h.nat (by simp only [COMMIT_CONTROL.STATUS]; omega)
  simp only [State.committing, status]

theorem FrameCounted.swapOf (n : Nat) : w.swapOf n = s.swapOf n := by
  have state (p : Nat) : w.nat (CASTLING_PAIR.SWAP_STATE p) = s.nat (CASTLING_PAIR.SWAP_STATE p) :=
    h.nat (by simp only [CASTLING_PAIR.SWAP_STATE]; omega)
  have into (p : Nat) : w.nat (SWAP_IN p) = s.nat (SWAP_IN p) := h.nat (by simp only [SWAP_IN, internal]; omega)
  have out (p : Nat) : w.nat (SWAP_OUT p) = s.nat (SWAP_OUT p) := h.nat (by simp only [SWAP_OUT, internal]; omega)
  simp only [State.swapOf, State.swapIn, State.swapOut, state, into, out]

theorem FrameCounted.descBusy (k : Nat) : w.descBusy k = s.descBusy k := by
  have stream (d i : Nat) : w.nat ((0x2A10 + d) * 256 + i) = s.nat ((0x2A10 + d) * 256 + i) := h.nat (by omega)
  have run (d : Nat) : w.nat (inForce (STREAM.RUN d)) = s.nat (inForce (STREAM.RUN d)) :=
    h.nat (by simp only [inForce, STREAM.RUN]; omega)
  have busy : w.nat DMA_BUSY = s.nat DMA_BUSY := h.nat (by simp only [DMA_BUSY, internal]; omega)
  have slots : w.nat DMA_SLOTS = s.nat DMA_SLOTS := h.nat (by simp only [DMA_SLOTS, internal]; omega)
  simp only [State.descBusy, h.streamOfDescriptor, State.dsRuns, State.offsetsTo, State.descOf, State.descCount, State.dsHead,
    stream, run, busy, slots]

theorem FrameCounted.unitRefuses (a : Nat) (v : Int) : w.unitRefuses a v = s.unitRefuses a v := by
  have swap (p : Nat) : w.nat (CASTLING_PAIR.SWAP_STATE p) = s.nat (CASTLING_PAIR.SWAP_STATE p) :=
    h.nat (by simp only [CASTLING_PAIR.SWAP_STATE]; omega)
  have conv (m : Nat) : w.nat (CONVERTER_STATUS.STATE m) = s.nat (CONVERTER_STATUS.STATE m) :=
    h.nat (by simp only [CONVERTER_STATUS.STATE]; omega)
  have assist : w.get ASSIST_STATUS.ASSIST_STATE = s.get ASSIST_STATUS.ASSIST_STATE :=
    h.get _ (by simp [uncounted_iff, ASSIST_STATUS.ASSIST_STATE])
  have clock : w.nat RTC.RTC_FLAGS = s.nat RTC.RTC_FLAGS := h.nat (by simp [RTC.RTC_FLAGS])
  have link : 0x3000 ≤ a / 256 → a / 256 < 0x3200 →
      w.linkUp (dieOf (a / 256 - 0x3000)) = s.linkUp (dieOf (a / 256 - 0x3000)) := fun _ _ => h.linkUp (by unfold dieOf; omega)
  unfold State.unitRefuses
  simp only [h.swapOf, swap, State.conv, conv, h.descBusy, h.planRuns, State.flag, assist, State.rtcFlag, State.bit, clock]
  split
  · next hc =>
    simp only [Bool.and_eq_true, decide_eq_true_eq] at hc
    rw [link hc.1 hc.2]
  · rfl

theorem FrameCounted.live : w.live = s.live := by
  have state : w.nat DEV_STATE = s.nat DEV_STATE := h.nat (by simp only [DEV_STATE, internal]; omega)
  simp only [State.live, state]

theorem FrameCounted.engineRefuses : w.engineRefuses = s.engineRefuses := by
  simp (disch := (simp only [uncounted_iff, IDENTITY_DATA.IDENTITY_STATE, SECURITY_STATUS.RANDOM_STATE]; omega)) only
    [State.engineRefuses, State.flag, h.get]

theorem FrameCounted.parkRefused : w.parkRefused = s.parkRefused := by
  simp (disch := (simp only [uncounted_iff, OPENING_PLAN.PLAN_STATE, ENDGAME_PLAN.PLAN_STATE, OPENING_STATUS.OPENING_STATE,
      PARK_STAGE, WAKE_CONFIG.WAKE_LATCHED, WAKE_CONFIG.WAKE_ENABLE, WAKE_CONFIG.WAKE_SENSE, WAKE_CONFIG.WAKE_POLARITY,
      WAKE_CONFIG.WAKE_LEVEL, BACK_ENABLE, BACK_SENSE, BACK_POLARITY, internal]; omega)) only
    [State.parkRefused, h.committing, State.wakeEnable, State.wakeSense, State.wakeActive, State.wakePolarity, h.live,
      State.bit, State.nat, h.get]

theorem FrameCounted.coreRefuses (t a : Nat) : w.coreRefuses t a = s.coreRefuses t a := by
  simp (disch := (simp only [uncounted_iff, OPENING_STATUS.OPENING_STATE, CONTROLLER_TRANSFER.TRANSFER_RESULT, inForce,
      TWO_WIRE_BUS.ROLE, SECURITY_STATUS.RANDOM_STATE, ATTEST_CONTROL.ATTEST_STATE, SESSION_CONTROL.SESSION_STATE,
      WATCHDOG.WD_STATE, WATCHDOG.ADJOURN_USED, PARK_STAGE, internal]; omega)) only
    [State.coreRefuses, h.parkRefused, State.twRole, State.adjournRefused, State.wdJudged, h.live, h.resetPending,
      h.engineRefuses, State.flag, State.nat, h.get]

theorem FrameCounted.stateCheck (t a : Nat) (r : Sub) (v : Int) : w.stateCheck t a r v = s.stateCheck t a r v := by
  have stop : w.get STOP_RUNS = s.get STOP_RUNS := h.get _ (by simp [uncounted_iff, STOP_RUNS, internal])
  simp only [State.stateCheck, h.resetPending, h.committing, State.flag, stop, h.unitRefuses, h.coreRefuses]
  rfl

end

/-! ### A write that meets nothing (R33 to R35) -/

/-- What a write of v, spelt b, to the object of `r` does once every check has passed (R34). -/
def State.writeEffect (s : State) (t addr : Nat) (r : Sub) (v : Int) (b : List Byte) : Option Abort × State :=
  if r.acc = .wo then s.writeAction t addr v b
  else if r.cls = .staged then s.writeStaged t addr v
  else (none, s.writeImmediate t addr r v b)

/-- The object is neither of a watchdog, which first lets what is due happen, nor an envelope, which makes another write. -/
def WritesPlainly (addr : Nat) : Prop :=
  ¬(0x2600 ≤ addr / 256 ∧ addr / 256 < 0x2610) ∧ addr ≠ SESSION_CONTROL.AUTH_WRITE 0 ∧
    addr ≠ SESSION_CONTROL.AUTH_READ_REQUEST 0

section
variable {s t : State} {ep : Endpoint} {u : Nat} {form : WriteForm} {addr : Nat} {v : Int} {b : List Byte} {r : Sub}

theorem Accepts.writeWith (h : Accepts s ep u form addr v b) (hr : subAt addr = some r) (plain : WritesPlainly addr)
    (inner : State → Option Abort × State) :
    (s.accessArrives ep).writeWith inner u form.via addr b = (s.accessArrives ep).writeEffect u addr r v b := by
  obtain ⟨wd, env, env'⟩ := plain
  have counted := s.accessArrives_counted ep
  have wd : ¬((decide (0x2600 ≤ addr / 256) && decide (addr / 256 < 0x2610)) = true) := by
    simpa only [Bool.and_eq_true, decide_eq_true_eq] using wd
  unfold State.writeWith
  dsimp only
  rw [if_neg wd, counted.writeCheck, h.checks, hr]
  dsimp only
  rw [if_neg (by simp only [env, env', decide_false, Bool.or_false, Bool.false_eq_true, not_false_eq_true])]
  unfold State.writeChecked
  dsimp only
  rw [← h.spells r hr, counted.valueCheck, counted.stateCheck, h.value, h.state r hr]
  rfl

theorem Accepts.takeWrite (h : Accepts s ep u form addr v b) (hr : subAt addr = some r) (plain : WritesPlainly addr)
    (hform : form ≠ .rpdo) (he : (s.accessArrives ep).writeEffect u addr r v b = (none, t)) :
    (s.accessArrives ep).takeWrite ⟨ep, form, addr, b⟩ = (t.countMoved addr b).writeAnswered ep form b.length none := by
  have counted := s.accessArrives_counted ep
  have free : (s.accessArrives ep).waits ⟨ep, form, addr, b⟩ = false := by
    rw [State.waits, counted.mustWait ⟨ep, form, addr, b⟩ hform, h.free.1, counted.heldWrites, Bool.false_or, List.any_eq_false]
    exact fun x hx => by simpa only [beq_iff_eq] using h.free.2 x hx
  have written : (s.accessArrives ep).writeBy (some u) form.via addr b = (none, t.countMoved addr b) := by
    unfold State.writeBy State.writeAs
    dsimp only
    rw [h.writeWith hr plain, he]
  unfold State.takeWrite State.performWrite State.answerWrite
  dsimp only
  rw [if_neg (by rw [free]; decide), if_neg hform, counted.tenantAt, h.tenant, h.fits.2, if_neg Bool.false_ne_true, written]

/-- A slot of BAR0 is one access of its object. -/
theorem State.windowWrite_slot (s : State) (f : Func) (ha : addr < 2 ^ 24) (hb : b.length ≤ 8) :
    s.windowWrite f addr b = s.takeWrite ⟨.pcie f, .object, addr, b⟩ := by
  have one : max 1 ((b.length + 7) / 8) = 1 := by omega
  have object : windowObject (windowOffset addr + 8 * 0) = some addr := by
    unfold windowObject windowOffset
    rw [if_pos (by simp only [Bool.and_eq_true, decide_eq_true_eq]; omega)]
    congr 1
    omega
  have whole : slice b (8 * 0) 8 = b := List.take_of_length_le hb
  unfold State.windowWrite
  rw [if_neg (by omega), one]
  show (match windowObject (windowOffset addr + 8 * 0) with
    | some o => s.takeWrite ⟨.pcie f, .object, o, slice b (8 * 0) 8⟩
    | none => s) = _
  rw [object, whole]

/-- A write that meets nothing has its effect, counts in the access load, and is answered. -/
theorem Accepts.hostWrite (h : Accepts s ep u form addr v b) (hr : subAt addr = some r) (plain : WritesPlainly addr)
    (ha : addr < 2 ^ 24) (hform : form ≠ .rpdo) (he : (s.accessArrives ep).writeEffect u addr r v b = (none, t)) :
    s.hostWrite ep form addr b = (t.countMoved addr b).writeAnswered ep form b.length none := by
  have taken := h.takeWrite hr plain hform he
  have session := (s.accessArrives_counted ep).inSession ep
  rw [h.session] at session
  unfold State.hostWrite
  rw [h.up, if_neg (by decide)]
  cases ep with
  | can p node =>
    dsimp only
    rw [session]
    exact taken
  | pcie f =>
    dsimp only
    split
    · next object =>
      subst object
      rw [State.windowWrite_slot _ f ha (of_decide_eq_true (h.slot rfl)), taken]
    · exact taken
  | spi cs =>
    dsimp only
    rw [h.fits.1, if_neg Bool.false_ne_true, taken]
  | twoWire a =>
    dsimp only
    rw [h.fits.1, if_neg Bool.false_ne_true, taken]

end
end Sys2Proof.Machine
end

section
/-!
CLAIM O51 and O52. What a host's write of a value or of an action leaves: it waits to land, and is answered.
-/
open Sys2Proof
namespace Sys2Proof.Machine
/-! ### What a write leaves (R33, R34) -/

/-- The object is none of the die links, the CAN ports, SPI, the watchdogs and the sessions, whose registers an access reads or
counts in. -/
def ordinary (addr : Nat) : Bool :=
  addr < 2 ^ 24 && !(0x2012 ≤ addr / 256 && addr / 256 < 0x2016) && !(0x2200 ≤ addr / 256 && addr / 256 ≤ 0x220C) &&
    !(0x2600 ≤ addr / 256 && addr / 256 < 0x2610) && addr / 256 != 0x2802

theorem ordinary_iff {addr : Nat} : ordinary addr = true ↔
    addr < 2 ^ 24 ∧ ¬(0x2012 ≤ addr / 256 ∧ addr / 256 < 0x2016) ∧ ¬(0x2200 ≤ addr / 256 ∧ addr / 256 ≤ 0x220C) ∧
      ¬(0x2600 ≤ addr / 256 ∧ addr / 256 < 0x2610) ∧ addr / 256 ≠ 0x2802 := by
  simp only [ordinary, Bool.and_eq_true, decide_eq_true_eq, Bool.not_eq_true', Bool.and_eq_false_iff, decide_eq_false_iff_not,
    bne_iff_ne]
  tauto

theorem writesPlainly_of_ordinary {addr : Nat} (h : ordinary addr = true) : WritesPlainly addr := by
  obtain ⟨-, -, -, wd, session⟩ := ordinary_iff.1 h
  simp only [WritesPlainly, SESSION_CONTROL.AUTH_WRITE, SESSION_CONTROL.AUTH_READ_REQUEST]
  omega

theorem outside_portKeys {addr : Nat} (h : ordinary addr = true) (ep : Endpoint) : Outside (one LOAD_ACCESS :: portKeys ep) addr := by
  obtain ⟨size, -, port, -, -⟩ := ordinary_iff.1 h
  cases ep with
  | can p node =>
    have := p.isLt
    simp only [portKeys, outside_cons, outside_nil, LOAD_ACCESS, CAN_PORT.RX_FRAMES, CAN_PORT.TX_FRAMES, internal, and_true]
    and_intros <;> omega
  | _ =>
    simp only [portKeys, outside_cons, outside_nil, LOAD_ACCESS, SPI_PORT.FRAMES, PT_RESULT, FRAME_RESP, internal, and_true]
    and_intros <;> omega

theorem heldDie_lt {addr d : Nat} (h : heldDie addr = some d) : d < 4 := by
  unfold heldDie at h
  grind

theorem actionDie_lt {addr d : Nat} (h : actionDie addr = some d) : d < 4 := by
  unfold actionDie at h
  grind

theorem twoWire_low (a : Nat) : endpointCode (.twoWire a) % 256 = a % 256 := by
  show (5 * 4096 + a % 256) % 256 = a % 256
  omega

section
variable {r s t : State} {W : List Span} {L : List Part}

/-- An access counts at its port as it arrives. -/
theorem State.accessArrives_leaves_port (s : State) (ep : Endpoint) : Leaves (portKeys ep) L s (s.accessArrives ep) := by
  cases ep with
  | can p node => exact State.wrapCount_leaves (Leaves.refl s) Covered.here
  | spi cs => exact State.wrapCount_leaves (Leaves.refl s) Covered.here
  | _ => exact Leaves.refl s

/-- An accepted write is answered at its port. -/
theorem State.writeAnswered_leaves_port (s : State) (ep : Endpoint) {form : WriteForm} (hform : form ≠ .window) (n : Nat) :
    Leaves (portKeys ep) [.resp] s (s.writeAnswered ep form n none) := by
  have answered {W : List Span} (x : State) (a : Resp) : Leaves W [.resp] x (x.answer a) :=
    State.answer_leaves a (Leaves.refl x) (by decide)
  cases ep with
  | can p node => exact (State.wrapCount_leaves (Leaves.refl s) Covered.here.next).trans (answered _ _)
  | pcie f =>
    unfold State.writeAnswered
    dsimp only
    rw [if_neg hform]
    exact answered s _
  | spi cs => exact answered s _
  | twoWire a =>
    unfold State.writeAnswered State.respond
    dsimp only
    rw [twoWire_low]
    exact (State.setBlob_leaves (Leaves.refl s) Covered.here).trans (answered _ _)

theorem State.writeAnswered_answered (s : State) (ep : Endpoint) {form : WriteForm} (hform : form ≠ .window) (n : Nat) :
    Answered (s.writeAnswered ep form n none) ep := by
  cases ep with
  | can p node => rfl
  | pcie f =>
    unfold State.writeAnswered
    dsimp only
    rw [if_neg hform]
    rfl
  | spi cs => rfl
  | twoWire a =>
    refine ⟨rfl, ?_⟩
    unfold State.writeAnswered State.respond
    dsimp only
    rw [twoWire_low]
    exact (State.blob_setBlob_self s (FRAME_RESP (a % 256)) (leBytes 1 0 ++ [])).trans rfl

/-- What comes after the effect of an accepted write changes nothing but the access load, the port and the answer. -/
theorem State.answered_leaves (s : State) (ep : Endpoint) {form : WriteForm} (hform : form ≠ .window) (addr : Nat) (b : List Byte) (n : Nat) :
    Leaves (one LOAD_ACCESS :: portKeys ep) [.resp] s ((s.countMoved addr b).writeAnswered ep form n none) :=
  (State.countMoved_leaves addr b (Leaves.refl s) (inBoth inNil)).trans
    ((State.writeAnswered_leaves_port _ ep hform n).mono (inSkip Inside.refl) (fun _ h => h))

theorem State.accept_lands {s x : State} {u : Nat} {act : LandAct} (landing : x.landing = s.landing) (frame : x.frame = s.frame)
    (time : x.time = s.time) (barriers : x.barriers = s.barriers)
    (die : ∀ d, landDie act = some d → x.dieDelay d = s.dieDelay d) : Lands s (x.accept u act) u act := by
  have delay (n : Nat) : x.barrierDelay u n = s.barrierDelay u n := by
    simp only [State.barrierDelay, State.barrierEnd, barriers, frame]
  unfold Lands State.accept
  dsimp only
  rw [State.land_landing, landing, frame, time, delay]
  cases hd : landDie act with
  | none => rfl
  | some d => dsimp only; rw [die d hd]
end
/-! ### Writes of values and of actions -/

/-- The object at an address holds a number that a write sets at once (R35). -/
def holdsValue (addr : Nat) : Bool :=
  ordinary addr && (subAt addr).any fun r => r.acc != .wo && r.cls != .staged && !r.ty.isString

/-- The object at an address is an action. -/
def isAction (addr : Nat) : Bool := ordinary addr && (subAt addr).any fun r => r.acc == .wo

/-- The object at an address is an action that lands with its value (R34, R503). -/
def landsAction (addr : Nat) : Bool := isAction addr && landsLater addr && addr != OPENING_STATUS.OPENING_RESUME

section
variable {c : Instr} {s : State} {ep : Endpoint} {u addr : Nat} {v : Int} {b : List Byte}

theorem State.accessArrives_dieDelay (s : State) (ep : Endpoint) {act : LandAct} (d : Nat) (h : landDie act = some d)
    (hact : (∃ k x, act = .value k x) ∨ ∃ k x, act = .action k x) : (s.accessArrives ep).dieDelay d = s.dieDelay d := by
  refine (s.accessArrives_counted ep).dieDelay ?_
  obtain ⟨k, x, rfl⟩ | ⟨k, x, rfl⟩ := hact
  · exact heldDie_lt h
  · exact actionDie_lt h

/-- R34, R35: a value that is accepted reads back at once and lands later. -/
theorem writesValue {form : WriteForm} (hc : exec c s = .next (s.hostWrite ep form addr b)) (hform : form = .object ∨ form = .bell)
    (ha : holdsValue addr = true) : WritesValue c s ep u form addr v b := by
  intro h
  obtain ⟨ord, obj⟩ := Bool.and_eq_true_iff.1 ha
  obtain ⟨size, link, -⟩ := ordinary_iff.1 ord
  obtain ⟨r, hr, kind⟩ := (Option.any_eq_true _ _).1 obj
  simp only [Bool.and_eq_true, bne_iff_ne, Bool.not_eq_true'] at kind
  obtain ⟨⟨acc, cls⟩, number⟩ := kind
  have away : form ≠ .rpdo ∧ form ≠ .window := by rcases hform with rfl | rfl <;> decide
  have counted := s.accessArrives_counted ep
  set w := s.accessArrives ep with hw
  have effect : w.writeEffect u addr r v b = (none, (w.set addr v).accept u (.value addr v)) := by
    unfold State.writeEffect State.writeImmediate
    rw [if_neg acc, if_neg cls, number, if_neg Bool.false_ne_true]
  have written := h.hostWrite hr (writesPlainly_of_ordinary ord) size away.1 effect
  have lands : Lands s ((w.set addr v).accept u (.value addr v)) u (.value addr v) := by
    refine State.accept_lands counted.landing counted.frame counted.time counted.barriers fun d hd => ?_
    rw [← s.accessArrives_dieDelay ep d hd (.inl ⟨_, _, rfl⟩), ← hw]
    have := heldDie_lt hd
    have other : AMLOR_LINK.LINK_STATE d ≠ addr := by
      simp only [AMLOR_LINK.LINK_STATE]
      omega
    simp only [State.dieDelay, State.nat_set_other _ other]
  have tail := State.answered_leaves ((w.set addr v).accept u (.value addr v)) ep away.2 addr b b.length
  refine ⟨_, hc.trans (congrArg _ written), ?_, ?_, State.writeAnswered_answered _ ep away.2 _, ?_⟩
  · rw [tail.get_eq (outside_portKeys ord ep)]
    exact (State.land_get _ _ _ _ _).trans (State.get_set_self _ _ _)
  · exact (tail.parts .landing (by decide)).trans lands
  · have set : Leaves (one addr :: one LOAD_ACCESS :: portKeys ep) [.landing, .resp] s (w.set addr v) :=
      State.set_leaves ((State.accessArrives_leaves_port (L := []) s ep).mono (inSkip (inSkip Inside.refl)) (by decide)) Covered.here
    exact (State.accept_leaves u _ set (by decide)).trans (tail.mono (inSkip Inside.refl) (by decide))

/-- R34, R503: an action that is accepted as `act`, from a state that differs from s in what L names, lands later. -/
theorem Accepts.landsLater {x : State} {act : LandAct} {L : List Part} (h : Accepts s ep u .object addr v b)
    (hc : exec c s = .next (s.hostWrite ep .object addr b)) (ha : isAction addr = true)
    (effect : (s.accessArrives ep).writeAction u addr v b = (none, x.accept u act)) (counted : FrameCounted s x)
    (left : Leaves (portKeys ep) L s x) (die : ∀ d, landDie act = some d → d < 4) :
    Gives c s fun t => Lands s t u act ∧ Answered t ep ∧ Leaves (one LOAD_ACCESS :: portKeys ep) (.landing :: .resp :: L) s t := by
  obtain ⟨ord, obj⟩ := Bool.and_eq_true_iff.1 ha
  obtain ⟨size, -⟩ := ordinary_iff.1 ord
  obtain ⟨r, hr, acc⟩ := (Option.any_eq_true _ _).1 obj
  have written := h.hostWrite hr (writesPlainly_of_ordinary ord) size (by decide)
    ((if_pos (eq_of_beq acc)).trans effect)
  have lands : Lands s (x.accept u act) u act :=
    State.accept_lands counted.landing counted.frame counted.time counted.barriers fun d hd => counted.dieDelay (die d hd)
  have tail := State.answered_leaves (x.accept u act) ep (form := .object) (by decide) addr b b.length
  refine ⟨_, hc.trans (congrArg _ written), (tail.parts .landing (by decide)).trans lands,
    State.writeAnswered_answered _ ep (by decide) _, ?_⟩
  have accepted : Leaves (one LOAD_ACCESS :: portKeys ep) (.landing :: .resp :: L) s (x.accept u act) :=
    State.accept_leaves u act (left.mono (inSkip Inside.refl) fun p hp => List.mem_cons_of_mem _ (List.mem_cons_of_mem _ hp))
      fun p hp => by simp_all
  exact accepted.trans (tail.mono Inside.refl fun p hp => by simp_all)

theorem writesAction (hc : exec c s = .next (s.hostWriteInt ep addr v)) (ha : landsAction addr = true) :
    WritesAction c s ep u addr v := by
  intro h
  obtain ⟨⟨action, later⟩, other⟩ := (Bool.and_eq_true_iff.1 ha).imp_left Bool.and_eq_true_iff.1
  exact h.landsLater hc action ((if_neg (bne_iff_ne.1 other)).trans (if_pos later)) (s.accessArrives_counted ep)
    (State.accessArrives_leaves_port (L := []) s ep) fun d hd => actionDie_lt hd

/-- R278: OPENING_RESUME carries a free value of 64 bits. -/
theorem openingResume_waits (s : State) (ep : Endpoint) (u : Nat) :
    let addr := OPENING_STATUS.OPENING_RESUME
    Accepts s ep u .object addr 0xA5 (bytesOf addr 0xA5) → Gives (.openingResume ep) s fun t =>
      (∃ w : Nat, w < 2 ^ 64 ∧ Lands s t u (.action addr (0xA5 + 256 * w))) ∧ Answered t ep ∧
        Leaves (one LOAD_ACCESS :: portKeys ep) [.landing, .resp, .free] s t := by
  intro addr h
  have counted := s.accessArrives_counted ep
  set w := s.accessArrives ep
  have free : ((w.takeFreeIn 0 (2 ^ 64 - 1)).1.toNat : Int) = (w.takeFreeIn 0 (2 ^ 64 - 1)).1 ∧
      (w.takeFreeIn 0 (2 ^ 64 - 1)).1.toNat < 2 ^ 64 := by
    unfold State.takeFreeIn
    dsimp only
    omega
  have effect : w.writeAction u addr 0xA5 (bytesOf addr 0xA5) = (none, (w.takeFreeIn 0 (2 ^ 64 - 1)).2.accept u
      (.action addr (0xA5 + 256 * ((w.takeFreeIn 0 (2 ^ 64 - 1)).1.toNat : Int)))) := by
    rw [free.1]
    exact if_pos rfl
  obtain ⟨t, ran, lands, answered, leaves⟩ := h.landsLater (c := .openingResume ep) rfl (by decide) effect
    ⟨counted.get, counted.time, counted.frame, counted.landing, counted.staged, counted.barriers, counted.heldWrites⟩
    (State.takeFreeIn_leaves (L := [.free]) (State.accessArrives_leaves_port s ep) (by decide)) fun d hd => actionDie_lt hd
  exact ⟨t, ran, ⟨_, free.2, lands⟩, answered, leaves⟩
end
theorem objectAt_channelConfig {i : Nat} (h : 0x3000 ≤ i) (h' : i < 0x3200) : objectAt i = subs_CHANNEL_CONFIG := by
  unfold objectAt
  simp (disch := omega) only [↓if_pos, ↓if_neg]

theorem objectAt_channelSupervision {i : Nat} (h : 0x3600 ≤ i) (h' : i < 0x3800) :
    objectAt i = subs_CHANNEL_SUPERVISION := by
  unfold objectAt
  simp (disch := omega) only [↓if_pos, ↓if_neg]

theorem subAt_channelConfig (n : Chan) {j : Nat} (hj : j < 256) :
    subAt ((0x3000 + n) * 256 + j) = subOf subs_CHANNEL_CONFIG j := by
  have := n.isLt
  rw [subAt, objectAt_channelConfig (by omega) (by omega), show ((0x3000 + n.val) * 256 + j) % 256 = j by omega]

theorem subAt_channelSupervision (n : Chan) {j : Nat} (hj : j < 256) :
    subAt ((0x3600 + n) * 256 + j) = subOf subs_CHANNEL_SUPERVISION j := by
  have := n.isLt
  rw [subAt, objectAt_channelSupervision (by omega) (by omega), show ((0x3600 + n.val) * 256 + j) % 256 = j by omega]

/-- The objects of the channels, 0x3000 to 0x37FF, are ordinary, and their actions land. -/
theorem ordinary_channel {i j : Nat} (h : 0x3000 ≤ i) (h' : i < 0x3800) (hj : j < 256) :
    ordinary (i * 256 + j) = true ∧ landsLater (i * 256 + j) = true ∧ i * 256 + j ≠ OPENING_STATUS.OPENING_RESUME := by
  refine ⟨ordinary_iff.2 (by omega), ?_, by simp only [OPENING_STATUS.OPENING_RESUME]; omega⟩
  simp only [landsLater, Bool.or_eq_true, Bool.and_eq_true, decide_eq_true_eq]
  omega

theorem landsAction_channel {i j : Nat} (h : 0x3000 ≤ i) (h' : i < 0x3800) (hj : j < 256)
    (acc : (subAt (i * 256 + j)).any (fun r => r.acc == .wo) = true) : landsAction (i * 256 + j) = true := by
  obtain ⟨ord, later, other⟩ := ordinary_channel h h' hj
  rw [landsAction, isAction, ord, later, acc, bne_iff_ne.2 other]
  rfl

theorem holdsValue_request (n : Chan) : holdsValue (CHANNEL_CONFIG.REQUEST n) = true := by
  rw [holdsValue, (ordinary_channel (i := 0x3000 + n) (by omega) (by omega) (by decide)).1, subAt_channelConfig n (by decide)]
  decide

theorem holdsValue_force (r : Rso) : holdsValue (RESET_OUTPUT.FORCE r) = true := by
  revert r
  decide +kernel

theorem holdsValue_enable (m : Conv) : holdsValue (CONVERTER.ENABLE m) = true := by
  revert m
  decide +kernel

theorem holdsValue_run (d : StreamId) : holdsValue (STREAM.RUN d) = true := by
  revert d
  decide +kernel

theorem holdsValue_tail (d : StreamId) : holdsValue (STREAM.TAIL d) = true := by
  revert d
  decide +kernel

/-- Settles O51: each is an object that holds a number, and a write of one lands. -/
theorem valuesWaitForTheirBoundary : Obligations.ValuesWaitForTheirBoundary := by
  unfold Obligations.ValuesWaitForTheirBoundary
  intro ep u n r m d v bell s
  have bellOrObject : (if bell then WriteForm.bell else .object) = .object ∨ (if bell then WriteForm.bell else .object) = .bell := by
    cases bell
    · exact .inl rfl
    · exact .inr rfl
  have request := holdsValue_request n
  have force := holdsValue_force r
  have enable := holdsValue_enable m
  have run := holdsValue_run d
  exact ⟨writesValue rfl (.inl rfl) request, writesValue rfl (.inl rfl) request, writesValue rfl (.inl rfl) request,
    writesValue rfl (.inl rfl) force, writesValue rfl (.inl rfl) force,
    writesValue rfl (.inl rfl) enable, writesValue rfl (.inl rfl) enable,
    writesValue rfl (.inl rfl) (by decide), writesValue rfl (.inl rfl) (by decide), writesValue rfl (.inl rfl) (by decide),
    writesValue rfl (.inl rfl) (by decide), writesValue rfl (.inl rfl) (by decide),
    writesValue rfl (.inl rfl) (by decide), writesValue rfl (.inl rfl) (by decide),
    writesValue rfl (.inl rfl) (by decide), writesValue rfl (.inl rfl) (by decide),
    writesValue rfl (.inl rfl) run, writesValue rfl (.inl rfl) run, writesValue rfl bellOrObject (holdsValue_tail d)⟩

theorem landsAction_clearLockout (n : Chan) : landsAction (CHANNEL_CONFIG.CLEAR_LOCKOUT n) = true :=
  landsAction_channel (by omega) (by omega) (by decide) (by rw [subAt_channelConfig n (by decide)]; decide)

theorem landsAction_releaseStanding (n : Chan) : landsAction (CHANNEL_CONFIG.RELEASE_STANDING n) = true :=
  landsAction_channel (by omega) (by omega) (by decide) (by rw [subAt_channelConfig n (by decide)]; decide)

theorem landsAction_counterClear (n : Chan) : landsAction (CHANNEL_SUPERVISION.COUNTER_CLEAR n) = true :=
  landsAction_channel (by omega) (by omega) (by decide) (by rw [subAt_channelSupervision n (by decide)]; decide)

theorem landsAction_captureArm (d : Die) : landsAction (BANK.CAPTURE_ARM (8 * d.val)) = true := by
  revert d
  decide +kernel

theorem landsAction_swapRequest (p : Pair) : landsAction (CASTLING_PAIR.SWAP_REQUEST p) = true := by
  revert p
  decide +kernel

theorem landsAction_trumpRelease (x : Tenant) : landsAction (TENANT.TRUMP_RELEASE x) = true := by
  revert x
  decide +kernel

theorem landsAction_plan (g : Fin 2) : landsAction (ofPlan g OPENING_PLAN.START) = true ∧
    landsAction (ofPlan g OPENING_PLAN.ABORT) = true ∧ landsAction (ofPlan g OPENING_PLAN.RESOLVE) = true := by
  revert g
  decide +kernel

/-- Settles O52: each is an action that lands. -/
theorem actionsWaitForTheirBoundary : Obligations.ActionsWaitForTheirBoundary := by
  unfold Obligations.ActionsWaitForTheirBoundary
  intro ep u n x d p g b v s
  have lockout := landsAction_clearLockout n
  have standing := landsAction_releaseStanding n
  have counters := landsAction_counterClear n
  have capture := landsAction_captureArm d
  have swap := landsAction_swapRequest p
  have trump := landsAction_trumpRelease x
  obtain ⟨start, abort, resolve⟩ := landsAction_plan g
  exact ⟨writesAction rfl lockout, writesAction rfl standing, writesAction rfl counters,
    writesAction rfl capture, writesAction rfl swap, writesAction rfl start,
    writesAction rfl abort, writesAction rfl resolve,
    writesAction rfl resolve, writesAction rfl trump,
    writesAction rfl (by decide), writesAction rfl (by decide),
    writesAction rfl (by decide), writesAction rfl (by decide),
    writesAction rfl (by decide), writesAction rfl (by decide),
    writesAction rfl (by decide), writesAction rfl (by decide),
    writesAction rfl (by decide), writesAction rfl (by decide),
    writesAction rfl (by decide), writesAction rfl (by decide),
    writesAction rfl (by decide), openingResume_waits s ep u⟩
end Sys2Proof.Machine
end

section
/-!
SUPPORT. What the rejection of a commit leaves in its objects.
-/
open Sys2Proof
namespace Sys2Proof.Machine
/-! ### A rejected commit (R45, R46) -/

section
variable (s : State) (t r a : Nat)

theorem State.commitReject_regs : (s.commitReject t r a).regs =
    (((s.setN (COMMIT_CONTROL.STATUS t) 6).setN (COMMIT_CONTROL.LAST_REASON t) r).setN (COMMIT_CONTROL.LAST_OBJECT t) a).regs := by
  unfold State.commitReject
  dsimp only
  split <;> rfl

theorem State.commitReject_nat (k : Nat) : (s.commitReject t r a).nat k =
    (((s.setN (COMMIT_CONTROL.STATUS t) 6).setN (COMMIT_CONTROL.LAST_REASON t) r).setN (COMMIT_CONTROL.LAST_OBJECT t) a).nat k :=
  State.nat_eq_of_regs (s.commitReject_regs t r a) k

theorem State.commitReject_status : (s.commitReject t r a).nat (COMMIT_CONTROL.STATUS t) = 6 := by
  rw [State.commitReject_nat, State.nat_setN_other _ (by simp only [COMMIT_CONTROL.STATUS, COMMIT_CONTROL.LAST_OBJECT]; omega),
    State.nat_setN_other _ (by simp only [COMMIT_CONTROL.STATUS, COMMIT_CONTROL.LAST_REASON]; omega), State.nat_setN_self]

theorem State.commitReject_reason : (s.commitReject t r a).nat (COMMIT_CONTROL.LAST_REASON t) = r := by
  rw [State.commitReject_nat, State.nat_setN_other _ (by simp only [COMMIT_CONTROL.LAST_REASON, COMMIT_CONTROL.LAST_OBJECT]; omega),
    State.nat_setN_self]

theorem State.commitReject_object : (s.commitReject t r a).nat (COMMIT_CONTROL.LAST_OBJECT t) = a := by
  rw [State.commitReject_nat, State.nat_setN_self]

end
end Sys2Proof.Machine
end

section
/-!
CLAIM O53. A write through BAR0 beyond the objects is no access.
-/
open Sys2Proof
namespace Sys2Proof.Machine

/-- A BAR0 write beyond the 16 Mi slots of the window reaches no object. -/
theorem State.windowWrite_beyond (s : State) (f : Func) {addr : Nat} {data : List Byte} (ha : 2 ^ 24 ≤ addr)
    (hd : data.length ≤ 64) : s.windowWrite f addr data = s := by
  have none (i : Nat) : windowObject (windowOffset addr + 8 * i) = none := by
    unfold windowObject windowOffset
    rw [if_neg]
    simp only [Bool.and_eq_true, decide_eq_true_eq, not_and]
    omega
  unfold State.windowWrite
  rw [if_neg (by omega)]
  exact forBelow_induct (P := (· = s)) rfl fun i _ x hx => by simpa only [none] using hx

/-- TN00 on function 0 of a link in L0. -/
def linkedState : State :=
  ((((State.reset.set (TENANT.ENDPOINT 0) 0x4000).set DEV_STATE 1).set PORTS_READY 1).set STRAPS.STRAP_VALUE 64).set
    PCIE_PORT.LINK_STATE 2

/-- The first address that three bytes do not hold. -/
abbrev beyondObjects : Nat := 0x1000000

theorem linkedState_writeCheck :
    (linkedState.accessArrives (.pcie 0)).writeCheck (some 0) .plain beyondObjects [] = some .noObject := by decide

theorem linkedState_objectWrite : exec (.objectWrite (.pcie 0) beyondObjects []) linkedState = .next linkedState :=
  congrArg Host.Outcome.next (linkedState.windowWrite_beyond 0 (data := []) (le_refl (2 ^ 24)) (by decide))

/-- Refutes O53: an object write through BAR0 to 0x1000000, which a slot of the window does not reach, fails the check of its
address, but no access takes place, and ABORT_COUNT stays 0. -/
theorem not_stagedAndRefusedWrites : ¬ Obligations.StagedAndRefusedWrites := by
  unfold Obligations.StagedAndRefusedWrites
  rintro ⟨-, refused⟩
  obtain ⟨t, ran, counted, -⟩ := refused (.pcie 0) 0 beyondObjects [] .noObject linkedState (by decide) (by decide)
    (by decide) (by decide) (by decide) (by decide) (by decide) (by simp [linkedState, State.reset]) (by decide) linkedState_writeCheck
  obtain rfl : linkedState = t := Host.Outcome.next.inj (linkedState_objectWrite.symm.trans ran)
  exact absurd counted (by decide)
end Sys2Proof.Machine
end

section
/-!
CLAIM O54. A register of a tenant beyond the sixteen, which a rule reads, is one that a commit writes.
-/
open Sys2Proof
namespace Sys2Proof.Machine

/-! ### The addresses of the rules (R40, check 7) -/

/-- Every address of a list lies above the communication objects (0x1000 to 0x1FFF). -/
def AboveCommunication (l : List Nat) : Prop := ∀ a ∈ l, 0x200000 ≤ a

theorem above_nil : AboveCommunication [] ↔ True := by simp [AboveCommunication]

theorem above_append {l m : List Nat} : AboveCommunication (l ++ m) ↔ AboveCommunication l ∧ AboveCommunication m := by
  simp only [AboveCommunication, List.mem_append, or_imp, forall_and]

theorem above_flatMap {α : Type} {l : List α} {f : α → List Nat} :
    AboveCommunication (l.flatMap f) ↔ ∀ x ∈ l, AboveCommunication (f x) := by
  simp only [AboveCommunication, List.mem_flatMap]
  exact ⟨fun h x hx a ha => h a ⟨x, hx, ha⟩, fun h a ⟨x, hx, ha⟩ => h x hx a ha⟩

theorem above_failIf {b : Bool} {a : Nat} : AboveCommunication (failIf b a) ↔ (b = true → 0x200000 ≤ a) := by
  cases b <;> simp [AboveCommunication, failIf]

theorem above_ite {c : Prop} [Decidable c] {l m : List Nat} :
    AboveCommunication (if c then l else m) ↔ (c → AboveCommunication l) ∧ (¬c → AboveCommunication m) := by
  split <;> simp_all

/-- The names that clash are names of the list. -/
theorem above_namedTwice {clash : Nat × Nat → Nat × Nat → Bool} {l : List (Nat × Nat)} (h : ∀ x ∈ l, 0x200000 ≤ x.1) :
    AboveCommunication (namedTwice clash l) := by
  induction l with
  | nil => exact above_nil.2 trivial
  | cons x l ih =>
    obtain ⟨hx, hl⟩ := List.forall_mem_cons.1 h
    exact above_append.2 ⟨above_failIf.2 fun _ => hx, ih hl⟩

section
variable (s n : State)

theorem above_channels (c : Nat) : AboveCommunication (n.ruleProtection c ++ n.ruleWindow c) := by
  simp only [State.ruleProtection, State.ruleWindow, above_append, above_failIf, CHANNEL_PROTECTION.HARD_SHORT_LEVEL,
    CHANNEL_PROTECTION.WIRE_TRIP_RISE, CHANNEL_PROTECTION.WIRE_WARN_RISE, CHANNEL_PROTECTION.FET_TRIP_TEMP,
    CHANNEL_PROTECTION.FET_WARN_TEMP, CHANNEL_CONFIG.SHUNT_RESISTANCE, CHANNEL_PROTECTION.LAMP_MODE,
    CHANNEL_SUPERVISION.WINDOW_MODE]
  omega

theorem above_ruleCapture (d : Nat) : AboveCommunication (n.ruleCapture d) := by
  simp only [State.ruleCapture, above_append, above_failIf, BANK.CAPTURE_OWNER, BANK.CAPTURE_SIGNAL, BANK.CAPTURE_SIGNALS]
  omega

theorem above_rulePairs : AboveCommunication n.rulePairs := by
  refine above_append.2 ⟨above_flatMap.2 fun p _ => ?_, above_namedTwice fun x hx => ?_⟩
  · refine above_ite.2 ⟨fun _ => above_nil.2 trivial, fun _ => ?_⟩
    simp only [above_append, above_failIf, CASTLING_PAIR.CHANNEL_A, CASTLING_PAIR.CHANNEL_B]
    omega
  · obtain ⟨p, -, hx⟩ := List.mem_flatMap.1 hx
    dsimp only at hx
    split at hx
    · cases hx
    · simp only [List.mem_cons, List.not_mem_nil, or_false, CASTLING_PAIR.CHANNEL_A, CASTLING_PAIR.CHANNEL_B] at hx
      obtain rfl | rfl := hx <;> dsimp only <;> omega

theorem above_ruleGroups : AboveCommunication n.ruleGroups := by
  simp only [State.ruleGroups, above_flatMap, above_failIf, SEQ_GROUP.MEMBERS]
  omega

theorem above_rulePlan (p : Nat) : AboveCommunication (n.rulePlan p) := by
  simp only [State.rulePlan, above_flatMap, above_failIf, ofPlan, OPENING_STEPS.STEP]
  omega

theorem above_ruleRunningPlan (vals : List (Nat × Int)) : AboveCommunication (s.ruleRunningPlan vals) := by
  simp only [State.ruleRunningPlan, above_flatMap, above_failIf, Bool.and_eq_true, Bool.or_eq_true, beq_iff_eq,
    OPENING_PLAN.STEP_COUNT, ENDGAME_PLAN.STEP_COUNT, ENDGAME_PLAN.END_ACTION]
  omega

theorem above_resets (r : Nat) : AboveCommunication (n.ruleRso r ++ s.ruleLane n r) := by
  simp only [State.ruleRso, State.ruleLane, above_append, above_failIf, RESET_OUTPUT.SOURCE_KIND, LANE.CONVERTER, LANE.LANE_MODE]
  omega

theorem above_ruleConverter (m : Nat) : AboveCommunication (s.ruleConverter n m) := by
  simp only [State.ruleConverter, above_append, above_failIf, CONVERTER.SWITCH_PERIOD, CONVERTER.VOUT_SET, CONVERTER.VS_GAIN,
    CONVERTER.DUTY_MIN, CONVERTER_WINDOW.WINDOW_MODE]
  omega

theorem above_notRising {k : Nat} (hk : 0x200000 ≤ k) (l : Nat) : AboveCommunication (n.notRising k l) := by
  simp only [State.notRising, above_flatMap, above_failIf]
  omega

theorem above_ruleOverrides : AboveCommunication n.ruleOverrides := by
  have table : ∀ x ∈ (List.range 64).map fun i => (CLASS_OVERRIDE.OVERRIDE i, n.nat (CLASS_OVERRIDE.OVERRIDE i)), 0x200000 ≤ x.1 := by
    simp only [List.mem_map, forall_exists_index, and_imp, CLASS_OVERRIDE.OVERRIDE]
    rintro _ i - rfl
    dsimp only
    omega
  exact above_append.2 ⟨above_flatMap.2 fun x hx => above_failIf.2 fun _ => table x hx, above_namedTwice table⟩

theorem above_rulePool : AboveCommunication (s.rulePool n) := by
  unfold State.rulePool
  simp only [above_ite, above_nil, implies_true, and_true]
  intro _
  refine ⟨fun _ a ha => ?_, fun _ a ha => ?_⟩
  · obtain ⟨p, -, rfl⟩ := List.mem_map.1 ha
    simp only [RING.CAPACITY]
    omega
  · obtain ⟨p, -, hp⟩ := List.mem_filterMap.1 ha
    split at hp
    · obtain rfl := Option.some.inj hp
      simp only [RING.CAPACITY]
      omega
    · cases hp

theorem above_ruleTargets : AboveCommunication n.ruleTargets := by
  refine above_flatMap.2 fun p _ => above_ite.2 ⟨fun ring => above_failIf.2 fun _ => ?_, fun _ => above_nil.2 trivial⟩
  simp only [Bool.and_eq_true, decide_eq_true_eq] at ring
  omega

theorem above_entries (g : Nat) : AboveCommunication (n.ruleModeration g ++ n.ruleEntry g) := by
  simp only [State.ruleModeration, State.ruleEntry, above_append, above_failIf, TARGET.MOD_COUNT, HK_ENTRY.INPUT, HK_CURVE.POINTS]
  omega

theorem above_streams : AboveCommunication (((List.range 32).flatMap fun d => s.ruleStream n d) ++ n.ruleStreams) := by
  simp only [State.ruleStream, State.ruleStreams, above_append, above_flatMap, above_failIf, STREAM.DESC_BASE,
    STREAM.COMPLETION_ADDRESS]
  exact ⟨fun d _ => by omega, by omega⟩

theorem above_ruleUnits (names : List Nat) (unit : Nat) : AboveCommunication (n.ruleUnits names unit) := by
  simp only [State.ruleUnits, above_flatMap, above_failIf, HK_ENTRY.UNIT]
  omega

theorem above_ruleSequences : AboveCommunication n.ruleSequences := by
  simp only [State.ruleSequences, State.ruleSequence, above_append, above_flatMap, above_failIf, HK_SEQUENCE.FIRST_ENTRY,
    HK_SEQUENCE.TRIGGER_SOURCE, HK_SEQUENCE.MODE]
  exact ⟨fun q _ => by omega, by omega⟩

theorem above_ruleTwoWire : AboveCommunication n.ruleTwoWire := by
  simp only [State.ruleTwoWire, above_append, above_failIf, TWO_WIRE_BUS.ROLE, TWO_WIRE_BUS.SPEED_MODE, TWO_WIRE_BUS.SCL_LOW]
  omega

/-- Only the rules of the CAN ports name communication objects. -/
theorem ruleFailure_above {vals : List (Nat × Int)} {a : Nat} (h : s.ruleFailure vals = some a)
    (can : (s.overlay vals).ruleCan 0 = [] ∧ (s.overlay vals).ruleCan 1 = []) (pdos : (s.overlay vals).rulePdos = []) : 0x200000 ≤ a := by
  unfold State.ruleFailure lowest at h
  dsimp only at h
  rw [can.1, can.2, pdos] at h
  refine (?_ : AboveCommunication _) a (List.min?_mem h)
  repeat' with_reducible refine above_append.2 ⟨?_, ?_⟩
  · exact above_flatMap.2 fun c _ => above_channels _ c
  · exact above_flatMap.2 fun d _ => above_ruleCapture _ d
  · exact above_rulePairs _
  · exact above_ruleGroups _
  · exact above_rulePlan _ 0
  · exact above_rulePlan _ 1
  · exact above_ruleRunningPlan s vals
  · exact above_flatMap.2 fun r _ => above_resets s _ r
  · exact above_flatMap.2 fun m _ => above_ruleConverter s _ m
  · exact above_append.2 ⟨above_notRising _ (by decide) _, above_notRising _ (by decide) _⟩
  · exact above_ruleOverrides _
  · exact above_rulePool s _
  · exact above_ruleTargets _
  · exact above_flatMap.2 fun g _ => above_entries _ g
  · exact (above_append.1 (above_streams s _)).1
  · exact (above_append.1 (above_streams s _)).2
  · exact above_flatMap.2 fun c _ => above_notRising _ (by simp only [HK_CURVE.CODE]; omega) _
  · exact above_ruleUnits _ _ _
  · exact above_ruleUnits _ _ _
  · exact above_ruleSequences _
  · exact above_ruleTwoWire _
  all_goals exact above_nil.2 trivial

end

/-! ### The counterexample -/

/-- TN00 on function 0 stages the SYNC_START of RPDO 1. RPDO 0 is owned by a tenant 16, whose KIBITZER lies under the key of the
STATUS of TN00, and maps its own SYNC_START. -/
def mappedState : State :=
  { (linkedState.set (PDO_OWNER.RPDO_CAN0 0) 16).set (RPDO_MAP.ENTRY 0 0) 0x14000608 with
    staged := [⟨0, RPDO_COMM.SYNC_START 1, 0, true⟩] }

/-- What a COMMIT of TN00 leaves for its checks to judge. -/
def mappedChecking : State := (mappedState.setN (CM_VALUE 0) 0).setN (COMMIT_CONTROL.STATUS 0) 1

/-- What it stages. -/
abbrev mappedValues : List (Nat × Int) := [(RPDO_COMM.SYNC_START 1, 0)]

theorem mappedState_commitFailure :
    mappedState.commitFailure 0 0 = (mappedState.ruleFailure mappedValues).map fun a => (CR.RULE, a) := by
  have hand : mappedState.handFailure 0 mappedValues = none := by decide +kernel
  unfold State.commitFailure
  rw [if_neg (by decide), if_neg (by decide)]
  show (match mappedState.handFailure 0 mappedValues with
    | some a => some (CR.HAND, a)
    | none => (mappedState.ruleFailure mappedValues).map fun a => (CR.RULE, a)) = _
  rw [hand]

theorem mappedChecking_commitFailure :
    mappedChecking.commitFailure 0 0 = (mappedChecking.ruleFailure mappedValues).map fun a => (CR.RULE, a) := by
  have hand : mappedChecking.handFailure 0 mappedValues = none := by decide +kernel
  unfold State.commitFailure
  rw [if_neg (by decide), if_neg (by decide)]
  show (match mappedChecking.handFailure 0 mappedValues with
    | some a => some (CR.HAND, a)
    | none => (mappedChecking.ruleFailure mappedValues).map fun a => (CR.RULE, a)) = _
  rw [hand]

theorem mappedState_ruleCan : (mappedState.overlay mappedValues).ruleCan 0 = [] ∧ (mappedState.overlay mappedValues).ruleCan 1 = [] := by
  decide +kernel

theorem mappedState_rulePdos : (mappedState.overlay mappedValues).rulePdos = [] := by
  decide +kernel

theorem mappedChecking_rulePdo :
    RPDO_MAP.ENTRY 0 0 ∈ (mappedChecking.overlay mappedValues).rulePdo ((mappedChecking.overlay mappedValues).pdoOwner (0x1400 + 0)) true
      (RPDO_MAP.ENTRY 0 0) (RPDO_COMM.COB_ID 0) (RPDO_COMM.TRANSMISSION_TYPE 0) := by
  decide +kernel

/-- Before the COMMIT no rule that names a communication object is broken. -/
theorem mappedState_fails_above {a : Nat} (h : mappedState.ruleFailure mappedValues = some a) : 0x200000 ≤ a :=
  ruleFailure_above mappedState h mappedState_ruleCan mappedState_rulePdos

/-- While it is checked, the mapping of RPDO 0 is. -/
theorem mappedChecking_fails : ∃ a, mappedChecking.ruleFailure mappedValues = some a ∧ a ≤ RPDO_MAP.ENTRY 0 0 := by
  have pdos : RPDO_MAP.ENTRY 0 0 ∈ (mappedChecking.overlay mappedValues).rulePdos :=
    List.mem_append_left _ (List.mem_flatMap.2 ⟨0, by decide, mappedChecking_rulePdo⟩)
  unfold State.ruleFailure lowest
  dsimp only
  obtain ⟨a, ha⟩ := Option.isSome_iff_exists.1 (List.isSome_min?_of_mem (List.mem_append_right _ pdos))
  exact ⟨a, ha, (List.min?_eq_some_iff.1 ha).2 _ (List.mem_append_right _ pdos)⟩

/-- So the COMMIT is rejected, with an address among the communication objects. -/
theorem mappedState_commitWrite :
    ∃ a, mappedState.commitWrite 0 0 = mappedChecking.commitReject 0 CR.RULE a ∧ a ≤ RPDO_MAP.ENTRY 0 0 := by
  obtain ⟨a, fails, low⟩ := mappedChecking_fails
  have checks : mappedState.commitWrite 0 0 = mappedChecking.commitChecks 0 := by
    unfold State.commitWrite State.commitNow
    rw [if_neg (by decide), if_neg (by decide), if_neg (by decide)]
    rfl
  refine ⟨a, ?_, low⟩
  rw [checks, State.commitChecks, show mappedChecking.nat (CM_VALUE 0) = 0 by decide, mappedChecking_commitFailure, fails]
  rfl

theorem mappedState_accepts : Accepts mappedState (.pcie 0) 0 .object (COMMIT_CONTROL.COMMIT 0) 0 (bytesOf (COMMIT_CONTROL.COMMIT 0) 0) where
  up := by decide
  tenant := by decide
  session := by decide
  fits := by decide
  slot := by decide
  free := ⟨by decide, by decide⟩
  checks := by decide
  value := by decide
  state := by
    intro r hr
    cases hr
    decide
  spells := by
    intro r hr
    cases hr
    decide

/-- Refutes O54: the checks of a COMMIT see STATUS 1. Where RPDO 0 is owned by a tenant 16, whose KIBITZER lies under the key of
that STATUS, the owner may then not write what it maps, and the COMMIT is rejected, which none of its checks before did. -/
theorem not_actsAtAcceptance : ¬ Obligations.ActsAtAcceptance := by
  unfold Obligations.ActsAtAcceptance
  intro h
  obtain ⟨commits, -⟩ := h (.pcie 0) 0 0 0 0 0 mappedState
  obtain ⟨t, ran, -, fails, -, accepts, -⟩ := commits (by decide) (by decide) (by decide) mappedState_accepts
  obtain ⟨a, rejected, low⟩ := mappedState_commitWrite
  have effect : ((mappedState.accessArrives (.pcie 0)).writeEffect 0 (COMMIT_CONTROL.COMMIT 0)
      ((subAt (COMMIT_CONTROL.COMMIT 0)).get (by decide)) 0 (bytesOf (COMMIT_CONTROL.COMMIT 0) 0)) =
        (none, mappedChecking.commitReject 0 CR.RULE a) := by
    rw [← rejected]
    unfold State.writeEffect State.writeAction
    rw [if_pos (by decide), if_neg (by decide), if_neg (by decide), if_neg (by decide), if_neg (by decide)]
    refine congrArg (Prod.mk none) ?_
    unfold State.actNow
    dsimp only
    rw [if_neg (by decide), if_pos (Eq.refl (COMMIT_CONTROL.COMMIT 0))]
    exact congrArg (mappedState.commitWrite 0) (by decide)
  have written := mappedState_accepts.hostWrite (Option.some_get _).symm (writesPlainly_of_ordinary (by decide)) (by decide) (by decide) effect
  obtain rfl := Host.Outcome.next.inj ((congrArg Host.Outcome.next written).symm.trans ran)
  have tail := State.answered_leaves (mappedChecking.commitReject 0 CR.RULE a) (.pcie 0) (form := .object) (by decide)
    (COMMIT_CONTROL.COMMIT 0) (bytesOf (COMMIT_CONTROL.COMMIT 0) 0) (bytesOf (COMMIT_CONTROL.COMMIT 0) 0).length
  have status := (tail.nat_eq (outside_portKeys (by decide) _)).trans (mappedChecking.commitReject_status 0 CR.RULE a)
  have object := (tail.nat_eq (outside_portKeys (by decide) _)).trans (mappedChecking.commitReject_object 0 CR.RULE a)
  cases before : mappedState.ruleFailure mappedValues with
  | none =>
    obtain ⟨accepted, -⟩ := accepts (mappedState_commitFailure.trans (by rw [before]; rfl)) (by decide) (by decide)
    exact absurd (status.symm.trans accepted) (by decide)
  | some b =>
    obtain ⟨-, -, named, -⟩ := fails CR.RULE b (mappedState_commitFailure.trans (by rw [before]; rfl))
    have high := mappedState_fails_above before
    have same : a = b := object.symm.trans named
    simp only [RPDO_MAP.ENTRY] at low
    omega

end Sys2Proof.Machine
end

section
/-!
CLAIM O21. What ends the waits of a commit, barriers, and the sweep that audits what is applied.
-/
open Sys2Proof
namespace Sys2Proof.Machine

/-! ### Messages of a chain of operations -/

/-- x comes after s without time passing: what s has collected is still there, and x stamps as s does. -/
structure Follows (s x : State) : Prop where
  time : x.time = s.time
  offset : x.get TICK_OFFSET = s.get TICK_OFFSET
  collector : s.collector <+: x.collector

theorem Follows.refl (s : State) : Follows s s := ⟨rfl, rfl, List.prefix_refl _⟩

theorem Follows.trans {s x y : State} (h : Follows s x) (h' : Follows x y) : Follows s y :=
  ⟨h'.time.trans h.time, h'.offset.trans h.offset, h.collector.trans h'.collector⟩

theorem Follows.of_leaves {W : List Span} {L : List Part} {s x : State} (h : Leaves W L s x) (time : .time ∉ L)
    (offset : Outside W TICK_OFFSET) (collector : s.collector <+: x.collector) : Follows s x :=
  ⟨h.parts .time time, h.get_eq offset, collector⟩

/-- A message raised after s is one that s is followed by. -/
theorem Follows.raises {s x : State} (h : Follows s x) (k : Kind) (site tenant obj : Nat) (fields : List (Nat × Int)) :
    Raises s (x.raise k site tenant obj fields) k site tenant fields := by
  obtain ⟨r, hr⟩ := h.collector
  refine ⟨obj, ?_⟩
  show _ ∈ (x.collector ++ [_]).drop _
  rw [← hr, List.append_assoc, List.drop_left, State.stamp_eq h.time h.offset]
  exact List.mem_append_right _ List.mem_cons_self

theorem Raises.of_follows {s x y : State} {k : Kind} {site tenant : Nat} {fields : List (Nat × Int)} (h : Follows s x)
    (r : Raises x y k site tenant fields) : Raises s y k site tenant fields := by
  obtain ⟨o, ho⟩ := r
  rw [State.stamp_eq h.time h.offset] at ho
  exact ⟨o, List.drop_subset_drop_left _ h.collector.length_le ho⟩

theorem Raises.mono {s x y : State} {k : Kind} {site tenant : Nat} {fields : List (Nat × Int)}
    (h : Raises s x k site tenant fields) (hy : x.collector <+: y.collector) : Raises s y k site tenant fields := by
  obtain ⟨o, ho⟩ := h
  exact ⟨o, (hy.drop _).subset ho⟩

/-! ### A commit that is accepted, rejected, or flagged -/

section
variable (s : State) (t r a : Nat)

theorem State.commitFlag_status (at_ : Nat) : (s.commitFlag t at_).nat (COMMIT_CONTROL.STATUS t) = 3 :=
  s.nat_setN_self _ 3

theorem State.commitFlag_nat (at_ : Nat) {k : Nat} (hk : k ≠ COMMIT_CONTROL.STATUS t) : (s.commitFlag t at_).nat k = s.nat k :=
  s.nat_setN_other hk

/-- The apply flag takes its place among what waits. -/
theorem State.commitFlag_lands (at_ : Nat) :
    (⟨t, s.frame + 2, at_, .commit (s.stagedValues t), false⟩ : Landing) ∈ (s.commitFlag t at_).landing :=
  List.mem_append_right _ List.mem_cons_self

theorem State.commitFlag_keeps_landing (at_ : Nat) {l : Landing} (h : l ∈ s.landing) : l ∈ (s.commitFlag t at_).landing := by
  rw [← List.takeWhile_append_dropWhile (p := fun x : Landing => decide (x.accepted ≤ at_)) (l := s.landing)] at h
  show l ∈ _ ++ _ :: _
  simp only [List.mem_append, List.mem_cons] at h ⊢
  exact h.imp id .inr

/-- A commit that is accepted for no SYNC count goes out for two boundaries later. -/
theorem State.commitAccept_plain (h : (s.nat (CM_VALUE t)).testBit 24 = false) : s.commitAccept t =
    ((s.setN (COMMIT_CONTROL.LAST_REASON t) 0).setN (COMMIT_CONTROL.LAST_OBJECT t) 0).commitFlag t s.time := by
  unfold State.commitAccept
  dsimp only
  rw [State.nat_setN_other, State.nat_setN_other, h, if_neg Bool.false_ne_true]
  · rfl
  all_goals
    simp only [CM_VALUE, COMMIT_CONTROL.LAST_REASON, COMMIT_CONTROL.LAST_OBJECT, internal]
    omega

/-- A commit that is accepted for a SYNC count waits for it from now. -/
theorem State.commitAccept_sync (h : (s.nat (CM_VALUE t)).testBit 24 = true) : s.commitAccept t =
    ((((s.setN (COMMIT_CONTROL.LAST_REASON t) 0).setN (COMMIT_CONTROL.LAST_OBJECT t) 0).setN (COMMIT_CONTROL.STATUS t) 4).setN
      (CM_STAMP t) s.time) := by
  unfold State.commitAccept
  dsimp only
  rw [State.nat_setN_other, State.nat_setN_other, h, if_pos rfl]
  · rfl
  all_goals
    simp only [CM_VALUE, COMMIT_CONTROL.LAST_REASON, COMMIT_CONTROL.LAST_OBJECT, internal]
    omega

/-- A rejection that is no cancellation leaves the staging. -/
theorem State.commitReject_kept (h : r ≠ CR.CANCELLED) : s.commitReject t r a =
    (((s.setN (COMMIT_CONTROL.STATUS t) 6).setN (COMMIT_CONTROL.LAST_REASON t) r).setN (COMMIT_CONTROL.LAST_OBJECT t) a).raiseServer
      .COMMIT_REJECTED t [f8 r, f32 a] := by
  unfold State.commitReject
  dsimp only
  rw [if_neg h]

/-- The objects of the commit of tenant t that a decision about it writes. -/
abbrev commitObjects : List Span :=
  [one (COMMIT_CONTROL.LAST_OBJECT t), one (COMMIT_CONTROL.LAST_REASON t), one (COMMIT_CONTROL.STATUS t)]

theorem State.commitReject_leaves_kept (h : r ≠ CR.CANCELLED) :
    Leaves (commitObjects t) [.collector] s (s.commitReject t r a) := by
  rw [s.commitReject_kept t r a h]
  exact State.raiseServer_leaves _ _ _ (State.setN_leaves (State.setN_leaves (State.setN_leaves (Leaves.refl s)
    Covered.here.next.next) Covered.here.next) Covered.here) (by decide)

theorem State.commitReject_collector : s.collector <+: (s.commitReject t r a).collector := by
  unfold State.commitReject
  dsimp only
  split
  · exact List.prefix_append s.collector _
  · exact List.prefix_append s.collector _

theorem outside_commitObjects {k : Nat} (h : k % 256 = 255) : Outside (commitObjects t) k := by
  simp only [outside_cons, outside_nil, COMMIT_CONTROL.LAST_OBJECT, COMMIT_CONTROL.LAST_REASON, COMMIT_CONTROL.STATUS, and_true]
  and_intros <;> omega

theorem State.commitReject_follows (h : r ≠ CR.CANCELLED) : Follows s (s.commitReject t r a) :=
  .of_leaves (s.commitReject_leaves_kept t r a h) (by decide)
    (outside_commitObjects t (by decide)) (s.commitReject_collector t r a)

theorem State.commitReject_raises (h : r ≠ CR.CANCELLED) :
    Raises s (s.commitReject t r a) .COMMIT_REJECTED siteServer t [f8 r, f32 a] := by
  rw [s.commitReject_kept t r a h]
  unfold State.raiseServer
  exact (Follows.of_leaves (W := commitObjects t) (L := []) (State.setN_leaves (State.setN_leaves (State.setN_leaves
    (Leaves.refl s) Covered.here.next.next) Covered.here.next) Covered.here) (by decide) (outside_commitObjects t (by decide))
      (by simp only [State.setN_collector, List.prefix_refl])).raises _ _ _ _ _

theorem State.syncReject_leaves_missed (c : Int) :
    Leaves (commitObjects t) [.collector] s (s.syncReject t CR.SYNC_MISSED c) :=
  State.raiseServer_leaves _ _ _ (s.commitReject_leaves_kept t _ 0 (by decide)) (by decide)

theorem State.syncReject_status (c : Int) : (s.syncReject t r c).nat (COMMIT_CONTROL.STATUS t) = 6 := s.commitReject_status t r 0

theorem State.syncReject_reason (c : Int) : (s.syncReject t r c).nat (COMMIT_CONTROL.LAST_REASON t) = r :=
  s.commitReject_reason t r 0

theorem State.syncReject_collector (c : Int) : s.collector <+: (s.syncReject t r c).collector :=
  (s.commitReject_collector t r 0).trans (List.prefix_append _ _)

/-- A commit that waited for its SYNC count in vain is recorded with the count (R52). -/
theorem State.syncReject_raises (c : Int) : Raises s (s.syncReject t CR.SYNC_MISSED c) .SYNC_COMMIT_MISSED siteServer t
    [f8 t, f8 (field (s.nat (CM_VALUE t)) 16 8), f8 c] :=
  (s.commitReject_follows t CR.SYNC_MISSED 0 (by decide)).raises _ _ _ _ _

end

/-! ### The commits that wait for a SYNC count -/

section
variable {s x y : State} {p t u : Nat}

theorem mem_syncWaiters : t ∈ s.syncWaiters p ↔
    t < 16 ∧ s.nat (COMMIT_CONTROL.STATUS t) = 4 ∧ s.syncPort t (s.nat (CM_VALUE t)) = p := by
  simp only [State.syncWaiters, List.mem_mergeSort, List.mem_filter, List.mem_range, Bool.and_eq_true, beq_iff_eq]

theorem nodup_syncWaiters (s : State) (p : Nat) : (s.syncWaiters p).Nodup :=
  (List.mergeSort_perm _ _).nodup_iff.2 (List.nodup_range.filter _)

/-- What the judgement of the commit of tenant t rests on, and what it may not touch, is in x as it is in s. -/
structure SyncKept (s x : State) (p t : Nat) : Prop where
  value : x.nat (CM_VALUE t) = s.nat (CM_VALUE t)
  stamp : x.nat (CM_STAMP t) = s.nat (CM_STAMP t)
  counter : x.get (SYNC_C p) = s.get (SYNC_C p)
  frame : x.frame = s.frame
  staged : x.staged = s.staged
  follows : Follows s x

theorem SyncKept.refl (s : State) (p t : Nat) : SyncKept s s p t := ⟨rfl, rfl, rfl, rfl, rfl, .refl s⟩

/-- A decision about the commit of another tenant, or of this one, leaves it all. -/
theorem SyncKept.leaves {L : List Part} (h : SyncKept s x p t) (l : Leaves (commitObjects u) L x y)
    (parts : .time ∉ L ∧ .frame ∉ L ∧ .staged ∉ L) (collector : x.collector <+: y.collector) : SyncKept s y p t where
  value := (l.nat_eq (outside_commitObjects u (by simp only [CM_VALUE, internal]; omega))).trans h.value
  stamp := (l.nat_eq (outside_commitObjects u (by simp only [CM_STAMP, internal]; omega))).trans h.stamp
  counter := (l.get_eq (outside_commitObjects u (by simp only [SYNC_C, internal]; omega))).trans h.counter
  frame := (l.parts .frame parts.2.1).trans h.frame
  staged := (l.parts .staged parts.2.2).trans h.staged
  follows := h.follows.trans (.of_leaves l parts.1 (outside_commitObjects u (by decide)) collector)

/-- The objects of the commit of one tenant are none of another's. -/
theorem outside_commitObjects_of_ne (h : u ≠ t) : Outside (commitObjects u) (COMMIT_CONTROL.STATUS t) ∧
    Outside (commitObjects u) (COMMIT_CONTROL.LAST_REASON t) := by
  simp only [outside_cons, outside_nil, COMMIT_CONTROL.LAST_OBJECT, COMMIT_CONTROL.LAST_REASON, COMMIT_CONTROL.STATUS, and_true]
  and_intros <;> omega

/-- R52: 1 s without SYNC rejects every commit that waits for a count of the port. -/
theorem State.syncTimeout_rejects (wait : s.nat (SYNC_AT p) + 1000000 ≤ s.time) (ht : t ∈ s.syncWaiters p) :
    (s.syncTimeout p).nat (COMMIT_CONTROL.STATUS t) = 6 ∧ (s.syncTimeout p).nat (COMMIT_CONTROL.LAST_REASON t) = 10 ∧
      Raises s (s.syncTimeout p) .SYNC_COMMIT_MISSED siteServer t
        [f8 t, f8 (field (s.nat (CM_VALUE t)) 16 8), f8 (max 0 (s.get (SYNC_C p)))] := by
  unfold State.syncTimeout
  rw [if_pos wait]
  refine forEach_establishes (Q := fun x => SyncKept s x p t) (P := fun x => x.nat (COMMIT_CONTROL.STATUS t) = 6 ∧
    x.nat (COMMIT_CONTROL.LAST_REASON t) = 10 ∧ Raises s x .SYNC_COMMIT_MISSED siteServer t
      [f8 t, f8 (field (s.nat (CM_VALUE t)) 16 8), f8 (max 0 (s.get (SYNC_C p)))]) ht (nodup_syncWaiters s p) (.refl s p t) (fun u _ x hx => ?_)
    (fun x hx => ?_) (fun u _ hu x hx => ?_)
  · exact hx.leaves (x.syncReject_leaves_missed u _) (by decide) (x.syncReject_collector u _ _)
  · refine ⟨x.syncReject_status t _ _, x.syncReject_reason t _ _, ?_⟩
    have raised := x.syncReject_raises t (max 0 (x.get (SYNC_C p)))
    rw [hx.value, hx.counter] at raised
    rw [hx.counter]
    exact .of_follows hx.follows raised
  · obtain ⟨status, reason, raised⟩ := hx
    have kept := x.syncReject_leaves_missed u (max 0 (x.get (SYNC_C p)))
    obtain ⟨apart, apart'⟩ := outside_commitObjects_of_ne hu
    exact ⟨(kept.nat_eq apart).trans status, (kept.nat_eq apart').trans reason, raised.mono (x.syncReject_collector u _ _)⟩

end

/-! ### A SYNC with a counter (R52) -/

/-- R52: what a SYNC of counter c, of n counts, makes of the commit of tenant t. -/
def State.judgeCount (n c t : Nat) (s : State) : State :=
  let d := ((field (s.nat (CM_VALUE t)) 16 8 : Int) - c) % n
  if d = 0 then s.commitFlag t (s.nat (CM_STAMP t))
  else if (n / 2 : Nat) < d then s.syncReject t CR.SYNC_MISSED c
  else s

theorem State.syncJudge_eq (s : State) (p c : Nat) :
    s.syncJudge p c = forEach (s.syncWaiters p) (fun t x => x.judgeCount (s.nat (SYNC_OVERFLOW.VALUE p)) c t) s := rfl

section
variable (s : State) (n c t : Nat)

theorem State.judgeCount_leaves : Leaves (commitObjects t) [.collector, .landing] s (s.judgeCount n c t) := by
  unfold State.judgeCount
  dsimp only
  split
  · exact State.commitFlag_leaves t _ (Leaves.refl s) (inSkip (inSkip Inside.refl)) (by decide)
  · split
    · exact (s.syncReject_leaves_missed t _).mono Inside.refl (by decide)
    · exact Leaves.refl s

theorem State.judgeCount_collector : s.collector <+: (s.judgeCount n c t).collector := by
  unfold State.judgeCount
  dsimp only
  split
  · exact List.prefix_refl s.collector
  · split
    · exact s.syncReject_collector t _ _
    · exact List.prefix_refl _

theorem State.judgeCount_keeps_landing {l : Landing} (h : l ∈ s.landing) : l ∈ (s.judgeCount n c t).landing := by
  unfold State.judgeCount
  dsimp only
  split
  · exact s.commitFlag_keeps_landing t _ h
  · split
    · rwa [(s.syncReject_leaves_missed t _).parts .landing (by decide)]
    · exact h

end

/-- What R52 asks of the commit of tenant t as a SYNC of counter c, of n counts, has arrived in x, where s has waited for it. -/
structure Judged (s : State) (n c t : Nat) (x : State) : Prop where
  flagged : ((field (s.nat (CM_VALUE t)) 16 8 : Nat) - c : Int) % n = 0 → x.nat (COMMIT_CONTROL.STATUS t) = 3 ∧
    (⟨t, s.frame + 2, s.nat (CM_STAMP t), .commit (s.stagedValues t), false⟩ : Landing) ∈ x.landing
  rejected : (n / 2 : Nat) < ((field (s.nat (CM_VALUE t)) 16 8 : Nat) - c : Int) % n →
    x.nat (COMMIT_CONTROL.STATUS t) = 6 ∧ x.nat (COMMIT_CONTROL.LAST_REASON t) = 10

section
variable {s x y : State} {n p c t u : Nat}

theorem SyncKept.stagedValues (h : SyncKept s x p t) : x.stagedValues t = s.stagedValues t := by
  simp only [State.stagedValues, State.stagedOf, h.staged]

theorem State.judgeCount_judges (h : SyncKept s x p t) : Judged s n c t (x.judgeCount n c t) := by
  unfold State.judgeCount
  dsimp only
  rw [h.value, h.stamp]
  constructor
  · intro equal
    rw [if_pos equal]
    refine ⟨x.commitFlag_status t _, ?_⟩
    rw [← h.frame, ← h.stagedValues]
    exact x.commitFlag_lands t _
  · intro passed
    rw [if_neg (by omega), if_pos passed]
    exact ⟨x.syncReject_status t _ _, x.syncReject_reason t _ _⟩

theorem Judged.judgeCount_other (h : Judged s n c t x) (hu : u ≠ t) (k : Nat) : Judged s n c t (x.judgeCount n k u) := by
  obtain ⟨status, reason⟩ := outside_commitObjects_of_ne hu
  have kept := x.judgeCount_leaves n k u
  refine ⟨fun equal => ?_, fun passed => ?_⟩
  · obtain ⟨flagged, lands⟩ := h.flagged equal
    exact ⟨(kept.nat_eq status).trans flagged, x.judgeCount_keeps_landing n k u lands⟩
  · obtain ⟨rejected, missed⟩ := h.rejected passed
    exact ⟨(kept.nat_eq status).trans rejected, (kept.nat_eq reason).trans missed⟩

/-- R52: each commit that waits for a count of the port is judged. -/
theorem State.syncJudge_judges (ht : t ∈ s.syncWaiters p) : Judged s (s.nat (SYNC_OVERFLOW.VALUE p)) c t (s.syncJudge p c) := by
  rw [State.syncJudge_eq]
  exact forEach_establishes (Q := fun x => SyncKept s x p t) ht (nodup_syncWaiters s p) (.refl s p t)
    (fun u _ x hx => hx.leaves (x.judgeCount_leaves _ c u) (by decide) (x.judgeCount_collector _ c u))
    (fun x hx => State.judgeCount_judges hx) fun u _ hu x hx => hx.judgeCount_other hu c

end

/-! ### What else a SYNC starts (R372) -/

/-- The registers that a SYNC of port p brings about, beside the commits and the PDOs. -/
def State.syncArrives (s : State) (p c : Nat) : State :=
  (((s.wrapCount (CAN_PORT.RX_FRAMES p) 32).setN (SYNC_AT p) s.time).setN (SYNC_C p) c).setN (CAN_PORT.LAST_SYNC_COUNTER p) c

/-- What the PDOs of a port write as they are sent. -/
abbrev pdoObjects : List Span :=
  [each CAN_PORT.TX_FRAMES, each PDO_AT, each PDO_COUNT, each PDO_DUE, each PDO_EVT, each PDO_SENT]

theorem State.tpdoSyncs_leaves (s : State) (p : Nat) (c : Option Nat) :
    Leaves pdoObjects [.canQueue, .out] s (forBelow 64 (fun i s => s.tpdoSync (64 * p + i) c) s) :=
  forBelow_leaves (Leaves.refl s) fun _ _ hx => State.tpdoSync_leaves _ c hx (CAN_PORT.TX_FRAMES_wide (inSkip
    (PDO_AT_wide (inSkip (PDO_COUNT_wide (inSkip (PDO_DUE_wide (inSkip (PDO_EVT_wide (inSkip (PDO_SENT_wide inNil)))))))))))
    (by decide)

/-- Without a PDO that waits for it, a SYNC lets none take effect. -/
theorem State.rpdoSyncs_none {s : State} {p : Nat} (h : ∀ i < 32, s.flag (RPDO_HAS (32 * p + i)) = false) :
    forBelow 32 (fun i s => s.rpdoSync (32 * p + i)) s = s := by
  refine forBelow_induct (P := (· = s)) rfl fun i hi x hx => ?_
  subst hx
  rw [State.rpdoSync, h i hi, Bool.false_and, if_neg Bool.false_ne_true]

theorem State.syncReceived_eq {s : State} {p c : Nat} (on : s.canOnBus p = true) :
    s.syncReceived p (some c) = forBelow 32 (fun i s => s.rpdoSync (32 * p + i))
      (forBelow 64 (fun i s => s.tpdoSync (64 * p + i) (some c)) ((s.syncArrives p c).syncJudge p c)) := by
  unfold State.syncReceived
  rw [if_pos on]
  rfl

/-- The registers that a SYNC writes as it arrives. -/
theorem State.syncArrives_leaves (s : State) (p c : Nat) :
    Leaves [one (CAN_PORT.RX_FRAMES p), one (SYNC_AT p), one (SYNC_C p), one (CAN_PORT.LAST_SYNC_COUNTER p)] [] s (s.syncArrives p c) :=
  State.setN_leaves (State.setN_leaves (State.setN_leaves (State.wrapCount_leaves (Leaves.refl s) Covered.here) Covered.here.next)
    Covered.here.next.next) Covered.here.next.next.next

theorem State.syncJudge_leaves_port (s : State) (p c : Nat) :
    Leaves [each COMMIT_CONTROL.LAST_OBJECT, each COMMIT_CONTROL.LAST_REASON, each COMMIT_CONTROL.STATUS]
      [.collector, .landing, .staged] s (s.syncJudge p c) :=
  State.syncJudge_leaves p c (Leaves.refl s) Inside.refl (by decide)

section
variable {s : State} {p t c : Nat}

theorem State.syncArrives_nat (s : State) (p c : Nat) {k : Nat}
    (hk : Outside [one (CAN_PORT.RX_FRAMES p), one (SYNC_AT p), one (SYNC_C p), one (CAN_PORT.LAST_SYNC_COUNTER p)] k) :
    (s.syncArrives p c).nat k = s.nat k := (s.syncArrives_leaves p c).nat_eq hk

/-- The objects of tenants and the registers of commits are none that a SYNC writes as it arrives. -/
theorem outside_syncArrives {k : Nat} (hp : p < 2)
    (hk : 0x230000 ≤ k ∧ k % 256 ≠ 255 ∨ k = CM_VALUE t ∨ k = CM_STAMP t ∨ k = SYNC_OVERFLOW.VALUE p) :
    Outside [one (CAN_PORT.RX_FRAMES p), one (SYNC_AT p), one (SYNC_C p), one (CAN_PORT.LAST_SYNC_COUNTER p)] k := by
  simp only [outside_cons, outside_nil, CAN_PORT.RX_FRAMES, SYNC_AT, SYNC_C, CAN_PORT.LAST_SYNC_COUNTER, CM_VALUE, CM_STAMP,
    SYNC_OVERFLOW.VALUE, internal, and_true] at hk ⊢
  and_intros <;> omega

/-- A commit that waits for a count of the port still waits as the SYNC arrives. -/
theorem mem_syncWaiters_arrives (hp : p < 2) (h : t ∈ s.syncWaiters p) : t ∈ (s.syncArrives p c).syncWaiters p := by
  obtain ⟨size, waits, port⟩ := mem_syncWaiters.1 h
  have value : (s.syncArrives p c).nat (CM_VALUE t) = s.nat (CM_VALUE t) :=
    s.syncArrives_nat p c (outside_syncArrives hp (.inr (.inl rfl)))
  have status : (s.syncArrives p c).nat (COMMIT_CONTROL.STATUS t) = s.nat (COMMIT_CONTROL.STATUS t) :=
    s.syncArrives_nat p c (outside_syncArrives (t := t) hp (.inl (by simp only [COMMIT_CONTROL.STATUS]; omega)))
  have endpoint : (s.syncArrives p c).nat (TENANT.ENDPOINT t) = s.nat (TENANT.ENDPOINT t) :=
    s.syncArrives_nat p c (outside_syncArrives (t := t) hp (.inl (by simp only [TENANT.ENDPOINT]; omega)))
  have same (v : Nat) : (s.syncArrives p c).syncPort t v = s.syncPort t v := by
    simp only [State.syncPort, State.canPortOf, endpoint]
  exact mem_syncWaiters.2 ⟨size, status.trans waits, by rw [value, same, port]⟩

/-- What has been judged as the SYNC arrived has been judged of what waited for it. -/
theorem Judged.before {n : Nat} {x : State} (hp : p < 2) (h : Judged (s.syncArrives p c) n c t x) : Judged s n c t x := by
  have value : (s.syncArrives p c).nat (CM_VALUE t) = s.nat (CM_VALUE t) :=
    s.syncArrives_nat p c (outside_syncArrives hp (.inr (.inl rfl)))
  have stamp : (s.syncArrives p c).nat (CM_STAMP t) = s.nat (CM_STAMP t) :=
    s.syncArrives_nat p c (outside_syncArrives hp (.inr (.inr (.inl rfl))))
  have frame : (s.syncArrives p c).frame = s.frame := (s.syncArrives_leaves p c).parts .frame (by decide)
  have copies : (s.syncArrives p c).staged = s.staged := (s.syncArrives_leaves p c).parts .staged (by decide)
  have staged : (s.syncArrives p c).stagedValues t = s.stagedValues t := by
    simp only [State.stagedValues, State.stagedOf, copies]
  constructor
  · rw [← value, ← stamp, ← frame, ← staged]
    exact h.flagged
  · rw [← value]
    exact h.rejected

/-- An operation that leaves the commit objects and what waits to land leaves the judgement. -/
theorem Judged.leaves {W : List Span} {L : List Part} {n : Nat} {x y : State} (h : Judged s n c t x) (l : Leaves W L x y)
    (landing : .landing ∉ L) (status : Outside W (COMMIT_CONTROL.STATUS t)) (reason : Outside W (COMMIT_CONTROL.LAST_REASON t)) :
    Judged s n c t y := by
  constructor
  · rw [l.nat_eq status, l.parts .landing landing]
    exact h.flagged
  · rw [l.nat_eq status, l.nat_eq reason]
    exact h.rejected

/-- R52: what a SYNC with a counter makes of a commit that waits for a count of its port. -/
theorem State.syncReceived_judges (hp : p < 2) (on : s.canOnBus p = true) (idle : ∀ i < 32, s.flag (RPDO_HAS (32 * p + i)) = false)
    (ht : t ∈ s.syncWaiters p) :
    (s.syncReceived p (some c)).nat (CAN_PORT.LAST_SYNC_COUNTER p) = c ∧
    (s.syncReceived p (some c)).nat (CAN_PORT.RX_FRAMES p) = (s.nat (CAN_PORT.RX_FRAMES p) + 1) % 2 ^ 32 ∧
    Judged s (s.nat (SYNC_OVERFLOW.VALUE p)) c t (s.syncReceived p (some c)) := by
  have judged := State.syncJudge_judges (c := c) (mem_syncWaiters_arrives (c := c) hp ht)
  have arrives := s.syncArrives_leaves p c
  have judging := (s.syncArrives p c).syncJudge_leaves_port p c
  have sending := ((s.syncArrives p c).syncJudge p c).tpdoSyncs_leaves p (some c)
  rw [s.syncArrives_nat p c (outside_syncArrives (t := t) hp (.inr (.inr (.inr rfl))))] at judged
  have still {k : Nat} (h : k = CAN_PORT.LAST_SYNC_COUNTER p ∨ k = CAN_PORT.RX_FRAMES p ∨ ∃ i, k = RPDO_HAS i) :
      (forBelow 64 (fun i s => s.tpdoSync (64 * p + i) (some c)) ((s.syncArrives p c).syncJudge p c)).get k =
        (s.syncArrives p c).get k := by
    rw [sending.get_eq, judging.get_eq]
    all_goals
      simp only [outside_cons, outside_nil, CAN_PORT.TX_FRAMES, PDO_AT, PDO_COUNT, PDO_DUE, PDO_EVT, PDO_SENT,
        COMMIT_CONTROL.LAST_OBJECT, COMMIT_CONTROL.LAST_REASON, COMMIT_CONTROL.STATUS, CAN_PORT.LAST_SYNC_COUNTER,
        CAN_PORT.RX_FRAMES, RPDO_HAS, internal, and_true] at h ⊢
      and_intros <;> omega
  rw [State.syncReceived_eq on, State.rpdoSyncs_none]
  · refine ⟨(congrArg Int.toNat (still (.inl rfl))).trans (State.nat_setN_self _ _ _),
      (congrArg Int.toNat (still (.inr (.inl rfl)))).trans ?_, ?_⟩
    · show (s.syncArrives p c).nat _ = _
      rw [State.syncArrives, State.nat_setN_other, State.nat_setN_other, State.nat_setN_other]
      · exact State.nat_setN_self _ _ _
      all_goals
        simp only [CAN_PORT.RX_FRAMES, CAN_PORT.LAST_SYNC_COUNTER, SYNC_AT, SYNC_C, internal]
        omega
    · refine (judged.before hp).leaves sending (by decide) ?_ ?_
      all_goals
        simp only [outside_cons, outside_nil, CAN_PORT.TX_FRAMES, PDO_AT, PDO_COUNT, PDO_DUE, PDO_EVT, PDO_SENT,
          COMMIT_CONTROL.LAST_REASON, COMMIT_CONTROL.STATUS, internal, and_true]
        and_intros <;> omega
  · intro i hi
    rw [State.flag, still (.inr (.inr ⟨_, rfl⟩)), arrives.get_eq]
    · exact idle i hi
    · simp only [outside_cons, outside_nil, CAN_PORT.RX_FRAMES, SYNC_AT, SYNC_C, CAN_PORT.LAST_SYNC_COUNTER, RPDO_HAS, internal,
        and_true]
      and_intros <;> omega

end

/-! ### Barriers (R55, R57) -/

section
variable {s : State} {t : Nat}

/-- A barrier whose earlier writes have all taken effect, with no COMMIT behind it, closes with its identifier. -/
theorem State.barrierDone_closes {b : OpenBarrier} (t : Nat) (held : s.heldWrites = [])
    (last : (s.barriers.filter fun x => x.tenant == t && x.closes ≤ s.frame && !s.earlierLeft x).getLast? = some b)
    (empty : ∀ x ∈ s.barriers.filter fun x => x.tenant == t && x.closes ≤ s.frame && !s.earlierLeft x, x.commits = []) :
    s.barrierDone t = { s.setN (BARRIER.BARRIER_DONE t) b.id with
      barriers := s.barriers.filter fun y =>
        !(s.barriers.filter fun x => x.tenant == t && x.closes ≤ s.frame && !s.earlierLeft x).contains y } := by
  have none : (s.barriers.filter fun x => x.tenant == t && x.closes ≤ s.frame && !s.earlierLeft x).flatMap
      (fun b => b.commits) = [] := List.flatMap_eq_nil_iff.2 empty
  have closed : s.barrierClose t = { s.setN (BARRIER.BARRIER_DONE t) b.id with
      barriers := s.barriers.filter fun y =>
        !(s.barriers.filter fun x => x.tenant == t && x.closes ≤ s.frame && !s.earlierLeft x).contains y } := by
    unfold State.barrierClose
    dsimp only
    rw [last, none]
    rfl
  unfold State.barrierDone
  dsimp only
  rw [closed]
  show releaseWrites (s.heldWrites.filter _) _ = _
  rw [held]
  rfl

/-- R57: a COMMIT behind an open barrier waits for it with STATUS 1. -/
theorem State.commitWrite_waits {c : Nat} (open_ : (s.barrierEnd t).isSome = true) (idle : s.committing t = false) :
    s.commitWrite t c = ((({ s with barriers := commitBehind t c s.barriers } : State).setN (CM_VALUE t) c).setN
      (COMMIT_CONTROL.STATUS t) 1) := by
  unfold State.commitWrite State.commitWaits
  rw [if_pos open_]
  exact if_neg (by rw [Bool.not_eq_true]; exact idle)

end

/-! ### The audit sweep (R62 to R64) -/

section
variable {s : State} {d : Nat}

theorem State.diePublish_published (s : State) (d applied expected : Nat) (kind : Kind) :
    (s.diePublish d applied expected kind).nat (DIE_DIGEST.APPLIED_CD d) = applied ∧
    (s.diePublish d applied expected kind).nat (DIE_DIGEST.EXPECTED_CD d) = expected := by
  have published : ((s.setN (DIE_DIGEST.APPLIED_CD d) applied).setN (DIE_DIGEST.EXPECTED_CD d) expected).nat
      (DIE_DIGEST.APPLIED_CD d) = applied ∧ ((s.setN (DIE_DIGEST.APPLIED_CD d) applied).setN (DIE_DIGEST.EXPECTED_CD d)
        expected).nat (DIE_DIGEST.EXPECTED_CD d) = expected := by
    refine ⟨(State.nat_setN_other _ ?_).trans (State.nat_setN_self _ _ _), State.nat_setN_self _ _ _⟩
    simp only [DIE_DIGEST.APPLIED_CD, DIE_DIGEST.EXPECTED_CD]
    omega
  unfold State.diePublish
  dsimp only
  split
  · exact published
  · exact published

/-- R64: digests that differ are recorded. -/
theorem State.diePublish_raises (s : State) (hd : d < 4) {applied expected : Nat} (kind : Kind) (h : applied ≠ expected) :
    Raises s (s.diePublish d applied expected kind) kind (siteDie d 0xE0) 0
      [f8 (d + 1), f32 (applied % 2 ^ 32 : Nat), f32 (expected % 2 ^ 32 : Nat)] := by
  unfold State.diePublish
  dsimp only
  rw [if_neg h]
  have left : Leaves [one (DIE_DIGEST.APPLIED_CD d), one (DIE_DIGEST.EXPECTED_CD d)] [] s
      ((s.setN (DIE_DIGEST.APPLIED_CD d) applied).setN (DIE_DIGEST.EXPECTED_CD d) expected) :=
    State.setN_leaves (State.setN_leaves (Leaves.refl s) Covered.here) Covered.here.next
  refine (Follows.of_leaves left (by decide) ?_ (by simp only [State.setN_collector, List.prefix_refl])).raises _ _ _ _ _
  simp only [outside_cons, outside_nil, DIE_DIGEST.APPLIED_CD, DIE_DIGEST.EXPECTED_CD, TICK_OFFSET, internal, and_true]
  and_intros <;> omega

theorem State.diePublish_collector (s : State) (d applied expected : Nat) (kind : Kind) :
    s.collector <+: (s.diePublish d applied expected kind).collector := by
  unfold State.diePublish
  dsimp only
  split
  · exact List.prefix_refl s.collector
  · exact List.prefix_append s.collector _

/-- R64: the re-check of a die publishes anew. -/
theorem State.dieRecheck_due (upset : Nat) (up : s.portsReady = true) (due : s.nat (DRIFT_DUE d) = 2) (link : s.linkUp d = true) :
    s.dieRecheck d upset = (s.setN (DRIFT_DUE d) 0).diePublish d ((s.dieDigest d).xor (upset % 2 ^ 64))
      (s.digest (digestedOnDie d)) .DRIFT_PERSISTENT := by
  unfold State.dieRecheck
  rw [if_pos (by simp only [up, due, link, decide_true, Bool.and_self])]

/-- What a sweep holds of the device: it runs, since when, and the digest. -/
structure Swept (at_ device : Nat) (x : State) : Prop where
  runs : x.nat SW_RUNS = 1
  since : x.nat SW_AT = at_
  digest : x.nat SW_DEVICE = device

theorem Swept.setN {at_ device : Nat} {x : State} (h : Swept at_ device x) {k : Nat} (v : Nat)
    (hk : k ≠ SW_RUNS ∧ k ≠ SW_AT ∧ k ≠ SW_DEVICE) : Swept at_ device (x.setN k v) :=
  ⟨(State.nat_setN_other _ hk.1.symm).trans h.runs, (State.nat_setN_other _ hk.2.1.symm).trans h.since,
    (State.nat_setN_other _ hk.2.2.symm).trans h.digest⟩

theorem sweepKeys_apart (i : Nat) : (SW_TENANT i ≠ SW_RUNS ∧ SW_TENANT i ≠ SW_AT ∧ SW_TENANT i ≠ SW_DEVICE) ∧
    (SW_GEN i ≠ SW_RUNS ∧ SW_GEN i ≠ SW_AT ∧ SW_GEN i ≠ SW_DEVICE) ∧
    (SW_EXPECT i ≠ SW_RUNS ∧ SW_EXPECT i ≠ SW_AT ∧ SW_EXPECT i ≠ SW_DEVICE) ∧
    (SW_APPLIED i ≠ SW_RUNS ∧ SW_APPLIED i ≠ SW_AT ∧ SW_APPLIED i ≠ SW_DEVICE) ∧
    ∀ j, SW_EXPECT i ≠ SW_APPLIED j := by
  simp only [SW_TENANT, SW_GEN, SW_EXPECT, SW_APPLIED, SW_RUNS, SW_AT, SW_DEVICE, internal]
  and_intros <;> omega

/-- R62: the sweep that starts, on what it finds. -/
theorem State.sweepStart_starts (up : s.portsReady = true) (idle : s.flag SW_RUNS = false) (point : s.tick % 100000 = 0)
    (boundary : s.nat LAST_BOUNDARY = s.time) (hd : d < 4) :
    Swept s.time (s.digest digestedAll) s.sweepStart ∧ s.sweepStart.nat (SW_EXPECT d) = s.digest (digestedOnDie d) := by
  unfold State.sweepStart
  rw [if_pos (by simp only [up, idle, point, boundary, Bool.not_false, BEq.rfl, Bool.and_self])]
  dsimp only
  generalize s.digest digestedAll = device
  have started : Swept s.time device
      ((((s.setN SW_RUNS 1).setN SW_AT s.time).setN SW_DEVICE device).setN SW_GLOBAL (s.nat DEVICE_DIGEST.GLOBAL_GENERATION)) := by
    refine Swept.setN ⟨?_, ?_, State.nat_setN_self _ _ _⟩ _ (by decide)
    · rw [State.nat_setN_other _ (by decide), State.nat_setN_other _ (by decide), State.nat_setN_self]
    · rw [State.nat_setN_other _ (by decide), State.nat_setN_self]
  refine forBelow_establishes (Q := Swept s.time device) (P := fun x => Swept s.time device x ∧
    x.nat (SW_EXPECT d) = s.digest (digestedOnDie d)) hd ?_ (fun j _ x hx => ?_) (fun x hx => ⟨?_, ?_⟩) fun j _ hj x hx => ⟨?_, ?_⟩
  · refine Swept.setN ?_ _ (by decide)
    refine forBelow_induct (P := Swept s.time device) started fun t _ x hx => ?_
    exact (hx.setN _ (sweepKeys_apart t).1).setN _ (sweepKeys_apart t).2.1
  · exact (hx.setN _ (sweepKeys_apart j).2.2.1).setN _ (sweepKeys_apart j).2.2.2.1
  · exact (hx.setN _ (sweepKeys_apart d).2.2.1).setN _ (sweepKeys_apart d).2.2.2.1
  · rw [State.nat_setN_other _ ((sweepKeys_apart d).2.2.2.2 d), State.nat_setN_self]
  · exact (hx.1.setN _ (sweepKeys_apart j).2.2.1).setN _ (sweepKeys_apart j).2.2.2.1
  · rw [State.nat_setN_other _ ((sweepKeys_apart d).2.2.2.2 j), State.nat_setN_other, hx.2]
    simp only [SW_EXPECT, internal]
    omega

end

/-! ### The end of a sweep (R62, R64) -/

/-- What the end of a sweep rests on, or has published of the device. -/
def sweepHolds (k : Nat) : Prop :=
  k = SW_RUNS ∨ k = SW_DIES ∨ k = DEVICE_DIGEST.DIGEST ∨ k = DEVICE_DIGEST.SWEEPS ∨ k = TICK_OFFSET ∨ (∃ i, k = SW_TENANT i) ∨
    (∃ i, k = SW_EXPECT i) ∨ ∃ i, k = SW_APPLIED i

theorem sweepHolds_runs : sweepHolds SW_RUNS := .inl rfl
theorem sweepHolds_dies : sweepHolds SW_DIES := .inr (.inl rfl)
theorem sweepHolds_digest : sweepHolds DEVICE_DIGEST.DIGEST := .inr (.inr (.inl rfl))
theorem sweepHolds_sweeps : sweepHolds DEVICE_DIGEST.SWEEPS := .inr (.inr (.inr (.inl rfl)))
theorem sweepHolds_offset : sweepHolds TICK_OFFSET := .inr (.inr (.inr (.inr (.inl rfl))))
theorem sweepHolds_tenant (i : Nat) : sweepHolds (SW_TENANT i) := .inr (.inr (.inr (.inr (.inr (.inl ⟨i, rfl⟩)))))
theorem sweepHolds_expect (i : Nat) : sweepHolds (SW_EXPECT i) := .inr (.inr (.inr (.inr (.inr (.inr (.inl ⟨i, rfl⟩))))))
theorem sweepHolds_applied (i : Nat) : sweepHolds (SW_APPLIED i) := .inr (.inr (.inr (.inr (.inr (.inr (.inr ⟨i, rfl⟩))))))

/-- In x the sweep of s still holds all that; no time has passed. -/
structure SweepKept (s x : State) : Prop where
  get : ∀ k, sweepHolds k → x.get k = s.get k
  time : x.time = s.time
  collector : s.collector <+: x.collector

theorem SweepKept.refl (s : State) : SweepKept s s := ⟨fun _ _ => rfl, rfl, List.prefix_refl _⟩

theorem SweepKept.nat {s x : State} (h : SweepKept s x) {k : Nat} (hk : sweepHolds k) : x.nat k = s.nat k := by
  simp only [State.nat, h.get k hk]

theorem SweepKept.follows {s x : State} (h : SweepKept s x) : Follows s x :=
  ⟨h.time, h.get _ sweepHolds_offset, h.collector⟩

/-- What the end of a sweep writes of tenants and dies is none of it. -/
theorem ne_of_sweepHolds {j k : Nat} (hk : sweepHolds k) (hj : 0x232007 ≤ j ∧ j < 0x232400 ∨ j = DEVICE_DIGEST.DRIFT_EVENTS ∨
    j = SW_DRIFT ∨ ∃ d, j = DRIFT_DUE d) : k ≠ j := by
  obtain hk | hk | hk | hk | hk | ⟨i, hk⟩ | ⟨i, hk⟩ | ⟨i, hk⟩ := hk <;> obtain hj | hj | hj | ⟨d, hj⟩ := hj <;>
    simp only [SW_RUNS, SW_DIES, DEVICE_DIGEST.DIGEST, DEVICE_DIGEST.SWEEPS, TICK_OFFSET, SW_TENANT, SW_EXPECT, SW_APPLIED,
      DEVICE_DIGEST.DRIFT_EVENTS, SW_DRIFT, DRIFT_DUE, internal] at hk hj <;> omega

theorem SweepKept.setN {s x : State} (h : SweepKept s x) {j : Nat} (v : Nat) (hj : 0x232007 ≤ j ∧ j < 0x232400 ∨
    j = DEVICE_DIGEST.DRIFT_EVENTS ∨ j = SW_DRIFT ∨ ∃ d, j = DRIFT_DUE d) : SweepKept s (x.setN j v) :=
  ⟨fun k hk => (x.get_setN_other _ _ _ (ne_of_sweepHolds hk hj)).trans (h.get k hk), h.time,
    by simpa only [State.setN_collector] using h.collector⟩

theorem SweepKept.diePublish {s x : State} (h : SweepKept s x) {d : Nat} (hd : d < 4) (applied expected : Nat) (kind : Kind) :
    SweepKept s (x.diePublish d applied expected kind) := by
  have published := (h.setN (j := DIE_DIGEST.APPLIED_CD d) applied (.inl (by simp only [DIE_DIGEST.APPLIED_CD]; omega))).setN
    (j := DIE_DIGEST.EXPECTED_CD d) expected (.inl (by simp only [DIE_DIGEST.EXPECTED_CD]; omega))
  refine ⟨fun k hk => ?_, ?_, h.collector.trans (x.diePublish_collector d applied expected kind)⟩
  · rw [← published.get k hk]
    unfold State.diePublish
    dsimp only
    split <;> rfl
  · rw [← published.time]
    unfold State.diePublish
    dsimp only
    split <;> rfl

/-- R64: the end of the sweep of die d, which `upset` has changed since it was written. -/
def State.sweepDie (upset d : Nat) (s : State) : State :=
  if s.bit SW_DIES d then
    let applied := (s.nat (SW_APPLIED d)).xor (upset % 2 ^ 64)
    let s := s.diePublish d applied (s.nat (SW_EXPECT d)) .DRIFT
    if applied = s.nat (SW_EXPECT d) then s
    else ((s.count DEVICE_DIGEST.DRIFT_EVENTS 0xFFFF).setN SW_DRIFT 1).setN (DRIFT_DUE d) 1
  else s

/-- What the end of a sweep publishes of the device. -/
def State.sweepDevice (s : State) : State :=
  let s := ((s.setN SW_RUNS 0).setN DEVICE_DIGEST.DIGEST (s.nat SW_DEVICE)).setN DEVICE_DIGEST.SNAPSHOT_FRAME
    (s.clockAt (s.nat SW_AT) % 2 ^ 48 / 20 % 2 ^ 32)
  (s.setN DEVICE_DIGEST.SNAPSHOT_GENERATION (s.nat SW_GLOBAL)).wrapCount DEVICE_DIGEST.SWEEPS 32

/-- What it publishes of the tenants. -/
def State.sweepTenants (s : State) : State :=
  forBelow 16 (fun t s => (s.setN (TENANT_DIGEST.DIGEST_TN t) (s.nat (SW_TENANT t))).setN (TENANT_GENERATION.SNAP_GEN_TN t)
    (s.nat (SW_GEN t))) s

theorem State.sweepEnd_running {s : State} (upsets : List Nat) (up : s.portsReady = true) (runs : s.flag SW_RUNS = true) :
    s.sweepEnd upsets =
      forBelow 4 (fun d s => s.sweepDie (upsets.getD d 0) d) (s.sweepDevice.sweepTenants.setN SW_DRIFT 0) := by
  unfold State.sweepEnd
  rw [if_neg (by simp only [up, runs, Bool.not_true, Bool.or_self, Bool.false_eq_true, not_false_eq_true])]
  rfl

/-- What the sweep of die d shows at its end (R64), with a applied where b is expected. -/
structure SweptDie (s : State) (d a b : Nat) (x : State) : Prop where
  applied : x.nat (DIE_DIGEST.APPLIED_CD d) = a
  expected : x.nat (DIE_DIGEST.EXPECTED_CD d) = b
  drift : a ≠ b → x.nat (DRIFT_DUE d) = 1 ∧
    Raises s x .DRIFT (siteDie d 0xE0) 0 [f8 (d + 1), f32 (a % 2 ^ 32 : Nat), f32 (b % 2 ^ 32 : Nat)]

section
variable {s x : State} {upset d e : Nat}

/-- What the end of the sweep of die e writes. -/
theorem State.sweepDie_leaves (x : State) (upset e : Nat) :
    Leaves [one (DIE_DIGEST.APPLIED_CD e), one (DIE_DIGEST.EXPECTED_CD e), one DEVICE_DIGEST.DRIFT_EVENTS, one SW_DRIFT,
      one (DRIFT_DUE e)] [.collector] x (x.sweepDie upset e) := by
  unfold State.sweepDie
  dsimp only
  have published := State.diePublish_leaves (W := [one (DIE_DIGEST.APPLIED_CD e), one (DIE_DIGEST.EXPECTED_CD e),
    one DEVICE_DIGEST.DRIFT_EVENTS, one SW_DRIFT, one (DRIFT_DUE e)]) (L := [.collector]) e
      ((x.nat (SW_APPLIED e)).xor (upset % 2 ^ 64)) (x.nat (SW_EXPECT e)) .DRIFT (Leaves.refl x) (inBoth (inBoth inNil)) (by decide)
  split
  · split
    · exact published
    · exact State.setN_leaves (State.setN_leaves (State.count_leaves published Covered.here.next.next)
        Covered.here.next.next.next) Covered.here.next.next.next.next
  · exact Leaves.refl x

theorem State.sweepDie_collector (x : State) (upset e : Nat) : x.collector <+: (x.sweepDie upset e).collector := by
  unfold State.sweepDie
  dsimp only
  split
  · split
    · exact x.diePublish_collector e _ _ _
    · simp only [State.setN_collector, State.count_collector]
      exact x.diePublish_collector e _ _ _
  · exact List.prefix_refl _

theorem SweepKept.sweepDie (h : SweepKept s x) (hd : d < 4) (upset : Nat) : SweepKept s (x.sweepDie upset d) := by
  unfold State.sweepDie
  dsimp only
  split
  · have published := h.diePublish hd ((x.nat (SW_APPLIED d)).xor (upset % 2 ^ 64)) (x.nat (SW_EXPECT d)) .DRIFT
    split
    · exact published
    · exact ((published.setN _ (.inr (.inl rfl))).setN _ (.inr (.inr (.inl rfl)))).setN _ (.inr (.inr (.inr ⟨d, rfl⟩)))
  · exact h

/-- R64: a die that the sweep takes in is published, and its drift is recorded. -/
theorem State.sweepDie_sweeps (h : SweepKept s x) (hd : d < 4) (taken : s.bit SW_DIES d = true) :
    SweptDie s d ((s.nat (SW_APPLIED d)).xor (upset % 2 ^ 64)) (s.nat (SW_EXPECT d)) (x.sweepDie upset d) := by
  have applied : x.nat (SW_APPLIED d) = s.nat (SW_APPLIED d) := h.nat (sweepHolds_applied d)
  have expected : x.nat (SW_EXPECT d) = s.nat (SW_EXPECT d) := h.nat (sweepHolds_expect d)
  have bit : x.bit SW_DIES d = true := by
    rw [State.bit, h.nat sweepHolds_dies]
    exact taken
  have still (a b : Nat) : (x.diePublish d a b .DRIFT).nat (SW_EXPECT d) = s.nat (SW_EXPECT d) :=
    (h.diePublish hd a b .DRIFT).nat (sweepHolds_expect d)
  unfold State.sweepDie
  dsimp only
  rw [if_pos bit, applied, expected, still]
  generalize (s.nat (SW_APPLIED d)).xor (upset % 2 ^ 64) = a
  generalize s.nat (SW_EXPECT d) = b
  obtain ⟨shown, compared⟩ := x.diePublish_published d a b .DRIFT
  split
  · next same => exact ⟨shown, compared, fun differ => absurd same differ⟩
  · next differ =>
    have raised := (x.diePublish_raises hd .DRIFT differ).of_follows h.follows
    refine ⟨?_, ?_, fun _ => ⟨State.nat_setN_self _ _ _, raised.mono ?_⟩⟩
    · rw [State.nat_setN_other, State.nat_setN_other, State.nat_count_other, shown]
      all_goals
        simp only [DIE_DIGEST.APPLIED_CD, DEVICE_DIGEST.DRIFT_EVENTS, SW_DRIFT, DRIFT_DUE, internal]
        omega
    · rw [State.nat_setN_other, State.nat_setN_other, State.nat_count_other, compared]
      all_goals
        simp only [DIE_DIGEST.EXPECTED_CD, DEVICE_DIGEST.DRIFT_EVENTS, SW_DRIFT, DRIFT_DUE, internal]
        omega
    · simp only [State.setN_collector, State.count_collector, List.prefix_refl]

/-- The end of the sweep of another die leaves what this one shows. -/
theorem SweptDie.other {a b : Nat} (h : SweptDie s d a b x) (hd : d < 4) (he : e < 4) (hde : e ≠ d) (upset : Nat) :
    SweptDie s d a b (x.sweepDie upset e) := by
  have left := x.sweepDie_leaves upset e
  have apart : Outside [one (DIE_DIGEST.APPLIED_CD e), one (DIE_DIGEST.EXPECTED_CD e), one DEVICE_DIGEST.DRIFT_EVENTS,
      one SW_DRIFT, one (DRIFT_DUE e)] (DIE_DIGEST.APPLIED_CD d) ∧
      Outside [one (DIE_DIGEST.APPLIED_CD e), one (DIE_DIGEST.EXPECTED_CD e), one DEVICE_DIGEST.DRIFT_EVENTS,
        one SW_DRIFT, one (DRIFT_DUE e)] (DIE_DIGEST.EXPECTED_CD d) ∧
      Outside [one (DIE_DIGEST.APPLIED_CD e), one (DIE_DIGEST.EXPECTED_CD e), one DEVICE_DIGEST.DRIFT_EVENTS,
        one SW_DRIFT, one (DRIFT_DUE e)] (DRIFT_DUE d) := by
    simp only [outside_cons, outside_nil, DIE_DIGEST.APPLIED_CD, DIE_DIGEST.EXPECTED_CD, DEVICE_DIGEST.DRIFT_EVENTS, SW_DRIFT,
      DRIFT_DUE, internal, and_true]
    and_intros <;> omega
  refine ⟨(left.nat_eq apart.1).trans h.applied, (left.nat_eq apart.2.1).trans h.expected, fun differ => ?_⟩
  obtain ⟨due, raised⟩ := h.drift differ
  exact ⟨(left.nat_eq apart.2.2).trans due, raised.mono (x.sweepDie_collector upset e)⟩

end

/-! ### What the end of a sweep publishes together -/

section
variable {s : State}

theorem State.sweepDevice_leaves (s : State) : Leaves [one SW_RUNS, one DEVICE_DIGEST.DIGEST, one DEVICE_DIGEST.SNAPSHOT_FRAME,
    one DEVICE_DIGEST.SNAPSHOT_GENERATION, one DEVICE_DIGEST.SWEEPS] [] s s.sweepDevice := by
  unfold State.sweepDevice
  exact State.wrapCount_leaves (State.setN_leaves (State.setN_leaves (State.setN_leaves (State.setN_leaves (Leaves.refl s)
    Covered.here) Covered.here.next) Covered.here.next.next) Covered.here.next.next.next) Covered.here.next.next.next.next

/-- No other internal register is touched by what is published of the device. -/
theorem State.sweepDevice_get (s : State) {k : Nat} (hk : k % 256 = 255 ∧ k ≠ SW_RUNS) : s.sweepDevice.get k = s.get k := by
  refine s.sweepDevice_leaves.get_eq ?_
  simp only [outside_cons, outside_nil, SW_RUNS, DEVICE_DIGEST.DIGEST, DEVICE_DIGEST.SNAPSHOT_FRAME,
    DEVICE_DIGEST.SNAPSHOT_GENERATION, DEVICE_DIGEST.SWEEPS, internal, and_true] at hk ⊢
  and_intros <;> omega

theorem State.sweepDevice_sweeps (s : State) (i : Nat) : s.sweepDevice.nat (SW_TENANT i) = s.nat (SW_TENANT i) ∧
    s.sweepDevice.nat (SW_APPLIED i) = s.nat (SW_APPLIED i) ∧ s.sweepDevice.nat (SW_EXPECT i) = s.nat (SW_EXPECT i) ∧
    s.sweepDevice.nat SW_DIES = s.nat SW_DIES := by
  have kept (f j : Nat) (hf : f < 4096) (other : f ≠ 342) : s.sweepDevice.nat (internal f j) = s.nat (internal f j) := by
    rw [State.nat, State.sweepDevice_get s ⟨by simp only [internal]; omega, by simp only [SW_RUNS, internal]; omega⟩]
    rfl
  exact ⟨kept 345 i (by decide) (by decide), kept 349 i (by decide) (by decide), kept 346 i (by decide) (by decide),
    kept 350 0 (by decide) (by decide)⟩

theorem State.sweepDevice_follows (s : State) : Follows s s.sweepDevice :=
  ⟨rfl, s.sweepDevice_get (by decide), by simp only [State.sweepDevice, State.wrapCount, State.setN_collector, List.prefix_refl]⟩

theorem State.sweepDevice_publishes (s : State) : s.sweepDevice.get SW_RUNS = 0 ∧
    s.sweepDevice.nat DEVICE_DIGEST.DIGEST = s.nat SW_DEVICE ∧
    s.sweepDevice.nat DEVICE_DIGEST.SWEEPS = (s.nat DEVICE_DIGEST.SWEEPS + 1) % 2 ^ 32 := by
  unfold State.sweepDevice State.wrapCount
  dsimp only
  refine ⟨?_, ?_, ?_⟩
  · rw [State.get_setN_other _ _ _ _ (by decide), State.get_setN_other _ _ _ _ (by decide), State.get_setN_other _ _ _ _ (by decide),
      State.get_setN_other _ _ _ _ (by decide), State.get_setN_self]
    rfl
  · rw [State.nat_setN_other _ (by decide), State.nat_setN_other _ (by decide), State.nat_setN_other _ (by decide),
      State.nat_setN_self]
  · rw [State.nat_setN_self, State.nat_setN_other _ (by decide), State.nat_setN_other _ (by decide),
      State.nat_setN_other _ (by decide), State.nat_setN_other _ (by decide)]

theorem SweepKept.tenant {x : State} (h : SweepKept s x) {t : Nat} (ht : t < 16) (v w : Nat) :
    SweepKept s ((x.setN (TENANT_DIGEST.DIGEST_TN t) v).setN (TENANT_GENERATION.SNAP_GEN_TN t) w) :=
  (h.setN v (.inl (by simp only [TENANT_DIGEST.DIGEST_TN]; omega))).setN w
    (.inl (by simp only [TENANT_GENERATION.SNAP_GEN_TN]; omega))

/-- The digests of all tenants are published together. -/
theorem State.sweepTenants_publishes (s : State) :
    SweepKept s s.sweepTenants ∧ ∀ u < 16, s.sweepTenants.nat (TENANT_DIGEST.DIGEST_TN u) = s.nat (SW_TENANT u) := by
  refine ⟨forBelow_induct (P := SweepKept s) (.refl s) fun t ht x hx => hx.tenant ht _ _, fun u hu => ?_⟩
  refine forBelow_establishes (Q := SweepKept s) (P := fun x => x.nat (TENANT_DIGEST.DIGEST_TN u) = s.nat (SW_TENANT u)) hu (.refl s)
    (fun t ht x hx => hx.tenant ht _ _) (fun x hx => ?_) fun t ht htu x hx => ?_
  · rw [State.nat_setN_other, State.nat_setN_self, hx.nat (sweepHolds_tenant u)]
    simp only [TENANT_DIGEST.DIGEST_TN, TENANT_GENERATION.SNAP_GEN_TN]
    omega
  · rw [State.nat_setN_other, State.nat_setN_other, hx]
    all_goals
      simp only [TENANT_DIGEST.DIGEST_TN, TENANT_GENERATION.SNAP_GEN_TN]
      omega

/-- R62, R64: at its end a sweep has published all that it holds. -/
theorem State.sweepEnd_publishes (upsets : List Nat) (up : s.portsReady = true) (runs : s.flag SW_RUNS = true) {d : Nat} (hd : d < 4) :
    (s.sweepEnd upsets).get SW_RUNS = 0 ∧ (s.sweepEnd upsets).nat DEVICE_DIGEST.DIGEST = s.nat SW_DEVICE ∧
    (s.sweepEnd upsets).nat DEVICE_DIGEST.SWEEPS = (s.nat DEVICE_DIGEST.SWEEPS + 1) % 2 ^ 32 ∧
    (∀ u < 16, (s.sweepEnd upsets).nat (TENANT_DIGEST.DIGEST_TN u) = s.nat (SW_TENANT u)) ∧
    (s.bit SW_DIES d = true → SweptDie s d ((s.nat (SW_APPLIED d)).xor (upsets.getD d 0 % 2 ^ 64)) (s.nat (SW_EXPECT d))
      (s.sweepEnd upsets)) := by
  obtain ⟨stopped, digest, sweeps⟩ := s.sweepDevice_publishes
  obtain ⟨kept, tenants⟩ := s.sweepDevice.sweepTenants_publishes
  have before := kept.setN 0 (.inr (.inr (.inl rfl)))
  rw [State.sweepEnd_running upsets up runs]
  have sweep : ∀ j < 4, ∀ x, SweepKept s.sweepDevice x → SweepKept s.sweepDevice (x.sweepDie (upsets.getD j 0) j) :=
    fun j hj x hx => hx.sweepDie hj _
  have after := forBelow_induct before sweep
  refine ⟨(after.get _ sweepHolds_runs).trans stopped, (after.nat sweepHolds_digest).trans digest,
    (after.nat sweepHolds_sweeps).trans sweeps, fun u hu => ?_, fun taken => ?_⟩
  · refine forBelow_induct (P := fun x => x.nat (TENANT_DIGEST.DIGEST_TN u) = s.nat (SW_TENANT u)) ?_ fun j hj x hx => ?_
    · rw [State.nat_setN_other, tenants u hu, (s.sweepDevice_sweeps u).1]
      simp only [TENANT_DIGEST.DIGEST_TN, SW_DRIFT, internal]
      omega
    · rw [(x.sweepDie_leaves _ j).nat_eq, hx]
      simp only [outside_cons, outside_nil, DIE_DIGEST.APPLIED_CD, DIE_DIGEST.EXPECTED_CD, DEVICE_DIGEST.DRIFT_EVENTS, SW_DRIFT,
        DRIFT_DUE, TENANT_DIGEST.DIGEST_TN, internal, and_true]
      and_intros <;> omega
  · obtain ⟨-, applied, expected, dies⟩ := s.sweepDevice_sweeps d
    have swept : SweptDie s.sweepDevice d ((s.nat (SW_APPLIED d)).xor (upsets.getD d 0 % 2 ^ 64)) (s.nat (SW_EXPECT d))
        (forBelow 4 (fun d s => s.sweepDie (upsets.getD d 0) d) (s.sweepDevice.sweepTenants.setN SW_DRIFT 0)) := by
      refine forBelow_establishes hd before sweep (fun x hx => ?_) fun j hj hjd x hx => hx.other hd hj hjd _
      rw [← applied, ← expected]
      exact State.sweepDie_sweeps hx hd (by rw [State.bit, dies]; exact taken)
    refine ⟨swept.applied, swept.expected, fun differ => ?_⟩
    obtain ⟨due, raised⟩ := swept.drift differ
    exact ⟨due, .of_follows s.sweepDevice_follows raised⟩

end

section
variable {s : State} {t : Nat}

theorem State.flag_of_nat {k : Nat} (h : s.nat k ≠ 0) : s.flag k = true := by
  rw [State.flag, bne_iff_ne]
  exact fun zero => h (by rw [State.nat, zero]; rfl)

/-- R42: the last acknowledgement within the wait. -/
theorem State.stageAck_accepts (staging : s.nat (COMMIT_CONTROL.STATUS t) = 2) (acked : s.allAcked t = true)
    (early : s.frame < s.nat (CM_STAGE_END t)) : s.stageAck t = s.commitAccept t :=
  if_pos (by simp only [staging, acked, early, decide_true, Bool.and_self])

theorem State.stageAck_plain (staging : s.nat (COMMIT_CONTROL.STATUS t) = 2) (acked : s.allAcked t = true)
    (early : s.frame < s.nat (CM_STAGE_END t)) (plain : (s.nat (CM_VALUE t)).testBit 24 = false) :
    (s.stageAck t).nat (COMMIT_CONTROL.STATUS t) = 3 ∧ (s.stageAck t).nat (COMMIT_CONTROL.LAST_REASON t) = 0 ∧
      (⟨t, s.frame + 2, s.time, .commit (s.stagedValues t), false⟩ : Landing) ∈ (s.stageAck t).landing := by
  rw [State.stageAck_accepts staging acked early, State.commitAccept_plain s t plain]
  refine ⟨State.commitFlag_status _ _ _, ?_, State.commitFlag_lands _ _ _⟩
  rw [State.commitFlag_nat, State.nat_setN_other, State.nat_setN_self]
  all_goals
    simp only [COMMIT_CONTROL.STATUS, COMMIT_CONTROL.LAST_REASON, COMMIT_CONTROL.LAST_OBJECT]
    omega

theorem State.stageAck_sync (staging : s.nat (COMMIT_CONTROL.STATUS t) = 2) (acked : s.allAcked t = true)
    (early : s.frame < s.nat (CM_STAGE_END t)) (sync : (s.nat (CM_VALUE t)).testBit 24 = true) :
    (s.stageAck t).nat (COMMIT_CONTROL.STATUS t) = 4 ∧ (s.stageAck t).nat (CM_STAMP t) = s.time ∧
      (s.stageAck t).landing = s.landing := by
  rw [State.stageAck_accepts staging acked early, State.commitAccept_sync s t sync]
  refine ⟨?_, State.nat_setN_self _ _ _, by rw [State.setN_landing, State.setN_landing, State.setN_landing, State.setN_landing]⟩
  rw [State.nat_setN_other, State.nat_setN_self]
  simp only [COMMIT_CONTROL.STATUS, CM_STAMP, internal]
  omega

/-- R42: without it. -/
theorem State.stageTimeout_rejects (staging : s.nat (COMMIT_CONTROL.STATUS t) = 2) (late : s.nat (CM_STAGE_END t) ≤ s.frame) :
    s.stageTimeout t = s.commitReject t CR.STAGE_ACK 0 :=
  if_pos (by simp only [staging, late, decide_true, Bool.and_self])

/-- R64: the re-check of die d shows both digests anew, and a difference that persists is recorded. -/
theorem State.recheck_publishes (s : State) {d : Nat} (hd : d < 4) (a b : Nat) :
    let x := (s.setN (DRIFT_DUE d) 0).diePublish d a b .DRIFT_PERSISTENT
    x.flag (DRIFT_DUE d) = false ∧ x.nat (DIE_DIGEST.APPLIED_CD d) = a ∧ x.nat (DIE_DIGEST.EXPECTED_CD d) = b ∧
      (a ≠ b → Raises s x .DRIFT_PERSISTENT (siteDie d 0xE0) 0
        [f8 (d + 1), f32 (a % 2 ^ 32 : Nat), f32 (b % 2 ^ 32 : Nat)]) := by
  have cleared : Follows s (s.setN (DRIFT_DUE d) 0) := by
    refine .of_leaves (W := [one (DRIFT_DUE d)]) (L := []) (State.setN_leaves (Leaves.refl s) Covered.here) (by decide) ?_ ?_
    · simp only [outside_cons, outside_nil, DRIFT_DUE, TICK_OFFSET, internal, and_true]
      omega
    · rw [State.setN_collector]
  obtain ⟨shown, compared⟩ := (s.setN (DRIFT_DUE d) 0).diePublish_published d a b .DRIFT_PERSISTENT
  refine ⟨?_, shown, compared, fun differ => .of_follows cleared (State.diePublish_raises _ hd _ differ)⟩
  have left := State.diePublish_leaves (L := [.collector]) d a b .DRIFT_PERSISTENT (Leaves.refl (s.setN (DRIFT_DUE d) 0))
    Inside.refl (by decide)
  rw [State.flag, left.get_eq, State.get_setN_self]
  · rfl
  · simp only [outside_cons, outside_nil, DIE_DIGEST.APPLIED_CD, DIE_DIGEST.EXPECTED_CD, DRIFT_DUE, internal, and_true]
    and_intros <;> omega

end

/-- Settles O21: each wait by what ends it, and the sweep by what it starts with and what it publishes. -/
theorem commitsAndAudits : Obligations.CommitsAndAudits := by
  unfold Obligations.CommitsAndAudits
  refine ⟨fun t p c b s => ⟨fun staging acked early => ⟨fun plain => ?_, fun sync => ?_⟩, fun staging unacked late => ?_,
    fun waits port => ⟨fun silent => ?_, fun on idle => ?_⟩, fun last empty held => ?_, fun barred idle => ?_⟩,
    fun d upset upsets s up => ⟨fun idle point boundary => ?_, fun runs => ?_, fun due link => ?_⟩⟩
  · obtain ⟨status, reason, lands⟩ := State.stageAck_plain staging acked early plain
    exact ⟨_, rfl, status, reason, lands⟩
  · obtain ⟨status, stamp, landing⟩ := State.stageAck_sync staging acked early sync
    exact ⟨_, rfl, status, stamp, landing⟩
  · refine ⟨_, congrArg Host.Outcome.next (State.stageTimeout_rejects staging late), State.commitReject_status _ _ _ _,
      State.commitReject_reason _ _ _ _, ?_, s.commitReject_raises t _ 0 (by decide)⟩
    exact (s.commitReject_leaves_kept t CR.STAGE_ACK 0 (by decide)).parts .staged (by decide)
  · obtain ⟨status, reason, raised⟩ := State.syncTimeout_rejects silent (mem_syncWaiters.2 ⟨t.isLt, waits, port⟩)
    exact ⟨_, rfl, status, reason, raised⟩
  · obtain ⟨counter, frames, judged⟩ := State.syncReceived_judges (c := c) p.isLt on idle (mem_syncWaiters.2 ⟨t.isLt, waits, port⟩)
    exact ⟨_, rfl, counter, frames, judged.flagged, judged.rejected⟩
  · have done := State.barrierDone_closes t.val held last empty
    refine ⟨_, congrArg Host.Outcome.next done, ?_, rfl⟩
    exact State.nat_setN_self _ _ _
  · dsimp only
    rw [State.commitWrite_waits barred idle]
    exact ⟨State.nat_setN_self _ _ _, by rw [State.setN_landing, State.setN_landing],
      by rw [State.setN_barriers, State.setN_barriers]⟩
  · obtain ⟨swept, expected⟩ := State.sweepStart_starts up idle point boundary d.isLt
    exact ⟨_, rfl, State.flag_of_nat (by rw [swept.runs]; decide), swept.since, swept.digest, expected⟩
  · obtain ⟨stopped, digest, sweeps, tenants, dies⟩ := State.sweepEnd_publishes upsets up runs d.isLt
    refine ⟨_, rfl, by rw [State.flag, stopped]; rfl, digest, sweeps, fun u => tenants u u.isLt, fun taken => ?_⟩
    obtain ⟨applied, expected, drift⟩ := dies taken
    exact ⟨applied, expected, drift⟩
  · have recheck := State.dieRecheck_due upset up due link
    exact ⟨_, congrArg Host.Outcome.next recheck, State.recheck_publishes s d.isLt _ _⟩

end Sys2Proof.Machine
end

section
/-!
CLAIM O59. Commits, folds and tenant resets as they land.
-/
open Sys2Proof
namespace Sys2Proof.Machine

/-! ### What a change of settings shows -/

/-- The subindexes that show what a change of settings does: the first object, the number of objects, and the subindex. -/
def shownRows : List (Nat × Nat × Nat) :=
  [(0x3800, 32, 4), (0x3200, 512, 43), (0x3400, 512, 2), (0x3A00, 16, 6), (0x3A00, 16, 7), (0x3A00, 16, 8),
   (0x4000, 8192, 11), (0x4000, 8192, 12), (0x4000, 8192, 15), (0x2910, 64, 6), (0x2910, 64, 7), (0x2200, 2, 7), (0x2200, 2, 8),
   (0x2200, 2, 9), (0x2200, 2, 12), (0x2501, 4, 9), (0x2A10, 32, 8), (0x2900, 1, 4), (0x2208, 1, 1), (0x2208, 1, 2),
   (0x2208, 1, 5), (0x2702, 1, 3), (0x2702, 1, 4), (0x2702, 1, 5), (0x2031, 1, 3), (0x2031, 1, 5), (0x2032, 1, 6)]

/-- Those subindexes of those objects alone, and every key beyond the objects. -/
def effects : List Span :=
  ⟨2 ^ 40, 1, 0⟩ :: shownRows.flatMap fun r => (List.range r.2.1).map fun i => one ((r.1 + i) * 256 + r.2.2)

theorem covered_beyond {k : Nat} (h : 2 ^ 40 ≤ k) : Covered effects k :=
  ⟨_, List.mem_cons_self, k - 2 ^ 40, 0, by
    show k = 2 ^ 40 + 1 * (k - 2 ^ 40) + 0 * 0
    omega⟩

theorem covered_shown {f c j i : Nat} (hr : (f, c, j) ∈ shownRows) (hi : i < c) : Covered effects ((f + i) * 256 + j) := by
  refine ⟨one ((f + i) * 256 + j), List.mem_cons_of_mem _ (List.mem_flatMap.2 ⟨_, hr, List.mem_map.2 ⟨i, List.mem_range.2 hi, rfl⟩⟩),
    0, 0, ?_⟩
  simp only [Nat.zero_mul, Nat.add_zero]

theorem outside_effects {k : Nat} :
    Outside effects k ↔ k < 2 ^ 40 ∧ ∀ r ∈ shownRows, ∀ i < r.2.1, k ≠ (r.1 + i) * 256 + r.2.2 := by
  constructor
  · intro h
    refine ⟨by_contra fun hk => ?_, fun r hr i hi e => ?_⟩
    · obtain ⟨x, hx, hxk⟩ := covered_beyond (k := k) (by omega)
      exact h x hx hxk
    · obtain ⟨x, hx, hxk⟩ := covered_shown hr hi
      exact h x hx (e ▸ hxk)
  · rintro ⟨hk, h⟩
    refine outside_cons.2 ⟨fun _ _ => by omega, fun x hx hxk => ?_⟩
    obtain ⟨r, hr, hx⟩ := List.mem_flatMap.1 hx
    obtain ⟨i, hi, rfl⟩ := List.mem_map.1 hx
    exact h r hr i (List.mem_range.1 hi) (Span.one_has hxk)

theorem le_internal (f i : Nat) : 2 ^ 40 ≤ internal f i := by simp only [internal]; omega

section
variable {W : List Span}

theorem inside_beyond {b i j : Nat} (h : Inside W effects) (hb : 2 ^ 40 ≤ b) : Inside (⟨b, i, j⟩ :: W) effects := fun k hk => by
  obtain ⟨x, hx, n, m, e⟩ := hk
  rcases List.mem_cons.1 hx with rfl | hx
  · have e : k = b + i * n + j * m := e
    exact covered_beyond (e ▸ hb.trans ((Nat.le_add_right _ _).trans (Nat.le_add_right _ _)))
  · exact h k ⟨x, hx, n, m, e⟩

theorem inside_internal {f n i j : Nat} (h : Inside W effects) : Inside (⟨internal f n, i, j⟩ :: W) effects :=
  inside_beyond h (le_internal f n)

theorem inside_shown {f c j i : Nat} (h : Inside W effects) (hr : (f, c, j) ∈ shownRows) (hi : i < c) :
    Inside (one ((f + i) * 256 + j) :: W) effects := fun k hk => by
  obtain ⟨x, hx, hxk⟩ := hk
  rcases List.mem_cons.1 hx with rfl | hx
  · exact Span.one_has hxk ▸ covered_shown hr hi
  · exact h k ⟨x, hx, hxk⟩

end

/-- From r to s nothing has happened but what a change of settings does. -/
structure Effects (r s : State) : Prop where
  leaves : Leaves effects [.canQueue, .collector, .dieMsgs, .out, .rings] r s
  collector : r.collector <+: s.collector

section
variable {r s t : State}

theorem Effects.refl (s : State) : Effects s s := ⟨.refl s, List.prefix_refl _⟩

theorem Effects.trans (h : Effects r s) (h' : Effects s t) : Effects r t :=
  ⟨h.leaves.trans h'.leaves, h.collector.trans h'.collector⟩

/-- What raises nothing on the control die. -/
theorem Effects.quiet {L : List Part} (h : Effects r s) (l : Leaves effects L s t)
    (hL : Within L [.canQueue, .dieMsgs, .out, .rings] := by decide) : Effects r t :=
  h.trans ⟨l.mono Inside.refl (hL.trans (by decide)), (l.parts .collector fun hc => absurd (hL _ hc) (by decide)).symm ▸
    List.prefix_refl _⟩

/-- What raises on the control die too. -/
theorem Effects.loud {L : List Part} (h : Effects r s) (l : Leaves effects L s t) (hc : s.collector <+: t.collector)
    (hL : Within L [.canQueue, .collector, .dieMsgs, .out, .rings] := by decide) : Effects r t :=
  h.trans ⟨l.mono Inside.refl hL, hc⟩

theorem Effects.ite {c : Prop} [Decidable c] (ha : Effects r s) (hb : Effects r t) : Effects r (if c then s else t) := by
  split <;> assumption

theorem Effects.forEach {α : Type} {l : List α} {f : α → State → State} (h : Effects r s)
    (hf : ∀ a ∈ l, ∀ x, Effects r x → Effects r (f a x)) : Effects r (forEach l f s) := forEach_induct h hf

theorem Effects.forBelow {n : Nat} {f : Nat → State → State} (h : Effects r s)
    (hf : ∀ i < n, ∀ x, Effects r x → Effects r (f i x)) : Effects r (forBelow n f s) := forBelow_induct h hf

theorem Effects.set {k : Nat} {v : Int} (h : Effects r s) (hk : Covered effects k) : Effects r (s.set k v) :=
  h.quiet (L := []) (State.set_leaves (.refl s) hk)

theorem Effects.setInternal {f i : Nat} {v : Int} (h : Effects r s) : Effects r (s.set (internal f i) v) :=
  h.set (covered_beyond (le_internal f i))

theorem Effects.raise (h : Effects r s) (k : Kind) (site tenant obj : Nat) (fields : List (Nat × Int)) :
    Effects r (s.raise k site tenant obj fields) :=
  h.loud (State.raise_leaves _ _ _ _ _ (.refl s) fun _ h => h) (s.raise_collector_prefix _ _ _ _ _)

/-! ### Channels, banks and reset outputs -/

theorem State.pumpUpdate_effects {k : Nat} (hk : k < 32) (h : Effects r s) : Effects r (s.pumpUpdate k) :=
  h.quiet (L := []) (State.pumpUpdate_leaves k (.refl s)
    (inside_shown (c := 32) (inside_internal (inside_internal inNil)) (by decide) hk))

theorem State.rsoChange_collector (s : State) (i : Nat) (on : Bool) (cause : Nat) :
    s.collector <+: (s.rsoChange i on cause).collector := by
  unfold State.rsoChange
  dsimp only
  split
  · exact List.prefix_refl _
  · refine .trans ?_ (State.raise_collector_prefix _ _ _ _ _ _)
    split <;> simp only [State.count_collector, State.setN_collector, State.setFlag_collector, List.prefix_refl]

theorem State.rsoFollow_collector (s : State) (i : Nat) : s.collector <+: (s.rsoFollow i).collector := by
  unfold State.rsoFollow
  split
  · split
    · rw [State.setN_collector]
    · exact List.prefix_refl _
  · have := (s.setN (RSO_GOOD_SINCE i) 0).rsoChange_collector i true 0
    rwa [State.setN_collector] at this

theorem State.rsoFollow_effects {i : Nat} (hi : i < 16) (h : Effects r s) : Effects r (s.rsoFollow i) :=
  h.loud (State.rsoFollow_leaves i (.refl s) (inside_shown (c := 16) (inside_shown (c := 16) (inside_shown (c := 16)
    (inside_internal inNil) (by decide) hi) (by decide) hi) (by decide) hi) fun _ h => h) (s.rsoFollow_collector i)

theorem State.raiseChannel_effects (k : Kind) (n e obj : Nat) (fields : List (Nat × Int)) (h : Effects r s) :
    Effects r (s.raiseChannel k n e obj fields) :=
  h.quiet (State.raiseChannel_leaves k n e obj fields (.refl s) fun _ h => h)

theorem State.updateGood_effects (n : Nat) (h : Effects r s) : Effects r (s.updateGood n) := by
  unfold State.updateGood
  exact .ite h (.forBelow (State.raiseChannel_effects _ _ _ _ _ h.setInternal) fun i hi _ => State.rsoFollow_effects hi)

theorem State.windowMode_effects (n : Nat) (h : Effects r s) : Effects r (s.windowMode n) := by
  unfold State.windowMode
  refine .ite (State.updateGood_effects n (.forBelow (.quiet ?_ (State.setUnder_leaves n true (.refl _)
    (inside_internal inNil) fun _ h => h)) fun c _ x hx => hx.setInternal)) (State.updateGood_effects n h.setInternal)
  exact h.setInternal.setInternal

theorem State.setChFlag_effects {n : Nat} (hn : n < 512) (b : Nat) (on : Bool) (h : Effects r s) :
    Effects r (s.setChFlag n b on) := h.set (covered_shown (c := 512) (by decide) hn)

theorem State.setModelFlag_effects {n : Nat} (hn : n < 512) (b : Nat) (on : Bool) (h : Effects r s) :
    Effects r (s.setModelFlag n b on) := h.set (covered_shown (c := 512) (by decide) hn)

theorem State.wireStart_effects (n : Nat) (warm : Bool) (h : Effects r s) : Effects r (s.wireStart n warm) :=
  h.quiet (L := []) (State.wireStart_leaves n warm (.refl s) (inside_internal (inside_internal (inside_internal inNil))))

theorem State.fetStart_effects (n : Nat) (warm : Bool) (h : Effects r s) : Effects r (s.fetStart n warm) :=
  h.quiet (L := []) (State.fetStart_leaves n warm (.refl s) (inside_internal (inside_internal (inside_internal inNil))))

theorem State.modelsStart_effects (old : State) (keys : List Nat) (h : Effects r s) : Effects r (State.modelsStart old s keys) := by
  refine .forEach h fun n hn x hx => ?_
  have hn : n < 512 := by
    obtain ⟨k, -, rfl⟩ := List.mem_map.1 (List.mem_eraseDups.1 hn)
    omega
  extract_lets warm y z
  have hy : Effects r y := .ite hx (State.setModelFlag_effects hn _ _ hx)
  have hz : Effects r z := .ite (State.wireStart_effects n warm hy) hy
  exact .ite (State.fetStart_effects n warm hz) hz

/-- The numbers of changed objects lie below how many there are. -/
theorem changedSub_lt {old s : State} {base n sub i : Nat} {keys : List Nat} (h : i ∈ changedSub old s base n sub keys) :
    i < n := by
  obtain ⟨k, hk, rfl⟩ := List.mem_map.1 h
  simp only [List.mem_filter, Bool.and_eq_true, decide_eq_true_eq] at hk
  omega

theorem State.channelsChanged_effects (old : State) (keys : List Nat) (h : Effects r s) :
    Effects r (State.channelsChanged old s keys) := by
  unfold State.channelsChanged
  extract_lets s1 s2 s3 banks s4
  have h1 : Effects r s1 := State.modelsStart_effects old keys h
  have h2 : Effects r s2 := .forEach h1 fun n _ _ => State.windowMode_effects n
  have h3 : Effects r s3 := .forEach h2 fun n hn _ => State.setChFlag_effects (changedSub_lt hn) _ _
  have h4 : Effects r s4 := .forEach h3 fun k hk _ => State.pumpUpdate_effects
    ((List.mem_append.1 (List.mem_eraseDups.1 hk)).elim changedSub_lt changedSub_lt)
  exact .ite (.forBelow h4 fun i hi _ => State.rsoFollow_effects hi) h4

/-! ### Converters, targets and rings -/

theorem State.convUnder_collector (s : State) (m : Nat) (on : Bool) (v : Int) : s.collector <+: (s.convUnder m on v).collector := by
  unfold State.convUnder
  split
  · exact List.prefix_refl _
  · have := (s.setBit (CWIN m) WFLAG.UNDER on).raise_collector_prefix
    rw [State.setBit_collector] at this
    exact this _ _ _ _ _

theorem State.convGood_collector (s : State) (m : Nat) : s.collector <+: (s.convGood m).collector := by
  unfold State.convGood
  split
  · exact List.prefix_refl _
  · have := (s.setBit (CWIN m) WFLAG.GOOD (s.convGoodNow m)).raise_collector_prefix
    rw [State.setBit_collector] at this
    exact this _ _ _ _ _

theorem State.convUnder_effects (m : Nat) (on : Bool) (v : Int) (h : Effects r s) : Effects r (s.convUnder m on v) :=
  h.loud (State.convUnder_leaves m on v (.refl s) (inside_internal inNil) fun _ h => h) (s.convUnder_collector m on v)

theorem State.convGood_effects (m : Nat) (h : Effects r s) : Effects r (s.convGood m) :=
  h.loud (State.convGood_leaves m (.refl s) (inside_internal inNil) fun _ h => h) (s.convGood_collector m)

theorem State.convWindowMode_effects (m : Nat) (h : Effects r s) : Effects r (s.convWindowMode m) := by
  unfold State.convWindowMode
  exact .ite (State.convGood_effects m (State.convUnder_effects m _ _ h.setInternal.setInternal.setInternal.setInternal))
    (State.convGood_effects m h.setInternal)

theorem covered_targetState {g : Nat} (hg : g < 64) : Covered effects (TARGET.TARGET_STATE g) :=
  covered_shown (c := 64) (by decide) hg

theorem State.tgMore_effects (g n : Nat) (h : Effects r s) : Effects r (s.tgMore g n) := by
  by_cases hg : 64 ≤ g
  · rw [State.tgMore, if_pos hg]
    exact h
  · have hg : g < 64 := Nat.not_le.1 hg
    exact h.quiet (State.tgMore_leaves g n (.refl s) (inside_internal (inside_shown (c := 64) (inside_shown (c := 64)
      (inside_internal (inside_internal (inside_internal inNil))) (by decide) hg) (by decide) hg)) fun _ h => h)

theorem State.tgSettle_effects (h : Effects r s) : Effects r s.tgSettle :=
  .forBelow h fun _ hg _ hx => .ite ((hx.set (covered_targetState hg)).set (covered_targetState hg)).setInternal hx

theorem State.tgEnable_effects {g : Nat} (hg : g < 64) (on : Bool) (h : Effects r s) : Effects r (s.tgEnable g on) :=
  .ite (h.set (covered_targetState hg)) h.setInternal

theorem State.setRing_effects (q : Nat) (recs : List Record) (h : Effects r s) : Effects r (s.setRing q recs) :=
  h.quiet (State.setRing_leaves q recs (.refl s) fun _ h => h)

theorem State.enter_effects {q : Nat} (hq : q < 8192) (recs : List Record) (h : Effects r s) : Effects r (s.enter q recs) := by
  unfold State.enter
  extract_lets g s1 s2
  have h1 : Effects r s1 := .forEach h fun _ _ x hx => .set (State.setRing_effects _ _
    (hx.set (covered_shown (c := 8192) (by decide) hq))) (covered_shown (f := 0x2900) (c := 1) (i := 0) (j := 4) (by decide) (by decide))
  have h2 : Effects r s2 := h1.set (covered_shown (c := 8192) (by decide) hq)
  exact State.tgMore_effects _ _ (.ite h2.setInternal h2)

theorem State.marker_effects {q : Nat} (hq : q < 8192) (h : Effects r s) : Effects r (s.marker q) := by
  unfold State.marker
  exact .ite (State.enter_effects hq _ h.setInternal) h

theorem State.ringResize_effects {q : Nat} (hq : q < 8192) (h : Effects r s) : Effects r (s.ringResize q) := by
  unfold State.ringResize
  extract_lets c l n out s1 s2 s3
  have h1 : Effects r s1 := State.setRing_effects _ _ h
  have h2 : Effects r s2 := .ite h1.setInternal h1
  have h3 : Effects r s3 := h2.setInternal.setInternal
  exact .ite (State.marker_effects hq h) (State.tgSettle_effects (State.marker_effects hq
    (h3.set (covered_shown (c := 8192) (by decide) hq))))

/-! ### CAN ports, PDOs and housekeeping -/

theorem State.canBack_collector (s : State) (p : Nat) : s.collector <+: (s.canBack p).collector := by
  unfold State.canBack
  extract_lets x
  have hx : x.collector = s.collector := by
    rw [State.setN_collector, State.setN_collector, State.setN_collector]
  rw [← hx, ← (State.canJoin_leaves p (.refl x) Inside.refl fun _ h => h).parts .collector (by decide)]
  exact State.raise_collector_prefix _ _ _ _ _ _

theorem State.canRates_effects {p : Nat} (hp : p < 2) (rates auto : Bool) (h : Effects r s) : Effects r (s.canRates p rates auto) :=
  h.loud (State.canRates_leaves p rates auto (.refl s) (inside_internal (inside_shown (c := 2) (inside_shown (c := 2)
    (inside_shown (c := 2) (inside_shown (c := 2) inNil (by decide) hp) (by decide) hp) (by decide) hp) (by decide) hp))
    fun _ h => h) (by
      unfold State.canRates
      split
      · split
        · exact List.prefix_refl _
        · split
          · rw [State.setN_collector, State.setN_collector]
          · exact s.canBack_collector p
      · split
        · rw [State.setN_collector]
        · exact List.prefix_refl _)

theorem State.pdosChanged_effects (keys : List Nat) (h : Effects r s) : Effects r (s.pdosChanged keys) :=
  h.quiet (L := []) (State.pdosChanged_leaves keys (.refl s) (inside_internal (inside_internal (inside_internal (inside_internal
    (inside_internal (inside_internal inNil)))))))

theorem State.hkShow_effects {q : Nat} (hq : q < 4) (h : Effects r s) : Effects r (s.hkShow q) :=
  h.set (covered_shown (c := 4) (by decide) hq)

theorem State.hkBoundary_effects {q : Nat} (hq : q < 4) (h : Effects r s) : Effects r (s.hkBoundary q) :=
  h.quiet (L := []) (State.hkBoundary_leaves q (.refl s) (inside_internal (inside_internal
    (inside_shown (c := 4) inNil (by decide) hq))))

theorem State.hkArbitrate_effects (h : Effects r s) : Effects r s.hkArbitrate :=
  .forBelow h fun _ hq _ hx => .ite (State.hkBoundary_effects hq hx) (State.hkShow_effects hq hx)

theorem State.hkRestart_effects {q : Nat} (hq : q < 4) (h : Effects r s) : Effects r (s.hkRestart q) := by
  unfold State.hkRestart State.hkBegin
  extract_lets s1 e s2
  have h1 : Effects r s1 := h.setInternal.setInternal.setInternal
  have h2 : Effects r s2 := h1.setInternal.setInternal.setInternal
  exact .ite (State.hkArbitrate_effects h2.setInternal.setInternal)
    (State.hkArbitrate_effects (State.hkShow_effects hq h1.setInternal))

theorem State.hkCommitted_effects (keys : List Nat) (h : Effects r s) : Effects r (s.hkCommitted keys) :=
  .forBelow (.forEach h fun _ _ _ hx => .ite hx hx.setInternal) fun _ hq _ hx => .ite (State.hkRestart_effects hq hx) hx

/-! ### The rest of the control die -/

theorem State.twAdopt_effects (h : Effects r s) : Effects r s.twAdopt :=
  have beyond : ∀ k, 2 ^ 40 ≤ inForce k := fun k => by simp only [inForce]; omega
  h.quiet (L := []) (State.twAdopt_leaves (.refl s) (inside_beyond (inside_beyond (inside_beyond (inside_beyond (inside_beyond
    (inside_beyond inNil (beyond _)) (beyond _)) (beyond _)) (beyond _)) (beyond _)) (beyond _)))

theorem State.senseLevels_collector (s : State) : s.collector <+: s.senseLevels.collector :=
  forBelow_induct (P := fun x => s.collector <+: x.collector) (List.prefix_refl _) fun i _ x hx => by
    split
    · exact hx.trans (x.latchSet_collector_prefix i)
    · exact hx

theorem inside_shown_first {W : List Span} {k : Nat} (h : Inside W effects) (hr : (k / 256, 1, k % 256) ∈ shownRows) :
    Inside (one k :: W) effects := by
  have := inside_shown (i := 0) h hr (by decide)
  rwa [Nat.add_zero, Nat.div_add_mod'] at this

theorem State.senseLevels_effects (h : Effects r s) : Effects r s.senseLevels :=
  h.loud (State.senseLevels_leaves (.refl s) (inside_internal (inside_shown_first (inside_shown_first (inside_shown_first
    (inside_shown_first (inside_shown_first (inside_shown_first (inside_internal inNil) (by decide)) (by decide)) (by decide))
    (by decide)) (by decide)) (by decide))) fun _ h => h) s.senseLevels_collector

theorem State.dsShow_effects {d : Nat} (hd : d < 32) (h : Effects r s) : Effects r (s.dsShow d) :=
  h.set (covered_shown (c := 32) (by decide) hd)

theorem State.pcieLink_collector (s : State) (st speed : Nat) : s.collector <+: (s.pcieLink st speed).collector := by
  unfold State.pcieLink State.pcieLost
  dsimp only
  split
  · exact List.prefix_refl _
  · refine .trans ?_ (State.raise_collector_prefix _ _ _ _ _ _)
    split
    · split <;> simp only [State.setN_collector, State.count_collector, List.prefix_refl]
    · rw [State.setN_collector, State.setN_collector]

theorem State.pcieRetrain_effects (h : Effects r s) : Effects r s.pcieRetrain := by
  unfold State.pcieRetrain
  exact .ite (h.loud (State.pcieLink_leaves 1 0 (.refl s) (inside_internal (inside_shown_first (inside_shown_first
    (inside_shown_first inNil (by decide)) (by decide)) (by decide))) fun _ h => h) (s.pcieLink_collector 1 0)) h

theorem State.keeperCopies_effects (h : Effects r s) : Effects r s.keeperCopies :=
  h.quiet (L := []) (State.keeperCopies_leaves (.refl s) (inside_internal (inside_internal (inside_internal (inside_internal
    (inside_internal (inside_internal inNil)))))))

end

/-! ### What a change of settings leaves -/

/-- The rows that show what a change of settings does hold no staged value. -/
theorem shownRows_not_staged {f c j i : Nat} (hr : (f, c, j) ∈ shownRows) (hi : i < c) :
    (subOf (objectAt (f + i)) j).all fun row => row.cls != .staged := by
  unfold objectAt
  simp only [shownRows, List.mem_cons, Prod.mk.injEq, List.not_mem_nil] at hr
  obtain ⟨rfl, rfl, rfl⟩ | hr := hr
  · simp (disch := omega) only [↓if_pos, ↓if_neg, subs_BANK]
    split <;> rfl
  repeat' obtain ⟨rfl, rfl, rfl⟩ | hr := hr
  all_goals
    simp (disch := omega) only [↓if_pos, ↓if_neg]
    rfl

theorem objectAt_beyond {i : Nat} (h : 0x6000 ≤ i) : objectAt i = [] := by
  unfold objectAt
  simp (disch := omega) only [↓if_neg]

theorem outside_effects_of_row {k : Nat} (hk : k < 2 ^ 40)
    (h : ∀ r ∈ shownRows, k / 256 < r.1 ∨ r.1 + r.2.1 ≤ k / 256 ∨ k % 256 ≠ r.2.2) : Outside effects k := by
  refine outside_effects.2 ⟨hk, ?_⟩
  rintro ⟨f, c, j⟩ hr i hi rfl
  have := h _ hr
  have hj : j < 256 := by
    simp only [shownRows, List.mem_cons, Prod.mk.injEq, List.not_mem_nil, or_false] at hr
    omega
  dsimp only at this hi
  omega

/-- Whether a staged value of a number stands under a key. -/
def StagedAt (k : Nat) : Prop := ∃ row, subAt k = some row ∧ row.cls = .staged

theorem StagedAt.lt {k : Nat} (h : StagedAt k) : k < 0x600000 := by
  obtain ⟨row, hrow, -⟩ := h
  by_contra hk
  rw [subAt, objectAt_beyond (by omega)] at hrow
  simp [subOf, highestSub] at hrow

theorem StagedAt.outside {k : Nat} (h : StagedAt k) : Outside effects k := by
  refine Machine.outside_effects.2 ⟨h.lt.trans (by decide), ?_⟩
  rintro ⟨f, c, j⟩ hr i hi rfl
  have hj : j < 256 := by
    simp only [shownRows, List.mem_cons, Prod.mk.injEq, List.not_mem_nil, or_false] at hr
    omega
  obtain ⟨row, hrow, hcls⟩ := h
  have := shownRows_not_staged hr hi
  dsimp only at hrow
  rw [subAt, show ((f + i) * 256 + j) / 256 = f + i by omega, show ((f + i) * 256 + j) % 256 = j by omega] at hrow
  simp [hrow, hcls] at this

theorem outside_none (k : Nat) : Outside [] k := outside_nil.2 trivial

theorem outside_one {W : List Span} {b k : Nat} (hb : k ≠ b) (hW : Outside W k) : Outside (one b :: W) k :=
  outside_cons.2 ⟨fun _ _ => by rwa [Nat.zero_mul, Nat.zero_mul], hW⟩

/-- A key under which no decision about a commit writes. -/
def Uncommitted (k : Nat) : Prop := ∀ t, Outside (commitObjects t) k

theorem uncommitted_iff {k : Nat} : Uncommitted k ↔ ∀ t, k ≠ COMMIT_CONTROL.LAST_OBJECT t ∧ k ≠ COMMIT_CONTROL.LAST_REASON t ∧
    k ≠ COMMIT_CONTROL.STATUS t := by
  refine forall_congr' fun t => ?_
  simp only [outside_cons, outside_nil, Nat.zero_mul, Nat.add_zero, and_true, forall_const]

/-- From r to s settings have had their effects, and commits other than that of tenant x may have been rejected. -/
structure Changes (x : Nat) (r s : State) : Prop where
  regs : ∀ k, Outside effects k → Uncommitted k → s.get k = r.get k
  status : r.nat (COMMIT_CONTROL.STATUS x) ≠ 4 → s.nat (COMMIT_CONTROL.STATUS x) = r.nat (COMMIT_CONTROL.STATUS x)
  staged : s.staged = r.staged
  collector : r.collector <+: s.collector

theorem outside_effects_status (x : Tenant) : Outside effects (COMMIT_CONTROL.STATUS x) :=
  outside_effects_of_row (by decide +revert) (by decide +revert)

section
variable {x : Tenant} {r s t : State}

theorem Changes.refl (x : Tenant) (s : State) : Changes x s s := ⟨fun _ _ _ => rfl, fun _ => rfl, rfl, List.prefix_refl _⟩

theorem Changes.trans (h : Changes x r s) (h' : Changes x s t) : Changes x r t where
  regs k hk hc := (h'.regs k hk hc).trans (h.regs k hk hc)
  status hr := (h'.status (h.status hr ▸ hr)).trans (h.status hr)
  staged := h'.staged.trans h.staged
  collector := h.collector.trans h'.collector

theorem Effects.changes (x : Tenant) (h : Effects r s) : Changes x r s where
  regs k hk _ := h.leaves.get_eq hk
  status _ := h.leaves.nat_eq (outside_effects_status x)
  staged := h.leaves.parts .staged (by decide)
  collector := h.collector

/-- SYNC rejects the commits that wait for it, which that of x is none of unless it waits. -/
theorem State.syncRange_changes (x : Tenant) (s : State) (p : Nat) : Changes x s (s.syncRange p) := by
  unfold State.syncRange
  extract_lets reason
  have hr : reason ≠ CR.CANCELLED := by
    simp only [reason]
    split <;> decide
  refine forEach_induct (P := Changes x s) (.refl x s) fun u hu y hy => ?_
  have l : Leaves (commitObjects u) [.collector] y (y.syncReject u reason (max 0 (y.get (SYNC_C p)))) :=
    State.raiseServer_leaves _ _ _ (y.commitReject_leaves_kept u reason 0 hr) (by decide)
  refine ⟨fun k hk hc => (l.get_eq (hc u)).trans (hy.regs k hk hc), fun h => (l.nat_eq ?_).trans (hy.status h),
    (l.parts .staged (by decide)).trans hy.staged, hy.collector.trans (y.syncReject_collector u reason _)⟩
  refine (outside_commitObjects_of_ne ?_).1
  rintro rfl
  exact h (mem_syncWaiters.1 hu).2.1

theorem State.canChanged_changes (x : Tenant) (old s : State) {p : Nat} (hp : p < 2) (keys : List Nat) :
    Changes x s (State.canChanged old s p keys) := by
  unfold State.canChanged
  extract_lets ch rate sample auto rates s1
  have h1 : Changes x s s1 := (Effects.ite (State.canRates_effects hp rates auto (.refl s)) (.refl s)).changes x
  split
  · exact h1.trans (s1.syncRange_changes x p)
  · exact h1

theorem State.settingsChanged_changes (x : Tenant) (old s : State) (keys : List Nat) :
    Changes x s (State.settingsChanged old s keys) := by
  unfold State.settingsChanged
  extract_lets ks s1 s2 s3 s4 s5 s6 s7 s8 s9 s10 s11 s12
  have h1 : Effects s s1 := State.channelsChanged_effects old ks (.refl s)
  have h2 : Effects s s2 := .forEach h1 fun m _ _ => State.convWindowMode_effects m
  have h3 : Effects s s3 := .forEach h2 fun q hq _ => State.ringResize_effects (changedSub_lt hq)
  have h4 : Effects s s4 := .forEach h3 fun g hg y => State.tgEnable_effects (changedSub_lt hg) _
  have h5 : Changes x s s5 := forBelow_induct (P := Changes x s) (h4.changes x) fun p hp y hy =>
    hy.trans (State.canChanged_changes x old y hp ks)
  have h6 : Effects s5 s6 := .ite (State.pdosChanged_effects ks (.refl s5)) (.refl s5)
  have h7 : Effects s5 s7 := .ite (State.hkCommitted_effects ks h6) h6
  have h8 : Effects s5 s8 := .ite (State.twAdopt_effects h7) h7
  have h9 : Effects s5 s9 := .ite (State.senseLevels_effects h8) h8
  have h10 : Effects s5 s10 := .ite (.forBelow h9 fun d hd _ => State.dsShow_effects hd) h9
  have h11 : Effects s5 s11 := .ite (State.pcieRetrain_effects h10) h10
  have h12 : Effects s5 s12 := .ite (State.keeperCopies_effects h11) h11
  exact h5.trans ((Effects.ite (h12.raise _ _ _ _ _) h12).changes x)

end

/-! ### Keys apart by their residues -/

/-- A check that says of a key that it lies outside families. -/
def clears (k : Nat) (W : List Span) : Bool :=
  W.all fun sp => k < sp.base || [256, 2 ^ 20].any fun m => sp.step % m == 0 && sp.side % m == 0 && sp.base % m != k % m

theorem outside_of_clears {W : List Span} {k : Nat} (h : clears k W = true) : Outside W k := by
  rintro sp hsp ⟨n, i, e⟩
  have := List.all_eq_true.1 h sp hsp
  simp only [Bool.or_eq_true, decide_eq_true_eq, List.any_eq_true, Bool.and_eq_true, beq_iff_eq, bne_iff_ne] at this
  rcases this with hlt | ⟨m, -, ⟨h1, h2⟩, h3⟩
  · omega
  · refine h3 ?_
    rw [e, Nat.add_mod, Nat.add_mod sp.base, Nat.mul_mod, h1, Nat.mul_mod sp.side, h2]
    simp

/-- A change of settings takes no time, and leaves the clock. -/
theorem State.settingsChanged_clock (old s : State) (keys : List Nat) :
    (State.settingsChanged old s keys).time = s.time ∧ (State.settingsChanged old s keys).get TICK_OFFSET = s.get TICK_OFFSET := by
  have l := State.settingsChanged_leaves old keys (.refl s) Inside.refl fun _ h => h
  refine ⟨l.parts .time (by decide), l.get_eq (outside_of_clears ?_)⟩
  decide

/-! ### Values that take effect together (R43, R44) -/

section
variable (s : State) {vals : List (Nat × Int)} {k : Nat}

theorem State.overlay_other (h : ∀ v ∈ vals, v.1 ≠ k) : (s.overlay vals).get k = s.get k :=
  forEach_induct (P := fun x => x.get k = s.get k) rfl fun v hv x hx => (x.get_set_other _ _ _ (h v hv).symm).trans hx

theorem State.overlay_self {v : Nat × Int} (hn : (vals.map (·.1)).Nodup) (hv : v ∈ vals) : (s.overlay vals).get v.1 = v.2 :=
  forEach_establishes (Q := fun _ => True) (P := fun x => x.get v.1 = v.2) hv hn.of_map trivial (fun _ _ _ _ => trivial)
    (fun x _ => x.get_set_self _ _) fun _ hw hne x hx => (x.get_set_other _ _ _ fun e =>
      hne (List.inj_on_of_nodup_map hn hw hv e.symm)).trans hx

theorem State.nowValues_of_hear (h : ∀ d < 4, s.dieHears d = true) (vals : List (Nat × Int)) : s.nowValues vals = vals := by
  refine List.filter_eq_self.2 fun v _ => ?_
  cases hd : heldDie v.1 with
  | none => rfl
  | some d => exact h d (heldDie_lt hd)

theorem State.nowValues_subset {v : Nat × Int} (h : v ∈ s.nowValues vals) : v ∈ vals := List.mem_of_mem_filter h

/-- The values of a set are in place, and those for dies that do not hear wait. -/
def State.placed (s : State) (vals : List (Nat × Int)) (t accepted : Nat) (told : Bool) : State :=
  ((s.notHeld ((s.nowValues vals).map (·.1))).lateValues vals t accepted told).overlay (s.nowValues vals)

variable (t accepted : Nat) (told : Bool)

theorem State.placed_leaves : Leaves [anyKey] [.landing, .late] s (s.placed vals t accepted told) :=
  State.overlay_leaves _ (State.lateValues_leaves _ _ _ _ (State.notHeld_leaves _ (.refl s) (by decide)) (by decide)) Inside.refl

theorem State.placed_other (h : ∀ v ∈ vals, v.1 ≠ k) : (s.placed vals t accepted told).get k = s.get k :=
  State.overlay_other _ fun v hv => h v (s.nowValues_subset hv)

/-- What follows the values is what a change of settings does. -/
theorem State.applyValues_changes (x : Tenant) (vals : List (Nat × Int)) :
    Changes x (s.placed vals t accepted told) (s.applyValues vals t accepted told) :=
  State.settingsChanged_changes x _ _ _

theorem State.applyValues_other (h : ∀ v ∈ vals, v.1 ≠ k) (hk : Outside effects k) (hc : Uncommitted k) :
    (s.applyValues vals t accepted told).get k = s.get k :=
  ((s.applyValues_changes t accepted told 0 vals).regs k hk hc).trans (s.placed_other t accepted told h)

theorem State.applyValues_self {v : Nat × Int} (hears : ∀ d < 4, s.dieHears d = true) (hn : (vals.map (·.1)).Nodup)
    (hv : v ∈ vals) (hk : Outside effects v.1) (hc : Uncommitted v.1) :
    (s.applyValues vals t accepted told).get v.1 = v.2 := by
  refine ((s.applyValues_changes t accepted told 0 vals).regs _ hk hc).trans ?_
  unfold State.placed
  rw [s.nowValues_of_hear hears]
  exact State.overlay_self _ hn hv

theorem State.applyValues_status (x : Tenant) (h : ∀ v ∈ vals, v.1 ≠ COMMIT_CONTROL.STATUS x)
    (hs : s.nat (COMMIT_CONTROL.STATUS x) ≠ 4) :
    (s.applyValues vals t accepted told).nat (COMMIT_CONTROL.STATUS x) = s.nat (COMMIT_CONTROL.STATUS x) := by
  have hp : (s.placed vals t accepted told).nat (COMMIT_CONTROL.STATUS x) = s.nat (COMMIT_CONTROL.STATUS x) := by
    rw [State.nat, s.placed_other t accepted told h, State.nat]
  exact ((s.applyValues_changes t accepted told x vals).status (hp ▸ hs)).trans hp

theorem State.applyValues_staged : (s.applyValues vals t accepted told).staged = s.staged :=
  (s.applyValues_changes t accepted told 0 vals).staged.trans ((s.placed_leaves t accepted told).parts .staged (by decide))

theorem State.applyValues_follows (h : ∀ v ∈ vals, v.1 ≠ TICK_OFFSET) : Follows s (s.applyValues vals t accepted told) := by
  have hp := s.placed_leaves (vals := vals) t accepted told
  have hc : Follows (s.placed vals t accepted told) (s.applyValues vals t accepted told) :=
    ⟨(State.settingsChanged_clock _ _ _).1, (State.settingsChanged_clock _ _ _).2,
      (s.applyValues_changes t accepted told 0 vals).collector⟩
  refine .trans ⟨hp.parts .time (by decide), s.placed_other t accepted told h, ?_⟩ hc
  rw [show (s.placed vals t accepted told).collector = s.collector from hp.parts .collector (by decide)]

end

/-! ### A commit as it lands (R43, R46, R53) -/

theorem State.notKept_effects {r s : State} (k : Nat) (h : Effects r s) : Effects r (s.notKept k) := by
  unfold State.notKept
  split
  · exact h
  · exact State.setChFlag_effects (Nat.mod_lt _ (by decide)) _ _ h.setInternal

theorem State.notKept_follows (s : State) (k : Nat) : Follows s (s.notKept k) := by
  exact .of_leaves (State.notKept_leaves k (.refl s) Inside.refl (L := [])) (by decide) (outside_of_clears (by decide))
    (State.notKept_effects k (.refl s)).collector

/-- A number that no staged value stands under. -/
theorem not_stagedAt {k : Nat} (h : (subAt k).all fun row => row.cls != .staged) : ¬StagedAt k := by
  rintro ⟨row, hrow, hcls⟩
  simp [hrow, hcls] at h

theorem StagedAt.ne {k j : Nat} (h : StagedAt k) (hj : (subAt j).all fun row => row.cls != .staged) : k ≠ j := by
  rintro rfl
  exact not_stagedAt hj h

theorem StagedAt.uncommitted {k : Nat} (h : StagedAt k) : Uncommitted k := by
  have := h.lt
  have h3 := h.ne (j := 0x231003) (by decide)
  have h4 := h.ne (j := 0x231004) (by decide)
  have h5 := h.ne (j := 0x231005) (by decide)
  refine uncommitted_iff.2 fun t => ?_
  simp only [COMMIT_CONTROL.LAST_OBJECT, COMMIT_CONTROL.LAST_REASON, COMMIT_CONTROL.STATUS]
  omega

section
variable (s : State) (x : Tenant) (accepted : Nat)

/-- What a commit of tenant x has written before its values take effect. -/
def State.commitMarked : State :=
  (((s.generationsAdvance x).setN (COMMIT_CONTROL.STATUS x) 5).setN (COMMIT_CONTROL.APPLY_FRAME x)
    (s.generationsAdvance x).frameNumber).unstage x

theorem State.frameNumber_eq {s t : State} (h : Follows s t) : t.frameNumber = s.frameNumber := by
  simp only [State.frameNumber, State.tick, State.clockAt, h.time, h.offset]

theorem State.generationsAdvance_follows : Follows s (s.generationsAdvance x) := by
  have l := State.generationsAdvance_leaves x.val (.refl s) Inside.refl (L := [])
  refine .of_leaves l (by decide) ?_ (by rw [l.parts .collector (by decide)])
  simp only [outside_cons, outside_nil, DEVICE_DIGEST.GLOBAL_GENERATION, TENANT_GENERATION.GEN_TN, WATCHDOG.ADJOURN_USED,
    TICK_OFFSET, internal, and_true]
  and_intros <;> intros <;> omega

theorem State.generationsAdvance_generation :
    (s.generationsAdvance x).nat (TENANT_GENERATION.GEN_TN x) = (s.nat (TENANT_GENERATION.GEN_TN x) + 1) % 2 ^ 16 := by
  unfold State.generationsAdvance State.wrapCount
  rw [State.nat_setN_other, State.nat_setN_other, State.nat_setN_self]
  · simp only [TENANT_GENERATION.GEN_TN, DEVICE_DIGEST.GLOBAL_GENERATION]; omega
  · simp only [TENANT_GENERATION.GEN_TN, WATCHDOG.ADJOURN_USED]; omega

theorem State.generationsAdvance_global :
    (s.generationsAdvance x).nat DEVICE_DIGEST.GLOBAL_GENERATION = (s.nat DEVICE_DIGEST.GLOBAL_GENERATION + 1) % 2 ^ 16 := by
  unfold State.generationsAdvance State.wrapCount
  rw [State.nat_setN_other, State.nat_setN_self, State.nat_setN_other]
  · simp only [TENANT_GENERATION.GEN_TN, DEVICE_DIGEST.GLOBAL_GENERATION]; omega
  · simp only [DEVICE_DIGEST.GLOBAL_GENERATION, WATCHDOG.ADJOURN_USED]; omega

theorem State.unstage_nat (t k : Nat) : (s.unstage t).nat k = s.nat k := rfl

theorem State.commitMarked_leaves : Leaves [one (COMMIT_CONTROL.APPLY_FRAME x), one (COMMIT_CONTROL.STATUS x)] [.staged]
    (s.generationsAdvance x) (s.commitMarked x) :=
  State.unstage_leaves _ (State.setN_leaves (State.setN_leaves (.refl _) Covered.here.next) Covered.here) (by decide)

theorem State.commitMarked_follows : Follows s (s.commitMarked x) := by
  refine (s.generationsAdvance_follows x).trans (.of_leaves (s.commitMarked_leaves x) (by decide) ?_ ?_)
  · simp only [outside_cons, outside_nil, COMMIT_CONTROL.APPLY_FRAME, COMMIT_CONTROL.STATUS, TICK_OFFSET, internal, and_true]
    and_intros <;> intros <;> omega
  · rw [show (s.commitMarked x).collector = (s.generationsAdvance x).collector from
      (s.commitMarked_leaves x).parts .collector (by decide)]

theorem State.commitMarked_status : (s.commitMarked x).nat (COMMIT_CONTROL.STATUS x) = 5 := by
  unfold State.commitMarked
  rw [State.unstage_nat, State.nat_setN_other, State.nat_setN_self]
  simp only [COMMIT_CONTROL.APPLY_FRAME, COMMIT_CONTROL.STATUS]
  omega

theorem State.commitMarked_frame : (s.commitMarked x).nat (COMMIT_CONTROL.APPLY_FRAME x) = s.frameNumber := by
  unfold State.commitMarked
  rw [State.unstage_nat, State.nat_setN_self, State.frameNumber_eq (s.generationsAdvance_follows x)]

theorem State.commitMarked_staged : (s.commitMarked x).stagedOf x = [] := by
  simp only [State.stagedOf, State.commitMarked, State.unstage, List.filter_filter]
  simp

theorem State.commitMarked_nat {k : Nat} (h : k ≠ COMMIT_CONTROL.APPLY_FRAME x) (h' : k ≠ COMMIT_CONTROL.STATUS x) :
    (s.commitMarked x).nat k = (s.generationsAdvance x).nat k :=
  (s.commitMarked_leaves x).nat_eq (outside_one h (outside_one h' (outside_none k)))

/-- What a commit leaves that does not change the deal. -/
theorem State.commitApplies_plain {vals : List (Nat × Int)} (h : (vals.any fun v => isDealField v.1) = false) :
    s.commitApplies x accepted vals =
      let y := forEach vals (fun v s => s.notKept v.1) ((s.commitMarked x).applyValues vals x accepted true)
      y.raiseServer .COMMIT_APPLIED x
        [f16 (y.nat (TENANT_GENERATION.GEN_TN x)), f16 (y.nat DEVICE_DIGEST.GLOBAL_GENERATION), f32 y.frameNumber] := by
  unfold State.commitApplies
  dsimp only
  rw [if_neg (by simp [h])]
  rfl

/-- A key that neither settings, nor commits, nor what they do writes. -/
structure Steady (k : Nat) : Prop where
  effects : Outside effects k
  uncommitted : Uncommitted k
  row : (subAt k).all fun row => row.cls != .staged

theorem Steady.of {k : Nat} (hk : k < 2 ^ 40)
    (effects : ∀ r ∈ shownRows, k / 256 < r.1 ∨ r.1 + r.2.1 ≤ k / 256 ∨ k % 256 ≠ r.2.2)
    (commit : k % 2 ^ 24 < 0x231003 ∨ 0x231005 < k % 2 ^ 24) (row : (subAt k).all fun row => row.cls != .staged) : Steady k where
  effects := outside_effects_of_row hk effects
  uncommitted := uncommitted_iff.2 fun t => by
    simp only [COMMIT_CONTROL.LAST_OBJECT, COMMIT_CONTROL.LAST_REASON, COMMIT_CONTROL.STATUS]
    omega
  row := row

theorem steady_generation : Steady (TENANT_GENERATION.GEN_TN x) :=
  .of (by decide +revert) (by decide +revert) (by decide +revert) (by decide +revert)

theorem steady_global : Steady DEVICE_DIGEST.GLOBAL_GENERATION := .of (by decide) (by decide) (by decide) (by decide)

theorem steady_applyFrame : Steady (COMMIT_CONTROL.APPLY_FRAME x) :=
  .of (by decide +revert) (by decide +revert) (by decide +revert) (by decide +revert)

theorem status_row : (subAt (COMMIT_CONTROL.STATUS x)).all fun row => row.cls != .staged := by decide +revert

/-- The generations are none of the registers that mark a commit as applied. -/
theorem generations_ne_marks : (TENANT_GENERATION.GEN_TN x ≠ COMMIT_CONTROL.APPLY_FRAME x ∧
    TENANT_GENERATION.GEN_TN x ≠ COMMIT_CONTROL.STATUS x) ∧ DEVICE_DIGEST.GLOBAL_GENERATION ≠ COMMIT_CONTROL.APPLY_FRAME x ∧
    DEVICE_DIGEST.GLOBAL_GENERATION ≠ COMMIT_CONTROL.STATUS x := by decide +revert

theorem State.commitMarked_generation :
    (s.commitMarked x).nat (TENANT_GENERATION.GEN_TN x) = (s.nat (TENANT_GENERATION.GEN_TN x) + 1) % 2 ^ 16 :=
  (s.commitMarked_nat x (generations_ne_marks x).1.1 (generations_ne_marks x).1.2).trans (s.generationsAdvance_generation x)

theorem State.commitMarked_global :
    (s.commitMarked x).nat DEVICE_DIGEST.GLOBAL_GENERATION = (s.nat DEVICE_DIGEST.GLOBAL_GENERATION + 1) % 2 ^ 16 :=
  (s.commitMarked_nat x (generations_ne_marks x).2.1 (generations_ne_marks x).2.2).trans (s.generationsAdvance_global x)

variable {s}

theorem State.dieHears_eq {t : State} {d : Nat} (h1 : t.nat (AMLOR_LINK.LINK_STATE d) = s.nat (AMLOR_LINK.LINK_STATE d))
    (h2 : t.get (DL_BAD d) = s.get (DL_BAD d)) (h3 : t.get (LOGIC_OFF d) = s.get (LOGIC_OFF d)) :
    t.dieHears d = s.dieHears d := by
  simp only [State.dieHears, State.linkUp, State.flag, h1, h2, h3]

theorem State.commitMarked_hears {d : Nat} (hd : d < 4) : (s.commitMarked x).dieHears d = s.dieHears d := by
  have l : Leaves [one (COMMIT_CONTROL.APPLY_FRAME x), one (COMMIT_CONTROL.STATUS x), one DEVICE_DIGEST.GLOBAL_GENERATION,
      one (TENANT_GENERATION.GEN_TN x), one (WATCHDOG.ADJOURN_USED x)] [.staged] s (s.commitMarked x) :=
    (State.generationsAdvance_leaves x.val (.refl s) (inSkip (inSkip Inside.refl))).trans
      ((s.commitMarked_leaves x).mono (inBoth (inBoth inNil)) fun _ h => h)
  refine State.dieHears_eq (l.nat_eq ?_) (l.get_eq ?_) (l.get_eq ?_)
  all_goals
    refine outside_one ?_ (outside_one ?_ (outside_one ?_ (outside_one ?_ (outside_one ?_ (outside_none _)))))
    all_goals
      simp only [COMMIT_CONTROL.APPLY_FRAME, COMMIT_CONTROL.STATUS, DEVICE_DIGEST.GLOBAL_GENERATION, TENANT_GENERATION.GEN_TN,
        WATCHDOG.ADJOURN_USED, AMLOR_LINK.LINK_STATE, DL_BAD, LOGIC_OFF, internal]
      omega

/-- What a commit leaves before it is recorded. -/
structure Committed (s : State) (x : Tenant) (vals : List (Nat × Int)) (y : State) : Prop where
  status : y.nat (COMMIT_CONTROL.STATUS x) = 5
  frame : y.nat (COMMIT_CONTROL.APPLY_FRAME x) = s.frameNumber
  generation : y.nat (TENANT_GENERATION.GEN_TN x) = (s.nat (TENANT_GENERATION.GEN_TN x) + 1) % 2 ^ 16
  global : y.nat DEVICE_DIGEST.GLOBAL_GENERATION = (s.nat DEVICE_DIGEST.GLOBAL_GENERATION + 1) % 2 ^ 16
  staged : y.stagedOf x = []
  values : ∀ v ∈ vals, y.get v.1 = v.2
  follows : Follows s y

variable {vals : List (Nat × Int)}

theorem Steady.applyValues {k : Nat} (h : Steady k) (rows : ∀ v ∈ vals, StagedAt v.1) (s : State) (t : Nat) (told : Bool) :
    (s.applyValues vals t accepted told).nat k = s.nat k := by
  simp only [State.nat, s.applyValues_other t accepted told (fun v hv => (rows v hv).ne h.row) h.effects h.uncommitted]

theorem State.commit_takesEffect (rows : ∀ v ∈ vals, StagedAt v.1) (keys : (vals.map (·.1)).Nodup)
    (hears : ∀ d < 4, s.dieHears d = true) : Committed s x vals ((s.commitMarked x).applyValues vals x accepted true) where
  status := by
    rw [State.applyValues_status _ _ _ _ x (fun v hv => (rows v hv).ne (status_row x)), s.commitMarked_status x]
    rw [s.commitMarked_status x]
    decide
  frame := ((steady_applyFrame x).applyValues accepted rows _ _ _).trans (s.commitMarked_frame x)
  generation := ((steady_generation x).applyValues accepted rows _ _ _).trans (s.commitMarked_generation x)
  global := (steady_global.applyValues accepted rows _ _ _).trans (s.commitMarked_global x)
  staged := by
    rw [State.stagedOf, State.applyValues_staged]
    exact s.commitMarked_staged x
  values v hv := State.applyValues_self _ _ _ _ (fun d hd => (s.commitMarked_hears x hd).trans (hears d hd)) keys hv
    (rows v hv).outside (rows v hv).uncommitted
  follows := (s.commitMarked_follows x).trans (State.applyValues_follows _ _ _ _ fun v hv e => by
    have := (rows v hv).lt
    simp only [e, TICK_OFFSET, internal] at this
    omega)

/-- What the channels keep of their settings changes none of it. -/
theorem Committed.notKept (h : Committed s x vals y) (rows : ∀ v ∈ vals, StagedAt v.1) (k : Nat) :
    Committed s x vals (y.notKept k) := by
  have e := (State.notKept_effects k (.refl y)).leaves
  exact ⟨(e.nat_eq (outside_effects_status x)).trans h.status, (e.nat_eq (steady_applyFrame x).effects).trans h.frame,
    (e.nat_eq (steady_generation x).effects).trans h.generation, (e.nat_eq steady_global.effects).trans h.global,
    (congrArg (List.filter _) (e.parts .staged (by decide))).trans h.staged,
    fun v hv => (e.get_eq (rows v hv).outside).trans (h.values v hv), h.follows.trans (y.notKept_follows k)⟩

theorem State.commitApplies_raises (deal : (vals.any fun v => isDealField v.1) = false) (rows : ∀ v ∈ vals, StagedAt v.1)
    (keys : (vals.map (·.1)).Nodup) (hears : ∀ d < 4, s.dieHears d = true) :
    ∃ y, Committed s x vals y ∧ s.commitApplies x accepted vals = y.raiseServer .COMMIT_APPLIED x
      [f16 ((s.nat (TENANT_GENERATION.GEN_TN x) + 1) % 2 ^ 16 : Nat), f16 ((s.nat DEVICE_DIGEST.GLOBAL_GENERATION + 1) % 2 ^ 16 : Nat),
        f32 s.frameNumber] := by
  have hy := forEach_induct (l := vals) (f := fun (v : Nat × Int) s => s.notKept v.1) (P := Committed s x vals)
    (State.commit_takesEffect x accepted rows keys hears) fun v _ y hy => hy.notKept x rows v.1
  refine ⟨_, hy, ?_⟩
  rw [s.commitApplies_plain x accepted deal]
  dsimp only
  rw [hy.generation, hy.global, State.frameNumber_eq hy.follows]

/-- R43, R46, R53: the clause of the commit. -/
theorem State.commit_lands (due at_ : Nat) (s : State)
    (rows : ∀ v ∈ vals, ∃ row, subAt v.1 = some row ∧ row.cls = .staged ∧ row.acc ≠ .wo ∧ row.ty.isString = false ∧
      isDealField v.1 = false) (keys : (vals.map (·.1)).Pairwise (· ≠ ·)) (hears : ∀ d < 4, s.dieHears d = true) :
    let t := s.landOne ⟨x, due, at_, .commit vals, false⟩
    let gen := (s.nat (TENANT_GENERATION.GEN_TN x) + 1) % 2 ^ 16
    let all := (s.nat DEVICE_DIGEST.GLOBAL_GENERATION + 1) % 2 ^ 16
    t.nat (COMMIT_CONTROL.STATUS x) = 5 ∧ t.nat (COMMIT_CONTROL.APPLY_FRAME x) = s.frameNumber ∧
    t.nat (TENANT_GENERATION.GEN_TN x) = gen ∧ t.nat DEVICE_DIGEST.GLOBAL_GENERATION = all ∧ t.stagedOf x = [] ∧
    (∀ v ∈ vals, t.get v.1 = v.2) ∧
    Raises s t .COMMIT_APPLIED siteServer x [f16 gen, f16 all, f32 s.frameNumber] := by
  have deal : (vals.any fun v => isDealField v.1) = false := by
    rw [List.any_eq_false]
    intro v hv
    obtain ⟨row, -, -, -, -, h⟩ := rows v hv
    simp only [h, Bool.false_eq_true, not_false_eq_true]
  have staged : ∀ v ∈ vals, StagedAt v.1 := fun v hv => by
    obtain ⟨row, hrow, hcls, -⟩ := rows v hv
    exact ⟨row, hrow, hcls⟩
  intro t gen all
  obtain ⟨y, hy, e⟩ := State.commitApplies_raises x at_ deal staged keys hears
  have e : t = y.raiseServer .COMMIT_APPLIED x [f16 gen, f16 all, f32 s.frameNumber] := e
  rw [e]
  exact ⟨hy.status, hy.frame, hy.generation, hy.global, hy.staged, hy.values, hy.follows.raises _ _ _ _ _⟩

end

/-! ### What a fold collects -/

/-- What r has collected is still there in s. -/
def Grows (r s : State) : Prop := r.collector <+: s.collector

section
variable {r s t : State}

theorem Grows.refl (s : State) : Grows s s := List.prefix_refl _

theorem Grows.trans (h : Grows r s) (h' : Grows s t) : Grows r t := List.IsPrefix.trans h h'

theorem Grows.quiet {W : List Span} {L : List Part} (h : Grows r s) (l : Leaves W L s t) (hc : .collector ∉ L := by decide) :
    Grows r t := by
  unfold Grows
  rw [show t.collector = s.collector from l.parts .collector hc]
  exact h

theorem Grows.set (h : Grows r s) (k : Nat) (v : Int) : Grows r (s.set k v) :=
  h.quiet (W := [anyKey]) (L := []) (State.set_leaves (.refl s) dyn_in)

theorem Grows.raise (h : Grows r s) (k : Kind) (site tenant obj : Nat) (fields : List (Nat × Int)) :
    Grows r (s.raise k site tenant obj fields) := h.trans (s.raise_collector_prefix _ _ _ _ _)

theorem Grows.ite {c : Prop} [Decidable c] (ha : Grows r s) (hb : Grows r t) : Grows r (if c then s else t) := by
  split <;> assumption

theorem Grows.forEach {α : Type} {l : List α} {f : α → State → State} (h : Grows r s)
    (hf : ∀ a x, Grows r x → Grows r (f a x)) : Grows r (forEach l f s) := forEach_induct h fun a _ => hf a

theorem State.updateGood_grows (n : Nat) (h : Grows r s) : Grows r (s.updateGood n) :=
  h.trans (State.updateGood_effects n (.refl s)).collector

theorem State.cellTo_grows (n st : Nat) (h : Grows r s) : Grows r (s.cellTo n st) := by
  unfold State.cellTo
  extract_lets s1 s2 s3 s4 s5
  have h1 : Grows r s1 := (h.quiet (L := []) (State.runClock_leaves n st (.refl s) Inside.refl)).quiet (L := [])
    (State.limitClock_leaves n st (.refl _) Inside.refl)
  have h2 : Grows r s2 := .ite h1 (h1.set _ _)
  have h3 : Grows r s3 := (h2.set _ _).set _ _
  have h4 : Grows r s4 := .ite ((((h3.set _ _).set _ _).set _ _).set _ _) h3
  have h5 : Grows r s5 := .ite (h4.set _ _) h4
  exact (State.updateGood_grows n (h5.quiet (L := []) (State.showState_leaves n (.refl s5) Inside.refl))).quiet (L := [])
    (State.pumpUpdate_leaves _ (.refl _) Inside.refl)

theorem State.withdraw_grows (n : Nat) (h : Grows r s) : Grows r (s.withdraw n) := ((h.set _ _).set _ _).set _ _

theorem State.turnOff_grows (n stage : Nat) (h : Grows r s) : Grows r (s.turnOff n stage) :=
  (State.cellTo_grows n _ (((State.withdraw_grows n h).set _ _).set _ _)).set _ _

theorem State.requestOff_grows (n : Nat) (h : Grows r s) : Grows r (s.requestOff n) := by
  unfold State.requestOff
  extract_lets s1
  have h1 : Grows r s1 := (h.set _ _).set _ _
  split
  case h_5 => exact (State.turnOff_grows n _ h1).set _ _
  case h_7 => exact State.withdraw_grows n h1
  case h_8 => exact h1
  all_goals exact State.turnOff_grows n _ h1

theorem State.foldNow_grows (n : Nat) (hold : Bool) (h : Grows r s) : Grows r (s.foldNow n hold) :=
  .ite (.ite h (h.set _ _)) (.ite (State.requestOff_grows n ((h.set _ _).set _ _))
    (.ite h (State.requestOff_grows n ((h.set _ _).set _ _))))

theorem State.swapAbort_grows (p result : Nat) (h : Grows r s) : Grows r (s.swapAbort p result) := by
  unfold State.swapAbort
  extract_lets n s1 s2 s3
  have h2 : Grows r s2 := ((((h.set _ _).set _ _).set _ _).set _ _).set _ _
  have h3 : Grows r s3 := .ite h2 (.ite (State.requestOff_grows n h2) (h2.set _ _))
  exact h3.raise _ _ _ _ _

theorem State.swapInterrupt_grows (n : Nat) (h : Grows r s) : Grows r (s.swapInterrupt n) := by
  unfold State.swapInterrupt
  split
  · exact h
  · exact .ite (State.swapAbort_grows _ _ h) h

theorem State.foldChannel_grows (n : Nat) (hold : Bool) (h : Grows r s) : Grows r (s.foldChannel n hold) :=
  .ite h (.ite ((State.swapInterrupt_grows n h).set _ _) (State.foldNow_grows n hold (State.swapInterrupt_grows n h)))

theorem State.asFinish_grows (result : Nat) (h : Grows r s) : Grows r (s.asFinish result) :=
  .ite (((((((((h.set _ _).set _ _).set _ _).set _ _).set _ _).set _ _).set _ _)).raise _ _ _ _ _) h

theorem State.truncationEnds_grows (m : Nat) (h : Grows r s) : Grows r (s.truncationEnds m) := by
  unfold State.truncationEnds
  extract_lets len s1 s2 s3
  have h2 : Grows r s2 := ((h.set _ _).set _ _).set _ _
  have h3 : Grows r s3 := h2.raise _ _ _ _ _
  exact .ite (.ite (((h3.set _ _).set _ _).set _ _) h2) h

theorem State.convLower_grows (m : Nat) (h : Grows r s) : Grows r (s.convLower m) := by
  unfold State.convLower
  extract_lets now s1
  have h1 : Grows r s1 := .ite ((((h.set _ _).set _ _).set _ _).trans (State.convUnder_collector _ m _ _)) h
  exact h1.trans (s1.convGood_collector m)

theorem State.convQuits_grows (m st : Nat) (planned : Bool) (h : Grows r s) : Grows r (s.convQuits m st planned) := by
  unfold State.convQuits
  extract_lets s1 s2 s3 s4
  have h1 : Grows r s1 := .ite (State.asFinish_grows 7 h) h
  have h2 : Grows r s2 := ((State.truncationEnds_grows m h1).set _ _).set _ _
  have h3 : Grows r s3 := (h2.set _ _).set _ _
  have h4 : Grows r s4 := State.convLower_grows m (.forEach h3 fun l x hx => .ite
    (hx.quiet (L := []) (State.laneEnds_leaves l (.refl x) Inside.refl)) (hx.quiet (L := []) (State.laneLow_leaves l (.refl x) Inside.refl)))
  exact .ite (h4.quiet (W := []) (State.openShadow_leaves _ _ _ (.refl s4) fun _ h => h))
    (h4.quiet (W := []) (State.setClosing_leaves _ _ _ (.refl s4) fun _ h => h))

theorem State.convStop_grows (m cause : Nat) (h : Grows r s) : Grows r (s.convStop m cause) :=
  .ite (h.set _ _) (.ite (State.convQuits_grows m _ _ h) ((State.convQuits_grows m _ _ h).raise _ _ _ _ _))

theorem State.foldConverter_grows (m : Nat) (hold : Bool) (h : Grows r s) : Grows r (s.foldConverter m hold) := by
  unfold State.foldConverter
  extract_lets s1
  have h1 : Grows r s1 := .ite (h.quiet (State.swNoClosed_leaves (.refl s) Inside.refl fun _ h => h)) (.ite (State.asFinish_grows 10 h) h)
  exact .ite h (.ite h1 (State.convStop_grows m 1 ((h1.set _ _).set _ _)))

theorem State.foldAll_grows (t : Nat) (h : Grows r s) : Grows r (s.foldAll t) :=
  .forEach (.forEach h fun n x => State.foldChannel_grows n (x.foldHold n)) fun m _ hx =>
    .ite (State.foldConverter_grows m _ hx) hx

theorem State.foldAll_follows (s : State) (t : Nat) : Follows s (s.foldAll t) :=
  .of_leaves (State.foldAll_leaves t (.refl s) Inside.refl fun _ h => h) (by decide) (outside_of_clears (by decide))
    (State.foldAll_grows t (.refl s))

/-- Families above a key hold it not. -/
theorem outside_above {W : List Span} {k : Nat} (b : Nat) (h : k < b) (hW : ∀ x ∈ W, b ≤ x.base) : Outside W k := by
  rintro x hx ⟨n, m, rfl⟩
  have := hW x hx
  omega

/-- A fold writes no object below those of the power paths. -/
theorem State.foldAll_nat (s : State) (t : Nat) {k : Nat} (h : k < 0x2D0000) : (s.foldAll t).nat k = s.nat k :=
  (State.foldAll_leaves t (.refl s) Inside.refl fun _ h => h).nat_eq (outside_above 0x2D0000 h (by decide))

end

/-! ### A channel that a fold turns OFF -/

section
variable (s : State)

theorem State.cellTo_cell (n st : Nat) : (s.cellTo n st).cell n = st := by
  unfold State.cellTo
  extract_lets s1 s2 s3 s4 s5
  have h3 : s3.nat (CELL n) = st := by
    rw [show s3 = ((s2.setN (CELL n) st).setN (GATE n) _) from rfl, State.nat_setN_other, State.nat_setN_self]
    simp only [CELL, GATE, internal]
    omega
  have h4 : Leaves [one (CHANNEL_STATUS.FLAGS n), one (CHANNEL_PROTECTION.MODEL_FLAGS n), one (LAMP_TOLD n), one (LATCH n)] [] s3 s4 :=
    .ite (State.setN_leaves (State.setModelFlag_leaves _ _ _ (State.setModelFlag_leaves _ _ _ (State.setChFlag_leaves _ _ _
      (.refl s3) (inBoth inNil)) (inSkip (inBoth inNil))) (inSkip (inBoth inNil))) Covered.here.next.next) (.refl s3)
  have h5 : Leaves [one (CHANNEL_STATUS.FLAGS n), one (CHANNEL_PROTECTION.MODEL_FLAGS n), one (LAMP_TOLD n), one (LATCH n)] [] s3 s5 :=
    .ite (State.setFlag_leaves h4 Covered.here.next.next.next) h4
  rw [State.cell, (State.pumpUpdate_leaves (L := []) _ (.refl (s5.showCell n)) Inside.refl).nat_eq,
    (State.showCell_leaves n (.refl s5) Inside.refl fun _ h => h).nat_eq, h5.nat_eq, h3]
  all_goals
    simp only [outside_cons, outside_nil, CHANNEL_STATUS.FLAGS, CHANNEL_PROTECTION.MODEL_FLAGS, LAMP_TOLD, LATCH, CELL,
      BANK.BANK_FLAGS, PUMP_START, PUMP_STOP_AT, CHANNEL_STATUS.STANDING_GATE, CHANNEL_STATUS.STATE, RESET_OUTPUT.ASSERT_COUNT,
      RESET_OUTPUT.LAST_CHANGE_STAMP, RESET_OUTPUT.OUTPUT, RSO_GOOD_SINCE, WIN, internal, and_true]
    and_intros <;> intros <;> omega

theorem State.turnOff_cell (n stage : Nat) : (s.turnOff n stage).cell n = ST.OFF := by
  unfold State.turnOff
  rw [State.cell, State.nat_setN_other]
  · exact State.cellTo_cell _ n _
  · simp only [CELL, GATE, internal]
    omega

/-- A channel that conducts is OFF after a request for OFF. -/
theorem State.requestOff_cell {n : Nat} (h : s.conducts n = true) : (s.requestOff n).cell n = ST.OFF := by
  have hc : ((s.setModelFlag n MFLAG.COOLING_WAIT false).setN (STORED_WAIT n) 0).cell n = s.cell n := by
    rw [State.cell, State.nat_setN_other, (State.setModelFlag_leaves (L := []) n _ _ (.refl s) Inside.refl).nat_eq, State.cell]
    · refine outside_one ?_ (outside_none _)
      simp only [CHANNEL_PROTECTION.MODEL_FLAGS, CELL, internal]
      omega
    · simp only [STORED_WAIT, CELL, internal]
      omega
  have hn : s.cell n = 1 ∨ s.cell n = 2 ∨ s.cell n = 3 ∨ s.cell n = 4 := by
    simpa [State.conducts, ST.RAMP, ST.ON, ST.PWM, ST.LIMIT, or_assoc] using h
  unfold State.requestOff
  dsimp only
  rw [hc]
  rcases hn with hn | hn | hn | hn <;> rw [hn] <;> exact State.turnOff_cell _ n 5

/-- The keys that say how a fold finds channel n, beside its swaps. -/
def ChannelKey (n k : Nat) : Prop :=
  k = CELL n ∨ k = CHANNEL_CONFIG.REQUEST n ∨ k = CHANNEL_STATUS.STANDING_CAUSE n ∨ k < 0x2D0000 ∨ ∃ i, k = DL_BAD i ∨ k = LOGIC_OFF i

/-- The keys that say which channels swap. -/
def PairKey (k : Nat) : Prop := ∃ i < 64, k = CASTLING_PAIR.SWAP_STATE i ∨ k = SWAP_IN i ∨ k = SWAP_OUT i

variable {s} {n m : Nat} {y z : State}

theorem State.requestOff_beside (hn : n < 512) (hm : m ≠ n) {k : Nat} (hk : ChannelKey n k ∨ PairKey k) :
    (s.requestOff m).get k = s.get k := by
  refine (State.requestOff_leaves m (.refl s) Inside.refl fun _ h => h).get_eq ?_
  simp only [outside_cons, outside_nil, ADMIT_KIND, BANK.BANK_FLAGS, CELL, CHANNEL_PROTECTION.MODEL_FLAGS, CHANNEL_STATUS.FLAGS,
    CHANNEL_STATUS.STANDING_GATE, CHANNEL_STATUS.STATE, GATE, LAMP_LOW, LAMP_TOLD, LATCH, LIMIT_EPISODE, LIMIT_LEFT, LIMIT_SINCE,
    LIMIT_SPENT, PEND, PUMP_START, PUMP_STOP_AT, PWM_HIGH, RESET_OUTPUT.ASSERT_COUNT, RESET_OUTPUT.LAST_CHANGE_STAMP,
    RESET_OUTPUT.OUTPUT, RSO_GOOD_SINCE, RUN_SINCE, RUN_SPENT, START_AT, STORED_WAIT, TRIP_STATE, WIN, internal, and_true]
  simp only [ChannelKey, PairKey, CELL, CHANNEL_CONFIG.REQUEST, CHANNEL_STATUS.STANDING_CAUSE, DL_BAD, LOGIC_OFF,
    CASTLING_PAIR.SWAP_STATE, SWAP_IN, SWAP_OUT, internal] at hk
  rcases hk with (rfl | rfl | rfl | hk | ⟨i, rfl | rfl⟩) | ⟨i, hi, rfl | rfl | rfl⟩ <;> and_intros <;> intros <;> omega

theorem State.requestOff_request (n : Nat) :
    (s.requestOff n).nat (CHANNEL_CONFIG.REQUEST n) = s.nat (CHANNEL_CONFIG.REQUEST n) := by
  refine (State.requestOff_leaves n (.refl s) Inside.refl fun _ h => h).nat_eq ?_
  simp only [outside_cons, outside_nil, ADMIT_KIND, BANK.BANK_FLAGS, CELL, CHANNEL_PROTECTION.MODEL_FLAGS, CHANNEL_STATUS.FLAGS,
    CHANNEL_STATUS.STANDING_GATE, CHANNEL_STATUS.STATE, GATE, LAMP_LOW, LAMP_TOLD, LATCH, LIMIT_EPISODE, LIMIT_LEFT, LIMIT_SINCE,
    LIMIT_SPENT, PEND, PUMP_START, PUMP_STOP_AT, PWM_HIGH, RESET_OUTPUT.ASSERT_COUNT, RESET_OUTPUT.LAST_CHANGE_STAMP,
    RESET_OUTPUT.OUTPUT, RSO_GOOD_SINCE, RUN_SINCE, RUN_SPENT, START_AT, STORED_WAIT, TRIP_STATE, WIN, internal, and_true,
    CHANNEL_CONFIG.REQUEST]
  and_intros <;> intros <;> omega

theorem State.setRequest_beside (hn : n < 512) (hm : m ≠ n) {v k : Nat} (hk : ChannelKey n k ∨ PairKey k) :
    (s.setRequest m v).get k = s.get k := by
  refine (State.setRequest_leaves (L := []) m v (.refl s) Inside.refl).get_eq ?_
  simp only [outside_cons, outside_nil, CHANNEL_CONFIG.REQUEST, inForce, and_true]
  simp only [ChannelKey, PairKey, CELL, CHANNEL_CONFIG.REQUEST, CHANNEL_STATUS.STANDING_CAUSE, DL_BAD, LOGIC_OFF,
    CASTLING_PAIR.SWAP_STATE, SWAP_IN, SWAP_OUT, internal] at hk
  rcases hk with (rfl | rfl | rfl | hk | ⟨i, rfl | rfl⟩) | ⟨i, hi, rfl | rfl | rfl⟩ <;> and_intros <;> intros <;> omega

theorem State.setRequestOnly_beside (hm : m ≠ n) {v : Nat} {k : Nat} (hk : ChannelKey n k ∨ PairKey k) :
    (s.setN (CHANNEL_CONFIG.REQUEST m) v).get k = s.get k := by
  refine s.get_set_other _ _ _ ?_
  simp only [ChannelKey, PairKey, CELL, CHANNEL_CONFIG.REQUEST, CHANNEL_STATUS.STANDING_CAUSE, DL_BAD, LOGIC_OFF,
    CASTLING_PAIR.SWAP_STATE, SWAP_IN, SWAP_OUT, internal] at hk ⊢
  rcases hk with (rfl | rfl | rfl | hk | ⟨i, rfl | rfl⟩) | ⟨i, hi, rfl | rfl | rfl⟩ <;> omega

theorem State.foldWait_beside {v k : Nat} (hk : ChannelKey n k ∨ PairKey k) : (s.setN (FOLD_WAIT m) v).get k = s.get k := by
  refine s.get_set_other _ _ _ ?_
  simp only [ChannelKey, PairKey, CELL, CHANNEL_CONFIG.REQUEST, CHANNEL_STATUS.STANDING_CAUSE, DL_BAD, LOGIC_OFF,
    CASTLING_PAIR.SWAP_STATE, SWAP_IN, SWAP_OUT, FOLD_WAIT, internal] at hk ⊢
  rcases hk with (rfl | rfl | rfl | hk | ⟨i, rfl | rfl⟩) | ⟨i, hi, rfl | rfl | rfl⟩ <;> omega

theorem State.swapOf_none : s.swapOf n = none ↔
    ∀ p < 64, s.nat (CASTLING_PAIR.SWAP_STATE p) = 0 ∨ (s.swapIn p ≠ n ∧ s.swapOut p ≠ n) := by
  simp only [State.swapOf, List.find?_eq_none, List.mem_range, Bool.and_eq_true, bne_iff_ne, Bool.or_eq_true, beq_iff_eq]
  refine forall_congr' fun p => forall_congr' fun _ => ?_
  tauto

/-- What a fold finds at channel n, which no swap has, is in y as it is in s. -/
structure Aside (n : Nat) (s y : State) : Prop where
  regs : ∀ k, ChannelKey n k → y.get k = s.get k
  free : y.swapOf n = none

theorem State.swapOf_none_of_pairs (hz : ∀ k, PairKey k → z.get k = y.get k) (h : y.swapOf n = none) : z.swapOf n = none := by
  refine State.swapOf_none.2 fun p hp => ?_
  have := State.swapOf_none.1 h p hp
  simp only [State.swapIn, State.swapOut, State.nat, hz _ ⟨p, hp, .inl rfl⟩, hz _ ⟨p, hp, .inr (.inl rfl)⟩,
    hz _ ⟨p, hp, .inr (.inr rfl)⟩] at this ⊢
  exact this

theorem Aside.step (h : Aside n s y) (hz : ∀ k, ChannelKey n k ∨ PairKey k → z.get k = y.get k) : Aside n s z where
  regs k hk := (hz k (.inl hk)).trans (h.regs k hk)
  free := State.swapOf_none_of_pairs (fun k hk => hz k (.inr hk)) h.free

theorem Aside.ite {c : Prop} [Decidable c] (hy : Aside n s y) (hz : Aside n s z) : Aside n s (if c then y else z) := by
  split <;> assumption

theorem Aside.requestOff (h : Aside n s y) (hn : n < 512) (hm : m ≠ n) : Aside n s (y.requestOff m) :=
  h.step fun _ => State.requestOff_beside hn hm

theorem Aside.foldNow (h : Aside n s y) (hn : n < 512) (hm : m ≠ n) (hold : Bool) : Aside n s (y.foldNow m hold) := by
  have off : Aside n s ((y.setRequest m 0).requestOff m) :=
    (h.step fun _ => State.setRequest_beside hn hm).requestOff hn hm
  exact .ite (.ite h (h.step fun _ => State.setRequestOnly_beside hm)) (.ite off (.ite h off))

/-- A swap that ends is no longer one of channel n either. -/
theorem Aside.swapEnds (h : Aside n s y) (p result : Nat) :
    Aside n s (((y.setN (CASTLING_PAIR.SWAP_STATE p) 0).setN (CASTLING_PAIR.SWAP_RESULT p) result).setN (SWAP_IN p) 0) where
  regs k hk := by
    refine .trans ?_ (h.regs k hk)
    rw [State.get_setN_other, State.get_setN_other, State.get_setN_other]
    all_goals
      simp only [ChannelKey, CELL, CHANNEL_CONFIG.REQUEST, CHANNEL_STATUS.STANDING_CAUSE, DL_BAD, LOGIC_OFF, internal] at hk
      simp only [CASTLING_PAIR.SWAP_STATE, CASTLING_PAIR.SWAP_RESULT, SWAP_IN, internal]
      rcases hk with rfl | rfl | rfl | hk | ⟨i, rfl | rfl⟩ <;> omega
  free := by
    refine State.swapOf_none.2 fun q hq => ?_
    by_cases e : q = p
    · left
      subst e
      rw [State.nat_setN_other, State.nat_setN_other, State.nat_setN_self] <;>
        simp only [CASTLING_PAIR.SWAP_STATE, CASTLING_PAIR.SWAP_RESULT, SWAP_IN, internal] <;> omega
    · have := State.swapOf_none.1 h.free q hq
      simp only [State.swapIn, State.swapOut] at this ⊢
      rw [State.nat_setN_other, State.nat_setN_other, State.nat_setN_other, State.nat_setN_other, State.nat_setN_other,
        State.nat_setN_other, State.nat_setN_other, State.nat_setN_other, State.nat_setN_other]
      · exact this
      all_goals
        simp only [CASTLING_PAIR.SWAP_STATE, CASTLING_PAIR.SWAP_RESULT, SWAP_IN, SWAP_OUT, internal]
        omega

theorem Aside.swapAbort (h : Aside n s y) (hn : n < 512) {p : Nat} (hp : p < 64) (busy : y.nat (CASTLING_PAIR.SWAP_STATE p) ≠ 0)
    (result : Nat) : Aside n s (y.swapAbort p result) := by
  unfold State.swapAbort
  extract_lets a s1 s2 s3
  have ha : a ≠ n := ((State.swapOf_none.1 h.free p hp).resolve_left busy).1
  have h1 : Aside n s s1 := h.swapEnds p result
  have h2 : Aside n s s2 := h1.step fun _ => State.setRequest_beside hn ha
  have h3 : Aside n s s3 := .ite h2 (.ite (h2.requestOff hn ha) (h2.step fun _ => State.foldWait_beside))
  exact h3.step fun k _ => (State.raise_leaves (W := []) _ _ _ _ _ (.refl s3) fun _ h => h).get_eq (outside_none k)

theorem Aside.swapInterrupt (h : Aside n s y) (hn : n < 512) (m : Nat) : Aside n s (y.swapInterrupt m) := by
  unfold State.swapInterrupt
  split
  · exact h
  · rename_i p hp
    obtain ⟨hp, hs⟩ : p < 64 ∧ y.nat (CASTLING_PAIR.SWAP_STATE p) ≠ 0 := by
      have := List.find?_some hp
      simp only [Bool.and_eq_true, bne_iff_ne] at this
      exact ⟨List.mem_range.1 (List.mem_of_find?_eq_some hp), this.1⟩
    exact .ite (h.swapAbort hn hp hs 6) h

theorem Aside.foldChannel (h : Aside n s y) (hn : n < 512) (hm : m ≠ n) (hold : Bool) : Aside n s (y.foldChannel m hold) :=
  have hi := h.swapInterrupt hn m
  .ite h (.ite (hi.step fun _ => State.foldWait_beside) (hi.foldNow hn hm hold))

theorem Aside.nat_eq (h : Aside n s y) {k : Nat} (hk : ChannelKey n k) : y.nat k = s.nat k := by
  rw [State.nat, h.regs k hk, State.nat]

/-- What says that a fold turns channel n OFF. -/
structure Foldable (n : Nat) (s : State) : Prop where
  trump : s.trumpHeld n = false
  hold : s.foldHold n = false
  standing : s.standing n = false
  conducts : s.conducts n = true
  free : s.swapOf n = none
  hears : s.dieHears (dieOf n) = true

theorem find?_congr_mem {α : Type} {l : List α} {f g : α → Bool} (h : ∀ a ∈ l, f a = g a) : l.find? f = l.find? g := by
  induction l with
  | nil => rfl
  | cons a l ih =>
    rw [List.find?_cons, List.find?_cons, h a List.mem_cons_self, ih fun b hb => h b (List.mem_cons_of_mem _ hb)]

theorem State.dealtTo_eq {f : Nat → Nat} {b : Nat} (h : ∀ t < 16, y.nat (f t) = s.nat (f t)) : y.dealtTo f b = s.dealtTo f b := by
  simp only [State.dealtTo]
  rw [find?_congr_mem fun t ht => ?_]
  simp only [State.bit, h t (by revert t; decide)]

theorem dealtTo_lt (s : State) (f : Nat → Nat) (b : Nat) : s.dealtTo f b < 16 := by
  unfold State.dealtTo
  cases h : dealtTenants.find? fun t => s.bit (f t) b with
  | none => decide
  | some t =>
    obtain ⟨i, hi, rfl⟩ := List.mem_map.1 (List.mem_of_find?_eq_some h)
    have := List.mem_range.1 hi
    show i + 1 < 16
    omega

theorem Aside.holder (h : Aside n s y) (hn : n < 512) : y.holderOfChannel n = s.holderOfChannel n :=
  State.dealtTo_eq fun t ht => h.nat_eq (.inr (.inr (.inr (.inl (by simp only [TENANT.CHANNELS]; omega)))))

theorem Aside.foldable (h : Aside n s y) (hn : n < 512) (hs : Foldable n s) : Foldable n y where
  trump := by
    rw [← hs.trump, State.trumpHeld, State.bit, h.holder hn, h.nat_eq]
    · rfl
    · have := dealtTo_lt s (fun t => TENANT.CHANNELS t (n / 64)) (n % 64)
      refine .inr (.inr (.inr (.inl ?_)))
      simp only [TENANT.TRUMP_HELD, State.holderOfChannel]
      omega
  hold := by
    rw [← hs.hold, State.foldHold, State.bit, h.holder hn, h.nat_eq]
    · rfl
    · have := dealtTo_lt s (fun t => TENANT.CHANNELS t (n / 64)) (n % 64)
      refine .inr (.inr (.inr (.inl ?_)))
      simp only [TENANT.FOLD_HOLD, State.holderOfChannel]
      omega
  standing := by
    rw [← hs.standing, State.standing, h.nat_eq (.inr (.inr (.inl rfl))), State.standing]
  conducts := by
    rw [← hs.conducts]
    simp only [State.conducts, State.cell, h.nat_eq (.inl rfl)]
  free := h.free
  hears := by
    rw [← hs.hears]
    refine State.dieHears_eq (h.nat_eq (.inr (.inr (.inr (.inl ?_))))) (h.regs _ (.inr (.inr (.inr (.inr ⟨_, .inl rfl⟩)))))
      (h.regs _ (.inr (.inr (.inr (.inr ⟨_, .inr rfl⟩)))))
    simp only [AMLOR_LINK.LINK_STATE, dieOf]
    omega

/-- A channel that a fold has turned OFF. -/
structure Folded (n : Nat) (y : State) : Prop where
  cell : y.cell n = ST.OFF
  request : y.nat (CHANNEL_CONFIG.REQUEST n) = 0
  free : y.swapOf n = none

theorem Foldable.foldChannel (h : Foldable n y) (hn : n < 512) : Folded n (y.foldChannel n (y.foldHold n)) := by
  have off : y.foldChannel n (y.foldHold n) = (y.setRequest n 0).requestOff n := by
    have hc : y.cell n = ST.RAMP ∨ y.cell n = ST.ON ∨ y.cell n = ST.PWM ∨ y.cell n = ST.LIMIT := by
      simpa [State.conducts, or_assoc] using h.conducts
    have hoff : y.cell n ≠ ST.OFF ∧ y.cell n ≠ ST.LOCKOUT := by
      rcases hc with e | e | e | e <;> rw [e] <;> decide
    simp [State.foldChannel, State.swapInterrupt, State.foldNow, h.trump, h.hold, h.standing, h.free, h.hears, hoff.1, hoff.2]
  rw [off]
  obtain ⟨i, hi, hne⟩ : ∃ i < 512, n ≠ i := ⟨if n = 0 then 1 else 0, by split <;> decide, by split <;> omega⟩
  refine ⟨State.requestOff_cell _ ?_, ?_, ?_⟩
  · simp only [← h.conducts, State.conducts, State.cell, State.setRequest]
    rw [State.nat_setN_other, State.nat_setN_other] <;> simp only [CHANNEL_CONFIG.REQUEST, CELL, inForce, internal] <;> omega
  · rw [State.requestOff_request, State.setRequest, State.nat_setN_other, State.nat_setN_self]
    simp only [CHANNEL_CONFIG.REQUEST, inForce]
    omega
  · exact State.swapOf_none_of_pairs (fun k hk => (State.requestOff_beside hi hne (.inr hk)).trans
      (State.setRequest_beside hi hne (.inr hk))) h.free

theorem Folded.aside (h : Folded n s) (hy : Aside n s y) : Folded n y where
  cell := (hy.nat_eq (.inl rfl)).trans h.cell
  request := (hy.nat_eq (.inr (.inl rfl))).trans h.request
  free := hy.free

theorem mem_handChannels {u : Nat} : n ∈ s.handChannels u ↔ n < 512 ∧ s.holderOfChannel n = u := by
  simp only [State.handChannels, List.mem_filter, List.mem_range, beq_iff_eq]

/-- As forEach_establishes, where the element that matters need not keep what it finds. -/
theorem forEach_meets {α : Type} {l : List α} {f : α → State → State} {Q P : State → Prop} {s : State} {a : α}
    (ha : a ∈ l) (hl : l.Nodup) (h : Q s) (before : ∀ b ∈ l, b ≠ a → ∀ x, Q x → Q (f b x)) (here : ∀ x, Q x → P (f a x))
    (after : ∀ b ∈ l, b ≠ a → ∀ x, P x → P (f b x)) : P (forEach l f s) := by
  obtain ⟨l₁, l₂, rfl⟩ := List.append_of_mem ha
  have h₁ : ∀ b ∈ l₁, b ≠ a := by
    rintro b hb rfl
    exact (List.disjoint_of_nodup_append hl) hb List.mem_cons_self
  have h₂ : ∀ b ∈ l₂, b ≠ a := by
    rintro b hb rfl
    exact (List.nodup_cons.1 (List.nodup_append.1 hl).2.1).1 hb
  show P (List.foldl _ s _)
  rw [List.foldl_append, List.foldl_cons]
  have hq : Q (forEach l₁ f s) := forEach_induct h fun b hb => before b (List.mem_append_left _ hb) (h₁ b hb)
  exact forEach_induct (here _ hq) fun b hb => after b (List.mem_append_right _ (List.mem_cons_of_mem _ hb)) (h₂ b hb)

theorem Aside.refl (h : s.swapOf n = none) : Aside n s s := ⟨fun _ _ => rfl, h⟩

/-- R78: a fold turns a channel of the hand OFF that conducts, and does not hold. -/
theorem Foldable.folds (h : Foldable n s) (hn : n < 512) {u : Nat} (hu : s.holderOfChannel n = u) :
    Folded n (forEach (s.handChannels u) (fun n s => s.foldChannel n (s.foldHold n)) s) :=
  forEach_meets (Q := Aside n s) (mem_handChannels.2 ⟨hn, hu⟩) (List.nodup_range.filter _) (.refl h.free)
    (fun _ _ hm _ hy => hy.foldChannel hn hm _) (fun _ hy => (hy.foldable hn h).foldChannel hn)
    fun _ _ hm _ hy => hy.aside ((Aside.refl hy.free).foldChannel hn hm _)

/-- The converters that a fold stops are no channels. -/
theorem State.foldConverter_nat (hn : n < 512) {i : Nat} (hi : i < 4) (hold : Bool) {k : Nat}
    (hk : k = CELL n ∨ k = CHANNEL_CONFIG.REQUEST n) : (y.foldConverter i hold).nat k = y.nat k := by
  refine (State.foldConverter_leaves i hold (.refl y) Inside.refl fun _ h => h).nat_eq ?_
  simp only [outside_cons, outside_nil, ASSIST_STATUS.ASSIST_CURRENT, ASSIST_STATUS.ASSIST_RESULT, ASSIST_STATUS.ASSIST_STATE, AS_CLOSED,
    AS_END, AS_TIME, BATTERY_SWITCH.FORWARD, BATTERY_SWITCH.MODE_IN_EFFECT, BATTERY_SWITCH.OPEN_CAUSE, CONVERTER.ENABLE,
    CONVERTER_STATUS.CONV_FLAGS, CONVERTER_STATUS.STATE, CONV_LIMIT, CONV_PHASE, CWIN, CWIN_AT, LANE_EDGE, OVR_END, SW_CONN_AT,
    SW_ON_AT, TRUNC_LONGEST, TRUNC_SINCE, TRUNC_TOLD_AT, inForce, internal, and_true]
  simp only [CELL, CHANNEL_CONFIG.REQUEST, internal] at hk
  rcases hk with rfl | rfl <;> and_intros <;> intros <;> omega

theorem Foldable.foldAll (h : Foldable n s) (hn : n < 512) {u : Nat} (hu : s.holderOfChannel n = u) :
    (s.foldAll u).cell n = ST.OFF ∧ (s.foldAll u).nat (CHANNEL_CONFIG.REQUEST n) = 0 := by
  have hf := h.folds hn hu
  refine forBelow_induct (P := fun y => y.cell n = ST.OFF ∧ y.nat (CHANNEL_CONFIG.REQUEST n) = 0) ⟨hf.cell, hf.request⟩
    fun i hi y hy => ?_
  split
  · exact ⟨(State.foldConverter_nat hn hi _ (.inl rfl)).trans hy.1, (State.foldConverter_nat hn hi _ (.inr rfl)).trans hy.2⟩
  · exact hy

/-- What a fold of hand u leaves before it is recorded. -/
def State.foldCounted (s : State) (u cause : Nat) : State :=
  ((s.foldAll u).count (TENANT.FOLD_COUNT u) 0xFFFF).setN (TENANT.LAST_FOLD_CAUSE u) cause

theorem State.foldHand_eq (s : State) (u cause : Nat) : ∃ off held, s.foldHand u cause =
    (s.foldCounted u cause).raiseServer .FOLD u [f8 u, f8 cause, f16 off, f16 held] := ⟨_, _, rfl⟩

section
variable (s : State) (x : Tenant) (cause : Nat)

theorem State.foldCounted_count : (s.foldCounted x cause).nat (TENANT.FOLD_COUNT x) = satTo 0xFFFF (s.nat (TENANT.FOLD_COUNT x) + 1) := by
  unfold State.foldCounted State.count
  rw [State.nat_setN_other, State.nat_setN_self, s.foldAll_nat]
  · simp only [TENANT.FOLD_COUNT]; omega
  · simp only [TENANT.FOLD_COUNT, TENANT.LAST_FOLD_CAUSE]; omega

theorem State.foldCounted_nat {k : Nat} (h : k ≠ TENANT.FOLD_COUNT x) (h' : k ≠ TENANT.LAST_FOLD_CAUSE x) :
    (s.foldCounted x cause).nat k = (s.foldAll x).nat k := by
  unfold State.foldCounted State.count
  rw [State.nat_setN_other _ h', State.nat_setN_other _ h]

theorem State.foldCounted_follows : Follows s (s.foldCounted x cause) := by
  refine (s.foldAll_follows x).trans (.of_leaves (W := [one (TENANT.FOLD_COUNT x), one (TENANT.LAST_FOLD_CAUSE x)]) (L := [])
    (State.setN_leaves (State.count_leaves (.refl _) Covered.here) Covered.here.next) (by decide) ?_ ?_)
  · refine outside_one ?_ (outside_one ?_ (outside_none _)) <;>
      simp only [TENANT.FOLD_COUNT, TENANT.LAST_FOLD_CAUSE, TICK_OFFSET, internal] <;> omega
  · unfold State.foldCounted
    rw [State.setN_collector, State.count_collector]

end

/-- R78: the clause of the fold. -/
theorem State.fold_lands (x : Tenant) (due at_ cause : Nat) (s : State) :
    let t := s.landOne ⟨x, due, at_, .fold cause, false⟩
    t.nat (TENANT.FOLD_COUNT x) = satTo 0xFFFF (s.nat (TENANT.FOLD_COUNT x) + 1) ∧ t.nat (TENANT.LAST_FOLD_CAUSE x) = cause ∧
    (∀ n < 512, s.holderOfChannel n = x → s.trumpHeld n = false → s.foldHold n = false → s.standing n = false →
      s.conducts n = true → s.swapOf n = none → s.dieHears (dieOf n) = true →
      t.cell n = ST.OFF ∧ t.nat (CHANNEL_CONFIG.REQUEST n) = 0) ∧
    ∃ off held, Raises s t .FOLD siteServer x [f8 x.val, f8 cause, f16 off, f16 held] := by
  intro t
  obtain ⟨off, held, e⟩ := s.foldHand_eq x cause
  have e : t = (s.foldCounted x cause).raiseServer .FOLD x [f8 x.val, f8 cause, f16 off, f16 held] := e
  rw [e]
  refine ⟨s.foldCounted_count x cause, State.nat_setN_self _ _ _, fun n hn hu h1 h2 h3 h4 h5 h6 => ?_, off, held,
    (s.foldCounted_follows x cause).raises _ _ _ _ _⟩
  have hf := (Foldable.mk h1 h2 h3 h4 h5 h6).foldAll hn hu
  refine ⟨(s.foldCounted_nat x cause ?_ ?_).trans hf.1, (s.foldCounted_nat x cause ?_ ?_).trans hf.2⟩ <;>
    simp only [CHANNEL_CONFIG.REQUEST, CELL, TENANT.FOLD_COUNT, TENANT.LAST_FOLD_CAUSE, internal] <;> omega

end

/-! ### What a tenant reset has ended and counted -/

/-- The registers that say what a reset of tenant x has ended and counted. -/
def guardedKeys (x : Nat) : List Nat :=
  [TENANT_GENERATION.GEN_TN x, DEVICE_DIGEST.GLOBAL_GENERATION, TENANT.RESET_COUNT x, WATCHDOG.WD_STATE x,
    SESSION_CONTROL.SESSION_STATE x, HOLD_STATE.HOLD_TN x]

/-- They lie below the power paths, or have the subindex of SESSION_STATE. -/
theorem guardedKeys_low {x : Tenant} {k : Nat} (hk : k ∈ guardedKeys x) : k < 0x2A0000 ∨ k % 256 = 3 ∧ 2 ^ 24 ≤ k ∧ k < 2 ^ 40 := by
  revert x k
  decide

theorem guardedKeys_apart {x : Tenant} {k : Nat} (hk : k ∈ guardedKeys x) : Outside effects k ∧ Uncommitted k := by
  have h : k < 2 ^ 40 ∧ (∀ r ∈ shownRows, k / 256 < r.1 ∨ r.1 + r.2.1 ≤ k / 256 ∨ k % 256 ≠ r.2.2) ∧
      (k % 2 ^ 24 < 0x231003 ∨ 0x231005 < k % 2 ^ 24) := by
    revert x k
    decide
  refine ⟨outside_effects_of_row h.1 h.2.1, uncommitted_iff.2 fun t => ?_⟩
  simp only [COMMIT_CONTROL.LAST_OBJECT, COMMIT_CONTROL.LAST_REASON, COMMIT_CONTROL.STATUS]
  omega

/-- From r to s nothing has changed what a reset of tenant x has ended and counted, nor what is staged. -/
structure Guards (x : Tenant) (r s : State) : Prop where
  regs : ∀ k ∈ guardedKeys x, s.get k = r.get k
  staged : s.staged = r.staged

section
variable {x : Tenant} {r s t : State}

theorem Guards.refl (x : Tenant) (s : State) : Guards x s s := ⟨fun _ _ => rfl, rfl⟩

theorem Guards.trans (h : Guards x r s) (h' : Guards x s t) : Guards x r t :=
  ⟨fun k hk => (h'.regs k hk).trans (h.regs k hk), h'.staged.trans h.staged⟩

theorem Guards.leaves {W : List Span} {L : List Part} (h : Guards x r s) (l : Leaves W L s t)
    (hW : ∀ k ∈ guardedKeys x, Outside W k) (hL : .staged ∉ L := by decide) : Guards x r t :=
  h.trans ⟨fun k hk => l.get_eq (hW k hk), l.parts .staged hL⟩

/-- A frame that leaves the staging too, as its definition shows. -/
theorem Guards.leavesStaged {W : List Span} {L : List Part} (h : Guards x r s) (l : Leaves W L s t)
    (hW : ∀ k ∈ guardedKeys x, Outside W k) (hs : t.staged = s.staged) : Guards x r t :=
  h.trans ⟨fun k hk => l.get_eq (hW k hk), hs⟩

theorem Guards.ite {c : Prop} [Decidable c] (ha : Guards x r s) (hb : Guards x r t) : Guards x r (if c then s else t) := by
  split <;> assumption

theorem Guards.forEach {α : Type} {l : List α} {f : α → State → State} (h : Guards x r s)
    (hf : ∀ a ∈ l, ∀ y, Guards x r y → Guards x r (f a y)) : Guards x r (forEach l f s) := forEach_induct h hf

theorem Guards.set {k : Nat} {v : Int} (h : Guards x r s) (hk : k ∉ guardedKeys x) : Guards x r (s.set k v) :=
  h.trans ⟨fun j hj => s.get_set_other k j v fun e => hk (e ▸ hj), rfl⟩

theorem Guards.changes (h : Guards x r s) (hc : Changes x s t) : Guards x r t :=
  h.trans ⟨fun k hk => hc.regs k (guardedKeys_apart hk).1 (guardedKeys_apart hk).2, hc.staged⟩

theorem Guards.setBeyond {k : Nat} {v : Int} (h : Guards x r s) (hk : 2 ^ 40 ≤ k) : Guards x r (s.set k v) :=
  h.set fun hm => by have := guardedKeys_low hm; omega

end

/-! ### What is staged stays so -/

section
variable (s : State)

theorem State.turnOff_staged (n stage : Nat) : (s.turnOff n stage).staged = s.staged := by
  unfold State.turnOff
  rw [State.setN_staged, (State.cellTo_leaves n _ (.refl _) Inside.refl fun _ h => h).parts .staged (by decide),
    State.setN_staged, State.setN_staged, (State.withdraw_leaves (L := []) n (.refl s) Inside.refl).parts .staged (by decide)]

theorem State.requestOff_staged (n : Nat) : (s.requestOff n).staged = s.staged := by
  unfold State.requestOff
  extract_lets s1
  have h1 : s1.staged = s.staged := by
    rw [State.setN_staged, (State.setModelFlag_leaves (L := []) n _ _ (.refl s) Inside.refl).parts .staged (by decide)]
  split
  case h_5 => rw [State.setN_staged, State.turnOff_staged, h1]
  case h_7 => rw [(State.withdraw_leaves (L := []) n (.refl s1) Inside.refl).parts .staged (by decide), h1]
  case h_8 => exact h1
  all_goals rw [State.turnOff_staged, h1]

theorem State.actOnRequest_staged (n : Nat) : (s.actOnRequest n).staged = s.staged := by
  unfold State.actOnRequest
  split
  · rfl
  split
  · exact s.requestOff_staged n
  · split
    · exact s.setN_staged _ _
    · split
      · exact (State.requestOn_leaves (L := []) n (.refl s) Inside.refl).parts .staged (by decide)
      · exact (State.requestPwm_leaves (L := []) n (.refl s) Inside.refl).parts .staged (by decide)

theorem State.chStage_staged (stage : Nat) (i : Int) : (s.chStage stage i).staged = s.staged := by
  unfold State.chStage
  rw [(State.chClamps_leaves (L := []) i (.refl _) Inside.refl).parts .staged (by decide), State.setN_staged, State.setN_staged]

theorem State.chEnter_staged (p : Nat) : (s.chEnter p).staged = s.staged :=
  (State.chEnter_leaves p (.refl s) Inside.refl fun _ h => h).parts .staged (by decide)

theorem State.chEnable_staged (v : Nat) : (s.chEnable v).staged = s.staged := by
  unfold State.chEnable State.chQualify State.chFault
  extract_lets s1 s2 s3 s4 p s5
  have h1 : s1.staged = s.staged := s.setN_staged _ _
  have h2 : s2.staged = s.staged := by rw [State.setN_staged, State.setN_staged, h1]
  have h3 : s3.staged = s.staged := by rw [State.setN_staged, State.chEnter_staged, h2]
  have h4 : s4.staged = s.staged := (s1.setN_staged _ _).trans h1
  have h5 : s5.staged = s.staged :=
    ((State.raiseCharger_leaves (W := []) _ _ (.refl _) fun _ h => h).parts .staged (by decide)).trans ((State.setN_staged _ _ _).trans h4)
  split
  · split
    · rw [State.setN_staged, (State.chClamps_leaves (L := []) 0 (.refl s3) Inside.refl).parts .staged (by decide), h3]
    · exact h3
  · split
    · exact h4
    · split
      · rw [State.chStage_staged, State.chEnter_staged, State.setN_staged, h4]
      · rw [State.chStage_staged, State.chEnter_staged, h5]

theorem State.landPower_staged (k : Nat) (v : Int) : (s.landPower k v).staged = s.staged := by
  unfold State.landPower
  dsimp only
  split
  · exact (State.swWrite_leaves _ (.refl s) Inside.refl fun _ h => h).parts .staged (by decide)
  · split
    · exact s.chEnable_staged _
    · split
      · exact (State.convEnable_leaves _ _ (.refl s) Inside.refl fun _ h => h).parts .staged (by decide)
      · exact s.set_staged _ _

end

/-! ### The defaults of a hand (R80, R82) -/

section
variable {x : Tenant} {r s : State}

theorem Guards.actOnRequest (h : Guards x r s) (n : Nat) : Guards x r (s.actOnRequest n) := by
  refine h.leavesStaged (State.actOnRequest_leaves n (.refl s) Inside.refl fun _ h => h) (fun k hk => ?_) (s.actOnRequest_staged n)
  have := guardedKeys_low hk
  simp only [outside_cons, outside_nil, ADMIT_KIND, ADMIT_SINCE, BANK.BANK_FLAGS, CELL, CHANNEL_PROTECTION.ADMIT_WAIT,
    CHANNEL_PROTECTION.MODEL_FLAGS, CHANNEL_PROTECTION.RETRIES_LEFT, CHANNEL_STATUS.FLAGS, CHANNEL_STATUS.STANDING_GATE,
    CHANNEL_STATUS.STATE, GATE, LAMP_LOW, LAMP_TOLD, LATCH, LIMIT_EPISODE, LIMIT_LEFT, LIMIT_SINCE, LIMIT_SPENT, PEND, PUMP_START,
    PUMP_STOP_AT, PWM_HIGH, PWM_NEXT, RESET_OUTPUT.ASSERT_COUNT, RESET_OUTPUT.LAST_CHANGE_STAMP, RESET_OUTPUT.OUTPUT, RSO_GOOD_SINCE,
    RUN_SINCE, RUN_SPENT, START_AT, STORED_WAIT, TRIP_STATE, WIN, internal, and_true]
  and_intros <;> intros <;> omega

theorem Guards.rsoForce (h : Guards x r s) (i v : Nat) : Guards x r (s.rsoForce i v) := by
  refine h.leaves (State.rsoForce_leaves i v (.refl s) Inside.refl fun _ h => h) fun k hk => ?_
  have := guardedKeys_low hk
  simp only [outside_cons, outside_nil, RESET_OUTPUT.ASSERT_COUNT, RESET_OUTPUT.LAST_CHANGE_STAMP, RESET_OUTPUT.OUTPUT, RSO_CLEAR_AT,
    RESET_OUTPUT.FORCE, inForce, internal, and_true]
  and_intros <;> intros <;> omega

theorem le_inForce (k : Nat) : 2 ^ 40 ≤ inForce k := Nat.le_add_left _ _

theorem Guards.landCore (h : Guards x r s) (k : Nat) (v : Int) : Guards x r (s.landCore k v) := by
  refine h.leaves (State.landCore_leaves k v (.refl s) Inside.refl fun _ h => h) fun j hj => ?_
  simp only [outside_cons, outside_nil, ALARM.ALARM_STATE, HB_AT, MONO_BASE, MONO_FROM, MSIX_HELD, POWER_STATE.STATE, RTC_BASE,
    RTC_FROM, TARGET.RAISES, TARGET.TARGET_STATE, TG_LOW, ALARM.ALARM_SECONDS, EVENT_FABRIC.DEVICE_HOLD, POWER_STATE.POWER_MODE,
    RTC.RTC_TRIM, inForce, internal, and_true]
  simp only [guardedKeys, List.mem_cons, List.not_mem_nil, or_false, TENANT_GENERATION.GEN_TN, DEVICE_DIGEST.GLOBAL_GENERATION,
    TENANT.RESET_COUNT, WATCHDOG.WD_STATE, SESSION_CONTROL.SESSION_STATE, HOLD_STATE.HOLD_TN] at hj
  rcases hj with rfl | rfl | rfl | rfl | rfl | rfl <;> and_intros <;> intros <;> omega

theorem Guards.landPower (h : Guards x r s) (k : Nat) (v : Int) : Guards x r (s.landPower k v) := by
  refine h.leavesStaged (State.landPower_leaves k v (.refl s) Inside.refl fun _ h => h) (fun j hj => ?_) (s.landPower_staged k v)
  have := guardedKeys_low hj
  simp only [outside_cons, outside_nil, ASSIST_STATUS.ASSIST_CURRENT, ASSIST_STATUS.ASSIST_RESULT, ASSIST_STATUS.ASSIST_STATE, AS_CLOSED,
    AS_END, AS_TIME, BATTERY_SWITCH.FORWARD, BATTERY_SWITCH.MODE_IN_EFFECT, BATTERY_SWITCH.OPEN_CAUSE, CHARGER_STATUS.FAULT_CAUSE,
    CHARGER_STATUS.PHASE, CHARGER_STATUS.PULSES, CHARGER_STATUS.STAGE, CHARGER_STATUS.SUSPEND_CAUSE, CH_CLOCK, CH_CLOCK_AT, CH_FULL,
    CH_HOLD_AT, CH_PHASE_AT, CH_QUALIFY_AT, CH_STAGE_AT, CONVERTER_STATUS.CONV_FLAGS, CONVERTER_STATUS.STATE, CONV_LIMIT, CONV_PHASE,
    CONV_T0, CWIN, CWIN_AT, LANE_EDGE, LANE_PARK, OVR_END, OVR_MAX, OVR_MIN, OVR_ON, OVR_REF, SW_CONN_AT, SW_MARK, SW_ON_AT, SW_TOLD,
    SW_TRIPPED, SW_WAIT_AT, TRUNC_LONGEST, TRUNC_SINCE, TRUNC_TOLD_AT, BATTERY_SWITCH.MODE, CHARGER.CHARGE_ENABLE, CONVERTER.ENABLE,
    inForce, internal, and_true]
  and_intros <;> intros <;> omega

/-- A class I value that is no setting of a channel, and neither RUN nor TAIL of a stream. -/
theorem Guards.landValue (h : Guards x r s) (u : Nat) {k : Nat} (v : Int) (hk : k ∉ guardedKeys x)
    (hc : ¬(0x3000 ≤ k / 256 ∧ k / 256 < 0x3200)) (hs : ∀ d < 32, k ≠ STREAM.RUN d ∧ k ≠ STREAM.TAIL d) :
    Guards x r (s.landValue u k v) := by
  unfold State.landValue
  extract_lets later s1 idx
  have h0 : Guards x r (if later then s else s.set k v) := .ite h (h.set hk)
  have h1 : Guards x r s1 := h0.changes ((State.notKept_effects k (.refl _)).changes x)
  have stream : s1.landStream k v = s1.set (inForce k) v := by
    unfold State.landStream
    dsimp only
    rw [if_neg, if_neg]
    all_goals
      simp only [Bool.and_eq_true, decide_eq_true_eq]
      rintro ⟨hd, e⟩
    · exact (hs _ hd).2 e
    · exact (hs _ hd).1 e
  rw [if_neg (by simpa [idx] using hc), stream]
  exact .ite (h1.rsoForce _ _) (.ite (h1.landPower k v) (.ite (h1.setBeyond (le_inForce k)) (h1.landCore k v)))

theorem Guards.defaultLands (h : Guards x r s) {k : Nat} (v : Int) (hk : k ∉ guardedKeys x)
    (hs : ∀ d < 32, k ≠ STREAM.RUN d ∧ k ≠ STREAM.TAIL d) : Guards x r (s.defaultLands k v) := by
  unfold State.defaultLands
  extract_lets s1 idx n s2
  have h1 : Guards x r s1 := h.set hk
  have hf : Guards x r (s1.set (inForce k) v) := h1.setBeyond (le_inForce k)
  split
  · exact hf
  · split
    · exact .ite h1 (.ite (.ite hf (hf.actOnRequest n)) hf)
    · rename_i hc
      exact .ite h1 (h1.landValue 16 v hk (by simpa [idx] using hc) hs)

end

/-! ### The keys of a hand -/

theorem guardedKeys_rows {x : Tenant} {k : Nat} (hk : k ∈ guardedKeys x) :
    (subAt k).all fun row => row.acc != .own && row.acc != .arb := by
  revert x k
  decide

theorem streamRuns_own : ∀ d < 32, ((subAt (STREAM.RUN d)).any fun row => row.acc == .own) ∧
    (subAt (STREAM.TAIL d)).any fun row => row.acc == .own := by
  decide

section
variable {s : State} {t : Nat} {chans : List Nat} {k : Nat}

theorem mem_handKeys (h : k ∈ s.handKeys t chans) : s.inHand t k = true ∧ s.ofStream t k = false := by
  simp only [State.handKeys, List.mem_mergeSort, List.mem_eraseDups, List.mem_filter, Bool.and_eq_true, Bool.not_eq_true'] at h
  exact ⟨h.2.1.1, h.2.2⟩

theorem mem_handKeys_guarded {x : Tenant} (h : k ∈ s.handKeys t chans) : k ∉ guardedKeys x := fun hk => by
  have hin := (mem_handKeys h).1
  have hrow := guardedKeys_rows hk
  unfold State.inHand at hin
  cases e : subAt k with
  | none => simp [e] at hin
  | some row =>
    rw [e] at hin hrow
    simp at hin hrow
    tauto

theorem mem_handKeys_stream (h : k ∈ s.handKeys t chans) (d : Nat) (hd : d < 32) : k ≠ STREAM.RUN d ∧ k ≠ STREAM.TAIL d := by
  have hs := (mem_handKeys h).2
  have not : ∀ j, k / 256 = 0x2A10 + d → (subAt k).any (fun row => row.acc == .own) = true → k ≠ j := by
    rintro j hk hrow rfl
    have yes : s.ofStream t k = true := by
      unfold State.ofStream
      dsimp only
      rw [hrow, hk, Bool.and_true, Bool.or_eq_true]
      exact .inl (by simp only [Bool.and_eq_true, decide_eq_true_eq]; omega)
    rw [yes] at hs
    exact absurd hs (by decide)
  constructor <;> rintro rfl
  · exact not _ (by simp only [STREAM.RUN]; omega) (streamRuns_own d hd).1 rfl
  · exact not _ (by simp only [STREAM.TAIL]; omega) (streamRuns_own d hd).2 rfl

end

section
variable {x : Tenant} {r s : State}

theorem Guards.setBlob (h : Guards x r s) (k : Nat) (b : List Byte) : Guards x r (s.setBlob k b) :=
  h.trans ⟨fun _ _ => rfl, rfl⟩

theorem Guards.applyValues (h : Guards x r s) {vals : List (Nat × Int)} (hv : ∀ v ∈ vals, v.1 ∉ guardedKeys x) (u accepted : Nat)
    (told : Bool) : Guards x r (s.applyValues vals u accepted told) :=
  h.trans ⟨fun _ hk => s.applyValues_other u accepted told (fun v hm e => hv v hm (e ▸ hk)) (guardedKeys_apart hk).1
    (guardedKeys_apart hk).2, s.applyValues_staged u accepted told⟩

theorem Guards.handDefaults (h : Guards x r s) (u accepted : Nat) (chans : List Nat) :
    Guards x r (s.handDefaults u accepted chans) := by
  unfold State.handDefaults
  extract_lets keys s1 s2
  have h1 : Guards x r s1 := .forEach h fun k hk y hy =>
    have hk := List.mem_of_mem_filter hk
    hy.defaultLands _ (mem_handKeys_guarded hk) (mem_handKeys_stream hk)
  have h2 : Guards x r s2 := .ite ((h1.setBlob _ _).setBlob _ _) h1
  refine h2.applyValues (fun v hv => ?_) _ _ _
  obtain ⟨k, hk, rfl⟩ := List.mem_map.1 hv
  exact mem_handKeys_guarded (List.mem_of_mem_filter hk)

end

/-! ### What a tenant reset counts (R80) -/

/-- From r to s no object below the DMA streams has changed. -/
def Below (r s : State) : Prop := ∀ k < 0x2A0000, s.get k = r.get k

section
variable {r s t : State}

theorem Below.refl (s : State) : Below s s := fun _ _ => rfl

theorem Below.set {k : Nat} {v : Int} (h : Below r s) (hk : 0x2A0000 ≤ k) : Below r (s.set k v) := fun j hj =>
  (s.get_set_other k j v (by omega)).trans (h j hj)

theorem Below.setN {k v : Nat} (h : Below r s) (hk : 0x2A0000 ≤ k) : Below r (s.setN k v) := h.set hk

theorem Below.ite {c : Prop} [Decidable c] (ha : Below r s) (hb : Below r t) : Below r (if c then s else t) := by
  split <;> assumption

theorem Below.dsDefaults (h : Below r s) (d : Nat) : Below r (s.dsDefaults d) := by
  unfold State.dsDefaults
  extract_lets s1 s2 s3
  have beyond : ∀ f i, 0x2A0000 ≤ internal f i := fun f i => (by decide : 0x2A0000 ≤ 2 ^ 40).trans (le_internal f i)
  have force : ∀ k, 0x2A0000 ≤ inForce k := fun k => (by decide : 0x2A0000 ≤ 2 ^ 40).trans (le_inForce k)
  have h1 : Below r s1 := by
    refine forEach_induct h fun k hk y hy => (hy.set ?_).set (force k)
    simp only [List.mem_cons, List.not_mem_nil, or_false, STREAM.RUN, STREAM.TAIL] at hk
    omega
  have h2 : Below r s2 := by
    refine forEach_induct h1 fun k hk y hy => hy.set ?_
    simp only [List.mem_cons, List.not_mem_nil, or_false, STREAM.MODE, STREAM.PERIOD, STREAM.COMPLETION_ADDRESS, STREAM.HEAD, PASS_RUNS,
      PASS_AT, TAIL_DUE, STREAM_CAUSE, internal] at hk
    omega
  have h3 : Below r s3 := forBelow_induct h2 fun o _ y hy => forBelow_induct (hy.set (beyond _ _)) fun w _ z hz =>
    (hz.set (by simp only [descWord]; omega)).set (force _)
  exact h3.set (by simp only [STREAM.STREAM_STATE]; omega)

theorem Below.raise (h : Below r s) (k : Kind) (site tenant obj : Nat) (fields : List (Nat × Int)) :
    Below r (s.raise k site tenant obj fields) := fun j hj =>
  ((State.raise_leaves (W := []) k site tenant obj fields (.refl s) fun _ h => h).get_eq (outside_none j)).trans (h j hj)

theorem Below.raiseStream (h : Below r s) (k : Kind) (d : Nat) (fields : List (Nat × Int)) :
    Below r (s.raiseStream k d fields) := by
  unfold State.raiseStream
  exact h.raise _ _ _ _ _

/-- A stream that stops writes its own objects, its descriptors, and what lies beyond the objects. -/
theorem Below.dsStop (h : Below r s) (d cause : Nat) : Below r (s.dsStop d cause) := by
  have force : ∀ k, 0x2A0000 ≤ inForce k := fun k => (by decide : 0x2A0000 ≤ 2 ^ 40).trans (le_inForce k)
  have beyond : ∀ f i, 0x2A0000 ≤ internal f i := fun f i => (by decide : 0x2A0000 ≤ 2 ^ 40).trans (le_internal f i)
  have ⟨shown, run⟩ : 0x2A0000 ≤ STREAM.STREAM_STATE d ∧ 0x2A0000 ≤ STREAM.RUN d := by
    simp only [STREAM.STREAM_STATE, STREAM.RUN]
    omega
  unfold State.dsStop State.dsStopped
  extract_lets s1 c s2 s3
  have h1 : Below r s1 := ((h.setN (force (STREAM.RUN d))).setN run).setN (beyond 370 d)
  have h2 : Below r s2 := (h1.setN (beyond _ _)).setN (beyond _ _)
  have h3 : Below r s3 := (h2.raiseStream _ _ _).setN shown
  exact .ite (.ite h (h.dsDefaults d)) (.ite (h1.setN shown) (.ite h3 (h3.dsDefaults d)))

end

/-- The registers that a reset of tenant x counts. -/
def countedKeys (x : Nat) : List Nat := [TENANT_GENERATION.GEN_TN x, DEVICE_DIGEST.GLOBAL_GENERATION, TENANT.RESET_COUNT x]

/-- From r to s nothing has changed that a reset of tenant x counts. -/
def Uncounts (x : Nat) (r s : State) : Prop := ∀ k ∈ countedKeys x, s.get k = r.get k

section
variable {x : Tenant} {r s t : State}

theorem countedKeys_guarded {k : Nat} (hk : k ∈ countedKeys x) : k ∈ guardedKeys x := by
  simp only [countedKeys, guardedKeys, List.mem_cons, List.not_mem_nil, or_false] at hk ⊢
  tauto

theorem countedKeys_below {k : Nat} (hk : k ∈ countedKeys x) : k < 0x232300 := by
  revert x k
  decide

theorem Uncounts.refl (s : State) : Uncounts x s s := fun _ _ => rfl

theorem Uncounts.trans (h : Uncounts x r s) (h' : Uncounts x s t) : Uncounts x r t := fun k hk => (h' k hk).trans (h k hk)

theorem Uncounts.leaves {W : List Span} {L : List Part} (h : Uncounts x r s) (l : Leaves W L s t)
    (hW : ∀ k ∈ countedKeys x, Outside W k) : Uncounts x r t := h.trans fun k hk => l.get_eq (hW k hk)

theorem Uncounts.set {k : Nat} {v : Int} (h : Uncounts x r s) (hk : k ∉ countedKeys x) : Uncounts x r (s.set k v) :=
  h.trans fun j hj => s.get_set_other k j v fun e => hk (e ▸ hj)

theorem Uncounts.setAbove {k : Nat} {v : Int} (h : Uncounts x r s) (hk : 0x232300 ≤ k) : Uncounts x r (s.set k v) :=
  h.set fun hm => by have := countedKeys_below hm; omega

theorem Uncounts.ite {c : Prop} [Decidable c] (ha : Uncounts x r s) (hb : Uncounts x r t) :
    Uncounts x r (if c then s else t) := by split <;> assumption

theorem Below.uncounts (h : Below r s) (x : Tenant) : Uncounts x r s := fun k hk =>
  h k ((countedKeys_below hk).trans (by decide))

theorem Uncounts.commitCancel (h : Uncounts x r s) (sent : Nat) : Uncounts x r (s.commitCancel x sent) :=
  h.leaves (State.commitCancel_leaves x.val sent (.refl s) Inside.refl fun _ h => h) fun _ hk =>
    (guardedKeys_apart (countedKeys_guarded hk)).2 x

theorem foldKeys_not_counted : ∀ x : Tenant, TENANT.FOLD_COUNT x ∉ countedKeys x ∧ TENANT.LAST_FOLD_CAUSE x ∉ countedKeys x := by
  decide

theorem Uncounts.foldHand (h : Uncounts x r s) (cause : Nat) : Uncounts x r (s.foldHand x cause) := by
  refine h.trans fun k hk => ?_
  obtain ⟨off, held, e⟩ := s.foldHand_eq x cause
  rw [e, State.raiseServer, (State.raise_leaves (W := []) _ _ _ _ _ (.refl _) fun _ h => h).get_eq (outside_none k)]
  unfold State.foldCounted State.count
  have hf : (s.foldAll x).get k = s.get k := (State.foldAll_leaves x.val (.refl s) Inside.refl fun _ h => h).get_eq
    (outside_above 0x2D0000 ((countedKeys_below hk).trans (by decide)) (by decide))
  have hk' := foldKeys_not_counted x
  rw [State.get_setN_other, State.get_setN_other, hf]
  · exact fun e => hk'.1 (e ▸ hk)
  · exact fun e => hk'.2 (e ▸ hk)

theorem Uncounts.planAbort (h : Uncounts x r s) (p result : Nat) : Uncounts x r (s.planAbort p result) :=
  h.leaves (State.planAbort_leaves p result (.refl s) Inside.refl fun _ h => h) fun k hk => outside_of_clears (by
    clear h
    revert x k
    decide)

theorem Uncounts.arbiterResets (h : Uncounts x r s) : Uncounts x r s.arbiterResets := by
  unfold State.arbiterResets
  extract_lets s1 s2
  have h1 : Uncounts x r s1 := (h.planAbort 0 6).planAbort 1 6
  have h2 : Uncounts x r s2 := forEach_induct h1 fun k hk y hy => hy.setAbove (by
    have := List.of_mem_filter hk
    simp only [Bool.and_eq_true, decide_eq_true_eq] at this
    omega)
  refine forBelow_induct h2 fun t ht y hy => forBelow_induct hy fun j hj z hz => hz.set ?_
  simp only [countedKeys, List.mem_cons, List.not_mem_nil, or_false, TENANT_GENERATION.GEN_TN, DEVICE_DIGEST.GLOBAL_GENERATION,
    TENANT.RESET_COUNT, TENANT.TRUMP_HELD]
  omega

end

/-! ### What a tenant reset ends (R80) -/

/-- What tenant x has begun is ended in s, and nothing of it is counted yet since r. -/
structure Ended (x : Tenant) (r s : State) : Prop where
  counts : Uncounts x r s
  watchdog : s.get (WATCHDOG.WD_STATE x) = 0
  session : s.get (SESSION_CONTROL.SESSION_STATE x) = 0
  hold : s.get (HOLD_STATE.HOLD_TN x) = 0
  staged : s.stagedOf x = []

section
variable {x : Tenant} {r s t : State}

theorem Ended.guards (h : Ended x r s) (g : Guards x s t) : Ended x r t where
  counts := h.counts.trans fun k hk => g.regs k (countedKeys_guarded hk)
  watchdog := (g.regs _ (by simp [guardedKeys])).trans h.watchdog
  session := (g.regs _ (by simp [guardedKeys])).trans h.session
  hold := (g.regs _ (by simp [guardedKeys])).trans h.hold
  staged := (congrArg (List.filter _) g.staged).trans h.staged

theorem State.wdDisarm_state (s : State) (u : Nat) : (s.wdDisarm u).get (WATCHDOG.WD_STATE u) = 0 := by
  unfold State.wdDisarm
  extract_lets s1 s2
  have h1 : s1.get (WATCHDOG.WD_STATE u) = 0 := by
    rw [State.get_setN_other, State.get_setN_other]
    · exact s.get_set_self _ _
    all_goals simp only [WATCHDOG.WD_STATE, WATCHDOG.PERIOD, WATCHDOG.QUESTION]; omega
  have h2 : s2.get (WATCHDOG.WD_STATE u) = 0 := by
    rw [State.get_setN_other, State.get_setN_other, State.get_setN_other, h1]
    all_goals simp only [WATCHDOG.WD_STATE, WATCHDOG.ANSWER_COUNT, WATCHDOG.PERIOD_START, WATCHDOG.WRONG_ANSWERS]; omega
  rw [State.get_setN_other, State.get_setN_other, State.get_setN_other, h2]
  all_goals simp only [WATCHDOG.WD_STATE, WD_VALID, WD_FAILED, WD_ANSWERS, internal]; omega

theorem State.sessionEnd_state (s : State) (u cause : Nat) : (s.sessionEnd u cause).get (SESSION_CONTROL.SESSION_STATE u) = 0 := by
  unfold State.sessionEnd
  extract_lets was s1 s2 s3
  have h3 : s3.get (SESSION_CONTROL.SESSION_STATE u) = 0 := State.get_set_self _ _ _
  split
  · exact ((State.raiseSecurity_leaves (W := []) _ _ _ (.refl s3) fun _ h => h).get_eq (outside_none _)).trans h3
  · exact h3

theorem hold_clears_counts : ∀ x : Tenant, clears (HOLD_STATE.HOLD_TN x) [each MSIX_HELD, each TARGET.RAISES,
    each TARGET.TARGET_STATE, each TG_LOW] = true := by
  decide

theorem State.tenantHold_off (s : State) (x : Tenant) : (s.tenantHold x false).get (HOLD_STATE.HOLD_TN x) = 0 := by
  unfold State.tenantHold
  extract_lets was s1 excess s2
  have h1 : s1.get (HOLD_STATE.HOLD_TN x) = 0 := State.get_set_self _ _ _
  have h2 : s2.get (HOLD_STATE.HOLD_TN x) = 0 :=
    ((State.tgHoldChange_leaves _ (.refl s1) Inside.refl fun _ h => h).get_eq (outside_of_clears (hold_clears_counts x))).trans h1
  split
  · exact h2
  · exact ((State.raise_leaves (W := []) _ _ _ _ _ (.refl s2) fun _ h => h).get_eq (outside_none _)).trans h2

/-- What a watchdog writes as it is disarmed. -/
def disarmed (x : Nat) : List Span :=
  [one (WATCHDOG.ANSWER_COUNT x), one (WATCHDOG.PERIOD x), one (WATCHDOG.PERIOD_START x), one (WATCHDOG.QUESTION x),
    one (WATCHDOG.WD_STATE x), one (WATCHDOG.WRONG_ANSWERS x), one (WD_ANSWERS x), one (WD_FAILED x), one (WD_VALID x)]

/-- What a session writes as it ends. -/
def closed (x : Nat) : List Span :=
  [one (KEY_DH x), one (KEY_HD x), one (SESSION_CONTROL.SESSION_STATE x), one (SESSION_ID x)]

/-- What a hold writes as it ends. -/
def heldOff (x : Nat) : List Span :=
  [one (HOLD_STATE.HOLD_TN x), each MSIX_HELD, each TARGET.RAISES, each TARGET.TARGET_STATE, each TG_LOW]

theorem ends_clear : ∀ x : Tenant, ((countedKeys x).all fun k => clears k (disarmed x) && clears k (closed x) && clears k (heldOff x)) ∧
    clears (WATCHDOG.WD_STATE x) (closed x) ∧ clears (WATCHDOG.WD_STATE x) (heldOff x) ∧
    clears (SESSION_CONTROL.SESSION_STATE x) (heldOff x) := by
  decide

theorem State.unstage_of (s : State) (t : Nat) : (s.unstage t).stagedOf t = [] := by
  unfold State.unstage State.stagedOf
  rw [List.filter_filter, List.filter_eq_nil_iff]
  simp

theorem State.dsStops_uncounts (h : Uncounts x r s) :
    Uncounts x r (forBelow 32 (fun d s => if s.holderOfStream d = x.val then s.dsStop d 1 else s) s) :=
  forBelow_induct h fun d _ y hy => .ite (hy.trans (((Below.refl y).dsStop d 1).uncounts x)) hy

theorem Ended.tenantEnds (h : Uncounts x r s) : Ended x r (s.tenantEnds x) := by
  unfold State.tenantEnds
  extract_lets s1 s2 s3
  have h1 : Uncounts x r s1 := State.dsStops_uncounts h
  have h2 : Ended x r s2 := by
    let w := s1.wdDisarm x
    let e := w.sessionEnd x 2
    let f := e.fenceCancel x
    let o := f.tenantHold x false
    have lw : Leaves (disarmed x) [] s1 w := State.wdDisarm_leaves x.val (.refl s1) Inside.refl
    have le : Leaves (closed x) [.collector, .signing] w e := State.sessionEnd_leaves x.val 2 (.refl w) Inside.refl fun _ h => h
    have lf : Leaves [] [.fences] e f := State.fenceCancel_leaves x.val (.refl e) fun _ h => h
    have lo : Leaves (heldOff x) [.collector, .out] f o := State.tenantHold_leaves x.val false (.refl f) Inside.refl fun _ h => h
    have lu : Leaves [] [.staged] o s2 := State.unstage_leaves x.val (.refl o) fun _ h => h
    have ⟨counted, wd, wd', ses⟩ := ends_clear x
    exact {
      counts := by
        refine h1.trans fun k hk => ?_
        have away := List.all_eq_true.1 counted k hk
        simp only [Bool.and_eq_true] at away
        obtain ⟨⟨hw, he⟩, ho⟩ := away
        rw [lu.get_eq (outside_none k), lo.get_eq (outside_of_clears ho), lf.get_eq (outside_none k),
          le.get_eq (outside_of_clears he), lw.get_eq (outside_of_clears hw)]
      watchdog := by
        rw [lu.get_eq (outside_none _), lo.get_eq (outside_of_clears wd'), lf.get_eq (outside_none _),
          le.get_eq (outside_of_clears wd)]
        exact s1.wdDisarm_state x
      session := by
        rw [lu.get_eq (outside_none _), lo.get_eq (outside_of_clears ses), lf.get_eq (outside_none _)]
        exact w.sessionEnd_state x 2
      hold := (lu.get_eq (outside_none _)).trans (f.tenantHold_off x)
      staged := o.unstage_of x }
  have h3 : Ended x r s3 := h2.guards ((Guards.refl _ _).setBlob _ _)
  refine h3.guards ((((Guards.refl _ _).set ?_).set ?_).set ?_)
  all_goals
    clear * -
    revert x
    decide

end

/-! ### The course of a tenant reset (R80) -/

/-- A reset of tenant t from the fold of its hand to where it counts itself: all that the tenant has begun has ended. -/
def State.resetEnded (s : State) (t accepted : Nat) : State :=
  let chans := s.keptChannels t
  let s := if t = 0 then s.arbiterResets else s
  let s := (s.tenantEnds t).handDefaults t accepted chans
  let s := forEach (s.handChannels t) (fun n s => if chans.contains n then s.keepSettings n else s.keepNothing n) s
  forEach (s.rangeOf t) (fun q s => s.ringRestart q) s

/-- The reset counts itself. -/
def State.resetCounted (s : State) (t source : Nat) : State :=
  ((s.generationsAdvance t).count (TENANT.RESET_COUNT t) 0xFFFF).setN (TENANT.LAST_RESET_SOURCE t) (source % 256)

/-- The reset is recorded, and a node that waited for it boots. -/
def State.resetReported (s : State) (t source : Nat) : State :=
  let s := s.recordNow .TENANT_RESET_DONE siteServer t
    [f8 t, f8 (source % 256 : Nat), f16 (s.nat (TENANT_GENERATION.GEN_TN t))]
  let boot := s.flag (NMT_BOOT t)
  let s := s.setN (NMT_BOOT t) 0
  if boot then (s.pdosRestart t).nodeBoot t else s

theorem State.tenantResets_eq {source : Nat} (h : source < 256) (s : State) (t accepted : Nat) :
    s.tenantResets t source accepted =
      (((((s.commitCancel t s.frame).foldHand t 1).resetEnded t accepted).resetCounted t source).resetReported t source) := by
  have course : s.tenantResets t source accepted =
      ((((if 256 ≤ source then ((s.commitCancel t s.frame).foldAll t).setN (TENANT.LAST_FOLD_CAUSE t) 1
        else (s.commitCancel t s.frame).foldHand t 1).resetEnded t accepted).resetCounted t source).resetReported t source) := rfl
  rw [course, if_neg (Nat.not_le.2 h)]

section
variable {x : Tenant} {r s t : State}

theorem Guards.keepChannel (h : Guards x r s) (n : Nat) (c : Prop) [Decidable c] :
    Guards x r (if c then s.keepSettings n else s.keepNothing n) := by
  have away : ∀ k ∈ guardedKeys x, Outside [one (CHANNEL_STATUS.FLAGS n), one (KEPT n 0), one (KEPT n 1), one (KEPT n 2)] k := fun k hk => by
    have := guardedKeys_low hk
    simp only [outside_cons, outside_nil, CHANNEL_STATUS.FLAGS, KEPT, internal, and_true]
    and_intros <;> intros <;> omega
  exact .ite (h.leaves (State.keepSettings_leaves n (.refl s) Inside.refl (L := [])) away)
    (h.leaves (State.keepNothing_leaves n (.refl s) Inside.refl (L := [])) away)

theorem targets_clear : ∀ x : Tenant, (guardedKeys x).all fun k => clears k [each TARGET.TARGET_STATE, each TG_LOW] := by
  decide

theorem Guards.ringRestart (h : Guards x r s) (q : Nat) : Guards x r (s.ringRestart q) :=
  h.leaves (State.ringRestart_leaves q (.refl s) Inside.refl fun _ h => h) fun k hk => by
    have low := guardedKeys_low hk
    have away := outside_of_clears (List.all_eq_true.1 (targets_clear x) k hk)
    refine outside_one ?_ (outside_one ?_ (outside_one ?_ away))
    all_goals simp only [OVF_DROPS, RING.SEQUENCE, RING_FENCE, internal]; omega

theorem Ended.resetEnded (h : Uncounts x r s) (accepted : Nat) : Ended x r (s.resetEnded x accepted) := by
  unfold State.resetEnded
  extract_lets chans s2 s3 s4
  have h2 : Uncounts x r s2 := .ite h.arbiterResets h
  have h3 : Ended x r s3 := (Ended.tenantEnds h2).guards ((Guards.refl x _).handDefaults _ _ _)
  have h4 : Ended x r s4 := h3.guards (.forEach (.refl x s3) fun n _ y hy => hy.keepChannel n _)
  exact h4.guards (.forEach (.refl x s4) fun q _ y hy => hy.ringRestart q)

/-! ### The reset counts itself and is recorded -/

/-- What the count of a reset writes. -/
def countSpans (x : Nat) : List Span :=
  [one DEVICE_DIGEST.GLOBAL_GENERATION, one (TENANT_GENERATION.GEN_TN x), one (WATCHDOG.ADJOURN_USED x), one (TENANT.RESET_COUNT x),
    one (TENANT.LAST_RESET_SOURCE x)]

theorem countSpans_clear : ∀ x : Tenant, ([WATCHDOG.WD_STATE x, SESSION_CONTROL.SESSION_STATE x, HOLD_STATE.HOLD_TN x] : List Nat).all
    fun k => clears k (countSpans x) := by
  decide

theorem State.resetCounted_leaves (s : State) (x source : Nat) : Leaves (countSpans x) [] s (s.resetCounted x source) :=
  State.setN_leaves (State.count_leaves (State.generationsAdvance_leaves x (.refl s)
    (inBoth (inBoth (inBoth inNil)))) Covered.here.next.next.next) Covered.here.next.next.next.next

/-- What stands in s once a reset of tenant x has landed in r. -/
structure HasReset (x : Tenant) (source : Nat) (r s : State) : Prop where
  generation : s.nat (TENANT_GENERATION.GEN_TN x) = (r.nat (TENANT_GENERATION.GEN_TN x) + 1) % 2 ^ 16
  all : s.nat DEVICE_DIGEST.GLOBAL_GENERATION = (r.nat DEVICE_DIGEST.GLOBAL_GENERATION + 1) % 2 ^ 16
  count : s.nat (TENANT.RESET_COUNT x) = satTo 0xFFFF (r.nat (TENANT.RESET_COUNT x) + 1)
  source : s.nat (TENANT.LAST_RESET_SOURCE x) = source % 256
  watchdog : s.nat (WATCHDOG.WD_STATE x) = 0
  session : s.nat (SESSION_CONTROL.SESSION_STATE x) = 0
  hold : s.flag (HOLD_STATE.HOLD_TN x) = false
  staged : s.stagedOf x = []

theorem HasReset.guards {source : Nat} (h : HasReset x source r s) (g : Guards x s t)
    (e : t.get (TENANT.LAST_RESET_SOURCE x) = s.get (TENANT.LAST_RESET_SOURCE x)) : HasReset x source r t where
  generation := (congrArg Int.toNat (g.regs _ (by simp [guardedKeys]))).trans h.generation
  all := (congrArg Int.toNat (g.regs _ (by simp [guardedKeys]))).trans h.all
  count := (congrArg Int.toNat (g.regs _ (by simp [guardedKeys]))).trans h.count
  source := (congrArg Int.toNat e).trans h.source
  watchdog := (congrArg Int.toNat (g.regs _ (by simp [guardedKeys]))).trans h.watchdog
  session := (congrArg Int.toNat (g.regs _ (by simp [guardedKeys]))).trans h.session
  hold := (congrArg (· != 0) (g.regs _ (by simp [guardedKeys]))).trans h.hold
  staged := (congrArg (List.filter _) g.staged).trans h.staged

theorem resetKeys_apart (x : Tenant) : TENANT.RESET_COUNT x ≠ TENANT.LAST_RESET_SOURCE x ∧
    ∀ k ∈ [TENANT_GENERATION.GEN_TN x, DEVICE_DIGEST.GLOBAL_GENERATION], k ≠ TENANT.RESET_COUNT x ∧ k ≠ TENANT.LAST_RESET_SOURCE x := by
  revert x
  decide

theorem Ended.resetCounted (h : Ended x r s) (source : Nat) : HasReset x source r (s.resetCounted x source) := by
  have l := s.resetCounted_leaves x source
  have away := fun k hk => outside_of_clears (List.all_eq_true.1 (countSpans_clear x) k hk)
  have ⟨apart, gen⟩ := resetKeys_apart x
  have counted : ∀ k ∈ countedKeys x, s.nat k = r.nat k := fun k hk => congrArg Int.toNat (h.counts k hk)
  have reset : (s.generationsAdvance x).nat (TENANT.RESET_COUNT x) = s.nat (TENANT.RESET_COUNT x) :=
    (State.generationsAdvance_leaves x.val (.refl s) Inside.refl (L := [])).nat_eq (outside_of_clears (by
      clear * -
      revert x
      decide))
  have stays : ∀ k ∈ [TENANT_GENERATION.GEN_TN x, DEVICE_DIGEST.GLOBAL_GENERATION],
      (s.resetCounted x source).nat k = (s.generationsAdvance x).nat k := fun k hk => by
    unfold State.resetCounted State.count
    rw [State.nat_setN_other _ (gen k hk).2, State.nat_setN_other _ (gen k hk).1]
  exact {
    generation := by
      rw [stays _ (by simp), State.generationsAdvance_generation, counted _ (by simp [countedKeys])]
    all := by
      rw [stays _ (by simp), State.generationsAdvance_global, counted _ (by simp [countedKeys])]
    count := by
      unfold State.resetCounted State.count
      rw [State.nat_setN_other _ apart, State.nat_setN_self, reset, counted _ (by simp [countedKeys])]
    source := State.nat_setN_self _ _ _
    watchdog := congrArg Int.toNat ((l.get_eq (away _ (by simp))).trans h.watchdog)
    session := congrArg Int.toNat ((l.get_eq (away _ (by simp))).trans h.session)
    hold := congrArg (· != 0) ((l.get_eq (away _ (by simp))).trans h.hold)
    staged := (congrArg (List.filter _) (l.parts .staged (by decide))).trans h.staged }

/-- The registers that say what a reset of tenant x has done. -/
def resetKeys (x : Nat) : List Nat := TENANT.LAST_RESET_SOURCE x :: guardedKeys x

theorem HasReset.leaves {source : Nat} {W : List Span} {L : List Part} (h : HasReset x source r s) (l : Leaves W L s t)
    (hW : (resetKeys x).all fun k => clears k W) (hL : .staged ∉ L := by decide) : HasReset x source r t := by
  have away : ∀ k ∈ resetKeys x, Outside W k := fun k hk => outside_of_clears (List.all_eq_true.1 hW k hk)
  exact h.guards ((Guards.refl x s).leaves l (fun k hk => away k (List.mem_cons_of_mem _ hk)) hL)
    (l.get_eq (away _ List.mem_cons_self))

/-- What a record placed at once can write. -/
def recordSpans : List Span :=
  [one EVENT_FABRIC.LATE_RECORDS, one EVENT_FABRIC.RECORDS_PLACED, one (FAULT_STATUS.COUNT_F 0), each MSIX_HELD, each OVF_DROPS,
    each OVF_FIRST, each OVF_LAST, each RING.DROPS, each RING.HIGH_WATER, each RING.SEQUENCE, each RING_RR, each TARGET.RAISES,
    each TARGET.TARGET_STATE, each TG_BEGAN, each TG_COUNT, each TG_LOW]

/-- What a node of tenant x writes as it restarts its PDOs and boots. -/
def bootSpans (x : Nat) : List Span :=
  [one (NMT_BOOT x), one (HB_AT x), one (NMT_STATE x), one (CAN_PORT.TX_FRAMES 0), one (CAN_PORT.TX_FRAMES 1), each PDO_COUNT,
    each PDO_DATA, each PDO_DUE, each PDO_EVT, each RPDO_HAS, each RPDO_HELD]

theorem recordSpans_clear : ∀ x : Tenant, (resetKeys x).all fun k => clears k recordSpans := by
  decide

theorem bootSpans_clear : ∀ x : Tenant, (resetKeys x).all fun k => clears k (bootSpans x) := by
  decide

theorem State.canPortOf_ports {t p : Nat} (h : s.canPortOf t = some p) : p = 0 ∨ p = 1 := by
  unfold State.canPortOf at h
  split at h
  · exact .inl (Option.some.inj h).symm
  · exact .inr (Option.some.inj h).symm
  · cases h

theorem State.canSend_ports (s : State) {p : Nat} (hp : p = 0 ∨ p = 1) (x cob : Nat) (form : CanForm) (data : List Byte) :
    Leaves (bootSpans x) [.canQueue, .out] s (s.canSend p cob form data) :=
  State.canSend_leaves p cob form data (.refl s) (by
    obtain rfl | rfl := hp
    · exact inSkip (inSkip (inSkip (inBoth inNil)))
    · exact inSkip (inSkip (inSkip (inSkip (inBoth inNil))))) fun _ h => h

theorem State.nodeSend_ports (s : State) (x code : Nat) : Leaves (bootSpans x) [.canQueue, .out] s (s.nodeSend x code) := by
  unfold State.nodeSend
  split
  · next p hp => exact s.canSend_ports (State.canPortOf_ports hp) x _ _ _
  · exact .refl s

theorem State.nodeBoot_ports (s : State) (x : Nat) : Leaves (bootSpans x) [.canQueue, .out] s (s.nodeBoot x) := by
  have state : Covered (bootSpans x) (NMT_STATE x) := Covered.here.next.next
  have beat : Covered (bootSpans x) (HB_AT x) := Covered.here.next
  unfold State.nodeBoot
  split
  · exact (State.setN_leaves (State.setN_leaves (.refl s) state) beat).trans (State.nodeSend_ports _ x 0)
  · exact State.setN_leaves (.refl s) state

theorem HasReset.resetReported {source : Nat} (h : HasReset x source r s) (told : Nat) :
    HasReset x source r (s.resetReported x told) := by
  unfold State.resetReported
  extract_lets s1 boot s2
  have h1 : HasReset x source r s1 :=
    h.leaves (State.recordNow_leaves (W := recordSpans) _ _ _ _ (.refl s) Inside.refl fun _ h => h) (recordSpans_clear x)
  have h2 : HasReset x source r s2 :=
    h1.leaves (State.setN_leaves (W := bootSpans x) (L := []) (.refl s1) Covered.here) (bootSpans_clear x)
  split
  · have l := State.pdosRestart_leaves (W := bootSpans x) (L := []) x.val (.refl s2)
      (inSkip (inSkip (inSkip (inSkip (inSkip Inside.refl)))))
    exact (h2.leaves l (bootSpans_clear x)).leaves (State.nodeBoot_ports _ x.val) (bootSpans_clear x)
  · exact h2

/-- A tenant reset from a source of the core, as it lands. -/
theorem State.tenantResets_hasReset {source : Nat} (h : source < 256) (s : State) (accepted : Nat) :
    HasReset x source s (s.tenantResets x source accepted) := by
  rw [State.tenantResets_eq h]
  have begun : Uncounts x s ((s.commitCancel x s.frame).foldHand x 1) := ((Uncounts.refl s).commitCancel _).foldHand 1
  exact ((Ended.resetEnded begun accepted).resetCounted source).resetReported source

end

/-- Settles O59: a commit gives its values row by row, a fold turns off channel by channel, and a tenant reset ends what the
tenant has begun before it counts itself. -/
theorem commitsFoldsAndResetsLand : Obligations.CommitsFoldsAndResetsLand := by
  unfold Obligations.CommitsFoldsAndResetsLand
  intro x due at_ source cause vals s
  refine ⟨State.commit_lands x due at_ s, State.fold_lands x due at_ cause s, fun core _ _ => ?_⟩
  have h := State.tenantResets_hasReset (x := x) core s at_
  exact ⟨h.generation, h.all, h.count, h.source.trans (Nat.mod_eq_of_lt core), h.watchdog, h.session, h.hold, h.staged⟩

end Sys2Proof.Machine
end

section
/-!
CLAIM O57. Commands to a channel as they land: the clauses on REQUEST in ON and in PWM do not ask that the die is out of its
thermal shutdown.
-/
open Sys2Proof
namespace Sys2Proof.Machine

/-- Channel 0 is ON and CD0 in SHUTDOWN: so R424 leaves an anchored channel. -/
def shutDie : State := (State.reset.setN (CELL 0) ST.ON).setN (THERMAL_DIE.DIE_STATE 1) 3

theorem shutDie_channel : shutDie.flag (LOGIC_OFF (dieOf 0)) = false ∧ shutDie.standing 0 = false ∧ shutDie.swapOf 0 = none ∧
    shutDie.cell 0 = ST.ON := by decide

/-- REQUEST 2 of channel 0, as it lands on the die in SHUTDOWN. -/
def shutDieRequested : State := shutDie.landOne ⟨0, 0, 0, .value (CHANNEL_CONFIG.REQUEST 0) 2, false⟩

/-- R424: the request is stored, and no PWM is pending. -/
theorem shutDieRequested_stores :
    shutDieRequested.flag (STORED_WAIT 0) = true ∧ shutDieRequested.nat (PEND 0) = 0 := by decide

/-- Refutes O57: on a die in SHUTDOWN, REQUEST 2 of an anchored channel that is ON is stored (R424), so PEND stays 0. -/
theorem not_channelCommandsLand : ¬ Obligations.ChannelCommandsLand := by
  unfold Obligations.ChannelCommandsLand
  intro h
  obtain ⟨logic, standing, free, on⟩ := shutDie_channel
  obtain ⟨-, -, pwm, -⟩ := (h 0 0 0 0 0 shutDie logic).1 standing free
  have pending : shutDieRequested.nat (PEND 0) = 2 := (pwm on).2
  rw [shutDieRequested_stores.2] at pending
  cases pending

end Sys2Proof.Machine
end

section
/-!
CLAIM O58. Castling swaps, plans, the end of trump and WAKE_CLEAR as they land.
-/
open Sys2Proof
namespace Sys2Proof.Machine

/-! ### Single bits of a register -/

section
variable {v b c : Nat} {on : Bool}

/-- Where bit b is clear, adding its weight carries into no other bit. -/
theorem testBit_two_pow_add_other (hc : c ≠ b) (hb : v.testBit b = false) : (2 ^ b + v).testBit c = v.testBit c := by
  rcases Nat.lt_or_gt_of_ne hc with lt | gt
  · exact Nat.testBit_two_pow_add_gt lt v
  · obtain ⟨d, rfl⟩ : ∃ d, c = d + (b + 1) := ⟨c - (b + 1), by omega⟩
    have even : v / 2 ^ b % 2 = 0 := by
      simpa [Nat.testBit_eq_decide_div_mod_eq] using hb
    rw [← Nat.testBit_div_two_pow, ← Nat.testBit_div_two_pow, pow_succ, ← Nat.div_div_eq_div_mul, ← Nat.div_div_eq_div_mul,
      Nat.add_div_left _ (Nat.two_pow_pos b)]
    congr 1
    omega

theorem putBit_testBit_self : (putBit v b on).testBit b = on := by
  unfold putBit
  split
  · rename_i h
    have e : 2 ^ b + (v - 2 ^ b) = v := Nat.add_sub_cancel' (Nat.ge_two_pow_of_testBit h)
    cases on
    · have := Nat.testBit_two_pow_add_eq (v - 2 ^ b) b
      rw [e, h] at this
      simpa using this.symm
    · exact h
  · rename_i h
    cases on
    · simpa using h
    · simpa [Nat.add_comm v, Nat.testBit_two_pow_add_eq] using h

theorem putBit_testBit_other (hc : c ≠ b) : (putBit v b on).testBit c = v.testBit c := by
  unfold putBit
  split
  · rename_i h
    have e : 2 ^ b + (v - 2 ^ b) = v := Nat.add_sub_cancel' (Nat.ge_two_pow_of_testBit h)
    have clear : (v - 2 ^ b).testBit b = false := by
      have := Nat.testBit_two_pow_add_eq (v - 2 ^ b) b
      rw [e, h] at this
      simpa using this.symm
    cases on
    · have := testBit_two_pow_add_other hc clear
      rw [e] at this
      exact this.symm
    · rfl
  · rename_i h
    cases on
    · rfl
    · rw [if_pos rfl, Nat.add_comm]
      exact testBit_two_pow_add_other hc (by simpa using h)

end

section
variable (s : State) {k b c : Nat} {on : Bool}

@[simp] theorem State.bit_setBit_self : (s.setBit k b on).bit k b = on := by
  rw [State.bit, State.setBit, State.nat_setN_self, putBit_testBit_self]

theorem State.bit_setBit_other (hc : c ≠ b) : (s.setBit k b on).bit k c = s.bit k c := by
  rw [State.bit, State.setBit, State.nat_setN_self, putBit_testBit_other hc, State.bit]

theorem State.bit_setBit_false (h : s.bit k c = false) : (s.setBit k b false).bit k c = false := by
  by_cases hc : c = b
  · subst hc
    exact s.bit_setBit_self
  · rwa [s.bit_setBit_other hc]

end

/-! ### A swap that lands (R151, R152) -/

/-- R151: what a swap of pair p asks of its incoming and its outgoing channel. -/
abbrev State.SwapFits (s : State) (p inc out : Nat) : Prop :=
  s.pairUsed p = true ∧ s.nat (CASTLING_PAIR.SWAP_STATE p) = 0 ∧ s.standing out = false ∧
    (s.cell out = ST.ON ∨ s.cell out = ST.LIMIT) ∧ s.standing inc = false ∧ s.cell inc = ST.OFF ∧
    s.nat (inForce (CHANNEL_CONFIG.REQUEST inc)) = 0 ∧ s.coolingOwed inc = false

/-- The channel that a request to pair p for side b swaps in. -/
def State.incoming (s : State) (p : Nat) (b : Fin 2) : Nat :=
  if b = 0 then s.nat (CASTLING_PAIR.CHANNEL_A p) else s.nat (CASTLING_PAIR.CHANNEL_B p)

/-- The channel that a request to pair p for side b swaps out. -/
def State.outgoing (s : State) (p : Nat) (b : Fin 2) : Nat :=
  if b = 0 then s.nat (CASTLING_PAIR.CHANNEL_B p) else s.nat (CASTLING_PAIR.CHANNEL_A p)

/-- R152: what a swap that begins writes before its incoming channel asks for admission. -/
def State.swapBegun (s : State) (p which inc out : Nat) : State :=
  let s := ((s.setN (CASTLING_PAIR.SWAP_STATE p) 1).setN (SWAP_IN p) (inc + 1)).setN (SWAP_OUT p) (out + 1)
  let s := s.setN (SWAP_AT p) s.time
  let s := (s.setN (SWAP_SIDE p) 1).setN (CASTLING_PAIR.ACTIVE p) (1 - min 1 which)
  (s.setRequest inc 1).setN (CHANNEL_PROTECTION.RETRIES_LEFT inc) (s.nat (CHANNEL_PROTECTION.RETRY_COUNT inc))

/-- The incoming channel of a swap asks for admission; a thermal shutdown stores that (R424). -/
def State.swapAsks (s : State) (inc : Nat) : State :=
  if s.nat (THERMAL_DIE.DIE_STATE (dieOf inc + 1)) = 3 then s.setN (STORED_WAIT inc) 1 else s.askAdmission inc 3

section
variable {s : State} {p : Nat} {b : Fin 2}

theorem State.swapBegin_fits (h : s.SwapFits p (s.incoming p b) (s.outgoing p b)) :
    s.swapBegin p b = (s.swapBegun p b (s.incoming p b) (s.outgoing p b)).swapAsks (s.incoming p b) := by
  simp only [State.incoming, State.outgoing, ← Fin.val_eq_zero_iff] at h ⊢
  unfold State.swapBegin
  dsimp only
  rw [if_pos]
  · rfl
  · simpa [and_assoc] using h

theorem State.swapBegin_refused (h : ¬s.SwapFits p (s.incoming p b) (s.outgoing p b)) :
    s.swapBegin p b = s.setN (CASTLING_PAIR.SWAP_RESULT p) 4 := by
  simp only [State.incoming, State.outgoing, ← Fin.val_eq_zero_iff] at h
  unfold State.swapBegin
  dsimp only
  rw [if_neg]
  simpa [and_assoc] using h

theorem State.swapAsks_leaves (s : State) (inc : Nat) :
    Leaves [one (STORED_WAIT inc), one (ADMIT_KIND inc), one (ADMIT_SINCE inc), one (CHANNEL_PROTECTION.ADMIT_WAIT inc),
      one (CHANNEL_STATUS.FLAGS inc)] [] s (s.swapAsks inc) :=
  .ite (State.setN_leaves (.refl s) .here) (State.askAdmission_leaves inc 3 (.refl s) (inSkip .refl))

@[simp] theorem State.askAdmission_kind (s : State) (n kind : Nat) : (s.askAdmission n kind).nat (ADMIT_KIND n) = kind := by
  unfold State.askAdmission State.setChFlag State.setBit
  rw [State.nat_setN_other, State.nat_setN_other, State.nat_setN_other, State.nat_setN_self]
  all_goals
    simp only [ADMIT_KIND, ADMIT_SINCE, CHANNEL_PROTECTION.ADMIT_WAIT, CHANNEL_STATUS.FLAGS, internal]
    omega

/-- The registers that show of a swap of pair p what its request has made of the pair and of its channels. -/
theorem State.swapBegun_shows (s : State) (p which inc out : Nat) :
    let t := s.swapBegun p which inc out
    t.nat (CASTLING_PAIR.SWAP_STATE p) = 1 ∧ t.nat (SWAP_IN p) = inc + 1 ∧ t.nat (SWAP_OUT p) = out + 1 ∧
      t.nat (CHANNEL_CONFIG.REQUEST inc) = 1 ∧ t.nat (CASTLING_PAIR.ACTIVE p) = 1 - min 1 which ∧
      t.nat (CELL out) = s.nat (CELL out) ∧ ∀ i, t.nat (THERMAL_DIE.DIE_STATE i) = s.nat (THERMAL_DIE.DIE_STATE i) := by
  unfold State.swapBegun State.setRequest
  refine ⟨?_, ?_, ?_, ?_, ?_, ?_, fun i => ?_⟩ <;>
    simp (disch := (simp only [CASTLING_PAIR.SWAP_STATE, CASTLING_PAIR.ACTIVE, CHANNEL_CONFIG.REQUEST, SWAP_IN, SWAP_OUT, SWAP_AT,
      SWAP_SIDE, CHANNEL_PROTECTION.RETRIES_LEFT, CELL, THERMAL_DIE.DIE_STATE, inForce, internal]; omega)) only
      [State.nat_setN_other, State.nat_setN_self]

/-- A request for admission shows nothing of its swap. -/
theorem State.swapAsks_nat (s : State) (inc : Nat) {k : Nat} (hk : k % 256 ≠ 255 ∧ k % 256 ≠ 45 ∧ k % 256 ≠ 2 ∨
    ∃ i, k = SWAP_IN i ∨ k = SWAP_OUT i ∨ k = CELL i) : (s.swapAsks inc).nat k = s.nat k := by
  refine (s.swapAsks_leaves inc).nat_eq ?_
  simp only [outside_cons, outside_nil, STORED_WAIT, ADMIT_KIND, ADMIT_SINCE, CHANNEL_PROTECTION.ADMIT_WAIT, CHANNEL_STATUS.FLAGS,
    internal, and_true]
  simp only [SWAP_IN, SWAP_OUT, CELL, internal] at hk
  rcases hk with hk | ⟨i, rfl | rfl | rfl⟩ <;> and_intros <;> intros <;> omega

/-- R152: a swap whose conditions hold begins. -/
theorem State.swapBegin_begins (h : s.SwapFits p (s.incoming p b) (s.outgoing p b)) :
    let inc := s.incoming p b
    let out := s.outgoing p b
    let t := s.swapBegin p b
    t.nat (CASTLING_PAIR.SWAP_STATE p) = 1 ∧ t.swapIn p = inc ∧ t.swapOut p = out ∧
      t.nat (CHANNEL_CONFIG.REQUEST inc) = 1 ∧ t.nat (CASTLING_PAIR.ACTIVE p) = 1 - b.val ∧ t.cell out = s.cell out ∧
      (s.nat (THERMAL_DIE.DIE_STATE (dieOf inc + 1)) ≠ 3 → t.nat (ADMIT_KIND inc) = 3) := by
  intro inc out t
  obtain ⟨state, incoming, outgoing, request, active, cell, die⟩ := s.swapBegun_shows p b inc out
  have asks : t = (s.swapBegun p b inc out).swapAsks inc := State.swapBegin_fits h
  have keeps {k : Nat} : _ → t.nat k = (s.swapBegun p b inc out).nat k := asks ▸ State.swapAsks_nat _ inc
  refine ⟨(keeps (.inl ?_)).trans state, ?_, ?_, (keeps (.inl ?_)).trans request, (keeps (.inl ?_)).trans ?_,
    (keeps (.inr ⟨out, .inr (.inr rfl)⟩)).trans cell, fun running => ?_⟩
  · simp only [CASTLING_PAIR.SWAP_STATE]
    omega
  · rw [State.swapIn, keeps (.inr ⟨p, .inl rfl⟩), incoming, Nat.add_sub_cancel]
  · rw [State.swapOut, keeps (.inr ⟨p, .inr (.inl rfl)⟩), outgoing, Nat.add_sub_cancel]
  · simp only [CHANNEL_CONFIG.REQUEST]
    omega
  · simp only [CASTLING_PAIR.ACTIVE]
    omega
  · rw [active]
    omega
  · rw [asks, State.swapAsks, die, if_neg running, State.askAdmission_kind]

/-- R151: a swap whose conditions do not hold ends at once with result 4. -/
theorem State.swapBegin_ends (h : ¬s.SwapFits p (s.incoming p b) (s.outgoing p b)) :
    (s.swapBegin p b).nat (CASTLING_PAIR.SWAP_RESULT p) = 4 ∧
      Leaves [one (CASTLING_PAIR.SWAP_RESULT p)] [] s (s.swapBegin p b) := by
  rw [State.swapBegin_refused h]
  exact ⟨State.nat_setN_self _ _ _, State.setN_leaves (.refl s) .here⟩

end

/-! ### START lands (R163, R165) -/

theorem Follows.set {s x : State} (h : Follows s x) {k : Nat} {v : Int} (hk : k ≠ TICK_OFFSET) : Follows s (x.set k v) :=
  ⟨h.time, (x.get_set_other k _ v hk.symm).trans h.offset, h.collector⟩

theorem plan_count_ne_runs (p : Nat) : ofPlan p OPENING_PLAN.STEP_COUNT ≠ ofPlan p OPENING_PLAN.RUNS := by
  simp only [ofPlan, OPENING_PLAN.STEP_COUNT, OPENING_PLAN.RUNS]
  omega

/-- The states of the steps lie among the objects. -/
theorem plan_step_low {p i : Nat} (hp : p < 2) (hi : i < 128) : ofPlan p (OPENING_STEP_STATE.STATE i) < 2 ^ 40 := by
  simp only [ofPlan, OPENING_STEP_STATE.STATE]
  omega

/-- What the start of plan p makes of its step i. -/
def State.stepBegins (s : State) (p i : Nat) : State :=
  let j := stepOf p (i + 1)
  let s := ((s.setStep p (i + 1) 0).setN (STEP_SPENT j) 0).setN (STEP_SEEN_AT j) s.time
  ((s.setN (STEP_RUNS j) 0).setN (STEP_MOVED_AT j) 0).setN (STEP_AGAIN j) 0

/-- The start of plan p counts, and every step of it is pending. -/
def State.stepsBegin (s : State) (p : Nat) : State :=
  let s := s.count (ofPlan p OPENING_PLAN.RUNS) 0xFFFF
  forBelow (s.nat (ofPlan p OPENING_PLAN.STEP_COUNT)) (fun i s => s.stepBegins p i) s

/-- What the start of plan p leaves before its trigger is noted and recorded. -/
def State.planBegun (s : State) (p : Nat) : State :=
  let s := s.stepsBegin p
  let s := (s.setN (ofPlan p OPENING_PLAN.PLAN_STATE) 1).setN (ofPlan p OPENING_PLAN.SKIPPED_STEPS) 0
  s.setN (ofPlan p OPENING_PLAN.START_FRAME) s.frameNumber

section
variable (s : State) {p : Nat}

theorem State.planAbort_idle {result : Nat} (h : s.planRuns p = false) : s.planAbort p result = s := if_neg (by simp [h])

/-- R165: a plan begins where neither runs. -/
theorem State.planBegin_idle (trigger : Nat) (opening : s.planRuns 0 = false) (endgame : s.planRuns 1 = false)
    (idle : s.planRuns p = false) :
    s.planBegin p trigger = ((s.planBegun p).setN (PLAN_TRIGGER p) trigger).raisePlan .PLAN_STARTED p 0
      [f8 trigger, f16 ((s.planBegun p).get (ofPlan p OPENING_PLAN.RUNS))] := by
  unfold State.planBegin State.planBegun State.stepsBegin State.stepBegins
  rw [if_neg (by simp [endgame, idle]), s.planAbort_idle opening, ite_self]

/-- The start of a step writes its state and its timers. -/
theorem State.stepBegins_leaves (i : Nat) :
    Leaves [one (ofPlan p (OPENING_STEP_STATE.STATE i)), one (STEP_SPENT (stepOf p (i + 1))), one (STEP_SEEN_AT (stepOf p (i + 1))),
      one (STEP_RUNS (stepOf p (i + 1))), one (STEP_MOVED_AT (stepOf p (i + 1))), one (STEP_AGAIN (stepOf p (i + 1)))] [] s
      (s.stepBegins p i) := by
  unfold State.stepBegins State.setStep
  simp only [Nat.add_sub_cancel]
  exact State.setN_leaves (State.setN_leaves (State.setN_leaves (State.setN_leaves (State.setN_leaves (State.setN_leaves (.refl s)
    Covered.here) Covered.here.next) Covered.here.next.next) Covered.here.next.next.next) Covered.here.next.next.next.next)
    Covered.here.next.next.next.next.next

theorem State.stepBegins_nat (i : Nat) {k : Nat} (low : k < 2 ^ 40) (hk : k ≠ ofPlan p (OPENING_STEP_STATE.STATE i)) :
    (s.stepBegins p i).nat k = s.nat k := by
  refine (s.stepBegins_leaves i).nat_eq (outside_one hk ?_)
  simp only [outside_cons, outside_nil, STEP_SPENT, STEP_SEEN_AT, STEP_RUNS, STEP_MOVED_AT, STEP_AGAIN, internal, and_true]
  and_intros <;> intros <;> omega

theorem State.stepBegins_follows (i : Nat) (low : ofPlan p (OPENING_STEP_STATE.STATE i) < 2 ^ 40) :
    Follows s (s.stepBegins p i) := by
  have l := s.stepBegins_leaves (p := p) i
  refine .of_leaves l (by decide) (outside_one ?_ ?_) (by rw [l.parts .collector (by decide)])
  · simp only [TICK_OFFSET, internal]
    omega
  · simp only [outside_cons, outside_nil, STEP_SPENT, STEP_SEEN_AT, STEP_RUNS, STEP_MOVED_AT, STEP_AGAIN, TICK_OFFSET, internal,
      and_true]
    and_intros <;> intros <;> omega

theorem State.stepBegins_state {i : Nat} (low : ofPlan p (OPENING_STEP_STATE.STATE i) < 2 ^ 40) :
    (s.stepBegins p i).stepState p (i + 1) = 0 := by
  unfold State.stepBegins State.setStep State.stepState
  simp (disch := (simp only [STEP_SPENT, STEP_SEEN_AT, STEP_RUNS, STEP_MOVED_AT, STEP_AGAIN, internal]; omega)) only
    [Nat.add_sub_cancel, State.nat_setN_other, State.nat_setN_self]

theorem State.stepsBegin_eq : s.stepsBegin p = forBelow (s.nat (ofPlan p OPENING_PLAN.STEP_COUNT)) (fun i s => s.stepBegins p i)
    (s.count (ofPlan p OPENING_PLAN.RUNS) 0xFFFF) := by
  rw [← s.nat_count_other (plan_count_ne_runs p), State.stepsBegin]

theorem State.stepsBegin_runs (hp : p < 2) :
    (s.stepsBegin p).nat (ofPlan p OPENING_PLAN.RUNS) = satTo 0xFFFF (s.nat (ofPlan p OPENING_PLAN.RUNS) + 1) := by
  refine forBelow_induct (P := fun x => x.nat (ofPlan p OPENING_PLAN.RUNS) = _) (s.nat_count_self _ _) fun i _ x hx => ?_
  rw [x.stepBegins_nat, hx]
  all_goals
    simp only [ofPlan, OPENING_PLAN.RUNS, OPENING_STEP_STATE.STATE]
    omega

theorem State.stepsBegin_state {j : Nat} (hp : p < 2) (few : s.nat (ofPlan p OPENING_PLAN.STEP_COUNT) ≤ 128)
    (hj : j < s.nat (ofPlan p OPENING_PLAN.STEP_COUNT)) : (s.stepsBegin p).stepState p (j + 1) = 0 := by
  rw [State.stepsBegin_eq]
  refine forBelow_establishes (Q := fun _ => True) (P := fun x => x.stepState p (j + 1) = 0) hj trivial (fun _ _ _ _ => trivial)
    (fun x _ => x.stepBegins_state (plan_step_low hp (by omega))) fun i _ hi x hx => ?_
  rw [State.stepState, Nat.add_sub_cancel, x.stepBegins_nat _ (plan_step_low hp (by omega))]
  · rwa [State.stepState, Nat.add_sub_cancel] at hx
  · simp only [ofPlan, OPENING_STEP_STATE.STATE]
    omega

theorem State.stepsBegin_follows (hp : p < 2) (few : s.nat (ofPlan p OPENING_PLAN.STEP_COUNT) ≤ 128) :
    Follows s (s.stepsBegin p) := by
  rw [State.stepsBegin_eq]
  have counted : Follows s (s.count (ofPlan p OPENING_PLAN.RUNS) 0xFFFF) :=
    (Follows.refl s).set (by simp only [ofPlan, OPENING_PLAN.RUNS, TICK_OFFSET, internal]; omega)
  exact forBelow_induct counted fun i hi x hx => hx.trans (x.stepBegins_follows i (plan_step_low hp (by omega)))

/-- What plan p shows as it has begun, beside its steps. -/
theorem State.planBegun_nat {k : Nat} (h1 : k ≠ ofPlan p OPENING_PLAN.PLAN_STATE) (h2 : k ≠ ofPlan p OPENING_PLAN.SKIPPED_STEPS)
    (h3 : k ≠ ofPlan p OPENING_PLAN.START_FRAME) : (s.planBegun p).nat k = (s.stepsBegin p).nat k := by
  unfold State.planBegun
  rw [State.nat_setN_other _ h3, State.nat_setN_other _ h2, State.nat_setN_other _ h1]

theorem State.planBegun_state : (s.planBegun p).nat (ofPlan p OPENING_PLAN.PLAN_STATE) = 1 := by
  unfold State.planBegun
  rw [State.nat_setN_other, State.nat_setN_other, State.nat_setN_self] <;>
    simp only [ofPlan, OPENING_PLAN.PLAN_STATE, OPENING_PLAN.SKIPPED_STEPS, OPENING_PLAN.START_FRAME] <;> omega

theorem State.planBegun_follows (hp : p < 2) (few : s.nat (ofPlan p OPENING_PLAN.STEP_COUNT) ≤ 128) :
    Follows s (s.planBegun p) := by
  refine (((s.stepsBegin_follows hp few).set ?_).set ?_).set ?_
  all_goals
    simp only [ofPlan, OPENING_PLAN.PLAN_STATE, OPENING_PLAN.SKIPPED_STEPS, OPENING_PLAN.START_FRAME, TICK_OFFSET, internal]
    omega

/-- R163, R165: START as it lands while no plan runs. -/
theorem State.planBegin_begins (hp : p < 2) (opening : s.planRuns 0 = false) (endgame : s.planRuns 1 = false)
    (few : s.nat (ofPlan p OPENING_PLAN.STEP_COUNT) ≤ 128) (trigger : Nat) :
    let t := s.planBegin p trigger
    t.nat (ofPlan p OPENING_PLAN.PLAN_STATE) = 1 ∧
    t.nat (ofPlan p OPENING_PLAN.RUNS) = satTo 0xFFFF (s.nat (ofPlan p OPENING_PLAN.RUNS) + 1) ∧
    (∀ j < s.nat (ofPlan p OPENING_PLAN.STEP_COUNT), t.stepState p (j + 1) = 0) ∧
    Raises s t .PLAN_STARTED (siteBlock 0x7F (p + 1) 0) 0
      [f8 (p + 1), f8 trigger, f16 (t.get (ofPlan p OPENING_PLAN.RUNS))] := by
  have idle : s.planRuns p = false := by
    obtain rfl | rfl : p = 0 ∨ p = 1 := by omega
    · exact opening
    · exact endgame
  intro t
  have e : t = _ := s.planBegin_idle trigger opening endgame idle
  have get {k : Nat} (low : k < 2 ^ 40) : t.get k = (s.planBegun p).get k := by
    rw [e, State.raisePlan, State.raise_get, State.get_setN_other]
    simp only [PLAN_TRIGGER, internal]
    omega
  have nat {k : Nat} (low : k < 2 ^ 40) : t.nat k = (s.planBegun p).nat k := by rw [State.nat, get low, State.nat]
  have follows : Follows s ((s.planBegun p).setN (PLAN_TRIGGER p) trigger) :=
    (s.planBegun_follows hp few).set (by simp only [PLAN_TRIGGER, TICK_OFFSET, internal]; omega)
  refine ⟨?_, ?_, fun j hj => ?_, ?_⟩
  · rw [nat, s.planBegun_state]
    simp only [ofPlan, OPENING_PLAN.PLAN_STATE]
    omega
  · rw [nat, s.planBegun_nat, s.stepsBegin_runs hp]
    all_goals
      simp only [ofPlan, OPENING_PLAN.PLAN_STATE, OPENING_PLAN.SKIPPED_STEPS, OPENING_PLAN.START_FRAME, OPENING_PLAN.RUNS]
      omega
  · rw [State.stepState, Nat.add_sub_cancel, nat (plan_step_low hp (by omega)), s.planBegun_nat]
    · have := s.stepsBegin_state hp few hj
      rwa [State.stepState, Nat.add_sub_cancel] at this
    all_goals
      simp only [ofPlan, OPENING_PLAN.PLAN_STATE, OPENING_PLAN.SKIPPED_STEPS, OPENING_PLAN.START_FRAME, OPENING_STEP_STATE.STATE]
      omega
  · rw [get, e]
    · exact follows.raises _ _ _ _ _
    · simp only [ofPlan, OPENING_PLAN.RUNS]
      omega

end

/-! ### ABORT and RESOLVE land (R163, R166) -/

section
variable (s : State) {p i : Nat}

/-- R166: a plan that has not run to its end shows its result. -/
theorem State.planEnd_shows {result : Nat} (hr : 3 ≤ result) (shown : result ≠ 6) :
    (s.planEnd p result).nat (ofPlan p OPENING_PLAN.PLAN_STATE) = 3 ∧
      (s.planEnd p result).nat (ofPlan p OPENING_PLAN.RESULT) = result := by
  unfold State.planEnd
  extract_lets n s1 s2 s3 s4 s5
  rw [if_neg (by simp only [Bool.and_eq_true, Bool.or_eq_true, decide_eq_true_eq]; omega)]
  simp only [s5, s4, s3, s2, if_neg shown, State.raisePlan, State.raise_nat]
  constructor
  · rw [State.nat_setN_other, State.nat_setN_other, State.nat_setN_self] <;>
      simp only [ofPlan, OPENING_PLAN.PLAN_STATE, OPENING_PLAN.RESULT, OPENING_PLAN.END_FRAME] <;> omega
  · rw [State.nat_setN_other, State.nat_setN_self]
    simp only [ofPlan, OPENING_PLAN.RESULT, OPENING_PLAN.END_FRAME]
    omega

theorem State.planAbort_runs {result : Nat} (h : s.planRuns p = true) : s.planAbort p result = s.planEnd p result := if_pos h

theorem State.stepSkip_state (cause : Nat) (low : ofPlan p (OPENING_STEP_STATE.STATE (i - 1)) < 2 ^ 40) :
    (s.stepSkip p i cause).stepState p i = 4 := by
  unfold State.stepSkip State.raisePlan State.stepMoved State.setStep State.stepState
  dsimp only
  rw [State.raise_nat, State.nat_count_other, State.nat_setN_other, State.nat_setN_self]
  · simp only [STEP_MOVED_AT, internal]
    omega
  · simp only [ofPlan, OPENING_PLAN.SKIPPED_STEPS, OPENING_STEP_STATE.STATE]
    omega

/-- R163: RESOLVE of a held step with 0 skips it, and with 1 makes it act again. -/
theorem State.planResolve_held (low : ofPlan p (OPENING_STEP_STATE.STATE (i - 1)) < 2 ^ 40) (runs : s.planRuns p = true)
    (held : s.stepState p i = 5) :
    (s.planResolve p 0 i).stepState p i = 4 ∧ (s.planResolve p 1 i).stepState p i = 1 := by
  simp only [State.planResolve, runs, held, beq_self_eq_true, Bool.and_self, if_true, one_ne_zero, if_false]
  refine ⟨s.stepSkip_state 3 low, ?_⟩
  unfold State.setStep State.stepState
  rw [State.nat_setN_other, State.nat_setN_self]
  simp only [STEP_AGAIN, internal]
  omega

/-! ### TRUMP_RELEASE lands (R76) -/

/-- Trump is none of the registers of the deal. -/
theorem State.holderOfChannel_setBit_trump (t b : Nat) {j : Nat} (on : Bool) (n : Chan) (hj : j < 8) :
    (s.setBit (TENANT.TRUMP_HELD t j) b on).holderOfChannel n = s.holderOfChannel n :=
  State.dealtTo_eq fun x hx => by
    rw [State.setBit, State.nat_setN_other]
    simp only [TENANT.CHANNELS, TENANT.TRUMP_HELD]
    omega

theorem State.trumpReleased_ends (n : Chan) : (s.trumpReleased n).trumpHeld n = false := by
  unfold State.trumpReleased State.trumpHeld
  dsimp only
  rw [s.holderOfChannel_setBit_trump _ _ _ n (by omega), State.bit_setBit_self]

/-! ### WAKE_CLEAR lands (R296, R301) -/

variable {b w : Nat}

/-- A wake writes no latch. -/
theorem State.wakeBy_latched : (s.wakeBy b).nat WAKE_CONFIG.WAKE_LATCHED = s.nat WAKE_CONFIG.WAKE_LATCHED :=
  (State.wakeBy_leaves b (.refl s) Inside.refl fun _ h => h).nat_eq (outside_of_clears (by decide))

theorem State.pon_latched (on : Bool) (cause : Nat) :
    (s.pon on cause).nat WAKE_CONFIG.WAKE_LATCHED = s.nat WAKE_CONFIG.WAKE_LATCHED :=
  (State.pon_leaves on cause (.refl s) Inside.refl fun _ h => h).nat_eq (outside_of_clears (by decide))

/-- A latch that sets leaves the others as they are. -/
theorem State.latchSet_other (h : w ≠ b) : (s.latchSet b).bit WAKE_CONFIG.WAKE_LATCHED w = s.bit WAKE_CONFIG.WAKE_LATCHED w := by
  unfold State.latchSet
  split
  · rfl
  · extract_lets u v x
    have hu : u.bit WAKE_CONFIG.WAKE_LATCHED w = s.bit WAKE_CONFIG.WAKE_LATCHED w := s.bit_setBit_other h
    have hv : v.nat WAKE_CONFIG.WAKE_LATCHED = u.nat WAKE_CONFIG.WAKE_LATCHED := by
      simp only [v]
      split
      · exact u.pon_latched true 2
      · rfl
    have hx : x.nat WAKE_CONFIG.WAKE_LATCHED = v.nat WAKE_CONFIG.WAKE_LATCHED := by
      simp only [x]
      split
      · exact State.raise_nat _ _ _ _ _ _ _
      · rfl
    rw [← hu]
    simp only [State.bit]
    split
    · rw [hv]
    · split
      · rw [x.wakeBy_latched, hx, hv]
      · rw [hx, hv]

/-- The inputs in level sensing are the wakes 0 to 7. -/
theorem State.senseLevels_other (h : 8 ≤ w) : s.senseLevels.bit WAKE_CONFIG.WAKE_LATCHED w = s.bit WAKE_CONFIG.WAKE_LATCHED w :=
  forBelow_induct (P := fun x => x.bit WAKE_CONFIG.WAKE_LATCHED w = s.bit WAKE_CONFIG.WAKE_LATCHED w) rfl fun i hi x hx => by
    split
    · rw [x.latchSet_other (by omega), hx]
    · exact hx

/-- R296, R301: WAKE_CLEAR clears a latch that its mask names and that no input in level sensing sets again. -/
theorem State.wakeClear_clears {mask : Nat} (locked : s.flag BACKUP_LOCKED = false) (h8 : 8 ≤ w) (h10 : w ≤ 10)
    (named : mask.testBit w = true) : (s.wakeClear mask).bit WAKE_CONFIG.WAKE_LATCHED w = false := by
  rw [State.wakeClear, locked, if_neg Bool.false_ne_true, State.senseLevels_other _ h8]
  refine forBelow_establishes (Q := fun _ => True) (P := fun x => x.bit WAKE_CONFIG.WAKE_LATCHED w = false) (i := w) (by omega)
    trivial (fun _ _ _ _ => trivial) (fun x _ => ?_) fun b _ _ x hx => ?_
  · rw [if_pos named, x.bit_setBit_self]
  · split
    · exact x.bit_setBit_false hx
    · exact hx

end

/-! ### Where each action lands -/

section
variable (s : State) (u : Nat) (v : Int)

theorem State.landAction_swapRequest (p : Pair) : s.landAction u (CASTLING_PAIR.SWAP_REQUEST p) v = s.swapBegin p v.toNat := by
  have e : CASTLING_PAIR.SWAP_REQUEST p / 256 = 0x3870 + p := by simp only [CASTLING_PAIR.SWAP_REQUEST]; omega
  simp (disch := omega) only [State.landAction, e, ↓if_neg, ↓if_pos, Nat.add_sub_cancel_left]

theorem State.landAction_planStart (g : Fin 2) : s.landAction u (ofPlan g OPENING_PLAN.START) v = s.planBegin g 0 :=
  match g with
  | 0 => rfl
  | 1 => rfl

theorem State.landAction_planAbort (g : Fin 2) : s.landAction u (ofPlan g OPENING_PLAN.ABORT) v = s.planAbort g 4 :=
  match g with
  | 0 => rfl
  | 1 => rfl

theorem State.landAction_planResolve (g : Fin 2) :
    s.landAction u (ofPlan g OPENING_PLAN.RESOLVE) v = s.planResolve g (v.toNat / 256) (v.toNat % 256) :=
  match g with
  | 0 => rfl
  | 1 => rfl

theorem State.landAction_trumpRelease (x : Tenant) : s.landAction u (TENANT.TRUMP_RELEASE x) v = s.trumpReleased v.toNat := by
  have e : TENANT.TRUMP_RELEASE x / 256 = 0x2300 + x := by simp only [TENANT.TRUMP_RELEASE]; omega
  have tenant : 0x2300 ≤ 0x2300 + x.val ∧ 0x2300 + x.val < 0x2310 := by omega
  unfold State.landAction State.landCoreAction
  simp (disch := (
      simp only [TENANT.TRUMP_RELEASE, RESET_CONTROL.DEVICE_RESET, OPENING_STATUS.OPENING_RESUME, OPENING_STATUS.JOURNAL_ACK,
        POWER_STATE.PARK, WAKE_CONFIG.WAKE_CLEAR, CONTROLLER_TRANSFER.TRANSFER_START, PON_CONTROL.PON_COMMAND]
      omega))
    only [e, ↓if_pos, ↓if_neg, tenant.1, tenant.2, decide_true, Bool.and_self, if_true]

theorem State.landAction_wakeClear : s.landAction u WAKE_CONFIG.WAKE_CLEAR v = s.wakeClear v.toNat := by
  unfold State.landAction State.landCoreAction
  simp (disch := decide) only [↓if_pos, ↓if_neg]

end

/-- Settles O58: each action by what it does as it lands. -/
theorem pairsAndPlansLand : Obligations.PairsAndPlansLand := by
  unfold Obligations.PairsAndPlansLand
  intro u due at_ p g b n x i s lands
  have action (addr : Nat) (v : Int) : lands addr v = s.landAction u addr v := rfl
  simp only [action, State.landAction_swapRequest, State.landAction_planStart, State.landAction_planAbort,
    State.landAction_planResolve, State.landAction_trumpRelease, State.landAction_wakeClear, Int.toNat_natCast]
  refine ⟨⟨State.swapBegin_begins, State.swapBegin_ends⟩, ?_, ⟨fun runs _ => ?_, s.planAbort_idle⟩,
    fun low high runs held => ?_, s.trumpReleased_ends n, fun mask locked w h8 h10 => s.wakeClear_clears locked h8 h10⟩
  · exact fun opening endgame few => s.planBegin_begins g.isLt opening endgame few 0
  · rw [s.planAbort_runs runs]
    exact s.planEnd_shows (by decide) (by decide)
  · have h := s.planResolve_held (plan_step_low g.isLt (by omega)) runs held
    rw [Nat.div_eq_of_lt (by omega), Nat.mod_eq_of_lt (by omega), show (256 + (i : Int)).toNat = 256 + i by omega,
      show (256 + i) / 256 = 1 by omega, show (256 + i) % 256 = i by omega]
    exact h

end Sys2Proof.Machine
end

section
/-!
SUPPORT. Registers told apart by the residues of their keys, and what the channel dies have raised since a state.
-/
open Sys2Proof
namespace Sys2Proof.Machine

set_option Elab.async false

/-! ### Keys told apart by their residues -/

/-- Whether the residues by the moduli M tell a key from every key of the families W. -/
def apart (M : List Nat) (a : Nat) (W : List Span) : Bool :=
  W.all fun sp => M.any fun m => sp.step % m == 0 && sp.side % m == 0 && sp.base % m != a % m

theorem outside_of_apart {M : List Nat} {a k : Nat} {W : List Span} (h : apart M a W = true) (hk : ∀ m ∈ M, k % m = a % m) :
    Outside W k := by
  rintro sp hsp ⟨n, i, e⟩
  obtain ⟨m, hm, h⟩ := List.any_eq_true.1 (List.all_eq_true.1 h sp hsp)
  simp only [Bool.and_eq_true, beq_iff_eq, bne_iff_ne] at h
  obtain ⟨⟨step, side⟩, base⟩ := h
  refine base ?_
  rw [← hk m hm, e, Nat.add_mod, Nat.add_mod sp.base, Nat.mul_mod, step, Nat.mul_mod sp.side, side]
  simp

section
variable {W : List Span} {f c : Nat}

/-- An object of some index lies outside families that hold its subindex in none of their objects. -/
theorem outside_object (h : apart [256] c W = true) (i : Nat) : Outside W (i * 256 + c) :=
  outside_of_apart h fun m hm => by
    obtain rfl := List.mem_singleton.1 hm
    omega

theorem outside_forced (h : apart [256] c W = true) (i : Nat) : Outside W (inForce (i * 256 + c)) :=
  outside_of_apart h fun m hm => by
    obtain rfl := List.mem_singleton.1 hm
    simp only [inForce]
    omega

/-- An internal register lies outside families of other internal registers and of objects. -/
theorem outside_internal (h : apart [256, 2 ^ 20] (internal f 0) W = true) (i : Nat) : Outside W (internal f i) :=
  outside_of_apart h fun m hm => by
    simp only [List.mem_cons, List.not_mem_nil, or_false] at hm
    obtain rfl | rfl := hm <;> simp only [internal] <;> omega

end

/-! ### What channel dies have raised -/

/-- Time stands still in an operation that leaves it. -/
theorem Leaves.time_eq {W : List Span} {L : List Part} {r t : State} (h : Leaves W L r t) (hL : .time ∉ L := by decide) :
    t.time = r.time := h.parts .time hL

/-- What the channel dies held in r they still hold in s. -/
def DieGrows (r s : State) : Prop := r.dieMsgs <+: s.dieMsgs

section
variable {r s t : State}

theorem DieGrows.refl (s : State) : DieGrows s s := List.prefix_refl _

theorem DieGrows.trans (h : DieGrows r s) (h' : DieGrows s t) : DieGrows r t := List.IsPrefix.trans h h'

theorem DieGrows.quiet {W : List Span} {L : List Part} (h : DieGrows r s) (l : Leaves W L s t)
    (hL : .dieMsgs ∉ L := by decide) : DieGrows r t := by
  unfold DieGrows
  rw [show t.dieMsgs = s.dieMsgs from l.parts .dieMsgs hL]
  exact h

theorem DieGrows.set (h : DieGrows r s) (k : Nat) (v : Int) : DieGrows r (s.set k v) := h

theorem DieGrows.raiseDie (h : DieGrows r s) (d : Nat) (k : Kind) (site tenant obj : Nat) (fields : List (Nat × Int)) :
    DieGrows r (s.raiseDie d k site tenant obj fields) := h.trans (List.prefix_append _ _)

theorem DieGrows.ite {c : Prop} [Decidable c] (ha : DieGrows r s) (hb : DieGrows r t) : DieGrows r (if c then s else t) := by
  split <;> assumption

theorem DieGrows.forEach {α : Type} {l : List α} {f : α → State → State} (h : DieGrows r s)
    (hf : ∀ a x, DieGrows r x → DieGrows r (f a x)) : DieGrows r (forEach l f s) := forEach_induct h fun a _ => hf a

theorem DieGrows.forBelow {n : Nat} {f : Nat → State → State} (h : DieGrows r s)
    (hf : ∀ a x, DieGrows r x → DieGrows r (f a x)) : DieGrows r (forBelow n f s) := forBelow_induct h fun a _ => hf a

theorem DieGrows.updateGood (h : DieGrows r s) (n : Nat) : DieGrows r (s.updateGood n) := by
  unfold State.updateGood
  exact .ite h (.forBelow ((h.set _ _).raiseDie _ _ _ _ _ _) fun i x hx =>
    hx.quiet (State.rsoFollow_leaves i (.refl x) Inside.refl fun _ h => h))

theorem DieGrows.showCell (h : DieGrows r s) (n : Nat) : DieGrows r (s.showCell n) :=
  (h.quiet (L := []) (State.showState_leaves n (.refl s) Inside.refl)).updateGood n

theorem DieGrows.cellTo (h : DieGrows r s) (n st : Nat) : DieGrows r (s.cellTo n st) := by
  unfold State.cellTo
  extract_lets s1 s2 s3 s4 s5
  have h1 : DieGrows r s1 := (h.quiet (L := []) (State.runClock_leaves n st (.refl s) Inside.refl)).quiet (L := [])
    (State.limitClock_leaves n st (.refl _) Inside.refl)
  have h2 : DieGrows r s2 := .ite h1 (h1.set _ _)
  have h3 : DieGrows r s3 := (h2.set _ _).set _ _
  have h4 : DieGrows r s4 := .ite ((((h3.set _ _).set _ _).set _ _).set _ _) h3
  have h5 : DieGrows r s5 := .ite (h4.set _ _) h4
  exact (h5.showCell n).quiet (L := []) (State.pumpUpdate_leaves _ (.refl _) Inside.refl)

theorem DieGrows.trip (h : DieGrows r s) (n cause stage : Nat) : DieGrows r (s.trip n cause stage) := by
  unfold State.trip
  extract_lets s1 s2 s3 s4 s5 s6 s7 s8
  have h1 : DieGrows r s1 := ((h.set _ _).set _ _).set _ _
  have h3 : DieGrows r s3 := .ite (DieGrows.set (.ite (h1.set _ _) h1) _ _) (.ite (h1.set _ _) h1)
  have h5 : DieGrows r s5 := (h3.set _ _).set _ _
  have h7 : DieGrows r s7 := DieGrows.set (.ite (h5.set _ _) h5) _ _
  have h8 : DieGrows r s8 := ((h7.quiet (L := []) (State.withdraw_leaves n (.refl s7) Inside.refl)).set _ _).set _ _
  exact ((h8.cellTo n ST.TRIP).set _ _).quiet (State.openShadow_leaves (W := []) 1 n 0 (.refl _) fun _ h => h)

theorem DieGrows.lockoutTold (h : DieGrows r s) (n : Nat) : DieGrows r (s.lockoutTold n) :=
  .ite (h.raiseDie _ _ _ _ _ _) h

end

/-- The registers of the control die and of the deal, and those by which a channel die stamps what it raises. -/
def SendKey (k : Nat) : Prop := k < 0x2D0000 ∨ ∃ d, k = DIE_OFFSET d

/-- Whether families hold none of these. -/
def beside (W : List Span) : Bool := apart [256, 2 ^ 20] (DIE_OFFSET 0) W && W.all fun sp => 0x2D0000 ≤ sp.base

theorem SendKey.outside {W : List Span} {k : Nat} (h : SendKey k) (hW : beside W = true) : Outside W k := by
  simp only [beside, Bool.and_eq_true, List.all_eq_true, decide_eq_true_eq] at hW
  obtain h | ⟨d, rfl⟩ := h
  · exact outside_above 0x2D0000 h hW.2
  · exact outside_internal hW.1 d

/-- x comes after s without time passing: what the channel dies held in s they still hold, and they stamp and send as in s. -/
structure DieFollows (s x : State) : Prop where
  time : x.time = s.time
  regs : ∀ k, SendKey k → x.get k = s.get k
  grows : DieGrows s x

section
variable {d n : Nat} {s x y : State}

theorem DieFollows.refl (s : State) : DieFollows s s := ⟨rfl, fun _ _ => rfl, .refl s⟩

theorem DieFollows.trans (h : DieFollows s x) (h' : DieFollows x y) : DieFollows s y :=
  ⟨h'.time.trans h.time, fun k hk => (h'.regs k hk).trans (h.regs k hk), h.grows.trans h'.grows⟩

theorem DieFollows.of_leaves {W : List Span} {L : List Part} (l : Leaves W L s x) (grows : DieGrows s x)
    (hW : beside W = true := by decide) (time : .time ∉ L := by decide) : DieFollows s x :=
  ⟨l.time_eq time, fun _ hk => l.get_eq (hk.outside hW), grows⟩

theorem DieFollows.quiet {W : List Span} {L : List Part} (h : DieFollows s x) (l : Leaves W L x y) (hW : beside W = true := by decide)
    (time : .time ∉ L := by decide) (msgs : .dieMsgs ∉ L := by decide) : DieFollows s y :=
  h.trans (.of_leaves l ((DieGrows.refl x).quiet l msgs) hW time)

theorem DieFollows.forEach {α : Type} {l : List α} {f : α → State → State} (h : DieFollows s x)
    (hf : ∀ a ∈ l, ∀ y, DieFollows y (f a y)) : DieFollows s (forEach l f x) := forEach_induct h fun a ha y hy => hy.trans (hf a ha y)

theorem DieFollows.holderOfChannel (h : DieFollows s x) (hn : n < 512) : x.holderOfChannel n = s.holderOfChannel n :=
  State.dealtTo_eq fun u hu => by
    rw [State.nat, h.regs, State.nat]
    simp only [SendKey, TENANT.CHANNELS]
    omega

/-- A message that die d raises after s is one that s is followed by. -/
theorem DieFollows.raises (h : DieFollows s x) (hd : d < 4) (k : Kind) (site tenant obj : Nat) (fields : List (Nat × Int)) :
    DieRaises s (x.raiseDie d k site tenant obj fields) d k site tenant fields := by
  obtain ⟨r, hr⟩ := h.grows
  have now : x.stampOn d = s.stampOn d := by rw [State.stampOn, h.time, h.regs _ (.inr ⟨d, rfl⟩), State.stampOn]
  have up : x.linkUp d = s.linkUp d := by
    rw [State.linkUp, State.nat, h.regs, State.linkUp, State.nat]
    simp only [SendKey, AMLOR_LINK.LINK_STATE]
    omega
  refine ⟨obj, ?_⟩
  rw [State.raiseDie_dieMsgs, ← hr, List.append_assoc, List.drop_left, now, up]
  exact List.mem_append_right _ List.mem_cons_self

/-- So is one of an element of channel n, in the name of its holder. -/
theorem DieFollows.raisesChannel (h : DieFollows s x) (hn : n < 512) (k : Kind) (e obj : Nat) (fields : List (Nat × Int)) :
    DieRaises s (x.raiseChannel k n e obj fields) (dieOf n) k (siteChannel n e) (s.holderOfChannel n) (f16 n :: fields) := by
  rw [← h.holderOfChannel hn]
  exact h.raises (by simp only [dieOf]; omega) _ _ _ _ _

theorem DieRaises.mono {k : Kind} {site tenant : Nat} {fields : List (Nat × Int)} (h : DieRaises s x d k site tenant fields)
    (hy : DieGrows x y) : DieRaises s y d k site tenant fields := by
  obtain ⟨o, ho⟩ := h
  exact ⟨o, (hy.drop _).subset ho⟩

end

end Sys2Proof.Machine
end

section
/-!
SUPPORT. Flags of a register, and what a channel shows as it enters a state of its cell.
-/
open Sys2Proof
namespace Sys2Proof.Machine

set_option Elab.async false

/-! ### Flags of a register -/

section
variable (s : State) {k j : Nat}

theorem State.flag_eq {t : State} (h : t.get k = s.get k) : t.flag k = s.flag k := by rw [State.flag, h, State.flag]

@[simp] theorem State.flag_setN_self (v : Nat) : (s.setN k v).flag k = decide (v ≠ 0) := by
  rw [State.flag, State.get_setN_self]
  by_cases h : v = 0 <;> simp [h]

theorem State.flag_setN_other {v : Nat} (h : k ≠ j) : (s.setN j v).flag k = s.flag k := s.flag_eq (s.get_setN_other _ _ _ h)

end

theorem Leaves.flag_eq {W : List Span} {L : List Part} {r t : State} (h : Leaves W L r t) {k : Nat} (hk : Outside W k) :
    t.flag k = r.flag k := r.flag_eq (h.get_eq hk)

theorem Leaves.bit_eq {W : List Span} {L : List Part} {r t : State} (h : Leaves W L r t) {k b : Nat} (hk : Outside W k) :
    t.bit k b = r.bit k b := by rw [State.bit, h.nat_eq hk, State.bit]

/-! ### Entering a state of the cell (R88) -/

theorem covered_of {W : List Span} {x : Span} {k : Nat} (hk : x.has k) (h : x ∈ W := by decide) : Covered W k := ⟨x, h, hk⟩

theorem covered_one {W : List Span} {k : Nat} (h : one k ∈ W := by decide) : Covered W k := ⟨_, h, 0, 0, rfl⟩

/-- The families that a channel writes as it enters a state. -/
def cellFamilies : List Span :=
  [each BANK.BANK_FLAGS, each CELL, each CHANNEL_PROTECTION.MODEL_FLAGS, each CHANNEL_STATUS.FLAGS, each CHANNEL_STATUS.STANDING_GATE,
    each CHANNEL_STATUS.STATE, each GATE, each LAMP_LOW, each LAMP_TOLD, each LATCH, each LIMIT_EPISODE, each LIMIT_LEFT,
    each LIMIT_SINCE, each LIMIT_SPENT, each PUMP_START, each PUMP_STOP_AT, each RESET_OUTPUT.ASSERT_COUNT,
    each RESET_OUTPUT.LAST_CHANGE_STAMP, each RESET_OUTPUT.OUTPUT, each RSO_GOOD_SINCE, each RUN_SINCE, each RUN_SPENT, each WIN]

section
variable (s : State) (n : Nat)

theorem State.cellTo_stays (st : Nat) : Leaves cellFamilies [.collector, .dieMsgs] s (s.cellTo n st) :=
  State.cellTo_leaves n st (.refl s) (BANK.BANK_FLAGS_wide (inSkip (CELL_wide (inSkip (CHANNEL_PROTECTION.MODEL_FLAGS_wide (inSkip
    (CHANNEL_STATUS.FLAGS_wide (inSkip (CHANNEL_STATUS.STANDING_GATE_wide (inSkip (CHANNEL_STATUS.STATE_wide (inSkip (GATE_wide (inSkip
    (LAMP_LOW_wide (inSkip (LAMP_TOLD_wide (inSkip (LATCH_wide (inSkip (LIMIT_EPISODE_wide (inSkip (LIMIT_LEFT_wide (inSkip
    (LIMIT_SINCE_wide (inSkip (LIMIT_SPENT_wide (inSkip (PUMP_START_wide (inSkip (PUMP_STOP_AT_wide (inSkip (inBoth (inBoth (inBoth
    (inBoth (RUN_SINCE_wide (inSkip (RUN_SPENT_wide (inSkip (WIN_wide inNil)))))))))))))))))))))))))))))))))))))))))
    fun _ h => h

/-- What the host asks of the channel stays. -/
theorem State.cellTo_request (st : Nat) :
    (s.cellTo n st).nat (inForce (CHANNEL_CONFIG.REQUEST n)) = s.nat (inForce (CHANNEL_CONFIG.REQUEST n)) := by
  refine (State.cellTo_leaves n st (.refl s) .refl fun _ h => h).nat_eq ?_
  simp only [outside_cons, outside_nil, and_true, BANK.BANK_FLAGS, CELL, CHANNEL_PROTECTION.MODEL_FLAGS, CHANNEL_STATUS.FLAGS,
    CHANNEL_STATUS.STANDING_GATE, CHANNEL_STATUS.STATE, GATE, LAMP_LOW, LAMP_TOLD, LATCH, LIMIT_EPISODE, LIMIT_LEFT, LIMIT_SINCE,
    LIMIT_SPENT, PUMP_START, PUMP_STOP_AT, RESET_OUTPUT.ASSERT_COUNT, RESET_OUTPUT.LAST_CHANGE_STAMP, RESET_OUTPUT.OUTPUT,
    RSO_GOOD_SINCE, RUN_SINCE, RUN_SPENT, WIN, CHANNEL_CONFIG.REQUEST, inForce, internal]
  and_intros <;> intros <;> omega

theorem State.pumpUpdate_stays (k : Nat) : Leaves [each BANK.BANK_FLAGS, each PUMP_START, each PUMP_STOP_AT] [] s (s.pumpUpdate k) :=
  State.pumpUpdate_leaves k (.refl s) (BANK.BANK_FLAGS_wide (inSkip (PUMP_START_wide (inSkip (PUMP_STOP_AT_wide inNil)))))

/-- What a channel shows of its state. -/
theorem State.showCell_stays : Leaves [each CHANNEL_STATUS.STANDING_GATE, each CHANNEL_STATUS.STATE, each RESET_OUTPUT.ASSERT_COUNT,
    each RESET_OUTPUT.LAST_CHANGE_STAMP, each RESET_OUTPUT.OUTPUT, each RSO_GOOD_SINCE, each WIN] [.collector, .dieMsgs] s
    (s.showCell n) :=
  State.showCell_leaves n (.refl s) (CHANNEL_STATUS.STANDING_GATE_wide (inSkip (CHANNEL_STATUS.STATE_wide (inSkip (inBoth (inBoth
    (inBoth (inBoth (WIN_wide inNil))))))))) fun _ h => h

/-- The gate of a channel that enters a state follows from the state, where that alone decides. -/
theorem State.cellTo_gate {st g : Nat} (h : ∀ x : State, x.gateFor n st = g) : (s.cellTo n st).nat (GATE n) = g := by
  unfold State.cellTo
  extract_lets s1 s2 s3 s4 s5
  have h3 : s3.nat (GATE n) = g := (State.nat_setN_self _ _ _).trans (h s2)
  have left : Leaves [each CHANNEL_STATUS.FLAGS, each CHANNEL_PROTECTION.MODEL_FLAGS, each LAMP_TOLD, each LATCH] [] s3 s5 := by
    have h4 : Leaves [each CHANNEL_STATUS.FLAGS, each CHANNEL_PROTECTION.MODEL_FLAGS, each LAMP_TOLD, each LATCH] [] s3 s4 :=
      .ite (State.setN_leaves (State.setBit_leaves (State.setBit_leaves (State.setBit_leaves (.refl s3)
        (covered_of (CHANNEL_STATUS.FLAGS_has n))) (covered_of (CHANNEL_PROTECTION.MODEL_FLAGS_has n)))
        (covered_of (CHANNEL_PROTECTION.MODEL_FLAGS_has n))) (covered_of (LAMP_TOLD_has n))) (.refl s3)
    exact .ite (State.setFlag_leaves h4 (covered_of (LATCH_has n))) h4
  rw [(State.pumpUpdate_stays _ _).nat_eq (outside_internal (by decide) n), (s5.showCell_stays n).nat_eq (outside_internal (by decide) n),
    left.nat_eq (outside_internal (by decide) n), h3]

end

end Sys2Proof.Machine
end

section
/-!
SUPPORT. What a channel that has tripped shows, also after what follows a trip.
-/
open Sys2Proof
namespace Sys2Proof.Machine

set_option Elab.async false

/-! ### Trips (R135, R136) -/

section
variable (s : State) (n : Nat)

/-- What a trip writes before its channel enters TRIP. -/
def State.tripNoted (s : State) (n cause : Nat) : State :=
  let s := ((s.setN (TRIP_STATE n) (s.cell n)).setN (TRIP_FRAME n) s.frame).setN (CHANNEL_STATUS.TRIP_CAUSE n) cause
  let s := if cause = 2 then s.setModelFlag n MFLAG.WIRE_OWED true else s
  let s := if cause = 3 then s.setModelFlag n MFLAG.FET_OWED true else s
  let s := s.count (tripCounter n cause) 0xFFFF
  let s := s.count (LIFE_NEW n) 0xFFFFFFFF
  let s := if s.standing n then s.count (STAND_EVENTS n) 0xFFFF else s
  s.setN (WAIT_END n) (s.time + s.nat (CHANNEL_PROTECTION.RETRY_WAIT n))

/-- The channel enters TRIP, and its gate goes down. -/
def State.tripEnters (s : State) (n stage : Nat) : State :=
  ((((s.withdraw n).setN (PEND n) 0).setN (PWM_HIGH n) 0).cellTo n ST.TRIP).setN (GATE n) stage

theorem State.trip_eq (cause stage : Nat) :
    s.trip n cause stage = ((s.tripNoted n cause).tripEnters n stage).openShadow 1 n 0 := rfl

/-- The families that a channel writes as it enters TRIP. -/
def tripFamilies : List Span := each ADMIT_KIND :: each PEND :: each PWM_HIGH :: each START_AT :: cellFamilies

theorem State.tripEnters_stays (stage : Nat) : Leaves tripFamilies [.collector, .dieMsgs] s (s.tripEnters n stage) := by
  have withdrawn : Leaves tripFamilies [.collector, .dieMsgs] s (s.withdraw n) := State.setN_leaves (State.setN_leaves
    (State.setN_leaves (.refl s) (covered_of (ADMIT_KIND_has n))) (covered_of (START_AT_has n)))
    (covered_of (CHANNEL_STATUS.FLAGS_has n))
  have pending := State.setN_leaves (v := 0) (State.setN_leaves (v := 0) withdrawn (covered_of (PEND_has n)))
    (covered_of (PWM_HIGH_has n))
  exact State.setN_leaves (pending.trans ((State.cellTo_stays _ n _).mono (inSkip (inSkip (inSkip (inSkip .refl)))) fun _ h => h))
    (covered_of (GATE_has n))

/-- What the trip shows that has been noted in t. -/
structure Tripped (s : State) (n cause stage : Nat) (t : State) : Prop where
  cell : t.cell n = ST.TRIP
  gate : t.nat (GATE n) = stage
  named : t.nat (CHANNEL_STATUS.TRIP_CAUSE n) = cause
  state : t.nat (TRIP_STATE n) = s.cell n
  counted : t.nat (tripCounter n cause) = satTo 0xFFFF (s.nat (tripCounter n cause) + 1)
  wait : t.nat (WAIT_END n) = s.time + s.nat (CHANNEL_PROTECTION.RETRY_WAIT n)

end

section
variable {s t u : State} {n cause stage : Nat}

theorem tripCounter_sub (n cause : Nat) :
    tripCounter n cause % 256 = 18 ∨ tripCounter n cause % 256 = 20 ∨ tripCounter n cause % 256 = 21 := by
  unfold tripCounter
  split <;> simp only [CHANNEL_SUPERVISION.HARD_TRIPS, CHANNEL_SUPERVISION.MODEL_TRIPS, CHANNEL_SUPERVISION.TIMEOUT_TRIPS] <;> omega

/-- What a trip notes of its channel. -/
theorem State.tripNoted_shows (s : State) (n cause : Nat) :
    let t := s.tripNoted n cause
    t.nat (CHANNEL_STATUS.TRIP_CAUSE n) = cause ∧ t.nat (TRIP_STATE n) = s.cell n ∧
      t.nat (tripCounter n cause) = satTo 0xFFFF (s.nat (tripCounter n cause) + 1) ∧
      t.nat (WAIT_END n) = s.time + s.nat (CHANNEL_PROTECTION.RETRY_WAIT n) := by
  have counter := tripCounter_sub n cause
  unfold State.tripNoted
  extract_lets s1 s2 s3 s4 s5 s6
  have flags : Leaves [one (CHANNEL_PROTECTION.MODEL_FLAGS n)] [] s1 s3 := by
    have h2 : Leaves [one (CHANNEL_PROTECTION.MODEL_FLAGS n)] [] s1 s2 :=
      .ite (State.setModelFlag_leaves n _ _ (.refl _) .refl) (.refl _)
    exact .ite (State.setModelFlag_leaves n _ _ h2 .refl) h2
  have events : Leaves [one (STAND_EVENTS n)] [] s5 s6 := .ite (State.count_leaves (.refl _) .here) (.refl _)
  have noted {k : Nat} (h : k ≠ WAIT_END n ∧ k ≠ STAND_EVENTS n ∧ k ≠ LIFE_NEW n) :
      (s6.setN (WAIT_END n) (s6.time + s6.nat (CHANNEL_PROTECTION.RETRY_WAIT n))).nat k = s4.nat k := by
    rw [State.nat_setN_other _ h.1, events.nat_eq (outside_one h.2.1 (outside_none k)), State.nat_count_other _ h.2.2]
  have before {k : Nat} (h : k ≠ tripCounter n cause ∧ k ≠ CHANNEL_PROTECTION.MODEL_FLAGS n) : s4.nat k = s1.nat k := by
    rw [State.nat_count_other _ h.1, flags.nat_eq (outside_one h.2 (outside_none k))]
  have wait : s6.nat (CHANNEL_PROTECTION.RETRY_WAIT n) = s.nat (CHANNEL_PROTECTION.RETRY_WAIT n) := by
    rw [events.nat_eq (outside_one ?_ (outside_none _)), State.nat_count_other, before ⟨?_, ?_⟩, State.nat_setN_other,
      State.nat_setN_other, State.nat_setN_other]
    all_goals
      simp only [CHANNEL_PROTECTION.RETRY_WAIT, CHANNEL_PROTECTION.MODEL_FLAGS, CHANNEL_STATUS.TRIP_CAUSE, TRIP_FRAME, TRIP_STATE,
        LIFE_NEW, STAND_EVENTS, internal]
      omega
  have now : s6.time = s.time := by
    rw [events.time_eq, State.count_time, State.count_time, flags.time_eq, State.setN_time, State.setN_time, State.setN_time]
  refine ⟨?_, ?_, ?_, ?_⟩
  · rw [noted ⟨?_, ?_, ?_⟩, before ⟨?_, ?_⟩, State.nat_setN_self]
    all_goals
      simp only [CHANNEL_STATUS.TRIP_CAUSE, CHANNEL_PROTECTION.MODEL_FLAGS, WAIT_END, STAND_EVENTS, LIFE_NEW, internal]
      omega
  · rw [noted ⟨?_, ?_, ?_⟩, before ⟨?_, ?_⟩, State.nat_setN_other, State.nat_setN_other, State.nat_setN_self]
    all_goals
      simp only [CHANNEL_STATUS.TRIP_CAUSE, CHANNEL_PROTECTION.MODEL_FLAGS, WAIT_END, STAND_EVENTS, LIFE_NEW, TRIP_STATE, TRIP_FRAME,
        internal]
      omega
  · rw [noted ⟨?_, ?_, ?_⟩, State.nat_count_self, flags.nat_eq (outside_one ?_ (outside_none _)), State.nat_setN_other,
      State.nat_setN_other, State.nat_setN_other]
    all_goals
      simp only [CHANNEL_STATUS.TRIP_CAUSE, CHANNEL_PROTECTION.MODEL_FLAGS, WAIT_END, STAND_EVENTS, LIFE_NEW, TRIP_STATE, TRIP_FRAME,
        internal]
      omega
  · rw [State.nat_setN_self, now, wait]

/-- The registers that show a trip. -/
def tripShown (n cause : Nat) : List Nat :=
  [CELL n, GATE n, CHANNEL_STATUS.TRIP_CAUSE n, TRIP_STATE n, tripCounter n cause, WAIT_END n]

/-- A trip stays shown while its registers stay. -/
theorem Tripped.of_nats (h : Tripped s n cause stage t) (e : ∀ k ∈ tripShown n cause, u.nat k = t.nat k) :
    Tripped s n cause stage u where
  cell := (e _ (by simp [tripShown])).trans h.cell
  gate := (e _ (by simp [tripShown])).trans h.gate
  named := (e _ (by simp [tripShown])).trans h.named
  state := (e _ (by simp [tripShown])).trans h.state
  counted := (e _ (by simp [tripShown])).trans h.counted
  wait := (e _ (by simp [tripShown])).trans h.wait

/-- A channel that enters TRIP once the trip is noted shows it. -/
theorem State.tripEnters_tripped (s : State) (n cause stage : Nat) :
    Tripped s n cause stage ((s.tripNoted n cause).tripEnters n stage) := by
  obtain ⟨named, state, counted, wait⟩ := s.tripNoted_shows n cause
  have enters := State.tripEnters_stays (s.tripNoted n cause) n stage
  refine ⟨(State.nat_setN_other _ ?_).trans (State.cellTo_cell _ _ _), State.nat_setN_self _ _ _, (enters.nat_eq ?_).trans named,
    (enters.nat_eq ?_).trans state, (enters.nat_eq ?_).trans counted, (enters.nat_eq ?_).trans wait⟩
  · simp only [CELL, GATE, internal]
    omega
  · exact outside_object (by decide) _
  · exact outside_internal (by decide) n
  · unfold tripCounter
    split <;> exact outside_object (by decide) _
  · exact outside_internal (by decide) n

theorem State.openShadow_nat (s : State) (cause subject closing k : Nat) : (s.openShadow cause subject closing).nat k = s.nat k := rfl

theorem State.trip_tripped (s : State) (n cause stage : Nat) : Tripped s n cause stage (s.trip n cause stage) := by
  rw [State.trip_eq]
  exact (s.tripEnters_tripped n cause stage).of_nats fun k _ => State.openShadow_nat _ _ _ _ k

/-- The families that a trip writes. -/
def tripWrites : List Span :=
  [each ADMIT_KIND, each BANK.BANK_FLAGS, each CELL, each CHANNEL_PROTECTION.MODEL_FLAGS, each CHANNEL_STATUS.FLAGS,
    each CHANNEL_STATUS.STANDING_GATE, each CHANNEL_STATUS.STATE, each CHANNEL_STATUS.TRIP_CAUSE, each CHANNEL_SUPERVISION.HARD_TRIPS,
    each CHANNEL_SUPERVISION.MODEL_TRIPS, each CHANNEL_SUPERVISION.TIMEOUT_TRIPS, each GATE, each LAMP_LOW, each LAMP_TOLD, each LATCH,
    each LIFE_NEW, each LIMIT_EPISODE, each LIMIT_LEFT, each LIMIT_SINCE, each LIMIT_SPENT, each PEND, each PUMP_START,
    each PUMP_STOP_AT, each PWM_HIGH, each RESET_OUTPUT.ASSERT_COUNT, each RESET_OUTPUT.LAST_CHANGE_STAMP, each RESET_OUTPUT.OUTPUT,
    each RSO_GOOD_SINCE, each RUN_SINCE, each RUN_SPENT, each STAND_EVENTS, each START_AT, each TRIP_FRAME, each TRIP_STATE, each WAIT_END,
    each WIN]

theorem State.trip_stays (s : State) (n cause stage : Nat) :
    Leaves tripWrites [.collector, .dieMsgs, .shadows, .staged] s (s.trip n cause stage) :=
  State.trip_leaves n cause stage (.refl s)
    (ADMIT_KIND_wide (inSkip (BANK.BANK_FLAGS_wide (inSkip (CELL_wide (inSkip (CHANNEL_PROTECTION.MODEL_FLAGS_wide (inSkip
    (CHANNEL_STATUS.FLAGS_wide (inSkip (CHANNEL_STATUS.STANDING_GATE_wide (inSkip (CHANNEL_STATUS.STATE_wide (inSkip
    (CHANNEL_STATUS.TRIP_CAUSE_wide (inSkip (CHANNEL_SUPERVISION.HARD_TRIPS_wide (inSkip (CHANNEL_SUPERVISION.MODEL_TRIPS_wide
    (inSkip (CHANNEL_SUPERVISION.TIMEOUT_TRIPS_wide (inSkip (GATE_wide (inSkip (LAMP_LOW_wide (inSkip (LAMP_TOLD_wide (inSkip
    (LATCH_wide (inSkip (LIFE_NEW_wide (inSkip (LIMIT_EPISODE_wide (inSkip (LIMIT_LEFT_wide (inSkip (LIMIT_SINCE_wide (inSkip
    (LIMIT_SPENT_wide (inSkip (PEND_wide (inSkip (PUMP_START_wide (inSkip (PUMP_STOP_AT_wide (inSkip (PWM_HIGH_wide (inSkip
    (inBoth (inBoth (inBoth (inBoth (RUN_SINCE_wide (inSkip (RUN_SPENT_wide (inSkip (STAND_EVENTS_wide (inSkip (START_AT_wide
    (inSkip (TRIP_FRAME_wide (inSkip (TRIP_STATE_wide (inSkip (WAIT_END_wide (inSkip (WIN_wide
    inNil)))))))))))))))))))))))))))))))))))))))))))))))))))))))))))))))))))
    fun _ h => h

/-- No time passes in a trip. -/
theorem State.trip_follows (s : State) (n cause stage : Nat) : DieFollows s (s.trip n cause stage) :=
  .of_leaves (s.trip_stays n cause stage) (.trip (.refl s) n cause stage)

/-- The families that the end of a swap writes by the trip of a channel of it. -/
def swapEndFamilies : List Span :=
  [each CASTLING_PAIR.SWAP_STATE, each CASTLING_PAIR.SWAP_RESULT, each SWAP_IN, each SWAP_SIDE, each CHANNEL_CONFIG.REQUEST,
    each fun n => inForce (CHANNEL_CONFIG.REQUEST n)]

/-- The trip of a channel ends a swap without a word to the channel (R153). -/
theorem State.swapTrip_spares (h : s.cell n = ST.TRIP) : Leaves swapEndFamilies [.collector] s (s.swapTrip n) := by
  unfold State.swapTrip
  split
  · exact .refl s
  next p _ =>
  split
  next into =>
    unfold State.swapAbort
    extract_lets m s1 s2 s3
    have ended : Leaves swapEndFamilies [.collector] s s1 := State.setN_leaves (State.setN_leaves (State.setN_leaves (.refl s)
      (covered_of (CASTLING_PAIR.SWAP_STATE_has p))) (covered_of (CASTLING_PAIR.SWAP_RESULT_has p))) (covered_of (SWAP_IN_has p))
    have request : Leaves swapEndFamilies [.collector] s s2 := State.setN_leaves (State.setN_leaves ended
      (covered_of (CHANNEL_CONFIG.REQUEST_has m))) (covered_of (inForce_CHANNEL_CONFIG.REQUEST_has m))
    have tripped : s2.cell m = ST.TRIP := by
      rw [show m = n from into]
      exact (request.nat_eq (outside_internal (by decide) n)).trans h
    have spared : s3 = s2 := by simp only [s3, tripped, decide_true, Bool.or_true, if_true]
    rw [spared]
    exact State.raise_leaves _ _ _ _ _ request fun _ h => h
  · exact State.setN_leaves (.refl s) (covered_of (SWAP_SIDE_has p))

/-! ### Trips that are reported -/

/-- Channel n trips and says so; the swap in which it takes part hears of it. -/
def State.tripReported (s : State) (n cause stage : Nat) (k : Kind) (e : Nat) (fields : List (Nat × Int)) : State :=
  (((s.trip n cause stage).raiseChannel k n e 0 fields).lockoutTold n).swapTrip n

/-- Neither of the records of a trip changes a register. -/
theorem State.told_nat (s : State) (k : Kind) (n e j : Nat) (fields : List (Nat × Int)) :
    ((s.raiseChannel k n e 0 fields).lockoutTold n).nat j = s.nat j := by
  unfold State.lockoutTold
  split <;> rfl

theorem State.tripReported_tripped (s : State) (n cause stage : Nat) (k : Kind) (e : Nat) (fields : List (Nat × Int)) :
    Tripped s n cause stage (s.tripReported n cause stage k e fields) := by
  have told : Tripped s n cause stage (((s.trip n cause stage).raiseChannel k n e 0 fields).lockoutTold n) :=
    (s.trip_tripped n cause stage).of_nats fun j _ => State.told_nat _ k n e j fields
  have ends := State.swapTrip_spares told.cell
  refine told.of_nats fun j hj => ends.nat_eq ?_
  simp only [tripShown, List.mem_cons, List.not_mem_nil, or_false] at hj
  obtain rfl | rfl | rfl | rfl | rfl | rfl := hj
  · exact outside_internal (by decide) n
  · exact outside_internal (by decide) n
  · exact outside_object (by decide) _
  · exact outside_internal (by decide) n
  · unfold tripCounter
    split <;> exact outside_object (by decide) _
  · exact outside_internal (by decide) n

theorem DieFollows.tripReported_raises (h : DieFollows s t) (hn : n < 512) (k : Kind) (e : Nat) (fields : List (Nat × Int)) :
    DieRaises s (t.tripReported n cause stage k e fields) (dieOf n) k (siteChannel n e) (s.holderOfChannel n) (f16 n :: fields) := by
  have raised := (h.trans (t.trip_follows n cause stage)).raisesChannel hn k e 0 fields
  have cell : (((t.trip n cause stage).raiseChannel k n e 0 fields).lockoutTold n).cell n = ST.TRIP :=
    (State.told_nat _ k n e _ fields).trans (t.trip_tripped n cause stage).cell
  exact raised.mono ((DieGrows.lockoutTold (.refl _) n).quiet (State.swapTrip_spares cell))

end

end Sys2Proof.Machine
end

section
/-!
SUPPORT. What a channel shows as its ramp starts.
-/
open Sys2Proof
namespace Sys2Proof.Machine

set_option Elab.async false

section
variable (s : State) (n : Nat)

/-- Only OFF clears flags of a channel that enters it (R88). -/
theorem State.cellTo_flags {st : Nat} (h : st ≠ ST.OFF) :
    (s.cellTo n st).nat (CHANNEL_STATUS.FLAGS n) = s.nat (CHANNEL_STATUS.FLAGS n) := by
  unfold State.cellTo
  extract_lets s1 s2 s3 s4 s5
  have clocks : Leaves [each RUN_SINCE, each RUN_SPENT, each LIMIT_EPISODE, each LIMIT_LEFT, each LIMIT_SINCE, each LIMIT_SPENT] [] s s1 :=
    State.limitClock_leaves n st (State.runClock_leaves n st (.refl s) (RUN_SINCE_wide (inSkip (RUN_SPENT_wide inNil))))
      (inSkip (inSkip (LIMIT_EPISODE_wide (inSkip (LIMIT_LEFT_wide (inSkip (LIMIT_SINCE_wide (inSkip (LIMIT_SPENT_wide inNil)))))))))
  have entered : Leaves [each LAMP_LOW, each CELL, each GATE] [] s1 s3 :=
    State.setN_leaves (State.setN_leaves (.ite (.refl s1) (State.setN_leaves (.refl s1) (covered_of (LAMP_LOW_has n))))
      (covered_of (CELL_has n))) (covered_of (GATE_has n))
  have latched : Leaves [each LATCH] [] s3 s5 := by
    rw [show s5 = if isAnchored n then s3.setFlag (LATCH n) (1 ≤ st && st ≤ 4) else s3 by simp only [s5, s4, if_neg h]]
    exact .ite (State.setFlag_leaves (.refl s3) (covered_of (LATCH_has n))) (.refl s3)
  rw [(State.pumpUpdate_stays _ _).nat_eq (outside_object (by decide) _),
    (State.showCell_stays s5 n).nat_eq (outside_object (by decide) _), latched.nat_eq (outside_object (by decide) _),
    entered.nat_eq (outside_object (by decide) _),
    clocks.nat_eq (outside_object (by decide) _)]

/-- The ramp of channel n is made ready: its counter, its clock and the record of a retry (R94, R123). -/
def State.rampReadied (s : State) (n : Nat) (retry : Bool) : State :=
  let s := s.withdraw n
  let s := s.count (if retry then CHANNEL_SUPERVISION.RETRIES n else CHANNEL_SUPERVISION.STARTS n) 0xFFFF
  let s := (s.setBit (WIN n) WFLAG.NOT_DISCHARGED false).setN (ND_GROUP n) 0
  let s := (s.setN (RAMP_START n) s.time).setN (BLANK_UNTIL n) (if s.rampPaused (bankOf n) then 0 else s.blankEnd n)
  let s := s.setFlag (RAMP_RETRY n) retry
  if retry then
    s.raiseChannel .RETRY_STARTED n 0x26 0
      [f8 (s.get (CHANNEL_PROTECTION.RETRIES_LEFT n)), f32 (s.nat (RETRY_STRETCH n))]
  else s

theorem State.startRamp_eq (gentle retry : Bool) : s.startRamp n gentle retry =
    (((s.rampReadied n retry).setChFlag n FLAG.GENTLE_START gentle).cellTo n ST.RAMP).lampStart n := rfl

/-- A retry is counted (R180), and keeps the retries that are left. -/
theorem State.rampReadied_retry :
    (s.rampReadied n true).nat (CHANNEL_SUPERVISION.RETRIES n) = satTo 0xFFFF (s.nat (CHANNEL_SUPERVISION.RETRIES n) + 1) ∧
      (s.rampReadied n true).nat (CHANNEL_PROTECTION.RETRIES_LEFT n) = s.nat (CHANNEL_PROTECTION.RETRIES_LEFT n) := by
  unfold State.rampReadied
  extract_lets s1 s2 s3 s4 s5
  have withdrawn : Leaves [each ADMIT_KIND, each CHANNEL_STATUS.FLAGS, each START_AT] [] s s1 :=
    State.withdraw_leaves n (.refl s) (ADMIT_KIND_wide (inSkip (CHANNEL_STATUS.FLAGS_wide (inSkip (START_AT_wide inNil)))))
  have timed : Leaves [each WIN, each ND_GROUP, each RAMP_START, each BLANK_UNTIL, each RAMP_RETRY] [] s2 s5 :=
    State.setFlag_leaves (State.setN_leaves (State.setN_leaves (State.setN_leaves (State.setBit_leaves (.refl s2)
      (covered_of (WIN_has n))) (covered_of (ND_GROUP_has n))) (covered_of (RAMP_START_has n))) (covered_of (BLANK_UNTIL_has n)))
      (covered_of (RAMP_RETRY_has n))
  have counted : s2 = s1.count (CHANNEL_SUPERVISION.RETRIES n) 0xFFFF := by simp only [s2, if_true]
  rw [if_pos rfl, State.raiseChannel, State.raiseDie_nat, State.raiseDie_nat]
  refine ⟨?_, ?_⟩
  · rw [timed.nat_eq (outside_object (by decide) _), counted, State.nat_count_self, withdrawn.nat_eq (outside_object (by decide) _)]
  · rw [timed.nat_eq (outside_object (by decide) _), counted, State.nat_count_other, withdrawn.nat_eq (outside_object (by decide) _)]
    simp only [CHANNEL_SUPERVISION.RETRIES]
    omega

theorem State.lampStart_stays : Leaves [each CHANNEL_PROTECTION.MODEL_FLAGS, each LAMP_AT] [] s (s.lampStart n) :=
  State.lampStart_leaves n (.refl s) (CHANNEL_PROTECTION.MODEL_FLAGS_wide (inSkip (LAMP_AT_wide inNil)))

/-- A ramp that starts as a retry shows, and leaves the retries that are left. -/
theorem State.startRamp_retry (gentle : Bool) :
    let t := s.startRamp n gentle true
    t.cell n = ST.RAMP ∧ t.chFlag n FLAG.GENTLE_START = gentle ∧
      t.nat (CHANNEL_SUPERVISION.RETRIES n) = satTo 0xFFFF (s.nat (CHANNEL_SUPERVISION.RETRIES n) + 1) ∧
      t.nat (CHANNEL_PROTECTION.RETRIES_LEFT n) = s.nat (CHANNEL_PROTECTION.RETRIES_LEFT n) := by
  obtain ⟨counted, left⟩ := s.rampReadied_retry n
  rw [State.startRamp_eq]
  have flag : Leaves [each CHANNEL_STATUS.FLAGS] [] (s.rampReadied n true) ((s.rampReadied n true).setChFlag n FLAG.GENTLE_START gentle) :=
    State.setChFlag_leaves n _ _ (.refl _) (CHANNEL_STATUS.FLAGS_wide inNil)
  have entered := State.cellTo_stays ((s.rampReadied n true).setChFlag n FLAG.GENTLE_START gentle) n ST.RAMP
  have lamp := State.lampStart_stays (((s.rampReadied n true).setChFlag n FLAG.GENTLE_START gentle).cellTo n ST.RAMP) n
  refine ⟨(lamp.nat_eq (outside_internal (by decide) n)).trans (State.cellTo_cell _ _ _), ?_, ?_, ?_⟩
  · rw [State.chFlag, State.bit, lamp.nat_eq (outside_object (by decide) _), State.cellTo_flags _ _ (by decide)]
    exact State.bit_setBit_self _
  · rw [lamp.nat_eq (outside_object (by decide) _), entered.nat_eq (outside_object (by decide) _),
      flag.nat_eq (outside_object (by decide) _), counted]
  · rw [lamp.nat_eq (outside_object (by decide) _), entered.nat_eq (outside_object (by decide) _),
      flag.nat_eq (outside_object (by decide) _), left]

end

end Sys2Proof.Machine
end

section
/-!
CLAIM O11. How the charge pump and the bus of a bank are judged, and the mirror flags of its channels.
-/
open Sys2Proof
namespace Sys2Proof.Machine

set_option Elab.async false

section
variable {b c k m : Nat} {on : Bool} {v : Int} {s t : State}

/-! ### A bank flag and its mirrors -/

/-- A flag of bank k and the mirrors of it that its channels show. -/
structure BankShows (t : State) (k b m : Nat) (on : Bool) : Prop where
  flag : t.bankFlag k b = on
  mirrors : ∀ i < 16, t.chFlag (16 * k + i) m = on

/-- A bank flag that is put shows on the bank and on all its channels. -/
theorem State.setBankFlag_shows (s : State) (k b m : Nat) (on : Bool) : BankShows (s.setBankFlag k b m on) k b m on := by
  unfold State.setBankFlag
  refine ⟨?_, fun i hi => ?_⟩
  · have mirrors : Leaves [each CHANNEL_STATUS.FLAGS] [] (s.setBit (BANK.BANK_FLAGS k) b on)
        (forBelow 16 (fun i s => s.setChFlag (16 * k + i) m on) (s.setBit (BANK.BANK_FLAGS k) b on)) :=
      forBelow_leaves (.refl _) fun i x hx => State.setBit_leaves hx (covered_of (CHANNEL_STATUS.FLAGS_has _))
    exact (mirrors.bit_eq (outside_object (by decide) _)).trans (State.bit_setBit_self _)
  · refine forBelow_establishes (Q := fun _ => True) (P := fun x => x.chFlag (16 * k + i) m = on) hi trivial (fun _ _ _ _ => trivial)
      (fun x _ => x.bit_setBit_self) fun j _ hj x hx => ?_
    have put : Leaves [one (CHANNEL_STATUS.FLAGS (16 * k + j))] [] x (x.setChFlag (16 * k + j) m on) := State.setBit_leaves (.refl x) .here
    refine (put.bit_eq (outside_one ?_ (outside_none _))).trans hx
    simp only [CHANNEL_STATUS.FLAGS]
    omega

/-- The other flags of the bank stay. -/
theorem State.setBankFlag_other (s : State) (k : Nat) (hc : c ≠ b) (m : Nat) (on : Bool) :
    (s.setBankFlag k b m on).bankFlag k c = s.bankFlag k c := by
  have mirrors : Leaves [each CHANNEL_STATUS.FLAGS] [] (s.setBit (BANK.BANK_FLAGS k) b on) (s.setBankFlag k b m on) :=
    forBelow_leaves (.refl _) fun i x hx => State.setBit_leaves hx (covered_of (CHANNEL_STATUS.FLAGS_has _))
  exact (mirrors.bit_eq (outside_object (by decide) _)).trans (State.bit_setBit_other _ hc)

theorem State.setBankFlag_stays (s : State) (k b m : Nat) (on : Bool) :
    Leaves [each BANK.BANK_FLAGS, each CHANNEL_STATUS.FLAGS] [] s (s.setBankFlag k b m on) :=
  State.setBankFlag_leaves k b m on (.refl s) (BANK.BANK_FLAGS_wide (inSkip (inBoth inNil)))

/-! ### What resumes and stops with it -/

/-- The families of the edges that a bank holds or lets go. -/
def pauseFamilies : List Span :=
  [each BLANK_UNTIL, each CHANNEL_PROTECTION.MODEL_FLAGS, each GATE, each LAMP_AT, each PWM_HELD, each PWM_HIGH, each RISE_AT]

theorem State.bankPauses_stays (s : State) (k : Nat) : Leaves pauseFamilies [] s (s.bankPauses k) :=
  State.bankPauses_leaves k (.refl s) .refl

theorem State.bankPauses_bankFlag (s : State) (k j c : Nat) : (s.bankPauses k).bankFlag j c = s.bankFlag j c :=
  (s.bankPauses_stays k).bit_eq (outside_object (by decide) _)

theorem BankShows.pauses (h : BankShows t k b m on) : BankShows (t.bankPauses k) k b m on :=
  ⟨(t.bankPauses_bankFlag k k b).trans h.flag,
    fun i hi => ((t.bankPauses_stays k).bit_eq (outside_object (by decide) _)).trans (h.mirrors i hi)⟩

/-- The time at which a pump stops is no flag of its bank. -/
theorem State.pumpStopAt_bankFlag (s : State) (k j c at_ : Nat) : (s.setN (PUMP_STOP_AT k) at_).bankFlag j c = s.bankFlag j c :=
  Leaves.bit_eq (W := [each PUMP_STOP_AT]) (L := []) (State.setN_leaves (.refl s) (covered_of (PUMP_STOP_AT_has k)))
    (outside_object (by decide) _)

/-- The judgement of the pump starts it, and leaves the other flags of its bank. -/
theorem State.pumpUpdate_bankFlag (s : State) (k : Nat) (hc : c ≠ BFLAG.RUNNING) : (s.pumpUpdate k).bankFlag k c = s.bankFlag k c := by
  have start (x : State) (at_ : Nat) : (x.setN (PUMP_START k) at_).bankFlag k c = x.bankFlag k c :=
    Leaves.bit_eq (W := [each PUMP_START]) (L := []) (State.setN_leaves (.refl x) (covered_of (PUMP_START_has k)))
      (outside_object (by decide) _)
  unfold State.pumpUpdate
  extract_lets running
  split
  · split
    · exact s.pumpStopAt_bankFlag k k c 0
    · exact (State.pumpStopAt_bankFlag _ k k c 0).trans ((start _ _).trans (State.bit_setBit_other _ hc))
  · split
    · exact s.pumpStopAt_bankFlag k k c _
    · rfl

theorem BankShows.pump (h : BankShows t k b m on) (hb : b ≠ BFLAG.RUNNING) : BankShows (t.pumpUpdate k) k b m on :=
  ⟨(t.pumpUpdate_bankFlag k hb).trans h.flag,
    fun i hi => ((t.pumpUpdate_stays k).bit_eq (outside_object (by decide) _)).trans (h.mirrors i hi)⟩

theorem BankShows.raiseDie (h : BankShows t k b m on) (d : Nat) (kind : Kind) (site tenant obj : Nat) (fields : List (Nat × Int)) :
    BankShows (t.raiseDie d kind site tenant obj fields) k b m on := ⟨h.flag, h.mirrors⟩

/-- A bank whose flag changes, and what resumes or stops with it. -/
def State.bankTurns (s : State) (k b m : Nat) (on : Bool) : State := (s.setBankFlag k b m on).bankPauses k

theorem State.bankTurns_shows (s : State) (k b m : Nat) (on : Bool) : BankShows (s.bankTurns k b m on) k b m on :=
  (s.setBankFlag_shows k b m on).pauses

/-- The families that such a change writes, with the judgement of the pump. -/
def bankFamilies : List Span :=
  each BANK.BANK_FLAGS :: each CHANNEL_STATUS.FLAGS :: each PUMP_START :: each PUMP_STOP_AT :: pauseFamilies

theorem State.bankTurns_stays (s : State) (k b m : Nat) (on : Bool) : Leaves bankFamilies [] s (s.bankTurns k b m on) :=
  ((s.setBankFlag_stays k b m on).mono (inBoth (inBoth inNil)) fun _ h => h).trans
    ((State.bankPauses_stays _ k).mono (inSkip (inSkip (inSkip (inSkip .refl)))) fun _ h => h)

theorem State.bankJudged_stays (s : State) (k b m : Nat) (on : Bool) :
    Leaves bankFamilies [] s ((s.bankTurns k b m on).pumpUpdate k) :=
  (s.bankTurns_stays k b m on).trans ((State.pumpUpdate_stays _ k).mono (inBoth (inSkip (inBoth (inBoth inNil)))) fun _ h => h)

/-! ### The events of the pump and of the bus (R91 to R93) -/

/-- A pump that is low shows so, and its die says it (R92). -/
theorem State.pumpLow_shows (hk : k < 32) (high : s.bankFlag k BFLAG.PUMP_LOW = false) :
    BankShows (s.pumpLow k) k BFLAG.PUMP_LOW FLAG.PUMP_LOW true ∧
      DieRaises s (s.pumpLow k) (k / 8) .CHARGE_PUMP_LOW (siteBank k 0x81) 0 [f8 k, f32 (s.get (BANK.PUMP_HEADROOM k))] := by
  have turns := s.bankTurns_stays k BFLAG.PUMP_LOW FLAG.PUMP_LOW true
  have low : s.pumpLow k = (s.bankTurns k BFLAG.PUMP_LOW FLAG.PUMP_LOW true).raiseDie (k / 8) .CHARGE_PUMP_LOW (siteBank k 0x81) 0 0
      [f8 k, f32 (s.get (BANK.PUMP_HEADROOM k))] := by
    have head : (s.bankTurns k BFLAG.PUMP_LOW FLAG.PUMP_LOW true).get (BANK.PUMP_HEADROOM k) = s.get (BANK.PUMP_HEADROOM k) :=
      turns.get_eq (outside_object (by decide) _)
    rw [← head, State.pumpLow, if_neg (by simp [high]), State.bankTurns]
  rw [low]
  exact ⟨(s.bankTurns_shows k BFLAG.PUMP_LOW FLAG.PUMP_LOW true).raiseDie _ _ _ _ _ _,
    ((DieFollows.refl s).quiet turns).raises (by omega) _ _ _ _ _⟩

/-- A running pump with its headroom is ready and no longer low. -/
theorem State.pumpReady_eq (runs : s.bankFlag k BFLAG.RUNNING = true) (enough : 100000 ≤ v) :
    s.pumpReady k v = (s.setBit (BANK.BANK_FLAGS k) BFLAG.READY true).bankTurns k BFLAG.PUMP_LOW FLAG.PUMP_LOW false := by
  simp [State.pumpReady, runs, enough, State.bankTurns]

/-- A pump that no channel needs stops as its millisecond has passed. -/
theorem State.pumpStop_eq (runs : s.bankFlag k BFLAG.RUNNING = true) (set : s.nat (PUMP_STOP_AT k) ≠ 0)
    (passed : s.nat (PUMP_STOP_AT k) ≤ s.time) (idle : s.pumpNeeded k = false) : s.pumpStop k =
      (((s.setBit (BANK.BANK_FLAGS k) BFLAG.RUNNING false).setBit (BANK.BANK_FLAGS k) BFLAG.READY false).setBankFlag k
        BFLAG.PUMP_LOW FLAG.PUMP_LOW false).setN (PUMP_STOP_AT k) 0 := by
  simp [State.pumpStop, runs, set, passed, idle]

/-- A bus below its level shows so, and its die says it (R93). -/
theorem State.busUndervoltage_shows (hk : k < 32) (low : v < s.get (BANK.BUS_UV_LEVEL k)) (well : s.bankFlag k BFLAG.BUS_UV = false) :
    BankShows (s.busUndervoltage k v) k BFLAG.BUS_UV FLAG.BUS_UV true ∧
      DieRaises s (s.busUndervoltage k v) (k / 8) .BUS_UNDERVOLTAGE (siteBank k 0x83) 0 [f8 k, f32 (s.get (BANK.VBUS k))] := by
  have judged := s.bankJudged_stays k BFLAG.BUS_UV FLAG.BUS_UV true
  have sags : s.busUndervoltage k v = ((s.bankTurns k BFLAG.BUS_UV FLAG.BUS_UV true).pumpUpdate k).raiseDie (k / 8) .BUS_UNDERVOLTAGE
      (siteBank k 0x83) 0 0 [f8 k, f32 (s.get (BANK.VBUS k))] := by
    have bus : ((s.bankTurns k BFLAG.BUS_UV FLAG.BUS_UV true).pumpUpdate k).get (BANK.VBUS k) = s.get (BANK.VBUS k) :=
      judged.get_eq (outside_object (by decide) _)
    rw [← bus, State.busUndervoltage, if_pos (by simp [low, well]), State.bankTurns]
  rw [sags]
  exact ⟨((s.bankTurns_shows k BFLAG.BUS_UV FLAG.BUS_UV true).pump (by decide)).raiseDie _ _ _ _ _ _,
    ((DieFollows.refl s).quiet judged).raises (by omega) _ _ _ _ _⟩

theorem State.busUvCleared_eq (sags : s.bankFlag k BFLAG.BUS_UV = true) (well : s.get (BANK.BUS_UV_LEVEL k) + 5000 ≤ v) :
    s.busUvCleared k v = (s.bankTurns k BFLAG.BUS_UV FLAG.BUS_UV false).pumpUpdate k := by
  simp [State.busUvCleared, sags, well, State.bankTurns]

end

/-- Settles O11: each event of a pump or a bus puts a flag of the bank, which its channels mirror. -/
theorem pumpsAndBuses : Obligations.PumpsAndBuses := by
  unfold Obligations.PumpsAndBuses
  intro k v s
  refine ⟨fun runs enough => ?_, fun runs starts late high => ?_, fun runs ready low high => ?_, fun runs set passed idle => ?_,
    fun low well => ?_, fun sags well => ?_⟩
  · obtain ⟨low, mirrors⟩ := (s.setBit (BANK.BANK_FLAGS k) BFLAG.READY true).bankTurns_shows k BFLAG.PUMP_LOW FLAG.PUMP_LOW false
    refine ⟨_, congrArg Host.Outcome.next (State.pumpReady_eq runs enough), ?_, low, mirrors⟩
    exact (State.bankPauses_bankFlag _ k k _).trans ((State.setBankFlag_other _ _ (by decide) _ _).trans (State.bit_setBit_self _))
  · have low : s.pumpStartTimeout k = s.pumpLow k := if_pos (by simp [runs, starts, late])
    obtain ⟨⟨flag, mirrors⟩, raised⟩ := State.pumpLow_shows k.isLt high
    exact ⟨_, congrArg Host.Outcome.next low, flag, mirrors, raised⟩
  · have low : s.pumpHeadroomLow k v = s.pumpLow k := if_pos (by simp [runs, ready, low])
    obtain ⟨⟨flag, mirrors⟩, raised⟩ := State.pumpLow_shows k.isLt high
    exact ⟨_, congrArg Host.Outcome.next low, flag, mirrors, raised⟩
  · refine ⟨_, congrArg Host.Outcome.next (State.pumpStop_eq runs set passed idle), ?_, ?_, State.nat_setN_self _ _ _⟩
    · exact (State.pumpStopAt_bankFlag _ k k _ 0).trans ((State.setBankFlag_other _ _ (by decide) _ _).trans
        ((State.bit_setBit_other _ (by decide)).trans (State.bit_setBit_self _)))
    · exact (State.pumpStopAt_bankFlag _ k k _ 0).trans ((State.setBankFlag_other _ _ (by decide) _ _).trans (State.bit_setBit_self _))
  · obtain ⟨⟨flag, mirrors⟩, raised⟩ := State.busUndervoltage_shows k.isLt low well
    exact ⟨_, rfl, flag, mirrors, raised⟩
  · obtain ⟨flag, mirrors⟩ := (s.bankTurns_shows k BFLAG.BUS_UV FLAG.BUS_UV false).pump (by decide)
    exact ⟨_, congrArg Host.Outcome.next (State.busUvCleared_eq sags well), flag, mirrors⟩

end Sys2Proof.Machine
end

section
/-!
CLAIM O12. How ramps end, in ON or by their time-out, and where a first PWM period begins and an on-time ends.
-/
open Sys2Proof
namespace Sys2Proof.Machine

set_option Elab.async false

section
variable {n : Nat} {d1 d2 v1 v2 vgs vload : Int} {s : State}

/-! ### Ramps (R94) -/

/-- A swap that hears of the end of a ramp writes only its own registers. -/
theorem State.swapOnMet_stays (s : State) (n : Nat) :
    Leaves [each CASTLING_PAIR.SWAP_STATE, each SWAP_ON_AT, each SWAP_OVER] [] s (s.swapOnMet n) :=
  State.swapOnMet_leaves n (.refl s) .refl

theorem State.pendPwm_stays (s : State) (n : Nat) : Leaves [each PEND, each PWM_NEXT] [] s (s.pendPwm n) :=
  State.pendPwm_leaves n (.refl s) (PEND_wide (inSkip (PWM_NEXT_wide inNil)))

theorem State.pendPwm_pend (s : State) (n : Nat) : (s.pendPwm n).nat (PEND n) = 2 := by
  refine (State.nat_setN_other _ ?_).trans (State.nat_setN_self _ _ _)
  simp only [PEND, PWM_NEXT, internal]
  omega

/-- The end of a ramp changes neither what the host asks of the channel nor how it stands or ramps. -/
theorem State.rampEnds_keeps (s : State) (n : Nat) :
    let x := (s.cellTo n ST.ON).swapOnMet n
    x.nat (inForce (CHANNEL_CONFIG.REQUEST n)) = s.nat (inForce (CHANNEL_CONFIG.REQUEST n)) ∧ x.standing n = s.standing n ∧
      x.flag (RAMP_RETRY n) = s.flag (RAMP_RETRY n) := by
  have met := State.swapOnMet_stays (s.cellTo n ST.ON) n
  have entered := s.cellTo_stays n ST.ON
  refine ⟨(met.nat_eq (outside_forced (by decide) _)).trans (s.cellTo_request n ST.ON), ?_,
    (met.flag_eq (outside_internal (by decide) n)).trans (entered.flag_eq (outside_internal (by decide) n))⟩
  rw [State.standing, met.nat_eq (outside_object (by decide) _), entered.nat_eq (outside_object (by decide) _), State.standing]

/-- As its ramp ends, a channel is in ON with its gate full on. -/
theorem State.rampEnds_shows (s : State) (n : Nat) :
    let x := (s.cellTo n ST.ON).swapOnMet n
    x.cell n = ST.ON ∧ x.nat (GATE n) = 2 := by
  have met := State.swapOnMet_stays (s.cellTo n ST.ON) n
  exact ⟨(met.nat_eq (outside_internal (by decide) n)).trans (s.cellTo_cell n ST.ON),
    (met.nat_eq (outside_internal (by decide) n)).trans (s.cellTo_gate n fun _ => rfl)⟩

/-- A ramp that meets the criterion of R94 ends in ON, and a request for PWM then waits for its phase instant. -/
theorem State.rampDone_shows (ramp : s.cell n = ST.RAMP) (met : s.onCriterion n d1 d2 v1 v2 = true) :
    let t := s.rampDone n d1 d2 v1 v2
    t.cell n = ST.ON ∧ t.nat (GATE n) = 2 ∧
      (s.nat (inForce (CHANNEL_CONFIG.REQUEST n)) = 2 → s.standing n = false ∨ s.flag (RAMP_RETRY n) = true → t.nat (PEND n) = 2) := by
  obtain ⟨request, stands, retry⟩ := s.rampEnds_keeps n
  obtain ⟨cell, gate⟩ := s.rampEnds_shows n
  simp only [State.rampDone, ramp, met, request, stands, retry, decide_true, Bool.and_true, if_true]
  split
  next waits =>
    have pending := State.pendPwm_stays ((s.cellTo n ST.ON).swapOnMet n) n
    exact ⟨(pending.nat_eq (outside_internal (by decide) n)).trans cell, (pending.nat_eq (outside_internal (by decide) n)).trans gate,
      fun _ _ => State.pendPwm_pend _ n⟩
  next idle =>
    refine ⟨cell, gate, fun two free => absurd ?_ idle⟩
    obtain free | free := free <;> simp [two, free]

theorem State.onCriterion_of (h1 : d1 ≤ s.get (CHANNEL_CONFIG.RAMP_DONE_DROP n)) (h2 : d2 ≤ s.get (CHANNEL_CONFIG.RAMP_DONE_DROP n))
    (g1 : 90000 < v1) (g2 : 90000 < v2) : s.onCriterion n d1 d2 v1 v2 = true := by
  simp [State.onCriterion, h1, h2, g1, g2]

/-- A ramp past its time trips, and says so (R94). -/
theorem State.rampTimeout_eq (ramp : s.cell n = ST.RAMP)
    (late : s.nat (RAMP_START n) + s.nat (CHANNEL_CONFIG.RAMP_TIMEOUT n) ≤ s.time) :
    s.rampTimeout n vgs vload = s.tripReported n 5 5 .RAMP_TIMEOUT_TRIP 0x01 [f32 vgs, f32 vload] := by
  simp only [State.rampTimeout, ramp, late, State.tripReported, beq_self_eq_true, Bool.true_or, decide_true, Bool.and_true, if_true]

/-! ### PWM (R106, R107) -/

/-- The families that the edges of a channel write besides the times of its period. -/
def edgeFamilies : List Span :=
  [each BLANK_UNTIL, each CHANNEL_PROTECTION.MODEL_FLAGS, each GATE, each LAMP_AT, each PWM_CNT, each PWM_HELD, each PWM_HIGH,
    each PWM_NEXT, each PWM_SQ, each RISE_AT]

/-- A period begins now, and its off edge comes after the duty's share of it. -/
theorem State.pwmPeriodBegins_stays (s : State) (n : Nat) : Leaves edgeFamilies []
    ((s.setN (PWM_AT n) s.time).setN (PWM_OFF n) (s.time * 160 + s.pwmPeriod n * 160 * s.pwmDuty n / 65536))
    (s.pwmPeriodBegins n) := by
  unfold State.pwmPeriodBegins
  extract_lets on s1 s2
  have sums : Leaves edgeFamilies [] ((s.setN (PWM_AT n) s.time).setN (PWM_OFF n) (s.time * 160 + on)) s2 :=
    State.setN_leaves (State.setN_leaves (State.setN_leaves (.refl _) (covered_of (PWM_NEXT_has n))) (covered_of (PWM_SQ_has n)))
      (covered_of (PWM_CNT_has n))
  have low := State.setN_leaves (v := 0) sums (covered_of (PWM_HIGH_has n))
  refine .ite (State.setN_leaves low (covered_of (PWM_HELD_has n))) (.ite (State.setN_leaves low (covered_of (PWM_HELD_has n))) ?_)
  exact State.riseEdge_leaves n sums (BLANK_UNTIL_wide (inSkip (CHANNEL_PROTECTION.MODEL_FLAGS_wide (inSkip (GATE_wide (inSkip
    (LAMP_AT_wide (inSkip (inSkip (PWM_HELD_wide (inSkip (PWM_HIGH_wide (inSkip (inSkip (inSkip (RISE_AT_wide inNil))))))))))))))))

/-- What the first period of a channel shows that enters PWM now (R106). -/
theorem State.firstPeriod_shows (s : State) (n : Nat) :
    let t := (s.cellTo n ST.PWM).pwmPeriodBegins n
    t.cell n = ST.PWM ∧ t.nat (PEND n) = s.nat (PEND n) ∧ t.nat (PWM_AT n) = s.time ∧
      t.nat (PWM_OFF n) = s.time * 160 + s.pwmPeriod n * 160 * s.pwmDuty n / 65536 := by
  have entered := s.cellTo_stays n ST.PWM
  have begun := State.pwmPeriodBegins_stays (s.cellTo n ST.PWM) n
  have period : (s.cellTo n ST.PWM).pwmPeriod n = s.pwmPeriod n := entered.nat_eq (outside_forced (by decide) _)
  have duty : (s.cellTo n ST.PWM).pwmDuty n = s.pwmDuty n := entered.nat_eq (outside_forced (by decide) _)
  rw [entered.time_eq, period, duty] at begun
  refine ⟨(begun.nat_eq (outside_internal (by decide) n)).trans ?_, (begun.nat_eq (outside_internal (by decide) n)).trans ?_,
    (begun.nat_eq (outside_internal (by decide) n)).trans ?_,
    (begun.nat_eq (outside_internal (by decide) n)).trans (State.nat_setN_self _ _ _)⟩
  · rw [State.nat_setN_other, State.nat_setN_other]
    · exact s.cellTo_cell n ST.PWM
    all_goals
      simp only [PWM_AT, PWM_OFF, internal]
      omega
  · rw [State.nat_setN_other, State.nat_setN_other, entered.nat_eq (outside_internal (by decide) n)]
    all_goals
      simp only [PWM_AT, PWM_OFF, internal]
      omega
  · rw [State.nat_setN_other, State.nat_setN_self]
    simp only [PWM_OFF, internal]
    omega

/-- What waits for the phase instant is over, and the settings of the period stay. -/
theorem State.pwmReadied (s : State) (n : Nat) :
    let x := ((s.setN (PEND n) 0).setN (PWM_PERIODS n) 0).setN (PWM_AT n) 0
    x.nat (PEND n) = 0 ∧ x.pwmPeriod n = s.pwmPeriod n ∧ x.pwmDuty n = s.pwmDuty n := by
  refine ⟨?_, ?_, ?_⟩
  · rw [State.nat_setN_other, State.nat_setN_other, State.nat_setN_self]
    all_goals
      simp only [PEND, PWM_PERIODS, PWM_AT, internal]
      omega
  · rw [State.pwmPeriod, State.nat_setN_other, State.nat_setN_other, State.nat_setN_other, State.pwmPeriod]
    all_goals
      simp only [CHANNEL_CONFIG.PWM_PERIOD, PEND, PWM_PERIODS, PWM_AT, inForce, internal]
      omega
  · rw [State.pwmDuty, State.nat_setN_other, State.nat_setN_other, State.nat_setN_other, State.pwmDuty]
    all_goals
      simp only [CHANNEL_CONFIG.PWM_DUTY, PEND, PWM_PERIODS, PWM_AT, inForce, internal]
      omega

/-- At its phase instant a channel that waits for PWM enters it (R95, R107). -/
theorem State.phaseInstant_begins (on : s.flag (LOGIC_OFF (dieOf n)) = false) (due : s.nat (PWM_NEXT n) ≤ s.time)
    (instant : s.nextPhase n s.time = s.time) (waits : s.nat (PEND n) = 2) (cell : s.cell n = ST.ON) :
    s.phaseInstant n = (((((s.setN (PEND n) 0).setN (PWM_PERIODS n) 0).setN (PWM_AT n) 0).cellTo n ST.PWM).pwmPeriodBegins n) := by
  simp [State.phaseInstant, on, due, instant, waits, cell]

/-- The off edge of an on-time in PWM that does not end it (R106). -/
theorem State.offEdge_falls (cell : s.cell n = ST.PWM) (high : s.flag (PWM_HIGH n) = true) (stays : s.nat (PEND n) ≠ 1)
    (due : s.nat (PWM_OFF n) ≤ s.time * 160 + 159) :
    s.offEdge n = ((s.setN (PWM_HIGH n) 0).setN (PWM_HELD n) 0).setN (GATE n) 5 := by
  have pending : ((s.setN (PWM_HIGH n) 0).setN (PWM_HELD n) 0).nat (PEND n) = s.nat (PEND n) := by
    rw [State.nat_setN_other, State.nat_setN_other]
    all_goals
      simp only [PEND, PWM_HIGH, PWM_HELD, internal]
      omega
  simp [State.offEdge, cell, high, due, pending, stays]

end

/-- Settles O12: a ramp ends in ON or trips as its time-out has passed, and a period begins and an on-time ends as the registers of the
channel say. -/
theorem rampsAndPwm : Obligations.RampsAndPwm := by
  unfold Obligations.RampsAndPwm
  intro n d1 d2 v1 v2 vgs vload s
  refine ⟨fun ramp h1 h2 g1 g2 => ?_, fun ramp late => ?_, fun on due instant waits cell => ?_, fun cell high stays due => ?_⟩
  · exact ⟨_, rfl, State.rampDone_shows ramp (State.onCriterion_of h1 h2 g1 g2)⟩
  · obtain ⟨tripped, gate, named, state, counted, -⟩ := s.tripReported_tripped n 5 5 .RAMP_TIMEOUT_TRIP 0x01 [f32 vgs, f32 vload]
    exact ⟨_, congrArg Host.Outcome.next (State.rampTimeout_eq ramp late), tripped, gate, named, state.trans ramp, counted,
      (DieFollows.refl s).tripReported_raises n.isLt _ _ _⟩
  · refine ⟨_, congrArg Host.Outcome.next (State.phaseInstant_begins on due instant waits cell), ?_⟩
    obtain ⟨none, period, duty⟩ := s.pwmReadied n
    obtain ⟨pwm, pending, instant, edge⟩ := State.firstPeriod_shows (((s.setN (PEND n) 0).setN (PWM_PERIODS n) 0).setN (PWM_AT n) 0) n
    rw [State.setN_time, State.setN_time, State.setN_time] at instant edge
    rw [period, duty] at edge
    exact ⟨pwm, pending.trans none, instant, edge⟩
  · refine ⟨_, congrArg Host.Outcome.next (State.offEdge_falls cell high stays due), ?_, State.nat_setN_self _ _ _, ?_⟩
    · rw [State.cell, State.nat_setN_other, State.nat_setN_other, State.nat_setN_other]
      · exact cell
      all_goals
        simp only [CELL, PWM_HIGH, PWM_HELD, GATE, internal]
        omega
    · rw [State.flag_setN_other, State.flag_setN_other, State.flag_setN_self]
      · rfl
      all_goals
        simp only [PWM_HIGH, PWM_HELD, GATE, internal]
        omega

end Sys2Proof.Machine
end

section
/-!
CLAIM O13. Crossings of the hard-short level: what they trip and pull, and those that do nothing.
-/
open Sys2Proof
namespace Sys2Proof.Machine

set_option Elab.async false

section
variable {n ns : Nat} {vsh : Int} {s : State}

theorem State.shortSure_iff : s.shortSure n ns vsh = true ↔
    150 ≤ ns ∧ ((s.shortLevel n + s.shortLevel n / 50 + 250000 : Nat) : Int) < vsh := by
  simp [State.shortSure, State.shortError, Nat.add_assoc]

theorem State.shortMay_iff : s.shortMay n ns vsh = true ↔
    50 ≤ ns ∧ (s.shortLevel n : Int) - (s.shortLevel n / 50 + 250000 : Nat) < vsh := by
  simp [State.shortMay, State.shortError]

/-- What trips for certain may trip. -/
theorem State.shortMay_of_sure (h : s.shortSure n ns vsh = true) : s.shortMay n ns vsh = true := by
  rw [State.shortSure_iff] at h
  rw [State.shortMay_iff]
  omega

/-- A crossing that trips for certain acts on an armed channel outside blanking (R122, R123). -/
theorem State.hardShortCrossing_trips (off : s.flag (LOGIC_OFF (dieOf n)) = false) (armed : s.comparatorArmed n = true)
    (unblanked : s.blanked n = false) (sure : s.shortSure n ns vsh = true) : s.hardShortCrossing n ns vsh = s.hardShort n := by
  simp [State.hardShortCrossing, State.shortActs, off, armed, unblanked, sure, State.shortMay_of_sure sure]

/-- On a die without logic it acts on a latch that is on (R118). -/
theorem State.hardShortCrossing_pulls (off : s.flag (LOGIC_OFF (dieOf n)) = true) (anchored : isAnchored n = true)
    (latch : s.flag (LATCH n) = true) (sure : s.shortSure n ns vsh = true) : s.hardShortCrossing n ns vsh = s.outagePullDown n := by
  simp [State.hardShortCrossing, State.shortActs, off, anchored, latch, sure, State.shortMay_of_sure sure]

/-- One that may not trip does nothing, nor one of an unarmed or blanked channel of a die with logic. -/
theorem State.hardShortCrossing_idle (h : s.shortMay n ns vsh = false ∨
    s.flag (LOGIC_OFF (dieOf n)) = false ∧ (s.blanked n = true ∨ s.comparatorArmed n = false)) : s.hardShortCrossing n ns vsh = s := by
  obtain may | ⟨off, quiet | quiet⟩ := h
  · simp [State.hardShortCrossing, may]
  · simp [State.hardShortCrossing, off, quiet]
  · simp [State.hardShortCrossing, off, quiet]

/-- A capture that sees the channel changes nothing else. -/
theorem State.captureSees_stays (s : State) (n : Nat) : Leaves [each CAP_SEEN] [] s (s.captureSees n) :=
  State.captureSees_leaves n (.refl s) .refl

/-- A hard-short trip is one that is reported, with the state that the channel was in (R124). -/
theorem State.hardShort_eq (s : State) (n : Nat) : s.hardShort n = (s.captureSees n).tripReported n 1 4 .HARD_SHORT_TRIP 0x20
    [f8 (s.cell n), f8 (s.get (CHANNEL_PROTECTION.RETRIES_LEFT n))] := by
  have left : ((s.captureSees n).trip n 1 4).get (CHANNEL_PROTECTION.RETRIES_LEFT n) = s.get (CHANNEL_PROTECTION.RETRIES_LEFT n) := by
    rw [((s.captureSees n).trip_stays n 1 4).get_eq (outside_object (by decide) _),
      (s.captureSees_stays n).get_eq (outside_object (by decide) _)]
  rw [← left]
  rfl

/-- What a hard-short trip shows and reports is what was so before it. -/
theorem State.hardShort_shows (s : State) (hn : n < 512) : Tripped s n 1 4 (s.hardShort n) ∧
    DieRaises s (s.hardShort n) (dieOf n) .HARD_SHORT_TRIP (siteChannel n 0x20) (s.holderOfChannel n)
      [f16 n, f8 (s.cell n), f8 (s.get (CHANNEL_PROTECTION.RETRIES_LEFT n))] := by
  have seen := s.captureSees_stays n
  rw [s.hardShort_eq]
  obtain ⟨cell, gate, named, state, counted, wait⟩ := (s.captureSees n).tripReported_tripped n 1 4 .HARD_SHORT_TRIP 0x20
    [f8 (s.cell n), f8 (s.get (CHANNEL_PROTECTION.RETRIES_LEFT n))]
  refine ⟨⟨cell, gate, named, state.trans ?_, counted.trans ?_, wait.trans ?_⟩, ?_⟩
  · exact seen.nat_eq (outside_internal (by decide) n)
  · rw [show (s.captureSees n).nat (tripCounter n 1) = s.nat (tripCounter n 1) from seen.nat_eq (outside_object (by decide) _)]
  · rw [seen.nat_eq (outside_object (by decide) _), seen.time_eq]
  · exact ((DieFollows.refl s).quiet seen).tripReported_raises hn _ _ _

/-- The pull-down during a logic outage turns the channel off by its latch (R118). -/
theorem State.outagePullDown_shows (anchored : isAnchored n = true) (latch : s.flag (LATCH n) = true) :
    let t := s.outagePullDown n
    t.flag (LATCH n) = false ∧ t.flag (LATCH_PULLED n) = true ∧ t.cell n = ST.OFF ∧ t.nat (GATE n) = 0 := by
  have pulled : s.outagePullDown n = ((((s.setN (LATCH n) 0).setN (LATCH_PULLED n) 1).setN (CELL n) ST.OFF).setN (GATE n)
      0).pumpUpdate (bankOf n) := by simp [State.outagePullDown, anchored, latch]
  have pump := State.pumpUpdate_stays ((((s.setN (LATCH n) 0).setN (LATCH_PULLED n) 1).setN (CELL n) ST.OFF).setN (GATE n) 0) (bankOf n)
  rw [pulled]
  refine ⟨(pump.flag_eq (outside_internal (by decide) n)).trans ?_, (pump.flag_eq (outside_internal (by decide) n)).trans ?_,
    (pump.nat_eq (outside_internal (by decide) n)).trans ?_, (pump.nat_eq (outside_internal (by decide) n)).trans ?_⟩
  · rw [State.flag_setN_other, State.flag_setN_other, State.flag_setN_other, State.flag_setN_self]
    · rfl
    all_goals
      simp only [LATCH_PULLED, CELL, GATE, internal]
      omega
  · rw [State.flag_setN_other, State.flag_setN_other, State.flag_setN_self]
    · rfl
    all_goals
      simp only [CELL, GATE, internal]
      omega
  · rw [State.nat_setN_other, State.nat_setN_self]
    simp only [GATE, internal]
    omega
  · exact State.nat_setN_self _ _ _

end

/-- Settles O13: a crossing trips, pulls or does nothing as the comparator, the blanking and the threshold's accuracy say; a trip and
the record of it show the channel as it was before. -/
theorem hardShortTrips : Obligations.HardShortTrips := by
  unfold Obligations.HardShortTrips
  intro n ns vsh s
  refine ⟨fun off armed unblanked long high => ?_, fun off anchored latch long high => ?_, fun idle => ?_⟩
  · have trips := State.hardShortCrossing_trips off armed unblanked (State.shortSure_iff.2 ⟨long, high⟩)
    obtain ⟨⟨cell, gate, named, state, counted, wait⟩, raised⟩ := s.hardShort_shows n.isLt
    exact ⟨_, congrArg Host.Outcome.next trips, cell, gate, named, state, counted, wait, raised⟩
  · have pulls := State.hardShortCrossing_pulls off anchored latch (State.shortSure_iff.2 ⟨long, high⟩)
    exact ⟨_, congrArg Host.Outcome.next pulls, State.outagePullDown_shows anchored latch⟩
  · refine congrArg Host.Outcome.next (State.hardShortCrossing_idle ?_)
    rw [← Bool.not_eq_true, State.shortMay_iff]
    obtain short | low | quiet := idle
    · exact .inl (by omega)
    · exact .inl (by omega)
    · exact .inr quiet

end Sys2Proof.Machine
end

section
/-!
CLAIM O15. How a trip settles, what a retry uses and asks for, and what restores the retries.
-/
open Sys2Proof
namespace Sys2Proof.Machine

set_option Elab.async false

section
variable {n : Nat} {vgs : Int} {s : State}

/-! ### A trip settles (R124, R135, R136) -/

/-- The static hold takes done the gate of channel n. -/
def State.tripHeld (s : State) (n : Nat) : State := (s.setClosing 1 n (s.stamp + 1000)).gateHeld n

theorem State.tripHeld_stays (s : State) (n : Nat) : Leaves [each GATE] [.shadows] s (s.tripHeld n) :=
  State.gateHeld_leaves n (State.setClosing_leaves 1 n _ (.refl s) fun _ h => h) (GATE_wide inNil)

theorem State.tripHeld_cell (s : State) (n : Nat) : (s.tripHeld n).cell n = s.cell n :=
  (s.tripHeld_stays n).nat_eq (outside_internal (by decide) n)

/-- The gate of a trip that falls is held. -/
theorem State.tripHeld_gate (cell : s.cell n = ST.TRIP) (falls : s.nat (GATE n) = 4 ∨ s.nat (GATE n) = 5) :
    (s.tripHeld n).nat (GATE n) = 0 := by
  have down : (s.setClosing 1 n (s.stamp + 1000)).gateFalls n = true := by
    have cell' : (s.setClosing 1 n (s.stamp + 1000)).cell n = ST.TRIP := cell
    have falls' : (s.setClosing 1 n (s.stamp + 1000)).nat (GATE n) = 4 ∨ (s.setClosing 1 n (s.stamp + 1000)).nat (GATE n) = 5 := falls
    simp [State.gateFalls, cell', falls']
  rw [State.tripHeld, State.gateHeld, if_pos down, State.nat_setN_self]

/-- What becomes of a trip whose VGS has fallen below 1.0 V. -/
theorem State.tripSettled_eq (cell : s.cell n = ST.TRIP) (low : vgs < 10000) : s.tripSettled n vgs =
    if s.nat (TRIP_FRAME n) < s.frame then
      if s.nat (CHANNEL_PROTECTION.RETRIES_LEFT n) = 0 then (s.tripHeld n).cellTo n ST.LOCKOUT
      else if s.nat (inForce (CHANNEL_CONFIG.REQUEST n)) = 0 && !s.standing n then (s.tripHeld n).turnOff n 0
      else (s.tripHeld n).cellTo n ST.RETRY
    else s.tripHeld n := by
  have held := s.tripHeld_stays n
  have cell' := (s.tripHeld_cell n).trans cell
  have frame : (s.tripHeld n).frame = s.frame := held.parts .frame (by decide)
  have tripped : (s.tripHeld n).nat (TRIP_FRAME n) = s.nat (TRIP_FRAME n) := held.nat_eq (outside_internal (by decide) n)
  have left : (s.tripHeld n).nat (CHANNEL_PROTECTION.RETRIES_LEFT n) = s.nat (CHANNEL_PROTECTION.RETRIES_LEFT n) :=
    held.nat_eq (outside_object (by decide) _)
  have request : (s.tripHeld n).nat (inForce (CHANNEL_CONFIG.REQUEST n)) = s.nat (inForce (CHANNEL_CONFIG.REQUEST n)) :=
    held.nat_eq (outside_forced (by decide) _)
  have stands : (s.tripHeld n).standing n = s.standing n := by
    rw [State.standing, held.nat_eq (outside_object (by decide) _), State.standing]
  unfold State.tripSettled
  rw [if_pos low, ← State.tripHeld]
  simp only [cell', low, frame, tripped, left, request, stands, decide_true, Bool.true_and, decide_eq_true_eq]

/-! ### Retries (R136, R137, R139) -/

/-- A retry of channel n uses one of those left, and the time by which it is late is noted. -/
def State.retryUsed (s : State) (n : Nat) : State :=
  let left := s.nat (CHANNEL_PROTECTION.RETRIES_LEFT n)
  let s := if left < 255 then s.setN (CHANNEL_PROTECTION.RETRIES_LEFT n) (left - 1) else s
  s.setN (RETRY_STRETCH n) (s.time - s.nat (WAIT_END n))

theorem State.retryUsed_stays (s : State) (n : Nat) :
    Leaves [each CHANNEL_PROTECTION.RETRIES_LEFT, each RETRY_STRETCH] [] s (s.retryUsed n) := by
  have stretch : (each RETRY_STRETCH).has (RETRY_STRETCH n) := ⟨n, 0, by simp only [RETRY_STRETCH, internal]; omega⟩
  exact State.setN_leaves (.ite (State.setN_leaves (.refl s) (covered_of (CHANNEL_PROTECTION.RETRIES_LEFT_has n))) (.refl s))
    (covered_of stretch)

/-- 255 retries are unlimited. -/
theorem State.retryUsed_left (s : State) (n : Nat) : (s.retryUsed n).nat (CHANNEL_PROTECTION.RETRIES_LEFT n) =
    if s.nat (CHANNEL_PROTECTION.RETRIES_LEFT n) < 255 then s.nat (CHANNEL_PROTECTION.RETRIES_LEFT n) - 1
    else s.nat (CHANNEL_PROTECTION.RETRIES_LEFT n) := by
  unfold State.retryUsed
  extract_lets left s1
  rw [State.nat_setN_other]
  · simp only [s1]
    split
    · exact State.nat_setN_self _ _ _
    · rfl
  · simp only [CHANNEL_PROTECTION.RETRIES_LEFT, RETRY_STRETCH, internal]
    omega

theorem State.retryUsed_standing (s : State) (n : Nat) : (s.retryUsed n).standing n = s.standing n := by
  rw [State.standing, (s.retryUsed_stays n).nat_eq (outside_object (by decide) _), State.standing]

/-- A channel that does not stand asks for admission, as a retry; past the boundary of its frame, from the next frame on. -/
def State.retryAsks (s : State) (n : Nat) : State :=
  let s := s.askAdmission n 2
  if s.nat LAST_BOUNDARY < s.time then s.setN (ADMIT_SINCE n) (s.frame + 1) else s

/-- What a retry that is due does. -/
theorem State.retryDue_eq (cell : s.cell n = ST.RETRY) (done : s.nat (WAIT_END n) ≤ s.time) (cooled : s.coolingOwed n = false)
    (idle : s.waiting n = false) (on : s.flag (LOGIC_OFF (dieOf n)) = false) :
    s.retryDue n = if s.standing n then (s.retryUsed n).startRamp n true true else (s.retryUsed n).retryAsks n := by
  rw [← s.retryUsed_standing n]
  exact if_pos (by simp [cell, done, cooled, idle, on])

theorem State.retryAsks_stays (s : State) (n : Nat) :
    Leaves [each ADMIT_KIND, each ADMIT_SINCE, each CHANNEL_PROTECTION.ADMIT_WAIT, each CHANNEL_STATUS.FLAGS] [] s (s.retryAsks n) := by
  have asks : Leaves [each ADMIT_KIND, each ADMIT_SINCE, each CHANNEL_PROTECTION.ADMIT_WAIT, each CHANNEL_STATUS.FLAGS] [] s
      (s.askAdmission n 2) := State.askAdmission_leaves n 2 (.refl s) (ADMIT_KIND_wide (inSkip (ADMIT_SINCE_wide (inSkip
    (CHANNEL_PROTECTION.ADMIT_WAIT_wide (inSkip (CHANNEL_STATUS.FLAGS_wide inNil)))))))
  exact .ite (State.setN_leaves asks (covered_of (ADMIT_SINCE_has n))) asks

/-- The request of a retry shows. -/
theorem State.retryAsks_shows (s : State) (n : Nat) :
    (s.retryAsks n).nat (ADMIT_KIND n) = 2 ∧ (s.retryAsks n).chFlag n FLAG.WAITING_ADMISSION = true := by
  have since : Leaves [each ADMIT_SINCE] [] (s.askAdmission n 2) (s.retryAsks n) :=
    .ite (State.setN_leaves (.refl _) (covered_of (ADMIT_SINCE_has n))) (.refl _)
  refine ⟨(since.nat_eq (outside_internal (by decide) n)).trans (s.askAdmission_kind n 2),
    (since.bit_eq (outside_object (by decide) _)).trans ?_⟩
  exact State.bit_setBit_self _

end

/-- Settles O15: a trip settles by the retries left and by REQUEST, and a retry that is due uses one and ramps or asks for admission. -/
theorem tripsAndRetries : Obligations.TripsAndRetries := by
  unfold Obligations.TripsAndRetries
  intro n vgs s
  refine ⟨fun cell falls low early => ?_, fun cell low done => ⟨fun none => ?_, fun some keeps => ?_, fun some off free => ?_⟩,
    fun cell done cooled idle on => ?_, fun on runs long => ?_⟩
  · refine ⟨_, congrArg Host.Outcome.next ((State.tripSettled_eq cell low).trans (if_neg (Nat.not_lt.2 early))), ?_,
      State.tripHeld_gate cell falls⟩
    exact (s.tripHeld_cell n).trans cell
  · refine ⟨_, congrArg Host.Outcome.next ((State.tripSettled_eq cell low).trans ((if_pos done).trans (if_pos none))), ?_⟩
    exact State.cellTo_cell _ _ _
  · refine ⟨_, congrArg Host.Outcome.next ((State.tripSettled_eq cell low).trans ((if_pos done).trans ((if_neg some).trans
      (if_neg ?_)))), State.cellTo_cell _ _ _⟩
    obtain asks | stands := keeps <;> simp [*]
  · refine ⟨_, congrArg Host.Outcome.next ((State.tripSettled_eq cell low).trans ((if_pos done).trans ((if_neg some).trans
      (if_pos ?_)))), State.turnOff_cell _ _ _⟩
    simp [off, free]
  · have left := s.retryUsed_left n
    have used := s.retryUsed_stays n
    refine ⟨_, congrArg Host.Outcome.next (State.retryDue_eq cell done cooled idle on), ?_⟩
    split
    next stands =>
      obtain ⟨ramp, gentle, counted, kept⟩ := (s.retryUsed n).startRamp_retry n true
      refine ⟨kept.trans left, fun free => absurd stands (by simp [free]), fun _ => ⟨ramp, gentle, counted.trans ?_⟩⟩
      rw [used.nat_eq (outside_object (by decide) _)]
    next free =>
      have asks := (s.retryUsed n).retryAsks_stays n
      obtain ⟨kind, waits⟩ := (s.retryUsed n).retryAsks_shows n
      refine ⟨(asks.nat_eq (outside_object (by decide) _)).trans left, fun _ => ⟨kind, waits, ?_⟩, fun stands => absurd stands free⟩
      exact (asks.nat_eq (outside_internal (by decide) _)).trans ((used.nat_eq (outside_internal (by decide) _)).trans cell)
  · refine ⟨_, congrArg Host.Outcome.next (?_ : _ = s.setN (CHANNEL_PROTECTION.RETRIES_LEFT n)
      (s.nat (CHANNEL_PROTECTION.RETRY_COUNT n))), State.nat_setN_self _ _ _⟩
    obtain cell | cell := runs <;> simp [State.retryReset, cell, on, long]

end Sys2Proof.Machine
end

section
/-!
CLAIM O17. The trigger and the end of a capture, and the rotation of the calibration.
-/
open Sys2Proof
namespace Sys2Proof.Machine

set_option Elab.async false

section
variable {d k : Nat} {gi oi gv ov : Int} {s : State}

/-- The trigger of a capture starts its filling and takes the stamp (R110); what the rings hold is another matter. -/
theorem State.captureTrigger_shows (armed : s.nat (BANK.CAPTURE_STATE (8 * d)) = 1) (fires : s.triggered d = true) :
    (s.captureTrigger d).nat (BANK.CAPTURE_STATE (8 * d)) = 2 ∧ (s.captureTrigger d).nat (BANK.TRIGGER_STAMP (8 * d)) = s.stamp := by
  unfold State.captureTrigger
  rw [if_pos (by simp [armed, fires])]
  extract_lets pre filling
  have rings : Leaves [each2 CAP_RING] [] filling (forBelow (filling.nat (BANK.CAPTURE_SIGNALS (8 * d))) (fun i s =>
      s.setBlob (CAP_RING d i) (triggerRing pre (s.captureRepeats d i) (s.blob (CAP_RING d i)))) filling) :=
    forBelow_leaves (.refl _) fun i x hx => State.setBlob_leaves hx (covered_of (CAP_RING_has d i))
  refine ⟨(rings.nat_eq (outside_object (by decide) _)).trans ?_, (rings.nat_eq (outside_object (by decide) _)).trans ?_⟩
  · refine (State.nat_setN_other _ ?_).trans (State.nat_setN_self _ _ _)
    simp only [BANK.TRIGGER_STAMP]
    omega
  · exact State.nat_setN_self _ _ _

theorem captureState_has (n : Nat) : (each BANK.CAPTURE_STATE).has (BANK.CAPTURE_STATE n) :=
  ⟨n, 0, by simp only [BANK.CAPTURE_STATE]; omega⟩

theorem captureData_has (n : Nat) : (each BANK.CAPTURE_DATA).has (BANK.CAPTURE_DATA n) := ⟨n, 0, by simp only [BANK.CAPTURE_DATA]; omega⟩

/-- A capture that completes writes its state and its data. -/
theorem State.captured_stays (s : State) (d : Nat) : Leaves [each BANK.CAPTURE_STATE, each BANK.CAPTURE_DATA] [] s
    ((s.setN (BANK.CAPTURE_STATE (8 * d)) 3).setBlob (BANK.CAPTURE_DATA (8 * d)) (s.captureData d)) :=
  State.setBlob_leaves (State.setN_leaves (.refl s) (covered_of (captureState_has _))) (covered_of (captureData_has _))

/-- A full buffer completes the capture, with a record to its owner (R111). -/
theorem State.captureComplete_eq (fills : s.nat (BANK.CAPTURE_STATE (8 * d)) = 2)
    (full : ∀ i < s.nat (BANK.CAPTURE_SIGNALS (8 * d)), s.captureLength d ≤ s.captureCount d i) : s.captureComplete d =
      ((s.setN (BANK.CAPTURE_STATE (8 * d)) 3).setBlob (BANK.CAPTURE_DATA (8 * d)) (s.captureData d)).raiseDie d .CAPTURE_COMPLETE
        (siteDie d 0xE2) (s.nat (BANK.CAPTURE_OWNER (8 * d))) 0
        [f8 (d + 1), f32 (s.nat (BANK.TRIGGER_STAMP (8 * d)) % 2 ^ 32), f16 (s.captureLength d)] := by
  have all : (List.range (s.nat (BANK.CAPTURE_SIGNALS (8 * d)))).all (fun i => decide (s.captureLength d ≤ s.captureCount d i)) = true := by
    simpa using full
  have data := s.captured_stays d
  have owner := data.nat_eq (k := BANK.CAPTURE_OWNER (8 * d)) (outside_object (by decide) _)
  have signals := data.nat_eq (k := BANK.CAPTURE_SIGNALS (8 * d)) (outside_object (by decide) _)
  have stamp := data.nat_eq (k := BANK.TRIGGER_STAMP (8 * d)) (outside_object (by decide) _)
  unfold State.captureComplete
  rw [if_pos (by simp only [fills, all, decide_true, Bool.and_self])]
  simp only [owner, stamp, State.captureLength, signals]

/-- The families that the result of a calibration writes. -/
def calibrationFamilies : List Span :=
  [each CAL_AT, each2 CAL_DIFF, each2 CAL_GAIN, each2 CAL_OFFSET, each CHANNEL_STATUS.FLAGS, each BANK.BANK_FLAGS]

/-- The rotation goes on with the next of seventeen positions (R99). -/
theorem State.calibrationEnd_shows (runs : s.flag (CAL_PAUSED k) = false) (due : s.nat (CAL_POS_AT k) + 4096 ≤ s.time) :
    (s.calibrationEnd k gi oi gv ov).nat (CAL_POS k) = (s.nat (CAL_POS k) + 1) % 17 ∧
      (s.calibrationEnd k gi oi gv ov).nat (CAL_POS_AT k) = s.time := by
  unfold State.calibrationEnd
  rw [if_neg (by simp [runs, due])]
  extract_lets pos u judged next_
  have judges (x : State) (p : Nat) (gain offset : Int) : Leaves calibrationFamilies [.dieMsgs, .free] x (x.calJudge k u p gain offset) :=
    State.calJudge_leaves k u p gain offset (.refl x) (CAL_AT_wide (inSkip (CAL_DIFF_wide (inSkip (CAL_GAIN_wide (inSkip
      (CAL_OFFSET_wide (inSkip (CHANNEL_STATUS.FLAGS_wide inNil))))))))) fun _ h => h
  have calibrated : Leaves calibrationFamilies [.dieMsgs, .free] s judged :=
    State.showDegraded_leaves k (State.calClear_leaves u ((judges s 0 gi oi).trans (judges _ 1 gv ov))
      (inSkip (inSkip (inSkip (inSkip (CHANNEL_STATUS.FLAGS_wide inNil))))))
      (inSkip (inSkip (inSkip (inSkip (inSkip (BANK.BANK_FLAGS_wide inNil))))))
  have now := calibrated.time_eq
  have moved : next_.nat (CAL_POS k) = (s.nat (CAL_POS k) + 1) % 17 ∧ next_.nat (CAL_POS_AT k) = s.time := by
    refine ⟨(State.nat_setN_other _ ?_).trans (State.nat_setN_self _ _ _), (State.nat_setN_self _ _ _).trans now⟩
    simp only [CAL_POS, CAL_POS_AT, internal]
    omega
  have pause : Leaves [each CAL_PAUSED] [] next_ (if 2 ≤ next_.nat (THERMAL_DIE.DIE_STATE (k / 8 + 1)) then next_.setN (CAL_PAUSED k) 1
      else next_) := .ite (State.setN_leaves (.refl _) (covered_of (CAL_PAUSED_has k))) (.refl _)
  exact ⟨(pause.nat_eq (outside_internal (by decide) k)).trans moved.1, (pause.nat_eq (outside_internal (by decide) k)).trans moved.2⟩

end

/-- Settles O17: the trigger and the full buffer move the state of the capture, and each calibrated position the rotation. -/
theorem captureAndCalibration : Obligations.CaptureAndCalibration := by
  unfold Obligations.CaptureAndCalibration
  intro d k gi oi gv ov s
  refine ⟨fun armed fires => ⟨_, rfl, State.captureTrigger_shows armed fires⟩, fun fills full => ?_,
    fun runs due => ⟨_, rfl, State.calibrationEnd_shows runs due⟩⟩
  refine ⟨_, congrArg Host.Outcome.next (State.captureComplete_eq fills full), ?_, ?_, ?_⟩
  · rw [State.raiseDie_nat, State.setBlob_nat, State.nat_setN_self]
  · rw [State.blob, State.raiseDie_blobs]
    exact State.blob_setBlob_self _ _ _
  · push_cast
    have data := s.captured_stays d
    exact ((DieFollows.refl s).quiet data).raises d.isLt _ _ _ _ _

end Sys2Proof.Machine
end

section
/-!
SUPPORT. A channel die that stands: what its dies go on holding, and the standing of its channels.
-/
open Sys2Proof
namespace Sys2Proof.Machine

set_option Elab.async false

/-! ### What channel dies hold as channels turn off, ramp and stand -/

section
variable {r s : State}

theorem DieGrows.raise (h : DieGrows r s) (k : Kind) (site tenant obj : Nat) (fields : List (Nat × Int)) :
    DieGrows r (s.raise k site tenant obj fields) := h

theorem DieGrows.withdraw (h : DieGrows r s) (n : Nat) : DieGrows r (s.withdraw n) := ((h.set _ _).set _ _).set _ _

theorem DieGrows.turnOff (h : DieGrows r s) (n stage : Nat) : DieGrows r (s.turnOff n stage) :=
  ((((h.withdraw n).set _ _).set _ _).cellTo n _).set _ _

theorem DieGrows.requestOff (h : DieGrows r s) (n : Nat) : DieGrows r (s.requestOff n) := by
  unfold State.requestOff
  extract_lets s1
  have h1 : DieGrows r s1 := (h.set _ _).set _ _
  split
  case h_5 => exact (h1.turnOff n _).set _ _
  case h_7 => exact h1.withdraw n
  case h_8 => exact h1
  all_goals exact h1.turnOff n _

theorem DieGrows.swapAbort (h : DieGrows r s) (p result : Nat) : DieGrows r (s.swapAbort p result) := by
  unfold State.swapAbort
  extract_lets n s1 s2 s3
  have h2 : DieGrows r s2 := ((((h.set _ _).set _ _).set _ _).set _ _).set _ _
  have h3 : DieGrows r s3 := .ite h2 (.ite (h2.requestOff n) (h2.set _ _))
  exact h3.raise _ _ _ _ _

theorem DieGrows.swapDieStands (h : DieGrows r s) (d : Nat) : DieGrows r (s.swapDieStands d) := by
  unfold State.swapDieStands
  refine h.forBelow fun p x hx => .ite (.ite (.ite (hx.swapAbort p 5) ?_) (((hx.set _ _).set _ _).set _ _)) hx
  exact DieGrows.raise (((((((hx.set _ _).set _ _).set _ _).withdraw _).set _ _).set _ _)) _ _ _ _ _

theorem DieGrows.startRamp (h : DieGrows r s) (n : Nat) (gentle retry : Bool) : DieGrows r (s.startRamp n gentle retry) := by
  have readied : DieGrows r (s.rampReadied n retry) := by
    unfold State.rampReadied
    extract_lets s1 s2 s3 s4 s5
    have h5 : DieGrows r s5 := ((((((h.withdraw n).set _ _).set _ _).set _ _).set _ _).set _ _).set _ _
    exact .ite (h5.raiseDie _ _ _ _ _ _) h5
  rw [State.startRamp_eq]
  exact ((readied.set _ _).cellTo n _).quiet (State.lampStart_stays _ n)

theorem DieGrows.applyOrder (h : DieGrows r s) (n cause : Nat) : DieGrows r (s.applyOrder n cause) := by
  unfold State.applyOrder
  extract_lets order owed due s1 s2
  have h2 : DieGrows r s2 := (((h.set _ _).set _ _).set _ _).withdraw n
  split
  case h_1 => exact .ite (h2.set _ _) h2
  case h_6 => exact .ite (h2.turnOff n _) h2
  case h_7 => exact .ite (h2.turnOff n _) (.ite (h2.startRamp n _ _) h2)
  case h_8 => exact h2
  all_goals exact .ite (h2.turnOff n _) (h2.set _ _)

theorem DieGrows.standChannel (h : DieGrows r s) (n cause : Nat) : DieGrows r (s.standChannel n cause) :=
  .ite h ((DieGrows.applyOrder ((h.set _ _).set _ _) n cause |>.set _ _).showCell n)

theorem DieGrows.safeOnNext (h : DieGrows r s) (k : Nat) : DieGrows r (s.safeOnNext k) := by
  unfold State.safeOnNext
  split
  · exact h
  · exact .ite h (((h.set _ _).startRamp _ _ _).raiseDie _ _ _ _ _ _)

theorem DieGrows.standDie (h : DieGrows r s) (d cause : Nat) : DieGrows r (s.standDie d cause) := by
  unfold State.standDie
  extract_lets s1 s2 on s3
  have h3 : DieGrows r s3 := ((h.swapDieStands d).forEach fun n x hx => hx.standChannel n cause).raiseDie _ _ _ _ _ _
  exact .ite (h.set _ _) (h3.forBelow fun b x hx => hx.safeOnNext _)

end

/-! ### Standing (R112, R113) -/

/-- What an element of a list establishes and all of them keep, holds after the list. -/
theorem forEach_reaches {α : Type} {l : List α} {f : α → State → State} {P : State → Prop} {s : State} {a : α} (ha : a ∈ l)
    (here : ∀ x, P (f a x)) (after : ∀ b ∈ l, ∀ x, P x → P (f b x)) : P (forEach l f s) := by
  induction l generalizing s with
  | nil => cases ha
  | cons c l ih =>
    have keep : ∀ b ∈ l, ∀ x, P x → P (f b x) := fun b hb => after b (List.mem_cons_of_mem _ hb)
    obtain rfl | ha := List.mem_cons.1 ha
    · show P (forEach l f (f a s))
      exact forEach_induct (here s) keep
    · exact ih ha keep

/-- The families that a channel writes under its standing order. -/
def orderFamilies : List Span :=
  [each ADMIT_KIND, each BANK.BANK_FLAGS, each BLANK_UNTIL, each CELL, each CHANNEL_PROTECTION.MODEL_FLAGS, each CHANNEL_STATUS.FLAGS,
    each CHANNEL_STATUS.STANDING_GATE, each CHANNEL_STATUS.STATE, each CHANNEL_SUPERVISION.RETRIES, each CHANNEL_SUPERVISION.STARTS,
    each GATE, each LAMP_AT, each LAMP_LOW, each LAMP_TOLD, each LATCH, each LIMIT_EPISODE, each LIMIT_LEFT, each LIMIT_SINCE,
    each LIMIT_SPENT, each ND_GROUP, each PEND, each PUMP_START, each PUMP_STOP_AT, each PWM_HIGH, each RAMP_RETRY, each RAMP_START,
    each RESET_OUTPUT.ASSERT_COUNT, each RESET_OUTPUT.LAST_CHANGE_STAMP, each RESET_OUTPUT.OUTPUT, each RSO_GOOD_SINCE, each RUN_SINCE,
    each RUN_SPENT, each SAFE_WAIT, each START_AT, each STORED_WAIT, each WIN]

/-- The families that a die writes as it stands. -/
def standFamilies : List Span :=
  [each ADMIT_KIND, each BANK.BANK_FLAGS, each BLANK_UNTIL, each CASTLING_PAIR.SWAP_RESULT, each CASTLING_PAIR.SWAP_STATE, each CELL,
    each CHANNEL_CONFIG.REQUEST, each CHANNEL_PROTECTION.MODEL_FLAGS, each CHANNEL_STATUS.FLAGS, each CHANNEL_STATUS.STANDING_CAUSE,
    each CHANNEL_STATUS.STANDING_GATE, each CHANNEL_STATUS.STATE, each CHANNEL_SUPERVISION.RETRIES, each CHANNEL_SUPERVISION.STARTS,
    each FOLD_WAIT, each GATE, each LAMP_AT, each LAMP_LOW, each LAMP_TOLD, each LATCH, each LIMIT_EPISODE, each LIMIT_LEFT,
    each LIMIT_SINCE, each LIMIT_SPENT, each ND_GROUP, each PEND, each PUMP_START, each PUMP_STOP_AT, each PWM_HIGH, each RAMP_RETRY,
    each RAMP_START, each RESET_OUTPUT.ASSERT_COUNT, each RESET_OUTPUT.LAST_CHANGE_STAMP, each RESET_OUTPUT.OUTPUT, each RSO_GOOD_SINCE,
    each RUN_SINCE, each RUN_SPENT, each SAFE_WAIT, each STAND_ENTRY, each STAND_EVENTS, each STAND_TRIGGERS, each START_AT,
    each STORED_WAIT, each SWAP_IN, each TRIP_STATE, each WIN, (each fun n => inForce (CHANNEL_CONFIG.REQUEST n))]

section
variable {d n m cause : Nat} {s : State}

theorem State.applyOrder_stays (s : State) (n cause : Nat) :
    Leaves orderFamilies [.collector, .dieMsgs, .staged] s (s.applyOrder n cause) :=
  State.applyOrder_leaves n cause (.refl s)
      (ADMIT_KIND_wide (inSkip (BANK.BANK_FLAGS_wide (inSkip (BLANK_UNTIL_wide (inSkip (CELL_wide (inSkip
    (CHANNEL_PROTECTION.MODEL_FLAGS_wide (inSkip (CHANNEL_STATUS.FLAGS_wide (inSkip (CHANNEL_STATUS.STANDING_GATE_wide (inSkip
    (CHANNEL_STATUS.STATE_wide (inSkip (CHANNEL_SUPERVISION.RETRIES_wide (inSkip (CHANNEL_SUPERVISION.STARTS_wide (inSkip (GATE_wide
    (inSkip (LAMP_AT_wide (inSkip (LAMP_LOW_wide (inSkip (LAMP_TOLD_wide (inSkip (LATCH_wide (inSkip (LIMIT_EPISODE_wide (inSkip
    (LIMIT_LEFT_wide (inSkip (LIMIT_SINCE_wide (inSkip (LIMIT_SPENT_wide (inSkip (ND_GROUP_wide (inSkip (PEND_wide (inSkip
    (PUMP_START_wide (inSkip (PUMP_STOP_AT_wide (inSkip (PWM_HIGH_wide (inSkip (RAMP_RETRY_wide (inSkip (RAMP_START_wide (inSkip
    (inBoth (inBoth (inBoth (inBoth (RUN_SINCE_wide (inSkip (RUN_SPENT_wide (inSkip (SAFE_WAIT_wide (inSkip (START_AT_wide (inSkip
    (STORED_WAIT_wide (inSkip (WIN_wide inNil))))))))))))))))))))))))))))))))))))))))))))))))))))))))))))))))))) fun _ h => h

theorem State.safeOnNext_stays (s : State) (k : Nat) : Leaves orderFamilies [.collector, .dieMsgs] s (s.safeOnNext k) :=
  State.safeOnNext_leaves k (.refl s)
    (inBoth (inBoth (inBoth (inBoth (inBoth (inBoth (inBoth (inBoth (inBoth (inBoth (inBoth (inBoth (inBoth (inBoth (inBoth (inBoth
    (inBoth (inBoth (inBoth (inBoth (inSkip (inBoth (inBoth (inSkip (inBoth (inBoth (inBoth (inBoth (inBoth (inBoth (inBoth (inBoth
    (inBoth (inBoth (inSkip (inBoth inNil)))))))))))))))))))))))))))))))))))) fun _ h => h

theorem State.standDie_stays (s : State) (d cause : Nat) :
    Leaves standFamilies [.collector, .dieMsgs, .staged] s (s.standDie d cause) :=
  State.standDie_leaves d cause (.refl s)
      (inBoth (inBoth (inBoth (inBoth (inBoth (inBoth (inBoth (inBoth (inBoth (inBoth (inBoth (inBoth (inBoth (inBoth (inBoth
    (inBoth (inBoth (inBoth (inBoth (inBoth (inBoth (inBoth (inBoth (inBoth (inBoth (inBoth (inBoth (inBoth (inBoth (inBoth (inBoth
    (inBoth (inBoth (inBoth (inBoth (inBoth (inBoth (inBoth (inBoth (inBoth (STAND_TRIGGERS_wide (inSkip (inBoth (inBoth (inBoth
    (inBoth (inBoth (inBoth inNil)))))))))))))))))))))))))))))))))))))))))))))))) fun _ h => h

/-- What writes no STANDING_CAUSE leaves the standing of a channel. -/
theorem Leaves.standing_eq {W : List Span} {L : List Part} {r t : State} (h : Leaves W L r t)
    (hW : apart [256] 12 W = true := by decide) : t.standing n = r.standing n := by
  rw [State.standing, h.nat_eq (outside_object hW _), State.standing]

/-- A channel stands with a cause. -/
theorem State.standing_setN_cause (s : State) (n : Nat) (h : cause ≠ 0) :
    (s.setN (CHANNEL_STATUS.STANDING_CAUSE n) cause).standing n = true := by
  simp [State.standing, h]

/-- A channel that stands goes on standing as another one does. -/
theorem State.standChannel_keeps_standing (m : Nat) (hc : cause ≠ 0) (h : s.standing n = true) :
    (s.standChannel m cause).standing n = true := by
  unfold State.standChannel
  split
  · exact h
  extract_lets entry s1
  rw [(State.showCell_stays _ m).standing_eq]
  by_cases hm : m = n
  · subst hm
    exact State.standing_setN_cause _ _ hc
  · have entered : Leaves [each STAND_ENTRY, each STAND_EVENTS] [] s ((s.setN (STAND_ENTRY m) entry).setN (STAND_EVENTS m) 0) :=
      State.setN_leaves (State.setN_leaves (.refl s) (covered_of (STAND_ENTRY_has m))) (covered_of (STAND_EVENTS_has m))
    rw [State.standing, State.nat_setN_other]
    · exact ((State.applyOrder_stays _ m cause).standing_eq).trans (entered.standing_eq.trans h)
    · simp only [CHANNEL_STATUS.STANDING_CAUSE]
      omega

/-- A channel that is to stand does. -/
theorem State.standChannel_standing (s : State) (n : Nat) (hc : cause ≠ 0) : (s.standChannel n cause).standing n = true := by
  unfold State.standChannel
  split
  · assumption
  · rw [(State.showCell_stays _ n).standing_eq]
    exact State.standing_setN_cause _ _ hc

/-- Every channel of a die that stands, stands (R113). -/
theorem State.standDie_standing (s : State) (hc : cause ≠ 0) (hn : dieOf n = d) : (s.standDie d cause).standing n = true := by
  have mem : n ∈ dieChannels d := mem_dieChannels.2 hn
  unfold State.standDie
  split
  next all =>
    have counted : Leaves [each STAND_TRIGGERS] [] s (s.count (STAND_TRIGGERS d) 0xFFFF) :=
      State.count_leaves (.refl s) (covered_of (STAND_TRIGGERS_has d))
    exact counted.standing_eq.trans (List.all_eq_true.1 all n mem)
  next =>
    extract_lets s1 s2 on s3
    have stands : s2.standing n = true := forEach_reaches (P := fun x => x.standing n = true) mem
      (fun x => x.standChannel_standing n hc) fun m _ x => State.standChannel_keeps_standing m hc
    have ramps : Leaves orderFamilies [.collector, .dieMsgs] s3 (forBelow 8 (fun b s => s.safeOnNext (8 * d + b)) s3) :=
      forBelow_leaves (.refl s3) fun b x hx => hx.trans (x.safeOnNext_stays _)
    have told : s3.standing n = s2.standing n := by simp only [s3, State.standing, State.raiseDie_nat]
    exact ramps.standing_eq.trans (told.trans stands)

/-- No time passes as a die stands. -/
theorem State.standDie_follows (s : State) (d cause : Nat) : DieFollows s (s.standDie d cause) :=
  .of_leaves (s.standDie_stays d cause) (.standDie (.refl s) d cause)

end

end Sys2Proof.Machine
end

section
/-!
SUPPORT. The reset of a channel die (R267): what its channels, its controls and its switches become, and what stays.
-/
open Sys2Proof
namespace Sys2Proof.Machine

set_option Elab.async false

/-- The families that a reset of the logic of its die writes of a channel. -/
def logicResetFamilies : List Span :=
  [each ADMIT_KIND, each CAL_AT, each CHANNEL_PROTECTION.MODEL_FLAGS, each CHANNEL_STATUS.FLAGS,
    each CHANNEL_SUPERVISION.DISCHARGE_TIMEOUTS, each CHANNEL_SUPERVISION.HARD_TRIPS, each CHANNEL_SUPERVISION.LIMIT_ENTRIES,
    each CHANNEL_SUPERVISION.MODEL_TRIPS, each CHANNEL_SUPERVISION.OV_COUNT, each CHANNEL_SUPERVISION.RETRIES,
    each CHANNEL_SUPERVISION.STARTS, each CHANNEL_SUPERVISION.TIMEOUT_TRIPS, each CHANNEL_SUPERVISION.UV_COUNT, each FET1, each FET2,
    each FET_NOW, each FRAMES_SEEN, each LIMIT_EPISODE, each PEND, each PWM_HIGH, each RUN_SPENT, each SAFE_WAIT, each START_AT,
    each STORED_WAIT, each WIRE1, each WIRE2, each WIRE_NOW]

theorem State.channelLogicReset_stays (s : State) (n : Nat) (warm : Bool) :
    Leaves logicResetFamilies [] s (s.channelLogicReset n warm) :=
  State.channelLogicReset_leaves n warm (.refl s)
      (ADMIT_KIND_wide (inSkip (CAL_AT_wide (inSkip (CHANNEL_PROTECTION.MODEL_FLAGS_wide (inSkip (CHANNEL_STATUS.FLAGS_wide (inSkip
    (CHANNEL_SUPERVISION.DISCHARGE_TIMEOUTS_wide (inSkip (CHANNEL_SUPERVISION.HARD_TRIPS_wide (inSkip
    (CHANNEL_SUPERVISION.LIMIT_ENTRIES_wide (inSkip (CHANNEL_SUPERVISION.MODEL_TRIPS_wide (inSkip (CHANNEL_SUPERVISION.OV_COUNT_wide
    (inSkip (CHANNEL_SUPERVISION.RETRIES_wide (inSkip (CHANNEL_SUPERVISION.STARTS_wide (inSkip
    (CHANNEL_SUPERVISION.TIMEOUT_TRIPS_wide (inSkip (CHANNEL_SUPERVISION.UV_COUNT_wide (inSkip (FET1_wide (inSkip (FET2_wide (inSkip
    (FET_NOW_wide (inSkip (FRAMES_SEEN_wide (inSkip (LIMIT_EPISODE_wide (inSkip (PEND_wide (inSkip (PWM_HIGH_wide (inSkip
    (RUN_SPENT_wide (inSkip (SAFE_WAIT_wide (inSkip (START_AT_wide (inSkip (STORED_WAIT_wide (inSkip (WIRE1_wide (inSkip (WIRE2_wide
    (inSkip (WIRE_NOW_wide inNil)))))))))))))))))))))))))))))))))))))))))))))))))))))

/-- A channel of a die that resets comes out of it on as a kept latch, or off. -/
def State.channelAnew (s : State) (kept : List Nat) (n : Nat) : State :=
  let on := isAnchored n && kept.contains n && s.flag (LATCH n)
  let s := s.channelLogicReset n (isAnchored n)
  let s := (s.setN (CHANNEL_STATUS.STANDING_CAUSE n) 0).cellTo n (if on then ST.ON else ST.OFF)
  if on then s.setN (GATE n) 2 else s

/-- No time passes in it. -/
theorem State.channelAnew_follows (s : State) (kept : List Nat) (n : Nat) : DieFollows s (s.channelAnew kept n) := by
  unfold State.channelAnew
  extract_lets on s1 s2
  have h1 : DieFollows s s1 := (DieFollows.refl s).quiet (s.channelLogicReset_stays n _)
  have caused : Leaves [each CHANNEL_STATUS.STANDING_CAUSE] [] s1 (s1.setN (CHANNEL_STATUS.STANDING_CAUSE n) 0) :=
    State.setN_leaves (.refl s1) (covered_of (CHANNEL_STATUS.STANDING_CAUSE_has n))
  have h2 : DieFollows s s2 := (h1.quiet caused).trans (.of_leaves (State.cellTo_stays _ n _) (.cellTo (.refl _) n _))
  have gate : Leaves [each GATE] [] s2 (s2.setN (GATE n) 2) := State.setN_leaves (.refl s2) (covered_of (GATE_has n))
  split
  · exact h2.quiet gate
  · exact h2

/-- The values of a die are held from 0x300000 on. -/
theorem SendKey.not_held {k d : Nat} (h : SendKey k) (low : k < 2 ^ 24) : heldDie k ≠ some d := by
  obtain h | ⟨i, rfl⟩ := h
  · unfold heldDie
    extract_lets i j
    have below : i < 0x3000 := by
      simp only [i]
      omega
    have none (lo hi : Nat) (hlo : 0x3000 ≤ lo) : ¬(decide (lo ≤ i) && decide (i < hi)) = true := by
      simp only [Bool.and_eq_true, decide_eq_true_eq]
      omega
    rw [if_neg (none _ _ (by omega)), if_neg (none _ _ (by omega)), if_neg (none _ _ (by omega)), if_neg (none _ _ (by omega))]
    exact nofun
  · simp only [DIE_OFFSET, internal] at low
    omega

/-- Values that a die holds go to their reset values. -/
theorem State.restores_follows (s : State) (d : Nat) {l : List (Nat × Int)} (h : ∀ p ∈ l, p.1 < 2 ^ 24 ∧ heldDie p.1 = some d) :
    DieFollows s (forEach l (fun p s => s.restore p.1) s) := by
  refine (DieFollows.refl s).forEach fun p hp x => ⟨rfl, fun k hk => State.get_set_other _ _ _ _ ?_, (DieGrows.refl x).set _ _⟩
  rintro rfl
  exact hk.not_held (h p hp).1 (h p hp).2

/-! ### The switches (R222, R242) -/

theorem DieGrows.swTo {r s : State} (h : DieGrows r s) (mode cause : Nat) : DieGrows r (s.swTo mode cause) := by
  unfold State.swTo
  extract_lets before s1 s2 s3 s4
  have h2 : DieGrows r s2 := .ite (((h.set _ _).set _ _).set _ _) ((h.set _ _).set _ _)
  have h3 : DieGrows r s3 := .ite (h2.set _ _) h2
  have h4 : DieGrows r s4 := .ite (h3.set _ _) h3
  exact .ite h2 (h4.raiseDie _ _ _ _ _ _)

theorem State.swNoClosed_follows (s : State) : DieFollows s s.swNoClosed :=
  .of_leaves (State.swNoClosed_leaves (.refl s) .refl fun _ h => h) (.ite ((DieGrows.refl s).swTo 1 0) (.refl s))

theorem State.asDrop_stays (s : State) : Leaves [one ASSIST_STATUS.ASSIST_STATE, one AS_CLOSED, one AS_END, one AS_TIME,
    each CONVERTER_STATUS.CONV_FLAGS, each OVR_END, each OVR_ON] [] s s.asDrop :=
  State.asDrop_leaves (.refl s) (inBoth (inBoth (inBoth (inBoth (CONVERTER_STATUS.CONV_FLAGS_wide (inSkip (OVR_END_wide (inSkip
    (OVR_ON_wide inNil)))))))))

/-! ### The reset -/

/-- The values that the control die holds for the channels of die d. -/
def State.dieControl (s : State) (d : Nat) : List (Nat × Int) :=
  s.control.regs.filter fun p => p.1 < 2 ^ 24 && heldDie p.1 == some d && objectOnDie p.1

theorem State.dieControl_held (s : State) {d : Nat} {p : Nat × Int} (h : p ∈ s.dieControl d) : p.1 < 2 ^ 24 ∧ heldDie p.1 = some d := by
  have held := (List.mem_filter.1 h).2
  simp only [Bool.and_eq_true, decide_eq_true_eq, beq_iff_eq] at held
  exact held.1

/-- Die d anew, before it stands: its channels, its controls, its capture and the switches that lean on it. -/
def State.dieAnew (s : State) (d : Nat) : State :=
  let control := s.dieControl d
  let kept : List Nat := if d = 0 then profileChannels s.profile else []
  let s := forEach control (fun p s => s.restore p.1) (forEach (dieChannels d) (fun n s => s.channelAnew kept n) s)
  let s := (s.setN (BANK.CAPTURE_STATE (8 * d)) 0).setBlob (BANK.CAPTURE_DATA (8 * d)) []
  let others := s.late.filter fun (x : LateSet) => x.die != d
  let s : State := { s with late := if control = [] then others else others ++ [⟨d, control⟩] }
  (if d = 0 then s.asDrop else s).swNoClosed

/-- The reset of die d is counted, shadowed and told. -/
def State.dieTold (s : State) (d site : Nat) : State :=
  ((s.count RESET_CAUSE.CHANNEL_DIE_RESETS 0xFFFF).openShadow 8 d (s.stamp + 1000)).raiseDie d .CHANNEL_DIE_RESET (siteDie d 0xE0) 0 0
    [f8 (d + 1), f32 site]

theorem State.channelDieReset_eq (s : State) (d site : Nat) :
    s.channelDieReset d site = ((s.dieAnew d).standDie d 4).dieTold d site := rfl

/-- No time passes as a die resets. -/
theorem State.dieAnew_follows (s : State) (d : Nat) : DieFollows s (s.dieAnew d) := by
  unfold State.dieAnew
  extract_lets control kept s1 s2 others s3
  have h1 : DieFollows s s1 := ((DieFollows.refl s).forEach fun n _ x => x.channelAnew_follows kept n).trans
    (State.restores_follows _ d fun p hp => s.dieControl_held hp)
  have capture : Leaves [each BANK.CAPTURE_STATE, each BANK.CAPTURE_DATA] [] s1 s2 :=
    State.setBlob_leaves (State.setN_leaves (.refl s1) (covered_of (captureState_has _))) (covered_of (captureData_has _))
  have h3 : DieFollows s s3 := (h1.quiet capture).trans ⟨rfl, fun _ _ => rfl, .refl _⟩
  split
  · exact (h3.quiet s3.asDrop_stays).trans (State.swNoClosed_follows _)
  · exact h3.trans s3.swNoClosed_follows

theorem State.dieStands_follows (s : State) (d : Nat) : DieFollows s ((s.dieAnew d).standDie d 4) :=
  (s.dieAnew_follows d).trans (State.standDie_follows _ d 4)

/-- A reset of a channel die is counted. -/
theorem State.channelDieReset_counted (s : State) (d site : Nat) : (s.channelDieReset d site).nat RESET_CAUSE.CHANNEL_DIE_RESETS =
    satTo 0xFFFF (s.nat RESET_CAUSE.CHANNEL_DIE_RESETS + 1) := by
  have before : ((s.dieAnew d).standDie d 4).nat RESET_CAUSE.CHANNEL_DIE_RESETS = s.nat RESET_CAUSE.CHANNEL_DIE_RESETS := by
    rw [State.nat, (s.dieStands_follows d).regs _ (.inl (by decide)), State.nat]
  rw [State.channelDieReset_eq, State.dieTold, State.raiseDie_nat, State.openShadow_nat, State.nat_count_self, before]

/-- Its channels stand. -/
theorem State.channelDieReset_standing (s : State) {n d : Nat} (site : Nat) (hn : dieOf n = d) :
    (s.channelDieReset d site).standing n = true := by
  have counted : Leaves [one RESET_CAUSE.CHANNEL_DIE_RESETS] [] ((s.dieAnew d).standDie d 4)
      (((s.dieAnew d).standDie d 4).count RESET_CAUSE.CHANNEL_DIE_RESETS 0xFFFF) := State.count_leaves (.refl _) .here
  rw [State.channelDieReset_eq, State.dieTold, State.standing, State.raiseDie_nat, State.openShadow_nat, ← State.standing,
    counted.standing_eq]
  exact State.standDie_standing _ (by decide) hn

/-- The counter of its resets is no part of how a die stamps and sends. -/
theorem State.dieTold_dieMsgs (s : State) (d site : Nat) : (s.dieTold d site).dieMsgs =
    (s.raiseDie d .CHANNEL_DIE_RESET (siteDie d 0xE0) 0 0 [f8 (d + 1), f32 site]).dieMsgs := by
  have counted : Leaves [one RESET_CAUSE.CHANNEL_DIE_RESETS] [.shadows] s
      ((s.count RESET_CAUSE.CHANNEL_DIE_RESETS 0xFFFF).openShadow 8 d (s.stamp + 1000)) :=
    State.openShadow_leaves 8 d _ (State.count_leaves (.refl _) .here) fun _ h => h
  have now : (((s.count RESET_CAUSE.CHANNEL_DIE_RESETS 0xFFFF).openShadow 8 d (s.stamp + 1000))).stampOn d = s.stampOn d := by
    rw [State.stampOn, counted.get_eq (outside_one ?_ (outside_none _)),
      counted.time_eq, State.stampOn]
    simp only [DIE_OFFSET, RESET_CAUSE.CHANNEL_DIE_RESETS, internal]
    omega
  have up : (((s.count RESET_CAUSE.CHANNEL_DIE_RESETS 0xFFFF).openShadow 8 d (s.stamp + 1000))).linkUp d = s.linkUp d := by
    rw [State.linkUp, counted.nat_eq (outside_one ?_ (outside_none _)), State.linkUp]
    simp only [AMLOR_LINK.LINK_STATE, RESET_CAUSE.CHANNEL_DIE_RESETS]
    omega
  rw [State.dieTold, State.raiseDie_dieMsgs, State.raiseDie_dieMsgs, now, up]
  rfl

/-- And the die says so, stamped as the die stamps before its reset. -/
theorem State.channelDieReset_raises (s : State) {d : Nat} (hd : d < 4) (site : Nat) :
    DieRaises s (s.channelDieReset d site) d .CHANNEL_DIE_RESET (siteDie d 0xE0) 0 [f8 (d + 1), f32 site] := by
  rw [State.channelDieReset_eq]
  have told := (s.dieStands_follows d).raises hd .CHANNEL_DIE_RESET (siteDie d 0xE0) 0 0 [f8 (d + 1), f32 site]
  unfold DieRaises at told ⊢
  rwa [State.dieTold_dieMsgs]

end Sys2Proof.Machine
end

section
/-!
SUPPORT. A full reset: what it keeps, the cause that it shows, and the logic that it takes from every die (R266, R269).
-/
open Sys2Proof
namespace Sys2Proof.Machine

set_option Elab.async false

/-! ### What a reset keeps (R269) -/

theorem lookupKey_filter {α : Type} {p : Nat → Bool} {k : Nat} (hk : p k = true) (l : List (Nat × α)) :
    lookupKey (l.filter fun x => p x.1) k = lookupKey l k := by
  induction l with
  | nil => rfl
  | cons x l ih =>
    obtain ⟨j, v⟩ := x
    by_cases hj : j = k
    · subst hj
      simp [hk, lookupKey]
    · by_cases pj : p j = true <;> simp [pj, lookupKey, hj, ih]

section
variable {s t : State} {k d n : Nat}

/-- A full reset keeps what is to be kept, but for the flags of the channels. -/
theorem State.clearAll_get (s : State) (kept : keptKey true false k = true) (hk : Outside [each CHANNEL_STATUS.FLAGS] k) :
    (s.clearAll true).get k = s.get k := by
  have regs : (s.clearAll true).regs = (s.wipe true false).regs := by simp only [State.clearAll]
  rw [State.get, regs, ← State.get]
  unfold State.wipe
  extract_lets late s1 marked
  have flags : Leaves [each CHANNEL_STATUS.FLAGS] [] s1 (forEach marked (fun n s =>
      (s.setChFlag n FLAG.WAITING_ADMISSION false).setChFlag n FLAG.KEPT_SETTINGS false) s1) :=
    forEach_leaves (.refl s1) fun n x hx => State.setBit_leaves (State.setBit_leaves hx (covered_of (CHANNEL_STATUS.FLAGS_has n)))
      (covered_of (CHANNEL_STATUS.FLAGS_has n))
  rw [flags.get_eq hk]
  simp only [s1, State.get, lookupKey_filter kept]

theorem keptKey_resetFull : keptKey true false RESET_FULL = true := by decide

/-! ### The cause of a reset (R266) -/

/-- The lowest cause of a mask, or 13 where it is among them. -/
def causeIn (seen : Nat) : Nat :=
  if seen.testBit 12 then 13 else (((List.range 12).find? fun b => seen.testBit b).getD 0) + 1

theorem State.causeOf_eq (s : State) : s.causeOf = causeIn (s.nat RESET_CAUSE.CAUSES_SEEN) := rfl

/-- What the reset block shows of a full reset by a cause, with the logic of every die off. -/
structure ResetShows (t : State) (d cause : Nat) : Prop where
  full : t.flag RESET_FULL = true
  off : t.flag (LOGIC_OFF d) = true
  last : t.nat RESET_CAUSE.LAST_CAUSE = cause
  kind : t.nat RESET_CAUSE.LAST_KIND = 1

theorem State.addCause_stays (s : State) (cause site : Nat) : Leaves [one RESET_CAUSE.CAUSES_SEEN, one RESET_CAUSE.CAUSE_SITE,
    one RESET_CAUSE.LAST_CAUSE, one RESET_CAUSE.LAST_KIND, one RESET_UNTIL] [] s (s.addCause cause site) :=
  State.addCause_leaves cause site (.refl s) .refl

/-- A cause that is added to a full reset shows with those seen before. -/
theorem State.addCause_shows (s : State) (cause site : Nat) (full : s.flag RESET_FULL = true) (off : s.flag (LOGIC_OFF d) = true) :
    ResetShows (s.addCause cause site) d (causeIn (putBit (s.nat RESET_CAUSE.CAUSES_SEEN) (cause - 1) true)) := by
  have stays := s.addCause_stays cause site
  refine ⟨(stays.flag_eq (outside_of_clears (by decide))).trans full, (stays.flag_eq ?_).trans off, ?_, ?_⟩
  · exact outside_internal (by decide) d
  · unfold State.addCause
    extract_lets s1 c s2
    have seen : s1.nat RESET_CAUSE.CAUSES_SEEN = putBit (s.nat RESET_CAUSE.CAUSES_SEEN) (cause - 1) true :=
      (State.nat_setN_other _ (by decide)).trans (State.nat_setN_self _ _ _)
    rw [State.nat_setN_other _ (by decide), State.nat_setN_self, ← seen]
    exact s1.causeOf_eq
  · unfold State.addCause
    extract_lets s1 c s2
    have site : Leaves [one RESET_CAUSE.CAUSES_SEEN, one RESET_UNTIL, one RESET_CAUSE.CAUSE_SITE] [] s s2 := by
      have h1 : Leaves [one RESET_CAUSE.CAUSES_SEEN, one RESET_UNTIL, one RESET_CAUSE.CAUSE_SITE] [] s s1 :=
        State.setN_leaves (State.setBit_leaves (.refl s) .here) (.next .here)
      exact .ite (State.setN_leaves h1 (.next (.next .here))) h1
    rw [State.nat_setN_self, site.flag_eq (outside_of_clears (by decide)), full]
    rfl

/-- It is seen. -/
theorem State.addCause_seen (s : State) (cause site : Nat) : (s.addCause cause site).nat RESET_CAUSE.CAUSES_SEEN =
    putBit (s.nat RESET_CAUSE.CAUSES_SEEN) (cause - 1) true := by
  unfold State.addCause
  extract_lets s1 c s2
  have site : Leaves [one RESET_UNTIL, one RESET_CAUSE.CAUSE_SITE, one RESET_CAUSE.LAST_CAUSE, one RESET_CAUSE.LAST_KIND] []
      (s.setBit RESET_CAUSE.CAUSES_SEEN (cause - 1) true)
      ((s2.setN RESET_CAUSE.LAST_CAUSE c).setN RESET_CAUSE.LAST_KIND (if s2.flag RESET_FULL then 1 else 2)) := by
    have h1 : Leaves [one RESET_UNTIL, one RESET_CAUSE.CAUSE_SITE, one RESET_CAUSE.LAST_CAUSE, one RESET_CAUSE.LAST_KIND] []
        (s.setBit RESET_CAUSE.CAUSES_SEEN (cause - 1) true) s1 := State.setN_leaves (.refl _) .here
    have h2 : Leaves [one RESET_UNTIL, one RESET_CAUSE.CAUSE_SITE, one RESET_CAUSE.LAST_CAUSE, one RESET_CAUSE.LAST_KIND] []
        (s.setBit RESET_CAUSE.CAUSES_SEEN (cause - 1) true) s2 := .ite (State.setN_leaves h1 (.next .here)) h1
    exact State.setN_leaves (State.setN_leaves h2 (.next (.next .here))) (.next (.next (.next .here)))
  exact (site.nat_eq (outside_of_clears (by decide))).trans (State.nat_setN_self _ _ _)

theorem ResetShows.of_leaves {W : List Span} {L : List Part} {cause : Nat} (h : ResetShows s d cause) (l : Leaves W L s t)
    (off : apart [256, 2 ^ 20] (LOGIC_OFF 0) W = true := by decide)
    (const : ([RESET_FULL, RESET_CAUSE.LAST_CAUSE, RESET_CAUSE.LAST_KIND].all fun k => clears k W) = true := by decide) :
    ResetShows t d cause := by
  simp only [List.all_cons, List.all_nil, Bool.and_true, Bool.and_eq_true] at const
  obtain ⟨full, last, kind⟩ := const
  exact ⟨(l.flag_eq (outside_of_clears full)).trans h.full, (l.flag_eq (outside_internal off d)).trans h.off,
    (l.nat_eq (outside_of_clears last)).trans h.last, (l.nat_eq (outside_of_clears kind)).trans h.kind⟩

/-- The dies lose their logic (R118) without a change of the kind of the reset. -/
theorem State.logicFails_full (s : State) (d : Nat) : (s.logicFails d).flag RESET_FULL = s.flag RESET_FULL := by
  refine (State.logicFails_leaves (L := []) d (.refl s) .refl).flag_eq ?_
  simp only [outside_cons, outside_nil, and_true, ADMIT_KIND, BANK.BANK_FLAGS, CELL, CHANNEL_PROTECTION.MODEL_FLAGS,
    CHANNEL_STATUS.FLAGS, GATE, HEART_LOST, LATCH, LATCH_PULLED, LOGIC_OFF, LOGIC_OFF_AT, PEND, PUMP_START, PUMP_STOP_AT, PWM_HIGH,
    SAFE_WAIT, START_AT, STORED_WAIT, RESET_FULL, internal]
  and_intros <;> intros <;> omega

/-- What a full reset notes of die d: its logic is off, since now. -/
def State.noLogic (s : State) (d : Nat) : State := (s.setN (LOGIC_OFF d) 1).setN (LOGIC_OFF_AT d) s.time

theorem State.noLogic_off (s : State) (d : Nat) : (s.noLogic d).flag (LOGIC_OFF d) = true := by
  rw [State.noLogic, State.flag_setN_other, State.flag_setN_self]
  · rfl
  · simp only [LOGIC_OFF, LOGIC_OFF_AT, internal]
    omega

theorem State.noLogic_keeps (s : State) (hk : k = RESET_FULL ∨ ∃ i, k = LOGIC_OFF i ∧ i ≠ d) : (s.noLogic d).flag k = s.flag k := by
  rw [State.noLogic, State.flag_setN_other, State.flag_setN_other]
  all_goals
    obtain rfl | ⟨i, rfl, hi⟩ := hk <;> simp only [RESET_FULL, LOGIC_OFF, LOGIC_OFF_AT, internal] <;> omega

/-- A full reset takes the logic of every die (R269), and is one still. -/
theorem State.diesOff_shows (s : State) (absent : Bool) (hd : d < 4) (full : s.flag RESET_FULL = true) :
    (s.diesOff absent).flag RESET_FULL = true ∧ (s.diesOff absent).flag (LOGIC_OFF d) = true := by
  unfold State.diesOff
  extract_lets s1 kept s2 s3
  have h1 : s1.flag RESET_FULL = true := by
    rw [show s1.flag RESET_FULL = _ from State.flag_setN_other _ (by decide)]
    exact forBelow_induct full fun i _ x hx => (x.logicFails_full i).trans hx
  have h2 : s2.flag RESET_FULL = true := by
    have keeps : Outside [each CHANNEL_STATUS.FLAGS] RESET_FULL := outside_internal (by decide) 0
    exact (s1.flag_eq (s1.clearAll_get keptKey_resetFull keeps)).trans h1
  have h3 : s3.flag RESET_FULL = true := forBelow_induct (P := fun x => x.flag RESET_FULL = true) h2 fun i _ x hx =>
    (x.noLogic_keeps (d := i) (.inl rfl)).trans hx
  have off : s3.flag (LOGIC_OFF d) = true := by
    refine forEach_reaches (P := fun x => x.flag (LOGIC_OFF d) = true) (List.mem_range.2 hd) (fun x => x.noLogic_off d)
      fun i _ x hx => ?_
    by_cases hi : d = i
    · subst hi
      exact x.noLogic_off d
    · exact (x.noLogic_keeps (.inr ⟨d, rfl, hi⟩)).trans hx
  have latched : Leaves [each LATCH, each CELL, each GATE] [] s3
      (forEach kept (fun n s => ((s.setN (LATCH n) 1).setN (CELL n) ST.ON).setN (GATE n) 2) s3) :=
    forEach_leaves (.refl s3) fun n x hx => State.setN_leaves (State.setN_leaves (State.setN_leaves hx (covered_of (LATCH_has n)))
      (covered_of (CELL_has n))) (covered_of (GATE_has n))
  exact ⟨(latched.flag_eq (outside_of_clears (by decide))).trans h3, (latched.flag_eq (outside_internal (by decide) d)).trans off⟩

/-- VBAT that goes begins a full reset by cause 1 (R263). -/
theorem State.resetBegin_vbat (s : State) (live : s.live = true) (hd : d < 4) :
    ResetShows (s.resetBegin 1 siteSupply true true) d 1 ∧ (s.resetBegin 1 siteSupply true true).nat RESET_CAUSE.CAUSES_SEEN = 1 := by
  have dev : s.nat DEV_STATE = 1 := by simpa [State.live] using live
  unfold State.resetBegin
  rw [if_neg (by simp [dev])]
  extract_lets s1 s2 s3 s4 s5
  have full : s2.flag RESET_FULL = true := by
    rw [show s2.flag RESET_FULL = _ from State.flag_setN_other _ (by decide)]
    exact State.flag_setN_self _ _
  obtain ⟨h3, off⟩ := s2.diesOff_shows true hd full
  have begun : Leaves [one DEV_STATE, one RESET_START_AT, one RESET_UNTIL, one RSTOUT_HIGH, one RSTOUT_UNTIL,
      one RESET_CONTROL.DEVICE_RESETS, one RESET_CAUSE.CAUSES_SEEN] [] (s2.diesOff true)
      ((s5.count RESET_CONTROL.DEVICE_RESETS 0xFFFFFFFF).setN RESET_CAUSE.CAUSES_SEEN 0) :=
    State.setN_leaves (State.count_leaves (State.setN_leaves (State.setN_leaves (State.setN_leaves (State.setN_leaves (State.setN_leaves
      (.refl _) covered_one) covered_one) covered_one)
      covered_one) covered_one) covered_one)
      covered_one
  have none : ((s5.count RESET_CONTROL.DEVICE_RESETS 0xFFFFFFFF).setN RESET_CAUSE.CAUSES_SEEN 0).nat RESET_CAUSE.CAUSES_SEEN = 0 :=
    State.nat_setN_self _ _ _
  have shows := State.addCause_shows ((s5.count RESET_CONTROL.DEVICE_RESETS 0xFFFFFFFF).setN RESET_CAUSE.CAUSES_SEEN 0) 1 siteSupply
    ((begun.flag_eq (outside_of_clears (by decide))).trans h3) ((begun.flag_eq (outside_internal (by decide) d)).trans off)
  have seen := State.addCause_seen ((s5.count RESET_CONTROL.DEVICE_RESETS 0xFFFFFFFF).setN RESET_CAUSE.CAUSES_SEEN 0) 1 siteSupply
  rw [none] at shows seen
  exact ⟨shows, seen⟩

end

end Sys2Proof.Machine
end

section
/-!
CLAIM O34. The supply of the battery goes, comes back and stays away; a channel die resets.
-/
open Sys2Proof
namespace Sys2Proof.Machine

set_option Elab.async false

section
variable {d n : Nat}

/-! ### VBAT goes (R263) -/

/-- The full reset that begins as VBAT goes, and the gates of the device without it. -/
def State.supplyGone (s : State) : State :=
  forBelow 512 (fun n s => (s.setN (LIFE_NEW n) 0).gateUnpowered n) (s.resetBegin 1 siteSupply true true)

theorem State.supplyGone_stays (s : State) :
    Leaves [each LIFE_NEW, each CELL, each GATE, each LATCH] [] (s.resetBegin 1 siteSupply true true) s.supplyGone :=
  forBelow_leaves (.refl _) fun n x hx => State.gateUnpowered_leaves n (State.setN_leaves hx (covered_of (LIFE_NEW_has n)))
    (inSkip (CELL_wide (inSkip (GATE_wide (inSkip (LATCH_wide inNil))))))

theorem State.supplyGone_time (s : State) : s.supplyGone.time = s.time := by
  have begun := State.resetBegin_leaves 1 siteSupply true true (.refl s) .refl fun _ h => h
  rw [s.supplyGone_stays.time_eq, begun.time_eq]

/-- With it goes the long press that may have led to it (R236). -/
def State.vbatReset (s : State) : State :=
  if s.nat LONG_AT != 0 then (s.supplyGone.addCause 13 siteWake).setN LONG_RESET 1 else s.supplyGone

theorem State.vbatReset_shows (s : State) (live : s.live = true) (hd : d < 4) :
    ResetShows s.vbatReset d (if s.nat LONG_AT = 0 then 1 else 13) := by
  obtain ⟨shows, seen⟩ := s.resetBegin_vbat live hd
  have shows := shows.of_leaves s.supplyGone_stays
  have seen := (s.supplyGone_stays.nat_eq (outside_of_clears (by decide))).trans seen
  unfold State.vbatReset
  by_cases long : s.nat LONG_AT = 0
  · simpa [long] using shows
  · have both := s.supplyGone.addCause_shows 13 siteWake shows.full shows.off
    have noted : Leaves [one LONG_RESET] [] (s.supplyGone.addCause 13 siteWake) ((s.supplyGone.addCause 13 siteWake).setN LONG_RESET 1) :=
      State.setN_leaves (.refl _) .here
    rw [seen, show causeIn (putBit 1 (13 - 1) true) = 13 by decide] at both
    simpa [long] using both.of_leaves noted

/-- No time passes in it. -/
theorem State.vbatReset_time (s : State) : s.vbatReset.time = s.time := by
  unfold State.vbatReset
  split
  · rw [State.setN_time, (s.supplyGone.addCause_stays 13 siteWake).time_eq, s.supplyGone_time]
  · exact s.supplyGone_time

theorem State.pwmFloat_stays (s : State) : Leaves [each2 LANE_EDGE] [] s s.pwmFloat := State.pwmFloat_leaves (.refl s) .refl

/-- VBAT that goes leaves the device without supply, in the reset that it began. -/
theorem State.vbatFalls_shows (s : State) (live : s.live = true) (here : s.nat VBAT_GONE_AT = 0) (hd : d < 4) :
    s.vbatFalls.nat DEV_STATE = 3 ∧ s.vbatFalls.nat VBAT_GONE_AT = s.time + 1 ∧
      ResetShows s.vbatFalls d (if s.nat LONG_AT = 0 then 1 else 13) := by
  have shows := s.vbatReset_shows live hd
  have now := s.vbatReset_time
  unfold State.vbatFalls
  rw [if_neg (by simp [here])]
  extract_lets long s1 s2 s3 s4
  have h2 : s2 = s.vbatReset := rfl
  have h4 : Leaves [one RSTOUT_HIGH, one RET_ENTERED] [] s2 s4 := by
    have h3 : Leaves [one RSTOUT_HIGH, one RET_ENTERED] [] s2 s3 := .ite (State.setN_leaves (.refl s2) .here) (.refl s2)
    exact .ite h3 (State.setN_leaves h3 (.next .here))
  have now4 : s4.time = s.time := by rw [h4.time_eq, h2, now]
  have floats := State.pwmFloat_stays (((s4.setN DEV_STATE 3).setN VBAT_GONE_AT (s4.time + 1)).setN VBAT_ROSE_AT 0)
  have gone : Leaves [one DEV_STATE, one VBAT_GONE_AT, one VBAT_ROSE_AT] [] s4
      (((s4.setN DEV_STATE 3).setN VBAT_GONE_AT (s4.time + 1)).setN VBAT_ROSE_AT 0) :=
    State.setN_leaves (State.setN_leaves (State.setN_leaves (.refl s4) covered_one) covered_one) covered_one
  refine ⟨(floats.nat_eq (outside_internal (by decide) 0)).trans ?_, (floats.nat_eq (outside_internal (by decide) 0)).trans ?_,
    ((ResetShows.of_leaves (h2 ▸ shows) h4).of_leaves gone).of_leaves floats⟩
  · rw [State.nat_setN_other _ (by decide), State.nat_setN_other _ (by decide), State.nat_setN_self]
  · rw [State.nat_setN_other _ (by decide), State.nat_setN_self, now4]

/-! ### VBAT rises (R268) -/

theorem mem_anchoredChannels (hn : n < 512) (h : isAnchored n = true) : n ∈ anchoredChannels := by
  simp only [anchoredChannels, List.mem_filter, List.mem_flatMap, List.mem_range]
  exact ⟨⟨dieOf n, by simp only [dieOf]; omega, mem_dieChannels.2 rfl⟩, h⟩

/-- A channel that the profile does not name goes off with its latch. -/
def State.latchLost (s : State) (named : List Nat) (n : Nat) : State :=
  if named.contains n then s else ((s.setN (LATCH n) 0).setN (CELL n) ST.OFF).setN (GATE n) 0

theorem State.latchLost_stays (s : State) (named : List Nat) (n : Nat) :
    Leaves [each LATCH, each CELL, each GATE] [] s (s.latchLost named n) :=
  .ite (.refl s) (State.setN_leaves (State.setN_leaves (State.setN_leaves (.refl s) (covered_of (LATCH_has n)))
    (covered_of (CELL_has n))) (covered_of (GATE_has n)))

theorem State.latchLost_off (s : State) {named : List Nat} (h : named.contains n = false) :
    (s.latchLost named n).flag (LATCH n) = false := by
  rw [State.latchLost, if_neg (by rw [h]; exact Bool.false_ne_true), State.flag_setN_other,
    State.flag_setN_other, State.flag_setN_self]
  · rfl
  all_goals
    simp only [LATCH, CELL, GATE, internal]
    omega

/-- No channel puts the latch of another on. -/
theorem State.latchLost_keeps (s : State) (named : List Nat) (m : Nat) (h : s.flag (LATCH n) = false) :
    (s.latchLost named m).flag (LATCH n) = false := by
  unfold State.latchLost
  split
  · exact h
  by_cases hm : n = m
  · subst hm
    rw [State.flag_setN_other, State.flag_setN_other, State.flag_setN_self]
    · rfl
    all_goals
      simp only [LATCH, CELL, GATE, internal]
      omega
  · rw [State.flag_setN_other, State.flag_setN_other, State.flag_setN_other, h]
    all_goals
      simp only [LATCH, CELL, GATE, internal]
      omega

theorem State.pwmLow_stays (s : State) : Leaves [each2 LANE_EDGE] [] s s.pwmLow := State.pwmLow_leaves (.refl s) .refl

/-- The latches as VBAT rises: those that the profile does not name are off (R89). -/
def State.latchesAnew (s : State) : State :=
  forEach anchoredChannels (fun n x => x.latchLost (profileChannels s.profile) n)
    (forBelow 512 (fun n s => if isAnchored n && s.flag (LATCH n) then s else s.setN (GATE n) 0) s)

theorem State.latchesAnew_stays (s : State) : Leaves [each LATCH, each CELL, each GATE] [] s s.latchesAnew :=
  forEach_leaves (forBelow_leaves (.refl s) fun n _ hx => .ite hx (State.setN_leaves hx (covered_of (GATE_has n))))
    fun n x hx => hx.trans (x.latchLost_stays _ n)

theorem State.latchesAnew_off (s : State) (hn : n < 512) (anchored : isAnchored n = true)
    (unnamed : (profileChannels s.profile).contains n = false) : s.latchesAnew.flag (LATCH n) = false :=
  forEach_reaches (P := fun x => x.flag (LATCH n) = false) (mem_anchoredChannels hn anchored) (fun x => x.latchLost_off unnamed)
    fun m _ x => x.latchLost_keeps _ m

/-- The device starts anew into its reset. -/
theorem State.vbatRises_eq (s : State) (gone : s.nat DEV_STATE = 3) : s.vbatRises =
    ((((((s.latchesAnew.setN VBAT_OUT (s.latchesAnew.time + 1 - s.latchesAnew.nat VBAT_GONE_AT)).setN VBAT_GONE_AT 0).setN VBAT_ROSE_AT
      (((s.latchesAnew.setN VBAT_OUT (s.latchesAnew.time + 1 - s.latchesAnew.nat VBAT_GONE_AT)).setN VBAT_GONE_AT 0).time + 1)).setN
      DEV_STATE 0).setN RSTOUT_HIGH 0).pwmLow) := if_neg (by simp [gone])

theorem State.vbatRises_shows (s : State) (gone : s.nat DEV_STATE = 3) :
    s.vbatRises.nat DEV_STATE = 0 ∧ s.vbatRises.nat VBAT_GONE_AT = 0 ∧ s.vbatRises.nat VBAT_ROSE_AT = s.time + 1 ∧
      ∀ n < 512, isAnchored n = true → (profileChannels s.profile).contains n = false → s.vbatRises.flag (LATCH n) = false := by
  rw [s.vbatRises_eq gone]
  have low (x : State) := x.pwmLow_stays
  refine ⟨((low _).nat_eq (outside_internal (by decide) 0)).trans ?_, ((low _).nat_eq (outside_internal (by decide) 0)).trans ?_,
    ((low _).nat_eq (outside_internal (by decide) 0)).trans ?_, fun n hn anchored unnamed =>
      ((low _).flag_eq (outside_internal (by decide) n)).trans ?_⟩
  · rw [State.nat_setN_other _ (by decide), State.nat_setN_self]
  · rw [State.nat_setN_other _ (by decide), State.nat_setN_other _ (by decide), State.nat_setN_other _ (by decide), State.nat_setN_self]
  · rw [State.nat_setN_other _ (by decide), State.nat_setN_other _ (by decide), State.nat_setN_self, State.setN_time, State.setN_time,
      s.latchesAnew_stays.time_eq]
  · have noted (x : State) (a b c : Nat) : Leaves [one VBAT_OUT, one VBAT_GONE_AT, one VBAT_ROSE_AT, one DEV_STATE, one RSTOUT_HIGH] []
        x (((((x.setN VBAT_OUT a).setN VBAT_GONE_AT b).setN VBAT_ROSE_AT c).setN DEV_STATE 0).setN RSTOUT_HIGH 0) :=
      State.setN_leaves (State.setN_leaves (State.setN_leaves (State.setN_leaves (State.setN_leaves (.refl x) covered_one)
        covered_one) covered_one) covered_one) covered_one
    exact ((noted _ _ _ _).flag_eq (outside_internal (by decide) n)).trans (s.latchesAnew_off hn anchored unnamed)

/-! ### A power cycle (R311) -/

theorem State.powerCycle_shows (s : State) : s.powerCycle.nat KEEPER.FAILED_OPENINGS = 0 ∧ s.powerCycle.nat KEEPER.RETRY_SERIES = 0 ∧
    s.powerCycle.flag KEEPER_HOLDING = false := by
  have ended : s.holdEnds.flag KEEPER_HOLDING = false := by
    unfold State.holdEnds
    split
    · rw [State.flag_setN_other _ (by decide), State.flag_setN_self]
      rfl
    next off => exact Bool.eq_false_iff.2 off
  unfold State.powerCycle
  refine ⟨?_, State.nat_setN_self _ _ _, ?_⟩
  · rw [State.nat_setN_other _ (by decide), State.nat_setN_self]
  · rw [State.flag_setN_other _ (by decide), State.flag_setN_other _ (by decide), ended]

end

/-- Settles O34: each loss and return of VBAT and the error of a channel die, followed through the reset that it begins. -/
theorem supplyLossAndDieReset : Obligations.SupplyLossAndDieReset := by
  unfold Obligations.SupplyLossAndDieReset
  intro d site s
  refine ⟨fun live here => ?_, fun gone => ⟨_, rfl, s.vbatRises_shows gone⟩, fun gone long => ?_, fun on own => ?_⟩
  · obtain ⟨dev, since, full, off, last, kind⟩ := s.vbatFalls_shows live here d.isLt
    exact ⟨_, rfl, dev, since, off, last, kind⟩
  · have cycle : s.vbatCycle = s.powerCycle := if_pos (by simp [gone, long])
    exact ⟨_, congrArg Host.Outcome.next cycle, s.powerCycle_shows⟩
  · have resets : s.criticalError (some d) site = s.channelDieReset d.val site := by
      simp [State.criticalError, own, on]
    exact ⟨_, congrArg Host.Outcome.next resets, s.channelDieReset_counted d site, fun n hn => s.channelDieReset_standing site hn,
      s.channelDieReset_raises d.isLt site⟩

end Sys2Proof.Machine
end

section
/-!
CLAIM O14. How a channel enters LIMIT, goes back, trips there, and when its episode is over.
-/
open Sys2Proof
namespace Sys2Proof.Machine

set_option Elab.async false

section
variable {n : Nat} {vsh r1 r2 : Int} {s : State}

/-! ### Entering LIMIT (R125, R127) -/

/-- The time in LIMIT counts from the entry. -/
theorem State.cellTo_limitSince (s : State) (n : Nat) : (s.cellTo n ST.LIMIT).nat (LIMIT_SINCE n) = s.time := by
  unfold State.cellTo
  extract_lets s1 s2 s3 s4 s5
  have clock : s1.nat (LIMIT_SINCE n) = s.time := by
    have run : Leaves [each RUN_SINCE, each RUN_SPENT] [] s (s.runClock n ST.LIMIT) :=
      State.runClock_leaves n _ (.refl s) (RUN_SINCE_wide (inSkip (RUN_SPENT_wide inNil)))
    have episode : Leaves [each LIMIT_EPISODE, each LIMIT_SPENT] [] (s.runClock n ST.LIMIT)
        (if (s.runClock n ST.LIMIT).flag (LIMIT_EPISODE n) then s.runClock n ST.LIMIT
          else ((s.runClock n ST.LIMIT).setN (LIMIT_EPISODE n) 1).setN (LIMIT_SPENT n) 0) :=
      .ite (.refl _) (State.setN_leaves (State.setN_leaves (.refl _) (covered_of (LIMIT_EPISODE_has n)))
        (covered_of (LIMIT_SPENT_has n)))
    rw [← run.time_eq, ← episode.time_eq]
    exact State.nat_setN_self _ _ _
  have entered : Leaves [each LAMP_LOW, each CELL, each GATE] [] s1 s4 :=
    State.setN_leaves (State.setN_leaves (.ite (.refl s1) (State.setN_leaves (.refl s1) (covered_of (LAMP_LOW_has n))))
      (covered_of (CELL_has n))) (covered_of (GATE_has n))
  have latched : Leaves [each LATCH] [] s4 s5 := .ite (State.setFlag_leaves (.refl s4) (covered_of (LATCH_has n))) (.refl s4)
  rw [(State.pumpUpdate_stays _ _).nat_eq (outside_internal (by decide) n),
    (State.showCell_stays s5 n).nat_eq (outside_internal (by decide) n), latched.nat_eq (outside_internal (by decide) n),
    entered.nat_eq (outside_internal (by decide) n), clock]

/-- Channel n is in LIMIT, and where it came from is noted. -/
def State.limitMet (s : State) (n : Nat) : State := ((s.captureSees n).setN (LIMIT_FROM n) (s.cell n)).cellTo n ST.LIMIT

/-- The entry is counted, as an event of STANDING too. -/
def State.limitCounted (s : State) (n : Nat) : State :=
  let t := (s.limitMet n).count (CHANNEL_SUPERVISION.LIMIT_ENTRIES n) 0xFFFF
  if t.standing n then t.count (STAND_EVENTS n) 0xFFFF else t

theorem State.limitEntered_eq (on : s.flag (LOGIC_OFF (dieOf n)) = false)
    (may : s.cell n = ST.RAMP ∨ s.cell n = ST.ON ∨ (s.cell n = ST.PWM ∧ s.flag (PWM_HIGH n) = true))
    (limited : s.effectiveLimit n ≠ 0) (above : (s.effectiveLimit n : Int) < vsh) : s.limitEntered n vsh =
      (s.limitCounted n).raiseChannel .LIMIT_ENTERED n 0x22 0 [f32 (divNear (s.effectiveLimit n) 100000)] := by
  have enters : (s.cell n == ST.RAMP || s.cell n == ST.ON || (s.cell n == ST.PWM && s.flag (PWM_HIGH n))) = true := by
    obtain ramp | on | ⟨pwm, high⟩ := may
    · simp [ramp]
    · simp [on]
    · simp [pwm, high]
  exact if_pos (by simp [enters, on, limited, above])

/-- What precedes the entry writes neither the clocks nor the counters of the limit loop. -/
theorem State.limitNoted_stays (s : State) (n : Nat) :
    Leaves [each CAP_SEEN, each LIMIT_FROM] [] s ((s.captureSees n).setN (LIMIT_FROM n) (s.cell n)) := by
  have noted : (each LIMIT_FROM).has (LIMIT_FROM n) := ⟨n, 0, by simp only [LIMIT_FROM, internal]; omega⟩
  exact State.setN_leaves (State.captureSees_leaves n (.refl s) (inBoth inNil)) (covered_of noted)

theorem State.limitCounted_stays (s : State) (n : Nat) :
    Leaves [each CHANNEL_SUPERVISION.LIMIT_ENTRIES, each STAND_EVENTS] [] (s.limitMet n) (s.limitCounted n) := by
  have counted : Leaves [each CHANNEL_SUPERVISION.LIMIT_ENTRIES, each STAND_EVENTS] [] (s.limitMet n)
      ((s.limitMet n).count (CHANNEL_SUPERVISION.LIMIT_ENTRIES n) 0xFFFF) :=
    State.count_leaves (.refl _) (covered_of (CHANNEL_SUPERVISION.LIMIT_ENTRIES_has n))
  exact .ite (State.count_leaves counted (covered_of (STAND_EVENTS_has n))) counted

/-- What a channel that enters LIMIT shows. -/
theorem State.limitMet_shows (s : State) (n : Nat) :
    let t := s.limitMet n
    t.cell n = ST.LIMIT ∧ t.nat (LIMIT_FROM n) = s.cell n ∧ t.nat (GATE n) = 3 ∧ t.nat (LIMIT_SINCE n) = s.time ∧
      t.nat (CHANNEL_SUPERVISION.LIMIT_ENTRIES n) = s.nat (CHANNEL_SUPERVISION.LIMIT_ENTRIES n) := by
  have noted := s.limitNoted_stays n
  have entered := ((s.captureSees n).setN (LIMIT_FROM n) (s.cell n)).cellTo_stays n ST.LIMIT
  exact ⟨State.cellTo_cell _ _ _, (entered.nat_eq (outside_internal (by decide) n)).trans (State.nat_setN_self _ _ _),
    State.cellTo_gate _ _ fun _ => rfl, (State.cellTo_limitSince _ n).trans noted.time_eq,
    (entered.nat_eq (outside_object (by decide) _)).trans (noted.nat_eq (outside_object (by decide) _))⟩

/-- An entry is counted once, and changes nothing that the channel shows of it. -/
theorem State.limitCounted_shows (s : State) (n : Nat) :
    let t := s.limitCounted n
    t.cell n = ST.LIMIT ∧ t.nat (LIMIT_FROM n) = s.cell n ∧ t.nat (GATE n) = 3 ∧ t.nat (LIMIT_SINCE n) = s.time ∧
      t.nat (CHANNEL_SUPERVISION.LIMIT_ENTRIES n) = satTo 0xFFFF (s.nat (CHANNEL_SUPERVISION.LIMIT_ENTRIES n) + 1) := by
  obtain ⟨cell, origin, gate, since, entries⟩ := s.limitMet_shows n
  have counted := s.limitCounted_stays n
  have standing : Leaves [each STAND_EVENTS] [] ((s.limitMet n).count (CHANNEL_SUPERVISION.LIMIT_ENTRIES n) 0xFFFF)
      (s.limitCounted n) := .ite (State.count_leaves (.refl _) (covered_of (STAND_EVENTS_has n))) (.refl _)
  refine ⟨(counted.nat_eq (outside_internal (by decide) n)).trans cell,
    (counted.nat_eq (outside_internal (by decide) n)).trans origin, (counted.nat_eq (outside_internal (by decide) n)).trans gate,
    (counted.nat_eq (outside_internal (by decide) n)).trans since, ?_⟩
  rw [standing.nat_eq (outside_object (by decide) _), State.nat_count_self, entries]

/-- No time passes in an entry. -/
theorem State.limitCounted_follows (s : State) (n : Nat) : DieFollows s (s.limitCounted n) := by
  have noted := (DieFollows.refl s).quiet (s.limitNoted_stays n)
  exact (noted.trans (.of_leaves (State.cellTo_stays _ n _) (.cellTo (.refl _) n _))).quiet (s.limitCounted_stays n)

/-! ### Leaving LIMIT (R126, R127) -/

theorem State.limitSaturated_eq (limits : s.cell n = ST.LIMIT) (h1 : r1 ≤ 5000) (h2 : r2 ≤ 5000) :
    s.limitSaturated n r1 r2 = s.cellTo n (s.nat (LIMIT_FROM n)) := if_pos (by simp [limits, h1, h2])

theorem State.limitTimeout_eq (limits : s.cell n = ST.LIMIT) (long : s.nat (CHANNEL_PROTECTION.LIMIT_MAX_TIME n) ≤ s.limitTime n) :
    s.limitTimeout n = s.tripReported n 4 4 .LIMIT_TIMEOUT_TRIP 0x23 [f32 (s.limitTime n)] := if_pos (by simp [limits, long])

theorem State.limitEpisodeEnd_eq (episode : s.flag (LIMIT_EPISODE n) = true) (left : s.cell n ≠ ST.LIMIT)
    (due : s.nat (LIMIT_LEFT n) + 1000 ≤ s.time) : s.limitEpisodeEnd n = (s.setN (LIMIT_EPISODE n) 0).setN (LIMIT_SPENT n) 0 :=
  if_pos (by simp [episode, left, due])

end

/-- Settles O14: an entry is noted, counted and reported; it ends where it came from or in a trip, and its episode by its time. -/
theorem currentLimit : Obligations.CurrentLimit := by
  unfold Obligations.CurrentLimit
  intro n vsh r1 r2 s
  refine ⟨fun on may limited above => ?_, fun limits h1 h2 => ?_, fun limits long => ?_, fun episode left due => ?_⟩
  · obtain ⟨cell, origin, gate, since, entries⟩ := s.limitCounted_shows n
    exact ⟨_, congrArg Host.Outcome.next (State.limitEntered_eq on may limited above), cell, origin, gate, since, entries,
      (s.limitCounted_follows n).raisesChannel n.isLt _ _ _ _⟩
  · exact ⟨_, congrArg Host.Outcome.next (State.limitSaturated_eq limits h1 h2), State.cellTo_cell _ _ _⟩
  · obtain ⟨tripped, gate, named, -, counted, -⟩ := s.tripReported_tripped n 4 4 .LIMIT_TIMEOUT_TRIP 0x23 [f32 (s.limitTime n)]
    exact ⟨_, congrArg Host.Outcome.next (State.limitTimeout_eq limits long), tripped, named, gate, counted,
      (DieFollows.refl s).tripReported_raises n.isLt _ _ _⟩
  · refine ⟨_, congrArg Host.Outcome.next (State.limitEpisodeEnd_eq episode left due), ?_, State.nat_setN_self _ _ _⟩
    rw [State.flag_setN_other, State.flag_setN_self]
    · rfl
    · simp only [LIMIT_EPISODE, LIMIT_SPENT, internal]
      omega

end Sys2Proof.Machine
end

section
/-!
CLAIM O16. How the envelope of a lamp ends and an open lamp shows, and how a swap ends: by its overlap or by an abort.
-/
open Sys2Proof
namespace Sys2Proof.Machine

set_option Elab.async false

section
variable {n p : Nat} {s t : State}

/-! ### Lamps (R146, R148) -/

theorem State.lampEnds_eq (envelope : s.modelFlag n MFLAG.LAMP_ENVELOPE = true)
    (decayed : s.nat (LAMP_AT n) + s.nat (CHANNEL_PROTECTION.LAMP_DECAY_TIME n) ≤ s.time) :
    s.lampEnds n = s.setModelFlag n MFLAG.LAMP_ENVELOPE false := if_pos (by simp [envelope, decayed])

/-- Channel n shows an open lamp. -/
def State.lampFlagged (s : State) (n : Nat) : State := s.setModelFlag n MFLAG.OPEN_LAMP true

theorem State.lampFlagged_stays (s : State) (n : Nat) : Leaves [each CHANNEL_PROTECTION.MODEL_FLAGS] [] s (s.lampFlagged n) :=
  State.setBit_leaves (.refl s) (covered_of (CHANNEL_PROTECTION.MODEL_FLAGS_has n))

theorem State.lampTold_stays (s : State) (n : Nat) :
    Leaves [each CHANNEL_PROTECTION.MODEL_FLAGS, each LAMP_TOLD] [] s ((s.lampFlagged n).setN (LAMP_TOLD n) 1) :=
  State.setN_leaves (State.setBit_leaves (.refl s) (covered_of (CHANNEL_PROTECTION.MODEL_FLAGS_has n)))
    (covered_of (LAMP_TOLD_has n))

section
variable (lamp : s.flag (CHANNEL_PROTECTION.LAMP_MODE n) = true) (judged : s.nat (CHANNEL_PROTECTION.LAMP_OPEN_FRACTION n) ≠ 0)
  (low : (s.cell n = ST.ON ∧ 50 ≤ s.nat (LAMP_LOW n)) ∨ (s.cell n = ST.PWM ∧ 2 ≤ s.nat (LAMP_LOW n)))
include lamp judged low

/-- The judgement of an open lamp, by the state in which it is lit (R148). -/
theorem State.lampLow_judged :
    ((s.cell n == ST.ON || s.cell n == ST.PWM) && s.flag (CHANNEL_PROTECTION.LAMP_MODE n) &&
      s.nat (CHANNEL_PROTECTION.LAMP_OPEN_FRACTION n) != 0 &&
      decide ((if s.cell n = ST.PWM then 2 else 50) ≤ s.nat (LAMP_LOW n))) = true := by
  obtain ⟨on, frames⟩ | ⟨pwm, periods⟩ := low
  · simp [on, lamp, judged, frames]
  · simp [pwm, lamp, judged, periods]

/-- What an open lamp does, by whether its on-period has been told of it. -/
theorem State.openLamp_eq : s.openLamp n =
    if s.flag (LAMP_TOLD n) then s.lampFlagged n
    else ((s.lampFlagged n).setN (LAMP_TOLD n) 1).raiseChannel .OPEN_LAMP n 0x29 0
      [f32 (s.get (if s.cell n = ST.PWM then CHANNEL_STATUS.I_RMS n else CHANNEL_STATUS.I_MEAN n))] := by
  have current : (s.lampFlagged n).get (if s.cell n = ST.PWM then CHANNEL_STATUS.I_RMS n else CHANNEL_STATUS.I_MEAN n) =
      s.get (if s.cell n = ST.PWM then CHANNEL_STATUS.I_RMS n else CHANNEL_STATUS.I_MEAN n) :=
    (s.lampFlagged_stays n).get_eq (by split <;> exact outside_object (by decide) _)
  have told : (s.lampFlagged n).flag (LAMP_TOLD n) = s.flag (LAMP_TOLD n) :=
    (s.lampFlagged_stays n).flag_eq (outside_internal (by decide) n)
  rw [← current, ← told]
  exact if_pos (State.lampLow_judged lamp judged low)

/-- An open lamp shows, and its on-period is then told of it. -/
theorem State.openLamp_shows :
    (s.openLamp n).nat (CHANNEL_PROTECTION.MODEL_FLAGS n) =
        putBit (s.nat (CHANNEL_PROTECTION.MODEL_FLAGS n)) MFLAG.OPEN_LAMP true ∧
      (s.openLamp n).flag (LAMP_TOLD n) = true := by
  rw [State.openLamp_eq lamp judged low]
  split
  next told =>
    exact ⟨State.nat_setN_self _ _ _, ((s.lampFlagged_stays n).flag_eq (outside_internal (by decide) n)).trans told⟩
  next =>
    refine ⟨?_, ?_⟩
    · rw [State.raiseChannel, State.raiseDie_nat, State.nat_setN_other]
      · exact State.nat_setN_self _ _ _
      · simp only [CHANNEL_PROTECTION.MODEL_FLAGS, LAMP_TOLD, internal]
        omega
    · rw [State.raiseChannel, State.flag, State.raiseDie_get, State.get_setN_self]
      rfl

end

/-! ### The end of a REQUEST in a swap (R152, R153) -/

/-- The registers of the deal and of the pairs, and the clock. -/
def SwapKey (k : Nat) : Prop := k < 0x2D0000 ∨ (0x387000 ≤ k ∧ k < 0x38B000) ∨ k = TICK_OFFSET

/-- REQUEST of channel n has become 0 in t, with what follows of it, and pairs, deal and clock are those of s. -/
structure RequestEnded (s : State) (n : Nat) (t : State) : Prop where
  request : t.nat (CHANNEL_CONFIG.REQUEST n) = 0
  kept : ∀ k, SwapKey k → t.get k = s.get k
  time : t.time = s.time
  grows : Grows s t

theorem State.setRequest_ended (s : State) (hn : n < 512) : RequestEnded s n (s.setRequest n 0) where
  request := by
    rw [State.setRequest, State.nat_setN_other, State.nat_setN_self]
    simp only [CHANNEL_CONFIG.REQUEST, inForce]
    omega
  kept k hk := by
    rw [State.setRequest, State.get_setN_other, State.get_setN_other]
    all_goals
      simp only [SwapKey, TICK_OFFSET, internal] at hk
      simp only [CHANNEL_CONFIG.REQUEST, inForce]
      omega
  time := (State.setN_time _ _ _).trans (State.setN_time _ _ _)
  grows := ((Grows.refl s).set _ _).set _ _

/-- The channel hears of it. -/
theorem RequestEnded.requestOff (h : RequestEnded s n t) (hn : n < 512) : RequestEnded s n (t.requestOff n) where
  request := (State.requestOff_request n).trans h.request
  kept k hk := by
    refine .trans ((State.requestOff_leaves n (.refl t) .refl fun _ h => h).get_eq ?_) (h.kept k hk)
    simp only [SwapKey, TICK_OFFSET, internal] at hk
    simp only [outside_cons, outside_nil, ADMIT_KIND, BANK.BANK_FLAGS, CELL, CHANNEL_PROTECTION.MODEL_FLAGS, CHANNEL_STATUS.FLAGS,
      CHANNEL_STATUS.STANDING_GATE, CHANNEL_STATUS.STATE, GATE, LAMP_LOW, LAMP_TOLD, LATCH, LIMIT_EPISODE, LIMIT_LEFT, LIMIT_SINCE,
      LIMIT_SPENT, PEND, PUMP_START, PUMP_STOP_AT, PWM_HIGH, RESET_OUTPUT.ASSERT_COUNT, RESET_OUTPUT.LAST_CHANGE_STAMP,
      RESET_OUTPUT.OUTPUT, RSO_GOOD_SINCE, RUN_SINCE, RUN_SPENT, START_AT, STORED_WAIT, TRIP_STATE, WIN, bankOf, internal, and_true]
    and_intros <;> intros <;> omega
  time := (State.requestOff_leaves n (.refl t) .refl fun _ h => h).time_eq.trans h.time
  grows := State.requestOff_grows n h.grows

/-- Or it will, as its die hears again. -/
theorem RequestEnded.foldWait (h : RequestEnded s n t) (hn : n < 512) (v : Nat) : RequestEnded s n (t.setN (FOLD_WAIT n) v) where
  request := by
    rw [State.nat_setN_other, h.request]
    simp only [CHANNEL_CONFIG.REQUEST, FOLD_WAIT, internal]
    omega
  kept k hk := by
    refine .trans (State.get_setN_other _ _ _ _ ?_) (h.kept k hk)
    simp only [SwapKey, TICK_OFFSET, internal] at hk
    simp only [FOLD_WAIT, internal]
    omega
  time := (State.setN_time _ _ _).trans h.time
  grows := h.grows.set _ _

theorem RequestEnded.ite {c : Prop} [Decidable c] {u : State} (ht : RequestEnded s n t) (hu : RequestEnded s n u) :
    RequestEnded s n (if c then t else u) := by
  split <;> assumption

theorem RequestEnded.nat_eq (h : RequestEnded s n t) {k : Nat} (hk : SwapKey k) : t.nat k = s.nat k := by
  rw [State.nat, h.kept k hk, State.nat]

theorem RequestEnded.follows (h : RequestEnded s n t) : Follows s t := ⟨h.time, h.kept _ (.inr (.inr rfl)), h.grows⟩

theorem RequestEnded.holderOfPair (h : RequestEnded s n t) (p : Nat) : t.holderOfPair p = s.holderOfPair p :=
  State.dealtTo_eq fun u hu => h.nat_eq (.inl (by simp only [TENANT.PAIRS]; omega))

/-! ### Swaps that end (R152, R153) -/

/-- The registers of a swap that ends with a result. -/
def State.swapClosed (s : State) (p result : Nat) : State :=
  ((s.setN (CASTLING_PAIR.SWAP_STATE p) 0).setN (CASTLING_PAIR.SWAP_RESULT p) result).setN (SWAP_IN p) 0

theorem State.swapClosed_stays (s : State) (p result : Nat) :
    Leaves [each CASTLING_PAIR.SWAP_STATE, each CASTLING_PAIR.SWAP_RESULT, each SWAP_IN] [] s (s.swapClosed p result) :=
  State.setN_leaves (State.setN_leaves (State.setN_leaves (.refl s) (covered_of (CASTLING_PAIR.SWAP_STATE_has p)))
    (covered_of (CASTLING_PAIR.SWAP_RESULT_has p))) (covered_of (SWAP_IN_has p))

theorem State.swapClosed_shows (s : State) (p result : Nat) :
    (s.swapClosed p result).nat (CASTLING_PAIR.SWAP_STATE p) = 0 ∧
      (s.swapClosed p result).nat (CASTLING_PAIR.SWAP_RESULT p) = result := by
  unfold State.swapClosed
  refine ⟨?_, ?_⟩
  · rw [State.nat_setN_other, State.nat_setN_other, State.nat_setN_self]
    all_goals
      simp only [CASTLING_PAIR.SWAP_STATE, CASTLING_PAIR.SWAP_RESULT, SWAP_IN, internal]
      omega
  · rw [State.nat_setN_other, State.nat_setN_self]
    simp only [CASTLING_PAIR.SWAP_RESULT, SWAP_IN, internal]
    omega

theorem State.swapClosed_follows (s : State) (p result : Nat) : Follows s (s.swapClosed p result) :=
  .of_leaves (s.swapClosed_stays p result) (by decide) (outside_internal (by decide) 0) ((Grows.refl s).quiet (s.swapClosed_stays p result))

/-- What an abort does to the incoming channel before it says so. -/
theorem State.swapAbort_eq (s : State) (hn : s.swapIn p < 512) (result : Nat) : ∃ t, RequestEnded (s.swapClosed p result) (s.swapIn p) t ∧
    s.swapAbort p result = t.raise .SWAP_ABORTED (siteChannel (s.swapIn p) 0) (t.holderOfPair p) 0 [f8 p, f8 result] := by
  have request := State.setRequest_ended (s.swapClosed p result) hn
  exact ⟨_, .ite request (.ite (request.requestOff hn) (request.foldWait hn 1)), rfl⟩

/-- Every abort ends the swap with its result, takes the incoming REQUEST back and says so (R153). -/
theorem State.swapAbort_shows (s : State) (hp : p < 64) (hn : s.swapIn p < 512) (result : Nat) :
    let t := s.swapAbort p result
    t.nat (CASTLING_PAIR.SWAP_STATE p) = 0 ∧ t.nat (CASTLING_PAIR.SWAP_RESULT p) = result ∧
      t.nat (CHANNEL_CONFIG.REQUEST (s.swapIn p)) = 0 ∧
      Raises s t .SWAP_ABORTED (siteChannel (s.swapIn p) 0) (s.holderOfPair p) [f8 p, f8 result] := by
  obtain ⟨t, ended, aborted⟩ := s.swapAbort_eq hn result
  obtain ⟨idle, shown⟩ := s.swapClosed_shows p result
  have holder : t.holderOfPair p = s.holderOfPair p := (ended.holderOfPair p).trans
    (State.dealtTo_eq fun u _ => (s.swapClosed_stays p result).nat_eq (outside_object (by decide) _))
  rw [aborted, holder]
  refine ⟨(ended.nat_eq ?_).trans idle, (ended.nat_eq ?_).trans shown, ended.request,
    ((s.swapClosed_follows p result).trans ended.follows).raises _ _ _ _ _⟩
  all_goals
    simp only [SwapKey, CASTLING_PAIR.SWAP_STATE, CASTLING_PAIR.SWAP_RESULT]
    omega

/-- ACTIVE of pair p names its other channel. -/
def State.activeTurned (s : State) (p : Nat) : State := s.setN (CASTLING_PAIR.ACTIVE p) (1 - min 1 (s.nat (CASTLING_PAIR.ACTIVE p)))

theorem State.activeTurned_stays (s : State) (p : Nat) : Leaves [each CASTLING_PAIR.ACTIVE] [] s (s.activeTurned p) := by
  have active : (each CASTLING_PAIR.ACTIVE).has (CASTLING_PAIR.ACTIVE p) := ⟨p, 0, by simp only [CASTLING_PAIR.ACTIVE]; omega⟩
  exact State.setN_leaves (.refl s) (covered_of active)

/-- The registers of a swap that is complete, once its outgoing channel has been told to turn off. -/
def State.swapDone (s : State) (p result : Nat) : State :=
  ((s.activeTurned p).swapClosed p result).wrapCount (CASTLING_PAIR.SWAP_COUNT p) 32

theorem State.swapDone_shows (s : State) (p result : Nat) :
    let t := s.swapDone p result
    t.nat (CASTLING_PAIR.SWAP_STATE p) = 0 ∧ t.nat (CASTLING_PAIR.SWAP_RESULT p) = result ∧
      t.nat (CASTLING_PAIR.SWAP_COUNT p) = (s.nat (CASTLING_PAIR.SWAP_COUNT p) + 1) % 2 ^ 32 := by
  obtain ⟨idle, shown⟩ := (s.activeTurned p).swapClosed_shows p result
  have count : ((s.activeTurned p).swapClosed p result).nat (CASTLING_PAIR.SWAP_COUNT p) = s.nat (CASTLING_PAIR.SWAP_COUNT p) :=
    (((s.activeTurned p).swapClosed_stays p result).nat_eq (outside_object (by decide) _)).trans
      ((s.activeTurned_stays p).nat_eq (outside_object (by decide) _))
  refine ⟨(State.nat_setN_other _ ?_).trans idle, (State.nat_setN_other _ ?_).trans shown, ?_⟩
  · simp only [CASTLING_PAIR.SWAP_STATE, CASTLING_PAIR.SWAP_COUNT]
    omega
  · simp only [CASTLING_PAIR.SWAP_RESULT, CASTLING_PAIR.SWAP_COUNT]
    omega
  · rw [State.swapDone, State.wrapCount, State.nat_setN_self, count]

/-- The completion leaves the REQUEST of a channel. -/
theorem State.swapDone_request (s : State) (p result : Nat) :
    (s.swapDone p result).nat (CHANNEL_CONFIG.REQUEST n) = s.nat (CHANNEL_CONFIG.REQUEST n) := by
  rw [State.swapDone, State.wrapCount, State.nat_setN_other,
    ((s.activeTurned p).swapClosed_stays p result).nat_eq (outside_object (by decide) _),
    (s.activeTurned_stays p).nat_eq (outside_object (by decide) _)]
  simp only [CHANNEL_CONFIG.REQUEST, CASTLING_PAIR.SWAP_COUNT]
  omega

/-- What a completion does before it says so. -/
theorem State.swapComplete_eq (swaps : s.nat (CASTLING_PAIR.SWAP_STATE p) = 2)
    (overlapped : s.nat (SWAP_ON_AT p) + s.nat (SWAP_OVER p) ≤ s.time) (hears : s.commands (s.swapOut p) = true)
    (hn : s.swapOut p < 512) : ∃ t fields, RequestEnded s (s.swapOut p) t ∧ s.swapComplete p =
      (t.swapDone p (if s.carries (s.swapOut p) then s.nat (SWAP_SIDE p) else 7)).raise .SWAP_DONE (siteChannel (s.swapIn p) 0)
        ((t.swapDone p (if s.carries (s.swapOut p) then s.nat (SWAP_SIDE p) else 7)).holderOfPair p) 0 fields := by
  have request := State.setRequest_ended s hn
  exact ⟨_, _, .ite request (request.requestOff hn), if_pos (by simp [swaps, overlapped, hears])⟩

/-- A swap that completes is over and counted, and the outgoing REQUEST is taken back (R152). -/
theorem State.swapComplete_shows (hp : p < 64) (swaps : s.nat (CASTLING_PAIR.SWAP_STATE p) = 2)
    (overlapped : s.nat (SWAP_ON_AT p) + s.nat (SWAP_OVER p) ≤ s.time) (hears : s.commands (s.swapOut p) = true)
    (hn : s.swapOut p < 512) :
    let t := s.swapComplete p
    t.nat (CASTLING_PAIR.SWAP_STATE p) = 0 ∧ t.nat (CHANNEL_CONFIG.REQUEST (s.swapOut p)) = 0 ∧
      t.nat (CASTLING_PAIR.SWAP_RESULT p) = (if s.carries (s.swapOut p) then s.nat (SWAP_SIDE p) else 7) ∧
      t.nat (CASTLING_PAIR.SWAP_COUNT p) = (s.nat (CASTLING_PAIR.SWAP_COUNT p) + 1) % 2 ^ 32 := by
  obtain ⟨t, fields, ended, completed⟩ := State.swapComplete_eq swaps overlapped hears hn
  obtain ⟨idle, shown, counted⟩ := t.swapDone_shows p (if s.carries (s.swapOut p) then s.nat (SWAP_SIDE p) else 7)
  have count : t.nat (CASTLING_PAIR.SWAP_COUNT p) = s.nat (CASTLING_PAIR.SWAP_COUNT p) := by
    refine ended.nat_eq ?_
    simp only [SwapKey, CASTLING_PAIR.SWAP_COUNT]
    omega
  rw [count] at counted
  simp only [completed, State.raise_nat]
  exact ⟨idle, (t.swapDone_request p _).trans ended.request, shown, counted⟩

end

/-- Settles O16: a lamp by the flags that its judgement puts, and a swap by what its completion or its abort makes of the REQUEST
that it takes back. -/
theorem lampsAndSwaps : Obligations.LampsAndSwaps := by
  unfold Obligations.LampsAndSwaps
  refine ⟨fun n s => ⟨fun envelope decayed => ?_, fun lamp judged low => ⟨?_, fun untold => ?_, fun told => ?_⟩⟩,
    fun p s => ⟨fun boundary swaps hn hears overlapped => ?_, fun waits hn late => ?_⟩⟩
  · exact ⟨_, congrArg Host.Outcome.next (State.lampEnds_eq envelope decayed), State.nat_setN_self _ _ _⟩
  · exact ⟨_, rfl, State.openLamp_shows lamp judged low⟩
  · refine ⟨_, congrArg Host.Outcome.next ((State.openLamp_eq lamp judged low).trans (if_neg (by simp [untold]))), ?_⟩
    exact ((DieFollows.refl s).quiet (s.lampTold_stays n)).raisesChannel n.isLt _ _ _ _
  · exact ⟨_, congrArg Host.Outcome.next ((State.openLamp_eq lamp judged low).trans (if_pos told)), rfl⟩
  · have completes : s.swapOverlapEnd p = s.swapComplete p := if_pos boundary
    exact ⟨_, congrArg Host.Outcome.next completes, State.swapComplete_shows p.isLt swaps overlapped hears hn⟩
  · have aborts : s.swapTimeout p = s.swapAbort p 2 := if_pos (by simp [waits, late])
    exact ⟨_, congrArg Host.Outcome.next aborts, s.swapAbort_shows p.isLt hn 2⟩

end Sys2Proof.Machine
end

section
/-!
CLAIM O20. Reset outputs: their release, FORCE as it lands, and the changes of a keeper hold.
-/
open Sys2Proof
namespace Sys2Proof.Machine

/-! ### Flags that are put -/

@[simp] theorem State.flag_setFlag_self (s : State) (k : Nat) (b : Bool) : (s.setFlag k b).flag k = b := by
  rw [State.setFlag, State.flag_setN_self]
  cases b <;> rfl

theorem State.flag_setFlag_other (s : State) {k j : Nat} {b : Bool} (h : k ≠ j) : (s.setFlag j b).flag k = s.flag k :=
  s.flag_setN_other h

section
variable {s : State} {r : Nat}

/-! ### An output that changes (R175, R180) -/

/-- Output r is put to on, with its stamp, and an assertion counts. -/
def State.rsoPut (s : State) (r : Nat) (on : Bool) : State :=
  let s := (s.setFlag (RESET_OUTPUT.OUTPUT r) on).setN (RESET_OUTPUT.LAST_CHANGE_STAMP r) s.stamp
  if on then s.count (RESET_OUTPUT.ASSERT_COUNT r) 0xFFFF else s

theorem State.rsoChange_eq {on : Bool} (h : s.flag (RESET_OUTPUT.OUTPUT r) ≠ on) (cause : Nat) :
    s.rsoChange r on cause = (s.rsoPut r on).raise .RSO_CHANGED (siteRso r) 0 0 [f8 r, f8 (bitOf on), f8 cause] := if_neg h

theorem State.rsoPut_shows (s : State) (r : Nat) (on : Bool) :
    (s.rsoPut r on).flag (RESET_OUTPUT.OUTPUT r) = on ∧ (s.rsoPut r on).nat (RESET_OUTPUT.LAST_CHANGE_STAMP r) = s.stamp := by
  unfold State.rsoPut
  extract_lets t
  have output : t.flag (RESET_OUTPUT.OUTPUT r) = on := by
    rw [State.flag_setN_other, State.flag_setFlag_self]
    simp only [RESET_OUTPUT.OUTPUT, RESET_OUTPUT.LAST_CHANGE_STAMP]
    omega
  have stamp : t.nat (RESET_OUTPUT.LAST_CHANGE_STAMP r) = s.stamp := State.nat_setN_self _ _ _
  cases on
  · exact ⟨output, stamp⟩
  · refine ⟨(State.flag_setN_other _ ?_).trans output, (State.nat_count_other _ ?_).trans stamp⟩
    all_goals
      simp only [RESET_OUTPUT.OUTPUT, RESET_OUTPUT.LAST_CHANGE_STAMP, RESET_OUTPUT.ASSERT_COUNT]
      omega

theorem State.rsoPut_counts (s : State) (r : Nat) : (s.rsoPut r true).nat (RESET_OUTPUT.ASSERT_COUNT r) =
    satTo 0xFFFF (s.nat (RESET_OUTPUT.ASSERT_COUNT r) + 1) := by
  rw [State.rsoPut, if_pos rfl, State.nat_count_self, State.nat_setN_other, State.setFlag, State.nat_setN_other]
  all_goals
    simp only [RESET_OUTPUT.OUTPUT, RESET_OUTPUT.LAST_CHANGE_STAMP, RESET_OUTPUT.ASSERT_COUNT]
    omega

theorem State.rsoPut_follows (s : State) (r : Nat) (on : Bool) : Follows s (s.rsoPut r on) := by
  unfold State.rsoPut
  extract_lets t
  have put : Follows s t := by
    refine ((Follows.refl s).set ?_).set ?_
    all_goals
      simp only [RESET_OUTPUT.OUTPUT, RESET_OUTPUT.LAST_CHANGE_STAMP, TICK_OFFSET, internal]
      omega
  cases on
  · exact put
  · refine put.set ?_
    simp only [RESET_OUTPUT.ASSERT_COUNT, TICK_OFFSET, internal]
    omega

/-- Whether it changes or not, the output is then as put. -/
theorem State.rsoChange_output (s : State) (r : Nat) (on : Bool) (cause : Nat) :
    (s.rsoChange r on cause).flag (RESET_OUTPUT.OUTPUT r) = on := by
  by_cases h : s.flag (RESET_OUTPUT.OUTPUT r) = on
  · rwa [show s.rsoChange r on cause = s from if_pos h]
  · rw [State.rsoChange_eq h]
    exact (s.rsoPut_shows r on).1

/-! ### Release (R176) -/

/-- The cause of a release: by the later of the two moments from which STRETCH runs. -/
def State.releaseCause (s : State) (r : Nat) : Nat := bitOf (s.nat (RSO_GOOD_SINCE r) ≤ s.nat (RSO_CLEAR_AT r))

section
variable (free : s.nat (inForce (RESET_OUTPUT.FORCE r)) = 0) (good : s.nat (RSO_GOOD_SINCE r) ≠ 0)
  (passed : max (s.nat (RSO_GOOD_SINCE r) - 1) (s.nat (RSO_CLEAR_AT r)) + 1000 * s.nat (RESET_OUTPUT.STRETCH r) ≤ s.time)
include free good passed

theorem State.rsoRelease_eq : s.rsoRelease r = s.rsoChange r false (s.releaseCause r) := if_pos (by simp [free, good, passed])

/-- An asserted output whose source has been good for STRETCH is released, with its stamp and a record. -/
theorem State.rsoRelease_releases (asserted : s.flag (RESET_OUTPUT.OUTPUT r) = true) :
    let t := s.rsoRelease r
    t.flag (RESET_OUTPUT.OUTPUT r) = false ∧ t.nat (RESET_OUTPUT.LAST_CHANGE_STAMP r) = s.stamp ∧
      Raises s t .RSO_CHANGED (siteRso r) 0 [f8 r, f8 0, f8 (s.releaseCause r)] := by
  intro t
  obtain ⟨output, stamp⟩ := s.rsoPut_shows r false
  have e : t = _ := (State.rsoRelease_eq free good passed).trans (State.rsoChange_eq (by simp [asserted]) _)
  rw [e]
  exact ⟨output, stamp, (s.rsoPut_follows r false).raises _ _ _ _ _⟩

end

theorem State.rsoRelease_waits (h : s.nat (inForce (RESET_OUTPUT.FORCE r)) ≠ 0 ∨ s.nat (RSO_GOOD_SINCE r) = 0) :
    s.rsoRelease r = s := if_neg (by rcases h with h | h <;> simp [h])

/-! ### The keeper (R178) -/

theorem State.keeperToggle_eq (holding : s.flag KEEPER_HOLDING = true) (keep : s.flag (RSO_KEEP r) = true)
    (passed : s.nat (RSO_TOGGLE_AT r) + 500000 ≤ s.time) : s.keeperToggle r =
      (s.setFlag (RESET_OUTPUT.OUTPUT r) (!s.flag (RESET_OUTPUT.OUTPUT r))).setN (RSO_TOGGLE_AT r) s.time :=
  if_pos (by simp [holding, keep, passed])

theorem State.keeperToggle_rests (h : s.flag (RSO_KEEP r) = false) : s.keeperToggle r = s := if_neg (by simp [h])

theorem State.keeperToggle_toggles (holding : s.flag KEEPER_HOLDING = true) (keep : s.flag (RSO_KEEP r) = true)
    (passed : s.nat (RSO_TOGGLE_AT r) + 500000 ≤ s.time) :
    (s.keeperToggle r).flag (RESET_OUTPUT.OUTPUT r) = !s.flag (RESET_OUTPUT.OUTPUT r) ∧
      (s.keeperToggle r).nat (RSO_TOGGLE_AT r) = s.time := by
  rw [State.keeperToggle_eq holding keep passed]
  refine ⟨(State.flag_setN_other _ ?_).trans (State.flag_setFlag_self _ _ _), State.nat_setN_self _ _ _⟩
  simp only [RESET_OUTPUT.OUTPUT, RSO_TOGGLE_AT, internal]
  omega

/-! ### FORCE takes effect (R177) -/

theorem State.rsoForce_one (s : State) (r : Nat) :
    s.rsoForce r 1 = (s.setN (inForce (RESET_OUTPUT.FORCE r)) 1).rsoChange r true 1 := by
  rw [State.rsoForce, if_pos rfl]

theorem State.rsoForce_zero (s : State) (r : Nat) :
    s.rsoForce r 0 = (s.setN (inForce (RESET_OUTPUT.FORCE r)) 0).setN (RSO_CLEAR_AT r) s.time := by
  rw [State.rsoForce, if_neg Nat.zero_ne_one, State.setN_time]

theorem State.rsoForce_asserts (s : State) (r : Nat) :
    let t := s.rsoForce r 1
    t.nat (inForce (RESET_OUTPUT.FORCE r)) = 1 ∧ t.flag (RESET_OUTPUT.OUTPUT r) = true ∧
      (s.flag (RESET_OUTPUT.OUTPUT r) = false →
        t.nat (RESET_OUTPUT.ASSERT_COUNT r) = satTo 0xFFFF (s.nat (RESET_OUTPUT.ASSERT_COUNT r) + 1)) := by
  simp only [State.rsoForce_one]
  refine ⟨?_, State.rsoChange_output _ _ _ _, fun released => ?_⟩
  · rw [(State.rsoChange_leaves r true 1 (.refl _) .refl fun _ h => h).nat_eq, State.nat_setN_self]
    simp only [outside_cons, outside_nil, RESET_OUTPUT.OUTPUT, RESET_OUTPUT.LAST_CHANGE_STAMP, RESET_OUTPUT.ASSERT_COUNT,
      RESET_OUTPUT.FORCE, inForce, and_true]
    and_intros <;> intros <;> omega
  · rw [State.rsoChange_eq, State.raise_nat, State.rsoPut_counts, State.nat_setN_other]
    · simp only [RESET_OUTPUT.ASSERT_COUNT, RESET_OUTPUT.FORCE, inForce]
      omega
    · rw [State.flag_setN_other, released]
      · exact Bool.false_ne_true
      · simp only [RESET_OUTPUT.OUTPUT, RESET_OUTPUT.FORCE, inForce]
        omega

theorem State.rsoForce_clears (s : State) (r : Nat) :
    let t := s.rsoForce r 0
    t.nat (inForce (RESET_OUTPUT.FORCE r)) = 0 ∧ t.flag (RESET_OUTPUT.OUTPUT r) = s.flag (RESET_OUTPUT.OUTPUT r) ∧
      t.nat (RSO_CLEAR_AT r) = s.time := by
  simp only [State.rsoForce_zero]
  refine ⟨?_, ?_, State.nat_setN_self _ _ _⟩
  · rw [State.nat_setN_other, State.nat_setN_self]
    simp only [RESET_OUTPUT.FORCE, RSO_CLEAR_AT, inForce, internal]
    omega
  · rw [State.flag_setN_other, State.flag_setN_other]
    all_goals
      simp only [RESET_OUTPUT.OUTPUT, RESET_OUTPUT.FORCE, RSO_CLEAR_AT, inForce, internal]
      omega

/-- R34: FORCE of an output lands by taking effect; before that no register but FORCE itself may change. -/
theorem State.landValue_force (s : State) (u : Nat) (r : Rso) (v : Int) :
    ∃ x, Leaves [one (RESET_OUTPUT.FORCE r)] [] s x ∧ s.landValue u (RESET_OUTPUT.FORCE r) v = x.rsoForce r v.toNat := by
  have index : RESET_OUTPUT.FORCE r / 256 = 0x3A00 + r := by
    simp only [RESET_OUTPUT.FORCE]
    omega
  have notKept (x : State) : x.notKept (RESET_OUTPUT.FORCE r) = x := by
    have none : keptObject (RESET_OUTPUT.FORCE r) = none := if_pos (by
      simp only [index, Bool.or_eq_true, decide_eq_true_eq]
      omega)
    rw [State.notKept, none]
  unfold State.landValue
  extract_lets later x idx
  have idxEq : idx = 0x3A00 + r.val := index
  refine ⟨x, ?_, ?_⟩
  · simp only [x, notKept]
    exact .ite (.refl s) (State.set_leaves (.refl s) .here)
  · rw [idxEq, if_neg, if_pos, Nat.add_sub_cancel_left]
    · omega
    · simp only [Bool.and_eq_true, decide_eq_true_eq]
      omega

end

/-- Settles O20: an output by the change that its release or its FORCE makes. -/
theorem resetOutputs : Obligations.ResetOutputs := by
  unfold Obligations.ResetOutputs
  intro r u s
  refine ⟨fun free good asserted passed => ?_, fun h => congrArg Host.Outcome.next (State.rsoRelease_waits h),
    fun holding keep passed => ⟨_, rfl, State.keeperToggle_toggles holding keep passed⟩,
    fun h => congrArg Host.Outcome.next (State.keeperToggle_rests h), ?_, ?_⟩
  · obtain ⟨output, stamp, raised⟩ := State.rsoRelease_releases free good passed asserted
    exact ⟨_, rfl, output, stamp, _, raised⟩
  · obtain ⟨x, before, e⟩ := s.landValue_force u r 1
    obtain ⟨forced, asserted, counts⟩ := x.rsoForce_asserts r
    have output : x.flag (RESET_OUTPUT.OUTPUT r) = s.flag (RESET_OUTPUT.OUTPUT r) :=
      before.flag_eq (outside_one (by simp only [RESET_OUTPUT.OUTPUT, RESET_OUTPUT.FORCE]; omega) (outside_none _))
    have count : x.nat (RESET_OUTPUT.ASSERT_COUNT r) = s.nat (RESET_OUTPUT.ASSERT_COUNT r) :=
      before.nat_eq (outside_one (by simp only [RESET_OUTPUT.ASSERT_COUNT, RESET_OUTPUT.FORCE]; omega) (outside_none _))
    rw [e]
    exact ⟨forced, asserted, fun released => (counts (output.trans released)).trans (by rw [count])⟩
  · obtain ⟨x, before, e⟩ := s.landValue_force u r 0
    obtain ⟨forced, same, cleared⟩ := x.rsoForce_clears r
    have output : x.flag (RESET_OUTPUT.OUTPUT r) = s.flag (RESET_OUTPUT.OUTPUT r) :=
      before.flag_eq (outside_one (by simp only [RESET_OUTPUT.OUTPUT, RESET_OUTPUT.FORCE]; omega) (outside_none _))
    rw [e]
    exact ⟨forced, same.trans output, cleared.trans before.time_eq⟩

end Sys2Proof.Machine
end

section
/-!
CLAIM O19. The window of a channel: what sets and what clears UNDER and OVER, and GOOD as it follows.
-/
open Sys2Proof
namespace Sys2Proof.Machine

section
variable {s t : State} {n b c : Nat}

/-! ### GOOD follows (R170, R171) -/

theorem putBit_testBit_id (v b : Nat) : putBit v b (v.testBit b) = v := by
  unfold putBit
  split <;> rfl

theorem State.setBit_window (s : State) (n b : Nat) (on : Bool) :
    (s.setBit (WIN n) b on).nat (WIN n) = putBit (s.nat (WIN n)) b on := s.nat_setN_self _ _

theorem State.nat_raiseChannel (s : State) (k : Kind) (n e obj j : Nat) (fields : List (Nat × Int)) :
    (s.raiseChannel k n e obj fields).nat j = s.nat j := s.raiseDie_nat _ _ _ _ _ _ _

/-- As GOOD follows, no other bit of the window changes. -/
theorem State.updateGood_window (s : State) (n : Nat) :
    (s.updateGood n).nat (WIN n) = putBit (s.nat (WIN n)) WFLAG.GOOD (s.goodNow n) := by
  unfold State.updateGood
  split
  next same => rw [same, State.isGood, State.bit, putBit_testBit_id]
  next =>
    extract_lets s1 s2
    have here : s2.nat (WIN n) = putBit (s.nat (WIN n)) WFLAG.GOOD (s.goodNow n) := by
      rw [State.nat_raiseChannel, State.setBit_window]
    refine forBelow_induct (P := fun x => x.nat (WIN n) = putBit (s.nat (WIN n)) WFLAG.GOOD (s.goodNow n)) here
      fun r _ x hx => .trans ?_ hx
    refine (State.rsoFollow_leaves r (.refl x) .refl fun _ h => h).nat_eq ?_
    simp only [outside_cons, outside_nil, RESET_OUTPUT.ASSERT_COUNT, RESET_OUTPUT.LAST_CHANGE_STAMP, RESET_OUTPUT.OUTPUT,
      RSO_GOOD_SINCE, WIN, internal, and_true]
    and_intros <;> intros <;> omega

theorem State.updateGood_isGood (s : State) (n : Nat) : (s.updateGood n).isGood n = s.goodNow n := by
  rw [State.isGood, State.bit, s.updateGood_window, putBit_testBit_self]

theorem State.updateGood_bit (s : State) (n : Nat) (h : b ≠ WFLAG.GOOD) : (s.updateGood n).bit (WIN n) b = s.bit (WIN n) b := by
  rw [State.bit, s.updateGood_window, putBit_testBit_other h, State.bit]

/-- R170: GOOD of a channel whose window judges. -/
theorem State.goodNow_judged (h : s.nat (CHANNEL_SUPERVISION.WINDOW_MODE n) = 1) : s.goodNow n =
    (s.bit (WIN n) WFLAG.LOWER_JUDGING && !s.bit (WIN n) WFLAG.UNDER && !s.bit (WIN n) WFLAG.OVER) := if_pos h

/-! ### A threshold that sets its flag (R169, R171) -/

/-- A flag of the window is set and its counter counts, before GOOD follows. -/
def State.windowCrossed (s : State) (n c b : Nat) : State :=
  (s.count ((0x3600 + n) * 256 + c) 0xFFFF).setBit (WIN n) b true

/-- Flag b of the window is set, counter c counts, and the value judged last is raised beside the level. -/
def State.windowTold (s : State) (n c b level : Nat) (k : Kind) : State :=
  let u := s.count ((0x3600 + n) * 256 + c) 0xFFFF
  (s.windowCrossed n c b).raiseChannel k n 0 0 [f32 (u.get (WIN_LAST n)), f32 (u.get ((0x3600 + n) * 256 + level))]

theorem State.windowCrossed_stays (s : State) (n c b : Nat) :
    Leaves [one ((0x3600 + n) * 256 + c), one (WIN n)] [] s (s.windowCrossed n c b) :=
  State.setBit_leaves (State.count_leaves (.refl s) .here) Covered.here.next

theorem State.windowTold_nat (s : State) (n c b level : Nat) (k : Kind) (j : Nat) :
    (s.windowTold n c b level k).nat j = (s.windowCrossed n c b).nat j := State.nat_raiseChannel _ _ _ _ _ _ _

theorem State.windowTold_bit (s : State) (n c b level : Nat) (k : Kind) (j i : Nat) :
    (s.windowTold n c b level k).bit j i = (s.windowCrossed n c b).bit j i := by
  rw [State.bit, State.windowTold_nat, State.bit]

theorem State.windowTold_raises (s : State) (hn : n < 512) (hc : c < 256) {level : Nat} (hl : level ≠ c) (k : Kind) :
    DieRaises s (s.windowTold n c b level k) (dieOf n) k (siteChannel n 0) (s.holderOfChannel n)
      [f16 n, f32 (s.get (WIN_LAST n)), f32 (s.get ((0x3600 + n) * 256 + level))] := by
  have stays := s.windowCrossed_stays n c b
  have crossed : DieFollows s (s.windowCrossed n c b) := by
    refine ⟨stays.time_eq, fun j hj => stays.get_eq ?_, (DieGrows.refl s).quiet stays⟩
    simp only [SendKey, DIE_OFFSET, internal] at hj
    simp only [outside_cons, outside_nil, WIN, internal, and_true]
    and_intros <;> intros <;> omega
  have last : (s.count ((0x3600 + n) * 256 + c) 0xFFFF).get (WIN_LAST n) = s.get (WIN_LAST n) :=
    s.get_count_other (by simp only [WIN_LAST, internal]; omega)
  have threshold : (s.count ((0x3600 + n) * 256 + c) 0xFFFF).get ((0x3600 + n) * 256 + level) = s.get ((0x3600 + n) * 256 + level) :=
    s.get_count_other (by omega)
  simp only [State.windowTold, last, threshold]
  exact crossed.raisesChannel hn k 0 0 _

/-- Flag, counter, GOOD and record of a threshold that is crossed. -/
theorem State.windowTold_shows (s : State) (hn : n < 512) (judged : s.nat (CHANNEL_SUPERVISION.WINDOW_MODE n) = 1)
    (hc : 1 < c ∧ c < 256) (hb : b = WFLAG.UNDER ∨ b = WFLAG.OVER) {level : Nat} (hl : level ≠ c) (k : Kind) :
    let t := (s.windowTold n c b level k).updateGood n
    t.bit (WIN n) b = true ∧ t.isGood n = false ∧
      t.nat ((0x3600 + n) * 256 + c) = satTo 0xFFFF (s.nat ((0x3600 + n) * 256 + c) + 1) ∧
      DieRaises s t (dieOf n) k (siteChannel n 0) (s.holderOfChannel n)
        [f16 n, f32 (s.get (WIN_LAST n)), f32 (s.get ((0x3600 + n) * 256 + level))] := by
  have set : (s.windowTold n c b level k).bit (WIN n) b = true := (State.windowTold_bit _ _ _ _ _ _ _ _).trans (State.bit_setBit_self _)
  have mode : (s.windowTold n c b level k).nat (CHANNEL_SUPERVISION.WINDOW_MODE n) = 1 := by
    rw [State.windowTold_nat, (s.windowCrossed_stays n c b).nat_eq, judged]
    simp only [outside_cons, outside_nil, CHANNEL_SUPERVISION.WINDOW_MODE, WIN, internal, and_true]
    and_intros <;> intros <;> omega
  refine ⟨?_, ?_, ?_, (State.windowTold_raises s hn hc.2 hl k).mono ((DieGrows.refl _).updateGood n)⟩
  · rw [State.updateGood_bit, set]
    rcases hb with rfl | rfl <;> decide
  · rw [State.updateGood_isGood, State.goodNow_judged mode]
    rcases hb with rfl | rfl <;> simp [set]
  · rw [(State.updateGood_leaves n (.refl _) .refl fun _ h => h).nat_eq, State.windowTold_nat, State.windowCrossed, State.setBit,
      State.nat_setN_other, State.nat_count_self]
    · simp only [WIN, internal]
      omega
    · simp only [outside_cons, outside_nil, RESET_OUTPUT.ASSERT_COUNT, RESET_OUTPUT.LAST_CHANGE_STAMP, RESET_OUTPUT.OUTPUT,
        RSO_GOOD_SINCE, WIN, internal, and_true]
      and_intros <;> intros <;> omega

/-- UV_SET_FILTER consecutive values below UV_LEVEL. -/
theorem State.undervoltage_eq (judged : s.nat (CHANNEL_SUPERVISION.WINDOW_MODE n) = 1) (clear : s.bit (WIN n) WFLAG.UNDER = false)
    (filtered : s.nat (CHANNEL_SUPERVISION.UV_SET_FILTER n) ≤ s.nat (WIN_COUNT n 0)) :
    s.undervoltage n = (s.windowTold n 16 WFLAG.UNDER 2 .UNDERVOLTAGE).updateGood n := by
  have counted : (s.count (CHANNEL_SUPERVISION.UV_COUNT n) 0xFFFF).bit (WIN n) WFLAG.UNDER = false := by
    rw [State.bit, State.nat_count_other]
    · exact clear
    · simp only [CHANNEL_SUPERVISION.UV_COUNT, WIN, internal]
      omega
  rw [State.undervoltage, if_pos (by simp [judged, clear, filtered]), State.setUnder, if_neg (by simp [counted])]
  rfl

/-- OV_SET_FILTER consecutive values above OV_LEVEL. -/
theorem State.overvoltage_eq (judged : s.nat (CHANNEL_SUPERVISION.WINDOW_MODE n) = 1) (clear : s.bit (WIN n) WFLAG.OVER = false)
    (filtered : s.nat (CHANNEL_SUPERVISION.OV_SET_FILTER n) ≤ s.nat (WIN_COUNT n 3)) :
    s.overvoltage n = (s.windowTold n 17 WFLAG.OVER 4 .OVERVOLTAGE).updateGood n := by
  have counted : (s.count (CHANNEL_SUPERVISION.OV_COUNT n) 0xFFFF).bit (WIN n) WFLAG.OVER = false := by
    rw [State.bit, State.nat_count_other]
    · exact clear
    · simp only [CHANNEL_SUPERVISION.OV_COUNT, WIN, internal]
      omega
  rw [State.overvoltage, if_pos (by simp [judged, clear, filtered]), State.setOver, if_neg (by simp [counted])]
  rfl

/-! ### A threshold that clears its flag (R169) -/

/-- UNDER and OVER change in the window alone, and are as put also where they do not change. -/
theorem State.setUnder_window (s : State) (n : Nat) (on : Bool) :
    (s.setUnder n on).nat (WIN n) = putBit (s.nat (WIN n)) WFLAG.UNDER on := by
  unfold State.setUnder
  split
  next same => rw [← same, State.bit, putBit_testBit_id]
  next => rw [State.nat_raiseChannel, State.setBit_window]

theorem State.setOver_window (s : State) (n : Nat) (on : Bool) :
    (s.setOver n on).nat (WIN n) = putBit (s.nat (WIN n)) WFLAG.OVER on := by
  unfold State.setOver
  split
  next same => rw [← same, State.bit, putBit_testBit_id]
  next => rw [State.nat_raiseChannel, State.setBit_window]

/-- What a window shows of which flag b and its near flag have been cleared in t. -/
theorem State.windowCleared_shows {near : Nat} (h : t.nat (WIN n) = putBit (putBit (s.nat (WIN n)) near false) b false)
    (judged : t.nat (CHANNEL_SUPERVISION.WINDOW_MODE n) = 1) (hb : b ≠ WFLAG.GOOD) (hn : near ≠ WFLAG.GOOD) (ne : near ≠ b) :
    (t.updateGood n).bit (WIN n) b = false ∧ (t.updateGood n).bit (WIN n) near = false ∧
      (t.updateGood n).isGood n =
        (t.bit (WIN n) WFLAG.LOWER_JUDGING && !t.bit (WIN n) WFLAG.UNDER && !t.bit (WIN n) WFLAG.OVER) ∧
      t.bit (WIN n) b = false ∧ ∀ c, c ≠ b → c ≠ near → t.bit (WIN n) c = s.bit (WIN n) c := by
  have cleared : t.bit (WIN n) b = false := by rw [State.bit, h, putBit_testBit_self]
  refine ⟨(t.updateGood_bit n hb).trans cleared, (t.updateGood_bit n hn).trans ?_,
    (t.updateGood_isGood n).trans (State.goodNow_judged judged), cleared, fun c hc hcn => ?_⟩
  · rw [State.bit, h, putBit_testBit_other ne, putBit_testBit_self]
  · rw [State.bit, h, putBit_testBit_other hc, putBit_testBit_other hcn, State.bit]

theorem window_mode_ne_window (n : Nat) : CHANNEL_SUPERVISION.WINDOW_MODE n ≠ WIN n := by
  simp only [CHANNEL_SUPERVISION.WINDOW_MODE, WIN, internal]
  omega

/-- UV_CLEAR_FILTER consecutive values at or above the upper hysteresis. -/
theorem State.underCleared_clears (judged : s.nat (CHANNEL_SUPERVISION.WINDOW_MODE n) = 1)
    (filtered : s.nat (CHANNEL_SUPERVISION.UV_CLEAR_FILTER n) ≤ s.nat (WIN_COUNT n 2)) :
    let t := s.underCleared n
    t.bit (WIN n) WFLAG.UNDER = false ∧ t.bit (WIN n) WFLAG.NEAR_LOW = false ∧
      t.isGood n = (s.bit (WIN n) WFLAG.LOWER_JUDGING && !s.bit (WIN n) WFLAG.OVER) := by
  have e : s.underCleared n = ((s.setBit (WIN n) WFLAG.NEAR_LOW false).setUnder n false).updateGood n :=
    if_pos (by simp [judged, filtered])
  have window : ((s.setBit (WIN n) WFLAG.NEAR_LOW false).setUnder n false).nat (WIN n) =
      putBit (putBit (s.nat (WIN n)) WFLAG.NEAR_LOW false) WFLAG.UNDER false := by
    rw [State.setUnder_window, State.setBit_window]
  obtain ⟨flag, near, good, clear, others⟩ := State.windowCleared_shows window
    ((State.setUnder_leaves n false (State.setBit_leaves (.refl s) .here) .refl fun _ h => h).nat_eq
      (outside_one (window_mode_ne_window n) (outside_none _)) |>.trans judged) (by decide) (by decide) (by decide)
  rw [clear, others _ (by decide) (by decide), others _ (by decide) (by decide), Bool.not_false, Bool.and_true] at good
  rw [e]
  exact ⟨flag, near, good⟩

/-- OV_CLEAR_FILTER consecutive values at or below the lower hysteresis. -/
theorem State.overCleared_clears (judged : s.nat (CHANNEL_SUPERVISION.WINDOW_MODE n) = 1)
    (filtered : s.nat (CHANNEL_SUPERVISION.OV_CLEAR_FILTER n) ≤ s.nat (WIN_COUNT n 5)) :
    let t := s.overCleared n
    t.bit (WIN n) WFLAG.OVER = false ∧ t.bit (WIN n) WFLAG.NEAR_HIGH = false ∧
      t.isGood n = (s.bit (WIN n) WFLAG.LOWER_JUDGING && !s.bit (WIN n) WFLAG.UNDER) := by
  have e : s.overCleared n = ((s.setBit (WIN n) WFLAG.NEAR_HIGH false).setOver n false).updateGood n :=
    if_pos (by simp [judged, filtered])
  have window : ((s.setBit (WIN n) WFLAG.NEAR_HIGH false).setOver n false).nat (WIN n) =
      putBit (putBit (s.nat (WIN n)) WFLAG.NEAR_HIGH false) WFLAG.OVER false := by
    rw [State.setOver_window, State.setBit_window]
  obtain ⟨flag, near, good, clear, others⟩ := State.windowCleared_shows window
    ((State.setOver_leaves n false (State.setBit_leaves (.refl s) .here) .refl fun _ h => h).nat_eq
      (outside_one (window_mode_ne_window n) (outside_none _)) |>.trans judged) (by decide) (by decide) (by decide)
  rw [clear, others _ (by decide) (by decide), others _ (by decide) (by decide), Bool.not_false, Bool.and_true] at good
  rw [e]
  exact ⟨flag, near, good⟩

/-! ### Without a window (R170) -/

/-- With WINDOW_MODE 0 nothing is judged. -/
theorem State.window_rests (h : s.nat (CHANNEL_SUPERVISION.WINDOW_MODE n) ≠ 1) :
    s.undervoltage n = s ∧ s.overvoltage n = s ∧ s.underCleared n = s ∧ s.overCleared n = s :=
  ⟨if_neg (by simp [h]), if_neg (by simp [h]), if_neg (by simp [h]), if_neg (by simp [h])⟩

end

/-- Settles O19: a threshold by the flag that it sets or clears in the window, from which GOOD follows. -/
theorem windows : Obligations.Windows := by
  unfold Obligations.Windows
  intro n s
  refine ⟨fun judged => ⟨fun clear filtered => ?_, fun clear filtered => ?_, fun filtered => ?_, fun filtered => ?_⟩, fun off => ?_⟩
  · exact ⟨_, congrArg Host.Outcome.next (State.undervoltage_eq judged clear filtered),
      s.windowTold_shows n.isLt judged (by decide) (.inl rfl) (by decide) _⟩
  · exact ⟨_, congrArg Host.Outcome.next (State.overvoltage_eq judged clear filtered),
      s.windowTold_shows n.isLt judged (by decide) (.inr rfl) (by decide) _⟩
  · exact ⟨_, rfl, State.underCleared_clears judged filtered⟩
  · exact ⟨_, rfl, State.overCleared_clears judged filtered⟩
  · obtain ⟨undervoltage, overvoltage, underCleared, overCleared⟩ := State.window_rests off
    exact ⟨congrArg Host.Outcome.next undervoltage, congrArg Host.Outcome.next overvoltage,
      congrArg Host.Outcome.next underCleared, congrArg Host.Outcome.next overCleared⟩

end Sys2Proof.Machine
end

section
/-!
CLAIM O32. The record store: what every 10 minutes writes, the write that completes, and a battery that is replaced.
-/
open Sys2Proof
namespace Sys2Proof.Machine

theorem Inside.of_subset {a b : List Span} (h : a ⊆ b := by decide) : Inside a b := fun _ ⟨x, hx, hk⟩ => ⟨x, h hx, hk⟩

section
variable (s : State)

/-! ### A write of the record (R258) -/

/-- The write in progress is complete, before it is recorded. -/
def State.recordDone : State :=
  let t := (s.setN BATTERY_RECORD.SEQUENCE (s.nat STORE_BUSY)).setN STORE_BUSY 0
  (t.setN (STORE_SEQ (t.nat STORE_SIDE)) (s.nat STORE_BUSY)).setN STORE_SIDE (1 - t.nat STORE_SIDE)

theorem State.recordWritten_busy (h : s.flag STORE_BUSY = true) :
    s.recordWritten = s.recordDone.raiseEst .BATTERY_RECORD_WRITTEN [f32 (s.nat STORE_BUSY)] := if_pos h

theorem State.recordWritten_idle (h : s.flag STORE_BUSY = false) : s.recordWritten = s := if_neg (by simp [h])

theorem State.recordDone_shows : s.recordDone.nat BATTERY_RECORD.SEQUENCE = s.nat STORE_BUSY ∧ s.recordDone.flag STORE_BUSY = false ∧
    s.recordDone.nat STORE_SIDE = 1 - s.nat STORE_SIDE := by
  unfold State.recordDone
  extract_lets t
  have side : t.nat STORE_SIDE = s.nat STORE_SIDE :=
    (State.nat_setN_other _ (by decide)).trans (State.nat_setN_other _ (by decide))
  refine ⟨?_, ?_, (State.nat_setN_self _ _ _).trans (by rw [side])⟩
  · rw [State.nat_setN_other, State.nat_setN_other, State.nat_setN_other, State.nat_setN_self]
    · decide
    · simp only [BATTERY_RECORD.SEQUENCE, STORE_SEQ, internal]
      omega
    · decide
  · rw [State.flag_setN_other, State.flag_setN_other, State.flag_setN_self]
    · rfl
    · simp only [STORE_BUSY, STORE_SEQ, internal]
      omega
    · decide

theorem State.recordDone_follows : Follows s s.recordDone := by
  refine ((((Follows.refl s).set ?_).set ?_).set ?_).set ?_
  · decide
  · decide
  · simp only [STORE_SEQ, TICK_OFFSET, internal]
    omega
  · decide

/-- The write that completes advances SEQUENCE, goes on to the other copy, and says so. -/
theorem State.recordWritten_shows (busy : s.flag STORE_BUSY = true) :
    let t := s.recordWritten
    t.nat BATTERY_RECORD.SEQUENCE = s.nat STORE_BUSY ∧ t.flag STORE_BUSY = false ∧ t.nat STORE_SIDE = 1 - s.nat STORE_SIDE ∧
      Raises s t .BATTERY_RECORD_WRITTEN siteEstimator 0 [f32 (s.nat STORE_BUSY)] := by
  intro t
  obtain ⟨sequence, idle, side⟩ := s.recordDone_shows
  have e : t = s.recordDone.raise .BATTERY_RECORD_WRITTEN siteEstimator 0 0 [f32 (s.nat STORE_BUSY)] := s.recordWritten_busy busy
  rw [e]
  refine ⟨?_, ?_, ?_, s.recordDone_follows.raises _ _ _ _ _⟩
  · rw [State.raise_nat, sequence]
  · rw [State.flag, State.raise_get, ← State.flag, idle]
  · rw [State.raise_nat, side]

/-- A write that starts while none is in progress takes the next number of SEQUENCE. -/
theorem State.recordWrite_starts (on : s.flag STORE_OFF = false) (idle : s.flag STORE_BUSY = false) :
    s.recordWrite.nat STORE_BUSY = s.nat BATTERY_RECORD.SEQUENCE + 1 := by
  rw [State.recordWrite, if_neg (by simp [on]), s.recordWritten_idle idle, State.setBlob_nat, State.nat_setN_self]

/-! ### The write of every 10 minutes (R181, R258) -/

/-- The trips of channel n go to its lifetime trips. -/
def State.tripsStored (n : Nat) : State :=
  (s.setN (LIFE_STORED n) (satTo 0xFFFFFFFF (s.nat (LIFE_STORED n) + s.nat (LIFE_NEW n)))).setN (LIFE_NEW n) 0

theorem State.storeTrips_eq (on : s.flag STORE_OFF = false) : s.storeTrips = forBelow 512 (fun n x => x.tripsStored n) s :=
  if_neg (by simp [on])

/-- The trips of channel n, stored and new, are in x as they were in s. -/
def TripsKept (n : Nat) (s x : State) : Prop :=
  x.nat (LIFE_NEW n) = s.nat (LIFE_NEW n) ∧ x.nat (LIFE_STORED n) = s.nat (LIFE_STORED n)

/-- The new trips of channel n in s are stored in x. -/
def TripsStored (n : Nat) (s x : State) : Prop :=
  x.nat (LIFE_NEW n) = 0 ∧ x.nat (LIFE_STORED n) = satTo 0xFFFFFFFF (s.nat (LIFE_STORED n) + s.nat (LIFE_NEW n))

theorem State.tripsStored_other {m n : Nat} (h : m ≠ n) : TripsKept n s (s.tripsStored m) := by
  unfold State.tripsStored
  constructor <;>
    simp (disch := (simp only [LIFE_NEW, LIFE_STORED, internal]; omega)) only [State.nat_setN_other]

theorem State.tripsStored_self (n : Nat) : TripsStored n s (s.tripsStored n) := by
  refine ⟨State.nat_setN_self _ _ _, (State.nat_setN_other _ ?_).trans (State.nat_setN_self _ _ _)⟩
  simp only [LIFE_NEW, LIFE_STORED, internal]
  omega

theorem State.storeTrips_shows (on : s.flag STORE_OFF = false) {n : Nat} (hn : n < 512) : TripsStored n s s.storeTrips := by
  rw [s.storeTrips_eq on]
  have before (m : Nat) (hm : m ≠ n) (x : State) (hx : TripsKept n s x) : TripsKept n s (x.tripsStored m) :=
    ⟨(x.tripsStored_other hm).1.trans hx.1, (x.tripsStored_other hm).2.trans hx.2⟩
  have here (x : State) (hx : TripsKept n s x) : TripsStored n s (x.tripsStored n) := by
    rw [TripsStored, ← hx.1, ← hx.2]
    exact x.tripsStored_self n
  have after (m : Nat) (hm : m ≠ n) (x : State) (hx : TripsStored n s x) : TripsStored n s (x.tripsStored m) :=
    ⟨(x.tripsStored_other hm).1.trans hx.1, (x.tripsStored_other hm).2.trans hx.2⟩
  exact forEach_meets (List.mem_range.2 hn) List.nodup_range ⟨rfl, rfl⟩ (fun m _ => before m) here fun m _ => after m

theorem State.storePeriodic_eq (live : s.live = true) (due : s.nat STORE_AT + 600000000 ≤ s.time) :
    s.storePeriodic = (s.setN STORE_AT s.time).storeTrips.recordWrite := if_pos (by simp [live, due])

/-- Every 10 minutes of powered time the lifetime trips are stored, and a write of the battery record starts. -/
theorem State.storePeriodic_stores (live : s.live = true) (due : s.nat STORE_AT + 600000000 ≤ s.time) :
    let t := s.storePeriodic
    t.nat STORE_AT = s.time ∧
      (s.flag STORE_OFF = false →
        (∀ n < 512, t.nat (LIFE_NEW n) = 0 ∧
          t.nat (LIFE_STORED n) = satTo 0xFFFFFFFF (s.nat (LIFE_STORED n) + s.nat (LIFE_NEW n))) ∧
        (s.flag STORE_BUSY = false → t.nat STORE_BUSY = s.nat BATTERY_RECORD.SEQUENCE + 1)) := by
  intro t
  have e : t = _ := s.storePeriodic_eq live due
  rw [e]
  have trips := State.storeTrips_leaves (.refl (s.setN STORE_AT s.time)) .refl (L := [])
  have write := State.recordWrite_leaves (.refl (s.setN STORE_AT s.time).storeTrips) .refl fun _ h => h
  refine ⟨?_, fun on => ?_⟩
  · rw [write.nat_eq (outside_of_clears (by decide)), trips.nat_eq (outside_of_clears (by decide)), State.nat_setN_self]
  · have flag {k : Nat} (hk : k ≠ STORE_AT) : (s.setN STORE_AT s.time).flag k = s.flag k := State.flag_setN_other _ hk
    refine ⟨fun n hn => ?_, fun idle => ?_⟩
    · obtain ⟨new, stored⟩ := State.storeTrips_shows (s.setN STORE_AT s.time) ((flag (by decide)).trans on) hn
      rw [State.nat_setN_other, State.nat_setN_other] at stored
      · rw [write.nat_eq (outside_internal (by decide) n), write.nat_eq (outside_internal (by decide) n)]
        exact ⟨new, stored⟩
      all_goals
        simp only [LIFE_NEW, LIFE_STORED, STORE_AT, internal]
        omega
    · rw [State.recordWrite_starts, trips.nat_eq (outside_of_clears (by decide)), State.nat_setN_other]
      · decide
      · rw [trips.flag_eq (outside_of_clears (by decide)), flag (by decide), on]
      · rw [trips.flag_eq (outside_of_clears (by decide)), flag (by decide), idle]

/-! ### BATTERY_REPLACED lands (R259, R261) -/

/-- An empty record holds no capacity, no resistance and no time. -/
theorem State.recordEmpty_shows : s.recordEmpty.nat ESTIMATOR_STATUS.LEARNED_CAPACITY = 0 ∧
    s.recordEmpty.nat ESTIMATOR_STATUS.RESISTANCE = 0 ∧ s.recordEmpty.nat REC_UNBINNED = 0 := by
  unfold State.recordEmpty
  extract_lets s1 s2 s3 s4 s5
  have grid : Leaves [each REC_GRID, each REC_HIST] [] (s4.setN REC_UNBINNED 0) s5 :=
    forBelow_leaves (.refl _) fun b _ h => State.setN_leaves h (covered_of (REC_GRID_has b))
  have bins : Leaves [each REC_GRID, each REC_HIST] [] (s4.setN REC_UNBINNED 0) (forBelow 32 (fun b s => s.setN (REC_HIST b) 0) s5) :=
    forBelow_leaves grid fun b _ h => State.setN_leaves h (covered_of (REC_HIST_has b))
  refine ⟨(bins.nat_eq (outside_of_clears (by decide))).trans ?_, (bins.nat_eq (outside_of_clears (by decide))).trans ?_,
    (bins.nat_eq (outside_of_clears (by decide))).trans (State.nat_setN_self _ _ _)⟩
  · rw [State.nat_setN_other _ (by decide), State.nat_setN_other _ (by decide), State.nat_setN_self]
  · rw [State.nat_setN_other _ (by decide), State.nat_setN_self]

/-- The record of the replaced battery is empty, with the stamp of now and without a source of the states of charge. -/
def State.recordReplaced : State :=
  ((s.recordEmpty.setN REC_REPLACED s.stamp).setEstFlag EFLAG.ANCHOR false).setN ESTIMATOR_STATUS.SOC_SOURCE 0

theorem State.recordReplaced_shows : s.recordReplaced.nat REC_REPLACED = s.stamp ∧
    s.recordReplaced.nat ESTIMATOR_STATUS.LEARNED_CAPACITY = 0 ∧ s.recordReplaced.nat ESTIMATOR_STATUS.RESISTANCE = 0 ∧
    s.recordReplaced.nat ESTIMATOR_STATUS.SOC_SOURCE = 0 ∧ s.recordReplaced.nat REC_UNBINNED = 0 := by
  obtain ⟨capacity, resistance, unbinned⟩ := s.recordEmpty_shows
  have stamped : Leaves [one ESTIMATOR_STATUS.EST_FLAGS, one ESTIMATOR_STATUS.SOC_SOURCE] []
      (s.recordEmpty.setN REC_REPLACED s.stamp) s.recordReplaced :=
    State.setN_leaves (State.setBit_leaves (.refl _) .here) Covered.here.next
  have empty {k : Nat} (hk : k ≠ REC_REPLACED) : (s.recordEmpty.setN REC_REPLACED s.stamp).nat k = s.recordEmpty.nat k :=
    State.nat_setN_other _ hk
  refine ⟨(stamped.nat_eq (outside_of_clears (by decide))).trans (State.nat_setN_self _ _ _), ?_, ?_, State.nat_setN_self _ _ _, ?_⟩
  · rw [stamped.nat_eq (outside_of_clears (by decide)), empty (by decide), capacity]
  · rw [stamped.nat_eq (outside_of_clears (by decide)), empty (by decide), resistance]
  · rw [stamped.nat_eq (outside_of_clears (by decide)), empty (by decide), unbinned]

/-- The registers in which the new record is published, retained and written. -/
def replacedSpans : List Span :=
  [one ESTIMATOR_STATUS.CAPACITY_IN_USE, one ESTIMATOR_STATUS.SOC, one ESTIMATOR_STATUS.SOC_INTERNAL,
    one ESTIMATOR_STATUS.SOH_CAPACITY, one ESTIMATOR_STATUS.SOH_RESISTANCE, one RET_SOCI, one RET_SOC, one RET_CAPACITY,
    one BATTERY_RECORD.SEQUENCE, one STORE_BUSY, each STORE_COPY, each STORE_SEQ, one STORE_SIDE]

theorem State.batteryReplaced_stays : Leaves replacedSpans [.collector] s.recordReplaced s.batteryReplaced := by
  unfold State.batteryReplaced
  extract_lets cap soh s1 s2 s3
  have published : Leaves replacedSpans [.collector] s.recordReplaced s2 := State.estPublish_leaves (.refl _) .of_subset
  have retained : Leaves replacedSpans [.collector] s.recordReplaced s3 := State.setN_leaves (State.set_leaves
    (State.set_leaves published covered_one) covered_one) covered_one
  exact State.raiseEst_leaves _ _ (State.recordWrite_leaves retained .of_subset fun _ h => h) fun _ h => h

theorem State.batteryReplaced_shows : s.batteryReplaced.nat REC_REPLACED = s.stamp ∧
    s.batteryReplaced.nat ESTIMATOR_STATUS.LEARNED_CAPACITY = 0 ∧ s.batteryReplaced.nat ESTIMATOR_STATUS.RESISTANCE = 0 ∧
    s.batteryReplaced.nat ESTIMATOR_STATUS.SOC_SOURCE = 0 ∧ s.batteryReplaced.nat REC_UNBINNED = 0 := by
  obtain ⟨stamp, capacity, resistance, source, unbinned⟩ := s.recordReplaced_shows
  have same {k : Nat} (h : clears k replacedSpans = true) : s.batteryReplaced.nat k = s.recordReplaced.nat k :=
    s.batteryReplaced_stays.nat_eq (outside_of_clears h)
  exact ⟨(same (by decide)).trans stamp, (same (by decide)).trans capacity, (same (by decide)).trans resistance,
    (same (by decide)).trans source, (same (by decide)).trans unbinned⟩

theorem State.landAction_batteryReplaced (u : Nat) (v : Int) :
    s.landAction u BATTERY_RECORD.BATTERY_REPLACED v = s.batteryReplaced := by
  unfold State.landAction State.landPowerAction
  simp (disch := decide) only [↓if_pos, ↓if_neg]

end

/-- Settles O32: the two writes of every 10 minutes, the write that completes, and the record that a new battery empties. -/
theorem recordStore : Obligations.RecordStore := by
  unfold Obligations.RecordStore
  intro u s
  refine ⟨fun live due => ⟨_, rfl, s.storePeriodic_stores live due⟩, fun busy => ⟨_, rfl, s.recordWritten_shows busy⟩, ?_⟩
  rw [s.landAction_batteryReplaced u]
  exact s.batteryReplaced_shows

end Sys2Proof.Machine
end

section
/-!
SUPPORT. What the evaluation of a plan writes, step by step, and what of a step stays (R158 to R166).
-/
open Sys2Proof
namespace Sys2Proof.Machine

/-! ### Families side by side -/

theorem outside_append {a b : List Span} {k : Nat} : Outside (a ++ b) k ↔ Outside a k ∧ Outside b k := by
  simp only [Outside, List.mem_append, or_imp, forall_and]

theorem outside_ones {f : Nat → Nat} {n k : Nat} :
    Outside ((List.range n).map fun i => one (f i)) k ↔ ∀ i < n, k ≠ f i := by
  constructor
  · intro h i hi e
    exact h _ (List.mem_map.2 ⟨i, List.mem_range.2 hi, rfl⟩) ⟨0, 0, by simpa using e⟩
  · rintro h x hx hk
    obtain ⟨i, hi, rfl⟩ := List.mem_map.1 hx
    exact h i (List.mem_range.1 hi) (Span.one_has hk)

theorem covered_ones (f : Nat → Nat) {n i : Nat} (hi : i < n) : Covered ((List.range n).map fun i => one (f i)) (f i) :=
  ⟨one (f i), List.mem_map.2 ⟨i, List.mem_range.2 hi, rfl⟩, 0, 0, by simp⟩

theorem Covered.left {a b : List Span} {k : Nat} (h : Covered a k) : Covered (a ++ b) k :=
  h.elim fun x hx => ⟨x, List.mem_append_left _ hx.1, hx.2⟩

theorem Covered.right {a b : List Span} {k : Nat} (h : Covered b k) : Covered (a ++ b) k :=
  h.elim fun x hx => ⟨x, List.mem_append_right _ hx.1, hx.2⟩

theorem inside_right {a b : List Span} : Inside b (a ++ b) := fun _ h => h.right

theorem inside_left {a b : List Span} : Inside a (a ++ b) := fun _ h => h.left

/-! ### What is only added to -/

/-- From s to t no time passes, nothing changes but registers and byte strings of the families W, and what waits to land and what
has been collected is added to. -/
structure Advances (W : List Span) (s t : State) : Prop where
  leaves : Leaves W [.collector, .landing] s t
  landing : s.landing <+: t.landing
  collector : s.collector <+: t.collector

section
variable {W W' : List Span} {r s t : State}

theorem Advances.refl (s : State) : Advances W s s := ⟨.refl s, List.prefix_refl _, List.prefix_refl _⟩

theorem Advances.trans (h : Advances W r s) (h' : Advances W s t) : Advances W r t :=
  ⟨h.leaves.trans h'.leaves, h.landing.trans h'.landing, h.collector.trans h'.collector⟩

theorem Advances.mono (h : Advances W s t) (hW : Inside W W') : Advances W' s t :=
  ⟨h.leaves.mono hW fun _ h => h, h.landing, h.collector⟩

/-- What neither lands anything nor raises. -/
theorem Advances.quiet (h : Advances W r s) (l : Leaves W [] s t) : Advances W r t :=
  h.trans ⟨l.mono .refl fun _ h => absurd h List.not_mem_nil, (l.parts .landing List.not_mem_nil).symm ▸ List.prefix_refl _,
    (l.parts .collector List.not_mem_nil).symm ▸ List.prefix_refl _⟩

theorem Advances.setN (h : Advances W r s) {k v : Nat} (hk : Covered W k) : Advances W r (s.setN k v) :=
  h.quiet (State.setN_leaves (.refl s) hk)

/-- What raises, and lands nothing. -/
theorem Advances.loud (h : Advances W r s) (l : Leaves W [.collector] s t) (hc : s.collector <+: t.collector) : Advances W r t :=
  h.trans ⟨l.mono .refl (by decide), (l.parts .landing (by decide)).symm ▸ List.prefix_refl _, hc⟩

theorem Advances.raise (h : Advances W r s) (k : Kind) (site tenant obj : Nat) (fields : List (Nat × Int)) :
    Advances W r (s.raise k site tenant obj fields) :=
  h.loud (State.raise_leaves _ _ _ _ _ (.refl s) fun _ h => h) (s.raise_collector_prefix _ _ _ _ _)

theorem Advances.land (h : Advances W r s) (tenant delay : Nat) (a : LandAct) : Advances W r (s.land tenant delay a) :=
  h.trans ⟨State.land_leaves _ _ _ (.refl s) (by decide), List.prefix_append _ _, List.prefix_refl _⟩

theorem Advances.ite {c : Prop} [Decidable c] (ha : Advances W r s) (hb : Advances W r t) :
    Advances W r (if c then s else t) := by
  split <;> assumption

theorem Advances.forEach {α : Type} {l : List α} {f : α → State → State} (h : Advances W r s)
    (hf : ∀ a ∈ l, ∀ x, Advances W x (f a x)) : Advances W r (forEach l f s) :=
  forEach_induct h fun a ha x hx => hx.trans (hf a ha x)

theorem Advances.forBelow {n : Nat} {f : Nat → State → State} (h : Advances W r s)
    (hf : ∀ i < n, ∀ x, Advances W x (f i x)) : Advances W r (forBelow n f s) :=
  forBelow_induct h fun i hi x hx => hx.trans (hf i hi x)

theorem Advances.nat_eq (h : Advances W s t) {k : Nat} (hk : Outside W k) : t.nat k = s.nat k := h.leaves.nat_eq hk

theorem Advances.time_eq (h : Advances W s t) : t.time = s.time := h.leaves.time_eq

theorem Advances.follows (h : Advances W s t) (hk : Outside W TICK_OFFSET) : Follows s t :=
  .of_leaves h.leaves (by decide) hk h.collector

end

/-! ### Snapshots (R161) -/

theorem testBit_maskOf {l : List Nat} {n : Nat} : (maskOf l).testBit n = true ↔ n ∈ l := by
  have fold (m : Nat) : (l.foldl (fun m n => m ||| 2 ^ n) m).testBit n = true ↔ m.testBit n = true ∨ n ∈ l := by
    induction l generalizing m with
    | nil => simp
    | cons a l ih =>
      rw [List.foldl_cons, ih, Nat.testBit_or, Nat.testBit_two_pow]
      simp only [Bool.or_eq_true, decide_eq_true_eq, List.mem_cons]
      rw [or_assoc, eq_comm (a := n)]
  simpa [maskOf] using fold 0

theorem mem_membersOf {mask n : Nat} : n ∈ membersOf mask ↔ n < 512 ∧ mask.testBit n = true := by
  simp only [membersOf, List.mem_filter, List.mem_range]

theorem nodup_membersOf (mask : Nat) : (membersOf mask).Nodup := List.nodup_range.filter _

/-! ### The registers of steps -/

/-- The registers with which the control die times and judges steps, but for the time at which they began to act. -/
def timerSpans : List Span :=
  [each STEP_READY_AT, each STEP_SNAP, each STEP_MET, each STEP_SPENT, each STEP_SEEN_AT, each STEP_RUNS, each STEP_MOVED_AT,
    each STEP_AGAIN]

/-- REQUEST of every channel and FORCE of every output. -/
def commandSpans : List Span :=
  ((List.range 512).map fun n => one (CHANNEL_CONFIG.REQUEST n)) ++ (List.range 16).map fun r => one (RESET_OUTPUT.FORCE r)

/-- What any step of plan p may write beside its own state and the time at which it began to act. -/
def stepWrites (p : Nat) : List Span := timerSpans ++ one (ofPlan p OPENING_PLAN.SKIPPED_STEPS) :: commandSpans

/-- What step i of plan p may write once it acts. -/
def actWrites (p i : Nat) : List Span := one (ofPlan p (OPENING_STEP_STATE.STATE (i - 1))) :: stepWrites p

/-- What the evaluation of step i of plan p may write. -/
def evalWrites (p i : Nat) : List Span := one (STEP_ACT_AT (stepOf p i)) :: actWrites p i

theorem outside_commands {k : Nat} : Outside commandSpans k ↔
    (∀ n < 512, k ≠ CHANNEL_CONFIG.REQUEST n) ∧ ∀ r < 16, k ≠ RESET_OUTPUT.FORCE r :=
  outside_append.trans (and_congr outside_ones outside_ones)

theorem outside_stepWrites {p k : Nat} : Outside (stepWrites p) k ↔
    Outside timerSpans k ∧ k ≠ ofPlan p OPENING_PLAN.SKIPPED_STEPS ∧
      (∀ n < 512, k ≠ CHANNEL_CONFIG.REQUEST n) ∧ ∀ r < 16, k ≠ RESET_OUTPUT.FORCE r := by
  rw [stepWrites, outside_append, outside_cons, outside_commands]
  simp only [Nat.zero_mul, Nat.add_zero, forall_const]

theorem outside_evalWrites {p i k : Nat} : Outside (evalWrites p i) k ↔
    k ≠ STEP_ACT_AT (stepOf p i) ∧ k ≠ ofPlan p (OPENING_STEP_STATE.STATE (i - 1)) ∧ Outside (stepWrites p) k := by
  rw [evalWrites, actWrites, outside_cons, outside_cons]
  simp only [Nat.zero_mul, Nat.add_zero, forall_const]

/-- No object is a timer of a step. -/
theorem outside_timers {k : Nat} (h : k < 2 ^ 40) : Outside timerSpans k :=
  outside_above (2 ^ 40) h (by decide)

section
variable {p i n k : Nat}

theorem covered_timer {f : Nat → Nat} (h : each f ∈ timerSpans) (hf : (each f).has k) : Covered (stepWrites p) k :=
  Covered.left ⟨_, h, hf⟩

theorem covered_skipped : Covered (stepWrites p) (ofPlan p OPENING_PLAN.SKIPPED_STEPS) := Covered.here.right

theorem covered_request (hn : n < 512) : Covered (stepWrites p) (CHANNEL_CONFIG.REQUEST n) :=
  (covered_ones _ hn).left.next.right

theorem covered_force {r : Nat} (hr : r < 16) : Covered (stepWrites p) (RESET_OUTPUT.FORCE r) :=
  (covered_ones _ hr).right.next.right

theorem covered_moved : Covered (stepWrites p) (STEP_MOVED_AT (stepOf p i)) :=
  covered_timer (f := STEP_MOVED_AT) (by decide) (STEP_MOVED_AT_has _)

end

end Sys2Proof.Machine
end

section
/-!
SUPPORT. Steps of a plan that act, end and are evaluated, each by what it writes and by the state in which it leaves the step.
-/
open Sys2Proof
namespace Sys2Proof.Machine

section
variable {p i : Nat} {s t : State}

/-! ### Ends of steps (R163) -/

theorem State.setStep_advances (st : Nat) : Advances (actWrites p i) s (s.setStep p i st) :=
  (Advances.refl s).setN .here

theorem State.stepMoved_advances : Advances (actWrites p i) s (s.stepMoved p i) :=
  (Advances.refl s).setN covered_moved.next

theorem State.setStep_state (st : Nat) : (s.setStep p i st).stepState p i = st := State.nat_setN_self _ _ _

theorem State.stepMoved_state (low : ofPlan p (OPENING_STEP_STATE.STATE (i - 1)) < 2 ^ 40) :
    (s.stepMoved p i).stepState p i = s.stepState p i :=
  State.nat_setN_other _ (by simp only [STEP_MOVED_AT, internal]; omega)

/-- A step that is done. -/
def State.stepDone (s : State) (p i : Nat) : State := (s.setStep p i 3).stepMoved p i

theorem State.stepDone_advances : Advances (actWrites p i) s (s.stepDone p i) :=
  (State.setStep_advances 3).trans State.stepMoved_advances

theorem State.stepDone_state (low : ofPlan p (OPENING_STEP_STATE.STATE (i - 1)) < 2 ^ 40) :
    (s.stepDone p i).stepState p i = 3 := (State.stepMoved_state low).trans (State.setStep_state 3)

/-- A step that is skipped, before that is recorded. -/
def State.skipNoted (s : State) (p i : Nat) : State :=
  ((s.setStep p i 4).stepMoved p i).count (ofPlan p OPENING_PLAN.SKIPPED_STEPS) 0xFF

theorem State.stepSkip_eq (cause : Nat) : s.stepSkip p i cause =
    (s.skipNoted p i).raisePlan .STEP_SKIPPED p i [f8 i, f8 cause] := rfl

theorem State.skipNoted_advances : Advances (actWrites p i) s (s.skipNoted p i) :=
  ((State.setStep_advances 4).trans State.stepMoved_advances).setN covered_skipped.next

theorem State.stepSkip_advances (cause : Nat) : Advances (actWrites p i) s (s.stepSkip p i cause) :=
  State.skipNoted_advances.raise _ _ _ _ _

/-! ### A step begins to act (R161) -/

/-- Step i of plan p enters its acting, before it commands anything. -/
def State.stepEnters (s : State) (p i : Nat) : State :=
  let w := s.stepWord p i
  let j := stepOf p i
  let s := ((s.setStep p i 2).setN (STEP_ACT_AT j) s.time).setN (STEP_AGAIN j) 0
  ((s.setN (STEP_SPENT j) 0).setN (STEP_SEEN_AT j) s.time).setFlag (STEP_RUNS j) (SW.action w != 4 && !s.depsPause p i)

/-- A step of a word w puts FORCE of a reset output. -/
def State.stepForces (s : State) (p i w : Nat) : State :=
  let v := if SW.action w = 5 then 1 else 0
  ((s.setN (STEP_SNAP (stepOf p i)) 0).setN (RESET_OUTPUT.FORCE (SW.rso w)) v).land 0 1 (.value (RESET_OUTPUT.FORCE (SW.rso w)) v)

/-- A step of a word w commands the members of its snapshot, as it stands. -/
def State.stepSends (s : State) (p i w : Nat) : State :=
  match SW.action w with
  | 1 => forEach (membersOf (s.nat (STEP_SNAP (stepOf p i)))) (fun n s => s.planOn n) s
  | 2 => forEach (membersOf (s.nat (STEP_SNAP (stepOf p i)))) (fun n s => s.planRequest n 0) s
  | _ => s

/-- A step of a word w takes its snapshot, and is done at once where that is empty. -/
def State.stepCommands (s : State) (p i w : Nat) : State :=
  let s := s.takeSnapshot p i
  if s.nat (STEP_SNAP (stepOf p i)) = 0 then s.stepDone p i else s.stepSends p i w

theorem State.stepAct_eq : s.stepAct p i =
    if SW.action (s.stepWord p i) = 5 || SW.action (s.stepWord p i) = 6 then (s.stepEnters p i).stepForces p i (s.stepWord p i)
    else (s.stepEnters p i).stepCommands p i (s.stepWord p i) := rfl

theorem State.stepEnters_advances : Advances (evalWrites p i) s (s.stepEnters p i) :=
  ((((((Advances.refl s).setN Covered.here.next).setN .here).setN
    (covered_timer (f := STEP_AGAIN) (by decide) (STEP_AGAIN_has _)).next.next).setN
    (covered_timer (f := STEP_SPENT) (by decide) (STEP_SPENT_has _)).next.next).setN
    (covered_timer (f := STEP_SEEN_AT) (by decide) (STEP_SEEN_AT_has _)).next.next).setN
    (covered_timer (f := STEP_RUNS) (by decide) (STEP_RUNS_has _)).next.next

theorem State.stepEnters_shows (low : ofPlan p (OPENING_STEP_STATE.STATE (i - 1)) < 2 ^ 40) :
    (s.stepEnters p i).stepState p i = 2 ∧ (s.stepEnters p i).nat (STEP_ACT_AT (stepOf p i)) = s.time := by
  unfold State.stepEnters State.stepState State.setStep State.setFlag
  constructor <;>
    simp (disch := (simp only [STEP_ACT_AT, STEP_AGAIN, STEP_SPENT, STEP_SEEN_AT, STEP_RUNS, internal]; omega)) only
      [State.nat_setN_other, State.nat_setN_self]

theorem SW.rso_lt (w : Nat) : SW.rso w < 16 := Nat.mod_lt _ (by decide)

theorem State.stepForces_advances (w : Nat) : Advances (stepWrites p) s (s.stepForces p i w) :=
  (((Advances.refl s).setN (covered_timer (f := STEP_SNAP) (by decide) (STEP_SNAP_has _))).setN
    (covered_force (SW.rso_lt w))).land _ _ _

theorem State.takeSnapshot_advances : Advances (stepWrites p) s (s.takeSnapshot p i) := by
  unfold State.takeSnapshot
  extract_lets all t
  have told : Advances (stepWrites p) s t := .forEach (.refl s) fun n _ x => (Advances.refl x).raise _ _ _ _ _
  exact (told.setN (covered_timer (f := STEP_SNAP) (by decide) (STEP_SNAP_has _))).setN
    (covered_timer (f := STEP_MET) (by decide) (STEP_MET_has _))

theorem State.planRequest_advances {n : Nat} (hn : n < 512) (v : Nat) : Advances (stepWrites p) s (s.planRequest n v) :=
  ((Advances.refl s).setN (covered_request hn)).land _ _ _

theorem State.planOn_advances {n : Nat} (hn : n < 512) : Advances (stepWrites p) s (s.planOn n) :=
  .ite (.refl s) (State.planRequest_advances hn 1)

theorem State.stepSends_advances (w : Nat) : Advances (stepWrites p) s (s.stepSends p i w) := by
  unfold State.stepSends
  split
  · exact .forEach (.refl s) fun n hn x => State.planOn_advances (mem_membersOf.1 hn).1
  · exact .forEach (.refl s) fun n hn x => State.planRequest_advances (mem_membersOf.1 hn).1 0
  · exact .refl s

/-- The states of steps are no registers that a step writes beside its own. -/
theorem outside_stepWrites_state (hp : p < 2) (hi : i ≤ 128) (h1 : 1 ≤ i) :
    Outside (stepWrites p) (ofPlan p (OPENING_STEP_STATE.STATE (i - 1))) := by
  refine outside_stepWrites.2 ⟨outside_timers (plan_step_low hp (by omega)), ?_, fun n hn => ?_, fun r hr => ?_⟩
  all_goals
    simp only [ofPlan, OPENING_STEP_STATE.STATE, OPENING_PLAN.SKIPPED_STEPS, CHANNEL_CONFIG.REQUEST, RESET_OUTPUT.FORCE]
    omega

theorem inside_actWrites : Inside (stepWrites p) (actWrites p i) := inSkip .refl
theorem inside_evalWrites : Inside (actWrites p i) (evalWrites p i) := inSkip .refl

theorem State.stepCommands_advances (w : Nat) : Advances (actWrites p i) s (s.stepCommands p i w) := by
  unfold State.stepCommands
  extract_lets t
  have taken : Advances (actWrites p i) s t := State.takeSnapshot_advances.mono inside_actWrites
  exact .ite (taken.trans State.stepDone_advances) (taken.trans ((State.stepSends_advances w).mono inside_actWrites))

theorem State.stepAct_advances : Advances (evalWrites p i) s (s.stepAct p i) := by
  rw [State.stepAct_eq]
  have entered := State.stepEnters_advances (s := s) (p := p) (i := i)
  exact .ite (entered.trans ((State.stepForces_advances _).mono (inside_actWrites.trans inside_evalWrites)))
    (entered.trans ((State.stepCommands_advances _).mono inside_evalWrites))

/-- Step i of plan p has begun to act at the time of s, and has not been skipped but with a dependency. -/
structure Acted (p i : Nat) (s t : State) : Prop where
  word : t.stepWord p i = s.stepWord p i
  since : t.nat (STEP_ACT_AT (stepOf p i)) = s.time
  state : t.stepState p i = 2 ∨ t.stepState p i = 3 ∨ (t.stepState p i = 4 ∧ SW.depMode (s.stepWord p i) = 1)

/-- The numbers of the steps of a plan. -/
abbrev StepOf (p i : Nat) : Prop := p < 2 ∧ 1 ≤ i ∧ i ≤ 128

theorem StepOf.low (h : StepOf p i) : ofPlan p (OPENING_STEP_STATE.STATE (i - 1)) < 2 ^ 40 := plan_step_low h.1 (by omega)

theorem outside_evalWrites_word {j : Nat} (hi : StepOf p i) (hj : StepOf p j) :
    Outside (evalWrites p j) (ofPlan p (OPENING_STEPS.STEP (i - 1))) := by
  have low : ofPlan p (OPENING_STEPS.STEP (i - 1)) < 2 ^ 40 := by
    simp only [ofPlan, OPENING_STEPS.STEP]
    omega
  refine outside_evalWrites.2 ⟨?_, ?_, outside_stepWrites.2 ⟨outside_timers low, ?_, fun n hn => ?_, fun r hr => ?_⟩⟩
  all_goals
    simp only [ofPlan, OPENING_STEPS.STEP, OPENING_STEP_STATE.STATE, OPENING_PLAN.SKIPPED_STEPS, CHANNEL_CONFIG.REQUEST,
      RESET_OUTPUT.FORCE, STEP_ACT_AT, internal]
    omega

theorem outside_actWrites_since {j : Nat} (hj : StepOf p j) : Outside (actWrites p j) (STEP_ACT_AT (stepOf p i)) := by
  refine outside_one ?_ (outside_stepWrites.2 ⟨outside_internal (by decide) _, ?_, fun n hn => ?_, fun r hr => ?_⟩)
  all_goals
    simp only [ofPlan, OPENING_STEP_STATE.STATE, OPENING_PLAN.SKIPPED_STEPS, CHANNEL_CONFIG.REQUEST, RESET_OUTPUT.FORCE,
      STEP_ACT_AT, internal]
    omega

/-- R161: a step that begins to act is acting, or done where it has no members. -/
theorem State.stepAct_acted (h : StepOf p i) : Acted p i s (s.stepAct p i) := by
  obtain ⟨acting, since⟩ := State.stepEnters_shows (s := s) h.low
  have word := State.stepAct_advances.nat_eq (s := s) (outside_evalWrites_word h h)
  have state := outside_stepWrites_state h.1 h.2.2 h.2.1
  rw [State.stepAct_eq] at word ⊢
  split at word
  next force =>
    have forces := State.stepForces_advances (s := s.stepEnters p i) (p := p) (i := i) (s.stepWord p i)
    rw [if_pos force]
    exact ⟨word, ((forces.mono inside_actWrites).nat_eq (outside_actWrites_since h)).trans since,
      .inl ((forces.nat_eq state).trans acting)⟩
  next force =>
    rw [if_neg force]
    refine ⟨word, ((State.stepCommands_advances _).nat_eq (outside_actWrites_since h)).trans since, ?_⟩
    unfold State.stepCommands
    extract_lets t
    have taken : t.stepState p i = 2 := (State.takeSnapshot_advances.nat_eq state).trans acting
    split
    · exact .inr (.inl (State.stepDone_state h.low))
    · exact .inl (((State.stepSends_advances _).nat_eq state).trans taken)

/-! ### An evaluation of a step (R158 to R162) -/

theorem State.stepTimer_advances (progress : Bool) : Advances (stepWrites p) s (s.stepTimer p i progress) := by
  unfold State.stepTimer
  extract_lets j spent runs s1 s2
  have timed : Advances (stepWrites p) s s2 := (((Advances.refl s).setN
    (covered_timer (f := STEP_SPENT) (by decide) (STEP_SPENT_has _))).setN
    (covered_timer (f := STEP_SEEN_AT) (by decide) (STEP_SEEN_AT_has _))).setN
    (covered_timer (f := STEP_RUNS) (by decide) (STEP_RUNS_has _))
  exact .ite (timed.setN covered_moved) timed

theorem State.evalActing_advances : Advances (actWrites p i) s (s.evalActing p i) := by
  unfold State.evalActing
  extract_lets j w met progress t
  have judged : Advances (actWrites p i) s t :=
    (Advances.refl s).setN (covered_timer (f := STEP_MET) (by decide) (STEP_MET_has _)).next
  exact .ite (.ite State.stepDone_advances (.refl s))
    (.ite (judged.trans State.stepDone_advances) (judged.trans ((State.stepTimer_advances progress).mono inside_actWrites)))

theorem State.evalPending_advances : Advances (evalWrites p i) s (s.evalPending p i) := by
  unfold State.evalPending
  extract_lets deps w t j spent moved
  have ready : Advances (evalWrites p i) s t :=
    (Advances.refl s).setN (covered_timer (f := STEP_READY_AT) (by decide) (STEP_READY_AT_has _)).next.next
  exact .ite (.ite (ready.trans State.stepAct_advances) (ready.trans ((State.setStep_advances 1).mono inside_evalWrites)))
    ((((Advances.refl s).setN (covered_timer (f := STEP_SPENT) (by decide) (STEP_SPENT_has _)).next.next).setN
      (covered_timer (f := STEP_SEEN_AT) (by decide) (STEP_SEEN_AT_has _)).next.next).setN
      (covered_timer (f := STEP_RUNS) (by decide) (STEP_RUNS_has _)).next.next)

/-- An evaluation of a step writes its own registers, and what steps share. -/
theorem State.evalStep_advances : Advances (evalWrites p i) s (s.evalStep p i) := by
  unfold State.evalStep
  split
  · exact (State.stepSkip_advances 2).mono inside_evalWrites
  split
  · exact State.evalPending_advances
  · exact .ite State.stepAct_advances (.refl s)
  · exact State.evalActing_advances.mono inside_evalWrites
  · exact .refl s

/-- A step that is done, skipped or held, or will not run, is not evaluated. -/
theorem State.evalStep_settled (h : 3 ≤ s.stepState p i) : s.evalStep p i = s := by
  unfold State.evalStep
  rw [if_neg (by simp only [Bool.and_eq_true, decide_eq_true_eq]; omega)]
  split
  case h_4 => rfl
  all_goals omega

theorem State.evalStep_acting (h : s.stepState p i = 2) :
    s.evalStep p i = if s.depSkipped p i then s.stepSkip p i 2 else s.evalActing p i := by
  unfold State.evalStep
  rw [h]
  simp only [Nat.le_refl, decide_true, Bool.true_and]

theorem State.evalActing_state (hi : StepOf p i) (h : s.stepState p i = 2) :
    (s.evalActing p i).stepState p i = 2 ∨ (s.evalActing p i).stepState p i = 3 := by
  unfold State.evalActing
  extract_lets j w met progress t
  have state := outside_stepWrites_state hi.1 hi.2.2 hi.2.1
  have judged : t.stepState p i = 2 :=
    (((Advances.refl s).setN (covered_timer (p := p) (f := STEP_MET) (by decide) (STEP_MET_has j))).nat_eq state).trans h
  split
  · split
    · exact .inr (State.stepDone_state hi.low)
    · exact .inl h
  · split
    · exact .inr (State.stepDone_state hi.low)
    · exact .inl (((State.stepTimer_advances progress).nat_eq state).trans judged)

end

/-! ### What an evaluation leaves of a step that acts -/

section
variable {p i : Nat} {s t : State}

/-- The evaluation of a step leaves the states of the others. -/
theorem State.evalStep_other (hi : StepOf p i) {j : Nat} (hj : StepOf p j) (ne : j ≠ i) :
    (s.evalStep p j).stepState p i = s.stepState p i := by
  refine State.evalStep_advances.nat_eq (outside_evalWrites.2 ⟨?_, ?_, outside_stepWrites_state hi.1 hi.2.2 hi.2.1⟩)
  all_goals
    simp only [ofPlan, OPENING_STEP_STATE.STATE, STEP_ACT_AT, internal]
    omega

theorem Acted.evalOwn (h : Acted p i s t) (hi : StepOf p i) : Acted p i s (t.evalStep p i) := by
  have word : (t.evalStep p i).stepWord p i = s.stepWord p i :=
    (State.evalStep_advances.nat_eq (outside_evalWrites_word hi hi)).trans h.word
  rcases h.state with acting | settled
  · rw [State.evalStep_acting acting] at word ⊢
    split at word
    next skipped =>
      rw [if_pos skipped]
      refine ⟨word, ((State.stepSkip_advances 2).nat_eq (outside_actWrites_since hi)).trans h.since,
        .inr (.inr ⟨t.stepSkip_state 2 hi.low, ?_⟩)⟩
      rw [← h.word]
      simp only [State.depSkipped, Bool.and_eq_true, beq_iff_eq] at skipped
      exact skipped.1
    next free =>
      rw [if_neg free]
      exact ⟨word, (State.evalActing_advances.nat_eq (outside_actWrites_since hi)).trans h.since,
        (State.evalActing_state hi acting).imp_right .inl⟩
  · rwa [State.evalStep_settled (by omega)]

theorem Acted.evalOther (h : Acted p i s t) (hi : StepOf p i) {j : Nat} (hj : StepOf p j) (ne : j ≠ i) :
    Acted p i s (t.evalStep p j) := by
  have evaluated := State.evalStep_advances (s := t) (p := p) (i := j)
  refine ⟨(evaluated.nat_eq (outside_evalWrites_word hi hj)).trans h.word, (evaluated.nat_eq ?_).trans h.since,
    by rw [State.evalStep_other hi hj ne]; exact h.state⟩
  refine outside_one ?_ (outside_actWrites_since hj)
  simp only [STEP_ACT_AT, stepOf, internal]
  omega

end

end Sys2Proof.Machine
end

section
/-!
SUPPORT. How a plan settles and ends, and what a whole evaluation leaves (R159, R166).
-/
open Sys2Proof
namespace Sys2Proof.Machine

/-! ### Families of a plan -/

/-- The states of the steps of plan p. -/
def stateSpans (p : Nat) : List Span := (List.range 128).map fun i => one (ofPlan p (OPENING_STEP_STATE.STATE i))

/-- The record store and PON, which the end of Endgame writes. -/
def storeSpans : List Span :=
  [one BATTERY_RECORD.SEQUENCE, each LIFE_NEW, each LIFE_STORED, one STORE_BUSY, each STORE_COPY, each STORE_SEQ, one STORE_SIDE,
    one PON_CONTROL.PON_CHANGES, one PON_CONTROL.PON_LAST_CAUSE, one PON_CONTROL.PON_STATE]

/-- What the end of plan p writes beside the states of its steps. -/
def endSpans (p : Nat) : List Span :=
  one (ofPlan p OPENING_PLAN.PLAN_STATE) :: one (ofPlan p OPENING_PLAN.RESULT) :: one (ofPlan p OPENING_PLAN.END_FRAME) :: storeSpans

/-- What plan p may write as it settles. -/
def settleSpans (p : Nat) : List Span := stateSpans p ++ endSpans p

/-- What plan p may write in an evaluation. -/
def planSpans (p : Nat) : List Span := each STEP_ACT_AT :: (stepWrites p ++ settleSpans p)

theorem outside_stateSpans {p k : Nat} : Outside (stateSpans p) k ↔ ∀ i < 128, k ≠ ofPlan p (OPENING_STEP_STATE.STATE i) :=
  outside_ones

theorem covered_state {p i : Nat} (hi : i ≤ 128) (h1 : 1 ≤ i) :
    Covered (stateSpans p) (ofPlan p (OPENING_STEP_STATE.STATE (i - 1))) :=
  covered_ones (fun i => ofPlan p (OPENING_STEP_STATE.STATE i)) (by omega)

section
variable {p i : Nat} {s t : State}

/-! ### A plan that ends (R166) -/

/-- The steps of plan p that are neither done nor skipped do not run any more. -/
def State.restNotRun (s : State) (p : Nat) : State :=
  forBelow (s.nat (ofPlan p OPENING_PLAN.STEP_COUNT)) (fun i s =>
    if s.stepState p (i + 1) = 3 || s.stepState p (i + 1) = 4 then s else s.setStep p (i + 1) 6) s

theorem State.restNotRun_advances (few : s.nat (ofPlan p OPENING_PLAN.STEP_COUNT) ≤ 128) :
    Advances (stateSpans p) s (s.restNotRun p) :=
  .forBelow (.refl s) fun i hi x => .ite (.refl x) ((Advances.refl x).setN (covered_state (i := i + 1) (by omega) (by omega)))

theorem State.restNotRun_settled (h1 : 1 ≤ i) (h : s.stepState p i = 3 ∨ s.stepState p i = 4) :
    (s.restNotRun p).stepState p i = s.stepState p i := by
  refine forBelow_induct (P := fun x => x.stepState p i = s.stepState p i) rfl fun j _ x hx => ?_
  split
  · exact hx
  next unsettled =>
    refine (State.nat_setN_other _ ?_).trans hx
    have other : j + 1 ≠ i := by
      rintro rfl
      simp only [Bool.or_eq_true, decide_eq_true_eq] at unsettled
      omega
    simp only [ofPlan, OPENING_STEP_STATE.STATE]
    omega

theorem State.recordWrite_collector (s : State) : s.collector <+: s.recordWrite.collector := by
  unfold State.recordWrite
  split
  · exact List.prefix_refl _
  · show s.collector <+: s.recordWritten.collector
    by_cases busy : s.flag STORE_BUSY = true
    · rw [s.recordWritten_busy busy]
      exact s.recordDone_follows.collector.trans (State.raise_collector_prefix _ _ _ _ _ _)
    · rw [s.recordWritten_idle (by simpa using busy)]

/-- What the end of a plan does beside its steps. -/
theorem State.planEnd_advances (result : Nat) : Advances (endSpans p) (s.restNotRun p) (s.planEnd p result) := by
  unfold State.planEnd
  extract_lets n s1 s2 s3 s4 s5
  have h2 : Advances (endSpans p) (s.restNotRun p) s2 := (Advances.refl _).setN .here
  have h3 : Advances (endSpans p) (s.restNotRun p) s3 := .ite h2 (h2.setN Covered.here.next)
  have h5 : Advances (endSpans p) (s.restNotRun p) s5 := (h3.setN Covered.here.next.next).raise _ _ _ _ _
  have stored : Advances (endSpans p) (s.restNotRun p) s5.storeTrips.recordWrite :=
    (h5.quiet ((State.storeTrips_leaves (.refl s5) .refl).mono (inSkip (inSkip (inSkip .of_subset))) fun _ h => h)).loud
      ((State.recordWrite_leaves (.refl _) .refl fun _ h => h).mono (inSkip (inSkip (inSkip .of_subset))) fun _ h => h)
      (State.recordWrite_collector _)
  exact .ite (.ite (stored.loud ((State.pon_leaves _ _ (.refl _) .refl fun _ h => h).mono (inSkip (inSkip (inSkip .of_subset)))
    fun _ h => h) (State.pon_collector_prefix _ _ _)) stored) h5

/-- A plan that ends writes what it writes as it settles. -/
theorem State.planEnd_ends (few : s.nat (ofPlan p OPENING_PLAN.STEP_COUNT) ≤ 128) (result : Nat) :
    Advances (settleSpans p) s (s.planEnd p result) :=
  ((State.restNotRun_advances few).mono inside_left).trans ((State.planEnd_advances result).mono inside_right)

/-- The record store and PON hold no object from those of the channels on. -/
theorem outside_storeSpans {k : Nat} (h : 0x300000 ≤ k) (low : k < 2 ^ 40) : Outside storeSpans k := by
  simp only [storeSpans, outside_cons, outside_nil, BATTERY_RECORD.SEQUENCE, PON_CONTROL.PON_CHANGES, PON_CONTROL.PON_LAST_CAUSE,
    PON_CONTROL.PON_STATE, LIFE_NEW, LIFE_STORED, STORE_BUSY, STORE_COPY, STORE_SEQ, STORE_SIDE, internal, and_true]
  and_intros <;> intros <;> omega

theorem outside_endSpans {k : Nat} : Outside (endSpans p) k ↔ k ≠ ofPlan p OPENING_PLAN.PLAN_STATE ∧
    k ≠ ofPlan p OPENING_PLAN.RESULT ∧ k ≠ ofPlan p OPENING_PLAN.END_FRAME ∧ Outside storeSpans k := by
  rw [endSpans, outside_cons, outside_cons, outside_cons]
  simp only [Nat.zero_mul, Nat.add_zero, forall_const]

theorem outside_endSpans_state (h : StepOf p i) : Outside (endSpans p) (ofPlan p (OPENING_STEP_STATE.STATE (i - 1))) := by
  refine outside_endSpans.2 ⟨?_, ?_, ?_, outside_storeSpans ?_ h.low⟩
  all_goals
    simp only [ofPlan, OPENING_STEP_STATE.STATE, OPENING_PLAN.PLAN_STATE, OPENING_PLAN.RESULT, OPENING_PLAN.END_FRAME]
    omega

/-! ### A plan that settles (R163, R166) -/

theorem State.planSettle_advances (few : s.nat (ofPlan p OPENING_PLAN.STEP_COUNT) ≤ 128) :
    Advances (settleSpans p) s (s.planSettle p) :=
  .ite (State.planEnd_ends few _) ((Advances.refl s).setN Covered.here.right)

/-- As a plan settles, no step that counts changes: it ends only once all of them are done or skipped. -/
theorem State.planSettle_state (h : StepOf p i) (counts : i ≤ s.nat (ofPlan p OPENING_PLAN.STEP_COUNT)) :
    (s.planSettle p).stepState p i = s.stepState p i := by
  unfold State.planSettle
  extract_lets steps
  split
  next all =>
    have own : i ∈ steps := List.mem_map.2 ⟨i - 1, List.mem_range.2 (by omega), by omega⟩
    have settled : s.stepState p i = 3 ∨ s.stepState p i = 4 := by simpa using List.all_eq_true.1 all i own
    exact ((State.planEnd_advances _).nat_eq (outside_endSpans_state h)).trans (State.restNotRun_settled h.2.1 settled)
  next =>
    refine State.nat_setN_other _ ?_
    simp only [ofPlan, OPENING_STEP_STATE.STATE, OPENING_PLAN.PLAN_STATE]
    omega

/-! ### A whole evaluation (R159) -/

/-- The evaluation of every step of plan p in turn. -/
def State.stepsEvaluate (s : State) (p : Nat) : State :=
  forBelow (s.nat (ofPlan p OPENING_PLAN.STEP_COUNT)) (fun i s => s.evalStep p (i + 1)) s

theorem State.planEvaluate_eq : s.planEvaluate p = if s.planRuns p then (s.stepsEvaluate p).planSettle p else s := rfl

theorem inside_planSpans_settle : Inside (settleSpans p) (planSpans p) := fun _ hk => hk.right.next

/-- What each step writes, plan p writes. -/
theorem inside_planSpans (h : StepOf p i) : Inside (evalWrites p i) (planSpans p) := fun k hk => by
  obtain ⟨x, hx, hxk⟩ := hk
  rcases List.mem_cons.1 hx with rfl | hx
  · exact Span.one_has hxk ▸ ⟨_, List.mem_cons_self, STEP_ACT_AT_has _⟩
  rcases List.mem_cons.1 hx with rfl | hx
  · exact Span.one_has hxk ▸ (covered_state h.2.2 h.2.1).left.right.next
  · exact Covered.next (Covered.left ⟨x, hx, hxk⟩)

/-- The number of steps is nothing that an evaluation writes. -/
theorem outside_evalWrites_count (h : StepOf p i) : Outside (evalWrites p i) (ofPlan p OPENING_PLAN.STEP_COUNT) := by
  refine outside_evalWrites.2 ⟨?_, ?_, outside_stepWrites.2 ⟨outside_timers ?_, ?_, fun n hn => ?_, fun r hr => ?_⟩⟩
  all_goals
    simp only [ofPlan, OPENING_PLAN.STEP_COUNT, OPENING_STEP_STATE.STATE, OPENING_PLAN.SKIPPED_STEPS, CHANNEL_CONFIG.REQUEST,
      RESET_OUTPUT.FORCE, STEP_ACT_AT, internal]
    omega

section
variable (hp : p < 2) (few : s.nat (ofPlan p OPENING_PLAN.STEP_COUNT) ≤ 128)
include hp few

theorem State.stepsEvaluate_advances : Advances (planSpans p) s (s.stepsEvaluate p) :=
  .forBelow (.refl s) fun j hj x => State.evalStep_advances.mono (inside_planSpans ⟨hp, by omega, by omega⟩)

theorem State.stepsEvaluate_count :
    (s.stepsEvaluate p).nat (ofPlan p OPENING_PLAN.STEP_COUNT) = s.nat (ofPlan p OPENING_PLAN.STEP_COUNT) :=
  forBelow_induct (P := fun x => x.nat (ofPlan p OPENING_PLAN.STEP_COUNT) = _) rfl fun j hj x hx =>
    (State.evalStep_advances.nat_eq (outside_evalWrites_count ⟨hp, by omega, by omega⟩)).trans hx

theorem State.planEvaluate_advances : Advances (planSpans p) s (s.planEvaluate p) := by
  rw [State.planEvaluate_eq]
  exact .ite ((State.stepsEvaluate_advances hp few).trans
    ((State.planSettle_advances (by rwa [State.stepsEvaluate_count hp few])).mono inside_planSpans_settle)) (.refl s)

/-- A step that is done or skipped stays so. -/
theorem State.planEvaluate_settled (h1 : 1 ≤ i) (counts : i ≤ s.nat (ofPlan p OPENING_PLAN.STEP_COUNT))
    (h : s.stepState p i = 3 ∨ s.stepState p i = 4) : (s.planEvaluate p).stepState p i = s.stepState p i := by
  have own : StepOf p i := ⟨hp, h1, by omega⟩
  rw [State.planEvaluate_eq]
  split
  · rw [State.planSettle_state own (by rwa [State.stepsEvaluate_count hp few])]
    refine forBelow_induct (P := fun x => x.stepState p i = s.stepState p i) rfl fun j hj x hx => ?_
    by_cases same : j + 1 = i
    · rw [same, State.evalStep_settled (by omega), hx]
    · rw [State.evalStep_other own ⟨hp, by omega, by omega⟩ same, hx]
  · rfl

/-- A step that has begun to act goes on, or is done, or goes with a dependency. -/
theorem Acted.evaluate {r : State} (h1 : 1 ≤ i) (counts : i ≤ s.nat (ofPlan p OPENING_PLAN.STEP_COUNT)) (h : Acted p i r s) :
    Acted p i r (s.planEvaluate p) := by
  have own : StepOf p i := ⟨hp, h1, by omega⟩
  rw [State.planEvaluate_eq]
  split
  · have steps : Acted p i r (s.stepsEvaluate p) := forBelow_induct h fun j hj x hx => by
      by_cases same : j + 1 = i
      · exact same ▸ hx.evalOwn own
      · exact hx.evalOther own ⟨hp, by omega, by omega⟩ same
    have settles := State.planSettle_advances (s := s.stepsEvaluate p) (by rwa [State.stepsEvaluate_count hp few])
    refine ⟨(settles.nat_eq ?_).trans steps.word, (settles.nat_eq ?_).trans steps.since, ?_⟩
    · refine outside_append.2 ⟨outside_stateSpans.2 fun j hj => ?_, outside_endSpans.2 ⟨?_, ?_, ?_, outside_storeSpans ?_ ?_⟩⟩
      all_goals
        simp only [ofPlan, OPENING_STEPS.STEP, OPENING_STEP_STATE.STATE, OPENING_PLAN.PLAN_STATE, OPENING_PLAN.RESULT,
          OPENING_PLAN.END_FRAME]
        omega
    · refine outside_append.2 ⟨outside_stateSpans.2 fun j hj => ?_,
        outside_endSpans.2 ⟨?_, ?_, ?_, outside_internal (by decide) _⟩⟩
      all_goals
        simp only [ofPlan, OPENING_STEP_STATE.STATE, OPENING_PLAN.PLAN_STATE, OPENING_PLAN.RESULT, OPENING_PLAN.END_FRAME,
          STEP_ACT_AT, internal]
        omega
    · rw [State.planSettle_state own (by rwa [State.stepsEvaluate_count hp few])]
      exact steps.state
  · exact h

end

end

end Sys2Proof.Machine
end

section
/-!
SUPPORT. How a plan sees and commands channels, and a step that acts once its DELAY has passed (R159 to R161).
-/
open Sys2Proof
namespace Sys2Proof.Machine

section
variable {p i n : Nat} {s t : State}

/-! ### How a plan sees and commands channels (R159, R161) -/

/-- What waits to land of a REQUEST that a plan writes to channel n. -/
def State.requestItem (s : State) (n v : Nat) : Landing :=
  ⟨s.holderOfChannel n, s.frame + (s.dieDelay (dieOf n) - 1), s.time, .value (CHANNEL_CONFIG.REQUEST n) v, false⟩

theorem State.planRequest_lands (v : Nat) : s.requestItem n v ∈ (s.planRequest n v).landing :=
  List.mem_append_right s.landing List.mem_cons_self

theorem SW.group_lt (w : Nat) : SW.group w < 64 := Nat.mod_lt _ (by decide)

/-- The objects below those of the channels are nothing that a step writes. -/
theorem outside_evalWrites_low {k : Nat} (h : k < 0x300000) : Outside (evalWrites p i) k := by
  refine outside_evalWrites.2 ⟨?_, ?_, outside_stepWrites.2 ⟨outside_timers (by omega), ?_, fun m hm => ?_, fun r hr => ?_⟩⟩
  all_goals
    simp only [ofPlan, OPENING_STEP_STATE.STATE, OPENING_PLAN.SKIPPED_STEPS, CHANNEL_CONFIG.REQUEST, RESET_OUTPUT.FORCE,
      STEP_ACT_AT, internal]
    omega

section
variable (h : Advances (evalWrites p i) s t) (hn : n < 512)
include h hn

theorem Advances.holderOfChannel : t.holderOfChannel n = s.holderOfChannel n :=
  State.dealtTo_eq fun u hu => h.nat_eq (outside_evalWrites_low (by simp only [TENANT.CHANNELS]; omega))

theorem Advances.trumpHeld : t.trumpHeld n = s.trumpHeld n := by
  have holder := dealtTo_lt s (fun t => TENANT.CHANNELS t (n / 64)) (n % 64)
  rw [State.trumpHeld, h.holderOfChannel hn, State.bit, h.nat_eq (outside_evalWrites_low ?_)]
  · rfl
  · simp only [TENANT.TRUMP_HELD, State.holderOfChannel]
    omega

theorem Advances.linkState : t.nat (AMLOR_LINK.LINK_STATE (dieOf n)) = s.nat (AMLOR_LINK.LINK_STATE (dieOf n)) :=
  h.nat_eq (outside_evalWrites_low (by simp only [AMLOR_LINK.LINK_STATE, dieOf]; omega))

theorem Advances.requestItem (v : Nat) : t.requestItem n v = s.requestItem n v := by
  simp only [State.requestItem, State.dieDelay, h.holderOfChannel hn, h.linkState hn, h.time_eq,
    show t.frame = s.frame from h.leaves.parts .frame (by decide)]

/-- The states of channels, shown or seen last, are nothing that a step writes. -/
theorem Advances.seenState (own : StepOf p i) : t.seenState n = s.seenState n := by
  have shown : t.nat (CHANNEL_STATUS.STATE n) = s.nat (CHANNEL_STATUS.STATE n) := by
    refine h.nat_eq (outside_evalWrites.2 ⟨?_, ?_, outside_stepWrites.2 ⟨outside_timers ?_, ?_, fun m hm => ?_, fun r hr => ?_⟩⟩)
    all_goals
      simp only [ofPlan, OPENING_STEP_STATE.STATE, OPENING_PLAN.SKIPPED_STEPS, CHANNEL_CONFIG.REQUEST, RESET_OUTPUT.FORCE,
        CHANNEL_STATUS.STATE, STEP_ACT_AT, internal]
      omega
  have last : t.nat (SEEN n) = s.nat (SEEN n) := by
    refine h.nat_eq (outside_evalWrites.2 ⟨?_, ?_,
      outside_stepWrites.2 ⟨outside_internal (by decide) n, ?_, fun m hm => ?_, fun r hr => ?_⟩⟩)
    all_goals
      simp only [ofPlan, OPENING_STEP_STATE.STATE, OPENING_PLAN.SKIPPED_STEPS, CHANNEL_CONFIG.REQUEST, RESET_OUTPUT.FORCE, SEEN,
        STEP_ACT_AT, internal]
      omega
  rw [State.seenState, State.linkUp, h.linkState hn, shown, last, State.seenState, State.linkUp]

end

/-- The members of a group are nothing that a step writes. -/
theorem Advances.members (h : Advances (evalWrites p i) s t) (hp : p < 2) {g : Nat} (hg : g < 64) :
    t.members g = s.members g := by
  refine List.filter_congr fun m hm => ?_
  have hm := List.mem_range.1 hm
  rw [State.inGroup, State.bit, h.nat_eq (outside_evalWrites.2 ⟨?_, ?_,
    outside_stepWrites.2 ⟨outside_timers ?_, ?_, fun m hm => ?_, fun r hr => ?_⟩⟩)]
  · rfl
  all_goals
    simp only [ofPlan, OPENING_STEP_STATE.STATE, OPENING_PLAN.SKIPPED_STEPS, CHANNEL_CONFIG.REQUEST, RESET_OUTPUT.FORCE,
      SEQ_GROUP.MEMBERS, STEP_ACT_AT, internal]
    omega

theorem State.trumpHeld_of_regs (h : t.regs = s.regs) (n : Nat) : t.trumpHeld n = s.trumpHeld n := by
  simp only [State.trumpHeld, State.bit, State.holderOfChannel, State.dealtTo, State.nat, State.get, h]

/-- R161: a member that is not held under trump is in the snapshot. -/
theorem State.takeSnapshot_takes (member : n ∈ s.members (SW.group (s.stepWord p i))) (free : s.trumpHeld n = false) :
    ((s.takeSnapshot p i).nat (STEP_SNAP (stepOf p i))).testBit n = true := by
  unfold State.takeSnapshot
  extract_lets all u
  have regs : u.regs = s.regs := forEach_induct (P := fun x => x.regs = s.regs) rfl fun _ _ x hx => hx
  rw [State.nat_setN_other, State.nat_setN_self, testBit_maskOf]
  · exact List.mem_filter.2 ⟨member, by rw [State.trumpHeld_of_regs regs, free, Bool.not_false]⟩
  · simp only [STEP_SNAP, STEP_MET, internal]
    omega

/-- What each member of a list is commanded, waits to land. -/
theorem forEach_lands {l : List Nat} {f : Nat → State → State} {v : Nat} (hl : l.Nodup) (small : ∀ m ∈ l, m < 512) (hn : n ∈ l)
    (advances : ∀ m ∈ l, ∀ x, Advances (stepWrites p) x (f m x))
    (own : ∀ x, Advances (evalWrites p i) s x → x.requestItem n v ∈ (f n x).landing) :
    s.requestItem n v ∈ (forEach l f s).landing := by
  have pass (m : Nat) (hm : m ∈ l) (x : State) : Advances (evalWrites p i) x (f m x) :=
    (advances m hm x).mono (inside_actWrites.trans inside_evalWrites)
  refine forEach_establishes (Q := Advances (evalWrites p i) s) (P := fun x => s.requestItem n v ∈ x.landing) hn hl (.refl s)
    (fun m hm x hx => hx.trans (pass m hm x)) (fun x hx => ?_) fun m hm _ x hx => (pass m hm x).landing.subset hx
  rw [← hx.requestItem (small n hn) v]
  exact own x hx

/-- The REQUEST that a step of a word writes to its members. -/
abbrev requestOf (w : Nat) : Nat := if SW.action w = 1 then 1 else 0

theorem State.stepSends_lands {w : Nat} (own : StepOf p i) (taken : (s.nat (STEP_SNAP (stepOf p i))).testBit n = true) (hn : n < 512)
    (commands : SW.action w = 1 ∨ SW.action w = 2) (on : SW.action w = 1 → s.seenState n ≠ ST.PWM ∧ s.seenState n ≠ ST.LIMIT) :
    s.requestItem n (requestOf w) ∈ (s.stepSends p i w).landing := by
  have small (m : Nat) (hm : m ∈ membersOf (s.nat (STEP_SNAP (stepOf p i)))) : m < 512 := (mem_membersOf.1 hm).1
  have member := mem_membersOf.2 ⟨hn, taken⟩
  unfold State.stepSends requestOf
  rcases commands with one | two
  · obtain ⟨pwm, limit⟩ := on one
    rw [one, if_pos rfl]
    refine forEach_lands (p := p) (i := i) (nodup_membersOf _) small member (fun m hm x => State.planOn_advances (small m hm))
      fun x hx => ?_
    rw [State.planOn, hx.seenState hn own, if_neg (by simp [pwm, limit])]
    exact State.planRequest_lands 1
  · rw [two, if_neg (by decide)]
    exact forEach_lands (p := p) (i := i) (nodup_membersOf _) small member
      (fun m hm x => State.planRequest_advances (small m hm) 0) fun x _ => State.planRequest_lands 0

/-- R161: the REQUEST of each member that a step commands waits to land as the step begins to act. -/
theorem State.stepAct_lands (h : StepOf p i) (commands : SW.action (s.stepWord p i) = 1 ∨ SW.action (s.stepWord p i) = 2)
    (member : n ∈ s.members (SW.group (s.stepWord p i))) (free : s.trumpHeld n = false)
    (on : SW.action (s.stepWord p i) = 1 → s.seenState n ≠ ST.PWM ∧ s.seenState n ≠ ST.LIMIT) :
    s.requestItem n (requestOf (s.stepWord p i)) ∈ (s.stepAct p i).landing := by
  have hn : n < 512 := List.mem_range.1 (List.mem_filter.1 member).1
  have entered := State.stepEnters_advances (s := s) (p := p) (i := i)
  have taken : (((s.stepEnters p i).takeSnapshot p i).nat (STEP_SNAP (stepOf p i))).testBit n = true := by
    refine State.takeSnapshot_takes ?_ ((entered.trumpHeld hn).trans free)
    rw [show (s.stepEnters p i).stepWord p i = s.stepWord p i from entered.nat_eq (outside_evalWrites_word h h),
      entered.members h.1 (SW.group_lt _)]
    exact member
  have seen : Advances (evalWrites p i) s ((s.stepEnters p i).takeSnapshot p i) :=
    entered.trans (State.takeSnapshot_advances.mono (inside_actWrites.trans inside_evalWrites))
  rw [State.stepAct_eq, if_neg (by rcases commands with c | c <;> rw [c] <;> decide), State.stepCommands, if_neg]
  · rw [← seen.requestItem hn]
    exact State.stepSends_lands h taken hn commands (by rwa [seen.seenState hn h])
  · intro zero
    rw [zero, Nat.zero_testBit] at taken
    cases taken

/-! ### The end of a DELAY (R160) -/

theorem State.stepDelayEnd_eq (instant : s.planInstant p = true) (delaying : s.stepState p i = 1)
    (passed : s.nat (STEP_READY_AT (stepOf p i)) + 1000 * SW.delay (s.stepWord p i) ≤ s.time) :
    s.stepDelayEnd p i = (s.stepAct p i).planEvaluate p := if_pos (by simp [instant, delaying, passed])

/-- What the number of steps is, a step does not change. -/
theorem Advances.stepCount (h : Advances (evalWrites p i) s t) (hi : StepOf p i) :
    t.nat (ofPlan p OPENING_PLAN.STEP_COUNT) = s.nat (ofPlan p OPENING_PLAN.STEP_COUNT) := h.nat_eq (outside_evalWrites_count hi)

/-- A step whose DELAY has passed acts, and commands its members. -/
theorem State.stepDelayEnd_acts (h : StepOf p i) (few : s.nat (ofPlan p OPENING_PLAN.STEP_COUNT) ≤ 128)
    (counts : i ≤ s.nat (ofPlan p OPENING_PLAN.STEP_COUNT)) (instant : s.planInstant p = true) (delaying : s.stepState p i = 1)
    (passed : s.nat (STEP_READY_AT (stepOf p i)) + 1000 * SW.delay (s.stepWord p i) ≤ s.time) :
    Acted p i s (s.stepDelayEnd p i) ∧ (s.stepAct p i).landing <+: (s.stepDelayEnd p i).landing := by
  have count := State.stepAct_advances.stepCount (s := s) h
  rw [State.stepDelayEnd_eq instant delaying passed]
  exact ⟨(State.stepAct_acted h).evaluate h.1 (by rwa [count]) h.2.1 (by rwa [count]),
    (State.planEvaluate_advances h.1 (by rwa [count])).landing⟩

end

end Sys2Proof.Machine
end

section
/-!
SUPPORT. Stalemates of a step: what they tell, and what each policy makes of them (R162, R163).
-/
open Sys2Proof
namespace Sys2Proof.Machine

section
variable {p i : Nat} {s t : State}

/-! ### Stalemates (R162, R163) -/

/-- A stalemate is counted and raised. -/
def State.stalemateTold (s : State) (p i short : Nat) : State :=
  (s.count (ofPlan p OPENING_PLAN.STALEMATES) 0xFFFF).raisePlan .STALEMATE p i [f8 i, f8 (SW.policy (s.stepWord p i)), f16 short]

/-- What the policy of a step makes of its stalemate. -/
def State.stalemateEnds (s : State) (p i policy : Nat) : State :=
  match policy with
  | 0 => (s.stepSkip p i 1).planEvaluate p
  | 1 => s.planEnd p 3
  | _ => (s.setStep p i 5).planSettle p

theorem State.stalemate_eq (instant : s.planInstant p = true)
    (waits : s.stepState p i = 0 ∨ (s.stepState p i = 2 ∧ SW.action (s.stepWord p i) ≠ 4)) (timed : SW.timeout (s.stepWord p i) ≠ 0)
    (spent : 1000 * SW.timeout (s.stepWord p i) ≤ s.nat (STEP_SPENT (stepOf p i))) :
    ∃ short, s.stalemate p i = (s.stalemateTold p i short).stalemateEnds p i (SW.policy (s.stepWord p i)) :=
  ⟨_, if_pos (by rcases waits with pending | ⟨acting, other⟩ <;> simp [*])⟩

theorem State.countStalemate_follows : Follows s (s.count (ofPlan p OPENING_PLAN.STALEMATES) 0xFFFF) :=
  (Follows.refl s).set (by simp only [ofPlan, OPENING_PLAN.STALEMATES, TICK_OFFSET, internal]; omega)

theorem outside_planSpans {k : Nat} : Outside (planSpans p) k ↔
    Outside [each STEP_ACT_AT] k ∧ Outside (stepWrites p) k ∧ Outside (stateSpans p) k ∧ Outside (endSpans p) k := by
  rw [planSpans, settleSpans, ← List.singleton_append, outside_append, outside_append, outside_append]

/-- Stalemates are counted by themselves: no plan writes that counter as it is evaluated or ends. -/
theorem outside_planSpans_stalemates (hp : p < 2) : Outside (planSpans p) (ofPlan p OPENING_PLAN.STALEMATES) := by
  have low : ofPlan p OPENING_PLAN.STALEMATES < 2 ^ 40 := by
    simp only [ofPlan, OPENING_PLAN.STALEMATES]
    omega
  refine outside_planSpans.2 ⟨outside_above (2 ^ 40) low (by decide), outside_stepWrites.2 ⟨outside_timers low, ?_, fun n hn => ?_,
    fun r hr => ?_⟩, outside_stateSpans.2 fun j hj => ?_, outside_endSpans.2 ⟨?_, ?_, ?_, outside_storeSpans ?_ low⟩⟩
  all_goals
    simp only [ofPlan, OPENING_PLAN.STALEMATES, OPENING_PLAN.SKIPPED_STEPS, OPENING_STEP_STATE.STATE, OPENING_PLAN.PLAN_STATE,
      OPENING_PLAN.RESULT, OPENING_PLAN.END_FRAME, CHANNEL_CONFIG.REQUEST, RESET_OUTPUT.FORCE]
    omega

/-- Whatever the policy, no more is written than the plan may write. -/
theorem State.stalemateEnds_advances (h : StepOf p i) (few : s.nat (ofPlan p OPENING_PLAN.STEP_COUNT) ≤ 128) (policy : Nat) :
    Advances (planSpans p) s (s.stalemateEnds p i policy) := by
  have own {x : State} (a : Advances (actWrites p i) s x) :
      Advances (planSpans p) s x ∧ x.nat (ofPlan p OPENING_PLAN.STEP_COUNT) ≤ 128 :=
    ⟨a.mono (inside_evalWrites.trans (inside_planSpans h)), by rwa [(a.mono inside_evalWrites).stepCount h]⟩
  unfold State.stalemateEnds
  split
  · obtain ⟨skips, few⟩ := own (State.stepSkip_advances 1)
    exact skips.trans (State.planEvaluate_advances h.1 few)
  · exact (State.planEnd_ends few 3).mono inside_planSpans_settle
  · obtain ⟨holds, few⟩ := own (State.setStep_advances 5)
    exact holds.trans ((State.planSettle_advances few).mono inside_planSpans_settle)

/-- A plan with a held step is held. -/
theorem State.planSettle_held (h1 : 1 ≤ i) (counts : i ≤ s.nat (ofPlan p OPENING_PLAN.STEP_COUNT)) (held : s.stepState p i = 5) :
    (s.planSettle p).nat (ofPlan p OPENING_PLAN.PLAN_STATE) = 2 := by
  unfold State.planSettle
  extract_lets steps
  have own : i ∈ steps := List.mem_map.2 ⟨i - 1, List.mem_range.2 (by omega), by omega⟩
  rw [if_neg, State.nat_setN_self, if_pos]
  · exact List.any_eq_true.2 ⟨i, own, by simp [held]⟩
  · intro all
    simpa [held] using List.all_eq_true.1 all i own

/-- The policy of a stalemate: the step is skipped, the plan ends, or both are held. -/
theorem State.stalemateEnds_shows (h : StepOf p i) (few : s.nat (ofPlan p OPENING_PLAN.STEP_COUNT) ≤ 128)
    (counts : i ≤ s.nat (ofPlan p OPENING_PLAN.STEP_COUNT)) :
    (s.stalemateEnds p i 0).stepState p i = 4 ∧
    ((s.stalemateEnds p i 1).nat (ofPlan p OPENING_PLAN.PLAN_STATE) = 3 ∧
      (s.stalemateEnds p i 1).nat (ofPlan p OPENING_PLAN.RESULT) = 3) ∧
    (s.stalemateEnds p i 2).stepState p i = 5 ∧ (s.stalemateEnds p i 2).nat (ofPlan p OPENING_PLAN.PLAN_STATE) = 2 := by
  have count {x : State} (a : Advances (actWrites p i) s x) := (a.mono inside_evalWrites).stepCount h
  have skips := count (State.stepSkip_advances 1)
  have holds := count (State.setStep_advances 5)
  have skipped := s.stepSkip_state 1 h.low
  have held : (s.setStep p i 5).stepState p i = 5 := State.setStep_state 5
  refine ⟨?_, s.planEnd_shows (by decide) (by decide), ?_, ?_⟩
  · exact (State.planEvaluate_settled h.1 (by rwa [skips]) h.2.1 (by rwa [skips]) (.inr skipped)).trans skipped
  · exact (State.planSettle_state h (by rwa [holds])).trans held
  · exact State.planSettle_held h.2.1 (by rwa [holds]) held

/-- A step that is skipped is recorded as that. -/
theorem State.stepSkip_raises {r : State} (f : Follows r s) (low : ofPlan p (OPENING_STEP_STATE.STATE (i - 1)) < 2 ^ 40) (cause : Nat) :
    Raises r (s.stepSkip p i cause) .STEP_SKIPPED (siteBlock 0x7F (p + 1) i) 0 [f8 (p + 1), f8 i, f8 cause] := by
  have noted : Follows r (s.skipNoted p i) := by
    refine ((f.set ?_).set ?_).set ?_
    · simp only [TICK_OFFSET, internal]
      omega
    all_goals
      simp only [ofPlan, OPENING_PLAN.SKIPPED_STEPS, STEP_MOVED_AT, TICK_OFFSET, internal]
      omega
  rw [State.stepSkip_eq]
  exact noted.raises _ _ _ _ _

/-- The evaluation after a step is skipped keeps the record of that. -/
theorem State.stalemateEnds_raises {r : State} (f : Follows r s) (h : StepOf p i)
    (few : s.nat (ofPlan p OPENING_PLAN.STEP_COUNT) ≤ 128) : Raises r (s.stalemateEnds p i 0) .STEP_SKIPPED
      (siteBlock 0x7F (p + 1) i) 0 [f8 (p + 1), f8 i, f8 1] := by
  have count := ((State.stepSkip_advances 1).mono inside_evalWrites).stepCount (s := s) h
  exact (State.stepSkip_raises f h.low 1).mono (State.planEvaluate_advances h.1 (by rwa [count])).collector

theorem State.stalemateTold_advances (short : Nat) :
    Advances [one (ofPlan p OPENING_PLAN.STALEMATES)] s (s.stalemateTold p i short) :=
  ((Advances.refl s).setN .here).raise _ _ _ _ _

theorem State.stalemateTold_follows (short : Nat) : Follows s (s.stalemateTold p i short) :=
  (State.stalemateTold_advances short).follows (outside_one
    (by simp only [ofPlan, OPENING_PLAN.STALEMATES, TICK_OFFSET, internal]; omega) (outside_nil.2 trivial))

theorem State.stalemateTold_nat (short : Nat) {k : Nat} (hk : k ≠ ofPlan p OPENING_PLAN.STALEMATES) :
    (s.stalemateTold p i short).nat k = s.nat k :=
  (State.stalemateTold_advances short).nat_eq (outside_one hk (outside_nil.2 trivial))

theorem State.stalemateTold_counts (short : Nat) : (s.stalemateTold p i short).nat (ofPlan p OPENING_PLAN.STALEMATES) =
    satTo 0xFFFF (s.nat (ofPlan p OPENING_PLAN.STALEMATES) + 1) := by
  rw [State.stalemateTold, State.raisePlan, State.raise_nat, State.nat_count_self]

theorem State.stalemateTold_raises (short : Nat) : Raises s (s.stalemateTold p i short) .STALEMATE (siteBlock 0x7F (p + 1) i) 0
    [f8 (p + 1), f8 i, f8 (SW.policy (s.stepWord p i)), f16 short] :=
  State.countStalemate_follows.raises _ _ _ _ _

/-- What a stalemate shows once its policy has been applied. -/
theorem State.stalemate_shows (h : StepOf p i) (few : s.nat (ofPlan p OPENING_PLAN.STEP_COUNT) ≤ 128)
    (counts : i ≤ s.nat (ofPlan p OPENING_PLAN.STEP_COUNT)) (instant : s.planInstant p = true)
    (waits : s.stepState p i = 0 ∨ (s.stepState p i = 2 ∧ SW.action (s.stepWord p i) ≠ 4)) (timed : SW.timeout (s.stepWord p i) ≠ 0)
    (spent : 1000 * SW.timeout (s.stepWord p i) ≤ s.nat (STEP_SPENT (stepOf p i))) :
    let t := s.stalemate p i
    let w := s.stepWord p i
    let raises k fields := Raises s t k (siteBlock 0x7F (p + 1) i) 0 (f8 (p + 1) :: f8 i :: fields)
    t.nat (ofPlan p OPENING_PLAN.STALEMATES) = satTo 0xFFFF (s.nat (ofPlan p OPENING_PLAN.STALEMATES) + 1) ∧
      (∃ short : Nat, raises .STALEMATE [f8 (SW.policy w), f16 short]) ∧
      (SW.policy w = 0 → t.stepState p i = 4 ∧ raises .STEP_SKIPPED [f8 1]) ∧
      (SW.policy w = 1 → t.nat (ofPlan p OPENING_PLAN.PLAN_STATE) = 3 ∧ t.nat (ofPlan p OPENING_PLAN.RESULT) = 3) ∧
      (SW.policy w = 2 → t.stepState p i = 5 ∧ t.nat (ofPlan p OPENING_PLAN.PLAN_STATE) = 2) := by
  intro t w raises
  obtain ⟨short, e⟩ : ∃ short, t = _ := State.stalemate_eq instant waits timed spent
  have count : (s.stalemateTold p i short).nat (ofPlan p OPENING_PLAN.STEP_COUNT) = s.nat (ofPlan p OPENING_PLAN.STEP_COUNT) :=
    State.stalemateTold_nat short (by simp only [ofPlan, OPENING_PLAN.STALEMATES, OPENING_PLAN.STEP_COUNT]; omega)
  have ends := State.stalemateEnds_advances h (count ▸ few) (SW.policy w)
  obtain ⟨skipped, ended, held⟩ := State.stalemateEnds_shows h (count ▸ few) (count ▸ counts)
  rw [← e] at ends
  refine ⟨?_, ⟨short, (State.stalemateTold_raises short).mono ends.collector⟩, fun policy => ?_, fun policy => ?_, fun policy => ?_⟩
  · rw [ends.nat_eq (outside_planSpans_stalemates h.1), State.stalemateTold_counts]
  · have e : t = (s.stalemateTold p i short).stalemateEnds p i 0 := policy ▸ e
    refine ⟨e ▸ skipped, ?_⟩
    show Raises s t _ _ _ _
    rw [e]
    exact State.stalemateEnds_raises (State.stalemateTold_follows short) h (by rwa [count])
  · have e : t = (s.stalemateTold p i short).stalemateEnds p i 1 := policy ▸ e
    exact e ▸ ended
  · have e : t = (s.stalemateTold p i short).stalemateEnds p i 2 := policy ▸ e
    exact e ▸ held

end

end Sys2Proof.Machine
end

section
/-!
SUPPORT. A step that has waited long enough for discharge (R164).
-/
open Sys2Proof
namespace Sys2Proof.Machine

section
variable {p i g n m : Nat} {s t x : State}

/-! ### A member that is not discharged -/

/-- A member of group g that is not discharged, marked and counted. -/
def State.undischarged (s : State) (g n : Nat) : State :=
  ((s.setBit (WIN n) WFLAG.NOT_DISCHARGED true).setN (ND_GROUP n) (g + 1)).count (CHANNEL_SUPERVISION.DISCHARGE_TIMEOUTS n) 0xFFFF

theorem State.notDischarged_eq : s.notDischarged g n = (s.undischarged g n).raiseChannel .NOT_DISCHARGED n 0 0
    [f32 ((s.undischarged g n).get (CHANNEL_STATUS.V_MEAN n)), f32 ((s.undischarged g n).get (SEQ_GROUP.DISCHARGE_LEVEL g))] := rfl

/-- What a member that is not discharged writes. -/
abbrev undischargedSpans (n : Nat) : List Span := [one (CHANNEL_SUPERVISION.DISCHARGE_TIMEOUTS n), one (ND_GROUP n), one (WIN n)]

theorem State.undischarged_leaves : Leaves (undischargedSpans n) [] s (s.undischarged g n) :=
  State.setN_leaves (State.setN_leaves (State.setBit_leaves (.refl s) Covered.here.next.next) Covered.here.next) .here

theorem State.notDischarged_writes : Leaves (undischargedSpans n) [.dieMsgs] s (s.notDischarged g n) :=
  State.notDischarged_leaves g n (.refl s) .refl fun _ h => h

theorem outside_undischarged {k : Nat} : Outside (undischargedSpans n) k ↔
    k ≠ CHANNEL_SUPERVISION.DISCHARGE_TIMEOUTS n ∧ k ≠ ND_GROUP n ∧ k ≠ WIN n := by
  simp only [outside_cons, outside_nil, Nat.zero_mul, Nat.add_zero, forall_const, and_true]

/-- What any member that is not discharged may write. -/
theorem inside_undischarged : Inside (undischargedSpans n)
    [each CHANNEL_SUPERVISION.DISCHARGE_TIMEOUTS, each ND_GROUP, each WIN] :=
  CHANNEL_SUPERVISION.DISCHARGE_TIMEOUTS_wide (inSkip (ND_GROUP_wide (inSkip (WIN_wide inNil))))

theorem DieFollows.notDischarged (f : DieFollows s x) : DieFollows s (x.notDischarged g n) :=
  f.trans (.of_leaves (State.notDischarged_writes.mono inside_undischarged fun _ h => h)
    (((DieGrows.refl x).quiet State.undischarged_leaves).raiseDie _ _ _ _ _ _))

/-- In x channel n counts and shows what it did in s, and nothing that was raised since s is gone. -/
structure Untold (g n : Nat) (s x : State) : Prop where
  follows : DieFollows s x
  counts : x.nat (CHANNEL_SUPERVISION.DISCHARGE_TIMEOUTS n) = s.nat (CHANNEL_SUPERVISION.DISCHARGE_TIMEOUTS n)
  shows : x.get (CHANNEL_STATUS.V_MEAN n) = s.get (CHANNEL_STATUS.V_MEAN n)
  level : x.get (SEQ_GROUP.DISCHARGE_LEVEL g) = s.get (SEQ_GROUP.DISCHARGE_LEVEL g)

/-- R164: from s to x channel n is marked, counted and raised as not discharged. -/
structure Told (g n : Nat) (s x : State) : Prop where
  marked : x.bit (WIN n) WFLAG.NOT_DISCHARGED = true
  counted : x.nat (CHANNEL_SUPERVISION.DISCHARGE_TIMEOUTS n) =
    satTo 0xFFFF (s.nat (CHANNEL_SUPERVISION.DISCHARGE_TIMEOUTS n) + 1)
  raised : DieRaises s x (dieOf n) .NOT_DISCHARGED (siteChannel n 0) (s.holderOfChannel n)
    [f16 n, f32 (s.get (CHANNEL_STATUS.V_MEAN n)), f32 (s.get (SEQ_GROUP.DISCHARGE_LEVEL g))]

theorem outside_undischarged_shown : Outside (undischargedSpans m) (CHANNEL_STATUS.V_MEAN n) := by
  refine outside_undischarged.2 ⟨?_, ?_, ?_⟩
  all_goals
    simp only [CHANNEL_STATUS.V_MEAN, CHANNEL_SUPERVISION.DISCHARGE_TIMEOUTS, ND_GROUP, WIN, internal]
    omega

theorem outside_undischarged_level : Outside (undischargedSpans m) (SEQ_GROUP.DISCHARGE_LEVEL g) := by
  refine outside_undischarged.2 ⟨?_, ?_, ?_⟩
  all_goals
    simp only [SEQ_GROUP.DISCHARGE_LEVEL, CHANNEL_SUPERVISION.DISCHARGE_TIMEOUTS, ND_GROUP, WIN, internal]
    omega

theorem outside_undischarged_counter (ne : m ≠ n) :
    Outside (undischargedSpans m) (CHANNEL_SUPERVISION.DISCHARGE_TIMEOUTS n) := by
  refine outside_undischarged.2 ⟨?_, ?_, ?_⟩
  all_goals
    simp only [CHANNEL_SUPERVISION.DISCHARGE_TIMEOUTS, ND_GROUP, WIN, internal]
    omega

theorem outside_undischarged_window (ne : m ≠ n) : Outside (undischargedSpans m) (WIN n) := by
  refine outside_undischarged.2 ⟨?_, ?_, ?_⟩
  all_goals
    simp only [CHANNEL_SUPERVISION.DISCHARGE_TIMEOUTS, ND_GROUP, WIN, internal]
    omega

theorem Untold.other (h : Untold g n s x) (ne : m ≠ n) : Untold g n s (x.notDischarged g m) where
  follows := h.follows.notDischarged
  counts := (State.notDischarged_writes.nat_eq (outside_undischarged_counter ne)).trans h.counts
  shows := (State.notDischarged_writes.get_eq outside_undischarged_shown).trans h.shows
  level := (State.notDischarged_writes.get_eq outside_undischarged_level).trans h.level

theorem Untold.told (h : Untold g n s x) (hn : n < 512) : Told g n s (x.notDischarged g n) where
  marked := by
    rw [State.notDischarged_eq, State.bit, State.nat_raiseChannel, State.undischarged, State.nat_count_other, State.nat_setN_other]
    · exact State.bit_setBit_self _
    all_goals
      simp only [CHANNEL_SUPERVISION.DISCHARGE_TIMEOUTS, ND_GROUP, WIN, internal]
      omega
  counted := by
    rw [State.notDischarged_eq, State.nat_raiseChannel, State.undischarged, State.nat_count_self, State.nat_setN_other, State.setBit,
      State.nat_setN_other, h.counts]
    all_goals
      simp only [CHANNEL_SUPERVISION.DISCHARGE_TIMEOUTS, ND_GROUP, WIN, internal]
      omega
  raised := by
    have writes := State.undischarged_leaves (s := x) (g := g) (n := n)
    have marked : DieFollows s (x.undischarged g n) := h.follows.quiet (writes.mono inside_undischarged fun _ h => h)
    rw [State.notDischarged_eq, writes.get_eq outside_undischarged_shown, h.shows,
      writes.get_eq outside_undischarged_level, h.level]
    exact marked.raisesChannel hn _ _ _ _

theorem Told.other (h : Told g n s x) (ne : m ≠ n) : Told g n s (x.notDischarged g m) where
  marked := by rw [State.bit, State.notDischarged_writes.nat_eq (outside_undischarged_window ne)]; exact h.marked
  counted := (State.notDischarged_writes.nat_eq (outside_undischarged_counter ne)).trans h.counted
  raised := h.raised.mono (DieFollows.refl x).notDischarged.grows

/-- What has been told of a member stays, whatever a plan writes. -/
theorem Told.advances (h : Told g n s x) (hp : p < 2) (hn : n < 512) (a : Advances (planSpans p) x t) : Told g n s t where
  marked := by
    rw [State.bit, a.nat_eq]
    · exact h.marked
    refine outside_planSpans.2 ⟨outside_internal (by decide) n, outside_stepWrites.2 ⟨outside_internal (by decide) n, ?_, fun m hm => ?_,
      fun r hr => ?_⟩, outside_stateSpans.2 fun j hj => ?_, outside_endSpans.2 ⟨?_, ?_, ?_, outside_internal (by decide) n⟩⟩
    all_goals
      simp only [ofPlan, OPENING_PLAN.SKIPPED_STEPS, OPENING_STEP_STATE.STATE, OPENING_PLAN.PLAN_STATE, OPENING_PLAN.RESULT,
        OPENING_PLAN.END_FRAME, CHANNEL_CONFIG.REQUEST, RESET_OUTPUT.FORCE, WIN, internal]
      omega
  counted := by
    refine (a.nat_eq (outside_planSpans.2 ⟨outside_above (2 ^ 40) ?_ (by decide), outside_stepWrites.2 ⟨outside_timers ?_, ?_,
      fun m hm => ?_, fun r hr => ?_⟩, outside_stateSpans.2 fun j hj => ?_,
      outside_endSpans.2 ⟨?_, ?_, ?_, outside_storeSpans ?_ ?_⟩⟩)).trans h.counted
    all_goals
      simp only [ofPlan, OPENING_PLAN.SKIPPED_STEPS, OPENING_STEP_STATE.STATE, OPENING_PLAN.PLAN_STATE, OPENING_PLAN.RESULT,
        OPENING_PLAN.END_FRAME, CHANNEL_CONFIG.REQUEST, RESET_OUTPUT.FORCE, CHANNEL_SUPERVISION.DISCHARGE_TIMEOUTS]
      omega
  raised := h.raised.mono ((DieGrows.refl x).quiet a.leaves)

/-- Each member of a list is told as not discharged. -/
theorem forEach_told {l : List Nat} (hl : l.Nodup) (member : n ∈ l) (hn : n < 512) :
    Told g n s (forEach l (fun n s => s.notDischarged g n) s) :=
  forEach_meets (Q := Untold g n s) member hl ⟨.refl s, rfl, rfl, rfl⟩ (fun _ _ ne _ h => h.other ne)
    (fun _ h => h.told hn) fun _ _ ne _ h => h.other ne

/-! ### The end of a DISCHARGE_TIMEOUT -/

/-- The members that a step still waits for. -/
def State.undone (s : State) (p i : Nat) : List Nat :=
  (membersOf (s.nat (STEP_SNAP (stepOf p i)))).filter fun n => !(s.metNow p i).testBit n

/-- The members that a step still waits for, told as not discharged. -/
def State.undoneTold (s : State) (p i g : Nat) : State := forEach (s.undone p i) (fun n s => s.notDischarged g n) s

theorem State.dischargeTimeout_eq (instant : s.planInstant p = true) (acting : s.stepState p i = 2)
    (waits : SW.action (s.stepWord p i) = 4) (passed : s.nat (STEP_ACT_AT (stepOf p i)) +
      s.nat (SEQ_GROUP.DISCHARGE_TIMEOUT (SW.group (s.stepWord p i))) ≤ s.time) :
    s.dischargeTimeout p i = ((s.undoneTold p i (SW.group (s.stepWord p i))).stepDone p i).planEvaluate p :=
  if_pos (by simp [instant, acting, waits, passed])

theorem outside_undischarged_count : Outside (undischargedSpans n) (ofPlan p OPENING_PLAN.STEP_COUNT) := by
  refine outside_undischarged.2 ⟨?_, ?_, ?_⟩
  all_goals
    simp only [ofPlan, OPENING_PLAN.STEP_COUNT, CHANNEL_SUPERVISION.DISCHARGE_TIMEOUTS, ND_GROUP, WIN, internal]
    omega

theorem State.undoneTold_count : (s.undoneTold p i g).nat (ofPlan p OPENING_PLAN.STEP_COUNT) =
    s.nat (ofPlan p OPENING_PLAN.STEP_COUNT) := by
  unfold State.undoneTold
  exact forEach_induct (P := fun x => x.nat (ofPlan p OPENING_PLAN.STEP_COUNT) = s.nat (ofPlan p OPENING_PLAN.STEP_COUNT)) rfl
    fun _ _ _ hx => (State.notDischarged_writes.nat_eq outside_undischarged_count).trans hx

/-- R164: after DISCHARGE_TIMEOUT the step is done, and each member that is not discharged is told. -/
theorem State.dischargeTimeout_shows (h : StepOf p i) (few : s.nat (ofPlan p OPENING_PLAN.STEP_COUNT) ≤ 128)
    (counts : i ≤ s.nat (ofPlan p OPENING_PLAN.STEP_COUNT)) (instant : s.planInstant p = true) (acting : s.stepState p i = 2)
    (waits : SW.action (s.stepWord p i) = 4) (passed : s.nat (STEP_ACT_AT (stepOf p i)) +
      s.nat (SEQ_GROUP.DISCHARGE_TIMEOUT (SW.group (s.stepWord p i))) ≤ s.time) :
    (s.dischargeTimeout p i).stepState p i = 3 ∧
      ∀ n < 512, (s.nat (STEP_SNAP (stepOf p i))).testBit n = true → (s.metNow p i).testBit n = false →
        Told (SW.group (s.stepWord p i)) n s (s.dischargeTimeout p i) := by
  have done : Advances (actWrites p i) (s.undoneTold p i (SW.group (s.stepWord p i))) _ := State.stepDone_advances
  have count := ((done.mono inside_evalWrites).stepCount h).trans State.undoneTold_count
  have state := State.stepDone_state (s := s.undoneTold p i (SW.group (s.stepWord p i))) h.low
  rw [State.dischargeTimeout_eq instant acting waits passed]
  refine ⟨(State.planEvaluate_settled h.1 (by rwa [count]) h.2.1 (by rwa [count]) (.inl state)).trans state, fun n hn snap unmet => ?_⟩
  have told : Told (SW.group (s.stepWord p i)) n s (s.undoneTold p i (SW.group (s.stepWord p i))) :=
    forEach_told ((nodup_membersOf _).filter _) (List.mem_filter.2 ⟨mem_membersOf.2 ⟨hn, snap⟩, by rw [unmet, Bool.not_false]⟩) hn
  exact told.advances h.1 hn ((done.mono (inside_evalWrites.trans (inside_planSpans h))).trans
    (State.planEvaluate_advances h.1 (by rwa [count])))

end

end Sys2Proof.Machine
end

section
/-!
SUPPORT. The trigger of Endgame, and its start at a boundary (R167).
-/
open Sys2Proof
namespace Sys2Proof.Machine

section
variable {s : State} {k us trigger : Nat}

/-! ### The trigger -/

/-- The selected wake input was active, and is not. -/
abbrev State.triggerReleased (s : State) : Prop :=
  s.flag (ENDGAME_ARMED (s.nat ENDGAME_PLAN.TRIGGER - 1)) = true ∧ s.wakeActive (s.nat ENDGAME_PLAN.TRIGGER - 1) = false

theorem State.endgameTrigger_early (h : us < s.nat ENDGAME_PLAN.TRIGGER_DELAY) : s.endgameTrigger us = s :=
  if_neg (by simp only [Bool.and_eq_true, decide_eq_true_eq]; omega)

theorem State.endgameTrigger_eq (live : s.live = true) (selected : s.nat ENDGAME_PLAN.TRIGGER ≠ 0)
    (input : s.nat ENDGAME_PLAN.TRIGGER ≤ 8) (idle : s.planRuns 1 = false) (released : s.triggerReleased)
    (delay : s.nat ENDGAME_PLAN.TRIGGER_DELAY ≤ us) : s.endgameTrigger us =
      forBelow 8 (fun i s => s.setN (ENDGAME_ARMED i) 0) (s.setN ENDGAME_DUE (s.nat ENDGAME_PLAN.TRIGGER)) :=
  if_pos (by simp [live, selected, input, idle, released.1, released.2, delay])

theorem endgameArmed_ne_due (i : Nat) : ENDGAME_DUE ≠ ENDGAME_ARMED i := by
  simp only [ENDGAME_ARMED, ENDGAME_DUE, internal]
  omega

/-- A trigger that is taken is due, and no input is armed any more. -/
theorem State.endgameTrigger_takes (live : s.live = true) (selected : s.nat ENDGAME_PLAN.TRIGGER ≠ 0)
    (input : s.nat ENDGAME_PLAN.TRIGGER ≤ 8) (idle : s.planRuns 1 = false) (released : s.triggerReleased)
    (delay : s.nat ENDGAME_PLAN.TRIGGER_DELAY ≤ us) :
    (s.endgameTrigger us).nat ENDGAME_DUE = s.nat ENDGAME_PLAN.TRIGGER ∧
      (s.endgameTrigger us).flag (ENDGAME_ARMED (s.nat ENDGAME_PLAN.TRIGGER - 1)) = false := by
  rw [State.endgameTrigger_eq live selected input idle released delay]
  constructor
  · exact forBelow_induct (P := fun x => x.nat ENDGAME_DUE = s.nat ENDGAME_PLAN.TRIGGER) (s.nat_setN_self _ _)
      fun i _ x hx => (x.nat_setN_other (endgameArmed_ne_due i)).trans hx
  · refine forBelow_establishes (Q := fun _ => True) (P := fun x => x.flag (ENDGAME_ARMED (s.nat ENDGAME_PLAN.TRIGGER - 1)) = false)
      (i := s.nat ENDGAME_PLAN.TRIGGER - 1) (by omega) trivial (fun _ _ _ _ => trivial) (fun x _ => x.flag_setN_self 0)
      fun i _ ne x hx => (x.flag_setN_other ?_).trans hx
    simp only [ENDGAME_ARMED, internal]
    omega

/-! ### The start -/

/-- R167: Endgame starts as a plan starts once the Opening plan has been ended. -/
theorem State.planBegin_ends (idle : s.planRuns 1 = false) (opening : (s.planAbort 0 5).planRuns 0 = false)
    (still : (s.planAbort 0 5).planRuns 1 = false) : s.planBegin 1 trigger = (s.planAbort 0 5).planBegin 1 trigger := by
  unfold State.planBegin
  rw [if_neg (by simp [idle]), if_pos rfl, if_neg (by simp [still]), if_pos rfl, (s.planAbort 0 5).planAbort_idle opening]

/-- What the start of Endgame leaves of what stands below its objects. -/
theorem State.planBegin_below (opening : s.planRuns 0 = false) (idle : s.planRuns 1 = false) (h : k < 0x390800) :
    (s.planBegin 1 trigger).nat k = s.nat k := by
  rw [s.planBegin_idle trigger opening idle idle, State.raisePlan, State.raise_nat, State.nat_setN_other, State.planBegun_nat,
    State.stepsBegin_eq]
  · refine forBelow_induct (P := fun x => x.nat k = s.nat k) (s.nat_count_other ?_) fun i _ x hx =>
      (x.stepBegins_nat i (by omega) ?_).trans hx
    all_goals
      simp only [ofPlan, OPENING_PLAN.RUNS, OPENING_STEP_STATE.STATE]
      omega
  all_goals
    simp only [ofPlan, OPENING_PLAN.PLAN_STATE, OPENING_PLAN.SKIPPED_STEPS, OPENING_PLAN.START_FRAME, PLAN_TRIGGER, internal]
    omega

/-- The objects of Endgame are none that the end of the Opening plan writes. -/
theorem outside_settleSpans_endgame (h : 0x390800 ≤ k) (low : k < 2 ^ 40) : Outside (settleSpans 0) k := by
  refine outside_append.2 ⟨outside_stateSpans.2 fun i hi => ?_, outside_endSpans.2 ⟨?_, ?_, ?_, outside_storeSpans (by omega) low⟩⟩
  all_goals
    simp only [ofPlan, OPENING_STEP_STATE.STATE, OPENING_PLAN.PLAN_STATE, OPENING_PLAN.RESULT, OPENING_PLAN.END_FRAME]
    omega

theorem State.planAbort_above (few : s.nat OPENING_PLAN.STEP_COUNT ≤ 128) (h : 0x390800 ≤ k) (low : k < 2 ^ 40) :
    (s.planAbort 0 5).nat k = s.nat k := by
  unfold State.planAbort
  split
  · exact (State.planEnd_ends few 5).nat_eq (outside_settleSpans_endgame h low)
  · rfl

theorem State.planAbort_endgame (few : s.nat OPENING_PLAN.STEP_COUNT ≤ 128) :
    (s.planAbort 0 5).planRuns 1 = s.planRuns 1 := by
  simp only [State.planRuns, State.planAbort_above few (k := ofPlan 1 OPENING_PLAN.PLAN_STATE) (by decide) (by decide)]

/-- The Opening plan does not run once it has been ended. -/
theorem State.planAbort_opening : (s.planAbort 0 5).planRuns 0 = false := by
  by_cases runs : s.planRuns 0 = true
  · rw [s.planAbort_runs runs, State.planRuns, (s.planEnd_shows (by decide) (by decide)).1]
    rfl
  · rw [s.planAbort_idle (by simpa using runs)]
    simpa using runs

/-- Where a trigger is due, a boundary shows what the start of Endgame shows. -/
theorem State.endgameBoundary_nat (due : s.flag ENDGAME_DUE = true) (low : k < 2 ^ 40) :
    s.endgameBoundary.nat k = (s.planBegin 1 (s.nat ENDGAME_DUE)).nat k := by
  unfold State.endgameBoundary
  rw [if_pos due]
  extract_lets x t
  have started : x.nat k = (s.planBegin 1 (s.nat ENDGAME_DUE)).nat k :=
    State.nat_setN_other _ (by simp only [ENDGAME_DUE, internal]; omega)
  split
  · exact (State.nat_setN_other _ (by simp only [ENDGAME_ARMED, internal]; omega)).trans started
  · exact started

theorem State.endgameBoundary_served (due : s.flag ENDGAME_DUE = true) : s.endgameBoundary.nat ENDGAME_DUE = 0 := by
  unfold State.endgameBoundary
  rw [if_pos due]
  extract_lets x t
  have served : x.nat ENDGAME_DUE = 0 := State.nat_setN_self _ _ _
  split
  · exact (State.nat_setN_other _ (endgameArmed_ne_due _)).trans served
  · exact served

/-- R167: at a boundary a trigger that is due starts Endgame, and ends a running Opening plan. -/
theorem State.endgameBoundary_starts (due : s.flag ENDGAME_DUE = true) (idle : s.planRuns 1 = false)
    (few : s.nat OPENING_PLAN.STEP_COUNT ≤ 128) (few' : s.nat ENDGAME_PLAN.STEP_COUNT ≤ 128) :
    let t := s.endgameBoundary
    t.nat (ofPlan 1 OPENING_PLAN.PLAN_STATE) = 1 ∧ t.nat ENDGAME_DUE = 0 ∧
      t.nat (ofPlan 1 OPENING_PLAN.RUNS) = satTo 0xFFFF (s.nat (ofPlan 1 OPENING_PLAN.RUNS) + 1) ∧
      (s.planRuns 0 = true → t.nat OPENING_PLAN.PLAN_STATE = 3 ∧ t.nat OPENING_PLAN.RESULT = 5) := by
  intro t
  have opening := State.planAbort_opening (s := s)
  have still := (State.planAbort_endgame few).trans idle
  have shows {k : Nat} (low : k < 2 ^ 40) : t.nat k = ((s.planAbort 0 5).planBegin 1 (s.nat ENDGAME_DUE)).nat k := by
    rw [← State.planBegin_ends idle opening still]
    exact State.endgameBoundary_nat due low
  have count : (s.planAbort 0 5).nat (ofPlan 1 OPENING_PLAN.STEP_COUNT) ≤ 128 := by
    rwa [State.planAbort_above few (by decide) (by decide)]
  obtain ⟨running, runs, -, -⟩ := (s.planAbort 0 5).planBegin_begins (p := 1) (by decide) opening still count (s.nat ENDGAME_DUE)
  refine ⟨(shows (by decide)).trans running, State.endgameBoundary_served due, ?_, fun ran => ?_⟩
  · rw [shows (by decide), runs, State.planAbort_above few (by decide) (by decide)]
  · have ended := s.planEnd_shows (p := 0) (result := 5) (by decide) (by decide)
    rw [shows (by decide), shows (by decide), State.planBegin_below opening still (by decide),
      State.planBegin_below opening still (by decide), s.planAbort_runs ran]
    exact ended

end

end Sys2Proof.Machine
end

section
/-!
CLAIM O18. Plans: a step that acts after its DELAY, stalemates, discharge, and the start of Endgame.
-/
open Sys2Proof
namespace Sys2Proof.Machine

theorem requestOf_cast (w : Nat) : ((requestOf w : Nat) : Int) = if SW.action w = 1 then 1 else 0 := by
  unfold requestOf
  split <;> rfl

/-- Settles O18: a step acts by what it begins with and what an evaluation leaves of that; a stalemate by its policy; a step that
waits for discharge by its members in turn; Endgame by its trigger and its start. -/
theorem plans : Obligations.Plans := by
  unfold Obligations.Plans
  constructor
  · intro p i s instant counts few w j
    have own : StepOf p.val (i.val + 1) := ⟨p.isLt, by omega, by omega⟩
    refine ⟨fun delaying passed => ⟨_, rfl, ?_⟩, fun waits timed spent => ⟨_, rfl, ?_⟩, fun acting waits passed => ⟨_, rfl, ?_⟩⟩
    · obtain ⟨acted, lands⟩ := State.stepDelayEnd_acts own few counts instant delaying passed
      refine ⟨fun alone => ?_, acted.since, fun commands n member free on => lands.subset ?_⟩
      · obtain acts | done | ⟨-, dependent⟩ := acted.state
        · exact .inl acts
        · exact .inr done
        · exact absurd (alone.symm.trans dependent) (by decide)
      · rw [← requestOf_cast]
        exact State.stepAct_lands own commands member free on
    · obtain ⟨counted, ⟨short, raised⟩, ends⟩ := State.stalemate_shows own few counts instant waits timed spent
      exact ⟨counted, ⟨short, raised⟩, ends⟩
    · obtain ⟨done, told⟩ := State.dischargeTimeout_shows own few counts instant acting waits passed
      refine ⟨done, fun n hn snap unmet => ?_⟩
      obtain ⟨marked, counted, raised⟩ := told n hn snap unmet
      exact ⟨marked, counted, raised⟩
  · exact fun us s => ⟨fun live selected input idle armed inactive delay =>
        ⟨_, rfl, State.endgameTrigger_takes live selected input idle ⟨armed, inactive⟩ delay⟩,
      fun early => congrArg Host.Outcome.next (State.endgameTrigger_early early), State.endgameBoundary_starts⟩

end Sys2Proof.Machine
end
